-- ==== Sys2Proof/Word.lean ====
section
/-! DEFINITION. Word.lean: the word and byte types, the sparse store that registers and memories use, and the
shape of a register-field description. -/

namespace Sys2Proof

/-- A 32-bit register or memory word (00_scope.md: every register is 32 bits wide). -/
abbrev Word := BitVec 32

/-- A byte of an addressed memory or of a message. -/
abbrev Byte := BitVec 8

/-- The access codes of the register tables (00_scope.md, R9). -/
inductive Acc where
  | rw | ro | wo | w1c | w1s | rc | stk | rwl
deriving DecidableEq, Repr

/-- One field of a register table: byte offset of its register, lowest bit, width, access code, reset value, and the
ends of its range (0 and all ones where the table gives no range). -/
structure Field where
  off : Nat
  lsb : Nat
  width : Nat
  acc : Acc
  reset : Nat
  lo : Nat
  hi : Nat
deriving DecidableEq, Repr

/-- A sparse store of `w`-bit values by key, in one canonical form: keys strictly rising, no zero value listed.
An unlisted key reads 0. -/
abbrev Store (w : Nat) := List (Nat × BitVec w)

/-- The value at a key; an unlisted key reads 0. -/
def Store.get {w : Nat} : Store w → Nat → BitVec w
  | [], _ => 0
  | (k', v) :: r, k => if k' = k then v else Store.get r k

/-- Put a listed value into its place in the rising order of keys. -/
def Store.insert {w : Nat} : Store w → Nat → BitVec w → Store w
  | [], k, v => [(k, v)]
  | (k', v') :: r, k, v => if k < k' then (k, v) :: (k', v') :: r else (k', v') :: Store.insert r k v

/-- Drop every entry of a key. -/
def Store.erase {w : Nat} : Store w → Nat → Store w
  | [], _ => []
  | (k', v') :: r, k => if k' = k then Store.erase r k else (k', v') :: Store.erase r k

/-- Write a value at a key, keeping the canonical form. -/
def Store.set {w : Nat} (m : Store w) (k : Nat) (v : BitVec w) : Store w :=
  if v = 0 then Store.erase m k else Store.insert (Store.erase m k) k v

/-- The canonical form: every key of the tail lies above the head's key, and no value is 0. -/
def Store.wf {w : Nat} : Store w → Bool
  | [] => true
  | (k, v) :: r => v != 0 && r.all (fun e => k < e.1) && Store.wf r

/-- A byte-addressed memory: a canonical list of `Host.Cell`. -/
abbrev Mem := Store 8

/-- A bank of 32-bit register words by byte offset. -/
abbrev Regs := Store 32

end Sys2Proof
end

