-- ==== Sys2Proof/Syntax.lean ====
section
/-! DEFINITION. Syntax.lean: the commands that act on the block, and the names of those who send them. -/

namespace Sys2Proof

/-- The requesters of the Wing buses and the Hall register bus (R24). -/
inductive Req where
  | stair | hall
  | hl (n : Fin 2)
  | tw (n : Fin 4)
  | dbg
deriving DecidableEq, Repr

/-- The agents of a register access (R17): a Room core, in its own Room, or a requester over a bus. -/
inductive Agent where
  | core (p : Fin 48)
  | bus (r : Req)
deriving DecidableEq, Repr

/-- A cause of a Landing fault (R39 to R41). -/
inductive SlotCause where
  | breaker | short | inrushTo | seatLift | fetShort | pgLoss | thermTrip | senseOpen | watchdog | parity
deriving DecidableEq, Repr

/-- What the Wing watchdog found stopped (R591). -/
inductive WingPart where
  | bus | calibration
  | landing (k : Fin 3)
deriving DecidableEq, Repr

/-- Where a fault lies: in a Room or in a Landing (R589, R598). -/
inductive Site where
  | room (p : Fin 48)
  | land (b : Fin 6)
deriving DecidableEq, Repr

/-- A sense pin (R595): Pn_VBUS, Pn_ISNP or Pn_ISNN of a port, Sn_SNSP or Sn_SNSN of a slot. -/
inductive SensePin where
  | room (p : Fin 48) (k : Fin 3)
  | land (b : Fin 6) (k : Fin 2)
deriving DecidableEq, Repr

/-- One conversion of a slot's measurement path (R309) in the codes of HS_MEAS and HS_IMEAS, and whether Sn_GATE − Sn_VOUT
is at least 9.0 V (R312). -/
structure SlotMeas where
  vslotin : BitVec 12
  vout : BitVec 12
  cur : BitVec 12
  full : Bool
deriving DecidableEq, Repr

/-- One of the 49 cores (11_sequencer_isa.md): the core of a Room or the Hall core. -/
inductive CoreId where
  | room (p : Fin 48)
  | hall
deriving DecidableEq, Repr

/-- A block of eight timers: a Room's or a Landing's (R418). -/
inductive TmrBlock where
  | room (p : Fin 48)
  | land (b : Fin 6)
deriving DecidableEq, Repr

/-- A valid copy of a Stair record (R493, R496) without its TYPE, which the command names, and its CRC: TARGET, SEQ, TB_LO
and the 52 bytes of PAYLOAD. -/
structure StairRec where
  target : Nat
  seq : BitVec 16
  tbLo : Word
  payload : List Byte
deriving DecidableEq, Repr

/-- The 10 µs means of the Pantry's conversions (R361) in the codes of PAN_MEAS and PAN_IMEAS, and whether
IDEAL_GATE − IDEAL_SRC is at least 8.0 V (R362). -/
structure PanMeas where
  vbat : BitVec 12
  sys : BitVec 12
  vbusIn : BitVec 12
  ib : BitVec 12
  full : Bool
deriving DecidableEq, Repr

/-- What a received frame says besides its TYPE (R435, R542): the reserved byte, SEQ and PAYLOAD. Its LEN is the payload's
length and its CRC is correct. -/
structure Frame where
  res : Byte
  seq : BitVec 16
  payload : List Byte
deriving DecidableEq, Repr

/-- What serial flash discovery finds (R567, CEL_ID). -/
structure Sfdp where
  mfr : BitVec 8
  device : BitVec 16
  density : BitVec 2
deriving DecidableEq, Repr

/-- What the Cellar answers at a boot: the discovery, none where it fails (R567); the images whose header or body is read
with an error (R533, R534), as bits Plan 0, Plan 1, firmware 0, firmware 1; whether the write of R532 succeeds. -/
structure BootFlash where
  sfdp : Option Sfdp
  badHdr : BitVec 4
  badBody : BitVec 4
  recOk : Bool
deriving DecidableEq, Repr

/-- The commands of the block: one constructor per row of spec/opcode_table.json; each docstring cites the rule that
the row names. -/
inductive Instr where
  /-- REGISTER_WRITE (R17). A write to a register with no row of its own takes effect under agent order, access codes, clamping and RANGES. -/
  | registerWrite (a : Agent) (addr size : Nat) (v : Word)
  /-- FAULT_READ (R62). A 32-bit Wing-bus read of FAULT clears the bits it returns. -/
  | faultRead (p : Fin 48)
  /-- PD_ERRCNT_READ (R172). A Wing-bus read of PD_ERRCNT clears the counters it returns. -/
  | pdErrcntRead (p : Fin 48)
  /-- THR_CNT_READ (R293). A Wing-bus read of THR_CNT clears the counts it returns. -/
  | thrCntRead (p : Fin 48)
  /-- HS_FAULT_READ (R329). A Wing-bus read of HS_FAULT clears its bits without changing the slot state. -/
  | hsFaultRead (b : Fin 6)
  /-- LAND_FAULT_READ (R591). A Wing-bus read of LAND_FAULT clears its bits. -/
  | landFaultRead (b : Fin 6)
  /-- WING_FAULT_READ (R591). A read of WING_FAULT or WING_CAL clears its bits. -/
  | wingFaultRead (w : Fin 2) (cal : Bool)
  /-- PANTRY_FAULT_READ (R378). A Hall-bus read of PANTRY_FAULT clears its bits without changing the charger state. -/
  | pantryFaultRead
  /-- RESET_CAUSE_READ (R73). A read of RESET_CAUSE clears the bits it returns. -/
  | resetCauseRead
  /-- WAKE_CAUSE_READ (R90). A read of WAKE_CAUSE clears the bits it returns. -/
  | wakeCauseRead
  /-- PWR_STAT_READ (R85). A read of PWR_STAT clears REFUSE and ABORTED. -/
  | pwrStatRead
  /-- HALL_MODE_READ (R607). A read of HALL_MODE clears REFUSED and ends the PENDING-changed condition of Hall line 3. -/
  | hallModeRead
  /-- HL_ERR_READ (R436). A read of HL_ERR or PORCH_ERR clears the counts it returns. -/
  | hlErrRead (n : Fin 3)
  /-- TW_ERR_READ (R471). A read of TW_ERR clears the counts it returns. -/
  | twErrRead (n : Fin 4)
  /-- STAIR_ERR_READ (R495). A read of STAIR_ERR clears the counts it returns. -/
  | stairErrRead
  /-- ATTIC_RESULT_READ (R523). A read of ATTIC_RESULT clears DONE. -/
  | atticResultRead
  /-- JNL_RESULT_READ (R574). A read of JNL_RESULT clears DONE. -/
  | jnlResultRead
  /-- TB_CTRL_READ (R412). A read of TB_CTRL clears LOADED and LOAD_REFUSED. -/
  | tbCtrlRead
  /-- HB_STAT_READ (R592). A read of HB_STAT clears MISS. -/
  | hbStatRead
  /-- SUBWORD_READ (R20). A byte or halfword read returns the addressed bytes and clears nothing, even in an RC field. -/
  | subwordRead (a : Agent) (addr size : Nat)
  /-- ENABLE_SET (R81). A write of 1 to CTRL.ENABLE lets the port operate and starts attach from its start state. -/
  | enableSet (p : Fin 48)
  /-- ENABLE_CLEAR (R163). A write of 0 to CTRL.ENABLE enters DISABLED and starts removing the port. -/
  | enableClear (p : Fin 48)
  /-- PORT_REMOVAL_END (R163). When the removal ends the port switch opens, the grant is returned and the port balls go to high impedance. -/
  | portRemovalEnd (p : Fin 48)
  /-- FORCE_SAFE (R37). A write of CTRL.FORCE_SAFE holds the port in, or releases it from, a safe state caused by this bit. -/
  | forceSafe (p : Fin 48) (core : Bool) (on : Bool)
  /-- RESTART_CORE (R387). A write of 1 to CTRL.RESTART_CORE reloads and restarts the Room core. -/
  | restartCore (p : Fin 48)
  /-- RECOVER (R43). A write of CTRL.RECOVER evaluates the fault conditions and ends a fault-induced safe state if none remains. -/
  | recover (p : Fin 48)
  /-- GRANT_ASK (R225). A write of ASK_W asks, replaces or cancels a reservation at the Landing. -/
  | grantAsk (p : Fin 48) (w : Nat)
  /-- GRANT_ANSWER (R225). The Landing answers an ask within 2 us, setting RESV_W and STATE ANSWERED. -/
  | grantAnswer (p : Fin 48)
  /-- RESV_LAPSE (R225). A reservation lapses after 10 ms, STATE reads LAPSED and RESV_LAPSE is set. -/
  | resvLapse (p : Fin 48)
  /-- BUDGET_LIMIT_WRITE (R355). A write of LIMIT_W or a BUD_CAP field changes a node limit or cap, which the node then enforces. -/
  | budgetLimitWrite (r : Req) (addr : Nat) (v : Word)
  /-- CORE_WDT (R31). A Room core that misses its watchdog deadline is restarted, and a third restart in 10 s sets CORE_FAIL. -/
  | coreWdt (p : Fin 48)
  /-- CORE_KICK (R591). A Room core write of CORE_KICK services the watchdog with 0xA55A or counts as a missed deadline otherwise. -/
  | coreKick (p : Fin 48) (key : Nat)
  /-- ADC_CALIBRATION (R34). The Wing calibration engine finishes calibrating one ADC and accepts or rejects the result. -/
  | adcCalibration (p : Fin 48) (adc : Fin 2) (gain offset : Int)
  /-- LANDING_FAULT (R41). A Landing fault opens the slot, holds it, starts the class-ordered shed, or hands up to the Wing. -/
  | landingFault (b : Fin 6) (cause : SlotCause)
  /-- LANDING_SHED_STEP (R41). Each 200 us step of a Landing shed places the next class in safe state and finally switches Sn_GATE off. -/
  | landingShedStep (b : Fin 6)
  /-- LANDING_SELF_CHECK (R591). The Landing self-check expires after 8 us, setting LAND_FAULT.WDT. -/
  | landingSelfCheck (b : Fin 6)
  /-- WING_WATCHDOG (R591). The Wing watchdog expires after 20 us and the Wing places its ports in safe state. -/
  | wingWatchdog (w : Fin 2) (part : WingPart)
  /-- WING_SAFE_DELAY (R594). 5 us after a pair-mode Wing withdrawal the Wing's Rooms enter safe state and its slots open. -/
  | wingSafeDelay (w : Fin 2)
  /-- WING_RESTART (R42). A write of WING_CTRL.RESTART restarts a Wing, rerunning calibration and slot starts. -/
  | wingRestart (w : Fin 2)
  /-- PARITY (R589). A scrub or access finds a parity error, setting PARITY and acting per single-chip or pair mode. -/
  | parity (site : Site)
  /-- HALL_MODE_WRITE (R600). An accepted write of HALL_MODE.MODE adds 1 to EPOCH and sets PENDING. -/
  | hallModeWrite (r : Req) (mode : Nat)
  /-- MODE_APPLY (R601). A Room at a safe point applies the new mode, updates STATUS and acts per the table Modes and classes. -/
  | modeApply (p : Fin 48)
  /-- FORCED_MODE (R603). 50 ms after an epoch each Landing forces laggard Rooms to apply it with their fallback action. -/
  | forcedMode (b : Fin 6)
  /-- FIRE_N (R605). FIRE_N low for FILT makes the hardware write FIRE into HALL_MODE. -/
  | fireN
  /-- FIRE_N_RELEASE (R605). FIRE_N high for FILT clears FIRE_IN and again permits a bus write of another mode. -/
  | fireNRelease
  /-- CLOCK_FAILURE (R69). The clock monitor declares a clock failure and the outputs go to high impedance or safe state. -/
  | clockFailure (xtal : Bool)
  /-- CLK_FAIL (R69). 10 us after a clock failure a chip reset with cause CLK_FAIL starts. -/
  | clkFail
  /-- SLOW_XTAL_SELECT (R70). After 32,768 good edges the always-on domain switches to the slow crystal. -/
  | slowXtalSelect
  /-- SLOW_SWITCH (R71). A silent slow crystal makes the domain switch back to the RC oscillator and set SLOW_SWITCH. -/
  | slowSwitch
  /-- RC_CALIBRATION (R72). Once a second the RC oscillator is calibrated against tick and RC_INC is updated. -/
  | rcCalibration (fRc : Nat)
  /-- AON_POR (R73). VDD_AON below 1.60 V causes an always-on reset. -/
  | aonPor
  /-- BOR_CORE (R73). VDD_CORE below its brown-out level for 2 us causes a chip reset. -/
  | borCore
  /-- BOR_IO (R73). VDD_IO below its brown-out level for 2 us causes a chip reset. -/
  | borIo
  /-- BOR_A (R73). VDDA below its brown-out level for 2 us causes a chip reset. -/
  | borA
  /-- PIN (R74). A low pulse on RESET_N causes a chip reset with cause PIN. -/
  | pin (lowNs : Nat) (taken : Bool)
  /-- TEST_EN (R640). TEST_EN high holds the chip in reset with cause PIN. -/
  | testEn (level : Bool)
  /-- RESET_KEY (R73). A write of 0xC3 to PWR_CTRL.RESET_KEY starts a chip reset with cause SOFT. -/
  | resetKey (key : Nat)
  /-- CHIP_RESET_END (R77). The chip reset ends 1 ms after all reset conditions clear, PAIR_ID is sampled and the time base resumes. -/
  | chipResetEnd (pairId core io ana resetN : Bool) (us : Nat)
  /-- XTAL_OK (R79). The 24 MHz crystal starts and XTAL_OK is set. -/
  | xtalOk
  /-- PLL_LOCK (R79). The PLL locks and the boot ROM reads the Attic, boot record and images and reaches boot complete or recovery. -/
  | pllLock (b : BootFlash)
  /-- REQ_RUN (R84). A write of REQ = RUN returns the chip from DOZE to RUN. -/
  | reqRun
  /-- REQ_DOZE (R84). A write of REQ = DOZE moves the chip from RUN to DOZE. -/
  | reqDoze
  /-- REQ_SLEEP (R85). A write of REQ = SLEEP is refused or starts the entry sequence. -/
  | reqSleep (act : BitVec 10)
  /-- REQ_STANDBY (R85). A write of REQ = STANDBY is refused or starts the entry sequence. -/
  | reqStandby (act : BitVec 10)
  /-- ENTRY_SEQUENCE_STEP (R86). Once the Journal group has completed the entry sequence switches slots off, stops links and stops the clocks. -/
  | entrySequenceStep
  /-- WAKE_N (R90). WAKE_N low for two slow periods wakes the chip from SLEEP or STANDBY. -/
  | wakeN
  /-- CC_SAMPLING_WINDOW (R89). Every 16 ms in SLEEP enabled ports apply their termination for 160 us and an attach level wakes the chip. -/
  | ccSamplingWindow (lv : List (Fin 48 × Fin 8 × Fin 8))
  /-- KEY_WAKE (R90). A KEY_IN change or 150 us without a KEY_HB_IN edge wakes the chip. -/
  | keyWake
  /-- ALARM (R90). The slow counter reaching WAKE_ALARM wakes the chip. -/
  | alarm
  /-- FIRE_WAKE (R90). FIRE_N low for two slow periods wakes the chip from SLEEP. -/
  | fireWake
  /-- HL_WAKE (R91). A falling edge on HLn_RXD wakes the chip from SLEEP and its frame is discarded. -/
  | hlWake (n : Fin 2)
  /-- PORCH_WAKE (R91). A falling edge on PORCH_RXD wakes the chip from SLEEP and its frame is discarded. -/
  | porchWake
  /-- SLEEP_WAKE (R92). After PLL lock on a wake from SLEEP the time base is made up, tick is released and slots and ports restart. -/
  | sleepWake
  /-- STANDBY_EXIT (R73). A STANDBY wake source starts a chip reset with cause STANDBY_EXIT. -/
  | standbyExit
  /-- PLAN_RD_DATA_READ (R132). A read of PLAN_RD_DATA returns a Plan store word and adds 4 to ADDR. -/
  | planRdDataRead
  /-- FW_RD_DATA_READ (R537). A read of FW_RD_DATA returns a firmware store word and adds 4 to ADDR. -/
  | fwRdDataRead
  /-- CEL_RD_DATA_READ (R583). A read of CEL_RD_DATA returns a Cellar word and adds 4 to ADDR. -/
  | celRdDataRead
  /-- CC_LEVEL_CHANGE (R137). A change of a decoded CC level moves the attach state machine and restarts the debounce timers. -/
  | ccLevelChange (p : Fin 48) (l1 l2 : Fin 8)
  /-- TCCDEBOUNCE (R137). tCCDebounce expires and the attach state takes its debounced exit. -/
  | tccdebounce (p : Fin 48)
  /-- TPDDEBOUNCE (R153). tPDDebounce expires and the port detaches or returns to an unattached state. -/
  | tpddebounce (p : Fin 48)
  /-- TTRYCCDEBOUNCE (R137). tTryCCDebounce expires and a try state takes its exit. -/
  | ttryccdebounce (p : Fin 48)
  /-- TDRPTRY (R137). tDRPTry expires and a try or try-wait state takes its exit. -/
  | tdrptry (p : Fin 48)
  /-- TERRORRECOVERY (R137). tErrorRecovery expires and the port returns to its start state. -/
  | terrorrecovery (p : Fin 48)
  /-- DRP_TOGGLE (R139). A dual-role port toggles between UNATTACHED_SRC and UNATTACHED_SNK after its share of tDRP. -/
  | drpToggle (p : Fin 48)
  /-- ATTACH_GRANT (R141). The Landing answers the 15 W attach ask and the port enters ATTACHED_SRC or waits with BUDGET_WAIT. -/
  | attachGrant (p : Fin 48)
  /-- BUDGET_WAIT (R141). Every 100 ms a port waiting with BUDGET_WAIT asks again for its attach grant. -/
  | budgetWait (p : Fin 48)
  /-- RP_LIMIT_LOWER (R143). 60 ms after Rp falls to 1.5 A the current limit is lowered. -/
  | rpLimitLower (p : Fin 48)
  /-- VBUS_LOST (R154). VBUS below 3.67 V for 1 ms detaches a sink. -/
  | vbusLost (p : Fin 48)
  /-- VCONN_EN_WRITE (R148). A write of VCONN_CTRL.EN is accepted only in an attached state and clears VCONN_LOCK. -/
  | vconnEnWrite (p : Fin 48) (en : Bool)
  /-- VCONN_OC (R149). VCONN overcurrent or reverse voltage opens the VCONN switch and sets VCONN_LOCK. -/
  | vconnOc (p : Fin 48) (overcurrent : Bool)
  /-- CC_OV (R159). A CC line above the overvoltage threshold for 1 us is isolated and the port enters safe state. -/
  | ccOv (p : Fin 48) (cc2 above : Bool)
  /-- CC_ISOLATION_RELEASE (R160). After 10 ms below the overvoltage threshold an isolated CC line is released. -/
  | ccIsolationRelease (p : Fin 48) (cc2 : Bool)
  /-- ERROR_RECOVERY (R163). A write of CC_CMD.ERROR_RECOVERY moves the attach state machine to ERROR_RECOVERY. -/
  | errorRecovery (p : Fin 48)
  /-- MESSAGE_RECEIVED (R172). A PD packet is received whole and checked, and a GoodCRC is scheduled or the packet is discarded. -/
  | messageReceived (p : Fin 48) (os syms : List (Fin 32))
  /-- PACKET_TRUNCATED (R173). An invalid symbol, 8 us without transition or an overlong packet truncates the packet being received. -/
  | packetTruncated (p : Fin 48)
  /-- GOODCRC (R176). The engine starts a GoodCRC 25-40 us after the end of a received message. -/
  | goodcrc (p : Fin 48) (tr : Nat)
  /-- MESSAGE_DELIVERED (R177). At the end of the GoodCRC the stored MessageID is updated and the message is queued, answered or acted on. -/
  | messageDelivered (p : Fin 48)
  /-- GOODCRC_RECEIVED (R178). A matching GoodCRC ends a transmission as SENT and advances the transmit counter. -/
  | goodcrcReceived (p : Fin 48) (sop : Fin 3) (id : Fin 8)
  /-- TRANSMIT_START (R174). The engine starts a transmission once the line is idle and tInterFrameGap has passed. -/
  | transmitStart (p : Fin 48) (tr : Nat)
  /-- TRANSMIT_END (R179). A transmission ends at EOP and tReceive starts. -/
  | transmitEnd (p : Fin 48)
  /-- TRECEIVE (R179). tReceive expires without a matching GoodCRC and a retransmission is scheduled or FAILED is set. -/
  | treceive (p : Fin 48)
  /-- RETRANSMIT (R179). A retransmission starts 25-75 us after tReceive. -/
  | retransmit (p : Fin 48) (tr : Nat)
  /-- TSENDERRESPONSE (R180). No Accept within 27 ms after a Soft_Reset's GoodCRC leads to a Hard Reset. -/
  | tsenderresponse (p : Fin 48)
  /-- TSINKTX (R185). tSinkTx expires and a message in SINKTX_WAIT is released to transmit. -/
  | tsinktx (p : Fin 48)
  /-- TAMSIDLE (R185). 1.2 s without SOP traffic returns Rp to SinkTxOk. -/
  | tamsidle (p : Fin 48)
  /-- AMS_END (R185). The AMS_END command returns Rp to SinkTxOk. -/
  | amsEnd (p : Fin 48)
  /-- COMMIT (R403). STAGE with imm 0 publishes every stage copy at once and the engine takes the committed message. -/
  | commit (p : Fin 48) (rd ra : Fin 16)
  /-- DISCARD (R404). STAGE with imm 1 copies the published values back into the stage copies. -/
  | discard (p : Fin 48) (rd ra : Fin 16)
  /-- TX_RELEASE (R187). The TX_RELEASE command returns a HELD message to PENDING. -/
  | txRelease (p : Fin 48)
  /-- TX_WITHDRAW (R187). The TX_WITHDRAW command ends a HELD message as WITHDRAWN. -/
  | txWithdraw (p : Fin 48)
  /-- RX_POP (R193). The RX_POP command removes the oldest receive queue entry. -/
  | rxPop (p : Fin 48)
  /-- VDM_POP (R207). The VDM_POP command removes the oldest VDM inbox entry. -/
  | vdmPop (p : Fin 48)
  /-- HARD_RESET (R210). The HARD_RESET command asks the engine to send a Hard Reset. -/
  | hardReset (p : Fin 48)
  /-- CABLE_RESET (R214). The CABLE_RESET command sends a Cable Reset while VCONN is on. -/
  | cableReset (p : Fin 48)
  /-- CABLE_DISC (R209). The CABLE_DISC command starts cable discovery while VCONN is on. -/
  | cableDisc (p : Fin 48)
  /-- HVDM_SEND (R208). The HVDM_SEND command asks the engine to send the host VDM window. -/
  | hvdmSend (p : Fin 48)
  /-- CHUNK_REQUEST (R196). The engine sends a Chunk Request 25-100 us after the GoodCRC of a received chunk. -/
  | chunkRequest (p : Fin 48) (tr : Nat)
  /-- TCHUNKSENDERREQUEST (R195). No Chunk Request within 27 ms ends an outgoing chunked message as CHUNK_ERR. -/
  | tchunksenderrequest (p : Fin 48)
  /-- TCHUNKSENDERRESPONSE (R196). No next chunk within 27 ms abandons a partial received message with CHUNK_ERR. -/
  | tchunksenderresponse (p : Fin 48)
  /-- AUTOMATIC_REPLY (R201). An engine reply starts within 200 us after the GoodCRC of the message it answers. -/
  | automaticReply (p : Fin 48) (tr : Nat)
  /-- BIST_CARRIER_END (R202). The BIST carrier ends after 45 ms. -/
  | bistCarrierEnd (p : Fin 48)
  /-- EPR_KEEPALIVE (R204). 375 ms after the last SOP message a sink in EPR sends EPR_KeepAlive. -/
  | eprKeepalive (p : Fin 48)
  /-- KA_MISS (R204). No EPR_KeepAlive_Ack within 27 ms sets KA_MISS. -/
  | kaMiss (p : Fin 48)
  /-- EPR_SOURCE_TIMEOUT (R205). 875 ms without a received SOP message in EPR makes a source send a Hard Reset. -/
  | eprSourceTimeout (p : Fin 48)
  /-- CABLE_DISCOVERY_START (R209). 50 ms after VCONN comes on, automatic cable discovery starts. -/
  | cableDiscoveryStart (p : Fin 48)
  /-- CABLE_RESPONSE_TIMEOUT (R209). No response to Discover Identity within 27 ms ends the attempt. -/
  | cableResponseTimeout (p : Fin 48)
  /-- CABLE_DISCOVERY_ATTEMPT (R209). 45 ms after the previous attempt the next discovery attempt starts, or CABLE_STATE reads NONE. -/
  | cableDiscoveryAttempt (p : Fin 48)
  /-- HARD_RESET_TRANSMIT (R211). The engine sends a Hard Reset, clears its protocol state and starts the Hard Reset power sequence. -/
  | hardResetTransmit (p : Fin 48)
  /-- HARD_RESET_RECEIVED (R211). A received Hard Reset clears the protocol state and starts the Hard Reset power sequence. -/
  | hardResetReceived (p : Fin 48)
  /-- CABLE_RESET_RECEIVED (R214). A received Cable Reset has no effect on the engine. -/
  | cableResetReceived (p : Fin 48)
  /-- TSRC (R235). TSRC after the Accept's GoodCRC, VSET takes NEG_V and the reference ramps. -/
  | tsrc (p : Fin 48)
  /-- REFERENCE_REACHED (R235). The reference reaches VSET and RAMPING clears. -/
  | referenceReached (p : Fin 48)
  /-- SETTLED (R236). The settle criterion holds, SETTLED is set and a committed PS_RDY proceeds. -/
  | settled (p : Fin 48)
  /-- SETTLE_FAIL (R237). No settle within 50 ms of the reference reaching VSET makes the engine send a Hard Reset. -/
  | settleFail (p : Fin 48)
  /-- VSET_WRITE (R239). A write of VSET is clamped and retargets the reference. -/
  | vsetWrite (p : Fin 48) (mv : Nat)
  /-- VLIM_RECOMPUTE (R221). Every 1 ms VLIM is recomputed, and VLIM_DROP starts the give-up timer when it falls below CON_V. -/
  | vlimRecompute (p : Fin 48) (vin10 : Nat)
  /-- GIVEUP (R243). The give-up timer ends and the device enforces the budget limit or sends a Hard Reset for VLIM. -/
  | giveup (p : Fin 48)
  /-- HARD_RESET_VCONN_OFF (R249). 30 ms after a Hard Reset a source switches VCONN off and ramps VBUS to 0 V. -/
  | hardResetVconnOff (p : Fin 48)
  /-- HARD_RESET_VBUS_SAFE0 (R249). VBUS reaches 0.80 V in the Hard Reset sequence and tSrcRecover starts. -/
  | hardResetVbusSafe0 (p : Fin 48)
  /-- TSRCRECOVER (R249). 750 ms after VBUS reached vSafe0V the source restores VCONN and ramps VBUS to 5 V. -/
  | tsrcrecover (p : Fin 48)
  /-- HARD_RESET_END (R249). VBUS in band or present again, or 2 s, ends the Hard Reset sequence and clears HR_ACTIVE. -/
  | hardResetEnd (p : Fin 48)
  /-- PR_SWAP_VBUS_SAFE0 (R251). VBUS reaches 0.80 V in a source-to-sink swap and the termination and attach state change. -/
  | prSwapVbusSafe0 (p : Fin 48)
  /-- PS_RDY_TIMEOUT (R251). No partner PS_RDY within the swap limit ends the swap in ERROR_RECOVERY. -/
  | psRdyTimeout (p : Fin 48)
  /-- TRIG (R255). A write of FRS_CTRL.TRIG triggers a Fast Role Swap on a ready source. -/
  | trig (p : Fin 48)
  /-- FRS_INPUT_TRIGGER (R255). The feedforward input below 34 V in two periods triggers a Fast Role Swap. -/
  | frsInputTrigger (p : Fin 48)
  /-- FRS_SIGNAL_END (R255). About 90 us after the trigger the BMC line is released and Rp restored. -/
  | frsSignalEnd (p : Fin 48)
  /-- FRS_TIMEOUT (R255). No FR_Swap within 20 ms of the trigger leads to ERROR_RECOVERY. -/
  | frsTimeout (p : Fin 48)
  /-- FRS_DETECT (R256). A sink detects the BMC line held low for 45 us and arms to take over VBUS. -/
  | frsDetect (p : Fin 48)
  /-- FRS_VBUS_DROP (R256). VBUS below 4.75 V makes the armed port source VBUS within 20 us. -/
  | frsVbusDrop (p : Fin 48)
  /-- VCONN_SWAP_TIMEOUT (R258). No PS_RDY within 150 ms of a VCONN_Swap Accept makes the engine send a Hard Reset. -/
  | vconnSwapTimeout (p : Fin 48)
  /-- PERIOD_START (R269). At each switching period start the new duty, direction, threshold levels and AUTOCLR clears take effect. -/
  | periodStart (p : Fin 48)
  /-- LOOP_UPDATE (R278). The loop engine computes a new output from the loop samples of a period. -/
  | loopUpdate (p : Fin 48) (vbus cur vnode vin : BitVec 12) (vs is : List (BitVec 12))
  /-- SOFT_START_DONE (R277). The reference reaches 5,000 mV and the loop enters REGULATE. -/
  | softStartDone (p : Fin 48)
  /-- SOFT_STOP_DONE (R282). The reference and VBUS reach zero and the loop enters OFF. -/
  | softStopDone (p : Fin 48)
  /-- COEF_APPLY (R279). A write of LOOP_CFG.COEF_APPLY transfers the coefficient shadow at the next period start. -/
  | coefApply (p : Fin 48)
  /-- THRESHOLD_TRIP (R291). An armed comparator trips asynchronously and sets trip holds on the routed PWM generators and, for I_SC, pulls gates down. -/
  | thresholdTrip (p : Fin 48) (k : Fin 4) (neg : Bool) (cycles : Nat)
  /-- THRESHOLD_LATCH (R293). The majority filter output rises, setting the Threshold latch, counting it and, for I_SC, setting SC. -/
  | thresholdLatch (p : Fin 48) (k : Fin 4) (neg : Bool)
  /-- OV_T (R295). The VBUS_OV persistence counter reaches OV_T, setting OV and entering safe state. -/
  | ovT (p : Fin 48)
  /-- UV_T (R295). The VBUS_UV persistence counter reaches UV_T, setting UV and entering safe state. -/
  | uvT (p : Fin 48)
  /-- REG_LOSS (R285). Loss of regulation for REGLOSS_T sets REG_LOSS and enters safe state. -/
  | regLoss (p : Fin 48)
  /-- EFUSE (R301). The eFuse fault timer reaches TFLT, setting EFUSE and entering safe state. -/
  | efuse (p : Fin 48)
  /-- FOLDBACK_TIMEOUT (R299). A foldback close not cold within TFB sets EFUSE and enters safe state. -/
  | foldbackTimeout (p : Fin 48)
  /-- COLD_CLOSE (R298). Vds falling to 1 V turns a foldback close into a cold close. -/
  | coldClose (p : Fin 48)
  /-- RETRY_ATTEMPT (R303). An attempt due after k periods clears holds, recloses the switch and restarts the loop. -/
  | retryAttempt (p : Fin 48)
  /-- ATTEMPT_WINDOW_END (R303). The ATT_T window ends without a fault and the port leaves safe state. -/
  | attemptWindowEnd (p : Fin 48)
  /-- RETRY_COUNT_RESET (R304). After 60 s out of safe state COUNT returns to 0. -/
  | retryCountReset (p : Fin 48)
  /-- FET_SHORT (R305). VBUS held up for 20 ms with the switch off sets FET_SHORT and enters safe state. -/
  | fetShort (p : Fin 48)
  /-- SEAT_CHANGE (R319). A seating ball changes level and the slot moves between UNSEATED and SEATING. -/
  | seatChange (b : Fin 6) (seat1 seat2 : Bool)
  /-- TSEAT (R316). TSEAT of seating with VSLOTIN at least 34 V moves the slot to INRUSH. -/
  | tseat (b : Fin 6) (m : SlotMeas)
  /-- SEAT_LIFT (R321). A seating ball lifted for 5 samples while powered starts the fast pull-down and sets SEAT_LIFT. -/
  | seatLift (b : Fin 6) (seat1 seat2 : Bool)
  /-- GATE_UP (R316). Vds at or below 1 V in INRUSH moves the slot to GATE_UP. -/
  | gateUp (b : Fin 6) (m : SlotMeas)
  /-- SLOT_ON (R316). GATE_FULL and VOUT above 95 % for 100 us turn the slot ON and release its ports from slot hold. -/
  | slotOn (b : Fin 6) (m : SlotMeas)
  /-- INRUSH_TO (R322). INRUSH lasting TINR sets INRUSH_TO and opens the slot. -/
  | inrushTo (b : Fin 6)
  /-- SHORT (R315). An S_SC trip starts the fast pull-down and latches SHORT. -/
  | short (b : Fin 6) (neg : Bool)
  /-- BREAKER (R314). The slot fault timer reaches TFLT and BREAKER opens the slot. -/
  | breaker (b : Fin 6)
  /-- PG_LOSS (R324). VOUT below 90 % for 100 us without a limit sets PG_LOSS. -/
  | pgLoss (b : Fin 6) (m : SlotMeas)
  /-- SLOT_FET_SHORT (R328). VOUT held above 2 V with the gate off sets FET_SHORT in HS_FAULT and latches the slot. -/
  | slotFetShort (b : Fin 6) (m : SlotMeas)
  /-- SLOT_ATTEMPT (R330). A slot retry attempt due after k periods enters SEATING with TSEAT met. -/
  | slotAttempt (b : Fin 6) (m : SlotMeas)
  /-- SLOT_ATTEMPT_OK (R331). 100 ms in ON without a retry fault ends the slot attempt as a success. -/
  | slotAttemptOk (b : Fin 6)
  /-- SLOT_COUNT_RESET (R331). 60 s in ON returns the slot COUNT to 0. -/
  | slotCountReset (b : Fin 6)
  /-- HS_EN_SET (R317). A write of 1 to HS_CTRL.EN permits the slot start. -/
  | hsEnSet (b : Fin 6)
  /-- HS_EN_CLEAR (R318). A write of 0 to HS_CTRL.EN puts the slot in OFF with a normal pull-down. -/
  | hsEnClear (b : Fin 6)
  /-- HS_RECOVER (R332). A write of HS_CTRL.RECOVER in LATCHED re-evaluates FET_SHORT and releases the slot to UNSEATED. -/
  | hsRecover (b : Fin 6) (m : SlotMeas)
  /-- HS_LIMIT_WRITE (R310). A write of HS_LIMIT.ILIM recomputes the S_CL and S_SC fractions. -/
  | hsLimitWrite (b : Fin 6) (v : Word)
  /-- HEARTH_UPDATE (R340). Every 10 us the Hearth updates every model and changes its thermal state. -/
  | hearthUpdate (die : Nat)
  /-- GRACE (R343). The grace timer ends and a model at TWARN enters CLAMP. -/
  | grace (m : Fin 57)
  /-- ITH_RECOMPUTE (R344). Every 100 ms from WARN to CLAMP exit ITH is recomputed. -/
  | ithRecompute (m : Fin 57)
  /-- CLAMP_RELEASE (R345). ITH above every other limit by 10 % for 1 s releases CLAMP. -/
  | clampRelease (m : Fin 57)
  /-- DIE_CAP_RELEASE (R349). Die tj below TWARN - HYST for 1 s removes the thermal caps. -/
  | dieCapRelease
  /-- TAMB_CONVERSION (R339). Every 1 ms each TAMB input is converted and validity and fallback are updated. -/
  | tambConversion (mv0 mv1 : Nat)
  /-- POWER_BALANCE_CHECK (R357). Every 10 ms each Landing compares slot and expected power and sets BAL_MISMATCH. -/
  | powerBalanceCheck (b : Fin 6) (slot : Int) (ports : List Int)
  /-- QID_ON (R363). VBAT above SYS by FWD_MV in two conversions switches QID on. -/
  | qidOn (m : PanMeas)
  /-- ID_REV_TRIP (R364). An ID_REV trip pulls IDEAL_GATE down at once. -/
  | idRevTrip (m : PanMeas)
  /-- BATTERY_OPERATION_BEGIN (R365). QID on or VBUS_IN below 52 V begins battery operation. -/
  | batteryOperationBegin (m : PanMeas)
  /-- BATTERY_MODE (R365). Battery operation held for 1 ms makes the Pantry write BATTERY into HALL_MODE. -/
  | batteryMode
  /-- BATTERY_OPERATION_END (R366). VBUS_IN at or above 54 V for BM_EXIT ends battery operation and restores the mode. -/
  | batteryOperationEnd (m : PanMeas)
  /-- BAT_LOW (R368). The 1 s battery mean at or below N x LOW_V sets BAT_LOW and zeroes the root ESSENTIAL cap. -/
  | batLow (mean : Nat)
  /-- CUTOFF (R368). The battery mean at the cut-off level for 5 s switches QID off and sets CUTOFF. -/
  | cutoff (mean : Nat)
  /-- BAT_PRES_CHANGE (R378). BAT_PRES changes and, when absent, the charger stops, QID opens and BAT_REMOVED is set. -/
  | batPresChange (present : Bool)
  /-- PRES_STABLE (R371). BAT_PRES present and stable for 2 s moves the charger to QUALIFY. -/
  | presStable
  /-- QUALIFICATION (R372). A qualification check completes and the charger passes to PRECHARGE or FAST or faults. -/
  | qualification (mean : Nat)
  /-- PRECHARGE_DONE (R371). VBAT at or above N x 1,000 mV for 10 s moves PRECHARGE to FAST. -/
  | prechargeDone (m : PanMeas)
  /-- PRE_TIMEOUT (R371). 30 min in PRECHARGE sets PRE_TIMEOUT and enters FAULT. -/
  | preTimeout
  /-- NDV_WINDOW (R374). Each 4 s window mean updates the peak and tests the -dV termination. -/
  | ndvWindow (mean : Nat)
  /-- DTDT_EVALUATION (R374). Every 10 s the dT/dt value is formed and tested for termination. -/
  | dtdtEvaluation (mean : Int)
  /-- SAFETY_TMR (R375). Fast-charge time reaching TSAFE sets SAFETY_TMR and faults the charger. -/
  | safetyTmr
  /-- PAUSE (R371). A pause cause arises or ends and the charger enters or leaves PAUSE. -/
  | pause (m : PanMeas)
  /-- BUDGET_PAUSE_RETRY (R373). Every 10 s a charger paused for BUDGET asks the root again. -/
  | budgetPauseRetry
  /-- CHARGER_GRANT (R373). The root answers the charger ask and the charge current follows the grant. -/
  | chargerGrant
  /-- P_OV_TRIP (R369). A P_OV trip places CHG_PWM at mid-rail and latches P_OV. -/
  | pOvTrip
  /-- CHG_OV (R378). 10 ms after a P_OV latch with the pack present CHG_OV is set and the charger faults. -/
  | chgOv
  /-- P_PK_TRIP (R369). A P_PK trip holds CHG_PWM for the rest of the charger period. -/
  | pPkTrip (neg : Bool)
  /-- START (R371). A write of PAN_CTRL.START moves the charger from TRICKLE to FAST. -/
  | start
  /-- RESTART (R371). A write of PAN_CTRL.RESTART leaves FAULT when no fault condition remains. -/
  | restart (m : PanMeas)
  /-- PAN_EN_WRITE (R371). A write of PAN_CTRL.EN starts the charger or turns it and QID off. -/
  | panEnWrite (en : Bool)
  /-- LAMP_SLOT (R379). Every 125 ms each status lamp takes the next bit of its pattern. -/
  | lampSlot
  /-- ADD (R393). rd = ra + rb. -/
  | add (c : CoreId) (rd ra rb : Fin 16) (z : BitVec 14)
  /-- SUB (R393). rd = ra - rb. -/
  | sub (c : CoreId) (rd ra rb : Fin 16) (z : BitVec 14)
  /-- AND (R393). rd = ra & rb. -/
  | and (c : CoreId) (rd ra rb : Fin 16) (z : BitVec 14)
  /-- OR (R393). rd = ra | rb. -/
  | or (c : CoreId) (rd ra rb : Fin 16) (z : BitVec 14)
  /-- XOR (R393). rd = ra ^ rb. -/
  | xor (c : CoreId) (rd ra rb : Fin 16) (z : BitVec 14)
  /-- SLL (R393). rd = ra shifted left by rb. -/
  | sll (c : CoreId) (rd ra rb : Fin 16) (z : BitVec 14)
  /-- SRL (R393). rd = ra shifted right with zero fill. -/
  | srl (c : CoreId) (rd ra rb : Fin 16) (z : BitVec 14)
  /-- SRA (R393). rd = ra shifted right with sign fill. -/
  | sra (c : CoreId) (rd ra rb : Fin 16) (z : BitVec 14)
  /-- MUL (R393). rd = low 32 bits of ra x rb. -/
  | mul (c : CoreId) (rd ra rb : Fin 16) (z : BitVec 14)
  /-- MULH (R393). rd = high 32 bits of the signed product. -/
  | mulh (c : CoreId) (rd ra rb : Fin 16) (z : BitVec 14)
  /-- MULHU (R393). rd = high 32 bits of the unsigned product. -/
  | mulhu (c : CoreId) (rd ra rb : Fin 16) (z : BitVec 14)
  /-- DIVU (R393). rd = ra / rb unsigned. -/
  | divu (c : CoreId) (rd ra rb : Fin 16) (z : BitVec 14)
  /-- REMU (R393). rd = ra mod rb unsigned. -/
  | remu (c : CoreId) (rd ra rb : Fin 16) (z : BitVec 14)
  /-- MINU (R393). rd = unsigned minimum. -/
  | minu (c : CoreId) (rd ra rb : Fin 16) (z : BitVec 14)
  /-- MAXU (R393). rd = unsigned maximum. -/
  | maxu (c : CoreId) (rd ra rb : Fin 16) (z : BitVec 14)
  /-- ADDI (R393). rd = ra + imm18. -/
  | addi (c : CoreId) (rd ra : Fin 16) (imm : BitVec 18)
  /-- ANDI (R393). rd = ra & zero-extended imm18. -/
  | andi (c : CoreId) (rd ra : Fin 16) (imm : BitVec 18)
  /-- ORI (R393). rd = ra | zero-extended imm18. -/
  | ori (c : CoreId) (rd ra : Fin 16) (imm : BitVec 18)
  /-- XORI (R393). rd = ra ^ zero-extended imm18. -/
  | xori (c : CoreId) (rd ra : Fin 16) (imm : BitVec 18)
  /-- SLLI (R393). Shift left by an immediate. -/
  | slli (c : CoreId) (rd ra : Fin 16) (imm : BitVec 18)
  /-- SRLI (R393). Shift right with zero fill by an immediate. -/
  | srli (c : CoreId) (rd ra : Fin 16) (imm : BitVec 18)
  /-- SRAI (R393). Shift right with sign fill by an immediate. -/
  | srai (c : CoreId) (rd ra : Fin 16) (imm : BitVec 18)
  /-- LUI (R393). rd = imm22 shifted left by 10. -/
  | lui (c : CoreId) (rd : Fin 16) (imm : BitVec 22)
  /-- CEQ (R393). rd = (ra == rb). -/
  | ceq (c : CoreId) (rd ra rb : Fin 16) (z : BitVec 14)
  /-- CNE (R393). rd = (ra != rb). -/
  | cne (c : CoreId) (rd ra rb : Fin 16) (z : BitVec 14)
  /-- CLT (R393). rd = (ra < rb) signed. -/
  | clt (c : CoreId) (rd ra rb : Fin 16) (z : BitVec 14)
  /-- CLTU (R393). rd = (ra < rb) unsigned. -/
  | cltu (c : CoreId) (rd ra rb : Fin 16) (z : BitVec 14)
  /-- CGE (R393). rd = (ra >= rb) signed. -/
  | cge (c : CoreId) (rd ra rb : Fin 16) (z : BitVec 14)
  /-- CGEU (R393). rd = (ra >= rb) unsigned. -/
  | cgeu (c : CoreId) (rd ra rb : Fin 16) (z : BitVec 14)
  /-- CEQI (R393). rd = (ra == imm18). -/
  | ceqi (c : CoreId) (rd ra : Fin 16) (imm : BitVec 18)
  /-- CNEI (R393). rd = (ra != imm18). -/
  | cnei (c : CoreId) (rd ra : Fin 16) (imm : BitVec 18)
  /-- CLTI (R393). rd = (ra < imm18) signed. -/
  | clti (c : CoreId) (rd ra : Fin 16) (imm : BitVec 18)
  /-- CLTUI (R393). rd = (ra < imm18) unsigned. -/
  | cltui (c : CoreId) (rd ra : Fin 16) (imm : BitVec 18)
  /-- CGEI (R393). rd = (ra >= imm18) signed. -/
  | cgei (c : CoreId) (rd ra : Fin 16) (imm : BitVec 18)
  /-- CGEUI (R393). rd = (ra >= imm18) unsigned. -/
  | cgeui (c : CoreId) (rd ra : Fin 16) (imm : BitVec 18)
  /-- BZ (R393). Branch when ra is zero. -/
  | bz (c : CoreId) (ra : Fin 16) (off : BitVec 22)
  /-- BNZ (R393). Branch when ra is not zero. -/
  | bnz (c : CoreId) (ra : Fin 16) (off : BitVec 22)
  /-- JAL (R393). Jump and link with a signed word offset. -/
  | jal (c : CoreId) (rd : Fin 16) (imm : BitVec 22)
  /-- JALR (R393). Jump and link to ra + imm18. -/
  | jalr (c : CoreId) (rd ra : Fin 16) (imm : BitVec 18)
  /-- LB (R393). Load a sign-extended byte. -/
  | lb (c : CoreId) (rd ra : Fin 16) (imm : BitVec 18)
  /-- LBU (R393). Load a zero-extended byte. -/
  | lbu (c : CoreId) (rd ra : Fin 16) (imm : BitVec 18)
  /-- LH (R393). Load a sign-extended halfword. -/
  | lh (c : CoreId) (rd ra : Fin 16) (imm : BitVec 18)
  /-- LHU (R393). Load a zero-extended halfword. -/
  | lhu (c : CoreId) (rd ra : Fin 16) (imm : BitVec 18)
  /-- LW (R393). Load a word. -/
  | lw (c : CoreId) (rd ra : Fin 16) (imm : BitVec 18)
  /-- SB (R393). Store a byte. -/
  | sb (c : CoreId) (rs ra : Fin 16) (imm : BitVec 18)
  /-- SH (R393). Store a halfword. -/
  | sh (c : CoreId) (rs ra : Fin 16) (imm : BitVec 18)
  /-- SW (R393). Store a word. -/
  | sw (c : CoreId) (rs ra : Fin 16) (imm : BitVec 18)
  /-- LWP (R393). Load a word and post-increment the base. -/
  | lwp (c : CoreId) (rd ra : Fin 16) (imm : BitVec 18)
  /-- SWP (R393). Store a word and post-increment the base. -/
  | swp (c : CoreId) (rs ra : Fin 16) (imm : BitVec 18)
  /-- CPW (R393). Copy a word and increment both pointers. -/
  | cpw (c : CoreId) (rd ra rb : Fin 16) (z : BitVec 14)
  /-- RPT (R396). Repeat the next instruction imm18 times, interruptible. -/
  | rpt (c : CoreId) (rd ra : Fin 16) (imm : BitVec 18)
  /-- RPTR (R396). Repeat the next instruction ra times, interruptible. -/
  | rptr (c : CoreId) (rd ra : Fin 16) (imm : BitVec 18)
  /-- RPTU (R396). Repeat the next instruction up to 16 times, not interruptible. -/
  | rptu (c : CoreId) (rd ra : Fin 16) (imm : BitVec 18)
  /-- WAIT (R393). Suspend until an enabled event line is pending. -/
  | wait (c : CoreId) (rd ra : Fin 16) (imm : BitVec 18)
  /-- EVRET (R399). Return from an event handler to EPC and clear IN_EVT. -/
  | evret (c : CoreId) (rd ra : Fin 16) (imm : BitVec 18)
  /-- SYNC (R394). Complete every earlier store before the next instruction. -/
  | sync (c : CoreId) (rd ra : Fin 16) (imm : BitVec 18)
  /-- MFS (R385). Read a special register. -/
  | mfs (c : CoreId) (rd ra : Fin 16) (imm : BitVec 18)
  /-- MTS (R385). Write a special register. -/
  | mts (c : CoreId) (rd ra : Fin 16) (imm : BitVec 18)
  /-- HBEAT (R406). Service the Hall heartbeat. -/
  | hbeat (c : CoreId) (rd ra : Fin 16) (imm : BitVec 18)
  /-- BRK (R393). Halt under debug or take the BRK trap. -/
  | brk (c : CoreId) (rd ra : Fin 16) (imm : BitVec 18)
  /-- EVENT_ENTRY (R399). A core takes a pending enabled event line and enters its vector. -/
  | eventEntry (c : CoreId)
  /-- EXT_COPY_DONE (R405). The copy of an extended message from data RAM completes and waiting stores proceed. -/
  | extCopyDone (p : Fin 48)
  /-- HOLD (R387). A write of CORE_CTRL.HOLD holds the Room core in reset or releases it into a restart. -/
  | hold (p : Fin 48) (on : Bool)
  /-- DOORBELL (R397). A W1S write of DOORBELL signals the Room core on line 15. -/
  | doorbell (p : Fin 48) (v : BitVec 8)
  /-- DB_ACK (R397). A Room core write of DB_ACK clears doorbell bits. -/
  | dbAck (p : Fin 48) (v : BitVec 8)
  /-- TIMER_FIRE (R419). A timer's count reaches its compare, it fires and its routes act. -/
  | timerFire (k : TmrBlock) (n : Fin 8)
  /-- TMR_CTRL_WRITE (R420). A write of TMR_CTRL re-evaluates the compare and an EN rise clears DONE. -/
  | tmrCtrlWrite (k : TmrBlock) (n : Fin 8) (v : Word)
  /-- TMR_CMP_WRITE (R419). A write of TMR_CMP re-evaluates the compare. -/
  | tmrCmpWrite (k : TmrBlock) (n : Fin 8) (v : Word)
  /-- TMR_CNT_WRITE (R419). A write of TMR_CNT re-evaluates the compare. -/
  | tmrCntWrite (k : TmrBlock) (n : Fin 8) (v : Word)
  /-- LOAD (R412). A write of TB_CTRL.LOAD loads the time base at the next tick or is refused. -/
  | load
  /-- ENERGY_UPDATE (R426). Every 10 us each port adds its energy to EOUT or EIN. -/
  | energyUpdate
  /-- SNAP_TRIG (R429). A write of SNAP_CTRL.TRIG triggers a capture directly or by driving SNAP_IO low. -/
  | snapTrig
  /-- SNAP_IO_EDGE (R429). A falling edge on SNAP_IO triggers a capture. -/
  | snapIoEdge (low : Bool)
  /-- SNAP_IO_RELEASE (R429). After 1 us the chip releases its drive of SNAP_IO. -/
  | snapIoRelease
  /-- CAPTURE (R427). A capture copies every snapshot shadow on one edge and advances SNAP_EPOCH. -/
  | capture
  /-- HL_READ (R441). The READ command reads one register word. -/
  | hlRead (n : Fin 2) (line : List Byte)
  /-- HL_WRITE (R441). The WRITE command writes one register word. -/
  | hlWrite (n : Fin 2) (line : List Byte)
  /-- RMW (R441). The RMW command reads and writes one word under a mask. -/
  | rmw (n : Fin 2) (line : Option (List Byte)) (k : Nat)
  /-- BULK_READ (R441). The BULK_READ command reads COUNT words. -/
  | bulkRead (n : Fin 2) (line : Option (List Byte)) (k : Nat)
  /-- BULK_WRITE (R441). The BULK_WRITE command writes COUNT words. -/
  | bulkWrite (n : Fin 2) (line : Option (List Byte)) (k : Nat)
  /-- SUBSCRIBE (R441). The SUBSCRIBE command writes the link's subscription registers. -/
  | subscribe (n : Fin 2) (line : List Byte)
  /-- SNAPSHOT (R441). The SNAPSHOT command triggers a capture and replies with its epoch and time base. -/
  | snapshot (n : Fin 2) (line : List Byte)
  /-- HL_ACTIVATE (R555). The host-link ACTIVATE command sets, replaces or cancels the activation. -/
  | hlActivate (n : Fin 2) (line : List Byte) (held recOk : Bool)
  /-- ACK (R449). The ACK command acknowledges outstanding events up to ACK_SEQ. -/
  | ack (n : Fin 2) (line : List Byte)
  /-- SETTING (R441). The SETTING command reads or writes a Settings value. -/
  | setting (n : Fin 2) (line : List Byte) (held : Bool)
  /-- VDM_SEND (R441). The VDM_SEND command hands a vendor message to a port. -/
  | vdmSend (n : Fin 2) (line : List Byte) (held : Bool)
  /-- PING (R440). The PING command echoes its payload. -/
  | ping (n : Fin 2) (line : List Byte)
  /-- UNKNOWN_TYPE (R440). A frame of an unlisted TYPE is answered with UNKNOWN. -/
  | unknownType (n : Fin 3) (line : List Byte)
  /-- FRAME_DISCARD (R436). A frame with a bad CRC, length, character or lost byte is discarded and counted. -/
  | frameDiscard (n : Fin 3) (line : List Byte) (charErr lost : Bool)
  /-- FRAME_ABORT (R437). 32 character times of silence or a bad escape abort a frame. -/
  | frameAbort (n : Fin 3) (line : List Byte) (idle : Nat)
  /-- TIMEOUT (R445). A Hall-firmware command not completed in 10 ms is answered with TIMEOUT. -/
  | timeout (n : Fin 2)
  /-- GO (R448). A write of HL_POST_HDR.GO posts a firmware event. -/
  | go
  /-- EVENT_SEND (R453). The transmitter sends the next outstanding event frame when its turn comes. -/
  | eventSend (n : Fin 2)
  /-- EVENT_RESEND (R450). The event timeout expires and outstanding events are sent again. -/
  | eventResend (n : Fin 2)
  /-- TW_WRITE_TRANSACTION (R462). A two-wire write transaction ends and its N writes are performed or refused. -/
  | twWriteTransaction (n : Fin 4) (tx : Option (BitVec 7 × List Byte)) (k : Nat)
  /-- TW_READ_TRANSACTION (R463). A two-wire read address is acknowledged and the pointer's words are read. -/
  | twReadTransaction (n : Fin 4) (tx : Option (BitVec 7 × List Byte)) (k : Nat)
  /-- TW_TIMEOUT (R471). SCL held low for 25 ms releases the balls and discards the transaction. -/
  | twTimeout (n : Fin 4) (write : Bool)
  /-- TW_BUS_ERROR (R471). A START or STOP inside a byte ends the transaction and counts BUS. -/
  | twBusError (n : Fin 4) (write : Bool)
  /-- TW_ADDRESS_MATCH_WAKE (R469). In SLEEP or STANDBY an address match acknowledges, holds SCL and wakes the chip. -/
  | twAddressMatchWake (n : Fin 4) (addr : BitVec 7)
  /-- TC_GO (R474). A write of TC_CMD.GO starts a controller transaction. -/
  | tcGo (m : Fin 2)
  /-- TC_DONE (R474). A controller transaction ends and DONE and RESULT are set. -/
  | tcDone (m : Fin 2) (result : Fin 5) (count : Nat) (data : List Byte)
  /-- HEARTBEAT_SEND (R481). Every 50 us the chip sends a heartbeat pulse carrying its claim code. -/
  | heartbeatSend
  /-- HEARTBEAT_PULSE (R481). A pulse on KEY_HB_IN is measured and updates the peer code. -/
  | heartbeatPulse (widthNs : Nat)
  /-- PEER_LOST (R482). 150 us without a valid peer pulse makes the peer not alive. -/
  | peerLost
  /-- KEY_IN_CHANGE (R482). KEY_IN changes level and the peer claim is updated. -/
  | keyInChange (level : Bool)
  /-- CLAIM_START_A (R488). 1 ms after boot complete chip A claims each Wing the peer does not claim. -/
  | claimStartA
  /-- CLAIM_START_B (R488). Chip B claims a Wing whose peer claim has been clear for 5 ms. -/
  | claimStartB
  /-- TAKEOVER (R506). The peer claim for a held-by-peer Wing clears and the chip claims it. -/
  | takeover
  /-- CLAIM_GUARD_END (R506). At the end of the claim guard the drivers are enabled and loops resume from the mirror. -/
  | claimGuardEnd
  /-- CONTENTION (R489). Both claims set for 2 us disable drivers, and after 20 us chip B yields. -/
  | contention (w : Fin 2)
  /-- PEER_NO_YIELD (R489). 100 us after chip B should have yielded, chip A also withdraws. -/
  | peerNoYield (w : Fin 2)
  /-- RELEASE (R490). A write of RELEASE_Ww withdraws a Wing once the peer is READY. -/
  | release (w : Fin 2)
  /-- HB_OUT_FAULT (R487). Three own pulses not seen on KEY_HB_OUT drop KEY_OUT until reset. -/
  | hbOutFault
  /-- KEY_IN_STUCK (R509). KEY_IN high with code 3 for 1 ms sets KEY_IN_STUCK. -/
  | keyInStuck
  /-- DRIVE_CONFLICT (R509). A driven ball not following its level for 1 us sets DRIVE_CONFLICT and makes the port safe or the slot open. -/
  | driveConflict (site : Site)
  /-- PAIR_RESYNC (R503). A write of PAIR_CTRL.RESYNC marks every target stale in a shadow. -/
  | pairResync
  /-- LANE_LOCK (R493). 64 valid idle characters lock a receiving lane. -/
  | laneLock (k : Fin 2)
  /-- LANE_LOCK_LOSS (R493). An invalid character or disparity error unlocks a lane and discards its copy. -/
  | laneLockLoss (k : Fin 2) (copy : Bool)
  /-- LINK_UP (R494). Lanes locked for 1 ms and DIGEST exchanged bring the Stair link up. -/
  | linkUp
  /-- LINK_DOWN (R494). 200 us without a valid copy takes the link down and marks every target stale. -/
  | linkDown
  /-- STAIR_FRAME (R497). A FRAME record is applied, syncing the time base and resolving gaps. -/
  | stairFrame (k : Fin 2) (line : List (BitVec 10))
  /-- STAIR_LOOP (R497). A LOOP record loads a Landing's loop histories into the shadow. -/
  | stairLoop (k : Fin 2) (line : List (BitVec 10))
  /-- STAIR_ROOM (R497). A ROOM record is applied to the shadow's Room mirror. -/
  | stairRoom (k : Fin 2) (line : List (BitVec 10))
  /-- STAIR_SLOT (R497). A SLOT record is applied to the shadow's slot mirror. -/
  | stairSlot (k : Fin 2) (line : List (BitVec 10))
  /-- STAIR_TIMER (R497). A TIMER record is applied to mirrored timers. -/
  | stairTimer (k : Fin 2) (line : List (BitVec 10))
  /-- STAIR_HEARTH (R497). A HEARTH record loads mirrored model states. -/
  | stairHearth (k : Fin 2) (line : List (BitVec 10))
  /-- STAIR_ENERGY (R497). An ENERGY record loads mirrored energy counters. -/
  | stairEnergy (k : Fin 2) (line : List (BitVec 10))
  /-- STAIR_HALL (R497). A HALL record applies mode and budget state. -/
  | stairHall (k : Fin 2) (line : List (BitVec 10))
  /-- STAIR_PANTRY (R497). A PANTRY record applies the charger mirror. -/
  | stairPantry (k : Fin 2) (line : List (BitVec 10))
  /-- STAIR_WRITE (R500). A WRITE record makes the shadow perform the holder's register writes in order. -/
  | stairWrite (k : Fin 2) (line : List (BitVec 10))
  /-- STAIR_STATUS (R504). A STATUS record updates the peer's stale bitmap and READY. -/
  | stairStatus (k : Fin 2) (line : List (BitVec 10))
  /-- STAIR_RESYNC (R503). A RESYNC record makes the holder send the refresh set of each named target. -/
  | stairResync (k : Fin 2) (line : List (BitVec 10))
  /-- STAIR_DIGEST (R494). A DIGEST record compares Plan digests and updates PEER_FW. -/
  | stairDigest (k : Fin 2) (line : List (BitVec 10))
  /-- FRAME_SEND (R498). Every 50 us a holding chip sends FRAME and its LOOP records. -/
  | frameSend
  /-- RECORD_SEND (R498). Within 20 us of a change the holder sends the record that carries it. -/
  | recordSend (type target bank : Nat)
  /-- RECORD_RESEND (R498). Periodic HEARTH, ENERGY and 100 ms re-sends of every held record. -/
  | recordResend (type target bank : Nat)
  /-- STATUS_SEND (R497). Every 50 us each chip sends a STATUS record. -/
  | statusSend
  /-- DIGEST_SEND (R494). At link-up and every 1 s each chip sends DIGEST. -/
  | digestSend
  /-- RESYNC_SEND (R503). Within 10 us of marking stale and every 1 ms after, the shadow sends RESYNC. -/
  | resyncSend
  /-- STATUS_LOSS (R504). No STATUS record for 200 us makes every target read stale on the keeper. -/
  | statusLoss
  /-- PROGRAM (R521). The PROGRAM command programs the set bits of PDATA into a logical word. -/
  | program (r : Req) (vpp vdd : Bool)
  /-- MARGIN (R524). The MARGIN command margin-reads both copies of a word. -/
  | margin (r : Req)
  /-- ADVANCE (R521). The ADVANCE command advances a thermometer counter to VALUE. -/
  | advance (r : Req) (vpp vdd : Bool)
  /-- PROG_SECRET (R518). The PROG_SECRET command scrambles and programs a secret and its valid bit. -/
  | progSecret (r : Req) (vpp vdd : Bool)
  /-- LIFECYCLE (R515). The LIFECYCLE command programs the next LC bit. -/
  | lifecycle (r : Req) (vpp vdd : Bool)
  /-- ATTIC_COMMAND_DONE (R523). An Attic command ends after its pulses and margin read and sets RESULT and DONE. -/
  | atticCommandDone (abort : Option Nat) (bad : List (Nat × Bool × Word))
  /-- ATTIC_LOCK (R527). A W1S write of ATTIC_LOCK sets sticky lock bits. -/
  | atticLock (v : Word)
  /-- VERIFY (R519). A write of ENG_CTRL.VERIFY checks one chunk's tag in verify mode. -/
  | verify
  /-- VERIFY_DONE (R552). A verify-mode check ends and DONE and TAG_OK are set. -/
  | verifyDone
  /-- IDENT (R544). The IDENT command returns identification of the chip. -/
  | ident (line : List Byte)
  /-- OPEN (R545). The OPEN command checks a header and opens or resumes a transfer session. -/
  | openSession (line : List Byte) (jok : Bool)
  /-- CHUNK (R548). The CHUNK command verifies, writes, reads back and commits one stored chunk. -/
  | chunk (line : List Byte) (wr : Bool) (bad : Option Nat) (jok : Bool)
  /-- FINISH (R551). The FINISH command verifies the whole stored body and stages the image. -/
  | finish (line : List Byte) (jok recOk : Bool)
  /-- PORCH_ABORT (R553). The ABORT command closes the open session. -/
  | porchAbort (line : List Byte)
  /-- PORCH_STATUS (R544). The STATUS command returns the session and update state. -/
  | porchStatus (line : List Byte)
  /-- PORCH_ACTIVATE (R555). The Porch ACTIVATE command sets, replaces or cancels the activation. -/
  | porchActivate (line : List Byte) (recOk : Bool)
  /-- SESSION_LOST (R550). A session record older than 7 days or dated ahead is discarded. -/
  | sessionLost (plan slot : Bool)
  /-- ACTIVATION_EVALUATION (R557). At AT and every 10 ms the deciding chip defers or starts the activating reset. -/
  | activationEvaluation (means : List Nat)
  /-- EXPIRED (R559). Deferral for DEFER_MAX cancels the activation and posts EXPIRED. -/
  | expired (recOk : Bool)
  /-- ACTIVATION_PEER_RESET (R558). A non-keeper with a passed AT resets when the peer claim clears. -/
  | activationPeerReset
  /-- CONFIRMED (R560). After CONF_T the firmware confirms a trial, advances counters and posts CONFIRMED. -/
  | confirmed (recOk vpp vdd : Bool)
  /-- REVERTED (R561). The firmware returns to the previous images and resets when needed. -/
  | reverted (recOk : Bool)
  /-- SETTING_RESET (R563). After boot the firmware reports each Journal value discarded for an older schema. -/
  | settingReset
  /-- APPEND (R574). The APPEND command adds a Journal record to a group or writes the group. -/
  | append (r : Req)
  /-- BOOTREC (R570). The BOOTREC command writes a new boot record into the other copy. -/
  | bootrec (r : Req) (ok : Bool)
  /-- GROUP_COMMIT (R574). The last marker of a Journal group is committed and DONE is set. -/
  | groupCommit
  /-- COMPACTION (R576). At 75 % use the engine compacts into the other area and commits its AREA record: by stages, 0
  its start, 1 the end of the erase, 2 the AREA record. -/
  | compaction (stage : Fin 3)
  /-- CELLAR_TIMEOUT (R568). A Cellar operation exceeding its time limit fails as a Cellar error. -/
  | cellarTimeout (n : Nat)
  /-- HB_MISS (R592). A missed heartbeat deadline sets MISS, makes line 1 pending and drops the claim in pair mode. -/
  | hbMiss
  /-- WDT (R592). A further HB_T without HBEAT starts a chip reset with cause WDT. -/
  | wdt
  /-- OPEN_PIN_TEST (R595). A sense pin is tested by injection and two failures set SENSE_OPEN. -/
  | openPinTest (pin : SensePin) (moved : Nat)
  /-- HOLD_END (R598). Pins passing for 10 s without divergence end the sense hold. -/
  | holdEnd (site : Site)
  /-- IDCODE (R612). The IDCODE operation returns the chip identity. -/
  | idcode (header : BitVec 12)
  /-- RD_STAT (R612). The RD_STAT operation returns the debug port status. -/
  | rdStat (header : BitVec 12)
  /-- WR_ADDR (R612). The WR_ADDR operation sets ADDR. -/
  | wrAddr (header : BitVec 12) (data : Word) (crc : BitVec 8)
  /-- RD_DATA (R612). The RD_DATA operation returns the read buffer and starts a bus read. -/
  | rdData (header : BitVec 12)
  /-- RD_BUF (R612). The RD_BUF operation returns the read buffer. -/
  | rdBuf (header : BitVec 12)
  /-- WR_DATA (R612). The WR_DATA operation starts a bus write at ADDR. -/
  | wrData (header : BitVec 12) (data : Word) (crc : BitVec 8)
  /-- DBG_ABORT (R612). The ABORT operation clears ERR and CHK_ERR and discards an ungranted access. -/
  | dbgAbort (header : BitVec 12) (data : Word) (crc : BitVec 8)
  /-- CHK_ERR (R610). A debug header with a bad SYNC, CHK or OP is ignored and sets CHK_ERR. -/
  | chkErr (header : BitVec 12)
  /-- LINE_RESET (R611). Four DBG_IO falling edges with DBG_CK high reset the debug line. -/
  | lineReset
  /-- DBG_TIMEOUT (R611). 1 ms without a DBG_CK edge ends the transaction. -/
  | dbgTimeout
  /-- DBG_ACCESS_DONE (R613). A debug bus access completes and fills the read buffer or sets ERR. -/
  | dbgAccessDone
  /-- HALT (R616). A write of a DBG_HALT bit halts or resumes a core. -/
  | halt (c : CoreId) (on : Bool)
  /-- CORE_HALT (R616). A core halts at its next instruction boundary, breakpoint, BRK or boot. -/
  | coreHalt (c : CoreId)
  /-- STEP (R618). A write of DBG_STEP makes a halted core execute one instruction. -/
  | step (n : BitVec 6)
  /-- CREG (R621). An access of DBG_CREG reads or writes a register of a halted core. -/
  | creg (w : Option Word)
  /-- DBG_RESET (R623). A write of 0x5A to DBG_CTRL.RESET_KEY starts a chip reset with cause DEBUG. -/
  | dbgReset
  /-- SNAP (R623). A write of DBG_CTRL.SNAP acts as the debug snapshot trigger. -/
  | snap
  /-- TICK (R410). Every 1 us tick advances the time base and the count of every TICK timer and gated timer. -/
  | tick
  /-- SLOW_CLOCK_EDGE (R411). At every slow-clock edge the slow counter advances, the Q16.16 accumulator adds its increment and the always-on domain stores the time base. -/
  | slowClockEdge (act : BitVec 10)
  /-- VBUS_LEVEL_CHANGE (R136). The 10 us VBUS mean crosses VBUS_SAFE0 or VBUS_PRESENT, taking a pending attach exit, starting the attach ask or closing a sink's port switch. -/
  | vbusLevelChange (p : Fin 48) (mv : Nat)
  /-- VSLOTIN_RISE (R316). VSLOTIN reaches 34.0 V while a seated slot in SEATING has met TSEAT, moving it to INRUSH. -/
  | vslotinRise (b : Fin 6) (m : SlotMeas)
  /-- SLOT_LIMIT_EDGE (R313). The slot current or power limit begins or stops acting, changing HS_STAT.LIMIT, setting LIMIT in HS_EVENT and switching the gate to servo. -/
  | slotLimitEdge (b : Fin 6) (limit : Fin 3) (m : SlotMeas)
  /-- NTC_CONVERSION (R374). The pack NTC is converted, updating temperature, NTC_OK and NTC_FAULT, and a TMAX reading in FAST terminates the charge to TRICKLE. -/
  | ntcConversion (uv : Nat)
  /-- VBUS_IN_RETURN (R368). VBUS_IN_SNS rises to 54.0 V or above, clearing CUTOFF and starting the BM_EXIT count. -/
  | vbusInReturn (m : PanMeas)
  /-- CHARGER_PERIOD_START (R370). At each charger PWM period start the P_PK latch and its hold clear and the new charger duty and charge current take effect. -/
  | chargerPeriodStart (m : PanMeas)
  /-- HL_CTS_CHANGE (R433). HLn_CTS_N changes level, stopping or releasing the start of the link's next character while FLOW_EN is 1. -/
  | hlCtsChange (n : Fin 2) (level : Bool)
deriving DecidableEq, Repr

end Sys2Proof
end

