-- ==== Sys2Proof/Decode.lean ====
section
/-! DEFINITION. Decode.lean: the words of the table's rows. No row of spec/opcode_table.json gives bits: a command
reaches the block over its buses, links and balls, not as a word (log 4). -/

namespace Sys2Proof

/-- The command that a word spells by the table's bits: none, since the table gives none (log 4). -/
def decodeTableWord (_nbits _w : Nat) : Option Instr := none

end Sys2Proof
end

