-- ==== Sys2Proof/Config.lean ====
section
/-! DEFINITION. Config.lean: the constants that no rule of the spec gives a value, and the free values: each is an
opaque constant, so nothing can be proved of its value (log 2, log 47). -/

namespace Sys2Proof.Config

/-- A value that the spec leaves open, drawn with the model's own counter (log 2). -/
opaque freeValue : Nat → BitVec 32

/-- Which ordered set the receiver takes where 3 of 4 K-codes agree with more than one (R171; log 129). -/
opaque nearSet : List Nat → Nat

/-- The analog trim of TRIM words 2 to 14 holds the grade limit of GLM4860-FB9H, and not that of GLM4860-FB9I (R663; log 151). -/
opaque gradeHigh : List Word → Bool

/-- The words of the boot ROM, by word number: the spec does not give its program (R57, R389; log 107). -/
opaque bootRom : Nat → BitVec 32

/-- SHA-384 of a byte string (R528, R533). -/
opaque sha384 : List Byte → List Byte

/-- A 96-byte public key is a point on P-384 and its 96-byte signature over a 48-byte digest is valid (R533, check 7). -/
opaque signatureOk : (key digest sig : List Byte) → Bool

/-- The tag of an AES-256-GCM chunk is correct, under a secret with an IV and additional data (R529, R552). -/
opaque tagOk : (secret : List Word) → (iv aad chunk tag : List Byte) → Bool

/-- The plaintext of an AES-256-GCM chunk (R529). -/
opaque plain : (secret : List Word) → (iv aad chunk : List Byte) → List Byte

/-- The first two bytes of AES-256 of 16 zero bytes under a secret (R520). -/
opaque kcv : (secret : List Word) → BitVec 16

/-- The die-unique mask and permutation of R518, from the die ID, and their inverse. -/
opaque scramble : (dieId : BitVec 64) → (secret : List Word) → List Word
opaque unscramble : (dieId : BitVec 64) → (words : List Word) → List Word

end Sys2Proof.Config
end

