-- ==== Sys2Proof/Machine/PlanTypes.lean ====
section
/-! DEFINITION. Machine/PlanTypes.lean: the Plan as plain data (03_plan_image.md): what the boot ROM keeps of an
accepted Plan body. -/

namespace Sys2Proof.Machine

/-- A place of the address map (R57, R58): a block's window and the offset in it. -/
inductive Loc where
  | hall (addr : Nat)
  | wing (w : Nat) (off : Nat)
  | land (b : Nat) (off : Nat)
  | roomReg (p : Nat) (off : Nat)
  | roomData (p : Nat) (off : Nat)
  | roomCode (p : Nat) (off : Nat)
  | bootRom (off : Nat)
  | hallCode (off : Nat)
  | hallData (off : Nat)
deriving DecidableEq, Repr

/-- A PORTS entry (R102). Class 0 EGRESS, 1 ESSENTIAL, 2 COMFORT; role 0 source, 1 sink, 2 dual-role. -/
structure PortPlan where
  present : Bool
  cls : Nat
  role : Nat
  options : Nat
  vmin : Nat
  vmax : Nat
  imax : Nat
  slewMax : Nat
  program : Nat
  fsw : Nat
  motion : Nat
  rsense : Nat
deriving DecidableEq, Repr

/-- A BUDGET entry (R110). -/
structure NodePlan where
  limit : Bool
  caps : Nat
  ceiling : Nat
deriving DecidableEq, Repr

/-- A TIMERS route (R112): kind 1 gate, 2 reset, 3 clock. -/
structure TimerRoute where
  landing : Bool
  index : Nat
  src : Nat
  dst : Nat
  kind : Nat
deriving DecidableEq, Repr

/-- A TWOWIRE entry (R113). -/
structure TwEntry where
  tw : Nat
  addr : Nat
  mask : Nat
  portIndexed : Bool
  base : Nat
deriving DecidableEq, Repr

/-- A program record (R116). -/
structure ProgramRec where
  index : Nat
  entry : Nat
  code : List Byte
  data : List Byte
  pcrc : Nat
deriving DecidableEq, Repr

/-- A HEARTH model record (R118). Temperatures in 0.1 °C. -/
structure ModelRec where
  model : Nat
  ref : Nat
  theta : List Nat
  tau : List Nat
  rds25 : Nat
  tc : Nat
  twarn : Int
  ttrip : Int
deriving DecidableEq, Repr

/-- A SLOTS entry (R119). -/
structure SlotPlan where
  present : Bool
  rsense : Nat
  imax : Nat
deriving DecidableEq, Repr

/-- The PANTRY entry (R120). -/
structure PantryPlan where
  cells : Nat
  imax : Nat
  fsw : Nat
  shunt : Nat
deriving DecidableEq, Repr

/-- A RANGES entry (R121). -/
structure RangeRec where
  scope : Nat
  index : Nat
  off : Nat
  lsb : Nat
  width : Nat
  min : Nat
  max : Nat
deriving DecidableEq, Repr

/-- A SETTINGS entry (R123). -/
structure SettingRec where
  id : Nat
  flags : Nat
  lsb : Nat
  width : Nat
  target : Nat
  dflt : Nat
  min : Nat
  max : Nat
deriving DecidableEq, Repr

/-- An accepted Plan body (R99 to R123). -/
structure Plan where
  planId : Nat
  planRev : Nat
  fmtMinor : Nat
  schema : Nat
  flags : Nat
  ports : List PortPlan
  gangs : List (Nat × Nat)
  trip : List Nat
  budget : List NodePlan
  timers : List TimerRoute
  twowire : List TwEntry
  programs : List ProgramRec
  hearth : List ModelRec
  slots : List SlotPlan
  pantry : Option PantryPlan
  ranges : List RangeRec
  settings : List SettingRec
deriving DecidableEq, Repr

/-- An absent port, as `Plan.port` answers beyond the list. -/
def PortPlan.absent : PortPlan := ⟨false, 3, 3, 0, 0, 0, 0, 0, 0, 0, 0, 0⟩

/-- The PORTS entry of a port number. -/
def Plan.port (p : Plan) (n : Nat) : PortPlan := p.ports.getD n PortPlan.absent

/-- The SLOTS entry of a slot number. -/
def Plan.slot (p : Plan) (n : Nat) : SlotPlan := p.slots.getD n ⟨false, 0, 0⟩

/-- The BUDGET entry of a node: 0 root, 1 and 2 Wings, 3 to 8 Landings (R110). -/
def Plan.node (p : Plan) (n : Nat) : NodePlan := p.budget.getD n ⟨false, 0, 0⟩

/-- PAIR_MODE in FLAGS (R99). -/
def Plan.pairMode (p : Plan) : Bool := p.flags.testBit 0

/-- Size of the gang that port `n` belongs to; 1 outside a gang (R105). -/
def Plan.gangOf (p : Plan) (n : Nat) : Nat × Nat :=
  (p.gangs.find? fun g => g.1 ≤ n && n < g.1 + g.2).getD (n, 1)

/-- The port number of the lead of port `n`'s gang; `n` itself outside a gang (R105). -/
def Plan.leadOf (p : Plan) (n : Nat) : Nat := (p.gangOf n).1

/-- The port is a gang follower (R105). -/
def Plan.follower (p : Plan) (n : Nat) : Bool := (p.gangOf n).1 != n

/-- The port is present and no follower: it has a Room program, a contract and a grant of its own. -/
def Plan.whole (p : Plan) (n : Nat) : Bool := (p.port n).present && !p.follower n

/-- The Plan entry that port `n` works by: a follower takes everything but PRESENT from its lead (R104). -/
def Plan.entry (p : Plan) (n : Nat) : PortPlan := { p.port (p.leadOf n) with present := (p.port n).present }

/-- Members of port `n`'s gang, in rising order. -/
def Plan.members (p : Plan) (n : Nat) : List Nat :=
  let g := p.gangOf n; (List.range g.2).map (g.1 + ·)

/-- OPTIONS bits of a port entry (R102). -/
def PortPlan.trySrc (e : PortPlan) : Bool := e.options.testBit 0
/-- Try.SNK (R102). -/
def PortPlan.trySnk (e : PortPlan) : Bool := e.options.testBit 1
/-- Accept DR_Swap (R102). -/
def PortPlan.drSwap (e : PortPlan) : Bool := e.options.testBit 2
/-- Safe-state termination open (R102). -/
def PortPlan.safeOpen (e : PortPlan) : Bool := e.options.testBit 3
/-- EPR capability (R102). -/
def PortPlan.epr (e : PortPlan) : Bool := e.options.testBit 4
/-- VCONN source (R102). -/
def PortPlan.vconn (e : PortPlan) : Bool := e.options.testBit 5

/-- A slot's class is the highest class among its present ports (R111); 3 with none. -/
def Plan.slotClass (p : Plan) (b : Nat) : Nat :=
  (List.range 8).foldl (fun c i => if p.whole (8 * b + i) then min c (p.port (8 * b + i)).cls else c) 3

/-- The trip word of Threshold `k` of port `n` (R106): the listed one, or the least routing of R109. -/
def Plan.tripWord (p : Plan) (n k : Nat) : Nat :=
  match p.trip[4 * n + k]? with
  | some w => w
  | none =>
    let ms := p.members n
    let pwm := ms.foldl (fun a m => a ||| 2 ^ (m % 8)) 0
    let sw := 2 ^ (p.leadOf n % 8)
    if ms.length > 1 then pwm + 256 * sw else if k = 3 then pwm + 256 * sw else pwm

end Sys2Proof.Machine
end

