-- ==== Sys2Proof/Machine/Regs.lean ====
section
/-! DEFINITION. Machine/Regs.lean: every register field of the spec, from the register tables of its chapters: the
offset of the register (Room, Landing and Wing registers: in the block's window; Hall and global blocks: the full
address; timers and budget nodes: from the start of the group), lowest bit, width, access code, reset value and the
range that a write clamps to. The name is REGISTER_FIELD as the spec spells them. -/

namespace Sys2Proof

/-- The same field in a register `d` bytes further on (an array element or a block base). -/
def Field.shift (f : Field) (d : Nat) : Field := { f with off := f.off + d }

/-- Read a field of a register bank. -/
def Regs.fld (m : Regs) (f : Field) : Nat := ((m.get f.off).extractLsb' f.lsb f.width).toNat

/-- The bits of a register that a field covers. -/
def Field.mask (f : Field) : Word := (BitVec.allOnes f.width).setWidth 32 <<< f.lsb

/-- Write a field of a register bank; the other bits of the register stay. -/
def Regs.put (m : Regs) (f : Field) (v : Nat) : Regs :=
  m.set f.off (((m.get f.off) &&& ~~~f.mask) ||| ((BitVec.ofNat 32 v <<< f.lsb) &&& f.mask))

end Sys2Proof

namespace Sys2Proof.Machine

-- ID, offset 0x000, Room (01_house_architecture.md)
def ID_PORT_NUM : Field := ⟨0x0, 0, 6, .ro, 0, 0, 63⟩
def ID_SLOT : Field := ⟨0x0, 6, 3, .ro, 0, 0, 7⟩
def ID_WING : Field := ⟨0x0, 9, 1, .ro, 0, 0, 1⟩
def ID_PRESENCE : Field := ⟨0x0, 10, 2, .ro, 0, 0, 3⟩
def ID_GANG_SIZE : Field := ⟨0x0, 12, 2, .ro, 0, 0, 3⟩
def ID_CLASS : Field := ⟨0x0, 14, 2, .ro, 3, 0, 3⟩
def ID_ROLE_CAP : Field := ⟨0x0, 16, 2, .ro, 3, 0, 3⟩
def ID_LEAD : Field := ⟨0x0, 18, 6, .ro, 0, 0, 63⟩

-- CTRL, offset 0x004, Room (01_house_architecture.md)
def CTRL_ENABLE : Field := ⟨0x4, 0, 1, .rw, 0, 0, 1⟩
def CTRL_FORCE_SAFE : Field := ⟨0x4, 1, 1, .rw, 0, 0, 1⟩
def CTRL_RESTART_CORE : Field := ⟨0x4, 2, 1, .wo, 0, 0, 1⟩
def CTRL_RECOVER : Field := ⟨0x4, 3, 1, .wo, 0, 0, 1⟩

-- STATUS, offset 0x008, Room (01_house_architecture.md)
def STATUS_STATE : Field := ⟨0x8, 0, 3, .ro, 0, 0, 7⟩
def STATUS_CORE_ALIVE : Field := ⟨0x8, 3, 1, .ro, 0, 0, 1⟩
def STATUS_LOOP_ACTIVE : Field := ⟨0x8, 4, 1, .ro, 0, 0, 1⟩
def STATUS_SWITCH_ON : Field := ⟨0x8, 5, 1, .ro, 0, 0, 1⟩
def STATUS_POWER_DIR : Field := ⟨0x8, 6, 1, .ro, 0, 0, 1⟩
def STATUS_MIRROR_STALE : Field := ⟨0x8, 7, 1, .ro, 0, 0, 1⟩
def STATUS_MODE : Field := ⟨0x8, 8, 3, .ro, 0, 0, 7⟩
def STATUS_EPOCH : Field := ⟨0x8, 12, 8, .ro, 0, 0, 255⟩
def STATUS_FAULT_ANY : Field := ⟨0x8, 20, 1, .ro, 0, 0, 1⟩
def STATUS_KEEPER : Field := ⟨0x8, 21, 1, .ro, 0, 0, 1⟩

-- FAULT, offset 0x00C, Room (01_house_architecture.md)
def FAULT_OV : Field := ⟨0xC, 0, 1, .rc, 0, 0, 1⟩
def FAULT_UV : Field := ⟨0xC, 1, 1, .rc, 0, 0, 1⟩
def FAULT_SC : Field := ⟨0xC, 2, 1, .rc, 0, 0, 1⟩
def FAULT_EFUSE : Field := ⟨0xC, 3, 1, .rc, 0, 0, 1⟩
def FAULT_FET_SHORT : Field := ⟨0xC, 4, 1, .rc, 0, 0, 1⟩
def FAULT_THERM_TRIP : Field := ⟨0xC, 5, 1, .rc, 0, 0, 1⟩
def FAULT_SENSE_OPEN : Field := ⟨0xC, 6, 1, .rc, 0, 0, 1⟩
def FAULT_CC_OV : Field := ⟨0xC, 7, 1, .rc, 0, 0, 1⟩
def FAULT_VCONN_OC : Field := ⟨0xC, 8, 1, .rc, 0, 0, 1⟩
def FAULT_CORE_WDT : Field := ⟨0xC, 9, 1, .rc, 0, 0, 1⟩
def FAULT_CORE_FAIL : Field := ⟨0xC, 10, 1, .rc, 0, 0, 1⟩
def FAULT_REG_LOSS : Field := ⟨0xC, 11, 1, .rc, 0, 0, 1⟩
def FAULT_PARITY : Field := ⟨0xC, 12, 1, .rc, 0, 0, 1⟩
def FAULT_ESCALATED : Field := ⟨0xC, 13, 1, .rc, 0, 0, 1⟩
def FAULT_KEY_LOSS : Field := ⟨0xC, 14, 1, .rc, 0, 0, 1⟩
def FAULT_FORCED_MODE : Field := ⟨0xC, 15, 1, .rc, 0, 0, 1⟩

-- EVENT, offset 0x010, Room (01_house_architecture.md)
def EVENT_FAULT : Field := ⟨0x10, 0, 1, .w1c, 0, 0, 1⟩
def EVENT_ATTACH : Field := ⟨0x10, 1, 1, .w1c, 0, 0, 1⟩
def EVENT_DETACH : Field := ⟨0x10, 2, 1, .w1c, 0, 0, 1⟩
def EVENT_CONTRACT : Field := ⟨0x10, 3, 1, .w1c, 0, 0, 1⟩
def EVENT_TRANS_DONE : Field := ⟨0x10, 4, 1, .w1c, 0, 0, 1⟩
def EVENT_MODE_APPLIED : Field := ⟨0x10, 5, 1, .w1c, 0, 0, 1⟩
def EVENT_CORE_RESTART : Field := ⟨0x10, 6, 1, .w1c, 0, 0, 1⟩
def EVENT_SAFE_ENTER : Field := ⟨0x10, 7, 1, .w1c, 0, 0, 1⟩
def EVENT_SAFE_EXIT : Field := ⟨0x10, 8, 1, .w1c, 0, 0, 1⟩
def EVENT_VDM_RX : Field := ⟨0x10, 9, 1, .w1c, 0, 0, 1⟩
def EVENT_THERM_WARN : Field := ⟨0x10, 10, 1, .w1c, 0, 0, 1⟩
def EVENT_BUDGET : Field := ⟨0x10, 11, 1, .w1c, 0, 0, 1⟩
def EVENT_MIRROR_STALE : Field := ⟨0x10, 12, 1, .w1c, 0, 0, 1⟩
def EVENT_ACCESS_ERR : Field := ⟨0x10, 13, 1, .w1c, 0, 0, 1⟩

-- EVENT_EN, offset 0x014, Room (01_house_architecture.md)
def EVENT_EN_EN : Field := ⟨0x14, 0, 14, .rw, 385, 0, 16383⟩

-- CLK_STAT, offset 0x080, Hall (02_clocks_reset_states.md)
def CLK_STAT_XTAL_OK : Field := ⟨0x80, 0, 1, .ro, 0, 0, 1⟩
def CLK_STAT_PLL_LOCK : Field := ⟨0x80, 1, 1, .ro, 0, 0, 1⟩
def CLK_STAT_SLOW_SRC : Field := ⟨0x80, 2, 1, .ro, 0, 0, 1⟩
def CLK_STAT_SLOW_XTAL_OK : Field := ⟨0x80, 3, 1, .ro, 0, 0, 1⟩
def CLK_STAT_RC_CAL_VALID : Field := ⟨0x80, 4, 1, .ro, 0, 0, 1⟩

-- CLK_CTRL, offset 0x084, Hall (02_clocks_reset_states.md)
def CLK_CTRL_SLOW_SEL : Field := ⟨0x84, 0, 1, .rw, 0, 0, 1⟩
def CLK_CTRL_RC_CAL_EN : Field := ⟨0x84, 1, 1, .rw, 1, 0, 1⟩

-- PWR_CTRL, offset 0x088, Hall (02_clocks_reset_states.md)
def PWR_CTRL_REQ : Field := ⟨0x88, 0, 3, .rw, 0, 0, 7⟩
def PWR_CTRL_RESET_KEY : Field := ⟨0x88, 8, 8, .wo, 0, 0, 255⟩

-- PWR_STAT, offset 0x08C, Hall (02_clocks_reset_states.md)
def PWR_STAT_STATE : Field := ⟨0x8C, 0, 3, .ro, 0, 0, 7⟩
def PWR_STAT_PENDING : Field := ⟨0x8C, 3, 1, .ro, 0, 0, 1⟩
def PWR_STAT_BOOT_DONE : Field := ⟨0x8C, 4, 1, .ro, 0, 0, 1⟩
def PWR_STAT_REFUSE : Field := ⟨0x8C, 5, 3, .rc, 0, 0, 7⟩
def PWR_STAT_ABORTED : Field := ⟨0x8C, 8, 1, .rc, 0, 0, 1⟩

-- WAKE_EN, offset 0x090, Hall (02_clocks_reset_states.md)
def WAKE_EN_WAKE_PIN : Field := ⟨0x90, 0, 1, .rw, 1, 0, 1⟩
def WAKE_EN_CC : Field := ⟨0x90, 1, 1, .rw, 1, 0, 1⟩
def WAKE_EN_TW : Field := ⟨0x90, 2, 4, .rw, 15, 0, 15⟩
def WAKE_EN_KEY : Field := ⟨0x90, 6, 1, .rw, 1, 0, 1⟩
def WAKE_EN_ALARM : Field := ⟨0x90, 7, 1, .rw, 0, 0, 1⟩
def WAKE_EN_HL : Field := ⟨0x90, 8, 1, .rw, 1, 0, 1⟩
def WAKE_EN_PORCH : Field := ⟨0x90, 9, 1, .rw, 1, 0, 1⟩

-- WAKE_CAUSE, offset 0x094, Hall (02_clocks_reset_states.md)
def WAKE_CAUSE_WAKE_PIN : Field := ⟨0x94, 0, 1, .rc, 0, 0, 1⟩
def WAKE_CAUSE_CC : Field := ⟨0x94, 1, 1, .rc, 0, 0, 1⟩
def WAKE_CAUSE_TW : Field := ⟨0x94, 2, 4, .rc, 0, 0, 15⟩
def WAKE_CAUSE_KEY : Field := ⟨0x94, 6, 1, .rc, 0, 0, 1⟩
def WAKE_CAUSE_ALARM : Field := ⟨0x94, 7, 1, .rc, 0, 0, 1⟩
def WAKE_CAUSE_FIRE : Field := ⟨0x94, 8, 1, .rc, 0, 0, 1⟩
def WAKE_CAUSE_HL : Field := ⟨0x94, 9, 1, .rc, 0, 0, 1⟩
def WAKE_CAUSE_PORCH : Field := ⟨0x94, 10, 1, .rc, 0, 0, 1⟩
def WAKE_CAUSE_SLOW_SWITCH : Field := ⟨0x94, 11, 1, .rc, 0, 0, 1⟩
def WAKE_CAUSE_CC_PORT : Field := ⟨0x94, 12, 6, .rc, 0, 0, 63⟩

-- WAKE_ALARM, offset 0x098, Hall (02_clocks_reset_states.md)
def WAKE_ALARM_COMPARE : Field := ⟨0x98, 0, 32, .rw, 0, 0, 0xffffffff⟩

-- RESET_CAUSE, offset 0x09C, Hall (02_clocks_reset_states.md)
def RESET_CAUSE_AON_POR : Field := ⟨0x9C, 0, 1, .rc, 1, 0, 1⟩
def RESET_CAUSE_BOR_CORE : Field := ⟨0x9C, 1, 1, .rc, 0, 0, 1⟩
def RESET_CAUSE_BOR_IO : Field := ⟨0x9C, 2, 1, .rc, 0, 0, 1⟩
def RESET_CAUSE_BOR_A : Field := ⟨0x9C, 3, 1, .rc, 0, 0, 1⟩
def RESET_CAUSE_PIN : Field := ⟨0x9C, 4, 1, .rc, 0, 0, 1⟩
def RESET_CAUSE_WDT : Field := ⟨0x9C, 5, 1, .rc, 0, 0, 1⟩
def RESET_CAUSE_CLK_FAIL : Field := ⟨0x9C, 6, 1, .rc, 0, 0, 1⟩
def RESET_CAUSE_SOFT : Field := ⟨0x9C, 7, 1, .rc, 0, 0, 1⟩
def RESET_CAUSE_DEBUG : Field := ⟨0x9C, 8, 1, .rc, 0, 0, 1⟩
def RESET_CAUSE_STANDBY_EXIT : Field := ⟨0x9C, 9, 1, .rc, 0, 0, 1⟩

-- PLAN_STAT, offset 0x280, Hall (03_plan_image.md)
def PLAN_STAT_APPLIED : Field := ⟨0x280, 0, 1, .ro, 0, 0, 1⟩
def PLAN_STAT_SLOT : Field := ⟨0x280, 1, 1, .ro, 0, 0, 1⟩
def PLAN_STAT_PAIR_MODE : Field := ⟨0x280, 2, 1, .ro, 0, 0, 1⟩
def PLAN_STAT_REASON0 : Field := ⟨0x280, 8, 8, .ro, 255, 0, 255⟩
def PLAN_STAT_REASON1 : Field := ⟨0x280, 16, 8, .ro, 255, 0, 255⟩

-- PLAN_ID, offset 0x284, Hall (03_plan_image.md)
def PLAN_ID_ID : Field := ⟨0x284, 0, 32, .ro, 0, 0, 0xffffffff⟩

-- PLAN_REV, offset 0x288, Hall (03_plan_image.md)
def PLAN_REV_REV : Field := ⟨0x288, 0, 32, .ro, 0, 0, 0xffffffff⟩

-- PLAN_FMT, offset 0x28C, Hall (03_plan_image.md)
def PLAN_FMT_MAJOR : Field := ⟨0x28C, 0, 8, .ro, 0, 0, 255⟩
def PLAN_FMT_MINOR : Field := ⟨0x28C, 8, 8, .ro, 0, 0, 255⟩
def PLAN_FMT_SCHEMA : Field := ⟨0x28C, 16, 16, .ro, 0, 0, 65535⟩

-- PLAN_RD_ADDR, offset 0x290, Hall (03_plan_image.md)
def PLAN_RD_ADDR_ADDR : Field := ⟨0x290, 2, 18, .rw, 0, 0, 262143⟩

-- PLAN_RD_DATA, offset 0x294, Hall (03_plan_image.md)
def PLAN_RD_DATA_DATA : Field := ⟨0x294, 0, 32, .ro, 0, 0, 0xffffffff⟩

-- ERR_LOC0, offset 0x298, Hall (03_plan_image.md)
def ERR_LOC0_OFFSET : Field := ⟨0x298, 0, 24, .ro, 0, 0, 16777215⟩
def ERR_LOC0_TYPE : Field := ⟨0x298, 24, 8, .ro, 0, 0, 255⟩

-- ERR_LOC1, offset 0x29C, Hall (03_plan_image.md)
def ERR_LOC1_OFFSET : Field := ⟨0x29C, 0, 24, .ro, 0, 0, 16777215⟩
def ERR_LOC1_TYPE : Field := ⟨0x29C, 24, 8, .ro, 0, 0, 255⟩

-- CC_TIMING, offset 0x040, Room (04_attach_and_cc.md)
def CC_TIMING_TCCDB : Field := ⟨0x40, 0, 8, .rw, 150, 100, 200⟩
def CC_TIMING_TPDDB : Field := ⟨0x40, 8, 5, .rw, 15, 10, 20⟩
def CC_TIMING_TTRYDB : Field := ⟨0x40, 16, 5, .rw, 15, 10, 20⟩
def CC_TIMING_TERR : Field := ⟨0x40, 24, 8, .rw, 25, 25, 100⟩

-- CC_DRP, offset 0x044, Room (04_attach_and_cc.md)
def CC_DRP_TDRP : Field := ⟨0x44, 0, 7, .rw, 75, 50, 100⟩
def CC_DRP_DUTY : Field := ⟨0x44, 8, 7, .rw, 50, 30, 70⟩
def CC_DRP_TDRPTRY : Field := ⟨0x44, 16, 8, .rw, 100, 75, 150⟩

-- CC_CMD, offset 0x048, Room (04_attach_and_cc.md)
def CC_CMD_ERROR_RECOVERY : Field := ⟨0x48, 0, 1, .wo, 0, 0, 1⟩

-- CC_STAT, offset 0x04C, Room (04_attach_and_cc.md)
def CC_STAT_ASTATE : Field := ⟨0x4C, 0, 4, .ro, 0, 0, 15⟩
def CC_STAT_ORIENT : Field := ⟨0x4C, 4, 1, .ro, 0, 0, 1⟩
def CC_STAT_ORIENT_VALID : Field := ⟨0x4C, 5, 1, .ro, 0, 0, 1⟩
def CC_STAT_PARTNER : Field := ⟨0x4C, 6, 3, .ro, 0, 0, 7⟩
def CC_STAT_RP_SEEN : Field := ⟨0x4C, 9, 2, .ro, 0, 0, 3⟩
def CC_STAT_RP_ADV : Field := ⟨0x4C, 11, 2, .ro, 0, 0, 3⟩
def CC_STAT_VCONN_ON : Field := ⟨0x4C, 13, 1, .ro, 0, 0, 1⟩
def CC_STAT_VCONN_LOCK : Field := ⟨0x4C, 14, 1, .ro, 0, 0, 1⟩
def CC_STAT_BUDGET_WAIT : Field := ⟨0x4C, 15, 1, .ro, 0, 0, 1⟩
def CC_STAT_CC1_ISOL : Field := ⟨0x4C, 16, 1, .ro, 0, 0, 1⟩
def CC_STAT_CC2_ISOL : Field := ⟨0x4C, 17, 1, .ro, 0, 0, 1⟩
def CC_STAT_VBUS_SAFE0 : Field := ⟨0x4C, 18, 1, .ro, 0, 0, 1⟩
def CC_STAT_VBUS_PRESENT : Field := ⟨0x4C, 19, 1, .ro, 0, 0, 1⟩
def CC_STAT_MIRRORED : Field := ⟨0x4C, 20, 1, .ro, 0, 0, 1⟩

-- CC_LEVEL, offset 0x050, Room (04_attach_and_cc.md)
def CC_LEVEL_CC1_LVL : Field := ⟨0x50, 0, 3, .ro, 4, 0, 7⟩
def CC_LEVEL_CC2_LVL : Field := ⟨0x50, 3, 3, .ro, 4, 0, 7⟩
def CC_LEVEL_CC1_OV : Field := ⟨0x50, 6, 1, .ro, 0, 0, 1⟩
def CC_LEVEL_CC2_OV : Field := ⟨0x50, 7, 1, .ro, 0, 0, 1⟩

-- VCONN_CTRL, offset 0x054, Room (04_attach_and_cc.md)
def VCONN_CTRL_EN : Field := ⟨0x54, 0, 1, .rw, 0, 0, 1⟩
def VCONN_CTRL_AUTO : Field := ⟨0x54, 1, 1, .rw, 1, 0, 1⟩

-- CC_EVENT, offset 0x058, Room (04_attach_and_cc.md)
def CC_EVENT_ATTACH_SRC : Field := ⟨0x58, 0, 1, .w1c, 0, 0, 1⟩
def CC_EVENT_ATTACH_SNK : Field := ⟨0x58, 1, 1, .w1c, 0, 0, 1⟩
def CC_EVENT_DETACH : Field := ⟨0x58, 2, 1, .w1c, 0, 0, 1⟩
def CC_EVENT_RP_CHANGE : Field := ⟨0x58, 3, 1, .w1c, 0, 0, 1⟩
def CC_EVENT_PARTNER_CHANGE : Field := ⟨0x58, 4, 1, .w1c, 0, 0, 1⟩
def CC_EVENT_DEBUG_ACC : Field := ⟨0x58, 5, 1, .w1c, 0, 0, 1⟩
def CC_EVENT_AUDIO_ACC : Field := ⟨0x58, 6, 1, .w1c, 0, 0, 1⟩
def CC_EVENT_VCONN_OC : Field := ⟨0x58, 7, 1, .w1c, 0, 0, 1⟩
def CC_EVENT_CC_OV : Field := ⟨0x58, 8, 1, .w1c, 0, 0, 1⟩
def CC_EVENT_BUDGET_WAIT : Field := ⟨0x58, 9, 1, .w1c, 0, 0, 1⟩

-- PD_CFG, offset 0x080, Room (05_pd_protocol.md)
def PD_CFG_MAX_REV : Field := ⟨0x80, 0, 2, .rw, 0, 0, 3⟩
def PD_CFG_AUTO_SR : Field := ⟨0x80, 2, 1, .rw, 1, 0, 1⟩
def PD_CFG_CABLE_AUTO : Field := ⟨0x80, 3, 1, .rw, 1, 0, 1⟩
def PD_CFG_CABLE_TRIES : Field := ⟨0x80, 4, 5, .rw, 20, 1, 20⟩
def PD_CFG_BIST_EN : Field := ⟨0x80, 9, 1, .rw, 0, 0, 1⟩
def PD_CFG_EPR_KA_AUTO : Field := ⟨0x80, 10, 1, .rw, 1, 0, 1⟩
def PD_CFG_EXT_RX_PTR : Field := ⟨0x80, 12, 10, .rw, 958, 0, 958⟩

-- PD_STAT, offset 0x084, Room (05_pd_protocol.md)
def PD_STAT_REV_SOP : Field := ⟨0x84, 0, 2, .ro, 0, 0, 3⟩
def PD_STAT_REV_SOPP : Field := ⟨0x84, 2, 2, .ro, 0, 0, 3⟩
def PD_STAT_REV_SOPPP : Field := ⟨0x84, 4, 2, .ro, 0, 0, 3⟩
def PD_STAT_EXPLICIT : Field := ⟨0x84, 6, 1, .ro, 0, 0, 1⟩
def PD_STAT_EPR_ACTIVE : Field := ⟨0x84, 7, 1, .ro, 0, 0, 1⟩
def PD_STAT_HR_ACTIVE : Field := ⟨0x84, 8, 1, .ro, 0, 0, 1⟩
def PD_STAT_DATA_ROLE : Field := ⟨0x84, 9, 1, .ro, 0, 0, 1⟩
def PD_STAT_SINKTX : Field := ⟨0x84, 10, 1, .ro, 0, 0, 1⟩
def PD_STAT_CABLE_STATE : Field := ⟨0x84, 11, 3, .ro, 0, 0, 7⟩
def PD_STAT_HR_COUNT : Field := ⟨0x84, 14, 2, .ro, 0, 0, 3⟩
def PD_STAT_RXQ_COUNT : Field := ⟨0x84, 16, 3, .ro, 0, 0, 7⟩
def PD_STAT_VDMIN_COUNT : Field := ⟨0x84, 19, 2, .ro, 0, 0, 3⟩
def PD_STAT_HVDM_STATE : Field := ⟨0x84, 21, 3, .ro, 0, 0, 7⟩
def PD_STAT_BIST : Field := ⟨0x84, 24, 1, .ro, 0, 0, 1⟩

-- PD_CMD, offset 0x088, Room (05_pd_protocol.md)
def PD_CMD_HARD_RESET : Field := ⟨0x88, 0, 1, .wo, 0, 0, 1⟩
def PD_CMD_CABLE_RESET : Field := ⟨0x88, 1, 1, .wo, 0, 0, 1⟩
def PD_CMD_CABLE_DISC : Field := ⟨0x88, 2, 1, .wo, 0, 0, 1⟩
def PD_CMD_RX_POP : Field := ⟨0x88, 3, 1, .wo, 0, 0, 1⟩
def PD_CMD_VDM_POP : Field := ⟨0x88, 4, 1, .wo, 0, 0, 1⟩
def PD_CMD_TX_RELEASE : Field := ⟨0x88, 5, 1, .wo, 0, 0, 1⟩
def PD_CMD_TX_WITHDRAW : Field := ⟨0x88, 6, 1, .wo, 0, 0, 1⟩
def PD_CMD_AMS_END : Field := ⟨0x88, 7, 1, .wo, 0, 0, 1⟩
def PD_CMD_HVDM_SEND : Field := ⟨0x88, 8, 1, .wo, 0, 0, 1⟩

-- PD_EVENT, offset 0x08C, Room (05_pd_protocol.md)
def PD_EVENT_RX : Field := ⟨0x8C, 0, 1, .w1c, 0, 0, 1⟩
def PD_EVENT_TX_DONE : Field := ⟨0x8C, 1, 1, .w1c, 0, 0, 1⟩
def PD_EVENT_TX_REJ : Field := ⟨0x8C, 2, 1, .w1c, 0, 0, 1⟩
def PD_EVENT_TX_HELD : Field := ⟨0x8C, 3, 1, .w1c, 0, 0, 1⟩
def PD_EVENT_HR_RX : Field := ⟨0x8C, 4, 1, .w1c, 0, 0, 1⟩
def PD_EVENT_HR_TX : Field := ⟨0x8C, 5, 1, .w1c, 0, 0, 1⟩
def PD_EVENT_SR_RX : Field := ⟨0x8C, 6, 1, .w1c, 0, 0, 1⟩
def PD_EVENT_CABLE_DONE : Field := ⟨0x8C, 7, 1, .w1c, 0, 0, 1⟩
def PD_EVENT_CHUNK_ERR : Field := ⟨0x8C, 8, 1, .w1c, 0, 0, 1⟩
def PD_EVENT_RX_BUSY : Field := ⟨0x8C, 9, 1, .w1c, 0, 0, 1⟩
def PD_EVENT_VDM_IN : Field := ⟨0x8C, 10, 1, .w1c, 0, 0, 1⟩
def PD_EVENT_HVDM_DONE : Field := ⟨0x8C, 11, 1, .w1c, 0, 0, 1⟩
def PD_EVENT_AUTO_REPLY : Field := ⟨0x8C, 12, 1, .w1c, 0, 0, 1⟩
def PD_EVENT_KA_MISS : Field := ⟨0x8C, 13, 1, .w1c, 0, 0, 1⟩
def PD_EVENT_REV_SET : Field := ⟨0x8C, 14, 1, .w1c, 0, 0, 1⟩
def PD_EVENT_ERR_RECOVERY : Field := ⟨0x8C, 15, 1, .w1c, 0, 0, 1⟩

-- TX_STAT, offset 0x090, Room (05_pd_protocol.md)
def TX_STAT_STATE : Field := ⟨0x90, 0, 4, .ro, 0, 0, 15⟩
def TX_STAT_TRIES : Field := ⟨0x90, 4, 2, .ro, 0, 0, 3⟩
def TX_STAT_MSGID : Field := ⟨0x90, 6, 3, .ro, 0, 0, 7⟩
def TX_STAT_REJ_CODE : Field := ⟨0x90, 10, 4, .ro, 0, 0, 15⟩

-- PD_ERRCNT, offset 0x094, Room (05_pd_protocol.md)
def PD_ERRCNT_CRC_ERR : Field := ⟨0x94, 0, 8, .rc, 0, 0, 255⟩
def PD_ERRCNT_TRUNC : Field := ⟨0x94, 8, 8, .rc, 0, 0, 255⟩
def PD_ERRCNT_DUP : Field := ⟨0x94, 16, 8, .rc, 0, 0, 255⟩
def PD_ERRCNT_RX_BUSY : Field := ⟨0x94, 24, 8, .rc, 0, 0, 255⟩

-- CABLE_IDH, offset 0x098, Room (05_pd_protocol.md)
def CABLE_IDH_IDH : Field := ⟨0x98, 0, 32, .ro, 0, 0, 0xffffffff⟩

-- CABLE_VDO, offset 0x09C, Room (05_pd_protocol.md)
def CABLE_VDO_VDO1 : Field := ⟨0x9C, 0, 32, .ro, 0, 0, 0xffffffff⟩

-- DISC_ID, offset 0x0A0, Room (05_pd_protocol.md)
def DISC_ID_VID : Field := ⟨0xA0, 0, 16, .rw, 15005, 0, 65535⟩
def DISC_ID_PID : Field := ⟨0xA0, 16, 16, .rw, 0, 0, 65535⟩

-- VIN0, offset 0x0C0, Room (05_pd_protocol.md)
def VIN0_HDR : Field := ⟨0xC0, 0, 16, .ro, 0, 0, 65535⟩
def VIN0_VALID : Field := ⟨0xC0, 16, 1, .ro, 0, 0, 1⟩

-- VIN1–VIN7, offset 0x0C4–0x0DC, Room (05_pd_protocol.md)
def VINN_DO : Field := ⟨0xC4, 0, 32, .ro, 0, 0, 0xffffffff⟩

-- HV0, offset 0x0E0, Room (05_pd_protocol.md)
def HV0_HDR : Field := ⟨0xE0, 0, 16, .rw, 0, 0, 65535⟩

-- HV1–HV7, offset 0x0E4–0x0FC, Room (05_pd_protocol.md)
def HVN_DO : Field := ⟨0xE4, 0, 32, .rw, 0, 0, 0xffffffff⟩

-- TXW0, offset 0x100, Room (05_pd_protocol.md)
def TXW0_HDR : Field := ⟨0x100, 0, 16, .rw, 0, 0, 65535⟩
def TXW0_SOP : Field := ⟨0x100, 16, 2, .rw, 0, 0, 3⟩
def TXW0_INITIATE : Field := ⟨0x100, 18, 1, .rw, 0, 0, 1⟩
def TXW0_SEND : Field := ⟨0x100, 19, 1, .rw, 0, 0, 1⟩
def TXW0_EXT_PTR : Field := ⟨0x100, 22, 10, .rw, 0, 0, 1023⟩

-- TXW1–TXW7, offset 0x104–0x11C, Room (05_pd_protocol.md)
def TXWN_DO : Field := ⟨0x104, 0, 32, .rw, 0, 0, 0xffffffff⟩

-- RXW0, offset 0x120, Room (05_pd_protocol.md)
def RXW0_HDR : Field := ⟨0x120, 0, 16, .ro, 0, 0, 65535⟩
def RXW0_SOP : Field := ⟨0x120, 16, 2, .ro, 0, 0, 3⟩
def RXW0_EXT : Field := ⟨0x120, 18, 1, .ro, 0, 0, 1⟩
def RXW0_VALID : Field := ⟨0x120, 19, 1, .ro, 0, 0, 1⟩

-- RXW1–RXW7, offset 0x124–0x13C, Room (05_pd_protocol.md)
def RXWN_DO : Field := ⟨0x124, 0, 32, .ro, 0, 0, 0xffffffff⟩

-- NEG_CTRL, offset 0x140, Room (06_contracts_roles.md)
def NEG_CTRL_TYPE : Field := ⟨0x140, 0, 3, .rw, 0, 0, 7⟩
def NEG_CTRL_POS : Field := ⟨0x140, 3, 4, .rw, 0, 0, 15⟩
def NEG_CTRL_VALID : Field := ⟨0x140, 7, 1, .rw, 0, 0, 1⟩

-- NEG_VI, offset 0x144, Room (06_contracts_roles.md)
def NEG_VI_MV : Field := ⟨0x144, 0, 16, .rw, 0, 0, 65535⟩
def NEG_VI_MA : Field := ⟨0x144, 16, 13, .rw, 0, 0, 8191⟩

-- CON_STAT, offset 0x148, Room (06_contracts_roles.md)
def CON_STAT_TYPE : Field := ⟨0x148, 0, 3, .ro, 0, 0, 7⟩
def CON_STAT_POS : Field := ⟨0x148, 3, 4, .ro, 0, 0, 15⟩
def CON_STAT_SWAP : Field := ⟨0x148, 7, 3, .ro, 0, 0, 7⟩
def CON_STAT_STEP : Field := ⟨0x148, 10, 4, .ro, 0, 0, 15⟩
def CON_STAT_HR_SEQ : Field := ⟨0x148, 14, 1, .ro, 0, 0, 1⟩
def CON_STAT_RAMPING : Field := ⟨0x148, 15, 1, .ro, 0, 0, 1⟩
def CON_STAT_SETTLED : Field := ⟨0x148, 16, 1, .ro, 0, 0, 1⟩
def CON_STAT_GATE : Field := ⟨0x148, 17, 4, .ro, 0, 0, 15⟩
def CON_STAT_GIVEUP : Field := ⟨0x148, 21, 1, .ro, 0, 0, 1⟩
def CON_STAT_ENFORCED : Field := ⟨0x148, 22, 1, .ro, 0, 0, 1⟩
def CON_STAT_FRS_READY : Field := ⟨0x148, 23, 1, .ro, 0, 0, 1⟩

-- CON_VI, offset 0x14C, Room (06_contracts_roles.md)
def CON_VI_MV : Field := ⟨0x14C, 0, 16, .ro, 0, 0, 65535⟩
def CON_VI_MA : Field := ⟨0x14C, 16, 13, .ro, 0, 0, 8191⟩

-- CON_LIM, offset 0x150, Room (06_contracts_roles.md)
def CON_LIM_ILIM : Field := ⟨0x150, 0, 13, .ro, 0, 0, 8191⟩
def CON_LIM_CAUSE : Field := ⟨0x150, 13, 3, .ro, 0, 0, 7⟩
def CON_LIM_VLIM : Field := ⟨0x150, 16, 16, .ro, 0, 0, 65535⟩

-- CABLE_LIM, offset 0x154, Room (06_contracts_roles.md)
def CABLE_LIM_IMAX_MA : Field := ⟨0x154, 0, 13, .ro, 3000, 0, 8191⟩
def CABLE_LIM_EPR_OK : Field := ⟨0x154, 13, 1, .ro, 0, 0, 1⟩
def CABLE_LIM_FROM_EMARKER : Field := ⟨0x154, 14, 1, .ro, 0, 0, 1⟩
def CABLE_LIM_VMAX_MV : Field := ⟨0x154, 16, 16, .ro, 20000, 0, 65535⟩

-- VSET, offset 0x158, Room (06_contracts_roles.md)
def VSET_MV : Field := ⟨0x158, 0, 16, .rw, 0, 0, 65535⟩
def VSET_REF : Field := ⟨0x158, 16, 16, .ro, 0, 0, 65535⟩

-- CON_CFG, offset 0x15C, Room (06_contracts_roles.md)
def CON_CFG_SLEW : Field := ⟨0x15C, 0, 6, .rw, 30, 1, 60⟩
def CON_CFG_TSRC : Field := ⟨0x15C, 8, 6, .rw, 30, 25, 35⟩
def CON_CFG_GIVEUP : Field := ⟨0x15C, 16, 7, .rw, 20, 1, 100⟩

-- GRANT_ASK, offset 0x160, Room (06_contracts_roles.md)
def GRANT_ASK_ASK_W : Field := ⟨0x160, 0, 16, .rw, 0, 0, 65535⟩
def GRANT_ASK_STATE : Field := ⟨0x160, 16, 2, .ro, 0, 0, 3⟩

-- GRANT, offset 0x164, Room (06_contracts_roles.md)
def GRANT_GRANT_W : Field := ⟨0x164, 0, 16, .ro, 0, 0, 65535⟩
def GRANT_RESV_W : Field := ⟨0x164, 16, 16, .ro, 0, 0, 65535⟩

-- FRS_CTRL, offset 0x168, Room (06_contracts_roles.md)
def FRS_CTRL_ARM : Field := ⟨0x168, 0, 1, .rw, 0, 0, 1⟩
def FRS_CTRL_FRS_I : Field := ⟨0x168, 1, 2, .rw, 0, 0, 3⟩
def FRS_CTRL_TRIG_AUTO : Field := ⟨0x168, 3, 1, .rw, 1, 0, 1⟩
def FRS_CTRL_TRIG : Field := ⟨0x168, 4, 1, .wo, 0, 0, 1⟩

-- SINK_CTRL, offset 0x16C, Room (06_contracts_roles.md)
def SINK_CTRL_SINK_I : Field := ⟨0x16C, 0, 13, .rw, 0, 0, 8191⟩

-- CON_EVENT, offset 0x170, Room (06_contracts_roles.md)
def CON_EVENT_CONTRACT : Field := ⟨0x170, 0, 1, .w1c, 0, 0, 1⟩
def CON_EVENT_SETTLED : Field := ⟨0x170, 1, 1, .w1c, 0, 0, 1⟩
def CON_EVENT_GATE : Field := ⟨0x170, 2, 1, .w1c, 0, 0, 1⟩
def CON_EVENT_CAPS_CLAMPED : Field := ⟨0x170, 3, 1, .w1c, 0, 0, 1⟩
def CON_EVENT_SWAP_DONE : Field := ⟨0x170, 4, 1, .w1c, 0, 0, 1⟩
def CON_EVENT_SWAP_FAIL : Field := ⟨0x170, 5, 1, .w1c, 0, 0, 1⟩
def CON_EVENT_FRS_TX : Field := ⟨0x170, 6, 1, .w1c, 0, 0, 1⟩
def CON_EVENT_FRS_RX : Field := ⟨0x170, 7, 1, .w1c, 0, 0, 1⟩
def CON_EVENT_GIVEUP : Field := ⟨0x170, 8, 1, .w1c, 0, 0, 1⟩
def CON_EVENT_ENFORCE : Field := ⟨0x170, 9, 1, .w1c, 0, 0, 1⟩
def CON_EVENT_SETTLE_FAIL : Field := ⟨0x170, 10, 1, .w1c, 0, 0, 1⟩
def CON_EVENT_RESV_LAPSE : Field := ⟨0x170, 11, 1, .w1c, 0, 0, 1⟩
def CON_EVENT_VLIM_DROP : Field := ⟨0x170, 12, 1, .w1c, 0, 0, 1⟩

-- PWM_TIMING, offset 0x1C0, Room (07_port_converter.md)
def PWM_TIMING_PER : Field := ⟨0x1C0, 0, 13, .ro, 0, 0, 8191⟩
def PWM_TIMING_PHASE : Field := ⟨0x1C0, 16, 13, .ro, 0, 0, 8191⟩
def PWM_TIMING_LATE : Field := ⟨0x1C0, 29, 1, .ro, 0, 0, 1⟩

-- PWM_LIMIT, offset 0x1C4, Room (07_port_converter.md)
def PWM_LIMIT_MIN_ON : Field := ⟨0x1C4, 0, 8, .rw, 24, 0, 240⟩
def PWM_LIMIT_MIN_OFF : Field := ⟨0x1C4, 8, 8, .rw, 48, 0, 240⟩

-- PWM_STAT, offset 0x1C8, Room (07_port_converter.md)
def PWM_STAT_HIGH_T : Field := ⟨0x1C8, 0, 17, .ro, 0, 0, 131071⟩
def PWM_STAT_LEVEL : Field := ⟨0x1C8, 17, 2, .ro, 2, 0, 3⟩
def PWM_STAT_HOLD : Field := ⟨0x1C8, 19, 1, .ro, 0, 0, 1⟩
def PWM_STAT_SKIP : Field := ⟨0x1C8, 20, 1, .ro, 0, 0, 1⟩

-- LOOP_CFG, offset 0x1CC, Room (07_port_converter.md)
def LOOP_CFG_ESHIFT : Field := ⟨0x1CC, 0, 3, .rw, 3, 0, 7⟩
def LOOP_CFG_COEF_APPLY : Field := ⟨0x1CC, 3, 1, .wo, 0, 0, 1⟩
def LOOP_CFG_SS_T : Field := ⟨0x1CC, 4, 4, .rw, 10, 1, 15⟩
def LOOP_CFG_DISCH_T : Field := ⟨0x1CC, 8, 7, .rw, 38, 5, 80⟩
def LOOP_CFG_DRAW_SLEW : Field := ⟨0x1CC, 16, 8, .rw, 10, 1, 255⟩

-- COEF_B0, COEF_B1, COEF_B2, COEF_B3, COEF_A1, COEF_A2, COEF_A3, offset 0x1D0–0x1E8, Room (07_port_converter.md)
def COEF_B0_COEF : Field := ⟨0x1D0, 0, 24, .rw, 0, 0, 16777215⟩
def COEF_B1_COEF : Field := ⟨0x1D4, 0, 24, .rw, 0, 0, 16777215⟩
def COEF_B2_COEF : Field := ⟨0x1D8, 0, 24, .rw, 0, 0, 16777215⟩
def COEF_B3_COEF : Field := ⟨0x1DC, 0, 24, .rw, 0, 0, 16777215⟩
def COEF_A1_COEF : Field := ⟨0x1E0, 0, 24, .rw, 0, 0, 16777215⟩
def COEF_A2_COEF : Field := ⟨0x1E4, 0, 24, .rw, 0, 0, 16777215⟩
def COEF_A3_COEF : Field := ⟨0x1E8, 0, 24, .rw, 0, 0, 16777215⟩

-- CL_KI, offset 0x1EC, Room (07_port_converter.md)
def CL_KI_KCL : Field := ⟨0x1EC, 0, 24, .rw, 0x40000, 0, 16777215⟩

-- REV_KP, REV_KI, offset 0x1F0, 0x1F4, Room (07_port_converter.md)
def REV_KP_GAIN : Field := ⟨0x1F0, 0, 24, .rw, 0, 0, 16777215⟩
def REV_KI_GAIN : Field := ⟨0x1F4, 0, 24, .rw, 0, 0, 16777215⟩

-- LOOP_STAT, offset 0x1F8, Room (07_port_converter.md)
def LOOP_STAT_STATE : Field := ⟨0x1F8, 0, 3, .ro, 0, 0, 7⟩
def LOOP_STAT_ILIMITING : Field := ⟨0x1F8, 3, 1, .ro, 0, 0, 1⟩
def LOOP_STAT_FF_CLAMP : Field := ⟨0x1F8, 4, 1, .ro, 0, 0, 1⟩
def LOOP_STAT_YSAT : Field := ⟨0x1F8, 5, 1, .ro, 0, 0, 1⟩
def LOOP_STAT_Y : Field := ⟨0x1F8, 8, 24, .ro, 0, 0, 16777215⟩

-- ADC_VBUS, offset 0x200, Room (07_port_converter.md)
def ADC_VBUS_LOOP : Field := ⟨0x200, 0, 12, .ro, 0, 0, 4095⟩
def ADC_VBUS_AVG : Field := ⟨0x200, 16, 12, .ro, 0, 0, 4095⟩

-- ADC_I, offset 0x204, Room (07_port_converter.md)
def ADC_I_LOOP : Field := ⟨0x204, 0, 12, .ro, 0, 0, 4095⟩
def ADC_I_AVG : Field := ⟨0x204, 16, 12, .ro, 0, 0, 4095⟩

-- ADC_VNODE, offset 0x208, Room (07_port_converter.md)
def ADC_VNODE_VNODE : Field := ⟨0x208, 0, 12, .ro, 0, 0, 4095⟩
def ADC_VNODE_VIN : Field := ⟨0x208, 16, 12, .ro, 0, 0, 4095⟩

-- THR_OV, THR_UV, THR_PK, THR_SC, offset 0x210–0x21C, Room (07_port_converter.md)
def THR_OV_FRAC : Field := ⟨0x210, 0, 10, .rw, 1023, 0, 1023⟩
def THR_OV_BLANK : Field := ⟨0x210, 10, 8, .rw, 0, 0, 240⟩
def THR_OV_FILT_M : Field := ⟨0x210, 18, 2, .rw, 1, 0, 3⟩
def THR_OV_FILT_N : Field := ⟨0x210, 20, 3, .rw, 3, 0, 7⟩
def THR_OV_AUTOCLR : Field := ⟨0x210, 23, 1, .rw, 1, 0, 1⟩
def THR_OV_TRACK : Field := ⟨0x210, 24, 1, .rw, 1, 0, 1⟩
def THR_OV_PCT : Field := ⟨0x210, 25, 6, .rw, 10, 1, 50⟩
def THR_UV_FRAC : Field := ⟨0x214, 0, 10, .rw, 0, 0, 1023⟩
def THR_UV_BLANK : Field := ⟨0x214, 10, 8, .rw, 0, 0, 240⟩
def THR_UV_FILT_M : Field := ⟨0x214, 18, 2, .rw, 1, 0, 3⟩
def THR_UV_FILT_N : Field := ⟨0x214, 20, 3, .rw, 3, 0, 7⟩
def THR_UV_AUTOCLR : Field := ⟨0x214, 23, 1, .rw, 0, 0, 1⟩
def THR_UV_TRACK : Field := ⟨0x214, 24, 1, .rw, 1, 0, 1⟩
def THR_UV_PCT : Field := ⟨0x214, 25, 6, .rw, 15, 1, 50⟩
def THR_PK_FRAC : Field := ⟨0x218, 0, 10, .rw, 682, 0, 1023⟩
def THR_PK_BLANK : Field := ⟨0x218, 10, 8, .rw, 24, 0, 240⟩
def THR_PK_FILT_M : Field := ⟨0x218, 18, 2, .rw, 1, 0, 3⟩
def THR_PK_FILT_N : Field := ⟨0x218, 20, 3, .rw, 3, 0, 7⟩
def THR_PK_AUTOCLR : Field := ⟨0x218, 23, 1, .rw, 1, 0, 1⟩
def THR_PK_TRACK : Field := ⟨0x218, 24, 1, .ro, 0, 0, 1⟩
def THR_PK_PCT : Field := ⟨0x218, 25, 6, .ro, 0, 0, 63⟩
def THR_SC_FRAC : Field := ⟨0x21C, 0, 10, .rw, 1023, 0, 1023⟩
def THR_SC_BLANK : Field := ⟨0x21C, 10, 8, .rw, 0, 0, 240⟩
def THR_SC_FILT_M : Field := ⟨0x21C, 18, 2, .rw, 1, 0, 3⟩
def THR_SC_FILT_N : Field := ⟨0x21C, 20, 3, .rw, 3, 0, 7⟩
def THR_SC_AUTOCLR : Field := ⟨0x21C, 23, 1, .ro, 0, 0, 1⟩
def THR_SC_TRACK : Field := ⟨0x21C, 24, 1, .ro, 0, 0, 1⟩
def THR_SC_PCT : Field := ⟨0x21C, 25, 6, .ro, 0, 0, 63⟩

-- THR_LEVEL, offset 0x220, Room (07_port_converter.md)
def THR_LEVEL_OV_EFF : Field := ⟨0x220, 0, 10, .ro, 1023, 0, 1023⟩
def THR_LEVEL_UV_EFF : Field := ⟨0x220, 16, 10, .ro, 0, 0, 1023⟩

-- THR_STAT, offset 0x224, Room (07_port_converter.md)
def THR_STAT_RAW : Field := ⟨0x224, 0, 4, .ro, 0, 0, 15⟩
def THR_STAT_ARMED : Field := ⟨0x224, 4, 4, .ro, 0, 0, 15⟩
def THR_STAT_HOLD : Field := ⟨0x224, 8, 4, .ro, 0, 0, 15⟩

-- THR_FLAG, offset 0x228, Room (07_port_converter.md)
def THR_FLAG_OV : Field := ⟨0x228, 0, 1, .w1c, 0, 0, 1⟩
def THR_FLAG_UV : Field := ⟨0x228, 1, 1, .w1c, 0, 0, 1⟩
def THR_FLAG_PK_POS : Field := ⟨0x228, 2, 1, .w1c, 0, 0, 1⟩
def THR_FLAG_PK_NEG : Field := ⟨0x228, 3, 1, .w1c, 0, 0, 1⟩
def THR_FLAG_SC_POS : Field := ⟨0x228, 4, 1, .w1c, 0, 0, 1⟩
def THR_FLAG_SC_NEG : Field := ⟨0x228, 5, 1, .w1c, 0, 0, 1⟩

-- THR_CNT, offset 0x22C, Room (07_port_converter.md)
def THR_CNT_OV : Field := ⟨0x22C, 0, 8, .rc, 0, 0, 255⟩
def THR_CNT_UV : Field := ⟨0x22C, 8, 8, .rc, 0, 0, 255⟩
def THR_CNT_PK : Field := ⟨0x22C, 16, 8, .rc, 0, 0, 255⟩
def THR_CNT_SC : Field := ⟨0x22C, 24, 8, .rc, 0, 0, 255⟩

-- PROT_TIME, offset 0x230, Room (07_port_converter.md)
def PROT_TIME_OV_T : Field := ⟨0x230, 0, 7, .rw, 10, 1, 100⟩
def PROT_TIME_UV_T : Field := ⟨0x230, 8, 7, .rw, 2, 1, 100⟩
def PROT_TIME_REGLOSS_T : Field := ⟨0x230, 16, 6, .rw, 5, 1, 50⟩

-- CONV_EVENT, offset 0x234, Room (07_port_converter.md)
def CONV_EVENT_ILIMIT : Field := ⟨0x234, 0, 1, .w1c, 0, 0, 1⟩
def CONV_EVENT_ILIMIT_END : Field := ⟨0x234, 1, 1, .w1c, 0, 0, 1⟩
def CONV_EVENT_PK_TRIP : Field := ⟨0x234, 2, 1, .w1c, 0, 0, 1⟩
def CONV_EVENT_OV_TRIP : Field := ⟨0x234, 3, 1, .w1c, 0, 0, 1⟩
def CONV_EVENT_UV_TRIP : Field := ⟨0x234, 4, 1, .w1c, 0, 0, 1⟩
def CONV_EVENT_DIR_CHANGE : Field := ⟨0x234, 5, 1, .w1c, 0, 0, 1⟩
def CONV_EVENT_COEF_APPLIED : Field := ⟨0x234, 6, 1, .w1c, 0, 0, 1⟩
def CONV_EVENT_FOLDBACK : Field := ⟨0x234, 7, 1, .w1c, 0, 0, 1⟩
def CONV_EVENT_ATTEMPT : Field := ⟨0x234, 8, 1, .w1c, 0, 0, 1⟩
def CONV_EVENT_ATTEMPT_OK : Field := ⟨0x234, 9, 1, .w1c, 0, 0, 1⟩
def CONV_EVENT_ATTEMPT_FAIL : Field := ⟨0x234, 10, 1, .w1c, 0, 0, 1⟩
def CONV_EVENT_EXHAUSTED : Field := ⟨0x234, 11, 1, .w1c, 0, 0, 1⟩

-- SW_STAT, offset 0x280, Room (07_port_converter.md)
def SW_STAT_CMD : Field := ⟨0x280, 0, 1, .ro, 0, 0, 1⟩
def SW_STAT_FULL : Field := ⟨0x280, 1, 1, .ro, 0, 0, 1⟩
def SW_STAT_CLOSE : Field := ⟨0x280, 2, 2, .ro, 0, 0, 3⟩
def SW_STAT_CP_OK : Field := ⟨0x280, 4, 1, .ro, 0, 0, 1⟩
def SW_STAT_DISCONNECTED : Field := ⟨0x280, 5, 1, .ro, 0, 0, 1⟩
def SW_STAT_VDS : Field := ⟨0x280, 16, 16, .ro, 0, 0, 65535⟩

-- EF_LIMIT, offset 0x284, Room (07_port_converter.md)
def EF_LIMIT_MARGIN : Field := ⟨0x284, 0, 6, .rw, 10, 0, 50⟩
def EF_LIMIT_ABS : Field := ⟨0x284, 8, 13, .rw, 5500, 100, 7500⟩

-- EF_TIME, offset 0x288, Room (07_port_converter.md)
def EF_TIME_TFLT : Field := ⟨0x288, 0, 9, .rw, 50, 1, 500⟩
def EF_TIME_TFB : Field := ⟨0x288, 16, 6, .rw, 10, 1, 50⟩

-- EF_FB, offset 0x28C, Room (07_port_converter.md)
def EF_FB_PFB : Field := ⟨0x28C, 0, 8, .rw, 30, 5, 200⟩

-- RETRY_CFG, offset 0x290, Room (07_port_converter.md)
def RETRY_CFG_MAX : Field := ⟨0x290, 0, 4, .rw, 3, 0, 15⟩
def RETRY_CFG_ATT_T : Field := ⟨0x290, 8, 7, .rw, 10, 1, 100⟩
def RETRY_CFG_PER : Field := ⟨0x290, 16, 7, .rw, 10, 1, 100⟩

-- RETRY_STAT, offset 0x294, Room (07_port_converter.md)
def RETRY_STAT_COUNT : Field := ⟨0x294, 0, 4, .ro, 0, 0, 15⟩
def RETRY_STAT_WAIT : Field := ⟨0x294, 4, 1, .ro, 0, 0, 1⟩
def RETRY_STAT_ATTEMPT : Field := ⟨0x294, 5, 1, .ro, 0, 0, 1⟩
def RETRY_STAT_EXHAUSTED : Field := ⟨0x294, 6, 1, .ro, 0, 0, 1⟩
def RETRY_STAT_NEXT : Field := ⟨0x294, 16, 16, .ro, 0, 0, 65535⟩

-- EF_STAT, offset 0x298, Room (07_port_converter.md)
def EF_STAT_TIMER : Field := ⟨0x298, 0, 16, .ro, 0, 0, 65535⟩
def EF_STAT_IEF : Field := ⟨0x298, 16, 13, .ro, 0, 0, 8191⟩

-- HS_CTRL, offset 0x040, Landing (08_slot_hot_swap.md)
def HS_CTRL_EN : Field := ⟨0x40, 0, 1, .rw, 0, 0, 1⟩
def HS_CTRL_RECOVER : Field := ⟨0x40, 1, 1, .wo, 0, 0, 1⟩

-- HS_LIMIT, offset 0x044, Landing (08_slot_hot_swap.md)
def HS_LIMIT_ILIM : Field := ⟨0x44, 0, 9, .rw, 0, 1, 400⟩
def HS_LIMIT_PINR : Field := ⟨0x44, 16, 8, .rw, 60, 5, 250⟩

-- HS_TIME, offset 0x048, Landing (08_slot_hot_swap.md)
def HS_TIME_TSEAT : Field := ⟨0x48, 0, 8, .rw, 50, 10, 200⟩
def HS_TIME_TFLT : Field := ⟨0x48, 8, 10, .rw, 100, 10, 1000⟩
def HS_TIME_TINR : Field := ⟨0x48, 18, 10, .rw, 200, 10, 1000⟩

-- HS_RETRY, offset 0x04C, Landing (08_slot_hot_swap.md)
def HS_RETRY_MAX : Field := ⟨0x4C, 0, 4, .rw, 3, 0, 15⟩
def HS_RETRY_PER : Field := ⟨0x4C, 8, 7, .rw, 10, 1, 100⟩
def HS_RETRY_TDIS : Field := ⟨0x4C, 16, 7, .rw, 10, 1, 100⟩

-- HS_STAT, offset 0x050, Landing (08_slot_hot_swap.md)
def HS_STAT_STATE : Field := ⟨0x50, 0, 4, .ro, 0, 0, 15⟩
def HS_STAT_SEAT1 : Field := ⟨0x50, 4, 1, .ro, 0, 0, 1⟩
def HS_STAT_SEAT2 : Field := ⟨0x50, 5, 1, .ro, 0, 0, 1⟩
def HS_STAT_GATE_CMD : Field := ⟨0x50, 6, 1, .ro, 0, 0, 1⟩
def HS_STAT_GATE_FULL : Field := ⟨0x50, 7, 1, .ro, 0, 0, 1⟩
def HS_STAT_PG : Field := ⟨0x50, 8, 1, .ro, 0, 0, 1⟩
def HS_STAT_LIMIT : Field := ⟨0x50, 9, 2, .ro, 0, 0, 3⟩
def HS_STAT_SC_CLAMP : Field := ⟨0x50, 11, 1, .ro, 0, 0, 1⟩
def HS_STAT_MIRRORED : Field := ⟨0x50, 12, 1, .ro, 0, 0, 1⟩
def HS_STAT_CLASS : Field := ⟨0x50, 13, 2, .ro, 3, 0, 3⟩
def HS_STAT_COUNT : Field := ⟨0x50, 15, 4, .ro, 0, 0, 15⟩
def HS_STAT_NEXT : Field := ⟨0x50, 20, 12, .ro, 0, 0, 4095⟩

-- HS_THR, offset 0x054, Landing (08_slot_hot_swap.md)
def HS_THR_CL_EFF : Field := ⟨0x54, 0, 10, .ro, 0, 0, 1023⟩
def HS_THR_SC_EFF : Field := ⟨0x54, 16, 10, .ro, 0, 0, 1023⟩

-- HS_MEAS, offset 0x058, Landing (08_slot_hot_swap.md)
def HS_MEAS_VOUT : Field := ⟨0x58, 0, 12, .ro, 0, 0, 4095⟩
def HS_MEAS_VSLOTIN : Field := ⟨0x58, 16, 12, .ro, 0, 0, 4095⟩

-- HS_IMEAS, offset 0x05C, Landing (08_slot_hot_swap.md)
def HS_IMEAS_CUR : Field := ⟨0x5C, 0, 12, .ro, 0, 0, 4095⟩
def HS_IMEAS_TIMER : Field := ⟨0x5C, 16, 14, .ro, 0, 0, 16383⟩

-- HS_FAULT, offset 0x060, Landing (08_slot_hot_swap.md)
def HS_FAULT_BREAKER : Field := ⟨0x60, 0, 1, .rc, 0, 0, 1⟩
def HS_FAULT_SHORT : Field := ⟨0x60, 1, 1, .rc, 0, 0, 1⟩
def HS_FAULT_INRUSH_TO : Field := ⟨0x60, 2, 1, .rc, 0, 0, 1⟩
def HS_FAULT_PG_LOSS : Field := ⟨0x60, 3, 1, .rc, 0, 0, 1⟩
def HS_FAULT_SEAT_LIFT : Field := ⟨0x60, 4, 1, .rc, 0, 0, 1⟩
def HS_FAULT_FET_SHORT : Field := ⟨0x60, 5, 1, .rc, 0, 0, 1⟩
def HS_FAULT_THERM_TRIP : Field := ⟨0x60, 6, 1, .rc, 0, 0, 1⟩
def HS_FAULT_SENSE_OPEN : Field := ⟨0x60, 7, 1, .rc, 0, 0, 1⟩
def HS_FAULT_SHORT_NEG : Field := ⟨0x60, 8, 1, .rc, 0, 0, 1⟩

-- HS_EVENT, offset 0x064, Landing (08_slot_hot_swap.md)
def HS_EVENT_SEATED : Field := ⟨0x64, 0, 1, .w1c, 0, 0, 1⟩
def HS_EVENT_UNSEATED : Field := ⟨0x64, 1, 1, .w1c, 0, 0, 1⟩
def HS_EVENT_PG_ON : Field := ⟨0x64, 2, 1, .w1c, 0, 0, 1⟩
def HS_EVENT_PG_OFF : Field := ⟨0x64, 3, 1, .w1c, 0, 0, 1⟩
def HS_EVENT_FAULT : Field := ⟨0x64, 4, 1, .w1c, 0, 0, 1⟩
def HS_EVENT_ATTEMPT : Field := ⟨0x64, 5, 1, .w1c, 0, 0, 1⟩
def HS_EVENT_ATTEMPT_OK : Field := ⟨0x64, 6, 1, .w1c, 0, 0, 1⟩
def HS_EVENT_ATTEMPT_FAIL : Field := ⟨0x64, 7, 1, .w1c, 0, 0, 1⟩
def HS_EVENT_EXHAUSTED : Field := ⟨0x64, 8, 1, .w1c, 0, 0, 1⟩
def HS_EVENT_LIMIT : Field := ⟨0x64, 9, 1, .w1c, 0, 0, 1⟩

-- HRT_TEMP, offset 0x2C0, Room (09_hearth_budget.md)
def HRT_TEMP_TJ : Field := ⟨0x2C0, 0, 16, .ro, 0, 0, 65535⟩
def HRT_TEMP_PWR : Field := ⟨0x2C0, 16, 16, .ro, 0, 0, 65535⟩

-- HRT_STAT, offset 0x2C4, Room (09_hearth_budget.md)
def HRT_STAT_STATE : Field := ⟨0x2C4, 0, 2, .ro, 0, 0, 3⟩
def HRT_STAT_GRACE_SPENT : Field := ⟨0x2C4, 2, 1, .ro, 0, 0, 1⟩
def HRT_STAT_REF_FB : Field := ⟨0x2C4, 3, 1, .ro, 0, 0, 1⟩
def HRT_STAT_GRACE_LEFT : Field := ⟨0x2C4, 4, 10, .ro, 0, 0, 1023⟩
def HRT_STAT_ITH : Field := ⟨0x2C4, 16, 13, .ro, 0, 0, 8191⟩

-- HRT_CFG, offset 0x2C8, Room (09_hearth_budget.md)
def HRT_CFG_GRACE : Field := ⟨0x2C8, 0, 10, .rw, 20, 1, 600⟩
def HRT_CFG_HYST : Field := ⟨0x2C8, 16, 5, .rw, 5, 1, 20⟩

-- PORT_BUD, offset 0x2CC, Room (09_hearth_budget.md)
def PORT_BUD_FLOOR_W : Field := ⟨0x2CC, 0, 8, .rw, 15, 0, 120⟩
def PORT_BUD_PMAX_W : Field := ⟨0x2CC, 16, 8, .rw, 0, 1, 240⟩

-- BUD_LIMIT, offset +0x00, Hall, Wing, Landing (09_hearth_budget.md)
def BUD_LIMIT_LIMIT_W : Field := ⟨0x0, 0, 16, .rw, 0, 0, 65535⟩
def BUD_LIMIT_AVAIL_W : Field := ⟨0x0, 16, 16, .ro, 0, 0, 65535⟩

-- BUD_CAP0, offset +0x04, Hall, Wing, Landing (09_hearth_budget.md)
def BUD_CAP0_EGRESS : Field := ⟨0x4, 0, 16, .rw, 0, 0, 65535⟩
def BUD_CAP0_ESSENTIAL : Field := ⟨0x4, 16, 16, .rw, 0, 0, 65535⟩

-- BUD_CAP1, offset +0x08, Hall, Wing, Landing (09_hearth_budget.md)
def BUD_CAP1_COMFORT : Field := ⟨0x8, 0, 16, .rw, 0, 0, 65535⟩

-- BUD_STAT, offset +0x0C, Hall, Wing, Landing (09_hearth_budget.md)
def BUD_STAT_GRANTED_W : Field := ⟨0xC, 0, 16, .ro, 0, 0, 65535⟩
def BUD_STAT_SHORT : Field := ⟨0xC, 16, 1, .ro, 0, 0, 1⟩
def BUD_STAT_THERM : Field := ⟨0xC, 17, 1, .ro, 0, 0, 1⟩
def BUD_STAT_BAL_MISMATCH : Field := ⟨0xC, 18, 1, .ro, 0, 0, 1⟩

-- BUD_CFG, offset 0x0D0, Landing (09_hearth_budget.md)
def BUD_CFG_EFF : Field := ⟨0xD0, 0, 8, .rw, 96, 80, 100⟩
def BUD_CFG_PAUX : Field := ⟨0xD0, 8, 8, .rw, 2, 0, 50⟩

-- BUD_BAL, offset 0x0D4, Landing (09_hearth_budget.md)
def BUD_BAL_P_SLOT : Field := ⟨0xD4, 0, 16, .ro, 0, 0, 65535⟩
def BUD_BAL_P_EXP : Field := ⟨0xD4, 16, 16, .ro, 0, 0, 65535⟩

-- HEARTH_CTRL, offset 0x000, Hearth (09_hearth_budget.md)
def HEARTH_CTRL_TAMB_FB : Field := ⟨0x30000, 0, 8, .rw, 85, 0, 125⟩
def HEARTH_CTRL_GRACE : Field := ⟨0x30000, 8, 10, .rw, 20, 1, 600⟩
def HEARTH_CTRL_HYST : Field := ⟨0x30000, 18, 5, .rw, 5, 1, 20⟩

-- HEARTH_TAMB, offset 0x004, Hearth (09_hearth_budget.md)
def HEARTH_TAMB_T0 : Field := ⟨0x30004, 0, 16, .ro, 0, 0, 65535⟩
def HEARTH_TAMB_T1 : Field := ⟨0x30004, 16, 16, .ro, 0, 0, 65535⟩

-- HEARTH_STAT, offset 0x008, Hearth (09_hearth_budget.md)
def HEARTH_STAT_TAMB0_OK : Field := ⟨0x30008, 0, 1, .ro, 0, 0, 1⟩
def HEARTH_STAT_TAMB1_OK : Field := ⟨0x30008, 1, 1, .ro, 0, 0, 1⟩
def HEARTH_STAT_DIE_STATE : Field := ⟨0x30008, 2, 2, .ro, 0, 0, 3⟩

-- HEARTH_SEL, offset 0x00C, Hearth (09_hearth_budget.md)
def HEARTH_SEL_MODEL : Field := ⟨0x3000C, 0, 6, .rw, 0, 0, 56⟩

-- HEARTH_MT, offset 0x010, Hearth (09_hearth_budget.md)
def HEARTH_MT_TJ : Field := ⟨0x30010, 0, 16, .ro, 0, 0, 65535⟩
def HEARTH_MT_PWR : Field := ⟨0x30010, 16, 16, .ro, 0, 0, 65535⟩

-- HEARTH_MS, offset 0x014, Hearth (09_hearth_budget.md)
def HEARTH_MS_STATE : Field := ⟨0x30014, 0, 2, .ro, 0, 0, 3⟩
def HEARTH_MS_PRESENT : Field := ⟨0x30014, 2, 1, .ro, 0, 0, 1⟩
def HEARTH_MS_ITH : Field := ⟨0x30014, 16, 16, .ro, 0, 0, 65535⟩

-- HEARTH_DIE, offset 0x018, Hearth (09_hearth_budget.md)
def HEARTH_DIE_TJ : Field := ⟨0x30018, 0, 16, .ro, 0, 0, 65535⟩
def HEARTH_DIE_PWR : Field := ⟨0x30018, 16, 16, .ro, 0, 0, 65535⟩

-- HEARTH_EVENT, offset 0x01C, Hearth (09_hearth_budget.md)
def HEARTH_EVENT_DIE_WARN : Field := ⟨0x3001C, 0, 1, .w1c, 0, 0, 1⟩
def HEARTH_EVENT_DIE_TRIP : Field := ⟨0x3001C, 1, 1, .w1c, 0, 0, 1⟩
def HEARTH_EVENT_SLOT_WARN : Field := ⟨0x3001C, 2, 6, .w1c, 0, 0, 63⟩
def HEARTH_EVENT_QCHG_WARN : Field := ⟨0x3001C, 8, 1, .w1c, 0, 0, 1⟩
def HEARTH_EVENT_QID_WARN : Field := ⟨0x3001C, 9, 1, .w1c, 0, 0, 1⟩
def HEARTH_EVENT_QCHG_TRIP : Field := ⟨0x3001C, 10, 1, .w1c, 0, 0, 1⟩
def HEARTH_EVENT_QID_TRIP : Field := ⟨0x3001C, 11, 1, .w1c, 0, 0, 1⟩
def HEARTH_EVENT_TAMB0_FAULT : Field := ⟨0x3001C, 12, 1, .w1c, 0, 0, 1⟩
def HEARTH_EVENT_TAMB1_FAULT : Field := ⟨0x3001C, 13, 1, .w1c, 0, 0, 1⟩

-- PAN_CTRL, offset 0x000, Pantry (10_pantry_battery.md)
def PAN_CTRL_EN : Field := ⟨0x50000, 0, 1, .rw, 0, 0, 1⟩
def PAN_CTRL_BM_AUTO : Field := ⟨0x50000, 1, 1, .rw, 1, 0, 1⟩
def PAN_CTRL_RSUP_EN : Field := ⟨0x50000, 2, 1, .rw, 0, 0, 1⟩
def PAN_CTRL_TERM_SEL : Field := ⟨0x50000, 3, 2, .rw, 0, 0, 3⟩
def PAN_CTRL_START : Field := ⟨0x50000, 5, 1, .wo, 0, 0, 1⟩
def PAN_CTRL_RESTART : Field := ⟨0x50000, 6, 1, .wo, 0, 0, 1⟩

-- CHG_SET, offset 0x004, Pantry (10_pantry_battery.md)
def CHG_SET_ICHG : Field := ⟨0x50004, 0, 13, .rw, 1000, 100, 5000⟩
def CHG_SET_IPRE : Field := ⟨0x50004, 13, 10, .rw, 200, 10, 1000⟩
def CHG_SET_ITRK : Field := ⟨0x50004, 23, 9, .rw, 50, 0, 500⟩

-- CHG_TERM, offset 0x008, Pantry (10_pantry_battery.md)
def CHG_TERM_NDV : Field := ⟨0x50008, 0, 4, .rw, 5, 2, 10⟩
def CHG_TERM_DTDT : Field := ⟨0x50008, 4, 5, .rw, 10, 5, 20⟩
def CHG_TERM_HOLDOFF : Field := ⟨0x50008, 9, 6, .rw, 5, 0, 60⟩
def CHG_TERM_TSAFE : Field := ⟨0x50008, 16, 10, .rw, 240, 30, 600⟩

-- CHG_LIMITS, offset 0x00C, Pantry (10_pantry_battery.md)
def CHG_LIMITS_TMIN : Field := ⟨0x5000C, 0, 6, .rw, 5, 0, 20⟩
def CHG_LIMITS_TMAX : Field := ⟨0x5000C, 8, 6, .rw, 50, 30, 60⟩
def CHG_LIMITS_CELL_OV : Field := ⟨0x5000C, 16, 11, .rw, 1650, 1500, 1800⟩

-- BAT_VOLT, offset 0x010, Pantry (10_pantry_battery.md)
def BAT_VOLT_LOW_V : Field := ⟨0x50010, 0, 11, .rw, 1050, 900, 1200⟩
def BAT_VOLT_CUT_V : Field := ⟨0x50010, 16, 11, .rw, 950, 800, 1100⟩
def BAT_VOLT_FIRE_CUT : Field := ⟨0x50010, 27, 1, .rw, 1, 0, 1⟩

-- BAT_DIS, offset 0x014, Pantry (10_pantry_battery.md)
def BAT_DIS_DIS_W : Field := ⟨0x50014, 0, 16, .rw, 1000, 50, 10000⟩
def BAT_DIS_RSUP_W : Field := ⟨0x50014, 16, 16, .rw, 0, 0, 10000⟩

-- NTC_CFG, offset 0x018, Pantry (10_pantry_battery.md)
def NTC_CFG_BETA : Field := ⟨0x50018, 0, 13, .rw, 3435, 2000, 5000⟩
def NTC_CFG_R25 : Field := ⟨0x50018, 16, 8, .rw, 100, 10, 250⟩

-- ID_CFG, offset 0x01C, Pantry (10_pantry_battery.md)
def ID_CFG_FWD_MV : Field := ⟨0x5001C, 0, 8, .rw, 100, 20, 250⟩
def ID_CFG_REV_MV : Field := ⟨0x5001C, 8, 8, .rw, 50, 10, 200⟩
def ID_CFG_BM_EXIT : Field := ⟨0x5001C, 16, 10, .rw, 10, 1, 600⟩

-- CHG_STAT, offset 0x020, Pantry (10_pantry_battery.md)
def CHG_STAT_STATE : Field := ⟨0x50020, 0, 3, .ro, 0, 0, 7⟩
def CHG_STAT_PAUSE_CAUSE : Field := ⟨0x50020, 3, 3, .ro, 0, 0, 7⟩
def CHG_STAT_TERM_CAUSE : Field := ⟨0x50020, 6, 3, .ro, 0, 0, 7⟩
def CHG_STAT_PRES : Field := ⟨0x50020, 9, 1, .ro, 0, 0, 1⟩
def CHG_STAT_QID_ON : Field := ⟨0x50020, 10, 1, .ro, 0, 0, 1⟩
def CHG_STAT_QID_FULL : Field := ⟨0x50020, 11, 1, .ro, 0, 0, 1⟩
def CHG_STAT_BATT_ACTIVE : Field := ⟨0x50020, 12, 1, .ro, 0, 0, 1⟩
def CHG_STAT_CUTOFF : Field := ⟨0x50020, 13, 1, .ro, 0, 0, 1⟩
def CHG_STAT_BAT_LOW : Field := ⟨0x50020, 14, 1, .ro, 0, 0, 1⟩
def CHG_STAT_NTC_OK : Field := ⟨0x50020, 15, 1, .ro, 0, 0, 1⟩
def CHG_STAT_CHG_I : Field := ⟨0x50020, 16, 13, .ro, 0, 0, 8191⟩

-- PAN_MEAS, offset 0x024, Pantry (10_pantry_battery.md)
def PAN_MEAS_VBAT : Field := ⟨0x50024, 0, 12, .ro, 0, 0, 4095⟩
def PAN_MEAS_SYS : Field := ⟨0x50024, 16, 12, .ro, 0, 0, 4095⟩

-- PAN_IMEAS, offset 0x028, Pantry (10_pantry_battery.md)
def PAN_IMEAS_IB : Field := ⟨0x50028, 0, 12, .ro, 0, 0, 4095⟩
def PAN_IMEAS_VBUS_IN : Field := ⟨0x50028, 16, 12, .ro, 0, 0, 4095⟩

-- BAT_TEMP, offset 0x02C, Pantry (10_pantry_battery.md)
def BAT_TEMP_T : Field := ⟨0x5002C, 0, 16, .ro, 0, 0, 65535⟩
def BAT_TEMP_DTDT : Field := ⟨0x5002C, 16, 16, .ro, 0, 0, 65535⟩

-- CHG_PROG, offset 0x030, Pantry (10_pantry_battery.md)
def CHG_PROG_FAST_MIN : Field := ⟨0x50030, 0, 10, .ro, 0, 0, 1023⟩
def CHG_PROG_PEAK : Field := ⟨0x50030, 16, 12, .ro, 0, 0, 4095⟩

-- PANTRY_FAULT, offset 0x034, Pantry (10_pantry_battery.md)
def PANTRY_FAULT_BAT_REMOVED : Field := ⟨0x50034, 0, 1, .rc, 0, 0, 1⟩
def PANTRY_FAULT_CHG_OV : Field := ⟨0x50034, 1, 1, .rc, 0, 0, 1⟩
def PANTRY_FAULT_SAFETY_TMR : Field := ⟨0x50034, 2, 1, .rc, 0, 0, 1⟩
def PANTRY_FAULT_QUAL_V : Field := ⟨0x50034, 3, 1, .rc, 0, 0, 1⟩
def PANTRY_FAULT_QUAL_R : Field := ⟨0x50034, 4, 1, .rc, 0, 0, 1⟩
def PANTRY_FAULT_PRE_TIMEOUT : Field := ⟨0x50034, 5, 1, .rc, 0, 0, 1⟩
def PANTRY_FAULT_NTC_FAULT : Field := ⟨0x50034, 6, 1, .rc, 0, 0, 1⟩
def PANTRY_FAULT_CUTOFF : Field := ⟨0x50034, 7, 1, .rc, 0, 0, 1⟩
def PANTRY_FAULT_QCHG_TRIP : Field := ⟨0x50034, 8, 1, .rc, 0, 0, 1⟩
def PANTRY_FAULT_QID_TRIP : Field := ⟨0x50034, 9, 1, .rc, 0, 0, 1⟩

-- PANTRY_EVENT, offset 0x038, Pantry (10_pantry_battery.md)
def PANTRY_EVENT_FAULT : Field := ⟨0x50038, 0, 1, .w1c, 0, 0, 1⟩
def PANTRY_EVENT_STATE : Field := ⟨0x50038, 1, 1, .w1c, 0, 0, 1⟩
def PANTRY_EVENT_TERMINATED : Field := ⟨0x50038, 2, 1, .w1c, 0, 0, 1⟩
def PANTRY_EVENT_BATT_ON : Field := ⟨0x50038, 3, 1, .w1c, 0, 0, 1⟩
def PANTRY_EVENT_BATT_OFF : Field := ⟨0x50038, 4, 1, .w1c, 0, 0, 1⟩
def PANTRY_EVENT_BAT_LOW : Field := ⟨0x50038, 5, 1, .w1c, 0, 0, 1⟩
def PANTRY_EVENT_PRES_CHANGE : Field := ⟨0x50038, 6, 1, .w1c, 0, 0, 1⟩
def PANTRY_EVENT_BUDGET_PAUSE : Field := ⟨0x50038, 7, 1, .w1c, 0, 0, 1⟩

-- PAN_THR, offset 0x03C, Pantry (10_pantry_battery.md)
def PAN_THR_OV_EFF : Field := ⟨0x5003C, 0, 10, .ro, 0, 0, 1023⟩
def PAN_THR_PK_EFF : Field := ⟨0x5003C, 10, 10, .ro, 0, 0, 1023⟩
def PAN_THR_REV_EFF : Field := ⟨0x5003C, 20, 10, .ro, 0, 0, 1023⟩

-- LAMP_A, LAMP_B, offset 0x200, 0x204, Hall (10_pantry_battery.md)
def LAMP_A_MODE : Field := ⟨0x200, 0, 2, .rw, 3, 0, 3⟩
def LAMP_A_SRC : Field := ⟨0x200, 2, 1, .rw, 0, 0, 1⟩
def LAMP_A_PATTERN : Field := ⟨0x200, 16, 16, .rw, 0, 0, 65535⟩
def LAMP_B_MODE : Field := ⟨0x204, 0, 2, .rw, 3, 0, 3⟩
def LAMP_B_SRC : Field := ⟨0x204, 2, 1, .rw, 1, 0, 1⟩
def LAMP_B_PATTERN : Field := ⟨0x204, 16, 16, .rw, 0, 0, 65535⟩

-- CORE_CTRL, offset 0x380, Room (11_sequencer_isa.md)
def CORE_CTRL_HOLD : Field := ⟨0x380, 0, 1, .rw, 0, 0, 1⟩

-- CORE_STAT, offset 0x384, Room (11_sequencer_isa.md)
def CORE_STAT_STATE : Field := ⟨0x384, 0, 3, .ro, 0, 0, 7⟩
def CORE_STAT_IN_EVT : Field := ⟨0x384, 3, 1, .ro, 0, 0, 1⟩
def CORE_STAT_STAGE_DIRTY : Field := ⟨0x384, 4, 1, .ro, 0, 0, 1⟩
def CORE_STAT_RPT_ACTIVE : Field := ⟨0x384, 5, 1, .ro, 0, 0, 1⟩
def CORE_STAT_EXT_COPY : Field := ⟨0x384, 6, 1, .ro, 0, 0, 1⟩
def CORE_STAT_TRAP_CODE : Field := ⟨0x384, 8, 8, .ro, 0, 0, 255⟩
def CORE_STAT_LC : Field := ⟨0x384, 16, 16, .ro, 0, 0, 65535⟩

-- CORE_PC, offset 0x388, Room (11_sequencer_isa.md)
def CORE_PC_PC : Field := ⟨0x388, 0, 32, .ro, 0, 0, 0xffffffff⟩

-- CORE_KICK, offset 0x38C, Room (11_sequencer_isa.md)
def CORE_KICK_KEY : Field := ⟨0x38C, 0, 16, .wo, 0, 0, 65535⟩

-- EV_EN, offset 0x390, Room (11_sequencer_isa.md)
def EV_EN_TRAP : Field := ⟨0x390, 0, 1, .ro, 1, 0, 1⟩
def EV_EN_EN : Field := ⟨0x390, 1, 15, .rw, 0, 0, 32767⟩

-- EV_PEND, offset 0x394, Room (11_sequencer_isa.md)
def EV_PEND_COND : Field := ⟨0x394, 0, 16, .ro, 0, 0, 65535⟩

-- EV_LATCH, offset 0x398, Room (11_sequencer_isa.md)
def EV_LATCH_GRANT_UPD : Field := ⟨0x398, 0, 1, .w1c, 0, 0, 1⟩

-- DOORBELL, offset 0x39C, Room (11_sequencer_isa.md)
def DOORBELL_DB : Field := ⟨0x39C, 0, 8, .w1s, 0, 0, 255⟩

-- DB_ACK, offset 0x3A0, Room (11_sequencer_isa.md)
def DB_ACK_ACK : Field := ⟨0x3A0, 0, 8, .wo, 0, 0, 255⟩

-- CORE_EPC, offset 0x3A4, Room (11_sequencer_isa.md)
def CORE_EPC_EPC : Field := ⟨0x3A4, 0, 32, .ro, 0, 0, 0xffffffff⟩

-- CORE_EVC, offset 0x3A8, Room (11_sequencer_isa.md)
def CORE_EVC_LINE : Field := ⟨0x3A8, 0, 5, .ro, 0, 0, 31⟩
def CORE_EVC_RPT : Field := ⟨0x3A8, 5, 1, .ro, 0, 0, 1⟩
def CORE_EVC_IN_EVT : Field := ⟨0x3A8, 6, 1, .ro, 0, 0, 1⟩
def CORE_EVC_TRAP : Field := ⟨0x3A8, 8, 8, .ro, 0, 0, 255⟩

-- BKPT0–BKPT3, offset 0x3B0–0x3BC, Room (11_sequencer_isa.md)
def BKPT_EN : Field := ⟨0x3B0, 0, 1, .rw, 0, 0, 1⟩
def BKPT_ADDR : Field := ⟨0x3B0, 2, 11, .rw, 0, 0, 2047⟩

-- TB_LO, TB_HI, offset 0x100, 0x104, Hall (12_timers_snapshot.md)
def TB_LO_TB : Field := ⟨0x100, 0, 32, .ro, 0, 0, 0xffffffff⟩
def TB_HI_TB : Field := ⟨0x104, 0, 32, .ro, 0, 0, 0xffffffff⟩

-- TB_SLOW, offset 0x108, Hall (12_timers_snapshot.md)
def TB_SLOW_SLOW : Field := ⟨0x108, 0, 32, .ro, 0, 0, 0xffffffff⟩

-- TB_CTRL, offset 0x10C, Hall (12_timers_snapshot.md)
def TB_CTRL_LOAD : Field := ⟨0x10C, 0, 1, .wo, 0, 0, 1⟩
def TB_CTRL_LOADED : Field := ⟨0x10C, 1, 1, .rc, 0, 0, 1⟩
def TB_CTRL_LOAD_REFUSED : Field := ⟨0x10C, 2, 1, .rc, 0, 0, 1⟩

-- TB_SET_LO, TB_SET_HI, offset 0x110, 0x114, Hall (12_timers_snapshot.md)
def TB_SET_LO_SET : Field := ⟨0x110, 0, 32, .rw, 0, 0, 0xffffffff⟩
def TB_SET_HI_SET : Field := ⟨0x114, 0, 32, .rw, 0, 0, 0xffffffff⟩

-- RC_INC, offset 0x118, Hall (12_timers_snapshot.md)
def RC_INC_INC : Field := ⟨0x118, 0, 32, .ro, 0x1e8480, 0, 0xffffffff⟩

-- SNAP_CTRL, offset 0x140, Hall (12_timers_snapshot.md)
def SNAP_CTRL_TRIG : Field := ⟨0x140, 0, 1, .wo, 0, 0, 1⟩
def SNAP_CTRL_DRIVE : Field := ⟨0x140, 1, 1, .rw, 0, 0, 1⟩
def SNAP_CTRL_IN_EN : Field := ⟨0x140, 2, 1, .rw, 0, 0, 1⟩
def SNAP_CTRL_FREEZE : Field := ⟨0x140, 3, 1, .rw, 0, 0, 1⟩
def SNAP_CTRL_MISSED : Field := ⟨0x140, 4, 1, .rc, 0, 0, 1⟩
def SNAP_CTRL_SRC : Field := ⟨0x140, 5, 2, .ro, 3, 0, 3⟩

-- SNAP_EPOCH, offset 0x144, Hall (12_timers_snapshot.md)
def SNAP_EPOCH_EPOCH : Field := ⟨0x144, 0, 32, .ro, 0, 0, 0xffffffff⟩

-- SNAP_TB_LO, SNAP_TB_HI, offset 0x148, 0x14C, Hall (12_timers_snapshot.md)
def SNAP_TB_LO_TB : Field := ⟨0x148, 0, 32, .ro, 0, 0, 0xffffffff⟩
def SNAP_TB_HI_TB : Field := ⟨0x14C, 0, 32, .ro, 0, 0, 0xffffffff⟩

-- TMR_CTRL, offset +0x0, Room, Landing (12_timers_snapshot.md)
def TMR_CTRL_EN : Field := ⟨0x0, 0, 1, .rw, 0, 0, 1⟩
def TMR_CTRL_SRC : Field := ⟨0x0, 1, 2, .rw, 0, 0, 3⟩
def TMR_CTRL_MODE : Field := ⟨0x0, 3, 1, .rw, 0, 0, 1⟩
def TMR_CTRL_IE : Field := ⟨0x0, 4, 1, .rw, 0, 0, 1⟩
def TMR_CTRL_GATE_EN : Field := ⟨0x0, 5, 1, .rw, 0, 0, 1⟩
def TMR_CTRL_GATE_POL : Field := ⟨0x0, 6, 1, .rw, 0, 0, 1⟩
def TMR_CTRL_RST_EN : Field := ⟨0x0, 7, 1, .rw, 0, 0, 1⟩
def TMR_CTRL_OUT : Field := ⟨0x0, 8, 1, .ro, 0, 0, 1⟩
def TMR_CTRL_DONE : Field := ⟨0x0, 9, 1, .ro, 0, 0, 1⟩
def TMR_CTRL_ROUTE_G : Field := ⟨0x0, 10, 1, .ro, 0, 0, 1⟩
def TMR_CTRL_ROUTE_R : Field := ⟨0x0, 11, 1, .ro, 0, 0, 1⟩
def TMR_CTRL_ROUTE_C : Field := ⟨0x0, 12, 1, .ro, 0, 0, 1⟩

-- TMR_CMP, TMR_CNT, TMR_PER, offset +0x4, +0x8, +0xC, Room, Landing (12_timers_snapshot.md)
def TMR_CMP_VALUE : Field := ⟨0x4, 0, 32, .rw, 0, 0, 0xffffffff⟩
def TMR_CNT_VALUE : Field := ⟨0x8, 0, 32, .rw, 0, 0, 0xffffffff⟩
def TMR_PER_VALUE : Field := ⟨0xC, 0, 32, .rw, 0, 0, 0xffffffff⟩

-- EOUT_LO, EIN_LO, offset 0x3C0, 0x3C8, Room (12_timers_snapshot.md)
def EOUT_LO_E : Field := ⟨0x3C0, 0, 32, .ro, 0, 0, 0xffffffff⟩
def EIN_LO_E : Field := ⟨0x3C8, 0, 32, .ro, 0, 0, 0xffffffff⟩

-- EOUT_HI, EIN_HI, offset 0x3C4, 0x3CC, Room (12_timers_snapshot.md)
def EOUT_HI_E : Field := ⟨0x3C4, 0, 16, .ro, 0, 0, 65535⟩
def EIN_HI_E : Field := ⟨0x3CC, 0, 16, .ro, 0, 0, 65535⟩

-- HL_CTRL, offset 0x00, Host links (13_host_link.md)
def HL_CTRL_EN : Field := ⟨0x70000, 0, 1, .rw, 1, 0, 1⟩
def HL_CTRL_FLOW_EN : Field := ⟨0x70000, 1, 1, .rw, 1, 0, 1⟩
def HL_CTRL_EVT_EN : Field := ⟨0x70000, 2, 1, .rw, 1, 0, 1⟩

-- HL_BAUD, offset 0x04, Host links (13_host_link.md)
def HL_BAUD_DIVF : Field := ⟨0x70004, 0, 19, .rw, 3840, 154, 400000⟩

-- HL_STAT, offset 0x08, Host links (13_host_link.md)
def HL_STAT_RTS : Field := ⟨0x70008, 0, 1, .ro, 0, 0, 1⟩
def HL_STAT_CTS : Field := ⟨0x70008, 1, 1, .ro, 0, 0, 1⟩
def HL_STAT_RX_FREE : Field := ⟨0x70008, 2, 12, .ro, 2048, 0, 4095⟩
def HL_STAT_TX_BUSY : Field := ⟨0x70008, 14, 1, .ro, 0, 0, 1⟩
def HL_STAT_FW_BUSY : Field := ⟨0x70008, 15, 1, .ro, 0, 0, 1⟩

-- HL_ERR, offset 0x0C, Host links (13_host_link.md)
def HL_ERR_CRC : Field := ⟨0x7000C, 0, 8, .rc, 0, 0, 255⟩
def HL_ERR_CHAR : Field := ⟨0x7000C, 8, 8, .rc, 0, 0, 255⟩
def HL_ERR_ABORT : Field := ⟨0x7000C, 16, 8, .rc, 0, 0, 255⟩
def HL_ERR_OVERRUN : Field := ⟨0x7000C, 24, 8, .rc, 0, 0, 255⟩

-- HL_EVT_CFG, offset 0x10, Host links (13_host_link.md)
def HL_EVT_CFG_TIMEOUT : Field := ⟨0x70010, 0, 10, .rw, 100, 10, 1000⟩

-- HL_EVT_STAT, offset 0x14, Host links (13_host_link.md)
def HL_EVT_STAT_OUTSTANDING : Field := ⟨0x70014, 0, 9, .ro, 0, 0, 511⟩
def HL_EVT_STAT_TABLE : Field := ⟨0x70014, 9, 8, .ro, 0, 0, 255⟩

-- HL_EVT_SEQ, offset 0x18, Host links (13_host_link.md)
def HL_EVT_SEQ_NEXT : Field := ⟨0x70018, 0, 16, .ro, 0, 0, 65535⟩
def HL_EVT_SEQ_OLDEST : Field := ⟨0x70018, 16, 16, .ro, 0, 0, 65535⟩

-- HL_SUB_KIND, offset 0x1C, Host links (13_host_link.md)
def HL_SUB_KIND_KINDS : Field := ⟨0x7001C, 1, 31, .rw, 0x7fffffff, 0, 2147483647⟩

-- HL_SUB_PORT0, offset 0x20, Host links (13_host_link.md)
def HL_SUB_PORT0_PORTS : Field := ⟨0x70020, 0, 32, .rw, 0xffffffff, 0, 0xffffffff⟩

-- HL_SUB_PORT1, offset 0x24, Host links (13_host_link.md)
def HL_SUB_PORT1_PORTS : Field := ⟨0x70024, 0, 16, .rw, 65535, 0, 65535⟩
def HL_SUB_PORT1_SLOTS : Field := ⟨0x70024, 16, 6, .rw, 63, 0, 63⟩

-- HL_POST_HDR, offset 0x00, Host-link posting (13_host_link.md)
def HL_POST_HDR_KIND : Field := ⟨0x70200, 0, 5, .rw, 0, 0, 31⟩
def HL_POST_HDR_SRC : Field := ⟨0x70200, 8, 6, .rw, 0, 0, 63⟩
def HL_POST_HDR_LEN : Field := ⟨0x70200, 16, 6, .rw, 0, 0, 32⟩
def HL_POST_HDR_LINKS : Field := ⟨0x70200, 24, 2, .rw, 3, 0, 3⟩
def HL_POST_HDR_GO : Field := ⟨0x70200, 31, 1, .wo, 0, 0, 1⟩

-- HL_POST_D0–HL_POST_D7, offset 0x04–0x20, Host-link posting (13_host_link.md)
def HL_POST_D_DATA : Field := ⟨0x70204, 0, 32, .rw, 0, 0, 0xffffffff⟩

-- HL_POST_STAT, offset 0x24, Host-link posting (13_host_link.md)
def HL_POST_STAT_RESULT0 : Field := ⟨0x70224, 0, 2, .ro, 0, 0, 3⟩
def HL_POST_STAT_RESULT1 : Field := ⟨0x70224, 2, 2, .ro, 0, 0, 3⟩

-- TW_CTRL, offset 0x00, Two-wire target (14_two_wire.md)
def TW_CTRL_EN : Field := ⟨0x71000, 0, 1, .rw, 1, 0, 1⟩
def TW_CTRL_FMP : Field := ⟨0x71000, 1, 1, .rw, 0, 0, 1⟩
def TW_CTRL_PEC : Field := ⟨0x71000, 2, 1, .rw, 0, 0, 1⟩
def TW_CTRL_TIMEOUT_EN : Field := ⟨0x71000, 3, 1, .rw, 1, 0, 1⟩

-- TW_MATCH, offset 0x04, Two-wire target (14_two_wire.md)
def TW_MATCH_ADDR : Field := ⟨0x71004, 0, 32, .ro, 0, 0, 0xffffffff⟩

-- TW_MAP, offset 0x08, Two-wire target (14_two_wire.md)
def TW_MAP_MASK : Field := ⟨0x71008, 0, 4, .ro, 0, 0, 15⟩
def TW_MAP_PORT_INDEXED : Field := ⟨0x71008, 4, 1, .ro, 0, 0, 1⟩
def TW_MAP_BASE_PORT : Field := ⟨0x71008, 5, 6, .ro, 0, 0, 63⟩

-- TW_STAT, offset 0x0C, Two-wire target (14_two_wire.md)
def TW_STAT_BUSY : Field := ⟨0x7100C, 0, 1, .ro, 0, 0, 1⟩
def TW_STAT_STRETCH : Field := ⟨0x7100C, 1, 1, .ro, 0, 0, 1⟩
def TW_STAT_LAST_ADDR : Field := ⟨0x7100C, 2, 7, .ro, 0, 0, 127⟩
def TW_STAT_WSTAT : Field := ⟨0x7100C, 9, 4, .ro, 0, 0, 15⟩
def TW_STAT_RSTAT : Field := ⟨0x7100C, 13, 4, .ro, 0, 0, 15⟩

-- TW_ERR, offset 0x10, Two-wire target (14_two_wire.md)
def TW_ERR_PEC : Field := ⟨0x71010, 0, 8, .rc, 0, 0, 255⟩
def TW_ERR_SHORT : Field := ⟨0x71010, 8, 8, .rc, 0, 0, 255⟩
def TW_ERR_DENIED : Field := ⟨0x71010, 16, 8, .rc, 0, 0, 255⟩
def TW_ERR_BUS : Field := ⟨0x71010, 24, 8, .rc, 0, 0, 255⟩

-- TC_CTRL, offset 0x00, Two-wire controller (14_two_wire.md)
def TC_CTRL_EN : Field := ⟨0x71100, 0, 1, .rw, 0, 0, 1⟩
def TC_CTRL_SPEED : Field := ⟨0x71100, 1, 2, .rw, 0, 0, 3⟩
def TC_CTRL_PEC : Field := ⟨0x71100, 3, 1, .rw, 0, 0, 1⟩

-- TC_CMD, offset 0x04, Two-wire controller (14_two_wire.md)
def TC_CMD_ADDR : Field := ⟨0x71104, 0, 7, .rw, 0, 0, 127⟩
def TC_CMD_WLEN : Field := ⟨0x71104, 8, 6, .rw, 0, 0, 32⟩
def TC_CMD_RLEN : Field := ⟨0x71104, 16, 6, .rw, 0, 0, 32⟩
def TC_CMD_GO : Field := ⟨0x71104, 31, 1, .wo, 0, 0, 1⟩

-- TC_STAT, offset 0x08, Two-wire controller (14_two_wire.md)
def TC_STAT_BUSY : Field := ⟨0x71108, 0, 1, .ro, 0, 0, 1⟩
def TC_STAT_DONE : Field := ⟨0x71108, 1, 1, .w1c, 0, 0, 1⟩
def TC_STAT_RESULT : Field := ⟨0x71108, 2, 3, .ro, 0, 0, 7⟩
def TC_STAT_COUNT : Field := ⟨0x71108, 5, 6, .ro, 0, 0, 63⟩

-- TC_DATA0–TC_DATA7, offset 0x10–0x2C, Two-wire controller (14_two_wire.md)
def TC_DATA_DATA : Field := ⟨0x71110, 0, 32, .rw, 0, 0, 0xffffffff⟩

-- PAIR_CTRL, offset 0x000, Pair (15_pair.md)
def PAIR_CTRL_NO_CLAIM : Field := ⟨0x60000, 0, 1, .rw, 0, 0, 1⟩
def PAIR_CTRL_RELEASE_W0 : Field := ⟨0x60000, 1, 1, .rw, 0, 0, 1⟩
def PAIR_CTRL_RELEASE_W1 : Field := ⟨0x60000, 2, 1, .rw, 0, 0, 1⟩
def PAIR_CTRL_MISMATCH_TAKEOVER : Field := ⟨0x60000, 3, 1, .rw, 0, 0, 1⟩
def PAIR_CTRL_RESYNC : Field := ⟨0x60000, 4, 1, .wo, 0, 0, 1⟩

-- PAIR_STAT, offset 0x004, Pair (15_pair.md)
def PAIR_STAT_PAIR_MODE : Field := ⟨0x60004, 0, 1, .ro, 0, 0, 1⟩
def PAIR_STAT_CHIP_B : Field := ⟨0x60004, 1, 1, .ro, 0, 0, 1⟩
def PAIR_STAT_HELD : Field := ⟨0x60004, 2, 2, .ro, 0, 0, 3⟩
def PAIR_STAT_PEER_HELD : Field := ⟨0x60004, 4, 2, .ro, 0, 0, 3⟩
def PAIR_STAT_PEER_ALIVE : Field := ⟨0x60004, 6, 1, .ro, 0, 0, 1⟩
def PAIR_STAT_HALL_KEEPER : Field := ⟨0x60004, 7, 1, .ro, 0, 0, 1⟩
def PAIR_STAT_LINK_UP : Field := ⟨0x60004, 8, 1, .ro, 0, 0, 1⟩
def PAIR_STAT_DIGEST_MATCH : Field := ⟨0x60004, 9, 1, .ro, 0, 0, 1⟩
def PAIR_STAT_DIGEST_MISMATCH : Field := ⟨0x60004, 10, 1, .ro, 0, 0, 1⟩
def PAIR_STAT_YIELDED : Field := ⟨0x60004, 11, 1, .ro, 0, 0, 1⟩
def PAIR_STAT_READY : Field := ⟨0x60004, 12, 1, .ro, 0, 0, 1⟩

-- KEY_STAT, offset 0x008, Pair (15_pair.md)
def KEY_STAT_KEY_OUT : Field := ⟨0x60008, 0, 1, .ro, 0, 0, 1⟩
def KEY_STAT_KEY_IN : Field := ⟨0x60008, 1, 1, .ro, 0, 0, 1⟩
def KEY_STAT_OWN_CODE : Field := ⟨0x60008, 2, 2, .ro, 3, 0, 3⟩
def KEY_STAT_PEER_CODE : Field := ⟨0x60008, 4, 2, .ro, 3, 0, 3⟩
def KEY_STAT_HB_AGE : Field := ⟨0x60008, 16, 16, .ro, 65535, 0, 65535⟩

-- STAIR_STAT, offset 0x00C, Pair (15_pair.md)
def STAIR_STAT_RX0_LOCK : Field := ⟨0x6000C, 0, 1, .ro, 0, 0, 1⟩
def STAIR_STAT_RX1_LOCK : Field := ⟨0x6000C, 1, 1, .ro, 0, 0, 1⟩
def STAIR_STAT_TX_ON : Field := ⟨0x6000C, 2, 1, .ro, 0, 0, 1⟩
def STAIR_STAT_RX_SEQ : Field := ⟨0x6000C, 16, 16, .ro, 0, 0, 65535⟩

-- STAIR_ERR, offset 0x010, Pair (15_pair.md)
def STAIR_ERR_COPY : Field := ⟨0x60010, 0, 8, .rc, 0, 0, 255⟩
def STAIR_ERR_BUBBLE : Field := ⟨0x60010, 8, 8, .rc, 0, 0, 255⟩
def STAIR_ERR_GAP : Field := ⟨0x60010, 16, 8, .rc, 0, 0, 255⟩
def STAIR_ERR_RESYNC : Field := ⟨0x60010, 24, 8, .rc, 0, 0, 255⟩

-- STALE0, offset 0x014, Pair (15_pair.md)
def STALE0_PORTS : Field := ⟨0x60014, 0, 32, .ro, 0xffffffff, 0, 0xffffffff⟩

-- STALE1, offset 0x018, Pair (15_pair.md)
def STALE1_PORTS : Field := ⟨0x60018, 0, 16, .ro, 65535, 0, 65535⟩
def STALE1_SLOTS : Field := ⟨0x60018, 16, 6, .ro, 63, 0, 63⟩
def STALE1_HALL : Field := ⟨0x60018, 22, 1, .ro, 1, 0, 1⟩

-- PAIR_EVENT, offset 0x01C, Pair (15_pair.md)
def PAIR_EVENT_TAKEOVER : Field := ⟨0x6001C, 0, 1, .w1c, 0, 0, 1⟩
def PAIR_EVENT_WITHDRAWN : Field := ⟨0x6001C, 1, 1, .w1c, 0, 0, 1⟩
def PAIR_EVENT_CONTENTION : Field := ⟨0x6001C, 2, 1, .w1c, 0, 0, 1⟩
def PAIR_EVENT_PEER_NO_YIELD : Field := ⟨0x6001C, 3, 1, .w1c, 0, 0, 1⟩
def PAIR_EVENT_PEER_LOST : Field := ⟨0x6001C, 4, 1, .w1c, 0, 0, 1⟩
def PAIR_EVENT_PEER_FOUND : Field := ⟨0x6001C, 5, 1, .w1c, 0, 0, 1⟩
def PAIR_EVENT_LINK_DOWN : Field := ⟨0x6001C, 6, 1, .w1c, 0, 0, 1⟩
def PAIR_EVENT_LINK_UP : Field := ⟨0x6001C, 7, 1, .w1c, 0, 0, 1⟩
def PAIR_EVENT_GAP : Field := ⟨0x6001C, 8, 1, .w1c, 0, 0, 1⟩
def PAIR_EVENT_DIGEST_MISMATCH : Field := ⟨0x6001C, 9, 1, .w1c, 0, 0, 1⟩
def PAIR_EVENT_KEY_STAIR_MISMATCH : Field := ⟨0x6001C, 10, 1, .w1c, 0, 0, 1⟩
def PAIR_EVENT_HB_OUT_FAULT : Field := ⟨0x6001C, 11, 1, .w1c, 0, 0, 1⟩
def PAIR_EVENT_KEY_IN_STUCK : Field := ⟨0x6001C, 12, 1, .w1c, 0, 0, 1⟩
def PAIR_EVENT_DRIVE_CONFLICT : Field := ⟨0x6001C, 13, 1, .w1c, 0, 0, 1⟩
def PAIR_EVENT_STALE_CHANGE : Field := ⟨0x6001C, 14, 1, .w1c, 0, 0, 1⟩

-- TAKEOVER_LOG, offset 0x020, Pair (15_pair.md)
def TAKEOVER_LOG_WINGS : Field := ⟨0x60020, 0, 2, .ro, 0, 0, 3⟩
def TAKEOVER_LOG_PATH : Field := ⟨0x60020, 2, 2, .ro, 0, 0, 3⟩
def TAKEOVER_LOG_DURATION : Field := ⟨0x60020, 16, 16, .ro, 0, 0, 65535⟩

-- TAKEOVER_TB, offset 0x024, Pair (15_pair.md)
def TAKEOVER_TB_TB : Field := ⟨0x60024, 0, 32, .ro, 0, 0, 0xffffffff⟩

-- PEER_FW, offset 0x028, Pair (15_pair.md)
def PEER_FW_VERSION : Field := ⟨0x60028, 0, 32, .ro, 0, 0, 0xffffffff⟩

-- ATTIC_STAT, offset 0x000, Attic (16_attic_boot.md)
def ATTIC_STAT_LIFECYCLE : Field := ⟨0x40000, 0, 2, .ro, 0, 0, 3⟩
def ATTIC_STAT_BUSY : Field := ⟨0x40000, 2, 1, .ro, 0, 0, 1⟩
def ATTIC_STAT_TRIM_ERR : Field := ⟨0x40000, 3, 1, .ro, 0, 0, 1⟩
def ATTIC_STAT_KEY_VALID : Field := ⟨0x40000, 4, 4, .ro, 0, 0, 15⟩
def ATTIC_STAT_SECRET_VALID : Field := ⟨0x40000, 8, 2, .ro, 0, 0, 3⟩
def ATTIC_STAT_DBG_DISABLE : Field := ⟨0x40000, 10, 1, .ro, 0, 0, 1⟩
def ATTIC_STAT_VPP_OK : Field := ⟨0x40000, 11, 1, .ro, 0, 0, 1⟩

-- ATTIC_LOCK, offset 0x004, Attic (16_attic_boot.md)
def ATTIC_LOCK_LOCK : Field := ⟨0x40004, 0, 9, .w1s, 0, 0, 511⟩

-- ATTIC_CMD, offset 0x008, Attic (16_attic_boot.md)
def ATTIC_CMD_OP : Field := ⟨0x40008, 0, 3, .wo, 0, 0, 7⟩

-- ATTIC_ADDR, offset 0x00C, Attic (16_attic_boot.md)
def ATTIC_ADDR_WORD : Field := ⟨0x4000C, 0, 8, .rw, 0, 0, 255⟩
def ATTIC_ADDR_CTR : Field := ⟨0x4000C, 8, 2, .rw, 0, 0, 3⟩
def ATTIC_ADDR_SEL : Field := ⟨0x4000C, 10, 1, .rw, 0, 0, 1⟩
def ATTIC_ADDR_VALUE : Field := ⟨0x4000C, 16, 9, .rw, 0, 0, 511⟩

-- ATTIC_PDATA, offset 0x010, Attic (16_attic_boot.md)
def ATTIC_PDATA_PDATA : Field := ⟨0x40010, 0, 32, .rw, 0, 0, 0xffffffff⟩

-- ATTIC_RESULT, offset 0x014, Attic (16_attic_boot.md)
def ATTIC_RESULT_RESULT : Field := ⟨0x40014, 0, 4, .ro, 0, 0, 15⟩
def ATTIC_RESULT_OP : Field := ⟨0x40014, 4, 3, .ro, 0, 0, 7⟩
def ATTIC_RESULT_DONE : Field := ⟨0x40014, 7, 1, .rc, 0, 0, 1⟩
def ATTIC_RESULT_PULSES : Field := ⟨0x40014, 8, 8, .ro, 0, 0, 255⟩

-- ATTIC_MARGIN, offset 0x018, Attic (16_attic_boot.md)
def ATTIC_MARGIN_WEAK : Field := ⟨0x40018, 0, 32, .ro, 0, 0, 0xffffffff⟩

-- ATTIC_CTR, offset 0x01C, Attic (16_attic_boot.md)
def ATTIC_CTR_FW : Field := ⟨0x4001C, 0, 9, .ro, 0, 0, 511⟩
def ATTIC_CTR_PLAN : Field := ⟨0x4001C, 16, 9, .ro, 0, 0, 511⟩
def ATTIC_CTR_REVOKE : Field := ⟨0x4001C, 25, 3, .ro, 0, 0, 7⟩

-- SEC_IN0–SEC_IN7, offset 0x020–0x03C, Attic (16_attic_boot.md)
def SEC_IN_KEY : Field := ⟨0x40020, 0, 32, .wo, 0, 0, 0xffffffff⟩

-- SEC_KCV, offset 0x040, Attic (16_attic_boot.md)
def SEC_KCV_KCV0 : Field := ⟨0x40040, 0, 16, .ro, 0, 0, 65535⟩
def SEC_KCV_KCV1 : Field := ⟨0x40040, 16, 16, .ro, 0, 0, 65535⟩

-- BOOT_STAT, offset 0x044, Attic (16_attic_boot.md)
def BOOT_STAT_FW_R0 : Field := ⟨0x40044, 0, 4, .ro, 15, 0, 15⟩
def BOOT_STAT_FW_R1 : Field := ⟨0x40044, 4, 4, .ro, 15, 0, 15⟩
def BOOT_STAT_PL_R0 : Field := ⟨0x40044, 8, 4, .ro, 15, 0, 15⟩
def BOOT_STAT_PL_R1 : Field := ⟨0x40044, 12, 4, .ro, 15, 0, 15⟩
def BOOT_STAT_FW_SLOT : Field := ⟨0x40044, 16, 1, .ro, 0, 0, 1⟩
def BOOT_STAT_TRIAL_FB : Field := ⟨0x40044, 17, 1, .ro, 0, 0, 1⟩
def BOOT_STAT_BREC_BAD : Field := ⟨0x40044, 18, 1, .ro, 0, 0, 1⟩
def BOOT_STAT_REC_COPY : Field := ⟨0x40044, 19, 1, .ro, 0, 0, 1⟩
def BOOT_STAT_RECOVERY : Field := ⟨0x40044, 20, 1, .ro, 0, 0, 1⟩

-- BOOT_SEQ, offset 0x048, Attic (16_attic_boot.md)
def BOOT_SEQ_SEQ : Field := ⟨0x40048, 0, 32, .ro, 0, 0, 0xffffffff⟩

-- FW_VERSION, offset 0x04C, Attic (16_attic_boot.md)
def FW_VERSION_VERSION : Field := ⟨0x4004C, 0, 32, .ro, 0, 0, 0xffffffff⟩

-- FW_RD_ADDR, offset 0x050, Attic (16_attic_boot.md)
def FW_RD_ADDR_ADDR : Field := ⟨0x40050, 2, 20, .rw, 0, 0, 1048575⟩

-- FW_RD_DATA, offset 0x054, Attic (16_attic_boot.md)
def FW_RD_DATA_DATA : Field := ⟨0x40054, 0, 32, .ro, 0, 0, 0xffffffff⟩

-- ENG_CTRL, offset 0x058, Attic (16_attic_boot.md)
def ENG_CTRL_VERIFY : Field := ⟨0x40058, 0, 1, .wo, 0, 0, 1⟩
def ENG_CTRL_DONE : Field := ⟨0x40058, 1, 1, .ro, 0, 0, 1⟩
def ENG_CTRL_TAG_OK : Field := ⟨0x40058, 2, 1, .ro, 0, 0, 1⟩

-- ATTIC_WORD, offset 0x400–0x7FC, Attic (16_attic_boot.md)
def ATTIC_WORD_BITS : Field := ⟨0x40400, 0, 32, .ro, 0, 0, 0xffffffff⟩

-- PORCH_CTRL, offset 0x000, Porch (17_field_update.md)
def PORCH_CTRL_EN : Field := ⟨0x72000, 0, 1, .rw, 1, 0, 1⟩

-- PORCH_STAT, offset 0x004, Porch (17_field_update.md)
def PORCH_STAT_SESSION : Field := ⟨0x72004, 0, 2, .ro, 0, 0, 3⟩
def PORCH_STAT_KIND : Field := ⟨0x72004, 2, 2, .ro, 0, 0, 3⟩
def PORCH_STAT_SLOT : Field := ⟨0x72004, 4, 1, .ro, 0, 0, 1⟩
def PORCH_STAT_RECOVERY : Field := ⟨0x72004, 5, 1, .ro, 0, 0, 1⟩
def PORCH_STAT_TX_BUSY : Field := ⟨0x72004, 6, 1, .ro, 0, 0, 1⟩
def PORCH_STAT_EN_N : Field := ⟨0x72004, 7, 1, .ro, 0, 0, 1⟩

-- PORCH_ERR, offset 0x008, Porch (17_field_update.md)
def PORCH_ERR_CRC : Field := ⟨0x72008, 0, 8, .rc, 0, 0, 255⟩
def PORCH_ERR_CHAR : Field := ⟨0x72008, 8, 8, .rc, 0, 0, 255⟩
def PORCH_ERR_ABORT : Field := ⟨0x72008, 16, 8, .rc, 0, 0, 255⟩
def PORCH_ERR_OVERRUN : Field := ⟨0x72008, 24, 8, .rc, 0, 0, 255⟩

-- PORCH_SID, offset 0x00C, Porch (17_field_update.md)
def PORCH_SID_SID : Field := ⟨0x7200C, 0, 32, .ro, 0, 0, 0xffffffff⟩

-- PORCH_NEXT, offset 0x010, Porch (17_field_update.md)
def PORCH_NEXT_NEXT : Field := ⟨0x72010, 0, 16, .ro, 0, 0, 65535⟩
def PORCH_NEXT_CHUNKS : Field := ⟨0x72010, 16, 16, .ro, 0, 0, 65535⟩

-- PORCH_VSRC, offset 0x014, Porch (17_field_update.md)
def PORCH_VSRC_SRC : Field := ⟨0x72014, 0, 1, .ro, 0, 0, 1⟩
def PORCH_VSRC_CHUNK : Field := ⟨0x72014, 16, 9, .ro, 0, 0, 511⟩

-- UPD_CFG, offset 0x018, Porch (17_field_update.md)
def UPD_CFG_DEFER_MAX : Field := ⟨0x72018, 0, 11, .rw, 10, 1, 1440⟩
def UPD_CFG_CONF_T : Field := ⟨0x72018, 16, 10, .rw, 30, 10, 600⟩

-- UPD_STAT, offset 0x01C, Porch (17_field_update.md)
def UPD_STAT_STAGED : Field := ⟨0x7201C, 0, 2, .ro, 0, 0, 3⟩
def UPD_STAT_SCHEDULED : Field := ⟨0x7201C, 2, 1, .ro, 0, 0, 1⟩
def UPD_STAT_DEFERRING : Field := ⟨0x7201C, 3, 1, .ro, 0, 0, 1⟩
def UPD_STAT_TRIAL : Field := ⟨0x7201C, 4, 2, .ro, 0, 0, 3⟩
def UPD_STAT_LAST : Field := ⟨0x7201C, 8, 4, .ro, 0, 0, 15⟩

-- UPD_AT_LO, UPD_AT_HI, offset 0x020, 0x024, Porch (17_field_update.md)
def UPD_AT_LO_AT : Field := ⟨0x72020, 0, 32, .ro, 0, 0, 0xffffffff⟩
def UPD_AT_HI_AT : Field := ⟨0x72024, 0, 32, .ro, 0, 0, 0xffffffff⟩

-- CEL_ID, offset 0x000, Cellar (18_cellar_journal.md)
def CEL_ID_MFR : Field := ⟨0x73000, 0, 8, .ro, 0, 0, 255⟩
def CEL_ID_DEVICE : Field := ⟨0x73000, 8, 16, .ro, 0, 0, 65535⟩
def CEL_ID_DENSITY : Field := ⟨0x73000, 24, 2, .ro, 0, 0, 3⟩

-- CEL_STAT, offset 0x004, Cellar (18_cellar_journal.md)
def CEL_STAT_READY : Field := ⟨0x73004, 0, 1, .ro, 0, 0, 1⟩
def CEL_STAT_ERASING : Field := ⟨0x73004, 1, 1, .ro, 0, 0, 1⟩
def CEL_STAT_BREC_COPY : Field := ⟨0x73004, 2, 1, .ro, 0, 0, 1⟩

-- JNL_CTRL, offset 0x008, Cellar (18_cellar_journal.md)
def JNL_CTRL_EN : Field := ⟨0x73008, 0, 1, .rw, 0, 0, 1⟩

-- JNL_CMD, offset 0x00C, Cellar (18_cellar_journal.md)
def JNL_CMD_OP : Field := ⟨0x7300C, 0, 2, .wo, 0, 0, 3⟩

-- JNL_RESULT, offset 0x010, Cellar (18_cellar_journal.md)
def JNL_RESULT_RESULT : Field := ⟨0x73010, 0, 4, .ro, 0, 0, 15⟩
def JNL_RESULT_DONE : Field := ⟨0x73010, 4, 1, .rc, 0, 0, 1⟩
def JNL_RESULT_BUSY : Field := ⟨0x73010, 5, 1, .ro, 0, 0, 1⟩

-- JNL_WIN0–JNL_WIN4, offset 0x014–0x024, Cellar (18_cellar_journal.md)
def JNL_WIN_BYTES : Field := ⟨0x73014, 0, 32, .rw, 0, 0, 0xffffffff⟩

-- JNL_STAT, offset 0x028, Cellar (18_cellar_journal.md)
def JNL_STAT_AREA : Field := ⟨0x73028, 0, 1, .ro, 0, 0, 1⟩
def JNL_STAT_COMPACTING : Field := ⟨0x73028, 1, 1, .ro, 0, 0, 1⟩
def JNL_STAT_IMAGE : Field := ⟨0x73028, 2, 1, .ro, 0, 0, 1⟩
def JNL_STAT_EMPTY : Field := ⟨0x73028, 3, 1, .ro, 0, 0, 1⟩
def JNL_STAT_USED : Field := ⟨0x73028, 4, 19, .ro, 0, 0, 524287⟩

-- JNL_SEQ, offset 0x02C, Cellar (18_cellar_journal.md)
def JNL_SEQ_SEQ : Field := ⟨0x7302C, 0, 32, .ro, 0, 0, 0xffffffff⟩

-- JNL_EPOCH, offset 0x030, Cellar (18_cellar_journal.md)
def JNL_EPOCH_EPOCH : Field := ⟨0x73030, 0, 32, .ro, 0, 0, 0xffffffff⟩

-- JNL_WEAR0, JNL_WEAR1, offset 0x034, 0x038, Cellar (18_cellar_journal.md)
def JNL_WEAR0_ERASES : Field := ⟨0x73034, 0, 32, .ro, 0, 0, 0xffffffff⟩
def JNL_WEAR1_ERASES : Field := ⟨0x73038, 0, 32, .ro, 0, 0, 0xffffffff⟩

-- CEL_RD_ADDR, offset 0x03C, Cellar (18_cellar_journal.md)
def CEL_RD_ADDR_ADDR : Field := ⟨0x7303C, 2, 26, .rw, 0, 0, 67108863⟩

-- CEL_RD_DATA, offset 0x040, Cellar (18_cellar_journal.md)
def CEL_RD_DATA_DATA : Field := ⟨0x73040, 0, 32, .ro, 0, 0, 0xffffffff⟩

-- HALL_MODE, offset 0x040, Hall (19_faults.md)
def HALL_MODE_MODE : Field := ⟨0x40, 0, 3, .rw, 0, 0, 7⟩
def HALL_MODE_PENDING : Field := ⟨0x40, 3, 1, .ro, 0, 0, 1⟩
def HALL_MODE_REFUSED : Field := ⟨0x40, 4, 1, .rc, 0, 0, 1⟩
def HALL_MODE_SRC : Field := ⟨0x40, 5, 2, .ro, 0, 0, 3⟩
def HALL_MODE_EPOCH : Field := ⟨0x40, 16, 16, .ro, 0, 0, 65535⟩

-- MODE_ACK0, offset 0x044, Hall (19_faults.md)
def MODE_ACK0_ACK : Field := ⟨0x44, 0, 32, .ro, 0xffffffff, 0, 0xffffffff⟩

-- MODE_ACK1, offset 0x048, Hall (19_faults.md)
def MODE_ACK1_ACK : Field := ⟨0x48, 0, 16, .ro, 65535, 0, 65535⟩

-- FIRE_CFG, offset 0x04C, Hall (19_faults.md)
def FIRE_CFG_EN : Field := ⟨0x4C, 0, 1, .rw, 1, 0, 1⟩
def FIRE_CFG_FILT : Field := ⟨0x4C, 1, 7, .rw, 10, 1, 100⟩
def FIRE_CFG_FIRE_IN : Field := ⟨0x4C, 8, 1, .ro, 0, 0, 1⟩
def FIRE_CFG_FIRE : Field := ⟨0x4C, 9, 1, .rc, 0, 0, 1⟩

-- HB_CFG, offset 0x050, Hall (19_faults.md)
def HB_CFG_HB_T : Field := ⟨0x50, 0, 7, .rwl, 50, 10, 100⟩
def HB_CFG_LOCK : Field := ⟨0x50, 7, 1, .w1s, 0, 0, 1⟩

-- HB_STAT, offset 0x054, Hall (19_faults.md)
def HB_STAT_MISS : Field := ⟨0x54, 0, 1, .rc, 0, 0, 1⟩
def HB_STAT_ARMED : Field := ⟨0x54, 1, 1, .ro, 0, 0, 1⟩
def HB_STAT_AGE : Field := ⟨0x54, 16, 16, .ro, 0, 0, 65535⟩

-- EVR_PEND, offset 0x180, Hall (19_faults.md)
def EVR_PEND_LINE : Field := ⟨0x180, 1, 31, .ro, 0, 0, 2147483647⟩

-- EVR_PORT0, offset 0x184, Hall (19_faults.md)
def EVR_PORT0_PORT : Field := ⟨0x184, 0, 32, .ro, 0, 0, 0xffffffff⟩

-- EVR_PORT1, offset 0x188, Hall (19_faults.md)
def EVR_PORT1_PORT : Field := ⟨0x188, 0, 16, .ro, 0, 0, 65535⟩

-- LAND_WDT, offset 0x140, Landing (19_faults.md)
def LAND_WDT_WDT_T : Field := ⟨0x140, 0, 7, .rw, 10, 1, 100⟩

-- LAND_WDT_STAT, offset 0x144, Landing (19_faults.md)
def LAND_WDT_STAT_MISS : Field := ⟨0x144, 0, 8, .rc, 0, 0, 255⟩
def LAND_WDT_STAT_SECOND : Field := ⟨0x144, 8, 8, .ro, 0, 0, 255⟩

-- LAND_FAULT, offset 0x148, Landing (19_faults.md)
def LAND_FAULT_WDT : Field := ⟨0x148, 0, 1, .rc, 0, 0, 1⟩
def LAND_FAULT_PARITY : Field := ⟨0x148, 1, 1, .rc, 0, 0, 1⟩
def LAND_FAULT_HANDUP : Field := ⟨0x148, 2, 1, .rc, 0, 0, 1⟩
def LAND_FAULT_BALANCE : Field := ⟨0x148, 3, 1, .rc, 0, 0, 1⟩

-- LAND_SENSE, offset 0x14C, Landing (19_faults.md)
def LAND_SENSE_PORT_PIN : Field := ⟨0x14C, 0, 24, .ro, 0, 0, 16777215⟩
def LAND_SENSE_SLOT_PIN : Field := ⟨0x14C, 24, 2, .ro, 0, 0, 3⟩
def LAND_SENSE_HOLD : Field := ⟨0x14C, 26, 1, .ro, 0, 0, 1⟩
def LAND_SENSE_SUBST : Field := ⟨0x14C, 28, 4, .ro, 0, 0, 15⟩

-- WING_FAULT, offset 0x100, Wing (19_faults.md)
def WING_FAULT_BUS : Field := ⟨0x100, 0, 1, .rc, 0, 0, 1⟩
def WING_FAULT_CAL : Field := ⟨0x100, 1, 1, .rc, 0, 0, 1⟩
def WING_FAULT_LANDING : Field := ⟨0x100, 2, 3, .rc, 0, 0, 7⟩

-- WING_CTRL, offset 0x104, Wing (19_faults.md)
def WING_CTRL_RESTART : Field := ⟨0x104, 0, 1, .wo, 0, 0, 1⟩

-- WING_CAL, offset 0x108, Wing (19_faults.md)
def WING_CAL_ROOM : Field := ⟨0x108, 0, 24, .rc, 0, 0, 16777215⟩

-- DBG_STAT, offset 0x000, Debug control (20_debug.md)
def DBG_STAT_ENABLED : Field := ⟨0x74000, 0, 1, .ro, 0, 0, 1⟩
def DBG_STAT_HALL_HALTED : Field := ⟨0x74000, 1, 1, .ro, 0, 0, 1⟩

-- DBG_CTRL, offset 0x004, Debug control (20_debug.md)
def DBG_CTRL_SNAP : Field := ⟨0x74004, 0, 1, .wo, 0, 0, 1⟩
def DBG_CTRL_HB_SUSPEND : Field := ⟨0x74004, 1, 1, .rw, 0, 0, 1⟩
def DBG_CTRL_HALT_ON_BOOT : Field := ⟨0x74004, 2, 1, .rw, 0, 0, 1⟩
def DBG_CTRL_STEP_EV : Field := ⟨0x74004, 3, 1, .rw, 0, 0, 1⟩
def DBG_CTRL_RESET_KEY : Field := ⟨0x74004, 8, 8, .wo, 0, 0, 255⟩

-- DBG_HALT0, offset 0x008, Debug control (20_debug.md)
def DBG_HALT0_ROOM : Field := ⟨0x74008, 0, 32, .rw, 0, 0, 0xffffffff⟩

-- DBG_HALT1, offset 0x00C, Debug control (20_debug.md)
def DBG_HALT1_ROOM : Field := ⟨0x7400C, 0, 16, .rw, 0, 0, 65535⟩
def DBG_HALT1_HALL : Field := ⟨0x7400C, 16, 1, .rw, 0, 0, 1⟩

-- DBG_STEP, offset 0x010, Debug control (20_debug.md)
def DBG_STEP_CORE : Field := ⟨0x74010, 0, 6, .wo, 0, 0, 63⟩

-- DBG_CSEL, offset 0x014, Debug control (20_debug.md)
def DBG_CSEL_CORE : Field := ⟨0x74014, 0, 6, .rw, 0, 0, 48⟩
def DBG_CSEL_REG : Field := ⟨0x74014, 8, 5, .rw, 0, 0, 31⟩

-- DBG_CREG, offset 0x018, Debug control (20_debug.md)
def DBG_CREG_VALUE : Field := ⟨0x74018, 0, 32, .rw, 0, 0, 0xffffffff⟩

-- DBG_CAUSE, offset 0x01C, Debug control (20_debug.md)
def DBG_CAUSE_CAUSE : Field := ⟨0x7401C, 0, 3, .ro, 0, 0, 7⟩
def DBG_CAUSE_BKPT : Field := ⟨0x7401C, 3, 3, .ro, 0, 0, 7⟩

-- DBG_HBKPT0–DBG_HBKPT7, offset 0x020–0x03C, Debug control (20_debug.md)
def DBG_HBKPT_EN : Field := ⟨0x74020, 0, 1, .rw, 0, 0, 1⟩
def DBG_HBKPT_ADDR : Field := ⟨0x74020, 2, 30, .rw, 0, 0, 1073741823⟩

-- DBG_ADDR, offset 0x040, Debug control (20_debug.md)
def DBG_ADDR_ADDR : Field := ⟨0x74040, 0, 32, .ro, 0, 0, 0xffffffff⟩

-- DBG_RBUF, offset 0x044, Debug control (20_debug.md)
def DBG_RBUF_DATA : Field := ⟨0x74044, 0, 32, .ro, 0, 0, 0xffffffff⟩

-- HALL_ID, HALL_REV (23_register_index.md, R666)
def HALL_ID_ID : Field := ⟨0x0, 0, 32, .ro, 0x4860, 0, 0xffffffff⟩
def HALL_REV_REV : Field := ⟨0x4, 0, 32, .ro, 0x100, 0, 0xffffffff⟩

-- TMR_FLAG, Room 0x3D0; at Landing 0x1C0 through `Field.shift` (12_timers_snapshot.md)
def TMR_FLAG_FIRED : Field := ⟨0x3D0, 0, 8, .w1c, 0, 0, 255⟩
def TMR_FLAG_OVERRUN : Field := ⟨0x3D0, 8, 8, .w1c, 0, 0, 255⟩

/-- A whole read-only word at an offset (snapshot shadows, 12_timers_snapshot.md R428). -/
def shadowWord (off : Nat) : Field := ⟨off, 0, 32, .ro, 0, 0, 0xffffffff⟩

/-- The fields `fs` repeated `n` times, `stride` bytes apart. -/
def fieldArray (n stride : Nat) (fs : List Field) : List Field :=
  (List.range n).flatMap fun i => fs.map fun f => f.shift (stride * i)

/-- Part 1 of The four registers of one timer (12_timers_snapshot.md).. -/
def tmrFields0 : List Field := [
  TMR_CTRL_EN, TMR_CTRL_SRC, TMR_CTRL_MODE, TMR_CTRL_IE, TMR_CTRL_GATE_EN,
  TMR_CTRL_GATE_POL, TMR_CTRL_RST_EN, TMR_CTRL_OUT, TMR_CTRL_DONE, TMR_CTRL_ROUTE_G,
  TMR_CTRL_ROUTE_R, TMR_CTRL_ROUTE_C, TMR_CMP_VALUE, TMR_CNT_VALUE, TMR_PER_VALUE]

/-- The four registers of one timer (12_timers_snapshot.md). -/
def tmrFields : List Field :=
  tmrFields0

/-- Part 1 of The four registers of one budget node (09_hearth_budget.md).. -/
def budFields0 : List Field := [
  BUD_LIMIT_LIMIT_W, BUD_LIMIT_AVAIL_W, BUD_CAP0_EGRESS, BUD_CAP0_ESSENTIAL, BUD_CAP1_COMFORT,
  BUD_STAT_GRANTED_W, BUD_STAT_SHORT, BUD_STAT_THERM, BUD_STAT_BAL_MISMATCH]

/-- The four registers of one budget node (09_hearth_budget.md). -/
def budFields : List Field :=
  budFields0

/-- Part 1 of The Room registers (23_register_index.md, table "Room registers").. -/
def roomFields0 : List Field := [
  ID_PORT_NUM, ID_SLOT, ID_WING, ID_PRESENCE, ID_GANG_SIZE,
  ID_CLASS, ID_ROLE_CAP, ID_LEAD, CTRL_ENABLE, CTRL_FORCE_SAFE,
  CTRL_RESTART_CORE, CTRL_RECOVER, STATUS_STATE, STATUS_CORE_ALIVE, STATUS_LOOP_ACTIVE,
  STATUS_SWITCH_ON, STATUS_POWER_DIR, STATUS_MIRROR_STALE, STATUS_MODE, STATUS_EPOCH,
  STATUS_FAULT_ANY, STATUS_KEEPER, FAULT_OV, FAULT_UV, FAULT_SC,
  FAULT_EFUSE, FAULT_FET_SHORT, FAULT_THERM_TRIP, FAULT_SENSE_OPEN, FAULT_CC_OV,
  FAULT_VCONN_OC, FAULT_CORE_WDT, FAULT_CORE_FAIL, FAULT_REG_LOSS, FAULT_PARITY,
  FAULT_ESCALATED, FAULT_KEY_LOSS, FAULT_FORCED_MODE, EVENT_FAULT, EVENT_ATTACH,
  EVENT_DETACH, EVENT_CONTRACT, EVENT_TRANS_DONE, EVENT_MODE_APPLIED, EVENT_CORE_RESTART,
  EVENT_SAFE_ENTER, EVENT_SAFE_EXIT, EVENT_VDM_RX, EVENT_THERM_WARN, EVENT_BUDGET,
  EVENT_MIRROR_STALE, EVENT_ACCESS_ERR, EVENT_EN_EN, CC_TIMING_TCCDB, CC_TIMING_TPDDB,
  CC_TIMING_TTRYDB, CC_TIMING_TERR, CC_DRP_TDRP, CC_DRP_DUTY, CC_DRP_TDRPTRY]

/-- Part 2 of The Room registers (23_register_index.md, table "Room registers").. -/
def roomFields1 : List Field := [
  CC_CMD_ERROR_RECOVERY, CC_STAT_ASTATE, CC_STAT_ORIENT, CC_STAT_ORIENT_VALID, CC_STAT_PARTNER,
  CC_STAT_RP_SEEN, CC_STAT_RP_ADV, CC_STAT_VCONN_ON, CC_STAT_VCONN_LOCK, CC_STAT_BUDGET_WAIT,
  CC_STAT_CC1_ISOL, CC_STAT_CC2_ISOL, CC_STAT_VBUS_SAFE0, CC_STAT_VBUS_PRESENT, CC_STAT_MIRRORED,
  CC_LEVEL_CC1_LVL, CC_LEVEL_CC2_LVL, CC_LEVEL_CC1_OV, CC_LEVEL_CC2_OV, VCONN_CTRL_EN,
  VCONN_CTRL_AUTO, CC_EVENT_ATTACH_SRC, CC_EVENT_ATTACH_SNK, CC_EVENT_DETACH, CC_EVENT_RP_CHANGE,
  CC_EVENT_PARTNER_CHANGE, CC_EVENT_DEBUG_ACC, CC_EVENT_AUDIO_ACC, CC_EVENT_VCONN_OC, CC_EVENT_CC_OV,
  CC_EVENT_BUDGET_WAIT, PD_CFG_MAX_REV, PD_CFG_AUTO_SR, PD_CFG_CABLE_AUTO, PD_CFG_CABLE_TRIES,
  PD_CFG_BIST_EN, PD_CFG_EPR_KA_AUTO, PD_CFG_EXT_RX_PTR, PD_STAT_REV_SOP, PD_STAT_REV_SOPP,
  PD_STAT_REV_SOPPP, PD_STAT_EXPLICIT, PD_STAT_EPR_ACTIVE, PD_STAT_HR_ACTIVE, PD_STAT_DATA_ROLE,
  PD_STAT_SINKTX, PD_STAT_CABLE_STATE, PD_STAT_HR_COUNT, PD_STAT_RXQ_COUNT, PD_STAT_VDMIN_COUNT,
  PD_STAT_HVDM_STATE, PD_STAT_BIST, PD_CMD_HARD_RESET, PD_CMD_CABLE_RESET, PD_CMD_CABLE_DISC,
  PD_CMD_RX_POP, PD_CMD_VDM_POP, PD_CMD_TX_RELEASE, PD_CMD_TX_WITHDRAW, PD_CMD_AMS_END]

/-- Part 3 of The Room registers (23_register_index.md, table "Room registers").. -/
def roomFields2 : List Field := [
  PD_CMD_HVDM_SEND, PD_EVENT_RX, PD_EVENT_TX_DONE, PD_EVENT_TX_REJ, PD_EVENT_TX_HELD,
  PD_EVENT_HR_RX, PD_EVENT_HR_TX, PD_EVENT_SR_RX, PD_EVENT_CABLE_DONE, PD_EVENT_CHUNK_ERR,
  PD_EVENT_RX_BUSY, PD_EVENT_VDM_IN, PD_EVENT_HVDM_DONE, PD_EVENT_AUTO_REPLY, PD_EVENT_KA_MISS,
  PD_EVENT_REV_SET, PD_EVENT_ERR_RECOVERY, TX_STAT_STATE, TX_STAT_TRIES, TX_STAT_MSGID,
  TX_STAT_REJ_CODE, PD_ERRCNT_CRC_ERR, PD_ERRCNT_TRUNC, PD_ERRCNT_DUP, PD_ERRCNT_RX_BUSY,
  CABLE_IDH_IDH, CABLE_VDO_VDO1, DISC_ID_VID, DISC_ID_PID, VIN0_HDR,
  VIN0_VALID, HV0_HDR, TXW0_HDR, TXW0_SOP, TXW0_INITIATE,
  TXW0_SEND, TXW0_EXT_PTR, RXW0_HDR, RXW0_SOP, RXW0_EXT,
  RXW0_VALID, NEG_CTRL_TYPE, NEG_CTRL_POS, NEG_CTRL_VALID, NEG_VI_MV,
  NEG_VI_MA, CON_STAT_TYPE, CON_STAT_POS, CON_STAT_SWAP, CON_STAT_STEP,
  CON_STAT_HR_SEQ, CON_STAT_RAMPING, CON_STAT_SETTLED, CON_STAT_GATE, CON_STAT_GIVEUP,
  CON_STAT_ENFORCED, CON_STAT_FRS_READY, CON_VI_MV, CON_VI_MA, CON_LIM_ILIM]

/-- Part 4 of The Room registers (23_register_index.md, table "Room registers").. -/
def roomFields3 : List Field := [
  CON_LIM_CAUSE, CON_LIM_VLIM, CABLE_LIM_IMAX_MA, CABLE_LIM_EPR_OK, CABLE_LIM_FROM_EMARKER,
  CABLE_LIM_VMAX_MV, VSET_MV, VSET_REF, CON_CFG_SLEW, CON_CFG_TSRC,
  CON_CFG_GIVEUP, GRANT_ASK_ASK_W, GRANT_ASK_STATE, GRANT_GRANT_W, GRANT_RESV_W,
  FRS_CTRL_ARM, FRS_CTRL_FRS_I, FRS_CTRL_TRIG_AUTO, FRS_CTRL_TRIG, SINK_CTRL_SINK_I,
  CON_EVENT_CONTRACT, CON_EVENT_SETTLED, CON_EVENT_GATE, CON_EVENT_CAPS_CLAMPED, CON_EVENT_SWAP_DONE,
  CON_EVENT_SWAP_FAIL, CON_EVENT_FRS_TX, CON_EVENT_FRS_RX, CON_EVENT_GIVEUP, CON_EVENT_ENFORCE,
  CON_EVENT_SETTLE_FAIL, CON_EVENT_RESV_LAPSE, CON_EVENT_VLIM_DROP, PWM_TIMING_PER, PWM_TIMING_PHASE,
  PWM_TIMING_LATE, PWM_LIMIT_MIN_ON, PWM_LIMIT_MIN_OFF, PWM_STAT_HIGH_T, PWM_STAT_LEVEL,
  PWM_STAT_HOLD, PWM_STAT_SKIP, LOOP_CFG_ESHIFT, LOOP_CFG_COEF_APPLY, LOOP_CFG_SS_T,
  LOOP_CFG_DISCH_T, LOOP_CFG_DRAW_SLEW, COEF_B0_COEF, COEF_B1_COEF, COEF_B2_COEF,
  COEF_B3_COEF, COEF_A1_COEF, COEF_A2_COEF, COEF_A3_COEF, CL_KI_KCL,
  REV_KP_GAIN, REV_KI_GAIN, LOOP_STAT_STATE, LOOP_STAT_ILIMITING, LOOP_STAT_FF_CLAMP]

/-- Part 5 of The Room registers (23_register_index.md, table "Room registers").. -/
def roomFields4 : List Field := [
  LOOP_STAT_YSAT, LOOP_STAT_Y, ADC_VBUS_LOOP, ADC_VBUS_AVG, ADC_I_LOOP,
  ADC_I_AVG, ADC_VNODE_VNODE, ADC_VNODE_VIN, THR_OV_FRAC, THR_OV_BLANK,
  THR_OV_FILT_M, THR_OV_FILT_N, THR_OV_AUTOCLR, THR_OV_TRACK, THR_OV_PCT,
  THR_UV_FRAC, THR_UV_BLANK, THR_UV_FILT_M, THR_UV_FILT_N, THR_UV_AUTOCLR,
  THR_UV_TRACK, THR_UV_PCT, THR_PK_FRAC, THR_PK_BLANK, THR_PK_FILT_M,
  THR_PK_FILT_N, THR_PK_AUTOCLR, THR_PK_TRACK, THR_PK_PCT, THR_SC_FRAC,
  THR_SC_BLANK, THR_SC_FILT_M, THR_SC_FILT_N, THR_SC_AUTOCLR, THR_SC_TRACK,
  THR_SC_PCT, THR_LEVEL_OV_EFF, THR_LEVEL_UV_EFF, THR_STAT_RAW, THR_STAT_ARMED,
  THR_STAT_HOLD, THR_FLAG_OV, THR_FLAG_UV, THR_FLAG_PK_POS, THR_FLAG_PK_NEG,
  THR_FLAG_SC_POS, THR_FLAG_SC_NEG, THR_CNT_OV, THR_CNT_UV, THR_CNT_PK,
  THR_CNT_SC, PROT_TIME_OV_T, PROT_TIME_UV_T, PROT_TIME_REGLOSS_T, CONV_EVENT_ILIMIT,
  CONV_EVENT_ILIMIT_END, CONV_EVENT_PK_TRIP, CONV_EVENT_OV_TRIP, CONV_EVENT_UV_TRIP, CONV_EVENT_DIR_CHANGE]

/-- Part 6 of The Room registers (23_register_index.md, table "Room registers").. -/
def roomFields5 : List Field := [
  CONV_EVENT_COEF_APPLIED, CONV_EVENT_FOLDBACK, CONV_EVENT_ATTEMPT, CONV_EVENT_ATTEMPT_OK, CONV_EVENT_ATTEMPT_FAIL,
  CONV_EVENT_EXHAUSTED, SW_STAT_CMD, SW_STAT_FULL, SW_STAT_CLOSE, SW_STAT_CP_OK,
  SW_STAT_DISCONNECTED, SW_STAT_VDS, EF_LIMIT_MARGIN, EF_LIMIT_ABS, EF_TIME_TFLT,
  EF_TIME_TFB, EF_FB_PFB, RETRY_CFG_MAX, RETRY_CFG_ATT_T, RETRY_CFG_PER,
  RETRY_STAT_COUNT, RETRY_STAT_WAIT, RETRY_STAT_ATTEMPT, RETRY_STAT_EXHAUSTED, RETRY_STAT_NEXT,
  EF_STAT_TIMER, EF_STAT_IEF, HRT_TEMP_TJ, HRT_TEMP_PWR, HRT_STAT_STATE,
  HRT_STAT_GRACE_SPENT, HRT_STAT_REF_FB, HRT_STAT_GRACE_LEFT, HRT_STAT_ITH, HRT_CFG_GRACE,
  HRT_CFG_HYST, PORT_BUD_FLOOR_W, PORT_BUD_PMAX_W, CORE_CTRL_HOLD, CORE_STAT_STATE,
  CORE_STAT_IN_EVT, CORE_STAT_STAGE_DIRTY, CORE_STAT_RPT_ACTIVE, CORE_STAT_EXT_COPY, CORE_STAT_TRAP_CODE,
  CORE_STAT_LC, CORE_PC_PC, CORE_KICK_KEY, EV_EN_TRAP, EV_EN_EN,
  EV_PEND_COND, EV_LATCH_GRANT_UPD, DOORBELL_DB, DB_ACK_ACK, CORE_EPC_EPC,
  CORE_EVC_LINE, CORE_EVC_RPT, CORE_EVC_IN_EVT, CORE_EVC_TRAP, EOUT_LO_E]

/-- Part 7 of The Room registers (23_register_index.md, table "Room registers").. -/
def roomFields6 : List Field := [
  EIN_LO_E, EOUT_HI_E, EIN_HI_E]

/-- The Room registers (23_register_index.md, table "Room registers"). -/
def roomFields : List Field :=
  roomFields0 ++ roomFields1 ++ roomFields2 ++ roomFields3 ++ roomFields4 ++ roomFields5 ++ roomFields6
    ++ fieldArray 7 4 [VINN_DO, HVN_DO, TXWN_DO, RXWN_DO] ++ fieldArray 4 4 [BKPT_EN, BKPT_ADDR]
    ++ (fieldArray 8 16 tmrFields).map (·.shift 0x300) ++ [TMR_FLAG_FIRED, TMR_FLAG_OVERRUN]
    ++ (List.range 10).map (fun i => shadowWord (0x3D8 + 4 * i))

/-- Part 1 of The Landing registers (23_register_index.md, table "Landing registers").. -/
def landFields0 : List Field := [
  HS_CTRL_EN, HS_CTRL_RECOVER, HS_LIMIT_ILIM, HS_LIMIT_PINR, HS_TIME_TSEAT,
  HS_TIME_TFLT, HS_TIME_TINR, HS_RETRY_MAX, HS_RETRY_PER, HS_RETRY_TDIS,
  HS_STAT_STATE, HS_STAT_SEAT1, HS_STAT_SEAT2, HS_STAT_GATE_CMD, HS_STAT_GATE_FULL,
  HS_STAT_PG, HS_STAT_LIMIT, HS_STAT_SC_CLAMP, HS_STAT_MIRRORED, HS_STAT_CLASS,
  HS_STAT_COUNT, HS_STAT_NEXT, HS_THR_CL_EFF, HS_THR_SC_EFF, HS_MEAS_VOUT,
  HS_MEAS_VSLOTIN, HS_IMEAS_CUR, HS_IMEAS_TIMER, HS_FAULT_BREAKER, HS_FAULT_SHORT,
  HS_FAULT_INRUSH_TO, HS_FAULT_PG_LOSS, HS_FAULT_SEAT_LIFT, HS_FAULT_FET_SHORT, HS_FAULT_THERM_TRIP,
  HS_FAULT_SENSE_OPEN, HS_FAULT_SHORT_NEG, HS_EVENT_SEATED, HS_EVENT_UNSEATED, HS_EVENT_PG_ON,
  HS_EVENT_PG_OFF, HS_EVENT_FAULT, HS_EVENT_ATTEMPT, HS_EVENT_ATTEMPT_OK, HS_EVENT_ATTEMPT_FAIL,
  HS_EVENT_EXHAUSTED, HS_EVENT_LIMIT, BUD_CFG_EFF, BUD_CFG_PAUX, BUD_BAL_P_SLOT,
  BUD_BAL_P_EXP, LAND_WDT_WDT_T, LAND_WDT_STAT_MISS, LAND_WDT_STAT_SECOND, LAND_FAULT_WDT,
  LAND_FAULT_PARITY, LAND_FAULT_HANDUP, LAND_FAULT_BALANCE, LAND_SENSE_PORT_PIN, LAND_SENSE_SLOT_PIN]

/-- Part 2 of The Landing registers (23_register_index.md, table "Landing registers").. -/
def landFields1 : List Field := [
  LAND_SENSE_HOLD, LAND_SENSE_SUBST]

/-- The Landing registers (23_register_index.md, table "Landing registers"). -/
def landFields : List Field :=
  landFields0 ++ landFields1
    ++ budFields.map (·.shift 0xC0) ++ (fieldArray 8 16 tmrFields).map (·.shift 0x200)
    ++ [{ TMR_FLAG_FIRED with off := 0x1C0 }, { TMR_FLAG_OVERRUN with off := 0x1C0 }]
    ++ (List.range 6).map (fun i => shadowWord (0x180 + 4 * i))

/-- Part 1 of The Wing registers (23_register_index.md, table "Wing registers").. -/
def wingFields0 : List Field := [
  WING_FAULT_BUS, WING_FAULT_CAL, WING_FAULT_LANDING, WING_CTRL_RESTART, WING_CAL_ROOM]

/-- The Wing registers (23_register_index.md, table "Wing registers"). -/
def wingFields : List Field :=
  wingFields0
    ++ budFields.map (·.shift 0xC0) ++ (List.range 3).map (fun i => shadowWord (0x180 + 4 * i))

/-- Part 1 of The registers of one host link (13_host_link.md).. -/
def hlFields0 : List Field := [
  HL_CTRL_EN, HL_CTRL_FLOW_EN, HL_CTRL_EVT_EN, HL_BAUD_DIVF, HL_STAT_RTS,
  HL_STAT_CTS, HL_STAT_RX_FREE, HL_STAT_TX_BUSY, HL_STAT_FW_BUSY, HL_ERR_CRC,
  HL_ERR_CHAR, HL_ERR_ABORT, HL_ERR_OVERRUN, HL_EVT_CFG_TIMEOUT, HL_EVT_STAT_OUTSTANDING,
  HL_EVT_STAT_TABLE, HL_EVT_SEQ_NEXT, HL_EVT_SEQ_OLDEST, HL_SUB_KIND_KINDS, HL_SUB_PORT0_PORTS,
  HL_SUB_PORT1_PORTS, HL_SUB_PORT1_SLOTS]

/-- The registers of one host link (13_host_link.md). -/
def hlFields : List Field :=
  hlFields0

/-- Part 1 of The registers of one two-wire target port (14_two_wire.md).. -/
def twFields0 : List Field := [
  TW_CTRL_EN, TW_CTRL_FMP, TW_CTRL_PEC, TW_CTRL_TIMEOUT_EN, TW_MATCH_ADDR,
  TW_MAP_MASK, TW_MAP_PORT_INDEXED, TW_MAP_BASE_PORT, TW_STAT_BUSY, TW_STAT_STRETCH,
  TW_STAT_LAST_ADDR, TW_STAT_WSTAT, TW_STAT_RSTAT, TW_ERR_PEC, TW_ERR_SHORT,
  TW_ERR_DENIED, TW_ERR_BUS]

/-- The registers of one two-wire target port (14_two_wire.md). -/
def twFields : List Field :=
  twFields0

/-- Part 1 of The registers of one two-wire controller port (14_two_wire.md).. -/
def tcFields0 : List Field := [
  TC_CTRL_EN, TC_CTRL_SPEED, TC_CTRL_PEC, TC_CMD_ADDR, TC_CMD_WLEN,
  TC_CMD_RLEN, TC_CMD_GO, TC_STAT_BUSY, TC_STAT_DONE, TC_STAT_RESULT,
  TC_STAT_COUNT]

/-- The registers of one two-wire controller port (14_two_wire.md). -/
def tcFields : List Field :=
  tcFields0 ++ fieldArray 8 4 [TC_DATA_DATA]

/-- Part 1 of The Hall global registers and those of the global blocks, by full address (23_register_index.md).. -/
def hallFields0 : List Field := [
  HALL_ID_ID, HALL_REV_REV, CLK_STAT_XTAL_OK, CLK_STAT_PLL_LOCK, CLK_STAT_SLOW_SRC,
  CLK_STAT_SLOW_XTAL_OK, CLK_STAT_RC_CAL_VALID, CLK_CTRL_SLOW_SEL, CLK_CTRL_RC_CAL_EN, PWR_CTRL_REQ,
  PWR_CTRL_RESET_KEY, PWR_STAT_STATE, PWR_STAT_PENDING, PWR_STAT_BOOT_DONE, PWR_STAT_REFUSE,
  PWR_STAT_ABORTED, WAKE_EN_WAKE_PIN, WAKE_EN_CC, WAKE_EN_TW, WAKE_EN_KEY,
  WAKE_EN_ALARM, WAKE_EN_HL, WAKE_EN_PORCH, WAKE_CAUSE_WAKE_PIN, WAKE_CAUSE_CC,
  WAKE_CAUSE_TW, WAKE_CAUSE_KEY, WAKE_CAUSE_ALARM, WAKE_CAUSE_FIRE, WAKE_CAUSE_HL,
  WAKE_CAUSE_PORCH, WAKE_CAUSE_SLOW_SWITCH, WAKE_CAUSE_CC_PORT, WAKE_ALARM_COMPARE, RESET_CAUSE_AON_POR,
  RESET_CAUSE_BOR_CORE, RESET_CAUSE_BOR_IO, RESET_CAUSE_BOR_A, RESET_CAUSE_PIN, RESET_CAUSE_WDT,
  RESET_CAUSE_CLK_FAIL, RESET_CAUSE_SOFT, RESET_CAUSE_DEBUG, RESET_CAUSE_STANDBY_EXIT, PLAN_STAT_APPLIED,
  PLAN_STAT_SLOT, PLAN_STAT_PAIR_MODE, PLAN_STAT_REASON0, PLAN_STAT_REASON1, PLAN_ID_ID,
  PLAN_REV_REV, PLAN_FMT_MAJOR, PLAN_FMT_MINOR, PLAN_FMT_SCHEMA, PLAN_RD_ADDR_ADDR,
  PLAN_RD_DATA_DATA, ERR_LOC0_OFFSET, ERR_LOC0_TYPE, ERR_LOC1_OFFSET, ERR_LOC1_TYPE]

/-- Part 2 of The Hall global registers and those of the global blocks, by full address (23_register_index.md).. -/
def hallFields1 : List Field := [
  HEARTH_CTRL_TAMB_FB, HEARTH_CTRL_GRACE, HEARTH_CTRL_HYST, HEARTH_TAMB_T0, HEARTH_TAMB_T1,
  HEARTH_STAT_TAMB0_OK, HEARTH_STAT_TAMB1_OK, HEARTH_STAT_DIE_STATE, HEARTH_SEL_MODEL, HEARTH_MT_TJ,
  HEARTH_MT_PWR, HEARTH_MS_STATE, HEARTH_MS_PRESENT, HEARTH_MS_ITH, HEARTH_DIE_TJ,
  HEARTH_DIE_PWR, HEARTH_EVENT_DIE_WARN, HEARTH_EVENT_DIE_TRIP, HEARTH_EVENT_SLOT_WARN, HEARTH_EVENT_QCHG_WARN,
  HEARTH_EVENT_QID_WARN, HEARTH_EVENT_QCHG_TRIP, HEARTH_EVENT_QID_TRIP, HEARTH_EVENT_TAMB0_FAULT, HEARTH_EVENT_TAMB1_FAULT,
  PAN_CTRL_EN, PAN_CTRL_BM_AUTO, PAN_CTRL_RSUP_EN, PAN_CTRL_TERM_SEL, PAN_CTRL_START,
  PAN_CTRL_RESTART, CHG_SET_ICHG, CHG_SET_IPRE, CHG_SET_ITRK, CHG_TERM_NDV,
  CHG_TERM_DTDT, CHG_TERM_HOLDOFF, CHG_TERM_TSAFE, CHG_LIMITS_TMIN, CHG_LIMITS_TMAX,
  CHG_LIMITS_CELL_OV, BAT_VOLT_LOW_V, BAT_VOLT_CUT_V, BAT_VOLT_FIRE_CUT, BAT_DIS_DIS_W,
  BAT_DIS_RSUP_W, NTC_CFG_BETA, NTC_CFG_R25, ID_CFG_FWD_MV, ID_CFG_REV_MV,
  ID_CFG_BM_EXIT, CHG_STAT_STATE, CHG_STAT_PAUSE_CAUSE, CHG_STAT_TERM_CAUSE, CHG_STAT_PRES,
  CHG_STAT_QID_ON, CHG_STAT_QID_FULL, CHG_STAT_BATT_ACTIVE, CHG_STAT_CUTOFF, CHG_STAT_BAT_LOW]

/-- Part 3 of The Hall global registers and those of the global blocks, by full address (23_register_index.md).. -/
def hallFields2 : List Field := [
  CHG_STAT_NTC_OK, CHG_STAT_CHG_I, PAN_MEAS_VBAT, PAN_MEAS_SYS, PAN_IMEAS_IB,
  PAN_IMEAS_VBUS_IN, BAT_TEMP_T, BAT_TEMP_DTDT, CHG_PROG_FAST_MIN, CHG_PROG_PEAK,
  PANTRY_FAULT_BAT_REMOVED, PANTRY_FAULT_CHG_OV, PANTRY_FAULT_SAFETY_TMR, PANTRY_FAULT_QUAL_V, PANTRY_FAULT_QUAL_R,
  PANTRY_FAULT_PRE_TIMEOUT, PANTRY_FAULT_NTC_FAULT, PANTRY_FAULT_CUTOFF, PANTRY_FAULT_QCHG_TRIP, PANTRY_FAULT_QID_TRIP,
  PANTRY_EVENT_FAULT, PANTRY_EVENT_STATE, PANTRY_EVENT_TERMINATED, PANTRY_EVENT_BATT_ON, PANTRY_EVENT_BATT_OFF,
  PANTRY_EVENT_BAT_LOW, PANTRY_EVENT_PRES_CHANGE, PANTRY_EVENT_BUDGET_PAUSE, PAN_THR_OV_EFF, PAN_THR_PK_EFF,
  PAN_THR_REV_EFF, LAMP_A_MODE, LAMP_A_SRC, LAMP_A_PATTERN, LAMP_B_MODE,
  LAMP_B_SRC, LAMP_B_PATTERN, TB_LO_TB, TB_HI_TB, TB_SLOW_SLOW,
  TB_CTRL_LOAD, TB_CTRL_LOADED, TB_CTRL_LOAD_REFUSED, TB_SET_LO_SET, TB_SET_HI_SET,
  RC_INC_INC, SNAP_CTRL_TRIG, SNAP_CTRL_DRIVE, SNAP_CTRL_IN_EN, SNAP_CTRL_FREEZE,
  SNAP_CTRL_MISSED, SNAP_CTRL_SRC, SNAP_EPOCH_EPOCH, SNAP_TB_LO_TB, SNAP_TB_HI_TB,
  HL_POST_HDR_KIND, HL_POST_HDR_SRC, HL_POST_HDR_LEN, HL_POST_HDR_LINKS, HL_POST_HDR_GO]

/-- Part 4 of The Hall global registers and those of the global blocks, by full address (23_register_index.md).. -/
def hallFields3 : List Field := [
  HL_POST_STAT_RESULT0, HL_POST_STAT_RESULT1, PAIR_CTRL_NO_CLAIM, PAIR_CTRL_RELEASE_W0, PAIR_CTRL_RELEASE_W1,
  PAIR_CTRL_MISMATCH_TAKEOVER, PAIR_CTRL_RESYNC, PAIR_STAT_PAIR_MODE, PAIR_STAT_CHIP_B, PAIR_STAT_HELD,
  PAIR_STAT_PEER_HELD, PAIR_STAT_PEER_ALIVE, PAIR_STAT_HALL_KEEPER, PAIR_STAT_LINK_UP, PAIR_STAT_DIGEST_MATCH,
  PAIR_STAT_DIGEST_MISMATCH, PAIR_STAT_YIELDED, PAIR_STAT_READY, KEY_STAT_KEY_OUT, KEY_STAT_KEY_IN,
  KEY_STAT_OWN_CODE, KEY_STAT_PEER_CODE, KEY_STAT_HB_AGE, STAIR_STAT_RX0_LOCK, STAIR_STAT_RX1_LOCK,
  STAIR_STAT_TX_ON, STAIR_STAT_RX_SEQ, STAIR_ERR_COPY, STAIR_ERR_BUBBLE, STAIR_ERR_GAP,
  STAIR_ERR_RESYNC, STALE0_PORTS, STALE1_PORTS, STALE1_SLOTS, STALE1_HALL,
  PAIR_EVENT_TAKEOVER, PAIR_EVENT_WITHDRAWN, PAIR_EVENT_CONTENTION, PAIR_EVENT_PEER_NO_YIELD, PAIR_EVENT_PEER_LOST,
  PAIR_EVENT_PEER_FOUND, PAIR_EVENT_LINK_DOWN, PAIR_EVENT_LINK_UP, PAIR_EVENT_GAP, PAIR_EVENT_DIGEST_MISMATCH,
  PAIR_EVENT_KEY_STAIR_MISMATCH, PAIR_EVENT_HB_OUT_FAULT, PAIR_EVENT_KEY_IN_STUCK, PAIR_EVENT_DRIVE_CONFLICT, PAIR_EVENT_STALE_CHANGE,
  TAKEOVER_LOG_WINGS, TAKEOVER_LOG_PATH, TAKEOVER_LOG_DURATION, TAKEOVER_TB_TB, PEER_FW_VERSION,
  ATTIC_STAT_LIFECYCLE, ATTIC_STAT_BUSY, ATTIC_STAT_TRIM_ERR, ATTIC_STAT_KEY_VALID, ATTIC_STAT_SECRET_VALID]

/-- Part 5 of The Hall global registers and those of the global blocks, by full address (23_register_index.md).. -/
def hallFields4 : List Field := [
  ATTIC_STAT_DBG_DISABLE, ATTIC_STAT_VPP_OK, ATTIC_LOCK_LOCK, ATTIC_CMD_OP, ATTIC_ADDR_WORD,
  ATTIC_ADDR_CTR, ATTIC_ADDR_SEL, ATTIC_ADDR_VALUE, ATTIC_PDATA_PDATA, ATTIC_RESULT_RESULT,
  ATTIC_RESULT_OP, ATTIC_RESULT_DONE, ATTIC_RESULT_PULSES, ATTIC_MARGIN_WEAK, ATTIC_CTR_FW,
  ATTIC_CTR_PLAN, ATTIC_CTR_REVOKE, SEC_KCV_KCV0, SEC_KCV_KCV1, BOOT_STAT_FW_R0,
  BOOT_STAT_FW_R1, BOOT_STAT_PL_R0, BOOT_STAT_PL_R1, BOOT_STAT_FW_SLOT, BOOT_STAT_TRIAL_FB,
  BOOT_STAT_BREC_BAD, BOOT_STAT_REC_COPY, BOOT_STAT_RECOVERY, BOOT_SEQ_SEQ, FW_VERSION_VERSION,
  FW_RD_ADDR_ADDR, FW_RD_DATA_DATA, ENG_CTRL_VERIFY, ENG_CTRL_DONE, ENG_CTRL_TAG_OK,
  PORCH_CTRL_EN, PORCH_STAT_SESSION, PORCH_STAT_KIND, PORCH_STAT_SLOT, PORCH_STAT_RECOVERY,
  PORCH_STAT_TX_BUSY, PORCH_STAT_EN_N, PORCH_ERR_CRC, PORCH_ERR_CHAR, PORCH_ERR_ABORT,
  PORCH_ERR_OVERRUN, PORCH_SID_SID, PORCH_NEXT_NEXT, PORCH_NEXT_CHUNKS, PORCH_VSRC_SRC,
  PORCH_VSRC_CHUNK, UPD_CFG_DEFER_MAX, UPD_CFG_CONF_T, UPD_STAT_STAGED, UPD_STAT_SCHEDULED,
  UPD_STAT_DEFERRING, UPD_STAT_TRIAL, UPD_STAT_LAST, UPD_AT_LO_AT, UPD_AT_HI_AT]

/-- Part 6 of The Hall global registers and those of the global blocks, by full address (23_register_index.md).. -/
def hallFields5 : List Field := [
  CEL_ID_MFR, CEL_ID_DEVICE, CEL_ID_DENSITY, CEL_STAT_READY, CEL_STAT_ERASING,
  CEL_STAT_BREC_COPY, JNL_CTRL_EN, JNL_CMD_OP, JNL_RESULT_RESULT, JNL_RESULT_DONE,
  JNL_RESULT_BUSY, JNL_STAT_AREA, JNL_STAT_COMPACTING, JNL_STAT_IMAGE, JNL_STAT_EMPTY,
  JNL_STAT_USED, JNL_SEQ_SEQ, JNL_EPOCH_EPOCH, JNL_WEAR0_ERASES, JNL_WEAR1_ERASES,
  CEL_RD_ADDR_ADDR, CEL_RD_DATA_DATA, HALL_MODE_MODE, HALL_MODE_PENDING, HALL_MODE_REFUSED,
  HALL_MODE_SRC, HALL_MODE_EPOCH, MODE_ACK0_ACK, MODE_ACK1_ACK, FIRE_CFG_EN,
  FIRE_CFG_FILT, FIRE_CFG_FIRE_IN, FIRE_CFG_FIRE, HB_CFG_HB_T, HB_CFG_LOCK,
  HB_STAT_MISS, HB_STAT_ARMED, HB_STAT_AGE, EVR_PEND_LINE, EVR_PORT0_PORT,
  EVR_PORT1_PORT, DBG_STAT_ENABLED, DBG_STAT_HALL_HALTED, DBG_CTRL_SNAP, DBG_CTRL_HB_SUSPEND,
  DBG_CTRL_HALT_ON_BOOT, DBG_CTRL_STEP_EV, DBG_CTRL_RESET_KEY, DBG_HALT0_ROOM, DBG_HALT1_ROOM,
  DBG_HALT1_HALL, DBG_STEP_CORE, DBG_CSEL_CORE, DBG_CSEL_REG, DBG_CREG_VALUE,
  DBG_CAUSE_CAUSE, DBG_CAUSE_BKPT, DBG_ADDR_ADDR, DBG_RBUF_DATA]

/-- The Hall global registers and those of the global blocks, by full address (23_register_index.md). -/
def hallFields : List Field :=
  hallFields0 ++ hallFields1 ++ hallFields2 ++ hallFields3 ++ hallFields4 ++ hallFields5
    ++ fieldArray 8 4 [HL_POST_D_DATA, SEC_IN_KEY, DBG_HBKPT_EN, DBG_HBKPT_ADDR] ++ fieldArray 5 4 [JNL_WIN_BYTES]
    ++ budFields.map (·.shift 0x240) ++ (List.range 6).map (fun i => shadowWord (0x150 + 4 * i))
    ++ fieldArray 2 0x100 hlFields ++ fieldArray 4 0x40 twFields ++ fieldArray 2 0x40 tcFields


end Sys2Proof.Machine
end

