-- ==== Sys2Proof/Machine/State.lean ====
section
/-! DEFINITION. Machine/State.lean: the state of the block as plain data: every register word of the address map, the
memories, the hidden state that the rules of the spec give its engines, the queue of waiting commands, and the state
after reset. Stamps are readings of the model's clock `State.now` in µs. -/

namespace Sys2Proof.Machine

/-- Why a step can stop with a fault. No command of this block does: every effect that the spec gives is a next state.
The constructor stands for the empty list of such reasons; nobody raises it (safe). -/
inductive Fault where
  /-- Raised by no meaning. Safe: it never ends a run. -/
  | never
deriving DecidableEq, Repr

/-- Why a step can be refused. -/
inductive Refusal where
  /-- Raised by a dispatch arm that has no meaning yet. Safe: the machine stops where the hardware goes on. -/
  | notModelled (mnemonic : String)
deriving DecidableEq, Repr

/-- What the front end applies to a CC line (R133, R137); `low` is the Fast Role Swap signal (R255). -/
inductive CcTerm where
  | none | rp | rd | vconn | low
deriving DecidableEq, Repr

/-- A debounce of one CC line: when its decoded level last changed, and the timer values in force since then, in µs
(R135, R140). -/
structure Debounce where
  start : Nat
  tcc : Nat
  tpd : Nat
  ttry : Nat
deriving DecidableEq, Repr

/-- The hidden state of the Type-C front end (04_attach_and_cc.md). -/
structure CcState where
  /-- Debounce of CC1 (R135). -/
  db1 : Debounce
  /-- Debounce of CC2 (R135). -/
  db2 : Debounce
  /-- Stamp of the entry to the present attach state (R137, R139). -/
  entry : Nat
  /-- tDRPTry, tErrorRecovery and the toggle share as they stood at that entry, in µs (R140). -/
  tDrpTry : Nat
  tErr : Nat
  tToggle : Nat
  /-- The non-BMC line decoded Ra at the most recent entry to ATTACHED_SRC from a non-attached state (R146). -/
  ra : Bool
  /-- An attach ask is outstanding at the Landing, and its stamp (R141, R29). -/
  asking : Bool
  askAt : Nat
  /-- Stamp of the last refused attach ask, while BUDGET_WAIT asks again every 100 ms (R141). -/
  retry : Option Nat
  /-- Stamp of the fall of Rp to 1.5 A, until the current limit follows 60 ms later (R143). -/
  rpLower : Option Nat
  /-- VBUS has been below 3.67 V since this stamp (R136, R154). -/
  vbusLow : Option Nat
  /-- Mean VBUS over the last 10 µs in mV (R136). -/
  vbus : Nat
  /-- The VBUS_LOST criterion is suspended (R154). -/
  lostOff : Bool
  /-- Stamp of the termination change of a role swap (R156). -/
  swapTerm : Option Nat
  /-- AUDIO_ACC has been set and no line has decoded anything but Ra since (R158). -/
  audio : Bool
  /-- Stamp of the last opening of the VCONN switch (R167). -/
  vconnOff : Option Nat
  /-- Each line has been below the overvoltage threshold since this stamp, while isolated (R160). -/
  ov1 : Option Nat
  ov2 : Option Nat
  /-- The port woke the chip by its CC lines and restarts in the state of its sampling termination (R138): the moment of
  wake and the codes of the two lines in the window, until that restart. -/
  wake : Option (Nat × Nat × Nat)
  /-- The removal of VBUS after an exit from ATTACHED_SRC or after ENABLE = 0 is running (R152, R163, R679). -/
  removing : Bool
  /-- VCONN was given away by a VCONN_Swap since the last entry or Hard Reset, which suspends AUTO (R249, R258). -/
  gaveVconn : Bool
  /-- Termination of CC1 and CC2 (R137). -/
  term1 : CcTerm
  term2 : CcTerm
  /-- RP_ADV when the port safe state was entered (R37). -/
  rpSafe : Nat
  /-- The keeper's CC_STAT of the last ROOM record, from which a takeover applies terminations and VCONN (R166). -/
  mirror : Word
deriving DecidableEq, Repr

/-- A USB PD packet between ordered set and CRC: SOP type 0, 1 or 2, header and data objects (R172). -/
structure Pkt where
  sop : Nat
  hdr : Nat
  objs : List Word
deriving DecidableEq, Repr

/-- Who built an outgoing message (R201, R208, R209). -/
inductive TxKind where
  | core | reply | chunkReq | cable | keepAlive | hostVdm | softReset | frSwap
deriving DecidableEq, Repr

/-- An outgoing message: its template, the bytes of an extended message, and how far it has come. -/
structure TxMsg where
  kind : TxKind
  pkt : Pkt
  ext : List Byte
  initiate : Bool
  /-- Chunk being sent (R195). -/
  chunk : Nat
  /-- What it answers: 0 nothing that matters, 1 Request or EPR_Request, 2 PR_Swap, 3 VCONN_Swap, 4 DR_Swap, 5 FR_Swap,
  6 Soft_Reset (R227, R232). -/
  re : Nat
  /-- The extended header as the core wrote it, of an extended message (R188, R189). -/
  eh : Nat
  /-- GoodCRC end of the last chunk sent: the wait for the partner's Chunk Request (R195). -/
  wait : Option Nat
deriving DecidableEq, Repr

/-- Progress of the message on the line (R174, R179). -/
inductive AirPhase where
  | sending | awaiting | retryDue
deriving DecidableEq, Repr

/-- The message in transmission, awaiting its GoodCRC or due for retransmission (R179). -/
structure Air where
  msg : TxMsg
  id : Nat
  tries : Nat
  phase : AirPhase
  /-- Stamp of the end of EOP of its last transmission. -/
  eop : Nat
deriving DecidableEq, Repr

/-- A chunked message being received (R196). -/
structure ChunkRx where
  sop : Nat
  hdr : Nat
  size : Nat
  data : List Byte
  next : Nat
  /-- Stamp of the end of the GoodCRC of the Chunk Request, once sent. -/
  since : Option Nat
deriving DecidableEq, Repr

/-- The hidden state of the PD engine (05_pd_protocol.md). -/
structure PdState where
  /-- Stored receive MessageID of SOP, SOP′ and SOP″ (R177). -/
  rxId : List (Option Nat)
  /-- Transmit counter of SOP, SOP′ and SOP″ (R178). -/
  txId : List Nat
  /-- MAX_REV as latched at attach or Hard Reset (R182). -/
  maxRev : Nat
  /-- The committed message (R188). -/
  msg : Option TxMsg
  /-- Automatic messages waiting for the slot, oldest first (R201). -/
  auto : List TxMsg
  /-- The message on the line (R179). -/
  air : Option Air
  /-- A received packet whose GoodCRC is due or in transmission; its delivery follows (R176, R177). -/
  rx : Option Pkt
  /-- The GoodCRC of `rx` is in transmission (R176). -/
  gcrc : Bool
  /-- The receive queue, oldest first (R193). -/
  rxq : List Pkt
  /-- The VDM inbox, oldest first (R207). -/
  inbox : List Pkt
  /-- The host VDM that is PENDING (R208). -/
  hvdm : Option TxMsg
  /-- Copies of the last capabilities sent (R200). -/
  srcCaps : Option TxMsg
  eprCaps : Option TxMsg
  snkCaps : Option TxMsg
  /-- Chunked reception in progress (R196). -/
  chunkRx : Option ChunkRx
  /-- Stamp since which Rp has been at SinkTxNG (R185). -/
  sinkTx : Option Nat
  /-- End of the last SOP message sent or received, GoodCRC among them (R185; log 129). -/
  lastSop : Nat
  /-- End of EOP of the last SOP message that this port sent (R204). -/
  lastTx : Nat
  /-- End of the last SOP message received from the partner, GoodCRC among them (R205; log 129). -/
  lastRx : Nat
  /-- End of the last packet sent or received on the line (R174). -/
  lastPkt : Nat
  /-- GoodCRC end of a Soft_Reset whose Accept is awaited (R180). -/
  srWait : Option Nat
  /-- GoodCRC end of an EPR_KeepAlive whose ack is awaited (R204). -/
  kaWait : Option Nat
  /-- Stamp at which VCONN_ON became 1 (R209). -/
  vconnAt : Option Nat
  /-- Cable discovery attempts made, start of the present attempt, and its response wait (R209). -/
  cableTries : Nat
  cableAt : Nat
  cableWait : Option Nat
  /-- A cause for a Hard Reset has arisen and its signal has not gone out (R210). -/
  hrDue : Bool
  /-- The last SOP message delivered to the core (R227). -/
  lastMsg : Option Pkt
  /-- The last SOP request of this port that was acknowledged and whose Accept or Reject is awaited (R232, R250). -/
  asked : Option Pkt
  /-- SVID and command of the core's structured VDM requests on SOP whose response is awaited (R206). -/
  vdmReq : List (Nat × Nat)
  /-- BIST carrier in transmission since this stamp (R202). -/
  bistAt : Option Nat
  /-- A Cable Reset waits for the end of this engine's transmission (R174, R214). -/
  crDue : Bool
  /-- The levels of the BMC line, two for each bit, of what the engine sent last: a packet, a Hard Reset or a Cable Reset
  (R169, R170). -/
  line : List Bool
deriving DecidableEq, Repr

/-- The hidden state of the contract engine (06_contracts_roles.md). -/
structure ConState where
  /-- The published contract: type, position, voltage and current (R225, R227). -/
  negType : Nat
  negPos : Nat
  negMv : Nat
  negMa : Nat
  /-- End of the Accept's GoodCRC of the running contract transition (R232, R235). -/
  trans : Option Nat
  /-- The running transition has reached step 2 and the reference target was reached at this stamp (R237). -/
  reached : Option Nat
  /-- VBUS has been in band since this stamp (R236). -/
  inBand : Option Nat
  /-- Current limit of the running transition (R235), and the Rp and budget limits as they stood at its step 1 (R262). -/
  transMa : Nat
  transRp : Nat
  transBud : Nat
  /-- Give-up timer: start stamp and duration in µs (R243, R244). -/
  giveup : Option (Nat × Nat)
  /-- Start of the running swap, and of its present wait (R251, R255, R256). -/
  swapAt : Nat
  swapWait : Option Nat
  /-- Entry to the present step of a transition, swap or Hard Reset sequence (CON_STAT.STEP). -/
  stepAt : Nat
  /-- The grant that a takeover needs has been answered (R256). -/
  frsOk : Bool
  /-- End of the Hard Reset signal, and the stamp of VBUS ≤ 0.80 V (R249). -/
  hrAt : Nat
  hrSafe0 : Option Nat
  /-- Stamp of the write that asked for the reservation; `none` while its 10 ms count is stopped (R225, R226). -/
  resvAt : Option Nat
  /-- Stamp of the ask that waits for its answer (R29), and the reservation that it replaces, in W (R226). -/
  askAt : Nat
  held : Nat
  /-- Converter input averaged over the last 10 ms, in mV (R221). -/
  vin10 : Nat
  /-- Consecutive switching periods with the feedforward input below 34.0 V (R255). -/
  frsLow : Nat
  /-- The fallback action of a forced mode is in force (R260). -/
  fallback : Bool
  /-- FR_Swap can be accepted until this stamp (R255). -/
  frsTx : Option Nat
  /-- Accept of a VCONN_Swap in which this port stops being VCONN source (R258). -/
  vconnSwap : Option Nat
  /-- The mirrored ILIM that limits a stale port after a takeover (R507). -/
  capMa : Option Nat
deriving DecidableEq, Repr

/-- One trip hold on a PWM generator: the tripping port and Threshold, and whether it holds mid-rail (else low)
(R291). -/
structure Hold where
  port : Nat
  thr : Nat
  mid : Bool
deriving DecidableEq, Repr

/-- What the gate driver of a port switch does to the gate (R297 to R299): adds charge, leaves it, or removes it. -/
inductive GateStep where
  | add
  | keep
  | remove
  deriving DecidableEq, Repr

/-- The hidden state of converter, Thresholds, switch and retries (07_port_converter.md). -/
structure ConvState where
  /-- Reference in µV, and the rate at which it moves: `rate` µV in `rateDen` µs, with the remainder of the last step
  (R240, R277, R282). -/
  refUv : Nat
  rate : Nat
  rateDen : Nat
  rateRem : Nat
  /-- Compensator error history e[1..3], output history y[1..3] (Q2.22), limiter ycl, reverse error ei[1] (R278). -/
  e : List Int
  y : List Int
  ycl : Int
  eiPrev : Int
  /-- Balance trim of a gang member, Q2.22 (R286). -/
  trim : Int
  /-- Draw in forty-eighths of a µA (R283). -/
  draw : Nat
  /-- VIN above 59.0 V has cut the draw until it falls below 58.0 V (R283). -/
  drawCut : Bool
  /-- Coefficients in force, b0..b3, a1..a3, and kcl, kp_r, ki_r, eshift in force (R279). -/
  coef : List Int
  kcl : Int
  kp : Int
  ki : Int
  eshift : Nat
  /-- COEF_APPLY waits for the next period start (R279). -/
  coefDue : Bool
  /-- THR_OV, THR_UV, THR_PK, THR_SC as in force since the last period start (R296). -/
  thr : List Word
  /-- Trip holds on this port's own PWM generator (R291). -/
  holds : List Hold
  /-- Filter outputs of the four Thresholds (R293). -/
  filt : List Bool
  /-- Persistence counters of VBUS_OV and VBUS_UV in clk_adc cycles (R295). -/
  ovCnt : Nat
  uvCnt : Nat
  /-- Reference and VSET at the period starts of the last 2 ms: stamp, reference mV, VSET mV (R289). -/
  mem2 : List (Nat × Nat × Nat)
  /-- RAMPING has been 0 since this stamp (R290). -/
  flat : Option Nat
  /-- Regulation has been lost since this stamp (R285). -/
  lossAt : Option Nat
  /-- Fall of the eFuse fault timer: quarters of a µs (R301). -/
  efQ : Nat
  /-- Start of the present foldback close (R299). -/
  foldAt : Option Nat
  /-- What the gate driver does since the last command to the switch or, in a foldback close, since the last period start
  (R297, R299). -/
  gate : GateStep
  /-- The switch opens when SOFT_STOP ends in OFF (R282). -/
  openAtOff : Bool
  /-- A direction change waits for the next period start; true to REVERSE (R284). -/
  dirDue : Option Bool
  /-- Computed high intervals that wait for their period start, oldest first (R276), and the one in force. -/
  newHigh : List Nat
  high : Nat
  /-- A Fast Role Swap takeover starts the converter at the next period start (R256, R269). -/
  frsTurn : Bool
  /-- Start of the present period, and of a follower's that its lead's period start has made due (R267, R270). -/
  pwmAt : Nat
  phaseDue : Bool
  /-- The non-loop conversions of VBUS and port current of the last 10 µs, with their stamps (R274). -/
  vWin : List (Nat × Int)
  iWin : List (Nat × Int)
  /-- Entry to the safe state that started the retries, and the next k (R302, R304). -/
  retryAt : Option Nat
  retryK : Nat
  /-- Start of the running attempt's window (R303). -/
  attAt : Option Nat
  /-- The port has been out of the port safe state since this stamp (R304). -/
  outAt : Option Nat
  /-- The attempt waits for the thermal model (R346). -/
  thermal : Bool
  /-- An attempt after a THERM_TRIP has been made and COUNT has not returned to 0 since (R346). -/
  thermTried : Bool
  /-- The FET_SHORT condition has held since this stamp, VBUS above 2.0 V since the other (R305). -/
  fetAt : Option Nat
  fetHi : Option Nat
  /-- Consecutive loop samples in which VNODE and VBUS diverge, and VNODE substitution in force (R597). -/
  diverge : Nat
  subst : Bool
  /-- Pn_VBUS has passed its open-pin test this many times since the divergence (R597). -/
  passed : Nat
  /-- Failed tests in a row of Pn_VBUS, Pn_ISNP, Pn_ISNN (R595), and since when all pass (R598). -/
  pinFail : List Nat
  holdOkAt : Option Nat
  /-- VBUS_UV and the check of R285 stay disarmed until this stamp after a takeover (R507). -/
  quiet : Nat
deriving DecidableEq, Repr

/-- The registers and hidden state of a Gorelm sequencer core (11_sequencer_isa.md, 20_debug.md). -/
structure Core where
  /-- g0 to g15; g0 reads 0 (R384). -/
  g : List Word
  pc : Word
  lc : Nat
  epc : Word
  /-- CORE_EVC: line and trap code of the last event taken, and whether EPC holds an interrupted repeated instruction
  (R396, R399). -/
  evLine : Nat
  evTrap : Nat
  evRpt : Bool
  /-- EVEN and EVBASE of the Hall core (R385, R407); a Room core's EV_EN is a register of its own. -/
  evEn : Word
  evBase : Word
  inEvt : Bool
  /-- CORE_STAT.STATE but for a halt of debug: 0 RESET, 1 RUN, 2 WAIT, 4 TRAPPED, 5 HELD. -/
  state : Nat
  trap : Nat
  /-- A repetition runs: 0 none, 1 on LC, 2 on the internal counter of RPTU (R395, R396). -/
  rep : Nat
  rptU : Nat
  /-- Stage copies: TXW0 to TXW7, NEG_CTRL, NEG_VI (R402). -/
  stage : List Word
  dirty : Bool
  /-- An extended-message copy is running (R405). -/
  extCopy : Bool
  /-- Halted by debug; one instruction of a STEP may run; the next instruction passes its breakpoint (R616, R618;
  log 40). -/
  halted : Bool
  stepping : Bool
  pass : Bool
  /-- DBG_CAUSE of this core. -/
  cause : Nat
  bkpt : Nat
deriving DecidableEq, Repr

/-- One Room: its register words, memories and engines. -/
structure Room where
  regs : Regs
  data : Mem
  code : Mem
  cc : CcState
  pd : PdState
  con : ConState
  conv : ConvState
  core : Core
  /-- The fault-induced port safe state (R37). -/
  safe : Bool
  /-- The port is in slot hold (R326). -/
  slotHold : Bool
  /-- The hold of an open sense wire (R598). -/
  senseHold : Bool
  /-- Stamp of the last service of the core watchdog (R591). -/
  kickAt : Nat
  /-- Restart stamps of the core within the last 10 s (R31, R593). -/
  restarts : List Nat
  /-- Gain and offset of the port's two ADCs in use, and rejections in a row (R34). -/
  cal : List (Int × Int)
  calRej : List Nat
  /-- Remainders of EOUT and EIN below 1 mJ (R426). -/
  eoutRem : Nat
  einRem : Nat
  /-- The epoch that this Room last applied (R601). -/
  epoch : Nat
  /-- OUT of the eight timers, a bit each, as the present tick began: what the gates see (R423). -/
  outs : Nat
deriving DecidableEq, Repr

/-- How Sn_GATE is driven (R312). -/
inductive GateMode where
  | off | fast | servo | full | undriven
deriving DecidableEq, Repr

/-- The hidden state of a Landing: hot-swap controller, shed sequence, housekeeping (08_slot_hot_swap.md, R41, R595). -/
structure Landing where
  regs : Regs
  /-- What drives Sn_GATE (R312), and whether Sn_FLT_N is driven low (R325); neither in a shadow (R334) or from a reset on
  (R75). -/
  gate : GateMode
  fltN : Bool
  /-- Stamp of entry to the present slot state (R316). -/
  entry : Nat
  /-- Both seating balls have read seated since this stamp (R316); met at once for an attempt (R331). -/
  seated : Option Nat
  seatMet : Bool
  /-- GATE_FULL and VOUT in range have held since this stamp (R316). -/
  goodAt : Option Nat
  /-- Quarters of a µs of the falling slot fault timer (R314). -/
  fltQ : Nat
  /-- Power-good has been lost since this stamp (R324). -/
  pgLow : Option Nat
  /-- Gate off since; VOUT above 2.0 V since (R328). -/
  offAt : Option Nat
  hiAt : Option Nat
  /-- Entry to RETRY_WAIT, next k, running attempt (R330, R331). -/
  retryAt : Option Nat
  retryK : Nat
  attempt : Bool
  /-- Last measured VSLOTIN and VOUT in mV (R309). -/
  vslotin : Nat
  vout : Nat
  /-- Shed sequence: its next step and stamp, and whether it ends in RETRY_WAIT (R41, R329). -/
  shed : Option (Nat × Nat × Bool)
  /-- Sense hold of the slot (R598), failed tests in a row of Sn_SNSP and Sn_SNSN, all passing since (R595). -/
  senseHold : Bool
  pinFail : List Nat
  holdOkAt : Option Nat
  /-- Consecutive mismatching power-balance windows (R599). -/
  balCount : Nat
  /-- The Landing has opened its slot for an internal cause and holds it OFF until a Wing restart (R41, R42; log 29). -/
  down : Bool
  /-- OUT of the eight timers, a bit each, as the present tick began: what the gates see (R423). -/
  outs : Nat
deriving DecidableEq, Repr

/-- The hidden state of a Wing. -/
structure Wing where
  regs : Regs
  /-- The Wing has placed its ports in safe state (R42). -/
  safe : Bool
  /-- Stamp of a withdrawal whose safe state follows 5 µs later (R594). -/
  withdrawAt : Option Nat
  /-- External requester granted last on the Wing's bus, in the order of R24. -/
  lastExt : Nat
deriving DecidableEq, Repr

/-! ### Hall -/

/-- How far the chip has come (R73, R77, R79, R80, R82, R84). -/
inductive Phase where
  /-- A reset is active (R73). -/
  | reset
  /-- The reset has ended; the crystal oscillator starts (R79, step 1). -/
  | osc
  /-- XTAL_OK; the PLL locks (R79, step 2). -/
  | pll
  /-- Boot complete: RUN or DOZE, or an entry sequence before its step 6 (R79, R86). -/
  | run
  /-- The boot ROM waits for recovery over the Porch (R80, R538). -/
  | recovery
  /-- SLEEP (R82). -/
  | sleep
  /-- STANDBY (R82). -/
  | standby
  /-- A wake from SLEEP before PLL lock and the release of tick (R415). -/
  | waking
deriving DecidableEq, Repr

/-- Clocks, reset and power state (02_clocks_reset_states.md) and the always-on domain's time (R411, R413). -/
structure Clk where
  phase : Phase
  /-- State held before the entry sequence: 0 RUN, 1 DOZE (R84, R87). -/
  prior : Nat
  /-- Requested state, 2 SLEEP or 3 STANDBY, and the last step of the entry sequence taken, 0 for none (R86); 9 once a
  wake source has become active in SLEEP or STANDBY, until the next slow-clock edge (WAKE_CAUSE). -/
  target : Nat
  step : Nat
  /-- The slow counter (R411). -/
  slow : Nat
  /-- Q16.16 accumulator: increments since the last store, with the fraction kept (R413). -/
  acc : Nat
  /-- Stored time base (R411). -/
  retTb : Nat
  /-- Stamp of a clock failure (R69). -/
  failAt : Option Nat
  /-- Sources that hold the chip in reset: TEST_EN (R77, R640). -/
  held : Bool
  /-- Conditions of wake sources as the last slow-clock edge found them, in the bit order of WAKE_EN (R85, R90). -/
  wakeIn : BitVec 10
  /-- The 16 ms period of the slow counter in which SLEEP last applied the attach terminations (R89). -/
  ccPer : Option Nat
  /-- Stamp of boot complete (R79), and of the end of the last chip reset (R385, CYCLE). -/
  bootAt : Nat
  endAt : Nat
  /-- A load of the time base waits for the next tick (R412). -/
  loadDue : Bool
  /-- Stamp of the last RC calibration (R72). -/
  calAt : Nat
  /-- The always-on domain was reset, so Hearth stages start at 0 K (R342). -/
  cold : Bool
deriving DecidableEq, Repr

/-- The hidden state of mode changes and FIRE_N (19_faults.md). -/
structure ModeState where
  /-- Stamp of the newest epoch (R603). -/
  since : Nat
  /-- PENDING changed since the last read of HALL_MODE (R607, line 3). -/
  changed : Bool
deriving DecidableEq, Repr

/-- One Foster model of the Hearth (R340, R343). -/
structure Model where
  /-- Stage temperatures above the reference, in 2⁻⁴⁰ K (R340; log 14). -/
  dt : List Int
  /-- Junction temperature in mK above 0 °C, and power in µW, of the last update (R340). -/
  tj : Int
  pwr : Nat
  /-- State of the table "Port thermal states", and ITH in mA (R343, R344). -/
  st : Nat
  ith : Nat
  /-- Entry to WARN, last ITH recomputation, start of the count of R345. -/
  warnAt : Option Nat
  ithAt : Nat
  relAt : Option Nat
  /-- Die: below TWARN − HYST since (R349). -/
  coolAt : Option Nat
deriving DecidableEq, Repr

/-- Hidden state of the Hearth: models by number and the two board references (R339, R340). -/
structure Hearth where
  models : List Model
  /-- Last valid reading of TAMB0 and TAMB1 in 0.1 °C. -/
  tamb : List Int
  /-- Invalid conversions in a row, held at 3 while the input counts as invalid, and valid ones in a row since. -/
  tambBad : List Nat
  tambGood : List Nat
  /-- Die power of the last measurement in mW (R341). -/
  die : Nat
  /-- The grade limit in use since the Plan was applied: 135.0 °C, else 125.0 °C (R663). -/
  gradeHigh : Bool
deriving DecidableEq, Repr

/-- The hidden state of the Pantry (10_pantry_battery.md). -/
structure Pantry where
  /-- Entry to the present charger state; the state held before PAUSE; start of the pause. -/
  entry : Nat
  held : Nat
  pauseAt : Nat
  /-- Stamp of the last change of BAT_PRES (R378). -/
  presAt : Nat
  /-- Qualification check that comes next, 5 for check 2 once more after 10 s, its stamp, and the mean of VBAT_SNS in mV before check 4 (R372). -/
  qStep : Nat
  qAt : Nat
  qBase : Nat
  /-- VBAT_SNS at or above N × 1,000 mV since; time in PRECHARGE in µs (R371). -/
  preOk : Option Nat
  preUs : Nat
  /-- Time in FAST, and its value when the holdoff last started, in µs (R374, R375). -/
  fastUs : Nat
  holdBase : Nat
  /-- −ΔV peak in mV, the last two window means, and windows in a row at the criterion (R374). -/
  peak : Nat
  means : List Nat
  ndvRow : Nat
  /-- The 10 s temperature means of the last minute in 0.01 °C, newest first, and values in a row at the criterion. -/
  temps : List Int
  dtRow : Nat
  /-- P_OV latch stamp, P_PK hold (true mid-rail), ID_REV latch (R369). -/
  povAt : Option Nat
  pk : Option Bool
  rev : Bool
  /-- Start of battery operation; the mode that the Pantry replaced with the epoch that it wrote (R365, R366). -/
  batAt : Option Nat
  mode : Option (Nat × Nat)
  /-- VBUS_IN_SNS at or above 54.0 V with QID off since (R366). -/
  retAt : Option Nat
  /-- The 1 s mean at or below the cut-off level since, and that level in mV (R368, R381). -/
  cutAt : Option Nat
  cutLevel : Nat
  /-- Counts of R339 for BAT_NTC. -/
  ntcBad : Nat
  ntcGood : Nat
  /-- Ask of the charger that waits for its answer, and the last ask's stamp (R373). -/
  ask : Option Nat
  askAt : Nat
  /-- Battery operation of at least 10 s has ended while TRICKLE was paused (R371). -/
  toFast : Bool
  /-- Charge current in µA after the ramp of R370; CHG_PWM: 0 low, 1 switching, 2 mid-rail, 3 high impedance (R380);
  high-side duty in 2⁻¹⁶. -/
  ramp : Nat
  pwm : Nat
  duty : Nat
deriving DecidableEq, Repr

/-- The status lamps (R379): the slot of the 16-slot cycle that comes next, and what STAT_A and STAT_B sink. -/
structure Lamps where
  slot : Nat
  a : Bool
  b : Bool
deriving DecidableEq, Repr

/-- A Stair record between TYPE and CRC (R496): the TYPE, TARGET, SEQ, TB_LO and the 52 bytes of PAYLOAD. -/
structure Sent where
  type : Nat
  copy : StairRec
deriving DecidableEq, Repr

/-- The LOOP entry of a port as last applied (R497): Y, REF and FLAGS. -/
structure LoopRec where
  y : Nat
  ref : Nat
  flags : Nat
deriving DecidableEq, Repr

/-- The hidden state of Key lines and Stair link (15_pair.md). Wings are bits 0 and 1 of a number; targets are bits 0 to
54: ports, slots, Hall. -/
structure Pair where
  /-- Wings that this chip claims. -/
  claims : Nat
  /-- Start of the last valid peer pulse, and of the first one after boot complete (R482, R488). -/
  hbAt : Option Nat
  firstAt : Option Nat
  /-- Wings whose peer claim has been set since boot complete (R488, takeover row). -/
  seen : Nat
  /-- The peer claim for each Wing has been clear since this stamp (R488). -/
  clear : List Nat
  /-- Start of a takeover's claim guard, its Wings and its path (R506, TAKEOVER_LOG). -/
  guard : Option Nat
  guardW : Nat
  path : Nat
  /-- A takeover whose step 5 has not come (R506): when the peer claim cleared, its TB_LO, the Wings, and the ports that have
  not started a period, as bits. -/
  logAt : Option Nat
  logTb : Nat
  logW : Nat
  logPorts : Nat
  /-- KEY_IN fell at this stamp; the peer became silent at that one (TAKEOVER_LOG.PATH). -/
  clearPath : Nat
  clearTb : Nat
  /-- Contention of each Wing since; step 2 of R489 at. -/
  conAt : List (Option Nat)
  yieldAt : List (Option Nat)
  /-- Wings that chip B has yielded (R489). -/
  yielded : Nat
  /-- HB_OUT_FAULT bars every claim until the next chip reset (R487). -/
  barred : Bool
  /-- Wings of this chip with a fault under R39 (R488). -/
  failed : Nat
  /-- KEY_IN has been high with code 3 since (R509). -/
  stuckAt : Option Nat
  /-- Lock stamps of the two receiving lanes (R493), and the last valid copy (R494). -/
  lock : List (Option Nat)
  copyAt : Option Nat
  /-- DIGEST sent and received since the lanes locked; the peer's digest (R494). -/
  dgTx : Bool
  dgRx : Bool
  peerDigest : List Byte
  /-- A first copy since link-up has set e (R495). -/
  eSet : Bool
  /-- Next SEQ and FRAME numbers of this chip (R495, R498). -/
  seq : Nat
  frame : Nat
  /-- Targets touched in the present frame, the one before and the one before that, with their first SEQ (R497). -/
  touch : List Nat
  first : List Nat
  /-- First lost SEQ and the SEQ after the last lost one, until a FRAME resolves the gap (R502). -/
  gap : Option (Nat × Nat)
  /-- Own stale marking (R502, R504). -/
  stale : Nat
  /-- Records of each stale target applied since the last RESYNC, as bits (R503), and that RESYNC's stamp. -/
  got : List Nat
  resyncAt : Option Nat
  /-- Targets whose refresh set the peer has asked for, and the records of each set that have gone out since, as bits (R503). -/
  asked : Nat
  given : List Nat
  /-- The peer's last STATUS (R504). -/
  peerStale : Nat
  peerReady : Bool
  statusAt : Option Nat
  /-- LOOP entries by port and stamps of the last LOOP record by Landing (R506, R507). -/
  loops : List LoopRec
  loopAt : List (Option Nat)
  /-- Records of the last sending command, and its bursts as both lanes carry them, with the running disparity after them
  (R492, R496). -/
  sent : List Sent
  lanes : List (BitVec 10)
  txRd : Bool
  /-- Width of the last pulse on KEY_HB_OUT in µs (R481); 0 once the pulses have stopped (R486). -/
  pulse : Nat
  /-- Register writes that wait for a WRITE record, oldest first (R500). -/
  writes : List (Nat × Word)
deriving DecidableEq, Repr

/-- An outstanding event (R447, R449) and the end of its last sending (R450). -/
structure Evt where
  seq : Nat
  kind : Nat
  src : Nat
  count : Nat
  tb : Nat
  data : List Byte
  sentAt : Option Nat
deriving DecidableEq, Repr

/-- An entry of the coalescing table (R451). -/
structure Coal where
  kind : Nat
  src : Nat
  count : Nat
  tb : Nat
  data : List Byte
deriving DecidableEq, Repr

/-- The last executed command of a link or of the Porch: SEQ, CRC and the unstuffed bytes of its reply (R439, R543). -/
structure Reply where
  seq : BitVec 16
  crc : Nat
  bytes : List Byte
deriving DecidableEq, Repr

/-- A command that the Hall firmware holds: its TYPE, its frame, its receipt (R440, R445). -/
structure FwCmd where
  type : Nat
  frame : Frame
  since : Nat
deriving DecidableEq, Repr

/-- A received command in a link's receive buffer (R433, R438): its TYPE, its frame, what the Hall firmware and the boot
record will make of it, its receipt. -/
structure RxCmd where
  type : Nat
  frame : Frame
  held : Bool
  recOk : Bool
  since : Nat
deriving DecidableEq, Repr

/-- A command of several accesses, or one that awaits the capture, in progress (R27, R441): its TYPE, its frame, the
accesses done, the words read. -/
structure Prog where
  type : Nat
  frame : Frame
  done : Nat
  words : List Word
deriving DecidableEq, Repr

/-- The hidden state of a host link (13_host_link.md). -/
structure Link where
  /-- Outstanding events, oldest first, and the coalescing table, oldest entry first (R449, R451). -/
  out : List Evt
  table : List Coal
  /-- SEQ of the next event; postings merged and lost since the last OVERFLOW (R447, R452). -/
  next : Nat
  merged : Nat
  lost : Nat
  /-- Consecutive replies started with an event waiting (R453). -/
  run : Nat
  /-- The characters of the frame that the transmitter sends or sent last, with flags and stuffing (R434), and what remains of
  their time in 3,840ths of a µs (R431). -/
  line : List Byte
  left : Nat
  /-- SEQ of the event that is being sent, and of those still to be sent again (R450, R453). -/
  sending : Option Nat
  again : Option (List Nat)
  /-- Unstuffed bytes of a reply that waits for the transmitter or for HLn_CTS_N (R433, R453). -/
  wait : Option (List Byte)
  last : Option Reply
  cmd : Option FwCmd
  prog : Option Prog
  /-- The receive buffer, oldest command first, and HLn_RTS_N high while FLOW_EN is 1 (R433). -/
  rx : List RxCmd
  rts : Bool
deriving DecidableEq, Repr

/-- A running Attic command: OP, WORD, PDATA, CTR, VALUE, SEL and the secret as written (R521). -/
structure FuseCmd where
  op : Nat
  word : Nat
  pdata : Word
  ctr : Nat
  value : Nat
  sel : Nat
  secret : List Word
deriving DecidableEq, Repr

/-- The fuse array of the Attic (R512): the two copies by logical word, the copies that failed their last margin read, the
shadow, and the running command (16_attic_boot.md). -/
structure Attic where
  a : Store 32
  b : Store 32
  weakA : Store 32
  weakB : Store 32
  shadow : Store 32
  cmd : Option FuseCmd
  /-- A check of ENG_CTRL.VERIFY runs: its source and chunk index as written (R552). -/
  verify : Option (Nat × Nat)
deriving DecidableEq, Repr

/-- A Journal record without SEQ, CRC and MARKER (R571). -/
structure JRec where
  type : Nat
  flags : Nat
  key : Nat
  data : List Byte
deriving DecidableEq, Repr

/-- A compaction whose checkpoint is written (R576): its records, the old area's first slot that is still to be copied,
and the last SEQ before it. -/
structure Ckpt where
  count : Nat
  start : Nat
  seq : Nat
deriving DecidableEq, Repr

/-- The hidden state of the Journal engine (R574, R576, R578): records held for a group, the group being written, the
records of a settings image still to be written, a compaction that is due, and its checkpoint. -/
structure Journal where
  group : List JRec
  cmd : Option (List JRec)
  image : List JRec
  due : Bool
  ckpt : Option Ckpt
deriving DecidableEq, Repr

/-- The open transfer session (R546, R547): kind 1 firmware, 2 Plan; the last accepted frame's stamp. -/
structure Session where
  id : Nat
  kind : Nat
  slot : Nat
  hdr : List Byte
  next : Nat
  lastAt : Nat
deriving DecidableEq, Repr

/-- A STAGED image (R551): slot, header digest, VERSION and COUNTER. -/
structure Staged where
  slot : Nat
  digest : List Byte
  version : Nat
  counter : Nat
deriving DecidableEq, Repr

/-- The hidden state of the Porch and of updates (17_field_update.md). -/
structure Porch where
  sess : Option Session
  /-- The receive buffer that verify mode reads (R548). -/
  buf : List Byte
  /-- The STAGED firmware and Plan image. -/
  staged : List (Option Staged)
  last : Option Reply
  /-- The characters of the reply that is being sent or was sent last (R434), and the bit times until PORCH_EN_N is high again,
  those before it goes low included (R541, R543). -/
  line : List Byte
  left : Nat
  /-- Last evaluation, and the start of the present deferral (R557, R559). -/
  evalAt : Option Nat
  deferAt : Option Nat
  /-- R560's condition for a pair has held since; R561 (c) has held since. -/
  okAt : Option Nat
  diffAt : Option Nat
  /-- The trial has been confirmed or returned since boot complete; a return's case and kinds still to be reported (R560, R561). -/
  settled : Bool
  reverted : Option (Nat × Nat)
  /-- JOURNALED entries, by Settings ID, whose Journal value R129 did not take, with its schema, still to be reported
  (R563). -/
  resets : List (Nat × Nat)
deriving DecidableEq, Repr

/-- The word accesses of a two-wire transaction in progress (R462, R463): whether they are reads, the address of the first
word, how many, how many are done, the words to write or read so far, their status, and the bytes of the transaction up to
the data (R465). -/
structure TwProg where
  read : Bool
  addr : Nat
  n : Nat
  done : Nat
  words : List Word
  code : Nat
  pre : List Byte
deriving DecidableEq, Repr

/-- The hidden state of a two-wire target port (R461, R469): the pointer's IDX and CNT, the bytes that the last read sends, how
many bytes of the last write it acknowledged (R462, R465), a clock held since a wake, the accesses in progress, and a
transaction whose address waits for the end of the writes before it (R470, R476): read or write, address, bytes. -/
structure TwPort where
  idx : Nat
  cnt : Nat
  sent : List Byte
  acks : Nat
  held : Bool
  prog : Option TwProg
  wait : Option (Bool × Nat × List Byte)
deriving DecidableEq, Repr

/-- A two-wire controller's transaction as GO started it (R474): the bytes after each START, WLEN, RLEN and PEC. -/
structure TcPort where
  out : List (List Byte)
  wlen : Nat
  rlen : Nat
  pec : Bool
deriving DecidableEq, Repr

/-- The hidden state of the debug port (R610 to R613). -/
structure Dbg where
  err : Bool
  chkErr : Bool
  /-- TAG and data CRC of the last write performed. -/
  lastWr : Option (Nat × Nat)
  /-- The access in progress: a write's data or a read, with its address. -/
  acc : Option (Option Word × Nat)
  /-- The bits that the port has driven on DBG_IO in the last transaction, in the order sent (R609). -/
  out : List Bool
deriving DecidableEq, Repr

/-- The hidden state of the snapshot trigger (R429, R430): the trigger of a capture that is under way, the last
capture's stamp, the start of the chip's own drive of SNAP_IO, and whether another drives the ball low. -/
structure Snap where
  cap : Option Nat
  capAt : Option Nat
  drive : Option Nat
  low : Bool
deriving DecidableEq, Repr

/-- The whole block. -/
structure State where
  /-- The model's clock: µs of running tick since reset (log 1). -/
  now : Nat
  /-- The model's own counter of free values drawn (log 2). -/
  freeCtr : Nat
  /-- The register words of the Hall global region and the global blocks, by full address (R57). -/
  regs : Regs
  rooms : Vector Room 48
  lands : Vector Landing 6
  wings : Vector Wing 2
  clk : Clk
  /-- PAIR_ID as sampled at the end of the last reset: chip B (R8). -/
  chipB : Bool
  /-- The applied Plan, its body and digest (R132). -/
  plan : Option Plan
  planStore : List Byte
  planDigest : List Byte
  mode : ModeState
  /-- External requester granted last on the Hall register bus, in the order of R24. -/
  lastExt : Nat
  /-- The Hall core with its code RAM and data RAM (R57, R389). -/
  hall : Core
  hallCode : Mem
  hallData : Mem
  /-- Stamp of the last HBEAT, and whether a deadline has been missed since (R406, R592). -/
  hbeatAt : Nat
  hbMissed : Bool
  /-- Data and error that the last bus access reported to its requester (R19, R20, R57). -/
  rdata : Word
  rerr : Bool
  /-- The last access of the Hall core was reported to it as an error (R607, line 24; log 36). -/
  hallErr : Bool
  hearth : Hearth
  pair : Pair
  pantry : Pantry
  lamps : Lamps
  /-- Grant of the Pantry charger in W (R353, R373). -/
  chgGrant : Nat
  /-- The two host links. -/
  links : List Link
  attic : Attic
  /-- The Cellar flash by byte offset, each byte complemented, so that an unlisted byte is an erased 0xFF (R566, R569). -/
  cellar : Mem
  jnl : Journal
  /-- The internal firmware store: the body in use and its digest (R535). -/
  fwStore : List Byte
  fwDigest : List Byte
  porch : Porch
  /-- Values in effect, by Settings ID, of the entries without a TARGET (R123, R129). -/
  fwSet : Store 32
  tws : List TwPort
  /-- The two two-wire controller ports. -/
  tcs : List TcPort
  /-- The always-on two-wire matchers (R459). -/
  matchers : List TwEntry
  dbg : Dbg
  snap : Snap
  /-- The commands waiting, first in, first out. -/
  pending : List Instr
deriving DecidableEq, Repr

/-- A register bank with every listed field at its reset value. -/
def resetRegs (fs : List Field) : Regs :=
  fs.foldl (fun m f => if f.reset = 0 then m else m.put f f.reset) []

/-- Debounce values as CC_TIMING resets (R140). -/
def Debounce.reset : Debounce := ⟨0, 150000, 15000, 15000⟩

def CcState.reset : CcState :=
  { db1 := .reset, db2 := .reset, entry := 0, tDrpTry := 100000, tErr := 25000, tToggle := 37500, ra := false,
    asking := false, askAt := 0, retry := none, rpLower := none, vbusLow := none, vbus := 0, lostOff := false, swapTerm := none,
    audio := false, vconnOff := none, ov1 := none, ov2 := none, wake := none, removing := false, gaveVconn := false, term1 := .none, term2 := .none,
    rpSafe := 0, mirror := 0 }

def PdState.reset : PdState :=
  { rxId := [none, none, none], txId := [0, 0, 0], maxRev := 0, msg := none, auto := [], air := none, rx := none,
    gcrc := false, rxq := [], inbox := [], hvdm := none, srcCaps := none, eprCaps := none, snkCaps := none,
    chunkRx := none, sinkTx := none, lastSop := 0, lastTx := 0, lastRx := 0, lastPkt := 0,
    srWait := none, kaWait := none, vconnAt := none, cableTries := 0, cableAt := 0, cableWait := none,
    hrDue := false, lastMsg := none, asked := none, vdmReq := [], bistAt := none, crDue := false, line := [] }

def ConState.reset : ConState :=
  { negType := 0, negPos := 0, negMv := 0, negMa := 0, trans := none, reached := none, inBand := none, transMa := 0, transRp := 0, transBud := 0,
    giveup := none, swapAt := 0, swapWait := none, stepAt := 0, frsOk := false, hrAt := 0, hrSafe0 := none, resvAt := none, askAt := 0, held := 0,
    vin10 := 0, frsLow := 0, fallback := false, frsTx := none, vconnSwap := none, capMa := none }

def ConvState.reset : ConvState :=
  { refUv := 0, rate := 0, rateDen := 1, rateRem := 0, e := [0, 0, 0], y := [0, 0, 0], ycl := 0, eiPrev := 0, trim := 0, draw := 0,
    drawCut := false, coef := [0, 0, 0, 0, 0, 0, 0], kcl := 0x40000, kp := 0, ki := 0, eshift := 3, coefDue := false,
    thr := [(resetRegs roomFields).get 0x210, (resetRegs roomFields).get 0x214, (resetRegs roomFields).get 0x218,
      (resetRegs roomFields).get 0x21C],
    holds := [], filt := [false, false, false, false], ovCnt := 0, uvCnt := 0, mem2 := [], flat := none,
    lossAt := none, efQ := 0, foldAt := none, gate := .remove, openAtOff := false, dirDue := none, newHigh := [], high := 0, frsTurn := false,
    pwmAt := 0, phaseDue := false, vWin := [], iWin := [], retryAt := none,
    retryK := 0, attAt := none, outAt := none, thermal := false, thermTried := false, fetAt := none, fetHi := none, diverge := 0,
    subst := false, passed := 0, pinFail := [0, 0, 0], holdOkAt := none, quiet := 0 }

def Core.reset : Core :=
  { g := List.replicate 16 0, pc := 0, lc := 0, epc := 0, evLine := 0, evTrap := 0, evRpt := false, evEn := 1,
    evBase := 0x1FFF0000, inEvt := false, state := 0, trap := 0, rep := 0, rptU := 0, stage := List.replicate 10 0,
    dirty := false, extCopy := false, halted := false, stepping := false, pass := false, cause := 0, bkpt := 0 }

/-- A Room after reset: every register at its reset value, ID from the port number (01_house_architecture.md, ID). -/
def Room.reset (p : Nat) : Room :=
  { regs := ((((resetRegs roomFields).put ID_PORT_NUM p).put ID_SLOT (p / 8)).put ID_WING (p / 24)).put ID_LEAD p
    data := [], code := [], cc := .reset, pd := .reset, con := .reset, conv := .reset, core := .reset
    safe := false, slotHold := false, senseHold := false, kickAt := 0, restarts := [], cal := [(0, 0), (0, 0)],
    calRej := [0, 0], eoutRem := 0, einRem := 0, epoch := 0, outs := 0 }

def Landing.reset : Landing :=
  { regs := resetRegs landFields, gate := .undriven, fltN := false, entry := 0, seated := none, seatMet := false, goodAt := none,
    fltQ := 0, pgLow := none, offAt := some 0, hiAt := none, retryAt := none, retryK := 0, attempt := false,
    vslotin := 0, vout := 0, shed := none, senseHold := false, pinFail := [0, 0], holdOkAt := none, balCount := 0,
    down := false, outs := 0 }

def Wing.reset : Wing := { regs := resetRegs wingFields, safe := false, withdrawAt := none, lastExt := 6 }

def Clk.reset : Clk :=
  { phase := .reset, prior := 0, target := 0, step := 0, slow := 0, acc := 0,
    retTb := 0, failAt := none, held := false, wakeIn := 0, ccPer := none, bootAt := 0, endAt := 0, loadDue := false, calAt := 0, cold := true }

def Model.reset : Model :=
  { dt := [0, 0, 0], tj := 0, pwr := 0, st := 0, ith := 0, warnAt := none, ithAt := 0, relAt := none, coolAt := none }

def Hearth.reset : Hearth :=
  { models := List.replicate 57 .reset, tamb := [850, 850], tambBad := [0, 0], tambGood := [0, 0], die := 0, gradeHigh := false }

def Pantry.reset : Pantry :=
  { entry := 0, held := 0, pauseAt := 0, presAt := 0, qStep := 1, qAt := 0, qBase := 0, preOk := none, preUs := 0,
    fastUs := 0, holdBase := 0, peak := 0, means := [], ndvRow := 0, temps := [], dtRow := 0, povAt := none, pk := none,
    rev := false, batAt := none, mode := none, retAt := none, cutAt := none, cutLevel := 0, ntcBad := 0, ntcGood := 0,
    ask := none, askAt := 0, toFast := false, ramp := 0, pwm := 3, duty := 0 }

def Lamps.reset : Lamps := { slot := 0, a := false, b := false }

def Pair.reset : Pair :=
  { claims := 0, hbAt := none, firstAt := none, seen := 0, clear := [0, 0], guard := none, guardW := 0, path := 0, logAt := none, logTb := 0, logW := 0, logPorts := 0,
    clearPath := 0, clearTb := 0, conAt := [none, none], yieldAt := [none, none], yielded := 0, barred := false, failed := 0,
    stuckAt := none, lock := [none, none], copyAt := none, dgTx := false, dgRx := false, peerDigest := [],
    eSet := false, seq := 0, frame := 0, touch := [0, 0, 0], first := [0, 0, 0], gap := none, stale := 2 ^ 55 - 1,
    got := List.replicate 55 0, resyncAt := none, asked := 0, given := List.replicate 55 0, peerStale := 0, peerReady := false, statusAt := none,
    loops := List.replicate 48 ⟨0, 0, 0⟩, loopAt := List.replicate 6 none, sent := [], lanes := [], txRd := false, pulse := 0, writes := [] }

def Link.reset : Link :=
  { out := [], table := [], next := 0, merged := 0, lost := 0, run := 0, line := [], left := 0,
    sending := none, again := none, wait := none, last := none, cmd := none, prog := none, rx := [], rts := false }

/-- The fuses as parts leave Luirig (R515): OPEN, with a TRIM region of zeros and its CRC (log 46). -/
def Attic.reset : Attic :=
  { a := [(15, 0x5A0B0531#32), (16, 1#32)], b := [(15, 0x5A0B0531#32), (16, 1#32)], weakA := [], weakB := [],
    shadow := [], cmd := none, verify := none }

def Journal.reset : Journal := { group := [], cmd := none, image := [], due := false, ckpt := none }

def Porch.reset : Porch :=
  { sess := none, buf := [], staged := [none, none], last := none, line := [], left := 0, evalAt := none, deferAt := none,
    okAt := none, diffAt := none, settled := false, reverted := none, resets := [] }

def TwPort.reset : TwPort :=
  { idx := 0, cnt := 0, sent := [], acks := 0, held := false, prog := none, wait := none }

def TcPort.reset : TcPort := { out := [], wlen := 0, rlen := 0, pec := false }

def Dbg.reset : Dbg :=
  { err := false, chkErr := false, lastWr := none, acc := none, out := [] }

def Snap.reset : Snap := { cap := none, capAt := none, drive := none, low := false }

/-- The block right after an always-on power-on reset, the chip still held in reset (R73, R75, R77): every register at
the value its table gives, every memory with nothing listed, no command waiting (log 6). -/
def State.reset : State :=
  { now := 0, freeCtr := 0, regs := resetRegs hallFields
    rooms := Vector.ofFn fun p => Room.reset p.val
    lands := Vector.replicate 6 Landing.reset
    wings := Vector.replicate 2 Wing.reset
    clk := .reset, chipB := false, plan := none, planStore := [], planDigest := [],
    mode := { since := 0, changed := false }, lastExt := 6, hall := .reset, hallCode := [], hallData := [], hbeatAt := 0, hbMissed := false, rdata := 0, rerr := false, hallErr := false,
    hearth := .reset, pair := .reset, pantry := .reset, lamps := .reset, chgGrant := 0,
    links := [.reset, .reset], attic := .reset, cellar := [], jnl := .reset, fwStore := [], fwDigest := [],
    porch := .reset, fwSet := [], tws := List.replicate 4 .reset, tcs := [.reset, .reset], matchers := [], dbg := .reset, snap := .reset,
    pending := [] }

end Sys2Proof.Machine
end

