-- ==== Sys2Proof/Machine/Ops.lean ====
section
/-! DEFINITION. Machine/Ops.lean: the named operations over registers, ports, Landings and Wings that the meanings
share. Attach states, loop states and the other coded fields are named by the codes of the spec's tables. -/

namespace Sys2Proof.Machine

/-- What a meaning answers. -/
abbrev Out := Host.Outcome State Fault Refusal

/-! ### Access to the parts of the state -/

def Room.fld (r : Room) (f : Field) : Nat := r.regs.fld f
def Room.bit (r : Room) (f : Field) : Bool := r.regs.fld f != 0
def Room.put (r : Room) (f : Field) (v : Nat) : Room := { r with regs := r.regs.put f v }
/-- Set a one-bit field. -/
def Room.on (r : Room) (f : Field) : Room := r.put f 1
/-- Clear a field. -/
def Room.off (r : Room) (f : Field) : Room := r.put f 0
/-- Write a truth value into a one-bit field. -/
def Room.putB (r : Room) (f : Field) (b : Bool) : Room := r.put f b.toNat

def Landing.fld (l : Landing) (f : Field) : Nat := l.regs.fld f
def Landing.bit (l : Landing) (f : Field) : Bool := l.regs.fld f != 0
def Landing.put (l : Landing) (f : Field) (v : Nat) : Landing := { l with regs := l.regs.put f v }
def Landing.on (l : Landing) (f : Field) : Landing := l.put f 1
def Landing.off (l : Landing) (f : Field) : Landing := l.put f 0
def Landing.putB (l : Landing) (f : Field) (b : Bool) : Landing := l.put f b.toNat

def Wing.fld (w : Wing) (f : Field) : Nat := w.regs.fld f
def Wing.put (w : Wing) (f : Field) (v : Nat) : Wing := { w with regs := w.regs.put f v }
def Wing.on (w : Wing) (f : Field) : Wing := w.put f 1

def State.fld (s : State) (f : Field) : Nat := s.regs.fld f
def State.bit (s : State) (f : Field) : Bool := s.regs.fld f != 0
def State.put (s : State) (f : Field) (v : Nat) : State := { s with regs := s.regs.put f v }
def State.on (s : State) (f : Field) : State := s.put f 1
def State.off (s : State) (f : Field) : State := s.put f 0
def State.putB (s : State) (f : Field) (b : Bool) : State := s.put f b.toNat

def State.room (s : State) (p : Fin 48) : Room := s.rooms[p]
def State.setRoom (s : State) (p : Fin 48) (r : Room) : State := { s with rooms := s.rooms.set p r }
def State.onRoom (s : State) (p : Fin 48) (f : Room → Room) : State := s.setRoom p (f (s.room p))
def State.land (s : State) (b : Fin 6) : Landing := s.lands[b]
def State.setLand (s : State) (b : Fin 6) (l : Landing) : State := { s with lands := s.lands.set b l }
def State.onLand (s : State) (b : Fin 6) (f : Landing → Landing) : State := s.setLand b (f (s.land b))
def State.wing (s : State) (w : Fin 2) : Wing := s.wings[w]
def State.onWing (s : State) (w : Fin 2) (f : Wing → Wing) : State := { s with wings := s.wings.set w (f (s.wing w)) }
/-- Apply an update to every Room. -/
def State.mapRooms (s : State) (f : Fin 48 → Room → Room) : State :=
  { s with rooms := Vector.ofFn fun p => f p (s.room p) }
/-- Apply an update to every Landing. -/
def State.mapLands (s : State) (f : Fin 6 → Landing → Landing) : State :=
  { s with lands := Vector.ofFn fun b => f b (s.land b) }

def Room.onCc (r : Room) (f : CcState → CcState) : Room := { r with cc := f r.cc }
def Room.onPd (r : Room) (f : PdState → PdState) : Room := { r with pd := f r.pd }
def Room.onCon (r : Room) (f : ConState → ConState) : Room := { r with con := f r.con }
def Room.onConv (r : Room) (f : ConvState → ConvState) : Room := { r with conv := f r.conv }
def Room.onCore (r : Room) (f : Core → Core) : Room := { r with core := f r.core }
def State.onClk (s : State) (f : Clk → Clk) : State := { s with clk := f s.clk }

/-- Landing of a port: p ÷ 8 (R6). -/
def landOf (p : Fin 48) : Fin 6 := ⟨p.val / 8, by omega⟩
/-- Wing of a port: p ÷ 24 (R6). -/
def wingOf (p : Fin 48) : Fin 2 := ⟨p.val / 24, by omega⟩
/-- Wing of a Landing (R7). -/
def wingOfLand (b : Fin 6) : Fin 2 := ⟨b.val / 3, by omega⟩
/-- The eight ports of a Landing. -/
def portsOf (b : Fin 6) : List (Fin 48) := (List.finRange 48).filter (landOf · = b)
/-- The 24 ports of a Wing. -/
def wingPorts (w : Fin 2) : List (Fin 48) := (List.finRange 48).filter (wingOf · = w)
/-- The three Landings of a Wing. -/
def wingLands (w : Fin 2) : List (Fin 6) := (List.finRange 6).filter (wingOfLand · = w)

/-- The Plan of a chip without one. -/
def Plan.none : Plan :=
  { planId := 0, planRev := 0, fmtMinor := 0, schema := 0, flags := 0, ports := [], gangs := [], trip := [],
    budget := [], timers := [], twowire := [], programs := [], hearth := [], slots := [], pantry := Option.none,
    ranges := [], settings := [] }

/-- The applied Plan; every port and slot absent without one. -/
def State.pl (s : State) : Plan := s.plan.getD Plan.none

/-- The applied Plan selects pair mode (R99). -/
def State.pairMode (s : State) : Bool := s.pl.pairMode

/-- The chip's claim holds the Wing (PAIR_STAT.HELD). -/
def State.holds (s : State) (w : Fin 2) : Bool := (s.fld PAIR_STAT_HELD).testBit w.val

/-- The peer claim for the Wing is set (R482). -/
def State.peerHolds (s : State) (w : Fin 2) : Bool := (s.fld PAIR_STAT_PEER_HELD).testBit w.val

/-- This chip drives the Wing's balls: always in single-chip mode; in pair mode while its own claim is set, the peer's is
clear and no claim guard runs (R81, R165, R484, R506). -/
def State.keeps (s : State) (w : Fin 2) : Bool :=
  !s.pairMode || (s.holds w && !s.peerHolds w && !(s.pair.guard.isSome && s.pair.guardW.testBit w.val))

/-- The Hall keeper (R485); always in single-chip mode. -/
def State.hallKeeper (s : State) : Bool :=
  !s.pairMode || s.holds 0 || (s.holds 1 && !s.peerHolds 0)

/-- The main clocks run and the registers answer: boot complete, or recovery. -/
def State.clocked (s : State) : Bool := s.clk.phase = .run || s.clk.phase = .recovery

/-- Boot complete has been reached and the clocks run (R79). -/
def State.booted (s : State) : Bool := s.clk.phase = .run

/-- A two-wire target port has acknowledged an address and waits for the STOP, with SCL held low (R463, R469, R470). -/
def TwPort.busy (t : TwPort) : Bool := t.held || t.wait.isSome || t.prog.any (·.read)

/-- The lead of a port's gang; the port itself outside a gang. -/
def State.lead (s : State) (p : Fin 48) : Fin 48 := Fin.ofNat 48 (s.pl.leadOf p.val)

/-- The port is present and no gang follower, and the clocks run after boot complete. -/
def State.whole (s : State) (p : Fin 48) : Bool := s.booted && s.pl.whole p.val

/-- The port's engines act on its balls: `whole`, and this chip is keeper. -/
def State.live (s : State) (p : Fin 48) : Bool := s.whole p && s.keeps (wingOf p)

/-- The port's engines act and it is in no slot hold and no port safe state. -/
def State.free (s : State) (p : Fin 48) : Bool :=
  s.live p && !(s.room p).safe && !(s.room p).bit CTRL_FORCE_SAFE && !(s.room p).slotHold

/-- What a Room's hardware takes from outside the Room: the clock, its Plan entry, the Wing's VCONN supply, whether this
chip drives the port's balls (R165), and for a gang follower the Room of its lead (R54, R61). -/
structure Env where
  now : Nat
  port : PortPlan
  supply : Bool
  keeper : Bool
  lead : Option Room
deriving DecidableEq, Repr

def State.env (s : State) (p : Fin 48) : Env :=
  { now := s.now, port := s.pl.entry p.val, supply := s.pl.flags.testBit (1 + p.val / 24), keeper := s.keeps (wingOf p)
    lead := if s.pl.follower p.val then some (s.room (s.lead p)) else none }

/-- The Room whose loop, safe state and switch govern a port's generator: its own, or that of the gang's lead (R54, R61). -/
def Env.ruler (e : Env) (r : Room) : Room := e.lead.getD r

/-- Thermal state and ITH of a Hearth model (R343, R344). -/
def State.modelState (s : State) (m : Nat) : Nat := ((s.hearth.models[m]?).map (·.st)).getD 0
def State.modelIth (s : State) (m : Nat) : Nat := ((s.hearth.models[m]?).map (·.ith)).getD 0

/-- The record of the die model under the grade limit of the part: the lower TTRIP, and TWARN 5.0 °C below the limit where the
Plan's lies at or above it (R663). -/
def ModelRec.graded (high : Bool) (r : ModelRec) : ModelRec :=
  let lim : Int := if high then 1350 else 1250
  { r with ttrip := min r.ttrip lim, twarn := if lim ≤ r.twarn then lim - 50 else r.twarn }

/-- The HEARTH record of a model, if the Plan has one (R338). -/
def State.modelRec (s : State) (m : Nat) : Option ModelRec :=
  (s.pl.hearth.find? (·.model = m)).map fun r => if m = 56 then r.graded s.hearth.gradeHigh else r

/-- HYST of a model in °C: HRT_CFG for the port switches, HEARTH_CTRL for the others (R343, R347). -/
def State.hystOf (s : State) (m : Nat) : Nat :=
  if m < 48 then (s.room (Fin.ofNat 48 m)).fld HRT_CFG_HYST else s.fld HEARTH_CTRL_HYST

/-- TWARN − HYST of a model in mK above 0 °C. -/
def State.coolLevel (s : State) (m : Nat) (r : ModelRec) : Int := 100 * r.twarn - 1000 * s.hystOf m

/-- A model stands at or above TWARN − HYST (R346, R347, R349). -/
def State.modelHot (s : State) (m : Nat) : Bool :=
  match s.modelRec m, s.hearth.models[m]? with
  | some r, some x => s.coolLevel m r ≤ x.tj
  | _, _ => false

/-- The die model does, so that R43 and R332 count its TRIP as still present (R349). -/
def State.dieHot (s : State) : Bool := s.modelHot 56

/-- BAT_LOW holds the root's ESSENTIAL cap at 0 W (R368). -/
def State.batLow (s : State) : Bool := s.bit CHG_STAT_BAT_LOW

/-- Update a Room with its environment. -/
def State.onRoomE (s : State) (p : Fin 48) (f : Env → Room → Room) : State := s.onRoom p (f (s.env p))

/-- A stamp is at least `d` µs old. -/
def old (now start d : Nat) : Bool := start + d ≤ now
/-- A running stamp is at least `d` µs old; false where nothing runs. -/
def due (now : Nat) (t : Option Nat) (d : Nat) : Bool :=
  match t with
  | some x => old now x d
  | none => false

/-- A free value (log 2): the state moves its counter on. -/
def State.free? (s : State) : Word × State := (Config.freeValue s.freeCtr, { s with freeCtr := s.freeCtr + 1 })

/-! ### Codes of the table "Attach states" (R137) -/

abbrev aDisabled : Nat := 0
abbrev aErrRec : Nat := 1
abbrev aUnSnk : Nat := 2
abbrev aWaitSnk : Nat := 3
abbrev aSnk : Nat := 4
abbrev aUnSrc : Nat := 5
abbrev aWaitSrc : Nat := 6
abbrev aSrc : Nat := 7
abbrev aTrySrc : Nat := 8
abbrev aTryWaitSnk : Nat := 9
abbrev aTrySnk : Nat := 10
abbrev aTryWaitSrc : Nat := 11
abbrev aDbgSnk : Nat := 12
abbrev aDbgSrc : Nat := 13

def Room.ast (r : Room) : Nat := r.fld CC_STAT_ASTATE
/-- ATTACHED_SRC or ATTACHED_SNK. -/
def Room.attached (r : Room) : Bool := r.ast = aSrc || r.ast = aSnk
/-- The attach state calls for Rp on its lines (R137). -/
def rpSide (a : Nat) : Bool := [aUnSrc, aWaitSrc, aSrc, aTrySrc, aTryWaitSrc, aDbgSrc].contains a
/-- The attach state calls for Rd on its lines (R137). -/
def rdSide (a : Nat) : Bool := [aUnSnk, aWaitSnk, aSnk, aTryWaitSnk, aTrySnk, aDbgSnk].contains a

/-- In the port safe state, by a fault or by FORCE_SAFE (R37). -/
def Room.inSafe (r : Room) : Bool := r.safe || r.bit CTRL_FORCE_SAFE
/-- The Room drives its outputs as in the port safe state: safe state or slot hold (R326). -/
def Room.outOff (r : Room) : Bool := r.inSafe || r.slotHold
def Room.explicit (r : Room) : Bool := r.bit PD_STAT_EXPLICIT
/-- A contract transition or a swap runs (R232). -/
def Room.inTrans (r : Room) : Bool := r.con.trans.isSome || r.fld CON_STAT_SWAP != 0

/-- Enter a step of a transition, swap or Hard Reset sequence (CON_STAT.STEP). -/
def Room.toStep (e : Env) (n : Nat) (r : Room) : Room :=
  (r.put CON_STAT_STEP n).onCon fun c => { c with stepAt := e.now }

/-- STATUS.STATE, from the attach state and the contract (R161, R232). -/
def Room.stateCode (r : Room) : Nat :=
  if r.inSafe then 5
  else if r.ast = aDisabled then 0
  else if r.attached then (if r.inTrans then 4 else if r.explicit then 3 else 2)
  else if r.ast = aDbgSnk || r.ast = aDbgSrc then 2
  else 1

/-! ### Terminations and VCONN -/

/-- What each line of the attach state takes (R137, R37): `line` 1 or 2. -/
def Room.wantTerm (e : Env) (r : Room) (line : Nat) : CcTerm :=
  let bmc := r.fld CC_STAT_ORIENT + 1
  let other := r.bit CC_STAT_ORIENT_VALID && line != bmc
  let base := if rpSide r.ast then CcTerm.rp else if rdSide r.ast then CcTerm.rd else CcTerm.none
  if (if line = 1 then r.bit CC_STAT_CC1_ISOL else r.bit CC_STAT_CC2_ISOL) then .none
  else if r.slotHold then .none
  else if r.inSafe && e.port.safeOpen then .none
  else if other && r.bit CC_STAT_VCONN_ON then .vconn
  else if !other && r.fld CON_STAT_SWAP = 3 && r.fld CON_STAT_STEP = 1 then .low
  else base

/-- The code of CC_LEVEL that a line shows before a partner is decoded on it (CC_LEVEL; log 11). -/
def openCode (t : CcTerm) : Nat :=
  match t with
  | .none => 4
  | .rp => 2
  | .rd => 0
  | .vconn => 6
  | .low => 4

/-- Debounce values as CC_TIMING holds them now (R140). -/
def Room.newDebounce (e : Env) (r : Room) : Debounce :=
  ⟨e.now, 1000 * r.fld CC_TIMING_TCCDB, 1000 * r.fld CC_TIMING_TPDDB, 1000 * r.fld CC_TIMING_TTRYDB⟩

/-- What a line shows of the partner, from its termination and code (R137): 0 nothing, 1 Ra, 2 Rd, 3 Rp. A line that
VCONN drives shows the Ra of the attach (R151). -/
def lineKind (t : CcTerm) (ra : Bool) (code : Nat) : Nat :=
  match t with
  | .none => 0
  | .rp => if code = 0 then 1 else if code = 1 then 2 else 0
  | .rd => if 1 ≤ code && code ≤ 3 then 3 else 0
  | .vconn => if ra then 1 else 0
  | .low => 0

def Room.kind1 (r : Room) : Nat := lineKind r.cc.term1 r.cc.ra (r.fld CC_LEVEL_CC1_LVL)
def Room.kind2 (r : Room) : Nat := lineKind r.cc.term2 r.cc.ra (r.fld CC_LEVEL_CC2_LVL)

/-- CC_STAT.PARTNER of the two lines. -/
def partnerCode (k1 k2 : Nat) : Nat :=
  match k1, k2 with
  | 1, 1 => 4
  | 2, 2 => 5
  | 3, 3 => 7
  | _, _ =>
    if k1 = 3 || k2 = 3 then 6
    else if k1 = 2 || k2 = 2 then (if k1 = 1 || k2 = 1 then 2 else 1)
    else if k1 = 1 || k2 = 1 then 3 else 0

/-- Collision avoidance applies to the port's initiating SOP messages (R184). -/
def Room.caApplies (r : Room) : Bool := r.fld PD_STAT_REV_SOP = 2 && r.explicit

/-- A sink holds an initiating message in SINKTX_HOLD while RP_SEEN is not the 3.0 A level, and only then (R186). -/
def Room.followRp (r : Room) : Room :=
  match r.pd.msg with
  | none => r
  | some m =>
    let hold := m.initiate && m.pkt.sop = 0 && r.caApplies && r.ast = aSnk && r.fld CC_STAT_RP_SEEN != 3
    if r.fld TX_STAT_STATE = 1 && hold then r.put TX_STAT_STATE 3
    else if r.fld TX_STAT_STATE = 3 && !hold then r.put TX_STAT_STATE 1
    else r

/-- Recompute PARTNER and RP_SEEN with their events; a message that waits for the 3.0 A level follows (R186). -/
def Room.refreshPartner (r : Room) : Room :=
  let k1 := r.kind1
  let k2 := r.kind2
  let p := partnerCode k1 k2
  let seen := max (if k1 = 3 then r.fld CC_LEVEL_CC1_LVL else 0) (if k2 = 3 then r.fld CC_LEVEL_CC2_LVL else 0)
  let r := if p = r.fld CC_STAT_PARTNER then r else (r.put CC_STAT_PARTNER p).on CC_EVENT_PARTNER_CHANGE
  if seen = r.fld CC_STAT_RP_SEEN then r
  else
    let r := r.put CC_STAT_RP_SEEN seen
    (if r.ast = aSnk then r.on CC_EVENT_RP_CHANGE else r).followRp

/-- RP_SEEN of a shadow: the highest level that its own front end decodes where the mirrored state applies Rd (R165). -/
def Room.shadowRp (r : Room) : Room :=
  let c (f : Field) : Nat := if rdSide r.ast && r.fld f ≤ 3 then r.fld f else 0
  r.put CC_STAT_RP_SEEN (max (c CC_LEVEL_CC1_LVL) (c CC_LEVEL_CC2_LVL))

/-- A line shows something other than Ra, so that Ra on both lines counts anew (R158). -/
def Room.audioOff (r : Room) : Room :=
  r.onCc fun c => if r.kind1 = 1 && r.kind2 = 1 then c else { c with audio := false }

/-- Apply the terminations that the state calls for; a line whose termination changes is decoded anew. A shadow applies none and
goes on decoding; its PARTNER is the mirrored one (R165). -/
def Room.terms (e : Env) (r : Room) : Room :=
  if !e.keeper then r.onCc fun c => { c with term1 := .none, term2 := .none } else
  let t1 := r.wantTerm e 1
  let t2 := r.wantTerm e 2
  let d := r.newDebounce e
  let r1 := if t1 = r.cc.term1 then r else
    (r.put CC_LEVEL_CC1_LVL (if r.bit CC_STAT_CC1_ISOL then 5 else openCode t1)).onCc fun c =>
      { c with term1 := t1, db1 := d }
  let r2 := if t2 = r.cc.term2 then r1 else
    (r1.put CC_LEVEL_CC2_LVL (if r.bit CC_STAT_CC2_ISOL then 5 else openCode t2)).onCc fun c =>
      { c with term2 := t2, db2 := d }
  if t1 = r.cc.term1 && t2 = r.cc.term2 then r else r2.audioOff.refreshPartner

/-- The Hard Reset power sequence has taken VCONN off and not yet given it back (R249, steps 2 and 3). -/
def Room.hrNoVconn (r : Room) : Bool := r.bit CON_STAT_HR_SEQ && (r.fld CON_STAT_STEP = 2 || r.fld CON_STAT_STEP = 3)

/-- The VCONN switch may drive the non-BMC line (R146), but for what asks for it. -/
def Room.vconnAllowed (e : Env) (r : Room) : Bool :=
  !r.hrNoVconn && e.keeper &&
  r.attached && e.port.vconn && e.supply && !r.bit CC_STAT_VCONN_LOCK && !r.outOff

/-- Open or close the VCONN switch as R146 gives, and the terminations with it (R147) (log 19) (log 23). -/
def Room.vconn (e : Env) (r : Room) : Room :=
  let want := r.vconnAllowed e && (r.bit VCONN_CTRL_EN ||
    (r.bit VCONN_CTRL_AUTO && r.ast = aSrc && r.cc.ra && !r.cc.gaveVconn))
  let r := if want = r.bit CC_STAT_VCONN_ON then r else
    ((r.putB CC_STAT_VCONN_ON want).onPd fun d => { d with vconnAt := if want then some e.now else none }).onCc fun c =>
      { c with vconnOff := if want then none else some e.now }
  r.terms e

/-! ### Grants -/

def Room.grant (r : Room) : Nat := r.fld GRANT_GRANT_W

/-- Write GRANT_W; a change sets EVENT.BUDGET (table EVENT) and the core's GRANT_UPD latch (EV_LATCH). -/
def Room.setGrant (r : Room) (w : Nat) : Room :=
  if w = r.grant then r else ((r.put GRANT_GRANT_W w).on EVENT_BUDGET).on EV_LATCH_GRANT_UPD

/-- End the reservation (R225). -/
def Room.endResv (r : Room) : Room :=
  ((r.off GRANT_ASK_STATE).off GRANT_RESV_W).onCon fun c => { c with resvAt := none, held := 0 }

/-- The power that a port holds reserved: RESV_W while ANSWERED; while PENDING, what the ask replaces (R226, R353). -/
def Room.resv (r : Room) : Nat :=
  if r.fld GRANT_ASK_STATE = 2 then r.fld GRANT_RESV_W else if r.fld GRANT_ASK_STATE = 1 then r.con.held else 0

/-- An ask (R225, R226): PENDING, RESV_W reads 0, and a reservation that it replaces stays held until the answer. `lapse`
starts the 10 ms count. -/
def Room.ask (e : Env) (w : Nat) (lapse : Bool) (r : Room) : Room :=
  let held := r.resv
  (((r.put GRANT_ASK_ASK_W w).put GRANT_ASK_STATE 1).off GRANT_RESV_W).onCon fun c =>
    { c with resvAt := if lapse then some e.now else none, askAt := e.now, held := held }

/-- P_avail: RESV_W while ANSWERED, else GRANT_W. -/
def Room.pAvail (r : Room) : Nat :=
  if r.fld GRANT_ASK_STATE = 2 then r.fld GRANT_RESV_W else r.grant

/-! ### Contract limits -/

/-- Current of the advertised Rp, in mA. -/
def rpAdvMa (code : Nat) : Nat := if code = 2 then 3000 else if code = 1 then 1500 else 0
/-- Current of the decoded Rp, in mA (R247: 900 mA for Default USB). -/
def rpSeenMa (code : Nat) : Nat := if code = 3 then 3000 else if code = 2 then 1500 else if code = 1 then 900 else 0
/-- Current of FRS_I, in mA. -/
def frsMa (code : Nat) : Nat := if code = 2 then 3000 else if code = 1 then 1500 else 900

/-- The implicit contract current: advertised in source role, decoded in sink role (R233). -/
def Room.implicitMa (r : Room) : Nat :=
  if r.ast = aSrc then rpAdvMa (r.fld CC_STAT_RP_ADV)
  else if r.ast = aSnk then rpSeenMa (r.fld CC_STAT_RP_SEEN) else 0

/-- The current of a power at the present VSET, in mA; no limit at 0 mV. -/
def Room.vsetMa (r : Room) (w : Nat) : Nat := if r.fld VSET_MV = 0 then 65535 else w * 1000000 / r.fld VSET_MV

/-- The Rp limit of R246; the fall of Rp reaches it 60 ms later (R143). -/
def Room.rpMa (r : Room) : Nat := if r.cc.rpLower.isSome then 3000 else r.implicitMa

/-- The candidates of R246 with the codes of CON_LIM.CAUSE (log 26). In a transition the Rp and budget limits keep their
value of step 1 (R262). QUIET limits a COMFORT port in source role to its floor (R260, R261; log 35). -/
def Room.limits (e : Env) (r : Room) : List (Nat × Nat) :=
  (match r.con.trans with
    | some _ => [(r.con.transMa, 0)]
    | none => if r.explicit then [(r.fld CON_VI_MA, 0)] else []) ++
  (if r.explicit then [] else [(if r.con.trans.isSome then r.con.transRp else r.rpMa, 1)]) ++
  [(e.port.imax, 2), (r.fld CABLE_LIM_IMAX_MA, 3)] ++
  (if r.bit CON_STAT_ENFORCED && r.ast = aSrc then
    [(if r.con.trans.isSome then r.con.transBud else r.vsetMa r.grant, 4)] else []) ++
  (if r.fld HRT_STAT_STATE = 2 then [(r.fld HRT_STAT_ITH, 5)] else []) ++
  (if r.con.fallback && r.fld STATUS_MODE = 3 then [(r.fld CON_VI_MA, 6)] else []) ++
  (if r.fld STATUS_MODE = 4 && e.port.cls = 2 && r.ast = aSrc then
    [(r.vsetMa (r.fld PORT_BUD_FLOOR_W), 6)] else []) ++
  (if r.senseHold then [(r.fld CON_VI_MA, 0)] else []) ++
  (match r.con.capMa with | some m => [(m, 0)] | none => []) ++
  (if r.fld CON_STAT_SWAP = 4 then [(frsMa (r.fld FRS_CTRL_FRS_I), 7)] else [])

/-- The lowest candidate; the first listed of equals. -/
def lowest : List (Nat × Nat) → Nat × Nat
  | [] => (0, 0)
  | x :: l => l.foldl (fun a b => if b.1 < a.1 then b else a) x

/-- The eFuse limit of a current limit (R280). -/
def Room.ief (r : Room) (ilim : Nat) : Nat :=
  min (ilim * (100 + r.fld EF_LIMIT_MARGIN) / 100) (r.fld EF_LIMIT_ABS)

/-- Recompute ILIM, its cause and IEF (R246, R280); both read 0 outside the attached states. A shadow keeps the mirrored limit
(R263). -/
def Room.refreshIlim (e : Env) (r : Room) : Room :=
  let v := if !e.keeper then (r.fld CON_LIM_ILIM, r.fld CON_LIM_CAUSE) else if r.attached then lowest (r.limits e) else (0, 0)
  ((r.put CON_LIM_ILIM v.1).put CON_LIM_CAUSE v.2).put EF_STAT_IEF (r.ief v.1)

/-- While no explicit contract holds, CON_VI shows the implicit contract (R233); the mirrored one in a shadow (R263). -/
def Room.implicitVi (e : Env) (r : Room) : Room :=
  if r.explicit || !e.keeper then r.refreshIlim e
  else (((r.put CON_VI_MV (if r.attached then 5000 else 0)).put CON_VI_MA r.implicitMa).off CON_STAT_TYPE).refreshIlim e

/-- Contract power exceeds the grant: compared as CON_V × CON_I against GRANT_W (R243). -/
def Room.overGrant (r : Room) : Bool := r.grant * 1000000 < r.fld CON_VI_MV * r.fld CON_VI_MA

/-- Start the give-up timer unless it runs (R243 to R245). -/
def Room.startGiveup (e : Env) (r : Room) : Room :=
  if r.con.giveup.isSome then r else
    (r.on CON_STAT_GIVEUP).onCon fun c => { c with giveup := some (e.now, 10000 * r.fld CON_CFG_GIVEUP) }

/-- VLIM (R221) from the Plan, the cable, EPR_ACTIVE and the 10 ms input mean. -/
def Room.vlim (e : Env) (r : Room) : Nat :=
  let a := min e.port.vmax (r.fld CABLE_LIM_VMAX_MV)
  let b := if r.bit PD_STAT_EPR_ACTIVE then a else min a 20000
  (min b (r.con.vin10 - 4000)) / 100 * 100

/-- VLIM lies below CON_V on a source-role port (R244). -/
def Room.vlimLow (r : Room) : Bool := r.ast = aSrc && !r.outOff && r.fld CON_LIM_VLIM < r.fld CON_VI_MV

/-- VLIM_DROP, and the give-up timer unless it runs already (R244). -/
def Room.vlimDrop (e : Env) (r : Room) : Room := (r.on CON_EVENT_VLIM_DROP).startGiveup e

/-- Recompute VLIM; a fall below CON_V on a source-role port acts under R244, outside a transition (R221, R245). A shadow keeps
the mirrored VLIM (R263). -/
def Room.refreshVlim (e : Env) (r : Room) : Room :=
  if !e.keeper then r else
  let was := r.vlimLow
  let r := r.put CON_LIM_VLIM (r.vlim e)
  if r.vlimLow && !was && r.con.trans.isNone then r.vlimDrop e else r

/-- The cable limits of R220, from CABLE_STATE, CABLE_IDH and CABLE_VDO. The product type of an ID Header stands in
bits 29:27, 3 passive and 4 active cable: see log 12. -/
def Room.refreshCable (e : Env) (r : Room) : Room :=
  let v := r.fld CABLE_VDO_VDO1
  let pt := r.fld CABLE_IDH_IDH / 2 ^ 27 % 8
  let found := r.fld PD_STAT_CABLE_STATE = 2 && (pt = 3 || pt = 4)
  let five := v / 32 % 4 = 2
  let vmax := [20000, 30000, 40000, 50000].getD (v / 512 % 4) 20000
  let r := if found then
      (((r.put CABLE_LIM_IMAX_MA (if five then 5000 else 3000)).put CABLE_LIM_VMAX_MV vmax).putB CABLE_LIM_EPR_OK
        (five && v / 512 % 4 = 3 && v.testBit 17)).on CABLE_LIM_FROM_EMARKER
    else (((r.put CABLE_LIM_IMAX_MA 3000).put CABLE_LIM_VMAX_MV 20000).off CABLE_LIM_EPR_OK).off CABLE_LIM_FROM_EMARKER
  (r.refreshVlim e).refreshIlim e

/-! ### Loop, PWM and switch commands -/

abbrev lOff : Nat := 0
abbrev lSoftStop : Nat := 1
abbrev lSoftStart : Nat := 2
abbrev lRegulate : Nat := 3
abbrev lReverse : Nat := 4
abbrev lShadow : Nat := 5

def Room.loop (r : Room) : Nat := r.fld LOOP_STAT_STATE
/-- VBUS ADC code to mV: LSB 14.0625 mV (R273). -/
def adcMv (code : Nat) : Nat := code * 225 / 16
/-- VNODE in mV. -/
def Room.vnode (r : Room) : Nat := adcMv (r.fld ADC_VNODE_VNODE)
/-- A 12-bit two's-complement code as a signed value (R273). -/
def sgn12 (v : Nat) : Int := if v < 2048 then (v : Int) else (v : Int) - 4096
/-- A voltage in mV as a fraction of 57.6 V in Q2.22. -/
def q22OfMv (mv : Nat) : Int := ((mv * 4194304 / 57600 : Nat) : Int)

/-- Set the reference and show it in VSET.REF. -/
def Room.setRef (r : Room) (uv : Nat) : Room :=
  (r.put VSET_REF (uv / 1000)).onConv fun c => { c with refUv := uv }

/-- RAMPING shows whether the reference differs from its target; a change to 0 stamps it (R240, R285). -/
def Room.refreshRamp (e : Env) (r : Room) (target : Nat) : Room :=
  let ramping := r.fld VSET_REF != target
  let r := r.putB CON_STAT_RAMPING ramping
  r.onConv fun c => { c with flat := if ramping then none else c.flat <|> some e.now }

/-- Loop state changes also show in STATUS.LOOP_ACTIVE, and the direction in STATUS.POWER_DIR. ILIMITING belongs to the
forward states (R277, R280). -/
def Room.setLoop (r : Room) (st : Nat) : Room :=
  let fwd := st = lSoftStop || st = lSoftStart || st = lRegulate
  let r := if !fwd && r.bit LOOP_STAT_ILIMITING then (r.off LOOP_STAT_ILIMITING).on CONV_EVENT_ILIMIT_END else r
  ((r.put LOOP_STAT_STATE st).putB STATUS_LOOP_ACTIVE (fwd || st = lReverse)).putB STATUS_POWER_DIR (st = lReverse)

/-- The loop is in a forward state (R277). -/
def Room.forward (r : Room) : Bool := r.loop = lSoftStop || r.loop = lSoftStart || r.loop = lRegulate

/-- A retry attempt runs: the drivers act although the port is in the port safe state (R303). -/
def Room.attempting (r : Room) : Bool := r.bit RETRY_STAT_ATTEMPT

/-- The safe state or a slot hold keeps the drivers off. -/
def Room.driversOff (r : Room) : Bool := r.outOff && !r.attempting

/-- The reference moves by `num` µV in `den` µs from now on. -/
def Room.setRate (num den : Nat) (r : Room) : Room := r.onConv fun c => { c with rate := num, rateDen := max den 1, rateRem := 0 }

/-- The reference moves at SLEW (R240). -/
def Room.slewRate (r : Room) : Room := r.setRate (1000 * r.fld CON_CFG_SLEW) 1

/-- Nearest integer of a quotient, halves upward. -/
def roundDiv (a : Int) (b : Nat) : Int := (2 * a + b).fdiv (2 * b)

/-- VIN as the loop takes it, in ADC codes: within 20.0 to 60.0 V (R275). -/
def vinClamp (code : Nat) : Nat := min (max code 1000) 3000

/-- The limit ymax in Q2.22 (R278). -/
def Room.ymax (r : Room) : Int :=
  let per := r.fld PWM_TIMING_PER
  let vin := vinClamp (r.fld ADC_VNODE_VIN)
  min (roundDiv (((per - r.fld PWM_LIMIT_MIN_OFF) * vin * 4194304 : Nat) : Int) (2880 * per)) 8388607

/-- The high interval of an output y with the member's trim, in sixteenths of a clk_pwm cycle (R278, R286). -/
def Room.highOf (r : Room) (y : Int) : Nat :=
  let per := r.fld PWM_TIMING_PER
  let vin := vinClamp (r.fld ADC_VNODE_VIN)
  (roundDiv (y * 2880 * per * 16 + r.conv.trim * per * 16 * vin) (4194304 * vin)).toNat

/-- The measured voltage from which a start or discharge command takes its reference: VBUS with the switch on, VNODE with
it off (R281). -/
def Room.biasMv (r : Room) : Nat := if r.bit SW_STAT_CMD then r.cc.vbus else r.vnode

/-- Pn_PWM at mid-rail (R271). -/
def Room.midRail (r : Room) : Room := (r.put PWM_STAT_LEVEL 2).off PWM_STAT_HIGH_T

/-- The histories of a start (R281): y at VNODE, e at 0, ycl at ymax. Until the first computed one, the high interval is
that of the pre-biased y (log 142). -/
def Room.preBias (r : Room) : Room :=
  let y := q22OfMv r.vnode
  let ym := r.ymax
  let h := r.highOf y
  r.onConv fun c => { c with y := [y, y, y], e := [0, 0, 0], ycl := ym, newHigh := [], high := h }

/-- A start command: pre-biased reference and histories, SOFT_START at 5,000 mV ÷ SS_T (R277, R281). -/
def Room.loopStart (e : Env) (r : Room) : Room :=
  let r := (r.setRef (1000 * r.biasMv)).setLoop lSoftStart
  let r := r.preBias.setRate 5000 (r.fld LOOP_CFG_SS_T)
  (r.onConv fun c => { c with openAtOff := false, frsTurn := false }).refreshRamp e 5000

/-- A takeover start of a Fast Role Swap: the reference at 5,000 mV at once, REGULATE (R256, R281). -/
def Room.frsStart (e : Env) (r : Room) : Room :=
  let r := (((r.setRef 5000000).setLoop lRegulate).put VSET_MV 5000).preBias.slewRate
  (r.onConv fun c => { c with dirDue := none, frsTurn := false, draw := 0 }).refreshRamp e 5000

/-- A discharge command: SOFT_STOP at `num` µV in `den` µs, capped at SLEW (R282). From OFF the reference starts at the
measured voltage, as a start command's does (log 143). REVERSE and SHADOW have no such exit (R277). -/
def Room.discharge (e : Env) (r : Room) (num den : Nat) (openAtOff : Bool) : Room :=
  if r.loop = lReverse || r.loop = lShadow then r else
  let r := if r.loop = lOff then r.setRef (1000 * r.biasMv) else r
  let r := r.setLoop lSoftStop
  let r := if 1000 * r.fld CON_CFG_SLEW * den < num then r.slewRate else r.setRate num den
  (r.onConv fun c => { c with openAtOff := openAtOff, dirDue := none, frsTurn := false }).refreshRamp e (r.fld VSET_MV)

/-- The loop stops: OFF. Pn_PWM goes to mid-rail at the next period start, a change of level (R269, R271). -/
def Room.loopOff (r : Room) : Room :=
  (r.setLoop lOff).onConv fun c => { c with dirDue := none, frsTurn := false, newHigh := [], draw := 0 }

/-- The level that Pn_PWM is held at now (R271, R291): 2 mid-rail, 0 low. A follower's generator follows the lead's loop and
safe state (R54, R61). -/
def Room.heldLevel (e : Env) (r : Room) : Option Nat :=
  let l := e.ruler r
  if l.driversOff || l.loop = lOff || l.loop = lShadow then some 2
  else if r.conv.holds.any (·.mid) then some 2
  else if !r.conv.holds.isEmpty then some 0
  else none

/-- A held level acts at once (R269). -/
def Room.showLevel (e : Env) (r : Room) : Room :=
  match r.heldLevel e with
  | some l => (r.put PWM_STAT_LEVEL l).off PWM_STAT_HIGH_T
  | none => r

/-- The applied mode sheds the port's class (R260), so that no ask of it is granted (log 34). -/
def Room.modeSheds (r : Room) (cls : Nat) : Bool := cls = 2 && (r.fld STATUS_MODE = 1 || r.fld STATUS_MODE = 2)

/-- Vds in mV from SW_STAT. -/
def Room.vds (r : Room) : Int :=
  let v := r.fld SW_STAT_VDS
  10 * (if v < 32768 then (v : Int) else (v : Int) - 65536)

/-- Close the port switch: cold at |Vds| ≤ 1.0 V, else a foldback close (R298, R299). A cold close reads FULL at once:
see log 9. -/
def Room.closeSwitch (e : Env) (r : Room) : Room :=
  if r.bit SW_STAT_CMD then r
  else
    let r := (r.on SW_STAT_CMD).on STATUS_SWITCH_ON
    if r.vds.natAbs ≤ 1000 then ((r.put SW_STAT_CLOSE 1).on SW_STAT_FULL).onConv fun c =>
      { c with foldAt := none, gate := .add }
    else (((r.put SW_STAT_CLOSE 2).off SW_STAT_FULL).on CONV_EVENT_FOLDBACK).onConv fun c =>
      { c with foldAt := some e.now, gate := .keep }

/-- Pull Pn_GATE to Pn_GSRC (R297). -/
def Room.openSwitch (r : Room) : Room :=
  (((r.off SW_STAT_CMD).off SW_STAT_FULL).off STATUS_SWITCH_ON).onConv fun c =>
    { c with foldAt := none, gate := .remove }

/-- The port is sourcing VBUS: a forward loop state with the switch on. -/
def Room.sourcing (r : Room) : Bool :=
  r.bit SW_STAT_CMD && (r.loop = lSoftStop || r.loop = lSoftStart || r.loop = lRegulate)

/-! ### Clearing the engine and the contract -/

/-- End a committed message with a final state and TX_DONE (R192). -/
def Room.txEnd (r : Room) (code : Nat) : Room :=
  ((r.put TX_STAT_STATE code).on PD_EVENT_TX_DONE).onPd fun d => { d with msg := none }

/-- TX_STAT.STATE holds a message that has not ended (R190, BUSY). -/
def Room.txBusy (r : Room) : Bool := within 1 (r.fld TX_STAT_STATE) 6
where
  within (lo v hi : Nat) : Bool := lo ≤ v && v ≤ hi

/-- End a committed message, if one is held, and a host VDM. -/
def Room.txAbort (r : Room) (code : Nat) : Room :=
  let r := if r.txBusy then r.txEnd code else r
  if r.pd.hvdm.isSome then
    ((r.put PD_STAT_HVDM_STATE 3).on PD_EVENT_HVDM_DONE).onPd fun d => { d with hvdm := none } else r

/-- The empty RX window and inbox window. -/
def Room.clearRx (r : Room) : Room :=
  let r := (r.off PD_STAT_RXQ_COUNT).off PD_STAT_VDMIN_COUNT
  let regs := (List.range 8).foldl (fun m i => (m.set (0x120 + 4 * i) 0).set (0xC0 + 4 * i) 0) r.regs
  { r with regs := regs }

/-- What a Hard Reset clears in the engine (R211). -/
def Room.pdReset (r : Room) : Room :=
  ((((r.clearRx.off PD_STAT_REV_SOP).off PD_STAT_REV_SOPP).off PD_STAT_REV_SOPPP).off PD_STAT_EPR_ACTIVE).off
    PD_STAT_BIST |>.onPd fun d =>
      { d with rxId := [none, none, none], txId := [0, 0, 0], rxq := [], inbox := [], chunkRx := none,
               auto := [], air := none, rx := none, gcrc := false, srcCaps := none, eprCaps := none, snkCaps := none,
               srWait := none, kaWait := none, cableWait := none, maxRev := r.fld PD_CFG_MAX_REV, lastMsg := none,
               asked := none, vdmReq := [], bistAt := none, crDue := false }

/-- Rp goes to SinkTxNG (R185). -/
def Room.sinkTxNg (e : Env) (r : Room) : Room :=
  ((r.on PD_STAT_SINKTX).put CC_STAT_RP_ADV 1).onPd fun d => { d with sinkTx := some e.now }

/-- The Rp level of a source: 3.0 A under an explicit contract, else that of the grant (R141, R185) (log 10). -/
def Room.rpLevel (e : Env) (r : Room) : Nat :=
  if r.explicit then 2 else if 15 ≤ r.grant && 3000 ≤ e.port.imax then 2 else 1

/-- Rp leaves SinkTxNG; a message that waits in SINKTX_WAIT or a PENDING host VDM sets it again at once where R184 still
applies, and otherwise proceeds (R185, R208). -/
def Room.sinkTxOk (e : Env) (r : Room) : Room :=
  if r.bit PD_STAT_SINKTX then
    let r := ((r.off PD_STAT_SINKTX).put CC_STAT_RP_ADV (if r.ast = aSrc then r.rpLevel e else r.fld CC_STAT_RP_ADV)).onPd
      fun d => { d with sinkTx := none }
    let r := if r.fld TX_STAT_STATE = 2 && !(r.caApplies && r.ast = aSrc) then r.put TX_STAT_STATE 1 else r
    if (r.fld TX_STAT_STATE = 2 || r.pd.hvdm.isSome) && r.caApplies && r.ast = aSrc then r.sinkTxNg e else r
  else r

/-- What a detach and every entry to ERROR_RECOVERY clear in the engine (R215). -/
def Room.pdClear (e : Env) (r : Room) : Room :=
  let r := (r.txAbort 12).pdReset
  let r := ((((r.off PD_STAT_HR_ACTIVE).off PD_STAT_HR_COUNT).off PD_STAT_CABLE_STATE).off CABLE_IDH_IDH).off
    CABLE_VDO_VDO1
  ((r.off PD_STAT_SINKTX).onPd fun d => { d with sinkTx := none, hrDue := false, asked := none, line := [] }).refreshCable e

/-- Clear the contract registers: contract, staging of swaps and transitions, reservation (R155; log 13). -/
def Room.conClear (e : Env) (r : Room) : Room :=
  let r := (((((((((r.off PD_STAT_EXPLICIT).off CON_STAT_TYPE).off CON_STAT_POS).off CON_STAT_SWAP).off CON_STAT_STEP).off
    CON_STAT_HR_SEQ).off CON_STAT_SETTLED).off CON_STAT_GIVEUP).off CON_STAT_ENFORCED).off CON_STAT_FRS_READY
  let r := (r.endResv).onCon fun c =>
    { c with trans := none, reached := none, inBand := none, giveup := none, swapWait := none, frsOk := false,
             hrSafe0 := none, frsTx := none, vconnSwap := none, capMa := none, negType := 0, negPos := 0, negMv := 0, negMa := 0 }
  (r.onCc fun c => { c with lostOff := false, swapTerm := none }).implicitVi e

/-- EXPLICIT returns to 0 (R231): Rp leaves SinkTxNG, CON_VI shows the implicit contract. -/
def Room.endExplicit (e : Env) (r : Room) : Room :=
  let r := (((((r.off PD_STAT_EXPLICIT).sinkTxOk e).off CON_STAT_POS).off CON_STAT_FRS_READY).off CON_STAT_ENFORCED)
  let r := if r.ast = aSrc && r.grant < 15 && r.fld CC_STAT_RP_ADV = 2 then
      (r.put CC_STAT_RP_ADV 1).onCc fun c => { c with rpLower := some e.now } else r
  r.followRp.implicitVi e

/-! ### Attach state changes -/

/-- The toggle share of the state, in µs (R139). -/
def Room.toggleUs (r : Room) (st : Nat) : Nat :=
  let t := r.fld CC_DRP_TDRP
  let d := r.fld CC_DRP_DUTY
  10 * t * (if st = aUnSrc then d else 100 - d)

/-- Enter an attach state: entry stamp and latched timers (R140), Rp level, the end of VCONN and orientation on every
exit from the attached states (R145, R148, R150), and the terminations. -/
def Room.enterState (e : Env) (r : Room) (st : Nat) : Room :=
  let wasAtt := r.attached
  let isAtt := decide (st = aSrc) || decide (st = aSnk)
  let r := (r.put CC_STAT_ASTATE st).onCc fun c =>
    { c with entry := e.now, tDrpTry := 1000 * r.fld CC_DRP_TDRPTRY, tErr := 1000 * r.fld CC_TIMING_TERR,
             tToggle := r.toggleUs st, asking := false, retry := none, wake := none }
  let r := r.off CC_STAT_BUDGET_WAIT
  let r := if wasAtt && !isAtt then
      (((r.off VCONN_CTRL_EN).off CC_STAT_VCONN_LOCK).off CC_STAT_ORIENT_VALID).onCc fun c => { c with rpLower := none, gaveVconn := false }
    else r
  let r := if rpSide st then (if st = aSrc then r else r.put CC_STAT_RP_ADV 2) else r.off CC_STAT_RP_ADV
  r.vconn e

/-- Where an unattached state leads at once: Rp or Rd already seen on a line (R137). -/
def Room.levelExit (r : Room) : Option Nat :=
  if r.outOff then none
  else if r.ast = aUnSnk && (r.kind1 = 3 || r.kind2 = 3) then some aWaitSnk
  else if r.ast = aUnSrc && (r.kind1 = 2 || r.kind2 = 2) then some aWaitSrc
  else none

/-- Enter an attach state, and take the exit of an unattached state whose condition holds already (R137). -/
def Room.enterA (e : Env) (r : Room) (st : Nat) : Room :=
  let r := r.enterState e st
  match r.levelExit with
  | some x => r.enterState e x
  | none => r

/-- The start state of the port's role (R138). -/
def startState (e : Env) : Nat := if e.port.role = 0 then aUnSrc else aUnSnk

/-- The start state of a port, or of one whose CC attach woke the chip: the unattached state that matches its sampling
termination (R138, R89). -/
def Room.startFor (e : Env) (r : Room) : Nat :=
  if r.cc.wake.isSome then (if e.port.role = 1 then aUnSnk else aUnSrc) else startState e

/-- Restart in the start state (R138). A port whose lines woke the chip shows at once what its sampling window showed, and
its debounce has run from the moment of wake (R89). -/
def Room.restart (e : Env) (r : Room) : Room :=
  match r.cc.wake with
  | none => r.enterA e (r.startFor e)
  | some (t, l1, l2) =>
    let r := r.enterState e (r.startFor e)
    let d := { r.newDebounce e with start := t }
    let r := if r.cc.term1 = .rp || r.cc.term1 = .rd then (r.put CC_LEVEL_CC1_LVL l1).onCc fun c => { c with db1 := d } else r
    let r := if r.cc.term2 = .rp || r.cc.term2 = .rd then (r.put CC_LEVEL_CC2_LVL l2).onCc fun c => { c with db2 := d } else r
    let r := r.refreshPartner
    match r.levelExit with
    | some x => r.enterState e x
    | none => r

/-- Where a source-side attach state falls back to: UNATTACHED_SRC for a source, UNATTACHED_SNK for dual-role (R137). -/
def unSrcOf (e : Env) : Nat := if e.port.role = 0 then aUnSrc else aUnSnk

/-- Start removing VBUS on leaving ATTACHED_SRC, and the whole grant with it (R152, R163, R679): a sourcing port ramps
down and keeps its grant until the removal ends, any other gives its grant back and opens its switch at once. -/
def Room.startRemoval (e : Env) (r : Room) : Room :=
  if r.sourcing then
    (r.discharge e r.conv.refUv (1000 * r.fld LOOP_CFG_DISCH_T) true).onCc fun c => { c with removing := true }
  else ((r.setGrant 0).openSwitch).loopOff

/-- Clear COUNT and end a retry (R304). -/
def Room.retryClear (r : Room) : Room :=
  ((((r.off RETRY_STAT_COUNT).off RETRY_STAT_WAIT).off RETRY_STAT_ATTEMPT).off RETRY_STAT_EXHAUSTED).off RETRY_STAT_NEXT
    |>.onConv fun c => { c with retryAt := none, retryK := 0, attAt := none, thermal := false, thermTried := false }

/-- A detach (R153 to R155, R679): DETACH set, engine and contract cleared, VBUS and VCONN removed, the unattached state
of the role entered. -/
def Room.detach (e : Env) (r : Room) : Room :=
  let next := if r.ast = aSrc then unSrcOf e else aUnSnk
  let r := ((r.on CC_EVENT_DETACH).on EVENT_DETACH).pdClear e
  let r := r.startRemoval e
  let r := r.enterA e next
  (r.conClear e).off RETRY_STAT_COUNT

/-- A line decodes open: not an isolated one, nor one without a termination (CC_LEVEL). -/
def lineOpen (t : CcTerm) (code : Nat) : Bool :=
  match t with
  | .rp => code = 2
  | .rd => code = 0
  | .none => false
  | .vconn => false
  | .low => false

/-- The BMC line decodes open, stable for tPDDebounce, outside the suspension of R156 (R153, R154). -/
def Room.bmcOpen (e : Env) (r : Room) : Bool :=
  let cc2 := r.bit CC_STAT_ORIENT
  let db := if cc2 then r.cc.db2 else r.cc.db1
  (if cc2 then lineOpen r.cc.term2 (r.fld CC_LEVEL_CC2_LVL) else lineOpen r.cc.term1 (r.fld CC_LEVEL_CC1_LVL)) &&
    old e.now db.start db.tpd && (match r.cc.swapTerm with | some t => old e.now t db.tpd | none => true)

/-- VBUS_LOST holds and its criterion is not suspended (R136, R154). -/
def Room.vbusLost (e : Env) (r : Room) : Bool := r.ast = aSnk && !r.cc.lostOff && due e.now r.cc.vbusLow 1000

/-- The detach criterion holds (R153, R154). -/
def Room.detachHolds (e : Env) (r : Room) : Bool := r.attached && (r.bmcOpen e || r.vbusLost e)

/-- Move to ERROR_RECOVERY (R163, R212): as a CC_CMD.ERROR_RECOVERY write. A running swap fails (R252); a detach that comes
with it sets DETACH (R167). -/
def Room.errorRecovery (e : Env) (r : Room) : Room :=
  if r.ast = aDisabled || r.outOff then r
  else
    let r := if r.detachHolds e then (r.on CC_EVENT_DETACH).on EVENT_DETACH else r
    let r := if r.fld CON_STAT_SWAP != 0 then r.on CON_EVENT_SWAP_FAIL else r
    let r := r.pdClear e
    let r := r.startRemoval e
    (r.enterA e aErrRec).conClear e

/-- A shed (R242): VBUS and VCONN removed, engine and contract cleared without DETACH, ATTACHWAIT_SRC with
BUDGET_WAIT. -/
def Room.shed (e : Env) (r : Room) : Room :=
  let r := r.pdClear e
  let r := r.startRemoval e
  let r := (r.enterA e aWaitSrc).conClear e
  ((r.on CC_STAT_BUDGET_WAIT).on CC_EVENT_BUDGET_WAIT).onCc fun c => { c with retry := some e.now }

/-- What a source-role port does when its grant has fallen (R143, R242, R243, R245). -/
def Room.grantFell (e : Env) (r : Room) : Room :=
  if r.ast = aSrc && !r.outOff then
    if r.grant < 8 then r.shed e
    else if r.con.trans.isSome then r
    else if r.explicit then (if r.overGrant then (r.startGiveup e).on CON_EVENT_GIVEUP else r)
    else if r.grant < 15 && r.fld CC_STAT_RP_ADV = 2 then
      (((r.put CC_STAT_RP_ADV 1).onCc fun c => { c with rpLower := some e.now }).implicitVi e)
    else r
  else r

/-! ### The port safe state -/

/-- The hardware side of the port safe state (R37): PWM at mid-rail, switch off, VCONN off, the safe-state
termination. -/
def Room.outputsOff (e : Env) (r : Room) : Room :=
  (((r.loopOff.midRail).openSwitch).vconn e).refreshIlim e

/-- Retries after an entry to the safe state for SC, EFUSE or UV (R302, R304). -/
def Room.armRetry (e : Env) (r : Room) : Room :=
  if e.port.cls != 0 && r.fld RETRY_CFG_MAX ≤ r.fld RETRY_STAT_COUNT then
    ((r.on RETRY_STAT_EXHAUSTED).on CONV_EVENT_EXHAUSTED).off RETRY_STAT_WAIT
  else (r.on RETRY_STAT_WAIT).onConv fun c => { c with retryAt := some e.now, retryK := 1, attAt := none }

/-- Set a FAULT bit, and EVENT.FAULT with it. FAULT_ANY follows FAULT on every read. -/
def Room.fault (r : Room) (f : Field) : Room := (r.on f).on EVENT_FAULT

/-- An attempt under way fails (R303, R304): ATTEMPT_FAIL, COUNT up by one to at most 15, and the next attempt of an
EGRESS port, or of another with attempts left. -/
def Room.attemptFail (e : Env) (r : Room) : Room :=
  let n := min (r.fld RETRY_STAT_COUNT + 1) 15
  let r := ((r.on CONV_EVENT_ATTEMPT_FAIL).off RETRY_STAT_ATTEMPT).put RETRY_STAT_COUNT n
  let r := r.onConv fun c => { c with attAt := none }
  if e.port.cls != 0 && r.fld RETRY_CFG_MAX ≤ n then
    ((r.on RETRY_STAT_EXHAUSTED).on CONV_EVENT_EXHAUSTED).off RETRY_STAT_WAIT
  else r.on RETRY_STAT_WAIT

/-- Enter the port safe state for a fault (R37, R38). `retry` for the causes of R302. An attempt that runs fails on a
retry cause (log 15). -/
def Room.enterSafe (e : Env) (r : Room) (f : Field) (retry : Bool) : Room :=
  let was := r.inSafe
  let r := r.fault f
  let r := if was then r else (r.on EVENT_SAFE_ENTER).onCc fun c => { c with rpSafe := r.fld CC_STAT_RP_ADV }
  let r := { r with safe := true }
  let r := r.onConv fun c => { c with outAt := none }
  let r := if retry then (if r.fld RETRY_STAT_ATTEMPT = 1 then r.attemptFail e
      else if r.conv.retryAt.isSome then r else r.armRetry e)
    else ((r.off RETRY_STAT_WAIT).off RETRY_STAT_ATTEMPT).onConv fun c => { c with retryAt := none, attAt := none }
  r.outputsOff e

/-- The exit of R43: the fault-induced safe state ends, contract registers are reset, attach restarts from the start state,
the grant goes back, COUNT is 0. Where CTRL.FORCE_SAFE still holds the port, it stays in the port safe state. -/
def Room.leaveSafe (e : Env) (r : Room) : Room :=
  let r := { r with safe := false }
  let r := r.retryClear
  let r := if r.inSafe then r else (r.on EVENT_SAFE_EXIT).onConv fun c => { c with outAt := some e.now }
  let r := (r.pdClear e).setGrant 0
  let r := if r.slotHold then r.enterA e aDisabled
    else if r.bit CTRL_ENABLE then r.enterA e (startState e) else r.enterA e aDisabled
  (r.conClear e).off CON_STAT_RAMPING

/-- The detach condition is met in the port safe state (R162): DETACH is set; a retry that waits or runs ends, and the
port leaves the safe state (R304). -/
def Room.safeDetach (e : Env) (r : Room) : Room :=
  let r := (r.on CC_EVENT_DETACH).on EVENT_DETACH
  if r.conv.retryAt.isSome && !r.bit CTRL_FORCE_SAFE then r.leaveSafe e else r

/-- Slot hold begins (R326): outputs as in the port safe state, attach state DISABLED with open lines, no FAULT bit,
DETACH if the port was attached. A port already in the port safe state stays as it is. -/
def Room.enterSlotHold (e : Env) (r : Room) : Room :=
  if r.inSafe || r.slotHold then r
  else
    let r := if r.attached then (r.on CC_EVENT_DETACH).on EVENT_DETACH else r
    let r := r.pdClear e
    let r := { r with slotHold := true }
    let r := (r.setGrant 0).enterA e aDisabled
    (r.conClear e).outputsOff e

/-- The slot has entered ON: a port in slot hold with ENABLE = 1 restarts in its start state (R326). -/
def Room.leaveSlotHold (e : Env) (r : Room) : Room :=
  if r.slotHold then
    let r := { r with slotHold := false }
    if r.bit CTRL_ENABLE then r.restart e else r.terms e
  else r

/-! ### Hard Reset -/

/-- A cause for a Hard Reset arises (R210, R212): with HR_COUNT at 2 the port goes to ERROR_RECOVERY instead. -/
def Room.hardResetCause (e : Env) (r : Room) : Room :=
  if r.fld PD_STAT_HR_COUNT = 2 then (r.errorRecovery e).on PD_EVENT_ERR_RECOVERY
  else r.onPd fun d => { d with hrDue := true }

/-- The termination of a power role swap or Fast Role Swap has changed (R249). -/
def Room.swapTermDone (r : Room) : Bool := within 1 (r.fld CON_STAT_SWAP) 4 && r.cc.swapTerm.isSome
where
  within (lo v hi : Nat) : Bool := lo ≤ v && v ≤ hi

/-- Step 1 of the Hard Reset power sequence (R249), with what R211 clears. -/
def Room.startHr (e : Env) (r : Room) : Room :=
  let wasSwap := r.fld CON_STAT_SWAP != 0
  let termDone := r.swapTermDone
  let r := ((r.txAbort 10).pdReset).on PD_STAT_HR_ACTIVE
  let r := if wasSwap then r.on CON_EVENT_SWAP_FAIL else r
  let r := if termDone then (r.off CON_STAT_SWAP).errorRecovery e else
    let r := ((r.off CON_STAT_SWAP).endResv).onCon fun c =>
      { c with trans := none, reached := none, giveup := none, swapWait := none, frsOk := false, frsTx := none,
               hrAt := e.now, hrSafe0 := none, vconnSwap := none }
    let r := ((((r.off CON_STAT_GIVEUP).off CON_STAT_ENFORCED).on CON_STAT_HR_SEQ).toStep e 1).endExplicit e
    let r := if r.ast = aSrc then (if r.grant > 15 then (r.setGrant 15).refreshIlim e else r)
      else (((r.setGrant 0).onCc fun c => { c with lostOff := true }).openSwitch).loopOff
    r.refreshVlim e
  r.onPd fun d => { d with hrDue := false }

/-- The VBUS_LOST criterion counts again after a suspension, from now on where VBUS is low already (R154). -/
def Room.lostResume (e : Env) (r : Room) : Room :=
  r.onCc fun c => { c with lostOff := false, vbusLow := if c.vbus < 3670 then some e.now else none }

/-- Half the settle band around a target in mV, by contract type (R228). -/
def settleBand (ty target : Nat) : Nat := if ty = 2 then 20 else target * 3 / 100

/-- The type whose settle band applies now: that of the contract in transition, the present one, or 0 in a swap or a
Hard Reset sequence. -/
def Room.bandType (r : Room) : Nat :=
  if r.con.trans.isSome then r.con.negType
  else if r.fld CON_STAT_SWAP != 0 || r.bit CON_STAT_HR_SEQ then 0
  else r.fld CON_STAT_TYPE

/-- The middle of the settle band: VSET, or 5,000 mV in a swap in which this port becomes source (R236). -/
def Room.bandTarget (r : Room) : Nat :=
  if r.fld CON_STAT_SWAP = 2 || r.fld CON_STAT_SWAP = 4 then 5000 else r.fld VSET_MV

/-- VBUS lies in the settle band (R236). -/
def Room.vbusInBand (r : Room) (mv : Nat) : Bool :=
  let t := r.bandTarget
  let b := settleBand r.bandType t
  t ≤ mv + b && mv ≤ t + b

/-- VSET takes a value; the limits that follow the present VSET follow it (R246, R260). -/
def Room.setVset (e : Env) (mv : Nat) (r : Room) : Room := (r.put VSET_MV mv).refreshIlim e

/-- VSET takes a target and the reference moves toward it at SLEW (R240); a PS_RDY that waits settles anew. -/
def Room.rampTo (e : Env) (mv : Nat) (r : Room) : Room :=
  let r := ((r.setVset e mv).slewRate).refreshRamp e mv
  let r := r.off CON_STAT_SETTLED
  let keep := r.vbusInBand r.cc.vbus
  let r := r.onCon fun c => { c with reached := none, inBand := if keep then c.inBand else none }
  if r.con.trans.isSome && 3 ≤ r.fld CON_STAT_STEP then r.toStep e 2 else r

/-- Without a contract, transition, Hard Reset sequence or swap VSET of a source holds 5,000 mV (R239). -/
def Room.vsetRest (e : Env) (r : Room) : Room :=
  if r.ast = aSrc && !r.explicit && !r.inTrans && !r.bit CON_STAT_HR_SEQ && r.fld VSET_MV != 5000 then
    (if r.loop = lRegulate then r.rampTo e 5000 else r.setVset e 5000)
  else r

/-- In ATTACHED_SNK the port switch is closed while VBUS_PRESENT holds (R247), outside swaps, which keep it closed (R251),
and the Hard Reset power sequence, which opens it (R300). -/
def Room.sinkSwitch (e : Env) (r : Room) : Room :=
  if r.ast = aSnk && !r.outOff && r.fld CON_STAT_SWAP = 0 && !r.bit CON_STAT_HR_SEQ then
    (if r.bit CC_STAT_VBUS_PRESENT then
      (if r.bit SW_STAT_CMD then r else (r.closeSwitch e).onConv fun c => { c with dirDue := some true })
     else if r.bit SW_STAT_CMD then (r.openSwitch).loopOff else r)
  else r

/-- End of the Hard Reset power sequence (R249, step 5): VBUS_LOST counts afresh (R154), and a sink closes its switch again
while VBUS_PRESENT holds (R247). -/
def Room.endHr (e : Env) (r : Room) : Room :=
  (((((r.off PD_STAT_HR_ACTIVE).off CON_STAT_HR_SEQ).off CON_STAT_STEP).lostResume e).vsetRest e).sinkSwitch e

/-- A swap ends in success (R251, R255, R256, R258): SWAP_DONE. -/
def Room.swapEnd (e : Env) (r : Room) : Room :=
  let r := (((r.off CON_STAT_SWAP).off CON_STAT_STEP).on CON_EVENT_SWAP_DONE).onCon fun c =>
    { c with swapWait := none, frsOk := false, frsTx := none, vconnSwap := none }
  (r.lostResume e).vsetRest e

/-- A power role swap or Fast Role Swap ends in success: EXPLICIT 0 (R231). -/
def Room.swapDone (e : Env) (r : Room) : Room := ((r.swapEnd e).endExplicit e).vsetRest e

/-! ### Ports, slots and Wings together -/

/-- The generators of a gang follow the safe state of its lead at once (R54, R61, R269). -/
def State.gangLevel (s : State) (p : Fin 48) : State :=
  ((s.pl.members p.val).drop 1).foldl (fun s m => s.onRoomE (Fin.ofNat 48 m) Room.showLevel) s

/-- A port's fault reaches its lead in a gang (R56). -/
def State.enterSafe (s : State) (p : Fin 48) (f : Field) (retry : Bool) : State :=
  (s.onRoomE (s.lead p) fun e r => r.enterSafe e f retry).gangLevel p

/-- A safe state imposed by Landing, Wing or Hall (FAULT.ESCALATED). Absent ports and followers have none. -/
def State.escalate (s : State) (p : Fin 48) : State :=
  if s.pl.whole p.val then s.enterSafe p FAULT_ESCALATED false else s

/-- Escalate every port of a list. -/
def State.escalateAll (s : State) (ps : List (Fin 48)) : State := ps.foldl State.escalate s

/-- The slot's ports enter slot hold. -/
def State.holdSlot (s : State) (b : Fin 6) : State :=
  (portsOf b).foldl (fun s p => if s.pl.whole p.val then (s.onRoomE p Room.enterSlotHold).gangLevel p else s) s

/-- Slot state codes of R316. -/
abbrev hOff : Nat := 0
abbrev hUnseated : Nat := 1
abbrev hSeating : Nat := 2
abbrev hInrush : Nat := 3
abbrev hGateUp : Nat := 4
abbrev hOn : Nat := 5
abbrev hRetry : Nat := 6
abbrev hLatched : Nat := 7

def Landing.st (l : Landing) : Nat := l.fld HS_STAT_STATE
/-- The gate is commanded on in INRUSH, GATE_UP and ON (R316). -/
def Landing.powered (l : Landing) : Bool := l.st = hInrush || l.st = hGateUp || l.st = hOn

/-- Enter a slot state (R316, R323, R325): gate mode, Sn_PG, Sn_FLT_N, LIMIT, entry stamp, SEATED and UNSEATED; COUNT returns to 0 on
entry to UNSEATED (R331). The series of attempts that a first entry to RETRY_WAIT begins goes on through failed
attempts (log 28). A shed for an internal cause that the slot cuts short leaves it held OFF (R41; log 29). -/
def Landing.enter (now : Nat) (l : Landing) (st : Nat) (fast : Bool) : Landing :=
  let wasOn := l.bit HS_STAT_PG
  let was := l.st
  let pow := st = hInrush || st = hGateUp || st = hOn
  let l := (l.put HS_STAT_STATE st).putB HS_STAT_GATE_CMD pow
  let l := if pow then l else (l.off HS_STAT_GATE_FULL).off HS_STAT_LIMIT
  let l := l.putB HS_STAT_PG (st = hOn)
  let l := if wasOn && st != hOn then l.on HS_EVENT_PG_OFF else if !wasOn && st = hOn then l.on HS_EVENT_PG_ON else l
  let l := if st = hUnseated && was != hUnseated then (l.off HS_STAT_COUNT).on HS_EVENT_UNSEATED else l
  let l := if st = hSeating && was = hUnseated then l.on HS_EVENT_SEATED else l
  let ends := st = hUnseated || st = hOff || st = hLatched
  let series := if st = hRetry then (match l.retryAt with | some t => some t | none => some now)
    else if ends then none else l.retryAt
  let k := match series with
    | some t => if st = hRetry then (now - t) / (100000 * max (l.fld HS_RETRY_PER) 1) + 1 else l.retryK
    | none => 0
  { l with gate := if st = hInrush then .servo else if pow then .full else if fast then .fast else .off
           fltN := decide (st = hRetry || st = hLatched)
           entry := now, goodAt := none, pgLow := none
           seatMet := if st = hSeating then l.seatMet else false
           offAt := if pow then none else (match l.offAt with | some t => some t | none => some now)
           hiAt := if pow then none else l.hiAt
           retryAt := series, retryK := k
           attempt := if ends then false else l.attempt
           shed := if st = hOn then l.shed else none
           down := l.down || (st != hOn && (match l.shed with | some (_, _, retry) => !retry | none => false)) }

/-- Sn_GATE and Sn_FLT_N are high impedance, as in a shadow (R334). -/
def Landing.release (l : Landing) : Landing := { l with gate := .undriven, fltN := false }

/-- The slot leaves its state for another; leaving ON puts its ports in slot hold (R326). -/
def State.slotTo (s : State) (b : Fin 6) (st : Nat) (fast : Bool) : State :=
  let wasOn := (s.land b).st = hOn
  let s := s.onLand b fun l => if s.keeps (wingOfLand b) then l.enter s.now st fast else (l.enter s.now st fast).release
  if wasOn && st != hOn then s.holdSlot b else s

/-- A slot fault sets its HS_FAULT bit and FAULT in HS_EVENT (R329). -/
def Landing.slotFault (l : Landing) (f : Field) : Landing := (l.on f).on HS_EVENT_FAULT

/-- Where a retried slot fault leads (R330, R331): RETRY_WAIT, or LATCHED with EXHAUSTED. A running attempt fails. -/
def State.slotRetry (s : State) (b : Fin 6) (fast : Bool) : State :=
  let l := s.land b
  let cls := s.pl.slotClass b.val
  let n := if l.attempt then min (l.fld HS_STAT_COUNT + 1) 15 else l.fld HS_STAT_COUNT
  let s := s.onLand b fun l =>
    let l := l.put HS_STAT_COUNT n
    if l.attempt then { (l.on HS_EVENT_ATTEMPT_FAIL) with attempt := false } else l
  if cls != 0 && l.fld HS_RETRY_MAX ≤ n then
    (s.slotTo b hLatched fast).onLand b fun l => l.on HS_EVENT_EXHAUSTED
  else s.slotTo b hRetry fast

/-- The slot entry acts on its balls: present, boot complete, and this chip is keeper (R317, R334). -/
def State.slotLive (s : State) (b : Fin 6) : Bool :=
  s.booted && (s.pl.slot b.val).present && s.keeps (wingOfLand b)

/-- The start rule (R317), and the Wing's safe state or an internal Landing fault does not hold the slot (R588, R42). -/
def State.slotMay (s : State) (b : Fin 6) : Bool :=
  s.slotLive b && (s.land b).bit HS_CTRL_EN && !(s.wing (wingOfLand b)).safe && !(s.land b).down

/-- Both seating balls read seated (R319). -/
def Landing.seatedBoth (l : Landing) : Bool := l.bit HS_STAT_SEAT1 && l.bit HS_STAT_SEAT2

/-- One exit of the table "Slot states" that waits for no timer and no measurement (R316). -/
def State.slotExit (s : State) (b : Fin 6) : State :=
  let l := s.land b
  if !s.slotMay b then (if l.st = hOff then s else s.slotTo b hOff false)
  else if l.st = hOff then s.slotTo b hUnseated false
  else if l.st = hUnseated && l.seatedBoth then
    (s.slotTo b hSeating false).onLand b fun l => { l with seated := some s.now }
  else if (l.st = hSeating || l.st = hRetry) && !l.seatedBoth then s.slotTo b hUnseated false
  else s

/-- A slot takes the exits that hold now; at most two follow each other. -/
def State.slotSettle (s : State) (b : Fin 6) : State :=
  if s.slotLive b then (s.slotExit b).slotExit b else s

/-- The ports of a class in a slot enter the port safe state; those in slot hold stay there (R41, R335). -/
def State.shedClass (s : State) (b : Fin 6) (c : Nat) : State :=
  s.escalateAll ((portsOf b).filter fun p => (s.pl.port p.val).cls = c && !(s.room p).slotHold)

/-- Start the shed of R41 in a slot: the COMFORT ports enter the port safe state at once, the rest follows by
LANDING_SHED_STEP. -/
def State.startShed (s : State) (b : Fin 6) (retry : Bool) : State :=
  if (s.land b).shed.isSome then s
  else
    let s := s.shedClass b 2
    s.onLand b fun l => { l with shed := some (1, s.now, retry) }

/-- A Wing's slots go off (R39, R588). -/
def State.openWingSlots (s : State) (w : Fin 2) : State :=
  (wingLands w).foldl (fun s b => s.slotTo b hOff false) s

/-- The Wing's safe state: its 24 ports in port safe state, its slots OFF (R588). -/
def State.wingSafe (s : State) (w : Fin 2) : State :=
  ((s.escalateAll (wingPorts w)).openWingSlots w).onWing w fun x => { x with safe := true, withdrawAt := none }

/-! ### Claims and escalation in a pair -/

/-- The claim code of a set of Wings (R481). -/
def claimCode (c : Nat) : Nat := [3, 1, 2, 0].getD (c % 4) 3

/-- Width of the pulse that carries a claim code, in µs (table "Claim codes"). -/
def codeWidth (code : Nat) : Nat := 2 + 4 * code

/-- Take up a set of claims: KEY_OUT, the pulse with their code, the own claims (R481, R483). -/
def State.setClaims (s : State) (c : Nat) : State :=
  let s := ((s.put KEY_STAT_OWN_CODE (claimCode c)).putB KEY_STAT_KEY_OUT (c != 0)).put PAIR_STAT_HELD c
  { s with pair := { s.pair with claims := c, pulse := codeWidth (claimCode c) } }

/-- HALL_KEEPER of PAIR_STAT (R485); a chip that is no Hall keeper does not drive CHG_PWM (R380). -/
def State.refreshKeeper (s : State) : State :=
  let s := s.putB PAIR_STAT_HALL_KEEPER (s.pairMode && s.hallKeeper)
  if s.hallKeeper then s else { s with pantry := { s.pantry with pwm := 3, ramp := 0 } }

/-- The engine of a chip that has lost the port transmits nothing more: a message in hand ends as FAILED, and a received one
that it did not acknowledge is dropped (R216, R217; log 139). -/
def Room.pdSilent (r : Room) : Room :=
  (r.txAbort 8).onPd fun d => { d with air := none, rx := none, gcrc := false, auto := [], chunkRx := none, bistAt := none
                                       crDue := false, hrDue := false, cableWait := none, srWait := none, kaWait := none }

/-- A port that this chip no longer drives becomes a shadow's: no transmission, no VCONN, no termination, loop in SHADOW; a
removal of VBUS or an attach ask is the new keeper's (R165, R287, R490, R505). -/
def Room.toShadow (e : Env) (r : Room) : Room :=
  (((r.pdSilent.setLoop lShadow).off STATUS_KEEPER).onCc fun c =>
    { c with asking := false, retry := none, removing := false, rpLower := none }).terms e

/-- Step 5 of a takeover (R506): once every port of the Wings has started a period, TAKEOVER_LOG and TAKEOVER_TB are
written. -/
def State.logTakeover (s : State) : State :=
  match s.pair.logAt with
  | none => s
  | some t =>
    if s.pair.logPorts != 0 then s
    else
      let s := (s.put TAKEOVER_LOG_WINGS s.pair.logW).put TAKEOVER_LOG_PATH s.pair.path
      let s := (s.put TAKEOVER_LOG_DURATION (min (s.now - t) 65535)).put TAKEOVER_TB_TB s.pair.logTb
      { s with pair := { s.pair with logAt := none } }

/-- A port has started a switching period after a takeover (R506, step 5). -/
def State.tookPeriod (s : State) (p : Fin 48) : State :=
  if s.pair.logPorts.testBit p.val then
    { s with pair := { s.pair with logPorts := s.pair.logPorts - 2 ^ p.val } }.logTakeover
  else s

/-- The slot balls of a Wing that this chip no longer drives are high impedance (R334). -/
def State.releaseLands (s : State) (w : Fin 2) : State :=
  (wingLands w).foldl (fun s b => s.onLand b Landing.release) s

/-- The ports of a Wing that this chip no longer drives: STATE SAFE with KEY_LOSS, loops in SHADOW (R490, R287). -/
def State.loseWing (s : State) (w : Fin 2) : State :=
  (wingPorts w).foldl (fun s p =>
    if s.pl.whole p.val then
      (s.enterSafe p FAULT_KEY_LOSS false).onRoomE p Room.toShadow
    else s) (s.releaseLands w)

/-- Withdraw a Wing (R490). -/
def State.withdraw (s : State) (w : Fin 2) : State :=
  if s.pair.claims.testBit w.val then
    let s := s.setClaims (s.pair.claims - 2 ^ w.val)
    let g := s.pair.guardW &&& (3 - 2 ^ w.val)
    let s := { s with pair := { s.pair with guardW := g, guard := if g = 0 then none else s.pair.guard } }
    ((s.on PAIR_EVENT_WITHDRAWN).refreshKeeper).loseWing w
  else s

/-- Drop the Key claim (R486): KEY_OUT low, no heartbeat, no claim (log 111). The code last sent stays in KEY_STAT. -/
def State.dropKey (s : State) : State :=
  let held := s.pair.claims
  let s := ((s.setClaims 0).put KEY_STAT_OWN_CODE (s.fld KEY_STAT_OWN_CODE)).refreshKeeper
  let s := { s with pair := { s.pair with guard := none, guardW := 0, pulse := 0 } }
  let s := if held.testBit 0 then s.loseWing 0 else s
  if held.testBit 1 then s.loseWing 1 else s

/-- A Wing fault (R39, R594): in pair mode the Wing is withdrawn and its safe state follows 5 µs later; in single-chip
mode the safe state is taken at once. -/
def State.wingFault (s : State) (w : Fin 2) : State :=
  if s.pairMode then
    let s := s.withdraw w
    let s := { s with pair := { s.pair with failed := s.pair.failed ||| 2 ^ w.val } }
    s.onWing w fun x => { x with withdrawAt := if x.safe then none else some (x.withdrawAt.getD s.now) }
  else s.wingSafe w

/-- A Landing hands up to its Wing (R41, R589). -/
def State.handUp (s : State) (b : Fin 6) : State :=
  let w := wingOfLand b
  let s := s.onLand b fun l => l.on LAND_FAULT_HANDUP
  let s := s.onWing w fun x => x.put WING_FAULT_LANDING (x.fld WING_FAULT_LANDING ||| 2 ^ (b.val % 3))
  s.wingFault w

end Sys2Proof.Machine
end

