-- ==== Sys2Proof/Machine/PlanImage.lean ====
section
/-! DEFINITION. Machine/PlanImage.lean: the address map, the byte-order and CRC helpers, and the reading and
validation of a Plan body (03_plan_image.md, R98 to R125, R678). -/

namespace Sys2Proof.Machine

/-- The address map of R57 and the Room window of R58; `none` for an unmapped address. -/
def locate (a : Nat) : Option Loc :=
  if a < 0x1000 then some (.hall a)
  else if 0x10000 ≤ a && a < 0x12000 then some (.wing ((a - 0x10000) / 0x1000) (a % 0x1000))
  else if 0x20000 ≤ a && a < 0x26000 then some (.land ((a - 0x20000) / 0x1000) (a % 0x1000))
  else if 0x30000 ≤ a && a < 0x31000 then some (.hall a)
  else if 0x40000 ≤ a && a < 0x41000 then some (.hall a)
  else if 0x50000 ≤ a && a < 0x51000 then some (.hall a)
  else if 0x60000 ≤ a && a < 0x61000 then some (.hall a)
  else if 0x70000 ≤ a && a < 0x75000 then some (.hall a)
  else if 0x1000000 ≤ a && a < 0x1C00000 then
    let p := (a - 0x1000000) / 0x40000
    let o := (a - 0x1000000) % 0x40000
    if o < 0x400 then some (.roomReg p o)
    else if 0x10000 ≤ o && o < 0x11000 then some (.roomData p (o - 0x10000))
    else if 0x20000 ≤ o && o < 0x22000 then some (.roomCode p (o - 0x20000))
    else none
  else if 0x1FFF0000 ≤ a && a < 0x20000000 then some (.bootRom (a - 0x1FFF0000))
  else if 0x20000000 ≤ a && a < 0x20040000 then some (.hallCode (a - 0x20000000))
  else if 0x21000000 ≤ a && a < 0x21020000 then some (.hallData (a - 0x21000000))
  else none

/-- The register fields that a place of the address map decodes (23_register_index.md, R667). -/
def fieldsOf : Loc → List Field
  | .hall a => hallFields.filter (·.off = a)
  | .wing _ o => wingFields.filter (·.off = o)
  | .land _ o => landFields.filter (·.off = o)
  | .roomReg _ o => roomFields.filter (·.off = o)
  | _ => []

/-- The RW field with given lowest bit and width at a place (R121, R123). -/
def rwField (l : Loc) (lsb width : Nat) : Option Field :=
  (fieldsOf l).find? fun f => f.lsb = lsb && f.width = width && (f.acc = .rw || f.acc = .rwl)

/-- Byte `o` of a byte string; 0 beyond its end. -/
def u8 (b : List Byte) (o : Nat) : Nat := (b.getD o 0).toNat
/-- Little-endian 16-bit field (R98). -/
def u16 (b : List Byte) (o : Nat) : Nat := u8 b o + 256 * u8 b (o + 1)
/-- Little-endian 32-bit field (R98). -/
def u32 (b : List Byte) (o : Nat) : Nat := u16 b o + 65536 * u16 b (o + 2)
/-- A 16-bit field read as signed. -/
def s16 (b : List Byte) (o : Nat) : Int :=
  if u16 b o < 32768 then (u16 b o : Int) else (u16 b o : Int) - 65536
/-- A 32-bit value read as signed. -/
def sgn32 (v : Nat) : Int := if v < 0x80000000 then (v : Int) else (v : Int) - 0x100000000
/-- The four bytes of a word, least significant first. -/
def le32 (v : Nat) : List Byte := (List.range 4).map fun i => BitVec.ofNat 8 (v / 256 ^ i)
/-- Bytes `o` to `o + n - 1`. -/
def bslice (b : List Byte) (o n : Nat) : List Byte := (b.drop o).take n

/-- One bit of the CRC-32C register (polynomial 0x1EDC_6F41, reflected form). PRESUMED: see log 7. -/
def crcBit (c : BitVec 32) : BitVec 32 := if c.getLsbD 0 then (c >>> 1) ^^^ 0x82F63B78#32 else c >>> 1
/-- One byte of the CRC-32C. -/
def crcByte (c : BitVec 32) (x : Byte) : BitVec 32 :=
  crcBit (crcBit (crcBit (crcBit (crcBit (crcBit (crcBit (crcBit (c ^^^ x.setWidth 32))))))))
/-- CRC-32C of a byte string (00_scope.md, R4). -/
def crc32c (b : List Byte) : Nat := (~~~ (b.foldl crcByte 0xFFFFFFFF#32)).toNat

/-- A refusal of a Plan body: reason code, section type and body offset (R125). -/
structure PlanErr where
  code : Nat
  type : Nat
  off : Nat
deriving DecidableEq, Repr

/-- No error when the condition holds. -/
def need (c : Bool) (code type off : Nat) : Option PlanErr := if c then none else some ⟨code, type, off⟩

/-- The first failure of a list of checks (R124: the boot ROM stops at the first failure). -/
def firstErr (l : List (Option PlanErr)) : Option PlanErr := l.findSome? id

/-- A directory entry (R100). -/
structure DirEnt where
  type : Nat
  off : Nat
  size : Nat
deriving DecidableEq, Repr

/-- The directory entries (R100). -/
def dirOf (b : List Byte) : List DirEnt :=
  (List.range (u16 b 0x1A)).map fun i => ⟨u16 b (0x40 + 12 * i), u32 b (0x44 + 12 * i), u32 b (0x48 + 12 * i)⟩

/-- The section of a type, if present (R101). -/
def sect (b : List Byte) (t : Nat) : Option DirEnt := (dirOf b).find? (·.type = t)

/-- The bytes of a section; empty when absent. -/
def sectBytes (b : List Byte) (t : Nat) : List Byte :=
  match sect b t with
  | some d => bslice b d.off d.size
  | none => []

/-- The `n`-byte records of a section that starts with a 4-byte count; never more than its bytes hold. -/
def counted (x : List Byte) (n : Nat) : List (List Byte) :=
  (List.range (min (u32 x 0) (x.length / n))).map fun i => bslice x (4 + n * i) n

def portOf (x : List Byte) : PortPlan :=
  { present := u8 x 0 = 1, cls := u8 x 1, role := u8 x 2, options := u8 x 3, vmin := u16 x 4, vmax := u16 x 6,
    imax := u16 x 8, slewMax := u8 x 10, program := u8 x 11, fsw := u16 x 12, motion := u8 x 14,
    rsense := u8 x 15 }

def nodeOf (x : List Byte) : NodePlan := ⟨(u8 x 1).testBit 0, u8 x 1 / 2 % 8, u16 x 2⟩
def routeOf (x : List Byte) : TimerRoute := ⟨(u8 x 0).testBit 7, u8 x 0 % 64, u8 x 1, u8 x 2, u8 x 3⟩
def twOf (x : List Byte) : TwEntry :=
  ⟨u8 x 0, u8 x 1, u8 x 2, u8 x 3 = 1, if u8 x 3 = 1 then u8 x 4 else u32 x 4⟩
def modelOf (x : List Byte) : ModelRec :=
  { model := u8 x 0, ref := u8 x 1, theta := [u16 x 4, u16 x 6, u16 x 8],
    tau := [u32 x 10, u32 x 14, u32 x 18], rds25 := u16 x 22, tc := u16 x 24, twarn := s16 x 26, ttrip := s16 x 28 }
def slotOf (x : List Byte) : SlotPlan := ⟨u8 x 0 = 1, u16 x 2, u16 x 4⟩
def rangeOf (x : List Byte) : RangeRec := ⟨u8 x 0, u8 x 1, u16 x 2, u8 x 4, u8 x 5, u32 x 8, u32 x 12⟩
def settingOf (x : List Byte) : SettingRec :=
  ⟨u16 x 0, u8 x 2, u8 x 3, u8 x 4, u32 x 8, u32 x 12, u32 x 16, u32 x 20⟩

/-- Offsets of the program records inside the PROGRAMS section (R116): each follows the images of the one before. -/
def programOffs (x : List Byte) : Nat → Nat → List Nat
  | 0, _ => []
  | n + 1, o => o :: programOffs x n (o + 16 + u16 x (o + 2) + u16 x (o + 4))

def programOf (x : List Byte) (o : Nat) : ProgramRec :=
  { index := u8 x o, entry := u16 x (o + 6), code := bslice x (o + 16) (u16 x (o + 2)),
    data := bslice x (o + 16 + u16 x (o + 2)) (u16 x (o + 4)), pcrc := u32 x (o + 12) }

/-- The Plan that an accepted body spells (R99 to R123). -/
def planOf (b : List Byte) : Plan :=
  let px := sectBytes b 5
  { planId := u32 b 0x10, planRev := u32 b 0x14, fmtMinor := u16 b 6, schema := u16 b 0x18, flags := u32 b 0x1C
    ports := (List.range 48).map fun p => portOf (bslice (sectBytes b 1) (16 * p) 16)
    gangs := (counted (sectBytes b 6) 2).map fun x => (u8 x 0, u8 x 1)
    trip := (List.range ((sectBytes b 7).length / 4)).map fun i => u32 (sectBytes b 7) (4 * i)
    budget := (List.range 9).map fun i => nodeOf (bslice (sectBytes b 3) (8 * i) 8)
    timers := (counted (sectBytes b 8) 4).map routeOf
    twowire := (counted (sectBytes b 9) 8).map twOf
    programs := (programOffs px (min (u32 px 0) 33) 4).map (programOf px)
    hearth := (counted (sectBytes b 4) 32).map modelOf
    slots := (List.range 6).map fun i => slotOf (bslice (sectBytes b 2) (8 * i) 8)
    pantry := (sect b 12).map fun d =>
      let x := bslice b d.off d.size
      ⟨u8 x 1, u16 x 2, u16 x 4, u8 x 6⟩
    ranges := (counted (sectBytes b 10) 16).map rangeOf
    settings := (counted (sectBytes b 11) 24).map settingOf }

/-- Steps 1 and 2 of R124: length, CRC and header. -/
def headerErr (b : List Byte) : Option PlanErr :=
  firstErr [
    need (u32 b 0xC = b.length && b.length % 4 = 0 && b.length ≤ 524288) 2 0 0xC,
    need (u32 b 0x3C = crc32c (b.take 0x3C ++ [0, 0, 0, 0] ++ b.drop 0x40)) 3 0 0x3C,
    need (u32 b 0 = 0x4E414C50) 4 0 0,
    need (u16 b 4 = 1) 5 0 4,
    need (u32 b 8 = 0x4860) 6 0 8,
    need (u16 b 0x18 != 0) 0xA 0 0x18,
    need (1 ≤ u16 b 0x1A && u16 b 0x1A ≤ 32) 0xA 0 0x1A,
    need (u32 b 0x1C < 8) 9 0 0x1C,
    (List.range 24).findSome? fun i => need (u8 b (0x24 + i) = 0) 9 0 (0x24 + i)]

/-- Step 3 of R124: the directory under R100 and R101. A requirement that joins fields is reported at the lowest of them
(log 8). -/
def directoryErr (b : List Byte) : Option PlanErr :=
  let d := dirOf b
  need (0x40 + 12 * d.length ≤ b.length) 7 0 0x1A <|> (List.range d.length).findSome? fun i =>
    let e := d.getD i ⟨0, 0, 0⟩
    let o := 0x40 + 12 * i
    firstErr [
      need ((1 ≤ e.type && e.type ≤ 12) || (0x80 ≤ e.type && e.type ≤ 0xFF)) 7 0 o,
      need ((d.take i).all (·.type < e.type)) 7 0 o,
      need (u16 b (o + 2) = 0) 9 0 (o + 2),
      need (e.off % 4 = 0 && 0x40 + 12 * d.length ≤ e.off && e.off + e.size ≤ b.length &&
        (d.take i).all fun e' => e.off + e.size ≤ e'.off || e'.off + e'.size ≤ e.off) 7 0 (o + 4)]

/-- Step 4 of R124: required sections, reported under R125 with the lowest absent TYPE and offset 0x40. -/
def missingErr (b : List Byte) : Option PlanErr :=
  let p := planOf b
  let anyWhole := (List.range 48).any p.whole
  (List.range 6).findSome? fun t =>
    if 1 ≤ t && (t ≤ 4 || anyWhole) then need (sect b t).isSome 8 t 0x40 else none

/-- A reserved field of `n` bytes is 0 (RESERVED, R98 and R678). -/
def zeros (b : List Byte) (t o n : Nat) : Option PlanErr :=
  need ((List.range n).all fun i => u8 b (o + i) = 0) 9 t o

/-- Between two bounds. -/
def within (lo v hi : Nat) : Bool := lo ≤ v && v ≤ hi

/-- PORTS field by field (R102 to R104). -/
def portsErr (b : List Byte) (d : DirEnt) : Option PlanErr :=
  let p := planOf b
  firstErr [
    need (d.size = 768) 0xA 1 d.off,
    (List.range 48).findSome? fun n =>
      let o := d.off + 16 * n
      let e := p.port n
      firstErr [
        need (u8 b o ≤ 1) 0xA 1 o,
        if !p.whole n then none else firstErr [
          need (e.cls ≤ 2) 0xA 1 (o + 1),
          need (e.role ≤ 2) 0xA 1 (o + 2),
          need (e.options < 64) 9 1 (o + 3),
          need (!(e.trySrc && e.trySnk) && (!(e.trySrc || e.trySnk) || e.role = 2)) 0xA 1 (o + 3),
          need (within 3300 e.vmin 48000) 0xA 1 (o + 4),
          need (within e.vmin e.vmax 48000 && (e.vmax ≤ 20000 || e.epr)) 0xA 1 (o + 6),
          need (within 100 e.imax 5000) 0xA 1 (o + 8),
          need (within 1 e.slewMax 60) 0xA 1 (o + 10),
          need (e.program ≤ 31) 0xA 1 (o + 11),
          need (within 100 e.fsw 1200) 0xA 1 (o + 12),
          need (within 1 e.rsense 40) 0xA 1 (o + 15)]]]

/-- SLOTS field by field (R119), present or not: R103 leaves out absent ports alone. -/
def slotsErr (b : List Byte) (d : DirEnt) : Option PlanErr :=
  firstErr [
    need (d.size = 48) 0x12 2 d.off,
    (List.range 6).findSome? fun i =>
      let o := d.off + 8 * i
      firstErr [
        need (u8 b o ≤ 1) 0x12 2 o,
        zeros b 2 (o + 1) 1,
        need (within 100 (u16 b (o + 2)) 10000) 0x12 2 (o + 2),
        need (within 1 (u16 b (o + 4)) 400) 0x12 2 (o + 4),
        zeros b 2 (o + 6) 2]]

/-- BUDGET field by field (R110, R111). DESIGN CHOICE: bits 7:4 of the flags, which R110 does not name, count as reserved (log 147). -/
def budgetErr (b : List Byte) (d : DirEnt) : Option PlanErr :=
  firstErr [
    need (d.size = 72) 0xD 3 d.off,
    (List.range 9).findSome? fun i =>
      let o := d.off + 8 * i
      firstErr [
        need (u8 b o = i) 0xD 3 o,
        need (u8 b (o + 1) < 16) 9 3 (o + 1),
        need (i != 0 || (u8 b (o + 1)).testBit 0) 0xD 3 (o + 1),
        need (!(u8 b (o + 1)).testBit 0 || 1 ≤ u16 b (o + 2)) 0xD 3 (o + 2),
        zeros b 3 (o + 4) 4]]

/-- HEARTH field by field (R118). -/
def hearthErr (b : List Byte) (d : DirEnt) : Option PlanErr :=
  let n := u32 b d.off
  firstErr [
    need (d.size = 4 + 32 * n) 0x11 4 d.off,
    (List.range (min n d.size)).findSome? fun i =>
      let o := d.off + 4 + 32 * i
      let m := modelOf (bslice b o 32)
      let prev := (List.range i).map fun j => u8 b (d.off + 4 + 32 * j)
      firstErr [
        need (m.model ≤ 56 && !prev.contains m.model) 0x11 4 o,
        need (m.ref ≤ 1) 0x11 4 (o + 1),
        zeros b 4 (o + 2) 2,
        need (1 ≤ u16 b (o + 4)) 0x11 4 (o + 4),
        need (1 ≤ u16 b (o + 6)) 0x11 4 (o + 6),
        need (1 ≤ u16 b (o + 8)) 0x11 4 (o + 8),
        need (1 ≤ u32 b (o + 10)) 0x11 4 (o + 10),
        need (u32 b (o + 10) < u32 b (o + 14)) 0x11 4 (o + 14),
        need (u32 b (o + 14) < u32 b (o + 18) && u32 b (o + 18) ≤ 3600000000) 0x11 4 (o + 18),
        need (if m.model = 56 then m.rds25 = 0 else 1 ≤ m.rds25) 0x11 4 (o + 22),
        need (if m.model = 56 then m.tc = 0 else m.tc ≤ 10000) 0x11 4 (o + 24),
        need (m.twarn < m.ttrip && m.ttrip ≤ 1750) 0x11 4 (o + 28),
        zeros b 4 (o + 30) 2]]

/-- One program record at section offset `r` (R116). -/
def programErr (b : List Byte) (d : DirEnt) (prev : List Nat) (r : Nat) : Option PlanErr :=
  let o := d.off + r
  let x := bslice b d.off d.size
  let g := programOf x r
  firstErr [
    need (r + 16 ≤ d.size && r + 16 + u16 b (o + 2) + u16 b (o + 4) ≤ d.size) 0x10 5 d.off,
    need (g.index ≤ 31 && !prev.contains g.index) 0x10 5 o,
    need (u8 b (o + 1) = 1) 0x10 5 (o + 1),
    need (within 4 (u16 b (o + 2)) 8192 && u16 b (o + 2) % 4 = 0) 0x10 5 (o + 2),
    need (u16 b (o + 4) ≤ 4096 && u16 b (o + 4) % 4 = 0) 0x10 5 (o + 4),
    need (g.entry % 4 = 0 && g.entry < u16 b (o + 2)) 0x10 5 (o + 6),
    zeros b 5 (o + 8) 4,
    need (g.pcrc = crc32c (g.code ++ g.data)) 0x10 5 (o + 12)]

/-- PROGRAMS field by field (R116): a SIZE that the records do not fill is found at the section's start, its lowest offset
(R678). -/
def programsErr (b : List Byte) (d : DirEnt) : Option PlanErr :=
  let x := bslice b d.off d.size
  let n := u32 x 0
  let offs := programOffs x (min n 33) 4
  firstErr [
    need (within 1 n 32) 0x10 5 d.off,
    need (offs.foldl (fun _ r => r + 16 + u16 x (r + 2) + u16 x (r + 4)) 4 = d.size) 0x10 5 d.off,
    (List.range offs.length).findSome? fun i =>
      programErr b d ((offs.take i).map (u8 x)) (offs.getD i 0)]

/-- GANGS field by field (R105, R51). -/
def gangsErr (b : List Byte) (d : DirEnt) : Option PlanErr :=
  let n := u32 b d.off
  firstErr [
    need (d.size = 4 + 2 * n) 0xB 6 d.off,
    (List.range (min n d.size)).findSome? fun i =>
      let o := d.off + 4 + 2 * i
      let l := u8 b o
      let k := u8 b (o + 1)
      firstErr [
        need (l < 48 && (k != 2 || l % 2 = 0) && (k != 4 || l % 4 = 0) && (List.range i).all fun j =>
          let l' := u8 b (d.off + 4 + 2 * j)
          l' + u8 b (d.off + 5 + 2 * j) ≤ l || l + k ≤ l') 0xB 6 o,
        need (k = 2 || k = 4) 0xB 6 (o + 1)]]

/-- TRIP field by field (R106). -/
def tripErr (b : List Byte) (d : DirEnt) : Option PlanErr :=
  firstErr [
    need (d.size = 768) 0xC 7 d.off,
    (List.range 192).findSome? fun i => zeros b 7 (d.off + 4 * i + 2) 2]

/-- Following clock routes from a timer of a scope reaches `t` again within `fuel` routes (R112). -/
def clockReach (rs : List TimerRoute) (landing : Bool) (idx t : Nat) : Nat → Nat → Bool
  | 0, _ => false
  | fuel + 1, v => rs.any fun r => r.landing = landing && r.index = idx && r.kind = 3 && r.src = v &&
      (r.dst = t || clockReach rs landing idx t fuel r.dst)

/-- TIMERS field by field (R112). Bit 6 of SCOPE counts as reserved: see log 8. -/
def timersErr (b : List Byte) (d : DirEnt) : Option PlanErr :=
  let n := u32 b d.off
  let rs := (counted (bslice b d.off d.size) 4).map routeOf
  firstErr [
    need (n ≤ 512 && d.size = 4 + 4 * n) 0xE 8 d.off,
    (List.range (min n d.size)).findSome? fun i =>
      let o := d.off + 4 + 4 * i
      let r := rs.getD i ⟨false, 0, 0, 0, 0⟩
      firstErr [
        need (!(u8 b o).testBit 6) 9 8 o,
        need (if r.landing then r.index < 6 else r.index < 48) 0xE 8 o,
        need (r.kind != 3 || !clockReach (rs.take (i + 1)) r.landing r.index r.src 8 r.src) 0xE 8 o,
        need (r.src ≤ 7) 0xE 8 (o + 1),
        need (r.dst ≤ 7 && r.src != r.dst && (rs.take i).all fun q =>
          !(q.landing = r.landing && q.index = r.index && q.dst = r.dst && q.kind = r.kind)) 0xE 8 (o + 2),
        need (within 1 r.kind 3) 0xE 8 (o + 3)]]

/-- A MASK of R113: 0, or 2ⁿ − 1 with n from 1 to 4. -/
def twMask (m : Nat) : Bool := [0, 1, 3, 7, 15].contains m

/-- TWOWIRE field by field (R113, R114). -/
def twowireErr (b : List Byte) (d : DirEnt) : Option PlanErr :=
  let n := u32 b d.off
  let es := (counted (bslice b d.off d.size) 8).map twOf
  firstErr [
    need (n ≤ 16 && d.size = 4 + 8 * n) 0xF 9 d.off,
    (List.range (min n d.size)).findSome? fun i =>
      let o := d.off + 4 + 8 * i
      let e := es.getD i ⟨0, 0, 0, false, 0⟩
      let same := (es.take i).filter (·.tw = e.tw)
      firstErr [
        need (e.tw ≤ 3 && (if e.mask = 0 then same.all (·.mask = 0) && same.length < 4 else same.isEmpty)) 0xF 9 o,
        need (within 8 e.addr 0x77 && same.all (·.addr != e.addr) && (!twMask e.mask || (e.addr ||| e.mask) ≤ 0x77) &&
          (!e.portIndexed || (e.addr &&& e.mask) = 0)) 0xF 9 (o + 1),
        need (twMask e.mask && (u8 b (o + 3) != 0 || e.mask = 0)) 0xF 9 (o + 2),
        need (u8 b (o + 3) ≤ 1) 0xF 9 (o + 3),
        if e.portIndexed then
          need (e.base + e.mask ≤ 47 && u8 b (o + 5) = 0 && u16 b (o + 6) = 0) 0xF 9 (o + 4)
        else need (e.base % 4 = 0 && (locate e.base).isSome) 0xF 9 (o + 4)]]

/-- A place that a RANGES scope names (R121): one place stands for all. -/
def RangeRec.loc (r : RangeRec) : Loc :=
  match r.scope with
  | 0 => .roomReg 0 r.off
  | 1 => .roomReg r.index r.off
  | 2 => .land 0 r.off
  | 3 => .land r.index r.off
  | 4 => .hall r.off
  | 5 => .wing 0 r.off
  | 6 => .wing r.index r.off
  | _ => .hall ([0x30000, 0x50000, 0x60000, 0x70000, 0x71000, 0x72000, 0x73000].getD r.index 0 + r.off)

/-- The RANGES entry covers a field of a place (R121). -/
def RangeRec.covers (r : RangeRec) (l : Loc) (lsb width : Nat) : Bool :=
  r.lsb = lsb && r.width = width &&
  match l with
  | .roomReg p o => r.off = o && (r.scope = 0 || (r.scope = 1 && r.index = p))
  | .land b o => r.off = o && (r.scope = 2 || (r.scope = 3 && r.index = b))
  | .wing w o => r.off = o && (r.scope = 5 || (r.scope = 6 && r.index = w))
  | .hall _ => (r.scope = 4 || r.scope = 7) && r.loc = l
  | _ => false

/-- RANGES field by field (R121). -/
def rangesErr (b : List Byte) (d : DirEnt) : Option PlanErr :=
  let n := u32 b d.off
  let rs := (counted (bslice b d.off d.size) 16).map rangeOf
  firstErr [
    need (n ≤ 1024 && d.size = 4 + 16 * n) 0x13 10 d.off,
    (List.range (min n d.size)).findSome? fun i =>
      let o := d.off + 4 + 16 * i
      let r := rs.getD i ⟨0, 0, 0, 0, 0, 0, 0⟩
      let f := rwField r.loc r.lsb r.width
      firstErr [
        need (r.scope ≤ 7) 0x13 10 o,
        need (match r.scope with
          | 1 => r.index < 48 | 3 => r.index < 6 | 6 => r.index < 2 | 7 => r.index < 7 | _ => r.index = 0)
          0x13 10 (o + 1),
        need ((r.scope != 4 && r.scope != 7) || r.off < 0x1000) 0x13 10 (o + 2),
        need f.isSome 0x13 10 (o + 2),
        need ((rs.take i).all fun q => !(q.covers r.loc r.lsb r.width) && !(r.covers q.loc q.lsb q.width))
          0x13 10 (o + 4),
        zeros b 10 (o + 6) 2,
        need (match f with | some g => within g.lo r.min g.hi | none => false) 0x13 10 (o + 8),
        need (r.min ≤ r.max && match f with | some g => r.max ≤ g.hi | none => false) 0x13 10 (o + 12)]]

/-- SETTINGS field by field (R123). DESIGN CHOICE: bits 7:3 of the flags, which R123 does not name, count as reserved (log
148). -/
def settingsErr (b : List Byte) (d : DirEnt) : Option PlanErr :=
  let n := u32 b d.off
  let ss := (counted (bslice b d.off d.size) 24).map settingOf
  firstErr [
    need (n ≤ 2048 && d.size = 4 + 24 * n) 0x14 11 d.off,
    (List.range (min n d.size)).findSome? fun i =>
      let o := d.off + 4 + 24 * i
      let s := ss.getD i ⟨0, 0, 0, 0, 0, 0, 0, 0⟩
      let sgn := s.flags.testBit 2
      let le := fun x y => if sgn then decide (sgn32 x ≤ sgn32 y) else decide (x ≤ y)
      firstErr [
        need ((ss.take i).all (·.id < s.id)) 0x14 11 o,
        need (s.flags < 8) 9 11 (o + 2),
        need (within 1 s.width 32) 0x14 11 (o + 4),
        zeros b 11 (o + 5) 3,
        need (s.target = 0 || match locate s.target with
          | some l => (rwField l s.lsb s.width).isSome | none => false) 0x14 11 (o + 8),
        need (le s.min s.dflt && le s.dflt s.max) 0x14 11 (o + 12)]]

/-- PANTRY field by field (R120). -/
def pantryErr (b : List Byte) (d : DirEnt) : Option PlanErr :=
  let o := d.off
  firstErr [
    need (d.size = 8) 0x12 12 o,
    need (u8 b o = 1) 0x12 12 o,
    need (within 24 (u8 b (o + 1)) 36) 0x12 12 (o + 1),
    need (within 100 (u16 b (o + 2)) 5000) 0x12 12 (o + 2),
    need (within 100 (u16 b (o + 4)) 1200) 0x12 12 (o + 4),
    need (within 1 (u8 b (o + 6)) 40) 0x12 12 (o + 6),
    zeros b 12 (o + 7) 1]

/-- Step 5 of R124: each section in ascending TYPE order. -/
def sectionsErr (b : List Byte) : Option PlanErr :=
  let on := fun t (f : List Byte → DirEnt → Option PlanErr) => (sect b t).bind (f b)
  firstErr [on 1 portsErr, on 2 slotsErr, on 3 budgetErr, on 4 hearthErr, on 5 programsErr, on 6 gangsErr,
    on 7 tripErr, on 8 timersErr, on 9 twowireErr, on 10 rangesErr, on 11 settingsErr, on 12 pantryErr]

/-- Body offset of a section's byte; the section is known to be present. -/
def sectOff (b : List Byte) (t o : Nat) : Nat := ((sect b t).map (·.off)).getD 0 + o

/-- The trip word of port `n`, Threshold `k` meets R107 and R108. DESIGN CHOICE: the VBUS_OV and VBUS_UV words of a
follower, which the device ignores (R108), need meet neither (log 149). -/
def tripWordOk (p : Plan) (n k : Nat) : Bool :=
  let w := p.trip.getD (4 * n + k) 0
  let base := 8 * (n / 8)
  let ms := p.members n
  let gang := decide (ms.length > 1)
  if gang && p.follower n && k < 2 then true
  else
    (if !(p.port n).present then true else if gang then ms.all (fun m => w.testBit (m % 8)) && w.testBit (8 + p.leadOf n % 8)
     else w.testBit (n % 8) && (k != 3 || w.testBit (8 + n % 8))) &&
    (List.range 8).all fun i =>
      let q := base + i
      let qGang := decide ((p.members q).length > 1)
      (!w.testBit i || ((p.port q).present && (!qGang || ms.contains q))) &&
      (!w.testBit (8 + i) || ((p.port q).present && !p.follower q && (!qGang || ms.contains q)))

/-- Step 6 of R124: the cross-section requirements, in the order of the reason codes. -/
def crossErr (b : List Byte) : Option PlanErr :=
  let p := planOf b
  let ports := List.range 48
  firstErr [
    ports.findSome? fun n => need (!(p.whole n && (p.port n).vconn) || p.flags.testBit (1 + n / 24))
      0xA 1 (sectOff b 1 (16 * n + 3)),
    (List.range p.gangs.length).findSome? fun i =>
      let g := p.gangs.getD i (0, 1)
      need ((List.range g.2).all fun j => (p.port (g.1 + j)).present) 0xB 6 (sectOff b 6 (4 + 2 * i)),
    if p.trip.isEmpty then none else
      (List.range 192).findSome? fun i => need (tripWordOk p (i / 4) (i % 4)) 0xC 7 (sectOff b 7 (4 * i)),
    (List.range p.timers.length).findSome? fun i =>
      let r := p.timers.getD i ⟨false, 0, 0, 0, 0⟩
      need (if r.landing then (p.slot r.index).present else p.whole r.index) 0xE 8 (sectOff b 8 (4 + 4 * i)),
    ports.findSome? fun n => need (!p.whole n || p.programs.any (·.index = (p.port n).program))
      0x10 1 (sectOff b 1 (16 * n + 11)),
    (List.range 57).findSome? fun m =>
      let wanted := if m < 48 then p.whole m else if m < 54 then (p.slot (m - 48)).present
        else if m < 56 then p.pantry.isSome else true
      need (wanted = p.hearth.any (·.model = m)) 0x11 4 (sectOff b 4 0),
    ports.findSome? fun n => need (!(p.port n).present || (p.slot (n / 8)).present)
      0x12 1 (sectOff b 1 (16 * n)),
    (List.range p.settings.length).findSome? fun i =>
      let s := p.settings.getD i ⟨0, 0, 0, 0, 0, 0, 0, 0⟩
      let o := sectOff b 11 (4 + 24 * i)
      match locate s.target with
      | none => none
      | some l =>
        let ok := match l with
          | .roomReg n _ => (p.port n).present
          | .land k _ => (p.slot k).present
          | .hall a => !(0x50000 ≤ a && a < 0x51000) || p.pantry.isSome
          | _ => true
        let node : Option Nat := match l with
          | .hall a => if 0x240 ≤ a && a < 0x24C then some 0 else none
          | .wing w a => if 0xC0 ≤ a && a < 0xCC then some (1 + w) else none
          | .land k a => if 0xC0 ≤ a && a < 0xCC then some (3 + k) else none
          | _ => none
        if s.target = 0 then none else firstErr [
          need ok 0x14 11 (o + 8),
          need (p.ranges.all fun r => !r.covers l s.lsb s.width || within r.min s.dflt r.max) 0x14 11 (o + 12),
          need (match node with
            | some k => s.dflt ≤ (p.node k).ceiling | none => true) 0x14 11 (o + 12),
          need (match node with
            | some k => s.max ≤ (p.node k).ceiling | none => true) 0x14 11 (o + 20)]]

/-- The first failure of a Plan body under R124, or none when it is accepted. -/
def planError (b : List Byte) : Option PlanErr :=
  headerErr b <|> directoryErr b <|> missingErr b <|> sectionsErr b <|> crossErr b

end Sys2Proof.Machine
end

