-- ==== Sys2Proof/Machine/Operands.lean ====
section
/-! DEFINITION. Machine/Operands.lean: the forms in which a register word is read and written: the field in a word, the
access codes of R9, the clamps of the register tables and of RANGES (R122). -/

namespace Sys2Proof

/-- The value that a word holds in a field's place. -/
def Field.of (f : Field) (v : Word) : Nat := (v.extractLsb' f.lsb f.width).toNat

end Sys2Proof

namespace Sys2Proof.Machine

/-- Bit `n` of a register field takes a truth value. -/
def setBit (v n : Nat) (b : Bool) : Nat := if b then v ||| 2 ^ n else if v.testBit n then v - 2 ^ n else v

/-- The nearer end of a range, or the value itself inside it. -/
def clampTo (lo hi v : Nat) : Nat := max lo (min v hi)

/-- The RANGES entry that covers a field at a place, if the applied Plan has one (R121). -/
def State.range (s : State) (l : Loc) (f : Field) : Option RangeRec :=
  s.pl.ranges.find? (·.covers l f.lsb f.width)

/-- Clamp to the table's range and then to RANGES (R122). -/
def State.clampField (s : State) (l : Loc) (f : Field) (v : Nat) : Nat :=
  let x := clampTo f.lo f.hi v
  match s.range l f with
  | some r => clampTo r.min r.max x
  | none => x

/-- A one-bit field after a write of `b`, narrowed by RANGES (R122). -/
def State.clampBit (s : State) (l : Loc) (f : Field) (b : Bool) : Bool := s.clampField l f b.toNat = 1

/-- Two-bit fields whose table says that a write of 3 leaves the field unchanged. -/
def keepsOn3 : List Field :=
  [PD_CFG_MAX_REV, FRS_CTRL_FRS_I, THR_OV_FILT_M, THR_UV_FILT_M, THR_PK_FILT_M, THR_SC_FILT_M, PAN_CTRL_TERM_SEL,
   ATTIC_ADDR_CTR, TC_CTRL_SPEED, TC_CTRL_SPEED.shift 0x40] ++
  (List.range 8).map (fun n => TMR_CTRL_SRC.shift (0x300 + 16 * n)) ++
  (List.range 8).map (fun n => TMR_CTRL_SRC.shift (0x200 + 16 * n))

/-- What a field holds after a write of word `v` to its register, by its access code (R9). `locked` is the lock of an
RWL field. -/
def State.fieldAfter (s : State) (l : Loc) (f : Field) (locked : Bool) (was : Nat) (v : Word) : Nat :=
  let x := f.of v
  match f.acc with
  | .rw => if x = 3 && keepsOn3.contains f then was else s.clampField l f x
  | .rwl => if locked then was else s.clampField l f x
  | .w1c => was &&& (2 ^ f.width - 1 - x)
  | .w1s => was ||| x
  | .stk => was ||| x
  | .ro => was
  | .wo => was
  | .rc => was

/-- Write a word to the fields of a register in a bank. -/
def State.writeFields (s : State) (l : Loc) (locked : Bool) (fs : List Field) (v : Word) (m : Regs) : Regs :=
  fs.foldl (fun m f => m.put f (s.fieldAfter l f locked (m.fld f) v)) m

/-- The bits that a 32-bit read clears: every RC field of the register (R9). -/
def rcClear (fs : List Field) (m : Regs) : Regs :=
  fs.foldl (fun m f => if f.acc = .rc then m.put f 0 else m) m

/-- A write-only field reads 0 (R9). -/
def woMask (fs : List Field) (v : Word) : Word :=
  fs.foldl (fun v f => if f.acc = .wo then v &&& ~~~f.mask else v) v

/-- The byte or halfword that a read of `size` bytes at `addr` returns from its register word (R20). -/
def subword (addr size : Nat) (w : Word) : Word :=
  let x := w >>> (8 * (addr % 4))
  if size = 1 then x &&& 0xFF#32 else if size = 2 then x &&& 0xFFFF#32 else w

/-- The bank of registers that a place lies in, and the key in it. -/
def State.bank (s : State) : Loc → Regs × Nat
  | .hall a => (s.regs, a)
  | .wing w o => ((s.wing (Fin.ofNat 2 w)).regs, o)
  | .land b o => ((s.land (Fin.ofNat 6 b)).regs, o)
  | .roomReg p o => ((s.room (Fin.ofNat 48 p)).regs, o)
  | _ => ([], 0)

/-- Replace the bank of registers that a place lies in. -/
def State.setBank (s : State) (l : Loc) (m : Regs) : State :=
  match l with
  | .hall _ => { s with regs := m }
  | .wing w _ => s.onWing (Fin.ofNat 2 w) fun x => { x with regs := m }
  | .land b _ => s.onLand (Fin.ofNat 6 b) fun x => { x with regs := m }
  | .roomReg p _ => s.onRoom (Fin.ofNat 48 p) fun x => { x with regs := m }
  | _ => s

/-- A plain write of a register word by its access codes (R9, R122). -/
def State.writeReg (s : State) (l : Loc) (v : Word) : State :=
  let locked := decide (l = .hall 0x50) && s.bit HB_CFG_LOCK
  s.setBank l (s.writeFields l locked (fieldsOf l) v (s.bank l).1)

/-- Clear the RC fields of a register, as a 32-bit read does (R9). -/
def State.rcRead (s : State) (l : Loc) : State := s.setBank l (rcClear (fieldsOf l) (s.bank l).1)

/-- An access error reported to the requester (R19, R57, R500); line 24 of the Hall core keeps its own (R607). -/
def State.accessErr (s : State) (r : Req) : State :=
  { s with rerr := true, hallErr := s.hallErr || r = .hall }

end Sys2Proof.Machine
end

