-- ==== Sys2Proof/Machine/Budget.lean ====
section
/-! DEFINITION. Machine/Budget.lean: the budget tree (01_house_architecture.md R45 to R50, 09_hearth_budget.md R350 to
R355) and the commands that ask for power (06_contracts_roles.md R225, R226). -/

namespace Sys2Proof.Machine

/-- A node of the budget tree (R45). -/
inductive Node where
  | root
  | wing (w : Fin 2)
  | land (b : Fin 6)
deriving DecidableEq, Repr

/-- Number of the node in the Plan (R110). -/
def Node.num : Node → Nat
  | .root => 0
  | .wing w => 1 + w.val
  | .land b => 3 + b.val

/-- Register place of the node's group (09_hearth_budget.md). -/
def Node.loc : Node → Nat → Loc
  | .root, o => .hall (0x240 + o)
  | .wing w, o => .wing w.val (0xC0 + o)
  | .land b, o => .land b.val (0xC0 + o)

/-- A field of a node's register group. -/
def State.nodeFld (s : State) (n : Node) (f : Field) : Nat :=
  match n with
  | .root => s.regs.fld (f.shift 0x240)
  | .wing w => (s.wing w).regs.fld (f.shift 0xC0)
  | .land b => (s.land b).regs.fld (f.shift 0xC0)

/-- A port lies below a node. -/
def Node.has (n : Node) (p : Fin 48) : Bool :=
  match n with
  | .root => true
  | .wing w => wingOf p = w
  | .land b => landOf p = b

/-- What a port counts for: its grant, or its reservation where that is higher (R353). -/
def Room.demand (r : Room) : Nat := max r.grant r.resv

def State.demand (s : State) (p : Fin 48) : Nat := (s.room p).demand
/-- Class of a port in the Plan (R102); 3 for an absent port or a follower. -/
def State.cls (s : State) (p : Fin 48) : Nat := if s.pl.whole p.val then (s.pl.port p.val).cls else 3

/-- Sum of the demands of the ports below a node that pass a test; the charger counts at the root (R353). -/
def State.sumDemand (s : State) (n : Node) (ok : Fin 48 → Bool) : Nat :=
  (List.finRange 48).foldl (fun a p => if n.has p && ok p then a + s.demand p else a) 0

/-- What the Pantry charger holds at a node (R353). -/
def State.chargerAt (s : State) (n : Node) : Nat := if n = .root then s.chgGrant else 0

/-- The node's own limit, when the Plan gives it one (R350); 65,535 W stands for none. -/
def State.nodeLimit (s : State) (n : Node) : Nat :=
  if (s.pl.node n.num).limit then s.nodeFld n BUD_LIMIT_LIMIT_W else 65535

/-- Battery operation limits the root (R367, R377): DIS_W, RSUP_W while RSUP_EN is 1, and floor(VBAT_SNS × ITH) W while
the QID model is in CLAMP. -/
def State.batLimit (s : State) : Nat :=
  if s.bit CHG_STAT_BATT_ACTIVE then
    let d := s.fld BAT_DIS_DIS_W + (if s.bit PAN_CTRL_RSUP_EN then s.fld BAT_DIS_RSUP_W else 0)
    if s.modelState 55 = 2 then min d (20 * s.fld PAN_MEAS_VBAT * s.modelIth 55 / 1000000) else d
  else 65535

/-- The root's available power before its children (R350, R367). -/
def State.rootAvail (s : State) : Nat := min (s.nodeLimit .root) s.batLimit

/-- The thermal limit of a Landing whose slot model is in CLAMP: floor(VSLOTIN × ITH) W (R347). -/
def State.slotThermal (s : State) (b : Fin 6) : Nat :=
  if s.modelState (48 + b.val) = 2 then (s.land b).vslotin * s.modelIth (48 + b.val) / 1000000 else 65535

/-- Available power of a node (R350). -/
def State.avail (s : State) : Node → Nat
  | .root => s.rootAvail
  | .wing w => min (s.nodeLimit (.wing w))
      (s.rootAvail - s.sumDemand .root (fun p => wingOf p != w) - s.chgGrant)
  | .land b =>
      let w := wingOfLand b
      let aw := min (s.nodeLimit (.wing w))
        (s.rootAvail - s.sumDemand .root (fun p => wingOf p != w) - s.chgGrant)
      min (min (s.nodeLimit (.land b)) (s.slotThermal b))
        (aw - s.sumDemand (.wing w) (fun p => landOf p != b))

/-- Sum of the floors of all ESSENTIAL ports (R349). -/
def State.essentialFloors (s : State) : Nat :=
  (List.finRange 48).foldl (fun a p => if s.cls p = 1 then a + (s.room p).fld PORT_BUD_FLOOR_W else a) 0

/-- The cap that the node's BUD_CAP registers give a class; the battery's cut at BAT_LOW has its own (R368). -/
def State.regCap (s : State) (n : Node) (c : Nat) : Nat :=
  if (s.pl.node n.num).caps.testBit c then
    match c with
    | 0 => s.nodeFld n BUD_CAP0_EGRESS
    | 1 => s.nodeFld n BUD_CAP0_ESSENTIAL
    | _ => s.nodeFld n BUD_CAP1_COMFORT
  else 65535

/-- The effective cap of a class at a node: the lower of its setting and any thermal cap of the root (R349, R350); BAT_LOW, and
QID in TRIP during battery operation, set the root's ESSENTIAL cap to 0 W (R368, R377). -/
def State.cap (s : State) (n : Node) (c : Nat) : Nat :=
  let base := s.regCap n c
  if n = .root then
    let d := s.fld HEARTH_STAT_DIE_STATE
    let base := if c = 2 && 1 ≤ d then 0 else base
    let base := if c = 1 && 2 ≤ d then min base s.essentialFloors else base
    if c = 1 && (s.batLow || (s.bit CHG_STAT_BATT_ACTIVE && s.modelState 55 = 3)) then 0 else base
  else base

/-- Power available to a port under R225 (R350): the least over its three nodes, its class caps there and PMAX_W. -/
def State.availFor (s : State) (p : Fin 48) : Nat :=
  if (s.room p).modeSheds (s.cls p) then 0 else
  let nodes : List Node := [.land (landOf p), .wing (wingOf p), .root]
  let c := s.cls p
  let free := nodes.map fun n => s.avail n - s.sumDemand n (fun q => q != p) - s.chargerAt n
  let capf := nodes.map fun n => s.cap n c - s.sumDemand n (fun q => q != p && s.cls q = c) -
    (if c = 2 then s.chargerAt n else 0)
  (free ++ capf).foldl min ((s.room p).fld PORT_BUD_PMAX_W)

/-- Lower a port's demand to `d`: its grant first follows where it lies above, its reservation stays ANSWERED with the
lower value, never below the grant (R353). -/
def Room.cutTo (e : Env) (r : Room) (d : Nat) : Room :=
  let g := min r.grant d
  let r' := if r.fld GRANT_ASK_STATE = 2 then r.put GRANT_RESV_W (max g (min (r.fld GRANT_RESV_W) d))
    else r.onCon fun c => { c with held := min c.held d }
  if g < r.grant then ((r'.setGrant g).grantFell e).refreshIlim e else r'

/-- One step of R48: take from the ports of class `c` of the node, highest port number first, each down to its floor
(or to 0), no more than is missing. The grant of a shadow's port is the keeper's to cut (R263). Answers the state and what
is still missing. -/
def State.freeStep (s : State) (n : Node) (c : Nat) (toFloor : Bool) (missing : Nat) : State × Nat :=
  (List.finRange 48).reverse.foldl (fun (x : State × Nat) p =>
    let s := x.1
    if x.2 = 0 || !n.has p || s.cls p != c then x
    else
      let d := s.demand p
      let low := if toFloor then (s.room p).fld PORT_BUD_FLOOR_W else 0
      let t := min x.2 (d - low)
      if t = 0 then x
      else (if s.keeps (wingOf p) then s.onRoomE p (fun e r => r.cutTo e (d - t)) else s, x.2 - t)) (s, missing)

/-- The charger gives first within each COMFORT step, with a floor of 0 W (R353). -/
def State.freeCharger (s : State) (n : Node) (missing : Nat) : State × Nat :=
  if n = .root then
    let t := min missing s.chgGrant
    ({ s with chgGrant := s.chgGrant - t }, missing - t)
  else (s, missing)

/-- Free missing power at a node in the order of R48. -/
def State.free48 (s : State) (n : Node) (missing : Nat) : State :=
  let a := s.freeCharger n missing
  let a := a.1.freeStep n 2 true a.2
  let a := a.1.freeStep n 2 false a.2
  let a := a.1.freeStep n 1 true a.2
  (a.1.freeStep n 1 false a.2).1

/-- Demand of a class at a node, the charger counted as COMFORT. -/
def State.classDemand (s : State) (n : Node) (c : Nat) : Nat :=
  s.sumDemand n (fun p => s.cls p = c) + (if c = 2 then s.chargerAt n else 0)

/-- Free the excess of a class over its cap at a node, from that class alone (R48); never EGRESS (R49). -/
def State.freeCap (s : State) (n : Node) (c : Nat) : State :=
  let excess := s.classDemand n c - s.cap n c
  let a := if c = 2 then s.freeCharger n excess else (s, excess)
  let a := a.1.freeStep n c true a.2
  (a.1.freeStep n c false a.2).1

/-- A node enforces its available power and its caps (R48, R49). -/
def State.enforceNode (s : State) (n : Node) : State :=
  let s := (s.freeCap n 2).freeCap n 1
  s.free48 n (s.sumDemand n (fun _ => true) + s.chargerAt n - s.avail n)

/-- Every node of the tree. -/
def allNodes : List Node :=
  .root :: ((List.finRange 2).map Node.wing ++ (List.finRange 6).map Node.land)

/-- The whole tree enforces its limits and caps, from the root down. -/
def State.enforce (s : State) : State := allNodes.foldl State.enforceNode s

/-- EGRESS grants exceed the node's available power after every step of R48, or its EGRESS cap (R49). -/
def State.nodeShort (s : State) (n : Node) : Bool :=
  let eg := s.classDemand n 0
  s.avail n < eg || s.cap n 0 < eg

/-- THERM in BUD_STAT: a thermal limit or cap acts at the node. -/
def State.nodeTherm (s : State) (n : Node) : Bool :=
  match n with
  | .root => 1 ≤ s.fld HEARTH_STAT_DIE_STATE
  | .wing _ => false
  | .land b => s.slotThermal b < 65535

/-- The root answers the charger's ask (R353, R373): the charger counts as a COMFORT child of the root. -/
def State.answerCharger (s : State) (ask : Nat) : State :=
  let free := s.avail .root - s.sumDemand .root fun _ => true
  let capf := s.cap .root 2 - s.sumDemand .root fun p => s.cls p = 2
  { s with chgGrant := min ask (min free capf) }

/-- The Landing answers a port's ask at once: RESV_W is the lower of the ask and the power available, never below the
present grant (R225) (log 21). -/
def State.answer (s : State) (p : Fin 48) (ask : Nat) : State :=
  let a := s.availFor p
  s.onRoom p fun r =>
    ((r.put GRANT_RESV_W (max r.grant (min ask a))).put GRANT_ASK_STATE 2).onCon fun c => { c with held := 0 }

/-- The node whose BUD_LIMIT or BUD_CAP register lies at a place, with the offset in the group. -/
def nodeAt : Loc → Option (Node × Nat)
  | .hall a => if 0x240 ≤ a && a < 0x24C then some (.root, a - 0x240) else none
  | .wing w o => if 0xC0 ≤ o && o < 0xCC then some (.wing (Fin.ofNat 2 w), o - 0xC0) else none
  | .land b o => if 0xC0 ≤ o && o < 0xCC then some (.land (Fin.ofNat 6 b), o - 0xC0) else none
  | _ => none

/-- A write of a node's limit or caps: each field clamps to the node's CEILING (R111), then the tree enforces it
(R355). -/
def State.writeNode (s : State) (l : Loc) (n : Node) (v : Word) : State :=
  let ceil := (s.pl.node n.num).ceiling
  let m := (fieldsOf l).foldl (fun m f =>
    if f.acc = .rw then m.put f (min ceil (s.clampField l f (f.of v))) else m) (s.bank l).1
  (s.setBank l m).enforce

end Sys2Proof.Machine
end

