-- ==== Sys2Proof/Machine/ContractOps.lean ====
section
/-! DEFINITION. Machine/ContractOps.lean: the operations of the contract engine that messages and contract commands
share (06_contracts_roles.md): limits, capability clamp, acceptance gate, settle criteria, transitions and swaps. -/

namespace Sys2Proof.Machine

/-! ### Applied modes (R260) -/

abbrev mNormal : Nat := 0
abbrev mBattery : Nat := 1
abbrev mFire : Nat := 2
abbrev mService : Nat := 3
abbrev mQuiet : Nat := 4

/-- The applied mode refuses an Accept of PR_Swap for the port's class (R260), or the hold of R598 does. -/
def Room.modeNoSwap (e : Env) (r : Room) : Bool :=
  r.senseHold || r.fld STATUS_MODE = mService || (r.fld STATUS_MODE = mFire && e.port.cls ≤ 1)

/-- The applied mode refuses EPR entry for the port's class (R260), or the hold of R598 does. -/
def Room.modeNoEpr (e : Env) (r : Room) : Bool :=
  r.senseHold || r.fld STATUS_MODE = mService || (r.fld STATUS_MODE = mQuiet && e.port.cls = 2)

/-- The applied mode refuses a contract of `p` µW (R260), or the hold of R598 does. -/
def Room.modeNoContract (e : Env) (r : Room) (p : Nat) : Bool :=
  ((r.senseHold || r.fld STATUS_MODE = mService) && r.fld CON_VI_MV * r.fld CON_VI_MA < p) ||
  (r.fld STATUS_MODE = mQuiet && e.port.cls = 2 && r.fld PORT_BUD_FLOOR_W * 1000000 < p)

/-! ### Offering (R222 to R224) -/

/-- The current allowed at a voltage in mV (R222). -/
def Room.allowed (e : Env) (r : Room) (mv : Nat) : Nat :=
  min (min e.port.imax (r.fld CABLE_LIM_IMAX_MA)) (if mv = 0 then 0 else r.pAvail * 1000000 / mv)

/-- Bits `hi` to `lo` of a word. -/
def bits (w hi lo : Nat) : Nat := w / 2 ^ lo % 2 ^ (hi + 1 - lo)

/-- A word with bits `hi` to `lo` replaced. -/
def setBits (w hi lo v : Nat) : Nat :=
  w - bits w hi lo * 2 ^ lo + v % 2 ^ (hi + 1 - lo) * 2 ^ lo

/-- A Fixed PDO clamped (R223). -/
def Room.clampFixed (e : Env) (r : Room) (w : Nat) : Nat :=
  let mv := 50 * bits w 19 10
  let ok := e.port.vmin ≤ mv && mv ≤ r.fld CON_LIM_VLIM
  let w := setBits w 9 0 (if ok then min (bits w 9 0) (r.allowed e mv / 10) else 0)
  let w := if e.port.epr then w else setBits w 23 23 0
  if e.port.role = 2 then w else setBits w 29 29 0

/-- An SPR PPS APDO clamped (R223). A minimum above 25.5 V, which the field cannot hold, shows as 25.5 V (log 127). -/
def Room.clampPps (e : Env) (r : Room) (w : Nat) : Nat :=
  let hi := min (bits w 24 17) (min (r.fld CON_LIM_VLIM) 21000 / 100)
  let lo := max (bits w 15 8) ((e.port.vmin + 99) / 100)
  let w := setBits (setBits w 24 17 hi) 15 8 (min lo 255)
  setBits w 6 0 (if hi < lo then 0 else min (bits w 6 0) (r.allowed e (100 * hi) / 50))

/-- An SPR AVS APDO clamped (R223). -/
def Room.clampSprAvs (e : Env) (r : Room) (w : Nat) : Nat :=
  let at' (mv f : Nat) := if r.fld CON_LIM_VLIM < mv then 0 else min f (r.allowed e mv / 10)
  setBits (setBits w 19 10 (at' 15000 (bits w 19 10))) 9 0 (at' 20000 (bits w 9 0))

/-- An EPR AVS APDO clamped (R223; log 127). -/
def Room.clampEprAvs (e : Env) (r : Room) (w : Nat) : Nat :=
  let hi := min (bits w 25 17) (r.fld CON_LIM_VLIM / 100)
  let lo := max (bits w 15 8) ((e.port.vmin + 99) / 100)
  let w := setBits (setBits w 25 17 hi) 15 8 (min lo 255)
  setBits w 7 0 (if hi < lo then 0 else min (bits w 7 0) (min r.pAvail (e.port.imax * hi * 100 / 1000000)))

/-- One PDO of published source capabilities, clamped (R223). -/
def Room.clampPdo (e : Env) (r : Room) (w : Nat) : Nat :=
  match bits w 31 30, bits w 29 28 with
  | 0, _ => r.clampFixed e w
  | 3, 0 => r.clampPps e w
  | 3, 1 => r.clampEprAvs e w
  | 3, 2 => r.clampSprAvs e w
  | 1, _ => setBits w 9 0 0
  | 2, _ => setBits w 9 0 0
  | _, _ => w

def Room.clampObj (e : Env) (r : Room) (w : Word) : Word := BitVec.ofNat 32 (r.clampPdo e w.toNat)

/-- Groups of four bytes, least significant first, as words; a shorter rest is dropped. -/
def wordsOf : List Byte → List Word
  | a :: b :: c :: d :: l => (d ++ c ++ b ++ a) :: wordsOf l
  | _ => []

/-- The four bytes of a word, least significant first. -/
def bytesOf (w : Word) : List Byte :=
  [w.extractLsb' 0 8, w.extractLsb' 8 8, w.extractLsb' 16 8, w.extractLsb' 24 8]

/-! ### The acceptance gate (R227 to R230) -/

/-- NEG_V is a voltage of the contract type (R228). -/
def voltageOf (ty mv : Nat) : Bool :=
  match ty with
  | 1 => 5000 ≤ mv && mv ≤ 20000
  | 2 => 3300 ≤ mv && mv ≤ 21000 && mv % 20 = 0
  | 3 => 9000 ≤ mv && mv ≤ 20000 && mv % 100 = 0
  | 4 => mv = 28000 || mv = 36000 || mv = 48000
  | 5 => 15000 ≤ mv && mv ≤ 48000 && mv % 100 = 0
  | _ => false

/-- The gate code of an Accept that answers `re`; 0 lets it pass (R227). `av` is the power available to the port. -/
def Room.gateCode (e : Env) (av : Nat) (re : Nat) (r : Room) : Nat :=
  let ty := r.fld NEG_CTRL_TYPE
  let mv := r.fld NEG_VI_MV
  let ma := r.fld NEG_VI_MA
  match re with
  | 1 =>
    if !r.bit NEG_CTRL_VALID then 1
    else if !voltageOf ty mv || (ty = 2 && ma % 50 != 0) then 2
    else if (ty = 4 || ty = 5 || 20000 < mv) && !r.bit PD_STAT_EPR_ACTIVE then 3
    else if mv < e.port.vmin || r.fld CON_LIM_VLIM < mv then 4
    else if r.allowed e mv < ma then 5
    else if r.modeNoContract e (mv * ma) then 6
    else 0
  | 2 => if e.port.role != 2 || r.bit PD_STAT_EPR_ACTIVE || r.modeNoSwap e || (r.ast = aSnk && av < 8) then 7 else 0
  | 3 => if !r.bit CC_STAT_VCONN_ON && !r.vconnAllowed e then 8 else 0
  | _ => 0

/-! ### Settle criteria (R236) -/

/-- VBUS has been in band for 500 µs. -/
def Room.banded (e : Env) (r : Room) : Bool := due e.now r.con.inBand 500

/-- The settle criterion that applies now (R236). -/
def Room.settled (e : Env) (r : Room) : Bool :=
  match r.fld CON_STAT_SWAP with
  | 1 => r.ast = aSnk && r.cc.vbus ≤ 800
  | 2 => r.ast = aSrc && r.banded e
  | 3 => r.ast = aSnk && r.bit CC_STAT_VBUS_PRESENT
  | 4 => r.ast = aSrc && r.banded e
  | 5 => if r.con.vconnSwap.isNone then due e.now r.pd.vconnAt 1000 else r.ast = aSnk || r.banded e
  | _ =>
    if r.ast = aSnk then true
    else if r.con.trans.isSome then
      2 ≤ r.fld CON_STAT_STEP && r.fld VSET_REF = r.fld VSET_MV && due e.now r.con.reached 500 && r.banded e
    else r.banded e

/-- Power of a voltage and a current, rounded up to 1 W. -/
def wattsUp (mv ma : Nat) : Nat := (mv * ma + 999999) / 1000000

/-! ### Contract transitions (R232 to R235) -/

/-- Step 1 of a contract transition, at the end of the Accept's GoodCRC (R235, R247). -/
def Room.transStart (e : Env) (r : Room) : Room :=
  if r.ast = aSrc then
    let r := if r.fld GRANT_ASK_STATE = 2 then r.setGrant (max r.grant (r.fld GRANT_RESV_W)) else r
    let r := r.endResv
    let r := ((r.toStep e 1).off CON_STAT_SETTLED).off CON_STAT_GIVEUP
    (r.onCon fun c => { c with trans := some e.now, reached := none, giveup := none, capMa := none,
                               transMa := max (r.fld CON_VI_MA) c.negMa, transRp := r.rpMa
                               transBud := r.vsetMa r.grant }).refreshIlim e
  else
    let r := (r.toStep e 1).onCon fun c =>
      { c with trans := some e.now, reached := none, capMa := none, transMa := r.fld CON_VI_MA, transRp := r.rpMa
               transBud := 65535 }
    (r.onConv fun c => { c with draw := 0 }).refreshIlim e

/-- Checks that R245 defers to the end of a transition: a grant below the contract power, VLIM below CON_V. -/
def Room.afterTrans (e : Env) (r : Room) : Room :=
  let r := if r.bit CON_STAT_ENFORCED && !r.overGrant then (r.off CON_STAT_ENFORCED).refreshIlim e else r
  let r := (r.grantFell e).refreshVlim e
  if r.vlimLow then r.vlimDrop e else r

/-- The end of a contract transition (R231, R233, R235 step 5). -/
def Room.transEnd (e : Env) (r : Room) : Room :=
  let c := r.con
  let r := (((((r.on PD_STAT_EXPLICIT).put CON_VI_MV c.negMv).put CON_VI_MA c.negMa).put CON_STAT_TYPE c.negType).put
    CON_STAT_POS c.negPos)
  let r := (((r.on CON_EVENT_CONTRACT).on EVENT_CONTRACT).off CON_STAT_STEP).off PD_STAT_HR_COUNT
  let r := r.onCon fun c => { c with trans := none, reached := none }
  if r.ast = aSrc then
    let keep := max (wattsUp c.negMv c.negMa) (r.fld PORT_BUD_FLOOR_W)
    let r := if keep < r.grant then r.setGrant keep else r
    let r := if r.fld PD_STAT_REV_SOP = 2 && !r.bit PD_STAT_SINKTX then r.put CC_STAT_RP_ADV 2 else r
    (r.onCc fun c => { c with rpLower := none }).refreshIlim e |>.afterTrans e
  else r.refreshIlim e

/-- The reference equals VSET: RAMPING clears (R235, step 3). -/
def Room.refReached (e : Env) (r : Room) : Room :=
  let r := r.refreshRamp e (r.fld VSET_MV)
  if r.con.trans.isSome && r.fld CON_STAT_STEP = 2 then
    (r.toStep e 3).onCon fun c => { c with reached := some e.now }
  else r

/-! ### Swaps (R250 to R258) -/

/-- The hardware keeps VCONN across the state change of a role swap (R680). -/
def Room.keepVconn (r : Room) : Room := if r.bit CC_STAT_VCONN_ON then r.on VCONN_CTRL_EN else r

/-- ATTACHED_SRC to ATTACHED_SNK in a swap: Rp to Rd, orientation kept (R156, R251, R255). -/
def Room.toSink (e : Env) (r : Room) : Room :=
  let r := (r.keepVconn.loopOff).enterA e aSnk
  ((r.onCc fun c => { c with swapTerm := some e.now, rpLower := none }).onConv fun c =>
    { c with dirDue := some true, draw := 0 }).implicitVi e

/-- ATTACHED_SNK to ATTACHED_SRC in a swap: Rd to Rp at the level of the grant (R141, R156, R251, R256). -/
def Room.toSource (e : Env) (r : Room) : Room :=
  let lvl := if 15 ≤ r.grant && 3000 ≤ e.port.imax then 2 else 1
  let r := ((r.keepVconn).put CC_STAT_RP_ADV lvl).enterA e aSrc
  let r := (r.put VSET_MV 5000).onCc fun c => { c with swapTerm := some e.now }
  r.implicitVi e

/-- The forward loop of a port that becomes source with its switch closed (R251 step 3, R281, R284). -/
def Room.swapForward (e : Env) (r : Room) : Room :=
  if r.loop = lReverse then r.onConv fun c => { c with dirDue := some false } else r.loopStart e

/-- A reservation asked by the hardware: held until the swap step that takes it (R225, R251, R256). -/
def Room.hwAsk (e : Env) (w : Nat) (r : Room) : Room := r.ask e w false

/-- Step 1 of a power role swap, at the end of the Accept's GoodCRC (R251). -/
def Room.prSwapStart (e : Env) (r : Room) : Room :=
  let r := (r.off CON_STAT_SETTLED).onCc fun c => { c with lostOff := true, swapTerm := none }
  if r.ast = aSrc then
    ((r.put CON_STAT_SWAP 1).toStep e 1).onCon fun c => { c with swapAt := e.now, swapWait := none }
  else
    let r := ((r.put CON_STAT_SWAP 2).toStep e 2).onCon fun c =>
      { c with swapAt := e.now, swapWait := some e.now }
    (r.hwAsk e 15).onConv fun c => { c with draw := 0 }

/-- Step 1 of a VCONN_Swap: the present VCONN source is to stop and waits for PS_RDY (R258). -/
def Room.vconnSwapStart (e : Env) (r : Room) : Room :=
  let stops := r.bit CC_STAT_VCONN_ON
  ((r.put CON_STAT_SWAP 5).toStep e 1).onCon fun c =>
    { c with swapAt := e.now, vconnSwap := if stops then some e.now else none }

/-- The Accept that ends a request exchange, sent or received: the transition or swap it starts (R232). -/
def Room.accepted (e : Env) (re : Nat) (r : Room) : Room :=
  match re with
  | 1 => r.transStart e
  | 2 => r.prSwapStart e
  | 3 => r.vconnSwapStart e
  | _ => r

/-- Fast Role Swap is ready, but for the keeper (R254). -/
def Room.frsReady (e : Env) (r : Room) : Bool :=
  r.bit FRS_CTRL_ARM && e.port.role = 2 && r.fld PD_STAT_REV_SOP = 2 && r.explicit && r.fld CON_STAT_TYPE = 1 &&
  r.fld CON_VI_MV = 5000 && r.fld CON_STAT_SWAP = 0 && !r.bit CON_STAT_HR_SEQ && r.con.trans.isNone

/-- Step 1 of a Fast Role Swap signalled by this port (R255). -/
def Room.frsTrigger (e : Env) (r : Room) : Room :=
  let r := ((r.loopOff.midRail).put CON_STAT_SWAP 3).toStep e 1
  let r := ((r.on CON_EVENT_FRS_TX).off CON_STAT_SETTLED).onCon fun c => { c with swapAt := e.now, frsTx := some e.now }
  r.onCc fun c => { c with lostOff := true, swapTerm := none }

/-- The swap step at the end of the GoodCRC for this port's PS_RDY (R231, R251, R255, R256, R258). -/
def Room.psRdySent (e : Env) (r : Room) : Room :=
  match r.fld CON_STAT_SWAP with
  | 1 => (r.toStep e 5).onCon fun c => { c with swapWait := some e.now }
  | 2 => r.swapDone e
  | 3 => (r.toStep e 6).onCon fun c => { c with swapWait := some e.now }
  | 4 => r.swapDone e
  | 5 => if r.con.vconnSwap.isNone then r.swapEnd e else r
  | _ => if r.ast = aSrc && r.con.trans.isSome then r.transEnd e else r

/-- The grant goes back and the draw follows R247 once a swap to sink is complete. -/
def Room.sinkDone (e : Env) (r : Room) : Room := ((r.swapDone e).setGrant 0).refreshIlim e

/-- A received PS_RDY (R231, R247, R251, R255, R256, R258). -/
def Room.psRdyReceived (e : Env) (r : Room) : Room :=
  match r.fld CON_STAT_SWAP with
  | 1 => if r.fld CON_STAT_STEP = 5 then r.sinkDone e else r
  | 2 =>
    if r.ast = aSnk then
      let r := if r.fld GRANT_ASK_STATE = 2 then r.setGrant (max r.grant (r.fld GRANT_RESV_W)) else r
      let r := r.endResv
      if r.grant < 8 then r.errorRecovery e
      else (((r.toSource e).swapForward e).toStep e 3).onCon fun c => { c with swapWait := none }
    else r
  | 3 => if r.fld CON_STAT_STEP = 6 then r.sinkDone e else r
  | 4 => if r.ast = aSnk then ((r.toSource e).toStep e 6).onCon fun c => { c with swapWait := none } else r
  | 5 =>
    if r.con.vconnSwap.isSome then
      (((r.off VCONN_CTRL_EN).onCc fun c => { c with gaveVconn := true }).vconn e).swapEnd e
    else r
  | _ => if r.ast = aSnk && r.con.trans.isSome then r.transEnd e else r

end Sys2Proof.Machine
end

