-- ==== Sys2Proof/Machine/TimerOps.lean ====
section
/-! DEFINITION. Machine/TimerOps.lean: the time base, the eight timers of every Room and Landing and the energy counters
(12_timers_snapshot.md, R410 to R426). -/

namespace Sys2Proof

/-- Offset of timer 0 of a block, and of its TMR_FLAG (R418). -/
def TmrBlock.base : TmrBlock → Nat
  | .room _ => 0x300
  | .land _ => 0x200
def TmrBlock.flag : TmrBlock → Nat
  | .room _ => 0x3D0
  | .land _ => 0x1C0

/-- A field of timer `n`. -/
def TmrBlock.f (k : TmrBlock) (f : Field) (n : Nat) : Field := f.shift (k.base + 16 * n)

end Sys2Proof

namespace Sys2Proof.Machine

/-! ### The time base (R410 to R412) -/

/-- TB_HI:TB_LO (R410). -/
def State.tb (s : State) : Nat := s.fld TB_LO_TB + 2 ^ 32 * (s.regs.get 0x104).toNat

/-- Write both halves at once (R410). -/
def State.setTb (s : State) (v : Nat) : State :=
  { s with regs := (s.regs.set 0x100 (BitVec.ofNat 32 v)).set 0x104 (BitVec.ofNat 32 (v / 2 ^ 32)) }

/-- An activation is scheduled (UPD_STAT.SCHEDULED). -/
def State.scheduled (s : State) : Bool := s.bit UPD_STAT_SCHEDULED

/-- A write of 1 to TB_CTRL.LOAD (R412): refused with an activation scheduled and in a pair member without the Key
claim, else taken at the next tick. -/
def State.loadTb (s : State) : State :=
  if s.scheduled || (s.pairMode && s.pair.claims = 0) then s.on TB_CTRL_LOAD_REFUSED
  else s.onClk fun c => { c with loadDue := true }

/-! ### One block of timers -/

/-- The routes that the Plan gives a block (R112). -/
def Plan.routes (p : Plan) : TmrBlock → List TimerRoute
  | .room q => p.timers.filter fun r => !r.landing && r.index = q.val
  | .land b => p.timers.filter fun r => r.landing && r.index = b.val

/-- The register bank of a block. -/
def State.tmrRegs (s : State) : TmrBlock → Regs
  | .room p => (s.room p).regs
  | .land b => (s.land b).regs
def State.setTmrRegs (s : State) (k : TmrBlock) (m : Regs) : State :=
  match k with
  | .room p => s.onRoom p fun r => { r with regs := m }
  | .land b => s.onLand b fun l => { l with regs := m }

/-- The timers of a block run: tick runs, the Room is present and no follower, and this chip is no shadow (R425, R55,
R60, R415). -/
def State.tmrRuns (s : State) : TmrBlock → Bool
  | .room p => s.live p
  | .land b => s.booted && s.keeps (wingOfLand b)

/-- Count of a timer (R418): TB_LO for TIME, else its own counter. -/
def tmrCount (k : TmrBlock) (tb : Nat) (m : Regs) (n : Nat) : Nat :=
  if m.fld (k.f TMR_CTRL_SRC n) = 0 then tb % 2 ^ 32 else m.fld (k.f TMR_CNT_VALUE n)

/-- A timer with EN 1 whose count has reached its compare, and which has not ended as one-shot (R419, R420). -/
def tmrDue (k : TmrBlock) (tb : Nat) (m : Regs) (n : Nat) : Bool :=
  m.fld (k.f TMR_CTRL_EN n) = 1 && m.fld (k.f TMR_CTRL_DONE n) = 0 &&
    (tmrCount k tb m n + 2 ^ 32 - m.fld (k.f TMR_CMP_VALUE n)) % 2 ^ 32 < 2 ^ 31

/-- OUT after a write of TMR_CTRL or a change of DONE (R421): one-shot, EN and not DONE; periodic, 0 while EN is 0. -/
def tmrOut (k : TmrBlock) (m : Regs) (n : Nat) : Regs :=
  let en := m.fld (k.f TMR_CTRL_EN n)
  m.put (k.f TMR_CTRL_OUT n)
    (if m.fld (k.f TMR_CTRL_MODE n) = 0 then (if en = 1 && m.fld (k.f TMR_CTRL_DONE n) = 0 then 1 else 0)
     else if en = 0 then 0 else m.fld (k.f TMR_CTRL_OUT n))

/-- Set FIRED, and OVERRUN where FIRED is already 1 or a period was skipped (R420, R421). -/
def tmrFlag (k : TmrBlock) (m : Regs) (n : Nat) (skipped : Bool) : Regs :=
  let fl : Field := { TMR_FLAG_FIRED with off := k.flag }
  let ov : Field := { TMR_FLAG_OVERRUN with off := k.flag }
  let was := (m.fld fl).testBit n
  let m := if was || skipped then m.put ov (m.fld ov ||| 2 ^ n) else m
  m.put fl (m.fld fl ||| 2 ^ n)

/-- The firing itself (R420, R421). -/
def tmrFire (k : TmrBlock) (tb : Nat) (m : Regs) (n : Nat) : Regs :=
  let per := m.fld (k.f TMR_PER_VALUE n)
  let cmp := m.fld (k.f TMR_CMP_VALUE n)
  let late := (tmrCount k tb m n + 2 ^ 32 - cmp) % 2 ^ 32
  let periodic := m.fld (k.f TMR_CTRL_MODE n) = 1
  let steps := late / max per 1 + 1
  let m := tmrFlag k m n (periodic && per != 0 && steps != 1)
  let m := if periodic && per != 0 then m.put (k.f TMR_CMP_VALUE n) ((cmp + steps * per) % 2 ^ 32)
    else m.put (k.f TMR_CTRL_DONE n) 1
  if periodic then m.put (k.f TMR_CTRL_OUT n) (1 - m.fld (k.f TMR_CTRL_OUT n)) else tmrOut k m n

/-- A reset route acts on its target (R422, R423). -/
def tmrReset (k : TmrBlock) (m : Regs) (d : Nat) : Regs :=
  if m.fld (k.f TMR_CTRL_RST_EN d) = 1 && m.fld (k.f TMR_CTRL_SRC d) != 0 then
    let m := (m.put (k.f TMR_CNT_VALUE d) 0).put (k.f TMR_CTRL_DONE d) 0
    let m := if m.fld (k.f TMR_CTRL_MODE d) = 1 then m.put (k.f TMR_CMP_VALUE d) (m.fld (k.f TMR_PER_VALUE d)) else m
    tmrOut k m d
  else m

/-- OUT of the eight timers of a block, a bit each. -/
def tmrOuts (k : TmrBlock) (m : Regs) : Nat :=
  (List.range 8).foldl (fun a n => a + m.fld (k.f TMR_CTRL_OUT n) * 2 ^ n) 0

/-- The gate of a target lets it count (R422): `outs` holds the OUT of the sources before this tick (R423). -/
def tmrGate (k : TmrBlock) (routes : List TimerRoute) (outs : Nat) (m : Regs) (n : Nat) : Bool :=
  match routes.find? fun r => r.dst = n && r.kind = 1 with
  | none => true
  | some r => m.fld (k.f TMR_CTRL_GATE_EN n) = 0 ||
      (outs.testBit r.src != (m.fld (k.f TMR_CTRL_GATE_POL n) = 1))

/-- A clock route advances its target by 1 where the target's gate lets it count (R422; log 157). -/
def tmrClock (k : TmrBlock) (routes : List TimerRoute) (outs : Nat) (m : Regs) (d : Nat) : Regs :=
  if m.fld (k.f TMR_CTRL_EN d) = 1 && m.fld (k.f TMR_CTRL_SRC d) = 2 && tmrGate k routes outs m d then
    m.put (k.f TMR_CNT_VALUE d) ((m.fld (k.f TMR_CNT_VALUE d) + 1) % 2 ^ 32)
  else m

/-- The timers of a block that are due. -/
def tmrDues (k : TmrBlock) (tb : Nat) (m : Regs) : List Nat := (List.range 8).filter (tmrDue k tb m)

/-- The firings `ns` of one tick, then their reset routes, then their clock routes (R423). -/
def tmrFireRoutes (k : TmrBlock) (routes : List TimerRoute) (outs tb : Nat) (ns : List Nat) (m : Regs) : Regs :=
  let m := ns.foldl (fun m n => tmrFire k tb m n) m
  let m := (routes.filter fun r => ns.contains r.src && r.kind = 2).foldl (fun m r => tmrReset k m r.dst) m
  (routes.filter fun r => ns.contains r.src && r.kind = 3).foldl (fun m r => tmrClock k routes outs m r.dst) m

/-- The advances that a tick drives (R418, R423 step 1): every timer with SRC = TICK, by the gates as they stood. -/
def tmrTick (k : TmrBlock) (routes : List TimerRoute) (m : Regs) : Regs :=
  (List.range 8).foldl (fun x n =>
    if m.fld (k.f TMR_CTRL_EN n) = 1 && m.fld (k.f TMR_CTRL_SRC n) = 1 && tmrGate k routes (tmrOuts k m) m n then
      x.put (k.f TMR_CNT_VALUE n) ((m.fld (k.f TMR_CNT_VALUE n) + 1) % 2 ^ 32)
    else x) m

/-- The gates' view of the sources in the present tick. -/
def State.tmrOuts (s : State) : TmrBlock → Nat
  | .room p => (s.room p).outs
  | .land b => (s.land b).outs

/-- The tick of one block of timers, where it runs. -/
def State.tmrTick (s : State) (k : TmrBlock) : State :=
  if !s.tmrRuns k then s
  else
    let m := s.tmrRegs k
    let s := s.setTmrRegs k (Machine.tmrTick k (s.pl.routes k) m)
    match k with
    | .room p => s.onRoom p fun r => { r with outs := Machine.tmrOuts k m }
    | .land b => s.onLand b fun l => { l with outs := Machine.tmrOuts k m }

/-- The tick of every block of timers. -/
def State.tmrTicks (s : State) : State :=
  let s := (List.finRange 48).foldl (fun s p => s.tmrTick (.room p)) s
  (List.finRange 6).foldl (fun s b => s.tmrTick (.land b)) s

/-- ROUTE_G, ROUTE_R and ROUTE_C as the applied Plan defines them (R422). -/
def tmrShowRoutes (k : TmrBlock) (routes : List TimerRoute) (m : Regs) : Regs :=
  routes.foldl (fun m r => m.put (k.f (if r.kind = 1 then TMR_CTRL_ROUTE_G else if r.kind = 2 then TMR_CTRL_ROUTE_R
    else TMR_CTRL_ROUTE_C) r.dst) 1) m

/-! ### Writes of the timer registers -/

/-- What follows a write of TMR_CTRL (R420, R421): a rise of EN clears DONE; OUT follows. -/
def tmrCtrlAfter (k : TmrBlock) (n : Nat) (wasEn : Nat) (m : Regs) : Regs :=
  let m := if wasEn = 0 && m.fld (k.f TMR_CTRL_EN n) = 1 then m.put (k.f TMR_CTRL_DONE n) 0 else m
  tmrOut k m n

/-- The place of a timer register. -/
def tmrLoc (k : TmrBlock) (off : Nat) : Loc :=
  match k with
  | .room p => .roomReg p.val off
  | .land b => .land b.val off

/-- A write of TMR_CTRL, TMR_CMP, TMR_CNT or TMR_PER of timer `n`, register `reg` 0 to 3 (R418, R420). A write of CNT is
ignored while SRC is TIME. -/
def State.writeTmr (s : State) (k : TmrBlock) (n reg : Nat) (v : Word) : State :=
  let l := tmrLoc k (k.base + 16 * n + 4 * reg)
  let m := s.tmrRegs k
  if reg = 2 && m.fld (k.f TMR_CTRL_SRC n) = 0 then s
  else
    let was := m.fld (k.f TMR_CTRL_EN n)
    let s := s.writeReg l v
    if reg = 0 then s.setTmrRegs k (tmrCtrlAfter k n was (s.tmrRegs k)) else s

/-- A write reaches the timers of a block: boot complete; a Room that is present and no follower. -/
def State.tmrThere (s : State) : TmrBlock → Bool
  | .room p => s.whole p
  | .land _ => s.booted

/-! ### Energy counters (R426) -/

/-- EOUT or EIN as one 48-bit count: the register pair at an offset. -/
def Room.e48 (r : Room) (off : Nat) : Nat := (r.regs.get off).toNat + 2 ^ 32 * ((r.regs.get (off + 4)).toNat % 2 ^ 16)
def Room.putE48 (r : Room) (off v : Nat) : Room :=
  { r with regs := (r.regs.set off (BitVec.ofNat 32 v)).set (off + 4) (BitVec.ofNat 32 (v / 2 ^ 32 % 2 ^ 16)) }

/-- A common multiple of the 40 values of RSENSE (R102), in which the shunt currents add without rounding. -/
abbrev shuntLcm : Nat := 5342931457063200

/-- Port current of a member in units of 300 A ÷ 2,048 ÷ `shuntLcm` (R273). -/
def State.exactCurrent (s : State) (m : Nat) : Int :=
  let rs := (s.pl.entry m).rsense
  if rs = 0 then 0 else sgn12 ((s.room (Fin.ofNat 48 m)).fld ADC_I_AVG) * ((shuntLcm / rs : Nat) : Int)

/-- One addition to EOUT or EIN, with the remainder below 1 mJ carried exactly (R426; log 38): 10 µs at 225/16 mV and the
unit of `exactCurrent`, in units of which 1 mJ holds 32,768 × 10¹² × `shuntLcm`. -/
def Room.addEnergy (q : Int) (r : Room) : Room :=
  let unit := 32768 * 1000000000000 * shuntLcm
  let x := q.natAbs * 225 * 3000000000
  if q > 0 then
    let t := r.eoutRem + x
    { r.putE48 0x3C0 ((r.e48 0x3C0 + t / unit) % 2 ^ 48) with eoutRem := t % unit }
  else if q < 0 then
    let t := r.einRem + x
    { r.putE48 0x3C8 ((r.e48 0x3C8 + t / unit) % 2 ^ 48) with einRem := t % unit }
  else r

end Sys2Proof.Machine
end

