-- ==== Sys2Proof/Machine/Views.lean ====
section
/-! DEFINITION. Machine/Views.lean: the value that a register shows where other state decides it, and the conditions of
the event lines (R397, R607). A view reads and changes nothing. -/

namespace Sys2Proof

/-- Put a value into a field's place of a word. -/
def Field.into (f : Field) (v : Nat) (w : Word) : Word := (w &&& ~~~f.mask) ||| (BitVec.ofNat 32 v <<< f.lsb &&& f.mask)

end Sys2Proof

namespace Sys2Proof.Machine

/-- Debug access is enabled (R614): ATTIC_LOCK.DEBUG is 0. -/
def State.debugOn (s : State) : Bool := !(s.fld ATTIC_LOCK_LOCK).testBit 8

/-- A core of the block. -/
def State.core (s : State) : CoreId → Core
  | .room p => (s.room p).core
  | .hall => s.hall

/-! ### The Room -/

/-- Time to the next attempt in ms (RETRY_STAT.NEXT). -/
def Room.nextMs (now : Nat) (r : Room) : Nat :=
  match r.conv.retryAt with
  | some t => if r.bit RETRY_STAT_WAIT && !r.conv.thermal then
      min ((t + 100000 * r.fld RETRY_CFG_PER * r.conv.retryK - now) / 1000) 65535 else 0
  | none => 0

/-- STATUS as read: STATE (R161, R232), FAULT_ANY, and KEEPER, which in pair mode follows the ownership (R491). -/
def State.statusWord (s : State) (p : Fin 48) : Word :=
  let r := s.room p
  let w := r.regs.get 0x008
  let w := STATUS_STATE.into r.stateCode w
  let w := STATUS_FAULT_ANY.into (decide (r.regs.get 0x00C != 0)).toNat w
  if s.pairMode then STATUS_KEEPER.into (s.keeps (wingOf p)).toNat w else w

/-- The conditions of the Room event lines (R397): bit n for line n. -/
def Room.lines (r : Room) : Nat :=
  let any (w : Word) (fs : List Field) : Bool := fs.any fun f => f.of w != 0
  let ev := r.regs.get 0x010
  let pd := r.regs.get 0x08C
  let cc := r.regs.get 0x058
  let tmr := (List.range 8).any fun n =>
    (r.fld TMR_FLAG_FIRED).testBit n && r.regs.fld (TMR_CTRL_IE.shift (0x300 + 16 * n)) = 1
  let c : List Bool := [false, EVENT_FAULT.of ev != 0, any ev [EVENT_SAFE_ENTER, EVENT_SAFE_EXIT],
    EVENT_MODE_APPLIED.of ev != 0, any pd [PD_EVENT_HR_RX, PD_EVENT_HR_TX, PD_EVENT_SR_RX, PD_EVENT_ERR_RECOVERY],
    r.fld PD_STAT_RXQ_COUNT != 0, any pd [PD_EVENT_TX_DONE, PD_EVENT_TX_REJ, PD_EVENT_TX_HELD],
    any cc [CC_EVENT_ATTACH_SRC, CC_EVENT_ATTACH_SNK, CC_EVENT_DETACH], r.regs.get 0x170 != 0,
    r.bit EV_LATCH_GRANT_UPD, EVENT_THERM_WARN.of ev != 0, tmr,
    PD_EVENT_CABLE_DONE.of pd != 0 || any cc [CC_EVENT_RP_CHANGE, CC_EVENT_PARTNER_CHANGE, CC_EVENT_VCONN_OC],
    r.fld PD_STAT_VDMIN_COUNT != 0, r.regs.get 0x234 != 0, r.fld DOORBELL_DB != 0]
  (List.range 16).foldl (fun a n => if c.getD n false then a + 2 ^ n else a) 0

/-- CORE_STAT as read (11_sequencer_isa.md); a halt of debug shows as HALTED. -/
def Core.statWord (c : Core) : Word :=
  let w := CORE_STAT_STATE.into (if c.halted then 3 else c.state) 0
  let w := CORE_STAT_IN_EVT.into c.inEvt.toNat w
  let w := CORE_STAT_STAGE_DIRTY.into c.dirty.toNat w
  let w := CORE_STAT_RPT_ACTIVE.into (decide (c.rep != 0)).toNat w
  let w := CORE_STAT_EXT_COPY.into c.extCopy.toNat w
  CORE_STAT_LC.into c.lc (CORE_STAT_TRAP_CODE.into c.trap w)

/-- CORE_EVC, and the EVC register of a core, as read. -/
def Core.evcWord (c : Core) : Word :=
  let w := CORE_EVC_LINE.into c.evLine 0
  let w := CORE_EVC_RPT.into c.evRpt.toNat w
  let w := CORE_EVC_IN_EVT.into c.inEvt.toNat w
  if c.evLine = 0 then CORE_EVC_TRAP.into c.evTrap w else w

/-- The count of a timer as TMR_CNT shows it (R418). -/
def tmrView (k : TmrBlock) (tb : Nat) (m : Regs) (off : Nat) : Word :=
  let n := (off - k.base) / 16
  if off % 16 = 8 && k.base ≤ off && off < k.base + 128 then BitVec.ofNat 32 (tmrCount k tb m n) else m.get off

/-- A Room register of a whole port as read. SETTLED follows the settle criterion; FRS_READY of a shadow follows the mirrored
contract (R236, R254, R263; log 144). The charge pump is disconnected in a shadow (R287), and counts as charged where it is
connected (log 145). -/
def State.roomView (s : State) (p : Fin 48) (o : Nat) : Word :=
  let r := s.room p
  if o = 0x008 then s.statusWord p
  else if o = 0x04C then CC_STAT_MIRRORED.into (s.pairMode && !s.keeps (wingOf p)).toNat (r.regs.get o)
  else if o = 0x148 then
    let e := s.env p
    CON_STAT_SETTLED.into (if e.keeper then r.attached && r.settled e else r.bit CON_STAT_SETTLED).toNat
      (CON_STAT_FRS_READY.into (r.frsReady e).toNat (r.regs.get o))
  else if o = 0x280 then
    let k := s.keeps (wingOf p)
    SW_STAT_DISCONNECTED.into (!k).toNat (SW_STAT_CP_OK.into k.toNat (r.regs.get o))
  else if o = 0x294 then RETRY_STAT_NEXT.into (r.nextMs s.now) (r.regs.get o)
  else if 0x300 ≤ o && o < 0x380 then tmrView (.room p) s.tb r.regs o
  else if o = 0x384 then r.core.statWord
  else if o = 0x388 then r.core.pc
  else if o = 0x394 then BitVec.ofNat 32 r.lines
  else if o = 0x3A4 then r.core.epc
  else if o = 0x3A8 then r.core.evcWord
  else if o = 0x390 then EV_EN_TRAP.into 1 (r.regs.get o)
  else r.regs.get o

/-- A follower answers as an absent port outside these offsets (R55). -/
def followerReg (o : Nat) : Bool := o < 0x040 || (0x1C0 ≤ o && o < 0x280)

/-- A Room register as read (R55, R56, R60). -/
def State.roomRead (s : State) (p : Fin 48) (o : Nat) : Word :=
  if o = 0 then (s.room p).regs.get 0
  else if !(s.pl.port p.val).present then 0
  else if s.pl.follower p.val then
    (if followerReg o && o != 0x00C && o != 0x010 then s.roomView p o else 0)
  else s.roomView p o

/-! ### Budget nodes -/

/-- BUD_LIMIT of a node as read: a limit that the Plan does not give reads 0xFFFF. -/
def State.limitWord (s : State) (n : Node) : Word :=
  BUD_LIMIT_AVAIL_W.into (min (s.avail n) 65535) (BUD_LIMIT_LIMIT_W.into (s.nodeLimit n) 0)

/-- Grants and reservations below a node (BUD_STAT.GRANTED_W). -/
def State.granted (s : State) (n : Node) : Nat := s.sumDemand n (fun _ => true) + s.chargerAt n

/-- BUD_STAT of a node as read. -/
def State.budStat (s : State) (n : Node) : Word :=
  let w := BUD_STAT_GRANTED_W.into (min (s.granted n) 65535) 0
  let w := BUD_STAT_SHORT.into (s.nodeShort n).toNat w
  let w := BUD_STAT_THERM.into (s.nodeTherm n).toNat w
  BUD_STAT_BAL_MISMATCH.into (s.nodeFld n BUD_STAT_BAL_MISMATCH) w

/-- A register of a node's group as read, by its offset in the group. -/
def State.nodeView (s : State) (n : Node) (o : Nat) : Word :=
  match o with
  | 0 => s.limitWord n
  | 4 => BUD_CAP0_ESSENTIAL.into (s.regCap n 1) (BUD_CAP0_EGRESS.into (s.regCap n 0) 0)
  | 8 => BUD_CAP1_COMFORT.into (s.regCap n 2) 0
  | _ => s.budStat n

/-! ### Landing and Wing -/

/-- Time to the next attempt of a slot in units of 10 ms (HS_STAT.NEXT). -/
def Landing.next10 (now : Nat) (l : Landing) : Nat :=
  match l.retryAt with
  | some t => if l.st = hRetry then min ((t + 100000 * l.fld HS_RETRY_PER * l.retryK - now) / 10000) 4095 else 0
  | none => 0

/-- Bits 8 + i of LAND_WDT_STAT: two restarts of Room 8b + i within 10 s. -/
def State.seconds (s : State) (b : Fin 6) : Nat :=
  (portsOf b).foldl (fun a p =>
    if 2 ≤ ((s.room p).restarts.filter fun t => s.now < t + 10000000).length then a + 2 ^ (p.val % 8) else a) 0

/-- SUBST of LAND_SENSE (R597). -/
def State.substs (s : State) (b : Fin 6) : Nat :=
  (List.range 4).foldl (fun a k =>
    if (portsOf b).any fun p => p.val % 8 / 2 = k && (s.room p).conv.subst then a + 2 ^ k else a) 0

/-- A slot is mirrored (R334): the peer keeps its Wing. -/
def State.mirrored (s : State) (b : Fin 6) : Bool := s.pairMode && !s.keeps (wingOfLand b)

/-- HS_STAT as read. -/
def State.hsStat (s : State) (b : Fin 6) : Word :=
  let l := s.land b
  HS_STAT_MIRRORED.into (s.mirrored b).toNat (HS_STAT_NEXT.into (l.next10 s.now) (l.regs.get 0x50))

/-- A Landing register as read. -/
def State.landView (s : State) (b : Fin 6) (o : Nat) : Word :=
  let l := s.land b
  if o = 0x50 then s.hsStat b
  else if 0xC0 ≤ o && o < 0xD0 then s.nodeView (.land b) (o - 0xC0)
  else if o = 0x144 then LAND_WDT_STAT_SECOND.into (s.seconds b) (l.regs.get o)
  else if o = 0x14C then LAND_SENSE_SUBST.into (s.substs b) (l.regs.get o)
  else if 0x200 ≤ o && o < 0x280 then tmrView (.land b) s.tb l.regs o
  else l.regs.get o

/-- A Wing register as read. -/
def State.wingView (s : State) (w : Fin 2) (o : Nat) : Word :=
  if 0xC0 ≤ o && o < 0xD0 then s.nodeView (.wing w) (o - 0xC0) else (s.wing w).regs.get o

/-! ### Forwarded bits and Hall event lines (R64, R448, R607) -/

/-- EVENT bits of a port that EVENT_EN forwards (R64). -/
def Room.forwarded (r : Room) : Nat := r.regs.get 0x010 &&& r.regs.get 0x014 |>.toNat

/-- The HS_EVENT bits that are forwarded: PG_ON, PG_OFF, FAULT and EXHAUSTED. -/
def Landing.forwarded (l : Landing) : Nat :=
  (l.regs.get 0x64).toNat &&& (2 ^ 2 + 2 ^ 3 + 2 ^ 4 + 2 ^ 8)

/-- The Landing timers whose FIRED and IE are set (R421). -/
def Landing.fired (l : Landing) : Nat :=
  (List.range 8).foldl (fun a n =>
    if (l.regs.fld { TMR_FLAG_FIRED with off := 0x1C0 }).testBit n &&
      l.regs.fld (TMR_CTRL_IE.shift (0x200 + 16 * n)) = 1 then a + 2 ^ n else a) 0

/-- The PANTRY_EVENT bits that are forwarded: FAULT, TERMINATED, BATT_ON, BATT_OFF and BAT_LOW. -/
def State.panForwarded (s : State) : Nat := (s.regs.get 0x50038).toNat &&& (1 + 2 ^ 2 + 2 ^ 3 + 2 ^ 4 + 2 ^ 5)

/-- The ports with a forwarded bit (EVR_PORT0, EVR_PORT1). -/
def State.evrPorts (s : State) : Nat :=
  (List.finRange 48).foldl (fun a p => if (s.room p).forwarded != 0 then a + 2 ^ p.val else a) 0

/-- Whether Hall line `n` is pending, whatever EVEN holds (R607; the Porch's commands are executed as they arrive, log 48). -/
def State.hallLine (s : State) (n : Nat) : Bool :=
  let land (b : Fin 6) : Bool :=
    (portsOf b).any (fun p => (s.room p).forwarded != 0) || (s.land b).forwarded != 0 || (s.land b).fired != 0 ||
      (s.land b).regs.get 0x148 != 0
  let fw (n : Nat) : Bool := match s.links[n]? with | some k => k.cmd.isSome | none => false
  if n = 1 then s.bit HB_STAT_MISS
  else if n = 2 then s.bit FIRE_CFG_FIRE
  else if n = 3 then s.mode.changed
  else if 4 ≤ n && n ≤ 9 then land (Fin.ofNat 6 (n - 4))
  else if n = 10 || n = 11 then
    let w := s.wing (Fin.ofNat 2 (n - 10))
    w.regs.get 0x100 != 0 || w.regs.get 0x108 != 0
  else if n = 12 then s.regs.get 0x3001C != 0
  else if n = 13 then s.panForwarded != 0
  else if n = 14 then s.regs.get 0x6001C != 0
  else if n = 15 || n = 16 then fw (n - 15)
  else if n = 18 then s.bit TC_STAT_DONE || s.regs.fld (TC_STAT_DONE.shift 0x40) != 0
  else if n = 19 then s.bit JNL_RESULT_DONE
  else if n = 20 then s.bit ATTIC_RESULT_DONE
  else if n = 21 then s.regs.get 0x94 != 0
  else if n = 22 then s.bit SNAP_CTRL_MISSED
  else if n = 23 then allNodes.any s.nodeShort
  else if n = 24 then s.hallErr
  else false

/-- EVR_PEND: bits 31 to 1. -/
def State.hallLines (s : State) : Nat := (List.range 32).foldl (fun a n => if s.hallLine n then a + 2 ^ n else a) 0

/-! ### Hall -/

/-- The unscrambled secret `k` (R518, R519). -/
def Attic.secret (a : Attic) (k : Nat) : List Word :=
  Config.unscramble (a.shadow.get 1 ++ a.shadow.get 0) ((List.range 8).map fun i => a.shadow.get (72 + 8 * k + i))

/-- A logical word as the window of R517 shows it (R519, ATTIC_WORD). -/
def State.atticWord (s : State) (w : Nat) : Word :=
  if 72 ≤ w && w < 88 then 0
  else if 128 ≤ w && (s.fld ATTIC_LOCK_LOCK).testBit 7 then 0
  else s.attic.shadow.get w

/-- KCV of secret `k` (R520). -/
def State.kcv (s : State) (k : Nat) : Nat :=
  if (s.fld ATTIC_LOCK_LOCK).testBit 3 || !(s.attic.shadow.get 16).getLsbD (8 + k) then 0
  else (Config.kcv (s.attic.secret k)).toNat

/-- A byte of the Cellar; an unlisted byte is an erased 0xFF. -/
def cellarByte (m : Mem) (a : Nat) : Byte := ~~~(m.get a)

/-- Size of the Cellar device in bytes (CEL_ID.DENSITY). -/
def State.cellarSize (s : State) : Nat := if s.bit CEL_STAT_READY then 33554432 * 2 ^ s.fld CEL_ID_DENSITY else 0

/-- A word whose first byte is least significant. -/
def wordLE (f : Nat → Byte) : Word := f 3 ++ f 2 ++ f 1 ++ f 0
/-- A word whose first byte is most significant. -/
def wordBE (f : Nat → Byte) : Word := f 0 ++ f 1 ++ f 2 ++ f 3

/-- A stored body or digest word as PLAN_RD_DATA and FW_RD_DATA show it (R132, FW_RD_ADDR): the body from byte 0 on, the
digest from `dig` on. -/
def storeWord (body digest : List Byte) (dig a : Nat) : Word :=
  if a < dig then (if a < body.length then wordLE fun i => body.getD (a + i) 0 else 0)
  else if a < dig + 48 then wordBE fun i => digest.getD (a - dig + i) 0 else 0

/-- The model that HEARTH_SEL selects. -/
def State.selModel (s : State) : Nat := s.fld HEARTH_SEL_MODEL

/-- HEARTH_MT and HEARTH_MS of a model. -/
def State.hearthMt (s : State) (m : Nat) : Word :=
  match s.hearth.models[m]? with
  | some x => HEARTH_MT_PWR.into (min (x.pwr / 10000) 65535) (HEARTH_MT_TJ.into ((x.tj / 100) % 65536).toNat 0)
  | none => 0

def State.hearthMs (s : State) (m : Nat) : Word :=
  match s.modelRec m, s.hearth.models[m]? with
  | some _, some x => HEARTH_MS_ITH.into (min (x.ith / 10) 65535) (HEARTH_MS_PRESENT.into 1 (HEARTH_MS_STATE.into x.st 0))
  | _, _ => 0

/-- Bytes that a buffered command takes: its unstuffed frame (R435; log 152). -/
def RxCmd.size (c : RxCmd) : Nat := 10 + c.frame.payload.length

/-- Free bytes of the 2,048-byte receive buffer (R433). -/
def Link.rxFree (k : Link) : Nat := 2048 - k.rx.foldl (fun a c => a + c.size) 0

/-- A register of a host link as read, by its offset in the link's group. -/
def State.linkView (s : State) (n o : Nat) : Word :=
  let w := s.regs.get (0x70000 + 0x100 * n + o)
  match s.links[n]? with
  | none => w
  | some k =>
    if o = 0x08 then
      HL_STAT_FW_BUSY.into k.cmd.isSome.toNat (HL_STAT_TX_BUSY.into (k.left != 0).toNat (HL_STAT_RX_FREE.into k.rxFree
        (HL_STAT_RTS.into (k.rts && s.bit (HL_CTRL_FLOW_EN.shift (0x100 * n))).toNat w)))
    else if o = 0x14 then HL_EVT_STAT_TABLE.into k.table.length (HL_EVT_STAT_OUTSTANDING.into k.out.length 0)
    else if o = 0x18 then
      HL_EVT_SEQ_OLDEST.into (match k.out with | e :: _ => e.seq | [] => k.next) (HL_EVT_SEQ_NEXT.into k.next 0)
    else w

/-- TW_STAT of a target port as read (R470): BUSY from an acknowledgement on, STRETCH while the port holds SCL low. -/
def State.twView (s : State) (a : Nat) : Word :=
  let w := s.regs.get a
  match s.tws[(a - 0x71000) / 0x40]? with
  | none => w
  | some t =>
    let low := t.busy.toNat
    TW_STAT_BUSY.into low (TW_STAT_STRETCH.into low w)

/-- Core number of DBG_CSEL and DBG_STEP: 48 is the Hall core. -/
def coreNum (n : Nat) : CoreId := if h : n < 48 then .room ⟨n, h⟩ else .hall

/-- The register of a core that a code of R621 names. -/
def Core.creg (c : Core) (n : Nat) : Word :=
  if n < 16 then c.g.getD n 0
  else if n = 16 then c.pc
  else if n = 17 then BitVec.ofNat 32 c.lc
  else if n = 18 then c.epc
  else c.evcWord

/-- A register of the debug region as read (R614): reset values while debug access is not enabled. -/
def State.dbgView (s : State) (a : Nat) : Word :=
  if !s.debugOn then 0
  else
    let c := s.core (coreNum (s.fld DBG_CSEL_CORE))
    if a = 0x74000 then DBG_STAT_HALL_HALTED.into s.hall.halted.toNat (DBG_STAT_ENABLED.into 1 0)
    else if a = 0x74018 then (if c.halted && s.fld DBG_CSEL_REG ≤ 19 then c.creg (s.fld DBG_CSEL_REG) else 0)
    else if a = 0x7401C then DBG_CAUSE_BKPT.into (if c.cause = 2 then c.bkpt else 0) (DBG_CAUSE_CAUSE.into c.cause 0)
    else s.regs.get a

/-- µs since a stamp, saturating at 65,535; 65,535 without one. -/
def ageOf (now : Nat) (t : Option Nat) : Nat := match t with | some x => min (now - x) 65535 | none => 65535

/-- A register of the Hall region or of a global block as read. -/
def State.hallView (s : State) (a : Nat) : Word :=
  if a = 0x054 then HB_STAT_AGE.into (if s.booted then min (s.now - s.hbeatAt) 65535 else 0) (s.regs.get a)
  else if a = 0x108 then BitVec.ofNat 32 s.clk.slow
  else if a = 0x180 then BitVec.ofNat 32 (s.hallLines / 2 * 2)
  else if a = 0x184 then BitVec.ofNat 32 s.evrPorts
  else if a = 0x188 then BitVec.ofNat 32 (s.evrPorts / 2 ^ 32)
  else if 0x240 ≤ a && a < 0x250 then s.nodeView .root (a - 0x240)
  else if a = 0x294 then storeWord s.planStore s.planDigest 0x80000 (s.regs.get 0x290).toNat
  else if a = 0x30010 then s.hearthMt s.selModel
  else if a = 0x30014 then s.hearthMs s.selModel
  else if a = 0x40040 then SEC_KCV_KCV1.into (s.kcv 1) (SEC_KCV_KCV0.into (s.kcv 0) 0)
  else if a = 0x40054 then storeWord s.fwStore s.fwDigest 0x200000 (s.regs.get 0x40050).toNat
  else if 0x40400 ≤ a && a < 0x40800 then s.atticWord ((a - 0x40400) / 4)
  else if 0x50000 ≤ a && a < 0x50040 then
    (if s.pl.pantry.isNone then 0
     else if a = 0x50030 then CHG_PROG_FAST_MIN.into (min (s.pantry.fastUs / 60000000) 1023) (s.regs.get a)
     else s.regs.get a)
  else if a = 0x60008 then
    (if s.pairMode then KEY_STAT_HB_AGE.into (ageOf s.now s.pair.hbAt) (s.regs.get a) else 0)
  else if 0x60000 ≤ a && a < 0x60100 then (if s.pairMode then s.regs.get a else 0)
  else if 0x70000 ≤ a && a < 0x70200 then s.linkView ((a - 0x70000) / 0x100) (a % 0x100)
  else if a = 0x72004 then
    (let low := (s.porch.left != 0 && s.porch.left ≤ 10 * s.porch.line.length + 2).toNat
     PORCH_STAT_EN_N.into low (PORCH_STAT_TX_BUSY.into low (s.regs.get a)))
  else if 0x71000 ≤ a && a < 0x71100 && a % 0x40 = 0x0C then s.twView a
  else if a = 0x73040 then
    (let o := (s.regs.get 0x7303C).toNat
     if o + 4 ≤ s.cellarSize then wordLE fun i => cellarByte s.cellar (o + i) else 0)
  else if 0x74000 ≤ a && a < 0x75000 then s.dbgView a
  else s.regs.get a

/-- The register word at a place, as a read returns it before write-only fields are masked. -/
def State.view (s : State) : Loc → Word
  | .hall a => s.hallView a
  | .wing w o => s.wingView (Fin.ofNat 2 w) o
  | .land b o => s.landView (Fin.ofNat 6 b) o
  | .roomReg p o => s.roomRead (Fin.ofNat 48 p) o
  | _ => 0

end Sys2Proof.Machine
end

