-- ==== Sys2Proof/Machine/Events.lean ====
section
/-! DEFINITION. Machine/Events.lean: the events that the hardware posts to the host links (R447, R448, R451, R454), and
the frame around every command's effect. -/

namespace Sys2Proof.Machine

/-- A posting (R447, R448): KIND, SRC, DATA, and the number of leading bytes of DATA that hold event bits (R451). -/
structure Posting where
  kind : Nat
  src : Nat
  data : List Byte
  bits : Nat
deriving DecidableEq, Repr

/-- The low `n` bytes of a number, least significant first (R435). -/
def leBytes (n v : Nat) : List Byte := (List.range n).map fun i => BitVec.ofNat 8 (v / 256 ^ i)
/-- A word as four bytes, least significant first (R435). -/
def wordBytes (w : Word) : List Byte := leBytes 4 w.toNat

/-- The kinds that coalesce (table "Event kinds"). -/
def coalesces (kind : Nat) : Bool := (2 ≤ kind && kind ≤ 8) || kind = 0x0B

/-- The subscription of link `n` covers an event (R448). -/
def covers (m : Regs) (n kind src : Nat) : Bool :=
  let at' (f : Field) : Field := f.shift (0x100 * n)
  let bit (f : Field) (i : Nat) : Bool := (m.fld (at' f)).testBit i
  let port := if src < 32 then bit HL_SUB_PORT0_PORTS src else bit HL_SUB_PORT1_PORTS (src - 32)
  kind = 0x01 || kind = 0x0E ||
    (bit HL_SUB_KIND_KINDS (kind - 1) &&
      (if kind = 0x02 || kind = 0x09 || kind = 0x0A then port
       else if kind = 0x03 || kind = 0x06 then bit HL_SUB_PORT1_SLOTS src
       else true))

/-- Post an event directly: it becomes outstanding under the next SEQ (R447, R449). -/
def Link.append (tb : Nat) (k : Link) (p : Posting) (count : Nat) : Link :=
  { k with out := k.out ++ [⟨k.next, p.kind, p.src, count, tb, p.data, none⟩], next := (k.next + 1) % 65536 }

/-- OR of the first `n` bytes, the newest for the rest (R451). -/
def mergeData (n : Nat) (old new : List Byte) : List Byte :=
  new.zipIdx.map fun x => if x.2 < n then x.1 ||| old.getD x.2 0 else x.1

/-- A covered posting, with the code of HL_POST_STAT (R451): 1 POSTED, 2 COALESCED, 3 FULL (log 115) (log 116). -/
def Link.post (tb : Nat) (k : Link) (p : Posting) : Link × Nat :=
  if k.out.length < 256 && k.table.isEmpty then (k.append tb p 1, 1)
  else if !coalesces p.kind then (k, 3)
  else if k.table.any fun c => c.kind = p.kind && c.src = p.src then
    ({ k with merged := k.merged + 1
              table := k.table.map fun c => if c.kind = p.kind && c.src = p.src then
                { c with count := c.count + 1, tb := tb, data := mergeData p.bits c.data p.data } else c }, 2)
  else if k.table.length < 128 then ({ k with table := k.table ++ [⟨p.kind, p.src, 1, tb, p.data⟩] }, 2)
  else ({ k with lost := k.lost + 1 }, 3)

/-- A posting at link `n`; 0 where the subscription does not cover it. -/
def linkPost (m : Regs) (tb n : Nat) (k : Link) (p : Posting) : Link × Nat :=
  if covers m n p.kind p.src then k.post tb p else (k, 0)

/-- What the window's new room takes (R452): OVERFLOW first, then table entries, oldest first. -/
def Link.drain (tb n : Nat) (k : Link) : Link :=
  let k := if (k.merged != 0 || k.lost != 0) && k.out.length < 256 then
      { (k.append tb ⟨0x0E, n, leBytes 4 k.merged ++ leBytes 4 k.lost, 0⟩ 1) with merged := 0, lost := 0 }
    else k
  let room := 256 - k.out.length
  { ((k.table.take room).foldl (fun k c =>
      { k with out := k.out ++ [⟨k.next, c.kind, c.src, c.count, c.tb, c.data, none⟩], next := (k.next + 1) % 65536 }) k)
    with table := k.table.drop room }

/-- An ACK (R449): every outstanding event up to ACK_SEQ; any other number is ignored. -/
def Link.ack (tb n : Nat) (k : Link) (seq : Nat) : Link :=
  match k.out.findIdx? (·.seq = seq) with
  | some i => ({ k with out := k.out.drop (i + 1) }).drain tb n
  | none => k

/-! ### The hardware's postings -/

/-- Bits that are newly 1. -/
def newBits (was is : Nat) : Nat := is &&& (2 ^ 32 - 1 - was % 2 ^ 32)

/-- The node number 0 to 8 of BUDGET events: root, Wings, Landings. -/
def nodeNum : Node → Nat
  | .root => 0
  | .wing w => 1 + w.val
  | .land b => 3 + b.val

/-- This chip is keeper for a node (R454). -/
def State.keepsNode (s : State) : Node → Bool
  | .root => s.hallKeeper
  | .wing w => s.keeps w
  | .land b => s.keeps (wingOfLand b)

/-- The ROOM, SLOT, HEARTH, PANTRY, TIMER and BUDGET events of a change from `s` to `t` (R448, R454). -/
def postings (s t : State) : List Posting :=
  ((List.finRange 48).filterMap fun p =>
    let n := newBits (s.room p).forwarded (t.room p).forwarded
    if n != 0 && t.keeps (wingOf p) then
      some ⟨2, p.val, leBytes 4 n ++ wordBytes ((t.room p).regs.get 0x00C) ++ wordBytes (t.statusWord p), 4⟩ else none) ++
  ((List.finRange 6).filterMap fun b =>
    let n := newBits (s.land b).forwarded (t.land b).forwarded
    if n != 0 && t.keeps (wingOfLand b) then
      some ⟨3, b.val, leBytes 4 n ++ wordBytes ((t.land b).regs.get 0x60) ++ wordBytes (t.hsStat b), 4⟩ else none) ++
  (let n := newBits (s.regs.get 0x3001C).toNat (t.regs.get 0x3001C).toNat
   if n != 0 then [⟨4, 0, leBytes 4 n ++ wordBytes (t.regs.get 0x30018), 4⟩] else []) ++
  (let n := newBits s.panForwarded t.panForwarded
   if n != 0 && t.hallKeeper then
     [⟨5, 0, leBytes 4 n ++ wordBytes (t.regs.get 0x50034) ++ wordBytes (t.regs.get 0x50020), 4⟩] else []) ++
  ((List.finRange 6).filterMap fun b =>
    let n := newBits (s.land b).fired (t.land b).fired
    if n != 0 && t.keeps (wingOfLand b) then some ⟨6, b.val, leBytes 4 n, 4⟩ else none) ++
  (allNodes.filterMap fun n =>
    if t.nodeShort n && !s.nodeShort n && t.keepsNode n then some ⟨7, nodeNum n, wordBytes (t.budStat n), 0⟩ else none)

/-- The links after a list of postings, each on both links (R448). -/
def State.postAll (s : State) (ps : List Posting) : List Link :=
  s.links.zipIdx.map fun x => ps.foldl (fun k p => (linkPost s.regs s.tb x.2 k p).1) x.1

/-- The state `t` with the events of its change from `s` posted; nothing but the links differs from `t`. -/
def State.posted (s t : State) : State := { t with links := t.postAll (postings s t) }

/-- The state with another queue of waiting commands. -/
def State.withQueue (s : State) (q : List Instr) : State := { s with pending := q }

/-- The effect `f` on everything but the queue where the condition holds, with the events that it posts; elsewhere the
command changes nothing (log 3). -/
def act (s : State) (c : Bool) (f : State → State) : Out :=
  .next (if c then (s.posted (f s)).withQueue s.pending else s)

end Sys2Proof.Machine
end

