-- ==== Sys2Proof/Machine/Attach.lean ====
section
/-! DEFINITION. Machine/Attach.lean: the commands of the Type-C front end (04_attach_and_cc.md) and of CTRL.ENABLE
(02_clocks_reset_states.md R81). -/

namespace Sys2Proof.Machine

/-! ### Conditions of the table "Attach states" -/

/-- Both lines have kept their decoded level for the time that `f` takes from a debounce (R135). -/
def Room.stable (e : Env) (r : Room) (f : Debounce → Nat) : Bool :=
  old e.now r.cc.db1.start (f r.cc.db1) && old e.now r.cc.db2.start (f r.cc.db2)

/-- Rd seen on one line. -/
def Room.rdOne (r : Room) : Bool := (r.kind1 = 2 && r.kind2 != 2) || (r.kind1 != 2 && r.kind2 = 2)
def Room.rdBoth (r : Room) : Bool := r.kind1 = 2 && r.kind2 = 2
def Room.rdNone (r : Room) : Bool := r.kind1 != 2 && r.kind2 != 2
/-- Rp seen on one line. -/
def Room.rpOne (r : Room) : Bool := (r.kind1 = 3 && r.kind2 = 0) || (r.kind1 = 0 && r.kind2 = 3)
def Room.rpBoth (r : Room) : Bool := r.kind1 = 3 && r.kind2 = 3
def Room.openBoth (r : Room) : Bool := r.kind1 = 0 && r.kind2 = 0

/-- The timers that an exit of the attach state machine waits for. -/
inductive Tag where
  | level | tcc | tpd | ttry | tdrp | terr | toggle
deriving DecidableEq, Repr

/-- What an exit does: enter a state without attachment, attach as sink, ask for the attach grant, detach, or set
AUDIO_ACC. -/
inductive Exit where
  | to (st : Nat)
  | snk
  | ask
  | det
  | audio
deriving DecidableEq, Repr

/-- The Rd condition of the exit to ATTACHED_SRC has been stable for its debounce time, and VBUS_SAFE0 holds (R141). -/
def Room.askHolds (e : Env) (r : Room) : Bool :=
  r.rdOne && r.bit CC_STAT_VBUS_SAFE0 &&
    (if r.ast = aWaitSrc then r.stable e Debounce.tcc && !e.port.trySnk
     else (r.ast = aTrySrc || r.ast = aTryWaitSrc) && r.stable e Debounce.ttry)

/-- The exits of the present state in the order of the table "Attach states" (R137), with the timers that they wait
for. -/
def Room.exits (e : Env) (r : Room) : List (List Tag × Bool × Exit) :=
  let tcc := r.stable e Debounce.tcc
  let tpd := r.stable e Debounce.tpd
  let ttry := r.stable e Debounce.ttry
  let drp := old e.now r.cc.entry r.cc.tDrpTry
  let dual := e.port.role = 2
  let tog := dual && old e.now r.cc.entry r.cc.tToggle
  let pres := r.bit CC_STAT_VBUS_PRESENT
  let ask := r.askHolds e && !r.cc.asking && r.cc.retry.isNone
  match r.ast with
  | 1 => [([.terr], old e.now r.cc.entry r.cc.tErr, .to (startState e))]
  | 2 => [([.level], r.kind1 = 3 || r.kind2 = 3, .to aWaitSnk), ([.toggle], tog, .to aUnSrc)]
  | 3 => [([.tcc], r.rpBoth && tcc, .to aDbgSnk), ([.tcc], r.rpOne && tcc && e.port.trySrc, .to aTrySrc),
          ([.tcc], r.rpOne && tcc && pres, .snk), ([.tpd], r.openBoth && tpd, .to aUnSnk)]
  | 4 => [([.tpd], r.bmcOpen e, .det)]
  | 5 => [([.level], r.kind1 = 2 || r.kind2 = 2, .to aWaitSrc), ([.toggle], tog, .to aUnSnk),
          ([.tcc], r.kind1 = 1 && r.kind2 = 1 && tcc && !r.cc.audio, .audio)]
  | 6 => [([.tcc], r.rdBoth && tcc, .to aDbgSrc), ([.tcc], r.rdOne && tcc && e.port.trySnk, .to aTrySnk),
          ([.tcc], ask, .ask), ([.tpd], r.rdNone && tpd, .to (unSrcOf e))]
  | 7 => [([.tpd], r.bmcOpen e, .det)]
  | 8 => [([.ttry], ask, .ask), ([.ttry, .tdrp], drp && r.rdNone && ttry, .to aTryWaitSnk)]
  | 9 => [([.tcc], r.rpOne && tcc && pres, .snk), ([.tpd], r.openBoth && tpd, .to aUnSnk)]
  | 10 => [([.ttry, .tdrp], drp && r.rpOne && ttry && pres, .snk),
           ([.ttry, .tdrp], drp && r.openBoth && ttry, .to aTryWaitSrc)]
  | 11 => [([.ttry], ask, .ask), ([.tdrp], drp && r.rdNone, .to aUnSnk)]
  | 12 => [([.tpd], (r.kind1 = 0 && old e.now r.cc.db1.start r.cc.db1.tpd) ||
             (r.kind2 = 0 && old e.now r.cc.db2.start r.cc.db2.tpd), .to aUnSnk)]
  | 13 => [([.tpd], (r.kind1 != 2 && old e.now r.cc.db1.start r.cc.db1.tpd) ||
             (r.kind2 != 2 && old e.now r.cc.db2.start r.cc.db2.tpd), .to (unSrcOf e))]
  | _ => []

/-- The exit taken: the first listed whose condition holds (R137). -/
def Room.exit? (e : Env) (r : Room) : Option (List Tag × Exit) :=
  ((r.exits e).find? (·.2.1)).map fun x => (x.1, x.2.2)

/-! ### Entry to the attached states -/

/-- Entry to ATTACHED_SRC from a non-attached state with Rp at a level (R141, R142, R145, R146, R152): orientation,
implicit contract, VCONN first, switch and loop on. -/
def Room.attachSrc (e : Env) (rp : Nat) (r : Room) : Room :=
  let cc2 := r.kind2 = 2
  let ra := (if cc2 then r.kind1 else r.kind2) = 1
  let r := ((r.putB CC_STAT_ORIENT cc2).on CC_STAT_ORIENT_VALID).onCc fun c =>
    { c with ra := ra, removing := false, swapTerm := none, lostOff := false }
  let r := (r.put CC_STAT_RP_ADV rp).enterA e aSrc
  let r := ((r.on CC_EVENT_ATTACH_SRC).on EVENT_ATTACH).on PD_STAT_DATA_ROLE
  let r := (r.put VSET_MV 5000).onPd fun d => { d with maxRev := r.fld PD_CFG_MAX_REV }
  (((r.implicitVi e).refreshVlim e).closeSwitch e).loopStart e

/-- Entry to ATTACHED_SNK from a non-attached state (R145, R247): orientation, switch closed, reverse loop asked for (log 16). -/
def Room.attachSnk (e : Env) (r : Room) : Room :=
  let cc2 := r.kind2 = 3
  let r := ((r.putB CC_STAT_ORIENT cc2).on CC_STAT_ORIENT_VALID).onCc fun c =>
    { c with ra := false, removing := false, swapTerm := none, lostOff := false }
  let r := r.enterA e aSnk
  let r := ((r.on CC_EVENT_ATTACH_SNK).on EVENT_ATTACH).off PD_STAT_DATA_ROLE
  let r := r.onPd fun d => { d with maxRev := r.fld PD_CFG_MAX_REV }
  (((r.implicitVi e).refreshVlim e).closeSwitch e).onConv fun c => { c with dirDue := some true }

/-- Take an exit of the attach state machine. -/
def Room.takeExit (e : Env) (x : Exit) (r : Room) : Room :=
  match x with
  | .to st =>
    let r := r.enterA e st
    if st = aDbgSnk || st = aDbgSrc then (r.on CC_EVENT_DEBUG_ACC).on EVENT_ATTACH else r
  | .snk => r.attachSnk e
  | .ask => r.onCc fun c => { c with asking := true, askAt := e.now }
  | .det => r.detach e
  | .audio => (r.on CC_EVENT_AUDIO_ACC).onCc fun c => { c with audio := true }

/-- Take the present exit if it waits for one of the timers `tags`. A port in the port safe state takes none, and only
sets DETACH when the detach condition of its held state is met (R162). -/
def Room.advance (e : Env) (tags : List Tag) (r : Room) : Room :=
  match r.exit? e with
  | none => r
  | some (ts, x) =>
    if !tags.any ts.contains then r
    else if r.inSafe then (if x = .det then r.safeDetach e else r)
    else if r.slotHold then r
    else r.takeExit e x

/-- Every timer of the state machine. -/
def allTags : List Tag := [.level, .tcc, .tpd, .ttry, .tdrp, .terr, .toggle]

/-! ### CTRL.ENABLE -/

/-- The attach state machine leaves DISABLED for the start state of the role (R137, R138). -/
def Room.enable (e : Env) (r : Room) : Room :=
  let r := (r.on CTRL_ENABLE).on STATUS_KEEPER
  if r.ast = aDisabled && !r.outOff then r.enterA e (startState e) else r

/-- A write of 0 to CTRL.ENABLE: DISABLED at once, and the removal of the port starts (R163, R167, R679). -/
def Room.disable (e : Env) (r : Room) : Room :=
  let r := (r.off CTRL_ENABLE).pdClear e
  let r := if r.outOff then r.setGrant 0 else if r.ast = aSrc then r.startRemoval e
    else if r.cc.removing then r else (r.openSwitch).loopOff
  (r.enterA e aDisabled).conClear e

/-- ENABLE_SET (R81, R137): the drivers are enabled and the state machine starts. -/
def execEnableSet (p : Fin 48) (s : State) : Out :=
  act s (s.whole p) fun s =>
    if !s.clampBit (.roomReg p.val 0x004) CTRL_ENABLE true then s
    else if s.keeps (wingOf p) then s.onRoomE p Room.enable else s.onRoom p fun r => r.on CTRL_ENABLE

/-- ENABLE_CLEAR (R163). -/
def execEnableClear (p : Fin 48) (s : State) : Out :=
  act s (s.whole p) fun s =>
    if s.clampBit (.roomReg p.val 0x004) CTRL_ENABLE false then s
    else if s.keeps (wingOf p) then s.onRoomE p Room.disable else s.onRoom p fun r => r.off CTRL_ENABLE

/-- PORT_REMOVAL_END (R152, R163, R679): VBUS is gone and the loop is OFF; the switch opens, the whole grant goes back.
With ENABLE at 0 the drivers are disabled from here on (R81), which the state shows by ENABLE = 0 with no removal. -/
def execPortRemovalEnd (p : Fin 48) (s : State) : Out :=
  act s (s.live p && (s.room p).cc.removing && (s.room p).loop = lOff) fun s =>
    s.onRoomE p fun e r =>
      ((((r.openSwitch).setGrant 0).onCc fun c => { c with removing := false }).refreshIlim e)

/-! ### The lines -/

/-- A code that a line with this termination can show (CC_LEVEL). -/
def codeFits (t : CcTerm) (c : Nat) : Bool :=
  match t with
  | .rp => c ≤ 2
  | .rd => c ≤ 3
  | .none => false
  | .vconn => false
  | .low => false

/-- New decoded levels of both lines (R135, R137): the debounce of a changed line restarts. -/
def Room.newLevels (e : Env) (l1 l2 : Nat) (r : Room) : Room :=
  let d := r.newDebounce e
  let c1 := codeFits r.cc.term1 l1 && l1 != r.fld CC_LEVEL_CC1_LVL
  let c2 := codeFits r.cc.term2 l2 && l2 != r.fld CC_LEVEL_CC2_LVL
  let r := if c1 then (r.put CC_LEVEL_CC1_LVL l1).onCc fun c => { c with db1 := d } else r
  let r := if c2 then (r.put CC_LEVEL_CC2_LVL l2).onCc fun c => { c with db2 := d } else r
  let r := r.audioOff
  let seen := r.fld CC_STAT_RP_SEEN
  let r := r.refreshPartner
  if r.ast = aSnk && r.fld CC_STAT_RP_SEEN != seen && !r.explicit then r.implicitVi e else r

/-- A shadow's front end shows what it observes, and its debounces run with it (R165, R166). -/
def Room.seenLevels (e : Env) (l1 l2 : Nat) (r : Room) : Room :=
  let d := r.newDebounce e
  let r := if l1 = r.fld CC_LEVEL_CC1_LVL then r else (r.put CC_LEVEL_CC1_LVL l1).onCc fun c => { c with db1 := d }
  let r := if l2 = r.fld CC_LEVEL_CC2_LVL then r else (r.put CC_LEVEL_CC2_LVL l2).onCc fun c => { c with db2 := d }
  r.shadowRp

/-- CC_LEVEL_CHANGE (R135, R137): the decoded levels of CC1 and CC2. A shadow only shows what it observes (R165). -/
def execCcLevelChange (p : Fin 48) (l1 l2 : Fin 8) (s : State) : Out :=
  act s (s.whole p) fun s =>
    if s.keeps (wingOf p) then
      s.onRoomE p fun e r => (r.newLevels e l1.val l2.val).advance e allTags
    else s.onRoomE p fun e r => r.seenLevels e l1.val l2.val

/-- TCCDEBOUNCE (R137, R157, R158): tCCDebounce has expired. -/
def execTccdebounce (p : Fin 48) (s : State) : Out :=
  act s (s.live p) fun s => s.onRoomE p fun e r => r.advance e [.tcc]

/-- TPDDEBOUNCE (R137, R153, R154): tPDDebounce has expired. -/
def execTpddebounce (p : Fin 48) (s : State) : Out :=
  act s (s.live p) fun s => s.onRoomE p fun e r => r.advance e [.tpd]

/-- TTRYCCDEBOUNCE (R137): tTryCCDebounce has expired. -/
def execTtryccdebounce (p : Fin 48) (s : State) : Out :=
  act s (s.live p) fun s => s.onRoomE p fun e r => r.advance e [.ttry]

/-- TDRPTRY (R137): tDRPTry has expired. -/
def execTdrptry (p : Fin 48) (s : State) : Out :=
  act s (s.live p) fun s => s.onRoomE p fun e r => r.advance e [.tdrp]

/-- TERRORRECOVERY (R137): tErrorRecovery has expired. -/
def execTerrorrecovery (p : Fin 48) (s : State) : Out :=
  act s (s.live p) fun s => s.onRoomE p fun e r => r.advance e [.terr]

/-- DRP_TOGGLE (R139): the toggle time has elapsed. -/
def execDrpToggle (p : Fin 48) (s : State) : Out :=
  act s (s.live p) fun s => s.onRoomE p fun e r => r.advance e [.toggle]

/-- The front end acts on the answer to its attach ask (R141, R167). -/
def Room.attachAnswer (e : Env) (w : Nat) (r : Room) : Room :=
  let r := r.onCc fun c => { c with asking := false }
  if !r.askHolds e then r
  else if 15 ≤ w then (r.setGrant w).attachSrc e (if 3000 ≤ e.port.imax then 2 else 1)
  else if 8 ≤ w then (r.setGrant w).attachSrc e 1
  else
    let r := if r.bit CC_STAT_BUDGET_WAIT then r else (r.on CC_STAT_BUDGET_WAIT).on CC_EVENT_BUDGET_WAIT
    r.onCc fun c => { c with retry := some e.now }

/-- The Landing answers a port's attach ask of 15 W (R141). -/
def State.answerAttach (s : State) (p : Fin 48) : State :=
  let w := max (s.room p).grant (min 15 (s.availFor p))
  s.onRoomE p fun e r => r.attachAnswer e w

/-- BUDGET_WAIT (R141): 100 ms after a refused ask the port asks again while the Rd condition holds. -/
def execBudgetWait (p : Fin 48) (s : State) : Out :=
  act s (s.free p && (s.room p).bit CC_STAT_BUDGET_WAIT && due s.now (s.room p).cc.retry 100000 &&
      (s.room p).askHolds (s.env p)) fun s =>
    s.onRoomE p fun e r => r.onCc fun c => { c with asking := true, askAt := e.now, retry := none }

/-- RP_LIMIT_LOWER (R143): 60 ms after Rp fell to 1.5 A the current limit follows. -/
def execRpLimitLower (p : Fin 48) (s : State) : Out :=
  act s (s.live p && due s.now (s.room p).cc.rpLower 60000) fun s =>
    s.onRoomE p fun e r => (r.onCc fun c => { c with rpLower := none }).implicitVi e

/-- VBUS_LOST (R154, R162): VBUS below 3.67 V for 1 ms detaches a sink. -/
def execVbusLost (p : Fin 48) (s : State) : Out :=
  act s (s.live p && (s.room p).vbusLost (s.env p)) fun s =>
    s.onRoomE p fun e r => if r.inSafe then r.safeDetach e else r.detach e

/-- The 10 µs mean of VBUS takes a value (R136): the level bits, the VBUS_LOST stamp. -/
def Room.newVbus (e : Env) (mv : Nat) (r : Room) : Room :=
  let r := (r.putB CC_STAT_VBUS_SAFE0 (mv ≤ 800)).putB CC_STAT_VBUS_PRESENT (4000 ≤ mv)
  r.onCc fun c => { c with vbus := mv, vbusLow := if mv < 3670 then c.vbusLow <|> some e.now else none }

/-- VBUS_LEVEL_CHANGE (R136): the 10 µs mean crosses VBUS_SAFE0, VBUS_PRESENT or VBUS_LOST. -/
def execVbusLevelChange (p : Fin 48) (mv : Nat) (s : State) : Out :=
  act s (s.whole p) fun s =>
    if s.keeps (wingOf p) then
      s.onRoomE p fun e r => ((r.newVbus e mv).advance e allTags).sinkSwitch e
    else s.onRoomE p (fun e r => r.newVbus e mv)

/-! ### VCONN, overvoltage, error recovery -/

/-- A write of VCONN_CTRL.EN (R148, R150): EN takes 1 only in an attached state, where it clears VCONN_LOCK. A shadow takes
the bit by the mirrored state and drives nothing (R165). -/
def Room.writeVconnEn (e : Env) (en : Bool) (r : Room) : Room :=
  if !e.keeper then r.putB VCONN_CTRL_EN (en && r.attached)
  else if en then (if r.attached then ((r.on VCONN_CTRL_EN).off CC_STAT_VCONN_LOCK).vconn e else r)
  else (r.off VCONN_CTRL_EN).vconn e

/-- VCONN_EN_WRITE (R148, R150). RANGES narrows the value (R122). -/
def execVconnEnWrite (p : Fin 48) (en : Bool) (s : State) : Out :=
  act s (s.whole p) fun s =>
    let en := s.clampBit (.roomReg p.val 0x054) VCONN_CTRL_EN en
    s.onRoomE p fun e r => r.writeVconnEn e en

/-- VCONN_OC (R149): the switch opens; an overcurrent records it and locks VCONN. One that meets a detach of the same tick is
recorded too (R167); leaving the attached states has cleared the lock (R150). -/
def execVconnOc (p : Fin 48) (overcurrent : Bool) (s : State) : Out :=
  let r := s.room p
  act s (s.live p && (r.bit CC_STAT_VCONN_ON || r.cc.vconnOff = some s.now)) fun s => s.onRoomE p fun e r =>
    let locks := overcurrent && r.bit CC_STAT_VCONN_ON
    let r := if r.bit CC_STAT_VCONN_ON then (r.off CC_STAT_VCONN_ON).onPd fun d => { d with vconnAt := none } else r
    let r := if overcurrent then (r.fault FAULT_VCONN_OC).on CC_EVENT_VCONN_OC else r
    (if locks then r.on CC_STAT_VCONN_LOCK else r).terms e

/-- A line's level against the overvoltage threshold (CC_LEVEL, R160): an isolated line counts from its fall below it. -/
def Room.ccOver (now : Nat) (cc2 above : Bool) (r : Room) : Room :=
  let t := if above then none else some now
  if cc2 then (r.putB CC_LEVEL_CC2_OV above).onCc fun c => { c with ov2 := t }
  else (r.putB CC_LEVEL_CC1_OV above).onCc fun c => { c with ov1 := t }

/-- CC_OV (R159, R160): a line has been above the threshold for 1 µs, is isolated, and the port enters the port safe state;
or it has fallen below. A shadow only shows it (R165; log 24). -/
def execCcOv (p : Fin 48) (cc2 above : Bool) (s : State) : Out :=
  act s (s.whole p) fun s =>
    let s := s.onRoom p fun r => r.ccOver s.now cc2 above
    if above && s.keeps (wingOf p) then
      (s.onRoom p fun r => (if cc2 then r.on CC_STAT_CC2_ISOL else r.on CC_STAT_CC1_ISOL).on CC_EVENT_CC_OV).enterSafe p
        FAULT_CC_OV false
    else s

/-- CC_ISOLATION_RELEASE (R160): the line has stayed below the threshold for 10 ms. -/
def execCcIsolationRelease (p : Fin 48) (cc2 : Bool) (s : State) : Out :=
  let r := s.room p
  act s (s.live p && (if cc2 then r.bit CC_STAT_CC2_ISOL && due s.now r.cc.ov2 10000
      else r.bit CC_STAT_CC1_ISOL && due s.now r.cc.ov1 10000)) fun s =>
    s.onRoomE p fun e r =>
      (if cc2 then (r.off CC_STAT_CC2_ISOL).onCc fun c => { c with ov2 := none }
       else (r.off CC_STAT_CC1_ISOL).onCc fun c => { c with ov1 := none }).terms e

/-- ERROR_RECOVERY (R163): a write of 1 to CC_CMD.ERROR_RECOVERY. -/
def execErrorRecovery (p : Fin 48) (s : State) : Out :=
  act s (s.live p) fun s => s.onRoomE p Room.errorRecovery

end Sys2Proof.Machine
end

