-- ==== Sys2Proof/Machine/Contract.lean ====
section
/-! DEFINITION. Machine/Contract.lean: the commands of the contract engine (06_contracts_roles.md): asks and answers,
voltage transitions, the give-up timer, the Hard Reset power sequence and the swaps. -/

namespace Sys2Proof.Machine

/-- GRANT_ASK (R225, R226): a non-zero ASK_W asks or replaces, zero cancels. RANGES narrows the value (R122). -/
def execGrantAsk (p : Fin 48) (w : Nat) (s : State) : Out :=
  act s (s.whole p) fun s =>
    let w := s.clampField (.roomReg p.val 0x160) GRANT_ASK_ASK_W (w % 65536)
    s.onRoomE p fun e r => if w = 0 then (r.put GRANT_ASK_ASK_W 0).endResv else r.ask e w true

/-- Step 2 of a takeover (R256): the answer covers 5 V × FRS_I and becomes the grant, or the port does not source. -/
def Room.frsAnswer (e : Env) (r : Room) : Room :=
  let need := wattsUp 5000 (frsMa (r.fld FRS_CTRL_FRS_I))
  let ok := need ≤ r.fld GRANT_RESV_W
  let r := if ok then r.setGrant (max r.grant (r.fld GRANT_RESV_W)) else r
  let r := (r.endResv).toStep e 2
  if ok then
    ((r.onCon fun c => { c with frsOk := true }).refreshIlim e).onPd fun d =>
      { d with auto := d.auto ++ [⟨.frSwap, ⟨0, 0x13, []⟩, [], false, 0, 0, 0, none⟩] }
  else r.lostResume e

/-- The Landing answers a port's ask, and a takeover acts on its answer (R225, R256). -/
def State.answerAsk (s : State) (p : Fin 48) : State :=
  (s.answer p ((s.room p).fld GRANT_ASK_ASK_W)).onRoomE p fun e r =>
    if r.fld CON_STAT_SWAP = 4 && r.fld CON_STAT_STEP = 1 then r.frsAnswer e else r

/-- RESV_LAPSE (R225): 10 ms after the answer. -/
def execResvLapse (p : Fin 48) (s : State) : Out :=
  act s (s.whole p && (s.room p).fld GRANT_ASK_STATE = 2 && due s.now (s.room p).con.resvAt 10000) fun s =>
    s.onRoom p fun r =>
      ((((r.put GRANT_ASK_STATE 3).off GRANT_RESV_W).on CON_EVENT_RESV_LAPSE)).onCon fun c => { c with resvAt := none }

/-! ### Voltage transitions -/

/-- TSRC (R235 step 2, R251 step 2): TSRC after the Accept's GoodCRC the reference starts toward NEG_V, or toward 0 V in
a swap to sink. -/
def execTsrc (p : Fin 48) (s : State) : Out :=
  let r := s.room p
  let t := 1000 * r.fld CON_CFG_TSRC
  act s (s.free p && r.ast = aSrc && r.fld CON_STAT_STEP = 1 && !r.bit CON_STAT_HR_SEQ &&
      (due s.now r.con.trans t || (r.fld CON_STAT_SWAP = 1 && old s.now r.con.swapAt t))) fun s =>
    s.onRoomE p fun e r =>
      let r := r.toStep e 2
      if r.fld CON_STAT_SWAP = 1 then r.discharge e (1000 * r.fld CON_CFG_SLEW) 1 false
      else
        let r := r.rampTo e r.con.negMv
        if r.fld VSET_REF = r.fld VSET_MV then r.refReached e else r

/-- REFERENCE_REACHED (R235 step 3). -/
def execReferenceReached (p : Fin 48) (s : State) : Out :=
  let r := s.room p
  act s (s.live p && r.loop = lRegulate && r.bit CON_STAT_RAMPING && r.fld VSET_REF = r.fld VSET_MV) fun s =>
    s.onRoomE p Room.refReached

/-- SETTLED (R236): the settle criterion holds; a source transition records it. -/
def execSettled (p : Fin 48) (s : State) : Out :=
  let r := s.room p
  act s (s.free p && r.attached && !r.bit CON_STAT_SETTLED && r.settled (s.env p)) fun s => s.onRoom p fun r =>
    let r := r.on CON_STAT_SETTLED
    if r.ast = aSrc && r.con.trans.isSome then
      ((r.toStep (s.env p) 4).on CON_EVENT_SETTLED).on EVENT_TRANS_DONE else r

/-- SETTLE_FAIL (R237): 50 ms after the reference reached VSET the criterion does not hold and has not held since. -/
def execSettleFail (p : Fin 48) (s : State) : Out :=
  let r := s.room p
  act s (s.free p && r.ast = aSrc && r.con.trans.isSome && r.fld CON_STAT_STEP = 3 && due s.now r.con.reached 50000 &&
      !r.settled (s.env p) && !r.pd.hrDue) fun s =>
    s.onRoomE p fun e r => (r.on CON_EVENT_SETTLE_FAIL).hardResetCause e

/-- VSET accepts a write in source role (R239). -/
def Room.vsetOpen (r : Room) : Bool :=
  r.explicit || (r.con.trans.isSome && 2 ≤ r.fld CON_STAT_STEP) || r.bit CON_STAT_HR_SEQ || r.fld CON_STAT_SWAP != 0

/-- A write of VSET (R239, R240). -/
def Room.writeVset (e : Env) (mv : Nat) (r : Room) : Room :=
  if r.ast = aSrc then
    if r.vsetOpen then
      let mv := min (max mv e.port.vmin) (max (r.fld CON_LIM_VLIM) e.port.vmin)
      if r.loop = lRegulate then
        let r := r.rampTo e mv
        if r.fld VSET_REF = r.fld VSET_MV then r.refReached e else r
      else r.setVset e mv
    else r
  else if r.ast = aSnk then r.setVset e mv else r

/-- VSET_WRITE (R239). -/
def execVsetWrite (p : Fin 48) (mv : Nat) (s : State) : Out :=
  act s (s.live p) fun s =>
    let mv := s.clampField (.roomReg p.val 0x158) VSET_MV mv
    s.onRoomE p fun e r => r.writeVset e mv

/-- VLIM_RECOMPUTE (R221, R244): every 1 ms, with the converter input averaged over the last 10 ms in mV. A shadow shows the
mirrored VLIM (R263). -/
def execVlimRecompute (p : Fin 48) (vin10 : Nat) (s : State) : Out :=
  act s (s.whole p) fun s => s.onRoomE p fun e r => (r.onCon fun c => { c with vin10 := vin10 }).refreshVlim e

/-- GIVEUP (R243, R244): the give-up timer ends. -/
def execGiveup (p : Fin 48) (s : State) : Out :=
  let r := s.room p
  act s (s.free p && (match r.con.giveup with | some g => old s.now g.1 g.2 | none => false)) fun s =>
    s.onRoomE p fun e r =>
      let r := (r.off CON_STAT_GIVEUP).onCon fun c => { c with giveup := none }
      let r := if r.ast = aSrc && r.explicit && r.overGrant then
          ((r.on CON_STAT_ENFORCED).on CON_EVENT_ENFORCE).refreshIlim e else r
      if r.vlimLow then r.hardResetCause e else r

/-! ### The Hard Reset power sequence (R249) -/

/-- HARD_RESET_VCONN_OFF (R249 step 2): 30 ms after the signal. -/
def execHardResetVconnOff (p : Fin 48) (s : State) : Out :=
  let r := s.room p
  act s (s.free p && r.ast = aSrc && r.bit CON_STAT_HR_SEQ && r.fld CON_STAT_STEP = 1 && old s.now r.con.hrAt 30000)
    fun s => s.onRoomE p fun e r =>
      ((r.toStep e 2).vconn e).discharge e (1000 * r.fld CON_CFG_SLEW) 1 false

/-- HARD_RESET_VBUS_SAFE0 (R249 step 3): VBUS is at 0.80 V or below; a sink notes it for step 5. -/
def execHardResetVbusSafe0 (p : Fin 48) (s : State) : Out :=
  let r := s.room p
  act s (s.free p && r.bit CON_STAT_HR_SEQ && r.cc.vbus ≤ 800 && r.con.hrSafe0.isNone &&
      ((r.ast = aSrc && r.fld CON_STAT_STEP = 2) || r.ast = aSnk)) fun s =>
    s.onRoomE p fun e r =>
      let r := r.onCon fun c => { c with hrSafe0 := some e.now }
      if r.ast = aSrc then r.toStep e 3 else r

/-- TSRCRECOVER (R249 step 4): 750 ms later the source restores VCONN and VBUS. -/
def execTsrcrecover (p : Fin 48) (s : State) : Out :=
  let r := s.room p
  act s (s.free p && r.ast = aSrc && r.bit CON_STAT_HR_SEQ && r.fld CON_STAT_STEP = 3 && due s.now r.con.hrSafe0 750000)
    fun s => s.onRoomE p fun e r =>
      let r := ((r.toStep e 4).onCc fun c => { c with gaveVconn := false }).vconn e
      ((r.setVset e 5000).closeSwitch e).loopStart e

/-- HARD_RESET_END (R249 step 5). -/
def execHardResetEnd (p : Fin 48) (s : State) : Out :=
  let r := s.room p
  let e := s.env p
  act s (s.free p && r.bit CON_STAT_HR_SEQ &&
      (if r.ast = aSrc then r.fld CON_STAT_STEP = 4 && r.banded e
       else (r.bit CC_STAT_VBUS_PRESENT && r.con.hrSafe0.isSome) || old s.now r.con.hrAt 2000000)) fun s =>
    s.onRoomE p fun e r => (r.endHr e).refreshIlim e

/-! ### Swaps -/

/-- PR_SWAP_VBUS_SAFE0 (R251 step 3). -/
def execPrSwapVbusSafe0 (p : Fin 48) (s : State) : Out :=
  let r := s.room p
  act s (s.free p && r.ast = aSrc && r.fld CON_STAT_SWAP = 1 && r.fld CON_STAT_STEP = 2 && r.cc.vbus ≤ 800) fun s =>
    s.onRoomE p fun e r => (r.toSink e).toStep e 3

/-- The time limit of the partner's PS_RDY in µs, where the running swap awaits one (R251, R255, R256) (log 20). -/
def Room.psRdyLimit (r : Room) : Option Nat :=
  match r.fld CON_STAT_SWAP, r.fld CON_STAT_STEP with
  | 1, 5 => some 450000
  | 2, 2 => some 900000
  | 3, 6 => some 450000
  | 4, 5 => some 900000
  | _, _ => none

/-- PS_RDY_TIMEOUT (R251, R255, R256). -/
def execPsRdyTimeout (p : Fin 48) (s : State) : Out :=
  let r := s.room p
  act s (s.free p && (match r.psRdyLimit with | some d => due s.now r.con.swapWait d | none => false)) fun s =>
    s.onRoomE p Room.errorRecovery

/-- TRIG (R255): a write of FRS_CTRL.TRIG; ignored where the port is not ready (R257). -/
def execTrig (p : Fin 48) (s : State) : Out :=
  act s (s.free p && (s.room p).ast = aSrc && (s.room p).frsReady (s.env p)) fun s =>
    s.onRoomE p fun e r => (r.frsTrigger e).terms e

/-- FRS_INPUT_TRIGGER (R255): the feedforward input was below 34.0 V in two consecutive periods. -/
def execFrsInputTrigger (p : Fin 48) (s : State) : Out :=
  let r := s.room p
  act s (s.free p && r.ast = aSrc && r.frsReady (s.env p) && r.bit FRS_CTRL_TRIG_AUTO && 2 ≤ r.con.frsLow) fun s =>
    s.onRoomE p fun e r => (r.frsTrigger e).terms e

/-- FRS_SIGNAL_END (R255 step 2): 60 to 120 µs after the trigger. -/
def execFrsSignalEnd (p : Fin 48) (s : State) : Out :=
  let r := s.room p
  act s (s.free p && r.fld CON_STAT_SWAP = 3 && r.fld CON_STAT_STEP = 1 && old s.now r.con.swapAt 60) fun s =>
    s.onRoomE p fun e r => (r.toStep e 3).terms e

/-- FRS_TIMEOUT (R255 step 3): no FR_Swap within 20 ms. -/
def execFrsTimeout (p : Fin 48) (s : State) : Out :=
  let r := s.room p
  act s (s.free p && r.fld CON_STAT_SWAP = 3 && r.fld CON_STAT_STEP ≤ 3 && due s.now r.con.frsTx 20000 &&
      !r.pd.auto.any (·.re = 5) && !r.pd.air.any (·.msg.re = 5)) fun s =>
    s.onRoomE p Room.errorRecovery

/-- FRS_DETECT (R256 step 1): the BMC line was held low for 45 µs. -/
def execFrsDetect (p : Fin 48) (s : State) : Out :=
  act s (s.free p && (s.room p).ast = aSnk && (s.room p).frsReady (s.env p)) fun s => s.onRoomE p fun e r =>
    let r := ((r.put CON_STAT_SWAP 4).toStep e 1).on CON_EVENT_FRS_RX
    let r := (r.onCon fun c => { c with swapAt := e.now, frsOk := false, swapWait := none }).onConv fun c =>
      { c with draw := 0 }
    let r := r.onCc fun c => { c with lostOff := true, swapTerm := none }
    (r.hwAsk e (wattsUp 5000 (frsMa (r.fld FRS_CTRL_FRS_I)))).refreshIlim e

/-- FRS_VBUS_DROP (R256 step 3, R269, R281): VBUS below 4.75 V; the converter sources from the next period start on, with
the reference at 5,000 mV. The FR_Swap exchange may be further on by then. -/
def execFrsVbusDrop (p : Fin 48) (s : State) : Out :=
  let r := s.room p
  act s (s.free p && r.attached && r.fld CON_STAT_SWAP = 4 && 2 ≤ r.fld CON_STAT_STEP && r.con.frsOk &&
      !r.forward && r.cc.vbus < 4750) fun s =>
    s.onRoomE p fun e r =>
      let r := if r.fld CON_STAT_STEP = 2 then r.toStep e 3 else r
      (r.onConv fun c => { c with frsTurn := true }).setVset e 5000

/-- VCONN_SWAP_TIMEOUT (R258): no PS_RDY within 150 ms of the Accept. -/
def execVconnSwapTimeout (p : Fin 48) (s : State) : Out :=
  let r := s.room p
  act s (s.free p && r.fld CON_STAT_SWAP = 5 && due s.now r.con.vconnSwap 150000 && !r.pd.hrDue) fun s =>
    s.onRoomE p Room.hardResetCause

end Sys2Proof.Machine
end

