-- ==== Sys2Proof/Machine/HearthOps.lean ====
section
/-! DEFINITION. Machine/HearthOps.lean: the thermal models of the Hearth (09_hearth_budget.md R338 to R349): arithmetic,
power inputs, states and what a state asks of port, slot, Pantry and root. -/

namespace Sys2Proof.Machine

/-! ### Arithmetic (R340, R344) -/

/-- Terms of 1 − e^(−y), y and the terms in 2⁻⁶⁴: `t` is the `k`th term, `sub` its sign. -/
def expTerms (y : Nat) : Nat → Nat → Nat → Bool → Int
  | 0, _, _, _ => 0
  | n + 1, k, t, sub => (if sub then -(t : Int) else (t : Int)) + expTerms y n (k + 1) (t * y / 2 ^ 64 / (k + 1)) (!sub)

/-- 1 − e^(−2y) from 1 − e^(−y), `n` times over. -/
def doubleExp : Nat → Nat → Nat
  | 0, u => u
  | n + 1, u => doubleExp n (u * (2 * 2 ^ 64 - u) / 2 ^ 64)

/-- 1 − alpha = 1 − exp(−10 ÷ τ) in 2⁻⁶⁴ (R340; log 14). -/
def betaOf (tau : Nat) : Nat :=
  let y := 10 * 2 ^ 64 / max tau 1 / 32
  doubleExp 5 (expTerms y 14 1 y false).toNat

/-- One stage of the Foster ladder: a power in µW through Θ in mK/W (R340). -/
def stage (theta tau pwr : Nat) (dt : Int) : Int :=
  let target : Int := ((theta * pwr * 2 ^ 40 / 1000000000 : Nat) : Int)
  dt + ((betaOf tau : Int) * (target - dt) + 2 ^ 63) / 2 ^ 64

/-- Bits of the square root from `n` down. -/
def sqrtBits : Nat → Nat → Nat → Nat
  | 0, _, r => r
  | n + 1, x, r => sqrtBits n x (if (r + 2 ^ n) * (r + 2 ^ n) ≤ x then r + 2 ^ n else r)

/-- Integer square root of a number below 2⁶⁴. -/
def isqrt (x : Nat) : Nat := sqrtBits 32 x 0

/-- RDS in nΩ at a temperature in mK above 0 °C (R341). -/
def rdsAt (r : ModelRec) (t : Int) : Nat :=
  ((1000 * r.rds25 : Int) + (r.rds25 * r.tc : Int) * (t - 25000) / 1000000).toNat

/-! ### References (R339, R587) -/

/-- TAMB input `n` counts as invalid. -/
def State.tambFault (s : State) (n : Nat) : Bool := s.hearth.tambBad.getD n 0 = 3

/-- Reference of a model in mK above 0 °C (R339) (log 31). -/
def State.tref (s : State) (r : ModelRec) : Int :=
  100 * (if !s.tambFault r.ref then s.hearth.tamb.getD r.ref 0
    else if !s.tambFault (1 - r.ref) then s.hearth.tamb.getD (1 - r.ref) 0
    else 10 * (s.fld HEARTH_CTRL_TAMB_FB : Int))

/-! ### Power inputs (R341) -/

/-- Port current of a member in µA. -/
def State.portUa (s : State) (m : Nat) : Int :=
  let rs := (s.pl.entry m).rsense
  if rs = 0 then 0 else sgn12 ((s.room (Fin.ofNat 48 m)).fld ADC_I_AVG) * 300000000 / (2048 * rs : Nat)

/-- I² × RDS in µW, I in µA and RDS in nΩ. -/
def heat (ua : Nat) (nohm : Nat) : Nat := ua * ua * nohm / 1000000000000000

/-- Power of a port switch (models 0 to 47). -/
def State.portHeat (s : State) (p : Nat) (rds : Nat) : Nat :=
  let r := s.room (Fin.ofNat 48 p)
  let ua := ((s.pl.members p).foldl (fun a m => a + s.portUa m) 0).natAbs
  if r.bit SW_STAT_FULL then heat ua rds
  else if r.bit SW_STAT_CMD then r.vds.natAbs * ua / 1000
  else 0

/-- Power of a slot FET (models 48 to 53). -/
def State.slotHeat (s : State) (b : Nat) (rds : Nat) : Nat :=
  let l := s.land (Fin.ofNat 6 b)
  let rs := max (s.pl.slot b).rsense 1
  let uv : Int := sgn12 (l.fld HS_IMEAS_CUR) * 150000 / 2048
  let ua := uv.natAbs * 1000000 / rs
  let vds : Int := 20000 * ((l.fld HS_MEAS_VSLOTIN : Int) - (l.fld HS_MEAS_VOUT : Int)) - uv
  if l.st = hOn && l.bit HS_STAT_GATE_FULL && l.fld HS_STAT_LIMIT = 0 then heat ua rds
  else if l.powered then vds.natAbs * ua / 1000000
  else 0

/-- Charger shunt current in µA; the shunt in units of 0.25 mΩ. -/
def State.ibUa (s : State) : Nat :=
  let sh := (s.pl.pantry.map (·.shunt)).getD 1
  (sgn12 (s.fld PAN_IMEAS_IB)).natAbs * 75000 * 1000000 / (2048 * 250 * max sh 1)

/-- Power input of a model in µW. -/
def State.modelHeat (s : State) (m : Nat) (r : ModelRec) (x : Model) : Nat :=
  let rds := rdsAt r x.tj
  if m < 48 then s.portHeat m rds
  else if m < 54 then s.slotHeat (m - 48) rds
  else if m = 54 then (if s.pantry.pwm = 1 then heat s.ibUa rds * s.pantry.duty / 65536 else 0)
  else if m = 55 then
    if s.bit CHG_STAT_QID_FULL then heat s.ibUa rds
    else if s.bit CHG_STAT_QID_ON then
      20 * ((s.fld PAN_MEAS_VBAT : Int) - (s.fld PAN_MEAS_SYS : Int)).natAbs * s.ibUa / 1000
    else 0
  else 1000 * s.hearth.die

/-! ### ITH and what the registers show -/

/-- ITH of R344 in mA, within the 16 bits of HEARTH_MS. -/
def State.ithOf (s : State) (m : Nat) (r : ModelRec) : Nat :=
  let cool := s.coolLevel m r
  let num := (cool - s.tref r).toNat
  let den := (r.theta.foldl (· + ·) 0) * rdsAt r cool
  let ma := if den = 0 then 655350 else isqrt (num * 10 ^ 15 / den) / 10 * 10
  min (max ma 100) 655350

def State.model (s : State) (m : Nat) : Model := (s.hearth.models[m]?).getD .reset

def State.setModel (s : State) (m : Nat) (x : Model) : State :=
  { s with hearth := { s.hearth with models := s.hearth.models.set m x } }

/-- Grace time of a model in µs. -/
def State.graceOf (s : State) (m : Nat) : Nat :=
  100000 * (if m < 48 then (s.room (Fin.ofNat 48 m)).fld HRT_CFG_GRACE else s.fld HEARTH_CTRL_GRACE)

/-- A 16-bit field of a signed value. -/
def enc16 (v : Int) : Nat := (v % 65536).toNat

/-- The registers that show a model: HRT_TEMP and HRT_STAT of a port, DIE_STATE and HEARTH_DIE of the die. -/
def State.showModel (s : State) (m : Nat) : State :=
  let x := s.model m
  let t := enc16 (roundDiv x.tj 100)
  if m < 48 then
    let fb := match s.modelRec m with
      | some r => s.tambFault r.ref
      | none => false
    let left := match x.warnAt with
      | some w => if x.st = 1 then (w + s.graceOf m - s.now + 99999) / 100000 else 0
      | none => 0
    s.onRoom (Fin.ofNat 48 m) fun r =>
      let r := (r.put HRT_TEMP_TJ t).put HRT_TEMP_PWR (min (x.pwr / 10000) 65535)
      let r := ((r.put HRT_STAT_STATE x.st).putB HRT_STAT_GRACE_SPENT (x.st = 1 && left = 0)).putB HRT_STAT_REF_FB fb
      (r.put HRT_STAT_GRACE_LEFT left).put HRT_STAT_ITH (if x.st = 0 then 0 else min x.ith 8190)
  else if m = 56 then
    ((s.put HEARTH_STAT_DIE_STATE x.st).put HEARTH_DIE_TJ t).put HEARTH_DIE_PWR (min (x.pwr / 1000) 65535)
  else s

/-- Put a model into a state and show it. -/
def State.modelTo (s : State) (m st : Nat) : State :=
  let x := s.model m
  let x := { x with st := st, relAt := none, coolAt := none
                    warnAt := if st = 1 then some s.now else none }
  let x := match s.modelRec m with
    | some r => if st = 1 || (st = 2 && x.ith = 0) then { x with ith := s.ithOf m r, ithAt := s.now } else x
    | none => x
  let x := if st = 0 then { x with ith := 0 } else x
  (s.setModel m x).showModel m

/-- What follows a change of a model's clamp: ILIM of a port, the budget tree otherwise. -/
def State.clampActs (s : State) (m : Nat) : State :=
  if m < 48 then s.onRoomE (Fin.ofNat 48 m) Room.refreshIlim else s.enforce

/-- After every attempt the model enters CLAMP with ITH computed then (R346, R347; log 32). -/
def State.clampModel (s : State) (m : Nat) : State :=
  match s.modelRec m with
  | some r =>
    let s := s.setModel m { s.model m with ith := s.ithOf m r, ithAt := s.now }
    (s.modelTo m 2).clampActs m
  | none => s

/-! ### TRIP -/

/-- THERM_TRIP on a port (R343, R346): the port safe state; a retry waits for the model, and an attempt made before
counts as failed while COUNT has not returned to 0. -/
def Room.thermTrip (e : Env) (r : Room) : Room :=
  let failed := r.conv.thermTried && r.fld RETRY_STAT_ATTEMPT = 0 && !r.inSafe
  let r := if failed then r.put RETRY_STAT_COUNT (min (r.fld RETRY_STAT_COUNT + 1) 15) else r
  let r := if failed then r.on CONV_EVENT_ATTEMPT_FAIL else r
  (r.enterSafe e FAULT_THERM_TRIP true).onConv fun c => { c with thermal := true, thermTried := false }

def State.portTrip (s : State) (p : Fin 48) : State := (s.onRoomE (s.lead p) Room.thermTrip).gangLevel p

/-- THERM_TRIP on a slot (R347, R329). -/
def State.slotTrip (s : State) (b : Fin 6) : State :=
  let s := s.onLand b fun l => l.slotFault HS_FAULT_THERM_TRIP
  if (s.land b).powered then s.startShed b true else s

/-- A Pantry fault sets its bit and FAULT in PANTRY_EVENT. -/
def State.panFault (s : State) (f : Field) : State := (s.on f).on PANTRY_EVENT_FAULT

/-- TRIP of the die model (R349). -/
def State.dieTrip (s : State) : State :=
  let s := s.on HEARTH_EVENT_DIE_TRIP
  if s.pairMode then s.dropKey
  else
    let s := (List.finRange 48).foldl (fun s p => if s.pl.whole p.val then s.portTrip p else s) s
    (List.finRange 6).foldl (fun s b =>
      if (s.pl.slot b.val).present then
        (s.onLand b fun l => l.slotFault HS_FAULT_THERM_TRIP).slotTo b hLatched false else s) s

/-- What entry to WARN sets (R343, R347 to R349). -/
def State.warnActs (s : State) (m : Nat) : State :=
  if m < 48 then s.onRoom (Fin.ofNat 48 m) fun r => r.on EVENT_THERM_WARN
  else if m < 54 then s.put HEARTH_EVENT_SLOT_WARN (s.fld HEARTH_EVENT_SLOT_WARN ||| 2 ^ (m - 48))
  else if m = 54 then s.on HEARTH_EVENT_QCHG_WARN
  else if m = 55 then s.on HEARTH_EVENT_QID_WARN
  else (s.on HEARTH_EVENT_DIE_WARN).enforce

/-- What entry to TRIP does (R343, R347 to R349, R377). -/
def State.tripActs (s : State) (m : Nat) : State :=
  if m < 48 then s.portTrip (Fin.ofNat 48 m)
  else if m < 54 then s.slotTrip (Fin.ofNat 6 (m - 48))
  else if m = 54 then (s.on HEARTH_EVENT_QCHG_TRIP).panFault PANTRY_FAULT_QCHG_TRIP
  else if m = 55 then ((s.on HEARTH_EVENT_QID_TRIP).panFault PANTRY_FAULT_QID_TRIP).enforce
  else s.dieTrip

/-! ### Updates -/

/-- This chip holds the model's target and lets its states act (R505; the die model is each chip's own, log 33). -/
def State.holdsModel (s : State) (m : Nat) : Bool :=
  if m < 48 then s.keeps (wingOf (Fin.ofNat 48 m))
  else if m < 54 then s.keeps (wingOfLand (Fin.ofNat 6 (m - 48)))
  else if m < 56 then s.hallKeeper
  else true

/-- Whether ITH exceeds by 10 % every other limit (R345, R347; log 32). -/
def State.released (s : State) (m : Nat) : Bool :=
  let ith := (s.model m).ith
  if m < 48 then
    let p := Fin.ofNat 48 m
    ((s.room p).limits (s.env p)).all fun x => x.2 = 5 || x.1 * 11 < ith * 10
  else if m < 54 then
    let b := Fin.ofNat 6 (m - 48)
    s.nodeFld (.land b) BUD_LIMIT_LIMIT_W * 11 < (s.land b).vslotin * ith / 1000000 * 10
  else if m = 54 then s.fld CHG_SET_ICHG * 11 < ith * 10
  else (s.fld BAT_DIS_DIS_W + (if s.bit PAN_CTRL_RSUP_EN then s.fld BAT_DIS_RSUP_W else 0)) * 11 <
    20 * s.fld PAN_MEAS_VBAT * ith / 1000000 * 10

/-- What a TRIP opened has been started again by other means than an attempt of R346: an accepted RECOVER, a Wing restart, a
new card (log 110). -/
def State.tripOver (s : State) (m : Nat) (cool : Bool) : Bool :=
  if m < 48 then
    let r := s.room (Fin.ofNat 48 m)
    !r.inSafe && (cool || !r.slotHold)
  else
    let l := s.land (Fin.ofNat 6 (m - 48))
    l.shed.isNone && l.st != hRetry && l.st != hLatched && (cool || l.powered)

/-- The state changes of a model other than the die (R343). -/
def State.modelStep (s : State) (m : Nat) (r : ModelRec) : State :=
  let x := s.model m
  let warn := 100 * r.twarn ≤ x.tj
  let trip := 100 * r.ttrip ≤ x.tj
  let cool := x.tj < s.coolLevel m r
  match x.st with
  | 0 => if trip then (s.modelTo m 3).tripActs m else if warn then (s.modelTo m 1).warnActs m else s
  | 1 =>
    if trip then (s.modelTo m 3).tripActs m
    else if warn && due s.now x.warnAt (s.graceOf m) then (s.modelTo m 2).clampActs m
    else if cool then s.modelTo m 0
    else s
  | 2 =>
    if trip then (s.modelTo m 3).tripActs m
    else
      let ok := s.released m
      s.setModel m { x with relAt := if ok then (match x.relAt with | some t => some t | none => some s.now) else none }
  | _ => if 54 ≤ m then (if cool then s.clampModel m else s) else if s.tripOver m cool then s.modelTo m 0 else s

/-- The state changes of the die model (R349). -/
def State.dieStep (s : State) (r : ModelRec) : State :=
  let x := s.model 56
  let warn := 100 * r.twarn ≤ x.tj
  let cool := x.tj < s.coolLevel 56 r
  let s := s.setModel 56 { x with coolAt :=
    if cool then (match x.coolAt with | some t => some t | none => some s.now) else none }
  if x.st != 3 && 100 * r.ttrip ≤ x.tj then (s.modelTo 56 3).tripActs 56
  else if x.st = 0 && warn then (s.modelTo 56 1).warnActs 56
  else if x.st = 1 && warn && due s.now x.warnAt (s.graceOf 56) then (s.modelTo 56 2).enforce
  else s

/-- One update of one model (R338, R340). -/
def State.updateModel (s : State) (m : Nat) : State :=
  match s.modelRec m with
  | none => s
  | some r =>
    if !s.holdsModel m then s
    else
      let x := s.model m
      let p := s.modelHeat m r x
      let dt := (List.range 3).map fun i => stage (r.theta.getD i 0) (r.tau.getD i 0) p (x.dt.getD i 0)
      let tj := s.tref r + roundDiv ((dt.foldl (· + ·) 0) * 1000) (2 ^ 40)
      let s := (s.setModel m { x with dt := dt, tj := tj, pwr := p }).showModel m
      if m = 56 then s.dieStep r else s.modelStep m r

/-- The starting stages of R342. -/
def State.startModel (s : State) (m : Nat) : State :=
  match s.modelRec m with
  | none => s
  | some r =>
    let th := max (r.theta.foldl (· + ·) 0) 1
    let d := if s.clk.cold then 0 else (s.coolLevel m r - s.tref r).toNat
    let dt := (List.range 3).map fun i => ((d * r.theta.getD i 0 * 2 ^ 40 / (th * 1000) : Nat) : Int)
    (s.setModel m { Model.reset with dt := dt }).showModel m

/-- Every model as it starts when the Plan is applied. -/
def State.startHearth (s : State) : State := (List.range 57).foldl State.startModel s

end Sys2Proof.Machine
end

