-- ==== Sys2Proof/Machine/Modes.lean ====
section
/-! DEFINITION. Machine/Modes.lean: global modes and FIRE_N (19_faults.md R600 to R605, 06_contracts_roles.md R260). -/

namespace Sys2Proof.Machine

/-- A Room is at a safe point (R601, R36). -/
def Room.safePoint (r : Room) : Bool :=
  r.inSafe || (r.stateCode != 4 && !r.bit CON_STAT_HR_SEQ && r.fld CON_STAT_SWAP = 0)

/-- Bit `p` of MODE_ACK (R602). -/
def State.acked (s : State) (p : Fin 48) : Bool :=
  !s.pl.whole p.val || ((s.room p).fld STATUS_MODE = s.fld HALL_MODE_MODE &&
    (s.room p).fld STATUS_EPOCH = s.fld HALL_MODE_EPOCH % 256)

/-- MODE_ACK0 and MODE_ACK1; PENDING clears when every bit reads 1 (R602). -/
def State.refreshAcks (s : State) : State :=
  let a := (List.finRange 48).foldl (fun a p => if s.acked p then a + 2 ^ p.val else a) 0
  let s := (s.put MODE_ACK0_ACK (a % 2 ^ 32)).put MODE_ACK1_ACK (a / 2 ^ 32)
  if a = 2 ^ 48 - 1 && s.bit HALL_MODE_PENDING then
    { (s.off HALL_MODE_PENDING) with mode := { s.mode with changed := true } }
  else s

/-- An accepted write of MODE (R600, R604): EPOCH + 1, PENDING, SRC, and the 50 ms of R603 from now. -/
def State.writeMode (s : State) (m src : Nat) : State :=
  let was := s.bit HALL_MODE_PENDING
  let s := (s.put HALL_MODE_MODE m).put HALL_MODE_EPOCH ((s.fld HALL_MODE_EPOCH + 1) % 65536)
  let s := (s.on HALL_MODE_PENDING).put HALL_MODE_SRC src
  { s with mode := { since := s.now, changed := s.mode.changed || !was } }.refreshAcks

/-- The hardware path of FIRE_N (R605). -/
def State.fireEval (s : State) : State :=
  if s.bit FIRE_CFG_EN && s.bit FIRE_CFG_FIRE_IN && s.fld HALL_MODE_MODE != mFire then s.writeMode mFire 2 else s

/-- A write of MODE over the Hall register bus (R600, R605, R500), narrowed by RANGES (R122). -/
def State.busMode (s : State) (r : Req) (v : Nat) : State :=
  let m := s.clampField (.hall 0x040) HALL_MODE_MODE v
  if !s.hallKeeper && r != .stair then s.accessErr r
  else if 5 ≤ v || (m != mFire && s.bit FIRE_CFG_EN && s.bit FIRE_CFG_FIRE_IN) then s.on HALL_MODE_REFUSED
  else s.writeMode m (if r = .stair then 3 else 0)

/-- HALL_MODE_WRITE (R600, R604, R605). -/
def execHallModeWrite (r : Req) (mode : Nat) (s : State) : Out :=
  act s s.booted fun s => { s with rerr := false }.busMode r mode

/-- A Room takes up a mode (R601, R260): STATUS, MODE_APPLIED, the shed of a class that the mode sheds (log 35). -/
def Room.applyMode (e : Env) (m epoch : Nat) (r : Room) : Room :=
  let r := (((r.put STATUS_MODE m).put STATUS_EPOCH (epoch % 256)).on EVENT_MODE_APPLIED).onCon fun c =>
    { c with fallback := false }
  let r := { r with epoch := epoch }
  if r.modeSheds e.port.cls && r.ast = aSrc && !r.outOff then r.shed e else r.refreshIlim e

/-- The fallback action of a forced port (R260, table "Modes and classes"). -/
def Room.fallBack (e : Env) (r : Room) : Room :=
  let m := r.fld STATUS_MODE
  if m = mBattery && e.port.cls != 2 && r.ast = aSrc && r.fld CON_LIM_VLIM < r.fld CON_VI_MV && !r.bit PD_STAT_HR_ACTIVE
  then r.hardResetCause e
  else if (m = mService || (m = mQuiet && e.port.cls = 2)) && r.attached then
    (r.onCon fun c => { c with fallback := true }).refreshIlim e
  else r

/-- MODE_APPLY (R601, R602, R36): at a safe point. -/
def execModeApply (p : Fin 48) (s : State) : Out :=
  let r := s.room p
  act s (s.live p && r.epoch != s.fld HALL_MODE_EPOCH && r.safePoint) fun s =>
    (s.onRoomE p fun e r => r.applyMode e (s.fld HALL_MODE_MODE) (s.fld HALL_MODE_EPOCH)).refreshAcks

/-- FORCED_MODE (R603): 50 ms after the newest epoch a Landing forces every Room that has not applied it. -/
def execForcedMode (b : Fin 6) (s : State) : Out :=
  act s (s.booted && s.bit HALL_MODE_PENDING && old s.now s.mode.since 50000) fun s =>
    ((portsOf b).foldl (fun s p =>
      if s.live p && (s.room p).epoch != s.fld HALL_MODE_EPOCH then
        s.onRoomE p fun e r =>
          ((r.applyMode e (s.fld HALL_MODE_MODE) (s.fld HALL_MODE_EPOCH)).fault FAULT_FORCED_MODE).fallBack e
      else s) s).refreshAcks

/-- FIRE_N (R605): low for FILT. -/
def execFireN (s : State) : Out :=
  act s s.booted fun s =>
    let s := if s.bit FIRE_CFG_FIRE_IN then s else (s.on FIRE_CFG_FIRE_IN).on FIRE_CFG_FIRE
    s.fireEval

/-- FIRE_N_RELEASE (R605): high for FILT. -/
def execFireNRelease (s : State) : Out :=
  act s (s.booted && s.bit FIRE_CFG_FIRE_IN) fun s => (s.off FIRE_CFG_FIRE_IN).on FIRE_CFG_FIRE

end Sys2Proof.Machine
end

