-- ==== Sys2Proof/Machine/Pantry.lean ====
section
/-! DEFINITION. Machine/Pantry.lean: charger, ideal diode and battery operation, and the status lamps
(10_pantry_battery.md). Commands that judge a measurement carry the means of R361 that they judge. -/

namespace Sys2Proof.Machine

/-! ### Codes of the table "Charger states" (R371) -/

abbrev pOff : Nat := 0
abbrev pWaitPres : Nat := 1
abbrev pQualify : Nat := 2
abbrev pPrecharge : Nat := 3
abbrev pFast : Nat := 4
abbrev pTrickle : Nat := 5
abbrev pPause : Nat := 6
abbrev pFault : Nat := 7

/-- The PANTRY entry; cells, limits and shunt of 0 without one. -/
def State.panPlan (s : State) : PantryPlan := s.pl.pantry.getD ⟨0, 0, 0, 0⟩

/-- The Pantry measures: the Plan has one and the clocks run (R380). -/
def State.panPresent (s : State) : Bool := s.booted && s.pl.pantry.isSome

/-- The Pantry acts: it measures, and this chip is the Hall keeper (R380). -/
def State.panLive (s : State) : Bool := s.panPresent && s.hallKeeper

def State.pst (s : State) : Nat := s.fld CHG_STAT_STATE

def State.onPan (s : State) (f : Pantry → Pantry) : State := { s with pantry := f s.pantry }

/-- A charging state (R370, R371). -/
def charging (st : Nat) : Bool := st = pQualify || st = pPrecharge || st = pFast || st = pTrickle

/-- VBAT_SNS, SYS_SNS and VBUS_IN_SNS in mV as the registers show them. -/
def State.vbat (s : State) : Nat := 20 * s.fld PAN_MEAS_VBAT
def State.vsys (s : State) : Nat := 20 * s.fld PAN_MEAS_SYS
def State.vbusIn (s : State) : Nat := 20 * s.fld PAN_IMEAS_VBUS_IN

/-! ### Charge current (R373, R377) -/

/-- The target of a state in mA (R373). -/
def State.targetOf (s : State) (st : Nat) : Nat :=
  if st = pQualify then 100
  else if st = pPrecharge then s.fld CHG_SET_IPRE
  else if st = pFast then s.fld CHG_SET_ICHG
  else if st = pTrickle then s.fld CHG_SET_ITRK
  else 0

/-- The current that the grant gives, in mA (R373). -/
def State.grantMa (s : State) : Nat := if s.vbat = 0 then 0 else s.chgGrant * 1000000 / s.vbat

/-- The charge current: the lower of target and grant, limited by the QCHG clamp; 0 before check 4 of R372, with QID on,
and outside the charging states (R370, R372, R373, R377). -/
def State.chgCurrent (s : State) : Nat :=
  if !charging s.pst || s.bit CHG_STAT_QID_ON || s.pantry.povAt.isSome then 0
  else if s.pst = pQualify && s.pantry.qStep != 4 then 0
  else
    let i := min (s.targetOf s.pst) s.grantMa
    if s.modelState 54 = 2 then min i (s.modelIth 54) else i

/-- CHG_I, and CHG_PWM where it follows the state: mid-rail unless a current flows (R370). A shadow shows what the keeper does
and drives nothing (R380). -/
def State.refreshChg (s : State) : State :=
  let i := min s.chgCurrent 8191
  if !s.hallKeeper then s else
  let s := s.put CHG_STAT_CHG_I i
  if i = 0 then s.onPan fun p => { p with pwm := 2, ramp := 0 } else s

/-- The charger asks the root for a state's power: ceil(N × 1.5 V × target) W (R373). -/
def State.askRoot (s : State) (st : Nat) : State :=
  let w := (s.panPlan.cells * 3 * s.targetOf st + 1999) / 2000
  s.onPan fun p => { p with ask := some w, askAt := s.now }

/-- The charger gives its grant back (R373). -/
def State.giveBack (s : State) : State := { s with chgGrant := 0 }.onPan fun p => { p with ask := none }

/-- Enter a charger state (R371, R373, R375): STATE in PANTRY_EVENT, the ask of a charging state, the grant given back on
entry to WAIT_PRES, FAULT or OFF. `fresh` restarts what a new stay in the state counts. -/
def State.panTo (s : State) (st : Nat) (fresh : Bool) : State :=
  let s := (s.put CHG_STAT_STATE st).on PANTRY_EVENT_STATE
  let s := if st = pPause then s else s.off CHG_STAT_PAUSE_CAUSE
  let s := s.onPan fun p =>
    { p with entry := s.now, toFast := p.toFast && decide (st = pPause)
             povAt := if st = pWaitPres then none else p.povAt }
  let s := if st = pQualify then s.onPan fun p => { p with qStep := 1, qAt := s.now } else s
  let s := if fresh then
      if st = pPrecharge then s.onPan fun p => { p with preOk := none, preUs := 0 }
      else if st = pFast then (s.onPan fun p =>
        { p with fastUs := 0, holdBase := 0, peak := 0, means := [], ndvRow := 0, dtRow := 0 }).off CHG_PROG_PEAK
      else s
    else s
  let s := if charging st then s.askRoot st else if st = pPause then s else s.giveBack
  s.refreshChg

/-- QID goes off (R364): what the pull-down shows. -/
def State.qidOff (s : State) : State := ((s.off CHG_STAT_QID_ON).off CHG_STAT_QID_FULL).refreshChg

/-- Battery operation begins (R365 to R367, R381): the root's limit falls and is enforced. -/
def State.beginBattery (s : State) : State :=
  if s.bit CHG_STAT_BATT_ACTIVE then s
  else ((s.on CHG_STAT_BATT_ACTIVE).on PANTRY_EVENT_BATT_ON).onPan (fun p => { p with batAt := some s.now }) |>.enforce

/-- A latched fault puts the charger into FAULT while EN is 1 and the pack is present (R371, R375). -/
def State.latchPan (s : State) (f : Field) : State :=
  let s := s.panFault f
  if s.bit PAN_CTRL_EN && s.bit CHG_STAT_PRES && s.pst != pOff then s.panTo pFault true else s

/-! ### Measurements -/

/-- Record the means of R361 and what runs from them: ID_REV's release, the exit count of R366, PRECHARGE's 10 s. -/
def State.panMeasure (s : State) (m : PanMeas) : State :=
  let s := ((s.put PAN_MEAS_VBAT m.vbat.toNat).put PAN_MEAS_SYS m.sys.toNat).put PAN_IMEAS_IB m.ib.toNat
  let s := s.put PAN_IMEAS_VBUS_IN m.vbusIn.toNat
  let s := s.putB CHG_STAT_QID_FULL (m.full && s.bit CHG_STAT_QID_ON)
  let keep (t : Option Nat) (c : Bool) : Option Nat :=
    if c then (match t with | some x => some x | none => some s.now) else none
  (s.onPan fun p =>
    { p with rev := p.rev && s.vbat * 10000 + 46875 * s.fld PAN_THR_REV_EFF < s.vsys * 10000
             retAt := keep p.retAt (54000 ≤ s.vbusIn && !s.bit CHG_STAT_QID_ON)
             preOk := keep p.preOk (s.pst = pPrecharge && s.panPlan.cells * 1000 ≤ s.vbat) }).refreshChg

/-- A command that carries a measurement: it is recorded, and the effect follows where the Pantry acts. -/
def panAct (s : State) (m : PanMeas) (f : State → State) : Out :=
  act s s.panPresent fun s =>
    let s := s.panMeasure m
    if s.panLive then f s else s

/-- PAN_THR from the settings (R369). -/
def State.panLevels (s : State) : State :=
  let n := s.panPlan.cells
  let ov := min ((n * s.fld CHG_LIMITS_CELL_OV + 79) / 80) 1023
  let pk := (s.fld CHG_SET_ICHG * s.panPlan.shunt * 37500 + 7323999) / 7324000
  let rev := (s.fld ID_CFG_REV_MV * 10000 + 46874) / 46875
  ((s.put PAN_THR_OV_EFF ov).put PAN_THR_PK_EFF (max 1 (min pk 1023))).put PAN_THR_REV_EFF (min rev 1023)

/-! ### Ideal diode and battery operation -/

/-- QID_ON (R363, R365, R377): two conversions above FWD_MV. -/
def execQidOn (m : PanMeas) (s : State) : Out :=
  panAct s m fun s =>
    let busy := charging s.pst && s.pantry.pwm != 2
    let hot := s.modelState 55 = 3 && !s.bit CHG_STAT_BATT_ACTIVE
    if s.vsys + s.fld ID_CFG_FWD_MV < s.vbat && s.bit PAN_CTRL_EN && s.bit CHG_STAT_PRES && !s.bit CHG_STAT_CUTOFF &&
        !busy && !hot && !s.pantry.rev then
      ((s.on CHG_STAT_QID_ON).onPan fun p => { p with retAt := none }).refreshChg.beginBattery
    else s

/-- ID_REV_TRIP (R364, R369, R381): QID off at once. -/
def execIdRevTrip (m : PanMeas) (s : State) : Out :=
  panAct s m fun s =>
    if s.vbat * 10000 + 46875 * s.fld PAN_THR_REV_EFF < s.vsys * 10000 then
      (s.onPan fun p => { p with rev := true }).qidOff
    else s

/-- BATTERY_OPERATION_BEGIN (R365): QID on, or VBUS_IN_SNS below 52.0 V with a pack present and no cut-off. -/
def execBatteryOperationBegin (m : PanMeas) (s : State) : Out :=
  panAct s m fun s =>
    if s.bit CHG_STAT_QID_ON || (s.vbusIn < 52000 && s.bit CHG_STAT_PRES && !s.bit CHG_STAT_CUTOFF) then s.beginBattery
    else s

/-- BATTERY_MODE (R365): after 1 ms, while the mode is NORMAL or QUIET. -/
def execBatteryMode (s : State) : Out :=
  let m := s.fld HALL_MODE_MODE
  act s (s.panLive && s.bit PAN_CTRL_BM_AUTO && s.bit CHG_STAT_BATT_ACTIVE && due s.now s.pantry.batAt 1000 &&
      s.pantry.mode.isNone && (m = mNormal || m = mQuiet)) fun s =>
    let m := s.fld HALL_MODE_MODE
    let s := s.writeMode mBattery 1
    s.onPan fun p => { p with mode := some (m, s.fld HALL_MODE_EPOCH) }

/-- The end of battery operation (R366 to R368, R371). -/
def State.endBattery (s : State) : State :=
  let long := due s.now s.pantry.batAt 10000000
  let s := match s.pantry.mode with
    | some (m, epoch) =>
      if s.bit PAN_CTRL_BM_AUTO && s.fld HALL_MODE_MODE = mBattery && s.fld HALL_MODE_EPOCH = epoch then s.writeMode m 1 else s
    | none => s
  let s := ((s.off CHG_STAT_BATT_ACTIVE).off CHG_STAT_BAT_LOW).on PANTRY_EVENT_BATT_OFF
  let s := s.onPan fun p => { p with batAt := none, mode := none, cutAt := none }
  if !long then s
  else if s.pst = pTrickle then s.panTo pFast true
  else if s.pst = pPause && s.pantry.held = pTrickle then s.onPan fun p => { p with toFast := true }
  else s

/-- BATTERY_OPERATION_END (R366): VBUS_IN_SNS at or above 54.0 V with QID off for BM_EXIT. -/
def execBatteryOperationEnd (m : PanMeas) (s : State) : Out :=
  panAct s m fun s =>
    if s.bit CHG_STAT_BATT_ACTIVE && due s.now s.pantry.retAt (1000000 * s.fld ID_CFG_BM_EXIT) then s.endBattery else s

/-- VBUS_IN_RETURN (R368, R366): at or above 54.0 V, CUTOFF clears and the exit count starts. -/
def execVbusInReturn (m : PanMeas) (s : State) : Out :=
  panAct s m fun s => if 54000 ≤ s.vbusIn then s.off CHG_STAT_CUTOFF else s

/-- The cut-off level in mV (R368). -/
def State.cutLevel (s : State) : Nat :=
  s.panPlan.cells * (if s.fld HALL_MODE_MODE = mFire && s.bit BAT_VOLT_FIRE_CUT then 800 else s.fld BAT_VOLT_CUT_V)

/-- The 1 s mean of VBAT_SNS, in mV, moves the cut-off timer (R368, R381). -/
def State.cutTimer (s : State) (mean : Nat) : State :=
  s.onPan fun p =>
    let low := mean ≤ s.cutLevel
    let same := p.cutLevel = s.cutLevel
    { p with cutLevel := s.cutLevel
             cutAt := if !low then none else match p.cutAt with
               | some t => some (if same then t else s.now)
               | none => some s.now }

/-- BAT_LOW (R368): the 1 s mean of VBAT_SNS in mV. -/
def execBatLow (mean : Nat) (s : State) : Out :=
  act s (s.panLive && s.bit CHG_STAT_BATT_ACTIVE) fun s =>
    let s := s.cutTimer mean
    let n := s.panPlan.cells
    if mean ≤ n * s.fld BAT_VOLT_LOW_V then
      (if s.bit CHG_STAT_BAT_LOW then s else ((s.on CHG_STAT_BAT_LOW).on PANTRY_EVENT_BAT_LOW)).enforce
    else if n * (s.fld BAT_VOLT_LOW_V + 50) < mean then s.off CHG_STAT_BAT_LOW
    else s

/-- CUTOFF (R368): the mean has been at or below the cut-off level for 5 s. -/
def execCutoff (mean : Nat) (s : State) : Out :=
  act s (s.panLive && s.bit CHG_STAT_BATT_ACTIVE) fun s =>
    let s := s.cutTimer mean
    if due s.now s.pantry.cutAt 5000000 && !s.bit CHG_STAT_CUTOFF then
      ((s.on CHG_STAT_CUTOFF).panFault PANTRY_FAULT_CUTOFF).qidOff
    else s

/-! ### Pack presence -/

/-- BAT_PRES_CHANGE (R378, R364, R381): the level after 3 equal samples. -/
def execBatPresChange (present : Bool) (s : State) : Out :=
  act s (s.panPresent && s.bit CHG_STAT_PRES != present) fun s =>
    let s := ((s.putB CHG_STAT_PRES present).on PANTRY_EVENT_PRES_CHANGE).onPan fun p => { p with presAt := s.now }
    if present || !s.panLive then s
    else
      let s := (s.qidOff).panFault PANTRY_FAULT_BAT_REMOVED
      if s.bit PAN_CTRL_EN then s.panTo pWaitPres true else s.refreshChg

/-- PRES_STABLE (R371): present and stable for 2 s. -/
def execPresStable (s : State) : Out :=
  act s (s.panLive && s.pst = pWaitPres && s.bit CHG_STAT_PRES && old s.now s.pantry.presAt 2000000) fun s =>
    s.panTo pQualify true

/-! ### Qualification and precharge -/

/-- BAT_NTC counts as invalid (R374 after R339). -/
def State.ntcFault (s : State) : Bool := s.pantry.ntcBad = 3

/-- Pack temperature in 0.1 °C. -/
def State.packT (s : State) : Int :=
  let v := s.fld BAT_TEMP_T
  if v < 32768 then (v : Int) else (v : Int) - 65536

/-- The pack temperature lies within TMIN to TMAX. -/
def State.tempIn (s : State) : Bool :=
  decide (10 * (s.fld CHG_LIMITS_TMIN : Int) ≤ s.packT) && decide (s.packT ≤ 10 * (s.fld CHG_LIMITS_TMAX : Int))

/-- QUALIFICATION (R372): the next check, with the mean of VBAT_SNS in mV that checks 3 and 4 take. -/
def execQualification (mean : Nat) (s : State) : Out :=
  act s (s.panLive && s.pst = pQualify) fun s =>
    let p := s.pantry
    let n := s.panPlan.cells
    match p.qStep with
    | 1 => if s.bit CHG_STAT_NTC_OK then s.onPan fun p => { p with qStep := 2, qAt := s.now }
           else s.latchPan PANTRY_FAULT_NTC_FAULT
    | 2 => s.onPan fun p => { p with qStep := if s.tempIn then 3 else 5, qAt := s.now }
    | 5 => if old s.now p.qAt 10000000 then s.onPan fun p => { p with qStep := if s.tempIn then 3 else 5, qAt := s.now } else s
    | 3 => if n * 800 ≤ mean && mean ≤ n * 1600 then
             (s.onPan fun p => { p with qStep := 4, qAt := s.now, qBase := mean }).refreshChg
           else s.latchPan PANTRY_FAULT_QUAL_V
    | _ => if !old s.now p.qAt 5000000 then s
           else if p.qBase + n * 40 < mean then s.latchPan PANTRY_FAULT_QUAL_R
           else if s.vbat < n * 1000 then s.panTo pPrecharge true
           else s.panTo pFast true

/-- PRECHARGE_DONE (R371): VBAT_SNS at or above N × 1,000 mV for 10 s. -/
def execPrechargeDone (m : PanMeas) (s : State) : Out :=
  panAct s m fun s =>
    if s.pst = pPrecharge && due s.now s.pantry.preOk 10000000 then s.panTo pFast true else s

/-- PRE_TIMEOUT (R371): 30 min in PRECHARGE. -/
def execPreTimeout (s : State) : Out :=
  act s (s.panLive && s.pst = pPrecharge && 1800000000 ≤ s.pantry.preUs && !due s.now s.pantry.preOk 10000000) fun s => s.latchPan PANTRY_FAULT_PRE_TIMEOUT

/-! ### Termination -/

/-- HOLDOFF minutes of charging have passed in FAST (R374). -/
def State.heldOff (s : State) : Bool :=
  s.pst = pFast && s.pantry.holdBase + 60000000 * s.fld CHG_TERM_HOLDOFF ≤ s.pantry.fastUs

/-- A termination (R374, R375): TERM_CAUSE, TRICKLE; TERMINATED for −ΔV and dT/dt (log 112). -/
def State.terminate (s : State) (cause : Nat) : State :=
  let s := if cause = 3 then s else s.on PANTRY_EVENT_TERMINATED
  (s.panTo pTrickle true).put CHG_STAT_TERM_CAUSE cause

/-- NDV_WINDOW (R374): a 4 s window mean of VBAT_SNS in mV. -/
def execNdvWindow (mean : Nat) (s : State) : Out :=
  act s (s.panLive && s.heldOff) fun s =>
    let p := s.pantry
    let peak := max p.peak mean
    let row := if mean + s.panPlan.cells * s.fld CHG_TERM_NDV ≤ peak then p.ndvRow + 1 else 0
    let s := (s.onPan fun p => { p with peak := peak, ndvRow := row, means := mean :: p.means.take 1 }).put CHG_PROG_PEAK
      (min (peak / 20) 4095)
    if 2 ≤ row && s.fld PAN_CTRL_TERM_SEL != 2 then s.terminate 1 else s

/-- DTDT_EVALUATION (R374): a 10 s mean of the pack temperature in 0.01 °C. -/
def execDtdtEvaluation (mean : Int) (s : State) : Out :=
  act s (s.panLive) fun s =>
    let p := s.pantry
    match p.temps[5]? with
    | none => s.onPan fun p => { p with temps := mean :: p.temps }
    | some t6 =>
      let d := mean - t6
      let hit := s.heldOff && 10 * (s.fld CHG_TERM_DTDT : Int) ≤ d
      let row := if hit then p.dtRow + 1 else 0
      let s := (s.onPan fun p => { p with temps := mean :: p.temps.take 5, dtRow := row }).put BAT_TEMP_DTDT (enc16 d)
      if 3 ≤ row && s.fld PAN_CTRL_TERM_SEL != 1 then s.terminate 2 else s

/-- SAFETY_TMR (R375): fast-charge time has reached TSAFE. -/
def execSafetyTmr (s : State) : Out :=
  act s (s.panLive && s.pst = pFast && 60000000 * s.fld CHG_TERM_TSAFE ≤ s.pantry.fastUs) fun s =>
    s.latchPan PANTRY_FAULT_SAFETY_TMR

/-! ### Pack temperature (R374) -/

/-- `n` more bits of the fraction of log₂ of `x`, a number of 1 to 2 in 2⁻⁶⁰. -/
def logBits : Nat → Nat → Nat → Nat
  | 0, _, acc => acc
  | n + 1, x, acc =>
    let y := x * x / 2 ^ 60
    if 2 ^ 61 ≤ y then logBits n (y / 2) (2 * acc + 1) else logBits n y (2 * acc)

/-- ln of a ÷ b in 2⁻³², for positive a and b. -/
def lnRatio (a b : Nat) : Int :=
  let e : Int := (Nat.log2 a : Int) - (Nat.log2 b : Int) - 1
  let x := a * 2 ^ (61 + Nat.log2 b) / (b * 2 ^ Nat.log2 a)
  let (x, e) := if 2 ^ 61 ≤ x then (x / 2, e + 1) else (x, e)
  let l2 : Int := e * 2 ^ 32 + (logBits 32 x 0 : Int)
  l2 * 2977044472 / 2 ^ 32

/-- The pack temperature in 0.1 °C of a BAT_NTC voltage in µV (R374); none where the formula gives none: no voltage, one
at REF_OUT or above, or a temperature beyond the field. -/
def ntcTemp (beta r25 uv : Nat) : Option Int :=
  if uv = 0 || 1200000 ≤ uv || r25 = 0 || beta = 0 then none
  else
    let l := lnRatio (100 * uv) (r25 * (1200000 - uv))
    let inv : Int := 10 ^ 17 / 29815 + l * 10 ^ 15 / ((beta : Int) * 2 ^ 32)
    if inv ≤ 0 then none
    else
      let c := roundDiv (roundDiv (10 ^ 18) inv.toNat - 273150) 100
      if -32768 ≤ c && c ≤ 32767 then some c else none

/-- One conversion of BAT_NTC (R374 after R339); a temperature that the formula does not give is a free value. -/
def State.ntcConvert (s : State) (uv : Nat) : State :=
  let t := ntcTemp (s.fld NTC_CFG_BETA) (s.fld NTC_CFG_R25) uv
  let ok := match t with
    | some c => decide (-200 ≤ c) && decide (c ≤ 800)
    | none => false
  let wasBad := s.pantry.ntcBad
  let good := if wasBad = 3 && ok then s.pantry.ntcGood + 1 else 0
  let bad := if wasBad = 3 then (if good = 100 then 0 else 3) else if ok then 0 else wasBad + 1
  let s := s.onPan fun p => { p with ntcBad := bad, ntcGood := if bad = 0 then 0 else good }
  let s := match t with
    | some c => s.put BAT_TEMP_T (enc16 c)
    | none => (s.free?.2).put BAT_TEMP_T (s.free?.1.toNat % 65536)
  let s := s.putB CHG_STAT_NTC_OK (ok && bad = 0)
  if wasBad != 3 && bad = 3 && s.hallKeeper then s.latchPan PANTRY_FAULT_NTC_FAULT else s

/-- NTC_CONVERSION (R374, R375): BAT_NTC in µV; TMAX in FAST terminates the charge. -/
def execNtcConversion (uv : Nat) (s : State) : Out :=
  act s s.panPresent fun s =>
    let s := s.ntcConvert uv
    if s.panLive && s.pst = pFast && s.bit CHG_STAT_NTC_OK && 10 * (s.fld CHG_LIMITS_TMAX : Int) ≤ s.packT then
      s.terminate 3
    else s

/-! ### Pause and grant -/

/-- The pause cause that holds for a charging state (R371, R376; log 37), 0 for none; `was` the cause of the running
pause, whose end has its hysteresis. -/
def State.pauseCause (s : State) (st was : Nat) : Nat :=
  let h : Int := if was = 3 then 30 else 0
  let cold := decide (s.packT < 10 * (s.fld CHG_LIMITS_TMIN : Int) + h)
  let hot := st != pFast && decide (10 * (s.fld CHG_LIMITS_TMAX : Int) - h < s.packT)
  if (was = 0 || was = 1) && s.pantry.ask.isNone && s.grantMa < 50 then 1
  else if s.bit CHG_STAT_BATT_ACTIVE || s.vsys < s.vbat + 2000 then 2
  else if (cold || hot) && !(st = pQualify && (s.pantry.qStep < 3 || s.pantry.qStep = 5) && was = 0) then 3
  else if s.modelState 54 = 3 || (was = 4 && s.modelHot 54) then 4
  else 0

/-- Enter PAUSE (R371, R373). -/
def State.pauseFor (s : State) (cause : Nat) : State :=
  let st := s.pst
  let s := (s.panTo pPause false).onPan fun p => { p with held := st, pauseAt := s.now }
  let s := s.put CHG_STAT_PAUSE_CAUSE cause
  if cause = 1 then s.on PANTRY_EVENT_BUDGET_PAUSE else s.giveBack

/-- Leave PAUSE (R371, R375) (log 120). -/
def State.resume (s : State) : State :=
  let p := s.pantry
  let long := p.held = pFast && old s.now p.pauseAt 600000001
  let s := if p.toFast then s.panTo pFast true else s.panTo p.held false
  if long then (s.onPan fun p => { p with peak := 0, means := [], ndvRow := 0, holdBase := p.fastUs }).off CHG_PROG_PEAK
  else s

/-- PAUSE (R371, R373, R375, R376, R381): a cause arises, changes or ends. -/
def execPause (m : PanMeas) (s : State) : Out :=
  panAct s m fun s =>
    if charging s.pst then
      let c := s.pauseCause s.pst 0
      if c = 0 then s else s.pauseFor c
    else if s.pst = pPause then
      let was := s.fld CHG_STAT_PAUSE_CAUSE
      let c := s.pauseCause s.pantry.held was
      if c = 0 then s.resume
      else if c = was then s
      else
        let s := s.put CHG_STAT_PAUSE_CAUSE c
        if c = 1 then s.on PANTRY_EVENT_BUDGET_PAUSE else s.giveBack
    else s

/-- BUDGET_PAUSE_RETRY (R373): every 10 s. -/
def execBudgetPauseRetry (s : State) : Out :=
  act s (s.panLive && s.pst = pPause && s.fld CHG_STAT_PAUSE_CAUSE = 1 && old s.now s.pantry.askAt 10000000) fun s =>
    s.askRoot s.pantry.held

/-- The root answers the charger's ask (R353, R373). -/
def State.answerChg (s : State) : State :=
  match s.pantry.ask with
  | some w => ((s.answerCharger w).onPan fun p => { p with ask := none }).refreshChg
  | none => s

/-! ### Charger Thresholds and periods -/

/-- P_OV_TRIP (R369, R378). -/
def execPOvTrip (s : State) : Out :=
  act s s.panLive fun s =>
    (s.onPan fun p => { p with povAt := match p.povAt with | some t => some t | none => some s.now }).refreshChg

/-- CHG_OV (R378): 10 ms after the P_OV latch, the pack still present. -/
def execChgOv (s : State) : Out :=
  act s (s.panLive && s.bit CHG_STAT_PRES && due s.now s.pantry.povAt 10000 && s.pst != pFault) fun s =>
    s.latchPan PANTRY_FAULT_CHG_OV

/-- P_PK_TRIP (R369): low for positive battery current, mid-rail for negative, for the rest of the period. -/
def execPPkTrip (neg : Bool) (s : State) : Out :=
  act s (s.panLive && s.pantry.pwm != 2) fun s =>
    s.onPan fun p => { p with pk := some neg, pwm := if neg then 2 else 0 }

/-- CHARGER_PERIOD_START (R369, R370, R373): P_PK clears, and charge current and duty take effect. The spec gives the
current loop no gains, so the duty is a free value (log 109). -/
def execChargerPeriodStart (m : PanMeas) (s : State) : Out :=
  panAct s m fun s =>
    let fsw := max s.panPlan.fsw 1
    let step := (480000 + fsw / 2) / fsw * 1000 / 480
    let want := 1000 * s.fld CHG_STAT_CHG_I
    let d := s.free?.1.toNat % 65537
    let s := (s.free?.2).onPan fun p =>
      { p with pk := none, ramp := if p.ramp < want then min want (p.ramp + step) else max want (p.ramp - step)
               duty := d, pwm := if want = 0 then 2 else 1 }
    s.refreshChg

/-! ### PAN_CTRL -/

/-- START (R371, R381): from TRICKLE alone. -/
def execStart (s : State) : Out :=
  act s (s.panLive && s.pst = pTrickle) fun s => s.panTo pFast true

/-- A write of 1 to PAN_CTRL.RESTART (R371, R369): from FAULT with no fault condition present; the P_OV latch clears. -/
def State.panRestart (s : State) : State :=
  let s := s.onPan fun p => { p with povAt := none }
  if s.pst = pFault && !s.ntcFault && s.vbat ≤ 80 * s.fld PAN_THR_OV_EFF then s.panTo pWaitPres true else s.refreshChg

/-- RESTART (R371). -/
def execRestart (m : PanMeas) (s : State) : Out := panAct s m State.panRestart

/-- PAN_EN_WRITE (R371, R364). -/
def execPanEnWrite (en : Bool) (s : State) : Out :=
  act s s.panPresent fun s =>
    let en := s.clampBit (.hall 0x50000) PAN_CTRL_EN en
    let s := s.putB PAN_CTRL_EN en
    if !s.panLive then s
    else if en then (if s.pst = pOff then s.panTo pWaitPres true else s)
    else
      let s := s.qidOff
      if s.pst = pOff then s else s.panTo pOff true

/-! ### Status lamps (R379) -/

/-- The automatic pattern of the charger. -/
def State.chargerLamp (s : State) : Nat :=
  if s.pst = pFault || s.bit PANTRY_FAULT_BAT_REMOVED then 0x5555
  else if s.bit CHG_STAT_BATT_ACTIVE then 0x0F0F
  else if s.pst = pOff || s.pst = pWaitPres || s.pl.pantry.isNone then 0
  else if s.pst = pQualify || s.pst = pPrecharge then 1
  else if s.pst = pFast then 0x00FF
  else if s.pst = pPause then 0x0033
  else 0xFFFF

/-- A port or slot is in a fault-induced safe or LATCHED state. -/
def State.anySafe (s : State) : Bool :=
  (List.finRange 48).any (fun p => s.pl.whole p.val && (s.room p).safe) ||
  (List.finRange 6).any fun b => (s.pl.slot b.val).present && (s.land b).st = hLatched

/-- The automatic pattern of the chip. -/
def State.chipLamp (s : State) : Nat :=
  if !s.bit PWR_STAT_BOOT_DONE then 0x5555
  else if s.fld HALL_MODE_MODE = mFire then 0x3333
  else if s.anySafe then 0x0F0F
  else if s.fld HALL_MODE_MODE = mService then 0x00FF
  else if s.pairMode && s.pair.claims = 0 then 1
  else 0xFFFF

/-- The pattern of a lamp by its MODE and SRC. -/
def State.lampPattern (s : State) (mode src pattern : Nat) : Nat :=
  match mode with
  | 0 => 0
  | 1 => 0xFFFF
  | 2 => pattern
  | _ => if src = 0 then s.chargerLamp else s.chipLamp

/-- LAMP_SLOT (R379): every 125 ms. -/
def execLampSlot (s : State) : Out :=
  act s s.clocked fun s =>
    let i := s.lamps.slot
    let a := s.lampPattern (s.fld LAMP_A_MODE) (s.fld LAMP_A_SRC) (s.fld LAMP_A_PATTERN)
    let b := s.lampPattern (s.fld LAMP_B_MODE) (s.fld LAMP_B_SRC) (s.fld LAMP_B_PATTERN)
    { s with lamps := { slot := (i + 1) % 16, a := a.testBit i, b := b.testBit i } }

end Sys2Proof.Machine
end

