-- ==== Sys2Proof/Machine/Arbiter.lean ====
section
/-! DEFINITION. Machine/Arbiter.lean: the order in which the budget arbiters answer the asks that wait (R29, R30, R47, R352),
and the commands that are their answers (R141, R225, R373). -/

namespace Sys2Proof.Machine

/-- An ask that waits for its answer: its stamp, the class of its port, and the port number, 48 for the Pantry charger. -/
structure Ask where
  at' : Nat
  cls : Nat
  num : Nat
deriving DecidableEq, Repr

/-- The order of answers: the earlier ask holds its power against a later one (R30); asks of the same time go by class and
then by port number (R29, R47, R352) (log 128). -/
def Ask.before (a b : Ask) : Bool :=
  a.at' < b.at' || (a.at' = b.at' && (a.cls < b.cls || (a.cls = b.cls && a.num < b.num)))

/-- A port's ask that waits: one under R225, or one of the front end (R141). A shadow's asks are the keeper's (R263). -/
def State.portAsk (s : State) (p : Fin 48) : Option Ask :=
  let r := s.room p
  if !s.live p then none
  else if r.fld GRANT_ASK_STATE = 1 then some ⟨r.con.askAt, s.cls p, p.val⟩
  else if s.free p && r.cc.asking then some ⟨r.cc.askAt, s.cls p, p.val⟩
  else none

/-- The charger's ask that waits (R353, R373); it counts as a COMFORT child of the root. -/
def State.chargerAsk (s : State) : Option Ask :=
  if s.panLive && s.pantry.ask.isSome then some ⟨s.pantry.askAt, 2, 48⟩ else none

/-- Every ask that waits. All nodes share the root, so one order serves them all. -/
def State.asks (s : State) : List Ask := (List.finRange 48).filterMap s.portAsk ++ s.chargerAsk.toList

/-- Put an ask into its place. -/
def Ask.insert (a : Ask) : List Ask → List Ask
  | [] => [a]
  | b :: l => if a.before b then a :: b :: l else b :: a.insert l

/-- Asks in the order of their answers. -/
def Ask.sort (l : List Ask) : List Ask := l.foldr Ask.insert []

/-- Answer one ask. -/
def State.serve (s : State) (a : Ask) : State :=
  if h : a.num < 48 then
    (let p : Fin 48 := ⟨a.num, h⟩
     if (s.room p).fld GRANT_ASK_STATE = 1 then s.answerAsk p else s.answerAttach p)
  else s.answerChg

/-- Answer every ask that comes before `a`, in their order, and then `a`. -/
def State.serveTo (s : State) (a : Ask) : State :=
  ((Ask.sort (s.asks.filter (·.before a))).foldl State.serve s).serve a

/-- Answer an ask where one waits. -/
def actAsk (s : State) (a : Option Ask) : Out :=
  match a with
  | some a => act s true fun s => s.serveTo a
  | none => .next s

/-- GRANT_ANSWER (R225, R226, R256): the Landing answers a port's ask, after those that come before it. -/
def execGrantAnswer (p : Fin 48) (s : State) : Out :=
  actAsk s (if (s.room p).fld GRANT_ASK_STATE = 1 then s.portAsk p else none)

/-- ATTACH_GRANT (R141): the Landing answers the 15 W attach ask, after the asks that come before it. -/
def execAttachGrant (p : Fin 48) (s : State) : Out :=
  actAsk s (if (s.room p).fld GRANT_ASK_STATE = 1 then none else s.portAsk p)

/-- CHARGER_GRANT (R353, R373): the root answers, after the asks that come before it. -/
def execChargerGrant (s : State) : Out := actAsk s s.chargerAsk

end Sys2Proof.Machine
end

