-- ==== Sys2Proof/Machine/Phy.lean ====
section
/-! DEFINITION. Machine/Phy.lean: the line code of the BMC PHY (05_pd_protocol.md R170 to R173): preamble, ordered sets,
4b5b symbols, CRC-32 and the levels of the BMC line. The code tables are those of USB Power Delivery (log 12). -/

namespace Sys2Proof.Machine

/-- A 5b symbol of the line. -/
abbrev Sym := Fin 32

/-! ### Symbols and ordered sets (log 12) -/

/-- The 5b data symbol of each nibble. -/
def sym4b5b : List Sym :=
  [0x1E, 0x09, 0x14, 0x15, 0x0A, 0x0B, 0x0E, 0x0F, 0x12, 0x13, 0x16, 0x17, 0x1A, 0x1B, 0x1C, 0x1D]

abbrev kSync1 : Sym := 0x18
abbrev kSync2 : Sym := 0x11
abbrev kSync3 : Sym := 0x06
abbrev kRst1 : Sym := 0x07
abbrev kRst2 : Sym := 0x19
abbrev kEop : Sym := 0x0D

/-- What an ordered set announces: a packet of a SOP type, a Hard Reset or a Cable Reset (R171). -/
inductive SetKind where
  | sop (t : Fin 3)
  | hard | cable
deriving DecidableEq, Repr

/-- The K-codes of an ordered set. -/
def SetKind.codes : SetKind → List Sym
  | .sop 0 => [kSync1, kSync1, kSync1, kSync2]
  | .sop 1 => [kSync1, kSync1, kSync3, kSync3]
  | .sop 2 => [kSync1, kSync3, kSync1, kSync3]
  | .hard => [kRst1, kRst1, kRst1, kRst2]
  | .cable => [kRst1, kSync1, kRst1, kSync3]

def SetKind.all : List SetKind := [.sop 0, .sop 1, .sop 2, .hard, .cable]

/-- How many K-codes of a received ordered set are correct and in place. -/
def SetKind.score (k : SetKind) (os : List Sym) : Nat := ((k.codes.zip os).filter fun x => x.1 = x.2).length

/-- The ordered set that the receiver recognises (R171): all K-codes correct, else at least 3 of the 4. Four codes with
one wrong can be near more than one set; which is recognised then is open (log 129). -/
def recognise (os : List Sym) : Option SetKind :=
  match SetKind.all.find? fun k => k.codes = os with
  | some k => some k
  | none =>
    match SetKind.all.filter fun k => 3 ≤ k.score os with
    | [] => none
    | [k] => some k
    | k :: l => some ((k :: l).getD (Config.nearSet (os.map Fin.val) % (l.length + 1)) k)

/-! ### CRC-32 (log 12) -/

/-- One bit of the reflected CRC-32 division. -/
def crc32Bit (c : BitVec 32) : BitVec 32 := if c.getLsbD 0 then (c >>> 1) ^^^ 0xEDB88320#32 else c >>> 1

def crc32Byte (c : BitVec 32) (b : Byte) : BitVec 32 :=
  (List.range 8).foldl (fun x _ => crc32Bit x) (c ^^^ b.setWidth 32)

/-- The CRC-32 over the header and the data objects of a packet. -/
def crc32 (bs : List Byte) : BitVec 32 := ~~~ bs.foldl crc32Byte 0xFFFFFFFF#32

/-! ### Sending (R170) -/

/-- Header and data objects as bytes, least significant first. -/
def Pkt.bytes (k : Pkt) : List Byte :=
  [BitVec.ofNat 8 (k.hdr % 256), BitVec.ofNat 8 (k.hdr / 256 % 256)] ++ k.objs.flatMap bytesOf

/-- A byte as two symbols, low nibble first. -/
def byteSyms (b : Byte) : List Sym := [sym4b5b.getD (b.toNat % 16) 0, sym4b5b.getD (b.toNat / 16) 0]

/-- The symbols after the ordered set: header, objects, CRC-32 and EOP. -/
def Pkt.syms (k : Pkt) : List Sym :=
  (k.bytes ++ bytesOf (crc32 k.bytes)).flatMap byteSyms ++ [kEop]

/-- A symbol as bits, least significant first. -/
def symBits (x : Sym) : List Bool := (List.range 5).map fun i => x.val.testBit i

/-- The 64-bit preamble: alternating bits from 0 on. -/
def preamble : List Bool := (List.range 64).map fun i => i % 2 = 1

/-- The line levels of BMC coding, two for each bit: a change at the start of every bit, and one in the middle of a 1. -/
def bmcLevels (level : Bool) : List Bool → List Bool
  | [] => []
  | b :: l => let a := !level
              let m := if b then !a else a
              a :: m :: bmcLevels m l

/-- The line levels of preamble, ordered set and symbols; the line is low before them. -/
def lineOf (k : SetKind) (xs : List Sym) : List Bool :=
  bmcLevels false (preamble ++ (k.codes ++ xs).flatMap symBits)

/-- The ordered set of a SOP type. -/
def setOf (sop : Nat) : SetKind := .sop (if sop = 0 then 0 else if sop = 1 then 1 else 2)

/-- The line levels of a packet. -/
def Pkt.line (k : Pkt) : List Bool := lineOf (setOf k.sop) k.syms

/-! ### Receiving (R171 to R173) -/

/-- What the receiver makes of a packet whose ordered set it knows. -/
inductive Checked where
  | good (k : Pkt)
  | crcErr
  | trunc
deriving DecidableEq, Repr

/-- Symbols as bytes; none for an invalid symbol or an odd number of them. -/
def bytesOfSyms : List Sym → Option (List Byte)
  | [] => some []
  | [_] => none
  | a :: b :: l =>
    match sym4b5b.idxOf? a, sym4b5b.idxOf? b, bytesOfSyms l with
    | some x, some y, some m => some (BitVec.ofNat 8 (x + 16 * y) :: m)
    | _, _, _ => none

/-- Check the symbols after the ordered set of a packet of a SOP type (R172, R173): valid symbols up to EOP, at most 34
bytes, CRC-32, then the number of bytes. Symbols without room for a header and a CRC are no CRC failure. -/
def checkPacket (sop : Nat) (xs : List Sym) : Checked :=
  if !xs.contains kEop then .trunc
  else
    match bytesOfSyms (xs.takeWhile (· != kEop)) with
    | none => .trunc
    | some bs =>
      if bs.length < 6 || 34 < bs.length then .trunc
      else
        let body := bs.take (bs.length - 4)
        if bs.drop (bs.length - 4) != bytesOf (crc32 body) then .crcErr
        else
          let hdr := (body.getD 0 0).toNat + 256 * (body.getD 1 0).toNat
          if body.length != 2 + 4 * (hdr / 4096 % 8) then .trunc
          else .good ⟨sop, hdr, wordsOf (body.drop 2)⟩

end Sys2Proof.Machine
end

