-- ==== Sys2Proof/Machine/Pd.lean ====
section
/-! DEFINITION. Machine/Pd.lean: the Power Delivery protocol engine and its commands (05_pd_protocol.md). The bit places
of message headers, extended headers and VDM headers are those of USB Power Delivery (log 12). -/

namespace Sys2Proof.Machine

/-! ### Packets (log 12) -/

def Pkt.ty (k : Pkt) : Nat := k.hdr % 32
def Pkt.rev (k : Pkt) : Nat := if k.hdr / 64 % 4 = 2 then 2 else 1
def Pkt.id (k : Pkt) : Nat := k.hdr / 512 % 8
def Pkt.num (k : Pkt) : Nat := k.hdr / 4096 % 8
def Pkt.isExt (k : Pkt) : Bool := k.hdr.testBit 15
def Pkt.isC (k : Pkt) (t : Nat) : Bool := !k.isExt && k.num = 0 && k.ty = t
def Pkt.isD (k : Pkt) (t : Nat) : Bool := !k.isExt && k.num != 0 && k.ty = t
def Pkt.isE (k : Pkt) (t : Nat) : Bool := k.isExt && k.ty = t
def Pkt.obj (k : Pkt) (i : Nat) : Nat := (k.objs.getD i 0).toNat
/-- The extended header: Data Size in bits 8:0, Request Chunk bit 10, Chunk Number bits 14:11, Chunked bit 15. -/
def Pkt.eh (k : Pkt) : Nat := k.obj 0 % 65536
def Pkt.size (k : Pkt) : Nat := k.eh % 512
def Pkt.chunkNo (k : Pkt) : Nat := k.eh / 2048 % 16
/-- An extended message that R197 takes: Chunked = 1 and Data Size at most 260. -/
def Pkt.chunked (k : Pkt) : Bool := k.isExt && k.eh.testBit 15 && k.size ≤ 260
def Pkt.isChunkReq (k : Pkt) : Bool := k.chunked && k.eh.testBit 10
/-- The data bytes after the extended header. -/
def Pkt.data (k : Pkt) : List Byte := (k.objs.flatMap bytesOf).drop 2

/-- Soft_Reset on SOP. -/
def Pkt.softReset (k : Pkt) : Bool := k.sop = 0 && k.isC 0x0D

/-- A message template with a type code and objects; `ext` data for an extended message. -/
def TxMsg.mk' (kind : TxKind) (sop ty : Nat) (objs : List Word) : TxMsg :=
  { kind := kind, pkt := ⟨sop, ty + 4096 * objs.length, objs⟩, ext := [], initiate := false, chunk := 0, re := 0, eh := 0
    wait := none }

/-- An engine reply with a control message. -/
def ctlOn (sop ty : Nat) : TxMsg := .mk' .reply sop ty []

/-- An engine reply with a control message on SOP. -/
def ctl (ty : Nat) : TxMsg := ctlOn 0 ty

/-- An Extended_Control message of a type on SOP. -/
def extCtl (kind : TxKind) (t : Nat) : TxMsg :=
  { TxMsg.mk' kind 0 0x10 [] with pkt := ⟨0, 0x8010, []⟩, ext := [BitVec.ofNat 8 t, 0], eh := 2 }

/-- Not_Supported, or Reject at Revision 2.0, on a SOP type (R182, R197). -/
def Room.notSupOn (r : Room) (sop : Nat) : TxMsg := ctlOn sop (if r.fld PD_STAT_REV_SOP = 1 then 4 else 0x10)

/-- Not_Supported, or Reject at Revision 2.0 (R182). -/
def Room.notSup (r : Room) : TxMsg := r.notSupOn 0

/-- Queue an automatic message (R201). -/
def Room.say (m : TxMsg) (r : Room) : Room := r.onPd fun d => { d with auto := d.auto ++ [m] }

/-- One list entry replaced. -/
def setAt {α : Type} (l : List α) (i : Nat) (x : α) : List α := l.set i x

/-! ### Revision (R181, R182) -/

def revField (sop : Nat) : Field :=
  if sop = 0 then PD_STAT_REV_SOP else if sop = 1 then PD_STAT_REV_SOPP else PD_STAT_REV_SOPPP

/-- The highest revision that the latched MAX_REV allows: 2 for 3.x, 1 for 2.0. -/
def Room.offered (r : Room) : Nat := if r.pd.maxRev = 2 then 1 else 2

/-- The first received message of a SOP type sets its revision (R181). -/
def Room.setRev (k : Pkt) (r : Room) : Room :=
  if r.fld (revField k.sop) != 0 then r
  else
    let r := r.put (revField k.sop) (min r.offered k.rev)
    if k.sop = 0 then r.on PD_EVENT_REV_SET else r

/-- Control and data messages that Revision 2.0 defines (log 12). -/
def rev2Message (k : Pkt) : Bool :=
  !k.isExt && (if k.num = 0 then 1 ≤ k.ty && k.ty ≤ 0x0D else [1, 2, 3, 4, 0x0F].contains k.ty)

/-- Messages that Revision 3.1 or 3.2 introduced (R182). -/
def newMessage (k : Pkt) : Bool :=
  (k.isExt && [0x10, 0x11, 0x12].contains k.ty) ||
  (!k.isExt && k.num = 0 && [0x17, 0x18].contains k.ty) ||
  (!k.isExt && k.num != 0 && [0x09, 0x0A, 0x0B, 0x0C].contains k.ty)

/-- The engine recognises a received message at the present revision (R182). -/
def Room.known (r : Room) (k : Pkt) : Bool :=
  !(r.fld PD_STAT_REV_SOP = 1 && !rev2Message k) && !(r.pd.maxRev = 1 && newMessage k)

/-! ### The table "Received messages" (R198) -/

/-- What becomes of a received message once its GoodCRC is sent. -/
inductive Disp where
  /-- Handled by the engine without a reply. -/
  | drop
  /-- Into the receive queue. -/
  | queue
  /-- Into the VDM inbox. -/
  | inbox
  /-- An engine reply. -/
  | say (m : TxMsg)
  /-- The reply of the column "Core not alive". -/
  | instead (m : TxMsg)
  | soft | hard | bist
deriving DecidableEq, Repr

/-- A copy of capabilities as a reply, or Not_Supported (R200). -/
def Room.copyReply (r : Room) (c : Option TxMsg) : TxMsg :=
  match c with
  | some m => { m with kind := .reply, initiate := false, chunk := 0, re := 0, wait := none }
  | none => r.notSup

/-- Queue while the core is alive, else the given reply (R198). -/
def Room.orInstead (r : Room) (m : TxMsg) : Disp := if r.bit STATUS_CORE_ALIVE then .queue else .instead m

/-- A reply that the engine gives whether or not the core is alive; AUTO_REPLY shows it where the core is not (R198). -/
def Room.sayOr (r : Room) (m : TxMsg) : Disp := if r.bit STATUS_CORE_ALIVE then .say m else .instead m

/-- The port signalled a Fast Role Swap no more than 20 ms ago and waits for FR_Swap (R255). -/
def Room.frsWindow (e : Env) (r : Room) : Bool :=
  match r.con.frsTx with
  | some t => r.fld CON_STAT_SWAP = 3 && e.now ≤ t + 20000
  | none => false

def Room.dispC (e : Env) (r : Room) (k : Pkt) : Disp :=
  match k.ty with
  | 0x01 => .drop
  | 0x05 => .drop
  | 0x03 => .queue
  | 0x04 => .queue
  | 0x06 => .queue
  | 0x0C => .queue
  | 0x10 => .queue
  | 0x07 => r.orInstead (r.copyReply r.pd.srcCaps)
  | 0x08 => r.orInstead (r.copyReply r.pd.snkCaps)
  | 0x09 => .say (if e.port.drSwap && r.explicit then { ctl 3 with re := 4 } else ctl 4)
  | 0x0A => r.orInstead (ctl 0x0C)
  | 0x0B => r.orInstead (ctl 0x0C)
  | 0x0D => .soft
  | 0x11 => .queue
  | 0x12 => .queue
  | 0x14 => .queue
  | 0x16 => .queue
  | 0x17 => .queue
  | 0x13 => if r.frsWindow e then r.sayOr { ctl 3 with re := 5 } else .hard
  | 0x18 => .say (.mk' .reply 0 0x0C [0x32110000#32])
  | _ => .say r.notSup

/-- The Structured VDM reply to a request (R206): header with the command type and SVDM version replaced. -/
def vdmHdr (h ct : Nat) : Nat :=
  let ver := min (bits h 14 11) 5
  setBits (setBits h 14 11 ver) 7 6 ct

/-- The ID Header VDO of the table "Discover Identity reply" (log 12). -/
def idHeader (vid : Nat) : Nat := 3 * 2 ^ 23 + 2 * 2 ^ 21 + vid

def Room.vdmSay (r : Room) (h ct : Nat) (vdos : List Nat) : Disp :=
  let _ := r
  .say (.mk' .reply 0 0x0F (BitVec.ofNat 32 (vdmHdr h ct) :: vdos.map (BitVec.ofNat 32)))

/-- Vendor defined messages on SOP (R206, R207). -/
def Room.dispVdm (r : Room) (k : Pkt) : Disp :=
  let h := k.obj 0
  if h.testBit 15 then
    if bits h 7 6 = 0 then
      if bits h 31 16 = 0xFF00 then
        match bits h 4 0 with
        | 1 =>
          if r.fld PD_STAT_REV_SOP = 1 then r.vdmSay h 2 []
          else r.vdmSay h 1 [idHeader (r.fld DISC_ID_VID), 0,
            r.fld DISC_ID_PID * 65536 + HALL_REV_REV.reset % 65536]
        | 2 => r.vdmSay h 1 [0]
        | 6 => .drop
        | _ => r.vdmSay h 2 []
      else r.vdmSay h 2 []
    else if r.pd.vdmReq.contains (bits h 31 16, bits h 4 0) then .queue else .drop
  else if bits h 31 16 = 0x3A9D then .inbox
  else if r.fld PD_STAT_REV_SOP = 1 then .drop else .say (ctl 0x10)

/-- STATUS.STATE is TRANSITION (R232). -/
def Room.transitioning (r : Room) : Bool := r.attached && r.inTrans

/-- Where a received data message goes (log 25). -/
def Room.dispD (r : Room) (k : Pkt) : Disp :=
  match k.ty with
  | 0x01 => .queue
  | 0x04 => .queue
  | 0x05 => .queue
  | 0x06 => .queue
  | 0x0A => .queue
  | 0x0B => .queue
  | 0x0C => .queue
  | 0x02 => if r.transitioning then r.sayOr (ctl 0x0C) else r.orInstead (ctl 0x0C)
  | 0x09 => if r.transitioning then r.sayOr (ctl 0x0C) else r.orInstead (ctl 0x0C)
  | 0x03 => .bist
  | 0x0F => r.dispVdm k
  | _ => .say r.notSup

def Room.dispE (r : Room) (k : Pkt) : Disp :=
  if k.ty = 0x10 then
    match (k.data.getD 0 0).toNat with
    | 1 => r.orInstead (r.copyReply r.pd.eprCaps)
    | 2 => .queue
    | 3 => .say (extCtl .reply 4)
    | 4 => .drop
    | _ => .say r.notSup
  else if [1, 2, 3, 4, 5, 6, 7, 0x0C, 0x0F, 0x11, 0x12].contains k.ty then .queue
  else .say r.notSup

/-- What becomes of a received message that is no duplicate, no chunk in progress and no cable reply (log 22). -/
def Room.disp (e : Env) (r : Room) (k : Pkt) : Disp :=
  if r.bit PD_STAT_BIST then .drop
  else if k.isExt && !k.chunked then .say (r.notSupOn k.sop)
  else if k.sop != 0 then .queue
  else if !r.known k then .say r.notSup
  else if k.isExt then r.dispE k
  else if k.num = 0 then r.dispC e k
  else r.dispD k

/-! ### The receive queue and the inbox (R193, R207) -/

/-- Write words into a register bank from an offset on. -/
def putWords (m : Regs) (a : Nat) (ws : List Word) : Regs :=
  match ws with
  | [] => m
  | w :: l => putWords (m.set a w) (a + 4) l

/-- Show the head of the receive queue and of the inbox. -/
def Room.showRx (r : Room) : Room :=
  let r := r.clearRx
  let r := match r.pd.rxq with
    | [] => r
    | k :: _ =>
      let r := (((r.put RXW0_HDR k.hdr).put RXW0_SOP k.sop).putB RXW0_EXT k.isExt).on RXW0_VALID
      let objs := if k.isExt then [] else k.objs
      { r with regs := putWords r.regs 0x124 objs }
  let r := match r.pd.inbox with
    | [] => r
    | k :: _ =>
      let r := (r.put VIN0_HDR k.hdr).on VIN0_VALID
      { r with regs := putWords r.regs 0xC4 k.objs }
  (r.put PD_STAT_RXQ_COUNT r.pd.rxq.length).put PD_STAT_VDMIN_COUNT r.pd.inbox.length

/-- Write bytes into a memory from an address on. -/
def putBytes (m : Mem) (a : Nat) (bs : List Byte) : Mem :=
  match bs with
  | [] => m
  | b :: l => putBytes (m.set a b) (a + 1) l

/-- Enter a message into the receive queue; an extended one whole into data RAM first (R193). -/
def Room.enqueue (k : Pkt) (data : List Byte) (r : Room) : Room :=
  let bytes := BitVec.ofNat 8 (data.length % 256) :: BitVec.ofNat 8 (128 + data.length / 256) :: data
  let r := if k.isExt then
      { r with data := putBytes r.data (4 * r.fld PD_CFG_EXT_RX_PTR) bytes } else r
  (((r.onPd fun d => { d with rxq := d.rxq ++ [k] }).on PD_EVENT_RX).showRx).onPd fun d =>
    if k.sop = 0 then { d with lastMsg := some k } else d

/-- The message completes a chunked reception, or goes alone. -/
def ChunkRx.completes (c : ChunkRx) (k : Pkt) : Bool := c.size ≤ c.data.length + k.data.length

/-- The receive queue takes another message (R194). -/
def Room.queueRoom (r : Room) (k : Pkt) : Bool :=
  r.pd.rxq.length < 4 && !(k.isExt && r.pd.rxq.any Pkt.isExt)

/-- There is room for a received message (R194, R207). -/
def Room.roomFor (e : Env) (r : Room) (k : Pkt) : Bool :=
  if k.isChunkReq then true
  else
    match r.disp e k with
    | .queue => r.queueRoom k
    | .inbox => r.pd.inbox.length < 2
    | .soft => !r.bit STATUS_CORE_ALIVE || r.queueRoom k
    | _ => true

/-- Add one to a counter that saturates at 255. -/
def Room.count (f : Field) (r : Room) : Room := r.put f (min (r.fld f + 1) 255)

/-! ### Reception -/

/-- A response of a cable to a structured VDM on SOP′. -/
def Pkt.cableVdm (k : Pkt) : Bool := k.sop = 1 && k.isD 0x0F && (k.obj 0).testBit 15 && bits (k.obj 0) 7 6 != 0

/-- A response to cable discovery is awaited and this is it (R209). -/
def Room.cableReply (r : Room) (k : Pkt) : Bool := r.pd.cableWait.isSome && k.cableVdm

/-- The engine transmits: it receives nothing (R175). -/
def Room.sending (r : Room) : Bool :=
  r.pd.gcrc || r.pd.bistAt.isSome || (match r.pd.air with | some a => a.phase = .sending | none => false)

/-- A duplicate (R177). -/
def Room.dup (r : Room) (k : Pkt) : Bool := (r.pd.rxId.getD k.sop none) = some k.id && !k.softReset

/-- A message that R196 or R195 has in chunks under way: a Chunk Request, or a reply past its first chunk. -/
def TxMsg.inChunks (m : TxMsg) : Bool := m.kind = .chunkReq || (m.kind = .reply && m.chunk != 0)

/-- More chunks follow the present one (R195). -/
def TxMsg.more (m : TxMsg) : Bool := 26 * (m.chunk + 1) < m.ext.length

/-- Abandon the chunk state of the engine's own messages and of reception (R213). The committed message is the caller's. -/
def Room.noChunks (r : Room) : Room :=
  r.onPd fun d => { d with chunkRx := none, auto := d.auto.filter fun m => !m.inChunks
                           air := d.air.filter fun a => a.msg.kind = .core || !(a.msg.inChunks || a.msg.more) }

/-- Abandon a partial message with CHUNK_ERR; its Chunk Request that has not started goes with it (R196). -/
def Room.dropPartial (r : Room) : Room :=
  (r.onPd fun d => { d with chunkRx := none, auto := d.auto.filter (·.kind != .chunkReq) }).on PD_EVENT_CHUNK_ERR

/-- The chunk that a partial message waits for (R196). -/
def ChunkRx.expects (c : ChunkRx) (k : Pkt) : Bool :=
  k.chunked && !k.isChunkReq && k.sop = c.sop && k.ty = c.hdr % 32 && k.chunkNo = c.next

/-- A packet from the partner has ended on the line (R174, R185, R205). -/
def Room.heard (e : Env) (sop : Nat) (r : Room) : Room :=
  r.onPd fun d => { d with lastPkt := e.now, lastSop := if sop = 0 then e.now else d.lastSop
                           lastRx := if sop = 0 then e.now else d.lastRx }

/-- A packet that the receiver discards, counted (R172, R173). -/
def Room.discard (e : Env) (f : Field) (r : Room) : Room :=
  (r.count f).onPd fun d => { d with lastPkt := e.now }

/-- A received message (R172, R176, R194, R207): acknowledged later, or discarded. -/
def Room.receive (e : Env) (k : Pkt) (r : Room) : Room :=
    let fits := match r.pd.chunkRx with
      | none => r.roomFor e k
      | some c => if c.expects k then !c.completes k || r.pd.rxq.length < 4 else r.roomFor e k
    if (k.sop != 0 && !r.bit CC_STAT_VCONN_ON) || r.bit PD_STAT_HR_ACTIVE || r.pd.rx.isSome then r
    else if r.dup k || r.cableReply k || fits then
      r.onPd fun d => { d with rx := some k }
    else ((r.count PD_ERRCNT_RX_BUSY).on PD_EVENT_RX_BUSY)

/-- A committed message that has not started becomes HELD (R187). -/
def Room.holdTx (r : Room) : Room :=
  let s := r.fld TX_STAT_STATE
  if s = 1 || s = 2 || s = 3 then (r.put TX_STAT_STATE 4).on PD_EVENT_TX_HELD else r

/-- A committed message ends without its GoodCRC; an Accept of a request gives its reservation back (R225). -/
def Room.txLost (code : Nat) (r : Room) : Room :=
  let re := (r.pd.msg.map TxMsg.re).getD 0
  let r := (r.txEnd code).onPd fun d => { d with air := d.air.filter fun a => a.msg.kind != .core }
  if re = 1 then r.endResv else r

/-- A Soft_Reset clears the SOP transmit counter and abandons the chunk state; `id` becomes the stored receive MessageID.
A committed message that is chunking ends as DISCARDED_SR (R213; log 131). -/
def Room.softClear (id : Option Nat) (r : Room) : Room :=
  let r := r.noChunks.onPd fun d => { d with txId := setAt d.txId 0 0, rxId := setAt d.rxId 0 id }
  if r.fld TX_STAT_STATE = 6 then r.txLost 11 else r

/-- A received Soft_Reset (R213). Rp returns to SinkTxOk also where a message is HELD (R187; log 132). -/
def Room.softReset (e : Env) (k : Pkt) (r : Room) : Room :=
  let r := (r.softClear (some k.id)).sinkTxOk e
  let r := if r.fld TX_STAT_STATE = 5 then r.txLost 11 else r
  let r := (r.say { ctl 3 with re := 6 }).on PD_EVENT_SR_RX
  if r.bit STATUS_CORE_ALIVE then r.enqueue k [] else r.on PD_EVENT_AUTO_REPLY

/-- The port is at 5 V, with no explicit contract or with a 5 V contract (R202). -/
def Room.atFive (r : Room) : Bool :=
  r.fld CON_VI_MV = 5000 && !r.inTrans && (r.ast != aSrc || (r.fld VSET_MV = 5000 && r.fld VSET_REF = 5000))

/-- A received BIST message (R202). -/
def Room.bistRx (e : Env) (k : Pkt) (r : Room) : Room :=
  if r.bit PD_CFG_BIST_EN && r.atFive then
    (match bits (k.obj 0) 31 28 with
     | 5 => r.onPd fun d => { d with bistAt := some e.now }
     | 8 => r.on PD_STAT_BIST
     | _ => r)
  else r

/-- EPR_Mode in either direction (R203). -/
def Room.eprMode (e : Env) (k : Pkt) (r : Room) : Room :=
  if k.isD 0x0A then
    (match bits (k.obj 0) 31 24 with
     | 3 => (r.on PD_STAT_EPR_ACTIVE).refreshVlim e
     | 5 => (r.off PD_STAT_EPR_ACTIVE).refreshVlim e
     | _ => r)
  else r

/-- The Accept, Reject, Wait or Not_Supported that answers this port's request (R180, R232, R250, R256). `av` is the
power available to the port. -/
def Room.answered (e : Env) (av : Nat) (k : Pkt) (r : Room) : Room :=
  if k.isC 3 && r.pd.srWait.isSome then r.onPd fun d => { d with srWait := none }
  else
    match r.pd.asked with
    | none => r
    | some q =>
      let r := r.onPd fun d => { d with asked := none }
      if k.isC 3 then
        if q.isD 2 || q.isD 9 then r.accepted e 1
        else if q.isC 0x0A then (if r.gateCode e av 2 = 7 then r.hardResetCause e else r.accepted e 2)
        else if q.isC 0x0B then r.accepted e 3
        else if q.isC 0x13 then (r.toStep e 5).onCon fun c => { c with swapWait := some e.now }
        else r
      else if q.isC 0x13 && (k.isC 4 || k.isC 0x10) then r.hardResetCause e
      else r

/-- What a message for the core does to the contract engine, besides its entry into the queue. -/
def Room.coreEffects (e : Env) (av : Nat) (k : Pkt) (r : Room) : Room :=
  if k.sop != 0 then r
  else if k.isC 3 || k.isC 4 || k.isC 0x0C || k.isC 0x10 then r.answered e av k
  else if k.isC 6 then r.psRdyReceived e
  else r.eprMode e k

/-- Deliver a message for the core. -/
def Room.toCore (e : Env) (av : Nat) (k : Pkt) (data : List Byte) (r : Room) : Room :=
  let h := k.obj 0
  let r := r.enqueue k data
  let r := if k.sop = 0 && k.isD 0x0F then
      r.onPd fun d => { d with vdmReq := d.vdmReq.erase (bits h 31 16, bits h 4 0) } else r
  r.coreEffects e av k

/-- The Chunk Request for chunk `n` of a message of a SOP type and message type (R196). -/
def chunkReqOf (sop ty n : Nat) : TxMsg :=
  { TxMsg.mk' .chunkReq sop ty [] with pkt := ⟨sop, ty + 0x8000, [BitVec.ofNat 32 (0x8000 + 0x400 + 2048 * n)]⟩ }

/-- Dispose of a message by the table "Received messages" (R198). A chunk other than chunk 0 that no partial message waits
for is handled as an extended message with the data that it carries (R196; log 133). -/
def Room.handle (e : Env) (av : Nat) (k : Pkt) (r : Room) : Room :=
  if k.isChunkReq then r
  else if k.isExt && 26 < k.size && k.chunkNo = 0 && r.disp e k = .queue then
    (r.onPd fun d => { d with chunkRx := some ⟨k.sop, k.hdr, k.size, k.data.take 26, 1, none⟩ }).say
      (chunkReqOf k.sop k.ty 1)
  else
    match r.disp e k with
    | .drop => if k.isE 0x10 then r.onPd fun d => { d with kaWait := none } else r
    | .queue => r.toCore e av k (if k.isExt then k.data.take k.size else [])
    | .inbox => (((r.onPd fun d => { d with inbox := d.inbox ++ [k] }).on PD_EVENT_VDM_IN).on EVENT_VDM_RX).showRx
    | .say m => r.say m
    | .instead m => (r.say m).on PD_EVENT_AUTO_REPLY
    | .soft => r.softReset e k
    | .hard => (if r.bit STATUS_CORE_ALIVE then r else r.on PD_EVENT_AUTO_REPLY).hardResetCause e
    | .bist => r.bistRx e k

/-- A message waits for this Chunk Request: of its SOP type and message type (R195). -/
def TxMsg.awaits (m : TxMsg) (k : Pkt) : Bool :=
  m.wait.isSome && m.pkt.sop = k.sop && m.pkt.hdr % 32 = k.ty && m.pkt.isExt

/-- The partner's Chunk Request for the chunk that waits, of the committed message or of an engine reply (R195). -/
def Room.chunkRequest (k : Pkt) (r : Room) : Room :=
  match r.pd.msg.filter (·.awaits k) with
  | some m =>
    if k.chunkNo = m.chunk then r.onPd fun d => { d with msg := some { m with wait := none } }
    else (r.txEnd 9).on PD_EVENT_CHUNK_ERR
  | none =>
    match r.pd.auto.find? (·.awaits k) with
    | none => r
    | some m =>
      if k.chunkNo = m.chunk then r.onPd fun d => { d with auto := d.auto.replace m { m with wait := none } }
      else (r.onPd fun d => { d with auto := d.auto.erase m }).on PD_EVENT_CHUNK_ERR

/-- A further chunk of a message in reception (R196). -/
def Room.nextChunk (e : Env) (av : Nat) (c : ChunkRx) (k : Pkt) (r : Room) : Room :=
  let data := c.data ++ k.data.take 26
  if c.size ≤ data.length then
    (r.onPd fun d => { d with chunkRx := none }).toCore e av { k with hdr := c.hdr } (data.take c.size)
  else
    let r := r.onPd fun d => { d with chunkRx := some { c with data := data, next := c.next + 1, since := none } }
    r.say (chunkReqOf k.sop k.ty (c.next + 1))

/-- The engine sends a Cable Reset and clears what concerns the cable plugs (R214). -/
def Room.cableReset (e : Env) (r : Room) : Room :=
  let r := (((((r.off PD_STAT_REV_SOPP).off PD_STAT_REV_SOPPP).off PD_STAT_CABLE_STATE).off CABLE_IDH_IDH).off
    CABLE_VDO_VDO1)
  (r.onPd fun d => { d with txId := setAt (setAt d.txId 1 0) 2 0, rxId := setAt (setAt d.rxId 1 none) 2 none
                            cableWait := none, auto := d.auto.filter (·.kind != .cable), crDue := false
                            line := lineOf .cable [] }).refreshCable e

/-- A Cable Reset that waited for the end of a transmission goes out (R174, R214). -/
def Room.cableDue (e : Env) (r : Room) : Room :=
  if !r.pd.crDue || r.sending then r
  else if r.bit CC_STAT_VCONN_ON && !r.bit PD_STAT_HR_ACTIVE then r.cableReset e
  else r.onPd fun d => { d with crDue := false }

/-- A response of the cable to Discover Identity (R209). A shadow follows the keeper's discovery by it (R216, R263; log 159). -/
def Room.cableAnswer (e : Env) (k : Pkt) (r : Room) : Room :=
  let r := r.onPd fun d => { d with cableWait := none }
  let done (r : Room) : Room := (if e.keeper then r.on PD_EVENT_CABLE_DONE else r).refreshCable e
  match bits (k.obj 0) 7 6 with
  | 1 => done (((r.put PD_STAT_CABLE_STATE 2).put CABLE_IDH_IDH (k.obj 1)).put CABLE_VDO_VDO1 (k.obj 4))
  | 2 => done (r.put PD_STAT_CABLE_STATE 3)
  | _ => r

/-- The end of the GoodCRC of a received message (R177, R187, R196). -/
def Room.deliver (e : Env) (av : Nat) (k : Pkt) (r : Room) : Room :=
  let r := r.onPd fun d => { d with rx := none, gcrc := false, lastPkt := e.now
                                    lastSop := if k.sop = 0 then e.now else d.lastSop }
  let r := r.cableDue e
  if r.dup k then r.count PD_ERRCNT_DUP
  else
    let r := ((r.setRev k).onPd fun d => { d with rxId := setAt d.rxId k.sop (some k.id) }).holdTx
    let r := if r.pd.chunkRx.any fun c => !c.expects k then r.dropPartial else r
    match r.pd.chunkRx with
    | some c => r.nextChunk e av c k
    | none =>
      if k.isChunkReq then r.chunkRequest k
      else if r.cableReply k then r.cableAnswer e k
      else r.handle e av k

/-! ### Transmission -/

/-- The header that goes on the line (R189). -/
def Room.wire (r : Room) (k : Pkt) (id n : Nat) : Nat :=
  let rev := if (if r.fld (revField k.sop) = 0 then r.offered else r.fld (revField k.sop)) = 2 then 2 else 1
  let pr := if k.sop = 0 then (decide (r.ast = aSrc)).toNat else 0
  let dr := if k.sop = 0 then r.fld PD_STAT_DATA_ROLE else 0
  k.hdr % 32 + 32 * dr + 64 * rev + 256 * pr + 512 * id + 4096 * n + (if k.isExt then 0x8000 else 0)

/-- A list of bytes padded with zeros to a multiple of four. -/
def pad4 (l : List Byte) : List Byte := l ++ List.replicate ((4 - l.length % 4) % 4) 0

/-- The objects that go on the line: of an extended message, the chunk's header and at most 26 bytes (R195). The engine
writes the chunk fields of the header, and the rest goes out as written (R189). -/
def TxMsg.wireObjs (m : TxMsg) : List Word :=
  if m.pkt.isExt && m.kind != .chunkReq then
    let eh := 0x8000 + 2048 * m.chunk + m.eh % 1024
    wordsOf (pad4 (BitVec.ofNat 8 (eh % 256) :: BitVec.ofNat 8 (eh / 256) :: (m.ext.drop (26 * m.chunk)).take 26))
  else m.pkt.objs

/-- Put a message on the line (R174, R178, R189). -/
def Room.begin (m : TxMsg) (r : Room) : Room :=
  let r := if m.pkt.softReset then r.softClear none else r
  let id := r.pd.txId.getD m.pkt.sop 0
  let objs := m.wireObjs
  let m := { m with pkt := { m.pkt with hdr := r.wire m.pkt id objs.length, objs := objs } }
  let r := r.onPd fun d => { d with air := some ⟨m, id, 0, .sending, 0⟩, line := m.pkt.line }
  if m.kind = .core then ((r.put TX_STAT_STATE 5).put TX_STAT_TRIES 0).put TX_STAT_MSGID id else r

/-- The GoodCRC of a received message (R176, R181): its MessageID, and the revision of its SOP type, before negotiation
the message's own. -/
def Room.goodCrcOf (r : Room) (k : Pkt) : Pkt :=
  let rev := r.fld (revField k.sop)
  let h := r.wire ⟨k.sop, 1, []⟩ k.id 0
  ⟨k.sop, setBits h 7 6 (if rev = 0 then k.hdr / 64 % 4 else rev), []⟩

/-- The line is idle: fewer than 3 transitions in the most recent 16 µs (R174). -/
def idleLine (tr : Nat) : Bool := tr < 3

/-- The slot is free but for the line: tInterFrameGap past, nothing received or in flight, no reset under way or due (R22,
R174). -/
def Room.slotFree (e : Env) (r : Room) : Bool :=
  r.attached && !r.bit PD_STAT_HR_ACTIVE && !r.pd.hrDue && r.pd.air.isNone && r.pd.rx.isNone && !r.pd.gcrc &&
  r.pd.bistAt.isNone && !r.pd.crDue && old e.now r.pd.lastPkt 25

/-- The first automatic message of those `ok` takes that may start: a chunk of a reply waits for its Chunk Request (R195,
R201). -/
def Room.autoReady (r : Room) (ok : TxMsg → Bool) : Option TxMsg := r.pd.auto.find? fun m => m.wait.isNone && ok m

/-- The committed message may start (R185, R186, R187, R191, R195). -/
def Room.coreReady (e : Env) (r : Room) : Option TxMsg :=
  match r.pd.msg with
  | none => none
  | some m =>
    let s := r.fld TX_STAT_STATE
    let ok := s = 1 || (s = 6 && m.wait.isNone)
    if ok && (!m.pkt.isC 6 || m.pkt.sop != 0 || r.settled e) then some m else none

/-- The host VDM may start (R208). -/
def Room.hostReady (e : Env) (r : Room) : Option TxMsg :=
  match r.pd.hvdm with
  | none => none
  | some m =>
    let ca := !r.caApplies || (if r.ast = aSrc then due e.now r.pd.sinkTx 17000 else r.fld CC_STAT_RP_SEEN = 3)
    if !r.txBusy && ca then some m else none

/-- An automatic message leaves the queue for the line. -/
def Room.beginAuto (m : TxMsg) (r : Room) : Room := (r.onPd fun d => { d with auto := d.auto.erase m }).begin m

/-- A host VDM of a port that became source meanwhile asks for SinkTxNG (R185, R208). -/
def Room.followVdm (e : Env) (r : Room) : Room :=
  if r.pd.hvdm.isSome && r.caApplies && r.ast = aSrc && !r.bit PD_STAT_SINKTX then r.sinkTxNg e else r

/-- Start the next transmission: an automatic message first, then the committed message, then a host VDM (R22, R201,
R208). -/
def Room.startTx (e : Env) (r : Room) : Room :=
  let r := r.followRp.followVdm e
  if !r.slotFree e then r
  else
    match r.autoReady fun _ => true with
    | some m => r.beginAuto m
    | none =>
      match r.coreReady e with
      | some m => r.begin m
      | none =>
        match r.hostReady e with
        | some m => r.begin m
        | none => r

/-- Start the first automatic message of a kind that may start (R196, R201). -/
def Room.startAuto (e : Env) (kind : TxKind) (r : Room) : Room :=
  match r.autoReady fun m => m.kind = kind with
  | some m => if r.slotFree e then r.beginAuto m else r
  | none => r

/-- nRetryCount (R179). Before the revision is negotiated, that of the offered revision (log 134). -/
def Room.nRetry (r : Room) (sop : Nat) : Nat :=
  if (if r.fld (revField sop) = 0 then r.offered else r.fld (revField sop)) = 2 then 2 else 3

/-- Enter a message as committed, in the state that collision avoidance calls for (R184 to R187). -/
def Room.queueTx (e : Env) (m : TxMsg) (r : Room) : Room :=
  if m.initiate && m.pkt.sop = 0 && r.caApplies then
    if r.ast = aSrc then
      let r := if r.bit PD_STAT_SINKTX then r else r.sinkTxNg e
      r.put TX_STAT_STATE 2
    else r.put TX_STAT_STATE (if r.fld CC_STAT_RP_SEEN = 3 then 1 else 3)
  else r.put TX_STAT_STATE 1

/-- What a committed message does once acknowledged (R200, R203, R231, R232). -/
def Room.coreSent (e : Env) (m : TxMsg) (r : Room) : Room :=
  let k := m.pkt
  if k.sop != 0 then r
  else if k.isC 3 then r.accepted e m.re
  else if k.isC 6 then r.psRdySent e
  else if k.softReset then r.onPd fun d => { d with srWait := some e.now }
  else if k.isC 0x0A || k.isC 0x0B || k.isD 2 || k.isD 9 then r.onPd fun d => { d with asked := some k }
  else if k.isD 1 then r.onPd fun d => { d with srcCaps := some m }
  else if k.isD 4 then r.onPd fun d => { d with snkCaps := some m }
  else if k.isE 0x11 then r.onPd fun d => { d with eprCaps := some m }
  else if k.isD 0x0F then
    (if (k.obj 0).testBit 15 then
      r.onPd fun d => { d with vdmReq := d.vdmReq ++ [(bits (k.obj 0) 31 16, bits (k.obj 0) 4 0)] } else r)
  else r.eprMode e k

/-- What an engine reply does once acknowledged: a DR_Swap toggles the data role (R259); FR_Swap changes the
termination (R255, step 4). -/
def Room.replySent (e : Env) (m : TxMsg) (r : Room) : Room :=
  match m.re with
  | 4 => r.put PD_STAT_DATA_ROLE (1 - r.fld PD_STAT_DATA_ROLE)
  | 5 => ((r.toSink e).toStep e 4).onCon fun c => { c with frsTx := none }
  | _ => r

/-- A matching GoodCRC (R178, R192, R195). A counter that a reset cleared meanwhile stays cleared (R213, R214; log 135).
The response wait of cable discovery counts from here (R209; log 136). -/
def Room.acked (e : Env) (a : Air) (r : Room) : Room :=
  let m := a.msg
  let r := r.onPd fun d =>
    { d with air := none, lastPkt := e.now
             txId := if d.txId.getD m.pkt.sop 0 = a.id then setAt d.txId m.pkt.sop ((a.id + 1) % 8) else d.txId }
  match m.kind with
  | .core =>
    if m.more then
      ((r.put TX_STAT_STATE 6).onPd fun d =>
        { d with msg := d.msg.map fun x => { x with chunk := x.chunk + 1, wait := some e.now } })
    else (r.txEnd 7).coreSent e m
  | .reply =>
    if m.more then r.onPd fun d => { d with auto := { m with chunk := m.chunk + 1, wait := some e.now } :: d.auto }
    else r.replySent e m
  | .chunkReq => r.onPd fun d => { d with chunkRx := d.chunkRx.map fun c => { c with since := some e.now } }
  | .cable => if r.fld PD_STAT_CABLE_STATE = 1 then r.onPd fun d => { d with cableWait := some e.now } else r
  | .keepAlive => r.onPd fun d => { d with kaWait := some e.now }
  | .hostVdm => ((r.put PD_STAT_HVDM_STATE 2).on PD_EVENT_HVDM_DONE).onPd fun d => { d with hvdm := none }
  | .softReset => r.onPd fun d => { d with srWait := some e.now }
  | .frSwap => r.onPd fun d => { d with asked := some m.pkt }

/-- The engine's Soft_Reset after a failed SOP message of an explicit contract (R180). -/
def Room.autoSoftReset (m : TxMsg) (r : Room) : Room :=
  if m.pkt.sop = 0 && r.explicit && r.bit PD_CFG_AUTO_SR then r.say (.mk' .softReset 0 0x0D []) else r

/-- A message fails under R179 (R180, R192, R196, R208, R209, R256). -/
def Room.failed (e : Env) (m : TxMsg) (r : Room) : Room :=
  let r := r.onPd fun d => { d with air := none }
  if m.pkt.softReset then
    let r := if m.kind = .core then r.txLost 8 else r
    if r.bit PD_CFG_AUTO_SR then r.hardResetCause e else r
  else
    match m.kind with
    | .core => (r.txLost 8).autoSoftReset m
    | .chunkReq => (if r.pd.chunkRx.isSome then r.dropPartial else r).autoSoftReset m
    | .hostVdm => (((r.put PD_STAT_HVDM_STATE 3).on PD_EVENT_HVDM_DONE).onPd fun d =>
        { d with hvdm := none }).autoSoftReset m
    | .frSwap => r.hardResetCause e
    | .cable => r
    | .reply => r.autoSoftReset m
    | .keepAlive => r.autoSoftReset m
    | .softReset => r

/-! ### Publication (R188, R190, R223, R227, R230) -/

/-- A message that the table "Received messages" marks sendable (R199), and that Revision 2.0 allows (R182). MAX_REV =
Revision 3.0 refuses no commit (log 130). -/
def Room.sendable (r : Room) (k : Pkt) (b0 : Nat) : Bool :=
  (if k.isExt then
    if k.ty = 0x10 then b0 = 1 || b0 = 2 else [1, 2, 3, 4, 5, 6, 7, 0x0C, 0x0F, 0x11, 0x12].contains k.ty
   else if k.num = 0 then
    [3, 4, 5, 6, 7, 8, 0x0A, 0x0B, 0x0C, 0x0D, 0x10, 0x11, 0x12, 0x14, 0x16, 0x17, 0x18].contains k.ty
   else if k.ty = 0x0F then
    (if (k.obj 0).testBit 15 then bits (k.obj 0) 7 6 = 0 else bits (k.obj 0) 31 16 = 0x3A9D)
   else [1, 2, 4, 5, 6, 9, 0x0A, 0x0B].contains k.ty) &&
  !(r.fld PD_STAT_REV_SOP = 1 && !rev2Message k)

/-- Bytes of a memory from an address on. -/
def getBytes (m : Mem) (a n : Nat) : List Byte := (List.range n).map fun i => m.get (a + i)

/-- The published TX window as a message, with its extended header (R188). -/
def Room.window (r : Room) : Pkt × Nat × List Byte :=
  let hdr := r.fld TXW0_HDR
  let objs := (List.range 7).map fun i => r.regs.get (0x104 + 4 * i)
  let a := 4 * r.fld TXW0_EXT_PTR
  let eh := (r.data.get a).toNat + 256 * (r.data.get (a + 1)).toNat
  let n := hdr / 4096 % 8
  let ext := hdr.testBit 15
  (⟨r.fld TXW0_SOP, hdr, if ext then [] else objs.take n⟩, eh, if ext then getBytes r.data (a + 2) (eh % 512) else [])

/-- REJ_CODE of a commit: the first cause of R190 that holds, 0 for none. -/
def Room.rejCode (shadow : Bool) (r : Room) : Nat :=
  let w := r.window
  let k := w.1
  let eh := w.2.1
  if r.txBusy || r.core.extCopy then 1
  else if k.sop = 3 then 2
  else if k.sop != 0 && !r.bit CC_STAT_VCONN_ON then 3
  else if !r.sendable k (w.2.2.getD 0 0).toNat then 4
  else if k.isExt && (!eh.testBit 15 || 260 < eh % 512 || eh / 2048 % 16 != 0 || eh.testBit 10) then 5
  else if k.isExt && 4096 < 4 * r.fld TXW0_EXT_PTR + 2 + eh % 512 then 6
  else if r.bit PD_STAT_HR_ACTIVE then 7
  else if !r.attached then 8
  else if shadow then 9
  else 0

/-- What a published Accept answers: the last SOP message delivered to the core (R227). -/
def Room.answers (r : Room) : Nat :=
  match r.pd.lastMsg with
  | none => 0
  | some k => if k.isD 2 || k.isD 9 then 1 else if k.isC 0x0A then 2 else if k.isC 0x0B then 3 else 0

/-- Clamp published source capabilities; CAPS_CLAMPED where anything changes (R223, R224). -/
def Room.clampCaps (e : Env) (k : Pkt) (ext : List Byte) (r : Room) : Pkt × List Byte × Room :=
  if k.sop = 0 && k.isD 1 then
    let o := k.objs.map (r.clampObj e)
    ({ k with objs := o }, ext, if o = k.objs then r else r.on CON_EVENT_CAPS_CLAMPED)
  else if k.sop = 0 && k.isE 0x11 then
    let n := ext.length / 4 * 4
    let x := ((wordsOf ext).map (r.clampObj e)).flatMap bytesOf ++ ext.drop n
    (k, x, if x = ext then r else r.on CON_EVENT_CAPS_CLAMPED)
  else (k, ext, r)

/-- The EPR_Mode check at publication (R230): the action and data that go out. -/
def Room.eprCheck (e : Env) (k : Pkt) (r : Room) : Pkt × Room :=
  if k.sop = 0 && k.isD 0x0A && bits (k.obj 0) 31 24 = 3 then
    let fail (d : Nat) : Pkt := { k with objs := [BitVec.ofNat 32 (4 * 2 ^ 24 + d * 2 ^ 16)] }
    if !e.port.epr then (fail 4, r)
    else if !r.bit CABLE_LIM_EPR_OK then (fail 1, r)
    else if !r.bit CC_STAT_VCONN_ON then (fail 1, r)
    else if r.modeNoEpr e then (fail 4, (r.on CON_EVENT_GATE).put CON_STAT_GATE 9)
    else (k, r)
  else (k, r)

/-- The published NEG registers become the staged contract (R227, R233, R248). -/
def Room.takeNeg (r : Room) : Room :=
  r.onCon fun c => { c with negType := r.fld NEG_CTRL_TYPE, negPos := r.fld NEG_CTRL_POS, negMv := r.fld NEG_VI_MV,
                            negMa := r.fld NEG_VI_MA }

/-- A published Accept, Reject or Wait (R225, R227, R229): the message that goes out and what it answers. -/
def Room.gate (e : Env) (av : Nat) (k : Pkt) (r : Room) : Pkt × Nat × Room :=
  let re := r.answers
  if k.sop = 0 && k.isC 3 then
    let g := r.gateCode e av re
    if g = 0 then
      (k, re, if re = 1 then (r.takeNeg).onCon fun c => { c with resvAt := none } else r)
    else
      ({ k with hdr := k.hdr / 32 * 32 + (if g ≤ 6 then 0x0C else 4) }, 0,
        ((r.put CON_STAT_GATE g).on CON_EVENT_GATE).endResv)
  else if k.sop = 0 && (k.isC 4 || k.isC 0x0C) && re = 1 then (k, 0, r.endResv)
  else if k.sop = 0 && (k.isD 2 || k.isD 9) && r.bit NEG_CTRL_VALID then (k, 0, r.takeNeg)
  else (k, 0, r)

/-- The engine takes the published window as the committed message (R188, R223, R227, R230). -/
def Room.take (e : Env) (av : Nat) (r : Room) : Room :=
  let w := r.window
  let init := r.bit TXW0_INITIATE
  let c := r.clampCaps e w.1 w.2.2
  let x := c.2.2.eprCheck e c.1
  let g := x.2.gate e av x.1
  let m : TxMsg := { kind := .core, pkt := g.1, ext := c.2.1, initiate := init, chunk := 0, re := g.2.1
                     eh := w.2.1, wait := none }
  let r := g.2.2.onPd fun d => { d with msg := some m }
  let r := (r.put TX_STAT_TRIES 0).queueTx e m
  if m.pkt.isExt then r.onCore fun c => { c with extCopy := true } else r

/-- A COMMIT: publish the ten stage copies at once, then the engine takes or refuses the message (R403, R190). The
answer is the code that COMMIT writes into rd. -/
def Room.commit (e : Env) (av : Nat) (shadow : Bool) (r : Room) : Nat × Room :=
  let st := r.core.stage
  let regs := (List.range 8).foldl (fun m i => m.set (0x100 + 4 * i) (st.getD i 0)) r.regs
  let regs := (regs.set 0x140 (st.getD 8 0)).set 0x144 (st.getD 9 0)
  let r := { r with regs := regs }
  let send := r.bit TXW0_SEND
  let r := r.onCore fun c => { c with dirty := false
                                      stage := setAt (setAt c.stage 0 (st.getD 0 0 &&& ~~~TXW0_SEND.mask)) 8
                                        (st.getD 8 0 &&& ~~~NEG_CTRL_VALID.mask) }
  if send then
    let j := r.rejCode shadow
    if j = 0 then (0, r.take e av) else (j, (r.put TX_STAT_REJ_CODE j).on PD_EVENT_TX_REJ)
  else (0, r)

/-! ### The commands: reception -/

/-- A shadow follows what passes on the line (R216): a message waits for the GoodCRC that it observes. -/
def Room.observe (k : Pkt) (r : Room) : Room := r.onPd fun d => { d with rx := some k }

/-- A shadow sees a GoodCRC (R216): of the keeper for the partner's message, or of the partner for the keeper's. -/
def Room.observeAck (e : Env) (sop id : Nat) (r : Room) : Room :=
  match r.pd.rx with
  | none => r
  | some k =>
    if k.sop = sop && k.id = id then
      let ours := decide (k.hdr / 256 % 2 = 1) == decide (r.ast = aSrc)
      let ours := if k.sop = 0 then ours else k.hdr / 256 % 2 = 0
      let r := r.onPd fun d => if ours then { d with rx := none, txId := setAt d.txId sop ((id + 1) % 8) }
        else { d with rx := none, rxId := setAt d.rxId sop (some id) }
      let r := if ours then r else if r.fld (revField sop) = 0 then r.put (revField sop) (min r.offered k.rev) else r
      let r := if sop = 0 && k.isC 6 && r.fld CON_STAT_SWAP = 0 then r.off PD_STAT_HR_COUNT else r
      let r := if !ours && k.cableVdm && bits (k.obj 0) 31 16 = 0xFF00 && bits (k.obj 0) 4 0 = 1 then r.cableAnswer e k else r
      if sop = 0 then r.eprMode e k else r
    else r

/-- A GoodCRC ends on the line (R178, R179). -/
def Room.goodCrc (e : Env) (sop id : Nat) (r : Room) : Room :=
  match r.pd.air with
  | none => r
  | some a => if a.phase != .sending && a.msg.pkt.sop = sop && a.id = id then r.acked e a else r

/-- A Hard Reset signal ends on the line (R175, R211, R216): taken by a keeper that does not transmit, followed by a
shadow. -/
def Room.hardSignal (e : Env) (r : Room) : Room :=
  if !e.keeper then r.pdReset.on PD_STAT_HR_ACTIVE
  else if r.sending then r
  else (r.on PD_EVENT_HR_RX).startHr e

/-- A packet of a recognised SOP type ends on the line, checked (R172, R175 to R178, R216). -/
def Room.packet (e : Env) (c : Checked) (r : Room) : Room :=
  match c with
  | .good k =>
    if !e.keeper then (if k.isC 1 then r.observeAck e k.sop k.id else r.observe k)
    else if r.sending then r
    else if k.isC 1 then (r.heard e k.sop).goodCrc e k.sop k.id
    else (r.heard e k.sop).receive e k
  | .crcErr => if r.sending || !e.keeper then r else r.discard e PD_ERRCNT_CRC_ERR
  | .trunc => if r.sending || !e.keeper then r else r.discard e PD_ERRCNT_TRUNC

/-- MESSAGE_RECEIVED (R171 to R173, R175, R176): the K-codes of the ordered set and the symbols that follow it, up to EOP or
to where they broke off. -/
def execMessageReceived (p : Fin 48) (os syms : List (Fin 32)) (s : State) : Out :=
  act s (s.whole p && (s.room p).attached) fun s =>
    s.onRoomE p fun e r =>
      match recognise os with
      | some (.sop t) => r.packet e (checkPacket t.val syms)
      | some .hard => r.hardSignal e
      | some .cable => r
      | none => r.packet e .trunc

/-- PACKET_TRUNCATED (R173). -/
def execPacketTruncated (p : Fin 48) (s : State) : Out :=
  act s (s.live p && (s.room p).attached && !(s.room p).sending) fun s =>
    s.onRoomE p fun e r => r.discard e PD_ERRCNT_TRUNC

/-- GOODCRC (R22, R174, R176): 25 µs or more after EOP the GoodCRC starts on an idle line. -/
def execGoodcrc (p : Fin 48) (tr : Nat) (s : State) : Out :=
  let r := s.room p
  act s (s.live p && r.attached && !r.pd.gcrc && !r.pd.hrDue && idleLine tr && old s.now r.pd.lastPkt 25) fun s =>
    s.onRoom p fun r =>
      match r.pd.rx with
      | some k => r.onPd fun d => { d with gcrc := true, line := (r.goodCrcOf k).line }
      | none => r

/-- MESSAGE_DELIVERED (R177): the GoodCRC has been sent (log 17). -/
def execMessageDelivered (p : Fin 48) (s : State) : Out :=
  let r := s.room p
  act s (s.live p && r.attached && r.pd.gcrc) fun s =>
    match r.pd.rx with
    | none => s
    | some k => let av := s.availFor p; s.onRoomE p fun e r => r.deliver e av k

/-- GOODCRC_RECEIVED (R178, R179). -/
def execGoodcrcReceived (p : Fin 48) (sop : Fin 3) (id : Fin 8) (s : State) : Out :=
  act s (s.whole p && (s.room p).attached) fun s =>
    s.onRoomE p fun e r =>
      if !e.keeper then r.observeAck e sop.val id.val
      else if r.sending then r else (r.heard e sop.val).goodCrc e sop.val id.val

/-! ### The commands: transmission -/

/-- TRANSMIT_START (R174, R22, R201): `tr` transitions of the line in the most recent 16 µs. -/
def execTransmitStart (p : Fin 48) (tr : Nat) (s : State) : Out :=
  act s (s.free p && idleLine tr) fun s => s.onRoomE p Room.startTx

/-- TRANSMIT_END (R179): EOP ends and tReceive starts. -/
def execTransmitEnd (p : Fin 48) (s : State) : Out :=
  act s (s.live p) fun s => s.onRoomE p fun e r =>
    match r.pd.air with
    | none => r
    | some a =>
      if a.phase = .sending then
        let sop := a.msg.pkt.sop = 0
        let r := r.onPd fun d =>
          { d with air := some { a with phase := .awaiting, eop := e.now }, lastPkt := e.now
                   lastSop := if sop then e.now else d.lastSop, lastTx := if sop then e.now else d.lastTx }
        r.cableDue e
      else r

/-- TRECEIVE (R179): 1.0 ms without a matching GoodCRC. A GoodCRC that ends in the last tick of the wait still matches, so a
message fails from the tick after it on (R218). -/
def execTreceive (p : Fin 48) (s : State) : Out :=
  act s (s.live p) fun s => s.onRoomE p fun e r =>
    match r.pd.air with
    | none => r
    | some a =>
      if a.phase = .awaiting && old e.now a.eop 1000 then
        (if a.tries < r.nRetry a.msg.pkt.sop then r.onPd fun d => { d with air := some { a with phase := .retryDue } }
         else if old e.now a.eop 1001 then r.failed e a.msg else r)
      else r

/-- No Hard Reset, GoodCRC, reception or carrier stands before a retransmission (R22, R174, R211). -/
def Room.retryFree (e : Env) (r : Room) : Bool :=
  r.pd.rx.isNone && !r.pd.gcrc && r.pd.bistAt.isNone && !r.pd.hrDue && !r.pd.crDue && !r.bit PD_STAT_HR_ACTIVE &&
  old e.now r.pd.lastPkt 25

/-- RETRANSMIT (R174, R179): 25 to 75 µs after tReceive, on an idle line. -/
def execRetransmit (p : Fin 48) (tr : Nat) (s : State) : Out :=
  act s (s.live p && idleLine tr) fun s => s.onRoomE p fun e r =>
    match r.pd.air with
    | none => r
    | some a =>
      if a.phase = .retryDue && old e.now a.eop 1025 && r.retryFree e then
        let r := r.onPd fun d => { d with air := some { a with phase := .sending, tries := a.tries + 1 }
                                          line := a.msg.pkt.line }
        if a.msg.kind = .core then r.put TX_STAT_TRIES (a.tries + 1) else r
      else r

/-- TSENDERRESPONSE (R180): no Accept within 27 ms after a Soft_Reset's GoodCRC. -/
def execTsenderresponse (p : Fin 48) (s : State) : Out :=
  act s (s.live p && due s.now (s.room p).pd.srWait 27000) fun s => s.onRoomE p fun e r =>
    let r := r.onPd fun d => { d with srWait := none }
    if r.bit PD_CFG_AUTO_SR then r.hardResetCause e else r

/-- TSINKTX (R185): 17 ms at SinkTxNG release the message. -/
def execTsinktx (p : Fin 48) (s : State) : Out :=
  act s (s.live p && due s.now (s.room p).pd.sinkTx 17000 && (s.room p).fld TX_STAT_STATE = 2) fun s =>
    s.onRoom p fun r => r.put TX_STAT_STATE 1

/-- TAMSIDLE (R185): 1.2 s without an SOP message return Rp to SinkTxOk (log 18), but not while a message is HELD
(R187). -/
def execTamsidle (p : Fin 48) (s : State) : Out :=
  act s (s.live p && (s.room p).fld TX_STAT_STATE != 4 && due s.now (s.room p).pd.sinkTx 1200000 && old s.now (s.room p).pd.lastSop 1200000) fun s =>
    s.onRoomE p Room.sinkTxOk

/-- AMS_END (R185); a source keeps SinkTxNG while a message is HELD (R187). -/
def execAmsEnd (p : Fin 48) (s : State) : Out :=
  act s (s.live p && (s.room p).fld TX_STAT_STATE != 4) fun s => s.onRoomE p Room.sinkTxOk

/-- TX_RELEASE (R187): HELD returns to PENDING under R184 to R186. -/
def execTxRelease (p : Fin 48) (s : State) : Out :=
  act s (s.live p && (s.room p).fld TX_STAT_STATE = 4) fun s => s.onRoomE p fun e r =>
    match r.pd.msg with
    | some m => r.queueTx e m
    | none => r

/-- TX_WITHDRAW (R187). The reservation of an Accept that ends so stays as it is (R225; log 137). -/
def execTxWithdraw (p : Fin 48) (s : State) : Out :=
  act s (s.live p && (s.room p).fld TX_STAT_STATE = 4) fun s => s.onRoom p fun r => r.txEnd 13

/-- RX_POP (R193). -/
def execRxPop (p : Fin 48) (s : State) : Out :=
  act s (s.whole p) fun s => s.onRoom p fun r => (r.onPd fun d => { d with rxq := d.rxq.drop 1 }).showRx

/-- VDM_POP (R207). -/
def execVdmPop (p : Fin 48) (s : State) : Out :=
  act s (s.whole p) fun s => s.onRoom p fun r => (r.onPd fun d => { d with inbox := d.inbox.drop 1 }).showRx

/-- HARD_RESET (R210, R212). -/
def execHardReset (p : Fin 48) (s : State) : Out :=
  act s (s.free p && (s.room p).attached) fun s => s.onRoomE p Room.hardResetCause

/-- CABLE_RESET (R174, R211, R214): sent while VCONN is on and no Hard Reset sequence runs, after the end of a transmission
in progress. -/
def execCableReset (p : Fin 48) (s : State) : Out :=
  act s (s.free p && (s.room p).bit CC_STAT_VCONN_ON && !(s.room p).bit PD_STAT_HR_ACTIVE) fun s =>
    s.onRoomE p fun e r => (r.onPd fun d => { d with crDue := true }).cableDue e

/-- Start one discovery attempt: Discover Identity REQ on SOP′ (R209). Its VDM header is 0xFF00_8001: SVDM version 1.0, and
every other open field 0 (log 138). -/
def Room.discover (e : Env) (tries : Nat) (r : Room) : Room :=
  (((r.put PD_STAT_CABLE_STATE 1).onPd fun d => { d with cableTries := tries, cableAt := e.now, cableWait := none }).say
    (.mk' .cable 1 0x0F [0xFF008001#32])).refreshCable e

/-- CABLE_DISC (R209). -/
def execCableDisc (p : Fin 48) (s : State) : Out :=
  act s (s.free p && (s.room p).bit CC_STAT_VCONN_ON && (s.room p).fld PD_STAT_CABLE_STATE != 1) fun s =>
    s.onRoomE p fun e r => r.discover e 1

/-- CABLE_DISCOVERY_START (R209): 50 ms after VCONN came on. -/
def execCableDiscoveryStart (p : Fin 48) (s : State) : Out :=
  let r := s.room p
  act s (s.free p && r.bit PD_CFG_CABLE_AUTO && due s.now r.pd.vconnAt 50000 && r.fld PD_STAT_CABLE_STATE = 0 &&
    !r.explicit) fun s => s.onRoomE p fun e r => r.discover e 1

/-- CABLE_RESPONSE_TIMEOUT (R209): no response within 27 ms. -/
def execCableResponseTimeout (p : Fin 48) (s : State) : Out :=
  act s (s.live p && due s.now (s.room p).pd.cableWait 27000) fun s =>
    s.onRoom p fun r => r.onPd fun d => { d with cableWait := none }

/-- CABLE_DISCOVERY_ATTEMPT (R209): 45 ms after the previous attempt. -/
def execCableDiscoveryAttempt (p : Fin 48) (s : State) : Out :=
  let r := s.room p
  act s (s.live p && r.fld PD_STAT_CABLE_STATE = 1 && old s.now r.pd.cableAt 45000 && r.pd.cableWait.isNone &&
    !r.pd.auto.any (·.kind = .cable) && !r.pd.air.any (·.msg.kind = .cable)) fun s =>
    s.onRoomE p fun e r =>
      if r.pd.cableTries < r.fld PD_CFG_CABLE_TRIES then r.discover e (r.pd.cableTries + 1)
      else ((r.put PD_STAT_CABLE_STATE 4).on PD_EVENT_CABLE_DONE).refreshCable e

/-- HVDM_SEND (R208). -/
def execHvdmSend (p : Fin 48) (s : State) : Out :=
  act s (s.live p) fun s => s.onRoomE p fun e r =>
    let h := r.fld HV0_HDR
    let n := h / 4096 % 8
    let objs := (List.range n).map fun i => r.regs.get (0xE4 + 4 * i)
    let v := (objs.getD 0 0).toNat
    let ok := !h.testBit 15 && h % 32 = 0x0F && 1 ≤ n && !v.testBit 15 && bits v 31 16 = 0x3A9D && r.attached &&
      !r.outOff && r.caApplies && r.pd.hvdm.isNone
    if ok then
      let r := (r.put PD_STAT_HVDM_STATE 1).onPd fun d =>
        { d with hvdm := some { TxMsg.mk' .hostVdm 0 0x0F objs with initiate := true } }
      if r.ast = aSrc && !r.bit PD_STAT_SINKTX then r.sinkTxNg e else r
    else (r.put PD_STAT_HVDM_STATE 4).on PD_EVENT_HVDM_DONE

/-- CHUNK_REQUEST (R174, R196): 25 to 100 µs after the GoodCRC of a received chunk. -/
def execChunkRequest (p : Fin 48) (tr : Nat) (s : State) : Out :=
  act s (s.free p && idleLine tr) fun s => s.onRoomE p fun e r => r.startAuto e .chunkReq

/-- TCHUNKSENDERREQUEST (R195): no Chunk Request within 27 ms. -/
def execTchunksenderrequest (p : Fin 48) (s : State) : Out :=
  act s (s.live p) fun s => s.onRoomE p fun e r =>
    let late (m : TxMsg) : Bool := due e.now m.wait 27000
    let r := if r.pd.msg.any late then (r.txEnd 9).on PD_EVENT_CHUNK_ERR else r
    if r.pd.auto.any late then
      (r.onPd fun d => { d with auto := d.auto.filter fun m => !late m }).on PD_EVENT_CHUNK_ERR
    else r

/-- TCHUNKSENDERRESPONSE (R196): no next chunk within 27 ms. -/
def execTchunksenderresponse (p : Fin 48) (s : State) : Out :=
  act s (s.live p && due s.now ((s.room p).pd.chunkRx.bind ChunkRx.since) 27000) fun s => s.onRoom p Room.dropPartial

/-- AUTOMATIC_REPLY (R174, R201): the engine reply starts. -/
def execAutomaticReply (p : Fin 48) (tr : Nat) (s : State) : Out :=
  act s (s.free p && idleLine tr) fun s => s.onRoomE p fun e r => r.startAuto e .reply

/-- BIST_CARRIER_END (R202). -/
def execBistCarrierEnd (p : Fin 48) (s : State) : Out :=
  act s (s.live p && due s.now (s.room p).pd.bistAt 45000) fun s => s.onRoomE p fun e r =>
    (r.onPd fun d => { d with bistAt := none, lastPkt := e.now }).cableDue e

/-- EPR_KEEPALIVE (R204): 375 ms after the last SOP message of this port. -/
def execEprKeepalive (p : Fin 48) (s : State) : Out :=
  let r := s.room p
  act s (s.free p && r.ast = aSnk && r.bit PD_STAT_EPR_ACTIVE && r.bit PD_CFG_EPR_KA_AUTO && !r.bit PD_STAT_HR_ACTIVE &&
    old s.now r.pd.lastTx 375000 && !r.pd.auto.any (·.kind = .keepAlive) && r.pd.air.isNone) fun s =>
    s.onRoom p fun r => r.say (extCtl .keepAlive 3)

/-- KA_MISS (R204): no EPR_KeepAlive_Ack within 27 ms. -/
def execKaMiss (p : Fin 48) (s : State) : Out :=
  act s (s.live p && due s.now (s.room p).pd.kaWait 27000) fun s => s.onRoom p fun r =>
    (r.onPd fun d => { d with kaWait := none }).on PD_EVENT_KA_MISS

/-- EPR_SOURCE_TIMEOUT (R205): 875 ms without an SOP message from the partner. -/
def execEprSourceTimeout (p : Fin 48) (s : State) : Out :=
  let r := s.room p
  act s (s.free p && r.ast = aSrc && r.bit PD_STAT_EPR_ACTIVE && old s.now r.pd.lastRx 875000 && !r.pd.hrDue) fun s =>
    s.onRoomE p Room.hardResetCause

/-- One more Hard Reset sent. -/
def Room.hrCounted (r : Room) : Room := r.put PD_STAT_HR_COUNT (min (r.fld PD_STAT_HR_COUNT + 1) 3)

/-- HARD_RESET_TRANSMIT (R211): the signal goes out after the end of any transmission. A shadow observes the keeper's
(R216). -/
def execHardResetTransmit (p : Fin 48) (s : State) : Out :=
  act s (s.whole p && (s.room p).attached && (!s.keeps (wingOf p) || s.free p)) fun s => s.onRoomE p fun e r =>
    if !e.keeper then r.hrCounted.hardSignal e
    else if r.pd.hrDue && !r.sending then
      (((r.on PD_EVENT_HR_TX).hrCounted).startHr e).onPd fun d => { d with line := lineOf .hard [] }
    else r

/-- HARD_RESET_RECEIVED (R175, R211, R218). A shadow follows it (R216). -/
def execHardResetReceived (p : Fin 48) (s : State) : Out :=
  act s (s.whole p && (s.room p).attached) fun s => s.onRoomE p Room.hardSignal

/-- CABLE_RESET_RECEIVED (R214): no effect on the engine. -/
def execCableResetReceived (_p : Fin 48) (s : State) : Out := act s true fun s => s

end Sys2Proof.Machine
end

