-- ==== Sys2Proof/Machine/CoreOps.lean ====
section
/-! DEFINITION. Machine/CoreOps.lean: loading, starting, restarting and stopping the Room cores (R31, R117, R387, R409,
R591), doorbells, and the shared parts of a core's life. -/

namespace Sys2Proof.Machine

/-- A byte string as a memory from address 0 on. -/
def memOf (b : List Byte) : Mem := (b.zipIdx.map fun x => (x.2, x.1)).filter fun x => x.2 != 0

/-- Write a byte string over the start of a memory. -/
def memLoad (m : Mem) (b : List Byte) : Mem := memOf b ++ m.filter fun x => b.length ≤ x.1

def State.onCoreOf (s : State) (c : CoreId) (f : Core → Core) : State :=
  match c with
  | .room p => s.onRoom p fun r => r.onCore f
  | .hall => { s with hall := f s.hall }

/-- The record of the program that a port's entry names (R116). -/
def Plan.programFor (p : Plan) (n : Nat) : Option ProgramRec := p.programs.find? (·.index = (p.port n).program)

/-- What R387 sets at a start: registers, EV_EN, IN_EVT, the stage copies from the published values with SEND and VALID
taken as 0. DOORBELL and EV_LATCH keep their values; a halt of debug ends (R619). -/
def Room.startCore (now entry : Nat) (r : Room) : Room :=
  let st := (List.range 8).map (fun i => r.regs.get (0x100 + 4 * i)) ++ [r.regs.get 0x140, r.regs.get 0x144]
  let st := setAt (setAt st 0 (st.getD 0 0 &&& ~~~TXW0_SEND.mask)) 8 (st.getD 8 0 &&& ~~~NEG_CTRL_VALID.mask)
  let r := (r.put EV_EN_EN 0).on STATUS_CORE_ALIVE
  { r.onCore fun c =>
      { c with g := List.replicate 16 0, lc := 0, epc := 0, evLine := 0, evTrap := 0, evRpt := false, inEvt := false
               pc := BitVec.ofNat 32 (0x20000 + entry), state := 1, rep := 0, rptU := 0, stage := st, dirty := false
               halted := false, stepping := false, pass := false } with kickAt := now }

/-- The loader writes a Room's memories (R117). -/
def Room.loadProgram (g : ProgramRec) (r : Room) : Room :=
  { r with code := memLoad r.code g.code, data := memOf g.data }

/-- Load and start a Room core (R117, R387). Where the contents do not match PCRC the core stays in reset with CORE_FAIL
and the port enters the port safe state. -/
def State.bootCore (s : State) (p : Fin 48) : State :=
  match s.pl.programFor p.val with
  | none => s
  | some g =>
    let s := s.onRoom p fun r => r.loadProgram g
    if crc32c (g.code ++ g.data) = g.pcrc then s.onRoomE p fun e r => r.startCore e.now g.entry
    else (s.onRoom p fun r => (r.off STATUS_CORE_ALIVE).onCore fun c => { c with state := 0 }).enterSafe p FAULT_CORE_FAIL
      false

/-- A restart of a Room core (R387): CORE_RESTART. A core that HOLD holds stays held. -/
def State.restartCore (s : State) (p : Fin 48) : State :=
  if (s.room p).bit CORE_CTRL_HOLD then s else (s.bootCore p).onRoom p fun r => r.on EVENT_CORE_RESTART

/-- RESTART_CORE (R387, CTRL). -/
def execRestartCore (p : Fin 48) (s : State) : Out := act s (s.whole p) fun s => s.restartCore p

/-- A write of CORE_CTRL.HOLD (R387, R409). -/
def State.writeHold (s : State) (p : Fin 48) (on : Bool) : State :=
  if on then s.onRoom p fun r => ((r.on CORE_CTRL_HOLD).off STATUS_CORE_ALIVE).onCore fun c =>
    { c with state := 5, halted := false, rep := 0 }
  else if (s.room p).bit CORE_CTRL_HOLD then (s.onRoom p fun r => r.off CORE_CTRL_HOLD).restartCore p
  else s

/-- HOLD (R387, R408). -/
def execHold (p : Fin 48) (on : Bool) (s : State) : Out :=
  act s (s.whole p) fun s => s.writeHold p (s.clampBit (.roomReg p.val 0x380) CORE_CTRL_HOLD on)

/-- DOORBELL (R397, R409): a W1S write over the Wing bus. -/
def execDoorbell (p : Fin 48) (v : BitVec 8) (s : State) : Out :=
  act s (s.whole p) fun s => s.onRoom p fun r => r.put DOORBELL_DB (r.fld DOORBELL_DB ||| v.toNat)

/-- DB_ACK (R397): the Room core clears doorbell bits. -/
def execDbAck (p : Fin 48) (v : BitVec 8) (s : State) : Out :=
  act s (s.whole p) fun s => s.onRoom p fun r => r.put DOORBELL_DB (r.fld DOORBELL_DB &&& (255 - v.toNat))

/-! ### The Room core watchdog (R31, R589, R591, R593) -/

/-- Restarts of a core within the last 10 s. -/
def Room.recent (now : Nat) (r : Room) : List Nat := r.restarts.filter fun t => now < t + 10000000

/-- A missed deadline: MISS, CORE_WDT, the restart, at the second within 10 s in pair mode the hand-up, at the third
CORE_FAIL. Only restarts by the watchdog count (log 41). -/
def State.coreMiss (s : State) (p : Fin 48) : State :=
  let b := landOf p
  let n := ((s.room p).recent s.now).length + 1
  let s := s.onLand b fun l => l.put LAND_WDT_STAT_MISS (l.fld LAND_WDT_STAT_MISS ||| 2 ^ (p.val % 8))
  let s := s.onRoom p fun r =>
    { (r.fault FAULT_CORE_WDT).off STATUS_CORE_ALIVE with restarts := r.recent s.now ++ [s.now] }
  let s := s.restartCore p
  let s := if 3 ≤ n then s.enterSafe p FAULT_CORE_FAIL false else s
  if n = 2 && s.pairMode then s.handUp b else s

/-- The watchdog of a core counts: it is started, not held and not halted (R591, R619). -/
def State.watched (s : State) (p : Fin 48) : Bool :=
  let c := (s.room p).core
  s.whole p && (c.state = 1 || c.state = 2 || c.state = 4) && !c.halted

/-- CORE_WDT (R31, R591): no service for WDT_T. -/
def execCoreWdt (p : Fin 48) (s : State) : Out :=
  act s (s.watched p && old s.now (s.room p).kickAt (1000 * (s.land (landOf p)).fld LAND_WDT_WDT_T)) fun s =>
    s.coreMiss p

/-- A Room core write of CORE_KICK (R591, R31). -/
def State.kick (s : State) (p : Fin 48) (key : Nat) : State :=
  if key = 0xA55A then s.onRoom p fun r => { r.on STATUS_CORE_ALIVE with kickAt := s.now } else s.coreMiss p

/-- CORE_KICK (R591). -/
def execCoreKick (p : Fin 48) (key : Nat) (s : State) : Out := act s (s.watched p) fun s => s.kick p key

/-- EXT_COPY_DONE (R405). The message is taken whole at the COMMIT; a store that would have waited acts after it
(log 42). -/
def execExtCopyDone (p : Fin 48) (s : State) : Out :=
  act s (s.booted && (s.room p).core.extCopy) fun s => s.onRoom p fun r => r.onCore fun c => { c with extCopy := false }

end Sys2Proof.Machine
end

