-- ==== Sys2Proof/Machine/DebugOps.lean ====
section
/-! DEFINITION. Machine/DebugOps.lean: halting and resuming cores, and what the DEBUG lock ends (20_debug.md, R614 to
R620). -/

namespace Sys2Proof.Machine

/-- A core's HALT bit (DBG_HALT0, DBG_HALT1). -/
def State.haltBit (s : State) : CoreId → Bool
  | .room p => if p.val < 32 then (s.fld DBG_HALT0_ROOM).testBit p.val else (s.fld DBG_HALT1_ROOM).testBit (p.val - 32)
  | .hall => s.bit DBG_HALT1_HALL

def State.setHaltBit (s : State) (c : CoreId) (b : Bool) : State :=
  match c with
  | .room p =>
    if p.val < 32 then s.put DBG_HALT0_ROOM (setBit (s.fld DBG_HALT0_ROOM) p.val b)
    else s.put DBG_HALT1_ROOM (setBit (s.fld DBG_HALT1_ROOM) (p.val - 32) b)
  | .hall => s.putB DBG_HALT1_HALL b

/-- A core halts (R616, R617): its HALT bit, its cause, and CORE_ALIVE of a Room (R619). -/
def State.haltCore (s : State) (c : CoreId) (cause bk : Nat) : State :=
  let s := (s.setHaltBit c true).onCoreOf c fun k =>
    { k with halted := true, stepping := false, pass := false, cause := cause, bkpt := bk }
  match c with
  | .room p => s.onRoom p fun r => r.off STATUS_CORE_ALIVE
  | .hall => s

/-- A halted core resumes at its PC (R616, R619, R620): its deadline restarts in full. -/
def State.resumeCore (s : State) (c : CoreId) : State :=
  if (s.core c).halted then
    let s := s.onCoreOf c fun k => { k with halted := false, stepping := false, pass := true }
    match c with
    | .room p => s.onRoom p fun r => { r.on STATUS_CORE_ALIVE with kickAt := s.now }
    | .hall => if !s.pairMode && s.bit DBG_CTRL_HB_SUSPEND then { s with hbeatAt := s.now, hbMissed := false } else s
  else s

/-- Every core. -/
def allCores : List CoreId := (List.finRange 48).map CoreId.room ++ [.hall]

/-- The DEBUG lock is set (R614, R615): halted cores resume, breakpoints are disabled, and every debug register takes its
reset value. -/
def State.closeDebug (s : State) : State :=
  let s := allCores.foldl State.resumeCore s
  let s := s.mapRooms fun _ r =>
    (List.range 4).foldl (fun r k => r.off (BKPT_EN.shift (4 * k))) { r with core := { r.core with cause := 0, bkpt := 0 } }
  { s with regs := s.regs.filter fun x => !(0x74000 ≤ x.1 && x.1 < 0x75000)
           hall := { s.hall with cause := 0, bkpt := 0 } }

end Sys2Proof.Machine
end

