-- ==== Sys2Proof/Machine/AtticOps.lean ====
section
/-! DEFINITION. Machine/AtticOps.lean: the fuse array, its counters and locks, and the parts of an Attic command
(16_attic_boot.md, R512 to R527). -/

namespace Sys2Proof.Machine

/-- A fuse: logical word, bit, and which copy (R512). -/
structure Fuse where
  word : Nat
  bit : Nat
  copyB : Bool
deriving DecidableEq, Repr

/-- A word's copy. -/
def Attic.copy (x : Attic) (b : Bool) (w : Nat) : Word := if b then x.b.get w else x.a.get w
/-- A logical word: each bit reads 1 when either copy does (R512). -/
def Attic.logical (x : Attic) (w : Nat) : Word := x.a.get w ||| x.b.get w
/-- The weak bits of a word's copy, as its last margin read left them (R524). -/
def Attic.weak (x : Attic) (b : Bool) (w : Nat) : Word := if b then x.weakB.get w else x.weakA.get w

/-- A copy passes a margin read (R523). -/
def Attic.passes (x : Attic) (f : Fuse) : Bool :=
  (x.copy f.copyB f.word).getLsbD f.bit && !(x.weak f.copyB f.word).getLsbD f.bit

/-- One pulse (R512, R523): the copy reads 1 and passes until a margin read says otherwise. -/
def Attic.pulse (x : Attic) (f : Fuse) : Attic :=
  let m := BitVec.ofNat 32 (2 ^ f.bit)
  if f.copyB then { x with b := x.b.set f.word (x.b.get f.word ||| m), weakB := x.weakB.set f.word (x.weakB.get f.word &&& ~~~m) }
  else { x with a := x.a.set f.word (x.a.get f.word ||| m), weakA := x.weakA.set f.word (x.weakA.get f.word &&& ~~~m) }

/-- The set bits of a word, lowest first. -/
def bitsOf (w : Word) : List Nat := (List.range 32).filter w.getLsbD

/-- The value of a thermometer (R514): the index of its lowest bit that reads 0, its width where none does. -/
def thermo (ws : List Word) : Nat :=
  let bits := ws.flatMap fun w => (List.range 32).map w.getLsbD
  (bits.findIdx? (! ·)).getD bits.length

/-- FW_CTR, PLAN_CTR and REVOKE: first word, width and value in the shadow (R513, R514). -/
def ctrWord (c : Nat) : Nat := if c = 0 then 88 else if c = 1 then 96 else 17
def ctrWidth (c : Nat) : Nat := if c = 2 then 4 else 256
def Attic.ctr (x : Attic) (c : Nat) : Nat :=
  if c = 2 then min (thermo [x.shadow.get 17]) 4 else thermo ((List.range 8).map fun i => x.shadow.get (ctrWord c + i))

/-- 1 bits of LC in the shadow: the lifecycle that the row of R515 gives. -/
def Attic.lc (x : Attic) : Nat := (bitsOf (x.shadow.get 16 &&& 7#32)).length

/-- The TRIM CRC of R517, over words 0 to 14 with their least significant byte first (log 46). -/
def Attic.trimOk (x : Attic) : Bool :=
  crc32c ((List.range 15).flatMap fun i => le32 (x.shadow.get i).toNat) = (x.shadow.get 15).toNat

/-- The logical bits that a command names, in the order of its pulses (R521, R518; log 51). -/
def Attic.named (x : Attic) (c : FuseCmd) : List (Nat × Nat) :=
  match c.op with
  | 1 => (bitsOf c.pdata).map fun i => (c.word, i)
  | 3 => (List.range (c.value - x.ctr c.ctr)).map fun i =>
      let k := x.ctr c.ctr + i
      (ctrWord c.ctr + k / 32, k % 32)
  | 4 =>
    let ws := Config.scramble (x.shadow.get 1 ++ x.shadow.get 0) c.secret
    ((List.range 8).flatMap fun i => (bitsOf (ws.getD i 0)).map fun k => (72 + 8 * c.sel + i, k)) ++ [(16, 8 + c.sel)]
  | 5 => [(16, ((List.range 3).find? fun i => !(x.shadow.get 16).getLsbD i).getD 2)]
  | _ => []

/-- The pulses of a command: copy A, then copy B of each bit, but for copies that pass (R523). -/
def Attic.pulses (x : Attic) (c : FuseCmd) : List Fuse :=
  ((x.named c).flatMap fun b => [⟨b.1, b.2, false⟩, ⟨b.1, b.2, true⟩]).filter fun f => !x.passes f

/-- Refresh the shadow for words (R517). -/
def Attic.refresh (x : Attic) (ws : List Nat) : Attic :=
  { x with shadow := ws.foldl (fun m w => m.set w (x.logical w)) x.shadow }

/-- A margin read of the given bits of words (R523, R524): `bad` lists the copies that fail, as word, copy B and bits; a
copy that is not programmed fails as well (log 124). -/
def Attic.marginRead (x : Attic) (ws : List (Nat × Word)) (bad : List (Nat × Bool × Word)) : Attic :=
  let mask (w : Nat) (b : Bool) : Word := (bad.filter fun y => y.1 = w && y.2.1 = b).foldl (fun a y => a ||| y.2.2) 0
  { x with weakA := ws.foldl (fun m y => m.set y.1 ((m.get y.1 &&& ~~~y.2) ||| (mask y.1 false &&& y.2 &&& x.a.get y.1))) x.weakA
           weakB := ws.foldl (fun m y => m.set y.1 ((m.get y.1 &&& ~~~y.2) ||| (mask y.1 true &&& y.2 &&& x.b.get y.1))) x.weakB }

/-- The logical bits of a word that read 1 while a copy fails (R524). -/
def Attic.failing (x : Attic) (w : Nat) : Word :=
  x.logical w &&& ~~~((x.a.get w &&& ~~~x.weakA.get w) &&& (x.b.get w &&& ~~~x.weakB.get w))

/-- ATTIC_STAT and ATTIC_CTR from the shadow; LIFECYCLE changes at a chip reset only (R515). -/
def State.atticShow (s : State) : State :=
  let w := s.attic.shadow.get 16
  let s := ((s.put ATTIC_STAT_KEY_VALID (w.toNat / 16 % 16)).put ATTIC_STAT_SECRET_VALID (w.toNat / 256 % 4)).putB
    ATTIC_STAT_DBG_DISABLE (w.getLsbD 3)
  ((s.put ATTIC_CTR_FW (s.attic.ctr 0)).put ATTIC_CTR_PLAN (s.attic.ctr 1)).put ATTIC_CTR_REVOKE (s.attic.ctr 2)

/-! ### Starting a command (R521, R522) -/

/-- The command as its registers give it. -/
def State.fuseCmd (s : State) (op : Nat) : FuseCmd :=
  { op := op, word := s.fld ATTIC_ADDR_WORD, pdata := s.regs.get 0x40010, ctr := s.fld ATTIC_ADDR_CTR,
    value := s.fld ATTIC_ADDR_VALUE, sel := s.fld ATTIC_ADDR_SEL,
    secret := (List.range 8).map fun i => s.regs.get (0x40020 + 4 * i) }

/-- A lock bit of ATTIC_LOCK (R527). -/
def State.locked (s : State) (n : Nat) : Bool := (s.fld ATTIC_LOCK_LOCK).testBit n

/-- A lock closes what the command programs (R527). LC_PROG in SECURED leaves the step to RETIRED open. -/
def State.fuseLocked (s : State) (c : FuseCmd) : Bool :=
  match c.op with
  | 1 => if c.word ≤ 15 then s.locked 0
    else if c.word = 16 || (20 ≤ c.word && c.word ≤ 67) then s.locked 1
    else if 128 ≤ c.word then s.locked 6 else false
  | 3 => if c.ctr = 2 then s.locked 2 else s.locked 4
  | 4 => s.locked 3
  | 5 => s.locked 5 && s.fld ATTIC_STAT_LIFECYCLE != 2
  | _ => false

/-- The lifecycle forbids the command (R515, R516): no next state; SECURED without a key or secret 0. -/
def State.lcForbids (s : State) (c : FuseCmd) : Bool :=
  c.op = 5 && (s.attic.lc = 3 ||
    (s.attic.lc = 1 && (s.fld ATTIC_STAT_KEY_VALID = 0 || !(s.fld ATTIC_STAT_SECRET_VALID).testBit 0)))

/-- The command names a bit outside its region, a reserved word or a valid secret (R513, R518, R521). -/
def State.regionBad (s : State) (c : FuseCmd) : Bool :=
  match c.op with
  | 1 => !((c.word = 16 && c.pdata &&& 0xFFFFFF07#32 = 0) || (20 ≤ c.word && c.word ≤ 67) || 128 ≤ c.word)
  | 4 => (s.fld ATTIC_STAT_SECRET_VALID).testBit c.sel
  | _ => false

/-- ADVANCE at or below the present value, or above the width (R522). -/
def State.rangeBad (s : State) (c : FuseCmd) : Bool :=
  c.op = 3 && (c.value ≤ s.attic.ctr c.ctr || ctrWidth c.ctr < c.value)

/-- The refusal of a command, 0 for none; the checks in the order of log 50. MARGIN is refused by BUSY alone (R522). -/
def State.fuseRefusal (s : State) (c : FuseCmd) (vpp vdd : Bool) : Nat :=
  if s.attic.cmd.isSome then 8
  else if c.op = 2 then 0
  else if !vpp then 1
  else if !vdd then 2
  else if s.fuseLocked c then 3
  else if s.lcForbids c then 4
  else if s.regionBad c then 5
  else if s.rangeBad c then 9
  else 0

/-- ATTIC_RESULT at the end of a command (R522, R523). -/
def State.fuseResult (s : State) (code op pulses : Nat) : State :=
  (((s.put ATTIC_RESULT_RESULT code).put ATTIC_RESULT_OP op).on ATTIC_RESULT_DONE).put ATTIC_RESULT_PULSES (min pulses 255)

/-- A write of ATTIC_CMD by a requester that may (R521, R522): VPP_OTP and VDD_IO as they stand. A refused PROG_SECRET
clears SEC_IN as well (R518). -/
def State.fuseStart (s : State) (op : Nat) (vpp vdd : Bool) : State :=
  let s := s.putB ATTIC_STAT_VPP_OK vpp
  let c := s.fuseCmd op
  let code := s.fuseRefusal c vpp vdd
  if code = 0 then { (s.on ATTIC_STAT_BUSY) with attic := { s.attic with cmd := some c } }
  else
    let s := s.fuseResult code op 0
    if op = 4 then { s with regs := (List.range 8).foldl (fun m i => m.set (0x40020 + 4 * i) 0) s.regs } else s

/-- Who may start Attic commands: the Hall core, and the debug port while debug access is enabled (R521, R623). -/
def State.fuseMay (s : State) (r : Req) : Bool := r = .hall || (r = .dbg && s.debugOn)

/-- The end of a command (R523, R524, R518): `abort` pulses done when a supply left its window, and the copies that fail
the margin reads. -/
def State.fuseEnd (s : State) (c : FuseCmd) (abort : Option Nat) (bad : List (Nat × Bool × Word)) : State :=
  let all := s.attic.pulses c
  let done := match abort with | some n => all.take n | none => all
  let x := done.foldl Attic.pulse s.attic
  let ws := if c.op = 2 then [(c.word, BitVec.allOnes 32)]
    else if abort.isSome then [] else all.map fun f => (f.word, BitVec.ofNat 32 (2 ^ f.bit))
  let x := x.marginRead ws bad
  let progd := (all.map (·.word)).eraseDups
  let weak : Word := if c.op = 2 then x.failing c.word
    else if abort.isSome then 0
    else (all.map fun f => (f.word, f.bit)).foldl
      (fun a b => if (x.failing b.1).getLsbD b.2 then a ||| BitVec.ofNat 32 (2 ^ b.2) else a) 0
  let code := if abort.isSome then 6 else if c.op != 2 && weak != 0 then 7 else 0
  let x := (if c.op = 2 then x else x.refresh progd)
  let s := { s with attic := { x with cmd := none } }
  let s := ((s.off ATTIC_STAT_BUSY).fuseResult code c.op done.length).put ATTIC_MARGIN_WEAK weak.toNat
  let s := if c.op = 4 then { s with regs := (List.range 8).foldl (fun m i => m.set (0x40020 + 4 * i) 0) s.regs } else s
  s.atticShow

/-- A chip reset or power loss during a command (R523, R539): it ends after at most the current pulse, and how many pulses
it had made by then is a free value. -/
def State.fuseCut (s : State) : State :=
  match s.attic.cmd with
  | none => s
  | some c =>
    let all := s.attic.pulses c
    let f := s.free?
    let x := (all.take (f.1.toNat % (all.length + 1))).foldl Attic.pulse s.attic
    { f.2 with attic := { x with cmd := none } }

/-! ### Locks (R527) -/

/-- Set lock bits; the DEBUG lock ends debug access (R615). -/
def State.setLocks (s : State) (v : Nat) : State :=
  let was := s.fld ATTIC_LOCK_LOCK
  let s := s.put ATTIC_LOCK_LOCK (was ||| v % 512)
  if v.testBit 8 && !was.testBit 8 then s.closeDebug else s

/-- The locks of the boot ROM (table "Lifecycle states"). -/
def bootLocks (lc : Nat) (dbgDisable : Bool) : Nat :=
  if lc = 0 then 0
  else if lc = 1 then (if dbgDisable then 0x101 else 0x001)
  else if lc = 2 then 0x12B
  else 0x17F

/-- The boot ROM reads the fuses into the shadow and shows what follows from them (R515, R517). -/
def State.readAttic (s : State) : State :=
  let s := { s with attic := s.attic.refresh (List.range 256) }
  (s.atticShow.put ATTIC_STAT_LIFECYCLE s.attic.lc).putB ATTIC_STAT_TRIM_ERR !s.attic.trimOk

end Sys2Proof.Machine
end

