-- ==== Sys2Proof/Machine/Attic.lean ====
section
/-! DEFINITION. Machine/Attic.lean: the commands of the Attic (16_attic_boot.md). Each carries the requester that writes
ATTIC_CMD and whether VPP_OTP and VDD_IO stand in their windows. -/

namespace Sys2Proof.Machine

/-- A write of ATTIC_CMD (R521, R522). -/
def State.fuseWrite (s : State) (r : Req) (op : Nat) (vpp vdd : Bool) : State :=
  if s.fuseMay r then { (s.fuseStart op vpp vdd) with rerr := false } else s.accessErr r

/-- PROGRAM (R521). -/
def execProgram (r : Req) (vpp vdd : Bool) (s : State) : Out := act s s.clocked fun s => s.fuseWrite r 1 vpp vdd
/-- MARGIN (R524). -/
def execMargin (r : Req) (s : State) : Out := act s s.clocked fun s => s.fuseWrite r 2 (s.bit ATTIC_STAT_VPP_OK) true
/-- ADVANCE (R521). -/
def execAdvance (r : Req) (vpp vdd : Bool) (s : State) : Out := act s s.clocked fun s => s.fuseWrite r 3 vpp vdd
/-- PROG_SECRET (R518). -/
def execProgSecret (r : Req) (vpp vdd : Bool) (s : State) : Out := act s s.clocked fun s => s.fuseWrite r 4 vpp vdd
/-- LIFECYCLE (R515, R516). -/
def execLifecycle (r : Req) (vpp vdd : Bool) (s : State) : Out := act s s.clocked fun s => s.fuseWrite r 5 vpp vdd

/-- ATTIC_COMMAND_DONE (R523). MARGIN checks no supply, so nothing aborts it (R522). -/
def execAtticCommandDone (abort : Option Nat) (bad : List (Nat × Bool × Word)) (s : State) : Out :=
  match s.attic.cmd with
  | none => .next s
  | some c => act s s.clocked fun s => s.fuseEnd c (if c.op = 2 then none else abort) bad

/-- ATTIC_LOCK (R527): a W1S write by any requester. -/
def execAtticLock (v : Word) (s : State) : Out :=
  act s s.clocked fun s => { (s.setLocks (ATTIC_LOCK_LOCK.of v)) with rerr := false }

end Sys2Proof.Machine
end

