-- ==== Sys2Proof/Machine/Converter.lean ====
section
/-! DEFINITION. Machine/Converter.lean: PWM generator, loop engine, Threshold comparators, port switch, eFuse and retries
(07_port_converter.md). -/

namespace Sys2Proof.Machine

/-! ### Numbers -/


/-- Clamp an integer. -/
def clampI (lo hi v : Int) : Int := max lo (min v hi)

/-- A 24-bit two's-complement field. -/
def sgn24 (v : Nat) : Int := if v < 8388608 then (v : Int) else (v : Int) - 16777216

/-- Present ports: those whose PWM generator, ADCs and Thresholds run (R54, R266). -/
def State.present (s : State) (p : Fin 48) : Bool := s.booted && (s.pl.port p.val).present

/-- |port current| as a magnitude in ADC codes. -/
def Room.curAbs (r : Room) : Nat := (sgn12 (r.fld ADC_I_LOOP)).natAbs

/-- A current in mA as an ADC code, for the Plan's shunt (R273). -/
def codeOfMa (e : Env) (ma : Nat) : Int := roundDiv (ma * e.port.rsense * 2048) 300000

/-- |port current| in mA. -/
def Room.curMa (e : Env) (r : Room) : Nat :=
  if e.port.rsense = 0 then 0 else r.curAbs * 300000 / (2048 * e.port.rsense)

/-! ### Thresholds -/

/-- The word of Threshold `k` in force (R296). -/
def Room.thrWord (r : Room) (k : Nat) : Word := r.conv.thr.getD k 0

/-- Threshold `k` clears by itself at a period start (R294). -/
def Room.autoClr (r : Room) (k : Nat) : Bool := k != 3 && THR_OV_AUTOCLR.of (r.thrWord k) = 1

/-- A Threshold is armed (R290). A follower's VBUS Thresholds are not sampled, and its I_PK follows the lead's safe state
(R54, R61). -/
def Room.armed (e : Env) (r : Room) (k : Nat) : Bool :=
  match k with
  | 0 => e.lead.isNone && (r.forward || r.loop = lReverse)
  | 1 => e.lead.isNone && decide (r.conv.quiet ≤ e.now) && ((r.loop = lRegulate && r.bit SW_STAT_FULL && due e.now r.conv.flat 1000 && !r.bit LOOP_STAT_ILIMITING) ||
         (r.loop = lReverse && 0 < r.conv.draw))
  | 2 => e.port.present && (!(e.ruler r).inSafe || (e.ruler r).attempting)
  | _ => e.port.present

/-- ARMED and HOLD of THR_STAT. -/
def Room.showThr (e : Env) (r : Room) : Room :=
  let ar := (List.range 4).foldl (fun a k => if r.armed e k then a + 2 ^ k else a) 0
  let ho := (List.range 4).foldl (fun a k => if r.conv.holds.any (·.thr = k) then a + 2 ^ k else a) 0
  ((r.put THR_STAT_ARMED ar).put THR_STAT_HOLD ho).putB PWM_STAT_HOLD (!r.conv.holds.isEmpty)

/-- Effective fractions (R289). -/
def Room.levels (e : Env) (r : Room) : Room :=
  let vhi := if r.loop = lReverse then e.port.vmax else
    r.conv.mem2.foldl (fun a x => max a (max x.2.1 x.2.2)) (max (r.fld VSET_REF) (r.fld VSET_MV))
  let vlo := if r.loop = lReverse then r.fld CON_VI_MV else
    r.conv.mem2.foldl (fun a x => min a (min x.2.1 x.2.2)) (min (r.fld VSET_REF) (r.fld VSET_MV))
  let wo := r.thrWord 0
  let wu := r.thrWord 1
  let ovl := vhi * 100 + max (vhi * THR_OV_PCT.of wo) 50000
  let uvl := vlo * 100 - max (vlo * THR_UV_PCT.of wu) 30000
  let ov := if THR_OV_TRACK.of wo = 1 then min 1023 ((ovl + 5624) / 5625) else THR_OV_FRAC.of wo
  let uv := if THR_UV_TRACK.of wu = 1 then min 1023 (uvl / 5625) else THR_UV_FRAC.of wu
  (r.put THR_LEVEL_OV_EFF ov).put THR_LEVEL_UV_EFF uv

/-- The comparator of Threshold `k` finds its condition gone at a loop sample: VBUS code within 4 × F, current code
within 2 × F (R288; log 27). -/
def Room.thrOff (r : Room) (k : Nat) : Bool :=
  match k with
  | 0 => r.fld ADC_VBUS_LOOP ≤ 4 * r.fld THR_LEVEL_OV_EFF
  | 1 => 4 * r.fld THR_LEVEL_UV_EFF ≤ r.fld ADC_VBUS_LOOP
  | _ => r.curAbs ≤ 2 * THR_OV_FRAC.of (r.thrWord k)

/-- Comparators and filters fall where a loop sample shows the condition gone. -/
def Room.fallThr (r : Room) : Room :=
  (List.range 4).foldl (fun r k =>
    if r.thrOff k then
      let raw := r.fld THR_STAT_RAW
      (if raw.testBit k then r.put THR_STAT_RAW (raw - 2 ^ k) else r).onConv fun c => { c with filt := c.filt.set k false }
    else r) r

/-- The level that a trip holds a generator at (R291, table "Trip actions"): mid-rail, or else low. -/
def holdMid (reverse : Bool) (k : Nat) (neg : Bool) : Bool :=
  match k with
  | 0 => reverse
  | 1 => true
  | 2 => neg
  | _ => true

/-- Set a trip hold in a PWM generator at once (R269, R291). -/
def Room.addHold (e : Env) (h : Hold) (r : Room) : Room :=
  let r := r.onConv fun c => { c with holds := if c.holds.contains h then c.holds else c.holds ++ [h] }
  (r.showLevel e).showThr e

/-- Release trip holds of a generator. -/
def Room.dropHolds (e : Env) (f : Hold → Bool) (r : Room) : Room :=
  (r.onConv fun c => { c with holds := c.holds.filter (!f ·) }).showThr e

/-- The trip of Threshold `k` of port `p` reaches the generators and switches that the trip matrix names (R53, R106 to R108,
R291, R292; log 140). -/
def State.trip (s : State) (p k : Nat) (mid : Bool) : State :=
  let w := s.pl.tripWord p k
  (portsOf (Fin.ofNat 6 (p / 8))).foldl (fun s q =>
    let s := if w.testBit (q.val % 8) then s.onRoomE q fun e r => r.addHold e ⟨p, k, mid⟩ else s
    if w.testBit (8 + q.val % 8) then s.onRoom q Room.openSwitch else s) s

/-- Release the trip holds that a Threshold of a port has set. -/
def State.untrip (s : State) (p k : Nat) : State :=
  (portsOf (Fin.ofNat 6 (p / 8))).foldl (fun s q =>
    s.onRoomE q fun e r => r.dropHolds e fun h => h.port = p && h.thr = k) s

/-- The latch flag of a Threshold and sign (R293). -/
def flagOf (k : Nat) (neg : Bool) : Field :=
  match k with
  | 0 => THR_FLAG_OV
  | 1 => THR_FLAG_UV
  | 2 => if neg then THR_FLAG_PK_NEG else THR_FLAG_PK_POS
  | _ => if neg then THR_FLAG_SC_NEG else THR_FLAG_SC_POS

/-- The count of a Threshold. -/
def cntOf (k : Nat) : Field :=
  match k with
  | 0 => THR_CNT_OV
  | 1 => THR_CNT_UV
  | 2 => THR_CNT_PK
  | _ => THR_CNT_SC

/-- Set a Threshold's latch (R293). -/
def Room.latch (k : Nat) (neg : Bool) (r : Room) : Room :=
  let r := (r.on (flagOf k neg)).put (cntOf k) (min (r.fld (cntOf k) + 1) 255)
  let r := r.onConv fun c => { c with filt := c.filt.set k true, lossAt := if k = 2 then none else c.lossAt }
  match k with
  | 0 => r.on CONV_EVENT_OV_TRIP
  | 1 => r.on CONV_EVENT_UV_TRIP
  | 2 => r.on CONV_EVENT_PK_TRIP
  | _ => r

/-- Clear a Threshold's latch. -/
def Room.unlatch (k : Nat) (r : Room) : Room := (r.off (flagOf k false)).off (flagOf k true)

/-! ### Samples and the loop computation -/

/-- Keep the loop samples of a period (R272 to R275): codes of VBUS, port current, VNODE and VIN. -/
def Room.sample (e : Env) (vb ci vn vi : Nat) (r : Room) : Room :=
  let v := vinClamp vi
  let r := (((r.put ADC_VBUS_LOOP vb).put ADC_I_LOOP ci).put ADC_VNODE_VNODE vn).put ADC_VNODE_VIN v
  let r := (r.putB LOOP_STAT_FF_CLAMP (v != vi)).onCc fun c => { c with vbus := adcMv vb }
  let vds : Int := ((adcMv vn : Int) - (adcMv vb : Int)).tdiv 10
  let r := r.put SW_STAT_VDS ((vds + 65536).toNat % 65536)
  let r := r.onCon fun c => { c with frsLow := if vi < 1700 then min (c.frsLow + 1) 2 else 0 }
  let r := r.onConv fun c => { c with drawCut := if 2950 < vi then true else if vi < 2900 then false else c.drawCut }
  let apart := r.forward && r.bit SW_STAT_FULL &&
    1000 + r.curMa e / 10 < ((adcMv vn : Int) - (adcMv vb : Int)).natAbs
  let r := r.onConv fun c => { c with diverge := if apart then min (c.diverge + 1) 4 else 0 }
  let r := if r.conv.diverge = 4 && !r.conv.subst then r.onConv fun c => { c with subst := true, passed := 0 } else r
  let r := if r.conv.diverge = 4 then r.onConv fun c => { c with holdOkAt := none } else r
  r.fallThr

/-- The VBUS code that the loop takes: VNODE under the substitution of R597. -/
def Room.loopCode (r : Room) : Nat := if r.conv.subst then r.fld ADC_VNODE_VNODE else r.fld ADC_VBUS_LOOP

/-- The reference in VBUS codes with 12 fractional bits. -/
def Room.refCode (r : Room) : Int := roundDiv (r.conv.refUv * 65536) 225000

/-- The forward computation (R278), with the current samples of the gang summed (R286). -/
def Room.computeForward (e : Env) (isum : Int) (r : Room) : Room :=
  let c := r.conv
  let sh : Int := 2 ^ c.eshift
  let ym := r.ymax
  let e0 := roundDiv ((r.refCode - 4096 * r.loopCode) * sh) 4
  let b (i : Nat) : Int := c.coef.getD i 0
  let ee (i : Nat) : Int := c.e.getD i 0
  let yy (i : Nat) : Int := c.y.getD i 0
  let sum := b 0 * e0 + b 1 * ee 0 + b 2 * ee 1 + b 3 * ee 2 + b 4 * yy 0 + b 5 * yy 1 + b 6 * yy 2
  let raw := roundDiv sum 4194304
  let yc := clampI 0 ym raw
  let ief := codeOfMa e (r.fld EF_STAT_IEF)
  let ycl := clampI 0 ym (c.ycl + roundDiv (c.kcl * (ief - isum) * sh) 4096)
  let y0 := min yc ycl
  let lim := decide (ycl < yc)
  let was := r.bit LOOP_STAT_ILIMITING
  let r := ((r.putB LOOP_STAT_ILIMITING lim).putB LOOP_STAT_YSAT (yc = 0 || yc = ym)).put LOOP_STAT_Y y0.toNat
  let r := if lim && !was then r.on CONV_EVENT_ILIMIT else if was && !lim then r.on CONV_EVENT_ILIMIT_END else r
  r.onConv fun c => { c with e := [e0, ee 0, ee 1], y := [y0, yy 0, yy 1], ycl := ycl }

/-- The draw value of R247 in µA. -/
def Room.drawTarget (e : Env) (r : Room) : Nat :=
  if r.con.trans.isSome || r.bit PD_STAT_HR_ACTIVE || r.fld CON_STAT_SWAP != 0 || r.attempting || r.driversOff then 0
  else
    let con := if r.explicit then r.fld CON_VI_MA else rpSeenMa (r.fld CC_STAT_RP_SEEN)
    1000 * min (min (r.fld SINK_CTRL_SINK_I) con) (min e.port.imax (r.fld CABLE_LIM_IMAX_MA))

/-- The draw target in µA: 0 while VIN has cut the draw (R283). -/
def Room.drawGoal (e : Env) (r : Room) : Nat := if r.conv.drawCut then 0 else r.drawTarget e

/-- REVERSE holds Pn_PWM at mid-rail: the draw target or the draw is 0 (R271, R283). -/
def Room.still (e : Env) (r : Room) : Bool := r.loop = lReverse && (r.drawGoal e = 0 || r.conv.draw = 0)

/-- Move the draw toward its value by one period at DRAW_SLEW: 10 µA per µs and unit, PER ÷ 480 µs (R283). -/
def Room.moveDraw (e : Env) (r : Room) : Room :=
  let t := 48 * r.drawGoal e
  let step := r.fld LOOP_CFG_DRAW_SLEW * r.fld PWM_TIMING_PER
  let d := r.conv.draw
  let d' := if d < t then min t (d + step) else max t (d - step)
  let y := q22OfMv r.vnode
  r.onConv fun c => { c with draw := d', y := if d = 0 && 0 < d' then y :: c.y.drop 1 else c.y }

/-- The reverse computation (R283). -/
def Room.computeReverse (e : Env) (r : Room) : Room :=
  let r := r.moveDraw e
  let c := r.conv
  if c.draw = 0 then r
  else
    let sh : Int := 2 ^ c.eshift
    let dc := roundDiv (c.draw * e.port.rsense * 2048) (48 * 300000000)
    let e0 := roundDiv ((-dc - sgn12 (r.fld ADC_I_LOOP)) * sh * 1024) 1
    let y1 := c.y.getD 0 0
    let y0 := clampI 0 r.ymax (y1 + roundDiv (c.ki * e0) 4194304 + roundDiv (c.kp * (e0 - c.eiPrev)) 4194304)
    (r.put LOOP_STAT_Y y0.toNat).onConv fun c => { c with eiPrev := e0, y := [y0, y1, c.y.getD 1 0] }

/-- Queue a computed high interval for its period start (R276). -/
def Room.pushHigh (y : Int) (r : Room) : Room :=
  let h := r.highOf y
  r.onConv fun c => { c with newHigh := c.newHigh ++ [h] }

/-- Regulation is lost in this sample (R285). -/
def Room.lost (e : Env) (r : Room) : Bool :=
  let v := adcMv r.loopCode
  let t := r.conv.refUv / 1000
  decide (r.conv.quiet ≤ e.now) && r.loop = lRegulate && r.bit SW_STAT_FULL && !r.bit LOOP_STAT_ILIMITING && due e.now r.conv.flat 1000 &&
    max (t * 5 / 100) 300 < ((v : Int) - (t : Int)).natAbs

/-- What the sample says of the settle band and of regulation (R236, R285). -/
def Room.judge (e : Env) (r : Room) : Room :=
  let ok := r.vbusInBand (adcMv r.loopCode)
  let r := r.onCon fun c => { c with inBand := if ok then c.inBand <|> some e.now else none }
  let r := if ok then r else r.off CON_STAT_SETTLED
  let l := r.lost e
  r.onConv fun c => { c with lossAt := if l then c.lossAt <|> some e.now else none }

/-- The members' present current codes, as a sum and a count (R286). -/
def State.gangCodes (s : State) (p : Nat) : Int × Nat :=
  let ms := s.pl.members p
  (ms.foldl (fun a m => a + sgn12 ((s.room (Fin.ofNat 48 m)).fld ADC_I_LOOP)) 0, ms.length)

/-- One period's move of the balance trim (R286). -/
def Room.moveTrim (sum : Int) (n : Nat) (r : Room) : Room :=
  if n ≤ 1 then r else
    let own := sgn12 (r.fld ADC_I_LOOP)
    let d := roundDiv (sum - n * own) (4 * n)
    r.onConv fun c => { c with trim := clampI (-83886) 83886 (c.trim + d) }

/-- Add conversions to a window of the last 10 µs (R274). -/
def addWin (now : Nat) (w : List (Nat × Int)) (xs : List Int) : List (Nat × Int) :=
  (w.filter fun x => now < x.1 + 10) ++ xs.map fun x => (now, x)

/-- The mean of a window, to the nearest LSB; none for an empty one (R274; log 141). -/
def meanOf (w : List (Nat × Int)) : Option Int :=
  if w.isEmpty then none else some (roundDiv (w.foldl (fun a x => a + x.2) 0) w.length)

/-- The running means of VBUS and port current over the non-loop conversions of the last 10 µs (R274). -/
def Room.means (e : Env) (vs is : List (BitVec 12)) (r : Room) : Room :=
  let r := r.onConv fun c =>
    { c with vWin := addWin e.now c.vWin (vs.map fun x => (x.toNat : Int))
             iWin := addWin e.now c.iWin (is.map fun x => sgn12 x.toNat) }
  let r := match meanOf r.conv.vWin with
    | some m => r.put ADC_VBUS_AVG m.toNat
    | none => r
  match meanOf r.conv.iWin with
  | some m => r.put ADC_I_AVG ((m + 4096).toNat % 4096)
  | none => r

/-- The samples of a follower (R54, R286): its phase current and VNODE; VBUS is not sampled, VIN is the lead's. -/
def Room.sampleFollower (e : Env) (ci vn : Nat) (r : Room) : Room :=
  let vin := (e.ruler r).fld ADC_VNODE_VIN
  (((r.put ADC_I_LOOP ci).put ADC_VNODE_VNODE vn).put ADC_VNODE_VIN vin).fallThr

/-- LOOP_UPDATE (R272 to R287): the loop samples of a period, and the output computed from them (log 113). `vs` and `is` are
the other conversions of VBUS and port current since the last one (R274). -/
def execLoopUpdate (p : Fin 48) (vbus cur vnode vin : BitVec 12) (vs is : List (BitVec 12)) (s : State) : Out :=
  act s (s.present p) fun s =>
    let fol := s.pl.follower p.val
    let s := s.onRoomE p fun e r =>
      if fol then (r.sampleFollower e cur.toNat vnode.toNat).means e [] is
      else (r.sample e vbus.toNat cur.toNat vnode.toNat vin.toNat).means e vs is
    if !s.keeps (wingOf p) then s
    else
      let g := s.gangCodes p.val
      let s := s.onRoom p fun r => r.moveTrim g.1 g.2
      if fol then
        let y := ((s.room (s.lead p)).conv.y).getD 0 0
        s.onRoom p fun r => r.pushHigh y
      else
        s.onRoomE p fun e r =>
          let r := if r.forward then r.computeForward e g.1 else if r.loop = lReverse then r.computeReverse e else r
          let r := if r.forward || (r.loop = lReverse && 0 < r.conv.draw) then r.pushHigh (r.conv.y.getD 0 0) else r
          (r.judge e).showThr e

/-! ### The period start -/

/-- Transfers that wait for a period start (R279, R296). The coefficients wait one more where the direction changed at this
one (R307). -/
def Room.transfers (turned : Bool) (r : Room) : Room :=
  let r := if r.conv.coefDue && !turned then
      (r.on CONV_EVENT_COEF_APPLIED).onConv fun c =>
        { c with coefDue := false
                 coef := [COEF_B0_COEF, COEF_B1_COEF, COEF_B2_COEF, COEF_B3_COEF, COEF_A1_COEF, COEF_A2_COEF,
                   COEF_A3_COEF].map fun f => sgn24 (r.fld f) }
    else r
  r.onConv fun c =>
    { c with kcl := sgn24 (r.fld CL_KI_KCL), kp := sgn24 (r.fld REV_KP_GAIN), ki := sgn24 (r.fld REV_KI_GAIN)
             eshift := r.fld LOOP_CFG_ESHIFT
             thr := [r.regs.get 0x210, r.regs.get 0x214, r.regs.get 0x218, r.regs.get 0x21C] }

/-- A direction change at a period start (R269, R284), a takeover start among them (R256). REVERSE starts only while the
switch is FULL (R300). -/
def Room.turn (e : Env) (r : Room) : Room :=
  if r.conv.frsTurn then (r.frsStart e).on CONV_EVENT_DIR_CHANGE else
  match r.conv.dirDue with
  | none => r
  | some true =>
    if r.bit SW_STAT_FULL && !r.driversOff && (r.loop = lOff || r.loop = lRegulate) then
      (((r.setLoop lReverse).on CONV_EVENT_DIR_CHANGE).onConv fun c => { c with dirDue := none, draw := 0, newHigh := [] })
    else r
  | some false =>
    if r.loop = lReverse then
      let y := r.conv.y.getD 0 0
      let r := ((r.setLoop lRegulate).on CONV_EVENT_DIR_CHANGE).setRef (1000 * r.cc.vbus)
      ((r.onConv fun c => { c with dirDue := none, draw := 0, y := [y, y, y], e := [0, 0, 0], newHigh := [] }).slewRate
        ).refreshRamp e (r.fld VSET_MV)
    else r.onConv fun c => { c with dirDue := none }

/-- The high interval of the period and the level at its start (R267, R268, R271, R276). A follower is at mid-rail with its
lead (R54). -/
def Room.newPeriod (e : Env) (r : Room) : Room :=
  let need := if r.bit PWM_TIMING_LATE then 2 else 1
  let r := if need ≤ r.conv.newHigh.length then
      r.onConv fun c => { c with newHigh := c.newHigh.drop 1, high := c.newHigh.getD 0 0 } else r
  let r := r.onConv fun c => { c with pwmAt := e.now, phaseDue := false }
  let skip := r.conv.high < 16 * r.fld PWM_LIMIT_MIN_ON
  let h := min r.conv.high (16 * (r.fld PWM_TIMING_PER - r.fld PWM_LIMIT_MIN_OFF))
  match if (e.ruler r).still e then some 2 else r.heldLevel e with
  | some l => ((r.put PWM_STAT_LEVEL l).off PWM_STAT_HIGH_T).off PWM_STAT_SKIP
  | none =>
    ((r.put PWM_STAT_LEVEL (if skip || h = 0 then 0 else 1)).put PWM_STAT_HIGH_T (if skip then 0 else h)).putB
      PWM_STAT_SKIP skip

/-- The end of the high interval: Pn_PWM is low until the period ends (R267; log 1). -/
def Room.pwmTick (e : Env) (r : Room) : Room :=
  if r.fld PWM_STAT_LEVEL = 1 && r.fld PWM_STAT_HIGH_T ≤ 7680 * (e.now - r.conv.pwmAt) then r.off PWM_STAT_LEVEL else r

/-- A foldback close adds charge to the gate in a period in which |Vds| × |port current| is below PFB, removes it above
1.5 × PFB, and does neither between (R299). -/
def Room.foldPeriod (e : Env) (r : Room) : Room :=
  if r.conv.foldAt.isNone then r
  else
    let pw := r.vds.natAbs * r.curMa e
    let pfb := 1000000 * r.fld EF_FB_PFB
    r.onConv fun c =>
      { c with gate := if pw < pfb then .add else if 2 * pw ≤ 3 * pfb then .keep else .remove }

/-- Record reference and VSET for the tracking memory of 2 ms (R289). -/
def Room.remember (e : Env) (r : Room) : Room :=
  r.onConv fun c =>
    { c with mem2 := (e.now, r.fld VSET_REF, r.fld VSET_MV) :: c.mem2.filter fun x => e.now ≤ x.1 + 2000 }

/-- One Room's period start. -/
def Room.startPeriod (e : Env) (r : Room) : Room :=
  if !e.keeper then ((((r.transfers false).remember e).levels e)).showThr e
  else
    let t := r.turn e
    let turned := t.loop != r.loop
    ((((t.transfers turned).remember e).levels e).newPeriod e).foldPeriod e |>.showThr e

/-- A follower's period start is due: PHASE after its lead's, in ascending port order (R52, R270). -/
def State.phaseTurn (s : State) (p : Fin 48) : Bool :=
  (s.room p).conv.phaseDue &&
    ((s.pl.members p.val).drop 1).all fun m => p.val ≤ m || !(s.room (Fin.ofNat 48 m)).conv.phaseDue

/-- PERIOD_START (R269, R270, R279, R284, R289, R294, R296). A lead's makes those of its followers due. -/
def execPeriodStart (p : Fin 48) (s : State) : Out :=
  act s (s.present p && (!s.pl.follower p.val || s.phaseTurn p)) fun s =>
    let auto := (List.range 4).filter (s.room p).autoClr
    let s := auto.foldl (fun s k => (s.untrip p.val k).onRoom p (Room.unlatch k)) s
    let s := (s.onRoomE p Room.startPeriod).tookPeriod p
    if s.pl.follower p.val then s
    else ((s.pl.members p.val).drop 1).foldl
      (fun s m => s.onRoom (Fin.ofNat 48 m) fun r => r.onConv fun c => { c with phaseDue := true }) s

/-- SOFT_START_DONE (R277): the reference is at 5,000 mV. -/
def execSoftStartDone (p : Fin 48) (s : State) : Out :=
  act s (s.live p && (s.room p).loop = lSoftStart && (s.room p).fld VSET_REF = 5000) fun s =>
    s.onRoomE p fun e r =>
      ((r.setLoop lRegulate).slewRate).refreshRamp e (r.fld VSET_MV)

/-- The power side of entry to ATTACHED_SRC, or of an attempt (R152, R281, R303). -/
def Room.powerOn (e : Env) (r : Room) : Room :=
  if r.ast = aSnk then (r.closeSwitch e).onConv fun c => { c with dirDue := some true }
  else ((r.setVset e 5000).closeSwitch e).loopStart e

/-- SOFT_STOP_DONE (R277, R282): the reference and VBUS have reached 0, VNODE when the switch is off. An attempt that was
discharging node M goes on to its close (R303). -/
def execSoftStopDone (p : Fin 48) (s : State) : Out :=
  let r := s.room p
  act s (s.live p && r.loop = lSoftStop && r.fld VSET_REF = 0 &&
      (if r.bit SW_STAT_CMD then r.cc.vbus ≤ 800 else r.vnode ≤ 800)) fun s =>
    s.onRoomE p fun e r =>
      let opens := r.conv.openAtOff
      let r := r.loopOff.refreshRamp e (r.fld VSET_MV)
      let r := if opens then (r.openSwitch).onConv fun c => { c with openAtOff := false } else r
      if r.attempting && r.conv.attAt.isNone then
        (r.powerOn e).onConv fun c => { c with attAt := some e.now }
      else r

/-- COEF_APPLY (R279). -/
def execCoefApply (p : Fin 48) (s : State) : Out :=
  act s (s.present p) fun s => s.onRoom p fun r => r.onConv fun c => { c with coefDue := true }

/-! ### Trips, persistence, faults -/

/-- The comparator of Threshold `k` is outside its blanking window: BLANK clk_pwm cycles since the last change of level of
the port's own Pn_PWM (R291). The four words hold BLANK at the same bits. -/
def Room.unblanked (r : Room) (k cycles : Nat) : Bool := THR_OV_BLANK.of (r.thrWord k) ≤ cycles

/-- THRESHOLD_TRIP (R291, R292): the raw output of an armed comparator, with the sign of the current, `cycles` clk_pwm
cycles after the last change of level of Pn_PWM. -/
def execThresholdTrip (p : Fin 48) (k : Fin 4) (neg : Bool) (cycles : Nat) (s : State) : Out :=
  act s (s.present p && (s.room p).armed (s.env p) k.val && (s.room p).unblanked k.val cycles) fun s =>
    let s := s.onRoom p fun r =>
      r.put THR_STAT_RAW (if (r.fld THR_STAT_RAW).testBit k.val then r.fld THR_STAT_RAW else r.fld THR_STAT_RAW + 2 ^ k.val)
    let s := if k = 2 then s.onRoom p fun r => r.onConv fun c => { c with lossAt := none } else s
    if s.keeps (wingOf p) then s.trip p.val k.val (holdMid ((s.room (s.lead p)).loop = lReverse) k.val neg) else s

/-- THRESHOLD_LATCH (R292, R293): the filter output rises; an I_SC latch sets SC and enters the port safe state. -/
def execThresholdLatch (p : Fin 48) (k : Fin 4) (neg : Bool) (s : State) : Out :=
  act s (s.present p && (s.room p).armed (s.env p) k.val) fun s =>
    let s := s.onRoom p (Room.latch k.val neg)
    if k.val = 3 && s.keeps (wingOf p) then s.enterSafe p FAULT_SC true else s

/-- OV_T (R295). -/
def execOvT (p : Fin 48) (s : State) : Out :=
  let r := s.room p
  act s (s.live p && r.armed (s.env p) 0 && 48 * r.fld PROT_TIME_OV_T ≤ r.conv.ovCnt) fun s =>
    s.enterSafe p FAULT_OV false

/-- UV_T (R295). -/
def execUvT (p : Fin 48) (s : State) : Out :=
  let r := s.room p
  act s (s.live p && r.armed (s.env p) 1 && 48000 * r.fld PROT_TIME_UV_T ≤ r.conv.uvCnt) fun s =>
    s.enterSafe p FAULT_UV true

/-- REG_LOSS (R285). -/
def execRegLoss (p : Fin 48) (s : State) : Out :=
  let r := s.room p
  act s (s.live p && due s.now r.conv.lossAt (1000 * r.fld PROT_TIME_REGLOSS_T)) fun s =>
    (s.enterSafe p FAULT_REG_LOSS false).onRoom p fun r => r.onConv fun c => { c with lossAt := none }

/-- EFUSE (R301): the fault timer has reached TFLT. -/
def execEfuse (p : Fin 48) (s : State) : Out :=
  let r := s.room p
  act s (s.live p && !r.driversOff && 100 * r.fld EF_TIME_TFLT ≤ r.fld EF_STAT_TIMER) fun s =>
    s.enterSafe p FAULT_EFUSE true

/-- FOLDBACK_TIMEOUT (R299): the close is not cold within TFB. -/
def execFoldbackTimeout (p : Fin 48) (s : State) : Out :=
  let r := s.room p
  act s (s.live p && due s.now r.conv.foldAt (1000 * r.fld EF_TIME_TFB) && 1000 < r.vds.natAbs) fun s =>
    s.enterSafe p FAULT_EFUSE true

/-- COLD_CLOSE (R299): |Vds| has fallen to 1.0 V. -/
def execColdClose (p : Fin 48) (s : State) : Out :=
  let r := s.room p
  act s (s.live p && r.conv.foldAt.isSome && r.vds.natAbs ≤ 1000) fun s => s.onRoom p fun r =>
    ((r.put SW_STAT_CLOSE 1).on SW_STAT_FULL).onConv fun c => { c with foldAt := none, gate := .add }

/-! ### Retries -/

/-- The steps of an attempt up to its close (R303). -/
def Room.attempt (e : Env) (r : Room) : Room :=
  let r := (r.pdClear e).conClear e
  let r := r.dropHolds e fun _ => true
  let r := ((r.on CONV_EVENT_ATTEMPT).on RETRY_STAT_ATTEMPT).off RETRY_STAT_WAIT
  let r := (r.off RETRY_STAT_NEXT).onConv fun c => { c with retryK := c.retryK + 1, attAt := none }
  if r.ast != aSnk && 5500 < r.vnode then
    r.openSwitch.loopOff.discharge e (1000 * r.fld CON_CFG_SLEW) 1 false
  else (r.powerOn e).onConv fun c => { c with attAt := some e.now }

/-- The port may make its attempt now (R304): a grant of 7.5 W as source, VBUS_PRESENT as sink, and no mode that sheds the
port (R307). -/
def Room.mayAttempt (cls : Nat) (r : Room) : Bool :=
  if r.modeSheds cls then false else if r.ast = aSnk then r.bit CC_STAT_VBUS_PRESENT else r.ast = aSrc && 8 ≤ r.grant

/-- The attempt of a port may start: the slot is ON (R326), and it is due k × PER after the entry to the safe state, or the
switch model has cooled after a THERM_TRIP (R346). -/
def State.attemptDue (s : State) (p : Fin 48) : Bool :=
  let r := s.room p
  (s.land (landOf p)).st = hOn &&
    (if r.conv.thermal then !s.modelHot p.val && !s.dieHot
     else due s.now r.conv.retryAt (100000 * r.fld RETRY_CFG_PER * r.conv.retryK))

/-- RETRY_ATTEMPT (R302 to R304, R346). -/
def execRetryAttempt (p : Fin 48) (s : State) : Out :=
  let r := s.room p
  act s (s.live p && r.safe && !r.bit CTRL_FORCE_SAFE && !r.slotHold && r.bit RETRY_STAT_WAIT && s.attemptDue p) fun s =>
    let r := s.room p
    if !r.mayAttempt (s.cls p) then s.onRoom p fun r => r.onConv fun c => { c with retryK := c.retryK + 1 }
    else
      let s := if r.conv.thermal then s.clampModel p.val else s
      s.onRoomE p fun e r =>
        (r.onConv fun c => { c with thermTried := c.thermal, thermal := false }).attempt e

/-- ATTEMPT_WINDOW_END (R303): ATT_T after the close the attempt has succeeded. -/
def execAttemptWindowEnd (p : Fin 48) (s : State) : Out :=
  let r := s.room p
  act s (s.live p && due s.now r.conv.attAt (1000 * r.fld RETRY_CFG_ATT_T)) fun s =>
    s.onRoomE p fun e r =>
      let r := { r with safe := false }
      let r := (((r.on CONV_EVENT_ATTEMPT_OK).off RETRY_STAT_ATTEMPT).off RETRY_STAT_WAIT).on EVENT_SAFE_EXIT
      let r := r.onConv fun c => { c with attAt := none, retryAt := none, outAt := some e.now, thermal := false }
      ((r.vconn e).implicitVi e).afterTrans e

/-- RETRY_COUNT_RESET (R304): 60 s out of the port safe state. -/
def execRetryCountReset (p : Fin 48) (s : State) : Out :=
  let r := s.room p
  act s (s.live p && !r.inSafe && due s.now r.conv.outAt 60000000) fun s => s.onRoom p fun r =>
    (r.off RETRY_STAT_COUNT).onConv fun c => { c with outAt := none, thermTried := false }

/-- The conditions of the FET check (R305), but for the time. -/
def Room.fetWatch (r : Room) : Bool :=
  !r.bit SW_STAT_CMD && r.fld PWM_STAT_LEVEL = 2 && !r.cc.removing &&
    (r.ast = aDisabled || r.ast = aErrRec || r.ast = aUnSrc || r.ast = aWaitSrc ||
     (r.ast = aUnSnk && r.fld CC_STAT_RP_SEEN = 0) ||
     (r.inSafe && (if r.bit CC_STAT_ORIENT then r.kind2 else r.kind1) = 0))

/-- FET_SHORT (R305). -/
def execFetShort (p : Fin 48) (s : State) : Out :=
  let r := s.room p
  act s (s.live p && r.fetWatch && due s.now r.conv.fetAt 20000 && due s.now r.conv.fetHi 1000) fun s =>
    s.enterSafe p FAULT_FET_SHORT false

end Sys2Proof.Machine
end

