-- ==== Sys2Proof/Machine/JournalOps.lean ====
section
/-! DEFINITION. Machine/JournalOps.lean: the Cellar flash, its boot record and the Journal engine (18_cellar_journal.md,
16_attic_boot.md R531). The flash is held complemented, so that an unlisted byte is an erased 0xFF. -/

namespace Sys2Proof.Machine

/-! ### Flash operations (R566, R572) -/

/-- Program one byte: a program only clears bits. -/
def progByte (m : Mem) (a : Nat) (v : Byte) : Mem := m.set a (m.get a ||| ~~~v)
/-- Program a run of bytes. -/
def progBytes (m : Mem) (a : Nat) (b : List Byte) : Mem := b.zipIdx.foldl (fun m x => progByte m (a + x.2) x.1) m
/-- Erase a range. -/
def eraseRange (m : Mem) (a n : Nat) : Mem := m.filter fun x => !(a ≤ x.1 && x.1 < a + n)
/-- Read a run of bytes. -/
def cellarBytes (m : Mem) (a n : Nat) : List Byte := (List.range n).map fun i => cellarByte m (a + i)

/-- `n` free bytes (log 2). -/
def State.freeBytes (s : State) : Nat → List Byte × State
  | 0 => ([], s)
  | n + 1 =>
    let f := s.free?
    let r := f.2.freeBytes n
    (f.1.setWidth 8 :: r.1, r.2)

/-- An erase of a range that a reset cuts short (log 161): whole blocks of 64 KiB are erased, and which bits of the next
one are is free. -/
def State.eraseCut (s : State) (a n : Nat) : State :=
  let f := s.free?
  let k := a + 0x10000 * (f.1.toNat % (n / 0x10000 + 1))
  let m := eraseRange f.2.cellar a (k - a)
  let cells := m.filter fun x => k ≤ x.1 && x.1 < min (k + 0x10000) (a + n)
  let g := f.2.freeBytes cells.length
  { g.2 with cellar := (cells.zip g.1).foldl (fun m x => m.set x.1.1 (x.1.2 &&& x.2)) m }

/-- Program a run of bytes that a failure cuts short: which of the bits to be cleared are clear is free. -/
def State.progCut (s : State) (a : Nat) (b : List Byte) : State :=
  let f := s.freeBytes b.length
  { f.2 with cellar := progBytes f.2.cellar a ((b.zip f.1).map fun x => x.1 ||| x.2) }

/-! ### The layout of a record (R569, R571) -/

/-- First byte of slot `k` of an area. -/
def slotAt (area k : Nat) : Nat := 0xC10000 + 0x800000 * area + 32 * k

abbrev jMarker : Nat := 0x4B4D4F43

/-- Bytes 0 to 27 of a record. -/
def JRec.body (r : JRec) (seq : Nat) : List Byte :=
  let b := leBytes 4 seq ++ [BitVec.ofNat 8 r.type, BitVec.ofNat 8 r.flags] ++ leBytes 2 r.key ++
    (List.range 16).map fun i => r.data.getD i 0
  b ++ leBytes 4 (crc32c b)

/-- Records written whole into consecutive slots of an area, with rising SEQ (R572). -/
def writeRecs (m : Mem) (area k seq : Nat) (rs : List JRec) : Mem :=
  rs.zipIdx.foldl (fun m x =>
    progBytes m (slotAt area (k + x.2)) (x.1.body ((seq + x.2) % 2 ^ 32) ++ leBytes 4 jMarker)) m

/-- The record in 32 bytes, with its SEQ, if marker and CRC are correct. -/
def jrecOf (b : List Byte) : Option (Nat × JRec) :=
  if u32 b 28 = jMarker && u32 b 24 = crc32c (b.take 24) then
    some (u32 b 0, ⟨u8 b 4, u8 b 5, u16 b 6, bslice b 8 16⟩)
  else none

/-- The slots of an area that are listed in the flash, up to its frontier (R579). -/
def usedSlots (m : Mem) (area : Nat) : Nat :=
  m.foldl (fun n x => if slotAt area 0 ≤ x.1 && x.1 < slotAt area 262144 then max n ((x.1 - slotAt area 0) / 32 + 1) else n) 0

/-- The committed records of an area, with slot and SEQ, oldest first (R571, R579). -/
def committed (m : Mem) (area : Nat) : List (Nat × Nat × JRec) :=
  ((List.range (usedSlots m area)).foldl (fun (a : List (Nat × Nat × JRec)) k =>
    match jrecOf (cellarBytes m (slotAt area k) 32) with
    | none => a
    | some (q, r) =>
      if k = 0 || (match a with | (_, q', _) :: _ => q = (q' + 1) % 2 ^ 32 | [] => false) then (k, q, r) :: a else a)
    []).reverse

/-- The committed groups, oldest first (R572, R579): consecutive slots of one key up to a record without MORE. -/
def groupsOf (l : List (Nat × Nat × JRec)) : List (List JRec) :=
  (l.foldl (fun (a : List (List JRec) × List JRec × Nat) x =>
    let r := x.2.2
    let held := match a.2.1 with
      | h :: _ => if x.1 = a.2.2 + 1 && h.type = r.type && h.key = r.key then a.2.1 else []
      | [] => []
    if r.flags.testBit 0 then (a.1, r :: held, x.1) else ((r :: held).reverse :: a.1, [], x.1)) ([], [], 0)).1.reverse

/-- The key of a group: TYPE and KEY (R573). -/
def groupKey (g : List JRec) : Nat × Nat := match g with | r :: _ => (r.type, r.key) | [] => (0, 0)
/-- The group deletes its key (R571). -/
def groupDel (g : List JRec) : Bool := g.any fun r => r.flags.testBit 1

/-- Types that the engine writes for itself (R573). -/
def engineType (t : Nat) : Bool := t = 1 || t = 3 || t = 4
/-- Types that the Hall firmware writes (R573). -/
def fwType (t : Nat) : Bool := t = 2 || (5 ≤ t && t ≤ 8) || (0x40 ≤ t && t ≤ 0x7F)

/-- The newest group of every key, oldest first. -/
def newest (gs : List (List JRec)) : List (List JRec) :=
  gs.foldl (fun a g => a.filter (fun h => groupKey h != groupKey g) ++ [g]) []

/-- The checkpoint's content (R576, step 2): the live set. -/
def liveSet (gs : List (List JRec)) : List (List JRec) :=
  (newest gs).filter fun g => !groupDel g && !engineType (groupKey g).1

/-! ### The engine -/

/-- The current area, if the Journal is not empty (R575). -/
def currentArea (m : Mem) : Option (Nat × List Byte) :=
  let area (j : Nat) : Option (List Byte) :=
    match jrecOf (cellarBytes m (slotAt j 0) 32) with
    | some (_, r) => if r.type = 1 then some r.data else none
    | none => none
  match area 0, area 1 with
  | some x, some y => if 0 < sgn32 ((u32 y 0 + 2 ^ 32 - u32 x 0) % 2 ^ 32) then some (1, y) else some (0, x)
  | some x, none => some (0, x)
  | none, some y => some (1, y)
  | none, none => none

/-- The engine takes up the Journal (R575, R579): area, frontier, last SEQ, EPOCH and ERASES in its registers. -/
def State.jnlOpen (s : State) : State :=
  match currentArea s.cellar with
  | none => ((s.on JNL_STAT_EMPTY).off JNL_STAT_USED).off JNL_STAT_AREA
  | some (j, d) =>
    let s := ((s.off JNL_STAT_EMPTY).put JNL_STAT_AREA j).put JNL_STAT_USED (usedSlots s.cellar j)
    let s := s.put JNL_SEQ_SEQ (match (committed s.cellar j).getLast? with | some (_, q, _) => q | none => 0)
    ((s.put JNL_EPOCH_EPOCH (u32 d 0)).put JNL_WEAR0_ERASES (u32 d 8)).put JNL_WEAR1_ERASES (u32 d 12)

def State.jArea (s : State) : Nat := s.fld JNL_STAT_AREA
def State.jUsed (s : State) : Nat := s.fld JNL_STAT_USED

/-- The Journal's content: the committed groups of the current area. -/
def State.jGroups (s : State) : List (List JRec) :=
  if s.bit JNL_STAT_EMPTY then [] else groupsOf (committed s.cellar s.jArea)

/-- The newest group of a key, unless it deletes the key (log 90). -/
def State.jFind (s : State) (type key : Nat) : Option (List JRec) :=
  match (s.jGroups.reverse).find? fun g => groupKey g = (type, key) with
  | some g => if groupDel g then none else some g
  | none => none

/-- Write records whole into the slots from the frontier on, and commit them (R572). -/
def State.jWrite (s : State) (rs : List JRec) : State :=
  let q := s.fld JNL_SEQ_SEQ
  let n := s.jUsed + rs.length
  let s := { s with cellar := writeRecs s.cellar s.jArea s.jUsed (q + 1) rs }
  (s.put JNL_SEQ_SEQ ((q + rs.length) % 2 ^ 32)).put JNL_STAT_USED n

/-- An AREA record (R573). -/
def areaRec (area epoch ckpt e0 e1 : Nat) : JRec :=
  ⟨1, 0, area, leBytes 4 epoch ++ leBytes 4 ckpt ++ leBytes 4 e0 ++ leBytes 4 e1⟩

/-- The first append to an empty Journal (R575): area 0 is erased and its AREA record written; its SEQ is free (R571). -/
def State.jFirst (s : State) : State :=
  if s.bit JNL_STAT_EMPTY then
    let f := s.free?
    let s := { f.2 with cellar := eraseRange f.2.cellar (slotAt 0 0) 0x800000 }
    let s := (((s.off JNL_STAT_EMPTY).off JNL_STAT_AREA).off JNL_STAT_USED).put JNL_SEQ_SEQ f.1.toNat
    let s := ((s.off JNL_EPOCH_EPOCH).off JNL_WEAR0_ERASES).off JNL_WEAR1_ERASES
    s.jWrite [areaRec 0 0 0 0 0]
  else s

/-- Records of the Hall firmware since the last IMAGE_END, or since the AREA record and its checkpoint (R578). -/
def State.sinceImage (s : State) : Nat :=
  (committed s.cellar s.jArea).foldl (fun n x =>
    let r := x.2.2
    if r.type = 1 then 0
    else if r.type = 4 then 0
    else if r.type = 3 then n
    else if x.1 ≤ (match (committed s.cellar s.jArea) with | (_, _, a) :: _ => u32 a.data 4 | [] => 0) then n else n + 1) 0

/-- The value in effect of a Settings entry: its field, or what the Hall firmware holds. -/
def State.settingNow (s : State) (e : SettingRec) : Word :=
  if e.target = 0 then s.fwSet.get e.id
  else match locate e.target with
    | some l => BitVec.ofNat 32 (((s.view l).extractLsb' e.lsb e.width).toNat)
    | none => 0

/-- The data of a SETTING record (R573). -/
def settingData (schema v tb : Nat) : List Byte := leBytes 2 schema ++ leBytes 2 0 ++ leBytes 4 v ++ leBytes 8 tb

/-- The SETTING record of an entry in an image (R578): its newest value; an entry without a record has the value in
effect (log 53). -/
def State.jSetting (s : State) (e : SettingRec) : JRec :=
  match s.jFind 2 e.id with
  | some (r :: _) => r
  | _ => ⟨2, 0, e.id, settingData s.pl.schema (s.settingNow e).toNat s.tb⟩

/-- A settings image (R578): every JOURNALED entry between IMAGE_BEGIN and IMAGE_END. -/
def State.jImage (s : State) : List JRec :=
  let es := s.pl.settings.filter (·.flags.testBit 0)
  let c := leBytes 2 es.length
  [⟨3, 0, 0, c⟩] ++ es.map s.jSetting ++ [⟨4, 0, 0, c⟩]

/-- The records of a settings image still to be written. -/
def State.setImage (s : State) (rs : List JRec) : State :=
  { (s.put JNL_STAT_IMAGE (!rs.isEmpty).toNat) with jnl := { s.jnl with image := rs } }

/-- A compaction is due at 196,608 used slots (R576); after a reset the next append finds it due again (R582). -/
def State.jDue (s : State) : State :=
  if 196608 ≤ s.jUsed && !s.bit JNL_STAT_COMPACTING then { s with jnl := { s.jnl with due := true } } else s

/-- The next page of a settings image (R578), with the values that are newest now; none during an entry sequence (R86,
step 2). An image that no longer fits into the area ends. -/
def State.jPage (s : State) : State :=
  if s.jnl.image.isEmpty || s.bit PWR_STAT_PENDING then s
  else
    let n := 8 - s.jUsed % 8
    let rs := (s.jnl.image.take n).map fun r =>
      if r.type = 2 then (match s.pl.settings.find? (·.id = r.key) with | some e => s.jSetting e | none => r) else r
    if 262144 < s.jUsed + rs.length then s.setImage []
    else ((s.jWrite rs).setImage (s.jnl.image.drop n)).jDue

/-- The engine writes an image page where no group waits (R578): one page in a tick (log 118). -/
def State.jnlTick (s : State) : State :=
  if s.jnl.cmd.isNone && s.bit JNL_CTRL_EN && s.bit CEL_STAT_READY then s.jPage else s

/-- A group is committed (R574); a page of a running image follows it, or the image that it makes due starts (R578). -/
def State.jCommit (s : State) (g : List JRec) : State :=
  let s := (s.jFirst.jWrite g).jDue
  if !s.jnl.image.isEmpty then s.jPage
  else if !s.bit PWR_STAT_PENDING && 128 ≤ s.sinceImage && s.jUsed + s.jImage.length ≤ 262144 then s.setImage s.jImage
  else s

/-- RESULT and DONE of a command (R574). -/
def State.jResult (s : State) (code : Nat) : State := (s.put JNL_RESULT_RESULT code).on JNL_RESULT_DONE

/-- A group finds no room (R577): a key beyond the live set's 8,192 records, or the current area full. -/
def State.jFull (s : State) (g : List JRec) : Bool :=
  let live := liveSet s.jGroups
  let n := ((live.filter fun h => groupKey h != groupKey g).map List.length).sum
  (!groupDel g && live.all (fun h => groupKey h != groupKey g) && 8192 < n + g.length) ||
  (!s.bit JNL_STAT_EMPTY && 262144 < s.jUsed + g.length)

/-- The refusal of an APPEND, 0 for none (R573, R574, R577, R582) (log 121). -/
def State.jRefusal (s : State) (r : JRec) : Nat :=
  let held := s.jnl.group
  let g := held ++ [r]
  if s.jnl.cmd.isSome then 1
  else if !(s.bit JNL_CTRL_EN && s.bit CEL_STAT_READY) then 7
  else if s.bit PWR_STAT_PENDING then 6
  else if !fwType r.type then 2
  else if 4 ≤ held.length || (match held with | h :: _ => h.type != r.type || h.key != r.key | [] => false) then 3
  else if !r.flags.testBit 0 && s.jFull g then 4
  else 0

/-- An APPEND (R574). A GROUP refusal drops the held records (log 53). -/
def State.jAppend (s : State) (r : JRec) : State :=
  let code := s.jRefusal r
  if code != 0 then
    let s := s.jResult code
    if code = 3 then { s with jnl := { s.jnl with group := [] } } else s
  else if r.flags.testBit 0 then { (s.jResult 0) with jnl := { s.jnl with group := s.jnl.group ++ [r] } }
  else { (s.on JNL_RESULT_BUSY) with jnl := { s.jnl with group := [], cmd := some (s.jnl.group ++ [r]) } }

/-- The record of the APPEND window. -/
def State.jWin (s : State) : JRec :=
  let w := (s.regs.get 0x73014).toNat
  ⟨w % 256, w / 256 % 256, w / 65536, (List.range 4).flatMap fun i => wordBytes (s.regs.get (0x73018 + 4 * i))⟩

/-- A group whose writing fails or is cut short after `n` complete page programs: bodies first, then markers (R572). The
slot of the failing record is torn, and the next append uses the slot after it. -/
def State.jTear (s : State) (g : List JRec) (n : Nat) : State :=
  let s := s.jFirst
  let k := g.length
  let base := s.jUsed
  let q0 := s.fld JNL_SEQ_SEQ
  let at' (i : Nat) : Nat := slotAt s.jArea (base + i)
  let body (i : Nat) : List Byte := match g[i]? with | some r => r.body ((q0 + 1 + i) % 2 ^ 32) | none => []
  let s := (List.range (min n k)).foldl (fun s i => { s with cellar := progBytes s.cellar (at' i) (body i) }) s
  if n < k then (s.progCut (at' n) (body n)).put JNL_STAT_USED (base + n + 1)
  else
    let done := min (n - k) (k - 1)
    let s := (List.range done).foldl (fun s i =>
      { s with cellar := progBytes s.cellar (at' i + 28) (leBytes 4 jMarker) }) s
    let f := s.freeBytes 4
    let m := ((leBytes 4 jMarker).zip f.1).map fun x => x.1 ||| x.2
    let s := if m = leBytes 4 jMarker then f.2 else { f.2 with cellar := progBytes f.2.cellar (at' done + 28) m }
    (s.put JNL_SEQ_SEQ ((q0 + done) % 2 ^ 32)).put JNL_STAT_USED (base + k)

/-- A chip reset while a group is being written or an area is being erased (R579, R582): how far each has come is
free. -/
def State.jCut (s : State) : State :=
  let s := if s.bit CEL_STAT_ERASING then s.eraseCut (slotAt (1 - s.jArea) 0) 0x800000 else s
  match s.jnl.cmd with
  | none => s
  | some g =>
    let f := s.free?
    f.2.jTear g (f.1.toNat % (2 * g.length))

/-- A compaction starts (R576, step 1): the other area is being erased. -/
def State.jErase (s : State) : State :=
  { ((s.on JNL_STAT_COMPACTING).on CEL_STAT_ERASING) with jnl := { s.jnl with due := false } }

/-- The erase has ended, and the checkpoint is written from slot 1 of the other area on (R576, step 2); the SEQ after the
last one is left for slot 0. -/
def State.jCheckpoint (s : State) : State :=
  let j := 1 - s.jArea
  let q := s.fld JNL_SEQ_SEQ
  let rs := (liveSet s.jGroups).flatten
  { (s.off CEL_STAT_ERASING) with
    cellar := writeRecs (eraseRange s.cellar (slotAt j 0) 0x800000) j 1 (q + 2) rs
    jnl := { s.jnl with ckpt := some ⟨rs.length, s.jUsed, q⟩ } }

/-- The records committed since the checkpoint follow it, slot 0 gets its AREA record, and the other area becomes current
(R576, steps 3 and 4). -/
def State.jSwitch (s : State) (c : Ckpt) : State :=
  let j := 1 - s.jArea
  let rs := ((committed s.cellar s.jArea).filter fun x => c.start ≤ x.1).map fun x => x.2.2
  let e0 := s.fld JNL_WEAR0_ERASES + (if j = 0 then 1 else 0)
  let e1 := s.fld JNL_WEAR1_ERASES + (if j = 1 then 1 else 0)
  let epoch := (s.fld JNL_EPOCH_EPOCH + 1) % 2 ^ 32
  let m := writeRecs s.cellar j (1 + c.count) (c.seq + 2 + c.count) rs
  let s := { (s.off JNL_STAT_COMPACTING) with
    cellar := writeRecs m j 0 (c.seq + 1) [areaRec j epoch c.count e0 e1]
    jnl := { s.jnl with ckpt := none } }
  let s := (s.put JNL_STAT_AREA j).put JNL_STAT_USED (1 + c.count + rs.length)
  let s := s.put JNL_SEQ_SEQ ((c.seq + 1 + c.count + rs.length) % 2 ^ 32)
  ((s.put JNL_EPOCH_EPOCH epoch).put JNL_WEAR0_ERASES e0).put JNL_WEAR1_ERASES e1

/-- The stages of a compaction (R576) (log 118): 0 its start, 1 the end of the erase, 2 the AREA record, with appends
held. -/
def State.jCompact (s : State) (stage : Fin 3) : State :=
  match stage with
  | 0 => if s.jnl.due && !s.bit JNL_STAT_COMPACTING && !s.bit JNL_STAT_EMPTY then s.jErase else s
  | 1 => if s.bit CEL_STAT_ERASING then s.jCheckpoint else s
  | 2 => match s.jnl.ckpt with
    | some c => if s.jnl.cmd.isNone then s.jSwitch c else s
    | none => s

/-! ### The boot record (R531, R570) -/

/-- A boot record, without MAGIC and CRC. -/
structure BootRec where
  seq : Nat
  fwSlot : Nat
  planSlot : Nat
  trial : Nat
  left : Nat
deriving DecidableEq, Repr

def BootRec.bytes (r : BootRec) : List Byte :=
  let b := leBytes 4 0x44524342 ++ leBytes 4 r.seq ++ (leBytes 1 r.fwSlot ++ leBytes 1 r.planSlot ++ leBytes 1 r.trial ++
    leBytes 1 r.left) ++ List.replicate 48 0
  b ++ leBytes 4 (crc32c b)

/-- Offset of a copy. -/
def brecAt (c : Nat) : Nat := 0x8000 * c

/-- A valid copy (R531). -/
def brecOf (b : List Byte) : Option BootRec :=
  if u32 b 0 = 0x44524342 && u32 b 60 = crc32c (b.take 60) && (bslice b 12 48).all (· = 0) then
    some ⟨u32 b 4, u8 b 8, u8 b 9, u8 b 10, u8 b 11⟩
  else none

/-- The copy that the boot ROM uses and its record (R531, R539). -/
def brecUsed (m : Mem) : Option (Nat × BootRec) :=
  match brecOf (cellarBytes m 0 64), brecOf (cellarBytes m 0x8000 64) with
  | some x, some y => if 0 < sgn32 ((y.seq + 2 ^ 32 - x.seq) % 2 ^ 32) then some (1, y) else some (0, x)
  | some x, none => some (0, x)
  | none, some y => some (1, y)
  | none, none => none

/-- Write a record into a copy after erasing its sector. -/
def brecWrite (m : Mem) (c : Nat) (r : BootRec) : Mem := progBytes (eraseRange m (brecAt c) 4096) (brecAt c) r.bytes

/-- SEQ of the copy in use; where none is valid, BOOT_SEQ. -/
def State.brecSeq (s : State) : Nat :=
  match brecOf (cellarBytes s.cellar (brecAt (s.fld CEL_STAT_BREC_COPY)) 64) with
  | some r => r.seq
  | none => s.fld BOOT_SEQ_SEQ

/-- The boot record writer (R570): into the copy not in use; a failure leaves that copy's 64 bytes free. -/
def State.writeBrec (s : State) (fw plan trial left : Nat) (ok : Bool) : State :=
  let c := 1 - s.fld CEL_STAT_BREC_COPY
  let r : BootRec := ⟨(s.brecSeq + 1) % 2 ^ 32, fw, plan, trial, left⟩
  if ok then { (s.put CEL_STAT_BREC_COPY c) with cellar := brecWrite s.cellar c r }
  else ({ s with cellar := eraseRange s.cellar (brecAt c) 4096 }).progCut (brecAt c) r.bytes

end Sys2Proof.Machine
end

