-- ==== Sys2Proof/Machine/ResetOps.lean ====
section
/-! DEFINITION. Machine/ResetOps.lean: what a reset keeps and what it rebuilds (02_clocks_reset_states.md, R73 to R78,
R95). -/

namespace Sys2Proof.Machine

/-- The registers of the always-on domain: CLK_CTRL, WAKE_EN, WAKE_CAUSE, WAKE_ALARM, RESET_CAUSE, RC_INC (R78). -/
def aonRegs : List Nat := [0x084, 0x090, 0x094, 0x098, 0x09C, 0x118]

/-- Fields that a reset of the main domain leaves: the always-on part of CLK_STAT, and the bits that show the level of a
ball, which no reset changes (log 54). -/
def keptFields : List Field :=
  [CLK_STAT_SLOW_SRC, CLK_STAT_SLOW_XTAL_OK, CLK_STAT_RC_CAL_VALID, KEY_STAT_KEY_IN, HL_STAT_CTS,
   HL_STAT_CTS.shift 0x100, FIRE_CFG_FIRE_IN, ATTIC_STAT_VPP_OK]

/-- Ball levels alone. -/
def pinFields : List Field :=
  [KEY_STAT_KEY_IN, HL_STAT_CTS, HL_STAT_CTS.shift 0x100, FIRE_CFG_FIRE_IN, ATTIC_STAT_VPP_OK]

/-- A Landing after a reset: the seating balls read as before. -/
def Landing.afterReset (now : Nat) (l : Landing) : Landing :=
  ((({ Landing.reset with offAt := some now }).put HS_STAT_SEAT1 (l.fld HS_STAT_SEAT1))).put HS_STAT_SEAT2
    (l.fld HS_STAT_SEAT2)

/-- The main domain as a reset leaves it; fuses, flash, queue, the model's clock and counter, ball
levels, and a return that is still to be reported (R561; log 67) stay. -/
def State.mainReset (s : State) : State :=
  let s := s.fuseCut.jCut
  let z := State.reset
  let regs := aonRegs.foldl (fun m a => m.set a (s.regs.get a)) z.regs
  let regs := keptFields.foldl (fun m f => m.put f (s.regs.fld f)) regs
  { z with
    now := s.now, freeCtr := s.freeCtr, regs := regs
    lands := Vector.ofFn fun b => (s.land b).afterReset s.now
    clk := { Clk.reset with slow := s.clk.slow, acc := s.clk.acc, retTb := s.clk.retTb, held := s.clk.held,
                            calAt := s.clk.calAt, cold := s.clk.cold, wakeIn := s.clk.wakeIn }
    chipB := s.chipB
    attic := { s.attic with shadow := [], cmd := none, verify := none }
    cellar := s.cellar, matchers := s.matchers, snap := { Snap.reset with low := s.snap.low }
    tws := s.tws.map fun t => { TwPort.reset with held := t.held }
    pair := { Pair.reset with hbAt := s.pair.hbAt }
    porch := { Porch.reset with reverted := s.porch.reverted }
    pending := s.pending }

/-- A chip reset starts (R73, R76, R78): its bit in RESET_CAUSE, the outputs high impedance; a two-wire clock stays held
through the reset of its own wake alone (R469, R476). HALT_ON_BOOT keeps its value
with cause DEBUG (20_debug.md). -/
def State.chipReset (s : State) (cause : Field) : State :=
  let hob := s.fld DBG_CTRL_HALT_ON_BOOT
  let s := s.mainReset.on cause
  let s := if cause = RESET_CAUSE_DEBUG then s.put DBG_CTRL_HALT_ON_BOOT hob else s
  if cause = RESET_CAUSE_STANDBY_EXIT then s
  else { s with tws := s.tws.map fun t => { t with held := false } }

/-- An always-on reset (R73): the whole device; AON_POR alone reads 1. -/
def State.aonReset (s : State) : State :=
  let m := s.mainReset
  let regs := pinFields.foldl (fun r f => r.put f (m.regs.fld f)) State.reset.regs
  { m with regs := regs, clk := { Clk.reset with held := s.clk.held }, matchers := [], tws := List.replicate 4 .reset,
           pair := .reset }

end Sys2Proof.Machine
end

