-- ==== Sys2Proof/Machine/Snapshot.lean ====
section
/-! DEFINITION. Machine/Snapshot.lean: captures and their triggers (12_timers_snapshot.md, R427 to R430). -/

namespace Sys2Proof.Machine

/-- R430: a trigger captures nothing while FREEZE is 1 and for 10 µs after a capture. A trigger that meets a capture under
way is refused as well (log 49). -/
def State.snapBars (s : State) : Bool :=
  s.bit SNAP_CTRL_FREEZE || (match s.snap.capAt with | some t => s.now < t + 10 | none => false)

/-- A trigger with its code for SRC (R429, R430). -/
def State.snapTrigger (s : State) (src : Nat) : State :=
  if s.snapBars || s.snap.cap.isSome then s.on SNAP_CTRL_MISSED
  else { s with snap := { s.snap with cap := some src } }

/-- SNAP_IO reads low (R429). -/
def State.snapIoLow (s : State) : Bool := s.snap.low || s.snap.drive.isSome

/-- A write of 1 to SNAP_CTRL.TRIG (R429): with DRIVE = 1 and the ball high it drives SNAP_IO low, and the recognition of
that level is the trigger, judged at the capture; else it triggers directly. -/
def State.snapTrig (s : State) : State :=
  if s.bit SNAP_CTRL_DRIVE && !s.snapIoLow then
    (if s.snap.cap.isSome then { (s.on SNAP_CTRL_MISSED) with snap := { s.snap with drive := some s.now } }
     else { s with snap := { s.snap with drive := some s.now, cap := some 0 } })
  else s.snapTrigger 0

/-- Copy views into the words of a bank: pairs of target and source offset. -/
def copyViews (view : Nat → Word) (cs : List (Nat × Nat)) (m : Regs) : Regs :=
  cs.foldl (fun m c => m.set c.1 (view c.2)) m

/-- Shadow and source offsets of a Room (R428). -/
def roomShadows : List (Nat × Nat) :=
  [(0x3DC, 0x008), (0x3E0, ADC_VBUS_AVG.off), (0x3E4, ADC_I_AVG.off), (0x3E8, CON_VI_MV.off),
   (0x3EC, GRANT_GRANT_W.off), (0x3F0, 0x3C0), (0x3F4, 0x3C4), (0x3F8, 0x3C8), (0x3FC, 0x3CC)]

/-- Shadow and source offsets of a Landing. -/
def landShadows : List (Nat × Nat) :=
  [(0x184, HS_STAT_STATE.off), (0x188, HS_MEAS_VOUT.off), (0x18C, HS_IMEAS_CUR.off), (0x190, 0xCC),
   (0x194, BUD_BAL_P_SLOT.off)]

/-- Shadow and source offsets of a Wing. -/
def wingShadows : List (Nat × Nat) := [(0x184, 0xC0), (0x188, 0xCC)]

/-- Shadow and source addresses of the Hall. -/
def hallShadows : List (Nat × Nat) :=
  [(0x150, HALL_MODE_MODE.off), (0x154, 0x24C), (0x158, PAN_MEAS_VBAT.off), (0x15C, PAN_IMEAS_IB.off),
   (0x160, CHG_STAT_STATE.off), (0x164, HEARTH_DIE_TJ.off)]

/-- A capture (R427): every shadow from its source as it stands, the epoch and the time base. -/
def State.capture (s : State) (src : Nat) : State :=
  let e := BitVec.ofNat 32 (s.fld SNAP_EPOCH_EPOCH + 1)
  { s with
    rooms := Vector.ofFn fun p =>
      let r := s.room p
      if s.pl.whole p.val then { r with regs := (copyViews (s.roomView p) roomShadows r.regs).set 0x3D8 e } else r
    lands := Vector.ofFn fun b =>
      let l := s.land b
      if (s.pl.slot b.val).present then { l with regs := (copyViews (s.landView b) landShadows l.regs).set 0x180 e } else l
    wings := Vector.ofFn fun w =>
      let x := s.wing w
      { x with regs := (copyViews (s.wingView w) wingShadows x.regs).set 0x180 e }
    regs := Regs.put ((((copyViews s.hallView hallShadows s.regs).set 0x144 e).set 0x148 (BitVec.ofNat 32 s.tb)).set 0x14C
      (BitVec.ofNat 32 (s.tb / 2 ^ 32))) SNAP_CTRL_SRC src
    snap := { s.snap with cap := none, capAt := some s.now } }

/-- SNAP_TRIG (R429). -/
def execSnapTrig (s : State) : Out := act s s.clocked fun s => s.snapTrig

/-- SNAP_IO_EDGE (R429): another drives the ball low, or no longer; a fall of the ball triggers while IN_EN is 1. -/
def execSnapIoEdge (low : Bool) (s : State) : Out :=
  act s s.clocked fun s =>
    let edge := low && !s.snapIoLow
    let s := { s with snap := { s.snap with low := low } }
    if edge && s.bit SNAP_CTRL_IN_EN then s.snapTrigger 1 else s

/-- SNAP_IO_RELEASE (R429): 1 µs of drive. -/
def execSnapIoRelease (s : State) : Out :=
  act s (s.clocked && due s.now s.snap.drive 1) fun s => { s with snap := { s.snap with drive := none } }

end Sys2Proof.Machine
end

