-- ==== Sys2Proof/Machine/DebugWrites.lean ====
section
/-! DEFINITION. Machine/DebugWrites.lean: what a write of the debug control registers does (20_debug.md, R616 to R623). -/

namespace Sys2Proof.Machine

/-- A write of one HALT bit (R616): 1 asks the core to halt, 0 resumes a halted core. -/
def State.writeHalt (s : State) (c : CoreId) (b : Bool) : State :=
  if b then s.setHaltBit c true else if s.haltBit c then (s.setHaltBit c false).resumeCore c else s

/-- Writes of DBG_HALT0 and DBG_HALT1. -/
def State.writeHalt0 (s : State) (v : Word) : State :=
  (List.finRange 32).foldl (fun s i => s.writeHalt (.room ⟨i.val, by omega⟩) (v.getLsbD i.val)) s
def State.writeHalt1 (s : State) (v : Word) : State :=
  ((List.finRange 16).foldl (fun s i => s.writeHalt (.room ⟨32 + i.val, by omega⟩) (v.getLsbD i.val)) s).writeHalt .hall
    (v.getLsbD 16)

/-- A write of DBG_STEP (R618): a core that is not halted, or a number above 48, sets ERR. -/
def State.stepCore (s : State) (n : Nat) : State :=
  if n ≤ 48 && (s.core (coreNum n)).halted then s.onCoreOf (coreNum n) fun k => { k with stepping := true }
  else { s with dbg := { s.dbg with err := true } }

/-- DBG_CREG names a register of a halted core (R621). -/
def State.cregOk (s : State) : Bool := (s.core (coreNum (s.fld DBG_CSEL_CORE))).halted && s.fld DBG_CSEL_REG ≤ 19

/-- A write of EVC, by MTS or DBG_CREG: RPT alone (R385). -/
def Core.writeEvc (k : Core) (v : Word) : Core := { k with evRpt := CORE_EVC_RPT.of v = 1 }

/-- A write of DBG_CREG (R621); an instruction address keeps word alignment (log 102). -/
def Core.writeCreg (n : Nat) (v : Word) (k : Core) : Core :=
  if n = 0 then k
  else if n < 16 then { k with g := setAt k.g n v }
  else if n = 16 then { k with pc := v &&& ~~~3#32 }
  else if n = 17 then { k with lc := v.toNat % 65536 }
  else if n = 18 then { k with epc := v &&& ~~~3#32 }
  else k.writeEvc v

/-- A write in the Debug control region by the debug port. -/
def State.writeDbg (s : State) (o : Nat) (v : Word) : State :=
  if o = 0x08 then s.writeHalt0 v
  else if o = 0x0C then s.writeHalt1 v
  else if o = 0x10 then s.stepCore (DBG_STEP_CORE.of v)
  else if o = 0x18 then
    (if s.cregOk then s.onCoreOf (coreNum (s.fld DBG_CSEL_CORE)) fun k => k.writeCreg (s.fld DBG_CSEL_REG) v
     else s.accessErr .dbg)
  else if o = 0x04 then
    let s := s.writeReg (.hall 0x74004) v
    let s := if DBG_CTRL_SNAP.of v = 1 then s.snapTrigger 2 else s
    if DBG_CTRL_RESET_KEY.of v = 0x5A then s.chipReset RESET_CAUSE_DEBUG else s
  else s.writeReg (.hall (0x74000 + o)) v

end Sys2Proof.Machine
end

