-- ==== Sys2Proof/Machine/ImageOps.lean ====
section
/-! DEFINITION. Machine/ImageOps.lean: images in the Cellar: header, stored body, and the checks of boot ROM and Porch
(16_attic_boot.md, R528 to R534; 17_field_update.md, R552). Kinds are 1 firmware and 2 Plan; a header is its 512 bytes. -/

namespace Sys2Proof.Machine

/-- First byte and size of an image slot (R569). -/
def slotBase (kind slot : Nat) : Nat :=
  if kind = 1 then 0x410000 + 0x400000 * slot else 0x10000 + 0x200000 * slot
def slotSize (kind : Nat) : Nat := if kind = 1 then 0x400000 else 0x200000

/-! ### The header (R528) -/

def hdrType (h : List Byte) : Nat := u16 h 6
def hdrVersion (h : List Byte) : Nat := u32 h 0xC
def hdrCounter (h : List Byte) : Nat := u16 h 0x10
def hdrKey (h : List Byte) : Nat := u8 h 0x12
def hdrEnc (h : List Byte) : Bool := (u8 h 0x13).testBit 0
def hdrSecret (h : List Byte) : Nat := u8 h 0x13 / 2 % 2
def hdrLen (h : List Byte) : Nat := u32 h 0x14
def hdrDigest (h : List Byte) : List Byte := bslice h 0x20 48

/-- Number of chunks (R544), and the plain and stored length of chunk `c` (R529). -/
def chunks (h : List Byte) : Nat := (hdrLen h + 4095) / 4096
def plainLen (h : List Byte) (c : Nat) : Nat := min 4096 (hdrLen h - 4096 * c)
def storedLen (h : List Byte) (c : Nat) : Nat := plainLen h c + if hdrEnc h then 16 else 0
/-- Offset of a stored chunk in its slot (R548). -/
def chunkOff (h : List Byte) (c : Nat) : Nat := 512 + (if hdrEnc h then 4112 else 4096) * c
/-- Length of the stored body. -/
def bodyStored (h : List Byte) : Nat := hdrLen h + if hdrEnc h then 16 * chunks h else 0

/-- The digest of key slot `k` (R513). -/
def Attic.keyDigest (x : Attic) (k : Nat) : List Byte :=
  (List.range 12).flatMap fun i => (le32 (x.shadow.get (20 + 12 * k + i)).toNat).reverse

/-- Check 2 to 9 of the table "Header checks" for a slot of a kind, in order: the code of the first that fails, 0 when all
pass (R533). -/
def State.headerCode (s : State) (kind : Nat) (h : List Byte) : Nat :=
  let cfg := s.attic.shadow.get 16
  let len := hdrLen h
  let fits := len % 4 = 0 && (if kind = 1 then 32 ≤ len && len ≤ 2097152 else 64 ≤ len && len ≤ 524288) &&
    512 + bodyStored h ≤ slotSize kind
  if !(u32 h 0 = 0x45474D49 && u16 h 4 = 1 && u8 h 0x13 < 4 && (bslice h 0xB0 240).all (· = 0)) then 2
  else if !(hdrType h = kind && u32 h 8 = 0x4860) then 3
  else if !(hdrKey h < 4 && cfg.getLsbD (4 + hdrKey h) &&
      Config.sha384 (bslice h 0x50 96) = s.attic.keyDigest (hdrKey h)) then 4
  else if hdrKey h < s.attic.ctr 2 then 5
  else if hdrCounter h < s.attic.ctr (kind - 1) then 7
  else if !Config.signatureOk (bslice h 0x50 96) (Config.sha384 (h.take 0x1A0)) (bslice h 0x1A0 96) then 6
  else if !fits then 8
  else if !((hdrEnc h || s.attic.lc != 2) && (!hdrEnc h || cfg.getLsbD (8 + hdrSecret h))) then 9
  else 0

/-! ### The body -/

/-- IV of chunk `c` (R529). -/
def chunkIv (h : List Byte) (c : Nat) : List Byte := bslice h 0x18 8 ++ (le32 c).reverse

/-- The tag of a stored chunk is correct (R529, R552). -/
def State.tagPasses (s : State) (h : List Byte) (c : Nat) (b : List Byte) : Bool :=
  Config.tagOk (s.attic.secret (hdrSecret h)) (chunkIv h c) (h.take 0x50) (b.take (plainLen h c)) (b.drop (plainLen h c))

/-- A stored chunk in the slot. -/
def State.slotChunk (s : State) (kind slot : Nat) (h : List Byte) (c : Nat) : List Byte :=
  cellarBytes s.cellar (slotBase kind slot + chunkOff h c) (storedLen h c)

/-- The header bytes of a slot. -/
def State.slotHeader (s : State) (kind slot : Nat) : List Byte := cellarBytes s.cellar (slotBase kind slot) 512

/-- The plaintext of the body in a slot (R529). -/
def State.slotBody (s : State) (kind slot : Nat) (h : List Byte) : List Byte :=
  (List.range (chunks h)).flatMap fun c =>
    let b := s.slotChunk kind slot h c
    if hdrEnc h then
      Config.plain (s.attic.secret (hdrSecret h)) (chunkIv h c) (h.take 0x50) (b.take (plainLen h c))
    else b

/-- Every tag of the body in a slot is correct. -/
def State.slotTags (s : State) (kind slot : Nat) (h : List Byte) : Bool :=
  !hdrEnc h || (List.range (chunks h)).all fun c => s.tagPasses h c (s.slotChunk kind slot h c)

/-- CODE_LEN, DATA_LEN, ENTRY and EVOFF of a firmware body (R530). -/
def fwCodeLen (b : List Byte) : Nat := u32 b 4
def fwDataLen (b : List Byte) : Nat := u32 b 8
def fwEntry (b : List Byte) : Nat := u32 b 12
def fwEvOff (b : List Byte) : Nat := u32 b 16

/-- The descriptor of a firmware body meets R530. -/
def fwOk (b : List Byte) : Bool :=
  u32 b 0 = 0x57464C47 && within 4 (fwCodeLen b) 262144 && fwCodeLen b % 4 = 0 && fwDataLen b ≤ 131072 &&
  fwDataLen b % 4 = 0 && fwEntry b % 4 = 0 && decide (fwEntry b < fwCodeLen b) && fwEvOff b % 256 = 0 &&
  decide (fwEvOff b < fwCodeLen b) && (bslice b 20 12).all (· = 0) && decide (32 + fwCodeLen b + fwDataLen b ≤ b.length)

/-- The envelope code of a slot (R533, R534): 1 for a Cellar error in the header or, after the header checks, in the
body. -/
def State.imageCode (s : State) (kind slot : Nat) (hdrErr bodyErr : Bool) : Nat :=
  let h := s.slotHeader kind slot
  if hdrErr then 1
  else
    let c := s.headerCode kind h
    if c != 0 then c
    else if bodyErr then 1
    else if !s.slotTags kind slot h then 10
    else if Config.sha384 (s.slotBody kind slot h) != hdrDigest h then 11
    else if kind = 1 && !fwOk (s.slotBody kind slot h) then 12
    else 0

/-! ### Verify mode (R519, R552) -/

/-- A write of 1 to ENG_CTRL.VERIFY: the check of the chunk that PORCH_VSRC names starts. -/
def State.verifyStart (s : State) : State :=
  let s := (s.off ENG_CTRL_DONE).off ENG_CTRL_TAG_OK
  { s with attic := { s.attic with verify := some (s.fld PORCH_VSRC_SRC, s.fld PORCH_VSRC_CHUNK) } }

/-- The check ends, against the header held for the open session. -/
def State.verifyEnd (s : State) (src c : Nat) : State :=
  let b := match s.porch.sess with
    | some x => if src = 0 then s.porch.buf else s.slotChunk x.kind x.slot x.hdr c
    | none => s.porch.buf
  let h := match s.porch.sess with | some x => x.hdr | none => []
  let s := { s with attic := { s.attic with verify := none } }
  (s.on ENG_CTRL_DONE).putB ENG_CTRL_TAG_OK (s.tagPasses h c b)

end Sys2Proof.Machine
end

