-- ==== Sys2Proof/Machine/Journal.lean ====
section
/-! DEFINITION. Machine/Journal.lean: the commands of the Journal engine and the boot record writer
(18_cellar_journal.md). -/

namespace Sys2Proof.Machine

/-- A write of JNL_CMD, which only the Hall core makes (R583). -/
def State.jnlWrite (s : State) (r : Req) (f : State → State) : State :=
  if r = .hall then { (f s) with rerr := false } else s.accessErr r

/-- APPEND (R574). -/
def execAppend (r : Req) (s : State) : Out := act s s.booted fun s => s.jnlWrite r fun s => s.jAppend s.jWin

/-- BOOTREC (R570), with the outcome of the flash write. -/
def State.bootrec (s : State) (ok : Bool) : State :=
  let w := (s.regs.get 0x73014).toNat
  if s.jnl.cmd.isSome then s.jResult 1
  else if !(s.bit JNL_CTRL_EN && s.bit CEL_STAT_READY) then s.jResult 7
  else (s.writeBrec (w % 256) (w / 256 % 256) (w / 65536 % 256) (w / 16777216) ok).jResult (if ok then 0 else 8)

/-- BOOTREC (R570). -/
def execBootrec (r : Req) (ok : Bool) (s : State) : Out := act s s.booted fun s => s.jnlWrite r fun s => s.bootrec ok

/-- GROUP_COMMIT (R572, R574). -/
def execGroupCommit (s : State) : Out :=
  match s.jnl.cmd with
  | none => .next s
  | some g => act s s.booted fun s =>
      let s := s.jCommit g
      let s := { s with jnl := { s.jnl with cmd := none } }
      (s.off JNL_RESULT_BUSY).jResult 0

/-- COMPACTION (R576) by stages: its start, the end of the erase, the switch to the other area. -/
def execCompaction (stage : Fin 3) (s : State) : Out :=
  act s (s.booted && s.bit JNL_CTRL_EN && !s.bit PWR_STAT_PENDING) fun s => s.jCompact stage

/-- CELLAR_TIMEOUT (R568, R582): the page program after `n` complete ones fails; FLASH. -/
def execCellarTimeout (n : Nat) (s : State) : Out :=
  match s.jnl.cmd with
  | none => .next s
  | some g => act s (s.booted && n < 2 * g.length) fun s =>
      let s := s.jTear g n
      let s := { s with jnl := { s.jnl with cmd := none } }
      (s.off JNL_RESULT_BUSY).jResult 5

end Sys2Proof.Machine
end

