-- ==== Sys2Proof/Machine/LinkOps.lean ====
section
/-! DEFINITION. Machine/LinkOps.lean: posting by the Hall firmware and the start of a two-wire controller transaction
(13_host_link.md R448, R451; 14_two_wire.md R474). -/

namespace Sys2Proof.Machine

def State.onLink (s : State) (n : Fin 2) (f : Link → Link) : State :=
  { s with links := s.links.zipIdx.map fun x => if x.2 = n.val then f x.1 else x.1 }

def State.link (s : State) (n : Fin 2) : Link := s.links.getD n.val .reset

/-- A posting by the Hall firmware (R448, R451): WAKE and OVERFLOW are refused with FULL. -/
def firmwarePost (m : Regs) (tb n : Nat) (k : Link) (p : Posting) : Link × Nat :=
  if p.kind = 0x01 || p.kind = 0x0E then (k, 3) else linkPost m tb n k p

/-- Post an event of the Hall firmware on the links of a mask, the results in HL_POST_STAT. -/
def State.fwPost (s : State) (mask : Nat) (p : Posting) : State :=
  (List.finRange 2).foldl (fun s n =>
    if mask.testBit n.val then
      let x := firmwarePost s.regs s.tb n.val (s.link n) p
      (s.onLink n fun _ => x.1).put (if n = 0 then HL_POST_STAT_RESULT0 else HL_POST_STAT_RESULT1) x.2
    else s) s

/-- A write of 1 to HL_POST_HDR.GO (R448): the event that the posting registers hold. DATA of a PAIR event begins with
PAIR_EVENT, whose bits merge (R451) (log 103). -/
def State.postGo (s : State) : State :=
  let kind := s.fld HL_POST_HDR_KIND
  let data := ((List.range 8).flatMap fun i => wordBytes (s.regs.get (0x70204 + 4 * i))).take (s.fld HL_POST_HDR_LEN)
  s.fwPost (s.fld HL_POST_HDR_LINKS)
    ⟨kind, s.fld HL_POST_HDR_SRC, data, if (2 ≤ kind && kind ≤ 6) || kind = 0x0B then 4 else 0⟩

/-- One byte of the CRC-8 with polynomial x⁸ + x² + x + 1 (R465, R609). -/
def crc8Byte (c : BitVec 8) (b : Byte) : BitVec 8 :=
  (List.range 8).foldl (fun x _ => if x.getLsbD 7 then (x <<< 1) ^^^ 7#8 else x <<< 1) (c ^^^ b)

/-- The CRC-8 of a byte string from 0 on: the PEC of a two-wire transaction, the CRC of debug data. -/
def crc8 (b : List Byte) : BitVec 8 := b.foldl crc8Byte 0

/-- TC_DATA0 to TC_DATA7 of a controller as bytes. -/
def State.tcBytes (s : State) (m : Fin 2) : List Byte :=
  (List.range 8).flatMap fun i => wordBytes (s.regs.get (0x71110 + 0x40 * m.val + 4 * i))

/-- The transaction that TC_CMD and TC_DATA describe (R474): with PEC, the bytes written end with the CRC-8 of the
transaction so far (log 155). -/
def State.tcTx (s : State) (m : Fin 2) : TcPort :=
  let f (x : Field) : Nat := s.fld (x.shift (0x40 * m.val))
  let w := f TC_CMD_WLEN
  let r := f TC_CMD_RLEN
  let pec := f TC_CTRL_PEC = 1
  let body := BitVec.ofNat 8 (2 * f TC_CMD_ADDR) :: (s.tcBytes m).take w
  { out := (if w = 0 then [] else [if pec then body ++ [crc8 body] else body]) ++
      (if r = 0 then [] else [[BitVec.ofNat 8 (2 * f TC_CMD_ADDR + 1)]])
    wlen := w, rlen := r, pec := pec }

/-- A write of 1 to TC_CMD.GO (R474): ignored while BUSY is 1 and while the port is not enabled (log 104). -/
def State.tcGo (s : State) (m : Fin 2) : State :=
  let f (x : Field) : Field := x.shift (0x40 * m.val)
  if s.regs.fld (f TC_STAT_BUSY) = 1 || s.regs.fld (f TC_CTRL_EN) = 0 then s
  else (State.on { s with tcs := s.tcs.zipIdx.map fun x => if x.2 = m.val then s.tcTx m else x.1 } (f TC_STAT_BUSY))

end Sys2Proof.Machine
end

