-- ==== Sys2Proof/Machine/Hearth.lean ====
section
/-! DEFINITION. Machine/Hearth.lean: the commands of the Hearth: model updates, board references and the power-balance
check (09_hearth_budget.md). -/

namespace Sys2Proof.Machine

/-- HEARTH_UPDATE (R338, R340 to R343, R347 to R349): every 10 µs each model; `die` is the last measured die power in
mW. -/
def execHearthUpdate (die : Nat) (s : State) : Out :=
  act s (s.booted && s.plan.isSome) fun s =>
    (List.range 57).foldl State.updateModel { s with hearth := { s.hearth with die := die } }

/-- GRACE (R343, R347, R358): the grace timer has ended; a model at TWARN enters CLAMP. -/
def execGrace (m : Fin 57) (s : State) : Out :=
  let x := s.model m.val
  act s (s.booted && s.holdsModel m.val && x.st = 1 && due s.now x.warnAt (s.graceOf m.val)) fun s =>
    match s.modelRec m.val with
    | none => s
    | some r =>
      if 100 * r.ttrip ≤ x.tj then (s.modelTo m.val 3).tripActs m.val
      else if 100 * r.twarn ≤ x.tj then (s.modelTo m.val 2).clampActs m.val
      else s.showModel m.val

/-- ITH_RECOMPUTE (R344): every 100 ms from WARN to the exit from CLAMP. -/
def execIthRecompute (m : Fin 57) (s : State) : Out :=
  let x := s.model m.val
  act s (s.booted && s.holdsModel m.val && (x.st = 1 || x.st = 2) && old s.now x.ithAt 100000) fun s =>
    match s.modelRec m.val with
    | none => s
    | some r =>
      let s := (s.setModel m.val { s.model m.val with ith := s.ithOf m.val r, ithAt := s.now }).showModel m.val
      if x.st = 2 then s.clampActs m.val else s

/-- CLAMP_RELEASE (R345): ITH has exceeded every other limit by 10 % for 1 s. -/
def execClampRelease (m : Fin 57) (s : State) : Out :=
  let x := s.model m.val
  act s (s.booted && s.holdsModel m.val && m.val != 56 && x.st = 2 && s.released m.val && due s.now x.relAt 1000000)
    fun s => (s.modelTo m.val 0).clampActs m.val

/-- DIE_CAP_RELEASE (R349): tj of the die has been below TWARN − HYST for 1 s. -/
def execDieCapRelease (s : State) : Out :=
  let x := s.model 56
  act s (s.booted && x.st != 0 && due s.now x.coolAt 1000000) fun s => (s.modelTo 56 0).enforce

/-- One conversion of TAMB input `n` in mV (R339): 10 mV/°C and 500 mV at 0 °C, valid from 0.10 V to 1.75 V. -/
def State.tambConvert (s : State) (n : Nat) (mv : Nat) : State :=
  let ok := decide (100 ≤ mv) && decide (mv ≤ 1750)
  let t : Int := (mv : Int) - 500
  let h := s.hearth
  let wasBad := h.tambBad.getD n 0
  let good := if wasBad = 3 && ok then h.tambGood.getD n 0 + 1 else 0
  let bad := if wasBad = 3 then (if good = 100 then 0 else 3) else if ok then 0 else wasBad + 1
  let h := { h with tambBad := h.tambBad.set n bad, tambGood := h.tambGood.set n (if bad = 0 then 0 else good)
                    tamb := if ok then h.tamb.set n t else h.tamb }
  let s := { s with hearth := h }
  let s := if wasBad != 3 && bad = 3 then s.on (if n = 0 then HEARTH_EVENT_TAMB0_FAULT else HEARTH_EVENT_TAMB1_FAULT)
    else s
  let s := s.put (if n = 0 then HEARTH_TAMB_T0 else HEARTH_TAMB_T1) (enc16 t)
  s.putB (if n = 0 then HEARTH_STAT_TAMB0_OK else HEARTH_STAT_TAMB1_OK) (ok && bad = 0)

/-- TAMB_CONVERSION (R339, R587): both inputs, in mV, every 1 ms. -/
def execTambConversion (mv0 mv1 : Nat) (s : State) : Out :=
  act s s.booted fun s => (s.tambConvert 0 mv0).tambConvert 1 mv1

/-- The hold of R598 begins on a port; its 10 s count from the next test that passes. -/
def Room.senseHoldOn (e : Env) (r : Room) : Room :=
  (({ r with senseHold := true }).onConv fun c => { c with holdOkAt := none }).refreshIlim e

/-- The hold of R598 begins on the ports of a slot. -/
def State.holdPorts (s : State) (b : Fin 6) : State :=
  let s := (portsOf b).foldl (fun s p =>
    if s.pl.whole p.val then s.onRoomE p Room.senseHoldOn else s) s
  s.onLand b fun l => l.on LAND_SENSE_HOLD

/-- P_exp of R357 in mW, from the ports' window means in mW. -/
def expPower (eff paux : Nat) (ps : List Int) : Int :=
  ps.foldl (fun a p => a + (if 0 < p then roundDiv (100 * p) (max eff 1) else roundDiv (p * eff) 100)) (1000 * paux)

/-- The difference of R357 is a mismatch: above the greater of 5 % and 2 W. -/
def unbalanced (a b : Int) : Bool := max (5 * max a.natAbs b.natAbs) 200000 < 100 * (a - b).natAbs

/-- POWER_BALANCE_CHECK (R357, R589, R599): window means in mW of the slot and of its eight ports. -/
def execPowerBalanceCheck (b : Fin 6) (slot : Int) (ports : List Int) (s : State) : Out :=
  act s (s.slotLive b && (s.land b).st = hOn) fun s =>
    let l := s.land b
    let x := expPower (l.fld BUD_CFG_EFF) (l.fld BUD_CFG_PAUX) ports
    let bad := unbalanced slot x
    let pins := l.fld LAND_SENSE_PORT_PIN = 0 && l.fld LAND_SENSE_SLOT_PIN = 0
    let n := if bad && pins then min (l.balCount + 1) 3 else 0
    let s := s.onLand b fun l =>
      let l := (l.put BUD_BAL_P_SLOT (enc16 (roundDiv slot 1000))).put BUD_BAL_P_EXP (enc16 (roundDiv x 1000))
      { (l.putB (BUD_STAT_BAL_MISMATCH.shift 0xC0) bad) with balCount := n }
    if n = 3 then
      let s := (s.onLand b fun l => { (l.on LAND_FAULT_BALANCE) with balCount := 0 }).holdPorts b
      if s.pairMode then s.handUp b else s
    else s

end Sys2Proof.Machine
end

