-- ==== Sys2Proof/Machine/Slot.lean ====
section
/-! DEFINITION. Machine/Slot.lean: the slot power entry of a Landing (08_slot_hot_swap.md). Commands that judge a
measurement carry the conversion of R309 that they judge. -/

namespace Sys2Proof.Machine

/-- The shunt voltage of a conversion in µV: LSB 150 mV ÷ 2,048 (R309). -/
def curUv (m : SlotMeas) : Int := m.cur.toInt * 150000 / 2048
/-- Vds in µV (R308). -/
def vdsUv (m : SlotMeas) : Int := 20000 * (m.vslotin.toNat : Int) - curUv m - 20000 * (m.vout.toNat : Int)
/-- VSLOTIN and VOUT of a conversion in mV: LSB 20 mV (R309). -/
def vinMv (m : SlotMeas) : Nat := 20 * m.vslotin.toNat
def voutMv (m : SlotMeas) : Nat := 20 * m.vout.toNat

/-- The S_CL filter output is 1: the gate is on, and the current limit acts or the reading lies above the S_CL level (R310,
R314; log 30). -/
def Landing.scl (l : Landing) : Bool :=
  l.powered && (l.fld HS_STAT_LIMIT = 2 || 2 * l.fld HS_THR_CL_EFF < (sgn12 (l.fld HS_IMEAS_CUR)).natAbs)

/-- The state counts for FET_SHORT (R328). -/
def Landing.fetState (l : Landing) : Bool :=
  l.st = hOff || l.st = hUnseated || l.st = hSeating || l.st = hRetry || l.st = hLatched

/-- Record a conversion and what runs from it (R309, R316, R324, R328): HS_MEAS, HS_IMEAS.CUR, GATE_FULL, and the
stamps of the criteria that it starts or ends. -/
def Landing.measure (now : Nat) (m : SlotMeas) (l : Landing) : Landing :=
  let l := ((l.put HS_MEAS_VOUT m.vout.toNat).put HS_MEAS_VSLOTIN m.vslotin.toNat).put HS_IMEAS_CUR m.cur.toNat
  let l := if l.powered then l.putB HS_STAT_GATE_FULL m.full else l
  let keep (t : Option Nat) (c : Bool) : Option Nat := if c then (match t with | some x => some x | none => some now) else none
  { l with vslotin := (vinMv m), vout := (voutMv m)
           goodAt := keep l.goodAt (l.st = hGateUp && m.full && 95 * (vinMv m) ≤ 100 * (voutMv m))
           pgLow := keep l.pgLow (l.st = hOn && l.fld HS_STAT_LIMIT = 0 && 100 * (voutMv m) < 90 * (vinMv m))
           hiAt := keep l.hiAt (l.fetState && 2000 < (voutMv m)) }

/-- Record a conversion of a slot that the Plan marks present. -/
def State.slotMeasure (s : State) (b : Fin 6) (m : SlotMeas) : State :=
  s.onLand b fun l => l.measure s.now m

/-- The measurement path of a slot runs (R309, R334). -/
def State.slotPresent (s : State) (b : Fin 6) : Bool := s.booted && (s.pl.slot b.val).present

/-- A command that carries a conversion: it is recorded, and the effect follows where the slot is live. -/
def slotAct (s : State) (b : Fin 6) (m : SlotMeas) (f : State → State) : Out :=
  act s (s.slotPresent b) fun s =>
    let s := s.slotMeasure b m
    if s.slotLive b then f s else s

/-- HS_THR and SC_CLAMP from ILIM and the Plan shunt (R310). -/
def Landing.levels (rsense : Nat) (l : Landing) : Landing :=
  let x := l.fld HS_LIMIT_ILIM * rsense * 10
  let cl := min (max (roundDiv x 14648).toNat 1) 1023
  let sc := (2 * x + 14647) / 14648
  ((l.put HS_THR_CL_EFF cl).put HS_THR_SC_EFF (min sc 1023)).putB HS_STAT_SC_CLAMP (1023 < sc)

/-! ### Seating -/

/-- SEAT_CHANGE (R316, R319, R320): the levels after 3 equal samples. -/
def execSeatChange (b : Fin 6) (seat1 seat2 : Bool) (s : State) : Out :=
  act s (s.slotPresent b) fun s =>
    (s.onLand b fun l => (l.putB HS_STAT_SEAT1 seat1).putB HS_STAT_SEAT2 seat2).slotSettle b

/-- SEATING has met TSEAT, or an attempt met it beforehand (R316, R331). -/
def Landing.tseatMet (now : Nat) (l : Landing) : Bool :=
  l.seatedBoth && (l.seatMet || due now l.seated (1000 * l.fld HS_TIME_TSEAT))

/-- A slot in SEATING enters INRUSH where TSEAT is met and VSLOTIN is at least 34.0 V. -/
def State.toInrush (s : State) (b : Fin 6) : State :=
  let l := s.land b
  if s.slotMay b && l.st = hSeating && l.tseatMet s.now && 34000 ≤ l.vslotin then s.slotTo b hInrush false else s

/-- TSEAT (R316). -/
def execTseat (b : Fin 6) (m : SlotMeas) (s : State) : Out := slotAct s b m fun s => s.toInrush b

/-- VSLOTIN_RISE (R316): VSLOTIN reaches 34.0 V after TSEAT. -/
def execVslotinRise (b : Fin 6) (m : SlotMeas) (s : State) : Out := slotAct s b m fun s => s.toInrush b

/-- SEAT_LIFT (R321, R329, R335): a ball has read unseated for 5 samples while the gate is on, or lifts with the cut that
has just ended it. -/
def execSeatLift (b : Fin 6) (seat1 seat2 : Bool) (s : State) : Out :=
  let l := s.land b
  act s (s.slotLive b && !(seat1 && seat2) && (l.powered || (l.st = hRetry && l.entry = s.now))) fun s =>
    let s := s.onLand b fun l => ((l.putB HS_STAT_SEAT1 seat1).putB HS_STAT_SEAT2 seat2).slotFault HS_FAULT_SEAT_LIFT
    s.slotTo b hUnseated true

/-! ### Start -/

/-- GATE_UP (R316): Vds at most 1.0 V in INRUSH. -/
def execGateUp (b : Fin 6) (m : SlotMeas) (s : State) : Out :=
  slotAct s b m fun s =>
    if (s.land b).st = hInrush && (vdsUv m) ≤ 1000000 then (s.slotTo b hGateUp false).slotMeasure b m else s

/-- The ports of a slot leave slot hold (R326). -/
def State.releaseSlot (s : State) (b : Fin 6) : State :=
  (portsOf b).foldl (fun s p => if s.pl.whole p.val then s.onRoomE p Room.leaveSlotHold else s) s

/-- SLOT_ON (R316, R323, R326): both criteria have held for 100 µs. -/
def execSlotOn (b : Fin 6) (m : SlotMeas) (s : State) : Out :=
  slotAct s b m fun s =>
    if (s.land b).st = hGateUp && due s.now (s.land b).goodAt 100 then (s.slotTo b hOn false).releaseSlot b else s

/-- SLOT_LIMIT_EDGE (R313, R314): the limit that acts from now on; 0 none, 1 power, 2 current. -/
def execSlotLimitEdge (b : Fin 6) (limit : Fin 3) (m : SlotMeas) (s : State) : Out :=
  slotAct s b m fun s =>
    s.onLand b fun l =>
      if !l.powered then l
      else
        let l := if limit.val != 0 && limit.val != l.fld HS_STAT_LIMIT then l.on HS_EVENT_LIMIT else l
        let l := l.put HS_STAT_LIMIT limit.val
        { l with gate := if l.st = hInrush || limit.val != 0 then .servo else .full
                 pgLow := if limit.val = 0 then l.pgLow else none }

/-! ### Slot faults -/

/-- The last conversion of the slot, as HS_MEAS and HS_IMEAS show it (R309). -/
def Landing.meas (l : Landing) : SlotMeas :=
  ⟨BitVec.ofNat 12 (l.fld HS_MEAS_VSLOTIN), BitVec.ofNat 12 (l.fld HS_MEAS_VOUT), BitVec.ofNat 12 (l.fld HS_IMEAS_CUR),
    l.bit HS_STAT_GATE_FULL⟩

/-- INRUSH_TO (R322): TINR has elapsed, and the exit listed before it does not hold (R316). -/
def execInrushTo (b : Fin 6) (s : State) : Out :=
  let l := s.land b
  act s (s.slotLive b && l.st = hInrush && 1000000 < vdsUv l.meas && old s.now l.entry (1000 * l.fld HS_TIME_TINR)) fun s =>
    (s.onLand b fun l => l.slotFault HS_FAULT_INRUSH_TO).slotRetry b true

/-- A cut of S_SC latches SHORT, and SHORT_NEG for negative current (R311). -/
def Landing.latchShort (neg : Bool) (l : Landing) : Landing :=
  let l := l.slotFault HS_FAULT_SHORT
  if neg then l.on HS_FAULT_SHORT_NEG else l

/-- SHORT (R311, R315, R329); where the gate is already off, the bits latch alone (R335). -/
def execShort (b : Fin 6) (neg : Bool) (s : State) : Out :=
  act s (s.slotLive b) fun s =>
    let on := (s.land b).powered
    let s := s.onLand b (Landing.latchShort neg)
    if on then s.slotRetry b true else s

/-- BREAKER (R314, R329): the slot fault timer has reached TFLT. -/
def execBreaker (b : Fin 6) (s : State) : Out :=
  let l := s.land b
  act s (s.slotLive b && 400 * l.fld HS_TIME_TFLT ≤ l.fltQ && (l.powered || l.entry = s.now)) fun s =>
    let on := (s.land b).powered
    let s := s.onLand b fun l => l.slotFault HS_FAULT_BREAKER
    if on then s.slotRetry b true else s

/-- The action of PG_LOSS: Sn_PG goes low and the slot sheds (R323, R329, R41). -/
def State.pgLoss (s : State) (b : Fin 6) : State :=
  let s := s.onLand b fun l =>
    let l := l.slotFault HS_FAULT_PG_LOSS
    let l := if l.bit HS_STAT_PG then l.on HS_EVENT_PG_OFF else l
    { (l.off HS_STAT_PG) with pgLow := none }
  s.startShed b true

/-- PG_LOSS (R324). -/
def execPgLoss (b : Fin 6) (m : SlotMeas) (s : State) : Out :=
  slotAct s b m fun s =>
    let l := s.land b
    if l.st = hOn && due s.now l.pgLow 100 && (l.shed).isNone then s.pgLoss b else s

/-- FET_SHORT in HS_FAULT: the slot enters LATCHED (R328, R329), but an OFF slot whose start rule does not hold stays OFF
(R317, R335; log 150). -/
def State.slotFetShort (s : State) (b : Fin 6) : State :=
  let s := s.onLand b fun l => l.slotFault HS_FAULT_FET_SHORT
  if s.slotMay b then s.slotTo b hLatched false else s

/-- SLOT_FET_SHORT (R328). -/
def execSlotFetShort (b : Fin 6) (m : SlotMeas) (s : State) : Out :=
  slotAct s b m fun s =>
    let l := s.land b
    if l.fetState && due s.now l.offAt (100000 * l.fld HS_RETRY_TDIS) && due s.now l.hiAt 20000 then s.slotFetShort b
    else s

/-! ### Retries -/

/-- SLOT_ATTEMPT (R330, R331, R347, R335): attempt k is due k × PER after the first entry to RETRY_WAIT. -/
def execSlotAttempt (b : Fin 6) (m : SlotMeas) (s : State) : Out :=
  slotAct s b m fun s =>
    let l := s.land b
    if l.st = hRetry && due s.now l.retryAt (100000 * l.fld HS_RETRY_PER * l.retryK) then
      if !l.seatedBoth then s.slotTo b hUnseated false
      else if s.modelHot (48 + b.val) then s.onLand b fun l => { l with retryK := l.retryK + 1 }
      else
        let s := if s.modelState (48 + b.val) = 3 then s.clampModel (48 + b.val) else s
        let s := s.onLand b fun l => { (l.on HS_EVENT_ATTEMPT) with attempt := true, seatMet := true }
        (s.slotTo b hSeating false).toInrush b
    else s

/-- SLOT_ATTEMPT_OK (R331): 100 ms in ON without a retried fault. -/
def execSlotAttemptOk (b : Fin 6) (s : State) : Out :=
  let l := s.land b
  act s (s.slotLive b && l.st = hOn && l.attempt && l.shed.isNone && old s.now l.entry 100000) fun s =>
    s.onLand b fun l => { (l.on HS_EVENT_ATTEMPT_OK) with attempt := false, retryAt := none, retryK := 0 }

/-- SLOT_COUNT_RESET (R331): 60 s in ON. -/
def execSlotCountReset (b : Fin 6) (s : State) : Out :=
  let l := s.land b
  act s (s.slotLive b && l.st = hOn && old s.now l.entry 60000000) fun s => s.onLand b fun l => l.off HS_STAT_COUNT

/-! ### HS_CTRL and HS_LIMIT -/

/-- HS_EN_SET (R317). -/
def execHsEnSet (b : Fin 6) (s : State) : Out :=
  act s (s.slotPresent b && s.clampBit (.land b.val 0x40) HS_CTRL_EN true) fun s =>
    (s.onLand b fun l => l.on HS_CTRL_EN).slotSettle b

/-- HS_EN_CLEAR (R318, R335): OFF with a normal pull-down, whatever goes on. -/
def execHsEnClear (b : Fin 6) (s : State) : Out :=
  act s (s.slotPresent b && !s.clampBit (.land b.val 0x40) HS_CTRL_EN false) fun s =>
    (s.onLand b fun l => l.off HS_CTRL_EN).slotSettle b

/-- A write of 1 to HS_CTRL.RECOVER (R332, R335, R349): VOUT above 2.0 V, or the die's heat, keeps the slot LATCHED. -/
def State.hsRecover (s : State) (b : Fin 6) : State :=
  if (s.land b).st != hLatched then s
  else if 2000 < (s.land b).vout then s.onLand b fun l => l.slotFault HS_FAULT_FET_SHORT
  else if s.dieHot then s.onLand b fun l => l.slotFault HS_FAULT_THERM_TRIP
  else (s.slotTo b hUnseated false).slotSettle b

/-- HS_RECOVER (R332). -/
def execHsRecover (b : Fin 6) (m : SlotMeas) (s : State) : Out := slotAct s b m fun s => s.hsRecover b

/-- HS_LIMIT_WRITE (R310, R335): ILIM takes effect as the Plan maximum above it, and the fractions follow. -/
def execHsLimitWrite (b : Fin 6) (v : Word) (s : State) : Out :=
  act s (s.slotPresent b) fun s =>
    let sl := s.pl.slot b.val
    let l : Loc := .land b.val 0x44
    s.onLand b fun x =>
      let i := min (s.clampField l HS_LIMIT_ILIM (HS_LIMIT_ILIM.of v)) sl.imax
      ((x.put HS_LIMIT_ILIM i).put HS_LIMIT_PINR (s.clampField l HS_LIMIT_PINR (HS_LIMIT_PINR.of v))).levels sl.rsense

end Sys2Proof.Machine
end

