-- ==== Sys2Proof/Machine/Faults.lean ====
section
/-! DEFINITION. Machine/Faults.lean: safe states on command, escalation, watchdogs and sense wires
(01_house_architecture.md R32 to R44, 19_faults.md R584 to R599). -/

namespace Sys2Proof.Machine

/-! ### CTRL.FORCE_SAFE and CTRL.RECOVER -/

/-- FORCE_SAFE becomes 1 (R37): the port safe state without a FAULT bit; an attempt that it cuts short does not count. -/
def Room.forceSafe (e : Env) (r : Room) : Room :=
  let r := if r.inSafe then r else (r.on EVENT_SAFE_ENTER).onCc fun c => { c with rpSafe := r.fld CC_STAT_RP_ADV }
  let r := r.on CTRL_FORCE_SAFE
  let r := if r.bit RETRY_STAT_ATTEMPT then (r.off RETRY_STAT_ATTEMPT).on RETRY_STAT_WAIT else r
  (r.onConv fun c => { c with attAt := none, outAt := none }).outputsOff e

/-- FORCE_SAFE returns to 0 (CTRL): only a safe state that this bit caused ends. -/
def Room.releaseSafe (e : Env) (r : Room) : Room :=
  if r.bit CTRL_FORCE_SAFE then
    let r := r.off CTRL_FORCE_SAFE
    if r.safe then r else r.leaveSafe e
  else r

/-- The Room core's request for the port safe state (R16): always honoured, with no FAULT bit; the core has no way out of it,
so it ends as a fault-induced one does. The spec names no register for the request (log 126). -/
def Room.requestSafe (e : Env) (r : Room) : Room :=
  let r := if r.inSafe then r else (r.on EVENT_SAFE_ENTER).onCc fun c => { c with rpSafe := r.fld CC_STAT_RP_ADV }
  let r := ((r.off RETRY_STAT_WAIT).off RETRY_STAT_ATTEMPT).onConv fun c =>
    { c with retryAt := none, attAt := none, outAt := none }
  ({ r with safe := true }).outputsOff e

def State.writeForce (s : State) (p : Fin 48) (on : Bool) : State :=
  if !s.keeps (wingOf p) then s.onRoom p fun r => r.putB CTRL_FORCE_SAFE on
  else if on then (s.onRoomE p Room.forceSafe).gangLevel p
  else (s.onRoomE p Room.releaseSafe).gangLevel p

/-- FORCE_SAFE (R37): CTRL.FORCE_SAFE over the Wing bus, or the Room core's request for the safe state (R16; log 126). -/
def execForceSafe (p : Fin 48) (core on : Bool) (s : State) : Out :=
  if core then act s (s.live p && on) fun s => (s.onRoomE p Room.requestSafe).gangLevel p
  else act s (s.whole p) fun s => s.writeForce p (s.clampBit (.roomReg p.val 0x004) CTRL_FORCE_SAFE on)

/-- The fault conditions that hold at a RECOVER write, as FAULT fields (R43; log 43): each cause of a safe state by its own
criterion; UV and REG_LOSS need a running loop, and PARITY counts as absent (R590). -/
def State.conditions (s : State) (p : Fin 48) : List Field :=
  let r := s.room p
  let w := wingOf p
  [(r.conv.filt.getD 0 false, FAULT_OV), (r.conv.filt.getD 3 false, FAULT_SC),
   (decide (100 * r.fld EF_TIME_TFLT ≤ r.fld EF_STAT_TIMER), FAULT_EFUSE),
   (r.fetWatch && due s.now r.conv.fetAt 20000 && due s.now r.conv.fetHi 1000, FAULT_FET_SHORT),
   ((s.modelState p.val = 3 && s.modelHot p.val) || s.dieHot, FAULT_THERM_TRIP),
   (r.bit CC_STAT_CC1_ISOL || r.bit CC_STAT_CC2_ISOL, FAULT_CC_OV),
   (r.core.state = 0 && (s.pl.programFor p.val).isSome, FAULT_CORE_FAIL),
   ((s.wing w).safe || (s.land (landOf p)).down, FAULT_ESCALATED),
   (!s.keeps w, FAULT_KEY_LOSS)].filterMap fun x => if x.1 then some x.2 else none

/-- A write of 1 to RECOVER (R43). A model left in TRIP that has cooled is no condition; it goes on as
NORMAL at its next update (log 110). -/
def State.recover (s : State) (p : Fin 48) : State :=
  if !(s.room p).safe then s
  else
    let found := s.conditions p
    if found.isEmpty then
      s.onRoomE p Room.leaveSafe
    else s.onRoom p fun r => found.foldl (fun r f => r.fault f) (r.off RETRY_STAT_COUNT)

/-- RECOVER (R43). -/
def execRecover (p : Fin 48) (s : State) : Out := act s (s.whole p) fun s => s.recover p

/-! ### ADC calibration (R32 to R34) -/

/-- A new result lies too far from the one in use (R34): gains in parts per million from nominal, offsets in sixteenths
of an LSB (log 45). -/
def calRejected (was new : Int × Int) : Bool :=
  5 * (1000000 + was.1) < 1000 * ((new.1 - was.1).natAbs : Int) || 64 < (new.2 - was.2).natAbs

/-- ADC_CALIBRATION (R34). Two rejections in a row set SENSE_OPEN, and the hold of R598 with it. -/
def execAdcCalibration (p : Fin 48) (adc : Fin 2) (gain offset : Int) (s : State) : Out :=
  act s (s.present p) fun s =>
    let r := s.room p
    if calRejected (r.cal.getD adc.val (0, 0)) (gain, offset) then
      let n := min (r.calRej.getD adc.val 0 + 1) 2
      let s := s.onWing (wingOf p) fun w => w.put WING_CAL_ROOM (w.fld WING_CAL_ROOM ||| 2 ^ (p.val % 24))
      let s := s.onRoom p fun r => { r with calRej := setAt r.calRej adc.val n }
      if n = 2 then
        (s.onRoomE (s.lead p) fun e r => (r.fault FAULT_SENSE_OPEN).senseHoldOn e).onLand (landOf p)
          fun l => l.on LAND_SENSE_HOLD
      else s
    else s.onRoom p fun r =>
      { r with cal := setAt r.cal adc.val (gain, offset), calRej := setAt r.calRej adc.val 0 }

/-! ### Landing and Wing faults (R39 to R42, R588, R591, R594) -/

/-- A Landing fault with an internal cause (R41, R589): handed up in pair mode, else the shed that ends with the slot held
OFF (log 29). -/
def State.landInternal (s : State) (b : Fin 6) (f : Field) : State :=
  let s := s.onLand b fun l => l.on f
  if s.pairMode then s.handUp b
  else if (s.land b).down then s
  else (s.startShed b false).onLand b fun l =>
    { l with shed := match l.shed with | some (n, t, _) => some (n, t, false) | none => none }

/-- The slot's own faults open it at once, hold its ports or shed them (R40, R41, R329). -/
def State.landFault (s : State) (b : Fin 6) (c : SlotCause) : State :=
  let on := (s.land b).powered
  match c with
  | .breaker =>
    let s := s.onLand b fun l => l.slotFault HS_FAULT_BREAKER
    if on then s.slotRetry b true else s
  | .short =>
    let s := s.onLand b (Landing.latchShort false)
    if on then s.slotRetry b true else s
  | .inrushTo =>
    let s := s.onLand b fun l => l.slotFault HS_FAULT_INRUSH_TO
    if on then s.slotRetry b true else s
  | .seatLift =>
    let s := s.onLand b fun l => l.slotFault HS_FAULT_SEAT_LIFT
    if on then s.slotTo b hUnseated true else s
  | .fetShort => s.slotFetShort b
  | .pgLoss => if (s.land b).st = hOn then s.pgLoss b else s
  | .thermTrip => s.slotTrip b
  | .senseOpen =>
    ((s.onLand b fun l => { l.slotFault HS_FAULT_SENSE_OPEN with senseHold := true, holdOkAt := none }).holdPorts b)
  | .watchdog => s.landInternal b LAND_FAULT_WDT
  | .parity => s.landInternal b LAND_FAULT_PARITY

/-- LANDING_FAULT (R39 to R41). -/
def execLandingFault (b : Fin 6) (cause : SlotCause) (s : State) : Out :=
  act s (s.slotLive b) fun s => s.landFault b cause

/-- LANDING_SHED_STEP (R41): ESSENTIAL, EGRESS and Sn_GATE follow 200 µs apart; then RETRY_WAIT for a slot cause, or the
slot held OFF. -/
def execLandingShedStep (b : Fin 6) (s : State) : Out :=
  match (s.land b).shed with
  | none => .next s
  | some (n, t, retry) => act s (s.booted && old s.now t 200) fun s =>
      let again (s : State) : State := s.onLand b fun l => { l with shed := some (n + 1, s.now, retry) }
      if n = 1 then again (s.shedClass b 1)
      else if n = 2 then again (s.shedClass b 0)
      else
        let s := s.onLand b fun l => { l with shed := none, down := l.down || !retry }
        if retry then s.slotRetry b false else s.slotTo b hOff false

/-- LANDING_SELF_CHECK (R591). -/
def execLandingSelfCheck (b : Fin 6) (s : State) : Out :=
  act s s.booted fun s => s.landInternal b LAND_FAULT_WDT

/-- WING_WATCHDOG (R591, R39). -/
def execWingWatchdog (w : Fin 2) (part : WingPart) (s : State) : Out :=
  act s s.booted fun s =>
    (s.onWing w fun x =>
      match part with
      | .bus => x.on WING_FAULT_BUS
      | .calibration => x.on WING_FAULT_CAL
      | .landing k => x.put WING_FAULT_LANDING (x.fld WING_FAULT_LANDING ||| 2 ^ k.val)).wingFault w

/-- WING_SAFE_DELAY (R594). -/
def execWingSafeDelay (w : Fin 2) (s : State) : Out :=
  act s (s.booted && due s.now (s.wing w).withdrawAt 5) fun s => s.wingSafe w

/-- A Wing restart (R42): the Wing's hold ends, and its calibration and the start sequences of its slots run anew; a
LATCHED slot waits for its own RECOVER (log 44). -/
def State.restartWing (s : State) (w : Fin 2) : State :=
  let s := s.onWing w fun x => { x with safe := false, withdrawAt := none }
  let s := { s with pair := { s.pair with failed := s.pair.failed &&& (3 - 2 ^ w.val) } }
  let s := (wingPorts w).foldl (fun s p => s.onRoom p fun r => { r with calRej := [0, 0] }) s
  (wingLands w).foldl (fun s b =>
    let s := s.onLand b fun l => { l with down := false, shed := none }
    if (s.land b).st = hLatched || !s.slotLive b then s else (s.slotTo b hOff false).slotSettle b) s

/-- WING_RESTART (R42). -/
def execWingRestart (w : Fin 2) (s : State) : Out := act s s.booted fun s => s.restartWing w

/-- PARITY (R589, R590, R41). -/
def execParity (site : Site) (s : State) : Out :=
  match site with
  | .land b => act s s.booted fun s => s.landInternal b LAND_FAULT_PARITY
  | .room p => act s (s.present p) fun s =>
      if s.pairMode then (s.onRoom (s.lead p) fun r => r.fault FAULT_PARITY).handUp (landOf p)
      else s.enterSafe p FAULT_PARITY false

/-! ### The Hall heartbeat (R592, R620) -/

/-- The heartbeat deadline counts: armed, and not suspended by a halt of debug in single-chip mode (R620). -/
def State.beating (s : State) : Bool :=
  s.booted && s.bit HB_STAT_ARMED && !(s.hall.halted && !s.pairMode && s.bit DBG_CTRL_HB_SUSPEND)

/-- HB_T in µs (HB_CFG). -/
def State.hbT (s : State) : Nat := 10 * s.fld HB_CFG_HB_T

/-- HB_MISS (R592, R486). -/
def execHbMiss (s : State) : Out :=
  act s (s.beating && !s.hbMissed && old s.now s.hbeatAt s.hbT) fun s =>
    let s := { s.on HB_STAT_MISS with hbMissed := true }
    if s.pairMode then s.dropKey else s

/-! ### Sense wires (R595 to R598) -/

/-- A test of `moved` mV fails (R595): above 0.5 V, or above 20 mV for a differential current input. -/
def pinFails (current : Bool) (moved : Nat) : Bool := if current then 20 < moved else 500 < moved

/-- Failures in a row of a pin, to at most 2 (R595). -/
def countFail (l : List Nat) (k : Nat) (bad : Bool) : List Nat := setAt l k (if bad then min (l.getD k 0 + 1) 2 else 0)

/-- No pin of the list fails. -/
def allPass (l : List Nat) : Bool := l.all (· = 0)

/-- A test of a port's pin: what the Room keeps of it (R595, R597, R598). -/
def Room.pinTest (now k : Nat) (bad : Bool) (r : Room) : Room :=
  r.onConv fun c =>
    let pf := countFail c.pinFail k bad
    { c with pinFail := pf
             passed := if k = 0 then (if bad then 0 else min (c.passed + 1) 2) else c.passed
             holdOkAt := if allPass pf && c.diverge < 4 then c.holdOkAt <|> some now else none }

/-- The test of a port's pin (R595, R597): two failures set SENSE_OPEN and start the hold; two passes of Pn_VBUS under
the substitution mean a real fault of QSW_P. -/
def State.portPin (s : State) (p : Fin 48) (k : Nat) (bad : Bool) : State :=
  let b := landOf p
  let s := s.onRoom p fun r => r.pinTest s.now k bad
  let c := (s.room p).conv
  let open2 := c.pinFail.getD k 0 = 2
  let s := s.onLand b fun l =>
    l.put LAND_SENSE_PORT_PIN (setBit (l.fld LAND_SENSE_PORT_PIN) (3 * (p.val % 8) + k) open2)
  if bad && open2 then
    (s.onRoomE (s.lead p) fun e r => (r.fault FAULT_SENSE_OPEN).senseHoldOn e).onLand b fun l => l.on LAND_SENSE_HOLD
  else if k = 0 && c.subst && c.passed = 2 then
    (s.enterSafe p FAULT_REG_LOSS false).onRoom p fun r => r.onConv fun c => { c with subst := false, diverge := 0 }
  else s

/-- The test of a slot's pin (R595, R40). -/
def State.slotPin (s : State) (b : Fin 6) (k : Nat) (bad : Bool) : State :=
  let s := s.onLand b fun l =>
    let pf := countFail l.pinFail k bad
    { l.put LAND_SENSE_SLOT_PIN (setBit (l.fld LAND_SENSE_SLOT_PIN) k (pf.getD k 0 = 2)) with
        pinFail := pf, holdOkAt := if allPass pf then l.holdOkAt <|> some s.now else none }
  if bad && (s.land b).pinFail.getD k 0 = 2 then s.landFault b .senseOpen else s

/-- OPEN_PIN_TEST (R595): the reading moved by so many mV. -/
def execOpenPinTest (pin : SensePin) (moved : Nat) (s : State) : Out :=
  match pin with
  | .room p k => act s (s.present p && s.keeps (wingOf p)) fun s => s.portPin p k.val (pinFails (k.val != 0) moved)
  | .land b k => act s (s.slotLive b) fun s => s.slotPin b k.val (pinFails true moved)

/-- The hold of a port ends. -/
def Room.senseHoldOff (e : Env) (r : Room) : Room :=
  (({ r with senseHold := false }).onConv fun c => { c with subst := false }).refreshIlim e

/-- HOLD of LAND_SENSE: some port of the slot is under the hold. -/
def State.refreshHold (s : State) (b : Fin 6) : State :=
  s.onLand b fun l => l.putB LAND_SENSE_HOLD ((portsOf b).any fun p => (s.room p).senseHold)

/-- Every pin of a port, or of a gang's members, has passed for 10 s and no divergence has held (R598). -/
def State.pinsGood (s : State) (p : Fin 48) : Bool :=
  (s.pl.members p.val).all fun m => due s.now (s.room (Fin.ofNat 48 m)).conv.holdOkAt 10000000

/-- HOLD_END (R598): of one port, or of a slot whose own pins had failed. -/
def execHoldEnd (site : Site) (s : State) : Out :=
  match site with
  | .room p =>
    let b := landOf p
    act s (s.live p && (s.room p).senseHold && !(s.land b).senseHold && s.pinsGood p) fun s =>
      (s.onRoomE p Room.senseHoldOff).refreshHold b
  | .land b =>
    act s (s.slotLive b && (s.land b).senseHold && due s.now (s.land b).holdOkAt 10000000) fun s =>
      let s := s.onLand b fun l => { l with senseHold := false }
      let s := (portsOf b).foldl (fun s p =>
        if (s.room p).senseHold && s.pinsGood p then s.onRoomE p Room.senseHoldOff else s) s
      s.refreshHold b

end Sys2Proof.Machine
end

