-- ==== Sys2Proof/Machine/Power.lean ====
section
/-! DEFINITION. Machine/Power.lean: clocks, resets, power states and wake sources (02_clocks_reset_states.md;
12_timers_snapshot.md R411 to R416). -/

namespace Sys2Proof.Machine

/-! ### Clocks -/

/-- CLOCK_FAILURE (R68, R69): of the crystal or of the PLL. In pair mode the Key claim drops and with it every driver; in
single-chip mode every port takes the safe state and every slot goes off (log 122). -/
def execClockFailure (xtal : Bool) (s : State) : Out :=
  act s (s.clocked && s.clk.failAt.isNone) fun s =>
    let s := (s.onClk fun c => { c with failAt := some s.now }).off (if xtal then CLK_STAT_XTAL_OK else CLK_STAT_PLL_LOCK)
    if !s.booted then s
    else if s.pairMode then s.dropKey
    else (List.finRange 6).foldl (fun s b => if (s.pl.slot b.val).present then s.slotTo b hOff false else s)
      (s.escalateAll (List.finRange 48))

/-- CLK_FAIL (R69): 10 µs later. -/
def execClkFail (s : State) : Out :=
  act s (s.clocked && due s.now s.clk.failAt 10) fun s => s.chipReset RESET_CAUSE_CLK_FAIL

/-- SLOW_XTAL_SELECT (R70): the slow crystal has produced its 32,768 good edges. -/
def execSlowXtalSelect (s : State) : Out :=
  act s true fun s =>
    let s := s.on CLK_STAT_SLOW_XTAL_OK
    if s.bit CLK_CTRL_SLOW_SEL then s else s.on CLK_STAT_SLOW_SRC

/-- Increment of a tick of the source in use (R413). -/
def State.slowInc (s : State) : Nat := if s.bit CLK_STAT_SLOW_SRC then 2000000 else s.fld RC_INC_INC

/-- SLOW_SWITCH (R71, R414): the silent crystal; 4 RC ticks are credited where it was in use. -/
def execSlowSwitch (s : State) : Out :=
  act s (s.bit CLK_STAT_SLOW_XTAL_OK) fun s =>
    let used := s.bit CLK_STAT_SLOW_SRC
    let s := (s.off CLK_STAT_SLOW_XTAL_OK).off CLK_STAT_SLOW_SRC
    if used then
      (s.on WAKE_CAUSE_SLOW_SWITCH).onClk fun c =>
        { c with slow := (c.slow + 4) % 2 ^ 32, acc := c.acc + 4 * s.slowInc }
    else s

/-- RC_CALIBRATION (R72, R413): once a second, the frequency measured against tick in Hz. -/
def execRcCalibration (fRc : Nat) (s : State) : Out :=
  act s (s.booted && s.bit CLK_CTRL_RC_CAL_EN && old s.now s.clk.calAt 1000000 && fRc != 0) fun s =>
    ((s.put RC_INC_INC (min (roundDiv (65536000000 : Nat) fRc).toNat (2 ^ 32 - 1))).on CLK_STAT_RC_CAL_VALID).onClk
      fun c => { c with calAt := s.now }

/-- SLOW_CLOCK_EDGE (R411, R413, R70, R90): slow counter and accumulator; while tick runs the time base is stored, and the
accumulator keeps its fraction (log 119). `act` are the wake sources whose condition holds, in the bit order of WAKE_EN. -/
def execSlowClockEdge (act : BitVec 10) (s : State) : Out :=
  Sys2Proof.Machine.act s true fun s =>
    let acc := s.clk.acc + s.slowInc
    let run := s.clocked
    let woke := s.clk.step = 9 && s.clk.phase = .waking
    let s := s.onClk fun c =>
      { c with slow := (c.slow + 1) % 2 ^ 32, acc := if run then acc % 65536 else acc
               retTb := if run then s.tb else c.retTb, step := if woke then 0 else c.step, wakeIn := act }
    s.putB CLK_STAT_SLOW_SRC (s.bit CLK_STAT_SLOW_XTAL_OK && !s.bit CLK_CTRL_SLOW_SEL)

/-- The elapsed slow ticks go into the time base; their fraction is kept (R92, R413, R415, R416). -/
def State.makeUp (s : State) : State :=
  (s.setTb ((s.tb + s.clk.acc / 65536) % 2 ^ 64)).onClk fun c => { c with acc := c.acc % 65536 }

/-! ### Reset sources (R73, R74, R640) -/

/-- AON_POR (R73). -/
def execAonPor (s : State) : Out := act s true fun s => s.aonReset
/-- BOR_CORE (R73). -/
def execBorCore (s : State) : Out := act s true fun s => s.chipReset RESET_CAUSE_BOR_CORE
/-- BOR_IO (R73). -/
def execBorIo (s : State) : Out := act s true fun s => s.chipReset RESET_CAUSE_BOR_IO
/-- BOR_A (R73). -/
def execBorA (s : State) : Out := act s true fun s => s.chipReset RESET_CAUSE_BOR_A

/-- PIN (R74): a low pulse of `lowNs`; between 200 ns and 1 µs it may or may not be taken. -/
def execPin (lowNs : Nat) (taken : Bool) (s : State) : Out :=
  act s (1000 ≤ lowNs || (200 ≤ lowNs && taken)) fun s => s.chipReset RESET_CAUSE_PIN

/-- TEST_EN (R640): high holds the chip in reset. -/
def execTestEn (level : Bool) (s : State) : Out :=
  act s true fun s =>
    if level then (s.chipReset RESET_CAUSE_PIN).onClk fun c => { c with held := true }
    else s.onClk fun c => { c with held := false }

/-- A write of PWR_CTRL.RESET_KEY (R73). -/
def State.resetKey (s : State) (key : Nat) : State := if key = 0xC3 then s.chipReset RESET_CAUSE_SOFT else s

/-- RESET_KEY (R73). -/
def execResetKey (key : Nat) (s : State) : Out := act s s.booted fun s => s.resetKey key

/-- WDT (R592): a further HB_T after the missed deadline. -/
def execWdt (s : State) : Out :=
  act s (s.beating && s.hbMissed && old s.now s.hbeatAt (2 * s.hbT)) fun s => s.chipReset RESET_CAUSE_WDT

/-- CHIP_RESET_END (R77, R8, R411, R447): with every supply above its brown-out level, RESET_N high and no other source
active for 1.0 ms, PAIR_ID is sampled, the time base resumes, each link posts WAKE. `us` is how long they have been so (log
146). -/
def execChipResetEnd (pairId core io ana resetN : Bool) (us : Nat) (s : State) : Out :=
  act s (s.clk.phase = .reset && !s.clk.held && core && io && ana && resetN && 1000 ≤ us) fun s =>
    let s := (s.setTb s.clk.retTb).makeUp.onClk fun c => { c with phase := .osc, endAt := s.now }
    let s := { (s.putB PAIR_STAT_CHIP_B pairId) with chipB := pairId }
    { s with links := s.postAll [⟨1, 0, wordBytes (s.regs.get 0x09C) ++ wordBytes (s.regs.get 0x094), 0⟩] }

/-- XTAL_OK (R79, step 1), at boot and on a wake from SLEEP. -/
def execXtalOk (s : State) : Out :=
  act s (s.clk.phase = .osc || s.clk.phase = .waking) fun s =>
    (s.on CLK_STAT_XTAL_OK).onClk fun c => { c with phase := if c.phase = .osc then .pll else c.phase }

/-! ### State requests (R84 to R87) -/

/-- The slow-counter alarm condition (R90). -/
def State.alarm (s : State) : Bool := (s.clk.slow + 2 ^ 32 - s.fld WAKE_ALARM_COMPARE) % 2 ^ 32 < 2 ^ 31

/-- An enabled port sees an attach level on a line: Rd where it applies Rp, Rp where it applies Rd (R89, R90). -/
def State.attachSeen (s : State) : Bool :=
  (List.finRange 48).any fun p => s.pl.whole p.val && (s.room p).bit CTRL_ENABLE &&
    (2 ≤ (s.room p).kind1 || 2 ≤ (s.room p).kind2)

/-- The wake sources that a state has, in the bit order of WAKE_EN: STANDBY has no CC, host link or Porch (R90). -/
def wakeSources (target : Nat) : BitVec 10 := if target = 2 then 0x37F else 0x07D

/-- An enabled wake source of the requested state is active (R85, R90, R470): an input in `act`, a two-wire target that still
holds its clock, an attach level, the alarm, FIRE_N. -/
def State.wakeActive (s : State) (target : Nat) (act : BitVec 10) : Bool :=
  act &&& BitVec.ofNat 10 (s.regs.get 0x090).toNat &&& wakeSources target != 0 ||
    (s.tws.zipIdx.any fun x => x.1.busy && (s.fld WAKE_EN_TW).testBit x.2) ||
    (target = 2 && s.bit WAKE_EN_CC && s.attachSeen) ||
    (s.alarm && s.bit WAKE_EN_ALARM) || (target = 2 && s.bit FIRE_CFG_FIRE_IN)

/-- A port is in STATE ATTACHED, CONTRACT or TRANSITION (R85). -/
def State.portActive (s : State) : Bool :=
  (List.finRange 48).any fun p => s.pl.whole p.val && [2, 3, 4].contains (s.room p).stateCode

/-- The refusal of a request for SLEEP or STANDBY, 0 for none (R85, R86, R526; log 55). -/
def State.reqRefusal (s : State) (target : Nat) (act : BitVec 10) : Nat :=
  if s.bit PWR_STAT_PENDING then 6
  else if s.portActive then 1
  else if s.bit HALL_MODE_PENDING || s.fld HALL_MODE_MODE = mFire || s.fld HALL_MODE_MODE = mService then 2
  else if s.pairMode && s.pair.claims != 0 then 3
  else if s.porch.sess.isSome || s.scheduled then 4
  else if s.wakeActive target act then 5
  else if s.attic.cmd.isSome then 6
  else 0

/-- A write of PWR_CTRL.REQ (R84 to R86, R122). A refused request leaves REQ as it was (log 55). -/
def State.reqState (s : State) (x : Nat) (act : BitVec 10) : State :=
  let v := if 4 ≤ x then x else s.clampField (.hall 0x088) PWR_CTRL_REQ x
  if v ≤ 1 then
    (if s.bit PWR_STAT_PENDING then s.put PWR_STAT_REFUSE 6
     else ((s.put PWR_CTRL_REQ v).put PWR_STAT_STATE v).onClk fun c => { c with prior := v })
  else if 4 ≤ v then s.put PWR_STAT_REFUSE 6
  else
    let code := s.reqRefusal v act
    if code != 0 then s.put PWR_STAT_REFUSE code
    else (((s.put PWR_CTRL_REQ v).put PWR_STAT_STATE v).on PWR_STAT_PENDING).onClk fun c => { c with target := v, step := 1 }

/-- REQ_RUN (R84). -/
def execReqRun (s : State) : Out := act s s.booted fun s => s.reqState 0 0
/-- REQ_DOZE (R84). -/
def execReqDoze (s : State) : Out := act s s.booted fun s => s.reqState 1 0
/-- REQ_SLEEP (R85), with the wake sources whose condition holds, in the bit order of WAKE_EN. -/
def execReqSleep (act : BitVec 10) (s : State) : Out := Sys2Proof.Machine.act s s.booted fun s => s.reqState 2 act
/-- REQ_STANDBY (R85), likewise. -/
def execReqStandby (act : BitVec 10) (s : State) : Out := Sys2Proof.Machine.act s s.booted fun s => s.reqState 3 act

/-- Every present slot leaves its state for `st` (R333). -/
def State.allSlots (s : State) (f : State → Fin 6 → State) : State :=
  (List.finRange 6).foldl (fun s b => if s.slotLive b then f s b else s) s

/-- The next step of the entry sequence (R86, R333, R411). -/
def State.entryStep (s : State) : State :=
  let next := s.onClk fun c => { c with step := c.step + 1 }
  match s.clk.step with
  | 1 => if s.jnl.cmd.isSome then s else next
  | 2 => next.allSlots fun s b => s.slotTo b hOff false
  | 3 => next
  | 4 => next.onClk fun c => { c with retTb := if c.target = 3 then s.tb else c.retTb }
  | 5 => ((next.off CLK_STAT_XTAL_OK).off CLK_STAT_PLL_LOCK).onClk fun c =>
      { c with retTb := s.tb, acc := c.acc % 65536, ccPer := none, phase := if c.target = 3 then .standby else .sleep }
  | 6 => (next.mainReset).onClk fun c => { c with phase := .standby, target := 3, step := 7 }
  | _ => s

/-- ENTRY_SEQUENCE_STEP (R86). Step 7 is of STANDBY alone. -/
def execEntrySequenceStep (s : State) : Out :=
  act s ((s.booted && s.bit PWR_STAT_PENDING && 1 ≤ s.clk.step && s.clk.step ≤ 5) ||
    (s.clk.phase = .standby && s.clk.step = 6)) fun s => s.entryStep

/-! ### Wake sources (R87, R90) -/

/-- An entry is abandoned (R87, R333). -/
def State.abortEntry (s : State) : State :=
  let s := ((((s.off PWR_STAT_PENDING).on PWR_STAT_ABORTED).put PWR_STAT_STATE s.clk.prior).put PWR_CTRL_REQ
    s.clk.prior).onClk fun c => { c with target := 0, step := 0 }
  s.allSlots fun s b => if (s.land b).st = hOff then (if s.slotMay b then (s.slotTo b hUnseated false).slotExit b else s) else s

/-- A wake source becomes active, with its bits in WAKE_CAUSE: during an entry it abandons it, in SLEEP and STANDBY it
wakes; further sources of the same slow-clock period add their bits. -/
def State.wakeBy (s : State) (mark : State → State) : State :=
  match s.clk.phase with
  | .run => if s.bit PWR_STAT_PENDING then (mark s).abortEntry else s
  | .sleep => (mark s).onClk fun c => { c with phase := .waking, step := 9 }
  | .standby => (mark s).onClk fun c => { c with step := 9 }
  | .waking => if s.clk.step = 9 then mark s else s
  | _ => s

/-- The state that is being entered or held: 2 SLEEP, 3 STANDBY. -/
def State.lowState (s : State) : Nat := s.clk.target

/-- WAKE_N (R90). -/
def execWakeN (s : State) : Out :=
  act s (s.bit WAKE_EN_WAKE_PIN) fun s => s.wakeBy fun s => s.on WAKE_CAUSE_WAKE_PIN

/-- KEY_WAKE (R90). -/
def execKeyWake (s : State) : Out := act s (s.bit WAKE_EN_KEY) fun s => s.wakeBy fun s => s.on WAKE_CAUSE_KEY

/-- ALARM (R90). -/
def execAlarm (s : State) : Out :=
  act s (s.bit WAKE_EN_ALARM && s.alarm) fun s => s.wakeBy fun s => s.on WAKE_CAUSE_ALARM

/-- FIRE_WAKE (R90): from SLEEP whatever WAKE_EN holds; not from STANDBY. -/
def execFireWake (s : State) : Out :=
  act s (s.lowState = 2) fun s => s.wakeBy fun s => s.on WAKE_CAUSE_FIRE

/-- HL_WAKE (R90, R91): the frame that wakes is discarded. -/
def execHlWake (_n : Fin 2) (s : State) : Out :=
  act s (s.bit WAKE_EN_HL && s.lowState = 2) fun s => s.wakeBy fun s => s.on WAKE_CAUSE_HL

/-- PORCH_WAKE (R90, R91). -/
def execPorchWake (s : State) : Out :=
  act s (s.bit WAKE_EN_PORCH && s.lowState = 2) fun s => s.wakeBy fun s => s.on WAKE_CAUSE_PORCH

/-- What a port's sampling termination makes of the codes of its lines: Rp at a source or dual-role port, Rd at a sink-role
one; a line in isolation takes none (R89, R160). -/
def Room.sampled (e : Env) (r : Room) (l1 l2 : Nat) : Bool :=
  let t : CcTerm := if e.port.role = 1 then .rd else .rp
  (!r.bit CC_STAT_CC1_ISOL && 2 ≤ lineKind t false l1) || (!r.bit CC_STAT_CC2_ISOL && 2 ≤ lineKind t false l2)

/-- The 16 ms period of the slow counter (R89). -/
def Clk.period (c : Clk) : Nat := c.slow * 125 / 65536

/-- CC_SAMPLING_WINDOW (R89): once in each 16 ms period of the slow counter in SLEEP, every enabled port applies its attach
termination; `lv` are the codes of CC1 and CC2 that ports then show. The lowest port that sees an attach level is named, and
every one that does starts its debounce from the wake. Before the point of no return an attach level abandons the entry. -/
def execCcSamplingWindow (lv : List (Fin 48 × Fin 8 × Fin 8)) (s : State) : Out :=
  let seen := lv.filter fun x => s.pl.whole x.1.val && (s.room x.1).bit CTRL_ENABLE &&
    (s.room x.1).sampled (s.env x.1) x.2.1.val x.2.2.val
  act s (s.lowState = 2 && (s.clk.phase != .sleep || s.clk.ccPer != some s.clk.period)) fun s =>
    let s := if s.clk.phase = .sleep then s.onClk fun c => { c with ccPer := some c.period } else s
    if !s.bit WAKE_EN_CC || seen.isEmpty then s
    else
      let low := seen.foldl (fun m x => min m x.1.val) 47
      let s := if s.clk.phase = .sleep then
          seen.foldl (fun s x => s.onRoom x.1 fun r => r.onCc fun c =>
            { c with wake := some (s.now, x.2.1.val, x.2.2.val) }) s else s
      s.wakeBy fun s => (s.on WAKE_CAUSE_CC).put WAKE_CAUSE_CC_PORT low

/-- Ports restart from the unattached state, or wait in slot hold for their slot (R93, R326, R138). -/
def State.wakePorts (s : State) : State :=
  (List.finRange 48).foldl (fun s p =>
    if s.live p && (s.room p).bit CTRL_ENABLE && !(s.room p).outOff then s.onRoomE p Room.restart
    else s) s

/-- On a wake from SLEEP a slot whose start rule holds enters SEATING, or UNSEATED when a ball reads unseated (R333). -/
def State.slotWake (s : State) (b : Fin 6) : State :=
  if !s.slotMay b then s
  else if (s.land b).seatedBoth then (s.slotTo b hSeating false).onLand b fun l => { l with seated := some s.now }
  else s.slotTo b hUnseated false

/-- SLEEP_WAKE (R415, R92, R93, R95, R333): the PLL is locked; time base, tick, slots, ports, and events to be sent
again. -/
def execSleepWake (s : State) : Out :=
  act s (decide (s.clk.phase = .waking) && s.bit CLK_STAT_PLL_LOCK) fun s =>
    let s := (s.setTb s.clk.retTb).makeUp.onClk fun c => { c with phase := .run, target := 0, step := 0 }
    let s := ((s.off PWR_STAT_PENDING).put PWR_STAT_STATE s.clk.prior).put PWR_CTRL_REQ s.clk.prior
    let again (e : Evt) : Evt := { e with sentAt := none }
    let s := { s with links := s.links.map fun (k : Link) =>
      { k with out := k.out.map again, again := none, sending := none, left := 0 } }
    (s.allSlots State.slotWake).wakePorts

/-- STANDBY_EXIT (R73): a wake source has become active. -/
def execStandbyExit (s : State) : Out :=
  act s (s.clk.phase = .standby && s.clk.step = 9) fun s => s.chipReset RESET_CAUSE_STANDBY_EXIT

end Sys2Proof.Machine
end

