-- ==== Sys2Proof/Machine/PairOps.lean ====
section
/-! DEFINITION. Machine/PairOps.lean: the Key lines, claims, withdrawals and takeovers (15_pair.md, R478 to R491, R504 to
R509). -/

namespace Sys2Proof.Machine

def State.onPair (s : State) (f : Pair → Pair) : State := { s with pair := f s.pair }

/-- The Wings that a claim code names (R481). -/
def codeWings (c : Nat) : Nat := [3, 1, 2, 0].getD c 0

/-- The peer is alive (R482). -/
def State.peerAlive (s : State) : Bool := s.bit PAIR_STAT_PEER_ALIVE

/-- Pair mode acts: the applied Plan selects it and boot is complete. -/
def State.paired (s : State) : Bool := s.booted && s.pairMode

/-- A Wing list entry replaced where the bit of `ws` is set. -/
def setWings {α : Type} (ws : Nat) (x : α) (l : List α) : List α :=
  l.zipIdx.map fun y => if ws.testBit y.2 then x else y.1

/-- Contention begins and ends with the two claims (R489). -/
def State.refreshCon (s : State) : State :=
  let both := s.pair.claims &&& s.fld PAIR_STAT_PEER_HELD
  s.onPair fun x =>
    { x with conAt := x.conAt.zipIdx.map fun y => if both.testBit y.2 then y.1 <|> some s.now else none
             yieldAt := x.yieldAt.zipIdx.map fun y => if both.testBit y.2 then y.1 else none }

/-- The peer claims from KEY_IN, the last pulse and its age (R482); `path` names what clears a claim now: 0 release,
1 withdrawal, 2 silence. -/
def State.refreshPeer (s : State) (path : Nat) : State :=
  let held := if s.bit KEY_STAT_KEY_IN && s.peerAlive then codeWings (s.fld KEY_STAT_PEER_CODE) else 0
  let was := s.fld PAIR_STAT_PEER_HELD
  let fell := was &&& (3 - held)
  let rose := held &&& (3 - was)
  let stuck := s.bit KEY_STAT_KEY_IN && s.peerAlive && s.fld KEY_STAT_PEER_CODE = 3
  let s := s.put PAIR_STAT_PEER_HELD held
  let s := s.onPair fun x =>
    { x with seen := x.seen ||| rose, clear := setWings fell s.now x.clear, yielded := x.yielded &&& (3 - fell)
             clearPath := if fell != 0 then path else x.clearPath
             clearTb := if fell != 0 then s.fld TB_LO_TB else x.clearTb
             stuckAt := if stuck then x.stuckAt <|> some s.now else none }
  ((s.putB PAIR_STAT_YIELDED (s.pair.yielded != 0)).refreshCon).refreshKeeper

/-- The Hall heartbeat deadline is met (R481, R488). -/
def State.hbMet (s : State) : Bool := !s.hbMissed

/-- RELEASE_Ww (PAIR_CTRL). -/
def State.releaseBit (s : State) (w : Fin 2) : Bool :=
  if w = 0 then s.bit PAIR_CTRL_RELEASE_W0 else s.bit PAIR_CTRL_RELEASE_W1

/-- What every row of the claim rules requires (R488, R487, R489), for a Wing that the peer does not claim. -/
def State.mayClaim (s : State) (w : Fin 2) : Bool :=
  s.paired && !s.bit PAIR_CTRL_NO_CLAIM && !s.releaseBit w && s.hbMet && !s.pair.failed.testBit w.val && !s.pair.barred &&
  (!s.bit PAIR_STAT_DIGEST_MISMATCH || (!s.peerAlive && s.bit PAIR_CTRL_MISMATCH_TAKEOVER)) &&
  !s.pair.claims.testBit w.val && !s.pair.yielded.testBit w.val && !s.peerHolds w

/-- The Wings of a list as bits. -/
def wingBits (ws : List (Fin 2)) : Nat := ws.foldl (fun a w => a ||| 2 ^ w.val) 0

/-- Claim a set of Wings (R481, R483). -/
def State.claim (s : State) (ws : Nat) : State :=
  ((s.setClaims (s.pair.claims ||| ws)).onPair fun x => { x with seen := x.seen &&& (3 - ws) }).refreshCon.refreshKeeper

/-- A port of a Wing that this chip begins to drive without a predecessor: its loop leaves SHADOW, and a port with
ENABLE = 1 starts (R81, R491). -/
def State.startPort (s : State) (p : Fin 48) : State :=
  if s.pl.whole p.val then
    let s := s.onRoomE p fun e r => ((if r.loop = lShadow then r.loopOff else r).refreshVlim e).refreshIlim e
    if (s.room p).bit CTRL_ENABLE then s.onRoomE p Room.enable else s
  else s

/-- A Wing is claimed by a start row: its ports and slots start. -/
def State.startWing (s : State) (w : Fin 2) : State :=
  let s := (wingPorts w).foldl State.startPort s
  (wingLands w).foldl State.slotSettle s

/-- A start row of R488 for the Wings that meet it. -/
def State.claimStart (s : State) (cond : Fin 2 → Bool) : State :=
  let ws := (List.finRange 2).filter fun w => s.mayClaim w && !s.pair.seen.testBit w.val && cond w
  if ws.isEmpty then s else ws.foldl State.startWing (s.claim (wingBits ws))

/-! ### Stale marking (R502 to R504) -/

/-- Wing of a stale target; the Hall counts with the Hall keeper. -/
def State.holdsTarget (s : State) (t : Nat) : Bool :=
  if t < 48 then s.pair.claims.testBit (t / 24)
  else if t < 54 then s.pair.claims.testBit ((t - 48) / 3)
  else s.hallKeeper

/-- Every target. -/
def allTargets : Nat := 2 ^ 55 - 1

/-- The chip's own marking as it counts now: every target while the link is down, on a mismatch, and from a gap until the
next FRAME (R494, R502). -/
def State.ownStale (s : State) : Nat :=
  if !s.bit PAIR_STAT_LINK_UP || s.bit PAIR_STAT_DIGEST_MISMATCH || s.pair.gap.isSome then allTargets else s.pair.stale

/-- The targets that this chip does not hold. -/
def State.shadowed (s : State) : Nat :=
  (List.range 55).foldl (fun a t => if s.holdsTarget t then a else a + 2 ^ t) 0

/-- What a keeper shows: the bitmap of the peer's last STATUS, or every target (R504). -/
def State.shownPeer (s : State) : Nat :=
  if s.pair.statusAt.isSome && s.pair.peerReady then s.pair.peerStale else allTargets

/-- READY (R504): a shadow whose link is up, without mismatch and without a stale target. -/
def State.ready (s : State) : Bool :=
  s.shadowed != 0 && s.bit PAIR_STAT_LINK_UP && !s.bit PAIR_STAT_DIGEST_MISMATCH && (s.ownStale &&& s.shadowed) = 0

/-- MIRROR_STALE of the ports, STALE0, STALE1 and READY (R504), with their events. -/
def State.refreshStale (s : State) : State :=
  let own := s.ownStale
  let peer := s.shownPeer
  let v := (List.range 55).foldl (fun a t => if (if s.holdsTarget t then peer else own).testBit t then a + 2 ^ t else a) 0
  let w0 := BitVec.ofNat 32 v
  let w1 := BitVec.ofNat 32 (v / 2 ^ 32)
  let s := if s.regs.get 0x60014 = w0 && s.regs.get 0x60018 = w1 then s else s.on PAIR_EVENT_STALE_CHANGE
  let s := { s with regs := (s.regs.set 0x60014 w0).set 0x60018 w1 }
  let s := s.putB PAIR_STAT_READY s.ready
  s.mapRooms fun p r =>
    if r.bit STATUS_MIRROR_STALE = v.testBit p.val then r else (r.putB STATUS_MIRROR_STALE (v.testBit p.val)).on EVENT_MIRROR_STALE

/-- Mark targets stale (R502). -/
def State.markStale (s : State) (ts : Nat) : State :=
  s.onPair fun x => { x with stale := x.stale ||| ts, got := x.got.zipIdx.map fun y => if ts.testBit y.2 then 0 else y.1 }

/-- A command of the pair: its effect, and what follows from it in the shown marking. -/
def pairAct (s : State) (c : Bool) (f : State → State) : Out := act s (s.paired && c) fun s => (f s).refreshStale

/-! ### Withdrawal by RELEASE (R490) -/

/-- A RELEASE_Ww of 1 takes effect while the peer is alive and READY. -/
def State.checkRelease (s : State) : State :=
  (List.finRange 2).foldl (fun s w =>
    if s.pairMode && s.releaseBit w && s.peerAlive && s.pair.peerReady && s.pair.statusAt.isSome then
      (s.withdraw w).refreshCon else s) s

/-! ### Takeover (R506, R507) -/

/-- The rate of a mirrored loop state: that of a soft start, of a detach, or SLEW (R240, R277, R282). -/
def Room.resumeRate (r : Room) : Room :=
  if r.loop = lSoftStart then r.setRate 5000 (r.fld LOOP_CFG_SS_T)
  else if r.loop = lSoftStop && !r.attached && r.conv.refUv < 1000000 * r.fld CON_CFG_SLEW * r.fld LOOP_CFG_DISCH_T then
    r.setRate r.conv.refUv (1000 * r.fld LOOP_CFG_DISCH_T)
  else r.slewRate

/-- The loop of a port resumes from its LOOP entry (R506, step 4); where the entry is old it starts under R281 with the mirrored
reference and state (R507). No trip of the time as shadow holds it (R505; log 158). -/
def State.resumeLoop (s : State) (p : Fin 48) : State :=
  let x := s.pair.loops.getD p.val ⟨0, 0, 0⟩
  let st := x.flags % 8
  let fresh : Bool := (s.pair.loopAt.getD (p.val / 8) none).elim false fun t => decide (s.now ≤ t + 100)
  s.onRoomE p fun e r =>
    let y : Int := if x.y < 2 ^ 23 then (x.y : Int) else (x.y : Int) - 2 ^ 24
    let cmd := x.flags.testBit 5
    let r := ((r.putB SW_STAT_CMD cmd).putB STATUS_SWITCH_ON cmd).putB SW_STAT_FULL (x.flags.testBit 6)
    let r := r.onConv fun c => { c with holds := [], flat := if r.bit CON_STAT_RAMPING then none else some e.now }
    if st = lShadow || st = lOff then r.loopOff
    else
      let ref := if fresh then x.ref else r.fld VSET_REF
      let r := if st = lReverse then (r.setLoop st).onConv fun c => { c with draw := 48000 * x.ref, eiPrev := 0 }
        else ((r.setRef (1000 * ref)).setLoop st).resumeRate
      let r := if st = lSoftStop && !r.attached then
          (r.onConv fun c => { c with openAtOff := true }).onCc fun c => { c with removing := true } else r
      if fresh then
        let h := r.highOf y
        (r.putB LOOP_STAT_ILIMITING (x.flags.testBit 3)).onConv fun c =>
          { c with y := [y, y, y], e := [0, 0, 0], ycl := if x.flags.testBit 3 then y else r.ymax, newHigh := [], high := h }
      else r.preBias

/-- A stale port (R507): ERROR_RECOVERY out of a running sequence, else its mirrored ILIM and Soft_Reset. -/
def Room.staleTakeover (e : Env) (r : Room) : Room :=
  if r.fld CON_STAT_SWAP != 0 || r.con.trans.isSome || r.bit CON_STAT_HR_SEQ then r.errorRecovery e
  else if r.attached then
    ((r.onCon fun c => { c with capMa := some (r.fld CON_LIM_ILIM) }).refreshIlim e).say (.mk' .softReset 0 0x0D [])
  else r

/-- Terminations and VCONN of the mirrored state are applied as they stand: no line is decoded anew and no debounce restarts
(R166). The Ra of the attach shows in PARTNER, or in VCONN being on. -/
def Room.resumeCc (e : Env) (r : Room) : Room :=
  let w := r.cc.mirror
  let von := CC_STAT_VCONN_ON.of w = 1 && r.attached
  let r := (((r.put CC_STAT_RP_ADV (CC_STAT_RP_ADV.of w)).put CC_STAT_VCONN_LOCK (CC_STAT_VCONN_LOCK.of w)).put
    CC_STAT_BUDGET_WAIT (CC_STAT_BUDGET_WAIT.of w)).putB CC_STAT_VCONN_ON von
  let r := (r.onPd fun d => { d with vconnAt := if von then some e.now else none }).onCc fun c =>
    { c with ra := r.fld CC_STAT_PARTNER = 2 || von, gaveVconn := r.ast = aSrc && !von
             retry := if CC_STAT_BUDGET_WAIT.of w = 1 then some e.now else none
             rpSafe := CC_STAT_RP_ADV.of w }
  let t1 := r.wantTerm e 1
  let t2 := r.wantTerm e 2
  r.onCc fun c => { c with term1 := t1, term2 := t2 }

/-- An ask or reservation that the mirror shows: its time counts from the takeover, and not at all in the swap steps that hold
it (R225). -/
def Room.resumeAsk (e : Env) (r : Room) : Room :=
  let held := r.fld CON_STAT_SWAP = 2 || r.fld CON_STAT_SWAP = 4
  r.onCon fun c => { c with askAt := e.now, held := 0
                            resvAt := if r.fld GRANT_ASK_STATE != 0 && !held then some e.now else none }

/-- A port is taken over (R506, step 3 and 4; R166). What it had received before it drove the line is no message to
acknowledge (R217). -/
def State.resumePort (s : State) (stale : Nat) (p : Fin 48) : State :=
  if s.pl.whole p.val then
    let s := s.onRoomE p fun e r => ((((if r.bit CTRL_ENABLE then r.on STATUS_KEEPER else r).onConv fun c =>
      { c with quiet := e.now + 1000 }).resumeCc e).resumeAsk e).refreshIlim e
    let s := s.onRoom p fun r => r.onPd fun d => { d with rx := none, gcrc := false, air := none }
    let s := if (s.room p).outOff then s.onRoom p fun r => if r.loop = lShadow then r.loopOff else r else s.resumeLoop p
    if stale.testBit p.val then s.onRoomE p Room.staleTakeover else s
  else s

/-- A slot resumes from its mirrored state (R334): its gate drive. -/
def Landing.resume (l : Landing) : Landing :=
  { l with gate := if l.st = hInrush then .servo else if l.powered then .full else .off
           fltN := decide (l.st = hRetry || l.st = hLatched) }

/-- Steps 3 and 4 of a takeover (R506), what its log waits for (R507), and the Pantry for a new Hall keeper (R380). -/
def State.takeWings (s : State) (ws : Nat) : State :=
  let stale := s.ownStale
  let list := (List.finRange 2).filter fun w => ws.testBit w.val
  let since := list.foldl (fun a w => min a (s.pair.clear.getD w.val s.now)) s.now
  let s := list.foldl (fun s w =>
    let s := (wingPorts w).foldl (fun s p => s.resumePort stale p) s
    (wingLands w).foldl (fun s b => s.onLand b Landing.resume) s) s
  let ports := (List.finRange 48).foldl (fun a p =>
    if ws.testBit (wingOf p).val && (s.pl.port p.val).present then a + 2 ^ p.val else a) 0
  let s := ((s.on PAIR_EVENT_TAKEOVER).onPair fun x =>
    { x with logAt := some since, logTb := x.clearTb, logW := ws, logPorts := ports }).logTakeover
  let before := s.pair.claims &&& (3 - ws)
  if s.hallKeeper && !(before.testBit 0 || (before.testBit 1 && !s.peerHolds 0)) then { s with pantry := { s.pantry with ramp := 0, pwm := 2 } } else s

end Sys2Proof.Machine
end

