-- ==== Sys2Proof/Machine/BusOps.lean ====
section
/-! DEFINITION. Machine/BusOps.lean: accesses over the Wing buses and the Hall register bus, and those of a Room core to its
own registers (01_house_architecture.md, R17 to R28, R55 to R63; the access rules of each chapter). -/

namespace Sys2Proof.Machine

/-- The effect of a command inside another one; its events are left to the outer command, which posts those of the whole
change. -/
def State.via (s : State) (f : State → Out) : State :=
  match f s with
  | .next t => { t with links := s.links }
  | _ => s

/-! ### Requesters and arbitration (R24) -/

/-- The external group in its round-robin order (R24). -/
def extOf : Req → Option Nat
  | .hl n => some n.val
  | .tw n => some (2 + n.val)
  | .dbg => some 6
  | _ => none

def isExt (r : Req) : Bool := (extOf r).isSome

/-- The Wing whose bus reaches a place; none for the Hall register bus. -/
def Loc.wingBus : Loc → Option (Fin 2)
  | .wing w _ => some (Fin.ofNat 2 w)
  | .land b _ => some (Fin.ofNat 2 (b / 3))
  | .roomReg p _ => some (Fin.ofNat 2 (p / 24))
  | .roomData p _ => some (Fin.ofNat 2 (p / 24))
  | .roomCode p _ => some (Fin.ofNat 2 (p / 24))
  | _ => none

/-- A place in EVR_PEND. -/
def Loc.evrPend : Option Loc → Bool
  | some (.hall a) => a / 4 = 0x60
  | _ => false

/-- A grant: the bus remembers its last external requester (R24), and the requester's last access is taken as good so
far. Line 24 stands until the Hall core's next access, but for a read of EVR_PEND itself (log 36) (log 105). -/
def State.busGrant (s : State) (r : Req) (l : Option Loc) : State :=
  let s := { s with rerr := false, hallErr := s.hallErr && (r != .hall || Loc.evrPend l) }
  match extOf r, l with
  | some i, some x =>
    (match x.wingBus with
     | some w => s.onWing w fun y => { y with lastExt := i }
     | none => { s with lastExt := i })
  | _, _ => s

/-! ### Access rules -/

/-- The groups of registers whose writes the holder sends on (R500). -/
def holderGroup : Loc → Bool
  | .hall a => a = 0x040 || a = 0x200 || a = 0x204 || within 0x240 a 0x248 || within 0x30000 a 0x30FFF || within 0x50000 a 0x50FFF
  | .wing _ _ => true
  | .land _ _ => true
  | .roomReg _ _ => true
  | _ => false

/-- A register of R500: one with an RW or W1S field. -/
def holderReg (l : Loc) : Bool := holderGroup l && (fieldsOf l).any fun f => f.acc = .rw || f.acc = .rwl || f.acc = .w1s

/-- This chip is keeper for a place; the Hall's registers go with the Hall keeper. -/
def State.keepsLoc (s : State) (l : Loc) : Bool :=
  match l.wingBus with
  | some w => s.keeps w
  | none => s.hallKeeper

/-- An access to a Room that is refused (R19, R20, R296, R359, R409, R675): ACCESS_ERR in the lead's EVENT (R56), and an
access error. -/
def State.roomRefuse (s : State) (r : Req) (p : Nat) : State :=
  (s.onRoom (s.lead (Fin.ofNat 48 p)) fun x => x.on EVENT_ACCESS_ERR).accessErr r

/-- A place in the Room window of an absent port, or one where a follower answers as an absent port does (R55, R60). A
follower ignores CTRL without an error (R61). -/
def State.absentLoc (s : State) : Loc → Bool
  | .roomReg p o => !(s.pl.port p).present || (s.pl.follower p && (!followerReg o || o = 0x004))
  | _ => false

/-- Staged registers (R402) by their place in the stage copy. -/
def stageIdx (o : Nat) : Option Nat :=
  if 0x100 ≤ o && o < 0x120 then some ((o - 0x100) / 4)
  else if o = 0x140 then some 8
  else if o = 0x144 then some 9
  else none

/-- Registers that take no Wing-bus write (R19, R409). -/
def noBusWrite (o : Nat) : Bool := (stageIdx o).isSome || o = 0x38C || o = 0x390 || o = 0x398 || o = 0x3A0

/-- Registers that take no write of the Room core (R61, R296, R359, R409, R675). -/
def noCoreWrite (o : Nat) : Bool :=
  o = 0x004 || o = 0x014 || o = 0x1C4 || o = 0x1CC || (0x1D0 ≤ o && o < 0x1F8) || (0x210 ≤ o && o < 0x220) || o = 0x228 ||
  o = 0x230 || (0x284 ≤ o && o < 0x294) || o = 0x2C8 || o = 0x2CC || o = 0x380 || o = 0x39C || (0x3B0 ≤ o && o < 0x3C0) ||
  o = 0x0A0 || (0x0E0 ≤ o && o < 0x100)

/-! ### Room registers -/

/-- A write of CTRL over the Wing bus (R61, R81, R163, R37, R387, R43). -/
def State.writeCtrl (s : State) (p : Fin 48) (v : Word) : State :=
  let l : Loc := .roomReg p.val 0x004
  let en := s.clampField l CTRL_ENABLE (CTRL_ENABLE.of v) = 1
  let fs := s.clampField l CTRL_FORCE_SAFE (CTRL_FORCE_SAFE.of v) = 1
  let s := if en = (s.room p).bit CTRL_ENABLE then s else s.via fun s => if en then execEnableSet p s else execEnableClear p s
  let s := if fs = (s.room p).bit CTRL_FORCE_SAFE then s else s.writeForce p fs
  let s := if CTRL_RESTART_CORE.of v = 1 then s.restartCore p else s
  if CTRL_RECOVER.of v = 1 then s.recover p else s

/-- A write of PD_CMD (PD_CMD; R187, R193, R207 to R210, R214): each agent's commands alone act. -/
def State.writePdCmd (s : State) (p : Fin 48) (core : Bool) (v : Word) : State :=
  let run (s : State) (f : Field) (ok : Bool) (g : State → Out) : State := if f.of v = 1 && ok then s.via g else s
  let s := run s PD_CMD_RX_POP core (execRxPop p)
  let s := run s PD_CMD_VDM_POP true (execVdmPop p)
  let s := run s PD_CMD_TX_RELEASE core (execTxRelease p)
  let s := run s PD_CMD_TX_WITHDRAW core (execTxWithdraw p)
  let s := run s PD_CMD_AMS_END core (execAmsEnd p)
  let s := run s PD_CMD_HVDM_SEND (!core) (execHvdmSend p)
  let s := run s PD_CMD_CABLE_DISC true (execCableDisc p)
  let s := run s PD_CMD_CABLE_RESET core (execCableReset p)
  run s PD_CMD_HARD_RESET true (execHardReset p)

/-- The comparator of a Threshold or its filter still shows the trip (R288, R293). -/
def Room.stillTrips (r : Room) (k : Nat) : Bool := (r.fld THR_STAT_RAW).testBit k || r.conv.filt.getD k false

/-- A W1C write of THR_FLAG (R294): the trip holds of a Threshold go with its latch (log 97). A latch whose comparator still
trips reads 1 (R18, R307). -/
def State.writeThrFlag (s : State) (p : Fin 48) (v : Word) : State :=
  (List.range 4).foldl (fun s k =>
    let m := v &&& ((flagOf k false).mask ||| (flagOf k true).mask)
    if m = 0 || (s.room p).stillTrips k then s else (s.writeReg (.roomReg p.val 0x228) m).untrip p.val k) s

/-- FILT_N of a THR register lies within (M + 1) ÷ 2 to M, with M = 3, 5 or 7 by FILT_M (R293). -/
def Room.clampFilt (o : Nat) (r : Room) : Room :=
  let d := o - 0x210
  let m := 3 + 2 * r.fld (THR_OV_FILT_M.shift d)
  r.put (THR_OV_FILT_N.shift d) (clampTo ((m + 1) / 2) m (r.fld (THR_OV_FILT_N.shift d)))

/-- A Wing-bus write of a converter register, in a whole port or a follower: COEF_APPLY, THR_FLAG, and the eFuse limit that
EF_LIMIT gives at once (R279, R280, R294). -/
def State.writeConv (s : State) (p : Fin 48) (o : Nat) (v : Word) : State :=
  let l : Loc := .roomReg p.val o
  if o = 0x1CC then
    (let s := s.writeReg l v
     if LOOP_CFG_COEF_APPLY.of v = 1 then s.via (execCoefApply p) else s)
  else if o = 0x228 then s.writeThrFlag p v
  else if o = 0x284 then (s.writeReg l v).onRoomE p Room.refreshIlim
  else if within 0x210 o 0x21F then (s.writeReg l v).onRoom p fun r => r.clampFilt o
  else s.writeReg l v

/-- A write of PORT_BUD (R45, R49): a maximum below the grant of a port that is no EGRESS port cuts the grant (log 56). -/
def State.writePortBud (s : State) (p : Fin 48) (v : Word) : State :=
  (s.writeReg (.roomReg p.val 0x2CC) v).onRoomE p fun e r => if e.port.cls = 0 then r else r.cutTo e (r.fld PORT_BUD_PMAX_W)

/-- Registers that Room core and Wing bus both write, and what follows from the write. -/
def State.writeShared (s : State) (p : Fin 48) (core : Bool) (o : Nat) (v : Word) : State :=
  let l : Loc := .roomReg p.val o
  if o = 0x048 then (if CC_CMD_ERROR_RECOVERY.of v = 1 then s.via (execErrorRecovery p) else s)
  else if o = 0x054 then
    (s.onRoom p fun r => r.put VCONN_CTRL_AUTO (s.clampField l VCONN_CTRL_AUTO (VCONN_CTRL_AUTO.of v))).via
      (execVconnEnWrite p (decide (VCONN_CTRL_EN.of v = 1)))
  else if o = 0x088 then s.writePdCmd p core v
  else if o = 0x158 then
    (if s.live p then s.via (execVsetWrite p (VSET_MV.of v)) else s.writeReg l v)
  else if o = 0x15C then
    (s.writeReg l v).onRoomE p fun e r => r.put CON_CFG_SLEW (min (r.fld CON_CFG_SLEW) e.port.slewMax)
  else if o = 0x160 then s.via (execGrantAsk p (GRANT_ASK_ASK_W.of v))
  else if o = 0x168 then
    (let s := s.writeReg l v
     if FRS_CTRL_TRIG.of v = 1 then s.via (execTrig p) else s)
  else if 0x300 ≤ o && o < 0x380 then s.writeTmr (.room p) ((o - 0x300) / 16) (o % 16 / 4) v
  else s.writeReg l v

/-- A Wing-bus write of a register of a whole port. -/
def State.writeRoom (s : State) (p : Fin 48) (o : Nat) (v : Word) : State :=
  if o = 0x004 then s.writeCtrl p v
  else if o = 0x1CC || o = 0x228 || o = 0x284 || within 0x210 o 0x21F then s.writeConv p o v
  else if o = 0x2CC then s.writePortBud p v
  else if o = 0x380 then s.writeHold p (decide (s.clampField (.roomReg p.val o) CORE_CTRL_HOLD (CORE_CTRL_HOLD.of v) = 1))
  else s.writeShared p false o v

/-- A word written over the Wing bus into a Room register window (R19, R21, R55, R60, R61, R409, R614). -/
def State.storeRoom (s : State) (r : Req) (p : Fin 48) (o : Nat) (v : Word) : State :=
  if !(s.pl.port p.val).present then s
  else if s.pl.follower p.val then
    (if s.absentLoc (.roomReg p.val o) then s else s.writeConv p o v)
  else if noBusWrite o then s.roomRefuse r p.val
  else if 0x3B0 ≤ o && o < 0x3C0 then (if r = .dbg && s.debugOn then s.writeReg (.roomReg p.val o) v else s)
  else s.writeRoom p o v

/-- A stage word after a write: each field by its access code and clamps, reserved bits as they were (R9, R10, R122,
R402). -/
def State.stageWord (s : State) (p : Fin 48) (o : Nat) (was v : Word) : Word :=
  let l : Loc := .roomReg p.val o
  (fieldsOf l).foldl (fun w f => f.into (s.fieldAfter l f false (f.of w) v) w) was

/-- A word written by a Room core to its own register window (R388, R402, R409, R591). -/
def State.coreStore (s : State) (p : Fin 48) (o : Nat) (v : Word) : State :=
  if noCoreWrite o then s.onRoom p fun x => x.on EVENT_ACCESS_ERR
  else match stageIdx o with
  | some i => s.onRoom p fun x => x.onCore fun c =>
      { c with stage := setAt c.stage i (s.stageWord p o (c.stage.getD i 0) v), dirty := true }
  | none =>
    if o = 0x38C then s.kick p (CORE_KICK_KEY.of v)
    else if o = 0x3A0 then s.onRoom p fun x => x.put DOORBELL_DB (x.fld DOORBELL_DB &&& (255 - DB_ACK_ACK.of v))
    else s.writeShared p true o v

/-! ### Landing, Wing and Hall registers -/

/-- A word written to a Landing register. -/
def State.storeLand (s : State) (b : Fin 6) (o : Nat) (v : Word) : State :=
  let l : Loc := .land b.val o
  if o = 0x40 then
    (let en := s.clampField l HS_CTRL_EN (HS_CTRL_EN.of v) = 1
     let s := if en = (s.land b).bit HS_CTRL_EN then s else s.via fun s => if en then execHsEnSet b s else execHsEnClear b s
     if HS_CTRL_RECOVER.of v = 1 && s.slotLive b then s.hsRecover b else s)
  else if o = 0x44 then s.via (execHsLimitWrite b v)
  else if 0x200 ≤ o && o < 0x280 then s.writeTmr (.land b) ((o - 0x200) / 16) (o % 16 / 4) v
  else match nodeAt l with
  | some n => s.writeNode l n.1 v
  | none => s.writeReg l v

/-- A word written to a Wing register. -/
def State.storeWing (s : State) (w : Fin 2) (o : Nat) (v : Word) : State :=
  let l : Loc := .wing w.val o
  if o = 0x104 then (if WING_CTRL_RESTART.of v = 1 then s.restartWing w else s)
  else match nodeAt l with
  | some n => s.writeNode l n.1 v
  | none => s.writeReg l v

/-- A word written to a Pantry register (R371, R373, R367, R369). -/
def State.storePan (s : State) (a : Nat) (v : Word) : State :=
  let l : Loc := .hall a
  if s.pl.pantry.isNone then s
  else if a = 0x50000 then
    let was := s.bit PAN_CTRL_EN
    let s := s.writeReg l v
    let en := s.bit PAN_CTRL_EN
    let s := if en = was then s else (s.putB PAN_CTRL_EN was).via (execPanEnWrite en)
    let s := if PAN_CTRL_START.of v = 1 then s.via execStart else s
    let s := if PAN_CTRL_RESTART.of v = 1 && s.panLive then s.panRestart else s
    s.enforce
  else
    let s := s.writeReg l v
    let s := (if a = 0x50004 then s.put CHG_SET_ICHG (min (s.fld CHG_SET_ICHG) s.panPlan.imax) else s).panLevels
    (if s.panLive then s.refreshChg else s).enforce

/-- A write of PWR_CTRL (R73, R84 to R86). A request meets the wake sources as the last slow-clock edge found them (log 57). -/
def State.writePwr (s : State) (v : Word) : State :=
  let key := PWR_CTRL_RESET_KEY.of v
  if key = 0xC3 then s.resetKey key else s.reqState (PWR_CTRL_REQ.of v) s.clk.wakeIn

/-- A write of PAIR_CTRL (R490, R502); the pair registers take none in single-chip mode (R480). -/
def State.writePair (s : State) (v : Word) : State :=
  if s.pairMode then
    let s := s.writeReg (.hall 0x60000) v
    let s := if PAIR_CTRL_RESYNC.of v = 1 then s.markStale s.shadowed else s
    s.checkRelease.refreshStale
  else s

/-- A word written to a Hall global register or a register of a global block. -/
def State.storeHall (s : State) (r : Req) (a : Nat) (v : Word) : State :=
  let l : Loc := .hall a
  if 0x74000 ≤ a && a < 0x75000 then
    (if 0x74048 ≤ a then s
     else if r = .dbg && s.debugOn then s.writeDbg (a - 0x74000) v else s.accessErr r)
  else if a = 0x040 then s.busMode r (HALL_MODE_MODE.of v)
  else if a = 0x04C then (s.writeReg l v).fireEval
  else if a = 0x088 then s.writePwr v
  else if a = 0x10C then (if TB_CTRL_LOAD.of v = 1 then s.loadTb else s)
  else if a = 0x140 then
    (let s := s.writeReg l v
     if SNAP_CTRL_TRIG.of v = 1 then s.snapTrig else s)
  else if 0x40000 ≤ a && a < 0x41000 then
    (if a = 0x40004 then s.setLocks (ATTIC_LOCK_LOCK.of v)
     else if a = 0x40008 then
      (if s.fuseMay r then
        (if within 1 (ATTIC_CMD_OP.of v) 5 then s.fuseStart (ATTIC_CMD_OP.of v) (s.bit ATTIC_STAT_VPP_OK) true else s)
       else s.accessErr r)
     else if 0x40020 ≤ a && a < 0x40040 then { s with regs := s.regs.set a v }
     else if a = 0x40058 then (if ENG_CTRL_VERIFY.of v = 1 then s.verifyStart else s)
     else s.writeReg l v)
  else if 0x50000 ≤ a && a < 0x50040 then s.storePan a v
  else if a = 0x60000 then s.writePair v
  else if 0x60000 ≤ a && a < 0x61000 then (if s.pairMode then s.writeReg l v else s)
  else if 0x70200 ≤ a && a < 0x70224 then
    (if isExt r then s.accessErr r
     else
      let s := s.writeReg l v
      if a = 0x70200 && HL_POST_HDR_GO.of v = 1 then s.postGo else s)
  else if 0x71100 ≤ a && a < 0x71180 && (fieldsOf l) != [] then
    (if r != .hall then s.accessErr r
     else
      let s := s.writeReg l v
      if a % 0x40 = 4 && TC_CMD_GO.of v = 1 then s.tcGo (Fin.ofNat 2 ((a - 0x71100) / 0x40)) else s)
  else if within 0x72004 a 0x72024 && a != 0x72008 && a != 0x72018 then (if r != .hall then s.accessErr r else s)
  else if within 0x73008 a 0x7300C || within 0x73014 a 0x73024 then
    (if r != .hall then s.accessErr r
     else if a = 0x7300C then
      (if JNL_CMD_OP.of v = 1 then s.jAppend s.jWin else if JNL_CMD_OP.of v = 2 then s.bootrec true else s)
     else s.writeReg l v)
  else match nodeAt l with
  | some n => s.writeNode l n.1 v
  | none => s.writeReg l v

/-! ### Bus writes -/

/-- A word written to a register by a requester, by R500 and R128 and the register's own rules. -/
def State.storeReg (s : State) (r : Req) (l : Loc) (v : Word) : State :=
  match l with
  | .roomReg p o => s.storeRoom r (Fin.ofNat 48 p) o v
  | .land b o => s.storeLand (Fin.ofNat 6 b) o v
  | .wing w o => s.storeWing (Fin.ofNat 2 w) o v
  | .hall a => s.storeHall r a v
  | _ => s

/-- The holder's write goes to the shadow as a WRITE record (R500). -/
def State.noteWrite (s : State) (r : Req) (l : Loc) (addr : Nat) (v : Word) : State :=
  if s.paired && (r = .hall || isExt r) && holderReg l && s.keepsLoc l && !s.rerr then
    s.onPair fun x => { x with writes := x.writes ++ [(addr, v)] }
  else s

/-- A register write over a bus (R128, R444, R500). -/
def State.regWrite (s : State) (r : Req) (l : Loc) (addr : Nat) (v : Word) : State :=
  if s.absentLoc l then s
  else if s.paired && r != .stair && holderReg l && !s.keepsLoc l then s.accessErr r
  else if isExt r && s.plan.isNone && l.wingBus.isSome then s
  else (s.storeReg r l v).noteWrite r l addr v

/-- The low bytes of a word, `size` of them. -/
def lowBytes (size : Nat) (v : Word) : List Byte := (wordBytes v).take size

/-- A write of `size` bytes over a bus (R19 to R21, R57, R389, R391, R622, R667, R668). A memory takes an access at a multiple
of its size, which is all that a requester can make (log 99) (log 100) (log 101). -/
def State.busStore (s : State) (r : Req) (addr size : Nat) (v : Word) : State :=
  let s := s.busGrant r (locate addr)
  if addr % size != 0 && !(match locate addr with | some (.roomReg _ _) => true | _ => false) then s.accessErr r
  else match locate addr with
  | none => s.accessErr r
  | some (.bootRom _) => s.accessErr r
  | some (.hallCode a) =>
    if !s.booted || (r = .dbg && s.debugOn && s.hall.halted) then { s with hallCode := putBytes s.hallCode a (lowBytes size v) }
    else s.accessErr r
  | some (.hallData a) => { s with hallData := putBytes s.hallData a (lowBytes size v) }
  | some (.roomData p a) => s.onRoom (Fin.ofNat 48 p) fun x => { x with data := putBytes x.data a (lowBytes size v) }
  | some (.roomCode p a) =>
    let c := (s.room (Fin.ofNat 48 p)).core
    if r = .dbg && s.debugOn && (c.halted || c.state = 5) then
      s.onRoom (Fin.ofNat 48 p) fun x => { x with code := putBytes x.code a (lowBytes size v) }
    else s.accessErr r
  | some l =>
    if size = 4 && addr % 4 = 0 then s.regWrite r l addr v
    else match l with
    | .roomReg p o =>
      if !(s.pl.port p).present || (s.pl.follower p && !followerReg (o / 4 * 4)) then s else s.roomRefuse r p
    | _ => s.accessErr r

/-! ### Bus reads -/

/-- The word that a 32-bit read of a register returns, and what the read changes (R9, R11, R132, R537, R583, R607). -/
def State.readReg (s : State) (l : Loc) : Word × State :=
  let w := woMask (fieldsOf l) (s.view l)
  let s := s.rcRead l
  let s := match l with
    | .hall a =>
      if a = 0x040 then { s with mode := { s.mode with changed := false } }
      else if a = 0x294 then s.put PLAN_RD_ADDR_ADDR (s.fld PLAN_RD_ADDR_ADDR + 1)
      else if a = 0x40054 then s.put FW_RD_ADDR_ADDR (s.fld FW_RD_ADDR_ADDR + 1)
      else if a = 0x73040 then s.put CEL_RD_ADDR_ADDR (s.fld CEL_RD_ADDR_ADDR + 1)
      else s
    | _ => s
  (w, s)

/-- Little-endian word of `size` bytes of a memory. -/
def memWord (m : Mem) (a size : Nat) : Word :=
  BitVec.ofNat 32 ((List.range size).foldl (fun x i => x + (m.get (a + i)).toNat * 256 ^ i) 0)

/-- A read of `size` bytes over a bus: data and error to its requester (R20, R21, R57, R621, R668) (log 98). -/
def State.busLoad (s : State) (r : Req) (addr size : Nat) : State :=
  let s := s.busGrant r (locate addr)
  match locate addr with
  | none => { s.accessErr r with rdata := 0 }
  | some (.bootRom a) => { s with rdata := subword addr size (Config.bootRom (a / 4)) }
  | some (.hallCode a) => { s with rdata := memWord s.hallCode a size }
  | some (.hallData a) => { s with rdata := memWord s.hallData a size }
  | some (.roomData p a) => { s with rdata := memWord (s.room (Fin.ofNat 48 p)).data a size }
  | some (.roomCode p a) => { s with rdata := memWord (s.room (Fin.ofNat 48 p)).code a size }
  | some l =>
    let l := match l with
      | .hall a => Loc.hall (a / 4 * 4)
      | .wing w o => .wing w (o / 4 * 4)
      | .land b o => .land b (o / 4 * 4)
      | .roomReg p o => .roomReg p (o / 4 * 4)
      | x => x
    if l = .hall 0x74018 && s.debugOn && !s.cregOk then { s.accessErr r with rdata := 0 }
    else if size = 4 then { (s.readReg l).2 with rdata := (s.readReg l).1 }
    else { s with rdata := subword addr size (woMask (fieldsOf l) (s.view l)) }

/-! ### The Room core's own accesses -/

/-- A Room register as its core reads it (R62, R402): stage copies, and nothing clears. -/
def State.coreView (s : State) (p : Fin 48) (o : Nat) : Word :=
  match stageIdx o with
  | some i => (s.room p).core.stage.getD i 0
  | none => woMask (fieldsOf (.roomReg p.val o)) (s.roomRead p o)

/-- A write of a Room core in its register window (R20, R61): a byte or halfword is refused. -/
def State.coreWrite (s : State) (p : Fin 48) (o size : Nat) (v : Word) : State :=
  if size = 4 then s.coreStore p o v else s.onRoom p fun x => x.on EVENT_ACCESS_ERR

end Sys2Proof.Machine
end

