-- ==== Sys2Proof/Machine/Boot.lean ====
section
/-! DEFINITION. Machine/Boot.lean: the boot ROM, from PLL lock to boot complete or recovery (02_clocks_reset_states.md R79
to R81, 03_plan_image.md R125 to R132, 16_attic_boot.md R531 to R538, 18_cellar_journal.md R567, R580). -/

namespace Sys2Proof.Machine

/-! ### The Cellar and the boot record -/

/-- Discovery (R567): CEL_ID and READY. -/
def State.discover (s : State) (d : Option Sfdp) : State :=
  match d with
  | none => s
  | some x => (((s.put CEL_ID_MFR x.mfr.toNat).put CEL_ID_DEVICE x.device.toNat).put CEL_ID_DENSITY x.density.toNat).on
      CEL_STAT_READY

/-- What the boot record gives (R531, R532): preferred slots, kinds on trial, TRIAL_LEFT. -/
structure BootPref where
  fw : Nat
  plan : Nat
  trial : Nat
  left : Nat
deriving DecidableEq, Repr

/-- The boot record is read (R531); without a valid copy BREC_BAD. -/
def State.bootRecord (s : State) : BootPref × State :=
  match (if s.bit CEL_STAT_READY then brecUsed s.cellar else none) with
  | none => (⟨0, 0, 0, 0⟩, s.on BOOT_STAT_BREC_BAD)
  | some (c, r) =>
    (⟨r.fwSlot % 2, r.planSlot % 2, r.trial % 4, r.left⟩,
      ((s.put BOOT_STAT_REC_COPY c).put CEL_STAT_BREC_COPY c).put BOOT_SEQ_SEQ r.seq)

/-- R532 before any image is examined: TRIAL_LEFT goes down in a new record, or each kind on trial takes its other slot. -/
def State.trialStep (s : State) (x : BootPref) (ok : Bool) : BootPref × State :=
  if x.trial = 0 then (x, s)
  else if x.left = 0 then
    ({ x with fw := if x.trial.testBit 0 then 1 - x.fw else x.fw
              plan := if x.trial.testBit 1 then 1 - x.plan else x.plan }, s.on BOOT_STAT_TRIAL_FB)
  else
    let s := s.writeBrec x.fw x.plan x.trial (x.left - 1) ok
    (x, if ok then s.put BOOT_SEQ_SEQ ((s.fld BOOT_SEQ_SEQ + 1) % 2 ^ 32) else s)

/-! ### The images (R533, R534) -/

/-- The slots examined, in order, with their results, and the slot that passed. -/
def examine (code : Nat → Nat) (pref : Nat) : List (Nat × Nat) × Option Nat :=
  if code pref = 0 then ([(pref, 0)], some pref)
  else ([(pref, code pref), (1 - pref, code (1 - pref))], if code (1 - pref) = 0 then some (1 - pref) else none)

/-- The envelope code of a slot at this boot (R533, R534, R567). -/
def State.bootCode (s : State) (b : BootFlash) (kind slot : Nat) : Nat :=
  if !s.bit CEL_STAT_READY then 1
  else
    let i := (if kind = 1 then 2 else 0) + slot
    s.imageCode kind slot (b.badHdr.getLsbD i) (b.badBody.getLsbD i)

/-- The verdict on a Plan slot: its envelope code, else 256 and more for the reason that R124 refuses it with. -/
def State.planCode (s : State) (b : BootFlash) (slot : Nat) : Nat :=
  let c := s.bootCode b 2 slot
  if c != 0 then c
  else match planError (s.slotBody 2 slot (s.slotHeader 2 slot)) with
  | none => 0
  | some e => 256 + e.code

/-- BOOT_STAT for the firmware slots examined. -/
def State.showFw (s : State) (l : List (Nat × Nat)) : State :=
  l.foldl (fun s x => s.put (if x.1 = 0 then BOOT_STAT_FW_R0 else BOOT_STAT_FW_R1) x.2) s

/-- BOOT_STAT, PLAN_STAT and ERR_LOC for a Plan slot examined (R125, R534). -/
def State.showPlanSlot (s : State) (x : Nat × Nat) : State :=
  let env := if 256 ≤ x.2 then 0 else x.2
  let s := s.put (if x.1 = 0 then BOOT_STAT_PL_R0 else BOOT_STAT_PL_R1) env
  let s := s.put (if x.1 = 0 then PLAN_STAT_REASON0 else PLAN_STAT_REASON1)
    (if 256 ≤ x.2 then x.2 - 256 else if x.2 = 0 then 0 else 1)
  if 256 ≤ x.2 then
    match planError (s.slotBody 2 x.1 (s.slotHeader 2 x.1)) with
    | some e => (s.put (if x.1 = 0 then ERR_LOC0_OFFSET else ERR_LOC1_OFFSET) e.off).put
        (if x.1 = 0 then ERR_LOC0_TYPE else ERR_LOC1_TYPE) e.type
    | none => s
  else s

/-! ### Applying the Plan: structure (R128, step 1) -/

/-- PWM_TIMING from the Plan: PER = round(480,000 ÷ FSW), PHASE of a follower = floor(k × PER ÷ size), LATE above 600 kHz
(R52, R266, R270, R276). -/
def Room.pwmTiming (pl : Plan) (p : Nat) (r : Room) : Room :=
  let fsw := (pl.entry p).fsw
  let per := (roundDiv 480000 fsw).toNat
  ((r.put PWM_TIMING_PER per).put PWM_TIMING_PHASE ((p - pl.leadOf p) * per / (pl.gangOf p).2)).putB PWM_TIMING_LATE
    (600 < fsw)

/-- ID of a Room from PORTS and GANGS (R104), PMAX_W, and the slot hold in which a present port begins (R326). -/
def Room.applyPlan (pl : Plan) (p : Nat) (r : Room) : Room :=
  let e := pl.port p
  let g := (pl.gangOf p).2
  let w := pl.whole p
  let r := r.put ID_PRESENCE (if !e.present then 0 else if pl.follower p then 3 else if g != 1 then 2 else 1)
  let r := r.put ID_GANG_SIZE (if !e.present then 0 else if g = 2 then 1 else if g = 4 then 2 else 0)
  let r := (r.put ID_CLASS (if w then e.cls else 3)).put ID_ROLE_CAP (if w then e.role else 3)
  let r := r.put ID_LEAD (if e.present then pl.leadOf p else p)
  let r := if w then r.put PORT_BUD_PMAX_W (min (e.imax * e.vmax / 1000000) 240) else r
  let r := if e.present then r.pwmTiming pl p else r
  let r := if w then r.put CON_CFG_SLEW (min (r.fld CON_CFG_SLEW) e.slewMax) else r
  { r with slotHold := w, regs := tmrShowRoutes (.room (Fin.ofNat 48 p)) (pl.routes (.room (Fin.ofNat 48 p))) r.regs }

/-- The limit and caps of a node at its CEILING (BUD_LIMIT, BUD_CAP0, BUD_CAP1). -/
def nodeCeil (c base : Nat) (m : Regs) : Regs :=
  (((m.put (BUD_LIMIT_LIMIT_W.shift base) c).put (BUD_CAP0_EGRESS.shift base) c).put (BUD_CAP0_ESSENTIAL.shift base) c).put
    (BUD_CAP1_COMFORT.shift base) c

/-- A Landing from SLOTS, TIMERS and BUDGET: class, plan maximum and levels, routes, ceilings. -/
def Landing.applyPlan (pl : Plan) (b : Fin 6) (l : Landing) : Landing :=
  let e := pl.slot b.val
  let l := l.put HS_STAT_CLASS (pl.slotClass b.val)
  let l := if e.present then (l.put HS_LIMIT_ILIM e.imax).levels e.rsense else l
  { l with regs := tmrShowRoutes (.land b) (pl.routes (.land b)) (nodeCeil (pl.node (3 + b.val)).ceiling 0xC0 l.regs) }

/-- TW_MATCH and TW_MAP of a port (R459). -/
def twShow (es : List TwEntry) (n : Nat) (m : Regs) : Regs :=
  let mine := es.filter (·.tw = n)
  let m := m.put (TW_MATCH_ADDR.shift (0x40 * n)) ((mine.zipIdx.map fun x => (x.1.addr + 128) * 256 ^ x.2).sum)
  mine.foldl (fun m e =>
    ((m.put (TW_MAP_MASK.shift (0x40 * n)) e.mask).put (TW_MAP_PORT_INDEXED.shift (0x40 * n)) e.portIndexed.toNat).put
      (TW_MAP_BASE_PORT.shift (0x40 * n)) (if e.portIndexed then e.base % 64 else 0)) m

/-- Structure: presence, gangs, routes, budget tree, two-wire maps, Hearth constants under the grade limit (R663), and the
Pantry's levels. -/
def State.applyStructure (s : State) (pl : Plan) : State :=
  let s := { s with plan := some pl, matchers := pl.twowire }
  let s := s.mapRooms fun p r => r.applyPlan pl p.val
  let s := s.mapLands fun b l => l.applyPlan pl b
  let s := (List.finRange 2).foldl (fun s w => s.onWing w fun x =>
    { x with regs := nodeCeil (pl.node (1 + w.val)).ceiling 0xC0 x.regs }) s
  let s := { s with regs := (List.range 4).foldl (fun m n => twShow pl.twowire n m) (nodeCeil (pl.node 0).ceiling 0x240 s.regs) }
  let s := if pl.pantry.isSome then (s.put CHG_SET_ICHG (min (s.fld CHG_SET_ICHG) s.panPlan.imax)).panLevels.refreshChg else s
  let high := Config.gradeHigh ((List.range 13).map fun i => s.attic.shadow.get (2 + i))
  { s with hearth := { s.hearth with gradeHigh := high } }.startHearth.onClk fun c => { c with cold := false }

/-- Room programs (R128, step 2). -/
def State.bootCores (s : State) : State :=
  (List.finRange 48).foldl (fun s p =>
    if s.pl.whole p.val then s.bootCore p
    else if s.pl.follower p.val then s.onRoom p fun r => r.onCore fun c => { c with state := 5 } else s) s

/-! ### Settings (R129, R580) -/

/-- The first committed SETTING record of an ID, going back from the newest; `ended` once an IMAGE_END has been read. -/
def bootLookup (id : Nat) (ended : Bool) : List JRec → Option JRec
  | [] => none
  | r :: l =>
    if r.type = 1 || (r.type = 3 && ended) then none
    else if r.type = 2 && r.key = id then (if r.flags.testBit 1 then none else some r)
    else bootLookup id (ended || r.type = 4) l

/-- A value lies within MIN and MAX (R123). -/
def SettingRec.admits (e : SettingRec) (v : Nat) : Bool :=
  if e.flags.testBit 2 then decide (sgn32 e.min ≤ sgn32 v ∧ sgn32 v ≤ sgn32 e.max) else within e.min v e.max

/-- The word that a write of one field presents: the other RW fields as they stand. -/
def State.fieldWord (s : State) (l : Loc) (f : Field) (v : Nat) : Word :=
  f.into v ((fieldsOf l).foldl (fun (w : Word) g =>
    if g.acc = .rw || g.acc = .rwl then w ||| (s.view l &&& g.mask) else w) 0)

/-- A value goes to its TARGET, or to the Hall firmware (R123, R129). -/
def State.putSetting (s : State) (e : SettingRec) (v : Nat) : State :=
  if e.target = 0 then { s with fwSet := s.fwSet.set e.id (BitVec.ofNat 32 v) }
  else match locate e.target with
  | none => s
  | some l => match rwField l e.lsb e.width with
    | none => s
    | some f => s.storeReg .hall l (s.fieldWord l f v)

/-- One entry (R129): the Journal's value under the Plan's SCHEMA and within range, else DEFAULT; a JOURNALED value that
is not taken is kept for its report (R563). -/
def State.bootSetting (s : State) (rs : List JRec) (e : SettingRec) : State :=
  match bootLookup e.id false rs with
  | none => s.putSetting e e.dflt
  | some r =>
    let v := u32 r.data 4
    if u16 r.data 0 = s.pl.schema && e.admits v then s.putSetting e v
    else
      let s := s.putSetting e e.dflt
      if e.flags.testBit 0 then
        { s with porch := { s.porch with resets := s.porch.resets ++ [(e.id, u16 r.data 0)] } } else s

/-- Every Settings entry, in ascending ID order (log 89). -/
def State.bootSettings (s : State) : State :=
  let rs := (s.jGroups.flatten).reverse
  { (s.pl.settings.foldl (fun s e => s.bootSetting rs e) s) with rerr := false, hallErr := false }

/-! ### Boot complete and recovery -/

/-- A STAGED record of the Journal (R551). -/
def State.stagedRec (s : State) (kind : Nat) : Option Staged :=
  (List.range 2).findSome? fun slot =>
    match s.jFind 6 (256 * kind + slot) with
    | some (h :: t) => some ⟨slot, t.flatMap (·.data), u32 h.data 0, u16 h.data 4⟩
    | _ => none

/-- UPD_STAT.STAGED from the images held. -/
def State.showStaged (s : State) : State :=
  s.put UPD_STAT_STAGED ((s.porch.staged.zipIdx.map fun x => if x.1.isSome then 2 ^ x.2 else 0).sum)

/-- The Hall core starts (R536), or halts before its first instruction (R616). -/
def State.startHall (s : State) (fw : List Byte) : State :=
  let s := { s with
    hallCode := memOf (bslice fw 32 (fwCodeLen fw)), hallData := memOf (bslice fw (32 + fwCodeLen fw) (fwDataLen fw))
    hall := { Core.reset with pc := BitVec.ofNat 32 (0x20000000 + fwEntry fw)
                              evBase := BitVec.ofNat 32 (0x20000000 + fwEvOff fw), state := 1 } }
  if s.bit DBG_CTRL_HALT_ON_BOOT then s.haltCore .hall 5 0 else s

/-- A pair member starts as shadow of both Wings (R287, R480, R488). -/
def State.startPair (s : State) : State :=
  let s := (List.finRange 48).foldl (fun s p =>
    if s.pl.whole p.val then s.onRoom p fun r => r.setLoop lShadow else s) s
  let s := ((s.on PAIR_STAT_PAIR_MODE).on STAIR_STAT_TX_ON).onPair fun x => { x with clear := [s.now, s.now] }
  (s.refreshPeer 2).refreshStale.refreshKeeper

/-- Slots and the ports that the applied Settings enable start (R81, R317). -/
def State.startPorts (s : State) : State := (List.finRange 6).foldl State.slotSettle s

/-- Boot complete (R79, R128, R536): both kinds have passed. A FIRE_N that is low writes FIRE (R605). -/
def State.bootComplete (s : State) (x : BootPref) (fwSlot planSlot : Nat) : State :=
  let fh := s.slotHeader 1 fwSlot
  let fw := s.slotBody 1 fwSlot fh
  let body := s.slotBody 2 planSlot (s.slotHeader 2 planSlot)
  let pl := planOf body
  let trial := (if x.trial.testBit 0 && fwSlot = x.fw && !s.bit BOOT_STAT_TRIAL_FB then 1 else 0) +
    (if x.trial.testBit 1 && planSlot = x.plan && !s.bit BOOT_STAT_TRIAL_FB then 2 else 0)
  let s := { s with fwStore := fw, fwDigest := Config.sha384 fw, planStore := body, planDigest := Config.sha384 body }
  let s := ((s.put BOOT_STAT_FW_SLOT fwSlot).put FW_VERSION_VERSION (hdrVersion fh)).put UPD_STAT_TRIAL trial
  let s := (((s.applyStructure pl).bootCores).onClk fun c => { c with phase := .run, bootAt := s.now }).jnlOpen
  let s := s.bootSettings
  let s := ((s.on PLAN_STAT_APPLIED).put PLAN_STAT_SLOT planSlot).putB PLAN_STAT_PAIR_MODE pl.pairMode
  let s := (((((s.put PLAN_ID_ID pl.planId).put PLAN_REV_REV pl.planRev).put PLAN_FMT_MAJOR 1).put PLAN_FMT_MINOR
    (pl.fmtMinor % 256))).put PLAN_FMT_SCHEMA pl.schema
  let s := { s with porch := { s.porch with staged := [s.stagedRec 1, s.stagedRec 2] }, hbeatAt := s.now }
  let s := ((s.showStaged.on HB_STAT_ARMED).on PWR_STAT_BOOT_DONE).startHall fw
  (if pl.pairMode then s.startPair else s.startPorts).fireEval

/-- Recovery (R80, R536, R538). -/
def State.toRecovery (s : State) : State :=
  ((s.on BOOT_STAT_RECOVERY).on PORCH_STAT_RECOVERY).onClk fun c => { c with phase := .recovery }

/-- The boot ROM from step 3 on (R79). Where no slot is examined, R532 does not act either (log 58) (log 91). -/
def State.boot (s : State) (b : BootFlash) : State :=
  let s := s.readAttic
  let s := s.setLocks (bootLocks s.attic.lc (s.bit ATTIC_STAT_DBG_DISABLE))
  let s := s.discover b.sfdp
  let r := s.bootRecord
  if s.attic.lc = 0 || s.attic.lc = 3 || !s.attic.trimOk then r.2.toRecovery
  else
    let t := r.2.trialStep r.1 b.recOk
    let s := t.2
    let fw := examine (s.bootCode b 1) t.1.fw
    let pn := examine (s.planCode b) t.1.plan
    let s := pn.1.foldl State.showPlanSlot (s.showFw fw.1)
    match fw.2, pn.2 with
    | some f, some p => s.bootComplete t.1 f p
    | some f, none =>
      let body := s.slotBody 1 f (s.slotHeader 1 f)
      { s with fwStore := body, fwDigest := Config.sha384 body }.toRecovery
    | none, some p =>
      let body := s.slotBody 2 p (s.slotHeader 2 p)
      { s with plan := none, planStore := body, planDigest := Config.sha384 body }.toRecovery
    | none, none => s.toRecovery

/-- PLL_LOCK (R79, steps 2 to 7): at boot, where the slow ticks elapsed since the end of the reset go into the time base
(R92, R416), and on a wake from SLEEP, whose remaining steps SLEEP_WAKE takes (log 117). -/
def execPllLock (b : BootFlash) (s : State) : Out :=
  act s ((s.clk.phase = .pll || s.clk.phase = .waking) && s.bit CLK_STAT_XTAL_OK) fun s =>
    let s := s.on CLK_STAT_PLL_LOCK
    if s.clk.phase = .waking then s else s.makeUp.boot b

end Sys2Proof.Machine
end

