-- ==== Sys2Proof/Machine/Bus.lean ====
section
/-! DEFINITION. Machine/Bus.lean: the commands that are accesses to registers (01_house_architecture.md and the registers of
each chapter). A read command names no requester: the data that it returns stands in `rdata`. -/

namespace Sys2Proof.Machine

/-- REGISTER_WRITE (R17 to R21, R28, R57 to R61, R122): a write by a Room core to its own window or by a requester over
a bus, in the order in which the commands come. -/
def execRegisterWrite (a : Agent) (addr size : Nat) (v : Word) (s : State) : Out :=
  match a with
  | .core p => act s (s.whole p && addr < 0x400) fun s => s.coreWrite p addr size v
  | .bus r => act s s.clocked fun s => s.busStore r addr size v

/-- A 32-bit read of a register whose bits the read clears (R9) (log 106). -/
def readAct (s : State) (l : Loc) : Out :=
  act s s.clocked fun s => { (s.readReg l).2 with rdata := (s.readReg l).1, rerr := false }

/-- FAULT_READ (R62). -/
def execFaultRead (p : Fin 48) (s : State) : Out := readAct s (.roomReg p.val 0x00C)
/-- PD_ERRCNT_READ (R172). -/
def execPdErrcntRead (p : Fin 48) (s : State) : Out := readAct s (.roomReg p.val 0x094)
/-- THR_CNT_READ (R293). -/
def execThrCntRead (p : Fin 48) (s : State) : Out := readAct s (.roomReg p.val 0x22C)
/-- HS_FAULT_READ (R329). -/
def execHsFaultRead (b : Fin 6) (s : State) : Out := readAct s (.land b.val 0x060)
/-- LAND_FAULT_READ (R591). -/
def execLandFaultRead (b : Fin 6) (s : State) : Out := readAct s (.land b.val 0x148)
/-- WING_FAULT_READ (R591): of WING_FAULT or of WING_CAL. -/
def execWingFaultRead (w : Fin 2) (cal : Bool) (s : State) : Out := readAct s (.wing w.val (if cal then 0x108 else 0x100))
/-- PANTRY_FAULT_READ (R378). -/
def execPantryFaultRead (s : State) : Out := readAct s (.hall 0x50034)
/-- RESET_CAUSE_READ (R73). -/
def execResetCauseRead (s : State) : Out := readAct s (.hall 0x09C)
/-- WAKE_CAUSE_READ (R90). -/
def execWakeCauseRead (s : State) : Out := readAct s (.hall 0x094)
/-- PWR_STAT_READ (R85). -/
def execPwrStatRead (s : State) : Out := readAct s (.hall 0x08C)
/-- HALL_MODE_READ (R607). -/
def execHallModeRead (s : State) : Out := readAct s (.hall 0x040)
/-- HL_ERR_READ (R436): of HL_ERR of link 0 or 1, or of PORCH_ERR. -/
def execHlErrRead (n : Fin 3) (s : State) : Out :=
  readAct s (.hall (if n.val < 2 then 0x7000C + 0x100 * n.val else 0x72008))
/-- TW_ERR_READ (R471). -/
def execTwErrRead (n : Fin 4) (s : State) : Out := readAct s (.hall (0x71010 + 0x40 * n.val))
/-- STAIR_ERR_READ (R495). -/
def execStairErrRead (s : State) : Out := readAct s (.hall 0x60010)
/-- ATTIC_RESULT_READ (R523). -/
def execAtticResultRead (s : State) : Out := readAct s (.hall 0x40014)
/-- JNL_RESULT_READ (R574). -/
def execJnlResultRead (s : State) : Out := readAct s (.hall 0x73010)
/-- TB_CTRL_READ (R412). -/
def execTbCtrlRead (s : State) : Out := readAct s (.hall 0x10C)
/-- HB_STAT_READ (R592). -/
def execHbStatRead (s : State) : Out := readAct s (.hall 0x054)

/-- SUBWORD_READ (R20, R668): clears nothing. -/
def execSubwordRead (a : Agent) (addr size : Nat) (s : State) : Out :=
  match a with
  | .core p => act s (s.whole p && addr < 0x400) fun s =>
      { s with rdata := subword addr size (s.coreView p (addr / 4 * 4)), rerr := false }
  | .bus r => act s s.clocked fun s => s.busLoad r addr size

/-- PLAN_RD_DATA_READ (R132): a word of the Plan store, and ADDR goes on by 4. -/
def execPlanRdDataRead (s : State) : Out := readAct s (.hall 0x294)
/-- FW_RD_DATA_READ (R537). -/
def execFwRdDataRead (s : State) : Out := readAct s (.hall 0x40054)
/-- CEL_RD_DATA_READ (R583). -/
def execCelRdDataRead (s : State) : Out := readAct s (.hall 0x73040)

/-- VERIFY (R519, R552): a write of 1 to ENG_CTRL.VERIFY. -/
def execVerify (s : State) : Out := act s s.clocked State.verifyStart

/-- VERIFY_DONE (R552) (log 108). -/
def execVerifyDone (s : State) : Out :=
  match s.attic.verify with
  | none => .next s
  | some x => act s s.clocked fun s => s.verifyEnd x.1 x.2

end Sys2Proof.Machine
end

