-- ==== Sys2Proof/Machine/FrameOps.lean ====
section
/-! DEFINITION. Machine/FrameOps.lean: the frames of host links and Porch (13_host_link.md R434 to R440,
17_field_update.md R542 to R544). -/

namespace Sys2Proof.Machine

/-- Bytes 0 to 5 + LEN of a frame (R435). -/
def frameBody (type : Nat) (res : Byte) (seq : Nat) (payload : List Byte) : List Byte :=
  [BitVec.ofNat 8 type, res] ++ leBytes 2 seq ++ leBytes 2 payload.length ++ payload

/-- The unstuffed bytes of a frame that the block sends (R435). -/
def frameBytes (type seq : Nat) (payload : List Byte) : List Byte :=
  let b := frameBody type 0 seq payload
  b ++ leBytes 4 (crc32c b)

/-! ### The line (R434) -/

/-- Byte stuffing (R434). -/
def stuff (b : List Byte) : List Byte :=
  b.flatMap fun x => if x = 0x7E#8 || x = 0x7D#8 then [0x7D#8, x ^^^ 0x20#8] else [x]

/-- A frame as sent: an opening flag, the stuffed bytes, a closing flag (R434). -/
def wire (b : List Byte) : List Byte := 0x7E#8 :: stuff b ++ [0x7E#8]

/-- What follows the flags that open a frame; consecutive flags count as one, and bytes before a flag are ignored (R434,
R437). -/
def opened (line : List Byte) : List Byte := (line.dropWhile (· != 0x7E#8)).dropWhile (· = 0x7E#8)

/-- The bytes of a received frame between its flags. -/
def between (line : List Byte) : List Byte := (opened line).takeWhile (· != 0x7E#8)

/-- The frame has its closing flag. An empty frame has none: it is ignored (R434). -/
def closed (line : List Byte) : Bool := (opened line).contains 0x7E#8

/-- The bytes without stuffing; none where the last 0x7D is followed by the closing flag (R436, R437). -/
def unstuff : List Byte → Option (List Byte)
  | [] => some []
  | [x] => if x = 0x7D#8 then none else some [x]
  | x :: y :: l =>
    if x = 0x7D#8 then (unstuff l).map ((y ^^^ 0x20#8) :: ·) else (unstuff (y :: l)).map (x :: ·)

/-- A frame that counts as received, with its TYPE (R435, R436): the length is LEN + 10 and the CRC is correct. -/
def readFrame (line : List Byte) : Option (Nat × Frame) :=
  if !closed line then none
  else match unstuff (between line) with
  | none => none
  | some b =>
    let n := b.length - 4
    if b.length = u16 b 4 + 10 && crc32c (b.take n) = u32 b n then
      some (u8 b 0, ⟨b.getD 1 0, BitVec.ofNat 16 (u16 b 2), bslice b 6 (u16 b 4)⟩)
    else none

/-- The characters of a line are a frame of a TYPE (R436). -/
def typed (line : List Byte) (type : Nat) : Option Frame :=
  match readFrame line with
  | some (t, f) => if t = type then some f else none
  | none => none

/-- The CRC of a received frame (R435, R436). -/
def frameCrc (type : Nat) (f : Frame) : Nat := crc32c (frameBody type f.res f.seq.toNat f.payload)

/-- The reply to a command (R438, R544). -/
def replyBytes (type : Nat) (f : Frame) (payload : List Byte) : List Byte := frameBytes (type + 0x80) f.seq.toNat payload

/-- The command repeats the one that a stored reply answers (R439, R543). -/
def Reply.answers (r : Reply) (type : Nat) (f : Frame) : Bool := r.seq = f.seq && r.crc = frameCrc type f

/-- The reply to a TYPE that no table lists: TYPE 0xFF, UNKNOWN, the TYPE received (R440). -/
def unknownReply (type : Nat) (f : Frame) : List Byte := frameBytes 0xFF f.seq.toNat [4, BitVec.ofNat 8 type]

/-- Links and target ports serve: from the boot sequence on, which the phase before PLL lock stands for (log 70). -/
def State.serving (s : State) : Bool := s.clocked || s.clk.phase = .pll

/-- Frames are accepted: not from step 4 of a state request on (table "Entry sequence"). -/
def State.listens (s : State) : Bool := s.serving && !(s.bit PWR_STAT_PENDING && 4 ≤ s.clk.step)

/-- The payload of a refused command: STATUS, `known`, and `n` bytes of fields that no rule gives then (log 68). -/
def State.refusal (s : State) (status : Nat) (known : List Byte) (n : Nat) : List Byte × State :=
  let f := s.freeBytes n
  (BitVec.ofNat 8 status :: known ++ f.1, f.2)

end Sys2Proof.Machine
end

