-- ==== Sys2Proof/Machine/Debug.lean ====
section
/-! DEFINITION. Machine/Debug.lean: the serial debug port (20_debug.md). An operation carries the 12 bits of its header, a
write its data and CRC; what the port drives stands in `State.dbg`. -/

namespace Sys2Proof.Machine

def State.onDbg (s : State) (f : Dbg → Dbg) : State := { s with dbg := f s.dbg }

/-! ### The line (R609, R610) -/

/-- CHK of a header: CRC-4 with polynomial x⁴ + x + 1 over OP and TAG, most significant bit first (R609). -/
def dbgChk (op : BitVec 4) (tag : BitVec 2) : BitVec 4 :=
  let bits : BitVec 6 := op ++ tag
  (List.range 6).foldl (fun (c : BitVec 4) i =>
    if c.getLsbD 3 != bits.getLsbD (5 - i) then (c <<< 1) ^^^ 3#4 else c <<< 1) 0

/-- CRC of the 32 data bits, most significant bit first (R609). -/
def dbgCrc (w : Word) : BitVec 8 := crc8 (wordBytes w).reverse

/-- The operations of the table "Debug operations". -/
def dbgOps : List (BitVec 4) := [1, 2, 3, 4, 5, 6, 9]

/-- OP of a header's 12 bits, SYNC, OP, TAG and CHK, the first sent in bit 11; none where SYNC, CHK or OP is bad (R610). -/
def dbgOpOf (h : BitVec 12) : Option (BitVec 4) :=
  let op := h.extractLsb' 6 4
  if h.extractLsb' 10 2 = 2#2 && h.extractLsb' 0 4 = dbgChk op (h.extractLsb' 4 2) && dbgOps.contains op then some op
  else none

/-- TAG of a header. -/
def dbgTag (h : BitVec 12) : BitVec 2 := h.extractLsb' 4 2

abbrev respOk : Nat := 0b0110
abbrev respBusy : Nat := 0b0101
abbrev respError : Nat := 0b1010
abbrev respDenied : Nat := 0b1100

/-- The bits of a field, most significant first (R609). -/
def sentBits (n v : Nat) : List Bool := (List.range n).map fun i => v.testBit (n - 1 - i)

/-- What the device drives in a transaction (R609): TAG and RESP, and for a read DATA and CRC. -/
def dbgSends (tag : BitVec 2) (resp : Nat) (data : Option Word) : List Bool :=
  sentBits 2 tag.toNat ++ sentBits 4 resp ++
    (match data with | some w => sentBits 32 w.toNat ++ sentBits 8 (dbgCrc w).toNat | none => [])

/-- The response of a transaction, with read data where it sends any. -/
def State.respond (s : State) (h : BitVec 12) (resp : Nat) (data : Option Word) : State :=
  s.onDbg fun d => { d with out := dbgSends (dbgTag h) resp data }

/-- What an operation that R612 does not always answer OK gets. -/
def State.dbgBars (s : State) : Nat :=
  if !s.debugOn then respDenied
  else if s.dbg.err || s.dbg.chkErr then respError
  else if s.dbg.acc.isSome then respBusy
  else respOk

/-- An operation in the order of priority of R612. -/
def State.dbgOp (s : State) (h : BitVec 12) (data : Option Word) (f : State → State) : State :=
  if s.dbgBars = respOk then f (s.respond h respOk data) else s.respond h s.dbgBars none

/-- A write is performed, and its TAG and CRC are kept (R612); with a wrong CRC it is not, and sets CHK_ERR (R613). -/
def State.dbgPerform (s : State) (h : BitVec 12) (data : Word) (crc : BitVec 8) (f : State → State) : State :=
  if crc != dbgCrc data then s.onDbg fun d => { d with chkErr := true }
  else (f s).onDbg fun d => { d with lastWr := some ((dbgTag h).toNat, crc.toNat) }

/-- WR_ADDR and WR_DATA (R612): not performed again where they repeat the last write. -/
def State.dbgWr (s : State) (h : BitVec 12) (data : Word) (crc : BitVec 8) (f : State → State) : State :=
  s.dbgOp h none fun s =>
    if crc = dbgCrc data && s.dbg.lastWr = some ((dbgTag h).toNat, crc.toNat) then s else s.dbgPerform h data crc f

/-! ### Operations (R612) -/

/-- A transaction whose header names the operation. -/
def State.dbgTakes (s : State) (op : BitVec 4) (h : BitVec 12) : Bool := s.serving && dbgOpOf h = some op

/-- The identification that IDCODE returns. -/
def State.idcode (s : State) : Word := BitVec.ofNat 32 (0x48600000 + (s.regs.get 0x004).toNat % 65536)

/-- The port status (RD_STAT). -/
def State.dbgStat (s : State) : Word :=
  BitVec.ofNat 32 (s.debugOn.toNat + 2 * s.dbg.acc.isSome.toNat + 4 * s.dbg.err.toNat + 8 * s.dbg.chkErr.toNat +
    16 * s.fld ATTIC_STAT_LIFECYCLE + 64 * ((s.dbg.lastWr.map (·.1)).getD 0))

/-- IDCODE (R612). -/
def execIdcode (header : BitVec 12) (s : State) : Out :=
  act s (s.dbgTakes 1 header) fun s => s.respond header respOk (some s.idcode)
/-- RD_STAT (R612). -/
def execRdStat (header : BitVec 12) (s : State) : Out :=
  act s (s.dbgTakes 2 header) fun s => s.respond header respOk (some s.dbgStat)
/-- RD_BUF (R612). -/
def execRdBuf (header : BitVec 12) (s : State) : Out :=
  act s (s.dbgTakes 5 header) fun s => s.dbgOp header (some (s.regs.get 0x74044)) id

/-- ADDR advances by 4. -/
def State.dbgNext (s : State) : State := s.put DBG_ADDR_ADDR ((s.fld DBG_ADDR_ADDR + 4) % 2 ^ 32)

/-- RD_DATA (R612): the read buffer as it stands; a read at ADDR starts. -/
def execRdData (header : BitVec 12) (s : State) : Out :=
  act s (s.dbgTakes 4 header) fun s => s.dbgOp header (some (s.regs.get 0x74044)) fun s =>
    (s.onDbg fun d => { d with acc := some (none, s.fld DBG_ADDR_ADDR) }).dbgNext
/-- WR_ADDR (R612). -/
def execWrAddr (header : BitVec 12) (data : Word) (crc : BitVec 8) (s : State) : Out :=
  act s (s.dbgTakes 3 header) fun s => s.dbgWr header data crc fun s => s.put DBG_ADDR_ADDR (data.toNat / 4 * 4)
/-- WR_DATA (R612): a write at ADDR starts. -/
def execWrData (header : BitVec 12) (data : Word) (crc : BitVec 8) (s : State) : Out :=
  act s (s.dbgTakes 6 header) fun s => s.dbgWr header data crc fun s =>
    (s.onDbg fun d => { d with acc := some (some data, s.fld DBG_ADDR_ADDR) }).dbgNext
/-- DBG_ABORT (R612): an access that has not completed has not been granted (log 75). -/
def execDbgAbort (header : BitVec 12) (data : Word) (crc : BitVec 8) (s : State) : Out :=
  act s (s.dbgTakes 9 header) fun s => (s.respond header respOk none).dbgPerform header data crc fun s =>
    s.onDbg fun d => { d with err := false, chkErr := false, acc := none }

/-- CHK_ERR (R610): a header with a bad SYNC, CHK or OP; the device drives nothing. -/
def execChkErr (header : BitVec 12) (s : State) : Out :=
  act s (s.serving && dbgOpOf header = none) fun s => s.onDbg fun d => { d with chkErr := true, out := [] }

/-- A transaction ends without its response (R611). -/
def Dbg.lineEnd (d : Dbg) : Dbg := { d with err := false, chkErr := false, out := [] }

/-- LINE_RESET (R611). -/
def execLineReset (s : State) : Out := act s s.serving fun s => s.onDbg Dbg.lineEnd
/-- DBG_TIMEOUT (R611): ended in the same way. -/
def execDbgTimeout (s : State) : Out := act s s.serving fun s => s.onDbg Dbg.lineEnd

/-- An access error of the debug port sets ERR (R613). -/
def State.dbgErr (s : State) : State := if s.rerr then s.onDbg fun d => { d with err := true } else s

/-- DBG_ACCESS_DONE (R613): the bus access that is in progress. -/
def execDbgAccessDone (s : State) : Out :=
  match s.dbg.acc with
  | none => .next s
  | some (some v, a) =>
    act s s.serving fun s => ((s.onDbg fun d => { d with acc := none }).busStore .dbg a 4 v).dbgErr
  | some (none, a) =>
    act s s.serving fun s =>
      let s := (s.onDbg fun d => { d with acc := none }).busLoad .dbg a 4
      (s.put DBG_RBUF_DATA (if s.rerr then 0 else s.rdata.toNat)).dbgErr

/-! ### Halting and stepping -/

/-- The debug port's registers take a write. -/
def State.dbgMay (s : State) : Bool := s.clocked && s.debugOn

/-- HALT (R616): a write of a core's bit in DBG_HALT0 or DBG_HALT1. -/
def execHalt (c : CoreId) (on : Bool) (s : State) : Out := act s s.dbgMay fun s => s.writeHalt c on

/-- CORE_HALT (R616, R619): a core whose HALT bit is set reaches an instruction boundary; an RPTU completes first. -/
def execCoreHalt (c : CoreId) (s : State) : Out :=
  let k := s.core c
  act s (s.booted && s.debugOn && s.haltBit c && !k.halted && k.state != 0 && k.state != 5 && k.rep != 2) fun s =>
    s.haltCore c 1 0

/-- STEP (R618): a write of DBG_STEP. -/
def execStep (n : BitVec 6) (s : State) : Out := act s s.dbgMay fun s => s.stepCore n.toNat

/-- CREG (R621): an access of DBG_CREG by the debug port, a read or a write. -/
def execCreg (w : Option Word) (s : State) : Out :=
  act s s.dbgMay fun s =>
    match w with
    | none => (s.busLoad .dbg 0x74018 4).dbgErr
    | some v => (s.busStore .dbg 0x74018 4 v).dbgErr

/-- DBG_RESET (R623). -/
def execDbgReset (s : State) : Out := act s s.dbgMay fun s => s.chipReset RESET_CAUSE_DEBUG
/-- SNAP (R623, R429). -/
def execSnap (s : State) : Out := act s s.dbgMay fun s => s.snapTrigger 2

end Sys2Proof.Machine
end

