-- ==== Sys2Proof/Machine/Grants.lean ====
section
/-! DEFINITION. Machine/Grants.lean: writes of the limits of the budget tree (R355). -/

namespace Sys2Proof.Machine

/-- BUDGET_LIMIT_WRITE (R355): a word write to a BUD_LIMIT or BUD_CAP register. -/
def execBudgetLimitWrite (r : Req) (addr : Nat) (v : Word) (s : State) : Out :=
  match locate addr with
  | none => .next s
  | some l =>
    match nodeAt l with
    | none => .next s
    | some n => act s (s.booted && addr % 4 = 0 && (s.plan.isSome || r = .hall || r = .stair)) fun s =>
        { (s.writeNode l n.1 v) with rerr := false }

end Sys2Proof.Machine
end

