-- ==== Sys2Proof/Machine/Lane.lean ====
section
/-! DEFINITION. Machine/Lane.lean: the characters of a Stair lane in 8b/10b coding, the bursts that carry the records, and what
a lane makes of a copy (15_pair.md R492, R493, R496). -/

namespace Sys2Proof.Machine

/-- The six bits abcdei of the low five bits of a data byte, for running disparity − and + (log 160). -/
def sixOf : List (BitVec 6 × BitVec 6) :=
  [(0b100111, 0b011000), (0b011101, 0b100010), (0b101101, 0b010010), (0b110001, 0b110001), (0b110101, 0b001010),
   (0b101001, 0b101001), (0b011001, 0b011001), (0b111000, 0b000111), (0b111001, 0b000110), (0b100101, 0b100101),
   (0b010101, 0b010101), (0b110100, 0b110100), (0b001101, 0b001101), (0b101100, 0b101100), (0b011100, 0b011100),
   (0b010111, 0b101000), (0b011011, 0b100100), (0b100011, 0b100011), (0b010011, 0b010011), (0b110010, 0b110010),
   (0b001011, 0b001011), (0b101010, 0b101010), (0b011010, 0b011010), (0b111010, 0b000101), (0b110011, 0b001100),
   (0b100110, 0b100110), (0b010110, 0b010110), (0b110110, 0b001001), (0b001110, 0b001110), (0b101110, 0b010001),
   (0b011110, 0b100001), (0b101011, 0b010100)]

/-- The four bits fghj of the high three bits of a data byte, for running disparity − and + after the six. -/
def fourOf : List (BitVec 4 × BitVec 4) :=
  [(0b1011, 0b0100), (0b1001, 0b1001), (0b0101, 0b0101), (0b1100, 0b0011), (0b1101, 0b0010), (0b1010, 0b1010),
   (0b0110, 0b0110), (0b1110, 0b0001)]

/-- The column of a running disparity; true is +. -/
def ofRd {α : Type} (x : α × α) (rd : Bool) : α := if rd then x.2 else x.1

/-- Ones in the low `n` bits. -/
def ones (n v : Nat) : Nat := (List.range n).foldl (fun a i => a + (v.testBit i).toNat) 0

/-- The running disparity after a group of `n` bits: it turns where the group is not balanced. -/
def turn (n v : Nat) (rd : Bool) : Bool := if 2 * ones n v = n then rd else !rd

/-- The alternative code of D.x.7, which avoids runs of five, and which K27.7 and K29.7 have throughout. -/
def altSeven : BitVec 4 × BitVec 4 := (0b0111, 0b1000)

/-- D.x.7 takes the alternative code at this running disparity. -/
def usesAlt (x : Nat) (rd : Bool) : Bool :=
  if rd then x = 11 || x = 13 || x = 14 else x = 17 || x = 18 || x = 20

/-- A character of a lane: data, or one of the control characters K28.5, K27.7 and K29.7 by its byte. -/
structure LaneChar where
  ctl : Bool
  byte : Byte
deriving DecidableEq, Repr

abbrev k28_5 : LaneChar := ⟨true, 0xBC#8⟩
abbrev k27_7 : LaneChar := ⟨true, 0xFB#8⟩
abbrev k29_7 : LaneChar := ⟨true, 0xFD#8⟩

/-- The ten bits of a character, a first, and the running disparity after it. -/
def LaneChar.encode (c : LaneChar) (rd : Bool) : BitVec 10 × Bool :=
  let x := c.byte.toNat % 32
  let y := c.byte.toNat / 32
  let six : BitVec 6 := if c.ctl && x = 28 then ofRd (0b001111, 0b110000) rd else ofRd (sixOf.getD x (0, 0)) rd
  let mid := turn 6 six.toNat rd
  let four : BitVec 4 :=
    if c.ctl && x = 28 then ofRd (0b0101, 0b1010) mid
    else if y = 7 && (c.ctl || usesAlt x mid) then ofRd altSeven mid
    else ofRd (fourOf.getD y (0, 0)) mid
  (six ++ four, turn 4 four.toNat mid)

/-- The character that ten bits stand for at a running disparity; none for an invalid character or a disparity error. -/
def laneChar (v : BitVec 10) (rd : Bool) : Option (LaneChar × Bool) :=
  let six := v.extractLsb' 4 6
  let four := v.extractLsb' 0 4
  let mid := turn 6 six.toNat rd
  let next := turn 4 four.toNat mid
  if six = ofRd (0b001111, 0b110000) rd then (if four = ofRd (0b0101, 0b1010) mid then some (k28_5, next) else none)
  else
    match (List.range 32).find? fun x => ofRd (sixOf.getD x (0, 0)) rd = six with
    | none => none
    | some x =>
      if four = ofRd altSeven mid then
        (if usesAlt x mid then some (⟨false, BitVec.ofNat 8 (x + 224)⟩, next)
         else if x = 27 || x = 29 then some (⟨true, BitVec.ofNat 8 (x + 224)⟩, next)
         else none)
      else
        match (List.range 8).find? fun y => ofRd (fourOf.getD y (0, 0)) mid = four with
        | none => none
        | some y => if y = 7 && usesAlt x mid then none else some (⟨false, BitVec.ofNat 8 (x + 32 * y)⟩, next)

/-- The characters of a run of symbols from a running disparity on. -/
def laneChars : List (BitVec 10) → Bool → Option (List LaneChar)
  | [], _ => some []
  | v :: l, rd =>
    match laneChar v rd with
    | none => none
    | some (c, rd') => (laneChars l rd').map (c :: ·)

/-- The characters that a lane takes; the running disparity before the first is that of the idle characters, either one. -/
def taken (line : List (BitVec 10)) : Option (List LaneChar) := laneChars line false <|> laneChars line true

/-- The symbols of characters, and the running disparity after them. -/
def laneSymbols : List LaneChar → Bool → List (BitVec 10) × Bool
  | [], rd => ([], rd)
  | c :: l, rd => let x := c.encode rd; let y := laneSymbols l x.2; (x.1 :: y.1, y.2)

/-! ### Bursts (R492, R496) -/

/-- The 60 bytes of a record before its CRC. -/
def recordBody (type : Nat) (c : StairRec) : List Byte :=
  [BitVec.ofNat 8 type, BitVec.ofNat 8 c.target] ++ leBytes 2 c.seq.toNat ++ wordBytes c.tbLo ++ c.payload

/-- The 64 bytes of a record. -/
def recordBytes (type : Nat) (c : StairRec) : List Byte :=
  let b := recordBody type c
  b ++ leBytes 4 (crc32c b)

/-- The characters of a burst: K27.7, the record, K29.7. -/
def burst (b : List Byte) : List LaneChar := k27_7 :: b.map (⟨false, ·⟩) ++ [k29_7]

/-- A valid copy (R493) with its TYPE: framed, 64 data characters, a correct CRC. -/
def readBurst (cs : List LaneChar) : Option (Nat × StairRec) :=
  let d := (cs.drop 1).take 64
  let b := d.map (·.byte)
  if cs.length = 66 && cs.head? = some k27_7 && cs.getLast? = some k29_7 && d.all (!·.ctl) &&
      crc32c (b.take 60) = u32 b 60 then
    some (u8 b 0, ⟨u8 b 1, BitVec.ofNat 16 (u16 b 2), BitVec.ofNat 32 (u32 b 4), bslice b 8 52⟩)
  else none

/-! ### A receiving lane -/

/-- An invalid copy counts in STAIR_ERR. -/
def State.badCopy (s : State) : State := s.put STAIR_ERR_COPY (min (s.fld STAIR_ERR_COPY + 1) 255)

def lockField (k : Fin 2) : Field := if k = 0 then STAIR_STAT_RX0_LOCK else STAIR_STAT_RX1_LOCK

/-- A lane loses its lock (R493); a copy that was being received counts as invalid. -/
def State.laneLost (s : State) (k : Fin 2) (copy : Bool) : State :=
  let s := (s.off (lockField k)).put STAIR_ERR_BUBBLE (min (s.fld STAIR_ERR_BUBBLE + 1) 255)
  let s := if copy then s.badCopy else s
  { s with pair := { s.pair with lock := setAt s.pair.lock k.val none } }

/-! ### The sending lanes -/

/-- Both lanes send the same burst (R492); between bursts the idle sets leave the running disparity as it is (log 160). -/
def State.sendBurst (s : State) (type : Nat) (c : StairRec) : State :=
  let x := laneSymbols (burst (recordBytes type c)) s.pair.txRd
  { s with pair := { s.pair with sent := s.pair.sent ++ [⟨type, c⟩], lanes := s.pair.lanes ++ x.1, txRd := x.2 } }

end Sys2Proof.Machine
end

