-- ==== Sys2Proof/Machine/StairOps.lean ====
section
/-! DEFINITION. Machine/StairOps.lean: the records of the Stair link: their payloads as the holder builds them and as the
shadow applies them (15_pair.md, R495 to R504). -/

namespace Sys2Proof.Machine

/-! ### Targets -/

/-- Target number 0 to 54 of a TARGET byte: ports, slots, Hall (R496, R497). -/
def targetOf (t : Nat) : Option Nat :=
  if t < 48 then some t else if t < 0x36 then some t else if t = 0x3F then some 54 else none

/-- Target of a Hearth model: the die and the Pantry's models go with the Hall (R503). -/
def modelTarget (m : Nat) : Nat := if m < 54 then m else 54

/-- The peer holds a target's claim, as this chip sees it, and this chip does not (R497, R499). -/
def State.peerKeeps (s : State) (t : Nat) : Bool :=
  let wing (w : Nat) : Bool := (s.fld PAIR_STAT_PEER_HELD).testBit w && !s.pair.claims.testBit w
  if t < 48 then wing (t / 24)
  else if t < 54 then wing ((t - 48) / 3)
  else !s.hallKeeper && s.fld PAIR_STAT_PEER_HELD != 0

/-- Bits of a target's refresh set (R503); bit 7 shows that a RESYNC has named it. -/
def fullSet (t : Nat) : Nat := 128 + (if t < 48 then 63 else if t < 54 then 31 else 15)

/-- The bit of a record of a TYPE in a target's refresh set: ROOM or SLOT, TIMER banks, HEARTH, ENERGY; of the Hall HALL, PANTRY,
HEARTH of models 52 to 55, HEARTH of model 56 (R503). -/
def refreshBit (type target first bank : Nat) : Nat :=
  if target = 54 then (if type = 8 then 0 else if type = 9 then 1 else if first = 52 then 2 else 3)
  else if type = 5 then 1 + bank
  else if type = 6 then 4
  else if type = 7 then 5
  else 0

/-- A record goes out: the targets whose whole refresh set has gone out since they were asked for are answered (R503). -/
def Pair.answered (x : Pair) (type ts first bank : Nat) : Pair :=
  let given := x.given.zipIdx.map fun y =>
    if ts.testBit y.2 && x.asked.testBit y.2 then y.1 ||| 2 ^ refreshBit type y.2 first bank else y.1
  let full (y : Nat × Nat) : Bool := y.1 = fullSet y.2 - 128
  { x with asked := given.zipIdx.foldl (fun a y => if a.testBit y.2 && full y then a - 2 ^ y.2 else a) x.asked
           given := given.zipIdx.map fun y => if full y then 0 else y.1 }

/-- A record of a stale target's refresh set has been applied after its RESYNC (R503). -/
def State.gotRecord (s : State) (t bit : Nat) : State :=
  let g := s.pair.got.getD t 0
  if s.pair.stale.testBit t && g.testBit 7 then
    let g := g ||| 2 ^ bit
    s.onPair fun x =>
      { x with got := setAt x.got t (if g = fullSet t then 0 else g)
               stale := if g = fullSet t then x.stale - 2 ^ t else x.stale }
  else s

/-! ### SEQ (R495) -/

/-- A gap (R495, R502): recorded, counted, and no refresh set goes on across it. -/
def State.stairGap (s : State) (a b : Nat) : State :=
  ((s.on PAIR_EVENT_GAP).put STAIR_ERR_GAP (min (s.fld STAIR_ERR_GAP + 1) 255)).onPair fun x =>
    { x with gap := match x.gap with | some (f, _) => some (f, b) | none => some (a, b)
             got := x.got.map fun _ => 0 }

/-- A valid copy with its SEQ: the state after it is accepted, none where it is discarded as already taken (R495). -/
def State.stairTake (s : State) (q : Nat) : Option State :=
  let e := s.fld STAIR_STAT_RX_SEQ
  let next (s : State) : State := s.put STAIR_STAT_RX_SEQ ((q + 1) % 65536)
  if !s.pair.eSet then some ((next s).onPair fun x => { x with eSet := true })
  else
    let d := (q + 65536 - e) % 65536
    if d = 0 then some (next s)
    else if d < 32768 then some (next (s.stairGap e q))
    else none

/-- R502: the applied FRAME with SEQ `m`, FIRST1, TOUCH1, FIRST2 and TOUCH2 resolves a gap. -/
def State.resolveGap (s : State) (first1 touch1 first2 touch2 : Nat) : State :=
  match s.pair.gap with
  | none => s
  | some (a, b) =>
    let before (x y : Nat) : Bool := 32768 ≤ (x + 65536 - y) % 65536
    let ts := if before a first2 then allTargets
      else (if before a first1 then touch2 % 2 ^ 55 else 0) |||
        (if before ((b + 65535) % 65536) first1 then 0 else touch1 % 2 ^ 55)
    (s.markStale ts).onPair fun x => { x with gap := none }

/-! ### Fields of a payload -/

/-- A little-endian number of `n` bytes at an offset. -/
def num (b : List Byte) (o n : Nat) : Nat := (List.range n).foldl (fun a i => a + u8 b (o + i) * 256 ^ i) 0

/-- A word at an offset. -/
def wordAt (b : List Byte) (o : Nat) : Word := BitVec.ofNat 32 (num b o 4)

/-- A payload of 52 bytes. -/
def pad52 (b : List Byte) : List Byte := (List.range 52).map fun i => b.getD i 0

/-- Copy a word into a register but for the bits of some fields. -/
def mirrorReg (m : Regs) (off : Nat) (w : Word) (keep : List Field) : Regs :=
  let k := keep.foldl (fun (a : Word) f => a ||| f.mask) 0
  m.set off ((w &&& ~~~k) ||| (m.get off &&& k))

/-! ### ROOM -/

/-- A message counter of 4 bits; 0xF empty. -/
def idCode (x : Option Nat) : Nat := x.getD 15 % 16

/-- Time in the present step of a Hard Reset sequence, swap or transition, in µs; 0 where none runs. -/
def Room.stepUs (now : Nat) (r : Room) : Nat := if r.fld CON_STAT_STEP = 0 then 0 else now - r.con.stepAt

/-- The payload of a ROOM record (table "ROOM payload"). -/
def State.roomPayload (s : State) (p : Fin 48) : List Byte :=
  let r := s.room p
  let w (o : Nat) : List Byte := wordBytes (s.roomView p o)
  let ctr := (List.range 3).foldl (fun a i => a + (r.pd.txId.getD i 0 % 8) * 8 ^ i) 0
  let ids := (List.range 3).foldl (fun a i => a + idCode (r.pd.rxId.getD i none) * 16 ^ i) 0
  let give := match r.con.giveup with | some (t, d) => (t + d - s.now) / 1000 | none => 0
  w 0x008 ++ w 0x04C ++ w 0x084 ++ leBytes 2 ctr ++ leBytes 2 ids ++ w 0x148 ++ w 0x14C ++ w 0x158 ++ w 0x164 ++ w 0x150 ++
    leBytes 2 (min (r.stepUs s.now / 10) 65535) ++ leBytes 2 (min give 65535) ++ w 0x294 ++ w 0x2C4 ++
    leBytes 2 (r.fld EF_STAT_TIMER) ++ leBytes 2 (min ((s.now - r.cc.entry) / 1000) 65535)

/-- The termination of the running swap has changed by the step that a ROOM record shows (R251, R255, R256). -/
def swapTurned (sw st : Nat) : Bool := (sw = 1 && 3 ≤ st) || (sw = 2 && 3 ≤ st) || (sw = 3 && 4 ≤ st) || (sw = 4 && 6 ≤ st)

/-- The sequences that a ROOM record shows as running: Hard Reset, swap, transition, with the timers of their present steps
(R263; log 94). `was` is the swap that the mirror showed before, `vconn` whether the keeper drives VCONN. -/
def Room.mirrorSeq (now t was : Nat) (vconn : Bool) (r : Room) : Room :=
  let sw := r.fld CON_STAT_SWAP
  let st := r.fld CON_STAT_STEP
  let hr := r.bit CON_STAT_HR_SEQ
  let at' := now - t
  let waits := (sw = 1 && st = 5) || (sw = 2 && st = 2) || (sw = 3 && st = 6) || (sw = 4 && st = 5)
  let trans := r.fld STATUS_STATE = 4 && sw = 0 && !hr
  let stops := sw = 5 && (if was = 5 then r.con.vconnSwap.isSome else vconn)
  let r := r.onCon fun c =>
    { c with
      stepAt := at'
      hrAt := if hr && st != 3 then at' else c.hrAt
      hrSafe0 := if hr && st = 3 then some at' else if hr then c.hrSafe0 else none
      swapAt := if sw != 0 then at' else c.swapAt
      swapWait := if waits then some at' else none
      frsTx := if sw = 3 && st ≤ 3 then some at' else none
      frsOk := sw = 4 && 2 ≤ st
      vconnSwap := if stops then some at' else none
      trans := if trans then some at' else none
      reached := if trans && 3 ≤ st then some at' else none
      transMa := r.fld CON_LIM_ILIM, transRp := r.fld CON_LIM_ILIM, transBud := r.fld CON_LIM_ILIM
      negType := r.fld CON_STAT_TYPE, negPos := r.fld CON_STAT_POS, negMv := r.fld VSET_MV, negMa := r.fld CON_VI_MA }
  r.onCc fun c =>
    { c with lostOff := (1 ≤ sw && sw ≤ 4) || (hr && r.ast = aSnk)
             swapTerm := if swapTurned sw st then some at' else none }

/-- The retry that RETRY_STAT shows (R304). -/
def Room.mirrorRetry (now : Nat) (r : Room) : Room :=
  r.onConv fun c =>
    { c with retryAt := if r.bit RETRY_STAT_WAIT then
               some (now + 1000 * r.fld RETRY_STAT_NEXT - 100000 * r.fld RETRY_CFG_PER) else none
             retryK := if r.bit RETRY_STAT_WAIT then 1 else 0
             attAt := if r.bit RETRY_STAT_ATTEMPT then some now else none
             efQ := 4 * r.fld EF_STAT_TIMER }

/-- CC_STAT of a ROOM record: attach state, orientation and partner show in the shadow; the whole word is held for a takeover
(R165, R166). The hardware clears VCONN_CTRL.EN on every exit from the attached states (R148). -/
def Room.applyCc (w : Word) (r : Room) : Room :=
  let wasAtt := r.attached
  let r := ((((r.put CC_STAT_ASTATE (CC_STAT_ASTATE.of w)).put CC_STAT_ORIENT (CC_STAT_ORIENT.of w)).put
    CC_STAT_ORIENT_VALID (CC_STAT_ORIENT_VALID.of w)).put CC_STAT_PARTNER (CC_STAT_PARTNER.of w)).onCc fun c =>
      { c with mirror := w }
  (if wasAtt && !r.attached then r.off VCONN_CTRL_EN else r).shadowRp

/-- A ROOM record in the shadow's Room (R165, R216, R263, R499) (log 93). -/
def Room.applyRoom (e : Env) (slotOn : Bool) (b : List Byte) (r : Room) : Room :=
  let now := e.now
  let was := r.fld CON_STAT_SWAP
  let r := r.applyCc (wordAt b 4)
  let m := mirrorReg r.regs 0x008 (wordAt b 0) [STATUS_MIRROR_STALE, STATUS_CORE_ALIVE, STATUS_KEEPER, STATUS_FAULT_ANY]
  let m := mirrorReg m 0x084 (wordAt b 8) [PD_STAT_RXQ_COUNT, PD_STAT_VDMIN_COUNT, PD_STAT_HVDM_STATE]
  let m := (((((m.set 0x148 (wordAt b 16)).set 0x14C (wordAt b 20)).set 0x158 (wordAt b 24)).set 0x164
    (wordAt b 28)).set 0x150 (wordAt b 32)).set 0x294 (wordAt b 40)
  let m : Regs := Regs.put (m.set 0x2C4 (wordAt b 44)) EF_STAT_TIMER (num b 48 2)
  let safe := m.fld STATUS_STATE = 5 && (r.safe || !r.bit CTRL_FORCE_SAFE)
  let r : Room := { r with regs := m, safe := safe, slotHold := !slotOn && !safe }
  let r := r.onPd fun d =>
    { d with txId := (List.range 3).map fun i => num b 12 2 / 8 ^ i % 8
             rxId := (List.range 3).map fun i => let v := num b 14 2 / 16 ^ i % 16; if v = 15 then none else some v }
  let r := (r.onCc fun c => { c with entry := now - 1000 * num b 50 2 }).onCon fun c =>
    { c with giveup := if m.fld CON_STAT_GIVEUP = 1 then some (now, 1000 * num b 38 2) else none }
  ((r.mirrorSeq now (10 * num b 36 2) was (CC_STAT_VCONN_ON.of (wordAt b 4) = 1)).mirrorRetry now).refreshCable e

/-! ### SLOT, LOOP -/

/-- The payload of a SLOT record. -/
def State.slotPayload (s : State) (b : Fin 6) : List Byte :=
  let l := s.land b
  let next := match l.retryAt with
    | some t => if l.st = hRetry then t + 100000 * l.fld HS_RETRY_PER * l.retryK - s.now else 0
    | none => 0
  let w (o : Nat) : List Byte := wordBytes (s.landView b o)
  w 0x50 ++ w 0x5C ++ leBytes 4 (s.now - l.entry) ++ leBytes 4 next ++ w 0x44 ++ w 0xC0 ++ w 0xC4 ++ w 0xC8 ++
    leBytes 4 (s.slotThermal b)

/-- A SLOT record in the shadow's Landing (R334). The thermal limit follows the mirrored model. -/
def Landing.applySlot (now : Nat) (b : List Byte) (l : Landing) : Landing :=
  let m := mirrorReg l.regs 0x50 (wordAt b 0) [HS_STAT_SEAT1, HS_STAT_SEAT2, HS_STAT_MIRRORED, HS_STAT_CLASS]
  let m := (Regs.put m HS_IMEAS_TIMER (HS_IMEAS_TIMER.of (wordAt b 4))).set 0x44 (wordAt b 16)
  let m := ((Regs.put m (BUD_LIMIT_LIMIT_W.shift 0xC0) (num b 20 2)).set 0xC4 (wordAt b 24)).set 0xC8 (wordAt b 28)
  let retried := l.attempt || l.st = hRetry
  let l := { l with regs := m, entry := now - num b 8 4, fltQ := 40 * HS_IMEAS_TIMER.of (wordAt b 4) }
  let l := { l with attempt := retried && l.powered }
  if l.st = hRetry then { l with retryAt := some (now + num b 12 4 - 100000 * l.fld HS_RETRY_PER), retryK := 1 } else l

/-- Slot hold of a mirrored slot's ports follows the slot's state (R326). -/
def State.mirrorHold (s : State) (b : Fin 6) : State :=
  let on := (s.land b).st = hOn
  (portsOf b).foldl (fun s p =>
    if s.pl.whole p.val then s.onRoom p fun r => { r with slotHold := !on && !r.inSafe } else s) s

/-- The 6-byte entry of a port in a LOOP record. -/
def Room.loopEntry (r : Room) : List Byte :=
  let ref := if r.loop = lReverse then r.conv.draw / 48000 else r.fld VSET_REF
  let bit (b : Bool) (n : Nat) : Nat := if b then 2 ^ n else 0
  leBytes 3 ((r.conv.y.getD 0 0 % 2 ^ 24).toNat) ++ leBytes 2 ref ++
    leBytes 1 (r.loop % 8 + bit (r.bit LOOP_STAT_ILIMITING) 3 + bit (r.bit STATUS_POWER_DIR) 4 + bit (r.bit SW_STAT_CMD) 5 +
      bit (r.bit SW_STAT_FULL) 6)

/-- The payload of a LOOP record. -/
def State.loopPayload (s : State) (b : Fin 6) : List Byte :=
  let l := s.land b
  ((portsOf b).flatMap fun p => (s.room p).loopEntry) ++ leBytes 2 (min (l.fltQ / 40) 65535) ++
    leBytes 2 (min ((s.now - l.entry) / 100) 65535)

/-- A LOOP record held for takeover (R497, R499). -/
def State.applyLoop (s : State) (b : Fin 6) (x : List Byte) : State :=
  let s := s.onPair fun k =>
    { k with
      loops := k.loops.zipIdx.map fun y =>
        if y.2 / 8 = b.val then ⟨num x (6 * (y.2 % 8)) 3, num x (6 * (y.2 % 8) + 3) 2, num x (6 * (y.2 % 8) + 5) 1⟩ else y.1
      loopAt := setAt k.loopAt b.val (some s.now) }
  s.onLand b fun l => { l with fltQ := 40 * num x 48 2, entry := s.now - 100 * num x 50 2 }

/-! ### TIMER -/

/-- Number of timers in a bank. -/
def bankSize (bank : Nat) : Nat := if bank = 2 then 2 else 3

/-- The payload of a TIMER record. -/
def State.timerPayload (s : State) (k : TmrBlock) (bank : Nat) : List Byte :=
  let m := s.tmrRegs k
  let entry (n : Nat) : List Byte := (List.range 4).flatMap fun i => wordBytes (tmrView k s.tb m (k.base + 16 * n + 4 * i))
  leBytes 4 bank ++ (List.range (bankSize bank)).flatMap (fun i => entry (3 * bank + i)) ++
    (if bank = 2 then wordBytes (m.get k.flag) else [])

/-- A TIMER record in the mirrored timers (R425) (log 94). -/
def applyTimer (k : TmrBlock) (b : List Byte) (m : Regs) : Regs :=
  let bank := num b 0 1
  let m := (List.range (bankSize bank)).foldl (fun m i =>
    (List.range 4).foldl (fun m j => m.set (k.base + 16 * (3 * bank + i) + 4 * j) (wordAt b (4 + 16 * i + 4 * j))) m) m
  if bank = 2 then m.set k.flag (wordAt b 36) else m

/-! ### HEARTH and ENERGY -/

/-- The 12-byte entry of a model; 0 for one that this chip does not hold. -/
def State.hearthEntry (s : State) (m : Nat) : List Byte :=
  if (s.modelRec m).isSome && s.holdsModel m then
    let x := s.model m
    let left := (match x.warnAt with | some w => if x.st = 1 then (w + s.graceOf m - s.now) / 10000 else 0 | none => 0)
    ((List.range 3).flatMap fun i => leBytes 3 ((x.dt.getD i 0 / 2 ^ 30 % 2 ^ 24).toNat)) ++ leBytes 1 x.st ++
      leBytes 2 (min left 65535)
  else List.replicate 12 0

def State.hearthPayload (s : State) (m : Nat) : List Byte := (List.range 4).flatMap fun i => s.hearthEntry (m + i)

/-- A signed number of 3 bytes. -/
def s24 (v : Nat) : Int := if v < 2 ^ 23 then (v : Int) else (v : Int) - 2 ^ 24

/-- The entry of a model that the peer holds (R497, R505); the die's model is each chip's own (log 33). -/
def State.applyHearthEntry (s : State) (m : Nat) (b : List Byte) : State :=
  match s.modelRec m with
  | none => s
  | some r =>
    if m = 56 || !s.peerKeeps (modelTarget m) then s
    else
      let x := s.model m
      let dt := (List.range 3).map fun i => s24 (num b (3 * i) 3) * 2 ^ 30
      let st := num b 9 1 % 4
      let tj := s.tref r + roundDiv ((dt.foldl (· + ·) 0) * 1000) (2 ^ 40)
      let warn := if st = 1 then some (s.now + 10000 * num b 10 2 - s.graceOf m) else none
      (s.setModel m { x with dt := dt, tj := tj, st := st, warnAt := warn }).showModel m

def State.applyHearth (s : State) (m : Nat) (b : List Byte) : State :=
  (List.range 4).foldl (fun s i => s.applyHearthEntry (m + i) (bslice b (12 * i) 12)) s

/-- The payload of an ENERGY record. -/
def State.energyPayload (s : State) (p : Nat) : List Byte :=
  (List.range 4).flatMap fun i =>
    let r := s.room (Fin.ofNat 48 (p + i))
    leBytes 6 (r.e48 0x3C0) ++ leBytes 6 (r.e48 0x3C8)

/-- An ENERGY record (R426). -/
def State.applyEnergy (s : State) (p : Nat) (b : List Byte) : State :=
  (List.range 4).foldl (fun s i => s.onRoom (Fin.ofNat 48 (p + i)) fun r =>
    (r.putE48 0x3C0 (num b (12 * i) 6)).putE48 0x3C8 (num b (12 * i + 6) 6)) s

/-! ### HALL and PANTRY -/

/-- The mode remembered under R365 in its 4 bytes: mode, bit 8 set where one is remembered, its epoch above (log 59). -/
def State.modeWord (s : State) : Nat :=
  match s.pantry.mode with | some (m, e) => m % 256 + 256 + 65536 * (e % 65536) | none => 0

/-- The payload of a HALL record. -/
def State.hallPayload (s : State) : List Byte :=
  let h (a : Nat) : List Byte := wordBytes (s.hallView a)
  let w (k : Fin 2) (o : Nat) : List Byte := wordBytes (s.wingView k o)
  h 0x40 ++ h 0x44 ++ h 0x48 ++ h 0x240 ++ h 0x244 ++ h 0x248 ++ w 0 0xC0 ++ w 0 0xC4 ++ w 0 0xC8 ++ w 1 0xC0 ++ w 1 0xC4 ++
    w 1 0xC8 ++ leBytes 4 s.modeWord

/-- Limit and caps of a node from a record. -/
def mirrorNode (b : List Byte) (o base : Nat) (m : Regs) : Regs :=
  ((m.put (BUD_LIMIT_LIMIT_W.shift base) (num b o 2)).set (base + 4) (wordAt b (o + 4))).set (base + 8) (wordAt b (o + 8))

/-- A HALL record (R505): mode, acknowledges, budgets of root and Wings, the remembered mode. -/
def State.applyHall (s : State) (b : List Byte) : State :=
  let w := wordAt b 0
  let was := s.fld HALL_MODE_EPOCH
  let pend := s.fld HALL_MODE_PENDING
  let s := { s with regs := mirrorReg s.regs 0x40 w [HALL_MODE_REFUSED] }
  let s := if HALL_MODE_EPOCH.of w = was then s
    else { (s.put HALL_MODE_SRC 3) with mode := { s.mode with since := s.now } }
  let s := if HALL_MODE_PENDING.of w = pend then s else { s with mode := { s.mode with changed := true } }
  let s := { s with regs := mirrorNode b 12 0x240 ((s.regs.set 0x44 (wordAt b 4)).set 0x48 (wordAt b 8)) }
  let s := (List.finRange 2).foldl (fun s k => s.onWing k fun x => { x with regs := mirrorNode b (24 + 12 * k.val) 0xC0 x.regs }) s
  let v := num b 48 4
  { s with pantry := { s.pantry with mode := if v.testBit 8 then some (v % 256, v / 65536) else none } }

/-- The payload of a PANTRY record. -/
def State.pantryPayload (s : State) : List Byte :=
  let p := s.pantry
  let h (a : Nat) : List Byte := wordBytes (s.hallView a)
  h 0x50020 ++ leBytes 4 ((s.now - p.entry) / 10000) ++ h 0x50030 ++
    ((List.range 2).flatMap fun i => leBytes 2 (p.means.getD i 0 / 20)) ++
    ((List.range 6).flatMap fun i => leBytes 2 (enc16 (p.temps.getD i 0 / 10))) ++
    leBytes 4 (match p.batAt with | some t => s.now - t | none => 0) ++ leBytes 2 s.chgGrant

/-- A PANTRY record (R380). -/
def State.applyPantry (s : State) (b : List Byte) : State :=
  let s := { s with regs := (s.regs.set 0x50020 (wordAt b 0)).set 0x50030 (wordAt b 8), chgGrant := num b 32 2 }
  let means := ((List.range 2).map fun i => 20 * num b (12 + 2 * i) 2).filter (· != 0)
  { s with pantry := { s.pantry with
      entry := s.now - 10000 * num b 4 4, means := means
      temps := (List.range 6).map fun i => 10 * s16 b (16 + 2 * i)
      fastUs := 60000000 * s.fld CHG_PROG_FAST_MIN, peak := 20 * s.fld CHG_PROG_PEAK
      batAt := if s.bit CHG_STAT_BATT_ACTIVE then some (s.now - num b 28 4) else none } }

/-! ### Sending -/

/-- One burst: the next SEQ, the time base, and the touched target of the present frame (R492, R495, R496). -/
def State.stairSend (s : State) (type target : Nat) (payload : List Byte) (touched : Nat) : State :=
  let c : StairRec := ⟨target, BitVec.ofNat 16 s.pair.seq, BitVec.ofNat 32 s.tb, pad52 payload⟩
  (s.sendBurst type c).onPair fun x =>
    { x with seq := (x.seq + 1) % 65536
             touch := setAt x.touch 0 (x.touch.getD 0 0 ||| touched % 2 ^ 55) }

/-- The TARGET byte of a target. -/
def targetByte (t : Nat) : Nat := if t = 54 then 0x3F else t

/-- The record of a type that carries a target, with the targets it touches; none where the pair of type and target names
none. `t` is the TARGET byte, for HEARTH the first model, for ENERGY the first port. -/
def State.recordOf (s : State) (type t bank : Nat) : Option (List Byte × Nat) :=
  match type with
  | 3 => if t < 48 then some (s.roomPayload (Fin.ofNat 48 t), 2 ^ t) else none
  | 4 => if 48 ≤ t && t < 54 then some (s.slotPayload (Fin.ofNat 6 (t - 48)), 2 ^ t) else none
  | 5 =>
    if t < 48 && bank < 3 then some (s.timerPayload (.room (Fin.ofNat 48 t)) bank, 2 ^ t)
    else if 48 ≤ t && t < 54 && bank < 3 then some (s.timerPayload (.land (Fin.ofNat 6 (t - 48))) bank, 2 ^ t)
    else none
  | 6 => if t < 57 && t % 4 = 0 then
      some (s.hearthPayload t, (List.range 4).foldl (fun a i =>
        if t + i < 57 && s.holdsTarget (modelTarget (t + i)) then a ||| 2 ^ modelTarget (t + i) else a) 0) else none
  | 7 => if t < 48 && t % 4 = 0 then some (s.energyPayload t, 15 * 2 ^ t) else none
  | 8 => if t = 0x3F then some (s.hallPayload, 2 ^ 54) else none
  | 9 => if t = 0x3F then some (s.pantryPayload, 2 ^ 54) else none
  | _ => none

/-- This chip holds some target that a record touches (R497). -/
def State.holdsAny (s : State) (ts : Nat) : Bool := (List.range 55).any fun t => ts.testBit t && s.holdsTarget t

/-- A WRITE record of at most 5 waiting writes (R500). -/
def State.sendWrites (s : State) : State :=
  let ws := s.pair.writes.take 5
  let payload := leBytes 4 ws.length ++ ws.flatMap fun w => leBytes 4 w.1 ++ wordBytes w.2
  let touched := ws.foldl (fun (a : Nat) w => match locate w.1 with
    | some (.roomReg p _) => a ||| 2 ^ p
    | some (.land b _) => a ||| 2 ^ (48 + b)
    | some (.hall _) => a ||| 2 ^ 54
    | _ => a) 0
  (s.stairSend 10 0x3F payload touched).onPair fun x => { x with writes := x.writes.drop 5 }

end Sys2Proof.Machine
end

