-- ==== Sys2Proof/Machine/Pair.lean ====
section
/-! DEFINITION. Machine/Pair.lean: the commands of the pair: Key lines, claims, takeover, and the Stair link
(15_pair.md). -/

namespace Sys2Proof.Machine

/-! ### Key lines -/

/-- HEARTBEAT_SEND (R481): a pulse with the present claim code, while the heartbeat deadline is met. -/
def execHeartbeatSend (s : State) : Out :=
  pairAct s (s.hbMet && !s.pair.barred) fun s => (s.setClaims s.pair.claims).refreshKeeper

/-- The code of a pulse by its width (R481, table "Claim codes"); none for an invalid pulse. -/
def pulseCode (ns : Nat) : Option Nat :=
  if within 1000 ns 3000 then some 0
  else if within 5000 ns 7000 then some 1
  else if within 9000 ns 11000 then some 2
  else if within 13000 ns 15000 then some 3
  else none

/-- A pulse on KEY_HB_IN: an invalid one changes nothing. -/
def State.pulse (s : State) (ns : Nat) : State :=
  match pulseCode ns with
  | none => s
  | some c =>
    let s := if s.peerAlive then s else (s.on PAIR_STAT_PEER_ALIVE).on PAIR_EVENT_PEER_FOUND
    ((s.put KEY_STAT_PEER_CODE c).onPair fun x =>
      { x with hbAt := some s.now, firstAt := x.firstAt <|> some s.now }).refreshPeer 1 |>.checkRelease

/-- HEARTBEAT_PULSE (R481, R482): measured at its end, dated at its start (log 61). -/
def execHeartbeatPulse (widthNs : Nat) (s : State) : Out := pairAct s true fun s => s.pulse widthNs

/-- PEER_LOST (R482). -/
def execPeerLost (s : State) : Out :=
  pairAct s (s.peerAlive && due s.now s.pair.hbAt 150) fun s =>
    ((s.off PAIR_STAT_PEER_ALIVE).on PAIR_EVENT_PEER_LOST).refreshPeer 2

/-- KEY_IN_CHANGE (R482): the level after the 2 µs filter. -/
def execKeyInChange (level : Bool) (s : State) : Out :=
  act s true fun s =>
    let s := s.putB KEY_STAT_KEY_IN level
    if s.paired then (s.refreshPeer 0).refreshStale else s

/-! ### Claims -/

/-- CLAIM_START_A (R488) (log 123). -/
def execClaimStartA (s : State) : Out :=
  pairAct s (!s.chipB && old s.now s.clk.bootAt 1000) fun s => s.claimStart fun _ => true

/-- CLAIM_START_B (R488): 5 ms of a clear claim, counted from boot complete or from the first pulse after it. -/
def execClaimStartB (s : State) : Out :=
  pairAct s s.chipB fun s =>
    s.claimStart fun w => old s.now (max (s.pair.clear.getD w.val 0) (s.pair.firstAt.getD s.clk.bootAt)) 5000

/-- An activation is scheduled and its AT has passed (R558). -/
def State.atPassed (s : State) : Bool :=
  s.scheduled && s.fld UPD_AT_LO_AT + 2 ^ 32 * (s.regs.get 0x72024).toNat ≤ s.tb

/-- R558: this chip resets in place of a takeover: it was not the Hall keeper, and every Wing that the peer held is
clear. -/
def State.peerResets (s : State) : Bool :=
  s.paired && s.atPassed && !s.holds 0 && s.pair.seen != 0 && s.fld PAIR_STAT_PEER_HELD = 0

/-- TAKEOVER (R488, R506): step 1; the claim guard begins. -/
def execTakeover (s : State) : Out :=
  let ws := (List.finRange 2).filter fun w => s.pair.seen.testBit w.val && s.mayClaim w
  pairAct s (!ws.isEmpty && !s.peerResets) fun s =>
    let bits := wingBits ws
    (s.claim bits).onPair fun x =>
      { x with guard := some s.now, guardW := x.guardW ||| bits, path := x.clearPath }

/-- CLAIM_GUARD_END (R506): 10 µs of the guard without a peer claim for its Wings. -/
def execClaimGuardEnd (s : State) : Out :=
  pairAct s (due s.now s.pair.guard 10 && (s.pair.guardW &&& s.fld PAIR_STAT_PEER_HELD) = 0) fun s =>
    let ws := s.pair.guardW
    ((s.onPair fun x => { x with guard := none, guardW := 0 }).takeWings ws).refreshKeeper

/-- CONTENTION (R489): entry after 2 µs; 20 µs later chip B gives way. -/
def execContention (w : Fin 2) (s : State) : Out :=
  pairAct s (due s.now (s.pair.conAt.getD w.val none) 2) fun s =>
    match s.pair.yieldAt.getD w.val none with
    | none => (s.on PAIR_EVENT_CONTENTION).onPair fun x => { x with yieldAt := setAt x.yieldAt w.val (some s.now) }
    | some t =>
      if s.chipB && old s.now t 20 then
        let s := (s.withdraw w).onPair fun x => { x with yielded := x.yielded ||| 2 ^ w.val }
        (s.on PAIR_STAT_YIELDED).refreshCon
      else s

/-- PEER_NO_YIELD (R489, step 4). -/
def execPeerNoYield (w : Fin 2) (s : State) : Out :=
  pairAct s (!s.chipB && due s.now (s.pair.yieldAt.getD w.val none) 120 && s.peerHolds w) fun s =>
    ((s.withdraw w).on PAIR_EVENT_PEER_NO_YIELD).refreshCon

/-- RELEASE (R490): a write of 1 to RELEASE_Ww. -/
def execRelease (w : Fin 2) (s : State) : Out :=
  pairAct s true fun s => (s.on (if w = 0 then PAIR_CTRL_RELEASE_W0 else PAIR_CTRL_RELEASE_W1)).checkRelease

/-- HB_OUT_FAULT (R487). -/
def execHbOutFault (s : State) : Out :=
  pairAct s true fun s => ((s.dropKey.on PAIR_EVENT_HB_OUT_FAULT).onPair fun x => { x with barred := true }).refreshCon

/-- KEY_IN_STUCK (R509). -/
def execKeyInStuck (s : State) : Out :=
  pairAct s (due s.now s.pair.stuckAt 1000) fun s => s.on PAIR_EVENT_KEY_IN_STUCK

/-- DRIVE_CONFLICT (R509): the port goes to the port safe state, or the slot opens (log 60). -/
def execDriveConflict (site : Site) (s : State) : Out :=
  match site with
  | .room p => pairAct s (s.live p) fun s => (s.on PAIR_EVENT_DRIVE_CONFLICT).enterSafe p FAULT_ESCALATED false
  | .land b => pairAct s (s.slotLive b) fun s =>
      let s := s.on PAIR_EVENT_DRIVE_CONFLICT
      if (s.land b).powered then s.slotRetry b true else s

/-- PAIR_RESYNC (R502, R503): a write of 1 to PAIR_CTRL.RESYNC. -/
def execPairResync (s : State) : Out := pairAct s true fun s => s.markStale s.shadowed

/-! ### Lanes and link -/

/-- LANE_LOCK (R493). DIGEST is exchanged anew once no lane was locked. -/
def execLaneLock (k : Fin 2) (s : State) : Out :=
  pairAct s (s.pair.lock.getD k.val none).isNone fun s =>
    let fresh := s.pair.lock.all (·.isNone)
    (s.on (lockField k)).onPair fun x =>
      { x with lock := setAt x.lock k.val (some s.now), dgTx := x.dgTx && !fresh, dgRx := x.dgRx && !fresh }

/-- LANE_LOCK_LOSS (R493): `copy` where a copy was being received. -/
def execLaneLockLoss (k : Fin 2) (copy : Bool) (s : State) : Out :=
  pairAct s (s.pair.lock.getD k.val none).isSome fun s => s.laneLost k copy

/-- LINK_UP (R494): every target begins stale, and the first copy sets e (R495). -/
def execLinkUp (s : State) : Out :=
  pairAct s (!s.bit PAIR_STAT_LINK_UP && s.pair.lock.any (fun t => due s.now t 1000) && s.pair.dgTx && s.pair.dgRx) fun s =>
    let s := ((s.on PAIR_STAT_LINK_UP).on PAIR_EVENT_LINK_UP).markStale allTargets
    s.onPair fun x => { x with eSet := false, gap := none, copyAt := some s.now, resyncAt := none }

/-- LINK_DOWN (R494). -/
def execLinkDown (s : State) : Out :=
  pairAct s (s.bit PAIR_STAT_LINK_UP && due s.now s.pair.copyAt 200) fun s =>
    let s := ((s.off PAIR_STAT_LINK_UP).on PAIR_EVENT_LINK_DOWN).markStale allTargets
    s.onPair fun x => { x with dgTx := false, dgRx := false, gap := none }

/-! ### Records received -/

/-- A valid copy (R494, R495): while the link is up it passes R495, and `f` acts on one that is accepted; `free` records act
while the link is down as well. -/
def State.takeCopy (s : State) (c : StairRec) (free : Bool) (f : State → State) : State :=
  let s := s.onPair fun x => { x with copyAt := some s.now }
  if s.bit PAIR_STAT_LINK_UP then
    match s.stairTake c.seq.toNat with
    | none => s
    | some t => f t
  else if free then f s else s

/-- A copy arrives on a locked lane (R493): one with an invalid character or a disparity error costs the lane its lock, one
that is not valid is counted, and a valid one of the command's TYPE is taken. -/
def stairAct (s : State) (k : Fin 2) (line : List (BitVec 10)) (type : Nat) (free : Bool) (f : StairRec → State → State) : Out :=
  pairAct s (s.pair.lock.getD k.val none).isSome fun s =>
    match taken line with
    | none => s.laneLost k true
    | some cs =>
      match readBurst cs with
      | none => s.badCopy
      | some (t, c) => if t = type then s.takeCopy c free (f c) else s

/-- A mirror record (R494, R499): applied where the peer holds the target, else KEY_STAIR_MISMATCH (log 95). -/
def mirrorAct (s : State) (k : Fin 2) (line : List (BitVec 10)) (type : Nat) (keeps : StairRec → State → Bool)
    (f : StairRec → State → State) : Out :=
  stairAct s k line type false fun c s =>
    if s.bit PAIR_STAT_DIGEST_MISMATCH then s
    else if keeps c s then f c s
    else s.on PAIR_EVENT_KEY_STAIR_MISMATCH

/-- STAIR_FRAME (R497, R501, R502, R509) (log 92). -/
def execStairFrame (k : Fin 2) (line : List (BitVec 10)) (s : State) : Out :=
  mirrorAct s k line 1 (fun _ s => s.fld PAIR_STAT_PEER_HELD != 0) fun c s =>
    let b := c.payload
    let s := if num b 12 1 = s.fld KEY_STAT_PEER_CODE then s else s.on PAIR_EVENT_KEY_STAIR_MISMATCH
    let t := c.tbLo.toNat + 2 ^ 32 * num b 4 4 + 2
    let s := if !s.hallKeeper && (t + 1 < s.tb || s.tb + 1 < t) then s.setTb (t % 2 ^ 64) else s
    s.resolveGap (num b 14 2) (num b 16 7) (num b 24 2) (num b 26 7)

/-- STAIR_LOOP (R497). -/
def execStairLoop (k : Fin 2) (line : List (BitVec 10)) (s : State) : Out :=
  mirrorAct s k line 2 (fun c s => within 0x40 c.target 0x45 && s.peerKeeps (48 + (c.target - 0x40))) fun c s =>
    s.applyLoop (Fin.ofNat 6 (c.target - 0x40)) c.payload

/-- A ROOM record in the Room and its model. -/
def State.applyRoomRec (s : State) (p : Fin 48) (b : List Byte) : State :=
  let s := s.onRoomE p fun e r => r.applyRoom e ((s.land (landOf p)).st = hOn) b
  let r := s.room p
  s.setModel p.val { s.model p.val with st := r.fld HRT_STAT_STATE, ith := r.fld HRT_STAT_ITH }

/-- STAIR_ROOM (R497). -/
def execStairRoom (k : Fin 2) (line : List (BitVec 10)) (s : State) : Out :=
  mirrorAct s k line 3 (fun c s => c.target < 48 && s.peerKeeps c.target) fun c s =>
    (s.applyRoomRec (Fin.ofNat 48 c.target) c.payload).gotRecord c.target 0

/-- STAIR_SLOT (R497). -/
def execStairSlot (k : Fin 2) (line : List (BitVec 10)) (s : State) : Out :=
  mirrorAct s k line 4 (fun c s => within 48 c.target 53 && s.peerKeeps c.target) fun c s =>
    let b := Fin.ofNat 6 (c.target - 48)
    ((s.onLand b (Landing.applySlot s.now c.payload)).mirrorHold b).gotRecord c.target 0

/-- The block of timers that a TARGET names. -/
def timerBlock (t : Nat) : TmrBlock := if t < 48 then .room (Fin.ofNat 48 t) else .land (Fin.ofNat 6 (t - 48))

/-- STAIR_TIMER (R497, R425). -/
def execStairTimer (k : Fin 2) (line : List (BitVec 10)) (s : State) : Out :=
  mirrorAct s k line 5 (fun c s => c.target < 54 && num c.payload 0 1 < 3 && s.peerKeeps c.target) fun c s =>
    let k := timerBlock c.target
    (s.setTmrRegs k (applyTimer k c.payload (s.tmrRegs k))).gotRecord c.target (1 + num c.payload 0 1)

/-- STAIR_HEARTH (R497): entries of models that the peer does not hold are ignored. -/
def execStairHearth (k : Fin 2) (line : List (BitVec 10)) (s : State) : Out :=
  let ms (c : StairRec) : List Nat := (List.range 4).map (c.target + ·)
  mirrorAct s k line 6 (fun c s => c.target < 57 && (ms c).any fun m => s.peerKeeps (modelTarget m)) fun c s =>
    (ms c).foldl (fun s m =>
      if m < 57 && s.peerKeeps (modelTarget m) then
        s.gotRecord (modelTarget m) (if m < 54 then 4 else if m < 56 then 2 else 3) else s) (s.applyHearth c.target c.payload)

/-- STAIR_ENERGY (R497, R426). -/
def execStairEnergy (k : Fin 2) (line : List (BitVec 10)) (s : State) : Out :=
  mirrorAct s k line 7 (fun c s => c.target < 48 && c.target % 4 = 0 && s.peerKeeps c.target) fun c s =>
    (List.range 4).foldl (fun s i => s.gotRecord (c.target + i) 5) (s.applyEnergy c.target c.payload)

/-- STAIR_HALL (R497, R505). -/
def execStairHall (k : Fin 2) (line : List (BitVec 10)) (s : State) : Out :=
  mirrorAct s k line 8 (fun _ s => s.peerKeeps 54) fun c s => (s.applyHall c.payload).gotRecord 54 0

/-- STAIR_PANTRY (R497, R380). -/
def execStairPantry (k : Fin 2) (line : List (BitVec 10)) (s : State) : Out :=
  mirrorAct s k line 9 (fun _ s => s.peerKeeps 54) fun c s => (s.applyPantry c.payload).gotRecord 54 1

/-- The peer holds the Wing, or is the Hall keeper, for a register that a WRITE names. -/
def State.peerWrites (s : State) (addr : Nat) : Bool :=
  match locate addr with
  | none => false
  | some l => match l.wingBus with
    | some w => s.peerHolds w && !s.pair.claims.testBit w.val
    | none => s.peerKeeps 54

/-- The writes of a WRITE record, in order (R500). -/
def State.applyWrites (s : State) (b : List Byte) : State :=
  (List.range (min (num b 0 1) 5)).foldl (fun s i =>
    let a := num b (4 + 8 * i) 4
    if s.peerWrites a then s.busStore .stair a 4 (wordAt b (8 + 8 * i)) else s.on PAIR_EVENT_KEY_STAIR_MISMATCH) s

/-- STAIR_WRITE (R500). -/
def execStairWrite (k : Fin 2) (line : List (BitVec 10)) (s : State) : Out :=
  mirrorAct s k line 10 (fun _ s => s.fld PAIR_STAT_PEER_HELD != 0) fun c s => s.applyWrites c.payload

/-- STAIR_STATUS (R504, R490). -/
def execStairStatus (k : Fin 2) (line : List (BitVec 10)) (s : State) : Out :=
  stairAct s k line 16 true fun c s =>
    (s.onPair fun x =>
      { x with peerStale := num c.payload 0 7 % 2 ^ 55, peerReady := (num c.payload 11 1).testBit 0,
               statusAt := some s.now }).checkRelease

/-- STAIR_RESYNC (R503): the named targets that this chip holds. -/
def execStairResync (k : Fin 2) (line : List (BitVec 10)) (s : State) : Out :=
  stairAct s k line 17 false fun c s =>
    if s.bit PAIR_STAT_DIGEST_MISMATCH then s
    else
      let ts := num c.payload 0 7 &&& (allTargets - s.shadowed)
      s.onPair fun x => { x with asked := x.asked ||| ts
                                 given := x.given.zipIdx.map fun y => if ts.testBit y.2 then 0 else y.1 }

/-- STAIR_DIGEST (R494, PEER_FW). -/
def execStairDigest (k : Fin 2) (line : List (BitVec 10)) (s : State) : Out :=
  stairAct s k line 18 true fun c s =>
    let d := c.payload.take 48
    let s := (s.put PEER_FW_VERSION (num c.payload 48 4)).onPair fun x => { x with dgRx := true, peerDigest := d }
    if d = s.planDigest then (s.on PAIR_STAT_DIGEST_MATCH).off PAIR_STAT_DIGEST_MISMATCH
    else
      let s := if s.bit PAIR_STAT_DIGEST_MISMATCH then s else s.on PAIR_EVENT_DIGEST_MISMATCH
      ((s.on PAIR_STAT_DIGEST_MISMATCH).off PAIR_STAT_DIGEST_MATCH).markStale allTargets

/-! ### Records sent -/

/-- A sending command: `sent` holds its bursts. -/
def sendAct (s : State) (c : Bool) (f : State → State) : Out :=
  pairAct s (c && s.bit STAIR_STAT_TX_ON) fun s => f (s.onPair fun x => { x with sent := [], lanes := [] })

/-- FRAME_SEND (R497, R498): FRAME and the LOOP records of the Landings of the Wings held. -/
def execFrameSend (s : State) : Out :=
  sendAct s (s.pair.claims != 0) fun s =>
    let s := s.onPair fun x =>
      { x with touch := [0, x.touch.getD 0 0, x.touch.getD 1 0], first := [x.seq, x.first.getD 0 0, x.first.getD 1 0] }
    let x := s.pair
    let payload := leBytes 4 x.frame ++ wordBytes (s.regs.get 0x104) ++ wordBytes (s.hallView 0x40) ++
      leBytes 2 (claimCode x.claims) ++ leBytes 2 (x.first.getD 1 0) ++ leBytes 8 (x.touch.getD 1 0) ++
      leBytes 2 (x.first.getD 2 0) ++ leBytes 7 (x.touch.getD 2 0)
    let s := (s.stairSend 1 0x3F payload 0).onPair fun x => { x with frame := (x.frame + 1) % 2 ^ 32 }
    (List.finRange 6).foldl (fun s b =>
      if s.holds (wingOfLand b) then s.stairSend 2 (0x40 + b.val) (s.loopPayload b) 0 else s) s

/-- A record of a held target goes out; one that was asked for is answered with the last record of its set (R503). -/
def State.sendRecord (s : State) (type target bank : Nat) : State :=
  match s.recordOf type target bank with
  | none => s
  | some (b, ts) =>
    if s.holdsAny ts then
      (s.stairSend type target b ts).onPair fun x => x.answered type ts target bank
    else s

/-- RECORD_SEND (R498, R500, R503): a record by TYPE, TARGET and, of a TIMER record, BANK; TYPE 0x0A sends the waiting
writes. -/
def execRecordSend (type target bank : Nat) (s : State) : Out :=
  sendAct s true fun s =>
    if type = 10 then (if s.pair.writes.isEmpty || s.pair.claims = 0 then s else s.sendWrites)
    else s.sendRecord type target bank

/-- RECORD_RESEND (R498). -/
def execRecordResend (type target bank : Nat) (s : State) : Out := sendAct s true fun s => s.sendRecord type target bank

/-- STATUS_SEND (R497, R504). -/
def execStatusSend (s : State) : Out :=
  sendAct s true fun s =>
    s.stairSend 16 0x3F (leBytes 8 s.ownStale ++ leBytes 2 ((s.fld STAIR_STAT_RX_SEQ + 65535) % 65536) ++
      leBytes 1 (claimCode s.pair.claims) ++ leBytes 1 s.ready.toNat) 0

/-- DIGEST_SEND (R494). -/
def execDigestSend (s : State) : Out :=
  sendAct s true fun s =>
    (s.stairSend 18 0x3F (s.planDigest ++ leBytes 4 (s.fld FW_VERSION_VERSION)) 0).onPair fun x => { x with dgTx := true }

/-- The targets of which this chip is shadow and which are stale. -/
def State.staleHere (s : State) : Nat := s.ownStale &&& s.shadowed

/-- RESYNC_SEND (R503): at once for a target that no RESYNC has named, else every 1 ms (log 96). -/
def execResyncSend (s : State) : Out :=
  let ts := s.staleHere
  let unnamed := (List.range 55).any fun t => ts.testBit t && !(s.pair.got.getD t 0).testBit 7
  sendAct s (s.bit PAIR_STAT_LINK_UP && ts != 0 && (unnamed || due s.now s.pair.resyncAt 1000)) fun s =>
    let s := (s.stairSend 17 0x3F (leBytes 7 ts) 0).put STAIR_ERR_RESYNC (min (s.fld STAIR_ERR_RESYNC + 1) 255)
    s.onPair fun x =>
      { x with resyncAt := some s.now, got := x.got.zipIdx.map fun y => if ts.testBit y.2 then y.1 ||| 128 else y.1 }

/-- STATUS_LOSS (R504). -/
def execStatusLoss (s : State) : Out :=
  pairAct s (due s.now s.pair.statusAt 200) fun s => s.onPair fun x => { x with statusAt := none, peerReady := false }

end Sys2Proof.Machine
end

