-- ==== Sys2Proof/Machine/PorchOps.lean ====
section
/-! DEFINITION. Machine/PorchOps.lean: transfer sessions, STAGED images, activations and update events
(17_field_update.md). Kinds are 1 firmware and 2 Plan. -/

namespace Sys2Proof.Machine

def State.onPorch (s : State) (f : Porch → Porch) : State := { s with porch := f s.porch }

/-! ### UPDATE events (R562) -/

/-- A VERSION of a concerned image; free for a kind that is not concerned (log 69). -/
def State.versionBytes (s : State) (v : Option Nat) : List Byte × State :=
  match v with
  | some n => (leBytes 4 n, s)
  | none => s.freeBytes 4

/-- Post an UPDATE event on both links; UPD_STAT.LAST holds its code (R562). -/
def State.update (s : State) (code kinds result : Nat) (fw plan : Option Nat) : State :=
  let a := s.versionBytes fw
  let b := a.2.versionBytes plan
  (b.2.fwPost 3 ⟨0x0C, 0, leBytes 1 code ++ leBytes 1 kinds ++ leBytes 2 result ++ a.1 ++ b.1 ++ leBytes 8 s.tb, 0⟩).put
    UPD_STAT_LAST code

/-- An event about an image of one kind. -/
def State.updateKind (s : State) (code kind result version : Nat) : State :=
  s.update code kind result (if kind = 1 then some version else none) (if kind = 1 then none else some version)

/-- A STAGED image of a kind (R551). -/
def State.stagedOf (s : State) (kind : Nat) : Option Staged := s.porch.staged.getD (kind - 1) none

/-- Kinds with a STAGED image, as bits. -/
def State.stagedKinds (s : State) : Nat :=
  (s.stagedOf 1).isSome.toNat + 2 * (s.stagedOf 2).isSome.toNat

/-- An event about the STAGED images. -/
def State.updateStaged (s : State) (code result : Nat) : State :=
  s.update code s.stagedKinds result ((s.stagedOf 1).map (·.version)) ((s.stagedOf 2).map (·.version))

/-- Slot in use of a kind (R545). -/
def State.slotInUse (s : State) (kind : Nat) : Nat := if kind = 1 then s.fld BOOT_STAT_FW_SLOT else s.fld PLAN_STAT_SLOT

/-- The header of the image in use of a kind. -/
def State.headerInUse (s : State) (kind : Nat) : List Byte := s.slotHeader kind (s.slotInUse kind)

/-- An event about the images in use of some kinds. -/
def State.updateUse (s : State) (code kinds result : Nat) : State :=
  let v (kind : Nat) : Option Nat := if kinds.testBit (kind - 1) then some (hdrVersion (s.headerInUse kind)) else none
  s.update code kinds result (v 1) (v 2)

/-! ### Journal records of updates (R571, R573) -/

/-- KEY of SESSION and STAGED records. -/
def imageKey (kind slot : Nat) : Nat := 256 * kind + slot

/-- A deletion of a key. -/
def delRec (type key : Nat) : List JRec := [⟨type, 2, key, []⟩]

/-- A group of 4: 16 bytes and a digest. -/
def digestGroup (type key : Nat) (first digest : List Byte) : List JRec :=
  [⟨type, 1, key, first⟩, ⟨type, 1, key, bslice digest 0 16⟩, ⟨type, 1, key, bslice digest 16 16⟩,
   ⟨type, 0, key, bslice digest 32 16⟩]

/-- The Journal takes a group: EN and READY, and room (R574, R577); none during an entry sequence (R86, step 2). -/
def State.jTakes (s : State) (g : List JRec) : Bool :=
  !s.bit PWR_STAT_PENDING && s.bit JNL_CTRL_EN && s.bit CEL_STAT_READY && !s.jFull g

/-- The firmware commits a group; `ok` is the Cellar's outcome. Recovery holds session state in RAM only (R554). -/
def State.commit (s : State) (g : List JRec) (ok : Bool) : Bool × State :=
  if s.clk.phase = .recovery then (true, s)
  else if !s.jTakes g then (false, s)
  else if ok then (true, s.jCommit g)
  else
    let f := s.free?
    (false, f.2.jTear g (f.1.toNat % (2 * g.length)))

/-- A deletion, where the Journal holds the key. -/
def State.jDelete (s : State) (type key : Nat) : State :=
  if s.clk.phase != .recovery && (s.jFind type key).isSome then (s.commit (delRec type key) true).2 else s

/-! ### Sessions (R545 to R550) -/

/-- PORCH_STAT, PORCH_SID and PORCH_NEXT from the open session. -/
def State.showSession (s : State) : State :=
  match s.porch.sess with
  | none => (((((s.off PORCH_STAT_SESSION).off PORCH_STAT_KIND).off PORCH_STAT_SLOT).off PORCH_SID_SID).off
      PORCH_NEXT_NEXT).off PORCH_NEXT_CHUNKS
  | some x => (((((s.on PORCH_STAT_SESSION).put PORCH_STAT_KIND x.kind).put PORCH_STAT_SLOT x.slot).put PORCH_SID_SID
      x.id).put PORCH_NEXT_NEXT x.next).put PORCH_NEXT_CHUNKS (chunks x.hdr)

/-- The open session becomes `x`. -/
def State.setSession (s : State) (x : Option Session) : State := (s.onPorch fun p => { p with sess := x }).showSession

/-- A frame of the open session has been accepted (R547). -/
def State.heardSession (s : State) : State :=
  s.onPorch fun p => { p with sess := p.sess.map fun x => { x with lastAt := s.now } }

/-- The session record of a session (R546, R571). -/
def State.sessionGroup (s : State) (x : Session) : List JRec :=
  digestGroup 5 (imageKey x.kind x.slot) (leBytes 4 x.id ++ leBytes 4 x.next ++ leBytes 8 s.tb) (Config.sha384 x.hdr)

/-- A commit time is within R550: not ahead of the time base and at most 7 days old. -/
def State.inTime (s : State) (t : Nat) : Bool := t ≤ s.tb && s.tb - t ≤ 604800000000

/-- NEXT of the session that an OPEN resumes (R546, R550); in recovery the open session alone counts (R554). -/
def State.resumes (s : State) (id kind slot : Nat) (h : List Byte) : Option Nat :=
  if s.clk.phase = .recovery then
    match s.porch.sess with
    | some x => if x.id = id && x.kind = kind && x.slot = slot && x.hdr = h then some x.next else none
    | none => none
  else match s.jFind 5 (imageKey kind slot) with
  | some (r :: t) =>
    if u32 r.data 0 = id && s.inTime (u32 r.data 8 + 2 ^ 32 * u32 r.data 12) && t.flatMap (·.data) = Config.sha384 h then
      some (u32 r.data 4) else none
  | _ => none

/-- No image of a slot is STAGED any more. -/
def State.unstage (s : State) (kind slot : Nat) : State :=
  match s.stagedOf kind with
  | some x =>
    if x.slot = slot then
      ((s.onPorch fun p => { p with staged := setAt p.staged (kind - 1) none }).jDelete 6 (imageKey kind slot)).showStaged
    else s
  | none => s

/-- The open session ends and its record is discarded. -/
def State.endSession (s : State) : State :=
  match s.porch.sess with
  | some x => (s.setSession none).jDelete 5 (imageKey x.kind x.slot)
  | none => s

/-- Distance between chunks in a slot (R548). -/
def chunkUnit (h : List Byte) : Nat := if hdrEnc h then 4112 else 4096
/-- End of a stored chunk in its slot. -/
def chunkEnd (h : List Byte) (c : Nat) : Nat := chunkOff h c + storedLen h c
/-- A length in whole 4 KiB sectors. -/
def roundUp (n : Nat) : Nat := (n + 4095) / 4096 * 4096

/-- The erase before chunk `c` is written (R549) (log 63). -/
def State.eraseFor (s : State) (x : Session) (c : Nat) : State :=
  let a := if c = 0 then 0 else roundUp (chunkEnd x.hdr (c - 1))
  { s with cellar := eraseRange s.cellar (slotBase x.kind x.slot + a) (roundUp (chunkEnd x.hdr c) - a) }

/-- What is written with a chunk, by slot offset: the header goes with chunk 0 (log 62). -/
def Session.writes (x : Session) (c : Nat) (b : List Byte) : List (Nat × List Byte) :=
  (if c = 0 then [(0, x.hdr)] else []) ++ [(chunkOff x.hdr c, b)]

/-- The lowest sector of the slot that reads back wrong (R548, step 3): by the flash itself, or as the Cellar reports. -/
def State.failingSector (s : State) (x : Session) (c : Nat) (b : List Byte) (bad : Option Nat) : Option Nat :=
  let first := if c = 0 then 0 else chunkOff x.hdr c / 4096
  let last := (chunkEnd x.hdr c - 1) / 4096
  let own := (x.writes c b).findSome? fun w =>
    (((cellarBytes s.cellar (slotBase x.kind x.slot + w.1) w.2.length).zip w.2).findIdx? fun y => y.1 != y.2).map fun i =>
      (w.1 + i) / 4096
  match own, bad with
  | some k, some n => if within first n last then some (min k n) else some k
  | some k, none => some k
  | none, some n => if within first n last then some n else none
  | none, none => none

/-- The lowest chunk that overlaps a sector, at most `c` (R549). -/
def lowestChunk (h : List Byte) (c k : Nat) : Nat := if k = 0 then 0 else min c ((4096 * k - 512) / chunkUnit h)

/-! ### Boot records and activation (R555 to R561) -/

/-- A boot record that prefers the STAGED slots, on trial (R556). -/
def State.recordStaged (s : State) (ok : Bool) : State :=
  let slot (kind : Nat) : Nat := match s.stagedOf kind with | some x => x.slot | none => s.slotInUse kind
  s.writeBrec (slot 1) (slot 2) s.stagedKinds 3 ok

/-- A boot record that prefers the slots in use, without trial (R556, R560). -/
def State.recordUse (s : State) (ok : Bool) : State := s.writeBrec (s.slotInUse 1) (s.slotInUse 2) 0 0 ok

/-- No activation is scheduled any more (R556, R559). -/
def State.unschedule (s : State) : State :=
  ((((s.off UPD_STAT_SCHEDULED).off UPD_STAT_DEFERRING).off UPD_AT_LO_AT).off UPD_AT_HI_AT).onPorch fun p =>
    { p with evalAt := none, deferAt := none }

/-- ACTIVATE of a link or of the Porch (R555): the code of "Activation results" (log 64). -/
def State.activate (s : State) (at' : Nat) (ok : Bool) : Nat × State :=
  if at' = 0 then
    if !s.scheduled then (8, s)
    else if !ok then (9, s.recordUse false)
    else (1, ((s.recordUse true).unschedule).updateStaged 5 0)
  else if s.stagedKinds = 0 then (2, s)
  else if at' < s.tb + 1000000 then (3, s)
  else if s.tb + 2592000000000 < at' then (4, s)
  else if s.pairMode && !(s.bit PAIR_STAT_READY && s.pair.peerReady) then (5, s)
  else if s.porch.sess.isSome then (6, s)
  else if s.fld UPD_STAT_TRIAL != 0 then (7, s)
  else if !ok then (9, s.recordStaged false)
  else
    let s := (s.recordStaged true).unschedule
    (0, (((s.on UPD_STAT_SCHEDULED).put UPD_AT_LO_AT (at' % 2 ^ 32)).put UPD_AT_HI_AT (at' / 2 ^ 32)).updateStaged 4 0)

/-- A condition of R557 that defers, with the mean |port current| of the last 10 ms in mA by port. -/
def State.defers (s : State) (means : List Nat) : Bool :=
  ((List.finRange 48).any fun p => s.pl.whole p.val &&
    ((s.room p).stateCode = 4 || ((s.pl.port p.val).cls = 0 && (s.pl.port p.val).motion != 0 &&
      (s.pl.port p.val).motion * 100 ≤ means.getD p.val 0))) ||
  s.fld HALL_MODE_MODE = mFire || s.bit HALL_MODE_PENDING || s.bit ATTIC_STAT_BUSY

/-! ### Commands of the Porch (R543, R544) -/

/-- The Porch serves commands: after boot complete with EN at 1, and in recovery (PORCH_CTRL, R538); while a reply is due or
PORCH_EN_N is low it ignores PORCH_RXD (R541). -/
def State.porchOn (s : State) : Bool :=
  s.listens && s.porch.left = 0 && ((s.booted && s.bit PORCH_CTRL_EN) || s.clk.phase = .recovery)

/-- The Porch sends a reply 20 bit times after the closing flag of the command; PORCH_EN_N is low for a bit time more on
either side (R541, R543; log 154). -/
def State.porchSend (s : State) (b : List Byte) : State :=
  s.onPorch fun p => { p with line := wire b, left := 21 + 10 * (wire b).length }

/-- One µs of the Porch: 3 bit times (R540). -/
def State.porchTick (s : State) : State := s.onPorch fun p => { p with left := p.left - 3 }

/-- A command of the Porch: a repetition gets the stored reply (R439); a command that is not served or whose form is wrong is
answered and not executed; `blank` is what its reply holds then after STATUS, `n` the number of its open bytes (log 52). -/
def State.porchCmd (s : State) (type : Nat) (f : Frame) (retired recovery form : Bool) (blank : List Byte) (n : Nat)
    (run : State → List Byte × State) : State :=
  let refuse (code : Nat) : State := let r := s.refusal code blank n; r.2.porchSend (replyBytes type f r.1)
  match s.porch.last with
  | some x => if x.answers type f then s.porchSend x.bytes else go refuse
  | none => go refuse
where
  go (refuse : Nat → State) : State :=
    if !retired && s.fld ATTIC_STAT_LIFECYCLE = 3 then refuse 15
    else if !recovery && s.clk.phase = .recovery then refuse 16
    else if f.res != 0 || !form then refuse 13
    else
      let r := run s
      let b := replyBytes type f r.1
      (r.2.porchSend b).onPorch fun p => { p with last := some ⟨f.seq, frameCrc type f, b⟩ }

/-- A command of the Porch arrives on its line; other characters are none of it. -/
def porchAct (s : State) (type : Nat) (line : List Byte) (go : Frame → State → State) : Out :=
  match typed line type with
  | none => .next s
  | some f => act s s.porchOn (go f)

/-- The open session that a payload's SESSION_ID names. -/
def State.named (s : State) (f : Frame) : Option Session :=
  match s.porch.sess with
  | some x => if x.id = u32 f.payload 0 then some x else none
  | none => none

end Sys2Proof.Machine
end

