-- ==== Sys2Proof/Machine/HostOps.lean ====
section
/-! DEFINITION. Machine/HostOps.lean: what host links and two-wire targets share: the limits of their register accesses and
the marking of Settings words (13_host_link.md R442 to R444, 14_two_wire.md R466 to R468), and the parts of a host link's
commands (R433, R438 to R440, R445, R450 to R453). -/

namespace Sys2Proof.Machine

/-! ### Register accesses of a host -/

/-- Regions served before boot complete: the Hall global region, and the Attic region in recovery (R442, R466). -/
def State.servedEarly (s : State) (addr : Nat) : Bool :=
  addr < 0x1000 || (s.bit BOOT_STAT_RECOVERY && within 0x40000 addr 0x40FFF)

/-- A 32-bit read: its code of "Reply status", the word, and what the read changes (R442, R466). -/
def State.extRead (s : State) (r : Req) (addr : Nat) : Nat × Word × State :=
  if !s.booted && !s.servedEarly addr then (5, 0, s)
  else
    let t := s.busLoad r addr 4
    (if t.rerr then 1 else 0, t.rdata, t)

/-- Settings entries whose field stands in the word at an address (R468). -/
def State.marks (s : State) (addr : Nat) : List SettingRec :=
  s.pl.settings.filter fun e => e.target != 0 && e.target / 4 = addr / 4

/-- The Hall firmware commits the value in effect of a JOURNALED entry (R130). -/
def State.commitSetting (s : State) (e : SettingRec) : State :=
  if e.flags.testBit 0 then
    (s.commit [⟨2, 0, e.id, settingData s.pl.schema (s.settingNow e).toNat s.tb⟩] true).2
  else s

/-- The word at an address differs between two states. -/
def State.changesAt (s t : State) (addr : Nat) : Bool :=
  match locate addr with
  | some l => t.view l != s.view l
  | none => false

/-- A 32-bit write with its code (R442 to R444, R466 to R468): `always` refuses a marked word whether or not the write would
change it. -/
def State.extWrite (s : State) (r : Req) (always : Bool) (addr : Nat) (v : Word) : Nat × State :=
  let t := s.busStore r addr 4 v
  let own := match (locate addr).bind Loc.wingBus with | some w => s.keeps w | none => true
  if !s.booted then (5, s)
  else if s.pairMode && !own then (6, s)
  else if (s.marks addr).any (fun e => !e.flags.testBit 1) && (always || s.changesAt t addr) then (7, s)
  else if t.rerr then (1, t)
  else (0, (s.marks addr).foldl State.commitSetting t)

/-! ### A link -/

/-- A field of link `n` (registers at n × 0x100). -/
def hlField (n : Fin 2) (f : Field) : Field := f.shift (0x100 * n.val)

/-- HLn_CTS_N keeps the transmitter from starting a character (R433). -/
def State.blocked (s : State) (n : Fin 2) : Bool := s.bit (hlField n HL_CTRL_FLOW_EN) && s.bit (hlField n HL_STAT_CTS)

/-- The link's receiver and its commands are on. -/
def State.hears (s : State) (n : Fin 2) : Bool := s.listens && s.bit (hlField n HL_CTRL_EN)

/-- The link executes its next command: no reply waits to start, and no command is held or in progress (R438; log
84). -/
def State.linkOn (s : State) (n : Fin 2) : Bool :=
  s.hears n && (s.link n).wait.isNone && (s.link n).cmd.isNone && (s.link n).prog.isNone

/-- An event frame (R447). -/
def Evt.bytes (e : Evt) : List Byte :=
  frameBytes 0x40 e.seq (leBytes 1 e.kind ++ leBytes 1 e.src ++ leBytes 2 e.count ++ leBytes 8 e.tb ++ e.data)

/-! ### The transmitter (R431, R434, R450, R453) -/

/-- Events of a resend that are still outstanding and have not been sent again (R450, R455). -/
def Link.resends (k : Link) : List Evt := (k.again.getD []).filterMap fun q => k.out.find? (·.seq = q)

/-- The next outstanding event that has not been sent. -/
def Link.unsent (k : Link) : Option Evt := k.out.find? fun e => e.sentAt.isNone && k.sending != some e.seq

/-- The event frame that goes next: one of a resend first. -/
def Link.nextEvent (k : Link) : Option Evt := k.resends.head? <|> k.unsent

/-- Put a frame on the line: 10 bits a character at DIVF ÷ 3,840 µs a bit, with the DIVF of its start (R431, HL_BAUD). -/
def Link.begin (div : Nat) (b : List Byte) (k : Link) : Link :=
  { k with line := wire b, left := 10 * (wire b).length * div }

/-- Send an event (R453). -/
def Link.sendEvent (div : Nat) (k : Link) : Link :=
  match k.nextEvent with
  | none => k
  | some e => { k.begin div e.bytes with
                sending := some e.seq, run := 0
                again := k.again.map fun l => (l.dropWhile (· != e.seq)).drop (if l.contains e.seq then 1 else 0) }

/-- What an idle transmitter starts by itself (R450, R453): a reply, after 4 in a row with an event waiting one event, and the
events of a resend. -/
def Link.start (div : Nat) (events : Bool) (k : Link) : Link :=
  if k.left != 0 then k
  else
    let ev := events && k.nextEvent.isSome
    match k.wait with
    | some b =>
      if ev && 4 ≤ k.run then k.sendEvent div
      else { k.begin div b with wait := none, run := if ev then k.run + 1 else 0 }
    | none => if events && !k.resends.isEmpty then k.sendEvent div else k

/-- The transmitter of a link starts what is due, while HLn_CTS_N lets it (R433). -/
def State.kickLink (s : State) (n : Fin 2) : State :=
  if s.blocked n then s
  else s.onLink n (Link.start (s.fld (hlField n HL_BAUD_DIVF)) (s.bit (hlField n HL_CTRL_EVT_EN)))

/-- A frame has ended: the stamp of its event, and of every sent event at the end of a resend (R450). -/
def Link.sent (now : Nat) (k : Link) : Link :=
  match k.sending with
  | none => k
  | some q =>
    let mark (f : Evt → Bool) (e : Evt) : Evt := if f e then { e with sentAt := some now } else e
    if k.again.isSome && k.resends.isEmpty then
      { k with sending := none, again := none, out := k.out.map (mark fun e => e.seq = q || e.sentAt.isSome) }
    else { k with sending := none, out := k.out.map (mark fun e => e.seq = q) }

/-- One µs of the transmitter. -/
def Link.txTick (now : Nat) (k : Link) : Link :=
  if k.left = 0 then k
  else if 3840 < k.left then { k with left := k.left - 3840 }
  else Link.sent now { k with left := 0 }

/-! ### Replies and refusals -/

/-- A reply goes out, or waits for the transmitter. -/
def State.reply (s : State) (n : Fin 2) (b : List Byte) : State :=
  (s.onLink n fun k => { k with wait := some b }).kickLink n

/-- The stored reply of the last command executed (R439). -/
def State.store (s : State) (n : Fin 2) (type : Nat) (f : Frame) (b : List Byte) : State :=
  s.onLink n fun k => { k with last := some ⟨f.seq, frameCrc type f, b⟩ }

/-- An executed command: its reply is kept and sent (R438, R439). -/
def State.finish (s : State) (n : Fin 2) (type : Nat) (f : Frame) (payload : List Byte) : State :=
  let b := replyBytes type f payload
  (s.store n type f b).reply n b

/-- A refused form or a firmware command before boot complete: answered, not executed (R440, R442). -/
def State.linkRefuse (s : State) (n : Fin 2) (type : Nat) (f : Frame) (status : Nat) (known : List Byte) (open' : Nat) : State :=
  let r := s.refusal status known open'
  r.2.reply n (replyBytes type f r.1)

/-- A command of a host link (R438 to R440): a repetition gets the stored reply, a wrong form FORMAT; else `go`. -/
def State.judged (s : State) (n : Fin 2) (type : Nat) (f : Frame) (form : Bool) (known : List Byte) (open' : Nat)
    (go : State → State) : State :=
  let rest := if f.res != 0 || !form then s.linkRefuse n type f 3 known open' else go s
  match (s.link n).last with
  | some x => if x.answers type f then s.reply n x.bytes else rest
  | none => rest

/-- A command that is executed at once: the payload of its reply and the state it leaves. -/
def State.linkCmd (s : State) (n : Fin 2) (type : Nat) (f : Frame) (form : Bool) (known : List Byte) (open' : Nat)
    (run : State → List Byte × State) : State :=
  s.judged n type f form known open' fun s =>
    let r := run s
    r.2.finish n type f r.1

/-- A command of the Hall firmware (R442, R445): NOT_READY before boot complete; held where the firmware does not complete
it in 10 ms (log 79). -/
def State.firmCmd (s : State) (n : Fin 2) (type : Nat) (f : Frame) (form held : Bool) (since : Nat) (known : List Byte)
    (open' : Nat) (run : State → List Byte × State) : State :=
  let again := match (s.link n).last with | some x => x.answers type f | none => false
  if !again && f.res = 0 && form && !s.booted then s.linkRefuse n type f 5 known open'
  else if !again && f.res = 0 && form && held then s.onLink n fun k => { k with cmd := some ⟨type, f, since⟩ }
  else s.linkCmd n type f form known open' run

/-! ### The receiver (R433, R436, R438) -/

/-- HLn_RTS_N follows the free bytes: high at 64 or fewer, low again from 256 on (R433). -/
def Link.showRts (k : Link) : Link :=
  { k with rts := if k.rxFree ≤ 64 then true else if 256 ≤ k.rxFree then false else k.rts }

/-- A received command: executed at once where the link is free for it, else kept in the receive buffer; a frame that finds
no room there is discarded and counted (R433, R438; log 83). -/
def State.arrive (s : State) (n : Fin 2) (c : RxCmd) (go : State → State) : State :=
  if s.linkOn n && (s.link n).rx.isEmpty then go s
  else if (s.link n).rxFree < c.size then
    let f := hlField n HL_ERR_OVERRUN
    s.put f (min (s.fld f + 1) 255)
  else s.onLink n fun k => Link.showRts { k with rx := k.rx ++ [c] }

/-- A command of a host link arrives on its line; other characters are none of it. -/
def hostAct (s : State) (n : Fin 2) (type : Nat) (line : List Byte) (held recOk : Bool) (go : Frame → State → State) : Out :=
  match typed line type with
  | none => .next s
  | some f => act s (s.hears n) fun s => s.arrive n ⟨type, f, held, recOk, s.now⟩ (go f)

/-- A count of HL_ERR or PORCH_ERR goes up, saturating at 255. -/
def State.countErr (s : State) (f : Field) : State := s.put f (min (s.fld f + 1) 255)

end Sys2Proof.Machine
end

