-- ==== Sys2Proof/Machine/HostLink.lean ====
section
/-! DEFINITION. Machine/HostLink.lean: the commands of the host links and the sending of events (13_host_link.md). A command
carries its link and its frame; one of the Hall firmware also whether the firmware fails to complete it in time. -/

namespace Sys2Proof.Machine

/-- A status byte and its reserved bytes. -/
def status4 (code : Nat) : List Byte := [BitVec.ofNat 8 code, 0, 0, 0]

/-- READ (R441, R442). -/
def State.hlRead (n : Fin 2) (f : Frame) (s : State) : State :=
  let a := u32 f.payload 0
  s.linkCmd n 1 f (f.payload.length = 4) [0, 0, 0] 4 fun s =>
    if a % 4 != 0 then s.refusal 2 [0, 0, 0] 4
    else
      let r := s.extRead (.hl n) a
      if r.1 = 5 then s.refusal 5 [0, 0, 0] 4 else (status4 r.1 ++ wordBytes r.2.1, r.2.2)

/-- HL_READ (R441, R442). -/
def execHlRead (n : Fin 2) (line : List Byte) (s : State) : Out := hostAct s n 1 line false false (State.hlRead n)

/-- WRITE (R441 to R444). -/
def State.hlWrite (n : Fin 2) (f : Frame) (s : State) : State :=
  let a := u32 f.payload 0
  s.linkCmd n 2 f (f.payload.length = 8) [0, 0, 0] 0 fun s =>
    if a % 4 != 0 then (status4 2, s)
    else
      let r := s.extWrite (.hl n) false a (BitVec.ofNat 32 (u32 f.payload 4))
      (status4 r.1, r.2)

/-- HL_WRITE (R441 to R444). -/
def execHlWrite (n : Fin 2) (line : List Byte) (s : State) : Out := hostAct s n 2 line false false (State.hlWrite n)

/-! ### Commands of several accesses (R27, R441)

Each access is a bus grant of its own. A command that names a number of grants makes that many accesses of the transfer and
leaves the rest to a later one, so that other requesters come between. -/

/-- The word that RMW writes (R440). -/
def rmwWord (old mask data : Word) : Word := (old &&& ~~~mask) ||| (data &&& mask)

/-- The form of a bulk command's fields (R440). -/
def bulkForm (b : List Byte) (most : Nat) : Bool := within 1 (u16 b 4) most && u8 b 6 < 2 && u8 b 7 = 0
/-- Address step of MODE. -/
def bulkStep (b : List Byte) : Nat := if u8 b 6 = 1 then 0 else 4

/-- One access of RMW: the read, then the write (R441). -/
def State.rmwOne (n : Fin 2) (p : Prog) (s : State) : Option Nat × Prog × State :=
  let b := p.frame.payload
  if p.done = 0 then
    let x := s.extRead (.hl n) (u32 b 0)
    (if x.1 = 0 then none else some x.1, { p with done := 1, words := [x.2.1] }, x.2.2)
  else
    let x := s.extWrite (.hl n) false (u32 b 0)
      (rmwWord (p.words.getD 0 0) (BitVec.ofNat 32 (u32 b 4)) (BitVec.ofNat 32 (u32 b 8)))
    (some x.1, { p with done := 2 }, x.2)

/-- One word of BULK_READ. -/
def State.bulkReadOne (n : Fin 2) (p : Prog) (s : State) : Option Nat × Prog × State :=
  let b := p.frame.payload
  let x := s.extRead (.hl n) (u32 b 0 + bulkStep b * p.done)
  if x.1 != 0 then (some x.1, p, x.2.2)
  else (if p.done + 1 = u16 b 4 then some 0 else none, { p with done := p.done + 1, words := p.words ++ [x.2.1] }, x.2.2)

/-- One word of BULK_WRITE. -/
def State.bulkWriteOne (n : Fin 2) (p : Prog) (s : State) : Option Nat × Prog × State :=
  let b := p.frame.payload
  let x := s.extWrite (.hl n) false (u32 b 0 + bulkStep b * p.done) (BitVec.ofNat 32 (u32 b (8 + 4 * p.done)))
  if x.1 != 0 then (some x.1, p, x.2)
  else (if p.done + 1 = u16 b 4 then some 0 else none, { p with done := p.done + 1 }, x.2)

/-- One access of the transfer of a link: the status at its end, none while accesses remain, and the progress. -/
def State.progOne (n : Fin 2) (p : Prog) (s : State) : Option Nat × Prog × State :=
  if p.type = 3 then s.rmwOne n p else if p.type = 4 then s.bulkReadOne n p else s.bulkWriteOne n p

/-- The reply to a transfer that has ended (R440). -/
def State.progEnd (n : Fin 2) (code : Nat) (p : Prog) (s : State) : State :=
  let s := s.onLink n fun k => { k with prog := none }
  if p.type = 3 then
    if 5 ≤ code then
      let r := s.refusal code [0, 0, 0] 4
      r.2.finish n 3 p.frame r.1
    else s.finish n 3 p.frame (status4 code ++ wordBytes (p.words.getD 0 0))
  else if p.type = 4 then
    s.finish n 4 p.frame ([BitVec.ofNat 8 code, 0] ++ leBytes 2 p.done ++ p.words.flatMap wordBytes)
  else s.finish n 5 p.frame ([BitVec.ofNat 8 code, 0] ++ leBytes 2 p.done)

/-- The next `k` accesses of the transfer of a link. -/
def State.progRun (n : Fin 2) : Nat → State → State
  | 0, s => s
  | k + 1, s =>
    match (s.link n).prog with
    | none => s
    | some p =>
      let r := s.progOne n p
      match r.1 with
      | none => State.progRun n k (r.2.2.onLink n fun x => { x with prog := some r.2.1 })
      | some code => r.2.2.progEnd n code r.2.1

/-- A transfer begins, and its first `k` accesses. -/
def State.progStart (n : Fin 2) (type : Nat) (f : Frame) (k : Nat) (s : State) : State :=
  (s.onLink n fun x => { x with prog := some ⟨type, f, 0, []⟩ }).progRun n k

/-- Why a write is refused before any access (R442, R444): NOT_READY, NOT_KEEPER; 0 for neither. -/
def State.writeBar (s : State) (addr : Nat) : Nat :=
  if !s.booted then 5
  else if s.pairMode && !(match (locate addr).bind Loc.wingBus with | some w => s.keeps w | none => true) then 6
  else 0

/-- RMW with its first `k` accesses (R440 to R444). -/
def State.hlRmw (n : Fin 2) (k : Nat) (f : Frame) (s : State) : State :=
  let a := u32 f.payload 0
  s.judged n 3 f (f.payload.length = 12) [0, 0, 0] 4 fun s =>
    let code := if a % 4 != 0 then 2 else s.writeBar a
    if code != 0 then
      let r := s.refusal code [0, 0, 0] 4
      r.2.finish n 3 f r.1
    else s.progStart n 3 f k

/-- BULK_READ with its first `k` words (R440 to R442). -/
def State.hlBulkRead (n : Fin 2) (k : Nat) (f : Frame) (s : State) : State :=
  let b := f.payload
  s.judged n 4 f (b.length = 8 && bulkForm b 255) [0, 0, 0] 0 fun s =>
    if u32 b 0 % 4 != 0 then s.finish n 4 f (status4 2) else s.progStart n 4 f k

/-- BULK_WRITE with its first `k` words (R440 to R443). -/
def State.hlBulkWrite (n : Fin 2) (k : Nat) (f : Frame) (s : State) : State :=
  let b := f.payload
  s.judged n 5 f (8 ≤ b.length && bulkForm b 254 && b.length = 8 + 4 * u16 b 4) [0, 0, 0] 0 fun s =>
    if u32 b 0 % 4 != 0 then s.finish n 5 f (status4 2) else s.progStart n 5 f k

/-- A transfer of this TYPE is in progress on the link. -/
def State.progs (s : State) (n : Fin 2) (type : Nat) : Bool :=
  match (s.link n).prog with
  | some p => p.type = type
  | none => false

/-- A transfer's frame arrives with `k` grants, or the transfer in progress gets `k` more. -/
def progAct (s : State) (n : Fin 2) (type : Nat) (line : Option (List Byte)) (k : Nat) (go : Frame → State → State) : Out :=
  match line with
  | some l => hostAct s n type l false false go
  | none => act s (s.serving && s.progs n type) fun s => s.progRun n k

/-- RMW (R27, R440, R441): a read and a write, each a grant of its own (log 82). -/
def execRmw (n : Fin 2) (line : Option (List Byte)) (k : Nat) (s : State) : Out := progAct s n 3 line k (State.hlRmw n k)

/-- BULK_READ (R27, R440 to R442). -/
def execBulkRead (n : Fin 2) (line : Option (List Byte)) (k : Nat) (s : State) : Out :=
  progAct s n 4 line k (State.hlBulkRead n k)

/-- BULK_WRITE (R27, R440 to R443). -/
def execBulkWrite (n : Fin 2) (line : Option (List Byte)) (k : Nat) (s : State) : Out :=
  progAct s n 5 line k (State.hlBulkWrite n k)

/-! ### Subscription, snapshot, activation, ACK -/

/-- SUBSCRIBE: the subscription registers of the link (R440, R441). -/
def State.hlSubscribe (n : Fin 2) (f : Frame) (s : State) : State :=
  let b := f.payload
  s.linkCmd n 6 f (b.length = 16 && u16 b 10 = 0 && u8 b 12 < 64 && (bslice b 13 3).all (· = 0)) [0, 0, 0] 0 fun s =>
    (status4 0, (((s.put (hlField n HL_SUB_KIND_KINDS) (u32 b 0 / 2)).put (hlField n HL_SUB_PORT0_PORTS) (u32 b 4)).put
      (hlField n HL_SUB_PORT1_PORTS) (u16 b 8)).put (hlField n HL_SUB_PORT1_SLOTS) (u8 b 12))

/-- SUBSCRIBE (R440, R441). -/
def execSubscribe (n : Fin 2) (line : List Byte) (s : State) : Out := hostAct s n 6 line false false (State.hlSubscribe n)

/-- The reply to SNAPSHOT: the values of the last capture (R441). -/
def State.snapReply (n : Fin 2) (code : Nat) (f : Frame) (s : State) : State :=
  s.finish n 7 f (status4 code ++ wordBytes (s.regs.get 0x144) ++ wordBytes (s.regs.get 0x148) ++ wordBytes (s.regs.get 0x14C))

/-- SNAPSHOT: a trigger; the reply waits for the capture edge, or says SNAP_MISSED where R430 refuses it (R441). A driven
trigger is judged at the capture. -/
def State.hlSnapshot (n : Fin 2) (f : Frame) (s : State) : State :=
  s.judged n 7 f f.payload.isEmpty [0, 0, 0] 12 fun s =>
    let t := s.snapTrig
    if t.snap.cap.isNone || s.snap.cap.isSome then t.snapReply n 9 f
    else t.onLink n fun x => { x with prog := some ⟨7, f, 0, []⟩ }

/-- SNAPSHOT (R441): answered by CAPTURE (log 80). -/
def execSnapshot (n : Fin 2) (line : List Byte) (s : State) : Out := hostAct s n 7 line false false (State.hlSnapshot n)

/-- The replies of the SNAPSHOT commands that wait for a capture. -/
def State.snapReplies (code : Nat) (s : State) : State :=
  (List.finRange 2).foldl (fun s n =>
    match (s.link n).prog with
    | some p => if p.type = 7 then (s.onLink n fun x => { x with prog := none }).snapReply n code p.frame else s
    | none => s) s

/-- CAPTURE (R427, R441): the edge that follows a trigger. A driven trigger falls to R430 here. -/
def execCapture (s : State) : Out :=
  act s (s.clocked && s.snap.cap.isSome) fun s =>
    if s.snap.drive.isSome && s.snap.cap = some 0 && s.snapBars then
      State.snapReplies 9 { (s.on SNAP_CTRL_MISSED) with snap := { s.snap with cap := none } }
    else (s.capture (s.snap.cap.getD 0)).snapReplies 0

/-- ACTIVATE of a link (R555). -/
def State.hlActivate (n : Fin 2) (held recOk : Bool) (since : Nat) (f : Frame) (s : State) : State :=
  s.firmCmd n 8 f (f.payload.length = 8) held since [0, 0, 0] 4 fun s =>
    let r := s.activate (u32 f.payload 0 + 2 ^ 32 * u32 f.payload 4) recOk
    (status4 0 ++ leBytes 4 r.1, r.2)

/-- HL_ACTIVATE (R555). -/
def execHlActivate (n : Fin 2) (line : List Byte) (held recOk : Bool) (s : State) : Out :=
  hostAct s n 8 line held recOk (State.hlActivate n held recOk s.now)

/-- ACK: executed without a reply; a wrong form is answered (R440, R449). -/
def State.hlAck (n : Fin 2) (f : Frame) (s : State) : State :=
  if f.res = 0 && f.payload.length = 2 then s.onLink n fun k => k.ack s.tb n.val (u16 f.payload 0)
  else s.linkRefuse n 9 f 3 [] 0

/-- ACK (R449). -/
def execAck (n : Fin 2) (line : List Byte) (s : State) : Out := hostAct s n 9 line false false (State.hlAck n)

/-! ### Settings and vendor messages -/

/-- A value clamped to MIN and MAX of its entry (R130, R441). -/
def SettingRec.clamp (e : SettingRec) (v : Nat) : Nat :=
  let below := if e.flags.testBit 2 then decide (sgn32 v < sgn32 e.min) else decide (v < e.min)
  let above := if e.flags.testBit 2 then decide (sgn32 e.max < sgn32 v) else decide (e.max < v)
  if below then e.min else if above then e.max else v

/-- This chip keeps an entry's TARGET; a value of the Hall firmware goes with the Hall keeper (R444). -/
def State.keepsSetting (s : State) (e : SettingRec) : Bool :=
  match (locate e.target).bind Loc.wingBus with
  | some w => if e.target = 0 then s.hallKeeper else s.keeps w
  | none => s.hallKeeper

/-- A SETTING write (R130, R441, R500). -/
def State.writeSetting (s : State) (e : SettingRec) (v : Nat) : State :=
  let t := s.putSetting e (e.clamp v)
  let t := match if e.target = 0 then none else locate e.target with
    | some l => match rwField l e.lsb e.width with
      | some f => t.noteWrite .hall l e.target (s.fieldWord l f (e.clamp v))
      | none => t
    | none => t
  t.commitSetting e

/-- SETTING: a read or a write of the value in effect (R441, R443, R444) (log 81). -/
def State.hlSetting (n : Fin 2) (held : Bool) (since : Nat) (f : Frame) (s : State) : State :=
  let b := f.payload
  s.firmCmd n 10 f (b.length = 8 && u8 b 0 < 2 && u8 b 1 = 0) held since [0, 0, 0] 4 fun s =>
    match s.pl.settings.find? (·.id = u16 b 2) with
    | none => s.refusal 8 [0, 0, 0] 4
    | some e =>
      if u8 b 0 = 0 then (status4 0 ++ wordBytes (s.settingNow e), s)
      else if !s.keepsSetting e then s.refusal 6 [0, 0, 0] 4
      else if !e.flags.testBit 1 then s.refusal 7 [0, 0, 0] 4
      else
        let t := s.writeSetting e (u32 b 4)
        (status4 0 ++ wordBytes (t.settingNow e), t)

/-- SETTING (R441, R443, R444). -/
def execSetting (n : Fin 2) (line : List Byte) (held : Bool) (s : State) : Out :=
  hostAct s n 10 line held false (State.hlSetting n held s.now)

/-- The Hall firmware's writes of a vendor message: HV1 onward, HV0, HVDM_SEND (R441, R208). -/
def State.sendVdm (s : State) (p : Fin 48) (words : List Word) : State :=
  let at' (o : Nat) : Nat := 0x1000000 + 0x40000 * p.val + o
  let s := words.zipIdx.foldl (fun s x => s.busStore .hall (at' (0xE4 + 4 * x.2)) 4 x.1) s
  let s := s.busStore .hall (at' 0xE0) 4 (BitVec.ofNat 32 (4096 * words.length + 0x0F))
  s.busStore .hall (at' 0x88) 4 PD_CMD_HVDM_SEND.mask

/-- VDM_SEND: the request is handed to the port (R441, R444). -/
def State.hlVdm (n : Fin 2) (held : Bool) (since : Nat) (f : Frame) (s : State) : State :=
  let b := f.payload
  s.firmCmd n 11 f (4 ≤ b.length && u8 b 0 < 48 && within 1 (u8 b 1) 7 && u16 b 2 = 0 && b.length = 4 + 4 * u8 b 1) held
    since [0, 0, 0] 0 fun s =>
      let p := Fin.ofNat 48 (u8 b 0)
      if s.pairMode && !s.keeps (wingOf p) then (status4 6, s)
      else (status4 0, s.sendVdm p ((List.range (u8 b 1)).map fun i => BitVec.ofNat 32 (u32 b (4 + 4 * i))))

/-- VDM_SEND (R441, R444). -/
def execVdmSend (n : Fin 2) (line : List Byte) (held : Bool) (s : State) : Out :=
  hostAct s n 11 line held false (State.hlVdm n held s.now)

/-- PING: the payload alone (R438, R440); not kept for repetition (R439). -/
def State.hlPing (n : Fin 2) (f : Frame) (s : State) : State :=
  if f.res = 0 && f.payload.length ≤ 1024 then s.reply n (replyBytes 12 f f.payload) else s.linkRefuse n 12 f 3 [] 0

/-- PING (R440). -/
def execPing (n : Fin 2) (line : List Byte) (s : State) : Out := hostAct s n 12 line false false (State.hlPing n)

/-- A frame of a TYPE that no table lists (R440, R544). -/
def State.hlUnknown (n : Fin 2) (type : Nat) (f : Frame) (s : State) : State := s.reply n (unknownReply type f)

/-- UNKNOWN_TYPE (R440, R544): on link 0 or 1, or on the Porch. -/
def execUnknownType (n : Fin 3) (line : List Byte) (s : State) : Out :=
  match readFrame line with
  | none => .next s
  | some (t, f) =>
    if h : n.val < 2 then
      act s (s.hears ⟨n.val, h⟩ && !within 1 t 12) fun s =>
        s.arrive ⟨n.val, h⟩ ⟨t, f, false, false, s.now⟩ (State.hlUnknown ⟨n.val, h⟩ t f)
    else act s (s.porchOn && !within 1 t 7) fun s => s.porchSend (unknownReply t f)

/-- The command of a frame in the receive buffer (R438). The accesses of a transfer follow by its own command. -/
def State.hostRun (n : Fin 2) (c : RxCmd) (s : State) : State :=
  match c.type with
  | 1 => s.hlRead n c.frame
  | 2 => s.hlWrite n c.frame
  | 3 => s.hlRmw n 0 c.frame
  | 4 => s.hlBulkRead n 0 c.frame
  | 5 => s.hlBulkWrite n 0 c.frame
  | 6 => s.hlSubscribe n c.frame
  | 7 => s.hlSnapshot n c.frame
  | 8 => s.hlActivate n c.held c.recOk c.since c.frame
  | 9 => s.hlAck n c.frame
  | 10 => s.hlSetting n c.held c.since c.frame
  | 11 => s.hlVdm n c.held c.since c.frame
  | 12 => s.hlPing n c.frame
  | t => s.hlUnknown n t c.frame

/-- One µs of a link (R431, R433, R438, R453): its transmitter, and the oldest buffered command once the link is free for
it. -/
def State.linkTick (n : Fin 2) (s : State) : State :=
  let s := if s.blocked n then s else (s.onLink n (Link.txTick s.now)).kickLink n
  match (s.link n).rx with
  | [] => s
  | c :: rest => if s.linkOn n then (s.onLink n fun k => Link.showRts { k with rx := rest }).hostRun n c else s

/-! ### Frames that are not received, and events -/

/-- A receiver takes frames: link 0, link 1, the Porch. -/
def State.receives (s : State) (n : Fin 3) : Bool :=
  if n.val < 2 then s.listens && s.bit (HL_CTRL_EN.shift (0x100 * n.val)) else s.porchOn

/-- An error count of a receiver. -/
def errField (n : Fin 3) (hl porch : Field) : Field := if n.val < 2 then hl.shift (0x100 * n.val) else porch

/-- FRAME_DISCARD (R436, R542): a closed frame with a lost byte, a character error, or a wrong length or CRC. -/
def execFrameDiscard (n : Fin 3) (line : List Byte) (charErr lost : Bool) (s : State) : Out :=
  act s (s.receives n && closed line && (unstuff (between line)).isSome && (charErr || lost || (readFrame line).isNone))
    fun s =>
    s.countErr (if lost then errField n HL_ERR_OVERRUN PORCH_ERR_OVERRUN
      else if charErr then errField n HL_ERR_CHAR PORCH_ERR_CHAR else errField n HL_ERR_CRC PORCH_ERR_CRC)

/-- A frame that its sender has left for `idle` bit times after the last character: 32 character times abort it (R437). -/
def silent (line : List Byte) (idle : Nat) : Bool := line.contains 0x7E#8 && !closed line && 320 ≤ idle

/-- FRAME_ABORT (R436, R437, R542): silence, or 0x7D before the closing flag, which is a wrong escape as well (log 153). -/
def execFrameAbort (n : Fin 3) (line : List Byte) (idle : Nat) (s : State) : Out :=
  let escape := closed line && (unstuff (between line)).isNone
  act s (s.receives n && (escape || silent line idle)) fun s =>
    let s := s.countErr (errField n HL_ERR_ABORT PORCH_ERR_ABORT)
    if escape then s.countErr (errField n HL_ERR_CHAR PORCH_ERR_CHAR) else s

/-- Open bytes after STATUS and reserved bytes in a reply to a firmware command. -/
def firmOpen (type : Nat) : Nat := if type = 11 then 0 else 4

/-- TIMEOUT (R445). -/
def execTimeout (n : Fin 2) (s : State) : Out :=
  match (s.link n).cmd with
  | none => .next s
  | some c =>
    act s (s.clocked && old s.now c.since 10000) fun s =>
      let r := (s.onLink n fun k => { k with cmd := none }).refusal 10 [0, 0, 0] (firmOpen c.type)
      r.2.finish n c.type c.frame r.1

/-- GO (R448, R456): the Hall firmware's write of HL_POST_HDR.GO. -/
def execGo (s : State) : Out := act s s.clocked fun s => s.postGo

/-- The transmitter of a link may start an event (R453): no reply and no resend goes first. -/
def State.mayEvent (s : State) (n : Fin 2) : Bool :=
  s.serving && s.bit (hlField n HL_CTRL_EN) && s.bit (hlField n HL_CTRL_EVT_EN) && !s.blocked n &&
    (s.link n).left = 0 && (s.link n).wait.isNone && (s.link n).resends.isEmpty

/-- EVENT_SEND (R447, R453). -/
def execEventSend (n : Fin 2) (s : State) : Out :=
  act s (s.mayEvent n && (s.link n).unsent.isSome) fun s => s.onLink n (Link.sendEvent (s.fld (hlField n HL_BAUD_DIVF)))

/-- The oldest outstanding event has been sent and not acknowledged for TIMEOUT (R450). -/
def State.resendDue (s : State) (n : Fin 2) : Bool :=
  match (s.link n).out with
  | e :: _ => due s.now e.sentAt (1000 * s.fld (hlField n HL_EVT_CFG_TIMEOUT)) && (s.link n).again.isNone
  | [] => false

/-- EVENT_RESEND (R450): every outstanding event that has been sent, oldest first; the transmitter sends them one after
another. -/
def execEventResend (n : Fin 2) (s : State) : Out :=
  act s (s.serving && s.bit (hlField n HL_CTRL_EN) && s.bit (hlField n HL_CTRL_EVT_EN) && s.resendDue n) fun s =>
    (s.onLink n fun k => { k with again := some ((k.out.filter (·.sentAt.isSome)).map (·.seq)) }).kickLink n

/-- HL_CTS_CHANGE (R433): what waits starts once the ball reads low. -/
def execHlCtsChange (n : Fin 2) (level : Bool) (s : State) : Out :=
  act s true fun s =>
    let s := s.putB (hlField n HL_STAT_CTS) level
    if s.serving then s.kickLink n else s

end Sys2Proof.Machine
end

