-- ==== Sys2Proof/Machine/Porch.lean ====
section
/-! DEFINITION. Machine/Porch.lean: the commands of the Porch, activation, confirmation and return (17_field_update.md). A
frame command carries the frame as received, and what the Cellar answers to its writes. -/

namespace Sys2Proof.Machine

/-- IDENT (R544). -/
def execIdent (line : List Byte) (s : State) : Out :=
  porchAct s 1 line fun f s => s.porchCmd 1 f true true f.payload.isEmpty [] 39 fun s =>
    ([0#8, BitVec.ofNat 8 (s.fld ATTIC_STAT_LIFECYCLE), 0, 0] ++ wordBytes (s.attic.shadow.get 0) ++
      wordBytes (s.attic.shadow.get 1) ++
      [0x4004C, 0x284, 0x288, 0x4001C, 0x40044, 0x72004].flatMap fun a => wordBytes (s.view (.hall a)), s)

/-- A new session (R546, R547): its record is committed first; a replaced session and a STAGED image of the slot cease to
exist. -/
def State.openNew (s : State) (x : Session) (jok : Bool) : List Byte × State :=
  let r := s.commit (s.sessionGroup x) jok
  if !r.1 then r.2.refusal 6 [0, 0, 0] 8
  else
    let s := r.2
    let s := match s.porch.sess with
      | some y => if (y.kind, y.slot) = (x.kind, x.slot) then s else s.endSession
      | none => s
    let s := ((s.unstage x.kind x.slot).setSession (some x)).updateKind 1 x.kind 0 (hdrVersion x.hdr)
    ([0#8, 0, 0, 0] ++ leBytes 4 0 ++ leBytes 4 (chunks x.hdr), s)

/-- A resumed session (R546, R549). -/
def State.openAgain (s : State) (x : Session) : List Byte × State :=
  let s := match s.porch.sess with
    | some y => if (y.kind, y.slot) = (x.kind, x.slot) then s else s.endSession
    | none => s
  let s := s.setSession (some x)
  let s := if x.next < chunks x.hdr then s.eraseFor x x.next else s
  ([0#8, 0, 0, 0] ++ leBytes 4 x.next ++ leBytes 4 (chunks x.hdr), s.updateKind 2 x.kind (x.next % 65536) (hdrVersion x.hdr))

/-- OPEN (R545 to R547) (log 85). -/
def execOpenSession (line : List Byte) (jok : Bool) (s : State) : Out :=
  porchAct s 2 line fun f s =>
    let b := f.payload
    let id := u32 b 0
    let slot := u8 b 4
    let h := bslice b 8 512
    s.porchCmd 2 f false true (b.length = 520 && id != 0 && slot < 2 && u8 b 5 = 0 && u8 b 6 = 0 && u8 b 7 = 0) [0, 0, 0] 8
      fun s =>
    let kind := if hdrType h = 2 then 2 else 1
    let code := s.headerCode kind h
    let rec' := s.clk.phase = .recovery
    let busy := match s.porch.sess with | some y => y.id != id && !old s.now y.lastAt 600000000 | none => false
    if code != 0 then s.refusal 1 [BitVec.ofNat 8 code, 0, 0] 8
    else if !rec' && slot = s.slotInUse kind then s.refusal 2 [0, 0, 0] 8
    else if !rec' && s.scheduled then s.refusal 11 [0, 0, 0] 8
    else if !rec' && s.fld UPD_STAT_TRIAL != 0 then s.refusal 12 [0, 0, 0] 8
    else if busy then s.refusal 3 [0, 0, 0] 8
    else match s.resumes id kind slot h with
      | some n => s.openAgain ⟨id, kind, slot, h, n, s.now⟩
      | none => s.openNew ⟨id, kind, slot, h, 0, s.now⟩ jok

/-- A reply that carries NEXT. -/
def State.nextReply (s : State) (status next : Nat) : List Byte × State :=
  (BitVec.ofNat 8 status :: [0, 0, 0] ++ leBytes 4 next, s)

/-- Steps 2 to 5 of R548: `wr` the write succeeds, `bad` a sector that the Cellar reads back wrong, `jok` the commit
succeeds. -/
def State.writeChunk (s : State) (x : Session) (b : List Byte) (wr : Bool) (bad : Option Nat) (jok : Bool) :
    List Byte × State :=
  let base := slotBase x.kind x.slot
  let s := s.eraseFor x x.next
  if !(wr && s.bit CEL_STAT_READY) then
    ((x.writes x.next b).foldl (fun s w => s.progCut (base + w.1) w.2) s).nextReply 6 x.next
  else
    let s := (x.writes x.next b).foldl (fun s w => { s with cellar := progBytes s.cellar (base + w.1) w.2 }) s
    match s.failingSector x x.next b bad with
    | some k =>
      let c := lowestChunk x.hdr x.next k
      let from' := if c = 0 then 0 else chunkOff x.hdr c / 4096 * 4096
      let s := { s with cellar := eraseRange s.cellar (base + from') (roundUp (chunkEnd x.hdr x.next) - from') }
      let y := { x with next := c, lastAt := s.now }
      let r := s.commit (s.sessionGroup y) jok
      if r.1 then (r.2.setSession (some y)).nextReply 7 c else r.2.nextReply 6 x.next
    | none =>
      let y := { x with next := x.next + 1, lastAt := s.now }
      let r := s.commit (s.sessionGroup y) jok
      if r.1 then (r.2.setSession (some y)).nextReply 0 y.next else r.2.nextReply 6 x.next

/-- CHUNK (R548, R549, R552). -/
def execChunk (line : List Byte) (wr : Bool) (bad : Option Nat) (jok : Bool) (s : State) : Out :=
  porchAct s 3 line fun f s => s.porchCmd 3 f false true (8 ≤ f.payload.length) [0, 0, 0] 4 fun s =>
    let b := f.payload.drop 8
    match s.named f with
    | none => s.refusal 10 [0, 0, 0] 4
    | some x =>
      let s := s.heardSession
      if u32 f.payload 4 != x.next then s.nextReply 4 x.next
      else if chunks x.hdr ≤ x.next || b.length != storedLen x.hdr x.next then s.refusal 13 [0, 0, 0] 4
      else
        let s := s.onPorch fun p => { p with buf := b }
        if hdrEnc x.hdr then
          let s := ((s.off PORCH_VSRC_SRC).put PORCH_VSRC_CHUNK x.next).verifyStart.verifyEnd 0 x.next
          if s.bit ENG_CTRL_TAG_OK then s.writeChunk x b wr bad jok else s.nextReply 5 x.next
        else s.writeChunk x b wr bad jok

/-- The whole stored body passes (R551). -/
def State.bodyPasses (s : State) (x : Session) : Bool :=
  if hdrEnc x.hdr then s.slotTags x.kind x.slot x.hdr
  else Config.sha384 (s.slotBody x.kind x.slot x.hdr) = hdrDigest x.hdr

/-- The image becomes STAGED (R551). -/
def State.stage (s : State) (x : Session) (jok : Bool) : List Byte × State :=
  let d := Config.sha384 x.hdr
  let g := digestGroup 6 (imageKey x.kind x.slot)
    (leBytes 4 (hdrVersion x.hdr) ++ leBytes 2 (hdrCounter x.hdr) ++ leBytes 2 0 ++ leBytes 8 s.tb) d
  let r := s.commit g jok
  if !r.1 then ([6, 0, 0, 0], r.2)
  else
    let s := (r.2.onPorch fun p =>
      { p with staged := setAt p.staged (x.kind - 1) (some ⟨x.slot, d, hdrVersion x.hdr, hdrCounter x.hdr⟩) }).showStaged
    ([0, 0, 0, 0], s.endSession.updateKind 3 x.kind 0 (hdrVersion x.hdr))

/-- FINISH in recovery (R554): the boot record that prefers the written slot, on trial. -/
def State.recordWritten (s : State) (x : Session) (ok : Bool) : State :=
  let r := match brecUsed s.cellar with | some y => y.2 | none => ⟨0, 0, 0, 0, 0⟩
  s.writeBrec (if x.kind = 1 then x.slot else r.fwSlot) (if x.kind = 2 then x.slot else r.planSlot) x.kind 3 ok

/-- FINISH (R551, R554); in recovery the chip reset follows the reply (log 87) (log 88). -/
def execFinish (line : List Byte) (jok recOk : Bool) (s : State) : Out :=
  let rec' (s : State) : Bool := s.clk.phase = .recovery
  porchAct s 4 line fun f s =>
    let t := s.porchCmd 4 f false true (f.payload.length = 4) [0, 0, 0] 0 fun s =>
      match s.named f with
      | none => ([10, 0, 0, 0], s)
      | some x =>
        let s := s.heardSession
        if x.next != chunks x.hdr then ([8, 0, 0, 0], s)
        else if !s.bodyPasses x then ([9, 0, 0, 0], s.endSession)
        else if rec' s then
          if recOk then ([0, 0, 0, 0], (s.recordWritten x true).setSession none) else ([6, 0, 0, 0], s.recordWritten x false)
        else s.stage x jok
    if rec' s && s.porch.sess.isSome && t.porch.sess.isNone && (t.porch.last.all fun x => u8 x.bytes 6 = 0) then
      (t.chipReset RESET_CAUSE_SOFT).onPorch fun p => { p with line := t.porch.line }
    else t

/-- PORCH_ABORT (R553). -/
def execPorchAbort (line : List Byte) (s : State) : Out :=
  porchAct s 5 line fun f s => s.porchCmd 5 f false true (f.payload.length = 4) [0, 0, 0] 0 fun s =>
    match s.named f with
    | none => ([10, 0, 0, 0], s)
    | some x => ([0, 0, 0, 0], s.endSession.unstage x.kind x.slot)

/-- PORCH_STATUS (R544). -/
def execPorchStatus (line : List Byte) (s : State) : Out :=
  porchAct s 6 line fun f s => s.porchCmd 6 f false true f.payload.isEmpty [0, 0, 0] 12 fun s =>
    ([0#8, 0, 0, 0] ++ [0x7200C, 0x72010, 0x7201C].flatMap fun a => wordBytes (s.view (.hall a)), s)

/-- PORCH_ACTIVATE (R555). -/
def execPorchActivate (line : List Byte) (recOk : Bool) (s : State) : Out :=
  porchAct s 7 line fun f s => s.porchCmd 7 f false false (f.payload.length = 8) [0, 0, 0] 4 fun s =>
    let r := s.activate (u32 f.payload 0 + 2 ^ 32 * u32 f.payload 4) recOk
    ([0#8, 0, 0, 0] ++ leBytes 4 r.1, r.2)

/-- The session record of a slot is out of time (R550). -/
def State.sessionOld (s : State) (kind slot : Nat) : Bool :=
  match s.jFind 5 (imageKey kind slot) with
  | some (r :: _) => !s.inTime (u32 r.data 8 + 2 ^ 32 * u32 r.data 12)
  | _ => false

/-- SESSION_LOST (R550): `plan` and `slot` name the record. -/
def execSessionLost (plan slot : Bool) (s : State) : Out :=
  let kind := if plan then 2 else 1
  act s (s.booted && s.sessionOld kind slot.toNat) fun s =>
    let mine := match s.porch.sess with | some x => x.kind = kind && x.slot = slot.toNat | none => false
    let s := if mine then s.endSession else s.jDelete 5 (imageKey kind slot.toNat)
    s.updateKind 11 kind 0 (hdrVersion (s.slotHeader kind slot.toNat))

/-! ### Activation -/

/-- The activating reset (R557): ACTIVATING, a commit in progress completes, RESET_KEY (log 65). -/
def State.activating (s : State) : State :=
  let s := s.updateStaged 8 0
  let s := match s.jnl.cmd with
    | some g => ({ s with jnl := { s.jnl with cmd := none } }).jCommit g
    | none => s
  s.chipReset RESET_CAUSE_SOFT

/-- ACTIVATION_EVALUATION (R557): with the mean |port current| of the last 10 ms by port, in mA. -/
def execActivationEvaluation (means : List Nat) (s : State) : Out :=
  act s (s.booted && s.atPassed && s.hallKeeper && (s.porch.evalAt.isNone || due s.now s.porch.evalAt 10000)) fun s =>
    if s.defers means then
      let s := s.onPorch fun p => { p with evalAt := some s.now }
      if s.bit UPD_STAT_DEFERRING then s
      else ((s.on UPD_STAT_DEFERRING).onPorch fun p => { p with deferAt := some s.now }).updateStaged 6 0
    else s.activating

/-- EXPIRED (R559): DEFER_MAX without a break. Where the boot record cannot be written, the cancellation is tried again
(log 86). -/
def execExpired (recOk : Bool) (s : State) : Out :=
  act s (s.booted && s.scheduled && due s.now s.porch.deferAt (60000000 * s.fld UPD_CFG_DEFER_MAX)) fun s =>
    if recOk then ((s.recordUse true).unschedule).updateStaged 7 0 else s.recordUse false

/-- ACTIVATION_PEER_RESET (R558). -/
def execActivationPeerReset (s : State) : Out := act s s.peerResets fun s => s.chipReset RESET_CAUSE_SOFT

/-! ### Confirmation and return -/

/-- CONF_T has passed since boot complete (R560). -/
def State.confOver (s : State) : Bool := old s.now s.clk.bootAt (1000000 * s.fld UPD_CFG_CONF_T)

/-- The condition of R560 on a pair has held throughout the last 10 s of CONF_T. -/
def State.confMet (s : State) : Bool :=
  !s.pairMode ||
  match s.porch.okAt with
  | some t => t + 10000000 ≤ s.clk.bootAt + 1000000 * s.fld UPD_CFG_CONF_T
  | none => false

/-- Case (c) of R561 has held for 5 s. -/
def State.pairDiffers (s : State) : Bool := s.pairMode && due s.now s.porch.diffAt 5000000

/-- ADVANCE of a kind's counter to the COUNTER of the header in use (R560, step 2); a refusal is reported as COUNTER. -/
def State.advanceKind (s : State) (kind : Nat) (vpp vdd : Bool) : State :=
  let v := hdrCounter (s.headerInUse kind)
  if v ≤ s.attic.ctr (kind - 1) then s
  else
    let c : FuseCmd := { op := 3, word := 0, pdata := 0, ctr := kind - 1, value := v, sel := 0, secret := [] }
    let code := s.fuseRefusal c vpp vdd
    if code = 0 then s.fuseEnd c none []
    else (s.fuseResult code 3 0).updateUse 12 kind code

/-- Steps 2 and 3 of R560 for some kinds. -/
def State.advanceKinds (s : State) (kinds : Nat) (vpp vdd : Bool) : State :=
  let s := if kinds.testBit 0 then s.advanceKind 1 vpp vdd else s
  let s := if kinds.testBit 1 then s.advanceKind 2 vpp vdd else s
  (s.setLocks 0x14).onPorch fun p => { p with settled := true }

/-- The STAGED state of some kinds ends. -/
def State.unstageKinds (s : State) (kinds : Nat) : State :=
  [1, 2].foldl (fun s k => if kinds.testBit (k - 1) then
    match s.stagedOf k with | some x => s.unstage k x.slot | none => s else s) s

/-- Kinds on trial in the boot record in use (R531). -/
def State.recordTrial (s : State) : Nat := match brecUsed s.cellar with | some x => x.2.trial % 4 | none => 0

/-- A kind on trial runs from the slot that its record does not prefer (R561, case (a)). -/
def State.trialFailed (s : State) : Bool :=
  match brecUsed s.cellar with
  | some (_, r) => (r.trial.testBit 0 && s.slotInUse 1 != r.fwSlot % 2) || (r.trial.testBit 1 && s.slotInUse 2 != r.planSlot % 2)
  | none => false

/-- The case of R561 that holds, 0 for none. -/
def State.returnCase (s : State) : Nat :=
  if s.scheduled then 0
  else if s.trialFailed then 1
  else if s.fld UPD_STAT_TRIAL = 0 then 0
  else if s.pairDiffers then 3
  else if s.pairMode && s.confOver && !s.confMet then 2
  else 0

/-- CONFIRMED (R560): at the end of CONF_T; without a trial, the repetition of a refused ADVANCE and the locks of this boot
(log 66). -/
def execConfirmed (recOk vpp vdd : Bool) (s : State) : Out :=
  let kinds := s.fld UPD_STAT_TRIAL
  act s (s.booted && !s.porch.settled && s.porch.reverted.isNone &&
      s.returnCase = 0 && (kinds = 0 || s.confOver)) fun s =>
    if kinds = 0 then s.advanceKinds 3 vpp vdd
    else if !recOk then s.recordUse false
    else
      let s := ((s.recordUse true).advanceKinds kinds vpp vdd).updateUse 9 kinds 0
      (s.unstageKinds kinds).off UPD_STAT_TRIAL

/-- The return (R561): the boot record, the RETURN record, the STAGED state. -/
def State.returnNow (s : State) (case' : Nat) : State :=
  let kinds := s.recordTrial
  let x : BootRec := match brecUsed s.cellar with | some y => y.2 | none => ⟨0, 0, 0, 0, 0⟩
  let other (bit pref : Nat) : Nat := if kinds.testBit bit then 1 - pref % 2 else pref
  let s := s.writeBrec (other 0 x.fwSlot) (other 1 x.planSlot) 0 0 true
  let s := (s.commit [⟨7, 0, 0, leBytes 1 case' ++ leBytes 1 kinds ++ leBytes 6 0 ++ leBytes 8 s.tb⟩] true).2
  (s.unstageKinds kinds).off UPD_STAT_TRIAL

/-- REVERTED (R561): the report of a return after its boot complete; else the return that is due. Case (a) is reported at
once, since the chip already runs the previous images (log 67). -/
def execReverted (recOk : Bool) (s : State) : Out :=
  let c := s.returnCase
  match s.porch.reverted with
  | some x =>
    act s s.booted fun s => (s.onPorch fun p => { p with reverted := none }).updateUse 10 x.2 x.1
  | none =>
    act s (s.booted && c != 0) fun s =>
      if !recOk then s.writeBrec (s.slotInUse 1) (s.slotInUse 2) 0 0 false
      else
        let kinds := s.recordTrial
        let s := s.returnNow c
        if c = 1 then s.updateUse 10 kinds 1
        else (s.onPorch fun p => { p with reverted := some (c, kinds) }).chipReset RESET_CAUSE_SOFT

/-- SETTING_RESET (R563): the next entry whose Journal value was not taken. -/
def execSettingReset (s : State) : Out :=
  act s (s.booted && !s.porch.resets.isEmpty) fun s =>
    match s.porch.resets with
    | [] => s
    | (id, schema) :: rest =>
      let s := s.onPorch fun p => { p with resets := rest }
      let s := match s.pl.settings.find? (·.id = id) with
        | some e => (s.commit [⟨2, 0, id, settingData s.pl.schema (s.settingNow e).toNat s.tb⟩] true).2
        | none => s
      s.fwPost 3 ⟨0x0D, 0, leBytes 2 id ++ leBytes 2 schema, 0⟩

end Sys2Proof.Machine
end

