-- ==== Sys2Proof/Machine/SeqOps.lean ====
section
/-! DEFINITION. Machine/SeqOps.lean: the shared parts of the sequencer cores' instructions (11_sequencer_isa.md): fetch,
traps, events, repetition, loads and stores. -/

namespace Sys2Proof.Machine

/-! ### Registers and fields (R384, R392) -/

/-- A general register; g0 reads 0. -/
def Core.rg (k : Core) (i : Fin 16) : Word := if i = 0 then 0 else k.g.getD i.val 0
/-- Write a general register; a write to g0 has no effect. -/
def Core.setRg (i : Fin 16) (v : Word) (k : Core) : Core := if i = 0 then k else { k with g := setAt k.g i.val v }
def State.rg (s : State) (c : CoreId) (i : Fin 16) : Word := (s.core c).rg i
def State.setRg (s : State) (c : CoreId) (i : Fin 16) (v : Word) : State := s.onCoreOf c (Core.setRg i v)
def State.setPc (s : State) (c : CoreId) (v : Word) : State := s.onCoreOf c fun k => { k with pc := v }

/-- imm18, sign-extended and zero-extended. -/
def sx18 (i : BitVec 18) : Word := i.signExtend 32
def zx18 (i : BitVec 18) : Word := i.zeroExtend 32
/-- A signed word offset of 22 bits, in bytes. -/
def off22 (i : BitVec 22) : Word := i.signExtend 32 <<< 2

/-! ### Traps and events (R397 to R400) -/

abbrev trIllegal : Nat := 1
abbrev trPriv : Nat := 2
abbrev trRepeat : Nat := 3
abbrev trMisalign : Nat := 4
abbrev trUnmapped : Nat := 5
abbrev trWriteProt : Nat := 6
abbrev trBrk : Nat := 7

/-- Vector of a line (R399). -/
def vectorOf (c : CoreId) (k : Core) (n : Nat) : Word :=
  match c with
  | .room _ => BitVec.ofNat 32 (0x20000 + 4 * n)
  | .hall => k.evBase + BitVec.ofNat 32 (4 * n)

/-- Entry to the handler of a line (R399): an interrupted repetition on LC sets RPT (R396). -/
def Core.enter (c : CoreId) (n : Nat) (k : Core) : Core :=
  { k with epc := k.pc, evLine := n, evRpt := k.rep = 1, inEvt := true, rep := 0, state := 1, pc := vectorOf c k n }

/-- A trap (R400): line 0, or the core stops where a handler runs. -/
def State.trap (s : State) (c : CoreId) (code : Nat) : State :=
  s.onCoreOf c fun k =>
    if k.inEvt then { k with state := 4, trap := code, rep := 0 }
    else { k.enter c 0 with trap := code, evTrap := code }

/-- Lines that are pending (R397, R398): their condition holds and they are enabled. -/
def State.pendingLines (s : State) : CoreId → Nat
  | .room p => (s.room p).lines &&& (2 * (s.room p).fld EV_EN_EN)
  | .hall => s.hallLines &&& s.hall.evEn.toNat

/-- The core is started and runs or waits, on a chip after boot complete (R387, R536). -/
def State.coreUp (s : State) (c : CoreId) : Bool :=
  (match c with | .room p => s.whole p | .hall => s.booted) && ((s.core c).state = 1 || (s.core c).state = 2)

/-- The core executes an instruction: it runs, and debug does not halt it or steps it (R616, R618). -/
def State.runs (s : State) (c : CoreId) : Bool :=
  s.coreUp c && (s.core c).state = 1 && (!(s.core c).halted || (s.core c).stepping)

/-- An event may be taken (R399, R396, R617, R618). -/
def State.takesEvents (s : State) (c : CoreId) : Bool :=
  let k := s.core c
  s.coreUp c && !k.inEvt && k.rep != 2 && (!k.halted || (k.stepping && s.bit DBG_CTRL_STEP_EV)) && s.pendingLines c != 0

/-- The lowest set bit. -/
def lowBit (n : Nat) : Nat := ((List.range 32).find? n.testBit).getD 0

/-- A step of debug ends once no repetition runs (R618). -/
def State.stepEnd (s : State) (c : CoreId) : State :=
  if (s.core c).stepping && (s.core c).rep = 0 then s.haltCore c 4 0 else s

/-! ### One instruction (R388, R389, R392, R395, R396, R616) -/

/-- What a repetition may hold (R395): a one-cycle and another arithmetic or compare instruction, LWP or SWP with its
address, other loads and stores. -/
inductive RepClass where
  | one | arith | step (addr : Word) | mem | none
deriving DecidableEq, Repr

/-- An address in the data RAM of a core. -/
def inData : CoreId → Nat → Bool
  | .room _, a => 0x10000 ≤ a && a < 0x11000
  | .hall, a => 0x21000000 ≤ a && a < 0x21020000

/-- The running repetition admits the instruction (R395). -/
def repOk (c : CoreId) (k : Core) : RepClass → Bool
  | .one => true
  | .arith => k.rep != 2
  | .step a => k.rep != 2 || inData c a.toNat
  | .mem => k.rep != 2
  | .none => k.rep = 0

/-- A fetch address (R388, R389). -/
def fetchOk : CoreId → Nat → Bool
  | .room _, a => 0x20000 ≤ a && a < 0x22000
  | .hall, a => (0x1FFF0000 ≤ a && a < 0x20000000) || (0x20000000 ≤ a && a < 0x20040000)

/-- The enabled breakpoint at the PC (R616; BKPT0 to BKPT3, DBG_HBKPT0 to DBG_HBKPT7), but for an instruction that a resume,
a step or a repetition passes (log 40). -/
def State.bkptAt (s : State) (c : CoreId) : Option Nat :=
  let k := s.core c
  if !s.debugOn || k.pass || k.stepping || k.rep = 2 then none
  else match c with
  | .room p => (List.range 4).find? fun n =>
      (s.room p).bit (BKPT_EN.shift (4 * n)) && 0x20000 + 4 * (s.room p).fld (BKPT_ADDR.shift (4 * n)) = k.pc.toNat
  | .hall => (List.range 8).find? fun n =>
      s.bit (DBG_HBKPT_EN.shift (4 * n)) && 4 * s.fld (DBG_HBKPT_ADDR.shift (4 * n)) = k.pc.toNat

/-- The PC and the repetition after an instruction that does not jump (R396). -/
def Core.advance (k : Core) : Core :=
  if k.rep = 1 then
    (if k.lc ≤ 1 then { k with lc := 0, rep := 0, pc := k.pc + 4, pass := false } else { k with lc := k.lc - 1, pass := true })
  else if k.rep = 2 then
    (if k.rptU ≤ 1 then { k with rptU := 0, rep := 0, pc := k.pc + 4, pass := false }
     else { k with rptU := k.rptU - 1, pass := true })
  else { k with pc := k.pc + 4, pass := false }

/-- What an instruction does: a trap code with the state that the attempt left, or the state after it. -/
abbrev SeqOut := Except (Nat × State) State

/-- One instruction of a core: `ill` an unused field is not 0; `f` its effect, from its address and the state in which the PC
has moved on. A trap leaves the core's registers as they were (R400). -/
def State.instr (s : State) (c : CoreId) (ill : Bool) (cls : RepClass) (f : Word → State → SeqOut) : State :=
  let k := s.core c
  let r : SeqOut :=
    if !fetchOk c k.pc.toNat then .error (trUnmapped, s)
    else if ill then .error (trIllegal, s)
    else if !repOk c k cls then .error (trRepeat, s)
    else match f k.pc (s.onCoreOf c Core.advance) with
      | .ok t => .ok t
      | .error (code, t) => .error (code, t.onCoreOf c fun _ => k)
  match s.bkptAt c, r with
  | some n, .ok _ => s.haltCore c 2 n
  | some n, .error (code, t) => (t.trap c code).haltCore c 2 n
  | none, .ok t => t.stepEnd c
  | none, .error (code, t) => (t.trap c code).stepEnd c

/-- An instruction command: nothing on a core that executes none (log 76). -/
def seqAct (s : State) (c : CoreId) (ill : Bool) (cls : RepClass) (f : Word → State → SeqOut) : Out :=
  act s (s.runs c) fun s => s.instr c ill cls f

/-! ### Loads and stores (R386, R388 to R390, R20) -/

/-- A load of `size` bytes, zero-extended, with the state it leaves. -/
def State.coreLoad (s : State) (c : CoreId) (a size : Nat) : Except (Nat × State) (Word × State) :=
  if a % size != 0 then .error (trMisalign, s)
  else match c with
  | .room p =>
    if a < 0x400 then .ok (subword a size (s.coreView p (a / 4 * 4)), s)
    else if 0x10000 ≤ a && a < 0x11000 then .ok (memWord (s.room p).data (a - 0x10000) size, s)
    else if 0x20000 ≤ a && a < 0x22000 then .ok (memWord (s.room p).code (a - 0x20000) size, s)
    else .error (trUnmapped, s)
  | .hall =>
    let t := s.busLoad .hall a size
    if t.rerr then .error (trUnmapped, t) else .ok (t.rdata, t)

/-- A store of the low `size` bytes of a word. -/
def State.coreSave (s : State) (c : CoreId) (a size : Nat) (v : Word) : SeqOut :=
  let window := match c with | .room _ => a < 0x400 && size != 4 | .hall => false
  if a % size != 0 && !window then .error (trMisalign, s)
  else match c with
  | .room p =>
    if a < 0x400 then .ok (s.coreWrite p a size v)
    else if 0x10000 ≤ a && a < 0x11000 then
      .ok (s.onRoom p fun r => { r with data := putBytes r.data (a - 0x10000) (lowBytes size v) })
    else if 0x20000 ≤ a && a < 0x22000 then .error (trWriteProt, s)
    else .error (trUnmapped, s)
  | .hall =>
    match locate a with
    | some (.hallCode _) => .error (trWriteProt, s)
    | some (.bootRom _) => .error (trWriteProt, s)
    | _ =>
      let t := s.busStore .hall a size v
      if t.rerr then .error (trUnmapped, t) else .ok t

/-- The sign-extended low `size` bytes. -/
def sxBytes (size : Nat) (v : Word) : Word := if size = 1 then (v.setWidth 8).signExtend 32 else (v.setWidth 16).signExtend 32

end Sys2Proof.Machine
end

