-- ==== Sys2Proof/Machine/Seq.lean ====
section
/-! DEFINITION. Machine/Seq.lean: arithmetic, compare and control-flow instructions of the sequencer cores
(11_sequencer_isa.md, R393). A command carries the executing core and every field of its instruction's format. -/

namespace Sys2Proof.Machine

/-- An arithmetic or compare instruction: rd takes a value of the registers. -/
def aluAct (s : State) (c : CoreId) (cls : RepClass) (ill : Bool) (rd : Fin 16) (v : Core → Word) : Out :=
  seqAct s c ill cls fun _ s => .ok (s.setRg c rd (v (s.core c)))

/-- Format R: bits 13 to 0 are 0. -/
def rAct (s : State) (c : CoreId) (cls : RepClass) (rd ra rb : Fin 16) (z : BitVec 14) (f : Word → Word → Word) : Out :=
  aluAct s c cls (z != 0) rd fun k => f (k.rg ra) (k.rg rb)

/-- Format I with an immediate as the second operand. -/
def iAct (s : State) (c : CoreId) (rd ra : Fin 16) (imm : Word) (f : Word → Word → Word) : Out :=
  aluAct s c .one false rd fun k => f (k.rg ra) imm

/-- A shift by an immediate: bits 17 to 5 are 0. -/
def shiftAct (s : State) (c : CoreId) (rd ra : Fin 16) (imm : BitVec 18) (f : Word → Nat → Word) : Out :=
  aluAct s c .one (decide (32 ≤ imm.toNat)) rd fun k => f (k.rg ra) imm.toNat

/-- The result of a compare. -/
def flag (b : Bool) : Word := if b then 1 else 0

/-- ADD (R393). -/
def execAdd (c : CoreId) (rd ra rb : Fin 16) (z : BitVec 14) (s : State) : Out :=
  rAct s c .one rd ra rb z fun a b => a + b
/-- SUB (R393). -/
def execSub (c : CoreId) (rd ra rb : Fin 16) (z : BitVec 14) (s : State) : Out :=
  rAct s c .one rd ra rb z fun a b => a - b
/-- AND (R393). -/
def execAnd (c : CoreId) (rd ra rb : Fin 16) (z : BitVec 14) (s : State) : Out :=
  rAct s c .one rd ra rb z fun a b => a &&& b
/-- OR (R393). -/
def execOr (c : CoreId) (rd ra rb : Fin 16) (z : BitVec 14) (s : State) : Out :=
  rAct s c .one rd ra rb z fun a b => a ||| b
/-- XOR (R393). -/
def execXor (c : CoreId) (rd ra rb : Fin 16) (z : BitVec 14) (s : State) : Out :=
  rAct s c .one rd ra rb z fun a b => a ^^^ b
/-- SLL (R393). -/
def execSll (c : CoreId) (rd ra rb : Fin 16) (z : BitVec 14) (s : State) : Out :=
  rAct s c .one rd ra rb z fun a b => a <<< (b.toNat % 32)
/-- SRL, zero fill (R393). -/
def execSrl (c : CoreId) (rd ra rb : Fin 16) (z : BitVec 14) (s : State) : Out :=
  rAct s c .one rd ra rb z fun a b => a >>> (b.toNat % 32)
/-- SRA, sign fill (R393). -/
def execSra (c : CoreId) (rd ra rb : Fin 16) (z : BitVec 14) (s : State) : Out :=
  rAct s c .one rd ra rb z fun a b => a.sshiftRight (b.toNat % 32)
/-- MUL: the low word of the product (R393). -/
def execMul (c : CoreId) (rd ra rb : Fin 16) (z : BitVec 14) (s : State) : Out :=
  rAct s c .arith rd ra rb z fun a b => a * b
/-- MULH: the high word of the signed product (R393). -/
def execMulh (c : CoreId) (rd ra rb : Fin 16) (z : BitVec 14) (s : State) : Out :=
  rAct s c .arith rd ra rb z fun a b => ((a.signExtend 64 * b.signExtend 64).extractLsb' 32 32)
/-- MULHU: the high word of the unsigned product (R393). -/
def execMulhu (c : CoreId) (rd ra rb : Fin 16) (z : BitVec 14) (s : State) : Out :=
  rAct s c .arith rd ra rb z fun a b => ((a.zeroExtend 64 * b.zeroExtend 64).extractLsb' 32 32)
/-- DIVU (R393). -/
def execDivu (c : CoreId) (rd ra rb : Fin 16) (z : BitVec 14) (s : State) : Out :=
  rAct s c .arith rd ra rb z fun a b => if b = 0 then 0xFFFFFFFF#32 else a / b
/-- REMU (R393). -/
def execRemu (c : CoreId) (rd ra rb : Fin 16) (z : BitVec 14) (s : State) : Out :=
  rAct s c .arith rd ra rb z fun a b => if b = 0 then a else a % b
/-- MINU (R393). -/
def execMinu (c : CoreId) (rd ra rb : Fin 16) (z : BitVec 14) (s : State) : Out :=
  rAct s c .one rd ra rb z fun a b => if a.ult b then a else b
/-- MAXU (R393). -/
def execMaxu (c : CoreId) (rd ra rb : Fin 16) (z : BitVec 14) (s : State) : Out :=
  rAct s c .one rd ra rb z fun a b => if a.ult b then b else a

/-- ADDI (R393). -/
def execAddi (c : CoreId) (rd ra : Fin 16) (imm : BitVec 18) (s : State) : Out :=
  iAct s c rd ra (sx18 imm) fun a b => a + b
/-- ANDI (R393). -/
def execAndi (c : CoreId) (rd ra : Fin 16) (imm : BitVec 18) (s : State) : Out :=
  iAct s c rd ra (zx18 imm) fun a b => a &&& b
/-- ORI (R393). -/
def execOri (c : CoreId) (rd ra : Fin 16) (imm : BitVec 18) (s : State) : Out :=
  iAct s c rd ra (zx18 imm) fun a b => a ||| b
/-- XORI (R393). -/
def execXori (c : CoreId) (rd ra : Fin 16) (imm : BitVec 18) (s : State) : Out :=
  iAct s c rd ra (zx18 imm) fun a b => a ^^^ b
/-- SLLI (R393). -/
def execSlli (c : CoreId) (rd ra : Fin 16) (imm : BitVec 18) (s : State) : Out :=
  shiftAct s c rd ra imm fun a n => a <<< n
/-- SRLI (R393). -/
def execSrli (c : CoreId) (rd ra : Fin 16) (imm : BitVec 18) (s : State) : Out :=
  shiftAct s c rd ra imm fun a n => a >>> n
/-- SRAI (R393). -/
def execSrai (c : CoreId) (rd ra : Fin 16) (imm : BitVec 18) (s : State) : Out :=
  shiftAct s c rd ra imm fun a n => a.sshiftRight n
/-- LUI (R393). -/
def execLui (c : CoreId) (rd : Fin 16) (imm : BitVec 22) (s : State) : Out :=
  aluAct s c .one false rd fun _ => imm.zeroExtend 32 <<< 10

/-- CEQ: equal (R393). -/
def execCeq (c : CoreId) (rd ra rb : Fin 16) (z : BitVec 14) (s : State) : Out :=
  rAct s c .one rd ra rb z fun a b => flag (a == b)
/-- CNE: not equal (R393). -/
def execCne (c : CoreId) (rd ra rb : Fin 16) (z : BitVec 14) (s : State) : Out :=
  rAct s c .one rd ra rb z fun a b => flag (a != b)
/-- CLT: less, signed (R393). -/
def execClt (c : CoreId) (rd ra rb : Fin 16) (z : BitVec 14) (s : State) : Out :=
  rAct s c .one rd ra rb z fun a b => flag (a.slt b)
/-- CLTU: less, unsigned (R393). -/
def execCltu (c : CoreId) (rd ra rb : Fin 16) (z : BitVec 14) (s : State) : Out :=
  rAct s c .one rd ra rb z fun a b => flag (a.ult b)
/-- CGE: at least, signed (R393). -/
def execCge (c : CoreId) (rd ra rb : Fin 16) (z : BitVec 14) (s : State) : Out :=
  rAct s c .one rd ra rb z fun a b => flag (!a.slt b)
/-- CGEU: at least, unsigned (R393). -/
def execCgeu (c : CoreId) (rd ra rb : Fin 16) (z : BitVec 14) (s : State) : Out :=
  rAct s c .one rd ra rb z fun a b => flag (!a.ult b)
/-- CEQI: equal (R393). -/
def execCeqi (c : CoreId) (rd ra : Fin 16) (imm : BitVec 18) (s : State) : Out :=
  iAct s c rd ra (sx18 imm) fun a b => flag (a == b)
/-- CNEI: not equal (R393). -/
def execCnei (c : CoreId) (rd ra : Fin 16) (imm : BitVec 18) (s : State) : Out :=
  iAct s c rd ra (sx18 imm) fun a b => flag (a != b)
/-- CLTI: less, signed (R393). -/
def execClti (c : CoreId) (rd ra : Fin 16) (imm : BitVec 18) (s : State) : Out :=
  iAct s c rd ra (sx18 imm) fun a b => flag (a.slt b)
/-- CLTUI: less, unsigned (R393). -/
def execCltui (c : CoreId) (rd ra : Fin 16) (imm : BitVec 18) (s : State) : Out :=
  iAct s c rd ra (sx18 imm) fun a b => flag (a.ult b)
/-- CGEI: at least, signed (R393). -/
def execCgei (c : CoreId) (rd ra : Fin 16) (imm : BitVec 18) (s : State) : Out :=
  iAct s c rd ra (sx18 imm) fun a b => flag (!a.slt b)
/-- CGEUI: at least, unsigned (R393). -/
def execCgeui (c : CoreId) (rd ra : Fin 16) (imm : BitVec 18) (s : State) : Out :=
  iAct s c rd ra (sx18 imm) fun a b => flag (!a.ult b)

/-- A conditional branch (R393). -/
def branchAct (s : State) (c : CoreId) (ra : Fin 16) (off : BitVec 22) (taken : Word → Bool) : Out :=
  seqAct s c false .none fun pc s => .ok (if taken (s.rg c ra) then s.setPc c (pc + off22 off) else s)

/-- BZ (R393). -/
def execBz (c : CoreId) (ra : Fin 16) (off : BitVec 22) (s : State) : Out := branchAct s c ra off (· == 0)
/-- BNZ (R393). -/
def execBnz (c : CoreId) (ra : Fin 16) (off : BitVec 22) (s : State) : Out := branchAct s c ra off (· != 0)

/-- JAL (R393). -/
def execJal (c : CoreId) (rd : Fin 16) (imm : BitVec 22) (s : State) : Out :=
  seqAct s c false .none fun pc s => .ok ((s.setRg c rd (pc + 4)).setPc c (pc + off22 imm))

/-- JALR (R393): the target from ra as it stands; MISALIGN for a target that is not word-aligned. -/
def execJalr (c : CoreId) (rd ra : Fin 16) (imm : BitVec 18) (s : State) : Out :=
  seqAct s c false .none fun pc s =>
    let t := s.rg c ra + sx18 imm
    if t.toNat % 4 != 0 then .error (trMisalign, s) else .ok ((s.setRg c rd (pc + 4)).setPc c t)

end Sys2Proof.Machine
end

