-- ==== Sys2Proof/Machine/SeqMem.lean ====
section
/-! DEFINITION. Machine/SeqMem.lean: load and store instructions of the sequencer cores (11_sequencer_isa.md, R386 to R391,
R393). -/

namespace Sys2Proof.Machine

/-- A load (format I): rd takes the loaded bytes, extended by `x`. -/
def loadAct (s : State) (c : CoreId) (rd ra : Fin 16) (imm : BitVec 18) (size : Nat) (x : Word → Word) : Out :=
  seqAct s c false .mem fun _ s =>
    match s.coreLoad c (s.rg c ra + sx18 imm).toNat size with
    | .error e => .error e
    | .ok (w, t) => .ok (t.setRg c rd (x w))

/-- A store (format S): the low bytes of rs (log 114). -/
def storeAct (s : State) (c : CoreId) (rs ra : Fin 16) (imm : BitVec 18) (size : Nat) : Out :=
  seqAct s c false .mem fun _ s => s.coreSave c (s.rg c ra + sx18 imm).toNat size (s.rg c rs)

/-- LB (R393). -/
def execLb (c : CoreId) (rd ra : Fin 16) (imm : BitVec 18) (s : State) : Out := loadAct s c rd ra imm 1 (sxBytes 1)
/-- LBU (R393). -/
def execLbu (c : CoreId) (rd ra : Fin 16) (imm : BitVec 18) (s : State) : Out := loadAct s c rd ra imm 1 id
/-- LH (R393). -/
def execLh (c : CoreId) (rd ra : Fin 16) (imm : BitVec 18) (s : State) : Out := loadAct s c rd ra imm 2 (sxBytes 2)
/-- LHU (R393). -/
def execLhu (c : CoreId) (rd ra : Fin 16) (imm : BitVec 18) (s : State) : Out := loadAct s c rd ra imm 2 id
/-- LW (R393). -/
def execLw (c : CoreId) (rd ra : Fin 16) (imm : BitVec 18) (s : State) : Out := loadAct s c rd ra imm 4 id
/-- SB (R393). -/
def execSb (c : CoreId) (rs ra : Fin 16) (imm : BitVec 18) (s : State) : Out := storeAct s c rs ra imm 1
/-- SH (R393). -/
def execSh (c : CoreId) (rs ra : Fin 16) (imm : BitVec 18) (s : State) : Out := storeAct s c rs ra imm 2
/-- SW (R393). -/
def execSw (c : CoreId) (rs ra : Fin 16) (imm : BitVec 18) (s : State) : Out := storeAct s c rs ra imm 4

/-- LWP (R393): rd takes the loaded word where rd is ra. -/
def execLwp (c : CoreId) (rd ra : Fin 16) (imm : BitVec 18) (s : State) : Out :=
  seqAct s c (imm != 0) (.step (s.rg c ra)) fun _ s =>
    let a := s.rg c ra
    match s.coreLoad c a.toNat 4 with
    | .error e => .error e
    | .ok (w, t) => .ok ((t.setRg c ra (a + 4)).setRg c rd w)

/-- SWP (R393). -/
def execSwp (c : CoreId) (rs ra : Fin 16) (imm : BitVec 18) (s : State) : Out :=
  seqAct s c (imm != 0) (.step (s.rg c ra)) fun _ s =>
    let a := s.rg c ra
    match s.coreSave c a.toNat 4 (s.rg c rs) with
    | .error e => .error e
    | .ok t => .ok (t.setRg c ra (a + 4))

/-- CPW (R393): the steps of its row in their order (log 72). A store that traps leaves the load undone (R400). -/
def execCpw (c : CoreId) (rd ra rb : Fin 16) (z : BitVec 14) (s : State) : Out :=
  seqAct s c (z != 0 || rd != 0) .mem fun _ s =>
    match s.coreLoad c (s.rg c ra).toNat 4 with
    | .error e => .error e
    | .ok (w, t) =>
      match t.coreSave c (s.rg c rb).toNat 4 w with
      | .error (code, t) =>
        (match s.coreSave c (s.rg c rb).toNat 4 w with
        | .error e => .error e
        | .ok _ => .error (code, t))
      | .ok t =>
        let t := t.setRg c ra (t.rg c ra + 4)
        .ok (t.setRg c rb (t.rg c rb + 4))

end Sys2Proof.Machine
end

