-- ==== Sys2Proof/Machine/SeqSys.lean ====
section
/-! DEFINITION. Machine/SeqSys.lean: system instructions of the sequencer cores, staging, and the entry to an event
(11_sequencer_isa.md, R385, R395 to R409). -/

namespace Sys2Proof.Machine

/-- Fields of format P that an instruction does not use. -/
def unused (rd ra : Fin 16) (imm : BitVec 18) : Bool := rd != 0 || ra != 0 || imm != 0

/-! ### Repeat prefixes (R395, R396) -/

/-- A prefix with a count on LC; a count of 0 skips the next instruction. -/
def Core.repeat' (n : Nat) (k : Core) : Core :=
  if n = 0 then { k with lc := 0, pc := k.pc + 4 } else { k with lc := n, rep := 1 }

/-- RPT (R396). -/
def execRpt (c : CoreId) (rd ra : Fin 16) (imm : BitVec 18) (s : State) : Out :=
  seqAct s c (rd != 0 || ra != 0 || decide (65536 ≤ imm.toNat)) .none fun _ s =>
    .ok (s.onCoreOf c (Core.repeat' imm.toNat))

/-- RPTR (R396). -/
def execRptr (c : CoreId) (rd ra : Fin 16) (imm : BitVec 18) (s : State) : Out :=
  seqAct s c (rd != 0 || imm != 0) .none fun _ s => .ok (s.onCoreOf c (Core.repeat' (min (s.rg c ra).toNat 65535)))

/-- RPTU (R395, R396): a count of 17 to 31 traps. -/
def execRptu (c : CoreId) (rd ra : Fin 16) (imm : BitVec 18) (s : State) : Out :=
  seqAct s c (rd != 0 || ra != 0 || decide (32 ≤ imm.toNat)) .none fun _ s =>
    if 17 ≤ imm.toNat then .error (trRepeat, s)
    else .ok (s.onCoreOf c fun k =>
      if imm.toNat = 0 then { k with pc := k.pc + 4 } else { k with rptU := imm.toNat, rep := 2 })

/-! ### Events (R393, R396, R399) -/

/-- WAIT (R393, R399): a no-operation in a handler. -/
def execWait (c : CoreId) (rd ra : Fin 16) (imm : BitVec 18) (s : State) : Out :=
  seqAct s c (unused rd ra imm) .none fun _ s =>
    .ok (s.onCoreOf c fun k => if k.inEvt then k else { k with state := 2 })

/-- EVRET (R399). -/
def execEvret (c : CoreId) (rd ra : Fin 16) (imm : BitVec 18) (s : State) : Out :=
  seqAct s c (unused rd ra imm) .none fun _ s =>
    if !(s.core c).inEvt then .error (trIllegal, s)
    else .ok (s.onCoreOf c fun k =>
      { k with pc := k.epc, inEvt := false, rep := if k.evRpt && k.lc != 0 then 1 else 0 })

/-- SYNC (R394): stores complete in order, so nothing is left to wait for. -/
def execSync (c : CoreId) (rd ra : Fin 16) (imm : BitVec 18) (s : State) : Out :=
  seqAct s c (unused rd ra imm) .none fun _ s => .ok s

/-- The word at a fetch address. -/
def State.fetchWord (s : State) (c : CoreId) (a : Nat) : Word :=
  match c with
  | .room p => memWord (s.room p).code (a - 0x20000) 4
  | .hall => if a < 0x20000000 then Config.bootRom ((a - 0x1FFF0000) / 4) else memWord s.hallCode (a - 0x20000000) 4

/-- The trap that the word at the PC causes, whatever instruction command could name it (R388, R389, R392): 0 for none. -/
def State.fetchTrap (s : State) (c : CoreId) : Nat :=
  let a := (s.core c).pc.toNat
  let w := s.fetchWord c a
  let op := w.toNat / 2 ^ 26
  if !fetchOk c a then trUnmapped
  else if op = 0 || op = 0x33 || op = 0x37 || (op = 0x3B && 2 ≤ w.toNat % 2 ^ 18) then trIllegal
  else 0

/-- EVENT_ENTRY (R399, R408, R618): the lowest pending enabled line; where none is, the trap of a word that no instruction
command names (log 39) (log 77). -/
def execEventEntry (c : CoreId) (s : State) : Out :=
  let go := s.takesEvents c
  act s (go || (s.runs c && s.fetchTrap c != 0)) fun s =>
    if go then (s.onCoreOf c (Core.enter c (lowBit (s.pendingLines c)))).stepEnd c
    else (s.trap c (s.fetchTrap c)).stepEnd c

/-! ### Staging (R402 to R404) -/

/-- COMMIT (R403, R188, R190): STAGE with imm18 = 0 (log 78). -/
def execCommit (p : Fin 48) (rd ra : Fin 16) (s : State) : Out :=
  seqAct s (.room p) (ra != 0) .none fun _ s =>
    let r := (s.room p).commit (s.env p) (s.availFor p) (!s.keeps (wingOf p))
    .ok ((s.setRoom p r.2).setRg (.room p) rd (BitVec.ofNat 32 r.1))

/-- Published values as stage copies, with SEND and VALID taken as 0 (R387, R404). -/
def Room.published (r : Room) : List Word :=
  let st := (List.range 8).map (fun i => r.regs.get (0x100 + 4 * i)) ++ [r.regs.get 0x140, r.regs.get 0x144]
  setAt (setAt st 0 (st.getD 0 0 &&& ~~~TXW0_SEND.mask)) 8 (st.getD 8 0 &&& ~~~NEG_CTRL_VALID.mask)

/-- DISCARD (R404): STAGE with imm18 = 1. -/
def execDiscard (p : Fin 48) (rd ra : Fin 16) (s : State) : Out :=
  seqAct s (.room p) (rd != 0 || ra != 0) .none fun _ s =>
    .ok (s.onRoom p fun r => r.onCore fun k => { k with stage := r.published, dirty := false })

/-! ### Special registers (R385) -/

/-- CYCLE (R385): 240 clk_core cycles in a µs; the cycles of the present µs are free (log 73). -/
def State.cycle (s : State) : Word × State :=
  let f := s.free?
  (BitVec.ofNat 32 (240 * (s.now - s.clk.endAt) + f.1.toNat % 240), f.2)

/-- What MFS reads from a listed code. -/
def State.special (s : State) (c : CoreId) (pc : Word) (code : Nat) : Word × State :=
  let k := s.core c
  match code with
  | 0 => (pc + 4, s)
  | 1 => (BitVec.ofNat 32 k.lc, s)
  | 2 => (k.epc, s)
  | 3 => (k.evcWord, s)
  | 8 => (k.evBase, s)
  | 9 => (k.evEn ||| 1, s)
  | 10 => (BitVec.ofNat 32 s.hallLines, s)
  | _ => s.cycle

/-- The trap of MFS or MTS for a code: 0 for none. -/
def specialTrap (c : CoreId) (code : Nat) : Nat :=
  if within 4 code 7 || 12 ≤ code then trIllegal
  else match c with
  | .room _ => if 8 ≤ code then trPriv else 0
  | .hall => 0

/-- MFS (R385). -/
def execMfs (c : CoreId) (rd ra : Fin 16) (imm : BitVec 18) (s : State) : Out :=
  seqAct s c (ra != 0 || decide (16 ≤ imm.toNat)) .none fun pc s =>
    let t := specialTrap c imm.toNat
    if t != 0 then .error (t, s)
    else
      let r := s.special c pc imm.toNat
      .ok (r.2.setRg c rd r.1)

/-- A write of a special register. -/
def Core.setSpecial (code : Nat) (v : Word) (k : Core) : Core :=
  match code with
  | 1 => { k with lc := v.toNat % 65536 }
  | 2 => { k with epc := v &&& ~~~3#32 }
  | 3 => k.writeEvc v
  | 8 => { k with evBase := v &&& ~~~0xFF#32 }
  | 9 => { k with evEn := v ||| 1 }
  | _ => k

/-- MTS (R385): PC, EVPEND and CYCLE are read-only. -/
def execMts (c : CoreId) (rd ra : Fin 16) (imm : BitVec 18) (s : State) : Out :=
  seqAct s c (rd != 0 || decide (16 ≤ imm.toNat)) .none fun _ s =>
    let t := specialTrap c imm.toNat
    if t != 0 then .error (t, s)
    else if imm.toNat = 0 || imm.toNat = 10 || imm.toNat = 11 then .error (trIllegal, s)
    else .ok (s.onCoreOf c fun k => k.setSpecial imm.toNat (k.rg ra))

/-- HBEAT (R406): the Hall core alone. -/
def execHbeat (c : CoreId) (rd ra : Fin 16) (imm : BitVec 18) (s : State) : Out :=
  seqAct s c (unused rd ra imm) .none fun _ s =>
    match c with
    | .room _ => .error (trPriv, s)
    | .hall => .ok { s with hbeatAt := s.now, hbMissed := false }

/-- BRK (R393, R616): a halt while debug access is enabled, with the PC after it (log 74). -/
def execBrk (c : CoreId) (rd ra : Fin 16) (imm : BitVec 18) (s : State) : Out :=
  seqAct s c (unused rd ra imm) .none fun _ s => if s.debugOn then .ok (s.haltCore c 3 0) else .error (trBrk, s)

end Sys2Proof.Machine
end

