-- ==== Sys2Proof/Machine/Tick.lean ====
section
/-! DEFINITION. Machine/Tick.lean: the 1 µs tick (R410): time base and timers, and what the rules of the spec count or
ramp in each µs on its own: the reference, the persistence counters, the fault timers (log 1). -/

namespace Sys2Proof.Machine

/-- The stamp of a condition: kept while it holds, taken where it begins, gone where it ends. -/
def keepStamp (now : Nat) (t : Option Nat) (c : Bool) : Option Nat :=
  if c then (match t with | some x => some x | none => some now) else none

/-- `v` moved towards `target` by at most `d`. -/
def towards (v target d : Nat) : Nat := if v < target then min target (v + d) else max target (v - d)

/-- Where the reference of a loop state ramps to, in mV (R240, R281, R282). -/
def Room.refTarget (r : Room) : Option Nat :=
  if r.loop = lSoftStop then some 0
  else if r.loop = lSoftStart then some 5000
  else if r.loop = lRegulate then some (r.fld VSET_MV)
  else none

/-- One µs of the reference ramp (R240, R277), with RAMPING while it differs from VSET; SOFT_START_DONE, REFERENCE_REACHED and SOFT_STOP_DONE act on its end. -/
def Room.rampTick (r : Room) : Room :=
  match r.refTarget with
  | none => r
  | some mv =>
    if r.conv.refUv = 1000 * mv then r
    else
      let acc := r.conv.rateRem + r.conv.rate
      let r := (r.setRef (towards r.conv.refUv (1000 * mv) (acc / r.conv.rateDen))).onConv fun c =>
        { c with rateRem := acc % c.rateDen }
      if r.fld VSET_REF = r.fld VSET_MV then r
      else (r.on CON_STAT_RAMPING).onConv fun c => { c with flat := none }

/-- One µs of a persistence counter of R295, in the 48 clk_adc cycles of a µs. -/
def persist (armed out : Bool) (n : Nat) : Nat :=
  if !armed then 0 else if out then n + 48 else n - 48

/-- One µs of a fault timer in quarters of a µs (R301, R314). -/
def faultQ (up : Bool) (q : Nat) : Nat := if up then q + 4 else q - 1

/-- The eFuse fault timer rises (R301). -/
def Room.efRises (e : Env) (r : Room) : Bool :=
  r.bit LOOP_STAT_ILIMITING || (r.loop = lReverse && r.fld EF_STAT_IEF < r.curMa e)

/-- One µs of a Room: reference, persistence counters, eFuse fault timer, conditions of the FET check (R305). -/
def Room.tick (e : Env) (r : Room) : Room :=
  let r := r.rampTick
  let q := faultQ (r.efRises e) r.conv.efQ
  (r.put EF_STAT_TIMER (min (q / 4) 65535)).onConv fun c =>
    { c with efQ := q
             ovCnt := persist (r.armed e 0) (c.filt.getD 0 false) c.ovCnt
             uvCnt := persist (r.armed e 1) (c.filt.getD 1 false) c.uvCnt
             fetAt := keepStamp e.now c.fetAt r.fetWatch
             fetHi := keepStamp e.now c.fetHi (2000 < r.cc.vbus) }

/-- One µs of a Landing: the slot fault timer (R314). -/
def Landing.tick (l : Landing) : Landing :=
  let up := l.scl || (l.fld HS_STAT_LIMIT = 1 && (l.st = hGateUp || l.st = hOn))
  let q := faultQ up l.fltQ
  { (l.put HS_IMEAS_TIMER (min (q / 40) 16383)) with fltQ := q }

/-- One µs of the charger's counts of time in PRECHARGE and FAST (R371, R374). -/
def State.panTick (s : State) : State :=
  if s.panLive && s.pst = pPrecharge then s.onPan fun p => { p with preUs := p.preUs + 1 }
  else if s.panLive && s.pst = pFast then s.onPan fun p => { p with fastUs := p.fastUs + 1 }
  else s

/-- The conditions of R560 and of case (c) of R561 on a pair. -/
def State.confTick (s : State) : State :=
  let up := s.bit PAIR_STAT_PEER_ALIVE && s.bit PAIR_STAT_LINK_UP
  let same := s.fld PEER_FW_VERSION = s.fld FW_VERSION_VERSION
  s.onPorch fun p =>
    { p with okAt := keepStamp s.now p.okAt (up && s.bit PAIR_STAT_DIGEST_MATCH && same)
             diffAt := keepStamp s.now p.diffAt (up && (s.bit PAIR_STAT_DIGEST_MISMATCH || !same)) }

/-- The time base at a tick: a due load, else one more (R410, R412). -/
def State.tbTick (s : State) : State :=
  if s.clk.loadDue then
    ((s.setTb (s.fld TB_SET_LO_SET + 2 ^ 32 * s.fld TB_SET_HI_SET)).on TB_CTRL_LOADED).onClk fun c => { c with loadDue := false }
  else s.setTb ((s.tb + 1) % 2 ^ 64)

/-- What runs in each µs after boot complete. -/
def State.runTick (s : State) : State :=
  let s := s.tmrTicks
  let s := s.mapRooms fun p r => if s.live p then (r.tick (s.env p)).pwmTick (s.env p)
    else if s.present p && s.keeps (wingOf p) then r.pwmTick (s.env p) else r
  let s := s.mapLands fun b l => if s.slotLive b then l.tick else l
  s.panTick.confTick

/-- TICK (R410, R412, R418, R422, R423): tick runs once the main clocks do; the model's clock runs from the boot sequence
on (log 70) (log 125). -/
def execTick (s : State) : Out :=
  act s s.serving fun s =>
    let s := { s with now := s.now + 1 }
    let s := if s.clocked then s.tbTick else s
    let s := if s.booted then s.runTick.jnlTick else s
    ((s.linkTick 0).linkTick 1).porchTick

end Sys2Proof.Machine
end

