-- ==== Sys2Proof/Machine/Timers.lean ====
section
/-! DEFINITION. Machine/Timers.lean: the commands on time base, timers and energy counters (12_timers_snapshot.md). -/

namespace Sys2Proof.Machine

/-- LOAD (R412). -/
def execLoad (s : State) : Out := act s s.booted fun s => s.loadTb

/-- TIMER_FIRE (R419, R423, R424): the timer fires, with every other timer of its block that is due: the reset routes act
after all of these firings and the clock routes after the resets. What a route makes due fires by the next command. -/
def execTimerFire (k : TmrBlock) (n : Fin 8) (s : State) : Out :=
  act s (s.tmrRuns k && tmrDue k s.tb (s.tmrRegs k) n.val) fun s =>
    let m := s.tmrRegs k
    s.setTmrRegs k (tmrFireRoutes k (s.pl.routes k) (s.tmrOuts k) s.tb (tmrDues k s.tb m) m)

/-- TMR_CTRL_WRITE (R420). -/
def execTmrCtrlWrite (k : TmrBlock) (n : Fin 8) (v : Word) (s : State) : Out :=
  act s (s.tmrThere k) fun s => s.writeTmr k n.val 0 v

/-- TMR_CMP_WRITE (R419). -/
def execTmrCmpWrite (k : TmrBlock) (n : Fin 8) (v : Word) (s : State) : Out :=
  act s (s.tmrThere k) fun s => s.writeTmr k n.val 1 v

/-- TMR_CNT_WRITE (R419, R418). -/
def execTmrCntWrite (k : TmrBlock) (n : Fin 8) (v : Word) (s : State) : Out :=
  act s (s.tmrThere k) fun s => s.writeTmr k n.val 2 v

/-- ENERGY_UPDATE (R426). -/
def execEnergyUpdate (s : State) : Out :=
  act s s.booted fun s => s.mapRooms fun p r =>
    if s.live p then
      r.addEnergy (r.fld ADC_VBUS_AVG * (s.pl.members p.val).foldl (fun a m => a + s.exactCurrent m) 0)
    else r

end Sys2Proof.Machine
end

