-- ==== Sys2Proof/Machine/TwoWire.lean ====
section
/-! DEFINITION. Machine/TwoWire.lean: the two-wire target and controller ports (14_two_wire.md). A transaction carries the
address that the port receives and the bytes that follow it. -/

namespace Sys2Proof.Machine

def twField (n : Fin 4) (f : Field) : Field := f.shift (0x40 * n.val)
def State.onTw (s : State) (n : Fin 4) (f : TwPort → TwPort) : State :=
  { s with tws := s.tws.zipIdx.map fun x => if x.2 = n.val then f x.1 else x.1 }
def State.twPort (s : State) (n : Fin 4) : TwPort := s.tws.getD n.val .reset

/-! ### Addresses and windows (R115, R458 to R460) -/

/-- The entry of a port that covers an address. -/
def State.twEntry (s : State) (n : Fin 4) (addr : Nat) : Option TwEntry :=
  s.matchers.find? fun e => e.tw = n.val && (addr ^^^ (addr &&& e.mask)) = (e.addr ^^^ (e.addr &&& e.mask))

/-- Base of the window of a matched address. -/
def TwEntry.window (e : TwEntry) (addr : Nat) : Nat :=
  if e.portIndexed then 0x1000000 + 0x40000 * (e.base % 64 + (addr &&& e.mask)) else e.base

/-- The port acknowledges an address: EN counts after boot complete (TW_CTRL). -/
def State.twAnswers (s : State) (n : Fin 4) (addr : Nat) : Bool :=
  s.listens && (!s.booted || s.bit (twField n TW_CTRL_EN)) && (s.twEntry n addr).isSome

/-- The address byte of a write. -/
def addrByte (addr : Nat) (read : Bool) : Byte := BitVec.ofNat 8 (2 * addr + read.toNat)

/-! ### Writes (R461, R462, R466 to R468) -/

/-- The write status of a transaction, with its count in TW_ERR. -/
def State.twWrote (s : State) (n : Fin 4) (code : Nat) : State :=
  let s := s.put (twField n TW_STAT_WSTAT) code
  if code = 11 then s.countErr (twField n TW_ERR_PEC)
  else if code = 12 then s.countErr (twField n TW_ERR_SHORT)
  else if 5 ≤ code && code ≤ 7 then s.countErr (twField n TW_ERR_DENIED)
  else s

/-- A command of IDX and CNT passes the checks of R462. -/
def cmdOk (idx cnt : Nat) : Bool := idx + cnt % 8 + 1 ≤ 256 && cnt / 8 % 16 = 0

/-- Start the word accesses of a transaction. -/
def State.twStart (s : State) (n : Fin 4) (p : TwProg) : State := s.onTw n fun t => { t with prog := some p }

/-- Bytes of a write transaction that the port acknowledges (R462, R465): IDX, CNT, the data that CNT announces and the PEC,
unless it is wrong. -/
def ackedBytes (arrived announced : Nat) (pecWrong : Bool) : Nat :=
  if pecWrong then announced else min arrived announced

/-- A write transaction for an entry (R461, R462): nothing without a whole command, the pointer alone without data. -/
def State.twWrite (s : State) (n : Fin 4) (e : TwEntry) (addr : Nat) (b : List Byte) : State :=
  let idx := u8 b 0
  let cnt := u8 b 1
  let k := 4 * (cnt % 8 + 1)
  let usesPec := s.bit (twField n TW_CTRL_PEC)
  let wrong := usesPec && decide (2 + k < b.length) && crc8 (addrByte addr false :: b.take (2 + k)) != b.getD (2 + k) 0
  let s := s.onTw n fun t => { t with acks := ackedBytes b.length (2 + k + (usesPec && !wrong).toNat) wrong }
  if b.length < 2 then s
  else if !cmdOk idx cnt then s.twWrote n 3
  else
    let s := s.onTw n fun t => { t with idx := idx, cnt := cnt }
    let data := b.drop 2
    if data.isEmpty then s
    else if data.length < k + usesPec.toNat then s.twWrote n 12
    else if wrong then s.twWrote n 11
    else
      let ws := (List.range (cnt % 8 + 1)).map fun i => BitVec.ofNat 32 (u32 data (4 * i))
      s.twStart n ⟨false, e.window addr + 4 * idx, cnt % 8 + 1, 0, ws, 0, []⟩

/-! ### Reads (R463 to R465) -/

/-- What a read sends, before its bytes 0xFF: the data, and the PEC over the transaction. -/
def State.twSend (s : State) (n : Fin 4) (pre data : List Byte) (code : Nat) : State :=
  let tail := if s.bit (twField n TW_CTRL_PEC) then [crc8 (pre ++ data)] else []
  (s.put (twField n TW_STAT_RSTAT) code).onTw n fun t => { t with sent := data ++ tail }

/-- A read transaction for an entry, `bytes` before its read address byte: the write status alone while STAT is 1, else N
words. -/
def State.twRead (s : State) (n : Fin 4) (e : TwEntry) (addr : Nat) (bytes : List Byte) : State :=
  let t := s.twPort n
  let pre := bytes ++ [addrByte addr true]
  if t.cnt / 128 % 2 = 1 then s.twSend n pre [BitVec.ofNat 8 (s.fld (twField n TW_STAT_WSTAT))] 0
  else s.twStart n ⟨true, e.window addr + 4 * t.idx, t.cnt % 8 + 1, 0, [], 0, pre⟩

/-! ### The accesses of a transaction, each a bus grant of its own (R462, R463, R476) -/

/-- One access: a word of a read that is not served reads 0 (R466); a refusal of a write goes before an access error in its
status (log 71). -/
def State.twOne (s : State) (n : Fin 4) (p : TwProg) : TwProg × State :=
  if p.read then
    let x := s.extRead (.tw n) (p.addr + 4 * p.done)
    ({ p with done := p.done + 1, words := p.words ++ [if x.1 = 0 then x.2.1 else 0]
              code := if x.1 = 1 then 1 else p.code }, x.2.2)
  else
    let x := s.extWrite (.tw n) true (p.addr + 4 * p.done) (p.words.getD p.done 0)
    ({ p with done := p.done + 1
              code := if 5 ≤ p.code then p.code else if 5 ≤ x.1 then x.1 else max p.code x.1 }, x.2)

/-- An address is acknowledged: LAST_ADDR, and a clock held since a wake is released (R469). -/
def State.twSeen (s : State) (n : Fin 4) (addr : Nat) : State :=
  (s.put (twField n TW_STAT_LAST_ADDR) addr).onTw n fun t => { t with held := false }

/-- A transaction begins. -/
def State.twBegin (s : State) (n : Fin 4) (read : Bool) (addr : Nat) (bytes : List Byte) : State :=
  match s.twEntry n addr with
  | none => s
  | some e => if read then (s.twSeen n addr).twRead n e addr bytes else (s.twSeen n addr).twWrite n e addr bytes

/-- The accesses of a transaction have ended: the bytes of a read go out, a write has its status; then the address that
waited. -/
def State.twEnd (s : State) (n : Fin 4) (p : TwProg) : State :=
  let w := (s.twPort n).wait
  let s := s.onTw n fun t => { t with prog := none, wait := none }
  let s := if p.read then s.twSend n p.pre (p.words.flatMap wordBytes) p.code else s.twWrote n p.code
  match w with
  | some (read, addr, bytes) => s.twBegin n read addr bytes
  | none => s

/-- The next `k` accesses of a port. -/
def State.twRun (n : Fin 4) : Nat → State → State
  | 0, s => s
  | k + 1, s =>
    match (s.twPort n).prog with
    | none => s
    | some p =>
      let r := s.twOne n p
      State.twRun n k (if r.1.done < r.1.n then r.2.onTw n fun t => { t with prog := some r.1 } else r.2.twEnd n r.1)

/-- The port's accesses in progress are reads, or writes. -/
def State.twBusy (s : State) (n : Fin 4) (read : Bool) : Bool :=
  match (s.twPort n).prog with
  | some p => p.read = read
  | none => false

/-- A transaction arrives with `k` bus grants, or the accesses in progress get `k` more. While writes are in progress on the
port, the acknowledgement of a new address holds SCL until they complete (R470, R476). -/
def twAct (s : State) (n : Fin 4) (read : Bool) (tx : Option (BitVec 7 × List Byte)) (k : Nat) : Out :=
  match tx with
  | some (addr, bytes) =>
    act s (s.twAnswers n addr.toNat && !s.twBusy n true && (s.twPort n).wait.isNone) fun s =>
      if s.twBusy n false then s.onTw n fun t => { t with wait := some (read, addr.toNat, bytes) }
      else (s.twBegin n read addr.toNat bytes).twRun n k
  | none => act s (s.serving && s.twBusy n read) fun s => s.twRun n k

/-- TW_WRITE_TRANSACTION (R461, R462): the bytes between the address byte and the STOP or repeated START. -/
def execTwWriteTransaction (n : Fin 4) (tx : Option (BitVec 7 × List Byte)) (k : Nat) (s : State) : Out :=
  twAct s n false tx k

/-- TW_READ_TRANSACTION (R463 to R465): the bytes of the transaction before the read address byte, which a repeated START
puts there. SCL is held low until the last read has completed. -/
def execTwReadTransaction (n : Fin 4) (tx : Option (BitVec 7 × List Byte)) (k : Nat) (s : State) : Out :=
  twAct s n true tx k

/-! ### Timeouts, bus errors and wake (R469, R471) -/

/-- A transaction is discarded and both balls are released (R471): the reads in progress end, the writes of an ended
transaction go on; a write is recorded as SHORT. -/
def State.twLost (s : State) (n : Fin 4) (write : Bool) : State :=
  let s := (s.countErr (twField n TW_ERR_BUS)).onTw n fun t =>
    { t with held := false, wait := none, prog := t.prog.filter fun p => !p.read }
  if write then s.twWrote n 12 else s

/-- TW_TIMEOUT (R471): of a transaction that is a write or a read. -/
def execTwTimeout (n : Fin 4) (write : Bool) (s : State) : Out :=
  act s (s.serving && s.bit (twField n TW_CTRL_TIMEOUT_EN)) fun s => s.twLost n write

/-- TW_BUS_ERROR (R471). -/
def execTwBusError (n : Fin 4) (write : Bool) (s : State) : Out := act s s.serving fun s => s.twLost n write

/-- TW_ADDRESS_MATCH_WAKE (R469, R470, R87): an address that the matcher covers, with the port's bit in WAKE_EN. -/
def execTwAddressMatchWake (n : Fin 4) (addr : BitVec 7) (s : State) : Out :=
  act s ((s.twEntry n addr.toNat).isSome && (s.fld WAKE_EN_TW).testBit n.val && s.lowState != 0) fun s =>
    let s := if s.clk.phase = .sleep || s.clk.phase = .standby then s.onTw n fun t => { t with held := true } else s
    s.wakeBy fun s => s.put WAKE_CAUSE_TW (s.fld WAKE_CAUSE_TW ||| 2 ^ n.val)

/-! ### Controller ports (R473 to R475) -/

def tcField (m : Fin 2) (f : Field) : Field := f.shift (0x40 * m.val)

/-- TC_GO (R474): the Hall core's write of TC_CMD.GO. -/
def execTcGo (m : Fin 2) (s : State) : Out := act s s.clocked fun s => s.tcGo m

/-- TC_DATA0 to TC_DATA7 with received bytes in front. -/
def State.tcData (s : State) (m : Fin 2) (data : List Byte) : State :=
  let b := (data ++ (s.tcBytes m).drop data.length).take 32
  let set (r : Regs) (i : Nat) : Regs := Store.set r (0x71110 + 0x40 * m.val + 4 * i) (BitVec.ofNat 32 (u32 b (4 * i)))
  { s with regs := (List.range 8).foldl set s.regs }

def State.tcPort (s : State) (m : Fin 2) : TcPort := s.tcs.getD m.val .reset

/-- The received bytes are all that the transaction reads, with its PEC (R474). -/
def TcPort.complete (t : TcPort) (data : List Byte) : Bool :=
  data.length = (if t.rlen = 0 then 0 else t.rlen + t.pec.toNat)

/-- RESULT of a transaction that the bus carried to its end: 5 for a wrong PEC (R474). -/
def TcPort.result (t : TcPort) (data : List Byte) : Nat :=
  if t.pec && t.rlen != 0 && crc8 (t.out.flatten ++ data.take t.rlen) != data.getD t.rlen 0 then 5 else 0

/-- TC_DONE (R474, R475): how the bus ended the transaction (0 its end, 1 NACK, 2 ARB_LOST, 3 STUCK, 4 TIMEOUT), the bytes
transferred before a failure, the bytes received. A complete transaction counts WLEN + RLEN (log 156). -/
def execTcDone (m : Fin 2) (result : Fin 5) (count : Nat) (data : List Byte) (s : State) : Out :=
  let t := s.tcPort m
  act s (s.clocked && s.bit (tcField m TC_STAT_BUSY) && (result != 0 || t.complete data)) fun s =>
    let s := s.tcData m (data.take t.rlen)
    (((s.off (tcField m TC_STAT_BUSY)).on (tcField m TC_STAT_DONE)).put (tcField m TC_STAT_RESULT)
      (if result = 0 then t.result data else result.val)).put (tcField m TC_STAT_COUNT)
      (if result = 0 then min (t.wlen + t.rlen) 63 else count)

end Sys2Proof.Machine
end

