-- ==== Sys2Proof/Machine/Dispatch.lean ====
section
/-! DEFINITION. Machine/Dispatch.lean: one arm per command, each a direct call of the command's meaning. -/

namespace Sys2Proof.Machine

def exec (i : Instr) (s : State) : Host.Outcome State Fault Refusal :=
  match i with
  | .registerWrite a addr size v => Sys2Proof.Machine.execRegisterWrite a addr size v s
  | .faultRead p => Sys2Proof.Machine.execFaultRead p s
  | .pdErrcntRead p => Sys2Proof.Machine.execPdErrcntRead p s
  | .thrCntRead p => Sys2Proof.Machine.execThrCntRead p s
  | .hsFaultRead b => Sys2Proof.Machine.execHsFaultRead b s
  | .landFaultRead b => Sys2Proof.Machine.execLandFaultRead b s
  | .wingFaultRead w cal => Sys2Proof.Machine.execWingFaultRead w cal s
  | .pantryFaultRead => Sys2Proof.Machine.execPantryFaultRead s
  | .resetCauseRead => Sys2Proof.Machine.execResetCauseRead s
  | .wakeCauseRead => Sys2Proof.Machine.execWakeCauseRead s
  | .pwrStatRead => Sys2Proof.Machine.execPwrStatRead s
  | .hallModeRead => Sys2Proof.Machine.execHallModeRead s
  | .hlErrRead n => Sys2Proof.Machine.execHlErrRead n s
  | .twErrRead n => Sys2Proof.Machine.execTwErrRead n s
  | .stairErrRead => Sys2Proof.Machine.execStairErrRead s
  | .atticResultRead => Sys2Proof.Machine.execAtticResultRead s
  | .jnlResultRead => Sys2Proof.Machine.execJnlResultRead s
  | .tbCtrlRead => Sys2Proof.Machine.execTbCtrlRead s
  | .hbStatRead => Sys2Proof.Machine.execHbStatRead s
  | .subwordRead a addr size => Sys2Proof.Machine.execSubwordRead a addr size s
  | .enableSet p => Sys2Proof.Machine.execEnableSet p s
  | .enableClear p => Sys2Proof.Machine.execEnableClear p s
  | .portRemovalEnd p => Sys2Proof.Machine.execPortRemovalEnd p s
  | .forceSafe p core on => Sys2Proof.Machine.execForceSafe p core on s
  | .restartCore p => Sys2Proof.Machine.execRestartCore p s
  | .recover p => Sys2Proof.Machine.execRecover p s
  | .grantAsk p w => Sys2Proof.Machine.execGrantAsk p w s
  | .grantAnswer p => Sys2Proof.Machine.execGrantAnswer p s
  | .resvLapse p => Sys2Proof.Machine.execResvLapse p s
  | .budgetLimitWrite r addr v => Sys2Proof.Machine.execBudgetLimitWrite r addr v s
  | .coreWdt p => Sys2Proof.Machine.execCoreWdt p s
  | .coreKick p key => Sys2Proof.Machine.execCoreKick p key s
  | .adcCalibration p adc gain offset => Sys2Proof.Machine.execAdcCalibration p adc gain offset s
  | .landingFault b cause => Sys2Proof.Machine.execLandingFault b cause s
  | .landingShedStep b => Sys2Proof.Machine.execLandingShedStep b s
  | .landingSelfCheck b => Sys2Proof.Machine.execLandingSelfCheck b s
  | .wingWatchdog w part => Sys2Proof.Machine.execWingWatchdog w part s
  | .wingSafeDelay w => Sys2Proof.Machine.execWingSafeDelay w s
  | .wingRestart w => Sys2Proof.Machine.execWingRestart w s
  | .parity site => Sys2Proof.Machine.execParity site s
  | .hallModeWrite r mode => Sys2Proof.Machine.execHallModeWrite r mode s
  | .modeApply p => Sys2Proof.Machine.execModeApply p s
  | .forcedMode b => Sys2Proof.Machine.execForcedMode b s
  | .fireN => Sys2Proof.Machine.execFireN s
  | .fireNRelease => Sys2Proof.Machine.execFireNRelease s
  | .clockFailure xtal => Sys2Proof.Machine.execClockFailure xtal s
  | .clkFail => Sys2Proof.Machine.execClkFail s
  | .slowXtalSelect => Sys2Proof.Machine.execSlowXtalSelect s
  | .slowSwitch => Sys2Proof.Machine.execSlowSwitch s
  | .rcCalibration fRc => Sys2Proof.Machine.execRcCalibration fRc s
  | .aonPor => Sys2Proof.Machine.execAonPor s
  | .borCore => Sys2Proof.Machine.execBorCore s
  | .borIo => Sys2Proof.Machine.execBorIo s
  | .borA => Sys2Proof.Machine.execBorA s
  | .pin lowNs taken => Sys2Proof.Machine.execPin lowNs taken s
  | .testEn level => Sys2Proof.Machine.execTestEn level s
  | .resetKey key => Sys2Proof.Machine.execResetKey key s
  | .chipResetEnd pairId core io ana resetN us => Sys2Proof.Machine.execChipResetEnd pairId core io ana resetN us s
  | .xtalOk => Sys2Proof.Machine.execXtalOk s
  | .pllLock b => Sys2Proof.Machine.execPllLock b s
  | .reqRun => Sys2Proof.Machine.execReqRun s
  | .reqDoze => Sys2Proof.Machine.execReqDoze s
  | .reqSleep act => Sys2Proof.Machine.execReqSleep act s
  | .reqStandby act => Sys2Proof.Machine.execReqStandby act s
  | .entrySequenceStep => Sys2Proof.Machine.execEntrySequenceStep s
  | .wakeN => Sys2Proof.Machine.execWakeN s
  | .ccSamplingWindow lv => Sys2Proof.Machine.execCcSamplingWindow lv s
  | .keyWake => Sys2Proof.Machine.execKeyWake s
  | .alarm => Sys2Proof.Machine.execAlarm s
  | .fireWake => Sys2Proof.Machine.execFireWake s
  | .hlWake n => Sys2Proof.Machine.execHlWake n s
  | .porchWake => Sys2Proof.Machine.execPorchWake s
  | .sleepWake => Sys2Proof.Machine.execSleepWake s
  | .standbyExit => Sys2Proof.Machine.execStandbyExit s
  | .planRdDataRead => Sys2Proof.Machine.execPlanRdDataRead s
  | .fwRdDataRead => Sys2Proof.Machine.execFwRdDataRead s
  | .celRdDataRead => Sys2Proof.Machine.execCelRdDataRead s
  | .ccLevelChange p l1 l2 => Sys2Proof.Machine.execCcLevelChange p l1 l2 s
  | .tccdebounce p => Sys2Proof.Machine.execTccdebounce p s
  | .tpddebounce p => Sys2Proof.Machine.execTpddebounce p s
  | .ttryccdebounce p => Sys2Proof.Machine.execTtryccdebounce p s
  | .tdrptry p => Sys2Proof.Machine.execTdrptry p s
  | .terrorrecovery p => Sys2Proof.Machine.execTerrorrecovery p s
  | .drpToggle p => Sys2Proof.Machine.execDrpToggle p s
  | .attachGrant p => Sys2Proof.Machine.execAttachGrant p s
  | .budgetWait p => Sys2Proof.Machine.execBudgetWait p s
  | .rpLimitLower p => Sys2Proof.Machine.execRpLimitLower p s
  | .vbusLost p => Sys2Proof.Machine.execVbusLost p s
  | .vconnEnWrite p en => Sys2Proof.Machine.execVconnEnWrite p en s
  | .vconnOc p overcurrent => Sys2Proof.Machine.execVconnOc p overcurrent s
  | .ccOv p cc2 above => Sys2Proof.Machine.execCcOv p cc2 above s
  | .ccIsolationRelease p cc2 => Sys2Proof.Machine.execCcIsolationRelease p cc2 s
  | .errorRecovery p => Sys2Proof.Machine.execErrorRecovery p s
  | .messageReceived p os syms => Sys2Proof.Machine.execMessageReceived p os syms s
  | .packetTruncated p => Sys2Proof.Machine.execPacketTruncated p s
  | .goodcrc p tr => Sys2Proof.Machine.execGoodcrc p tr s
  | .messageDelivered p => Sys2Proof.Machine.execMessageDelivered p s
  | .goodcrcReceived p sop id => Sys2Proof.Machine.execGoodcrcReceived p sop id s
  | .transmitStart p tr => Sys2Proof.Machine.execTransmitStart p tr s
  | .transmitEnd p => Sys2Proof.Machine.execTransmitEnd p s
  | .treceive p => Sys2Proof.Machine.execTreceive p s
  | .retransmit p tr => Sys2Proof.Machine.execRetransmit p tr s
  | .tsenderresponse p => Sys2Proof.Machine.execTsenderresponse p s
  | .tsinktx p => Sys2Proof.Machine.execTsinktx p s
  | .tamsidle p => Sys2Proof.Machine.execTamsidle p s
  | .amsEnd p => Sys2Proof.Machine.execAmsEnd p s
  | .commit p rd ra => Sys2Proof.Machine.execCommit p rd ra s
  | .discard p rd ra => Sys2Proof.Machine.execDiscard p rd ra s
  | .txRelease p => Sys2Proof.Machine.execTxRelease p s
  | .txWithdraw p => Sys2Proof.Machine.execTxWithdraw p s
  | .rxPop p => Sys2Proof.Machine.execRxPop p s
  | .vdmPop p => Sys2Proof.Machine.execVdmPop p s
  | .hardReset p => Sys2Proof.Machine.execHardReset p s
  | .cableReset p => Sys2Proof.Machine.execCableReset p s
  | .cableDisc p => Sys2Proof.Machine.execCableDisc p s
  | .hvdmSend p => Sys2Proof.Machine.execHvdmSend p s
  | .chunkRequest p tr => Sys2Proof.Machine.execChunkRequest p tr s
  | .tchunksenderrequest p => Sys2Proof.Machine.execTchunksenderrequest p s
  | .tchunksenderresponse p => Sys2Proof.Machine.execTchunksenderresponse p s
  | .automaticReply p tr => Sys2Proof.Machine.execAutomaticReply p tr s
  | .bistCarrierEnd p => Sys2Proof.Machine.execBistCarrierEnd p s
  | .eprKeepalive p => Sys2Proof.Machine.execEprKeepalive p s
  | .kaMiss p => Sys2Proof.Machine.execKaMiss p s
  | .eprSourceTimeout p => Sys2Proof.Machine.execEprSourceTimeout p s
  | .cableDiscoveryStart p => Sys2Proof.Machine.execCableDiscoveryStart p s
  | .cableResponseTimeout p => Sys2Proof.Machine.execCableResponseTimeout p s
  | .cableDiscoveryAttempt p => Sys2Proof.Machine.execCableDiscoveryAttempt p s
  | .hardResetTransmit p => Sys2Proof.Machine.execHardResetTransmit p s
  | .hardResetReceived p => Sys2Proof.Machine.execHardResetReceived p s
  | .cableResetReceived p => Sys2Proof.Machine.execCableResetReceived p s
  | .tsrc p => Sys2Proof.Machine.execTsrc p s
  | .referenceReached p => Sys2Proof.Machine.execReferenceReached p s
  | .settled p => Sys2Proof.Machine.execSettled p s
  | .settleFail p => Sys2Proof.Machine.execSettleFail p s
  | .vsetWrite p mv => Sys2Proof.Machine.execVsetWrite p mv s
  | .vlimRecompute p vin10 => Sys2Proof.Machine.execVlimRecompute p vin10 s
  | .giveup p => Sys2Proof.Machine.execGiveup p s
  | .hardResetVconnOff p => Sys2Proof.Machine.execHardResetVconnOff p s
  | .hardResetVbusSafe0 p => Sys2Proof.Machine.execHardResetVbusSafe0 p s
  | .tsrcrecover p => Sys2Proof.Machine.execTsrcrecover p s
  | .hardResetEnd p => Sys2Proof.Machine.execHardResetEnd p s
  | .prSwapVbusSafe0 p => Sys2Proof.Machine.execPrSwapVbusSafe0 p s
  | .psRdyTimeout p => Sys2Proof.Machine.execPsRdyTimeout p s
  | .trig p => Sys2Proof.Machine.execTrig p s
  | .frsInputTrigger p => Sys2Proof.Machine.execFrsInputTrigger p s
  | .frsSignalEnd p => Sys2Proof.Machine.execFrsSignalEnd p s
  | .frsTimeout p => Sys2Proof.Machine.execFrsTimeout p s
  | .frsDetect p => Sys2Proof.Machine.execFrsDetect p s
  | .frsVbusDrop p => Sys2Proof.Machine.execFrsVbusDrop p s
  | .vconnSwapTimeout p => Sys2Proof.Machine.execVconnSwapTimeout p s
  | .periodStart p => Sys2Proof.Machine.execPeriodStart p s
  | .loopUpdate p vbus cur vnode vin vs is => Sys2Proof.Machine.execLoopUpdate p vbus cur vnode vin vs is s
  | .softStartDone p => Sys2Proof.Machine.execSoftStartDone p s
  | .softStopDone p => Sys2Proof.Machine.execSoftStopDone p s
  | .coefApply p => Sys2Proof.Machine.execCoefApply p s
  | .thresholdTrip p k neg cycles => Sys2Proof.Machine.execThresholdTrip p k neg cycles s
  | .thresholdLatch p k neg => Sys2Proof.Machine.execThresholdLatch p k neg s
  | .ovT p => Sys2Proof.Machine.execOvT p s
  | .uvT p => Sys2Proof.Machine.execUvT p s
  | .regLoss p => Sys2Proof.Machine.execRegLoss p s
  | .efuse p => Sys2Proof.Machine.execEfuse p s
  | .foldbackTimeout p => Sys2Proof.Machine.execFoldbackTimeout p s
  | .coldClose p => Sys2Proof.Machine.execColdClose p s
  | .retryAttempt p => Sys2Proof.Machine.execRetryAttempt p s
  | .attemptWindowEnd p => Sys2Proof.Machine.execAttemptWindowEnd p s
  | .retryCountReset p => Sys2Proof.Machine.execRetryCountReset p s
  | .fetShort p => Sys2Proof.Machine.execFetShort p s
  | .seatChange b seat1 seat2 => Sys2Proof.Machine.execSeatChange b seat1 seat2 s
  | .tseat b m => Sys2Proof.Machine.execTseat b m s
  | .seatLift b seat1 seat2 => Sys2Proof.Machine.execSeatLift b seat1 seat2 s
  | .gateUp b m => Sys2Proof.Machine.execGateUp b m s
  | .slotOn b m => Sys2Proof.Machine.execSlotOn b m s
  | .inrushTo b => Sys2Proof.Machine.execInrushTo b s
  | .short b neg => Sys2Proof.Machine.execShort b neg s
  | .breaker b => Sys2Proof.Machine.execBreaker b s
  | .pgLoss b m => Sys2Proof.Machine.execPgLoss b m s
  | .slotFetShort b m => Sys2Proof.Machine.execSlotFetShort b m s
  | .slotAttempt b m => Sys2Proof.Machine.execSlotAttempt b m s
  | .slotAttemptOk b => Sys2Proof.Machine.execSlotAttemptOk b s
  | .slotCountReset b => Sys2Proof.Machine.execSlotCountReset b s
  | .hsEnSet b => Sys2Proof.Machine.execHsEnSet b s
  | .hsEnClear b => Sys2Proof.Machine.execHsEnClear b s
  | .hsRecover b m => Sys2Proof.Machine.execHsRecover b m s
  | .hsLimitWrite b v => Sys2Proof.Machine.execHsLimitWrite b v s
  | .hearthUpdate die => Sys2Proof.Machine.execHearthUpdate die s
  | .grace m => Sys2Proof.Machine.execGrace m s
  | .ithRecompute m => Sys2Proof.Machine.execIthRecompute m s
  | .clampRelease m => Sys2Proof.Machine.execClampRelease m s
  | .dieCapRelease => Sys2Proof.Machine.execDieCapRelease s
  | .tambConversion mv0 mv1 => Sys2Proof.Machine.execTambConversion mv0 mv1 s
  | .powerBalanceCheck b slot ports => Sys2Proof.Machine.execPowerBalanceCheck b slot ports s
  | .qidOn m => Sys2Proof.Machine.execQidOn m s
  | .idRevTrip m => Sys2Proof.Machine.execIdRevTrip m s
  | .batteryOperationBegin m => Sys2Proof.Machine.execBatteryOperationBegin m s
  | .batteryMode => Sys2Proof.Machine.execBatteryMode s
  | .batteryOperationEnd m => Sys2Proof.Machine.execBatteryOperationEnd m s
  | .batLow mean => Sys2Proof.Machine.execBatLow mean s
  | .cutoff mean => Sys2Proof.Machine.execCutoff mean s
  | .batPresChange present => Sys2Proof.Machine.execBatPresChange present s
  | .presStable => Sys2Proof.Machine.execPresStable s
  | .qualification mean => Sys2Proof.Machine.execQualification mean s
  | .prechargeDone m => Sys2Proof.Machine.execPrechargeDone m s
  | .preTimeout => Sys2Proof.Machine.execPreTimeout s
  | .ndvWindow mean => Sys2Proof.Machine.execNdvWindow mean s
  | .dtdtEvaluation mean => Sys2Proof.Machine.execDtdtEvaluation mean s
  | .safetyTmr => Sys2Proof.Machine.execSafetyTmr s
  | .pause m => Sys2Proof.Machine.execPause m s
  | .budgetPauseRetry => Sys2Proof.Machine.execBudgetPauseRetry s
  | .chargerGrant => Sys2Proof.Machine.execChargerGrant s
  | .pOvTrip => Sys2Proof.Machine.execPOvTrip s
  | .chgOv => Sys2Proof.Machine.execChgOv s
  | .pPkTrip neg => Sys2Proof.Machine.execPPkTrip neg s
  | .start => Sys2Proof.Machine.execStart s
  | .restart m => Sys2Proof.Machine.execRestart m s
  | .panEnWrite en => Sys2Proof.Machine.execPanEnWrite en s
  | .lampSlot => Sys2Proof.Machine.execLampSlot s
  | .add c rd ra rb z => Sys2Proof.Machine.execAdd c rd ra rb z s
  | .sub c rd ra rb z => Sys2Proof.Machine.execSub c rd ra rb z s
  | .and c rd ra rb z => Sys2Proof.Machine.execAnd c rd ra rb z s
  | .or c rd ra rb z => Sys2Proof.Machine.execOr c rd ra rb z s
  | .xor c rd ra rb z => Sys2Proof.Machine.execXor c rd ra rb z s
  | .sll c rd ra rb z => Sys2Proof.Machine.execSll c rd ra rb z s
  | .srl c rd ra rb z => Sys2Proof.Machine.execSrl c rd ra rb z s
  | .sra c rd ra rb z => Sys2Proof.Machine.execSra c rd ra rb z s
  | .mul c rd ra rb z => Sys2Proof.Machine.execMul c rd ra rb z s
  | .mulh c rd ra rb z => Sys2Proof.Machine.execMulh c rd ra rb z s
  | .mulhu c rd ra rb z => Sys2Proof.Machine.execMulhu c rd ra rb z s
  | .divu c rd ra rb z => Sys2Proof.Machine.execDivu c rd ra rb z s
  | .remu c rd ra rb z => Sys2Proof.Machine.execRemu c rd ra rb z s
  | .minu c rd ra rb z => Sys2Proof.Machine.execMinu c rd ra rb z s
  | .maxu c rd ra rb z => Sys2Proof.Machine.execMaxu c rd ra rb z s
  | .addi c rd ra imm => Sys2Proof.Machine.execAddi c rd ra imm s
  | .andi c rd ra imm => Sys2Proof.Machine.execAndi c rd ra imm s
  | .ori c rd ra imm => Sys2Proof.Machine.execOri c rd ra imm s
  | .xori c rd ra imm => Sys2Proof.Machine.execXori c rd ra imm s
  | .slli c rd ra imm => Sys2Proof.Machine.execSlli c rd ra imm s
  | .srli c rd ra imm => Sys2Proof.Machine.execSrli c rd ra imm s
  | .srai c rd ra imm => Sys2Proof.Machine.execSrai c rd ra imm s
  | .lui c rd imm => Sys2Proof.Machine.execLui c rd imm s
  | .ceq c rd ra rb z => Sys2Proof.Machine.execCeq c rd ra rb z s
  | .cne c rd ra rb z => Sys2Proof.Machine.execCne c rd ra rb z s
  | .clt c rd ra rb z => Sys2Proof.Machine.execClt c rd ra rb z s
  | .cltu c rd ra rb z => Sys2Proof.Machine.execCltu c rd ra rb z s
  | .cge c rd ra rb z => Sys2Proof.Machine.execCge c rd ra rb z s
  | .cgeu c rd ra rb z => Sys2Proof.Machine.execCgeu c rd ra rb z s
  | .ceqi c rd ra imm => Sys2Proof.Machine.execCeqi c rd ra imm s
  | .cnei c rd ra imm => Sys2Proof.Machine.execCnei c rd ra imm s
  | .clti c rd ra imm => Sys2Proof.Machine.execClti c rd ra imm s
  | .cltui c rd ra imm => Sys2Proof.Machine.execCltui c rd ra imm s
  | .cgei c rd ra imm => Sys2Proof.Machine.execCgei c rd ra imm s
  | .cgeui c rd ra imm => Sys2Proof.Machine.execCgeui c rd ra imm s
  | .bz c ra off => Sys2Proof.Machine.execBz c ra off s
  | .bnz c ra off => Sys2Proof.Machine.execBnz c ra off s
  | .jal c rd imm => Sys2Proof.Machine.execJal c rd imm s
  | .jalr c rd ra imm => Sys2Proof.Machine.execJalr c rd ra imm s
  | .lb c rd ra imm => Sys2Proof.Machine.execLb c rd ra imm s
  | .lbu c rd ra imm => Sys2Proof.Machine.execLbu c rd ra imm s
  | .lh c rd ra imm => Sys2Proof.Machine.execLh c rd ra imm s
  | .lhu c rd ra imm => Sys2Proof.Machine.execLhu c rd ra imm s
  | .lw c rd ra imm => Sys2Proof.Machine.execLw c rd ra imm s
  | .sb c rs ra imm => Sys2Proof.Machine.execSb c rs ra imm s
  | .sh c rs ra imm => Sys2Proof.Machine.execSh c rs ra imm s
  | .sw c rs ra imm => Sys2Proof.Machine.execSw c rs ra imm s
  | .lwp c rd ra imm => Sys2Proof.Machine.execLwp c rd ra imm s
  | .swp c rs ra imm => Sys2Proof.Machine.execSwp c rs ra imm s
  | .cpw c rd ra rb z => Sys2Proof.Machine.execCpw c rd ra rb z s
  | .rpt c rd ra imm => Sys2Proof.Machine.execRpt c rd ra imm s
  | .rptr c rd ra imm => Sys2Proof.Machine.execRptr c rd ra imm s
  | .rptu c rd ra imm => Sys2Proof.Machine.execRptu c rd ra imm s
  | .wait c rd ra imm => Sys2Proof.Machine.execWait c rd ra imm s
  | .evret c rd ra imm => Sys2Proof.Machine.execEvret c rd ra imm s
  | .sync c rd ra imm => Sys2Proof.Machine.execSync c rd ra imm s
  | .mfs c rd ra imm => Sys2Proof.Machine.execMfs c rd ra imm s
  | .mts c rd ra imm => Sys2Proof.Machine.execMts c rd ra imm s
  | .hbeat c rd ra imm => Sys2Proof.Machine.execHbeat c rd ra imm s
  | .brk c rd ra imm => Sys2Proof.Machine.execBrk c rd ra imm s
  | .eventEntry c => Sys2Proof.Machine.execEventEntry c s
  | .extCopyDone p => Sys2Proof.Machine.execExtCopyDone p s
  | .hold p on => Sys2Proof.Machine.execHold p on s
  | .doorbell p v => Sys2Proof.Machine.execDoorbell p v s
  | .dbAck p v => Sys2Proof.Machine.execDbAck p v s
  | .timerFire k n => Sys2Proof.Machine.execTimerFire k n s
  | .tmrCtrlWrite k n v => Sys2Proof.Machine.execTmrCtrlWrite k n v s
  | .tmrCmpWrite k n v => Sys2Proof.Machine.execTmrCmpWrite k n v s
  | .tmrCntWrite k n v => Sys2Proof.Machine.execTmrCntWrite k n v s
  | .load => Sys2Proof.Machine.execLoad s
  | .energyUpdate => Sys2Proof.Machine.execEnergyUpdate s
  | .snapTrig => Sys2Proof.Machine.execSnapTrig s
  | .snapIoEdge low => Sys2Proof.Machine.execSnapIoEdge low s
  | .snapIoRelease => Sys2Proof.Machine.execSnapIoRelease s
  | .capture => Sys2Proof.Machine.execCapture s
  | .hlRead n line => Sys2Proof.Machine.execHlRead n line s
  | .hlWrite n line => Sys2Proof.Machine.execHlWrite n line s
  | .rmw n line k => Sys2Proof.Machine.execRmw n line k s
  | .bulkRead n line k => Sys2Proof.Machine.execBulkRead n line k s
  | .bulkWrite n line k => Sys2Proof.Machine.execBulkWrite n line k s
  | .subscribe n line => Sys2Proof.Machine.execSubscribe n line s
  | .snapshot n line => Sys2Proof.Machine.execSnapshot n line s
  | .hlActivate n line held recOk => Sys2Proof.Machine.execHlActivate n line held recOk s
  | .ack n line => Sys2Proof.Machine.execAck n line s
  | .setting n line held => Sys2Proof.Machine.execSetting n line held s
  | .vdmSend n line held => Sys2Proof.Machine.execVdmSend n line held s
  | .ping n line => Sys2Proof.Machine.execPing n line s
  | .unknownType n line => Sys2Proof.Machine.execUnknownType n line s
  | .frameDiscard n line charErr lost => Sys2Proof.Machine.execFrameDiscard n line charErr lost s
  | .frameAbort n line idle => Sys2Proof.Machine.execFrameAbort n line idle s
  | .timeout n => Sys2Proof.Machine.execTimeout n s
  | .go => Sys2Proof.Machine.execGo s
  | .eventSend n => Sys2Proof.Machine.execEventSend n s
  | .eventResend n => Sys2Proof.Machine.execEventResend n s
  | .twWriteTransaction n tx k => Sys2Proof.Machine.execTwWriteTransaction n tx k s
  | .twReadTransaction n tx k => Sys2Proof.Machine.execTwReadTransaction n tx k s
  | .twTimeout n write => Sys2Proof.Machine.execTwTimeout n write s
  | .twBusError n write => Sys2Proof.Machine.execTwBusError n write s
  | .twAddressMatchWake n addr => Sys2Proof.Machine.execTwAddressMatchWake n addr s
  | .tcGo m => Sys2Proof.Machine.execTcGo m s
  | .tcDone m result count data => Sys2Proof.Machine.execTcDone m result count data s
  | .heartbeatSend => Sys2Proof.Machine.execHeartbeatSend s
  | .heartbeatPulse widthNs => Sys2Proof.Machine.execHeartbeatPulse widthNs s
  | .peerLost => Sys2Proof.Machine.execPeerLost s
  | .keyInChange level => Sys2Proof.Machine.execKeyInChange level s
  | .claimStartA => Sys2Proof.Machine.execClaimStartA s
  | .claimStartB => Sys2Proof.Machine.execClaimStartB s
  | .takeover => Sys2Proof.Machine.execTakeover s
  | .claimGuardEnd => Sys2Proof.Machine.execClaimGuardEnd s
  | .contention w => Sys2Proof.Machine.execContention w s
  | .peerNoYield w => Sys2Proof.Machine.execPeerNoYield w s
  | .release w => Sys2Proof.Machine.execRelease w s
  | .hbOutFault => Sys2Proof.Machine.execHbOutFault s
  | .keyInStuck => Sys2Proof.Machine.execKeyInStuck s
  | .driveConflict site => Sys2Proof.Machine.execDriveConflict site s
  | .pairResync => Sys2Proof.Machine.execPairResync s
  | .laneLock k => Sys2Proof.Machine.execLaneLock k s
  | .laneLockLoss k copy => Sys2Proof.Machine.execLaneLockLoss k copy s
  | .linkUp => Sys2Proof.Machine.execLinkUp s
  | .linkDown => Sys2Proof.Machine.execLinkDown s
  | .stairFrame k line => Sys2Proof.Machine.execStairFrame k line s
  | .stairLoop k line => Sys2Proof.Machine.execStairLoop k line s
  | .stairRoom k line => Sys2Proof.Machine.execStairRoom k line s
  | .stairSlot k line => Sys2Proof.Machine.execStairSlot k line s
  | .stairTimer k line => Sys2Proof.Machine.execStairTimer k line s
  | .stairHearth k line => Sys2Proof.Machine.execStairHearth k line s
  | .stairEnergy k line => Sys2Proof.Machine.execStairEnergy k line s
  | .stairHall k line => Sys2Proof.Machine.execStairHall k line s
  | .stairPantry k line => Sys2Proof.Machine.execStairPantry k line s
  | .stairWrite k line => Sys2Proof.Machine.execStairWrite k line s
  | .stairStatus k line => Sys2Proof.Machine.execStairStatus k line s
  | .stairResync k line => Sys2Proof.Machine.execStairResync k line s
  | .stairDigest k line => Sys2Proof.Machine.execStairDigest k line s
  | .frameSend => Sys2Proof.Machine.execFrameSend s
  | .recordSend type target bank => Sys2Proof.Machine.execRecordSend type target bank s
  | .recordResend type target bank => Sys2Proof.Machine.execRecordResend type target bank s
  | .statusSend => Sys2Proof.Machine.execStatusSend s
  | .digestSend => Sys2Proof.Machine.execDigestSend s
  | .resyncSend => Sys2Proof.Machine.execResyncSend s
  | .statusLoss => Sys2Proof.Machine.execStatusLoss s
  | .program r vpp vdd => Sys2Proof.Machine.execProgram r vpp vdd s
  | .margin r => Sys2Proof.Machine.execMargin r s
  | .advance r vpp vdd => Sys2Proof.Machine.execAdvance r vpp vdd s
  | .progSecret r vpp vdd => Sys2Proof.Machine.execProgSecret r vpp vdd s
  | .lifecycle r vpp vdd => Sys2Proof.Machine.execLifecycle r vpp vdd s
  | .atticCommandDone abort bad => Sys2Proof.Machine.execAtticCommandDone abort bad s
  | .atticLock v => Sys2Proof.Machine.execAtticLock v s
  | .verify => Sys2Proof.Machine.execVerify s
  | .verifyDone => Sys2Proof.Machine.execVerifyDone s
  | .ident line => Sys2Proof.Machine.execIdent line s
  | .openSession line jok => Sys2Proof.Machine.execOpenSession line jok s
  | .chunk line wr bad jok => Sys2Proof.Machine.execChunk line wr bad jok s
  | .finish line jok recOk => Sys2Proof.Machine.execFinish line jok recOk s
  | .porchAbort line => Sys2Proof.Machine.execPorchAbort line s
  | .porchStatus line => Sys2Proof.Machine.execPorchStatus line s
  | .porchActivate line recOk => Sys2Proof.Machine.execPorchActivate line recOk s
  | .sessionLost plan slot => Sys2Proof.Machine.execSessionLost plan slot s
  | .activationEvaluation means => Sys2Proof.Machine.execActivationEvaluation means s
  | .expired recOk => Sys2Proof.Machine.execExpired recOk s
  | .activationPeerReset => Sys2Proof.Machine.execActivationPeerReset s
  | .confirmed recOk vpp vdd => Sys2Proof.Machine.execConfirmed recOk vpp vdd s
  | .reverted recOk => Sys2Proof.Machine.execReverted recOk s
  | .settingReset => Sys2Proof.Machine.execSettingReset s
  | .append r => Sys2Proof.Machine.execAppend r s
  | .bootrec r ok => Sys2Proof.Machine.execBootrec r ok s
  | .groupCommit => Sys2Proof.Machine.execGroupCommit s
  | .compaction stage => Sys2Proof.Machine.execCompaction stage s
  | .cellarTimeout n => Sys2Proof.Machine.execCellarTimeout n s
  | .hbMiss => Sys2Proof.Machine.execHbMiss s
  | .wdt => Sys2Proof.Machine.execWdt s
  | .openPinTest pin moved => Sys2Proof.Machine.execOpenPinTest pin moved s
  | .holdEnd site => Sys2Proof.Machine.execHoldEnd site s
  | .idcode header => Sys2Proof.Machine.execIdcode header s
  | .rdStat header => Sys2Proof.Machine.execRdStat header s
  | .wrAddr header data crc => Sys2Proof.Machine.execWrAddr header data crc s
  | .rdData header => Sys2Proof.Machine.execRdData header s
  | .rdBuf header => Sys2Proof.Machine.execRdBuf header s
  | .wrData header data crc => Sys2Proof.Machine.execWrData header data crc s
  | .dbgAbort header data crc => Sys2Proof.Machine.execDbgAbort header data crc s
  | .chkErr header => Sys2Proof.Machine.execChkErr header s
  | .lineReset => Sys2Proof.Machine.execLineReset s
  | .dbgTimeout => Sys2Proof.Machine.execDbgTimeout s
  | .dbgAccessDone => Sys2Proof.Machine.execDbgAccessDone s
  | .halt c on => Sys2Proof.Machine.execHalt c on s
  | .coreHalt c => Sys2Proof.Machine.execCoreHalt c s
  | .step n => Sys2Proof.Machine.execStep n s
  | .creg w => Sys2Proof.Machine.execCreg w s
  | .dbgReset => Sys2Proof.Machine.execDbgReset s
  | .snap => Sys2Proof.Machine.execSnap s
  | .tick => Sys2Proof.Machine.execTick s
  | .slowClockEdge act => Sys2Proof.Machine.execSlowClockEdge act s
  | .vbusLevelChange p mv => Sys2Proof.Machine.execVbusLevelChange p mv s
  | .vslotinRise b m => Sys2Proof.Machine.execVslotinRise b m s
  | .slotLimitEdge b limit m => Sys2Proof.Machine.execSlotLimitEdge b limit m s
  | .ntcConversion uv => Sys2Proof.Machine.execNtcConversion uv s
  | .vbusInReturn m => Sys2Proof.Machine.execVbusInReturn m s
  | .chargerPeriodStart m => Sys2Proof.Machine.execChargerPeriodStart m s
  | .hlCtsChange n level => Sys2Proof.Machine.execHlCtsChange n level s

end Sys2Proof.Machine
end

