-- ==== Sys2Proof/Safety.lean ====
section
/-! DEFINITION. Safety.lean: what counts as a safe state of a port, of a slot and of the block's fixed parts. -/

namespace Sys2Proof.Machine

/-- The outputs of the port safe state (R37): loop off, switch open, VCONN open. -/
def Room.outputsSafe (r : Room) : Bool := r.loop = lOff && !r.bit SW_STAT_CMD && !r.bit CC_STAT_VCONN_ON

/-- The Room is in an unattached state `st`, or, where a line shows its attach level already, in the state that waits for the
debounce (R137). -/
abbrev Room.waits (r : Room) (st : Nat) : Prop :=
  r.ast = if st = aUnSnk ∧ (r.kind1 = 3 ∨ r.kind2 = 3) then aWaitSnk
    else if st = aUnSrc ∧ (r.kind1 = 2 ∨ r.kind2 = 2) then aWaitSrc else st

/-- The applied Plan is the one that the stored body gives, and that body passes every check of Plan validation (R132). -/
def planOk (pl : Option Plan) (body : List Byte) : Prop :=
  ∀ x, pl = some x → planError body = none ∧ x = planOf body

/-- Both memories of a Room are in canonical form. -/
def Room.memOk (r : Room) : Prop := Store.wf r.data = true ∧ Store.wf r.code = true

/-- What every step keeps: the block has two links, four two-wire target ports, two two-wire controllers, two places for STAGED images and 57 thermal models,
the applied Plan is a valid one, and every memory is in canonical form. -/
structure State.Inv (s : State) : Prop where
  links : s.links.length = 2
  tws : s.tws.length = 4
  tcs : s.tcs.length = 2
  staged : s.porch.staged.length = 2
  models : s.hearth.models.length = 57
  plan : planOk s.plan s.planStore
  rooms : ∀ p, (s.room p).memOk
  hallCode : Store.wf s.hallCode = true
  hallData : Store.wf s.hallData = true
  cellar : Store.wf s.cellar = true

/-- No fuse copy that reads 1 in `x` reads 0 in `y` (R512). -/
def Attic.grows (x y : Attic) : Prop :=
  ∀ w, x.a.get w &&& y.a.get w = x.a.get w ∧ x.b.get w &&& y.b.get w = x.b.get w

/-- What a lane takes from its line is the record `c` of a TYPE (R493, R496). -/
abbrev carries (line : List (BitVec 10)) (type : Nat) (c : StairRec) : Prop := (taken line).bind readBurst = some (type, c)

/-- A Stair record is the next of a link that is up, without mismatch, on a locked lane (R494, R495). -/
def State.takesNext (s : State) (k : Fin 2) (c : StairRec) : Bool :=
  s.paired && (s.pair.lock.getD k.val none).isSome && s.bit PAIR_STAT_LINK_UP && !s.bit PAIR_STAT_DIGEST_MISMATCH && s.pair.eSet &&
  decide (c.seq.toNat = s.fld STAIR_STAT_RX_SEQ)

/-- What a 32-bit read of the register at a place answers and leaves (R9): its word, no error, its RC fields 0. -/
def State.readsInto (s t : State) (l : Loc) : Prop :=
  t.rdata = woMask (fieldsOf l) (s.view l) ∧ t.rerr = false ∧
    ∀ f ∈ fieldsOf l, f.acc = .rc → Regs.fld (t.bank l).1 f = 0

/-- The state but for what the host links hold, where the events of a change are posted, and but for the queue. -/
def State.butLinks (s : State) : State := { s with links := [], pending := [] }

/-- A core is about to execute an instruction outside a repetition, a step of debug and a breakpoint. -/
def State.seqReady (s : State) (c : CoreId) : Bool :=
  s.runs c && decide ((s.core c).rep = 0) && fetchOk c (s.core c).pc.toNat && (s.bkptAt c).isNone && !(s.core c).stepping

/-- The state in which a core's PC has moved on to the next instruction. -/
def State.moved (s : State) (c : CoreId) : State := s.onCoreOf c fun k => { k with pc := k.pc + 4, pass := false }

/-- A command of a link is no repetition of the last one executed (R439). -/
def State.fresh (s : State) (n : Fin 2) (type : Nat) (f : Frame) : Bool :=
  !((s.link n).last.any fun x => x.answers type f)

/-- Link `n` executes a new command that has arrived on its line: the link is idle, and the frame's reserved byte is 0. -/
def State.takes (s : State) (n : Fin 2) (type : Nat) (line : List Byte) (f : Frame) : Bool :=
  decide (typed line type = some f) && s.linkOn n && (s.link n).rx.isEmpty && s.fresh n type f && f.res = 0 &&
    decide (s.links.length = 2)

/-- A reply goes out on the line of link `n`, or waits for its transmitter (R433, R438, R453). -/
def State.says (t : State) (n : Fin 2) (b : List Byte) : Prop := (t.link n).line = wire b ∨ (t.link n).wait = some b

/-- A reply goes out on link `n` and is the stored reply (R438, R439). -/
def State.replied (t : State) (n : Fin 2) (type : Nat) (f : Frame) (payload : List Byte) : Prop :=
  t.says n (replyBytes type f payload) ∧ (t.link n).last = some ⟨f.seq, frameCrc type f, replyBytes type f payload⟩

/-- A new command on the Porch's line is executed: the Porch serves, no repetition, not RETIRED, the reserved byte 0. -/
def State.porchTakes (s : State) (type : Nat) (line : List Byte) (f : Frame) : Bool :=
  decide (typed line type = some f) && s.porchOn && !(s.porch.last.any fun x => x.answers type f) && f.res = 0 && s.fld ATTIC_STAT_LIFECYCLE ≠ 3

/-- The Porch has sent a reply and stored it (R543, R544). -/
def State.porchReplied (t : State) (type : Nat) (f : Frame) (payload : List Byte) : Prop :=
  t.porch.line = wire (replyBytes type f payload) ∧ t.porch.last = some ⟨f.seq, frameCrc type f, replyBytes type f payload⟩

/-- Programming the fuses with nothing in the way (R522): the Attic is idle and no lock, lifecycle, region or range refuses
the command that its registers give. -/
def State.fuseFree (s : State) (op : Nat) : Bool :=
  s.attic.cmd.isNone && !s.fuseLocked (s.fuseCmd op) && !s.lcForbids (s.fuseCmd op) && !s.regionBad (s.fuseCmd op) &&
    !s.rangeBad (s.fuseCmd op)

/-- A debug operation is performed: debug access is enabled, no error is shown and no access is in progress (R612). -/
def State.dbgFree (s : State) : Bool := s.serving && s.debugOn && !s.dbg.err && !s.dbg.chkErr && s.dbg.acc.isNone

/-- The state in which a chunk has been received and stands in the flash, before it is read back (R548, R549). -/
def State.chunkIn (s : State) (x : Session) (b : List Byte) : State :=
  let u := (s.onPorch fun p => { p with buf := b }).eraseFor x x.next
  (x.writes x.next b).foldl (fun s w => { s with cellar := progBytes s.cellar (slotBase x.kind x.slot + w.1) w.2 }) u

end Sys2Proof.Machine
end

