-- ==== Sys2Proof/Frames.lean ====
section
/-! DEFINITION. Frames.lean: what each command may change. A command changes nothing outside its frame. -/

namespace Sys2Proof.Machine

/-- The parts of the state but for Rooms, Landings, Wings, the Hall's registers, the queue, and the links, where the events of
a change are posted. -/
inductive Part where
  | now | freeCtr | clk | chipB | plan | planStore | planDigest | mode | lastExt | hall | hallCode | hallData | hbeatAt | hbMissed | rdata | rerr | hallErr
  | hearth | pair | pantry | lamps | chgGrant | attic | cellar | jnl | fwStore | fwDigest | porch | fwSet | tws | tcs | matchers | dbg | snap
deriving DecidableEq, Repr

/-- A part has the same content in both states. -/
def Part.same (s t : State) : Part → Prop
  | .now => t.now = s.now
  | .freeCtr => t.freeCtr = s.freeCtr
  | .clk => t.clk = s.clk
  | .chipB => t.chipB = s.chipB
  | .plan => t.plan = s.plan
  | .planStore => t.planStore = s.planStore
  | .planDigest => t.planDigest = s.planDigest
  | .mode => t.mode = s.mode
  | .lastExt => t.lastExt = s.lastExt
  | .hall => t.hall = s.hall
  | .hallCode => t.hallCode = s.hallCode
  | .hallData => t.hallData = s.hallData
  | .hbeatAt => t.hbeatAt = s.hbeatAt
  | .hbMissed => t.hbMissed = s.hbMissed
  | .rdata => t.rdata = s.rdata
  | .rerr => t.rerr = s.rerr
  | .hallErr => t.hallErr = s.hallErr
  | .hearth => t.hearth = s.hearth
  | .pair => t.pair = s.pair
  | .pantry => t.pantry = s.pantry
  | .lamps => t.lamps = s.lamps
  | .chgGrant => t.chgGrant = s.chgGrant
  | .attic => t.attic = s.attic
  | .cellar => t.cellar = s.cellar
  | .jnl => t.jnl = s.jnl
  | .fwStore => t.fwStore = s.fwStore
  | .fwDigest => t.fwDigest = s.fwDigest
  | .porch => t.porch = s.porch
  | .fwSet => t.fwSet = s.fwSet
  | .tws => t.tws = s.tws
  | .tcs => t.tcs = s.tcs
  | .matchers => t.matchers = s.matchers
  | .dbg => t.dbg = s.dbg
  | .snap => t.snap = s.snap

/-- The parts of a Room but for its registers. -/
inductive RoomPart where
  | cc | pd | con | conv | core | data | code | safe | slotHold | senseHold | kickAt | restarts | cal | calRej | eoutRem | einRem | epoch | outs
deriving DecidableEq, Repr

def RoomPart.same (r q : Room) : RoomPart → Prop
  | .cc => q.cc = r.cc
  | .pd => q.pd = r.pd
  | .con => q.con = r.con
  | .conv => q.conv = r.conv
  | .core => q.core = r.core
  | .data => q.data = r.data
  | .code => q.code = r.code
  | .safe => q.safe = r.safe
  | .slotHold => q.slotHold = r.slotHold
  | .senseHold => q.senseHold = r.senseHold
  | .kickAt => q.kickAt = r.kickAt
  | .restarts => q.restarts = r.restarts
  | .cal => q.cal = r.cal
  | .calRej => q.calRej = r.calRej
  | .eoutRem => q.eoutRem = r.eoutRem
  | .einRem => q.einRem = r.einRem
  | .epoch => q.epoch = r.epoch
  | .outs => q.outs = r.outs

/-- What a command may change. A list of registers gives their offsets in the bank; without a list, every register may
change. `gang`: the generators of a gang follow their lead at once (R269, R270), so that the pin level and the due period of
other Rooms may change. -/
structure Footprint where
  parts : List Part
  regs : Option (List Nat)
  room : Fin 48 → Bool
  roomParts : List RoomPart
  roomRegs : Option (List Nat)
  land : Fin 6 → Bool
  landRegs : Option (List Nat)
  wing : Fin 2 → Bool
  wingRegs : Option (List Nat)
  gang : Bool

/-- Every register of a bank but those listed keeps its word. -/
def Regs.kept (l : Option (List Nat)) (m n : Regs) : Prop := ∀ x, l = some x → ∀ a, a ∉ x → n.get a = m.get a

/-- A Room as it was, but for the pin level in PWM_STAT and the period that is due. -/
def Room.follows (r q : Room) : Prop :=
  ∃ w d, q = { r with regs := r.regs.set 0x1C8 w, conv := { r.conv with phaseDue := d } }

/-- Nothing outside the frame differs between the two states. -/
structure State.within (f : Footprint) (s t : State) : Prop where
  parts : ∀ k, k ∉ f.parts → Part.same s t k
  regs : Regs.kept f.regs s.regs t.regs
  room : ∀ p, f.room p = false → t.room p = s.room p ∨ (f.gang = true ∧ (s.room p).follows (t.room p))
  roomParts : ∀ p k, k ∉ f.roomParts → (f.gang = true → f.room p = true) → RoomPart.same (s.room p) (t.room p) k
  roomRegs : ∀ p, (f.gang = true → f.room p = true) → Regs.kept f.roomRegs (s.room p).regs (t.room p).regs
  land : ∀ b, f.land b = false → t.land b = s.land b
  landRegs : ∀ b, Regs.kept f.landRegs (s.land b).regs (t.land b).regs
  wing : ∀ w, f.wing w = false → t.wing w = s.wing w
  wingRegs : ∀ w, Regs.kept f.wingRegs (s.wing w).regs (t.wing w).regs

def nowhere {n : Nat} (_ : Fin n) : Bool := false
def anywhere {n : Nat} (_ : Fin n) : Bool := true

/-- The registers of a Room that the end of an attachment, of a contract or of the output writes. -/
def detachRegs : List Nat := [0x8, 0x10, 0x4C, 0x50, 0x54, 0x58, 0x84, 0x8C, 0x90, 0x98, 0x9C, 0xC0, 0xC4, 0xC8,
    0xCC, 0xD0, 0xD4, 0xD8, 0xDC, 0x120, 0x124, 0x128, 0x12C, 0x130, 0x134, 0x138, 0x13C, 0x148, 0x14C, 0x150, 0x154,
    0x160, 0x164, 0x170, 0x1C8, 0x1F8, 0x280, 0x298, 0x398]

/-- The registers of a Room that entering the port safe state writes (R37). -/
def safeRegs : List Nat := [0x8, 0xC, 0x10, 0x4C, 0x50, 0x58, 0x150, 0x1C8, 0x1F8, 0x234, 0x280, 0x294, 0x298]

/-- A command that stays in one Room. -/
def portFrame (p : Fin 48) (parts : List RoomPart) (regs : Option (List Nat)) : Footprint :=
  ⟨[], some [], fun q => q == p, parts, regs, nowhere, some [], nowhere, some [], false⟩
/-- A command that stays in one Landing, and in its Rooms where `rooms` says so. -/
def slotFrame (b : Fin 6) (rooms : Bool) (parts : List RoomPart) (roomRegs regs : Option (List Nat)) : Footprint :=
  ⟨[], some [], fun q => rooms && landOf q == b, parts, roomRegs, fun l => l == b, regs, nowhere, some [], false⟩
/-- A command that stays in one core: its Room, or the Hall core, and the debug registers that show it. -/
def coreFrame (c : CoreId) (parts : List Part) (roomParts : List RoomPart) : Footprint :=
  ⟨parts, some [0x74008, 0x7400C], fun q => c == .room q, roomParts, some [0x8], nowhere, some [], nowhere, some [], false⟩
/-- A command that leaves every Room, Landing and Wing. -/
def hallFrame (parts : List Part) (regs : Option (List Nat)) : Footprint :=
  ⟨parts, regs, nowhere, [], some [], nowhere, some [], nowhere, some [], false⟩

/-- The commands of one port. -/
def portFrames : Instr → Option Footprint
  | .faultRead p => some { portFrame p [] (some [0xC]) with parts := [.rdata, .rerr] }
  | .pdErrcntRead p => some { portFrame p [] (some [0x94]) with parts := [.rdata, .rerr] }
  | .thrCntRead p => some { portFrame p [] (some [0x22C]) with parts := [.rdata, .rerr] }
  | .enableSet p => some (portFrame p [.cc, .pd] (some [0x4, 0x8, 0x4C, 0x50, 0x54, 0x58, 0x90]))
  | .enableClear p => some (portFrame p [.cc, .pd, .con, .conv] (some (detachRegs ++ [0x4, 0x158, 0x234])))
  | .portRemovalEnd p => some (portFrame p [.cc, .conv] (some [0x8, 0x10, 0x150, 0x164, 0x280, 0x298, 0x398]))
  | .forceSafe p _ _ => some { portFrame p [.cc, .pd, .con, .conv, .safe] (some (detachRegs ++ [0x4, 0x234, 0x294]))
    with gang := true }
  | .restartCore p => some { portFrame p [.cc, .pd, .conv, .core, .data, .code, .safe, .kickAt] (some (safeRegs ++
    [0x90, 0x390])) with gang := true }
  | .recover p => some (portFrame p [.cc, .pd, .con, .conv, .safe] (some [0xC, 0x10, 0x4C, 0x50, 0x54, 0x58, 0x84,
    0x8C, 0x90, 0x98, 0x9C, 0xC0, 0xC4, 0xC8, 0xCC, 0xD0, 0xD4, 0xD8, 0xDC, 0x120, 0x124, 0x128, 0x12C, 0x130, 0x134,
    0x138, 0x13C, 0x148, 0x14C, 0x150, 0x154, 0x160, 0x164, 0x170, 0x294, 0x298, 0x398]))
  | .grantAsk p _ => some (portFrame p [.con] (some [0x160, 0x164]))
  | .resvLapse p => some (portFrame p [.con] (some [0x160, 0x164, 0x170]))
  | .ccLevelChange p _ _ | .tccdebounce p | .tpddebounce p | .ttryccdebounce p | .tdrptry p | .terrorrecovery p |
    .drpToggle p | .attemptWindowEnd p | .vbusLevelChange p _ | .vbusLost p => some (portFrame p [.cc, .pd, .con,
    .conv, .safe] (some (detachRegs ++ [0x158, 0x234, 0x294])))
  | .budgetWait p => some (portFrame p [.cc] (some []))
  | .rpLimitLower p => some (portFrame p [.cc] (some [0x148, 0x14C, 0x150, 0x298]))
  | .vconnEnWrite p _ => some (portFrame p [.cc, .pd] (some [0x4C, 0x50, 0x54, 0x58, 0x90]))
  | .vconnOc p _ => some (portFrame p [.cc, .pd] (some [0xC, 0x10, 0x4C, 0x50, 0x58, 0x90]))
  | .ccOv p _ _ | .ovT p | .uvT p | .regLoss p | .efuse p | .foldbackTimeout p | .fetShort p => some { portFrame p
    [.cc, .pd, .conv, .safe] (some (safeRegs ++ [0x90])) with gang := true }
  | .ccIsolationRelease p _ => some (portFrame p [.cc] (some [0x4C, 0x50, 0x58, 0x90]))
  | .errorRecovery p | .goodcrcReceived p _ _ | .treceive p | .tsenderresponse p | .hardReset p | .eprSourceTimeout p
    | .hardResetTransmit p | .hardResetReceived p | .settleFail p | .giveup p | .psRdyTimeout p | .frsTimeout p |
    .vconnSwapTimeout p => some (portFrame p [.cc, .pd, .con, .conv] (some (detachRegs ++ [0x158, 0x234])))
  | .messageReceived p _ _ => some (portFrame p [.cc, .pd, .con, .conv] (some (detachRegs ++ [0x94, 0x158, 0x234])))
  | .packetTruncated p => some (portFrame p [.pd] (some [0x94]))
  | .goodcrc p _ | .eprKeepalive p | .cableResponseTimeout p => some (portFrame p [.pd] (some []))
  | .transmitEnd p | .bistCarrierEnd p | .cableReset p => some (portFrame p [.pd, .con] (some [0x84, 0x98, 0x9C,
    0x148, 0x150, 0x154, 0x170, 0x298]))
  | .messageDelivered p => some (portFrame p [.cc, .pd, .con, .conv, .data] none)
  | .transmitStart p _ => some (portFrame p [.pd, .con] (some [0x4C, 0x84, 0x8C, 0x90, 0x160, 0x164]))
  | .retransmit p _ => some (portFrame p [.pd] (some [0x90]))
  | .chunkRequest p _ | .automaticReply p _ => some (portFrame p [.pd, .con] (some [0x8C, 0x90, 0x160, 0x164]))
  | .tsinktx p => some (portFrame p [] (some [0x90]))
  | .tamsidle p | .amsEnd p | .txRelease p => some (portFrame p [.pd] (some [0x4C, 0x84, 0x90]))
  | .txWithdraw p | .tchunksenderrequest p => some (portFrame p [.pd] (some [0x8C, 0x90]))
  | .rxPop p | .vdmPop p => some (portFrame p [.pd] none)
  | .cableDisc p | .cableDiscoveryStart p => some (portFrame p [.pd, .con] (some [0x84, 0x148, 0x150, 0x154, 0x170,
    0x298]))
  | .hvdmSend p => some (portFrame p [.pd] (some [0x4C, 0x84, 0x8C]))
  | .tchunksenderresponse p | .kaMiss p => some (portFrame p [.pd] (some [0x8C]))
  | .cableDiscoveryAttempt p => some (portFrame p [.pd, .con] (some [0x84, 0x8C, 0x148, 0x150, 0x154, 0x170, 0x298]))
  | .tsrc p => some (portFrame p [.con, .conv] (some [0x8, 0x148, 0x150, 0x158, 0x1F8, 0x234, 0x298]))
  | .referenceReached p => some (portFrame p [.con, .conv] (some [0x148]))
  | .settled p => some (portFrame p [.con] (some [0x10, 0x148, 0x170]))
  | .vsetWrite p _ => some (portFrame p [.con, .conv] (some [0x148, 0x150, 0x158, 0x298]))
  | .vlimRecompute p _ => some (portFrame p [.con] (some [0x148, 0x150, 0x170]))
  | .hardResetVconnOff p => some (portFrame p [.cc, .pd, .con, .conv] (some [0x8, 0x4C, 0x50, 0x58, 0x90, 0x148,
    0x158, 0x1F8, 0x234]))
  | .hardResetVbusSafe0 p => some (portFrame p [.con] (some [0x148]))
  | .tsrcrecover p => some (portFrame p [.cc, .pd, .con, .conv] (some [0x8, 0x4C, 0x50, 0x58, 0x90, 0x148, 0x150,
    0x158, 0x1F8, 0x234, 0x280, 0x298]))
  | .hardResetEnd p => some (portFrame p [.cc, .con, .conv] (some [0x8, 0x84, 0x148, 0x150, 0x158, 0x1F8, 0x234,
    0x280, 0x298]))
  | .prSwapVbusSafe0 p => some (portFrame p [.cc, .pd, .con, .conv] (some [0x8, 0x4C, 0x50, 0x54, 0x58, 0x90, 0x148,
    0x14C, 0x150, 0x1C8, 0x1F8, 0x234, 0x298]))
  | .trig p | .frsInputTrigger p => some (portFrame p [.cc, .con, .conv] (some [0x8, 0x4C, 0x50, 0x58, 0x90, 0x148,
    0x170, 0x1C8, 0x1F8, 0x234]))
  | .frsSignalEnd p => some (portFrame p [.cc, .con] (some [0x4C, 0x50, 0x58, 0x90, 0x148]))
  | .frsDetect p => some (portFrame p [.cc, .con, .conv] (some [0x148, 0x150, 0x160, 0x164, 0x170, 0x298]))
  | .frsVbusDrop p => some (portFrame p [.con, .conv] (some [0x8, 0x148, 0x150, 0x158, 0x1F8, 0x298]))
  | .periodStart p => some ⟨[.pair], (some [0x60020, 0x60024]), (fun q => landOf q == landOf p), [.conv], (some [0x8,
    0x148, 0x158, 0x1C8, 0x1D0, 0x1D4, 0x1D8, 0x1DC, 0x1E0, 0x1E4, 0x1E8, 0x1F8, 0x220, 0x224, 0x228, 0x234]),
    nowhere, (some []), nowhere, (some []), true⟩
  | .loopUpdate p _ _ _ _ _ _ => some (portFrame p [.cc, .con, .conv] (some [0x148, 0x1C8, 0x1F8, 0x200, 0x204,
    0x208, 0x224, 0x234, 0x280]))
  | .softStartDone p => some (portFrame p [.conv] (some [0x8, 0x148, 0x1F8, 0x234]))
  | .softStopDone p => some (portFrame p [.conv] (some [0x8, 0x148, 0x150, 0x158, 0x1C8, 0x1F8, 0x234, 0x280,
    0x298]))
  | .coefApply p => some (portFrame p [.conv] (some []))
  | .thresholdTrip p _ _ _ => some ⟨[], (some []), (fun q => landOf q == landOf p), [.conv], (some [0x8, 0x1C8,
    0x224, 0x280]), nowhere, (some []), nowhere, (some []), false⟩
  | .thresholdLatch p _ _ => some ⟨[], (some []), anywhere, [.cc, .pd, .conv, .safe], (some (safeRegs ++ [0x90,
    0x228, 0x22C])), nowhere, (some []), nowhere, (some []), false⟩
  | .coldClose p => some (portFrame p [.conv] (some [0x280]))
  | .retryCountReset p => some (portFrame p [.conv] (some [0x294]))
  | .extCopyDone p => some (portFrame p [.core] (some []))
  | .hold p _ => some { portFrame p [.cc, .pd, .conv, .core, .data, .code, .safe, .kickAt] (some (safeRegs ++ [0x90,
    0x380, 0x390])) with gang := true }
  | .doorbell p _ | .dbAck p _ => some (portFrame p [] (some [0x39C]))
  | _ => none

/-- The commands of one slot and of one Landing. -/
def slotFrames : Instr → Option Footprint
  | .hsFaultRead b => some { slotFrame b false [] (some []) (some [0x60]) with parts := [.rdata, .rerr] }
  | .landFaultRead b => some { slotFrame b false [] (some []) (some [0x148]) with parts := [.rdata, .rerr] }
  | .landingShedStep b => some { slotFrame b true [.cc, .pd, .con, .conv, .safe, .slotHold] (some (detachRegs ++
    [0xC, 0x234, 0x294])) (some [0x50, 0x64]) with gang := true }
  | .seatChange b _ _ => some { slotFrame b true [.cc, .pd, .con, .conv, .slotHold] (some (detachRegs ++ [0x234]))
    (some [0x50, 0x64]) with gang := true }
  | .tseat b _ | .gateUp b _ | .slotOn b _ | .vslotinRise b _ => some { slotFrame b true [.cc, .pd, .con, .conv,
    .slotHold] (some (detachRegs ++ [0x234])) (some [0x50, 0x58, 0x5C, 0x64]) with gang := true }
  | .slotAttempt b _ => some ⟨[.hearth, .chgGrant], (some [0x30008, 0x30018]), (fun q => landOf q == b), [.cc, .pd,
    .con, .conv, .slotHold], (some (detachRegs ++ [0x158, 0x234, 0x2C0, 0x2C4])), (fun l => l == b), (some [0x50,
    0x58, 0x5C, 0x64]), nowhere, (some []), true⟩
  | .seatLift b _ _ | .inrushTo b | .short b _ | .breaker b => some { slotFrame b true [.cc, .pd, .con, .conv,
    .slotHold] (some (detachRegs ++ [0x234])) (some [0x50, 0x60, 0x64]) with gang := true }
  | .pgLoss b _ => some { slotFrame b true [.cc, .pd, .conv, .safe] (some (safeRegs ++ [0x90])) (some [0x50, 0x58,
    0x5C, 0x60, 0x64]) with gang := true }
  | .slotFetShort b _ | .hsRecover b _ => some { slotFrame b true [.cc, .pd, .con, .conv, .slotHold] (some
    (detachRegs ++ [0x234])) (some [0x50, 0x58, 0x5C, 0x60, 0x64]) with gang := true }
  | .slotAttemptOk b => some (slotFrame b false [] (some []) (some [0x64]))
  | .slotCountReset b => some (slotFrame b false [] (some []) (some [0x50]))
  | .hsEnSet b | .hsEnClear b => some { slotFrame b true [.cc, .pd, .con, .conv, .slotHold] (some (detachRegs ++
    [0x234])) (some [0x40, 0x50, 0x64]) with gang := true }
  | .hsLimitWrite b _ => some (slotFrame b false [] (some []) (some [0x44, 0x50, 0x54]))
  | .slotLimitEdge b _ _ => some (slotFrame b false [] (some []) (some [0x50, 0x58, 0x5C, 0x64]))
  | _ => none

/-- The instructions of a core, its events and its control by debug. -/
def coreFrames : Instr → Option Footprint
  | .commit p _ _ => some ⟨[.hall], (some [0x74008, 0x7400C]), (fun q => q == p), [.pd, .con, .core], (some [0x8,
    0x4C, 0x84, 0x8C, 0x90, 0x100, 0x104, 0x108, 0x10C, 0x110, 0x114, 0x118, 0x11C, 0x140, 0x144, 0x148, 0x160,
    0x164, 0x170]), nowhere, (some []), nowhere, (some []), false⟩
  | .discard p _ _ => some ⟨[.hall], (some [0x74008, 0x7400C]), (fun q => q == p), [.core], (some [0x8]), nowhere,
    (some []), nowhere, (some []), false⟩
  | .add c _ _ _ _ | .sub c _ _ _ _ | .and c _ _ _ _ | .or c _ _ _ _ | .xor c _ _ _ _ | .sll c _ _ _ _ | .srl c _ _ _
    _ | .sra c _ _ _ _ | .mul c _ _ _ _ | .mulh c _ _ _ _ | .mulhu c _ _ _ _ | .divu c _ _ _ _ | .remu c _ _ _ _ |
    .minu c _ _ _ _ | .maxu c _ _ _ _ | .addi c _ _ _ | .andi c _ _ _ | .ori c _ _ _ | .xori c _ _ _ | .slli c _ _ _
    | .srli c _ _ _ | .srai c _ _ _ | .lui c _ _ | .ceq c _ _ _ _ | .cne c _ _ _ _ | .clt c _ _ _ _ | .cltu c _ _ _ _
    | .cge c _ _ _ _ | .cgeu c _ _ _ _ | .ceqi c _ _ _ | .cnei c _ _ _ | .clti c _ _ _ | .cltui c _ _ _ | .cgei c _ _
    _ | .cgeui c _ _ _ | .bz c _ _ | .bnz c _ _ | .jal c _ _ | .jalr c _ _ _ | .rpt c _ _ _ | .rptr c _ _ _ | .rptu c
    _ _ _ | .wait c _ _ _ | .evret c _ _ _ | .sync c _ _ _ | .mts c _ _ _ | .brk c _ _ _ | .eventEntry c | .coreHalt
    c => some (coreFrame c [.hall] [.core])
  | .mfs c _ _ _ => some (coreFrame c [.freeCtr, .hall] [.core])
  | .hbeat c _ _ _ => some (coreFrame c [.hall, .hbeatAt, .hbMissed] [.core])
  | .halt c _ => some (coreFrame c [.hall, .hbeatAt, .hbMissed] [.core, .kickAt])
  | .step _ => some ⟨[.hall, .dbg], (some []), anywhere, [.core], (some []), nowhere, (some []), nowhere, (some []),
    false⟩
  | _ => none

/-- The commands of the Hall and of its blocks that leave every Room, Landing and Wing. -/
def hallFrames : Instr → Option Footprint
  | .pantryFaultRead => some (hallFrame [.rdata, .rerr] (some [0x50034]))
  | .resetCauseRead => some (hallFrame [.rdata, .rerr] (some [0x9C]))
  | .wakeCauseRead => some (hallFrame [.rdata, .rerr] (some [0x94]))
  | .pwrStatRead => some (hallFrame [.rdata, .rerr] (some [0x8C]))
  | .hallModeRead => some (hallFrame [.mode, .rdata, .rerr] (some [0x40]))
  | .hlErrRead _ => some (hallFrame [.rdata, .rerr] (some [0x7000C, 0x7010C, 0x72008]))
  | .twErrRead n => some (hallFrame [.rdata, .rerr] (some [0x71010 + 0x40 * n.val]))
  | .stairErrRead => some (hallFrame [.rdata, .rerr] (some [0x60010]))
  | .atticResultRead => some (hallFrame [.rdata, .rerr] (some [0x40014]))
  | .jnlResultRead => some (hallFrame [.rdata, .rerr] (some [0x73010]))
  | .tbCtrlRead => some (hallFrame [.rdata, .rerr] (some [0x10C]))
  | .hbStatRead => some (hallFrame [.rdata, .rerr] (some [0x54]))
  | .hallModeWrite _ _ => some (hallFrame [.mode, .rerr, .hallErr] (some [0x40, 0x44, 0x48]))
  | .fireN => some (hallFrame [.mode] (some [0x40, 0x44, 0x48, 0x4C]))
  | .fireNRelease => some (hallFrame [] (some [0x4C]))
  | .slowXtalSelect => some (hallFrame [] (some [0x80]))
  | .slowSwitch => some (hallFrame [.clk] (some [0x80, 0x94]))
  | .rcCalibration _ => some (hallFrame [.clk] (some [0x80, 0x118]))
  | .chipResetEnd _ _ _ _ _ _ => some (hallFrame [.clk, .chipB] (some [0x100, 0x104, 0x60004]))
  | .xtalOk | .slowClockEdge _ => some (hallFrame [.clk] (some [0x80]))
  | .reqRun | .reqDoze | .reqSleep _ | .reqStandby _ => some (hallFrame [.clk] (some [0x88, 0x8C]))
  | .planRdDataRead => some (hallFrame [.rdata, .rerr] (some [0x290]))
  | .fwRdDataRead => some (hallFrame [.rdata, .rerr] (some [0x40050]))
  | .celRdDataRead => some (hallFrame [.rdata, .rerr] (some [0x7303C, 0x73040]))
  | .cableResetReceived _ | .eventSend _ | .eventResend _ => some (hallFrame [] (some []))
  | .tambConversion _ _ => some (hallFrame [.hearth] (some [0x30004, 0x30008, 0x3001C]))
  | .idRevTrip _ | .vbusInReturn _ => some (hallFrame [.pantry] (some [0x50020, 0x50024, 0x50028]))
  | .batteryMode => some (hallFrame [.mode, .pantry] (some [0x40, 0x44, 0x48]))
  | .batteryOperationEnd _ => some (hallFrame [.mode, .pantry, .chgGrant] (some [0x40, 0x44, 0x48, 0x50020, 0x50024,
    0x50028, 0x50030, 0x50038]))
  | .cutoff _ => some (hallFrame [.pantry] (some [0x50020, 0x50034, 0x50038]))
  | .batPresChange _ | .qualification _ | .preTimeout | .safetyTmr | .chgOv => some (hallFrame [.pantry, .chgGrant]
    (some [0x50020, 0x50030, 0x50034, 0x50038]))
  | .presStable | .ndvWindow _ | .start => some (hallFrame [.pantry, .chgGrant] (some [0x50020, 0x50030, 0x50038]))
  | .prechargeDone _ | .pause _ | .restart _ => some (hallFrame [.pantry, .chgGrant] (some [0x50020, 0x50024,
    0x50028, 0x50030, 0x50038]))
  | .dtdtEvaluation _ => some (hallFrame [.pantry, .chgGrant] (some [0x50020, 0x5002C, 0x50030, 0x50038]))
  | .budgetPauseRetry | .pPkTrip _ => some (hallFrame [.pantry] (some []))
  | .pOvTrip => some (hallFrame [.pantry] (some [0x50020]))
  | .panEnWrite _ => some (hallFrame [.pantry, .chgGrant] (some [0x50000, 0x50020, 0x50030, 0x50038]))
  | .lampSlot => some (hallFrame [.lamps] (some []))
  | .load => some (hallFrame [.clk] (some [0x10C]))
  | .snapTrig | .snapIoEdge _ | .snap => some (hallFrame [.snap] (some [0x140]))
  | .snapIoRelease => some (hallFrame [.snap] (some []))
  | .subscribe n _ => some (hallFrame [.freeCtr] (some [0x7001C, 0x70020, 0x70024, 0x70000 + 0x100 * n.val, 0x7001C +
    0x100 * n.val, 0x70020 + 0x100 * n.val, 0x70024 + 0x100 * n.val, 0x7000C + 0x100 * n.val]))
  | .hlActivate n _ _ _ => some (hallFrame [.freeCtr, .cellar, .porch] (some [0x70224, 0x7201C, 0x72020, 0x72024,
    0x73004, 0x70000 + 0x100 * n.val, 0x7000C + 0x100 * n.val]))
  | .ack n _ | .ping n _ => some (hallFrame [.freeCtr] (some [0x7000C + 0x100 * n.val]))
  | .timeout _ => some (hallFrame [.freeCtr] (some []))
  | .unknownType _ _ => some (hallFrame [.porch] (some [0x7000C, 0x7010C]))
  | .frameDiscard _ _ _ _ | .frameAbort _ _ _ => some (hallFrame [] (some [0x7000C, 0x7010C, 0x72008]))
  | .go => some (hallFrame [] (some [0x70224]))
  | .twTimeout n _ => some (hallFrame [.tws] (some [0x7100C, 0x71010, 0x71000 + 0x40 * n.val, 0x7100C + 0x40 * n.val,
    0x71010 + 0x40 * n.val]))
  | .twBusError n _ => some (hallFrame [.tws] (some [0x7100C, 0x71010, 0x7100C + 0x40 * n.val, 0x71010 + 0x40 *
    n.val]))
  | .tcGo m => some (hallFrame [.tcs] (some [0x71108, 0x71100 + 0x40 * m.val, 0x71108 + 0x40 * m.val]))
  | .tcDone m _ _ _ => some (hallFrame [] (some [0x71108, 0x71104 + 0x40 * m.val, 0x71108 + 0x40 * m.val, 0x71110 +
    0x40 * m.val + 0, 0x71110 + 0x40 * m.val + 4, 0x71110 + 0x40 * m.val + 8, 0x71110 + 0x40 * m.val + 12, 0x71110 +
    0x40 * m.val + 16, 0x71110 + 0x40 * m.val + 20, 0x71110 + 0x40 * m.val + 24, 0x71110 + 0x40 * m.val + 28]))
  | .program _ _ _ | .margin _ | .advance _ _ _ | .lifecycle _ _ _ => some (hallFrame [.rerr, .hallErr, .attic] (some
    [0x40000, 0x40014]))
  | .progSecret _ _ _ => some (hallFrame [.rerr, .hallErr, .attic] (some [0x40000, 0x40014, 0x40020, 0x40024,
    0x40028, 0x4002C, 0x40030, 0x40034, 0x40038, 0x4003C]))
  | .atticCommandDone _ _ => some (hallFrame [.attic] (some [0x40000, 0x40014, 0x40018, 0x4001C, 0x40020, 0x40024,
    0x40028, 0x4002C, 0x40030, 0x40034, 0x40038, 0x4003C]))
  | .verify | .verifyDone => some (hallFrame [.attic] (some [0x40058]))
  | .ident _ | .porchStatus _ => some (hallFrame [.freeCtr, .porch] (some []))
  | .openSession _ _ | .sessionLost _ _ => some (hallFrame [.freeCtr, .cellar, .jnl, .porch] (some [0x70224, 0x72004,
    0x7200C, 0x72010, 0x7201C, 0x73028, 0x7302C, 0x73030, 0x73034, 0x73038]))
  | .chunk _ _ _ _ => some (hallFrame [.freeCtr, .attic, .cellar, .jnl, .porch] (some [0x40058, 0x72004, 0x7200C,
    0x72010, 0x72014, 0x73028, 0x7302C, 0x73030, 0x73034, 0x73038]))
  | .porchAbort _ => some (hallFrame [.freeCtr, .cellar, .jnl, .porch] (some [0x72004, 0x7200C, 0x72010, 0x7201C,
    0x73028, 0x7302C, 0x73030, 0x73034, 0x73038]))
  | .porchActivate _ _ | .expired _ => some (hallFrame [.freeCtr, .cellar, .porch] (some [0x70224, 0x7201C, 0x72020,
    0x72024, 0x73004]))
  | .settingReset => some (hallFrame [.freeCtr, .cellar, .jnl, .porch] (some [0x70224, 0x73028, 0x7302C, 0x73030,
    0x73034, 0x73038]))
  | .append _ => some (hallFrame [.rerr, .hallErr, .jnl] (some [0x73010]))
  | .bootrec _ _ => some (hallFrame [.freeCtr, .rerr, .hallErr, .cellar] (some [0x73004, 0x73010]))
  | .groupCommit | .cellarTimeout _ => some (hallFrame [.freeCtr, .cellar, .jnl] (some [0x73010, 0x73028, 0x7302C,
    0x73030, 0x73034, 0x73038]))
  | .compaction _ => some (hallFrame [.cellar, .jnl] (some [0x73004, 0x73028, 0x7302C, 0x73030, 0x73034, 0x73038]))
  | .idcode _ | .rdStat _ | .rdBuf _ | .dbgAbort _ _ _ | .chkErr _ | .lineReset | .dbgTimeout => some (hallFrame
    [.dbg] (some []))
  | .wrAddr _ _ _ | .rdData _ | .wrData _ _ _ => some (hallFrame [.dbg] (some [0x74040]))
  | .ntcConversion _ => some (hallFrame [.freeCtr, .pantry, .chgGrant] (some [0x50020, 0x5002C, 0x50030, 0x50034,
    0x50038]))
  | .chargerPeriodStart _ => some (hallFrame [.freeCtr, .pantry] (some [0x50020, 0x50024, 0x50028]))
  | .hlCtsChange n _ => some (hallFrame [] (some [0x70008, 0x70000 + 0x100 * n.val, 0x70008 + 0x100 * n.val]))
  | _ => none

/-- TICK where no command waits in a receive buffer, whose execution the tick starts. -/
def tickFrame : Footprint :=
  ⟨[.now, .clk, .pantry, .porch, .jnl, .cellar], none, anywhere, [.conv, .outs], none, anywhere, none, nowhere, (some []), false⟩

/-- The commands that reach several Rooms, Landings or Wings. -/
def wideFrames : Instr → Option Footprint
  | .grantAnswer p | .attachGrant p | .chargerGrant => some ⟨[.pantry, .chgGrant], (some [0x50020]), anywhere, [.cc,
    .pd, .con, .conv], (some [0x8, 0x10, 0x4C, 0x50, 0x54, 0x58, 0x84, 0x90, 0x148, 0x14C, 0x150, 0x158, 0x160,
    0x164, 0x170, 0x1F8, 0x234, 0x280, 0x298, 0x398]), nowhere, (some []), nowhere, (some []), false⟩
  | .wingFaultRead w _ => some ⟨[.rdata, .rerr], (some []), nowhere, [], (some []), nowhere, (some []), (fun x => x
    == w), (some [0x100, 0x108]), false⟩
  | .subwordRead _ _ _ => some ⟨[.mode, .lastExt, .rdata, .rerr, .hallErr], none, anywhere, [], none, anywhere, none,
    anywhere, none, false⟩
  | .budgetLimitWrite _ _ _ => some ⟨[.rerr, .chgGrant], none, anywhere, [.cc, .pd, .con, .conv], none, anywhere,
    none, anywhere, none, false⟩
  | .coreWdt _ | .coreKick _ _ => some ⟨[.pair, .pantry], (some [0x60004, 0x60008, 0x6001C]), anywhere, [.cc, .pd,
    .con, .conv, .core, .data, .code, .safe, .slotHold, .kickAt, .restarts], (some (detachRegs ++ [0xC, 0x234, 0x294,
    0x390])), anywhere, (some [0x50, 0x64, 0x144, 0x148]), anywhere, (some [0x100]), false⟩
  | .adcCalibration _ _ _ _ => some ⟨[], (some []), anywhere, [.conv, .senseHold, .cal, .calRej], (some [0xC, 0x10,
    0x150, 0x298]), anywhere, (some [0x14C]), anywhere, (some [0x108]), false⟩
  | .landingFault _ _ | .openPinTest _ _ => some ⟨[.pair, .pantry], (some [0x60004, 0x60008, 0x6001C]), anywhere,
    [.cc, .pd, .con, .conv, .safe, .slotHold, .senseHold], (some (detachRegs ++ [0xC, 0x234, 0x294])), anywhere,
    (some [0x50, 0x60, 0x64, 0x148, 0x14C]), anywhere, (some [0x100]), false⟩
  | .landingSelfCheck _ | .parity _ => some ⟨[.pair, .pantry], (some [0x60004, 0x60008, 0x6001C]), anywhere, [.cc,
    .pd, .con, .conv, .safe, .slotHold], (some (detachRegs ++ [0xC, 0x234, 0x294])), anywhere, (some [0x50, 0x64,
    0x148]), anywhere, (some [0x100]), false⟩
  | .wingWatchdog _ _ => some ⟨[.pair, .pantry], (some [0x60004, 0x60008, 0x6001C]), anywhere, [.cc, .pd, .con,
    .conv, .safe, .slotHold], (some (detachRegs ++ [0xC, 0x234, 0x294])), anywhere, (some [0x50, 0x64]), anywhere,
    (some [0x100]), false⟩
  | .wingSafeDelay _ => some ⟨[], (some []), anywhere, [.cc, .pd, .con, .conv, .safe, .slotHold], (some (detachRegs
    ++ [0xC, 0x234, 0x294])), anywhere, (some [0x50, 0x64]), anywhere, (some []), false⟩
  | .wingRestart _ => some ⟨[.pair], (some []), anywhere, [.cc, .pd, .con, .conv, .slotHold, .calRej], (some
    (detachRegs ++ [0x234])), anywhere, (some [0x50, 0x64]), anywhere, (some []), false⟩
  | .modeApply p => some ⟨[.mode], (some [0x40, 0x44, 0x48]), (fun q => q == p), [.cc, .pd, .con, .conv, .epoch],
    (some (detachRegs ++ [0x158, 0x234])), nowhere, (some []), nowhere, (some []), false⟩
  | .forcedMode b => some ⟨[.mode], (some [0x40, 0x44, 0x48]), (fun q => landOf q == b), [.cc, .pd, .con, .conv,
    .epoch], (some (detachRegs ++ [0xC, 0x158, 0x234])), nowhere, (some []), nowhere, (some []), false⟩
  | .clockFailure _ => some ⟨[.clk, .pair, .pantry], (some [0x80, 0x60004, 0x60008]), anywhere, [.cc, .pd, .con,
    .conv, .safe, .slotHold], (some (detachRegs ++ [0xC, 0x234, 0x294])), anywhere, (some [0x50, 0x64]), nowhere,
    (some []), false⟩
  | .wakeN | .ccSamplingWindow _ | .keyWake | .alarm | .fireWake | .hlWake _ | .porchWake => some ⟨[.clk], (some
    [0x88, 0x8C, 0x94]), anywhere, [.cc, .pd, .con, .conv, .slotHold], (some (detachRegs ++ [0x234])), anywhere,
    (some [0x50, 0x64]), nowhere, (some []), false⟩
  | .sleepWake => some ⟨[.clk], (some [0x88, 0x8C, 0x100, 0x104]), anywhere, [.cc, .pd, .con, .conv, .slotHold],
    (some (detachRegs ++ [0x234])), anywhere, (some [0x50, 0x64]), nowhere, (some []), false⟩
  | .retryAttempt _ => some ⟨[.hearth, .chgGrant], (some [0x30008, 0x30018]), anywhere, [.cc, .pd, .con, .conv],
    (some (detachRegs ++ [0x158, 0x224, 0x234, 0x294, 0x2C0, 0x2C4])), nowhere, (some []), nowhere, (some []), false⟩
  | .hearthUpdate _ | .grace _ => some ⟨[.hearth, .pair, .pantry, .chgGrant], (some [0x30008, 0x30018, 0x3001C,
    0x50034, 0x50038, 0x60004, 0x60008]), anywhere, [.cc, .pd, .con, .conv, .safe, .slotHold], (some (detachRegs ++
    [0xC, 0x158, 0x234, 0x294, 0x2C0, 0x2C4])), anywhere, (some [0x50, 0x60, 0x64]), nowhere, (some []), false⟩
  | .ithRecompute _ | .clampRelease _ | .dieCapRelease => some ⟨[.hearth, .chgGrant], (some [0x30008, 0x30018]),
    anywhere, [.cc, .pd, .con, .conv], (some (detachRegs ++ [0x158, 0x234, 0x2C0, 0x2C4])), nowhere, (some []),
    nowhere, (some []), false⟩
  | .powerBalanceCheck _ _ _ => some ⟨[.pair, .pantry], (some [0x60004, 0x60008, 0x6001C]), anywhere, [.cc, .pd,
    .con, .conv, .safe, .slotHold, .senseHold], (some (detachRegs ++ [0xC, 0x234, 0x294])), anywhere, (some [0xC,
    0x50, 0x64, 0xCC, 0xD4, 0x148, 0x14C]), anywhere, (some [0x100]), false⟩
  | .qidOn _ | .batteryOperationBegin _ => some ⟨[.pantry, .chgGrant], (some [0x50020, 0x50024, 0x50028, 0x50038]),
    anywhere, [.cc, .pd, .con, .conv], (some (detachRegs ++ [0x158, 0x234])), nowhere, (some []), nowhere, (some []),
    false⟩
  | .batLow _ => some ⟨[.pantry, .chgGrant], (some [0x50020, 0x50038]), anywhere, [.cc, .pd, .con, .conv], (some
    (detachRegs ++ [0x158, 0x234])), nowhere, (some []), nowhere, (some []), false⟩
  | .lb _ _ _ _ | .lbu _ _ _ _ | .lh _ _ _ _ | .lhu _ _ _ _ | .lw _ _ _ _ | .lwp _ _ _ _ => some ⟨[.mode, .lastExt,
    .hall, .rdata, .rerr, .hallErr], none, anywhere, [.core], none, anywhere, none, anywhere, none, false⟩
  | .timerFire k _ => some ⟨[], (some []), (fun q => k == .room q), [], none, (fun l => k == .land l), none, nowhere,
    (some []), false⟩
  | .tmrCtrlWrite _ _ _ | .tmrCmpWrite _ _ _ | .tmrCntWrite _ _ _ => some ⟨[], none, anywhere, [], none, anywhere,
    none, anywhere, none, false⟩
  | .energyUpdate => some ⟨[], (some []), anywhere, [.eoutRem, .einRem], (some [0x3C0, 0x3C4, 0x3C8, 0x3CC]),
    nowhere, (some []), nowhere, (some []), false⟩
  | .capture => some ⟨[.snap], none, anywhere, [], none, anywhere, none, anywhere, none, false⟩
  | .hlRead _ _ | .bulkRead _ _ _ => some ⟨[.freeCtr, .mode, .lastExt, .rdata, .rerr, .hallErr], none, anywhere, [],
    none, anywhere, none, anywhere, none, false⟩
  | .snapshot _ _ => some ⟨[.freeCtr, .snap], none, anywhere, [], none, anywhere, none, anywhere, none, false⟩
  | .twReadTransaction _ (some _) _ => some ⟨[.mode, .lastExt, .rdata, .rerr, .hallErr, .tws], none, anywhere, [],
    none, anywhere, none, anywhere, none, false⟩
  | .twAddressMatchWake _ _ => some ⟨[.clk, .tws], (some [0x88, 0x8C, 0x94]), anywhere, [.cc, .pd, .con, .conv,
    .slotHold], (some (detachRegs ++ [0x234])), anywhere, (some [0x50, 0x64]), nowhere, (some []), false⟩
  | .heartbeatSend | .keyInChange _ | .takeover => some ⟨[.pair, .pantry], (some [0x60004, 0x60008, 0x60014, 0x60018,
    0x6001C]), anywhere, [], (some [0x8, 0x10]), nowhere, (some []), nowhere, (some []), false⟩
  | .heartbeatPulse _ | .contention _ | .peerNoYield _ | .hbOutFault => some ⟨[.pair, .pantry], (some [0x60004,
    0x60008, 0x60014, 0x60018, 0x6001C]), anywhere, [.cc, .pd, .conv, .safe], (some (safeRegs ++ [0x84, 0x8C,
    0x90])), anywhere, (some []), nowhere, (some []), false⟩
  | .peerLost => some ⟨[.pair, .pantry], (some [0x60004, 0x60014, 0x60018, 0x6001C]), anywhere, [], (some [0x8,
    0x10]), nowhere, (some []), nowhere, (some []), false⟩
  | .pairResync | .linkUp | .linkDown | .frameSend | .recordSend _ _ _ | .recordResend _ _ _ | .statusSend |
    .digestSend | .statusLoss => some ⟨[.pair], (some [0x60004, 0x60014, 0x60018, 0x6001C]), anywhere, [], (some
    [0x8, 0x10]), nowhere, (some []), nowhere, (some []), false⟩
  | .claimStartA | .claimStartB => some ⟨[.pair, .pantry], (some [0x60004, 0x60008, 0x60014, 0x60018, 0x6001C]),
    anywhere, [.cc, .pd, .con, .conv, .slotHold], (some (detachRegs ++ [0x4, 0x234])), anywhere, (some [0x50, 0x64]),
    nowhere, (some []), false⟩
  | .claimGuardEnd => some ⟨[.pair, .pantry], (some [0x60004, 0x60014, 0x60018, 0x6001C, 0x60020, 0x60024]),
    anywhere, [.cc, .pd, .con, .conv], (some (detachRegs ++ [0x158, 0x234])), anywhere, (some []), nowhere, (some
    []), false⟩
  | .release _ => some ⟨[.pair, .pantry], (some [0x60000, 0x60004, 0x60008, 0x60014, 0x60018, 0x6001C]), anywhere,
    [.cc, .pd, .conv, .safe], (some (safeRegs ++ [0x84, 0x8C, 0x90])), anywhere, (some []), nowhere, (some []),
    false⟩
  | .keyInStuck => some ⟨[], (some [0x60004, 0x60014, 0x60018, 0x6001C]), anywhere, [], (some [0x8, 0x10]), nowhere,
    (some []), nowhere, (some []), false⟩
  | .driveConflict _ => some ⟨[], (some [0x60004, 0x60014, 0x60018, 0x6001C]), anywhere, [.cc, .pd, .con, .conv,
    .safe, .slotHold], (some (detachRegs ++ [0xC, 0x234, 0x294])), anywhere, (some [0x50, 0x64]), nowhere, (some []),
    false⟩
  | .laneLock _ => some ⟨[.pair], (some [0x60004, 0x6000C, 0x60014, 0x60018, 0x6001C]), anywhere, [], (some [0x8,
    0x10]), nowhere, (some []), nowhere, (some []), false⟩
  | .laneLockLoss _ _ | .stairResync _ _ => some ⟨[.pair], (some [0x60004, 0x6000C, 0x60010, 0x60014, 0x60018,
    0x6001C]), anywhere, [], (some [0x8, 0x10]), nowhere, (some []), nowhere, (some []), false⟩
  | .stairFrame _ _ => some ⟨[.pair], (some [0x100, 0x104, 0x60004, 0x6000C, 0x60010, 0x60014, 0x60018, 0x6001C]),
    anywhere, [], (some [0x8, 0x10]), nowhere, (some []), nowhere, (some []), false⟩
  | .stairLoop _ _ => some ⟨[.pair], (some [0x60004, 0x6000C, 0x60010, 0x60014, 0x60018, 0x6001C]), anywhere, [],
    (some [0x8, 0x10]), anywhere, (some []), nowhere, (some []), false⟩
  | .stairRoom _ _ => some ⟨[.hearth, .pair], (some [0x60004, 0x6000C, 0x60010, 0x60014, 0x60018, 0x6001C]),
    anywhere, [.cc, .pd, .con, .conv, .safe, .slotHold], none, nowhere, (some []), nowhere, (some []), false⟩
  | .stairSlot _ _ => some ⟨[.pair], (some [0x60004, 0x6000C, 0x60010, 0x60014, 0x60018, 0x6001C]), anywhere,
    [.slotHold], (some [0x8, 0x10]), anywhere, none, nowhere, (some []), false⟩
  | .stairTimer _ _ => some ⟨[.pair], (some [0x60004, 0x6000C, 0x60010, 0x60014, 0x60018, 0x6001C]), anywhere, [],
    none, anywhere, none, nowhere, (some []), false⟩
  | .stairHearth _ _ => some ⟨[.hearth, .pair], (some [0x30008, 0x30018, 0x60004, 0x6000C, 0x60010, 0x60014, 0x60018,
    0x6001C]), anywhere, [], (some [0x8, 0x10, 0x2C0, 0x2C4]), nowhere, (some []), nowhere, (some []), false⟩
  | .stairEnergy _ _ => some ⟨[.pair], (some [0x60004, 0x6000C, 0x60010, 0x60014, 0x60018, 0x6001C]), anywhere, [],
    (some [0x8, 0x10, 0x3C0, 0x3C4, 0x3C8, 0x3CC]), nowhere, (some []), nowhere, (some []), false⟩
  | .stairHall _ _ => some ⟨[.mode, .pair, .pantry], none, anywhere, [], (some [0x8, 0x10]), nowhere, (some []),
    anywhere, none, false⟩
  | .stairPantry _ _ => some ⟨[.pair, .pantry, .chgGrant], (some [0x50020, 0x50030, 0x60004, 0x6000C, 0x60010,
    0x60014, 0x60018, 0x6001C]), anywhere, [], (some [0x8, 0x10]), nowhere, (some []), nowhere, (some []), false⟩
  | .stairStatus _ _ => some ⟨[.pair, .pantry], (some [0x60004, 0x60008, 0x6000C, 0x60010, 0x60014, 0x60018,
    0x6001C]), anywhere, [.cc, .pd, .conv, .safe], (some (safeRegs ++ [0x84, 0x8C, 0x90])), anywhere, (some []),
    nowhere, (some []), false⟩
  | .stairDigest _ _ => some ⟨[.pair], (some [0x60004, 0x6000C, 0x60010, 0x60014, 0x60018, 0x6001C, 0x60028]),
    anywhere, [], (some [0x8, 0x10]), nowhere, (some []), nowhere, (some []), false⟩
  | .resyncSend => some ⟨[.pair], (some [0x60004, 0x60010, 0x60014, 0x60018, 0x6001C]), anywhere, [], (some [0x8,
    0x10]), nowhere, (some []), nowhere, (some []), false⟩
  | .atticLock _ => some ⟨[.hall, .hbeatAt, .hbMissed, .rerr], none, anywhere, [.core, .kickAt], (some [0x8, 0x3B0,
    0x3B4, 0x3B8, 0x3BC]), nowhere, (some []), nowhere, (some []), false⟩
  | .confirmed _ _ _ => some ⟨[.freeCtr, .hall, .hbeatAt, .hbMissed, .attic, .cellar, .jnl, .porch], none, anywhere,
    [.core, .kickAt], (some [0x8, 0x3B0, 0x3B4, 0x3B8, 0x3BC]), nowhere, (some []), nowhere, (some []), false⟩
  | .hbMiss => some ⟨[.hbMissed, .pair, .pantry], (some [0x54, 0x60004, 0x60008]), anywhere, [.cc, .pd, .conv,
    .safe], (some (safeRegs ++ [0x84, 0x8C, 0x90])), anywhere, (some []), nowhere, (some []), false⟩
  | .holdEnd _ => some ⟨[], (some []), anywhere, [.conv, .senseHold], (some [0x150, 0x298]), anywhere, (some
    [0x14C]), nowhere, (some []), false⟩
  | _ => none

end Sys2Proof.Machine
end

