-- ==== Sys2Proof/Certificates/Slice0/Obligations.lean ====
section
/-! DEFINITION. Certificates/Slice0/Obligations.lean: the statements for the provers. -/

open Sys2Proof Sys2Proof.Machine

/-- A step takes the command at the front of the queue and runs it on the state with the rest of the queue; with an empty
queue the block idles. -/
def Obligations.StepRunsTheFront : Prop :=
  (∀ (s : State) (c : Instr) (rest : List Instr), s.pending = c :: rest →
    step s = exec c ({ s with pending := rest } : State)) ∧
  (∀ s : State, s.pending = [] → step s = .next s)

/-- Every step of every command answers a next state, and takes exactly one command from the queue. -/
def Obligations.EveryStepCompletes : Prop :=
  ∀ s : State, ∃ t, step s = .next t ∧ t.pending = s.pending.tail

/-- R132, R512, R513: every step keeps the invariant: the applied Plan passes every check of Plan validation, every memory
keeps its canonical form, and the fixed parts of the block stay. -/
def Obligations.StepKeepsInvariant : Prop :=
  ∀ s t : State, s.Inv → step s = .next t → t.Inv

/-- The state after reset meets the invariant. -/
def Obligations.ResetMeetsInvariant : Prop := State.reset.Inv

/-- R512: a logical bit reads 1 when either copy reads 1, and no step of any command turns a programmed bit of a copy, or a
logical bit, back to 0. -/
def Obligations.FusesNeverReturn : Prop :=
  ∀ s t : State, step s = .next t →
    s.attic.grows t.attic ∧
    ∀ (w : Nat) (b : Nat), (s.attic.a.get w).getLsbD b = true ∨ (s.attic.b.get w).getLsbD b = true →
      (t.attic.logical w).getLsbD b = true

/-- The registers after reset hold the reset values of the register tables, and a Room's ID names its port; the queue is
empty, the chip is in reset, no fuse but those of the die ID and the life cycle of a delivered chip reads 1. -/
def Obligations.ResetValues : Prop :=
  (∀ f ∈ hallFields, State.reset.fld f = f.reset) ∧
  (∀ w : Fin 2, ∀ f ∈ wingFields, (State.reset.wing w).fld f = f.reset) ∧
  (∀ b : Fin 6, ∀ f ∈ landFields, (State.reset.land b).fld f = f.reset) ∧
  (∀ p : Fin 48, ∀ f ∈ roomFields, f ∉ [ID_PORT_NUM, ID_SLOT, ID_WING, ID_LEAD] →
    (State.reset.room p).fld f = f.reset) ∧
  (∀ p : Fin 48, (State.reset.room p).fld ID_PORT_NUM = p.val ∧ (State.reset.room p).fld ID_SLOT = p.val / 8 ∧
    (State.reset.room p).fld ID_WING = p.val / 24 ∧ (State.reset.room p).fld ID_LEAD = p.val) ∧
  State.reset.clk.phase = .reset ∧ State.reset.plan = none ∧ State.reset.pending = [] ∧
  (∀ n : Fin 2, (State.reset.link n).out = []) ∧ State.reset.jnl.group = [] ∧ State.reset.porch.sess = none

/-- A command of one port changes nothing outside its frame: of that Room only the parts and registers named, and of the
rest of the block only what the frame lists. -/
def Obligations.PortFrames : Prop :=
  ∀ (c : Instr) (f : Footprint), portFrames c = some f → ∀ s t : State, exec c s = .next t → s.within f t

/-- A command of one slot or Landing changes nothing outside its frame. -/
def Obligations.SlotFrames : Prop :=
  ∀ (c : Instr) (f : Footprint), slotFrames c = some f → ∀ s t : State, exec c s = .next t → s.within f t

/-- An instruction of a core that stores nothing, an event entry and the control by debug change nothing outside the core
and its frame. -/
def Obligations.CoreFrames : Prop :=
  ∀ (c : Instr) (f : Footprint), coreFrames c = some f → ∀ s t : State, exec c s = .next t → s.within f t

/-- A command of the Hall and of its blocks changes no Room, no Landing, no Wing, and of the Hall only what its frame lists. -/
def Obligations.HallFrames : Prop :=
  ∀ (c : Instr) (f : Footprint), hallFrames c = some f → ∀ s t : State, exec c s = .next t → s.within f t

/-- The commands that reach several ports change nothing outside their frames; nor does a tick, where no command waits in a
receive buffer. -/
def Obligations.WideFrames : Prop :=
  (∀ (c : Instr) (f : Footprint), wideFrames c = some f → ∀ s t : State, exec c s = .next t → s.within f t) ∧
  (∀ s t : State, (s.link 0).rx = [] → (s.link 1).rx = [] → exec .tick s = .next t → s.within tickFrame t)

/-- R404: DISCARD copies every published copy into its stage copy, with SEND and VALID taken as 0, and clears STAGE_DIRTY. It
changes nothing that another agent can see: only the core's stage copies, STAGE_DIRTY and its PC differ. -/
def Obligations.DiscardCopiesPublished : Prop :=
  ∀ (s : State) (p : Fin 48), s.seqReady (.room p) = true →
  ∃ t, exec (.discard p 0 0) s = .next t ∧
    t.butLinks = (((s.moved (.room p)).onRoom p fun r => { r with core := { r.core with
      stage := (s.room p).published, dirty := false } }) : State).butLinks ∧
    (s.room p).published = [(s.room p).regs.get 0x100 &&& ~~~TXW0_SEND.mask] ++
      ((List.range 7).map fun i => (s.room p).regs.get (0x104 + 4 * i)) ++
      [(s.room p).regs.get 0x140 &&& ~~~NEG_CTRL_VALID.mask, (s.room p).regs.get 0x144]

/-- R615: when the DEBUG lock is set, every core halted by debug resumes, and every breakpoint is disabled. -/
def Obligations.DebugLockEndsDebug : Prop :=
  ∀ (s : State) (v : Word), s.clocked = true → v.getLsbD 8 = true → s.debugOn = true →
  ∃ t, exec (.atticLock v) s = .next t ∧ t.debugOn = false ∧ ∀ c : CoreId, (t.core c).halted = false ∧ t.bkptAt c = none

/-- R430: for 10 µs after a capture, and at any time while FREEZE is 1, a trigger captures nothing and sets MISSED: a TRIG
write that captures directly, the capture that a driven TRIG write asks for, a falling edge of SNAP_IO, and the snapshot
commands of the debug port and of a host link. SRC records the trigger of the last capture. -/
def Obligations.CapturesAreBarred : Prop :=
  ∀ s : State, s.clocked = true →
  (s.snap.cap = none → s.bit SNAP_CTRL_FREEZE = true ∨ (∃ x, s.snap.capAt = some x ∧ s.now < x + 10) →
    (s.bit SNAP_CTRL_DRIVE = false →
      ∃ t, exec .snapTrig s = .next t ∧ t.bit SNAP_CTRL_MISSED = true ∧ t.snap = s.snap) ∧
    (s.snapIoLow = false → s.bit SNAP_CTRL_IN_EN = true →
      ∃ t, exec (.snapIoEdge true) s = .next t ∧ t.bit SNAP_CTRL_MISSED = true ∧ t.snap.cap = none ∧
        t.fld SNAP_EPOCH_EPOCH = s.fld SNAP_EPOCH_EPOCH) ∧
    (s.debugOn = true → ∃ t, exec .snap s = .next t ∧ t.bit SNAP_CTRL_MISSED = true ∧ t.snap = s.snap) ∧
    (∀ (n : Fin 2) (line : List Byte) (f : Frame), s.takes n 7 line f = true → f.payload = [] →
      s.bit SNAP_CTRL_DRIVE = false →
      ∃ t, exec (.snapshot n line) s = .next t ∧ t.bit SNAP_CTRL_MISSED = true ∧ t.snap.cap = none ∧
        t.fld SNAP_EPOCH_EPOCH = s.fld SNAP_EPOCH_EPOCH)) ∧
  (s.snap.cap = some 0 → s.snap.drive.isSome = true →
    s.bit SNAP_CTRL_FREEZE = true ∨ (∃ x, s.snap.capAt = some x ∧ s.now < x + 10) →
    ∃ t, exec .capture s = .next t ∧ t.bit SNAP_CTRL_MISSED = true ∧ t.snap.cap = none ∧
      t.fld SNAP_EPOCH_EPOCH = s.fld SNAP_EPOCH_EPOCH) ∧
  (∀ x : Nat, x < 3 → s.snap.cap = some x → s.snapBars = false →
    ∃ t, exec .capture s = .next t ∧ t.fld SNAP_CTRL_SRC = x ∧ t.snap.capAt = some s.now)

/-- R9, R62, R73, R85, R90, R172, R293, R329, R378, R412, R436, R471, R495, R523, R574, R591, R592, R607: a 32-bit read of
a register answers its word and clears its RC fields. -/
def Obligations.ClearingReads : Prop :=
  ∀ s : State, s.clocked = true →
  (∀ p : Fin 48, ∃ t, exec (.faultRead p) s = .next t ∧ s.readsInto t (.roomReg p.val 0x00C)) ∧
  (∀ p : Fin 48, ∃ t, exec (.pdErrcntRead p) s = .next t ∧ s.readsInto t (.roomReg p.val 0x094)) ∧
  (∀ p : Fin 48, ∃ t, exec (.thrCntRead p) s = .next t ∧ s.readsInto t (.roomReg p.val 0x22C)) ∧
  (∀ b : Fin 6, ∃ t, exec (.hsFaultRead b) s = .next t ∧ s.readsInto t (.land b.val 0x060)) ∧
  (∀ b : Fin 6, ∃ t, exec (.landFaultRead b) s = .next t ∧ s.readsInto t (.land b.val 0x148)) ∧
  (∀ w : Fin 2, ∃ t, exec (.wingFaultRead w false) s = .next t ∧ s.readsInto t (.wing w.val 0x100)) ∧
  (∀ w : Fin 2, ∃ t, exec (.wingFaultRead w true) s = .next t ∧ s.readsInto t (.wing w.val 0x108)) ∧
  (∃ t, exec .pantryFaultRead s = .next t ∧ s.readsInto t (.hall 0x50034)) ∧
  (∃ t, exec .resetCauseRead s = .next t ∧ s.readsInto t (.hall 0x09C)) ∧
  (∃ t, exec .wakeCauseRead s = .next t ∧ s.readsInto t (.hall 0x094)) ∧
  (∃ t, exec .pwrStatRead s = .next t ∧ s.readsInto t (.hall 0x08C)) ∧
  (∃ t, exec .hallModeRead s = .next t ∧ s.readsInto t (.hall 0x040) ∧ t.mode.changed = false) ∧
  (∀ n : Fin 2, ∃ t, exec (.hlErrRead ⟨n.val, by omega⟩) s = .next t ∧ s.readsInto t (.hall (0x7000C + 0x100 * n.val))) ∧
  (∃ t, exec (.hlErrRead 2) s = .next t ∧ s.readsInto t (.hall 0x72008)) ∧
  (∀ n : Fin 4, ∃ t, exec (.twErrRead n) s = .next t ∧ s.readsInto t (.hall (0x71010 + 0x40 * n.val))) ∧
  (∃ t, exec .stairErrRead s = .next t ∧ s.readsInto t (.hall 0x60010)) ∧
  (∃ t, exec .atticResultRead s = .next t ∧ s.readsInto t (.hall 0x40014)) ∧
  (∃ t, exec .jnlResultRead s = .next t ∧ s.readsInto t (.hall 0x73010)) ∧
  (∃ t, exec .tbCtrlRead s = .next t ∧ s.readsInto t (.hall 0x10C)) ∧
  (∃ t, exec .hbStatRead s = .next t ∧ s.readsInto t (.hall 0x054))

/-- R9, R10, R17, R20, R57, R132, R355, R402, R537, R552, R583: other accesses to registers and memories. -/
def Obligations.RegisterAccesses : Prop :=
  (∀ (s : State) (a : Nat) (v : Word), s.clocked = true → a < 0x20000 → a % 4 = 0 →
    ∃ t, exec (.registerWrite (.bus .hall) (0x21000000 + a) 4 v) s = .next t ∧ t.rerr = false ∧
      t.hallData = putBytes s.hallData a (wordBytes v)) ∧
  (∀ (s : State) (v : Word), s.clocked = true → s.range (.hall 0x98) WAKE_ALARM_COMPARE = none →
    ∃ t, exec (.registerWrite (.bus .hall) 0x98 4 v) s = .next t ∧ t.rerr = false ∧ t.fld WAKE_ALARM_COMPARE = v.toNat) ∧
  (∀ (s : State) (r : Req) (a size : Nat) (v : Word), s.clocked = true → locate a = none →
    ∃ t, exec (.registerWrite (.bus r) a size v) s = .next t ∧ t.rerr = true ∧ t.regs = s.regs ∧ t.rooms = s.rooms) ∧
  (∀ (s : State) (p : Fin 48) (a i : Nat) (v : Word), s.whole p = true → stageIdx a = some i →
    ∃ t, exec (.registerWrite (.core p) a 4 v) s = .next t ∧
      (t.room p).core.stage =
        setAt (s.room p).core.stage i (s.stageWord p a ((s.room p).core.stage.getD i 0) v) ∧
      (a = 0x100 → ((t.room p).core.stage.getD 0 0).extractLsb' 20 2 = ((s.room p).core.stage.getD 0 0).extractLsb' 20 2) ∧
      (t.room p).core.dirty = true ∧ (t.room p).regs = (s.room p).regs) ∧
  (∀ (s : State) (p : Fin 48) (a size : Nat) (v : Word), s.whole p = true → a < 0x400 → size ≠ 4 →
    ∃ t, exec (.registerWrite (.core p) a size v) s = .next t ∧ (t.room p).bit EVENT_ACCESS_ERR = true) ∧
  (∀ (s : State) (a size : Nat), s.clocked = true → a < 0x180 → size = 1 ∨ size = 2 → a % 4 + size ≤ 4 →
    ∃ t, exec (.subwordRead (.bus .hall) a size) s = .next t ∧ t.rerr = false ∧ t.regs = s.regs ∧
      t.rdata = subword a size (woMask (fieldsOf (.hall (a / 4 * 4))) (s.hallView (a / 4 * 4)))) ∧
  (∀ s : State, s.clocked = true →
    ∃ t, exec .planRdDataRead s = .next t ∧
      t.rdata = storeWord s.planStore s.planDigest 0x80000 (s.regs.get 0x290).toNat ∧
      t.fld PLAN_RD_ADDR_ADDR = (s.fld PLAN_RD_ADDR_ADDR + 1) % 2 ^ PLAN_RD_ADDR_ADDR.width) ∧
  (∀ s : State, s.clocked = true →
    ∃ t, exec .fwRdDataRead s = .next t ∧
      t.rdata = storeWord s.fwStore s.fwDigest 0x200000 (s.regs.get 0x40050).toNat ∧
      t.fld FW_RD_ADDR_ADDR = (s.fld FW_RD_ADDR_ADDR + 1) % 2 ^ FW_RD_ADDR_ADDR.width) ∧
  (∀ s : State, s.clocked = true →
    ∃ t, exec .celRdDataRead s = .next t ∧ t.rdata = s.hallView 0x73040 ∧
      t.fld CEL_RD_ADDR_ADDR = (s.fld CEL_RD_ADDR_ADDR + 1) % 2 ^ CEL_RD_ADDR_ADDR.width) ∧
  (∀ s : State, s.clocked = true →
    ∃ t, exec .verify s = .next t ∧ t.bit ENG_CTRL_DONE = false ∧
      t.attic.verify = some (s.fld PORCH_VSRC_SRC, s.fld PORCH_VSRC_CHUNK)) ∧
  (∀ (s : State) (x : Nat × Nat), s.clocked = true → s.attic.verify = some x →
    ∃ t, exec .verifyDone s = .next t ∧ t.bit ENG_CTRL_DONE = true ∧ t.attic.verify = none) ∧
  (∀ (s : State) (v : Word), s.booted = true → (s.pl.node 0).ceiling < 65536 →
    ∃ t, exec (.budgetLimitWrite .hall 0x240 v) s = .next t ∧ t.nodeFld .root BUD_LIMIT_LIMIT_W =
      min (s.pl.node 0).ceiling
        (s.clampField (.hall 0x240) (BUD_LIMIT_LIMIT_W.shift 0x240) ((BUD_LIMIT_LIMIT_W.shift 0x240).of v)))

/-- R68 to R77, R411 to R413, R592, R640: clock failure, the slow clock, and the resets. -/
def Obligations.ClocksAndResets : Prop :=
  (∀ s : State, s.booted = true → s.pairMode = false → s.clk.failAt = none →
    ∃ t, exec (.clockFailure true) s = .next t ∧ t.clk.failAt = some s.now ∧ t.bit CLK_STAT_XTAL_OK = false ∧
      (∀ p : Fin 48, s.pl.whole p.val = true → (t.room p).safe = true) ∧
      (∀ b : Fin 6, (s.pl.slot b.val).present = true → (t.land b).st = hOff)) ∧
  (∀ s : State, s.clocked = true → due s.now s.clk.failAt 10 = true →
    ∃ t, exec .clkFail s = .next t ∧ t.bit RESET_CAUSE_CLK_FAIL = true ∧ t.clk.phase = .reset) ∧
  (∀ s : State, ∃ t, exec .slowXtalSelect s = .next t ∧ t.bit CLK_STAT_SLOW_XTAL_OK = true ∧
    t.bit CLK_STAT_SLOW_SRC = (s.bit CLK_STAT_SLOW_SRC || !s.bit CLK_CTRL_SLOW_SEL)) ∧
  (∀ s : State, s.bit CLK_STAT_SLOW_XTAL_OK = true → s.bit CLK_STAT_SLOW_SRC = true →
    ∃ t, exec .slowSwitch s = .next t ∧ t.bit CLK_STAT_SLOW_XTAL_OK = false ∧ t.bit CLK_STAT_SLOW_SRC = false ∧
      t.bit WAKE_CAUSE_SLOW_SWITCH = true ∧ t.clk.slow = (s.clk.slow + 4) % 2 ^ 32) ∧
  (∀ (s : State) (f : Nat), s.booted = true → s.bit CLK_CTRL_RC_CAL_EN = true → old s.now s.clk.calAt 1000000 = true →
    0 < f →
    ∃ t, exec (.rcCalibration f) s = .next t ∧ t.bit CLK_STAT_RC_CAL_VALID = true ∧
      t.fld RC_INC_INC = min ((2 * 65536000000 + f) / (2 * f)) (2 ^ 32 - 1)) ∧
  (∀ (s : State) (a : BitVec 10), ∃ t, exec (.slowClockEdge a) s = .next t ∧ t.clk.slow = (s.clk.slow + 1) % 2 ^ 32 ∧
    (s.clocked = true → t.clk.retTb = s.tb)) ∧
  (∀ s : State, ∃ t, exec .aonPor s = .next t ∧ t.regs.get 0x9C = 1 ∧ t.clk.phase = .reset ∧ t.clk.slow = 0) ∧
  (∀ s : State, ∃ t, exec .borCore s = .next t ∧ t.bit RESET_CAUSE_BOR_CORE = true ∧ t.clk.phase = .reset) ∧
  (∀ s : State, ∃ t, exec .borIo s = .next t ∧ t.bit RESET_CAUSE_BOR_IO = true ∧ t.clk.phase = .reset) ∧
  (∀ s : State, ∃ t, exec .borA s = .next t ∧ t.bit RESET_CAUSE_BOR_A = true ∧ t.clk.phase = .reset) ∧
  (∀ (s : State) (ns : Nat) (taken : Bool), 1000 ≤ ns →
    ∃ t, exec (.pin ns taken) s = .next t ∧ t.bit RESET_CAUSE_PIN = true ∧ t.clk.phase = .reset) ∧
  (∀ s : State, ∃ t, exec (.testEn true) s = .next t ∧ t.clk.held = true ∧ t.clk.phase = .reset) ∧
  (∀ s : State, ∃ t, exec (.testEn false) s = .next t ∧ t.clk.held = false) ∧
  (∀ s : State, s.booted = true →
    ∃ t, exec (.resetKey 0xC3) s = .next t ∧ t.bit RESET_CAUSE_SOFT = true ∧ t.clk.phase = .reset) ∧
  (∀ s : State, s.beating = true → s.hbMissed = true → s.hbeatAt + 2 * s.hbT ≤ s.now →
    ∃ t, exec .wdt s = .next t ∧ t.bit RESET_CAUSE_WDT = true ∧ t.clk.phase = .reset) ∧
  (∀ (s : State) (id core io ana pin : Bool) (us : Nat), s.clk.phase = .reset → s.clk.held = false →
    ((core && io && ana && pin) = true → 1000 ≤ us →
      ∃ t, exec (.chipResetEnd id core io ana pin us) s = .next t ∧ t.clk.phase = .osc ∧ t.chipB = id ∧
        t.bit PAIR_STAT_CHIP_B = id) ∧
    ((core && io && ana && pin) = false ∨ us < 1000 →
      ∃ t, exec (.chipResetEnd id core io ana pin us) s = .next t ∧ t.clk.phase = .reset)) ∧
  (∀ s : State, s.clk.phase = .osc →
    ∃ t, exec .xtalOk s = .next t ∧ t.clk.phase = .pll ∧ t.bit CLK_STAT_XTAL_OK = true) ∧
  (∀ (s : State) (b : BootFlash), s.clk.phase = .waking → s.bit CLK_STAT_XTAL_OK = true →
    ∃ t, exec (.pllLock b) s = .next t ∧ t.clk.phase = .waking ∧ t.bit CLK_STAT_PLL_LOCK = true)

/-- R79, R80, R522, R538: with fuses of a life cycle that does not boot, or a TRIM region that fails its check, PLL_LOCK
ends in recovery. -/
def Obligations.BootInRecovery : Prop :=
  ∀ (s : State) (b : BootFlash), s.clk.phase = .pll → s.bit CLK_STAT_XTAL_OK = true →
    (s.attic.refresh (List.range 256)).lc = 0 →
    ∃ t, exec (.pllLock b) s = .next t ∧ t.clk.phase = .recovery ∧ t.bit CLK_STAT_PLL_LOCK = true ∧
      t.bit BOOT_STAT_RECOVERY = true ∧ t.bit PORCH_STAT_RECOVERY = true

/-- R82 to R93: requests for a state, the entry sequence, wake sources and the end of SLEEP. -/
def Obligations.PowerStates : Prop :=
  (∀ s : State, s.booted = true → s.bit PWR_STAT_PENDING = false → s.clampField (.hall 0x088) PWR_CTRL_REQ 0 = 0 →
    ∃ t, exec .reqRun s = .next t ∧ t.fld PWR_STAT_STATE = 0 ∧ t.clk.prior = 0) ∧
  (∀ s : State, s.booted = true → s.bit PWR_STAT_PENDING = false → s.clampField (.hall 0x088) PWR_CTRL_REQ 1 = 1 →
    ∃ t, exec .reqDoze s = .next t ∧ t.fld PWR_STAT_STATE = 1 ∧ t.clk.prior = 1) ∧
  (∀ (s : State) (a : BitVec 10), s.booted = true → s.reqRefusal 2 a = 0 →
    s.clampField (.hall 0x088) PWR_CTRL_REQ 2 = 2 →
    ∃ t, exec (.reqSleep a) s = .next t ∧ t.bit PWR_STAT_PENDING = true ∧ t.fld PWR_STAT_STATE = 2 ∧
      t.clk.target = 2 ∧ t.clk.step = 1) ∧
  (∀ (s : State) (a : BitVec 10), s.booted = true → s.reqRefusal 3 a = 0 →
    s.clampField (.hall 0x088) PWR_CTRL_REQ 3 = 3 →
    ∃ t, exec (.reqStandby a) s = .next t ∧ t.bit PWR_STAT_PENDING = true ∧ t.fld PWR_STAT_STATE = 3 ∧
      t.clk.target = 3 ∧ t.clk.step = 1) ∧
  (∀ s : State, s.booted = true → s.bit PWR_STAT_PENDING = true → s.clk.step = 5 → s.clk.target = 2 →
    ∃ t, exec .entrySequenceStep s = .next t ∧ t.clk.step = 6 ∧ t.clk.phase = .sleep ∧ t.clk.retTb = s.tb ∧
      t.bit CLK_STAT_XTAL_OK = false ∧ t.bit CLK_STAT_PLL_LOCK = false) ∧
  (∀ (s : State) (g : List JRec), s.booted = true → s.bit PWR_STAT_PENDING = true → s.clk.step = 1 → s.jnl.cmd = some g →
    ∃ t, exec .entrySequenceStep s = .next t ∧ t.clk.step = 1) ∧
  (∀ s : State, s.bit WAKE_EN_WAKE_PIN = true → s.clk.phase = .sleep →
    ∃ t, exec .wakeN s = .next t ∧ t.clk.phase = .waking ∧ t.bit WAKE_CAUSE_WAKE_PIN = true) ∧
  (∀ (s : State) (lv : List (Fin 48 × Fin 8 × Fin 8)) (p : Fin 48) (l1 l2 : Fin 8), s.bit WAKE_EN_CC = true →
    s.clk.phase = .sleep → s.clk.target = 2 → s.clk.ccPer ≠ some s.clk.period → (p, l1, l2) ∈ lv →
    s.pl.whole p.val = true → (s.room p).bit CTRL_ENABLE = true → (s.room p).sampled (s.env p) l1.val l2.val = true →
    ∃ t, exec (.ccSamplingWindow lv) s = .next t ∧ t.clk.phase = .waking ∧ t.bit WAKE_CAUSE_CC = true ∧
      t.fld WAKE_CAUSE_CC_PORT ≤ p.val ∧ (t.room p).cc.wake.isSome = true) ∧
  (∀ s : State, s.bit WAKE_EN_KEY = true → s.clk.phase = .sleep →
    ∃ t, exec .keyWake s = .next t ∧ t.clk.phase = .waking ∧ t.bit WAKE_CAUSE_KEY = true) ∧
  (∀ s : State, s.bit WAKE_EN_ALARM = true → s.alarm = true → s.clk.phase = .sleep →
    ∃ t, exec .alarm s = .next t ∧ t.clk.phase = .waking ∧ t.bit WAKE_CAUSE_ALARM = true) ∧
  (∀ s : State, s.clk.target = 2 → s.clk.phase = .sleep →
    ∃ t, exec .fireWake s = .next t ∧ t.clk.phase = .waking ∧ t.bit WAKE_CAUSE_FIRE = true) ∧
  (∀ (s : State) (n : Fin 2), s.bit WAKE_EN_HL = true → s.clk.target = 2 → s.clk.phase = .sleep →
    ∃ t, exec (.hlWake n) s = .next t ∧ t.clk.phase = .waking ∧ t.bit WAKE_CAUSE_HL = true) ∧
  (∀ s : State, s.bit WAKE_EN_PORCH = true → s.clk.target = 2 → s.clk.phase = .sleep →
    ∃ t, exec .porchWake s = .next t ∧ t.clk.phase = .waking ∧ t.bit WAKE_CAUSE_PORCH = true) ∧
  (∀ s : State, s.clk.phase = .waking → s.bit CLK_STAT_PLL_LOCK = true →
    ∃ t, exec .sleepWake s = .next t ∧ t.clk.phase = .run ∧ t.bit PWR_STAT_PENDING = false ∧ t.clk.target = 0) ∧
  (∀ s : State, s.clk.phase = .standby → s.clk.step = 9 →
    ∃ t, exec .standbyExit s = .next t ∧ t.bit RESET_CAUSE_STANDBY_EXIT = true ∧ t.clk.phase = .reset)

/-- R34, R37 to R43, R588 to R598: safe states on command and for faults, escalation, watchdogs and sense wires. -/
def Obligations.SafeStatesAndFaults : Prop :=
  (∀ (s : State) (p : Fin 48), s.live p = true → s.clampBit (.roomReg p.val 0x004) CTRL_FORCE_SAFE true = true →
    ∃ t, exec (.forceSafe p false true) s = .next t ∧ (t.room p).bit CTRL_FORCE_SAFE = true ∧
      (t.room p).outputsSafe = true) ∧
  (∀ (s : State) (p : Fin 48), s.live p = true → s.clampBit (.roomReg p.val 0x004) CTRL_FORCE_SAFE false = false →
    ∃ t, exec (.forceSafe p false false) s = .next t ∧ (t.room p).bit CTRL_FORCE_SAFE = false) ∧
  (∀ (s : State) (p : Fin 48), s.live p = true →
    ∃ t, exec (.forceSafe p true true) s = .next t ∧ (t.room p).safe = true ∧ (t.room p).outputsSafe = true ∧
      (t.room p).bit CTRL_FORCE_SAFE = (s.room p).bit CTRL_FORCE_SAFE ∧ (t.room p).regs.get 0xC = (s.room p).regs.get 0xC) ∧
  (∀ (s : State) (p : Fin 48), s.whole p = true → (s.room p).safe = true → s.conditions p = [] →
    ∃ t, exec (.recover p) s = .next t ∧ (t.room p).safe = false ∧ (t.room p).grant = 0 ∧
      (t.room p).fld RETRY_STAT_COUNT = 0 ∧ (t.room p).bit PD_STAT_EXPLICIT = false ∧
      ((s.room p).bit CTRL_FORCE_SAFE = false → (t.room p).bit EVENT_SAFE_EXIT = true)) ∧
  (∀ (s : State) (p : Fin 48) (f : Field), s.whole p = true → (s.room p).safe = true → f ∈ s.conditions p →
    ∃ t, exec (.recover p) s = .next t ∧ (t.room p).safe = true ∧ (t.room p).bit f = true ∧
      (t.room p).fld RETRY_STAT_COUNT = 0) ∧
  (∀ (s : State) (p : Fin 48) (a : Fin 2) (g o : Int), s.present p = true →
    calRejected ((s.room p).cal.getD a.val (0, 0)) (g, o) = false →
    ∃ t, exec (.adcCalibration p a g o) s = .next t ∧ (t.room p).cal = setAt (s.room p).cal a.val (g, o)) ∧
  (∀ (s : State) (b : Fin 6), s.slotLive b = true → (s.land b).powered = true →
    ∃ t, exec (.landingFault b .breaker) s = .next t ∧ (t.land b).bit HS_FAULT_BREAKER = true ∧
      (t.land b).powered = false) ∧
  (∀ (s : State) (b : Fin 6) (n : Nat) (r : Bool), s.booted = true → (s.land b).shed = some (1, n, r) → n + 200 ≤ s.now →
    ∃ t, exec (.landingShedStep b) s = .next t ∧ (t.land b).shed = some (2, s.now, r) ∧
      ∀ p : Fin 48, landOf p = b → s.pl.whole p.val = true → (s.pl.port p.val).cls = 1 → (s.room p).slotHold = false →
        (t.room p).safe = true) ∧
  (∀ (s : State) (b : Fin 6), s.booted = true →
    ∃ t, exec (.landingSelfCheck b) s = .next t ∧ (t.land b).bit LAND_FAULT_WDT = true) ∧
  (∀ (s : State) (w : Fin 2), s.booted = true → s.pairMode = false →
    ∃ t, exec (.wingWatchdog w .bus) s = .next t ∧ (t.wing w).fld WING_FAULT_BUS = 1 ∧ (t.wing w).safe = true ∧
      ∀ p : Fin 48, wingOf p = w → s.pl.whole p.val = true → (t.room p).safe = true) ∧
  (∀ (s : State) (w : Fin 2), s.booted = true → due s.now (s.wing w).withdrawAt 5 = true →
    ∃ t, exec (.wingSafeDelay w) s = .next t ∧ (t.wing w).safe = true ∧ (t.wing w).withdrawAt = none) ∧
  (∀ (s : State) (w : Fin 2), s.booted = true →
    ∃ t, exec (.wingRestart w) s = .next t ∧ (t.wing w).safe = false ∧ (t.wing w).withdrawAt = none) ∧
  (∀ (s : State) (p : Fin 48), s.whole p = true → s.pairMode = false →
    ∃ t, exec (.parity (.room p)) s = .next t ∧ (t.room p).bit FAULT_PARITY = true ∧ (t.room p).safe = true) ∧
  (∀ (s : State) (b : Fin 6), s.booted = true →
    ∃ t, exec (.parity (.land b)) s = .next t ∧ (t.land b).bit LAND_FAULT_PARITY = true) ∧
  (∀ s : State, s.beating = true → s.hbMissed = false → s.hbeatAt + s.hbT ≤ s.now →
    ∃ t, exec .hbMiss s = .next t ∧ t.hbMissed = true ∧ t.bit HB_STAT_MISS = true) ∧
  (∀ (s : State) (b : Fin 6) (k : Fin 2) (mv : Nat), s.slotLive b = true → mv ≤ 20 →
    ∃ t, exec (.openPinTest (.land b k) mv) s = .next t ∧ (t.land b).pinFail = setAt (s.land b).pinFail k.val 0) ∧
  (∀ (s : State) (p : Fin 48), s.live p = true → (s.room p).senseHold = true → (s.land (landOf p)).senseHold = false →
    s.pinsGood p = true →
    ∃ t, exec (.holdEnd (.room p)) s = .next t ∧ (t.room p).senseHold = false)

/-- R31, R387, R397, R405, R591: the life of a Room core, its watchdog, and its doorbell. -/
def Obligations.RoomCores : Prop :=
  (∀ (s : State) (p : Fin 48) (g : ProgramRec), s.whole p = true → (s.room p).bit CORE_CTRL_HOLD = false →
    s.pl.programFor p.val = some g → crc32c (g.code ++ g.data) = g.pcrc →
    ∃ t, exec (.restartCore p) s = .next t ∧ (t.room p).core.state = 1 ∧
      (t.room p).core.pc = BitVec.ofNat 32 (0x20000 + g.entry) ∧ (t.room p).core.g = List.replicate 16 0 ∧
      (t.room p).bit EVENT_CORE_RESTART = true) ∧
  (∀ (s : State) (p : Fin 48), s.watched p = true →
    old s.now (s.room p).kickAt (1000 * (s.land (landOf p)).fld LAND_WDT_WDT_T) = true →
    ∃ t, exec (.coreWdt p) s = .next t ∧ (t.room p).bit FAULT_CORE_WDT = true) ∧
  (∀ (s : State) (p : Fin 48), s.watched p = true →
    ∃ t, exec (.coreKick p 0xA55A) s = .next t ∧ (t.room p).kickAt = s.now ∧
      (t.room p).bit STATUS_CORE_ALIVE = true) ∧
  (∀ (s : State) (p : Fin 48), s.booted = true → (s.room p).core.extCopy = true →
    ∃ t, exec (.extCopyDone p) s = .next t ∧ (t.room p).core.extCopy = false) ∧
  (∀ (s : State) (p : Fin 48), s.whole p = true →
    ∃ t, exec (.hold p true) s = .next t ∧ (t.room p).core.state = 5 ∧ (t.room p).bit CORE_CTRL_HOLD = true ∧
      (t.room p).bit STATUS_CORE_ALIVE = false) ∧
  (∀ (s : State) (p : Fin 48) (v : BitVec 8), s.whole p = true →
    ∃ t, exec (.doorbell p v) s = .next t ∧ (t.room p).fld DOORBELL_DB = (s.room p).fld DOORBELL_DB ||| v.toNat) ∧
  (∀ (s : State) (p : Fin 48) (v : BitVec 8), s.whole p = true →
    ∃ t, exec (.dbAck p v) s = .next t ∧ (t.room p).fld DOORBELL_DB = (s.room p).fld DOORBELL_DB &&& (255 - v.toNat))

/-- R136, R137, R148 to R160: what the events of the CC lines and of VBUS do at a port that this chip drives. -/
def Obligations.CcLineEvents : Prop :=
  (∀ (s : State) (p : Fin 48) (l1 l2 : Fin 8), s.whole p = true → s.keeps (wingOf p) = false →
    ∃ t, exec (.ccLevelChange p l1 l2) s = .next t ∧
      (t.room p).fld CC_LEVEL_CC1_LVL = l1.val ∧ (t.room p).fld CC_LEVEL_CC2_LVL = l2.val) ∧
  (∀ (s : State) (p : Fin 48) (l2 : Fin 8), s.live p = true → (s.room p).ast = aUnSrc → (s.room p).outOff = false →
    (s.room p).cc.term1 = .rp → (s.room p).fld CC_LEVEL_CC1_LVL ≠ 1 →
    ∃ t, exec (.ccLevelChange p 1 l2) s = .next t ∧ (t.room p).ast = aWaitSrc) ∧
  (∀ (s : State) (p : Fin 48) (mv : Nat), s.whole p = true →
    ∃ t, exec (.vbusLevelChange p mv) s = .next t ∧
      (t.room p).bit CC_STAT_VBUS_SAFE0 = decide (mv ≤ 800) ∧
      (t.room p).bit CC_STAT_VBUS_PRESENT = decide (4000 ≤ mv)) ∧
  (∀ (s : State) (p : Fin 48), s.live p = true → s.clampBit (.roomReg p.val 0x054) VCONN_CTRL_EN false = false →
    ∃ t, exec (.vconnEnWrite p false) s = .next t ∧ (t.room p).bit VCONN_CTRL_EN = false) ∧
  (∀ (s : State) (p : Fin 48), s.live p = true → (s.room p).attached = true →
    s.clampBit (.roomReg p.val 0x054) VCONN_CTRL_EN true = true →
    ∃ t, exec (.vconnEnWrite p true) s = .next t ∧
      (t.room p).bit VCONN_CTRL_EN = true ∧ (t.room p).bit CC_STAT_VCONN_LOCK = false) ∧
  (∀ (s : State) (p : Fin 48), s.live p = true → (s.room p).bit CC_STAT_VCONN_ON = true →
    ∃ t, exec (.vconnOc p true) s = .next t ∧ (t.room p).bit FAULT_VCONN_OC = true ∧
      (t.room p).bit CC_STAT_VCONN_LOCK = true ∧ (t.room p).bit CC_STAT_VCONN_ON = false) ∧
  (∀ (s : State) (p : Fin 48) (cc2 : Bool), s.live p = true →
    ∃ t, exec (.ccOv p cc2 true) s = .next t ∧ (t.room p).bit FAULT_CC_OV = true ∧ (t.room p).safe = true ∧
      (t.room p).bit (if cc2 then CC_STAT_CC2_ISOL else CC_STAT_CC1_ISOL) = true ∧
      (t.room p).bit (if cc2 then CC_LEVEL_CC2_OV else CC_LEVEL_CC1_OV) = true) ∧
  (∀ (s : State) (p : Fin 48) (cc2 : Bool), s.live p = true →
    ∃ t, exec (.ccOv p cc2 false) s = .next t ∧ (t.room p).safe = (s.room p).safe ∧
      (t.room p).bit (if cc2 then CC_LEVEL_CC2_OV else CC_LEVEL_CC1_OV) = false ∧
      (if cc2 then (t.room p).cc.ov2 else (t.room p).cc.ov1) = some s.now) ∧
  (∀ (s : State) (p : Fin 48), s.live p = true → (s.room p).bit CC_STAT_CC1_ISOL = true →
    due s.now (s.room p).cc.ov1 10000 = true →
    ∃ t, exec (.ccIsolationRelease p false) s = .next t ∧ (t.room p).bit CC_STAT_CC1_ISOL = false) ∧
  (∀ (s : State) (p : Fin 48), s.live p = true → (s.room p).bit CC_STAT_CC2_ISOL = true →
    due s.now (s.room p).cc.ov2 10000 = true →
    ∃ t, exec (.ccIsolationRelease p true) s = .next t ∧ (t.room p).bit CC_STAT_CC2_ISOL = false) ∧
  (∀ (s : State) (p : Fin 48), s.live p = true → (s.room p).vbusLost (s.env p) = true →
    ∃ t, exec (.vbusLost p) s = .next t ∧ (t.room p).bit EVENT_DETACH = true ∧
      ((s.room p).outOff = false → (t.room p).waits aUnSnk)) ∧
  (∀ (s : State) (p : Fin 48), s.live p = true → due s.now (s.room p).cc.rpLower 60000 = true →
    ∃ t, exec (.rpLimitLower p) s = .next t ∧ (t.room p).cc.rpLower = none)

/-- R29, R30, R81, R137 to R141, R152, R153, R163: the exits of the attach state machine that its timers and CTRL.ENABLE take. -/
def Obligations.AttachStates : Prop :=
  (∀ (s : State) (p : Fin 48), s.live p = true → (s.room p).ast = aDisabled → (s.room p).outOff = false →
    s.clampBit (.roomReg p.val 0x004) CTRL_ENABLE true = true →
    ∃ t, exec (.enableSet p) s = .next t ∧ (t.room p).bit CTRL_ENABLE = true ∧
      (t.room p).waits (startState (s.env p))) ∧
  (∀ (s : State) (p : Fin 48), s.live p = true → s.clampBit (.roomReg p.val 0x004) CTRL_ENABLE false = false →
    ∃ t, exec (.enableClear p) s = .next t ∧ (t.room p).bit CTRL_ENABLE = false ∧ (t.room p).ast = aDisabled) ∧
  (∀ (s : State) (p : Fin 48), s.live p = true → (s.room p).cc.removing = true → (s.room p).loop = lOff →
    ∃ t, exec (.portRemovalEnd p) s = .next t ∧ (t.room p).grant = 0 ∧ (t.room p).bit SW_STAT_CMD = false ∧
      (t.room p).cc.removing = false) ∧
  (∀ (s : State) (p : Fin 48), s.live p = true → (s.room p).outOff = false → (s.room p).ast = aWaitSnk →
    (s.room p).rpOne = true → (s.room p).stable (s.env p) Debounce.tcc = true → (s.pl.port p.val).trySrc = false →
    (s.room p).bit CC_STAT_VBUS_PRESENT = true →
    ∃ t, exec (.tccdebounce p) s = .next t ∧ (t.room p).ast = aSnk ∧ (t.room p).bit EVENT_ATTACH = true) ∧
  (∀ (s : State) (p : Fin 48), s.live p = true → (s.room p).outOff = false → (s.room p).ast = aSrc →
    (s.room p).bmcOpen (s.env p) = true →
    ∃ t, exec (.tpddebounce p) s = .next t ∧ (t.room p).bit EVENT_DETACH = true ∧ (t.room p).waits (unSrcOf (s.env p))) ∧
  (∀ (s : State) (p : Fin 48), s.live p = true → (s.room p).outOff = false → (s.room p).ast = aTrySrc →
    (s.room p).askHolds (s.env p) = true → (s.room p).cc.asking = false → (s.room p).cc.retry = none →
    ∃ t, exec (.ttryccdebounce p) s = .next t ∧ (t.room p).cc.asking = true ∧
      (t.room p).cc.askAt = s.now) ∧
  (∀ (s : State) (p : Fin 48), s.live p = true → (s.room p).outOff = false → (s.room p).ast = aTryWaitSrc →
    (s.room p).rdNone = true → old s.now (s.room p).cc.entry (s.room p).cc.tDrpTry = true →
    ∃ t, exec (.tdrptry p) s = .next t ∧ (t.room p).waits aUnSnk) ∧
  (∀ (s : State) (p : Fin 48), s.live p = true → (s.room p).outOff = false → (s.room p).ast = aErrRec →
    old s.now (s.room p).cc.entry (s.room p).cc.tErr = true →
    ∃ t, exec (.terrorrecovery p) s = .next t ∧ (t.room p).waits (startState (s.env p))) ∧
  (∀ (s : State) (p : Fin 48), s.live p = true → (s.room p).outOff = false → (s.room p).ast = aUnSnk →
    (s.room p).kind1 ≠ 3 → (s.room p).kind2 ≠ 3 → (s.pl.port p.val).role = 2 →
    old s.now (s.room p).cc.entry (s.room p).cc.tToggle = true →
    ∃ t, exec (.drpToggle p) s = .next t ∧ (t.room p).waits aUnSrc) ∧
  (∀ (s : State) (p : Fin 48) (a : Ask), (s.room p).fld GRANT_ASK_STATE ≠ 1 → s.portAsk p = some a →
    (∀ b ∈ s.asks, b.before a = false) → (s.room p).askHolds (s.env p) = true → 15 ≤ s.availFor p →
    ∃ t, exec (.attachGrant p) s = .next t ∧ (t.room p).ast = aSrc ∧ (t.room p).grant = max (s.room p).grant 15) ∧
  (∀ (s : State) (p q : Fin 48) (a b : Ask), (s.room p).fld GRANT_ASK_STATE ≠ 1 → s.portAsk p = some a →
    (s.room q).fld GRANT_ASK_STATE ≠ 1 → s.portAsk q = some b → b.before a = true →
    (∀ x ∈ s.asks, x.before b = false) → (s.room q).askHolds (s.env q) = true → 15 ≤ s.availFor q →
    ∃ t, exec (.attachGrant p) s = .next t ∧ (t.room q).ast = aSrc ∧ (t.room q).grant = max (s.room q).grant 15) ∧
  (∀ (s : State) (p : Fin 48), s.free p = true → (s.room p).bit CC_STAT_BUDGET_WAIT = true →
    due s.now (s.room p).cc.retry 100000 = true → (s.room p).askHolds (s.env p) = true →
    ∃ t, exec (.budgetWait p) s = .next t ∧ (t.room p).cc.asking = true) ∧
  (∀ (s : State) (p : Fin 48), s.live p = true → (s.room p).ast ≠ aDisabled → (s.room p).outOff = false →
    ∃ t, exec (.errorRecovery p) s = .next t ∧ (t.room p).ast = aErrRec)

/-- R171 to R178, R181, R193 to R198, R202, R207, R211, R214, R216: what the protocol engine does with what it receives. -/
def Obligations.PdReception : Prop :=
  (∀ (s : State) (p : Fin 48) (c : Fin 3) (os syms : List (Fin 32)) (k : Pkt), s.live p = true → (s.room p).attached = true →
    (s.room p).sending = false → recognise os = some (.sop c) → checkPacket c.val syms = .good k → k.isC 1 = false →
    (k.sop = 0 ∨ (s.room p).bit CC_STAT_VCONN_ON = true) → (s.room p).bit PD_STAT_HR_ACTIVE = false →
    (s.room p).pd.rx = none → (s.room p).pd.chunkRx = none →
    ((s.room p).dup k = true ∨ ((s.room p).heard (s.env p) k.sop).roomFor (s.env p) k = true) →
    ∃ t, exec (.messageReceived p os syms) s = .next t ∧ (t.room p).pd.rx = some k ∧ (t.room p).pd.lastPkt = s.now) ∧
  (∀ (s : State) (p : Fin 48) (c : Fin 3) (os syms : List (Fin 32)), s.live p = true → (s.room p).attached = true →
    (s.room p).sending = false → recognise os = some (.sop c) → checkPacket c.val syms = .crcErr →
    ∃ t, exec (.messageReceived p os syms) s = .next t ∧ (t.room p).pd.rx = (s.room p).pd.rx ∧
      (t.room p).fld PD_ERRCNT_CRC_ERR = min ((s.room p).fld PD_ERRCNT_CRC_ERR + 1) 255 ∧ (t.room p).pd.lastPkt = s.now) ∧
  (∀ (s : State) (p : Fin 48) (os syms : List (Fin 32)), s.live p = true → (s.room p).attached = true →
    (s.room p).sending = false →
    (recognise os = none ∨ ∃ c : Fin 3, recognise os = some (.sop c) ∧ checkPacket c.val syms = .trunc) →
    ∃ t, exec (.messageReceived p os syms) s = .next t ∧ (t.room p).pd.rx = (s.room p).pd.rx ∧
      (t.room p).fld PD_ERRCNT_TRUNC = min ((s.room p).fld PD_ERRCNT_TRUNC + 1) 255 ∧ (t.room p).pd.lastPkt = s.now) ∧
  (∀ (s : State) (p : Fin 48) (os syms : List (Fin 32)), s.live p = true → (s.room p).attached = true →
    ((s.room p).sending = true ∨ recognise os = some .cable) →
    ∃ t, exec (.messageReceived p os syms) s = .next t ∧ t.room p = s.room p) ∧
  (∀ (s : State) (p : Fin 48), s.live p = true → (s.room p).attached = true → (s.room p).sending = false →
    ∃ t, exec (.packetTruncated p) s = .next t ∧ (t.room p).pd.lastPkt = s.now ∧
      (t.room p).fld PD_ERRCNT_TRUNC = min ((s.room p).fld PD_ERRCNT_TRUNC + 1) 255) ∧
  (∀ (s : State) (p : Fin 48) (tr : Nat) (k : Pkt), s.live p = true → (s.room p).attached = true →
    (s.room p).pd.rx = some k → (s.room p).pd.gcrc = false → (s.room p).pd.hrDue = false → tr < 3 →
    old s.now (s.room p).pd.lastPkt 25 = true →
    ∃ t, exec (.goodcrc p tr) s = .next t ∧ (t.room p).pd.gcrc = true ∧
      (t.room p).pd.line = ((s.room p).goodCrcOf k).line) ∧
  (∀ (s : State) (p : Fin 48) (k : Pkt), s.live p = true → (s.room p).attached = true → (s.room p).pd.gcrc = true →
    (s.room p).pd.crDue = false → (s.room p).pd.rx = some k → (s.room p).dup k = true →
    ∃ t, exec (.messageDelivered p) s = .next t ∧ (t.room p).pd.rx = none ∧ (t.room p).pd.gcrc = false ∧
      (t.room p).pd.rxq = (s.room p).pd.rxq ∧
      (t.room p).fld PD_ERRCNT_DUP = min ((s.room p).fld PD_ERRCNT_DUP + 1) 255) ∧
  (∀ (s : State) (p : Fin 48) (k : Pkt), s.live p = true → (s.room p).attached = true → (s.room p).pd.gcrc = true →
    (s.room p).pd.crDue = false → (s.room p).pd.rx = some k → (s.room p).dup k = false → k.sop = 0 → k.isD 1 = true →
    (s.room p).pd.chunkRx = none → (s.room p).bit PD_STAT_BIST = false →
    ∃ t, exec (.messageDelivered p) s = .next t ∧ (t.room p).pd.rx = none ∧ (t.room p).pd.gcrc = false ∧
      (t.room p).pd.rxq = (s.room p).pd.rxq ++ [k] ∧ (t.room p).bit PD_EVENT_RX = true ∧
      (t.room p).pd.lastSop = s.now) ∧
  (∀ (s : State) (p : Fin 48) (sop : Fin 3) (id : Fin 8) (a : Air), s.live p = true → (s.room p).attached = true →
    (s.room p).sending = false → (s.room p).pd.air = some a → a.msg.pkt.sop = sop.val → a.id = id.val →
    (s.room p).pd.txId.getD sop.val 0 = id.val → a.msg.kind = .keepAlive →
    ∃ t, exec (.goodcrcReceived p sop id) s = .next t ∧ (t.room p).pd.air = none ∧
      (t.room p).pd.txId = setAt (s.room p).pd.txId sop.val ((id.val + 1) % 8) ∧ (t.room p).pd.kaWait = some s.now) ∧
  (∀ (s : State) (p : Fin 48) (sop : Fin 3) (id : Fin 8) (a : Air), s.live p = true → (s.room p).attached = true →
    (s.room p).sending = false → (s.room p).pd.air = some a → (a.msg.pkt.sop ≠ sop.val ∨ a.id ≠ id.val) →
    ∃ t, exec (.goodcrcReceived p sop id) s = .next t ∧ (t.room p).pd.air = some a ∧ (t.room p).pd.lastPkt = s.now) ∧
  (∀ (s : State) (p : Fin 48), s.whole p = true → (s.room p).pd.rxq.length ≤ 4 →
    ∃ t, exec (.rxPop p) s = .next t ∧ (t.room p).pd.rxq = (s.room p).pd.rxq.drop 1 ∧
      (t.room p).fld PD_STAT_RXQ_COUNT = (s.room p).pd.rxq.length - 1) ∧
  (∀ (s : State) (p : Fin 48), s.whole p = true → (s.room p).pd.inbox.length ≤ 2 →
    ∃ t, exec (.vdmPop p) s = .next t ∧ (t.room p).pd.inbox = (s.room p).pd.inbox.drop 1 ∧
      (t.room p).fld PD_STAT_VDMIN_COUNT = (s.room p).pd.inbox.length - 1) ∧
  (∀ (s : State) (p : Fin 48) (tr : Nat) (m : TxMsg), s.free p = true → (s.room p).slotFree (s.env p) = true → tr < 3 →
    (s.room p).autoReady (fun x => x.kind = .chunkReq) = some m → m.pkt.softReset = false →
    ∃ t, exec (.chunkRequest p tr) s = .next t ∧ (t.room p).pd.auto = (s.room p).pd.auto.erase m ∧
      (t.room p).pd.air.map (·.msg.kind) = some .chunkReq) ∧
  (∀ (s : State) (p : Fin 48) (c : ChunkRx), s.live p = true → (s.room p).pd.chunkRx = some c →
    due s.now c.since 27000 = true →
    ∃ t, exec (.tchunksenderresponse p) s = .next t ∧ (t.room p).pd.chunkRx = none ∧
      (t.room p).bit PD_EVENT_CHUNK_ERR = true) ∧
  (∀ (s : State) (p : Fin 48), s.live p = true → due s.now (s.room p).pd.bistAt 45000 = true →
    ∃ t, exec (.bistCarrierEnd p) s = .next t ∧ (t.room p).pd.bistAt = none) ∧
  (∀ (s : State) (p : Fin 48), s.live p = true → due s.now (s.room p).pd.kaWait 27000 = true →
    ∃ t, exec (.kaMiss p) s = .next t ∧ (t.room p).pd.kaWait = none ∧ (t.room p).bit PD_EVENT_KA_MISS = true) ∧
  (∀ (s : State) (p : Fin 48), s.free p = true → (s.room p).ast = aSrc → (s.room p).bit PD_STAT_EPR_ACTIVE = true →
    old s.now (s.room p).pd.lastRx 875000 = true → (s.room p).pd.hrDue = false → (s.room p).fld PD_STAT_HR_COUNT ≠ 2 →
    ∃ t, exec (.eprSourceTimeout p) s = .next t ∧ (t.room p).pd.hrDue = true) ∧
  (∀ (s : State) (p : Fin 48), s.live p = true → (s.room p).attached = true → (s.room p).sending = false →
    (s.room p).swapTermDone = false →
    ∃ t, exec (.hardResetReceived p) s = .next t ∧ (t.room p).bit PD_EVENT_HR_RX = true ∧
      (t.room p).bit CON_STAT_HR_SEQ = true ∧ (t.room p).fld CON_STAT_STEP = 1 ∧ (t.room p).explicit = false) ∧
  (∀ (s : State) (p : Fin 48), s.whole p = true → s.keeps (wingOf p) = false → (s.room p).attached = true →
    ∃ t, exec (.hardResetReceived p) s = .next t ∧ (t.room p).bit PD_STAT_HR_ACTIVE = true ∧ (t.room p).pd.rxq = []) ∧
  (∀ (s : State) (p : Fin 48), ∃ t, exec (.cableResetReceived p) s = .next t ∧ t.rooms = s.rooms ∧ t.regs = s.regs)

/-- R170 to R173: a packet that goes on the line is read back from it: header, data objects and SOP type, from the symbols
after an ordered set that is recognised as its own. -/
def Obligations.PacketsAreReadBack : Prop :=
  (∀ k : Pkt, k.hdr < 65536 → k.objs.length = k.num → k.sop < 3 →
    checkPacket k.sop k.syms = .good k ∧ recognise (setOf k.sop).codes = some (setOf k.sop)) ∧
  (∀ k : SetKind, recognise k.codes = some k)

/-- R174, R179 to R192, R195, R199 to R214, R216: what the protocol engine sends, repeats and gives up. -/
def Obligations.PdTransmission : Prop :=
  (∀ (s : State) (p : Fin 48) (tr : Nat) (m : TxMsg), s.free p = true → (s.room p).slotFree (s.env p) = true → tr < 3 →
    (s.room p).autoReady (fun _ => true) = some m → m.pkt.softReset = false →
    ∃ t, exec (.transmitStart p tr) s = .next t ∧ (t.room p).pd.auto = (s.room p).pd.auto.erase m ∧
      (t.room p).pd.air.map (·.msg.kind) = some m.kind ∧
      (t.room p).pd.air.map (·.msg.pkt.hdr) =
        some ((s.room p).wire m.pkt ((s.room p).pd.txId.getD m.pkt.sop 0) m.wireObjs.length) ∧
      (t.room p).pd.air.map (·.msg.pkt.line) = some (t.room p).pd.line) ∧
  (∀ (s : State) (p : Fin 48) (tr : Nat) (m : TxMsg), s.free p = true → (s.room p).slotFree (s.env p) = true → tr < 3 →
    (s.room p).autoReady (fun _ => true) = some m → m.pkt.softReset = true →
    ∃ t, exec (.transmitStart p tr) s = .next t ∧ (t.room p).pd.txId = setAt (s.room p).pd.txId 0 0 ∧
      (t.room p).pd.rxId = setAt (s.room p).pd.rxId 0 none ∧ (t.room p).pd.chunkRx = none ∧
      (t.room p).pd.air.map (·.msg.kind) = some m.kind) ∧
  (∀ (s : State) (p : Fin 48) (tr : Nat) (m : TxMsg), s.free p = true → (s.room p).slotFree (s.env p) = true → tr < 3 →
    (s.room p).autoReady (fun _ => true) = none →
    ((s.room p).followRp.followVdm (s.env p)).coreReady (s.env p) = some m → m.kind = .core → m.pkt.softReset = false →
    ∃ t, exec (.transmitStart p tr) s = .next t ∧ (t.room p).fld TX_STAT_STATE = 5 ∧ (t.room p).fld TX_STAT_TRIES = 0 ∧
      (t.room p).pd.air.map (·.msg.kind) = some .core) ∧
  (∀ (s : State) (p : Fin 48) (a : Air), s.live p = true → (s.room p).pd.air = some a → a.phase = .sending →
    (s.room p).pd.crDue = false →
    ∃ t, exec (.transmitEnd p) s = .next t ∧
      (t.room p).pd.air = some { a with phase := .awaiting, eop := s.now } ∧ (t.room p).pd.lastPkt = s.now) ∧
  (∀ (s : State) (p : Fin 48) (a : Air), s.live p = true → (s.room p).pd.air = some a → a.phase = .sending →
    (s.room p).pd.crDue = true → (s.room p).pd.gcrc = false → (s.room p).pd.bistAt = none →
    (s.room p).bit CC_STAT_VCONN_ON = true → (s.room p).bit PD_STAT_HR_ACTIVE = false →
    ∃ t, exec (.transmitEnd p) s = .next t ∧ (t.room p).pd.crDue = false ∧ (t.room p).pd.line = lineOf .cable [] ∧
      (t.room p).pd.txId = setAt (setAt (s.room p).pd.txId 1 0) 2 0) ∧
  (∀ (s : State) (p : Fin 48) (a : Air), s.live p = true → (s.room p).pd.air = some a → a.phase = .awaiting →
    old s.now a.eop 1000 = true → a.tries < (s.room p).nRetry a.msg.pkt.sop →
    ∃ t, exec (.treceive p) s = .next t ∧ (t.room p).pd.air = some { a with phase := .retryDue }) ∧
  (∀ (s : State) (p : Fin 48) (a : Air), s.live p = true → (s.room p).pd.air = some a → a.phase = .awaiting →
    old s.now a.eop 1001 = true → (s.room p).nRetry a.msg.pkt.sop ≤ a.tries → a.msg.kind = .core →
    a.msg.pkt.softReset = false →
    ∃ t, exec (.treceive p) s = .next t ∧ (t.room p).pd.air = none ∧ (t.room p).fld TX_STAT_STATE = 8 ∧
      (t.room p).pd.msg = none ∧ (t.room p).bit PD_EVENT_TX_DONE = true) ∧
  (∀ (s : State) (p : Fin 48) (tr : Nat) (a : Air), s.live p = true → tr < 3 → (s.room p).pd.air = some a →
    a.phase = .retryDue → old s.now a.eop 1025 = true → (s.room p).retryFree (s.env p) = true →
    ∃ t, exec (.retransmit p tr) s = .next t ∧
      (t.room p).pd.air = some { a with phase := .sending, tries := a.tries + 1 } ∧
      (t.room p).pd.line = a.msg.pkt.line) ∧
  (∀ (s : State) (p : Fin 48), s.live p = true → due s.now (s.room p).pd.srWait 27000 = true →
    (s.room p).bit PD_CFG_AUTO_SR = true → (s.room p).fld PD_STAT_HR_COUNT ≠ 2 →
    ∃ t, exec (.tsenderresponse p) s = .next t ∧ (t.room p).pd.srWait = none ∧ (t.room p).pd.hrDue = true) ∧
  (∀ (s : State) (p : Fin 48), s.live p = true → due s.now (s.room p).pd.sinkTx 17000 = true →
    (s.room p).fld TX_STAT_STATE = 2 →
    ∃ t, exec (.tsinktx p) s = .next t ∧ (t.room p).fld TX_STAT_STATE = 1) ∧
  (∀ (s : State) (p : Fin 48), s.live p = true → due s.now (s.room p).pd.sinkTx 1200000 = true →
    old s.now (s.room p).pd.lastSop 1200000 = true → (s.room p).bit PD_STAT_SINKTX = true →
    (s.room p).fld TX_STAT_STATE ≠ 2 → (s.room p).fld TX_STAT_STATE ≠ 4 → (s.room p).pd.hvdm = none →
    ∃ t, exec (.tamsidle p) s = .next t ∧ (t.room p).bit PD_STAT_SINKTX = false ∧ (t.room p).pd.sinkTx = none) ∧
  (∀ (s : State) (p : Fin 48), s.live p = true → (s.room p).bit PD_STAT_SINKTX = true →
    (s.room p).fld TX_STAT_STATE ≠ 2 → (s.room p).fld TX_STAT_STATE ≠ 4 → (s.room p).pd.hvdm = none →
    ∃ t, exec (.amsEnd p) s = .next t ∧ (t.room p).bit PD_STAT_SINKTX = false ∧ (t.room p).pd.sinkTx = none) ∧
  (∀ (s : State) (p : Fin 48), s.live p = true → (s.room p).bit PD_STAT_SINKTX = true →
    (s.room p).fld TX_STAT_STATE ≠ 4 → ((s.room p).fld TX_STAT_STATE = 2 ∨ (s.room p).pd.hvdm.isSome = true) →
    (s.room p).caApplies = true → (s.room p).ast = aSrc →
    ∃ t, exec (.amsEnd p) s = .next t ∧ (t.room p).bit PD_STAT_SINKTX = true ∧ (t.room p).pd.sinkTx = some s.now) ∧
  (∀ (s : State) (p : Fin 48), s.live p = true → (s.room p).fld TX_STAT_STATE = 4 →
    ∃ t, exec (.amsEnd p) s = .next t ∧ t.room p = s.room p) ∧
  (∀ (s : State) (p : Fin 48) (m : TxMsg), s.live p = true → (s.room p).fld TX_STAT_STATE = 4 →
    (s.room p).pd.msg = some m → m.initiate = false →
    ∃ t, exec (.txRelease p) s = .next t ∧ (t.room p).fld TX_STAT_STATE = 1) ∧
  (∀ (s : State) (p : Fin 48), s.live p = true → (s.room p).fld TX_STAT_STATE = 4 →
    ∃ t, exec (.txWithdraw p) s = .next t ∧ (t.room p).fld TX_STAT_STATE = 13 ∧ (t.room p).pd.msg = none ∧
      (t.room p).bit PD_EVENT_TX_DONE = true) ∧
  (∀ (s : State) (p : Fin 48), s.free p = true → (s.room p).attached = true → (s.room p).fld PD_STAT_HR_COUNT ≠ 2 →
    ∃ t, exec (.hardReset p) s = .next t ∧ (t.room p).pd.hrDue = true) ∧
  (∀ (s : State) (p : Fin 48), s.free p = true → (s.room p).bit CC_STAT_VCONN_ON = true →
    (s.room p).bit PD_STAT_HR_ACTIVE = false → (s.room p).sending = false →
    ∃ t, exec (.cableReset p) s = .next t ∧ (t.room p).fld PD_STAT_CABLE_STATE = 0 ∧ (t.room p).fld PD_STAT_REV_SOPP = 0 ∧
      (t.room p).fld PD_STAT_REV_SOPPP = 0 ∧ (t.room p).pd.line = lineOf .cable []) ∧
  (∀ (s : State) (p : Fin 48), s.free p = true → (s.room p).bit CC_STAT_VCONN_ON = true →
    (s.room p).bit PD_STAT_HR_ACTIVE = false → (s.room p).sending = true →
    ∃ t, exec (.cableReset p) s = .next t ∧ (t.room p).pd.crDue = true ∧ (t.room p).pd.air = (s.room p).pd.air) ∧
  (∀ (s : State) (p : Fin 48), s.free p = true → (s.room p).bit CC_STAT_VCONN_ON = true →
    (s.room p).fld PD_STAT_CABLE_STATE ≠ 1 →
    ∃ t, exec (.cableDisc p) s = .next t ∧ (t.room p).fld PD_STAT_CABLE_STATE = 1 ∧ (t.room p).pd.cableTries = 1 ∧
      (t.room p).pd.auto = (s.room p).pd.auto ++ [.mk' .cable 1 0x0F [0xFF008001#32]]) ∧
  (∀ (s : State) (p : Fin 48), s.live p = true → (s.room p).fld HV0_HDR % 32 = 0x0F →
    (s.room p).fld HV0_HDR / 4096 % 8 ≠ 0 → (s.room p).fld HV0_HDR < 32768 →
    ((s.room p).regs.get 0xE4).toNat / 65536 = 0x3A9D → ((s.room p).regs.get 0xE4).toNat.testBit 15 = false →
    (s.room p).attached = true → (s.room p).outOff = false → (s.room p).caApplies = true → (s.room p).pd.hvdm = none →
    ∃ t, exec (.hvdmSend p) s = .next t ∧ (t.room p).fld PD_STAT_HVDM_STATE = 1 ∧
      (t.room p).pd.hvdm.map (·.pkt.ty) = some 0x0F) ∧
  (∀ (s : State) (p : Fin 48), s.live p = true → (s.room p).fld HV0_HDR % 32 ≠ 0x0F →
    ∃ t, exec (.hvdmSend p) s = .next t ∧ (t.room p).fld PD_STAT_HVDM_STATE = 4 ∧
      (t.room p).bit PD_EVENT_HVDM_DONE = true) ∧
  (∀ (s : State) (p : Fin 48) (m : TxMsg), s.live p = true → (s.room p).pd.msg = some m → due s.now m.wait 27000 = true →
    ∃ t, exec (.tchunksenderrequest p) s = .next t ∧ (t.room p).fld TX_STAT_STATE = 9 ∧
      (t.room p).bit PD_EVENT_CHUNK_ERR = true ∧ (t.room p).pd.msg = none) ∧
  (∀ (s : State) (p : Fin 48) (tr : Nat) (m : TxMsg), s.free p = true → (s.room p).slotFree (s.env p) = true → tr < 3 →
    (s.room p).autoReady (fun x => x.kind = .reply) = some m → m.pkt.softReset = false →
    ∃ t, exec (.automaticReply p tr) s = .next t ∧ (t.room p).pd.auto = (s.room p).pd.auto.erase m ∧
      (t.room p).pd.air.map (·.msg.kind) = some .reply) ∧
  (∀ (s : State) (p : Fin 48), s.free p = true → (s.room p).ast = aSnk → (s.room p).bit PD_STAT_EPR_ACTIVE = true →
    (s.room p).bit PD_CFG_EPR_KA_AUTO = true → (s.room p).bit PD_STAT_HR_ACTIVE = false →
    old s.now (s.room p).pd.lastTx 375000 = true → (s.room p).pd.auto.any (·.kind = .keepAlive) = false →
    (s.room p).pd.air = none →
    ∃ t, exec (.eprKeepalive p) s = .next t ∧ (t.room p).pd.auto = (s.room p).pd.auto ++ [extCtl .keepAlive 3]) ∧
  (∀ (s : State) (p : Fin 48), s.free p = true → (s.room p).bit PD_CFG_CABLE_AUTO = true →
    due s.now (s.room p).pd.vconnAt 50000 = true → (s.room p).fld PD_STAT_CABLE_STATE = 0 →
    (s.room p).explicit = false →
    ∃ t, exec (.cableDiscoveryStart p) s = .next t ∧ (t.room p).fld PD_STAT_CABLE_STATE = 1 ∧
      (t.room p).pd.cableTries = 1) ∧
  (∀ (s : State) (p : Fin 48), s.live p = true → due s.now (s.room p).pd.cableWait 27000 = true →
    ∃ t, exec (.cableResponseTimeout p) s = .next t ∧ (t.room p).pd.cableWait = none) ∧
  (∀ (s : State) (p : Fin 48), s.live p = true → (s.room p).fld PD_STAT_CABLE_STATE = 1 →
    old s.now (s.room p).pd.cableAt 45000 = true → (s.room p).pd.cableWait = none →
    (s.room p).pd.auto.any (·.kind = .cable) = false → (s.room p).pd.air.any (·.msg.kind = .cable) = false →
    (s.room p).pd.cableTries < (s.room p).fld PD_CFG_CABLE_TRIES →
    ∃ t, exec (.cableDiscoveryAttempt p) s = .next t ∧ (t.room p).pd.cableTries = (s.room p).pd.cableTries + 1 ∧
      (t.room p).pd.cableAt = s.now) ∧
  (∀ (s : State) (p : Fin 48), s.live p = true → (s.room p).fld PD_STAT_CABLE_STATE = 1 →
    old s.now (s.room p).pd.cableAt 45000 = true → (s.room p).pd.cableWait = none →
    (s.room p).pd.auto.any (·.kind = .cable) = false → (s.room p).pd.air.any (·.msg.kind = .cable) = false →
    (s.room p).fld PD_CFG_CABLE_TRIES ≤ (s.room p).pd.cableTries →
    ∃ t, exec (.cableDiscoveryAttempt p) s = .next t ∧ (t.room p).fld PD_STAT_CABLE_STATE = 4 ∧
      (t.room p).bit PD_EVENT_CABLE_DONE = true) ∧
  (∀ (s : State) (p : Fin 48), s.free p = true → (s.room p).attached = true → (s.room p).pd.hrDue = true →
    (s.room p).sending = false → (s.room p).swapTermDone = false →
    ∃ t, exec (.hardResetTransmit p) s = .next t ∧ (t.room p).bit PD_EVENT_HR_TX = true ∧ (t.room p).pd.hrDue = false ∧
      (t.room p).bit CON_STAT_HR_SEQ = true ∧ (t.room p).fld CON_STAT_STEP = 1 ∧ (t.room p).explicit = false ∧
      (t.room p).pd.line = lineOf .hard [] ∧ (t.room p).fld PD_STAT_HR_COUNT = min ((s.room p).fld PD_STAT_HR_COUNT + 1) 3)

/-- R30, R47, R221, R225, R226, R235 to R244, R352: asks and answers in their order, voltage transitions, VSET, VLIM and the
give-up timer. -/
def Obligations.VoltageTransitions : Prop :=
  (∀ (s : State) (p : Fin 48) (w v : Nat), s.whole p = true →
    s.clampField (.roomReg p.val 0x160) GRANT_ASK_ASK_W (w % 65536) = v → 0 < v → v < 65536 →
    ∃ t, exec (.grantAsk p w) s = .next t ∧ (t.room p).fld GRANT_ASK_ASK_W = v ∧ (t.room p).fld GRANT_ASK_STATE = 1 ∧
      (t.room p).fld GRANT_RESV_W = 0 ∧ (t.room p).con.held = (s.room p).resv ∧ (t.room p).con.resvAt = some s.now) ∧
  (∀ (s : State) (p : Fin 48) (w : Nat), s.whole p = true →
    s.clampField (.roomReg p.val 0x160) GRANT_ASK_ASK_W (w % 65536) = 0 →
    ∃ t, exec (.grantAsk p w) s = .next t ∧ (t.room p).fld GRANT_ASK_ASK_W = 0 ∧ (t.room p).fld GRANT_ASK_STATE = 0 ∧
      (t.room p).fld GRANT_RESV_W = 0) ∧
  (∀ (s : State) (p : Fin 48) (a : Ask), (s.room p).fld GRANT_ASK_STATE = 1 → s.portAsk p = some a →
    (∀ b ∈ s.asks, b.before a = false) → (s.room p).fld CON_STAT_SWAP ≠ 4 →
    max (s.room p).grant (min ((s.room p).fld GRANT_ASK_ASK_W) (s.availFor p)) < 65536 →
    ∃ t, exec (.grantAnswer p) s = .next t ∧ (t.room p).fld GRANT_ASK_STATE = 2 ∧
      (t.room p).fld GRANT_RESV_W = max (s.room p).grant (min ((s.room p).fld GRANT_ASK_ASK_W) (s.availFor p))) ∧
  (∀ (s : State) (p q : Fin 48) (a b : Ask), (s.room p).fld GRANT_ASK_STATE = 1 → s.portAsk p = some a →
    (s.room q).fld GRANT_ASK_STATE = 1 → s.portAsk q = some b → b.before a = true →
    (∀ x ∈ s.asks, x.before b = false) → (s.room q).fld CON_STAT_SWAP ≠ 4 →
    max (s.room q).grant (min ((s.room q).fld GRANT_ASK_ASK_W) (s.availFor q)) < 65536 →
    ∃ t, exec (.grantAnswer p) s = .next t ∧ (t.room q).fld GRANT_ASK_STATE = 2 ∧
      (t.room q).fld GRANT_RESV_W = max (s.room q).grant (min ((s.room q).fld GRANT_ASK_ASK_W) (s.availFor q))) ∧
  (∀ (s : State) (p : Fin 48), s.whole p = true → (s.room p).fld GRANT_ASK_STATE = 2 →
    due s.now (s.room p).con.resvAt 10000 = true →
    ∃ t, exec (.resvLapse p) s = .next t ∧ (t.room p).fld GRANT_ASK_STATE = 3 ∧ (t.room p).fld GRANT_RESV_W = 0 ∧
      (t.room p).bit CON_EVENT_RESV_LAPSE = true) ∧
  (∀ (s : State) (p : Fin 48), s.free p = true → (s.room p).ast = aSrc → (s.room p).fld CON_STAT_STEP = 1 →
    (s.room p).bit CON_STAT_HR_SEQ = false → (s.room p).fld CON_STAT_SWAP = 0 → (s.room p).con.negMv < 65536 →
    due s.now (s.room p).con.trans (1000 * (s.room p).fld CON_CFG_TSRC) = true →
    ∃ t, exec (.tsrc p) s = .next t ∧ (t.room p).fld VSET_MV = (s.room p).con.negMv) ∧
  (∀ (s : State) (p : Fin 48), s.free p = true → (s.room p).ast = aSrc → (s.room p).fld CON_STAT_STEP = 1 →
    (s.room p).bit CON_STAT_HR_SEQ = false → (s.room p).fld CON_STAT_SWAP = 1 → (s.room p).loop = lRegulate →
    old s.now (s.room p).con.swapAt (1000 * (s.room p).fld CON_CFG_TSRC) = true →
    ∃ t, exec (.tsrc p) s = .next t ∧ (t.room p).loop = lSoftStop ∧ (t.room p).fld CON_STAT_STEP = 2) ∧
  (∀ (s : State) (p : Fin 48), s.live p = true → (s.room p).loop = lRegulate → (s.room p).bit CON_STAT_RAMPING = true →
    (s.room p).fld VSET_REF = (s.room p).fld VSET_MV →
    ∃ t, exec (.referenceReached p) s = .next t ∧ (t.room p).bit CON_STAT_RAMPING = false) ∧
  (∀ (s : State) (p : Fin 48), s.free p = true → (s.room p).attached = true → (s.room p).bit CON_STAT_SETTLED = false →
    (s.room p).settled (s.env p) = true →
    ∃ t, exec (.settled p) s = .next t ∧ (t.room p).bit CON_STAT_SETTLED = true ∧
      ((s.room p).ast = aSrc → (s.room p).con.trans.isSome = true →
        (t.room p).fld CON_STAT_STEP = 4 ∧ (t.room p).bit CON_EVENT_SETTLED = true)) ∧
  (∀ (s : State) (p : Fin 48), s.free p = true → (s.room p).ast = aSrc → (s.room p).con.trans.isSome = true →
    (s.room p).fld CON_STAT_STEP = 3 → due s.now (s.room p).con.reached 50000 = true →
    (s.room p).settled (s.env p) = false → (s.room p).pd.hrDue = false →
    ∃ t, exec (.settleFail p) s = .next t ∧ (t.room p).bit CON_EVENT_SETTLE_FAIL = true) ∧
  (∀ (s : State) (p : Fin 48) (mv : Nat), s.live p = true → (s.room p).ast = aSnk →
    s.clampField (.roomReg p.val 0x158) VSET_MV mv < 65536 →
    ∃ t, exec (.vsetWrite p mv) s = .next t ∧
      (t.room p).fld VSET_MV = s.clampField (.roomReg p.val 0x158) VSET_MV mv) ∧
  (∀ (s : State) (p : Fin 48) (mv : Nat), s.live p = true → (s.room p).ast = aSrc → (s.room p).vsetOpen = true →
    max ((s.room p).fld CON_LIM_VLIM) (s.env p).port.vmin < 65536 →
    ∃ t, exec (.vsetWrite p mv) s = .next t ∧ (t.room p).fld VSET_MV =
      min (max (s.clampField (.roomReg p.val 0x158) VSET_MV mv) (s.env p).port.vmin)
        (max ((s.room p).fld CON_LIM_VLIM) (s.env p).port.vmin)) ∧
  (∀ (s : State) (p : Fin 48) (mv : Nat), s.live p = true → (s.room p).ast = aSrc → (s.room p).vsetOpen = false →
    ∃ t, exec (.vsetWrite p mv) s = .next t ∧ t.room p = s.room p) ∧
  (∀ (s : State) (p : Fin 48) (v : Nat), s.live p = true →
    ({ s.room p with con := { (s.room p).con with vin10 := v } } : Room).vlim (s.env p) < 65536 →
    ∃ t, exec (.vlimRecompute p v) s = .next t ∧ (t.room p).con.vin10 = v ∧
      (t.room p).fld CON_LIM_VLIM = ({ s.room p with con := { (s.room p).con with vin10 := v } } : Room).vlim (s.env p)) ∧
  (∀ (s : State) (p : Fin 48) (v : Nat), s.whole p = true → s.keeps (wingOf p) = false →
    ∃ t, exec (.vlimRecompute p v) s = .next t ∧ (t.room p).fld CON_LIM_VLIM = (s.room p).fld CON_LIM_VLIM) ∧
  (∀ (s : State) (p : Fin 48) (a d : Nat), s.free p = true → (s.room p).con.giveup = some (a, d) → a + d ≤ s.now →
    (s.room p).ast = aSrc → (s.room p).explicit = true → (s.room p).overGrant = true →
    (s.room p).fld CON_VI_MV ≤ (s.room p).fld CON_LIM_VLIM →
    ∃ t, exec (.giveup p) s = .next t ∧ (t.room p).bit CON_STAT_GIVEUP = false ∧ (t.room p).bit CON_STAT_ENFORCED = true)

/-- R249 to R258: the Hard Reset power sequence and the steps of the swaps. -/
def Obligations.HardResetAndSwaps : Prop :=
  (∀ (s : State) (p : Fin 48), s.free p = true → (s.room p).ast = aSrc → (s.room p).bit CON_STAT_HR_SEQ = true →
    (s.room p).fld CON_STAT_STEP = 1 → old s.now (s.room p).con.hrAt 30000 = true →
    ∃ t, exec (.hardResetVconnOff p) s = .next t ∧ (t.room p).fld CON_STAT_STEP = 2 ∧
      (t.room p).bit CC_STAT_VCONN_ON = false) ∧
  (∀ (s : State) (p : Fin 48), s.free p = true → (s.room p).ast = aSrc → (s.room p).bit CON_STAT_HR_SEQ = true →
    (s.room p).fld CON_STAT_STEP = 2 → (s.room p).cc.vbus ≤ 800 → (s.room p).con.hrSafe0 = none →
    ∃ t, exec (.hardResetVbusSafe0 p) s = .next t ∧ (t.room p).fld CON_STAT_STEP = 3) ∧
  (∀ (s : State) (p : Fin 48), s.free p = true → (s.room p).ast = aSrc → (s.room p).bit CON_STAT_HR_SEQ = true →
    (s.room p).fld CON_STAT_STEP = 3 → due s.now (s.room p).con.hrSafe0 750000 = true →
    ∃ t, exec (.tsrcrecover p) s = .next t ∧ (t.room p).fld CON_STAT_STEP = 4 ∧ (t.room p).fld VSET_MV = 5000 ∧
      (t.room p).loop = lSoftStart) ∧
  (∀ (s : State) (p : Fin 48), s.free p = true → (s.room p).ast = aSrc → (s.room p).bit CON_STAT_HR_SEQ = true →
    (s.room p).fld CON_STAT_STEP = 4 → (s.room p).banded (s.env p) = true →
    ∃ t, exec (.hardResetEnd p) s = .next t ∧ (t.room p).bit CON_STAT_HR_SEQ = false ∧
      (t.room p).fld CON_STAT_STEP = 0 ∧ (t.room p).bit PD_STAT_HR_ACTIVE = false) ∧
  (∀ (s : State) (p : Fin 48), s.free p = true → (s.room p).ast = aSrc → (s.room p).fld CON_STAT_SWAP = 1 →
    (s.room p).fld CON_STAT_STEP = 2 → (s.room p).cc.vbus ≤ 800 →
    ∃ t, exec (.prSwapVbusSafe0 p) s = .next t ∧ (t.room p).ast = aSnk ∧ (t.room p).fld CON_STAT_STEP = 3 ∧
      (t.room p).loop = lOff) ∧
  (∀ (s : State) (p : Fin 48) (d : Nat), s.free p = true → (s.room p).ast ≠ aDisabled →
    (s.room p).psRdyLimit = some d → due s.now (s.room p).con.swapWait d = true →
    ∃ t, exec (.psRdyTimeout p) s = .next t ∧ (t.room p).ast = aErrRec ∧ (t.room p).bit CON_EVENT_SWAP_FAIL = true) ∧
  (∀ (s : State) (p : Fin 48), s.free p = true → (s.room p).ast = aSrc → (s.room p).frsReady (s.env p) = true →
    ∃ t, exec (.trig p) s = .next t ∧ (t.room p).fld CON_STAT_SWAP = 3 ∧ (t.room p).fld CON_STAT_STEP = 1 ∧
      (t.room p).bit CON_EVENT_FRS_TX = true) ∧
  (∀ (s : State) (p : Fin 48), s.free p = true → (s.room p).ast = aSrc → (s.room p).frsReady (s.env p) = true →
    (s.room p).bit FRS_CTRL_TRIG_AUTO = true → 2 ≤ (s.room p).con.frsLow →
    ∃ t, exec (.frsInputTrigger p) s = .next t ∧ (t.room p).fld CON_STAT_SWAP = 3 ∧ (t.room p).fld CON_STAT_STEP = 1 ∧
      (t.room p).bit CON_EVENT_FRS_TX = true) ∧
  (∀ (s : State) (p : Fin 48), s.free p = true → (s.room p).fld CON_STAT_SWAP = 3 → (s.room p).fld CON_STAT_STEP = 1 →
    old s.now (s.room p).con.swapAt 60 = true →
    ∃ t, exec (.frsSignalEnd p) s = .next t ∧ (t.room p).fld CON_STAT_STEP = 3) ∧
  (∀ (s : State) (p : Fin 48), s.free p = true → (s.room p).ast ≠ aDisabled → (s.room p).fld CON_STAT_SWAP = 3 →
    (s.room p).fld CON_STAT_STEP ≤ 3 → due s.now (s.room p).con.frsTx 20000 = true →
    (s.room p).pd.auto.any (·.re = 5) = false → (s.room p).pd.air.any (·.msg.re = 5) = false →
    ∃ t, exec (.frsTimeout p) s = .next t ∧ (t.room p).ast = aErrRec) ∧
  (∀ (s : State) (p : Fin 48), s.free p = true → (s.room p).ast = aSnk → (s.room p).frsReady (s.env p) = true →
    ∃ t, exec (.frsDetect p) s = .next t ∧ (t.room p).fld CON_STAT_SWAP = 4 ∧ (t.room p).fld GRANT_ASK_STATE = 1 ∧
      (t.room p).bit CON_EVENT_FRS_RX = true) ∧
  (∀ (s : State) (p : Fin 48), s.free p = true → (s.room p).attached = true → (s.room p).fld CON_STAT_SWAP = 4 →
    2 ≤ (s.room p).fld CON_STAT_STEP → (s.room p).con.frsOk = true → (s.room p).forward = false →
    (s.room p).cc.vbus < 4750 →
    ∃ t, exec (.frsVbusDrop p) s = .next t ∧ (t.room p).conv.frsTurn = true ∧ (t.room p).fld VSET_MV = 5000 ∧
      (t.room p).fld CON_STAT_STEP = (if (s.room p).fld CON_STAT_STEP = 2 then 3 else (s.room p).fld CON_STAT_STEP)) ∧
  (∀ (s : State) (p : Fin 48), s.free p = true → (s.room p).fld CON_STAT_SWAP = 5 →
    due s.now (s.room p).con.vconnSwap 150000 = true → (s.room p).pd.hrDue = false →
    (s.room p).fld PD_STAT_HR_COUNT ≠ 2 →
    ∃ t, exec (.vconnSwapTimeout p) s = .next t ∧ (t.room p).pd.hrDue = true)

/-- R52, R54, R108, R240, R256, R269 to R285, R289 to R296: the loop engine, its samples, its transfers and the Threshold
comparators. -/
def Obligations.LoopAndThresholds : Prop :=
  (∀ (s : State) (p : Fin 48), s.present p = true → (s.pl.follower p.val = false ∨ s.phaseTurn p = true) →
    ∃ t, exec (.periodStart p) s = .next t ∧ (t.room p).conv.thr =
      [(s.room p).regs.get 0x210, (s.room p).regs.get 0x214, (s.room p).regs.get 0x218, (s.room p).regs.get 0x21C] ∧
      ((s.room p).conv.frsTurn = false → (s.room p).conv.dirDue = none → (t.room p).conv.coefDue = false)) ∧
  (∀ (s : State) (p : Fin 48), s.present p = true → s.pl.follower p.val = false → s.keeps (wingOf p) = true →
    (s.room p).conv.frsTurn = true →
    ∃ t, exec (.periodStart p) s = .next t ∧ (t.room p).loop = lRegulate ∧ (t.room p).fld VSET_REF = 5000 ∧
      (t.room p).bit CONV_EVENT_DIR_CHANGE = true) ∧
  (∀ (s : State) (p : Fin 48) (m : Nat), s.present p = true → s.pl.follower p.val = false →
    m ∈ (s.pl.members p.val).drop 1 →
    ∃ t, exec (.periodStart p) s = .next t ∧ (t.room (Fin.ofNat 48 m)).conv.phaseDue = true) ∧
  (∀ (s : State) (p : Fin 48), s.pl.follower p.val = true → s.phaseTurn p = false →
    ∃ t, exec (.periodStart p) s = .next t ∧ t.room p = s.room p) ∧
  (∀ (s : State) (p : Fin 48) (vb ci vn vi : BitVec 12) (vs is : List (BitVec 12)), s.present p = true →
    s.pl.follower p.val = false →
    ∃ t, exec (.loopUpdate p vb ci vn vi vs is) s = .next t ∧ (t.room p).fld ADC_VBUS_LOOP = vb.toNat ∧
      (t.room p).fld ADC_I_LOOP = ci.toNat ∧ (t.room p).fld ADC_VNODE_VNODE = vn.toNat ∧
      (t.room p).fld ADC_VNODE_VIN = min (max vi.toNat 1000) 3000) ∧
  (∀ (s : State) (p : Fin 48) (vb ci vn vi : BitVec 12) (vs is : List (BitVec 12)), s.present p = true →
    s.pl.follower p.val = true →
    ∃ t, exec (.loopUpdate p vb ci vn vi vs is) s = .next t ∧
      (t.room p).fld ADC_VBUS_LOOP = (s.room p).fld ADC_VBUS_LOOP ∧ (t.room p).fld ADC_I_LOOP = ci.toNat ∧
      (t.room p).fld ADC_VNODE_VNODE = vn.toNat ∧
      (t.room p).fld ADC_VNODE_VIN = (s.room (s.lead p)).fld ADC_VNODE_VIN) ∧
  (∀ (s : State) (p : Fin 48), s.live p = true → (s.room p).loop = lSoftStart → (s.room p).fld VSET_REF = 5000 →
    ∃ t, exec (.softStartDone p) s = .next t ∧ (t.room p).loop = lRegulate ∧
      (t.room p).conv.rate = 1000 * (s.room p).fld CON_CFG_SLEW ∧ (t.room p).conv.rateDen = 1) ∧
  (∀ (s : State) (p : Fin 48), s.live p = true → (s.room p).loop = lSoftStop → (s.room p).fld VSET_REF = 0 →
    (s.room p).bit SW_STAT_CMD = true → (s.room p).cc.vbus ≤ 800 → (s.room p).attempting = false →
    ∃ t, exec (.softStopDone p) s = .next t ∧ (t.room p).loop = lOff ∧
      ((s.room p).conv.openAtOff = true → (t.room p).bit SW_STAT_CMD = false)) ∧
  (∀ (s : State) (p : Fin 48), s.present p = true →
    ∃ t, exec (.coefApply p) s = .next t ∧ (t.room p).conv.coefDue = true) ∧
  (∀ (s : State) (p : Fin 48) (k : Fin 4) (neg : Bool) (cycles : Nat), s.present p = true →
    (s.room p).armed (s.env p) k.val = true → (s.room p).unblanked k.val cycles = true → s.keeps (wingOf p) = true →
    (s.pl.tripWord p.val k.val).testBit (p.val % 8) = true →
    ∃ t, exec (.thresholdTrip p k neg cycles) s = .next t ∧ ((t.room p).fld THR_STAT_RAW).testBit k.val = true ∧
      ⟨p.val, k.val, holdMid ((s.room (s.lead p)).loop = lReverse) k.val neg⟩ ∈ (t.room p).conv.holds) ∧
  (∀ (s : State) (p q : Fin 48) (k : Fin 4) (neg : Bool) (cycles : Nat), s.present p = true →
    (s.room p).armed (s.env p) k.val = true → (s.room p).unblanked k.val cycles = true → s.keeps (wingOf p) = true →
    landOf q = landOf p → (s.pl.tripWord p.val k.val).testBit (8 + q.val % 8) = true →
    ∃ t, exec (.thresholdTrip p k neg cycles) s = .next t ∧ (t.room q).bit SW_STAT_CMD = false) ∧
  (∀ (s : State) (p : Fin 48) (k : Fin 4) (neg : Bool) (cycles : Nat), (s.room p).unblanked k.val cycles = false →
    ∃ t, exec (.thresholdTrip p k neg cycles) s = .next t ∧ t.rooms = s.rooms) ∧
  (∀ (s : State) (p : Fin 48) (neg : Bool), s.live p = true →
    ∃ t, exec (.thresholdLatch p 3 neg) s = .next t ∧ (t.room p).bit (flagOf 3 neg) = true ∧
      (t.room p).bit FAULT_SC = true ∧ (t.room p).safe = true) ∧
  (∀ (s : State) (p : Fin 48), s.live p = true → (s.room p).armed (s.env p) 0 = true →
    48 * (s.room p).fld PROT_TIME_OV_T ≤ (s.room p).conv.ovCnt →
    ∃ t, exec (.ovT p) s = .next t ∧ (t.room p).bit FAULT_OV = true ∧ (t.room p).safe = true) ∧
  (∀ (s : State) (p : Fin 48), s.live p = true → (s.room p).armed (s.env p) 1 = true →
    48000 * (s.room p).fld PROT_TIME_UV_T ≤ (s.room p).conv.uvCnt →
    ∃ t, exec (.uvT p) s = .next t ∧ (t.room p).bit FAULT_UV = true ∧ (t.room p).safe = true) ∧
  (∀ (s : State) (p : Fin 48), s.live p = true →
    due s.now (s.room p).conv.lossAt (1000 * (s.room p).fld PROT_TIME_REGLOSS_T) = true →
    ∃ t, exec (.regLoss p) s = .next t ∧ (t.room p).bit FAULT_REG_LOSS = true ∧ (t.room p).safe = true)

/-- R298 to R305: the port switch, the eFuse, the FET check and the retries of a port. -/
def Obligations.SwitchAndRetries : Prop :=
  (∀ (s : State) (p : Fin 48), s.live p = true → (s.room p).driversOff = false →
    100 * (s.room p).fld EF_TIME_TFLT ≤ (s.room p).fld EF_STAT_TIMER →
    ∃ t, exec (.efuse p) s = .next t ∧ (t.room p).bit FAULT_EFUSE = true ∧ (t.room p).safe = true ∧
      (t.room p).bit SW_STAT_CMD = false) ∧
  (∀ (s : State) (p : Fin 48), s.live p = true → 1000 < (s.room p).vds.natAbs →
    due s.now (s.room p).conv.foldAt (1000 * (s.room p).fld EF_TIME_TFB) = true →
    ∃ t, exec (.foldbackTimeout p) s = .next t ∧ (t.room p).bit FAULT_EFUSE = true ∧ (t.room p).safe = true) ∧
  (∀ (s : State) (p : Fin 48), s.live p = true → (s.room p).conv.foldAt.isSome = true →
    (s.room p).vds.natAbs ≤ 1000 →
    ∃ t, exec (.coldClose p) s = .next t ∧ (t.room p).bit SW_STAT_FULL = true ∧ (t.room p).fld SW_STAT_CLOSE = 1 ∧
      (t.room p).conv.foldAt = none) ∧
  (∀ (s : State) (p : Fin 48), s.live p = true → (s.room p).safe = true → (s.room p).bit CTRL_FORCE_SAFE = false →
    (s.room p).slotHold = false → (s.room p).bit RETRY_STAT_WAIT = true → s.attemptDue p = true →
    (s.room p).ast = aSrc → (s.room p).mayAttempt (s.cls p) = true → (s.room p).conv.thermal = false → (s.room p).vnode ≤ 5500 →
    ∃ t, exec (.retryAttempt p) s = .next t ∧ (t.room p).bit RETRY_STAT_ATTEMPT = true ∧
      (t.room p).bit RETRY_STAT_WAIT = false ∧ (t.room p).conv.attAt = some s.now ∧ (t.room p).bit SW_STAT_CMD = true) ∧
  (∀ (s : State) (p : Fin 48), s.live p = true →
    due s.now (s.room p).conv.attAt (1000 * (s.room p).fld RETRY_CFG_ATT_T) = true →
    ∃ t, exec (.attemptWindowEnd p) s = .next t ∧ (t.room p).safe = false ∧ (t.room p).bit EVENT_SAFE_EXIT = true ∧
      (t.room p).bit CONV_EVENT_ATTEMPT_OK = true ∧ (t.room p).bit RETRY_STAT_ATTEMPT = false) ∧
  (∀ (s : State) (p : Fin 48), s.live p = true → (s.room p).inSafe = false →
    due s.now (s.room p).conv.outAt 60000000 = true →
    ∃ t, exec (.retryCountReset p) s = .next t ∧ (t.room p).fld RETRY_STAT_COUNT = 0 ∧
      (t.room p).conv.outAt = none) ∧
  (∀ (s : State) (p : Fin 48), s.live p = true → (s.room p).fetWatch = true →
    due s.now (s.room p).conv.fetAt 20000 = true → due s.now (s.room p).conv.fetHi 1000 = true →
    ∃ t, exec (.fetShort p) s = .next t ∧ (t.room p).bit FAULT_FET_SHORT = true ∧ (t.room p).safe = true)

/-- R309 to R326, R331, R332: the states that a slot passes from seating to ON, and its controls. -/
def Obligations.SlotStart : Prop :=
  (∀ (s : State) (b : Fin 6) (x y : Bool), s.slotPresent b = true →
    ∃ t, exec (.seatChange b x y) s = .next t ∧ (t.land b).bit HS_STAT_SEAT1 = x ∧ (t.land b).bit HS_STAT_SEAT2 = y) ∧
  (∀ (s : State) (b : Fin 6) (m : SlotMeas), s.slotMay b = true → (s.land b).st = hSeating →
    (s.land b).tseatMet s.now = true → 34000 ≤ vinMv m →
    ∃ t, exec (.tseat b m) s = .next t ∧ (t.land b).st = hInrush ∧ (t.land b).entry = s.now) ∧
  (∀ (s : State) (b : Fin 6) (m : SlotMeas), s.slotMay b = true → (s.land b).st = hSeating →
    (s.land b).tseatMet s.now = true → 34000 ≤ vinMv m →
    ∃ t, exec (.vslotinRise b m) s = .next t ∧ (t.land b).st = hInrush ∧ (t.land b).entry = s.now) ∧
  (∀ (s : State) (b : Fin 6) (m : SlotMeas), s.slotLive b = true → (s.land b).st = hInrush → vdsUv m ≤ 1000000 →
    ∃ t, exec (.gateUp b m) s = .next t ∧ (t.land b).st = hGateUp) ∧
  (∀ (s : State) (b : Fin 6) (m : SlotMeas) (x : Nat), s.slotLive b = true → (s.land b).st = hGateUp →
    m.full = true → 95 * vinMv m ≤ 100 * voutMv m → (s.land b).goodAt = some x → x + 100 ≤ s.now →
    ∃ t, exec (.slotOn b m) s = .next t ∧ (t.land b).st = hOn ∧ (t.land b).bit HS_STAT_PG = true ∧
      ∀ p : Fin 48, landOf p = b → s.pl.whole p.val = true → (t.room p).slotHold = false) ∧
  (∀ (s : State) (b : Fin 6) (m : SlotMeas) (k : Fin 3), s.slotLive b = true → (s.land b).powered = true →
    ∃ t, exec (.slotLimitEdge b k m) s = .next t ∧ (t.land b).fld HS_STAT_LIMIT = k.val) ∧
  (∀ (s : State) (b : Fin 6), s.slotPresent b = true → s.clampBit (.land b.val 0x40) HS_CTRL_EN true = true →
    ∃ t, exec (.hsEnSet b) s = .next t ∧ (t.land b).bit HS_CTRL_EN = true) ∧
  (∀ (s : State) (b : Fin 6), s.slotLive b = true → s.clampBit (.land b.val 0x40) HS_CTRL_EN false = false →
    ∃ t, exec (.hsEnClear b) s = .next t ∧ (t.land b).bit HS_CTRL_EN = false ∧ (t.land b).st = hOff) ∧
  (∀ (s : State) (b : Fin 6) (m : SlotMeas), s.slotLive b = true → (s.land b).st = hLatched → voutMv m ≤ 2000 →
    s.dieHot = false →
    ∃ t, exec (.hsRecover b m) s = .next t ∧ (t.land b).st ≠ hLatched ∧ (t.land b).powered = false) ∧
  (∀ (s : State) (b : Fin 6) (v : Word), s.slotPresent b = true →
    (s.pl.slot b.val).imax < 2 ^ HS_LIMIT_ILIM.width →
    ∃ t, exec (.hsLimitWrite b v) s = .next t ∧ (t.land b).fld HS_LIMIT_ILIM =
      min (s.clampField (.land b.val 0x44) HS_LIMIT_ILIM (HS_LIMIT_ILIM.of v)) (s.pl.slot b.val).imax)

/-- R311, R314, R321 to R325, R328 to R331: the faults of a slot and its retries. -/
def Obligations.SlotFaults : Prop :=
  (∀ (s : State) (b : Fin 6) (y : Bool), s.slotLive b = true → (s.land b).powered = true →
    ∃ t, exec (.seatLift b false y) s = .next t ∧ (t.land b).st = hUnseated ∧
      (t.land b).bit HS_FAULT_SEAT_LIFT = true) ∧
  (∀ (s : State) (b : Fin 6), s.slotLive b = true → (s.land b).st = hInrush → 1000000 < vdsUv (s.land b).meas →
    (s.land b).entry + 1000 * (s.land b).fld HS_TIME_TINR ≤ s.now →
    ∃ t, exec (.inrushTo b) s = .next t ∧ (t.land b).bit HS_FAULT_INRUSH_TO = true ∧ (t.land b).powered = false ∧
      (t.land b).fltN = true) ∧
  (∀ (s : State) (b : Fin 6) (neg : Bool), s.slotLive b = true → (s.land b).powered = true →
    ∃ t, exec (.short b neg) s = .next t ∧ (t.land b).bit HS_FAULT_SHORT = true ∧ (t.land b).powered = false) ∧
  (∀ (s : State) (b : Fin 6), s.slotLive b = true → (s.land b).powered = true →
    400 * (s.land b).fld HS_TIME_TFLT ≤ (s.land b).fltQ →
    ∃ t, exec (.breaker b) s = .next t ∧ (t.land b).bit HS_FAULT_BREAKER = true ∧ (t.land b).powered = false) ∧
  (∀ (s : State) (b : Fin 6) (m : SlotMeas) (x : Nat), s.slotLive b = true → (s.land b).st = hOn →
    (s.land b).fld HS_STAT_LIMIT = 0 → 100 * voutMv m < 90 * vinMv m → (s.land b).pgLow = some x → x + 100 ≤ s.now →
    (s.land b).shed = none →
    ∃ t, exec (.pgLoss b m) s = .next t ∧ (t.land b).bit HS_STAT_PG = false ∧
      (t.land b).bit HS_FAULT_PG_LOSS = true ∧ (t.land b).shed = some (1, s.now, true)) ∧
  (∀ (s : State) (b : Fin 6) (m : SlotMeas) (x : Nat), s.slotMay b = true → (s.land b).fetState = true →
    due s.now (s.land b).offAt (100000 * (s.land b).fld HS_RETRY_TDIS) = true → 2000 < voutMv m →
    (s.land b).hiAt = some x → x + 20000 ≤ s.now →
    ∃ t, exec (.slotFetShort b m) s = .next t ∧ (t.land b).st = hLatched ∧
      (t.land b).bit HS_FAULT_FET_SHORT = true ∧ (t.land b).fltN = true) ∧
  (∀ (s : State) (b : Fin 6) (m : SlotMeas), s.slotLive b = true → (s.land b).st = hRetry →
    due s.now (s.land b).retryAt (100000 * (s.land b).fld HS_RETRY_PER * (s.land b).retryK) = true →
    (s.land b).seatedBoth = true → s.modelHot (48 + b.val) = false →
    ∃ t, exec (.slotAttempt b m) s = .next t ∧ (t.land b).attempt = true ∧ (t.land b).bit HS_EVENT_ATTEMPT = true ∧
      (t.land b).st ≠ hRetry) ∧
  (∀ (s : State) (b : Fin 6), s.slotLive b = true → (s.land b).st = hOn → (s.land b).attempt = true →
    (s.land b).shed = none → (s.land b).entry + 100000 ≤ s.now →
    ∃ t, exec (.slotAttemptOk b) s = .next t ∧ (t.land b).attempt = false ∧
      (t.land b).bit HS_EVENT_ATTEMPT_OK = true ∧ (t.land b).retryAt = none) ∧
  (∀ (s : State) (b : Fin 6), s.slotLive b = true → (s.land b).st = hOn → (s.land b).entry + 60000000 ≤ s.now →
    ∃ t, exec (.slotCountReset b) s = .next t ∧ (t.land b).fld HS_STAT_COUNT = 0)

/-- R363 to R368, R377, R378: the ideal diode and battery operation of the Pantry. -/
def Obligations.BatteryOperation : Prop :=
  (∀ (s : State) (m : PanMeas), s.panLive = true → 20 * m.sys.toNat + s.fld ID_CFG_FWD_MV < 20 * m.vbat.toNat →
    s.bit PAN_CTRL_EN = true → s.bit CHG_STAT_PRES = true → s.bit CHG_STAT_CUTOFF = false → charging s.pst = false →
    s.modelState 55 ≠ 3 → s.pantry.rev = false →
    ∃ t, exec (.qidOn m) s = .next t ∧ t.bit CHG_STAT_QID_ON = true ∧ t.bit CHG_STAT_BATT_ACTIVE = true) ∧
  (∀ (s : State) (m : PanMeas), s.panLive = true →
    20 * m.vbat.toNat * 10000 + 46875 * s.fld PAN_THR_REV_EFF < 20 * m.sys.toNat * 10000 →
    ∃ t, exec (.idRevTrip m) s = .next t ∧ t.bit CHG_STAT_QID_ON = false ∧ t.pantry.rev = true) ∧
  (∀ (s : State) (m : PanMeas), s.panLive = true → 20 * m.vbusIn.toNat < 52000 → s.bit CHG_STAT_PRES = true →
    s.bit CHG_STAT_CUTOFF = false →
    ∃ t, exec (.batteryOperationBegin m) s = .next t ∧ t.bit CHG_STAT_BATT_ACTIVE = true) ∧
  (∀ s : State, s.panLive = true → s.bit PAN_CTRL_BM_AUTO = true → s.bit CHG_STAT_BATT_ACTIVE = true →
    due s.now s.pantry.batAt 1000 = true → s.pantry.mode = none → s.fld HALL_MODE_MODE = mNormal →
    ∃ t, exec .batteryMode s = .next t ∧ t.fld HALL_MODE_MODE = mBattery) ∧
  (∀ (s : State) (m : PanMeas), s.panLive = true → s.bit CHG_STAT_BATT_ACTIVE = true → s.bit CHG_STAT_QID_ON = false →
    54000 ≤ 20 * m.vbusIn.toNat → due s.now s.pantry.retAt (1000000 * s.fld ID_CFG_BM_EXIT) = true →
    ∃ t, exec (.batteryOperationEnd m) s = .next t ∧ t.bit CHG_STAT_BATT_ACTIVE = false ∧
      t.bit PANTRY_EVENT_BATT_OFF = true) ∧
  (∀ (s : State) (m : PanMeas), s.panLive = true → 54000 ≤ 20 * m.vbusIn.toNat →
    ∃ t, exec (.vbusInReturn m) s = .next t ∧ t.bit CHG_STAT_CUTOFF = false) ∧
  (∀ (s : State) (mean : Nat), s.panLive = true → s.bit CHG_STAT_BATT_ACTIVE = true →
    mean ≤ s.panPlan.cells * s.fld BAT_VOLT_LOW_V →
    ∃ t, exec (.batLow mean) s = .next t ∧ t.bit CHG_STAT_BAT_LOW = true) ∧
  (∀ (s : State) (mean : Nat), s.panLive = true → s.bit CHG_STAT_BATT_ACTIVE = true → mean ≤ s.cutLevel →
    s.pantry.cutLevel = s.cutLevel → due s.now s.pantry.cutAt 5000000 = true → s.bit CHG_STAT_CUTOFF = false →
    ∃ t, exec (.cutoff mean) s = .next t ∧ t.bit CHG_STAT_CUTOFF = true ∧ t.bit CHG_STAT_QID_ON = false) ∧
  (∀ (s : State) (present : Bool), s.panPresent = true → s.bit CHG_STAT_PRES = !present →
    ∃ t, exec (.batPresChange present) s = .next t ∧ t.bit CHG_STAT_PRES = present ∧
      t.bit PANTRY_EVENT_PRES_CHANGE = true)

/-- R369 to R376: the charger: qualification, charging, termination, pause, faults. -/
def Obligations.Charger : Prop :=
  (∀ s : State, s.panLive = true → s.pst = pWaitPres → s.bit CHG_STAT_PRES = true →
    s.pantry.presAt + 2000000 ≤ s.now →
    ∃ t, exec .presStable s = .next t ∧ t.pst = pQualify) ∧
  (∀ (s : State) (mean : Nat), s.panLive = true → s.pst = pQualify → s.pantry.qStep = 3 →
    s.panPlan.cells * 800 ≤ mean → mean ≤ s.panPlan.cells * 1600 →
    ∃ t, exec (.qualification mean) s = .next t ∧ t.pantry.qStep = 4 ∧ t.pantry.qBase = mean) ∧
  (∀ (s : State) (m : PanMeas), s.panLive = true → s.pst = pPrecharge → s.panPlan.cells * 1000 ≤ 20 * m.vbat.toNat →
    due s.now s.pantry.preOk 10000000 = true →
    ∃ t, exec (.prechargeDone m) s = .next t ∧ t.pst = pFast) ∧
  (∀ s : State, s.panLive = true → s.pst = pPrecharge → 1800000000 ≤ s.pantry.preUs →
    due s.now s.pantry.preOk 10000000 = false →
    ∃ t, exec .preTimeout s = .next t ∧ t.bit PANTRY_FAULT_PRE_TIMEOUT = true) ∧
  (∀ (s : State) (mean : Nat), s.panLive = true → s.heldOff = true → 1 ≤ s.pantry.ndvRow →
    mean + s.panPlan.cells * s.fld CHG_TERM_NDV ≤ s.pantry.peak → s.fld PAN_CTRL_TERM_SEL ≠ 2 →
    ∃ t, exec (.ndvWindow mean) s = .next t ∧ t.pst = pTrickle ∧ t.fld CHG_STAT_TERM_CAUSE = 1) ∧
  (∀ (s : State) (mean t6 : Int), s.panLive = true → s.heldOff = true → 2 ≤ s.pantry.dtRow →
    s.pantry.temps[5]? = some t6 → 10 * (s.fld CHG_TERM_DTDT : Int) ≤ mean - t6 → s.fld PAN_CTRL_TERM_SEL ≠ 1 →
    ∃ t, exec (.dtdtEvaluation mean) s = .next t ∧ t.pst = pTrickle ∧ t.fld CHG_STAT_TERM_CAUSE = 2) ∧
  (∀ s : State, s.panLive = true → s.pst = pFast → 60000000 * s.fld CHG_TERM_TSAFE ≤ s.pantry.fastUs →
    ∃ t, exec .safetyTmr s = .next t ∧ t.bit PANTRY_FAULT_SAFETY_TMR = true) ∧
  (∀ (s : State) (uv : Nat) (c : Int), s.panPresent = true → s.hallKeeper = false →
    ntcTemp (s.fld NTC_CFG_BETA) (s.fld NTC_CFG_R25) uv = some c →
    ∃ t, exec (.ntcConversion uv) s = .next t ∧ t.fld BAT_TEMP_T = enc16 c % 65536) ∧
  (∀ (s : State) (m : PanMeas), s.panLive = true → charging s.pst = true → s.bit CHG_STAT_BATT_ACTIVE = true →
    s.pantry.ask.isSome = true →
    ∃ t, exec (.pause m) s = .next t ∧ t.pst = pPause ∧ t.fld CHG_STAT_PAUSE_CAUSE = 2) ∧
  (∀ s : State, s.panLive = true → s.pst = pPause → s.fld CHG_STAT_PAUSE_CAUSE = 1 →
    s.pantry.askAt + 10000000 ≤ s.now →
    ∃ t, exec .budgetPauseRetry s = .next t ∧ t.pantry.ask.isSome = true ∧ t.pantry.askAt = s.now) ∧
  (∀ (s : State) (w : Nat), s.panLive = true → s.pantry.ask = some w →
    ∃ t, exec .chargerGrant s = .next t ∧ t.pantry.ask = none ∧ t.chgGrant ≤ w) ∧
  (∀ s : State, s.panLive = true →
    ∃ t, exec .pOvTrip s = .next t ∧ t.pantry.povAt.isSome = true ∧ t.fld CHG_STAT_CHG_I = 0) ∧
  (∀ s : State, s.panLive = true → s.bit CHG_STAT_PRES = true → due s.now s.pantry.povAt 10000 = true → s.pst ≠ pFault →
    ∃ t, exec .chgOv s = .next t ∧ t.bit PANTRY_FAULT_CHG_OV = true) ∧
  (∀ (s : State) (neg : Bool), s.panLive = true → s.pantry.pwm ≠ 2 →
    ∃ t, exec (.pPkTrip neg) s = .next t ∧ t.pantry.pwm = if neg then 2 else 0) ∧
  (∀ (s : State) (m : PanMeas), s.panLive = true →
    ∃ t, exec (.chargerPeriodStart m) s = .next t ∧ t.pantry.pk = none) ∧
  (∀ s : State, s.panLive = true → s.pst = pTrickle →
    ∃ t, exec .start s = .next t ∧ t.pst = pFast) ∧
  (∀ (s : State) (m : PanMeas), s.panLive = true → s.pst = pFault → s.pantry.ntcBad ≠ 3 →
    20 * m.vbat.toNat ≤ 80 * s.fld PAN_THR_OV_EFF →
    ∃ t, exec (.restart m) s = .next t ∧ t.pst = pWaitPres ∧ t.pantry.povAt = none) ∧
  (∀ (s : State) (en : Bool), s.panPresent = true →
    ∃ t, exec (.panEnWrite en) s = .next t ∧ t.bit PAN_CTRL_EN = s.clampBit (.hall 0x50000) PAN_CTRL_EN en) ∧
  (∀ s : State, s.clocked = true →
    ∃ t, exec .lampSlot s = .next t ∧ t.lamps.slot = (s.lamps.slot + 1) % 16 ∧
      t.lamps.a = (s.lampPattern (s.fld LAMP_A_MODE) (s.fld LAMP_A_SRC) (s.fld LAMP_A_PATTERN)).testBit s.lamps.slot)

/-- R600 to R605: the global mode, its acknowledges, and the FIRE_N path. -/
def Obligations.GlobalMode : Prop :=
  (∀ (s : State) (m : Nat), s.booted = true → s.hallKeeper = true → m < 5 → s.bit FIRE_CFG_EN = false →
    s.clampField (.hall 0x040) HALL_MODE_MODE m = m →
    ∃ t, exec (.hallModeWrite .hall m) s = .next t ∧ t.fld HALL_MODE_MODE = m ∧
      t.fld HALL_MODE_EPOCH = (s.fld HALL_MODE_EPOCH + 1) % 65536) ∧
  (∀ (s : State) (p : Fin 48), s.live p = true → (s.room p).epoch ≠ s.fld HALL_MODE_EPOCH → (s.room p).safePoint = true →
    ∃ t, exec (.modeApply p) s = .next t ∧ (t.room p).fld STATUS_MODE = s.fld HALL_MODE_MODE ∧
      (t.room p).bit EVENT_MODE_APPLIED = true) ∧
  (∀ (s : State) (p : Fin 48), s.live p = true → s.bit HALL_MODE_PENDING = true → s.mode.since + 50000 ≤ s.now →
    (s.room p).epoch ≠ s.fld HALL_MODE_EPOCH →
    ∃ t, exec (.forcedMode (landOf p)) s = .next t ∧ (t.room p).bit FAULT_FORCED_MODE = true) ∧
  (∀ s : State, s.booted = true → s.bit FIRE_CFG_EN = true →
    ∃ t, exec .fireN s = .next t ∧ t.bit FIRE_CFG_FIRE_IN = true ∧ t.fld HALL_MODE_MODE = mFire) ∧
  (∀ s : State, s.booted = true → s.bit FIRE_CFG_FIRE_IN = true →
    ∃ t, exec .fireNRelease s = .next t ∧ t.bit FIRE_CFG_FIRE_IN = false)

/-- R338 to R349, R357, R587, R663: the thermal models, the board references and the power-balance check. -/
def Obligations.ThermalModels : Prop :=
  (∀ (s : State) (die : Nat) (r : ModelRec), s.booted = true → s.plan.isSome = true → s.modelRec 0 = some r →
    s.holdsModel 0 = true → 0 < s.hearth.models.length →
    ∃ t, exec (.hearthUpdate die) s = .next t ∧ t.hearth.die = die ∧
      (t.model 0).dt = (List.range 3).map fun i =>
        stage (r.theta.getD i 0) (r.tau.getD i 0) (s.modelHeat 0 r (s.model 0)) ((s.model 0).dt.getD i 0)) ∧
  (∀ (s : State) (m : Fin 57) (r : ModelRec), s.booted = true → s.holdsModel m.val = true → (s.model m.val).st = 1 →
    due s.now (s.model m.val).warnAt (s.graceOf m.val) = true → s.modelRec m.val = some r →
    100 * r.twarn ≤ (s.model m.val).tj → (s.model m.val).tj < 100 * r.ttrip → m.val < s.hearth.models.length →
    ∃ t, exec (.grace m) s = .next t ∧ (t.model m.val).st = 2) ∧
  (∀ (s : State) (m : Fin 57) (r : ModelRec), s.booted = true → s.holdsModel m.val = true → (s.model m.val).st = 2 →
    old s.now (s.model m.val).ithAt 100000 = true → s.modelRec m.val = some r → m.val < s.hearth.models.length →
    ∃ t, exec (.ithRecompute m) s = .next t ∧ (t.model m.val).ith = s.ithOf m.val r ∧
      (t.model m.val).ithAt = s.now) ∧
  (∀ (s : State) (m : Fin 57), s.booted = true → s.holdsModel m.val = true → m.val ≠ 56 → (s.model m.val).st = 2 →
    s.released m.val = true → due s.now (s.model m.val).relAt 1000000 = true → m.val < s.hearth.models.length →
    ∃ t, exec (.clampRelease m) s = .next t ∧ (t.model m.val).st = 0) ∧
  (∀ (s : State) (r : ModelRec), s.modelRec 56 = some r →
    r.ttrip ≤ (if s.hearth.gradeHigh then 1350 else 1250) ∧ r.twarn < (if s.hearth.gradeHigh then 1350 else 1250)) ∧
  (∀ s : State, s.booted = true → (s.model 56).st ≠ 0 → due s.now (s.model 56).coolAt 1000000 = true →
    56 < s.hearth.models.length →
    ∃ t, exec .dieCapRelease s = .next t ∧ (t.model 56).st = 0 ∧ t.fld HEARTH_STAT_DIE_STATE = 0) ∧
  (∀ (s : State) (a b : Nat), s.booted = true → 100 ≤ a → a ≤ 1750 → 100 ≤ b → b ≤ 1750 → s.hearth.tamb.length = 2 →
    ∃ t, exec (.tambConversion a b) s = .next t ∧ t.hearth.tamb = [(a : Int) - 500, (b : Int) - 500] ∧
      t.fld HEARTH_TAMB_T0 = enc16 ((a : Int) - 500) ∧ t.fld HEARTH_TAMB_T1 = enc16 ((b : Int) - 500)) ∧
  (∀ (s : State) (b : Fin 6) (slot : Int) (ports : List Int), s.slotLive b = true → (s.land b).st = hOn →
    ∃ t, exec (.powerBalanceCheck b slot ports) s = .next t ∧
      (t.land b).fld (BUD_STAT_BAL_MISMATCH.shift 0xC0) =
        (unbalanced slot (expPower ((s.land b).fld BUD_CFG_EFF) ((s.land b).fld BUD_CFG_PAUX) ports)).toNat)

/-- R410 to R430: time base, timers, energy counters and captures. -/
def Obligations.TimeAndCaptures : Prop :=
  (∀ s : State, s.clocked = true → s.clk.loadDue = false → (s.link 0).rx = [] → (s.link 1).rx = [] →
    ∃ t, exec .tick s = .next t ∧ t.now = s.now + 1 ∧ t.tb = (s.tb + 1) % 2 ^ 64) ∧
  (∀ s : State, s.clocked = true → s.clk.loadDue = true → (s.link 0).rx = [] → (s.link 1).rx = [] →
    ∃ t, exec .tick s = .next t ∧ t.now = s.now + 1 ∧ t.clk.loadDue = false ∧
      t.tb = s.fld TB_SET_LO_SET + 2 ^ 32 * s.fld TB_SET_HI_SET) ∧
  (∀ s : State, s.booted = true → s.scheduled = false → s.pairMode = false →
    ∃ t, exec .load s = .next t ∧ t.clk.loadDue = true) ∧
  (∀ (s : State) (p : Fin 48) (n : Fin 8), s.live p = true →
    tmrDue (.room p) s.tb (s.room p).regs n.val = true →
    ∃ t, exec (.timerFire (.room p) n) s = .next t ∧ ((t.room p).fld TMR_FLAG_FIRED).testBit n.val = true) ∧
  (∀ (s : State) (p : Fin 48) (n : Fin 8) (v : Word), s.whole p = true →
    s.range (.roomReg p.val (0x300 + 16 * n.val)) (TmrBlock.f (.room p) TMR_CTRL_EN n.val) = none →
    ∃ t, exec (.tmrCtrlWrite (.room p) n v) s = .next t ∧
      (t.room p).fld (TmrBlock.f (.room p) TMR_CTRL_EN n.val) = TMR_CTRL_EN.of v) ∧
  (∀ (s : State) (p : Fin 48) (n : Fin 8) (v : Word), s.whole p = true →
    s.range (.roomReg p.val (0x304 + 16 * n.val)) (TmrBlock.f (.room p) TMR_CMP_VALUE n.val) = none →
    ∃ t, exec (.tmrCmpWrite (.room p) n v) s = .next t ∧
      (t.room p).fld (TmrBlock.f (.room p) TMR_CMP_VALUE n.val) = v.toNat) ∧
  (∀ (s : State) (p : Fin 48) (n : Fin 8) (v : Word), s.whole p = true →
    (s.room p).fld (TmrBlock.f (.room p) TMR_CTRL_SRC n.val) ≠ 0 →
    s.range (.roomReg p.val (0x308 + 16 * n.val)) (TmrBlock.f (.room p) TMR_CNT_VALUE n.val) = none →
    ∃ t, exec (.tmrCntWrite (.room p) n v) s = .next t ∧
      (t.room p).fld (TmrBlock.f (.room p) TMR_CNT_VALUE n.val) = v.toNat) ∧
  (∀ (s : State) (p : Fin 48), s.live p = true →
    ∃ t, exec .energyUpdate s = .next t ∧ t.room p = (s.room p).addEnergy
      ((s.room p).fld ADC_VBUS_AVG * (s.pl.members p.val).foldl (fun a m => a + s.exactCurrent m) 0)) ∧
  (∀ s : State, s.clocked = true → s.bit SNAP_CTRL_DRIVE = false → s.snapBars = false → s.snap.cap = none →
    ∃ t, exec .snapTrig s = .next t ∧ t.snap.cap = some 0) ∧
  (∀ s : State, s.clocked = true → s.snapIoLow = false → s.bit SNAP_CTRL_IN_EN = true → s.snapBars = false →
    s.snap.cap = none →
    ∃ t, exec (.snapIoEdge true) s = .next t ∧ t.snap.cap = some 1 ∧ t.snap.low = true) ∧
  (∀ s : State, s.clocked = true → due s.now s.snap.drive 1 = true →
    ∃ t, exec .snapIoRelease s = .next t ∧ t.snap.drive = none) ∧
  (∀ s : State, s.clocked = true → s.snap.cap = some 1 →
    ∃ t, exec .capture s = .next t ∧ t.snap.cap = none ∧ t.snap.capAt = some s.now ∧ t.fld SNAP_CTRL_SRC = 1 ∧
      t.fld SNAP_EPOCH_EPOCH = (s.fld SNAP_EPOCH_EPOCH + 1) % 2 ^ 32 ∧
      ∀ p : Fin 48, s.pl.whole p.val = true →
        (t.room p).regs.get 0x3E0 = s.roomView p ADC_VBUS_AVG.off ∧ (t.room p).regs.get 0x3E8 = s.roomView p CON_VI_MV.off)

/-- R392, R393: the arithmetic instructions with two registers write their result into rd, step the PC and leave all else;
a field that they do not use and that is not 0 is an ILLEGAL trap instead. -/
def Obligations.ArithmeticInstructions : Prop :=
  ∀ (s : State) (c : CoreId) (rd ra rb : Fin 16), s.seqReady c = true →
  (∃ t, exec (.add c rd ra rb 0) s = .next t ∧
    t.butLinks = ((s.moved c).setRg c rd (s.rg c ra + s.rg c rb)).butLinks) ∧
  (∃ t, exec (.sub c rd ra rb 0) s = .next t ∧
    t.butLinks = ((s.moved c).setRg c rd (s.rg c ra - s.rg c rb)).butLinks) ∧
  (∃ t, exec (.and c rd ra rb 0) s = .next t ∧
    t.butLinks = ((s.moved c).setRg c rd (s.rg c ra &&& s.rg c rb)).butLinks) ∧
  (∃ t, exec (.or c rd ra rb 0) s = .next t ∧
    t.butLinks = ((s.moved c).setRg c rd (s.rg c ra ||| s.rg c rb)).butLinks) ∧
  (∃ t, exec (.xor c rd ra rb 0) s = .next t ∧
    t.butLinks = ((s.moved c).setRg c rd (s.rg c ra ^^^ s.rg c rb)).butLinks) ∧
  (∃ t, exec (.sll c rd ra rb 0) s = .next t ∧
    t.butLinks = ((s.moved c).setRg c rd (s.rg c ra <<< ((s.rg c rb).toNat % 32))).butLinks) ∧
  (∃ t, exec (.srl c rd ra rb 0) s = .next t ∧
    t.butLinks = ((s.moved c).setRg c rd (s.rg c ra >>> ((s.rg c rb).toNat % 32))).butLinks) ∧
  (∃ t, exec (.sra c rd ra rb 0) s = .next t ∧
    t.butLinks = ((s.moved c).setRg c rd ((s.rg c ra).sshiftRight ((s.rg c rb).toNat % 32))).butLinks) ∧
  (∃ t, exec (.mul c rd ra rb 0) s = .next t ∧
    t.butLinks = ((s.moved c).setRg c rd (s.rg c ra * s.rg c rb)).butLinks) ∧
  (∃ t, exec (.mulh c rd ra rb 0) s = .next t ∧
    t.butLinks = ((s.moved c).setRg c rd (BitVec.ofInt 32 ((s.rg c ra).toInt * (s.rg c rb).toInt / 2 ^ 32))).butLinks) ∧
  (∃ t, exec (.mulhu c rd ra rb 0) s = .next t ∧
    t.butLinks = ((s.moved c).setRg c rd (BitVec.ofNat 32 ((s.rg c ra).toNat * (s.rg c rb).toNat / 2 ^ 32))).butLinks) ∧
  (∃ t, exec (.divu c rd ra rb 0) s = .next t ∧
    t.butLinks = ((s.moved c).setRg c rd (if s.rg c rb = 0 then 0xFFFFFFFF#32 else s.rg c ra / s.rg c rb)).butLinks) ∧
  (∃ t, exec (.remu c rd ra rb 0) s = .next t ∧
    t.butLinks = ((s.moved c).setRg c rd (if s.rg c rb = 0 then s.rg c ra else s.rg c ra % s.rg c rb)).butLinks) ∧
  (∃ t, exec (.minu c rd ra rb 0) s = .next t ∧
    t.butLinks = ((s.moved c).setRg c rd (BitVec.ofNat 32 (min (s.rg c ra).toNat (s.rg c rb).toNat))).butLinks) ∧
  (∃ t, exec (.maxu c rd ra rb 0) s = .next t ∧
    t.butLinks = ((s.moved c).setRg c rd (BitVec.ofNat 32 (max (s.rg c ra).toNat (s.rg c rb).toNat))).butLinks) ∧
  (∀ z : BitVec 14, z ≠ 0 → (s.core c).inEvt = false →
    ∃ t, exec (.add c rd ra rb z) s = .next t ∧
      t.core c = { Core.enter c 0 (s.core c) with trap := trIllegal, evTrap := trIllegal })

/-- R393: the compare instructions write 1 or 0 into rd, step the PC and leave all else. -/
def Obligations.CompareInstructions : Prop :=
  ∀ (s : State) (c : CoreId) (rd ra rb : Fin 16) (imm : BitVec 18), s.seqReady c = true →
  (∃ t, exec (.ceq c rd ra rb 0) s = .next t ∧
    t.butLinks = ((s.moved c).setRg c rd (if s.rg c ra = s.rg c rb then 1 else 0)).butLinks) ∧
  (∃ t, exec (.cne c rd ra rb 0) s = .next t ∧
    t.butLinks = ((s.moved c).setRg c rd (if s.rg c ra ≠ s.rg c rb then 1 else 0)).butLinks) ∧
  (∃ t, exec (.clt c rd ra rb 0) s = .next t ∧
    t.butLinks = ((s.moved c).setRg c rd (if (s.rg c ra).toInt < (s.rg c rb).toInt then 1 else 0)).butLinks) ∧
  (∃ t, exec (.cltu c rd ra rb 0) s = .next t ∧
    t.butLinks = ((s.moved c).setRg c rd (if (s.rg c ra).toNat < (s.rg c rb).toNat then 1 else 0)).butLinks) ∧
  (∃ t, exec (.cge c rd ra rb 0) s = .next t ∧
    t.butLinks = ((s.moved c).setRg c rd (if (s.rg c rb).toInt ≤ (s.rg c ra).toInt then 1 else 0)).butLinks) ∧
  (∃ t, exec (.cgeu c rd ra rb 0) s = .next t ∧
    t.butLinks = ((s.moved c).setRg c rd (if (s.rg c rb).toNat ≤ (s.rg c ra).toNat then 1 else 0)).butLinks) ∧
  (∃ t, exec (.ceqi c rd ra imm) s = .next t ∧
    t.butLinks = ((s.moved c).setRg c rd (if s.rg c ra = sx18 imm then 1 else 0)).butLinks) ∧
  (∃ t, exec (.cnei c rd ra imm) s = .next t ∧
    t.butLinks = ((s.moved c).setRg c rd (if s.rg c ra ≠ sx18 imm then 1 else 0)).butLinks) ∧
  (∃ t, exec (.clti c rd ra imm) s = .next t ∧
    t.butLinks = ((s.moved c).setRg c rd (if (s.rg c ra).toInt < (sx18 imm).toInt then 1 else 0)).butLinks) ∧
  (∃ t, exec (.cltui c rd ra imm) s = .next t ∧
    t.butLinks = ((s.moved c).setRg c rd (if (s.rg c ra).toNat < (sx18 imm).toNat then 1 else 0)).butLinks) ∧
  (∃ t, exec (.cgei c rd ra imm) s = .next t ∧
    t.butLinks = ((s.moved c).setRg c rd (if (sx18 imm).toInt ≤ (s.rg c ra).toInt then 1 else 0)).butLinks) ∧
  (∃ t, exec (.cgeui c rd ra imm) s = .next t ∧
    t.butLinks = ((s.moved c).setRg c rd (if (sx18 imm).toNat ≤ (s.rg c ra).toNat then 1 else 0)).butLinks)

/-- R393: the instructions with an immediate write their result into rd, step the PC and leave all else. -/
def Obligations.ImmediateInstructions : Prop :=
  ∀ (s : State) (c : CoreId) (rd ra : Fin 16) (imm : BitVec 18), s.seqReady c = true →
  (∃ t, exec (.addi c rd ra imm) s = .next t ∧
    t.butLinks = ((s.moved c).setRg c rd (s.rg c ra + imm.signExtend 32)).butLinks) ∧
  (∃ t, exec (.andi c rd ra imm) s = .next t ∧
    t.butLinks = ((s.moved c).setRg c rd (s.rg c ra &&& imm.zeroExtend 32)).butLinks) ∧
  (∃ t, exec (.ori c rd ra imm) s = .next t ∧
    t.butLinks = ((s.moved c).setRg c rd (s.rg c ra ||| imm.zeroExtend 32)).butLinks) ∧
  (∃ t, exec (.xori c rd ra imm) s = .next t ∧
    t.butLinks = ((s.moved c).setRg c rd (s.rg c ra ^^^ imm.zeroExtend 32)).butLinks) ∧
  (imm.toNat < 32 → ∃ t, exec (.slli c rd ra imm) s = .next t ∧
    t.butLinks = ((s.moved c).setRg c rd (s.rg c ra <<< imm.toNat)).butLinks) ∧
  (imm.toNat < 32 → ∃ t, exec (.srli c rd ra imm) s = .next t ∧
    t.butLinks = ((s.moved c).setRg c rd (s.rg c ra >>> imm.toNat)).butLinks) ∧
  (imm.toNat < 32 → ∃ t, exec (.srai c rd ra imm) s = .next t ∧
    t.butLinks = ((s.moved c).setRg c rd ((s.rg c ra).sshiftRight imm.toNat)).butLinks) ∧
  (∀ hi : BitVec 22, ∃ t, exec (.lui c rd hi) s = .next t ∧
    t.butLinks = ((s.moved c).setRg c rd (BitVec.ofNat 32 (1024 * hi.toNat))).butLinks)

/-- R393, R400: branches and jumps set the PC, JAL and JALR write the address after them into rd, and all else stays; a
target of JALR that is not word-aligned is a MISALIGN trap. -/
def Obligations.JumpInstructions : Prop :=
  ∀ (s : State) (c : CoreId) (rd ra : Fin 16) (off : BitVec 22) (imm : BitVec 18), s.seqReady c = true →
  (s.rg c ra = 0 → ∃ t, exec (.bz c ra off) s = .next t ∧
    t.butLinks = ((s.moved c).setPc c ((s.core c).pc + off22 off)).butLinks) ∧
  (s.rg c ra ≠ 0 → ∃ t, exec (.bz c ra off) s = .next t ∧ t.butLinks = (s.moved c).butLinks) ∧
  (s.rg c ra ≠ 0 → ∃ t, exec (.bnz c ra off) s = .next t ∧
    t.butLinks = ((s.moved c).setPc c ((s.core c).pc + off22 off)).butLinks) ∧
  (s.rg c ra = 0 → ∃ t, exec (.bnz c ra off) s = .next t ∧ t.butLinks = (s.moved c).butLinks) ∧
  (∃ t, exec (.jal c rd off) s = .next t ∧
    t.butLinks = (((s.moved c).setRg c rd ((s.core c).pc + 4)).setPc c ((s.core c).pc + off22 off)).butLinks) ∧
  ((s.rg c ra + sx18 imm).toNat % 4 = 0 → ∃ t, exec (.jalr c rd ra imm) s = .next t ∧
    t.butLinks = (((s.moved c).setRg c rd ((s.core c).pc + 4)).setPc c (s.rg c ra + sx18 imm)).butLinks) ∧
  ((s.rg c ra + sx18 imm).toNat % 4 ≠ 0 → (s.core c).inEvt = false → ∃ t, exec (.jalr c rd ra imm) s = .next t ∧
    t.core c = { Core.enter c 0 (s.core c) with trap := trMisalign, evTrap := trMisalign })

/-- R386, R388, R393: loads and stores of a Room core in its data RAM; nothing but rd and the PC, or the stored bytes and
the PC, changes. -/
def Obligations.RoomLoadsAndStores : Prop :=
  ∀ (s : State) (p : Fin 48) (rd ra : Fin 16) (imm : BitVec 18) (a : Nat), s.seqReady (.room p) = true →
  (s.rg (.room p) ra + sx18 imm).toNat = 0x10000 + a → a < 0x1000 →
  (∃ t, exec (.lb (.room p) rd ra imm) s = .next t ∧
    t.butLinks = ((s.moved (.room p)).setRg (.room p) rd (((s.room p).data.get a).signExtend 32)).butLinks) ∧
  (∃ t, exec (.lbu (.room p) rd ra imm) s = .next t ∧
    t.butLinks = ((s.moved (.room p)).setRg (.room p) rd (((s.room p).data.get a).zeroExtend 32)).butLinks) ∧
  (a % 2 = 0 → ∃ t, exec (.lh (.room p) rd ra imm) s = .next t ∧
    t.butLinks = ((s.moved (.room p)).setRg (.room p) rd (sxBytes 2 (memWord (s.room p).data a 2))).butLinks) ∧
  (a % 2 = 0 → ∃ t, exec (.lhu (.room p) rd ra imm) s = .next t ∧
    t.butLinks = ((s.moved (.room p)).setRg (.room p) rd (memWord (s.room p).data a 2)).butLinks) ∧
  (a % 4 = 0 → ∃ t, exec (.lw (.room p) rd ra imm) s = .next t ∧
    t.butLinks = ((s.moved (.room p)).setRg (.room p) rd (memWord (s.room p).data a 4)).butLinks) ∧
  (∃ t, exec (.sb (.room p) rd ra imm) s = .next t ∧ t.butLinks =
    ((s.moved (.room p)).onRoom p fun r => { r with data := putBytes r.data a (lowBytes 1 (s.rg (.room p) rd)) }).butLinks) ∧
  (a % 2 = 0 → ∃ t, exec (.sh (.room p) rd ra imm) s = .next t ∧ t.butLinks =
    ((s.moved (.room p)).onRoom p fun r => { r with data := putBytes r.data a (lowBytes 2 (s.rg (.room p) rd)) }).butLinks) ∧
  (a % 4 = 0 → ∃ t, exec (.sw (.room p) rd ra imm) s = .next t ∧ t.butLinks =
    ((s.moved (.room p)).onRoom p fun r => { r with data := putBytes r.data a (lowBytes 4 (s.rg (.room p) rd)) }).butLinks) ∧
  (a % 4 ≠ 0 → (s.core (.room p)).inEvt = false → ∃ t, exec (.lw (.room p) rd ra imm) s = .next t ∧
    t.core (.room p) = { Core.enter (.room p) 0 (s.core (.room p)) with trap := trMisalign, evTrap := trMisalign })

/-- R393: the stepping loads and stores of a Room core in its data RAM. -/
def Obligations.SteppingLoadsAndStores : Prop :=
  ∀ (s : State) (p : Fin 48) (rd ra rb : Fin 16) (a b : Nat), s.seqReady (.room p) = true →
  (s.rg (.room p) ra).toNat = 0x10000 + a → a < 0x1000 → a % 4 = 0 →
  (∃ t, exec (.lwp (.room p) rd ra 0) s = .next t ∧ t.butLinks =
    (((s.moved (.room p)).setRg (.room p) ra (s.rg (.room p) ra + 4)).setRg (.room p) rd
      (memWord (s.room p).data a 4)).butLinks) ∧
  (∃ t, exec (.swp (.room p) rd ra 0) s = .next t ∧ t.butLinks =
    (((s.moved (.room p)).onRoom p fun r =>
      { r with data := putBytes r.data a (lowBytes 4 (s.rg (.room p) rd)) }).setRg (.room p) ra
      (s.rg (.room p) ra + 4)).butLinks) ∧
  ((s.rg (.room p) rb).toNat = 0x10000 + b → b < 0x1000 → b % 4 = 0 → ra ≠ rb →
    ∃ t, exec (.cpw (.room p) 0 ra rb 0) s = .next t ∧ t.butLinks =
      ((((s.moved (.room p)).onRoom p fun r =>
        { r with data := putBytes r.data b (lowBytes 4 (memWord r.data a 4)) }).setRg (.room p) ra
        (s.rg (.room p) ra + 4)).setRg (.room p) rb (s.rg (.room p) rb + 4)).butLinks)

/-- R385, R387, R393 to R406: repetitions, events, special registers, staging, the heartbeat and BRK. -/
def Obligations.SystemInstructions : Prop :=
  ∀ (s : State) (c : CoreId) (rd ra : Fin 16) (imm : BitVec 18), s.seqReady c = true →
  (0 < imm.toNat → imm.toNat < 65536 → ∃ t, exec (.rpt c 0 0 imm) s = .next t ∧
    t.butLinks = ((s.moved c).onCoreOf c fun k => { k with lc := imm.toNat, rep := 1 }).butLinks) ∧
  (0 < (s.rg c ra).toNat → ∃ t, exec (.rptr c 0 ra 0) s = .next t ∧
    t.butLinks = ((s.moved c).onCoreOf c fun k => { k with lc := min (s.rg c ra).toNat 65535, rep := 1 }).butLinks) ∧
  (0 < imm.toNat → imm.toNat ≤ 16 → ∃ t, exec (.rptu c 0 0 imm) s = .next t ∧
    t.butLinks = ((s.moved c).onCoreOf c fun k => { k with rptU := imm.toNat, rep := 2 }).butLinks) ∧
  ((s.core c).inEvt = false → ∃ t, exec (.wait c 0 0 0) s = .next t ∧
    t.butLinks = ((s.moved c).onCoreOf c fun k => { k with state := 2 }).butLinks) ∧
  ((s.core c).inEvt = true → ∃ t, exec (.evret c 0 0 0) s = .next t ∧
    (t.core c).pc = (s.core c).epc ∧ (t.core c).inEvt = false ∧ (t.core c).g = (s.core c).g) ∧
  (∃ t, exec (.sync c 0 0 0) s = .next t ∧ t.butLinks = (s.moved c).butLinks) ∧
  (∃ t, exec (.mfs c rd 0 0) s = .next t ∧
    t.butLinks = ((s.moved c).setRg c rd ((s.core c).pc + 4)).butLinks) ∧
  (∃ t, exec (.mfs c rd 0 1) s = .next t ∧
    t.butLinks = ((s.moved c).setRg c rd (BitVec.ofNat 32 (s.core c).lc)).butLinks) ∧
  (∃ t, exec (.mts c 0 ra 1) s = .next t ∧
    t.butLinks = ((s.moved c).onCoreOf c fun k => { k with lc := (s.rg c ra).toNat % 65536 }).butLinks) ∧
  (c = .hall → ∃ t, exec (.hbeat c 0 0 0) s = .next t ∧ t.hbeatAt = s.now ∧ t.hbMissed = false) ∧
  (∀ p : Fin 48, c = .room p → (s.core c).inEvt = false → ∃ t, exec (.hbeat c 0 0 0) s = .next t ∧
    t.hbeatAt = s.hbeatAt ∧ t.core c = { Core.enter c 0 (s.core c) with trap := trPriv, evTrap := trPriv }) ∧
  (s.debugOn = true → ∃ t, exec (.brk c 0 0 0) s = .next t ∧ (t.core c).halted = true ∧ (t.core c).cause = 3) ∧
  (∀ p : Fin 48, c = .room p → TXW0_SEND.of ((s.core c).stage.getD 0 0) = 0 →
    ∃ t, exec (.commit p rd 0) s = .next t ∧ (t.core c).rg rd = 0 ∧ (t.core c).dirty = false ∧
      ∀ i < 8, (t.room p).regs.get (0x100 + 4 * i) = (s.core c).stage.getD i 0) ∧
  (∀ p : Fin 48, c = .room p → ∃ t, exec (.discard p 0 0) s = .next t ∧ (t.core c).stage = (s.room p).published ∧
    (t.core c).dirty = false)

/-- R398, R399: an event that may be taken enters the handler of the lowest pending enabled line. -/
def Obligations.EventEntry : Prop :=
  ∀ (s : State) (c : CoreId), s.takesEvents c = true → (s.core c).stepping = false →
  ∃ t, exec (.eventEntry c) s = .next t ∧ t.butLinks =
    (s.onCoreOf c fun k => { k with epc := k.pc, evLine := lowBit (s.pendingLines c), evRpt := k.rep = 1, inEvt := true,
                                    rep := 0, state := 1, pc := vectorOf c k (lowBit (s.pendingLines c)) }).butLinks

/-- R609 to R613: the operations on the line of the debug port: what each answers and starts, and what a bad header, a line
reset, a timeout and the end of an access do. -/
def Obligations.DebugLine : Prop :=
  (∀ (op : BitVec 4) (tag : BitVec 2), op ∈ dbgOps →
    dbgOpOf (2#2 ++ op ++ tag ++ dbgChk op tag) = some op ∧ dbgTag (2#2 ++ op ++ tag ++ dbgChk op tag) = tag) ∧
  (∀ (s : State) (h : BitVec 12), s.serving = true →
    (dbgOpOf h = some 1 → ∃ t, exec (.idcode h) s = .next t ∧ t.butLinks = ({ s with dbg := { s.dbg with
        out := dbgSends (dbgTag h) 6 (some s.idcode) } } : State).butLinks) ∧
    (dbgOpOf h = some 2 → ∃ t, exec (.rdStat h) s = .next t ∧ t.butLinks = ({ s with dbg := { s.dbg with
        out := dbgSends (dbgTag h) 6 (some s.dbgStat) } } : State).butLinks) ∧
    (dbgOpOf h = some 9 → ∀ data : Word, ∃ t, exec (.dbgAbort h data (dbgCrc data)) s = .next t ∧
      t.butLinks = ({ s with dbg := { s.dbg with
        out := dbgSends (dbgTag h) 6 none, err := false, chkErr := false, acc := none,
        lastWr := some ((dbgTag h).toNat, (dbgCrc data).toNat) } } : State).butLinks) ∧
    (dbgOpOf h = some 9 → ∀ (data : Word) (crc : BitVec 8), crc ≠ dbgCrc data →
      ∃ t, exec (.dbgAbort h data crc) s = .next t ∧ t.butLinks = ({ s with dbg := { s.dbg with
        out := dbgSends (dbgTag h) 6 none, chkErr := true } } : State).butLinks) ∧
    (dbgOpOf h = none → ∃ t, exec (.chkErr h) s = .next t ∧ t.butLinks = ({ s with dbg := { s.dbg with
        chkErr := true, out := [] } } : State).butLinks) ∧
    (∃ t, exec .lineReset s = .next t ∧ t.butLinks = ({ s with dbg := s.dbg.lineEnd } : State).butLinks) ∧
    (∃ t, exec .dbgTimeout s = .next t ∧ t.butLinks = ({ s with dbg := s.dbg.lineEnd } : State).butLinks)) ∧
  (∀ (s : State) (h : BitVec 12), s.dbgFree = true →
    (dbgOpOf h = some 5 → ∃ t, exec (.rdBuf h) s = .next t ∧ t.butLinks = ({ s with dbg := { s.dbg with
        out := dbgSends (dbgTag h) 6 (some (s.regs.get 0x74044)) } } : State).butLinks) ∧
    (dbgOpOf h = some 4 → ∃ t, exec (.rdData h) s = .next t ∧
      t.fld DBG_ADDR_ADDR = (s.fld DBG_ADDR_ADDR + 4) % 2 ^ 32 ∧
      t.dbg = { s.dbg with acc := some (none, s.fld DBG_ADDR_ADDR),
                           out := dbgSends (dbgTag h) 6 (some (s.regs.get 0x74044)) }) ∧
    (∀ data : Word, s.dbg.lastWr ≠ some ((dbgTag h).toNat, (dbgCrc data).toNat) →
      (dbgOpOf h = some 3 → ∃ t, exec (.wrAddr h data (dbgCrc data)) s = .next t ∧
        t.fld DBG_ADDR_ADDR = data.toNat / 4 * 4 ∧
        t.dbg = { s.dbg with out := dbgSends (dbgTag h) 6 none,
                             lastWr := some ((dbgTag h).toNat, (dbgCrc data).toNat) }) ∧
      (dbgOpOf h = some 6 → ∃ t, exec (.wrData h data (dbgCrc data)) s = .next t ∧
        t.fld DBG_ADDR_ADDR = (s.fld DBG_ADDR_ADDR + 4) % 2 ^ 32 ∧
        t.dbg = { s.dbg with out := dbgSends (dbgTag h) 6 none, acc := some (some data, s.fld DBG_ADDR_ADDR),
                             lastWr := some ((dbgTag h).toNat, (dbgCrc data).toNat) })) ∧
    (∀ data : Word, dbgOpOf h = some 6 → s.dbg.lastWr = some ((dbgTag h).toNat, (dbgCrc data).toNat) →
      ∃ t, exec (.wrData h data (dbgCrc data)) s = .next t ∧
        t.butLinks = ({ s with dbg := { s.dbg with out := dbgSends (dbgTag h) 6 none } } : State).butLinks) ∧
    (∀ (data : Word) (crc : BitVec 8), dbgOpOf h = some 6 → crc ≠ dbgCrc data →
      ∃ t, exec (.wrData h data crc) s = .next t ∧ t.butLinks = ({ s with dbg := { s.dbg with
        out := dbgSends (dbgTag h) 6 none, chkErr := true } } : State).butLinks)) ∧
  (∀ (s : State) (h : BitVec 12) (data : Word) (crc : BitVec 8), s.serving = true → dbgOpOf h = some 6 →
    s.debugOn = false → ∃ t, exec (.wrData h data crc) s = .next t ∧
      t.butLinks = ({ s with dbg := { s.dbg with out := dbgSends (dbgTag h) 12 none } } : State).butLinks) ∧
  (∀ (s : State) (v : Word) (a : Nat), s.serving = true → s.dbg.acc = some (some v, a) →
    ∃ t, exec .dbgAccessDone s = .next t ∧ t.dbg.acc = none ∧ ∀ u,
      u = ({ s with dbg := { s.dbg with acc := none } } : State).busStore .dbg a 4 v →
      t.butLinks = (if u.rerr then { u with dbg := { u.dbg with err := true } } else u : State).butLinks) ∧
  (∀ (s : State) (a : Nat), s.serving = true → s.dbg.acc = some (none, a) →
    ∃ t, exec .dbgAccessDone s = .next t ∧ t.dbg.acc = none ∧ ∀ u,
      u = ({ s with dbg := { s.dbg with acc := none } } : State).busLoad .dbg a 4 →
      t.fld DBG_RBUF_DATA = (if u.rerr then 0 else u.rdata.toNat) ∧ t.dbg.err = (s.dbg.err || u.rerr))

/-- R616 to R621, R623: halting, resuming and stepping a core, the access of a halted core's registers, reset and snapshot by
the debug port. -/
def Obligations.DebugControl : Prop :=
  ∀ s : State, s.clocked = true → s.debugOn = true →
  (∀ c : CoreId, ∃ t, exec (.halt c true) s = .next t ∧ t.haltBit c = true ∧ t.core c = s.core c) ∧
  (∀ c : CoreId, s.haltBit c = true → (s.core c).halted = true →
    ∃ t, exec (.halt c false) s = .next t ∧ t.haltBit c = false ∧
      t.core c = { s.core c with halted := false, stepping := false, pass := true }) ∧
  (∀ c : CoreId, s.booted = true → s.haltBit c = true → (s.core c).halted = false → (s.core c).state = 1 →
    (s.core c).rep = 0 →
    ∃ t, exec (.coreHalt c) s = .next t ∧
      t.core c = { s.core c with halted := true, stepping := false, pass := false, cause := 1, bkpt := 0 } ∧
      ∀ p, c = .room p → (t.room p).bit STATUS_CORE_ALIVE = false) ∧
  (∀ n : BitVec 6, n.toNat ≤ 48 → (s.core (coreNum n.toNat)).halted = true →
    ∃ t, exec (.step n) s = .next t ∧
      t.core (coreNum n.toNat) = { s.core (coreNum n.toNat) with stepping := true } ∧ t.dbg = s.dbg) ∧
  (∀ n : BitVec 6, 48 < n.toNat ∨ (s.core (coreNum n.toNat)).halted = false →
    ∃ t, exec (.step n) s = .next t ∧ t.butLinks = ({ s with dbg := { s.dbg with err := true } } : State).butLinks) ∧
  (∀ v : Word, s.cregOk = true →
    ∃ t, exec (.creg (some v)) s = .next t ∧ t.core (coreNum (s.fld DBG_CSEL_CORE)) =
      Core.writeCreg (s.fld DBG_CSEL_REG) v (s.core (coreNum (s.fld DBG_CSEL_CORE)))) ∧
  (s.cregOk = true → ∃ t, exec (.creg none) s = .next t ∧
    t.rdata = (s.core (coreNum (s.fld DBG_CSEL_CORE))).creg (s.fld DBG_CSEL_REG)) ∧
  (∀ w : Option Word, s.cregOk = false → ∃ t, exec (.creg w) s = .next t ∧ t.dbg.err = true) ∧
  (∃ t, exec .dbgReset s = .next t ∧ t.bit RESET_CAUSE_DEBUG = true ∧
    t.fld DBG_CTRL_HALT_ON_BOOT = s.fld DBG_CTRL_HALT_ON_BOOT ∧ t.butLinks = (s.chipReset RESET_CAUSE_DEBUG).butLinks) ∧
  (s.snapBars = false → s.snap.cap = none → ∃ t, exec .snap s = .next t ∧ t.snap = { s.snap with cap := some 2 })

/-- R461 to R471, R473 to R476: writes and reads of a two-wire target and the bus grants of their accesses, an address that
waits, what is lost, the wake by an address, and the controller ports. -/
def Obligations.TwoWirePorts : Prop :=
  (∀ (s : State) (n : Fin 4) (addr : BitVec 7) (e : TwEntry), s.twAnswers n addr.toNat = true →
    s.twEntry n addr.toNat = some e → s.tws.length = 4 → (s.twPort n).prog = none → (s.twPort n).wait = none →
    (∀ (idx cnt : Byte) (data : List Byte), cmdOk idx.toNat cnt.toNat = true →
      s.bit (twField n TW_CTRL_PEC) = false → data.length = 4 * (cnt.toNat % 8 + 1) →
      ∃ t, exec (.twWriteTransaction n (some (addr, idx :: cnt :: data)) 0) s = .next t ∧
        (t.twPort n).prog = some ⟨false, e.window addr.toNat + 4 * idx.toNat, cnt.toNat % 8 + 1, 0,
          (List.range (cnt.toNat % 8 + 1)).map fun i => BitVec.ofNat 32 (u32 data (4 * i)), 0, []⟩ ∧
        (t.twPort n).acks = 2 + data.length) ∧
    (∀ (idx cnt : Byte) (data : List Byte), cmdOk idx.toNat cnt.toNat = false →
      ∃ t, exec (.twWriteTransaction n (some (addr, idx :: cnt :: data)) 0) s = .next t ∧
        t.fld (twField n TW_STAT_WSTAT) = 3 ∧ (t.twPort n).idx = (s.twPort n).idx ∧
        (t.twPort n).cnt = (s.twPort n).cnt ∧ (t.twPort n).prog = none ∧ (t.twPort n).held = false) ∧
    (∀ idx cnt : Byte, cmdOk idx.toNat cnt.toNat = true →
      ∃ t, exec (.twWriteTransaction n (some (addr, [idx, cnt])) 0) s = .next t ∧
        (t.twPort n).idx = idx.toNat ∧ (t.twPort n).cnt = cnt.toNat ∧ (t.twPort n).held = false ∧
        (t.twPort n).prog = none ∧ t.fld (twField n TW_STAT_LAST_ADDR) = addr.toNat ∧
        t.fld (twField n TW_STAT_WSTAT) = s.fld (twField n TW_STAT_WSTAT)) ∧
    (∀ (idx cnt : Byte) (data : List Byte), cmdOk idx.toNat cnt.toNat = true → data ≠ [] →
      data.length < 4 * (cnt.toNat % 8 + 1) →
      ∃ t, exec (.twWriteTransaction n (some (addr, idx :: cnt :: data)) 0) s = .next t ∧
        t.fld (twField n TW_STAT_WSTAT) = 12 ∧ (t.twPort n).prog = none ∧
        t.fld (twField n TW_ERR_SHORT) = min (s.fld (twField n TW_ERR_SHORT) + 1) 255) ∧
    (∀ (idx cnt : Byte) (data : List Byte) (pec : Byte), cmdOk idx.toNat cnt.toNat = true →
      s.bit (twField n TW_CTRL_PEC) = true → data.length = 4 * (cnt.toNat % 8 + 1) →
      crc8 (addrByte addr.toNat false :: idx :: cnt :: data) ≠ pec →
      ∃ t, exec (.twWriteTransaction n (some (addr, idx :: cnt :: (data ++ [pec]))) 0) s = .next t ∧
        t.fld (twField n TW_STAT_WSTAT) = 11 ∧ (t.twPort n).prog = none ∧ (t.twPort n).acks = 2 + data.length ∧
        t.fld (twField n TW_ERR_PEC) = min (s.fld (twField n TW_ERR_PEC) + 1) 255) ∧
    (∀ pre : List Byte, (s.twPort n).cnt < 128 →
      ∃ t, exec (.twReadTransaction n (some (addr, pre)) 0) s = .next t ∧
        (t.twPort n).prog = some ⟨true, e.window addr.toNat + 4 * (s.twPort n).idx, (s.twPort n).cnt % 8 + 1, 0, [], 0,
          pre ++ [addrByte addr.toNat true]⟩) ∧
    (∀ pre : List Byte, 128 ≤ (s.twPort n).cnt → (s.twPort n).cnt < 256 → s.bit (twField n TW_CTRL_PEC) = true →
      ∃ t, exec (.twReadTransaction n (some (addr, pre)) 0) s = .next t ∧ (t.twPort n).sent =
        [BitVec.ofNat 8 (s.fld (twField n TW_STAT_WSTAT)),
         crc8 (pre ++ [addrByte addr.toNat true, BitVec.ofNat 8 (s.fld (twField n TW_STAT_WSTAT))])])) ∧
  (∀ (s : State) (n : Fin 4) (addr : BitVec 7) (b : List Byte) (p : TwProg), s.twAnswers n addr.toNat = true →
    s.tws.length = 4 → (s.twPort n).prog = some p → p.read = false → (s.twPort n).wait = none →
    (∃ t, exec (.twWriteTransaction n (some (addr, b)) 0) s = .next t ∧ (t.twPort n).prog = some p ∧
      (t.twPort n).wait = some (false, addr.toNat, b)) ∧
    (∃ t, exec (.twReadTransaction n (some (addr, b)) 0) s = .next t ∧ (t.twPort n).prog = some p ∧
      (t.twPort n).wait = some (true, addr.toNat, b))) ∧
  (∀ (s : State) (n : Fin 4) (p : TwProg) (r : TwProg × State), s.serving = true → (s.twPort n).prog = some p →
    r = s.twOne n p →
    (p.read = false → p.done + 1 < p.n → ∃ t, exec (.twWriteTransaction n none 1) s = .next t ∧
      t.butLinks = (r.2.onTw n fun x => { x with prog := some r.1 }).butLinks) ∧
    (p.read = true → p.done + 1 < p.n → ∃ t, exec (.twReadTransaction n none 1) s = .next t ∧
      t.butLinks = (r.2.onTw n fun x => { x with prog := some r.1 }).butLinks) ∧
    (p.read = false → p.done + 1 = p.n → (r.2.twPort n).wait = none → r.1.code < 16 →
      ∃ t, exec (.twWriteTransaction n none 1) s = .next t ∧ t.fld (twField n TW_STAT_WSTAT) = r.1.code) ∧
    (p.read = true → p.done + 1 = p.n → (r.2.twPort n).wait = none → r.1.code < 16 → r.2.tws.length = 4 →
      r.2.bit (twField n TW_CTRL_PEC) = false →
      ∃ t, exec (.twReadTransaction n none 1) s = .next t ∧ t.fld (twField n TW_STAT_RSTAT) = r.1.code ∧
        (t.twPort n).sent = r.1.words.flatMap wordBytes ∧ (t.twPort n).prog = none)) ∧
  (∀ (s : State) (n : Fin 4), s.serving = true → s.tws.length = 4 → s.bit (twField n TW_CTRL_TIMEOUT_EN) = true →
    ∃ t, exec (.twTimeout n true) s = .next t ∧ t.fld (twField n TW_STAT_WSTAT) = 12 ∧ (t.twPort n).held = false ∧
      (t.twPort n).wait = none ∧ t.fld (twField n TW_ERR_BUS) = min (s.fld (twField n TW_ERR_BUS) + 1) 255) ∧
  (∀ (s : State) (n : Fin 4), s.serving = true → s.tws.length = 4 →
    ∃ t, exec (.twBusError n false) s = .next t ∧ (t.twPort n).held = false ∧ (t.twPort n).wait = none ∧
      t.fld (twField n TW_STAT_WSTAT) = s.fld (twField n TW_STAT_WSTAT) ∧
      t.fld (twField n TW_ERR_BUS) = min (s.fld (twField n TW_ERR_BUS) + 1) 255) ∧
  (∀ (s : State) (n : Fin 4) (addr : BitVec 7), (s.twEntry n addr.toNat).isSome = true → s.tws.length = 4 →
    (s.fld WAKE_EN_TW).testBit n.val = true → s.clk.phase = .sleep → s.clk.target = 2 →
    ∃ t, exec (.twAddressMatchWake n addr) s = .next t ∧ t.clk.phase = .waking ∧ (t.twPort n).held = true ∧
      (t.fld WAKE_CAUSE_TW).testBit n.val = true) ∧
  (∀ (s : State) (m : Fin 2), s.clocked = true → s.bit (tcField m TC_CTRL_EN) = true →
    ∃ t, exec (.tcGo m) s = .next t ∧ t.bit (tcField m TC_STAT_BUSY) = true ∧
      (s.bit (tcField m TC_STAT_BUSY) = false → s.tcs.length = 2 → t.tcPort m = s.tcTx m)) ∧
  (∀ (s : State) (m : Fin 2), s.clocked = true → s.bit (tcField m TC_CTRL_EN) = false →
    ∃ t, exec (.tcGo m) s = .next t ∧ t.butLinks = s.butLinks) ∧
  (∀ (s : State) (m : Fin 2) (result : Fin 5) (count : Nat) (data : List Byte), s.clocked = true →
    s.bit (tcField m TC_STAT_BUSY) = true → result ≠ 0 → count ≤ 63 →
    ∃ t, exec (.tcDone m result count data) s = .next t ∧ t.bit (tcField m TC_STAT_BUSY) = false ∧
      t.bit (tcField m TC_STAT_DONE) = true ∧ t.fld (tcField m TC_STAT_RESULT) = result.val ∧
      t.fld (tcField m TC_STAT_COUNT) = count) ∧
  (∀ (s : State) (m : Fin 2) (count : Nat) (data : List Byte), s.clocked = true →
    s.bit (tcField m TC_STAT_BUSY) = true → (s.tcPort m).complete data = true →
    ∃ t, exec (.tcDone m 0 count data) s = .next t ∧ t.bit (tcField m TC_STAT_BUSY) = false ∧
      t.bit (tcField m TC_STAT_DONE) = true ∧ t.fld (tcField m TC_STAT_RESULT) = (s.tcPort m).result data ∧
      t.fld (tcField m TC_STAT_COUNT) = min ((s.tcPort m).wlen + (s.tcPort m).rlen) 63 ∧
      (4 ≤ (s.tcPort m).rlen → t.regs.get (0x71110 + 0x40 * m.val) = BitVec.ofNat 32 (u32 data 0)))

/-- R27, R434 to R445: the register commands of a host link: the reply, its status, and the access that each makes. A command
of several accesses makes each with a bus grant of its own. -/
def Obligations.LinkRegisterCommands : Prop :=
  ∀ (s : State) (n : Fin 2) (line : List Byte) (f : Frame), s.booted = true →
  (s.takes n 1 line f = true → f.payload.length = 4 → u32 f.payload 0 % 4 = 0 →
    ∃ t, exec (.hlRead n line) s = .next t ∧ t.butLinks = (s.busLoad (.hl n) (u32 f.payload 0) 4).butLinks ∧
      t.replied n 1 f ([if (s.busLoad (.hl n) (u32 f.payload 0) 4).rerr then 1 else 0, 0, 0, 0] ++
        wordBytes (s.busLoad (.hl n) (u32 f.payload 0) 4).rdata)) ∧
  (s.takes n 2 line f = true → f.payload.length = 8 → u32 f.payload 0 % 4 = 0 →
    s.pairMode = false → s.marks (u32 f.payload 0) = [] →
    ∃ t, exec (.hlWrite n line) s = .next t ∧
      t.butLinks = (s.busStore (.hl n) (u32 f.payload 0) 4 (BitVec.ofNat 32 (u32 f.payload 4))).butLinks ∧
      t.replied n 2 f [if (s.busStore (.hl n) (u32 f.payload 0) 4 (BitVec.ofNat 32 (u32 f.payload 4))).rerr
        then 1 else 0, 0, 0, 0]) ∧
  (∀ w : Fin 2, s.takes n 2 line f = true → f.payload.length = 8 → u32 f.payload 0 % 4 = 0 → s.pairMode = true →
    (locate (u32 f.payload 0)).bind Loc.wingBus = some w → s.keeps w = false →
    ∃ t, exec (.hlWrite n line) s = .next t ∧ t.butLinks = s.butLinks ∧ t.replied n 2 f [6, 0, 0, 0]) ∧
  (s.takes n 2 line f = true → f.payload.length = 8 → u32 f.payload 0 % 4 ≠ 0 →
    ∃ t, exec (.hlWrite n line) s = .next t ∧ t.butLinks = s.butLinks ∧ t.replied n 2 f [2, 0, 0, 0]) ∧
  (∀ k : Nat, s.takes n 3 line f = true → f.payload.length = 12 → u32 f.payload 0 % 4 = 0 →
    s.writeBar (u32 f.payload 0) = 0 →
    ∃ t, exec (.rmw n (some line) k) s = .next t ∧
      t.butLinks = (State.progRun n k (s.onLink n fun x => { x with prog := some ⟨3, f, 0, []⟩ })).butLinks ∧
      (k = 0 → t.butLinks = s.butLinks ∧ (t.link n).prog = some ⟨3, f, 0, []⟩)) ∧
  ((s.link n).prog = some ⟨3, f, 0, []⟩ → s.links.length = 2 →
    (s.busLoad (.hl n) (u32 f.payload 0) 4).rerr = false →
    ∃ t, exec (.rmw n none 1) s = .next t ∧ t.butLinks = (s.busLoad (.hl n) (u32 f.payload 0) 4).butLinks ∧
      (t.link n).prog = some ⟨3, f, 1, [(s.busLoad (.hl n) (u32 f.payload 0) 4).rdata]⟩) ∧
  (∀ (v w : Word), (s.link n).prog = some ⟨3, f, 1, [v]⟩ → s.links.length = 2 → s.pairMode = false →
    s.marks (u32 f.payload 0) = [] →
    w = (v &&& ~~~ BitVec.ofNat 32 (u32 f.payload 4)) ||| (BitVec.ofNat 32 (u32 f.payload 8) &&&
      BitVec.ofNat 32 (u32 f.payload 4)) →
    ∃ t, exec (.rmw n none 1) s = .next t ∧ t.butLinks = (s.busStore (.hl n) (u32 f.payload 0) 4 w).butLinks ∧
      (t.link n).prog = none ∧
      t.replied n 3 f ([if (s.busStore (.hl n) (u32 f.payload 0) 4 w).rerr then 1 else 0, 0, 0, 0] ++ wordBytes v)) ∧
  (∀ k : Nat, s.takes n 4 line f = true → f.payload.length = 8 → u32 f.payload 0 % 4 = 0 → 1 ≤ u16 f.payload 4 →
    u16 f.payload 4 ≤ 255 → u8 f.payload 6 ≤ 1 → u8 f.payload 7 = 0 →
    ∃ t, exec (.bulkRead n (some line) k) s = .next t ∧
      t.butLinks = (State.progRun n k (s.onLink n fun x => { x with prog := some ⟨4, f, 0, []⟩ })).butLinks ∧
      (k = 0 → t.butLinks = s.butLinks ∧ (t.link n).prog = some ⟨4, f, 0, []⟩)) ∧
  (∀ (i : Nat) (ws : List Word) (u : State), (s.link n).prog = some ⟨4, f, i, ws⟩ → s.links.length = 2 →
    u = s.busLoad (.hl n) (u32 f.payload 0 + (if u8 f.payload 6 = 1 then 0 else 4) * i) 4 → u.rerr = false →
    ∃ t, exec (.bulkRead n none 1) s = .next t ∧ t.butLinks = u.butLinks ∧
      (i + 1 ≠ u16 f.payload 4 → (t.link n).prog = some ⟨4, f, i + 1, ws ++ [u.rdata]⟩) ∧
      (i + 1 = u16 f.payload 4 → (t.link n).prog = none ∧
        t.replied n 4 f ([0, 0] ++ leBytes 2 (i + 1) ++ (ws ++ [u.rdata]).flatMap wordBytes))) ∧
  (∀ (i : Nat) (ws : List Word) (u : State), (s.link n).prog = some ⟨4, f, i, ws⟩ → s.links.length = 2 →
    u = s.busLoad (.hl n) (u32 f.payload 0 + (if u8 f.payload 6 = 1 then 0 else 4) * i) 4 → u.rerr = true →
    ∃ t, exec (.bulkRead n none 1) s = .next t ∧ t.butLinks = u.butLinks ∧ (t.link n).prog = none ∧
      t.replied n 4 f ([1, 0] ++ leBytes 2 i ++ ws.flatMap wordBytes)) ∧
  (∀ k : Nat, s.takes n 5 line f = true → f.payload.length = 8 + 4 * u16 f.payload 4 → u32 f.payload 0 % 4 = 0 →
    1 ≤ u16 f.payload 4 → u16 f.payload 4 ≤ 254 → u8 f.payload 6 ≤ 1 → u8 f.payload 7 = 0 →
    ∃ t, exec (.bulkWrite n (some line) k) s = .next t ∧
      t.butLinks = (State.progRun n k (s.onLink n fun x => { x with prog := some ⟨5, f, 0, []⟩ })).butLinks ∧
      (k = 0 → t.butLinks = s.butLinks ∧ (t.link n).prog = some ⟨5, f, 0, []⟩)) ∧
  (∀ (i : Nat) (u : State), (s.link n).prog = some ⟨5, f, i, []⟩ → s.links.length = 2 → s.pairMode = false →
    s.marks (u32 f.payload 0 + (if u8 f.payload 6 = 1 then 0 else 4) * i) = [] →
    u = s.busStore (.hl n) (u32 f.payload 0 + (if u8 f.payload 6 = 1 then 0 else 4) * i) 4
      (BitVec.ofNat 32 (u32 f.payload (8 + 4 * i))) →
    ∃ t, exec (.bulkWrite n none 1) s = .next t ∧ t.butLinks = u.butLinks ∧
      (u.rerr = false → i + 1 ≠ u16 f.payload 4 → (t.link n).prog = some ⟨5, f, i + 1, []⟩) ∧
      (u.rerr = false → i + 1 = u16 f.payload 4 → (t.link n).prog = none ∧ t.replied n 5 f ([0, 0] ++ leBytes 2 (i + 1))) ∧
      (u.rerr = true → (t.link n).prog = none ∧ t.replied n 5 f ([1, 0] ++ leBytes 2 i)))

/-- R438 to R441, R445, R449: the other commands of a host link. -/
def Obligations.LinkCommands : Prop :=
  ∀ (s : State) (n : Fin 2) (line : List Byte) (f : Frame),
  (s.takes n 6 line f = true → f.payload.length = 16 → u16 f.payload 10 = 0 → u8 f.payload 12 < 64 →
    (∀ i < 3, u8 f.payload (13 + i) = 0) →
    ∃ t, exec (.subscribe n line) s = .next t ∧ t.replied n 6 f [0, 0, 0, 0] ∧
      t.fld (hlField n HL_SUB_KIND_KINDS) = u32 f.payload 0 / 2 ∧ t.fld (hlField n HL_SUB_PORT0_PORTS) = u32 f.payload 4 ∧
      t.fld (hlField n HL_SUB_PORT1_PORTS) = u16 f.payload 8 ∧ t.fld (hlField n HL_SUB_PORT1_SLOTS) = u8 f.payload 12) ∧
  (s.takes n 7 line f = true → f.payload = [] → s.snapBars = false → s.snap.cap = none →
    ∃ t, exec (.snapshot n line) s = .next t ∧ t.snap.cap = some 0 ∧ (t.link n).prog = some ⟨7, f, 0, []⟩ ∧
      t.fld SNAP_EPOCH_EPOCH = s.fld SNAP_EPOCH_EPOCH) ∧
  (s.clocked = true → s.snap.cap = some 0 → s.snap.drive = none ∨ s.snapBars = false → s.links.length = 2 →
    (s.link n).prog = some ⟨7, f, 0, []⟩ →
    ∃ t, exec .capture s = .next t ∧ t.fld SNAP_EPOCH_EPOCH = (s.fld SNAP_EPOCH_EPOCH + 1) % 2 ^ 32 ∧
      t.fld SNAP_CTRL_SRC = 0 ∧ t.snap.capAt = some s.now ∧ (t.link n).prog = none ∧
      t.replied n 7 f ([0, 0, 0, 0] ++ wordBytes (BitVec.ofNat 32 (s.fld SNAP_EPOCH_EPOCH + 1)) ++
        wordBytes (BitVec.ofNat 32 s.tb) ++ wordBytes (BitVec.ofNat 32 (s.tb / 2 ^ 32)))) ∧
  (∀ recOk : Bool, s.takes n 8 line f = true → f.payload.length = 8 → s.booted = true →
    ∃ t, exec (.hlActivate n line false recOk) s = .next t ∧
      t.replied n 8 f ([0, 0, 0, 0] ++
        leBytes 4 (s.activate (u32 f.payload 0 + 2 ^ 32 * u32 f.payload 4) recOk).1) ∧
      t.butLinks = (s.activate (u32 f.payload 0 + 2 ^ 32 * u32 f.payload 4) recOk).2.butLinks) ∧
  (typed line 9 = some f → s.linkOn n = true → (s.link n).rx = [] → s.links.length = 2 → f.res = 0 →
    f.payload.length = 2 →
    ∃ t, exec (.ack n line) s = .next t ∧ t.butLinks = s.butLinks ∧
      t.link n = (s.link n).ack s.tb n.val (u16 f.payload 0) ∧ ∀ m, m ≠ n → t.link m = s.link m) ∧
  (∀ e : SettingRec, s.takes n 10 line f = true → f.payload.length = 8 → u8 f.payload 0 = 0 → u8 f.payload 1 = 0 →
    s.booted = true → s.pl.settings.find? (fun x => x.id = u16 f.payload 2) = some e →
    ∃ t, exec (.setting n line false) s = .next t ∧ t.butLinks = s.butLinks ∧
      t.replied n 10 f ([0, 0, 0, 0] ++ wordBytes (s.settingNow e))) ∧
  (∀ e : SettingRec, s.takes n 10 line f = true → f.payload.length = 8 → u8 f.payload 0 = 1 → u8 f.payload 1 = 0 →
    s.booted = true → s.pl.settings.find? (fun x => x.id = u16 f.payload 2) = some e → s.keepsSetting e = true →
    e.flags.testBit 1 = true →
    ∃ t, exec (.setting n line false) s = .next t ∧ t.butLinks = (s.writeSetting e (u32 f.payload 4)).butLinks ∧
      t.replied n 10 f ([0, 0, 0, 0] ++ wordBytes ((s.writeSetting e (u32 f.payload 4)).settingNow e))) ∧
  (s.takes n 11 line f = true → s.booted = true → s.pairMode = false → u8 f.payload 0 < 48 → 1 ≤ u8 f.payload 1 →
    u8 f.payload 1 ≤ 7 → u16 f.payload 2 = 0 → f.payload.length = 4 + 4 * u8 f.payload 1 →
    ∃ t, exec (.vdmSend n line false) s = .next t ∧ t.replied n 11 f [0, 0, 0, 0] ∧
      t.butLinks = (s.sendVdm (Fin.ofNat 48 (u8 f.payload 0))
        ((List.range (u8 f.payload 1)).map fun i => BitVec.ofNat 32 (u32 f.payload (4 + 4 * i)))).butLinks) ∧
  (typed line 12 = some f → s.linkOn n = true → (s.link n).rx = [] → s.links.length = 2 → f.res = 0 →
    f.payload.length ≤ 1024 →
    ∃ t, exec (.ping n line) s = .next t ∧ t.butLinks = s.butLinks ∧ t.says n (replyBytes 12 f f.payload) ∧
      (t.link n).last = (s.link n).last) ∧
  (∀ x : Reply, typed line 2 = some f → s.linkOn n = true → (s.link n).rx = [] → s.links.length = 2 →
    (s.link n).last = some x → x.answers 2 f = true →
    ∃ t, exec (.hlWrite n line) s = .next t ∧ t.butLinks = s.butLinks ∧ t.says n x.bytes) ∧
  (s.takes n 8 line f = true → f.payload.length = 8 → s.booted = true → ∀ recOk : Bool,
    ∃ t, exec (.hlActivate n line true recOk) s = .next t ∧ t.butLinks = s.butLinks ∧
      (t.link n).cmd = some ⟨8, f, s.now⟩) ∧
  (∀ c : FwCmd, s.links.length = 2 → (s.link n).cmd = some c → s.clocked = true → old s.now c.since 10000 = true →
    ∃ t, exec (.timeout n) s = .next t ∧ (t.link n).cmd = none ∧
      ∃ b : List Byte, b.length = 3 + firmOpen c.type ∧ t.replied n c.type c.frame (10#8 :: b))

/-- R433, R436, R437, R440, R447 to R453, R542: frames that are discarded, and the events of a link. -/
def Obligations.FramesAndEvents : Prop :=
  (∀ (s : State) (n : Fin 2) (line : List Byte) (ty : Nat) (f : Frame), readFrame line = some (ty, f) →
    ty = 0 ∨ 12 < ty → s.linkOn n = true → (s.link n).rx = [] → s.links.length = 2 →
    ∃ t, exec (.unknownType ⟨n.val, by omega⟩ line) s = .next t ∧ t.butLinks = s.butLinks ∧
      t.says n (frameBytes 0xFF f.seq.toNat [4, BitVec.ofNat 8 ty])) ∧
  (∀ (s : State) (line : List Byte) (ty : Nat) (f : Frame), readFrame line = some (ty, f) → ty = 0 ∨ 7 < ty →
    s.porchOn = true →
    ∃ t, exec (.unknownType 2 line) s = .next t ∧
      t.porch.line = wire (frameBytes 0xFF f.seq.toNat [4, BitVec.ofNat 8 ty])) ∧
  (∀ (s : State) (n : Fin 2) (ty : Nat) (line : List Byte) (f : Frame), typed line ty = some f →
    ty ∈ [1, 2, 6, 7, 9, 12] → s.hears n = true → s.links.length = 2 →
    s.linkOn n = false ∨ (s.link n).rx ≠ [] → (RxCmd.size ⟨ty, f, false, false, s.now⟩) ≤ (s.link n).rxFree →
    ∃ t, exec (if ty = 1 then .hlRead n line else if ty = 2 then .hlWrite n line else if ty = 6 then .subscribe n line
        else if ty = 7 then .snapshot n line else if ty = 9 then .ack n line else .ping n line) s = .next t ∧
      t.butLinks = s.butLinks ∧ (t.link n).rx = (s.link n).rx ++ [⟨ty, f, false, false, s.now⟩]) ∧
  (∀ (s : State) (n : Fin 2) (line : List Byte) (charErr lost : Bool), s.listens = true →
    s.bit (hlField n HL_CTRL_EN) = true → closed line = true → (unstuff (between line)).isSome = true →
    (lost = true → ∃ t, exec (.frameDiscard ⟨n.val, by omega⟩ line charErr lost) s = .next t ∧
      t.fld (hlField n HL_ERR_OVERRUN) = min (s.fld (hlField n HL_ERR_OVERRUN) + 1) 255) ∧
    (lost = false → charErr = true → ∃ t, exec (.frameDiscard ⟨n.val, by omega⟩ line charErr lost) s = .next t ∧
      t.fld (hlField n HL_ERR_CHAR) = min (s.fld (hlField n HL_ERR_CHAR) + 1) 255) ∧
    (lost = false → charErr = false → readFrame line = none →
      ∃ t, exec (.frameDiscard ⟨n.val, by omega⟩ line charErr lost) s = .next t ∧
        t.fld (hlField n HL_ERR_CRC) = min (s.fld (hlField n HL_ERR_CRC) + 1) 255)) ∧
  (∀ (s : State) (n : Fin 2) (line : List Byte) (idle : Nat), s.listens = true →
    s.bit (hlField n HL_CTRL_EN) = true →
    (silent line idle = true → ∃ t, exec (.frameAbort ⟨n.val, by omega⟩ line idle) s = .next t ∧
      t.fld (hlField n HL_ERR_ABORT) = min (s.fld (hlField n HL_ERR_ABORT) + 1) 255 ∧
      t.fld (hlField n HL_ERR_CHAR) = s.fld (hlField n HL_ERR_CHAR)) ∧
    (closed line = true → unstuff (between line) = none →
      ∃ t, exec (.frameAbort ⟨n.val, by omega⟩ line idle) s = .next t ∧
        t.fld (hlField n HL_ERR_ABORT) = min (s.fld (hlField n HL_ERR_ABORT) + 1) 255)) ∧
  (∀ (s : State) (line : List Byte), s.porchOn = true → closed line = true → (unstuff (between line)).isSome = true →
    readFrame line = none →
    ∃ t, exec (.frameDiscard 2 line false false) s = .next t ∧
      t.fld PORCH_ERR_CRC = min (s.fld PORCH_ERR_CRC + 1) 255) ∧
  (∀ (s : State) (line : List Byte) (idle : Nat), s.porchOn = true → silent line idle = true →
    ∃ t, exec (.frameAbort 2 line idle) s = .next t ∧ t.fld PORCH_ERR_ABORT = min (s.fld PORCH_ERR_ABORT + 1) 255) ∧
  (∀ s : State, s.clocked = true → s.fld HL_POST_HDR_LINKS = 1 → s.links.length = 2 → s.fld HL_POST_HDR_KIND ≠ 1 →
    s.fld HL_POST_HDR_KIND ≠ 14 → covers s.regs 0 (s.fld HL_POST_HDR_KIND) (s.fld HL_POST_HDR_SRC) = true →
    (s.link 0).out.length < 256 → (s.link 0).table = [] →
    ∃ t, exec .go s = .next t ∧ t.link 1 = s.link 1 ∧ t.fld HL_POST_STAT_RESULT0 = 1 ∧
      (t.link 0).next = ((s.link 0).next + 1) % 65536 ∧
      (t.link 0).out = (s.link 0).out ++ [⟨(s.link 0).next, s.fld HL_POST_HDR_KIND, s.fld HL_POST_HDR_SRC, 1, s.tb,
        ((List.range 8).flatMap fun i => wordBytes (s.regs.get (0x70204 + 4 * i))).take (s.fld HL_POST_HDR_LEN), none⟩]) ∧
  (∀ (s : State) (n : Fin 2) (e : Evt), s.mayEvent n = true → s.links.length = 2 → (s.link n).unsent = some e →
    ∃ t, exec (.eventSend n) s = .next t ∧ t.butLinks = s.butLinks ∧
      (t.link n).line = wire (frameBytes 0x40 e.seq
        (leBytes 1 e.kind ++ leBytes 1 e.src ++ leBytes 2 e.count ++ leBytes 8 e.tb ++ e.data)) ∧
      (t.link n).sending = some e.seq ∧
      (t.link n).left = 10 * (t.link n).line.length * s.fld (hlField n HL_BAUD_DIVF)) ∧
  (∀ (s : State) (n : Fin 2), s.links.length = 2 → s.serving = true → s.bit (hlField n HL_CTRL_EN) = true →
    s.bit (hlField n HL_CTRL_EVT_EN) = true → s.resendDue n = true →
    ((s.link n).left ≠ 0 ∨ s.blocked n = true →
      ∃ t, exec (.eventResend n) s = .next t ∧ t.butLinks = s.butLinks ∧
        (t.link n).again = some (((s.link n).out.filter (·.sentAt.isSome)).map (·.seq)) ∧
        (t.link n).line = (s.link n).line) ∧
    (∀ (e : Evt) (l : List Evt), (s.link n).out = e :: l → (s.link n).left = 0 → s.blocked n = false →
      (s.link n).wait = none →
      ∃ t, exec (.eventResend n) s = .next t ∧ t.butLinks = s.butLinks ∧ (t.link n).line = wire e.bytes ∧
        (t.link n).sending = some e.seq ∧
        (t.link n).again = some ((l.filter (·.sentAt.isSome)).map (·.seq)))) ∧
  (∀ (s : State) (n : Fin 2) (b : List Byte), s.links.length = 2 → (s.link n).wait = some b → s.serving = true →
    (s.link n).left = 0 → (s.link n).run < 4 →
    ∃ t, exec (.hlCtsChange n false) s = .next t ∧ t.bit (hlField n HL_STAT_CTS) = false ∧ (t.link n).line = wire b ∧
      (t.link n).wait = none) ∧
  (∀ (s : State) (n : Fin 2) (level : Bool), ∃ t, exec (.hlCtsChange n level) s = .next t ∧
      t.bit (hlField n HL_STAT_CTS) = level)

/-- R434 to R436: a frame that goes on a line is read back from it: type, reserved byte, sequence number and payload; bytes
before the opening flag, further flags and empty frames change nothing. -/
def Obligations.FramesAreReadBack : Prop :=
  (∀ (type : Nat) (f : Frame) (noise : List Byte) (flags : Nat), type < 256 → f.payload.length < 65536 → 0x7E#8 ∉ noise →
    let b := frameBody type f.res f.seq.toNat f.payload
    readFrame (noise ++ List.replicate flags 0x7E#8 ++ wire (b ++ leBytes 4 (crc32c b))) = some (type, f)) ∧
  (∀ (type seq : Nat) (payload : List Byte), type < 256 → seq < 65536 → payload.length < 65536 →
    readFrame (wire (frameBytes type seq payload)) = some (type, ⟨0, BitVec.ofNat 16 seq, payload⟩))

/-- R543 to R554: the commands of the Porch: identification, sessions, chunks, the end and the abort of a transfer. -/
def Obligations.PorchSessions : Prop :=
  ∀ (s : State) (line : List Byte) (f : Frame),
  (s.porchTakes 1 line f = true → f.payload = [] →
    ∃ t, exec (.ident line) s = .next t ∧ t.butLinks = ({ s with porch := t.porch } : State).butLinks ∧
      t.porchReplied 1 f ([0#8, BitVec.ofNat 8 (s.fld ATTIC_STAT_LIFECYCLE), 0, 0] ++ wordBytes (s.attic.shadow.get 0) ++
        wordBytes (s.attic.shadow.get 1) ++
        [0x4004C, 0x284, 0x288, 0x4001C, 0x40044, 0x72004].flatMap fun a => wordBytes (s.view (.hall a)))) ∧
  (s.porchTakes 6 line f = true → f.payload = [] →
    ∃ t, exec (.porchStatus line) s = .next t ∧ t.butLinks = ({ s with porch := t.porch } : State).butLinks ∧
      t.porchReplied 6 f ([0#8, 0, 0, 0] ++ [0x7200C, 0x72010, 0x7201C].flatMap fun a => wordBytes (s.view (.hall a)))) ∧
  (∀ (h : List Byte) (kind : Nat) (x : Session), s.porchTakes 2 line f = true → s.clk.phase = .run → f.payload.length = 520 →
    u32 f.payload 0 ≠ 0 → u8 f.payload 4 < 2 → u8 f.payload 5 = 0 → u8 f.payload 6 = 0 → u8 f.payload 7 = 0 →
    h = f.payload.drop 8 → kind = (if hdrType h = 2 then 2 else 1) → s.headerCode kind h = 0 →
    u8 f.payload 4 ≠ s.slotInUse kind → s.scheduled = false → s.fld UPD_STAT_TRIAL = 0 → s.porch.sess = none →
    s.resumes (u32 f.payload 0) kind (u8 f.payload 4) h = none →
    x = ⟨u32 f.payload 0, kind, u8 f.payload 4, h, 0, s.now⟩ → s.jTakes (s.sessionGroup x) = true →
    ∃ t, exec (.openSession line true) s = .next t ∧ t.porch.sess = some x ∧ t.fld PORCH_SID_SID = u32 f.payload 0 ∧
      t.fld UPD_STAT_LAST = 1 ∧
      t.porchReplied 2 f ([0, 0, 0, 0] ++ leBytes 4 0 ++ leBytes 4 (chunks h))) ∧
  (∀ (h : List Byte) (jok : Bool), s.porchTakes 2 line f = true → f.payload.length = 520 →
    u32 f.payload 0 ≠ 0 → u8 f.payload 4 < 2 → u8 f.payload 5 = 0 → u8 f.payload 6 = 0 → u8 f.payload 7 = 0 →
    h = f.payload.drop 8 → s.headerCode (if hdrType h = 2 then 2 else 1) h ≠ 0 →
    ∃ t, exec (.openSession line jok) s = .next t ∧ t.porch.sess = s.porch.sess ∧ ∃ b : List Byte, b.length = 8 ∧
      t.porchReplied 2 f ([1, BitVec.ofNat 8 (s.headerCode (if hdrType h = 2 then 2 else 1) h), 0, 0] ++ b)) ∧
  (∀ (x : Session) (b : List Byte), s.porchTakes 3 line f = true → s.clk.phase = .run → b = f.payload.drop 8 →
    8 ≤ f.payload.length → s.porch.sess = some x → x.id = u32 f.payload 0 → u32 f.payload 4 = x.next →
    x.next < chunks x.hdr → b.length = storedLen x.hdr x.next → hdrEnc x.hdr = false → s.bit CEL_STAT_READY = true →
    (s.chunkIn x b).failingSector x x.next b none = none →
    (s.chunkIn x b).jTakes ((s.chunkIn x b).sessionGroup { x with next := x.next + 1, lastAt := s.now }) = true →
    ∃ t, exec (.chunk line true none true) s = .next t ∧
      t.porch.sess = some { x with next := x.next + 1, lastAt := s.now } ∧
      t.porchReplied 3 f ([0, 0, 0, 0] ++ leBytes 4 (x.next + 1))) ∧
  (∀ (x : Session) (wr jok : Bool) (bad : Option Nat), s.porchTakes 3 line f = true → 8 ≤ f.payload.length →
    s.porch.sess = some x → x.id = u32 f.payload 0 → u32 f.payload 4 ≠ x.next →
    ∃ t, exec (.chunk line wr bad jok) s = .next t ∧ t.butLinks = ({ s with porch := t.porch } : State).butLinks ∧
      t.porch.sess = some { x with lastAt := s.now } ∧ t.porchReplied 3 f ([4, 0, 0, 0] ++ leBytes 4 x.next)) ∧
  (∀ x : Session, s.porchTakes 4 line f = true → s.clk.phase = .run → f.payload.length = 4 → s.porch.sess = some x →
    x.id = u32 f.payload 0 → x.next = chunks x.hdr → s.bodyPasses x = true → x.kind = 1 ∨ x.kind = 2 →
    s.porch.staged.length = 2 →
    s.jTakes (digestGroup 6 (imageKey x.kind x.slot)
      (leBytes 4 (hdrVersion x.hdr) ++ leBytes 2 (hdrCounter x.hdr) ++ leBytes 2 0 ++ leBytes 8 s.tb)
      (Config.sha384 x.hdr)) = true →
    ∃ t, exec (.finish line true true) s = .next t ∧ t.porch.sess = none ∧ t.porchReplied 4 f [0, 0, 0, 0] ∧
      t.stagedOf x.kind = some ⟨x.slot, Config.sha384 x.hdr, hdrVersion x.hdr, hdrCounter x.hdr⟩ ∧
      t.fld UPD_STAT_LAST = 3) ∧
  (∀ (x : Session) (jok recOk : Bool), s.porchTakes 4 line f = true → f.payload.length = 4 → s.porch.sess = some x →
    x.id = u32 f.payload 0 → x.next ≠ chunks x.hdr →
    ∃ t, exec (.finish line jok recOk) s = .next t ∧ t.butLinks = ({ s with porch := t.porch } : State).butLinks ∧
      t.porch.sess = some { x with lastAt := s.now } ∧ t.porchReplied 4 f [8, 0, 0, 0]) ∧
  (∀ x : Session, s.porchTakes 5 line f = true → f.payload.length = 4 → s.porch.sess = some x → x.id = u32 f.payload 0 →
    ∃ t, exec (.porchAbort line) s = .next t ∧ t.porch.sess = none ∧ t.porchReplied 5 f [0, 0, 0, 0]) ∧
  (s.porchTakes 5 line f = true → f.payload.length = 4 → s.porch.sess = none →
    ∃ t, exec (.porchAbort line) s = .next t ∧ t.porchReplied 5 f [10, 0, 0, 0])

/-- R550, R555 to R563: activation of STAGED images, its deferral and end, confirmation, return, and what the Hall firmware
reports afterwards. -/
def Obligations.Activation : Prop :=
  (∀ (s : State) (line : List Byte) (f : Frame) (recOk : Bool), s.porchTakes 7 line f = true → s.clk.phase = .run → f.payload.length = 8 →
    ∃ t, exec (.porchActivate line recOk) s = .next t ∧
      t.porchReplied 7 f ([0, 0, 0, 0] ++
        leBytes 4 (s.activate (u32 f.payload 0 + 2 ^ 32 * u32 f.payload 4) recOk).1)) ∧
  (∀ (s : State) (line : List Byte) (f : Frame) (a : Nat), s.porchTakes 7 line f = true → s.clk.phase = .run → f.payload.length = 8 →
    a = u32 f.payload 0 + 2 ^ 32 * u32 f.payload 4 → s.tb + 1000000 ≤ a → a ≤ s.tb + 2592000000000 → s.stagedKinds ≠ 0 →
    s.pairMode = false → s.porch.sess = none → s.fld UPD_STAT_TRIAL = 0 →
    ∃ t, exec (.porchActivate line true) s = .next t ∧ t.scheduled = true ∧ t.fld UPD_AT_LO_AT = a % 2 ^ 32 ∧
      t.fld UPD_AT_HI_AT = a / 2 ^ 32 ∧ t.fld UPD_STAT_LAST = 4 ∧ t.porchReplied 7 f [0, 0, 0, 0, 0, 0, 0, 0]) ∧
  (∀ (s : State) (plan slot : Bool), s.booted = true → s.sessionOld (if plan then 2 else 1) slot.toNat = true →
    ∃ t, exec (.sessionLost plan slot) s = .next t ∧ t.fld UPD_STAT_LAST = 11 ∧
      ∀ x, s.porch.sess = some x → x.kind = (if plan then 2 else 1) → x.slot = slot.toNat → t.porch.sess = none) ∧
  (∀ (s : State) (means : List Nat), s.booted = true → s.atPassed = true → s.hallKeeper = true → s.porch.evalAt = none →
    s.defers means = true → s.bit UPD_STAT_DEFERRING = false →
    ∃ t, exec (.activationEvaluation means) s = .next t ∧ t.bit UPD_STAT_DEFERRING = true ∧
      t.porch.deferAt = some s.now ∧ t.fld UPD_STAT_LAST = 6) ∧
  (∀ (s : State) (means : List Nat), s.booted = true → s.atPassed = true → s.hallKeeper = true → s.porch.evalAt = none →
    s.defers means = false →
    ∃ t, exec (.activationEvaluation means) s = .next t ∧ t.bit RESET_CAUSE_SOFT = true ∧ t.booted = false) ∧
  (∀ s : State, s.booted = true → s.scheduled = true →
    due s.now s.porch.deferAt (60000000 * s.fld UPD_CFG_DEFER_MAX) = true →
    ∃ t, exec (.expired true) s = .next t ∧ t.scheduled = false ∧ t.porch.deferAt = none ∧ t.fld UPD_STAT_LAST = 7) ∧
  (∀ s : State, s.peerResets = true →
    ∃ t, exec .activationPeerReset s = .next t ∧ t.bit RESET_CAUSE_SOFT = true ∧ t.booted = false) ∧
  (∀ (s : State) (vpp vdd : Bool), s.booted = true → s.porch.settled = false → s.porch.reverted = none →
    s.returnCase = 0 → s.fld UPD_STAT_TRIAL ≠ 0 → s.confOver = true →
    ∃ t, exec (.confirmed true vpp vdd) s = .next t ∧ t.fld UPD_STAT_TRIAL = 0 ∧ t.porch.settled = true ∧
      t.fld UPD_STAT_LAST = 9 ∧ t.locked 2 = true ∧ t.locked 4 = true) ∧
  (∀ s : State, s.booted = true → s.porch.reverted = none → s.returnCase ≠ 0 → s.returnCase ≠ 1 →
    ∃ t, exec (.reverted true) s = .next t ∧ t.porch.reverted = some (s.returnCase, s.recordTrial) ∧
      t.bit RESET_CAUSE_SOFT = true ∧ t.booted = false) ∧
  (∀ (s : State) (x : Nat × Nat) (recOk : Bool), s.booted = true → s.porch.reverted = some x →
    ∃ t, exec (.reverted recOk) s = .next t ∧ t.porch.reverted = none ∧ t.fld UPD_STAT_LAST = 10) ∧
  (∀ (s : State) (id schema : Nat) (rest : List (Nat × Nat)), s.booted = true → s.porch.resets = (id, schema) :: rest →
    ∃ t, exec .settingReset s = .next t ∧ t.porch.resets = rest)

/-- R512 to R527: commands of the Attic: who may give one, what refuses it, its start, its end, and the locks. -/
def Obligations.AtticCommands : Prop :=
  (∀ s : State, s.clocked = true → s.fuseFree 1 = true →
    ∃ t, exec (.program .hall true true) s = .next t ∧ t.bit ATTIC_STAT_BUSY = true ∧ t.rerr = false ∧
      t.attic = { s.attic with cmd := some (s.fuseCmd 1) }) ∧
  (∀ s : State, s.clocked = true → s.attic.cmd = none →
    ∃ t, exec (.margin .hall) s = .next t ∧ t.bit ATTIC_STAT_BUSY = true ∧
      t.attic = { s.attic with cmd := some (s.fuseCmd 2) }) ∧
  (∀ s : State, s.clocked = true → s.fuseFree 3 = true →
    ∃ t, exec (.advance .hall true true) s = .next t ∧ t.bit ATTIC_STAT_BUSY = true ∧
      t.attic = { s.attic with cmd := some (s.fuseCmd 3) }) ∧
  (∀ s : State, s.clocked = true → s.fuseFree 4 = true →
    ∃ t, exec (.progSecret .hall true true) s = .next t ∧ t.bit ATTIC_STAT_BUSY = true ∧
      t.attic = { s.attic with cmd := some (s.fuseCmd 4) }) ∧
  (∀ s : State, s.clocked = true → s.fuseFree 5 = true →
    ∃ t, exec (.lifecycle .hall true true) s = .next t ∧ t.bit ATTIC_STAT_BUSY = true ∧
      t.attic = { s.attic with cmd := some (s.fuseCmd 5) }) ∧
  (∀ (s : State) (vdd : Bool), s.clocked = true → s.attic.cmd = none →
    ∃ t, exec (.program .hall false vdd) s = .next t ∧ t.attic = s.attic ∧ t.fld ATTIC_RESULT_RESULT = 1 ∧
      t.fld ATTIC_RESULT_OP = 1 ∧ t.bit ATTIC_RESULT_DONE = true ∧ t.fld ATTIC_RESULT_PULSES = 0) ∧
  (∀ (s : State) (vdd : Bool), s.clocked = true → s.attic.cmd = none →
    ∃ t, exec (.progSecret .hall false vdd) s = .next t ∧ t.attic = s.attic ∧ t.fld ATTIC_RESULT_RESULT = 1 ∧
      ∀ i < 8, t.regs.get (0x40020 + 4 * i) = 0) ∧
  (∀ (s : State) (n : Fin 2) (vpp vdd : Bool), s.clocked = true →
    ∃ t, exec (.program (.hl n) vpp vdd) s = .next t ∧ t.butLinks = ({ s with rerr := true } : State).butLinks) ∧
  (∀ (s : State) (c : FuseCmd), s.clocked = true → s.attic.cmd = some c →
    ∃ t, exec (.atticCommandDone none []) s = .next t ∧ t.attic.cmd = none ∧ t.bit ATTIC_STAT_BUSY = false ∧
      t.bit ATTIC_RESULT_DONE = true ∧
      (c.op = 1 → t.attic.logical c.word = s.attic.logical c.word ||| c.pdata ∧
        ∀ w, w ≠ c.word → t.attic.a.get w = s.attic.a.get w ∧ t.attic.b.get w = s.attic.b.get w) ∧
      (c.op = 2 → t.attic.a = s.attic.a ∧ t.attic.b = s.attic.b)) ∧
  (∀ (s : State) (v : Word), s.clocked = true → v.getLsbD 8 = false →
    ∃ t, exec (.atticLock v) s = .next t ∧
      t.fld ATTIC_LOCK_LOCK = (s.fld ATTIC_LOCK_LOCK ||| v.toNat % 512) ∧ t.rerr = false) ∧
  (∀ (s : State) (v : Word) (c : CoreId), s.clocked = true → v.getLsbD 8 = true → s.debugOn = true →
    ∃ t, exec (.atticLock v) s = .next t ∧ t.debugOn = false ∧ (t.core c).halted = false)

/-- R570 to R583: commands of the Journal engine: APPEND, the boot record, the commit of a group, the stages of a compaction
and a flash that fails. -/
def Obligations.JournalCommands : Prop :=
  (∀ s : State, s.booted = true → s.jRefusal s.jWin = 0 → s.jWin.flags.testBit 0 = false →
    ∃ t, exec (.append .hall) s = .next t ∧ t.bit JNL_RESULT_BUSY = true ∧
      t.jnl = { s.jnl with group := [], cmd := some (s.jnl.group ++ [s.jWin]) } ∧ t.cellar = s.cellar) ∧
  (∀ s : State, s.booted = true → s.jRefusal s.jWin = 0 → s.jWin.flags.testBit 0 = true →
    ∃ t, exec (.append .hall) s = .next t ∧ t.jnl = { s.jnl with group := s.jnl.group ++ [s.jWin] } ∧
      t.fld JNL_RESULT_RESULT = 0 ∧ t.bit JNL_RESULT_DONE = true ∧ t.cellar = s.cellar) ∧
  (∀ s : State, s.booted = true → s.jnl.cmd = none → s.bit JNL_CTRL_EN = true → s.bit CEL_STAT_READY = true →
    s.bit PWR_STAT_PENDING = false → fwType s.jWin.type = false →
    ∃ t, exec (.append .hall) s = .next t ∧ t.fld JNL_RESULT_RESULT = 2 ∧ t.bit JNL_RESULT_DONE = true ∧
      t.jnl = s.jnl ∧ t.cellar = s.cellar) ∧
  (∀ (s : State) (n : Fin 2), s.booted = true →
    ∃ t, exec (.append (.hl n)) s = .next t ∧ t.butLinks = ({ s with rerr := true } : State).butLinks) ∧
  (∀ s : State, s.booted = true → s.jnl.cmd = none → s.bit JNL_CTRL_EN = true → s.bit CEL_STAT_READY = true →
    ∃ t, exec (.bootrec .hall true) s = .next t ∧ t.fld JNL_RESULT_RESULT = 0 ∧ t.bit JNL_RESULT_DONE = true ∧
      t.fld CEL_STAT_BREC_COPY = 1 - s.fld CEL_STAT_BREC_COPY ∧
      t.cellar = brecWrite s.cellar (1 - s.fld CEL_STAT_BREC_COPY)
        ⟨(s.brecSeq + 1) % 2 ^ 32, (s.regs.get 0x73014).toNat % 256, (s.regs.get 0x73014).toNat / 256 % 256,
         (s.regs.get 0x73014).toNat / 65536 % 256, (s.regs.get 0x73014).toNat / 16777216⟩) ∧
  (∀ (s : State) (g : List JRec), s.booted = true → s.jnl.cmd = some g →
    ∃ t, exec .groupCommit s = .next t ∧ t.jnl.cmd = none ∧ t.bit JNL_RESULT_BUSY = false ∧
      t.fld JNL_RESULT_RESULT = 0 ∧ t.bit JNL_RESULT_DONE = true ∧ t.cellar = (s.jCommit g).cellar ∧
      (s.bit JNL_STAT_EMPTY = false → s.jnl.image = [] →
        t.cellar = writeRecs s.cellar s.jArea s.jUsed (s.fld JNL_SEQ_SEQ + 1) g)) ∧
  (∀ s : State, s.booted = true → s.bit JNL_CTRL_EN = true → s.bit PWR_STAT_PENDING = false →
    (s.jnl.due = true → s.bit JNL_STAT_COMPACTING = false → s.bit JNL_STAT_EMPTY = false →
      ∃ t, exec (.compaction 0) s = .next t ∧ t.bit JNL_STAT_COMPACTING = true ∧ t.bit CEL_STAT_ERASING = true ∧
        t.jnl.due = false ∧ t.cellar = s.cellar) ∧
    (s.bit CEL_STAT_ERASING = true →
      ∃ t, exec (.compaction 1) s = .next t ∧ t.bit CEL_STAT_ERASING = false ∧
        t.jnl.ckpt = some ⟨(liveSet s.jGroups).flatten.length, s.jUsed, s.fld JNL_SEQ_SEQ⟩ ∧
        t.cellar = writeRecs (eraseRange s.cellar (slotAt (1 - s.jArea) 0) 0x800000) (1 - s.jArea) 1
          (s.fld JNL_SEQ_SEQ + 2) (liveSet s.jGroups).flatten) ∧
    (∀ c : Ckpt, s.jnl.ckpt = some c → s.jnl.cmd = none →
      ∃ t, exec (.compaction 2) s = .next t ∧ t.bit JNL_STAT_COMPACTING = false ∧ t.jnl.ckpt = none ∧
        t.fld JNL_STAT_AREA = 1 - s.fld JNL_STAT_AREA ∧
        t.fld JNL_EPOCH_EPOCH = (s.fld JNL_EPOCH_EPOCH + 1) % 2 ^ 32 ∧ t.cellar = (s.jSwitch c).cellar)) ∧
  (∀ (s : State) (g : List JRec) (n : Nat), s.booted = true → s.jnl.cmd = some g → n < 2 * g.length →
    ∃ t, exec (.cellarTimeout n) s = .next t ∧ t.jnl.cmd = none ∧ t.bit JNL_RESULT_BUSY = false ∧
      t.fld JNL_RESULT_RESULT = 5 ∧ t.bit JNL_RESULT_DONE = true)

/-- R481 to R490, R506, R509: the Key lines: claim codes, the peer's pulses, claims, takeover, contention, withdrawal. -/
def Obligations.KeyLines : Prop :=
  (∀ s : State, s.paired = true → s.hbMissed = false → s.pair.barred = false →
    ∃ t, exec .heartbeatSend s = .next t ∧ t.fld KEY_STAT_OWN_CODE = claimCode s.pair.claims) ∧
  (∀ (s : State) (ns : Nat), s.paired = true → 1000 ≤ ns → ns ≤ 3000 →
    ∃ t, exec (.heartbeatPulse ns) s = .next t ∧ t.bit PAIR_STAT_PEER_ALIVE = true ∧ t.fld KEY_STAT_PEER_CODE = 0 ∧
      t.pair.hbAt = some s.now) ∧
  (∀ s : State, s.paired = true → s.peerAlive = true → due s.now s.pair.hbAt 150 = true →
    ∃ t, exec .peerLost s = .next t ∧ t.bit PAIR_STAT_PEER_ALIVE = false ∧ t.bit PAIR_EVENT_PEER_LOST = true) ∧
  (∀ (s : State) (level : Bool), ∃ t, exec (.keyInChange level) s = .next t ∧ t.bit KEY_STAT_KEY_IN = level) ∧
  (∀ (s : State) (w : Fin 2), s.chipB = false → s.clk.bootAt + 1000 ≤ s.now → s.mayClaim w = true →
    s.pair.seen.testBit w.val = false →
    ∃ t, exec .claimStartA s = .next t ∧ t.pair.claims.testBit w.val = true) ∧
  (∀ (s : State) (w : Fin 2), s.chipB = true → s.mayClaim w = true → s.pair.seen.testBit w.val = false →
    s.pair.clear.getD w.val 0 + 5000 ≤ s.now → s.pair.firstAt.getD s.clk.bootAt + 5000 ≤ s.now →
    ∃ t, exec .claimStartB s = .next t ∧ t.pair.claims.testBit w.val = true) ∧
  (∀ (s : State) (w : Fin 2), s.mayClaim w = true → s.pair.seen.testBit w.val = true → s.peerResets = false →
    ∃ t, exec .takeover s = .next t ∧ t.pair.claims.testBit w.val = true ∧ t.pair.guard = some s.now) ∧
  (∀ s : State, s.paired = true → due s.now s.pair.guard 10 = true → (s.pair.guardW &&& s.fld PAIR_STAT_PEER_HELD) = 0 →
    ∃ t, exec .claimGuardEnd s = .next t ∧ t.pair.guard = none ∧ t.bit PAIR_EVENT_TAKEOVER = true) ∧
  (∀ (s : State) (w : Fin 2), s.paired = true → due s.now (s.pair.conAt.getD w.val none) 2 = true →
    s.pair.yieldAt.getD w.val none = none →
    ∃ t, exec (.contention w) s = .next t ∧ t.bit PAIR_EVENT_CONTENTION = true) ∧
  (∀ (s : State) (w : Fin 2), s.paired = true → s.chipB = false → s.peerHolds w = true →
    due s.now (s.pair.yieldAt.getD w.val none) 120 = true →
    ∃ t, exec (.peerNoYield w) s = .next t ∧ t.bit PAIR_EVENT_PEER_NO_YIELD = true ∧
      t.pair.claims.testBit w.val = false) ∧
  (∀ (s : State) (w : Fin 2), s.paired = true →
    ∃ t, exec (.release w) s = .next t ∧ t.releaseBit w = true) ∧
  (∀ s : State, s.paired = true →
    ∃ t, exec .hbOutFault s = .next t ∧ t.bit PAIR_EVENT_HB_OUT_FAULT = true ∧ t.pair.barred = true ∧ t.pair.claims = 0) ∧
  (∀ s : State, s.paired = true → due s.now s.pair.stuckAt 1000 = true →
    ∃ t, exec .keyInStuck s = .next t ∧ t.bit PAIR_EVENT_KEY_IN_STUCK = true) ∧
  (∀ (s : State) (p : Fin 48), s.paired = true → s.live p = true →
    ∃ t, exec (.driveConflict (.room p)) s = .next t ∧ t.bit PAIR_EVENT_DRIVE_CONFLICT = true ∧ (t.room p).safe = true)

/-- R492 to R495, R498, R502 to R504: lanes and link of the Stair, what a chip sends, and what a copy does that is not valid. -/
def Obligations.StairLinkAndSending : Prop :=
  (∀ s : State, s.paired = true →
    ∃ t, exec .pairResync s = .next t ∧ t.pair.stale = s.pair.stale ||| s.shadowed) ∧
  (∀ (s : State) (k : Fin 2), s.paired = true → s.pair.lock.getD k.val none = none →
    ∃ t, exec (.laneLock k) s = .next t ∧ t.bit (lockField k) = true) ∧
  (∀ (s : State) (k : Fin 2) (copy : Bool), s.paired = true → (s.pair.lock.getD k.val none).isSome = true →
    ∃ t, exec (.laneLockLoss k copy) s = .next t ∧ t.bit (lockField k) = false) ∧
  (∀ s : State, s.paired = true → s.bit PAIR_STAT_LINK_UP = false → s.pair.lock.any (fun t => due s.now t 1000) = true →
    s.pair.dgTx = true → s.pair.dgRx = true →
    ∃ t, exec .linkUp s = .next t ∧ t.bit PAIR_STAT_LINK_UP = true ∧ t.bit PAIR_EVENT_LINK_UP = true) ∧
  (∀ s : State, s.paired = true → s.bit PAIR_STAT_LINK_UP = true → due s.now s.pair.copyAt 200 = true →
    ∃ t, exec .linkDown s = .next t ∧ t.bit PAIR_STAT_LINK_UP = false ∧ t.bit PAIR_EVENT_LINK_DOWN = true) ∧
  (∀ s : State, s.paired = true → s.bit STAIR_STAT_TX_ON = true → s.pair.claims ≠ 0 →
    ∃ t, exec .frameSend s = .next t ∧ t.pair.frame = (s.pair.frame + 1) % 2 ^ 32) ∧
  (∀ s : State, s.paired = true → s.bit STAIR_STAT_TX_ON = true → s.hallKeeper = true →
    ∃ t, exec (.recordSend 8 0x3F 0) s = .next t ∧ t.pair.seq = (s.pair.seq + 1) % 65536) ∧
  (∀ s : State, s.paired = true → s.bit STAIR_STAT_TX_ON = true → s.hallKeeper = true →
    ∃ t, exec (.recordResend 8 0x3F 0) s = .next t ∧ t.pair.seq = (s.pair.seq + 1) % 65536) ∧
  (∀ s : State, s.paired = true → s.bit STAIR_STAT_TX_ON = true →
    ∃ t, exec .statusSend s = .next t ∧ t.pair.sent.map (·.type) = [16] ∧
      t.pair.lanes = (laneSymbols (t.pair.sent.flatMap fun x => burst (recordBytes x.type x.copy)) s.pair.txRd).1) ∧
  (∀ s : State, s.paired = true → s.bit STAIR_STAT_TX_ON = true →
    ∃ t, exec .digestSend s = .next t ∧ t.pair.sent.map (·.type) = [18] ∧ t.pair.dgTx = true) ∧
  (∀ s : State, s.paired = true → s.bit STAIR_STAT_TX_ON = true → s.bit PAIR_STAT_LINK_UP = true → s.staleHere ≠ 0 →
    due s.now s.pair.resyncAt 1000 = true →
    ∃ t, exec .resyncSend s = .next t ∧ t.pair.sent.map (·.type) = [17] ∧ t.pair.resyncAt = some s.now) ∧
  (∀ s : State, s.paired = true → due s.now s.pair.statusAt 200 = true →
    ∃ t, exec .statusLoss s = .next t ∧ t.pair.statusAt = none ∧ t.pair.peerReady = false) ∧
  (∀ (s : State) (k : Fin 2) (line : List (BitVec 10)), s.paired = true → (s.pair.lock.getD k.val none).isSome = true →
    ∀ cmd ∈ [Instr.stairFrame, .stairLoop, .stairRoom, .stairSlot, .stairTimer, .stairHearth, .stairEnergy, .stairHall,
      .stairPantry, .stairWrite, .stairStatus, .stairResync, .stairDigest],
    (taken line = none →
      ∃ t, exec (cmd k line) s = .next t ∧ t.bit (lockField k) = false ∧ t.pair.lock.getD k.val none = none ∧
        t.fld STAIR_ERR_COPY = min (s.fld STAIR_ERR_COPY + 1) 255 ∧ t.fld STAIR_STAT_RX_SEQ = s.fld STAIR_STAT_RX_SEQ) ∧
    ((∃ cs, taken line = some cs ∧ readBurst cs = none) →
      ∃ t, exec (cmd k line) s = .next t ∧ t.fld STAIR_ERR_COPY = min (s.fld STAIR_ERR_COPY + 1) 255 ∧
        t.pair.lock = s.pair.lock ∧ t.fld STAIR_STAT_RX_SEQ = s.fld STAIR_STAT_RX_SEQ))

/-- R492, R493, R496: a record that a lane sends is read back from the symbols of its burst, whatever the running disparity. -/
def Obligations.BurstsAreReadBack : Prop :=
  ∀ (type : Nat) (c : StairRec) (rd : Bool), type < 256 → c.target < 256 → c.payload.length = 52 →
    carries (laneSymbols (burst (recordBytes type c)) rd).1 type c

/-- R494 to R505: what a record of the Stair changes in the chip that receives it in sequence. -/
def Obligations.StairRecords : Prop :=
  ∀ (s : State) (k : Fin 2) (line : List (BitVec 10)) (c : StairRec), s.takesNext k c = true →
  (s.fld PAIR_STAT_PEER_HELD ≠ 0 → carries line 1 c →
    ∃ t, exec (.stairFrame k line) s = .next t ∧ t.fld STAIR_STAT_RX_SEQ = (c.seq.toNat + 1) % 65536 ∧ t.pair.gap = none) ∧
  (∀ b : Fin 6, c.target = 0x40 + b.val → s.peerKeeps (48 + b.val) = true → carries line 2 c →
    ∃ t, exec (.stairLoop k line) s = .next t ∧ (t.land b).fltQ = 40 * num c.payload 48 2) ∧
  (∀ p : Fin 48, c.target = p.val → s.peerKeeps p.val = true → carries line 3 c →
    ∃ t, exec (.stairRoom k line) s = .next t ∧ (t.room p).regs.get 0x164 = wordAt c.payload 28) ∧
  (∀ b : Fin 6, c.target = 48 + b.val → s.peerKeeps (48 + b.val) = true → carries line 4 c →
    ∃ t, exec (.stairSlot k line) s = .next t ∧ (t.land b).regs.get 0x44 = wordAt c.payload 16) ∧
  (∀ p : Fin 48, c.target = p.val → s.peerKeeps p.val = true → num c.payload 0 1 = 2 → carries line 5 c →
    ∃ t, exec (.stairTimer k line) s = .next t ∧ (t.room p).regs.get 0x3D0 = wordAt c.payload 36) ∧
  (c.target < 48 → s.peerKeeps c.target = true → (s.modelRec c.target).isSome = true → c.target < s.hearth.models.length →
    carries line 6 c →
    ∃ t, exec (.stairHearth k line) s = .next t ∧ (t.model c.target).st = num c.payload 9 1 % 4) ∧
  (∀ p : Fin 48, c.target = p.val → p.val % 4 = 0 → s.peerKeeps p.val = true → carries line 7 c →
    ∃ t, exec (.stairEnergy k line) s = .next t ∧ (t.room p).e48 0x3C0 = num c.payload 0 6) ∧
  (s.peerKeeps 54 = true → carries line 8 c →
    ∃ t, exec (.stairHall k line) s = .next t ∧ t.regs.get 0x44 = wordAt c.payload 4) ∧
  (s.peerKeeps 54 = true → carries line 9 c →
    ∃ t, exec (.stairPantry k line) s = .next t ∧ t.chgGrant = num c.payload 32 2) ∧
  (∀ (a : Nat) (b : Fin 6), s.fld PAIR_STAT_PEER_HELD ≠ 0 → num c.payload 0 1 = 1 → num c.payload 4 4 = a →
    locate a = some (.land b.val 0x48) → a % 4 = 0 → s.peerWrites a = true → carries line 10 c →
    ∃ t, exec (.stairWrite k line) s = .next t ∧
      (t.land b).fld HS_TIME_TFLT = s.clampField (.land b.val 0x48) HS_TIME_TFLT (HS_TIME_TFLT.of (wordAt c.payload 8))) ∧
  (∀ a, s.fld PAIR_STAT_PEER_HELD ≠ 0 → num c.payload 0 1 = 1 → num c.payload 4 4 = a → s.peerWrites a = false →
    carries line 10 c →
    ∃ t, exec (.stairWrite k line) s = .next t ∧ t.bit PAIR_EVENT_KEY_STAIR_MISMATCH = true) ∧
  (∀ p : Fin 48, c.target = p.val → s.peerKeeps p.val = false → carries line 3 c →
    ∃ t, exec (.stairRoom k line) s = .next t ∧ t.bit PAIR_EVENT_KEY_STAIR_MISMATCH = true) ∧
  (carries line 16 c →
    ∃ t, exec (.stairStatus k line) s = .next t ∧ t.pair.peerStale = num c.payload 0 7 % 2 ^ 55 ∧
      t.pair.statusAt = some s.now) ∧
  (carries line 17 c →
    ∃ t, exec (.stairResync k line) s = .next t ∧
      t.pair.asked = s.pair.asked ||| (num c.payload 0 7 &&& (allTargets - s.shadowed))) ∧
  (carries line 18 c →
    ∃ t, exec (.stairDigest k line) s = .next t ∧ t.pair.peerDigest = c.payload.take 48 ∧
      t.bit PAIR_STAT_DIGEST_MATCH = decide (c.payload.take 48 = s.planDigest))
end

