-- ==== Sys2Proof/Laws/Regs.lean ====
section
/-! SUPPORT. Laws/Regs.lean: what the sparse store and the register fields do: read after write, the canonical form, and
fields that do not meet. -/

namespace Sys2Proof

/-! ### The store -/

@[simp] theorem Store.get_nil {w : Nat} (k : Nat) : Store.get ([] : Store w) k = 0 := rfl

theorem Store.get_erase {w : Nat} (m : Store w) (k j : Nat) :
    (Store.erase m k).get j = if k = j then 0 else m.get j := by
  induction m with
  | nil => simp [Store.erase]
  | cons x r ih =>
    obtain ⟨a, v⟩ := x
    by_cases h : a = k
    · subst h
      by_cases h2 : a = j
      · subst h2
        simpa [Store.erase] using ih
      · simp [Store.erase, Store.get, ih, h2]
    · by_cases h2 : a = j
      · subst h2
        simp [Store.erase, Store.get, h, Ne.symm h]
      · simp [Store.erase, Store.get, ih, h, h2]

theorem Store.get_insert {w : Nat} (m : Store w) (k : Nat) (v : BitVec w) (j : Nat)
    (hk : ∀ e ∈ m, e.1 ≠ k) : (Store.insert m k v).get j = if k = j then v else m.get j := by
  induction m with
  | nil => simp [Store.insert, Store.get]
  | cons x r ih =>
    obtain ⟨a, u⟩ := x
    have ha : a ≠ k := hk (a, u) (by simp)
    have hr : ∀ e ∈ r, e.1 ≠ k := fun e he => hk e (by simp [he])
    by_cases h : k < a
    · simp [Store.insert, h, Store.get]
    · by_cases h2 : a = j
      · subst h2
        simp [Store.insert, h, Store.get, Ne.symm ha]
      · simp [Store.insert, h, Store.get, ih hr, h2]

theorem Store.mem_erase {w : Nat} (m : Store w) (k : Nat) (e : Nat × BitVec w) (h : e ∈ Store.erase m k) :
    e ∈ m ∧ e.1 ≠ k := by
  induction m with
  | nil => simp [Store.erase] at h
  | cons x r ih =>
    obtain ⟨a, v⟩ := x
    by_cases hk : a = k
    · simp only [Store.erase, hk, if_true] at h
      exact ⟨List.mem_cons_of_mem _ (ih h).1, (ih h).2⟩
    · simp only [Store.erase, hk, if_false, List.mem_cons] at h
      rcases h with rfl | h
      · exact ⟨by simp, hk⟩
      · exact ⟨List.mem_cons_of_mem _ (ih h).1, (ih h).2⟩

/-- Read after write: the written key holds the value, every other key what it held. -/
theorem Store.get_set {w : Nat} (m : Store w) (k : Nat) (v : BitVec w) (j : Nat) :
    (Store.set m k v).get j = if k = j then v else m.get j := by
  unfold Store.set
  split
  · rename_i hv
    rw [Store.get_erase]
    split <;> simp [hv]
  · rw [Store.get_insert _ _ _ _ (fun e he => (Store.mem_erase m k e he).2), Store.get_erase]
    split <;> rfl

@[simp] theorem Store.get_set_same {w : Nat} (m : Store w) (k : Nat) (v : BitVec w) : (Store.set m k v).get k = v := by
  simp [Store.get_set]

theorem Store.get_set_ne {w : Nat} (m : Store w) {k j : Nat} (v : BitVec w) (h : k ≠ j) :
    (Store.set m k v).get j = m.get j := by
  simp [Store.get_set, h]

theorem Store.wf_erase {w : Nat} (m : Store w) (k : Nat) (h : Store.wf m = true) : Store.wf (Store.erase m k) = true := by
  induction m with
  | nil => exact h
  | cons x r ih =>
    obtain ⟨a, v⟩ := x
    simp only [Store.wf, Bool.and_eq_true, List.all_eq_true, decide_eq_true_eq] at h
    by_cases hk : a = k
    · simpa [Store.erase, hk] using ih h.2
    · simp only [Store.erase, hk, if_false, Store.wf, Bool.and_eq_true, List.all_eq_true, decide_eq_true_eq]
      exact ⟨⟨h.1.1, fun e he => h.1.2 e (Store.mem_erase r k e he).1⟩, ih h.2⟩

theorem Store.mem_insert {w : Nat} (m : Store w) (k : Nat) (v : BitVec w) (e : Nat × BitVec w)
    (h : e ∈ Store.insert m k v) : e = (k, v) ∨ e ∈ m := by
  induction m with
  | nil => simpa [Store.insert] using h
  | cons x r ih =>
    obtain ⟨a, u⟩ := x
    by_cases hk : k < a
    · simpa [Store.insert, hk] using h
    · simp only [Store.insert, hk, if_false, List.mem_cons] at h
      rcases h with rfl | h
      · simp
      · rcases ih h with rfl | h <;> simp_all

theorem Store.wf_insert {w : Nat} (m : Store w) (k : Nat) (v : BitVec w) (hv : v ≠ 0) (h : Store.wf m = true)
    (hk : ∀ e ∈ m, e.1 ≠ k) : Store.wf (Store.insert m k v) = true := by
  induction m with
  | nil => simpa [Store.insert, Store.wf] using hv
  | cons x r ih =>
    obtain ⟨a, u⟩ := x
    have h0 := h
    simp only [Store.wf, Bool.and_eq_true, List.all_eq_true, decide_eq_true_eq] at h
    have ha : a ≠ k := hk (a, u) (by simp)
    by_cases hlt : k < a
    · simp only [Store.insert, hlt, if_true, Store.wf, Bool.and_eq_true, List.all_eq_true, decide_eq_true_eq, List.mem_cons]
      refine ⟨⟨by simpa using hv, ?_⟩, h⟩
      rintro e (rfl | he)
      · exact hlt
      · exact lt_trans hlt (h.1.2 e he)
    · simp only [Store.insert, hlt, if_false, Store.wf, Bool.and_eq_true, List.all_eq_true, decide_eq_true_eq]
      refine ⟨⟨h.1.1, fun e he => ?_⟩, ih h.2 fun e he => hk e (by simp [he])⟩
      rcases Store.mem_insert r k v e he with rfl | he
      · exact lt_of_le_of_ne (not_lt.mp hlt) ha
      · exact h.1.2 e he

/-- A write keeps the canonical form. -/
theorem Store.wf_set {w : Nat} (m : Store w) (k : Nat) (v : BitVec w) (h : Store.wf m = true) :
    Store.wf (Store.set m k v) = true := by
  unfold Store.set
  split
  · exact Store.wf_erase m k h
  · rename_i hv
    exact Store.wf_insert _ k v hv (Store.wf_erase m k h) fun e he => (Store.mem_erase m k e he).2

/-! ### Fields -/

/-- Two fields share no bit of a register. -/
def Field.apart (f g : Field) : Bool :=
  f.off != g.off || decide (f.lsb + f.width ≤ g.lsb) || decide (g.lsb + g.width ≤ f.lsb)

theorem Field.mask_getElem (f : Field) (i : Nat) (hi : i < 32) :
    f.mask[i] = decide (f.lsb ≤ i ∧ i < f.lsb + f.width) := by
  unfold Field.mask
  by_cases h1 : f.lsb ≤ i
  · have h2 : ¬ i < f.lsb := by omega
    simp [h1, h2, Nat.sub_lt_iff_lt_add h1, Nat.add_comm]
  · have h2 : i < f.lsb := by omega
    simp [h1, h2]

/-- A write of one field leaves a field apart from it as it was. -/
theorem Regs.fld_put_apart (m : Regs) (f g : Field) (v : Nat) (h : f.apart g = true) : (m.put f v).fld g = m.fld g := by
  unfold Regs.fld Regs.put
  simp only [Field.apart, Bool.or_eq_true, bne_iff_ne, ne_eq, decide_eq_true_eq] at h
  by_cases ho : f.off = g.off
  · congr 1
    apply BitVec.eq_of_getLsbD_eq
    intro i hi
    rw [ho, Store.get_set_same]
    simp only [BitVec.getLsbD_extractLsb', hi, decide_true, Bool.true_and]
    by_cases h32 : g.lsb + i < 32
    · have hm : f.mask[g.lsb + i] = false := by
        rw [Field.mask_getElem f _ h32]
        simp only [decide_eq_false_iff_not]
        rcases h with (h | h) | h
        · exact absurd ho h
        · omega
        · omega
      simp [hm, h32]
    · simp [BitVec.getLsbD_of_ge _ _ (not_lt.mp h32)]
  · rw [Store.get_set_ne _ _ ho]

/-- A written field holds what its width takes of the value. -/
theorem Regs.fld_put_same (m : Regs) (f : Field) (v : Nat) (h : f.lsb + f.width ≤ 32) :
    (m.put f v).fld f = v % 2 ^ f.width := by
  unfold Regs.fld Regs.put
  rw [Store.get_set_same, ← BitVec.toNat_ofNat]
  congr 1
  apply BitVec.eq_of_getLsbD_eq
  intro i hi
  have h32 : f.lsb + i < 32 := by omega
  have hm : f.mask[f.lsb + i] = true := by
    rw [Field.mask_getElem f _ h32]
    simp only [decide_eq_true_eq]
    omega
  have hi32 : i < 32 := by omega
  simp only [BitVec.getLsbD_extractLsb', hi, decide_true, Bool.true_and, BitVec.getLsbD_eq_getElem h32,
    BitVec.getElem_or, BitVec.getElem_and, BitVec.getElem_not, hm, Bool.not_true, Bool.and_false, Bool.false_or,
    Bool.and_true, BitVec.getLsbD_ofNat, BitVec.getElem_shiftLeft]
  simp [← BitVec.getLsbD_eq_getElem]
  rw [BitVec.getLsbD_ofNat]
  simp [hi32]

/-- A register of another offset keeps its word. -/
theorem Regs.get_put_ne (m : Regs) (f : Field) (v o : Nat) (h : f.off ≠ o) : (m.put f v).get o = m.get o :=
  Store.get_set_ne _ _ h

/-- A field of another offset than the written register keeps its value. -/
theorem Regs.fld_set_ne (m : Regs) (f : Field) (o : Nat) (w : Word) (h : o ≠ f.off) :
    Regs.fld (m.set o w) f = m.fld f := by
  unfold Regs.fld
  rw [Store.get_set_ne _ _ h]

/-- A field write keeps the canonical form. -/
theorem Regs.wf_put (m : Regs) (f : Field) (v : Nat) (h : Store.wf m = true) : Store.wf (m.put f v) = true :=
  Store.wf_set m _ _ h

end Sys2Proof
end

