-- ==== Sys2Proof/Laws/State.lean ====
section
/-! SUPPORT. Laws/State.lean: one lemma per part of the state per update: what the named updates leave alone. -/

namespace Sys2Proof.Machine

variable (s : State)

/-! ### State.put -/

@[simp] theorem State.put_now (f : Field) (v : Nat) : (s.put f v).now = s.now := rfl
@[simp] theorem State.put_freeCtr (f : Field) (v : Nat) : (s.put f v).freeCtr = s.freeCtr := rfl
@[simp] theorem State.put_rooms (f : Field) (v : Nat) : (s.put f v).rooms = s.rooms := rfl
@[simp] theorem State.put_lands (f : Field) (v : Nat) : (s.put f v).lands = s.lands := rfl
@[simp] theorem State.put_wings (f : Field) (v : Nat) : (s.put f v).wings = s.wings := rfl
@[simp] theorem State.put_clk (f : Field) (v : Nat) : (s.put f v).clk = s.clk := rfl
@[simp] theorem State.put_chipB (f : Field) (v : Nat) : (s.put f v).chipB = s.chipB := rfl
@[simp] theorem State.put_plan (f : Field) (v : Nat) : (s.put f v).plan = s.plan := rfl
@[simp] theorem State.put_planStore (f : Field) (v : Nat) : (s.put f v).planStore = s.planStore := rfl
@[simp] theorem State.put_planDigest (f : Field) (v : Nat) : (s.put f v).planDigest = s.planDigest := rfl
@[simp] theorem State.put_mode (f : Field) (v : Nat) : (s.put f v).mode = s.mode := rfl
@[simp] theorem State.put_lastExt (f : Field) (v : Nat) : (s.put f v).lastExt = s.lastExt := rfl
@[simp] theorem State.put_hall (f : Field) (v : Nat) : (s.put f v).hall = s.hall := rfl
@[simp] theorem State.put_hallCode (f : Field) (v : Nat) : (s.put f v).hallCode = s.hallCode := rfl
@[simp] theorem State.put_hallData (f : Field) (v : Nat) : (s.put f v).hallData = s.hallData := rfl
@[simp] theorem State.put_hbeatAt (f : Field) (v : Nat) : (s.put f v).hbeatAt = s.hbeatAt := rfl
@[simp] theorem State.put_hbMissed (f : Field) (v : Nat) : (s.put f v).hbMissed = s.hbMissed := rfl
@[simp] theorem State.put_rdata (f : Field) (v : Nat) : (s.put f v).rdata = s.rdata := rfl
@[simp] theorem State.put_rerr (f : Field) (v : Nat) : (s.put f v).rerr = s.rerr := rfl
@[simp] theorem State.put_hallErr (f : Field) (v : Nat) : (s.put f v).hallErr = s.hallErr := rfl
@[simp] theorem State.put_hearth (f : Field) (v : Nat) : (s.put f v).hearth = s.hearth := rfl
@[simp] theorem State.put_pair (f : Field) (v : Nat) : (s.put f v).pair = s.pair := rfl
@[simp] theorem State.put_pantry (f : Field) (v : Nat) : (s.put f v).pantry = s.pantry := rfl
@[simp] theorem State.put_lamps (f : Field) (v : Nat) : (s.put f v).lamps = s.lamps := rfl
@[simp] theorem State.put_chgGrant (f : Field) (v : Nat) : (s.put f v).chgGrant = s.chgGrant := rfl
@[simp] theorem State.put_links (f : Field) (v : Nat) : (s.put f v).links = s.links := rfl
@[simp] theorem State.put_attic (f : Field) (v : Nat) : (s.put f v).attic = s.attic := rfl
@[simp] theorem State.put_cellar (f : Field) (v : Nat) : (s.put f v).cellar = s.cellar := rfl
@[simp] theorem State.put_jnl (f : Field) (v : Nat) : (s.put f v).jnl = s.jnl := rfl
@[simp] theorem State.put_fwStore (f : Field) (v : Nat) : (s.put f v).fwStore = s.fwStore := rfl
@[simp] theorem State.put_fwDigest (f : Field) (v : Nat) : (s.put f v).fwDigest = s.fwDigest := rfl
@[simp] theorem State.put_porch (f : Field) (v : Nat) : (s.put f v).porch = s.porch := rfl
@[simp] theorem State.put_fwSet (f : Field) (v : Nat) : (s.put f v).fwSet = s.fwSet := rfl
@[simp] theorem State.put_tws (f : Field) (v : Nat) : (s.put f v).tws = s.tws := rfl
@[simp] theorem State.put_tcs (f : Field) (v : Nat) : (s.put f v).tcs = s.tcs := rfl
@[simp] theorem State.put_matchers (f : Field) (v : Nat) : (s.put f v).matchers = s.matchers := rfl
@[simp] theorem State.put_dbg (f : Field) (v : Nat) : (s.put f v).dbg = s.dbg := rfl
@[simp] theorem State.put_snap (f : Field) (v : Nat) : (s.put f v).snap = s.snap := rfl
@[simp] theorem State.put_pending (f : Field) (v : Nat) : (s.put f v).pending = s.pending := rfl
@[simp] theorem State.put_room (f : Field) (v : Nat) (q : Fin 48) : (s.put f v).room q = s.room q := rfl
@[simp] theorem State.put_land (f : Field) (v : Nat) (a : Fin 6) : (s.put f v).land a = s.land a := rfl
@[simp] theorem State.put_wing (f : Field) (v : Nat) (k : Fin 2) : (s.put f v).wing k = s.wing k := rfl
@[simp] theorem State.put_pl (f : Field) (v : Nat) : (s.put f v).pl = s.pl := rfl
@[simp] theorem State.put_link (f : Field) (v : Nat) (j : Fin 2) : (s.put f v).link j = s.link j := rfl
@[simp] theorem State.put_pairMode (f : Field) (v : Nat) : (s.put f v).pairMode = s.pairMode := rfl
@[simp] theorem State.put_booted (f : Field) (v : Nat) : (s.put f v).booted = s.booted := rfl
@[simp] theorem State.put_clocked (f : Field) (v : Nat) : (s.put f v).clocked = s.clocked := rfl

/-! ### State.on -/

@[simp] theorem State.on_now (f : Field) : (s.on f).now = s.now := rfl
@[simp] theorem State.on_freeCtr (f : Field) : (s.on f).freeCtr = s.freeCtr := rfl
@[simp] theorem State.on_rooms (f : Field) : (s.on f).rooms = s.rooms := rfl
@[simp] theorem State.on_lands (f : Field) : (s.on f).lands = s.lands := rfl
@[simp] theorem State.on_wings (f : Field) : (s.on f).wings = s.wings := rfl
@[simp] theorem State.on_clk (f : Field) : (s.on f).clk = s.clk := rfl
@[simp] theorem State.on_chipB (f : Field) : (s.on f).chipB = s.chipB := rfl
@[simp] theorem State.on_plan (f : Field) : (s.on f).plan = s.plan := rfl
@[simp] theorem State.on_planStore (f : Field) : (s.on f).planStore = s.planStore := rfl
@[simp] theorem State.on_planDigest (f : Field) : (s.on f).planDigest = s.planDigest := rfl
@[simp] theorem State.on_mode (f : Field) : (s.on f).mode = s.mode := rfl
@[simp] theorem State.on_lastExt (f : Field) : (s.on f).lastExt = s.lastExt := rfl
@[simp] theorem State.on_hall (f : Field) : (s.on f).hall = s.hall := rfl
@[simp] theorem State.on_hallCode (f : Field) : (s.on f).hallCode = s.hallCode := rfl
@[simp] theorem State.on_hallData (f : Field) : (s.on f).hallData = s.hallData := rfl
@[simp] theorem State.on_hbeatAt (f : Field) : (s.on f).hbeatAt = s.hbeatAt := rfl
@[simp] theorem State.on_hbMissed (f : Field) : (s.on f).hbMissed = s.hbMissed := rfl
@[simp] theorem State.on_rdata (f : Field) : (s.on f).rdata = s.rdata := rfl
@[simp] theorem State.on_rerr (f : Field) : (s.on f).rerr = s.rerr := rfl
@[simp] theorem State.on_hallErr (f : Field) : (s.on f).hallErr = s.hallErr := rfl
@[simp] theorem State.on_hearth (f : Field) : (s.on f).hearth = s.hearth := rfl
@[simp] theorem State.on_pair (f : Field) : (s.on f).pair = s.pair := rfl
@[simp] theorem State.on_pantry (f : Field) : (s.on f).pantry = s.pantry := rfl
@[simp] theorem State.on_lamps (f : Field) : (s.on f).lamps = s.lamps := rfl
@[simp] theorem State.on_chgGrant (f : Field) : (s.on f).chgGrant = s.chgGrant := rfl
@[simp] theorem State.on_links (f : Field) : (s.on f).links = s.links := rfl
@[simp] theorem State.on_attic (f : Field) : (s.on f).attic = s.attic := rfl
@[simp] theorem State.on_cellar (f : Field) : (s.on f).cellar = s.cellar := rfl
@[simp] theorem State.on_jnl (f : Field) : (s.on f).jnl = s.jnl := rfl
@[simp] theorem State.on_fwStore (f : Field) : (s.on f).fwStore = s.fwStore := rfl
@[simp] theorem State.on_fwDigest (f : Field) : (s.on f).fwDigest = s.fwDigest := rfl
@[simp] theorem State.on_porch (f : Field) : (s.on f).porch = s.porch := rfl
@[simp] theorem State.on_fwSet (f : Field) : (s.on f).fwSet = s.fwSet := rfl
@[simp] theorem State.on_tws (f : Field) : (s.on f).tws = s.tws := rfl
@[simp] theorem State.on_tcs (f : Field) : (s.on f).tcs = s.tcs := rfl
@[simp] theorem State.on_matchers (f : Field) : (s.on f).matchers = s.matchers := rfl
@[simp] theorem State.on_dbg (f : Field) : (s.on f).dbg = s.dbg := rfl
@[simp] theorem State.on_snap (f : Field) : (s.on f).snap = s.snap := rfl
@[simp] theorem State.on_pending (f : Field) : (s.on f).pending = s.pending := rfl
@[simp] theorem State.on_room (f : Field) (q : Fin 48) : (s.on f).room q = s.room q := rfl
@[simp] theorem State.on_land (f : Field) (a : Fin 6) : (s.on f).land a = s.land a := rfl
@[simp] theorem State.on_wing (f : Field) (k : Fin 2) : (s.on f).wing k = s.wing k := rfl
@[simp] theorem State.on_pl (f : Field) : (s.on f).pl = s.pl := rfl
@[simp] theorem State.on_link (f : Field) (j : Fin 2) : (s.on f).link j = s.link j := rfl
@[simp] theorem State.on_pairMode (f : Field) : (s.on f).pairMode = s.pairMode := rfl
@[simp] theorem State.on_booted (f : Field) : (s.on f).booted = s.booted := rfl
@[simp] theorem State.on_clocked (f : Field) : (s.on f).clocked = s.clocked := rfl

/-! ### State.off -/

@[simp] theorem State.off_now (f : Field) : (s.off f).now = s.now := rfl
@[simp] theorem State.off_freeCtr (f : Field) : (s.off f).freeCtr = s.freeCtr := rfl
@[simp] theorem State.off_rooms (f : Field) : (s.off f).rooms = s.rooms := rfl
@[simp] theorem State.off_lands (f : Field) : (s.off f).lands = s.lands := rfl
@[simp] theorem State.off_wings (f : Field) : (s.off f).wings = s.wings := rfl
@[simp] theorem State.off_clk (f : Field) : (s.off f).clk = s.clk := rfl
@[simp] theorem State.off_chipB (f : Field) : (s.off f).chipB = s.chipB := rfl
@[simp] theorem State.off_plan (f : Field) : (s.off f).plan = s.plan := rfl
@[simp] theorem State.off_planStore (f : Field) : (s.off f).planStore = s.planStore := rfl
@[simp] theorem State.off_planDigest (f : Field) : (s.off f).planDigest = s.planDigest := rfl
@[simp] theorem State.off_mode (f : Field) : (s.off f).mode = s.mode := rfl
@[simp] theorem State.off_lastExt (f : Field) : (s.off f).lastExt = s.lastExt := rfl
@[simp] theorem State.off_hall (f : Field) : (s.off f).hall = s.hall := rfl
@[simp] theorem State.off_hallCode (f : Field) : (s.off f).hallCode = s.hallCode := rfl
@[simp] theorem State.off_hallData (f : Field) : (s.off f).hallData = s.hallData := rfl
@[simp] theorem State.off_hbeatAt (f : Field) : (s.off f).hbeatAt = s.hbeatAt := rfl
@[simp] theorem State.off_hbMissed (f : Field) : (s.off f).hbMissed = s.hbMissed := rfl
@[simp] theorem State.off_rdata (f : Field) : (s.off f).rdata = s.rdata := rfl
@[simp] theorem State.off_rerr (f : Field) : (s.off f).rerr = s.rerr := rfl
@[simp] theorem State.off_hallErr (f : Field) : (s.off f).hallErr = s.hallErr := rfl
@[simp] theorem State.off_hearth (f : Field) : (s.off f).hearth = s.hearth := rfl
@[simp] theorem State.off_pair (f : Field) : (s.off f).pair = s.pair := rfl
@[simp] theorem State.off_pantry (f : Field) : (s.off f).pantry = s.pantry := rfl
@[simp] theorem State.off_lamps (f : Field) : (s.off f).lamps = s.lamps := rfl
@[simp] theorem State.off_chgGrant (f : Field) : (s.off f).chgGrant = s.chgGrant := rfl
@[simp] theorem State.off_links (f : Field) : (s.off f).links = s.links := rfl
@[simp] theorem State.off_attic (f : Field) : (s.off f).attic = s.attic := rfl
@[simp] theorem State.off_cellar (f : Field) : (s.off f).cellar = s.cellar := rfl
@[simp] theorem State.off_jnl (f : Field) : (s.off f).jnl = s.jnl := rfl
@[simp] theorem State.off_fwStore (f : Field) : (s.off f).fwStore = s.fwStore := rfl
@[simp] theorem State.off_fwDigest (f : Field) : (s.off f).fwDigest = s.fwDigest := rfl
@[simp] theorem State.off_porch (f : Field) : (s.off f).porch = s.porch := rfl
@[simp] theorem State.off_fwSet (f : Field) : (s.off f).fwSet = s.fwSet := rfl
@[simp] theorem State.off_tws (f : Field) : (s.off f).tws = s.tws := rfl
@[simp] theorem State.off_tcs (f : Field) : (s.off f).tcs = s.tcs := rfl
@[simp] theorem State.off_matchers (f : Field) : (s.off f).matchers = s.matchers := rfl
@[simp] theorem State.off_dbg (f : Field) : (s.off f).dbg = s.dbg := rfl
@[simp] theorem State.off_snap (f : Field) : (s.off f).snap = s.snap := rfl
@[simp] theorem State.off_pending (f : Field) : (s.off f).pending = s.pending := rfl
@[simp] theorem State.off_room (f : Field) (q : Fin 48) : (s.off f).room q = s.room q := rfl
@[simp] theorem State.off_land (f : Field) (a : Fin 6) : (s.off f).land a = s.land a := rfl
@[simp] theorem State.off_wing (f : Field) (k : Fin 2) : (s.off f).wing k = s.wing k := rfl
@[simp] theorem State.off_pl (f : Field) : (s.off f).pl = s.pl := rfl
@[simp] theorem State.off_link (f : Field) (j : Fin 2) : (s.off f).link j = s.link j := rfl
@[simp] theorem State.off_pairMode (f : Field) : (s.off f).pairMode = s.pairMode := rfl
@[simp] theorem State.off_booted (f : Field) : (s.off f).booted = s.booted := rfl
@[simp] theorem State.off_clocked (f : Field) : (s.off f).clocked = s.clocked := rfl

/-! ### State.putB -/

@[simp] theorem State.putB_now (f : Field) (b : Bool) : (s.putB f b).now = s.now := rfl
@[simp] theorem State.putB_freeCtr (f : Field) (b : Bool) : (s.putB f b).freeCtr = s.freeCtr := rfl
@[simp] theorem State.putB_rooms (f : Field) (b : Bool) : (s.putB f b).rooms = s.rooms := rfl
@[simp] theorem State.putB_lands (f : Field) (b : Bool) : (s.putB f b).lands = s.lands := rfl
@[simp] theorem State.putB_wings (f : Field) (b : Bool) : (s.putB f b).wings = s.wings := rfl
@[simp] theorem State.putB_clk (f : Field) (b : Bool) : (s.putB f b).clk = s.clk := rfl
@[simp] theorem State.putB_chipB (f : Field) (b : Bool) : (s.putB f b).chipB = s.chipB := rfl
@[simp] theorem State.putB_plan (f : Field) (b : Bool) : (s.putB f b).plan = s.plan := rfl
@[simp] theorem State.putB_planStore (f : Field) (b : Bool) : (s.putB f b).planStore = s.planStore := rfl
@[simp] theorem State.putB_planDigest (f : Field) (b : Bool) : (s.putB f b).planDigest = s.planDigest := rfl
@[simp] theorem State.putB_mode (f : Field) (b : Bool) : (s.putB f b).mode = s.mode := rfl
@[simp] theorem State.putB_lastExt (f : Field) (b : Bool) : (s.putB f b).lastExt = s.lastExt := rfl
@[simp] theorem State.putB_hall (f : Field) (b : Bool) : (s.putB f b).hall = s.hall := rfl
@[simp] theorem State.putB_hallCode (f : Field) (b : Bool) : (s.putB f b).hallCode = s.hallCode := rfl
@[simp] theorem State.putB_hallData (f : Field) (b : Bool) : (s.putB f b).hallData = s.hallData := rfl
@[simp] theorem State.putB_hbeatAt (f : Field) (b : Bool) : (s.putB f b).hbeatAt = s.hbeatAt := rfl
@[simp] theorem State.putB_hbMissed (f : Field) (b : Bool) : (s.putB f b).hbMissed = s.hbMissed := rfl
@[simp] theorem State.putB_rdata (f : Field) (b : Bool) : (s.putB f b).rdata = s.rdata := rfl
@[simp] theorem State.putB_rerr (f : Field) (b : Bool) : (s.putB f b).rerr = s.rerr := rfl
@[simp] theorem State.putB_hallErr (f : Field) (b : Bool) : (s.putB f b).hallErr = s.hallErr := rfl
@[simp] theorem State.putB_hearth (f : Field) (b : Bool) : (s.putB f b).hearth = s.hearth := rfl
@[simp] theorem State.putB_pair (f : Field) (b : Bool) : (s.putB f b).pair = s.pair := rfl
@[simp] theorem State.putB_pantry (f : Field) (b : Bool) : (s.putB f b).pantry = s.pantry := rfl
@[simp] theorem State.putB_lamps (f : Field) (b : Bool) : (s.putB f b).lamps = s.lamps := rfl
@[simp] theorem State.putB_chgGrant (f : Field) (b : Bool) : (s.putB f b).chgGrant = s.chgGrant := rfl
@[simp] theorem State.putB_links (f : Field) (b : Bool) : (s.putB f b).links = s.links := rfl
@[simp] theorem State.putB_attic (f : Field) (b : Bool) : (s.putB f b).attic = s.attic := rfl
@[simp] theorem State.putB_cellar (f : Field) (b : Bool) : (s.putB f b).cellar = s.cellar := rfl
@[simp] theorem State.putB_jnl (f : Field) (b : Bool) : (s.putB f b).jnl = s.jnl := rfl
@[simp] theorem State.putB_fwStore (f : Field) (b : Bool) : (s.putB f b).fwStore = s.fwStore := rfl
@[simp] theorem State.putB_fwDigest (f : Field) (b : Bool) : (s.putB f b).fwDigest = s.fwDigest := rfl
@[simp] theorem State.putB_porch (f : Field) (b : Bool) : (s.putB f b).porch = s.porch := rfl
@[simp] theorem State.putB_fwSet (f : Field) (b : Bool) : (s.putB f b).fwSet = s.fwSet := rfl
@[simp] theorem State.putB_tws (f : Field) (b : Bool) : (s.putB f b).tws = s.tws := rfl
@[simp] theorem State.putB_tcs (f : Field) (b : Bool) : (s.putB f b).tcs = s.tcs := rfl
@[simp] theorem State.putB_matchers (f : Field) (b : Bool) : (s.putB f b).matchers = s.matchers := rfl
@[simp] theorem State.putB_dbg (f : Field) (b : Bool) : (s.putB f b).dbg = s.dbg := rfl
@[simp] theorem State.putB_snap (f : Field) (b : Bool) : (s.putB f b).snap = s.snap := rfl
@[simp] theorem State.putB_pending (f : Field) (b : Bool) : (s.putB f b).pending = s.pending := rfl
@[simp] theorem State.putB_room (f : Field) (b : Bool) (q : Fin 48) : (s.putB f b).room q = s.room q := rfl
@[simp] theorem State.putB_land (f : Field) (b : Bool) (a : Fin 6) : (s.putB f b).land a = s.land a := rfl
@[simp] theorem State.putB_wing (f : Field) (b : Bool) (k : Fin 2) : (s.putB f b).wing k = s.wing k := rfl
@[simp] theorem State.putB_pl (f : Field) (b : Bool) : (s.putB f b).pl = s.pl := rfl
@[simp] theorem State.putB_link (f : Field) (b : Bool) (j : Fin 2) : (s.putB f b).link j = s.link j := rfl
@[simp] theorem State.putB_pairMode (f : Field) (b : Bool) : (s.putB f b).pairMode = s.pairMode := rfl
@[simp] theorem State.putB_booted (f : Field) (b : Bool) : (s.putB f b).booted = s.booted := rfl
@[simp] theorem State.putB_clocked (f : Field) (b : Bool) : (s.putB f b).clocked = s.clocked := rfl

/-! ### State.setRoom -/

@[simp] theorem State.setRoom_now (p : Fin 48) (r : Room) : (s.setRoom p r).now = s.now := rfl
@[simp] theorem State.setRoom_freeCtr (p : Fin 48) (r : Room) : (s.setRoom p r).freeCtr = s.freeCtr := rfl
@[simp] theorem State.setRoom_regs (p : Fin 48) (r : Room) : (s.setRoom p r).regs = s.regs := rfl
@[simp] theorem State.setRoom_lands (p : Fin 48) (r : Room) : (s.setRoom p r).lands = s.lands := rfl
@[simp] theorem State.setRoom_wings (p : Fin 48) (r : Room) : (s.setRoom p r).wings = s.wings := rfl
@[simp] theorem State.setRoom_clk (p : Fin 48) (r : Room) : (s.setRoom p r).clk = s.clk := rfl
@[simp] theorem State.setRoom_chipB (p : Fin 48) (r : Room) : (s.setRoom p r).chipB = s.chipB := rfl
@[simp] theorem State.setRoom_plan (p : Fin 48) (r : Room) : (s.setRoom p r).plan = s.plan := rfl
@[simp] theorem State.setRoom_planStore (p : Fin 48) (r : Room) : (s.setRoom p r).planStore = s.planStore := rfl
@[simp] theorem State.setRoom_planDigest (p : Fin 48) (r : Room) : (s.setRoom p r).planDigest = s.planDigest := rfl
@[simp] theorem State.setRoom_mode (p : Fin 48) (r : Room) : (s.setRoom p r).mode = s.mode := rfl
@[simp] theorem State.setRoom_lastExt (p : Fin 48) (r : Room) : (s.setRoom p r).lastExt = s.lastExt := rfl
@[simp] theorem State.setRoom_hall (p : Fin 48) (r : Room) : (s.setRoom p r).hall = s.hall := rfl
@[simp] theorem State.setRoom_hallCode (p : Fin 48) (r : Room) : (s.setRoom p r).hallCode = s.hallCode := rfl
@[simp] theorem State.setRoom_hallData (p : Fin 48) (r : Room) : (s.setRoom p r).hallData = s.hallData := rfl
@[simp] theorem State.setRoom_hbeatAt (p : Fin 48) (r : Room) : (s.setRoom p r).hbeatAt = s.hbeatAt := rfl
@[simp] theorem State.setRoom_hbMissed (p : Fin 48) (r : Room) : (s.setRoom p r).hbMissed = s.hbMissed := rfl
@[simp] theorem State.setRoom_rdata (p : Fin 48) (r : Room) : (s.setRoom p r).rdata = s.rdata := rfl
@[simp] theorem State.setRoom_rerr (p : Fin 48) (r : Room) : (s.setRoom p r).rerr = s.rerr := rfl
@[simp] theorem State.setRoom_hallErr (p : Fin 48) (r : Room) : (s.setRoom p r).hallErr = s.hallErr := rfl
@[simp] theorem State.setRoom_hearth (p : Fin 48) (r : Room) : (s.setRoom p r).hearth = s.hearth := rfl
@[simp] theorem State.setRoom_pair (p : Fin 48) (r : Room) : (s.setRoom p r).pair = s.pair := rfl
@[simp] theorem State.setRoom_pantry (p : Fin 48) (r : Room) : (s.setRoom p r).pantry = s.pantry := rfl
@[simp] theorem State.setRoom_lamps (p : Fin 48) (r : Room) : (s.setRoom p r).lamps = s.lamps := rfl
@[simp] theorem State.setRoom_chgGrant (p : Fin 48) (r : Room) : (s.setRoom p r).chgGrant = s.chgGrant := rfl
@[simp] theorem State.setRoom_links (p : Fin 48) (r : Room) : (s.setRoom p r).links = s.links := rfl
@[simp] theorem State.setRoom_attic (p : Fin 48) (r : Room) : (s.setRoom p r).attic = s.attic := rfl
@[simp] theorem State.setRoom_cellar (p : Fin 48) (r : Room) : (s.setRoom p r).cellar = s.cellar := rfl
@[simp] theorem State.setRoom_jnl (p : Fin 48) (r : Room) : (s.setRoom p r).jnl = s.jnl := rfl
@[simp] theorem State.setRoom_fwStore (p : Fin 48) (r : Room) : (s.setRoom p r).fwStore = s.fwStore := rfl
@[simp] theorem State.setRoom_fwDigest (p : Fin 48) (r : Room) : (s.setRoom p r).fwDigest = s.fwDigest := rfl
@[simp] theorem State.setRoom_porch (p : Fin 48) (r : Room) : (s.setRoom p r).porch = s.porch := rfl
@[simp] theorem State.setRoom_fwSet (p : Fin 48) (r : Room) : (s.setRoom p r).fwSet = s.fwSet := rfl
@[simp] theorem State.setRoom_tws (p : Fin 48) (r : Room) : (s.setRoom p r).tws = s.tws := rfl
@[simp] theorem State.setRoom_tcs (p : Fin 48) (r : Room) : (s.setRoom p r).tcs = s.tcs := rfl
@[simp] theorem State.setRoom_matchers (p : Fin 48) (r : Room) : (s.setRoom p r).matchers = s.matchers := rfl
@[simp] theorem State.setRoom_dbg (p : Fin 48) (r : Room) : (s.setRoom p r).dbg = s.dbg := rfl
@[simp] theorem State.setRoom_snap (p : Fin 48) (r : Room) : (s.setRoom p r).snap = s.snap := rfl
@[simp] theorem State.setRoom_pending (p : Fin 48) (r : Room) : (s.setRoom p r).pending = s.pending := rfl
@[simp] theorem State.setRoom_land (p : Fin 48) (r : Room) (a : Fin 6) : (s.setRoom p r).land a = s.land a := rfl
@[simp] theorem State.setRoom_wing (p : Fin 48) (r : Room) (k : Fin 2) : (s.setRoom p r).wing k = s.wing k := rfl
@[simp] theorem State.setRoom_fld (p : Fin 48) (r : Room) (h : Field) : (s.setRoom p r).fld h = s.fld h := rfl
@[simp] theorem State.setRoom_bit (p : Fin 48) (r : Room) (h : Field) : (s.setRoom p r).bit h = s.bit h := rfl
@[simp] theorem State.setRoom_pl (p : Fin 48) (r : Room) : (s.setRoom p r).pl = s.pl := rfl
@[simp] theorem State.setRoom_link (p : Fin 48) (r : Room) (j : Fin 2) : (s.setRoom p r).link j = s.link j := rfl
@[simp] theorem State.setRoom_pairMode (p : Fin 48) (r : Room) : (s.setRoom p r).pairMode = s.pairMode := rfl
@[simp] theorem State.setRoom_booted (p : Fin 48) (r : Room) : (s.setRoom p r).booted = s.booted := rfl
@[simp] theorem State.setRoom_clocked (p : Fin 48) (r : Room) : (s.setRoom p r).clocked = s.clocked := rfl

/-! ### State.onRoom -/

@[simp] theorem State.onRoom_now (p : Fin 48) (g : Room → Room) : (s.onRoom p g).now = s.now := rfl
@[simp] theorem State.onRoom_freeCtr (p : Fin 48) (g : Room → Room) : (s.onRoom p g).freeCtr = s.freeCtr := rfl
@[simp] theorem State.onRoom_regs (p : Fin 48) (g : Room → Room) : (s.onRoom p g).regs = s.regs := rfl
@[simp] theorem State.onRoom_lands (p : Fin 48) (g : Room → Room) : (s.onRoom p g).lands = s.lands := rfl
@[simp] theorem State.onRoom_wings (p : Fin 48) (g : Room → Room) : (s.onRoom p g).wings = s.wings := rfl
@[simp] theorem State.onRoom_clk (p : Fin 48) (g : Room → Room) : (s.onRoom p g).clk = s.clk := rfl
@[simp] theorem State.onRoom_chipB (p : Fin 48) (g : Room → Room) : (s.onRoom p g).chipB = s.chipB := rfl
@[simp] theorem State.onRoom_plan (p : Fin 48) (g : Room → Room) : (s.onRoom p g).plan = s.plan := rfl
@[simp] theorem State.onRoom_planStore (p : Fin 48) (g : Room → Room) : (s.onRoom p g).planStore = s.planStore := rfl
@[simp] theorem State.onRoom_planDigest (p : Fin 48) (g : Room → Room) : (s.onRoom p g).planDigest = s.planDigest := rfl
@[simp] theorem State.onRoom_mode (p : Fin 48) (g : Room → Room) : (s.onRoom p g).mode = s.mode := rfl
@[simp] theorem State.onRoom_lastExt (p : Fin 48) (g : Room → Room) : (s.onRoom p g).lastExt = s.lastExt := rfl
@[simp] theorem State.onRoom_hall (p : Fin 48) (g : Room → Room) : (s.onRoom p g).hall = s.hall := rfl
@[simp] theorem State.onRoom_hallCode (p : Fin 48) (g : Room → Room) : (s.onRoom p g).hallCode = s.hallCode := rfl
@[simp] theorem State.onRoom_hallData (p : Fin 48) (g : Room → Room) : (s.onRoom p g).hallData = s.hallData := rfl
@[simp] theorem State.onRoom_hbeatAt (p : Fin 48) (g : Room → Room) : (s.onRoom p g).hbeatAt = s.hbeatAt := rfl
@[simp] theorem State.onRoom_hbMissed (p : Fin 48) (g : Room → Room) : (s.onRoom p g).hbMissed = s.hbMissed := rfl
@[simp] theorem State.onRoom_rdata (p : Fin 48) (g : Room → Room) : (s.onRoom p g).rdata = s.rdata := rfl
@[simp] theorem State.onRoom_rerr (p : Fin 48) (g : Room → Room) : (s.onRoom p g).rerr = s.rerr := rfl
@[simp] theorem State.onRoom_hallErr (p : Fin 48) (g : Room → Room) : (s.onRoom p g).hallErr = s.hallErr := rfl
@[simp] theorem State.onRoom_hearth (p : Fin 48) (g : Room → Room) : (s.onRoom p g).hearth = s.hearth := rfl
@[simp] theorem State.onRoom_pair (p : Fin 48) (g : Room → Room) : (s.onRoom p g).pair = s.pair := rfl
@[simp] theorem State.onRoom_pantry (p : Fin 48) (g : Room → Room) : (s.onRoom p g).pantry = s.pantry := rfl
@[simp] theorem State.onRoom_lamps (p : Fin 48) (g : Room → Room) : (s.onRoom p g).lamps = s.lamps := rfl
@[simp] theorem State.onRoom_chgGrant (p : Fin 48) (g : Room → Room) : (s.onRoom p g).chgGrant = s.chgGrant := rfl
@[simp] theorem State.onRoom_links (p : Fin 48) (g : Room → Room) : (s.onRoom p g).links = s.links := rfl
@[simp] theorem State.onRoom_attic (p : Fin 48) (g : Room → Room) : (s.onRoom p g).attic = s.attic := rfl
@[simp] theorem State.onRoom_cellar (p : Fin 48) (g : Room → Room) : (s.onRoom p g).cellar = s.cellar := rfl
@[simp] theorem State.onRoom_jnl (p : Fin 48) (g : Room → Room) : (s.onRoom p g).jnl = s.jnl := rfl
@[simp] theorem State.onRoom_fwStore (p : Fin 48) (g : Room → Room) : (s.onRoom p g).fwStore = s.fwStore := rfl
@[simp] theorem State.onRoom_fwDigest (p : Fin 48) (g : Room → Room) : (s.onRoom p g).fwDigest = s.fwDigest := rfl
@[simp] theorem State.onRoom_porch (p : Fin 48) (g : Room → Room) : (s.onRoom p g).porch = s.porch := rfl
@[simp] theorem State.onRoom_fwSet (p : Fin 48) (g : Room → Room) : (s.onRoom p g).fwSet = s.fwSet := rfl
@[simp] theorem State.onRoom_tws (p : Fin 48) (g : Room → Room) : (s.onRoom p g).tws = s.tws := rfl
@[simp] theorem State.onRoom_tcs (p : Fin 48) (g : Room → Room) : (s.onRoom p g).tcs = s.tcs := rfl
@[simp] theorem State.onRoom_matchers (p : Fin 48) (g : Room → Room) : (s.onRoom p g).matchers = s.matchers := rfl
@[simp] theorem State.onRoom_dbg (p : Fin 48) (g : Room → Room) : (s.onRoom p g).dbg = s.dbg := rfl
@[simp] theorem State.onRoom_snap (p : Fin 48) (g : Room → Room) : (s.onRoom p g).snap = s.snap := rfl
@[simp] theorem State.onRoom_pending (p : Fin 48) (g : Room → Room) : (s.onRoom p g).pending = s.pending := rfl
@[simp] theorem State.onRoom_land (p : Fin 48) (g : Room → Room) (a : Fin 6) : (s.onRoom p g).land a = s.land a := rfl
@[simp] theorem State.onRoom_wing (p : Fin 48) (g : Room → Room) (k : Fin 2) : (s.onRoom p g).wing k = s.wing k := rfl
@[simp] theorem State.onRoom_fld (p : Fin 48) (g : Room → Room) (h : Field) : (s.onRoom p g).fld h = s.fld h := rfl
@[simp] theorem State.onRoom_bit (p : Fin 48) (g : Room → Room) (h : Field) : (s.onRoom p g).bit h = s.bit h := rfl
@[simp] theorem State.onRoom_pl (p : Fin 48) (g : Room → Room) : (s.onRoom p g).pl = s.pl := rfl
@[simp] theorem State.onRoom_link (p : Fin 48) (g : Room → Room) (j : Fin 2) : (s.onRoom p g).link j = s.link j := rfl
@[simp] theorem State.onRoom_pairMode (p : Fin 48) (g : Room → Room) : (s.onRoom p g).pairMode = s.pairMode := rfl
@[simp] theorem State.onRoom_booted (p : Fin 48) (g : Room → Room) : (s.onRoom p g).booted = s.booted := rfl
@[simp] theorem State.onRoom_clocked (p : Fin 48) (g : Room → Room) : (s.onRoom p g).clocked = s.clocked := rfl

/-! ### State.onRoomE -/

@[simp] theorem State.onRoomE_now (p : Fin 48) (g : Env → Room → Room) : (s.onRoomE p g).now = s.now := rfl
@[simp] theorem State.onRoomE_freeCtr (p : Fin 48) (g : Env → Room → Room) : (s.onRoomE p g).freeCtr = s.freeCtr := rfl
@[simp] theorem State.onRoomE_regs (p : Fin 48) (g : Env → Room → Room) : (s.onRoomE p g).regs = s.regs := rfl
@[simp] theorem State.onRoomE_lands (p : Fin 48) (g : Env → Room → Room) : (s.onRoomE p g).lands = s.lands := rfl
@[simp] theorem State.onRoomE_wings (p : Fin 48) (g : Env → Room → Room) : (s.onRoomE p g).wings = s.wings := rfl
@[simp] theorem State.onRoomE_clk (p : Fin 48) (g : Env → Room → Room) : (s.onRoomE p g).clk = s.clk := rfl
@[simp] theorem State.onRoomE_chipB (p : Fin 48) (g : Env → Room → Room) : (s.onRoomE p g).chipB = s.chipB := rfl
@[simp] theorem State.onRoomE_plan (p : Fin 48) (g : Env → Room → Room) : (s.onRoomE p g).plan = s.plan := rfl
@[simp] theorem State.onRoomE_planStore (p : Fin 48) (g : Env → Room → Room) : (s.onRoomE p g).planStore = s.planStore := rfl
@[simp] theorem State.onRoomE_planDigest (p : Fin 48) (g : Env → Room → Room) : (s.onRoomE p g).planDigest = s.planDigest := rfl
@[simp] theorem State.onRoomE_mode (p : Fin 48) (g : Env → Room → Room) : (s.onRoomE p g).mode = s.mode := rfl
@[simp] theorem State.onRoomE_lastExt (p : Fin 48) (g : Env → Room → Room) : (s.onRoomE p g).lastExt = s.lastExt := rfl
@[simp] theorem State.onRoomE_hall (p : Fin 48) (g : Env → Room → Room) : (s.onRoomE p g).hall = s.hall := rfl
@[simp] theorem State.onRoomE_hallCode (p : Fin 48) (g : Env → Room → Room) : (s.onRoomE p g).hallCode = s.hallCode := rfl
@[simp] theorem State.onRoomE_hallData (p : Fin 48) (g : Env → Room → Room) : (s.onRoomE p g).hallData = s.hallData := rfl
@[simp] theorem State.onRoomE_hbeatAt (p : Fin 48) (g : Env → Room → Room) : (s.onRoomE p g).hbeatAt = s.hbeatAt := rfl
@[simp] theorem State.onRoomE_hbMissed (p : Fin 48) (g : Env → Room → Room) : (s.onRoomE p g).hbMissed = s.hbMissed := rfl
@[simp] theorem State.onRoomE_rdata (p : Fin 48) (g : Env → Room → Room) : (s.onRoomE p g).rdata = s.rdata := rfl
@[simp] theorem State.onRoomE_rerr (p : Fin 48) (g : Env → Room → Room) : (s.onRoomE p g).rerr = s.rerr := rfl
@[simp] theorem State.onRoomE_hallErr (p : Fin 48) (g : Env → Room → Room) : (s.onRoomE p g).hallErr = s.hallErr := rfl
@[simp] theorem State.onRoomE_hearth (p : Fin 48) (g : Env → Room → Room) : (s.onRoomE p g).hearth = s.hearth := rfl
@[simp] theorem State.onRoomE_pair (p : Fin 48) (g : Env → Room → Room) : (s.onRoomE p g).pair = s.pair := rfl
@[simp] theorem State.onRoomE_pantry (p : Fin 48) (g : Env → Room → Room) : (s.onRoomE p g).pantry = s.pantry := rfl
@[simp] theorem State.onRoomE_lamps (p : Fin 48) (g : Env → Room → Room) : (s.onRoomE p g).lamps = s.lamps := rfl
@[simp] theorem State.onRoomE_chgGrant (p : Fin 48) (g : Env → Room → Room) : (s.onRoomE p g).chgGrant = s.chgGrant := rfl
@[simp] theorem State.onRoomE_links (p : Fin 48) (g : Env → Room → Room) : (s.onRoomE p g).links = s.links := rfl
@[simp] theorem State.onRoomE_attic (p : Fin 48) (g : Env → Room → Room) : (s.onRoomE p g).attic = s.attic := rfl
@[simp] theorem State.onRoomE_cellar (p : Fin 48) (g : Env → Room → Room) : (s.onRoomE p g).cellar = s.cellar := rfl
@[simp] theorem State.onRoomE_jnl (p : Fin 48) (g : Env → Room → Room) : (s.onRoomE p g).jnl = s.jnl := rfl
@[simp] theorem State.onRoomE_fwStore (p : Fin 48) (g : Env → Room → Room) : (s.onRoomE p g).fwStore = s.fwStore := rfl
@[simp] theorem State.onRoomE_fwDigest (p : Fin 48) (g : Env → Room → Room) : (s.onRoomE p g).fwDigest = s.fwDigest := rfl
@[simp] theorem State.onRoomE_porch (p : Fin 48) (g : Env → Room → Room) : (s.onRoomE p g).porch = s.porch := rfl
@[simp] theorem State.onRoomE_fwSet (p : Fin 48) (g : Env → Room → Room) : (s.onRoomE p g).fwSet = s.fwSet := rfl
@[simp] theorem State.onRoomE_tws (p : Fin 48) (g : Env → Room → Room) : (s.onRoomE p g).tws = s.tws := rfl
@[simp] theorem State.onRoomE_tcs (p : Fin 48) (g : Env → Room → Room) : (s.onRoomE p g).tcs = s.tcs := rfl
@[simp] theorem State.onRoomE_matchers (p : Fin 48) (g : Env → Room → Room) : (s.onRoomE p g).matchers = s.matchers := rfl
@[simp] theorem State.onRoomE_dbg (p : Fin 48) (g : Env → Room → Room) : (s.onRoomE p g).dbg = s.dbg := rfl
@[simp] theorem State.onRoomE_snap (p : Fin 48) (g : Env → Room → Room) : (s.onRoomE p g).snap = s.snap := rfl
@[simp] theorem State.onRoomE_pending (p : Fin 48) (g : Env → Room → Room) : (s.onRoomE p g).pending = s.pending := rfl
@[simp] theorem State.onRoomE_land (p : Fin 48) (g : Env → Room → Room) (a : Fin 6) : (s.onRoomE p g).land a = s.land a := rfl
@[simp] theorem State.onRoomE_wing (p : Fin 48) (g : Env → Room → Room) (k : Fin 2) : (s.onRoomE p g).wing k = s.wing k := rfl
@[simp] theorem State.onRoomE_fld (p : Fin 48) (g : Env → Room → Room) (h : Field) : (s.onRoomE p g).fld h = s.fld h := rfl
@[simp] theorem State.onRoomE_bit (p : Fin 48) (g : Env → Room → Room) (h : Field) : (s.onRoomE p g).bit h = s.bit h := rfl
@[simp] theorem State.onRoomE_pl (p : Fin 48) (g : Env → Room → Room) : (s.onRoomE p g).pl = s.pl := rfl
@[simp] theorem State.onRoomE_link (p : Fin 48) (g : Env → Room → Room) (j : Fin 2) : (s.onRoomE p g).link j = s.link j := rfl
@[simp] theorem State.onRoomE_pairMode (p : Fin 48) (g : Env → Room → Room) : (s.onRoomE p g).pairMode = s.pairMode := rfl
@[simp] theorem State.onRoomE_booted (p : Fin 48) (g : Env → Room → Room) : (s.onRoomE p g).booted = s.booted := rfl
@[simp] theorem State.onRoomE_clocked (p : Fin 48) (g : Env → Room → Room) : (s.onRoomE p g).clocked = s.clocked := rfl

/-! ### State.mapRooms -/

@[simp] theorem State.mapRooms_now (g : Fin 48 → Room → Room) : (s.mapRooms g).now = s.now := by unfold State.mapRooms; rfl
@[simp] theorem State.mapRooms_freeCtr (g : Fin 48 → Room → Room) : (s.mapRooms g).freeCtr = s.freeCtr := by unfold State.mapRooms; rfl
@[simp] theorem State.mapRooms_regs (g : Fin 48 → Room → Room) : (s.mapRooms g).regs = s.regs := by unfold State.mapRooms; rfl
@[simp] theorem State.mapRooms_lands (g : Fin 48 → Room → Room) : (s.mapRooms g).lands = s.lands := by unfold State.mapRooms; rfl
@[simp] theorem State.mapRooms_wings (g : Fin 48 → Room → Room) : (s.mapRooms g).wings = s.wings := by unfold State.mapRooms; rfl
@[simp] theorem State.mapRooms_clk (g : Fin 48 → Room → Room) : (s.mapRooms g).clk = s.clk := by unfold State.mapRooms; rfl
@[simp] theorem State.mapRooms_chipB (g : Fin 48 → Room → Room) : (s.mapRooms g).chipB = s.chipB := by unfold State.mapRooms; rfl
@[simp] theorem State.mapRooms_plan (g : Fin 48 → Room → Room) : (s.mapRooms g).plan = s.plan := by unfold State.mapRooms; rfl
@[simp] theorem State.mapRooms_planStore (g : Fin 48 → Room → Room) : (s.mapRooms g).planStore = s.planStore := by unfold State.mapRooms; rfl
@[simp] theorem State.mapRooms_planDigest (g : Fin 48 → Room → Room) : (s.mapRooms g).planDigest = s.planDigest := by unfold State.mapRooms; rfl
@[simp] theorem State.mapRooms_mode (g : Fin 48 → Room → Room) : (s.mapRooms g).mode = s.mode := by unfold State.mapRooms; rfl
@[simp] theorem State.mapRooms_lastExt (g : Fin 48 → Room → Room) : (s.mapRooms g).lastExt = s.lastExt := by unfold State.mapRooms; rfl
@[simp] theorem State.mapRooms_hall (g : Fin 48 → Room → Room) : (s.mapRooms g).hall = s.hall := by unfold State.mapRooms; rfl
@[simp] theorem State.mapRooms_hallCode (g : Fin 48 → Room → Room) : (s.mapRooms g).hallCode = s.hallCode := by unfold State.mapRooms; rfl
@[simp] theorem State.mapRooms_hallData (g : Fin 48 → Room → Room) : (s.mapRooms g).hallData = s.hallData := by unfold State.mapRooms; rfl
@[simp] theorem State.mapRooms_hbeatAt (g : Fin 48 → Room → Room) : (s.mapRooms g).hbeatAt = s.hbeatAt := by unfold State.mapRooms; rfl
@[simp] theorem State.mapRooms_hbMissed (g : Fin 48 → Room → Room) : (s.mapRooms g).hbMissed = s.hbMissed := by unfold State.mapRooms; rfl
@[simp] theorem State.mapRooms_rdata (g : Fin 48 → Room → Room) : (s.mapRooms g).rdata = s.rdata := by unfold State.mapRooms; rfl
@[simp] theorem State.mapRooms_rerr (g : Fin 48 → Room → Room) : (s.mapRooms g).rerr = s.rerr := by unfold State.mapRooms; rfl
@[simp] theorem State.mapRooms_hallErr (g : Fin 48 → Room → Room) : (s.mapRooms g).hallErr = s.hallErr := by unfold State.mapRooms; rfl
@[simp] theorem State.mapRooms_hearth (g : Fin 48 → Room → Room) : (s.mapRooms g).hearth = s.hearth := by unfold State.mapRooms; rfl
@[simp] theorem State.mapRooms_pair (g : Fin 48 → Room → Room) : (s.mapRooms g).pair = s.pair := by unfold State.mapRooms; rfl
@[simp] theorem State.mapRooms_pantry (g : Fin 48 → Room → Room) : (s.mapRooms g).pantry = s.pantry := by unfold State.mapRooms; rfl
@[simp] theorem State.mapRooms_lamps (g : Fin 48 → Room → Room) : (s.mapRooms g).lamps = s.lamps := by unfold State.mapRooms; rfl
@[simp] theorem State.mapRooms_chgGrant (g : Fin 48 → Room → Room) : (s.mapRooms g).chgGrant = s.chgGrant := by unfold State.mapRooms; rfl
@[simp] theorem State.mapRooms_links (g : Fin 48 → Room → Room) : (s.mapRooms g).links = s.links := by unfold State.mapRooms; rfl
@[simp] theorem State.mapRooms_attic (g : Fin 48 → Room → Room) : (s.mapRooms g).attic = s.attic := by unfold State.mapRooms; rfl
@[simp] theorem State.mapRooms_cellar (g : Fin 48 → Room → Room) : (s.mapRooms g).cellar = s.cellar := by unfold State.mapRooms; rfl
@[simp] theorem State.mapRooms_jnl (g : Fin 48 → Room → Room) : (s.mapRooms g).jnl = s.jnl := by unfold State.mapRooms; rfl
@[simp] theorem State.mapRooms_fwStore (g : Fin 48 → Room → Room) : (s.mapRooms g).fwStore = s.fwStore := by unfold State.mapRooms; rfl
@[simp] theorem State.mapRooms_fwDigest (g : Fin 48 → Room → Room) : (s.mapRooms g).fwDigest = s.fwDigest := by unfold State.mapRooms; rfl
@[simp] theorem State.mapRooms_porch (g : Fin 48 → Room → Room) : (s.mapRooms g).porch = s.porch := by unfold State.mapRooms; rfl
@[simp] theorem State.mapRooms_fwSet (g : Fin 48 → Room → Room) : (s.mapRooms g).fwSet = s.fwSet := by unfold State.mapRooms; rfl
@[simp] theorem State.mapRooms_tws (g : Fin 48 → Room → Room) : (s.mapRooms g).tws = s.tws := by unfold State.mapRooms; rfl
@[simp] theorem State.mapRooms_tcs (g : Fin 48 → Room → Room) : (s.mapRooms g).tcs = s.tcs := by unfold State.mapRooms; rfl
@[simp] theorem State.mapRooms_matchers (g : Fin 48 → Room → Room) : (s.mapRooms g).matchers = s.matchers := by unfold State.mapRooms; rfl
@[simp] theorem State.mapRooms_dbg (g : Fin 48 → Room → Room) : (s.mapRooms g).dbg = s.dbg := by unfold State.mapRooms; rfl
@[simp] theorem State.mapRooms_snap (g : Fin 48 → Room → Room) : (s.mapRooms g).snap = s.snap := by unfold State.mapRooms; rfl
@[simp] theorem State.mapRooms_pending (g : Fin 48 → Room → Room) : (s.mapRooms g).pending = s.pending := by unfold State.mapRooms; rfl
@[simp] theorem State.mapRooms_land (g : Fin 48 → Room → Room) (a : Fin 6) : (s.mapRooms g).land a = s.land a := by simp only [State.land, State.mapRooms_lands]
@[simp] theorem State.mapRooms_wing (g : Fin 48 → Room → Room) (k : Fin 2) : (s.mapRooms g).wing k = s.wing k := by simp only [State.wing, State.mapRooms_wings]
@[simp] theorem State.mapRooms_fld (g : Fin 48 → Room → Room) (h : Field) : (s.mapRooms g).fld h = s.fld h := by simp only [State.fld, State.mapRooms_regs]
@[simp] theorem State.mapRooms_bit (g : Fin 48 → Room → Room) (h : Field) : (s.mapRooms g).bit h = s.bit h := by simp only [State.bit, State.mapRooms_regs]
@[simp] theorem State.mapRooms_pl (g : Fin 48 → Room → Room) : (s.mapRooms g).pl = s.pl := by simp only [State.pl, State.mapRooms_plan]
@[simp] theorem State.mapRooms_link (g : Fin 48 → Room → Room) (j : Fin 2) : (s.mapRooms g).link j = s.link j := by simp only [State.link, State.mapRooms_links]
@[simp] theorem State.mapRooms_pairMode (g : Fin 48 → Room → Room) : (s.mapRooms g).pairMode = s.pairMode := by simp only [State.pairMode, State.mapRooms_plan, State.pl]
@[simp] theorem State.mapRooms_booted (g : Fin 48 → Room → Room) : (s.mapRooms g).booted = s.booted := by simp only [State.booted, State.mapRooms_clk]
@[simp] theorem State.mapRooms_clocked (g : Fin 48 → Room → Room) : (s.mapRooms g).clocked = s.clocked := by simp only [State.clocked, State.mapRooms_clk]

/-! ### State.setLand -/

@[simp] theorem State.setLand_now (b : Fin 6) (l : Landing) : (s.setLand b l).now = s.now := rfl
@[simp] theorem State.setLand_freeCtr (b : Fin 6) (l : Landing) : (s.setLand b l).freeCtr = s.freeCtr := rfl
@[simp] theorem State.setLand_regs (b : Fin 6) (l : Landing) : (s.setLand b l).regs = s.regs := rfl
@[simp] theorem State.setLand_rooms (b : Fin 6) (l : Landing) : (s.setLand b l).rooms = s.rooms := rfl
@[simp] theorem State.setLand_wings (b : Fin 6) (l : Landing) : (s.setLand b l).wings = s.wings := rfl
@[simp] theorem State.setLand_clk (b : Fin 6) (l : Landing) : (s.setLand b l).clk = s.clk := rfl
@[simp] theorem State.setLand_chipB (b : Fin 6) (l : Landing) : (s.setLand b l).chipB = s.chipB := rfl
@[simp] theorem State.setLand_plan (b : Fin 6) (l : Landing) : (s.setLand b l).plan = s.plan := rfl
@[simp] theorem State.setLand_planStore (b : Fin 6) (l : Landing) : (s.setLand b l).planStore = s.planStore := rfl
@[simp] theorem State.setLand_planDigest (b : Fin 6) (l : Landing) : (s.setLand b l).planDigest = s.planDigest := rfl
@[simp] theorem State.setLand_mode (b : Fin 6) (l : Landing) : (s.setLand b l).mode = s.mode := rfl
@[simp] theorem State.setLand_lastExt (b : Fin 6) (l : Landing) : (s.setLand b l).lastExt = s.lastExt := rfl
@[simp] theorem State.setLand_hall (b : Fin 6) (l : Landing) : (s.setLand b l).hall = s.hall := rfl
@[simp] theorem State.setLand_hallCode (b : Fin 6) (l : Landing) : (s.setLand b l).hallCode = s.hallCode := rfl
@[simp] theorem State.setLand_hallData (b : Fin 6) (l : Landing) : (s.setLand b l).hallData = s.hallData := rfl
@[simp] theorem State.setLand_hbeatAt (b : Fin 6) (l : Landing) : (s.setLand b l).hbeatAt = s.hbeatAt := rfl
@[simp] theorem State.setLand_hbMissed (b : Fin 6) (l : Landing) : (s.setLand b l).hbMissed = s.hbMissed := rfl
@[simp] theorem State.setLand_rdata (b : Fin 6) (l : Landing) : (s.setLand b l).rdata = s.rdata := rfl
@[simp] theorem State.setLand_rerr (b : Fin 6) (l : Landing) : (s.setLand b l).rerr = s.rerr := rfl
@[simp] theorem State.setLand_hallErr (b : Fin 6) (l : Landing) : (s.setLand b l).hallErr = s.hallErr := rfl
@[simp] theorem State.setLand_hearth (b : Fin 6) (l : Landing) : (s.setLand b l).hearth = s.hearth := rfl
@[simp] theorem State.setLand_pair (b : Fin 6) (l : Landing) : (s.setLand b l).pair = s.pair := rfl
@[simp] theorem State.setLand_pantry (b : Fin 6) (l : Landing) : (s.setLand b l).pantry = s.pantry := rfl
@[simp] theorem State.setLand_lamps (b : Fin 6) (l : Landing) : (s.setLand b l).lamps = s.lamps := rfl
@[simp] theorem State.setLand_chgGrant (b : Fin 6) (l : Landing) : (s.setLand b l).chgGrant = s.chgGrant := rfl
@[simp] theorem State.setLand_links (b : Fin 6) (l : Landing) : (s.setLand b l).links = s.links := rfl
@[simp] theorem State.setLand_attic (b : Fin 6) (l : Landing) : (s.setLand b l).attic = s.attic := rfl
@[simp] theorem State.setLand_cellar (b : Fin 6) (l : Landing) : (s.setLand b l).cellar = s.cellar := rfl
@[simp] theorem State.setLand_jnl (b : Fin 6) (l : Landing) : (s.setLand b l).jnl = s.jnl := rfl
@[simp] theorem State.setLand_fwStore (b : Fin 6) (l : Landing) : (s.setLand b l).fwStore = s.fwStore := rfl
@[simp] theorem State.setLand_fwDigest (b : Fin 6) (l : Landing) : (s.setLand b l).fwDigest = s.fwDigest := rfl
@[simp] theorem State.setLand_porch (b : Fin 6) (l : Landing) : (s.setLand b l).porch = s.porch := rfl
@[simp] theorem State.setLand_fwSet (b : Fin 6) (l : Landing) : (s.setLand b l).fwSet = s.fwSet := rfl
@[simp] theorem State.setLand_tws (b : Fin 6) (l : Landing) : (s.setLand b l).tws = s.tws := rfl
@[simp] theorem State.setLand_tcs (b : Fin 6) (l : Landing) : (s.setLand b l).tcs = s.tcs := rfl
@[simp] theorem State.setLand_matchers (b : Fin 6) (l : Landing) : (s.setLand b l).matchers = s.matchers := rfl
@[simp] theorem State.setLand_dbg (b : Fin 6) (l : Landing) : (s.setLand b l).dbg = s.dbg := rfl
@[simp] theorem State.setLand_snap (b : Fin 6) (l : Landing) : (s.setLand b l).snap = s.snap := rfl
@[simp] theorem State.setLand_pending (b : Fin 6) (l : Landing) : (s.setLand b l).pending = s.pending := rfl
@[simp] theorem State.setLand_room (b : Fin 6) (l : Landing) (q : Fin 48) : (s.setLand b l).room q = s.room q := rfl
@[simp] theorem State.setLand_wing (b : Fin 6) (l : Landing) (k : Fin 2) : (s.setLand b l).wing k = s.wing k := rfl
@[simp] theorem State.setLand_fld (b : Fin 6) (l : Landing) (h : Field) : (s.setLand b l).fld h = s.fld h := rfl
@[simp] theorem State.setLand_bit (b : Fin 6) (l : Landing) (h : Field) : (s.setLand b l).bit h = s.bit h := rfl
@[simp] theorem State.setLand_pl (b : Fin 6) (l : Landing) : (s.setLand b l).pl = s.pl := rfl
@[simp] theorem State.setLand_link (b : Fin 6) (l : Landing) (j : Fin 2) : (s.setLand b l).link j = s.link j := rfl
@[simp] theorem State.setLand_pairMode (b : Fin 6) (l : Landing) : (s.setLand b l).pairMode = s.pairMode := rfl
@[simp] theorem State.setLand_booted (b : Fin 6) (l : Landing) : (s.setLand b l).booted = s.booted := rfl
@[simp] theorem State.setLand_clocked (b : Fin 6) (l : Landing) : (s.setLand b l).clocked = s.clocked := rfl

/-! ### State.onLand -/

@[simp] theorem State.onLand_now (b : Fin 6) (g : Landing → Landing) : (s.onLand b g).now = s.now := rfl
@[simp] theorem State.onLand_freeCtr (b : Fin 6) (g : Landing → Landing) : (s.onLand b g).freeCtr = s.freeCtr := rfl
@[simp] theorem State.onLand_regs (b : Fin 6) (g : Landing → Landing) : (s.onLand b g).regs = s.regs := rfl
@[simp] theorem State.onLand_rooms (b : Fin 6) (g : Landing → Landing) : (s.onLand b g).rooms = s.rooms := rfl
@[simp] theorem State.onLand_wings (b : Fin 6) (g : Landing → Landing) : (s.onLand b g).wings = s.wings := rfl
@[simp] theorem State.onLand_clk (b : Fin 6) (g : Landing → Landing) : (s.onLand b g).clk = s.clk := rfl
@[simp] theorem State.onLand_chipB (b : Fin 6) (g : Landing → Landing) : (s.onLand b g).chipB = s.chipB := rfl
@[simp] theorem State.onLand_plan (b : Fin 6) (g : Landing → Landing) : (s.onLand b g).plan = s.plan := rfl
@[simp] theorem State.onLand_planStore (b : Fin 6) (g : Landing → Landing) : (s.onLand b g).planStore = s.planStore := rfl
@[simp] theorem State.onLand_planDigest (b : Fin 6) (g : Landing → Landing) : (s.onLand b g).planDigest = s.planDigest := rfl
@[simp] theorem State.onLand_mode (b : Fin 6) (g : Landing → Landing) : (s.onLand b g).mode = s.mode := rfl
@[simp] theorem State.onLand_lastExt (b : Fin 6) (g : Landing → Landing) : (s.onLand b g).lastExt = s.lastExt := rfl
@[simp] theorem State.onLand_hall (b : Fin 6) (g : Landing → Landing) : (s.onLand b g).hall = s.hall := rfl
@[simp] theorem State.onLand_hallCode (b : Fin 6) (g : Landing → Landing) : (s.onLand b g).hallCode = s.hallCode := rfl
@[simp] theorem State.onLand_hallData (b : Fin 6) (g : Landing → Landing) : (s.onLand b g).hallData = s.hallData := rfl
@[simp] theorem State.onLand_hbeatAt (b : Fin 6) (g : Landing → Landing) : (s.onLand b g).hbeatAt = s.hbeatAt := rfl
@[simp] theorem State.onLand_hbMissed (b : Fin 6) (g : Landing → Landing) : (s.onLand b g).hbMissed = s.hbMissed := rfl
@[simp] theorem State.onLand_rdata (b : Fin 6) (g : Landing → Landing) : (s.onLand b g).rdata = s.rdata := rfl
@[simp] theorem State.onLand_rerr (b : Fin 6) (g : Landing → Landing) : (s.onLand b g).rerr = s.rerr := rfl
@[simp] theorem State.onLand_hallErr (b : Fin 6) (g : Landing → Landing) : (s.onLand b g).hallErr = s.hallErr := rfl
@[simp] theorem State.onLand_hearth (b : Fin 6) (g : Landing → Landing) : (s.onLand b g).hearth = s.hearth := rfl
@[simp] theorem State.onLand_pair (b : Fin 6) (g : Landing → Landing) : (s.onLand b g).pair = s.pair := rfl
@[simp] theorem State.onLand_pantry (b : Fin 6) (g : Landing → Landing) : (s.onLand b g).pantry = s.pantry := rfl
@[simp] theorem State.onLand_lamps (b : Fin 6) (g : Landing → Landing) : (s.onLand b g).lamps = s.lamps := rfl
@[simp] theorem State.onLand_chgGrant (b : Fin 6) (g : Landing → Landing) : (s.onLand b g).chgGrant = s.chgGrant := rfl
@[simp] theorem State.onLand_links (b : Fin 6) (g : Landing → Landing) : (s.onLand b g).links = s.links := rfl
@[simp] theorem State.onLand_attic (b : Fin 6) (g : Landing → Landing) : (s.onLand b g).attic = s.attic := rfl
@[simp] theorem State.onLand_cellar (b : Fin 6) (g : Landing → Landing) : (s.onLand b g).cellar = s.cellar := rfl
@[simp] theorem State.onLand_jnl (b : Fin 6) (g : Landing → Landing) : (s.onLand b g).jnl = s.jnl := rfl
@[simp] theorem State.onLand_fwStore (b : Fin 6) (g : Landing → Landing) : (s.onLand b g).fwStore = s.fwStore := rfl
@[simp] theorem State.onLand_fwDigest (b : Fin 6) (g : Landing → Landing) : (s.onLand b g).fwDigest = s.fwDigest := rfl
@[simp] theorem State.onLand_porch (b : Fin 6) (g : Landing → Landing) : (s.onLand b g).porch = s.porch := rfl
@[simp] theorem State.onLand_fwSet (b : Fin 6) (g : Landing → Landing) : (s.onLand b g).fwSet = s.fwSet := rfl
@[simp] theorem State.onLand_tws (b : Fin 6) (g : Landing → Landing) : (s.onLand b g).tws = s.tws := rfl
@[simp] theorem State.onLand_tcs (b : Fin 6) (g : Landing → Landing) : (s.onLand b g).tcs = s.tcs := rfl
@[simp] theorem State.onLand_matchers (b : Fin 6) (g : Landing → Landing) : (s.onLand b g).matchers = s.matchers := rfl
@[simp] theorem State.onLand_dbg (b : Fin 6) (g : Landing → Landing) : (s.onLand b g).dbg = s.dbg := rfl
@[simp] theorem State.onLand_snap (b : Fin 6) (g : Landing → Landing) : (s.onLand b g).snap = s.snap := rfl
@[simp] theorem State.onLand_pending (b : Fin 6) (g : Landing → Landing) : (s.onLand b g).pending = s.pending := rfl
@[simp] theorem State.onLand_room (b : Fin 6) (g : Landing → Landing) (q : Fin 48) : (s.onLand b g).room q = s.room q := rfl
@[simp] theorem State.onLand_wing (b : Fin 6) (g : Landing → Landing) (k : Fin 2) : (s.onLand b g).wing k = s.wing k := rfl
@[simp] theorem State.onLand_fld (b : Fin 6) (g : Landing → Landing) (h : Field) : (s.onLand b g).fld h = s.fld h := rfl
@[simp] theorem State.onLand_bit (b : Fin 6) (g : Landing → Landing) (h : Field) : (s.onLand b g).bit h = s.bit h := rfl
@[simp] theorem State.onLand_pl (b : Fin 6) (g : Landing → Landing) : (s.onLand b g).pl = s.pl := rfl
@[simp] theorem State.onLand_link (b : Fin 6) (g : Landing → Landing) (j : Fin 2) : (s.onLand b g).link j = s.link j := rfl
@[simp] theorem State.onLand_pairMode (b : Fin 6) (g : Landing → Landing) : (s.onLand b g).pairMode = s.pairMode := rfl
@[simp] theorem State.onLand_booted (b : Fin 6) (g : Landing → Landing) : (s.onLand b g).booted = s.booted := rfl
@[simp] theorem State.onLand_clocked (b : Fin 6) (g : Landing → Landing) : (s.onLand b g).clocked = s.clocked := rfl

/-! ### State.mapLands -/

@[simp] theorem State.mapLands_now (g : Fin 6 → Landing → Landing) : (s.mapLands g).now = s.now := by unfold State.mapLands; rfl
@[simp] theorem State.mapLands_freeCtr (g : Fin 6 → Landing → Landing) : (s.mapLands g).freeCtr = s.freeCtr := by unfold State.mapLands; rfl
@[simp] theorem State.mapLands_regs (g : Fin 6 → Landing → Landing) : (s.mapLands g).regs = s.regs := by unfold State.mapLands; rfl
@[simp] theorem State.mapLands_rooms (g : Fin 6 → Landing → Landing) : (s.mapLands g).rooms = s.rooms := by unfold State.mapLands; rfl
@[simp] theorem State.mapLands_wings (g : Fin 6 → Landing → Landing) : (s.mapLands g).wings = s.wings := by unfold State.mapLands; rfl
@[simp] theorem State.mapLands_clk (g : Fin 6 → Landing → Landing) : (s.mapLands g).clk = s.clk := by unfold State.mapLands; rfl
@[simp] theorem State.mapLands_chipB (g : Fin 6 → Landing → Landing) : (s.mapLands g).chipB = s.chipB := by unfold State.mapLands; rfl
@[simp] theorem State.mapLands_plan (g : Fin 6 → Landing → Landing) : (s.mapLands g).plan = s.plan := by unfold State.mapLands; rfl
@[simp] theorem State.mapLands_planStore (g : Fin 6 → Landing → Landing) : (s.mapLands g).planStore = s.planStore := by unfold State.mapLands; rfl
@[simp] theorem State.mapLands_planDigest (g : Fin 6 → Landing → Landing) : (s.mapLands g).planDigest = s.planDigest := by unfold State.mapLands; rfl
@[simp] theorem State.mapLands_mode (g : Fin 6 → Landing → Landing) : (s.mapLands g).mode = s.mode := by unfold State.mapLands; rfl
@[simp] theorem State.mapLands_lastExt (g : Fin 6 → Landing → Landing) : (s.mapLands g).lastExt = s.lastExt := by unfold State.mapLands; rfl
@[simp] theorem State.mapLands_hall (g : Fin 6 → Landing → Landing) : (s.mapLands g).hall = s.hall := by unfold State.mapLands; rfl
@[simp] theorem State.mapLands_hallCode (g : Fin 6 → Landing → Landing) : (s.mapLands g).hallCode = s.hallCode := by unfold State.mapLands; rfl
@[simp] theorem State.mapLands_hallData (g : Fin 6 → Landing → Landing) : (s.mapLands g).hallData = s.hallData := by unfold State.mapLands; rfl
@[simp] theorem State.mapLands_hbeatAt (g : Fin 6 → Landing → Landing) : (s.mapLands g).hbeatAt = s.hbeatAt := by unfold State.mapLands; rfl
@[simp] theorem State.mapLands_hbMissed (g : Fin 6 → Landing → Landing) : (s.mapLands g).hbMissed = s.hbMissed := by unfold State.mapLands; rfl
@[simp] theorem State.mapLands_rdata (g : Fin 6 → Landing → Landing) : (s.mapLands g).rdata = s.rdata := by unfold State.mapLands; rfl
@[simp] theorem State.mapLands_rerr (g : Fin 6 → Landing → Landing) : (s.mapLands g).rerr = s.rerr := by unfold State.mapLands; rfl
@[simp] theorem State.mapLands_hallErr (g : Fin 6 → Landing → Landing) : (s.mapLands g).hallErr = s.hallErr := by unfold State.mapLands; rfl
@[simp] theorem State.mapLands_hearth (g : Fin 6 → Landing → Landing) : (s.mapLands g).hearth = s.hearth := by unfold State.mapLands; rfl
@[simp] theorem State.mapLands_pair (g : Fin 6 → Landing → Landing) : (s.mapLands g).pair = s.pair := by unfold State.mapLands; rfl
@[simp] theorem State.mapLands_pantry (g : Fin 6 → Landing → Landing) : (s.mapLands g).pantry = s.pantry := by unfold State.mapLands; rfl
@[simp] theorem State.mapLands_lamps (g : Fin 6 → Landing → Landing) : (s.mapLands g).lamps = s.lamps := by unfold State.mapLands; rfl
@[simp] theorem State.mapLands_chgGrant (g : Fin 6 → Landing → Landing) : (s.mapLands g).chgGrant = s.chgGrant := by unfold State.mapLands; rfl
@[simp] theorem State.mapLands_links (g : Fin 6 → Landing → Landing) : (s.mapLands g).links = s.links := by unfold State.mapLands; rfl
@[simp] theorem State.mapLands_attic (g : Fin 6 → Landing → Landing) : (s.mapLands g).attic = s.attic := by unfold State.mapLands; rfl
@[simp] theorem State.mapLands_cellar (g : Fin 6 → Landing → Landing) : (s.mapLands g).cellar = s.cellar := by unfold State.mapLands; rfl
@[simp] theorem State.mapLands_jnl (g : Fin 6 → Landing → Landing) : (s.mapLands g).jnl = s.jnl := by unfold State.mapLands; rfl
@[simp] theorem State.mapLands_fwStore (g : Fin 6 → Landing → Landing) : (s.mapLands g).fwStore = s.fwStore := by unfold State.mapLands; rfl
@[simp] theorem State.mapLands_fwDigest (g : Fin 6 → Landing → Landing) : (s.mapLands g).fwDigest = s.fwDigest := by unfold State.mapLands; rfl
@[simp] theorem State.mapLands_porch (g : Fin 6 → Landing → Landing) : (s.mapLands g).porch = s.porch := by unfold State.mapLands; rfl
@[simp] theorem State.mapLands_fwSet (g : Fin 6 → Landing → Landing) : (s.mapLands g).fwSet = s.fwSet := by unfold State.mapLands; rfl
@[simp] theorem State.mapLands_tws (g : Fin 6 → Landing → Landing) : (s.mapLands g).tws = s.tws := by unfold State.mapLands; rfl
@[simp] theorem State.mapLands_tcs (g : Fin 6 → Landing → Landing) : (s.mapLands g).tcs = s.tcs := by unfold State.mapLands; rfl
@[simp] theorem State.mapLands_matchers (g : Fin 6 → Landing → Landing) : (s.mapLands g).matchers = s.matchers := by unfold State.mapLands; rfl
@[simp] theorem State.mapLands_dbg (g : Fin 6 → Landing → Landing) : (s.mapLands g).dbg = s.dbg := by unfold State.mapLands; rfl
@[simp] theorem State.mapLands_snap (g : Fin 6 → Landing → Landing) : (s.mapLands g).snap = s.snap := by unfold State.mapLands; rfl
@[simp] theorem State.mapLands_pending (g : Fin 6 → Landing → Landing) : (s.mapLands g).pending = s.pending := by unfold State.mapLands; rfl
@[simp] theorem State.mapLands_room (g : Fin 6 → Landing → Landing) (q : Fin 48) : (s.mapLands g).room q = s.room q := by simp only [State.room, State.mapLands_rooms]
@[simp] theorem State.mapLands_wing (g : Fin 6 → Landing → Landing) (k : Fin 2) : (s.mapLands g).wing k = s.wing k := by simp only [State.wing, State.mapLands_wings]
@[simp] theorem State.mapLands_fld (g : Fin 6 → Landing → Landing) (h : Field) : (s.mapLands g).fld h = s.fld h := by simp only [State.fld, State.mapLands_regs]
@[simp] theorem State.mapLands_bit (g : Fin 6 → Landing → Landing) (h : Field) : (s.mapLands g).bit h = s.bit h := by simp only [State.bit, State.mapLands_regs]
@[simp] theorem State.mapLands_pl (g : Fin 6 → Landing → Landing) : (s.mapLands g).pl = s.pl := by simp only [State.pl, State.mapLands_plan]
@[simp] theorem State.mapLands_link (g : Fin 6 → Landing → Landing) (j : Fin 2) : (s.mapLands g).link j = s.link j := by simp only [State.link, State.mapLands_links]
@[simp] theorem State.mapLands_pairMode (g : Fin 6 → Landing → Landing) : (s.mapLands g).pairMode = s.pairMode := by simp only [State.pairMode, State.mapLands_plan, State.pl]
@[simp] theorem State.mapLands_booted (g : Fin 6 → Landing → Landing) : (s.mapLands g).booted = s.booted := by simp only [State.booted, State.mapLands_clk]
@[simp] theorem State.mapLands_clocked (g : Fin 6 → Landing → Landing) : (s.mapLands g).clocked = s.clocked := by simp only [State.clocked, State.mapLands_clk]

/-! ### State.onWing -/

@[simp] theorem State.onWing_now (w : Fin 2) (g : Wing → Wing) : (s.onWing w g).now = s.now := rfl
@[simp] theorem State.onWing_freeCtr (w : Fin 2) (g : Wing → Wing) : (s.onWing w g).freeCtr = s.freeCtr := rfl
@[simp] theorem State.onWing_regs (w : Fin 2) (g : Wing → Wing) : (s.onWing w g).regs = s.regs := rfl
@[simp] theorem State.onWing_rooms (w : Fin 2) (g : Wing → Wing) : (s.onWing w g).rooms = s.rooms := rfl
@[simp] theorem State.onWing_lands (w : Fin 2) (g : Wing → Wing) : (s.onWing w g).lands = s.lands := rfl
@[simp] theorem State.onWing_clk (w : Fin 2) (g : Wing → Wing) : (s.onWing w g).clk = s.clk := rfl
@[simp] theorem State.onWing_chipB (w : Fin 2) (g : Wing → Wing) : (s.onWing w g).chipB = s.chipB := rfl
@[simp] theorem State.onWing_plan (w : Fin 2) (g : Wing → Wing) : (s.onWing w g).plan = s.plan := rfl
@[simp] theorem State.onWing_planStore (w : Fin 2) (g : Wing → Wing) : (s.onWing w g).planStore = s.planStore := rfl
@[simp] theorem State.onWing_planDigest (w : Fin 2) (g : Wing → Wing) : (s.onWing w g).planDigest = s.planDigest := rfl
@[simp] theorem State.onWing_mode (w : Fin 2) (g : Wing → Wing) : (s.onWing w g).mode = s.mode := rfl
@[simp] theorem State.onWing_lastExt (w : Fin 2) (g : Wing → Wing) : (s.onWing w g).lastExt = s.lastExt := rfl
@[simp] theorem State.onWing_hall (w : Fin 2) (g : Wing → Wing) : (s.onWing w g).hall = s.hall := rfl
@[simp] theorem State.onWing_hallCode (w : Fin 2) (g : Wing → Wing) : (s.onWing w g).hallCode = s.hallCode := rfl
@[simp] theorem State.onWing_hallData (w : Fin 2) (g : Wing → Wing) : (s.onWing w g).hallData = s.hallData := rfl
@[simp] theorem State.onWing_hbeatAt (w : Fin 2) (g : Wing → Wing) : (s.onWing w g).hbeatAt = s.hbeatAt := rfl
@[simp] theorem State.onWing_hbMissed (w : Fin 2) (g : Wing → Wing) : (s.onWing w g).hbMissed = s.hbMissed := rfl
@[simp] theorem State.onWing_rdata (w : Fin 2) (g : Wing → Wing) : (s.onWing w g).rdata = s.rdata := rfl
@[simp] theorem State.onWing_rerr (w : Fin 2) (g : Wing → Wing) : (s.onWing w g).rerr = s.rerr := rfl
@[simp] theorem State.onWing_hallErr (w : Fin 2) (g : Wing → Wing) : (s.onWing w g).hallErr = s.hallErr := rfl
@[simp] theorem State.onWing_hearth (w : Fin 2) (g : Wing → Wing) : (s.onWing w g).hearth = s.hearth := rfl
@[simp] theorem State.onWing_pair (w : Fin 2) (g : Wing → Wing) : (s.onWing w g).pair = s.pair := rfl
@[simp] theorem State.onWing_pantry (w : Fin 2) (g : Wing → Wing) : (s.onWing w g).pantry = s.pantry := rfl
@[simp] theorem State.onWing_lamps (w : Fin 2) (g : Wing → Wing) : (s.onWing w g).lamps = s.lamps := rfl
@[simp] theorem State.onWing_chgGrant (w : Fin 2) (g : Wing → Wing) : (s.onWing w g).chgGrant = s.chgGrant := rfl
@[simp] theorem State.onWing_links (w : Fin 2) (g : Wing → Wing) : (s.onWing w g).links = s.links := rfl
@[simp] theorem State.onWing_attic (w : Fin 2) (g : Wing → Wing) : (s.onWing w g).attic = s.attic := rfl
@[simp] theorem State.onWing_cellar (w : Fin 2) (g : Wing → Wing) : (s.onWing w g).cellar = s.cellar := rfl
@[simp] theorem State.onWing_jnl (w : Fin 2) (g : Wing → Wing) : (s.onWing w g).jnl = s.jnl := rfl
@[simp] theorem State.onWing_fwStore (w : Fin 2) (g : Wing → Wing) : (s.onWing w g).fwStore = s.fwStore := rfl
@[simp] theorem State.onWing_fwDigest (w : Fin 2) (g : Wing → Wing) : (s.onWing w g).fwDigest = s.fwDigest := rfl
@[simp] theorem State.onWing_porch (w : Fin 2) (g : Wing → Wing) : (s.onWing w g).porch = s.porch := rfl
@[simp] theorem State.onWing_fwSet (w : Fin 2) (g : Wing → Wing) : (s.onWing w g).fwSet = s.fwSet := rfl
@[simp] theorem State.onWing_tws (w : Fin 2) (g : Wing → Wing) : (s.onWing w g).tws = s.tws := rfl
@[simp] theorem State.onWing_tcs (w : Fin 2) (g : Wing → Wing) : (s.onWing w g).tcs = s.tcs := rfl
@[simp] theorem State.onWing_matchers (w : Fin 2) (g : Wing → Wing) : (s.onWing w g).matchers = s.matchers := rfl
@[simp] theorem State.onWing_dbg (w : Fin 2) (g : Wing → Wing) : (s.onWing w g).dbg = s.dbg := rfl
@[simp] theorem State.onWing_snap (w : Fin 2) (g : Wing → Wing) : (s.onWing w g).snap = s.snap := rfl
@[simp] theorem State.onWing_pending (w : Fin 2) (g : Wing → Wing) : (s.onWing w g).pending = s.pending := rfl
@[simp] theorem State.onWing_room (w : Fin 2) (g : Wing → Wing) (q : Fin 48) : (s.onWing w g).room q = s.room q := rfl
@[simp] theorem State.onWing_land (w : Fin 2) (g : Wing → Wing) (a : Fin 6) : (s.onWing w g).land a = s.land a := rfl
@[simp] theorem State.onWing_fld (w : Fin 2) (g : Wing → Wing) (h : Field) : (s.onWing w g).fld h = s.fld h := rfl
@[simp] theorem State.onWing_bit (w : Fin 2) (g : Wing → Wing) (h : Field) : (s.onWing w g).bit h = s.bit h := rfl
@[simp] theorem State.onWing_pl (w : Fin 2) (g : Wing → Wing) : (s.onWing w g).pl = s.pl := rfl
@[simp] theorem State.onWing_link (w : Fin 2) (g : Wing → Wing) (j : Fin 2) : (s.onWing w g).link j = s.link j := rfl
@[simp] theorem State.onWing_pairMode (w : Fin 2) (g : Wing → Wing) : (s.onWing w g).pairMode = s.pairMode := rfl
@[simp] theorem State.onWing_booted (w : Fin 2) (g : Wing → Wing) : (s.onWing w g).booted = s.booted := rfl
@[simp] theorem State.onWing_clocked (w : Fin 2) (g : Wing → Wing) : (s.onWing w g).clocked = s.clocked := rfl

/-! ### State.onClk -/

@[simp] theorem State.onClk_now (g : Clk → Clk) : (s.onClk g).now = s.now := rfl
@[simp] theorem State.onClk_freeCtr (g : Clk → Clk) : (s.onClk g).freeCtr = s.freeCtr := rfl
@[simp] theorem State.onClk_regs (g : Clk → Clk) : (s.onClk g).regs = s.regs := rfl
@[simp] theorem State.onClk_rooms (g : Clk → Clk) : (s.onClk g).rooms = s.rooms := rfl
@[simp] theorem State.onClk_lands (g : Clk → Clk) : (s.onClk g).lands = s.lands := rfl
@[simp] theorem State.onClk_wings (g : Clk → Clk) : (s.onClk g).wings = s.wings := rfl
@[simp] theorem State.onClk_chipB (g : Clk → Clk) : (s.onClk g).chipB = s.chipB := rfl
@[simp] theorem State.onClk_plan (g : Clk → Clk) : (s.onClk g).plan = s.plan := rfl
@[simp] theorem State.onClk_planStore (g : Clk → Clk) : (s.onClk g).planStore = s.planStore := rfl
@[simp] theorem State.onClk_planDigest (g : Clk → Clk) : (s.onClk g).planDigest = s.planDigest := rfl
@[simp] theorem State.onClk_mode (g : Clk → Clk) : (s.onClk g).mode = s.mode := rfl
@[simp] theorem State.onClk_lastExt (g : Clk → Clk) : (s.onClk g).lastExt = s.lastExt := rfl
@[simp] theorem State.onClk_hall (g : Clk → Clk) : (s.onClk g).hall = s.hall := rfl
@[simp] theorem State.onClk_hallCode (g : Clk → Clk) : (s.onClk g).hallCode = s.hallCode := rfl
@[simp] theorem State.onClk_hallData (g : Clk → Clk) : (s.onClk g).hallData = s.hallData := rfl
@[simp] theorem State.onClk_hbeatAt (g : Clk → Clk) : (s.onClk g).hbeatAt = s.hbeatAt := rfl
@[simp] theorem State.onClk_hbMissed (g : Clk → Clk) : (s.onClk g).hbMissed = s.hbMissed := rfl
@[simp] theorem State.onClk_rdata (g : Clk → Clk) : (s.onClk g).rdata = s.rdata := rfl
@[simp] theorem State.onClk_rerr (g : Clk → Clk) : (s.onClk g).rerr = s.rerr := rfl
@[simp] theorem State.onClk_hallErr (g : Clk → Clk) : (s.onClk g).hallErr = s.hallErr := rfl
@[simp] theorem State.onClk_hearth (g : Clk → Clk) : (s.onClk g).hearth = s.hearth := rfl
@[simp] theorem State.onClk_pair (g : Clk → Clk) : (s.onClk g).pair = s.pair := rfl
@[simp] theorem State.onClk_pantry (g : Clk → Clk) : (s.onClk g).pantry = s.pantry := rfl
@[simp] theorem State.onClk_lamps (g : Clk → Clk) : (s.onClk g).lamps = s.lamps := rfl
@[simp] theorem State.onClk_chgGrant (g : Clk → Clk) : (s.onClk g).chgGrant = s.chgGrant := rfl
@[simp] theorem State.onClk_links (g : Clk → Clk) : (s.onClk g).links = s.links := rfl
@[simp] theorem State.onClk_attic (g : Clk → Clk) : (s.onClk g).attic = s.attic := rfl
@[simp] theorem State.onClk_cellar (g : Clk → Clk) : (s.onClk g).cellar = s.cellar := rfl
@[simp] theorem State.onClk_jnl (g : Clk → Clk) : (s.onClk g).jnl = s.jnl := rfl
@[simp] theorem State.onClk_fwStore (g : Clk → Clk) : (s.onClk g).fwStore = s.fwStore := rfl
@[simp] theorem State.onClk_fwDigest (g : Clk → Clk) : (s.onClk g).fwDigest = s.fwDigest := rfl
@[simp] theorem State.onClk_porch (g : Clk → Clk) : (s.onClk g).porch = s.porch := rfl
@[simp] theorem State.onClk_fwSet (g : Clk → Clk) : (s.onClk g).fwSet = s.fwSet := rfl
@[simp] theorem State.onClk_tws (g : Clk → Clk) : (s.onClk g).tws = s.tws := rfl
@[simp] theorem State.onClk_tcs (g : Clk → Clk) : (s.onClk g).tcs = s.tcs := rfl
@[simp] theorem State.onClk_matchers (g : Clk → Clk) : (s.onClk g).matchers = s.matchers := rfl
@[simp] theorem State.onClk_dbg (g : Clk → Clk) : (s.onClk g).dbg = s.dbg := rfl
@[simp] theorem State.onClk_snap (g : Clk → Clk) : (s.onClk g).snap = s.snap := rfl
@[simp] theorem State.onClk_pending (g : Clk → Clk) : (s.onClk g).pending = s.pending := rfl
@[simp] theorem State.onClk_room (g : Clk → Clk) (q : Fin 48) : (s.onClk g).room q = s.room q := rfl
@[simp] theorem State.onClk_land (g : Clk → Clk) (a : Fin 6) : (s.onClk g).land a = s.land a := rfl
@[simp] theorem State.onClk_wing (g : Clk → Clk) (k : Fin 2) : (s.onClk g).wing k = s.wing k := rfl
@[simp] theorem State.onClk_fld (g : Clk → Clk) (h : Field) : (s.onClk g).fld h = s.fld h := rfl
@[simp] theorem State.onClk_bit (g : Clk → Clk) (h : Field) : (s.onClk g).bit h = s.bit h := rfl
@[simp] theorem State.onClk_pl (g : Clk → Clk) : (s.onClk g).pl = s.pl := rfl
@[simp] theorem State.onClk_link (g : Clk → Clk) (j : Fin 2) : (s.onClk g).link j = s.link j := rfl
@[simp] theorem State.onClk_pairMode (g : Clk → Clk) : (s.onClk g).pairMode = s.pairMode := rfl

/-! ### State.onPan -/

@[simp] theorem State.onPan_now (g : Pantry → Pantry) : (s.onPan g).now = s.now := rfl
@[simp] theorem State.onPan_freeCtr (g : Pantry → Pantry) : (s.onPan g).freeCtr = s.freeCtr := rfl
@[simp] theorem State.onPan_regs (g : Pantry → Pantry) : (s.onPan g).regs = s.regs := rfl
@[simp] theorem State.onPan_rooms (g : Pantry → Pantry) : (s.onPan g).rooms = s.rooms := rfl
@[simp] theorem State.onPan_lands (g : Pantry → Pantry) : (s.onPan g).lands = s.lands := rfl
@[simp] theorem State.onPan_wings (g : Pantry → Pantry) : (s.onPan g).wings = s.wings := rfl
@[simp] theorem State.onPan_clk (g : Pantry → Pantry) : (s.onPan g).clk = s.clk := rfl
@[simp] theorem State.onPan_chipB (g : Pantry → Pantry) : (s.onPan g).chipB = s.chipB := rfl
@[simp] theorem State.onPan_plan (g : Pantry → Pantry) : (s.onPan g).plan = s.plan := rfl
@[simp] theorem State.onPan_planStore (g : Pantry → Pantry) : (s.onPan g).planStore = s.planStore := rfl
@[simp] theorem State.onPan_planDigest (g : Pantry → Pantry) : (s.onPan g).planDigest = s.planDigest := rfl
@[simp] theorem State.onPan_mode (g : Pantry → Pantry) : (s.onPan g).mode = s.mode := rfl
@[simp] theorem State.onPan_lastExt (g : Pantry → Pantry) : (s.onPan g).lastExt = s.lastExt := rfl
@[simp] theorem State.onPan_hall (g : Pantry → Pantry) : (s.onPan g).hall = s.hall := rfl
@[simp] theorem State.onPan_hallCode (g : Pantry → Pantry) : (s.onPan g).hallCode = s.hallCode := rfl
@[simp] theorem State.onPan_hallData (g : Pantry → Pantry) : (s.onPan g).hallData = s.hallData := rfl
@[simp] theorem State.onPan_hbeatAt (g : Pantry → Pantry) : (s.onPan g).hbeatAt = s.hbeatAt := rfl
@[simp] theorem State.onPan_hbMissed (g : Pantry → Pantry) : (s.onPan g).hbMissed = s.hbMissed := rfl
@[simp] theorem State.onPan_rdata (g : Pantry → Pantry) : (s.onPan g).rdata = s.rdata := rfl
@[simp] theorem State.onPan_rerr (g : Pantry → Pantry) : (s.onPan g).rerr = s.rerr := rfl
@[simp] theorem State.onPan_hallErr (g : Pantry → Pantry) : (s.onPan g).hallErr = s.hallErr := rfl
@[simp] theorem State.onPan_hearth (g : Pantry → Pantry) : (s.onPan g).hearth = s.hearth := rfl
@[simp] theorem State.onPan_pair (g : Pantry → Pantry) : (s.onPan g).pair = s.pair := rfl
@[simp] theorem State.onPan_lamps (g : Pantry → Pantry) : (s.onPan g).lamps = s.lamps := rfl
@[simp] theorem State.onPan_chgGrant (g : Pantry → Pantry) : (s.onPan g).chgGrant = s.chgGrant := rfl
@[simp] theorem State.onPan_links (g : Pantry → Pantry) : (s.onPan g).links = s.links := rfl
@[simp] theorem State.onPan_attic (g : Pantry → Pantry) : (s.onPan g).attic = s.attic := rfl
@[simp] theorem State.onPan_cellar (g : Pantry → Pantry) : (s.onPan g).cellar = s.cellar := rfl
@[simp] theorem State.onPan_jnl (g : Pantry → Pantry) : (s.onPan g).jnl = s.jnl := rfl
@[simp] theorem State.onPan_fwStore (g : Pantry → Pantry) : (s.onPan g).fwStore = s.fwStore := rfl
@[simp] theorem State.onPan_fwDigest (g : Pantry → Pantry) : (s.onPan g).fwDigest = s.fwDigest := rfl
@[simp] theorem State.onPan_porch (g : Pantry → Pantry) : (s.onPan g).porch = s.porch := rfl
@[simp] theorem State.onPan_fwSet (g : Pantry → Pantry) : (s.onPan g).fwSet = s.fwSet := rfl
@[simp] theorem State.onPan_tws (g : Pantry → Pantry) : (s.onPan g).tws = s.tws := rfl
@[simp] theorem State.onPan_tcs (g : Pantry → Pantry) : (s.onPan g).tcs = s.tcs := rfl
@[simp] theorem State.onPan_matchers (g : Pantry → Pantry) : (s.onPan g).matchers = s.matchers := rfl
@[simp] theorem State.onPan_dbg (g : Pantry → Pantry) : (s.onPan g).dbg = s.dbg := rfl
@[simp] theorem State.onPan_snap (g : Pantry → Pantry) : (s.onPan g).snap = s.snap := rfl
@[simp] theorem State.onPan_pending (g : Pantry → Pantry) : (s.onPan g).pending = s.pending := rfl
@[simp] theorem State.onPan_room (g : Pantry → Pantry) (q : Fin 48) : (s.onPan g).room q = s.room q := rfl
@[simp] theorem State.onPan_land (g : Pantry → Pantry) (a : Fin 6) : (s.onPan g).land a = s.land a := rfl
@[simp] theorem State.onPan_wing (g : Pantry → Pantry) (k : Fin 2) : (s.onPan g).wing k = s.wing k := rfl
@[simp] theorem State.onPan_fld (g : Pantry → Pantry) (h : Field) : (s.onPan g).fld h = s.fld h := rfl
@[simp] theorem State.onPan_bit (g : Pantry → Pantry) (h : Field) : (s.onPan g).bit h = s.bit h := rfl
@[simp] theorem State.onPan_pl (g : Pantry → Pantry) : (s.onPan g).pl = s.pl := rfl
@[simp] theorem State.onPan_link (g : Pantry → Pantry) (j : Fin 2) : (s.onPan g).link j = s.link j := rfl
@[simp] theorem State.onPan_pairMode (g : Pantry → Pantry) : (s.onPan g).pairMode = s.pairMode := rfl
@[simp] theorem State.onPan_booted (g : Pantry → Pantry) : (s.onPan g).booted = s.booted := rfl
@[simp] theorem State.onPan_clocked (g : Pantry → Pantry) : (s.onPan g).clocked = s.clocked := rfl

/-! ### State.onPair -/

@[simp] theorem State.onPair_now (g : Pair → Pair) : (s.onPair g).now = s.now := rfl
@[simp] theorem State.onPair_freeCtr (g : Pair → Pair) : (s.onPair g).freeCtr = s.freeCtr := rfl
@[simp] theorem State.onPair_regs (g : Pair → Pair) : (s.onPair g).regs = s.regs := rfl
@[simp] theorem State.onPair_rooms (g : Pair → Pair) : (s.onPair g).rooms = s.rooms := rfl
@[simp] theorem State.onPair_lands (g : Pair → Pair) : (s.onPair g).lands = s.lands := rfl
@[simp] theorem State.onPair_wings (g : Pair → Pair) : (s.onPair g).wings = s.wings := rfl
@[simp] theorem State.onPair_clk (g : Pair → Pair) : (s.onPair g).clk = s.clk := rfl
@[simp] theorem State.onPair_chipB (g : Pair → Pair) : (s.onPair g).chipB = s.chipB := rfl
@[simp] theorem State.onPair_plan (g : Pair → Pair) : (s.onPair g).plan = s.plan := rfl
@[simp] theorem State.onPair_planStore (g : Pair → Pair) : (s.onPair g).planStore = s.planStore := rfl
@[simp] theorem State.onPair_planDigest (g : Pair → Pair) : (s.onPair g).planDigest = s.planDigest := rfl
@[simp] theorem State.onPair_mode (g : Pair → Pair) : (s.onPair g).mode = s.mode := rfl
@[simp] theorem State.onPair_lastExt (g : Pair → Pair) : (s.onPair g).lastExt = s.lastExt := rfl
@[simp] theorem State.onPair_hall (g : Pair → Pair) : (s.onPair g).hall = s.hall := rfl
@[simp] theorem State.onPair_hallCode (g : Pair → Pair) : (s.onPair g).hallCode = s.hallCode := rfl
@[simp] theorem State.onPair_hallData (g : Pair → Pair) : (s.onPair g).hallData = s.hallData := rfl
@[simp] theorem State.onPair_hbeatAt (g : Pair → Pair) : (s.onPair g).hbeatAt = s.hbeatAt := rfl
@[simp] theorem State.onPair_hbMissed (g : Pair → Pair) : (s.onPair g).hbMissed = s.hbMissed := rfl
@[simp] theorem State.onPair_rdata (g : Pair → Pair) : (s.onPair g).rdata = s.rdata := rfl
@[simp] theorem State.onPair_rerr (g : Pair → Pair) : (s.onPair g).rerr = s.rerr := rfl
@[simp] theorem State.onPair_hallErr (g : Pair → Pair) : (s.onPair g).hallErr = s.hallErr := rfl
@[simp] theorem State.onPair_hearth (g : Pair → Pair) : (s.onPair g).hearth = s.hearth := rfl
@[simp] theorem State.onPair_pantry (g : Pair → Pair) : (s.onPair g).pantry = s.pantry := rfl
@[simp] theorem State.onPair_lamps (g : Pair → Pair) : (s.onPair g).lamps = s.lamps := rfl
@[simp] theorem State.onPair_chgGrant (g : Pair → Pair) : (s.onPair g).chgGrant = s.chgGrant := rfl
@[simp] theorem State.onPair_links (g : Pair → Pair) : (s.onPair g).links = s.links := rfl
@[simp] theorem State.onPair_attic (g : Pair → Pair) : (s.onPair g).attic = s.attic := rfl
@[simp] theorem State.onPair_cellar (g : Pair → Pair) : (s.onPair g).cellar = s.cellar := rfl
@[simp] theorem State.onPair_jnl (g : Pair → Pair) : (s.onPair g).jnl = s.jnl := rfl
@[simp] theorem State.onPair_fwStore (g : Pair → Pair) : (s.onPair g).fwStore = s.fwStore := rfl
@[simp] theorem State.onPair_fwDigest (g : Pair → Pair) : (s.onPair g).fwDigest = s.fwDigest := rfl
@[simp] theorem State.onPair_porch (g : Pair → Pair) : (s.onPair g).porch = s.porch := rfl
@[simp] theorem State.onPair_fwSet (g : Pair → Pair) : (s.onPair g).fwSet = s.fwSet := rfl
@[simp] theorem State.onPair_tws (g : Pair → Pair) : (s.onPair g).tws = s.tws := rfl
@[simp] theorem State.onPair_tcs (g : Pair → Pair) : (s.onPair g).tcs = s.tcs := rfl
@[simp] theorem State.onPair_matchers (g : Pair → Pair) : (s.onPair g).matchers = s.matchers := rfl
@[simp] theorem State.onPair_dbg (g : Pair → Pair) : (s.onPair g).dbg = s.dbg := rfl
@[simp] theorem State.onPair_snap (g : Pair → Pair) : (s.onPair g).snap = s.snap := rfl
@[simp] theorem State.onPair_pending (g : Pair → Pair) : (s.onPair g).pending = s.pending := rfl
@[simp] theorem State.onPair_room (g : Pair → Pair) (q : Fin 48) : (s.onPair g).room q = s.room q := rfl
@[simp] theorem State.onPair_land (g : Pair → Pair) (a : Fin 6) : (s.onPair g).land a = s.land a := rfl
@[simp] theorem State.onPair_wing (g : Pair → Pair) (k : Fin 2) : (s.onPair g).wing k = s.wing k := rfl
@[simp] theorem State.onPair_fld (g : Pair → Pair) (h : Field) : (s.onPair g).fld h = s.fld h := rfl
@[simp] theorem State.onPair_bit (g : Pair → Pair) (h : Field) : (s.onPair g).bit h = s.bit h := rfl
@[simp] theorem State.onPair_pl (g : Pair → Pair) : (s.onPair g).pl = s.pl := rfl
@[simp] theorem State.onPair_link (g : Pair → Pair) (j : Fin 2) : (s.onPair g).link j = s.link j := rfl
@[simp] theorem State.onPair_pairMode (g : Pair → Pair) : (s.onPair g).pairMode = s.pairMode := rfl
@[simp] theorem State.onPair_booted (g : Pair → Pair) : (s.onPair g).booted = s.booted := rfl
@[simp] theorem State.onPair_clocked (g : Pair → Pair) : (s.onPair g).clocked = s.clocked := rfl

/-! ### State.onPorch -/

@[simp] theorem State.onPorch_now (g : Porch → Porch) : (s.onPorch g).now = s.now := rfl
@[simp] theorem State.onPorch_freeCtr (g : Porch → Porch) : (s.onPorch g).freeCtr = s.freeCtr := rfl
@[simp] theorem State.onPorch_regs (g : Porch → Porch) : (s.onPorch g).regs = s.regs := rfl
@[simp] theorem State.onPorch_rooms (g : Porch → Porch) : (s.onPorch g).rooms = s.rooms := rfl
@[simp] theorem State.onPorch_lands (g : Porch → Porch) : (s.onPorch g).lands = s.lands := rfl
@[simp] theorem State.onPorch_wings (g : Porch → Porch) : (s.onPorch g).wings = s.wings := rfl
@[simp] theorem State.onPorch_clk (g : Porch → Porch) : (s.onPorch g).clk = s.clk := rfl
@[simp] theorem State.onPorch_chipB (g : Porch → Porch) : (s.onPorch g).chipB = s.chipB := rfl
@[simp] theorem State.onPorch_plan (g : Porch → Porch) : (s.onPorch g).plan = s.plan := rfl
@[simp] theorem State.onPorch_planStore (g : Porch → Porch) : (s.onPorch g).planStore = s.planStore := rfl
@[simp] theorem State.onPorch_planDigest (g : Porch → Porch) : (s.onPorch g).planDigest = s.planDigest := rfl
@[simp] theorem State.onPorch_mode (g : Porch → Porch) : (s.onPorch g).mode = s.mode := rfl
@[simp] theorem State.onPorch_lastExt (g : Porch → Porch) : (s.onPorch g).lastExt = s.lastExt := rfl
@[simp] theorem State.onPorch_hall (g : Porch → Porch) : (s.onPorch g).hall = s.hall := rfl
@[simp] theorem State.onPorch_hallCode (g : Porch → Porch) : (s.onPorch g).hallCode = s.hallCode := rfl
@[simp] theorem State.onPorch_hallData (g : Porch → Porch) : (s.onPorch g).hallData = s.hallData := rfl
@[simp] theorem State.onPorch_hbeatAt (g : Porch → Porch) : (s.onPorch g).hbeatAt = s.hbeatAt := rfl
@[simp] theorem State.onPorch_hbMissed (g : Porch → Porch) : (s.onPorch g).hbMissed = s.hbMissed := rfl
@[simp] theorem State.onPorch_rdata (g : Porch → Porch) : (s.onPorch g).rdata = s.rdata := rfl
@[simp] theorem State.onPorch_rerr (g : Porch → Porch) : (s.onPorch g).rerr = s.rerr := rfl
@[simp] theorem State.onPorch_hallErr (g : Porch → Porch) : (s.onPorch g).hallErr = s.hallErr := rfl
@[simp] theorem State.onPorch_hearth (g : Porch → Porch) : (s.onPorch g).hearth = s.hearth := rfl
@[simp] theorem State.onPorch_pair (g : Porch → Porch) : (s.onPorch g).pair = s.pair := rfl
@[simp] theorem State.onPorch_pantry (g : Porch → Porch) : (s.onPorch g).pantry = s.pantry := rfl
@[simp] theorem State.onPorch_lamps (g : Porch → Porch) : (s.onPorch g).lamps = s.lamps := rfl
@[simp] theorem State.onPorch_chgGrant (g : Porch → Porch) : (s.onPorch g).chgGrant = s.chgGrant := rfl
@[simp] theorem State.onPorch_links (g : Porch → Porch) : (s.onPorch g).links = s.links := rfl
@[simp] theorem State.onPorch_attic (g : Porch → Porch) : (s.onPorch g).attic = s.attic := rfl
@[simp] theorem State.onPorch_cellar (g : Porch → Porch) : (s.onPorch g).cellar = s.cellar := rfl
@[simp] theorem State.onPorch_jnl (g : Porch → Porch) : (s.onPorch g).jnl = s.jnl := rfl
@[simp] theorem State.onPorch_fwStore (g : Porch → Porch) : (s.onPorch g).fwStore = s.fwStore := rfl
@[simp] theorem State.onPorch_fwDigest (g : Porch → Porch) : (s.onPorch g).fwDigest = s.fwDigest := rfl
@[simp] theorem State.onPorch_fwSet (g : Porch → Porch) : (s.onPorch g).fwSet = s.fwSet := rfl
@[simp] theorem State.onPorch_tws (g : Porch → Porch) : (s.onPorch g).tws = s.tws := rfl
@[simp] theorem State.onPorch_tcs (g : Porch → Porch) : (s.onPorch g).tcs = s.tcs := rfl
@[simp] theorem State.onPorch_matchers (g : Porch → Porch) : (s.onPorch g).matchers = s.matchers := rfl
@[simp] theorem State.onPorch_dbg (g : Porch → Porch) : (s.onPorch g).dbg = s.dbg := rfl
@[simp] theorem State.onPorch_snap (g : Porch → Porch) : (s.onPorch g).snap = s.snap := rfl
@[simp] theorem State.onPorch_pending (g : Porch → Porch) : (s.onPorch g).pending = s.pending := rfl
@[simp] theorem State.onPorch_room (g : Porch → Porch) (q : Fin 48) : (s.onPorch g).room q = s.room q := rfl
@[simp] theorem State.onPorch_land (g : Porch → Porch) (a : Fin 6) : (s.onPorch g).land a = s.land a := rfl
@[simp] theorem State.onPorch_wing (g : Porch → Porch) (k : Fin 2) : (s.onPorch g).wing k = s.wing k := rfl
@[simp] theorem State.onPorch_fld (g : Porch → Porch) (h : Field) : (s.onPorch g).fld h = s.fld h := rfl
@[simp] theorem State.onPorch_bit (g : Porch → Porch) (h : Field) : (s.onPorch g).bit h = s.bit h := rfl
@[simp] theorem State.onPorch_pl (g : Porch → Porch) : (s.onPorch g).pl = s.pl := rfl
@[simp] theorem State.onPorch_link (g : Porch → Porch) (j : Fin 2) : (s.onPorch g).link j = s.link j := rfl
@[simp] theorem State.onPorch_pairMode (g : Porch → Porch) : (s.onPorch g).pairMode = s.pairMode := rfl
@[simp] theorem State.onPorch_booted (g : Porch → Porch) : (s.onPorch g).booted = s.booted := rfl
@[simp] theorem State.onPorch_clocked (g : Porch → Porch) : (s.onPorch g).clocked = s.clocked := rfl

/-! ### State.onDbg -/

@[simp] theorem State.onDbg_now (g : Dbg → Dbg) : (s.onDbg g).now = s.now := rfl
@[simp] theorem State.onDbg_freeCtr (g : Dbg → Dbg) : (s.onDbg g).freeCtr = s.freeCtr := rfl
@[simp] theorem State.onDbg_regs (g : Dbg → Dbg) : (s.onDbg g).regs = s.regs := rfl
@[simp] theorem State.onDbg_rooms (g : Dbg → Dbg) : (s.onDbg g).rooms = s.rooms := rfl
@[simp] theorem State.onDbg_lands (g : Dbg → Dbg) : (s.onDbg g).lands = s.lands := rfl
@[simp] theorem State.onDbg_wings (g : Dbg → Dbg) : (s.onDbg g).wings = s.wings := rfl
@[simp] theorem State.onDbg_clk (g : Dbg → Dbg) : (s.onDbg g).clk = s.clk := rfl
@[simp] theorem State.onDbg_chipB (g : Dbg → Dbg) : (s.onDbg g).chipB = s.chipB := rfl
@[simp] theorem State.onDbg_plan (g : Dbg → Dbg) : (s.onDbg g).plan = s.plan := rfl
@[simp] theorem State.onDbg_planStore (g : Dbg → Dbg) : (s.onDbg g).planStore = s.planStore := rfl
@[simp] theorem State.onDbg_planDigest (g : Dbg → Dbg) : (s.onDbg g).planDigest = s.planDigest := rfl
@[simp] theorem State.onDbg_mode (g : Dbg → Dbg) : (s.onDbg g).mode = s.mode := rfl
@[simp] theorem State.onDbg_lastExt (g : Dbg → Dbg) : (s.onDbg g).lastExt = s.lastExt := rfl
@[simp] theorem State.onDbg_hall (g : Dbg → Dbg) : (s.onDbg g).hall = s.hall := rfl
@[simp] theorem State.onDbg_hallCode (g : Dbg → Dbg) : (s.onDbg g).hallCode = s.hallCode := rfl
@[simp] theorem State.onDbg_hallData (g : Dbg → Dbg) : (s.onDbg g).hallData = s.hallData := rfl
@[simp] theorem State.onDbg_hbeatAt (g : Dbg → Dbg) : (s.onDbg g).hbeatAt = s.hbeatAt := rfl
@[simp] theorem State.onDbg_hbMissed (g : Dbg → Dbg) : (s.onDbg g).hbMissed = s.hbMissed := rfl
@[simp] theorem State.onDbg_rdata (g : Dbg → Dbg) : (s.onDbg g).rdata = s.rdata := rfl
@[simp] theorem State.onDbg_rerr (g : Dbg → Dbg) : (s.onDbg g).rerr = s.rerr := rfl
@[simp] theorem State.onDbg_hallErr (g : Dbg → Dbg) : (s.onDbg g).hallErr = s.hallErr := rfl
@[simp] theorem State.onDbg_hearth (g : Dbg → Dbg) : (s.onDbg g).hearth = s.hearth := rfl
@[simp] theorem State.onDbg_pair (g : Dbg → Dbg) : (s.onDbg g).pair = s.pair := rfl
@[simp] theorem State.onDbg_pantry (g : Dbg → Dbg) : (s.onDbg g).pantry = s.pantry := rfl
@[simp] theorem State.onDbg_lamps (g : Dbg → Dbg) : (s.onDbg g).lamps = s.lamps := rfl
@[simp] theorem State.onDbg_chgGrant (g : Dbg → Dbg) : (s.onDbg g).chgGrant = s.chgGrant := rfl
@[simp] theorem State.onDbg_links (g : Dbg → Dbg) : (s.onDbg g).links = s.links := rfl
@[simp] theorem State.onDbg_attic (g : Dbg → Dbg) : (s.onDbg g).attic = s.attic := rfl
@[simp] theorem State.onDbg_cellar (g : Dbg → Dbg) : (s.onDbg g).cellar = s.cellar := rfl
@[simp] theorem State.onDbg_jnl (g : Dbg → Dbg) : (s.onDbg g).jnl = s.jnl := rfl
@[simp] theorem State.onDbg_fwStore (g : Dbg → Dbg) : (s.onDbg g).fwStore = s.fwStore := rfl
@[simp] theorem State.onDbg_fwDigest (g : Dbg → Dbg) : (s.onDbg g).fwDigest = s.fwDigest := rfl
@[simp] theorem State.onDbg_porch (g : Dbg → Dbg) : (s.onDbg g).porch = s.porch := rfl
@[simp] theorem State.onDbg_fwSet (g : Dbg → Dbg) : (s.onDbg g).fwSet = s.fwSet := rfl
@[simp] theorem State.onDbg_tws (g : Dbg → Dbg) : (s.onDbg g).tws = s.tws := rfl
@[simp] theorem State.onDbg_tcs (g : Dbg → Dbg) : (s.onDbg g).tcs = s.tcs := rfl
@[simp] theorem State.onDbg_matchers (g : Dbg → Dbg) : (s.onDbg g).matchers = s.matchers := rfl
@[simp] theorem State.onDbg_snap (g : Dbg → Dbg) : (s.onDbg g).snap = s.snap := rfl
@[simp] theorem State.onDbg_pending (g : Dbg → Dbg) : (s.onDbg g).pending = s.pending := rfl
@[simp] theorem State.onDbg_room (g : Dbg → Dbg) (q : Fin 48) : (s.onDbg g).room q = s.room q := rfl
@[simp] theorem State.onDbg_land (g : Dbg → Dbg) (a : Fin 6) : (s.onDbg g).land a = s.land a := rfl
@[simp] theorem State.onDbg_wing (g : Dbg → Dbg) (k : Fin 2) : (s.onDbg g).wing k = s.wing k := rfl
@[simp] theorem State.onDbg_fld (g : Dbg → Dbg) (h : Field) : (s.onDbg g).fld h = s.fld h := rfl
@[simp] theorem State.onDbg_bit (g : Dbg → Dbg) (h : Field) : (s.onDbg g).bit h = s.bit h := rfl
@[simp] theorem State.onDbg_pl (g : Dbg → Dbg) : (s.onDbg g).pl = s.pl := rfl
@[simp] theorem State.onDbg_link (g : Dbg → Dbg) (j : Fin 2) : (s.onDbg g).link j = s.link j := rfl
@[simp] theorem State.onDbg_pairMode (g : Dbg → Dbg) : (s.onDbg g).pairMode = s.pairMode := rfl
@[simp] theorem State.onDbg_booted (g : Dbg → Dbg) : (s.onDbg g).booted = s.booted := rfl
@[simp] theorem State.onDbg_clocked (g : Dbg → Dbg) : (s.onDbg g).clocked = s.clocked := rfl

/-! ### State.onLink -/

@[simp] theorem State.onLink_now (n : Fin 2) (g : Link → Link) : (s.onLink n g).now = s.now := rfl
@[simp] theorem State.onLink_freeCtr (n : Fin 2) (g : Link → Link) : (s.onLink n g).freeCtr = s.freeCtr := rfl
@[simp] theorem State.onLink_regs (n : Fin 2) (g : Link → Link) : (s.onLink n g).regs = s.regs := rfl
@[simp] theorem State.onLink_rooms (n : Fin 2) (g : Link → Link) : (s.onLink n g).rooms = s.rooms := rfl
@[simp] theorem State.onLink_lands (n : Fin 2) (g : Link → Link) : (s.onLink n g).lands = s.lands := rfl
@[simp] theorem State.onLink_wings (n : Fin 2) (g : Link → Link) : (s.onLink n g).wings = s.wings := rfl
@[simp] theorem State.onLink_clk (n : Fin 2) (g : Link → Link) : (s.onLink n g).clk = s.clk := rfl
@[simp] theorem State.onLink_chipB (n : Fin 2) (g : Link → Link) : (s.onLink n g).chipB = s.chipB := rfl
@[simp] theorem State.onLink_plan (n : Fin 2) (g : Link → Link) : (s.onLink n g).plan = s.plan := rfl
@[simp] theorem State.onLink_planStore (n : Fin 2) (g : Link → Link) : (s.onLink n g).planStore = s.planStore := rfl
@[simp] theorem State.onLink_planDigest (n : Fin 2) (g : Link → Link) : (s.onLink n g).planDigest = s.planDigest := rfl
@[simp] theorem State.onLink_mode (n : Fin 2) (g : Link → Link) : (s.onLink n g).mode = s.mode := rfl
@[simp] theorem State.onLink_lastExt (n : Fin 2) (g : Link → Link) : (s.onLink n g).lastExt = s.lastExt := rfl
@[simp] theorem State.onLink_hall (n : Fin 2) (g : Link → Link) : (s.onLink n g).hall = s.hall := rfl
@[simp] theorem State.onLink_hallCode (n : Fin 2) (g : Link → Link) : (s.onLink n g).hallCode = s.hallCode := rfl
@[simp] theorem State.onLink_hallData (n : Fin 2) (g : Link → Link) : (s.onLink n g).hallData = s.hallData := rfl
@[simp] theorem State.onLink_hbeatAt (n : Fin 2) (g : Link → Link) : (s.onLink n g).hbeatAt = s.hbeatAt := rfl
@[simp] theorem State.onLink_hbMissed (n : Fin 2) (g : Link → Link) : (s.onLink n g).hbMissed = s.hbMissed := rfl
@[simp] theorem State.onLink_rdata (n : Fin 2) (g : Link → Link) : (s.onLink n g).rdata = s.rdata := rfl
@[simp] theorem State.onLink_rerr (n : Fin 2) (g : Link → Link) : (s.onLink n g).rerr = s.rerr := rfl
@[simp] theorem State.onLink_hallErr (n : Fin 2) (g : Link → Link) : (s.onLink n g).hallErr = s.hallErr := rfl
@[simp] theorem State.onLink_hearth (n : Fin 2) (g : Link → Link) : (s.onLink n g).hearth = s.hearth := rfl
@[simp] theorem State.onLink_pair (n : Fin 2) (g : Link → Link) : (s.onLink n g).pair = s.pair := rfl
@[simp] theorem State.onLink_pantry (n : Fin 2) (g : Link → Link) : (s.onLink n g).pantry = s.pantry := rfl
@[simp] theorem State.onLink_lamps (n : Fin 2) (g : Link → Link) : (s.onLink n g).lamps = s.lamps := rfl
@[simp] theorem State.onLink_chgGrant (n : Fin 2) (g : Link → Link) : (s.onLink n g).chgGrant = s.chgGrant := rfl
@[simp] theorem State.onLink_attic (n : Fin 2) (g : Link → Link) : (s.onLink n g).attic = s.attic := rfl
@[simp] theorem State.onLink_cellar (n : Fin 2) (g : Link → Link) : (s.onLink n g).cellar = s.cellar := rfl
@[simp] theorem State.onLink_jnl (n : Fin 2) (g : Link → Link) : (s.onLink n g).jnl = s.jnl := rfl
@[simp] theorem State.onLink_fwStore (n : Fin 2) (g : Link → Link) : (s.onLink n g).fwStore = s.fwStore := rfl
@[simp] theorem State.onLink_fwDigest (n : Fin 2) (g : Link → Link) : (s.onLink n g).fwDigest = s.fwDigest := rfl
@[simp] theorem State.onLink_porch (n : Fin 2) (g : Link → Link) : (s.onLink n g).porch = s.porch := rfl
@[simp] theorem State.onLink_fwSet (n : Fin 2) (g : Link → Link) : (s.onLink n g).fwSet = s.fwSet := rfl
@[simp] theorem State.onLink_tws (n : Fin 2) (g : Link → Link) : (s.onLink n g).tws = s.tws := rfl
@[simp] theorem State.onLink_tcs (n : Fin 2) (g : Link → Link) : (s.onLink n g).tcs = s.tcs := rfl
@[simp] theorem State.onLink_matchers (n : Fin 2) (g : Link → Link) : (s.onLink n g).matchers = s.matchers := rfl
@[simp] theorem State.onLink_dbg (n : Fin 2) (g : Link → Link) : (s.onLink n g).dbg = s.dbg := rfl
@[simp] theorem State.onLink_snap (n : Fin 2) (g : Link → Link) : (s.onLink n g).snap = s.snap := rfl
@[simp] theorem State.onLink_pending (n : Fin 2) (g : Link → Link) : (s.onLink n g).pending = s.pending := rfl
@[simp] theorem State.onLink_room (n : Fin 2) (g : Link → Link) (q : Fin 48) : (s.onLink n g).room q = s.room q := rfl
@[simp] theorem State.onLink_land (n : Fin 2) (g : Link → Link) (a : Fin 6) : (s.onLink n g).land a = s.land a := rfl
@[simp] theorem State.onLink_wing (n : Fin 2) (g : Link → Link) (k : Fin 2) : (s.onLink n g).wing k = s.wing k := rfl
@[simp] theorem State.onLink_fld (n : Fin 2) (g : Link → Link) (h : Field) : (s.onLink n g).fld h = s.fld h := rfl
@[simp] theorem State.onLink_bit (n : Fin 2) (g : Link → Link) (h : Field) : (s.onLink n g).bit h = s.bit h := rfl
@[simp] theorem State.onLink_pl (n : Fin 2) (g : Link → Link) : (s.onLink n g).pl = s.pl := rfl
@[simp] theorem State.onLink_pairMode (n : Fin 2) (g : Link → Link) : (s.onLink n g).pairMode = s.pairMode := rfl
@[simp] theorem State.onLink_booted (n : Fin 2) (g : Link → Link) : (s.onLink n g).booted = s.booted := rfl
@[simp] theorem State.onLink_clocked (n : Fin 2) (g : Link → Link) : (s.onLink n g).clocked = s.clocked := rfl

/-! ### State.onTw -/

@[simp] theorem State.onTw_now (n : Fin 4) (g : TwPort → TwPort) : (s.onTw n g).now = s.now := rfl
@[simp] theorem State.onTw_freeCtr (n : Fin 4) (g : TwPort → TwPort) : (s.onTw n g).freeCtr = s.freeCtr := rfl
@[simp] theorem State.onTw_regs (n : Fin 4) (g : TwPort → TwPort) : (s.onTw n g).regs = s.regs := rfl
@[simp] theorem State.onTw_rooms (n : Fin 4) (g : TwPort → TwPort) : (s.onTw n g).rooms = s.rooms := rfl
@[simp] theorem State.onTw_lands (n : Fin 4) (g : TwPort → TwPort) : (s.onTw n g).lands = s.lands := rfl
@[simp] theorem State.onTw_wings (n : Fin 4) (g : TwPort → TwPort) : (s.onTw n g).wings = s.wings := rfl
@[simp] theorem State.onTw_clk (n : Fin 4) (g : TwPort → TwPort) : (s.onTw n g).clk = s.clk := rfl
@[simp] theorem State.onTw_chipB (n : Fin 4) (g : TwPort → TwPort) : (s.onTw n g).chipB = s.chipB := rfl
@[simp] theorem State.onTw_plan (n : Fin 4) (g : TwPort → TwPort) : (s.onTw n g).plan = s.plan := rfl
@[simp] theorem State.onTw_planStore (n : Fin 4) (g : TwPort → TwPort) : (s.onTw n g).planStore = s.planStore := rfl
@[simp] theorem State.onTw_planDigest (n : Fin 4) (g : TwPort → TwPort) : (s.onTw n g).planDigest = s.planDigest := rfl
@[simp] theorem State.onTw_mode (n : Fin 4) (g : TwPort → TwPort) : (s.onTw n g).mode = s.mode := rfl
@[simp] theorem State.onTw_lastExt (n : Fin 4) (g : TwPort → TwPort) : (s.onTw n g).lastExt = s.lastExt := rfl
@[simp] theorem State.onTw_hall (n : Fin 4) (g : TwPort → TwPort) : (s.onTw n g).hall = s.hall := rfl
@[simp] theorem State.onTw_hallCode (n : Fin 4) (g : TwPort → TwPort) : (s.onTw n g).hallCode = s.hallCode := rfl
@[simp] theorem State.onTw_hallData (n : Fin 4) (g : TwPort → TwPort) : (s.onTw n g).hallData = s.hallData := rfl
@[simp] theorem State.onTw_hbeatAt (n : Fin 4) (g : TwPort → TwPort) : (s.onTw n g).hbeatAt = s.hbeatAt := rfl
@[simp] theorem State.onTw_hbMissed (n : Fin 4) (g : TwPort → TwPort) : (s.onTw n g).hbMissed = s.hbMissed := rfl
@[simp] theorem State.onTw_rdata (n : Fin 4) (g : TwPort → TwPort) : (s.onTw n g).rdata = s.rdata := rfl
@[simp] theorem State.onTw_rerr (n : Fin 4) (g : TwPort → TwPort) : (s.onTw n g).rerr = s.rerr := rfl
@[simp] theorem State.onTw_hallErr (n : Fin 4) (g : TwPort → TwPort) : (s.onTw n g).hallErr = s.hallErr := rfl
@[simp] theorem State.onTw_hearth (n : Fin 4) (g : TwPort → TwPort) : (s.onTw n g).hearth = s.hearth := rfl
@[simp] theorem State.onTw_pair (n : Fin 4) (g : TwPort → TwPort) : (s.onTw n g).pair = s.pair := rfl
@[simp] theorem State.onTw_pantry (n : Fin 4) (g : TwPort → TwPort) : (s.onTw n g).pantry = s.pantry := rfl
@[simp] theorem State.onTw_lamps (n : Fin 4) (g : TwPort → TwPort) : (s.onTw n g).lamps = s.lamps := rfl
@[simp] theorem State.onTw_chgGrant (n : Fin 4) (g : TwPort → TwPort) : (s.onTw n g).chgGrant = s.chgGrant := rfl
@[simp] theorem State.onTw_links (n : Fin 4) (g : TwPort → TwPort) : (s.onTw n g).links = s.links := rfl
@[simp] theorem State.onTw_attic (n : Fin 4) (g : TwPort → TwPort) : (s.onTw n g).attic = s.attic := rfl
@[simp] theorem State.onTw_cellar (n : Fin 4) (g : TwPort → TwPort) : (s.onTw n g).cellar = s.cellar := rfl
@[simp] theorem State.onTw_jnl (n : Fin 4) (g : TwPort → TwPort) : (s.onTw n g).jnl = s.jnl := rfl
@[simp] theorem State.onTw_fwStore (n : Fin 4) (g : TwPort → TwPort) : (s.onTw n g).fwStore = s.fwStore := rfl
@[simp] theorem State.onTw_fwDigest (n : Fin 4) (g : TwPort → TwPort) : (s.onTw n g).fwDigest = s.fwDigest := rfl
@[simp] theorem State.onTw_porch (n : Fin 4) (g : TwPort → TwPort) : (s.onTw n g).porch = s.porch := rfl
@[simp] theorem State.onTw_fwSet (n : Fin 4) (g : TwPort → TwPort) : (s.onTw n g).fwSet = s.fwSet := rfl
@[simp] theorem State.onTw_tcs (n : Fin 4) (g : TwPort → TwPort) : (s.onTw n g).tcs = s.tcs := rfl
@[simp] theorem State.onTw_matchers (n : Fin 4) (g : TwPort → TwPort) : (s.onTw n g).matchers = s.matchers := rfl
@[simp] theorem State.onTw_dbg (n : Fin 4) (g : TwPort → TwPort) : (s.onTw n g).dbg = s.dbg := rfl
@[simp] theorem State.onTw_snap (n : Fin 4) (g : TwPort → TwPort) : (s.onTw n g).snap = s.snap := rfl
@[simp] theorem State.onTw_pending (n : Fin 4) (g : TwPort → TwPort) : (s.onTw n g).pending = s.pending := rfl
@[simp] theorem State.onTw_room (n : Fin 4) (g : TwPort → TwPort) (q : Fin 48) : (s.onTw n g).room q = s.room q := rfl
@[simp] theorem State.onTw_land (n : Fin 4) (g : TwPort → TwPort) (a : Fin 6) : (s.onTw n g).land a = s.land a := rfl
@[simp] theorem State.onTw_wing (n : Fin 4) (g : TwPort → TwPort) (k : Fin 2) : (s.onTw n g).wing k = s.wing k := rfl
@[simp] theorem State.onTw_fld (n : Fin 4) (g : TwPort → TwPort) (h : Field) : (s.onTw n g).fld h = s.fld h := rfl
@[simp] theorem State.onTw_bit (n : Fin 4) (g : TwPort → TwPort) (h : Field) : (s.onTw n g).bit h = s.bit h := rfl
@[simp] theorem State.onTw_pl (n : Fin 4) (g : TwPort → TwPort) : (s.onTw n g).pl = s.pl := rfl
@[simp] theorem State.onTw_link (n : Fin 4) (g : TwPort → TwPort) (j : Fin 2) : (s.onTw n g).link j = s.link j := rfl
@[simp] theorem State.onTw_pairMode (n : Fin 4) (g : TwPort → TwPort) : (s.onTw n g).pairMode = s.pairMode := rfl
@[simp] theorem State.onTw_booted (n : Fin 4) (g : TwPort → TwPort) : (s.onTw n g).booted = s.booted := rfl
@[simp] theorem State.onTw_clocked (n : Fin 4) (g : TwPort → TwPort) : (s.onTw n g).clocked = s.clocked := rfl

/-! ### State.posted -/

@[simp] theorem State.posted_now (t : State) : (s.posted t).now = t.now := rfl
@[simp] theorem State.posted_freeCtr (t : State) : (s.posted t).freeCtr = t.freeCtr := rfl
@[simp] theorem State.posted_regs (t : State) : (s.posted t).regs = t.regs := rfl
@[simp] theorem State.posted_rooms (t : State) : (s.posted t).rooms = t.rooms := rfl
@[simp] theorem State.posted_lands (t : State) : (s.posted t).lands = t.lands := rfl
@[simp] theorem State.posted_wings (t : State) : (s.posted t).wings = t.wings := rfl
@[simp] theorem State.posted_clk (t : State) : (s.posted t).clk = t.clk := rfl
@[simp] theorem State.posted_chipB (t : State) : (s.posted t).chipB = t.chipB := rfl
@[simp] theorem State.posted_plan (t : State) : (s.posted t).plan = t.plan := rfl
@[simp] theorem State.posted_planStore (t : State) : (s.posted t).planStore = t.planStore := rfl
@[simp] theorem State.posted_planDigest (t : State) : (s.posted t).planDigest = t.planDigest := rfl
@[simp] theorem State.posted_mode (t : State) : (s.posted t).mode = t.mode := rfl
@[simp] theorem State.posted_lastExt (t : State) : (s.posted t).lastExt = t.lastExt := rfl
@[simp] theorem State.posted_hall (t : State) : (s.posted t).hall = t.hall := rfl
@[simp] theorem State.posted_hallCode (t : State) : (s.posted t).hallCode = t.hallCode := rfl
@[simp] theorem State.posted_hallData (t : State) : (s.posted t).hallData = t.hallData := rfl
@[simp] theorem State.posted_hbeatAt (t : State) : (s.posted t).hbeatAt = t.hbeatAt := rfl
@[simp] theorem State.posted_hbMissed (t : State) : (s.posted t).hbMissed = t.hbMissed := rfl
@[simp] theorem State.posted_rdata (t : State) : (s.posted t).rdata = t.rdata := rfl
@[simp] theorem State.posted_rerr (t : State) : (s.posted t).rerr = t.rerr := rfl
@[simp] theorem State.posted_hallErr (t : State) : (s.posted t).hallErr = t.hallErr := rfl
@[simp] theorem State.posted_hearth (t : State) : (s.posted t).hearth = t.hearth := rfl
@[simp] theorem State.posted_pair (t : State) : (s.posted t).pair = t.pair := rfl
@[simp] theorem State.posted_pantry (t : State) : (s.posted t).pantry = t.pantry := rfl
@[simp] theorem State.posted_lamps (t : State) : (s.posted t).lamps = t.lamps := rfl
@[simp] theorem State.posted_chgGrant (t : State) : (s.posted t).chgGrant = t.chgGrant := rfl
@[simp] theorem State.posted_attic (t : State) : (s.posted t).attic = t.attic := rfl
@[simp] theorem State.posted_cellar (t : State) : (s.posted t).cellar = t.cellar := rfl
@[simp] theorem State.posted_jnl (t : State) : (s.posted t).jnl = t.jnl := rfl
@[simp] theorem State.posted_fwStore (t : State) : (s.posted t).fwStore = t.fwStore := rfl
@[simp] theorem State.posted_fwDigest (t : State) : (s.posted t).fwDigest = t.fwDigest := rfl
@[simp] theorem State.posted_porch (t : State) : (s.posted t).porch = t.porch := rfl
@[simp] theorem State.posted_fwSet (t : State) : (s.posted t).fwSet = t.fwSet := rfl
@[simp] theorem State.posted_tws (t : State) : (s.posted t).tws = t.tws := rfl
@[simp] theorem State.posted_tcs (t : State) : (s.posted t).tcs = t.tcs := rfl
@[simp] theorem State.posted_matchers (t : State) : (s.posted t).matchers = t.matchers := rfl
@[simp] theorem State.posted_dbg (t : State) : (s.posted t).dbg = t.dbg := rfl
@[simp] theorem State.posted_snap (t : State) : (s.posted t).snap = t.snap := rfl
@[simp] theorem State.posted_pending (t : State) : (s.posted t).pending = t.pending := rfl
@[simp] theorem State.posted_room (t : State) (q : Fin 48) : (s.posted t).room q = t.room q := rfl
@[simp] theorem State.posted_land (t : State) (a : Fin 6) : (s.posted t).land a = t.land a := rfl
@[simp] theorem State.posted_wing (t : State) (k : Fin 2) : (s.posted t).wing k = t.wing k := rfl
@[simp] theorem State.posted_fld (t : State) (h : Field) : (s.posted t).fld h = t.fld h := rfl
@[simp] theorem State.posted_bit (t : State) (h : Field) : (s.posted t).bit h = t.bit h := rfl
@[simp] theorem State.posted_pl (t : State) : (s.posted t).pl = t.pl := rfl
@[simp] theorem State.posted_pairMode (t : State) : (s.posted t).pairMode = t.pairMode := rfl
@[simp] theorem State.posted_booted (t : State) : (s.posted t).booted = t.booted := rfl
@[simp] theorem State.posted_clocked (t : State) : (s.posted t).clocked = t.clocked := rfl

/-! ### State.withQueue -/

@[simp] theorem State.withQueue_now (cs : List Instr) : (s.withQueue cs).now = s.now := rfl
@[simp] theorem State.withQueue_freeCtr (cs : List Instr) : (s.withQueue cs).freeCtr = s.freeCtr := rfl
@[simp] theorem State.withQueue_regs (cs : List Instr) : (s.withQueue cs).regs = s.regs := rfl
@[simp] theorem State.withQueue_rooms (cs : List Instr) : (s.withQueue cs).rooms = s.rooms := rfl
@[simp] theorem State.withQueue_lands (cs : List Instr) : (s.withQueue cs).lands = s.lands := rfl
@[simp] theorem State.withQueue_wings (cs : List Instr) : (s.withQueue cs).wings = s.wings := rfl
@[simp] theorem State.withQueue_clk (cs : List Instr) : (s.withQueue cs).clk = s.clk := rfl
@[simp] theorem State.withQueue_chipB (cs : List Instr) : (s.withQueue cs).chipB = s.chipB := rfl
@[simp] theorem State.withQueue_plan (cs : List Instr) : (s.withQueue cs).plan = s.plan := rfl
@[simp] theorem State.withQueue_planStore (cs : List Instr) : (s.withQueue cs).planStore = s.planStore := rfl
@[simp] theorem State.withQueue_planDigest (cs : List Instr) : (s.withQueue cs).planDigest = s.planDigest := rfl
@[simp] theorem State.withQueue_mode (cs : List Instr) : (s.withQueue cs).mode = s.mode := rfl
@[simp] theorem State.withQueue_lastExt (cs : List Instr) : (s.withQueue cs).lastExt = s.lastExt := rfl
@[simp] theorem State.withQueue_hall (cs : List Instr) : (s.withQueue cs).hall = s.hall := rfl
@[simp] theorem State.withQueue_hallCode (cs : List Instr) : (s.withQueue cs).hallCode = s.hallCode := rfl
@[simp] theorem State.withQueue_hallData (cs : List Instr) : (s.withQueue cs).hallData = s.hallData := rfl
@[simp] theorem State.withQueue_hbeatAt (cs : List Instr) : (s.withQueue cs).hbeatAt = s.hbeatAt := rfl
@[simp] theorem State.withQueue_hbMissed (cs : List Instr) : (s.withQueue cs).hbMissed = s.hbMissed := rfl
@[simp] theorem State.withQueue_rdata (cs : List Instr) : (s.withQueue cs).rdata = s.rdata := rfl
@[simp] theorem State.withQueue_rerr (cs : List Instr) : (s.withQueue cs).rerr = s.rerr := rfl
@[simp] theorem State.withQueue_hallErr (cs : List Instr) : (s.withQueue cs).hallErr = s.hallErr := rfl
@[simp] theorem State.withQueue_hearth (cs : List Instr) : (s.withQueue cs).hearth = s.hearth := rfl
@[simp] theorem State.withQueue_pair (cs : List Instr) : (s.withQueue cs).pair = s.pair := rfl
@[simp] theorem State.withQueue_pantry (cs : List Instr) : (s.withQueue cs).pantry = s.pantry := rfl
@[simp] theorem State.withQueue_lamps (cs : List Instr) : (s.withQueue cs).lamps = s.lamps := rfl
@[simp] theorem State.withQueue_chgGrant (cs : List Instr) : (s.withQueue cs).chgGrant = s.chgGrant := rfl
@[simp] theorem State.withQueue_links (cs : List Instr) : (s.withQueue cs).links = s.links := rfl
@[simp] theorem State.withQueue_attic (cs : List Instr) : (s.withQueue cs).attic = s.attic := rfl
@[simp] theorem State.withQueue_cellar (cs : List Instr) : (s.withQueue cs).cellar = s.cellar := rfl
@[simp] theorem State.withQueue_jnl (cs : List Instr) : (s.withQueue cs).jnl = s.jnl := rfl
@[simp] theorem State.withQueue_fwStore (cs : List Instr) : (s.withQueue cs).fwStore = s.fwStore := rfl
@[simp] theorem State.withQueue_fwDigest (cs : List Instr) : (s.withQueue cs).fwDigest = s.fwDigest := rfl
@[simp] theorem State.withQueue_porch (cs : List Instr) : (s.withQueue cs).porch = s.porch := rfl
@[simp] theorem State.withQueue_fwSet (cs : List Instr) : (s.withQueue cs).fwSet = s.fwSet := rfl
@[simp] theorem State.withQueue_tws (cs : List Instr) : (s.withQueue cs).tws = s.tws := rfl
@[simp] theorem State.withQueue_tcs (cs : List Instr) : (s.withQueue cs).tcs = s.tcs := rfl
@[simp] theorem State.withQueue_matchers (cs : List Instr) : (s.withQueue cs).matchers = s.matchers := rfl
@[simp] theorem State.withQueue_dbg (cs : List Instr) : (s.withQueue cs).dbg = s.dbg := rfl
@[simp] theorem State.withQueue_snap (cs : List Instr) : (s.withQueue cs).snap = s.snap := rfl
@[simp] theorem State.withQueue_room (cs : List Instr) (q : Fin 48) : (s.withQueue cs).room q = s.room q := rfl
@[simp] theorem State.withQueue_land (cs : List Instr) (a : Fin 6) : (s.withQueue cs).land a = s.land a := rfl
@[simp] theorem State.withQueue_wing (cs : List Instr) (k : Fin 2) : (s.withQueue cs).wing k = s.wing k := rfl
@[simp] theorem State.withQueue_fld (cs : List Instr) (h : Field) : (s.withQueue cs).fld h = s.fld h := rfl
@[simp] theorem State.withQueue_bit (cs : List Instr) (h : Field) : (s.withQueue cs).bit h = s.bit h := rfl
@[simp] theorem State.withQueue_pl (cs : List Instr) : (s.withQueue cs).pl = s.pl := rfl
@[simp] theorem State.withQueue_link (cs : List Instr) (j : Fin 2) : (s.withQueue cs).link j = s.link j := rfl
@[simp] theorem State.withQueue_pairMode (cs : List Instr) : (s.withQueue cs).pairMode = s.pairMode := rfl
@[simp] theorem State.withQueue_booted (cs : List Instr) : (s.withQueue cs).booted = s.booted := rfl
@[simp] theorem State.withQueue_clocked (cs : List Instr) : (s.withQueue cs).clocked = s.clocked := rfl

/-! ### A choice of two states -/

theorem State.ite_now (c : Prop) [Decidable c] (t : State) : (if c then s else t).now = if c then s.now else t.now :=
  apply_ite State.now c s t
theorem State.ite_freeCtr (c : Prop) [Decidable c] (t : State) : (if c then s else t).freeCtr = if c then s.freeCtr else t.freeCtr :=
  apply_ite State.freeCtr c s t
theorem State.ite_regs (c : Prop) [Decidable c] (t : State) : (if c then s else t).regs = if c then s.regs else t.regs :=
  apply_ite State.regs c s t
theorem State.ite_rooms (c : Prop) [Decidable c] (t : State) : (if c then s else t).rooms = if c then s.rooms else t.rooms :=
  apply_ite State.rooms c s t
theorem State.ite_lands (c : Prop) [Decidable c] (t : State) : (if c then s else t).lands = if c then s.lands else t.lands :=
  apply_ite State.lands c s t
theorem State.ite_wings (c : Prop) [Decidable c] (t : State) : (if c then s else t).wings = if c then s.wings else t.wings :=
  apply_ite State.wings c s t
theorem State.ite_clk (c : Prop) [Decidable c] (t : State) : (if c then s else t).clk = if c then s.clk else t.clk :=
  apply_ite State.clk c s t
theorem State.ite_chipB (c : Prop) [Decidable c] (t : State) : (if c then s else t).chipB = if c then s.chipB else t.chipB :=
  apply_ite State.chipB c s t
theorem State.ite_plan (c : Prop) [Decidable c] (t : State) : (if c then s else t).plan = if c then s.plan else t.plan :=
  apply_ite State.plan c s t
theorem State.ite_planStore (c : Prop) [Decidable c] (t : State) : (if c then s else t).planStore = if c then s.planStore else t.planStore :=
  apply_ite State.planStore c s t
theorem State.ite_planDigest (c : Prop) [Decidable c] (t : State) : (if c then s else t).planDigest = if c then s.planDigest else t.planDigest :=
  apply_ite State.planDigest c s t
theorem State.ite_mode (c : Prop) [Decidable c] (t : State) : (if c then s else t).mode = if c then s.mode else t.mode :=
  apply_ite State.mode c s t
theorem State.ite_lastExt (c : Prop) [Decidable c] (t : State) : (if c then s else t).lastExt = if c then s.lastExt else t.lastExt :=
  apply_ite State.lastExt c s t
theorem State.ite_hall (c : Prop) [Decidable c] (t : State) : (if c then s else t).hall = if c then s.hall else t.hall :=
  apply_ite State.hall c s t
theorem State.ite_hallCode (c : Prop) [Decidable c] (t : State) : (if c then s else t).hallCode = if c then s.hallCode else t.hallCode :=
  apply_ite State.hallCode c s t
theorem State.ite_hallData (c : Prop) [Decidable c] (t : State) : (if c then s else t).hallData = if c then s.hallData else t.hallData :=
  apply_ite State.hallData c s t
theorem State.ite_hbeatAt (c : Prop) [Decidable c] (t : State) : (if c then s else t).hbeatAt = if c then s.hbeatAt else t.hbeatAt :=
  apply_ite State.hbeatAt c s t
theorem State.ite_hbMissed (c : Prop) [Decidable c] (t : State) : (if c then s else t).hbMissed = if c then s.hbMissed else t.hbMissed :=
  apply_ite State.hbMissed c s t
theorem State.ite_rdata (c : Prop) [Decidable c] (t : State) : (if c then s else t).rdata = if c then s.rdata else t.rdata :=
  apply_ite State.rdata c s t
theorem State.ite_rerr (c : Prop) [Decidable c] (t : State) : (if c then s else t).rerr = if c then s.rerr else t.rerr :=
  apply_ite State.rerr c s t
theorem State.ite_hallErr (c : Prop) [Decidable c] (t : State) : (if c then s else t).hallErr = if c then s.hallErr else t.hallErr :=
  apply_ite State.hallErr c s t
theorem State.ite_hearth (c : Prop) [Decidable c] (t : State) : (if c then s else t).hearth = if c then s.hearth else t.hearth :=
  apply_ite State.hearth c s t
theorem State.ite_pair (c : Prop) [Decidable c] (t : State) : (if c then s else t).pair = if c then s.pair else t.pair :=
  apply_ite State.pair c s t
theorem State.ite_pantry (c : Prop) [Decidable c] (t : State) : (if c then s else t).pantry = if c then s.pantry else t.pantry :=
  apply_ite State.pantry c s t
theorem State.ite_lamps (c : Prop) [Decidable c] (t : State) : (if c then s else t).lamps = if c then s.lamps else t.lamps :=
  apply_ite State.lamps c s t
theorem State.ite_chgGrant (c : Prop) [Decidable c] (t : State) : (if c then s else t).chgGrant = if c then s.chgGrant else t.chgGrant :=
  apply_ite State.chgGrant c s t
theorem State.ite_links (c : Prop) [Decidable c] (t : State) : (if c then s else t).links = if c then s.links else t.links :=
  apply_ite State.links c s t
theorem State.ite_attic (c : Prop) [Decidable c] (t : State) : (if c then s else t).attic = if c then s.attic else t.attic :=
  apply_ite State.attic c s t
theorem State.ite_cellar (c : Prop) [Decidable c] (t : State) : (if c then s else t).cellar = if c then s.cellar else t.cellar :=
  apply_ite State.cellar c s t
theorem State.ite_jnl (c : Prop) [Decidable c] (t : State) : (if c then s else t).jnl = if c then s.jnl else t.jnl :=
  apply_ite State.jnl c s t
theorem State.ite_fwStore (c : Prop) [Decidable c] (t : State) : (if c then s else t).fwStore = if c then s.fwStore else t.fwStore :=
  apply_ite State.fwStore c s t
theorem State.ite_fwDigest (c : Prop) [Decidable c] (t : State) : (if c then s else t).fwDigest = if c then s.fwDigest else t.fwDigest :=
  apply_ite State.fwDigest c s t
theorem State.ite_porch (c : Prop) [Decidable c] (t : State) : (if c then s else t).porch = if c then s.porch else t.porch :=
  apply_ite State.porch c s t
theorem State.ite_fwSet (c : Prop) [Decidable c] (t : State) : (if c then s else t).fwSet = if c then s.fwSet else t.fwSet :=
  apply_ite State.fwSet c s t
theorem State.ite_tws (c : Prop) [Decidable c] (t : State) : (if c then s else t).tws = if c then s.tws else t.tws :=
  apply_ite State.tws c s t
theorem State.ite_tcs (c : Prop) [Decidable c] (t : State) : (if c then s else t).tcs = if c then s.tcs else t.tcs :=
  apply_ite State.tcs c s t
theorem State.ite_matchers (c : Prop) [Decidable c] (t : State) : (if c then s else t).matchers = if c then s.matchers else t.matchers :=
  apply_ite State.matchers c s t
theorem State.ite_dbg (c : Prop) [Decidable c] (t : State) : (if c then s else t).dbg = if c then s.dbg else t.dbg :=
  apply_ite State.dbg c s t
theorem State.ite_snap (c : Prop) [Decidable c] (t : State) : (if c then s else t).snap = if c then s.snap else t.snap :=
  apply_ite State.snap c s t
theorem State.ite_pending (c : Prop) [Decidable c] (t : State) : (if c then s else t).pending = if c then s.pending else t.pending :=
  apply_ite State.pending c s t
theorem State.ite_room (c : Prop) [Decidable c] (t : State) (q : Fin 48) : (if c then s else t).room q = if c then s.room q else t.room q := by
  split <;> rfl
theorem State.ite_land (c : Prop) [Decidable c] (t : State) (a : Fin 6) : (if c then s else t).land a = if c then s.land a else t.land a := by
  split <;> rfl
theorem State.ite_wing (c : Prop) [Decidable c] (t : State) (k : Fin 2) : (if c then s else t).wing k = if c then s.wing k else t.wing k := by
  split <;> rfl
theorem State.ite_fld (c : Prop) [Decidable c] (t : State) (h : Field) : (if c then s else t).fld h = if c then s.fld h else t.fld h := by
  split <;> rfl
theorem State.ite_bit (c : Prop) [Decidable c] (t : State) (h : Field) : (if c then s else t).bit h = if c then s.bit h else t.bit h := by
  split <;> rfl
theorem State.ite_pl (c : Prop) [Decidable c] (t : State)  : (if c then s else t).pl = if c then s.pl else t.pl := by
  split <;> rfl
theorem State.ite_link (c : Prop) [Decidable c] (t : State) (j : Fin 2) : (if c then s else t).link j = if c then s.link j else t.link j := by
  split <;> rfl
theorem State.ite_pairMode (c : Prop) [Decidable c] (t : State)  : (if c then s else t).pairMode = if c then s.pairMode else t.pairMode := by
  split <;> rfl
theorem State.ite_booted (c : Prop) [Decidable c] (t : State)  : (if c then s else t).booted = if c then s.booted else t.booted := by
  split <;> rfl
theorem State.ite_clocked (c : Prop) [Decidable c] (t : State)  : (if c then s else t).clocked = if c then s.clocked else t.clocked := by
  split <;> rfl

end Sys2Proof.Machine
end

