-- ==== Sys2Proof/Laws/Access.lean ====
section
/-! SUPPORT. Laws/Access.lean: reading the parts of the state after an update of them, fields after field writes, and the
shape that every command has. -/

namespace Sys2Proof

/-- A field apart from every field of a list. -/
def Field.clear (w : List Field) (f : Field) : Bool := w.all (·.apart f)

/-- A field lies within its register word. -/
def Field.fits (f : Field) : Bool := decide (f.lsb + f.width ≤ 32)

/-- A truth value in a field of at least one bit. -/
theorem Regs.fld_put_bool (m : Regs) (f : Field) (b : Bool) (h : f.fits = true) (hw : f.width ≠ 0) :
    (m.put f b.toNat).fld f = b.toNat := by
  rw [Regs.fld_put_same m f _ (by simpa [Field.fits] using h)]
  apply Nat.mod_eq_of_lt
  have : 2 ^ 1 ≤ 2 ^ f.width := Nat.pow_le_pow_right (by decide) (by omega)
  cases b <;> simp
  omega

end Sys2Proof

namespace Sys2Proof.Machine

/-! ### Rooms, Landings, Wings -/

@[simp] theorem State.room_setRoom (s : State) (p : Fin 48) (r : Room) : (s.setRoom p r).room p = r := by
  simp [State.room, State.setRoom]

theorem State.room_setRoom_ne (s : State) (p q : Fin 48) (r : Room) (h : p ≠ q) : (s.setRoom p r).room q = s.room q := by
  have h' : p.val ≠ q.val := fun e => h (Fin.ext e)
  simp [State.room, State.setRoom, h']

@[simp] theorem State.room_onRoom (s : State) (p : Fin 48) (g : Room → Room) : (s.onRoom p g).room p = g (s.room p) :=
  s.room_setRoom p _

theorem State.room_onRoom_ne (s : State) (p q : Fin 48) (g : Room → Room) (h : p ≠ q) :
    (s.onRoom p g).room q = s.room q :=
  s.room_setRoom_ne p q _ h

@[simp] theorem State.room_onRoomE (s : State) (p : Fin 48) (g : Env → Room → Room) :
    (s.onRoomE p g).room p = g (s.env p) (s.room p) :=
  s.room_setRoom p _

theorem State.room_onRoomE_ne (s : State) (p q : Fin 48) (g : Env → Room → Room) (h : p ≠ q) :
    (s.onRoomE p g).room q = s.room q :=
  s.room_setRoom_ne p q _ h

@[simp] theorem State.room_mapRooms (s : State) (g : Fin 48 → Room → Room) (p : Fin 48) :
    (s.mapRooms g).room p = g p (s.room p) := by
  simp only [State.mapRooms, State.room, Fin.getElem_fin, Vector.getElem_ofFn]

@[simp] theorem State.land_setLand (s : State) (b : Fin 6) (l : Landing) : (s.setLand b l).land b = l := by
  simp [State.land, State.setLand]

theorem State.land_setLand_ne (s : State) (a b : Fin 6) (l : Landing) (h : a ≠ b) : (s.setLand a l).land b = s.land b := by
  have h' : a.val ≠ b.val := fun e => h (Fin.ext e)
  simp [State.land, State.setLand, h']

@[simp] theorem State.land_onLand (s : State) (b : Fin 6) (g : Landing → Landing) : (s.onLand b g).land b = g (s.land b) :=
  s.land_setLand b _

theorem State.land_onLand_ne (s : State) (a b : Fin 6) (g : Landing → Landing) (h : a ≠ b) :
    (s.onLand a g).land b = s.land b :=
  s.land_setLand_ne a b _ h

@[simp] theorem State.land_mapLands (s : State) (g : Fin 6 → Landing → Landing) (b : Fin 6) :
    (s.mapLands g).land b = g b (s.land b) := by
  simp only [State.mapLands, State.land, Fin.getElem_fin, Vector.getElem_ofFn]

@[simp] theorem State.wing_onWing (s : State) (w : Fin 2) (g : Wing → Wing) : (s.onWing w g).wing w = g (s.wing w) := by
  simp [State.wing, State.onWing]

theorem State.wing_onWing_ne (s : State) (v w : Fin 2) (g : Wing → Wing) (h : v ≠ w) : (s.onWing v g).wing w = s.wing w := by
  have h' : v.val ≠ w.val := fun e => h (Fin.ext e)
  simp [State.wing, State.onWing, h']

@[simp] theorem State.clk_onClk (s : State) (g : Clk → Clk) : (s.onClk g).clk = g s.clk := rfl
@[simp] theorem State.pantry_onPan (s : State) (g : Pantry → Pantry) : (s.onPan g).pantry = g s.pantry := rfl
@[simp] theorem State.pair_onPair (s : State) (g : Pair → Pair) : (s.onPair g).pair = g s.pair := rfl
@[simp] theorem State.porch_onPorch (s : State) (g : Porch → Porch) : (s.onPorch g).porch = g s.porch := rfl
@[simp] theorem State.dbg_onDbg (s : State) (g : Dbg → Dbg) : (s.onDbg g).dbg = g s.dbg := rfl
@[simp] theorem State.pending_withQueue (s : State) (cs : List Instr) : (s.withQueue cs).pending = cs := rfl

/-! ### Fields -/

theorem State.fld_put (s : State) (f : Field) (v : Nat) (h : f.fits = true) : (s.put f v).fld f = v % 2 ^ f.width :=
  Regs.fld_put_same _ _ _ (by simpa [Field.fits] using h)
theorem State.fld_put_apart (s : State) (f g : Field) (v : Nat) (h : f.apart g = true) : (s.put f v).fld g = s.fld g :=
  Regs.fld_put_apart _ _ _ _ h
theorem State.fld_on_apart (s : State) (f g : Field) (h : f.apart g = true) : (s.on f).fld g = s.fld g :=
  Regs.fld_put_apart _ _ _ _ h
theorem State.fld_off_apart (s : State) (f g : Field) (h : f.apart g = true) : (s.off f).fld g = s.fld g :=
  Regs.fld_put_apart _ _ _ _ h
theorem State.fld_putB_apart (s : State) (f g : Field) (b : Bool) (h : f.apart g = true) : (s.putB f b).fld g = s.fld g :=
  Regs.fld_put_apart _ _ _ _ h

theorem Room.fld_put (r : Room) (f : Field) (v : Nat) (h : f.fits = true) : (r.put f v).fld f = v % 2 ^ f.width :=
  Regs.fld_put_same _ _ _ (by simpa [Field.fits] using h)
theorem Room.fld_put_apart (r : Room) (f g : Field) (v : Nat) (h : f.apart g = true) : (r.put f v).fld g = r.fld g :=
  Regs.fld_put_apart _ _ _ _ h
theorem Room.fld_on_apart (r : Room) (f g : Field) (h : f.apart g = true) : (r.on f).fld g = r.fld g :=
  Regs.fld_put_apart _ _ _ _ h
theorem Room.fld_off_apart (r : Room) (f g : Field) (h : f.apart g = true) : (r.off f).fld g = r.fld g :=
  Regs.fld_put_apart _ _ _ _ h
theorem Room.fld_putB_apart (r : Room) (f g : Field) (b : Bool) (h : f.apart g = true) : (r.putB f b).fld g = r.fld g :=
  Regs.fld_put_apart _ _ _ _ h
@[simp] theorem Room.fld_onCc (r : Room) (g : CcState → CcState) (f : Field) : (r.onCc g).fld f = r.fld f := rfl
@[simp] theorem Room.fld_onPd (r : Room) (g : PdState → PdState) (f : Field) : (r.onPd g).fld f = r.fld f := rfl
@[simp] theorem Room.fld_onCon (r : Room) (g : ConState → ConState) (f : Field) : (r.onCon g).fld f = r.fld f := rfl
@[simp] theorem Room.fld_onConv (r : Room) (g : ConvState → ConvState) (f : Field) : (r.onConv g).fld f = r.fld f := rfl
@[simp] theorem Room.fld_onCore (r : Room) (g : Core → Core) (f : Field) : (r.onCore g).fld f = r.fld f := rfl

theorem Landing.fld_put (l : Landing) (f : Field) (v : Nat) (h : f.fits = true) : (l.put f v).fld f = v % 2 ^ f.width :=
  Regs.fld_put_same _ _ _ (by simpa [Field.fits] using h)
theorem Landing.fld_put_apart (l : Landing) (f g : Field) (v : Nat) (h : f.apart g = true) :
    (l.put f v).fld g = l.fld g :=
  Regs.fld_put_apart _ _ _ _ h
theorem Wing.fld_put (x : Wing) (f : Field) (v : Nat) (h : f.fits = true) : (x.put f v).fld f = v % 2 ^ f.width :=
  Regs.fld_put_same _ _ _ (by simpa [Field.fits] using h)

/-! ### The shape of every command -/

/-- A command whose condition holds has its effect, posts its events and leaves the queue. -/
theorem act_true (s : State) (c : Bool) (f : State → State) (h : c = true) :
    act s c f = .next ((s.posted (f s)).withQueue s.pending) := by
  simp [act, h]

/-- A command whose condition does not hold changes nothing. -/
theorem act_false (s : State) (c : Bool) (f : State → State) (h : c = false) : act s c f = .next s := by
  simp [act, h]

/-- The answer of a command whose condition holds, and what is true of its effect with the events posted. -/
theorem act_does {s : State} {c : Bool} {f : State → State} {P : State → Prop} (hc : c = true)
    (hP : P ((s.posted (f s)).withQueue s.pending)) : ∃ t, act s c f = .next t ∧ P t :=
  ⟨_, act_true s c f hc, hP⟩

/-- Every command that has this shape answers a next state. -/
theorem act_next (s : State) (c : Bool) (f : State → State) : ∃ t, act s c f = .next t := ⟨_, rfl⟩

/-- No command changes the queue. -/
theorem act_pending (s t : State) (c : Bool) (f : State → State) (h : act s c f = .next t) : t.pending = s.pending := by
  unfold act at h
  cases c <;> simp only [Host.Outcome.next.injEq] at h <;> subst h <;> simp

/-- What a command of this shape reaches: its effect but for links and queue, or the state as it was. -/
theorem act_cases (s t : State) (c : Bool) (f : State → State) (h : act s c f = .next t) :
    (c = true ∧ t = (s.posted (f s)).withQueue s.pending) ∨ (c = false ∧ t = s) := by
  unfold act at h
  cases c <;> simp only [Host.Outcome.next.injEq] at h <;> subst h <;> simp

end Sys2Proof.Machine
end

