-- ==== Sys2Proof/Laws/Exec.lean ====
section
/-! SUPPORT. Laws/Exec.lean: the meaning that each command's arm calls. -/

namespace Sys2Proof.Machine

theorem exec_registerWrite (a : Agent) (addr size : Nat) (v : Word) (s : State) :
    exec (.registerWrite a addr size v) s = execRegisterWrite a addr size v s := rfl
theorem exec_faultRead (p : Fin 48) (s : State) : exec (.faultRead p) s = execFaultRead p s := rfl
theorem exec_pdErrcntRead (p : Fin 48) (s : State) : exec (.pdErrcntRead p) s = execPdErrcntRead p s := rfl
theorem exec_thrCntRead (p : Fin 48) (s : State) : exec (.thrCntRead p) s = execThrCntRead p s := rfl
theorem exec_hsFaultRead (b : Fin 6) (s : State) : exec (.hsFaultRead b) s = execHsFaultRead b s := rfl
theorem exec_landFaultRead (b : Fin 6) (s : State) : exec (.landFaultRead b) s = execLandFaultRead b s := rfl
theorem exec_wingFaultRead (w : Fin 2) (cal : Bool) (s : State) :
    exec (.wingFaultRead w cal) s = execWingFaultRead w cal s := rfl
theorem exec_pantryFaultRead (s : State) : exec (.pantryFaultRead) s = execPantryFaultRead s := rfl
theorem exec_resetCauseRead (s : State) : exec (.resetCauseRead) s = execResetCauseRead s := rfl
theorem exec_wakeCauseRead (s : State) : exec (.wakeCauseRead) s = execWakeCauseRead s := rfl
theorem exec_pwrStatRead (s : State) : exec (.pwrStatRead) s = execPwrStatRead s := rfl
theorem exec_hallModeRead (s : State) : exec (.hallModeRead) s = execHallModeRead s := rfl
theorem exec_hlErrRead (n : Fin 3) (s : State) : exec (.hlErrRead n) s = execHlErrRead n s := rfl
theorem exec_twErrRead (n : Fin 4) (s : State) : exec (.twErrRead n) s = execTwErrRead n s := rfl
theorem exec_stairErrRead (s : State) : exec (.stairErrRead) s = execStairErrRead s := rfl
theorem exec_atticResultRead (s : State) : exec (.atticResultRead) s = execAtticResultRead s := rfl
theorem exec_jnlResultRead (s : State) : exec (.jnlResultRead) s = execJnlResultRead s := rfl
theorem exec_tbCtrlRead (s : State) : exec (.tbCtrlRead) s = execTbCtrlRead s := rfl
theorem exec_hbStatRead (s : State) : exec (.hbStatRead) s = execHbStatRead s := rfl
theorem exec_subwordRead (a : Agent) (addr size : Nat) (s : State) :
    exec (.subwordRead a addr size) s = execSubwordRead a addr size s := rfl
theorem exec_enableSet (p : Fin 48) (s : State) : exec (.enableSet p) s = execEnableSet p s := rfl
theorem exec_enableClear (p : Fin 48) (s : State) : exec (.enableClear p) s = execEnableClear p s := rfl
theorem exec_portRemovalEnd (p : Fin 48) (s : State) : exec (.portRemovalEnd p) s = execPortRemovalEnd p s := rfl
theorem exec_forceSafe (p : Fin 48) (core : Bool) (on : Bool) (s : State) :
    exec (.forceSafe p core on) s = execForceSafe p core on s := rfl
theorem exec_restartCore (p : Fin 48) (s : State) : exec (.restartCore p) s = execRestartCore p s := rfl
theorem exec_recover (p : Fin 48) (s : State) : exec (.recover p) s = execRecover p s := rfl
theorem exec_grantAsk (p : Fin 48) (w : Nat) (s : State) : exec (.grantAsk p w) s = execGrantAsk p w s := rfl
theorem exec_grantAnswer (p : Fin 48) (s : State) : exec (.grantAnswer p) s = execGrantAnswer p s := rfl
theorem exec_resvLapse (p : Fin 48) (s : State) : exec (.resvLapse p) s = execResvLapse p s := rfl
theorem exec_budgetLimitWrite (r : Req) (addr : Nat) (v : Word) (s : State) :
    exec (.budgetLimitWrite r addr v) s = execBudgetLimitWrite r addr v s := rfl
theorem exec_coreWdt (p : Fin 48) (s : State) : exec (.coreWdt p) s = execCoreWdt p s := rfl
theorem exec_coreKick (p : Fin 48) (key : Nat) (s : State) : exec (.coreKick p key) s = execCoreKick p key s := rfl
theorem exec_adcCalibration (p : Fin 48) (adc : Fin 2) (gain offset : Int) (s : State) :
    exec (.adcCalibration p adc gain offset) s = execAdcCalibration p adc gain offset s := rfl
theorem exec_landingFault (b : Fin 6) (cause : SlotCause) (s : State) :
    exec (.landingFault b cause) s = execLandingFault b cause s := rfl
theorem exec_landingShedStep (b : Fin 6) (s : State) : exec (.landingShedStep b) s = execLandingShedStep b s := rfl
theorem exec_landingSelfCheck (b : Fin 6) (s : State) : exec (.landingSelfCheck b) s = execLandingSelfCheck b s := rfl
theorem exec_wingWatchdog (w : Fin 2) (part : WingPart) (s : State) :
    exec (.wingWatchdog w part) s = execWingWatchdog w part s := rfl
theorem exec_wingSafeDelay (w : Fin 2) (s : State) : exec (.wingSafeDelay w) s = execWingSafeDelay w s := rfl
theorem exec_wingRestart (w : Fin 2) (s : State) : exec (.wingRestart w) s = execWingRestart w s := rfl
theorem exec_parity (site : Site) (s : State) : exec (.parity site) s = execParity site s := rfl
theorem exec_hallModeWrite (r : Req) (mode : Nat) (s : State) :
    exec (.hallModeWrite r mode) s = execHallModeWrite r mode s := rfl
theorem exec_modeApply (p : Fin 48) (s : State) : exec (.modeApply p) s = execModeApply p s := rfl
theorem exec_forcedMode (b : Fin 6) (s : State) : exec (.forcedMode b) s = execForcedMode b s := rfl
theorem exec_fireN (s : State) : exec (.fireN) s = execFireN s := rfl
theorem exec_fireNRelease (s : State) : exec (.fireNRelease) s = execFireNRelease s := rfl
theorem exec_clockFailure (xtal : Bool) (s : State) : exec (.clockFailure xtal) s = execClockFailure xtal s := rfl
theorem exec_clkFail (s : State) : exec (.clkFail) s = execClkFail s := rfl
theorem exec_slowXtalSelect (s : State) : exec (.slowXtalSelect) s = execSlowXtalSelect s := rfl
theorem exec_slowSwitch (s : State) : exec (.slowSwitch) s = execSlowSwitch s := rfl
theorem exec_rcCalibration (fRc : Nat) (s : State) : exec (.rcCalibration fRc) s = execRcCalibration fRc s := rfl
theorem exec_aonPor (s : State) : exec (.aonPor) s = execAonPor s := rfl
theorem exec_borCore (s : State) : exec (.borCore) s = execBorCore s := rfl
theorem exec_borIo (s : State) : exec (.borIo) s = execBorIo s := rfl
theorem exec_borA (s : State) : exec (.borA) s = execBorA s := rfl
theorem exec_pin (lowNs : Nat) (taken : Bool) (s : State) : exec (.pin lowNs taken) s = execPin lowNs taken s := rfl
theorem exec_testEn (level : Bool) (s : State) : exec (.testEn level) s = execTestEn level s := rfl
theorem exec_resetKey (key : Nat) (s : State) : exec (.resetKey key) s = execResetKey key s := rfl
theorem exec_chipResetEnd (pairId core io ana resetN : Bool) (us : Nat) (s : State) :
    exec (.chipResetEnd pairId core io ana resetN us) s = execChipResetEnd pairId core io ana resetN us s := rfl
theorem exec_xtalOk (s : State) : exec (.xtalOk) s = execXtalOk s := rfl
theorem exec_pllLock (b : BootFlash) (s : State) : exec (.pllLock b) s = execPllLock b s := rfl
theorem exec_reqRun (s : State) : exec (.reqRun) s = execReqRun s := rfl
theorem exec_reqDoze (s : State) : exec (.reqDoze) s = execReqDoze s := rfl
theorem exec_reqSleep (act : BitVec 10) (s : State) : exec (.reqSleep act) s = execReqSleep act s := rfl
theorem exec_reqStandby (act : BitVec 10) (s : State) : exec (.reqStandby act) s = execReqStandby act s := rfl
theorem exec_entrySequenceStep (s : State) : exec (.entrySequenceStep) s = execEntrySequenceStep s := rfl
theorem exec_wakeN (s : State) : exec (.wakeN) s = execWakeN s := rfl
theorem exec_ccSamplingWindow (lv : List (Fin 48 × Fin 8 × Fin 8)) (s : State) :
    exec (.ccSamplingWindow lv) s = execCcSamplingWindow lv s := rfl
theorem exec_keyWake (s : State) : exec (.keyWake) s = execKeyWake s := rfl
theorem exec_alarm (s : State) : exec (.alarm) s = execAlarm s := rfl
theorem exec_fireWake (s : State) : exec (.fireWake) s = execFireWake s := rfl
theorem exec_hlWake (n : Fin 2) (s : State) : exec (.hlWake n) s = execHlWake n s := rfl
theorem exec_porchWake (s : State) : exec (.porchWake) s = execPorchWake s := rfl
theorem exec_sleepWake (s : State) : exec (.sleepWake) s = execSleepWake s := rfl
theorem exec_standbyExit (s : State) : exec (.standbyExit) s = execStandbyExit s := rfl
theorem exec_planRdDataRead (s : State) : exec (.planRdDataRead) s = execPlanRdDataRead s := rfl
theorem exec_fwRdDataRead (s : State) : exec (.fwRdDataRead) s = execFwRdDataRead s := rfl
theorem exec_celRdDataRead (s : State) : exec (.celRdDataRead) s = execCelRdDataRead s := rfl
theorem exec_ccLevelChange (p : Fin 48) (l1 l2 : Fin 8) (s : State) :
    exec (.ccLevelChange p l1 l2) s = execCcLevelChange p l1 l2 s := rfl
theorem exec_tccdebounce (p : Fin 48) (s : State) : exec (.tccdebounce p) s = execTccdebounce p s := rfl
theorem exec_tpddebounce (p : Fin 48) (s : State) : exec (.tpddebounce p) s = execTpddebounce p s := rfl
theorem exec_ttryccdebounce (p : Fin 48) (s : State) : exec (.ttryccdebounce p) s = execTtryccdebounce p s := rfl
theorem exec_tdrptry (p : Fin 48) (s : State) : exec (.tdrptry p) s = execTdrptry p s := rfl
theorem exec_terrorrecovery (p : Fin 48) (s : State) : exec (.terrorrecovery p) s = execTerrorrecovery p s := rfl
theorem exec_drpToggle (p : Fin 48) (s : State) : exec (.drpToggle p) s = execDrpToggle p s := rfl
theorem exec_attachGrant (p : Fin 48) (s : State) : exec (.attachGrant p) s = execAttachGrant p s := rfl
theorem exec_budgetWait (p : Fin 48) (s : State) : exec (.budgetWait p) s = execBudgetWait p s := rfl
theorem exec_rpLimitLower (p : Fin 48) (s : State) : exec (.rpLimitLower p) s = execRpLimitLower p s := rfl
theorem exec_vbusLost (p : Fin 48) (s : State) : exec (.vbusLost p) s = execVbusLost p s := rfl
theorem exec_vconnEnWrite (p : Fin 48) (en : Bool) (s : State) :
    exec (.vconnEnWrite p en) s = execVconnEnWrite p en s := rfl
theorem exec_vconnOc (p : Fin 48) (overcurrent : Bool) (s : State) :
    exec (.vconnOc p overcurrent) s = execVconnOc p overcurrent s := rfl
theorem exec_ccOv (p : Fin 48) (cc2 above : Bool) (s : State) :
    exec (.ccOv p cc2 above) s = execCcOv p cc2 above s := rfl
theorem exec_ccIsolationRelease (p : Fin 48) (cc2 : Bool) (s : State) :
    exec (.ccIsolationRelease p cc2) s = execCcIsolationRelease p cc2 s := rfl
theorem exec_errorRecovery (p : Fin 48) (s : State) : exec (.errorRecovery p) s = execErrorRecovery p s := rfl
theorem exec_messageReceived (p : Fin 48) (os syms : List (Fin 32)) (s : State) :
    exec (.messageReceived p os syms) s = execMessageReceived p os syms s := rfl
theorem exec_packetTruncated (p : Fin 48) (s : State) : exec (.packetTruncated p) s = execPacketTruncated p s := rfl
theorem exec_goodcrc (p : Fin 48) (tr : Nat) (s : State) : exec (.goodcrc p tr) s = execGoodcrc p tr s := rfl
theorem exec_messageDelivered (p : Fin 48) (s : State) :
    exec (.messageDelivered p) s = execMessageDelivered p s := rfl
theorem exec_goodcrcReceived (p : Fin 48) (sop : Fin 3) (id : Fin 8) (s : State) :
    exec (.goodcrcReceived p sop id) s = execGoodcrcReceived p sop id s := rfl
theorem exec_transmitStart (p : Fin 48) (tr : Nat) (s : State) :
    exec (.transmitStart p tr) s = execTransmitStart p tr s := rfl
theorem exec_transmitEnd (p : Fin 48) (s : State) : exec (.transmitEnd p) s = execTransmitEnd p s := rfl
theorem exec_treceive (p : Fin 48) (s : State) : exec (.treceive p) s = execTreceive p s := rfl
theorem exec_retransmit (p : Fin 48) (tr : Nat) (s : State) : exec (.retransmit p tr) s = execRetransmit p tr s := rfl
theorem exec_tsenderresponse (p : Fin 48) (s : State) : exec (.tsenderresponse p) s = execTsenderresponse p s := rfl
theorem exec_tsinktx (p : Fin 48) (s : State) : exec (.tsinktx p) s = execTsinktx p s := rfl
theorem exec_tamsidle (p : Fin 48) (s : State) : exec (.tamsidle p) s = execTamsidle p s := rfl
theorem exec_amsEnd (p : Fin 48) (s : State) : exec (.amsEnd p) s = execAmsEnd p s := rfl
theorem exec_commit (p : Fin 48) (rd ra : Fin 16) (s : State) : exec (.commit p rd ra) s = execCommit p rd ra s := rfl
theorem exec_discard (p : Fin 48) (rd ra : Fin 16) (s : State) :
    exec (.discard p rd ra) s = execDiscard p rd ra s := rfl
theorem exec_txRelease (p : Fin 48) (s : State) : exec (.txRelease p) s = execTxRelease p s := rfl
theorem exec_txWithdraw (p : Fin 48) (s : State) : exec (.txWithdraw p) s = execTxWithdraw p s := rfl
theorem exec_rxPop (p : Fin 48) (s : State) : exec (.rxPop p) s = execRxPop p s := rfl
theorem exec_vdmPop (p : Fin 48) (s : State) : exec (.vdmPop p) s = execVdmPop p s := rfl
theorem exec_hardReset (p : Fin 48) (s : State) : exec (.hardReset p) s = execHardReset p s := rfl
theorem exec_cableReset (p : Fin 48) (s : State) : exec (.cableReset p) s = execCableReset p s := rfl
theorem exec_cableDisc (p : Fin 48) (s : State) : exec (.cableDisc p) s = execCableDisc p s := rfl
theorem exec_hvdmSend (p : Fin 48) (s : State) : exec (.hvdmSend p) s = execHvdmSend p s := rfl
theorem exec_chunkRequest (p : Fin 48) (tr : Nat) (s : State) :
    exec (.chunkRequest p tr) s = execChunkRequest p tr s := rfl
theorem exec_tchunksenderrequest (p : Fin 48) (s : State) :
    exec (.tchunksenderrequest p) s = execTchunksenderrequest p s := rfl
theorem exec_tchunksenderresponse (p : Fin 48) (s : State) :
    exec (.tchunksenderresponse p) s = execTchunksenderresponse p s := rfl
theorem exec_automaticReply (p : Fin 48) (tr : Nat) (s : State) :
    exec (.automaticReply p tr) s = execAutomaticReply p tr s := rfl
theorem exec_bistCarrierEnd (p : Fin 48) (s : State) : exec (.bistCarrierEnd p) s = execBistCarrierEnd p s := rfl
theorem exec_eprKeepalive (p : Fin 48) (s : State) : exec (.eprKeepalive p) s = execEprKeepalive p s := rfl
theorem exec_kaMiss (p : Fin 48) (s : State) : exec (.kaMiss p) s = execKaMiss p s := rfl
theorem exec_eprSourceTimeout (p : Fin 48) (s : State) :
    exec (.eprSourceTimeout p) s = execEprSourceTimeout p s := rfl
theorem exec_cableDiscoveryStart (p : Fin 48) (s : State) :
    exec (.cableDiscoveryStart p) s = execCableDiscoveryStart p s := rfl
theorem exec_cableResponseTimeout (p : Fin 48) (s : State) :
    exec (.cableResponseTimeout p) s = execCableResponseTimeout p s := rfl
theorem exec_cableDiscoveryAttempt (p : Fin 48) (s : State) :
    exec (.cableDiscoveryAttempt p) s = execCableDiscoveryAttempt p s := rfl
theorem exec_hardResetTransmit (p : Fin 48) (s : State) :
    exec (.hardResetTransmit p) s = execHardResetTransmit p s := rfl
theorem exec_hardResetReceived (p : Fin 48) (s : State) :
    exec (.hardResetReceived p) s = execHardResetReceived p s := rfl
theorem exec_cableResetReceived (p : Fin 48) (s : State) :
    exec (.cableResetReceived p) s = execCableResetReceived p s := rfl
theorem exec_tsrc (p : Fin 48) (s : State) : exec (.tsrc p) s = execTsrc p s := rfl
theorem exec_referenceReached (p : Fin 48) (s : State) :
    exec (.referenceReached p) s = execReferenceReached p s := rfl
theorem exec_settled (p : Fin 48) (s : State) : exec (.settled p) s = execSettled p s := rfl
theorem exec_settleFail (p : Fin 48) (s : State) : exec (.settleFail p) s = execSettleFail p s := rfl
theorem exec_vsetWrite (p : Fin 48) (mv : Nat) (s : State) : exec (.vsetWrite p mv) s = execVsetWrite p mv s := rfl
theorem exec_vlimRecompute (p : Fin 48) (vin10 : Nat) (s : State) :
    exec (.vlimRecompute p vin10) s = execVlimRecompute p vin10 s := rfl
theorem exec_giveup (p : Fin 48) (s : State) : exec (.giveup p) s = execGiveup p s := rfl
theorem exec_hardResetVconnOff (p : Fin 48) (s : State) :
    exec (.hardResetVconnOff p) s = execHardResetVconnOff p s := rfl
theorem exec_hardResetVbusSafe0 (p : Fin 48) (s : State) :
    exec (.hardResetVbusSafe0 p) s = execHardResetVbusSafe0 p s := rfl
theorem exec_tsrcrecover (p : Fin 48) (s : State) : exec (.tsrcrecover p) s = execTsrcrecover p s := rfl
theorem exec_hardResetEnd (p : Fin 48) (s : State) : exec (.hardResetEnd p) s = execHardResetEnd p s := rfl
theorem exec_prSwapVbusSafe0 (p : Fin 48) (s : State) : exec (.prSwapVbusSafe0 p) s = execPrSwapVbusSafe0 p s := rfl
theorem exec_psRdyTimeout (p : Fin 48) (s : State) : exec (.psRdyTimeout p) s = execPsRdyTimeout p s := rfl
theorem exec_trig (p : Fin 48) (s : State) : exec (.trig p) s = execTrig p s := rfl
theorem exec_frsInputTrigger (p : Fin 48) (s : State) : exec (.frsInputTrigger p) s = execFrsInputTrigger p s := rfl
theorem exec_frsSignalEnd (p : Fin 48) (s : State) : exec (.frsSignalEnd p) s = execFrsSignalEnd p s := rfl
theorem exec_frsTimeout (p : Fin 48) (s : State) : exec (.frsTimeout p) s = execFrsTimeout p s := rfl
theorem exec_frsDetect (p : Fin 48) (s : State) : exec (.frsDetect p) s = execFrsDetect p s := rfl
theorem exec_frsVbusDrop (p : Fin 48) (s : State) : exec (.frsVbusDrop p) s = execFrsVbusDrop p s := rfl
theorem exec_vconnSwapTimeout (p : Fin 48) (s : State) :
    exec (.vconnSwapTimeout p) s = execVconnSwapTimeout p s := rfl
theorem exec_periodStart (p : Fin 48) (s : State) : exec (.periodStart p) s = execPeriodStart p s := rfl
theorem exec_loopUpdate (p : Fin 48) (vbus cur vnode vin : BitVec 12) (vs is : List (BitVec 12)) (s : State) :
    exec (.loopUpdate p vbus cur vnode vin vs is) s = execLoopUpdate p vbus cur vnode vin vs is s := rfl
theorem exec_softStartDone (p : Fin 48) (s : State) : exec (.softStartDone p) s = execSoftStartDone p s := rfl
theorem exec_softStopDone (p : Fin 48) (s : State) : exec (.softStopDone p) s = execSoftStopDone p s := rfl
theorem exec_coefApply (p : Fin 48) (s : State) : exec (.coefApply p) s = execCoefApply p s := rfl
theorem exec_thresholdTrip (p : Fin 48) (k : Fin 4) (neg : Bool) (cycles : Nat) (s : State) :
    exec (.thresholdTrip p k neg cycles) s = execThresholdTrip p k neg cycles s := rfl
theorem exec_thresholdLatch (p : Fin 48) (k : Fin 4) (neg : Bool) (s : State) :
    exec (.thresholdLatch p k neg) s = execThresholdLatch p k neg s := rfl
theorem exec_ovT (p : Fin 48) (s : State) : exec (.ovT p) s = execOvT p s := rfl
theorem exec_uvT (p : Fin 48) (s : State) : exec (.uvT p) s = execUvT p s := rfl
theorem exec_regLoss (p : Fin 48) (s : State) : exec (.regLoss p) s = execRegLoss p s := rfl
theorem exec_efuse (p : Fin 48) (s : State) : exec (.efuse p) s = execEfuse p s := rfl
theorem exec_foldbackTimeout (p : Fin 48) (s : State) : exec (.foldbackTimeout p) s = execFoldbackTimeout p s := rfl
theorem exec_coldClose (p : Fin 48) (s : State) : exec (.coldClose p) s = execColdClose p s := rfl
theorem exec_retryAttempt (p : Fin 48) (s : State) : exec (.retryAttempt p) s = execRetryAttempt p s := rfl
theorem exec_attemptWindowEnd (p : Fin 48) (s : State) :
    exec (.attemptWindowEnd p) s = execAttemptWindowEnd p s := rfl
theorem exec_retryCountReset (p : Fin 48) (s : State) : exec (.retryCountReset p) s = execRetryCountReset p s := rfl
theorem exec_fetShort (p : Fin 48) (s : State) : exec (.fetShort p) s = execFetShort p s := rfl
theorem exec_seatChange (b : Fin 6) (seat1 seat2 : Bool) (s : State) :
    exec (.seatChange b seat1 seat2) s = execSeatChange b seat1 seat2 s := rfl
theorem exec_tseat (b : Fin 6) (m : SlotMeas) (s : State) : exec (.tseat b m) s = execTseat b m s := rfl
theorem exec_seatLift (b : Fin 6) (seat1 seat2 : Bool) (s : State) :
    exec (.seatLift b seat1 seat2) s = execSeatLift b seat1 seat2 s := rfl
theorem exec_gateUp (b : Fin 6) (m : SlotMeas) (s : State) : exec (.gateUp b m) s = execGateUp b m s := rfl
theorem exec_slotOn (b : Fin 6) (m : SlotMeas) (s : State) : exec (.slotOn b m) s = execSlotOn b m s := rfl
theorem exec_inrushTo (b : Fin 6) (s : State) : exec (.inrushTo b) s = execInrushTo b s := rfl
theorem exec_short (b : Fin 6) (neg : Bool) (s : State) : exec (.short b neg) s = execShort b neg s := rfl
theorem exec_breaker (b : Fin 6) (s : State) : exec (.breaker b) s = execBreaker b s := rfl
theorem exec_pgLoss (b : Fin 6) (m : SlotMeas) (s : State) : exec (.pgLoss b m) s = execPgLoss b m s := rfl
theorem exec_slotFetShort (b : Fin 6) (m : SlotMeas) (s : State) :
    exec (.slotFetShort b m) s = execSlotFetShort b m s := rfl
theorem exec_slotAttempt (b : Fin 6) (m : SlotMeas) (s : State) :
    exec (.slotAttempt b m) s = execSlotAttempt b m s := rfl
theorem exec_slotAttemptOk (b : Fin 6) (s : State) : exec (.slotAttemptOk b) s = execSlotAttemptOk b s := rfl
theorem exec_slotCountReset (b : Fin 6) (s : State) : exec (.slotCountReset b) s = execSlotCountReset b s := rfl
theorem exec_hsEnSet (b : Fin 6) (s : State) : exec (.hsEnSet b) s = execHsEnSet b s := rfl
theorem exec_hsEnClear (b : Fin 6) (s : State) : exec (.hsEnClear b) s = execHsEnClear b s := rfl
theorem exec_hsRecover (b : Fin 6) (m : SlotMeas) (s : State) : exec (.hsRecover b m) s = execHsRecover b m s := rfl
theorem exec_hsLimitWrite (b : Fin 6) (v : Word) (s : State) :
    exec (.hsLimitWrite b v) s = execHsLimitWrite b v s := rfl
theorem exec_hearthUpdate (die : Nat) (s : State) : exec (.hearthUpdate die) s = execHearthUpdate die s := rfl
theorem exec_grace (m : Fin 57) (s : State) : exec (.grace m) s = execGrace m s := rfl
theorem exec_ithRecompute (m : Fin 57) (s : State) : exec (.ithRecompute m) s = execIthRecompute m s := rfl
theorem exec_clampRelease (m : Fin 57) (s : State) : exec (.clampRelease m) s = execClampRelease m s := rfl
theorem exec_dieCapRelease (s : State) : exec (.dieCapRelease) s = execDieCapRelease s := rfl
theorem exec_tambConversion (mv0 mv1 : Nat) (s : State) :
    exec (.tambConversion mv0 mv1) s = execTambConversion mv0 mv1 s := rfl
theorem exec_powerBalanceCheck (b : Fin 6) (slot : Int) (ports : List Int) (s : State) :
    exec (.powerBalanceCheck b slot ports) s = execPowerBalanceCheck b slot ports s := rfl
theorem exec_qidOn (m : PanMeas) (s : State) : exec (.qidOn m) s = execQidOn m s := rfl
theorem exec_idRevTrip (m : PanMeas) (s : State) : exec (.idRevTrip m) s = execIdRevTrip m s := rfl
theorem exec_batteryOperationBegin (m : PanMeas) (s : State) :
    exec (.batteryOperationBegin m) s = execBatteryOperationBegin m s := rfl
theorem exec_batteryMode (s : State) : exec (.batteryMode) s = execBatteryMode s := rfl
theorem exec_batteryOperationEnd (m : PanMeas) (s : State) :
    exec (.batteryOperationEnd m) s = execBatteryOperationEnd m s := rfl
theorem exec_batLow (mean : Nat) (s : State) : exec (.batLow mean) s = execBatLow mean s := rfl
theorem exec_cutoff (mean : Nat) (s : State) : exec (.cutoff mean) s = execCutoff mean s := rfl
theorem exec_batPresChange (present : Bool) (s : State) :
    exec (.batPresChange present) s = execBatPresChange present s := rfl
theorem exec_presStable (s : State) : exec (.presStable) s = execPresStable s := rfl
theorem exec_qualification (mean : Nat) (s : State) : exec (.qualification mean) s = execQualification mean s := rfl
theorem exec_prechargeDone (m : PanMeas) (s : State) : exec (.prechargeDone m) s = execPrechargeDone m s := rfl
theorem exec_preTimeout (s : State) : exec (.preTimeout) s = execPreTimeout s := rfl
theorem exec_ndvWindow (mean : Nat) (s : State) : exec (.ndvWindow mean) s = execNdvWindow mean s := rfl
theorem exec_dtdtEvaluation (mean : Int) (s : State) :
    exec (.dtdtEvaluation mean) s = execDtdtEvaluation mean s := rfl
theorem exec_safetyTmr (s : State) : exec (.safetyTmr) s = execSafetyTmr s := rfl
theorem exec_pause (m : PanMeas) (s : State) : exec (.pause m) s = execPause m s := rfl
theorem exec_budgetPauseRetry (s : State) : exec (.budgetPauseRetry) s = execBudgetPauseRetry s := rfl
theorem exec_chargerGrant (s : State) : exec (.chargerGrant) s = execChargerGrant s := rfl
theorem exec_pOvTrip (s : State) : exec (.pOvTrip) s = execPOvTrip s := rfl
theorem exec_chgOv (s : State) : exec (.chgOv) s = execChgOv s := rfl
theorem exec_pPkTrip (neg : Bool) (s : State) : exec (.pPkTrip neg) s = execPPkTrip neg s := rfl
theorem exec_start (s : State) : exec (.start) s = execStart s := rfl
theorem exec_restart (m : PanMeas) (s : State) : exec (.restart m) s = execRestart m s := rfl
theorem exec_panEnWrite (en : Bool) (s : State) : exec (.panEnWrite en) s = execPanEnWrite en s := rfl
theorem exec_lampSlot (s : State) : exec (.lampSlot) s = execLampSlot s := rfl
theorem exec_add (c : CoreId) (rd ra rb : Fin 16) (z : BitVec 14) (s : State) :
    exec (.add c rd ra rb z) s = execAdd c rd ra rb z s := rfl
theorem exec_sub (c : CoreId) (rd ra rb : Fin 16) (z : BitVec 14) (s : State) :
    exec (.sub c rd ra rb z) s = execSub c rd ra rb z s := rfl
theorem exec_and (c : CoreId) (rd ra rb : Fin 16) (z : BitVec 14) (s : State) :
    exec (.and c rd ra rb z) s = execAnd c rd ra rb z s := rfl
theorem exec_or (c : CoreId) (rd ra rb : Fin 16) (z : BitVec 14) (s : State) :
    exec (.or c rd ra rb z) s = execOr c rd ra rb z s := rfl
theorem exec_xor (c : CoreId) (rd ra rb : Fin 16) (z : BitVec 14) (s : State) :
    exec (.xor c rd ra rb z) s = execXor c rd ra rb z s := rfl
theorem exec_sll (c : CoreId) (rd ra rb : Fin 16) (z : BitVec 14) (s : State) :
    exec (.sll c rd ra rb z) s = execSll c rd ra rb z s := rfl
theorem exec_srl (c : CoreId) (rd ra rb : Fin 16) (z : BitVec 14) (s : State) :
    exec (.srl c rd ra rb z) s = execSrl c rd ra rb z s := rfl
theorem exec_sra (c : CoreId) (rd ra rb : Fin 16) (z : BitVec 14) (s : State) :
    exec (.sra c rd ra rb z) s = execSra c rd ra rb z s := rfl
theorem exec_mul (c : CoreId) (rd ra rb : Fin 16) (z : BitVec 14) (s : State) :
    exec (.mul c rd ra rb z) s = execMul c rd ra rb z s := rfl
theorem exec_mulh (c : CoreId) (rd ra rb : Fin 16) (z : BitVec 14) (s : State) :
    exec (.mulh c rd ra rb z) s = execMulh c rd ra rb z s := rfl
theorem exec_mulhu (c : CoreId) (rd ra rb : Fin 16) (z : BitVec 14) (s : State) :
    exec (.mulhu c rd ra rb z) s = execMulhu c rd ra rb z s := rfl
theorem exec_divu (c : CoreId) (rd ra rb : Fin 16) (z : BitVec 14) (s : State) :
    exec (.divu c rd ra rb z) s = execDivu c rd ra rb z s := rfl
theorem exec_remu (c : CoreId) (rd ra rb : Fin 16) (z : BitVec 14) (s : State) :
    exec (.remu c rd ra rb z) s = execRemu c rd ra rb z s := rfl
theorem exec_minu (c : CoreId) (rd ra rb : Fin 16) (z : BitVec 14) (s : State) :
    exec (.minu c rd ra rb z) s = execMinu c rd ra rb z s := rfl
theorem exec_maxu (c : CoreId) (rd ra rb : Fin 16) (z : BitVec 14) (s : State) :
    exec (.maxu c rd ra rb z) s = execMaxu c rd ra rb z s := rfl
theorem exec_addi (c : CoreId) (rd ra : Fin 16) (imm : BitVec 18) (s : State) :
    exec (.addi c rd ra imm) s = execAddi c rd ra imm s := rfl
theorem exec_andi (c : CoreId) (rd ra : Fin 16) (imm : BitVec 18) (s : State) :
    exec (.andi c rd ra imm) s = execAndi c rd ra imm s := rfl
theorem exec_ori (c : CoreId) (rd ra : Fin 16) (imm : BitVec 18) (s : State) :
    exec (.ori c rd ra imm) s = execOri c rd ra imm s := rfl
theorem exec_xori (c : CoreId) (rd ra : Fin 16) (imm : BitVec 18) (s : State) :
    exec (.xori c rd ra imm) s = execXori c rd ra imm s := rfl
theorem exec_slli (c : CoreId) (rd ra : Fin 16) (imm : BitVec 18) (s : State) :
    exec (.slli c rd ra imm) s = execSlli c rd ra imm s := rfl
theorem exec_srli (c : CoreId) (rd ra : Fin 16) (imm : BitVec 18) (s : State) :
    exec (.srli c rd ra imm) s = execSrli c rd ra imm s := rfl
theorem exec_srai (c : CoreId) (rd ra : Fin 16) (imm : BitVec 18) (s : State) :
    exec (.srai c rd ra imm) s = execSrai c rd ra imm s := rfl
theorem exec_lui (c : CoreId) (rd : Fin 16) (imm : BitVec 22) (s : State) :
    exec (.lui c rd imm) s = execLui c rd imm s := rfl
theorem exec_ceq (c : CoreId) (rd ra rb : Fin 16) (z : BitVec 14) (s : State) :
    exec (.ceq c rd ra rb z) s = execCeq c rd ra rb z s := rfl
theorem exec_cne (c : CoreId) (rd ra rb : Fin 16) (z : BitVec 14) (s : State) :
    exec (.cne c rd ra rb z) s = execCne c rd ra rb z s := rfl
theorem exec_clt (c : CoreId) (rd ra rb : Fin 16) (z : BitVec 14) (s : State) :
    exec (.clt c rd ra rb z) s = execClt c rd ra rb z s := rfl
theorem exec_cltu (c : CoreId) (rd ra rb : Fin 16) (z : BitVec 14) (s : State) :
    exec (.cltu c rd ra rb z) s = execCltu c rd ra rb z s := rfl
theorem exec_cge (c : CoreId) (rd ra rb : Fin 16) (z : BitVec 14) (s : State) :
    exec (.cge c rd ra rb z) s = execCge c rd ra rb z s := rfl
theorem exec_cgeu (c : CoreId) (rd ra rb : Fin 16) (z : BitVec 14) (s : State) :
    exec (.cgeu c rd ra rb z) s = execCgeu c rd ra rb z s := rfl
theorem exec_ceqi (c : CoreId) (rd ra : Fin 16) (imm : BitVec 18) (s : State) :
    exec (.ceqi c rd ra imm) s = execCeqi c rd ra imm s := rfl
theorem exec_cnei (c : CoreId) (rd ra : Fin 16) (imm : BitVec 18) (s : State) :
    exec (.cnei c rd ra imm) s = execCnei c rd ra imm s := rfl
theorem exec_clti (c : CoreId) (rd ra : Fin 16) (imm : BitVec 18) (s : State) :
    exec (.clti c rd ra imm) s = execClti c rd ra imm s := rfl
theorem exec_cltui (c : CoreId) (rd ra : Fin 16) (imm : BitVec 18) (s : State) :
    exec (.cltui c rd ra imm) s = execCltui c rd ra imm s := rfl
theorem exec_cgei (c : CoreId) (rd ra : Fin 16) (imm : BitVec 18) (s : State) :
    exec (.cgei c rd ra imm) s = execCgei c rd ra imm s := rfl
theorem exec_cgeui (c : CoreId) (rd ra : Fin 16) (imm : BitVec 18) (s : State) :
    exec (.cgeui c rd ra imm) s = execCgeui c rd ra imm s := rfl
theorem exec_bz (c : CoreId) (ra : Fin 16) (off : BitVec 22) (s : State) :
    exec (.bz c ra off) s = execBz c ra off s := rfl
theorem exec_bnz (c : CoreId) (ra : Fin 16) (off : BitVec 22) (s : State) :
    exec (.bnz c ra off) s = execBnz c ra off s := rfl
theorem exec_jal (c : CoreId) (rd : Fin 16) (imm : BitVec 22) (s : State) :
    exec (.jal c rd imm) s = execJal c rd imm s := rfl
theorem exec_jalr (c : CoreId) (rd ra : Fin 16) (imm : BitVec 18) (s : State) :
    exec (.jalr c rd ra imm) s = execJalr c rd ra imm s := rfl
theorem exec_lb (c : CoreId) (rd ra : Fin 16) (imm : BitVec 18) (s : State) :
    exec (.lb c rd ra imm) s = execLb c rd ra imm s := rfl
theorem exec_lbu (c : CoreId) (rd ra : Fin 16) (imm : BitVec 18) (s : State) :
    exec (.lbu c rd ra imm) s = execLbu c rd ra imm s := rfl
theorem exec_lh (c : CoreId) (rd ra : Fin 16) (imm : BitVec 18) (s : State) :
    exec (.lh c rd ra imm) s = execLh c rd ra imm s := rfl
theorem exec_lhu (c : CoreId) (rd ra : Fin 16) (imm : BitVec 18) (s : State) :
    exec (.lhu c rd ra imm) s = execLhu c rd ra imm s := rfl
theorem exec_lw (c : CoreId) (rd ra : Fin 16) (imm : BitVec 18) (s : State) :
    exec (.lw c rd ra imm) s = execLw c rd ra imm s := rfl
theorem exec_sb (c : CoreId) (rs ra : Fin 16) (imm : BitVec 18) (s : State) :
    exec (.sb c rs ra imm) s = execSb c rs ra imm s := rfl
theorem exec_sh (c : CoreId) (rs ra : Fin 16) (imm : BitVec 18) (s : State) :
    exec (.sh c rs ra imm) s = execSh c rs ra imm s := rfl
theorem exec_sw (c : CoreId) (rs ra : Fin 16) (imm : BitVec 18) (s : State) :
    exec (.sw c rs ra imm) s = execSw c rs ra imm s := rfl
theorem exec_lwp (c : CoreId) (rd ra : Fin 16) (imm : BitVec 18) (s : State) :
    exec (.lwp c rd ra imm) s = execLwp c rd ra imm s := rfl
theorem exec_swp (c : CoreId) (rs ra : Fin 16) (imm : BitVec 18) (s : State) :
    exec (.swp c rs ra imm) s = execSwp c rs ra imm s := rfl
theorem exec_cpw (c : CoreId) (rd ra rb : Fin 16) (z : BitVec 14) (s : State) :
    exec (.cpw c rd ra rb z) s = execCpw c rd ra rb z s := rfl
theorem exec_rpt (c : CoreId) (rd ra : Fin 16) (imm : BitVec 18) (s : State) :
    exec (.rpt c rd ra imm) s = execRpt c rd ra imm s := rfl
theorem exec_rptr (c : CoreId) (rd ra : Fin 16) (imm : BitVec 18) (s : State) :
    exec (.rptr c rd ra imm) s = execRptr c rd ra imm s := rfl
theorem exec_rptu (c : CoreId) (rd ra : Fin 16) (imm : BitVec 18) (s : State) :
    exec (.rptu c rd ra imm) s = execRptu c rd ra imm s := rfl
theorem exec_wait (c : CoreId) (rd ra : Fin 16) (imm : BitVec 18) (s : State) :
    exec (.wait c rd ra imm) s = execWait c rd ra imm s := rfl
theorem exec_evret (c : CoreId) (rd ra : Fin 16) (imm : BitVec 18) (s : State) :
    exec (.evret c rd ra imm) s = execEvret c rd ra imm s := rfl
theorem exec_sync (c : CoreId) (rd ra : Fin 16) (imm : BitVec 18) (s : State) :
    exec (.sync c rd ra imm) s = execSync c rd ra imm s := rfl
theorem exec_mfs (c : CoreId) (rd ra : Fin 16) (imm : BitVec 18) (s : State) :
    exec (.mfs c rd ra imm) s = execMfs c rd ra imm s := rfl
theorem exec_mts (c : CoreId) (rd ra : Fin 16) (imm : BitVec 18) (s : State) :
    exec (.mts c rd ra imm) s = execMts c rd ra imm s := rfl
theorem exec_hbeat (c : CoreId) (rd ra : Fin 16) (imm : BitVec 18) (s : State) :
    exec (.hbeat c rd ra imm) s = execHbeat c rd ra imm s := rfl
theorem exec_brk (c : CoreId) (rd ra : Fin 16) (imm : BitVec 18) (s : State) :
    exec (.brk c rd ra imm) s = execBrk c rd ra imm s := rfl
theorem exec_eventEntry (c : CoreId) (s : State) : exec (.eventEntry c) s = execEventEntry c s := rfl
theorem exec_extCopyDone (p : Fin 48) (s : State) : exec (.extCopyDone p) s = execExtCopyDone p s := rfl
theorem exec_hold (p : Fin 48) (on : Bool) (s : State) : exec (.hold p on) s = execHold p on s := rfl
theorem exec_doorbell (p : Fin 48) (v : BitVec 8) (s : State) : exec (.doorbell p v) s = execDoorbell p v s := rfl
theorem exec_dbAck (p : Fin 48) (v : BitVec 8) (s : State) : exec (.dbAck p v) s = execDbAck p v s := rfl
theorem exec_timerFire (k : TmrBlock) (n : Fin 8) (s : State) : exec (.timerFire k n) s = execTimerFire k n s := rfl
theorem exec_tmrCtrlWrite (k : TmrBlock) (n : Fin 8) (v : Word) (s : State) :
    exec (.tmrCtrlWrite k n v) s = execTmrCtrlWrite k n v s := rfl
theorem exec_tmrCmpWrite (k : TmrBlock) (n : Fin 8) (v : Word) (s : State) :
    exec (.tmrCmpWrite k n v) s = execTmrCmpWrite k n v s := rfl
theorem exec_tmrCntWrite (k : TmrBlock) (n : Fin 8) (v : Word) (s : State) :
    exec (.tmrCntWrite k n v) s = execTmrCntWrite k n v s := rfl
theorem exec_load (s : State) : exec (.load) s = execLoad s := rfl
theorem exec_energyUpdate (s : State) : exec (.energyUpdate) s = execEnergyUpdate s := rfl
theorem exec_snapTrig (s : State) : exec (.snapTrig) s = execSnapTrig s := rfl
theorem exec_snapIoEdge (low : Bool) (s : State) : exec (.snapIoEdge low) s = execSnapIoEdge low s := rfl
theorem exec_snapIoRelease (s : State) : exec (.snapIoRelease) s = execSnapIoRelease s := rfl
theorem exec_capture (s : State) : exec (.capture) s = execCapture s := rfl
theorem exec_hlRead (n : Fin 2) (line : List Byte) (s : State) : exec (.hlRead n line) s = execHlRead n line s := rfl
theorem exec_hlWrite (n : Fin 2) (line : List Byte) (s : State) :
    exec (.hlWrite n line) s = execHlWrite n line s := rfl
theorem exec_rmw (n : Fin 2) (line : Option (List Byte)) (k : Nat) (s : State) :
    exec (.rmw n line k) s = execRmw n line k s := rfl
theorem exec_bulkRead (n : Fin 2) (line : Option (List Byte)) (k : Nat) (s : State) :
    exec (.bulkRead n line k) s = execBulkRead n line k s := rfl
theorem exec_bulkWrite (n : Fin 2) (line : Option (List Byte)) (k : Nat) (s : State) :
    exec (.bulkWrite n line k) s = execBulkWrite n line k s := rfl
theorem exec_subscribe (n : Fin 2) (line : List Byte) (s : State) :
    exec (.subscribe n line) s = execSubscribe n line s := rfl
theorem exec_snapshot (n : Fin 2) (line : List Byte) (s : State) :
    exec (.snapshot n line) s = execSnapshot n line s := rfl
theorem exec_hlActivate (n : Fin 2) (line : List Byte) (held recOk : Bool) (s : State) :
    exec (.hlActivate n line held recOk) s = execHlActivate n line held recOk s := rfl
theorem exec_ack (n : Fin 2) (line : List Byte) (s : State) : exec (.ack n line) s = execAck n line s := rfl
theorem exec_setting (n : Fin 2) (line : List Byte) (held : Bool) (s : State) :
    exec (.setting n line held) s = execSetting n line held s := rfl
theorem exec_vdmSend (n : Fin 2) (line : List Byte) (held : Bool) (s : State) :
    exec (.vdmSend n line held) s = execVdmSend n line held s := rfl
theorem exec_ping (n : Fin 2) (line : List Byte) (s : State) : exec (.ping n line) s = execPing n line s := rfl
theorem exec_unknownType (n : Fin 3) (line : List Byte) (s : State) :
    exec (.unknownType n line) s = execUnknownType n line s := rfl
theorem exec_frameDiscard (n : Fin 3) (line : List Byte) (charErr lost : Bool) (s : State) :
    exec (.frameDiscard n line charErr lost) s = execFrameDiscard n line charErr lost s := rfl
theorem exec_frameAbort (n : Fin 3) (line : List Byte) (idle : Nat) (s : State) :
    exec (.frameAbort n line idle) s = execFrameAbort n line idle s := rfl
theorem exec_timeout (n : Fin 2) (s : State) : exec (.timeout n) s = execTimeout n s := rfl
theorem exec_go (s : State) : exec (.go) s = execGo s := rfl
theorem exec_eventSend (n : Fin 2) (s : State) : exec (.eventSend n) s = execEventSend n s := rfl
theorem exec_eventResend (n : Fin 2) (s : State) : exec (.eventResend n) s = execEventResend n s := rfl
theorem exec_twWriteTransaction (n : Fin 4) (tx : Option (BitVec 7 × List Byte)) (k : Nat) (s : State) :
    exec (.twWriteTransaction n tx k) s = execTwWriteTransaction n tx k s := rfl
theorem exec_twReadTransaction (n : Fin 4) (tx : Option (BitVec 7 × List Byte)) (k : Nat) (s : State) :
    exec (.twReadTransaction n tx k) s = execTwReadTransaction n tx k s := rfl
theorem exec_twTimeout (n : Fin 4) (write : Bool) (s : State) :
    exec (.twTimeout n write) s = execTwTimeout n write s := rfl
theorem exec_twBusError (n : Fin 4) (write : Bool) (s : State) :
    exec (.twBusError n write) s = execTwBusError n write s := rfl
theorem exec_twAddressMatchWake (n : Fin 4) (addr : BitVec 7) (s : State) :
    exec (.twAddressMatchWake n addr) s = execTwAddressMatchWake n addr s := rfl
theorem exec_tcGo (m : Fin 2) (s : State) : exec (.tcGo m) s = execTcGo m s := rfl
theorem exec_tcDone (m : Fin 2) (result : Fin 5) (count : Nat) (data : List Byte) (s : State) :
    exec (.tcDone m result count data) s = execTcDone m result count data s := rfl
theorem exec_heartbeatSend (s : State) : exec (.heartbeatSend) s = execHeartbeatSend s := rfl
theorem exec_heartbeatPulse (widthNs : Nat) (s : State) :
    exec (.heartbeatPulse widthNs) s = execHeartbeatPulse widthNs s := rfl
theorem exec_peerLost (s : State) : exec (.peerLost) s = execPeerLost s := rfl
theorem exec_keyInChange (level : Bool) (s : State) : exec (.keyInChange level) s = execKeyInChange level s := rfl
theorem exec_claimStartA (s : State) : exec (.claimStartA) s = execClaimStartA s := rfl
theorem exec_claimStartB (s : State) : exec (.claimStartB) s = execClaimStartB s := rfl
theorem exec_takeover (s : State) : exec (.takeover) s = execTakeover s := rfl
theorem exec_claimGuardEnd (s : State) : exec (.claimGuardEnd) s = execClaimGuardEnd s := rfl
theorem exec_contention (w : Fin 2) (s : State) : exec (.contention w) s = execContention w s := rfl
theorem exec_peerNoYield (w : Fin 2) (s : State) : exec (.peerNoYield w) s = execPeerNoYield w s := rfl
theorem exec_release (w : Fin 2) (s : State) : exec (.release w) s = execRelease w s := rfl
theorem exec_hbOutFault (s : State) : exec (.hbOutFault) s = execHbOutFault s := rfl
theorem exec_keyInStuck (s : State) : exec (.keyInStuck) s = execKeyInStuck s := rfl
theorem exec_driveConflict (site : Site) (s : State) : exec (.driveConflict site) s = execDriveConflict site s := rfl
theorem exec_pairResync (s : State) : exec (.pairResync) s = execPairResync s := rfl
theorem exec_laneLock (k : Fin 2) (s : State) : exec (.laneLock k) s = execLaneLock k s := rfl
theorem exec_laneLockLoss (k : Fin 2) (copy : Bool) (s : State) :
    exec (.laneLockLoss k copy) s = execLaneLockLoss k copy s := rfl
theorem exec_linkUp (s : State) : exec (.linkUp) s = execLinkUp s := rfl
theorem exec_linkDown (s : State) : exec (.linkDown) s = execLinkDown s := rfl
theorem exec_stairFrame (k : Fin 2) (line : List (BitVec 10)) (s : State) :
    exec (.stairFrame k line) s = execStairFrame k line s := rfl
theorem exec_stairLoop (k : Fin 2) (line : List (BitVec 10)) (s : State) :
    exec (.stairLoop k line) s = execStairLoop k line s := rfl
theorem exec_stairRoom (k : Fin 2) (line : List (BitVec 10)) (s : State) :
    exec (.stairRoom k line) s = execStairRoom k line s := rfl
theorem exec_stairSlot (k : Fin 2) (line : List (BitVec 10)) (s : State) :
    exec (.stairSlot k line) s = execStairSlot k line s := rfl
theorem exec_stairTimer (k : Fin 2) (line : List (BitVec 10)) (s : State) :
    exec (.stairTimer k line) s = execStairTimer k line s := rfl
theorem exec_stairHearth (k : Fin 2) (line : List (BitVec 10)) (s : State) :
    exec (.stairHearth k line) s = execStairHearth k line s := rfl
theorem exec_stairEnergy (k : Fin 2) (line : List (BitVec 10)) (s : State) :
    exec (.stairEnergy k line) s = execStairEnergy k line s := rfl
theorem exec_stairHall (k : Fin 2) (line : List (BitVec 10)) (s : State) :
    exec (.stairHall k line) s = execStairHall k line s := rfl
theorem exec_stairPantry (k : Fin 2) (line : List (BitVec 10)) (s : State) :
    exec (.stairPantry k line) s = execStairPantry k line s := rfl
theorem exec_stairWrite (k : Fin 2) (line : List (BitVec 10)) (s : State) :
    exec (.stairWrite k line) s = execStairWrite k line s := rfl
theorem exec_stairStatus (k : Fin 2) (line : List (BitVec 10)) (s : State) :
    exec (.stairStatus k line) s = execStairStatus k line s := rfl
theorem exec_stairResync (k : Fin 2) (line : List (BitVec 10)) (s : State) :
    exec (.stairResync k line) s = execStairResync k line s := rfl
theorem exec_stairDigest (k : Fin 2) (line : List (BitVec 10)) (s : State) :
    exec (.stairDigest k line) s = execStairDigest k line s := rfl
theorem exec_frameSend (s : State) : exec (.frameSend) s = execFrameSend s := rfl
theorem exec_recordSend (type target bank : Nat) (s : State) :
    exec (.recordSend type target bank) s = execRecordSend type target bank s := rfl
theorem exec_recordResend (type target bank : Nat) (s : State) :
    exec (.recordResend type target bank) s = execRecordResend type target bank s := rfl
theorem exec_statusSend (s : State) : exec (.statusSend) s = execStatusSend s := rfl
theorem exec_digestSend (s : State) : exec (.digestSend) s = execDigestSend s := rfl
theorem exec_resyncSend (s : State) : exec (.resyncSend) s = execResyncSend s := rfl
theorem exec_statusLoss (s : State) : exec (.statusLoss) s = execStatusLoss s := rfl
theorem exec_program (r : Req) (vpp vdd : Bool) (s : State) :
    exec (.program r vpp vdd) s = execProgram r vpp vdd s := rfl
theorem exec_margin (r : Req) (s : State) : exec (.margin r) s = execMargin r s := rfl
theorem exec_advance (r : Req) (vpp vdd : Bool) (s : State) :
    exec (.advance r vpp vdd) s = execAdvance r vpp vdd s := rfl
theorem exec_progSecret (r : Req) (vpp vdd : Bool) (s : State) :
    exec (.progSecret r vpp vdd) s = execProgSecret r vpp vdd s := rfl
theorem exec_lifecycle (r : Req) (vpp vdd : Bool) (s : State) :
    exec (.lifecycle r vpp vdd) s = execLifecycle r vpp vdd s := rfl
theorem exec_atticCommandDone (abort : Option Nat) (bad : List (Nat × Bool × Word)) (s : State) :
    exec (.atticCommandDone abort bad) s = execAtticCommandDone abort bad s := rfl
theorem exec_atticLock (v : Word) (s : State) : exec (.atticLock v) s = execAtticLock v s := rfl
theorem exec_verify (s : State) : exec (.verify) s = execVerify s := rfl
theorem exec_verifyDone (s : State) : exec (.verifyDone) s = execVerifyDone s := rfl
theorem exec_ident (line : List Byte) (s : State) : exec (.ident line) s = execIdent line s := rfl
theorem exec_openSession (line : List Byte) (jok : Bool) (s : State) :
    exec (.openSession line jok) s = execOpenSession line jok s := rfl
theorem exec_chunk (line : List Byte) (wr : Bool) (bad : Option Nat) (jok : Bool) (s : State) :
    exec (.chunk line wr bad jok) s = execChunk line wr bad jok s := rfl
theorem exec_finish (line : List Byte) (jok recOk : Bool) (s : State) :
    exec (.finish line jok recOk) s = execFinish line jok recOk s := rfl
theorem exec_porchAbort (line : List Byte) (s : State) : exec (.porchAbort line) s = execPorchAbort line s := rfl
theorem exec_porchStatus (line : List Byte) (s : State) : exec (.porchStatus line) s = execPorchStatus line s := rfl
theorem exec_porchActivate (line : List Byte) (recOk : Bool) (s : State) :
    exec (.porchActivate line recOk) s = execPorchActivate line recOk s := rfl
theorem exec_sessionLost (plan slot : Bool) (s : State) :
    exec (.sessionLost plan slot) s = execSessionLost plan slot s := rfl
theorem exec_activationEvaluation (means : List Nat) (s : State) :
    exec (.activationEvaluation means) s = execActivationEvaluation means s := rfl
theorem exec_expired (recOk : Bool) (s : State) : exec (.expired recOk) s = execExpired recOk s := rfl
theorem exec_activationPeerReset (s : State) : exec (.activationPeerReset) s = execActivationPeerReset s := rfl
theorem exec_confirmed (recOk vpp vdd : Bool) (s : State) :
    exec (.confirmed recOk vpp vdd) s = execConfirmed recOk vpp vdd s := rfl
theorem exec_reverted (recOk : Bool) (s : State) : exec (.reverted recOk) s = execReverted recOk s := rfl
theorem exec_settingReset (s : State) : exec (.settingReset) s = execSettingReset s := rfl
theorem exec_append (r : Req) (s : State) : exec (.append r) s = execAppend r s := rfl
theorem exec_bootrec (r : Req) (ok : Bool) (s : State) : exec (.bootrec r ok) s = execBootrec r ok s := rfl
theorem exec_groupCommit (s : State) : exec (.groupCommit) s = execGroupCommit s := rfl
theorem exec_compaction (stage : Fin 3) (s : State) : exec (.compaction stage) s = execCompaction stage s := rfl
theorem exec_cellarTimeout (n : Nat) (s : State) : exec (.cellarTimeout n) s = execCellarTimeout n s := rfl
theorem exec_hbMiss (s : State) : exec (.hbMiss) s = execHbMiss s := rfl
theorem exec_wdt (s : State) : exec (.wdt) s = execWdt s := rfl
theorem exec_openPinTest (pin : SensePin) (moved : Nat) (s : State) :
    exec (.openPinTest pin moved) s = execOpenPinTest pin moved s := rfl
theorem exec_holdEnd (site : Site) (s : State) : exec (.holdEnd site) s = execHoldEnd site s := rfl
theorem exec_idcode (header : BitVec 12) (s : State) : exec (.idcode header) s = execIdcode header s := rfl
theorem exec_rdStat (header : BitVec 12) (s : State) : exec (.rdStat header) s = execRdStat header s := rfl
theorem exec_wrAddr (header : BitVec 12) (data : Word) (crc : BitVec 8) (s : State) :
    exec (.wrAddr header data crc) s = execWrAddr header data crc s := rfl
theorem exec_rdData (header : BitVec 12) (s : State) : exec (.rdData header) s = execRdData header s := rfl
theorem exec_rdBuf (header : BitVec 12) (s : State) : exec (.rdBuf header) s = execRdBuf header s := rfl
theorem exec_wrData (header : BitVec 12) (data : Word) (crc : BitVec 8) (s : State) :
    exec (.wrData header data crc) s = execWrData header data crc s := rfl
theorem exec_dbgAbort (header : BitVec 12) (data : Word) (crc : BitVec 8) (s : State) :
    exec (.dbgAbort header data crc) s = execDbgAbort header data crc s := rfl
theorem exec_chkErr (header : BitVec 12) (s : State) : exec (.chkErr header) s = execChkErr header s := rfl
theorem exec_lineReset (s : State) : exec (.lineReset) s = execLineReset s := rfl
theorem exec_dbgTimeout (s : State) : exec (.dbgTimeout) s = execDbgTimeout s := rfl
theorem exec_dbgAccessDone (s : State) : exec (.dbgAccessDone) s = execDbgAccessDone s := rfl
theorem exec_halt (c : CoreId) (on : Bool) (s : State) : exec (.halt c on) s = execHalt c on s := rfl
theorem exec_coreHalt (c : CoreId) (s : State) : exec (.coreHalt c) s = execCoreHalt c s := rfl
theorem exec_step (n : BitVec 6) (s : State) : exec (.step n) s = execStep n s := rfl
theorem exec_creg (w : Option Word) (s : State) : exec (.creg w) s = execCreg w s := rfl
theorem exec_dbgReset (s : State) : exec (.dbgReset) s = execDbgReset s := rfl
theorem exec_snap (s : State) : exec (.snap) s = execSnap s := rfl
theorem exec_tick (s : State) : exec (.tick) s = execTick s := rfl
theorem exec_slowClockEdge (act : BitVec 10) (s : State) :
    exec (.slowClockEdge act) s = execSlowClockEdge act s := rfl
theorem exec_vbusLevelChange (p : Fin 48) (mv : Nat) (s : State) :
    exec (.vbusLevelChange p mv) s = execVbusLevelChange p mv s := rfl
theorem exec_vslotinRise (b : Fin 6) (m : SlotMeas) (s : State) :
    exec (.vslotinRise b m) s = execVslotinRise b m s := rfl
theorem exec_slotLimitEdge (b : Fin 6) (limit : Fin 3) (m : SlotMeas) (s : State) :
    exec (.slotLimitEdge b limit m) s = execSlotLimitEdge b limit m s := rfl
theorem exec_ntcConversion (uv : Nat) (s : State) : exec (.ntcConversion uv) s = execNtcConversion uv s := rfl
theorem exec_vbusInReturn (m : PanMeas) (s : State) : exec (.vbusInReturn m) s = execVbusInReturn m s := rfl
theorem exec_chargerPeriodStart (m : PanMeas) (s : State) :
    exec (.chargerPeriodStart m) s = execChargerPeriodStart m s := rfl
theorem exec_hlCtsChange (n : Fin 2) (level : Bool) (s : State) :
    exec (.hlCtsChange n level) s = execHlCtsChange n level s := rfl

end Sys2Proof.Machine
end

