-- ==== Sys2Proof/Laws/Memory.lean ====
section
/-! SUPPORT. Laws/Memory.lean: every memory operation keeps the canonical form of a memory. -/

namespace Sys2Proof.Machine

theorem Store.wf_iff {w : Nat} (m : Store w) :
    Store.wf m = true ↔ m.Pairwise (fun x y => x.1 < y.1) ∧ ∀ x ∈ m, x.2 ≠ 0 := by
  induction m with
  | nil => simp [Store.wf]
  | cons x m ih =>
    obtain ⟨k, v⟩ := x
    simp only [Store.wf, Bool.and_eq_true, bne_iff_ne, ne_eq, List.all_eq_true, decide_eq_true_eq, ih, List.pairwise_cons,
      List.mem_cons, forall_eq_or_imp]
    tauto

theorem Store.wf_filter {w : Nat} (m : Store w) (f : Nat × BitVec w → Bool) (h : Store.wf m = true) :
    Store.wf (m.filter f) = true := by
  rw [Store.wf_iff] at *
  exact ⟨h.1.filter f, fun x hx => h.2 x (List.mem_of_mem_filter hx)⟩

theorem eraseRange_wf (m : Mem) (a n : Nat) (h : Store.wf m = true) : Store.wf (eraseRange m a n) = true :=
  Store.wf_filter m _ h

theorem putBytes_wf (m : Mem) (a : Nat) (b : List Byte) (h : Store.wf m = true) : Store.wf (putBytes m a b) = true := by
  induction b generalizing m a with
  | nil => exact h
  | cons x l ih => exact ih _ _ (Store.wf_set m a x h)

theorem progBytes_wf (m : Mem) (a : Nat) (b : List Byte) (h : Store.wf m = true) : Store.wf (progBytes m a b) = true := by
  unfold progBytes
  generalize b.zipIdx = l
  induction l generalizing m with
  | nil => exact h
  | cons x l ih => exact ih _ (Store.wf_set m _ _ h)

theorem brecWrite_wf (m : Mem) (c : Nat) (r : BootRec) (h : Store.wf m = true) : Store.wf (brecWrite m c r) = true :=
  progBytes_wf _ _ _ (eraseRange_wf _ _ _ h)

theorem memOf_keys (b : List Byte) : ∀ x ∈ memOf b, x.1 < b.length := by
  intro x hx
  simp only [memOf, List.mem_filter, List.mem_map] at hx
  obtain ⟨⟨y, hy, rfl⟩, -⟩ := hx
  have := List.mem_zipIdx hy
  simp at this
  omega

theorem memOf_wf (b : List Byte) : Store.wf (memOf b) = true := by
  rw [Store.wf_iff]
  constructor
  · unfold memOf
    refine List.Pairwise.filter _ ?_
    rw [List.pairwise_map, List.pairwise_iff_getElem]
    intro i j hi hj hij
    simp only [List.getElem_zipIdx]
    omega
  · intro x hx
    simp only [memOf, List.mem_filter, bne_iff_ne, ne_eq] at hx
    exact hx.2

theorem memLoad_wf (m : Mem) (b : List Byte) (h : Store.wf m = true) : Store.wf (memLoad m b) = true := by
  have h1 := (Store.wf_iff _).1 (memOf_wf b)
  have h2 := (Store.wf_iff _).1 (Store.wf_filter m (fun x => b.length ≤ x.1) h)
  rw [Store.wf_iff]
  unfold memLoad
  refine ⟨List.pairwise_append.2 ⟨h1.1, h2.1, ?_⟩, ?_⟩
  · intro x hx y hy
    have := memOf_keys b x hx
    have : b.length ≤ y.1 := by simpa using (List.mem_filter.1 hy).2
    omega
  · intro x hx
    rcases List.mem_append.1 hx with hx | hx
    · exact h1.2 x hx
    · exact h2.2 x hx

end Sys2Proof.Machine
end

