-- ==== Sys2Proof/Laws/RoomParts.lean ====
section
/-! SUPPORT. Laws/RoomParts.lean: the operations on a Room that leave its holds, and those that leave its memories. -/

namespace Sys2Proof.Machine

/-- The fault-induced safe state and the slot hold of a Room. -/
def Room.held (r : Room) : Bool × Bool := (r.safe, r.slotHold)

/-- Data RAM and code RAM of a Room. -/
def Room.mems (r : Room) : Mem × Mem := (r.data, r.code)

/-! ### Room.held -/

theorem Room.held_ite (c : Prop) [Decidable c] (a b : Room) (x : Bool × Bool) (h1 : a.held = x) (h2 : b.held = x) :
    (if c then a else b).held = x := by
  split <;> assumption
theorem Room.held_mk (m : Regs) (x1 x2 : Mem) (x3 : CcState) (x4 : PdState) (x5 : ConState) (x6 : ConvState) (x7 : Core)
    (x8 x9 x10 : Bool) (x11 : Nat) (x12 : List Nat) (x13 : List (Int × Int)) (x14 : List Nat) (x15 x16 x17 x18 : Nat) :
    Room.held ⟨m, x1, x2, x3, x4, x5, x6, x7, x8, x9, x10, x11, x12, x13, x14, x15, x16, x17, x18⟩ = (x8, x9) := rfl
theorem Room.held_eta (r : Room) : (r.safe, r.slotHold) = r.held := rfl
theorem Room.put_held (r : Room) (f : Field) (v : Nat) : (r.put f v).held = r.held := rfl
theorem Room.on_held (r : Room) (f : Field) : (r.on f).held = r.held := rfl
theorem Room.off_held (r : Room) (f : Field) : (r.off f).held = r.held := rfl
theorem Room.putB_held (r : Room) (f : Field) (b : Bool) : (r.putB f b).held = r.held := rfl
theorem Room.onCc_held (r : Room) (g : CcState → CcState) : (r.onCc g).held = r.held := rfl
theorem Room.onPd_held (r : Room) (g : PdState → PdState) : (r.onPd g).held = r.held := rfl
theorem Room.onCon_held (r : Room) (g : ConState → ConState) : (r.onCon g).held = r.held := rfl
theorem Room.onConv_held (r : Room) (g : ConvState → ConvState) : (r.onConv g).held = r.held := rfl
theorem Room.onCore_held (r : Room) (g : Core → Core) : (r.onCore g).held = r.held := rfl

theorem Room.toStep_held (e : Env) (n : Nat) (r : Room) : (Room.toStep e n r).held = r.held := by
  unfold Room.toStep
  repeat' first
    | with_reducible rfl
    | with_reducible apply Room.held_ite
    | with_reducible refine (Room.put_held _ _ _).trans ?_
    | with_reducible refine (Room.onCon_held _ _).trans ?_
    | with_reducible refine (Room.held_mk _ _ _ _ _ _ _ _ _ _ _ _ _ _ _ _ _ _ _).trans ?_
    | with_reducible refine (Room.held_eta _).trans ?_
    | split

theorem Room.followRp_held (r : Room) : (Room.followRp r).held = r.held := by
  unfold Room.followRp
  try dsimp only
  repeat' first
    | with_reducible rfl
    | split
    | with_reducible apply Room.held_ite
    | with_reducible refine (Room.put_held _ _ _).trans ?_
    | with_reducible refine (Room.held_mk _ _ _ _ _ _ _ _ _ _ _ _ _ _ _ _ _ _ _).trans ?_
    | with_reducible refine (Room.held_eta _).trans ?_

theorem Room.refreshPartner_held (r : Room) : (Room.refreshPartner r).held = r.held := by
  unfold Room.refreshPartner
  try dsimp only
  repeat' first
    | with_reducible rfl
    | with_reducible apply Room.held_ite
    | with_reducible refine (Room.put_held _ _ _).trans ?_
    | with_reducible refine (Room.on_held _ _).trans ?_
    | with_reducible refine (Room.followRp_held _).trans ?_
    | split

theorem Room.shadowRp_held (r : Room) : (Room.shadowRp r).held = r.held := by
  unfold Room.shadowRp
  try dsimp only
  repeat' first
    | with_reducible rfl
    | with_reducible apply Room.held_ite
    | with_reducible refine (Room.put_held _ _ _).trans ?_
    | split

theorem Room.audioOff_held (r : Room) : (Room.audioOff r).held = r.held := by
  unfold Room.audioOff
  repeat' first
    | with_reducible rfl
    | with_reducible apply Room.held_ite
    | with_reducible refine (Room.onCc_held _ _).trans ?_
    | with_reducible refine (Room.held_mk _ _ _ _ _ _ _ _ _ _ _ _ _ _ _ _ _ _ _).trans ?_
    | with_reducible refine (Room.held_eta _).trans ?_
    | split

theorem Room.terms_held (e : Env) (r : Room) : (Room.terms e r).held = r.held := by
  unfold Room.terms
  try dsimp only
  repeat' first
    | with_reducible rfl
    | with_reducible apply Room.held_ite
    | with_reducible refine (Room.put_held _ _ _).trans ?_
    | with_reducible refine (Room.onCc_held _ _).trans ?_
    | with_reducible refine (Room.audioOff_held _).trans ?_
    | with_reducible refine (Room.refreshPartner_held _).trans ?_
    | with_reducible refine (Room.held_mk _ _ _ _ _ _ _ _ _ _ _ _ _ _ _ _ _ _ _).trans ?_
    | with_reducible refine (Room.held_eta _).trans ?_
    | split

theorem Room.vconn_held (e : Env) (r : Room) : (Room.vconn e r).held = r.held := by
  unfold Room.vconn
  try dsimp only
  repeat' first
    | with_reducible rfl
    | with_reducible apply Room.held_ite
    | with_reducible refine (Room.putB_held _ _ _).trans ?_
    | with_reducible refine (Room.onCc_held _ _).trans ?_
    | with_reducible refine (Room.onPd_held _ _).trans ?_
    | with_reducible refine (Room.terms_held _ _).trans ?_
    | with_reducible refine (Room.held_mk _ _ _ _ _ _ _ _ _ _ _ _ _ _ _ _ _ _ _).trans ?_
    | with_reducible refine (Room.held_eta _).trans ?_
    | split

theorem Room.setGrant_held (r : Room) (w : Nat) : (Room.setGrant r w).held = r.held := by
  unfold Room.setGrant
  repeat' first
    | with_reducible rfl
    | with_reducible apply Room.held_ite
    | with_reducible refine (Room.put_held _ _ _).trans ?_
    | with_reducible refine (Room.on_held _ _).trans ?_
    | split

theorem Room.endResv_held (r : Room) : (Room.endResv r).held = r.held := by
  unfold Room.endResv
  repeat' first
    | with_reducible rfl
    | with_reducible apply Room.held_ite
    | with_reducible refine (Room.off_held _ _).trans ?_
    | with_reducible refine (Room.onCon_held _ _).trans ?_
    | with_reducible refine (Room.held_mk _ _ _ _ _ _ _ _ _ _ _ _ _ _ _ _ _ _ _).trans ?_
    | with_reducible refine (Room.held_eta _).trans ?_
    | split

theorem Room.ask_held (e : Env) (w : Nat) (lapse : Bool) (r : Room) : (Room.ask e w lapse r).held = r.held := by
  unfold Room.ask
  try dsimp only
  repeat' first
    | with_reducible rfl
    | with_reducible apply Room.held_ite
    | with_reducible refine (Room.put_held _ _ _).trans ?_
    | with_reducible refine (Room.off_held _ _).trans ?_
    | with_reducible refine (Room.onCon_held _ _).trans ?_
    | with_reducible refine (Room.held_mk _ _ _ _ _ _ _ _ _ _ _ _ _ _ _ _ _ _ _).trans ?_
    | with_reducible refine (Room.held_eta _).trans ?_
    | split

theorem Room.refreshIlim_held (e : Env) (r : Room) : (Room.refreshIlim e r).held = r.held := by
  unfold Room.refreshIlim
  try dsimp only
  repeat' first
    | with_reducible rfl
    | with_reducible apply Room.held_ite
    | with_reducible refine (Room.put_held _ _ _).trans ?_
    | split

theorem Room.implicitVi_held (e : Env) (r : Room) : (Room.implicitVi e r).held = r.held := by
  unfold Room.implicitVi
  repeat' first
    | with_reducible rfl
    | with_reducible apply Room.held_ite
    | with_reducible refine (Room.put_held _ _ _).trans ?_
    | with_reducible refine (Room.off_held _ _).trans ?_
    | with_reducible refine (Room.refreshIlim_held _ _).trans ?_
    | split

theorem Room.startGiveup_held (e : Env) (r : Room) : (Room.startGiveup e r).held = r.held := by
  unfold Room.startGiveup
  repeat' first
    | with_reducible rfl
    | with_reducible apply Room.held_ite
    | with_reducible refine (Room.on_held _ _).trans ?_
    | with_reducible refine (Room.onCon_held _ _).trans ?_
    | with_reducible refine (Room.held_mk _ _ _ _ _ _ _ _ _ _ _ _ _ _ _ _ _ _ _).trans ?_
    | with_reducible refine (Room.held_eta _).trans ?_
    | split

theorem Room.vlimDrop_held (e : Env) (r : Room) : (Room.vlimDrop e r).held = r.held := by
  unfold Room.vlimDrop
  repeat' first
    | with_reducible rfl
    | with_reducible apply Room.held_ite
    | with_reducible refine (Room.on_held _ _).trans ?_
    | with_reducible refine (Room.startGiveup_held _ _).trans ?_
    | split

theorem Room.refreshVlim_held (e : Env) (r : Room) : (Room.refreshVlim e r).held = r.held := by
  unfold Room.refreshVlim
  try dsimp only
  repeat' first
    | with_reducible rfl
    | with_reducible apply Room.held_ite
    | with_reducible refine (Room.put_held _ _ _).trans ?_
    | with_reducible refine (Room.vlimDrop_held _ _).trans ?_
    | split

theorem Room.refreshCable_held (e : Env) (r : Room) : (Room.refreshCable e r).held = r.held := by
  unfold Room.refreshCable
  try dsimp only
  repeat' first
    | with_reducible rfl
    | with_reducible apply Room.held_ite
    | with_reducible refine (Room.put_held _ _ _).trans ?_
    | with_reducible refine (Room.on_held _ _).trans ?_
    | with_reducible refine (Room.off_held _ _).trans ?_
    | with_reducible refine (Room.putB_held _ _ _).trans ?_
    | with_reducible refine (Room.refreshVlim_held _ _).trans ?_
    | with_reducible refine (Room.refreshIlim_held _ _).trans ?_
    | split

theorem Room.setRef_held (r : Room) (uv : Nat) : (Room.setRef r uv).held = r.held := by
  unfold Room.setRef
  repeat' first
    | with_reducible rfl
    | with_reducible apply Room.held_ite
    | with_reducible refine (Room.put_held _ _ _).trans ?_
    | with_reducible refine (Room.onConv_held _ _).trans ?_
    | with_reducible refine (Room.held_mk _ _ _ _ _ _ _ _ _ _ _ _ _ _ _ _ _ _ _).trans ?_
    | with_reducible refine (Room.held_eta _).trans ?_
    | split

theorem Room.refreshRamp_held (e : Env) (r : Room) (target : Nat) : (Room.refreshRamp e r target).held = r.held := by
  unfold Room.refreshRamp
  try dsimp only
  repeat' first
    | with_reducible rfl
    | with_reducible apply Room.held_ite
    | with_reducible refine (Room.putB_held _ _ _).trans ?_
    | with_reducible refine (Room.onConv_held _ _).trans ?_
    | with_reducible refine (Room.held_mk _ _ _ _ _ _ _ _ _ _ _ _ _ _ _ _ _ _ _).trans ?_
    | with_reducible refine (Room.held_eta _).trans ?_
    | split

theorem Room.setLoop_held (r : Room) (st : Nat) : (Room.setLoop r st).held = r.held := by
  unfold Room.setLoop
  try dsimp only
  repeat' first
    | with_reducible rfl
    | with_reducible apply Room.held_ite
    | with_reducible refine (Room.put_held _ _ _).trans ?_
    | with_reducible refine (Room.on_held _ _).trans ?_
    | with_reducible refine (Room.off_held _ _).trans ?_
    | with_reducible refine (Room.putB_held _ _ _).trans ?_
    | split

theorem Room.setRate_held (num : Nat) (den : Nat) (r : Room) : (Room.setRate num den r).held = r.held := by
  unfold Room.setRate
  repeat' first
    | with_reducible rfl
    | with_reducible apply Room.held_ite
    | with_reducible refine (Room.onConv_held _ _).trans ?_
    | with_reducible refine (Room.held_mk _ _ _ _ _ _ _ _ _ _ _ _ _ _ _ _ _ _ _).trans ?_
    | with_reducible refine (Room.held_eta _).trans ?_
    | split

theorem Room.slewRate_held (r : Room) : (Room.slewRate r).held = r.held := by
  unfold Room.slewRate
  repeat' first
    | with_reducible rfl
    | with_reducible apply Room.held_ite
    | with_reducible refine (Room.setRate_held _ _ _).trans ?_
    | split

theorem Room.midRail_held (r : Room) : (Room.midRail r).held = r.held := by
  unfold Room.midRail
  repeat' first
    | with_reducible rfl
    | with_reducible apply Room.held_ite
    | with_reducible refine (Room.put_held _ _ _).trans ?_
    | with_reducible refine (Room.off_held _ _).trans ?_
    | split

theorem Room.preBias_held (r : Room) : (Room.preBias r).held = r.held := by
  unfold Room.preBias
  try dsimp only
  repeat' first
    | with_reducible rfl
    | with_reducible apply Room.held_ite
    | with_reducible refine (Room.onConv_held _ _).trans ?_
    | with_reducible refine (Room.held_mk _ _ _ _ _ _ _ _ _ _ _ _ _ _ _ _ _ _ _).trans ?_
    | with_reducible refine (Room.held_eta _).trans ?_
    | split

theorem Room.loopStart_held (e : Env) (r : Room) : (Room.loopStart e r).held = r.held := by
  unfold Room.loopStart
  try dsimp only
  repeat' first
    | with_reducible rfl
    | with_reducible apply Room.held_ite
    | with_reducible refine (Room.onConv_held _ _).trans ?_
    | with_reducible refine (Room.setRef_held _ _).trans ?_
    | with_reducible refine (Room.setLoop_held _ _).trans ?_
    | with_reducible refine (Room.preBias_held _).trans ?_
    | with_reducible refine (Room.setRate_held _ _ _).trans ?_
    | with_reducible refine (Room.refreshRamp_held _ _ _).trans ?_
    | with_reducible refine (Room.held_mk _ _ _ _ _ _ _ _ _ _ _ _ _ _ _ _ _ _ _).trans ?_
    | with_reducible refine (Room.held_eta _).trans ?_
    | split

theorem Room.frsStart_held (e : Env) (r : Room) : (Room.frsStart e r).held = r.held := by
  unfold Room.frsStart
  try dsimp only
  repeat' first
    | with_reducible rfl
    | with_reducible apply Room.held_ite
    | with_reducible refine (Room.put_held _ _ _).trans ?_
    | with_reducible refine (Room.onConv_held _ _).trans ?_
    | with_reducible refine (Room.setRef_held _ _).trans ?_
    | with_reducible refine (Room.setLoop_held _ _).trans ?_
    | with_reducible refine (Room.preBias_held _).trans ?_
    | with_reducible refine (Room.slewRate_held _).trans ?_
    | with_reducible refine (Room.refreshRamp_held _ _ _).trans ?_
    | with_reducible refine (Room.held_mk _ _ _ _ _ _ _ _ _ _ _ _ _ _ _ _ _ _ _).trans ?_
    | with_reducible refine (Room.held_eta _).trans ?_
    | split

theorem Room.discharge_held (e : Env) (r : Room) (num : Nat) (den : Nat) (openAtOff : Bool) : (Room.discharge e r num den openAtOff).held = r.held := by
  unfold Room.discharge
  try dsimp only
  repeat' first
    | with_reducible rfl
    | with_reducible apply Room.held_ite
    | with_reducible refine (Room.onConv_held _ _).trans ?_
    | with_reducible refine (Room.setRef_held _ _).trans ?_
    | with_reducible refine (Room.setLoop_held _ _).trans ?_
    | with_reducible refine (Room.slewRate_held _).trans ?_
    | with_reducible refine (Room.setRate_held _ _ _).trans ?_
    | with_reducible refine (Room.refreshRamp_held _ _ _).trans ?_
    | with_reducible refine (Room.held_mk _ _ _ _ _ _ _ _ _ _ _ _ _ _ _ _ _ _ _).trans ?_
    | with_reducible refine (Room.held_eta _).trans ?_
    | split

theorem Room.loopOff_held (r : Room) : (Room.loopOff r).held = r.held := by
  unfold Room.loopOff
  repeat' first
    | with_reducible rfl
    | with_reducible apply Room.held_ite
    | with_reducible refine (Room.onConv_held _ _).trans ?_
    | with_reducible refine (Room.setLoop_held _ _).trans ?_
    | with_reducible refine (Room.held_mk _ _ _ _ _ _ _ _ _ _ _ _ _ _ _ _ _ _ _).trans ?_
    | with_reducible refine (Room.held_eta _).trans ?_
    | split

theorem Room.showLevel_held (e : Env) (r : Room) : (Room.showLevel e r).held = r.held := by
  unfold Room.showLevel
  repeat' first
    | with_reducible rfl
    | split
    | with_reducible apply Room.held_ite
    | with_reducible refine (Room.put_held _ _ _).trans ?_
    | with_reducible refine (Room.off_held _ _).trans ?_
    | with_reducible refine (Room.held_mk _ _ _ _ _ _ _ _ _ _ _ _ _ _ _ _ _ _ _).trans ?_
    | with_reducible refine (Room.held_eta _).trans ?_

theorem Room.closeSwitch_held (e : Env) (r : Room) : (Room.closeSwitch e r).held = r.held := by
  unfold Room.closeSwitch
  try dsimp only
  repeat' first
    | with_reducible rfl
    | with_reducible apply Room.held_ite
    | with_reducible refine (Room.put_held _ _ _).trans ?_
    | with_reducible refine (Room.on_held _ _).trans ?_
    | with_reducible refine (Room.off_held _ _).trans ?_
    | with_reducible refine (Room.onConv_held _ _).trans ?_
    | with_reducible refine (Room.held_mk _ _ _ _ _ _ _ _ _ _ _ _ _ _ _ _ _ _ _).trans ?_
    | with_reducible refine (Room.held_eta _).trans ?_
    | split

theorem Room.openSwitch_held (r : Room) : (Room.openSwitch r).held = r.held := by
  unfold Room.openSwitch
  repeat' first
    | with_reducible rfl
    | with_reducible apply Room.held_ite
    | with_reducible refine (Room.off_held _ _).trans ?_
    | with_reducible refine (Room.onConv_held _ _).trans ?_
    | with_reducible refine (Room.held_mk _ _ _ _ _ _ _ _ _ _ _ _ _ _ _ _ _ _ _).trans ?_
    | with_reducible refine (Room.held_eta _).trans ?_
    | split

theorem Room.txEnd_held (r : Room) (code : Nat) : (Room.txEnd r code).held = r.held := by
  unfold Room.txEnd
  repeat' first
    | with_reducible rfl
    | with_reducible apply Room.held_ite
    | with_reducible refine (Room.put_held _ _ _).trans ?_
    | with_reducible refine (Room.on_held _ _).trans ?_
    | with_reducible refine (Room.onPd_held _ _).trans ?_
    | with_reducible refine (Room.held_mk _ _ _ _ _ _ _ _ _ _ _ _ _ _ _ _ _ _ _).trans ?_
    | with_reducible refine (Room.held_eta _).trans ?_
    | split

theorem Room.txAbort_held (r : Room) (code : Nat) : (Room.txAbort r code).held = r.held := by
  unfold Room.txAbort
  try dsimp only
  repeat' first
    | with_reducible rfl
    | with_reducible apply Room.held_ite
    | with_reducible refine (Room.put_held _ _ _).trans ?_
    | with_reducible refine (Room.on_held _ _).trans ?_
    | with_reducible refine (Room.onPd_held _ _).trans ?_
    | with_reducible refine (Room.txEnd_held _ _).trans ?_
    | with_reducible refine (Room.held_mk _ _ _ _ _ _ _ _ _ _ _ _ _ _ _ _ _ _ _).trans ?_
    | with_reducible refine (Room.held_eta _).trans ?_
    | split

theorem Room.clearRx_held (r : Room) : (Room.clearRx r).held = r.held := by
  unfold Room.clearRx
  try dsimp only
  repeat' first
    | with_reducible rfl
    | with_reducible apply Room.held_ite
    | with_reducible refine (Room.off_held _ _).trans ?_
    | with_reducible refine (Room.held_mk _ _ _ _ _ _ _ _ _ _ _ _ _ _ _ _ _ _ _).trans ?_
    | with_reducible refine (Room.held_eta _).trans ?_
    | split

theorem Room.pdReset_held (r : Room) : (Room.pdReset r).held = r.held := by
  unfold Room.pdReset
  repeat' first
    | with_reducible rfl
    | with_reducible apply Room.held_ite
    | with_reducible refine (Room.off_held _ _).trans ?_
    | with_reducible refine (Room.onPd_held _ _).trans ?_
    | with_reducible refine (Room.clearRx_held _).trans ?_
    | with_reducible refine (Room.held_mk _ _ _ _ _ _ _ _ _ _ _ _ _ _ _ _ _ _ _).trans ?_
    | with_reducible refine (Room.held_eta _).trans ?_
    | split

theorem Room.sinkTxNg_held (e : Env) (r : Room) : (Room.sinkTxNg e r).held = r.held := by
  unfold Room.sinkTxNg
  repeat' first
    | with_reducible rfl
    | with_reducible apply Room.held_ite
    | with_reducible refine (Room.put_held _ _ _).trans ?_
    | with_reducible refine (Room.on_held _ _).trans ?_
    | with_reducible refine (Room.onPd_held _ _).trans ?_
    | with_reducible refine (Room.held_mk _ _ _ _ _ _ _ _ _ _ _ _ _ _ _ _ _ _ _).trans ?_
    | with_reducible refine (Room.held_eta _).trans ?_
    | split

theorem Room.sinkTxOk_held (e : Env) (r : Room) : (Room.sinkTxOk e r).held = r.held := by
  unfold Room.sinkTxOk
  try dsimp only
  repeat' first
    | with_reducible rfl
    | with_reducible apply Room.held_ite
    | with_reducible refine (Room.put_held _ _ _).trans ?_
    | with_reducible refine (Room.off_held _ _).trans ?_
    | with_reducible refine (Room.onPd_held _ _).trans ?_
    | with_reducible refine (Room.sinkTxNg_held _ _).trans ?_
    | with_reducible refine (Room.held_mk _ _ _ _ _ _ _ _ _ _ _ _ _ _ _ _ _ _ _).trans ?_
    | with_reducible refine (Room.held_eta _).trans ?_
    | split

theorem Room.pdClear_held (e : Env) (r : Room) : (Room.pdClear e r).held = r.held := by
  unfold Room.pdClear
  try dsimp only
  repeat' first
    | with_reducible rfl
    | with_reducible apply Room.held_ite
    | with_reducible refine (Room.off_held _ _).trans ?_
    | with_reducible refine (Room.onPd_held _ _).trans ?_
    | with_reducible refine (Room.txAbort_held _ _).trans ?_
    | with_reducible refine (Room.pdReset_held _).trans ?_
    | with_reducible refine (Room.refreshCable_held _ _).trans ?_
    | with_reducible refine (Room.held_mk _ _ _ _ _ _ _ _ _ _ _ _ _ _ _ _ _ _ _).trans ?_
    | with_reducible refine (Room.held_eta _).trans ?_
    | split

theorem Room.conClear_held (e : Env) (r : Room) : (Room.conClear e r).held = r.held := by
  unfold Room.conClear
  try dsimp only
  repeat' first
    | with_reducible rfl
    | with_reducible apply Room.held_ite
    | with_reducible refine (Room.off_held _ _).trans ?_
    | with_reducible refine (Room.onCc_held _ _).trans ?_
    | with_reducible refine (Room.onCon_held _ _).trans ?_
    | with_reducible refine (Room.endResv_held _).trans ?_
    | with_reducible refine (Room.implicitVi_held _ _).trans ?_
    | with_reducible refine (Room.held_mk _ _ _ _ _ _ _ _ _ _ _ _ _ _ _ _ _ _ _).trans ?_
    | with_reducible refine (Room.held_eta _).trans ?_
    | split

theorem Room.endExplicit_held (e : Env) (r : Room) : (Room.endExplicit e r).held = r.held := by
  unfold Room.endExplicit
  try dsimp only
  repeat' first
    | with_reducible rfl
    | with_reducible apply Room.held_ite
    | with_reducible refine (Room.put_held _ _ _).trans ?_
    | with_reducible refine (Room.off_held _ _).trans ?_
    | with_reducible refine (Room.onCc_held _ _).trans ?_
    | with_reducible refine (Room.sinkTxOk_held _ _).trans ?_
    | with_reducible refine (Room.followRp_held _).trans ?_
    | with_reducible refine (Room.implicitVi_held _ _).trans ?_
    | with_reducible refine (Room.held_mk _ _ _ _ _ _ _ _ _ _ _ _ _ _ _ _ _ _ _).trans ?_
    | with_reducible refine (Room.held_eta _).trans ?_
    | split

theorem Room.enterState_held (e : Env) (r : Room) (st : Nat) : (Room.enterState e r st).held = r.held := by
  unfold Room.enterState
  try dsimp only
  repeat' first
    | with_reducible rfl
    | with_reducible apply Room.held_ite
    | with_reducible refine (Room.put_held _ _ _).trans ?_
    | with_reducible refine (Room.off_held _ _).trans ?_
    | with_reducible refine (Room.onCc_held _ _).trans ?_
    | with_reducible refine (Room.vconn_held _ _).trans ?_
    | with_reducible refine (Room.held_mk _ _ _ _ _ _ _ _ _ _ _ _ _ _ _ _ _ _ _).trans ?_
    | with_reducible refine (Room.held_eta _).trans ?_
    | split

theorem Room.enterA_held (e : Env) (r : Room) (st : Nat) : (Room.enterA e r st).held = r.held := by
  unfold Room.enterA
  try dsimp only
  repeat' first
    | with_reducible rfl
    | split
    | with_reducible apply Room.held_ite
    | with_reducible refine (Room.enterState_held _ _ _).trans ?_
    | with_reducible refine (Room.held_mk _ _ _ _ _ _ _ _ _ _ _ _ _ _ _ _ _ _ _).trans ?_
    | with_reducible refine (Room.held_eta _).trans ?_

theorem Room.restart_held (e : Env) (r : Room) : (Room.restart e r).held = r.held := by
  unfold Room.restart
  try dsimp only
  repeat' first
    | with_reducible rfl
    | split
    | with_reducible apply Room.held_ite
    | with_reducible refine (Room.put_held _ _ _).trans ?_
    | with_reducible refine (Room.onCc_held _ _).trans ?_
    | with_reducible refine (Room.enterA_held _ _ _).trans ?_
    | with_reducible refine (Room.enterState_held _ _ _).trans ?_
    | with_reducible refine (Room.refreshPartner_held _).trans ?_
    | with_reducible refine (Room.held_mk _ _ _ _ _ _ _ _ _ _ _ _ _ _ _ _ _ _ _).trans ?_
    | with_reducible refine (Room.held_eta _).trans ?_

theorem Room.startRemoval_held (e : Env) (r : Room) : (Room.startRemoval e r).held = r.held := by
  unfold Room.startRemoval
  repeat' first
    | with_reducible rfl
    | with_reducible apply Room.held_ite
    | with_reducible refine (Room.onCc_held _ _).trans ?_
    | with_reducible refine (Room.discharge_held _ _ _ _ _).trans ?_
    | with_reducible refine (Room.setGrant_held _ _).trans ?_
    | with_reducible refine (Room.openSwitch_held _).trans ?_
    | with_reducible refine (Room.loopOff_held _).trans ?_
    | with_reducible refine (Room.held_mk _ _ _ _ _ _ _ _ _ _ _ _ _ _ _ _ _ _ _).trans ?_
    | with_reducible refine (Room.held_eta _).trans ?_
    | split

theorem Room.retryClear_held (r : Room) : (Room.retryClear r).held = r.held := by
  unfold Room.retryClear
  repeat' first
    | with_reducible rfl
    | with_reducible apply Room.held_ite
    | with_reducible refine (Room.off_held _ _).trans ?_
    | with_reducible refine (Room.onConv_held _ _).trans ?_
    | with_reducible refine (Room.held_mk _ _ _ _ _ _ _ _ _ _ _ _ _ _ _ _ _ _ _).trans ?_
    | with_reducible refine (Room.held_eta _).trans ?_
    | split

theorem Room.detach_held (e : Env) (r : Room) : (Room.detach e r).held = r.held := by
  unfold Room.detach
  try dsimp only
  repeat' first
    | with_reducible rfl
    | with_reducible apply Room.held_ite
    | with_reducible refine (Room.on_held _ _).trans ?_
    | with_reducible refine (Room.off_held _ _).trans ?_
    | with_reducible refine (Room.pdClear_held _ _).trans ?_
    | with_reducible refine (Room.startRemoval_held _ _).trans ?_
    | with_reducible refine (Room.enterA_held _ _ _).trans ?_
    | with_reducible refine (Room.conClear_held _ _).trans ?_
    | split

theorem Room.errorRecovery_held (e : Env) (r : Room) : (Room.errorRecovery e r).held = r.held := by
  unfold Room.errorRecovery
  try dsimp only
  repeat' first
    | with_reducible rfl
    | with_reducible apply Room.held_ite
    | with_reducible refine (Room.on_held _ _).trans ?_
    | with_reducible refine (Room.pdClear_held _ _).trans ?_
    | with_reducible refine (Room.startRemoval_held _ _).trans ?_
    | with_reducible refine (Room.enterA_held _ _ _).trans ?_
    | with_reducible refine (Room.conClear_held _ _).trans ?_
    | split

theorem Room.shed_held (e : Env) (r : Room) : (Room.shed e r).held = r.held := by
  unfold Room.shed
  try dsimp only
  repeat' first
    | with_reducible rfl
    | with_reducible apply Room.held_ite
    | with_reducible refine (Room.on_held _ _).trans ?_
    | with_reducible refine (Room.onCc_held _ _).trans ?_
    | with_reducible refine (Room.pdClear_held _ _).trans ?_
    | with_reducible refine (Room.startRemoval_held _ _).trans ?_
    | with_reducible refine (Room.enterA_held _ _ _).trans ?_
    | with_reducible refine (Room.conClear_held _ _).trans ?_
    | with_reducible refine (Room.held_mk _ _ _ _ _ _ _ _ _ _ _ _ _ _ _ _ _ _ _).trans ?_
    | with_reducible refine (Room.held_eta _).trans ?_
    | split

theorem Room.grantFell_held (e : Env) (r : Room) : (Room.grantFell e r).held = r.held := by
  unfold Room.grantFell
  repeat' first
    | with_reducible rfl
    | with_reducible apply Room.held_ite
    | with_reducible refine (Room.put_held _ _ _).trans ?_
    | with_reducible refine (Room.on_held _ _).trans ?_
    | with_reducible refine (Room.onCc_held _ _).trans ?_
    | with_reducible refine (Room.shed_held _ _).trans ?_
    | with_reducible refine (Room.startGiveup_held _ _).trans ?_
    | with_reducible refine (Room.implicitVi_held _ _).trans ?_
    | with_reducible refine (Room.held_mk _ _ _ _ _ _ _ _ _ _ _ _ _ _ _ _ _ _ _).trans ?_
    | with_reducible refine (Room.held_eta _).trans ?_
    | split

theorem Room.outputsOff_held (e : Env) (r : Room) : (Room.outputsOff e r).held = r.held := by
  unfold Room.outputsOff
  repeat' first
    | with_reducible rfl
    | with_reducible apply Room.held_ite
    | with_reducible refine (Room.loopOff_held _).trans ?_
    | with_reducible refine (Room.midRail_held _).trans ?_
    | with_reducible refine (Room.openSwitch_held _).trans ?_
    | with_reducible refine (Room.vconn_held _ _).trans ?_
    | with_reducible refine (Room.refreshIlim_held _ _).trans ?_
    | split

theorem Room.armRetry_held (e : Env) (r : Room) : (Room.armRetry e r).held = r.held := by
  unfold Room.armRetry
  repeat' first
    | with_reducible rfl
    | with_reducible apply Room.held_ite
    | with_reducible refine (Room.on_held _ _).trans ?_
    | with_reducible refine (Room.off_held _ _).trans ?_
    | with_reducible refine (Room.onConv_held _ _).trans ?_
    | with_reducible refine (Room.held_mk _ _ _ _ _ _ _ _ _ _ _ _ _ _ _ _ _ _ _).trans ?_
    | with_reducible refine (Room.held_eta _).trans ?_
    | split

theorem Room.fault_held (r : Room) (f : Field) : (Room.fault r f).held = r.held := by
  unfold Room.fault
  repeat' first
    | with_reducible rfl
    | with_reducible apply Room.held_ite
    | with_reducible refine (Room.on_held _ _).trans ?_
    | split

theorem Room.attemptFail_held (e : Env) (r : Room) : (Room.attemptFail e r).held = r.held := by
  unfold Room.attemptFail
  try dsimp only
  repeat' first
    | with_reducible rfl
    | with_reducible apply Room.held_ite
    | with_reducible refine (Room.put_held _ _ _).trans ?_
    | with_reducible refine (Room.on_held _ _).trans ?_
    | with_reducible refine (Room.off_held _ _).trans ?_
    | with_reducible refine (Room.onConv_held _ _).trans ?_
    | with_reducible refine (Room.held_mk _ _ _ _ _ _ _ _ _ _ _ _ _ _ _ _ _ _ _).trans ?_
    | with_reducible refine (Room.held_eta _).trans ?_
    | split

theorem Room.hardResetCause_held (e : Env) (r : Room) : (Room.hardResetCause e r).held = r.held := by
  unfold Room.hardResetCause
  repeat' first
    | with_reducible rfl
    | with_reducible apply Room.held_ite
    | with_reducible refine (Room.on_held _ _).trans ?_
    | with_reducible refine (Room.onPd_held _ _).trans ?_
    | with_reducible refine (Room.errorRecovery_held _ _).trans ?_
    | with_reducible refine (Room.held_mk _ _ _ _ _ _ _ _ _ _ _ _ _ _ _ _ _ _ _).trans ?_
    | with_reducible refine (Room.held_eta _).trans ?_
    | split

theorem Room.startHr_held (e : Env) (r : Room) : (Room.startHr e r).held = r.held := by
  unfold Room.startHr
  try dsimp only
  repeat' first
    | with_reducible rfl
    | with_reducible apply Room.held_ite
    | with_reducible refine (Room.on_held _ _).trans ?_
    | with_reducible refine (Room.off_held _ _).trans ?_
    | with_reducible refine (Room.onCc_held _ _).trans ?_
    | with_reducible refine (Room.onPd_held _ _).trans ?_
    | with_reducible refine (Room.onCon_held _ _).trans ?_
    | with_reducible refine (Room.txAbort_held _ _).trans ?_
    | with_reducible refine (Room.pdReset_held _).trans ?_
    | with_reducible refine (Room.errorRecovery_held _ _).trans ?_
    | with_reducible refine (Room.endResv_held _).trans ?_
    | with_reducible refine (Room.toStep_held _ _ _).trans ?_
    | with_reducible refine (Room.endExplicit_held _ _).trans ?_
    | with_reducible refine (Room.setGrant_held _ _).trans ?_
    | with_reducible refine (Room.refreshIlim_held _ _).trans ?_
    | with_reducible refine (Room.openSwitch_held _).trans ?_
    | with_reducible refine (Room.loopOff_held _).trans ?_
    | with_reducible refine (Room.refreshVlim_held _ _).trans ?_
    | with_reducible refine (Room.held_mk _ _ _ _ _ _ _ _ _ _ _ _ _ _ _ _ _ _ _).trans ?_
    | with_reducible refine (Room.held_eta _).trans ?_
    | split

theorem Room.lostResume_held (e : Env) (r : Room) : (Room.lostResume e r).held = r.held := by
  unfold Room.lostResume
  repeat' first
    | with_reducible rfl
    | with_reducible apply Room.held_ite
    | with_reducible refine (Room.onCc_held _ _).trans ?_
    | with_reducible refine (Room.held_mk _ _ _ _ _ _ _ _ _ _ _ _ _ _ _ _ _ _ _).trans ?_
    | with_reducible refine (Room.held_eta _).trans ?_
    | split

theorem Room.setVset_held (e : Env) (mv : Nat) (r : Room) : (Room.setVset e mv r).held = r.held := by
  unfold Room.setVset
  repeat' first
    | with_reducible rfl
    | with_reducible apply Room.held_ite
    | with_reducible refine (Room.put_held _ _ _).trans ?_
    | with_reducible refine (Room.refreshIlim_held _ _).trans ?_
    | split

theorem Room.rampTo_held (e : Env) (mv : Nat) (r : Room) : (Room.rampTo e mv r).held = r.held := by
  unfold Room.rampTo
  try dsimp only
  repeat' first
    | with_reducible rfl
    | with_reducible apply Room.held_ite
    | with_reducible refine (Room.off_held _ _).trans ?_
    | with_reducible refine (Room.onCon_held _ _).trans ?_
    | with_reducible refine (Room.setVset_held _ _ _).trans ?_
    | with_reducible refine (Room.slewRate_held _).trans ?_
    | with_reducible refine (Room.refreshRamp_held _ _ _).trans ?_
    | with_reducible refine (Room.toStep_held _ _ _).trans ?_
    | with_reducible refine (Room.held_mk _ _ _ _ _ _ _ _ _ _ _ _ _ _ _ _ _ _ _).trans ?_
    | with_reducible refine (Room.held_eta _).trans ?_
    | split

theorem Room.vsetRest_held (e : Env) (r : Room) : (Room.vsetRest e r).held = r.held := by
  unfold Room.vsetRest
  repeat' first
    | with_reducible rfl
    | with_reducible apply Room.held_ite
    | with_reducible refine (Room.rampTo_held _ _ _).trans ?_
    | with_reducible refine (Room.setVset_held _ _ _).trans ?_
    | split

theorem Room.sinkSwitch_held (e : Env) (r : Room) : (Room.sinkSwitch e r).held = r.held := by
  unfold Room.sinkSwitch
  repeat' first
    | with_reducible rfl
    | with_reducible apply Room.held_ite
    | with_reducible refine (Room.onConv_held _ _).trans ?_
    | with_reducible refine (Room.closeSwitch_held _ _).trans ?_
    | with_reducible refine (Room.openSwitch_held _).trans ?_
    | with_reducible refine (Room.loopOff_held _).trans ?_
    | with_reducible refine (Room.held_mk _ _ _ _ _ _ _ _ _ _ _ _ _ _ _ _ _ _ _).trans ?_
    | with_reducible refine (Room.held_eta _).trans ?_
    | split

theorem Room.endHr_held (e : Env) (r : Room) : (Room.endHr e r).held = r.held := by
  unfold Room.endHr
  repeat' first
    | with_reducible rfl
    | with_reducible apply Room.held_ite
    | with_reducible refine (Room.off_held _ _).trans ?_
    | with_reducible refine (Room.lostResume_held _ _).trans ?_
    | with_reducible refine (Room.vsetRest_held _ _).trans ?_
    | with_reducible refine (Room.sinkSwitch_held _ _).trans ?_
    | split

theorem Room.swapEnd_held (e : Env) (r : Room) : (Room.swapEnd e r).held = r.held := by
  unfold Room.swapEnd
  try dsimp only
  repeat' first
    | with_reducible rfl
    | with_reducible apply Room.held_ite
    | with_reducible refine (Room.on_held _ _).trans ?_
    | with_reducible refine (Room.off_held _ _).trans ?_
    | with_reducible refine (Room.onCon_held _ _).trans ?_
    | with_reducible refine (Room.lostResume_held _ _).trans ?_
    | with_reducible refine (Room.vsetRest_held _ _).trans ?_
    | with_reducible refine (Room.held_mk _ _ _ _ _ _ _ _ _ _ _ _ _ _ _ _ _ _ _).trans ?_
    | with_reducible refine (Room.held_eta _).trans ?_
    | split

theorem Room.swapDone_held (e : Env) (r : Room) : (Room.swapDone e r).held = r.held := by
  unfold Room.swapDone
  repeat' first
    | with_reducible rfl
    | with_reducible apply Room.held_ite
    | with_reducible refine (Room.swapEnd_held _ _).trans ?_
    | with_reducible refine (Room.endExplicit_held _ _).trans ?_
    | with_reducible refine (Room.vsetRest_held _ _).trans ?_
    | split

theorem Room.pdSilent_held (r : Room) : (Room.pdSilent r).held = r.held := by
  unfold Room.pdSilent
  repeat' first
    | with_reducible rfl
    | with_reducible apply Room.held_ite
    | with_reducible refine (Room.onPd_held _ _).trans ?_
    | with_reducible refine (Room.txAbort_held _ _).trans ?_
    | with_reducible refine (Room.held_mk _ _ _ _ _ _ _ _ _ _ _ _ _ _ _ _ _ _ _).trans ?_
    | with_reducible refine (Room.held_eta _).trans ?_
    | split

theorem Room.toShadow_held (e : Env) (r : Room) : (Room.toShadow e r).held = r.held := by
  unfold Room.toShadow
  repeat' first
    | with_reducible rfl
    | with_reducible apply Room.held_ite
    | with_reducible refine (Room.off_held _ _).trans ?_
    | with_reducible refine (Room.onCc_held _ _).trans ?_
    | with_reducible refine (Room.pdSilent_held _).trans ?_
    | with_reducible refine (Room.setLoop_held _ _).trans ?_
    | with_reducible refine (Room.terms_held _ _).trans ?_
    | with_reducible refine (Room.held_mk _ _ _ _ _ _ _ _ _ _ _ _ _ _ _ _ _ _ _).trans ?_
    | with_reducible refine (Room.held_eta _).trans ?_
    | split

theorem Room.cutTo_held (e : Env) (r : Room) (d : Nat) : (Room.cutTo e r d).held = r.held := by
  unfold Room.cutTo
  try dsimp only
  repeat' first
    | with_reducible rfl
    | with_reducible apply Room.held_ite
    | with_reducible refine (Room.put_held _ _ _).trans ?_
    | with_reducible refine (Room.onCon_held _ _).trans ?_
    | with_reducible refine (Room.setGrant_held _ _).trans ?_
    | with_reducible refine (Room.grantFell_held _ _).trans ?_
    | with_reducible refine (Room.refreshIlim_held _ _).trans ?_
    | with_reducible refine (Room.held_mk _ _ _ _ _ _ _ _ _ _ _ _ _ _ _ _ _ _ _).trans ?_
    | with_reducible refine (Room.held_eta _).trans ?_
    | split

theorem Room.transStart_held (e : Env) (r : Room) : (Room.transStart e r).held = r.held := by
  unfold Room.transStart
  try dsimp only
  repeat' first
    | with_reducible rfl
    | with_reducible apply Room.held_ite
    | with_reducible refine (Room.off_held _ _).trans ?_
    | with_reducible refine (Room.onCon_held _ _).trans ?_
    | with_reducible refine (Room.onConv_held _ _).trans ?_
    | with_reducible refine (Room.setGrant_held _ _).trans ?_
    | with_reducible refine (Room.endResv_held _).trans ?_
    | with_reducible refine (Room.toStep_held _ _ _).trans ?_
    | with_reducible refine (Room.refreshIlim_held _ _).trans ?_
    | with_reducible refine (Room.held_mk _ _ _ _ _ _ _ _ _ _ _ _ _ _ _ _ _ _ _).trans ?_
    | with_reducible refine (Room.held_eta _).trans ?_
    | split

theorem Room.afterTrans_held (e : Env) (r : Room) : (Room.afterTrans e r).held = r.held := by
  unfold Room.afterTrans
  try dsimp only
  repeat' first
    | with_reducible rfl
    | with_reducible apply Room.held_ite
    | with_reducible refine (Room.off_held _ _).trans ?_
    | with_reducible refine (Room.refreshIlim_held _ _).trans ?_
    | with_reducible refine (Room.grantFell_held _ _).trans ?_
    | with_reducible refine (Room.refreshVlim_held _ _).trans ?_
    | with_reducible refine (Room.vlimDrop_held _ _).trans ?_
    | split

theorem Room.transEnd_held (e : Env) (r : Room) : (Room.transEnd e r).held = r.held := by
  unfold Room.transEnd
  try dsimp only
  repeat' first
    | with_reducible rfl
    | with_reducible apply Room.held_ite
    | with_reducible refine (Room.put_held _ _ _).trans ?_
    | with_reducible refine (Room.on_held _ _).trans ?_
    | with_reducible refine (Room.off_held _ _).trans ?_
    | with_reducible refine (Room.onCc_held _ _).trans ?_
    | with_reducible refine (Room.onCon_held _ _).trans ?_
    | with_reducible refine (Room.setGrant_held _ _).trans ?_
    | with_reducible refine (Room.refreshIlim_held _ _).trans ?_
    | with_reducible refine (Room.afterTrans_held _ _).trans ?_
    | with_reducible refine (Room.held_mk _ _ _ _ _ _ _ _ _ _ _ _ _ _ _ _ _ _ _).trans ?_
    | with_reducible refine (Room.held_eta _).trans ?_
    | split

theorem Room.refReached_held (e : Env) (r : Room) : (Room.refReached e r).held = r.held := by
  unfold Room.refReached
  try dsimp only
  repeat' first
    | with_reducible rfl
    | with_reducible apply Room.held_ite
    | with_reducible refine (Room.onCon_held _ _).trans ?_
    | with_reducible refine (Room.refreshRamp_held _ _ _).trans ?_
    | with_reducible refine (Room.toStep_held _ _ _).trans ?_
    | with_reducible refine (Room.held_mk _ _ _ _ _ _ _ _ _ _ _ _ _ _ _ _ _ _ _).trans ?_
    | with_reducible refine (Room.held_eta _).trans ?_
    | split

theorem Room.keepVconn_held (r : Room) : (Room.keepVconn r).held = r.held := by
  unfold Room.keepVconn
  repeat' first
    | with_reducible rfl
    | with_reducible apply Room.held_ite
    | with_reducible refine (Room.on_held _ _).trans ?_
    | split

theorem Room.toSink_held (e : Env) (r : Room) : (Room.toSink e r).held = r.held := by
  unfold Room.toSink
  try dsimp only
  repeat' first
    | with_reducible rfl
    | with_reducible apply Room.held_ite
    | with_reducible refine (Room.onCc_held _ _).trans ?_
    | with_reducible refine (Room.onConv_held _ _).trans ?_
    | with_reducible refine (Room.keepVconn_held _).trans ?_
    | with_reducible refine (Room.loopOff_held _).trans ?_
    | with_reducible refine (Room.enterA_held _ _ _).trans ?_
    | with_reducible refine (Room.implicitVi_held _ _).trans ?_
    | with_reducible refine (Room.held_mk _ _ _ _ _ _ _ _ _ _ _ _ _ _ _ _ _ _ _).trans ?_
    | with_reducible refine (Room.held_eta _).trans ?_
    | split

theorem Room.toSource_held (e : Env) (r : Room) : (Room.toSource e r).held = r.held := by
  unfold Room.toSource
  try dsimp only
  repeat' first
    | with_reducible rfl
    | with_reducible apply Room.held_ite
    | with_reducible refine (Room.put_held _ _ _).trans ?_
    | with_reducible refine (Room.onCc_held _ _).trans ?_
    | with_reducible refine (Room.keepVconn_held _).trans ?_
    | with_reducible refine (Room.enterA_held _ _ _).trans ?_
    | with_reducible refine (Room.implicitVi_held _ _).trans ?_
    | with_reducible refine (Room.held_mk _ _ _ _ _ _ _ _ _ _ _ _ _ _ _ _ _ _ _).trans ?_
    | with_reducible refine (Room.held_eta _).trans ?_
    | split

theorem Room.swapForward_held (e : Env) (r : Room) : (Room.swapForward e r).held = r.held := by
  unfold Room.swapForward
  repeat' first
    | with_reducible rfl
    | with_reducible apply Room.held_ite
    | with_reducible refine (Room.onConv_held _ _).trans ?_
    | with_reducible refine (Room.loopStart_held _ _).trans ?_
    | with_reducible refine (Room.held_mk _ _ _ _ _ _ _ _ _ _ _ _ _ _ _ _ _ _ _).trans ?_
    | with_reducible refine (Room.held_eta _).trans ?_
    | split

theorem Room.hwAsk_held (e : Env) (w : Nat) (r : Room) : (Room.hwAsk e w r).held = r.held := by
  unfold Room.hwAsk
  repeat' first
    | with_reducible rfl
    | with_reducible apply Room.held_ite
    | with_reducible refine (Room.ask_held _ _ _ _).trans ?_
    | split

theorem Room.prSwapStart_held (e : Env) (r : Room) : (Room.prSwapStart e r).held = r.held := by
  unfold Room.prSwapStart
  try dsimp only
  repeat' first
    | with_reducible rfl
    | with_reducible apply Room.held_ite
    | with_reducible refine (Room.put_held _ _ _).trans ?_
    | with_reducible refine (Room.off_held _ _).trans ?_
    | with_reducible refine (Room.onCc_held _ _).trans ?_
    | with_reducible refine (Room.onCon_held _ _).trans ?_
    | with_reducible refine (Room.onConv_held _ _).trans ?_
    | with_reducible refine (Room.toStep_held _ _ _).trans ?_
    | with_reducible refine (Room.hwAsk_held _ _ _).trans ?_
    | with_reducible refine (Room.held_mk _ _ _ _ _ _ _ _ _ _ _ _ _ _ _ _ _ _ _).trans ?_
    | with_reducible refine (Room.held_eta _).trans ?_
    | split

theorem Room.vconnSwapStart_held (e : Env) (r : Room) : (Room.vconnSwapStart e r).held = r.held := by
  unfold Room.vconnSwapStart
  try dsimp only
  repeat' first
    | with_reducible rfl
    | with_reducible apply Room.held_ite
    | with_reducible refine (Room.put_held _ _ _).trans ?_
    | with_reducible refine (Room.onCon_held _ _).trans ?_
    | with_reducible refine (Room.toStep_held _ _ _).trans ?_
    | with_reducible refine (Room.held_mk _ _ _ _ _ _ _ _ _ _ _ _ _ _ _ _ _ _ _).trans ?_
    | with_reducible refine (Room.held_eta _).trans ?_
    | split

theorem Room.accepted_held (e : Env) (re : Nat) (r : Room) : (Room.accepted e re r).held = r.held := by
  unfold Room.accepted
  repeat' first
    | with_reducible rfl
    | split
    | with_reducible apply Room.held_ite
    | with_reducible refine (Room.transStart_held _ _).trans ?_
    | with_reducible refine (Room.prSwapStart_held _ _).trans ?_
    | with_reducible refine (Room.vconnSwapStart_held _ _).trans ?_
    | with_reducible refine (Room.held_mk _ _ _ _ _ _ _ _ _ _ _ _ _ _ _ _ _ _ _).trans ?_
    | with_reducible refine (Room.held_eta _).trans ?_

theorem Room.frsTrigger_held (e : Env) (r : Room) : (Room.frsTrigger e r).held = r.held := by
  unfold Room.frsTrigger
  try dsimp only
  repeat' first
    | with_reducible rfl
    | with_reducible apply Room.held_ite
    | with_reducible refine (Room.put_held _ _ _).trans ?_
    | with_reducible refine (Room.on_held _ _).trans ?_
    | with_reducible refine (Room.off_held _ _).trans ?_
    | with_reducible refine (Room.onCc_held _ _).trans ?_
    | with_reducible refine (Room.onCon_held _ _).trans ?_
    | with_reducible refine (Room.loopOff_held _).trans ?_
    | with_reducible refine (Room.midRail_held _).trans ?_
    | with_reducible refine (Room.toStep_held _ _ _).trans ?_
    | with_reducible refine (Room.held_mk _ _ _ _ _ _ _ _ _ _ _ _ _ _ _ _ _ _ _).trans ?_
    | with_reducible refine (Room.held_eta _).trans ?_
    | split

theorem Room.psRdySent_held (e : Env) (r : Room) : (Room.psRdySent e r).held = r.held := by
  unfold Room.psRdySent
  repeat' first
    | with_reducible rfl
    | split
    | with_reducible apply Room.held_ite
    | with_reducible refine (Room.onCon_held _ _).trans ?_
    | with_reducible refine (Room.toStep_held _ _ _).trans ?_
    | with_reducible refine (Room.swapDone_held _ _).trans ?_
    | with_reducible refine (Room.swapEnd_held _ _).trans ?_
    | with_reducible refine (Room.transEnd_held _ _).trans ?_
    | with_reducible refine (Room.held_mk _ _ _ _ _ _ _ _ _ _ _ _ _ _ _ _ _ _ _).trans ?_
    | with_reducible refine (Room.held_eta _).trans ?_

theorem Room.sinkDone_held (e : Env) (r : Room) : (Room.sinkDone e r).held = r.held := by
  unfold Room.sinkDone
  repeat' first
    | with_reducible rfl
    | with_reducible apply Room.held_ite
    | with_reducible refine (Room.swapDone_held _ _).trans ?_
    | with_reducible refine (Room.setGrant_held _ _).trans ?_
    | with_reducible refine (Room.refreshIlim_held _ _).trans ?_
    | split

theorem Room.psRdyReceived_held (e : Env) (r : Room) : (Room.psRdyReceived e r).held = r.held := by
  unfold Room.psRdyReceived
  try dsimp only
  repeat' first
    | with_reducible rfl
    | split
    | with_reducible apply Room.held_ite
    | with_reducible refine (Room.off_held _ _).trans ?_
    | with_reducible refine (Room.onCc_held _ _).trans ?_
    | with_reducible refine (Room.onCon_held _ _).trans ?_
    | with_reducible refine (Room.sinkDone_held _ _).trans ?_
    | with_reducible refine (Room.setGrant_held _ _).trans ?_
    | with_reducible refine (Room.endResv_held _).trans ?_
    | with_reducible refine (Room.errorRecovery_held _ _).trans ?_
    | with_reducible refine (Room.toSource_held _ _).trans ?_
    | with_reducible refine (Room.swapForward_held _ _).trans ?_
    | with_reducible refine (Room.toStep_held _ _ _).trans ?_
    | with_reducible refine (Room.vconn_held _ _).trans ?_
    | with_reducible refine (Room.swapEnd_held _ _).trans ?_
    | with_reducible refine (Room.transEnd_held _ _).trans ?_
    | with_reducible refine (Room.held_mk _ _ _ _ _ _ _ _ _ _ _ _ _ _ _ _ _ _ _).trans ?_
    | with_reducible refine (Room.held_eta _).trans ?_

theorem Room.putE48_held (r : Room) (off : Nat) (v : Nat) : (Room.putE48 r off v).held = r.held := by
  unfold Room.putE48
  repeat' first
    | with_reducible rfl
    | with_reducible apply Room.held_ite
    | with_reducible refine (Room.held_mk _ _ _ _ _ _ _ _ _ _ _ _ _ _ _ _ _ _ _).trans ?_
    | with_reducible refine (Room.held_eta _).trans ?_
    | split

theorem Room.addEnergy_held (q : Int) (r : Room) : (Room.addEnergy q r).held = r.held := by
  unfold Room.addEnergy
  try dsimp only
  repeat' first
    | with_reducible rfl
    | with_reducible apply Room.held_ite
    | with_reducible refine (Room.putE48_held _ _ _).trans ?_
    | with_reducible refine (Room.held_mk _ _ _ _ _ _ _ _ _ _ _ _ _ _ _ _ _ _ _).trans ?_
    | with_reducible refine (Room.held_eta _).trans ?_
    | split

theorem Room.attachSrc_held (e : Env) (rp : Nat) (r : Room) : (Room.attachSrc e rp r).held = r.held := by
  unfold Room.attachSrc
  try dsimp only
  repeat' first
    | with_reducible rfl
    | with_reducible apply Room.held_ite
    | with_reducible refine (Room.put_held _ _ _).trans ?_
    | with_reducible refine (Room.on_held _ _).trans ?_
    | with_reducible refine (Room.putB_held _ _ _).trans ?_
    | with_reducible refine (Room.onCc_held _ _).trans ?_
    | with_reducible refine (Room.onPd_held _ _).trans ?_
    | with_reducible refine (Room.enterA_held _ _ _).trans ?_
    | with_reducible refine (Room.implicitVi_held _ _).trans ?_
    | with_reducible refine (Room.refreshVlim_held _ _).trans ?_
    | with_reducible refine (Room.closeSwitch_held _ _).trans ?_
    | with_reducible refine (Room.loopStart_held _ _).trans ?_
    | with_reducible refine (Room.held_mk _ _ _ _ _ _ _ _ _ _ _ _ _ _ _ _ _ _ _).trans ?_
    | with_reducible refine (Room.held_eta _).trans ?_
    | split

theorem Room.attachSnk_held (e : Env) (r : Room) : (Room.attachSnk e r).held = r.held := by
  unfold Room.attachSnk
  try dsimp only
  repeat' first
    | with_reducible rfl
    | with_reducible apply Room.held_ite
    | with_reducible refine (Room.on_held _ _).trans ?_
    | with_reducible refine (Room.off_held _ _).trans ?_
    | with_reducible refine (Room.putB_held _ _ _).trans ?_
    | with_reducible refine (Room.onCc_held _ _).trans ?_
    | with_reducible refine (Room.onPd_held _ _).trans ?_
    | with_reducible refine (Room.onConv_held _ _).trans ?_
    | with_reducible refine (Room.enterA_held _ _ _).trans ?_
    | with_reducible refine (Room.implicitVi_held _ _).trans ?_
    | with_reducible refine (Room.refreshVlim_held _ _).trans ?_
    | with_reducible refine (Room.closeSwitch_held _ _).trans ?_
    | with_reducible refine (Room.held_mk _ _ _ _ _ _ _ _ _ _ _ _ _ _ _ _ _ _ _).trans ?_
    | with_reducible refine (Room.held_eta _).trans ?_
    | split

theorem Room.takeExit_held (e : Env) (x : Exit) (r : Room) : (Room.takeExit e x r).held = r.held := by
  unfold Room.takeExit
  try dsimp only
  repeat' first
    | with_reducible rfl
    | split
    | with_reducible apply Room.held_ite
    | with_reducible refine (Room.on_held _ _).trans ?_
    | with_reducible refine (Room.onCc_held _ _).trans ?_
    | with_reducible refine (Room.enterA_held _ _ _).trans ?_
    | with_reducible refine (Room.attachSnk_held _ _).trans ?_
    | with_reducible refine (Room.ask_held _ _ _ _).trans ?_
    | with_reducible refine (Room.detach_held _ _).trans ?_
    | with_reducible refine (Room.held_mk _ _ _ _ _ _ _ _ _ _ _ _ _ _ _ _ _ _ _).trans ?_
    | with_reducible refine (Room.held_eta _).trans ?_

theorem Room.enable_held (e : Env) (r : Room) : (Room.enable e r).held = r.held := by
  unfold Room.enable
  try dsimp only
  repeat' first
    | with_reducible rfl
    | with_reducible apply Room.held_ite
    | with_reducible refine (Room.on_held _ _).trans ?_
    | with_reducible refine (Room.enterA_held _ _ _).trans ?_
    | split

theorem Room.disable_held (e : Env) (r : Room) : (Room.disable e r).held = r.held := by
  unfold Room.disable
  try dsimp only
  repeat' first
    | with_reducible rfl
    | with_reducible apply Room.held_ite
    | with_reducible refine (Room.off_held _ _).trans ?_
    | with_reducible refine (Room.pdClear_held _ _).trans ?_
    | with_reducible refine (Room.setGrant_held _ _).trans ?_
    | with_reducible refine (Room.startRemoval_held _ _).trans ?_
    | with_reducible refine (Room.openSwitch_held _).trans ?_
    | with_reducible refine (Room.loopOff_held _).trans ?_
    | with_reducible refine (Room.enterA_held _ _ _).trans ?_
    | with_reducible refine (Room.conClear_held _ _).trans ?_
    | split

theorem Room.newLevels_held (e : Env) (l1 : Nat) (l2 : Nat) (r : Room) : (Room.newLevels e l1 l2 r).held = r.held := by
  unfold Room.newLevels
  try dsimp only
  repeat' first
    | with_reducible rfl
    | with_reducible apply Room.held_ite
    | with_reducible refine (Room.put_held _ _ _).trans ?_
    | with_reducible refine (Room.onCc_held _ _).trans ?_
    | with_reducible refine (Room.audioOff_held _).trans ?_
    | with_reducible refine (Room.refreshPartner_held _).trans ?_
    | with_reducible refine (Room.implicitVi_held _ _).trans ?_
    | with_reducible refine (Room.held_mk _ _ _ _ _ _ _ _ _ _ _ _ _ _ _ _ _ _ _).trans ?_
    | with_reducible refine (Room.held_eta _).trans ?_
    | split

theorem Room.seenLevels_held (e : Env) (l1 : Nat) (l2 : Nat) (r : Room) : (Room.seenLevels e l1 l2 r).held = r.held := by
  unfold Room.seenLevels
  try dsimp only
  repeat' first
    | with_reducible rfl
    | with_reducible apply Room.held_ite
    | with_reducible refine (Room.put_held _ _ _).trans ?_
    | with_reducible refine (Room.onCc_held _ _).trans ?_
    | with_reducible refine (Room.shadowRp_held _).trans ?_
    | with_reducible refine (Room.held_mk _ _ _ _ _ _ _ _ _ _ _ _ _ _ _ _ _ _ _).trans ?_
    | with_reducible refine (Room.held_eta _).trans ?_
    | split

theorem Room.attachAnswer_held (e : Env) (w : Nat) (r : Room) : (Room.attachAnswer e w r).held = r.held := by
  unfold Room.attachAnswer
  try dsimp only
  repeat' first
    | with_reducible rfl
    | with_reducible apply Room.held_ite
    | with_reducible refine (Room.on_held _ _).trans ?_
    | with_reducible refine (Room.onCc_held _ _).trans ?_
    | with_reducible refine (Room.setGrant_held _ _).trans ?_
    | with_reducible refine (Room.attachSrc_held _ _ _).trans ?_
    | with_reducible refine (Room.held_mk _ _ _ _ _ _ _ _ _ _ _ _ _ _ _ _ _ _ _).trans ?_
    | with_reducible refine (Room.held_eta _).trans ?_
    | split

theorem Room.newVbus_held (e : Env) (mv : Nat) (r : Room) : (Room.newVbus e mv r).held = r.held := by
  unfold Room.newVbus
  try dsimp only
  repeat' first
    | with_reducible rfl
    | with_reducible apply Room.held_ite
    | with_reducible refine (Room.putB_held _ _ _).trans ?_
    | with_reducible refine (Room.onCc_held _ _).trans ?_
    | with_reducible refine (Room.held_mk _ _ _ _ _ _ _ _ _ _ _ _ _ _ _ _ _ _ _).trans ?_
    | with_reducible refine (Room.held_eta _).trans ?_
    | split

theorem Room.writeVconnEn_held (e : Env) (en : Bool) (r : Room) : (Room.writeVconnEn e en r).held = r.held := by
  unfold Room.writeVconnEn
  repeat' first
    | with_reducible rfl
    | with_reducible apply Room.held_ite
    | with_reducible refine (Room.on_held _ _).trans ?_
    | with_reducible refine (Room.off_held _ _).trans ?_
    | with_reducible refine (Room.putB_held _ _ _).trans ?_
    | with_reducible refine (Room.vconn_held _ _).trans ?_
    | split

theorem Room.ccOver_held (now : Nat) (cc2 : Bool) (above : Bool) (r : Room) : (Room.ccOver now cc2 above r).held = r.held := by
  unfold Room.ccOver
  try dsimp only
  repeat' first
    | with_reducible rfl
    | with_reducible apply Room.held_ite
    | with_reducible refine (Room.putB_held _ _ _).trans ?_
    | with_reducible refine (Room.onCc_held _ _).trans ?_
    | with_reducible refine (Room.held_mk _ _ _ _ _ _ _ _ _ _ _ _ _ _ _ _ _ _ _).trans ?_
    | with_reducible refine (Room.held_eta _).trans ?_
    | split

theorem Room.frsAnswer_held (e : Env) (r : Room) : (Room.frsAnswer e r).held = r.held := by
  unfold Room.frsAnswer
  try dsimp only
  repeat' first
    | with_reducible rfl
    | with_reducible apply Room.held_ite
    | with_reducible refine (Room.onPd_held _ _).trans ?_
    | with_reducible refine (Room.onCon_held _ _).trans ?_
    | with_reducible refine (Room.setGrant_held _ _).trans ?_
    | with_reducible refine (Room.endResv_held _).trans ?_
    | with_reducible refine (Room.toStep_held _ _ _).trans ?_
    | with_reducible refine (Room.refreshIlim_held _ _).trans ?_
    | with_reducible refine (Room.lostResume_held _ _).trans ?_
    | with_reducible refine (Room.held_mk _ _ _ _ _ _ _ _ _ _ _ _ _ _ _ _ _ _ _).trans ?_
    | with_reducible refine (Room.held_eta _).trans ?_
    | split

theorem Room.writeVset_held (e : Env) (mv : Nat) (r : Room) : (Room.writeVset e mv r).held = r.held := by
  unfold Room.writeVset
  try dsimp only
  repeat' first
    | with_reducible rfl
    | with_reducible apply Room.held_ite
    | with_reducible refine (Room.rampTo_held _ _ _).trans ?_
    | with_reducible refine (Room.refReached_held _ _).trans ?_
    | with_reducible refine (Room.setVset_held _ _ _).trans ?_
    | split

theorem Room.applyMode_held (e : Env) (m : Nat) (epoch : Nat) (r : Room) : (Room.applyMode e m epoch r).held = r.held := by
  unfold Room.applyMode
  try dsimp only
  repeat' first
    | with_reducible rfl
    | with_reducible apply Room.held_ite
    | with_reducible refine (Room.put_held _ _ _).trans ?_
    | with_reducible refine (Room.on_held _ _).trans ?_
    | with_reducible refine (Room.onCon_held _ _).trans ?_
    | with_reducible refine (Room.shed_held _ _).trans ?_
    | with_reducible refine (Room.refreshIlim_held _ _).trans ?_
    | with_reducible refine (Room.held_mk _ _ _ _ _ _ _ _ _ _ _ _ _ _ _ _ _ _ _).trans ?_
    | with_reducible refine (Room.held_eta _).trans ?_
    | split

theorem Room.fallBack_held (e : Env) (r : Room) : (Room.fallBack e r).held = r.held := by
  unfold Room.fallBack
  try dsimp only
  repeat' first
    | with_reducible rfl
    | with_reducible apply Room.held_ite
    | with_reducible refine (Room.onCon_held _ _).trans ?_
    | with_reducible refine (Room.hardResetCause_held _ _).trans ?_
    | with_reducible refine (Room.refreshIlim_held _ _).trans ?_
    | with_reducible refine (Room.held_mk _ _ _ _ _ _ _ _ _ _ _ _ _ _ _ _ _ _ _).trans ?_
    | with_reducible refine (Room.held_eta _).trans ?_
    | split

theorem Room.say_held (m : TxMsg) (r : Room) : (Room.say m r).held = r.held := by
  unfold Room.say
  repeat' first
    | with_reducible rfl
    | with_reducible apply Room.held_ite
    | with_reducible refine (Room.onPd_held _ _).trans ?_
    | with_reducible refine (Room.held_mk _ _ _ _ _ _ _ _ _ _ _ _ _ _ _ _ _ _ _).trans ?_
    | with_reducible refine (Room.held_eta _).trans ?_
    | split

theorem Room.setRev_held (k : Pkt) (r : Room) : (Room.setRev k r).held = r.held := by
  unfold Room.setRev
  try dsimp only
  repeat' first
    | with_reducible rfl
    | with_reducible apply Room.held_ite
    | with_reducible refine (Room.put_held _ _ _).trans ?_
    | with_reducible refine (Room.on_held _ _).trans ?_
    | split

theorem Room.showRx_held (r : Room) : (Room.showRx r).held = r.held := by
  unfold Room.showRx
  try dsimp only
  repeat' first
    | with_reducible rfl
    | split
    | with_reducible apply Room.held_ite
    | with_reducible refine (Room.put_held _ _ _).trans ?_
    | with_reducible refine (Room.on_held _ _).trans ?_
    | with_reducible refine (Room.putB_held _ _ _).trans ?_
    | with_reducible refine (Room.clearRx_held _).trans ?_
    | with_reducible refine (Room.held_mk _ _ _ _ _ _ _ _ _ _ _ _ _ _ _ _ _ _ _).trans ?_
    | with_reducible refine (Room.held_eta _).trans ?_

theorem Room.enqueue_held (k : Pkt) (data : List Byte) (r : Room) : (Room.enqueue k data r).held = r.held := by
  unfold Room.enqueue
  try dsimp only
  repeat' first
    | with_reducible rfl
    | with_reducible apply Room.held_ite
    | with_reducible refine (Room.on_held _ _).trans ?_
    | with_reducible refine (Room.onPd_held _ _).trans ?_
    | with_reducible refine (Room.showRx_held _).trans ?_
    | with_reducible refine (Room.held_mk _ _ _ _ _ _ _ _ _ _ _ _ _ _ _ _ _ _ _).trans ?_
    | with_reducible refine (Room.held_eta _).trans ?_
    | split

theorem Room.count_held (f : Field) (r : Room) : (Room.count f r).held = r.held := by
  unfold Room.count
  repeat' first
    | with_reducible rfl
    | with_reducible apply Room.held_ite
    | with_reducible refine (Room.put_held _ _ _).trans ?_
    | split

theorem Room.noChunks_held (r : Room) : (Room.noChunks r).held = r.held := by
  unfold Room.noChunks
  repeat' first
    | with_reducible rfl
    | with_reducible apply Room.held_ite
    | with_reducible refine (Room.onPd_held _ _).trans ?_
    | with_reducible refine (Room.held_mk _ _ _ _ _ _ _ _ _ _ _ _ _ _ _ _ _ _ _).trans ?_
    | with_reducible refine (Room.held_eta _).trans ?_
    | split

theorem Room.dropPartial_held (r : Room) : (Room.dropPartial r).held = r.held := by
  unfold Room.dropPartial
  repeat' first
    | with_reducible rfl
    | with_reducible apply Room.held_ite
    | with_reducible refine (Room.on_held _ _).trans ?_
    | with_reducible refine (Room.onPd_held _ _).trans ?_
    | with_reducible refine (Room.held_mk _ _ _ _ _ _ _ _ _ _ _ _ _ _ _ _ _ _ _).trans ?_
    | with_reducible refine (Room.held_eta _).trans ?_
    | split

theorem Room.heard_held (e : Env) (sop : Nat) (r : Room) : (Room.heard e sop r).held = r.held := by
  unfold Room.heard
  repeat' first
    | with_reducible rfl
    | with_reducible apply Room.held_ite
    | with_reducible refine (Room.onPd_held _ _).trans ?_
    | with_reducible refine (Room.held_mk _ _ _ _ _ _ _ _ _ _ _ _ _ _ _ _ _ _ _).trans ?_
    | with_reducible refine (Room.held_eta _).trans ?_
    | split

theorem Room.discard_held (e : Env) (f : Field) (r : Room) : (Room.discard e f r).held = r.held := by
  unfold Room.discard
  repeat' first
    | with_reducible rfl
    | with_reducible apply Room.held_ite
    | with_reducible refine (Room.onPd_held _ _).trans ?_
    | with_reducible refine (Room.count_held _ _).trans ?_
    | with_reducible refine (Room.held_mk _ _ _ _ _ _ _ _ _ _ _ _ _ _ _ _ _ _ _).trans ?_
    | with_reducible refine (Room.held_eta _).trans ?_
    | split

theorem Room.receive_held (e : Env) (k : Pkt) (r : Room) : (Room.receive e k r).held = r.held := by
  unfold Room.receive
  try dsimp only
  repeat' first
    | with_reducible rfl
    | split
    | with_reducible apply Room.held_ite
    | with_reducible refine (Room.on_held _ _).trans ?_
    | with_reducible refine (Room.onPd_held _ _).trans ?_
    | with_reducible refine (Room.count_held _ _).trans ?_
    | with_reducible refine (Room.held_mk _ _ _ _ _ _ _ _ _ _ _ _ _ _ _ _ _ _ _).trans ?_
    | with_reducible refine (Room.held_eta _).trans ?_

theorem Room.holdTx_held (r : Room) : (Room.holdTx r).held = r.held := by
  unfold Room.holdTx
  try dsimp only
  repeat' first
    | with_reducible rfl
    | with_reducible apply Room.held_ite
    | with_reducible refine (Room.put_held _ _ _).trans ?_
    | with_reducible refine (Room.on_held _ _).trans ?_
    | split

theorem Room.txLost_held (code : Nat) (r : Room) : (Room.txLost code r).held = r.held := by
  unfold Room.txLost
  try dsimp only
  repeat' first
    | with_reducible rfl
    | with_reducible apply Room.held_ite
    | with_reducible refine (Room.onPd_held _ _).trans ?_
    | with_reducible refine (Room.txEnd_held _ _).trans ?_
    | with_reducible refine (Room.endResv_held _).trans ?_
    | with_reducible refine (Room.held_mk _ _ _ _ _ _ _ _ _ _ _ _ _ _ _ _ _ _ _).trans ?_
    | with_reducible refine (Room.held_eta _).trans ?_
    | split

theorem Room.softClear_held (id : Option Nat) (r : Room) : (Room.softClear id r).held = r.held := by
  unfold Room.softClear
  try dsimp only
  repeat' first
    | with_reducible rfl
    | with_reducible apply Room.held_ite
    | with_reducible refine (Room.onPd_held _ _).trans ?_
    | with_reducible refine (Room.noChunks_held _).trans ?_
    | with_reducible refine (Room.txLost_held _ _).trans ?_
    | with_reducible refine (Room.held_mk _ _ _ _ _ _ _ _ _ _ _ _ _ _ _ _ _ _ _).trans ?_
    | with_reducible refine (Room.held_eta _).trans ?_
    | split

theorem Room.softReset_held (e : Env) (k : Pkt) (r : Room) : (Room.softReset e k r).held = r.held := by
  unfold Room.softReset
  try dsimp only
  repeat' first
    | with_reducible rfl
    | with_reducible apply Room.held_ite
    | with_reducible refine (Room.on_held _ _).trans ?_
    | with_reducible refine (Room.softClear_held _ _).trans ?_
    | with_reducible refine (Room.sinkTxOk_held _ _).trans ?_
    | with_reducible refine (Room.txLost_held _ _).trans ?_
    | with_reducible refine (Room.say_held _ _).trans ?_
    | with_reducible refine (Room.enqueue_held _ _ _).trans ?_
    | with_reducible refine (Room.held_mk _ _ _ _ _ _ _ _ _ _ _ _ _ _ _ _ _ _ _).trans ?_
    | with_reducible refine (Room.held_eta _).trans ?_
    | split

theorem Room.bistRx_held (e : Env) (k : Pkt) (r : Room) : (Room.bistRx e k r).held = r.held := by
  unfold Room.bistRx
  repeat' first
    | with_reducible rfl
    | split
    | with_reducible apply Room.held_ite
    | with_reducible refine (Room.on_held _ _).trans ?_
    | with_reducible refine (Room.onPd_held _ _).trans ?_
    | with_reducible refine (Room.held_mk _ _ _ _ _ _ _ _ _ _ _ _ _ _ _ _ _ _ _).trans ?_
    | with_reducible refine (Room.held_eta _).trans ?_

theorem Room.eprMode_held (e : Env) (k : Pkt) (r : Room) : (Room.eprMode e k r).held = r.held := by
  unfold Room.eprMode
  repeat' first
    | with_reducible rfl
    | split
    | with_reducible apply Room.held_ite
    | with_reducible refine (Room.on_held _ _).trans ?_
    | with_reducible refine (Room.off_held _ _).trans ?_
    | with_reducible refine (Room.refreshVlim_held _ _).trans ?_
    | with_reducible refine (Room.held_mk _ _ _ _ _ _ _ _ _ _ _ _ _ _ _ _ _ _ _).trans ?_
    | with_reducible refine (Room.held_eta _).trans ?_

theorem Room.answered_held (e : Env) (av : Nat) (k : Pkt) (r : Room) : (Room.answered e av k r).held = r.held := by
  unfold Room.answered
  try dsimp only
  repeat' first
    | with_reducible rfl
    | split
    | with_reducible apply Room.held_ite
    | with_reducible refine (Room.onPd_held _ _).trans ?_
    | with_reducible refine (Room.onCon_held _ _).trans ?_
    | with_reducible refine (Room.accepted_held _ _ _).trans ?_
    | with_reducible refine (Room.hardResetCause_held _ _).trans ?_
    | with_reducible refine (Room.toStep_held _ _ _).trans ?_
    | with_reducible refine (Room.held_mk _ _ _ _ _ _ _ _ _ _ _ _ _ _ _ _ _ _ _).trans ?_
    | with_reducible refine (Room.held_eta _).trans ?_

theorem Room.coreEffects_held (e : Env) (av : Nat) (k : Pkt) (r : Room) : (Room.coreEffects e av k r).held = r.held := by
  unfold Room.coreEffects
  repeat' first
    | with_reducible rfl
    | with_reducible apply Room.held_ite
    | with_reducible refine (Room.answered_held _ _ _ _).trans ?_
    | with_reducible refine (Room.psRdyReceived_held _ _).trans ?_
    | with_reducible refine (Room.eprMode_held _ _ _).trans ?_
    | split

theorem Room.toCore_held (e : Env) (av : Nat) (k : Pkt) (data : List Byte) (r : Room) : (Room.toCore e av k data r).held = r.held := by
  unfold Room.toCore
  try dsimp only
  repeat' first
    | with_reducible rfl
    | with_reducible apply Room.held_ite
    | with_reducible refine (Room.onPd_held _ _).trans ?_
    | with_reducible refine (Room.enqueue_held _ _ _).trans ?_
    | with_reducible refine (Room.coreEffects_held _ _ _ _).trans ?_
    | with_reducible refine (Room.held_mk _ _ _ _ _ _ _ _ _ _ _ _ _ _ _ _ _ _ _).trans ?_
    | with_reducible refine (Room.held_eta _).trans ?_
    | split

theorem Room.chunkRequest_held (k : Pkt) (r : Room) : (Room.chunkRequest k r).held = r.held := by
  unfold Room.chunkRequest
  repeat' first
    | with_reducible rfl
    | split
    | with_reducible apply Room.held_ite
    | with_reducible refine (Room.on_held _ _).trans ?_
    | with_reducible refine (Room.onPd_held _ _).trans ?_
    | with_reducible refine (Room.txEnd_held _ _).trans ?_
    | with_reducible refine (Room.held_mk _ _ _ _ _ _ _ _ _ _ _ _ _ _ _ _ _ _ _).trans ?_
    | with_reducible refine (Room.held_eta _).trans ?_

theorem Room.cableReset_held (e : Env) (r : Room) : (Room.cableReset e r).held = r.held := by
  unfold Room.cableReset
  try dsimp only
  repeat' first
    | with_reducible rfl
    | with_reducible apply Room.held_ite
    | with_reducible refine (Room.off_held _ _).trans ?_
    | with_reducible refine (Room.onPd_held _ _).trans ?_
    | with_reducible refine (Room.refreshCable_held _ _).trans ?_
    | with_reducible refine (Room.held_mk _ _ _ _ _ _ _ _ _ _ _ _ _ _ _ _ _ _ _).trans ?_
    | with_reducible refine (Room.held_eta _).trans ?_
    | split

theorem Room.cableDue_held (e : Env) (r : Room) : (Room.cableDue e r).held = r.held := by
  unfold Room.cableDue
  repeat' first
    | with_reducible rfl
    | with_reducible apply Room.held_ite
    | with_reducible refine (Room.onPd_held _ _).trans ?_
    | with_reducible refine (Room.cableReset_held _ _).trans ?_
    | with_reducible refine (Room.held_mk _ _ _ _ _ _ _ _ _ _ _ _ _ _ _ _ _ _ _).trans ?_
    | with_reducible refine (Room.held_eta _).trans ?_
    | split

theorem Room.cableAnswer_held (e : Env) (k : Pkt) (r : Room) : (Room.cableAnswer e k r).held = r.held := by
  unfold Room.cableAnswer
  try dsimp only
  repeat' first
    | with_reducible rfl
    | split
    | with_reducible apply Room.held_ite
    | with_reducible refine (Room.put_held _ _ _).trans ?_
    | with_reducible refine (Room.on_held _ _).trans ?_
    | with_reducible refine (Room.onPd_held _ _).trans ?_
    | with_reducible refine (Room.refreshCable_held _ _).trans ?_
    | with_reducible refine (Room.held_mk _ _ _ _ _ _ _ _ _ _ _ _ _ _ _ _ _ _ _).trans ?_
    | with_reducible refine (Room.held_eta _).trans ?_

theorem Room.begin_held (m : TxMsg) (r : Room) : (Room.begin m r).held = r.held := by
  unfold Room.begin
  try dsimp only
  repeat' first
    | with_reducible rfl
    | with_reducible apply Room.held_ite
    | with_reducible refine (Room.put_held _ _ _).trans ?_
    | with_reducible refine (Room.onPd_held _ _).trans ?_
    | with_reducible refine (Room.softReset_held _ _ _).trans ?_
    | with_reducible refine (Room.softClear_held _ _).trans ?_
    | with_reducible refine (Room.held_mk _ _ _ _ _ _ _ _ _ _ _ _ _ _ _ _ _ _ _).trans ?_
    | with_reducible refine (Room.held_eta _).trans ?_
    | split

theorem Room.beginAuto_held (m : TxMsg) (r : Room) : (Room.beginAuto m r).held = r.held := by
  unfold Room.beginAuto
  repeat' first
    | with_reducible rfl
    | with_reducible apply Room.held_ite
    | with_reducible refine (Room.onPd_held _ _).trans ?_
    | with_reducible refine (Room.begin_held _ _).trans ?_
    | with_reducible refine (Room.held_mk _ _ _ _ _ _ _ _ _ _ _ _ _ _ _ _ _ _ _).trans ?_
    | with_reducible refine (Room.held_eta _).trans ?_
    | split

theorem Room.followVdm_held (e : Env) (r : Room) : (Room.followVdm e r).held = r.held := by
  unfold Room.followVdm
  repeat' first
    | with_reducible rfl
    | with_reducible apply Room.held_ite
    | with_reducible refine (Room.sinkTxNg_held _ _).trans ?_
    | split

theorem Room.startTx_held (e : Env) (r : Room) : (Room.startTx e r).held = r.held := by
  unfold Room.startTx
  try dsimp only
  repeat' first
    | with_reducible rfl
    | split
    | with_reducible apply Room.held_ite
    | with_reducible refine (Room.followRp_held _).trans ?_
    | with_reducible refine (Room.followVdm_held _ _).trans ?_
    | with_reducible refine (Room.beginAuto_held _ _).trans ?_
    | with_reducible refine (Room.begin_held _ _).trans ?_
    | with_reducible refine (Room.held_mk _ _ _ _ _ _ _ _ _ _ _ _ _ _ _ _ _ _ _).trans ?_
    | with_reducible refine (Room.held_eta _).trans ?_

theorem Room.startAuto_held (e : Env) (kind : TxKind) (r : Room) : (Room.startAuto e kind r).held = r.held := by
  unfold Room.startAuto
  repeat' first
    | with_reducible rfl
    | split
    | with_reducible apply Room.held_ite
    | with_reducible refine (Room.beginAuto_held _ _).trans ?_
    | with_reducible refine (Room.held_mk _ _ _ _ _ _ _ _ _ _ _ _ _ _ _ _ _ _ _).trans ?_
    | with_reducible refine (Room.held_eta _).trans ?_

theorem Room.queueTx_held (e : Env) (m : TxMsg) (r : Room) : (Room.queueTx e m r).held = r.held := by
  unfold Room.queueTx
  try dsimp only
  repeat' first
    | with_reducible rfl
    | with_reducible apply Room.held_ite
    | with_reducible refine (Room.put_held _ _ _).trans ?_
    | with_reducible refine (Room.sinkTxNg_held _ _).trans ?_
    | split

theorem Room.coreSent_held (e : Env) (m : TxMsg) (r : Room) : (Room.coreSent e m r).held = r.held := by
  unfold Room.coreSent
  try dsimp only
  repeat' first
    | with_reducible rfl
    | with_reducible apply Room.held_ite
    | with_reducible refine (Room.onPd_held _ _).trans ?_
    | with_reducible refine (Room.accepted_held _ _ _).trans ?_
    | with_reducible refine (Room.psRdySent_held _ _).trans ?_
    | with_reducible refine (Room.softReset_held _ _ _).trans ?_
    | with_reducible refine (Room.eprMode_held _ _ _).trans ?_
    | with_reducible refine (Room.held_mk _ _ _ _ _ _ _ _ _ _ _ _ _ _ _ _ _ _ _).trans ?_
    | with_reducible refine (Room.held_eta _).trans ?_
    | split

theorem Room.replySent_held (e : Env) (m : TxMsg) (r : Room) : (Room.replySent e m r).held = r.held := by
  unfold Room.replySent
  repeat' first
    | with_reducible rfl
    | split
    | with_reducible apply Room.held_ite
    | with_reducible refine (Room.put_held _ _ _).trans ?_
    | with_reducible refine (Room.onCon_held _ _).trans ?_
    | with_reducible refine (Room.toSink_held _ _).trans ?_
    | with_reducible refine (Room.toStep_held _ _ _).trans ?_
    | with_reducible refine (Room.held_mk _ _ _ _ _ _ _ _ _ _ _ _ _ _ _ _ _ _ _).trans ?_
    | with_reducible refine (Room.held_eta _).trans ?_

theorem Room.acked_held (e : Env) (a : Air) (r : Room) : (Room.acked e a r).held = r.held := by
  unfold Room.acked
  try dsimp only
  repeat' first
    | with_reducible rfl
    | split
    | with_reducible apply Room.held_ite
    | with_reducible refine (Room.put_held _ _ _).trans ?_
    | with_reducible refine (Room.on_held _ _).trans ?_
    | with_reducible refine (Room.onPd_held _ _).trans ?_
    | with_reducible refine (Room.txEnd_held _ _).trans ?_
    | with_reducible refine (Room.coreSent_held _ _ _).trans ?_
    | with_reducible refine (Room.replySent_held _ _ _).trans ?_
    | with_reducible refine (Room.softReset_held _ _ _).trans ?_
    | with_reducible refine (Room.held_mk _ _ _ _ _ _ _ _ _ _ _ _ _ _ _ _ _ _ _).trans ?_
    | with_reducible refine (Room.held_eta _).trans ?_

theorem Room.autoSoftReset_held (m : TxMsg) (r : Room) : (Room.autoSoftReset m r).held = r.held := by
  unfold Room.autoSoftReset
  repeat' first
    | with_reducible rfl
    | with_reducible apply Room.held_ite
    | with_reducible refine (Room.say_held _ _).trans ?_
    | with_reducible refine (Room.softReset_held _ _ _).trans ?_
    | split

theorem Room.failed_held (e : Env) (m : TxMsg) (r : Room) : (Room.failed e m r).held = r.held := by
  unfold Room.failed
  try dsimp only
  repeat' first
    | with_reducible rfl
    | split
    | with_reducible apply Room.held_ite
    | with_reducible refine (Room.put_held _ _ _).trans ?_
    | with_reducible refine (Room.on_held _ _).trans ?_
    | with_reducible refine (Room.onPd_held _ _).trans ?_
    | with_reducible refine (Room.softReset_held _ _ _).trans ?_
    | with_reducible refine (Room.txLost_held _ _).trans ?_
    | with_reducible refine (Room.hardResetCause_held _ _).trans ?_
    | with_reducible refine (Room.autoSoftReset_held _ _).trans ?_
    | with_reducible refine (Room.dropPartial_held _).trans ?_
    | with_reducible refine (Room.held_mk _ _ _ _ _ _ _ _ _ _ _ _ _ _ _ _ _ _ _).trans ?_
    | with_reducible refine (Room.held_eta _).trans ?_

theorem Room.takeNeg_held (r : Room) : (Room.takeNeg r).held = r.held := by
  unfold Room.takeNeg
  repeat' first
    | with_reducible rfl
    | with_reducible apply Room.held_ite
    | with_reducible refine (Room.onCon_held _ _).trans ?_
    | with_reducible refine (Room.held_mk _ _ _ _ _ _ _ _ _ _ _ _ _ _ _ _ _ _ _).trans ?_
    | with_reducible refine (Room.held_eta _).trans ?_
    | split

theorem Room.observe_held (k : Pkt) (r : Room) : (Room.observe k r).held = r.held := by
  unfold Room.observe
  repeat' first
    | with_reducible rfl
    | with_reducible apply Room.held_ite
    | with_reducible refine (Room.onPd_held _ _).trans ?_
    | with_reducible refine (Room.held_mk _ _ _ _ _ _ _ _ _ _ _ _ _ _ _ _ _ _ _).trans ?_
    | with_reducible refine (Room.held_eta _).trans ?_
    | split

theorem Room.goodCrc_held (e : Env) (sop : Nat) (id : Nat) (r : Room) : (Room.goodCrc e sop id r).held = r.held := by
  unfold Room.goodCrc
  repeat' first
    | with_reducible rfl
    | split
    | with_reducible apply Room.held_ite
    | with_reducible refine (Room.acked_held _ _ _).trans ?_
    | with_reducible refine (Room.held_mk _ _ _ _ _ _ _ _ _ _ _ _ _ _ _ _ _ _ _).trans ?_
    | with_reducible refine (Room.held_eta _).trans ?_

theorem Room.hardSignal_held (e : Env) (r : Room) : (Room.hardSignal e r).held = r.held := by
  unfold Room.hardSignal
  repeat' first
    | with_reducible rfl
    | with_reducible apply Room.held_ite
    | with_reducible refine (Room.on_held _ _).trans ?_
    | with_reducible refine (Room.pdReset_held _).trans ?_
    | with_reducible refine (Room.startHr_held _ _).trans ?_
    | split

theorem Room.discover_held (e : Env) (tries : Nat) (r : Room) : (Room.discover e tries r).held = r.held := by
  unfold Room.discover
  repeat' first
    | with_reducible rfl
    | with_reducible apply Room.held_ite
    | with_reducible refine (Room.put_held _ _ _).trans ?_
    | with_reducible refine (Room.onPd_held _ _).trans ?_
    | with_reducible refine (Room.say_held _ _).trans ?_
    | with_reducible refine (Room.refreshCable_held _ _).trans ?_
    | with_reducible refine (Room.held_mk _ _ _ _ _ _ _ _ _ _ _ _ _ _ _ _ _ _ _).trans ?_
    | with_reducible refine (Room.held_eta _).trans ?_
    | split

theorem Room.hrCounted_held (r : Room) : (Room.hrCounted r).held = r.held := by
  unfold Room.hrCounted
  repeat' first
    | with_reducible rfl
    | with_reducible apply Room.held_ite
    | with_reducible refine (Room.put_held _ _ _).trans ?_
    | split

theorem Room.startCore_held (now : Nat) (entry : Nat) (r : Room) : (Room.startCore now entry r).held = r.held := by
  unfold Room.startCore
  try dsimp only
  repeat' first
    | with_reducible rfl
    | with_reducible apply Room.held_ite
    | with_reducible refine (Room.put_held _ _ _).trans ?_
    | with_reducible refine (Room.on_held _ _).trans ?_
    | with_reducible refine (Room.onCore_held _ _).trans ?_
    | with_reducible refine (Room.held_mk _ _ _ _ _ _ _ _ _ _ _ _ _ _ _ _ _ _ _).trans ?_
    | with_reducible refine (Room.held_eta _).trans ?_
    | split

theorem Room.loadProgram_held (g : ProgramRec) (r : Room) : (Room.loadProgram g r).held = r.held := by
  unfold Room.loadProgram
  repeat' first
    | with_reducible rfl
    | with_reducible apply Room.held_ite
    | with_reducible refine (Room.held_mk _ _ _ _ _ _ _ _ _ _ _ _ _ _ _ _ _ _ _).trans ?_
    | with_reducible refine (Room.held_eta _).trans ?_
    | split

theorem Room.senseHoldOn_held (e : Env) (r : Room) : (Room.senseHoldOn e r).held = r.held := by
  unfold Room.senseHoldOn
  repeat' first
    | with_reducible rfl
    | with_reducible apply Room.held_ite
    | with_reducible refine (Room.onConv_held _ _).trans ?_
    | with_reducible refine (Room.refreshIlim_held _ _).trans ?_
    | with_reducible refine (Room.held_mk _ _ _ _ _ _ _ _ _ _ _ _ _ _ _ _ _ _ _).trans ?_
    | with_reducible refine (Room.held_eta _).trans ?_
    | split

theorem Room.showThr_held (e : Env) (r : Room) : (Room.showThr e r).held = r.held := by
  unfold Room.showThr
  try dsimp only
  repeat' first
    | with_reducible rfl
    | with_reducible apply Room.held_ite
    | with_reducible refine (Room.put_held _ _ _).trans ?_
    | with_reducible refine (Room.putB_held _ _ _).trans ?_
    | split

theorem Room.levels_held (e : Env) (r : Room) : (Room.levels e r).held = r.held := by
  unfold Room.levels
  try dsimp only
  repeat' first
    | with_reducible rfl
    | with_reducible apply Room.held_ite
    | with_reducible refine (Room.put_held _ _ _).trans ?_
    | split

theorem Room.addHold_held (e : Env) (h : Hold) (r : Room) : (Room.addHold e h r).held = r.held := by
  unfold Room.addHold
  try dsimp only
  repeat' first
    | with_reducible rfl
    | with_reducible apply Room.held_ite
    | with_reducible refine (Room.onConv_held _ _).trans ?_
    | with_reducible refine (Room.showLevel_held _ _).trans ?_
    | with_reducible refine (Room.showThr_held _ _).trans ?_
    | with_reducible refine (Room.held_mk _ _ _ _ _ _ _ _ _ _ _ _ _ _ _ _ _ _ _).trans ?_
    | with_reducible refine (Room.held_eta _).trans ?_
    | split

theorem Room.dropHolds_held (e : Env) (f : Hold → Bool) (r : Room) : (Room.dropHolds e f r).held = r.held := by
  unfold Room.dropHolds
  repeat' first
    | with_reducible rfl
    | with_reducible apply Room.held_ite
    | with_reducible refine (Room.onConv_held _ _).trans ?_
    | with_reducible refine (Room.showThr_held _ _).trans ?_
    | with_reducible refine (Room.held_mk _ _ _ _ _ _ _ _ _ _ _ _ _ _ _ _ _ _ _).trans ?_
    | with_reducible refine (Room.held_eta _).trans ?_
    | split

theorem Room.latch_held (k : Nat) (neg : Bool) (r : Room) : (Room.latch k neg r).held = r.held := by
  unfold Room.latch
  try dsimp only
  repeat' first
    | with_reducible rfl
    | split
    | with_reducible apply Room.held_ite
    | with_reducible refine (Room.put_held _ _ _).trans ?_
    | with_reducible refine (Room.on_held _ _).trans ?_
    | with_reducible refine (Room.onConv_held _ _).trans ?_
    | with_reducible refine (Room.held_mk _ _ _ _ _ _ _ _ _ _ _ _ _ _ _ _ _ _ _).trans ?_
    | with_reducible refine (Room.held_eta _).trans ?_

theorem Room.unlatch_held (k : Nat) (r : Room) : (Room.unlatch k r).held = r.held := by
  unfold Room.unlatch
  repeat' first
    | with_reducible rfl
    | with_reducible apply Room.held_ite
    | with_reducible refine (Room.off_held _ _).trans ?_
    | split

theorem Room.computeForward_held (e : Env) (isum : Int) (r : Room) : (Room.computeForward e isum r).held = r.held := by
  unfold Room.computeForward
  try dsimp only
  repeat' first
    | with_reducible rfl
    | with_reducible apply Room.held_ite
    | with_reducible refine (Room.put_held _ _ _).trans ?_
    | with_reducible refine (Room.on_held _ _).trans ?_
    | with_reducible refine (Room.putB_held _ _ _).trans ?_
    | with_reducible refine (Room.onConv_held _ _).trans ?_
    | with_reducible refine (Room.held_mk _ _ _ _ _ _ _ _ _ _ _ _ _ _ _ _ _ _ _).trans ?_
    | with_reducible refine (Room.held_eta _).trans ?_
    | split

theorem Room.moveDraw_held (e : Env) (r : Room) : (Room.moveDraw e r).held = r.held := by
  unfold Room.moveDraw
  try dsimp only
  repeat' first
    | with_reducible rfl
    | with_reducible apply Room.held_ite
    | with_reducible refine (Room.onConv_held _ _).trans ?_
    | with_reducible refine (Room.held_mk _ _ _ _ _ _ _ _ _ _ _ _ _ _ _ _ _ _ _).trans ?_
    | with_reducible refine (Room.held_eta _).trans ?_
    | split

theorem Room.computeReverse_held (e : Env) (r : Room) : (Room.computeReverse e r).held = r.held := by
  unfold Room.computeReverse
  try dsimp only
  repeat' first
    | with_reducible rfl
    | with_reducible apply Room.held_ite
    | with_reducible refine (Room.put_held _ _ _).trans ?_
    | with_reducible refine (Room.onConv_held _ _).trans ?_
    | with_reducible refine (Room.moveDraw_held _ _).trans ?_
    | with_reducible refine (Room.held_mk _ _ _ _ _ _ _ _ _ _ _ _ _ _ _ _ _ _ _).trans ?_
    | with_reducible refine (Room.held_eta _).trans ?_
    | split

theorem Room.pushHigh_held (y : Int) (r : Room) : (Room.pushHigh y r).held = r.held := by
  unfold Room.pushHigh
  try dsimp only
  repeat' first
    | with_reducible rfl
    | with_reducible apply Room.held_ite
    | with_reducible refine (Room.onConv_held _ _).trans ?_
    | with_reducible refine (Room.held_mk _ _ _ _ _ _ _ _ _ _ _ _ _ _ _ _ _ _ _).trans ?_
    | with_reducible refine (Room.held_eta _).trans ?_
    | split

theorem Room.judge_held (e : Env) (r : Room) : (Room.judge e r).held = r.held := by
  unfold Room.judge
  try dsimp only
  repeat' first
    | with_reducible rfl
    | with_reducible apply Room.held_ite
    | with_reducible refine (Room.off_held _ _).trans ?_
    | with_reducible refine (Room.onCon_held _ _).trans ?_
    | with_reducible refine (Room.onConv_held _ _).trans ?_
    | with_reducible refine (Room.held_mk _ _ _ _ _ _ _ _ _ _ _ _ _ _ _ _ _ _ _).trans ?_
    | with_reducible refine (Room.held_eta _).trans ?_
    | split

theorem Room.moveTrim_held (sum : Int) (n : Nat) (r : Room) : (Room.moveTrim sum n r).held = r.held := by
  unfold Room.moveTrim
  try dsimp only
  repeat' first
    | with_reducible rfl
    | with_reducible apply Room.held_ite
    | with_reducible refine (Room.onConv_held _ _).trans ?_
    | with_reducible refine (Room.held_mk _ _ _ _ _ _ _ _ _ _ _ _ _ _ _ _ _ _ _).trans ?_
    | with_reducible refine (Room.held_eta _).trans ?_
    | split

theorem Room.means_held (e : Env) (vs : List (BitVec 12)) (is : List (BitVec 12)) (r : Room) : (Room.means e vs is r).held = r.held := by
  unfold Room.means
  try dsimp only
  repeat' first
    | with_reducible rfl
    | split
    | with_reducible apply Room.held_ite
    | with_reducible refine (Room.put_held _ _ _).trans ?_
    | with_reducible refine (Room.onConv_held _ _).trans ?_
    | with_reducible refine (Room.held_mk _ _ _ _ _ _ _ _ _ _ _ _ _ _ _ _ _ _ _).trans ?_
    | with_reducible refine (Room.held_eta _).trans ?_

theorem Room.transfers_held (turned : Bool) (r : Room) : (Room.transfers turned r).held = r.held := by
  unfold Room.transfers
  try dsimp only
  repeat' first
    | with_reducible rfl
    | with_reducible apply Room.held_ite
    | with_reducible refine (Room.on_held _ _).trans ?_
    | with_reducible refine (Room.onConv_held _ _).trans ?_
    | with_reducible refine (Room.held_mk _ _ _ _ _ _ _ _ _ _ _ _ _ _ _ _ _ _ _).trans ?_
    | with_reducible refine (Room.held_eta _).trans ?_
    | split

theorem Room.turn_held (e : Env) (r : Room) : (Room.turn e r).held = r.held := by
  unfold Room.turn
  try dsimp only
  repeat' first
    | with_reducible rfl
    | split
    | with_reducible apply Room.held_ite
    | with_reducible refine (Room.on_held _ _).trans ?_
    | with_reducible refine (Room.onConv_held _ _).trans ?_
    | with_reducible refine (Room.frsStart_held _ _).trans ?_
    | with_reducible refine (Room.setLoop_held _ _).trans ?_
    | with_reducible refine (Room.setRef_held _ _).trans ?_
    | with_reducible refine (Room.slewRate_held _).trans ?_
    | with_reducible refine (Room.refreshRamp_held _ _ _).trans ?_
    | with_reducible refine (Room.held_mk _ _ _ _ _ _ _ _ _ _ _ _ _ _ _ _ _ _ _).trans ?_
    | with_reducible refine (Room.held_eta _).trans ?_

theorem Room.newPeriod_held (e : Env) (r : Room) : (Room.newPeriod e r).held = r.held := by
  unfold Room.newPeriod
  try dsimp only
  repeat' first
    | with_reducible rfl
    | split
    | with_reducible apply Room.held_ite
    | with_reducible refine (Room.put_held _ _ _).trans ?_
    | with_reducible refine (Room.off_held _ _).trans ?_
    | with_reducible refine (Room.putB_held _ _ _).trans ?_
    | with_reducible refine (Room.onConv_held _ _).trans ?_
    | with_reducible refine (Room.held_mk _ _ _ _ _ _ _ _ _ _ _ _ _ _ _ _ _ _ _).trans ?_
    | with_reducible refine (Room.held_eta _).trans ?_

theorem Room.pwmTick_held (e : Env) (r : Room) : (Room.pwmTick e r).held = r.held := by
  unfold Room.pwmTick
  repeat' first
    | with_reducible rfl
    | with_reducible apply Room.held_ite
    | with_reducible refine (Room.off_held _ _).trans ?_
    | split

theorem Room.foldPeriod_held (e : Env) (r : Room) : (Room.foldPeriod e r).held = r.held := by
  unfold Room.foldPeriod
  try dsimp only
  repeat' first
    | with_reducible rfl
    | with_reducible apply Room.held_ite
    | with_reducible refine (Room.onConv_held _ _).trans ?_
    | with_reducible refine (Room.held_mk _ _ _ _ _ _ _ _ _ _ _ _ _ _ _ _ _ _ _).trans ?_
    | with_reducible refine (Room.held_eta _).trans ?_
    | split

theorem Room.remember_held (e : Env) (r : Room) : (Room.remember e r).held = r.held := by
  unfold Room.remember
  repeat' first
    | with_reducible rfl
    | with_reducible apply Room.held_ite
    | with_reducible refine (Room.onConv_held _ _).trans ?_
    | with_reducible refine (Room.held_mk _ _ _ _ _ _ _ _ _ _ _ _ _ _ _ _ _ _ _).trans ?_
    | with_reducible refine (Room.held_eta _).trans ?_
    | split

theorem Room.startPeriod_held (e : Env) (r : Room) : (Room.startPeriod e r).held = r.held := by
  unfold Room.startPeriod
  try dsimp only
  repeat' first
    | with_reducible rfl
    | with_reducible apply Room.held_ite
    | with_reducible refine (Room.transfers_held _ _).trans ?_
    | with_reducible refine (Room.remember_held _ _).trans ?_
    | with_reducible refine (Room.levels_held _ _).trans ?_
    | with_reducible refine (Room.showThr_held _ _).trans ?_
    | with_reducible refine (Room.turn_held _ _).trans ?_
    | with_reducible refine (Room.newPeriod_held _ _).trans ?_
    | with_reducible refine (Room.foldPeriod_held _ _).trans ?_
    | split

theorem Room.powerOn_held (e : Env) (r : Room) : (Room.powerOn e r).held = r.held := by
  unfold Room.powerOn
  repeat' first
    | with_reducible rfl
    | with_reducible apply Room.held_ite
    | with_reducible refine (Room.onConv_held _ _).trans ?_
    | with_reducible refine (Room.closeSwitch_held _ _).trans ?_
    | with_reducible refine (Room.setVset_held _ _ _).trans ?_
    | with_reducible refine (Room.loopStart_held _ _).trans ?_
    | with_reducible refine (Room.held_mk _ _ _ _ _ _ _ _ _ _ _ _ _ _ _ _ _ _ _).trans ?_
    | with_reducible refine (Room.held_eta _).trans ?_
    | split

theorem Room.attempt_held (e : Env) (r : Room) : (Room.attempt e r).held = r.held := by
  unfold Room.attempt
  try dsimp only
  repeat' first
    | with_reducible rfl
    | with_reducible apply Room.held_ite
    | with_reducible refine (Room.on_held _ _).trans ?_
    | with_reducible refine (Room.off_held _ _).trans ?_
    | with_reducible refine (Room.onConv_held _ _).trans ?_
    | with_reducible refine (Room.pdClear_held _ _).trans ?_
    | with_reducible refine (Room.conClear_held _ _).trans ?_
    | with_reducible refine (Room.dropHolds_held _ _ _).trans ?_
    | with_reducible refine (Room.openSwitch_held _).trans ?_
    | with_reducible refine (Room.loopOff_held _).trans ?_
    | with_reducible refine (Room.discharge_held _ _ _ _ _).trans ?_
    | with_reducible refine (Room.powerOn_held _ _).trans ?_
    | with_reducible refine (Room.held_mk _ _ _ _ _ _ _ _ _ _ _ _ _ _ _ _ _ _ _).trans ?_
    | with_reducible refine (Room.held_eta _).trans ?_
    | split

theorem Room.pinTest_held (now : Nat) (k : Nat) (bad : Bool) (r : Room) : (Room.pinTest now k bad r).held = r.held := by
  unfold Room.pinTest
  try dsimp only
  repeat' first
    | with_reducible rfl
    | with_reducible apply Room.held_ite
    | with_reducible refine (Room.onConv_held _ _).trans ?_
    | with_reducible refine (Room.held_mk _ _ _ _ _ _ _ _ _ _ _ _ _ _ _ _ _ _ _).trans ?_
    | with_reducible refine (Room.held_eta _).trans ?_
    | split

theorem Room.senseHoldOff_held (e : Env) (r : Room) : (Room.senseHoldOff e r).held = r.held := by
  unfold Room.senseHoldOff
  repeat' first
    | with_reducible rfl
    | with_reducible apply Room.held_ite
    | with_reducible refine (Room.onConv_held _ _).trans ?_
    | with_reducible refine (Room.refreshIlim_held _ _).trans ?_
    | with_reducible refine (Room.held_mk _ _ _ _ _ _ _ _ _ _ _ _ _ _ _ _ _ _ _).trans ?_
    | with_reducible refine (Room.held_eta _).trans ?_
    | split

theorem Room.resumeRate_held (r : Room) : (Room.resumeRate r).held = r.held := by
  unfold Room.resumeRate
  repeat' first
    | with_reducible rfl
    | with_reducible apply Room.held_ite
    | with_reducible refine (Room.setRate_held _ _ _).trans ?_
    | with_reducible refine (Room.slewRate_held _).trans ?_
    | split

theorem Room.staleTakeover_held (e : Env) (r : Room) : (Room.staleTakeover e r).held = r.held := by
  unfold Room.staleTakeover
  repeat' first
    | with_reducible rfl
    | with_reducible apply Room.held_ite
    | with_reducible refine (Room.onCon_held _ _).trans ?_
    | with_reducible refine (Room.errorRecovery_held _ _).trans ?_
    | with_reducible refine (Room.refreshIlim_held _ _).trans ?_
    | with_reducible refine (Room.say_held _ _).trans ?_
    | with_reducible refine (Room.softReset_held _ _ _).trans ?_
    | with_reducible refine (Room.held_mk _ _ _ _ _ _ _ _ _ _ _ _ _ _ _ _ _ _ _).trans ?_
    | with_reducible refine (Room.held_eta _).trans ?_
    | split

theorem Room.resumeCc_held (e : Env) (r : Room) : (Room.resumeCc e r).held = r.held := by
  unfold Room.resumeCc
  try dsimp only
  repeat' first
    | with_reducible rfl
    | with_reducible apply Room.held_ite
    | with_reducible refine (Room.put_held _ _ _).trans ?_
    | with_reducible refine (Room.putB_held _ _ _).trans ?_
    | with_reducible refine (Room.onCc_held _ _).trans ?_
    | with_reducible refine (Room.onPd_held _ _).trans ?_
    | with_reducible refine (Room.held_mk _ _ _ _ _ _ _ _ _ _ _ _ _ _ _ _ _ _ _).trans ?_
    | with_reducible refine (Room.held_eta _).trans ?_
    | split

theorem Room.resumeAsk_held (e : Env) (r : Room) : (Room.resumeAsk e r).held = r.held := by
  unfold Room.resumeAsk
  try dsimp only
  repeat' first
    | with_reducible rfl
    | with_reducible apply Room.held_ite
    | with_reducible refine (Room.onCon_held _ _).trans ?_
    | with_reducible refine (Room.held_mk _ _ _ _ _ _ _ _ _ _ _ _ _ _ _ _ _ _ _).trans ?_
    | with_reducible refine (Room.held_eta _).trans ?_
    | split

theorem Room.clampFilt_held (o : Nat) (r : Room) : (Room.clampFilt o r).held = r.held := by
  unfold Room.clampFilt
  try dsimp only
  repeat' first
    | with_reducible rfl
    | with_reducible apply Room.held_ite
    | with_reducible refine (Room.put_held _ _ _).trans ?_
    | split

theorem Room.pwmTiming_held (pl : Plan) (p : Nat) (r : Room) : (Room.pwmTiming pl p r).held = r.held := by
  unfold Room.pwmTiming
  try dsimp only
  repeat' first
    | with_reducible rfl
    | with_reducible apply Room.held_ite
    | with_reducible refine (Room.put_held _ _ _).trans ?_
    | with_reducible refine (Room.putB_held _ _ _).trans ?_
    | split

theorem Room.mirrorRetry_held (now : Nat) (r : Room) : (Room.mirrorRetry now r).held = r.held := by
  unfold Room.mirrorRetry
  repeat' first
    | with_reducible rfl
    | with_reducible apply Room.held_ite
    | with_reducible refine (Room.onConv_held _ _).trans ?_
    | with_reducible refine (Room.held_mk _ _ _ _ _ _ _ _ _ _ _ _ _ _ _ _ _ _ _).trans ?_
    | with_reducible refine (Room.held_eta _).trans ?_
    | split

theorem Room.applyCc_held (w : Word) (r : Room) : (Room.applyCc w r).held = r.held := by
  unfold Room.applyCc
  try dsimp only
  repeat' first
    | with_reducible rfl
    | with_reducible apply Room.held_ite
    | with_reducible refine (Room.put_held _ _ _).trans ?_
    | with_reducible refine (Room.off_held _ _).trans ?_
    | with_reducible refine (Room.onCc_held _ _).trans ?_
    | with_reducible refine (Room.shadowRp_held _).trans ?_
    | with_reducible refine (Room.held_mk _ _ _ _ _ _ _ _ _ _ _ _ _ _ _ _ _ _ _).trans ?_
    | with_reducible refine (Room.held_eta _).trans ?_
    | split

theorem Room.rampTick_held (r : Room) : (Room.rampTick r).held = r.held := by
  unfold Room.rampTick
  try dsimp only
  repeat' first
    | with_reducible rfl
    | split
    | with_reducible apply Room.held_ite
    | with_reducible refine (Room.on_held _ _).trans ?_
    | with_reducible refine (Room.onConv_held _ _).trans ?_
    | with_reducible refine (Room.setRef_held _ _).trans ?_
    | with_reducible refine (Room.held_mk _ _ _ _ _ _ _ _ _ _ _ _ _ _ _ _ _ _ _).trans ?_
    | with_reducible refine (Room.held_eta _).trans ?_

/-! ### Room.mems -/

theorem Room.mems_ite (c : Prop) [Decidable c] (a b : Room) (x : Mem × Mem) (h1 : a.mems = x) (h2 : b.mems = x) :
    (if c then a else b).mems = x := by
  split <;> assumption
theorem Room.mems_mk (m : Regs) (x1 x2 : Mem) (x3 : CcState) (x4 : PdState) (x5 : ConState) (x6 : ConvState) (x7 : Core)
    (x8 x9 x10 : Bool) (x11 : Nat) (x12 : List Nat) (x13 : List (Int × Int)) (x14 : List Nat) (x15 x16 x17 x18 : Nat) :
    Room.mems ⟨m, x1, x2, x3, x4, x5, x6, x7, x8, x9, x10, x11, x12, x13, x14, x15, x16, x17, x18⟩ = (x1, x2) := rfl
theorem Room.mems_eta (r : Room) : (r.data, r.code) = r.mems := rfl
theorem Room.put_mems (r : Room) (f : Field) (v : Nat) : (r.put f v).mems = r.mems := rfl
theorem Room.on_mems (r : Room) (f : Field) : (r.on f).mems = r.mems := rfl
theorem Room.off_mems (r : Room) (f : Field) : (r.off f).mems = r.mems := rfl
theorem Room.putB_mems (r : Room) (f : Field) (b : Bool) : (r.putB f b).mems = r.mems := rfl
theorem Room.onCc_mems (r : Room) (g : CcState → CcState) : (r.onCc g).mems = r.mems := rfl
theorem Room.onPd_mems (r : Room) (g : PdState → PdState) : (r.onPd g).mems = r.mems := rfl
theorem Room.onCon_mems (r : Room) (g : ConState → ConState) : (r.onCon g).mems = r.mems := rfl
theorem Room.onConv_mems (r : Room) (g : ConvState → ConvState) : (r.onConv g).mems = r.mems := rfl
theorem Room.onCore_mems (r : Room) (g : Core → Core) : (r.onCore g).mems = r.mems := rfl

theorem Room.toStep_mems (e : Env) (n : Nat) (r : Room) : (Room.toStep e n r).mems = r.mems := by
  unfold Room.toStep
  repeat' first
    | with_reducible rfl
    | with_reducible apply Room.mems_ite
    | with_reducible refine (Room.put_mems _ _ _).trans ?_
    | with_reducible refine (Room.onCon_mems _ _).trans ?_
    | with_reducible refine (Room.mems_mk _ _ _ _ _ _ _ _ _ _ _ _ _ _ _ _ _ _ _).trans ?_
    | with_reducible refine (Room.mems_eta _).trans ?_
    | split

theorem Room.followRp_mems (r : Room) : (Room.followRp r).mems = r.mems := by
  unfold Room.followRp
  try dsimp only
  repeat' first
    | with_reducible rfl
    | split
    | with_reducible apply Room.mems_ite
    | with_reducible refine (Room.put_mems _ _ _).trans ?_
    | with_reducible refine (Room.mems_mk _ _ _ _ _ _ _ _ _ _ _ _ _ _ _ _ _ _ _).trans ?_
    | with_reducible refine (Room.mems_eta _).trans ?_

theorem Room.refreshPartner_mems (r : Room) : (Room.refreshPartner r).mems = r.mems := by
  unfold Room.refreshPartner
  try dsimp only
  repeat' first
    | with_reducible rfl
    | with_reducible apply Room.mems_ite
    | with_reducible refine (Room.put_mems _ _ _).trans ?_
    | with_reducible refine (Room.on_mems _ _).trans ?_
    | with_reducible refine (Room.followRp_mems _).trans ?_
    | split

theorem Room.shadowRp_mems (r : Room) : (Room.shadowRp r).mems = r.mems := by
  unfold Room.shadowRp
  try dsimp only
  repeat' first
    | with_reducible rfl
    | with_reducible apply Room.mems_ite
    | with_reducible refine (Room.put_mems _ _ _).trans ?_
    | split

theorem Room.audioOff_mems (r : Room) : (Room.audioOff r).mems = r.mems := by
  unfold Room.audioOff
  repeat' first
    | with_reducible rfl
    | with_reducible apply Room.mems_ite
    | with_reducible refine (Room.onCc_mems _ _).trans ?_
    | with_reducible refine (Room.mems_mk _ _ _ _ _ _ _ _ _ _ _ _ _ _ _ _ _ _ _).trans ?_
    | with_reducible refine (Room.mems_eta _).trans ?_
    | split

theorem Room.terms_mems (e : Env) (r : Room) : (Room.terms e r).mems = r.mems := by
  unfold Room.terms
  try dsimp only
  repeat' first
    | with_reducible rfl
    | with_reducible apply Room.mems_ite
    | with_reducible refine (Room.put_mems _ _ _).trans ?_
    | with_reducible refine (Room.onCc_mems _ _).trans ?_
    | with_reducible refine (Room.audioOff_mems _).trans ?_
    | with_reducible refine (Room.refreshPartner_mems _).trans ?_
    | with_reducible refine (Room.mems_mk _ _ _ _ _ _ _ _ _ _ _ _ _ _ _ _ _ _ _).trans ?_
    | with_reducible refine (Room.mems_eta _).trans ?_
    | split

theorem Room.vconn_mems (e : Env) (r : Room) : (Room.vconn e r).mems = r.mems := by
  unfold Room.vconn
  try dsimp only
  repeat' first
    | with_reducible rfl
    | with_reducible apply Room.mems_ite
    | with_reducible refine (Room.putB_mems _ _ _).trans ?_
    | with_reducible refine (Room.onCc_mems _ _).trans ?_
    | with_reducible refine (Room.onPd_mems _ _).trans ?_
    | with_reducible refine (Room.terms_mems _ _).trans ?_
    | with_reducible refine (Room.mems_mk _ _ _ _ _ _ _ _ _ _ _ _ _ _ _ _ _ _ _).trans ?_
    | with_reducible refine (Room.mems_eta _).trans ?_
    | split

theorem Room.setGrant_mems (r : Room) (w : Nat) : (Room.setGrant r w).mems = r.mems := by
  unfold Room.setGrant
  repeat' first
    | with_reducible rfl
    | with_reducible apply Room.mems_ite
    | with_reducible refine (Room.put_mems _ _ _).trans ?_
    | with_reducible refine (Room.on_mems _ _).trans ?_
    | split

theorem Room.endResv_mems (r : Room) : (Room.endResv r).mems = r.mems := by
  unfold Room.endResv
  repeat' first
    | with_reducible rfl
    | with_reducible apply Room.mems_ite
    | with_reducible refine (Room.off_mems _ _).trans ?_
    | with_reducible refine (Room.onCon_mems _ _).trans ?_
    | with_reducible refine (Room.mems_mk _ _ _ _ _ _ _ _ _ _ _ _ _ _ _ _ _ _ _).trans ?_
    | with_reducible refine (Room.mems_eta _).trans ?_
    | split

theorem Room.ask_mems (e : Env) (w : Nat) (lapse : Bool) (r : Room) : (Room.ask e w lapse r).mems = r.mems := by
  unfold Room.ask
  try dsimp only
  repeat' first
    | with_reducible rfl
    | with_reducible apply Room.mems_ite
    | with_reducible refine (Room.put_mems _ _ _).trans ?_
    | with_reducible refine (Room.off_mems _ _).trans ?_
    | with_reducible refine (Room.onCon_mems _ _).trans ?_
    | with_reducible refine (Room.mems_mk _ _ _ _ _ _ _ _ _ _ _ _ _ _ _ _ _ _ _).trans ?_
    | with_reducible refine (Room.mems_eta _).trans ?_
    | split

theorem Room.refreshIlim_mems (e : Env) (r : Room) : (Room.refreshIlim e r).mems = r.mems := by
  unfold Room.refreshIlim
  try dsimp only
  repeat' first
    | with_reducible rfl
    | with_reducible apply Room.mems_ite
    | with_reducible refine (Room.put_mems _ _ _).trans ?_
    | split

theorem Room.implicitVi_mems (e : Env) (r : Room) : (Room.implicitVi e r).mems = r.mems := by
  unfold Room.implicitVi
  repeat' first
    | with_reducible rfl
    | with_reducible apply Room.mems_ite
    | with_reducible refine (Room.put_mems _ _ _).trans ?_
    | with_reducible refine (Room.off_mems _ _).trans ?_
    | with_reducible refine (Room.refreshIlim_mems _ _).trans ?_
    | split

theorem Room.startGiveup_mems (e : Env) (r : Room) : (Room.startGiveup e r).mems = r.mems := by
  unfold Room.startGiveup
  repeat' first
    | with_reducible rfl
    | with_reducible apply Room.mems_ite
    | with_reducible refine (Room.on_mems _ _).trans ?_
    | with_reducible refine (Room.onCon_mems _ _).trans ?_
    | with_reducible refine (Room.mems_mk _ _ _ _ _ _ _ _ _ _ _ _ _ _ _ _ _ _ _).trans ?_
    | with_reducible refine (Room.mems_eta _).trans ?_
    | split

theorem Room.vlimDrop_mems (e : Env) (r : Room) : (Room.vlimDrop e r).mems = r.mems := by
  unfold Room.vlimDrop
  repeat' first
    | with_reducible rfl
    | with_reducible apply Room.mems_ite
    | with_reducible refine (Room.on_mems _ _).trans ?_
    | with_reducible refine (Room.startGiveup_mems _ _).trans ?_
    | split

theorem Room.refreshVlim_mems (e : Env) (r : Room) : (Room.refreshVlim e r).mems = r.mems := by
  unfold Room.refreshVlim
  try dsimp only
  repeat' first
    | with_reducible rfl
    | with_reducible apply Room.mems_ite
    | with_reducible refine (Room.put_mems _ _ _).trans ?_
    | with_reducible refine (Room.vlimDrop_mems _ _).trans ?_
    | split

theorem Room.refreshCable_mems (e : Env) (r : Room) : (Room.refreshCable e r).mems = r.mems := by
  unfold Room.refreshCable
  try dsimp only
  repeat' first
    | with_reducible rfl
    | with_reducible apply Room.mems_ite
    | with_reducible refine (Room.put_mems _ _ _).trans ?_
    | with_reducible refine (Room.on_mems _ _).trans ?_
    | with_reducible refine (Room.off_mems _ _).trans ?_
    | with_reducible refine (Room.putB_mems _ _ _).trans ?_
    | with_reducible refine (Room.refreshVlim_mems _ _).trans ?_
    | with_reducible refine (Room.refreshIlim_mems _ _).trans ?_
    | split

theorem Room.setRef_mems (r : Room) (uv : Nat) : (Room.setRef r uv).mems = r.mems := by
  unfold Room.setRef
  repeat' first
    | with_reducible rfl
    | with_reducible apply Room.mems_ite
    | with_reducible refine (Room.put_mems _ _ _).trans ?_
    | with_reducible refine (Room.onConv_mems _ _).trans ?_
    | with_reducible refine (Room.mems_mk _ _ _ _ _ _ _ _ _ _ _ _ _ _ _ _ _ _ _).trans ?_
    | with_reducible refine (Room.mems_eta _).trans ?_
    | split

theorem Room.refreshRamp_mems (e : Env) (r : Room) (target : Nat) : (Room.refreshRamp e r target).mems = r.mems := by
  unfold Room.refreshRamp
  try dsimp only
  repeat' first
    | with_reducible rfl
    | with_reducible apply Room.mems_ite
    | with_reducible refine (Room.putB_mems _ _ _).trans ?_
    | with_reducible refine (Room.onConv_mems _ _).trans ?_
    | with_reducible refine (Room.mems_mk _ _ _ _ _ _ _ _ _ _ _ _ _ _ _ _ _ _ _).trans ?_
    | with_reducible refine (Room.mems_eta _).trans ?_
    | split

theorem Room.setLoop_mems (r : Room) (st : Nat) : (Room.setLoop r st).mems = r.mems := by
  unfold Room.setLoop
  try dsimp only
  repeat' first
    | with_reducible rfl
    | with_reducible apply Room.mems_ite
    | with_reducible refine (Room.put_mems _ _ _).trans ?_
    | with_reducible refine (Room.on_mems _ _).trans ?_
    | with_reducible refine (Room.off_mems _ _).trans ?_
    | with_reducible refine (Room.putB_mems _ _ _).trans ?_
    | split

theorem Room.setRate_mems (num : Nat) (den : Nat) (r : Room) : (Room.setRate num den r).mems = r.mems := by
  unfold Room.setRate
  repeat' first
    | with_reducible rfl
    | with_reducible apply Room.mems_ite
    | with_reducible refine (Room.onConv_mems _ _).trans ?_
    | with_reducible refine (Room.mems_mk _ _ _ _ _ _ _ _ _ _ _ _ _ _ _ _ _ _ _).trans ?_
    | with_reducible refine (Room.mems_eta _).trans ?_
    | split

theorem Room.slewRate_mems (r : Room) : (Room.slewRate r).mems = r.mems := by
  unfold Room.slewRate
  repeat' first
    | with_reducible rfl
    | with_reducible apply Room.mems_ite
    | with_reducible refine (Room.setRate_mems _ _ _).trans ?_
    | split

theorem Room.midRail_mems (r : Room) : (Room.midRail r).mems = r.mems := by
  unfold Room.midRail
  repeat' first
    | with_reducible rfl
    | with_reducible apply Room.mems_ite
    | with_reducible refine (Room.put_mems _ _ _).trans ?_
    | with_reducible refine (Room.off_mems _ _).trans ?_
    | split

theorem Room.preBias_mems (r : Room) : (Room.preBias r).mems = r.mems := by
  unfold Room.preBias
  try dsimp only
  repeat' first
    | with_reducible rfl
    | with_reducible apply Room.mems_ite
    | with_reducible refine (Room.onConv_mems _ _).trans ?_
    | with_reducible refine (Room.mems_mk _ _ _ _ _ _ _ _ _ _ _ _ _ _ _ _ _ _ _).trans ?_
    | with_reducible refine (Room.mems_eta _).trans ?_
    | split

theorem Room.loopStart_mems (e : Env) (r : Room) : (Room.loopStart e r).mems = r.mems := by
  unfold Room.loopStart
  try dsimp only
  repeat' first
    | with_reducible rfl
    | with_reducible apply Room.mems_ite
    | with_reducible refine (Room.onConv_mems _ _).trans ?_
    | with_reducible refine (Room.setRef_mems _ _).trans ?_
    | with_reducible refine (Room.setLoop_mems _ _).trans ?_
    | with_reducible refine (Room.preBias_mems _).trans ?_
    | with_reducible refine (Room.setRate_mems _ _ _).trans ?_
    | with_reducible refine (Room.refreshRamp_mems _ _ _).trans ?_
    | with_reducible refine (Room.mems_mk _ _ _ _ _ _ _ _ _ _ _ _ _ _ _ _ _ _ _).trans ?_
    | with_reducible refine (Room.mems_eta _).trans ?_
    | split

theorem Room.frsStart_mems (e : Env) (r : Room) : (Room.frsStart e r).mems = r.mems := by
  unfold Room.frsStart
  try dsimp only
  repeat' first
    | with_reducible rfl
    | with_reducible apply Room.mems_ite
    | with_reducible refine (Room.put_mems _ _ _).trans ?_
    | with_reducible refine (Room.onConv_mems _ _).trans ?_
    | with_reducible refine (Room.setRef_mems _ _).trans ?_
    | with_reducible refine (Room.setLoop_mems _ _).trans ?_
    | with_reducible refine (Room.preBias_mems _).trans ?_
    | with_reducible refine (Room.slewRate_mems _).trans ?_
    | with_reducible refine (Room.refreshRamp_mems _ _ _).trans ?_
    | with_reducible refine (Room.mems_mk _ _ _ _ _ _ _ _ _ _ _ _ _ _ _ _ _ _ _).trans ?_
    | with_reducible refine (Room.mems_eta _).trans ?_
    | split

theorem Room.discharge_mems (e : Env) (r : Room) (num : Nat) (den : Nat) (openAtOff : Bool) : (Room.discharge e r num den openAtOff).mems = r.mems := by
  unfold Room.discharge
  try dsimp only
  repeat' first
    | with_reducible rfl
    | with_reducible apply Room.mems_ite
    | with_reducible refine (Room.onConv_mems _ _).trans ?_
    | with_reducible refine (Room.setRef_mems _ _).trans ?_
    | with_reducible refine (Room.setLoop_mems _ _).trans ?_
    | with_reducible refine (Room.slewRate_mems _).trans ?_
    | with_reducible refine (Room.setRate_mems _ _ _).trans ?_
    | with_reducible refine (Room.refreshRamp_mems _ _ _).trans ?_
    | with_reducible refine (Room.mems_mk _ _ _ _ _ _ _ _ _ _ _ _ _ _ _ _ _ _ _).trans ?_
    | with_reducible refine (Room.mems_eta _).trans ?_
    | split

theorem Room.loopOff_mems (r : Room) : (Room.loopOff r).mems = r.mems := by
  unfold Room.loopOff
  repeat' first
    | with_reducible rfl
    | with_reducible apply Room.mems_ite
    | with_reducible refine (Room.onConv_mems _ _).trans ?_
    | with_reducible refine (Room.setLoop_mems _ _).trans ?_
    | with_reducible refine (Room.mems_mk _ _ _ _ _ _ _ _ _ _ _ _ _ _ _ _ _ _ _).trans ?_
    | with_reducible refine (Room.mems_eta _).trans ?_
    | split

theorem Room.showLevel_mems (e : Env) (r : Room) : (Room.showLevel e r).mems = r.mems := by
  unfold Room.showLevel
  repeat' first
    | with_reducible rfl
    | split
    | with_reducible apply Room.mems_ite
    | with_reducible refine (Room.put_mems _ _ _).trans ?_
    | with_reducible refine (Room.off_mems _ _).trans ?_
    | with_reducible refine (Room.mems_mk _ _ _ _ _ _ _ _ _ _ _ _ _ _ _ _ _ _ _).trans ?_
    | with_reducible refine (Room.mems_eta _).trans ?_

theorem Room.closeSwitch_mems (e : Env) (r : Room) : (Room.closeSwitch e r).mems = r.mems := by
  unfold Room.closeSwitch
  try dsimp only
  repeat' first
    | with_reducible rfl
    | with_reducible apply Room.mems_ite
    | with_reducible refine (Room.put_mems _ _ _).trans ?_
    | with_reducible refine (Room.on_mems _ _).trans ?_
    | with_reducible refine (Room.off_mems _ _).trans ?_
    | with_reducible refine (Room.onConv_mems _ _).trans ?_
    | with_reducible refine (Room.mems_mk _ _ _ _ _ _ _ _ _ _ _ _ _ _ _ _ _ _ _).trans ?_
    | with_reducible refine (Room.mems_eta _).trans ?_
    | split

theorem Room.openSwitch_mems (r : Room) : (Room.openSwitch r).mems = r.mems := by
  unfold Room.openSwitch
  repeat' first
    | with_reducible rfl
    | with_reducible apply Room.mems_ite
    | with_reducible refine (Room.off_mems _ _).trans ?_
    | with_reducible refine (Room.onConv_mems _ _).trans ?_
    | with_reducible refine (Room.mems_mk _ _ _ _ _ _ _ _ _ _ _ _ _ _ _ _ _ _ _).trans ?_
    | with_reducible refine (Room.mems_eta _).trans ?_
    | split

theorem Room.txEnd_mems (r : Room) (code : Nat) : (Room.txEnd r code).mems = r.mems := by
  unfold Room.txEnd
  repeat' first
    | with_reducible rfl
    | with_reducible apply Room.mems_ite
    | with_reducible refine (Room.put_mems _ _ _).trans ?_
    | with_reducible refine (Room.on_mems _ _).trans ?_
    | with_reducible refine (Room.onPd_mems _ _).trans ?_
    | with_reducible refine (Room.mems_mk _ _ _ _ _ _ _ _ _ _ _ _ _ _ _ _ _ _ _).trans ?_
    | with_reducible refine (Room.mems_eta _).trans ?_
    | split

theorem Room.txAbort_mems (r : Room) (code : Nat) : (Room.txAbort r code).mems = r.mems := by
  unfold Room.txAbort
  try dsimp only
  repeat' first
    | with_reducible rfl
    | with_reducible apply Room.mems_ite
    | with_reducible refine (Room.put_mems _ _ _).trans ?_
    | with_reducible refine (Room.on_mems _ _).trans ?_
    | with_reducible refine (Room.onPd_mems _ _).trans ?_
    | with_reducible refine (Room.txEnd_mems _ _).trans ?_
    | with_reducible refine (Room.mems_mk _ _ _ _ _ _ _ _ _ _ _ _ _ _ _ _ _ _ _).trans ?_
    | with_reducible refine (Room.mems_eta _).trans ?_
    | split

theorem Room.clearRx_mems (r : Room) : (Room.clearRx r).mems = r.mems := by
  unfold Room.clearRx
  try dsimp only
  repeat' first
    | with_reducible rfl
    | with_reducible apply Room.mems_ite
    | with_reducible refine (Room.off_mems _ _).trans ?_
    | with_reducible refine (Room.mems_mk _ _ _ _ _ _ _ _ _ _ _ _ _ _ _ _ _ _ _).trans ?_
    | with_reducible refine (Room.mems_eta _).trans ?_
    | split

theorem Room.pdReset_mems (r : Room) : (Room.pdReset r).mems = r.mems := by
  unfold Room.pdReset
  repeat' first
    | with_reducible rfl
    | with_reducible apply Room.mems_ite
    | with_reducible refine (Room.off_mems _ _).trans ?_
    | with_reducible refine (Room.onPd_mems _ _).trans ?_
    | with_reducible refine (Room.clearRx_mems _).trans ?_
    | with_reducible refine (Room.mems_mk _ _ _ _ _ _ _ _ _ _ _ _ _ _ _ _ _ _ _).trans ?_
    | with_reducible refine (Room.mems_eta _).trans ?_
    | split

theorem Room.sinkTxNg_mems (e : Env) (r : Room) : (Room.sinkTxNg e r).mems = r.mems := by
  unfold Room.sinkTxNg
  repeat' first
    | with_reducible rfl
    | with_reducible apply Room.mems_ite
    | with_reducible refine (Room.put_mems _ _ _).trans ?_
    | with_reducible refine (Room.on_mems _ _).trans ?_
    | with_reducible refine (Room.onPd_mems _ _).trans ?_
    | with_reducible refine (Room.mems_mk _ _ _ _ _ _ _ _ _ _ _ _ _ _ _ _ _ _ _).trans ?_
    | with_reducible refine (Room.mems_eta _).trans ?_
    | split

theorem Room.sinkTxOk_mems (e : Env) (r : Room) : (Room.sinkTxOk e r).mems = r.mems := by
  unfold Room.sinkTxOk
  try dsimp only
  repeat' first
    | with_reducible rfl
    | with_reducible apply Room.mems_ite
    | with_reducible refine (Room.put_mems _ _ _).trans ?_
    | with_reducible refine (Room.off_mems _ _).trans ?_
    | with_reducible refine (Room.onPd_mems _ _).trans ?_
    | with_reducible refine (Room.sinkTxNg_mems _ _).trans ?_
    | with_reducible refine (Room.mems_mk _ _ _ _ _ _ _ _ _ _ _ _ _ _ _ _ _ _ _).trans ?_
    | with_reducible refine (Room.mems_eta _).trans ?_
    | split

theorem Room.pdClear_mems (e : Env) (r : Room) : (Room.pdClear e r).mems = r.mems := by
  unfold Room.pdClear
  try dsimp only
  repeat' first
    | with_reducible rfl
    | with_reducible apply Room.mems_ite
    | with_reducible refine (Room.off_mems _ _).trans ?_
    | with_reducible refine (Room.onPd_mems _ _).trans ?_
    | with_reducible refine (Room.txAbort_mems _ _).trans ?_
    | with_reducible refine (Room.pdReset_mems _).trans ?_
    | with_reducible refine (Room.refreshCable_mems _ _).trans ?_
    | with_reducible refine (Room.mems_mk _ _ _ _ _ _ _ _ _ _ _ _ _ _ _ _ _ _ _).trans ?_
    | with_reducible refine (Room.mems_eta _).trans ?_
    | split

theorem Room.conClear_mems (e : Env) (r : Room) : (Room.conClear e r).mems = r.mems := by
  unfold Room.conClear
  try dsimp only
  repeat' first
    | with_reducible rfl
    | with_reducible apply Room.mems_ite
    | with_reducible refine (Room.off_mems _ _).trans ?_
    | with_reducible refine (Room.onCc_mems _ _).trans ?_
    | with_reducible refine (Room.onCon_mems _ _).trans ?_
    | with_reducible refine (Room.endResv_mems _).trans ?_
    | with_reducible refine (Room.implicitVi_mems _ _).trans ?_
    | with_reducible refine (Room.mems_mk _ _ _ _ _ _ _ _ _ _ _ _ _ _ _ _ _ _ _).trans ?_
    | with_reducible refine (Room.mems_eta _).trans ?_
    | split

theorem Room.endExplicit_mems (e : Env) (r : Room) : (Room.endExplicit e r).mems = r.mems := by
  unfold Room.endExplicit
  try dsimp only
  repeat' first
    | with_reducible rfl
    | with_reducible apply Room.mems_ite
    | with_reducible refine (Room.put_mems _ _ _).trans ?_
    | with_reducible refine (Room.off_mems _ _).trans ?_
    | with_reducible refine (Room.onCc_mems _ _).trans ?_
    | with_reducible refine (Room.sinkTxOk_mems _ _).trans ?_
    | with_reducible refine (Room.followRp_mems _).trans ?_
    | with_reducible refine (Room.implicitVi_mems _ _).trans ?_
    | with_reducible refine (Room.mems_mk _ _ _ _ _ _ _ _ _ _ _ _ _ _ _ _ _ _ _).trans ?_
    | with_reducible refine (Room.mems_eta _).trans ?_
    | split

theorem Room.enterState_mems (e : Env) (r : Room) (st : Nat) : (Room.enterState e r st).mems = r.mems := by
  unfold Room.enterState
  try dsimp only
  repeat' first
    | with_reducible rfl
    | with_reducible apply Room.mems_ite
    | with_reducible refine (Room.put_mems _ _ _).trans ?_
    | with_reducible refine (Room.off_mems _ _).trans ?_
    | with_reducible refine (Room.onCc_mems _ _).trans ?_
    | with_reducible refine (Room.vconn_mems _ _).trans ?_
    | with_reducible refine (Room.mems_mk _ _ _ _ _ _ _ _ _ _ _ _ _ _ _ _ _ _ _).trans ?_
    | with_reducible refine (Room.mems_eta _).trans ?_
    | split

theorem Room.enterA_mems (e : Env) (r : Room) (st : Nat) : (Room.enterA e r st).mems = r.mems := by
  unfold Room.enterA
  try dsimp only
  repeat' first
    | with_reducible rfl
    | split
    | with_reducible apply Room.mems_ite
    | with_reducible refine (Room.enterState_mems _ _ _).trans ?_
    | with_reducible refine (Room.mems_mk _ _ _ _ _ _ _ _ _ _ _ _ _ _ _ _ _ _ _).trans ?_
    | with_reducible refine (Room.mems_eta _).trans ?_

theorem Room.restart_mems (e : Env) (r : Room) : (Room.restart e r).mems = r.mems := by
  unfold Room.restart
  try dsimp only
  repeat' first
    | with_reducible rfl
    | split
    | with_reducible apply Room.mems_ite
    | with_reducible refine (Room.put_mems _ _ _).trans ?_
    | with_reducible refine (Room.onCc_mems _ _).trans ?_
    | with_reducible refine (Room.enterA_mems _ _ _).trans ?_
    | with_reducible refine (Room.enterState_mems _ _ _).trans ?_
    | with_reducible refine (Room.refreshPartner_mems _).trans ?_
    | with_reducible refine (Room.mems_mk _ _ _ _ _ _ _ _ _ _ _ _ _ _ _ _ _ _ _).trans ?_
    | with_reducible refine (Room.mems_eta _).trans ?_

theorem Room.startRemoval_mems (e : Env) (r : Room) : (Room.startRemoval e r).mems = r.mems := by
  unfold Room.startRemoval
  repeat' first
    | with_reducible rfl
    | with_reducible apply Room.mems_ite
    | with_reducible refine (Room.onCc_mems _ _).trans ?_
    | with_reducible refine (Room.discharge_mems _ _ _ _ _).trans ?_
    | with_reducible refine (Room.setGrant_mems _ _).trans ?_
    | with_reducible refine (Room.openSwitch_mems _).trans ?_
    | with_reducible refine (Room.loopOff_mems _).trans ?_
    | with_reducible refine (Room.mems_mk _ _ _ _ _ _ _ _ _ _ _ _ _ _ _ _ _ _ _).trans ?_
    | with_reducible refine (Room.mems_eta _).trans ?_
    | split

theorem Room.retryClear_mems (r : Room) : (Room.retryClear r).mems = r.mems := by
  unfold Room.retryClear
  repeat' first
    | with_reducible rfl
    | with_reducible apply Room.mems_ite
    | with_reducible refine (Room.off_mems _ _).trans ?_
    | with_reducible refine (Room.onConv_mems _ _).trans ?_
    | with_reducible refine (Room.mems_mk _ _ _ _ _ _ _ _ _ _ _ _ _ _ _ _ _ _ _).trans ?_
    | with_reducible refine (Room.mems_eta _).trans ?_
    | split

theorem Room.detach_mems (e : Env) (r : Room) : (Room.detach e r).mems = r.mems := by
  unfold Room.detach
  try dsimp only
  repeat' first
    | with_reducible rfl
    | with_reducible apply Room.mems_ite
    | with_reducible refine (Room.on_mems _ _).trans ?_
    | with_reducible refine (Room.off_mems _ _).trans ?_
    | with_reducible refine (Room.pdClear_mems _ _).trans ?_
    | with_reducible refine (Room.startRemoval_mems _ _).trans ?_
    | with_reducible refine (Room.enterA_mems _ _ _).trans ?_
    | with_reducible refine (Room.conClear_mems _ _).trans ?_
    | split

theorem Room.errorRecovery_mems (e : Env) (r : Room) : (Room.errorRecovery e r).mems = r.mems := by
  unfold Room.errorRecovery
  try dsimp only
  repeat' first
    | with_reducible rfl
    | with_reducible apply Room.mems_ite
    | with_reducible refine (Room.on_mems _ _).trans ?_
    | with_reducible refine (Room.pdClear_mems _ _).trans ?_
    | with_reducible refine (Room.startRemoval_mems _ _).trans ?_
    | with_reducible refine (Room.enterA_mems _ _ _).trans ?_
    | with_reducible refine (Room.conClear_mems _ _).trans ?_
    | split

theorem Room.shed_mems (e : Env) (r : Room) : (Room.shed e r).mems = r.mems := by
  unfold Room.shed
  try dsimp only
  repeat' first
    | with_reducible rfl
    | with_reducible apply Room.mems_ite
    | with_reducible refine (Room.on_mems _ _).trans ?_
    | with_reducible refine (Room.onCc_mems _ _).trans ?_
    | with_reducible refine (Room.pdClear_mems _ _).trans ?_
    | with_reducible refine (Room.startRemoval_mems _ _).trans ?_
    | with_reducible refine (Room.enterA_mems _ _ _).trans ?_
    | with_reducible refine (Room.conClear_mems _ _).trans ?_
    | with_reducible refine (Room.mems_mk _ _ _ _ _ _ _ _ _ _ _ _ _ _ _ _ _ _ _).trans ?_
    | with_reducible refine (Room.mems_eta _).trans ?_
    | split

theorem Room.grantFell_mems (e : Env) (r : Room) : (Room.grantFell e r).mems = r.mems := by
  unfold Room.grantFell
  repeat' first
    | with_reducible rfl
    | with_reducible apply Room.mems_ite
    | with_reducible refine (Room.put_mems _ _ _).trans ?_
    | with_reducible refine (Room.on_mems _ _).trans ?_
    | with_reducible refine (Room.onCc_mems _ _).trans ?_
    | with_reducible refine (Room.shed_mems _ _).trans ?_
    | with_reducible refine (Room.startGiveup_mems _ _).trans ?_
    | with_reducible refine (Room.implicitVi_mems _ _).trans ?_
    | with_reducible refine (Room.mems_mk _ _ _ _ _ _ _ _ _ _ _ _ _ _ _ _ _ _ _).trans ?_
    | with_reducible refine (Room.mems_eta _).trans ?_
    | split

theorem Room.outputsOff_mems (e : Env) (r : Room) : (Room.outputsOff e r).mems = r.mems := by
  unfold Room.outputsOff
  repeat' first
    | with_reducible rfl
    | with_reducible apply Room.mems_ite
    | with_reducible refine (Room.loopOff_mems _).trans ?_
    | with_reducible refine (Room.midRail_mems _).trans ?_
    | with_reducible refine (Room.openSwitch_mems _).trans ?_
    | with_reducible refine (Room.vconn_mems _ _).trans ?_
    | with_reducible refine (Room.refreshIlim_mems _ _).trans ?_
    | split

theorem Room.armRetry_mems (e : Env) (r : Room) : (Room.armRetry e r).mems = r.mems := by
  unfold Room.armRetry
  repeat' first
    | with_reducible rfl
    | with_reducible apply Room.mems_ite
    | with_reducible refine (Room.on_mems _ _).trans ?_
    | with_reducible refine (Room.off_mems _ _).trans ?_
    | with_reducible refine (Room.onConv_mems _ _).trans ?_
    | with_reducible refine (Room.mems_mk _ _ _ _ _ _ _ _ _ _ _ _ _ _ _ _ _ _ _).trans ?_
    | with_reducible refine (Room.mems_eta _).trans ?_
    | split

theorem Room.fault_mems (r : Room) (f : Field) : (Room.fault r f).mems = r.mems := by
  unfold Room.fault
  repeat' first
    | with_reducible rfl
    | with_reducible apply Room.mems_ite
    | with_reducible refine (Room.on_mems _ _).trans ?_
    | split

theorem Room.attemptFail_mems (e : Env) (r : Room) : (Room.attemptFail e r).mems = r.mems := by
  unfold Room.attemptFail
  try dsimp only
  repeat' first
    | with_reducible rfl
    | with_reducible apply Room.mems_ite
    | with_reducible refine (Room.put_mems _ _ _).trans ?_
    | with_reducible refine (Room.on_mems _ _).trans ?_
    | with_reducible refine (Room.off_mems _ _).trans ?_
    | with_reducible refine (Room.onConv_mems _ _).trans ?_
    | with_reducible refine (Room.mems_mk _ _ _ _ _ _ _ _ _ _ _ _ _ _ _ _ _ _ _).trans ?_
    | with_reducible refine (Room.mems_eta _).trans ?_
    | split

theorem Room.enterSafe_mems (e : Env) (r : Room) (f : Field) (retry : Bool) : (Room.enterSafe e r f retry).mems = r.mems := by
  unfold Room.enterSafe
  try dsimp only
  repeat' first
    | with_reducible rfl
    | with_reducible apply Room.mems_ite
    | with_reducible refine (Room.on_mems _ _).trans ?_
    | with_reducible refine (Room.off_mems _ _).trans ?_
    | with_reducible refine (Room.onCc_mems _ _).trans ?_
    | with_reducible refine (Room.onConv_mems _ _).trans ?_
    | with_reducible refine (Room.fault_mems _ _).trans ?_
    | with_reducible refine (Room.attemptFail_mems _ _).trans ?_
    | with_reducible refine (Room.armRetry_mems _ _).trans ?_
    | with_reducible refine (Room.outputsOff_mems _ _).trans ?_
    | with_reducible refine (Room.mems_mk _ _ _ _ _ _ _ _ _ _ _ _ _ _ _ _ _ _ _).trans ?_
    | with_reducible refine (Room.mems_eta _).trans ?_
    | split

theorem Room.leaveSafe_mems (e : Env) (r : Room) : (Room.leaveSafe e r).mems = r.mems := by
  unfold Room.leaveSafe
  try dsimp only
  repeat' first
    | with_reducible rfl
    | with_reducible apply Room.mems_ite
    | with_reducible refine (Room.on_mems _ _).trans ?_
    | with_reducible refine (Room.off_mems _ _).trans ?_
    | with_reducible refine (Room.onConv_mems _ _).trans ?_
    | with_reducible refine (Room.retryClear_mems _).trans ?_
    | with_reducible refine (Room.pdClear_mems _ _).trans ?_
    | with_reducible refine (Room.setGrant_mems _ _).trans ?_
    | with_reducible refine (Room.enterA_mems _ _ _).trans ?_
    | with_reducible refine (Room.conClear_mems _ _).trans ?_
    | with_reducible refine (Room.mems_mk _ _ _ _ _ _ _ _ _ _ _ _ _ _ _ _ _ _ _).trans ?_
    | with_reducible refine (Room.mems_eta _).trans ?_
    | split

theorem Room.safeDetach_mems (e : Env) (r : Room) : (Room.safeDetach e r).mems = r.mems := by
  unfold Room.safeDetach
  try dsimp only
  repeat' first
    | with_reducible rfl
    | with_reducible apply Room.mems_ite
    | with_reducible refine (Room.on_mems _ _).trans ?_
    | with_reducible refine (Room.leaveSafe_mems _ _).trans ?_
    | split

theorem Room.enterSlotHold_mems (e : Env) (r : Room) : (Room.enterSlotHold e r).mems = r.mems := by
  unfold Room.enterSlotHold
  try dsimp only
  repeat' first
    | with_reducible rfl
    | with_reducible apply Room.mems_ite
    | with_reducible refine (Room.on_mems _ _).trans ?_
    | with_reducible refine (Room.pdClear_mems _ _).trans ?_
    | with_reducible refine (Room.setGrant_mems _ _).trans ?_
    | with_reducible refine (Room.enterA_mems _ _ _).trans ?_
    | with_reducible refine (Room.conClear_mems _ _).trans ?_
    | with_reducible refine (Room.outputsOff_mems _ _).trans ?_
    | with_reducible refine (Room.mems_mk _ _ _ _ _ _ _ _ _ _ _ _ _ _ _ _ _ _ _).trans ?_
    | with_reducible refine (Room.mems_eta _).trans ?_
    | split

theorem Room.leaveSlotHold_mems (e : Env) (r : Room) : (Room.leaveSlotHold e r).mems = r.mems := by
  unfold Room.leaveSlotHold
  try dsimp only
  repeat' first
    | with_reducible rfl
    | with_reducible apply Room.mems_ite
    | with_reducible refine (Room.restart_mems _ _).trans ?_
    | with_reducible refine (Room.terms_mems _ _).trans ?_
    | with_reducible refine (Room.mems_mk _ _ _ _ _ _ _ _ _ _ _ _ _ _ _ _ _ _ _).trans ?_
    | with_reducible refine (Room.mems_eta _).trans ?_
    | split

theorem Room.hardResetCause_mems (e : Env) (r : Room) : (Room.hardResetCause e r).mems = r.mems := by
  unfold Room.hardResetCause
  repeat' first
    | with_reducible rfl
    | with_reducible apply Room.mems_ite
    | with_reducible refine (Room.on_mems _ _).trans ?_
    | with_reducible refine (Room.onPd_mems _ _).trans ?_
    | with_reducible refine (Room.errorRecovery_mems _ _).trans ?_
    | with_reducible refine (Room.mems_mk _ _ _ _ _ _ _ _ _ _ _ _ _ _ _ _ _ _ _).trans ?_
    | with_reducible refine (Room.mems_eta _).trans ?_
    | split

theorem Room.startHr_mems (e : Env) (r : Room) : (Room.startHr e r).mems = r.mems := by
  unfold Room.startHr
  try dsimp only
  repeat' first
    | with_reducible rfl
    | with_reducible apply Room.mems_ite
    | with_reducible refine (Room.on_mems _ _).trans ?_
    | with_reducible refine (Room.off_mems _ _).trans ?_
    | with_reducible refine (Room.onCc_mems _ _).trans ?_
    | with_reducible refine (Room.onPd_mems _ _).trans ?_
    | with_reducible refine (Room.onCon_mems _ _).trans ?_
    | with_reducible refine (Room.txAbort_mems _ _).trans ?_
    | with_reducible refine (Room.pdReset_mems _).trans ?_
    | with_reducible refine (Room.errorRecovery_mems _ _).trans ?_
    | with_reducible refine (Room.endResv_mems _).trans ?_
    | with_reducible refine (Room.toStep_mems _ _ _).trans ?_
    | with_reducible refine (Room.endExplicit_mems _ _).trans ?_
    | with_reducible refine (Room.setGrant_mems _ _).trans ?_
    | with_reducible refine (Room.refreshIlim_mems _ _).trans ?_
    | with_reducible refine (Room.openSwitch_mems _).trans ?_
    | with_reducible refine (Room.loopOff_mems _).trans ?_
    | with_reducible refine (Room.refreshVlim_mems _ _).trans ?_
    | with_reducible refine (Room.mems_mk _ _ _ _ _ _ _ _ _ _ _ _ _ _ _ _ _ _ _).trans ?_
    | with_reducible refine (Room.mems_eta _).trans ?_
    | split

theorem Room.lostResume_mems (e : Env) (r : Room) : (Room.lostResume e r).mems = r.mems := by
  unfold Room.lostResume
  repeat' first
    | with_reducible rfl
    | with_reducible apply Room.mems_ite
    | with_reducible refine (Room.onCc_mems _ _).trans ?_
    | with_reducible refine (Room.mems_mk _ _ _ _ _ _ _ _ _ _ _ _ _ _ _ _ _ _ _).trans ?_
    | with_reducible refine (Room.mems_eta _).trans ?_
    | split

theorem Room.setVset_mems (e : Env) (mv : Nat) (r : Room) : (Room.setVset e mv r).mems = r.mems := by
  unfold Room.setVset
  repeat' first
    | with_reducible rfl
    | with_reducible apply Room.mems_ite
    | with_reducible refine (Room.put_mems _ _ _).trans ?_
    | with_reducible refine (Room.refreshIlim_mems _ _).trans ?_
    | split

theorem Room.rampTo_mems (e : Env) (mv : Nat) (r : Room) : (Room.rampTo e mv r).mems = r.mems := by
  unfold Room.rampTo
  try dsimp only
  repeat' first
    | with_reducible rfl
    | with_reducible apply Room.mems_ite
    | with_reducible refine (Room.off_mems _ _).trans ?_
    | with_reducible refine (Room.onCon_mems _ _).trans ?_
    | with_reducible refine (Room.setVset_mems _ _ _).trans ?_
    | with_reducible refine (Room.slewRate_mems _).trans ?_
    | with_reducible refine (Room.refreshRamp_mems _ _ _).trans ?_
    | with_reducible refine (Room.toStep_mems _ _ _).trans ?_
    | with_reducible refine (Room.mems_mk _ _ _ _ _ _ _ _ _ _ _ _ _ _ _ _ _ _ _).trans ?_
    | with_reducible refine (Room.mems_eta _).trans ?_
    | split

theorem Room.vsetRest_mems (e : Env) (r : Room) : (Room.vsetRest e r).mems = r.mems := by
  unfold Room.vsetRest
  repeat' first
    | with_reducible rfl
    | with_reducible apply Room.mems_ite
    | with_reducible refine (Room.rampTo_mems _ _ _).trans ?_
    | with_reducible refine (Room.setVset_mems _ _ _).trans ?_
    | split

theorem Room.sinkSwitch_mems (e : Env) (r : Room) : (Room.sinkSwitch e r).mems = r.mems := by
  unfold Room.sinkSwitch
  repeat' first
    | with_reducible rfl
    | with_reducible apply Room.mems_ite
    | with_reducible refine (Room.onConv_mems _ _).trans ?_
    | with_reducible refine (Room.closeSwitch_mems _ _).trans ?_
    | with_reducible refine (Room.openSwitch_mems _).trans ?_
    | with_reducible refine (Room.loopOff_mems _).trans ?_
    | with_reducible refine (Room.mems_mk _ _ _ _ _ _ _ _ _ _ _ _ _ _ _ _ _ _ _).trans ?_
    | with_reducible refine (Room.mems_eta _).trans ?_
    | split

theorem Room.endHr_mems (e : Env) (r : Room) : (Room.endHr e r).mems = r.mems := by
  unfold Room.endHr
  repeat' first
    | with_reducible rfl
    | with_reducible apply Room.mems_ite
    | with_reducible refine (Room.off_mems _ _).trans ?_
    | with_reducible refine (Room.lostResume_mems _ _).trans ?_
    | with_reducible refine (Room.vsetRest_mems _ _).trans ?_
    | with_reducible refine (Room.sinkSwitch_mems _ _).trans ?_
    | split

theorem Room.swapEnd_mems (e : Env) (r : Room) : (Room.swapEnd e r).mems = r.mems := by
  unfold Room.swapEnd
  try dsimp only
  repeat' first
    | with_reducible rfl
    | with_reducible apply Room.mems_ite
    | with_reducible refine (Room.on_mems _ _).trans ?_
    | with_reducible refine (Room.off_mems _ _).trans ?_
    | with_reducible refine (Room.onCon_mems _ _).trans ?_
    | with_reducible refine (Room.lostResume_mems _ _).trans ?_
    | with_reducible refine (Room.vsetRest_mems _ _).trans ?_
    | with_reducible refine (Room.mems_mk _ _ _ _ _ _ _ _ _ _ _ _ _ _ _ _ _ _ _).trans ?_
    | with_reducible refine (Room.mems_eta _).trans ?_
    | split

theorem Room.swapDone_mems (e : Env) (r : Room) : (Room.swapDone e r).mems = r.mems := by
  unfold Room.swapDone
  repeat' first
    | with_reducible rfl
    | with_reducible apply Room.mems_ite
    | with_reducible refine (Room.swapEnd_mems _ _).trans ?_
    | with_reducible refine (Room.endExplicit_mems _ _).trans ?_
    | with_reducible refine (Room.vsetRest_mems _ _).trans ?_
    | split

theorem Room.pdSilent_mems (r : Room) : (Room.pdSilent r).mems = r.mems := by
  unfold Room.pdSilent
  repeat' first
    | with_reducible rfl
    | with_reducible apply Room.mems_ite
    | with_reducible refine (Room.onPd_mems _ _).trans ?_
    | with_reducible refine (Room.txAbort_mems _ _).trans ?_
    | with_reducible refine (Room.mems_mk _ _ _ _ _ _ _ _ _ _ _ _ _ _ _ _ _ _ _).trans ?_
    | with_reducible refine (Room.mems_eta _).trans ?_
    | split

theorem Room.toShadow_mems (e : Env) (r : Room) : (Room.toShadow e r).mems = r.mems := by
  unfold Room.toShadow
  repeat' first
    | with_reducible rfl
    | with_reducible apply Room.mems_ite
    | with_reducible refine (Room.off_mems _ _).trans ?_
    | with_reducible refine (Room.onCc_mems _ _).trans ?_
    | with_reducible refine (Room.pdSilent_mems _).trans ?_
    | with_reducible refine (Room.setLoop_mems _ _).trans ?_
    | with_reducible refine (Room.terms_mems _ _).trans ?_
    | with_reducible refine (Room.mems_mk _ _ _ _ _ _ _ _ _ _ _ _ _ _ _ _ _ _ _).trans ?_
    | with_reducible refine (Room.mems_eta _).trans ?_
    | split

theorem Room.cutTo_mems (e : Env) (r : Room) (d : Nat) : (Room.cutTo e r d).mems = r.mems := by
  unfold Room.cutTo
  try dsimp only
  repeat' first
    | with_reducible rfl
    | with_reducible apply Room.mems_ite
    | with_reducible refine (Room.put_mems _ _ _).trans ?_
    | with_reducible refine (Room.onCon_mems _ _).trans ?_
    | with_reducible refine (Room.setGrant_mems _ _).trans ?_
    | with_reducible refine (Room.grantFell_mems _ _).trans ?_
    | with_reducible refine (Room.refreshIlim_mems _ _).trans ?_
    | with_reducible refine (Room.mems_mk _ _ _ _ _ _ _ _ _ _ _ _ _ _ _ _ _ _ _).trans ?_
    | with_reducible refine (Room.mems_eta _).trans ?_
    | split

theorem Room.transStart_mems (e : Env) (r : Room) : (Room.transStart e r).mems = r.mems := by
  unfold Room.transStart
  try dsimp only
  repeat' first
    | with_reducible rfl
    | with_reducible apply Room.mems_ite
    | with_reducible refine (Room.off_mems _ _).trans ?_
    | with_reducible refine (Room.onCon_mems _ _).trans ?_
    | with_reducible refine (Room.onConv_mems _ _).trans ?_
    | with_reducible refine (Room.setGrant_mems _ _).trans ?_
    | with_reducible refine (Room.endResv_mems _).trans ?_
    | with_reducible refine (Room.toStep_mems _ _ _).trans ?_
    | with_reducible refine (Room.refreshIlim_mems _ _).trans ?_
    | with_reducible refine (Room.mems_mk _ _ _ _ _ _ _ _ _ _ _ _ _ _ _ _ _ _ _).trans ?_
    | with_reducible refine (Room.mems_eta _).trans ?_
    | split

theorem Room.afterTrans_mems (e : Env) (r : Room) : (Room.afterTrans e r).mems = r.mems := by
  unfold Room.afterTrans
  try dsimp only
  repeat' first
    | with_reducible rfl
    | with_reducible apply Room.mems_ite
    | with_reducible refine (Room.off_mems _ _).trans ?_
    | with_reducible refine (Room.refreshIlim_mems _ _).trans ?_
    | with_reducible refine (Room.grantFell_mems _ _).trans ?_
    | with_reducible refine (Room.refreshVlim_mems _ _).trans ?_
    | with_reducible refine (Room.vlimDrop_mems _ _).trans ?_
    | split

theorem Room.transEnd_mems (e : Env) (r : Room) : (Room.transEnd e r).mems = r.mems := by
  unfold Room.transEnd
  try dsimp only
  repeat' first
    | with_reducible rfl
    | with_reducible apply Room.mems_ite
    | with_reducible refine (Room.put_mems _ _ _).trans ?_
    | with_reducible refine (Room.on_mems _ _).trans ?_
    | with_reducible refine (Room.off_mems _ _).trans ?_
    | with_reducible refine (Room.onCc_mems _ _).trans ?_
    | with_reducible refine (Room.onCon_mems _ _).trans ?_
    | with_reducible refine (Room.setGrant_mems _ _).trans ?_
    | with_reducible refine (Room.refreshIlim_mems _ _).trans ?_
    | with_reducible refine (Room.afterTrans_mems _ _).trans ?_
    | with_reducible refine (Room.mems_mk _ _ _ _ _ _ _ _ _ _ _ _ _ _ _ _ _ _ _).trans ?_
    | with_reducible refine (Room.mems_eta _).trans ?_
    | split

theorem Room.refReached_mems (e : Env) (r : Room) : (Room.refReached e r).mems = r.mems := by
  unfold Room.refReached
  try dsimp only
  repeat' first
    | with_reducible rfl
    | with_reducible apply Room.mems_ite
    | with_reducible refine (Room.onCon_mems _ _).trans ?_
    | with_reducible refine (Room.refreshRamp_mems _ _ _).trans ?_
    | with_reducible refine (Room.toStep_mems _ _ _).trans ?_
    | with_reducible refine (Room.mems_mk _ _ _ _ _ _ _ _ _ _ _ _ _ _ _ _ _ _ _).trans ?_
    | with_reducible refine (Room.mems_eta _).trans ?_
    | split

theorem Room.keepVconn_mems (r : Room) : (Room.keepVconn r).mems = r.mems := by
  unfold Room.keepVconn
  repeat' first
    | with_reducible rfl
    | with_reducible apply Room.mems_ite
    | with_reducible refine (Room.on_mems _ _).trans ?_
    | split

theorem Room.toSink_mems (e : Env) (r : Room) : (Room.toSink e r).mems = r.mems := by
  unfold Room.toSink
  try dsimp only
  repeat' first
    | with_reducible rfl
    | with_reducible apply Room.mems_ite
    | with_reducible refine (Room.onCc_mems _ _).trans ?_
    | with_reducible refine (Room.onConv_mems _ _).trans ?_
    | with_reducible refine (Room.keepVconn_mems _).trans ?_
    | with_reducible refine (Room.loopOff_mems _).trans ?_
    | with_reducible refine (Room.enterA_mems _ _ _).trans ?_
    | with_reducible refine (Room.implicitVi_mems _ _).trans ?_
    | with_reducible refine (Room.mems_mk _ _ _ _ _ _ _ _ _ _ _ _ _ _ _ _ _ _ _).trans ?_
    | with_reducible refine (Room.mems_eta _).trans ?_
    | split

theorem Room.toSource_mems (e : Env) (r : Room) : (Room.toSource e r).mems = r.mems := by
  unfold Room.toSource
  try dsimp only
  repeat' first
    | with_reducible rfl
    | with_reducible apply Room.mems_ite
    | with_reducible refine (Room.put_mems _ _ _).trans ?_
    | with_reducible refine (Room.onCc_mems _ _).trans ?_
    | with_reducible refine (Room.keepVconn_mems _).trans ?_
    | with_reducible refine (Room.enterA_mems _ _ _).trans ?_
    | with_reducible refine (Room.implicitVi_mems _ _).trans ?_
    | with_reducible refine (Room.mems_mk _ _ _ _ _ _ _ _ _ _ _ _ _ _ _ _ _ _ _).trans ?_
    | with_reducible refine (Room.mems_eta _).trans ?_
    | split

theorem Room.swapForward_mems (e : Env) (r : Room) : (Room.swapForward e r).mems = r.mems := by
  unfold Room.swapForward
  repeat' first
    | with_reducible rfl
    | with_reducible apply Room.mems_ite
    | with_reducible refine (Room.onConv_mems _ _).trans ?_
    | with_reducible refine (Room.loopStart_mems _ _).trans ?_
    | with_reducible refine (Room.mems_mk _ _ _ _ _ _ _ _ _ _ _ _ _ _ _ _ _ _ _).trans ?_
    | with_reducible refine (Room.mems_eta _).trans ?_
    | split

theorem Room.hwAsk_mems (e : Env) (w : Nat) (r : Room) : (Room.hwAsk e w r).mems = r.mems := by
  unfold Room.hwAsk
  repeat' first
    | with_reducible rfl
    | with_reducible apply Room.mems_ite
    | with_reducible refine (Room.ask_mems _ _ _ _).trans ?_
    | split

theorem Room.prSwapStart_mems (e : Env) (r : Room) : (Room.prSwapStart e r).mems = r.mems := by
  unfold Room.prSwapStart
  try dsimp only
  repeat' first
    | with_reducible rfl
    | with_reducible apply Room.mems_ite
    | with_reducible refine (Room.put_mems _ _ _).trans ?_
    | with_reducible refine (Room.off_mems _ _).trans ?_
    | with_reducible refine (Room.onCc_mems _ _).trans ?_
    | with_reducible refine (Room.onCon_mems _ _).trans ?_
    | with_reducible refine (Room.onConv_mems _ _).trans ?_
    | with_reducible refine (Room.toStep_mems _ _ _).trans ?_
    | with_reducible refine (Room.hwAsk_mems _ _ _).trans ?_
    | with_reducible refine (Room.mems_mk _ _ _ _ _ _ _ _ _ _ _ _ _ _ _ _ _ _ _).trans ?_
    | with_reducible refine (Room.mems_eta _).trans ?_
    | split

theorem Room.vconnSwapStart_mems (e : Env) (r : Room) : (Room.vconnSwapStart e r).mems = r.mems := by
  unfold Room.vconnSwapStart
  try dsimp only
  repeat' first
    | with_reducible rfl
    | with_reducible apply Room.mems_ite
    | with_reducible refine (Room.put_mems _ _ _).trans ?_
    | with_reducible refine (Room.onCon_mems _ _).trans ?_
    | with_reducible refine (Room.toStep_mems _ _ _).trans ?_
    | with_reducible refine (Room.mems_mk _ _ _ _ _ _ _ _ _ _ _ _ _ _ _ _ _ _ _).trans ?_
    | with_reducible refine (Room.mems_eta _).trans ?_
    | split

theorem Room.accepted_mems (e : Env) (re : Nat) (r : Room) : (Room.accepted e re r).mems = r.mems := by
  unfold Room.accepted
  repeat' first
    | with_reducible rfl
    | split
    | with_reducible apply Room.mems_ite
    | with_reducible refine (Room.transStart_mems _ _).trans ?_
    | with_reducible refine (Room.prSwapStart_mems _ _).trans ?_
    | with_reducible refine (Room.vconnSwapStart_mems _ _).trans ?_
    | with_reducible refine (Room.mems_mk _ _ _ _ _ _ _ _ _ _ _ _ _ _ _ _ _ _ _).trans ?_
    | with_reducible refine (Room.mems_eta _).trans ?_

theorem Room.frsTrigger_mems (e : Env) (r : Room) : (Room.frsTrigger e r).mems = r.mems := by
  unfold Room.frsTrigger
  try dsimp only
  repeat' first
    | with_reducible rfl
    | with_reducible apply Room.mems_ite
    | with_reducible refine (Room.put_mems _ _ _).trans ?_
    | with_reducible refine (Room.on_mems _ _).trans ?_
    | with_reducible refine (Room.off_mems _ _).trans ?_
    | with_reducible refine (Room.onCc_mems _ _).trans ?_
    | with_reducible refine (Room.onCon_mems _ _).trans ?_
    | with_reducible refine (Room.loopOff_mems _).trans ?_
    | with_reducible refine (Room.midRail_mems _).trans ?_
    | with_reducible refine (Room.toStep_mems _ _ _).trans ?_
    | with_reducible refine (Room.mems_mk _ _ _ _ _ _ _ _ _ _ _ _ _ _ _ _ _ _ _).trans ?_
    | with_reducible refine (Room.mems_eta _).trans ?_
    | split

theorem Room.psRdySent_mems (e : Env) (r : Room) : (Room.psRdySent e r).mems = r.mems := by
  unfold Room.psRdySent
  repeat' first
    | with_reducible rfl
    | split
    | with_reducible apply Room.mems_ite
    | with_reducible refine (Room.onCon_mems _ _).trans ?_
    | with_reducible refine (Room.toStep_mems _ _ _).trans ?_
    | with_reducible refine (Room.swapDone_mems _ _).trans ?_
    | with_reducible refine (Room.swapEnd_mems _ _).trans ?_
    | with_reducible refine (Room.transEnd_mems _ _).trans ?_
    | with_reducible refine (Room.mems_mk _ _ _ _ _ _ _ _ _ _ _ _ _ _ _ _ _ _ _).trans ?_
    | with_reducible refine (Room.mems_eta _).trans ?_

theorem Room.sinkDone_mems (e : Env) (r : Room) : (Room.sinkDone e r).mems = r.mems := by
  unfold Room.sinkDone
  repeat' first
    | with_reducible rfl
    | with_reducible apply Room.mems_ite
    | with_reducible refine (Room.swapDone_mems _ _).trans ?_
    | with_reducible refine (Room.setGrant_mems _ _).trans ?_
    | with_reducible refine (Room.refreshIlim_mems _ _).trans ?_
    | split

theorem Room.psRdyReceived_mems (e : Env) (r : Room) : (Room.psRdyReceived e r).mems = r.mems := by
  unfold Room.psRdyReceived
  try dsimp only
  repeat' first
    | with_reducible rfl
    | split
    | with_reducible apply Room.mems_ite
    | with_reducible refine (Room.off_mems _ _).trans ?_
    | with_reducible refine (Room.onCc_mems _ _).trans ?_
    | with_reducible refine (Room.onCon_mems _ _).trans ?_
    | with_reducible refine (Room.sinkDone_mems _ _).trans ?_
    | with_reducible refine (Room.setGrant_mems _ _).trans ?_
    | with_reducible refine (Room.endResv_mems _).trans ?_
    | with_reducible refine (Room.errorRecovery_mems _ _).trans ?_
    | with_reducible refine (Room.toSource_mems _ _).trans ?_
    | with_reducible refine (Room.swapForward_mems _ _).trans ?_
    | with_reducible refine (Room.toStep_mems _ _ _).trans ?_
    | with_reducible refine (Room.vconn_mems _ _).trans ?_
    | with_reducible refine (Room.swapEnd_mems _ _).trans ?_
    | with_reducible refine (Room.transEnd_mems _ _).trans ?_
    | with_reducible refine (Room.mems_mk _ _ _ _ _ _ _ _ _ _ _ _ _ _ _ _ _ _ _).trans ?_
    | with_reducible refine (Room.mems_eta _).trans ?_

theorem Room.putE48_mems (r : Room) (off : Nat) (v : Nat) : (Room.putE48 r off v).mems = r.mems := by
  unfold Room.putE48
  repeat' first
    | with_reducible rfl
    | with_reducible apply Room.mems_ite
    | with_reducible refine (Room.mems_mk _ _ _ _ _ _ _ _ _ _ _ _ _ _ _ _ _ _ _).trans ?_
    | with_reducible refine (Room.mems_eta _).trans ?_
    | split

theorem Room.addEnergy_mems (q : Int) (r : Room) : (Room.addEnergy q r).mems = r.mems := by
  unfold Room.addEnergy
  try dsimp only
  repeat' first
    | with_reducible rfl
    | with_reducible apply Room.mems_ite
    | with_reducible refine (Room.putE48_mems _ _ _).trans ?_
    | with_reducible refine (Room.mems_mk _ _ _ _ _ _ _ _ _ _ _ _ _ _ _ _ _ _ _).trans ?_
    | with_reducible refine (Room.mems_eta _).trans ?_
    | split

theorem Room.attachSrc_mems (e : Env) (rp : Nat) (r : Room) : (Room.attachSrc e rp r).mems = r.mems := by
  unfold Room.attachSrc
  try dsimp only
  repeat' first
    | with_reducible rfl
    | with_reducible apply Room.mems_ite
    | with_reducible refine (Room.put_mems _ _ _).trans ?_
    | with_reducible refine (Room.on_mems _ _).trans ?_
    | with_reducible refine (Room.putB_mems _ _ _).trans ?_
    | with_reducible refine (Room.onCc_mems _ _).trans ?_
    | with_reducible refine (Room.onPd_mems _ _).trans ?_
    | with_reducible refine (Room.enterA_mems _ _ _).trans ?_
    | with_reducible refine (Room.implicitVi_mems _ _).trans ?_
    | with_reducible refine (Room.refreshVlim_mems _ _).trans ?_
    | with_reducible refine (Room.closeSwitch_mems _ _).trans ?_
    | with_reducible refine (Room.loopStart_mems _ _).trans ?_
    | with_reducible refine (Room.mems_mk _ _ _ _ _ _ _ _ _ _ _ _ _ _ _ _ _ _ _).trans ?_
    | with_reducible refine (Room.mems_eta _).trans ?_
    | split

theorem Room.attachSnk_mems (e : Env) (r : Room) : (Room.attachSnk e r).mems = r.mems := by
  unfold Room.attachSnk
  try dsimp only
  repeat' first
    | with_reducible rfl
    | with_reducible apply Room.mems_ite
    | with_reducible refine (Room.on_mems _ _).trans ?_
    | with_reducible refine (Room.off_mems _ _).trans ?_
    | with_reducible refine (Room.putB_mems _ _ _).trans ?_
    | with_reducible refine (Room.onCc_mems _ _).trans ?_
    | with_reducible refine (Room.onPd_mems _ _).trans ?_
    | with_reducible refine (Room.onConv_mems _ _).trans ?_
    | with_reducible refine (Room.enterA_mems _ _ _).trans ?_
    | with_reducible refine (Room.implicitVi_mems _ _).trans ?_
    | with_reducible refine (Room.refreshVlim_mems _ _).trans ?_
    | with_reducible refine (Room.closeSwitch_mems _ _).trans ?_
    | with_reducible refine (Room.mems_mk _ _ _ _ _ _ _ _ _ _ _ _ _ _ _ _ _ _ _).trans ?_
    | with_reducible refine (Room.mems_eta _).trans ?_
    | split

theorem Room.takeExit_mems (e : Env) (x : Exit) (r : Room) : (Room.takeExit e x r).mems = r.mems := by
  unfold Room.takeExit
  try dsimp only
  repeat' first
    | with_reducible rfl
    | split
    | with_reducible apply Room.mems_ite
    | with_reducible refine (Room.on_mems _ _).trans ?_
    | with_reducible refine (Room.onCc_mems _ _).trans ?_
    | with_reducible refine (Room.enterA_mems _ _ _).trans ?_
    | with_reducible refine (Room.attachSnk_mems _ _).trans ?_
    | with_reducible refine (Room.ask_mems _ _ _ _).trans ?_
    | with_reducible refine (Room.detach_mems _ _).trans ?_
    | with_reducible refine (Room.mems_mk _ _ _ _ _ _ _ _ _ _ _ _ _ _ _ _ _ _ _).trans ?_
    | with_reducible refine (Room.mems_eta _).trans ?_

theorem Room.advance_mems (e : Env) (tags : List Tag) (r : Room) : (Room.advance e tags r).mems = r.mems := by
  unfold Room.advance
  repeat' first
    | with_reducible rfl
    | split
    | with_reducible apply Room.mems_ite
    | with_reducible refine (Room.safeDetach_mems _ _).trans ?_
    | with_reducible refine (Room.takeExit_mems _ _ _).trans ?_
    | with_reducible refine (Room.mems_mk _ _ _ _ _ _ _ _ _ _ _ _ _ _ _ _ _ _ _).trans ?_
    | with_reducible refine (Room.mems_eta _).trans ?_

theorem Room.enable_mems (e : Env) (r : Room) : (Room.enable e r).mems = r.mems := by
  unfold Room.enable
  try dsimp only
  repeat' first
    | with_reducible rfl
    | with_reducible apply Room.mems_ite
    | with_reducible refine (Room.on_mems _ _).trans ?_
    | with_reducible refine (Room.enterA_mems _ _ _).trans ?_
    | split

theorem Room.disable_mems (e : Env) (r : Room) : (Room.disable e r).mems = r.mems := by
  unfold Room.disable
  try dsimp only
  repeat' first
    | with_reducible rfl
    | with_reducible apply Room.mems_ite
    | with_reducible refine (Room.off_mems _ _).trans ?_
    | with_reducible refine (Room.pdClear_mems _ _).trans ?_
    | with_reducible refine (Room.setGrant_mems _ _).trans ?_
    | with_reducible refine (Room.startRemoval_mems _ _).trans ?_
    | with_reducible refine (Room.openSwitch_mems _).trans ?_
    | with_reducible refine (Room.loopOff_mems _).trans ?_
    | with_reducible refine (Room.enterA_mems _ _ _).trans ?_
    | with_reducible refine (Room.conClear_mems _ _).trans ?_
    | split

theorem Room.newLevels_mems (e : Env) (l1 : Nat) (l2 : Nat) (r : Room) : (Room.newLevels e l1 l2 r).mems = r.mems := by
  unfold Room.newLevels
  try dsimp only
  repeat' first
    | with_reducible rfl
    | with_reducible apply Room.mems_ite
    | with_reducible refine (Room.put_mems _ _ _).trans ?_
    | with_reducible refine (Room.onCc_mems _ _).trans ?_
    | with_reducible refine (Room.audioOff_mems _).trans ?_
    | with_reducible refine (Room.refreshPartner_mems _).trans ?_
    | with_reducible refine (Room.implicitVi_mems _ _).trans ?_
    | with_reducible refine (Room.mems_mk _ _ _ _ _ _ _ _ _ _ _ _ _ _ _ _ _ _ _).trans ?_
    | with_reducible refine (Room.mems_eta _).trans ?_
    | split

theorem Room.seenLevels_mems (e : Env) (l1 : Nat) (l2 : Nat) (r : Room) : (Room.seenLevels e l1 l2 r).mems = r.mems := by
  unfold Room.seenLevels
  try dsimp only
  repeat' first
    | with_reducible rfl
    | with_reducible apply Room.mems_ite
    | with_reducible refine (Room.put_mems _ _ _).trans ?_
    | with_reducible refine (Room.onCc_mems _ _).trans ?_
    | with_reducible refine (Room.shadowRp_mems _).trans ?_
    | with_reducible refine (Room.mems_mk _ _ _ _ _ _ _ _ _ _ _ _ _ _ _ _ _ _ _).trans ?_
    | with_reducible refine (Room.mems_eta _).trans ?_
    | split

theorem Room.attachAnswer_mems (e : Env) (w : Nat) (r : Room) : (Room.attachAnswer e w r).mems = r.mems := by
  unfold Room.attachAnswer
  try dsimp only
  repeat' first
    | with_reducible rfl
    | with_reducible apply Room.mems_ite
    | with_reducible refine (Room.on_mems _ _).trans ?_
    | with_reducible refine (Room.onCc_mems _ _).trans ?_
    | with_reducible refine (Room.setGrant_mems _ _).trans ?_
    | with_reducible refine (Room.attachSrc_mems _ _ _).trans ?_
    | with_reducible refine (Room.mems_mk _ _ _ _ _ _ _ _ _ _ _ _ _ _ _ _ _ _ _).trans ?_
    | with_reducible refine (Room.mems_eta _).trans ?_
    | split

theorem Room.newVbus_mems (e : Env) (mv : Nat) (r : Room) : (Room.newVbus e mv r).mems = r.mems := by
  unfold Room.newVbus
  try dsimp only
  repeat' first
    | with_reducible rfl
    | with_reducible apply Room.mems_ite
    | with_reducible refine (Room.putB_mems _ _ _).trans ?_
    | with_reducible refine (Room.onCc_mems _ _).trans ?_
    | with_reducible refine (Room.mems_mk _ _ _ _ _ _ _ _ _ _ _ _ _ _ _ _ _ _ _).trans ?_
    | with_reducible refine (Room.mems_eta _).trans ?_
    | split

theorem Room.writeVconnEn_mems (e : Env) (en : Bool) (r : Room) : (Room.writeVconnEn e en r).mems = r.mems := by
  unfold Room.writeVconnEn
  repeat' first
    | with_reducible rfl
    | with_reducible apply Room.mems_ite
    | with_reducible refine (Room.on_mems _ _).trans ?_
    | with_reducible refine (Room.off_mems _ _).trans ?_
    | with_reducible refine (Room.putB_mems _ _ _).trans ?_
    | with_reducible refine (Room.vconn_mems _ _).trans ?_
    | split

theorem Room.ccOver_mems (now : Nat) (cc2 : Bool) (above : Bool) (r : Room) : (Room.ccOver now cc2 above r).mems = r.mems := by
  unfold Room.ccOver
  try dsimp only
  repeat' first
    | with_reducible rfl
    | with_reducible apply Room.mems_ite
    | with_reducible refine (Room.putB_mems _ _ _).trans ?_
    | with_reducible refine (Room.onCc_mems _ _).trans ?_
    | with_reducible refine (Room.mems_mk _ _ _ _ _ _ _ _ _ _ _ _ _ _ _ _ _ _ _).trans ?_
    | with_reducible refine (Room.mems_eta _).trans ?_
    | split

theorem Room.frsAnswer_mems (e : Env) (r : Room) : (Room.frsAnswer e r).mems = r.mems := by
  unfold Room.frsAnswer
  try dsimp only
  repeat' first
    | with_reducible rfl
    | with_reducible apply Room.mems_ite
    | with_reducible refine (Room.onPd_mems _ _).trans ?_
    | with_reducible refine (Room.onCon_mems _ _).trans ?_
    | with_reducible refine (Room.setGrant_mems _ _).trans ?_
    | with_reducible refine (Room.endResv_mems _).trans ?_
    | with_reducible refine (Room.toStep_mems _ _ _).trans ?_
    | with_reducible refine (Room.refreshIlim_mems _ _).trans ?_
    | with_reducible refine (Room.lostResume_mems _ _).trans ?_
    | with_reducible refine (Room.mems_mk _ _ _ _ _ _ _ _ _ _ _ _ _ _ _ _ _ _ _).trans ?_
    | with_reducible refine (Room.mems_eta _).trans ?_
    | split

theorem Room.writeVset_mems (e : Env) (mv : Nat) (r : Room) : (Room.writeVset e mv r).mems = r.mems := by
  unfold Room.writeVset
  try dsimp only
  repeat' first
    | with_reducible rfl
    | with_reducible apply Room.mems_ite
    | with_reducible refine (Room.rampTo_mems _ _ _).trans ?_
    | with_reducible refine (Room.refReached_mems _ _).trans ?_
    | with_reducible refine (Room.setVset_mems _ _ _).trans ?_
    | split

theorem Room.thermTrip_mems (e : Env) (r : Room) : (Room.thermTrip e r).mems = r.mems := by
  unfold Room.thermTrip
  try dsimp only
  repeat' first
    | with_reducible rfl
    | with_reducible apply Room.mems_ite
    | with_reducible refine (Room.put_mems _ _ _).trans ?_
    | with_reducible refine (Room.on_mems _ _).trans ?_
    | with_reducible refine (Room.onConv_mems _ _).trans ?_
    | with_reducible refine (Room.enterSafe_mems _ _ _ _).trans ?_
    | with_reducible refine (Room.mems_mk _ _ _ _ _ _ _ _ _ _ _ _ _ _ _ _ _ _ _).trans ?_
    | with_reducible refine (Room.mems_eta _).trans ?_
    | split

theorem Room.applyMode_mems (e : Env) (m : Nat) (epoch : Nat) (r : Room) : (Room.applyMode e m epoch r).mems = r.mems := by
  unfold Room.applyMode
  try dsimp only
  repeat' first
    | with_reducible rfl
    | with_reducible apply Room.mems_ite
    | with_reducible refine (Room.put_mems _ _ _).trans ?_
    | with_reducible refine (Room.on_mems _ _).trans ?_
    | with_reducible refine (Room.onCon_mems _ _).trans ?_
    | with_reducible refine (Room.shed_mems _ _).trans ?_
    | with_reducible refine (Room.refreshIlim_mems _ _).trans ?_
    | with_reducible refine (Room.mems_mk _ _ _ _ _ _ _ _ _ _ _ _ _ _ _ _ _ _ _).trans ?_
    | with_reducible refine (Room.mems_eta _).trans ?_
    | split

theorem Room.fallBack_mems (e : Env) (r : Room) : (Room.fallBack e r).mems = r.mems := by
  unfold Room.fallBack
  try dsimp only
  repeat' first
    | with_reducible rfl
    | with_reducible apply Room.mems_ite
    | with_reducible refine (Room.onCon_mems _ _).trans ?_
    | with_reducible refine (Room.hardResetCause_mems _ _).trans ?_
    | with_reducible refine (Room.refreshIlim_mems _ _).trans ?_
    | with_reducible refine (Room.mems_mk _ _ _ _ _ _ _ _ _ _ _ _ _ _ _ _ _ _ _).trans ?_
    | with_reducible refine (Room.mems_eta _).trans ?_
    | split

theorem Room.say_mems (m : TxMsg) (r : Room) : (Room.say m r).mems = r.mems := by
  unfold Room.say
  repeat' first
    | with_reducible rfl
    | with_reducible apply Room.mems_ite
    | with_reducible refine (Room.onPd_mems _ _).trans ?_
    | with_reducible refine (Room.mems_mk _ _ _ _ _ _ _ _ _ _ _ _ _ _ _ _ _ _ _).trans ?_
    | with_reducible refine (Room.mems_eta _).trans ?_
    | split

theorem Room.setRev_mems (k : Pkt) (r : Room) : (Room.setRev k r).mems = r.mems := by
  unfold Room.setRev
  try dsimp only
  repeat' first
    | with_reducible rfl
    | with_reducible apply Room.mems_ite
    | with_reducible refine (Room.put_mems _ _ _).trans ?_
    | with_reducible refine (Room.on_mems _ _).trans ?_
    | split

theorem Room.showRx_mems (r : Room) : (Room.showRx r).mems = r.mems := by
  unfold Room.showRx
  try dsimp only
  repeat' first
    | with_reducible rfl
    | split
    | with_reducible apply Room.mems_ite
    | with_reducible refine (Room.put_mems _ _ _).trans ?_
    | with_reducible refine (Room.on_mems _ _).trans ?_
    | with_reducible refine (Room.putB_mems _ _ _).trans ?_
    | with_reducible refine (Room.clearRx_mems _).trans ?_
    | with_reducible refine (Room.mems_mk _ _ _ _ _ _ _ _ _ _ _ _ _ _ _ _ _ _ _).trans ?_
    | with_reducible refine (Room.mems_eta _).trans ?_

theorem Room.count_mems (f : Field) (r : Room) : (Room.count f r).mems = r.mems := by
  unfold Room.count
  repeat' first
    | with_reducible rfl
    | with_reducible apply Room.mems_ite
    | with_reducible refine (Room.put_mems _ _ _).trans ?_
    | split

theorem Room.noChunks_mems (r : Room) : (Room.noChunks r).mems = r.mems := by
  unfold Room.noChunks
  repeat' first
    | with_reducible rfl
    | with_reducible apply Room.mems_ite
    | with_reducible refine (Room.onPd_mems _ _).trans ?_
    | with_reducible refine (Room.mems_mk _ _ _ _ _ _ _ _ _ _ _ _ _ _ _ _ _ _ _).trans ?_
    | with_reducible refine (Room.mems_eta _).trans ?_
    | split

theorem Room.dropPartial_mems (r : Room) : (Room.dropPartial r).mems = r.mems := by
  unfold Room.dropPartial
  repeat' first
    | with_reducible rfl
    | with_reducible apply Room.mems_ite
    | with_reducible refine (Room.on_mems _ _).trans ?_
    | with_reducible refine (Room.onPd_mems _ _).trans ?_
    | with_reducible refine (Room.mems_mk _ _ _ _ _ _ _ _ _ _ _ _ _ _ _ _ _ _ _).trans ?_
    | with_reducible refine (Room.mems_eta _).trans ?_
    | split

theorem Room.heard_mems (e : Env) (sop : Nat) (r : Room) : (Room.heard e sop r).mems = r.mems := by
  unfold Room.heard
  repeat' first
    | with_reducible rfl
    | with_reducible apply Room.mems_ite
    | with_reducible refine (Room.onPd_mems _ _).trans ?_
    | with_reducible refine (Room.mems_mk _ _ _ _ _ _ _ _ _ _ _ _ _ _ _ _ _ _ _).trans ?_
    | with_reducible refine (Room.mems_eta _).trans ?_
    | split

theorem Room.discard_mems (e : Env) (f : Field) (r : Room) : (Room.discard e f r).mems = r.mems := by
  unfold Room.discard
  repeat' first
    | with_reducible rfl
    | with_reducible apply Room.mems_ite
    | with_reducible refine (Room.onPd_mems _ _).trans ?_
    | with_reducible refine (Room.count_mems _ _).trans ?_
    | with_reducible refine (Room.mems_mk _ _ _ _ _ _ _ _ _ _ _ _ _ _ _ _ _ _ _).trans ?_
    | with_reducible refine (Room.mems_eta _).trans ?_
    | split

theorem Room.receive_mems (e : Env) (k : Pkt) (r : Room) : (Room.receive e k r).mems = r.mems := by
  unfold Room.receive
  try dsimp only
  repeat' first
    | with_reducible rfl
    | split
    | with_reducible apply Room.mems_ite
    | with_reducible refine (Room.on_mems _ _).trans ?_
    | with_reducible refine (Room.onPd_mems _ _).trans ?_
    | with_reducible refine (Room.count_mems _ _).trans ?_
    | with_reducible refine (Room.mems_mk _ _ _ _ _ _ _ _ _ _ _ _ _ _ _ _ _ _ _).trans ?_
    | with_reducible refine (Room.mems_eta _).trans ?_

theorem Room.holdTx_mems (r : Room) : (Room.holdTx r).mems = r.mems := by
  unfold Room.holdTx
  try dsimp only
  repeat' first
    | with_reducible rfl
    | with_reducible apply Room.mems_ite
    | with_reducible refine (Room.put_mems _ _ _).trans ?_
    | with_reducible refine (Room.on_mems _ _).trans ?_
    | split

theorem Room.txLost_mems (code : Nat) (r : Room) : (Room.txLost code r).mems = r.mems := by
  unfold Room.txLost
  try dsimp only
  repeat' first
    | with_reducible rfl
    | with_reducible apply Room.mems_ite
    | with_reducible refine (Room.onPd_mems _ _).trans ?_
    | with_reducible refine (Room.txEnd_mems _ _).trans ?_
    | with_reducible refine (Room.endResv_mems _).trans ?_
    | with_reducible refine (Room.mems_mk _ _ _ _ _ _ _ _ _ _ _ _ _ _ _ _ _ _ _).trans ?_
    | with_reducible refine (Room.mems_eta _).trans ?_
    | split

theorem Room.softClear_mems (id : Option Nat) (r : Room) : (Room.softClear id r).mems = r.mems := by
  unfold Room.softClear
  try dsimp only
  repeat' first
    | with_reducible rfl
    | with_reducible apply Room.mems_ite
    | with_reducible refine (Room.onPd_mems _ _).trans ?_
    | with_reducible refine (Room.noChunks_mems _).trans ?_
    | with_reducible refine (Room.txLost_mems _ _).trans ?_
    | with_reducible refine (Room.mems_mk _ _ _ _ _ _ _ _ _ _ _ _ _ _ _ _ _ _ _).trans ?_
    | with_reducible refine (Room.mems_eta _).trans ?_
    | split

theorem Room.bistRx_mems (e : Env) (k : Pkt) (r : Room) : (Room.bistRx e k r).mems = r.mems := by
  unfold Room.bistRx
  repeat' first
    | with_reducible rfl
    | split
    | with_reducible apply Room.mems_ite
    | with_reducible refine (Room.on_mems _ _).trans ?_
    | with_reducible refine (Room.onPd_mems _ _).trans ?_
    | with_reducible refine (Room.mems_mk _ _ _ _ _ _ _ _ _ _ _ _ _ _ _ _ _ _ _).trans ?_
    | with_reducible refine (Room.mems_eta _).trans ?_

theorem Room.eprMode_mems (e : Env) (k : Pkt) (r : Room) : (Room.eprMode e k r).mems = r.mems := by
  unfold Room.eprMode
  repeat' first
    | with_reducible rfl
    | split
    | with_reducible apply Room.mems_ite
    | with_reducible refine (Room.on_mems _ _).trans ?_
    | with_reducible refine (Room.off_mems _ _).trans ?_
    | with_reducible refine (Room.refreshVlim_mems _ _).trans ?_
    | with_reducible refine (Room.mems_mk _ _ _ _ _ _ _ _ _ _ _ _ _ _ _ _ _ _ _).trans ?_
    | with_reducible refine (Room.mems_eta _).trans ?_

theorem Room.answered_mems (e : Env) (av : Nat) (k : Pkt) (r : Room) : (Room.answered e av k r).mems = r.mems := by
  unfold Room.answered
  try dsimp only
  repeat' first
    | with_reducible rfl
    | split
    | with_reducible apply Room.mems_ite
    | with_reducible refine (Room.onPd_mems _ _).trans ?_
    | with_reducible refine (Room.onCon_mems _ _).trans ?_
    | with_reducible refine (Room.accepted_mems _ _ _).trans ?_
    | with_reducible refine (Room.hardResetCause_mems _ _).trans ?_
    | with_reducible refine (Room.toStep_mems _ _ _).trans ?_
    | with_reducible refine (Room.mems_mk _ _ _ _ _ _ _ _ _ _ _ _ _ _ _ _ _ _ _).trans ?_
    | with_reducible refine (Room.mems_eta _).trans ?_

theorem Room.coreEffects_mems (e : Env) (av : Nat) (k : Pkt) (r : Room) : (Room.coreEffects e av k r).mems = r.mems := by
  unfold Room.coreEffects
  repeat' first
    | with_reducible rfl
    | with_reducible apply Room.mems_ite
    | with_reducible refine (Room.answered_mems _ _ _ _).trans ?_
    | with_reducible refine (Room.psRdyReceived_mems _ _).trans ?_
    | with_reducible refine (Room.eprMode_mems _ _ _).trans ?_
    | split

theorem Room.chunkRequest_mems (k : Pkt) (r : Room) : (Room.chunkRequest k r).mems = r.mems := by
  unfold Room.chunkRequest
  repeat' first
    | with_reducible rfl
    | split
    | with_reducible apply Room.mems_ite
    | with_reducible refine (Room.on_mems _ _).trans ?_
    | with_reducible refine (Room.onPd_mems _ _).trans ?_
    | with_reducible refine (Room.txEnd_mems _ _).trans ?_
    | with_reducible refine (Room.mems_mk _ _ _ _ _ _ _ _ _ _ _ _ _ _ _ _ _ _ _).trans ?_
    | with_reducible refine (Room.mems_eta _).trans ?_

theorem Room.cableReset_mems (e : Env) (r : Room) : (Room.cableReset e r).mems = r.mems := by
  unfold Room.cableReset
  try dsimp only
  repeat' first
    | with_reducible rfl
    | with_reducible apply Room.mems_ite
    | with_reducible refine (Room.off_mems _ _).trans ?_
    | with_reducible refine (Room.onPd_mems _ _).trans ?_
    | with_reducible refine (Room.refreshCable_mems _ _).trans ?_
    | with_reducible refine (Room.mems_mk _ _ _ _ _ _ _ _ _ _ _ _ _ _ _ _ _ _ _).trans ?_
    | with_reducible refine (Room.mems_eta _).trans ?_
    | split

theorem Room.cableDue_mems (e : Env) (r : Room) : (Room.cableDue e r).mems = r.mems := by
  unfold Room.cableDue
  repeat' first
    | with_reducible rfl
    | with_reducible apply Room.mems_ite
    | with_reducible refine (Room.onPd_mems _ _).trans ?_
    | with_reducible refine (Room.cableReset_mems _ _).trans ?_
    | with_reducible refine (Room.mems_mk _ _ _ _ _ _ _ _ _ _ _ _ _ _ _ _ _ _ _).trans ?_
    | with_reducible refine (Room.mems_eta _).trans ?_
    | split

theorem Room.cableAnswer_mems (e : Env) (k : Pkt) (r : Room) : (Room.cableAnswer e k r).mems = r.mems := by
  unfold Room.cableAnswer
  try dsimp only
  repeat' first
    | with_reducible rfl
    | split
    | with_reducible apply Room.mems_ite
    | with_reducible refine (Room.put_mems _ _ _).trans ?_
    | with_reducible refine (Room.on_mems _ _).trans ?_
    | with_reducible refine (Room.onPd_mems _ _).trans ?_
    | with_reducible refine (Room.refreshCable_mems _ _).trans ?_
    | with_reducible refine (Room.mems_mk _ _ _ _ _ _ _ _ _ _ _ _ _ _ _ _ _ _ _).trans ?_
    | with_reducible refine (Room.mems_eta _).trans ?_

theorem Room.followVdm_mems (e : Env) (r : Room) : (Room.followVdm e r).mems = r.mems := by
  unfold Room.followVdm
  repeat' first
    | with_reducible rfl
    | with_reducible apply Room.mems_ite
    | with_reducible refine (Room.sinkTxNg_mems _ _).trans ?_
    | split

theorem Room.queueTx_mems (e : Env) (m : TxMsg) (r : Room) : (Room.queueTx e m r).mems = r.mems := by
  unfold Room.queueTx
  try dsimp only
  repeat' first
    | with_reducible rfl
    | with_reducible apply Room.mems_ite
    | with_reducible refine (Room.put_mems _ _ _).trans ?_
    | with_reducible refine (Room.sinkTxNg_mems _ _).trans ?_
    | split

theorem Room.replySent_mems (e : Env) (m : TxMsg) (r : Room) : (Room.replySent e m r).mems = r.mems := by
  unfold Room.replySent
  repeat' first
    | with_reducible rfl
    | split
    | with_reducible apply Room.mems_ite
    | with_reducible refine (Room.put_mems _ _ _).trans ?_
    | with_reducible refine (Room.onCon_mems _ _).trans ?_
    | with_reducible refine (Room.toSink_mems _ _).trans ?_
    | with_reducible refine (Room.toStep_mems _ _ _).trans ?_
    | with_reducible refine (Room.mems_mk _ _ _ _ _ _ _ _ _ _ _ _ _ _ _ _ _ _ _).trans ?_
    | with_reducible refine (Room.mems_eta _).trans ?_

theorem Room.takeNeg_mems (r : Room) : (Room.takeNeg r).mems = r.mems := by
  unfold Room.takeNeg
  repeat' first
    | with_reducible rfl
    | with_reducible apply Room.mems_ite
    | with_reducible refine (Room.onCon_mems _ _).trans ?_
    | with_reducible refine (Room.mems_mk _ _ _ _ _ _ _ _ _ _ _ _ _ _ _ _ _ _ _).trans ?_
    | with_reducible refine (Room.mems_eta _).trans ?_
    | split

theorem Room.observe_mems (k : Pkt) (r : Room) : (Room.observe k r).mems = r.mems := by
  unfold Room.observe
  repeat' first
    | with_reducible rfl
    | with_reducible apply Room.mems_ite
    | with_reducible refine (Room.onPd_mems _ _).trans ?_
    | with_reducible refine (Room.mems_mk _ _ _ _ _ _ _ _ _ _ _ _ _ _ _ _ _ _ _).trans ?_
    | with_reducible refine (Room.mems_eta _).trans ?_
    | split

theorem Room.hardSignal_mems (e : Env) (r : Room) : (Room.hardSignal e r).mems = r.mems := by
  unfold Room.hardSignal
  repeat' first
    | with_reducible rfl
    | with_reducible apply Room.mems_ite
    | with_reducible refine (Room.on_mems _ _).trans ?_
    | with_reducible refine (Room.pdReset_mems _).trans ?_
    | with_reducible refine (Room.startHr_mems _ _).trans ?_
    | split

theorem Room.discover_mems (e : Env) (tries : Nat) (r : Room) : (Room.discover e tries r).mems = r.mems := by
  unfold Room.discover
  repeat' first
    | with_reducible rfl
    | with_reducible apply Room.mems_ite
    | with_reducible refine (Room.put_mems _ _ _).trans ?_
    | with_reducible refine (Room.onPd_mems _ _).trans ?_
    | with_reducible refine (Room.say_mems _ _).trans ?_
    | with_reducible refine (Room.refreshCable_mems _ _).trans ?_
    | with_reducible refine (Room.mems_mk _ _ _ _ _ _ _ _ _ _ _ _ _ _ _ _ _ _ _).trans ?_
    | with_reducible refine (Room.mems_eta _).trans ?_
    | split

theorem Room.hrCounted_mems (r : Room) : (Room.hrCounted r).mems = r.mems := by
  unfold Room.hrCounted
  repeat' first
    | with_reducible rfl
    | with_reducible apply Room.mems_ite
    | with_reducible refine (Room.put_mems _ _ _).trans ?_
    | split

theorem Room.startCore_mems (now : Nat) (entry : Nat) (r : Room) : (Room.startCore now entry r).mems = r.mems := by
  unfold Room.startCore
  try dsimp only
  repeat' first
    | with_reducible rfl
    | with_reducible apply Room.mems_ite
    | with_reducible refine (Room.put_mems _ _ _).trans ?_
    | with_reducible refine (Room.on_mems _ _).trans ?_
    | with_reducible refine (Room.onCore_mems _ _).trans ?_
    | with_reducible refine (Room.mems_mk _ _ _ _ _ _ _ _ _ _ _ _ _ _ _ _ _ _ _).trans ?_
    | with_reducible refine (Room.mems_eta _).trans ?_
    | split

theorem Room.senseHoldOn_mems (e : Env) (r : Room) : (Room.senseHoldOn e r).mems = r.mems := by
  unfold Room.senseHoldOn
  repeat' first
    | with_reducible rfl
    | with_reducible apply Room.mems_ite
    | with_reducible refine (Room.onConv_mems _ _).trans ?_
    | with_reducible refine (Room.refreshIlim_mems _ _).trans ?_
    | with_reducible refine (Room.mems_mk _ _ _ _ _ _ _ _ _ _ _ _ _ _ _ _ _ _ _).trans ?_
    | with_reducible refine (Room.mems_eta _).trans ?_
    | split

theorem Room.showThr_mems (e : Env) (r : Room) : (Room.showThr e r).mems = r.mems := by
  unfold Room.showThr
  try dsimp only
  repeat' first
    | with_reducible rfl
    | with_reducible apply Room.mems_ite
    | with_reducible refine (Room.put_mems _ _ _).trans ?_
    | with_reducible refine (Room.putB_mems _ _ _).trans ?_
    | split

theorem Room.levels_mems (e : Env) (r : Room) : (Room.levels e r).mems = r.mems := by
  unfold Room.levels
  try dsimp only
  repeat' first
    | with_reducible rfl
    | with_reducible apply Room.mems_ite
    | with_reducible refine (Room.put_mems _ _ _).trans ?_
    | split

theorem Room.addHold_mems (e : Env) (h : Hold) (r : Room) : (Room.addHold e h r).mems = r.mems := by
  unfold Room.addHold
  try dsimp only
  repeat' first
    | with_reducible rfl
    | with_reducible apply Room.mems_ite
    | with_reducible refine (Room.onConv_mems _ _).trans ?_
    | with_reducible refine (Room.showLevel_mems _ _).trans ?_
    | with_reducible refine (Room.showThr_mems _ _).trans ?_
    | with_reducible refine (Room.mems_mk _ _ _ _ _ _ _ _ _ _ _ _ _ _ _ _ _ _ _).trans ?_
    | with_reducible refine (Room.mems_eta _).trans ?_
    | split

theorem Room.dropHolds_mems (e : Env) (f : Hold → Bool) (r : Room) : (Room.dropHolds e f r).mems = r.mems := by
  unfold Room.dropHolds
  repeat' first
    | with_reducible rfl
    | with_reducible apply Room.mems_ite
    | with_reducible refine (Room.onConv_mems _ _).trans ?_
    | with_reducible refine (Room.showThr_mems _ _).trans ?_
    | with_reducible refine (Room.mems_mk _ _ _ _ _ _ _ _ _ _ _ _ _ _ _ _ _ _ _).trans ?_
    | with_reducible refine (Room.mems_eta _).trans ?_
    | split

theorem Room.latch_mems (k : Nat) (neg : Bool) (r : Room) : (Room.latch k neg r).mems = r.mems := by
  unfold Room.latch
  try dsimp only
  repeat' first
    | with_reducible rfl
    | split
    | with_reducible apply Room.mems_ite
    | with_reducible refine (Room.put_mems _ _ _).trans ?_
    | with_reducible refine (Room.on_mems _ _).trans ?_
    | with_reducible refine (Room.onConv_mems _ _).trans ?_
    | with_reducible refine (Room.mems_mk _ _ _ _ _ _ _ _ _ _ _ _ _ _ _ _ _ _ _).trans ?_
    | with_reducible refine (Room.mems_eta _).trans ?_

theorem Room.unlatch_mems (k : Nat) (r : Room) : (Room.unlatch k r).mems = r.mems := by
  unfold Room.unlatch
  repeat' first
    | with_reducible rfl
    | with_reducible apply Room.mems_ite
    | with_reducible refine (Room.off_mems _ _).trans ?_
    | split

theorem Room.computeForward_mems (e : Env) (isum : Int) (r : Room) : (Room.computeForward e isum r).mems = r.mems := by
  unfold Room.computeForward
  try dsimp only
  repeat' first
    | with_reducible rfl
    | with_reducible apply Room.mems_ite
    | with_reducible refine (Room.put_mems _ _ _).trans ?_
    | with_reducible refine (Room.on_mems _ _).trans ?_
    | with_reducible refine (Room.putB_mems _ _ _).trans ?_
    | with_reducible refine (Room.onConv_mems _ _).trans ?_
    | with_reducible refine (Room.mems_mk _ _ _ _ _ _ _ _ _ _ _ _ _ _ _ _ _ _ _).trans ?_
    | with_reducible refine (Room.mems_eta _).trans ?_
    | split

theorem Room.moveDraw_mems (e : Env) (r : Room) : (Room.moveDraw e r).mems = r.mems := by
  unfold Room.moveDraw
  try dsimp only
  repeat' first
    | with_reducible rfl
    | with_reducible apply Room.mems_ite
    | with_reducible refine (Room.onConv_mems _ _).trans ?_
    | with_reducible refine (Room.mems_mk _ _ _ _ _ _ _ _ _ _ _ _ _ _ _ _ _ _ _).trans ?_
    | with_reducible refine (Room.mems_eta _).trans ?_
    | split

theorem Room.computeReverse_mems (e : Env) (r : Room) : (Room.computeReverse e r).mems = r.mems := by
  unfold Room.computeReverse
  try dsimp only
  repeat' first
    | with_reducible rfl
    | with_reducible apply Room.mems_ite
    | with_reducible refine (Room.put_mems _ _ _).trans ?_
    | with_reducible refine (Room.onConv_mems _ _).trans ?_
    | with_reducible refine (Room.moveDraw_mems _ _).trans ?_
    | with_reducible refine (Room.mems_mk _ _ _ _ _ _ _ _ _ _ _ _ _ _ _ _ _ _ _).trans ?_
    | with_reducible refine (Room.mems_eta _).trans ?_
    | split

theorem Room.pushHigh_mems (y : Int) (r : Room) : (Room.pushHigh y r).mems = r.mems := by
  unfold Room.pushHigh
  try dsimp only
  repeat' first
    | with_reducible rfl
    | with_reducible apply Room.mems_ite
    | with_reducible refine (Room.onConv_mems _ _).trans ?_
    | with_reducible refine (Room.mems_mk _ _ _ _ _ _ _ _ _ _ _ _ _ _ _ _ _ _ _).trans ?_
    | with_reducible refine (Room.mems_eta _).trans ?_
    | split

theorem Room.judge_mems (e : Env) (r : Room) : (Room.judge e r).mems = r.mems := by
  unfold Room.judge
  try dsimp only
  repeat' first
    | with_reducible rfl
    | with_reducible apply Room.mems_ite
    | with_reducible refine (Room.off_mems _ _).trans ?_
    | with_reducible refine (Room.onCon_mems _ _).trans ?_
    | with_reducible refine (Room.onConv_mems _ _).trans ?_
    | with_reducible refine (Room.mems_mk _ _ _ _ _ _ _ _ _ _ _ _ _ _ _ _ _ _ _).trans ?_
    | with_reducible refine (Room.mems_eta _).trans ?_
    | split

theorem Room.moveTrim_mems (sum : Int) (n : Nat) (r : Room) : (Room.moveTrim sum n r).mems = r.mems := by
  unfold Room.moveTrim
  try dsimp only
  repeat' first
    | with_reducible rfl
    | with_reducible apply Room.mems_ite
    | with_reducible refine (Room.onConv_mems _ _).trans ?_
    | with_reducible refine (Room.mems_mk _ _ _ _ _ _ _ _ _ _ _ _ _ _ _ _ _ _ _).trans ?_
    | with_reducible refine (Room.mems_eta _).trans ?_
    | split

theorem Room.means_mems (e : Env) (vs : List (BitVec 12)) (is : List (BitVec 12)) (r : Room) : (Room.means e vs is r).mems = r.mems := by
  unfold Room.means
  try dsimp only
  repeat' first
    | with_reducible rfl
    | split
    | with_reducible apply Room.mems_ite
    | with_reducible refine (Room.put_mems _ _ _).trans ?_
    | with_reducible refine (Room.onConv_mems _ _).trans ?_
    | with_reducible refine (Room.mems_mk _ _ _ _ _ _ _ _ _ _ _ _ _ _ _ _ _ _ _).trans ?_
    | with_reducible refine (Room.mems_eta _).trans ?_

theorem Room.transfers_mems (turned : Bool) (r : Room) : (Room.transfers turned r).mems = r.mems := by
  unfold Room.transfers
  try dsimp only
  repeat' first
    | with_reducible rfl
    | with_reducible apply Room.mems_ite
    | with_reducible refine (Room.on_mems _ _).trans ?_
    | with_reducible refine (Room.onConv_mems _ _).trans ?_
    | with_reducible refine (Room.mems_mk _ _ _ _ _ _ _ _ _ _ _ _ _ _ _ _ _ _ _).trans ?_
    | with_reducible refine (Room.mems_eta _).trans ?_
    | split

theorem Room.turn_mems (e : Env) (r : Room) : (Room.turn e r).mems = r.mems := by
  unfold Room.turn
  try dsimp only
  repeat' first
    | with_reducible rfl
    | split
    | with_reducible apply Room.mems_ite
    | with_reducible refine (Room.on_mems _ _).trans ?_
    | with_reducible refine (Room.onConv_mems _ _).trans ?_
    | with_reducible refine (Room.frsStart_mems _ _).trans ?_
    | with_reducible refine (Room.setLoop_mems _ _).trans ?_
    | with_reducible refine (Room.setRef_mems _ _).trans ?_
    | with_reducible refine (Room.slewRate_mems _).trans ?_
    | with_reducible refine (Room.refreshRamp_mems _ _ _).trans ?_
    | with_reducible refine (Room.mems_mk _ _ _ _ _ _ _ _ _ _ _ _ _ _ _ _ _ _ _).trans ?_
    | with_reducible refine (Room.mems_eta _).trans ?_

theorem Room.newPeriod_mems (e : Env) (r : Room) : (Room.newPeriod e r).mems = r.mems := by
  unfold Room.newPeriod
  try dsimp only
  repeat' first
    | with_reducible rfl
    | split
    | with_reducible apply Room.mems_ite
    | with_reducible refine (Room.put_mems _ _ _).trans ?_
    | with_reducible refine (Room.off_mems _ _).trans ?_
    | with_reducible refine (Room.putB_mems _ _ _).trans ?_
    | with_reducible refine (Room.onConv_mems _ _).trans ?_
    | with_reducible refine (Room.mems_mk _ _ _ _ _ _ _ _ _ _ _ _ _ _ _ _ _ _ _).trans ?_
    | with_reducible refine (Room.mems_eta _).trans ?_

theorem Room.pwmTick_mems (e : Env) (r : Room) : (Room.pwmTick e r).mems = r.mems := by
  unfold Room.pwmTick
  repeat' first
    | with_reducible rfl
    | with_reducible apply Room.mems_ite
    | with_reducible refine (Room.off_mems _ _).trans ?_
    | split

theorem Room.foldPeriod_mems (e : Env) (r : Room) : (Room.foldPeriod e r).mems = r.mems := by
  unfold Room.foldPeriod
  try dsimp only
  repeat' first
    | with_reducible rfl
    | with_reducible apply Room.mems_ite
    | with_reducible refine (Room.onConv_mems _ _).trans ?_
    | with_reducible refine (Room.mems_mk _ _ _ _ _ _ _ _ _ _ _ _ _ _ _ _ _ _ _).trans ?_
    | with_reducible refine (Room.mems_eta _).trans ?_
    | split

theorem Room.remember_mems (e : Env) (r : Room) : (Room.remember e r).mems = r.mems := by
  unfold Room.remember
  repeat' first
    | with_reducible rfl
    | with_reducible apply Room.mems_ite
    | with_reducible refine (Room.onConv_mems _ _).trans ?_
    | with_reducible refine (Room.mems_mk _ _ _ _ _ _ _ _ _ _ _ _ _ _ _ _ _ _ _).trans ?_
    | with_reducible refine (Room.mems_eta _).trans ?_
    | split

theorem Room.startPeriod_mems (e : Env) (r : Room) : (Room.startPeriod e r).mems = r.mems := by
  unfold Room.startPeriod
  try dsimp only
  repeat' first
    | with_reducible rfl
    | with_reducible apply Room.mems_ite
    | with_reducible refine (Room.transfers_mems _ _).trans ?_
    | with_reducible refine (Room.remember_mems _ _).trans ?_
    | with_reducible refine (Room.levels_mems _ _).trans ?_
    | with_reducible refine (Room.showThr_mems _ _).trans ?_
    | with_reducible refine (Room.turn_mems _ _).trans ?_
    | with_reducible refine (Room.newPeriod_mems _ _).trans ?_
    | with_reducible refine (Room.foldPeriod_mems _ _).trans ?_
    | split

theorem Room.powerOn_mems (e : Env) (r : Room) : (Room.powerOn e r).mems = r.mems := by
  unfold Room.powerOn
  repeat' first
    | with_reducible rfl
    | with_reducible apply Room.mems_ite
    | with_reducible refine (Room.onConv_mems _ _).trans ?_
    | with_reducible refine (Room.closeSwitch_mems _ _).trans ?_
    | with_reducible refine (Room.setVset_mems _ _ _).trans ?_
    | with_reducible refine (Room.loopStart_mems _ _).trans ?_
    | with_reducible refine (Room.mems_mk _ _ _ _ _ _ _ _ _ _ _ _ _ _ _ _ _ _ _).trans ?_
    | with_reducible refine (Room.mems_eta _).trans ?_
    | split

theorem Room.attempt_mems (e : Env) (r : Room) : (Room.attempt e r).mems = r.mems := by
  unfold Room.attempt
  try dsimp only
  repeat' first
    | with_reducible rfl
    | with_reducible apply Room.mems_ite
    | with_reducible refine (Room.on_mems _ _).trans ?_
    | with_reducible refine (Room.off_mems _ _).trans ?_
    | with_reducible refine (Room.onConv_mems _ _).trans ?_
    | with_reducible refine (Room.pdClear_mems _ _).trans ?_
    | with_reducible refine (Room.conClear_mems _ _).trans ?_
    | with_reducible refine (Room.dropHolds_mems _ _ _).trans ?_
    | with_reducible refine (Room.openSwitch_mems _).trans ?_
    | with_reducible refine (Room.loopOff_mems _).trans ?_
    | with_reducible refine (Room.discharge_mems _ _ _ _ _).trans ?_
    | with_reducible refine (Room.powerOn_mems _ _).trans ?_
    | with_reducible refine (Room.mems_mk _ _ _ _ _ _ _ _ _ _ _ _ _ _ _ _ _ _ _).trans ?_
    | with_reducible refine (Room.mems_eta _).trans ?_
    | split

theorem Room.forceSafe_mems (e : Env) (r : Room) : (Room.forceSafe e r).mems = r.mems := by
  unfold Room.forceSafe
  try dsimp only
  repeat' first
    | with_reducible rfl
    | with_reducible apply Room.mems_ite
    | with_reducible refine (Room.on_mems _ _).trans ?_
    | with_reducible refine (Room.off_mems _ _).trans ?_
    | with_reducible refine (Room.onCc_mems _ _).trans ?_
    | with_reducible refine (Room.onConv_mems _ _).trans ?_
    | with_reducible refine (Room.outputsOff_mems _ _).trans ?_
    | with_reducible refine (Room.mems_mk _ _ _ _ _ _ _ _ _ _ _ _ _ _ _ _ _ _ _).trans ?_
    | with_reducible refine (Room.mems_eta _).trans ?_
    | split

theorem Room.releaseSafe_mems (e : Env) (r : Room) : (Room.releaseSafe e r).mems = r.mems := by
  unfold Room.releaseSafe
  try dsimp only
  repeat' first
    | with_reducible rfl
    | with_reducible apply Room.mems_ite
    | with_reducible refine (Room.off_mems _ _).trans ?_
    | with_reducible refine (Room.leaveSafe_mems _ _).trans ?_
    | split

theorem Room.pinTest_mems (now : Nat) (k : Nat) (bad : Bool) (r : Room) : (Room.pinTest now k bad r).mems = r.mems := by
  unfold Room.pinTest
  try dsimp only
  repeat' first
    | with_reducible rfl
    | with_reducible apply Room.mems_ite
    | with_reducible refine (Room.onConv_mems _ _).trans ?_
    | with_reducible refine (Room.mems_mk _ _ _ _ _ _ _ _ _ _ _ _ _ _ _ _ _ _ _).trans ?_
    | with_reducible refine (Room.mems_eta _).trans ?_
    | split

theorem Room.senseHoldOff_mems (e : Env) (r : Room) : (Room.senseHoldOff e r).mems = r.mems := by
  unfold Room.senseHoldOff
  repeat' first
    | with_reducible rfl
    | with_reducible apply Room.mems_ite
    | with_reducible refine (Room.onConv_mems _ _).trans ?_
    | with_reducible refine (Room.refreshIlim_mems _ _).trans ?_
    | with_reducible refine (Room.mems_mk _ _ _ _ _ _ _ _ _ _ _ _ _ _ _ _ _ _ _).trans ?_
    | with_reducible refine (Room.mems_eta _).trans ?_
    | split

theorem Room.resumeRate_mems (r : Room) : (Room.resumeRate r).mems = r.mems := by
  unfold Room.resumeRate
  repeat' first
    | with_reducible rfl
    | with_reducible apply Room.mems_ite
    | with_reducible refine (Room.setRate_mems _ _ _).trans ?_
    | with_reducible refine (Room.slewRate_mems _).trans ?_
    | split

theorem Room.resumeCc_mems (e : Env) (r : Room) : (Room.resumeCc e r).mems = r.mems := by
  unfold Room.resumeCc
  try dsimp only
  repeat' first
    | with_reducible rfl
    | with_reducible apply Room.mems_ite
    | with_reducible refine (Room.put_mems _ _ _).trans ?_
    | with_reducible refine (Room.putB_mems _ _ _).trans ?_
    | with_reducible refine (Room.onCc_mems _ _).trans ?_
    | with_reducible refine (Room.onPd_mems _ _).trans ?_
    | with_reducible refine (Room.mems_mk _ _ _ _ _ _ _ _ _ _ _ _ _ _ _ _ _ _ _).trans ?_
    | with_reducible refine (Room.mems_eta _).trans ?_
    | split

theorem Room.resumeAsk_mems (e : Env) (r : Room) : (Room.resumeAsk e r).mems = r.mems := by
  unfold Room.resumeAsk
  try dsimp only
  repeat' first
    | with_reducible rfl
    | with_reducible apply Room.mems_ite
    | with_reducible refine (Room.onCon_mems _ _).trans ?_
    | with_reducible refine (Room.mems_mk _ _ _ _ _ _ _ _ _ _ _ _ _ _ _ _ _ _ _).trans ?_
    | with_reducible refine (Room.mems_eta _).trans ?_
    | split

theorem Room.clampFilt_mems (o : Nat) (r : Room) : (Room.clampFilt o r).mems = r.mems := by
  unfold Room.clampFilt
  try dsimp only
  repeat' first
    | with_reducible rfl
    | with_reducible apply Room.mems_ite
    | with_reducible refine (Room.put_mems _ _ _).trans ?_
    | split

theorem Room.pwmTiming_mems (pl : Plan) (p : Nat) (r : Room) : (Room.pwmTiming pl p r).mems = r.mems := by
  unfold Room.pwmTiming
  try dsimp only
  repeat' first
    | with_reducible rfl
    | with_reducible apply Room.mems_ite
    | with_reducible refine (Room.put_mems _ _ _).trans ?_
    | with_reducible refine (Room.putB_mems _ _ _).trans ?_
    | split

theorem Room.applyPlan_mems (pl : Plan) (p : Nat) (r : Room) : (Room.applyPlan pl p r).mems = r.mems := by
  unfold Room.applyPlan
  try dsimp only
  repeat' first
    | with_reducible rfl
    | with_reducible apply Room.mems_ite
    | with_reducible refine (Room.put_mems _ _ _).trans ?_
    | with_reducible refine (Room.pwmTiming_mems _ _ _).trans ?_
    | with_reducible refine (Room.mems_mk _ _ _ _ _ _ _ _ _ _ _ _ _ _ _ _ _ _ _).trans ?_
    | with_reducible refine (Room.mems_eta _).trans ?_
    | split

theorem Room.mirrorRetry_mems (now : Nat) (r : Room) : (Room.mirrorRetry now r).mems = r.mems := by
  unfold Room.mirrorRetry
  repeat' first
    | with_reducible rfl
    | with_reducible apply Room.mems_ite
    | with_reducible refine (Room.onConv_mems _ _).trans ?_
    | with_reducible refine (Room.mems_mk _ _ _ _ _ _ _ _ _ _ _ _ _ _ _ _ _ _ _).trans ?_
    | with_reducible refine (Room.mems_eta _).trans ?_
    | split

theorem Room.applyCc_mems (w : Word) (r : Room) : (Room.applyCc w r).mems = r.mems := by
  unfold Room.applyCc
  try dsimp only
  repeat' first
    | with_reducible rfl
    | with_reducible apply Room.mems_ite
    | with_reducible refine (Room.put_mems _ _ _).trans ?_
    | with_reducible refine (Room.off_mems _ _).trans ?_
    | with_reducible refine (Room.onCc_mems _ _).trans ?_
    | with_reducible refine (Room.shadowRp_mems _).trans ?_
    | with_reducible refine (Room.mems_mk _ _ _ _ _ _ _ _ _ _ _ _ _ _ _ _ _ _ _).trans ?_
    | with_reducible refine (Room.mems_eta _).trans ?_
    | split

theorem Room.rampTick_mems (r : Room) : (Room.rampTick r).mems = r.mems := by
  unfold Room.rampTick
  try dsimp only
  repeat' first
    | with_reducible rfl
    | split
    | with_reducible apply Room.mems_ite
    | with_reducible refine (Room.on_mems _ _).trans ?_
    | with_reducible refine (Room.onConv_mems _ _).trans ?_
    | with_reducible refine (Room.setRef_mems _ _).trans ?_
    | with_reducible refine (Room.mems_mk _ _ _ _ _ _ _ _ _ _ _ _ _ _ _ _ _ _ _).trans ?_
    | with_reducible refine (Room.mems_eta _).trans ?_

theorem Room.tick_mems (e : Env) (r : Room) : (Room.tick e r).mems = r.mems := by
  unfold Room.tick
  try dsimp only
  repeat' first
    | with_reducible rfl
    | with_reducible apply Room.mems_ite
    | with_reducible refine (Room.put_mems _ _ _).trans ?_
    | with_reducible refine (Room.onConv_mems _ _).trans ?_
    | with_reducible refine (Room.rampTick_mems _).trans ?_
    | with_reducible refine (Room.mems_mk _ _ _ _ _ _ _ _ _ _ _ _ _ _ _ _ _ _ _).trans ?_
    | with_reducible refine (Room.mems_eta _).trans ?_
    | split

end Sys2Proof.Machine
end

