-- ==== Sys2Proof/Laws/RoomKeeps.lean ====
section
/-! SUPPORT. Laws/RoomKeeps.lean: every operation on a Room keeps the canonical form of its memories. -/

namespace Sys2Proof.Machine

/-- The memories of the second Room are as canonical as those of the first. -/
def Room.Keeps (r q : Room) : Prop := r.memOk → q.memOk
theorem Room.Keeps.refl (r : Room) : r.Keeps r := id
theorem Room.keeps_of (r q : Room) (h : q.mems = r.mems) : r.Keeps q := fun k => by
  have h1 : q.data = r.data := congrArg Prod.fst h
  have h2 : q.code = r.code := congrArg Prod.snd h
  unfold Room.memOk at *
  rw [h1, h2]; exact k
theorem Room.keeps_step {r0 r q : Room} (h : r0.Keeps r) (e : q.mems = r.mems) : r0.Keeps q :=
  fun k => Room.keeps_of r q e (h k)
theorem Room.keeps_ite {r0 : Room} (c : Prop) [Decidable c] (a b : Room) (h1 : r0.Keeps a) (h2 : r0.Keeps b) :
    r0.Keeps (if c then a else b) := by split <;> assumption
theorem Room.keeps_foldl {α : Type} (r0 r : Room) (l : List α) (f : Room → α → Room) (h : r0.Keeps r)
    (k : ∀ (r : Room) a, r.Keeps (f r a)) : r0.Keeps (l.foldl f r) := by
  induction l generalizing r with
  | nil => exact h
  | cons a l ih => exact ih _ (fun x => k r a (h x))

/-- What of a record counts for `Keeps`. -/
def KeepsParts (r : Room) (data code : Mem) : Prop := r.memOk → Store.wf data = true ∧ Store.wf code = true
theorem Room.keeps_mk_eq (r : Room) (m : Regs) (x1 x2 : Mem) (x3 : CcState) (x4 : PdState) (x5 : ConState) (x6 : ConvState)
    (x7 : Core) (x8 x9 x10 : Bool) (x11 : Nat) (x12 : List Nat) (x13 : List (Int × Int)) (x14 : List Nat)
    (x15 x16 x17 x18 : Nat) :
    r.Keeps ⟨m, x1, x2, x3, x4, x5, x6, x7, x8, x9, x10, x11, x12, x13, x14, x15, x16, x17, x18⟩ = KeepsParts r x1 x2 := rfl
theorem KeepsParts.same (e : Room) {r : Room} (h : r.Keeps e) : KeepsParts r e.data e.code := h
theorem KeepsParts.data (e : Room) (a : Nat) (b : List Byte) {r : Room} (h : r.Keeps e) :
    KeepsParts r (putBytes e.data a b) e.code := fun k => ⟨putBytes_wf _ _ _ (h k).1, (h k).2⟩
theorem KeepsParts.code (e : Room) (a : Nat) (b : List Byte) {r : Room} (h : r.Keeps e) :
    KeepsParts r e.data (putBytes e.code a b) := fun k => ⟨(h k).1, putBytes_wf _ _ _ (h k).2⟩

theorem Room.keeps_trans {r0 r q : Room} (h : r0.Keeps r) (k : r.Keeps q) : r0.Keeps q := fun x => k (h x)
theorem Room.put_from {r0 : Room} (r : Room) (f : Field) (v : Nat) (h : r0.Keeps r) : r0.Keeps (r.put f v) := Room.keeps_step h rfl
theorem Room.on_from {r0 : Room} (r : Room) (f : Field) (h : r0.Keeps r) : r0.Keeps (r.on f) := Room.keeps_step h rfl
theorem Room.off_from {r0 : Room} (r : Room) (f : Field) (h : r0.Keeps r) : r0.Keeps (r.off f) := Room.keeps_step h rfl
theorem Room.putB_from {r0 : Room} (r : Room) (f : Field) (b : Bool) (h : r0.Keeps r) : r0.Keeps (r.putB f b) := Room.keeps_step h rfl
theorem Room.onCc_from {r0 : Room} (r : Room) (g : CcState → CcState) (h : r0.Keeps r) : r0.Keeps (r.onCc g) := Room.keeps_step h rfl
theorem Room.onPd_from {r0 : Room} (r : Room) (g : PdState → PdState) (h : r0.Keeps r) : r0.Keeps (r.onPd g) := Room.keeps_step h rfl
theorem Room.onCon_from {r0 : Room} (r : Room) (g : ConState → ConState) (h : r0.Keeps r) : r0.Keeps (r.onCon g) := Room.keeps_step h rfl
theorem Room.onConv_from {r0 : Room} (r : Room) (g : ConvState → ConvState) (h : r0.Keeps r) : r0.Keeps (r.onConv g) := Room.keeps_step h rfl
theorem Room.onCore_from {r0 : Room} (r : Room) (g : Core → Core) (h : r0.Keeps r) : r0.Keeps (r.onCore g) := Room.keeps_step h rfl
theorem Room.toStep_from {r0 : Room} (e : Env) (n : Nat) (r : Room) (hk : r0.Keeps r) : r0.Keeps (Room.toStep e n r) :=
  Room.keeps_step hk (Room.toStep_mems _ _ _)
theorem Room.followRp_from {r0 : Room} (r : Room) (hk : r0.Keeps r) : r0.Keeps (Room.followRp r) :=
  Room.keeps_step hk (Room.followRp_mems _)
theorem Room.refreshPartner_from {r0 : Room} (r : Room) (hk : r0.Keeps r) : r0.Keeps (Room.refreshPartner r) :=
  Room.keeps_step hk (Room.refreshPartner_mems _)
theorem Room.shadowRp_from {r0 : Room} (r : Room) (hk : r0.Keeps r) : r0.Keeps (Room.shadowRp r) :=
  Room.keeps_step hk (Room.shadowRp_mems _)
theorem Room.audioOff_from {r0 : Room} (r : Room) (hk : r0.Keeps r) : r0.Keeps (Room.audioOff r) :=
  Room.keeps_step hk (Room.audioOff_mems _)
theorem Room.terms_from {r0 : Room} (e : Env) (r : Room) (hk : r0.Keeps r) : r0.Keeps (Room.terms e r) :=
  Room.keeps_step hk (Room.terms_mems _ _)
theorem Room.vconn_from {r0 : Room} (e : Env) (r : Room) (hk : r0.Keeps r) : r0.Keeps (Room.vconn e r) :=
  Room.keeps_step hk (Room.vconn_mems _ _)
theorem Room.setGrant_from {r0 : Room} (r : Room) (w : Nat) (hk : r0.Keeps r) : r0.Keeps (Room.setGrant r w) :=
  Room.keeps_step hk (Room.setGrant_mems _ _)
theorem Room.endResv_from {r0 : Room} (r : Room) (hk : r0.Keeps r) : r0.Keeps (Room.endResv r) :=
  Room.keeps_step hk (Room.endResv_mems _)
theorem Room.ask_from {r0 : Room} (e : Env) (w : Nat) (lapse : Bool) (r : Room) (hk : r0.Keeps r) : r0.Keeps (Room.ask e w lapse r) :=
  Room.keeps_step hk (Room.ask_mems _ _ _ _)
theorem Room.refreshIlim_from {r0 : Room} (e : Env) (r : Room) (hk : r0.Keeps r) : r0.Keeps (Room.refreshIlim e r) :=
  Room.keeps_step hk (Room.refreshIlim_mems _ _)
theorem Room.implicitVi_from {r0 : Room} (e : Env) (r : Room) (hk : r0.Keeps r) : r0.Keeps (Room.implicitVi e r) :=
  Room.keeps_step hk (Room.implicitVi_mems _ _)
theorem Room.startGiveup_from {r0 : Room} (e : Env) (r : Room) (hk : r0.Keeps r) : r0.Keeps (Room.startGiveup e r) :=
  Room.keeps_step hk (Room.startGiveup_mems _ _)
theorem Room.vlimDrop_from {r0 : Room} (e : Env) (r : Room) (hk : r0.Keeps r) : r0.Keeps (Room.vlimDrop e r) :=
  Room.keeps_step hk (Room.vlimDrop_mems _ _)
theorem Room.refreshVlim_from {r0 : Room} (e : Env) (r : Room) (hk : r0.Keeps r) : r0.Keeps (Room.refreshVlim e r) :=
  Room.keeps_step hk (Room.refreshVlim_mems _ _)
theorem Room.refreshCable_from {r0 : Room} (e : Env) (r : Room) (hk : r0.Keeps r) : r0.Keeps (Room.refreshCable e r) :=
  Room.keeps_step hk (Room.refreshCable_mems _ _)
theorem Room.setRef_from {r0 : Room} (r : Room) (uv : Nat) (hk : r0.Keeps r) : r0.Keeps (Room.setRef r uv) :=
  Room.keeps_step hk (Room.setRef_mems _ _)
theorem Room.refreshRamp_from {r0 : Room} (e : Env) (r : Room) (target : Nat) (hk : r0.Keeps r) : r0.Keeps (Room.refreshRamp e r target) :=
  Room.keeps_step hk (Room.refreshRamp_mems _ _ _)
theorem Room.setLoop_from {r0 : Room} (r : Room) (st : Nat) (hk : r0.Keeps r) : r0.Keeps (Room.setLoop r st) :=
  Room.keeps_step hk (Room.setLoop_mems _ _)
theorem Room.setRate_from {r0 : Room} (num den : Nat) (r : Room) (hk : r0.Keeps r) : r0.Keeps (Room.setRate num den r) :=
  Room.keeps_step hk (Room.setRate_mems _ _ _)
theorem Room.slewRate_from {r0 : Room} (r : Room) (hk : r0.Keeps r) : r0.Keeps (Room.slewRate r) :=
  Room.keeps_step hk (Room.slewRate_mems _)
theorem Room.midRail_from {r0 : Room} (r : Room) (hk : r0.Keeps r) : r0.Keeps (Room.midRail r) :=
  Room.keeps_step hk (Room.midRail_mems _)
theorem Room.preBias_from {r0 : Room} (r : Room) (hk : r0.Keeps r) : r0.Keeps (Room.preBias r) :=
  Room.keeps_step hk (Room.preBias_mems _)
theorem Room.loopStart_from {r0 : Room} (e : Env) (r : Room) (hk : r0.Keeps r) : r0.Keeps (Room.loopStart e r) :=
  Room.keeps_step hk (Room.loopStart_mems _ _)
theorem Room.frsStart_from {r0 : Room} (e : Env) (r : Room) (hk : r0.Keeps r) : r0.Keeps (Room.frsStart e r) :=
  Room.keeps_step hk (Room.frsStart_mems _ _)
theorem Room.discharge_from {r0 : Room} (e : Env) (r : Room) (num den : Nat) (openAtOff : Bool) (hk : r0.Keeps r) : r0.Keeps (Room.discharge e r num den openAtOff) :=
  Room.keeps_step hk (Room.discharge_mems _ _ _ _ _)
theorem Room.loopOff_from {r0 : Room} (r : Room) (hk : r0.Keeps r) : r0.Keeps (Room.loopOff r) :=
  Room.keeps_step hk (Room.loopOff_mems _)
theorem Room.showLevel_from {r0 : Room} (e : Env) (r : Room) (hk : r0.Keeps r) : r0.Keeps (Room.showLevel e r) :=
  Room.keeps_step hk (Room.showLevel_mems _ _)
theorem Room.closeSwitch_from {r0 : Room} (e : Env) (r : Room) (hk : r0.Keeps r) : r0.Keeps (Room.closeSwitch e r) :=
  Room.keeps_step hk (Room.closeSwitch_mems _ _)
theorem Room.openSwitch_from {r0 : Room} (r : Room) (hk : r0.Keeps r) : r0.Keeps (Room.openSwitch r) :=
  Room.keeps_step hk (Room.openSwitch_mems _)
theorem Room.txEnd_from {r0 : Room} (r : Room) (code : Nat) (hk : r0.Keeps r) : r0.Keeps (Room.txEnd r code) :=
  Room.keeps_step hk (Room.txEnd_mems _ _)
theorem Room.txAbort_from {r0 : Room} (r : Room) (code : Nat) (hk : r0.Keeps r) : r0.Keeps (Room.txAbort r code) :=
  Room.keeps_step hk (Room.txAbort_mems _ _)
theorem Room.clearRx_from {r0 : Room} (r : Room) (hk : r0.Keeps r) : r0.Keeps (Room.clearRx r) :=
  Room.keeps_step hk (Room.clearRx_mems _)
theorem Room.pdReset_from {r0 : Room} (r : Room) (hk : r0.Keeps r) : r0.Keeps (Room.pdReset r) :=
  Room.keeps_step hk (Room.pdReset_mems _)
theorem Room.sinkTxNg_from {r0 : Room} (e : Env) (r : Room) (hk : r0.Keeps r) : r0.Keeps (Room.sinkTxNg e r) :=
  Room.keeps_step hk (Room.sinkTxNg_mems _ _)
theorem Room.sinkTxOk_from {r0 : Room} (e : Env) (r : Room) (hk : r0.Keeps r) : r0.Keeps (Room.sinkTxOk e r) :=
  Room.keeps_step hk (Room.sinkTxOk_mems _ _)
theorem Room.pdClear_from {r0 : Room} (e : Env) (r : Room) (hk : r0.Keeps r) : r0.Keeps (Room.pdClear e r) :=
  Room.keeps_step hk (Room.pdClear_mems _ _)
theorem Room.conClear_from {r0 : Room} (e : Env) (r : Room) (hk : r0.Keeps r) : r0.Keeps (Room.conClear e r) :=
  Room.keeps_step hk (Room.conClear_mems _ _)
theorem Room.endExplicit_from {r0 : Room} (e : Env) (r : Room) (hk : r0.Keeps r) : r0.Keeps (Room.endExplicit e r) :=
  Room.keeps_step hk (Room.endExplicit_mems _ _)
theorem Room.enterState_from {r0 : Room} (e : Env) (r : Room) (st : Nat) (hk : r0.Keeps r) : r0.Keeps (Room.enterState e r st) :=
  Room.keeps_step hk (Room.enterState_mems _ _ _)
theorem Room.enterA_from {r0 : Room} (e : Env) (r : Room) (st : Nat) (hk : r0.Keeps r) : r0.Keeps (Room.enterA e r st) :=
  Room.keeps_step hk (Room.enterA_mems _ _ _)
theorem Room.restart_from {r0 : Room} (e : Env) (r : Room) (hk : r0.Keeps r) : r0.Keeps (Room.restart e r) :=
  Room.keeps_step hk (Room.restart_mems _ _)
theorem Room.startRemoval_from {r0 : Room} (e : Env) (r : Room) (hk : r0.Keeps r) : r0.Keeps (Room.startRemoval e r) :=
  Room.keeps_step hk (Room.startRemoval_mems _ _)
theorem Room.retryClear_from {r0 : Room} (r : Room) (hk : r0.Keeps r) : r0.Keeps (Room.retryClear r) :=
  Room.keeps_step hk (Room.retryClear_mems _)
theorem Room.detach_from {r0 : Room} (e : Env) (r : Room) (hk : r0.Keeps r) : r0.Keeps (Room.detach e r) :=
  Room.keeps_step hk (Room.detach_mems _ _)
theorem Room.errorRecovery_from {r0 : Room} (e : Env) (r : Room) (hk : r0.Keeps r) : r0.Keeps (Room.errorRecovery e r) :=
  Room.keeps_step hk (Room.errorRecovery_mems _ _)
theorem Room.shed_from {r0 : Room} (e : Env) (r : Room) (hk : r0.Keeps r) : r0.Keeps (Room.shed e r) :=
  Room.keeps_step hk (Room.shed_mems _ _)
theorem Room.grantFell_from {r0 : Room} (e : Env) (r : Room) (hk : r0.Keeps r) : r0.Keeps (Room.grantFell e r) :=
  Room.keeps_step hk (Room.grantFell_mems _ _)
theorem Room.outputsOff_from {r0 : Room} (e : Env) (r : Room) (hk : r0.Keeps r) : r0.Keeps (Room.outputsOff e r) :=
  Room.keeps_step hk (Room.outputsOff_mems _ _)
theorem Room.armRetry_from {r0 : Room} (e : Env) (r : Room) (hk : r0.Keeps r) : r0.Keeps (Room.armRetry e r) :=
  Room.keeps_step hk (Room.armRetry_mems _ _)
theorem Room.fault_from {r0 : Room} (r : Room) (f : Field) (hk : r0.Keeps r) : r0.Keeps (Room.fault r f) :=
  Room.keeps_step hk (Room.fault_mems _ _)
theorem Room.attemptFail_from {r0 : Room} (e : Env) (r : Room) (hk : r0.Keeps r) : r0.Keeps (Room.attemptFail e r) :=
  Room.keeps_step hk (Room.attemptFail_mems _ _)
theorem Room.enterSafe_from {r0 : Room} (e : Env) (r : Room) (f : Field) (retry : Bool) (hk : r0.Keeps r) : r0.Keeps (Room.enterSafe e r f retry) :=
  Room.keeps_step hk (Room.enterSafe_mems _ _ _ _)
theorem Room.leaveSafe_from {r0 : Room} (e : Env) (r : Room) (hk : r0.Keeps r) : r0.Keeps (Room.leaveSafe e r) :=
  Room.keeps_step hk (Room.leaveSafe_mems _ _)
theorem Room.safeDetach_from {r0 : Room} (e : Env) (r : Room) (hk : r0.Keeps r) : r0.Keeps (Room.safeDetach e r) :=
  Room.keeps_step hk (Room.safeDetach_mems _ _)
theorem Room.enterSlotHold_from {r0 : Room} (e : Env) (r : Room) (hk : r0.Keeps r) : r0.Keeps (Room.enterSlotHold e r) :=
  Room.keeps_step hk (Room.enterSlotHold_mems _ _)
theorem Room.leaveSlotHold_from {r0 : Room} (e : Env) (r : Room) (hk : r0.Keeps r) : r0.Keeps (Room.leaveSlotHold e r) :=
  Room.keeps_step hk (Room.leaveSlotHold_mems _ _)
theorem Room.hardResetCause_from {r0 : Room} (e : Env) (r : Room) (hk : r0.Keeps r) : r0.Keeps (Room.hardResetCause e r) :=
  Room.keeps_step hk (Room.hardResetCause_mems _ _)
theorem Room.startHr_from {r0 : Room} (e : Env) (r : Room) (hk : r0.Keeps r) : r0.Keeps (Room.startHr e r) :=
  Room.keeps_step hk (Room.startHr_mems _ _)
theorem Room.lostResume_from {r0 : Room} (e : Env) (r : Room) (hk : r0.Keeps r) : r0.Keeps (Room.lostResume e r) :=
  Room.keeps_step hk (Room.lostResume_mems _ _)
theorem Room.setVset_from {r0 : Room} (e : Env) (mv : Nat) (r : Room) (hk : r0.Keeps r) : r0.Keeps (Room.setVset e mv r) :=
  Room.keeps_step hk (Room.setVset_mems _ _ _)
theorem Room.rampTo_from {r0 : Room} (e : Env) (mv : Nat) (r : Room) (hk : r0.Keeps r) : r0.Keeps (Room.rampTo e mv r) :=
  Room.keeps_step hk (Room.rampTo_mems _ _ _)
theorem Room.vsetRest_from {r0 : Room} (e : Env) (r : Room) (hk : r0.Keeps r) : r0.Keeps (Room.vsetRest e r) :=
  Room.keeps_step hk (Room.vsetRest_mems _ _)
theorem Room.sinkSwitch_from {r0 : Room} (e : Env) (r : Room) (hk : r0.Keeps r) : r0.Keeps (Room.sinkSwitch e r) :=
  Room.keeps_step hk (Room.sinkSwitch_mems _ _)
theorem Room.endHr_from {r0 : Room} (e : Env) (r : Room) (hk : r0.Keeps r) : r0.Keeps (Room.endHr e r) :=
  Room.keeps_step hk (Room.endHr_mems _ _)
theorem Room.swapEnd_from {r0 : Room} (e : Env) (r : Room) (hk : r0.Keeps r) : r0.Keeps (Room.swapEnd e r) :=
  Room.keeps_step hk (Room.swapEnd_mems _ _)
theorem Room.swapDone_from {r0 : Room} (e : Env) (r : Room) (hk : r0.Keeps r) : r0.Keeps (Room.swapDone e r) :=
  Room.keeps_step hk (Room.swapDone_mems _ _)
theorem Room.pdSilent_from {r0 : Room} (r : Room) (hk : r0.Keeps r) : r0.Keeps (Room.pdSilent r) :=
  Room.keeps_step hk (Room.pdSilent_mems _)
theorem Room.toShadow_from {r0 : Room} (e : Env) (r : Room) (hk : r0.Keeps r) : r0.Keeps (Room.toShadow e r) :=
  Room.keeps_step hk (Room.toShadow_mems _ _)
theorem Room.cutTo_from {r0 : Room} (e : Env) (r : Room) (d : Nat) (hk : r0.Keeps r) : r0.Keeps (Room.cutTo e r d) :=
  Room.keeps_step hk (Room.cutTo_mems _ _ _)
theorem Room.transStart_from {r0 : Room} (e : Env) (r : Room) (hk : r0.Keeps r) : r0.Keeps (Room.transStart e r) :=
  Room.keeps_step hk (Room.transStart_mems _ _)
theorem Room.afterTrans_from {r0 : Room} (e : Env) (r : Room) (hk : r0.Keeps r) : r0.Keeps (Room.afterTrans e r) :=
  Room.keeps_step hk (Room.afterTrans_mems _ _)
theorem Room.transEnd_from {r0 : Room} (e : Env) (r : Room) (hk : r0.Keeps r) : r0.Keeps (Room.transEnd e r) :=
  Room.keeps_step hk (Room.transEnd_mems _ _)
theorem Room.refReached_from {r0 : Room} (e : Env) (r : Room) (hk : r0.Keeps r) : r0.Keeps (Room.refReached e r) :=
  Room.keeps_step hk (Room.refReached_mems _ _)
theorem Room.keepVconn_from {r0 : Room} (r : Room) (hk : r0.Keeps r) : r0.Keeps (Room.keepVconn r) :=
  Room.keeps_step hk (Room.keepVconn_mems _)
theorem Room.toSink_from {r0 : Room} (e : Env) (r : Room) (hk : r0.Keeps r) : r0.Keeps (Room.toSink e r) :=
  Room.keeps_step hk (Room.toSink_mems _ _)
theorem Room.toSource_from {r0 : Room} (e : Env) (r : Room) (hk : r0.Keeps r) : r0.Keeps (Room.toSource e r) :=
  Room.keeps_step hk (Room.toSource_mems _ _)
theorem Room.swapForward_from {r0 : Room} (e : Env) (r : Room) (hk : r0.Keeps r) : r0.Keeps (Room.swapForward e r) :=
  Room.keeps_step hk (Room.swapForward_mems _ _)
theorem Room.hwAsk_from {r0 : Room} (e : Env) (w : Nat) (r : Room) (hk : r0.Keeps r) : r0.Keeps (Room.hwAsk e w r) :=
  Room.keeps_step hk (Room.hwAsk_mems _ _ _)
theorem Room.prSwapStart_from {r0 : Room} (e : Env) (r : Room) (hk : r0.Keeps r) : r0.Keeps (Room.prSwapStart e r) :=
  Room.keeps_step hk (Room.prSwapStart_mems _ _)
theorem Room.vconnSwapStart_from {r0 : Room} (e : Env) (r : Room) (hk : r0.Keeps r) : r0.Keeps (Room.vconnSwapStart e r) :=
  Room.keeps_step hk (Room.vconnSwapStart_mems _ _)
theorem Room.accepted_from {r0 : Room} (e : Env) (re : Nat) (r : Room) (hk : r0.Keeps r) : r0.Keeps (Room.accepted e re r) :=
  Room.keeps_step hk (Room.accepted_mems _ _ _)
theorem Room.frsTrigger_from {r0 : Room} (e : Env) (r : Room) (hk : r0.Keeps r) : r0.Keeps (Room.frsTrigger e r) :=
  Room.keeps_step hk (Room.frsTrigger_mems _ _)
theorem Room.psRdySent_from {r0 : Room} (e : Env) (r : Room) (hk : r0.Keeps r) : r0.Keeps (Room.psRdySent e r) :=
  Room.keeps_step hk (Room.psRdySent_mems _ _)
theorem Room.sinkDone_from {r0 : Room} (e : Env) (r : Room) (hk : r0.Keeps r) : r0.Keeps (Room.sinkDone e r) :=
  Room.keeps_step hk (Room.sinkDone_mems _ _)
theorem Room.psRdyReceived_from {r0 : Room} (e : Env) (r : Room) (hk : r0.Keeps r) : r0.Keeps (Room.psRdyReceived e r) :=
  Room.keeps_step hk (Room.psRdyReceived_mems _ _)
theorem Room.putE48_from {r0 : Room} (r : Room) (off v : Nat) (hk : r0.Keeps r) : r0.Keeps (Room.putE48 r off v) :=
  Room.keeps_step hk (Room.putE48_mems _ _ _)
theorem Room.addEnergy_from {r0 : Room} (q : Int) (r : Room) (hk : r0.Keeps r) : r0.Keeps (Room.addEnergy q r) :=
  Room.keeps_step hk (Room.addEnergy_mems _ _)
theorem Room.attachSrc_from {r0 : Room} (e : Env) (rp : Nat) (r : Room) (hk : r0.Keeps r) : r0.Keeps (Room.attachSrc e rp r) :=
  Room.keeps_step hk (Room.attachSrc_mems _ _ _)
theorem Room.attachSnk_from {r0 : Room} (e : Env) (r : Room) (hk : r0.Keeps r) : r0.Keeps (Room.attachSnk e r) :=
  Room.keeps_step hk (Room.attachSnk_mems _ _)
theorem Room.takeExit_from {r0 : Room} (e : Env) (x : Exit) (r : Room) (hk : r0.Keeps r) : r0.Keeps (Room.takeExit e x r) :=
  Room.keeps_step hk (Room.takeExit_mems _ _ _)
theorem Room.advance_from {r0 : Room} (e : Env) (tags : List Tag) (r : Room) (hk : r0.Keeps r) : r0.Keeps (Room.advance e tags r) :=
  Room.keeps_step hk (Room.advance_mems _ _ _)
theorem Room.enable_from {r0 : Room} (e : Env) (r : Room) (hk : r0.Keeps r) : r0.Keeps (Room.enable e r) :=
  Room.keeps_step hk (Room.enable_mems _ _)
theorem Room.disable_from {r0 : Room} (e : Env) (r : Room) (hk : r0.Keeps r) : r0.Keeps (Room.disable e r) :=
  Room.keeps_step hk (Room.disable_mems _ _)
theorem Room.newLevels_from {r0 : Room} (e : Env) (l1 l2 : Nat) (r : Room) (hk : r0.Keeps r) : r0.Keeps (Room.newLevels e l1 l2 r) :=
  Room.keeps_step hk (Room.newLevels_mems _ _ _ _)
theorem Room.seenLevels_from {r0 : Room} (e : Env) (l1 l2 : Nat) (r : Room) (hk : r0.Keeps r) : r0.Keeps (Room.seenLevels e l1 l2 r) :=
  Room.keeps_step hk (Room.seenLevels_mems _ _ _ _)
theorem Room.attachAnswer_from {r0 : Room} (e : Env) (w : Nat) (r : Room) (hk : r0.Keeps r) : r0.Keeps (Room.attachAnswer e w r) :=
  Room.keeps_step hk (Room.attachAnswer_mems _ _ _)
theorem Room.newVbus_from {r0 : Room} (e : Env) (mv : Nat) (r : Room) (hk : r0.Keeps r) : r0.Keeps (Room.newVbus e mv r) :=
  Room.keeps_step hk (Room.newVbus_mems _ _ _)
theorem Room.writeVconnEn_from {r0 : Room} (e : Env) (en : Bool) (r : Room) (hk : r0.Keeps r) : r0.Keeps (Room.writeVconnEn e en r) :=
  Room.keeps_step hk (Room.writeVconnEn_mems _ _ _)
theorem Room.ccOver_from {r0 : Room} (now : Nat) (cc2 above : Bool) (r : Room) (hk : r0.Keeps r) : r0.Keeps (Room.ccOver now cc2 above r) :=
  Room.keeps_step hk (Room.ccOver_mems _ _ _ _)
theorem Room.frsAnswer_from {r0 : Room} (e : Env) (r : Room) (hk : r0.Keeps r) : r0.Keeps (Room.frsAnswer e r) :=
  Room.keeps_step hk (Room.frsAnswer_mems _ _)
theorem Room.writeVset_from {r0 : Room} (e : Env) (mv : Nat) (r : Room) (hk : r0.Keeps r) : r0.Keeps (Room.writeVset e mv r) :=
  Room.keeps_step hk (Room.writeVset_mems _ _ _)
theorem Room.thermTrip_from {r0 : Room} (e : Env) (r : Room) (hk : r0.Keeps r) : r0.Keeps (Room.thermTrip e r) :=
  Room.keeps_step hk (Room.thermTrip_mems _ _)
theorem Room.applyMode_from {r0 : Room} (e : Env) (m epoch : Nat) (r : Room) (hk : r0.Keeps r) : r0.Keeps (Room.applyMode e m epoch r) :=
  Room.keeps_step hk (Room.applyMode_mems _ _ _ _)
theorem Room.fallBack_from {r0 : Room} (e : Env) (r : Room) (hk : r0.Keeps r) : r0.Keeps (Room.fallBack e r) :=
  Room.keeps_step hk (Room.fallBack_mems _ _)
theorem Room.say_from {r0 : Room} (m : TxMsg) (r : Room) (hk : r0.Keeps r) : r0.Keeps (Room.say m r) :=
  Room.keeps_step hk (Room.say_mems _ _)
theorem Room.setRev_from {r0 : Room} (k : Pkt) (r : Room) (hk : r0.Keeps r) : r0.Keeps (Room.setRev k r) :=
  Room.keeps_step hk (Room.setRev_mems _ _)
theorem Room.showRx_from {r0 : Room} (r : Room) (hk : r0.Keeps r) : r0.Keeps (Room.showRx r) :=
  Room.keeps_step hk (Room.showRx_mems _)
theorem Room.enqueue_from {r0 : Room} (k : Pkt) (data : List Byte) (r : Room) (h : r0.Keeps r) : r0.Keeps (Room.enqueue k data r) := by
  refine Room.keeps_trans h ?_
  unfold Room.enqueue
  try dsimp only
  repeat' first
    | with_reducible exact Room.Keeps.refl _
    | simp only [Room.keeps_mk_eq]
    | with_reducible refine KeepsParts.same _ ?_
    | with_reducible refine KeepsParts.data _ _ _ ?_
    | with_reducible apply Room.keeps_ite
    | with_reducible refine Room.onPd_from _ _ ?_
    | with_reducible refine Room.on_from _ _ ?_
    | with_reducible refine Room.showRx_from _ ?_
    | split
    | intro _

theorem Room.count_from {r0 : Room} (f : Field) (r : Room) (hk : r0.Keeps r) : r0.Keeps (Room.count f r) :=
  Room.keeps_step hk (Room.count_mems _ _)
theorem Room.noChunks_from {r0 : Room} (r : Room) (hk : r0.Keeps r) : r0.Keeps (Room.noChunks r) :=
  Room.keeps_step hk (Room.noChunks_mems _)
theorem Room.dropPartial_from {r0 : Room} (r : Room) (hk : r0.Keeps r) : r0.Keeps (Room.dropPartial r) :=
  Room.keeps_step hk (Room.dropPartial_mems _)
theorem Room.heard_from {r0 : Room} (e : Env) (sop : Nat) (r : Room) (hk : r0.Keeps r) : r0.Keeps (Room.heard e sop r) :=
  Room.keeps_step hk (Room.heard_mems _ _ _)
theorem Room.discard_from {r0 : Room} (e : Env) (f : Field) (r : Room) (hk : r0.Keeps r) : r0.Keeps (Room.discard e f r) :=
  Room.keeps_step hk (Room.discard_mems _ _ _)
theorem Room.receive_from {r0 : Room} (e : Env) (k : Pkt) (r : Room) (hk : r0.Keeps r) : r0.Keeps (Room.receive e k r) :=
  Room.keeps_step hk (Room.receive_mems _ _ _)
theorem Room.holdTx_from {r0 : Room} (r : Room) (hk : r0.Keeps r) : r0.Keeps (Room.holdTx r) :=
  Room.keeps_step hk (Room.holdTx_mems _)
theorem Room.txLost_from {r0 : Room} (code : Nat) (r : Room) (hk : r0.Keeps r) : r0.Keeps (Room.txLost code r) :=
  Room.keeps_step hk (Room.txLost_mems _ _)
theorem Room.softClear_from {r0 : Room} (id : Option Nat) (r : Room) (hk : r0.Keeps r) : r0.Keeps (Room.softClear id r) :=
  Room.keeps_step hk (Room.softClear_mems _ _)
theorem Room.softReset_from {r0 : Room} (e : Env) (k : Pkt) (r : Room) (h : r0.Keeps r) : r0.Keeps (Room.softReset e k r) := by
  refine Room.keeps_trans h ?_
  unfold Room.softReset
  try dsimp only
  repeat' first
    | with_reducible exact Room.Keeps.refl _
    | simp only [Room.keeps_mk_eq]
    | with_reducible refine KeepsParts.same _ ?_
    | with_reducible refine KeepsParts.data _ _ _ ?_
    | with_reducible apply Room.keeps_ite
    | with_reducible refine Room.softClear_from _ _ ?_
    | with_reducible refine Room.sinkTxOk_from _ _ ?_
    | with_reducible refine Room.txLost_from _ _ ?_
    | with_reducible refine Room.say_from _ _ ?_
    | with_reducible refine Room.on_from _ _ ?_
    | with_reducible refine Room.enqueue_from _ _ _ ?_
    | split
    | intro _

theorem Room.bistRx_from {r0 : Room} (e : Env) (k : Pkt) (r : Room) (hk : r0.Keeps r) : r0.Keeps (Room.bistRx e k r) :=
  Room.keeps_step hk (Room.bistRx_mems _ _ _)
theorem Room.eprMode_from {r0 : Room} (e : Env) (k : Pkt) (r : Room) (hk : r0.Keeps r) : r0.Keeps (Room.eprMode e k r) :=
  Room.keeps_step hk (Room.eprMode_mems _ _ _)
theorem Room.answered_from {r0 : Room} (e : Env) (av : Nat) (k : Pkt) (r : Room) (hk : r0.Keeps r) : r0.Keeps (Room.answered e av k r) :=
  Room.keeps_step hk (Room.answered_mems _ _ _ _)
theorem Room.coreEffects_from {r0 : Room} (e : Env) (av : Nat) (k : Pkt) (r : Room) (hk : r0.Keeps r) : r0.Keeps (Room.coreEffects e av k r) :=
  Room.keeps_step hk (Room.coreEffects_mems _ _ _ _)
theorem Room.toCore_from {r0 : Room} (e : Env) (av : Nat) (k : Pkt) (data : List Byte) (r : Room) (h : r0.Keeps r) : r0.Keeps (Room.toCore e av k data r) := by
  refine Room.keeps_trans h ?_
  unfold Room.toCore
  try dsimp only
  repeat' first
    | with_reducible exact Room.Keeps.refl _
    | simp only [Room.keeps_mk_eq]
    | with_reducible refine KeepsParts.same _ ?_
    | with_reducible refine KeepsParts.data _ _ _ ?_
    | with_reducible apply Room.keeps_ite
    | with_reducible refine Room.enqueue_from _ _ _ ?_
    | with_reducible refine Room.onPd_from _ _ ?_
    | with_reducible refine Room.coreEffects_from _ _ _ _ ?_
    | split
    | intro _

theorem Room.handle_from {r0 : Room} (e : Env) (av : Nat) (k : Pkt) (r : Room) (h : r0.Keeps r) : r0.Keeps (Room.handle e av k r) := by
  refine Room.keeps_trans h ?_
  unfold Room.handle
  try dsimp only
  repeat' first
    | with_reducible exact Room.Keeps.refl _
    | simp only [Room.keeps_mk_eq]
    | with_reducible refine KeepsParts.same _ ?_
    | with_reducible refine KeepsParts.data _ _ _ ?_
    | with_reducible apply Room.keeps_ite
    | with_reducible refine Room.onPd_from _ _ ?_
    | with_reducible refine Room.say_from _ _ ?_
    | with_reducible refine Room.toCore_from _ _ _ _ _ ?_
    | with_reducible refine Room.on_from _ _ ?_
    | with_reducible refine Room.showRx_from _ ?_
    | with_reducible refine Room.softReset_from _ _ _ ?_
    | with_reducible refine Room.hardResetCause_from _ _ ?_
    | with_reducible refine Room.bistRx_from _ _ _ ?_
    | split
    | intro _

theorem Room.chunkRequest_from {r0 : Room} (k : Pkt) (r : Room) (hk : r0.Keeps r) : r0.Keeps (Room.chunkRequest k r) :=
  Room.keeps_step hk (Room.chunkRequest_mems _ _)
theorem Room.nextChunk_from {r0 : Room} (e : Env) (av : Nat) (c : ChunkRx) (k : Pkt) (r : Room) (h : r0.Keeps r) : r0.Keeps (Room.nextChunk e av c k r) := by
  refine Room.keeps_trans h ?_
  unfold Room.nextChunk
  try dsimp only
  repeat' first
    | with_reducible exact Room.Keeps.refl _
    | simp only [Room.keeps_mk_eq]
    | with_reducible refine KeepsParts.same _ ?_
    | with_reducible refine KeepsParts.data _ _ _ ?_
    | with_reducible apply Room.keeps_ite
    | with_reducible refine Room.onPd_from _ _ ?_
    | with_reducible refine Room.toCore_from _ _ _ _ _ ?_
    | with_reducible refine Room.say_from _ _ ?_
    | split
    | intro _

theorem Room.cableReset_from {r0 : Room} (e : Env) (r : Room) (hk : r0.Keeps r) : r0.Keeps (Room.cableReset e r) :=
  Room.keeps_step hk (Room.cableReset_mems _ _)
theorem Room.cableDue_from {r0 : Room} (e : Env) (r : Room) (hk : r0.Keeps r) : r0.Keeps (Room.cableDue e r) :=
  Room.keeps_step hk (Room.cableDue_mems _ _)
theorem Room.cableAnswer_from {r0 : Room} (e : Env) (k : Pkt) (r : Room) (hk : r0.Keeps r) : r0.Keeps (Room.cableAnswer e k r) :=
  Room.keeps_step hk (Room.cableAnswer_mems _ _ _)
theorem Room.deliver_from {r0 : Room} (e : Env) (av : Nat) (k : Pkt) (r : Room) (h : r0.Keeps r) : r0.Keeps (Room.deliver e av k r) := by
  refine Room.keeps_trans h ?_
  unfold Room.deliver
  try dsimp only
  repeat' first
    | with_reducible exact Room.Keeps.refl _
    | simp only [Room.keeps_mk_eq]
    | with_reducible refine KeepsParts.same _ ?_
    | with_reducible refine KeepsParts.data _ _ _ ?_
    | with_reducible apply Room.keeps_ite
    | with_reducible refine Room.onPd_from _ _ ?_
    | with_reducible refine Room.cableDue_from _ _ ?_
    | with_reducible refine Room.count_from _ _ ?_
    | with_reducible refine Room.setRev_from _ _ ?_
    | with_reducible refine Room.holdTx_from _ ?_
    | with_reducible refine Room.dropPartial_from _ ?_
    | with_reducible refine Room.nextChunk_from _ _ _ _ _ ?_
    | with_reducible refine Room.chunkRequest_from _ _ ?_
    | with_reducible refine Room.cableAnswer_from _ _ _ ?_
    | with_reducible refine Room.handle_from _ _ _ _ ?_
    | split
    | intro _

theorem Room.begin_from {r0 : Room} (m : TxMsg) (r : Room) (h : r0.Keeps r) : r0.Keeps (Room.begin m r) := by
  refine Room.keeps_trans h ?_
  unfold Room.begin
  try dsimp only
  repeat' first
    | with_reducible exact Room.Keeps.refl _
    | simp only [Room.keeps_mk_eq]
    | with_reducible refine KeepsParts.same _ ?_
    | with_reducible refine KeepsParts.data _ _ _ ?_
    | with_reducible apply Room.keeps_ite
    | with_reducible refine Room.softReset_from _ _ _ ?_
    | with_reducible refine Room.softClear_from _ _ ?_
    | with_reducible refine Room.onPd_from _ _ ?_
    | with_reducible refine Room.put_from _ _ _ ?_
    | split
    | intro _

theorem Room.beginAuto_from {r0 : Room} (m : TxMsg) (r : Room) (h : r0.Keeps r) : r0.Keeps (Room.beginAuto m r) := by
  refine Room.keeps_trans h ?_
  unfold Room.beginAuto
  try dsimp only
  repeat' first
    | with_reducible exact Room.Keeps.refl _
    | simp only [Room.keeps_mk_eq]
    | with_reducible refine KeepsParts.same _ ?_
    | with_reducible refine KeepsParts.data _ _ _ ?_
    | with_reducible apply Room.keeps_ite
    | with_reducible refine Room.onPd_from _ _ ?_
    | with_reducible refine Room.begin_from _ _ ?_
    | split
    | intro _

theorem Room.followVdm_from {r0 : Room} (e : Env) (r : Room) (hk : r0.Keeps r) : r0.Keeps (Room.followVdm e r) :=
  Room.keeps_step hk (Room.followVdm_mems _ _)
theorem Room.startTx_from {r0 : Room} (e : Env) (r : Room) (h : r0.Keeps r) : r0.Keeps (Room.startTx e r) := by
  refine Room.keeps_trans h ?_
  unfold Room.startTx
  try dsimp only
  repeat' first
    | with_reducible exact Room.Keeps.refl _
    | simp only [Room.keeps_mk_eq]
    | with_reducible refine KeepsParts.same _ ?_
    | with_reducible refine KeepsParts.data _ _ _ ?_
    | with_reducible apply Room.keeps_ite
    | with_reducible refine Room.followRp_from _ ?_
    | with_reducible refine Room.followVdm_from _ _ ?_
    | with_reducible refine Room.beginAuto_from _ _ ?_
    | with_reducible refine Room.begin_from _ _ ?_
    | split
    | intro _

theorem Room.startAuto_from {r0 : Room} (e : Env) (kind : TxKind) (r : Room) (h : r0.Keeps r) : r0.Keeps (Room.startAuto e kind r) := by
  refine Room.keeps_trans h ?_
  unfold Room.startAuto
  try dsimp only
  repeat' first
    | with_reducible exact Room.Keeps.refl _
    | simp only [Room.keeps_mk_eq]
    | with_reducible refine KeepsParts.same _ ?_
    | with_reducible refine KeepsParts.data _ _ _ ?_
    | with_reducible apply Room.keeps_ite
    | with_reducible refine Room.beginAuto_from _ _ ?_
    | split
    | intro _

theorem Room.queueTx_from {r0 : Room} (e : Env) (m : TxMsg) (r : Room) (hk : r0.Keeps r) : r0.Keeps (Room.queueTx e m r) :=
  Room.keeps_step hk (Room.queueTx_mems _ _ _)
theorem Room.coreSent_from {r0 : Room} (e : Env) (m : TxMsg) (r : Room) (h : r0.Keeps r) : r0.Keeps (Room.coreSent e m r) := by
  refine Room.keeps_trans h ?_
  unfold Room.coreSent
  try dsimp only
  repeat' first
    | with_reducible exact Room.Keeps.refl _
    | simp only [Room.keeps_mk_eq]
    | with_reducible refine KeepsParts.same _ ?_
    | with_reducible refine KeepsParts.data _ _ _ ?_
    | with_reducible apply Room.keeps_ite
    | with_reducible refine Room.accepted_from _ _ _ ?_
    | with_reducible refine Room.psRdySent_from _ _ ?_
    | with_reducible refine Room.softReset_from _ _ _ ?_
    | with_reducible refine Room.onPd_from _ _ ?_
    | with_reducible refine Room.eprMode_from _ _ _ ?_
    | split
    | intro _

theorem Room.replySent_from {r0 : Room} (e : Env) (m : TxMsg) (r : Room) (hk : r0.Keeps r) : r0.Keeps (Room.replySent e m r) :=
  Room.keeps_step hk (Room.replySent_mems _ _ _)
theorem Room.acked_from {r0 : Room} (e : Env) (a : Air) (r : Room) (h : r0.Keeps r) : r0.Keeps (Room.acked e a r) := by
  refine Room.keeps_trans h ?_
  unfold Room.acked
  try dsimp only
  repeat' first
    | with_reducible exact Room.Keeps.refl _
    | simp only [Room.keeps_mk_eq]
    | with_reducible refine KeepsParts.same _ ?_
    | with_reducible refine KeepsParts.data _ _ _ ?_
    | with_reducible apply Room.keeps_ite
    | with_reducible refine Room.onPd_from _ _ ?_
    | with_reducible refine Room.put_from _ _ _ ?_
    | with_reducible refine Room.txEnd_from _ _ ?_
    | with_reducible refine Room.coreSent_from _ _ _ ?_
    | with_reducible refine Room.replySent_from _ _ _ ?_
    | with_reducible refine Room.on_from _ _ ?_
    | with_reducible refine Room.softReset_from _ _ _ ?_
    | split
    | intro _

theorem Room.autoSoftReset_from {r0 : Room} (m : TxMsg) (r : Room) (h : r0.Keeps r) : r0.Keeps (Room.autoSoftReset m r) := by
  refine Room.keeps_trans h ?_
  unfold Room.autoSoftReset
  try dsimp only
  repeat' first
    | with_reducible exact Room.Keeps.refl _
    | with_reducible apply Room.keeps_ite
    | with_reducible refine Room.say_from _ _ ?_
    | with_reducible refine Room.softReset_from _ _ _ ?_
    | split
    | intro _

theorem Room.failed_from {r0 : Room} (e : Env) (m : TxMsg) (r : Room) (h : r0.Keeps r) : r0.Keeps (Room.failed e m r) := by
  refine Room.keeps_trans h ?_
  unfold Room.failed
  try dsimp only
  repeat' first
    | with_reducible exact Room.Keeps.refl _
    | simp only [Room.keeps_mk_eq]
    | with_reducible refine KeepsParts.same _ ?_
    | with_reducible refine KeepsParts.data _ _ _ ?_
    | with_reducible apply Room.keeps_ite
    | with_reducible refine Room.onPd_from _ _ ?_
    | with_reducible refine Room.softReset_from _ _ _ ?_
    | with_reducible refine Room.txLost_from _ _ ?_
    | with_reducible refine Room.hardResetCause_from _ _ ?_
    | with_reducible refine Room.autoSoftReset_from _ _ ?_
    | with_reducible refine Room.dropPartial_from _ ?_
    | with_reducible refine Room.put_from _ _ _ ?_
    | with_reducible refine Room.on_from _ _ ?_
    | split
    | intro _

theorem Room.clampCaps_from {r0 : Room} (e : Env) (k : Pkt) (ext : List Byte) (r : Room) (h : r0.Keeps r) : r0.Keeps (Room.clampCaps e k ext r).2.2 := by
  refine Room.keeps_trans h ?_
  unfold Room.clampCaps
  try dsimp only
  repeat' first
    | with_reducible exact Room.Keeps.refl _
    | simp only [Room.keeps_mk_eq]
    | with_reducible refine KeepsParts.same _ ?_
    | with_reducible refine KeepsParts.data _ _ _ ?_
    | with_reducible apply Room.keeps_ite
    | with_reducible refine Room.on_from _ _ ?_
    | split
    | intro _

theorem Room.eprCheck_from {r0 : Room} (e : Env) (k : Pkt) (r : Room) (h : r0.Keeps r) : r0.Keeps (Room.eprCheck e k r).2 := by
  refine Room.keeps_trans h ?_
  unfold Room.eprCheck
  try dsimp only
  repeat' first
    | with_reducible exact Room.Keeps.refl _
    | simp only [Room.keeps_mk_eq]
    | with_reducible refine KeepsParts.same _ ?_
    | with_reducible refine KeepsParts.data _ _ _ ?_
    | with_reducible apply Room.keeps_ite
    | with_reducible refine Room.on_from _ _ ?_
    | with_reducible refine Room.put_from _ _ _ ?_
    | split
    | intro _

theorem Room.takeNeg_from {r0 : Room} (r : Room) (hk : r0.Keeps r) : r0.Keeps (Room.takeNeg r) :=
  Room.keeps_step hk (Room.takeNeg_mems _)
theorem Room.gate_from {r0 : Room} (e : Env) (av : Nat) (k : Pkt) (r : Room) (h : r0.Keeps r) : r0.Keeps (Room.gate e av k r).2.2 := by
  refine Room.keeps_trans h ?_
  unfold Room.gate
  try dsimp only
  repeat' first
    | with_reducible exact Room.Keeps.refl _
    | simp only [Room.keeps_mk_eq]
    | with_reducible refine KeepsParts.same _ ?_
    | with_reducible refine KeepsParts.data _ _ _ ?_
    | with_reducible apply Room.keeps_ite
    | with_reducible refine Room.takeNeg_from _ ?_
    | with_reducible refine Room.onCon_from _ _ ?_
    | with_reducible refine Room.put_from _ _ _ ?_
    | with_reducible refine Room.on_from _ _ ?_
    | with_reducible refine Room.endResv_from _ ?_
    | split
    | intro _

theorem Room.take_from {r0 : Room} (e : Env) (av : Nat) (r : Room) (h : r0.Keeps r) : r0.Keeps (Room.take e av r) := by
  unfold Room.take
  extract_lets w init c x g m r1 r2
  have k0 : r0.Keeps c.2.2 := Room.clampCaps_from e w.1 w.2.2 r h
  clear_value c
  have k1 : r0.Keeps x.2 := Room.eprCheck_from e c.1 c.2.2 k0
  clear_value x
  have k2 : r0.Keeps g.2.2 := Room.gate_from e av x.1 x.2 k1
  clear_value g
  have k3 : r0.Keeps r2 := Room.queueTx_from _ _ _ (Room.put_from _ _ _ (Room.onPd_from _ _ k2))
  exact Room.keeps_ite _ _ _ (Room.onCore_from _ _ k3) k3

theorem Room.commit_from {r0 : Room} (e : Env) (av : Nat) (shadow : Bool) (r : Room) (h : r0.Keeps r) :
    r0.Keeps (Room.commit e av shadow r).2 := by
  unfold Room.commit
  extract_lets st regs regs2 r1 send r2 j
  have k1 : r0.Keeps r1 := h
  have k2 : r0.Keeps r2 := Room.onCore_from _ _ k1
  clear_value r2
  split
  · split
    · exact Room.take_from e av r2 k2
    · exact Room.on_from _ _ (Room.put_from _ _ _ k2)
  · exact k2

theorem Room.observe_from {r0 : Room} (k : Pkt) (r : Room) (hk : r0.Keeps r) : r0.Keeps (Room.observe k r) :=
  Room.keeps_step hk (Room.observe_mems _ _)
theorem Room.observeAck_from {r0 : Room} (e : Env) (sop id : Nat) (r : Room) (h : r0.Keeps r) : r0.Keeps (Room.observeAck e sop id r) := by
  refine Room.keeps_trans h ?_
  unfold Room.observeAck
  try dsimp only
  repeat' first
    | with_reducible exact Room.Keeps.refl _
    | simp only [Room.keeps_mk_eq]
    | with_reducible refine KeepsParts.same _ ?_
    | with_reducible refine KeepsParts.data _ _ _ ?_
    | with_reducible apply Room.keeps_ite
    | with_reducible refine Room.onPd_from _ _ ?_
    | with_reducible refine Room.put_from _ _ _ ?_
    | with_reducible refine Room.off_from _ _ ?_
    | with_reducible refine Room.cableAnswer_from _ _ _ ?_
    | with_reducible refine Room.eprMode_from _ _ _ ?_
    | split
    | intro _

theorem Room.goodCrc_from {r0 : Room} (e : Env) (sop id : Nat) (r : Room) (h : r0.Keeps r) : r0.Keeps (Room.goodCrc e sop id r) := by
  refine Room.keeps_trans h ?_
  unfold Room.goodCrc
  try dsimp only
  repeat' first
    | with_reducible exact Room.Keeps.refl _
    | simp only [Room.keeps_mk_eq]
    | with_reducible refine KeepsParts.same _ ?_
    | with_reducible refine KeepsParts.data _ _ _ ?_
    | with_reducible apply Room.keeps_ite
    | with_reducible refine Room.acked_from _ _ _ ?_
    | split
    | intro _

theorem Room.hardSignal_from {r0 : Room} (e : Env) (r : Room) (hk : r0.Keeps r) : r0.Keeps (Room.hardSignal e r) :=
  Room.keeps_step hk (Room.hardSignal_mems _ _)
theorem Room.packet_from {r0 : Room} (e : Env) (c : Checked) (r : Room) (h : r0.Keeps r) : r0.Keeps (Room.packet e c r) := by
  refine Room.keeps_trans h ?_
  unfold Room.packet
  try dsimp only
  repeat' first
    | with_reducible exact Room.Keeps.refl _
    | simp only [Room.keeps_mk_eq]
    | with_reducible refine KeepsParts.same _ ?_
    | with_reducible refine KeepsParts.data _ _ _ ?_
    | with_reducible apply Room.keeps_ite
    | with_reducible refine Room.observeAck_from _ _ _ _ ?_
    | with_reducible refine Room.observe_from _ _ ?_
    | with_reducible refine Room.heard_from _ _ _ ?_
    | with_reducible refine Room.goodCrc_from _ _ _ _ ?_
    | with_reducible refine Room.receive_from _ _ _ ?_
    | with_reducible refine Room.discard_from _ _ _ ?_
    | split
    | intro _

theorem Room.discover_from {r0 : Room} (e : Env) (tries : Nat) (r : Room) (hk : r0.Keeps r) : r0.Keeps (Room.discover e tries r) :=
  Room.keeps_step hk (Room.discover_mems _ _ _)
theorem Room.hrCounted_from {r0 : Room} (r : Room) (hk : r0.Keeps r) : r0.Keeps (Room.hrCounted r) :=
  Room.keeps_step hk (Room.hrCounted_mems _)
theorem Room.startCore_from {r0 : Room} (now entry : Nat) (r : Room) (hk : r0.Keeps r) : r0.Keeps (Room.startCore now entry r) :=
  Room.keeps_step hk (Room.startCore_mems _ _ _)
theorem Room.loadProgram_from {r0 : Room} (g : ProgramRec) (r : Room) (h : r0.Keeps r) : r0.Keeps (r.loadProgram g) :=
  fun k => ⟨memOf_wf _, memLoad_wf _ _ (h k).2⟩
theorem Room.senseHoldOn_from {r0 : Room} (e : Env) (r : Room) (hk : r0.Keeps r) : r0.Keeps (Room.senseHoldOn e r) :=
  Room.keeps_step hk (Room.senseHoldOn_mems _ _)
theorem Room.showThr_from {r0 : Room} (e : Env) (r : Room) (hk : r0.Keeps r) : r0.Keeps (Room.showThr e r) :=
  Room.keeps_step hk (Room.showThr_mems _ _)
theorem Room.levels_from {r0 : Room} (e : Env) (r : Room) (hk : r0.Keeps r) : r0.Keeps (Room.levels e r) :=
  Room.keeps_step hk (Room.levels_mems _ _)
theorem Room.fallThr_from {r0 : Room} (r : Room) (h : r0.Keeps r) : r0.Keeps (Room.fallThr r) := by
  refine Room.keeps_trans h ?_
  unfold Room.fallThr
  try dsimp only
  repeat' first
    | with_reducible refine Room.keeps_foldl _ _ _ _ ?_ ?_
    | with_reducible exact Room.Keeps.refl _
    | simp only [Room.keeps_mk_eq]
    | with_reducible refine KeepsParts.same _ ?_
    | with_reducible refine KeepsParts.data _ _ _ ?_
    | with_reducible apply Room.keeps_ite
    | with_reducible refine Room.put_from _ _ _ ?_
    | with_reducible refine Room.onConv_from _ _ ?_
    | split
    | intro _

theorem Room.addHold_from {r0 : Room} (e : Env) (h : Hold) (r : Room) (hk : r0.Keeps r) : r0.Keeps (Room.addHold e h r) :=
  Room.keeps_step hk (Room.addHold_mems _ _ _)
theorem Room.dropHolds_from {r0 : Room} (e : Env) (f : Hold → Bool) (r : Room) (hk : r0.Keeps r) : r0.Keeps (Room.dropHolds e f r) :=
  Room.keeps_step hk (Room.dropHolds_mems _ _ _)
theorem Room.latch_from {r0 : Room} (k : Nat) (neg : Bool) (r : Room) (hk : r0.Keeps r) : r0.Keeps (Room.latch k neg r) :=
  Room.keeps_step hk (Room.latch_mems _ _ _)
theorem Room.unlatch_from {r0 : Room} (k : Nat) (r : Room) (hk : r0.Keeps r) : r0.Keeps (Room.unlatch k r) :=
  Room.keeps_step hk (Room.unlatch_mems _ _)
theorem Room.sample_from {r0 : Room} (e : Env) (vb ci vn vi : Nat) (r : Room) (h : r0.Keeps r) : r0.Keeps (Room.sample e vb ci vn vi r) := by
  refine Room.keeps_trans h ?_
  unfold Room.sample
  try dsimp only
  repeat' first
    | with_reducible exact Room.Keeps.refl _
    | simp only [Room.keeps_mk_eq]
    | with_reducible refine KeepsParts.same _ ?_
    | with_reducible refine KeepsParts.data _ _ _ ?_
    | with_reducible apply Room.keeps_ite
    | with_reducible refine Room.put_from _ _ _ ?_
    | with_reducible refine Room.putB_from _ _ _ ?_
    | with_reducible refine Room.onCc_from _ _ ?_
    | with_reducible refine Room.onCon_from _ _ ?_
    | with_reducible refine Room.onConv_from _ _ ?_
    | with_reducible refine Room.fallThr_from _ ?_
    | split
    | intro _

theorem Room.computeForward_from {r0 : Room} (e : Env) (isum : Int) (r : Room) (hk : r0.Keeps r) : r0.Keeps (Room.computeForward e isum r) :=
  Room.keeps_step hk (Room.computeForward_mems _ _ _)
theorem Room.moveDraw_from {r0 : Room} (e : Env) (r : Room) (hk : r0.Keeps r) : r0.Keeps (Room.moveDraw e r) :=
  Room.keeps_step hk (Room.moveDraw_mems _ _)
theorem Room.computeReverse_from {r0 : Room} (e : Env) (r : Room) (hk : r0.Keeps r) : r0.Keeps (Room.computeReverse e r) :=
  Room.keeps_step hk (Room.computeReverse_mems _ _)
theorem Room.pushHigh_from {r0 : Room} (y : Int) (r : Room) (hk : r0.Keeps r) : r0.Keeps (Room.pushHigh y r) :=
  Room.keeps_step hk (Room.pushHigh_mems _ _)
theorem Room.judge_from {r0 : Room} (e : Env) (r : Room) (hk : r0.Keeps r) : r0.Keeps (Room.judge e r) :=
  Room.keeps_step hk (Room.judge_mems _ _)
theorem Room.moveTrim_from {r0 : Room} (sum : Int) (n : Nat) (r : Room) (hk : r0.Keeps r) : r0.Keeps (Room.moveTrim sum n r) :=
  Room.keeps_step hk (Room.moveTrim_mems _ _ _)
theorem Room.means_from {r0 : Room} (e : Env) (vs is : List (BitVec 12)) (r : Room) (hk : r0.Keeps r) : r0.Keeps (Room.means e vs is r) :=
  Room.keeps_step hk (Room.means_mems _ _ _ _)
theorem Room.sampleFollower_from {r0 : Room} (e : Env) (ci vn : Nat) (r : Room) (h : r0.Keeps r) : r0.Keeps (Room.sampleFollower e ci vn r) := by
  refine Room.keeps_trans h ?_
  unfold Room.sampleFollower
  try dsimp only
  repeat' first
    | with_reducible exact Room.Keeps.refl _
    | with_reducible apply Room.keeps_ite
    | with_reducible refine Room.put_from _ _ _ ?_
    | with_reducible refine Room.fallThr_from _ ?_
    | split
    | intro _

theorem Room.transfers_from {r0 : Room} (turned : Bool) (r : Room) (hk : r0.Keeps r) : r0.Keeps (Room.transfers turned r) :=
  Room.keeps_step hk (Room.transfers_mems _ _)
theorem Room.turn_from {r0 : Room} (e : Env) (r : Room) (hk : r0.Keeps r) : r0.Keeps (Room.turn e r) :=
  Room.keeps_step hk (Room.turn_mems _ _)
theorem Room.newPeriod_from {r0 : Room} (e : Env) (r : Room) (hk : r0.Keeps r) : r0.Keeps (Room.newPeriod e r) :=
  Room.keeps_step hk (Room.newPeriod_mems _ _)
theorem Room.pwmTick_from {r0 : Room} (e : Env) (r : Room) (hk : r0.Keeps r) : r0.Keeps (Room.pwmTick e r) :=
  Room.keeps_step hk (Room.pwmTick_mems _ _)
theorem Room.foldPeriod_from {r0 : Room} (e : Env) (r : Room) (hk : r0.Keeps r) : r0.Keeps (Room.foldPeriod e r) :=
  Room.keeps_step hk (Room.foldPeriod_mems _ _)
theorem Room.remember_from {r0 : Room} (e : Env) (r : Room) (hk : r0.Keeps r) : r0.Keeps (Room.remember e r) :=
  Room.keeps_step hk (Room.remember_mems _ _)
theorem Room.startPeriod_from {r0 : Room} (e : Env) (r : Room) (hk : r0.Keeps r) : r0.Keeps (Room.startPeriod e r) :=
  Room.keeps_step hk (Room.startPeriod_mems _ _)
theorem Room.powerOn_from {r0 : Room} (e : Env) (r : Room) (hk : r0.Keeps r) : r0.Keeps (Room.powerOn e r) :=
  Room.keeps_step hk (Room.powerOn_mems _ _)
theorem Room.attempt_from {r0 : Room} (e : Env) (r : Room) (hk : r0.Keeps r) : r0.Keeps (Room.attempt e r) :=
  Room.keeps_step hk (Room.attempt_mems _ _)
theorem Room.forceSafe_from {r0 : Room} (e : Env) (r : Room) (hk : r0.Keeps r) : r0.Keeps (Room.forceSafe e r) :=
  Room.keeps_step hk (Room.forceSafe_mems _ _)
theorem Room.releaseSafe_from {r0 : Room} (e : Env) (r : Room) (hk : r0.Keeps r) : r0.Keeps (Room.releaseSafe e r) :=
  Room.keeps_step hk (Room.releaseSafe_mems _ _)
theorem Room.requestSafe_from {r0 : Room} (e : Env) (r : Room) (h : r0.Keeps r) : r0.Keeps (Room.requestSafe e r) := by
  refine Room.keeps_trans h ?_
  unfold Room.requestSafe
  try dsimp only
  repeat' first
    | with_reducible exact Room.Keeps.refl _
    | simp only [Room.keeps_mk_eq]
    | with_reducible refine KeepsParts.same _ ?_
    | with_reducible refine KeepsParts.data _ _ _ ?_
    | with_reducible apply Room.keeps_ite
    | with_reducible refine Room.on_from _ _ ?_
    | with_reducible refine Room.onCc_from _ _ ?_
    | with_reducible refine Room.off_from _ _ ?_
    | with_reducible refine Room.onConv_from _ _ ?_
    | with_reducible refine Room.outputsOff_from _ _ ?_
    | split
    | intro _

theorem Room.pinTest_from {r0 : Room} (now k : Nat) (bad : Bool) (r : Room) (hk : r0.Keeps r) : r0.Keeps (Room.pinTest now k bad r) :=
  Room.keeps_step hk (Room.pinTest_mems _ _ _ _)
theorem Room.senseHoldOff_from {r0 : Room} (e : Env) (r : Room) (hk : r0.Keeps r) : r0.Keeps (Room.senseHoldOff e r) :=
  Room.keeps_step hk (Room.senseHoldOff_mems _ _)
theorem Room.resumeRate_from {r0 : Room} (r : Room) (hk : r0.Keeps r) : r0.Keeps (Room.resumeRate r) :=
  Room.keeps_step hk (Room.resumeRate_mems _)
theorem Room.staleTakeover_from {r0 : Room} (e : Env) (r : Room) (h : r0.Keeps r) : r0.Keeps (Room.staleTakeover e r) := by
  refine Room.keeps_trans h ?_
  unfold Room.staleTakeover
  try dsimp only
  repeat' first
    | with_reducible exact Room.Keeps.refl _
    | simp only [Room.keeps_mk_eq]
    | with_reducible refine KeepsParts.same _ ?_
    | with_reducible refine KeepsParts.data _ _ _ ?_
    | with_reducible apply Room.keeps_ite
    | with_reducible refine Room.errorRecovery_from _ _ ?_
    | with_reducible refine Room.onCon_from _ _ ?_
    | with_reducible refine Room.refreshIlim_from _ _ ?_
    | with_reducible refine Room.say_from _ _ ?_
    | with_reducible refine Room.softReset_from _ _ _ ?_
    | split
    | intro _

theorem Room.resumeCc_from {r0 : Room} (e : Env) (r : Room) (hk : r0.Keeps r) : r0.Keeps (Room.resumeCc e r) :=
  Room.keeps_step hk (Room.resumeCc_mems _ _)
theorem Room.resumeAsk_from {r0 : Room} (e : Env) (r : Room) (hk : r0.Keeps r) : r0.Keeps (Room.resumeAsk e r) :=
  Room.keeps_step hk (Room.resumeAsk_mems _ _)
theorem Room.clampFilt_from {r0 : Room} (o : Nat) (r : Room) (hk : r0.Keeps r) : r0.Keeps (Room.clampFilt o r) :=
  Room.keeps_step hk (Room.clampFilt_mems _ _)
theorem Room.pwmTiming_from {r0 : Room} (pl : Plan) (p : Nat) (r : Room) (hk : r0.Keeps r) : r0.Keeps (Room.pwmTiming pl p r) :=
  Room.keeps_step hk (Room.pwmTiming_mems _ _ _)
theorem Room.applyPlan_from {r0 : Room} (pl : Plan) (p : Nat) (r : Room) (hk : r0.Keeps r) : r0.Keeps (Room.applyPlan pl p r) :=
  Room.keeps_step hk (Room.applyPlan_mems _ _ _)
theorem Room.mirrorSeq_from {r0 : Room} (now t was : Nat) (vconn : Bool) (r : Room) (h : r0.Keeps r) : r0.Keeps (Room.mirrorSeq now t was vconn r) := by
  refine Room.keeps_trans h ?_
  unfold Room.mirrorSeq
  try dsimp only
  repeat' first
    | with_reducible exact Room.Keeps.refl _
    | simp only [Room.keeps_mk_eq]
    | with_reducible refine KeepsParts.same _ ?_
    | with_reducible refine KeepsParts.data _ _ _ ?_
    | with_reducible apply Room.keeps_ite
    | with_reducible refine Room.onCon_from _ _ ?_
    | with_reducible refine Room.onCc_from _ _ ?_
    | split
    | intro _

theorem Room.mirrorRetry_from {r0 : Room} (now : Nat) (r : Room) (hk : r0.Keeps r) : r0.Keeps (Room.mirrorRetry now r) :=
  Room.keeps_step hk (Room.mirrorRetry_mems _ _)
theorem Room.applyCc_from {r0 : Room} (w : Word) (r : Room) (hk : r0.Keeps r) : r0.Keeps (Room.applyCc w r) :=
  Room.keeps_step hk (Room.applyCc_mems _ _)
theorem Room.applyRoom_from {r0 : Room} (e : Env) (slotOn : Bool) (b : List Byte) (r : Room) (h : r0.Keeps r) : r0.Keeps (Room.applyRoom e slotOn b r) := by
  refine Room.keeps_trans h ?_
  unfold Room.applyRoom
  try dsimp only
  repeat' first
    | with_reducible exact Room.Keeps.refl _
    | simp only [Room.keeps_mk_eq]
    | with_reducible refine KeepsParts.same _ ?_
    | with_reducible refine KeepsParts.data _ _ _ ?_
    | with_reducible apply Room.keeps_ite
    | with_reducible refine Room.applyCc_from _ _ ?_
    | with_reducible refine Room.put_from _ _ _ ?_
    | with_reducible refine Room.onPd_from _ _ ?_
    | with_reducible refine Room.onCc_from _ _ ?_
    | with_reducible refine Room.onCon_from _ _ ?_
    | with_reducible refine Room.mirrorSeq_from _ _ _ _ _ ?_
    | with_reducible refine Room.mirrorRetry_from _ _ ?_
    | with_reducible refine Room.refreshCable_from _ _ ?_
    | split
    | intro _

theorem Room.rampTick_from {r0 : Room} (r : Room) (hk : r0.Keeps r) : r0.Keeps (Room.rampTick r) :=
  Room.keeps_step hk (Room.rampTick_mems _)
theorem Room.tick_from {r0 : Room} (e : Env) (r : Room) (hk : r0.Keeps r) : r0.Keeps (Room.tick e r) :=
  Room.keeps_step hk (Room.tick_mems _ _)
end Sys2Proof.Machine
end

