-- ==== Sys2Proof/Laws/Leads.lean ====
section
/-! SUPPORT. Laws/Leads.lean: what every operation on the state keeps: the invariant of Safety.lean, and fuses that read 1. -/

namespace Sys2Proof.Machine

/-- The relation of a state to one that an operation makes of it. -/
structure State.Leads (s t : State) : Prop where
  inv : s.Inv → t.Inv
  fuse : s.attic.grows t.attic
  queue : t.pending = s.pending

theorem Attic.grows_refl (x : Attic) : x.grows x := fun w => by simp
theorem Attic.grows_trans {x y z : Attic} (h : x.grows y) (k : y.grows z) : x.grows z := fun w => by
  constructor
  · rw [← (h w).1, BitVec.and_assoc, (k w).1]
  · rw [← (h w).2, BitVec.and_assoc, (k w).2]

theorem State.Leads.refl (s : State) : s.Leads s := ⟨id, Attic.grows_refl _, rfl⟩
theorem State.Leads.trans {s t u : State} (h : s.Leads t) (k : t.Leads u) : s.Leads u :=
  ⟨fun i => k.inv (h.inv i), Attic.grows_trans h.fuse k.fuse, k.queue.trans h.queue⟩

theorem State.leads_ite {s : State} (c : Prop) [Decidable c] (a b : State) (h1 : s.Leads a) (h2 : s.Leads b) :
    s.Leads (if c then a else b) := by split <;> assumption

theorem State.leads_foldl {α : Type} (s0 : State) (s : State) (l : List α) (f : State → α → State) (h0 : State.Leads s0 s)
    (h : ∀ (s : State) a, s.Leads (f s a)) : s0.Leads (l.foldl f s) := by
  induction l generalizing s with
  | nil => exact h0
  | cons a l ih => exact ih _ (h0.trans (h s a))

/-- A record update. -/
theorem State.leads_mk (e : State) (now freeCtr : Nat) (regs : Regs) (rooms : Vector Room 48) (lands : Vector Landing 6)
    (wings : Vector Wing 2) (clk : Clk) (chipB : Bool) (plan : Option Plan) (planStore planDigest : List Byte)
    (mode : ModeState) (lastExt : Nat) (hall : Core) (hallCode hallData : Mem) (hbeatAt : Nat) (hbMissed : Bool)
    (rdata : Word) (rerr hallErr : Bool) (hearth : Hearth) (pair : Pair) (pantry : Pantry) (lamps : Lamps)
    (chgGrant : Nat) (links : List Link) (attic : Attic) (cellar : Mem) (jnl : Journal) (fwStore fwDigest : List Byte)
    (porch : Porch) (fwSet : Store 32) (tws : List TwPort) (tcs : List TcPort) (matchers : List TwEntry) (dbg : Dbg) (snap : Snap)
    (pending : List Instr)
    (h1 : e.links.length = 2 → links.length = 2) (h2 : e.tws.length = 4 → tws.length = 4)
    (h2' : e.tcs.length = 2 → tcs.length = 2)
    (h3 : e.porch.staged.length = 2 → porch.staged.length = 2)
    (h4 : e.hearth.models.length = 57 → hearth.models.length = 57)
    (h5 : planOk e.plan e.planStore → planOk plan planStore)
    (h6 : (∀ p, (e.rooms.get p).memOk) → ∀ p, (rooms.get p).memOk)
    (h7 : Store.wf e.hallCode = true → Store.wf hallCode = true)
    (h8 : Store.wf e.hallData = true → Store.wf hallData = true)
    (h9 : Store.wf e.cellar = true → Store.wf cellar = true) (h10 : e.attic.grows attic) (h11 : pending = e.pending) :
    e.Leads ⟨now, freeCtr, regs, rooms, lands, wings, clk, chipB, plan, planStore, planDigest, mode, lastExt, hall, hallCode,
      hallData, hbeatAt, hbMissed, rdata, rerr, hallErr, hearth, pair, pantry, lamps, chgGrant, links, attic, cellar, jnl,
      fwStore, fwDigest, porch, fwSet, tws, tcs, matchers, dbg, snap, pending⟩ :=
  ⟨fun i => ⟨h1 i.links, h2 i.tws, h2' i.tcs, h3 i.staged, h4 i.models, h5 i.plan,
    fun p => h6 (fun q => i.rooms q) p, h7 i.hallCode, h8 i.hallData, h9 i.cellar⟩, h10, h11⟩


theorem State.leads_foldl1 {α β : Type} {s0 : State} (l : List α) (x : State × β) (f : State × β → α → State × β)
    (h0 : s0.Leads x.1) (h : ∀ (x : State × β) a, s0.Leads x.1 → s0.Leads (f x a).1) : s0.Leads (l.foldl f x).1 := by
  induction l generalizing x with
  | nil => exact h0
  | cons a l ih => exact ih _ (h x a h0)
theorem State.leads_pair_ite {β : Type} {s0 : State} (c : Prop) [Decidable c] (a b : State × β) (h1 : s0.Leads a.1)
    (h2 : s0.Leads b.1) : s0.Leads (if c then a else b).1 := by split <;> assumption

/-- What of a record counts for `Leads`. -/
def LeadsParts (s : State) (links : List Link) (tws : List TwPort) (tcs : List TcPort) (porch : Porch) (hearth : Hearth) (plan : Option Plan)
    (planStore : List Byte) (rooms : Vector Room 48) (hallCode hallData cellar : Mem) (attic : Attic)
    (pending : List Instr) : Prop :=
  (s.Inv → links.length = 2 ∧ tws.length = 4 ∧ tcs.length = 2 ∧ porch.staged.length = 2 ∧ hearth.models.length = 57 ∧
    planOk plan planStore ∧ (∀ p, (rooms.get p).memOk) ∧ Store.wf hallCode = true ∧ Store.wf hallData = true ∧
    Store.wf cellar = true) ∧ s.attic.grows attic ∧ pending = s.pending

theorem State.leads_mk_eq (s : State) (now freeCtr : Nat) (regs : Regs) (rooms : Vector Room 48) (lands : Vector Landing 6)
    (wings : Vector Wing 2) (clk : Clk) (chipB : Bool) (plan : Option Plan) (planStore planDigest : List Byte)
    (mode : ModeState) (lastExt : Nat) (hall : Core) (hallCode hallData : Mem) (hbeatAt : Nat) (hbMissed : Bool)
    (rdata : Word) (rerr hallErr : Bool) (hearth : Hearth) (pair : Pair) (pantry : Pantry) (lamps : Lamps)
    (chgGrant : Nat) (links : List Link) (attic : Attic) (cellar : Mem) (jnl : Journal) (fwStore fwDigest : List Byte)
    (porch : Porch) (fwSet : Store 32) (tws : List TwPort) (tcs : List TcPort) (matchers : List TwEntry) (dbg : Dbg) (snap : Snap)
    (pending : List Instr) :
    s.Leads ⟨now, freeCtr, regs, rooms, lands, wings, clk, chipB, plan, planStore, planDigest, mode, lastExt, hall, hallCode,
      hallData, hbeatAt, hbMissed, rdata, rerr, hallErr, hearth, pair, pantry, lamps, chgGrant, links, attic, cellar, jnl,
      fwStore, fwDigest, porch, fwSet, tws, tcs, matchers, dbg, snap, pending⟩ =
    LeadsParts s links tws tcs porch hearth plan planStore rooms hallCode hallData cellar attic pending :=
  propext ⟨fun h => ⟨fun i => ⟨(h.1 i).1, (h.1 i).2, (h.1 i).3, (h.1 i).4, (h.1 i).5, (h.1 i).6, (h.1 i).7, (h.1 i).8,
      (h.1 i).9, (h.1 i).10⟩, h.2, h.3⟩,
    fun h => ⟨fun i => ⟨(h.1 i).1, (h.1 i).2.1, (h.1 i).2.2.1, (h.1 i).2.2.2.1, (h.1 i).2.2.2.2.1, (h.1 i).2.2.2.2.2.1,
      (h.1 i).2.2.2.2.2.2.1, (h.1 i).2.2.2.2.2.2.2.1, (h.1 i).2.2.2.2.2.2.2.2.1, (h.1 i).2.2.2.2.2.2.2.2.2⟩, h.2.1, h.2.2⟩⟩

theorem LeadsParts.of (e : State) {s : State} {links : List Link} {tws : List TwPort} {tcs : List TcPort} {porch : Porch} {hearth : Hearth}
    {plan : Option Plan} {planStore : List Byte} {rooms : Vector Room 48} {hallCode hallData cellar : Mem} {attic : Attic} {pending : List Instr}
    (h1 : e.links.length = 2 → links.length = 2) (h2 : e.tws.length = 4 → tws.length = 4)
    (h2' : e.tcs.length = 2 → tcs.length = 2)
    (h3 : e.porch.staged.length = 2 → porch.staged.length = 2)
    (h4 : e.hearth.models.length = 57 → hearth.models.length = 57)
    (h5 : planOk e.plan e.planStore → planOk plan planStore)
    (h6 : (∀ p, (e.rooms.get p).memOk) → ∀ p, (rooms.get p).memOk)
    (h7 : Store.wf e.hallCode = true → Store.wf hallCode = true)
    (h8 : Store.wf e.hallData = true → Store.wf hallData = true)
    (h9 : Store.wf e.cellar = true → Store.wf cellar = true) (h10 : e.attic.grows attic) (h11 : pending = e.pending)
    (h0 : s.Leads e) :
    LeadsParts s links tws tcs porch hearth plan planStore rooms hallCode hallData cellar attic pending :=
  ⟨fun i => have i := h0.inv i
    ⟨h1 i.links, h2 i.tws, h2' i.tcs, h3 i.staged, h4 i.models, h5 i.plan, h6 (fun q => i.rooms q), h7 i.hallCode, h8 i.hallData,
      h9 i.cellar⟩, Attic.grows_trans h0.fuse h10, h11.trans h0.queue⟩

theorem LeadsParts.same (e : State) {s : State} (h0 : s.Leads e) :
    LeadsParts s e.links e.tws e.tcs e.porch e.hearth e.plan e.planStore e.rooms e.hallCode e.hallData e.cellar e.attic e.pending :=
  .of e id id id id id id id id id id (Attic.grows_refl _) rfl h0

theorem LeadsParts.cellar (e : State) (m : Mem) {s : State} (k : Store.wf e.cellar = true → Store.wf m = true)
    (h0 : s.Leads e) :
    LeadsParts s e.links e.tws e.tcs e.porch e.hearth e.plan e.planStore e.rooms e.hallCode e.hallData m e.attic e.pending :=
  .of e id id id id id id id id id k (Attic.grows_refl _) rfl h0
theorem LeadsParts.attic (e : State) (x : Attic) {s : State} (k : e.attic.grows x) (h0 : s.Leads e) :
    LeadsParts s e.links e.tws e.tcs e.porch e.hearth e.plan e.planStore e.rooms e.hallCode e.hallData e.cellar x e.pending :=
  .of e id id id id id id id id id id k rfl h0
theorem LeadsParts.porch (e : State) (x : Porch) {s : State} (k : e.porch.staged.length = 2 → x.staged.length = 2)
    (h0 : s.Leads e) :
    LeadsParts s e.links e.tws e.tcs x e.hearth e.plan e.planStore e.rooms e.hallCode e.hallData e.cellar e.attic e.pending :=
  .of e id id id k id id id id id id (Attic.grows_refl _) rfl h0
theorem LeadsParts.hearth (e : State) (x : Hearth) {s : State} (k : e.hearth.models.length = 57 → x.models.length = 57)
    (h0 : s.Leads e) :
    LeadsParts s e.links e.tws e.tcs e.porch x e.plan e.planStore e.rooms e.hallCode e.hallData e.cellar e.attic e.pending :=
  .of e id id id id k id id id id id (Attic.grows_refl _) rfl h0
theorem LeadsParts.links (e : State) (x : List Link) {s : State} (k : e.links.length = 2 → x.length = 2)
    (h0 : s.Leads e) :
    LeadsParts s x e.tws e.tcs e.porch e.hearth e.plan e.planStore e.rooms e.hallCode e.hallData e.cellar e.attic e.pending :=
  .of e k id id id id id id id id id (Attic.grows_refl _) rfl h0
theorem LeadsParts.tcs (e : State) (x : List TcPort) {s : State} (k : e.tcs.length = 2 → x.length = 2)
    (h0 : s.Leads e) :
    LeadsParts s e.links e.tws x e.porch e.hearth e.plan e.planStore e.rooms e.hallCode e.hallData e.cellar e.attic e.pending :=
  .of e id id k id id id id id id id (Attic.grows_refl _) rfl h0
theorem LeadsParts.rooms (e : State) (x : Vector Room 48) {s : State}
    (k : (∀ p, (e.rooms.get p).memOk) → ∀ p, (x.get p).memOk) (h0 : s.Leads e) :
    LeadsParts s e.links e.tws e.tcs e.porch e.hearth e.plan e.planStore x e.hallCode e.hallData e.cellar e.attic e.pending :=
  .of e id id id id id id k id id id (Attic.grows_refl _) rfl h0
theorem Attic.grows_same {x y : Attic} (h1 : y.a = x.a) (h2 : y.b = x.b) : x.grows y := fun w => by
  rw [h1, h2]; simp

/-! ### Parts of the state -/

theorem State.leads_room (s : State) (p : Fin 48) (r : Room) (h : (s.room p).Keeps r) : s.Leads (s.setRoom p r) := by
  refine State.leads_mk s _ _ _ _ _ _ _ _ _ _ _ _ _ _ _ _ _ _ _ _ _ _ _ _ _ _ _ _ _ _ _ _ _ _ _ _ _ _ _ _
    id id id id id id ?_ id id id (Attic.grows_refl _) rfl
  intro k q
  by_cases e : p = q
  · subst e
    have := h (k p)
    simpa [Vector.get_eq_getElem] using this
  · have : (s.rooms.set p.val r p.isLt).get q = s.rooms.get q := by
      simp only [Vector.get_eq_getElem]
      exact Vector.getElem_set_ne _ _ (fun x => e (Fin.ext x))
    exact this ▸ k q

theorem State.onRoom_leads (s : State) (p : Fin 48) (f : Room → Room) (h : ∀ r, Room.Keeps r (f r)) :
    s.Leads (s.onRoom p f) := State.leads_room s p _ (h _)
theorem State.onRoomE_leads (s : State) (p : Fin 48) (f : Env → Room → Room) (h : ∀ e r, Room.Keeps r (f e r)) :
    s.Leads (s.onRoomE p f) := State.onRoom_leads s p _ (h _)
theorem State.mapRooms_leads (s : State) (f : Fin 48 → Room → Room) (h : ∀ p r, Room.Keeps r (f p r)) :
    s.Leads (s.mapRooms f) := by
  refine State.leads_mk s _ _ _ _ _ _ _ _ _ _ _ _ _ _ _ _ _ _ _ _ _ _ _ _ _ _ _ _ _ _ _ _ _ _ _ _ _ _ _ _
    id id id id id id ?_ id id id (Attic.grows_refl _) rfl
  intro k q
  have : (Vector.ofFn fun p => f p (s.room p)).get q = f q (s.room q) := by simp [Vector.get_eq_getElem]
  exact this ▸ h q _ (k q)
theorem State.setRoom_leads (s : State) (p : Fin 48) (r : Room) (h : (s.room p).Keeps r) : s.Leads (s.setRoom p r) :=
  State.leads_room s p r h
theorem State.put_leads (s : State) (f : Field) (v : Nat) : s.Leads (s.put f v) := ⟨fun i => ⟨i.1, i.2, i.3, i.4, i.5, i.6, i.7, i.8, i.9, i.10⟩, Attic.grows_refl _, rfl⟩
theorem State.on_leads (s : State) (f : Field) : s.Leads (s.on f) := State.put_leads _ _ _
theorem State.off_leads (s : State) (f : Field) : s.Leads (s.off f) := State.put_leads _ _ _
theorem State.putB_leads (s : State) (f : Field) (b : Bool) : s.Leads (s.putB f b) := State.put_leads _ _ _
theorem State.leads_same (s t : State) (h1 : t.links = s.links) (h2 : t.tws = s.tws) (h2' : t.tcs = s.tcs) (h3 : t.porch = s.porch)
    (h4 : t.hearth = s.hearth) (h5 : t.plan = s.plan) (h5' : t.planStore = s.planStore) (h6 : t.rooms = s.rooms)
    (h7 : t.hallCode = s.hallCode) (h8 : t.hallData = s.hallData) (h9 : t.cellar = s.cellar) (h10 : t.attic = s.attic)
    (h11 : t.pending = s.pending) : s.Leads t :=
  ⟨fun i => ⟨h1 ▸ i.1, h2 ▸ i.2, h2' ▸ i.3, h3 ▸ i.4, h4 ▸ i.5, h5 ▸ h5' ▸ i.6, fun p => by
    have := i.7 p; unfold State.room at *; rw [h6]; exact this, h7 ▸ i.8, h8 ▸ i.9, h9 ▸ i.10⟩, h10 ▸ Attic.grows_refl _, h11⟩
theorem State.cellar_leads (s : State) (m : Mem) (k : Store.wf s.cellar = true → Store.wf m = true) :
    s.Leads { s with cellar := m } := ⟨fun i => ⟨i.1, i.2, i.3, i.4, i.5, i.6, i.7, i.8, i.9, k i.10⟩, Attic.grows_refl _, rfl⟩
theorem State.attic_leads (s : State) (x : Attic) (k : s.attic.grows x) : s.Leads { s with attic := x } :=
  ⟨fun i => ⟨i.1, i.2, i.3, i.4, i.5, i.6, i.7, i.8, i.9, i.10⟩, k, rfl⟩
theorem State.secZero_leads (s : State) (op : Nat) :
    s.Leads (if op = 4 then { s with regs := (List.range 8).foldl (fun m i => m.set (0x40020 + 4 * i) 0) s.regs } else s) := by
  split
  · exact State.leads_same _ _ rfl rfl rfl rfl rfl rfl rfl rfl rfl rfl rfl rfl rfl
  · exact .refl s
theorem State.setLand_leads (s : State) (b : Fin 6) (l : Landing) : s.Leads (s.setLand b l) :=
  State.leads_same _ _ rfl rfl rfl rfl rfl rfl rfl rfl rfl rfl rfl rfl rfl
theorem State.onLand_leads (s : State) (b : Fin 6) (f : Landing → Landing) : s.Leads (s.onLand b f) :=
  State.leads_same _ _ rfl rfl rfl rfl rfl rfl rfl rfl rfl rfl rfl rfl rfl
theorem State.mapLands_leads (s : State) (f : Fin 6 → Landing → Landing) : s.Leads (s.mapLands f) :=
  State.leads_same _ _ rfl rfl rfl rfl rfl rfl rfl rfl rfl rfl rfl rfl rfl
theorem State.onWing_leads (s : State) (w : Fin 2) (f : Wing → Wing) : s.Leads (s.onWing w f) :=
  State.leads_same _ _ rfl rfl rfl rfl rfl rfl rfl rfl rfl rfl rfl rfl rfl
theorem State.onClk_leads (s : State) (f : Clk → Clk) : s.Leads (s.onClk f) :=
  State.leads_same _ _ rfl rfl rfl rfl rfl rfl rfl rfl rfl rfl rfl rfl rfl
theorem State.onPair_leads (s : State) (f : Pair → Pair) : s.Leads (s.onPair f) :=
  State.leads_same _ _ rfl rfl rfl rfl rfl rfl rfl rfl rfl rfl rfl rfl rfl
theorem State.onPan_leads (s : State) (f : Pantry → Pantry) : s.Leads (s.onPan f) :=
  State.leads_same _ _ rfl rfl rfl rfl rfl rfl rfl rfl rfl rfl rfl rfl rfl
theorem State.onDbg_leads (s : State) (f : Dbg → Dbg) : s.Leads (s.onDbg f) :=
  State.leads_same _ _ rfl rfl rfl rfl rfl rfl rfl rfl rfl rfl rfl rfl rfl
theorem State.onPorch_leads (s : State) (f : Porch → Porch) (h : ∀ x, x.staged.length = 2 → (f x).staged.length = 2) :
    s.Leads (s.onPorch f) := ⟨fun i => ⟨i.1, i.2, i.3, h _ i.4, i.5, i.6, i.7, i.8, i.9, i.10⟩, Attic.grows_refl _, rfl⟩
theorem State.onLink_leads (s : State) (n : Fin 2) (f : Link → Link) : s.Leads (s.onLink n f) :=
  ⟨fun i => ⟨by simpa [State.onLink] using i.1, i.2, i.3, i.4, i.5, i.6, i.7, i.8, i.9, i.10⟩, Attic.grows_refl _, rfl⟩
theorem State.onTw_leads (s : State) (n : Fin 4) (f : TwPort → TwPort) : s.Leads (s.onTw n f) :=
  ⟨fun i => ⟨i.1, by simpa [State.onTw] using i.2, i.3, i.4, i.5, i.6, i.7, i.8, i.9, i.10⟩, Attic.grows_refl _, rfl⟩

/-- What a command answers. -/
def LeadsOut (s : State) (o : Out) : Prop := ∀ t, o = .next t → s.Leads t
theorem LeadsOut.next (s : State) : LeadsOut s (.next s) := fun t h => by cases h; exact .refl _
theorem LeadsOut.of {s t : State} (h : s.Leads t) : LeadsOut s (.next t) := fun u k => by cases k; exact h
theorem LeadsOut.fault (s : State) (x : Fault) : LeadsOut s (.fault x) := fun t h => by cases h
theorem LeadsOut.refused (s : State) (x : Refusal) : LeadsOut s (.refused x) := fun t h => by cases h
theorem LeadsOut.ite {s : State} (c : Prop) [Decidable c] (a b : Out) (h1 : LeadsOut s a) (h2 : LeadsOut s b) :
    LeadsOut s (if c then a else b) := by split <;> assumption
/-- What an instruction answers. -/
def LeadsSeq (s : State) (o : SeqOut) : Prop := match o with | .ok t => s.Leads t | .error e => s.Leads e.2
theorem LeadsSeq.ok {s t : State} (h : s.Leads t) : LeadsSeq s (.ok t) := h
theorem LeadsSeq.error {s t : State} {n : Nat} (h : s.Leads t) : LeadsSeq s (.error (n, t)) := h
theorem LeadsSeq.ite {s : State} (c : Prop) [Decidable c] (a b : SeqOut) (h1 : LeadsSeq s a) (h2 : LeadsSeq s b) :
    LeadsSeq s (if c then a else b) := by split <;> assumption
theorem State.posted_leads (s t : State) : t.Leads (s.posted t) :=
  ⟨fun i => ⟨by simpa [State.posted, State.postAll] using i.1, i.2, i.3, i.4, i.5, i.6, i.7, i.8, i.9, i.10⟩, Attic.grows_refl _, rfl⟩
theorem act_from (s : State) (c : Bool) (f : State → State) (h : s.Leads (f s)) : LeadsOut s (act s c f) := by
  intro t e
  obtain ⟨-, rfl⟩ | ⟨-, rfl⟩ := act_cases s t c f e
  · have k := h.trans (State.posted_leads s (f s))
    exact ⟨fun i => ⟨(k.inv i).1, (k.inv i).2, (k.inv i).3, (k.inv i).4, (k.inv i).5, (k.inv i).6, (k.inv i).7, (k.inv i).8, (k.inv i).9,
      (k.inv i).10⟩, k.fuse, rfl⟩
  · exact .refl _
theorem State.via_leads (s : State) (f : State → Out) (h : LeadsOut s (f s)) : s.Leads (s.via f) := by
  unfold State.via
  split
  · rename_i t e
    have k := h t e
    exact ⟨fun i => ⟨i.1, (k.inv i).2, (k.inv i).3, (k.inv i).4, (k.inv i).5, (k.inv i).6, (k.inv i).7, (k.inv i).8, (k.inv i).9,
      (k.inv i).10⟩, k.fuse, k.queue⟩
  · exact .refl _

/-! ### The same at the end of a chain -/

theorem State.put_from {s0 : State} (s : State) (f : Field) (v : Nat)  (h : s0.Leads s) :
    s0.Leads (s.put f v) := h.trans (State.put_leads s f v)
theorem State.on_from {s0 : State} (s : State) (f : Field)  (h : s0.Leads s) :
    s0.Leads (s.on f) := h.trans (State.on_leads s f)
theorem State.off_from {s0 : State} (s : State) (f : Field)  (h : s0.Leads s) :
    s0.Leads (s.off f) := h.trans (State.off_leads s f)
theorem State.putB_from {s0 : State} (s : State) (f : Field) (b : Bool)  (h : s0.Leads s) :
    s0.Leads (s.putB f b) := h.trans (State.putB_leads s f b)
theorem State.setRoom_from {s0 : State} (s : State) (p : Fin 48) (r : Room) (k : (s.room p).Keeps r) (h : s0.Leads s) :
    s0.Leads (s.setRoom p r) := h.trans (State.setRoom_leads s p r k)
theorem State.onRoom_from {s0 : State} (s : State) (p : Fin 48) (f : Room → Room) (k : ∀ r, Room.Keeps r (f r)) (h : s0.Leads s) :
    s0.Leads (s.onRoom p f) := h.trans (State.onRoom_leads s p f k)
theorem State.onRoomE_from {s0 : State} (s : State) (p : Fin 48) (f : Env → Room → Room) (k : ∀ e r, Room.Keeps r (f e r)) (h : s0.Leads s) :
    s0.Leads (s.onRoomE p f) := h.trans (State.onRoomE_leads s p f k)
theorem State.mapRooms_from {s0 : State} (s : State) (f : Fin 48 → Room → Room) (k : ∀ p r, Room.Keeps r (f p r)) (h : s0.Leads s) :
    s0.Leads (s.mapRooms f) := h.trans (State.mapRooms_leads s f k)
theorem State.setLand_from {s0 : State} (s : State) (b : Fin 6) (l : Landing)  (h : s0.Leads s) :
    s0.Leads (s.setLand b l) := h.trans (State.setLand_leads s b l)
theorem State.onLand_from {s0 : State} (s : State) (b : Fin 6) (f : Landing → Landing)  (h : s0.Leads s) :
    s0.Leads (s.onLand b f) := h.trans (State.onLand_leads s b f)
theorem State.mapLands_from {s0 : State} (s : State) (f : Fin 6 → Landing → Landing)  (h : s0.Leads s) :
    s0.Leads (s.mapLands f) := h.trans (State.mapLands_leads s f)
theorem State.onWing_from {s0 : State} (s : State) (w : Fin 2) (f : Wing → Wing)  (h : s0.Leads s) :
    s0.Leads (s.onWing w f) := h.trans (State.onWing_leads s w f)
theorem State.onClk_from {s0 : State} (s : State) (f : Clk → Clk)  (h : s0.Leads s) :
    s0.Leads (s.onClk f) := h.trans (State.onClk_leads s f)
theorem State.onPair_from {s0 : State} (s : State) (f : Pair → Pair)  (h : s0.Leads s) :
    s0.Leads (s.onPair f) := h.trans (State.onPair_leads s f)
theorem State.onPan_from {s0 : State} (s : State) (f : Pantry → Pantry)  (h : s0.Leads s) :
    s0.Leads (s.onPan f) := h.trans (State.onPan_leads s f)
theorem State.onDbg_from {s0 : State} (s : State) (f : Dbg → Dbg)  (h : s0.Leads s) :
    s0.Leads (s.onDbg f) := h.trans (State.onDbg_leads s f)
theorem State.onPorch_from {s0 : State} (s : State) (f : Porch → Porch) (k : ∀ x : Porch, x.staged.length = 2 → (f x).staged.length = 2) (h : s0.Leads s) :
    s0.Leads (s.onPorch f) := h.trans (State.onPorch_leads s f k)
theorem State.onLink_from {s0 : State} (s : State) (n : Fin 2) (f : Link → Link)  (h : s0.Leads s) :
    s0.Leads (s.onLink n f) := h.trans (State.onLink_leads s n f)
theorem State.onTw_from {s0 : State} (s : State) (n : Fin 4) (f : TwPort → TwPort)  (h : s0.Leads s) :
    s0.Leads (s.onTw n f) := h.trans (State.onTw_leads s n f)
theorem State.via_from {s0 : State} (s : State) (f : State → Out) (k : LeadsOut s (f s)) (h : s0.Leads s) :
    s0.Leads (s.via f) := h.trans (State.via_leads s f k)

end Sys2Proof.Machine
end

