-- ==== Sys2Proof/Laws/LeadsA.lean ====
section
/-! SUPPORT. Laws/LeadsA.lean: what the operations and the commands of these files keep: Ops, Operands, Budget, TimerOps, Attach, Contract, HearthOps, Modes, Pantry. -/

namespace Sys2Proof.Machine

theorem State.free?_from {s0 : State} (s : State) (h : s0.Leads s) : s0.Leads ((State.free? s).2) := by
  refine State.Leads.trans h ?_
  unfold State.free?
  repeat' first
    | with_reducible exact State.Leads.refl _ | simp only [State.leads_mk_eq] | with_reducible refine LeadsParts.same _ ?_

theorem State.gangLevel_from {s0 : State} (s : State) (p : Fin 48) (h0 : s0.Leads s) : s0.Leads (State.gangLevel s p) := by
  refine State.Leads.trans h0 ?_
  unfold State.gangLevel
  repeat' first
    | with_reducible refine State.leads_foldl _ _ _ _ ?_ ?_
    | with_reducible exact State.Leads.refl _
    | with_reducible exact LeadsOut.next _
    | with_reducible apply State.leads_ite
    | with_reducible refine State.onRoomE_from _ _ _ ?_ ?_
    | with_reducible refine Room.keeps_foldl _ _ _ _ ?_ ?_
    | with_reducible exact Room.Keeps.refl _
    | simp only [Room.keeps_mk_eq]
    | with_reducible refine KeepsParts.same _ ?_
    | with_reducible refine KeepsParts.data _ _ _ ?_
    | with_reducible refine KeepsParts.code _ _ _ ?_
    | with_reducible apply Room.keeps_ite
    | with_reducible refine Room.showLevel_from _ _ ?_
    | split
    | intro _
    | dsimp only

theorem State.enterSafe_from {s0 : State} (s : State) (p : Fin 48) (f : Field) (retry : Bool) (h0 : s0.Leads s) : s0.Leads (State.enterSafe s p f retry) := by
  refine State.Leads.trans h0 ?_
  unfold State.enterSafe
  repeat' first
    | with_reducible exact State.Leads.refl _
    | with_reducible exact LeadsOut.next _
    | with_reducible apply State.leads_ite
    | with_reducible refine State.onRoomE_from _ _ _ ?_ ?_
    | with_reducible refine State.gangLevel_from _ _ ?_
    | with_reducible exact Room.Keeps.refl _
    | simp only [Room.keeps_mk_eq]
    | with_reducible refine KeepsParts.same _ ?_
    | with_reducible refine KeepsParts.data _ _ _ ?_
    | with_reducible refine KeepsParts.code _ _ _ ?_
    | with_reducible apply Room.keeps_ite
    | with_reducible refine Room.enterSafe_from _ _ _ _ ?_
    | split
    | intro _
    | dsimp only

theorem State.escalate_from {s0 : State} (s : State) (p : Fin 48) (h : s0.Leads s) : s0.Leads (State.escalate s p) := by
  refine State.Leads.trans h ?_
  unfold State.escalate
  repeat' first
    | with_reducible exact State.Leads.refl _ | with_reducible apply State.leads_ite
    | with_reducible refine State.enterSafe_from _ _ _ _ ?_

theorem State.escalateAll_from {s0 : State} (s : State) (ps : List (Fin 48)) (h : s0.Leads s) : s0.Leads (State.escalateAll s ps) := by
  refine State.Leads.trans h ?_
  unfold State.escalateAll
  repeat' first
    | with_reducible refine State.leads_foldl _ _ _ _ ?_ ?_ | with_reducible exact State.Leads.refl _
    | with_reducible refine State.escalate_from _ _ ?_ | intro _

theorem State.holdSlot_from {s0 : State} (s : State) (b : Fin 6) (h0 : s0.Leads s) : s0.Leads (State.holdSlot s b) := by
  refine State.Leads.trans h0 ?_
  unfold State.holdSlot
  repeat' first
    | with_reducible refine State.leads_foldl _ _ _ _ ?_ ?_
    | with_reducible exact State.Leads.refl _
    | with_reducible exact LeadsOut.next _
    | with_reducible apply State.leads_ite
    | with_reducible refine State.onRoomE_from _ _ _ ?_ ?_
    | with_reducible refine State.gangLevel_from _ _ ?_
    | with_reducible refine Room.keeps_foldl _ _ _ _ ?_ ?_
    | with_reducible exact Room.Keeps.refl _
    | simp only [Room.keeps_mk_eq]
    | with_reducible refine KeepsParts.same _ ?_
    | with_reducible refine KeepsParts.data _ _ _ ?_
    | with_reducible refine KeepsParts.code _ _ _ ?_
    | with_reducible apply Room.keeps_ite
    | with_reducible refine Room.enterSlotHold_from _ _ ?_
    | split
    | intro _
    | dsimp only

theorem State.slotTo_from {s0 : State} (s : State) (b : Fin 6) (st : Nat) (fast : Bool) (h0 : s0.Leads s) : s0.Leads (State.slotTo s b st fast) := by
  refine State.Leads.trans h0 ?_
  unfold State.slotTo
  try dsimp only
  repeat' first
    | with_reducible exact State.Leads.refl _
    | with_reducible exact LeadsOut.next _
    | with_reducible apply State.leads_ite
    | with_reducible refine State.onLand_from _ _ _ ?_
    | with_reducible refine State.holdSlot_from _ _ ?_
    | split
    | intro _
    | dsimp only

theorem State.slotRetry_from {s0 : State} (s : State) (b : Fin 6) (fast : Bool) (h : s0.Leads s) : s0.Leads (State.slotRetry s b fast) := by
  refine State.Leads.trans h ?_
  unfold State.slotRetry
  try dsimp only
  repeat' first
    | with_reducible exact State.Leads.refl _ | with_reducible apply State.leads_ite
    | with_reducible refine State.onLand_from _ _ _ ?_ | with_reducible refine State.slotTo_from _ _ _ _ ?_

theorem State.slotExit_from {s0 : State} (s : State) (b : Fin 6) (h : s0.Leads s) : s0.Leads (State.slotExit s b) := by
  refine State.Leads.trans h ?_
  unfold State.slotExit
  try dsimp only
  repeat' first
    | with_reducible exact State.Leads.refl _ | with_reducible apply State.leads_ite
    | with_reducible refine State.slotTo_from _ _ _ _ ?_ | with_reducible refine State.onLand_from _ _ _ ?_

theorem State.slotSettle_from {s0 : State} (s : State) (b : Fin 6) (h : s0.Leads s) : s0.Leads (State.slotSettle s b) := by
  refine State.Leads.trans h ?_
  unfold State.slotSettle
  repeat' first
    | with_reducible exact State.Leads.refl _ | with_reducible apply State.leads_ite
    | with_reducible refine State.slotExit_from _ _ ?_

theorem State.shedClass_from {s0 : State} (s : State) (b : Fin 6) (c : Nat) (h : s0.Leads s) : s0.Leads (State.shedClass s b c) := by
  refine State.Leads.trans h ?_
  unfold State.shedClass
  repeat' first
    | with_reducible exact State.Leads.refl _ | with_reducible refine State.escalateAll_from _ _ ?_

theorem State.startShed_from {s0 : State} (s : State) (b : Fin 6) (retry : Bool) (h : s0.Leads s) : s0.Leads (State.startShed s b retry) := by
  refine State.Leads.trans h ?_
  unfold State.startShed
  try dsimp only
  repeat' first
    | with_reducible exact State.Leads.refl _ | with_reducible apply State.leads_ite
    | with_reducible refine State.shedClass_from _ _ _ ?_ | with_reducible refine State.onLand_from _ _ _ ?_

theorem State.openWingSlots_from {s0 : State} (s : State) (w : Fin 2) (h : s0.Leads s) : s0.Leads (State.openWingSlots s w) := by
  refine State.Leads.trans h ?_
  unfold State.openWingSlots
  repeat' first
    | with_reducible refine State.leads_foldl _ _ _ _ ?_ ?_ | with_reducible exact State.Leads.refl _
    | with_reducible refine State.slotTo_from _ _ _ _ ?_ | intro _

theorem State.wingSafe_from {s0 : State} (s : State) (w : Fin 2) (h : s0.Leads s) : s0.Leads (State.wingSafe s w) := by
  refine State.Leads.trans h ?_
  unfold State.wingSafe
  repeat' first
    | with_reducible exact State.Leads.refl _ | with_reducible refine State.escalateAll_from _ _ ?_
    | with_reducible refine State.openWingSlots_from _ _ ?_ | with_reducible refine State.onWing_from _ _ _ ?_

theorem State.setClaims_from {s0 : State} (s : State) (c : Nat) (h0 : s0.Leads s) : s0.Leads (State.setClaims s c) := by
  refine State.Leads.trans h0 ?_
  unfold State.setClaims
  try dsimp only
  repeat' first
    | with_reducible exact State.Leads.refl _
    | with_reducible exact LeadsOut.next _
    | simp only [State.leads_mk_eq]
    | with_reducible refine LeadsParts.same _ ?_
    | with_reducible refine LeadsParts.cellar _ _ ?_ ?_
    | with_reducible refine LeadsParts.attic _ _ ?_ ?_
    | with_reducible refine LeadsParts.porch _ _ ?_ ?_
    | with_reducible refine LeadsParts.hearth _ _ ?_ ?_
    | with_reducible refine LeadsParts.links _ _ ?_ ?_
    | with_reducible refine LeadsParts.tcs _ _ ?_ ?_
    | with_reducible exact fun k => k
    | with_reducible exact fun k => eraseRange_wf _ _ _ k
    | with_reducible exact fun k => progBytes_wf _ _ _ k
    | with_reducible exact fun k => brecWrite_wf _ _ _ k
    | exact Attic.grows_same rfl rfl
    | (simp only [List.length_map, List.length_zipIdx]; exact id)
    | with_reducible apply State.leads_ite
    | with_reducible refine State.put_from _ _ _ ?_
    | with_reducible refine State.putB_from _ _ _ ?_
    | split
    | intro _

theorem State.refreshKeeper_from {s0 : State} (s : State) (h0 : s0.Leads s) : s0.Leads (State.refreshKeeper s) := by
  refine State.Leads.trans h0 ?_
  unfold State.refreshKeeper
  try dsimp only
  repeat' first
    | with_reducible exact State.Leads.refl _
    | with_reducible exact LeadsOut.next _
    | simp only [State.leads_mk_eq]
    | with_reducible refine LeadsParts.same _ ?_
    | with_reducible refine LeadsParts.cellar _ _ ?_ ?_
    | with_reducible refine LeadsParts.attic _ _ ?_ ?_
    | with_reducible refine LeadsParts.porch _ _ ?_ ?_
    | with_reducible refine LeadsParts.hearth _ _ ?_ ?_
    | with_reducible refine LeadsParts.links _ _ ?_ ?_
    | with_reducible refine LeadsParts.tcs _ _ ?_ ?_
    | with_reducible exact fun k => k
    | with_reducible exact fun k => eraseRange_wf _ _ _ k
    | with_reducible exact fun k => progBytes_wf _ _ _ k
    | with_reducible exact fun k => brecWrite_wf _ _ _ k
    | exact Attic.grows_same rfl rfl
    | (simp only [List.length_map, List.length_zipIdx]; exact id)
    | with_reducible apply State.leads_ite
    | with_reducible refine State.putB_from _ _ _ ?_
    | split
    | intro _

theorem State.logTakeover_from {s0 : State} (s : State) (h0 : s0.Leads s) : s0.Leads (State.logTakeover s) := by
  refine State.Leads.trans h0 ?_
  unfold State.logTakeover
  try dsimp only
  repeat' first
    | with_reducible exact State.Leads.refl _
    | with_reducible exact LeadsOut.next _
    | simp only [State.leads_mk_eq]
    | with_reducible refine LeadsParts.same _ ?_
    | with_reducible refine LeadsParts.cellar _ _ ?_ ?_
    | with_reducible refine LeadsParts.attic _ _ ?_ ?_
    | with_reducible refine LeadsParts.porch _ _ ?_ ?_
    | with_reducible refine LeadsParts.hearth _ _ ?_ ?_
    | with_reducible refine LeadsParts.links _ _ ?_ ?_
    | with_reducible refine LeadsParts.tcs _ _ ?_ ?_
    | with_reducible exact fun k => k
    | with_reducible exact fun k => eraseRange_wf _ _ _ k
    | with_reducible exact fun k => progBytes_wf _ _ _ k
    | with_reducible exact fun k => brecWrite_wf _ _ _ k
    | exact Attic.grows_same rfl rfl
    | (simp only [List.length_map, List.length_zipIdx]; exact id)
    | with_reducible apply State.leads_ite
    | split
    | with_reducible refine State.put_from _ _ _ ?_
    | split
    | intro _

theorem State.tookPeriod_from {s0 : State} (s : State) (p : Fin 48) (h0 : s0.Leads s) : s0.Leads (State.tookPeriod s p) := by
  refine State.Leads.trans h0 ?_
  unfold State.tookPeriod
  repeat' first
    | with_reducible exact State.Leads.refl _
    | with_reducible exact LeadsOut.next _
    | simp only [State.leads_mk_eq]
    | with_reducible refine LeadsParts.same _ ?_
    | with_reducible refine LeadsParts.cellar _ _ ?_ ?_
    | with_reducible refine LeadsParts.attic _ _ ?_ ?_
    | with_reducible refine LeadsParts.porch _ _ ?_ ?_
    | with_reducible refine LeadsParts.hearth _ _ ?_ ?_
    | with_reducible refine LeadsParts.links _ _ ?_ ?_
    | with_reducible refine LeadsParts.tcs _ _ ?_ ?_
    | with_reducible exact fun k => k
    | with_reducible exact fun k => eraseRange_wf _ _ _ k
    | with_reducible exact fun k => progBytes_wf _ _ _ k
    | with_reducible exact fun k => brecWrite_wf _ _ _ k
    | exact Attic.grows_same rfl rfl
    | (simp only [List.length_map, List.length_zipIdx]; exact id)
    | with_reducible apply State.leads_ite
    | with_reducible refine State.logTakeover_from _ ?_
    | split
    | intro _

theorem State.releaseLands_from {s0 : State} (s : State) (w : Fin 2) (h0 : s0.Leads s) : s0.Leads (State.releaseLands s w) := by
  refine State.Leads.trans h0 ?_
  unfold State.releaseLands
  repeat' first
    | with_reducible refine State.leads_foldl _ _ _ _ ?_ ?_
    | with_reducible exact State.Leads.refl _
    | with_reducible exact LeadsOut.next _
    | with_reducible apply State.leads_ite
    | with_reducible refine State.onLand_from _ _ _ ?_
    | split
    | intro _
    | dsimp only

theorem State.loseWing_from {s0 : State} (s : State) (w : Fin 2) (h0 : s0.Leads s) : s0.Leads (State.loseWing s w) := by
  refine State.Leads.trans h0 ?_
  unfold State.loseWing
  repeat' first
    | with_reducible refine State.leads_foldl _ _ _ _ ?_ ?_
    | with_reducible exact State.Leads.refl _
    | with_reducible exact LeadsOut.next _
    | with_reducible apply State.leads_ite
    | with_reducible refine State.enterSafe_from _ _ _ _ ?_
    | with_reducible refine State.onRoomE_from _ _ _ ?_ ?_
    | with_reducible refine State.releaseLands_from _ _ ?_
    | with_reducible refine Room.keeps_foldl _ _ _ _ ?_ ?_
    | with_reducible exact Room.Keeps.refl _
    | simp only [Room.keeps_mk_eq]
    | with_reducible refine KeepsParts.same _ ?_
    | with_reducible refine KeepsParts.data _ _ _ ?_
    | with_reducible refine KeepsParts.code _ _ _ ?_
    | with_reducible apply Room.keeps_ite
    | with_reducible refine Room.enterSafe_from _ _ _ _ ?_
    | with_reducible refine Room.toShadow_from _ _ ?_
    | split
    | intro _
    | dsimp only

theorem State.withdraw_from {s0 : State} (s : State) (w : Fin 2) (h : s0.Leads s) : s0.Leads (State.withdraw s w) := by
  refine State.Leads.trans h ?_
  unfold State.withdraw
  try dsimp only
  repeat' first
    | with_reducible exact State.Leads.refl _ | simp only [State.leads_mk_eq] | with_reducible refine LeadsParts.same _ ?_
    | with_reducible apply State.leads_ite | with_reducible refine State.setClaims_from _ _ ?_
    | with_reducible refine State.on_from _ _ ?_ | with_reducible refine State.refreshKeeper_from _ ?_
    | with_reducible refine State.loseWing_from _ _ ?_

theorem State.dropKey_from {s0 : State} (s : State) (h0 : s0.Leads s) : s0.Leads (State.dropKey s) := by
  refine State.Leads.trans h0 ?_
  unfold State.dropKey
  try dsimp only
  repeat' first
    | with_reducible exact State.Leads.refl _
    | with_reducible exact LeadsOut.next _
    | simp only [State.leads_mk_eq]
    | with_reducible refine LeadsParts.same _ ?_
    | with_reducible refine LeadsParts.cellar _ _ ?_ ?_
    | with_reducible refine LeadsParts.attic _ _ ?_ ?_
    | with_reducible refine LeadsParts.porch _ _ ?_ ?_
    | with_reducible refine LeadsParts.hearth _ _ ?_ ?_
    | with_reducible refine LeadsParts.links _ _ ?_ ?_
    | with_reducible refine LeadsParts.tcs _ _ ?_ ?_
    | with_reducible exact fun k => k
    | with_reducible exact fun k => eraseRange_wf _ _ _ k
    | with_reducible exact fun k => progBytes_wf _ _ _ k
    | with_reducible exact fun k => brecWrite_wf _ _ _ k
    | exact Attic.grows_same rfl rfl
    | (simp only [List.length_map, List.length_zipIdx]; exact id)
    | with_reducible apply State.leads_ite
    | with_reducible refine State.setClaims_from _ _ ?_
    | with_reducible refine State.put_from _ _ _ ?_
    | with_reducible refine State.refreshKeeper_from _ ?_
    | with_reducible refine State.loseWing_from _ _ ?_
    | split
    | intro _

theorem State.wingFault_from {s0 : State} (s : State) (w : Fin 2) (h : s0.Leads s) : s0.Leads (State.wingFault s w) := by
  refine State.Leads.trans h ?_
  unfold State.wingFault
  try dsimp only
  repeat' first
    | with_reducible exact State.Leads.refl _ | simp only [State.leads_mk_eq] | with_reducible refine LeadsParts.same _ ?_
    | with_reducible apply State.leads_ite | with_reducible refine State.withdraw_from _ _ ?_
    | with_reducible refine State.onWing_from _ _ _ ?_ | with_reducible refine State.wingSafe_from _ _ ?_

theorem State.handUp_from {s0 : State} (s : State) (b : Fin 6) (h : s0.Leads s) : s0.Leads (State.handUp s b) := by
  refine State.Leads.trans h ?_
  unfold State.handUp
  try dsimp only
  repeat' first
    | with_reducible exact State.Leads.refl _ | with_reducible refine State.onLand_from _ _ _ ?_
    | with_reducible refine State.onWing_from _ _ _ ?_ | with_reducible refine State.wingFault_from _ _ ?_

theorem State.setBank_from {s0 : State} (s : State) (l : Loc) (m : Regs) (h : s0.Leads s) : s0.Leads (State.setBank s l m) := by
  refine State.Leads.trans h ?_
  unfold State.setBank
  repeat' first
    | with_reducible exact State.Leads.refl _ | simp only [State.leads_mk_eq] | with_reducible refine LeadsParts.same _ ?_
    | split | with_reducible refine State.onWing_from _ _ _ ?_ | with_reducible refine State.onLand_from _ _ _ ?_
    | with_reducible refine State.onRoom_from _ _ _ ?_ ?_ | with_reducible exact Room.Keeps.refl _
    | simp only [Room.keeps_mk_eq] | with_reducible refine KeepsParts.same _ ?_ | intro _

theorem State.writeReg_from {s0 : State} (s : State) (l : Loc) (v : Word) (h : s0.Leads s) : s0.Leads (State.writeReg s l v) := by
  refine State.Leads.trans h ?_
  unfold State.writeReg
  try dsimp only
  repeat' first
    | with_reducible exact State.Leads.refl _ | with_reducible refine State.setBank_from _ _ _ ?_

theorem State.rcRead_from {s0 : State} (s : State) (l : Loc) (h : s0.Leads s) : s0.Leads (State.rcRead s l) := by
  refine State.Leads.trans h ?_
  unfold State.rcRead
  repeat' first
    | with_reducible exact State.Leads.refl _ | with_reducible refine State.setBank_from _ _ _ ?_

theorem State.accessErr_from {s0 : State} (s : State) (r : Req) (h : s0.Leads s) : s0.Leads (State.accessErr s r) := by
  refine State.Leads.trans h ?_
  unfold State.accessErr
  repeat' first
    | with_reducible exact State.Leads.refl _ | simp only [State.leads_mk_eq] | with_reducible refine LeadsParts.same _ ?_

theorem State.cut_from {s0 : State} (x : State) (p : Fin 48) (g : Nat) (h : s0.Leads x) :
    s0.Leads (x.onRoomE p (fun e r => r.cutTo e g)) :=
  State.onRoomE_from _ _ _ (fun _ _ => Room.keeps_of _ _ (Room.cutTo_mems _ _ _)) h
theorem State.cut_pair {s0 : State} (x : State × Nat) (p : Fin 48) (d t : Nat) (c : Bool) (h : s0.Leads x.1) :
    s0.Leads (if t = 0 then x else (if c then x.1.onRoomE p (fun e r => r.cutTo e (d - t)) else x.1, x.2 - t)).1 := by
  have k := State.cut_from x.1 p (d - t) h
  exact State.leads_pair_ite _ _ _ h (State.leads_ite _ _ _ k h)
theorem State.freeStep_from {s0 : State} (s : State) (n : Node) (c : Nat) (toFloor : Bool) (missing : Nat)
    (h : s0.Leads s) : s0.Leads (State.freeStep s n c toFloor missing).1 := by
  unfold State.freeStep
  refine State.leads_foldl1 _ _ _ h ?_
  intro x p hx
  refine State.leads_pair_ite _ _ _ hx ?_
  exact State.cut_pair x p _ _ _ hx

theorem State.freeCharger_from {s0 : State} (s : State) (n : Node) (missing : Nat) (h : s0.Leads s) : s0.Leads ((State.freeCharger s n missing).1) := by
  refine State.Leads.trans h ?_
  unfold State.freeCharger
  try dsimp only
  repeat' first
    | with_reducible exact State.Leads.refl _ | simp only [State.leads_mk_eq] | with_reducible refine LeadsParts.same _ ?_
    | split

theorem State.free48_from {s0 : State} (s : State) (n : Node) (missing : Nat) (h : s0.Leads s) :
    s0.Leads (State.free48 s n missing) :=
  State.freeStep_from _ n 1 false _ (State.freeStep_from _ n 1 true _ (State.freeStep_from _ n 2 false _
    (State.freeStep_from _ n 2 true _ (State.freeCharger_from s n missing h))))

theorem State.freeCap_from {s0 : State} (s : State) (n : Node) (c : Nat) (h : s0.Leads s) :
    s0.Leads (State.freeCap s n c) := by
  unfold State.freeCap
  refine State.freeStep_from _ n c false _ (State.freeStep_from _ n c true _ ?_)
  split
  · exact State.freeCharger_from s n _ h
  · exact h

theorem State.enforceNode_from {s0 : State} (s : State) (n : Node) (h : s0.Leads s) : s0.Leads (State.enforceNode s n) := by
  refine State.Leads.trans h ?_
  unfold State.enforceNode
  try dsimp only
  repeat' first
    | with_reducible exact State.Leads.refl _ | with_reducible refine State.freeCap_from _ _ _ ?_
    | with_reducible refine State.free48_from _ _ _ ?_

theorem State.enforce_from {s0 : State} (s : State) (h : s0.Leads s) : s0.Leads (State.enforce s) := by
  refine State.Leads.trans h ?_
  unfold State.enforce
  repeat' first
    | with_reducible refine State.leads_foldl _ _ _ _ ?_ ?_ | with_reducible exact State.Leads.refl _
    | with_reducible refine State.enforceNode_from _ _ ?_ | intro _

theorem State.answerCharger_from {s0 : State} (s : State) (ask : Nat) (h : s0.Leads s) : s0.Leads (State.answerCharger s ask) := by
  refine State.Leads.trans h ?_
  unfold State.answerCharger
  try dsimp only
  repeat' first
    | with_reducible exact State.Leads.refl _ | simp only [State.leads_mk_eq] | with_reducible refine LeadsParts.same _ ?_

theorem State.answer_from {s0 : State} (s : State) (p : Fin 48) (ask : Nat) (h0 : s0.Leads s) : s0.Leads (State.answer s p ask) := by
  refine State.Leads.trans h0 ?_
  unfold State.answer
  try dsimp only
  repeat' first
    | with_reducible exact State.Leads.refl _
    | with_reducible exact LeadsOut.next _
    | simp only [State.leads_mk_eq]
    | with_reducible refine LeadsParts.same _ ?_
    | with_reducible refine LeadsParts.cellar _ _ ?_ ?_
    | with_reducible refine LeadsParts.attic _ _ ?_ ?_
    | with_reducible refine LeadsParts.porch _ _ ?_ ?_
    | with_reducible refine LeadsParts.hearth _ _ ?_ ?_
    | with_reducible refine LeadsParts.links _ _ ?_ ?_
    | with_reducible refine LeadsParts.tcs _ _ ?_ ?_
    | with_reducible exact fun k => k
    | with_reducible exact fun k => eraseRange_wf _ _ _ k
    | with_reducible exact fun k => progBytes_wf _ _ _ k
    | with_reducible exact fun k => brecWrite_wf _ _ _ k
    | exact Attic.grows_same rfl rfl
    | (simp only [List.length_map, List.length_zipIdx]; exact id)
    | with_reducible apply State.leads_ite
    | with_reducible refine State.onRoom_from _ _ _ ?_ ?_
    | with_reducible refine State.put_from _ _ _ ?_
    | with_reducible exact Room.Keeps.refl _
    | simp only [Room.keeps_mk_eq]
    | with_reducible refine KeepsParts.same _ ?_
    | with_reducible refine KeepsParts.data _ _ _ ?_
    | with_reducible refine KeepsParts.code _ _ _ ?_
    | with_reducible apply Room.keeps_ite
    | with_reducible refine Room.put_from _ _ _ ?_
    | with_reducible refine Room.onCon_from _ _ ?_
    | split
    | intro _
    | dsimp only

theorem State.writeNode_from {s0 : State} (s : State) (l : Loc) (n : Node) (v : Word) (h : s0.Leads s) : s0.Leads (State.writeNode s l n v) := by
  refine State.Leads.trans h ?_
  unfold State.writeNode
  try dsimp only
  repeat' first
    | with_reducible exact State.Leads.refl _ | with_reducible refine State.setBank_from _ _ _ ?_
    | with_reducible refine State.enforce_from _ ?_

theorem State.setTb_from {s0 : State} (s : State) (v : Nat) (h : s0.Leads s) : s0.Leads (State.setTb s v) := by
  refine State.Leads.trans h ?_
  unfold State.setTb
  repeat' first
    | with_reducible exact State.Leads.refl _ | simp only [State.leads_mk_eq] | with_reducible refine LeadsParts.same _ ?_

theorem State.loadTb_from {s0 : State} (s : State) (h : s0.Leads s) : s0.Leads (State.loadTb s) := by
  refine State.Leads.trans h ?_
  unfold State.loadTb
  repeat' first
    | with_reducible exact State.Leads.refl _ | with_reducible apply State.leads_ite
    | with_reducible refine State.on_from _ _ ?_ | with_reducible refine State.onClk_from _ _ ?_

theorem State.setTmrRegs_from {s0 : State} (s : State) (k : TmrBlock) (m : Regs) (h : s0.Leads s) : s0.Leads (State.setTmrRegs s k m) := by
  refine State.Leads.trans h ?_
  unfold State.setTmrRegs
  repeat' first
    | with_reducible exact State.Leads.refl _ | split | with_reducible refine State.onRoom_from _ _ _ ?_ ?_
    | with_reducible refine State.onLand_from _ _ _ ?_ | with_reducible exact Room.Keeps.refl _
    | simp only [Room.keeps_mk_eq] | with_reducible refine KeepsParts.same _ ?_ | intro _

theorem State.tmrTick_from {s0 : State} (s : State) (k : TmrBlock) (h0 : s0.Leads s) : s0.Leads (State.tmrTick s k) := by
  refine State.Leads.trans h0 ?_
  unfold State.tmrTick
  try dsimp only
  repeat' first
    | with_reducible exact State.Leads.refl _
    | with_reducible exact LeadsOut.next _
    | simp only [State.leads_mk_eq]
    | with_reducible refine LeadsParts.same _ ?_
    | with_reducible refine LeadsParts.cellar _ _ ?_ ?_
    | with_reducible refine LeadsParts.attic _ _ ?_ ?_
    | with_reducible refine LeadsParts.porch _ _ ?_ ?_
    | with_reducible refine LeadsParts.hearth _ _ ?_ ?_
    | with_reducible refine LeadsParts.links _ _ ?_ ?_
    | with_reducible refine LeadsParts.tcs _ _ ?_ ?_
    | with_reducible exact fun k => k
    | with_reducible exact fun k => eraseRange_wf _ _ _ k
    | with_reducible exact fun k => progBytes_wf _ _ _ k
    | with_reducible exact fun k => brecWrite_wf _ _ _ k
    | exact Attic.grows_same rfl rfl
    | (simp only [List.length_map, List.length_zipIdx]; exact id)
    | with_reducible apply State.leads_ite
    | split
    | with_reducible refine State.setTmrRegs_from _ _ _ ?_
    | with_reducible refine State.onRoom_from _ _ _ ?_ ?_
    | with_reducible refine State.onLand_from _ _ _ ?_
    | with_reducible exact Room.Keeps.refl _
    | simp only [Room.keeps_mk_eq]
    | with_reducible refine KeepsParts.same _ ?_
    | with_reducible refine KeepsParts.data _ _ _ ?_
    | with_reducible refine KeepsParts.code _ _ _ ?_
    | with_reducible apply Room.keeps_ite
    | split
    | intro _
    | dsimp only

theorem State.tmrTicks_from {s0 : State} (s : State) (h0 : s0.Leads s) : s0.Leads (State.tmrTicks s) := by
  refine State.Leads.trans h0 ?_
  unfold State.tmrTicks
  try dsimp only
  repeat' first
    | with_reducible refine State.leads_foldl _ _ _ _ ?_ ?_
    | with_reducible exact State.Leads.refl _
    | with_reducible exact LeadsOut.next _
    | with_reducible apply State.leads_ite
    | with_reducible refine State.tmrTick_from _ _ ?_
    | split
    | intro _
    | dsimp only

theorem State.writeTmr_from {s0 : State} (s : State) (k : TmrBlock) (n reg : Nat) (v : Word) (h : s0.Leads s) : s0.Leads (State.writeTmr s k n reg v) := by
  refine State.Leads.trans h ?_
  unfold State.writeTmr
  try dsimp only
  repeat' first
    | with_reducible exact State.Leads.refl _ | with_reducible apply State.leads_ite
    | with_reducible refine State.writeReg_from _ _ _ ?_ | with_reducible refine State.setTmrRegs_from _ _ _ ?_

theorem execEnableSet_from (p : Fin 48) (s : State) : LeadsOut s (execEnableSet p s) := by
  unfold execEnableSet
  repeat' first
    | with_reducible exact State.Leads.refl _
    | with_reducible exact LeadsOut.next _
    | with_reducible apply State.leads_ite
    | with_reducible apply LeadsOut.ite
    | with_reducible refine LeadsOut.of ?_
    | with_reducible refine LeadsSeq.ok ?_
    | with_reducible refine LeadsSeq.error ?_
    | with_reducible apply LeadsSeq.ite
    | with_reducible refine State.onRoomE_from _ _ _ ?_ ?_
    | with_reducible refine State.onRoom_from _ _ _ ?_ ?_
    | with_reducible refine State.on_from _ _ ?_
    | with_reducible refine act_from _ _ _ ?_
    | with_reducible exact Room.Keeps.refl _
    | simp only [Room.keeps_mk_eq]
    | with_reducible refine KeepsParts.same _ ?_
    | with_reducible refine KeepsParts.data _ _ _ ?_
    | with_reducible refine KeepsParts.code _ _ _ ?_
    | with_reducible apply Room.keeps_ite
    | with_reducible refine Room.enable_from _ _ ?_
    | with_reducible refine Room.on_from _ _ ?_
    | split
    | intro _
    | dsimp only

theorem execEnableClear_from (p : Fin 48) (s : State) : LeadsOut s (execEnableClear p s) := by
  unfold execEnableClear
  repeat' first
    | with_reducible exact State.Leads.refl _
    | with_reducible exact LeadsOut.next _
    | with_reducible apply State.leads_ite
    | with_reducible apply LeadsOut.ite
    | with_reducible refine LeadsOut.of ?_
    | with_reducible refine LeadsSeq.ok ?_
    | with_reducible refine LeadsSeq.error ?_
    | with_reducible apply LeadsSeq.ite
    | with_reducible refine State.onRoomE_from _ _ _ ?_ ?_
    | with_reducible refine State.onRoom_from _ _ _ ?_ ?_
    | with_reducible refine State.off_from _ _ ?_
    | with_reducible refine act_from _ _ _ ?_
    | with_reducible exact Room.Keeps.refl _
    | simp only [Room.keeps_mk_eq]
    | with_reducible refine KeepsParts.same _ ?_
    | with_reducible refine KeepsParts.data _ _ _ ?_
    | with_reducible refine KeepsParts.code _ _ _ ?_
    | with_reducible apply Room.keeps_ite
    | with_reducible refine Room.disable_from _ _ ?_
    | with_reducible refine Room.off_from _ _ ?_
    | split
    | intro _
    | dsimp only

theorem execPortRemovalEnd_from (p : Fin 48) (s : State) : LeadsOut s (execPortRemovalEnd p s) := by
  unfold execPortRemovalEnd
  repeat' first
    | with_reducible exact State.Leads.refl _ | with_reducible refine State.onRoomE_from _ _ _ ?_ ?_
    | with_reducible refine act_from _ _ _ ?_ | with_reducible exact Room.Keeps.refl _
    | with_reducible refine Room.openSwitch_from _ ?_ | with_reducible refine Room.setGrant_from _ _ ?_
    | with_reducible refine Room.onCc_from _ _ ?_ | with_reducible refine Room.refreshIlim_from _ _ ?_ | intro _

theorem execCcLevelChange_from (p : Fin 48) (l1 l2 : Fin 8) (s : State) : LeadsOut s (execCcLevelChange p l1 l2 s) := by
  unfold execCcLevelChange
  repeat' first
    | with_reducible exact State.Leads.refl _
    | with_reducible exact LeadsOut.next _
    | with_reducible apply State.leads_ite
    | with_reducible apply LeadsOut.ite
    | with_reducible refine LeadsOut.of ?_
    | with_reducible refine LeadsSeq.ok ?_
    | with_reducible refine LeadsSeq.error ?_
    | with_reducible apply LeadsSeq.ite
    | with_reducible refine State.onRoomE_from _ _ _ ?_ ?_
    | with_reducible refine act_from _ _ _ ?_
    | with_reducible exact Room.Keeps.refl _
    | simp only [Room.keeps_mk_eq]
    | with_reducible refine KeepsParts.same _ ?_
    | with_reducible refine KeepsParts.data _ _ _ ?_
    | with_reducible refine KeepsParts.code _ _ _ ?_
    | with_reducible apply Room.keeps_ite
    | with_reducible refine Room.newLevels_from _ _ _ _ ?_
    | with_reducible refine Room.advance_from _ _ _ ?_
    | with_reducible refine Room.seenLevels_from _ _ _ _ ?_
    | split
    | intro _
    | dsimp only

theorem execTccdebounce_from (p : Fin 48) (s : State) : LeadsOut s (execTccdebounce p s) := by
  unfold execTccdebounce
  repeat' first
    | with_reducible exact State.Leads.refl _ | with_reducible refine State.onRoomE_from _ _ _ ?_ ?_
    | with_reducible refine act_from _ _ _ ?_ | with_reducible exact Room.Keeps.refl _
    | with_reducible refine Room.advance_from _ _ _ ?_ | intro _

theorem execTpddebounce_from (p : Fin 48) (s : State) : LeadsOut s (execTpddebounce p s) := by
  unfold execTpddebounce
  repeat' first
    | with_reducible exact State.Leads.refl _ | with_reducible refine State.onRoomE_from _ _ _ ?_ ?_
    | with_reducible refine act_from _ _ _ ?_ | with_reducible exact Room.Keeps.refl _
    | with_reducible refine Room.advance_from _ _ _ ?_ | intro _

theorem execTtryccdebounce_from (p : Fin 48) (s : State) : LeadsOut s (execTtryccdebounce p s) := by
  unfold execTtryccdebounce
  repeat' first
    | with_reducible exact State.Leads.refl _ | with_reducible refine State.onRoomE_from _ _ _ ?_ ?_
    | with_reducible refine act_from _ _ _ ?_ | with_reducible exact Room.Keeps.refl _
    | with_reducible refine Room.advance_from _ _ _ ?_ | intro _

theorem execTdrptry_from (p : Fin 48) (s : State) : LeadsOut s (execTdrptry p s) := by
  unfold execTdrptry
  repeat' first
    | with_reducible exact State.Leads.refl _ | with_reducible refine State.onRoomE_from _ _ _ ?_ ?_
    | with_reducible refine act_from _ _ _ ?_ | with_reducible exact Room.Keeps.refl _
    | with_reducible refine Room.advance_from _ _ _ ?_ | intro _

theorem execTerrorrecovery_from (p : Fin 48) (s : State) : LeadsOut s (execTerrorrecovery p s) := by
  unfold execTerrorrecovery
  repeat' first
    | with_reducible exact State.Leads.refl _ | with_reducible refine State.onRoomE_from _ _ _ ?_ ?_
    | with_reducible refine act_from _ _ _ ?_ | with_reducible exact Room.Keeps.refl _
    | with_reducible refine Room.advance_from _ _ _ ?_ | intro _

theorem execDrpToggle_from (p : Fin 48) (s : State) : LeadsOut s (execDrpToggle p s) := by
  unfold execDrpToggle
  repeat' first
    | with_reducible exact State.Leads.refl _ | with_reducible refine State.onRoomE_from _ _ _ ?_ ?_
    | with_reducible refine act_from _ _ _ ?_ | with_reducible exact Room.Keeps.refl _
    | with_reducible refine Room.advance_from _ _ _ ?_ | intro _

theorem State.answerAttach_from {s0 : State} (s : State) (p : Fin 48) (h0 : s0.Leads s) : s0.Leads (State.answerAttach s p) := by
  refine State.Leads.trans h0 ?_
  unfold State.answerAttach
  try dsimp only
  repeat' first
    | with_reducible exact State.Leads.refl _
    | with_reducible exact LeadsOut.next _
    | with_reducible apply State.leads_ite
    | with_reducible refine State.onRoomE_from _ _ _ ?_ ?_
    | with_reducible exact Room.Keeps.refl _
    | simp only [Room.keeps_mk_eq]
    | with_reducible refine KeepsParts.same _ ?_
    | with_reducible refine KeepsParts.data _ _ _ ?_
    | with_reducible refine KeepsParts.code _ _ _ ?_
    | with_reducible apply Room.keeps_ite
    | with_reducible refine Room.attachAnswer_from _ _ _ ?_
    | split
    | intro _
    | dsimp only

theorem execBudgetWait_from (p : Fin 48) (s : State) : LeadsOut s (execBudgetWait p s) := by
  unfold execBudgetWait
  repeat' first
    | with_reducible exact State.Leads.refl _
    | with_reducible exact LeadsOut.next _
    | simp only [State.leads_mk_eq]
    | with_reducible refine LeadsParts.same _ ?_
    | with_reducible refine LeadsParts.cellar _ _ ?_ ?_
    | with_reducible refine LeadsParts.attic _ _ ?_ ?_
    | with_reducible refine LeadsParts.porch _ _ ?_ ?_
    | with_reducible refine LeadsParts.hearth _ _ ?_ ?_
    | with_reducible refine LeadsParts.links _ _ ?_ ?_
    | with_reducible refine LeadsParts.tcs _ _ ?_ ?_
    | with_reducible exact fun k => k
    | with_reducible exact fun k => eraseRange_wf _ _ _ k
    | with_reducible exact fun k => progBytes_wf _ _ _ k
    | with_reducible exact fun k => brecWrite_wf _ _ _ k
    | exact Attic.grows_same rfl rfl
    | (simp only [List.length_map, List.length_zipIdx]; exact id)
    | with_reducible apply State.leads_ite
    | with_reducible apply LeadsOut.ite
    | with_reducible refine LeadsOut.of ?_
    | with_reducible refine LeadsSeq.ok ?_
    | with_reducible refine LeadsSeq.error ?_
    | with_reducible apply LeadsSeq.ite
    | with_reducible refine State.onRoomE_from _ _ _ ?_ ?_
    | with_reducible refine act_from _ _ _ ?_
    | with_reducible exact Room.Keeps.refl _
    | simp only [Room.keeps_mk_eq]
    | with_reducible refine KeepsParts.same _ ?_
    | with_reducible refine KeepsParts.data _ _ _ ?_
    | with_reducible refine KeepsParts.code _ _ _ ?_
    | with_reducible apply Room.keeps_ite
    | with_reducible refine Room.onCc_from _ _ ?_
    | split
    | intro _
    | dsimp only

theorem execRpLimitLower_from (p : Fin 48) (s : State) : LeadsOut s (execRpLimitLower p s) := by
  unfold execRpLimitLower
  repeat' first
    | with_reducible exact State.Leads.refl _ | with_reducible refine State.onRoomE_from _ _ _ ?_ ?_
    | with_reducible refine act_from _ _ _ ?_ | with_reducible exact Room.Keeps.refl _
    | with_reducible refine Room.onCc_from _ _ ?_ | with_reducible refine Room.implicitVi_from _ _ ?_ | intro _

theorem execVbusLost_from (p : Fin 48) (s : State) : LeadsOut s (execVbusLost p s) := by
  unfold execVbusLost
  repeat' first
    | with_reducible exact State.Leads.refl _ | with_reducible refine State.onRoomE_from _ _ _ ?_ ?_
    | with_reducible refine act_from _ _ _ ?_ | with_reducible exact Room.Keeps.refl _ | with_reducible apply Room.keeps_ite
    | with_reducible refine Room.safeDetach_from _ _ ?_ | with_reducible refine Room.detach_from _ _ ?_ | intro _

theorem execVbusLevelChange_from (p : Fin 48) (mv : Nat) (s : State) : LeadsOut s (execVbusLevelChange p mv s) := by
  unfold execVbusLevelChange
  repeat' first
    | with_reducible exact State.Leads.refl _ | with_reducible apply State.leads_ite
    | with_reducible refine State.onRoomE_from _ _ _ ?_ ?_ | with_reducible refine act_from _ _ _ ?_
    | with_reducible exact Room.Keeps.refl _ | with_reducible refine Room.newVbus_from _ _ _ ?_
    | with_reducible refine Room.advance_from _ _ _ ?_ | with_reducible refine Room.sinkSwitch_from _ _ ?_ | intro _

theorem execVconnEnWrite_from (p : Fin 48) (en : Bool) (s : State) : LeadsOut s (execVconnEnWrite p en s) := by
  unfold execVconnEnWrite
  try dsimp only
  repeat' first
    | with_reducible exact State.Leads.refl _
    | with_reducible exact LeadsOut.next _
    | with_reducible apply State.leads_ite
    | with_reducible apply LeadsOut.ite
    | with_reducible refine LeadsOut.of ?_
    | with_reducible refine LeadsSeq.ok ?_
    | with_reducible refine LeadsSeq.error ?_
    | with_reducible apply LeadsSeq.ite
    | with_reducible refine State.onRoomE_from _ _ _ ?_ ?_
    | with_reducible refine act_from _ _ _ ?_
    | with_reducible exact Room.Keeps.refl _
    | simp only [Room.keeps_mk_eq]
    | with_reducible refine KeepsParts.same _ ?_
    | with_reducible refine KeepsParts.data _ _ _ ?_
    | with_reducible refine KeepsParts.code _ _ _ ?_
    | with_reducible apply Room.keeps_ite
    | with_reducible refine Room.writeVconnEn_from _ _ _ ?_
    | split
    | intro _
    | dsimp only

theorem execVconnOc_from (p : Fin 48) (overcurrent : Bool) (s : State) : LeadsOut s (execVconnOc p overcurrent s) := by
  unfold execVconnOc
  try dsimp only
  repeat' first
    | with_reducible exact State.Leads.refl _
    | with_reducible exact LeadsOut.next _
    | simp only [State.leads_mk_eq]
    | with_reducible refine LeadsParts.same _ ?_
    | with_reducible refine LeadsParts.cellar _ _ ?_ ?_
    | with_reducible refine LeadsParts.attic _ _ ?_ ?_
    | with_reducible refine LeadsParts.porch _ _ ?_ ?_
    | with_reducible refine LeadsParts.hearth _ _ ?_ ?_
    | with_reducible refine LeadsParts.links _ _ ?_ ?_
    | with_reducible refine LeadsParts.tcs _ _ ?_ ?_
    | with_reducible exact fun k => k
    | with_reducible exact fun k => eraseRange_wf _ _ _ k
    | with_reducible exact fun k => progBytes_wf _ _ _ k
    | with_reducible exact fun k => brecWrite_wf _ _ _ k
    | exact Attic.grows_same rfl rfl
    | (simp only [List.length_map, List.length_zipIdx]; exact id)
    | with_reducible apply State.leads_ite
    | with_reducible apply LeadsOut.ite
    | with_reducible refine LeadsOut.of ?_
    | with_reducible refine LeadsSeq.ok ?_
    | with_reducible refine LeadsSeq.error ?_
    | with_reducible apply LeadsSeq.ite
    | split
    | with_reducible refine State.onRoomE_from _ _ _ ?_ ?_
    | with_reducible refine State.off_from _ _ ?_
    | with_reducible refine State.on_from _ _ ?_
    | with_reducible refine act_from _ _ _ ?_
    | with_reducible exact Room.Keeps.refl _
    | simp only [Room.keeps_mk_eq]
    | with_reducible refine KeepsParts.same _ ?_
    | with_reducible refine KeepsParts.data _ _ _ ?_
    | with_reducible refine KeepsParts.code _ _ _ ?_
    | with_reducible apply Room.keeps_ite
    | with_reducible refine Room.off_from _ _ ?_
    | with_reducible refine Room.onPd_from _ _ ?_
    | with_reducible refine Room.fault_from _ _ ?_
    | with_reducible refine Room.on_from _ _ ?_
    | with_reducible refine Room.terms_from _ _ ?_
    | split
    | intro _
    | dsimp only

theorem execCcOv_from (p : Fin 48) (cc2 above : Bool) (s : State) : LeadsOut s (execCcOv p cc2 above s) := by
  unfold execCcOv
  try dsimp only
  repeat' first
    | with_reducible exact State.Leads.refl _
    | with_reducible exact LeadsOut.next _
    | with_reducible apply State.leads_ite
    | with_reducible apply LeadsOut.ite
    | with_reducible refine LeadsOut.of ?_
    | with_reducible refine LeadsSeq.ok ?_
    | with_reducible refine LeadsSeq.error ?_
    | with_reducible apply LeadsSeq.ite
    | with_reducible refine State.onRoom_from _ _ _ ?_ ?_
    | with_reducible refine State.on_from _ _ ?_
    | with_reducible refine State.enterSafe_from _ _ _ _ ?_
    | with_reducible refine act_from _ _ _ ?_
    | with_reducible exact Room.Keeps.refl _
    | simp only [Room.keeps_mk_eq]
    | with_reducible refine KeepsParts.same _ ?_
    | with_reducible refine KeepsParts.data _ _ _ ?_
    | with_reducible refine KeepsParts.code _ _ _ ?_
    | with_reducible apply Room.keeps_ite
    | with_reducible refine Room.ccOver_from _ _ _ _ ?_
    | with_reducible refine Room.on_from _ _ ?_
    | with_reducible refine Room.enterSafe_from _ _ _ _ ?_
    | split
    | intro _
    | dsimp only

theorem execCcIsolationRelease_from (p : Fin 48) (cc2 : Bool) (s : State) : LeadsOut s (execCcIsolationRelease p cc2 s) := by
  unfold execCcIsolationRelease
  try dsimp only
  repeat' first
    | with_reducible exact State.Leads.refl _
    | with_reducible exact LeadsOut.next _
    | simp only [State.leads_mk_eq]
    | with_reducible refine LeadsParts.same _ ?_
    | with_reducible refine LeadsParts.cellar _ _ ?_ ?_
    | with_reducible refine LeadsParts.attic _ _ ?_ ?_
    | with_reducible refine LeadsParts.porch _ _ ?_ ?_
    | with_reducible refine LeadsParts.hearth _ _ ?_ ?_
    | with_reducible refine LeadsParts.links _ _ ?_ ?_
    | with_reducible refine LeadsParts.tcs _ _ ?_ ?_
    | with_reducible exact fun k => k
    | with_reducible exact fun k => eraseRange_wf _ _ _ k
    | with_reducible exact fun k => progBytes_wf _ _ _ k
    | with_reducible exact fun k => brecWrite_wf _ _ _ k
    | exact Attic.grows_same rfl rfl
    | (simp only [List.length_map, List.length_zipIdx]; exact id)
    | with_reducible apply State.leads_ite
    | with_reducible apply LeadsOut.ite
    | with_reducible refine LeadsOut.of ?_
    | with_reducible refine LeadsSeq.ok ?_
    | with_reducible refine LeadsSeq.error ?_
    | with_reducible apply LeadsSeq.ite
    | with_reducible refine State.onRoomE_from _ _ _ ?_ ?_
    | with_reducible refine State.off_from _ _ ?_
    | with_reducible refine act_from _ _ _ ?_
    | with_reducible exact Room.Keeps.refl _
    | simp only [Room.keeps_mk_eq]
    | with_reducible refine KeepsParts.same _ ?_
    | with_reducible refine KeepsParts.data _ _ _ ?_
    | with_reducible refine KeepsParts.code _ _ _ ?_
    | with_reducible apply Room.keeps_ite
    | with_reducible refine Room.off_from _ _ ?_
    | with_reducible refine Room.onCc_from _ _ ?_
    | with_reducible refine Room.terms_from _ _ ?_
    | split
    | intro _
    | dsimp only

theorem execErrorRecovery_from (p : Fin 48) (s : State) : LeadsOut s (execErrorRecovery p s) := by
  unfold execErrorRecovery
  repeat' first
    | with_reducible exact State.Leads.refl _ | with_reducible refine State.onRoomE_from _ _ _ ?_ ?_
    | with_reducible refine act_from _ _ _ ?_ | with_reducible exact Room.Keeps.refl _
    | with_reducible refine Room.errorRecovery_from _ _ ?_ | intro _

theorem execGrantAsk_from (p : Fin 48) (w : Nat) (s : State) : LeadsOut s (execGrantAsk p w s) := by
  unfold execGrantAsk
  try dsimp only
  repeat' first
    | with_reducible exact State.Leads.refl _
    | with_reducible exact LeadsOut.next _
    | with_reducible apply State.leads_ite
    | with_reducible apply LeadsOut.ite
    | with_reducible refine LeadsOut.of ?_
    | with_reducible refine LeadsSeq.ok ?_
    | with_reducible refine LeadsSeq.error ?_
    | with_reducible apply LeadsSeq.ite
    | with_reducible refine State.onRoomE_from _ _ _ ?_ ?_
    | with_reducible refine State.put_from _ _ _ ?_
    | with_reducible refine act_from _ _ _ ?_
    | with_reducible exact Room.Keeps.refl _
    | simp only [Room.keeps_mk_eq]
    | with_reducible refine KeepsParts.same _ ?_
    | with_reducible refine KeepsParts.data _ _ _ ?_
    | with_reducible refine KeepsParts.code _ _ _ ?_
    | with_reducible apply Room.keeps_ite
    | with_reducible refine Room.put_from _ _ _ ?_
    | with_reducible refine Room.endResv_from _ ?_
    | with_reducible refine Room.ask_from _ _ _ _ ?_
    | split
    | intro _
    | dsimp only

theorem State.answerAsk_from {s0 : State} (s : State) (p : Fin 48) (h0 : s0.Leads s) : s0.Leads (State.answerAsk s p) := by
  refine State.Leads.trans h0 ?_
  unfold State.answerAsk
  repeat' first
    | with_reducible exact State.Leads.refl _
    | with_reducible exact LeadsOut.next _
    | with_reducible apply State.leads_ite
    | with_reducible refine State.answer_from _ _ _ ?_
    | with_reducible refine State.onRoomE_from _ _ _ ?_ ?_
    | with_reducible exact Room.Keeps.refl _
    | simp only [Room.keeps_mk_eq]
    | with_reducible refine KeepsParts.same _ ?_
    | with_reducible refine KeepsParts.data _ _ _ ?_
    | with_reducible refine KeepsParts.code _ _ _ ?_
    | with_reducible apply Room.keeps_ite
    | with_reducible refine Room.frsAnswer_from _ _ ?_
    | split
    | intro _
    | dsimp only

theorem execResvLapse_from (p : Fin 48) (s : State) : LeadsOut s (execResvLapse p s) := by
  unfold execResvLapse
  repeat' first
    | with_reducible exact State.Leads.refl _ | with_reducible refine State.onRoom_from _ _ _ ?_ ?_
    | with_reducible refine act_from _ _ _ ?_ | with_reducible exact Room.Keeps.refl _
    | with_reducible refine Room.put_from _ _ _ ?_ | with_reducible refine Room.off_from _ _ ?_
    | with_reducible refine Room.on_from _ _ ?_ | with_reducible refine Room.onCon_from _ _ ?_ | intro _

theorem execTsrc_from (p : Fin 48) (s : State) : LeadsOut s (execTsrc p s) := by
  unfold execTsrc
  try dsimp only
  repeat' first
    | with_reducible exact State.Leads.refl _
    | with_reducible exact LeadsOut.next _
    | with_reducible apply State.leads_ite
    | with_reducible apply LeadsOut.ite
    | with_reducible refine LeadsOut.of ?_
    | with_reducible refine LeadsSeq.ok ?_
    | with_reducible refine LeadsSeq.error ?_
    | with_reducible apply LeadsSeq.ite
    | split
    | with_reducible refine State.onRoomE_from _ _ _ ?_ ?_
    | with_reducible refine act_from _ _ _ ?_
    | with_reducible exact Room.Keeps.refl _
    | simp only [Room.keeps_mk_eq]
    | with_reducible refine KeepsParts.same _ ?_
    | with_reducible refine KeepsParts.data _ _ _ ?_
    | with_reducible refine KeepsParts.code _ _ _ ?_
    | with_reducible apply Room.keeps_ite
    | with_reducible refine Room.toStep_from _ _ _ ?_
    | with_reducible refine Room.discharge_from _ _ _ _ _ ?_
    | with_reducible refine Room.rampTo_from _ _ _ ?_
    | with_reducible refine Room.refReached_from _ _ ?_
    | split
    | intro _
    | dsimp only

theorem execReferenceReached_from (p : Fin 48) (s : State) : LeadsOut s (execReferenceReached p s) := by
  unfold execReferenceReached
  try dsimp only
  repeat' first
    | with_reducible exact State.Leads.refl _ | with_reducible refine State.onRoomE_from _ _ _ ?_ ?_
    | with_reducible refine act_from _ _ _ ?_ | with_reducible exact Room.Keeps.refl _
    | with_reducible refine Room.refReached_from _ _ ?_ | intro _

theorem execSettled_from (p : Fin 48) (s : State) : LeadsOut s (execSettled p s) := by
  unfold execSettled
  try dsimp only
  repeat' first
    | with_reducible exact State.Leads.refl _
    | with_reducible exact LeadsOut.next _
    | with_reducible apply State.leads_ite
    | with_reducible apply LeadsOut.ite
    | with_reducible refine LeadsOut.of ?_
    | with_reducible refine LeadsSeq.ok ?_
    | with_reducible refine LeadsSeq.error ?_
    | with_reducible apply LeadsSeq.ite
    | with_reducible refine State.onRoom_from _ _ _ ?_ ?_
    | with_reducible refine State.on_from _ _ ?_
    | with_reducible refine act_from _ _ _ ?_
    | with_reducible exact Room.Keeps.refl _
    | simp only [Room.keeps_mk_eq]
    | with_reducible refine KeepsParts.same _ ?_
    | with_reducible refine KeepsParts.data _ _ _ ?_
    | with_reducible refine KeepsParts.code _ _ _ ?_
    | with_reducible apply Room.keeps_ite
    | with_reducible refine Room.on_from _ _ ?_
    | with_reducible refine Room.toStep_from _ _ _ ?_
    | split
    | intro _
    | dsimp only

theorem execSettleFail_from (p : Fin 48) (s : State) : LeadsOut s (execSettleFail p s) := by
  unfold execSettleFail
  try dsimp only
  repeat' first
    | with_reducible exact State.Leads.refl _
    | with_reducible exact LeadsOut.next _
    | with_reducible apply State.leads_ite
    | with_reducible apply LeadsOut.ite
    | with_reducible refine LeadsOut.of ?_
    | with_reducible refine LeadsSeq.ok ?_
    | with_reducible refine LeadsSeq.error ?_
    | with_reducible apply LeadsSeq.ite
    | with_reducible refine State.onRoomE_from _ _ _ ?_ ?_
    | with_reducible refine State.on_from _ _ ?_
    | with_reducible refine act_from _ _ _ ?_
    | with_reducible exact Room.Keeps.refl _
    | simp only [Room.keeps_mk_eq]
    | with_reducible refine KeepsParts.same _ ?_
    | with_reducible refine KeepsParts.data _ _ _ ?_
    | with_reducible refine KeepsParts.code _ _ _ ?_
    | with_reducible apply Room.keeps_ite
    | with_reducible refine Room.on_from _ _ ?_
    | with_reducible refine Room.hardResetCause_from _ _ ?_
    | split
    | intro _
    | dsimp only

theorem execVsetWrite_from (p : Fin 48) (mv : Nat) (s : State) : LeadsOut s (execVsetWrite p mv s) := by
  unfold execVsetWrite
  try dsimp only
  repeat' first
    | with_reducible exact State.Leads.refl _
    | with_reducible exact LeadsOut.next _
    | with_reducible apply State.leads_ite
    | with_reducible apply LeadsOut.ite
    | with_reducible refine LeadsOut.of ?_
    | with_reducible refine LeadsSeq.ok ?_
    | with_reducible refine LeadsSeq.error ?_
    | with_reducible apply LeadsSeq.ite
    | with_reducible refine State.onRoomE_from _ _ _ ?_ ?_
    | with_reducible refine act_from _ _ _ ?_
    | with_reducible exact Room.Keeps.refl _
    | simp only [Room.keeps_mk_eq]
    | with_reducible refine KeepsParts.same _ ?_
    | with_reducible refine KeepsParts.data _ _ _ ?_
    | with_reducible refine KeepsParts.code _ _ _ ?_
    | with_reducible apply Room.keeps_ite
    | with_reducible refine Room.writeVset_from _ _ _ ?_
    | split
    | intro _
    | dsimp only

theorem execVlimRecompute_from (p : Fin 48) (vin10 : Nat) (s : State) : LeadsOut s (execVlimRecompute p vin10 s) := by
  unfold execVlimRecompute
  repeat' first
    | with_reducible exact State.Leads.refl _
    | with_reducible exact LeadsOut.next _
    | simp only [State.leads_mk_eq]
    | with_reducible refine LeadsParts.same _ ?_
    | with_reducible refine LeadsParts.cellar _ _ ?_ ?_
    | with_reducible refine LeadsParts.attic _ _ ?_ ?_
    | with_reducible refine LeadsParts.porch _ _ ?_ ?_
    | with_reducible refine LeadsParts.hearth _ _ ?_ ?_
    | with_reducible refine LeadsParts.links _ _ ?_ ?_
    | with_reducible refine LeadsParts.tcs _ _ ?_ ?_
    | with_reducible exact fun k => k
    | with_reducible exact fun k => eraseRange_wf _ _ _ k
    | with_reducible exact fun k => progBytes_wf _ _ _ k
    | with_reducible exact fun k => brecWrite_wf _ _ _ k
    | exact Attic.grows_same rfl rfl
    | (simp only [List.length_map, List.length_zipIdx]; exact id)
    | with_reducible apply State.leads_ite
    | with_reducible apply LeadsOut.ite
    | with_reducible refine LeadsOut.of ?_
    | with_reducible refine LeadsSeq.ok ?_
    | with_reducible refine LeadsSeq.error ?_
    | with_reducible apply LeadsSeq.ite
    | with_reducible refine State.onRoomE_from _ _ _ ?_ ?_
    | with_reducible refine act_from _ _ _ ?_
    | with_reducible exact Room.Keeps.refl _
    | simp only [Room.keeps_mk_eq]
    | with_reducible refine KeepsParts.same _ ?_
    | with_reducible refine KeepsParts.data _ _ _ ?_
    | with_reducible refine KeepsParts.code _ _ _ ?_
    | with_reducible apply Room.keeps_ite
    | with_reducible refine Room.onCon_from _ _ ?_
    | with_reducible refine Room.refreshVlim_from _ _ ?_
    | split
    | intro _
    | dsimp only

theorem execGiveup_from (p : Fin 48) (s : State) : LeadsOut s (execGiveup p s) := by
  unfold execGiveup
  try dsimp only
  repeat' first
    | with_reducible exact State.Leads.refl _
    | with_reducible exact LeadsOut.next _
    | simp only [State.leads_mk_eq]
    | with_reducible refine LeadsParts.same _ ?_
    | with_reducible refine LeadsParts.cellar _ _ ?_ ?_
    | with_reducible refine LeadsParts.attic _ _ ?_ ?_
    | with_reducible refine LeadsParts.porch _ _ ?_ ?_
    | with_reducible refine LeadsParts.hearth _ _ ?_ ?_
    | with_reducible refine LeadsParts.links _ _ ?_ ?_
    | with_reducible refine LeadsParts.tcs _ _ ?_ ?_
    | with_reducible exact fun k => k
    | with_reducible exact fun k => eraseRange_wf _ _ _ k
    | with_reducible exact fun k => progBytes_wf _ _ _ k
    | with_reducible exact fun k => brecWrite_wf _ _ _ k
    | exact Attic.grows_same rfl rfl
    | (simp only [List.length_map, List.length_zipIdx]; exact id)
    | with_reducible apply State.leads_ite
    | with_reducible apply LeadsOut.ite
    | with_reducible refine LeadsOut.of ?_
    | with_reducible refine LeadsSeq.ok ?_
    | with_reducible refine LeadsSeq.error ?_
    | with_reducible apply LeadsSeq.ite
    | split
    | with_reducible refine State.onRoomE_from _ _ _ ?_ ?_
    | with_reducible refine State.off_from _ _ ?_
    | with_reducible refine State.on_from _ _ ?_
    | with_reducible refine act_from _ _ _ ?_
    | with_reducible exact Room.Keeps.refl _
    | simp only [Room.keeps_mk_eq]
    | with_reducible refine KeepsParts.same _ ?_
    | with_reducible refine KeepsParts.data _ _ _ ?_
    | with_reducible refine KeepsParts.code _ _ _ ?_
    | with_reducible apply Room.keeps_ite
    | with_reducible refine Room.off_from _ _ ?_
    | with_reducible refine Room.onCon_from _ _ ?_
    | with_reducible refine Room.on_from _ _ ?_
    | with_reducible refine Room.refreshIlim_from _ _ ?_
    | with_reducible refine Room.hardResetCause_from _ _ ?_
    | split
    | intro _
    | dsimp only

theorem execHardResetVconnOff_from (p : Fin 48) (s : State) : LeadsOut s (execHardResetVconnOff p s) := by
  unfold execHardResetVconnOff
  try dsimp only
  repeat' first
    | with_reducible exact State.Leads.refl _
    | with_reducible exact LeadsOut.next _
    | with_reducible apply State.leads_ite
    | with_reducible apply LeadsOut.ite
    | with_reducible refine LeadsOut.of ?_
    | with_reducible refine LeadsSeq.ok ?_
    | with_reducible refine LeadsSeq.error ?_
    | with_reducible apply LeadsSeq.ite
    | with_reducible refine State.onRoomE_from _ _ _ ?_ ?_
    | with_reducible refine act_from _ _ _ ?_
    | with_reducible exact Room.Keeps.refl _
    | simp only [Room.keeps_mk_eq]
    | with_reducible refine KeepsParts.same _ ?_
    | with_reducible refine KeepsParts.data _ _ _ ?_
    | with_reducible refine KeepsParts.code _ _ _ ?_
    | with_reducible apply Room.keeps_ite
    | with_reducible refine Room.toStep_from _ _ _ ?_
    | with_reducible refine Room.vconn_from _ _ ?_
    | with_reducible refine Room.discharge_from _ _ _ _ _ ?_
    | split
    | intro _
    | dsimp only

theorem execHardResetVbusSafe0_from (p : Fin 48) (s : State) : LeadsOut s (execHardResetVbusSafe0 p s) := by
  unfold execHardResetVbusSafe0
  try dsimp only
  repeat' first
    | with_reducible exact State.Leads.refl _
    | with_reducible exact LeadsOut.next _
    | simp only [State.leads_mk_eq]
    | with_reducible refine LeadsParts.same _ ?_
    | with_reducible refine LeadsParts.cellar _ _ ?_ ?_
    | with_reducible refine LeadsParts.attic _ _ ?_ ?_
    | with_reducible refine LeadsParts.porch _ _ ?_ ?_
    | with_reducible refine LeadsParts.hearth _ _ ?_ ?_
    | with_reducible refine LeadsParts.links _ _ ?_ ?_
    | with_reducible refine LeadsParts.tcs _ _ ?_ ?_
    | with_reducible exact fun k => k
    | with_reducible exact fun k => eraseRange_wf _ _ _ k
    | with_reducible exact fun k => progBytes_wf _ _ _ k
    | with_reducible exact fun k => brecWrite_wf _ _ _ k
    | exact Attic.grows_same rfl rfl
    | (simp only [List.length_map, List.length_zipIdx]; exact id)
    | with_reducible apply State.leads_ite
    | with_reducible apply LeadsOut.ite
    | with_reducible refine LeadsOut.of ?_
    | with_reducible refine LeadsSeq.ok ?_
    | with_reducible refine LeadsSeq.error ?_
    | with_reducible apply LeadsSeq.ite
    | split
    | with_reducible refine State.onRoomE_from _ _ _ ?_ ?_
    | with_reducible refine act_from _ _ _ ?_
    | with_reducible exact Room.Keeps.refl _
    | simp only [Room.keeps_mk_eq]
    | with_reducible refine KeepsParts.same _ ?_
    | with_reducible refine KeepsParts.data _ _ _ ?_
    | with_reducible refine KeepsParts.code _ _ _ ?_
    | with_reducible apply Room.keeps_ite
    | with_reducible refine Room.onCon_from _ _ ?_
    | with_reducible refine Room.toStep_from _ _ _ ?_
    | split
    | intro _
    | dsimp only

theorem execTsrcrecover_from (p : Fin 48) (s : State) : LeadsOut s (execTsrcrecover p s) := by
  unfold execTsrcrecover
  try dsimp only
  repeat' first
    | with_reducible exact State.Leads.refl _
    | with_reducible exact LeadsOut.next _
    | simp only [State.leads_mk_eq]
    | with_reducible refine LeadsParts.same _ ?_
    | with_reducible refine LeadsParts.cellar _ _ ?_ ?_
    | with_reducible refine LeadsParts.attic _ _ ?_ ?_
    | with_reducible refine LeadsParts.porch _ _ ?_ ?_
    | with_reducible refine LeadsParts.hearth _ _ ?_ ?_
    | with_reducible refine LeadsParts.links _ _ ?_ ?_
    | with_reducible refine LeadsParts.tcs _ _ ?_ ?_
    | with_reducible exact fun k => k
    | with_reducible exact fun k => eraseRange_wf _ _ _ k
    | with_reducible exact fun k => progBytes_wf _ _ _ k
    | with_reducible exact fun k => brecWrite_wf _ _ _ k
    | exact Attic.grows_same rfl rfl
    | (simp only [List.length_map, List.length_zipIdx]; exact id)
    | with_reducible apply State.leads_ite
    | with_reducible apply LeadsOut.ite
    | with_reducible refine LeadsOut.of ?_
    | with_reducible refine LeadsSeq.ok ?_
    | with_reducible refine LeadsSeq.error ?_
    | with_reducible apply LeadsSeq.ite
    | with_reducible refine State.onRoomE_from _ _ _ ?_ ?_
    | with_reducible refine act_from _ _ _ ?_
    | with_reducible exact Room.Keeps.refl _
    | simp only [Room.keeps_mk_eq]
    | with_reducible refine KeepsParts.same _ ?_
    | with_reducible refine KeepsParts.data _ _ _ ?_
    | with_reducible refine KeepsParts.code _ _ _ ?_
    | with_reducible apply Room.keeps_ite
    | with_reducible refine Room.toStep_from _ _ _ ?_
    | with_reducible refine Room.onCc_from _ _ ?_
    | with_reducible refine Room.vconn_from _ _ ?_
    | with_reducible refine Room.setVset_from _ _ _ ?_
    | with_reducible refine Room.closeSwitch_from _ _ ?_
    | with_reducible refine Room.loopStart_from _ _ ?_
    | split
    | intro _
    | dsimp only

theorem execHardResetEnd_from (p : Fin 48) (s : State) : LeadsOut s (execHardResetEnd p s) := by
  unfold execHardResetEnd
  try dsimp only
  repeat' first
    | with_reducible exact State.Leads.refl _ | split | with_reducible refine State.onRoomE_from _ _ _ ?_ ?_
    | with_reducible refine act_from _ _ _ ?_ | with_reducible exact Room.Keeps.refl _
    | with_reducible refine Room.endHr_from _ _ ?_ | with_reducible refine Room.refreshIlim_from _ _ ?_ | intro _

theorem execPrSwapVbusSafe0_from (p : Fin 48) (s : State) : LeadsOut s (execPrSwapVbusSafe0 p s) := by
  unfold execPrSwapVbusSafe0
  try dsimp only
  repeat' first
    | with_reducible exact State.Leads.refl _
    | with_reducible exact LeadsOut.next _
    | with_reducible apply State.leads_ite
    | with_reducible apply LeadsOut.ite
    | with_reducible refine LeadsOut.of ?_
    | with_reducible refine LeadsSeq.ok ?_
    | with_reducible refine LeadsSeq.error ?_
    | with_reducible apply LeadsSeq.ite
    | with_reducible refine State.onRoomE_from _ _ _ ?_ ?_
    | with_reducible refine act_from _ _ _ ?_
    | with_reducible exact Room.Keeps.refl _
    | simp only [Room.keeps_mk_eq]
    | with_reducible refine KeepsParts.same _ ?_
    | with_reducible refine KeepsParts.data _ _ _ ?_
    | with_reducible refine KeepsParts.code _ _ _ ?_
    | with_reducible apply Room.keeps_ite
    | with_reducible refine Room.toSink_from _ _ ?_
    | with_reducible refine Room.toStep_from _ _ _ ?_
    | split
    | intro _
    | dsimp only

theorem execPsRdyTimeout_from (p : Fin 48) (s : State) : LeadsOut s (execPsRdyTimeout p s) := by
  unfold execPsRdyTimeout
  try dsimp only
  repeat' first
    | with_reducible exact State.Leads.refl _ | split | with_reducible refine State.onRoomE_from _ _ _ ?_ ?_
    | with_reducible refine act_from _ _ _ ?_ | with_reducible exact Room.Keeps.refl _
    | with_reducible refine Room.errorRecovery_from _ _ ?_ | intro _

theorem execTrig_from (p : Fin 48) (s : State) : LeadsOut s (execTrig p s) := by
  unfold execTrig
  repeat' first
    | with_reducible exact State.Leads.refl _ | with_reducible refine State.onRoomE_from _ _ _ ?_ ?_
    | with_reducible refine act_from _ _ _ ?_ | with_reducible exact Room.Keeps.refl _
    | with_reducible refine Room.frsTrigger_from _ _ ?_ | with_reducible refine Room.terms_from _ _ ?_ | intro _

theorem execFrsInputTrigger_from (p : Fin 48) (s : State) : LeadsOut s (execFrsInputTrigger p s) := by
  unfold execFrsInputTrigger
  try dsimp only
  repeat' first
    | with_reducible exact State.Leads.refl _ | with_reducible refine State.onRoomE_from _ _ _ ?_ ?_
    | with_reducible refine act_from _ _ _ ?_ | with_reducible exact Room.Keeps.refl _
    | with_reducible refine Room.frsTrigger_from _ _ ?_ | with_reducible refine Room.terms_from _ _ ?_ | intro _

theorem execFrsSignalEnd_from (p : Fin 48) (s : State) : LeadsOut s (execFrsSignalEnd p s) := by
  unfold execFrsSignalEnd
  try dsimp only
  repeat' first
    | with_reducible exact State.Leads.refl _
    | with_reducible exact LeadsOut.next _
    | with_reducible apply State.leads_ite
    | with_reducible apply LeadsOut.ite
    | with_reducible refine LeadsOut.of ?_
    | with_reducible refine LeadsSeq.ok ?_
    | with_reducible refine LeadsSeq.error ?_
    | with_reducible apply LeadsSeq.ite
    | with_reducible refine State.onRoomE_from _ _ _ ?_ ?_
    | with_reducible refine act_from _ _ _ ?_
    | with_reducible exact Room.Keeps.refl _
    | simp only [Room.keeps_mk_eq]
    | with_reducible refine KeepsParts.same _ ?_
    | with_reducible refine KeepsParts.data _ _ _ ?_
    | with_reducible refine KeepsParts.code _ _ _ ?_
    | with_reducible apply Room.keeps_ite
    | with_reducible refine Room.toStep_from _ _ _ ?_
    | with_reducible refine Room.terms_from _ _ ?_
    | split
    | intro _
    | dsimp only

theorem execFrsTimeout_from (p : Fin 48) (s : State) : LeadsOut s (execFrsTimeout p s) := by
  unfold execFrsTimeout
  try dsimp only
  repeat' first
    | with_reducible exact State.Leads.refl _ | with_reducible refine State.onRoomE_from _ _ _ ?_ ?_
    | with_reducible refine act_from _ _ _ ?_ | with_reducible exact Room.Keeps.refl _
    | with_reducible refine Room.errorRecovery_from _ _ ?_ | intro _

theorem execFrsDetect_from (p : Fin 48) (s : State) : LeadsOut s (execFrsDetect p s) := by
  unfold execFrsDetect
  try dsimp only
  repeat' first
    | with_reducible exact State.Leads.refl _
    | with_reducible exact LeadsOut.next _
    | simp only [State.leads_mk_eq]
    | with_reducible refine LeadsParts.same _ ?_
    | with_reducible refine LeadsParts.cellar _ _ ?_ ?_
    | with_reducible refine LeadsParts.attic _ _ ?_ ?_
    | with_reducible refine LeadsParts.porch _ _ ?_ ?_
    | with_reducible refine LeadsParts.hearth _ _ ?_ ?_
    | with_reducible refine LeadsParts.links _ _ ?_ ?_
    | with_reducible refine LeadsParts.tcs _ _ ?_ ?_
    | with_reducible exact fun k => k
    | with_reducible exact fun k => eraseRange_wf _ _ _ k
    | with_reducible exact fun k => progBytes_wf _ _ _ k
    | with_reducible exact fun k => brecWrite_wf _ _ _ k
    | exact Attic.grows_same rfl rfl
    | (simp only [List.length_map, List.length_zipIdx]; exact id)
    | with_reducible apply State.leads_ite
    | with_reducible apply LeadsOut.ite
    | with_reducible refine LeadsOut.of ?_
    | with_reducible refine LeadsSeq.ok ?_
    | with_reducible refine LeadsSeq.error ?_
    | with_reducible apply LeadsSeq.ite
    | with_reducible refine State.onRoomE_from _ _ _ ?_ ?_
    | with_reducible refine State.put_from _ _ _ ?_
    | with_reducible refine State.on_from _ _ ?_
    | with_reducible refine act_from _ _ _ ?_
    | with_reducible exact Room.Keeps.refl _
    | simp only [Room.keeps_mk_eq]
    | with_reducible refine KeepsParts.same _ ?_
    | with_reducible refine KeepsParts.data _ _ _ ?_
    | with_reducible refine KeepsParts.code _ _ _ ?_
    | with_reducible apply Room.keeps_ite
    | with_reducible refine Room.put_from _ _ _ ?_
    | with_reducible refine Room.toStep_from _ _ _ ?_
    | with_reducible refine Room.on_from _ _ ?_
    | with_reducible refine Room.onCon_from _ _ ?_
    | with_reducible refine Room.onConv_from _ _ ?_
    | with_reducible refine Room.onCc_from _ _ ?_
    | with_reducible refine Room.hwAsk_from _ _ _ ?_
    | with_reducible refine Room.refreshIlim_from _ _ ?_
    | split
    | intro _
    | dsimp only

theorem execFrsVbusDrop_from (p : Fin 48) (s : State) : LeadsOut s (execFrsVbusDrop p s) := by
  unfold execFrsVbusDrop
  try dsimp only
  repeat' first
    | with_reducible exact State.Leads.refl _
    | with_reducible exact LeadsOut.next _
    | simp only [State.leads_mk_eq]
    | with_reducible refine LeadsParts.same _ ?_
    | with_reducible refine LeadsParts.cellar _ _ ?_ ?_
    | with_reducible refine LeadsParts.attic _ _ ?_ ?_
    | with_reducible refine LeadsParts.porch _ _ ?_ ?_
    | with_reducible refine LeadsParts.hearth _ _ ?_ ?_
    | with_reducible refine LeadsParts.links _ _ ?_ ?_
    | with_reducible refine LeadsParts.tcs _ _ ?_ ?_
    | with_reducible exact fun k => k
    | with_reducible exact fun k => eraseRange_wf _ _ _ k
    | with_reducible exact fun k => progBytes_wf _ _ _ k
    | with_reducible exact fun k => brecWrite_wf _ _ _ k
    | exact Attic.grows_same rfl rfl
    | (simp only [List.length_map, List.length_zipIdx]; exact id)
    | with_reducible apply State.leads_ite
    | with_reducible apply LeadsOut.ite
    | with_reducible refine LeadsOut.of ?_
    | with_reducible refine LeadsSeq.ok ?_
    | with_reducible refine LeadsSeq.error ?_
    | with_reducible apply LeadsSeq.ite
    | with_reducible refine State.onRoomE_from _ _ _ ?_ ?_
    | with_reducible refine act_from _ _ _ ?_
    | with_reducible exact Room.Keeps.refl _
    | simp only [Room.keeps_mk_eq]
    | with_reducible refine KeepsParts.same _ ?_
    | with_reducible refine KeepsParts.data _ _ _ ?_
    | with_reducible refine KeepsParts.code _ _ _ ?_
    | with_reducible apply Room.keeps_ite
    | with_reducible refine Room.toStep_from _ _ _ ?_
    | with_reducible refine Room.onConv_from _ _ ?_
    | with_reducible refine Room.setVset_from _ _ _ ?_
    | split
    | intro _
    | dsimp only

theorem execVconnSwapTimeout_from (p : Fin 48) (s : State) : LeadsOut s (execVconnSwapTimeout p s) := by
  unfold execVconnSwapTimeout
  try dsimp only
  repeat' first
    | with_reducible exact State.Leads.refl _ | with_reducible refine State.onRoomE_from _ _ _ ?_ ?_
    | with_reducible refine act_from _ _ _ ?_ | with_reducible exact Room.Keeps.refl _
    | with_reducible refine Room.hardResetCause_from _ _ ?_ | intro _

theorem State.setModel_from {s0 : State} (s : State) (m : Nat) (x : Model) (h : s0.Leads s) :
    s0.Leads (State.setModel s m x) :=
  h.trans ⟨fun i => ⟨i.1, i.2, i.3, i.4, by simpa [State.setModel] using i.5, i.6, i.7, i.8, i.9, i.10⟩, Attic.grows_refl _, rfl⟩

theorem State.showModel_from {s0 : State} (s : State) (m : Nat) (h0 : s0.Leads s) : s0.Leads (State.showModel s m) := by
  refine State.Leads.trans h0 ?_
  unfold State.showModel
  try dsimp only
  repeat' first
    | with_reducible exact State.Leads.refl _
    | with_reducible exact LeadsOut.next _
    | simp only [State.leads_mk_eq]
    | with_reducible refine LeadsParts.same _ ?_
    | with_reducible refine LeadsParts.cellar _ _ ?_ ?_
    | with_reducible refine LeadsParts.attic _ _ ?_ ?_
    | with_reducible refine LeadsParts.porch _ _ ?_ ?_
    | with_reducible refine LeadsParts.hearth _ _ ?_ ?_
    | with_reducible refine LeadsParts.links _ _ ?_ ?_
    | with_reducible refine LeadsParts.tcs _ _ ?_ ?_
    | with_reducible exact fun k => k
    | with_reducible exact fun k => eraseRange_wf _ _ _ k
    | with_reducible exact fun k => progBytes_wf _ _ _ k
    | with_reducible exact fun k => brecWrite_wf _ _ _ k
    | exact Attic.grows_same rfl rfl
    | (simp only [List.length_map, List.length_zipIdx]; exact id)
    | with_reducible apply State.leads_ite
    | split
    | with_reducible refine State.onRoom_from _ _ _ ?_ ?_
    | with_reducible refine State.put_from _ _ _ ?_
    | with_reducible refine State.putB_from _ _ _ ?_
    | with_reducible exact Room.Keeps.refl _
    | simp only [Room.keeps_mk_eq]
    | with_reducible refine KeepsParts.same _ ?_
    | with_reducible refine KeepsParts.data _ _ _ ?_
    | with_reducible refine KeepsParts.code _ _ _ ?_
    | with_reducible apply Room.keeps_ite
    | with_reducible refine Room.put_from _ _ _ ?_
    | with_reducible refine Room.putB_from _ _ _ ?_
    | split
    | intro _
    | dsimp only

theorem State.modelTo_from {s0 : State} (s : State) (m st : Nat) (h : s0.Leads s) : s0.Leads (State.modelTo s m st) := by
  refine State.Leads.trans h ?_
  unfold State.modelTo
  try dsimp only
  repeat' first
    | with_reducible exact State.Leads.refl _ | simp only [State.leads_mk_eq] | split
    | with_reducible refine State.setModel_from _ _ _ ?_ | with_reducible refine State.showModel_from _ _ ?_

theorem State.clampActs_from {s0 : State} (s : State) (m : Nat) (h : s0.Leads s) : s0.Leads (State.clampActs s m) := by
  refine State.Leads.trans h ?_
  unfold State.clampActs
  repeat' first
    | with_reducible exact State.Leads.refl _ | with_reducible apply State.leads_ite
    | with_reducible refine State.onRoomE_from _ _ _ ?_ ?_ | with_reducible refine State.enforce_from _ ?_
    | with_reducible exact Room.Keeps.refl _ | with_reducible refine Room.refreshIlim_from _ _ ?_ | intro _

theorem State.clampModel_from {s0 : State} (s : State) (m : Nat) (h : s0.Leads s) : s0.Leads (State.clampModel s m) := by
  refine State.Leads.trans h ?_
  unfold State.clampModel
  try dsimp only
  repeat' first
    | with_reducible exact State.Leads.refl _ | split | with_reducible refine State.setModel_from _ _ _ ?_
    | with_reducible refine State.modelTo_from _ _ _ ?_ | with_reducible refine State.clampActs_from _ _ ?_

theorem State.portTrip_from {s0 : State} (s : State) (p : Fin 48) (h0 : s0.Leads s) : s0.Leads (State.portTrip s p) := by
  refine State.Leads.trans h0 ?_
  unfold State.portTrip
  repeat' first
    | with_reducible exact State.Leads.refl _
    | with_reducible exact LeadsOut.next _
    | with_reducible apply State.leads_ite
    | with_reducible refine State.onRoomE_from _ _ _ ?_ ?_
    | with_reducible refine State.gangLevel_from _ _ ?_
    | with_reducible exact Room.Keeps.refl _
    | simp only [Room.keeps_mk_eq]
    | with_reducible refine KeepsParts.same _ ?_
    | with_reducible refine KeepsParts.data _ _ _ ?_
    | with_reducible refine KeepsParts.code _ _ _ ?_
    | with_reducible apply Room.keeps_ite
    | with_reducible refine Room.thermTrip_from _ _ ?_
    | split
    | intro _

theorem State.slotTrip_from {s0 : State} (s : State) (b : Fin 6) (h : s0.Leads s) : s0.Leads (State.slotTrip s b) := by
  refine State.Leads.trans h ?_
  unfold State.slotTrip
  try dsimp only
  repeat' first
    | with_reducible exact State.Leads.refl _ | with_reducible apply State.leads_ite
    | with_reducible refine State.onLand_from _ _ _ ?_ | with_reducible refine State.startShed_from _ _ _ ?_

theorem State.panFault_from {s0 : State} (s : State) (f : Field) (h : s0.Leads s) : s0.Leads (State.panFault s f) := by
  refine State.Leads.trans h ?_
  unfold State.panFault
  repeat' first
    | with_reducible exact State.Leads.refl _ | with_reducible refine State.on_from _ _ ?_

theorem State.dieTrip_from {s0 : State} (s : State) (h : s0.Leads s) : s0.Leads (State.dieTrip s) := by
  refine State.Leads.trans h ?_
  unfold State.dieTrip
  try dsimp only
  repeat' first
    | with_reducible refine State.leads_foldl _ _ _ _ ?_ ?_ | with_reducible exact State.Leads.refl _
    | with_reducible apply State.leads_ite | with_reducible refine State.on_from _ _ ?_
    | with_reducible refine State.dropKey_from _ ?_ | with_reducible refine State.portTrip_from _ _ ?_
    | with_reducible refine State.onLand_from _ _ _ ?_ | with_reducible refine State.slotTo_from _ _ _ _ ?_ | intro _

theorem State.warnActs_from {s0 : State} (s : State) (m : Nat) (h : s0.Leads s) : s0.Leads (State.warnActs s m) := by
  refine State.Leads.trans h ?_
  unfold State.warnActs
  repeat' first
    | with_reducible exact State.Leads.refl _ | with_reducible apply State.leads_ite
    | with_reducible refine State.onRoom_from _ _ _ ?_ ?_ | with_reducible refine State.on_from _ _ ?_
    | with_reducible refine State.put_from _ _ _ ?_ | with_reducible refine State.enforce_from _ ?_
    | with_reducible exact Room.Keeps.refl _ | with_reducible refine Room.on_from _ _ ?_ | intro _

theorem State.tripActs_from {s0 : State} (s : State) (m : Nat) (h : s0.Leads s) : s0.Leads (State.tripActs s m) := by
  refine State.Leads.trans h ?_
  unfold State.tripActs
  repeat' first
    | with_reducible exact State.Leads.refl _ | with_reducible apply State.leads_ite
    | with_reducible refine State.portTrip_from _ _ ?_ | with_reducible refine State.slotTrip_from _ _ ?_
    | with_reducible refine State.on_from _ _ ?_ | with_reducible refine State.panFault_from _ _ ?_
    | with_reducible refine State.enforce_from _ ?_ | with_reducible refine State.dieTrip_from _ ?_

theorem State.modelStep_from {s0 : State} (s : State) (m : Nat) (r : ModelRec) (h0 : s0.Leads s) : s0.Leads (State.modelStep s m r) := by
  refine State.Leads.trans h0 ?_
  unfold State.modelStep
  try dsimp only
  repeat' first
    | with_reducible exact State.Leads.refl _
    | with_reducible exact LeadsOut.next _
    | simp only [State.leads_mk_eq]
    | with_reducible refine LeadsParts.same _ ?_
    | with_reducible refine LeadsParts.cellar _ _ ?_ ?_
    | with_reducible refine LeadsParts.attic _ _ ?_ ?_
    | with_reducible refine LeadsParts.porch _ _ ?_ ?_
    | with_reducible refine LeadsParts.hearth _ _ ?_ ?_
    | with_reducible refine LeadsParts.links _ _ ?_ ?_
    | with_reducible refine LeadsParts.tcs _ _ ?_ ?_
    | with_reducible exact fun k => k
    | with_reducible exact fun k => eraseRange_wf _ _ _ k
    | with_reducible exact fun k => progBytes_wf _ _ _ k
    | with_reducible exact fun k => brecWrite_wf _ _ _ k
    | exact Attic.grows_same rfl rfl
    | (simp only [List.length_map, List.length_zipIdx]; exact id)
    | with_reducible apply State.leads_ite
    | split
    | with_reducible refine State.modelTo_from _ _ _ ?_
    | with_reducible refine State.tripActs_from _ _ ?_
    | with_reducible refine State.warnActs_from _ _ ?_
    | with_reducible refine State.clampActs_from _ _ ?_
    | with_reducible refine State.setModel_from _ _ _ ?_
    | with_reducible refine State.clampModel_from _ _ ?_
    | split
    | intro _

theorem State.dieStep_from {s0 : State} (s : State) (r : ModelRec) (h : s0.Leads s) : s0.Leads (State.dieStep s r) := by
  refine State.Leads.trans h ?_
  unfold State.dieStep
  try dsimp only
  repeat' first
    | with_reducible exact State.Leads.refl _ | with_reducible apply State.leads_ite | split
    | with_reducible refine State.setModel_from _ _ _ ?_ | with_reducible refine State.modelTo_from _ _ _ ?_
    | with_reducible refine State.tripActs_from _ _ ?_ | with_reducible refine State.warnActs_from _ _ ?_
    | with_reducible refine State.enforce_from _ ?_

theorem State.updateModel_from {s0 : State} (s : State) (m : Nat) (h : s0.Leads s) : s0.Leads (State.updateModel s m) := by
  refine State.Leads.trans h ?_
  unfold State.updateModel
  try dsimp only
  repeat' first
    | with_reducible exact State.Leads.refl _ | with_reducible apply State.leads_ite | split
    | with_reducible refine State.setModel_from _ _ _ ?_ | with_reducible refine State.showModel_from _ _ ?_
    | with_reducible refine State.dieStep_from _ _ ?_ | with_reducible refine State.modelStep_from _ _ _ ?_

theorem State.startModel_from {s0 : State} (s : State) (m : Nat) (h : s0.Leads s) : s0.Leads (State.startModel s m) := by
  refine State.Leads.trans h ?_
  unfold State.startModel
  try dsimp only
  repeat' first
    | with_reducible exact State.Leads.refl _ | split | with_reducible refine State.setModel_from _ _ _ ?_
    | with_reducible refine State.showModel_from _ _ ?_

theorem State.startHearth_from {s0 : State} (s : State) (h : s0.Leads s) : s0.Leads (State.startHearth s) := by
  refine State.Leads.trans h ?_
  unfold State.startHearth
  repeat' first
    | with_reducible refine State.leads_foldl _ _ _ _ ?_ ?_ | with_reducible exact State.Leads.refl _
    | with_reducible refine State.startModel_from _ _ ?_ | intro _

theorem State.refreshAcks_from {s0 : State} (s : State) (h : s0.Leads s) : s0.Leads (State.refreshAcks s) := by
  refine State.Leads.trans h ?_
  unfold State.refreshAcks
  try dsimp only
  repeat' first
    | with_reducible exact State.Leads.refl _ | simp only [State.leads_mk_eq] | with_reducible refine LeadsParts.same _ ?_
    | with_reducible apply State.leads_ite | with_reducible refine State.put_from _ _ _ ?_
    | with_reducible refine State.off_from _ _ ?_

theorem State.writeMode_from {s0 : State} (s : State) (m src : Nat) (h : s0.Leads s) : s0.Leads (State.writeMode s m src) := by
  refine State.Leads.trans h ?_
  unfold State.writeMode
  try dsimp only
  repeat' first
    | with_reducible exact State.Leads.refl _ | simp only [State.leads_mk_eq] | with_reducible refine LeadsParts.same _ ?_
    | with_reducible refine State.put_from _ _ _ ?_ | with_reducible refine State.on_from _ _ ?_
    | with_reducible refine State.refreshAcks_from _ ?_

theorem State.fireEval_from {s0 : State} (s : State) (h : s0.Leads s) : s0.Leads (State.fireEval s) := by
  refine State.Leads.trans h ?_
  unfold State.fireEval
  repeat' first
    | with_reducible exact State.Leads.refl _ | with_reducible apply State.leads_ite
    | with_reducible refine State.writeMode_from _ _ _ ?_

theorem State.busMode_from {s0 : State} (s : State) (r : Req) (v : Nat) (h0 : s0.Leads s) : s0.Leads (State.busMode s r v) := by
  refine State.Leads.trans h0 ?_
  unfold State.busMode
  try dsimp only
  repeat' first
    | with_reducible exact State.Leads.refl _
    | with_reducible exact LeadsOut.next _
    | with_reducible apply State.leads_ite
    | split
    | with_reducible refine State.accessErr_from _ _ ?_
    | with_reducible refine State.on_from _ _ ?_
    | with_reducible refine State.writeMode_from _ _ _ ?_
    | split
    | intro _

theorem execHallModeWrite_from (r : Req) (mode : Nat) (s : State) : LeadsOut s (execHallModeWrite r mode s) := by
  unfold execHallModeWrite
  repeat' first
    | with_reducible exact State.Leads.refl _ | simp only [State.leads_mk_eq] | with_reducible refine LeadsParts.same _ ?_
    | with_reducible refine State.busMode_from _ _ _ ?_ | with_reducible refine act_from _ _ _ ?_

theorem execModeApply_from (p : Fin 48) (s : State) : LeadsOut s (execModeApply p s) := by
  unfold execModeApply
  try dsimp only
  repeat' first
    | with_reducible exact State.Leads.refl _ | with_reducible refine State.onRoomE_from _ _ _ ?_ ?_
    | with_reducible refine State.refreshAcks_from _ ?_ | with_reducible refine act_from _ _ _ ?_
    | with_reducible exact Room.Keeps.refl _ | with_reducible refine Room.applyMode_from _ _ _ _ ?_ | intro _

theorem execForcedMode_from (b : Fin 6) (s : State) : LeadsOut s (execForcedMode b s) := by
  unfold execForcedMode
  repeat' first
    | with_reducible refine State.leads_foldl _ _ _ _ ?_ ?_ | with_reducible exact State.Leads.refl _
    | with_reducible apply State.leads_ite | with_reducible refine State.onRoomE_from _ _ _ ?_ ?_
    | with_reducible refine State.refreshAcks_from _ ?_ | with_reducible refine act_from _ _ _ ?_
    | with_reducible exact Room.Keeps.refl _ | with_reducible refine Room.applyMode_from _ _ _ _ ?_
    | with_reducible refine Room.fault_from _ _ ?_ | with_reducible refine Room.fallBack_from _ _ ?_ | intro _

theorem execFireN_from (s : State) : LeadsOut s (execFireN s) := by
  unfold execFireN
  try dsimp only
  repeat' first
    | with_reducible exact State.Leads.refl _ | with_reducible apply State.leads_ite
    | with_reducible refine State.on_from _ _ ?_ | with_reducible refine State.fireEval_from _ ?_
    | with_reducible refine act_from _ _ _ ?_

theorem execFireNRelease_from (s : State) : LeadsOut s (execFireNRelease s) := by
  unfold execFireNRelease
  repeat' first
    | with_reducible exact State.Leads.refl _ | with_reducible refine State.off_from _ _ ?_
    | with_reducible refine State.on_from _ _ ?_ | with_reducible refine act_from _ _ _ ?_

theorem State.refreshChg_from {s0 : State} (s : State) (h0 : s0.Leads s) : s0.Leads (State.refreshChg s) := by
  refine State.Leads.trans h0 ?_
  unfold State.refreshChg
  try dsimp only
  repeat' first
    | with_reducible exact State.Leads.refl _
    | with_reducible exact LeadsOut.next _
    | simp only [State.leads_mk_eq]
    | with_reducible refine LeadsParts.same _ ?_
    | with_reducible refine LeadsParts.cellar _ _ ?_ ?_
    | with_reducible refine LeadsParts.attic _ _ ?_ ?_
    | with_reducible refine LeadsParts.porch _ _ ?_ ?_
    | with_reducible refine LeadsParts.hearth _ _ ?_ ?_
    | with_reducible refine LeadsParts.links _ _ ?_ ?_
    | with_reducible refine LeadsParts.tcs _ _ ?_ ?_
    | with_reducible exact fun k => k
    | with_reducible exact fun k => eraseRange_wf _ _ _ k
    | with_reducible exact fun k => progBytes_wf _ _ _ k
    | with_reducible exact fun k => brecWrite_wf _ _ _ k
    | exact Attic.grows_same rfl rfl
    | (simp only [List.length_map, List.length_zipIdx]; exact id)
    | with_reducible apply State.leads_ite
    | with_reducible refine State.put_from _ _ _ ?_
    | with_reducible refine State.onPan_from _ _ ?_
    | split
    | intro _
    | dsimp only

theorem State.askRoot_from {s0 : State} (s : State) (st : Nat) (h : s0.Leads s) : s0.Leads (State.askRoot s st) := by
  refine State.Leads.trans h ?_
  unfold State.askRoot
  try dsimp only
  repeat' first
    | with_reducible exact State.Leads.refl _ | with_reducible refine State.onPan_from _ _ ?_

theorem State.giveBack_from {s0 : State} (s : State) (h : s0.Leads s) : s0.Leads (State.giveBack s) := by
  refine State.Leads.trans h ?_
  unfold State.giveBack
  repeat' first
    | with_reducible exact State.Leads.refl _ | simp only [State.leads_mk_eq] | with_reducible refine LeadsParts.same _ ?_
    | with_reducible refine State.onPan_from _ _ ?_

theorem State.panTo_from {s0 : State} (s : State) (st : Nat) (fresh : Bool) (h0 : s0.Leads s) : s0.Leads (State.panTo s st fresh) := by
  refine State.Leads.trans h0 ?_
  unfold State.panTo
  try dsimp only
  repeat' first
    | with_reducible exact State.Leads.refl _
    | with_reducible exact LeadsOut.next _
    | simp only [State.leads_mk_eq]
    | with_reducible refine LeadsParts.same _ ?_
    | with_reducible refine LeadsParts.cellar _ _ ?_ ?_
    | with_reducible refine LeadsParts.attic _ _ ?_ ?_
    | with_reducible refine LeadsParts.porch _ _ ?_ ?_
    | with_reducible refine LeadsParts.hearth _ _ ?_ ?_
    | with_reducible refine LeadsParts.links _ _ ?_ ?_
    | with_reducible refine LeadsParts.tcs _ _ ?_ ?_
    | with_reducible exact fun k => k
    | with_reducible exact fun k => eraseRange_wf _ _ _ k
    | with_reducible exact fun k => progBytes_wf _ _ _ k
    | with_reducible exact fun k => brecWrite_wf _ _ _ k
    | exact Attic.grows_same rfl rfl
    | (simp only [List.length_map, List.length_zipIdx]; exact id)
    | with_reducible apply State.leads_ite
    | with_reducible refine State.put_from _ _ _ ?_
    | with_reducible refine State.on_from _ _ ?_
    | with_reducible refine State.off_from _ _ ?_
    | with_reducible refine State.onPan_from _ _ ?_
    | with_reducible refine State.askRoot_from _ _ ?_
    | with_reducible refine State.giveBack_from _ ?_
    | with_reducible refine State.refreshChg_from _ ?_
    | split
    | intro _
    | dsimp only

theorem State.qidOff_from {s0 : State} (s : State) (h : s0.Leads s) : s0.Leads (State.qidOff s) := by
  refine State.Leads.trans h ?_
  unfold State.qidOff
  repeat' first
    | with_reducible exact State.Leads.refl _ | with_reducible refine State.off_from _ _ ?_
    | with_reducible refine State.refreshChg_from _ ?_

theorem State.beginBattery_from {s0 : State} (s : State) (h : s0.Leads s) : s0.Leads (State.beginBattery s) := by
  refine State.Leads.trans h ?_
  unfold State.beginBattery
  repeat' first
    | with_reducible exact State.Leads.refl _ | with_reducible apply State.leads_ite
    | with_reducible refine State.on_from _ _ ?_ | with_reducible refine State.onPan_from _ _ ?_
    | with_reducible refine State.enforce_from _ ?_

theorem State.latchPan_from {s0 : State} (s : State) (f : Field) (h : s0.Leads s) : s0.Leads (State.latchPan s f) := by
  refine State.Leads.trans h ?_
  unfold State.latchPan
  try dsimp only
  repeat' first
    | with_reducible exact State.Leads.refl _ | with_reducible apply State.leads_ite
    | with_reducible refine State.panFault_from _ _ ?_ | with_reducible refine State.panTo_from _ _ _ ?_

theorem State.panMeasure_from {s0 : State} (s : State) (m : PanMeas) (h : s0.Leads s) : s0.Leads (State.panMeasure s m) := by
  refine State.Leads.trans h ?_
  unfold State.panMeasure
  try dsimp only
  repeat' first
    | with_reducible exact State.Leads.refl _ | split | with_reducible refine State.put_from _ _ _ ?_
    | with_reducible refine State.putB_from _ _ _ ?_ | with_reducible refine State.onPan_from _ _ ?_
    | with_reducible refine State.refreshChg_from _ ?_

theorem panAct_from (s : State) (m : PanMeas) (f : State → State) (k : ∀ s : State, s.Leads (f s)) :
    LeadsOut s (panAct s m f) := by
  have h := State.panMeasure_from s m (.refl s)
  exact act_from _ _ _ (State.leads_ite _ _ _ (h.trans (k _)) h)

theorem State.panLevels_from {s0 : State} (s : State) (h : s0.Leads s) : s0.Leads (State.panLevels s) := by
  refine State.Leads.trans h ?_
  unfold State.panLevels
  try dsimp only
  repeat' first
    | with_reducible exact State.Leads.refl _ | with_reducible refine State.put_from _ _ _ ?_

theorem execQidOn_from (m : PanMeas) (s : State) : LeadsOut s (execQidOn m s) := by
  unfold execQidOn
  try dsimp only
  repeat' first
    | with_reducible exact State.Leads.refl _ | with_reducible apply State.leads_ite
    | with_reducible refine State.on_from _ _ ?_ | with_reducible refine State.onPan_from _ _ ?_
    | with_reducible refine State.refreshChg_from _ ?_ | with_reducible refine State.beginBattery_from _ ?_
    | (with_reducible refine panAct_from _ _ _ (fun s => ?_))

theorem execIdRevTrip_from (m : PanMeas) (s : State) : LeadsOut s (execIdRevTrip m s) := by
  unfold execIdRevTrip
  repeat' first
    | with_reducible exact State.Leads.refl _ | with_reducible apply State.leads_ite
    | with_reducible refine State.onPan_from _ _ ?_ | with_reducible refine State.qidOff_from _ ?_
    | (with_reducible refine panAct_from _ _ _ (fun s => ?_))

theorem execBatteryOperationBegin_from (m : PanMeas) (s : State) : LeadsOut s (execBatteryOperationBegin m s) := by
  unfold execBatteryOperationBegin
  repeat' first
    | with_reducible exact State.Leads.refl _ | with_reducible apply State.leads_ite
    | with_reducible refine State.beginBattery_from _ ?_ | (with_reducible refine panAct_from _ _ _ (fun s => ?_))

theorem execBatteryMode_from (s : State) : LeadsOut s (execBatteryMode s) := by
  unfold execBatteryMode
  try dsimp only
  repeat' first
    | with_reducible exact State.Leads.refl _ | with_reducible refine State.writeMode_from _ _ _ ?_
    | with_reducible refine State.onPan_from _ _ ?_ | with_reducible refine act_from _ _ _ ?_

theorem State.endBattery_from {s0 : State} (s : State) (h0 : s0.Leads s) : s0.Leads (State.endBattery s) := by
  refine State.Leads.trans h0 ?_
  unfold State.endBattery
  try dsimp only
  repeat' first
    | with_reducible exact State.Leads.refl _
    | with_reducible exact LeadsOut.next _
    | simp only [State.leads_mk_eq]
    | with_reducible refine LeadsParts.same _ ?_
    | with_reducible refine LeadsParts.cellar _ _ ?_ ?_
    | with_reducible refine LeadsParts.attic _ _ ?_ ?_
    | with_reducible refine LeadsParts.porch _ _ ?_ ?_
    | with_reducible refine LeadsParts.hearth _ _ ?_ ?_
    | with_reducible refine LeadsParts.links _ _ ?_ ?_
    | with_reducible refine LeadsParts.tcs _ _ ?_ ?_
    | with_reducible exact fun k => k
    | with_reducible exact fun k => eraseRange_wf _ _ _ k
    | with_reducible exact fun k => progBytes_wf _ _ _ k
    | with_reducible exact fun k => brecWrite_wf _ _ _ k
    | exact Attic.grows_same rfl rfl
    | (simp only [List.length_map, List.length_zipIdx]; exact id)
    | with_reducible apply State.leads_ite
    | split
    | with_reducible refine State.writeMode_from _ _ _ ?_
    | with_reducible refine State.off_from _ _ ?_
    | with_reducible refine State.on_from _ _ ?_
    | with_reducible refine State.onPan_from _ _ ?_
    | with_reducible refine State.panTo_from _ _ _ ?_
    | split
    | intro _
    | dsimp only

theorem execBatteryOperationEnd_from (m : PanMeas) (s : State) : LeadsOut s (execBatteryOperationEnd m s) := by
  unfold execBatteryOperationEnd
  repeat' first
    | with_reducible exact State.Leads.refl _ | with_reducible apply State.leads_ite
    | with_reducible refine State.endBattery_from _ ?_ | (with_reducible refine panAct_from _ _ _ (fun s => ?_))

theorem execVbusInReturn_from (m : PanMeas) (s : State) : LeadsOut s (execVbusInReturn m s) := by
  unfold execVbusInReturn
  repeat' first
    | with_reducible exact State.Leads.refl _ | with_reducible apply State.leads_ite
    | with_reducible refine State.off_from _ _ ?_ | (with_reducible refine panAct_from _ _ _ (fun s => ?_))

theorem State.cutTimer_from {s0 : State} (s : State) (mean : Nat) (h : s0.Leads s) : s0.Leads (State.cutTimer s mean) := by
  refine State.Leads.trans h ?_
  unfold State.cutTimer
  try dsimp only
  repeat' first
    | with_reducible exact State.Leads.refl _ | split | with_reducible refine State.onPan_from _ _ ?_

end Sys2Proof.Machine
end

