-- ==== Sys2Proof/Laws/LeadsB.lean ====
section
/-! SUPPORT. Laws/LeadsB.lean: what the operations and the commands of these files keep: Pantry, Arbiter, Pd, CoreOps, DebugOps, AtticOps, Attic, JournalOps, ResetOps, Hearth. -/

namespace Sys2Proof.Machine

theorem execBatLow_from (mean : Nat) (s : State) : LeadsOut s (execBatLow mean s) := by
  unfold execBatLow
  try dsimp only
  repeat' first
    | with_reducible exact State.Leads.refl _ | with_reducible apply State.leads_ite
    | with_reducible refine State.cutTimer_from _ _ ?_ | with_reducible refine State.on_from _ _ ?_
    | with_reducible refine State.enforce_from _ ?_ | with_reducible refine State.off_from _ _ ?_
    | with_reducible refine act_from _ _ _ ?_

theorem execCutoff_from (mean : Nat) (s : State) : LeadsOut s (execCutoff mean s) := by
  unfold execCutoff
  try dsimp only
  repeat' first
    | with_reducible exact State.Leads.refl _
    | with_reducible exact LeadsOut.next _
    | with_reducible apply State.leads_ite
    | with_reducible apply LeadsOut.ite
    | with_reducible refine LeadsOut.of ?_
    | with_reducible refine LeadsSeq.ok ?_
    | with_reducible refine LeadsSeq.error ?_
    | with_reducible apply LeadsSeq.ite
    | with_reducible refine State.cutTimer_from _ _ ?_
    | with_reducible refine State.on_from _ _ ?_
    | with_reducible refine State.panFault_from _ _ ?_
    | with_reducible refine State.qidOff_from _ ?_
    | with_reducible refine act_from _ _ _ ?_
    | split
    | intro _
    | dsimp only

theorem execBatPresChange_from (present : Bool) (s : State) : LeadsOut s (execBatPresChange present s) := by
  unfold execBatPresChange
  try dsimp only
  repeat' first
    | with_reducible exact State.Leads.refl _ | with_reducible apply State.leads_ite
    | with_reducible refine State.putB_from _ _ _ ?_ | with_reducible refine State.on_from _ _ ?_
    | with_reducible refine State.onPan_from _ _ ?_ | with_reducible refine State.qidOff_from _ ?_
    | with_reducible refine State.panFault_from _ _ ?_ | with_reducible refine State.panTo_from _ _ _ ?_
    | with_reducible refine State.refreshChg_from _ ?_ | with_reducible refine act_from _ _ _ ?_

theorem execPresStable_from (s : State) : LeadsOut s (execPresStable s) := by
  unfold execPresStable
  repeat' first
    | with_reducible exact State.Leads.refl _ | with_reducible refine State.panTo_from _ _ _ ?_
    | with_reducible refine act_from _ _ _ ?_

theorem execQualification_from (mean : Nat) (s : State) : LeadsOut s (execQualification mean s) := by
  unfold execQualification
  try dsimp only
  repeat' first
    | with_reducible exact State.Leads.refl _
    | with_reducible exact LeadsOut.next _
    | simp only [State.leads_mk_eq]
    | with_reducible refine LeadsParts.same _ ?_
    | with_reducible refine LeadsParts.cellar _ _ ?_ ?_
    | with_reducible refine LeadsParts.attic _ _ ?_ ?_
    | with_reducible refine LeadsParts.porch _ _ ?_ ?_
    | with_reducible refine LeadsParts.hearth _ _ ?_ ?_
    | with_reducible refine LeadsParts.links _ _ ?_ ?_
    | with_reducible refine LeadsParts.tcs _ _ ?_ ?_
    | with_reducible exact fun k => k
    | with_reducible exact fun k => eraseRange_wf _ _ _ k
    | with_reducible exact fun k => progBytes_wf _ _ _ k
    | with_reducible exact fun k => brecWrite_wf _ _ _ k
    | exact Attic.grows_same rfl rfl
    | (simp only [List.length_map, List.length_zipIdx]; exact id)
    | with_reducible apply State.leads_ite
    | with_reducible apply LeadsOut.ite
    | with_reducible refine LeadsOut.of ?_
    | with_reducible refine LeadsSeq.ok ?_
    | with_reducible refine LeadsSeq.error ?_
    | with_reducible apply LeadsSeq.ite
    | split
    | with_reducible refine State.onPan_from _ _ ?_
    | with_reducible refine State.latchPan_from _ _ ?_
    | with_reducible refine State.refreshChg_from _ ?_
    | with_reducible refine State.panTo_from _ _ _ ?_
    | with_reducible refine act_from _ _ _ ?_
    | split
    | intro _
    | dsimp only

theorem execPrechargeDone_from (m : PanMeas) (s : State) : LeadsOut s (execPrechargeDone m s) := by
  unfold execPrechargeDone
  repeat' first
    | with_reducible exact State.Leads.refl _ | with_reducible apply State.leads_ite
    | with_reducible refine State.panTo_from _ _ _ ?_ | (with_reducible refine panAct_from _ _ _ (fun s => ?_))

theorem execPreTimeout_from (s : State) : LeadsOut s (execPreTimeout s) := by
  unfold execPreTimeout
  repeat' first
    | with_reducible exact State.Leads.refl _
    | with_reducible exact LeadsOut.next _
    | with_reducible apply State.leads_ite
    | with_reducible apply LeadsOut.ite
    | with_reducible refine LeadsOut.of ?_
    | with_reducible refine LeadsSeq.ok ?_
    | with_reducible refine LeadsSeq.error ?_
    | with_reducible apply LeadsSeq.ite
    | with_reducible refine State.latchPan_from _ _ ?_
    | with_reducible refine act_from _ _ _ ?_
    | split
    | intro _
    | dsimp only

theorem State.terminate_from {s0 : State} (s : State) (cause : Nat) (h : s0.Leads s) : s0.Leads (State.terminate s cause) := by
  refine State.Leads.trans h ?_
  unfold State.terminate
  try dsimp only
  repeat' first
    | with_reducible exact State.Leads.refl _ | with_reducible apply State.leads_ite
    | with_reducible refine State.on_from _ _ ?_ | with_reducible refine State.panTo_from _ _ _ ?_
    | with_reducible refine State.put_from _ _ _ ?_

theorem execNdvWindow_from (mean : Nat) (s : State) : LeadsOut s (execNdvWindow mean s) := by
  unfold execNdvWindow
  try dsimp only
  repeat' first
    | with_reducible exact State.Leads.refl _ | with_reducible apply State.leads_ite
    | with_reducible refine State.onPan_from _ _ ?_ | with_reducible refine State.put_from _ _ _ ?_
    | with_reducible refine State.terminate_from _ _ ?_ | with_reducible refine act_from _ _ _ ?_

theorem execDtdtEvaluation_from (mean : Int) (s : State) : LeadsOut s (execDtdtEvaluation mean s) := by
  unfold execDtdtEvaluation
  try dsimp only
  repeat' first
    | with_reducible exact State.Leads.refl _ | with_reducible apply State.leads_ite | split
    | with_reducible refine State.onPan_from _ _ ?_ | with_reducible refine State.put_from _ _ _ ?_
    | with_reducible refine State.terminate_from _ _ ?_ | with_reducible refine act_from _ _ _ ?_

theorem execSafetyTmr_from (s : State) : LeadsOut s (execSafetyTmr s) := by
  unfold execSafetyTmr
  repeat' first
    | with_reducible exact State.Leads.refl _ | with_reducible refine State.latchPan_from _ _ ?_
    | with_reducible refine act_from _ _ _ ?_

theorem State.ntcConvert_from {s0 : State} (s : State) (uv : Nat) (h : s0.Leads s) : s0.Leads (State.ntcConvert s uv) := by
  refine State.Leads.trans h ?_
  unfold State.ntcConvert
  try dsimp only
  repeat' first
    | with_reducible exact State.Leads.refl _ | simp only [State.leads_mk_eq] | with_reducible apply State.leads_ite | split
    | with_reducible refine State.onPan_from _ _ ?_ | with_reducible refine State.put_from _ _ _ ?_
    | with_reducible refine State.free?_from _ ?_ | with_reducible refine State.putB_from _ _ _ ?_
    | with_reducible refine State.latchPan_from _ _ ?_

theorem execNtcConversion_from (uv : Nat) (s : State) : LeadsOut s (execNtcConversion uv s) := by
  unfold execNtcConversion
  try dsimp only
  repeat' first
    | with_reducible exact State.Leads.refl _ | with_reducible apply State.leads_ite
    | with_reducible refine State.ntcConvert_from _ _ ?_ | with_reducible refine State.terminate_from _ _ ?_
    | with_reducible refine act_from _ _ _ ?_

theorem State.pauseFor_from {s0 : State} (s : State) (cause : Nat) (h : s0.Leads s) : s0.Leads (State.pauseFor s cause) := by
  refine State.Leads.trans h ?_
  unfold State.pauseFor
  try dsimp only
  repeat' first
    | with_reducible exact State.Leads.refl _ | with_reducible apply State.leads_ite
    | with_reducible refine State.panTo_from _ _ _ ?_ | with_reducible refine State.onPan_from _ _ ?_
    | with_reducible refine State.put_from _ _ _ ?_ | with_reducible refine State.on_from _ _ ?_
    | with_reducible refine State.giveBack_from _ ?_

theorem State.resume_from {s0 : State} (s : State) (h0 : s0.Leads s) : s0.Leads (State.resume s) := by
  refine State.Leads.trans h0 ?_
  unfold State.resume
  try dsimp only
  repeat' first
    | with_reducible exact State.Leads.refl _
    | with_reducible exact LeadsOut.next _
    | simp only [State.leads_mk_eq]
    | with_reducible refine LeadsParts.same _ ?_
    | with_reducible refine LeadsParts.cellar _ _ ?_ ?_
    | with_reducible refine LeadsParts.attic _ _ ?_ ?_
    | with_reducible refine LeadsParts.porch _ _ ?_ ?_
    | with_reducible refine LeadsParts.hearth _ _ ?_ ?_
    | with_reducible refine LeadsParts.links _ _ ?_ ?_
    | with_reducible refine LeadsParts.tcs _ _ ?_ ?_
    | with_reducible exact fun k => k
    | with_reducible exact fun k => eraseRange_wf _ _ _ k
    | with_reducible exact fun k => progBytes_wf _ _ _ k
    | with_reducible exact fun k => brecWrite_wf _ _ _ k
    | exact Attic.grows_same rfl rfl
    | (simp only [List.length_map, List.length_zipIdx]; exact id)
    | with_reducible apply State.leads_ite
    | with_reducible refine State.panTo_from _ _ _ ?_
    | with_reducible refine State.onPan_from _ _ ?_
    | with_reducible refine State.off_from _ _ ?_
    | split
    | intro _
    | dsimp only

theorem execPause_from (m : PanMeas) (s : State) : LeadsOut s (execPause m s) := by
  unfold execPause
  try dsimp only
  repeat' first
    | with_reducible exact State.Leads.refl _ | with_reducible apply State.leads_ite
    | with_reducible refine State.pauseFor_from _ _ ?_ | with_reducible refine State.resume_from _ ?_
    | with_reducible refine State.put_from _ _ _ ?_ | with_reducible refine State.on_from _ _ ?_
    | with_reducible refine State.giveBack_from _ ?_ | (with_reducible refine panAct_from _ _ _ (fun s => ?_))

theorem execBudgetPauseRetry_from (s : State) : LeadsOut s (execBudgetPauseRetry s) := by
  unfold execBudgetPauseRetry
  repeat' first
    | with_reducible exact State.Leads.refl _ | with_reducible refine State.askRoot_from _ _ ?_
    | with_reducible refine act_from _ _ _ ?_

theorem State.answerChg_from {s0 : State} (s : State) (h0 : s0.Leads s) : s0.Leads (State.answerChg s) := by
  refine State.Leads.trans h0 ?_
  unfold State.answerChg
  repeat' first
    | with_reducible exact State.Leads.refl _
    | with_reducible exact LeadsOut.next _
    | simp only [State.leads_mk_eq]
    | with_reducible refine LeadsParts.same _ ?_
    | with_reducible refine LeadsParts.cellar _ _ ?_ ?_
    | with_reducible refine LeadsParts.attic _ _ ?_ ?_
    | with_reducible refine LeadsParts.porch _ _ ?_ ?_
    | with_reducible refine LeadsParts.hearth _ _ ?_ ?_
    | with_reducible refine LeadsParts.links _ _ ?_ ?_
    | with_reducible refine LeadsParts.tcs _ _ ?_ ?_
    | with_reducible exact fun k => k
    | with_reducible exact fun k => eraseRange_wf _ _ _ k
    | with_reducible exact fun k => progBytes_wf _ _ _ k
    | with_reducible exact fun k => brecWrite_wf _ _ _ k
    | exact Attic.grows_same rfl rfl
    | (simp only [List.length_map, List.length_zipIdx]; exact id)
    | with_reducible apply State.leads_ite
    | split
    | with_reducible refine State.answerCharger_from _ _ ?_
    | with_reducible refine State.onPan_from _ _ ?_
    | with_reducible refine State.refreshChg_from _ ?_
    | split
    | intro _
    | dsimp only

theorem execPOvTrip_from (s : State) : LeadsOut s (execPOvTrip s) := by
  unfold execPOvTrip
  repeat' first
    | with_reducible exact State.Leads.refl _ | with_reducible refine State.onPan_from _ _ ?_
    | with_reducible refine State.refreshChg_from _ ?_ | with_reducible refine act_from _ _ _ ?_

theorem execChgOv_from (s : State) : LeadsOut s (execChgOv s) := by
  unfold execChgOv
  repeat' first
    | with_reducible exact State.Leads.refl _ | with_reducible refine State.latchPan_from _ _ ?_
    | with_reducible refine act_from _ _ _ ?_

theorem execPPkTrip_from (neg : Bool) (s : State) : LeadsOut s (execPPkTrip neg s) := by
  unfold execPPkTrip
  repeat' first
    | with_reducible exact State.Leads.refl _ | with_reducible refine State.onPan_from _ _ ?_
    | with_reducible refine act_from _ _ _ ?_

theorem execChargerPeriodStart_from (m : PanMeas) (s : State) : LeadsOut s (execChargerPeriodStart m s) := by
  unfold execChargerPeriodStart
  try dsimp only
  repeat' first
    | with_reducible exact State.Leads.refl _ | with_reducible refine State.free?_from _ ?_
    | with_reducible refine State.onPan_from _ _ ?_ | with_reducible refine State.refreshChg_from _ ?_
    | (with_reducible refine panAct_from _ _ _ (fun s => ?_))

theorem execStart_from (s : State) : LeadsOut s (execStart s) := by
  unfold execStart
  repeat' first
    | with_reducible exact State.Leads.refl _ | with_reducible refine State.panTo_from _ _ _ ?_
    | with_reducible refine act_from _ _ _ ?_

theorem State.panRestart_from {s0 : State} (s : State) (h : s0.Leads s) : s0.Leads (State.panRestart s) := by
  refine State.Leads.trans h ?_
  unfold State.panRestart
  try dsimp only
  repeat' first
    | with_reducible exact State.Leads.refl _ | with_reducible apply State.leads_ite
    | with_reducible refine State.onPan_from _ _ ?_ | with_reducible refine State.panTo_from _ _ _ ?_
    | with_reducible refine State.refreshChg_from _ ?_

theorem execRestart_from (m : PanMeas) (s : State) : LeadsOut s (execRestart m s) := by
  unfold execRestart
  repeat' first
    | with_reducible exact State.Leads.refl _ | with_reducible refine State.panRestart_from _ ?_
    | (with_reducible refine panAct_from _ _ _ (fun s => ?_))

theorem execPanEnWrite_from (en : Bool) (s : State) : LeadsOut s (execPanEnWrite en s) := by
  unfold execPanEnWrite
  try dsimp only
  repeat' first
    | with_reducible exact State.Leads.refl _
    | with_reducible exact LeadsOut.next _
    | with_reducible apply State.leads_ite
    | with_reducible apply LeadsOut.ite
    | with_reducible refine LeadsOut.of ?_
    | with_reducible refine LeadsSeq.ok ?_
    | with_reducible refine LeadsSeq.error ?_
    | with_reducible apply LeadsSeq.ite
    | with_reducible refine State.putB_from _ _ _ ?_
    | with_reducible refine State.panTo_from _ _ _ ?_
    | with_reducible refine State.qidOff_from _ ?_
    | with_reducible refine act_from _ _ _ ?_
    | split
    | intro _
    | dsimp only

theorem execLampSlot_from (s : State) : LeadsOut s (execLampSlot s) := by
  unfold execLampSlot
  try dsimp only
  repeat' first
    | with_reducible exact State.Leads.refl _ | simp only [State.leads_mk_eq] | with_reducible refine LeadsParts.same _ ?_
    | with_reducible refine act_from _ _ _ ?_

theorem State.serve_from {s0 : State} (s : State) (a : Ask) (h0 : s0.Leads s) : s0.Leads (State.serve s a) := by
  refine State.Leads.trans h0 ?_
  unfold State.serve
  try dsimp only
  repeat' first
    | with_reducible exact State.Leads.refl _
    | with_reducible exact LeadsOut.next _
    | with_reducible apply State.leads_ite
    | with_reducible refine State.answerAsk_from _ _ ?_
    | with_reducible refine State.answerAttach_from _ _ ?_
    | with_reducible refine State.answerChg_from _ ?_
    | split
    | intro _

theorem State.serveTo_from {s0 : State} (s : State) (a : Ask) (h0 : s0.Leads s) : s0.Leads (State.serveTo s a) := by
  refine State.Leads.trans h0 ?_
  unfold State.serveTo
  repeat' first
    | with_reducible refine State.leads_foldl _ _ _ _ ?_ ?_
    | with_reducible exact State.Leads.refl _
    | with_reducible exact LeadsOut.next _
    | with_reducible apply State.leads_ite
    | with_reducible refine State.serve_from _ _ ?_
    | split
    | intro _

theorem actAsk_from (s : State) (a : Option Ask) : LeadsOut s (actAsk s a) := by
  unfold actAsk
  repeat' first
    | with_reducible exact State.Leads.refl _
    | with_reducible exact LeadsOut.next _
    | simp only [State.leads_mk_eq]
    | with_reducible refine LeadsParts.same _ ?_
    | with_reducible refine LeadsParts.cellar _ _ ?_ ?_
    | with_reducible refine LeadsParts.attic _ _ ?_ ?_
    | with_reducible refine LeadsParts.porch _ _ ?_ ?_
    | with_reducible refine LeadsParts.hearth _ _ ?_ ?_
    | with_reducible refine LeadsParts.links _ _ ?_ ?_
    | with_reducible refine LeadsParts.tcs _ _ ?_ ?_
    | with_reducible exact fun k => k
    | with_reducible exact fun k => eraseRange_wf _ _ _ k
    | with_reducible exact fun k => progBytes_wf _ _ _ k
    | with_reducible exact fun k => brecWrite_wf _ _ _ k
    | exact Attic.grows_same rfl rfl
    | (simp only [List.length_map, List.length_zipIdx]; exact id)
    | with_reducible apply State.leads_ite
    | with_reducible apply LeadsOut.ite
    | with_reducible refine LeadsOut.of ?_
    | with_reducible refine LeadsSeq.ok ?_
    | with_reducible refine LeadsSeq.error ?_
    | with_reducible apply LeadsSeq.ite
    | split
    | with_reducible refine State.serveTo_from _ _ ?_
    | with_reducible refine act_from _ _ _ ?_
    | split
    | intro _
    | dsimp only

theorem execGrantAnswer_from (p : Fin 48) (s : State) : LeadsOut s (execGrantAnswer p s) := by
  unfold execGrantAnswer
  repeat' first
    | with_reducible exact State.Leads.refl _
    | with_reducible exact LeadsOut.next _
    | with_reducible apply State.leads_ite
    | with_reducible apply LeadsOut.ite
    | with_reducible refine LeadsOut.of ?_
    | with_reducible refine LeadsSeq.ok ?_
    | with_reducible refine LeadsSeq.error ?_
    | with_reducible apply LeadsSeq.ite
    | with_reducible refine actAsk_from _ _
    | split
    | intro _

theorem execAttachGrant_from (p : Fin 48) (s : State) : LeadsOut s (execAttachGrant p s) := by
  unfold execAttachGrant
  repeat' first
    | with_reducible exact State.Leads.refl _
    | with_reducible exact LeadsOut.next _
    | with_reducible apply State.leads_ite
    | with_reducible apply LeadsOut.ite
    | with_reducible refine LeadsOut.of ?_
    | with_reducible refine LeadsSeq.ok ?_
    | with_reducible refine LeadsSeq.error ?_
    | with_reducible apply LeadsSeq.ite
    | with_reducible refine actAsk_from _ _
    | split
    | intro _

theorem execChargerGrant_from (s : State) : LeadsOut s (execChargerGrant s) := by
  unfold execChargerGrant
  repeat' first
    | with_reducible exact State.Leads.refl _
    | with_reducible exact LeadsOut.next _
    | with_reducible apply State.leads_ite
    | with_reducible apply LeadsOut.ite
    | with_reducible refine LeadsOut.of ?_
    | with_reducible refine LeadsSeq.ok ?_
    | with_reducible refine LeadsSeq.error ?_
    | with_reducible apply LeadsSeq.ite
    | with_reducible refine actAsk_from _ _
    | split
    | intro _

theorem execMessageReceived_from (p : Fin 48) (os syms : List (Fin 32)) (s : State) : LeadsOut s (execMessageReceived p os syms s) := by
  unfold execMessageReceived
  repeat' first
    | with_reducible exact State.Leads.refl _
    | with_reducible exact LeadsOut.next _
    | simp only [State.leads_mk_eq]
    | with_reducible refine LeadsParts.same _ ?_
    | with_reducible refine LeadsParts.cellar _ _ ?_ ?_
    | with_reducible refine LeadsParts.attic _ _ ?_ ?_
    | with_reducible refine LeadsParts.porch _ _ ?_ ?_
    | with_reducible refine LeadsParts.hearth _ _ ?_ ?_
    | with_reducible refine LeadsParts.links _ _ ?_ ?_
    | with_reducible refine LeadsParts.tcs _ _ ?_ ?_
    | with_reducible exact fun k => k
    | with_reducible exact fun k => eraseRange_wf _ _ _ k
    | with_reducible exact fun k => progBytes_wf _ _ _ k
    | with_reducible exact fun k => brecWrite_wf _ _ _ k
    | exact Attic.grows_same rfl rfl
    | (simp only [List.length_map, List.length_zipIdx]; exact id)
    | with_reducible apply State.leads_ite
    | with_reducible apply LeadsOut.ite
    | with_reducible refine LeadsOut.of ?_
    | with_reducible refine LeadsSeq.ok ?_
    | with_reducible refine LeadsSeq.error ?_
    | with_reducible apply LeadsSeq.ite
    | split
    | with_reducible refine State.onRoomE_from _ _ _ ?_ ?_
    | with_reducible refine act_from _ _ _ ?_
    | with_reducible exact Room.Keeps.refl _
    | simp only [Room.keeps_mk_eq]
    | with_reducible refine KeepsParts.same _ ?_
    | with_reducible refine KeepsParts.data _ _ _ ?_
    | with_reducible refine KeepsParts.code _ _ _ ?_
    | with_reducible apply Room.keeps_ite
    | with_reducible refine Room.packet_from _ _ _ ?_
    | with_reducible refine Room.hardSignal_from _ _ ?_
    | split
    | intro _
    | dsimp only

theorem execPacketTruncated_from (p : Fin 48) (s : State) : LeadsOut s (execPacketTruncated p s) := by
  unfold execPacketTruncated
  repeat' first
    | with_reducible exact State.Leads.refl _
    | with_reducible exact LeadsOut.next _
    | with_reducible apply State.leads_ite
    | with_reducible apply LeadsOut.ite
    | with_reducible refine LeadsOut.of ?_
    | with_reducible refine LeadsSeq.ok ?_
    | with_reducible refine LeadsSeq.error ?_
    | with_reducible apply LeadsSeq.ite
    | with_reducible refine State.onRoomE_from _ _ _ ?_ ?_
    | with_reducible refine act_from _ _ _ ?_
    | with_reducible exact Room.Keeps.refl _
    | simp only [Room.keeps_mk_eq]
    | with_reducible refine KeepsParts.same _ ?_
    | with_reducible refine KeepsParts.data _ _ _ ?_
    | with_reducible refine KeepsParts.code _ _ _ ?_
    | with_reducible apply Room.keeps_ite
    | with_reducible refine Room.discard_from _ _ _ ?_
    | split
    | intro _
    | dsimp only

theorem execGoodcrc_from (p : Fin 48) (tr : Nat) (s : State) : LeadsOut s (execGoodcrc p tr s) := by
  unfold execGoodcrc
  try dsimp only
  repeat' first
    | with_reducible exact State.Leads.refl _
    | with_reducible exact LeadsOut.next _
    | simp only [State.leads_mk_eq]
    | with_reducible refine LeadsParts.same _ ?_
    | with_reducible refine LeadsParts.cellar _ _ ?_ ?_
    | with_reducible refine LeadsParts.attic _ _ ?_ ?_
    | with_reducible refine LeadsParts.porch _ _ ?_ ?_
    | with_reducible refine LeadsParts.hearth _ _ ?_ ?_
    | with_reducible refine LeadsParts.links _ _ ?_ ?_
    | with_reducible refine LeadsParts.tcs _ _ ?_ ?_
    | with_reducible exact fun k => k
    | with_reducible exact fun k => eraseRange_wf _ _ _ k
    | with_reducible exact fun k => progBytes_wf _ _ _ k
    | with_reducible exact fun k => brecWrite_wf _ _ _ k
    | exact Attic.grows_same rfl rfl
    | (simp only [List.length_map, List.length_zipIdx]; exact id)
    | with_reducible apply State.leads_ite
    | with_reducible apply LeadsOut.ite
    | with_reducible refine LeadsOut.of ?_
    | with_reducible refine LeadsSeq.ok ?_
    | with_reducible refine LeadsSeq.error ?_
    | with_reducible apply LeadsSeq.ite
    | split
    | with_reducible refine State.onRoom_from _ _ _ ?_ ?_
    | with_reducible refine act_from _ _ _ ?_
    | with_reducible exact Room.Keeps.refl _
    | simp only [Room.keeps_mk_eq]
    | with_reducible refine KeepsParts.same _ ?_
    | with_reducible refine KeepsParts.data _ _ _ ?_
    | with_reducible refine KeepsParts.code _ _ _ ?_
    | with_reducible apply Room.keeps_ite
    | with_reducible refine Room.onPd_from _ _ ?_
    | split
    | intro _
    | dsimp only

theorem execMessageDelivered_from (p : Fin 48) (s : State) : LeadsOut s (execMessageDelivered p s) := by
  unfold execMessageDelivered
  try dsimp only
  repeat' first
    | with_reducible exact State.Leads.refl _ | split | with_reducible refine State.onRoomE_from _ _ _ ?_ ?_
    | with_reducible refine act_from _ _ _ ?_ | with_reducible exact Room.Keeps.refl _
    | with_reducible refine Room.deliver_from _ _ _ _ ?_ | intro _

theorem execGoodcrcReceived_from (p : Fin 48) (sop : Fin 3) (id : Fin 8) (s : State) : LeadsOut s (execGoodcrcReceived p sop id s) := by
  unfold execGoodcrcReceived
  repeat' first
    | with_reducible exact State.Leads.refl _
    | with_reducible exact LeadsOut.next _
    | with_reducible apply State.leads_ite
    | with_reducible apply LeadsOut.ite
    | with_reducible refine LeadsOut.of ?_
    | with_reducible refine LeadsSeq.ok ?_
    | with_reducible refine LeadsSeq.error ?_
    | with_reducible apply LeadsSeq.ite
    | with_reducible refine State.onRoomE_from _ _ _ ?_ ?_
    | with_reducible refine act_from _ _ _ ?_
    | with_reducible exact Room.Keeps.refl _
    | simp only [Room.keeps_mk_eq]
    | with_reducible refine KeepsParts.same _ ?_
    | with_reducible refine KeepsParts.data _ _ _ ?_
    | with_reducible refine KeepsParts.code _ _ _ ?_
    | with_reducible apply Room.keeps_ite
    | with_reducible refine Room.observeAck_from _ _ _ _ ?_
    | with_reducible refine Room.heard_from _ _ _ ?_
    | with_reducible refine Room.goodCrc_from _ _ _ _ ?_
    | split
    | intro _
    | dsimp only

theorem execTransmitStart_from (p : Fin 48) (tr : Nat) (s : State) : LeadsOut s (execTransmitStart p tr s) := by
  unfold execTransmitStart
  repeat' first
    | with_reducible exact State.Leads.refl _
    | with_reducible exact LeadsOut.next _
    | with_reducible apply State.leads_ite
    | with_reducible apply LeadsOut.ite
    | with_reducible refine LeadsOut.of ?_
    | with_reducible refine LeadsSeq.ok ?_
    | with_reducible refine LeadsSeq.error ?_
    | with_reducible apply LeadsSeq.ite
    | with_reducible refine State.onRoomE_from _ _ _ ?_ ?_
    | with_reducible refine act_from _ _ _ ?_
    | with_reducible exact Room.Keeps.refl _
    | simp only [Room.keeps_mk_eq]
    | with_reducible refine KeepsParts.same _ ?_
    | with_reducible refine KeepsParts.data _ _ _ ?_
    | with_reducible refine KeepsParts.code _ _ _ ?_
    | with_reducible apply Room.keeps_ite
    | with_reducible refine Room.startTx_from _ _ ?_
    | split
    | intro _
    | dsimp only

theorem execTransmitEnd_from (p : Fin 48) (s : State) : LeadsOut s (execTransmitEnd p s) := by
  unfold execTransmitEnd
  try dsimp only
  repeat' first
    | with_reducible exact State.Leads.refl _
    | with_reducible exact LeadsOut.next _
    | simp only [State.leads_mk_eq]
    | with_reducible refine LeadsParts.same _ ?_
    | with_reducible refine LeadsParts.cellar _ _ ?_ ?_
    | with_reducible refine LeadsParts.attic _ _ ?_ ?_
    | with_reducible refine LeadsParts.porch _ _ ?_ ?_
    | with_reducible refine LeadsParts.hearth _ _ ?_ ?_
    | with_reducible refine LeadsParts.links _ _ ?_ ?_
    | with_reducible refine LeadsParts.tcs _ _ ?_ ?_
    | with_reducible exact fun k => k
    | with_reducible exact fun k => eraseRange_wf _ _ _ k
    | with_reducible exact fun k => progBytes_wf _ _ _ k
    | with_reducible exact fun k => brecWrite_wf _ _ _ k
    | exact Attic.grows_same rfl rfl
    | (simp only [List.length_map, List.length_zipIdx]; exact id)
    | with_reducible apply State.leads_ite
    | with_reducible apply LeadsOut.ite
    | with_reducible refine LeadsOut.of ?_
    | with_reducible refine LeadsSeq.ok ?_
    | with_reducible refine LeadsSeq.error ?_
    | with_reducible apply LeadsSeq.ite
    | split
    | with_reducible refine State.onRoomE_from _ _ _ ?_ ?_
    | with_reducible refine act_from _ _ _ ?_
    | with_reducible exact Room.Keeps.refl _
    | simp only [Room.keeps_mk_eq]
    | with_reducible refine KeepsParts.same _ ?_
    | with_reducible refine KeepsParts.data _ _ _ ?_
    | with_reducible refine KeepsParts.code _ _ _ ?_
    | with_reducible apply Room.keeps_ite
    | with_reducible refine Room.onPd_from _ _ ?_
    | with_reducible refine Room.cableDue_from _ _ ?_
    | split
    | intro _
    | dsimp only

theorem execTreceive_from (p : Fin 48) (s : State) : LeadsOut s (execTreceive p s) := by
  unfold execTreceive
  repeat' first
    | with_reducible exact State.Leads.refl _
    | with_reducible exact LeadsOut.next _
    | simp only [State.leads_mk_eq]
    | with_reducible refine LeadsParts.same _ ?_
    | with_reducible refine LeadsParts.cellar _ _ ?_ ?_
    | with_reducible refine LeadsParts.attic _ _ ?_ ?_
    | with_reducible refine LeadsParts.porch _ _ ?_ ?_
    | with_reducible refine LeadsParts.hearth _ _ ?_ ?_
    | with_reducible refine LeadsParts.links _ _ ?_ ?_
    | with_reducible refine LeadsParts.tcs _ _ ?_ ?_
    | with_reducible exact fun k => k
    | with_reducible exact fun k => eraseRange_wf _ _ _ k
    | with_reducible exact fun k => progBytes_wf _ _ _ k
    | with_reducible exact fun k => brecWrite_wf _ _ _ k
    | exact Attic.grows_same rfl rfl
    | (simp only [List.length_map, List.length_zipIdx]; exact id)
    | with_reducible apply State.leads_ite
    | with_reducible apply LeadsOut.ite
    | with_reducible refine LeadsOut.of ?_
    | with_reducible refine LeadsSeq.ok ?_
    | with_reducible refine LeadsSeq.error ?_
    | with_reducible apply LeadsSeq.ite
    | split
    | with_reducible refine State.onRoomE_from _ _ _ ?_ ?_
    | with_reducible refine act_from _ _ _ ?_
    | with_reducible exact Room.Keeps.refl _
    | simp only [Room.keeps_mk_eq]
    | with_reducible refine KeepsParts.same _ ?_
    | with_reducible refine KeepsParts.data _ _ _ ?_
    | with_reducible refine KeepsParts.code _ _ _ ?_
    | with_reducible apply Room.keeps_ite
    | with_reducible refine Room.onPd_from _ _ ?_
    | with_reducible refine Room.failed_from _ _ _ ?_
    | split
    | intro _
    | dsimp only

theorem execRetransmit_from (p : Fin 48) (tr : Nat) (s : State) : LeadsOut s (execRetransmit p tr s) := by
  unfold execRetransmit
  try dsimp only
  repeat' first
    | with_reducible exact State.Leads.refl _
    | with_reducible exact LeadsOut.next _
    | simp only [State.leads_mk_eq]
    | with_reducible refine LeadsParts.same _ ?_
    | with_reducible refine LeadsParts.cellar _ _ ?_ ?_
    | with_reducible refine LeadsParts.attic _ _ ?_ ?_
    | with_reducible refine LeadsParts.porch _ _ ?_ ?_
    | with_reducible refine LeadsParts.hearth _ _ ?_ ?_
    | with_reducible refine LeadsParts.links _ _ ?_ ?_
    | with_reducible refine LeadsParts.tcs _ _ ?_ ?_
    | with_reducible exact fun k => k
    | with_reducible exact fun k => eraseRange_wf _ _ _ k
    | with_reducible exact fun k => progBytes_wf _ _ _ k
    | with_reducible exact fun k => brecWrite_wf _ _ _ k
    | exact Attic.grows_same rfl rfl
    | (simp only [List.length_map, List.length_zipIdx]; exact id)
    | with_reducible apply State.leads_ite
    | with_reducible apply LeadsOut.ite
    | with_reducible refine LeadsOut.of ?_
    | with_reducible refine LeadsSeq.ok ?_
    | with_reducible refine LeadsSeq.error ?_
    | with_reducible apply LeadsSeq.ite
    | split
    | with_reducible refine State.onRoomE_from _ _ _ ?_ ?_
    | with_reducible refine State.put_from _ _ _ ?_
    | with_reducible refine act_from _ _ _ ?_
    | with_reducible exact Room.Keeps.refl _
    | simp only [Room.keeps_mk_eq]
    | with_reducible refine KeepsParts.same _ ?_
    | with_reducible refine KeepsParts.data _ _ _ ?_
    | with_reducible refine KeepsParts.code _ _ _ ?_
    | with_reducible apply Room.keeps_ite
    | with_reducible refine Room.onPd_from _ _ ?_
    | with_reducible refine Room.put_from _ _ _ ?_
    | split
    | intro _
    | dsimp only

theorem execTsenderresponse_from (p : Fin 48) (s : State) : LeadsOut s (execTsenderresponse p s) := by
  unfold execTsenderresponse
  try dsimp only
  repeat' first
    | with_reducible exact State.Leads.refl _ | with_reducible refine State.onRoomE_from _ _ _ ?_ ?_
    | with_reducible refine act_from _ _ _ ?_ | with_reducible exact Room.Keeps.refl _ | with_reducible apply Room.keeps_ite
    | with_reducible refine Room.onPd_from _ _ ?_ | with_reducible refine Room.hardResetCause_from _ _ ?_ | intro _

theorem execTsinktx_from (p : Fin 48) (s : State) : LeadsOut s (execTsinktx p s) := by
  unfold execTsinktx
  repeat' first
    | with_reducible exact State.Leads.refl _ | with_reducible refine State.onRoom_from _ _ _ ?_ ?_
    | with_reducible refine act_from _ _ _ ?_ | with_reducible exact Room.Keeps.refl _
    | with_reducible refine Room.put_from _ _ _ ?_ | intro _

theorem execTamsidle_from (p : Fin 48) (s : State) : LeadsOut s (execTamsidle p s) := by
  unfold execTamsidle
  repeat' first
    | with_reducible exact State.Leads.refl _
    | with_reducible exact LeadsOut.next _
    | with_reducible apply State.leads_ite
    | with_reducible apply LeadsOut.ite
    | with_reducible refine LeadsOut.of ?_
    | with_reducible refine LeadsSeq.ok ?_
    | with_reducible refine LeadsSeq.error ?_
    | with_reducible apply LeadsSeq.ite
    | with_reducible refine State.onRoomE_from _ _ _ ?_ ?_
    | with_reducible refine act_from _ _ _ ?_
    | with_reducible exact Room.Keeps.refl _
    | simp only [Room.keeps_mk_eq]
    | with_reducible refine KeepsParts.same _ ?_
    | with_reducible refine KeepsParts.data _ _ _ ?_
    | with_reducible refine KeepsParts.code _ _ _ ?_
    | with_reducible apply Room.keeps_ite
    | with_reducible refine Room.sinkTxOk_from _ _ ?_
    | split
    | intro _
    | dsimp only

theorem execAmsEnd_from (p : Fin 48) (s : State) : LeadsOut s (execAmsEnd p s) := by
  unfold execAmsEnd
  repeat' first
    | with_reducible exact State.Leads.refl _
    | with_reducible exact LeadsOut.next _
    | with_reducible apply State.leads_ite
    | with_reducible apply LeadsOut.ite
    | with_reducible refine LeadsOut.of ?_
    | with_reducible refine LeadsSeq.ok ?_
    | with_reducible refine LeadsSeq.error ?_
    | with_reducible apply LeadsSeq.ite
    | with_reducible refine State.onRoomE_from _ _ _ ?_ ?_
    | with_reducible refine act_from _ _ _ ?_
    | with_reducible exact Room.Keeps.refl _
    | simp only [Room.keeps_mk_eq]
    | with_reducible refine KeepsParts.same _ ?_
    | with_reducible refine KeepsParts.data _ _ _ ?_
    | with_reducible refine KeepsParts.code _ _ _ ?_
    | with_reducible apply Room.keeps_ite
    | with_reducible refine Room.sinkTxOk_from _ _ ?_
    | split
    | intro _
    | dsimp only

theorem execTxRelease_from (p : Fin 48) (s : State) : LeadsOut s (execTxRelease p s) := by
  unfold execTxRelease
  repeat' first
    | with_reducible exact State.Leads.refl _ | split | with_reducible refine State.onRoomE_from _ _ _ ?_ ?_
    | with_reducible refine act_from _ _ _ ?_ | with_reducible exact Room.Keeps.refl _
    | with_reducible refine Room.queueTx_from _ _ _ ?_ | intro _

theorem execTxWithdraw_from (p : Fin 48) (s : State) : LeadsOut s (execTxWithdraw p s) := by
  unfold execTxWithdraw
  repeat' first
    | with_reducible exact State.Leads.refl _ | with_reducible refine State.onRoom_from _ _ _ ?_ ?_
    | with_reducible refine act_from _ _ _ ?_ | with_reducible exact Room.Keeps.refl _
    | with_reducible refine Room.txEnd_from _ _ ?_ | intro _

theorem execRxPop_from (p : Fin 48) (s : State) : LeadsOut s (execRxPop p s) := by
  unfold execRxPop
  repeat' first
    | with_reducible exact State.Leads.refl _ | with_reducible refine State.onRoom_from _ _ _ ?_ ?_
    | with_reducible refine act_from _ _ _ ?_ | with_reducible exact Room.Keeps.refl _
    | with_reducible refine Room.onPd_from _ _ ?_ | with_reducible refine Room.showRx_from _ ?_ | intro _

theorem execVdmPop_from (p : Fin 48) (s : State) : LeadsOut s (execVdmPop p s) := by
  unfold execVdmPop
  repeat' first
    | with_reducible exact State.Leads.refl _ | with_reducible refine State.onRoom_from _ _ _ ?_ ?_
    | with_reducible refine act_from _ _ _ ?_ | with_reducible exact Room.Keeps.refl _
    | with_reducible refine Room.onPd_from _ _ ?_ | with_reducible refine Room.showRx_from _ ?_ | intro _

theorem execHardReset_from (p : Fin 48) (s : State) : LeadsOut s (execHardReset p s) := by
  unfold execHardReset
  repeat' first
    | with_reducible exact State.Leads.refl _ | with_reducible refine State.onRoomE_from _ _ _ ?_ ?_
    | with_reducible refine act_from _ _ _ ?_ | with_reducible exact Room.Keeps.refl _
    | with_reducible refine Room.hardResetCause_from _ _ ?_ | intro _

theorem execCableReset_from (p : Fin 48) (s : State) : LeadsOut s (execCableReset p s) := by
  unfold execCableReset
  repeat' first
    | with_reducible exact State.Leads.refl _
    | with_reducible exact LeadsOut.next _
    | simp only [State.leads_mk_eq]
    | with_reducible refine LeadsParts.same _ ?_
    | with_reducible refine LeadsParts.cellar _ _ ?_ ?_
    | with_reducible refine LeadsParts.attic _ _ ?_ ?_
    | with_reducible refine LeadsParts.porch _ _ ?_ ?_
    | with_reducible refine LeadsParts.hearth _ _ ?_ ?_
    | with_reducible refine LeadsParts.links _ _ ?_ ?_
    | with_reducible refine LeadsParts.tcs _ _ ?_ ?_
    | with_reducible exact fun k => k
    | with_reducible exact fun k => eraseRange_wf _ _ _ k
    | with_reducible exact fun k => progBytes_wf _ _ _ k
    | with_reducible exact fun k => brecWrite_wf _ _ _ k
    | exact Attic.grows_same rfl rfl
    | (simp only [List.length_map, List.length_zipIdx]; exact id)
    | with_reducible apply State.leads_ite
    | with_reducible apply LeadsOut.ite
    | with_reducible refine LeadsOut.of ?_
    | with_reducible refine LeadsSeq.ok ?_
    | with_reducible refine LeadsSeq.error ?_
    | with_reducible apply LeadsSeq.ite
    | with_reducible refine State.onRoomE_from _ _ _ ?_ ?_
    | with_reducible refine act_from _ _ _ ?_
    | with_reducible exact Room.Keeps.refl _
    | simp only [Room.keeps_mk_eq]
    | with_reducible refine KeepsParts.same _ ?_
    | with_reducible refine KeepsParts.data _ _ _ ?_
    | with_reducible refine KeepsParts.code _ _ _ ?_
    | with_reducible apply Room.keeps_ite
    | with_reducible refine Room.onPd_from _ _ ?_
    | with_reducible refine Room.cableDue_from _ _ ?_
    | split
    | intro _
    | dsimp only

theorem execCableDisc_from (p : Fin 48) (s : State) : LeadsOut s (execCableDisc p s) := by
  unfold execCableDisc
  repeat' first
    | with_reducible exact State.Leads.refl _ | with_reducible refine State.onRoomE_from _ _ _ ?_ ?_
    | with_reducible refine act_from _ _ _ ?_ | with_reducible exact Room.Keeps.refl _
    | with_reducible refine Room.discover_from _ _ _ ?_ | intro _

theorem execCableDiscoveryStart_from (p : Fin 48) (s : State) : LeadsOut s (execCableDiscoveryStart p s) := by
  unfold execCableDiscoveryStart
  try dsimp only
  repeat' first
    | with_reducible exact State.Leads.refl _ | with_reducible refine State.onRoomE_from _ _ _ ?_ ?_
    | with_reducible refine act_from _ _ _ ?_ | with_reducible exact Room.Keeps.refl _
    | with_reducible refine Room.discover_from _ _ _ ?_ | intro _

theorem execCableResponseTimeout_from (p : Fin 48) (s : State) : LeadsOut s (execCableResponseTimeout p s) := by
  unfold execCableResponseTimeout
  repeat' first
    | with_reducible exact State.Leads.refl _ | with_reducible refine State.onRoom_from _ _ _ ?_ ?_
    | with_reducible refine act_from _ _ _ ?_ | with_reducible exact Room.Keeps.refl _
    | with_reducible refine Room.onPd_from _ _ ?_ | intro _

theorem execCableDiscoveryAttempt_from (p : Fin 48) (s : State) : LeadsOut s (execCableDiscoveryAttempt p s) := by
  unfold execCableDiscoveryAttempt
  try dsimp only
  repeat' first
    | with_reducible exact State.Leads.refl _ | with_reducible refine State.onRoomE_from _ _ _ ?_ ?_
    | with_reducible refine act_from _ _ _ ?_ | with_reducible exact Room.Keeps.refl _ | with_reducible apply Room.keeps_ite
    | with_reducible refine Room.discover_from _ _ _ ?_ | with_reducible refine Room.put_from _ _ _ ?_
    | with_reducible refine Room.on_from _ _ ?_ | with_reducible refine Room.refreshCable_from _ _ ?_ | intro _

theorem execHvdmSend_from (p : Fin 48) (s : State) : LeadsOut s (execHvdmSend p s) := by
  unfold execHvdmSend
  try dsimp only
  repeat' first
    | with_reducible exact State.Leads.refl _ | with_reducible refine State.onRoomE_from _ _ _ ?_ ?_
    | with_reducible refine act_from _ _ _ ?_ | with_reducible exact Room.Keeps.refl _ | with_reducible apply Room.keeps_ite
    | with_reducible refine Room.put_from _ _ _ ?_ | with_reducible refine Room.onPd_from _ _ ?_
    | with_reducible refine Room.sinkTxNg_from _ _ ?_ | with_reducible refine Room.on_from _ _ ?_ | intro _

theorem execChunkRequest_from (p : Fin 48) (tr : Nat) (s : State) : LeadsOut s (execChunkRequest p tr s) := by
  unfold execChunkRequest
  repeat' first
    | with_reducible exact State.Leads.refl _
    | with_reducible exact LeadsOut.next _
    | with_reducible apply State.leads_ite
    | with_reducible apply LeadsOut.ite
    | with_reducible refine LeadsOut.of ?_
    | with_reducible refine LeadsSeq.ok ?_
    | with_reducible refine LeadsSeq.error ?_
    | with_reducible apply LeadsSeq.ite
    | with_reducible refine State.onRoomE_from _ _ _ ?_ ?_
    | with_reducible refine act_from _ _ _ ?_
    | with_reducible exact Room.Keeps.refl _
    | simp only [Room.keeps_mk_eq]
    | with_reducible refine KeepsParts.same _ ?_
    | with_reducible refine KeepsParts.data _ _ _ ?_
    | with_reducible refine KeepsParts.code _ _ _ ?_
    | with_reducible apply Room.keeps_ite
    | with_reducible refine Room.startAuto_from _ _ _ ?_
    | split
    | intro _
    | dsimp only

theorem execTchunksenderrequest_from (p : Fin 48) (s : State) : LeadsOut s (execTchunksenderrequest p s) := by
  unfold execTchunksenderrequest
  try dsimp only
  repeat' first
    | with_reducible exact State.Leads.refl _
    | with_reducible exact LeadsOut.next _
    | simp only [State.leads_mk_eq]
    | with_reducible refine LeadsParts.same _ ?_
    | with_reducible refine LeadsParts.cellar _ _ ?_ ?_
    | with_reducible refine LeadsParts.attic _ _ ?_ ?_
    | with_reducible refine LeadsParts.porch _ _ ?_ ?_
    | with_reducible refine LeadsParts.hearth _ _ ?_ ?_
    | with_reducible refine LeadsParts.links _ _ ?_ ?_
    | with_reducible refine LeadsParts.tcs _ _ ?_ ?_
    | with_reducible exact fun k => k
    | with_reducible exact fun k => eraseRange_wf _ _ _ k
    | with_reducible exact fun k => progBytes_wf _ _ _ k
    | with_reducible exact fun k => brecWrite_wf _ _ _ k
    | exact Attic.grows_same rfl rfl
    | (simp only [List.length_map, List.length_zipIdx]; exact id)
    | with_reducible apply State.leads_ite
    | with_reducible apply LeadsOut.ite
    | with_reducible refine LeadsOut.of ?_
    | with_reducible refine LeadsSeq.ok ?_
    | with_reducible refine LeadsSeq.error ?_
    | with_reducible apply LeadsSeq.ite
    | with_reducible refine State.onRoomE_from _ _ _ ?_ ?_
    | with_reducible refine State.on_from _ _ ?_
    | with_reducible refine act_from _ _ _ ?_
    | with_reducible exact Room.Keeps.refl _
    | simp only [Room.keeps_mk_eq]
    | with_reducible refine KeepsParts.same _ ?_
    | with_reducible refine KeepsParts.data _ _ _ ?_
    | with_reducible refine KeepsParts.code _ _ _ ?_
    | with_reducible apply Room.keeps_ite
    | with_reducible refine Room.txEnd_from _ _ ?_
    | with_reducible refine Room.on_from _ _ ?_
    | with_reducible refine Room.onPd_from _ _ ?_
    | split
    | intro _
    | dsimp only

theorem execTchunksenderresponse_from (p : Fin 48) (s : State) : LeadsOut s (execTchunksenderresponse p s) := by
  unfold execTchunksenderresponse
  repeat' first
    | with_reducible exact State.Leads.refl _
    | with_reducible exact LeadsOut.next _
    | with_reducible apply State.leads_ite
    | with_reducible apply LeadsOut.ite
    | with_reducible refine LeadsOut.of ?_
    | with_reducible refine LeadsSeq.ok ?_
    | with_reducible refine LeadsSeq.error ?_
    | with_reducible apply LeadsSeq.ite
    | with_reducible refine State.onRoom_from _ _ _ ?_ ?_
    | with_reducible refine act_from _ _ _ ?_
    | with_reducible exact Room.Keeps.refl _
    | simp only [Room.keeps_mk_eq]
    | with_reducible refine KeepsParts.same _ ?_
    | with_reducible refine KeepsParts.data _ _ _ ?_
    | with_reducible refine KeepsParts.code _ _ _ ?_
    | with_reducible apply Room.keeps_ite
    | with_reducible refine Room.dropPartial_from _ ?_
    | split
    | intro _
    | dsimp only

theorem execAutomaticReply_from (p : Fin 48) (tr : Nat) (s : State) : LeadsOut s (execAutomaticReply p tr s) := by
  unfold execAutomaticReply
  repeat' first
    | with_reducible exact State.Leads.refl _
    | with_reducible exact LeadsOut.next _
    | with_reducible apply State.leads_ite
    | with_reducible apply LeadsOut.ite
    | with_reducible refine LeadsOut.of ?_
    | with_reducible refine LeadsSeq.ok ?_
    | with_reducible refine LeadsSeq.error ?_
    | with_reducible apply LeadsSeq.ite
    | with_reducible refine State.onRoomE_from _ _ _ ?_ ?_
    | with_reducible refine State.reply_from _ _ _ ?_
    | with_reducible refine act_from _ _ _ ?_
    | with_reducible exact Room.Keeps.refl _
    | simp only [Room.keeps_mk_eq]
    | with_reducible refine KeepsParts.same _ ?_
    | with_reducible refine KeepsParts.data _ _ _ ?_
    | with_reducible refine KeepsParts.code _ _ _ ?_
    | with_reducible apply Room.keeps_ite
    | with_reducible refine Room.startAuto_from _ _ _ ?_
    | split
    | intro _
    | dsimp only

theorem execBistCarrierEnd_from (p : Fin 48) (s : State) : LeadsOut s (execBistCarrierEnd p s) := by
  unfold execBistCarrierEnd
  repeat' first
    | with_reducible exact State.Leads.refl _
    | with_reducible exact LeadsOut.next _
    | simp only [State.leads_mk_eq]
    | with_reducible refine LeadsParts.same _ ?_
    | with_reducible refine LeadsParts.cellar _ _ ?_ ?_
    | with_reducible refine LeadsParts.attic _ _ ?_ ?_
    | with_reducible refine LeadsParts.porch _ _ ?_ ?_
    | with_reducible refine LeadsParts.hearth _ _ ?_ ?_
    | with_reducible refine LeadsParts.links _ _ ?_ ?_
    | with_reducible refine LeadsParts.tcs _ _ ?_ ?_
    | with_reducible exact fun k => k
    | with_reducible exact fun k => eraseRange_wf _ _ _ k
    | with_reducible exact fun k => progBytes_wf _ _ _ k
    | with_reducible exact fun k => brecWrite_wf _ _ _ k
    | exact Attic.grows_same rfl rfl
    | (simp only [List.length_map, List.length_zipIdx]; exact id)
    | with_reducible apply State.leads_ite
    | with_reducible apply LeadsOut.ite
    | with_reducible refine LeadsOut.of ?_
    | with_reducible refine LeadsSeq.ok ?_
    | with_reducible refine LeadsSeq.error ?_
    | with_reducible apply LeadsSeq.ite
    | with_reducible refine State.onRoomE_from _ _ _ ?_ ?_
    | with_reducible refine act_from _ _ _ ?_
    | with_reducible exact Room.Keeps.refl _
    | simp only [Room.keeps_mk_eq]
    | with_reducible refine KeepsParts.same _ ?_
    | with_reducible refine KeepsParts.data _ _ _ ?_
    | with_reducible refine KeepsParts.code _ _ _ ?_
    | with_reducible apply Room.keeps_ite
    | with_reducible refine Room.onPd_from _ _ ?_
    | with_reducible refine Room.cableDue_from _ _ ?_
    | split
    | intro _
    | dsimp only

theorem execEprKeepalive_from (p : Fin 48) (s : State) : LeadsOut s (execEprKeepalive p s) := by
  unfold execEprKeepalive
  try dsimp only
  repeat' first
    | with_reducible exact State.Leads.refl _ | with_reducible refine State.onRoom_from _ _ _ ?_ ?_
    | with_reducible refine act_from _ _ _ ?_ | with_reducible exact Room.Keeps.refl _
    | with_reducible refine Room.say_from _ _ ?_ | intro _

theorem execKaMiss_from (p : Fin 48) (s : State) : LeadsOut s (execKaMiss p s) := by
  unfold execKaMiss
  repeat' first
    | with_reducible exact State.Leads.refl _ | with_reducible refine State.onRoom_from _ _ _ ?_ ?_
    | with_reducible refine act_from _ _ _ ?_ | with_reducible exact Room.Keeps.refl _
    | with_reducible refine Room.onPd_from _ _ ?_ | with_reducible refine Room.on_from _ _ ?_ | intro _

theorem execEprSourceTimeout_from (p : Fin 48) (s : State) : LeadsOut s (execEprSourceTimeout p s) := by
  unfold execEprSourceTimeout
  try dsimp only
  repeat' first
    | with_reducible exact State.Leads.refl _ | with_reducible refine State.onRoomE_from _ _ _ ?_ ?_
    | with_reducible refine act_from _ _ _ ?_ | with_reducible exact Room.Keeps.refl _
    | with_reducible refine Room.hardResetCause_from _ _ ?_ | intro _

theorem execHardResetTransmit_from (p : Fin 48) (s : State) : LeadsOut s (execHardResetTransmit p s) := by
  unfold execHardResetTransmit
  repeat' first
    | with_reducible exact State.Leads.refl _
    | with_reducible exact LeadsOut.next _
    | simp only [State.leads_mk_eq]
    | with_reducible refine LeadsParts.same _ ?_
    | with_reducible refine LeadsParts.cellar _ _ ?_ ?_
    | with_reducible refine LeadsParts.attic _ _ ?_ ?_
    | with_reducible refine LeadsParts.porch _ _ ?_ ?_
    | with_reducible refine LeadsParts.hearth _ _ ?_ ?_
    | with_reducible refine LeadsParts.links _ _ ?_ ?_
    | with_reducible refine LeadsParts.tcs _ _ ?_ ?_
    | with_reducible exact fun k => k
    | with_reducible exact fun k => eraseRange_wf _ _ _ k
    | with_reducible exact fun k => progBytes_wf _ _ _ k
    | with_reducible exact fun k => brecWrite_wf _ _ _ k
    | exact Attic.grows_same rfl rfl
    | (simp only [List.length_map, List.length_zipIdx]; exact id)
    | with_reducible apply State.leads_ite
    | with_reducible apply LeadsOut.ite
    | with_reducible refine LeadsOut.of ?_
    | with_reducible refine LeadsSeq.ok ?_
    | with_reducible refine LeadsSeq.error ?_
    | with_reducible apply LeadsSeq.ite
    | split
    | with_reducible refine State.onRoomE_from _ _ _ ?_ ?_
    | with_reducible refine State.on_from _ _ ?_
    | with_reducible refine act_from _ _ _ ?_
    | with_reducible exact Room.Keeps.refl _
    | simp only [Room.keeps_mk_eq]
    | with_reducible refine KeepsParts.same _ ?_
    | with_reducible refine KeepsParts.data _ _ _ ?_
    | with_reducible refine KeepsParts.code _ _ _ ?_
    | with_reducible apply Room.keeps_ite
    | with_reducible refine Room.hrCounted_from _ ?_
    | with_reducible refine Room.hardSignal_from _ _ ?_
    | with_reducible refine Room.on_from _ _ ?_
    | with_reducible refine Room.startHr_from _ _ ?_
    | with_reducible refine Room.onPd_from _ _ ?_
    | split
    | intro _
    | dsimp only

theorem execHardResetReceived_from (p : Fin 48) (s : State) : LeadsOut s (execHardResetReceived p s) := by
  unfold execHardResetReceived
  repeat' first
    | with_reducible exact State.Leads.refl _
    | with_reducible exact LeadsOut.next _
    | with_reducible apply State.leads_ite
    | with_reducible apply LeadsOut.ite
    | with_reducible refine LeadsOut.of ?_
    | with_reducible refine LeadsSeq.ok ?_
    | with_reducible refine LeadsSeq.error ?_
    | with_reducible apply LeadsSeq.ite
    | with_reducible refine State.onRoomE_from _ _ _ ?_ ?_
    | with_reducible refine act_from _ _ _ ?_
    | with_reducible exact Room.Keeps.refl _
    | simp only [Room.keeps_mk_eq]
    | with_reducible refine KeepsParts.same _ ?_
    | with_reducible refine KeepsParts.data _ _ _ ?_
    | with_reducible refine KeepsParts.code _ _ _ ?_
    | with_reducible apply Room.keeps_ite
    | with_reducible refine Room.hardSignal_from _ _ ?_
    | split
    | intro _
    | dsimp only

theorem execCableResetReceived_from (_p : Fin 48) (s : State) : LeadsOut s (execCableResetReceived _p s) := by
  unfold execCableResetReceived
  repeat' first
    | with_reducible exact State.Leads.refl _ | with_reducible refine act_from _ _ _ ?_

theorem State.onCoreOf_from {s0 : State} (s : State) (c : CoreId) (f : Core → Core) (h : s0.Leads s) : s0.Leads (State.onCoreOf s c f) := by
  refine State.Leads.trans h ?_
  unfold State.onCoreOf
  repeat' first
    | with_reducible exact State.Leads.refl _ | simp only [State.leads_mk_eq] | with_reducible refine LeadsParts.same _ ?_
    | split | with_reducible refine State.onRoom_from _ _ _ ?_ ?_ | with_reducible exact Room.Keeps.refl _
    | with_reducible refine Room.onCore_from _ _ ?_ | intro _

theorem Room.loadProgram_keeps (g : ProgramRec) (r : Room) : r.Keeps (r.loadProgram g) :=
  fun k => ⟨memOf_wf _, memLoad_wf _ _ k.2⟩
theorem State.bootCore_from {s0 : State} (s : State) (p : Fin 48) (h : s0.Leads s) : s0.Leads (State.bootCore s p) := by
  unfold State.bootCore
  split
  · exact h
  · rename_i g _
    have k := State.onRoom_from s p (fun r => r.loadProgram g) (fun r => Room.loadProgram_keeps g r) h
    split
    · exact State.onRoomE_from _ _ _ (fun _ _ => Room.keeps_of _ _ (Room.startCore_mems _ _ _)) k
    · exact State.enterSafe_from _ _ _ _ (State.onRoom_from _ _ _ (fun _ => Room.keeps_of _ _ rfl) k)

theorem State.restartCore_from {s0 : State} (s : State) (p : Fin 48) (h : s0.Leads s) : s0.Leads (State.restartCore s p) := by
  refine State.Leads.trans h ?_
  unfold State.restartCore
  repeat' first
    | with_reducible exact State.Leads.refl _ | with_reducible apply State.leads_ite
    | with_reducible refine State.bootCore_from _ _ ?_ | with_reducible refine State.onRoom_from _ _ _ ?_ ?_
    | with_reducible exact Room.Keeps.refl _ | with_reducible refine Room.on_from _ _ ?_ | intro _

theorem execRestartCore_from (p : Fin 48) (s : State) : LeadsOut s (execRestartCore p s) := by
  unfold execRestartCore
  repeat' first
    | with_reducible exact State.Leads.refl _ | with_reducible refine State.restartCore_from _ _ ?_
    | with_reducible refine act_from _ _ _ ?_

theorem State.writeHold_from {s0 : State} (s : State) (p : Fin 48) (on : Bool) (h : s0.Leads s) : s0.Leads (State.writeHold s p on) := by
  refine State.Leads.trans h ?_
  unfold State.writeHold
  repeat' first
    | with_reducible exact State.Leads.refl _ | with_reducible apply State.leads_ite
    | with_reducible refine State.onRoom_from _ _ _ ?_ ?_ | with_reducible refine State.restartCore_from _ _ ?_
    | with_reducible exact Room.Keeps.refl _ | with_reducible refine Room.on_from _ _ ?_
    | with_reducible refine Room.off_from _ _ ?_ | with_reducible refine Room.onCore_from _ _ ?_ | intro _

theorem execHold_from (p : Fin 48) (on : Bool) (s : State) : LeadsOut s (execHold p on s) := by
  unfold execHold
  repeat' first
    | with_reducible exact State.Leads.refl _
    | with_reducible exact LeadsOut.next _
    | with_reducible apply State.leads_ite
    | with_reducible apply LeadsOut.ite
    | with_reducible refine LeadsOut.of ?_
    | with_reducible refine LeadsSeq.ok ?_
    | with_reducible refine LeadsSeq.error ?_
    | with_reducible apply LeadsSeq.ite
    | with_reducible refine State.writeHold_from _ _ _ ?_
    | with_reducible refine act_from _ _ _ ?_
    | split
    | intro _
    | dsimp only

theorem execDoorbell_from (p : Fin 48) (v : BitVec 8) (s : State) : LeadsOut s (execDoorbell p v s) := by
  unfold execDoorbell
  repeat' first
    | with_reducible exact State.Leads.refl _ | with_reducible refine State.onRoom_from _ _ _ ?_ ?_
    | with_reducible refine act_from _ _ _ ?_ | with_reducible exact Room.Keeps.refl _
    | with_reducible refine Room.put_from _ _ _ ?_ | intro _

theorem execDbAck_from (p : Fin 48) (v : BitVec 8) (s : State) : LeadsOut s (execDbAck p v s) := by
  unfold execDbAck
  repeat' first
    | with_reducible exact State.Leads.refl _ | with_reducible refine State.onRoom_from _ _ _ ?_ ?_
    | with_reducible refine act_from _ _ _ ?_ | with_reducible exact Room.Keeps.refl _
    | with_reducible refine Room.put_from _ _ _ ?_ | intro _

theorem State.coreMiss_from {s0 : State} (s : State) (p : Fin 48) (h : s0.Leads s) : s0.Leads (State.coreMiss s p) := by
  refine State.Leads.trans h ?_
  unfold State.coreMiss
  try dsimp only
  repeat' first
    | with_reducible exact State.Leads.refl _ | with_reducible apply State.leads_ite | split
    | with_reducible refine State.onLand_from _ _ _ ?_ | with_reducible refine State.onRoom_from _ _ _ ?_ ?_
    | with_reducible refine State.restartCore_from _ _ ?_ | with_reducible refine State.enterSafe_from _ _ _ _ ?_
    | with_reducible refine State.handUp_from _ _ ?_ | with_reducible exact Room.Keeps.refl _ | simp only [Room.keeps_mk_eq]
    | with_reducible refine KeepsParts.same _ ?_ | with_reducible refine Room.fault_from _ _ ?_
    | with_reducible refine Room.off_from _ _ ?_ | intro _

theorem execCoreWdt_from (p : Fin 48) (s : State) : LeadsOut s (execCoreWdt p s) := by
  unfold execCoreWdt
  repeat' first
    | with_reducible exact State.Leads.refl _ | with_reducible refine State.coreMiss_from _ _ ?_
    | with_reducible refine act_from _ _ _ ?_

theorem State.kick_from {s0 : State} (s : State) (p : Fin 48) (key : Nat) (h : s0.Leads s) : s0.Leads (State.kick s p key) := by
  refine State.Leads.trans h ?_
  unfold State.kick
  repeat' first
    | with_reducible exact State.Leads.refl _ | simp only [State.leads_mk_eq] | with_reducible apply State.leads_ite
    | with_reducible refine State.onRoom_from _ _ _ ?_ ?_ | with_reducible refine State.coreMiss_from _ _ ?_
    | with_reducible exact Room.Keeps.refl _ | simp only [Room.keeps_mk_eq] | with_reducible refine KeepsParts.same _ ?_
    | with_reducible refine Room.on_from _ _ ?_ | intro _

theorem execCoreKick_from (p : Fin 48) (key : Nat) (s : State) : LeadsOut s (execCoreKick p key s) := by
  unfold execCoreKick
  repeat' first
    | with_reducible exact State.Leads.refl _ | with_reducible refine State.kick_from _ _ _ ?_
    | with_reducible refine act_from _ _ _ ?_

theorem execExtCopyDone_from (p : Fin 48) (s : State) : LeadsOut s (execExtCopyDone p s) := by
  unfold execExtCopyDone
  repeat' first
    | with_reducible exact State.Leads.refl _ | with_reducible refine State.onRoom_from _ _ _ ?_ ?_
    | with_reducible refine act_from _ _ _ ?_ | with_reducible exact Room.Keeps.refl _
    | with_reducible refine Room.onCore_from _ _ ?_ | intro _

theorem State.setHaltBit_from {s0 : State} (s : State) (c : CoreId) (b : Bool) (h : s0.Leads s) : s0.Leads (State.setHaltBit s c b) := by
  refine State.Leads.trans h ?_
  unfold State.setHaltBit
  repeat' first
    | with_reducible exact State.Leads.refl _ | with_reducible apply State.leads_ite | split
    | with_reducible refine State.put_from _ _ _ ?_ | with_reducible refine State.putB_from _ _ _ ?_

theorem State.haltCore_from {s0 : State} (s : State) (c : CoreId) (cause bk : Nat) (h : s0.Leads s) : s0.Leads (State.haltCore s c cause bk) := by
  refine State.Leads.trans h ?_
  unfold State.haltCore
  try dsimp only
  repeat' first
    | with_reducible exact State.Leads.refl _ | split | with_reducible refine State.setHaltBit_from _ _ _ ?_
    | with_reducible refine State.onCoreOf_from _ _ _ ?_ | with_reducible refine State.onRoom_from _ _ _ ?_ ?_
    | with_reducible exact Room.Keeps.refl _ | with_reducible refine Room.off_from _ _ ?_ | intro _

theorem State.resumeCore_from {s0 : State} (s : State) (c : CoreId) (h : s0.Leads s) : s0.Leads (State.resumeCore s c) := by
  refine State.Leads.trans h ?_
  unfold State.resumeCore
  try dsimp only
  repeat' first
    | with_reducible exact State.Leads.refl _ | simp only [State.leads_mk_eq] | with_reducible refine LeadsParts.same _ ?_
    | with_reducible apply State.leads_ite | split | with_reducible refine State.onCoreOf_from _ _ _ ?_
    | with_reducible refine State.onRoom_from _ _ _ ?_ ?_ | with_reducible exact Room.Keeps.refl _
    | simp only [Room.keeps_mk_eq] | with_reducible refine KeepsParts.same _ ?_ | with_reducible refine Room.on_from _ _ ?_
    | intro _

theorem Room.offAll_mems (l : List Nat) (f : Nat → Field) (r : Room) :
    (l.foldl (fun r k => r.off (f k)) r).mems = r.mems := by
  induction l generalizing r with
  | nil => rfl
  | cons a l ih => exact (ih _).trans rfl
theorem State.closeDebug_from {s0 : State} (s : State) (h : s0.Leads s) : s0.Leads (State.closeDebug s) := by
  unfold State.closeDebug
  have k : s0.Leads (allCores.foldl State.resumeCore s) :=
    State.leads_foldl _ _ _ _ h fun s c => State.resumeCore_from s c (.refl s)
  extract_lets s1 s2
  have k2 : s0.Leads s2 := State.mapRooms_from s1 _ (fun _ r => Room.keeps_of _ _
      ((Room.offAll_mems (List.range 4) (fun k => BKPT_EN.shift (4 * k)) _).trans rfl)) k
  clear_value s2
  exact k2.trans (State.leads_same _ _ rfl rfl rfl rfl rfl rfl rfl rfl rfl rfl rfl rfl rfl)

theorem State.atticShow_from {s0 : State} (s : State) (h : s0.Leads s) : s0.Leads (State.atticShow s) := by
  refine State.Leads.trans h ?_
  unfold State.atticShow
  try dsimp only
  repeat' first
    | with_reducible exact State.Leads.refl _ | with_reducible refine State.put_from _ _ _ ?_
    | with_reducible refine State.putB_from _ _ _ ?_

theorem State.fuseResult_from {s0 : State} (s : State) (code op pulses : Nat) (h : s0.Leads s) : s0.Leads (State.fuseResult s code op pulses) := by
  refine State.Leads.trans h ?_
  unfold State.fuseResult
  repeat' first
    | with_reducible exact State.Leads.refl _ | with_reducible refine State.put_from _ _ _ ?_
    | with_reducible refine State.on_from _ _ ?_

theorem State.fuseStart_from {s0 : State} (s : State) (op : Nat) (vpp vdd : Bool) (h : s0.Leads s) :
    s0.Leads (State.fuseStart s op vpp vdd) := by
  refine h.trans ?_
  unfold State.fuseStart
  extract_lets s1 c code s2
  have k1 : s.Leads s1 := State.putB_leads _ _ _
  split
  · exact (State.on_from _ _ k1).trans (State.attic_leads _ _ (Attic.grows_same rfl rfl))
  · exact (State.fuseResult_from _ _ _ _ k1).trans (State.secZero_leads _ op)

theorem Attic.pulse_grows (x : Attic) (f : Fuse) : x.grows (x.pulse f) := by
  intro w
  unfold Attic.pulse
  dsimp only
  split
  · refine ⟨by simp, ?_⟩
    rw [Store.get_set]
    split
    · rename_i e; subst e; ext i hi; simp; tauto
    · simp
  · refine ⟨?_, by simp⟩
    rw [Store.get_set]
    split
    · rename_i e; subst e; ext i hi; simp; tauto
    · simp
theorem Attic.pulses_grow (x : Attic) (l : List Fuse) : x.grows (l.foldl Attic.pulse x) := by
  induction l generalizing x with
  | nil => exact Attic.grows_refl x
  | cons f l ih => exact Attic.grows_trans (Attic.pulse_grows x f) (ih _)
theorem Attic.refresh_grows (x : Attic) (l : List Nat) : x.grows (x.refresh l) := Attic.grows_same rfl rfl
theorem Attic.marginRead_grows (x : Attic) (ws : List (Nat × Word)) (bad : List (Nat × Bool × Word)) :
    x.grows (x.marginRead ws bad) := Attic.grows_same rfl rfl
theorem State.fuseResult_from' {s0 : State} (s : State) (a b c : Nat) (h : s0.Leads s) : s0.Leads (s.fuseResult a b c) :=
  State.fuseResult_from s a b c h
theorem State.fuseEnd_from {s0 : State} (s : State) (c : FuseCmd) (abort : Option Nat) (bad : List (Nat × Bool × Word))
    (h : s0.Leads s) : s0.Leads (State.fuseEnd s c abort bad) := by
  refine h.trans ?_
  unfold State.fuseEnd
  extract_lets all done x ws x' progd weak code x'' s1 s2 s3
  have g : s.attic.grows { x'' with cmd := none } := by
    refine Attic.grows_trans (Attic.pulses_grow s.attic done) (Attic.grows_trans (Attic.marginRead_grows _ ws bad) ?_)
    show Attic.grows x' _
    unfold x''
    split
    · exact Attic.grows_same rfl rfl
    · exact Attic.grows_same rfl rfl
  have k1 : s.Leads s1 := State.attic_leads s _ g
  refine State.atticShow_from _ ?_
  refine State.Leads.trans ?_ (State.secZero_leads s2 c.op)
  exact State.put_from _ _ _ (State.fuseResult_from _ _ _ _ (State.off_from _ _ k1))

theorem State.fuseCut_from {s0 : State} (s : State) (h : s0.Leads s) : s0.Leads (State.fuseCut s) := by
  refine h.trans ?_
  unfold State.fuseCut
  split
  · exact .refl s
  · rename_i c _
    refine (State.leads_same s s.free?.2 rfl rfl rfl rfl rfl rfl rfl rfl rfl rfl rfl rfl rfl).trans ?_
    exact State.attic_leads s.free?.2 _ (Attic.grows_trans (Attic.pulses_grow s.attic _) (Attic.grows_same rfl rfl))

theorem State.setLocks_from {s0 : State} (s : State) (v : Nat) (h : s0.Leads s) : s0.Leads (State.setLocks s v) := by
  refine State.Leads.trans h ?_
  unfold State.setLocks
  try dsimp only
  repeat' first
    | with_reducible exact State.Leads.refl _ | with_reducible apply State.leads_ite
    | with_reducible refine State.put_from _ _ _ ?_ | with_reducible refine State.closeDebug_from _ ?_

theorem State.readAttic_from {s0 : State} (s : State) (h : s0.Leads s) : s0.Leads (State.readAttic s) :=
  State.putB_from _ _ _ (State.put_from _ _ _ (State.atticShow_from _
    (h.trans (State.attic_leads s _ (Attic.refresh_grows _ _)))))

theorem State.fuseWrite_from {s0 : State} (s : State) (r : Req) (op : Nat) (vpp vdd : Bool) (h : s0.Leads s) : s0.Leads (State.fuseWrite s r op vpp vdd) := by
  refine State.Leads.trans h ?_
  unfold State.fuseWrite
  repeat' first
    | with_reducible exact State.Leads.refl _ | simp only [State.leads_mk_eq] | with_reducible refine LeadsParts.same _ ?_
    | with_reducible apply State.leads_ite | with_reducible refine State.fuseStart_from _ _ _ _ ?_
    | with_reducible refine State.accessErr_from _ _ ?_

theorem execProgram_from (r : Req) (vpp vdd : Bool) (s : State) : LeadsOut s (execProgram r vpp vdd s) := by
  unfold execProgram
  repeat' first
    | with_reducible exact State.Leads.refl _ | with_reducible refine State.fuseWrite_from _ _ _ _ _ ?_
    | with_reducible refine act_from _ _ _ ?_

theorem execMargin_from (r : Req) (s : State) : LeadsOut s (execMargin r s) := by
  unfold execMargin
  repeat' first
    | with_reducible exact State.Leads.refl _ | with_reducible refine State.fuseWrite_from _ _ _ _ _ ?_
    | with_reducible refine act_from _ _ _ ?_

theorem execAdvance_from (r : Req) (vpp vdd : Bool) (s : State) : LeadsOut s (execAdvance r vpp vdd s) := by
  unfold execAdvance
  repeat' first
    | with_reducible exact State.Leads.refl _ | with_reducible refine State.fuseWrite_from _ _ _ _ _ ?_
    | with_reducible refine act_from _ _ _ ?_

theorem execProgSecret_from (r : Req) (vpp vdd : Bool) (s : State) : LeadsOut s (execProgSecret r vpp vdd s) := by
  unfold execProgSecret
  repeat' first
    | with_reducible exact State.Leads.refl _ | with_reducible refine State.fuseWrite_from _ _ _ _ _ ?_
    | with_reducible refine act_from _ _ _ ?_

theorem execLifecycle_from (r : Req) (vpp vdd : Bool) (s : State) : LeadsOut s (execLifecycle r vpp vdd s) := by
  unfold execLifecycle
  repeat' first
    | with_reducible exact State.Leads.refl _ | with_reducible refine State.fuseWrite_from _ _ _ _ _ ?_
    | with_reducible refine act_from _ _ _ ?_

theorem execAtticCommandDone_from (abort : Option Nat) (bad : List (Nat × Bool × Word)) (s : State) : LeadsOut s (execAtticCommandDone abort bad s) := by
  unfold execAtticCommandDone
  repeat' first
    | with_reducible exact State.Leads.refl _ | with_reducible exact LeadsOut.next _ | split
    | with_reducible refine State.fuseEnd_from _ _ _ _ ?_ | with_reducible refine act_from _ _ _ ?_

theorem execAtticLock_from (v : Word) (s : State) : LeadsOut s (execAtticLock v s) := by
  unfold execAtticLock
  repeat' first
    | with_reducible exact State.Leads.refl _ | simp only [State.leads_mk_eq] | with_reducible refine LeadsParts.same _ ?_
    | with_reducible refine State.setLocks_from _ _ ?_ | with_reducible refine act_from _ _ _ ?_

theorem State.freeBytes_from {s0 : State} (s : State) (n : Nat) (h : s0.Leads s) : s0.Leads (State.freeBytes s n).2 := by
  induction n generalizing s with
  | zero => exact h
  | succ n ih => exact ih _ (State.free?_from s h)

theorem Store.wf_sets {α : Type} (l : List α) (a : α → Nat) (b : α → Byte) (m : Mem) (h : Store.wf m = true) :
    Store.wf (l.foldl (fun m x => Store.set m (a x) (b x)) m) = true := by
  induction l generalizing m with
  | nil => exact h
  | cons x l ih => exact ih _ (Store.wf_set _ _ _ h)
theorem State.eraseCut_from {s0 : State} (s : State) (a n : Nat) (h : s0.Leads s) : s0.Leads (State.eraseCut s a n) := by
  refine h.trans ?_
  unfold State.eraseCut
  extract_lets f k m cells g
  have k1 : s.Leads g.2 := State.freeBytes_from _ _ (State.free?_from s (.refl s))
  refine ⟨fun i => ?_, k1.fuse, k1.queue⟩
  have j := k1.inv i
  have c : Store.wf f.2.cellar = true := i.cellar
  exact ⟨j.1, j.2, j.3, j.4, j.5, j.6, j.7, j.8, j.9, Store.wf_sets _ _ _ _ (eraseRange_wf _ _ _ c)⟩

theorem State.progCut_from {s0 : State} (s : State) (a : Nat) (b : List Byte) (h : s0.Leads s) :
    s0.Leads (State.progCut s a b) :=
  (State.freeBytes_from s b.length h).trans (State.cellar_leads _ _ (progBytes_wf _ _ _))

theorem State.jnlOpen_from {s0 : State} (s : State) (h : s0.Leads s) : s0.Leads (State.jnlOpen s) := by
  refine State.Leads.trans h ?_
  unfold State.jnlOpen
  try dsimp only
  repeat' first
    | with_reducible exact State.Leads.refl _ | split | with_reducible refine State.on_from _ _ ?_
    | with_reducible refine State.off_from _ _ ?_ | with_reducible refine State.put_from _ _ _ ?_

theorem writeRecs_wf (m : Mem) (area k seq : Nat) (rs : List JRec) (h : Store.wf m = true) :
    Store.wf (writeRecs m area k seq rs) = true := by
  unfold writeRecs
  generalize rs.zipIdx = l
  induction l generalizing m with
  | nil => exact h
  | cons x l ih => exact ih _ (progBytes_wf _ _ _ h)
theorem State.jWrite_from {s0 : State} (s : State) (rs : List JRec) (h : s0.Leads s) : s0.Leads (State.jWrite s rs) :=
  State.put_from _ _ _ (State.put_from _ _ _ (h.trans (State.cellar_leads s _ (writeRecs_wf _ _ _ _ _))))

theorem State.jFirst_from {s0 : State} (s : State) (h : s0.Leads s) : s0.Leads (State.jFirst s) := by
  refine State.Leads.trans h ?_
  unfold State.jFirst
  try dsimp only
  repeat' first
    | with_reducible exact State.Leads.refl _ | simp only [State.leads_mk_eq]
    | with_reducible refine LeadsParts.cellar _ _ ?_ ?_ | (with_reducible exact fun k => eraseRange_wf _ _ _ k)
    | with_reducible apply State.leads_ite | with_reducible refine State.free?_from _ ?_
    | with_reducible refine State.off_from _ _ ?_ | with_reducible refine State.put_from _ _ _ ?_
    | with_reducible refine State.jWrite_from _ _ ?_

theorem State.setImage_from {s0 : State} (s : State) (rs : List JRec) (h0 : s0.Leads s) : s0.Leads (State.setImage s rs) := by
  refine State.Leads.trans h0 ?_
  unfold State.setImage
  repeat' first
    | with_reducible exact State.Leads.refl _
    | with_reducible exact LeadsOut.next _
    | simp only [State.leads_mk_eq]
    | with_reducible refine LeadsParts.same _ ?_
    | with_reducible refine LeadsParts.cellar _ _ ?_ ?_
    | with_reducible refine LeadsParts.attic _ _ ?_ ?_
    | with_reducible refine LeadsParts.porch _ _ ?_ ?_
    | with_reducible refine LeadsParts.hearth _ _ ?_ ?_
    | with_reducible refine LeadsParts.links _ _ ?_ ?_
    | with_reducible refine LeadsParts.tcs _ _ ?_ ?_
    | with_reducible exact fun k => k
    | with_reducible exact fun k => eraseRange_wf _ _ _ k
    | with_reducible exact fun k => progBytes_wf _ _ _ k
    | with_reducible exact fun k => brecWrite_wf _ _ _ k
    | exact Attic.grows_same rfl rfl
    | (simp only [List.length_map, List.length_zipIdx]; exact id)
    | with_reducible apply State.leads_ite
    | with_reducible refine State.put_from _ _ _ ?_
    | split
    | intro _

theorem State.jDue_from {s0 : State} (s : State) (h0 : s0.Leads s) : s0.Leads (State.jDue s) := by
  refine State.Leads.trans h0 ?_
  unfold State.jDue
  repeat' first
    | with_reducible exact State.Leads.refl _
    | with_reducible exact LeadsOut.next _
    | simp only [State.leads_mk_eq]
    | with_reducible refine LeadsParts.same _ ?_
    | with_reducible refine LeadsParts.cellar _ _ ?_ ?_
    | with_reducible refine LeadsParts.attic _ _ ?_ ?_
    | with_reducible refine LeadsParts.porch _ _ ?_ ?_
    | with_reducible refine LeadsParts.hearth _ _ ?_ ?_
    | with_reducible refine LeadsParts.links _ _ ?_ ?_
    | with_reducible refine LeadsParts.tcs _ _ ?_ ?_
    | with_reducible exact fun k => k
    | with_reducible exact fun k => eraseRange_wf _ _ _ k
    | with_reducible exact fun k => progBytes_wf _ _ _ k
    | with_reducible exact fun k => brecWrite_wf _ _ _ k
    | exact Attic.grows_same rfl rfl
    | (simp only [List.length_map, List.length_zipIdx]; exact id)
    | with_reducible apply State.leads_ite
    | split
    | intro _

theorem State.jPage_from {s0 : State} (s : State) (h0 : s0.Leads s) : s0.Leads (State.jPage s) := by
  refine State.Leads.trans h0 ?_
  unfold State.jPage
  try dsimp only
  repeat' first
    | with_reducible exact State.Leads.refl _
    | with_reducible exact LeadsOut.next _
    | simp only [State.leads_mk_eq]
    | with_reducible refine LeadsParts.same _ ?_
    | with_reducible refine LeadsParts.cellar _ _ ?_ ?_
    | with_reducible refine LeadsParts.attic _ _ ?_ ?_
    | with_reducible refine LeadsParts.porch _ _ ?_ ?_
    | with_reducible refine LeadsParts.hearth _ _ ?_ ?_
    | with_reducible refine LeadsParts.links _ _ ?_ ?_
    | with_reducible refine LeadsParts.tcs _ _ ?_ ?_
    | with_reducible exact fun k => k
    | with_reducible exact fun k => eraseRange_wf _ _ _ k
    | with_reducible exact fun k => progBytes_wf _ _ _ k
    | with_reducible exact fun k => brecWrite_wf _ _ _ k
    | exact Attic.grows_same rfl rfl
    | (simp only [List.length_map, List.length_zipIdx]; exact id)
    | with_reducible apply State.leads_ite
    | split
    | with_reducible refine State.setImage_from _ _ ?_
    | with_reducible refine State.jWrite_from _ _ ?_
    | with_reducible refine State.jDue_from _ ?_
    | split
    | intro _
    | dsimp only

theorem State.jnlTick_from {s0 : State} (s : State) (h0 : s0.Leads s) : s0.Leads (State.jnlTick s) := by
  refine State.Leads.trans h0 ?_
  unfold State.jnlTick
  repeat' first
    | with_reducible exact State.Leads.refl _
    | with_reducible exact LeadsOut.next _
    | with_reducible apply State.leads_ite
    | with_reducible refine State.jPage_from _ ?_
    | split
    | intro _

theorem State.jCommit_from {s0 : State} (s : State) (g : List JRec) (h0 : s0.Leads s) : s0.Leads (State.jCommit s g) := by
  refine State.Leads.trans h0 ?_
  unfold State.jCommit
  try dsimp only
  repeat' first
    | with_reducible exact State.Leads.refl _
    | with_reducible exact LeadsOut.next _
    | with_reducible apply State.leads_ite
    | with_reducible refine State.jFirst_from _ ?_
    | with_reducible refine State.jWrite_from _ _ ?_
    | with_reducible refine State.jDue_from _ ?_
    | with_reducible refine State.jPage_from _ ?_
    | with_reducible refine State.setImage_from _ _ ?_
    | split
    | intro _

theorem State.jResult_from {s0 : State} (s : State) (code : Nat) (h : s0.Leads s) : s0.Leads (State.jResult s code) := by
  refine State.Leads.trans h ?_
  unfold State.jResult
  repeat' first
    | with_reducible exact State.Leads.refl _ | with_reducible refine State.put_from _ _ _ ?_
    | with_reducible refine State.on_from _ _ ?_

theorem State.jAppend_from {s0 : State} (s : State) (r : JRec) (h0 : s0.Leads s) : s0.Leads (State.jAppend s r) := by
  refine State.Leads.trans h0 ?_
  unfold State.jAppend
  try dsimp only
  repeat' first
    | with_reducible exact State.Leads.refl _
    | with_reducible exact LeadsOut.next _
    | simp only [State.leads_mk_eq]
    | with_reducible refine LeadsParts.same _ ?_
    | with_reducible refine LeadsParts.cellar _ _ ?_ ?_
    | with_reducible refine LeadsParts.attic _ _ ?_ ?_
    | with_reducible refine LeadsParts.porch _ _ ?_ ?_
    | with_reducible refine LeadsParts.hearth _ _ ?_ ?_
    | with_reducible refine LeadsParts.links _ _ ?_ ?_
    | with_reducible refine LeadsParts.tcs _ _ ?_ ?_
    | with_reducible exact fun k => k
    | with_reducible exact fun k => eraseRange_wf _ _ _ k
    | with_reducible exact fun k => progBytes_wf _ _ _ k
    | with_reducible exact fun k => brecWrite_wf _ _ _ k
    | exact Attic.grows_same rfl rfl
    | (simp only [List.length_map, List.length_zipIdx]; exact id)
    | with_reducible apply State.leads_ite
    | with_reducible refine State.jResult_from _ _ ?_
    | with_reducible refine State.on_from _ _ ?_
    | split
    | intro _

theorem State.progs_from {s0 : State} (l : List Nat) (a : Nat → Nat) (b : Nat → List Byte) (s : State) (h : s0.Leads s) :
    s0.Leads (l.foldl (fun s i => { s with cellar := progBytes s.cellar (a i) (b i) }) s) :=
  State.leads_foldl _ _ _ _ h fun s _ => State.cellar_leads s _ (progBytes_wf _ _ _)
theorem State.jTear_from {s0 : State} (s : State) (g : List JRec) (n : Nat) (h : s0.Leads s) :
    s0.Leads (State.jTear s g n) := by
  have h1 : s0.Leads s.jFirst := State.jFirst_from s h
  unfold State.jTear
  extract_lets s1 k base q0 at' body
  have h2 : ∀ n, s0.Leads ((List.range n).foldl (fun s i => { s with cellar := progBytes s.cellar (at' i) (body i) }) s1) :=
    fun n => State.progs_from _ _ _ _ h1
  split
  · exact State.put_from _ _ _ (State.progCut_from _ _ _ (h2 _))
  · refine State.put_from _ _ _ (State.put_from _ _ _ ?_)
    refine State.leads_ite _ _ _ ?_ ?_
    · exact State.freeBytes_from _ 4 (State.progs_from _ _ _ _ (h2 _))
    · exact (State.freeBytes_from _ 4 (State.progs_from _ _ _ _ (h2 _))).trans
        (State.cellar_leads _ _ (progBytes_wf _ _ _))

theorem State.jCut_from {s0 : State} (s : State) (h0 : s0.Leads s) : s0.Leads (State.jCut s) := by
  refine State.Leads.trans h0 ?_
  unfold State.jCut
  try dsimp only
  repeat' first
    | with_reducible exact State.Leads.refl _
    | with_reducible exact LeadsOut.next _
    | simp only [State.leads_mk_eq]
    | with_reducible refine LeadsParts.same _ ?_
    | with_reducible refine LeadsParts.cellar _ _ ?_ ?_
    | with_reducible refine LeadsParts.attic _ _ ?_ ?_
    | with_reducible refine LeadsParts.porch _ _ ?_ ?_
    | with_reducible refine LeadsParts.hearth _ _ ?_ ?_
    | with_reducible refine LeadsParts.links _ _ ?_ ?_
    | with_reducible refine LeadsParts.tcs _ _ ?_ ?_
    | with_reducible exact fun k => k
    | with_reducible exact fun k => eraseRange_wf _ _ _ k
    | with_reducible exact fun k => progBytes_wf _ _ _ k
    | with_reducible exact fun k => brecWrite_wf _ _ _ k
    | exact Attic.grows_same rfl rfl
    | (simp only [List.length_map, List.length_zipIdx]; exact id)
    | with_reducible apply State.leads_ite
    | split
    | with_reducible refine State.eraseCut_from _ _ _ ?_
    | with_reducible refine State.free?_from _ ?_
    | with_reducible refine State.jTear_from _ _ _ ?_
    | split
    | intro _

theorem State.jErase_from {s0 : State} (s : State) (h0 : s0.Leads s) : s0.Leads (State.jErase s) := by
  refine State.Leads.trans h0 ?_
  unfold State.jErase
  repeat' first
    | with_reducible exact State.Leads.refl _
    | with_reducible exact LeadsOut.next _
    | simp only [State.leads_mk_eq]
    | with_reducible refine LeadsParts.same _ ?_
    | with_reducible refine LeadsParts.cellar _ _ ?_ ?_
    | with_reducible refine LeadsParts.attic _ _ ?_ ?_
    | with_reducible refine LeadsParts.porch _ _ ?_ ?_
    | with_reducible refine LeadsParts.hearth _ _ ?_ ?_
    | with_reducible refine LeadsParts.links _ _ ?_ ?_
    | with_reducible refine LeadsParts.tcs _ _ ?_ ?_
    | with_reducible exact fun k => k
    | with_reducible exact fun k => eraseRange_wf _ _ _ k
    | with_reducible exact fun k => progBytes_wf _ _ _ k
    | with_reducible exact fun k => brecWrite_wf _ _ _ k
    | exact Attic.grows_same rfl rfl
    | (simp only [List.length_map, List.length_zipIdx]; exact id)
    | with_reducible apply State.leads_ite
    | with_reducible refine State.on_from _ _ ?_
    | split
    | intro _

theorem State.jCheckpoint_from {s0 : State} (s : State) (h : s0.Leads s) : s0.Leads (State.jCheckpoint s) := by
  refine h.trans ?_
  exact ⟨fun i => ⟨i.1, i.2, i.3, i.4, i.5, i.6, i.7, i.8, i.9, writeRecs_wf _ _ _ _ _ (eraseRange_wf _ _ _ i.10)⟩,
    Attic.grows_refl _, rfl⟩

theorem State.jSwitch_from {s0 : State} (s : State) (c : Ckpt) (h : s0.Leads s) : s0.Leads (State.jSwitch s c) := by
  unfold State.jSwitch
  extract_lets j rs e0 e1 epoch m s1 x s2
  have k1 : s0.Leads s1 := State.off_from s JNL_STAT_COMPACTING h
  have k2 : s0.Leads s2 := k1.trans ⟨fun i => ⟨i.1, i.2, i.3, i.4, i.5, i.6, i.7, i.8, i.9,
    writeRecs_wf m j 0 (c.seq + 1) [areaRec j epoch c.count e0 e1] (writeRecs_wf s.cellar j (1 + c.count) _ rs i.10)⟩,
    Attic.grows_refl _, rfl⟩
  clear_value s2
  exact State.put_from _ _ _ (State.put_from _ _ _ (State.put_from _ _ _ (State.put_from _ _ _ (State.put_from _ _ _
    (State.put_from _ _ _ k2)))))

theorem State.jCompact_from {s0 : State} (s : State) (stage : Fin 3) (h0 : s0.Leads s) : s0.Leads (State.jCompact s stage) := by
  refine State.Leads.trans h0 ?_
  unfold State.jCompact
  repeat' first
    | with_reducible exact State.Leads.refl _
    | with_reducible exact LeadsOut.next _
    | simp only [State.leads_mk_eq]
    | with_reducible refine LeadsParts.same _ ?_
    | with_reducible refine LeadsParts.cellar _ _ ?_ ?_
    | with_reducible refine LeadsParts.attic _ _ ?_ ?_
    | with_reducible refine LeadsParts.porch _ _ ?_ ?_
    | with_reducible refine LeadsParts.hearth _ _ ?_ ?_
    | with_reducible refine LeadsParts.links _ _ ?_ ?_
    | with_reducible refine LeadsParts.tcs _ _ ?_ ?_
    | with_reducible exact fun k => k
    | with_reducible exact fun k => eraseRange_wf _ _ _ k
    | with_reducible exact fun k => progBytes_wf _ _ _ k
    | with_reducible exact fun k => brecWrite_wf _ _ _ k
    | exact Attic.grows_same rfl rfl
    | (simp only [List.length_map, List.length_zipIdx]; exact id)
    | with_reducible apply State.leads_ite
    | split
    | with_reducible refine State.jErase_from _ ?_
    | with_reducible refine State.jCheckpoint_from _ ?_
    | with_reducible refine State.jSwitch_from _ _ ?_
    | split
    | intro _

theorem State.writeBrec_from {s0 : State} (s : State) (fw plan trial left : Nat) (ok : Bool) (h : s0.Leads s) :
    s0.Leads (State.writeBrec s fw plan trial left ok) := by
  refine h.trans ?_
  unfold State.writeBrec
  split
  · exact (State.put_leads s _ _).trans (State.cellar_leads _ _ (brecWrite_wf _ _ _))
  · exact State.progCut_from _ _ _ (State.cellar_leads s _ (eraseRange_wf _ _ _))

theorem State.reset_links : State.reset.links.length = 2 := rfl
theorem State.reset_tws : State.reset.tws.length = 4 := rfl
theorem State.reset_tcs : State.reset.tcs.length = 2 := rfl
theorem State.reset_staged : State.reset.porch.staged.length = 2 := rfl
theorem State.reset_models : State.reset.hearth.models.length = 57 := rfl
theorem State.reset_plan : State.reset.plan = none := rfl
theorem State.reset_code : State.reset.hallCode = [] := rfl
theorem State.reset_data : State.reset.hallData = [] := rfl
theorem State.reset_rooms : State.reset.rooms = Vector.ofFn fun p => Room.reset p.val := rfl
theorem Room.reset_mem (p : Nat) : (Room.reset p).memOk := ⟨rfl, rfl⟩
theorem State.reset_room (p : Fin 48) : State.reset.rooms.get p = Room.reset p.val := by
  rw [State.reset_rooms]; simp [Vector.get_eq_getElem]
theorem State.mainReset_parts (s x : State) (h1 : x.links = State.reset.links) (h2 : s.tws.length = 4 → x.tws.length = 4)
    (h2' : x.tcs = State.reset.tcs)
    (h3 : x.porch.staged = State.reset.porch.staged) (h4 : x.hearth = State.reset.hearth) (h5 : x.plan = none)
    (h6 : x.rooms = State.reset.rooms) (h7 : x.hallCode = []) (h8 : x.hallData = []) (h9 : x.cellar = s.cellar)
    (h10 : x.attic.a = s.attic.a) (h11 : x.attic.b = s.attic.b) (h12 : x.pending = s.pending) : s.Leads x := by
  refine ⟨fun i => ⟨?_, h2 i.2, ?_, ?_, ?_, ?_, ?_, ?_, ?_, ?_⟩, Attic.grows_same h10 h11, h12⟩
  · rw [h1]; exact State.reset_links
  · rw [h2']; exact State.reset_tcs
  · rw [h3]; exact State.reset_staged
  · rw [h4]; exact State.reset_models
  · intro y hy; rw [h5] at hy; cases hy
  · intro p
    show (x.rooms.get p).memOk
    rw [h6, State.reset_room]; exact Room.reset_mem _
  · rw [h7]; rfl
  · rw [h8]; rfl
  · rw [h9]; exact i.10
theorem State.mainReset_body (s : State) (r : Regs) (z : State) (l : Vector Landing 6) (c : Clk) (hz : z = State.reset) : s.Leads  { z with
    now := s.now, freeCtr := s.freeCtr, regs := r
    lands := l, clk := c
    chipB := s.chipB
    attic := { s.attic with shadow := [], cmd := none, verify := none }
    cellar := s.cellar, matchers := s.matchers, snap := { Snap.reset with low := s.snap.low }
    tws := s.tws.map fun t => { TwPort.reset with held := t.held }
    pair := { Pair.reset with hbAt := s.pair.hbAt }
    porch := { Porch.reset with reverted := s.porch.reverted }
    pending := s.pending } := by
  subst hz
  exact State.mainReset_parts _ _ rfl (fun k => by simpa using k) rfl rfl rfl rfl rfl rfl rfl rfl rfl rfl rfl
theorem State.mainReset_from {s0 : State} (s : State) (h : s0.Leads s) : s0.Leads (State.mainReset s) := by
  refine h.trans ((State.jCut_from _ (State.fuseCut_from s (.refl s))).trans ?_)
  unfold State.mainReset
  extract_lets x z r1 r2
  exact State.mainReset_body _ _ _ _ _ rfl

theorem State.unhold_leads (s : State) : s.Leads { s with tws := s.tws.map fun t => { t with held := false } } :=
  ⟨fun i => ⟨i.1, by simpa using i.2, i.3, i.4, i.5, i.6, i.7, i.8, i.9, i.10⟩, Attic.grows_refl _, rfl⟩
theorem State.chipReset_from {s0 : State} (s : State) (cause : Field) (h : s0.Leads s) : s0.Leads (State.chipReset s cause) := by
  unfold State.chipReset
  extract_lets hob s1 s2
  have k1 : s0.Leads s1 := State.on_from _ _ (State.mainReset_from s h)
  have k2 : s0.Leads s2 := State.leads_ite _ _ _ (State.put_from _ _ _ k1) k1
  exact State.leads_ite _ _ _ k2 (k2.trans (State.unhold_leads s2))

theorem State.aonReset_body (m : State) (r : Regs) (c : Clk) (p : Pair) :
    m.Leads { m with regs := r, clk := c, matchers := [], tws := List.replicate 4 .reset, pair := p } :=
  ⟨fun i => ⟨i.1, rfl, i.3, i.4, i.5, i.6, i.7, i.8, i.9, i.10⟩, Attic.grows_refl _, rfl⟩
theorem State.aonReset_from {s0 : State} (s : State) (h : s0.Leads s) : s0.Leads (State.aonReset s) :=
  (State.mainReset_from s h).trans (State.aonReset_body _ _ _ _)

theorem execHearthUpdate_from (die : Nat) (s : State) : LeadsOut s (execHearthUpdate die s) := by
  unfold execHearthUpdate
  repeat' first
    | with_reducible refine State.leads_foldl _ _ _ _ ?_ ?_ | with_reducible exact State.Leads.refl _
    | simp only [State.leads_mk_eq] | with_reducible refine LeadsParts.hearth _ _ ?_ ?_ | (with_reducible exact fun k => k)
    | with_reducible refine State.updateModel_from _ _ ?_ | with_reducible refine act_from _ _ _ ?_ | intro _

theorem execGrace_from (m : Fin 57) (s : State) : LeadsOut s (execGrace m s) := by
  unfold execGrace
  try dsimp only
  repeat' first
    | with_reducible exact State.Leads.refl _ | with_reducible apply State.leads_ite | split
    | with_reducible refine State.modelTo_from _ _ _ ?_ | with_reducible refine State.tripActs_from _ _ ?_
    | with_reducible refine State.clampActs_from _ _ ?_ | with_reducible refine State.showModel_from _ _ ?_
    | with_reducible refine act_from _ _ _ ?_

theorem execIthRecompute_from (m : Fin 57) (s : State) : LeadsOut s (execIthRecompute m s) := by
  unfold execIthRecompute
  try dsimp only
  repeat' first
    | with_reducible exact State.Leads.refl _ | split | with_reducible refine State.setModel_from _ _ _ ?_
    | with_reducible refine State.showModel_from _ _ ?_ | with_reducible refine State.clampActs_from _ _ ?_
    | with_reducible refine act_from _ _ _ ?_

theorem execClampRelease_from (m : Fin 57) (s : State) : LeadsOut s (execClampRelease m s) := by
  unfold execClampRelease
  try dsimp only
  repeat' first
    | with_reducible exact State.Leads.refl _ | with_reducible refine State.modelTo_from _ _ _ ?_
    | with_reducible refine State.clampActs_from _ _ ?_ | with_reducible refine act_from _ _ _ ?_

theorem execDieCapRelease_from (s : State) : LeadsOut s (execDieCapRelease s) := by
  unfold execDieCapRelease
  try dsimp only
  repeat' first
    | with_reducible exact State.Leads.refl _ | with_reducible refine State.modelTo_from _ _ _ ?_
    | with_reducible refine State.enforce_from _ ?_ | with_reducible refine act_from _ _ _ ?_

theorem State.tambConvert_from {s0 : State} (s : State) (n : Nat) (mv : Nat) (h : s0.Leads s) : s0.Leads (State.tambConvert s n mv) := by
  refine State.Leads.trans h ?_
  unfold State.tambConvert
  try dsimp only
  repeat' first
    | with_reducible exact State.Leads.refl _ | simp only [State.leads_mk_eq]
    | with_reducible refine LeadsParts.hearth _ _ ?_ ?_ | (with_reducible exact fun k => k)
    | with_reducible apply State.leads_ite | with_reducible refine State.on_from _ _ ?_
    | with_reducible refine State.put_from _ _ _ ?_ | with_reducible refine State.putB_from _ _ _ ?_

end Sys2Proof.Machine
end

