-- ==== Sys2Proof/Laws/LeadsC.lean ====
section
/-! SUPPORT. Laws/LeadsC.lean: what the operations and the commands of these files keep: Hearth, Slot, Converter, Faults, Power, PairOps, Snapshot, DebugWrites. -/

namespace Sys2Proof.Machine

theorem execTambConversion_from (mv0 mv1 : Nat) (s : State) : LeadsOut s (execTambConversion mv0 mv1 s) := by
  unfold execTambConversion
  repeat' first
    | with_reducible exact State.Leads.refl _ | with_reducible refine State.tambConvert_from _ _ _ ?_
    | with_reducible refine act_from _ _ _ ?_

theorem State.holdPorts_from {s0 : State} (s : State) (b : Fin 6) (h : s0.Leads s) : s0.Leads (State.holdPorts s b) := by
  refine State.Leads.trans h ?_
  unfold State.holdPorts
  try dsimp only
  repeat' first
    | with_reducible refine State.leads_foldl _ _ _ _ ?_ ?_ | with_reducible exact State.Leads.refl _
    | with_reducible apply State.leads_ite | with_reducible refine State.onRoomE_from _ _ _ ?_ ?_
    | with_reducible refine State.onLand_from _ _ _ ?_ | with_reducible exact Room.Keeps.refl _
    | with_reducible refine Room.senseHoldOn_from _ _ ?_ | intro _

theorem execPowerBalanceCheck_from (b : Fin 6) (slot : Int) (ports : List Int) (s : State) : LeadsOut s (execPowerBalanceCheck b slot ports s) := by
  unfold execPowerBalanceCheck
  try dsimp only
  repeat' first
    | with_reducible exact State.Leads.refl _ | with_reducible apply State.leads_ite
    | with_reducible refine State.onLand_from _ _ _ ?_ | with_reducible refine State.holdPorts_from _ _ ?_
    | with_reducible refine State.handUp_from _ _ ?_ | with_reducible refine act_from _ _ _ ?_

theorem State.slotMeasure_from {s0 : State} (s : State) (b : Fin 6) (m : SlotMeas) (h : s0.Leads s) : s0.Leads (State.slotMeasure s b m) := by
  refine State.Leads.trans h ?_
  unfold State.slotMeasure
  repeat' first
    | with_reducible exact State.Leads.refl _ | with_reducible refine State.onLand_from _ _ _ ?_

theorem slotAct_from (s : State) (b : Fin 6) (m : SlotMeas) (f : State → State) (k : ∀ s : State, s.Leads (f s)) :
    LeadsOut s (slotAct s b m f) := by
  have h := State.slotMeasure_from s b m (.refl s)
  exact act_from _ _ _ (State.leads_ite _ _ _ (h.trans (k _)) h)

theorem execSeatChange_from (b : Fin 6) (seat1 seat2 : Bool) (s : State) : LeadsOut s (execSeatChange b seat1 seat2 s) := by
  unfold execSeatChange
  repeat' first
    | with_reducible exact State.Leads.refl _ | with_reducible refine State.onLand_from _ _ _ ?_
    | with_reducible refine State.slotSettle_from _ _ ?_ | with_reducible refine act_from _ _ _ ?_

theorem State.toInrush_from {s0 : State} (s : State) (b : Fin 6) (h : s0.Leads s) : s0.Leads (State.toInrush s b) := by
  refine State.Leads.trans h ?_
  unfold State.toInrush
  try dsimp only
  repeat' first
    | with_reducible exact State.Leads.refl _ | with_reducible apply State.leads_ite
    | with_reducible refine State.slotTo_from _ _ _ _ ?_

theorem execTseat_from (b : Fin 6) (m : SlotMeas) (s : State) : LeadsOut s (execTseat b m s) := by
  unfold execTseat
  repeat' first
    | with_reducible exact State.Leads.refl _ | with_reducible refine State.toInrush_from _ _ ?_
    | (with_reducible refine slotAct_from _ _ _ _ (fun s => ?_))

theorem execVslotinRise_from (b : Fin 6) (m : SlotMeas) (s : State) : LeadsOut s (execVslotinRise b m s) := by
  unfold execVslotinRise
  repeat' first
    | with_reducible exact State.Leads.refl _ | with_reducible refine State.toInrush_from _ _ ?_
    | (with_reducible refine slotAct_from _ _ _ _ (fun s => ?_))

theorem execSeatLift_from (b : Fin 6) (seat1 seat2 : Bool) (s : State) : LeadsOut s (execSeatLift b seat1 seat2 s) := by
  unfold execSeatLift
  try dsimp only
  repeat' first
    | with_reducible exact State.Leads.refl _ | with_reducible refine State.onLand_from _ _ _ ?_
    | with_reducible refine State.slotTo_from _ _ _ _ ?_ | with_reducible refine act_from _ _ _ ?_

theorem execGateUp_from (b : Fin 6) (m : SlotMeas) (s : State) : LeadsOut s (execGateUp b m s) := by
  unfold execGateUp
  repeat' first
    | with_reducible exact State.Leads.refl _ | with_reducible apply State.leads_ite
    | with_reducible refine State.slotTo_from _ _ _ _ ?_ | with_reducible refine State.slotMeasure_from _ _ _ ?_
    | (with_reducible refine slotAct_from _ _ _ _ (fun s => ?_))

theorem State.releaseSlot_from {s0 : State} (s : State) (b : Fin 6) (h : s0.Leads s) : s0.Leads (State.releaseSlot s b) := by
  refine State.Leads.trans h ?_
  unfold State.releaseSlot
  repeat' first
    | with_reducible refine State.leads_foldl _ _ _ _ ?_ ?_ | with_reducible exact State.Leads.refl _
    | with_reducible apply State.leads_ite | with_reducible refine State.onRoomE_from _ _ _ ?_ ?_
    | with_reducible exact Room.Keeps.refl _ | with_reducible refine Room.leaveSlotHold_from _ _ ?_ | intro _

theorem execSlotOn_from (b : Fin 6) (m : SlotMeas) (s : State) : LeadsOut s (execSlotOn b m s) := by
  unfold execSlotOn
  repeat' first
    | with_reducible exact State.Leads.refl _ | with_reducible apply State.leads_ite
    | with_reducible refine State.slotTo_from _ _ _ _ ?_ | with_reducible refine State.releaseSlot_from _ _ ?_
    | (with_reducible refine slotAct_from _ _ _ _ (fun s => ?_))

theorem execSlotLimitEdge_from (b : Fin 6) (limit : Fin 3) (m : SlotMeas) (s : State) : LeadsOut s (execSlotLimitEdge b limit m s) := by
  unfold execSlotLimitEdge
  try dsimp only
  repeat' first
    | with_reducible exact State.Leads.refl _ | split | with_reducible refine State.onLand_from _ _ _ ?_
    | (with_reducible refine slotAct_from _ _ _ _ (fun s => ?_))

theorem execInrushTo_from (b : Fin 6) (s : State) : LeadsOut s (execInrushTo b s) := by
  unfold execInrushTo
  try dsimp only
  repeat' first
    | with_reducible exact State.Leads.refl _
    | with_reducible exact LeadsOut.next _
    | with_reducible apply State.leads_ite
    | with_reducible apply LeadsOut.ite
    | with_reducible refine LeadsOut.of ?_
    | with_reducible refine LeadsSeq.ok ?_
    | with_reducible refine LeadsSeq.error ?_
    | with_reducible apply LeadsSeq.ite
    | with_reducible refine State.onLand_from _ _ _ ?_
    | with_reducible refine State.slotRetry_from _ _ _ ?_
    | with_reducible refine act_from _ _ _ ?_
    | split
    | intro _
    | dsimp only

theorem execShort_from (b : Fin 6) (neg : Bool) (s : State) : LeadsOut s (execShort b neg s) := by
  unfold execShort
  try dsimp only
  repeat' first
    | with_reducible exact State.Leads.refl _ | with_reducible apply State.leads_ite
    | with_reducible refine State.onLand_from _ _ _ ?_ | with_reducible refine State.slotRetry_from _ _ _ ?_
    | with_reducible refine act_from _ _ _ ?_

theorem execBreaker_from (b : Fin 6) (s : State) : LeadsOut s (execBreaker b s) := by
  unfold execBreaker
  try dsimp only
  repeat' first
    | with_reducible exact State.Leads.refl _ | with_reducible apply State.leads_ite
    | with_reducible refine State.onLand_from _ _ _ ?_ | with_reducible refine State.slotRetry_from _ _ _ ?_
    | with_reducible refine act_from _ _ _ ?_

theorem State.pgLoss_from {s0 : State} (s : State) (b : Fin 6) (h : s0.Leads s) : s0.Leads (State.pgLoss s b) := by
  refine State.Leads.trans h ?_
  unfold State.pgLoss
  try dsimp only
  repeat' first
    | with_reducible exact State.Leads.refl _ | with_reducible refine State.onLand_from _ _ _ ?_
    | with_reducible refine State.startShed_from _ _ _ ?_

theorem execPgLoss_from (b : Fin 6) (m : SlotMeas) (s : State) : LeadsOut s (execPgLoss b m s) := by
  unfold execPgLoss
  try dsimp only
  repeat' first
    | with_reducible exact State.Leads.refl _ | with_reducible apply State.leads_ite
    | with_reducible refine State.pgLoss_from _ _ ?_ | (with_reducible refine slotAct_from _ _ _ _ (fun s => ?_))

theorem State.slotFetShort_from {s0 : State} (s : State) (b : Fin 6) (h0 : s0.Leads s) : s0.Leads (State.slotFetShort s b) := by
  refine State.Leads.trans h0 ?_
  unfold State.slotFetShort
  try dsimp only
  repeat' first
    | with_reducible exact State.Leads.refl _
    | with_reducible exact LeadsOut.next _
    | with_reducible apply State.leads_ite
    | with_reducible refine State.onLand_from _ _ _ ?_
    | with_reducible refine State.slotTo_from _ _ _ _ ?_
    | split
    | intro _
    | dsimp only

theorem execSlotFetShort_from (b : Fin 6) (m : SlotMeas) (s : State) : LeadsOut s (execSlotFetShort b m s) := by
  unfold execSlotFetShort
  try dsimp only
  repeat' first
    | with_reducible exact State.Leads.refl _ | with_reducible apply State.leads_ite
    | with_reducible refine State.slotFetShort_from _ _ ?_ | (with_reducible refine slotAct_from _ _ _ _ (fun s => ?_))

theorem execSlotAttempt_from (b : Fin 6) (m : SlotMeas) (s : State) : LeadsOut s (execSlotAttempt b m s) := by
  unfold execSlotAttempt
  try dsimp only
  repeat' first
    | with_reducible exact State.Leads.refl _
    | with_reducible exact LeadsOut.next _
    | simp only [State.leads_mk_eq]
    | with_reducible refine LeadsParts.same _ ?_
    | with_reducible refine LeadsParts.cellar _ _ ?_ ?_
    | with_reducible refine LeadsParts.attic _ _ ?_ ?_
    | with_reducible refine LeadsParts.porch _ _ ?_ ?_
    | with_reducible refine LeadsParts.hearth _ _ ?_ ?_
    | with_reducible refine LeadsParts.links _ _ ?_ ?_
    | with_reducible refine LeadsParts.tcs _ _ ?_ ?_
    | with_reducible exact fun k => k
    | with_reducible exact fun k => eraseRange_wf _ _ _ k
    | with_reducible exact fun k => progBytes_wf _ _ _ k
    | with_reducible exact fun k => brecWrite_wf _ _ _ k
    | exact Attic.grows_same rfl rfl
    | (simp only [List.length_map, List.length_zipIdx]; exact id)
    | with_reducible apply State.leads_ite
    | with_reducible apply LeadsOut.ite
    | with_reducible refine LeadsOut.of ?_
    | with_reducible refine LeadsSeq.ok ?_
    | with_reducible refine LeadsSeq.error ?_
    | with_reducible apply LeadsSeq.ite
    | with_reducible refine State.slotTo_from _ _ _ _ ?_
    | with_reducible refine State.onLand_from _ _ _ ?_
    | with_reducible refine State.clampModel_from _ _ ?_
    | with_reducible refine State.on_from _ _ ?_
    | with_reducible refine State.toInrush_from _ _ ?_
    | with_reducible refine slotAct_from _ _ _ _ (fun s => ?_)
    | split
    | intro _
    | dsimp only

theorem execSlotAttemptOk_from (b : Fin 6) (s : State) : LeadsOut s (execSlotAttemptOk b s) := by
  unfold execSlotAttemptOk
  try dsimp only
  repeat' first
    | with_reducible exact State.Leads.refl _ | with_reducible refine State.onLand_from _ _ _ ?_
    | with_reducible refine act_from _ _ _ ?_

theorem execSlotCountReset_from (b : Fin 6) (s : State) : LeadsOut s (execSlotCountReset b s) := by
  unfold execSlotCountReset
  try dsimp only
  repeat' first
    | with_reducible exact State.Leads.refl _ | with_reducible refine State.onLand_from _ _ _ ?_
    | with_reducible refine act_from _ _ _ ?_

theorem execHsEnSet_from (b : Fin 6) (s : State) : LeadsOut s (execHsEnSet b s) := by
  unfold execHsEnSet
  repeat' first
    | with_reducible exact State.Leads.refl _
    | with_reducible exact LeadsOut.next _
    | with_reducible apply State.leads_ite
    | with_reducible apply LeadsOut.ite
    | with_reducible refine LeadsOut.of ?_
    | with_reducible refine LeadsSeq.ok ?_
    | with_reducible refine LeadsSeq.error ?_
    | with_reducible apply LeadsSeq.ite
    | with_reducible refine State.onLand_from _ _ _ ?_
    | with_reducible refine State.on_from _ _ ?_
    | with_reducible refine State.slotSettle_from _ _ ?_
    | with_reducible refine act_from _ _ _ ?_
    | split
    | intro _
    | dsimp only

theorem execHsEnClear_from (b : Fin 6) (s : State) : LeadsOut s (execHsEnClear b s) := by
  unfold execHsEnClear
  repeat' first
    | with_reducible exact State.Leads.refl _
    | with_reducible exact LeadsOut.next _
    | with_reducible apply State.leads_ite
    | with_reducible apply LeadsOut.ite
    | with_reducible refine LeadsOut.of ?_
    | with_reducible refine LeadsSeq.ok ?_
    | with_reducible refine LeadsSeq.error ?_
    | with_reducible apply LeadsSeq.ite
    | with_reducible refine State.onLand_from _ _ _ ?_
    | with_reducible refine State.off_from _ _ ?_
    | with_reducible refine State.slotSettle_from _ _ ?_
    | with_reducible refine act_from _ _ _ ?_
    | split
    | intro _
    | dsimp only

theorem State.hsRecover_from {s0 : State} (s : State) (b : Fin 6) (h : s0.Leads s) : s0.Leads (State.hsRecover s b) := by
  refine State.Leads.trans h ?_
  unfold State.hsRecover
  repeat' first
    | with_reducible exact State.Leads.refl _ | with_reducible apply State.leads_ite
    | with_reducible refine State.onLand_from _ _ _ ?_ | with_reducible refine State.slotTo_from _ _ _ _ ?_
    | with_reducible refine State.slotSettle_from _ _ ?_

theorem execHsRecover_from (b : Fin 6) (m : SlotMeas) (s : State) : LeadsOut s (execHsRecover b m s) := by
  unfold execHsRecover
  repeat' first
    | with_reducible exact State.Leads.refl _ | with_reducible refine State.hsRecover_from _ _ ?_
    | (with_reducible refine slotAct_from _ _ _ _ (fun s => ?_))

theorem execHsLimitWrite_from (b : Fin 6) (v : Word) (s : State) : LeadsOut s (execHsLimitWrite b v s) := by
  unfold execHsLimitWrite
  try dsimp only
  repeat' first
    | with_reducible exact State.Leads.refl _ | with_reducible refine State.onLand_from _ _ _ ?_
    | with_reducible refine act_from _ _ _ ?_

theorem State.trip_from {s0 : State} (s : State) (p k : Nat) (mid : Bool) (h0 : s0.Leads s) : s0.Leads (State.trip s p k mid) := by
  refine State.Leads.trans h0 ?_
  unfold State.trip
  try dsimp only
  repeat' first
    | with_reducible refine State.leads_foldl _ _ _ _ ?_ ?_
    | with_reducible exact State.Leads.refl _
    | with_reducible exact LeadsOut.next _
    | with_reducible apply State.leads_ite
    | with_reducible refine State.onRoomE_from _ _ _ ?_ ?_
    | with_reducible refine State.onRoom_from _ _ _ ?_ ?_
    | with_reducible refine Room.keeps_foldl _ _ _ _ ?_ ?_
    | with_reducible exact Room.Keeps.refl _
    | simp only [Room.keeps_mk_eq]
    | with_reducible refine KeepsParts.same _ ?_
    | with_reducible refine KeepsParts.data _ _ _ ?_
    | with_reducible refine KeepsParts.code _ _ _ ?_
    | with_reducible apply Room.keeps_ite
    | with_reducible refine Room.addHold_from _ _ _ ?_
    | with_reducible refine Room.openSwitch_from _ ?_
    | split
    | intro _
    | dsimp only

theorem State.untrip_from {s0 : State} (s : State) (p k : Nat) (h : s0.Leads s) : s0.Leads (State.untrip s p k) := by
  refine State.Leads.trans h ?_
  unfold State.untrip
  repeat' first
    | with_reducible refine State.leads_foldl _ _ _ _ ?_ ?_ | with_reducible exact State.Leads.refl _
    | with_reducible refine State.onRoomE_from _ _ _ ?_ ?_ | with_reducible exact Room.Keeps.refl _
    | with_reducible refine Room.dropHolds_from _ _ _ ?_ | intro _

theorem execLoopUpdate_from (p : Fin 48) (vbus cur vnode vin : BitVec 12) (vs is : List (BitVec 12)) (s : State) : LeadsOut s (execLoopUpdate p vbus cur vnode vin vs is s) := by
  unfold execLoopUpdate
  try dsimp only
  repeat' first
    | with_reducible exact State.Leads.refl _
    | with_reducible exact LeadsOut.next _
    | with_reducible apply State.leads_ite
    | with_reducible apply LeadsOut.ite
    | with_reducible refine LeadsOut.of ?_
    | with_reducible refine LeadsSeq.ok ?_
    | with_reducible refine LeadsSeq.error ?_
    | with_reducible apply LeadsSeq.ite
    | split
    | with_reducible refine State.onRoomE_from _ _ _ ?_ ?_
    | with_reducible refine State.onRoom_from _ _ _ ?_ ?_
    | with_reducible refine act_from _ _ _ ?_
    | with_reducible exact Room.Keeps.refl _
    | simp only [Room.keeps_mk_eq]
    | with_reducible refine KeepsParts.same _ ?_
    | with_reducible refine KeepsParts.data _ _ _ ?_
    | with_reducible refine KeepsParts.code _ _ _ ?_
    | with_reducible apply Room.keeps_ite
    | with_reducible refine Room.sampleFollower_from _ _ _ _ ?_
    | with_reducible refine Room.means_from _ _ _ _ ?_
    | with_reducible refine Room.sample_from _ _ _ _ _ _ ?_
    | with_reducible refine Room.moveTrim_from _ _ _ ?_
    | with_reducible refine Room.pushHigh_from _ _ ?_
    | with_reducible refine Room.computeForward_from _ _ _ ?_
    | with_reducible refine Room.computeReverse_from _ _ ?_
    | with_reducible refine Room.judge_from _ _ ?_
    | with_reducible refine Room.showThr_from _ _ ?_
    | split
    | intro _
    | dsimp only

theorem execPeriodStart_from (p : Fin 48) (s : State) : LeadsOut s (execPeriodStart p s) := by
  unfold execPeriodStart
  try dsimp only
  repeat' first
    | with_reducible refine State.leads_foldl _ _ _ _ ?_ ?_
    | with_reducible exact State.Leads.refl _
    | with_reducible exact LeadsOut.next _
    | simp only [State.leads_mk_eq]
    | with_reducible refine LeadsParts.same _ ?_
    | with_reducible refine LeadsParts.cellar _ _ ?_ ?_
    | with_reducible refine LeadsParts.attic _ _ ?_ ?_
    | with_reducible refine LeadsParts.porch _ _ ?_ ?_
    | with_reducible refine LeadsParts.hearth _ _ ?_ ?_
    | with_reducible refine LeadsParts.links _ _ ?_ ?_
    | with_reducible refine LeadsParts.tcs _ _ ?_ ?_
    | with_reducible exact fun k => k
    | with_reducible exact fun k => eraseRange_wf _ _ _ k
    | with_reducible exact fun k => progBytes_wf _ _ _ k
    | with_reducible exact fun k => brecWrite_wf _ _ _ k
    | exact Attic.grows_same rfl rfl
    | (simp only [List.length_map, List.length_zipIdx]; exact id)
    | with_reducible apply State.leads_ite
    | with_reducible apply LeadsOut.ite
    | with_reducible refine LeadsOut.of ?_
    | with_reducible refine LeadsSeq.ok ?_
    | with_reducible refine LeadsSeq.error ?_
    | with_reducible apply LeadsSeq.ite
    | split
    | with_reducible refine State.untrip_from _ _ _ ?_
    | with_reducible refine State.onRoom_from _ _ _ ?_ ?_
    | with_reducible refine State.onRoomE_from _ _ _ ?_ ?_
    | with_reducible refine State.tookPeriod_from _ _ ?_
    | with_reducible refine act_from _ _ _ ?_
    | with_reducible refine Room.keeps_foldl _ _ _ _ ?_ ?_
    | with_reducible exact Room.Keeps.refl _
    | simp only [Room.keeps_mk_eq]
    | with_reducible refine KeepsParts.same _ ?_
    | with_reducible refine KeepsParts.data _ _ _ ?_
    | with_reducible refine KeepsParts.code _ _ _ ?_
    | with_reducible apply Room.keeps_ite
    | with_reducible refine Room.unlatch_from _ _ ?_
    | with_reducible refine Room.startPeriod_from _ _ ?_
    | with_reducible refine Room.onConv_from _ _ ?_
    | split
    | intro _
    | dsimp only

theorem execSoftStartDone_from (p : Fin 48) (s : State) : LeadsOut s (execSoftStartDone p s) := by
  unfold execSoftStartDone
  repeat' first
    | with_reducible exact State.Leads.refl _
    | with_reducible exact LeadsOut.next _
    | with_reducible apply State.leads_ite
    | with_reducible apply LeadsOut.ite
    | with_reducible refine LeadsOut.of ?_
    | with_reducible refine LeadsSeq.ok ?_
    | with_reducible refine LeadsSeq.error ?_
    | with_reducible apply LeadsSeq.ite
    | with_reducible refine State.onRoomE_from _ _ _ ?_ ?_
    | with_reducible refine act_from _ _ _ ?_
    | with_reducible exact Room.Keeps.refl _
    | simp only [Room.keeps_mk_eq]
    | with_reducible refine KeepsParts.same _ ?_
    | with_reducible refine KeepsParts.data _ _ _ ?_
    | with_reducible refine KeepsParts.code _ _ _ ?_
    | with_reducible apply Room.keeps_ite
    | with_reducible refine Room.setLoop_from _ _ ?_
    | with_reducible refine Room.slewRate_from _ ?_
    | with_reducible refine Room.refreshRamp_from _ _ _ ?_
    | split
    | intro _
    | dsimp only

theorem execSoftStopDone_from (p : Fin 48) (s : State) : LeadsOut s (execSoftStopDone p s) := by
  unfold execSoftStopDone
  try dsimp only
  repeat' first
    | with_reducible exact State.Leads.refl _ | with_reducible refine State.onRoomE_from _ _ _ ?_ ?_
    | with_reducible refine act_from _ _ _ ?_ | with_reducible exact Room.Keeps.refl _ | with_reducible apply Room.keeps_ite
    | with_reducible refine Room.loopOff_from _ ?_ | with_reducible refine Room.refreshRamp_from _ _ _ ?_
    | with_reducible refine Room.openSwitch_from _ ?_ | with_reducible refine Room.onConv_from _ _ ?_
    | with_reducible refine Room.powerOn_from _ _ ?_ | intro _

theorem execCoefApply_from (p : Fin 48) (s : State) : LeadsOut s (execCoefApply p s) := by
  unfold execCoefApply
  repeat' first
    | with_reducible exact State.Leads.refl _ | with_reducible refine State.onRoom_from _ _ _ ?_ ?_
    | with_reducible refine act_from _ _ _ ?_ | with_reducible exact Room.Keeps.refl _
    | with_reducible refine Room.onConv_from _ _ ?_ | intro _

theorem execThresholdTrip_from (p : Fin 48) (k : Fin 4) (neg : Bool) (cycles : Nat) (s : State) : LeadsOut s (execThresholdTrip p k neg cycles s) := by
  unfold execThresholdTrip
  try dsimp only
  repeat' first
    | with_reducible exact State.Leads.refl _
    | with_reducible exact LeadsOut.next _
    | simp only [State.leads_mk_eq]
    | with_reducible refine LeadsParts.same _ ?_
    | with_reducible refine LeadsParts.cellar _ _ ?_ ?_
    | with_reducible refine LeadsParts.attic _ _ ?_ ?_
    | with_reducible refine LeadsParts.porch _ _ ?_ ?_
    | with_reducible refine LeadsParts.hearth _ _ ?_ ?_
    | with_reducible refine LeadsParts.links _ _ ?_ ?_
    | with_reducible refine LeadsParts.tcs _ _ ?_ ?_
    | with_reducible exact fun k => k
    | with_reducible exact fun k => eraseRange_wf _ _ _ k
    | with_reducible exact fun k => progBytes_wf _ _ _ k
    | with_reducible exact fun k => brecWrite_wf _ _ _ k
    | exact Attic.grows_same rfl rfl
    | (simp only [List.length_map, List.length_zipIdx]; exact id)
    | with_reducible apply State.leads_ite
    | with_reducible apply LeadsOut.ite
    | with_reducible refine LeadsOut.of ?_
    | with_reducible refine LeadsSeq.ok ?_
    | with_reducible refine LeadsSeq.error ?_
    | with_reducible apply LeadsSeq.ite
    | with_reducible refine State.onRoom_from _ _ _ ?_ ?_
    | with_reducible refine State.put_from _ _ _ ?_
    | with_reducible refine State.trip_from _ _ _ _ ?_
    | with_reducible refine act_from _ _ _ ?_
    | with_reducible exact Room.Keeps.refl _
    | simp only [Room.keeps_mk_eq]
    | with_reducible refine KeepsParts.same _ ?_
    | with_reducible refine KeepsParts.data _ _ _ ?_
    | with_reducible refine KeepsParts.code _ _ _ ?_
    | with_reducible apply Room.keeps_ite
    | with_reducible refine Room.put_from _ _ _ ?_
    | with_reducible refine Room.onConv_from _ _ ?_
    | split
    | intro _
    | dsimp only

theorem execThresholdLatch_from (p : Fin 48) (k : Fin 4) (neg : Bool) (s : State) : LeadsOut s (execThresholdLatch p k neg s) := by
  unfold execThresholdLatch
  try dsimp only
  repeat' first
    | with_reducible exact State.Leads.refl _ | with_reducible apply State.leads_ite
    | with_reducible refine State.onRoom_from _ _ _ ?_ ?_ | with_reducible refine State.enterSafe_from _ _ _ _ ?_
    | with_reducible refine act_from _ _ _ ?_ | with_reducible exact Room.Keeps.refl _
    | with_reducible refine Room.latch_from _ _ _ ?_ | intro _

theorem execOvT_from (p : Fin 48) (s : State) : LeadsOut s (execOvT p s) := by
  unfold execOvT
  try dsimp only
  repeat' first
    | with_reducible exact State.Leads.refl _ | with_reducible refine State.enterSafe_from _ _ _ _ ?_
    | with_reducible refine act_from _ _ _ ?_

theorem execUvT_from (p : Fin 48) (s : State) : LeadsOut s (execUvT p s) := by
  unfold execUvT
  try dsimp only
  repeat' first
    | with_reducible exact State.Leads.refl _ | with_reducible refine State.enterSafe_from _ _ _ _ ?_
    | with_reducible refine act_from _ _ _ ?_

theorem execRegLoss_from (p : Fin 48) (s : State) : LeadsOut s (execRegLoss p s) := by
  unfold execRegLoss
  try dsimp only
  repeat' first
    | with_reducible exact State.Leads.refl _ | with_reducible refine State.enterSafe_from _ _ _ _ ?_
    | with_reducible refine State.onRoom_from _ _ _ ?_ ?_ | with_reducible refine act_from _ _ _ ?_
    | with_reducible exact Room.Keeps.refl _ | with_reducible refine Room.onConv_from _ _ ?_ | intro _

theorem execEfuse_from (p : Fin 48) (s : State) : LeadsOut s (execEfuse p s) := by
  unfold execEfuse
  try dsimp only
  repeat' first
    | with_reducible exact State.Leads.refl _ | with_reducible refine State.enterSafe_from _ _ _ _ ?_
    | with_reducible refine act_from _ _ _ ?_

theorem execFoldbackTimeout_from (p : Fin 48) (s : State) : LeadsOut s (execFoldbackTimeout p s) := by
  unfold execFoldbackTimeout
  try dsimp only
  repeat' first
    | with_reducible exact State.Leads.refl _ | with_reducible refine State.enterSafe_from _ _ _ _ ?_
    | with_reducible refine act_from _ _ _ ?_

theorem execColdClose_from (p : Fin 48) (s : State) : LeadsOut s (execColdClose p s) := by
  unfold execColdClose
  try dsimp only
  repeat' first
    | with_reducible refine State.leads_foldl _ _ _ _ ?_ ?_
    | with_reducible exact State.Leads.refl _
    | with_reducible exact LeadsOut.next _
    | simp only [State.leads_mk_eq]
    | with_reducible refine LeadsParts.same _ ?_
    | with_reducible refine LeadsParts.cellar _ _ ?_ ?_
    | with_reducible refine LeadsParts.attic _ _ ?_ ?_
    | with_reducible refine LeadsParts.porch _ _ ?_ ?_
    | with_reducible refine LeadsParts.hearth _ _ ?_ ?_
    | with_reducible refine LeadsParts.links _ _ ?_ ?_
    | with_reducible refine LeadsParts.tcs _ _ ?_ ?_
    | with_reducible exact fun k => k
    | with_reducible exact fun k => eraseRange_wf _ _ _ k
    | with_reducible exact fun k => progBytes_wf _ _ _ k
    | with_reducible exact fun k => brecWrite_wf _ _ _ k
    | exact Attic.grows_same rfl rfl
    | (simp only [List.length_map, List.length_zipIdx]; exact id)
    | with_reducible apply State.leads_ite
    | with_reducible apply LeadsOut.ite
    | with_reducible refine LeadsOut.of ?_
    | with_reducible refine LeadsSeq.ok ?_
    | with_reducible refine LeadsSeq.error ?_
    | with_reducible apply LeadsSeq.ite
    | with_reducible refine State.onRoom_from _ _ _ ?_ ?_
    | with_reducible refine State.put_from _ _ _ ?_
    | with_reducible refine State.on_from _ _ ?_
    | with_reducible refine act_from _ _ _ ?_
    | with_reducible refine Room.keeps_foldl _ _ _ _ ?_ ?_
    | with_reducible exact Room.Keeps.refl _
    | simp only [Room.keeps_mk_eq]
    | with_reducible refine KeepsParts.same _ ?_
    | with_reducible refine KeepsParts.data _ _ _ ?_
    | with_reducible refine KeepsParts.code _ _ _ ?_
    | with_reducible apply Room.keeps_ite
    | with_reducible refine Room.put_from _ _ _ ?_
    | with_reducible refine Room.on_from _ _ ?_
    | with_reducible refine Room.onConv_from _ _ ?_
    | split
    | intro _
    | dsimp only

theorem execRetryAttempt_from (p : Fin 48) (s : State) : LeadsOut s (execRetryAttempt p s) := by
  unfold execRetryAttempt
  try dsimp only
  repeat' first
    | with_reducible exact State.Leads.refl _
    | with_reducible exact LeadsOut.next _
    | simp only [State.leads_mk_eq]
    | with_reducible refine LeadsParts.same _ ?_
    | with_reducible refine LeadsParts.cellar _ _ ?_ ?_
    | with_reducible refine LeadsParts.attic _ _ ?_ ?_
    | with_reducible refine LeadsParts.porch _ _ ?_ ?_
    | with_reducible refine LeadsParts.hearth _ _ ?_ ?_
    | with_reducible refine LeadsParts.links _ _ ?_ ?_
    | with_reducible refine LeadsParts.tcs _ _ ?_ ?_
    | with_reducible exact fun k => k
    | with_reducible exact fun k => eraseRange_wf _ _ _ k
    | with_reducible exact fun k => progBytes_wf _ _ _ k
    | with_reducible exact fun k => brecWrite_wf _ _ _ k
    | exact Attic.grows_same rfl rfl
    | (simp only [List.length_map, List.length_zipIdx]; exact id)
    | with_reducible apply State.leads_ite
    | with_reducible apply LeadsOut.ite
    | with_reducible refine LeadsOut.of ?_
    | with_reducible refine LeadsSeq.ok ?_
    | with_reducible refine LeadsSeq.error ?_
    | with_reducible apply LeadsSeq.ite
    | with_reducible refine State.onRoom_from _ _ _ ?_ ?_
    | with_reducible refine State.clampModel_from _ _ ?_
    | with_reducible refine State.onRoomE_from _ _ _ ?_ ?_
    | with_reducible refine act_from _ _ _ ?_
    | with_reducible exact Room.Keeps.refl _
    | simp only [Room.keeps_mk_eq]
    | with_reducible refine KeepsParts.same _ ?_
    | with_reducible refine KeepsParts.data _ _ _ ?_
    | with_reducible refine KeepsParts.code _ _ _ ?_
    | with_reducible apply Room.keeps_ite
    | with_reducible refine Room.onConv_from _ _ ?_
    | with_reducible refine Room.attempt_from _ _ ?_
    | split
    | intro _
    | dsimp only

theorem execAttemptWindowEnd_from (p : Fin 48) (s : State) : LeadsOut s (execAttemptWindowEnd p s) := by
  unfold execAttemptWindowEnd
  try dsimp only
  repeat' first
    | with_reducible exact State.Leads.refl _ | with_reducible refine State.onRoomE_from _ _ _ ?_ ?_
    | with_reducible refine act_from _ _ _ ?_ | with_reducible exact Room.Keeps.refl _ | simp only [Room.keeps_mk_eq]
    | with_reducible refine KeepsParts.same _ ?_ | with_reducible refine Room.on_from _ _ ?_
    | with_reducible refine Room.off_from _ _ ?_ | with_reducible refine Room.onConv_from _ _ ?_
    | with_reducible refine Room.vconn_from _ _ ?_ | with_reducible refine Room.implicitVi_from _ _ ?_
    | with_reducible refine Room.afterTrans_from _ _ ?_ | intro _

theorem execRetryCountReset_from (p : Fin 48) (s : State) : LeadsOut s (execRetryCountReset p s) := by
  unfold execRetryCountReset
  try dsimp only
  repeat' first
    | with_reducible exact State.Leads.refl _ | with_reducible refine State.onRoom_from _ _ _ ?_ ?_
    | with_reducible refine act_from _ _ _ ?_ | with_reducible exact Room.Keeps.refl _
    | with_reducible refine Room.off_from _ _ ?_ | with_reducible refine Room.onConv_from _ _ ?_ | intro _

theorem execFetShort_from (p : Fin 48) (s : State) : LeadsOut s (execFetShort p s) := by
  unfold execFetShort
  try dsimp only
  repeat' first
    | with_reducible exact State.Leads.refl _ | with_reducible refine State.enterSafe_from _ _ _ _ ?_
    | with_reducible refine act_from _ _ _ ?_

theorem State.writeForce_from {s0 : State} (s : State) (p : Fin 48) (on : Bool) (h0 : s0.Leads s) : s0.Leads (State.writeForce s p on) := by
  refine State.Leads.trans h0 ?_
  unfold State.writeForce
  repeat' first
    | with_reducible exact State.Leads.refl _
    | with_reducible exact LeadsOut.next _
    | with_reducible apply State.leads_ite
    | with_reducible refine State.onRoom_from _ _ _ ?_ ?_
    | with_reducible refine State.putB_from _ _ _ ?_
    | with_reducible refine State.onRoomE_from _ _ _ ?_ ?_
    | with_reducible refine State.gangLevel_from _ _ ?_
    | with_reducible exact Room.Keeps.refl _
    | simp only [Room.keeps_mk_eq]
    | with_reducible refine KeepsParts.same _ ?_
    | with_reducible refine KeepsParts.data _ _ _ ?_
    | with_reducible refine KeepsParts.code _ _ _ ?_
    | with_reducible apply Room.keeps_ite
    | with_reducible refine Room.putB_from _ _ _ ?_
    | with_reducible refine Room.forceSafe_from _ _ ?_
    | with_reducible refine Room.releaseSafe_from _ _ ?_
    | split
    | intro _
    | dsimp only

theorem execForceSafe_from (p : Fin 48) (core on : Bool) (s : State) : LeadsOut s (execForceSafe p core on s) := by
  unfold execForceSafe
  repeat' first
    | with_reducible exact State.Leads.refl _
    | with_reducible exact LeadsOut.next _
    | with_reducible apply State.leads_ite
    | with_reducible apply LeadsOut.ite
    | with_reducible refine LeadsOut.of ?_
    | with_reducible refine LeadsSeq.ok ?_
    | with_reducible refine LeadsSeq.error ?_
    | with_reducible apply LeadsSeq.ite
    | with_reducible refine State.onRoomE_from _ _ _ ?_ ?_
    | with_reducible refine State.gangLevel_from _ _ ?_
    | with_reducible refine State.writeForce_from _ _ _ ?_
    | with_reducible refine act_from _ _ _ ?_
    | with_reducible exact Room.Keeps.refl _
    | simp only [Room.keeps_mk_eq]
    | with_reducible refine KeepsParts.same _ ?_
    | with_reducible refine KeepsParts.data _ _ _ ?_
    | with_reducible refine KeepsParts.code _ _ _ ?_
    | with_reducible apply Room.keeps_ite
    | with_reducible refine Room.requestSafe_from _ _ ?_
    | split
    | intro _
    | dsimp only

theorem Room.faults_mems (l : List Field) (r : Room) : (l.foldl (fun r f => r.fault f) r).mems = r.mems := by
  induction l generalizing r with
  | nil => rfl
  | cons a l ih => exact (ih _).trans (Room.fault_mems _ _)
theorem State.recover_from {s0 : State} (s : State) (p : Fin 48) (h : s0.Leads s) : s0.Leads (State.recover s p) := by
  refine h.trans ?_
  unfold State.recover
  refine State.leads_ite _ _ _ (.refl s) ?_
  extract_lets found
  refine State.leads_ite _ _ _ (State.onRoomE_leads _ _ _ fun e r => Room.keeps_of _ _ (Room.leaveSafe_mems _ _)) ?_
  exact State.onRoom_leads _ _ _ fun r => Room.keeps_of _ _ ((Room.faults_mems _ _).trans rfl)

theorem execRecover_from (p : Fin 48) (s : State) : LeadsOut s (execRecover p s) := by
  unfold execRecover
  repeat' first
    | with_reducible exact State.Leads.refl _ | with_reducible refine State.recover_from _ _ ?_
    | with_reducible refine act_from _ _ _ ?_

theorem execAdcCalibration_from (p : Fin 48) (adc : Fin 2) (gain offset : Int) (s : State) : LeadsOut s (execAdcCalibration p adc gain offset s) := by
  unfold execAdcCalibration
  try dsimp only
  repeat' first
    | with_reducible exact State.Leads.refl _ | with_reducible apply State.leads_ite
    | with_reducible refine State.onWing_from _ _ _ ?_ | with_reducible refine State.onRoom_from _ _ _ ?_ ?_
    | with_reducible refine State.onRoomE_from _ _ _ ?_ ?_ | with_reducible refine State.onLand_from _ _ _ ?_
    | with_reducible refine act_from _ _ _ ?_ | with_reducible exact Room.Keeps.refl _ | simp only [Room.keeps_mk_eq]
    | with_reducible refine KeepsParts.same _ ?_ | with_reducible refine Room.fault_from _ _ ?_
    | with_reducible refine Room.senseHoldOn_from _ _ ?_ | intro _

theorem State.landInternal_from {s0 : State} (s : State) (b : Fin 6) (f : Field) (h : s0.Leads s) : s0.Leads (State.landInternal s b f) := by
  refine State.Leads.trans h ?_
  unfold State.landInternal
  try dsimp only
  repeat' first
    | with_reducible exact State.Leads.refl _ | with_reducible apply State.leads_ite
    | with_reducible refine State.onLand_from _ _ _ ?_ | with_reducible refine State.handUp_from _ _ ?_
    | with_reducible refine State.startShed_from _ _ _ ?_

theorem State.landFault_from {s0 : State} (s : State) (b : Fin 6) (c : SlotCause) (h : s0.Leads s) : s0.Leads (State.landFault s b c) := by
  refine State.Leads.trans h ?_
  unfold State.landFault
  try dsimp only
  repeat' first
    | with_reducible exact State.Leads.refl _ | with_reducible apply State.leads_ite | split
    | with_reducible refine State.onLand_from _ _ _ ?_ | with_reducible refine State.slotRetry_from _ _ _ ?_
    | with_reducible refine State.slotTo_from _ _ _ _ ?_ | with_reducible refine State.slotFetShort_from _ _ ?_
    | with_reducible refine State.pgLoss_from _ _ ?_ | with_reducible refine State.slotTrip_from _ _ ?_
    | with_reducible refine State.holdPorts_from _ _ ?_ | with_reducible refine State.landInternal_from _ _ _ ?_

theorem execLandingFault_from (b : Fin 6) (cause : SlotCause) (s : State) : LeadsOut s (execLandingFault b cause s) := by
  unfold execLandingFault
  repeat' first
    | with_reducible exact State.Leads.refl _ | with_reducible refine State.landFault_from _ _ _ ?_
    | with_reducible refine act_from _ _ _ ?_

theorem execLandingShedStep_from (b : Fin 6) (s : State) : LeadsOut s (execLandingShedStep b s) := by
  unfold execLandingShedStep
  try dsimp only
  repeat' first
    | with_reducible exact State.Leads.refl _ | with_reducible exact LeadsOut.next _ | split
    | with_reducible refine State.onLand_from _ _ _ ?_ | with_reducible refine State.shedClass_from _ _ _ ?_
    | with_reducible refine State.slotRetry_from _ _ _ ?_ | with_reducible refine State.slotTo_from _ _ _ _ ?_
    | with_reducible refine act_from _ _ _ ?_

theorem execLandingSelfCheck_from (b : Fin 6) (s : State) : LeadsOut s (execLandingSelfCheck b s) := by
  unfold execLandingSelfCheck
  repeat' first
    | with_reducible exact State.Leads.refl _ | with_reducible refine State.landInternal_from _ _ _ ?_
    | with_reducible refine act_from _ _ _ ?_

theorem execWingWatchdog_from (w : Fin 2) (part : WingPart) (s : State) : LeadsOut s (execWingWatchdog w part s) := by
  unfold execWingWatchdog
  repeat' first
    | with_reducible exact State.Leads.refl _ | split | with_reducible refine State.onWing_from _ _ _ ?_
    | with_reducible refine State.wingFault_from _ _ ?_ | with_reducible refine act_from _ _ _ ?_

theorem execWingSafeDelay_from (w : Fin 2) (s : State) : LeadsOut s (execWingSafeDelay w s) := by
  unfold execWingSafeDelay
  repeat' first
    | with_reducible exact State.Leads.refl _ | with_reducible refine State.wingSafe_from _ _ ?_
    | with_reducible refine act_from _ _ _ ?_

theorem State.restartWing_from {s0 : State} (s : State) (w : Fin 2) (h : s0.Leads s) : s0.Leads (State.restartWing s w) := by
  refine State.Leads.trans h ?_
  unfold State.restartWing
  try dsimp only
  repeat' first
    | with_reducible refine State.leads_foldl _ _ _ _ ?_ ?_ | with_reducible exact State.Leads.refl _
    | simp only [State.leads_mk_eq] | with_reducible refine LeadsParts.same _ ?_ | with_reducible apply State.leads_ite
    | with_reducible refine State.onWing_from _ _ _ ?_ | with_reducible refine State.onRoom_from _ _ _ ?_ ?_
    | with_reducible refine State.onLand_from _ _ _ ?_ | with_reducible refine State.slotTo_from _ _ _ _ ?_
    | with_reducible refine State.slotSettle_from _ _ ?_ | with_reducible exact Room.Keeps.refl _
    | simp only [Room.keeps_mk_eq] | with_reducible refine KeepsParts.same _ ?_ | intro _

theorem execWingRestart_from (w : Fin 2) (s : State) : LeadsOut s (execWingRestart w s) := by
  unfold execWingRestart
  repeat' first
    | with_reducible exact State.Leads.refl _ | with_reducible refine State.restartWing_from _ _ ?_
    | with_reducible refine act_from _ _ _ ?_

theorem execParity_from (site : Site) (s : State) : LeadsOut s (execParity site s) := by
  unfold execParity
  repeat' first
    | with_reducible exact State.Leads.refl _ | with_reducible apply State.leads_ite | split
    | with_reducible refine State.landInternal_from _ _ _ ?_ | with_reducible refine State.onRoom_from _ _ _ ?_ ?_
    | with_reducible refine State.handUp_from _ _ ?_ | with_reducible refine State.enterSafe_from _ _ _ _ ?_
    | with_reducible refine act_from _ _ _ ?_ | with_reducible exact Room.Keeps.refl _
    | with_reducible refine Room.fault_from _ _ ?_ | intro _

theorem execHbMiss_from (s : State) : LeadsOut s (execHbMiss s) := by
  unfold execHbMiss
  try dsimp only
  repeat' first
    | with_reducible exact State.Leads.refl _ | simp only [State.leads_mk_eq] | with_reducible refine LeadsParts.same _ ?_
    | with_reducible apply State.leads_ite | with_reducible refine State.on_from _ _ ?_
    | with_reducible refine State.dropKey_from _ ?_ | with_reducible refine act_from _ _ _ ?_

theorem State.portPin_from {s0 : State} (s : State) (p : Fin 48) (k : Nat) (bad : Bool) (h : s0.Leads s) : s0.Leads (State.portPin s p k bad) := by
  refine State.Leads.trans h ?_
  unfold State.portPin
  try dsimp only
  repeat' first
    | with_reducible exact State.Leads.refl _ | with_reducible apply State.leads_ite
    | with_reducible refine State.onRoom_from _ _ _ ?_ ?_ | with_reducible refine State.onLand_from _ _ _ ?_
    | with_reducible refine State.onRoomE_from _ _ _ ?_ ?_ | with_reducible refine State.enterSafe_from _ _ _ _ ?_
    | with_reducible exact Room.Keeps.refl _ | with_reducible refine Room.pinTest_from _ _ _ _ ?_
    | with_reducible refine Room.fault_from _ _ ?_ | with_reducible refine Room.senseHoldOn_from _ _ ?_
    | with_reducible refine Room.onConv_from _ _ ?_ | intro _

theorem State.slotPin_from {s0 : State} (s : State) (b : Fin 6) (k : Nat) (bad : Bool) (h : s0.Leads s) : s0.Leads (State.slotPin s b k bad) := by
  refine State.Leads.trans h ?_
  unfold State.slotPin
  try dsimp only
  repeat' first
    | with_reducible exact State.Leads.refl _ | with_reducible apply State.leads_ite
    | with_reducible refine State.onLand_from _ _ _ ?_ | with_reducible refine State.landFault_from _ _ _ ?_

theorem execOpenPinTest_from (pin : SensePin) (moved : Nat) (s : State) : LeadsOut s (execOpenPinTest pin moved s) := by
  unfold execOpenPinTest
  repeat' first
    | with_reducible exact State.Leads.refl _ | split | with_reducible refine State.portPin_from _ _ _ _ ?_
    | with_reducible refine State.slotPin_from _ _ _ _ ?_ | with_reducible refine act_from _ _ _ ?_

theorem State.refreshHold_from {s0 : State} (s : State) (b : Fin 6) (h : s0.Leads s) : s0.Leads (State.refreshHold s b) := by
  refine State.Leads.trans h ?_
  unfold State.refreshHold
  repeat' first
    | with_reducible exact State.Leads.refl _ | with_reducible refine State.onLand_from _ _ _ ?_

theorem execHoldEnd_from (site : Site) (s : State) : LeadsOut s (execHoldEnd site s) := by
  unfold execHoldEnd
  try dsimp only
  repeat' first
    | with_reducible refine State.leads_foldl _ _ _ _ ?_ ?_ | with_reducible exact State.Leads.refl _
    | with_reducible apply State.leads_ite | split | with_reducible refine State.onRoomE_from _ _ _ ?_ ?_
    | with_reducible refine State.refreshHold_from _ _ ?_ | with_reducible refine State.onLand_from _ _ _ ?_
    | with_reducible refine act_from _ _ _ ?_ | with_reducible exact Room.Keeps.refl _
    | with_reducible refine Room.senseHoldOff_from _ _ ?_ | intro _

theorem execClockFailure_from (xtal : Bool) (s : State) : LeadsOut s (execClockFailure xtal s) := by
  unfold execClockFailure
  try dsimp only
  repeat' first
    | with_reducible refine State.leads_foldl _ _ _ _ ?_ ?_ | with_reducible exact State.Leads.refl _
    | with_reducible apply State.leads_ite | with_reducible refine State.onClk_from _ _ ?_
    | with_reducible refine State.off_from _ _ ?_ | with_reducible refine State.dropKey_from _ ?_
    | with_reducible refine State.slotTo_from _ _ _ _ ?_ | with_reducible refine State.escalateAll_from _ _ ?_
    | with_reducible refine act_from _ _ _ ?_ | intro _

theorem execClkFail_from (s : State) : LeadsOut s (execClkFail s) := by
  unfold execClkFail
  repeat' first
    | with_reducible exact State.Leads.refl _ | with_reducible refine State.chipReset_from _ _ ?_
    | with_reducible refine act_from _ _ _ ?_

theorem execSlowXtalSelect_from (s : State) : LeadsOut s (execSlowXtalSelect s) := by
  unfold execSlowXtalSelect
  try dsimp only
  repeat' first
    | with_reducible exact State.Leads.refl _ | with_reducible apply State.leads_ite
    | with_reducible refine State.on_from _ _ ?_ | with_reducible refine act_from _ _ _ ?_

theorem execSlowSwitch_from (s : State) : LeadsOut s (execSlowSwitch s) := by
  unfold execSlowSwitch
  try dsimp only
  repeat' first
    | with_reducible exact State.Leads.refl _ | with_reducible apply State.leads_ite
    | with_reducible refine State.off_from _ _ ?_ | with_reducible refine State.on_from _ _ ?_
    | with_reducible refine State.onClk_from _ _ ?_ | with_reducible refine act_from _ _ _ ?_

theorem execRcCalibration_from (fRc : Nat) (s : State) : LeadsOut s (execRcCalibration fRc s) := by
  unfold execRcCalibration
  repeat' first
    | with_reducible exact State.Leads.refl _ | with_reducible refine State.put_from _ _ _ ?_
    | with_reducible refine State.on_from _ _ ?_ | with_reducible refine State.onClk_from _ _ ?_
    | with_reducible refine act_from _ _ _ ?_

theorem execSlowClockEdge_from (act : BitVec 10) (s : State) : LeadsOut s (execSlowClockEdge act s) := by
  unfold execSlowClockEdge
  try dsimp only
  repeat' first
    | with_reducible exact State.Leads.refl _
    | with_reducible exact LeadsOut.next _
    | simp only [State.leads_mk_eq]
    | with_reducible refine LeadsParts.same _ ?_
    | with_reducible refine LeadsParts.cellar _ _ ?_ ?_
    | with_reducible refine LeadsParts.attic _ _ ?_ ?_
    | with_reducible refine LeadsParts.porch _ _ ?_ ?_
    | with_reducible refine LeadsParts.hearth _ _ ?_ ?_
    | with_reducible refine LeadsParts.links _ _ ?_ ?_
    | with_reducible refine LeadsParts.tcs _ _ ?_ ?_
    | with_reducible exact fun k => k
    | with_reducible exact fun k => eraseRange_wf _ _ _ k
    | with_reducible exact fun k => progBytes_wf _ _ _ k
    | with_reducible exact fun k => brecWrite_wf _ _ _ k
    | exact Attic.grows_same rfl rfl
    | (simp only [List.length_map, List.length_zipIdx]; exact id)
    | with_reducible apply State.leads_ite
    | with_reducible apply LeadsOut.ite
    | with_reducible refine LeadsOut.of ?_
    | with_reducible refine LeadsSeq.ok ?_
    | with_reducible refine LeadsSeq.error ?_
    | with_reducible apply LeadsSeq.ite
    | with_reducible refine act_from _ _ _ ?_
    | with_reducible refine State.onClk_from _ _ ?_
    | with_reducible refine State.putB_from _ _ _ ?_
    | split
    | intro _
    | dsimp only

theorem State.makeUp_from {s0 : State} (s : State) (h0 : s0.Leads s) : s0.Leads (State.makeUp s) := by
  refine State.Leads.trans h0 ?_
  unfold State.makeUp
  repeat' first
    | with_reducible exact State.Leads.refl _
    | with_reducible exact LeadsOut.next _
    | simp only [State.leads_mk_eq]
    | with_reducible refine LeadsParts.same _ ?_
    | with_reducible refine LeadsParts.cellar _ _ ?_ ?_
    | with_reducible refine LeadsParts.attic _ _ ?_ ?_
    | with_reducible refine LeadsParts.porch _ _ ?_ ?_
    | with_reducible refine LeadsParts.hearth _ _ ?_ ?_
    | with_reducible refine LeadsParts.links _ _ ?_ ?_
    | with_reducible refine LeadsParts.tcs _ _ ?_ ?_
    | with_reducible exact fun k => k
    | with_reducible exact fun k => eraseRange_wf _ _ _ k
    | with_reducible exact fun k => progBytes_wf _ _ _ k
    | with_reducible exact fun k => brecWrite_wf _ _ _ k
    | exact Attic.grows_same rfl rfl
    | (simp only [List.length_map, List.length_zipIdx]; exact id)
    | with_reducible apply State.leads_ite
    | with_reducible refine State.setTb_from _ _ ?_
    | with_reducible refine State.onClk_from _ _ ?_
    | split
    | intro _
    | dsimp only

theorem execAonPor_from (s : State) : LeadsOut s (execAonPor s) := by
  unfold execAonPor
  repeat' first
    | with_reducible exact State.Leads.refl _ | with_reducible refine State.aonReset_from _ ?_
    | with_reducible refine act_from _ _ _ ?_

theorem execBorCore_from (s : State) : LeadsOut s (execBorCore s) := by
  unfold execBorCore
  repeat' first
    | with_reducible exact State.Leads.refl _ | with_reducible refine State.chipReset_from _ _ ?_
    | with_reducible refine act_from _ _ _ ?_

theorem execBorIo_from (s : State) : LeadsOut s (execBorIo s) := by
  unfold execBorIo
  repeat' first
    | with_reducible exact State.Leads.refl _ | with_reducible refine State.chipReset_from _ _ ?_
    | with_reducible refine act_from _ _ _ ?_

theorem execBorA_from (s : State) : LeadsOut s (execBorA s) := by
  unfold execBorA
  repeat' first
    | with_reducible exact State.Leads.refl _ | with_reducible refine State.chipReset_from _ _ ?_
    | with_reducible refine act_from _ _ _ ?_

theorem execPin_from (lowNs : Nat) (taken : Bool) (s : State) : LeadsOut s (execPin lowNs taken s) := by
  unfold execPin
  repeat' first
    | with_reducible exact State.Leads.refl _ | with_reducible refine State.chipReset_from _ _ ?_
    | with_reducible refine act_from _ _ _ ?_

theorem execTestEn_from (level : Bool) (s : State) : LeadsOut s (execTestEn level s) := by
  unfold execTestEn
  repeat' first
    | with_reducible exact State.Leads.refl _ | with_reducible apply State.leads_ite
    | with_reducible refine State.chipReset_from _ _ ?_ | with_reducible refine State.onClk_from _ _ ?_
    | with_reducible refine act_from _ _ _ ?_

theorem State.resetKey_from {s0 : State} (s : State) (key : Nat) (h : s0.Leads s) : s0.Leads (State.resetKey s key) := by
  refine State.Leads.trans h ?_
  unfold State.resetKey
  repeat' first
    | with_reducible exact State.Leads.refl _ | with_reducible apply State.leads_ite
    | with_reducible refine State.chipReset_from _ _ ?_

theorem execResetKey_from (key : Nat) (s : State) : LeadsOut s (execResetKey key s) := by
  unfold execResetKey
  repeat' first
    | with_reducible exact State.Leads.refl _ | with_reducible refine State.resetKey_from _ _ ?_
    | with_reducible refine act_from _ _ _ ?_

theorem execWdt_from (s : State) : LeadsOut s (execWdt s) := by
  unfold execWdt
  repeat' first
    | with_reducible exact State.Leads.refl _ | with_reducible refine State.chipReset_from _ _ ?_
    | with_reducible refine act_from _ _ _ ?_

theorem execChipResetEnd_from (pairId core io ana resetN : Bool) (us : Nat) (s : State) : LeadsOut s (execChipResetEnd pairId core io ana resetN us s) := by
  unfold execChipResetEnd
  try dsimp only
  repeat' first
    | with_reducible exact State.Leads.refl _
    | with_reducible exact LeadsOut.next _
    | simp only [State.leads_mk_eq]
    | with_reducible refine LeadsParts.same _ ?_
    | with_reducible refine LeadsParts.cellar _ _ ?_ ?_
    | with_reducible refine LeadsParts.attic _ _ ?_ ?_
    | with_reducible refine LeadsParts.porch _ _ ?_ ?_
    | with_reducible refine LeadsParts.hearth _ _ ?_ ?_
    | with_reducible refine LeadsParts.links _ _ ?_ ?_
    | with_reducible refine LeadsParts.tcs _ _ ?_ ?_
    | with_reducible exact fun k => k
    | with_reducible exact fun k => eraseRange_wf _ _ _ k
    | with_reducible exact fun k => progBytes_wf _ _ _ k
    | with_reducible exact fun k => brecWrite_wf _ _ _ k
    | exact Attic.grows_same rfl rfl
    | (simp only [List.length_map, List.length_zipIdx]; exact id)
    | with_reducible apply State.leads_ite
    | with_reducible apply LeadsOut.ite
    | with_reducible refine LeadsOut.of ?_
    | with_reducible refine LeadsSeq.ok ?_
    | with_reducible refine LeadsSeq.error ?_
    | with_reducible apply LeadsSeq.ite
    | with_reducible refine State.setTb_from _ _ ?_
    | with_reducible refine State.makeUp_from _ ?_
    | with_reducible refine State.onClk_from _ _ ?_
    | with_reducible refine State.putB_from _ _ _ ?_
    | with_reducible refine act_from _ _ _ ?_
    | (simp only [State.postAll, List.length_zipIdx, List.length_map]; assumption)
    | split
    | intro _
    | dsimp only

theorem execXtalOk_from (s : State) : LeadsOut s (execXtalOk s) := by
  unfold execXtalOk
  repeat' first
    | with_reducible exact State.Leads.refl _ | with_reducible refine State.on_from _ _ ?_
    | with_reducible refine State.onClk_from _ _ ?_ | with_reducible refine act_from _ _ _ ?_

theorem State.reqState_from {s0 : State} (s : State) (x : Nat) (act : BitVec 10) (h0 : s0.Leads s) : s0.Leads (State.reqState s x act) := by
  refine State.Leads.trans h0 ?_
  unfold State.reqState
  try dsimp only
  repeat' first
    | with_reducible exact State.Leads.refl _
    | with_reducible exact LeadsOut.next _
    | simp only [State.leads_mk_eq]
    | with_reducible refine LeadsParts.same _ ?_
    | with_reducible refine LeadsParts.cellar _ _ ?_ ?_
    | with_reducible refine LeadsParts.attic _ _ ?_ ?_
    | with_reducible refine LeadsParts.porch _ _ ?_ ?_
    | with_reducible refine LeadsParts.hearth _ _ ?_ ?_
    | with_reducible refine LeadsParts.links _ _ ?_ ?_
    | with_reducible refine LeadsParts.tcs _ _ ?_ ?_
    | with_reducible exact fun k => k
    | with_reducible exact fun k => eraseRange_wf _ _ _ k
    | with_reducible exact fun k => progBytes_wf _ _ _ k
    | with_reducible exact fun k => brecWrite_wf _ _ _ k
    | exact Attic.grows_same rfl rfl
    | (simp only [List.length_map, List.length_zipIdx]; exact id)
    | with_reducible apply State.leads_ite
    | with_reducible refine State.put_from _ _ _ ?_
    | with_reducible refine State.onClk_from _ _ ?_
    | with_reducible refine State.on_from _ _ ?_
    | with_reducible refine act_from _ _ _ ?_
    | split
    | intro _
    | dsimp only

theorem execReqRun_from (s : State) : LeadsOut s (execReqRun s) := by
  unfold execReqRun
  repeat' first
    | with_reducible exact State.Leads.refl _
    | with_reducible exact LeadsOut.next _
    | with_reducible apply State.leads_ite
    | with_reducible apply LeadsOut.ite
    | with_reducible refine LeadsOut.of ?_
    | with_reducible refine LeadsSeq.ok ?_
    | with_reducible refine LeadsSeq.error ?_
    | with_reducible apply LeadsSeq.ite
    | with_reducible refine State.reqState_from _ _ _ ?_
    | with_reducible refine act_from _ _ _ ?_
    | split
    | intro _
    | dsimp only

theorem execReqDoze_from (s : State) : LeadsOut s (execReqDoze s) := by
  unfold execReqDoze
  repeat' first
    | with_reducible exact State.Leads.refl _
    | with_reducible exact LeadsOut.next _
    | with_reducible apply State.leads_ite
    | with_reducible apply LeadsOut.ite
    | with_reducible refine LeadsOut.of ?_
    | with_reducible refine LeadsSeq.ok ?_
    | with_reducible refine LeadsSeq.error ?_
    | with_reducible apply LeadsSeq.ite
    | with_reducible refine State.reqState_from _ _ _ ?_
    | with_reducible refine act_from _ _ _ ?_
    | split
    | intro _
    | dsimp only

theorem execReqSleep_from (act : BitVec 10) (s : State) : LeadsOut s (execReqSleep act s) := by
  unfold execReqSleep
  repeat' first
    | with_reducible exact State.Leads.refl _
    | with_reducible exact LeadsOut.next _
    | with_reducible apply State.leads_ite
    | with_reducible apply LeadsOut.ite
    | with_reducible refine LeadsOut.of ?_
    | with_reducible refine LeadsSeq.ok ?_
    | with_reducible refine LeadsSeq.error ?_
    | with_reducible apply LeadsSeq.ite
    | with_reducible refine act_from _ _ _ ?_
    | with_reducible refine State.reqState_from _ _ _ ?_
    | split
    | intro _
    | dsimp only

theorem execReqStandby_from (act : BitVec 10) (s : State) : LeadsOut s (execReqStandby act s) := by
  unfold execReqStandby
  repeat' first
    | with_reducible exact State.Leads.refl _
    | with_reducible exact LeadsOut.next _
    | with_reducible apply State.leads_ite
    | with_reducible apply LeadsOut.ite
    | with_reducible refine LeadsOut.of ?_
    | with_reducible refine LeadsSeq.ok ?_
    | with_reducible refine LeadsSeq.error ?_
    | with_reducible apply LeadsSeq.ite
    | with_reducible refine act_from _ _ _ ?_
    | with_reducible refine State.reqState_from _ _ _ ?_
    | split
    | intro _
    | dsimp only

theorem State.allSlots_from {s0 : State} (s : State) (f : State → Fin 6 → State)
    (k : ∀ (s : State) (b : Fin 6), s.Leads (f s b)) (h : s0.Leads s) : s0.Leads (State.allSlots s f) := by
  unfold State.allSlots
  exact State.leads_foldl _ _ _ _ h fun s b => State.leads_ite _ _ _ (k s b) (.refl s)

theorem State.entryStep_from {s0 : State} (s : State) (h0 : s0.Leads s) : s0.Leads (State.entryStep s) := by
  refine State.Leads.trans h0 ?_
  unfold State.entryStep
  try dsimp only
  repeat' first
    | with_reducible exact State.Leads.refl _
    | with_reducible exact LeadsOut.next _
    | simp only [State.leads_mk_eq]
    | with_reducible refine LeadsParts.same _ ?_
    | with_reducible refine LeadsParts.cellar _ _ ?_ ?_
    | with_reducible refine LeadsParts.attic _ _ ?_ ?_
    | with_reducible refine LeadsParts.porch _ _ ?_ ?_
    | with_reducible refine LeadsParts.hearth _ _ ?_ ?_
    | with_reducible refine LeadsParts.links _ _ ?_ ?_
    | with_reducible refine LeadsParts.tcs _ _ ?_ ?_
    | with_reducible exact fun k => k
    | with_reducible exact fun k => eraseRange_wf _ _ _ k
    | with_reducible exact fun k => progBytes_wf _ _ _ k
    | with_reducible exact fun k => brecWrite_wf _ _ _ k
    | exact Attic.grows_same rfl rfl
    | (simp only [List.length_map, List.length_zipIdx]; exact id)
    | with_reducible apply State.leads_ite
    | split
    | with_reducible refine State.onClk_from _ _ ?_
    | with_reducible refine State.allSlots_from _ _ ?_ ?_
    | with_reducible refine State.slotTo_from _ _ _ _ ?_
    | with_reducible refine State.off_from _ _ ?_
    | with_reducible refine State.mainReset_from _ ?_
    | split
    | intro _
    | dsimp only

theorem execEntrySequenceStep_from (s : State) : LeadsOut s (execEntrySequenceStep s) := by
  unfold execEntrySequenceStep
  repeat' first
    | with_reducible exact State.Leads.refl _ | with_reducible refine State.entryStep_from _ ?_
    | with_reducible refine act_from _ _ _ ?_

theorem State.abortEntry_from {s0 : State} (s : State) (h : s0.Leads s) : s0.Leads (State.abortEntry s) := by
  refine State.Leads.trans h ?_
  unfold State.abortEntry
  try dsimp only
  repeat' first
    | with_reducible exact State.Leads.refl _ | with_reducible apply State.leads_ite
    | with_reducible refine State.off_from _ _ ?_ | with_reducible refine State.on_from _ _ ?_
    | with_reducible refine State.put_from _ _ _ ?_ | with_reducible refine State.onClk_from _ _ ?_
    | with_reducible refine State.allSlots_from _ _ ?_ ?_ | with_reducible refine State.slotTo_from _ _ _ _ ?_
    | with_reducible refine State.slotExit_from _ _ ?_ | intro _

theorem State.wakeBy_from {s0 : State} (s : State) (f : State → State) (k : ∀ s : State, s.Leads (f s)) (h : s0.Leads s) :
    s0.Leads (State.wakeBy s f) := by
  refine h.trans ?_
  unfold State.wakeBy
  split
  · split
    · exact State.abortEntry_from _ (k s)
    · exact .refl s
  · exact State.onClk_from _ _ (k s)
  · exact State.onClk_from _ _ (k s)
  · split
    · exact k s
    · exact .refl s
  · exact .refl s

theorem execWakeN_from (s : State) : LeadsOut s (execWakeN s) := by
  unfold execWakeN
  repeat' first
    | with_reducible exact State.Leads.refl _ | with_reducible refine State.wakeBy_from _ _ ?_ ?_
    | with_reducible refine State.on_from _ _ ?_ | with_reducible refine act_from _ _ _ ?_ | intro _

theorem execKeyWake_from (s : State) : LeadsOut s (execKeyWake s) := by
  unfold execKeyWake
  repeat' first
    | with_reducible exact State.Leads.refl _ | with_reducible refine State.wakeBy_from _ _ ?_ ?_
    | with_reducible refine State.on_from _ _ ?_ | with_reducible refine act_from _ _ _ ?_ | intro _

theorem execAlarm_from (s : State) : LeadsOut s (execAlarm s) := by
  unfold execAlarm
  repeat' first
    | with_reducible exact State.Leads.refl _ | with_reducible refine State.wakeBy_from _ _ ?_ ?_
    | with_reducible refine State.on_from _ _ ?_ | with_reducible refine act_from _ _ _ ?_ | intro _

theorem execFireWake_from (s : State) : LeadsOut s (execFireWake s) := by
  unfold execFireWake
  repeat' first
    | with_reducible exact State.Leads.refl _ | with_reducible refine State.wakeBy_from _ _ ?_ ?_
    | with_reducible refine State.on_from _ _ ?_ | with_reducible refine act_from _ _ _ ?_ | intro _

theorem execHlWake_from (_n : Fin 2) (s : State) : LeadsOut s (execHlWake _n s) := by
  unfold execHlWake
  repeat' first
    | with_reducible exact State.Leads.refl _ | with_reducible refine State.wakeBy_from _ _ ?_ ?_
    | with_reducible refine State.on_from _ _ ?_ | with_reducible refine act_from _ _ _ ?_ | intro _

theorem execPorchWake_from (s : State) : LeadsOut s (execPorchWake s) := by
  unfold execPorchWake
  repeat' first
    | with_reducible exact State.Leads.refl _ | with_reducible refine State.wakeBy_from _ _ ?_ ?_
    | with_reducible refine State.on_from _ _ ?_ | with_reducible refine act_from _ _ _ ?_ | intro _

theorem execCcSamplingWindow_from (lv : List (Fin 48 × Fin 8 × Fin 8)) (s : State) : LeadsOut s (execCcSamplingWindow lv s) := by
  unfold execCcSamplingWindow
  try dsimp only
  repeat' first
    | with_reducible refine State.leads_foldl _ _ _ _ ?_ ?_
    | with_reducible exact State.Leads.refl _
    | with_reducible exact LeadsOut.next _
    | simp only [State.leads_mk_eq]
    | with_reducible refine LeadsParts.same _ ?_
    | with_reducible refine LeadsParts.cellar _ _ ?_ ?_
    | with_reducible refine LeadsParts.attic _ _ ?_ ?_
    | with_reducible refine LeadsParts.porch _ _ ?_ ?_
    | with_reducible refine LeadsParts.hearth _ _ ?_ ?_
    | with_reducible refine LeadsParts.links _ _ ?_ ?_
    | with_reducible refine LeadsParts.tcs _ _ ?_ ?_
    | with_reducible exact fun k => k
    | with_reducible exact fun k => eraseRange_wf _ _ _ k
    | with_reducible exact fun k => progBytes_wf _ _ _ k
    | with_reducible exact fun k => brecWrite_wf _ _ _ k
    | exact Attic.grows_same rfl rfl
    | (simp only [List.length_map, List.length_zipIdx]; exact id)
    | with_reducible apply State.leads_ite
    | with_reducible apply LeadsOut.ite
    | with_reducible refine LeadsOut.of ?_
    | with_reducible refine LeadsSeq.ok ?_
    | with_reducible refine LeadsSeq.error ?_
    | with_reducible apply LeadsSeq.ite
    | split
    | with_reducible refine State.onClk_from _ _ ?_
    | with_reducible refine State.onRoom_from _ _ _ ?_ ?_
    | with_reducible refine State.wakeBy_from _ _ ?_ ?_
    | with_reducible refine State.on_from _ _ ?_
    | with_reducible refine State.put_from _ _ _ ?_
    | with_reducible refine act_from _ _ _ ?_
    | with_reducible refine Room.keeps_foldl _ _ _ _ ?_ ?_
    | with_reducible exact Room.Keeps.refl _
    | simp only [Room.keeps_mk_eq]
    | with_reducible refine KeepsParts.same _ ?_
    | with_reducible refine KeepsParts.data _ _ _ ?_
    | with_reducible refine KeepsParts.code _ _ _ ?_
    | with_reducible apply Room.keeps_ite
    | with_reducible refine Room.onCc_from _ _ ?_
    | with_reducible refine Room.on_from _ _ ?_
    | with_reducible refine Room.put_from _ _ _ ?_
    | split
    | intro _
    | dsimp only

theorem State.wakePorts_from {s0 : State} (s : State) (h0 : s0.Leads s) : s0.Leads (State.wakePorts s) := by
  refine State.Leads.trans h0 ?_
  unfold State.wakePorts
  repeat' first
    | with_reducible refine State.leads_foldl _ _ _ _ ?_ ?_
    | with_reducible exact State.Leads.refl _
    | with_reducible exact LeadsOut.next _
    | with_reducible apply State.leads_ite
    | with_reducible refine State.onRoomE_from _ _ _ ?_ ?_
    | with_reducible refine Room.keeps_foldl _ _ _ _ ?_ ?_
    | with_reducible exact Room.Keeps.refl _
    | simp only [Room.keeps_mk_eq]
    | with_reducible refine KeepsParts.same _ ?_
    | with_reducible refine KeepsParts.data _ _ _ ?_
    | with_reducible refine KeepsParts.code _ _ _ ?_
    | with_reducible apply Room.keeps_ite
    | with_reducible refine Room.restart_from _ _ ?_
    | split
    | intro _
    | dsimp only

theorem State.slotWake_from {s0 : State} (s : State) (b : Fin 6) (h0 : s0.Leads s) : s0.Leads (State.slotWake s b) := by
  refine State.Leads.trans h0 ?_
  unfold State.slotWake
  repeat' first
    | with_reducible exact State.Leads.refl _
    | with_reducible exact LeadsOut.next _
    | simp only [State.leads_mk_eq]
    | with_reducible refine LeadsParts.same _ ?_
    | with_reducible refine LeadsParts.cellar _ _ ?_ ?_
    | with_reducible refine LeadsParts.attic _ _ ?_ ?_
    | with_reducible refine LeadsParts.porch _ _ ?_ ?_
    | with_reducible refine LeadsParts.hearth _ _ ?_ ?_
    | with_reducible refine LeadsParts.links _ _ ?_ ?_
    | with_reducible refine LeadsParts.tcs _ _ ?_ ?_
    | with_reducible exact fun k => k
    | with_reducible exact fun k => eraseRange_wf _ _ _ k
    | with_reducible exact fun k => progBytes_wf _ _ _ k
    | with_reducible exact fun k => brecWrite_wf _ _ _ k
    | exact Attic.grows_same rfl rfl
    | (simp only [List.length_map, List.length_zipIdx]; exact id)
    | with_reducible apply State.leads_ite
    | with_reducible refine State.slotTo_from _ _ _ _ ?_
    | with_reducible refine State.onLand_from _ _ _ ?_
    | split
    | intro _
    | dsimp only

theorem execSleepWake_from (s : State) : LeadsOut s (execSleepWake s) := by
  unfold execSleepWake
  try dsimp only
  repeat' first
    | with_reducible exact State.Leads.refl _
    | with_reducible exact LeadsOut.next _
    | simp only [State.leads_mk_eq]
    | with_reducible refine LeadsParts.same _ ?_
    | with_reducible refine LeadsParts.cellar _ _ ?_ ?_
    | with_reducible refine LeadsParts.attic _ _ ?_ ?_
    | with_reducible refine LeadsParts.porch _ _ ?_ ?_
    | with_reducible refine LeadsParts.hearth _ _ ?_ ?_
    | with_reducible refine LeadsParts.links _ _ ?_ ?_
    | with_reducible refine LeadsParts.tcs _ _ ?_ ?_
    | with_reducible exact fun k => k
    | with_reducible exact fun k => eraseRange_wf _ _ _ k
    | with_reducible exact fun k => progBytes_wf _ _ _ k
    | with_reducible exact fun k => brecWrite_wf _ _ _ k
    | exact Attic.grows_same rfl rfl
    | (simp only [List.length_map, List.length_zipIdx]; exact id)
    | with_reducible apply State.leads_ite
    | with_reducible apply LeadsOut.ite
    | with_reducible refine LeadsOut.of ?_
    | with_reducible refine LeadsSeq.ok ?_
    | with_reducible refine LeadsSeq.error ?_
    | with_reducible apply LeadsSeq.ite
    | with_reducible refine State.setTb_from _ _ ?_
    | with_reducible refine State.makeUp_from _ ?_
    | with_reducible refine State.onClk_from _ _ ?_
    | with_reducible refine State.off_from _ _ ?_
    | with_reducible refine State.put_from _ _ _ ?_
    | with_reducible refine State.allSlots_from _ _ ?_ ?_
    | with_reducible refine State.slotWake_from _ _ ?_
    | with_reducible refine State.wakePorts_from _ ?_
    | with_reducible refine act_from _ _ _ ?_
    | (simp only [List.length_map]; assumption)
    | split
    | intro _
    | dsimp only

theorem execStandbyExit_from (s : State) : LeadsOut s (execStandbyExit s) := by
  unfold execStandbyExit
  repeat' first
    | with_reducible exact State.Leads.refl _ | with_reducible refine State.chipReset_from _ _ ?_
    | with_reducible refine act_from _ _ _ ?_

theorem State.refreshCon_from {s0 : State} (s : State) (h : s0.Leads s) : s0.Leads (State.refreshCon s) := by
  refine State.Leads.trans h ?_
  unfold State.refreshCon
  try dsimp only
  repeat' first
    | with_reducible exact State.Leads.refl _ | with_reducible refine State.onPair_from _ _ ?_

theorem State.refreshPeer_from {s0 : State} (s : State) (path : Nat) (h : s0.Leads s) : s0.Leads (State.refreshPeer s path) := by
  refine State.Leads.trans h ?_
  unfold State.refreshPeer
  try dsimp only
  repeat' first
    | with_reducible exact State.Leads.refl _ | split | with_reducible refine State.put_from _ _ _ ?_
    | with_reducible refine State.onPair_from _ _ ?_ | with_reducible refine State.putB_from _ _ _ ?_
    | with_reducible refine State.refreshCon_from _ ?_ | with_reducible refine State.refreshKeeper_from _ ?_

theorem State.claim_from {s0 : State} (s : State) (ws : Nat) (h : s0.Leads s) : s0.Leads (State.claim s ws) := by
  refine State.Leads.trans h ?_
  unfold State.claim
  repeat' first
    | with_reducible exact State.Leads.refl _ | with_reducible refine State.setClaims_from _ _ ?_
    | with_reducible refine State.onPair_from _ _ ?_ | with_reducible refine State.refreshCon_from _ ?_
    | with_reducible refine State.refreshKeeper_from _ ?_

theorem State.startPort_from {s0 : State} (s : State) (p : Fin 48) (h0 : s0.Leads s) : s0.Leads (State.startPort s p) := by
  refine State.Leads.trans h0 ?_
  unfold State.startPort
  try dsimp only
  repeat' first
    | with_reducible exact State.Leads.refl _
    | with_reducible exact LeadsOut.next _
    | with_reducible apply State.leads_ite
    | with_reducible refine State.onRoomE_from _ _ _ ?_ ?_
    | with_reducible exact Room.Keeps.refl _
    | simp only [Room.keeps_mk_eq]
    | with_reducible refine KeepsParts.same _ ?_
    | with_reducible refine KeepsParts.data _ _ _ ?_
    | with_reducible refine KeepsParts.code _ _ _ ?_
    | with_reducible apply Room.keeps_ite
    | with_reducible refine Room.loopOff_from _ ?_
    | with_reducible refine Room.refreshVlim_from _ _ ?_
    | with_reducible refine Room.refreshIlim_from _ _ ?_
    | with_reducible refine Room.enable_from _ _ ?_
    | split
    | intro _
    | dsimp only

theorem State.startWing_from {s0 : State} (s : State) (w : Fin 2) (h : s0.Leads s) : s0.Leads (State.startWing s w) := by
  refine State.Leads.trans h ?_
  unfold State.startWing
  try dsimp only
  repeat' first
    | with_reducible refine State.leads_foldl _ _ _ _ ?_ ?_ | with_reducible exact State.Leads.refl _
    | with_reducible refine State.startPort_from _ _ ?_ | with_reducible refine State.slotSettle_from _ _ ?_ | intro _

theorem State.claimStart_from {s0 : State} (s : State) (cond : Fin 2 → Bool) (h : s0.Leads s) : s0.Leads (State.claimStart s cond) := by
  refine State.Leads.trans h ?_
  unfold State.claimStart
  try dsimp only
  repeat' first
    | with_reducible refine State.leads_foldl _ _ _ _ ?_ ?_ | with_reducible exact State.Leads.refl _
    | with_reducible apply State.leads_ite | with_reducible refine State.startWing_from _ _ ?_
    | with_reducible refine State.claim_from _ _ ?_ | intro _

theorem State.refreshStale_from {s0 : State} (s : State) (h : s0.Leads s) : s0.Leads (State.refreshStale s) := by
  refine State.Leads.trans h ?_
  unfold State.refreshStale
  try dsimp only
  repeat' first
    | with_reducible exact State.Leads.refl _ | simp only [State.leads_mk_eq] | with_reducible refine LeadsParts.same _ ?_
    | with_reducible apply State.leads_ite | with_reducible refine State.on_from _ _ ?_
    | with_reducible refine State.putB_from _ _ _ ?_ | with_reducible refine State.mapRooms_from _ _ ?_ ?_
    | with_reducible exact Room.Keeps.refl _ | with_reducible apply Room.keeps_ite
    | with_reducible refine Room.on_from _ _ ?_ | with_reducible refine Room.putB_from _ _ _ ?_ | intro _

theorem State.markStale_from {s0 : State} (s : State) (ts : Nat) (h : s0.Leads s) : s0.Leads (State.markStale s ts) := by
  refine State.Leads.trans h ?_
  unfold State.markStale
  try dsimp only
  repeat' first
    | with_reducible exact State.Leads.refl _ | with_reducible refine State.onPair_from _ _ ?_

theorem pairAct_from (s : State) (c : Bool) (f : State → State) (k : ∀ s : State, s.Leads (f s)) :
    LeadsOut s (pairAct s c f) := act_from _ _ _ (State.refreshStale_from _ (k s))

theorem State.checkRelease_from {s0 : State} (s : State) (h : s0.Leads s) : s0.Leads (State.checkRelease s) := by
  refine State.Leads.trans h ?_
  unfold State.checkRelease
  repeat' first
    | with_reducible refine State.leads_foldl _ _ _ _ ?_ ?_ | with_reducible exact State.Leads.refl _
    | with_reducible apply State.leads_ite | with_reducible refine State.withdraw_from _ _ ?_
    | with_reducible refine State.refreshCon_from _ ?_ | intro _

theorem State.resumeLoop_from {s0 : State} (s : State) (p : Fin 48) (h : s0.Leads s) : s0.Leads (State.resumeLoop s p) := by
  unfold State.resumeLoop
  extract_lets
  refine State.onRoomE_from _ _ _ ?_ h
  intro e r
  extract_lets r1 r2 ref r3 r4
  have k2 : r.Keeps r2 := Room.onConv_from _ _ (Room.putB_from _ _ _ (Room.putB_from _ _ _ (Room.putB_from _ _ _ (.refl r))))
  clear_value r2
  have k3 : r.Keeps r3 := Room.keeps_ite _ _ _ (Room.onConv_from _ _ (Room.setLoop_from _ _ k2))
    (Room.resumeRate_from _ (Room.setLoop_from _ _ (Room.setRef_from _ _ k2)))
  clear_value r3
  have k4 : r.Keeps r4 := Room.keeps_ite _ _ _ (Room.onCc_from _ _ (Room.onConv_from _ _ k3)) k3
  clear_value r4
  exact Room.keeps_ite _ _ _ (Room.loopOff_from _ k2) (Room.keeps_ite _ _ _
    (Room.onConv_from _ _ (Room.putB_from _ _ _ k4)) (Room.preBias_from _ k4))

theorem State.resumePort_from {s0 : State} (s : State) (stale : Nat) (p : Fin 48) (h0 : s0.Leads s) : s0.Leads (State.resumePort s stale p) := by
  refine State.Leads.trans h0 ?_
  unfold State.resumePort
  try dsimp only
  repeat' first
    | with_reducible exact State.Leads.refl _
    | with_reducible exact LeadsOut.next _
    | simp only [State.leads_mk_eq]
    | with_reducible refine LeadsParts.same _ ?_
    | with_reducible refine LeadsParts.cellar _ _ ?_ ?_
    | with_reducible refine LeadsParts.attic _ _ ?_ ?_
    | with_reducible refine LeadsParts.porch _ _ ?_ ?_
    | with_reducible refine LeadsParts.hearth _ _ ?_ ?_
    | with_reducible refine LeadsParts.links _ _ ?_ ?_
    | with_reducible refine LeadsParts.tcs _ _ ?_ ?_
    | with_reducible exact fun k => k
    | with_reducible exact fun k => eraseRange_wf _ _ _ k
    | with_reducible exact fun k => progBytes_wf _ _ _ k
    | with_reducible exact fun k => brecWrite_wf _ _ _ k
    | exact Attic.grows_same rfl rfl
    | (simp only [List.length_map, List.length_zipIdx]; exact id)
    | with_reducible apply State.leads_ite
    | with_reducible refine State.onRoomE_from _ _ _ ?_ ?_
    | with_reducible refine State.on_from _ _ ?_
    | with_reducible refine State.onRoom_from _ _ _ ?_ ?_
    | with_reducible refine State.resumeLoop_from _ _ ?_
    | with_reducible exact Room.Keeps.refl _
    | simp only [Room.keeps_mk_eq]
    | with_reducible refine KeepsParts.same _ ?_
    | with_reducible refine KeepsParts.data _ _ _ ?_
    | with_reducible refine KeepsParts.code _ _ _ ?_
    | with_reducible apply Room.keeps_ite
    | with_reducible refine Room.on_from _ _ ?_
    | with_reducible refine Room.onConv_from _ _ ?_
    | with_reducible refine Room.resumeCc_from _ _ ?_
    | with_reducible refine Room.resumeAsk_from _ _ ?_
    | with_reducible refine Room.refreshIlim_from _ _ ?_
    | with_reducible refine Room.onPd_from _ _ ?_
    | with_reducible refine Room.loopOff_from _ ?_
    | with_reducible refine Room.staleTakeover_from _ _ ?_
    | split
    | intro _
    | dsimp only

theorem State.takeWings_from {s0 : State} (s : State) (ws : Nat) (h0 : s0.Leads s) : s0.Leads (State.takeWings s ws) := by
  refine State.Leads.trans h0 ?_
  unfold State.takeWings
  try dsimp only
  repeat' first
    | with_reducible refine State.leads_foldl _ _ _ _ ?_ ?_
    | with_reducible exact State.Leads.refl _
    | with_reducible exact LeadsOut.next _
    | simp only [State.leads_mk_eq]
    | with_reducible refine LeadsParts.same _ ?_
    | with_reducible refine LeadsParts.cellar _ _ ?_ ?_
    | with_reducible refine LeadsParts.attic _ _ ?_ ?_
    | with_reducible refine LeadsParts.porch _ _ ?_ ?_
    | with_reducible refine LeadsParts.hearth _ _ ?_ ?_
    | with_reducible refine LeadsParts.links _ _ ?_ ?_
    | with_reducible refine LeadsParts.tcs _ _ ?_ ?_
    | with_reducible exact fun k => k
    | with_reducible exact fun k => eraseRange_wf _ _ _ k
    | with_reducible exact fun k => progBytes_wf _ _ _ k
    | with_reducible exact fun k => brecWrite_wf _ _ _ k
    | exact Attic.grows_same rfl rfl
    | (simp only [List.length_map, List.length_zipIdx]; exact id)
    | with_reducible apply State.leads_ite
    | split
    | with_reducible refine State.resumePort_from _ _ _ ?_
    | with_reducible refine State.onLand_from _ _ _ ?_
    | with_reducible refine State.resume_from _ ?_
    | with_reducible refine State.on_from _ _ ?_
    | with_reducible refine State.onPair_from _ _ ?_
    | with_reducible refine State.logTakeover_from _ ?_
    | split
    | intro _
    | dsimp only

theorem State.snapTrigger_from {s0 : State} (s : State) (src : Nat) (h : s0.Leads s) : s0.Leads (State.snapTrigger s src) := by
  refine State.Leads.trans h ?_
  unfold State.snapTrigger
  repeat' first
    | with_reducible exact State.Leads.refl _ | simp only [State.leads_mk_eq] | with_reducible refine LeadsParts.same _ ?_
    | with_reducible apply State.leads_ite | with_reducible refine State.on_from _ _ ?_

theorem State.snapTrig_from {s0 : State} (s : State) (h : s0.Leads s) : s0.Leads (State.snapTrig s) := by
  refine State.Leads.trans h ?_
  unfold State.snapTrig
  repeat' first
    | with_reducible exact State.Leads.refl _ | simp only [State.leads_mk_eq] | with_reducible refine LeadsParts.same _ ?_
    | with_reducible apply State.leads_ite | with_reducible refine State.on_from _ _ ?_
    | with_reducible refine State.snapTrigger_from _ _ ?_

theorem State.capture_from {s0 : State} (s : State) (src : Nat) (h : s0.Leads s) : s0.Leads (State.capture s src) := by
  refine h.trans ?_
  unfold State.capture
  extract_lets e
  refine ⟨fun i => ⟨i.1, i.2, i.3, i.4, i.5, i.6, fun p => ?_, i.8, i.9, i.10⟩, Attic.grows_refl _, rfl⟩
  have hp := i.7 p
  simp only [State.room, Fin.getElem_fin, Vector.getElem_ofFn, Fin.eta]
  split
  · exact hp
  · exact hp

theorem execSnapTrig_from (s : State) : LeadsOut s (execSnapTrig s) := by
  unfold execSnapTrig
  repeat' first
    | with_reducible exact State.Leads.refl _ | with_reducible refine State.snapTrig_from _ ?_
    | with_reducible refine act_from _ _ _ ?_

theorem execSnapIoEdge_from (low : Bool) (s : State) : LeadsOut s (execSnapIoEdge low s) := by
  unfold execSnapIoEdge
  try dsimp only
  repeat' first
    | with_reducible exact State.Leads.refl _ | simp only [State.leads_mk_eq] | with_reducible refine LeadsParts.same _ ?_
    | with_reducible apply State.leads_ite | with_reducible refine State.snapTrigger_from _ _ ?_
    | with_reducible refine act_from _ _ _ ?_

theorem execSnapIoRelease_from (s : State) : LeadsOut s (execSnapIoRelease s) := by
  unfold execSnapIoRelease
  repeat' first
    | with_reducible exact State.Leads.refl _ | simp only [State.leads_mk_eq] | with_reducible refine LeadsParts.same _ ?_
    | with_reducible refine act_from _ _ _ ?_

theorem State.writeHalt_from {s0 : State} (s : State) (c : CoreId) (b : Bool) (h : s0.Leads s) : s0.Leads (State.writeHalt s c b) := by
  refine State.Leads.trans h ?_
  unfold State.writeHalt
  repeat' first
    | with_reducible exact State.Leads.refl _ | with_reducible apply State.leads_ite
    | with_reducible refine State.setHaltBit_from _ _ _ ?_ | with_reducible refine State.resumeCore_from _ _ ?_

theorem State.writeHalt0_from {s0 : State} (s : State) (v : Word) (h : s0.Leads s) : s0.Leads (State.writeHalt0 s v) := by
  refine State.Leads.trans h ?_
  unfold State.writeHalt0
  repeat' first
    | with_reducible refine State.leads_foldl _ _ _ _ ?_ ?_ | with_reducible exact State.Leads.refl _
    | with_reducible refine State.writeHalt_from _ _ _ ?_ | intro _

end Sys2Proof.Machine
end

