-- ==== Sys2Proof/Laws/LeadsD.lean ====
section
/-! SUPPORT. Laws/LeadsD.lean: what the operations and the commands of these files keep: DebugWrites, LinkOps, ImageOps, Journal, BusOps, Boot, Bus, FrameOps, Debug, Grants, Lane, StairOps, Pair. -/

namespace Sys2Proof.Machine

theorem State.writeHalt1_from {s0 : State} (s : State) (v : Word) (h : s0.Leads s) : s0.Leads (State.writeHalt1 s v) := by
  refine State.Leads.trans h ?_
  unfold State.writeHalt1
  repeat' first
    | with_reducible refine State.leads_foldl _ _ _ _ ?_ ?_ | with_reducible exact State.Leads.refl _
    | with_reducible refine State.writeHalt_from _ _ _ ?_ | intro _

theorem State.stepCore_from {s0 : State} (s : State) (n : Nat) (h : s0.Leads s) : s0.Leads (State.stepCore s n) := by
  refine State.Leads.trans h ?_
  unfold State.stepCore
  repeat' first
    | with_reducible exact State.Leads.refl _ | simp only [State.leads_mk_eq] | with_reducible refine LeadsParts.same _ ?_
    | with_reducible apply State.leads_ite | with_reducible refine State.onCoreOf_from _ _ _ ?_

theorem State.writeDbg_from {s0 : State} (s : State) (o : Nat) (v : Word) (h : s0.Leads s) : s0.Leads (State.writeDbg s o v) := by
  refine State.Leads.trans h ?_
  unfold State.writeDbg
  try dsimp only
  repeat' first
    | with_reducible exact State.Leads.refl _ | with_reducible apply State.leads_ite
    | with_reducible refine State.writeHalt0_from _ _ ?_ | with_reducible refine State.writeHalt1_from _ _ ?_
    | with_reducible refine State.stepCore_from _ _ ?_ | with_reducible refine State.onCoreOf_from _ _ _ ?_
    | with_reducible refine State.accessErr_from _ _ ?_ | with_reducible refine State.writeReg_from _ _ _ ?_
    | with_reducible refine State.snapTrigger_from _ _ ?_ | with_reducible refine State.chipReset_from _ _ ?_

theorem State.fwPost_from {s0 : State} (s : State) (mask : Nat) (p : Posting) (h : s0.Leads s) : s0.Leads (State.fwPost s mask p) := by
  refine State.Leads.trans h ?_
  unfold State.fwPost
  try dsimp only
  repeat' first
    | with_reducible refine State.leads_foldl _ _ _ _ ?_ ?_ | with_reducible exact State.Leads.refl _
    | with_reducible apply State.leads_ite | with_reducible refine State.onLink_from _ _ _ ?_
    | with_reducible refine State.put_from _ _ _ ?_ | intro _

theorem State.postGo_from {s0 : State} (s : State) (h : s0.Leads s) : s0.Leads (State.postGo s) := by
  refine State.Leads.trans h ?_
  unfold State.postGo
  try dsimp only
  repeat' first
    | with_reducible exact State.Leads.refl _ | split | with_reducible refine State.fwPost_from _ _ _ ?_

theorem State.tcGo_from {s0 : State} (s : State) (m : Fin 2) (h0 : s0.Leads s) : s0.Leads (State.tcGo s m) := by
  refine State.Leads.trans h0 ?_
  unfold State.tcGo
  try dsimp only
  repeat' first
    | with_reducible exact State.Leads.refl _
    | with_reducible exact LeadsOut.next _
    | simp only [State.leads_mk_eq]
    | with_reducible refine LeadsParts.same _ ?_
    | with_reducible refine LeadsParts.cellar _ _ ?_ ?_
    | with_reducible refine LeadsParts.attic _ _ ?_ ?_
    | with_reducible refine LeadsParts.porch _ _ ?_ ?_
    | with_reducible refine LeadsParts.hearth _ _ ?_ ?_
    | with_reducible refine LeadsParts.links _ _ ?_ ?_
    | with_reducible refine LeadsParts.tcs _ _ ?_ ?_
    | with_reducible exact fun k => k
    | with_reducible exact fun k => eraseRange_wf _ _ _ k
    | with_reducible exact fun k => progBytes_wf _ _ _ k
    | with_reducible exact fun k => brecWrite_wf _ _ _ k
    | exact Attic.grows_same rfl rfl
    | (simp only [List.length_map, List.length_zipIdx]; exact id)
    | with_reducible apply State.leads_ite
    | split
    | with_reducible refine State.on_from _ _ ?_
    | split
    | intro _
    | dsimp only

theorem State.verifyStart_from {s0 : State} (s : State) (h : s0.Leads s) : s0.Leads (State.verifyStart s) := by
  refine State.Leads.trans h ?_
  unfold State.verifyStart
  try dsimp only
  repeat' first
    | with_reducible exact State.Leads.refl _ | simp only [State.leads_mk_eq]
    | with_reducible refine LeadsParts.attic _ _ ?_ ?_ | exact Attic.grows_same rfl rfl
    | with_reducible refine State.off_from _ _ ?_

theorem State.verifyEnd_from {s0 : State} (s : State) (src c : Nat) (h : s0.Leads s) : s0.Leads (State.verifyEnd s src c) := by
  refine State.Leads.trans h ?_
  unfold State.verifyEnd
  try dsimp only
  repeat' first
    | with_reducible exact State.Leads.refl _ | simp only [State.leads_mk_eq]
    | with_reducible refine LeadsParts.attic _ _ ?_ ?_ | exact Attic.grows_same rfl rfl | split
    | with_reducible refine State.on_from _ _ ?_ | with_reducible refine State.putB_from _ _ _ ?_

theorem State.jnlWrite_from {s0 : State} (s : State) (r : Req) (f : State → State) (k : ∀ s : State, s.Leads (f s))
    (h : s0.Leads s) : s0.Leads (State.jnlWrite s r f) := by
  unfold State.jnlWrite
  split
  · exact (h.trans (k s)).trans (State.leads_same _ _ rfl rfl rfl rfl rfl rfl rfl rfl rfl rfl rfl rfl rfl)
  · exact State.accessErr_from _ _ h

theorem execAppend_from (r : Req) (s : State) : LeadsOut s (execAppend r s) := by
  unfold execAppend
  repeat' first
    | with_reducible exact State.Leads.refl _ | (with_reducible refine State.jnlWrite_from _ _ _ (fun s => ?_) ?_)
    | with_reducible refine State.jAppend_from _ _ ?_ | with_reducible refine act_from _ _ _ ?_

theorem State.bootrec_from {s0 : State} (s : State) (ok : Bool) (h : s0.Leads s) : s0.Leads (State.bootrec s ok) := by
  refine State.Leads.trans h ?_
  unfold State.bootrec
  try dsimp only
  repeat' first
    | with_reducible exact State.Leads.refl _ | with_reducible apply State.leads_ite
    | with_reducible refine State.jResult_from _ _ ?_ | with_reducible refine State.writeBrec_from _ _ _ _ _ _ ?_

theorem execBootrec_from (r : Req) (ok : Bool) (s : State) : LeadsOut s (execBootrec r ok s) := by
  unfold execBootrec
  repeat' first
    | with_reducible exact State.Leads.refl _ | (with_reducible refine State.jnlWrite_from _ _ _ (fun s => ?_) ?_)
    | with_reducible refine State.bootrec_from _ _ ?_ | with_reducible refine act_from _ _ _ ?_

theorem execGroupCommit_from (s : State) : LeadsOut s (execGroupCommit s) := by
  unfold execGroupCommit
  try dsimp only
  repeat' first
    | with_reducible exact State.Leads.refl _
    | with_reducible exact LeadsOut.next _
    | simp only [State.leads_mk_eq]
    | with_reducible refine LeadsParts.same _ ?_
    | with_reducible refine LeadsParts.cellar _ _ ?_ ?_
    | with_reducible refine LeadsParts.attic _ _ ?_ ?_
    | with_reducible refine LeadsParts.porch _ _ ?_ ?_
    | with_reducible refine LeadsParts.hearth _ _ ?_ ?_
    | with_reducible refine LeadsParts.links _ _ ?_ ?_
    | with_reducible refine LeadsParts.tcs _ _ ?_ ?_
    | with_reducible exact fun k => k
    | with_reducible exact fun k => eraseRange_wf _ _ _ k
    | with_reducible exact fun k => progBytes_wf _ _ _ k
    | with_reducible exact fun k => brecWrite_wf _ _ _ k
    | exact Attic.grows_same rfl rfl
    | (simp only [List.length_map, List.length_zipIdx]; exact id)
    | with_reducible apply State.leads_ite
    | with_reducible apply LeadsOut.ite
    | with_reducible refine LeadsOut.of ?_
    | with_reducible refine LeadsSeq.ok ?_
    | with_reducible refine LeadsSeq.error ?_
    | with_reducible apply LeadsSeq.ite
    | split
    | with_reducible refine State.jCommit_from _ _ ?_
    | with_reducible refine State.off_from _ _ ?_
    | with_reducible refine State.jResult_from _ _ ?_
    | with_reducible refine act_from _ _ _ ?_
    | split
    | intro _
    | dsimp only

theorem execCompaction_from (stage : Fin 3) (s : State) : LeadsOut s (execCompaction stage s) := by
  unfold execCompaction
  repeat' first
    | with_reducible exact State.Leads.refl _
    | with_reducible exact LeadsOut.next _
    | with_reducible apply State.leads_ite
    | with_reducible apply LeadsOut.ite
    | with_reducible refine LeadsOut.of ?_
    | with_reducible refine LeadsSeq.ok ?_
    | with_reducible refine LeadsSeq.error ?_
    | with_reducible apply LeadsSeq.ite
    | with_reducible refine State.jCompact_from _ _ ?_
    | with_reducible refine act_from _ _ _ ?_
    | split
    | intro _
    | dsimp only

theorem execCellarTimeout_from (n : Nat) (s : State) : LeadsOut s (execCellarTimeout n s) := by
  unfold execCellarTimeout
  try dsimp only
  repeat' first
    | with_reducible exact State.Leads.refl _
    | with_reducible exact LeadsOut.next _
    | simp only [State.leads_mk_eq]
    | with_reducible refine LeadsParts.same _ ?_
    | with_reducible refine LeadsParts.cellar _ _ ?_ ?_
    | with_reducible refine LeadsParts.attic _ _ ?_ ?_
    | with_reducible refine LeadsParts.porch _ _ ?_ ?_
    | with_reducible refine LeadsParts.hearth _ _ ?_ ?_
    | with_reducible refine LeadsParts.links _ _ ?_ ?_
    | with_reducible refine LeadsParts.tcs _ _ ?_ ?_
    | with_reducible exact fun k => k
    | with_reducible exact fun k => eraseRange_wf _ _ _ k
    | with_reducible exact fun k => progBytes_wf _ _ _ k
    | with_reducible exact fun k => brecWrite_wf _ _ _ k
    | exact Attic.grows_same rfl rfl
    | (simp only [List.length_map, List.length_zipIdx]; exact id)
    | with_reducible apply State.leads_ite
    | with_reducible apply LeadsOut.ite
    | with_reducible refine LeadsOut.of ?_
    | with_reducible refine LeadsSeq.ok ?_
    | with_reducible refine LeadsSeq.error ?_
    | with_reducible apply LeadsSeq.ite
    | split
    | with_reducible refine State.jTear_from _ _ _ ?_
    | with_reducible refine State.off_from _ _ ?_
    | with_reducible refine State.jResult_from _ _ ?_
    | with_reducible refine act_from _ _ _ ?_
    | split
    | intro _
    | dsimp only

theorem State.busGrant_from {s0 : State} (s : State) (r : Req) (l : Option Loc) (h : s0.Leads s) : s0.Leads (State.busGrant s r l) := by
  refine State.Leads.trans h ?_
  unfold State.busGrant
  try dsimp only
  repeat' first
    | with_reducible exact State.Leads.refl _ | simp only [State.leads_mk_eq] | with_reducible refine LeadsParts.same _ ?_
    | split | with_reducible refine State.onWing_from _ _ _ ?_

theorem State.roomRefuse_from {s0 : State} (s : State) (r : Req) (p : Nat) (h0 : s0.Leads s) : s0.Leads (State.roomRefuse s r p) := by
  refine State.Leads.trans h0 ?_
  unfold State.roomRefuse
  repeat' first
    | with_reducible exact State.Leads.refl _
    | with_reducible exact LeadsOut.next _
    | with_reducible apply State.leads_ite
    | with_reducible refine State.onRoom_from _ _ _ ?_ ?_
    | with_reducible refine State.on_from _ _ ?_
    | with_reducible refine State.accessErr_from _ _ ?_
    | with_reducible exact Room.Keeps.refl _
    | simp only [Room.keeps_mk_eq]
    | with_reducible refine KeepsParts.same _ ?_
    | with_reducible refine KeepsParts.data _ _ _ ?_
    | with_reducible refine KeepsParts.code _ _ _ ?_
    | with_reducible apply Room.keeps_ite
    | with_reducible refine Room.on_from _ _ ?_
    | split
    | intro _
    | dsimp only

theorem State.writeCtrl_from {s0 : State} (s : State) (p : Fin 48) (v : Word) (h : s0.Leads s) : s0.Leads (State.writeCtrl s p v) := by
  refine State.Leads.trans h ?_
  unfold State.writeCtrl
  try dsimp only
  repeat' first
    | with_reducible exact State.Leads.refl _ | with_reducible apply State.leads_ite
    | with_reducible refine State.via_from _ _ ?_ ?_ | with_reducible refine State.writeForce_from _ _ _ ?_
    | with_reducible refine State.restartCore_from _ _ ?_ | with_reducible refine State.recover_from _ _ ?_
    | with_reducible refine execEnableSet_from _ _ | with_reducible refine execEnableClear_from _ _ | split

theorem State.writePdCmd_from {s0 : State} (s : State) (p : Fin 48) (core : Bool) (v : Word) (h : s0.Leads s) : s0.Leads (State.writePdCmd s p core v) := by
  refine State.Leads.trans h ?_
  unfold State.writePdCmd
  try dsimp only
  repeat' first
    | with_reducible exact State.Leads.refl _ | with_reducible apply State.leads_ite
    | with_reducible refine State.via_from _ _ ?_ ?_ | with_reducible refine execRxPop_from _ _
    | with_reducible refine execVdmPop_from _ _ | with_reducible refine execTxRelease_from _ _
    | with_reducible refine execTxWithdraw_from _ _ | with_reducible refine execAmsEnd_from _ _
    | with_reducible refine execHvdmSend_from _ _ | with_reducible refine execCableDisc_from _ _
    | with_reducible refine execCableReset_from _ _ | with_reducible refine execHardReset_from _ _

theorem State.writeThrFlag_from {s0 : State} (s : State) (p : Fin 48) (v : Word) (h0 : s0.Leads s) : s0.Leads (State.writeThrFlag s p v) := by
  refine State.Leads.trans h0 ?_
  unfold State.writeThrFlag
  try dsimp only
  repeat' first
    | with_reducible refine State.leads_foldl _ _ _ _ ?_ ?_
    | with_reducible exact State.Leads.refl _
    | with_reducible exact LeadsOut.next _
    | with_reducible apply State.leads_ite
    | split
    | with_reducible refine State.writeReg_from _ _ _ ?_
    | with_reducible refine State.untrip_from _ _ _ ?_
    | split
    | intro _
    | dsimp only

theorem State.writeConv_from {s0 : State} (s : State) (p : Fin 48) (o : Nat) (v : Word) (h0 : s0.Leads s) : s0.Leads (State.writeConv s p o v) := by
  refine State.Leads.trans h0 ?_
  unfold State.writeConv
  try dsimp only
  repeat' first
    | with_reducible exact State.Leads.refl _
    | with_reducible exact LeadsOut.next _
    | with_reducible apply State.leads_ite
    | with_reducible refine State.writeReg_from _ _ _ ?_
    | with_reducible refine State.via_from _ _ ?_ ?_
    | with_reducible refine State.writeThrFlag_from _ _ _ ?_
    | with_reducible refine State.onRoomE_from _ _ _ ?_ ?_
    | with_reducible refine State.onRoom_from _ _ _ ?_ ?_
    | with_reducible refine execCoefApply_from _ _
    | with_reducible exact Room.Keeps.refl _
    | simp only [Room.keeps_mk_eq]
    | with_reducible refine KeepsParts.same _ ?_
    | with_reducible refine KeepsParts.data _ _ _ ?_
    | with_reducible refine KeepsParts.code _ _ _ ?_
    | with_reducible apply Room.keeps_ite
    | with_reducible refine Room.refreshIlim_from _ _ ?_
    | with_reducible refine Room.clampFilt_from _ _ ?_
    | split
    | intro _
    | dsimp only

theorem State.writePortBud_from {s0 : State} (s : State) (p : Fin 48) (v : Word) (h : s0.Leads s) : s0.Leads (State.writePortBud s p v) := by
  refine State.Leads.trans h ?_
  unfold State.writePortBud
  repeat' first
    | with_reducible exact State.Leads.refl _ | with_reducible refine State.writeReg_from _ _ _ ?_
    | with_reducible refine State.onRoomE_from _ _ _ ?_ ?_ | with_reducible exact Room.Keeps.refl _
    | with_reducible refine Room.cutTo_from _ _ _ ?_ | split | intro _

theorem State.writeShared_from {s0 : State} (s : State) (p : Fin 48) (core : Bool) (o : Nat) (v : Word) (h0 : s0.Leads s) : s0.Leads (State.writeShared s p core o v) := by
  refine State.Leads.trans h0 ?_
  unfold State.writeShared
  try dsimp only
  repeat' first
    | with_reducible exact State.Leads.refl _
    | with_reducible exact LeadsOut.next _
    | with_reducible apply State.leads_ite
    | with_reducible refine State.via_from _ _ ?_ ?_
    | with_reducible refine State.onRoom_from _ _ _ ?_ ?_
    | with_reducible refine State.put_from _ _ _ ?_
    | with_reducible refine State.writePdCmd_from _ _ _ _ ?_
    | with_reducible refine State.writeReg_from _ _ _ ?_
    | with_reducible refine State.onRoomE_from _ _ _ ?_ ?_
    | with_reducible refine State.writeTmr_from _ _ _ _ _ ?_
    | with_reducible refine execErrorRecovery_from _ _
    | with_reducible refine execVconnEnWrite_from _ _ _
    | with_reducible refine execVsetWrite_from _ _ _
    | with_reducible refine execGrantAsk_from _ _ _
    | with_reducible refine execTrig_from _ _
    | with_reducible exact Room.Keeps.refl _
    | simp only [Room.keeps_mk_eq]
    | with_reducible refine KeepsParts.same _ ?_
    | with_reducible refine KeepsParts.data _ _ _ ?_
    | with_reducible refine KeepsParts.code _ _ _ ?_
    | with_reducible apply Room.keeps_ite
    | with_reducible refine Room.put_from _ _ _ ?_
    | split
    | intro _
    | dsimp only

theorem State.writeRoom_from {s0 : State} (s : State) (p : Fin 48) (o : Nat) (v : Word) (h0 : s0.Leads s) : s0.Leads (State.writeRoom s p o v) := by
  refine State.Leads.trans h0 ?_
  unfold State.writeRoom
  repeat' first
    | with_reducible exact State.Leads.refl _
    | with_reducible exact LeadsOut.next _
    | with_reducible apply State.leads_ite
    | split
    | with_reducible refine State.writeCtrl_from _ _ _ ?_
    | with_reducible refine State.writeConv_from _ _ _ _ ?_
    | with_reducible refine State.writePortBud_from _ _ _ ?_
    | with_reducible refine State.writeHold_from _ _ _ ?_
    | with_reducible refine State.writeShared_from _ _ _ _ _ ?_
    | split
    | intro _

theorem State.storeRoom_from {s0 : State} (s : State) (r : Req) (p : Fin 48) (o : Nat) (v : Word) (h0 : s0.Leads s) : s0.Leads (State.storeRoom s r p o v) := by
  refine State.Leads.trans h0 ?_
  unfold State.storeRoom
  repeat' first
    | with_reducible exact State.Leads.refl _
    | with_reducible exact LeadsOut.next _
    | with_reducible apply State.leads_ite
    | with_reducible refine State.writeConv_from _ _ _ _ ?_
    | with_reducible refine State.roomRefuse_from _ _ _ ?_
    | with_reducible refine State.writeReg_from _ _ _ ?_
    | with_reducible refine State.writeRoom_from _ _ _ _ ?_
    | split
    | intro _

theorem State.coreStore_from {s0 : State} (s : State) (p : Fin 48) (o : Nat) (v : Word) (h0 : s0.Leads s) : s0.Leads (State.coreStore s p o v) := by
  refine State.Leads.trans h0 ?_
  unfold State.coreStore
  repeat' first
    | with_reducible exact State.Leads.refl _
    | with_reducible exact LeadsOut.next _
    | simp only [State.leads_mk_eq]
    | with_reducible refine LeadsParts.same _ ?_
    | with_reducible refine LeadsParts.cellar _ _ ?_ ?_
    | with_reducible refine LeadsParts.attic _ _ ?_ ?_
    | with_reducible refine LeadsParts.porch _ _ ?_ ?_
    | with_reducible refine LeadsParts.hearth _ _ ?_ ?_
    | with_reducible refine LeadsParts.links _ _ ?_ ?_
    | with_reducible refine LeadsParts.tcs _ _ ?_ ?_
    | with_reducible exact fun k => k
    | with_reducible exact fun k => eraseRange_wf _ _ _ k
    | with_reducible exact fun k => progBytes_wf _ _ _ k
    | with_reducible exact fun k => brecWrite_wf _ _ _ k
    | exact Attic.grows_same rfl rfl
    | (simp only [List.length_map, List.length_zipIdx]; exact id)
    | with_reducible apply State.leads_ite
    | split
    | with_reducible refine State.onRoom_from _ _ _ ?_ ?_
    | with_reducible refine State.on_from _ _ ?_
    | with_reducible refine State.stage_from _ _ _ ?_
    | with_reducible refine State.kick_from _ _ _ ?_
    | with_reducible refine State.put_from _ _ _ ?_
    | with_reducible refine State.writeShared_from _ _ _ _ _ ?_
    | with_reducible exact Room.Keeps.refl _
    | simp only [Room.keeps_mk_eq]
    | with_reducible refine KeepsParts.same _ ?_
    | with_reducible refine KeepsParts.data _ _ _ ?_
    | with_reducible refine KeepsParts.code _ _ _ ?_
    | with_reducible apply Room.keeps_ite
    | with_reducible refine Room.on_from _ _ ?_
    | with_reducible refine Room.onCore_from _ _ ?_
    | with_reducible refine Room.put_from _ _ _ ?_
    | split
    | intro _
    | dsimp only

theorem State.storeLand_from {s0 : State} (s : State) (b : Fin 6) (o : Nat) (v : Word) (h : s0.Leads s) : s0.Leads (State.storeLand s b o v) := by
  refine State.Leads.trans h ?_
  unfold State.storeLand
  try dsimp only
  repeat' first
    | with_reducible exact State.Leads.refl _ | with_reducible apply State.leads_ite | split
    | with_reducible refine State.via_from _ _ ?_ ?_ | with_reducible refine State.hsRecover_from _ _ ?_
    | with_reducible refine State.writeTmr_from _ _ _ _ _ ?_ | with_reducible refine State.writeNode_from _ _ _ _ ?_
    | with_reducible refine State.writeReg_from _ _ _ ?_ | with_reducible refine execHsEnSet_from _ _
    | with_reducible refine execHsEnClear_from _ _ | with_reducible refine execHsLimitWrite_from _ _ _

theorem State.storeWing_from {s0 : State} (s : State) (w : Fin 2) (o : Nat) (v : Word) (h : s0.Leads s) : s0.Leads (State.storeWing s w o v) := by
  refine State.Leads.trans h ?_
  unfold State.storeWing
  try dsimp only
  repeat' first
    | with_reducible exact State.Leads.refl _ | with_reducible apply State.leads_ite | split
    | with_reducible refine State.restartWing_from _ _ ?_ | with_reducible refine State.writeNode_from _ _ _ _ ?_
    | with_reducible refine State.writeReg_from _ _ _ ?_

theorem State.storePan_from {s0 : State} (s : State) (a : Nat) (v : Word) (h0 : s0.Leads s) : s0.Leads (State.storePan s a v) := by
  refine State.Leads.trans h0 ?_
  unfold State.storePan
  try dsimp only
  repeat' first
    | with_reducible exact State.Leads.refl _
    | with_reducible exact LeadsOut.next _
    | with_reducible apply State.leads_ite
    | with_reducible refine State.writeReg_from _ _ _ ?_
    | with_reducible refine State.putB_from _ _ _ ?_
    | with_reducible refine State.via_from _ _ ?_ ?_
    | with_reducible refine State.panRestart_from _ ?_
    | with_reducible refine State.enforce_from _ ?_
    | with_reducible refine State.put_from _ _ _ ?_
    | with_reducible refine State.panLevels_from _ ?_
    | with_reducible refine State.refreshChg_from _ ?_
    | with_reducible refine execPanEnWrite_from _ _
    | with_reducible refine execStart_from _
    | split
    | intro _

theorem State.writePwr_from {s0 : State} (s : State) (v : Word) (h0 : s0.Leads s) : s0.Leads (State.writePwr s v) := by
  refine State.Leads.trans h0 ?_
  unfold State.writePwr
  try dsimp only
  repeat' first
    | with_reducible exact State.Leads.refl _
    | with_reducible exact LeadsOut.next _
    | with_reducible apply State.leads_ite
    | with_reducible refine State.resetKey_from _ _ ?_
    | with_reducible refine State.reqState_from _ _ _ ?_
    | split
    | intro _

theorem State.writePair_from {s0 : State} (s : State) (v : Word) (h : s0.Leads s) : s0.Leads (State.writePair s v) := by
  refine State.Leads.trans h ?_
  unfold State.writePair
  try dsimp only
  repeat' first
    | with_reducible exact State.Leads.refl _ | with_reducible apply State.leads_ite
    | with_reducible refine State.writeReg_from _ _ _ ?_ | with_reducible refine State.markStale_from _ _ ?_
    | with_reducible refine State.checkRelease_from _ ?_ | with_reducible refine State.refreshStale_from _ ?_

theorem State.storeHall_from {s0 : State} (s : State) (r : Req) (a : Nat) (v : Word) (h : s0.Leads s) : s0.Leads (State.storeHall s r a v) := by
  refine State.Leads.trans h ?_
  unfold State.storeHall
  try dsimp only
  repeat' first
    | with_reducible exact State.Leads.refl _ | simp only [State.leads_mk_eq] | with_reducible refine LeadsParts.same _ ?_
    | with_reducible apply State.leads_ite | split | with_reducible refine State.writeDbg_from _ _ _ ?_
    | with_reducible refine State.accessErr_from _ _ ?_ | with_reducible refine State.busMode_from _ _ _ ?_
    | with_reducible refine State.writeReg_from _ _ _ ?_ | with_reducible refine State.fireEval_from _ ?_
    | with_reducible refine State.writePwr_from _ _ ?_ | with_reducible refine State.loadTb_from _ ?_
    | with_reducible refine State.snapTrig_from _ ?_ | with_reducible refine State.setLocks_from _ _ ?_
    | with_reducible refine State.fuseStart_from _ _ _ _ ?_ | with_reducible refine State.verifyStart_from _ ?_
    | with_reducible refine State.storePan_from _ _ _ ?_ | with_reducible refine State.writePair_from _ _ ?_
    | with_reducible refine State.postGo_from _ ?_ | with_reducible refine State.tcGo_from _ _ ?_
    | with_reducible refine State.jAppend_from _ _ ?_ | with_reducible refine State.bootrec_from _ _ ?_
    | with_reducible refine State.writeNode_from _ _ _ _ ?_

theorem State.storeReg_from {s0 : State} (s : State) (r : Req) (l : Loc) (v : Word) (h : s0.Leads s) : s0.Leads (State.storeReg s r l v) := by
  refine State.Leads.trans h ?_
  unfold State.storeReg
  repeat' first
    | with_reducible exact State.Leads.refl _ | split | with_reducible refine State.storeRoom_from _ _ _ _ _ ?_
    | with_reducible refine State.storeLand_from _ _ _ _ ?_ | with_reducible refine State.storeWing_from _ _ _ _ ?_
    | with_reducible refine State.storeHall_from _ _ _ _ ?_

theorem State.noteWrite_from {s0 : State} (s : State) (r : Req) (l : Loc) (addr : Nat) (v : Word) (h : s0.Leads s) : s0.Leads (State.noteWrite s r l addr v) := by
  refine State.Leads.trans h ?_
  unfold State.noteWrite
  repeat' first
    | with_reducible exact State.Leads.refl _ | with_reducible apply State.leads_ite
    | with_reducible refine State.onPair_from _ _ ?_

theorem State.regWrite_from {s0 : State} (s : State) (r : Req) (l : Loc) (addr : Nat) (v : Word) (h0 : s0.Leads s) : s0.Leads (State.regWrite s r l addr v) := by
  refine State.Leads.trans h0 ?_
  unfold State.regWrite
  repeat' first
    | with_reducible exact State.Leads.refl _
    | with_reducible exact LeadsOut.next _
    | with_reducible apply State.leads_ite
    | with_reducible refine State.accessErr_from _ _ ?_
    | with_reducible refine State.storeReg_from _ _ _ _ ?_
    | with_reducible refine State.noteWrite_from _ _ _ _ _ ?_
    | split
    | intro _

theorem State.busStore_from {s0 : State} (s : State) (r : Req) (addr size : Nat) (v : Word) (h : s0.Leads s) :
    s0.Leads (State.busStore s r addr size v) := by
  refine (State.busGrant_from s r (locate addr) h).trans ?_
  unfold State.busStore
  dsimp only
  generalize s.busGrant r (locate addr) = s
  clear h
  refine State.leads_ite _ _ _ (State.accessErr_from _ _ (.refl s)) ?_
  split
  · exact State.accessErr_from _ _ (.refl s)
  · exact State.accessErr_from _ _ (.refl s)
  · refine State.leads_ite _ _ _ ?_ (State.accessErr_from _ _ (.refl s))
    exact ⟨fun i => ⟨i.1, i.2, i.3, i.4, i.5, i.6, i.7, putBytes_wf _ _ _ i.8, i.9, i.10⟩, Attic.grows_refl _, rfl⟩
  · exact ⟨fun i => ⟨i.1, i.2, i.3, i.4, i.5, i.6, i.7, i.8, putBytes_wf _ _ _ i.9, i.10⟩, Attic.grows_refl _, rfl⟩
  · exact State.onRoom_leads _ _ _ fun r k => ⟨putBytes_wf _ _ _ k.1, k.2⟩
  · refine State.leads_ite _ _ _ ?_ (State.accessErr_from _ _ (.refl s))
    exact State.onRoom_leads _ _ _ fun r k => ⟨k.1, putBytes_wf _ _ _ k.2⟩
  · refine State.leads_ite _ _ _ (State.regWrite_from _ _ _ _ _ (.refl s)) ?_
    split
    · exact State.leads_ite _ _ _ (.refl s) (State.roomRefuse_from _ _ _ (.refl s))
    · exact State.accessErr_from _ _ (.refl s)

theorem State.readReg_from {s0 : State} (s : State) (l : Loc) (h : s0.Leads s) : s0.Leads ((State.readReg s l).2) := by
  refine State.Leads.trans h ?_
  unfold State.readReg
  try dsimp only
  repeat' first
    | with_reducible exact State.Leads.refl _ | simp only [State.leads_mk_eq] | with_reducible refine LeadsParts.same _ ?_
    | with_reducible apply State.leads_ite | split | with_reducible refine State.rcRead_from _ _ ?_
    | with_reducible refine State.put_from _ _ _ ?_

theorem State.busLoad_from {s0 : State} (s : State) (r : Req) (addr size : Nat) (h : s0.Leads s) : s0.Leads (State.busLoad s r addr size) := by
  refine State.Leads.trans h ?_
  unfold State.busLoad
  try dsimp only
  repeat' first
    | with_reducible exact State.Leads.refl _ | simp only [State.leads_mk_eq] | with_reducible refine LeadsParts.same _ ?_
    | with_reducible apply State.leads_ite | split | with_reducible refine State.busGrant_from _ _ _ ?_
    | with_reducible refine State.accessErr_from _ _ ?_ | with_reducible refine State.readReg_from _ _ ?_

theorem State.coreWrite_from {s0 : State} (s : State) (p : Fin 48) (o size : Nat) (v : Word) (h : s0.Leads s) : s0.Leads (State.coreWrite s p o size v) := by
  refine State.Leads.trans h ?_
  unfold State.coreWrite
  repeat' first
    | with_reducible exact State.Leads.refl _ | with_reducible apply State.leads_ite
    | with_reducible refine State.coreStore_from _ _ _ _ ?_ | with_reducible refine State.onRoom_from _ _ _ ?_ ?_
    | with_reducible exact Room.Keeps.refl _ | with_reducible refine Room.on_from _ _ ?_ | intro _

theorem State.discover_from {s0 : State} (s : State) (d : Option Sfdp) (h : s0.Leads s) : s0.Leads (State.discover s d) := by
  refine State.Leads.trans h ?_
  unfold State.discover
  repeat' first
    | with_reducible exact State.Leads.refl _ | split | with_reducible refine State.put_from _ _ _ ?_
    | with_reducible refine State.on_from _ _ ?_

theorem State.bootRecord_from {s0 : State} (s : State) (h : s0.Leads s) : s0.Leads ((State.bootRecord s).2) := by
  refine State.Leads.trans h ?_
  unfold State.bootRecord
  repeat' first
    | with_reducible exact State.Leads.refl _ | simp only [State.leads_mk_eq] | split
    | with_reducible refine State.on_from _ _ ?_ | with_reducible refine State.put_from _ _ _ ?_

theorem State.trialStep_from {s0 : State} (s : State) (x : BootPref) (ok : Bool) (h : s0.Leads s) : s0.Leads ((State.trialStep s x ok).2) := by
  refine State.Leads.trans h ?_
  unfold State.trialStep
  try dsimp only
  repeat' first
    | with_reducible exact State.Leads.refl _ | simp only [State.leads_mk_eq] | with_reducible apply State.leads_ite
    | with_reducible refine State.on_from _ _ ?_ | with_reducible refine State.writeBrec_from _ _ _ _ _ _ ?_
    | with_reducible refine State.put_from _ _ _ ?_ | split

theorem State.showFw_from {s0 : State} (s : State) (l : List (Nat × Nat)) (h : s0.Leads s) : s0.Leads (State.showFw s l) := by
  refine State.Leads.trans h ?_
  unfold State.showFw
  try dsimp only
  repeat' first
    | with_reducible refine State.leads_foldl _ _ _ _ ?_ ?_ | with_reducible exact State.Leads.refl _
    | with_reducible refine State.put_from _ _ _ ?_ | intro _

theorem State.showPlanSlot_from {s0 : State} (s : State) (x : Nat × Nat) (h : s0.Leads s) : s0.Leads (State.showPlanSlot s x) := by
  refine State.Leads.trans h ?_
  unfold State.showPlanSlot
  try dsimp only
  repeat' first
    | with_reducible exact State.Leads.refl _ | with_reducible apply State.leads_ite | split
    | with_reducible refine State.put_from _ _ _ ?_

theorem State.wingCeil_from {s0 : State} (s : State) (l : List (Fin 2)) (f : Fin 2 → Wing → Wing) (h : s0.Leads s) :
    s0.Leads (l.foldl (fun s w => s.onWing w (f w)) s) :=
  State.leads_foldl _ _ _ _ h fun s w => State.onWing_leads s w _
/-- The Plan that the stored body gives, after the checks of Plan validation passed it. -/
theorem State.applyStructure_from {s0 : State} (s : State) (h0 : planError s.planStore = none) (h : s0.Leads s) :
    s0.Leads (State.applyStructure s (planOf s.planStore)) := by
  refine h.trans ?_
  unfold State.applyStructure
  extract_lets s1 s2 s3 s4 s5 s6 high
  have k1 : s.Leads s1 := ⟨fun i => ⟨i.1, i.2, i.3, i.4, i.5, fun x e => by cases e; exact ⟨h0, rfl⟩, i.7, i.8, i.9, i.10⟩,
    Attic.grows_refl _, rfl⟩
  have k2 : s.Leads s2 := State.mapRooms_from _ _ (fun p r => Room.keeps_of _ _ (Room.applyPlan_mems _ _ _)) k1
  have k3 : s.Leads s3 := State.mapLands_from _ _ k2
  have k4 : s.Leads s4 := State.wingCeil_from _ _ _ k3
  have k5 : s.Leads s5 := k4.trans (State.leads_same _ _ rfl rfl rfl rfl rfl rfl rfl rfl rfl rfl rfl rfl rfl)
  have k6 : s.Leads s6 := State.leads_ite _ _ _ (State.refreshChg_from _ (State.panLevels_from _ (State.put_from _ _ _ k5))) k5
  have k7 : s.Leads { s6 with hearth := { s6.hearth with gradeHigh := high } } :=
    k6.trans ⟨fun i => ⟨i.1, i.2, i.3, i.4, i.5, i.6, i.7, i.8, i.9, i.10⟩, Attic.grows_refl _, rfl⟩
  exact State.onClk_from _ _ (State.startHearth_from _ k7)

theorem State.bootCores_from {s0 : State} (s : State) (h : s0.Leads s) : s0.Leads (State.bootCores s) := by
  refine State.Leads.trans h ?_
  unfold State.bootCores
  repeat' first
    | with_reducible refine State.leads_foldl _ _ _ _ ?_ ?_ | with_reducible exact State.Leads.refl _
    | with_reducible apply State.leads_ite | with_reducible refine State.bootCore_from _ _ ?_
    | with_reducible refine State.onRoom_from _ _ _ ?_ ?_ | with_reducible exact Room.Keeps.refl _
    | with_reducible refine Room.onCore_from _ _ ?_ | intro _

theorem State.putSetting_from {s0 : State} (s : State) (e : SettingRec) (v : Nat) (h : s0.Leads s) : s0.Leads (State.putSetting s e v) := by
  refine State.Leads.trans h ?_
  unfold State.putSetting
  repeat' first
    | with_reducible exact State.Leads.refl _ | simp only [State.leads_mk_eq] | with_reducible refine LeadsParts.same _ ?_
    | with_reducible apply State.leads_ite | split | with_reducible refine State.storeReg_from _ _ _ _ ?_

theorem State.bootSetting_from {s0 : State} (s : State) (rs : List JRec) (e : SettingRec) (h : s0.Leads s) : s0.Leads (State.bootSetting s rs e) := by
  refine State.Leads.trans h ?_
  unfold State.bootSetting
  try dsimp only
  repeat' first
    | with_reducible exact State.Leads.refl _ | simp only [State.leads_mk_eq]
    | with_reducible refine LeadsParts.porch _ _ ?_ ?_ | (with_reducible exact fun k => k)
    | with_reducible apply State.leads_ite | split | with_reducible refine State.putSetting_from _ _ _ ?_

theorem State.bootSettings_from {s0 : State} (s : State) (h : s0.Leads s) : s0.Leads (State.bootSettings s) := by
  refine State.Leads.trans h ?_
  unfold State.bootSettings
  try dsimp only
  repeat' first
    | with_reducible refine State.leads_foldl _ _ _ _ ?_ ?_ | with_reducible exact State.Leads.refl _
    | simp only [State.leads_mk_eq] | with_reducible refine LeadsParts.same _ ?_
    | with_reducible refine State.bootSetting_from _ _ _ ?_ | intro _

theorem State.showStaged_from {s0 : State} (s : State) (h : s0.Leads s) : s0.Leads (State.showStaged s) := by
  refine State.Leads.trans h ?_
  unfold State.showStaged
  try dsimp only
  repeat' first
    | with_reducible exact State.Leads.refl _ | with_reducible refine State.put_from _ _ _ ?_

theorem State.hallLoad_leads (s : State) (a b : List Byte) (c : Core) :
    s.Leads { s with hallCode := memOf a, hallData := memOf b, hall := c } :=
  ⟨fun i => ⟨i.1, i.2, i.3, i.4, i.5, i.6, i.7, memOf_wf _, memOf_wf _, i.10⟩, Attic.grows_refl _, rfl⟩
theorem State.startHall_from {s0 : State} (s : State) (fw : List Byte) (h : s0.Leads s) :
    s0.Leads (State.startHall s fw) := by
  unfold State.startHall
  extract_lets c0 s1
  have k : s0.Leads s1 := h.trans (State.hallLoad_leads s _ _ _)
  exact State.leads_ite _ _ _ (State.haltCore_from _ _ _ _ k) k

theorem State.startPair_from {s0 : State} (s : State) (h0 : s0.Leads s) : s0.Leads (State.startPair s) := by
  refine State.Leads.trans h0 ?_
  unfold State.startPair
  try dsimp only
  repeat' first
    | with_reducible refine State.leads_foldl _ _ _ _ ?_ ?_
    | with_reducible exact State.Leads.refl _
    | with_reducible exact LeadsOut.next _
    | simp only [State.leads_mk_eq]
    | with_reducible refine LeadsParts.same _ ?_
    | with_reducible refine LeadsParts.cellar _ _ ?_ ?_
    | with_reducible refine LeadsParts.attic _ _ ?_ ?_
    | with_reducible refine LeadsParts.porch _ _ ?_ ?_
    | with_reducible refine LeadsParts.hearth _ _ ?_ ?_
    | with_reducible refine LeadsParts.links _ _ ?_ ?_
    | with_reducible refine LeadsParts.tcs _ _ ?_ ?_
    | with_reducible exact fun k => k
    | with_reducible exact fun k => eraseRange_wf _ _ _ k
    | with_reducible exact fun k => progBytes_wf _ _ _ k
    | with_reducible exact fun k => brecWrite_wf _ _ _ k
    | exact Attic.grows_same rfl rfl
    | (simp only [List.length_map, List.length_zipIdx]; exact id)
    | with_reducible apply State.leads_ite
    | with_reducible refine State.onRoom_from _ _ _ ?_ ?_
    | with_reducible refine State.on_from _ _ ?_
    | with_reducible refine State.onPair_from _ _ ?_
    | with_reducible refine State.refreshPeer_from _ _ ?_
    | with_reducible refine State.refreshStale_from _ ?_
    | with_reducible refine State.refreshKeeper_from _ ?_
    | with_reducible refine Room.keeps_foldl _ _ _ _ ?_ ?_
    | with_reducible exact Room.Keeps.refl _
    | simp only [Room.keeps_mk_eq]
    | with_reducible refine KeepsParts.same _ ?_
    | with_reducible refine KeepsParts.data _ _ _ ?_
    | with_reducible refine KeepsParts.code _ _ _ ?_
    | with_reducible apply Room.keeps_ite
    | with_reducible refine Room.setLoop_from _ _ ?_
    | with_reducible refine Room.on_from _ _ ?_
    | split
    | intro _
    | dsimp only

theorem State.startPorts_from {s0 : State} (s : State) (h : s0.Leads s) : s0.Leads (State.startPorts s) := by
  refine State.Leads.trans h ?_
  unfold State.startPorts
  repeat' first
    | with_reducible refine State.leads_foldl _ _ _ _ ?_ ?_ | with_reducible exact State.Leads.refl _
    | with_reducible refine State.slotSettle_from _ _ ?_ | intro _

theorem State.stores_leads (s : State) (a b c d : List Byte) :
    s.Leads { s with fwStore := a, fwDigest := b, planStore := c, planDigest := d, plan := none } :=
  ⟨fun i => ⟨i.1, i.2, i.3, i.4, i.5, fun x e => (by cases e), i.7, i.8, i.9, i.10⟩, Attic.grows_refl _, rfl⟩
theorem State.applyStructure_over (s : State) (pl : Plan) :
    s.applyStructure pl = ({ s with plan := none } : State).applyStructure pl := rfl
theorem State.stagedTwo_leads (s : State) (a b : Option Staged) (n : Nat) :
    s.Leads { s with porch := { s.porch with staged := [a, b] }, hbeatAt := n } :=
  ⟨fun i => ⟨i.1, i.2, i.3, rfl, i.5, i.6, i.7, i.8, i.9, i.10⟩, Attic.grows_refl _, rfl⟩
theorem State.bootComplete_from {s0 : State} (s : State) (x : BootPref) (fwSlot planSlot : Nat)
    (h0 : planError (s.slotBody 2 planSlot (s.slotHeader 2 planSlot)) = none) (h : s0.Leads s) :
    s0.Leads (State.bootComplete s x fwSlot planSlot) := by
  refine h.trans ?_
  unfold State.bootComplete
  extract_lets fh fw body pl trial s1 s2 s3 s4 s5 s6 x7 s7 s8
  let u : State := { s1 with plan := none }
  have k1 : s.Leads u := State.stores_leads s _ _ _ _
  let v : State := ((u.put BOOT_STAT_FW_SLOT fwSlot).put FW_VERSION_VERSION (hdrVersion fh)).put UPD_STAT_TRIAL trial
  have k2 : s.Leads v := State.put_from _ _ _ (State.put_from _ _ _ (State.put_from _ _ _ k1))
  have e : s2.applyStructure pl = v.applyStructure (planOf v.planStore) := State.applyStructure_over s2 pl
  have k3 : s.Leads (s2.applyStructure pl) := e ▸ State.applyStructure_from v h0 k2
  clear_value u v
  have k4 : s.Leads s3 := State.jnlOpen_from _ (State.onClk_from _ _ (State.bootCores_from _ k3))
  clear_value s3
  have k5 : s.Leads s4 := State.bootSettings_from _ k4
  clear_value s4
  have k6 : s.Leads s5 := State.putB_from _ _ _ (State.put_from _ _ _ (State.on_from _ _ k5))
  have k7 : s.Leads s6 := State.put_from _ _ _ (State.put_from _ _ _ (State.put_from _ _ _ (State.put_from _ _ _
    (State.put_from _ _ _ k6))))
  clear_value s6
  have k8 : s.Leads s7 := k7.trans (State.stagedTwo_leads _ _ _ _)
  have k9 : s.Leads s8 := State.startHall_from _ _ (State.on_from _ _ (State.on_from _ _ (State.showStaged_from _ k8)))
  exact State.fireEval_from _ (State.leads_ite _ _ _ (State.startPair_from _ k9) (State.startPorts_from _ k9))

theorem State.toRecovery_from {s0 : State} (s : State) (h : s0.Leads s) : s0.Leads (State.toRecovery s) := by
  refine State.Leads.trans h ?_
  unfold State.toRecovery
  repeat' first
    | with_reducible exact State.Leads.refl _ | with_reducible refine State.on_from _ _ ?_
    | with_reducible refine State.onClk_from _ _ ?_

/-- Two states with the same flash and the same fuses. -/
def State.sameFlash (s t : State) : Prop := t.cellar = s.cellar ∧ t.attic = s.attic
theorem State.sameFlash.body {s t : State} (h : s.sameFlash t) (k n : Nat) :
    t.slotBody k n (t.slotHeader k n) = s.slotBody k n (s.slotHeader k n) := by
  unfold State.slotBody State.slotHeader State.slotChunk
  rw [h.1, h.2]
theorem State.put_flash {s t : State} (f : Field) (v : Nat) (h : s.sameFlash t) : s.sameFlash (t.put f v) := h
theorem State.foldl_flash {α : Type} {s : State} (f : State → α → State) (k : ∀ (t : State) (a : α), t.sameFlash (f t a)) (l : List α)
    (t : State) (h : s.sameFlash t) : s.sameFlash (l.foldl f t) := by
  induction l generalizing t with
  | nil => exact h
  | cons a l ih => exact ih _ ⟨(k t a).1.trans h.1, (k t a).2.trans h.2⟩
theorem State.showPlanSlot_flash (t : State) (x : Nat × Nat) : t.sameFlash (t.showPlanSlot x) := by
  unfold State.showPlanSlot
  extract_lets env s1
  split
  · split <;> exact ⟨rfl, rfl⟩
  · exact ⟨rfl, rfl⟩
theorem State.showFw_flash (t : State) (l : List (Nat × Nat)) : t.sameFlash (t.showFw l) := by
  unfold State.showFw
  exact State.foldl_flash _ (fun t a => State.put_flash _ _ ⟨rfl, rfl⟩) l t ⟨rfl, rfl⟩
theorem examine_ok (code : Nat → Nat) (q n : Nat) (h : (examine code q).2 = some n) : code n = 0 := by
  unfold examine at h
  split at h
  · cases h; assumption
  · dsimp only at h
    split at h
    · cases h; assumption
    · cases h
theorem State.planCode_ok (s : State) (b : BootFlash) (n : Nat) (h : s.planCode b n = 0) :
    planError (s.slotBody 2 n (s.slotHeader 2 n)) = none := by
  unfold State.planCode at h
  dsimp only at h
  split at h
  · simp_all
  · split at h
    · assumption
    · omega
theorem State.boot_from {s0 : State} (s : State) (b : BootFlash) (h : s0.Leads s) : s0.Leads (State.boot s b) := by
  refine h.trans ?_
  unfold State.boot
  extract_lets s1 s2 s3 r t s4 fw pn s5
  have k1 : s.Leads s3 := State.discover_from _ _ (State.setLocks_from _ _ (State.readAttic_from _ (.refl s)))
  clear_value s3
  have k2 : s.Leads r.2 := State.bootRecord_from _ k1
  clear_value r
  split
  · exact State.toRecovery_from _ k2
  · have k3 : s.Leads s4 := State.trialStep_from _ _ _ k2
    clear_value s4
    have k4 : s.Leads s5 := State.leads_foldl _ _ _ _ (State.showFw_from _ _ k3) fun s x => State.showPlanSlot_from _ _ (.refl s)
    have fl : s4.sameFlash s5 := State.foldl_flash _ State.showPlanSlot_flash _ _ (State.showFw_flash _ _)
    split
    · rename_i f p e1 e2
      refine State.bootComplete_from _ _ _ _ ?_ k4
      rw [fl.body]
      exact State.planCode_ok s4 b p (examine_ok _ _ _ e2)
    · exact State.toRecovery_from _ (k4.trans (State.leads_same _ _ rfl rfl rfl rfl rfl rfl rfl rfl rfl rfl rfl rfl rfl))
    · exact State.toRecovery_from _ (k4.trans ⟨fun i => ⟨i.1, i.2, i.3, i.4, i.5, fun x e => (by cases e), i.7, i.8, i.9, i.10⟩,
        Attic.grows_refl _, rfl⟩)
    · exact State.toRecovery_from _ k4

theorem execPllLock_from (b : BootFlash) (s : State) : LeadsOut s (execPllLock b s) := by
  unfold execPllLock
  try dsimp only
  repeat' first
    | with_reducible exact State.Leads.refl _
    | with_reducible exact LeadsOut.next _
    | with_reducible apply State.leads_ite
    | with_reducible apply LeadsOut.ite
    | with_reducible refine LeadsOut.of ?_
    | with_reducible refine LeadsSeq.ok ?_
    | with_reducible refine LeadsSeq.error ?_
    | with_reducible apply LeadsSeq.ite
    | split
    | with_reducible refine State.on_from _ _ ?_
    | with_reducible refine State.makeUp_from _ ?_
    | with_reducible refine State.boot_from _ _ ?_
    | with_reducible refine act_from _ _ _ ?_
    | split
    | intro _
    | dsimp only

theorem execRegisterWrite_from (a : Agent) (addr size : Nat) (v : Word) (s : State) : LeadsOut s (execRegisterWrite a addr size v s) := by
  unfold execRegisterWrite
  repeat' first
    | with_reducible exact State.Leads.refl _ | split | with_reducible refine State.coreWrite_from _ _ _ _ _ ?_
    | with_reducible refine State.busStore_from _ _ _ _ _ ?_ | with_reducible refine act_from _ _ _ ?_

theorem readAct_from (s : State) (l : Loc) : LeadsOut s (readAct s l) := by
  unfold readAct
  try dsimp only
  repeat' first
    | with_reducible exact State.Leads.refl _ | simp only [State.leads_mk_eq] | with_reducible refine LeadsParts.same _ ?_
    | with_reducible refine State.readReg_from _ _ ?_ | with_reducible refine act_from _ _ _ ?_

theorem execFaultRead_from (p : Fin 48) (s : State) : LeadsOut s (execFaultRead p s) := by
  unfold execFaultRead
  repeat' with_reducible refine readAct_from _ _

theorem execPdErrcntRead_from (p : Fin 48) (s : State) : LeadsOut s (execPdErrcntRead p s) := by
  unfold execPdErrcntRead
  repeat' with_reducible refine readAct_from _ _

theorem execThrCntRead_from (p : Fin 48) (s : State) : LeadsOut s (execThrCntRead p s) := by
  unfold execThrCntRead
  repeat' with_reducible refine readAct_from _ _

theorem execHsFaultRead_from (b : Fin 6) (s : State) : LeadsOut s (execHsFaultRead b s) := by
  unfold execHsFaultRead
  repeat' with_reducible refine readAct_from _ _

theorem execLandFaultRead_from (b : Fin 6) (s : State) : LeadsOut s (execLandFaultRead b s) := by
  unfold execLandFaultRead
  repeat' with_reducible refine readAct_from _ _

theorem execWingFaultRead_from (w : Fin 2) (cal : Bool) (s : State) : LeadsOut s (execWingFaultRead w cal s) := by
  unfold execWingFaultRead
  repeat' with_reducible refine readAct_from _ _

theorem execPantryFaultRead_from (s : State) : LeadsOut s (execPantryFaultRead s) := by
  unfold execPantryFaultRead
  repeat' with_reducible refine readAct_from _ _

theorem execResetCauseRead_from (s : State) : LeadsOut s (execResetCauseRead s) := by
  unfold execResetCauseRead
  repeat' with_reducible refine readAct_from _ _

theorem execWakeCauseRead_from (s : State) : LeadsOut s (execWakeCauseRead s) := by
  unfold execWakeCauseRead
  repeat' with_reducible refine readAct_from _ _

theorem execPwrStatRead_from (s : State) : LeadsOut s (execPwrStatRead s) := by
  unfold execPwrStatRead
  repeat' with_reducible refine readAct_from _ _

theorem execHallModeRead_from (s : State) : LeadsOut s (execHallModeRead s) := by
  unfold execHallModeRead
  repeat' with_reducible refine readAct_from _ _

theorem execHlErrRead_from (n : Fin 3) (s : State) : LeadsOut s (execHlErrRead n s) := by
  unfold execHlErrRead
  repeat' with_reducible refine readAct_from _ _

theorem execTwErrRead_from (n : Fin 4) (s : State) : LeadsOut s (execTwErrRead n s) := by
  unfold execTwErrRead
  repeat' with_reducible refine readAct_from _ _

theorem execStairErrRead_from (s : State) : LeadsOut s (execStairErrRead s) := by
  unfold execStairErrRead
  repeat' with_reducible refine readAct_from _ _

theorem execAtticResultRead_from (s : State) : LeadsOut s (execAtticResultRead s) := by
  unfold execAtticResultRead
  repeat' with_reducible refine readAct_from _ _

theorem execJnlResultRead_from (s : State) : LeadsOut s (execJnlResultRead s) := by
  unfold execJnlResultRead
  repeat' with_reducible refine readAct_from _ _

theorem execTbCtrlRead_from (s : State) : LeadsOut s (execTbCtrlRead s) := by
  unfold execTbCtrlRead
  repeat' with_reducible refine readAct_from _ _

theorem execHbStatRead_from (s : State) : LeadsOut s (execHbStatRead s) := by
  unfold execHbStatRead
  repeat' with_reducible refine readAct_from _ _

theorem execSubwordRead_from (a : Agent) (addr size : Nat) (s : State) : LeadsOut s (execSubwordRead a addr size s) := by
  unfold execSubwordRead
  repeat' first
    | with_reducible exact State.Leads.refl _ | simp only [State.leads_mk_eq] | with_reducible refine LeadsParts.same _ ?_
    | split | with_reducible refine State.busLoad_from _ _ _ _ ?_ | with_reducible refine act_from _ _ _ ?_

theorem execPlanRdDataRead_from (s : State) : LeadsOut s (execPlanRdDataRead s) := by
  unfold execPlanRdDataRead
  repeat' with_reducible refine readAct_from _ _

theorem execFwRdDataRead_from (s : State) : LeadsOut s (execFwRdDataRead s) := by
  unfold execFwRdDataRead
  repeat' with_reducible refine readAct_from _ _

theorem execCelRdDataRead_from (s : State) : LeadsOut s (execCelRdDataRead s) := by
  unfold execCelRdDataRead
  repeat' with_reducible refine readAct_from _ _

theorem execVerify_from (s : State) : LeadsOut s (execVerify s) := by
  unfold execVerify
  repeat' first
    | with_reducible exact State.Leads.refl _ | with_reducible refine State.verifyStart_from _ ?_
    | with_reducible refine act_from _ _ _ ?_

theorem execVerifyDone_from (s : State) : LeadsOut s (execVerifyDone s) := by
  unfold execVerifyDone
  try dsimp only
  repeat' first
    | with_reducible exact State.Leads.refl _ | with_reducible exact LeadsOut.next _ | split
    | with_reducible refine State.verifyEnd_from _ _ _ ?_ | with_reducible refine act_from _ _ _ ?_

theorem State.refusal_from {s0 : State} (s : State) (status : Nat) (known : List Byte) (n : Nat) (h : s0.Leads s) :
    s0.Leads (State.refusal s status known n).2 := State.freeBytes_from s n h

theorem State.respond_from {s0 : State} (s : State) (h : BitVec 12) (resp : Nat) (data : Option Word) (h0 : s0.Leads s) : s0.Leads (State.respond s h resp data) := by
  refine State.Leads.trans h0 ?_
  unfold State.respond
  repeat' first
    | with_reducible exact State.Leads.refl _
    | with_reducible exact LeadsOut.next _
    | simp only [State.leads_mk_eq]
    | with_reducible refine LeadsParts.same _ ?_
    | with_reducible refine LeadsParts.cellar _ _ ?_ ?_
    | with_reducible refine LeadsParts.attic _ _ ?_ ?_
    | with_reducible refine LeadsParts.porch _ _ ?_ ?_
    | with_reducible refine LeadsParts.hearth _ _ ?_ ?_
    | with_reducible refine LeadsParts.links _ _ ?_ ?_
    | with_reducible refine LeadsParts.tcs _ _ ?_ ?_
    | with_reducible exact fun k => k
    | with_reducible exact fun k => eraseRange_wf _ _ _ k
    | with_reducible exact fun k => progBytes_wf _ _ _ k
    | with_reducible exact fun k => brecWrite_wf _ _ _ k
    | exact Attic.grows_same rfl rfl
    | (simp only [List.length_map, List.length_zipIdx]; exact id)
    | with_reducible apply State.leads_ite
    | with_reducible refine State.onDbg_from _ _ ?_
    | split
    | intro _
    | dsimp only

theorem State.dbgOp_from {s0 : State} (s : State) (x : BitVec 12) (data : Option Word) (f : State → State)
    (k : ∀ s : State, s.Leads (f s)) (h : s0.Leads s) : s0.Leads (State.dbgOp s x data f) := by
  unfold State.dbgOp
  split
  · exact (State.respond_from _ _ _ _ h).trans (k _)
  · exact State.respond_from _ _ _ _ h

theorem State.dbgPerform_from {s0 : State} (s : State) (x : BitVec 12) (data : Word) (crc : BitVec 8) (f : State → State)
    (k : ∀ s : State, s.Leads (f s)) (h : s0.Leads s) : s0.Leads (State.dbgPerform s x data crc f) :=
  State.leads_ite _ _ _ (State.onDbg_from _ _ h) (State.onDbg_from _ _ (h.trans (k s)))

theorem State.dbgWr_from {s0 : State} (s : State) (x : BitVec 12) (data : Word) (crc : BitVec 8) (f : State → State)
    (k : ∀ s : State, s.Leads (f s)) (h : s0.Leads s) : s0.Leads (State.dbgWr s x data crc f) :=
  State.dbgOp_from _ _ _ _ (fun s => State.leads_ite _ _ _ (.refl s) (State.dbgPerform_from s x data crc f k (.refl s))) h

theorem execIdcode_from (header : BitVec 12) (s : State) : LeadsOut s (execIdcode header s) := by
  unfold execIdcode
  repeat' first
    | with_reducible exact State.Leads.refl _
    | with_reducible exact LeadsOut.next _
    | with_reducible apply State.leads_ite
    | with_reducible apply LeadsOut.ite
    | with_reducible refine LeadsOut.of ?_
    | with_reducible refine LeadsSeq.ok ?_
    | with_reducible refine LeadsSeq.error ?_
    | with_reducible apply LeadsSeq.ite
    | with_reducible refine State.respond_from _ _ _ _ ?_
    | with_reducible refine act_from _ _ _ ?_
    | split
    | intro _
    | dsimp only

theorem execRdStat_from (header : BitVec 12) (s : State) : LeadsOut s (execRdStat header s) := by
  unfold execRdStat
  repeat' first
    | with_reducible exact State.Leads.refl _
    | with_reducible exact LeadsOut.next _
    | with_reducible apply State.leads_ite
    | with_reducible apply LeadsOut.ite
    | with_reducible refine LeadsOut.of ?_
    | with_reducible refine LeadsSeq.ok ?_
    | with_reducible refine LeadsSeq.error ?_
    | with_reducible apply LeadsSeq.ite
    | with_reducible refine State.respond_from _ _ _ _ ?_
    | with_reducible refine act_from _ _ _ ?_
    | split
    | intro _
    | dsimp only

theorem execRdBuf_from (header : BitVec 12) (s : State) : LeadsOut s (execRdBuf header s) := by
  unfold execRdBuf
  repeat' first
    | with_reducible exact State.Leads.refl _
    | with_reducible exact LeadsOut.next _
    | with_reducible apply State.leads_ite
    | with_reducible apply LeadsOut.ite
    | with_reducible refine LeadsOut.of ?_
    | with_reducible refine LeadsSeq.ok ?_
    | with_reducible refine LeadsSeq.error ?_
    | with_reducible apply LeadsSeq.ite
    | with_reducible refine State.dbgOp_from _ _ _ _ (fun s => ?_) ?_
    | with_reducible refine act_from _ _ _ ?_
    | exact State.Leads.refl _
    | split
    | intro _
    | dsimp only

theorem State.dbgNext_from {s0 : State} (s : State) (h : s0.Leads s) : s0.Leads (State.dbgNext s) := by
  refine State.Leads.trans h ?_
  unfold State.dbgNext
  repeat' first
    | with_reducible exact State.Leads.refl _ | with_reducible refine State.put_from _ _ _ ?_

theorem execRdData_from (header : BitVec 12) (s : State) : LeadsOut s (execRdData header s) := by
  unfold execRdData
  repeat' first
    | with_reducible exact State.Leads.refl _
    | with_reducible exact LeadsOut.next _
    | simp only [State.leads_mk_eq]
    | with_reducible refine LeadsParts.same _ ?_
    | with_reducible refine LeadsParts.cellar _ _ ?_ ?_
    | with_reducible refine LeadsParts.attic _ _ ?_ ?_
    | with_reducible refine LeadsParts.porch _ _ ?_ ?_
    | with_reducible refine LeadsParts.hearth _ _ ?_ ?_
    | with_reducible refine LeadsParts.links _ _ ?_ ?_
    | with_reducible refine LeadsParts.tcs _ _ ?_ ?_
    | with_reducible exact fun k => k
    | with_reducible exact fun k => eraseRange_wf _ _ _ k
    | with_reducible exact fun k => progBytes_wf _ _ _ k
    | with_reducible exact fun k => brecWrite_wf _ _ _ k
    | exact Attic.grows_same rfl rfl
    | (simp only [List.length_map, List.length_zipIdx]; exact id)
    | with_reducible apply State.leads_ite
    | with_reducible apply LeadsOut.ite
    | with_reducible refine LeadsOut.of ?_
    | with_reducible refine LeadsSeq.ok ?_
    | with_reducible refine LeadsSeq.error ?_
    | with_reducible apply LeadsSeq.ite
    | with_reducible refine State.dbgOp_from _ _ _ _ (fun s => ?_) ?_
    | with_reducible refine State.onDbg_from _ _ ?_
    | with_reducible refine State.dbgNext_from _ ?_
    | with_reducible refine act_from _ _ _ ?_
    | split
    | intro _
    | dsimp only

theorem execWrAddr_from (header : BitVec 12) (data : Word) (crc : BitVec 8) (s : State) : LeadsOut s (execWrAddr header data crc s) := by
  unfold execWrAddr
  repeat' first
    | with_reducible exact State.Leads.refl _
    | with_reducible exact LeadsOut.next _
    | with_reducible apply State.leads_ite
    | with_reducible apply LeadsOut.ite
    | with_reducible refine LeadsOut.of ?_
    | with_reducible refine LeadsSeq.ok ?_
    | with_reducible refine LeadsSeq.error ?_
    | with_reducible apply LeadsSeq.ite
    | with_reducible refine State.dbgWr_from _ _ _ _ _ (fun s => ?_) ?_
    | with_reducible refine State.put_from _ _ _ ?_
    | with_reducible refine act_from _ _ _ ?_
    | split
    | intro _
    | dsimp only

theorem execWrData_from (header : BitVec 12) (data : Word) (crc : BitVec 8) (s : State) : LeadsOut s (execWrData header data crc s) := by
  unfold execWrData
  repeat' first
    | with_reducible exact State.Leads.refl _
    | with_reducible exact LeadsOut.next _
    | simp only [State.leads_mk_eq]
    | with_reducible refine LeadsParts.same _ ?_
    | with_reducible refine LeadsParts.cellar _ _ ?_ ?_
    | with_reducible refine LeadsParts.attic _ _ ?_ ?_
    | with_reducible refine LeadsParts.porch _ _ ?_ ?_
    | with_reducible refine LeadsParts.hearth _ _ ?_ ?_
    | with_reducible refine LeadsParts.links _ _ ?_ ?_
    | with_reducible refine LeadsParts.tcs _ _ ?_ ?_
    | with_reducible exact fun k => k
    | with_reducible exact fun k => eraseRange_wf _ _ _ k
    | with_reducible exact fun k => progBytes_wf _ _ _ k
    | with_reducible exact fun k => brecWrite_wf _ _ _ k
    | exact Attic.grows_same rfl rfl
    | (simp only [List.length_map, List.length_zipIdx]; exact id)
    | with_reducible apply State.leads_ite
    | with_reducible apply LeadsOut.ite
    | with_reducible refine LeadsOut.of ?_
    | with_reducible refine LeadsSeq.ok ?_
    | with_reducible refine LeadsSeq.error ?_
    | with_reducible apply LeadsSeq.ite
    | with_reducible refine State.dbgWr_from _ _ _ _ _ (fun s => ?_) ?_
    | with_reducible refine State.onDbg_from _ _ ?_
    | with_reducible refine State.dbgNext_from _ ?_
    | with_reducible refine act_from _ _ _ ?_
    | split
    | intro _
    | dsimp only

theorem execDbgAbort_from (header : BitVec 12) (data : Word) (crc : BitVec 8) (s : State) :
    LeadsOut s (execDbgAbort header data crc s) :=
  act_from _ _ _ (State.dbgPerform_from _ _ _ _ _ (fun _ => State.onDbg_leads _ _) (State.respond_from s _ _ _ (.refl s)))

theorem execChkErr_from (header : BitVec 12) (s : State) : LeadsOut s (execChkErr header s) := by
  unfold execChkErr
  repeat' first
    | with_reducible exact State.Leads.refl _
    | with_reducible exact LeadsOut.next _
    | simp only [State.leads_mk_eq]
    | with_reducible refine LeadsParts.same _ ?_
    | with_reducible refine LeadsParts.cellar _ _ ?_ ?_
    | with_reducible refine LeadsParts.attic _ _ ?_ ?_
    | with_reducible refine LeadsParts.porch _ _ ?_ ?_
    | with_reducible refine LeadsParts.hearth _ _ ?_ ?_
    | with_reducible refine LeadsParts.links _ _ ?_ ?_
    | with_reducible refine LeadsParts.tcs _ _ ?_ ?_
    | with_reducible exact fun k => k
    | with_reducible exact fun k => eraseRange_wf _ _ _ k
    | with_reducible exact fun k => progBytes_wf _ _ _ k
    | with_reducible exact fun k => brecWrite_wf _ _ _ k
    | exact Attic.grows_same rfl rfl
    | (simp only [List.length_map, List.length_zipIdx]; exact id)
    | with_reducible apply State.leads_ite
    | with_reducible apply LeadsOut.ite
    | with_reducible refine LeadsOut.of ?_
    | with_reducible refine LeadsSeq.ok ?_
    | with_reducible refine LeadsSeq.error ?_
    | with_reducible apply LeadsSeq.ite
    | with_reducible refine State.onDbg_from _ _ ?_
    | with_reducible refine act_from _ _ _ ?_
    | split
    | intro _
    | dsimp only

theorem execLineReset_from (s : State) : LeadsOut s (execLineReset s) := by
  unfold execLineReset
  repeat' first
    | with_reducible exact State.Leads.refl _ | with_reducible refine State.onDbg_from _ _ ?_
    | with_reducible refine act_from _ _ _ ?_

theorem execDbgTimeout_from (s : State) : LeadsOut s (execDbgTimeout s) := by
  unfold execDbgTimeout
  repeat' first
    | with_reducible exact State.Leads.refl _ | with_reducible refine State.onDbg_from _ _ ?_
    | with_reducible refine act_from _ _ _ ?_

theorem State.dbgErr_from {s0 : State} (s : State) (h : s0.Leads s) : s0.Leads (State.dbgErr s) := by
  refine State.Leads.trans h ?_
  unfold State.dbgErr
  repeat' first
    | with_reducible exact State.Leads.refl _ | with_reducible apply State.leads_ite
    | with_reducible refine State.onDbg_from _ _ ?_

theorem execDbgAccessDone_from (s : State) : LeadsOut s (execDbgAccessDone s) := by
  unfold execDbgAccessDone
  try dsimp only
  repeat' first
    | with_reducible exact State.Leads.refl _ | with_reducible exact LeadsOut.next _ | split
    | with_reducible refine State.onDbg_from _ _ ?_ | with_reducible refine State.busStore_from _ _ _ _ _ ?_
    | with_reducible refine State.dbgErr_from _ ?_ | with_reducible refine State.busLoad_from _ _ _ _ ?_
    | with_reducible refine State.put_from _ _ _ ?_ | with_reducible refine act_from _ _ _ ?_

theorem execHalt_from (c : CoreId) (on : Bool) (s : State) : LeadsOut s (execHalt c on s) := by
  unfold execHalt
  repeat' first
    | with_reducible exact State.Leads.refl _ | with_reducible refine State.writeHalt_from _ _ _ ?_
    | with_reducible refine act_from _ _ _ ?_

theorem execCoreHalt_from (c : CoreId) (s : State) : LeadsOut s (execCoreHalt c s) := by
  unfold execCoreHalt
  try dsimp only
  repeat' first
    | with_reducible exact State.Leads.refl _ | with_reducible refine State.haltCore_from _ _ _ _ ?_
    | with_reducible refine act_from _ _ _ ?_

theorem execStep_from (n : BitVec 6) (s : State) : LeadsOut s (execStep n s) := by
  unfold execStep
  repeat' first
    | with_reducible exact State.Leads.refl _ | with_reducible refine State.stepCore_from _ _ ?_
    | with_reducible refine act_from _ _ _ ?_

theorem execCreg_from (w : Option Word) (s : State) : LeadsOut s (execCreg w s) := by
  unfold execCreg
  repeat' first
    | with_reducible exact State.Leads.refl _ | split | with_reducible refine State.busLoad_from _ _ _ _ ?_
    | with_reducible refine State.dbgErr_from _ ?_ | with_reducible refine State.busStore_from _ _ _ _ _ ?_
    | with_reducible refine act_from _ _ _ ?_

theorem execDbgReset_from (s : State) : LeadsOut s (execDbgReset s) := by
  unfold execDbgReset
  repeat' first
    | with_reducible exact State.Leads.refl _ | with_reducible refine State.chipReset_from _ _ ?_
    | with_reducible refine act_from _ _ _ ?_

theorem execSnap_from (s : State) : LeadsOut s (execSnap s) := by
  unfold execSnap
  repeat' first
    | with_reducible exact State.Leads.refl _ | with_reducible refine State.snapTrigger_from _ _ ?_
    | with_reducible refine act_from _ _ _ ?_

theorem execBudgetLimitWrite_from (r : Req) (addr : Nat) (v : Word) (s : State) : LeadsOut s (execBudgetLimitWrite r addr v s) := by
  unfold execBudgetLimitWrite
  repeat' first
    | with_reducible exact State.Leads.refl _ | with_reducible exact LeadsOut.next _ | simp only [State.leads_mk_eq]
    | with_reducible refine LeadsParts.same _ ?_ | split | with_reducible refine State.writeNode_from _ _ _ _ ?_
    | with_reducible refine act_from _ _ _ ?_

theorem State.badCopy_from {s0 : State} (s : State) (h0 : s0.Leads s) : s0.Leads (State.badCopy s) := by
  refine State.Leads.trans h0 ?_
  unfold State.badCopy
  repeat' first
    | with_reducible exact State.Leads.refl _
    | with_reducible exact LeadsOut.next _
    | with_reducible apply State.leads_ite
    | with_reducible refine State.put_from _ _ _ ?_
    | split
    | intro _

theorem State.laneLost_from {s0 : State} (s : State) (k : Fin 2) (copy : Bool) (h0 : s0.Leads s) : s0.Leads (State.laneLost s k copy) := by
  refine State.Leads.trans h0 ?_
  unfold State.laneLost
  try dsimp only
  repeat' first
    | with_reducible exact State.Leads.refl _
    | with_reducible exact LeadsOut.next _
    | simp only [State.leads_mk_eq]
    | with_reducible refine LeadsParts.same _ ?_
    | with_reducible refine LeadsParts.cellar _ _ ?_ ?_
    | with_reducible refine LeadsParts.attic _ _ ?_ ?_
    | with_reducible refine LeadsParts.porch _ _ ?_ ?_
    | with_reducible refine LeadsParts.hearth _ _ ?_ ?_
    | with_reducible refine LeadsParts.links _ _ ?_ ?_
    | with_reducible refine LeadsParts.tcs _ _ ?_ ?_
    | with_reducible exact fun k => k
    | with_reducible exact fun k => eraseRange_wf _ _ _ k
    | with_reducible exact fun k => progBytes_wf _ _ _ k
    | with_reducible exact fun k => brecWrite_wf _ _ _ k
    | exact Attic.grows_same rfl rfl
    | (simp only [List.length_map, List.length_zipIdx]; exact id)
    | with_reducible apply State.leads_ite
    | with_reducible refine State.off_from _ _ ?_
    | with_reducible refine State.put_from _ _ _ ?_
    | with_reducible refine State.badCopy_from _ ?_
    | split
    | intro _

theorem State.sendBurst_from {s0 : State} (s : State) (type : Nat) (c : StairRec) (h0 : s0.Leads s) : s0.Leads (State.sendBurst s type c) := by
  refine State.Leads.trans h0 ?_
  unfold State.sendBurst
  try dsimp only
  repeat' first
    | with_reducible exact State.Leads.refl _
    | with_reducible exact LeadsOut.next _
    | simp only [State.leads_mk_eq]
    | with_reducible refine LeadsParts.same _ ?_
    | with_reducible refine LeadsParts.cellar _ _ ?_ ?_
    | with_reducible refine LeadsParts.attic _ _ ?_ ?_
    | with_reducible refine LeadsParts.porch _ _ ?_ ?_
    | with_reducible refine LeadsParts.hearth _ _ ?_ ?_
    | with_reducible refine LeadsParts.links _ _ ?_ ?_
    | with_reducible refine LeadsParts.tcs _ _ ?_ ?_
    | with_reducible exact fun k => k
    | with_reducible exact fun k => eraseRange_wf _ _ _ k
    | with_reducible exact fun k => progBytes_wf _ _ _ k
    | with_reducible exact fun k => brecWrite_wf _ _ _ k
    | exact Attic.grows_same rfl rfl
    | (simp only [List.length_map, List.length_zipIdx]; exact id)
    | with_reducible apply State.leads_ite
    | split
    | intro _

theorem State.gotRecord_from {s0 : State} (s : State) (t bit : Nat) (h : s0.Leads s) : s0.Leads (State.gotRecord s t bit) := by
  refine State.Leads.trans h ?_
  unfold State.gotRecord
  try dsimp only
  repeat' first
    | with_reducible exact State.Leads.refl _ | with_reducible apply State.leads_ite | split
    | with_reducible refine State.onPair_from _ _ ?_

theorem State.stairGap_from {s0 : State} (s : State) (a b : Nat) (h : s0.Leads s) : s0.Leads (State.stairGap s a b) := by
  refine State.Leads.trans h ?_
  unfold State.stairGap
  repeat' first
    | with_reducible exact State.Leads.refl _ | with_reducible refine State.on_from _ _ ?_
    | with_reducible refine State.put_from _ _ _ ?_ | with_reducible refine State.onPair_from _ _ ?_

theorem State.resolveGap_from {s0 : State} (s : State) (first1 touch1 first2 touch2 : Nat) (h : s0.Leads s) : s0.Leads (State.resolveGap s first1 touch1 first2 touch2) := by
  refine State.Leads.trans h ?_
  unfold State.resolveGap
  try dsimp only
  repeat' first
    | with_reducible exact State.Leads.refl _ | split | with_reducible refine State.markStale_from _ _ ?_
    | with_reducible refine State.onPair_from _ _ ?_

theorem State.mirrorHold_from {s0 : State} (s : State) (b : Fin 6) (h : s0.Leads s) : s0.Leads (State.mirrorHold s b) := by
  refine State.Leads.trans h ?_
  unfold State.mirrorHold
  try dsimp only
  repeat' first
    | with_reducible refine State.leads_foldl _ _ _ _ ?_ ?_ | with_reducible exact State.Leads.refl _
    | with_reducible apply State.leads_ite | with_reducible refine State.onRoom_from _ _ _ ?_ ?_
    | with_reducible exact Room.Keeps.refl _ | simp only [Room.keeps_mk_eq] | with_reducible refine KeepsParts.same _ ?_
    | intro _

theorem State.applyLoop_from {s0 : State} (s : State) (b : Fin 6) (x : List Byte) (h : s0.Leads s) : s0.Leads (State.applyLoop s b x) := by
  refine State.Leads.trans h ?_
  unfold State.applyLoop
  try dsimp only
  repeat' first
    | with_reducible exact State.Leads.refl _ | with_reducible refine State.onPair_from _ _ ?_
    | with_reducible refine State.onLand_from _ _ _ ?_

theorem State.applyHearthEntry_from {s0 : State} (s : State) (m : Nat) (b : List Byte) (h : s0.Leads s) : s0.Leads (State.applyHearthEntry s m b) := by
  refine State.Leads.trans h ?_
  unfold State.applyHearthEntry
  try dsimp only
  repeat' first
    | with_reducible exact State.Leads.refl _ | with_reducible apply State.leads_ite | split
    | with_reducible refine State.setModel_from _ _ _ ?_ | with_reducible refine State.showModel_from _ _ ?_

theorem State.applyHearth_from {s0 : State} (s : State) (m : Nat) (b : List Byte) (h : s0.Leads s) : s0.Leads (State.applyHearth s m b) := by
  refine State.Leads.trans h ?_
  unfold State.applyHearth
  repeat' first
    | with_reducible refine State.leads_foldl _ _ _ _ ?_ ?_ | with_reducible exact State.Leads.refl _
    | with_reducible refine State.applyHearthEntry_from _ _ _ ?_ | intro _

theorem State.applyEnergy_from {s0 : State} (s : State) (p : Nat) (b : List Byte) (h : s0.Leads s) : s0.Leads (State.applyEnergy s p b) := by
  refine State.Leads.trans h ?_
  unfold State.applyEnergy
  repeat' first
    | with_reducible refine State.leads_foldl _ _ _ _ ?_ ?_ | with_reducible exact State.Leads.refl _
    | with_reducible refine State.onRoom_from _ _ _ ?_ ?_ | with_reducible exact Room.Keeps.refl _
    | with_reducible refine Room.putE48_from _ _ _ ?_ | intro _

theorem State.applyHall_from {s0 : State} (s : State) (b : List Byte) (h : s0.Leads s) : s0.Leads (State.applyHall s b) := by
  refine State.Leads.trans h ?_
  unfold State.applyHall
  try dsimp only
  repeat' first
    | with_reducible refine State.leads_foldl _ _ _ _ ?_ ?_ | with_reducible exact State.Leads.refl _
    | simp only [State.leads_mk_eq] | with_reducible refine LeadsParts.same _ ?_ | with_reducible apply State.leads_ite
    | with_reducible refine State.put_from _ _ _ ?_ | with_reducible refine State.onWing_from _ _ _ ?_ | intro _

theorem State.applyPantry_from {s0 : State} (s : State) (b : List Byte) (h : s0.Leads s) : s0.Leads (State.applyPantry s b) := by
  refine State.Leads.trans h ?_
  unfold State.applyPantry
  try dsimp only
  repeat' first
    | with_reducible exact State.Leads.refl _ | simp only [State.leads_mk_eq] | with_reducible refine LeadsParts.same _ ?_

theorem State.stairSend_from {s0 : State} (s : State) (type target : Nat) (payload : List Byte) (touched : Nat) (h0 : s0.Leads s) : s0.Leads (State.stairSend s type target payload touched) := by
  refine State.Leads.trans h0 ?_
  unfold State.stairSend
  try dsimp only
  repeat' first
    | with_reducible exact State.Leads.refl _
    | with_reducible exact LeadsOut.next _
    | simp only [State.leads_mk_eq]
    | with_reducible refine LeadsParts.same _ ?_
    | with_reducible refine LeadsParts.cellar _ _ ?_ ?_
    | with_reducible refine LeadsParts.attic _ _ ?_ ?_
    | with_reducible refine LeadsParts.porch _ _ ?_ ?_
    | with_reducible refine LeadsParts.hearth _ _ ?_ ?_
    | with_reducible refine LeadsParts.links _ _ ?_ ?_
    | with_reducible refine LeadsParts.tcs _ _ ?_ ?_
    | with_reducible exact fun k => k
    | with_reducible exact fun k => eraseRange_wf _ _ _ k
    | with_reducible exact fun k => progBytes_wf _ _ _ k
    | with_reducible exact fun k => brecWrite_wf _ _ _ k
    | exact Attic.grows_same rfl rfl
    | (simp only [List.length_map, List.length_zipIdx]; exact id)
    | with_reducible apply State.leads_ite
    | split
    | with_reducible refine State.sendBurst_from _ _ _ ?_
    | with_reducible refine State.onPair_from _ _ ?_
    | split
    | intro _
    | dsimp only

theorem State.sendWrites_from {s0 : State} (s : State) (h : s0.Leads s) : s0.Leads (State.sendWrites s) := by
  refine State.Leads.trans h ?_
  unfold State.sendWrites
  try dsimp only
  repeat' first
    | with_reducible exact State.Leads.refl _ | with_reducible refine State.stairSend_from _ _ _ _ _ ?_
    | with_reducible refine State.onPair_from _ _ ?_

theorem execHeartbeatSend_from (s : State) : LeadsOut s (execHeartbeatSend s) := by
  unfold execHeartbeatSend
  repeat' first
    | with_reducible exact State.Leads.refl _ | with_reducible refine State.setClaims_from _ _ ?_
    | with_reducible refine State.refreshKeeper_from _ ?_ | (with_reducible refine pairAct_from _ _ _ (fun s => ?_))

theorem State.pulse_from {s0 : State} (s : State) (ns : Nat) (h0 : s0.Leads s) : s0.Leads (State.pulse s ns) := by
  refine State.Leads.trans h0 ?_
  unfold State.pulse
  try dsimp only
  repeat' first
    | with_reducible exact State.Leads.refl _
    | with_reducible exact LeadsOut.next _
    | simp only [State.leads_mk_eq]
    | with_reducible refine LeadsParts.same _ ?_
    | with_reducible refine LeadsParts.cellar _ _ ?_ ?_
    | with_reducible refine LeadsParts.attic _ _ ?_ ?_
    | with_reducible refine LeadsParts.porch _ _ ?_ ?_
    | with_reducible refine LeadsParts.hearth _ _ ?_ ?_
    | with_reducible refine LeadsParts.links _ _ ?_ ?_
    | with_reducible refine LeadsParts.tcs _ _ ?_ ?_
    | with_reducible exact fun k => k
    | with_reducible exact fun k => eraseRange_wf _ _ _ k
    | with_reducible exact fun k => progBytes_wf _ _ _ k
    | with_reducible exact fun k => brecWrite_wf _ _ _ k
    | exact Attic.grows_same rfl rfl
    | (simp only [List.length_map, List.length_zipIdx]; exact id)
    | with_reducible apply State.leads_ite
    | split
    | with_reducible refine State.on_from _ _ ?_
    | with_reducible refine State.put_from _ _ _ ?_
    | with_reducible refine State.onPair_from _ _ ?_
    | with_reducible refine State.refreshPeer_from _ _ ?_
    | with_reducible refine State.checkRelease_from _ ?_
    | split
    | intro _
    | dsimp only

theorem execHeartbeatPulse_from (widthNs : Nat) (s : State) : LeadsOut s (execHeartbeatPulse widthNs s) := by
  unfold execHeartbeatPulse
  repeat' first
    | with_reducible exact State.Leads.refl _ | with_reducible refine State.pulse_from _ _ ?_
    | (with_reducible refine pairAct_from _ _ _ (fun s => ?_))

theorem execPeerLost_from (s : State) : LeadsOut s (execPeerLost s) := by
  unfold execPeerLost
  repeat' first
    | with_reducible exact State.Leads.refl _ | with_reducible refine State.off_from _ _ ?_
    | with_reducible refine State.on_from _ _ ?_ | with_reducible refine State.refreshPeer_from _ _ ?_
    | (with_reducible refine pairAct_from _ _ _ (fun s => ?_))

theorem execKeyInChange_from (level : Bool) (s : State) : LeadsOut s (execKeyInChange level s) := by
  unfold execKeyInChange
  try dsimp only
  repeat' first
    | with_reducible exact State.Leads.refl _ | with_reducible apply State.leads_ite
    | with_reducible refine State.putB_from _ _ _ ?_ | with_reducible refine State.refreshPeer_from _ _ ?_
    | with_reducible refine State.refreshStale_from _ ?_ | with_reducible refine act_from _ _ _ ?_

theorem execClaimStartA_from (s : State) : LeadsOut s (execClaimStartA s) := by
  unfold execClaimStartA
  repeat' first
    | with_reducible exact State.Leads.refl _ | with_reducible refine State.claimStart_from _ _ ?_
    | (with_reducible refine pairAct_from _ _ _ (fun s => ?_))

end Sys2Proof.Machine
end

