-- ==== Sys2Proof/Laws/LeadsE.lean ====
section
/-! SUPPORT. Laws/LeadsE.lean: what the operations and the commands of these files keep: Pair, PorchOps, HostOps, HostLink, Porch. -/

namespace Sys2Proof.Machine

theorem execClaimStartB_from (s : State) : LeadsOut s (execClaimStartB s) := by
  unfold execClaimStartB
  repeat' first
    | with_reducible exact State.Leads.refl _ | with_reducible refine State.claimStart_from _ _ ?_
    | (with_reducible refine pairAct_from _ _ _ (fun s => ?_))

theorem execTakeover_from (s : State) : LeadsOut s (execTakeover s) := by
  unfold execTakeover
  try dsimp only
  repeat' first
    | with_reducible exact State.Leads.refl _ | with_reducible refine State.claim_from _ _ ?_
    | with_reducible refine State.onPair_from _ _ ?_ | (with_reducible refine pairAct_from _ _ _ (fun s => ?_))

theorem execClaimGuardEnd_from (s : State) : LeadsOut s (execClaimGuardEnd s) := by
  unfold execClaimGuardEnd
  try dsimp only
  repeat' first
    | with_reducible exact State.Leads.refl _ | with_reducible refine State.onPair_from _ _ ?_
    | with_reducible refine State.takeWings_from _ _ ?_ | with_reducible refine State.refreshKeeper_from _ ?_
    | (with_reducible refine pairAct_from _ _ _ (fun s => ?_))

theorem execContention_from (w : Fin 2) (s : State) : LeadsOut s (execContention w s) := by
  unfold execContention
  try dsimp only
  repeat' first
    | with_reducible exact State.Leads.refl _ | with_reducible apply State.leads_ite | split
    | with_reducible refine State.on_from _ _ ?_ | with_reducible refine State.onPair_from _ _ ?_
    | with_reducible refine State.withdraw_from _ _ ?_ | with_reducible refine State.refreshCon_from _ ?_
    | (with_reducible refine pairAct_from _ _ _ (fun s => ?_))

theorem execPeerNoYield_from (w : Fin 2) (s : State) : LeadsOut s (execPeerNoYield w s) := by
  unfold execPeerNoYield
  repeat' first
    | with_reducible exact State.Leads.refl _ | with_reducible refine State.withdraw_from _ _ ?_
    | with_reducible refine State.on_from _ _ ?_ | with_reducible refine State.refreshCon_from _ ?_
    | (with_reducible refine pairAct_from _ _ _ (fun s => ?_))

theorem execRelease_from (w : Fin 2) (s : State) : LeadsOut s (execRelease w s) := by
  unfold execRelease
  repeat' first
    | with_reducible exact State.Leads.refl _ | with_reducible refine State.on_from _ _ ?_
    | with_reducible refine State.checkRelease_from _ ?_ | (with_reducible refine pairAct_from _ _ _ (fun s => ?_))

theorem execHbOutFault_from (s : State) : LeadsOut s (execHbOutFault s) := by
  unfold execHbOutFault
  repeat' first
    | with_reducible exact State.Leads.refl _ | with_reducible refine State.dropKey_from _ ?_
    | with_reducible refine State.on_from _ _ ?_ | with_reducible refine State.onPair_from _ _ ?_
    | with_reducible refine State.refreshCon_from _ ?_ | (with_reducible refine pairAct_from _ _ _ (fun s => ?_))

theorem execKeyInStuck_from (s : State) : LeadsOut s (execKeyInStuck s) := by
  unfold execKeyInStuck
  repeat' first
    | with_reducible exact State.Leads.refl _ | with_reducible refine State.on_from _ _ ?_
    | (with_reducible refine pairAct_from _ _ _ (fun s => ?_))

theorem execDriveConflict_from (site : Site) (s : State) : LeadsOut s (execDriveConflict site s) := by
  unfold execDriveConflict
  try dsimp only
  repeat' first
    | with_reducible exact State.Leads.refl _ | with_reducible apply State.leads_ite | split
    | with_reducible refine State.on_from _ _ ?_ | with_reducible refine State.enterSafe_from _ _ _ _ ?_
    | with_reducible refine State.slotRetry_from _ _ _ ?_ | (with_reducible refine pairAct_from _ _ _ (fun s => ?_))

theorem execPairResync_from (s : State) : LeadsOut s (execPairResync s) := by
  unfold execPairResync
  repeat' first
    | with_reducible exact State.Leads.refl _ | with_reducible refine State.markStale_from _ _ ?_
    | (with_reducible refine pairAct_from _ _ _ (fun s => ?_))

theorem execLaneLock_from (k : Fin 2) (s : State) : LeadsOut s (execLaneLock k s) := by
  unfold execLaneLock
  try dsimp only
  repeat' first
    | with_reducible exact State.Leads.refl _ | with_reducible refine State.on_from _ _ ?_
    | with_reducible refine State.onPair_from _ _ ?_ | (with_reducible refine pairAct_from _ _ _ (fun s => ?_))

theorem execLaneLockLoss_from (k : Fin 2) (copy : Bool) (s : State) : LeadsOut s (execLaneLockLoss k copy s) := by
  unfold execLaneLockLoss
  repeat' first
    | with_reducible exact State.Leads.refl _
    | with_reducible exact LeadsOut.next _
    | with_reducible apply State.leads_ite
    | with_reducible apply LeadsOut.ite
    | with_reducible refine LeadsOut.of ?_
    | with_reducible refine LeadsSeq.ok ?_
    | with_reducible refine LeadsSeq.error ?_
    | with_reducible apply LeadsSeq.ite
    | with_reducible refine State.laneLost_from _ _ _ ?_
    | with_reducible refine pairAct_from _ _ _ (fun s => ?_)
    | split
    | intro _
    | dsimp only

theorem execLinkUp_from (s : State) : LeadsOut s (execLinkUp s) := by
  unfold execLinkUp
  try dsimp only
  repeat' first
    | with_reducible exact State.Leads.refl _ | with_reducible refine State.on_from _ _ ?_
    | with_reducible refine State.markStale_from _ _ ?_ | with_reducible refine State.onPair_from _ _ ?_
    | (with_reducible refine pairAct_from _ _ _ (fun s => ?_))

theorem execLinkDown_from (s : State) : LeadsOut s (execLinkDown s) := by
  unfold execLinkDown
  try dsimp only
  repeat' first
    | with_reducible exact State.Leads.refl _ | with_reducible refine State.off_from _ _ ?_
    | with_reducible refine State.on_from _ _ ?_ | with_reducible refine State.markStale_from _ _ ?_
    | with_reducible refine State.onPair_from _ _ ?_ | (with_reducible refine pairAct_from _ _ _ (fun s => ?_))

theorem State.stairTake_from (s : State) (q : Nat) (t : State) (e : s.stairTake q = some t) : s.Leads t := by
  unfold State.stairTake at e
  dsimp only at e
  split at e
  · cases e; exact State.onPair_from _ _ (State.put_leads _ _ _)
  · split at e
    · cases e; exact State.put_leads _ _ _
    · split at e
      · cases e; exact State.put_from _ _ _ (State.stairGap_from _ _ _ (.refl s))
      · cases e
theorem State.takeCopy_from {s0 : State} (s : State) (c : StairRec) (free : Bool) (f : State → State)
    (k : ∀ s : State, s.Leads (f s)) (h : s0.Leads s) : s0.Leads (State.takeCopy s c free f) := by
  unfold State.takeCopy
  extract_lets t
  have ht : s0.Leads t := h.trans (State.onPair_leads s _)
  clear_value t
  refine State.leads_ite _ _ _ ?_ (State.leads_ite _ _ _ (ht.trans (k t)) ht)
  split
  · exact ht
  · rename_i u e
    exact (ht.trans (State.stairTake_from _ _ _ e)).trans (k u)

theorem stairAct_from (s : State) (k : Fin 2) (line : List (BitVec 10)) (type : Nat) (free : Bool)
    (f : StairRec → State → State) (hf : ∀ (c : StairRec) (s : State), s.Leads (f c s)) :
    LeadsOut s (stairAct s k line type free f) := by
  refine pairAct_from _ _ _ fun s => ?_
  split
  · exact State.laneLost_from _ _ _ (.refl s)
  · split
    · exact State.badCopy_from _ (.refl s)
    · exact State.leads_ite _ _ _ (State.takeCopy_from s _ _ _ (hf _) (.refl s)) (.refl s)

theorem mirrorAct_from (s : State) (k : Fin 2) (line : List (BitVec 10)) (type : Nat) (keeps : StairRec → State → Bool)
    (f : StairRec → State → State) (hf : ∀ (c : StairRec) (s : State), s.Leads (f c s)) :
    LeadsOut s (mirrorAct s k line type keeps f) :=
  stairAct_from _ _ _ _ _ _ fun c s =>
    State.leads_ite _ _ _ (.refl s) (State.leads_ite _ _ _ (hf c s) (State.on_leads _ _))

theorem execStairFrame_from (k : Fin 2) (line : List (BitVec 10)) (s : State) : LeadsOut s (execStairFrame k line s) := by
  unfold execStairFrame
  try dsimp only
  repeat' first
    | with_reducible exact State.Leads.refl _
    | with_reducible exact LeadsOut.next _
    | with_reducible apply State.leads_ite
    | with_reducible apply LeadsOut.ite
    | with_reducible refine LeadsOut.of ?_
    | with_reducible refine LeadsSeq.ok ?_
    | with_reducible refine LeadsSeq.error ?_
    | with_reducible apply LeadsSeq.ite
    | split
    | with_reducible refine State.on_from _ _ ?_
    | with_reducible refine State.setTb_from _ _ ?_
    | with_reducible refine State.resolveGap_from _ _ _ _ _ ?_
    | with_reducible refine mirrorAct_from _ _ _ _ _ _ (fun c s => ?_)
    | split
    | intro _
    | dsimp only

theorem execStairLoop_from (k : Fin 2) (line : List (BitVec 10)) (s : State) : LeadsOut s (execStairLoop k line s) := by
  unfold execStairLoop
  repeat' first
    | with_reducible exact State.Leads.refl _
    | with_reducible exact LeadsOut.next _
    | with_reducible apply State.leads_ite
    | with_reducible apply LeadsOut.ite
    | with_reducible refine LeadsOut.of ?_
    | with_reducible refine LeadsSeq.ok ?_
    | with_reducible refine LeadsSeq.error ?_
    | with_reducible apply LeadsSeq.ite
    | with_reducible refine State.applyLoop_from _ _ _ ?_
    | with_reducible refine mirrorAct_from _ _ _ _ _ _ (fun c s => ?_)
    | split
    | intro _
    | dsimp only

theorem State.applyRoomRec_from {s0 : State} (s : State) (p : Fin 48) (b : List Byte) (h0 : s0.Leads s) : s0.Leads (State.applyRoomRec s p b) := by
  refine State.Leads.trans h0 ?_
  unfold State.applyRoomRec
  try dsimp only
  repeat' first
    | with_reducible exact State.Leads.refl _
    | with_reducible exact LeadsOut.next _
    | simp only [State.leads_mk_eq]
    | with_reducible refine LeadsParts.same _ ?_
    | with_reducible refine LeadsParts.cellar _ _ ?_ ?_
    | with_reducible refine LeadsParts.attic _ _ ?_ ?_
    | with_reducible refine LeadsParts.porch _ _ ?_ ?_
    | with_reducible refine LeadsParts.hearth _ _ ?_ ?_
    | with_reducible refine LeadsParts.links _ _ ?_ ?_
    | with_reducible refine LeadsParts.tcs _ _ ?_ ?_
    | with_reducible exact fun k => k
    | with_reducible exact fun k => eraseRange_wf _ _ _ k
    | with_reducible exact fun k => progBytes_wf _ _ _ k
    | with_reducible exact fun k => brecWrite_wf _ _ _ k
    | exact Attic.grows_same rfl rfl
    | (simp only [List.length_map, List.length_zipIdx]; exact id)
    | with_reducible apply State.leads_ite
    | with_reducible refine State.onRoomE_from _ _ _ ?_ ?_
    | with_reducible refine State.setModel_from _ _ _ ?_
    | with_reducible exact Room.Keeps.refl _
    | simp only [Room.keeps_mk_eq]
    | with_reducible refine KeepsParts.same _ ?_
    | with_reducible refine KeepsParts.data _ _ _ ?_
    | with_reducible refine KeepsParts.code _ _ _ ?_
    | with_reducible apply Room.keeps_ite
    | with_reducible refine Room.applyRoom_from _ _ _ _ ?_
    | split
    | intro _
    | dsimp only

theorem execStairRoom_from (k : Fin 2) (line : List (BitVec 10)) (s : State) : LeadsOut s (execStairRoom k line s) := by
  unfold execStairRoom
  repeat' first
    | with_reducible exact State.Leads.refl _
    | with_reducible exact LeadsOut.next _
    | with_reducible apply State.leads_ite
    | with_reducible apply LeadsOut.ite
    | with_reducible refine LeadsOut.of ?_
    | with_reducible refine LeadsSeq.ok ?_
    | with_reducible refine LeadsSeq.error ?_
    | with_reducible apply LeadsSeq.ite
    | with_reducible refine State.applyRoomRec_from _ _ _ ?_
    | with_reducible refine State.gotRecord_from _ _ _ ?_
    | with_reducible refine mirrorAct_from _ _ _ _ _ _ (fun c s => ?_)
    | split
    | intro _
    | dsimp only

theorem execStairSlot_from (k : Fin 2) (line : List (BitVec 10)) (s : State) : LeadsOut s (execStairSlot k line s) := by
  unfold execStairSlot
  try dsimp only
  repeat' first
    | with_reducible exact State.Leads.refl _
    | with_reducible exact LeadsOut.next _
    | with_reducible apply State.leads_ite
    | with_reducible apply LeadsOut.ite
    | with_reducible refine LeadsOut.of ?_
    | with_reducible refine LeadsSeq.ok ?_
    | with_reducible refine LeadsSeq.error ?_
    | with_reducible apply LeadsSeq.ite
    | with_reducible refine State.onLand_from _ _ _ ?_
    | with_reducible refine State.mirrorHold_from _ _ ?_
    | with_reducible refine State.gotRecord_from _ _ _ ?_
    | with_reducible refine mirrorAct_from _ _ _ _ _ _ (fun c s => ?_)
    | split
    | intro _
    | dsimp only

theorem execStairTimer_from (k : Fin 2) (line : List (BitVec 10)) (s : State) : LeadsOut s (execStairTimer k line s) := by
  unfold execStairTimer
  try dsimp only
  repeat' first
    | with_reducible exact State.Leads.refl _
    | with_reducible exact LeadsOut.next _
    | with_reducible apply State.leads_ite
    | with_reducible apply LeadsOut.ite
    | with_reducible refine LeadsOut.of ?_
    | with_reducible refine LeadsSeq.ok ?_
    | with_reducible refine LeadsSeq.error ?_
    | with_reducible apply LeadsSeq.ite
    | with_reducible refine State.setTmrRegs_from _ _ _ ?_
    | with_reducible refine State.gotRecord_from _ _ _ ?_
    | with_reducible refine mirrorAct_from _ _ _ _ _ _ (fun c s => ?_)
    | split
    | intro _
    | dsimp only

theorem execStairHearth_from (k : Fin 2) (line : List (BitVec 10)) (s : State) : LeadsOut s (execStairHearth k line s) := by
  unfold execStairHearth
  try dsimp only
  repeat' first
    | with_reducible refine State.leads_foldl _ _ _ _ ?_ ?_
    | with_reducible exact State.Leads.refl _
    | with_reducible exact LeadsOut.next _
    | with_reducible apply State.leads_ite
    | with_reducible apply LeadsOut.ite
    | with_reducible refine LeadsOut.of ?_
    | with_reducible refine LeadsSeq.ok ?_
    | with_reducible refine LeadsSeq.error ?_
    | with_reducible apply LeadsSeq.ite
    | with_reducible refine State.gotRecord_from _ _ _ ?_
    | with_reducible refine State.applyHearth_from _ _ _ ?_
    | with_reducible refine mirrorAct_from _ _ _ _ _ _ (fun c s => ?_)
    | split
    | intro _
    | dsimp only

theorem execStairEnergy_from (k : Fin 2) (line : List (BitVec 10)) (s : State) : LeadsOut s (execStairEnergy k line s) := by
  unfold execStairEnergy
  repeat' first
    | with_reducible refine State.leads_foldl _ _ _ _ ?_ ?_
    | with_reducible exact State.Leads.refl _
    | with_reducible exact LeadsOut.next _
    | with_reducible apply State.leads_ite
    | with_reducible apply LeadsOut.ite
    | with_reducible refine LeadsOut.of ?_
    | with_reducible refine LeadsSeq.ok ?_
    | with_reducible refine LeadsSeq.error ?_
    | with_reducible apply LeadsSeq.ite
    | with_reducible refine State.gotRecord_from _ _ _ ?_
    | with_reducible refine State.applyEnergy_from _ _ _ ?_
    | with_reducible refine mirrorAct_from _ _ _ _ _ _ (fun c s => ?_)
    | split
    | intro _
    | dsimp only

theorem execStairHall_from (k : Fin 2) (line : List (BitVec 10)) (s : State) : LeadsOut s (execStairHall k line s) := by
  unfold execStairHall
  repeat' first
    | with_reducible exact State.Leads.refl _
    | with_reducible exact LeadsOut.next _
    | with_reducible apply State.leads_ite
    | with_reducible apply LeadsOut.ite
    | with_reducible refine LeadsOut.of ?_
    | with_reducible refine LeadsSeq.ok ?_
    | with_reducible refine LeadsSeq.error ?_
    | with_reducible apply LeadsSeq.ite
    | with_reducible refine State.applyHall_from _ _ ?_
    | with_reducible refine State.gotRecord_from _ _ _ ?_
    | with_reducible refine mirrorAct_from _ _ _ _ _ _ (fun c s => ?_)
    | split
    | intro _
    | dsimp only

theorem execStairPantry_from (k : Fin 2) (line : List (BitVec 10)) (s : State) : LeadsOut s (execStairPantry k line s) := by
  unfold execStairPantry
  repeat' first
    | with_reducible exact State.Leads.refl _
    | with_reducible exact LeadsOut.next _
    | with_reducible apply State.leads_ite
    | with_reducible apply LeadsOut.ite
    | with_reducible refine LeadsOut.of ?_
    | with_reducible refine LeadsSeq.ok ?_
    | with_reducible refine LeadsSeq.error ?_
    | with_reducible apply LeadsSeq.ite
    | with_reducible refine State.applyPantry_from _ _ ?_
    | with_reducible refine State.gotRecord_from _ _ _ ?_
    | with_reducible refine mirrorAct_from _ _ _ _ _ _ (fun c s => ?_)
    | split
    | intro _
    | dsimp only

theorem State.applyWrites_from {s0 : State} (s : State) (b : List Byte) (h : s0.Leads s) : s0.Leads (State.applyWrites s b) := by
  refine State.Leads.trans h ?_
  unfold State.applyWrites
  try dsimp only
  repeat' first
    | with_reducible refine State.leads_foldl _ _ _ _ ?_ ?_ | with_reducible exact State.Leads.refl _
    | with_reducible apply State.leads_ite | with_reducible refine State.busStore_from _ _ _ _ _ ?_
    | with_reducible refine State.on_from _ _ ?_ | intro _

theorem execStairWrite_from (k : Fin 2) (line : List (BitVec 10)) (s : State) : LeadsOut s (execStairWrite k line s) := by
  unfold execStairWrite
  repeat' first
    | with_reducible exact State.Leads.refl _
    | with_reducible exact LeadsOut.next _
    | with_reducible apply State.leads_ite
    | with_reducible apply LeadsOut.ite
    | with_reducible refine LeadsOut.of ?_
    | with_reducible refine LeadsSeq.ok ?_
    | with_reducible refine LeadsSeq.error ?_
    | with_reducible apply LeadsSeq.ite
    | with_reducible refine State.applyWrites_from _ _ ?_
    | with_reducible refine mirrorAct_from _ _ _ _ _ _ (fun c s => ?_)
    | split
    | intro _
    | dsimp only

theorem execStairStatus_from (k : Fin 2) (line : List (BitVec 10)) (s : State) : LeadsOut s (execStairStatus k line s) := by
  unfold execStairStatus
  repeat' first
    | with_reducible exact State.Leads.refl _
    | with_reducible exact LeadsOut.next _
    | simp only [State.leads_mk_eq]
    | with_reducible refine LeadsParts.same _ ?_
    | with_reducible refine LeadsParts.cellar _ _ ?_ ?_
    | with_reducible refine LeadsParts.attic _ _ ?_ ?_
    | with_reducible refine LeadsParts.porch _ _ ?_ ?_
    | with_reducible refine LeadsParts.hearth _ _ ?_ ?_
    | with_reducible refine LeadsParts.links _ _ ?_ ?_
    | with_reducible refine LeadsParts.tcs _ _ ?_ ?_
    | with_reducible exact fun k => k
    | with_reducible exact fun k => eraseRange_wf _ _ _ k
    | with_reducible exact fun k => progBytes_wf _ _ _ k
    | with_reducible exact fun k => brecWrite_wf _ _ _ k
    | exact Attic.grows_same rfl rfl
    | (simp only [List.length_map, List.length_zipIdx]; exact id)
    | with_reducible apply State.leads_ite
    | with_reducible apply LeadsOut.ite
    | with_reducible refine LeadsOut.of ?_
    | with_reducible refine LeadsSeq.ok ?_
    | with_reducible refine LeadsSeq.error ?_
    | with_reducible apply LeadsSeq.ite
    | with_reducible refine State.onPair_from _ _ ?_
    | with_reducible refine State.checkRelease_from _ ?_
    | with_reducible refine stairAct_from _ _ _ _ _ _ (fun c s => ?_)
    | split
    | intro _
    | dsimp only

theorem execStairResync_from (k : Fin 2) (line : List (BitVec 10)) (s : State) : LeadsOut s (execStairResync k line s) := by
  unfold execStairResync
  try dsimp only
  repeat' first
    | with_reducible exact State.Leads.refl _
    | with_reducible exact LeadsOut.next _
    | simp only [State.leads_mk_eq]
    | with_reducible refine LeadsParts.same _ ?_
    | with_reducible refine LeadsParts.cellar _ _ ?_ ?_
    | with_reducible refine LeadsParts.attic _ _ ?_ ?_
    | with_reducible refine LeadsParts.porch _ _ ?_ ?_
    | with_reducible refine LeadsParts.hearth _ _ ?_ ?_
    | with_reducible refine LeadsParts.links _ _ ?_ ?_
    | with_reducible refine LeadsParts.tcs _ _ ?_ ?_
    | with_reducible exact fun k => k
    | with_reducible exact fun k => eraseRange_wf _ _ _ k
    | with_reducible exact fun k => progBytes_wf _ _ _ k
    | with_reducible exact fun k => brecWrite_wf _ _ _ k
    | exact Attic.grows_same rfl rfl
    | (simp only [List.length_map, List.length_zipIdx]; exact id)
    | with_reducible apply State.leads_ite
    | with_reducible apply LeadsOut.ite
    | with_reducible refine LeadsOut.of ?_
    | with_reducible refine LeadsSeq.ok ?_
    | with_reducible refine LeadsSeq.error ?_
    | with_reducible apply LeadsSeq.ite
    | split
    | with_reducible refine State.onPair_from _ _ ?_
    | with_reducible refine stairAct_from _ _ _ _ _ _ (fun c s => ?_)
    | split
    | intro _
    | dsimp only

theorem execStairDigest_from (k : Fin 2) (line : List (BitVec 10)) (s : State) : LeadsOut s (execStairDigest k line s) := by
  unfold execStairDigest
  try dsimp only
  repeat' first
    | with_reducible exact State.Leads.refl _
    | with_reducible exact LeadsOut.next _
    | simp only [State.leads_mk_eq]
    | with_reducible refine LeadsParts.same _ ?_
    | with_reducible refine LeadsParts.cellar _ _ ?_ ?_
    | with_reducible refine LeadsParts.attic _ _ ?_ ?_
    | with_reducible refine LeadsParts.porch _ _ ?_ ?_
    | with_reducible refine LeadsParts.hearth _ _ ?_ ?_
    | with_reducible refine LeadsParts.links _ _ ?_ ?_
    | with_reducible refine LeadsParts.tcs _ _ ?_ ?_
    | with_reducible exact fun k => k
    | with_reducible exact fun k => eraseRange_wf _ _ _ k
    | with_reducible exact fun k => progBytes_wf _ _ _ k
    | with_reducible exact fun k => brecWrite_wf _ _ _ k
    | exact Attic.grows_same rfl rfl
    | (simp only [List.length_map, List.length_zipIdx]; exact id)
    | with_reducible apply State.leads_ite
    | with_reducible apply LeadsOut.ite
    | with_reducible refine LeadsOut.of ?_
    | with_reducible refine LeadsSeq.ok ?_
    | with_reducible refine LeadsSeq.error ?_
    | with_reducible apply LeadsSeq.ite
    | with_reducible refine State.put_from _ _ _ ?_
    | with_reducible refine State.onPair_from _ _ ?_
    | with_reducible refine State.on_from _ _ ?_
    | with_reducible refine State.off_from _ _ ?_
    | with_reducible refine State.markStale_from _ _ ?_
    | with_reducible refine stairAct_from _ _ _ _ _ _ (fun c s => ?_)
    | split
    | intro _
    | dsimp only

theorem sendAct_from (s : State) (c : Bool) (f : State → State) (k : ∀ s : State, s.Leads (f s)) :
    LeadsOut s (sendAct s c f) := pairAct_from _ _ _ fun s => (State.onPair_leads s _).trans (k _)

theorem execFrameSend_from (s : State) : LeadsOut s (execFrameSend s) := by
  unfold execFrameSend
  try dsimp only
  repeat' first
    | with_reducible refine State.leads_foldl _ _ _ _ ?_ ?_ | with_reducible exact State.Leads.refl _
    | with_reducible apply State.leads_ite | with_reducible refine State.onPair_from _ _ ?_
    | with_reducible refine State.stairSend_from _ _ _ _ _ ?_ | (with_reducible refine sendAct_from _ _ _ (fun s => ?_))
    | intro _

theorem State.sendRecord_from {s0 : State} (s : State) (type target bank : Nat) (h0 : s0.Leads s) : s0.Leads (State.sendRecord s type target bank) := by
  refine State.Leads.trans h0 ?_
  unfold State.sendRecord
  repeat' first
    | with_reducible exact State.Leads.refl _
    | with_reducible exact LeadsOut.next _
    | simp only [State.leads_mk_eq]
    | with_reducible refine LeadsParts.same _ ?_
    | with_reducible refine LeadsParts.cellar _ _ ?_ ?_
    | with_reducible refine LeadsParts.attic _ _ ?_ ?_
    | with_reducible refine LeadsParts.porch _ _ ?_ ?_
    | with_reducible refine LeadsParts.hearth _ _ ?_ ?_
    | with_reducible refine LeadsParts.links _ _ ?_ ?_
    | with_reducible refine LeadsParts.tcs _ _ ?_ ?_
    | with_reducible exact fun k => k
    | with_reducible exact fun k => eraseRange_wf _ _ _ k
    | with_reducible exact fun k => progBytes_wf _ _ _ k
    | with_reducible exact fun k => brecWrite_wf _ _ _ k
    | exact Attic.grows_same rfl rfl
    | (simp only [List.length_map, List.length_zipIdx]; exact id)
    | with_reducible apply State.leads_ite
    | split
    | with_reducible refine State.stairSend_from _ _ _ _ _ ?_
    | with_reducible refine State.onPair_from _ _ ?_
    | split
    | intro _
    | dsimp only

theorem execRecordSend_from (type target bank : Nat) (s : State) : LeadsOut s (execRecordSend type target bank s) := by
  unfold execRecordSend
  repeat' first
    | with_reducible exact State.Leads.refl _ | with_reducible apply State.leads_ite | split
    | with_reducible refine State.sendWrites_from _ ?_ | with_reducible refine State.sendRecord_from _ _ _ _ ?_
    | (with_reducible refine sendAct_from _ _ _ (fun s => ?_))

theorem execRecordResend_from (type target bank : Nat) (s : State) : LeadsOut s (execRecordResend type target bank s) := by
  unfold execRecordResend
  repeat' first
    | with_reducible exact State.Leads.refl _ | with_reducible refine State.sendRecord_from _ _ _ _ ?_
    | (with_reducible refine sendAct_from _ _ _ (fun s => ?_))

theorem execStatusSend_from (s : State) : LeadsOut s (execStatusSend s) := by
  unfold execStatusSend
  repeat' first
    | with_reducible exact State.Leads.refl _ | with_reducible refine State.stairSend_from _ _ _ _ _ ?_
    | (with_reducible refine sendAct_from _ _ _ (fun s => ?_))

theorem execDigestSend_from (s : State) : LeadsOut s (execDigestSend s) := by
  unfold execDigestSend
  repeat' first
    | with_reducible exact State.Leads.refl _ | with_reducible refine State.stairSend_from _ _ _ _ _ ?_
    | with_reducible refine State.onPair_from _ _ ?_ | (with_reducible refine sendAct_from _ _ _ (fun s => ?_))

theorem execResyncSend_from (s : State) : LeadsOut s (execResyncSend s) := by
  unfold execResyncSend
  try dsimp only
  repeat' first
    | with_reducible exact State.Leads.refl _ | with_reducible refine State.stairSend_from _ _ _ _ _ ?_
    | with_reducible refine State.put_from _ _ _ ?_ | with_reducible refine State.onPair_from _ _ ?_
    | (with_reducible refine sendAct_from _ _ _ (fun s => ?_))

theorem execStatusLoss_from (s : State) : LeadsOut s (execStatusLoss s) := by
  unfold execStatusLoss
  repeat' first
    | with_reducible exact State.Leads.refl _ | with_reducible refine State.onPair_from _ _ ?_
    | (with_reducible refine pairAct_from _ _ _ (fun s => ?_))

theorem State.versionBytes_from {s0 : State} (s : State) (v : Option Nat) (h : s0.Leads s) : s0.Leads ((State.versionBytes s v).2) := by
  refine State.Leads.trans h ?_
  unfold State.versionBytes
  repeat' first
    | with_reducible exact State.Leads.refl _ | split | with_reducible refine State.freeBytes_from _ _ ?_

theorem State.update_from {s0 : State} (s : State) (code kinds result : Nat) (fw plan : Option Nat) (h : s0.Leads s) : s0.Leads (State.update s code kinds result fw plan) := by
  refine State.Leads.trans h ?_
  unfold State.update
  try dsimp only
  repeat' first
    | with_reducible exact State.Leads.refl _ | with_reducible refine State.versionBytes_from _ _ ?_
    | with_reducible refine State.fwPost_from _ _ _ ?_ | with_reducible refine State.put_from _ _ _ ?_

theorem State.updateKind_from {s0 : State} (s : State) (code kind result version : Nat) (h : s0.Leads s) : s0.Leads (State.updateKind s code kind result version) := by
  refine State.Leads.trans h ?_
  unfold State.updateKind
  repeat' first
    | with_reducible exact State.Leads.refl _ | with_reducible refine State.update_from _ _ _ _ _ _ ?_

theorem State.updateStaged_from {s0 : State} (s : State) (code result : Nat) (h : s0.Leads s) : s0.Leads (State.updateStaged s code result) := by
  refine State.Leads.trans h ?_
  unfold State.updateStaged
  repeat' first
    | with_reducible exact State.Leads.refl _ | with_reducible refine State.update_from _ _ _ _ _ _ ?_

theorem State.updateUse_from {s0 : State} (s : State) (code kinds result : Nat) (h : s0.Leads s) : s0.Leads (State.updateUse s code kinds result) := by
  refine State.Leads.trans h ?_
  unfold State.updateUse
  try dsimp only
  repeat' first
    | with_reducible exact State.Leads.refl _ | with_reducible refine State.update_from _ _ _ _ _ _ ?_

theorem State.commit_from {s0 : State} (s : State) (g : List JRec) (ok : Bool) (h : s0.Leads s) : s0.Leads ((State.commit s g ok).2) := by
  refine State.Leads.trans h ?_
  unfold State.commit
  try dsimp only
  repeat' first
    | with_reducible exact State.Leads.refl _ | with_reducible refine State.jCommit_from _ _ ?_
    | with_reducible refine State.free?_from _ ?_ | with_reducible refine State.jTear_from _ _ _ ?_ | split

theorem State.jDelete_from {s0 : State} (s : State) (type key : Nat) (h : s0.Leads s) : s0.Leads (State.jDelete s type key) := by
  refine State.Leads.trans h ?_
  unfold State.jDelete
  try dsimp only
  repeat' first
    | with_reducible exact State.Leads.refl _ | with_reducible apply State.leads_ite
    | with_reducible refine State.commit_from _ _ _ ?_

theorem State.showSession_from {s0 : State} (s : State) (h : s0.Leads s) : s0.Leads (State.showSession s) := by
  refine State.Leads.trans h ?_
  unfold State.showSession
  repeat' first
    | with_reducible exact State.Leads.refl _ | split | with_reducible refine State.off_from _ _ ?_
    | with_reducible refine State.on_from _ _ ?_ | with_reducible refine State.put_from _ _ _ ?_

theorem State.setSession_from {s0 : State} (s : State) (x : Option Session) (h : s0.Leads s) : s0.Leads (State.setSession s x) := by
  refine State.Leads.trans h ?_
  unfold State.setSession
  repeat' first
    | with_reducible exact State.Leads.refl _ | simp only [State.leads_mk_eq] | (with_reducible exact fun k => k)
    | with_reducible refine State.onPorch_from _ _ ?_ ?_ | with_reducible refine State.showSession_from _ ?_ | intro _

theorem State.heardSession_from {s0 : State} (s : State) (h0 : s0.Leads s) : s0.Leads (State.heardSession s) := by
  refine State.Leads.trans h0 ?_
  unfold State.heardSession
  repeat' first
    | with_reducible exact State.Leads.refl _
    | with_reducible exact LeadsOut.next _
    | simp only [State.leads_mk_eq]
    | with_reducible refine LeadsParts.same _ ?_
    | with_reducible refine LeadsParts.cellar _ _ ?_ ?_
    | with_reducible refine LeadsParts.attic _ _ ?_ ?_
    | with_reducible refine LeadsParts.porch _ _ ?_ ?_
    | with_reducible refine LeadsParts.hearth _ _ ?_ ?_
    | with_reducible refine LeadsParts.links _ _ ?_ ?_
    | with_reducible refine LeadsParts.tcs _ _ ?_ ?_
    | with_reducible exact fun k => k
    | with_reducible exact fun k => eraseRange_wf _ _ _ k
    | with_reducible exact fun k => progBytes_wf _ _ _ k
    | with_reducible exact fun k => brecWrite_wf _ _ _ k
    | exact Attic.grows_same rfl rfl
    | (simp only [List.length_map, List.length_zipIdx]; exact id)
    | with_reducible apply State.leads_ite
    | with_reducible refine State.onPorch_from _ _ ?_ ?_
    | split
    | intro _
    | dsimp only

theorem State.unstage_from {s0 : State} (s : State) (kind slot : Nat) (h : s0.Leads s) : s0.Leads (State.unstage s kind slot) := by
  refine State.Leads.trans h ?_
  unfold State.unstage
  repeat' first
    | with_reducible exact State.Leads.refl _ | simp only [State.leads_mk_eq] | with_reducible apply State.leads_ite | split
    | with_reducible refine State.onPorch_from _ _ ?_ ?_ | with_reducible refine State.jDelete_from _ _ _ ?_
    | with_reducible refine State.showStaged_from _ ?_ | (simp only [setAt, List.length_set]; assumption) | intro _

theorem State.endSession_from {s0 : State} (s : State) (h : s0.Leads s) : s0.Leads (State.endSession s) := by
  refine State.Leads.trans h ?_
  unfold State.endSession
  repeat' first
    | with_reducible exact State.Leads.refl _ | split | with_reducible refine State.setSession_from _ _ ?_
    | with_reducible refine State.jDelete_from _ _ _ ?_

theorem State.eraseFor_from {s0 : State} (s : State) (x : Session) (c : Nat) (h : s0.Leads s) : s0.Leads (State.eraseFor s x c) := by
  refine State.Leads.trans h ?_
  unfold State.eraseFor
  try dsimp only
  repeat' first
    | with_reducible exact State.Leads.refl _ | simp only [State.leads_mk_eq]
    | with_reducible refine LeadsParts.cellar _ _ ?_ ?_ | (with_reducible exact fun k => eraseRange_wf _ _ _ k)

theorem State.recordStaged_from {s0 : State} (s : State) (ok : Bool) (h : s0.Leads s) : s0.Leads (State.recordStaged s ok) := by
  refine State.Leads.trans h ?_
  unfold State.recordStaged
  try dsimp only
  repeat' first
    | with_reducible exact State.Leads.refl _ | split | with_reducible refine State.writeBrec_from _ _ _ _ _ _ ?_

theorem State.recordUse_from {s0 : State} (s : State) (ok : Bool) (h : s0.Leads s) : s0.Leads (State.recordUse s ok) := by
  refine State.Leads.trans h ?_
  unfold State.recordUse
  repeat' first
    | with_reducible exact State.Leads.refl _ | with_reducible refine State.writeBrec_from _ _ _ _ _ _ ?_

theorem State.unschedule_from {s0 : State} (s : State) (h : s0.Leads s) : s0.Leads (State.unschedule s) := by
  refine State.Leads.trans h ?_
  unfold State.unschedule
  repeat' first
    | with_reducible exact State.Leads.refl _ | simp only [State.leads_mk_eq] | (with_reducible exact fun k => k)
    | with_reducible refine State.off_from _ _ ?_ | with_reducible refine State.onPorch_from _ _ ?_ ?_ | intro _

theorem State.activate_from {s0 : State} (s : State) (at' : Nat) (ok : Bool) (h : s0.Leads s) : s0.Leads ((State.activate s at' ok).2) := by
  refine State.Leads.trans h ?_
  unfold State.activate
  try dsimp only
  repeat' first
    | with_reducible exact State.Leads.refl _ | with_reducible refine State.recordUse_from _ _ ?_
    | with_reducible refine State.unschedule_from _ ?_ | with_reducible refine State.updateStaged_from _ _ _ ?_
    | with_reducible refine State.recordStaged_from _ _ ?_ | with_reducible refine State.on_from _ _ ?_
    | with_reducible refine State.put_from _ _ _ ?_ | split

theorem State.porchSend_from {s0 : State} (s : State) (b : List Byte) (h0 : s0.Leads s) : s0.Leads (State.porchSend s b) := by
  refine State.Leads.trans h0 ?_
  unfold State.porchSend
  repeat' first
    | with_reducible exact State.Leads.refl _
    | with_reducible exact LeadsOut.next _
    | simp only [State.leads_mk_eq]
    | with_reducible refine LeadsParts.same _ ?_
    | with_reducible refine LeadsParts.cellar _ _ ?_ ?_
    | with_reducible refine LeadsParts.attic _ _ ?_ ?_
    | with_reducible refine LeadsParts.porch _ _ ?_ ?_
    | with_reducible refine LeadsParts.hearth _ _ ?_ ?_
    | with_reducible refine LeadsParts.links _ _ ?_ ?_
    | with_reducible refine LeadsParts.tcs _ _ ?_ ?_
    | with_reducible exact fun k => k
    | with_reducible exact fun k => eraseRange_wf _ _ _ k
    | with_reducible exact fun k => progBytes_wf _ _ _ k
    | with_reducible exact fun k => brecWrite_wf _ _ _ k
    | exact Attic.grows_same rfl rfl
    | (simp only [List.length_map, List.length_zipIdx]; exact id)
    | with_reducible apply State.leads_ite
    | with_reducible refine State.onPorch_from _ _ ?_ ?_
    | split
    | intro _
    | dsimp only

theorem State.porchTick_from {s0 : State} (s : State) (h0 : s0.Leads s) : s0.Leads (State.porchTick s) := by
  refine State.Leads.trans h0 ?_
  unfold State.porchTick
  repeat' first
    | with_reducible exact State.Leads.refl _
    | with_reducible exact LeadsOut.next _
    | simp only [State.leads_mk_eq]
    | with_reducible refine LeadsParts.same _ ?_
    | with_reducible refine LeadsParts.cellar _ _ ?_ ?_
    | with_reducible refine LeadsParts.attic _ _ ?_ ?_
    | with_reducible refine LeadsParts.porch _ _ ?_ ?_
    | with_reducible refine LeadsParts.hearth _ _ ?_ ?_
    | with_reducible refine LeadsParts.links _ _ ?_ ?_
    | with_reducible refine LeadsParts.tcs _ _ ?_ ?_
    | with_reducible exact fun k => k
    | with_reducible exact fun k => eraseRange_wf _ _ _ k
    | with_reducible exact fun k => progBytes_wf _ _ _ k
    | with_reducible exact fun k => brecWrite_wf _ _ _ k
    | exact Attic.grows_same rfl rfl
    | (simp only [List.length_map, List.length_zipIdx]; exact id)
    | with_reducible apply State.leads_ite
    | with_reducible refine State.onPorch_from _ _ ?_ ?_
    | split
    | intro _
    | dsimp only

theorem State.porchCmd_from {s0 : State} (s : State) (type : Nat) (f : Frame) (retired recovery form : Bool)
    (blank : List Byte) (n : Nat) (run : State → List Byte × State) (k : ∀ s : State, s.Leads (run s).2)
    (h : s0.Leads s) : s0.Leads (State.porchCmd s type f retired recovery form blank n run) := by
  refine h.trans ?_
  unfold State.porchCmd
  extract_lets refuse
  have hr : ∀ c, s.Leads (refuse c) := fun c => State.porchSend_from _ _ (State.refusal_from s c blank n (.refl s))
  clear_value refuse
  have hg : s.Leads (State.porchCmd.go s type f retired recovery form run refuse) := by
    unfold State.porchCmd.go
    refine State.leads_ite _ _ _ (hr _) (State.leads_ite _ _ _ (hr _) (State.leads_ite _ _ _ (hr _) ?_))
    exact State.onPorch_from _ _ (fun x e => e) (State.porchSend_from _ _ (k s))
  split
  · exact State.leads_ite _ _ _ (State.porchSend_from _ _ (.refl s)) hg
  · exact hg

theorem porchAct_from (s : State) (type : Nat) (line : List Byte) (go : Frame → State → State)
    (k : ∀ (f : Frame) (s : State), s.Leads (go f s)) : LeadsOut s (porchAct s type line go) := by
  unfold porchAct
  split
  · exact LeadsOut.next s
  · exact act_from _ _ _ (k _ s)

theorem State.extRead_from {s0 : State} (s : State) (r : Req) (addr : Nat) (h : s0.Leads s) : s0.Leads ((State.extRead s r addr).2.2) := by
  refine State.Leads.trans h ?_
  unfold State.extRead
  try dsimp only
  repeat' first
    | with_reducible exact State.Leads.refl _ | with_reducible refine State.busLoad_from _ _ _ _ ?_ | split

theorem State.commitSetting_from {s0 : State} (s : State) (e : SettingRec) (h : s0.Leads s) : s0.Leads (State.commitSetting s e) := by
  refine State.Leads.trans h ?_
  unfold State.commitSetting
  try dsimp only
  repeat' first
    | with_reducible exact State.Leads.refl _ | with_reducible apply State.leads_ite
    | with_reducible refine State.commit_from _ _ _ ?_

theorem State.extWrite_from {s0 : State} (s : State) (r : Req) (always : Bool) (addr : Nat) (v : Word) (h : s0.Leads s) : s0.Leads ((State.extWrite s r always addr v).2) := by
  refine State.Leads.trans h ?_
  unfold State.extWrite
  try dsimp only
  repeat' first
    | with_reducible refine State.leads_foldl _ _ _ _ ?_ ?_ | with_reducible exact State.Leads.refl _
    | simp only [State.leads_mk_eq] | split | with_reducible refine State.busStore_from _ _ _ _ _ ?_
    | with_reducible refine State.commitSetting_from _ _ ?_ | intro _

theorem State.kickLink_from {s0 : State} (s : State) (n : Fin 2) (h0 : s0.Leads s) : s0.Leads (State.kickLink s n) := by
  refine State.Leads.trans h0 ?_
  unfold State.kickLink
  repeat' first
    | with_reducible exact State.Leads.refl _
    | with_reducible exact LeadsOut.next _
    | with_reducible apply State.leads_ite
    | with_reducible refine State.onLink_from _ _ _ ?_
    | split
    | intro _

theorem State.reply_from {s0 : State} (s : State) (n : Fin 2) (b : List Byte) (h0 : s0.Leads s) : s0.Leads (State.reply s n b) := by
  refine State.Leads.trans h0 ?_
  unfold State.reply
  repeat' first
    | with_reducible exact State.Leads.refl _
    | with_reducible exact LeadsOut.next _
    | simp only [State.leads_mk_eq]
    | with_reducible refine LeadsParts.same _ ?_
    | with_reducible refine LeadsParts.cellar _ _ ?_ ?_
    | with_reducible refine LeadsParts.attic _ _ ?_ ?_
    | with_reducible refine LeadsParts.porch _ _ ?_ ?_
    | with_reducible refine LeadsParts.hearth _ _ ?_ ?_
    | with_reducible refine LeadsParts.links _ _ ?_ ?_
    | with_reducible refine LeadsParts.tcs _ _ ?_ ?_
    | with_reducible exact fun k => k
    | with_reducible exact fun k => eraseRange_wf _ _ _ k
    | with_reducible exact fun k => progBytes_wf _ _ _ k
    | with_reducible exact fun k => brecWrite_wf _ _ _ k
    | exact Attic.grows_same rfl rfl
    | (simp only [List.length_map, List.length_zipIdx]; exact id)
    | with_reducible apply State.leads_ite
    | with_reducible refine State.onLink_from _ _ _ ?_
    | with_reducible refine State.kickLink_from _ _ ?_
    | split
    | intro _
    | dsimp only

theorem State.store_from {s0 : State} (s : State) (n : Fin 2) (type : Nat) (f : Frame) (b : List Byte) (h0 : s0.Leads s) : s0.Leads (State.store s n type f b) := by
  refine State.Leads.trans h0 ?_
  unfold State.store
  repeat' first
    | with_reducible exact State.Leads.refl _
    | with_reducible exact LeadsOut.next _
    | simp only [State.leads_mk_eq]
    | with_reducible refine LeadsParts.same _ ?_
    | with_reducible refine LeadsParts.cellar _ _ ?_ ?_
    | with_reducible refine LeadsParts.attic _ _ ?_ ?_
    | with_reducible refine LeadsParts.porch _ _ ?_ ?_
    | with_reducible refine LeadsParts.hearth _ _ ?_ ?_
    | with_reducible refine LeadsParts.links _ _ ?_ ?_
    | with_reducible refine LeadsParts.tcs _ _ ?_ ?_
    | with_reducible exact fun k => k
    | with_reducible exact fun k => eraseRange_wf _ _ _ k
    | with_reducible exact fun k => progBytes_wf _ _ _ k
    | with_reducible exact fun k => brecWrite_wf _ _ _ k
    | exact Attic.grows_same rfl rfl
    | (simp only [List.length_map, List.length_zipIdx]; exact id)
    | with_reducible apply State.leads_ite
    | with_reducible refine State.onLink_from _ _ _ ?_
    | split
    | intro _
    | dsimp only

theorem State.finish_from {s0 : State} (s : State) (n : Fin 2) (type : Nat) (f : Frame) (payload : List Byte) (h0 : s0.Leads s) : s0.Leads (State.finish s n type f payload) := by
  refine State.Leads.trans h0 ?_
  unfold State.finish
  try dsimp only
  repeat' first
    | with_reducible exact State.Leads.refl _
    | with_reducible exact LeadsOut.next _
    | with_reducible apply State.leads_ite
    | with_reducible refine State.store_from _ _ _ _ _ ?_
    | with_reducible refine State.reply_from _ _ _ ?_
    | split
    | intro _

theorem State.linkRefuse_from {s0 : State} (s : State) (n : Fin 2) (type : Nat) (f : Frame) (status : Nat) (known : List Byte) (open' : Nat) (h : s0.Leads s) : s0.Leads (State.linkRefuse s n type f status known open') := by
  refine State.Leads.trans h ?_
  unfold State.linkRefuse
  try dsimp only
  repeat' first
    | with_reducible exact State.Leads.refl _ | with_reducible refine State.refusal_from _ _ _ _ ?_
    | with_reducible refine State.reply_from _ _ _ ?_

theorem State.judged_from {s0 : State} (s : State) (n : Fin 2) (type : Nat) (f : Frame) (form : Bool) (known : List Byte)
    (o : Nat) (go : State → State) (k : ∀ s : State, s.Leads (go s)) (h : s0.Leads s) :
    s0.Leads (State.judged s n type f form known o go) := by
  refine h.trans ?_
  unfold State.judged
  extract_lets rest
  have hr : s.Leads rest := State.leads_ite _ _ _ (State.linkRefuse_from _ _ _ _ _ _ _ (.refl s)) (k s)
  split
  · exact State.leads_ite _ _ _ (State.reply_from _ _ _ (.refl s)) hr
  · exact hr

theorem State.linkCmd_from {s0 : State} (s : State) (n : Fin 2) (type : Nat) (f : Frame) (form : Bool) (known : List Byte)
    (o : Nat) (run : State → List Byte × State) (k : ∀ s : State, s.Leads (run s).2) (h : s0.Leads s) :
    s0.Leads (State.linkCmd s n type f form known o run) :=
  State.judged_from _ _ _ _ _ _ _ _ (fun s => State.finish_from _ _ _ _ _ (k s)) h

theorem State.firmCmd_from {s0 : State} (s : State) (n : Fin 2) (type : Nat) (f : Frame) (form held : Bool) (since : Nat)
    (known : List Byte) (o : Nat) (run : State → List Byte × State) (k : ∀ s : State, s.Leads (run s).2)
    (h : s0.Leads s) : s0.Leads (State.firmCmd s n type f form held since known o run) := by
  refine h.trans ?_
  unfold State.firmCmd
  extract_lets again
  exact State.leads_ite _ _ _ (State.linkRefuse_from _ _ _ _ _ _ _ (.refl s)) (State.leads_ite _ _ _
    (State.onLink_leads _ _ _) (State.linkCmd_from _ _ _ _ _ _ _ _ k (.refl s)))

theorem State.arrive_from {s0 : State} (s : State) (n : Fin 2) (c : RxCmd) (go : State → State)
    (k : ∀ s : State, s.Leads (go s)) (h : s0.Leads s) : s0.Leads (State.arrive s n c go) :=
  State.leads_ite _ _ _ (h.trans (k s)) (State.leads_ite _ _ _ (State.put_from _ _ _ h) (State.onLink_from _ _ _ h))

theorem hostAct_from (s : State) (n : Fin 2) (type : Nat) (line : List Byte) (held recOk : Bool)
    (go : Frame → State → State) (k : ∀ (f : Frame) (s : State), s.Leads (go f s)) :
    LeadsOut s (hostAct s n type line held recOk go) := by
  unfold hostAct
  split
  · exact LeadsOut.next s
  · exact act_from _ _ _ (State.arrive_from s _ _ _ (k _) (.refl s))

theorem State.countErr_from {s0 : State} (s : State) (f : Field) (h : s0.Leads s) : s0.Leads (State.countErr s f) := by
  refine State.Leads.trans h ?_
  unfold State.countErr
  repeat' first
    | with_reducible exact State.Leads.refl _ | with_reducible refine State.put_from _ _ _ ?_

theorem State.hlRead_from {s0 : State} (n : Fin 2) (f : Frame) (s : State) (h0 : s0.Leads s) : s0.Leads (State.hlRead n f s) := by
  refine State.Leads.trans h0 ?_
  unfold State.hlRead
  try dsimp only
  repeat' first
    | with_reducible exact State.Leads.refl _
    | with_reducible exact LeadsOut.next _
    | with_reducible apply State.leads_ite
    | with_reducible refine State.linkCmd_from _ _ _ _ _ _ _ _ (fun s => ?_) ?_
    | with_reducible refine State.refusal_from _ _ _ _ ?_
    | with_reducible refine State.extRead_from _ _ _ ?_
    | split
    | intro _
    | dsimp only

theorem execHlRead_from (n : Fin 2) (line : List Byte) (s : State) : LeadsOut s (execHlRead n line s) := by
  unfold execHlRead
  repeat' first
    | with_reducible exact State.Leads.refl _
    | with_reducible exact LeadsOut.next _
    | with_reducible apply State.leads_ite
    | with_reducible apply LeadsOut.ite
    | with_reducible refine LeadsOut.of ?_
    | with_reducible refine LeadsSeq.ok ?_
    | with_reducible refine LeadsSeq.error ?_
    | with_reducible apply LeadsSeq.ite
    | with_reducible refine State.hlRead_from _ _ _ ?_
    | with_reducible refine hostAct_from _ _ _ _ _ _ _ (fun f s => ?_)
    | split
    | intro _

theorem State.hlWrite_from {s0 : State} (n : Fin 2) (f : Frame) (s : State) (h0 : s0.Leads s) : s0.Leads (State.hlWrite n f s) := by
  refine State.Leads.trans h0 ?_
  unfold State.hlWrite
  try dsimp only
  repeat' first
    | with_reducible exact State.Leads.refl _
    | with_reducible exact LeadsOut.next _
    | with_reducible apply State.leads_ite
    | with_reducible refine State.linkCmd_from _ _ _ _ _ _ _ _ (fun s => ?_) ?_
    | with_reducible refine State.extWrite_from _ _ _ _ _ ?_
    | split
    | intro _
    | dsimp only

theorem execHlWrite_from (n : Fin 2) (line : List Byte) (s : State) : LeadsOut s (execHlWrite n line s) := by
  unfold execHlWrite
  repeat' first
    | with_reducible exact State.Leads.refl _
    | with_reducible exact LeadsOut.next _
    | with_reducible apply State.leads_ite
    | with_reducible apply LeadsOut.ite
    | with_reducible refine LeadsOut.of ?_
    | with_reducible refine LeadsSeq.ok ?_
    | with_reducible refine LeadsSeq.error ?_
    | with_reducible apply LeadsSeq.ite
    | with_reducible refine State.hlWrite_from _ _ _ ?_
    | with_reducible refine hostAct_from _ _ _ _ _ _ _ (fun f s => ?_)
    | split
    | intro _

theorem State.rmwOne_from {s0 : State} (n : Fin 2) (p : Prog) (s : State) (h0 : s0.Leads s) : s0.Leads ((State.rmwOne n p s).2.2) := by
  refine State.Leads.trans h0 ?_
  unfold State.rmwOne
  try dsimp only
  repeat' first
    | with_reducible exact State.Leads.refl _
    | with_reducible exact LeadsOut.next _
    | simp only [State.leads_mk_eq]
    | with_reducible refine LeadsParts.same _ ?_
    | with_reducible refine LeadsParts.cellar _ _ ?_ ?_
    | with_reducible refine LeadsParts.attic _ _ ?_ ?_
    | with_reducible refine LeadsParts.porch _ _ ?_ ?_
    | with_reducible refine LeadsParts.hearth _ _ ?_ ?_
    | with_reducible refine LeadsParts.links _ _ ?_ ?_
    | with_reducible refine LeadsParts.tcs _ _ ?_ ?_
    | with_reducible exact fun k => k
    | with_reducible exact fun k => eraseRange_wf _ _ _ k
    | with_reducible exact fun k => progBytes_wf _ _ _ k
    | with_reducible exact fun k => brecWrite_wf _ _ _ k
    | exact Attic.grows_same rfl rfl
    | (simp only [List.length_map, List.length_zipIdx]; exact id)
    | with_reducible apply State.leads_ite
    | with_reducible refine State.extRead_from _ _ _ ?_
    | with_reducible refine State.extWrite_from _ _ _ _ _ ?_
    | split
    | intro _

theorem State.bulkReadOne_from {s0 : State} (n : Fin 2) (p : Prog) (s : State) (h0 : s0.Leads s) : s0.Leads ((State.bulkReadOne n p s).2.2) := by
  refine State.Leads.trans h0 ?_
  unfold State.bulkReadOne
  try dsimp only
  repeat' first
    | with_reducible exact State.Leads.refl _
    | with_reducible exact LeadsOut.next _
    | simp only [State.leads_mk_eq]
    | with_reducible refine LeadsParts.same _ ?_
    | with_reducible refine LeadsParts.cellar _ _ ?_ ?_
    | with_reducible refine LeadsParts.attic _ _ ?_ ?_
    | with_reducible refine LeadsParts.porch _ _ ?_ ?_
    | with_reducible refine LeadsParts.hearth _ _ ?_ ?_
    | with_reducible refine LeadsParts.links _ _ ?_ ?_
    | with_reducible refine LeadsParts.tcs _ _ ?_ ?_
    | with_reducible exact fun k => k
    | with_reducible exact fun k => eraseRange_wf _ _ _ k
    | with_reducible exact fun k => progBytes_wf _ _ _ k
    | with_reducible exact fun k => brecWrite_wf _ _ _ k
    | exact Attic.grows_same rfl rfl
    | (simp only [List.length_map, List.length_zipIdx]; exact id)
    | with_reducible apply State.leads_ite
    | with_reducible refine State.extRead_from _ _ _ ?_
    | split
    | intro _

theorem State.bulkWriteOne_from {s0 : State} (n : Fin 2) (p : Prog) (s : State) (h0 : s0.Leads s) : s0.Leads ((State.bulkWriteOne n p s).2.2) := by
  refine State.Leads.trans h0 ?_
  unfold State.bulkWriteOne
  try dsimp only
  repeat' first
    | with_reducible exact State.Leads.refl _
    | with_reducible exact LeadsOut.next _
    | simp only [State.leads_mk_eq]
    | with_reducible refine LeadsParts.same _ ?_
    | with_reducible refine LeadsParts.cellar _ _ ?_ ?_
    | with_reducible refine LeadsParts.attic _ _ ?_ ?_
    | with_reducible refine LeadsParts.porch _ _ ?_ ?_
    | with_reducible refine LeadsParts.hearth _ _ ?_ ?_
    | with_reducible refine LeadsParts.links _ _ ?_ ?_
    | with_reducible refine LeadsParts.tcs _ _ ?_ ?_
    | with_reducible exact fun k => k
    | with_reducible exact fun k => eraseRange_wf _ _ _ k
    | with_reducible exact fun k => progBytes_wf _ _ _ k
    | with_reducible exact fun k => brecWrite_wf _ _ _ k
    | exact Attic.grows_same rfl rfl
    | (simp only [List.length_map, List.length_zipIdx]; exact id)
    | with_reducible apply State.leads_ite
    | with_reducible refine State.extWrite_from _ _ _ _ _ ?_
    | split
    | intro _

theorem State.progOne_from {s0 : State} (n : Fin 2) (p : Prog) (s : State) (h0 : s0.Leads s) : s0.Leads ((State.progOne n p s).2.2) := by
  refine State.Leads.trans h0 ?_
  unfold State.progOne
  repeat' first
    | with_reducible exact State.Leads.refl _
    | with_reducible exact LeadsOut.next _
    | with_reducible apply State.leads_ite
    | with_reducible refine State.rmwOne_from _ _ _ ?_
    | with_reducible refine State.bulkReadOne_from _ _ _ ?_
    | with_reducible refine State.bulkWriteOne_from _ _ _ ?_
    | split
    | intro _

theorem State.progEnd_from {s0 : State} (n : Fin 2) (code : Nat) (p : Prog) (s : State) (h0 : s0.Leads s) : s0.Leads (State.progEnd n code p s) := by
  refine State.Leads.trans h0 ?_
  unfold State.progEnd
  try dsimp only
  repeat' first
    | with_reducible exact State.Leads.refl _
    | with_reducible exact LeadsOut.next _
    | simp only [State.leads_mk_eq]
    | with_reducible refine LeadsParts.same _ ?_
    | with_reducible refine LeadsParts.cellar _ _ ?_ ?_
    | with_reducible refine LeadsParts.attic _ _ ?_ ?_
    | with_reducible refine LeadsParts.porch _ _ ?_ ?_
    | with_reducible refine LeadsParts.hearth _ _ ?_ ?_
    | with_reducible refine LeadsParts.links _ _ ?_ ?_
    | with_reducible refine LeadsParts.tcs _ _ ?_ ?_
    | with_reducible exact fun k => k
    | with_reducible exact fun k => eraseRange_wf _ _ _ k
    | with_reducible exact fun k => progBytes_wf _ _ _ k
    | with_reducible exact fun k => brecWrite_wf _ _ _ k
    | exact Attic.grows_same rfl rfl
    | (simp only [List.length_map, List.length_zipIdx]; exact id)
    | with_reducible apply State.leads_ite
    | with_reducible refine State.onLink_from _ _ _ ?_
    | with_reducible refine State.refusal_from _ _ _ _ ?_
    | with_reducible refine State.finish_from _ _ _ _ _ ?_
    | split
    | intro _
    | dsimp only

theorem State.progRun_from {s0 : State} (n : Fin 2) (k : Nat) (s : State) (h : s0.Leads s) :
    s0.Leads (State.progRun n k s) := by
  induction k generalizing s with
  | zero => exact h
  | succ k ih =>
    unfold State.progRun
    split
    · exact h
    · rename_i p _
      have hp : s0.Leads (s.progOne n p).2.2 := State.progOne_from n p s h
      dsimp only
      split
      · exact ih _ (State.onLink_from _ _ _ hp)
      · exact State.progEnd_from _ _ _ _ hp
theorem State.progStart_from {s0 : State} (n : Fin 2) (type : Nat) (f : Frame) (k : Nat) (s : State) (h : s0.Leads s) :
    s0.Leads (State.progStart n type f k s) := State.progRun_from _ _ _ (State.onLink_from _ _ _ h)

theorem State.hlRmw_from {s0 : State} (n : Fin 2) (k : Nat) (f : Frame) (s : State) (h0 : s0.Leads s) : s0.Leads (State.hlRmw n k f s) := by
  refine State.Leads.trans h0 ?_
  unfold State.hlRmw
  try dsimp only
  repeat' first
    | with_reducible exact State.Leads.refl _
    | with_reducible exact LeadsOut.next _
    | with_reducible apply State.leads_ite
    | with_reducible refine State.judged_from _ _ _ _ _ _ _ _ (fun s => ?_) ?_
    | with_reducible refine State.refusal_from _ _ _ _ ?_
    | with_reducible refine State.finish_from _ _ _ _ _ ?_
    | with_reducible refine State.progStart_from _ _ _ _ _ ?_
    | split
    | intro _
    | dsimp only

theorem State.hlBulkRead_from {s0 : State} (n : Fin 2) (k : Nat) (f : Frame) (s : State) (h0 : s0.Leads s) : s0.Leads (State.hlBulkRead n k f s) := by
  refine State.Leads.trans h0 ?_
  unfold State.hlBulkRead
  try dsimp only
  repeat' first
    | with_reducible exact State.Leads.refl _
    | with_reducible exact LeadsOut.next _
    | with_reducible apply State.leads_ite
    | with_reducible refine State.judged_from _ _ _ _ _ _ _ _ (fun s => ?_) ?_
    | with_reducible refine State.finish_from _ _ _ _ _ ?_
    | with_reducible refine State.progStart_from _ _ _ _ _ ?_
    | split
    | intro _
    | dsimp only

theorem State.hlBulkWrite_from {s0 : State} (n : Fin 2) (k : Nat) (f : Frame) (s : State) (h0 : s0.Leads s) : s0.Leads (State.hlBulkWrite n k f s) := by
  refine State.Leads.trans h0 ?_
  unfold State.hlBulkWrite
  try dsimp only
  repeat' first
    | with_reducible exact State.Leads.refl _
    | with_reducible exact LeadsOut.next _
    | with_reducible apply State.leads_ite
    | with_reducible refine State.judged_from _ _ _ _ _ _ _ _ (fun s => ?_) ?_
    | with_reducible refine State.finish_from _ _ _ _ _ ?_
    | with_reducible refine State.progStart_from _ _ _ _ _ ?_
    | split
    | intro _
    | dsimp only

theorem progAct_from (s : State) (n : Fin 2) (type : Nat) (line : Option (List Byte)) (k : Nat)
    (go : Frame → State → State) (hg : ∀ (f : Frame) (s : State), s.Leads (go f s)) :
    LeadsOut s (progAct s n type line k go) := by
  unfold progAct
  split
  · exact hostAct_from _ _ _ _ _ _ _ hg
  · exact act_from _ _ _ (State.progRun_from _ _ _ (.refl s))

theorem execRmw_from (n : Fin 2) (line : Option (List Byte)) (k : Nat) (s : State) : LeadsOut s (execRmw n line k s) := by
  unfold execRmw
  repeat' first
    | with_reducible exact State.Leads.refl _
    | with_reducible exact LeadsOut.next _
    | with_reducible apply State.leads_ite
    | with_reducible apply LeadsOut.ite
    | with_reducible refine LeadsOut.of ?_
    | with_reducible refine LeadsSeq.ok ?_
    | with_reducible refine LeadsSeq.error ?_
    | with_reducible apply LeadsSeq.ite
    | with_reducible refine State.hlRmw_from _ _ _ _ ?_
    | with_reducible refine progAct_from _ _ _ _ _ _ (fun f s => ?_)
    | split
    | intro _

theorem execBulkRead_from (n : Fin 2) (line : Option (List Byte)) (k : Nat) (s : State) : LeadsOut s (execBulkRead n line k s) := by
  unfold execBulkRead
  repeat' first
    | with_reducible exact State.Leads.refl _
    | with_reducible exact LeadsOut.next _
    | with_reducible apply State.leads_ite
    | with_reducible apply LeadsOut.ite
    | with_reducible refine LeadsOut.of ?_
    | with_reducible refine LeadsSeq.ok ?_
    | with_reducible refine LeadsSeq.error ?_
    | with_reducible apply LeadsSeq.ite
    | with_reducible refine State.hlBulkRead_from _ _ _ _ ?_
    | with_reducible refine progAct_from _ _ _ _ _ _ (fun f s => ?_)
    | with_reducible refine State.bulkRead_from _ _ _ _ _ ?_
    | split
    | intro _

theorem execBulkWrite_from (n : Fin 2) (line : Option (List Byte)) (k : Nat) (s : State) : LeadsOut s (execBulkWrite n line k s) := by
  unfold execBulkWrite
  repeat' first
    | with_reducible exact State.Leads.refl _
    | with_reducible exact LeadsOut.next _
    | with_reducible apply State.leads_ite
    | with_reducible apply LeadsOut.ite
    | with_reducible refine LeadsOut.of ?_
    | with_reducible refine LeadsSeq.ok ?_
    | with_reducible refine LeadsSeq.error ?_
    | with_reducible apply LeadsSeq.ite
    | with_reducible refine State.hlBulkWrite_from _ _ _ _ ?_
    | with_reducible refine progAct_from _ _ _ _ _ _ (fun f s => ?_)
    | with_reducible refine State.bulkWrite_from _ _ _ _ _ ?_
    | split
    | intro _

theorem State.hlSubscribe_from {s0 : State} (n : Fin 2) (f : Frame) (s : State) (h0 : s0.Leads s) : s0.Leads (State.hlSubscribe n f s) := by
  refine State.Leads.trans h0 ?_
  unfold State.hlSubscribe
  try dsimp only
  repeat' first
    | with_reducible exact State.Leads.refl _
    | with_reducible exact LeadsOut.next _
    | with_reducible apply State.leads_ite
    | with_reducible refine State.linkCmd_from _ _ _ _ _ _ _ _ (fun s => ?_) ?_
    | with_reducible refine State.put_from _ _ _ ?_
    | split
    | intro _
    | dsimp only

theorem execSubscribe_from (n : Fin 2) (line : List Byte) (s : State) : LeadsOut s (execSubscribe n line s) := by
  unfold execSubscribe
  repeat' first
    | with_reducible exact State.Leads.refl _
    | with_reducible exact LeadsOut.next _
    | with_reducible apply State.leads_ite
    | with_reducible apply LeadsOut.ite
    | with_reducible refine LeadsOut.of ?_
    | with_reducible refine LeadsSeq.ok ?_
    | with_reducible refine LeadsSeq.error ?_
    | with_reducible apply LeadsSeq.ite
    | with_reducible refine State.hlSubscribe_from _ _ _ ?_
    | with_reducible refine hostAct_from _ _ _ _ _ _ _ (fun f s => ?_)
    | split
    | intro _

theorem State.snapReply_from {s0 : State} (n : Fin 2) (code : Nat) (f : Frame) (s : State) (h0 : s0.Leads s) : s0.Leads (State.snapReply n code f s) := by
  refine State.Leads.trans h0 ?_
  unfold State.snapReply
  repeat' first
    | with_reducible exact State.Leads.refl _
    | with_reducible exact LeadsOut.next _
    | with_reducible apply State.leads_ite
    | with_reducible refine State.finish_from _ _ _ _ _ ?_
    | split
    | intro _

theorem State.hlSnapshot_from {s0 : State} (n : Fin 2) (f : Frame) (s : State) (h0 : s0.Leads s) : s0.Leads (State.hlSnapshot n f s) := by
  refine State.Leads.trans h0 ?_
  unfold State.hlSnapshot
  try dsimp only
  repeat' first
    | with_reducible exact State.Leads.refl _
    | with_reducible exact LeadsOut.next _
    | simp only [State.leads_mk_eq]
    | with_reducible refine LeadsParts.same _ ?_
    | with_reducible refine LeadsParts.cellar _ _ ?_ ?_
    | with_reducible refine LeadsParts.attic _ _ ?_ ?_
    | with_reducible refine LeadsParts.porch _ _ ?_ ?_
    | with_reducible refine LeadsParts.hearth _ _ ?_ ?_
    | with_reducible refine LeadsParts.links _ _ ?_ ?_
    | with_reducible refine LeadsParts.tcs _ _ ?_ ?_
    | with_reducible exact fun k => k
    | with_reducible exact fun k => eraseRange_wf _ _ _ k
    | with_reducible exact fun k => progBytes_wf _ _ _ k
    | with_reducible exact fun k => brecWrite_wf _ _ _ k
    | exact Attic.grows_same rfl rfl
    | (simp only [List.length_map, List.length_zipIdx]; exact id)
    | with_reducible apply State.leads_ite
    | split
    | with_reducible refine State.judged_from _ _ _ _ _ _ _ _ (fun s => ?_) ?_
    | with_reducible refine State.snapTrig_from _ ?_
    | with_reducible refine State.snapReply_from _ _ _ _ ?_
    | with_reducible refine State.onLink_from _ _ _ ?_
    | split
    | intro _
    | dsimp only

theorem execSnapshot_from (n : Fin 2) (line : List Byte) (s : State) : LeadsOut s (execSnapshot n line s) := by
  unfold execSnapshot
  repeat' first
    | with_reducible exact State.Leads.refl _
    | with_reducible exact LeadsOut.next _
    | with_reducible apply State.leads_ite
    | with_reducible apply LeadsOut.ite
    | with_reducible refine LeadsOut.of ?_
    | with_reducible refine LeadsSeq.ok ?_
    | with_reducible refine LeadsSeq.error ?_
    | with_reducible apply LeadsSeq.ite
    | with_reducible refine State.hlSnapshot_from _ _ _ ?_
    | with_reducible refine hostAct_from _ _ _ _ _ _ _ (fun f s => ?_)
    | split
    | intro _

theorem State.snapReplies_from {s0 : State} (code : Nat) (s : State) (h0 : s0.Leads s) : s0.Leads (State.snapReplies code s) := by
  refine State.Leads.trans h0 ?_
  unfold State.snapReplies
  repeat' first
    | with_reducible refine State.leads_foldl _ _ _ _ ?_ ?_
    | with_reducible exact State.Leads.refl _
    | with_reducible exact LeadsOut.next _
    | simp only [State.leads_mk_eq]
    | with_reducible refine LeadsParts.same _ ?_
    | with_reducible refine LeadsParts.cellar _ _ ?_ ?_
    | with_reducible refine LeadsParts.attic _ _ ?_ ?_
    | with_reducible refine LeadsParts.porch _ _ ?_ ?_
    | with_reducible refine LeadsParts.hearth _ _ ?_ ?_
    | with_reducible refine LeadsParts.links _ _ ?_ ?_
    | with_reducible refine LeadsParts.tcs _ _ ?_ ?_
    | with_reducible exact fun k => k
    | with_reducible exact fun k => eraseRange_wf _ _ _ k
    | with_reducible exact fun k => progBytes_wf _ _ _ k
    | with_reducible exact fun k => brecWrite_wf _ _ _ k
    | exact Attic.grows_same rfl rfl
    | (simp only [List.length_map, List.length_zipIdx]; exact id)
    | with_reducible apply State.leads_ite
    | split
    | with_reducible refine State.onLink_from _ _ _ ?_
    | with_reducible refine State.snapReply_from _ _ _ _ ?_
    | split
    | intro _
    | dsimp only

theorem execCapture_from (s : State) : LeadsOut s (execCapture s) := by
  unfold execCapture
  repeat' first
    | with_reducible exact State.Leads.refl _
    | with_reducible exact LeadsOut.next _
    | simp only [State.leads_mk_eq]
    | with_reducible refine LeadsParts.same _ ?_
    | with_reducible refine LeadsParts.cellar _ _ ?_ ?_
    | with_reducible refine LeadsParts.attic _ _ ?_ ?_
    | with_reducible refine LeadsParts.porch _ _ ?_ ?_
    | with_reducible refine LeadsParts.hearth _ _ ?_ ?_
    | with_reducible refine LeadsParts.links _ _ ?_ ?_
    | with_reducible refine LeadsParts.tcs _ _ ?_ ?_
    | with_reducible exact fun k => k
    | with_reducible exact fun k => eraseRange_wf _ _ _ k
    | with_reducible exact fun k => progBytes_wf _ _ _ k
    | with_reducible exact fun k => brecWrite_wf _ _ _ k
    | exact Attic.grows_same rfl rfl
    | (simp only [List.length_map, List.length_zipIdx]; exact id)
    | with_reducible apply State.leads_ite
    | with_reducible apply LeadsOut.ite
    | with_reducible refine LeadsOut.of ?_
    | with_reducible refine LeadsSeq.ok ?_
    | with_reducible refine LeadsSeq.error ?_
    | with_reducible apply LeadsSeq.ite
    | with_reducible refine State.snapReplies_from _ _ ?_
    | with_reducible refine State.on_from _ _ ?_
    | with_reducible refine State.capture_from _ _ ?_
    | with_reducible refine act_from _ _ _ ?_
    | split
    | intro _
    | dsimp only

theorem State.hlActivate_from {s0 : State} (n : Fin 2) (held recOk : Bool) (since : Nat) (f : Frame) (s : State) (h0 : s0.Leads s) : s0.Leads (State.hlActivate n held recOk since f s) := by
  refine State.Leads.trans h0 ?_
  unfold State.hlActivate
  try dsimp only
  repeat' first
    | with_reducible exact State.Leads.refl _
    | with_reducible exact LeadsOut.next _
    | with_reducible apply State.leads_ite
    | with_reducible refine State.firmCmd_from _ _ _ _ _ _ _ _ _ _ (fun s => ?_) ?_
    | with_reducible refine State.activate_from _ _ _ ?_
    | split
    | intro _
    | dsimp only

theorem execHlActivate_from (n : Fin 2) (line : List Byte) (held recOk : Bool) (s : State) : LeadsOut s (execHlActivate n line held recOk s) := by
  unfold execHlActivate
  repeat' first
    | with_reducible exact State.Leads.refl _
    | with_reducible exact LeadsOut.next _
    | with_reducible apply State.leads_ite
    | with_reducible apply LeadsOut.ite
    | with_reducible refine LeadsOut.of ?_
    | with_reducible refine LeadsSeq.ok ?_
    | with_reducible refine LeadsSeq.error ?_
    | with_reducible apply LeadsSeq.ite
    | with_reducible refine State.hlActivate_from _ _ _ _ _ _ ?_
    | with_reducible refine hostAct_from _ _ _ _ _ _ _ (fun f s => ?_)
    | split
    | intro _

theorem State.hlAck_from {s0 : State} (n : Fin 2) (f : Frame) (s : State) (h0 : s0.Leads s) : s0.Leads (State.hlAck n f s) := by
  refine State.Leads.trans h0 ?_
  unfold State.hlAck
  repeat' first
    | with_reducible exact State.Leads.refl _
    | with_reducible exact LeadsOut.next _
    | with_reducible apply State.leads_ite
    | with_reducible refine State.onLink_from _ _ _ ?_
    | with_reducible refine State.linkRefuse_from _ _ _ _ _ _ _ ?_
    | split
    | intro _
    | dsimp only

theorem execAck_from (n : Fin 2) (line : List Byte) (s : State) : LeadsOut s (execAck n line s) := by
  unfold execAck
  repeat' first
    | with_reducible exact State.Leads.refl _
    | with_reducible exact LeadsOut.next _
    | with_reducible apply State.leads_ite
    | with_reducible apply LeadsOut.ite
    | with_reducible refine LeadsOut.of ?_
    | with_reducible refine LeadsSeq.ok ?_
    | with_reducible refine LeadsSeq.error ?_
    | with_reducible apply LeadsSeq.ite
    | with_reducible refine State.hlAck_from _ _ _ ?_
    | with_reducible refine hostAct_from _ _ _ _ _ _ _ (fun f s => ?_)
    | split
    | intro _

theorem State.writeSetting_from {s0 : State} (s : State) (e : SettingRec) (v : Nat) (h : s0.Leads s) : s0.Leads (State.writeSetting s e v) := by
  refine State.Leads.trans h ?_
  unfold State.writeSetting
  try dsimp only
  repeat' first
    | with_reducible exact State.Leads.refl _ | split | with_reducible refine State.putSetting_from _ _ _ ?_
    | with_reducible refine State.noteWrite_from _ _ _ _ _ ?_ | with_reducible refine State.commitSetting_from _ _ ?_

theorem State.hlSetting_from {s0 : State} (n : Fin 2) (held : Bool) (since : Nat) (f : Frame) (s : State) (h0 : s0.Leads s) : s0.Leads (State.hlSetting n held since f s) := by
  refine State.Leads.trans h0 ?_
  unfold State.hlSetting
  try dsimp only
  repeat' first
    | with_reducible exact State.Leads.refl _
    | with_reducible exact LeadsOut.next _
    | simp only [State.leads_mk_eq]
    | with_reducible refine LeadsParts.same _ ?_
    | with_reducible refine LeadsParts.cellar _ _ ?_ ?_
    | with_reducible refine LeadsParts.attic _ _ ?_ ?_
    | with_reducible refine LeadsParts.porch _ _ ?_ ?_
    | with_reducible refine LeadsParts.hearth _ _ ?_ ?_
    | with_reducible refine LeadsParts.links _ _ ?_ ?_
    | with_reducible refine LeadsParts.tcs _ _ ?_ ?_
    | with_reducible exact fun k => k
    | with_reducible exact fun k => eraseRange_wf _ _ _ k
    | with_reducible exact fun k => progBytes_wf _ _ _ k
    | with_reducible exact fun k => brecWrite_wf _ _ _ k
    | exact Attic.grows_same rfl rfl
    | (simp only [List.length_map, List.length_zipIdx]; exact id)
    | with_reducible apply State.leads_ite
    | split
    | with_reducible refine State.firmCmd_from _ _ _ _ _ _ _ _ _ _ (fun s => ?_) ?_
    | with_reducible refine State.refusal_from _ _ _ _ ?_
    | with_reducible refine State.writeSetting_from _ _ _ ?_
    | split
    | intro _
    | dsimp only

theorem execSetting_from (n : Fin 2) (line : List Byte) (held : Bool) (s : State) : LeadsOut s (execSetting n line held s) := by
  unfold execSetting
  repeat' first
    | with_reducible exact State.Leads.refl _
    | with_reducible exact LeadsOut.next _
    | with_reducible apply State.leads_ite
    | with_reducible apply LeadsOut.ite
    | with_reducible refine LeadsOut.of ?_
    | with_reducible refine LeadsSeq.ok ?_
    | with_reducible refine LeadsSeq.error ?_
    | with_reducible apply LeadsSeq.ite
    | with_reducible refine State.hlSetting_from _ _ _ _ _ ?_
    | with_reducible refine hostAct_from _ _ _ _ _ _ _ (fun f s => ?_)
    | split
    | intro _

theorem State.sendVdm_from {s0 : State} (s : State) (p : Fin 48) (words : List Word) (h : s0.Leads s) : s0.Leads (State.sendVdm s p words) := by
  refine State.Leads.trans h ?_
  unfold State.sendVdm
  try dsimp only
  repeat' first
    | with_reducible refine State.leads_foldl _ _ _ _ ?_ ?_ | with_reducible exact State.Leads.refl _
    | with_reducible refine State.busStore_from _ _ _ _ _ ?_ | intro _

theorem State.hlVdm_from {s0 : State} (n : Fin 2) (held : Bool) (since : Nat) (f : Frame) (s : State) (h0 : s0.Leads s) : s0.Leads (State.hlVdm n held since f s) := by
  refine State.Leads.trans h0 ?_
  unfold State.hlVdm
  try dsimp only
  repeat' first
    | with_reducible exact State.Leads.refl _
    | with_reducible exact LeadsOut.next _
    | with_reducible apply State.leads_ite
    | with_reducible refine State.firmCmd_from _ _ _ _ _ _ _ _ _ _ (fun s => ?_) ?_
    | with_reducible refine State.sendVdm_from _ _ _ ?_
    | split
    | intro _
    | dsimp only

theorem execVdmSend_from (n : Fin 2) (line : List Byte) (held : Bool) (s : State) : LeadsOut s (execVdmSend n line held s) := by
  unfold execVdmSend
  repeat' first
    | with_reducible exact State.Leads.refl _
    | with_reducible exact LeadsOut.next _
    | with_reducible apply State.leads_ite
    | with_reducible apply LeadsOut.ite
    | with_reducible refine LeadsOut.of ?_
    | with_reducible refine LeadsSeq.ok ?_
    | with_reducible refine LeadsSeq.error ?_
    | with_reducible apply LeadsSeq.ite
    | with_reducible refine State.hlVdm_from _ _ _ _ _ ?_
    | with_reducible refine hostAct_from _ _ _ _ _ _ _ (fun f s => ?_)
    | split
    | intro _

theorem State.hlPing_from {s0 : State} (n : Fin 2) (f : Frame) (s : State) (h0 : s0.Leads s) : s0.Leads (State.hlPing n f s) := by
  refine State.Leads.trans h0 ?_
  unfold State.hlPing
  repeat' first
    | with_reducible exact State.Leads.refl _
    | with_reducible exact LeadsOut.next _
    | with_reducible apply State.leads_ite
    | with_reducible refine State.reply_from _ _ _ ?_
    | with_reducible refine State.linkRefuse_from _ _ _ _ _ _ _ ?_
    | split
    | intro _

theorem execPing_from (n : Fin 2) (line : List Byte) (s : State) : LeadsOut s (execPing n line s) := by
  unfold execPing
  repeat' first
    | with_reducible exact State.Leads.refl _
    | with_reducible exact LeadsOut.next _
    | with_reducible apply State.leads_ite
    | with_reducible apply LeadsOut.ite
    | with_reducible refine LeadsOut.of ?_
    | with_reducible refine LeadsSeq.ok ?_
    | with_reducible refine LeadsSeq.error ?_
    | with_reducible apply LeadsSeq.ite
    | with_reducible refine State.hlPing_from _ _ _ ?_
    | with_reducible refine hostAct_from _ _ _ _ _ _ _ (fun f s => ?_)
    | split
    | intro _

theorem State.hlUnknown_from {s0 : State} (n : Fin 2) (type : Nat) (f : Frame) (s : State) (h0 : s0.Leads s) : s0.Leads (State.hlUnknown n type f s) := by
  refine State.Leads.trans h0 ?_
  unfold State.hlUnknown
  repeat' first
    | with_reducible exact State.Leads.refl _
    | with_reducible exact LeadsOut.next _
    | with_reducible apply State.leads_ite
    | with_reducible refine State.reply_from _ _ _ ?_
    | split
    | intro _

theorem execUnknownType_from (n : Fin 3) (line : List Byte) (s : State) : LeadsOut s (execUnknownType n line s) := by
  unfold execUnknownType
  repeat' first
    | with_reducible exact State.Leads.refl _
    | with_reducible exact LeadsOut.next _
    | simp only [State.leads_mk_eq]
    | with_reducible refine LeadsParts.same _ ?_
    | with_reducible refine LeadsParts.cellar _ _ ?_ ?_
    | with_reducible refine LeadsParts.attic _ _ ?_ ?_
    | with_reducible refine LeadsParts.porch _ _ ?_ ?_
    | with_reducible refine LeadsParts.hearth _ _ ?_ ?_
    | with_reducible refine LeadsParts.links _ _ ?_ ?_
    | with_reducible refine LeadsParts.tcs _ _ ?_ ?_
    | with_reducible exact fun k => k
    | with_reducible exact fun k => eraseRange_wf _ _ _ k
    | with_reducible exact fun k => progBytes_wf _ _ _ k
    | with_reducible exact fun k => brecWrite_wf _ _ _ k
    | exact Attic.grows_same rfl rfl
    | (simp only [List.length_map, List.length_zipIdx]; exact id)
    | with_reducible apply State.leads_ite
    | with_reducible apply LeadsOut.ite
    | with_reducible refine LeadsOut.of ?_
    | with_reducible refine LeadsSeq.ok ?_
    | with_reducible refine LeadsSeq.error ?_
    | with_reducible apply LeadsSeq.ite
    | split
    | with_reducible refine State.arrive_from _ _ _ _ (fun s => ?_) ?_
    | with_reducible refine State.hlUnknown_from _ _ _ _ ?_
    | with_reducible refine State.porchSend_from _ _ ?_
    | with_reducible refine act_from _ _ _ ?_
    | split
    | intro _
    | dsimp only

theorem State.hostRun_from {s0 : State} (n : Fin 2) (c : RxCmd) (s : State) (h0 : s0.Leads s) : s0.Leads (State.hostRun n c s) := by
  refine State.Leads.trans h0 ?_
  unfold State.hostRun
  repeat' first
    | with_reducible exact State.Leads.refl _
    | with_reducible exact LeadsOut.next _
    | simp only [State.leads_mk_eq]
    | with_reducible refine LeadsParts.same _ ?_
    | with_reducible refine LeadsParts.cellar _ _ ?_ ?_
    | with_reducible refine LeadsParts.attic _ _ ?_ ?_
    | with_reducible refine LeadsParts.porch _ _ ?_ ?_
    | with_reducible refine LeadsParts.hearth _ _ ?_ ?_
    | with_reducible refine LeadsParts.links _ _ ?_ ?_
    | with_reducible refine LeadsParts.tcs _ _ ?_ ?_
    | with_reducible exact fun k => k
    | with_reducible exact fun k => eraseRange_wf _ _ _ k
    | with_reducible exact fun k => progBytes_wf _ _ _ k
    | with_reducible exact fun k => brecWrite_wf _ _ _ k
    | exact Attic.grows_same rfl rfl
    | (simp only [List.length_map, List.length_zipIdx]; exact id)
    | with_reducible apply State.leads_ite
    | split
    | with_reducible refine State.hlRead_from _ _ _ ?_
    | with_reducible refine State.hlWrite_from _ _ _ ?_
    | with_reducible refine State.hlRmw_from _ _ _ _ ?_
    | with_reducible refine State.hlBulkRead_from _ _ _ _ ?_
    | with_reducible refine State.hlBulkWrite_from _ _ _ _ ?_
    | with_reducible refine State.hlSubscribe_from _ _ _ ?_
    | with_reducible refine State.hlSnapshot_from _ _ _ ?_
    | with_reducible refine State.hlActivate_from _ _ _ _ _ _ ?_
    | with_reducible refine State.hlAck_from _ _ _ ?_
    | with_reducible refine State.hlSetting_from _ _ _ _ _ ?_
    | with_reducible refine State.hlVdm_from _ _ _ _ _ ?_
    | with_reducible refine State.hlPing_from _ _ _ ?_
    | with_reducible refine State.hlUnknown_from _ _ _ _ ?_
    | split
    | intro _

theorem State.linkTick_from {s0 : State} (n : Fin 2) (s : State) (h0 : s0.Leads s) : s0.Leads (State.linkTick n s) := by
  refine State.Leads.trans h0 ?_
  unfold State.linkTick
  try dsimp only
  repeat' first
    | with_reducible exact State.Leads.refl _
    | with_reducible exact LeadsOut.next _
    | simp only [State.leads_mk_eq]
    | with_reducible refine LeadsParts.same _ ?_
    | with_reducible refine LeadsParts.cellar _ _ ?_ ?_
    | with_reducible refine LeadsParts.attic _ _ ?_ ?_
    | with_reducible refine LeadsParts.porch _ _ ?_ ?_
    | with_reducible refine LeadsParts.hearth _ _ ?_ ?_
    | with_reducible refine LeadsParts.links _ _ ?_ ?_
    | with_reducible refine LeadsParts.tcs _ _ ?_ ?_
    | with_reducible exact fun k => k
    | with_reducible exact fun k => eraseRange_wf _ _ _ k
    | with_reducible exact fun k => progBytes_wf _ _ _ k
    | with_reducible exact fun k => brecWrite_wf _ _ _ k
    | exact Attic.grows_same rfl rfl
    | (simp only [List.length_map, List.length_zipIdx]; exact id)
    | with_reducible apply State.leads_ite
    | split
    | with_reducible refine State.onLink_from _ _ _ ?_
    | with_reducible refine State.kickLink_from _ _ ?_
    | with_reducible refine State.hostRun_from _ _ _ ?_
    | split
    | intro _
    | dsimp only

theorem execFrameDiscard_from (n : Fin 3) (line : List Byte) (charErr lost : Bool) (s : State) : LeadsOut s (execFrameDiscard n line charErr lost s) := by
  unfold execFrameDiscard
  repeat' first
    | with_reducible exact State.Leads.refl _
    | with_reducible exact LeadsOut.next _
    | with_reducible apply State.leads_ite
    | with_reducible apply LeadsOut.ite
    | with_reducible refine LeadsOut.of ?_
    | with_reducible refine LeadsSeq.ok ?_
    | with_reducible refine LeadsSeq.error ?_
    | with_reducible apply LeadsSeq.ite
    | split
    | with_reducible refine State.countErr_from _ _ ?_
    | with_reducible refine act_from _ _ _ ?_
    | split
    | intro _
    | dsimp only

theorem execFrameAbort_from (n : Fin 3) (line : List Byte) (idle : Nat) (s : State) : LeadsOut s (execFrameAbort n line idle s) := by
  unfold execFrameAbort
  try dsimp only
  repeat' first
    | with_reducible exact State.Leads.refl _
    | with_reducible exact LeadsOut.next _
    | with_reducible apply State.leads_ite
    | with_reducible apply LeadsOut.ite
    | with_reducible refine LeadsOut.of ?_
    | with_reducible refine LeadsSeq.ok ?_
    | with_reducible refine LeadsSeq.error ?_
    | with_reducible apply LeadsSeq.ite
    | split
    | with_reducible refine State.countErr_from _ _ ?_
    | with_reducible refine act_from _ _ _ ?_
    | split
    | intro _
    | dsimp only

theorem execTimeout_from (n : Fin 2) (s : State) : LeadsOut s (execTimeout n s) := by
  unfold execTimeout
  try dsimp only
  repeat' first
    | with_reducible exact State.Leads.refl _
    | with_reducible exact LeadsOut.next _
    | simp only [State.leads_mk_eq]
    | with_reducible refine LeadsParts.same _ ?_
    | with_reducible refine LeadsParts.cellar _ _ ?_ ?_
    | with_reducible refine LeadsParts.attic _ _ ?_ ?_
    | with_reducible refine LeadsParts.porch _ _ ?_ ?_
    | with_reducible refine LeadsParts.hearth _ _ ?_ ?_
    | with_reducible refine LeadsParts.links _ _ ?_ ?_
    | with_reducible refine LeadsParts.tcs _ _ ?_ ?_
    | with_reducible exact fun k => k
    | with_reducible exact fun k => eraseRange_wf _ _ _ k
    | with_reducible exact fun k => progBytes_wf _ _ _ k
    | with_reducible exact fun k => brecWrite_wf _ _ _ k
    | exact Attic.grows_same rfl rfl
    | (simp only [List.length_map, List.length_zipIdx]; exact id)
    | with_reducible apply State.leads_ite
    | with_reducible apply LeadsOut.ite
    | with_reducible refine LeadsOut.of ?_
    | with_reducible refine LeadsSeq.ok ?_
    | with_reducible refine LeadsSeq.error ?_
    | with_reducible apply LeadsSeq.ite
    | split
    | with_reducible refine State.onLink_from _ _ _ ?_
    | with_reducible refine State.refusal_from _ _ _ _ ?_
    | with_reducible refine State.finish_from _ _ _ _ _ ?_
    | with_reducible refine act_from _ _ _ ?_
    | split
    | intro _
    | dsimp only

theorem execGo_from (s : State) : LeadsOut s (execGo s) := by
  unfold execGo
  repeat' first
    | with_reducible exact State.Leads.refl _ | with_reducible refine State.postGo_from _ ?_
    | with_reducible refine act_from _ _ _ ?_

theorem execEventSend_from (n : Fin 2) (s : State) : LeadsOut s (execEventSend n s) := by
  unfold execEventSend
  repeat' first
    | with_reducible exact State.Leads.refl _
    | with_reducible exact LeadsOut.next _
    | with_reducible apply State.leads_ite
    | with_reducible apply LeadsOut.ite
    | with_reducible refine LeadsOut.of ?_
    | with_reducible refine LeadsSeq.ok ?_
    | with_reducible refine LeadsSeq.error ?_
    | with_reducible apply LeadsSeq.ite
    | with_reducible refine State.onLink_from _ _ _ ?_
    | with_reducible refine act_from _ _ _ ?_
    | split
    | intro _
    | dsimp only

theorem execEventResend_from (n : Fin 2) (s : State) : LeadsOut s (execEventResend n s) := by
  unfold execEventResend
  repeat' first
    | with_reducible exact State.Leads.refl _
    | with_reducible exact LeadsOut.next _
    | simp only [State.leads_mk_eq]
    | with_reducible refine LeadsParts.same _ ?_
    | with_reducible refine LeadsParts.cellar _ _ ?_ ?_
    | with_reducible refine LeadsParts.attic _ _ ?_ ?_
    | with_reducible refine LeadsParts.porch _ _ ?_ ?_
    | with_reducible refine LeadsParts.hearth _ _ ?_ ?_
    | with_reducible refine LeadsParts.links _ _ ?_ ?_
    | with_reducible refine LeadsParts.tcs _ _ ?_ ?_
    | with_reducible exact fun k => k
    | with_reducible exact fun k => eraseRange_wf _ _ _ k
    | with_reducible exact fun k => progBytes_wf _ _ _ k
    | with_reducible exact fun k => brecWrite_wf _ _ _ k
    | exact Attic.grows_same rfl rfl
    | (simp only [List.length_map, List.length_zipIdx]; exact id)
    | with_reducible apply State.leads_ite
    | with_reducible apply LeadsOut.ite
    | with_reducible refine LeadsOut.of ?_
    | with_reducible refine LeadsSeq.ok ?_
    | with_reducible refine LeadsSeq.error ?_
    | with_reducible apply LeadsSeq.ite
    | with_reducible refine State.onLink_from _ _ _ ?_
    | with_reducible refine State.kickLink_from _ _ ?_
    | with_reducible refine act_from _ _ _ ?_
    | split
    | intro _
    | dsimp only

theorem execHlCtsChange_from (n : Fin 2) (level : Bool) (s : State) : LeadsOut s (execHlCtsChange n level s) := by
  unfold execHlCtsChange
  try dsimp only
  repeat' first
    | with_reducible exact State.Leads.refl _
    | with_reducible exact LeadsOut.next _
    | with_reducible apply State.leads_ite
    | with_reducible apply LeadsOut.ite
    | with_reducible refine LeadsOut.of ?_
    | with_reducible refine LeadsSeq.ok ?_
    | with_reducible refine LeadsSeq.error ?_
    | with_reducible apply LeadsSeq.ite
    | with_reducible refine State.putB_from _ _ _ ?_
    | with_reducible refine State.kickLink_from _ _ ?_
    | with_reducible refine act_from _ _ _ ?_
    | split
    | intro _
    | dsimp only

theorem execIdent_from (line : List Byte) (s : State) : LeadsOut s (execIdent line s) := by
  unfold execIdent
  repeat' first
    | with_reducible exact State.Leads.refl _
    | with_reducible exact LeadsOut.next _
    | with_reducible apply State.leads_ite
    | with_reducible apply LeadsOut.ite
    | with_reducible refine LeadsOut.of ?_
    | with_reducible refine LeadsSeq.ok ?_
    | with_reducible refine LeadsSeq.error ?_
    | with_reducible apply LeadsSeq.ite
    | with_reducible refine State.porchCmd_from _ _ _ _ _ _ _ _ _ (fun s => ?_) ?_
    | with_reducible refine porchAct_from _ _ _ _ (fun f s => ?_)
    | split
    | intro _
    | dsimp only

theorem State.openNew_from {s0 : State} (s : State) (x : Session) (jok : Bool) (h : s0.Leads s) : s0.Leads ((State.openNew s x jok).2) := by
  refine State.Leads.trans h ?_
  unfold State.openNew
  try dsimp only
  repeat' first
    | with_reducible exact State.Leads.refl _ | simp only [State.leads_mk_eq] | split
    | with_reducible refine State.commit_from _ _ _ ?_ | with_reducible refine State.refusal_from _ _ _ _ ?_
    | with_reducible refine State.endSession_from _ ?_ | with_reducible refine State.unstage_from _ _ _ ?_
    | with_reducible refine State.setSession_from _ _ ?_ | with_reducible refine State.updateKind_from _ _ _ _ _ ?_

theorem State.openAgain_from {s0 : State} (s : State) (x : Session) (h : s0.Leads s) : s0.Leads ((State.openAgain s x).2) := by
  refine State.Leads.trans h ?_
  unfold State.openAgain
  try dsimp only
  repeat' first
    | with_reducible exact State.Leads.refl _ | split | with_reducible refine State.endSession_from _ ?_
    | with_reducible refine State.setSession_from _ _ ?_ | with_reducible refine State.eraseFor_from _ _ _ ?_
    | with_reducible refine State.updateKind_from _ _ _ _ _ ?_

theorem execOpenSession_from (line : List Byte) (jok : Bool) (s : State) : LeadsOut s (execOpenSession line jok s) := by
  unfold execOpenSession
  try dsimp only
  repeat' first
    | with_reducible exact State.Leads.refl _
    | with_reducible exact LeadsOut.next _
    | simp only [State.leads_mk_eq]
    | with_reducible refine LeadsParts.same _ ?_
    | with_reducible refine LeadsParts.cellar _ _ ?_ ?_
    | with_reducible refine LeadsParts.attic _ _ ?_ ?_
    | with_reducible refine LeadsParts.porch _ _ ?_ ?_
    | with_reducible refine LeadsParts.hearth _ _ ?_ ?_
    | with_reducible refine LeadsParts.links _ _ ?_ ?_
    | with_reducible refine LeadsParts.tcs _ _ ?_ ?_
    | with_reducible exact fun k => k
    | with_reducible exact fun k => eraseRange_wf _ _ _ k
    | with_reducible exact fun k => progBytes_wf _ _ _ k
    | with_reducible exact fun k => brecWrite_wf _ _ _ k
    | exact Attic.grows_same rfl rfl
    | (simp only [List.length_map, List.length_zipIdx]; exact id)
    | with_reducible apply State.leads_ite
    | with_reducible apply LeadsOut.ite
    | with_reducible refine LeadsOut.of ?_
    | with_reducible refine LeadsSeq.ok ?_
    | with_reducible refine LeadsSeq.error ?_
    | with_reducible apply LeadsSeq.ite
    | split
    | with_reducible refine State.porchCmd_from _ _ _ _ _ _ _ _ _ (fun s => ?_) ?_
    | with_reducible refine State.refusal_from _ _ _ _ ?_
    | with_reducible refine State.openAgain_from _ _ ?_
    | with_reducible refine State.openNew_from _ _ _ ?_
    | with_reducible refine porchAct_from _ _ _ _ (fun f s => ?_)
    | split
    | intro _
    | dsimp only

theorem State.nextReply_from {s0 : State} (s : State) (status next : Nat) (h : s0.Leads s) : s0.Leads ((State.nextReply s status next).2) := by
  refine State.Leads.trans h ?_
  unfold State.nextReply
  repeat' with_reducible exact State.Leads.refl _

theorem State.writeChunk_from {s0 : State} (s : State) (x : Session) (b : List Byte) (wr : Bool) (bad : Option Nat) (jok : Bool) (h : s0.Leads s) : s0.Leads ((State.writeChunk s x b wr bad jok).2) := by
  refine State.Leads.trans h ?_
  unfold State.writeChunk
  try dsimp only
  repeat' first
    | with_reducible refine State.leads_foldl _ _ _ _ ?_ ?_ | with_reducible exact State.Leads.refl _
    | simp only [State.leads_mk_eq] | with_reducible refine LeadsParts.cellar _ _ ?_ ?_
    | (with_reducible exact fun k => eraseRange_wf _ _ _ k) | (with_reducible exact fun k => progBytes_wf _ _ _ k) | split
    | with_reducible refine State.eraseFor_from _ _ _ ?_ | with_reducible refine State.progCut_from _ _ _ ?_
    | with_reducible refine State.nextReply_from _ _ _ ?_ | with_reducible refine State.commit_from _ _ _ ?_
    | with_reducible refine State.setSession_from _ _ ?_ | intro _

end Sys2Proof.Machine
end

