-- ==== Sys2Proof/Laws/LeadsF.lean ====
section
/-! SUPPORT. Laws/LeadsF.lean: what the operations and the commands of these files keep: Porch, SeqOps, Seq, SeqMem, SeqSys, Tick, Timers, TwoWire. -/

namespace Sys2Proof.Machine

theorem execChunk_from (line : List Byte) (wr : Bool) (bad : Option Nat) (jok : Bool) (s : State) : LeadsOut s (execChunk line wr bad jok s) := by
  unfold execChunk
  try dsimp only
  repeat' first
    | with_reducible exact State.Leads.refl _
    | with_reducible exact LeadsOut.next _
    | simp only [State.leads_mk_eq]
    | with_reducible refine LeadsParts.same _ ?_
    | with_reducible refine LeadsParts.cellar _ _ ?_ ?_
    | with_reducible refine LeadsParts.attic _ _ ?_ ?_
    | with_reducible refine LeadsParts.porch _ _ ?_ ?_
    | with_reducible refine LeadsParts.hearth _ _ ?_ ?_
    | with_reducible refine LeadsParts.links _ _ ?_ ?_
    | with_reducible refine LeadsParts.tcs _ _ ?_ ?_
    | with_reducible exact fun k => k
    | with_reducible exact fun k => eraseRange_wf _ _ _ k
    | with_reducible exact fun k => progBytes_wf _ _ _ k
    | with_reducible exact fun k => brecWrite_wf _ _ _ k
    | exact Attic.grows_same rfl rfl
    | (simp only [List.length_map, List.length_zipIdx]; exact id)
    | with_reducible apply State.leads_ite
    | with_reducible apply LeadsOut.ite
    | with_reducible refine LeadsOut.of ?_
    | with_reducible refine LeadsSeq.ok ?_
    | with_reducible refine LeadsSeq.error ?_
    | with_reducible apply LeadsSeq.ite
    | split
    | with_reducible refine State.porchCmd_from _ _ _ _ _ _ _ _ _ (fun s => ?_) ?_
    | with_reducible refine State.refusal_from _ _ _ _ ?_
    | with_reducible refine State.heardSession_from _ ?_
    | with_reducible refine State.nextReply_from _ _ _ ?_
    | with_reducible refine State.onPorch_from _ _ ?_ ?_
    | with_reducible refine State.off_from _ _ ?_
    | with_reducible refine State.put_from _ _ _ ?_
    | with_reducible refine State.verifyStart_from _ ?_
    | with_reducible refine State.verifyEnd_from _ _ _ ?_
    | with_reducible refine State.writeChunk_from _ _ _ _ _ _ ?_
    | with_reducible refine porchAct_from _ _ _ _ (fun f s => ?_)
    | split
    | intro _
    | dsimp only

theorem State.stage_from {s0 : State} (s : State) (x : Session) (jok : Bool) (h : s0.Leads s) : s0.Leads ((State.stage s x jok).2) := by
  refine State.Leads.trans h ?_
  unfold State.stage
  try dsimp only
  repeat' first
    | with_reducible exact State.Leads.refl _ | simp only [State.leads_mk_eq]
    | with_reducible refine State.commit_from _ _ _ ?_ | with_reducible refine State.onPorch_from _ _ ?_ ?_
    | with_reducible refine State.showStaged_from _ ?_ | with_reducible refine State.endSession_from _ ?_
    | with_reducible refine State.updateKind_from _ _ _ _ _ ?_ | (simp only [setAt, List.length_set]; assumption) | split
    | intro _

theorem State.recordWritten_from {s0 : State} (s : State) (x : Session) (ok : Bool) (h : s0.Leads s) : s0.Leads (State.recordWritten s x ok) := by
  refine State.Leads.trans h ?_
  unfold State.recordWritten
  try dsimp only
  repeat' first
    | with_reducible exact State.Leads.refl _ | simp only [State.leads_mk_eq] | split
    | with_reducible refine State.writeBrec_from _ _ _ _ _ _ ?_

theorem execFinish_from (line : List Byte) (jok recOk : Bool) (s : State) : LeadsOut s (execFinish line jok recOk s) := by
  unfold execFinish
  try dsimp only
  repeat' first
    | with_reducible exact State.Leads.refl _
    | with_reducible exact LeadsOut.next _
    | simp only [State.leads_mk_eq]
    | with_reducible refine LeadsParts.same _ ?_
    | with_reducible refine LeadsParts.cellar _ _ ?_ ?_
    | with_reducible refine LeadsParts.attic _ _ ?_ ?_
    | with_reducible refine LeadsParts.porch _ _ ?_ ?_
    | with_reducible refine LeadsParts.hearth _ _ ?_ ?_
    | with_reducible refine LeadsParts.links _ _ ?_ ?_
    | with_reducible refine LeadsParts.tcs _ _ ?_ ?_
    | with_reducible exact fun k => k
    | with_reducible exact fun k => eraseRange_wf _ _ _ k
    | with_reducible exact fun k => progBytes_wf _ _ _ k
    | with_reducible exact fun k => brecWrite_wf _ _ _ k
    | exact Attic.grows_same rfl rfl
    | (simp only [List.length_map, List.length_zipIdx]; exact id)
    | with_reducible apply State.leads_ite
    | with_reducible apply LeadsOut.ite
    | with_reducible refine LeadsOut.of ?_
    | with_reducible refine LeadsSeq.ok ?_
    | with_reducible refine LeadsSeq.error ?_
    | with_reducible apply LeadsSeq.ite
    | split
    | with_reducible refine State.porchCmd_from _ _ _ _ _ _ _ _ _ (fun s => ?_) ?_
    | with_reducible refine State.heardSession_from _ ?_
    | with_reducible refine State.endSession_from _ ?_
    | with_reducible refine State.recordWritten_from _ _ _ ?_
    | with_reducible refine State.setSession_from _ _ ?_
    | with_reducible refine State.stage_from _ _ _ ?_
    | with_reducible refine State.chipReset_from _ _ ?_
    | with_reducible refine State.onPorch_from _ _ ?_ ?_
    | with_reducible refine porchAct_from _ _ _ _ (fun f s => ?_)
    | split
    | intro _
    | dsimp only

theorem execPorchAbort_from (line : List Byte) (s : State) : LeadsOut s (execPorchAbort line s) := by
  unfold execPorchAbort
  repeat' first
    | with_reducible exact State.Leads.refl _
    | with_reducible exact LeadsOut.next _
    | simp only [State.leads_mk_eq]
    | with_reducible refine LeadsParts.same _ ?_
    | with_reducible refine LeadsParts.cellar _ _ ?_ ?_
    | with_reducible refine LeadsParts.attic _ _ ?_ ?_
    | with_reducible refine LeadsParts.porch _ _ ?_ ?_
    | with_reducible refine LeadsParts.hearth _ _ ?_ ?_
    | with_reducible refine LeadsParts.links _ _ ?_ ?_
    | with_reducible refine LeadsParts.tcs _ _ ?_ ?_
    | with_reducible exact fun k => k
    | with_reducible exact fun k => eraseRange_wf _ _ _ k
    | with_reducible exact fun k => progBytes_wf _ _ _ k
    | with_reducible exact fun k => brecWrite_wf _ _ _ k
    | exact Attic.grows_same rfl rfl
    | (simp only [List.length_map, List.length_zipIdx]; exact id)
    | with_reducible apply State.leads_ite
    | with_reducible apply LeadsOut.ite
    | with_reducible refine LeadsOut.of ?_
    | with_reducible refine LeadsSeq.ok ?_
    | with_reducible refine LeadsSeq.error ?_
    | with_reducible apply LeadsSeq.ite
    | split
    | with_reducible refine State.porchCmd_from _ _ _ _ _ _ _ _ _ (fun s => ?_) ?_
    | with_reducible refine State.endSession_from _ ?_
    | with_reducible refine State.unstage_from _ _ _ ?_
    | with_reducible refine porchAct_from _ _ _ _ (fun f s => ?_)
    | split
    | intro _
    | dsimp only

theorem execPorchStatus_from (line : List Byte) (s : State) : LeadsOut s (execPorchStatus line s) := by
  unfold execPorchStatus
  repeat' first
    | with_reducible exact State.Leads.refl _
    | with_reducible exact LeadsOut.next _
    | with_reducible apply State.leads_ite
    | with_reducible apply LeadsOut.ite
    | with_reducible refine LeadsOut.of ?_
    | with_reducible refine LeadsSeq.ok ?_
    | with_reducible refine LeadsSeq.error ?_
    | with_reducible apply LeadsSeq.ite
    | with_reducible refine State.porchCmd_from _ _ _ _ _ _ _ _ _ (fun s => ?_) ?_
    | with_reducible refine porchAct_from _ _ _ _ (fun f s => ?_)
    | split
    | intro _
    | dsimp only

theorem execPorchActivate_from (line : List Byte) (recOk : Bool) (s : State) : LeadsOut s (execPorchActivate line recOk s) := by
  unfold execPorchActivate
  try dsimp only
  repeat' first
    | with_reducible exact State.Leads.refl _
    | with_reducible exact LeadsOut.next _
    | with_reducible apply State.leads_ite
    | with_reducible apply LeadsOut.ite
    | with_reducible refine LeadsOut.of ?_
    | with_reducible refine LeadsSeq.ok ?_
    | with_reducible refine LeadsSeq.error ?_
    | with_reducible apply LeadsSeq.ite
    | with_reducible refine State.porchCmd_from _ _ _ _ _ _ _ _ _ (fun s => ?_) ?_
    | with_reducible refine State.activate_from _ _ _ ?_
    | with_reducible refine porchAct_from _ _ _ _ (fun f s => ?_)
    | split
    | intro _
    | dsimp only

theorem execSessionLost_from (plan slot : Bool) (s : State) : LeadsOut s (execSessionLost plan slot s) := by
  unfold execSessionLost
  try dsimp only
  repeat' first
    | with_reducible exact State.Leads.refl _ | split | with_reducible refine State.endSession_from _ ?_
    | with_reducible refine State.jDelete_from _ _ _ ?_ | with_reducible refine State.updateKind_from _ _ _ _ _ ?_
    | with_reducible refine act_from _ _ _ ?_

theorem State.activating_from {s0 : State} (s : State) (h : s0.Leads s) : s0.Leads (State.activating s) := by
  refine State.Leads.trans h ?_
  unfold State.activating
  try dsimp only
  repeat' first
    | with_reducible exact State.Leads.refl _ | simp only [State.leads_mk_eq] | with_reducible refine LeadsParts.same _ ?_
    | split | with_reducible refine State.updateStaged_from _ _ _ ?_ | with_reducible refine State.jCommit_from _ _ ?_
    | with_reducible refine State.chipReset_from _ _ ?_

theorem execActivationEvaluation_from (means : List Nat) (s : State) : LeadsOut s (execActivationEvaluation means s) := by
  unfold execActivationEvaluation
  try dsimp only
  repeat' first
    | with_reducible exact State.Leads.refl _ | simp only [State.leads_mk_eq] | (with_reducible exact fun k => k)
    | with_reducible apply State.leads_ite | with_reducible refine State.onPorch_from _ _ ?_ ?_
    | with_reducible refine State.on_from _ _ ?_ | with_reducible refine State.updateStaged_from _ _ _ ?_
    | with_reducible refine State.activating_from _ ?_ | with_reducible refine act_from _ _ _ ?_ | intro _

theorem execExpired_from (recOk : Bool) (s : State) : LeadsOut s (execExpired recOk s) := by
  unfold execExpired
  repeat' first
    | with_reducible exact State.Leads.refl _ | with_reducible apply State.leads_ite
    | with_reducible refine State.recordUse_from _ _ ?_ | with_reducible refine State.unschedule_from _ ?_
    | with_reducible refine State.updateStaged_from _ _ _ ?_ | with_reducible refine act_from _ _ _ ?_

theorem execActivationPeerReset_from (s : State) : LeadsOut s (execActivationPeerReset s) := by
  unfold execActivationPeerReset
  repeat' first
    | with_reducible exact State.Leads.refl _ | with_reducible refine State.chipReset_from _ _ ?_
    | with_reducible refine act_from _ _ _ ?_

theorem State.advanceKind_from {s0 : State} (s : State) (kind : Nat) (vpp vdd : Bool) (h : s0.Leads s) : s0.Leads (State.advanceKind s kind vpp vdd) := by
  refine State.Leads.trans h ?_
  unfold State.advanceKind
  try dsimp only
  repeat' first
    | with_reducible exact State.Leads.refl _ | with_reducible apply State.leads_ite
    | with_reducible refine State.fuseEnd_from _ _ _ _ ?_ | with_reducible refine State.fuseResult_from _ _ _ _ ?_
    | with_reducible refine State.updateUse_from _ _ _ _ ?_

theorem State.advanceKinds_from {s0 : State} (s : State) (kinds : Nat) (vpp vdd : Bool) (h : s0.Leads s) : s0.Leads (State.advanceKinds s kinds vpp vdd) := by
  refine State.Leads.trans h ?_
  unfold State.advanceKinds
  try dsimp only
  repeat' first
    | with_reducible exact State.Leads.refl _ | simp only [State.leads_mk_eq] | (with_reducible exact fun k => k)
    | with_reducible apply State.leads_ite | with_reducible refine State.advanceKind_from _ _ _ _ ?_
    | with_reducible refine State.setLocks_from _ _ ?_ | with_reducible refine State.onPorch_from _ _ ?_ ?_ | intro _

theorem State.unstageKinds_from {s0 : State} (s : State) (kinds : Nat) (h : s0.Leads s) : s0.Leads (State.unstageKinds s kinds) := by
  refine State.Leads.trans h ?_
  unfold State.unstageKinds
  repeat' first
    | with_reducible refine State.leads_foldl _ _ _ _ ?_ ?_ | with_reducible exact State.Leads.refl _
    | with_reducible apply State.leads_ite | split | with_reducible refine State.unstage_from _ _ _ ?_ | intro _

theorem execConfirmed_from (recOk vpp vdd : Bool) (s : State) : LeadsOut s (execConfirmed recOk vpp vdd s) := by
  unfold execConfirmed
  try dsimp only
  repeat' first
    | with_reducible exact State.Leads.refl _ | split | with_reducible refine State.advanceKinds_from _ _ _ _ ?_
    | with_reducible refine State.recordUse_from _ _ ?_ | with_reducible refine State.updateUse_from _ _ _ _ ?_
    | with_reducible refine State.unstageKinds_from _ _ ?_ | with_reducible refine State.off_from _ _ ?_
    | with_reducible refine act_from _ _ _ ?_

theorem State.returnNow_from {s0 : State} (s : State) (case' : Nat) (h : s0.Leads s) : s0.Leads (State.returnNow s case') := by
  refine State.Leads.trans h ?_
  unfold State.returnNow
  try dsimp only
  repeat' first
    | with_reducible exact State.Leads.refl _ | simp only [State.leads_mk_eq] | split
    | with_reducible refine State.writeBrec_from _ _ _ _ _ _ ?_ | with_reducible refine State.commit_from _ _ _ ?_
    | with_reducible refine State.unstageKinds_from _ _ ?_ | with_reducible refine State.off_from _ _ ?_

theorem execReverted_from (recOk : Bool) (s : State) : LeadsOut s (execReverted recOk s) := by
  unfold execReverted
  try dsimp only
  repeat' first
    | with_reducible exact State.Leads.refl _ | simp only [State.leads_mk_eq] | (with_reducible exact fun k => k) | split
    | with_reducible refine State.onPorch_from _ _ ?_ ?_ | with_reducible refine State.updateUse_from _ _ _ _ ?_
    | with_reducible refine State.writeBrec_from _ _ _ _ _ _ ?_ | with_reducible refine State.returnNow_from _ _ ?_
    | with_reducible refine State.chipReset_from _ _ ?_ | with_reducible refine act_from _ _ _ ?_ | intro _

theorem execSettingReset_from (s : State) : LeadsOut s (execSettingReset s) := by
  unfold execSettingReset
  try dsimp only
  repeat' first
    | with_reducible exact State.Leads.refl _ | simp only [State.leads_mk_eq] | (with_reducible exact fun k => k) | split
    | with_reducible refine State.onPorch_from _ _ ?_ ?_ | with_reducible refine State.commit_from _ _ _ ?_
    | with_reducible refine State.fwPost_from _ _ _ ?_ | with_reducible refine act_from _ _ _ ?_ | intro _

theorem State.setRg_from {s0 : State} (s : State) (c : CoreId) (i : Fin 16) (v : Word) (h : s0.Leads s) : s0.Leads (State.setRg s c i v) := by
  refine State.Leads.trans h ?_
  unfold State.setRg
  repeat' first
    | with_reducible exact State.Leads.refl _ | with_reducible refine State.onCoreOf_from _ _ _ ?_

theorem State.setPc_from {s0 : State} (s : State) (c : CoreId) (v : Word) (h : s0.Leads s) : s0.Leads (State.setPc s c v) := by
  refine State.Leads.trans h ?_
  unfold State.setPc
  repeat' first
    | with_reducible exact State.Leads.refl _ | with_reducible refine State.onCoreOf_from _ _ _ ?_

theorem State.trap_from {s0 : State} (s : State) (c : CoreId) (code : Nat) (h : s0.Leads s) : s0.Leads (State.trap s c code) := by
  refine State.Leads.trans h ?_
  unfold State.trap
  repeat' first
    | with_reducible exact State.Leads.refl _ | simp only [State.leads_mk_eq]
    | with_reducible refine State.onCoreOf_from _ _ _ ?_

theorem State.stepEnd_from {s0 : State} (s : State) (c : CoreId) (h : s0.Leads s) : s0.Leads (State.stepEnd s c) := by
  refine State.Leads.trans h ?_
  unfold State.stepEnd
  repeat' first
    | with_reducible exact State.Leads.refl _ | with_reducible apply State.leads_ite
    | with_reducible refine State.haltCore_from _ _ _ _ ?_

theorem State.instr_from {s0 : State} (s : State) (c : CoreId) (ill : Bool) (cls : RepClass) (f : Word → State → SeqOut)
    (k : ∀ w t, LeadsSeq t (f w t)) (h : s0.Leads s) : s0.Leads (State.instr s c ill cls f) := by
  refine h.trans ?_
  unfold State.instr
  extract_lets z r
  have hr : LeadsSeq s r := by
    refine LeadsSeq.ite _ _ _ (LeadsSeq.error (.refl s)) (LeadsSeq.ite _ _ _ (LeadsSeq.error (.refl s))
      (LeadsSeq.ite _ _ _ (LeadsSeq.error (.refl s)) ?_))
    have a : s.Leads (s.onCoreOf c Core.advance) := State.onCoreOf_from _ _ _ (.refl s)
    have b := k z.pc (s.onCoreOf c Core.advance)
    split
    · rename_i t e; rw [e] at b; exact a.trans b
    · rename_i n t e; rw [e] at b; exact State.onCoreOf_from _ _ _ (a.trans b)
  clear_value r
  split
  · exact State.haltCore_from _ _ _ _ (.refl s)
  · exact State.haltCore_from _ _ _ _ (State.trap_from _ _ _ hr)
  · exact State.stepEnd_from _ _ hr
  · exact State.stepEnd_from _ _ (State.trap_from _ _ _ hr)

theorem seqAct_from (s : State) (c : CoreId) (ill : Bool) (cls : RepClass) (f : Word → State → SeqOut)
    (k : ∀ w t, LeadsSeq t (f w t)) : LeadsOut s (seqAct s c ill cls f) :=
  act_from _ _ _ (State.instr_from _ _ _ _ _ k (.refl s))

theorem State.coreSave_from (s : State) (c : CoreId) (a size : Nat) (v : Word) : LeadsSeq s (State.coreSave s c a size v) := by
  unfold State.coreSave
  extract_lets window
  refine LeadsSeq.ite _ _ _ (LeadsSeq.error (.refl s)) ?_
  split
  · refine LeadsSeq.ite _ _ _ (State.coreWrite_from _ _ _ _ _ (.refl s)) (LeadsSeq.ite _ _ _ ?_
      (LeadsSeq.ite _ _ _ (LeadsSeq.error (.refl s)) (LeadsSeq.error (.refl s))))
    exact State.onRoom_leads _ _ _ fun r k => ⟨putBytes_wf _ _ _ k.1, k.2⟩
  · split
    · exact LeadsSeq.error (.refl s)
    · exact LeadsSeq.error (.refl s)
    · exact LeadsSeq.ite _ _ _ (LeadsSeq.error (State.busStore_from _ _ _ _ _ (.refl s)))
        (State.busStore_from _ _ _ _ _ (.refl s))

theorem LeadsSeq.coreSaveE {s : State} {c : CoreId} {a size : Nat} {v : Word} {e : Nat × State}
    (h : s.coreSave c a size v = .error e) : s.Leads e.2 := by
  have k := State.coreSave_from s c a size v; rw [h] at k; exact k
theorem LeadsSeq.coreSaveO {s t : State} {c : CoreId} {a size : Nat} {v : Word} (h : s.coreSave c a size v = .ok t) :
    s.Leads t := by
  have k := State.coreSave_from s c a size v; rw [h] at k; exact k
/-- What a load answers. -/
def LeadsLoad (s : State) (o : Except (Nat × State) (Word × State)) : Prop :=
  match o with | .error e => s.Leads e.2 | .ok x => s.Leads x.2
theorem LeadsLoad.ite {s : State} (c : Prop) [Decidable c] (a b : Except (Nat × State) (Word × State))
    (h1 : LeadsLoad s a) (h2 : LeadsLoad s b) : LeadsLoad s (if c then a else b) := by split <;> assumption
theorem LeadsLoad.ok {s t : State} (w : Word) (h : s.Leads t) : LeadsLoad s (.ok (w, t)) := h
theorem LeadsLoad.error {s t : State} (n : Nat) (h : s.Leads t) : LeadsLoad s (.error (n, t)) := h
theorem State.coreLoad_cases (s : State) (c : CoreId) (a size : Nat) : LeadsLoad s (s.coreLoad c a size) := by
  have h := State.Leads.refl s
  unfold State.coreLoad
  refine LeadsLoad.ite _ _ _ (.error _ h) ?_
  split
  · exact LeadsLoad.ite _ _ _ (.ok _ h) (LeadsLoad.ite _ _ _ (.ok _ h) (LeadsLoad.ite _ _ _ (.ok _ h) (.error _ h)))
  · exact LeadsLoad.ite _ _ _ (.error _ (State.busLoad_from _ _ _ _ h)) (.ok _ (State.busLoad_from _ _ _ _ h))
theorem LeadsSeq.coreLoadE {s : State} {c : CoreId} {a size : Nat} {e : Nat × State}
    (h : s.coreLoad c a size = .error e) : s.Leads e.2 := by
  have k := State.coreLoad_cases s c a size; rw [h] at k; exact k
theorem LeadsSeq.coreLoadO {s t : State} {c : CoreId} {a size : Nat} {w : Word}
    (h : s.coreLoad c a size = .ok (w, t)) : s.Leads t := by
  have k := State.coreLoad_cases s c a size; rw [h] at k; exact k
theorem aluAct_from (s : State) (c : CoreId) (cls : RepClass) (ill : Bool) (rd : Fin 16) (v : Core → Word) : LeadsOut s (aluAct s c cls ill rd v) := by
  unfold aluAct
  repeat' first
    | with_reducible exact State.Leads.refl _ | with_reducible refine LeadsSeq.ok ?_
    | with_reducible refine State.setRg_from _ _ _ _ ?_ | (with_reducible refine seqAct_from _ _ _ _ _ (fun w t => ?_))

theorem rAct_from (s : State) (c : CoreId) (cls : RepClass) (rd ra rb : Fin 16) (z : BitVec 14) (f : Word → Word → Word) : LeadsOut s (rAct s c cls rd ra rb z f) := by
  unfold rAct
  repeat' with_reducible refine aluAct_from _ _ _ _ _ _

theorem iAct_from (s : State) (c : CoreId) (rd ra : Fin 16) (imm : Word) (f : Word → Word → Word) : LeadsOut s (iAct s c rd ra imm f) := by
  unfold iAct
  repeat' with_reducible refine aluAct_from _ _ _ _ _ _

theorem shiftAct_from (s : State) (c : CoreId) (rd ra : Fin 16) (imm : BitVec 18) (f : Word → Nat → Word) : LeadsOut s (shiftAct s c rd ra imm f) := by
  unfold shiftAct
  repeat' with_reducible refine aluAct_from _ _ _ _ _ _

theorem execAdd_from (c : CoreId) (rd ra rb : Fin 16) (z : BitVec 14) (s : State) : LeadsOut s (execAdd c rd ra rb z s) := by
  unfold execAdd
  repeat' with_reducible refine rAct_from _ _ _ _ _ _ _ _

theorem execSub_from (c : CoreId) (rd ra rb : Fin 16) (z : BitVec 14) (s : State) : LeadsOut s (execSub c rd ra rb z s) := by
  unfold execSub
  repeat' with_reducible refine rAct_from _ _ _ _ _ _ _ _

theorem execAnd_from (c : CoreId) (rd ra rb : Fin 16) (z : BitVec 14) (s : State) : LeadsOut s (execAnd c rd ra rb z s) := by
  unfold execAnd
  repeat' with_reducible refine rAct_from _ _ _ _ _ _ _ _

theorem execOr_from (c : CoreId) (rd ra rb : Fin 16) (z : BitVec 14) (s : State) : LeadsOut s (execOr c rd ra rb z s) := by
  unfold execOr
  repeat' with_reducible refine rAct_from _ _ _ _ _ _ _ _

theorem execXor_from (c : CoreId) (rd ra rb : Fin 16) (z : BitVec 14) (s : State) : LeadsOut s (execXor c rd ra rb z s) := by
  unfold execXor
  repeat' with_reducible refine rAct_from _ _ _ _ _ _ _ _

theorem execSll_from (c : CoreId) (rd ra rb : Fin 16) (z : BitVec 14) (s : State) : LeadsOut s (execSll c rd ra rb z s) := by
  unfold execSll
  repeat' with_reducible refine rAct_from _ _ _ _ _ _ _ _

theorem execSrl_from (c : CoreId) (rd ra rb : Fin 16) (z : BitVec 14) (s : State) : LeadsOut s (execSrl c rd ra rb z s) := by
  unfold execSrl
  repeat' with_reducible refine rAct_from _ _ _ _ _ _ _ _

theorem execSra_from (c : CoreId) (rd ra rb : Fin 16) (z : BitVec 14) (s : State) : LeadsOut s (execSra c rd ra rb z s) := by
  unfold execSra
  repeat' with_reducible refine rAct_from _ _ _ _ _ _ _ _

theorem execMul_from (c : CoreId) (rd ra rb : Fin 16) (z : BitVec 14) (s : State) : LeadsOut s (execMul c rd ra rb z s) := by
  unfold execMul
  repeat' with_reducible refine rAct_from _ _ _ _ _ _ _ _

theorem execMulh_from (c : CoreId) (rd ra rb : Fin 16) (z : BitVec 14) (s : State) : LeadsOut s (execMulh c rd ra rb z s) := by
  unfold execMulh
  repeat' with_reducible refine rAct_from _ _ _ _ _ _ _ _

theorem execMulhu_from (c : CoreId) (rd ra rb : Fin 16) (z : BitVec 14) (s : State) : LeadsOut s (execMulhu c rd ra rb z s) := by
  unfold execMulhu
  repeat' with_reducible refine rAct_from _ _ _ _ _ _ _ _

theorem execDivu_from (c : CoreId) (rd ra rb : Fin 16) (z : BitVec 14) (s : State) : LeadsOut s (execDivu c rd ra rb z s) := by
  unfold execDivu
  repeat' with_reducible refine rAct_from _ _ _ _ _ _ _ _

theorem execRemu_from (c : CoreId) (rd ra rb : Fin 16) (z : BitVec 14) (s : State) : LeadsOut s (execRemu c rd ra rb z s) := by
  unfold execRemu
  repeat' with_reducible refine rAct_from _ _ _ _ _ _ _ _

theorem execMinu_from (c : CoreId) (rd ra rb : Fin 16) (z : BitVec 14) (s : State) : LeadsOut s (execMinu c rd ra rb z s) := by
  unfold execMinu
  repeat' with_reducible refine rAct_from _ _ _ _ _ _ _ _

theorem execMaxu_from (c : CoreId) (rd ra rb : Fin 16) (z : BitVec 14) (s : State) : LeadsOut s (execMaxu c rd ra rb z s) := by
  unfold execMaxu
  repeat' with_reducible refine rAct_from _ _ _ _ _ _ _ _

theorem execAddi_from (c : CoreId) (rd ra : Fin 16) (imm : BitVec 18) (s : State) : LeadsOut s (execAddi c rd ra imm s) := by
  unfold execAddi
  repeat' with_reducible refine iAct_from _ _ _ _ _ _

theorem execAndi_from (c : CoreId) (rd ra : Fin 16) (imm : BitVec 18) (s : State) : LeadsOut s (execAndi c rd ra imm s) := by
  unfold execAndi
  repeat' with_reducible refine iAct_from _ _ _ _ _ _

theorem execOri_from (c : CoreId) (rd ra : Fin 16) (imm : BitVec 18) (s : State) : LeadsOut s (execOri c rd ra imm s) := by
  unfold execOri
  repeat' with_reducible refine iAct_from _ _ _ _ _ _

theorem execXori_from (c : CoreId) (rd ra : Fin 16) (imm : BitVec 18) (s : State) : LeadsOut s (execXori c rd ra imm s) := by
  unfold execXori
  repeat' with_reducible refine iAct_from _ _ _ _ _ _

theorem execSlli_from (c : CoreId) (rd ra : Fin 16) (imm : BitVec 18) (s : State) : LeadsOut s (execSlli c rd ra imm s) := by
  unfold execSlli
  repeat' with_reducible refine shiftAct_from _ _ _ _ _ _

theorem execSrli_from (c : CoreId) (rd ra : Fin 16) (imm : BitVec 18) (s : State) : LeadsOut s (execSrli c rd ra imm s) := by
  unfold execSrli
  repeat' with_reducible refine shiftAct_from _ _ _ _ _ _

theorem execSrai_from (c : CoreId) (rd ra : Fin 16) (imm : BitVec 18) (s : State) : LeadsOut s (execSrai c rd ra imm s) := by
  unfold execSrai
  repeat' with_reducible refine shiftAct_from _ _ _ _ _ _

theorem execLui_from (c : CoreId) (rd : Fin 16) (imm : BitVec 22) (s : State) : LeadsOut s (execLui c rd imm s) := by
  unfold execLui
  repeat' with_reducible refine aluAct_from _ _ _ _ _ _

theorem execCeq_from (c : CoreId) (rd ra rb : Fin 16) (z : BitVec 14) (s : State) : LeadsOut s (execCeq c rd ra rb z s) := by
  unfold execCeq
  repeat' with_reducible refine rAct_from _ _ _ _ _ _ _ _

theorem execCne_from (c : CoreId) (rd ra rb : Fin 16) (z : BitVec 14) (s : State) : LeadsOut s (execCne c rd ra rb z s) := by
  unfold execCne
  repeat' with_reducible refine rAct_from _ _ _ _ _ _ _ _

theorem execClt_from (c : CoreId) (rd ra rb : Fin 16) (z : BitVec 14) (s : State) : LeadsOut s (execClt c rd ra rb z s) := by
  unfold execClt
  repeat' with_reducible refine rAct_from _ _ _ _ _ _ _ _

theorem execCltu_from (c : CoreId) (rd ra rb : Fin 16) (z : BitVec 14) (s : State) : LeadsOut s (execCltu c rd ra rb z s) := by
  unfold execCltu
  repeat' with_reducible refine rAct_from _ _ _ _ _ _ _ _

theorem execCge_from (c : CoreId) (rd ra rb : Fin 16) (z : BitVec 14) (s : State) : LeadsOut s (execCge c rd ra rb z s) := by
  unfold execCge
  repeat' with_reducible refine rAct_from _ _ _ _ _ _ _ _

theorem execCgeu_from (c : CoreId) (rd ra rb : Fin 16) (z : BitVec 14) (s : State) : LeadsOut s (execCgeu c rd ra rb z s) := by
  unfold execCgeu
  repeat' with_reducible refine rAct_from _ _ _ _ _ _ _ _

theorem execCeqi_from (c : CoreId) (rd ra : Fin 16) (imm : BitVec 18) (s : State) : LeadsOut s (execCeqi c rd ra imm s) := by
  unfold execCeqi
  repeat' with_reducible refine iAct_from _ _ _ _ _ _

theorem execCnei_from (c : CoreId) (rd ra : Fin 16) (imm : BitVec 18) (s : State) : LeadsOut s (execCnei c rd ra imm s) := by
  unfold execCnei
  repeat' with_reducible refine iAct_from _ _ _ _ _ _

theorem execClti_from (c : CoreId) (rd ra : Fin 16) (imm : BitVec 18) (s : State) : LeadsOut s (execClti c rd ra imm s) := by
  unfold execClti
  repeat' with_reducible refine iAct_from _ _ _ _ _ _

theorem execCltui_from (c : CoreId) (rd ra : Fin 16) (imm : BitVec 18) (s : State) : LeadsOut s (execCltui c rd ra imm s) := by
  unfold execCltui
  repeat' with_reducible refine iAct_from _ _ _ _ _ _

theorem execCgei_from (c : CoreId) (rd ra : Fin 16) (imm : BitVec 18) (s : State) : LeadsOut s (execCgei c rd ra imm s) := by
  unfold execCgei
  repeat' with_reducible refine iAct_from _ _ _ _ _ _

theorem execCgeui_from (c : CoreId) (rd ra : Fin 16) (imm : BitVec 18) (s : State) : LeadsOut s (execCgeui c rd ra imm s) := by
  unfold execCgeui
  repeat' with_reducible refine iAct_from _ _ _ _ _ _

theorem branchAct_from (s : State) (c : CoreId) (ra : Fin 16) (off : BitVec 22) (taken : Word → Bool) : LeadsOut s (branchAct s c ra off taken) := by
  unfold branchAct
  repeat' first
    | with_reducible exact State.Leads.refl _ | with_reducible apply State.leads_ite | with_reducible refine LeadsSeq.ok ?_
    | with_reducible refine State.setPc_from _ _ _ ?_ | (with_reducible refine seqAct_from _ _ _ _ _ (fun w t => ?_))

theorem execBz_from (c : CoreId) (ra : Fin 16) (off : BitVec 22) (s : State) : LeadsOut s (execBz c ra off s) := by
  unfold execBz
  repeat' with_reducible refine branchAct_from _ _ _ _ _

theorem execBnz_from (c : CoreId) (ra : Fin 16) (off : BitVec 22) (s : State) : LeadsOut s (execBnz c ra off s) := by
  unfold execBnz
  repeat' with_reducible refine branchAct_from _ _ _ _ _

theorem execJal_from (c : CoreId) (rd : Fin 16) (imm : BitVec 22) (s : State) : LeadsOut s (execJal c rd imm s) := by
  unfold execJal
  repeat' first
    | with_reducible exact State.Leads.refl _ | with_reducible refine LeadsSeq.ok ?_
    | with_reducible refine State.setRg_from _ _ _ _ ?_ | with_reducible refine State.setPc_from _ _ _ ?_
    | (with_reducible refine seqAct_from _ _ _ _ _ (fun w t => ?_))

theorem execJalr_from (c : CoreId) (rd ra : Fin 16) (imm : BitVec 18) (s : State) : LeadsOut s (execJalr c rd ra imm s) := by
  unfold execJalr
  try dsimp only
  repeat' first
    | with_reducible exact State.Leads.refl _ | with_reducible refine LeadsSeq.ok ?_
    | with_reducible refine LeadsSeq.error ?_ | with_reducible apply LeadsSeq.ite
    | with_reducible refine State.setRg_from _ _ _ _ ?_ | with_reducible refine State.setPc_from _ _ _ ?_
    | (with_reducible refine seqAct_from _ _ _ _ _ (fun w t => ?_))

theorem loadAct_from (s : State) (c : CoreId) (rd ra : Fin 16) (imm : BitVec 18) (size : Nat) (x : Word → Word) : LeadsOut s (loadAct s c rd ra imm size x) := by
  unfold loadAct
  repeat' first
    | with_reducible refine LeadsSeq.ok ?_ | with_reducible refine LeadsSeq.error ?_ | split
    | with_reducible refine State.setRg_from _ _ _ _ ?_ | (with_reducible refine seqAct_from _ _ _ _ _ (fun w t => ?_))
    | exact LeadsSeq.coreLoadE ‹_› | exact LeadsSeq.coreLoadO ‹_›

theorem storeAct_from (s : State) (c : CoreId) (rs ra : Fin 16) (imm : BitVec 18) (size : Nat) : LeadsOut s (storeAct s c rs ra imm size) := by
  unfold storeAct
  repeat' first
    | with_reducible refine State.coreSave_from _ _ _ _ _ | (with_reducible refine seqAct_from _ _ _ _ _ (fun w t => ?_))

theorem execLb_from (c : CoreId) (rd ra : Fin 16) (imm : BitVec 18) (s : State) : LeadsOut s (execLb c rd ra imm s) := by
  unfold execLb
  repeat' with_reducible refine loadAct_from _ _ _ _ _ _ _

theorem execLbu_from (c : CoreId) (rd ra : Fin 16) (imm : BitVec 18) (s : State) : LeadsOut s (execLbu c rd ra imm s) := by
  unfold execLbu
  repeat' with_reducible refine loadAct_from _ _ _ _ _ _ _

theorem execLh_from (c : CoreId) (rd ra : Fin 16) (imm : BitVec 18) (s : State) : LeadsOut s (execLh c rd ra imm s) := by
  unfold execLh
  repeat' with_reducible refine loadAct_from _ _ _ _ _ _ _

theorem execLhu_from (c : CoreId) (rd ra : Fin 16) (imm : BitVec 18) (s : State) : LeadsOut s (execLhu c rd ra imm s) := by
  unfold execLhu
  repeat' with_reducible refine loadAct_from _ _ _ _ _ _ _

theorem execLw_from (c : CoreId) (rd ra : Fin 16) (imm : BitVec 18) (s : State) : LeadsOut s (execLw c rd ra imm s) := by
  unfold execLw
  repeat' with_reducible refine loadAct_from _ _ _ _ _ _ _

theorem execSb_from (c : CoreId) (rs ra : Fin 16) (imm : BitVec 18) (s : State) : LeadsOut s (execSb c rs ra imm s) := by
  unfold execSb
  repeat' with_reducible refine storeAct_from _ _ _ _ _ _

theorem execSh_from (c : CoreId) (rs ra : Fin 16) (imm : BitVec 18) (s : State) : LeadsOut s (execSh c rs ra imm s) := by
  unfold execSh
  repeat' with_reducible refine storeAct_from _ _ _ _ _ _

theorem execSw_from (c : CoreId) (rs ra : Fin 16) (imm : BitVec 18) (s : State) : LeadsOut s (execSw c rs ra imm s) := by
  unfold execSw
  repeat' with_reducible refine storeAct_from _ _ _ _ _ _

theorem execLwp_from (c : CoreId) (rd ra : Fin 16) (imm : BitVec 18) (s : State) : LeadsOut s (execLwp c rd ra imm s) := by
  unfold execLwp
  try dsimp only
  repeat' first
    | with_reducible refine LeadsSeq.ok ?_ | with_reducible refine LeadsSeq.error ?_ | split
    | with_reducible refine State.setRg_from _ _ _ _ ?_ | (with_reducible refine seqAct_from _ _ _ _ _ (fun w t => ?_))
    | exact LeadsSeq.coreLoadE ‹_› | exact LeadsSeq.coreLoadO ‹_›

theorem execSwp_from (c : CoreId) (rs ra : Fin 16) (imm : BitVec 18) (s : State) : LeadsOut s (execSwp c rs ra imm s) := by
  unfold execSwp
  try dsimp only
  repeat' first
    | with_reducible refine LeadsSeq.ok ?_ | with_reducible refine LeadsSeq.error ?_ | split
    | with_reducible refine State.setRg_from _ _ _ _ ?_ | (with_reducible refine seqAct_from _ _ _ _ _ (fun w t => ?_))
    | exact LeadsSeq.coreSaveE ‹_› | exact LeadsSeq.coreSaveO ‹_›

theorem execCpw_from (c : CoreId) (rd ra rb : Fin 16) (z : BitVec 14) (s : State) : LeadsOut s (execCpw c rd ra rb z s) := by
  unfold execCpw
  try dsimp only
  repeat' first
    | with_reducible exact State.Leads.refl _
    | with_reducible exact LeadsOut.next _
    | simp only [State.leads_mk_eq]
    | with_reducible refine LeadsParts.same _ ?_
    | with_reducible refine LeadsParts.cellar _ _ ?_ ?_
    | with_reducible refine LeadsParts.attic _ _ ?_ ?_
    | with_reducible refine LeadsParts.porch _ _ ?_ ?_
    | with_reducible refine LeadsParts.hearth _ _ ?_ ?_
    | with_reducible refine LeadsParts.links _ _ ?_ ?_
    | with_reducible refine LeadsParts.tcs _ _ ?_ ?_
    | with_reducible exact fun k => k
    | with_reducible exact fun k => eraseRange_wf _ _ _ k
    | with_reducible exact fun k => progBytes_wf _ _ _ k
    | with_reducible exact fun k => brecWrite_wf _ _ _ k
    | exact Attic.grows_same rfl rfl
    | (simp only [List.length_map, List.length_zipIdx]; exact id)
    | with_reducible apply State.leads_ite
    | with_reducible apply LeadsOut.ite
    | with_reducible refine LeadsOut.of ?_
    | with_reducible refine LeadsSeq.ok ?_
    | with_reducible refine LeadsSeq.error ?_
    | with_reducible apply LeadsSeq.ite
    | split
    | with_reducible refine State.coreSave_from _ _ _ _ _
    | with_reducible refine State.setRg_from _ _ _ _ ?_
    | with_reducible refine seqAct_from _ _ _ _ _ (fun w t => ?_)
    | exact LeadsSeq.coreLoadE ‹_›
    | exact LeadsSeq.coreLoadO ‹_›
    | exact LeadsSeq.coreSaveE ‹_›
    | exact LeadsSeq.coreSaveO ‹_›
    | with_reducible refine (LeadsSeq.coreLoadO (by assumption)).trans ?_
    | with_reducible refine (LeadsSeq.coreSaveO (by assumption)).trans ?_
    | split
    | intro _
    | dsimp only

theorem execRpt_from (c : CoreId) (rd ra : Fin 16) (imm : BitVec 18) (s : State) : LeadsOut s (execRpt c rd ra imm s) := by
  unfold execRpt
  repeat' first
    | with_reducible exact State.Leads.refl _ | with_reducible refine LeadsSeq.ok ?_
    | with_reducible refine State.onCoreOf_from _ _ _ ?_ | (with_reducible refine seqAct_from _ _ _ _ _ (fun w t => ?_))

theorem execRptr_from (c : CoreId) (rd ra : Fin 16) (imm : BitVec 18) (s : State) : LeadsOut s (execRptr c rd ra imm s) := by
  unfold execRptr
  repeat' first
    | with_reducible exact State.Leads.refl _ | with_reducible refine LeadsSeq.ok ?_
    | with_reducible refine State.onCoreOf_from _ _ _ ?_ | (with_reducible refine seqAct_from _ _ _ _ _ (fun w t => ?_))

theorem execRptu_from (c : CoreId) (rd ra : Fin 16) (imm : BitVec 18) (s : State) : LeadsOut s (execRptu c rd ra imm s) := by
  unfold execRptu
  repeat' first
    | with_reducible exact State.Leads.refl _ | with_reducible refine LeadsSeq.ok ?_
    | with_reducible refine LeadsSeq.error ?_ | split | with_reducible refine State.onCoreOf_from _ _ _ ?_
    | (with_reducible refine seqAct_from _ _ _ _ _ (fun w t => ?_))

theorem execWait_from (c : CoreId) (rd ra : Fin 16) (imm : BitVec 18) (s : State) : LeadsOut s (execWait c rd ra imm s) := by
  unfold execWait
  repeat' first
    | with_reducible exact State.Leads.refl _ | with_reducible refine LeadsSeq.ok ?_
    | with_reducible refine State.onCoreOf_from _ _ _ ?_ | (with_reducible refine seqAct_from _ _ _ _ _ (fun w t => ?_))

theorem execEvret_from (c : CoreId) (rd ra : Fin 16) (imm : BitVec 18) (s : State) : LeadsOut s (execEvret c rd ra imm s) := by
  unfold execEvret
  repeat' first
    | with_reducible exact State.Leads.refl _ | with_reducible refine LeadsSeq.ok ?_
    | with_reducible refine LeadsSeq.error ?_ | with_reducible apply LeadsSeq.ite
    | with_reducible refine State.onCoreOf_from _ _ _ ?_ | (with_reducible refine seqAct_from _ _ _ _ _ (fun w t => ?_))

theorem execSync_from (c : CoreId) (rd ra : Fin 16) (imm : BitVec 18) (s : State) : LeadsOut s (execSync c rd ra imm s) := by
  unfold execSync
  repeat' first
    | with_reducible exact State.Leads.refl _ | with_reducible refine LeadsSeq.ok ?_
    | (with_reducible refine seqAct_from _ _ _ _ _ (fun w t => ?_))

theorem execEventEntry_from (c : CoreId) (s : State) : LeadsOut s (execEventEntry c s) := by
  unfold execEventEntry
  try dsimp only
  repeat' first
    | with_reducible exact State.Leads.refl _ | split | with_reducible refine State.onCoreOf_from _ _ _ ?_
    | with_reducible refine State.stepEnd_from _ _ ?_ | with_reducible refine State.trap_from _ _ _ ?_
    | with_reducible refine act_from _ _ _ ?_

theorem execCommit_from (p : Fin 48) (rd ra : Fin 16) (s : State) : LeadsOut s (execCommit p rd ra s) := by
  unfold execCommit
  try dsimp only
  repeat' first
    | with_reducible exact State.Leads.refl _ | with_reducible refine LeadsSeq.ok ?_
    | with_reducible refine State.setRoom_from _ _ _ ?_ ?_ | with_reducible refine State.setRg_from _ _ _ _ ?_
    | (with_reducible refine seqAct_from _ _ _ _ _ (fun w t => ?_)) | with_reducible exact Room.Keeps.refl _
    | with_reducible refine Room.commit_from _ _ _ _ ?_

theorem execDiscard_from (p : Fin 48) (rd ra : Fin 16) (s : State) : LeadsOut s (execDiscard p rd ra s) := by
  unfold execDiscard
  repeat' first
    | with_reducible exact State.Leads.refl _ | with_reducible refine LeadsSeq.ok ?_
    | with_reducible refine State.onRoom_from _ _ _ ?_ ?_ | (with_reducible refine seqAct_from _ _ _ _ _ (fun w t => ?_))
    | with_reducible exact Room.Keeps.refl _ | with_reducible refine Room.onCore_from _ _ ?_ | intro _

theorem State.cycle_from {s0 : State} (s : State) (h : s0.Leads s) : s0.Leads ((State.cycle s).2) := by
  refine State.Leads.trans h ?_
  unfold State.cycle
  try dsimp only
  repeat' first
    | with_reducible exact State.Leads.refl _ | with_reducible refine State.free?_from _ ?_

theorem State.special_from {s0 : State} (s : State) (c : CoreId) (pc : Word) (code : Nat) (h : s0.Leads s) : s0.Leads ((State.special s c pc code).2) := by
  refine State.Leads.trans h ?_
  unfold State.special
  try dsimp only
  repeat' first
    | with_reducible exact State.Leads.refl _ | split | with_reducible refine State.cycle_from _ ?_

theorem execMfs_from (c : CoreId) (rd ra : Fin 16) (imm : BitVec 18) (s : State) : LeadsOut s (execMfs c rd ra imm s) := by
  unfold execMfs
  try dsimp only
  repeat' first
    | with_reducible exact State.Leads.refl _ | with_reducible refine LeadsSeq.ok ?_
    | with_reducible refine LeadsSeq.error ?_ | split | with_reducible refine State.special_from _ _ _ _ ?_
    | with_reducible refine State.setRg_from _ _ _ _ ?_ | (with_reducible refine seqAct_from _ _ _ _ _ (fun w t => ?_))

theorem execMts_from (c : CoreId) (rd ra : Fin 16) (imm : BitVec 18) (s : State) : LeadsOut s (execMts c rd ra imm s) := by
  unfold execMts
  try dsimp only
  repeat' first
    | with_reducible exact State.Leads.refl _ | with_reducible refine LeadsSeq.ok ?_
    | with_reducible refine LeadsSeq.error ?_ | split | with_reducible refine State.onCoreOf_from _ _ _ ?_
    | (with_reducible refine seqAct_from _ _ _ _ _ (fun w t => ?_))

theorem execHbeat_from (c : CoreId) (rd ra : Fin 16) (imm : BitVec 18) (s : State) : LeadsOut s (execHbeat c rd ra imm s) := by
  unfold execHbeat
  repeat' first
    | with_reducible exact State.Leads.refl _ | simp only [State.leads_mk_eq] | with_reducible refine LeadsParts.same _ ?_
    | with_reducible refine LeadsSeq.ok ?_ | with_reducible refine LeadsSeq.error ?_ | split
    | (with_reducible refine seqAct_from _ _ _ _ _ (fun w t => ?_))

theorem execBrk_from (c : CoreId) (rd ra : Fin 16) (imm : BitVec 18) (s : State) : LeadsOut s (execBrk c rd ra imm s) := by
  unfold execBrk
  repeat' first
    | with_reducible exact State.Leads.refl _ | with_reducible refine LeadsSeq.ok ?_
    | with_reducible refine LeadsSeq.error ?_ | with_reducible apply LeadsSeq.ite
    | with_reducible refine State.haltCore_from _ _ _ _ ?_ | (with_reducible refine seqAct_from _ _ _ _ _ (fun w t => ?_))

theorem State.panTick_from {s0 : State} (s : State) (h : s0.Leads s) : s0.Leads (State.panTick s) := by
  refine State.Leads.trans h ?_
  unfold State.panTick
  repeat' first
    | with_reducible exact State.Leads.refl _ | with_reducible apply State.leads_ite
    | with_reducible refine State.onPan_from _ _ ?_

theorem State.confTick_from {s0 : State} (s : State) (h : s0.Leads s) : s0.Leads (State.confTick s) := by
  refine State.Leads.trans h ?_
  unfold State.confTick
  try dsimp only
  repeat' first
    | with_reducible exact State.Leads.refl _ | simp only [State.leads_mk_eq] | (with_reducible exact fun k => k)
    | with_reducible refine State.onPorch_from _ _ ?_ ?_ | intro _

theorem State.tbTick_from {s0 : State} (s : State) (h : s0.Leads s) : s0.Leads (State.tbTick s) := by
  refine State.Leads.trans h ?_
  unfold State.tbTick
  repeat' first
    | with_reducible exact State.Leads.refl _ | with_reducible apply State.leads_ite
    | with_reducible refine State.setTb_from _ _ ?_ | with_reducible refine State.on_from _ _ ?_
    | with_reducible refine State.onClk_from _ _ ?_

theorem State.runTick_from {s0 : State} (s : State) (h0 : s0.Leads s) : s0.Leads (State.runTick s) := by
  refine State.Leads.trans h0 ?_
  unfold State.runTick
  try dsimp only
  repeat' first
    | with_reducible exact State.Leads.refl _
    | with_reducible exact LeadsOut.next _
    | with_reducible apply State.leads_ite
    | with_reducible refine State.tmrTicks_from _ ?_
    | with_reducible refine State.mapRooms_from _ _ ?_ ?_
    | with_reducible refine State.mapLands_from _ _ ?_
    | with_reducible refine State.panTick_from _ ?_
    | with_reducible refine State.confTick_from _ ?_
    | with_reducible exact Room.Keeps.refl _
    | simp only [Room.keeps_mk_eq]
    | with_reducible refine KeepsParts.same _ ?_
    | with_reducible refine KeepsParts.data _ _ _ ?_
    | with_reducible refine KeepsParts.code _ _ _ ?_
    | with_reducible apply Room.keeps_ite
    | with_reducible refine Room.tick_from _ _ ?_
    | with_reducible refine Room.pwmTick_from _ _ ?_
    | split
    | intro _
    | dsimp only

theorem execTick_from (s : State) : LeadsOut s (execTick s) := by
  unfold execTick
  try dsimp only
  repeat' first
    | with_reducible exact State.Leads.refl _
    | with_reducible exact LeadsOut.next _
    | simp only [State.leads_mk_eq]
    | with_reducible refine LeadsParts.same _ ?_
    | with_reducible refine LeadsParts.cellar _ _ ?_ ?_
    | with_reducible refine LeadsParts.attic _ _ ?_ ?_
    | with_reducible refine LeadsParts.porch _ _ ?_ ?_
    | with_reducible refine LeadsParts.hearth _ _ ?_ ?_
    | with_reducible refine LeadsParts.links _ _ ?_ ?_
    | with_reducible refine LeadsParts.tcs _ _ ?_ ?_
    | with_reducible exact fun k => k
    | with_reducible exact fun k => eraseRange_wf _ _ _ k
    | with_reducible exact fun k => progBytes_wf _ _ _ k
    | with_reducible exact fun k => brecWrite_wf _ _ _ k
    | exact Attic.grows_same rfl rfl
    | (simp only [List.length_map, List.length_zipIdx]; exact id)
    | with_reducible apply State.leads_ite
    | with_reducible apply LeadsOut.ite
    | with_reducible refine LeadsOut.of ?_
    | with_reducible refine LeadsSeq.ok ?_
    | with_reducible refine LeadsSeq.error ?_
    | with_reducible apply LeadsSeq.ite
    | with_reducible refine State.tbTick_from _ ?_
    | with_reducible refine State.runTick_from _ ?_
    | with_reducible refine State.jnlTick_from _ ?_
    | with_reducible refine State.linkTick_from _ _ ?_
    | with_reducible refine State.porchTick_from _ ?_
    | with_reducible refine act_from _ _ _ ?_
    | split
    | intro _
    | dsimp only

theorem execLoad_from (s : State) : LeadsOut s (execLoad s) := by
  unfold execLoad
  repeat' first
    | with_reducible exact State.Leads.refl _
    | with_reducible exact LeadsOut.next _
    | with_reducible apply State.leads_ite
    | with_reducible apply LeadsOut.ite
    | with_reducible refine LeadsOut.of ?_
    | with_reducible refine LeadsSeq.ok ?_
    | with_reducible refine LeadsSeq.error ?_
    | with_reducible apply LeadsSeq.ite
    | with_reducible refine State.loadTb_from _ ?_
    | with_reducible refine act_from _ _ _ ?_
    | split
    | intro _
    | dsimp only

theorem execTimerFire_from (k : TmrBlock) (n : Fin 8) (s : State) : LeadsOut s (execTimerFire k n s) := by
  unfold execTimerFire
  try dsimp only
  repeat' first
    | with_reducible exact State.Leads.refl _
    | with_reducible exact LeadsOut.next _
    | with_reducible apply State.leads_ite
    | with_reducible apply LeadsOut.ite
    | with_reducible refine LeadsOut.of ?_
    | with_reducible refine LeadsSeq.ok ?_
    | with_reducible refine LeadsSeq.error ?_
    | with_reducible apply LeadsSeq.ite
    | with_reducible refine State.setTmrRegs_from _ _ _ ?_
    | with_reducible refine act_from _ _ _ ?_
    | split
    | intro _
    | dsimp only

theorem execTmrCtrlWrite_from (k : TmrBlock) (n : Fin 8) (v : Word) (s : State) : LeadsOut s (execTmrCtrlWrite k n v s) := by
  unfold execTmrCtrlWrite
  repeat' first
    | with_reducible exact State.Leads.refl _
    | with_reducible exact LeadsOut.next _
    | with_reducible apply State.leads_ite
    | with_reducible apply LeadsOut.ite
    | with_reducible refine LeadsOut.of ?_
    | with_reducible refine LeadsSeq.ok ?_
    | with_reducible refine LeadsSeq.error ?_
    | with_reducible apply LeadsSeq.ite
    | with_reducible refine State.writeTmr_from _ _ _ _ _ ?_
    | with_reducible refine act_from _ _ _ ?_
    | split
    | intro _
    | dsimp only

theorem execTmrCmpWrite_from (k : TmrBlock) (n : Fin 8) (v : Word) (s : State) : LeadsOut s (execTmrCmpWrite k n v s) := by
  unfold execTmrCmpWrite
  repeat' first
    | with_reducible exact State.Leads.refl _
    | with_reducible exact LeadsOut.next _
    | with_reducible apply State.leads_ite
    | with_reducible apply LeadsOut.ite
    | with_reducible refine LeadsOut.of ?_
    | with_reducible refine LeadsSeq.ok ?_
    | with_reducible refine LeadsSeq.error ?_
    | with_reducible apply LeadsSeq.ite
    | with_reducible refine State.writeTmr_from _ _ _ _ _ ?_
    | with_reducible refine act_from _ _ _ ?_
    | split
    | intro _
    | dsimp only

theorem execTmrCntWrite_from (k : TmrBlock) (n : Fin 8) (v : Word) (s : State) : LeadsOut s (execTmrCntWrite k n v s) := by
  unfold execTmrCntWrite
  repeat' first
    | with_reducible exact State.Leads.refl _ | with_reducible refine State.writeTmr_from _ _ _ _ _ ?_
    | with_reducible refine act_from _ _ _ ?_

theorem execEnergyUpdate_from (s : State) : LeadsOut s (execEnergyUpdate s) := by
  unfold execEnergyUpdate
  repeat' first
    | with_reducible exact State.Leads.refl _ | with_reducible refine State.mapRooms_from _ _ ?_ ?_
    | with_reducible refine act_from _ _ _ ?_ | with_reducible exact Room.Keeps.refl _
    | with_reducible refine Room.addEnergy_from _ _ ?_ | split | intro _

theorem State.twWrote_from {s0 : State} (s : State) (n : Fin 4) (code : Nat) (h : s0.Leads s) : s0.Leads (State.twWrote s n code) := by
  refine State.Leads.trans h ?_
  unfold State.twWrote
  try dsimp only
  repeat' first
    | with_reducible exact State.Leads.refl _ | with_reducible apply State.leads_ite
    | with_reducible refine State.put_from _ _ _ ?_ | with_reducible refine State.countErr_from _ _ ?_

theorem State.twStart_from {s0 : State} (s : State) (n : Fin 4) (p : TwProg) (h0 : s0.Leads s) : s0.Leads (State.twStart s n p) := by
  refine State.Leads.trans h0 ?_
  unfold State.twStart
  repeat' first
    | with_reducible exact State.Leads.refl _
    | with_reducible exact LeadsOut.next _
    | simp only [State.leads_mk_eq]
    | with_reducible refine LeadsParts.same _ ?_
    | with_reducible refine LeadsParts.cellar _ _ ?_ ?_
    | with_reducible refine LeadsParts.attic _ _ ?_ ?_
    | with_reducible refine LeadsParts.porch _ _ ?_ ?_
    | with_reducible refine LeadsParts.hearth _ _ ?_ ?_
    | with_reducible refine LeadsParts.links _ _ ?_ ?_
    | with_reducible refine LeadsParts.tcs _ _ ?_ ?_
    | with_reducible exact fun k => k
    | with_reducible exact fun k => eraseRange_wf _ _ _ k
    | with_reducible exact fun k => progBytes_wf _ _ _ k
    | with_reducible exact fun k => brecWrite_wf _ _ _ k
    | exact Attic.grows_same rfl rfl
    | (simp only [List.length_map, List.length_zipIdx]; exact id)
    | with_reducible apply State.leads_ite
    | with_reducible refine State.onTw_from _ _ _ ?_
    | split
    | intro _
    | dsimp only

theorem State.twWrite_from {s0 : State} (s : State) (n : Fin 4) (e : TwEntry) (addr : Nat) (b : List Byte) (h0 : s0.Leads s) : s0.Leads (State.twWrite s n e addr b) := by
  refine State.Leads.trans h0 ?_
  unfold State.twWrite
  try dsimp only
  repeat' first
    | with_reducible exact State.Leads.refl _
    | with_reducible exact LeadsOut.next _
    | simp only [State.leads_mk_eq]
    | with_reducible refine LeadsParts.same _ ?_
    | with_reducible refine LeadsParts.cellar _ _ ?_ ?_
    | with_reducible refine LeadsParts.attic _ _ ?_ ?_
    | with_reducible refine LeadsParts.porch _ _ ?_ ?_
    | with_reducible refine LeadsParts.hearth _ _ ?_ ?_
    | with_reducible refine LeadsParts.links _ _ ?_ ?_
    | with_reducible refine LeadsParts.tcs _ _ ?_ ?_
    | with_reducible exact fun k => k
    | with_reducible exact fun k => eraseRange_wf _ _ _ k
    | with_reducible exact fun k => progBytes_wf _ _ _ k
    | with_reducible exact fun k => brecWrite_wf _ _ _ k
    | exact Attic.grows_same rfl rfl
    | (simp only [List.length_map, List.length_zipIdx]; exact id)
    | with_reducible apply State.leads_ite
    | with_reducible refine State.onTw_from _ _ _ ?_
    | with_reducible refine State.twWrote_from _ _ _ ?_
    | with_reducible refine State.twStart_from _ _ _ ?_
    | with_reducible refine State.twWords_from _ _ _ _ ?_
    | split
    | intro _
    | dsimp only

theorem State.twSend_from {s0 : State} (s : State) (n : Fin 4) (pre data : List Byte) (code : Nat) (h0 : s0.Leads s) : s0.Leads (State.twSend s n pre data code) := by
  refine State.Leads.trans h0 ?_
  unfold State.twSend
  try dsimp only
  repeat' first
    | with_reducible exact State.Leads.refl _
    | with_reducible exact LeadsOut.next _
    | simp only [State.leads_mk_eq]
    | with_reducible refine LeadsParts.same _ ?_
    | with_reducible refine LeadsParts.cellar _ _ ?_ ?_
    | with_reducible refine LeadsParts.attic _ _ ?_ ?_
    | with_reducible refine LeadsParts.porch _ _ ?_ ?_
    | with_reducible refine LeadsParts.hearth _ _ ?_ ?_
    | with_reducible refine LeadsParts.links _ _ ?_ ?_
    | with_reducible refine LeadsParts.tcs _ _ ?_ ?_
    | with_reducible exact fun k => k
    | with_reducible exact fun k => eraseRange_wf _ _ _ k
    | with_reducible exact fun k => progBytes_wf _ _ _ k
    | with_reducible exact fun k => brecWrite_wf _ _ _ k
    | exact Attic.grows_same rfl rfl
    | (simp only [List.length_map, List.length_zipIdx]; exact id)
    | with_reducible apply State.leads_ite
    | with_reducible refine State.put_from _ _ _ ?_
    | with_reducible refine State.onTw_from _ _ _ ?_
    | split
    | intro _
    | dsimp only

theorem State.twRead_from {s0 : State} (s : State) (n : Fin 4) (e : TwEntry) (addr : Nat) (bytes : List Byte) (h0 : s0.Leads s) : s0.Leads (State.twRead s n e addr bytes) := by
  refine State.Leads.trans h0 ?_
  unfold State.twRead
  try dsimp only
  repeat' first
    | with_reducible exact State.Leads.refl _
    | with_reducible exact LeadsOut.next _
    | with_reducible apply State.leads_ite
    | with_reducible refine State.twSend_from _ _ _ _ _ ?_
    | with_reducible refine State.twStart_from _ _ _ ?_
    | split
    | intro _

theorem State.twOne_from {s0 : State} (s : State) (n : Fin 4) (p : TwProg) (h0 : s0.Leads s) : s0.Leads ((State.twOne s n p).2) := by
  refine State.Leads.trans h0 ?_
  unfold State.twOne
  try dsimp only
  repeat' first
    | with_reducible exact State.Leads.refl _
    | with_reducible exact LeadsOut.next _
    | simp only [State.leads_mk_eq]
    | with_reducible refine LeadsParts.same _ ?_
    | with_reducible refine LeadsParts.cellar _ _ ?_ ?_
    | with_reducible refine LeadsParts.attic _ _ ?_ ?_
    | with_reducible refine LeadsParts.porch _ _ ?_ ?_
    | with_reducible refine LeadsParts.hearth _ _ ?_ ?_
    | with_reducible refine LeadsParts.links _ _ ?_ ?_
    | with_reducible refine LeadsParts.tcs _ _ ?_ ?_
    | with_reducible exact fun k => k
    | with_reducible exact fun k => eraseRange_wf _ _ _ k
    | with_reducible exact fun k => progBytes_wf _ _ _ k
    | with_reducible exact fun k => brecWrite_wf _ _ _ k
    | exact Attic.grows_same rfl rfl
    | (simp only [List.length_map, List.length_zipIdx]; exact id)
    | with_reducible apply State.leads_ite
    | with_reducible refine State.extRead_from _ _ _ ?_
    | with_reducible refine State.extWrite_from _ _ _ _ _ ?_
    | split
    | intro _

theorem State.twSeen_from {s0 : State} (s : State) (n : Fin 4) (addr : Nat) (h : s0.Leads s) : s0.Leads (State.twSeen s n addr) := by
  refine State.Leads.trans h ?_
  unfold State.twSeen
  repeat' first
    | with_reducible exact State.Leads.refl _ | with_reducible refine State.put_from _ _ _ ?_
    | with_reducible refine State.onTw_from _ _ _ ?_

theorem State.twBegin_from {s0 : State} (s : State) (n : Fin 4) (read : Bool) (addr : Nat) (bytes : List Byte) (h0 : s0.Leads s) : s0.Leads (State.twBegin s n read addr bytes) := by
  refine State.Leads.trans h0 ?_
  unfold State.twBegin
  repeat' first
    | with_reducible exact State.Leads.refl _
    | with_reducible exact LeadsOut.next _
    | simp only [State.leads_mk_eq]
    | with_reducible refine LeadsParts.same _ ?_
    | with_reducible refine LeadsParts.cellar _ _ ?_ ?_
    | with_reducible refine LeadsParts.attic _ _ ?_ ?_
    | with_reducible refine LeadsParts.porch _ _ ?_ ?_
    | with_reducible refine LeadsParts.hearth _ _ ?_ ?_
    | with_reducible refine LeadsParts.links _ _ ?_ ?_
    | with_reducible refine LeadsParts.tcs _ _ ?_ ?_
    | with_reducible exact fun k => k
    | with_reducible exact fun k => eraseRange_wf _ _ _ k
    | with_reducible exact fun k => progBytes_wf _ _ _ k
    | with_reducible exact fun k => brecWrite_wf _ _ _ k
    | exact Attic.grows_same rfl rfl
    | (simp only [List.length_map, List.length_zipIdx]; exact id)
    | with_reducible apply State.leads_ite
    | split
    | with_reducible refine State.twSeen_from _ _ _ ?_
    | with_reducible refine State.twRead_from _ _ _ _ _ ?_
    | with_reducible refine State.twWrite_from _ _ _ _ _ ?_
    | split
    | intro _

theorem State.twEnd_from {s0 : State} (s : State) (n : Fin 4) (p : TwProg) (h0 : s0.Leads s) : s0.Leads (State.twEnd s n p) := by
  refine State.Leads.trans h0 ?_
  unfold State.twEnd
  try dsimp only
  repeat' first
    | with_reducible exact State.Leads.refl _
    | with_reducible exact LeadsOut.next _
    | simp only [State.leads_mk_eq]
    | with_reducible refine LeadsParts.same _ ?_
    | with_reducible refine LeadsParts.cellar _ _ ?_ ?_
    | with_reducible refine LeadsParts.attic _ _ ?_ ?_
    | with_reducible refine LeadsParts.porch _ _ ?_ ?_
    | with_reducible refine LeadsParts.hearth _ _ ?_ ?_
    | with_reducible refine LeadsParts.links _ _ ?_ ?_
    | with_reducible refine LeadsParts.tcs _ _ ?_ ?_
    | with_reducible exact fun k => k
    | with_reducible exact fun k => eraseRange_wf _ _ _ k
    | with_reducible exact fun k => progBytes_wf _ _ _ k
    | with_reducible exact fun k => brecWrite_wf _ _ _ k
    | exact Attic.grows_same rfl rfl
    | (simp only [List.length_map, List.length_zipIdx]; exact id)
    | with_reducible apply State.leads_ite
    | split
    | with_reducible refine State.onTw_from _ _ _ ?_
    | with_reducible refine State.twSend_from _ _ _ _ _ ?_
    | with_reducible refine State.twWrote_from _ _ _ ?_
    | with_reducible refine State.twBegin_from _ _ _ _ _ ?_
    | split
    | intro _
    | dsimp only

theorem State.twRun_from {s0 : State} (n : Fin 4) (k : Nat) (s : State) (h : s0.Leads s) :
    s0.Leads (State.twRun n k s) := by
  induction k generalizing s with
  | zero => exact h
  | succ k ih =>
    unfold State.twRun
    split
    · exact h
    · rename_i p _
      have hp : s0.Leads (s.twOne n p).2 := State.twOne_from s n p h
      exact ih _ (State.leads_ite _ _ _ (State.onTw_from _ _ _ hp) (State.twEnd_from _ _ _ hp))
theorem twAct_from (s : State) (n : Fin 4) (read : Bool) (tx : Option (BitVec 7 × List Byte)) (k : Nat) :
    LeadsOut s (twAct s n read tx k) := by
  unfold twAct
  split
  · exact act_from _ _ _ (State.leads_ite _ _ _ (State.onTw_from _ _ _ (.refl s))
      (State.twRun_from _ _ _ (State.twBegin_from _ _ _ _ _ (.refl s))))
  · exact act_from _ _ _ (State.twRun_from _ _ _ (.refl s))

theorem execTwWriteTransaction_from (n : Fin 4) (tx : Option (BitVec 7 × List Byte)) (k : Nat) (s : State) : LeadsOut s (execTwWriteTransaction n tx k s) := by
  unfold execTwWriteTransaction
  repeat' first
    | with_reducible exact State.Leads.refl _
    | with_reducible exact LeadsOut.next _
    | with_reducible apply State.leads_ite
    | with_reducible apply LeadsOut.ite
    | with_reducible refine LeadsOut.of ?_
    | with_reducible refine LeadsSeq.ok ?_
    | with_reducible refine LeadsSeq.error ?_
    | with_reducible apply LeadsSeq.ite
    | with_reducible refine twAct_from _ _ _ _ _
    | split
    | intro _

theorem execTwReadTransaction_from (n : Fin 4) (tx : Option (BitVec 7 × List Byte)) (k : Nat) (s : State) : LeadsOut s (execTwReadTransaction n tx k s) := by
  unfold execTwReadTransaction
  repeat' first
    | with_reducible exact State.Leads.refl _
    | with_reducible exact LeadsOut.next _
    | with_reducible apply State.leads_ite
    | with_reducible apply LeadsOut.ite
    | with_reducible refine LeadsOut.of ?_
    | with_reducible refine LeadsSeq.ok ?_
    | with_reducible refine LeadsSeq.error ?_
    | with_reducible apply LeadsSeq.ite
    | with_reducible refine twAct_from _ _ _ _ _
    | with_reducible refine State.twReads_from _ _ _ _ ?_
    | split
    | intro _

theorem State.twLost_from {s0 : State} (s : State) (n : Fin 4) (write : Bool) (h0 : s0.Leads s) : s0.Leads (State.twLost s n write) := by
  refine State.Leads.trans h0 ?_
  unfold State.twLost
  try dsimp only
  repeat' first
    | with_reducible exact State.Leads.refl _
    | with_reducible exact LeadsOut.next _
    | simp only [State.leads_mk_eq]
    | with_reducible refine LeadsParts.same _ ?_
    | with_reducible refine LeadsParts.cellar _ _ ?_ ?_
    | with_reducible refine LeadsParts.attic _ _ ?_ ?_
    | with_reducible refine LeadsParts.porch _ _ ?_ ?_
    | with_reducible refine LeadsParts.hearth _ _ ?_ ?_
    | with_reducible refine LeadsParts.links _ _ ?_ ?_
    | with_reducible refine LeadsParts.tcs _ _ ?_ ?_
    | with_reducible exact fun k => k
    | with_reducible exact fun k => eraseRange_wf _ _ _ k
    | with_reducible exact fun k => progBytes_wf _ _ _ k
    | with_reducible exact fun k => brecWrite_wf _ _ _ k
    | exact Attic.grows_same rfl rfl
    | (simp only [List.length_map, List.length_zipIdx]; exact id)
    | with_reducible apply State.leads_ite
    | with_reducible refine State.countErr_from _ _ ?_
    | with_reducible refine State.onTw_from _ _ _ ?_
    | with_reducible refine State.twWrote_from _ _ _ ?_
    | split
    | intro _
    | dsimp only

theorem execTwTimeout_from (n : Fin 4) (write : Bool) (s : State) : LeadsOut s (execTwTimeout n write s) := by
  unfold execTwTimeout
  repeat' first
    | with_reducible exact State.Leads.refl _ | with_reducible refine State.twLost_from _ _ _ ?_
    | with_reducible refine act_from _ _ _ ?_

theorem execTwBusError_from (n : Fin 4) (write : Bool) (s : State) : LeadsOut s (execTwBusError n write s) := by
  unfold execTwBusError
  repeat' first
    | with_reducible exact State.Leads.refl _ | with_reducible refine State.twLost_from _ _ _ ?_
    | with_reducible refine act_from _ _ _ ?_

theorem execTwAddressMatchWake_from (n : Fin 4) (addr : BitVec 7) (s : State) : LeadsOut s (execTwAddressMatchWake n addr s) := by
  unfold execTwAddressMatchWake
  try dsimp only
  repeat' first
    | with_reducible exact State.Leads.refl _ | split | with_reducible refine State.onTw_from _ _ _ ?_
    | with_reducible refine State.wakeBy_from _ _ ?_ ?_ | with_reducible refine State.put_from _ _ _ ?_
    | with_reducible refine act_from _ _ _ ?_ | intro _

theorem execTcGo_from (m : Fin 2) (s : State) : LeadsOut s (execTcGo m s) := by
  unfold execTcGo
  repeat' first
    | with_reducible exact State.Leads.refl _ | with_reducible refine State.tcGo_from _ _ ?_
    | with_reducible refine act_from _ _ _ ?_

theorem State.tcData_from {s0 : State} (s : State) (m : Fin 2) (data : List Byte) (h0 : s0.Leads s) : s0.Leads (State.tcData s m data) := by
  refine State.Leads.trans h0 ?_
  unfold State.tcData
  try dsimp only
  repeat' first
    | with_reducible refine State.leads_foldl _ _ _ _ ?_ ?_
    | with_reducible exact State.Leads.refl _
    | with_reducible exact LeadsOut.next _
    | simp only [State.leads_mk_eq]
    | with_reducible refine LeadsParts.same _ ?_
    | with_reducible refine LeadsParts.cellar _ _ ?_ ?_
    | with_reducible refine LeadsParts.attic _ _ ?_ ?_
    | with_reducible refine LeadsParts.porch _ _ ?_ ?_
    | with_reducible refine LeadsParts.hearth _ _ ?_ ?_
    | with_reducible refine LeadsParts.links _ _ ?_ ?_
    | with_reducible refine LeadsParts.tcs _ _ ?_ ?_
    | with_reducible exact fun k => k
    | with_reducible exact fun k => eraseRange_wf _ _ _ k
    | with_reducible exact fun k => progBytes_wf _ _ _ k
    | with_reducible exact fun k => brecWrite_wf _ _ _ k
    | exact Attic.grows_same rfl rfl
    | (simp only [List.length_map, List.length_zipIdx]; exact id)
    | with_reducible apply State.leads_ite
    | split
    | intro _

theorem execTcDone_from (m : Fin 2) (result : Fin 5) (count : Nat) (data : List Byte) (s : State) : LeadsOut s (execTcDone m result count data s) := by
  unfold execTcDone
  try dsimp only
  repeat' first
    | with_reducible exact State.Leads.refl _
    | with_reducible exact LeadsOut.next _
    | with_reducible apply State.leads_ite
    | with_reducible apply LeadsOut.ite
    | with_reducible refine LeadsOut.of ?_
    | with_reducible refine LeadsSeq.ok ?_
    | with_reducible refine LeadsSeq.error ?_
    | with_reducible apply LeadsSeq.ite
    | split
    | with_reducible refine State.tcData_from _ _ _ ?_
    | with_reducible refine State.off_from _ _ ?_
    | with_reducible refine State.on_from _ _ ?_
    | with_reducible refine State.put_from _ _ _ ?_
    | with_reducible refine act_from _ _ _ ?_
    | split
    | intro _
    | dsimp only

end Sys2Proof.Machine
end

