-- ==== Sys2Proof/Laws/RoomFrames.lean ====
section
/-! SUPPORT. Laws/RoomFrames.lean: which fields each operation on a Room can write; every field apart from them keeps its
value. -/

namespace Sys2Proof

@[simp] theorem Field.clear_nil (f : Field) : Field.clear [] f = true := rfl
@[simp] theorem Field.clear_cons (g : Field) (w : List Field) (f : Field) :
    Field.clear (g :: w) f = (g.apart f && Field.clear w f) := rfl
@[simp] theorem Field.clear_append (v w : List Field) (f : Field) :
    Field.clear (v ++ w) f = (Field.clear v f && Field.clear w f) := by
  simp [Field.clear, List.all_append]

/-- A whole register as a field. -/
def Field.whole (o : Nat) : Field := ⟨o, 0, 32, .ro, 0, 0, 0⟩

/-- A register write leaves every field apart from the whole register. -/
theorem Regs.fld_set_apart (m : Regs) (o : Nat) (w : Word) (g : Field) (h : (Field.whole o).apart g = true) :
    Regs.fld (m.set o w) g = m.fld g := by
  by_cases ho : o = g.off
  · simp only [Field.apart, Field.whole, ho, bne_self_eq_false, Bool.false_or, Bool.or_eq_true, decide_eq_true_eq] at h
    have hz : ∀ x : Word, (x.extractLsb' g.lsb g.width).toNat = 0 := by
      intro x
      rcases h with h | h
      · have : x.toNat >>> g.lsb = 0 := by
          rw [Nat.shiftRight_eq_div_pow]
          exact Nat.div_eq_of_lt (lt_of_lt_of_le x.isLt (Nat.pow_le_pow_right (by decide) (by omega)))
        simp [BitVec.extractLsb'_toNat, this]
      · have : g.width = 0 := by omega
        simp [BitVec.extractLsb'_toNat, this, Nat.mod_one]
    unfold Regs.fld
    rw [hz, hz]
  · exact Regs.fld_set_ne _ _ _ _ ho

end Sys2Proof

namespace Sys2Proof.Machine

theorem Room.fld_ite (c : Prop) [Decidable c] (a b : Room) (g : Field) :
    (if c then a else b).fld g = if c then a.fld g else b.fld g :=
  apply_ite (fun r => Room.fld r g) c a b

theorem Room.fld_ite_eq (c : Prop) [Decidable c] (a b : Room) (g : Field) (x : Nat) (h1 : a.fld g = x) (h2 : b.fld g = x) :
    (if c then a else b).fld g = x := by
  split <;> assumption

theorem Room.fld_mk (m : Regs) (x1 x2 : Mem) (x3 : CcState) (x4 : PdState) (x5 : ConState) (x6 : ConvState) (x7 : Core)
    (x8 x9 x10 : Bool) (x11 : Nat) (x12 : List Nat) (x13 : List (Int × Int)) (x14 : List Nat) (x15 x16 x17 x18 : Nat) (g : Field) :
    Room.fld ⟨m, x1, x2, x3, x4, x5, x6, x7, x8, x9, x10, x11, x12, x13, x14, x15, x16, x17, x18⟩ g = Regs.fld m g := rfl
theorem Room.fld_regs (r : Room) (g : Field) : Regs.fld r.regs g = r.fld g := rfl

/-- The receive windows are cleared by whole registers. -/
def Room.clearRxW : List Field :=
  [PD_STAT_RXQ_COUNT, PD_STAT_VDMIN_COUNT] ++ (List.range 8).flatMap fun i => [Field.whole (0x120 + 4 * i), .whole (0xC0 + 4 * i)]

theorem Room.clearRx_regs (m : Regs) (g : Field) (l : List Nat)
    (h : ∀ i ∈ l, (Field.whole (0x120 + 4 * i)).apart g = true ∧ (Field.whole (0xC0 + 4 * i)).apart g = true) :
    Regs.fld (l.foldl (fun m i => Store.set (Store.set m (0x120 + 4 * i) 0) (0xC0 + 4 * i) 0) m) g = Regs.fld m g := by
  induction l generalizing m with
  | nil => rfl
  | cons a l ih =>
    rw [List.foldl_cons, ih _ fun i hi => h i (by simp [hi]), Regs.fld_set_apart _ _ _ _ (h a (by simp)).2,
      Regs.fld_set_apart _ _ _ _ (h a (by simp)).1]

theorem Room.clearRx_fld (r : Room) (g : Field) (h : Field.clear Room.clearRxW g = true) : r.clearRx.fld g = r.fld g := by
  simp only [Room.clearRxW, Field.clear_append, Field.clear_cons, Field.clear_nil, Bool.and_true, Bool.and_eq_true] at h
  have h2 : ∀ i ∈ List.range 8, (Field.whole (0x120 + 4 * i)).apart g = true ∧ (Field.whole (0xC0 + 4 * i)).apart g = true := by
    intro i hi
    have := List.all_eq_true.mp h.2
    exact ⟨this _ (List.mem_flatMap.mpr ⟨i, hi, by simp⟩), this _ (List.mem_flatMap.mpr ⟨i, hi, by simp⟩)⟩
  unfold Room.clearRx
  rw [Room.fld_mk, Room.clearRx_regs _ _ _ h2, Room.fld_regs, Room.fld_off_apart _ _ _ h.1.2, Room.fld_off_apart _ _ _ h.1.1]

def Room.toStepW : List Field :=
  [CON_STAT_STEP]
theorem Room.toStep_fld (e : Env) (n : Nat) (r : Room) (g : Field)
    (h : Field.clear Room.toStepW g = true) : (Room.toStep e n r).fld g = r.fld g := by
  simp only [Room.toStepW, Field.clear_append, Field.clear_cons, Field.clear_nil, Bool.and_true, Bool.and_eq_true] at h
  unfold Room.toStep
  repeat' first
    | with_reducible rfl
    | with_reducible apply Room.fld_ite_eq
    | with_reducible refine (Room.fld_put_apart _ _ _ _ (by simp only [h])).trans ?_
    | with_reducible refine (Room.fld_onCon _ _ _).trans ?_
    | with_reducible refine (Room.fld_mk _ _ _ _ _ _ _ _ _ _ _ _ _ _ _ _ _ _ _ _).trans ?_
    | with_reducible refine (Room.fld_regs _ _).trans ?_
    | split

def Room.followRpW : List Field :=
  [TX_STAT_STATE]
theorem Room.followRp_fld (r : Room) (g : Field)
    (h : Field.clear Room.followRpW g = true) : (Room.followRp r).fld g = r.fld g := by
  simp only [Room.followRpW, Field.clear_append, Field.clear_cons, Field.clear_nil, Bool.and_true, Bool.and_eq_true] at h
  unfold Room.followRp
  try dsimp only
  repeat' first
    | with_reducible rfl
    | split
    | with_reducible apply Room.fld_ite_eq
    | with_reducible refine (Room.fld_put_apart _ _ _ _ (by simp only [h])).trans ?_
    | with_reducible refine (Room.fld_mk _ _ _ _ _ _ _ _ _ _ _ _ _ _ _ _ _ _ _ _).trans ?_
    | with_reducible refine (Room.fld_regs _ _).trans ?_

def Room.refreshPartnerW : List Field :=
  [CC_STAT_PARTNER, CC_EVENT_PARTNER_CHANGE, CC_STAT_RP_SEEN, CC_EVENT_RP_CHANGE] ++ Room.followRpW
theorem Room.refreshPartner_fld (r : Room) (g : Field)
    (h : Field.clear Room.refreshPartnerW g = true) : (Room.refreshPartner r).fld g = r.fld g := by
  simp only [Room.refreshPartnerW, Field.clear_append, Field.clear_cons, Field.clear_nil, Bool.and_true, Bool.and_eq_true] at h
  unfold Room.refreshPartner
  try dsimp only
  repeat' first
    | with_reducible rfl
    | with_reducible apply Room.fld_ite_eq
    | with_reducible refine (Room.fld_put_apart _ _ _ _ (by simp only [h])).trans ?_
    | with_reducible refine (Room.fld_on_apart _ _ _ (by simp only [h])).trans ?_
    | with_reducible refine (Room.followRp_fld _ g (by simp only [h])).trans ?_
    | split

def Room.shadowRpW : List Field :=
  [CC_STAT_RP_SEEN]
theorem Room.shadowRp_fld (r : Room) (g : Field)
    (h : Field.clear Room.shadowRpW g = true) : (Room.shadowRp r).fld g = r.fld g := by
  simp only [Room.shadowRpW, Field.clear_append, Field.clear_cons, Field.clear_nil, Bool.and_true, Bool.and_eq_true] at h
  unfold Room.shadowRp
  try dsimp only
  repeat' first
    | with_reducible rfl
    | with_reducible apply Room.fld_ite_eq
    | with_reducible refine (Room.fld_put_apart _ _ _ _ (by simp only [h])).trans ?_
    | split

def Room.audioOffW : List Field :=
  []
theorem Room.audioOff_fld (r : Room) (g : Field)
    (h : Field.clear Room.audioOffW g = true) : (Room.audioOff r).fld g = r.fld g := by
  simp only [Room.audioOffW, Field.clear_append, Field.clear_cons, Field.clear_nil, Bool.and_true, Bool.and_eq_true] at h
  unfold Room.audioOff
  repeat' first
    | with_reducible rfl
    | with_reducible apply Room.fld_ite_eq
    | with_reducible refine (Room.fld_onCc _ _ _).trans ?_
    | with_reducible refine (Room.fld_mk _ _ _ _ _ _ _ _ _ _ _ _ _ _ _ _ _ _ _ _).trans ?_
    | with_reducible refine (Room.fld_regs _ _).trans ?_
    | split

def Room.termsW : List Field :=
  [CC_LEVEL_CC1_LVL, CC_LEVEL_CC2_LVL] ++ Room.audioOffW ++ Room.refreshPartnerW
theorem Room.terms_fld (e : Env) (r : Room) (g : Field)
    (h : Field.clear Room.termsW g = true) : (Room.terms e r).fld g = r.fld g := by
  simp only [Room.termsW, Field.clear_append, Field.clear_cons, Field.clear_nil, Bool.and_true, Bool.and_eq_true] at h
  unfold Room.terms
  try dsimp only
  repeat' first
    | with_reducible rfl
    | with_reducible apply Room.fld_ite_eq
    | with_reducible refine (Room.fld_put_apart _ _ _ _ (by simp only [h])).trans ?_
    | with_reducible refine (Room.fld_onCc _ _ _).trans ?_
    | with_reducible refine (Room.audioOff_fld _ g (by simp only [h])).trans ?_
    | with_reducible refine (Room.refreshPartner_fld _ g (by simp only [h])).trans ?_
    | with_reducible refine (Room.fld_mk _ _ _ _ _ _ _ _ _ _ _ _ _ _ _ _ _ _ _ _).trans ?_
    | with_reducible refine (Room.fld_regs _ _).trans ?_
    | split

def Room.vconnW : List Field :=
  [CC_STAT_VCONN_ON] ++ Room.termsW
theorem Room.vconn_fld (e : Env) (r : Room) (g : Field)
    (h : Field.clear Room.vconnW g = true) : (Room.vconn e r).fld g = r.fld g := by
  simp only [Room.vconnW, Field.clear_append, Field.clear_cons, Field.clear_nil, Bool.and_true, Bool.and_eq_true] at h
  unfold Room.vconn
  try dsimp only
  repeat' first
    | with_reducible rfl
    | with_reducible apply Room.fld_ite_eq
    | with_reducible refine (Room.fld_putB_apart _ _ _ _ (by simp only [h])).trans ?_
    | with_reducible refine (Room.fld_onCc _ _ _).trans ?_
    | with_reducible refine (Room.fld_onPd _ _ _).trans ?_
    | with_reducible refine (Room.terms_fld _ _ g (by simp only [h])).trans ?_
    | with_reducible refine (Room.fld_mk _ _ _ _ _ _ _ _ _ _ _ _ _ _ _ _ _ _ _ _).trans ?_
    | with_reducible refine (Room.fld_regs _ _).trans ?_
    | split

def Room.setGrantW : List Field :=
  [GRANT_GRANT_W, EVENT_BUDGET, EV_LATCH_GRANT_UPD]
theorem Room.setGrant_fld (r : Room) (w : Nat) (g : Field)
    (h : Field.clear Room.setGrantW g = true) : (Room.setGrant r w).fld g = r.fld g := by
  simp only [Room.setGrantW, Field.clear_append, Field.clear_cons, Field.clear_nil, Bool.and_true, Bool.and_eq_true] at h
  unfold Room.setGrant
  repeat' first
    | with_reducible rfl
    | with_reducible apply Room.fld_ite_eq
    | with_reducible refine (Room.fld_put_apart _ _ _ _ (by simp only [h])).trans ?_
    | with_reducible refine (Room.fld_on_apart _ _ _ (by simp only [h])).trans ?_
    | split

def Room.endResvW : List Field :=
  [GRANT_ASK_STATE, GRANT_RESV_W]
theorem Room.endResv_fld (r : Room) (g : Field)
    (h : Field.clear Room.endResvW g = true) : (Room.endResv r).fld g = r.fld g := by
  simp only [Room.endResvW, Field.clear_append, Field.clear_cons, Field.clear_nil, Bool.and_true, Bool.and_eq_true] at h
  unfold Room.endResv
  repeat' first
    | with_reducible rfl
    | with_reducible apply Room.fld_ite_eq
    | with_reducible refine (Room.fld_off_apart _ _ _ (by simp only [h])).trans ?_
    | with_reducible refine (Room.fld_onCon _ _ _).trans ?_
    | with_reducible refine (Room.fld_mk _ _ _ _ _ _ _ _ _ _ _ _ _ _ _ _ _ _ _ _).trans ?_
    | with_reducible refine (Room.fld_regs _ _).trans ?_
    | split

def Room.askW : List Field :=
  [GRANT_ASK_ASK_W, GRANT_ASK_STATE, GRANT_RESV_W]
theorem Room.ask_fld (e : Env) (w : Nat) (lapse : Bool) (r : Room) (g : Field)
    (h : Field.clear Room.askW g = true) : (Room.ask e w lapse r).fld g = r.fld g := by
  simp only [Room.askW, Field.clear_append, Field.clear_cons, Field.clear_nil, Bool.and_true, Bool.and_eq_true] at h
  unfold Room.ask
  try dsimp only
  repeat' first
    | with_reducible rfl
    | with_reducible apply Room.fld_ite_eq
    | with_reducible refine (Room.fld_put_apart _ _ _ _ (by simp only [h])).trans ?_
    | with_reducible refine (Room.fld_off_apart _ _ _ (by simp only [h])).trans ?_
    | with_reducible refine (Room.fld_onCon _ _ _).trans ?_
    | with_reducible refine (Room.fld_mk _ _ _ _ _ _ _ _ _ _ _ _ _ _ _ _ _ _ _ _).trans ?_
    | with_reducible refine (Room.fld_regs _ _).trans ?_
    | split

def Room.refreshIlimW : List Field :=
  [CON_LIM_ILIM, CON_LIM_CAUSE, EF_STAT_IEF]
theorem Room.refreshIlim_fld (e : Env) (r : Room) (g : Field)
    (h : Field.clear Room.refreshIlimW g = true) : (Room.refreshIlim e r).fld g = r.fld g := by
  simp only [Room.refreshIlimW, Field.clear_append, Field.clear_cons, Field.clear_nil, Bool.and_true, Bool.and_eq_true] at h
  unfold Room.refreshIlim
  try dsimp only
  repeat' first
    | with_reducible rfl
    | with_reducible apply Room.fld_ite_eq
    | with_reducible refine (Room.fld_put_apart _ _ _ _ (by simp only [h])).trans ?_
    | split

def Room.implicitViW : List Field :=
  [CON_VI_MV, CON_VI_MA, CON_STAT_TYPE] ++ Room.refreshIlimW
theorem Room.implicitVi_fld (e : Env) (r : Room) (g : Field)
    (h : Field.clear Room.implicitViW g = true) : (Room.implicitVi e r).fld g = r.fld g := by
  simp only [Room.implicitViW, Field.clear_append, Field.clear_cons, Field.clear_nil, Bool.and_true, Bool.and_eq_true] at h
  unfold Room.implicitVi
  repeat' first
    | with_reducible rfl
    | with_reducible apply Room.fld_ite_eq
    | with_reducible refine (Room.fld_put_apart _ _ _ _ (by simp only [h])).trans ?_
    | with_reducible refine (Room.fld_off_apart _ _ _ (by simp only [h])).trans ?_
    | with_reducible refine (Room.refreshIlim_fld _ _ g (by simp only [h])).trans ?_
    | split

def Room.startGiveupW : List Field :=
  [CON_STAT_GIVEUP]
theorem Room.startGiveup_fld (e : Env) (r : Room) (g : Field)
    (h : Field.clear Room.startGiveupW g = true) : (Room.startGiveup e r).fld g = r.fld g := by
  simp only [Room.startGiveupW, Field.clear_append, Field.clear_cons, Field.clear_nil, Bool.and_true, Bool.and_eq_true] at h
  unfold Room.startGiveup
  repeat' first
    | with_reducible rfl
    | with_reducible apply Room.fld_ite_eq
    | with_reducible refine (Room.fld_on_apart _ _ _ (by simp only [h])).trans ?_
    | with_reducible refine (Room.fld_onCon _ _ _).trans ?_
    | with_reducible refine (Room.fld_mk _ _ _ _ _ _ _ _ _ _ _ _ _ _ _ _ _ _ _ _).trans ?_
    | with_reducible refine (Room.fld_regs _ _).trans ?_
    | split

def Room.vlimDropW : List Field :=
  [CON_EVENT_VLIM_DROP] ++ Room.startGiveupW
theorem Room.vlimDrop_fld (e : Env) (r : Room) (g : Field)
    (h : Field.clear Room.vlimDropW g = true) : (Room.vlimDrop e r).fld g = r.fld g := by
  simp only [Room.vlimDropW, Field.clear_append, Field.clear_cons, Field.clear_nil, Bool.and_true, Bool.and_eq_true] at h
  unfold Room.vlimDrop
  repeat' first
    | with_reducible rfl
    | with_reducible apply Room.fld_ite_eq
    | with_reducible refine (Room.fld_on_apart _ _ _ (by simp only [h])).trans ?_
    | with_reducible refine (Room.startGiveup_fld _ _ g (by simp only [h])).trans ?_
    | split

def Room.refreshVlimW : List Field :=
  [CON_LIM_VLIM] ++ Room.vlimDropW
theorem Room.refreshVlim_fld (e : Env) (r : Room) (g : Field)
    (h : Field.clear Room.refreshVlimW g = true) : (Room.refreshVlim e r).fld g = r.fld g := by
  simp only [Room.refreshVlimW, Field.clear_append, Field.clear_cons, Field.clear_nil, Bool.and_true, Bool.and_eq_true] at h
  unfold Room.refreshVlim
  try dsimp only
  repeat' first
    | with_reducible rfl
    | with_reducible apply Room.fld_ite_eq
    | with_reducible refine (Room.fld_put_apart _ _ _ _ (by simp only [h])).trans ?_
    | with_reducible refine (Room.vlimDrop_fld _ _ g (by simp only [h])).trans ?_
    | split

def Room.refreshCableW : List Field :=
  [CABLE_LIM_IMAX_MA, CABLE_LIM_VMAX_MV, CABLE_LIM_EPR_OK, CABLE_LIM_FROM_EMARKER] ++ Room.refreshVlimW ++ Room.refreshIlimW
theorem Room.refreshCable_fld (e : Env) (r : Room) (g : Field)
    (h : Field.clear Room.refreshCableW g = true) : (Room.refreshCable e r).fld g = r.fld g := by
  simp only [Room.refreshCableW, Field.clear_append, Field.clear_cons, Field.clear_nil, Bool.and_true, Bool.and_eq_true] at h
  unfold Room.refreshCable
  try dsimp only
  repeat' first
    | with_reducible rfl
    | with_reducible apply Room.fld_ite_eq
    | with_reducible refine (Room.fld_put_apart _ _ _ _ (by simp only [h])).trans ?_
    | with_reducible refine (Room.fld_on_apart _ _ _ (by simp only [h])).trans ?_
    | with_reducible refine (Room.fld_off_apart _ _ _ (by simp only [h])).trans ?_
    | with_reducible refine (Room.fld_putB_apart _ _ _ _ (by simp only [h])).trans ?_
    | with_reducible refine (Room.refreshVlim_fld _ _ g (by simp only [h])).trans ?_
    | with_reducible refine (Room.refreshIlim_fld _ _ g (by simp only [h])).trans ?_
    | split

def Room.setRefW : List Field :=
  [VSET_REF]
theorem Room.setRef_fld (r : Room) (uv : Nat) (g : Field)
    (h : Field.clear Room.setRefW g = true) : (Room.setRef r uv).fld g = r.fld g := by
  simp only [Room.setRefW, Field.clear_append, Field.clear_cons, Field.clear_nil, Bool.and_true, Bool.and_eq_true] at h
  unfold Room.setRef
  repeat' first
    | with_reducible rfl
    | with_reducible apply Room.fld_ite_eq
    | with_reducible refine (Room.fld_put_apart _ _ _ _ (by simp only [h])).trans ?_
    | with_reducible refine (Room.fld_onConv _ _ _).trans ?_
    | with_reducible refine (Room.fld_mk _ _ _ _ _ _ _ _ _ _ _ _ _ _ _ _ _ _ _ _).trans ?_
    | with_reducible refine (Room.fld_regs _ _).trans ?_
    | split

def Room.refreshRampW : List Field :=
  [CON_STAT_RAMPING]
theorem Room.refreshRamp_fld (e : Env) (r : Room) (target : Nat) (g : Field)
    (h : Field.clear Room.refreshRampW g = true) : (Room.refreshRamp e r target).fld g = r.fld g := by
  simp only [Room.refreshRampW, Field.clear_append, Field.clear_cons, Field.clear_nil, Bool.and_true, Bool.and_eq_true] at h
  unfold Room.refreshRamp
  try dsimp only
  repeat' first
    | with_reducible rfl
    | with_reducible apply Room.fld_ite_eq
    | with_reducible refine (Room.fld_putB_apart _ _ _ _ (by simp only [h])).trans ?_
    | with_reducible refine (Room.fld_onConv _ _ _).trans ?_
    | with_reducible refine (Room.fld_mk _ _ _ _ _ _ _ _ _ _ _ _ _ _ _ _ _ _ _ _).trans ?_
    | with_reducible refine (Room.fld_regs _ _).trans ?_
    | split

def Room.setLoopW : List Field :=
  [LOOP_STAT_ILIMITING, CONV_EVENT_ILIMIT_END, LOOP_STAT_STATE, STATUS_LOOP_ACTIVE, STATUS_POWER_DIR]
theorem Room.setLoop_fld (r : Room) (st : Nat) (g : Field)
    (h : Field.clear Room.setLoopW g = true) : (Room.setLoop r st).fld g = r.fld g := by
  simp only [Room.setLoopW, Field.clear_append, Field.clear_cons, Field.clear_nil, Bool.and_true, Bool.and_eq_true] at h
  unfold Room.setLoop
  try dsimp only
  repeat' first
    | with_reducible rfl
    | with_reducible apply Room.fld_ite_eq
    | with_reducible refine (Room.fld_put_apart _ _ _ _ (by simp only [h])).trans ?_
    | with_reducible refine (Room.fld_on_apart _ _ _ (by simp only [h])).trans ?_
    | with_reducible refine (Room.fld_off_apart _ _ _ (by simp only [h])).trans ?_
    | with_reducible refine (Room.fld_putB_apart _ _ _ _ (by simp only [h])).trans ?_
    | split

def Room.setRateW : List Field :=
  []
theorem Room.setRate_fld (num : Nat) (den : Nat) (r : Room) (g : Field)
    (h : Field.clear Room.setRateW g = true) : (Room.setRate num den r).fld g = r.fld g := by
  simp only [Room.setRateW, Field.clear_append, Field.clear_cons, Field.clear_nil, Bool.and_true, Bool.and_eq_true] at h
  unfold Room.setRate
  repeat' first
    | with_reducible rfl
    | with_reducible apply Room.fld_ite_eq
    | with_reducible refine (Room.fld_onConv _ _ _).trans ?_
    | with_reducible refine (Room.fld_mk _ _ _ _ _ _ _ _ _ _ _ _ _ _ _ _ _ _ _ _).trans ?_
    | with_reducible refine (Room.fld_regs _ _).trans ?_
    | split

def Room.slewRateW : List Field :=
  [] ++ Room.setRateW
theorem Room.slewRate_fld (r : Room) (g : Field)
    (h : Field.clear Room.slewRateW g = true) : (Room.slewRate r).fld g = r.fld g := by
  simp only [Room.slewRateW, Field.clear_append, Field.clear_cons, Field.clear_nil, Bool.and_true, Bool.and_eq_true] at h
  unfold Room.slewRate
  repeat' first
    | with_reducible rfl
    | with_reducible apply Room.fld_ite_eq
    | with_reducible refine (Room.setRate_fld _ _ _ g (by simp only [h])).trans ?_
    | split

def Room.midRailW : List Field :=
  [PWM_STAT_LEVEL, PWM_STAT_HIGH_T]
theorem Room.midRail_fld (r : Room) (g : Field)
    (h : Field.clear Room.midRailW g = true) : (Room.midRail r).fld g = r.fld g := by
  simp only [Room.midRailW, Field.clear_append, Field.clear_cons, Field.clear_nil, Bool.and_true, Bool.and_eq_true] at h
  unfold Room.midRail
  repeat' first
    | with_reducible rfl
    | with_reducible apply Room.fld_ite_eq
    | with_reducible refine (Room.fld_put_apart _ _ _ _ (by simp only [h])).trans ?_
    | with_reducible refine (Room.fld_off_apart _ _ _ (by simp only [h])).trans ?_
    | split

def Room.preBiasW : List Field :=
  []
theorem Room.preBias_fld (r : Room) (g : Field)
    (h : Field.clear Room.preBiasW g = true) : (Room.preBias r).fld g = r.fld g := by
  simp only [Room.preBiasW, Field.clear_append, Field.clear_cons, Field.clear_nil, Bool.and_true, Bool.and_eq_true] at h
  unfold Room.preBias
  try dsimp only
  repeat' first
    | with_reducible rfl
    | with_reducible apply Room.fld_ite_eq
    | with_reducible refine (Room.fld_onConv _ _ _).trans ?_
    | with_reducible refine (Room.fld_mk _ _ _ _ _ _ _ _ _ _ _ _ _ _ _ _ _ _ _ _).trans ?_
    | with_reducible refine (Room.fld_regs _ _).trans ?_
    | split

def Room.loopStartW : List Field :=
  [] ++ Room.setRefW ++ Room.setLoopW ++ Room.preBiasW ++ Room.setRateW ++ Room.refreshRampW
theorem Room.loopStart_fld (e : Env) (r : Room) (g : Field)
    (h : Field.clear Room.loopStartW g = true) : (Room.loopStart e r).fld g = r.fld g := by
  simp only [Room.loopStartW, Field.clear_append, Field.clear_cons, Field.clear_nil, Bool.and_true, Bool.and_eq_true] at h
  unfold Room.loopStart
  try dsimp only
  repeat' first
    | with_reducible rfl
    | with_reducible apply Room.fld_ite_eq
    | with_reducible refine (Room.fld_onConv _ _ _).trans ?_
    | with_reducible refine (Room.setRef_fld _ _ g (by simp only [h])).trans ?_
    | with_reducible refine (Room.setLoop_fld _ _ g (by simp only [h])).trans ?_
    | with_reducible refine (Room.preBias_fld _ g (by simp only [h])).trans ?_
    | with_reducible refine (Room.setRate_fld _ _ _ g (by simp only [h])).trans ?_
    | with_reducible refine (Room.refreshRamp_fld _ _ _ g (by simp only [h])).trans ?_
    | with_reducible refine (Room.fld_mk _ _ _ _ _ _ _ _ _ _ _ _ _ _ _ _ _ _ _ _).trans ?_
    | with_reducible refine (Room.fld_regs _ _).trans ?_
    | split

def Room.frsStartW : List Field :=
  [VSET_MV] ++ Room.setRefW ++ Room.setLoopW ++ Room.preBiasW ++ Room.slewRateW ++ Room.refreshRampW
theorem Room.frsStart_fld (e : Env) (r : Room) (g : Field)
    (h : Field.clear Room.frsStartW g = true) : (Room.frsStart e r).fld g = r.fld g := by
  simp only [Room.frsStartW, Field.clear_append, Field.clear_cons, Field.clear_nil, Bool.and_true, Bool.and_eq_true] at h
  unfold Room.frsStart
  try dsimp only
  repeat' first
    | with_reducible rfl
    | with_reducible apply Room.fld_ite_eq
    | with_reducible refine (Room.fld_put_apart _ _ _ _ (by simp only [h])).trans ?_
    | with_reducible refine (Room.fld_onConv _ _ _).trans ?_
    | with_reducible refine (Room.setRef_fld _ _ g (by simp only [h])).trans ?_
    | with_reducible refine (Room.setLoop_fld _ _ g (by simp only [h])).trans ?_
    | with_reducible refine (Room.preBias_fld _ g (by simp only [h])).trans ?_
    | with_reducible refine (Room.slewRate_fld _ g (by simp only [h])).trans ?_
    | with_reducible refine (Room.refreshRamp_fld _ _ _ g (by simp only [h])).trans ?_
    | with_reducible refine (Room.fld_mk _ _ _ _ _ _ _ _ _ _ _ _ _ _ _ _ _ _ _ _).trans ?_
    | with_reducible refine (Room.fld_regs _ _).trans ?_
    | split

def Room.dischargeW : List Field :=
  [] ++ Room.setRefW ++ Room.setLoopW ++ Room.slewRateW ++ Room.setRateW ++ Room.refreshRampW
theorem Room.discharge_fld (e : Env) (r : Room) (num : Nat) (den : Nat) (openAtOff : Bool) (g : Field)
    (h : Field.clear Room.dischargeW g = true) : (Room.discharge e r num den openAtOff).fld g = r.fld g := by
  simp only [Room.dischargeW, Field.clear_append, Field.clear_cons, Field.clear_nil, Bool.and_true, Bool.and_eq_true] at h
  unfold Room.discharge
  try dsimp only
  repeat' first
    | with_reducible rfl
    | with_reducible apply Room.fld_ite_eq
    | with_reducible refine (Room.fld_onConv _ _ _).trans ?_
    | with_reducible refine (Room.setRef_fld _ _ g (by simp only [h])).trans ?_
    | with_reducible refine (Room.setLoop_fld _ _ g (by simp only [h])).trans ?_
    | with_reducible refine (Room.slewRate_fld _ g (by simp only [h])).trans ?_
    | with_reducible refine (Room.setRate_fld _ _ _ g (by simp only [h])).trans ?_
    | with_reducible refine (Room.refreshRamp_fld _ _ _ g (by simp only [h])).trans ?_
    | with_reducible refine (Room.fld_mk _ _ _ _ _ _ _ _ _ _ _ _ _ _ _ _ _ _ _ _).trans ?_
    | with_reducible refine (Room.fld_regs _ _).trans ?_
    | split

def Room.loopOffW : List Field :=
  [] ++ Room.setLoopW
theorem Room.loopOff_fld (r : Room) (g : Field)
    (h : Field.clear Room.loopOffW g = true) : (Room.loopOff r).fld g = r.fld g := by
  simp only [Room.loopOffW, Field.clear_append, Field.clear_cons, Field.clear_nil, Bool.and_true, Bool.and_eq_true] at h
  unfold Room.loopOff
  repeat' first
    | with_reducible rfl
    | with_reducible apply Room.fld_ite_eq
    | with_reducible refine (Room.fld_onConv _ _ _).trans ?_
    | with_reducible refine (Room.setLoop_fld _ _ g (by simp only [h])).trans ?_
    | with_reducible refine (Room.fld_mk _ _ _ _ _ _ _ _ _ _ _ _ _ _ _ _ _ _ _ _).trans ?_
    | with_reducible refine (Room.fld_regs _ _).trans ?_
    | split

def Room.showLevelW : List Field :=
  [PWM_STAT_LEVEL, PWM_STAT_HIGH_T]
theorem Room.showLevel_fld (e : Env) (r : Room) (g : Field)
    (h : Field.clear Room.showLevelW g = true) : (Room.showLevel e r).fld g = r.fld g := by
  simp only [Room.showLevelW, Field.clear_append, Field.clear_cons, Field.clear_nil, Bool.and_true, Bool.and_eq_true] at h
  unfold Room.showLevel
  repeat' first
    | with_reducible rfl
    | split
    | with_reducible apply Room.fld_ite_eq
    | with_reducible refine (Room.fld_put_apart _ _ _ _ (by simp only [h])).trans ?_
    | with_reducible refine (Room.fld_off_apart _ _ _ (by simp only [h])).trans ?_
    | with_reducible refine (Room.fld_mk _ _ _ _ _ _ _ _ _ _ _ _ _ _ _ _ _ _ _ _).trans ?_
    | with_reducible refine (Room.fld_regs _ _).trans ?_

def Room.closeSwitchW : List Field :=
  [SW_STAT_CMD, STATUS_SWITCH_ON, SW_STAT_CLOSE, SW_STAT_FULL, CONV_EVENT_FOLDBACK]
theorem Room.closeSwitch_fld (e : Env) (r : Room) (g : Field)
    (h : Field.clear Room.closeSwitchW g = true) : (Room.closeSwitch e r).fld g = r.fld g := by
  simp only [Room.closeSwitchW, Field.clear_append, Field.clear_cons, Field.clear_nil, Bool.and_true, Bool.and_eq_true] at h
  unfold Room.closeSwitch
  try dsimp only
  repeat' first
    | with_reducible rfl
    | with_reducible apply Room.fld_ite_eq
    | with_reducible refine (Room.fld_put_apart _ _ _ _ (by simp only [h])).trans ?_
    | with_reducible refine (Room.fld_on_apart _ _ _ (by simp only [h])).trans ?_
    | with_reducible refine (Room.fld_off_apart _ _ _ (by simp only [h])).trans ?_
    | with_reducible refine (Room.fld_onConv _ _ _).trans ?_
    | with_reducible refine (Room.fld_mk _ _ _ _ _ _ _ _ _ _ _ _ _ _ _ _ _ _ _ _).trans ?_
    | with_reducible refine (Room.fld_regs _ _).trans ?_
    | split

def Room.openSwitchW : List Field :=
  [SW_STAT_CMD, SW_STAT_FULL, STATUS_SWITCH_ON]
theorem Room.openSwitch_fld (r : Room) (g : Field)
    (h : Field.clear Room.openSwitchW g = true) : (Room.openSwitch r).fld g = r.fld g := by
  simp only [Room.openSwitchW, Field.clear_append, Field.clear_cons, Field.clear_nil, Bool.and_true, Bool.and_eq_true] at h
  unfold Room.openSwitch
  repeat' first
    | with_reducible rfl
    | with_reducible apply Room.fld_ite_eq
    | with_reducible refine (Room.fld_off_apart _ _ _ (by simp only [h])).trans ?_
    | with_reducible refine (Room.fld_onConv _ _ _).trans ?_
    | with_reducible refine (Room.fld_mk _ _ _ _ _ _ _ _ _ _ _ _ _ _ _ _ _ _ _ _).trans ?_
    | with_reducible refine (Room.fld_regs _ _).trans ?_
    | split

def Room.txEndW : List Field :=
  [TX_STAT_STATE, PD_EVENT_TX_DONE]
theorem Room.txEnd_fld (r : Room) (code : Nat) (g : Field)
    (h : Field.clear Room.txEndW g = true) : (Room.txEnd r code).fld g = r.fld g := by
  simp only [Room.txEndW, Field.clear_append, Field.clear_cons, Field.clear_nil, Bool.and_true, Bool.and_eq_true] at h
  unfold Room.txEnd
  repeat' first
    | with_reducible rfl
    | with_reducible apply Room.fld_ite_eq
    | with_reducible refine (Room.fld_put_apart _ _ _ _ (by simp only [h])).trans ?_
    | with_reducible refine (Room.fld_on_apart _ _ _ (by simp only [h])).trans ?_
    | with_reducible refine (Room.fld_onPd _ _ _).trans ?_
    | with_reducible refine (Room.fld_mk _ _ _ _ _ _ _ _ _ _ _ _ _ _ _ _ _ _ _ _).trans ?_
    | with_reducible refine (Room.fld_regs _ _).trans ?_
    | split

def Room.txAbortW : List Field :=
  [PD_STAT_HVDM_STATE, PD_EVENT_HVDM_DONE] ++ Room.txEndW
theorem Room.txAbort_fld (r : Room) (code : Nat) (g : Field)
    (h : Field.clear Room.txAbortW g = true) : (Room.txAbort r code).fld g = r.fld g := by
  simp only [Room.txAbortW, Field.clear_append, Field.clear_cons, Field.clear_nil, Bool.and_true, Bool.and_eq_true] at h
  unfold Room.txAbort
  try dsimp only
  repeat' first
    | with_reducible rfl
    | with_reducible apply Room.fld_ite_eq
    | with_reducible refine (Room.fld_put_apart _ _ _ _ (by simp only [h])).trans ?_
    | with_reducible refine (Room.fld_on_apart _ _ _ (by simp only [h])).trans ?_
    | with_reducible refine (Room.fld_onPd _ _ _).trans ?_
    | with_reducible refine (Room.txEnd_fld _ _ g (by simp only [h])).trans ?_
    | with_reducible refine (Room.fld_mk _ _ _ _ _ _ _ _ _ _ _ _ _ _ _ _ _ _ _ _).trans ?_
    | with_reducible refine (Room.fld_regs _ _).trans ?_
    | split

def Room.pdResetW : List Field :=
  [PD_STAT_REV_SOP, PD_STAT_REV_SOPP, PD_STAT_REV_SOPPP, PD_STAT_EPR_ACTIVE, PD_STAT_BIST] ++ Room.clearRxW
theorem Room.pdReset_fld (r : Room) (g : Field)
    (h : Field.clear Room.pdResetW g = true) : (Room.pdReset r).fld g = r.fld g := by
  simp only [Room.pdResetW, Field.clear_append, Field.clear_cons, Field.clear_nil, Bool.and_true, Bool.and_eq_true] at h
  unfold Room.pdReset
  repeat' first
    | with_reducible rfl
    | with_reducible apply Room.fld_ite_eq
    | with_reducible refine (Room.fld_off_apart _ _ _ (by simp only [h])).trans ?_
    | with_reducible refine (Room.fld_onPd _ _ _).trans ?_
    | with_reducible refine (Room.clearRx_fld _ g (by simp only [h])).trans ?_
    | with_reducible refine (Room.fld_mk _ _ _ _ _ _ _ _ _ _ _ _ _ _ _ _ _ _ _ _).trans ?_
    | with_reducible refine (Room.fld_regs _ _).trans ?_
    | split

def Room.sinkTxNgW : List Field :=
  [PD_STAT_SINKTX, CC_STAT_RP_ADV]
theorem Room.sinkTxNg_fld (e : Env) (r : Room) (g : Field)
    (h : Field.clear Room.sinkTxNgW g = true) : (Room.sinkTxNg e r).fld g = r.fld g := by
  simp only [Room.sinkTxNgW, Field.clear_append, Field.clear_cons, Field.clear_nil, Bool.and_true, Bool.and_eq_true] at h
  unfold Room.sinkTxNg
  repeat' first
    | with_reducible rfl
    | with_reducible apply Room.fld_ite_eq
    | with_reducible refine (Room.fld_put_apart _ _ _ _ (by simp only [h])).trans ?_
    | with_reducible refine (Room.fld_on_apart _ _ _ (by simp only [h])).trans ?_
    | with_reducible refine (Room.fld_onPd _ _ _).trans ?_
    | with_reducible refine (Room.fld_mk _ _ _ _ _ _ _ _ _ _ _ _ _ _ _ _ _ _ _ _).trans ?_
    | with_reducible refine (Room.fld_regs _ _).trans ?_
    | split

def Room.sinkTxOkW : List Field :=
  [PD_STAT_SINKTX, CC_STAT_RP_ADV, TX_STAT_STATE] ++ Room.sinkTxNgW
theorem Room.sinkTxOk_fld (e : Env) (r : Room) (g : Field)
    (h : Field.clear Room.sinkTxOkW g = true) : (Room.sinkTxOk e r).fld g = r.fld g := by
  simp only [Room.sinkTxOkW, Field.clear_append, Field.clear_cons, Field.clear_nil, Bool.and_true, Bool.and_eq_true] at h
  unfold Room.sinkTxOk
  try dsimp only
  repeat' first
    | with_reducible rfl
    | with_reducible apply Room.fld_ite_eq
    | with_reducible refine (Room.fld_put_apart _ _ _ _ (by simp only [h])).trans ?_
    | with_reducible refine (Room.fld_off_apart _ _ _ (by simp only [h])).trans ?_
    | with_reducible refine (Room.fld_onPd _ _ _).trans ?_
    | with_reducible refine (Room.sinkTxNg_fld _ _ g (by simp only [h])).trans ?_
    | with_reducible refine (Room.fld_mk _ _ _ _ _ _ _ _ _ _ _ _ _ _ _ _ _ _ _ _).trans ?_
    | with_reducible refine (Room.fld_regs _ _).trans ?_
    | split

def Room.pdClearW : List Field :=
  [PD_STAT_HR_ACTIVE, PD_STAT_HR_COUNT, PD_STAT_CABLE_STATE, CABLE_IDH_IDH, CABLE_VDO_VDO1, PD_STAT_SINKTX] ++ Room.txAbortW ++ Room.pdResetW ++ Room.refreshCableW
theorem Room.pdClear_fld (e : Env) (r : Room) (g : Field)
    (h : Field.clear Room.pdClearW g = true) : (Room.pdClear e r).fld g = r.fld g := by
  simp only [Room.pdClearW, Field.clear_append, Field.clear_cons, Field.clear_nil, Bool.and_true, Bool.and_eq_true] at h
  unfold Room.pdClear
  try dsimp only
  repeat' first
    | with_reducible rfl
    | with_reducible apply Room.fld_ite_eq
    | with_reducible refine (Room.fld_off_apart _ _ _ (by simp only [h])).trans ?_
    | with_reducible refine (Room.fld_onPd _ _ _).trans ?_
    | with_reducible refine (Room.txAbort_fld _ _ g (by simp only [h])).trans ?_
    | with_reducible refine (Room.pdReset_fld _ g (by simp only [h])).trans ?_
    | with_reducible refine (Room.refreshCable_fld _ _ g (by simp only [h])).trans ?_
    | with_reducible refine (Room.fld_mk _ _ _ _ _ _ _ _ _ _ _ _ _ _ _ _ _ _ _ _).trans ?_
    | with_reducible refine (Room.fld_regs _ _).trans ?_
    | split

def Room.conClearW : List Field :=
  [PD_STAT_EXPLICIT, CON_STAT_TYPE, CON_STAT_POS, CON_STAT_SWAP, CON_STAT_STEP, CON_STAT_HR_SEQ, CON_STAT_SETTLED, CON_STAT_GIVEUP, CON_STAT_ENFORCED, CON_STAT_FRS_READY] ++ Room.endResvW ++ Room.implicitViW
theorem Room.conClear_fld (e : Env) (r : Room) (g : Field)
    (h : Field.clear Room.conClearW g = true) : (Room.conClear e r).fld g = r.fld g := by
  simp only [Room.conClearW, Field.clear_append, Field.clear_cons, Field.clear_nil, Bool.and_true, Bool.and_eq_true] at h
  unfold Room.conClear
  try dsimp only
  repeat' first
    | with_reducible rfl
    | with_reducible apply Room.fld_ite_eq
    | with_reducible refine (Room.fld_off_apart _ _ _ (by simp only [h])).trans ?_
    | with_reducible refine (Room.fld_onCc _ _ _).trans ?_
    | with_reducible refine (Room.fld_onCon _ _ _).trans ?_
    | with_reducible refine (Room.endResv_fld _ g (by simp only [h])).trans ?_
    | with_reducible refine (Room.implicitVi_fld _ _ g (by simp only [h])).trans ?_
    | with_reducible refine (Room.fld_mk _ _ _ _ _ _ _ _ _ _ _ _ _ _ _ _ _ _ _ _).trans ?_
    | with_reducible refine (Room.fld_regs _ _).trans ?_
    | split

def Room.endExplicitW : List Field :=
  [PD_STAT_EXPLICIT, CON_STAT_POS, CON_STAT_FRS_READY, CON_STAT_ENFORCED, CC_STAT_RP_ADV] ++ Room.sinkTxOkW ++ Room.followRpW ++ Room.implicitViW
theorem Room.endExplicit_fld (e : Env) (r : Room) (g : Field)
    (h : Field.clear Room.endExplicitW g = true) : (Room.endExplicit e r).fld g = r.fld g := by
  simp only [Room.endExplicitW, Field.clear_append, Field.clear_cons, Field.clear_nil, Bool.and_true, Bool.and_eq_true] at h
  unfold Room.endExplicit
  try dsimp only
  repeat' first
    | with_reducible rfl
    | with_reducible apply Room.fld_ite_eq
    | with_reducible refine (Room.fld_put_apart _ _ _ _ (by simp only [h])).trans ?_
    | with_reducible refine (Room.fld_off_apart _ _ _ (by simp only [h])).trans ?_
    | with_reducible refine (Room.fld_onCc _ _ _).trans ?_
    | with_reducible refine (Room.sinkTxOk_fld _ _ g (by simp only [h])).trans ?_
    | with_reducible refine (Room.followRp_fld _ g (by simp only [h])).trans ?_
    | with_reducible refine (Room.implicitVi_fld _ _ g (by simp only [h])).trans ?_
    | with_reducible refine (Room.fld_mk _ _ _ _ _ _ _ _ _ _ _ _ _ _ _ _ _ _ _ _).trans ?_
    | with_reducible refine (Room.fld_regs _ _).trans ?_
    | split

def Room.enterStateW : List Field :=
  [CC_STAT_ASTATE, CC_STAT_BUDGET_WAIT, VCONN_CTRL_EN, CC_STAT_VCONN_LOCK, CC_STAT_ORIENT_VALID, CC_STAT_RP_ADV] ++ Room.vconnW
theorem Room.enterState_fld (e : Env) (r : Room) (st : Nat) (g : Field)
    (h : Field.clear Room.enterStateW g = true) : (Room.enterState e r st).fld g = r.fld g := by
  simp only [Room.enterStateW, Field.clear_append, Field.clear_cons, Field.clear_nil, Bool.and_true, Bool.and_eq_true] at h
  unfold Room.enterState
  try dsimp only
  repeat' first
    | with_reducible rfl
    | with_reducible apply Room.fld_ite_eq
    | with_reducible refine (Room.fld_put_apart _ _ _ _ (by simp only [h])).trans ?_
    | with_reducible refine (Room.fld_off_apart _ _ _ (by simp only [h])).trans ?_
    | with_reducible refine (Room.fld_onCc _ _ _).trans ?_
    | with_reducible refine (Room.vconn_fld _ _ g (by simp only [h])).trans ?_
    | with_reducible refine (Room.fld_mk _ _ _ _ _ _ _ _ _ _ _ _ _ _ _ _ _ _ _ _).trans ?_
    | with_reducible refine (Room.fld_regs _ _).trans ?_
    | split

def Room.enterAW : List Field :=
  [] ++ Room.enterStateW
theorem Room.enterA_fld (e : Env) (r : Room) (st : Nat) (g : Field)
    (h : Field.clear Room.enterAW g = true) : (Room.enterA e r st).fld g = r.fld g := by
  simp only [Room.enterAW, Field.clear_append, Field.clear_cons, Field.clear_nil, Bool.and_true, Bool.and_eq_true] at h
  unfold Room.enterA
  try dsimp only
  repeat' first
    | with_reducible rfl
    | split
    | with_reducible apply Room.fld_ite_eq
    | with_reducible refine (Room.enterState_fld _ _ _ g (by simp only [h])).trans ?_
    | with_reducible refine (Room.fld_mk _ _ _ _ _ _ _ _ _ _ _ _ _ _ _ _ _ _ _ _).trans ?_
    | with_reducible refine (Room.fld_regs _ _).trans ?_

def Room.restartW : List Field :=
  [CC_LEVEL_CC1_LVL, CC_LEVEL_CC2_LVL] ++ Room.enterAW ++ Room.enterStateW ++ Room.refreshPartnerW
theorem Room.restart_fld (e : Env) (r : Room) (g : Field)
    (h : Field.clear Room.restartW g = true) : (Room.restart e r).fld g = r.fld g := by
  simp only [Room.restartW, Field.clear_append, Field.clear_cons, Field.clear_nil, Bool.and_true, Bool.and_eq_true] at h
  unfold Room.restart
  try dsimp only
  repeat' first
    | with_reducible rfl
    | split
    | with_reducible apply Room.fld_ite_eq
    | with_reducible refine (Room.fld_put_apart _ _ _ _ (by simp only [h])).trans ?_
    | with_reducible refine (Room.fld_onCc _ _ _).trans ?_
    | with_reducible refine (Room.enterA_fld _ _ _ g (by simp only [h])).trans ?_
    | with_reducible refine (Room.enterState_fld _ _ _ g (by simp only [h])).trans ?_
    | with_reducible refine (Room.refreshPartner_fld _ g (by simp only [h])).trans ?_
    | with_reducible refine (Room.fld_mk _ _ _ _ _ _ _ _ _ _ _ _ _ _ _ _ _ _ _ _).trans ?_
    | with_reducible refine (Room.fld_regs _ _).trans ?_

def Room.startRemovalW : List Field :=
  [] ++ Room.dischargeW ++ Room.setGrantW ++ Room.openSwitchW ++ Room.loopOffW
theorem Room.startRemoval_fld (e : Env) (r : Room) (g : Field)
    (h : Field.clear Room.startRemovalW g = true) : (Room.startRemoval e r).fld g = r.fld g := by
  simp only [Room.startRemovalW, Field.clear_append, Field.clear_cons, Field.clear_nil, Bool.and_true, Bool.and_eq_true] at h
  unfold Room.startRemoval
  repeat' first
    | with_reducible rfl
    | with_reducible apply Room.fld_ite_eq
    | with_reducible refine (Room.fld_onCc _ _ _).trans ?_
    | with_reducible refine (Room.discharge_fld _ _ _ _ _ g (by simp only [h])).trans ?_
    | with_reducible refine (Room.setGrant_fld _ _ g (by simp only [h])).trans ?_
    | with_reducible refine (Room.openSwitch_fld _ g (by simp only [h])).trans ?_
    | with_reducible refine (Room.loopOff_fld _ g (by simp only [h])).trans ?_
    | with_reducible refine (Room.fld_mk _ _ _ _ _ _ _ _ _ _ _ _ _ _ _ _ _ _ _ _).trans ?_
    | with_reducible refine (Room.fld_regs _ _).trans ?_
    | split

def Room.retryClearW : List Field :=
  [RETRY_STAT_COUNT, RETRY_STAT_WAIT, RETRY_STAT_ATTEMPT, RETRY_STAT_EXHAUSTED, RETRY_STAT_NEXT]
theorem Room.retryClear_fld (r : Room) (g : Field)
    (h : Field.clear Room.retryClearW g = true) : (Room.retryClear r).fld g = r.fld g := by
  simp only [Room.retryClearW, Field.clear_append, Field.clear_cons, Field.clear_nil, Bool.and_true, Bool.and_eq_true] at h
  unfold Room.retryClear
  repeat' first
    | with_reducible rfl
    | with_reducible apply Room.fld_ite_eq
    | with_reducible refine (Room.fld_off_apart _ _ _ (by simp only [h])).trans ?_
    | with_reducible refine (Room.fld_onConv _ _ _).trans ?_
    | with_reducible refine (Room.fld_mk _ _ _ _ _ _ _ _ _ _ _ _ _ _ _ _ _ _ _ _).trans ?_
    | with_reducible refine (Room.fld_regs _ _).trans ?_
    | split

def Room.detachW : List Field :=
  [CC_EVENT_DETACH, EVENT_DETACH, RETRY_STAT_COUNT] ++ Room.pdClearW ++ Room.startRemovalW ++ Room.enterAW ++ Room.conClearW
theorem Room.detach_fld (e : Env) (r : Room) (g : Field)
    (h : Field.clear Room.detachW g = true) : (Room.detach e r).fld g = r.fld g := by
  simp only [Room.detachW, Field.clear_append, Field.clear_cons, Field.clear_nil, Bool.and_true, Bool.and_eq_true] at h
  unfold Room.detach
  try dsimp only
  repeat' first
    | with_reducible rfl
    | with_reducible apply Room.fld_ite_eq
    | with_reducible refine (Room.fld_on_apart _ _ _ (by simp only [h])).trans ?_
    | with_reducible refine (Room.fld_off_apart _ _ _ (by simp only [h])).trans ?_
    | with_reducible refine (Room.pdClear_fld _ _ g (by simp only [h])).trans ?_
    | with_reducible refine (Room.startRemoval_fld _ _ g (by simp only [h])).trans ?_
    | with_reducible refine (Room.enterA_fld _ _ _ g (by simp only [h])).trans ?_
    | with_reducible refine (Room.conClear_fld _ _ g (by simp only [h])).trans ?_
    | split

def Room.errorRecoveryW : List Field :=
  [CC_EVENT_DETACH, EVENT_DETACH, CON_EVENT_SWAP_FAIL] ++ Room.pdClearW ++ Room.startRemovalW ++ Room.enterAW ++ Room.conClearW
theorem Room.errorRecovery_fld (e : Env) (r : Room) (g : Field)
    (h : Field.clear Room.errorRecoveryW g = true) : (Room.errorRecovery e r).fld g = r.fld g := by
  simp only [Room.errorRecoveryW, Field.clear_append, Field.clear_cons, Field.clear_nil, Bool.and_true, Bool.and_eq_true] at h
  unfold Room.errorRecovery
  try dsimp only
  repeat' first
    | with_reducible rfl
    | with_reducible apply Room.fld_ite_eq
    | with_reducible refine (Room.fld_on_apart _ _ _ (by simp only [h])).trans ?_
    | with_reducible refine (Room.pdClear_fld _ _ g (by simp only [h])).trans ?_
    | with_reducible refine (Room.startRemoval_fld _ _ g (by simp only [h])).trans ?_
    | with_reducible refine (Room.enterA_fld _ _ _ g (by simp only [h])).trans ?_
    | with_reducible refine (Room.conClear_fld _ _ g (by simp only [h])).trans ?_
    | split

def Room.shedW : List Field :=
  [CC_STAT_BUDGET_WAIT, CC_EVENT_BUDGET_WAIT] ++ Room.pdClearW ++ Room.startRemovalW ++ Room.enterAW ++ Room.conClearW
theorem Room.shed_fld (e : Env) (r : Room) (g : Field)
    (h : Field.clear Room.shedW g = true) : (Room.shed e r).fld g = r.fld g := by
  simp only [Room.shedW, Field.clear_append, Field.clear_cons, Field.clear_nil, Bool.and_true, Bool.and_eq_true] at h
  unfold Room.shed
  try dsimp only
  repeat' first
    | with_reducible rfl
    | with_reducible apply Room.fld_ite_eq
    | with_reducible refine (Room.fld_on_apart _ _ _ (by simp only [h])).trans ?_
    | with_reducible refine (Room.fld_onCc _ _ _).trans ?_
    | with_reducible refine (Room.pdClear_fld _ _ g (by simp only [h])).trans ?_
    | with_reducible refine (Room.startRemoval_fld _ _ g (by simp only [h])).trans ?_
    | with_reducible refine (Room.enterA_fld _ _ _ g (by simp only [h])).trans ?_
    | with_reducible refine (Room.conClear_fld _ _ g (by simp only [h])).trans ?_
    | with_reducible refine (Room.fld_mk _ _ _ _ _ _ _ _ _ _ _ _ _ _ _ _ _ _ _ _).trans ?_
    | with_reducible refine (Room.fld_regs _ _).trans ?_
    | split

def Room.grantFellW : List Field :=
  [CON_EVENT_GIVEUP, CC_STAT_RP_ADV] ++ Room.shedW ++ Room.startGiveupW ++ Room.implicitViW
theorem Room.grantFell_fld (e : Env) (r : Room) (g : Field)
    (h : Field.clear Room.grantFellW g = true) : (Room.grantFell e r).fld g = r.fld g := by
  simp only [Room.grantFellW, Field.clear_append, Field.clear_cons, Field.clear_nil, Bool.and_true, Bool.and_eq_true] at h
  unfold Room.grantFell
  repeat' first
    | with_reducible rfl
    | with_reducible apply Room.fld_ite_eq
    | with_reducible refine (Room.fld_put_apart _ _ _ _ (by simp only [h])).trans ?_
    | with_reducible refine (Room.fld_on_apart _ _ _ (by simp only [h])).trans ?_
    | with_reducible refine (Room.fld_onCc _ _ _).trans ?_
    | with_reducible refine (Room.shed_fld _ _ g (by simp only [h])).trans ?_
    | with_reducible refine (Room.startGiveup_fld _ _ g (by simp only [h])).trans ?_
    | with_reducible refine (Room.implicitVi_fld _ _ g (by simp only [h])).trans ?_
    | with_reducible refine (Room.fld_mk _ _ _ _ _ _ _ _ _ _ _ _ _ _ _ _ _ _ _ _).trans ?_
    | with_reducible refine (Room.fld_regs _ _).trans ?_
    | split

def Room.outputsOffW : List Field :=
  [] ++ Room.loopOffW ++ Room.midRailW ++ Room.openSwitchW ++ Room.vconnW ++ Room.refreshIlimW
theorem Room.outputsOff_fld (e : Env) (r : Room) (g : Field)
    (h : Field.clear Room.outputsOffW g = true) : (Room.outputsOff e r).fld g = r.fld g := by
  simp only [Room.outputsOffW, Field.clear_append, Field.clear_cons, Field.clear_nil, Bool.and_true, Bool.and_eq_true] at h
  unfold Room.outputsOff
  repeat' first
    | with_reducible rfl
    | with_reducible apply Room.fld_ite_eq
    | with_reducible refine (Room.loopOff_fld _ g (by simp only [h])).trans ?_
    | with_reducible refine (Room.midRail_fld _ g (by simp only [h])).trans ?_
    | with_reducible refine (Room.openSwitch_fld _ g (by simp only [h])).trans ?_
    | with_reducible refine (Room.vconn_fld _ _ g (by simp only [h])).trans ?_
    | with_reducible refine (Room.refreshIlim_fld _ _ g (by simp only [h])).trans ?_
    | split

def Room.armRetryW : List Field :=
  [RETRY_STAT_EXHAUSTED, CONV_EVENT_EXHAUSTED, RETRY_STAT_WAIT]
theorem Room.armRetry_fld (e : Env) (r : Room) (g : Field)
    (h : Field.clear Room.armRetryW g = true) : (Room.armRetry e r).fld g = r.fld g := by
  simp only [Room.armRetryW, Field.clear_append, Field.clear_cons, Field.clear_nil, Bool.and_true, Bool.and_eq_true] at h
  unfold Room.armRetry
  repeat' first
    | with_reducible rfl
    | with_reducible apply Room.fld_ite_eq
    | with_reducible refine (Room.fld_on_apart _ _ _ (by simp only [h])).trans ?_
    | with_reducible refine (Room.fld_off_apart _ _ _ (by simp only [h])).trans ?_
    | with_reducible refine (Room.fld_onConv _ _ _).trans ?_
    | with_reducible refine (Room.fld_mk _ _ _ _ _ _ _ _ _ _ _ _ _ _ _ _ _ _ _ _).trans ?_
    | with_reducible refine (Room.fld_regs _ _).trans ?_
    | split

def Room.faultW (f : Field) : List Field :=
  [f, EVENT_FAULT]
theorem Room.fault_fld (r : Room) (f : Field) (g : Field)
    (h : Field.clear (Room.faultW f) g = true) : (Room.fault r f).fld g = r.fld g := by
  simp only [Room.faultW, Field.clear_append, Field.clear_cons, Field.clear_nil, Bool.and_true, Bool.and_eq_true] at h
  unfold Room.fault
  repeat' first
    | with_reducible rfl
    | with_reducible apply Room.fld_ite_eq
    | with_reducible refine (Room.fld_on_apart _ _ _ (by simp only [h])).trans ?_
    | split

def Room.attemptFailW : List Field :=
  [CONV_EVENT_ATTEMPT_FAIL, RETRY_STAT_ATTEMPT, RETRY_STAT_COUNT, RETRY_STAT_EXHAUSTED, CONV_EVENT_EXHAUSTED, RETRY_STAT_WAIT]
theorem Room.attemptFail_fld (e : Env) (r : Room) (g : Field)
    (h : Field.clear Room.attemptFailW g = true) : (Room.attemptFail e r).fld g = r.fld g := by
  simp only [Room.attemptFailW, Field.clear_append, Field.clear_cons, Field.clear_nil, Bool.and_true, Bool.and_eq_true] at h
  unfold Room.attemptFail
  try dsimp only
  repeat' first
    | with_reducible rfl
    | with_reducible apply Room.fld_ite_eq
    | with_reducible refine (Room.fld_put_apart _ _ _ _ (by simp only [h])).trans ?_
    | with_reducible refine (Room.fld_on_apart _ _ _ (by simp only [h])).trans ?_
    | with_reducible refine (Room.fld_off_apart _ _ _ (by simp only [h])).trans ?_
    | with_reducible refine (Room.fld_onConv _ _ _).trans ?_
    | with_reducible refine (Room.fld_mk _ _ _ _ _ _ _ _ _ _ _ _ _ _ _ _ _ _ _ _).trans ?_
    | with_reducible refine (Room.fld_regs _ _).trans ?_
    | split

def Room.enterSafeW (f : Field) : List Field :=
  [f, EVENT_SAFE_ENTER, RETRY_STAT_WAIT, RETRY_STAT_ATTEMPT] ++ Room.faultW f ++ Room.attemptFailW ++ Room.armRetryW ++ Room.outputsOffW
theorem Room.enterSafe_fld (e : Env) (r : Room) (f : Field) (retry : Bool) (g : Field)
    (h : Field.clear (Room.enterSafeW f) g = true) : (Room.enterSafe e r f retry).fld g = r.fld g := by
  simp only [Room.enterSafeW, Field.clear_append, Field.clear_cons, Field.clear_nil, Bool.and_true, Bool.and_eq_true] at h
  unfold Room.enterSafe
  try dsimp only
  repeat' first
    | with_reducible rfl
    | with_reducible apply Room.fld_ite_eq
    | with_reducible refine (Room.fld_on_apart _ _ _ (by simp only [h])).trans ?_
    | with_reducible refine (Room.fld_off_apart _ _ _ (by simp only [h])).trans ?_
    | with_reducible refine (Room.fld_onCc _ _ _).trans ?_
    | with_reducible refine (Room.fld_onConv _ _ _).trans ?_
    | with_reducible refine (Room.fault_fld _ _ g (by simp only [h])).trans ?_
    | with_reducible refine (Room.attemptFail_fld _ _ g (by simp only [h])).trans ?_
    | with_reducible refine (Room.armRetry_fld _ _ g (by simp only [h])).trans ?_
    | with_reducible refine (Room.outputsOff_fld _ _ g (by simp only [h])).trans ?_
    | with_reducible refine (Room.fld_mk _ _ _ _ _ _ _ _ _ _ _ _ _ _ _ _ _ _ _ _).trans ?_
    | with_reducible refine (Room.fld_regs _ _).trans ?_
    | split

def Room.leaveSafeW : List Field :=
  [EVENT_SAFE_EXIT, CON_STAT_RAMPING] ++ Room.retryClearW ++ Room.pdClearW ++ Room.setGrantW ++ Room.enterAW ++ Room.conClearW
theorem Room.leaveSafe_fld (e : Env) (r : Room) (g : Field)
    (h : Field.clear Room.leaveSafeW g = true) : (Room.leaveSafe e r).fld g = r.fld g := by
  simp only [Room.leaveSafeW, Field.clear_append, Field.clear_cons, Field.clear_nil, Bool.and_true, Bool.and_eq_true] at h
  unfold Room.leaveSafe
  try dsimp only
  repeat' first
    | with_reducible rfl
    | with_reducible apply Room.fld_ite_eq
    | with_reducible refine (Room.fld_on_apart _ _ _ (by simp only [h])).trans ?_
    | with_reducible refine (Room.fld_off_apart _ _ _ (by simp only [h])).trans ?_
    | with_reducible refine (Room.fld_onConv _ _ _).trans ?_
    | with_reducible refine (Room.retryClear_fld _ g (by simp only [h])).trans ?_
    | with_reducible refine (Room.pdClear_fld _ _ g (by simp only [h])).trans ?_
    | with_reducible refine (Room.setGrant_fld _ _ g (by simp only [h])).trans ?_
    | with_reducible refine (Room.enterA_fld _ _ _ g (by simp only [h])).trans ?_
    | with_reducible refine (Room.conClear_fld _ _ g (by simp only [h])).trans ?_
    | with_reducible refine (Room.fld_mk _ _ _ _ _ _ _ _ _ _ _ _ _ _ _ _ _ _ _ _).trans ?_
    | with_reducible refine (Room.fld_regs _ _).trans ?_
    | split

def Room.safeDetachW : List Field :=
  [CC_EVENT_DETACH, EVENT_DETACH] ++ Room.leaveSafeW
theorem Room.safeDetach_fld (e : Env) (r : Room) (g : Field)
    (h : Field.clear Room.safeDetachW g = true) : (Room.safeDetach e r).fld g = r.fld g := by
  simp only [Room.safeDetachW, Field.clear_append, Field.clear_cons, Field.clear_nil, Bool.and_true, Bool.and_eq_true] at h
  unfold Room.safeDetach
  try dsimp only
  repeat' first
    | with_reducible rfl
    | with_reducible apply Room.fld_ite_eq
    | with_reducible refine (Room.fld_on_apart _ _ _ (by simp only [h])).trans ?_
    | with_reducible refine (Room.leaveSafe_fld _ _ g (by simp only [h])).trans ?_
    | split

def Room.enterSlotHoldW : List Field :=
  [CC_EVENT_DETACH, EVENT_DETACH] ++ Room.pdClearW ++ Room.setGrantW ++ Room.enterAW ++ Room.conClearW ++ Room.outputsOffW
theorem Room.enterSlotHold_fld (e : Env) (r : Room) (g : Field)
    (h : Field.clear Room.enterSlotHoldW g = true) : (Room.enterSlotHold e r).fld g = r.fld g := by
  simp only [Room.enterSlotHoldW, Field.clear_append, Field.clear_cons, Field.clear_nil, Bool.and_true, Bool.and_eq_true] at h
  unfold Room.enterSlotHold
  try dsimp only
  repeat' first
    | with_reducible rfl
    | with_reducible apply Room.fld_ite_eq
    | with_reducible refine (Room.fld_on_apart _ _ _ (by simp only [h])).trans ?_
    | with_reducible refine (Room.pdClear_fld _ _ g (by simp only [h])).trans ?_
    | with_reducible refine (Room.setGrant_fld _ _ g (by simp only [h])).trans ?_
    | with_reducible refine (Room.enterA_fld _ _ _ g (by simp only [h])).trans ?_
    | with_reducible refine (Room.conClear_fld _ _ g (by simp only [h])).trans ?_
    | with_reducible refine (Room.outputsOff_fld _ _ g (by simp only [h])).trans ?_
    | with_reducible refine (Room.fld_mk _ _ _ _ _ _ _ _ _ _ _ _ _ _ _ _ _ _ _ _).trans ?_
    | with_reducible refine (Room.fld_regs _ _).trans ?_
    | split

def Room.leaveSlotHoldW : List Field :=
  [] ++ Room.restartW ++ Room.termsW
theorem Room.leaveSlotHold_fld (e : Env) (r : Room) (g : Field)
    (h : Field.clear Room.leaveSlotHoldW g = true) : (Room.leaveSlotHold e r).fld g = r.fld g := by
  simp only [Room.leaveSlotHoldW, Field.clear_append, Field.clear_cons, Field.clear_nil, Bool.and_true, Bool.and_eq_true] at h
  unfold Room.leaveSlotHold
  try dsimp only
  repeat' first
    | with_reducible rfl
    | with_reducible apply Room.fld_ite_eq
    | with_reducible refine (Room.restart_fld _ _ g (by simp only [h])).trans ?_
    | with_reducible refine (Room.terms_fld _ _ g (by simp only [h])).trans ?_
    | with_reducible refine (Room.fld_mk _ _ _ _ _ _ _ _ _ _ _ _ _ _ _ _ _ _ _ _).trans ?_
    | with_reducible refine (Room.fld_regs _ _).trans ?_
    | split

def Room.hardResetCauseW : List Field :=
  [PD_EVENT_ERR_RECOVERY] ++ Room.errorRecoveryW
theorem Room.hardResetCause_fld (e : Env) (r : Room) (g : Field)
    (h : Field.clear Room.hardResetCauseW g = true) : (Room.hardResetCause e r).fld g = r.fld g := by
  simp only [Room.hardResetCauseW, Field.clear_append, Field.clear_cons, Field.clear_nil, Bool.and_true, Bool.and_eq_true] at h
  unfold Room.hardResetCause
  repeat' first
    | with_reducible rfl
    | with_reducible apply Room.fld_ite_eq
    | with_reducible refine (Room.fld_on_apart _ _ _ (by simp only [h])).trans ?_
    | with_reducible refine (Room.fld_onPd _ _ _).trans ?_
    | with_reducible refine (Room.errorRecovery_fld _ _ g (by simp only [h])).trans ?_
    | with_reducible refine (Room.fld_mk _ _ _ _ _ _ _ _ _ _ _ _ _ _ _ _ _ _ _ _).trans ?_
    | with_reducible refine (Room.fld_regs _ _).trans ?_
    | split

def Room.startHrW : List Field :=
  [PD_STAT_HR_ACTIVE, CON_EVENT_SWAP_FAIL, CON_STAT_SWAP, CON_STAT_GIVEUP, CON_STAT_ENFORCED, CON_STAT_HR_SEQ] ++ Room.txAbortW ++ Room.pdResetW ++ Room.errorRecoveryW ++ Room.endResvW ++ Room.toStepW ++ Room.endExplicitW ++ Room.setGrantW ++ Room.refreshIlimW ++ Room.openSwitchW ++ Room.loopOffW ++ Room.refreshVlimW
theorem Room.startHr_fld (e : Env) (r : Room) (g : Field)
    (h : Field.clear Room.startHrW g = true) : (Room.startHr e r).fld g = r.fld g := by
  simp only [Room.startHrW, Field.clear_append, Field.clear_cons, Field.clear_nil, Bool.and_true, Bool.and_eq_true] at h
  unfold Room.startHr
  try dsimp only
  repeat' first
    | with_reducible rfl
    | with_reducible apply Room.fld_ite_eq
    | with_reducible refine (Room.fld_on_apart _ _ _ (by simp only [h])).trans ?_
    | with_reducible refine (Room.fld_off_apart _ _ _ (by simp only [h])).trans ?_
    | with_reducible refine (Room.fld_onCc _ _ _).trans ?_
    | with_reducible refine (Room.fld_onPd _ _ _).trans ?_
    | with_reducible refine (Room.fld_onCon _ _ _).trans ?_
    | with_reducible refine (Room.txAbort_fld _ _ g (by simp only [h])).trans ?_
    | with_reducible refine (Room.pdReset_fld _ g (by simp only [h])).trans ?_
    | with_reducible refine (Room.errorRecovery_fld _ _ g (by simp only [h])).trans ?_
    | with_reducible refine (Room.endResv_fld _ g (by simp only [h])).trans ?_
    | with_reducible refine (Room.toStep_fld _ _ _ g (by simp only [h])).trans ?_
    | with_reducible refine (Room.endExplicit_fld _ _ g (by simp only [h])).trans ?_
    | with_reducible refine (Room.setGrant_fld _ _ g (by simp only [h])).trans ?_
    | with_reducible refine (Room.refreshIlim_fld _ _ g (by simp only [h])).trans ?_
    | with_reducible refine (Room.openSwitch_fld _ g (by simp only [h])).trans ?_
    | with_reducible refine (Room.loopOff_fld _ g (by simp only [h])).trans ?_
    | with_reducible refine (Room.refreshVlim_fld _ _ g (by simp only [h])).trans ?_
    | with_reducible refine (Room.fld_mk _ _ _ _ _ _ _ _ _ _ _ _ _ _ _ _ _ _ _ _).trans ?_
    | with_reducible refine (Room.fld_regs _ _).trans ?_
    | split

def Room.lostResumeW : List Field :=
  []
theorem Room.lostResume_fld (e : Env) (r : Room) (g : Field)
    (h : Field.clear Room.lostResumeW g = true) : (Room.lostResume e r).fld g = r.fld g := by
  simp only [Room.lostResumeW, Field.clear_append, Field.clear_cons, Field.clear_nil, Bool.and_true, Bool.and_eq_true] at h
  unfold Room.lostResume
  repeat' first
    | with_reducible rfl
    | with_reducible apply Room.fld_ite_eq
    | with_reducible refine (Room.fld_onCc _ _ _).trans ?_
    | with_reducible refine (Room.fld_mk _ _ _ _ _ _ _ _ _ _ _ _ _ _ _ _ _ _ _ _).trans ?_
    | with_reducible refine (Room.fld_regs _ _).trans ?_
    | split

def Room.setVsetW : List Field :=
  [VSET_MV] ++ Room.refreshIlimW
theorem Room.setVset_fld (e : Env) (mv : Nat) (r : Room) (g : Field)
    (h : Field.clear Room.setVsetW g = true) : (Room.setVset e mv r).fld g = r.fld g := by
  simp only [Room.setVsetW, Field.clear_append, Field.clear_cons, Field.clear_nil, Bool.and_true, Bool.and_eq_true] at h
  unfold Room.setVset
  repeat' first
    | with_reducible rfl
    | with_reducible apply Room.fld_ite_eq
    | with_reducible refine (Room.fld_put_apart _ _ _ _ (by simp only [h])).trans ?_
    | with_reducible refine (Room.refreshIlim_fld _ _ g (by simp only [h])).trans ?_
    | split

def Room.rampToW : List Field :=
  [CON_STAT_SETTLED] ++ Room.setVsetW ++ Room.slewRateW ++ Room.refreshRampW ++ Room.toStepW
theorem Room.rampTo_fld (e : Env) (mv : Nat) (r : Room) (g : Field)
    (h : Field.clear Room.rampToW g = true) : (Room.rampTo e mv r).fld g = r.fld g := by
  simp only [Room.rampToW, Field.clear_append, Field.clear_cons, Field.clear_nil, Bool.and_true, Bool.and_eq_true] at h
  unfold Room.rampTo
  try dsimp only
  repeat' first
    | with_reducible rfl
    | with_reducible apply Room.fld_ite_eq
    | with_reducible refine (Room.fld_off_apart _ _ _ (by simp only [h])).trans ?_
    | with_reducible refine (Room.fld_onCon _ _ _).trans ?_
    | with_reducible refine (Room.setVset_fld _ _ _ g (by simp only [h])).trans ?_
    | with_reducible refine (Room.slewRate_fld _ g (by simp only [h])).trans ?_
    | with_reducible refine (Room.refreshRamp_fld _ _ _ g (by simp only [h])).trans ?_
    | with_reducible refine (Room.toStep_fld _ _ _ g (by simp only [h])).trans ?_
    | with_reducible refine (Room.fld_mk _ _ _ _ _ _ _ _ _ _ _ _ _ _ _ _ _ _ _ _).trans ?_
    | with_reducible refine (Room.fld_regs _ _).trans ?_
    | split

def Room.vsetRestW : List Field :=
  [] ++ Room.rampToW ++ Room.setVsetW
theorem Room.vsetRest_fld (e : Env) (r : Room) (g : Field)
    (h : Field.clear Room.vsetRestW g = true) : (Room.vsetRest e r).fld g = r.fld g := by
  simp only [Room.vsetRestW, Field.clear_append, Field.clear_cons, Field.clear_nil, Bool.and_true, Bool.and_eq_true] at h
  unfold Room.vsetRest
  repeat' first
    | with_reducible rfl
    | with_reducible apply Room.fld_ite_eq
    | with_reducible refine (Room.rampTo_fld _ _ _ g (by simp only [h])).trans ?_
    | with_reducible refine (Room.setVset_fld _ _ _ g (by simp only [h])).trans ?_
    | split

def Room.sinkSwitchW : List Field :=
  [] ++ Room.closeSwitchW ++ Room.openSwitchW ++ Room.loopOffW
theorem Room.sinkSwitch_fld (e : Env) (r : Room) (g : Field)
    (h : Field.clear Room.sinkSwitchW g = true) : (Room.sinkSwitch e r).fld g = r.fld g := by
  simp only [Room.sinkSwitchW, Field.clear_append, Field.clear_cons, Field.clear_nil, Bool.and_true, Bool.and_eq_true] at h
  unfold Room.sinkSwitch
  repeat' first
    | with_reducible rfl
    | with_reducible apply Room.fld_ite_eq
    | with_reducible refine (Room.fld_onConv _ _ _).trans ?_
    | with_reducible refine (Room.closeSwitch_fld _ _ g (by simp only [h])).trans ?_
    | with_reducible refine (Room.openSwitch_fld _ g (by simp only [h])).trans ?_
    | with_reducible refine (Room.loopOff_fld _ g (by simp only [h])).trans ?_
    | with_reducible refine (Room.fld_mk _ _ _ _ _ _ _ _ _ _ _ _ _ _ _ _ _ _ _ _).trans ?_
    | with_reducible refine (Room.fld_regs _ _).trans ?_
    | split

def Room.endHrW : List Field :=
  [PD_STAT_HR_ACTIVE, CON_STAT_HR_SEQ, CON_STAT_STEP] ++ Room.lostResumeW ++ Room.vsetRestW ++ Room.sinkSwitchW
theorem Room.endHr_fld (e : Env) (r : Room) (g : Field)
    (h : Field.clear Room.endHrW g = true) : (Room.endHr e r).fld g = r.fld g := by
  simp only [Room.endHrW, Field.clear_append, Field.clear_cons, Field.clear_nil, Bool.and_true, Bool.and_eq_true] at h
  unfold Room.endHr
  repeat' first
    | with_reducible rfl
    | with_reducible apply Room.fld_ite_eq
    | with_reducible refine (Room.fld_off_apart _ _ _ (by simp only [h])).trans ?_
    | with_reducible refine (Room.lostResume_fld _ _ g (by simp only [h])).trans ?_
    | with_reducible refine (Room.vsetRest_fld _ _ g (by simp only [h])).trans ?_
    | with_reducible refine (Room.sinkSwitch_fld _ _ g (by simp only [h])).trans ?_
    | split

def Room.swapEndW : List Field :=
  [CON_STAT_SWAP, CON_STAT_STEP, CON_EVENT_SWAP_DONE] ++ Room.lostResumeW ++ Room.vsetRestW
theorem Room.swapEnd_fld (e : Env) (r : Room) (g : Field)
    (h : Field.clear Room.swapEndW g = true) : (Room.swapEnd e r).fld g = r.fld g := by
  simp only [Room.swapEndW, Field.clear_append, Field.clear_cons, Field.clear_nil, Bool.and_true, Bool.and_eq_true] at h
  unfold Room.swapEnd
  try dsimp only
  repeat' first
    | with_reducible rfl
    | with_reducible apply Room.fld_ite_eq
    | with_reducible refine (Room.fld_on_apart _ _ _ (by simp only [h])).trans ?_
    | with_reducible refine (Room.fld_off_apart _ _ _ (by simp only [h])).trans ?_
    | with_reducible refine (Room.fld_onCon _ _ _).trans ?_
    | with_reducible refine (Room.lostResume_fld _ _ g (by simp only [h])).trans ?_
    | with_reducible refine (Room.vsetRest_fld _ _ g (by simp only [h])).trans ?_
    | with_reducible refine (Room.fld_mk _ _ _ _ _ _ _ _ _ _ _ _ _ _ _ _ _ _ _ _).trans ?_
    | with_reducible refine (Room.fld_regs _ _).trans ?_
    | split

def Room.swapDoneW : List Field :=
  [] ++ Room.swapEndW ++ Room.endExplicitW ++ Room.vsetRestW
theorem Room.swapDone_fld (e : Env) (r : Room) (g : Field)
    (h : Field.clear Room.swapDoneW g = true) : (Room.swapDone e r).fld g = r.fld g := by
  simp only [Room.swapDoneW, Field.clear_append, Field.clear_cons, Field.clear_nil, Bool.and_true, Bool.and_eq_true] at h
  unfold Room.swapDone
  repeat' first
    | with_reducible rfl
    | with_reducible apply Room.fld_ite_eq
    | with_reducible refine (Room.swapEnd_fld _ _ g (by simp only [h])).trans ?_
    | with_reducible refine (Room.endExplicit_fld _ _ g (by simp only [h])).trans ?_
    | with_reducible refine (Room.vsetRest_fld _ _ g (by simp only [h])).trans ?_
    | split

def Room.pdSilentW : List Field :=
  [] ++ Room.txAbortW
theorem Room.pdSilent_fld (r : Room) (g : Field)
    (h : Field.clear Room.pdSilentW g = true) : (Room.pdSilent r).fld g = r.fld g := by
  simp only [Room.pdSilentW, Field.clear_append, Field.clear_cons, Field.clear_nil, Bool.and_true, Bool.and_eq_true] at h
  unfold Room.pdSilent
  repeat' first
    | with_reducible rfl
    | with_reducible apply Room.fld_ite_eq
    | with_reducible refine (Room.fld_onPd _ _ _).trans ?_
    | with_reducible refine (Room.txAbort_fld _ _ g (by simp only [h])).trans ?_
    | with_reducible refine (Room.fld_mk _ _ _ _ _ _ _ _ _ _ _ _ _ _ _ _ _ _ _ _).trans ?_
    | with_reducible refine (Room.fld_regs _ _).trans ?_
    | split

def Room.toShadowW : List Field :=
  [STATUS_KEEPER] ++ Room.pdSilentW ++ Room.setLoopW ++ Room.termsW
theorem Room.toShadow_fld (e : Env) (r : Room) (g : Field)
    (h : Field.clear Room.toShadowW g = true) : (Room.toShadow e r).fld g = r.fld g := by
  simp only [Room.toShadowW, Field.clear_append, Field.clear_cons, Field.clear_nil, Bool.and_true, Bool.and_eq_true] at h
  unfold Room.toShadow
  repeat' first
    | with_reducible rfl
    | with_reducible apply Room.fld_ite_eq
    | with_reducible refine (Room.fld_off_apart _ _ _ (by simp only [h])).trans ?_
    | with_reducible refine (Room.fld_onCc _ _ _).trans ?_
    | with_reducible refine (Room.pdSilent_fld _ g (by simp only [h])).trans ?_
    | with_reducible refine (Room.setLoop_fld _ _ g (by simp only [h])).trans ?_
    | with_reducible refine (Room.terms_fld _ _ g (by simp only [h])).trans ?_
    | with_reducible refine (Room.fld_mk _ _ _ _ _ _ _ _ _ _ _ _ _ _ _ _ _ _ _ _).trans ?_
    | with_reducible refine (Room.fld_regs _ _).trans ?_
    | split

def Room.cutToW : List Field :=
  [GRANT_RESV_W] ++ Room.setGrantW ++ Room.grantFellW ++ Room.refreshIlimW
theorem Room.cutTo_fld (e : Env) (r : Room) (d : Nat) (g : Field)
    (h : Field.clear Room.cutToW g = true) : (Room.cutTo e r d).fld g = r.fld g := by
  simp only [Room.cutToW, Field.clear_append, Field.clear_cons, Field.clear_nil, Bool.and_true, Bool.and_eq_true] at h
  unfold Room.cutTo
  try dsimp only
  repeat' first
    | with_reducible rfl
    | with_reducible apply Room.fld_ite_eq
    | with_reducible refine (Room.fld_put_apart _ _ _ _ (by simp only [h])).trans ?_
    | with_reducible refine (Room.fld_onCon _ _ _).trans ?_
    | with_reducible refine (Room.setGrant_fld _ _ g (by simp only [h])).trans ?_
    | with_reducible refine (Room.grantFell_fld _ _ g (by simp only [h])).trans ?_
    | with_reducible refine (Room.refreshIlim_fld _ _ g (by simp only [h])).trans ?_
    | with_reducible refine (Room.fld_mk _ _ _ _ _ _ _ _ _ _ _ _ _ _ _ _ _ _ _ _).trans ?_
    | with_reducible refine (Room.fld_regs _ _).trans ?_
    | split

def Room.transStartW : List Field :=
  [CON_STAT_SETTLED, CON_STAT_GIVEUP] ++ Room.setGrantW ++ Room.endResvW ++ Room.toStepW ++ Room.refreshIlimW
theorem Room.transStart_fld (e : Env) (r : Room) (g : Field)
    (h : Field.clear Room.transStartW g = true) : (Room.transStart e r).fld g = r.fld g := by
  simp only [Room.transStartW, Field.clear_append, Field.clear_cons, Field.clear_nil, Bool.and_true, Bool.and_eq_true] at h
  unfold Room.transStart
  try dsimp only
  repeat' first
    | with_reducible rfl
    | with_reducible apply Room.fld_ite_eq
    | with_reducible refine (Room.fld_off_apart _ _ _ (by simp only [h])).trans ?_
    | with_reducible refine (Room.fld_onCon _ _ _).trans ?_
    | with_reducible refine (Room.fld_onConv _ _ _).trans ?_
    | with_reducible refine (Room.setGrant_fld _ _ g (by simp only [h])).trans ?_
    | with_reducible refine (Room.endResv_fld _ g (by simp only [h])).trans ?_
    | with_reducible refine (Room.toStep_fld _ _ _ g (by simp only [h])).trans ?_
    | with_reducible refine (Room.refreshIlim_fld _ _ g (by simp only [h])).trans ?_
    | with_reducible refine (Room.fld_mk _ _ _ _ _ _ _ _ _ _ _ _ _ _ _ _ _ _ _ _).trans ?_
    | with_reducible refine (Room.fld_regs _ _).trans ?_
    | split

def Room.afterTransW : List Field :=
  [CON_STAT_ENFORCED] ++ Room.refreshIlimW ++ Room.grantFellW ++ Room.refreshVlimW ++ Room.vlimDropW
theorem Room.afterTrans_fld (e : Env) (r : Room) (g : Field)
    (h : Field.clear Room.afterTransW g = true) : (Room.afterTrans e r).fld g = r.fld g := by
  simp only [Room.afterTransW, Field.clear_append, Field.clear_cons, Field.clear_nil, Bool.and_true, Bool.and_eq_true] at h
  unfold Room.afterTrans
  try dsimp only
  repeat' first
    | with_reducible rfl
    | with_reducible apply Room.fld_ite_eq
    | with_reducible refine (Room.fld_off_apart _ _ _ (by simp only [h])).trans ?_
    | with_reducible refine (Room.refreshIlim_fld _ _ g (by simp only [h])).trans ?_
    | with_reducible refine (Room.grantFell_fld _ _ g (by simp only [h])).trans ?_
    | with_reducible refine (Room.refreshVlim_fld _ _ g (by simp only [h])).trans ?_
    | with_reducible refine (Room.vlimDrop_fld _ _ g (by simp only [h])).trans ?_
    | split

def Room.transEndW : List Field :=
  [PD_STAT_EXPLICIT, CON_VI_MV, CON_VI_MA, CON_STAT_TYPE, CON_STAT_POS, CON_EVENT_CONTRACT, EVENT_CONTRACT, CON_STAT_STEP, PD_STAT_HR_COUNT, CC_STAT_RP_ADV] ++ Room.setGrantW ++ Room.refreshIlimW ++ Room.afterTransW
theorem Room.transEnd_fld (e : Env) (r : Room) (g : Field)
    (h : Field.clear Room.transEndW g = true) : (Room.transEnd e r).fld g = r.fld g := by
  simp only [Room.transEndW, Field.clear_append, Field.clear_cons, Field.clear_nil, Bool.and_true, Bool.and_eq_true] at h
  unfold Room.transEnd
  try dsimp only
  repeat' first
    | with_reducible rfl
    | with_reducible apply Room.fld_ite_eq
    | with_reducible refine (Room.fld_put_apart _ _ _ _ (by simp only [h])).trans ?_
    | with_reducible refine (Room.fld_on_apart _ _ _ (by simp only [h])).trans ?_
    | with_reducible refine (Room.fld_off_apart _ _ _ (by simp only [h])).trans ?_
    | with_reducible refine (Room.fld_onCc _ _ _).trans ?_
    | with_reducible refine (Room.fld_onCon _ _ _).trans ?_
    | with_reducible refine (Room.setGrant_fld _ _ g (by simp only [h])).trans ?_
    | with_reducible refine (Room.refreshIlim_fld _ _ g (by simp only [h])).trans ?_
    | with_reducible refine (Room.afterTrans_fld _ _ g (by simp only [h])).trans ?_
    | with_reducible refine (Room.fld_mk _ _ _ _ _ _ _ _ _ _ _ _ _ _ _ _ _ _ _ _).trans ?_
    | with_reducible refine (Room.fld_regs _ _).trans ?_
    | split

def Room.refReachedW : List Field :=
  [] ++ Room.refreshRampW ++ Room.toStepW
theorem Room.refReached_fld (e : Env) (r : Room) (g : Field)
    (h : Field.clear Room.refReachedW g = true) : (Room.refReached e r).fld g = r.fld g := by
  simp only [Room.refReachedW, Field.clear_append, Field.clear_cons, Field.clear_nil, Bool.and_true, Bool.and_eq_true] at h
  unfold Room.refReached
  try dsimp only
  repeat' first
    | with_reducible rfl
    | with_reducible apply Room.fld_ite_eq
    | with_reducible refine (Room.fld_onCon _ _ _).trans ?_
    | with_reducible refine (Room.refreshRamp_fld _ _ _ g (by simp only [h])).trans ?_
    | with_reducible refine (Room.toStep_fld _ _ _ g (by simp only [h])).trans ?_
    | with_reducible refine (Room.fld_mk _ _ _ _ _ _ _ _ _ _ _ _ _ _ _ _ _ _ _ _).trans ?_
    | with_reducible refine (Room.fld_regs _ _).trans ?_
    | split

def Room.keepVconnW : List Field :=
  [VCONN_CTRL_EN]
theorem Room.keepVconn_fld (r : Room) (g : Field)
    (h : Field.clear Room.keepVconnW g = true) : (Room.keepVconn r).fld g = r.fld g := by
  simp only [Room.keepVconnW, Field.clear_append, Field.clear_cons, Field.clear_nil, Bool.and_true, Bool.and_eq_true] at h
  unfold Room.keepVconn
  repeat' first
    | with_reducible rfl
    | with_reducible apply Room.fld_ite_eq
    | with_reducible refine (Room.fld_on_apart _ _ _ (by simp only [h])).trans ?_
    | split

def Room.toSinkW : List Field :=
  [] ++ Room.keepVconnW ++ Room.loopOffW ++ Room.enterAW ++ Room.implicitViW
theorem Room.toSink_fld (e : Env) (r : Room) (g : Field)
    (h : Field.clear Room.toSinkW g = true) : (Room.toSink e r).fld g = r.fld g := by
  simp only [Room.toSinkW, Field.clear_append, Field.clear_cons, Field.clear_nil, Bool.and_true, Bool.and_eq_true] at h
  unfold Room.toSink
  try dsimp only
  repeat' first
    | with_reducible rfl
    | with_reducible apply Room.fld_ite_eq
    | with_reducible refine (Room.fld_onCc _ _ _).trans ?_
    | with_reducible refine (Room.fld_onConv _ _ _).trans ?_
    | with_reducible refine (Room.keepVconn_fld _ g (by simp only [h])).trans ?_
    | with_reducible refine (Room.loopOff_fld _ g (by simp only [h])).trans ?_
    | with_reducible refine (Room.enterA_fld _ _ _ g (by simp only [h])).trans ?_
    | with_reducible refine (Room.implicitVi_fld _ _ g (by simp only [h])).trans ?_
    | with_reducible refine (Room.fld_mk _ _ _ _ _ _ _ _ _ _ _ _ _ _ _ _ _ _ _ _).trans ?_
    | with_reducible refine (Room.fld_regs _ _).trans ?_
    | split

def Room.toSourceW : List Field :=
  [CC_STAT_RP_ADV, VSET_MV] ++ Room.keepVconnW ++ Room.enterAW ++ Room.implicitViW
theorem Room.toSource_fld (e : Env) (r : Room) (g : Field)
    (h : Field.clear Room.toSourceW g = true) : (Room.toSource e r).fld g = r.fld g := by
  simp only [Room.toSourceW, Field.clear_append, Field.clear_cons, Field.clear_nil, Bool.and_true, Bool.and_eq_true] at h
  unfold Room.toSource
  try dsimp only
  repeat' first
    | with_reducible rfl
    | with_reducible apply Room.fld_ite_eq
    | with_reducible refine (Room.fld_put_apart _ _ _ _ (by simp only [h])).trans ?_
    | with_reducible refine (Room.fld_onCc _ _ _).trans ?_
    | with_reducible refine (Room.keepVconn_fld _ g (by simp only [h])).trans ?_
    | with_reducible refine (Room.enterA_fld _ _ _ g (by simp only [h])).trans ?_
    | with_reducible refine (Room.implicitVi_fld _ _ g (by simp only [h])).trans ?_
    | with_reducible refine (Room.fld_mk _ _ _ _ _ _ _ _ _ _ _ _ _ _ _ _ _ _ _ _).trans ?_
    | with_reducible refine (Room.fld_regs _ _).trans ?_
    | split

def Room.swapForwardW : List Field :=
  [] ++ Room.loopStartW
theorem Room.swapForward_fld (e : Env) (r : Room) (g : Field)
    (h : Field.clear Room.swapForwardW g = true) : (Room.swapForward e r).fld g = r.fld g := by
  simp only [Room.swapForwardW, Field.clear_append, Field.clear_cons, Field.clear_nil, Bool.and_true, Bool.and_eq_true] at h
  unfold Room.swapForward
  repeat' first
    | with_reducible rfl
    | with_reducible apply Room.fld_ite_eq
    | with_reducible refine (Room.fld_onConv _ _ _).trans ?_
    | with_reducible refine (Room.loopStart_fld _ _ g (by simp only [h])).trans ?_
    | with_reducible refine (Room.fld_mk _ _ _ _ _ _ _ _ _ _ _ _ _ _ _ _ _ _ _ _).trans ?_
    | with_reducible refine (Room.fld_regs _ _).trans ?_
    | split

def Room.hwAskW : List Field :=
  [] ++ Room.askW
theorem Room.hwAsk_fld (e : Env) (w : Nat) (r : Room) (g : Field)
    (h : Field.clear Room.hwAskW g = true) : (Room.hwAsk e w r).fld g = r.fld g := by
  simp only [Room.hwAskW, Field.clear_append, Field.clear_cons, Field.clear_nil, Bool.and_true, Bool.and_eq_true] at h
  unfold Room.hwAsk
  repeat' first
    | with_reducible rfl
    | with_reducible apply Room.fld_ite_eq
    | with_reducible refine (Room.ask_fld _ _ _ _ g (by simp only [h])).trans ?_
    | split

def Room.prSwapStartW : List Field :=
  [CON_STAT_SETTLED, CON_STAT_SWAP] ++ Room.toStepW ++ Room.hwAskW
theorem Room.prSwapStart_fld (e : Env) (r : Room) (g : Field)
    (h : Field.clear Room.prSwapStartW g = true) : (Room.prSwapStart e r).fld g = r.fld g := by
  simp only [Room.prSwapStartW, Field.clear_append, Field.clear_cons, Field.clear_nil, Bool.and_true, Bool.and_eq_true] at h
  unfold Room.prSwapStart
  try dsimp only
  repeat' first
    | with_reducible rfl
    | with_reducible apply Room.fld_ite_eq
    | with_reducible refine (Room.fld_put_apart _ _ _ _ (by simp only [h])).trans ?_
    | with_reducible refine (Room.fld_off_apart _ _ _ (by simp only [h])).trans ?_
    | with_reducible refine (Room.fld_onCc _ _ _).trans ?_
    | with_reducible refine (Room.fld_onCon _ _ _).trans ?_
    | with_reducible refine (Room.fld_onConv _ _ _).trans ?_
    | with_reducible refine (Room.toStep_fld _ _ _ g (by simp only [h])).trans ?_
    | with_reducible refine (Room.hwAsk_fld _ _ _ g (by simp only [h])).trans ?_
    | with_reducible refine (Room.fld_mk _ _ _ _ _ _ _ _ _ _ _ _ _ _ _ _ _ _ _ _).trans ?_
    | with_reducible refine (Room.fld_regs _ _).trans ?_
    | split

def Room.vconnSwapStartW : List Field :=
  [CON_STAT_SWAP] ++ Room.toStepW
theorem Room.vconnSwapStart_fld (e : Env) (r : Room) (g : Field)
    (h : Field.clear Room.vconnSwapStartW g = true) : (Room.vconnSwapStart e r).fld g = r.fld g := by
  simp only [Room.vconnSwapStartW, Field.clear_append, Field.clear_cons, Field.clear_nil, Bool.and_true, Bool.and_eq_true] at h
  unfold Room.vconnSwapStart
  try dsimp only
  repeat' first
    | with_reducible rfl
    | with_reducible apply Room.fld_ite_eq
    | with_reducible refine (Room.fld_put_apart _ _ _ _ (by simp only [h])).trans ?_
    | with_reducible refine (Room.fld_onCon _ _ _).trans ?_
    | with_reducible refine (Room.toStep_fld _ _ _ g (by simp only [h])).trans ?_
    | with_reducible refine (Room.fld_mk _ _ _ _ _ _ _ _ _ _ _ _ _ _ _ _ _ _ _ _).trans ?_
    | with_reducible refine (Room.fld_regs _ _).trans ?_
    | split

def Room.acceptedW : List Field :=
  [] ++ Room.transStartW ++ Room.prSwapStartW ++ Room.vconnSwapStartW
theorem Room.accepted_fld (e : Env) (re : Nat) (r : Room) (g : Field)
    (h : Field.clear Room.acceptedW g = true) : (Room.accepted e re r).fld g = r.fld g := by
  simp only [Room.acceptedW, Field.clear_append, Field.clear_cons, Field.clear_nil, Bool.and_true, Bool.and_eq_true] at h
  unfold Room.accepted
  repeat' first
    | with_reducible rfl
    | split
    | with_reducible apply Room.fld_ite_eq
    | with_reducible refine (Room.transStart_fld _ _ g (by simp only [h])).trans ?_
    | with_reducible refine (Room.prSwapStart_fld _ _ g (by simp only [h])).trans ?_
    | with_reducible refine (Room.vconnSwapStart_fld _ _ g (by simp only [h])).trans ?_
    | with_reducible refine (Room.fld_mk _ _ _ _ _ _ _ _ _ _ _ _ _ _ _ _ _ _ _ _).trans ?_
    | with_reducible refine (Room.fld_regs _ _).trans ?_

def Room.frsTriggerW : List Field :=
  [CON_STAT_SWAP, CON_EVENT_FRS_TX, CON_STAT_SETTLED] ++ Room.loopOffW ++ Room.midRailW ++ Room.toStepW
theorem Room.frsTrigger_fld (e : Env) (r : Room) (g : Field)
    (h : Field.clear Room.frsTriggerW g = true) : (Room.frsTrigger e r).fld g = r.fld g := by
  simp only [Room.frsTriggerW, Field.clear_append, Field.clear_cons, Field.clear_nil, Bool.and_true, Bool.and_eq_true] at h
  unfold Room.frsTrigger
  try dsimp only
  repeat' first
    | with_reducible rfl
    | with_reducible apply Room.fld_ite_eq
    | with_reducible refine (Room.fld_put_apart _ _ _ _ (by simp only [h])).trans ?_
    | with_reducible refine (Room.fld_on_apart _ _ _ (by simp only [h])).trans ?_
    | with_reducible refine (Room.fld_off_apart _ _ _ (by simp only [h])).trans ?_
    | with_reducible refine (Room.fld_onCc _ _ _).trans ?_
    | with_reducible refine (Room.fld_onCon _ _ _).trans ?_
    | with_reducible refine (Room.loopOff_fld _ g (by simp only [h])).trans ?_
    | with_reducible refine (Room.midRail_fld _ g (by simp only [h])).trans ?_
    | with_reducible refine (Room.toStep_fld _ _ _ g (by simp only [h])).trans ?_
    | with_reducible refine (Room.fld_mk _ _ _ _ _ _ _ _ _ _ _ _ _ _ _ _ _ _ _ _).trans ?_
    | with_reducible refine (Room.fld_regs _ _).trans ?_
    | split

def Room.psRdySentW : List Field :=
  [] ++ Room.toStepW ++ Room.swapDoneW ++ Room.swapEndW ++ Room.transEndW
theorem Room.psRdySent_fld (e : Env) (r : Room) (g : Field)
    (h : Field.clear Room.psRdySentW g = true) : (Room.psRdySent e r).fld g = r.fld g := by
  simp only [Room.psRdySentW, Field.clear_append, Field.clear_cons, Field.clear_nil, Bool.and_true, Bool.and_eq_true] at h
  unfold Room.psRdySent
  repeat' first
    | with_reducible rfl
    | split
    | with_reducible apply Room.fld_ite_eq
    | with_reducible refine (Room.fld_onCon _ _ _).trans ?_
    | with_reducible refine (Room.toStep_fld _ _ _ g (by simp only [h])).trans ?_
    | with_reducible refine (Room.swapDone_fld _ _ g (by simp only [h])).trans ?_
    | with_reducible refine (Room.swapEnd_fld _ _ g (by simp only [h])).trans ?_
    | with_reducible refine (Room.transEnd_fld _ _ g (by simp only [h])).trans ?_
    | with_reducible refine (Room.fld_mk _ _ _ _ _ _ _ _ _ _ _ _ _ _ _ _ _ _ _ _).trans ?_
    | with_reducible refine (Room.fld_regs _ _).trans ?_

def Room.sinkDoneW : List Field :=
  [] ++ Room.swapDoneW ++ Room.setGrantW ++ Room.refreshIlimW
theorem Room.sinkDone_fld (e : Env) (r : Room) (g : Field)
    (h : Field.clear Room.sinkDoneW g = true) : (Room.sinkDone e r).fld g = r.fld g := by
  simp only [Room.sinkDoneW, Field.clear_append, Field.clear_cons, Field.clear_nil, Bool.and_true, Bool.and_eq_true] at h
  unfold Room.sinkDone
  repeat' first
    | with_reducible rfl
    | with_reducible apply Room.fld_ite_eq
    | with_reducible refine (Room.swapDone_fld _ _ g (by simp only [h])).trans ?_
    | with_reducible refine (Room.setGrant_fld _ _ g (by simp only [h])).trans ?_
    | with_reducible refine (Room.refreshIlim_fld _ _ g (by simp only [h])).trans ?_
    | split

def Room.psRdyReceivedW : List Field :=
  [VCONN_CTRL_EN] ++ Room.sinkDoneW ++ Room.setGrantW ++ Room.endResvW ++ Room.errorRecoveryW ++ Room.toSourceW ++ Room.swapForwardW ++ Room.toStepW ++ Room.vconnW ++ Room.swapEndW ++ Room.transEndW
theorem Room.psRdyReceived_fld (e : Env) (r : Room) (g : Field)
    (h : Field.clear Room.psRdyReceivedW g = true) : (Room.psRdyReceived e r).fld g = r.fld g := by
  simp only [Room.psRdyReceivedW, Field.clear_append, Field.clear_cons, Field.clear_nil, Bool.and_true, Bool.and_eq_true] at h
  unfold Room.psRdyReceived
  try dsimp only
  repeat' first
    | with_reducible rfl
    | split
    | with_reducible apply Room.fld_ite_eq
    | with_reducible refine (Room.fld_off_apart _ _ _ (by simp only [h])).trans ?_
    | with_reducible refine (Room.fld_onCc _ _ _).trans ?_
    | with_reducible refine (Room.fld_onCon _ _ _).trans ?_
    | with_reducible refine (Room.sinkDone_fld _ _ g (by simp only [h])).trans ?_
    | with_reducible refine (Room.setGrant_fld _ _ g (by simp only [h])).trans ?_
    | with_reducible refine (Room.endResv_fld _ g (by simp only [h])).trans ?_
    | with_reducible refine (Room.errorRecovery_fld _ _ g (by simp only [h])).trans ?_
    | with_reducible refine (Room.toSource_fld _ _ g (by simp only [h])).trans ?_
    | with_reducible refine (Room.swapForward_fld _ _ g (by simp only [h])).trans ?_
    | with_reducible refine (Room.toStep_fld _ _ _ g (by simp only [h])).trans ?_
    | with_reducible refine (Room.vconn_fld _ _ g (by simp only [h])).trans ?_
    | with_reducible refine (Room.swapEnd_fld _ _ g (by simp only [h])).trans ?_
    | with_reducible refine (Room.transEnd_fld _ _ g (by simp only [h])).trans ?_
    | with_reducible refine (Room.fld_mk _ _ _ _ _ _ _ _ _ _ _ _ _ _ _ _ _ _ _ _).trans ?_
    | with_reducible refine (Room.fld_regs _ _).trans ?_

def Room.attachSrcW : List Field :=
  [CC_STAT_ORIENT, CC_STAT_ORIENT_VALID, CC_STAT_RP_ADV, CC_EVENT_ATTACH_SRC, EVENT_ATTACH, PD_STAT_DATA_ROLE, VSET_MV] ++ Room.enterAW ++ Room.implicitViW ++ Room.refreshVlimW ++ Room.closeSwitchW ++ Room.loopStartW
theorem Room.attachSrc_fld (e : Env) (rp : Nat) (r : Room) (g : Field)
    (h : Field.clear Room.attachSrcW g = true) : (Room.attachSrc e rp r).fld g = r.fld g := by
  simp only [Room.attachSrcW, Field.clear_append, Field.clear_cons, Field.clear_nil, Bool.and_true, Bool.and_eq_true] at h
  unfold Room.attachSrc
  try dsimp only
  repeat' first
    | with_reducible rfl
    | with_reducible apply Room.fld_ite_eq
    | with_reducible refine (Room.fld_put_apart _ _ _ _ (by simp only [h])).trans ?_
    | with_reducible refine (Room.fld_on_apart _ _ _ (by simp only [h])).trans ?_
    | with_reducible refine (Room.fld_putB_apart _ _ _ _ (by simp only [h])).trans ?_
    | with_reducible refine (Room.fld_onCc _ _ _).trans ?_
    | with_reducible refine (Room.fld_onPd _ _ _).trans ?_
    | with_reducible refine (Room.enterA_fld _ _ _ g (by simp only [h])).trans ?_
    | with_reducible refine (Room.implicitVi_fld _ _ g (by simp only [h])).trans ?_
    | with_reducible refine (Room.refreshVlim_fld _ _ g (by simp only [h])).trans ?_
    | with_reducible refine (Room.closeSwitch_fld _ _ g (by simp only [h])).trans ?_
    | with_reducible refine (Room.loopStart_fld _ _ g (by simp only [h])).trans ?_
    | with_reducible refine (Room.fld_mk _ _ _ _ _ _ _ _ _ _ _ _ _ _ _ _ _ _ _ _).trans ?_
    | with_reducible refine (Room.fld_regs _ _).trans ?_
    | split

def Room.attachSnkW : List Field :=
  [CC_STAT_ORIENT, CC_STAT_ORIENT_VALID, CC_EVENT_ATTACH_SNK, EVENT_ATTACH, PD_STAT_DATA_ROLE] ++ Room.enterAW ++ Room.implicitViW ++ Room.refreshVlimW ++ Room.closeSwitchW
theorem Room.attachSnk_fld (e : Env) (r : Room) (g : Field)
    (h : Field.clear Room.attachSnkW g = true) : (Room.attachSnk e r).fld g = r.fld g := by
  simp only [Room.attachSnkW, Field.clear_append, Field.clear_cons, Field.clear_nil, Bool.and_true, Bool.and_eq_true] at h
  unfold Room.attachSnk
  try dsimp only
  repeat' first
    | with_reducible rfl
    | with_reducible apply Room.fld_ite_eq
    | with_reducible refine (Room.fld_on_apart _ _ _ (by simp only [h])).trans ?_
    | with_reducible refine (Room.fld_off_apart _ _ _ (by simp only [h])).trans ?_
    | with_reducible refine (Room.fld_putB_apart _ _ _ _ (by simp only [h])).trans ?_
    | with_reducible refine (Room.fld_onCc _ _ _).trans ?_
    | with_reducible refine (Room.fld_onPd _ _ _).trans ?_
    | with_reducible refine (Room.fld_onConv _ _ _).trans ?_
    | with_reducible refine (Room.enterA_fld _ _ _ g (by simp only [h])).trans ?_
    | with_reducible refine (Room.implicitVi_fld _ _ g (by simp only [h])).trans ?_
    | with_reducible refine (Room.refreshVlim_fld _ _ g (by simp only [h])).trans ?_
    | with_reducible refine (Room.closeSwitch_fld _ _ g (by simp only [h])).trans ?_
    | with_reducible refine (Room.fld_mk _ _ _ _ _ _ _ _ _ _ _ _ _ _ _ _ _ _ _ _).trans ?_
    | with_reducible refine (Room.fld_regs _ _).trans ?_
    | split

def Room.takeExitW : List Field :=
  [CC_EVENT_DEBUG_ACC, EVENT_ATTACH, CC_EVENT_AUDIO_ACC] ++ Room.enterAW ++ Room.attachSnkW ++ Room.askW ++ Room.detachW
theorem Room.takeExit_fld (e : Env) (x : Exit) (r : Room) (g : Field)
    (h : Field.clear Room.takeExitW g = true) : (Room.takeExit e x r).fld g = r.fld g := by
  simp only [Room.takeExitW, Field.clear_append, Field.clear_cons, Field.clear_nil, Bool.and_true, Bool.and_eq_true] at h
  unfold Room.takeExit
  try dsimp only
  repeat' first
    | with_reducible rfl
    | split
    | with_reducible apply Room.fld_ite_eq
    | with_reducible refine (Room.fld_on_apart _ _ _ (by simp only [h])).trans ?_
    | with_reducible refine (Room.fld_onCc _ _ _).trans ?_
    | with_reducible refine (Room.enterA_fld _ _ _ g (by simp only [h])).trans ?_
    | with_reducible refine (Room.attachSnk_fld _ _ g (by simp only [h])).trans ?_
    | with_reducible refine (Room.ask_fld _ _ _ _ g (by simp only [h])).trans ?_
    | with_reducible refine (Room.detach_fld _ _ g (by simp only [h])).trans ?_
    | with_reducible refine (Room.fld_mk _ _ _ _ _ _ _ _ _ _ _ _ _ _ _ _ _ _ _ _).trans ?_
    | with_reducible refine (Room.fld_regs _ _).trans ?_

def Room.advanceW : List Field :=
  [] ++ Room.safeDetachW ++ Room.takeExitW
theorem Room.advance_fld (e : Env) (tags : List Tag) (r : Room) (g : Field)
    (h : Field.clear Room.advanceW g = true) : (Room.advance e tags r).fld g = r.fld g := by
  simp only [Room.advanceW, Field.clear_append, Field.clear_cons, Field.clear_nil, Bool.and_true, Bool.and_eq_true] at h
  unfold Room.advance
  repeat' first
    | with_reducible rfl
    | split
    | with_reducible apply Room.fld_ite_eq
    | with_reducible refine (Room.safeDetach_fld _ _ g (by simp only [h])).trans ?_
    | with_reducible refine (Room.takeExit_fld _ _ _ g (by simp only [h])).trans ?_
    | with_reducible refine (Room.fld_mk _ _ _ _ _ _ _ _ _ _ _ _ _ _ _ _ _ _ _ _).trans ?_
    | with_reducible refine (Room.fld_regs _ _).trans ?_

def Room.enableW : List Field :=
  [CTRL_ENABLE, STATUS_KEEPER] ++ Room.enterAW
theorem Room.enable_fld (e : Env) (r : Room) (g : Field)
    (h : Field.clear Room.enableW g = true) : (Room.enable e r).fld g = r.fld g := by
  simp only [Room.enableW, Field.clear_append, Field.clear_cons, Field.clear_nil, Bool.and_true, Bool.and_eq_true] at h
  unfold Room.enable
  try dsimp only
  repeat' first
    | with_reducible rfl
    | with_reducible apply Room.fld_ite_eq
    | with_reducible refine (Room.fld_on_apart _ _ _ (by simp only [h])).trans ?_
    | with_reducible refine (Room.enterA_fld _ _ _ g (by simp only [h])).trans ?_
    | split

def Room.disableW : List Field :=
  [CTRL_ENABLE] ++ Room.pdClearW ++ Room.setGrantW ++ Room.startRemovalW ++ Room.openSwitchW ++ Room.loopOffW ++ Room.enterAW ++ Room.conClearW
theorem Room.disable_fld (e : Env) (r : Room) (g : Field)
    (h : Field.clear Room.disableW g = true) : (Room.disable e r).fld g = r.fld g := by
  simp only [Room.disableW, Field.clear_append, Field.clear_cons, Field.clear_nil, Bool.and_true, Bool.and_eq_true] at h
  unfold Room.disable
  try dsimp only
  repeat' first
    | with_reducible rfl
    | with_reducible apply Room.fld_ite_eq
    | with_reducible refine (Room.fld_off_apart _ _ _ (by simp only [h])).trans ?_
    | with_reducible refine (Room.pdClear_fld _ _ g (by simp only [h])).trans ?_
    | with_reducible refine (Room.setGrant_fld _ _ g (by simp only [h])).trans ?_
    | with_reducible refine (Room.startRemoval_fld _ _ g (by simp only [h])).trans ?_
    | with_reducible refine (Room.openSwitch_fld _ g (by simp only [h])).trans ?_
    | with_reducible refine (Room.loopOff_fld _ g (by simp only [h])).trans ?_
    | with_reducible refine (Room.enterA_fld _ _ _ g (by simp only [h])).trans ?_
    | with_reducible refine (Room.conClear_fld _ _ g (by simp only [h])).trans ?_
    | split

def Room.newLevelsW : List Field :=
  [CC_LEVEL_CC1_LVL, CC_LEVEL_CC2_LVL] ++ Room.audioOffW ++ Room.refreshPartnerW ++ Room.implicitViW
theorem Room.newLevels_fld (e : Env) (l1 : Nat) (l2 : Nat) (r : Room) (g : Field)
    (h : Field.clear Room.newLevelsW g = true) : (Room.newLevels e l1 l2 r).fld g = r.fld g := by
  simp only [Room.newLevelsW, Field.clear_append, Field.clear_cons, Field.clear_nil, Bool.and_true, Bool.and_eq_true] at h
  unfold Room.newLevels
  try dsimp only
  repeat' first
    | with_reducible rfl
    | with_reducible apply Room.fld_ite_eq
    | with_reducible refine (Room.fld_put_apart _ _ _ _ (by simp only [h])).trans ?_
    | with_reducible refine (Room.fld_onCc _ _ _).trans ?_
    | with_reducible refine (Room.audioOff_fld _ g (by simp only [h])).trans ?_
    | with_reducible refine (Room.refreshPartner_fld _ g (by simp only [h])).trans ?_
    | with_reducible refine (Room.implicitVi_fld _ _ g (by simp only [h])).trans ?_
    | with_reducible refine (Room.fld_mk _ _ _ _ _ _ _ _ _ _ _ _ _ _ _ _ _ _ _ _).trans ?_
    | with_reducible refine (Room.fld_regs _ _).trans ?_
    | split

def Room.seenLevelsW : List Field :=
  [CC_LEVEL_CC1_LVL, CC_LEVEL_CC2_LVL] ++ Room.shadowRpW
theorem Room.seenLevels_fld (e : Env) (l1 : Nat) (l2 : Nat) (r : Room) (g : Field)
    (h : Field.clear Room.seenLevelsW g = true) : (Room.seenLevels e l1 l2 r).fld g = r.fld g := by
  simp only [Room.seenLevelsW, Field.clear_append, Field.clear_cons, Field.clear_nil, Bool.and_true, Bool.and_eq_true] at h
  unfold Room.seenLevels
  try dsimp only
  repeat' first
    | with_reducible rfl
    | with_reducible apply Room.fld_ite_eq
    | with_reducible refine (Room.fld_put_apart _ _ _ _ (by simp only [h])).trans ?_
    | with_reducible refine (Room.fld_onCc _ _ _).trans ?_
    | with_reducible refine (Room.shadowRp_fld _ g (by simp only [h])).trans ?_
    | with_reducible refine (Room.fld_mk _ _ _ _ _ _ _ _ _ _ _ _ _ _ _ _ _ _ _ _).trans ?_
    | with_reducible refine (Room.fld_regs _ _).trans ?_
    | split

def Room.attachAnswerW : List Field :=
  [CC_STAT_BUDGET_WAIT, CC_EVENT_BUDGET_WAIT] ++ Room.setGrantW ++ Room.attachSrcW
theorem Room.attachAnswer_fld (e : Env) (w : Nat) (r : Room) (g : Field)
    (h : Field.clear Room.attachAnswerW g = true) : (Room.attachAnswer e w r).fld g = r.fld g := by
  simp only [Room.attachAnswerW, Field.clear_append, Field.clear_cons, Field.clear_nil, Bool.and_true, Bool.and_eq_true] at h
  unfold Room.attachAnswer
  try dsimp only
  repeat' first
    | with_reducible rfl
    | with_reducible apply Room.fld_ite_eq
    | with_reducible refine (Room.fld_on_apart _ _ _ (by simp only [h])).trans ?_
    | with_reducible refine (Room.fld_onCc _ _ _).trans ?_
    | with_reducible refine (Room.setGrant_fld _ _ g (by simp only [h])).trans ?_
    | with_reducible refine (Room.attachSrc_fld _ _ _ g (by simp only [h])).trans ?_
    | with_reducible refine (Room.fld_mk _ _ _ _ _ _ _ _ _ _ _ _ _ _ _ _ _ _ _ _).trans ?_
    | with_reducible refine (Room.fld_regs _ _).trans ?_
    | split

def Room.newVbusW : List Field :=
  [CC_STAT_VBUS_SAFE0, CC_STAT_VBUS_PRESENT]
theorem Room.newVbus_fld (e : Env) (mv : Nat) (r : Room) (g : Field)
    (h : Field.clear Room.newVbusW g = true) : (Room.newVbus e mv r).fld g = r.fld g := by
  simp only [Room.newVbusW, Field.clear_append, Field.clear_cons, Field.clear_nil, Bool.and_true, Bool.and_eq_true] at h
  unfold Room.newVbus
  try dsimp only
  repeat' first
    | with_reducible rfl
    | with_reducible apply Room.fld_ite_eq
    | with_reducible refine (Room.fld_putB_apart _ _ _ _ (by simp only [h])).trans ?_
    | with_reducible refine (Room.fld_onCc _ _ _).trans ?_
    | with_reducible refine (Room.fld_mk _ _ _ _ _ _ _ _ _ _ _ _ _ _ _ _ _ _ _ _).trans ?_
    | with_reducible refine (Room.fld_regs _ _).trans ?_
    | split

def Room.writeVconnEnW : List Field :=
  [VCONN_CTRL_EN, CC_STAT_VCONN_LOCK] ++ Room.vconnW
theorem Room.writeVconnEn_fld (e : Env) (en : Bool) (r : Room) (g : Field)
    (h : Field.clear Room.writeVconnEnW g = true) : (Room.writeVconnEn e en r).fld g = r.fld g := by
  simp only [Room.writeVconnEnW, Field.clear_append, Field.clear_cons, Field.clear_nil, Bool.and_true, Bool.and_eq_true] at h
  unfold Room.writeVconnEn
  repeat' first
    | with_reducible rfl
    | with_reducible apply Room.fld_ite_eq
    | with_reducible refine (Room.fld_on_apart _ _ _ (by simp only [h])).trans ?_
    | with_reducible refine (Room.fld_off_apart _ _ _ (by simp only [h])).trans ?_
    | with_reducible refine (Room.fld_putB_apart _ _ _ _ (by simp only [h])).trans ?_
    | with_reducible refine (Room.vconn_fld _ _ g (by simp only [h])).trans ?_
    | split

def Room.ccOverW : List Field :=
  [CC_LEVEL_CC2_OV, CC_LEVEL_CC1_OV]
theorem Room.ccOver_fld (now : Nat) (cc2 : Bool) (above : Bool) (r : Room) (g : Field)
    (h : Field.clear Room.ccOverW g = true) : (Room.ccOver now cc2 above r).fld g = r.fld g := by
  simp only [Room.ccOverW, Field.clear_append, Field.clear_cons, Field.clear_nil, Bool.and_true, Bool.and_eq_true] at h
  unfold Room.ccOver
  try dsimp only
  repeat' first
    | with_reducible rfl
    | with_reducible apply Room.fld_ite_eq
    | with_reducible refine (Room.fld_putB_apart _ _ _ _ (by simp only [h])).trans ?_
    | with_reducible refine (Room.fld_onCc _ _ _).trans ?_
    | with_reducible refine (Room.fld_mk _ _ _ _ _ _ _ _ _ _ _ _ _ _ _ _ _ _ _ _).trans ?_
    | with_reducible refine (Room.fld_regs _ _).trans ?_
    | split

def Room.frsAnswerW : List Field :=
  [] ++ Room.setGrantW ++ Room.endResvW ++ Room.toStepW ++ Room.refreshIlimW ++ Room.lostResumeW
theorem Room.frsAnswer_fld (e : Env) (r : Room) (g : Field)
    (h : Field.clear Room.frsAnswerW g = true) : (Room.frsAnswer e r).fld g = r.fld g := by
  simp only [Room.frsAnswerW, Field.clear_append, Field.clear_cons, Field.clear_nil, Bool.and_true, Bool.and_eq_true] at h
  unfold Room.frsAnswer
  try dsimp only
  repeat' first
    | with_reducible rfl
    | with_reducible apply Room.fld_ite_eq
    | with_reducible refine (Room.fld_onPd _ _ _).trans ?_
    | with_reducible refine (Room.fld_onCon _ _ _).trans ?_
    | with_reducible refine (Room.setGrant_fld _ _ g (by simp only [h])).trans ?_
    | with_reducible refine (Room.endResv_fld _ g (by simp only [h])).trans ?_
    | with_reducible refine (Room.toStep_fld _ _ _ g (by simp only [h])).trans ?_
    | with_reducible refine (Room.refreshIlim_fld _ _ g (by simp only [h])).trans ?_
    | with_reducible refine (Room.lostResume_fld _ _ g (by simp only [h])).trans ?_
    | with_reducible refine (Room.fld_mk _ _ _ _ _ _ _ _ _ _ _ _ _ _ _ _ _ _ _ _).trans ?_
    | with_reducible refine (Room.fld_regs _ _).trans ?_
    | split

def Room.writeVsetW : List Field :=
  [] ++ Room.rampToW ++ Room.refReachedW ++ Room.setVsetW
theorem Room.writeVset_fld (e : Env) (mv : Nat) (r : Room) (g : Field)
    (h : Field.clear Room.writeVsetW g = true) : (Room.writeVset e mv r).fld g = r.fld g := by
  simp only [Room.writeVsetW, Field.clear_append, Field.clear_cons, Field.clear_nil, Bool.and_true, Bool.and_eq_true] at h
  unfold Room.writeVset
  try dsimp only
  repeat' first
    | with_reducible rfl
    | with_reducible apply Room.fld_ite_eq
    | with_reducible refine (Room.rampTo_fld _ _ _ g (by simp only [h])).trans ?_
    | with_reducible refine (Room.refReached_fld _ _ g (by simp only [h])).trans ?_
    | with_reducible refine (Room.setVset_fld _ _ _ g (by simp only [h])).trans ?_
    | split

def Room.thermTripW : List Field :=
  [RETRY_STAT_COUNT, CONV_EVENT_ATTEMPT_FAIL, FAULT_THERM_TRIP] ++ Room.enterSafeW FAULT_THERM_TRIP
theorem Room.thermTrip_fld (e : Env) (r : Room) (g : Field)
    (h : Field.clear Room.thermTripW g = true) : (Room.thermTrip e r).fld g = r.fld g := by
  simp only [Room.thermTripW, Field.clear_append, Field.clear_cons, Field.clear_nil, Bool.and_true, Bool.and_eq_true] at h
  unfold Room.thermTrip
  try dsimp only
  repeat' first
    | with_reducible rfl
    | with_reducible apply Room.fld_ite_eq
    | with_reducible refine (Room.fld_put_apart _ _ _ _ (by simp only [h])).trans ?_
    | with_reducible refine (Room.fld_on_apart _ _ _ (by simp only [h])).trans ?_
    | with_reducible refine (Room.fld_onConv _ _ _).trans ?_
    | with_reducible refine (Room.enterSafe_fld _ _ _ _ g (by simp only [h])).trans ?_
    | with_reducible refine (Room.fld_mk _ _ _ _ _ _ _ _ _ _ _ _ _ _ _ _ _ _ _ _).trans ?_
    | with_reducible refine (Room.fld_regs _ _).trans ?_
    | split

def Room.applyModeW : List Field :=
  [STATUS_MODE, STATUS_EPOCH, EVENT_MODE_APPLIED] ++ Room.shedW ++ Room.refreshIlimW
theorem Room.applyMode_fld (e : Env) (m : Nat) (epoch : Nat) (r : Room) (g : Field)
    (h : Field.clear Room.applyModeW g = true) : (Room.applyMode e m epoch r).fld g = r.fld g := by
  simp only [Room.applyModeW, Field.clear_append, Field.clear_cons, Field.clear_nil, Bool.and_true, Bool.and_eq_true] at h
  unfold Room.applyMode
  try dsimp only
  repeat' first
    | with_reducible rfl
    | with_reducible apply Room.fld_ite_eq
    | with_reducible refine (Room.fld_put_apart _ _ _ _ (by simp only [h])).trans ?_
    | with_reducible refine (Room.fld_on_apart _ _ _ (by simp only [h])).trans ?_
    | with_reducible refine (Room.fld_onCon _ _ _).trans ?_
    | with_reducible refine (Room.shed_fld _ _ g (by simp only [h])).trans ?_
    | with_reducible refine (Room.refreshIlim_fld _ _ g (by simp only [h])).trans ?_
    | with_reducible refine (Room.fld_mk _ _ _ _ _ _ _ _ _ _ _ _ _ _ _ _ _ _ _ _).trans ?_
    | with_reducible refine (Room.fld_regs _ _).trans ?_
    | split

def Room.fallBackW : List Field :=
  [] ++ Room.hardResetCauseW ++ Room.refreshIlimW
theorem Room.fallBack_fld (e : Env) (r : Room) (g : Field)
    (h : Field.clear Room.fallBackW g = true) : (Room.fallBack e r).fld g = r.fld g := by
  simp only [Room.fallBackW, Field.clear_append, Field.clear_cons, Field.clear_nil, Bool.and_true, Bool.and_eq_true] at h
  unfold Room.fallBack
  try dsimp only
  repeat' first
    | with_reducible rfl
    | with_reducible apply Room.fld_ite_eq
    | with_reducible refine (Room.fld_onCon _ _ _).trans ?_
    | with_reducible refine (Room.hardResetCause_fld _ _ g (by simp only [h])).trans ?_
    | with_reducible refine (Room.refreshIlim_fld _ _ g (by simp only [h])).trans ?_
    | with_reducible refine (Room.fld_mk _ _ _ _ _ _ _ _ _ _ _ _ _ _ _ _ _ _ _ _).trans ?_
    | with_reducible refine (Room.fld_regs _ _).trans ?_
    | split

def Room.sayW : List Field :=
  []
theorem Room.say_fld (m : TxMsg) (r : Room) (g : Field)
    (h : Field.clear Room.sayW g = true) : (Room.say m r).fld g = r.fld g := by
  simp only [Room.sayW, Field.clear_append, Field.clear_cons, Field.clear_nil, Bool.and_true, Bool.and_eq_true] at h
  unfold Room.say
  repeat' first
    | with_reducible rfl
    | with_reducible apply Room.fld_ite_eq
    | with_reducible refine (Room.fld_onPd _ _ _).trans ?_
    | with_reducible refine (Room.fld_mk _ _ _ _ _ _ _ _ _ _ _ _ _ _ _ _ _ _ _ _).trans ?_
    | with_reducible refine (Room.fld_regs _ _).trans ?_
    | split

def Room.countW (f : Field) : List Field :=
  [f]
theorem Room.count_fld (f : Field) (r : Room) (g : Field)
    (h : Field.clear (Room.countW f) g = true) : (Room.count f r).fld g = r.fld g := by
  simp only [Room.countW, Field.clear_append, Field.clear_cons, Field.clear_nil, Bool.and_true, Bool.and_eq_true] at h
  unfold Room.count
  repeat' first
    | with_reducible rfl
    | with_reducible apply Room.fld_ite_eq
    | with_reducible refine (Room.fld_put_apart _ _ _ _ (by simp only [h])).trans ?_
    | split

def Room.noChunksW : List Field :=
  []
theorem Room.noChunks_fld (r : Room) (g : Field)
    (h : Field.clear Room.noChunksW g = true) : (Room.noChunks r).fld g = r.fld g := by
  simp only [Room.noChunksW, Field.clear_append, Field.clear_cons, Field.clear_nil, Bool.and_true, Bool.and_eq_true] at h
  unfold Room.noChunks
  repeat' first
    | with_reducible rfl
    | with_reducible apply Room.fld_ite_eq
    | with_reducible refine (Room.fld_onPd _ _ _).trans ?_
    | with_reducible refine (Room.fld_mk _ _ _ _ _ _ _ _ _ _ _ _ _ _ _ _ _ _ _ _).trans ?_
    | with_reducible refine (Room.fld_regs _ _).trans ?_
    | split

def Room.dropPartialW : List Field :=
  [PD_EVENT_CHUNK_ERR]
theorem Room.dropPartial_fld (r : Room) (g : Field)
    (h : Field.clear Room.dropPartialW g = true) : (Room.dropPartial r).fld g = r.fld g := by
  simp only [Room.dropPartialW, Field.clear_append, Field.clear_cons, Field.clear_nil, Bool.and_true, Bool.and_eq_true] at h
  unfold Room.dropPartial
  repeat' first
    | with_reducible rfl
    | with_reducible apply Room.fld_ite_eq
    | with_reducible refine (Room.fld_on_apart _ _ _ (by simp only [h])).trans ?_
    | with_reducible refine (Room.fld_onPd _ _ _).trans ?_
    | with_reducible refine (Room.fld_mk _ _ _ _ _ _ _ _ _ _ _ _ _ _ _ _ _ _ _ _).trans ?_
    | with_reducible refine (Room.fld_regs _ _).trans ?_
    | split

def Room.heardW : List Field :=
  []
theorem Room.heard_fld (e : Env) (sop : Nat) (r : Room) (g : Field)
    (h : Field.clear Room.heardW g = true) : (Room.heard e sop r).fld g = r.fld g := by
  simp only [Room.heardW, Field.clear_append, Field.clear_cons, Field.clear_nil, Bool.and_true, Bool.and_eq_true] at h
  unfold Room.heard
  repeat' first
    | with_reducible rfl
    | with_reducible apply Room.fld_ite_eq
    | with_reducible refine (Room.fld_onPd _ _ _).trans ?_
    | with_reducible refine (Room.fld_mk _ _ _ _ _ _ _ _ _ _ _ _ _ _ _ _ _ _ _ _).trans ?_
    | with_reducible refine (Room.fld_regs _ _).trans ?_
    | split

def Room.discardW (f : Field) : List Field :=
  [f] ++ Room.countW f
theorem Room.discard_fld (e : Env) (f : Field) (r : Room) (g : Field)
    (h : Field.clear (Room.discardW f) g = true) : (Room.discard e f r).fld g = r.fld g := by
  simp only [Room.discardW, Field.clear_append, Field.clear_cons, Field.clear_nil, Bool.and_true, Bool.and_eq_true] at h
  unfold Room.discard
  repeat' first
    | with_reducible rfl
    | with_reducible apply Room.fld_ite_eq
    | with_reducible refine (Room.fld_onPd _ _ _).trans ?_
    | with_reducible refine (Room.count_fld _ _ g (by simp only [h])).trans ?_
    | with_reducible refine (Room.fld_mk _ _ _ _ _ _ _ _ _ _ _ _ _ _ _ _ _ _ _ _).trans ?_
    | with_reducible refine (Room.fld_regs _ _).trans ?_
    | split

def Room.receiveW : List Field :=
  [PD_EVENT_RX_BUSY] ++ Room.countW PD_ERRCNT_RX_BUSY
theorem Room.receive_fld (e : Env) (k : Pkt) (r : Room) (g : Field)
    (h : Field.clear Room.receiveW g = true) : (Room.receive e k r).fld g = r.fld g := by
  simp only [Room.receiveW, Field.clear_append, Field.clear_cons, Field.clear_nil, Bool.and_true, Bool.and_eq_true] at h
  unfold Room.receive
  try dsimp only
  repeat' first
    | with_reducible rfl
    | split
    | with_reducible apply Room.fld_ite_eq
    | with_reducible refine (Room.fld_on_apart _ _ _ (by simp only [h])).trans ?_
    | with_reducible refine (Room.fld_onPd _ _ _).trans ?_
    | with_reducible refine (Room.count_fld _ _ g (by simp only [h])).trans ?_
    | with_reducible refine (Room.fld_mk _ _ _ _ _ _ _ _ _ _ _ _ _ _ _ _ _ _ _ _).trans ?_
    | with_reducible refine (Room.fld_regs _ _).trans ?_

def Room.holdTxW : List Field :=
  [TX_STAT_STATE, PD_EVENT_TX_HELD]
theorem Room.holdTx_fld (r : Room) (g : Field)
    (h : Field.clear Room.holdTxW g = true) : (Room.holdTx r).fld g = r.fld g := by
  simp only [Room.holdTxW, Field.clear_append, Field.clear_cons, Field.clear_nil, Bool.and_true, Bool.and_eq_true] at h
  unfold Room.holdTx
  try dsimp only
  repeat' first
    | with_reducible rfl
    | with_reducible apply Room.fld_ite_eq
    | with_reducible refine (Room.fld_put_apart _ _ _ _ (by simp only [h])).trans ?_
    | with_reducible refine (Room.fld_on_apart _ _ _ (by simp only [h])).trans ?_
    | split

def Room.txLostW : List Field :=
  [] ++ Room.txEndW ++ Room.endResvW
theorem Room.txLost_fld (code : Nat) (r : Room) (g : Field)
    (h : Field.clear Room.txLostW g = true) : (Room.txLost code r).fld g = r.fld g := by
  simp only [Room.txLostW, Field.clear_append, Field.clear_cons, Field.clear_nil, Bool.and_true, Bool.and_eq_true] at h
  unfold Room.txLost
  try dsimp only
  repeat' first
    | with_reducible rfl
    | with_reducible apply Room.fld_ite_eq
    | with_reducible refine (Room.fld_onPd _ _ _).trans ?_
    | with_reducible refine (Room.txEnd_fld _ _ g (by simp only [h])).trans ?_
    | with_reducible refine (Room.endResv_fld _ g (by simp only [h])).trans ?_
    | with_reducible refine (Room.fld_mk _ _ _ _ _ _ _ _ _ _ _ _ _ _ _ _ _ _ _ _).trans ?_
    | with_reducible refine (Room.fld_regs _ _).trans ?_
    | split

def Room.softClearW : List Field :=
  [] ++ Room.noChunksW ++ Room.txLostW
theorem Room.softClear_fld (id : Option Nat) (r : Room) (g : Field)
    (h : Field.clear Room.softClearW g = true) : (Room.softClear id r).fld g = r.fld g := by
  simp only [Room.softClearW, Field.clear_append, Field.clear_cons, Field.clear_nil, Bool.and_true, Bool.and_eq_true] at h
  unfold Room.softClear
  try dsimp only
  repeat' first
    | with_reducible rfl
    | with_reducible apply Room.fld_ite_eq
    | with_reducible refine (Room.fld_onPd _ _ _).trans ?_
    | with_reducible refine (Room.noChunks_fld _ g (by simp only [h])).trans ?_
    | with_reducible refine (Room.txLost_fld _ _ g (by simp only [h])).trans ?_
    | with_reducible refine (Room.fld_mk _ _ _ _ _ _ _ _ _ _ _ _ _ _ _ _ _ _ _ _).trans ?_
    | with_reducible refine (Room.fld_regs _ _).trans ?_
    | split

def Room.bistRxW : List Field :=
  [PD_STAT_BIST]
theorem Room.bistRx_fld (e : Env) (k : Pkt) (r : Room) (g : Field)
    (h : Field.clear Room.bistRxW g = true) : (Room.bistRx e k r).fld g = r.fld g := by
  simp only [Room.bistRxW, Field.clear_append, Field.clear_cons, Field.clear_nil, Bool.and_true, Bool.and_eq_true] at h
  unfold Room.bistRx
  repeat' first
    | with_reducible rfl
    | split
    | with_reducible apply Room.fld_ite_eq
    | with_reducible refine (Room.fld_on_apart _ _ _ (by simp only [h])).trans ?_
    | with_reducible refine (Room.fld_onPd _ _ _).trans ?_
    | with_reducible refine (Room.fld_mk _ _ _ _ _ _ _ _ _ _ _ _ _ _ _ _ _ _ _ _).trans ?_
    | with_reducible refine (Room.fld_regs _ _).trans ?_

def Room.eprModeW : List Field :=
  [PD_STAT_EPR_ACTIVE] ++ Room.refreshVlimW
theorem Room.eprMode_fld (e : Env) (k : Pkt) (r : Room) (g : Field)
    (h : Field.clear Room.eprModeW g = true) : (Room.eprMode e k r).fld g = r.fld g := by
  simp only [Room.eprModeW, Field.clear_append, Field.clear_cons, Field.clear_nil, Bool.and_true, Bool.and_eq_true] at h
  unfold Room.eprMode
  repeat' first
    | with_reducible rfl
    | split
    | with_reducible apply Room.fld_ite_eq
    | with_reducible refine (Room.fld_on_apart _ _ _ (by simp only [h])).trans ?_
    | with_reducible refine (Room.fld_off_apart _ _ _ (by simp only [h])).trans ?_
    | with_reducible refine (Room.refreshVlim_fld _ _ g (by simp only [h])).trans ?_
    | with_reducible refine (Room.fld_mk _ _ _ _ _ _ _ _ _ _ _ _ _ _ _ _ _ _ _ _).trans ?_
    | with_reducible refine (Room.fld_regs _ _).trans ?_

def Room.answeredW : List Field :=
  [] ++ Room.acceptedW ++ Room.hardResetCauseW ++ Room.toStepW
theorem Room.answered_fld (e : Env) (av : Nat) (k : Pkt) (r : Room) (g : Field)
    (h : Field.clear Room.answeredW g = true) : (Room.answered e av k r).fld g = r.fld g := by
  simp only [Room.answeredW, Field.clear_append, Field.clear_cons, Field.clear_nil, Bool.and_true, Bool.and_eq_true] at h
  unfold Room.answered
  try dsimp only
  repeat' first
    | with_reducible rfl
    | split
    | with_reducible apply Room.fld_ite_eq
    | with_reducible refine (Room.fld_onPd _ _ _).trans ?_
    | with_reducible refine (Room.fld_onCon _ _ _).trans ?_
    | with_reducible refine (Room.accepted_fld _ _ _ g (by simp only [h])).trans ?_
    | with_reducible refine (Room.hardResetCause_fld _ _ g (by simp only [h])).trans ?_
    | with_reducible refine (Room.toStep_fld _ _ _ g (by simp only [h])).trans ?_
    | with_reducible refine (Room.fld_mk _ _ _ _ _ _ _ _ _ _ _ _ _ _ _ _ _ _ _ _).trans ?_
    | with_reducible refine (Room.fld_regs _ _).trans ?_

def Room.chunkRequestW : List Field :=
  [PD_EVENT_CHUNK_ERR] ++ Room.txEndW
theorem Room.chunkRequest_fld (k : Pkt) (r : Room) (g : Field)
    (h : Field.clear Room.chunkRequestW g = true) : (Room.chunkRequest k r).fld g = r.fld g := by
  simp only [Room.chunkRequestW, Field.clear_append, Field.clear_cons, Field.clear_nil, Bool.and_true, Bool.and_eq_true] at h
  unfold Room.chunkRequest
  repeat' first
    | with_reducible rfl
    | split
    | with_reducible apply Room.fld_ite_eq
    | with_reducible refine (Room.fld_on_apart _ _ _ (by simp only [h])).trans ?_
    | with_reducible refine (Room.fld_onPd _ _ _).trans ?_
    | with_reducible refine (Room.txEnd_fld _ _ g (by simp only [h])).trans ?_
    | with_reducible refine (Room.fld_mk _ _ _ _ _ _ _ _ _ _ _ _ _ _ _ _ _ _ _ _).trans ?_
    | with_reducible refine (Room.fld_regs _ _).trans ?_

def Room.cableResetW : List Field :=
  [PD_STAT_REV_SOPP, PD_STAT_REV_SOPPP, PD_STAT_CABLE_STATE, CABLE_IDH_IDH, CABLE_VDO_VDO1] ++ Room.refreshCableW
theorem Room.cableReset_fld (e : Env) (r : Room) (g : Field)
    (h : Field.clear Room.cableResetW g = true) : (Room.cableReset e r).fld g = r.fld g := by
  simp only [Room.cableResetW, Field.clear_append, Field.clear_cons, Field.clear_nil, Bool.and_true, Bool.and_eq_true] at h
  unfold Room.cableReset
  try dsimp only
  repeat' first
    | with_reducible rfl
    | with_reducible apply Room.fld_ite_eq
    | with_reducible refine (Room.fld_off_apart _ _ _ (by simp only [h])).trans ?_
    | with_reducible refine (Room.fld_onPd _ _ _).trans ?_
    | with_reducible refine (Room.refreshCable_fld _ _ g (by simp only [h])).trans ?_
    | with_reducible refine (Room.fld_mk _ _ _ _ _ _ _ _ _ _ _ _ _ _ _ _ _ _ _ _).trans ?_
    | with_reducible refine (Room.fld_regs _ _).trans ?_
    | split

def Room.cableDueW : List Field :=
  [] ++ Room.cableResetW
theorem Room.cableDue_fld (e : Env) (r : Room) (g : Field)
    (h : Field.clear Room.cableDueW g = true) : (Room.cableDue e r).fld g = r.fld g := by
  simp only [Room.cableDueW, Field.clear_append, Field.clear_cons, Field.clear_nil, Bool.and_true, Bool.and_eq_true] at h
  unfold Room.cableDue
  repeat' first
    | with_reducible rfl
    | with_reducible apply Room.fld_ite_eq
    | with_reducible refine (Room.fld_onPd _ _ _).trans ?_
    | with_reducible refine (Room.cableReset_fld _ _ g (by simp only [h])).trans ?_
    | with_reducible refine (Room.fld_mk _ _ _ _ _ _ _ _ _ _ _ _ _ _ _ _ _ _ _ _).trans ?_
    | with_reducible refine (Room.fld_regs _ _).trans ?_
    | split

def Room.cableAnswerW : List Field :=
  [PD_EVENT_CABLE_DONE, PD_STAT_CABLE_STATE, CABLE_IDH_IDH, CABLE_VDO_VDO1] ++ Room.refreshCableW
theorem Room.cableAnswer_fld (e : Env) (k : Pkt) (r : Room) (g : Field)
    (h : Field.clear Room.cableAnswerW g = true) : (Room.cableAnswer e k r).fld g = r.fld g := by
  simp only [Room.cableAnswerW, Field.clear_append, Field.clear_cons, Field.clear_nil, Bool.and_true, Bool.and_eq_true] at h
  unfold Room.cableAnswer
  try dsimp only
  repeat' first
    | with_reducible rfl
    | split
    | with_reducible apply Room.fld_ite_eq
    | with_reducible refine (Room.fld_put_apart _ _ _ _ (by simp only [h])).trans ?_
    | with_reducible refine (Room.fld_on_apart _ _ _ (by simp only [h])).trans ?_
    | with_reducible refine (Room.fld_onPd _ _ _).trans ?_
    | with_reducible refine (Room.refreshCable_fld _ _ g (by simp only [h])).trans ?_
    | with_reducible refine (Room.fld_mk _ _ _ _ _ _ _ _ _ _ _ _ _ _ _ _ _ _ _ _).trans ?_
    | with_reducible refine (Room.fld_regs _ _).trans ?_

def Room.followVdmW : List Field :=
  [] ++ Room.sinkTxNgW
theorem Room.followVdm_fld (e : Env) (r : Room) (g : Field)
    (h : Field.clear Room.followVdmW g = true) : (Room.followVdm e r).fld g = r.fld g := by
  simp only [Room.followVdmW, Field.clear_append, Field.clear_cons, Field.clear_nil, Bool.and_true, Bool.and_eq_true] at h
  unfold Room.followVdm
  repeat' first
    | with_reducible rfl
    | with_reducible apply Room.fld_ite_eq
    | with_reducible refine (Room.sinkTxNg_fld _ _ g (by simp only [h])).trans ?_
    | split

def Room.queueTxW : List Field :=
  [TX_STAT_STATE] ++ Room.sinkTxNgW
theorem Room.queueTx_fld (e : Env) (m : TxMsg) (r : Room) (g : Field)
    (h : Field.clear Room.queueTxW g = true) : (Room.queueTx e m r).fld g = r.fld g := by
  simp only [Room.queueTxW, Field.clear_append, Field.clear_cons, Field.clear_nil, Bool.and_true, Bool.and_eq_true] at h
  unfold Room.queueTx
  try dsimp only
  repeat' first
    | with_reducible rfl
    | with_reducible apply Room.fld_ite_eq
    | with_reducible refine (Room.fld_put_apart _ _ _ _ (by simp only [h])).trans ?_
    | with_reducible refine (Room.sinkTxNg_fld _ _ g (by simp only [h])).trans ?_
    | split

def Room.replySentW : List Field :=
  [PD_STAT_DATA_ROLE] ++ Room.toSinkW ++ Room.toStepW
theorem Room.replySent_fld (e : Env) (m : TxMsg) (r : Room) (g : Field)
    (h : Field.clear Room.replySentW g = true) : (Room.replySent e m r).fld g = r.fld g := by
  simp only [Room.replySentW, Field.clear_append, Field.clear_cons, Field.clear_nil, Bool.and_true, Bool.and_eq_true] at h
  unfold Room.replySent
  repeat' first
    | with_reducible rfl
    | split
    | with_reducible apply Room.fld_ite_eq
    | with_reducible refine (Room.fld_put_apart _ _ _ _ (by simp only [h])).trans ?_
    | with_reducible refine (Room.fld_onCon _ _ _).trans ?_
    | with_reducible refine (Room.toSink_fld _ _ g (by simp only [h])).trans ?_
    | with_reducible refine (Room.toStep_fld _ _ _ g (by simp only [h])).trans ?_
    | with_reducible refine (Room.fld_mk _ _ _ _ _ _ _ _ _ _ _ _ _ _ _ _ _ _ _ _).trans ?_
    | with_reducible refine (Room.fld_regs _ _).trans ?_

def Room.takeNegW : List Field :=
  []
theorem Room.takeNeg_fld (r : Room) (g : Field)
    (h : Field.clear Room.takeNegW g = true) : (Room.takeNeg r).fld g = r.fld g := by
  simp only [Room.takeNegW, Field.clear_append, Field.clear_cons, Field.clear_nil, Bool.and_true, Bool.and_eq_true] at h
  unfold Room.takeNeg
  repeat' first
    | with_reducible rfl
    | with_reducible apply Room.fld_ite_eq
    | with_reducible refine (Room.fld_onCon _ _ _).trans ?_
    | with_reducible refine (Room.fld_mk _ _ _ _ _ _ _ _ _ _ _ _ _ _ _ _ _ _ _ _).trans ?_
    | with_reducible refine (Room.fld_regs _ _).trans ?_
    | split

def Room.observeW : List Field :=
  []
theorem Room.observe_fld (k : Pkt) (r : Room) (g : Field)
    (h : Field.clear Room.observeW g = true) : (Room.observe k r).fld g = r.fld g := by
  simp only [Room.observeW, Field.clear_append, Field.clear_cons, Field.clear_nil, Bool.and_true, Bool.and_eq_true] at h
  unfold Room.observe
  repeat' first
    | with_reducible rfl
    | with_reducible apply Room.fld_ite_eq
    | with_reducible refine (Room.fld_onPd _ _ _).trans ?_
    | with_reducible refine (Room.fld_mk _ _ _ _ _ _ _ _ _ _ _ _ _ _ _ _ _ _ _ _).trans ?_
    | with_reducible refine (Room.fld_regs _ _).trans ?_
    | split

def Room.hardSignalW : List Field :=
  [PD_STAT_HR_ACTIVE, PD_EVENT_HR_RX] ++ Room.pdResetW ++ Room.startHrW
theorem Room.hardSignal_fld (e : Env) (r : Room) (g : Field)
    (h : Field.clear Room.hardSignalW g = true) : (Room.hardSignal e r).fld g = r.fld g := by
  simp only [Room.hardSignalW, Field.clear_append, Field.clear_cons, Field.clear_nil, Bool.and_true, Bool.and_eq_true] at h
  unfold Room.hardSignal
  repeat' first
    | with_reducible rfl
    | with_reducible apply Room.fld_ite_eq
    | with_reducible refine (Room.fld_on_apart _ _ _ (by simp only [h])).trans ?_
    | with_reducible refine (Room.pdReset_fld _ g (by simp only [h])).trans ?_
    | with_reducible refine (Room.startHr_fld _ _ g (by simp only [h])).trans ?_
    | split

def Room.discoverW : List Field :=
  [PD_STAT_CABLE_STATE] ++ Room.sayW ++ Room.refreshCableW
theorem Room.discover_fld (e : Env) (tries : Nat) (r : Room) (g : Field)
    (h : Field.clear Room.discoverW g = true) : (Room.discover e tries r).fld g = r.fld g := by
  simp only [Room.discoverW, Field.clear_append, Field.clear_cons, Field.clear_nil, Bool.and_true, Bool.and_eq_true] at h
  unfold Room.discover
  repeat' first
    | with_reducible rfl
    | with_reducible apply Room.fld_ite_eq
    | with_reducible refine (Room.fld_put_apart _ _ _ _ (by simp only [h])).trans ?_
    | with_reducible refine (Room.fld_onPd _ _ _).trans ?_
    | with_reducible refine (Room.say_fld _ _ g (by simp only [h])).trans ?_
    | with_reducible refine (Room.refreshCable_fld _ _ g (by simp only [h])).trans ?_
    | with_reducible refine (Room.fld_mk _ _ _ _ _ _ _ _ _ _ _ _ _ _ _ _ _ _ _ _).trans ?_
    | with_reducible refine (Room.fld_regs _ _).trans ?_
    | split

def Room.hrCountedW : List Field :=
  [PD_STAT_HR_COUNT]
theorem Room.hrCounted_fld (r : Room) (g : Field)
    (h : Field.clear Room.hrCountedW g = true) : (Room.hrCounted r).fld g = r.fld g := by
  simp only [Room.hrCountedW, Field.clear_append, Field.clear_cons, Field.clear_nil, Bool.and_true, Bool.and_eq_true] at h
  unfold Room.hrCounted
  repeat' first
    | with_reducible rfl
    | with_reducible apply Room.fld_ite_eq
    | with_reducible refine (Room.fld_put_apart _ _ _ _ (by simp only [h])).trans ?_
    | split

def Room.startCoreW : List Field :=
  [EV_EN_EN, STATUS_CORE_ALIVE]
theorem Room.startCore_fld (now : Nat) (entry : Nat) (r : Room) (g : Field)
    (h : Field.clear Room.startCoreW g = true) : (Room.startCore now entry r).fld g = r.fld g := by
  simp only [Room.startCoreW, Field.clear_append, Field.clear_cons, Field.clear_nil, Bool.and_true, Bool.and_eq_true] at h
  unfold Room.startCore
  try dsimp only
  repeat' first
    | with_reducible rfl
    | with_reducible apply Room.fld_ite_eq
    | with_reducible refine (Room.fld_put_apart _ _ _ _ (by simp only [h])).trans ?_
    | with_reducible refine (Room.fld_on_apart _ _ _ (by simp only [h])).trans ?_
    | with_reducible refine (Room.fld_onCore _ _ _).trans ?_
    | with_reducible refine (Room.fld_mk _ _ _ _ _ _ _ _ _ _ _ _ _ _ _ _ _ _ _ _).trans ?_
    | with_reducible refine (Room.fld_regs _ _).trans ?_
    | split

def Room.senseHoldOnW : List Field :=
  [] ++ Room.refreshIlimW
theorem Room.senseHoldOn_fld (e : Env) (r : Room) (g : Field)
    (h : Field.clear Room.senseHoldOnW g = true) : (Room.senseHoldOn e r).fld g = r.fld g := by
  simp only [Room.senseHoldOnW, Field.clear_append, Field.clear_cons, Field.clear_nil, Bool.and_true, Bool.and_eq_true] at h
  unfold Room.senseHoldOn
  repeat' first
    | with_reducible rfl
    | with_reducible apply Room.fld_ite_eq
    | with_reducible refine (Room.fld_onConv _ _ _).trans ?_
    | with_reducible refine (Room.refreshIlim_fld _ _ g (by simp only [h])).trans ?_
    | with_reducible refine (Room.fld_mk _ _ _ _ _ _ _ _ _ _ _ _ _ _ _ _ _ _ _ _).trans ?_
    | with_reducible refine (Room.fld_regs _ _).trans ?_
    | split

def Room.showThrW : List Field :=
  [THR_STAT_ARMED, THR_STAT_HOLD, PWM_STAT_HOLD]
theorem Room.showThr_fld (e : Env) (r : Room) (g : Field)
    (h : Field.clear Room.showThrW g = true) : (Room.showThr e r).fld g = r.fld g := by
  simp only [Room.showThrW, Field.clear_append, Field.clear_cons, Field.clear_nil, Bool.and_true, Bool.and_eq_true] at h
  unfold Room.showThr
  try dsimp only
  repeat' first
    | with_reducible rfl
    | with_reducible apply Room.fld_ite_eq
    | with_reducible refine (Room.fld_put_apart _ _ _ _ (by simp only [h])).trans ?_
    | with_reducible refine (Room.fld_putB_apart _ _ _ _ (by simp only [h])).trans ?_
    | split

def Room.levelsW : List Field :=
  [THR_LEVEL_OV_EFF, THR_LEVEL_UV_EFF]
theorem Room.levels_fld (e : Env) (r : Room) (g : Field)
    (h : Field.clear Room.levelsW g = true) : (Room.levels e r).fld g = r.fld g := by
  simp only [Room.levelsW, Field.clear_append, Field.clear_cons, Field.clear_nil, Bool.and_true, Bool.and_eq_true] at h
  unfold Room.levels
  try dsimp only
  repeat' first
    | with_reducible rfl
    | with_reducible apply Room.fld_ite_eq
    | with_reducible refine (Room.fld_put_apart _ _ _ _ (by simp only [h])).trans ?_
    | split

def Room.computeForwardW : List Field :=
  [LOOP_STAT_ILIMITING, LOOP_STAT_YSAT, LOOP_STAT_Y, CONV_EVENT_ILIMIT, CONV_EVENT_ILIMIT_END]
theorem Room.computeForward_fld (e : Env) (isum : Int) (r : Room) (g : Field)
    (h : Field.clear Room.computeForwardW g = true) : (Room.computeForward e isum r).fld g = r.fld g := by
  simp only [Room.computeForwardW, Field.clear_append, Field.clear_cons, Field.clear_nil, Bool.and_true, Bool.and_eq_true] at h
  unfold Room.computeForward
  try dsimp only
  repeat' first
    | with_reducible rfl
    | with_reducible apply Room.fld_ite_eq
    | with_reducible refine (Room.fld_put_apart _ _ _ _ (by simp only [h])).trans ?_
    | with_reducible refine (Room.fld_on_apart _ _ _ (by simp only [h])).trans ?_
    | with_reducible refine (Room.fld_putB_apart _ _ _ _ (by simp only [h])).trans ?_
    | with_reducible refine (Room.fld_onConv _ _ _).trans ?_
    | with_reducible refine (Room.fld_mk _ _ _ _ _ _ _ _ _ _ _ _ _ _ _ _ _ _ _ _).trans ?_
    | with_reducible refine (Room.fld_regs _ _).trans ?_
    | split

def Room.moveDrawW : List Field :=
  []
theorem Room.moveDraw_fld (e : Env) (r : Room) (g : Field)
    (h : Field.clear Room.moveDrawW g = true) : (Room.moveDraw e r).fld g = r.fld g := by
  simp only [Room.moveDrawW, Field.clear_append, Field.clear_cons, Field.clear_nil, Bool.and_true, Bool.and_eq_true] at h
  unfold Room.moveDraw
  try dsimp only
  repeat' first
    | with_reducible rfl
    | with_reducible apply Room.fld_ite_eq
    | with_reducible refine (Room.fld_onConv _ _ _).trans ?_
    | with_reducible refine (Room.fld_mk _ _ _ _ _ _ _ _ _ _ _ _ _ _ _ _ _ _ _ _).trans ?_
    | with_reducible refine (Room.fld_regs _ _).trans ?_
    | split

def Room.computeReverseW : List Field :=
  [LOOP_STAT_Y] ++ Room.moveDrawW
theorem Room.computeReverse_fld (e : Env) (r : Room) (g : Field)
    (h : Field.clear Room.computeReverseW g = true) : (Room.computeReverse e r).fld g = r.fld g := by
  simp only [Room.computeReverseW, Field.clear_append, Field.clear_cons, Field.clear_nil, Bool.and_true, Bool.and_eq_true] at h
  unfold Room.computeReverse
  try dsimp only
  repeat' first
    | with_reducible rfl
    | with_reducible apply Room.fld_ite_eq
    | with_reducible refine (Room.fld_put_apart _ _ _ _ (by simp only [h])).trans ?_
    | with_reducible refine (Room.fld_onConv _ _ _).trans ?_
    | with_reducible refine (Room.moveDraw_fld _ _ g (by simp only [h])).trans ?_
    | with_reducible refine (Room.fld_mk _ _ _ _ _ _ _ _ _ _ _ _ _ _ _ _ _ _ _ _).trans ?_
    | with_reducible refine (Room.fld_regs _ _).trans ?_
    | split

def Room.pushHighW : List Field :=
  []
theorem Room.pushHigh_fld (y : Int) (r : Room) (g : Field)
    (h : Field.clear Room.pushHighW g = true) : (Room.pushHigh y r).fld g = r.fld g := by
  simp only [Room.pushHighW, Field.clear_append, Field.clear_cons, Field.clear_nil, Bool.and_true, Bool.and_eq_true] at h
  unfold Room.pushHigh
  try dsimp only
  repeat' first
    | with_reducible rfl
    | with_reducible apply Room.fld_ite_eq
    | with_reducible refine (Room.fld_onConv _ _ _).trans ?_
    | with_reducible refine (Room.fld_mk _ _ _ _ _ _ _ _ _ _ _ _ _ _ _ _ _ _ _ _).trans ?_
    | with_reducible refine (Room.fld_regs _ _).trans ?_
    | split

def Room.judgeW : List Field :=
  [CON_STAT_SETTLED]
theorem Room.judge_fld (e : Env) (r : Room) (g : Field)
    (h : Field.clear Room.judgeW g = true) : (Room.judge e r).fld g = r.fld g := by
  simp only [Room.judgeW, Field.clear_append, Field.clear_cons, Field.clear_nil, Bool.and_true, Bool.and_eq_true] at h
  unfold Room.judge
  try dsimp only
  repeat' first
    | with_reducible rfl
    | with_reducible apply Room.fld_ite_eq
    | with_reducible refine (Room.fld_off_apart _ _ _ (by simp only [h])).trans ?_
    | with_reducible refine (Room.fld_onCon _ _ _).trans ?_
    | with_reducible refine (Room.fld_onConv _ _ _).trans ?_
    | with_reducible refine (Room.fld_mk _ _ _ _ _ _ _ _ _ _ _ _ _ _ _ _ _ _ _ _).trans ?_
    | with_reducible refine (Room.fld_regs _ _).trans ?_
    | split

def Room.moveTrimW : List Field :=
  []
theorem Room.moveTrim_fld (sum : Int) (n : Nat) (r : Room) (g : Field)
    (h : Field.clear Room.moveTrimW g = true) : (Room.moveTrim sum n r).fld g = r.fld g := by
  simp only [Room.moveTrimW, Field.clear_append, Field.clear_cons, Field.clear_nil, Bool.and_true, Bool.and_eq_true] at h
  unfold Room.moveTrim
  try dsimp only
  repeat' first
    | with_reducible rfl
    | with_reducible apply Room.fld_ite_eq
    | with_reducible refine (Room.fld_onConv _ _ _).trans ?_
    | with_reducible refine (Room.fld_mk _ _ _ _ _ _ _ _ _ _ _ _ _ _ _ _ _ _ _ _).trans ?_
    | with_reducible refine (Room.fld_regs _ _).trans ?_
    | split

def Room.meansW : List Field :=
  [ADC_VBUS_AVG, ADC_I_AVG]
theorem Room.means_fld (e : Env) (vs : List (BitVec 12)) (is : List (BitVec 12)) (r : Room) (g : Field)
    (h : Field.clear Room.meansW g = true) : (Room.means e vs is r).fld g = r.fld g := by
  simp only [Room.meansW, Field.clear_append, Field.clear_cons, Field.clear_nil, Bool.and_true, Bool.and_eq_true] at h
  unfold Room.means
  try dsimp only
  repeat' first
    | with_reducible rfl
    | split
    | with_reducible apply Room.fld_ite_eq
    | with_reducible refine (Room.fld_put_apart _ _ _ _ (by simp only [h])).trans ?_
    | with_reducible refine (Room.fld_onConv _ _ _).trans ?_
    | with_reducible refine (Room.fld_mk _ _ _ _ _ _ _ _ _ _ _ _ _ _ _ _ _ _ _ _).trans ?_
    | with_reducible refine (Room.fld_regs _ _).trans ?_

def Room.turnW : List Field :=
  [CONV_EVENT_DIR_CHANGE] ++ Room.frsStartW ++ Room.setLoopW ++ Room.setRefW ++ Room.slewRateW ++ Room.refreshRampW
theorem Room.turn_fld (e : Env) (r : Room) (g : Field)
    (h : Field.clear Room.turnW g = true) : (Room.turn e r).fld g = r.fld g := by
  simp only [Room.turnW, Field.clear_append, Field.clear_cons, Field.clear_nil, Bool.and_true, Bool.and_eq_true] at h
  unfold Room.turn
  try dsimp only
  repeat' first
    | with_reducible rfl
    | split
    | with_reducible apply Room.fld_ite_eq
    | with_reducible refine (Room.fld_on_apart _ _ _ (by simp only [h])).trans ?_
    | with_reducible refine (Room.fld_onConv _ _ _).trans ?_
    | with_reducible refine (Room.frsStart_fld _ _ g (by simp only [h])).trans ?_
    | with_reducible refine (Room.setLoop_fld _ _ g (by simp only [h])).trans ?_
    | with_reducible refine (Room.setRef_fld _ _ g (by simp only [h])).trans ?_
    | with_reducible refine (Room.slewRate_fld _ g (by simp only [h])).trans ?_
    | with_reducible refine (Room.refreshRamp_fld _ _ _ g (by simp only [h])).trans ?_
    | with_reducible refine (Room.fld_mk _ _ _ _ _ _ _ _ _ _ _ _ _ _ _ _ _ _ _ _).trans ?_
    | with_reducible refine (Room.fld_regs _ _).trans ?_

def Room.newPeriodW : List Field :=
  [PWM_STAT_LEVEL, PWM_STAT_HIGH_T, PWM_STAT_SKIP]
theorem Room.newPeriod_fld (e : Env) (r : Room) (g : Field)
    (h : Field.clear Room.newPeriodW g = true) : (Room.newPeriod e r).fld g = r.fld g := by
  simp only [Room.newPeriodW, Field.clear_append, Field.clear_cons, Field.clear_nil, Bool.and_true, Bool.and_eq_true] at h
  unfold Room.newPeriod
  try dsimp only
  repeat' first
    | with_reducible rfl
    | split
    | with_reducible apply Room.fld_ite_eq
    | with_reducible refine (Room.fld_put_apart _ _ _ _ (by simp only [h])).trans ?_
    | with_reducible refine (Room.fld_off_apart _ _ _ (by simp only [h])).trans ?_
    | with_reducible refine (Room.fld_putB_apart _ _ _ _ (by simp only [h])).trans ?_
    | with_reducible refine (Room.fld_onConv _ _ _).trans ?_
    | with_reducible refine (Room.fld_mk _ _ _ _ _ _ _ _ _ _ _ _ _ _ _ _ _ _ _ _).trans ?_
    | with_reducible refine (Room.fld_regs _ _).trans ?_

def Room.pwmTickW : List Field :=
  [PWM_STAT_LEVEL]
theorem Room.pwmTick_fld (e : Env) (r : Room) (g : Field)
    (h : Field.clear Room.pwmTickW g = true) : (Room.pwmTick e r).fld g = r.fld g := by
  simp only [Room.pwmTickW, Field.clear_append, Field.clear_cons, Field.clear_nil, Bool.and_true, Bool.and_eq_true] at h
  unfold Room.pwmTick
  repeat' first
    | with_reducible rfl
    | with_reducible apply Room.fld_ite_eq
    | with_reducible refine (Room.fld_off_apart _ _ _ (by simp only [h])).trans ?_
    | split

def Room.foldPeriodW : List Field :=
  []
theorem Room.foldPeriod_fld (e : Env) (r : Room) (g : Field)
    (h : Field.clear Room.foldPeriodW g = true) : (Room.foldPeriod e r).fld g = r.fld g := by
  simp only [Room.foldPeriodW, Field.clear_append, Field.clear_cons, Field.clear_nil, Bool.and_true, Bool.and_eq_true] at h
  unfold Room.foldPeriod
  try dsimp only
  repeat' first
    | with_reducible rfl
    | with_reducible apply Room.fld_ite_eq
    | with_reducible refine (Room.fld_onConv _ _ _).trans ?_
    | with_reducible refine (Room.fld_mk _ _ _ _ _ _ _ _ _ _ _ _ _ _ _ _ _ _ _ _).trans ?_
    | with_reducible refine (Room.fld_regs _ _).trans ?_
    | split

def Room.rememberW : List Field :=
  []
theorem Room.remember_fld (e : Env) (r : Room) (g : Field)
    (h : Field.clear Room.rememberW g = true) : (Room.remember e r).fld g = r.fld g := by
  simp only [Room.rememberW, Field.clear_append, Field.clear_cons, Field.clear_nil, Bool.and_true, Bool.and_eq_true] at h
  unfold Room.remember
  repeat' first
    | with_reducible rfl
    | with_reducible apply Room.fld_ite_eq
    | with_reducible refine (Room.fld_onConv _ _ _).trans ?_
    | with_reducible refine (Room.fld_mk _ _ _ _ _ _ _ _ _ _ _ _ _ _ _ _ _ _ _ _).trans ?_
    | with_reducible refine (Room.fld_regs _ _).trans ?_
    | split

def Room.powerOnW : List Field :=
  [] ++ Room.closeSwitchW ++ Room.setVsetW ++ Room.loopStartW
theorem Room.powerOn_fld (e : Env) (r : Room) (g : Field)
    (h : Field.clear Room.powerOnW g = true) : (Room.powerOn e r).fld g = r.fld g := by
  simp only [Room.powerOnW, Field.clear_append, Field.clear_cons, Field.clear_nil, Bool.and_true, Bool.and_eq_true] at h
  unfold Room.powerOn
  repeat' first
    | with_reducible rfl
    | with_reducible apply Room.fld_ite_eq
    | with_reducible refine (Room.fld_onConv _ _ _).trans ?_
    | with_reducible refine (Room.closeSwitch_fld _ _ g (by simp only [h])).trans ?_
    | with_reducible refine (Room.setVset_fld _ _ _ g (by simp only [h])).trans ?_
    | with_reducible refine (Room.loopStart_fld _ _ g (by simp only [h])).trans ?_
    | with_reducible refine (Room.fld_mk _ _ _ _ _ _ _ _ _ _ _ _ _ _ _ _ _ _ _ _).trans ?_
    | with_reducible refine (Room.fld_regs _ _).trans ?_
    | split

def Room.forceSafeW : List Field :=
  [EVENT_SAFE_ENTER, CTRL_FORCE_SAFE, RETRY_STAT_ATTEMPT, RETRY_STAT_WAIT] ++ Room.outputsOffW
theorem Room.forceSafe_fld (e : Env) (r : Room) (g : Field)
    (h : Field.clear Room.forceSafeW g = true) : (Room.forceSafe e r).fld g = r.fld g := by
  simp only [Room.forceSafeW, Field.clear_append, Field.clear_cons, Field.clear_nil, Bool.and_true, Bool.and_eq_true] at h
  unfold Room.forceSafe
  try dsimp only
  repeat' first
    | with_reducible rfl
    | with_reducible apply Room.fld_ite_eq
    | with_reducible refine (Room.fld_on_apart _ _ _ (by simp only [h])).trans ?_
    | with_reducible refine (Room.fld_off_apart _ _ _ (by simp only [h])).trans ?_
    | with_reducible refine (Room.fld_onCc _ _ _).trans ?_
    | with_reducible refine (Room.fld_onConv _ _ _).trans ?_
    | with_reducible refine (Room.outputsOff_fld _ _ g (by simp only [h])).trans ?_
    | with_reducible refine (Room.fld_mk _ _ _ _ _ _ _ _ _ _ _ _ _ _ _ _ _ _ _ _).trans ?_
    | with_reducible refine (Room.fld_regs _ _).trans ?_
    | split

def Room.releaseSafeW : List Field :=
  [CTRL_FORCE_SAFE] ++ Room.leaveSafeW
theorem Room.releaseSafe_fld (e : Env) (r : Room) (g : Field)
    (h : Field.clear Room.releaseSafeW g = true) : (Room.releaseSafe e r).fld g = r.fld g := by
  simp only [Room.releaseSafeW, Field.clear_append, Field.clear_cons, Field.clear_nil, Bool.and_true, Bool.and_eq_true] at h
  unfold Room.releaseSafe
  try dsimp only
  repeat' first
    | with_reducible rfl
    | with_reducible apply Room.fld_ite_eq
    | with_reducible refine (Room.fld_off_apart _ _ _ (by simp only [h])).trans ?_
    | with_reducible refine (Room.leaveSafe_fld _ _ g (by simp only [h])).trans ?_
    | split

def Room.requestSafeW : List Field :=
  [EVENT_SAFE_ENTER, RETRY_STAT_WAIT, RETRY_STAT_ATTEMPT] ++ Room.outputsOffW
theorem Room.requestSafe_fld (e : Env) (r : Room) (g : Field)
    (h : Field.clear Room.requestSafeW g = true) : (Room.requestSafe e r).fld g = r.fld g := by
  simp only [Room.requestSafeW, Field.clear_append, Field.clear_cons, Field.clear_nil, Bool.and_true, Bool.and_eq_true] at h
  unfold Room.requestSafe
  try dsimp only
  repeat' first
    | with_reducible rfl
    | with_reducible apply Room.fld_ite_eq
    | with_reducible refine (Room.fld_on_apart _ _ _ (by simp only [h])).trans ?_
    | with_reducible refine (Room.fld_off_apart _ _ _ (by simp only [h])).trans ?_
    | with_reducible refine (Room.fld_onCc _ _ _).trans ?_
    | with_reducible refine (Room.fld_onConv _ _ _).trans ?_
    | with_reducible refine (Room.outputsOff_fld _ _ g (by simp only [h])).trans ?_
    | with_reducible refine (Room.fld_mk _ _ _ _ _ _ _ _ _ _ _ _ _ _ _ _ _ _ _ _).trans ?_
    | with_reducible refine (Room.fld_regs _ _).trans ?_
    | split

def Room.pinTestW : List Field :=
  []
theorem Room.pinTest_fld (now : Nat) (k : Nat) (bad : Bool) (r : Room) (g : Field)
    (h : Field.clear Room.pinTestW g = true) : (Room.pinTest now k bad r).fld g = r.fld g := by
  simp only [Room.pinTestW, Field.clear_append, Field.clear_cons, Field.clear_nil, Bool.and_true, Bool.and_eq_true] at h
  unfold Room.pinTest
  try dsimp only
  repeat' first
    | with_reducible rfl
    | with_reducible apply Room.fld_ite_eq
    | with_reducible refine (Room.fld_onConv _ _ _).trans ?_
    | with_reducible refine (Room.fld_mk _ _ _ _ _ _ _ _ _ _ _ _ _ _ _ _ _ _ _ _).trans ?_
    | with_reducible refine (Room.fld_regs _ _).trans ?_
    | split

def Room.senseHoldOffW : List Field :=
  [] ++ Room.refreshIlimW
theorem Room.senseHoldOff_fld (e : Env) (r : Room) (g : Field)
    (h : Field.clear Room.senseHoldOffW g = true) : (Room.senseHoldOff e r).fld g = r.fld g := by
  simp only [Room.senseHoldOffW, Field.clear_append, Field.clear_cons, Field.clear_nil, Bool.and_true, Bool.and_eq_true] at h
  unfold Room.senseHoldOff
  repeat' first
    | with_reducible rfl
    | with_reducible apply Room.fld_ite_eq
    | with_reducible refine (Room.fld_onConv _ _ _).trans ?_
    | with_reducible refine (Room.refreshIlim_fld _ _ g (by simp only [h])).trans ?_
    | with_reducible refine (Room.fld_mk _ _ _ _ _ _ _ _ _ _ _ _ _ _ _ _ _ _ _ _).trans ?_
    | with_reducible refine (Room.fld_regs _ _).trans ?_
    | split

def Room.resumeRateW : List Field :=
  [] ++ Room.setRateW ++ Room.slewRateW
theorem Room.resumeRate_fld (r : Room) (g : Field)
    (h : Field.clear Room.resumeRateW g = true) : (Room.resumeRate r).fld g = r.fld g := by
  simp only [Room.resumeRateW, Field.clear_append, Field.clear_cons, Field.clear_nil, Bool.and_true, Bool.and_eq_true] at h
  unfold Room.resumeRate
  repeat' first
    | with_reducible rfl
    | with_reducible apply Room.fld_ite_eq
    | with_reducible refine (Room.setRate_fld _ _ _ g (by simp only [h])).trans ?_
    | with_reducible refine (Room.slewRate_fld _ g (by simp only [h])).trans ?_
    | split

def Room.resumeCcW : List Field :=
  [CC_STAT_RP_ADV, CC_STAT_VCONN_LOCK, CC_STAT_BUDGET_WAIT, CC_STAT_VCONN_ON]
theorem Room.resumeCc_fld (e : Env) (r : Room) (g : Field)
    (h : Field.clear Room.resumeCcW g = true) : (Room.resumeCc e r).fld g = r.fld g := by
  simp only [Room.resumeCcW, Field.clear_append, Field.clear_cons, Field.clear_nil, Bool.and_true, Bool.and_eq_true] at h
  unfold Room.resumeCc
  try dsimp only
  repeat' first
    | with_reducible rfl
    | with_reducible apply Room.fld_ite_eq
    | with_reducible refine (Room.fld_put_apart _ _ _ _ (by simp only [h])).trans ?_
    | with_reducible refine (Room.fld_putB_apart _ _ _ _ (by simp only [h])).trans ?_
    | with_reducible refine (Room.fld_onCc _ _ _).trans ?_
    | with_reducible refine (Room.fld_onPd _ _ _).trans ?_
    | with_reducible refine (Room.fld_mk _ _ _ _ _ _ _ _ _ _ _ _ _ _ _ _ _ _ _ _).trans ?_
    | with_reducible refine (Room.fld_regs _ _).trans ?_
    | split

def Room.resumeAskW : List Field :=
  []
theorem Room.resumeAsk_fld (e : Env) (r : Room) (g : Field)
    (h : Field.clear Room.resumeAskW g = true) : (Room.resumeAsk e r).fld g = r.fld g := by
  simp only [Room.resumeAskW, Field.clear_append, Field.clear_cons, Field.clear_nil, Bool.and_true, Bool.and_eq_true] at h
  unfold Room.resumeAsk
  try dsimp only
  repeat' first
    | with_reducible rfl
    | with_reducible apply Room.fld_ite_eq
    | with_reducible refine (Room.fld_onCon _ _ _).trans ?_
    | with_reducible refine (Room.fld_mk _ _ _ _ _ _ _ _ _ _ _ _ _ _ _ _ _ _ _ _).trans ?_
    | with_reducible refine (Room.fld_regs _ _).trans ?_
    | split

def Room.pwmTimingW : List Field :=
  [PWM_TIMING_PER, PWM_TIMING_PHASE, PWM_TIMING_LATE]
theorem Room.pwmTiming_fld (pl : Plan) (p : Nat) (r : Room) (g : Field)
    (h : Field.clear Room.pwmTimingW g = true) : (Room.pwmTiming pl p r).fld g = r.fld g := by
  simp only [Room.pwmTimingW, Field.clear_append, Field.clear_cons, Field.clear_nil, Bool.and_true, Bool.and_eq_true] at h
  unfold Room.pwmTiming
  try dsimp only
  repeat' first
    | with_reducible rfl
    | with_reducible apply Room.fld_ite_eq
    | with_reducible refine (Room.fld_put_apart _ _ _ _ (by simp only [h])).trans ?_
    | with_reducible refine (Room.fld_putB_apart _ _ _ _ (by simp only [h])).trans ?_
    | split

def Room.mirrorRetryW : List Field :=
  []
theorem Room.mirrorRetry_fld (now : Nat) (r : Room) (g : Field)
    (h : Field.clear Room.mirrorRetryW g = true) : (Room.mirrorRetry now r).fld g = r.fld g := by
  simp only [Room.mirrorRetryW, Field.clear_append, Field.clear_cons, Field.clear_nil, Bool.and_true, Bool.and_eq_true] at h
  unfold Room.mirrorRetry
  repeat' first
    | with_reducible rfl
    | with_reducible apply Room.fld_ite_eq
    | with_reducible refine (Room.fld_onConv _ _ _).trans ?_
    | with_reducible refine (Room.fld_mk _ _ _ _ _ _ _ _ _ _ _ _ _ _ _ _ _ _ _ _).trans ?_
    | with_reducible refine (Room.fld_regs _ _).trans ?_
    | split

def Room.applyCcW : List Field :=
  [CC_STAT_ASTATE, CC_STAT_ORIENT, CC_STAT_ORIENT_VALID, CC_STAT_PARTNER, VCONN_CTRL_EN] ++ Room.shadowRpW
theorem Room.applyCc_fld (w : Word) (r : Room) (g : Field)
    (h : Field.clear Room.applyCcW g = true) : (Room.applyCc w r).fld g = r.fld g := by
  simp only [Room.applyCcW, Field.clear_append, Field.clear_cons, Field.clear_nil, Bool.and_true, Bool.and_eq_true] at h
  unfold Room.applyCc
  try dsimp only
  repeat' first
    | with_reducible rfl
    | with_reducible apply Room.fld_ite_eq
    | with_reducible refine (Room.fld_put_apart _ _ _ _ (by simp only [h])).trans ?_
    | with_reducible refine (Room.fld_off_apart _ _ _ (by simp only [h])).trans ?_
    | with_reducible refine (Room.fld_onCc _ _ _).trans ?_
    | with_reducible refine (Room.shadowRp_fld _ g (by simp only [h])).trans ?_
    | with_reducible refine (Room.fld_mk _ _ _ _ _ _ _ _ _ _ _ _ _ _ _ _ _ _ _ _).trans ?_
    | with_reducible refine (Room.fld_regs _ _).trans ?_
    | split

end Sys2Proof.Machine
end

