-- ==== Sys2Proof/Laws/Wire.lean ====
section
/-! SUPPORT. Laws/Wire.lean: what a receiver reads of the line of a frame (13_host_link.md R434 to R436). -/

namespace Sys2Proof.Machine

/-- No stuffed byte is a flag (R434). -/
theorem stuff_no_flag (b : List Byte) : ∀ x ∈ stuff b, x ≠ 0x7E#8 := by
  intro x hx
  simp only [stuff, List.mem_flatMap] at hx
  obtain ⟨y, -, hy⟩ := hx
  split at hy
  next h => rcases (by simpa using h : y = 0x7E#8 ∨ y = 0x7D#8) with rfl | rfl <;> revert hy <;> revert x <;> decide
  next h => simp at hy h; exact hy ▸ h.1

theorem stuff_ne_nil {b : List Byte} (h : b ≠ []) : stuff b ≠ [] := by
  cases b with
  | nil => exact absurd rfl h
  | cons x l => simp only [stuff, List.flatMap_cons]; split <;> simp

/-- A byte that is no escape stands for itself. -/
theorem unstuff_cons (x : Byte) (l : List Byte) (h : x ≠ 0x7D#8) : unstuff (x :: l) = (unstuff l).map (x :: ·) := by
  cases l <;> simp [unstuff, h]

/-- Unstuffing reads back what stuffing wrote (R434). -/
theorem unstuff_stuff (b : List Byte) : unstuff (stuff b) = some b := by
  induction b with
  | nil => rfl
  | cons x l ih =>
    have hc : stuff (x :: l) = (if x = 0x7E#8 || x = 0x7D#8 then [0x7D#8, x ^^^ 0x20#8] else [x]) ++ stuff l := rfl
    rw [hc]
    split
    next h =>
      have hx : x ^^^ 0x20#8 ^^^ 0x20#8 = x := by rw [BitVec.xor_assoc]; simp
      simp [unstuff, ih, hx]
    next h =>
      simp at h
      simp [unstuff_cons x _ h.2, ih]

theorem opened_wire {b : List Byte} (h : b ≠ []) : opened (wire b) = stuff b ++ [0x7E#8] := by
  have hf := stuff_no_flag b
  have hn := stuff_ne_nil h
  cases e : stuff b with
  | nil => exact absurd e hn
  | cons y m =>
    rw [e] at hf
    have hy := hf y (List.mem_cons_self ..)
    simp [opened, wire, e, List.dropWhile, hy]

/-- What a receiver makes of the line of a frame: the bytes as sent, with the checks of length and CRC (R434 to R436). -/
theorem readFrame_wire {b : List Byte} (h : b ≠ []) :
    readFrame (wire b) =
      if b.length = u16 b 4 + 10 && crc32c (b.take (b.length - 4)) = u32 b (b.length - 4) then
        some (u8 b 0, ⟨b.getD 1 0, BitVec.ofNat 16 (u16 b 2), bslice b 6 (u16 b 4)⟩)
      else none := by
  have ho := opened_wire h
  have hcl : closed (wire b) = true := by simp [closed, ho]
  have hb : between (wire b) = stuff b := by
    unfold between
    rw [ho, List.takeWhile_append_of_pos]
    · simp
    · intro x hx; simpa using stuff_no_flag b x hx
  simp [readFrame, hcl, hb, unstuff_stuff]

/-- The word after `b` is the one whose bytes were put there (R98, R435). -/
theorem u32_append (b : List Byte) (v : Nat) (h : v < 2 ^ 32) : u32 (b ++ leBytes 4 v) b.length = v := by
  have e : leBytes 4 v = [BitVec.ofNat 8 v, BitVec.ofNat 8 (v / 256), BitVec.ofNat 8 (v / 65536), BitVec.ofNat 8 (v / 16777216)] := by
    simp [leBytes, List.range_succ]
  simp [u32, u16, u8, e, List.getD_eq_getElem?_getD, List.getElem?_append_right, Nat.add_assoc]
  omega

theorem crc32c_lt (b : List Byte) : crc32c b < 2 ^ 32 := BitVec.isLt _

/-- The CRC of a frame that the block sends is correct (R435, R436). -/
theorem crc_frameBytes (type seq : Nat) (payload : List Byte) (b : List Byte) (hb : b = frameBytes type seq payload) :
    crc32c (b.take (b.length - 4)) = u32 b (b.length - 4) := by
  have hl : b.length - 4 = (frameBody type 0 seq payload).length := by simp [hb, frameBytes, leBytes]
  rw [hl, hb, frameBytes, u32_append _ _ (crc32c_lt _), List.take_left]

end Sys2Proof.Machine
end

