-- ==== Sys2Proof/WellFormed.lean ====
section
/-! DEFINITION. WellFormed.lean: the operands that a command can carry on the hardware's wires: the widths of its
fields. A command that is not well formed is spelled by no requester. -/

namespace Sys2Proof

/-- The access sizes of R20, in bytes. -/
def sizeOk (n : Nat) : Bool := n = 1 || n = 2 || n = 4

/-- A byte address of the 32-bit address space (R57). -/
def addrOk (a : Nat) : Bool := a < 0x100000000

/-- A value of at most `n` bits. -/
def fits (n v : Nat) : Bool := v < 2 ^ n

/-- A two's-complement value of at most `n` bits. -/
def sfits (n : Nat) (v : Int) : Bool := decide (-(2 ^ (n - 1) : Int) ≤ v) && decide (v < 2 ^ (n - 1))

/-- A burst on a Stair lane: K27.7, 64 characters and K29.7 at most (R492). -/
def laneOk (line : List (BitVec 10)) : Bool := line.length ≤ 66

/-- A frame's payload is at most `n` bytes long (R435, R542). -/
def lineOk (n : Nat) (line : List Byte) : Bool := line.length ≤ 2 * (n + 10) + 2

/-- Every operand of the command fits the field that carries it. -/
def Instr.wf : Instr → Bool
  | .registerWrite _ addr size _ => addrOk addr && sizeOk size
  | .faultRead _ => true
  | .pdErrcntRead _ => true
  | .thrCntRead _ => true
  | .hsFaultRead _ => true
  | .landFaultRead _ => true
  | .wingFaultRead _ _ => true
  | .pantryFaultRead => true
  | .resetCauseRead => true
  | .wakeCauseRead => true
  | .pwrStatRead => true
  | .hallModeRead => true
  | .hlErrRead _ => true
  | .twErrRead _ => true
  | .stairErrRead => true
  | .atticResultRead => true
  | .jnlResultRead => true
  | .tbCtrlRead => true
  | .hbStatRead => true
  | .subwordRead _ addr size => addrOk addr && (size = 1 || size = 2)
  | .enableSet _ => true
  | .enableClear _ => true
  | .portRemovalEnd _ => true
  | .forceSafe _ _ _ => true
  | .restartCore _ => true
  | .recover _ => true
  | .grantAsk _ w => fits 16 w
  | .grantAnswer _ => true
  | .resvLapse _ => true
  | .budgetLimitWrite _ addr _ => addrOk addr
  | .coreWdt _ => true
  | .coreKick _ key => fits 16 key
  | .adcCalibration _ _ _ _ => true
  | .landingFault _ _ => true
  | .landingShedStep _ => true
  | .landingSelfCheck _ => true
  | .wingWatchdog _ _ => true
  | .wingSafeDelay _ => true
  | .wingRestart _ => true
  | .parity _ => true
  | .hallModeWrite _ mode => fits 3 mode
  | .modeApply _ => true
  | .forcedMode _ => true
  | .fireN => true
  | .fireNRelease => true
  | .clockFailure _ => true
  | .clkFail => true
  | .slowXtalSelect => true
  | .slowSwitch => true
  | .rcCalibration fRc => fits 20 fRc
  | .aonPor => true
  | .borCore => true
  | .borIo => true
  | .borA => true
  | .pin _ _ => true
  | .testEn _ => true
  | .resetKey key => fits 8 key
  | .chipResetEnd _ _ _ _ _ _ => true
  | .xtalOk => true
  | .pllLock _ => true
  | .reqRun => true
  | .reqDoze => true
  | .reqSleep _ => true
  | .reqStandby _ => true
  | .entrySequenceStep => true
  | .wakeN => true
  | .ccSamplingWindow lv => decide (lv.length ≤ 48)
  | .keyWake => true
  | .alarm => true
  | .fireWake => true
  | .hlWake _ => true
  | .porchWake => true
  | .sleepWake => true
  | .standbyExit => true
  | .planRdDataRead => true
  | .fwRdDataRead => true
  | .celRdDataRead => true
  | .ccLevelChange _ _ _ => true
  | .tccdebounce _ => true
  | .tpddebounce _ => true
  | .ttryccdebounce _ => true
  | .tdrptry _ => true
  | .terrorrecovery _ => true
  | .drpToggle _ => true
  | .attachGrant _ => true
  | .budgetWait _ => true
  | .rpLimitLower _ => true
  | .vbusLost _ => true
  | .vconnEnWrite _ _ => true
  | .vconnOc _ _ => true
  | .ccOv _ _ _ => true
  | .ccIsolationRelease _ _ => true
  | .errorRecovery _ => true
  | .messageReceived _ os _ => os.length == 4
  | .packetTruncated _ => true
  | .goodcrc _ _ => true
  | .messageDelivered _ => true
  | .goodcrcReceived _ _ _ => true
  | .transmitStart _ _ => true
  | .transmitEnd _ => true
  | .treceive _ => true
  | .retransmit _ _ => true
  | .tsenderresponse _ => true
  | .tsinktx _ => true
  | .tamsidle _ => true
  | .amsEnd _ => true
  | .commit _ _ _ => true
  | .discard _ _ _ => true
  | .txRelease _ => true
  | .txWithdraw _ => true
  | .rxPop _ => true
  | .vdmPop _ => true
  | .hardReset _ => true
  | .cableReset _ => true
  | .cableDisc _ => true
  | .hvdmSend _ => true
  | .chunkRequest _ _ => true
  | .tchunksenderrequest _ => true
  | .tchunksenderresponse _ => true
  | .automaticReply _ _ => true
  | .bistCarrierEnd _ => true
  | .eprKeepalive _ => true
  | .kaMiss _ => true
  | .eprSourceTimeout _ => true
  | .cableDiscoveryStart _ => true
  | .cableResponseTimeout _ => true
  | .cableDiscoveryAttempt _ => true
  | .hardResetTransmit _ => true
  | .hardResetReceived _ => true
  | .cableResetReceived _ => true
  | .tsrc _ => true
  | .referenceReached _ => true
  | .settled _ => true
  | .settleFail _ => true
  | .vsetWrite _ mv => fits 16 mv
  | .vlimRecompute _ vin10 => fits 17 vin10
  | .giveup _ => true
  | .hardResetVconnOff _ => true
  | .hardResetVbusSafe0 _ => true
  | .tsrcrecover _ => true
  | .hardResetEnd _ => true
  | .prSwapVbusSafe0 _ => true
  | .psRdyTimeout _ => true
  | .trig _ => true
  | .frsInputTrigger _ => true
  | .frsSignalEnd _ => true
  | .frsTimeout _ => true
  | .frsDetect _ => true
  | .frsVbusDrop _ => true
  | .vconnSwapTimeout _ => true
  | .periodStart _ => true
  | .loopUpdate _ _ _ _ _ vs is => decide (vs.length ≤ 40 ∧ is.length ≤ 40)
  | .softStartDone _ => true
  | .softStopDone _ => true
  | .coefApply _ => true
  | .thresholdTrip _ _ _ _ => true
  | .thresholdLatch _ _ _ => true
  | .ovT _ => true
  | .uvT _ => true
  | .regLoss _ => true
  | .efuse _ => true
  | .foldbackTimeout _ => true
  | .coldClose _ => true
  | .retryAttempt _ => true
  | .attemptWindowEnd _ => true
  | .retryCountReset _ => true
  | .fetShort _ => true
  | .seatChange _ _ _ => true
  | .tseat _ _ => true
  | .seatLift _ _ _ => true
  | .gateUp _ _ => true
  | .slotOn _ _ => true
  | .inrushTo _ => true
  | .short _ _ => true
  | .breaker _ => true
  | .pgLoss _ _ => true
  | .slotFetShort _ _ => true
  | .slotAttempt _ _ => true
  | .slotAttemptOk _ => true
  | .slotCountReset _ => true
  | .hsEnSet _ => true
  | .hsEnClear _ => true
  | .hsRecover _ _ => true
  | .hsLimitWrite _ _ => true
  | .hearthUpdate die => fits 16 die
  | .grace _ => true
  | .ithRecompute _ => true
  | .clampRelease _ => true
  | .dieCapRelease => true
  | .tambConversion mv0 mv1 => fits 12 mv0 && fits 12 mv1
  | .powerBalanceCheck _ slot ports => decide (ports.length = 8) && sfits 24 slot && ports.all (sfits 24)
  | .qidOn _ => true
  | .idRevTrip _ => true
  | .batteryOperationBegin _ => true
  | .batteryMode => true
  | .batteryOperationEnd _ => true
  | .batLow mean => fits 17 mean
  | .cutoff mean => fits 17 mean
  | .batPresChange _ => true
  | .presStable => true
  | .qualification mean => fits 17 mean
  | .prechargeDone _ => true
  | .preTimeout => true
  | .ndvWindow mean => fits 17 mean
  | .dtdtEvaluation mean => sfits 20 mean
  | .safetyTmr => true
  | .pause _ => true
  | .budgetPauseRetry => true
  | .chargerGrant => true
  | .pOvTrip => true
  | .chgOv => true
  | .pPkTrip _ => true
  | .start => true
  | .restart _ => true
  | .panEnWrite _ => true
  | .lampSlot => true
  | .add _ _ _ _ _ => true
  | .sub _ _ _ _ _ => true
  | .and _ _ _ _ _ => true
  | .or _ _ _ _ _ => true
  | .xor _ _ _ _ _ => true
  | .sll _ _ _ _ _ => true
  | .srl _ _ _ _ _ => true
  | .sra _ _ _ _ _ => true
  | .mul _ _ _ _ _ => true
  | .mulh _ _ _ _ _ => true
  | .mulhu _ _ _ _ _ => true
  | .divu _ _ _ _ _ => true
  | .remu _ _ _ _ _ => true
  | .minu _ _ _ _ _ => true
  | .maxu _ _ _ _ _ => true
  | .addi _ _ _ _ => true
  | .andi _ _ _ _ => true
  | .ori _ _ _ _ => true
  | .xori _ _ _ _ => true
  | .slli _ _ _ _ => true
  | .srli _ _ _ _ => true
  | .srai _ _ _ _ => true
  | .lui _ _ _ => true
  | .ceq _ _ _ _ _ => true
  | .cne _ _ _ _ _ => true
  | .clt _ _ _ _ _ => true
  | .cltu _ _ _ _ _ => true
  | .cge _ _ _ _ _ => true
  | .cgeu _ _ _ _ _ => true
  | .ceqi _ _ _ _ => true
  | .cnei _ _ _ _ => true
  | .clti _ _ _ _ => true
  | .cltui _ _ _ _ => true
  | .cgei _ _ _ _ => true
  | .cgeui _ _ _ _ => true
  | .bz _ _ _ => true
  | .bnz _ _ _ => true
  | .jal _ _ _ => true
  | .jalr _ _ _ _ => true
  | .lb _ _ _ _ => true
  | .lbu _ _ _ _ => true
  | .lh _ _ _ _ => true
  | .lhu _ _ _ _ => true
  | .lw _ _ _ _ => true
  | .sb _ _ _ _ => true
  | .sh _ _ _ _ => true
  | .sw _ _ _ _ => true
  | .lwp _ _ _ _ => true
  | .swp _ _ _ _ => true
  | .cpw _ _ _ _ _ => true
  | .rpt _ _ _ _ => true
  | .rptr _ _ _ _ => true
  | .rptu _ _ _ _ => true
  | .wait _ _ _ _ => true
  | .evret _ _ _ _ => true
  | .sync _ _ _ _ => true
  | .mfs _ _ _ _ => true
  | .mts _ _ _ _ => true
  | .hbeat _ _ _ _ => true
  | .brk _ _ _ _ => true
  | .eventEntry _ => true
  | .extCopyDone _ => true
  | .hold _ _ => true
  | .doorbell _ _ => true
  | .dbAck _ _ => true
  | .timerFire _ _ => true
  | .tmrCtrlWrite _ _ _ => true
  | .tmrCmpWrite _ _ _ => true
  | .tmrCntWrite _ _ _ => true
  | .load => true
  | .energyUpdate => true
  | .snapTrig => true
  | .snapIoEdge _ => true
  | .snapIoRelease => true
  | .capture => true
  | .hlRead _ l => lineOk 1024 l
  | .hlWrite _ l => lineOk 1024 l
  | .rmw _ l _ => l.all (lineOk 1024)
  | .bulkRead _ l _ => l.all (lineOk 1024)
  | .bulkWrite _ l _ => l.all (lineOk 1024)
  | .subscribe _ l => lineOk 1024 l
  | .snapshot _ l => lineOk 1024 l
  | .hlActivate _ l _ _ => lineOk 1024 l
  | .ack _ l => lineOk 1024 l
  | .setting _ l _ => lineOk 1024 l
  | .vdmSend _ l _ => lineOk 1024 l
  | .ping _ l => lineOk 1024 l
  | .unknownType _ l => lineOk 4128 l
  | .frameDiscard _ _ _ _ => true
  | .frameAbort _ _ _ => true
  | .timeout _ => true
  | .go => true
  | .eventSend _ => true
  | .eventResend _ => true
  | .twWriteTransaction _ _ _ => true
  | .twReadTransaction _ _ _ => true
  | .twTimeout _ _ => true
  | .twBusError _ _ => true
  | .twAddressMatchWake _ _ => true
  | .tcGo _ => true
  | .tcDone _ _ count data => count ≤ 63 && data.length ≤ 33
  | .heartbeatSend => true
  | .heartbeatPulse widthNs => fits 20 widthNs
  | .peerLost => true
  | .keyInChange _ => true
  | .claimStartA => true
  | .claimStartB => true
  | .takeover => true
  | .claimGuardEnd => true
  | .contention _ => true
  | .peerNoYield _ => true
  | .release _ => true
  | .hbOutFault => true
  | .keyInStuck => true
  | .driveConflict _ => true
  | .pairResync => true
  | .laneLock _ => true
  | .laneLockLoss _ _ => true
  | .linkUp => true
  | .linkDown => true
  | .stairFrame _ line => laneOk line
  | .stairLoop _ line => laneOk line
  | .stairRoom _ line => laneOk line
  | .stairSlot _ line => laneOk line
  | .stairTimer _ line => laneOk line
  | .stairHearth _ line => laneOk line
  | .stairEnergy _ line => laneOk line
  | .stairHall _ line => laneOk line
  | .stairPantry _ line => laneOk line
  | .stairWrite _ line => laneOk line
  | .stairStatus _ line => laneOk line
  | .stairResync _ line => laneOk line
  | .stairDigest _ line => laneOk line
  | .frameSend => true
  | .recordSend type target bank => fits 8 type && fits 8 target && fits 2 bank
  | .recordResend type target bank => fits 8 type && fits 8 target && fits 2 bank
  | .statusSend => true
  | .digestSend => true
  | .resyncSend => true
  | .statusLoss => true
  | .program _ _ _ => true
  | .margin _ => true
  | .advance _ _ _ => true
  | .progSecret _ _ _ => true
  | .lifecycle _ _ _ => true
  | .atticCommandDone _ bad => bad.all fun x => x.1 < 256
  | .atticLock _ => true
  | .verify => true
  | .verifyDone => true
  | .ident l => lineOk 4128 l
  | .openSession l _ => lineOk 4128 l
  | .chunk l _ _ _ => lineOk 4128 l
  | .finish l _ _ => lineOk 4128 l
  | .porchAbort l => lineOk 4128 l
  | .porchStatus l => lineOk 4128 l
  | .porchActivate l _ => lineOk 4128 l
  | .sessionLost _ _ => true
  | .activationEvaluation means => means.length ≤ 48
  | .expired _ => true
  | .activationPeerReset => true
  | .confirmed _ _ _ => true
  | .reverted _ => true
  | .settingReset => true
  | .append _ => true
  | .bootrec _ _ => true
  | .groupCommit => true
  | .compaction _ => true
  | .cellarTimeout _ => true
  | .hbMiss => true
  | .wdt => true
  | .openPinTest _ moved => fits 16 moved
  | .holdEnd _ => true
  | .idcode _ => true
  | .rdStat _ => true
  | .wrAddr _ _ _ => true
  | .rdData _ => true
  | .rdBuf _ => true
  | .wrData _ _ _ => true
  | .dbgAbort _ _ _ => true
  | .chkErr _ => true
  | .lineReset => true
  | .dbgTimeout => true
  | .dbgAccessDone => true
  | .halt _ _ => true
  | .coreHalt _ => true
  | .step _ => true
  | .creg _ => true
  | .dbgReset => true
  | .snap => true
  | .tick => true
  | .slowClockEdge _ => true
  | .vbusLevelChange _ mv => fits 16 mv
  | .vslotinRise _ _ => true
  | .slotLimitEdge _ _ _ => true
  | .ntcConversion uv => fits 21 uv
  | .vbusInReturn _ => true
  | .chargerPeriodStart _ => true
  | .hlCtsChange _ _ => true

end Sys2Proof
end

