-- ==== Sys2Proof/Tests/Slice0.lean ====
section
/-! SUPPORT. Tests/Slice0.lean: small tests of one step, ill-formed terms, and states that meet the hypotheses of each
statement. -/

namespace Sys2Proof.Tests
open Sys2Proof Sys2Proof.Machine

-- One theorem after the other, so that the checks wait for no more than one thread.
set_option Elab.async false

/-- A port of the test Plan. -/
def tPort (cls role : Nat) : PortPlan := ⟨true, cls, role, 0x34, 5000, 48000, 5000, 100, 0, 0, 0, 10⟩

/-- A Plan with three ports, six slots, a battery and one program. -/
def tPlan (flags : Nat) : Plan :=
  { planId := 1, planRev := 1, fmtMinor := 0, schema := 1, flags := flags,
    ports := [tPort 1 0, tPort 1 2, tPort 2 1], gangs := [], trip := [], budget := List.replicate 9 ⟨false, 0, 3000⟩,
    timers := [], twowire := [⟨0, 0x20, 0x7F, false, 0x100⟩],
    programs := [⟨0, 0, [1, 2, 3, 4], [], crc32c [1, 2, 3, 4]⟩],
    hearth := [0, 48, 54, 56].map fun m => ⟨m, 0, [100, 100, 100], [100, 100, 100], 10, 0, 900, 1000⟩,
    slots := List.replicate 6 ⟨true, 500, 200⟩, pantry := some ⟨10, 2000, 0, 10⟩, ranges := [],
    settings := [⟨1, 2, 0, 8, 0x20044, 0, 0, 255⟩] }

/-- A state after boot complete, long after reset, in single-chip mode (flags 0) or in pair mode (flags 1); its registers
hold 0, so that the tests are cheap to evaluate. -/
def up (flags : Nat) : State :=
  { State.reset with
    now := 1000000000000, clk := { State.reset.clk with phase := .run }, plan := some (tPlan flags), regs := [],
    rooms := Vector.replicate 48 { Room.reset 0 with regs := [] },
    lands := Vector.replicate 6 { Landing.reset with regs := [] },
    wings := Vector.replicate 2 { Wing.reset with regs := [] } }
/-- Registers of the Hall set, and then other parts of the state. -/
def hl (flags : Nat) (l : List (Field × Nat)) (f : State → State := id) : State :=
  f (l.foldl (fun s x => s.put x.1 x.2) (up flags))
/-- Registers of a Room set, and then other parts of that Room. -/
def rm (p : Fin 48) (l : List (Field × Nat)) (f : Room → Room := id) (s : State := up 0) : State :=
  s.onRoom p fun r => f (l.foldl (fun r x => r.put x.1 x.2) r)
/-- Registers of a Landing set, and then other parts of it. -/
def ld (b : Fin 6) (l : List (Field × Nat)) (f : Landing → Landing := id) (s : State := up 0) : State :=
  s.onLand b fun r => f (l.foldl (fun r x => r.put x.1 x.2) r)
/-- What a frame or a record puts on its line. -/
def frameLine (type seq : Nat) (payload : List Byte) : List Byte := wire (frameBytes type seq payload)
def burstLine (type : Nat) (c : StairRec) : List (BitVec 10) := (laneSymbols (burst (recordBytes type c)) false).1
/-- A line of a frame is read as the frame whose bytes pass the checks (Laws/Wire.lean). -/
theorem typed_frameLine (type seq : Nat) (payload : List Byte) (f : Frame) (n : Nat)
    (hl : (frameBytes type seq payload).length = n + 10) (hn : u16 (frameBytes type seq payload) 4 = n)
    (ht : u8 (frameBytes type seq payload) 0 = type)
    (hf : (⟨(frameBytes type seq payload).getD 1 0, BitVec.ofNat 16 (u16 (frameBytes type seq payload) 2),
      bslice (frameBytes type seq payload) 6 n⟩ : Frame) = f) :
    typed (frameLine type seq payload) type = some f := by
  have hc := crc_frameBytes type seq payload _ rfl
  unfold typed frameLine
  rw [readFrame_wire (by simp [frameBytes, frameBody]), hn, if_pos (by simpa using ⟨hl, hc⟩), ht, hf]
  simp

/-! ### Ill-formed operands that the check of WellFormed.lean refuses, one for each check -/

/-- A line of one byte more than a frame of `n` payload bytes can take. -/
def longLine (n : Nat) : List Byte := List.replicate (2 * (n + 10) + 3) 0
/-- A burst of one symbol too many. -/
def longBurst : List (BitVec 10) := List.replicate 67 0

theorem test_wf_numbers :
    [Instr.registerWrite (.bus .hall) 0x100000000 4 0, .registerWrite (.bus .hall) 0 3 0, .subwordRead (.bus .hall) 0 4,
     .subwordRead (.bus .hall) 0x100000000 1, .grantAsk 0 65536, .budgetLimitWrite .hall 0x100000000 0, .coreKick 0 65536,
     .hallModeWrite .hall 8, .rcCalibration 1048576, .resetKey 256, .ccSamplingWindow (List.replicate 49 default),
     .messageReceived 0 [0, 0, 0] [], .vsetWrite 0 65536, .vlimRecompute 0 131072,
     .loopUpdate 0 0 0 0 0 (List.replicate 41 0) [], .loopUpdate 0 0 0 0 0 [] (List.replicate 41 0), .hearthUpdate 65536,
     .tambConversion 4096 0, .tambConversion 0 4096, .powerBalanceCheck 0 0 [], .powerBalanceCheck 0 8388608 (List.replicate 8 0),
     .powerBalanceCheck 0 0 (List.replicate 8 8388608), .batLow 131072, .cutoff 131072, .qualification 131072,
     .ndvWindow 131072, .dtdtEvaluation 524288, .tcDone 0 0 64 [], .tcDone 0 0 0 (List.replicate 34 0),
     .heartbeatPulse 1048576, .atticCommandDone none [(256, false, 0)],
     .activationEvaluation (List.replicate 49 0), .openPinTest (.land 0 0) 65536].all (fun i => i.wf = false) = true := by
  decide +kernel
theorem test_wf_records :
    [Instr.stairFrame 0 longBurst, .stairLoop 0 longBurst, .stairRoom 0 longBurst, .stairSlot 0 longBurst,
     .stairTimer 0 longBurst, .stairHearth 0 longBurst, .stairEnergy 0 longBurst, .stairHall 0 longBurst,
     .stairPantry 0 longBurst, .stairWrite 0 longBurst, .stairStatus 0 longBurst, .stairResync 0 longBurst,
     .stairDigest 0 longBurst, .recordSend 256 0 0, .recordSend 8 256 0,
     .recordSend 8 0 4, .recordResend 256 0 0, .recordResend 8 256 0, .recordResend 8 0 4].all
      (fun i => i.wf = false) = true := by decide +kernel
theorem test_wf_link_frames :
    [Instr.hlRead 0 (longLine 1024), .hlWrite 0 (longLine 1024), .rmw 0 (some (longLine 1024)) 0,
     .bulkRead 0 (some (longLine 1024)) 0, .bulkWrite 0 (some (longLine 1024)) 0, .subscribe 0 (longLine 1024),
     .snapshot 0 (longLine 1024), .hlActivate 0 (longLine 1024) false true, .ack 0 (longLine 1024),
     .setting 0 (longLine 1024) false, .vdmSend 0 (longLine 1024) false, .ping 0 (longLine 1024)].all
      (fun i => i.wf = false) = true := by decide +kernel
theorem test_wf_porch_frames :
    [Instr.unknownType 0 (longLine 4128), .ident (longLine 4128), .openSession (longLine 4128) true,
     .chunk (longLine 4128) true none true, .finish (longLine 4128) true true, .porchAbort (longLine 4128),
     .porchStatus (longLine 4128), .porchActivate (longLine 4128) true].all (fun i => i.wf = false) = true := by decide +kernel

/-- What holds of the next state that a command answers. -/
def after (o : Out) (f : State → Bool) : Bool := match o with | .next t => f t | _ => false

/-! ### Worked examples of the spec -/

/-- "Four addresses" (23_register_index.md). -/
theorem test_addresses :
    locate 0x0174021C = some (.roomReg 29 0x21C) ∧ locate 0x00024254 = some (.land 4 0x254) ∧
    locate 0x00070124 = some (.hall 0x70124) ∧ locate 0x01740400 = none := by decide
/-- "Reading the status of P29": the reply's bytes before its CRC (13_host_link.md). -/
theorem test_read_reply :
    (replyBytes 1 ⟨0, 0x7E, []⟩ ([0, 0, 0, 0] ++ wordBytes 0x0020503B#32)).take 14 =
      [0x81, 0x00, 0x7E, 0x00, 0x08, 0x00, 0x00, 0x00, 0x00, 0x00, 0x3B, 0x50, 0x20, 0x00] := by decide +kernel
/-- "Two registers of P19 with PEC": the window that address 0x43 selects (14_two_wire.md). -/
theorem test_port_window : TwEntry.window ⟨1, 0x40, 7, true, 16⟩ 0x43 = 0x01000000 + 0x40000 * 19 := by decide
/-- "A rollback refused and a counter advanced": the counter reads 43; VALUE 45 programs bits 11 and 12 of word 89, and it
then reads 45 (16_attic_boot.md). -/
def fwCtr43 : Attic := { Attic.reset with a := [(88, 0xFFFFFFFF), (89, 0x7FF)], shadow := [(88, 0xFFFFFFFF), (89, 0x7FF)] }
theorem test_counter_reads : fwCtr43.ctr 0 = 43 := by decide +kernel
theorem test_counter_advances :
    after (execAtticCommandDone none [] { up 0 with attic := { fwCtr43 with cmd := some ⟨3, 0, 0, 0, 45, 0, []⟩ } }) (fun t => decide (t.attic.logical 89 = 0x1FFF#32 ∧ (t.attic.refresh [88, 89]).ctr 0 = 45)) = true := by decide +kernel
/-- A slot with one of its two seat inputs open does not start (R317). -/
theorem test_no_seat_no_start :
    after (execTseat 0 ⟨2400, 0, 0, true⟩ (ld 0 [(HS_STAT_STATE, hSeating), (HS_CTRL_EN, 1), (HS_STAT_SEAT1, 1)])) (fun t => decide ((t.land 0).st = hSeating)) = true := by decide +kernel

/-! ### One step on small states -/

/-- A Room core about to execute, with g1 to g4. -/
def coreAt (g1 g2 : Word) : State :=
  rm 0 [] fun r => { r with core := { r.core with state := 1, pc := 0x20010, g := [0, g1, g2] ++ List.replicate 13 0 } }
/-- What a command leaves in g3 of that core. -/
def g3After (o : Out) : Word := match o with | .next t => t.rg (.room 0) 3 | _ => 0

theorem test_add_wraps : g3After (execAdd (.room 0) 3 1 2 0 (coreAt 0xFFFFFFFF 2)) = 1 := by decide +kernel
theorem test_sra_sign : g3After (execSra (.room 0) 3 1 2 0 (coreAt 0x80000000 33)) = 0xC0000000 := by decide +kernel
theorem test_mulh_sign : g3After (execMulh (.room 0) 3 1 2 0 (coreAt 0xFFFFFFFF 2)) = 0xFFFFFFFF := by decide +kernel
theorem test_divu_zero : g3After (execDivu (.room 0) 3 1 2 0 (coreAt 7 0)) = 0xFFFFFFFF := by decide +kernel
theorem test_remu_zero : g3After (execRemu (.room 0) 3 1 2 0 (coreAt 7 0)) = 7 := by decide +kernel
theorem test_clt_signed : g3After (execClt (.room 0) 3 1 2 0 (coreAt 0x80000000 1)) = 1 := by decide +kernel
theorem test_cltu_unsigned : g3After (execCltu (.room 0) 3 1 2 0 (coreAt 0x80000000 1)) = 0 := by decide +kernel
/-- A write to g0 has no effect (R384). -/
theorem test_g0 :
    after (execAdd (.room 0) 0 1 2 0 (coreAt 5 6)) (fun t => decide (t.rg (.room 0) 0 = 0)) = true := by decide +kernel
/-- The grant of an ask is never below the present grant (R225). -/
theorem test_grant_floor :
    after (execGrantAnswer 0 (rm 0 [(GRANT_ASK_STATE, 1), (GRANT_ASK_ASK_W, 20), (GRANT_GRANT_W, 40)])) (fun t => decide ((t.room 0).fld GRANT_RESV_W = 40)) = true := by decide +kernel

/-! ### Witnesses: states and operands that meet the hypotheses of each statement -/

/-- A command at the front of a queue; a step that answers a next state; commands with a frame that complete. -/
theorem witness_StepRunsTheFront :
    (∃ (s : State) (c : Instr) (rest : List Instr), s.pending = c :: rest) ∧ (∃ s : State, s.pending = []) :=
  ⟨⟨{ up 0 with pending := [.slowClockEdge 0] }, _, _, rfl⟩, State.reset, rfl⟩
theorem small_memOk (p : Fin 48) : (({ State.reset with now := 1 } : State).room p).memOk := by
  have h : (({ State.reset with now := 1 } : State).room p).data = [] ∧
      (({ State.reset with now := 1 } : State).room p).code = [] := by
    constructor <;> simp [State.room, State.reset, Room.reset]
  unfold Room.memOk
  rw [h.1, h.2]
  exact ⟨rfl, rfl⟩
theorem witness_StepKeepsInvariant : ∃ s t : State, s.Inv ∧ step s = .next t :=
  ⟨{ State.reset with now := 1 }, _,
    ⟨rfl, rfl, rfl, rfl, by decide +kernel, (fun _ h => by cases h), small_memOk, rfl, rfl, rfl⟩, rfl⟩
theorem witness_FusesNeverReturn : ∃ (s t : State) (w b : Nat), step s = .next t ∧ (s.attic.a.get w).getLsbD b = true :=
  ⟨State.reset, _, 16, 0, rfl, by decide +kernel⟩
theorem witness_frames :
    (∃ c f s t, portFrames c = some f ∧ exec c s = .next t) ∧ (∃ c f s t, slotFrames c = some f ∧ exec c s = .next t) ∧
    (∃ c f s t, coreFrames c = some f ∧ exec c s = .next t) ∧ (∃ c f s t, hallFrames c = some f ∧ exec c s = .next t) ∧
    (∃ c f s t, wideFrames c = some f ∧ exec c s = .next t) :=
  ⟨⟨.faultRead 0, _, up 0, _, rfl, rfl⟩, ⟨.slotAttemptOk 0, _, up 0, _, rfl, rfl⟩, ⟨.coreHalt .hall, _, up 0, _, rfl, rfl⟩,
    ⟨.pwrStatRead, _, up 0, _, rfl, rfl⟩, ⟨.wingFaultRead 0 false, _, up 0, _, rfl, rfl⟩⟩
/-- A tick with empty receive buffers, an invalid symbol, and a burst that is cut short. -/
theorem witness_tick :
    ∃ s t : State, (s.link 0).rx = [] ∧ (s.link 1).rx = [] ∧ exec .tick s = .next t :=
  ⟨State.reset, _, rfl, rfl, rfl⟩
theorem witness_copies :
    taken [0] = none ∧ ∃ cs, taken (laneSymbols [k27_7, k29_7] false).1 = some cs ∧ readBurst cs = none := by
  refine ⟨by decide +kernel, _, rfl, by decide +kernel⟩

/-- A header of a firmware image of 32 bytes with key 0, and a session that has received the whole image. -/
def tHeader : List Byte :=
  [0x49, 0x4D, 0x47, 0x45, 1, 0, 1, 0, 0x60, 0x48, 0, 0, 0, 0, 0, 0, 0, 0, 0, 0, 32, 0, 0, 0] ++ List.replicate 488 0
def openReady : State :=
  hl 0 [(PORCH_CTRL_EN, 1), (JNL_CTRL_EN, 1), (CEL_STAT_READY, 1), (JNL_STAT_EMPTY, 1)]
    fun s => { s with attic := { s.attic with shadow := [(16, 0x11#32)] } }
def openFrame : Frame := ⟨0, 7, [1, 0, 0, 0, 1, 0, 0, 0] ++ tHeader⟩
def lastChunkIn : State :=
  hl 0 [(PORCH_CTRL_EN, 1), (JNL_CTRL_EN, 1), (CEL_STAT_READY, 1), (JNL_STAT_EMPTY, 1)]
    fun s => { s with porch := { s.porch with sess := some ⟨1, 1, 1, tHeader, 1, 0⟩ } }

/-- The check of a header passes where the key's digest is the one in the fuses and the signature is valid: both are opaque,
so the witness of an accepted OPEN takes them as given. -/
theorem witness_header (hk : Config.sha384 (List.replicate 96 0) = List.replicate 48 0)
    (hs : ∀ d, Config.signatureOk (List.replicate 96 0) d (List.replicate 96 0) = true) :
    openReady.headerCode 1 tHeader = 0 := by
  have e1 : bslice tHeader 0x50 96 = List.replicate 96 0 := by decide +kernel
  have e2 : bslice tHeader 0x1A0 96 = List.replicate 96 0 := by decide +kernel
  have e3 : openReady.attic.keyDigest (hdrKey tHeader) = List.replicate 48 0 := by decide +kernel
  unfold State.headerCode
  rw [e1, e2, e3, hk, hs]
  decide +kernel
theorem open_line (h : List Byte) (hh : h.length = 512) :
    typed (frameLine 2 7 ([1, 0, 0, 0, 1, 0, 0, 0] ++ h)) 2 = some ⟨0, 7, [1, 0, 0, 0, 1, 0, 0, 0] ++ h⟩ := by
  have hl : leBytes 2 520 = [8, 2] := by decide
  have hs : leBytes 2 7 = [7, 0] := by decide
  refine typed_frameLine 2 7 _ _ 520 ?_ ?_ ?_ ?_
  · simp [frameBytes, frameBody, hh, leBytes]
  · simp [frameBytes, frameBody, hh, hl, hs, u16, u8]
  · simp [frameBytes, frameBody, u8]
  · simp [frameBytes, frameBody, hh, hl, hs, u16, u8, bslice]
/-- OPEN with a header that the check refuses. -/
theorem witness_open_refused :
    let s := hl 0 [(PORCH_CTRL_EN, 1)]; let f : Frame := ⟨0, 7, [1, 0, 0, 0, 1, 0, 0, 0] ++ List.replicate 512 0⟩
    s.porchTakes 2 (frameLine 2 7 f.payload) f = true ∧ f.payload.length = 520 ∧
    u32 f.payload 0 ≠ 0 ∧ u8 f.payload 4 < 2 ∧ u8 f.payload 5 = 0 ∧ u8 f.payload 6 = 0 ∧ u8 f.payload 7 = 0 ∧
    s.headerCode 1 (f.payload.drop 8) ≠ 0 ∧ hdrType (f.payload.drop 8) ≠ 2 := by
  intro s f
  refine ⟨?_, by decide +kernel⟩
  unfold State.porchTakes
  rw [open_line (List.replicate 512 0) (List.length_replicate ..)]
  decide +kernel
theorem witness_open :
    openReady.porchTakes 2 (frameLine 2 7 openFrame.payload) openFrame = true ∧ openReady.clk.phase = .run ∧ openFrame.payload.length = 520 ∧
    u32 openFrame.payload 0 ≠ 0 ∧ u8 openFrame.payload 4 < 2 ∧ u8 openFrame.payload 5 = 0 ∧ u8 openFrame.payload 6 = 0 ∧
    u8 openFrame.payload 7 = 0 ∧ openFrame.payload.drop 8 = tHeader ∧ hdrType tHeader ≠ 2 ∧
    u8 openFrame.payload 4 ≠ openReady.slotInUse 1 ∧ openReady.scheduled = false ∧ openReady.fld UPD_STAT_TRIAL = 0 ∧
    openReady.porch.sess = none ∧ openReady.resumes (u32 openFrame.payload 0) 1 (u8 openFrame.payload 4) tHeader = none ∧
    openReady.jTakes (openReady.sessionGroup ⟨1, 1, 1, tHeader, 0, openReady.now⟩) = true := by
  refine ⟨?_, by decide +kernel⟩
  unfold State.porchTakes
  rw [show openFrame = ⟨0, 7, [1, 0, 0, 0, 1, 0, 0, 0] ++ tHeader⟩ from rfl, open_line _ (by decide +kernel)]
  decide +kernel
/-- FINISH of an image whose body has the digest of its header. -/
theorem witness_finish (f : Frame) (hf : f = ⟨0, 7, [1, 0, 0, 0]⟩)
    (hd : Config.sha384 (lastChunkIn.slotBody 1 1 tHeader) = List.replicate 48 0) :
    lastChunkIn.porchTakes 4 (frameLine 4 7 f.payload) f = true ∧ lastChunkIn.clk.phase = .run ∧ f.payload.length = 4 ∧
    lastChunkIn.porch.sess = some ⟨1, 1, 1, tHeader, 1, 0⟩ ∧ u32 f.payload 0 = 1 ∧ chunks tHeader = 1 ∧
    lastChunkIn.bodyPasses ⟨1, 1, 1, tHeader, 1, 0⟩ = true ∧ lastChunkIn.porch.staged.length = 2 ∧
    lastChunkIn.jTakes (digestGroup 6 (imageKey 1 1) (leBytes 4 (hdrVersion tHeader) ++ leBytes 2 (hdrCounter tHeader) ++
      leBytes 2 0 ++ leBytes 8 lastChunkIn.tb) (Config.sha384 tHeader)) = true := by
  subst hf
  have hb : lastChunkIn.bodyPasses ⟨1, 1, 1, tHeader, 1, 0⟩ = true := by
    have e1 : hdrEnc tHeader = false := by decide +kernel
    have e2 : hdrDigest tHeader = List.replicate 48 0 := by decide +kernel
    unfold State.bodyPasses
    simp only [e1, e2, hd]
    decide
  exact ⟨by decide +kernel, rfl, rfl, rfl, by decide +kernel, by decide +kernel, hb, rfl, by decide +kernel⟩

/-- States that meet the hypotheses of DiscardCopiesPublished. -/
theorem witness_DiscardCopiesPublished :
  (∃ (s : State) (p : Fin 48), s.seqReady (.room p) = true) :=
  ⟨(rm 0 [] (fun r =>
    { { r with core := { (r).core with state := 1, pc := 0x20010 } } with regs := ((r.regs.set 0x100 0xFFFFFFFF).set 0x140 0xFFFFFFFF).set 0x11C 7 })),
    0, by decide +kernel⟩

/-- States that meet the hypotheses of DebugLockEndsDebug. -/
theorem witness_DebugLockEndsDebug :
  (∃ (s : State) (v : Word), s.clocked = true ∧ v.getLsbD 8 = true ∧ s.debugOn = true) :=
  ⟨(rm 0 [((BKPT_EN), 1), ((BKPT_ADDR), 4)] (fun r =>
    { r with core := { (r).core with state := 1, halted := true, pc := 0x20010 } }) (hl 0 [(DBG_HALT0_ROOM, 1),
    (DBG_CSEL_REG, 19)])), 0x100, by decide +kernel⟩

/-- States that meet the hypotheses of CapturesAreBarred. -/
theorem witness_CapturesAreBarred :
  (∃ (s : State), s.clocked = true ∧ s.snap.cap = none ∧ (s.bit SNAP_CTRL_FREEZE = true ∨ (∃ x, s.snap.capAt = some x
    ∧ s.now < x + 10)) ∧ s.bit SNAP_CTRL_DRIVE = false) ∧
  (∃ (s : State), s.clocked = true ∧ s.snap.cap = none ∧ (s.bit SNAP_CTRL_FREEZE = true ∨ (∃ x, s.snap.capAt = some x
    ∧ s.now < x + 10)) ∧ s.snapIoLow = false ∧ s.bit SNAP_CTRL_IN_EN = true) ∧
  (∃ (s : State), s.clocked = true ∧ s.snap.cap = none ∧ (s.bit SNAP_CTRL_FREEZE = true ∨ (∃ x, s.snap.capAt = some x
    ∧ s.now < x + 10)) ∧ s.debugOn = true) ∧
  (∃ (s : State) (n : Fin 2) (line : List Byte) (f : Frame), s.clocked = true ∧ s.snap.cap = none ∧ (s.bit
    SNAP_CTRL_FREEZE = true ∨ (∃ x, s.snap.capAt = some x ∧ s.now < x + 10)) ∧ s.takes n 7 line f = true ∧ f.payload =
    [] ∧ s.bit SNAP_CTRL_DRIVE = false) ∧
  (∃ (s : State), s.clocked = true ∧ s.snap.cap = some 0 ∧ s.snap.drive.isSome = true ∧ (s.bit SNAP_CTRL_FREEZE = true
    ∨ (∃ x, s.snap.capAt = some x ∧ s.now < x + 10))) ∧
  (∃ (s : State) (x : Nat), s.clocked = true ∧ x < 3 ∧ s.snap.cap = some x ∧ s.snapBars = false) := ⟨
  ⟨(hl 0 [(SNAP_CTRL_FREEZE, 1)]), by decide +kernel, by decide +kernel, Or.inl (by decide +kernel),
    by decide +kernel⟩,
  ⟨(hl 0 [(SNAP_CTRL_IN_EN, 1)] (fun s => { s with snap := { s.snap with capAt := some 999999999991 } })),
    by decide +kernel, by decide +kernel, Or.inr ⟨_, rfl, by decide +kernel⟩, by decide +kernel, by decide +kernel⟩,
  ⟨(hl 0 [(SNAP_CTRL_FREEZE, 1)]), by decide +kernel, by decide +kernel, Or.inl (by decide +kernel),
    by decide +kernel⟩,
  ⟨(hl 0 [(SNAP_CTRL_FREEZE, 1), (HL_CTRL_EN, 1)]), 0, frameLine 7 7 [], ⟨0, 7, []⟩, by decide +kernel,
    by decide +kernel, Or.inl (by decide +kernel), by decide +kernel, by decide +kernel, by decide +kernel⟩,
  ⟨(hl 0 [(SNAP_CTRL_FREEZE, 1)] (fun s => { s with snap := { s.snap with cap := some 0, drive := some 0 } })),
    by decide +kernel, by decide +kernel, by decide +kernel, Or.inl (by decide +kernel)⟩,
  ⟨(hl 0 [] (fun s => { s with snap := { s.snap with cap := some 2 } })), 2, by decide +kernel⟩⟩

/-- States that meet the hypotheses of ClearingReads. -/
theorem witness_ClearingReads :
  (∃ (s : State), s.clocked = true) ∧
  (∃ (s : State), s.clocked = true) ∧
  (∃ (s : State), s.clocked = true) ∧
  (∃ (s : State), s.clocked = true) ∧
  (∃ (s : State), s.clocked = true) ∧
  (∃ (s : State), s.clocked = true) ∧
  (∃ (s : State), s.clocked = true) ∧
  (∃ (s : State), s.clocked = true) ∧
  (∃ (s : State), s.clocked = true) ∧
  (∃ (s : State), s.clocked = true) ∧
  (∃ (s : State), s.clocked = true) ∧
  (∃ (s : State), s.clocked = true) ∧
  (∃ (s : State), s.clocked = true) ∧
  (∃ (s : State), s.clocked = true) ∧
  (∃ (s : State), s.clocked = true) ∧
  (∃ (s : State), s.clocked = true) ∧
  (∃ (s : State), s.clocked = true) ∧
  (∃ (s : State), s.clocked = true) ∧
  (∃ (s : State), s.clocked = true) ∧
  (∃ (s : State), s.clocked = true) := ⟨
  ⟨(rm 0 [(FAULT_OV, 1)]), by decide +kernel⟩,
  ⟨(rm 0 [(PD_ERRCNT_CRC_ERR, 7)]), by decide +kernel⟩,
  ⟨(rm 47 [(THR_CNT_OV, 7)]), by decide +kernel⟩,
  ⟨(ld 5 [(HS_FAULT_SHORT, 1)]), by decide +kernel⟩,
  ⟨(ld 0 [(LAND_FAULT_WDT, 1)]), by decide +kernel⟩,
  ⟨{ up 0 with wings := (up 0).wings.set 1 (((up 0).wing 1).put WING_FAULT_BUS 1) }, by decide +kernel⟩,
  ⟨(up 0), by decide +kernel⟩,
  ⟨(hl 0 [(PANTRY_FAULT_CHG_OV, 1)]), by decide +kernel⟩,
  ⟨(hl 0 [(RESET_CAUSE_PIN, 1)]), by decide +kernel⟩,
  ⟨(hl 0 [(WAKE_CAUSE_CC, 1)]), by decide +kernel⟩,
  ⟨(up 0), by decide +kernel⟩,
  ⟨(hl 0 [] (fun s => { s with mode := { s.mode with changed := true } })), by decide +kernel⟩,
  ⟨(hl 0 [(HL_ERR_CRC, 9)]), by decide +kernel⟩,
  ⟨(hl 0 [(PORCH_ERR_CRC, 9)]), by decide +kernel⟩,
  ⟨(up 0), by decide +kernel⟩,
  ⟨(up 0), by decide +kernel⟩,
  ⟨(hl 0 [(ATTIC_RESULT_DONE, 1)]), by decide +kernel⟩,
  ⟨(hl 0 [(JNL_RESULT_DONE, 1)]), by decide +kernel⟩,
  ⟨(up 0), by decide +kernel⟩,
  ⟨(up 0), by decide +kernel⟩⟩

/-- States that meet the hypotheses of RegisterAccesses. -/
theorem witness_RegisterAccesses :
  (∃ (s : State) (a : Nat), s.clocked = true ∧ a < 0x20000 ∧ a % 4 = 0) ∧
  (∃ (s : State), s.clocked = true ∧ s.range (.hall 0x98) WAKE_ALARM_COMPARE = none) ∧
  (∃ (s : State) (a : Nat), s.clocked = true ∧ locate a = none) ∧
  (∃ (s : State) (p : Fin 48) (a i : Nat), s.whole p = true ∧ stageIdx a = some i) ∧
  (∃ (s : State) (p : Fin 48) (a size : Nat), s.whole p = true ∧ a < 0x400 ∧ size ≠ 4) ∧
  (∃ (s : State) (a size : Nat), s.clocked = true ∧ a < 0x180 ∧ (size = 1 ∨ size = 2) ∧ a % 4 + size ≤ 4) ∧
  (∃ (s : State), s.clocked = true) ∧
  (∃ (s : State), s.clocked = true) ∧
  (∃ (s : State), s.clocked = true) ∧
  (∃ (s : State), s.clocked = true) ∧
  (∃ (s : State) (x : Nat × Nat), s.clocked = true ∧ s.attic.verify = some x) ∧
  (∃ (s : State), s.booted = true ∧ (s.pl.node 0).ceiling < 65536) := ⟨
  ⟨(up 0), 0x1FFFC, by decide +kernel⟩,
  ⟨(up 0), by decide +kernel⟩,
  ⟨(up 0), 0x5000, by decide +kernel⟩,
  ⟨(up 0), 0, 0x144, 9, by decide +kernel⟩,
  ⟨(up 0), 0, 0x3FE, 2, by decide +kernel⟩,
  ⟨(up 0), 0x17E, 2, by decide +kernel⟩,
  ⟨(hl 0 [(PLAN_RD_ADDR_ADDR, 5)] (fun s => { s with planStore := [1, 2, 3, 4, 5, 6, 7, 8] })), by decide +kernel⟩,
  ⟨(up 0), by decide +kernel⟩,
  ⟨(up 0), by decide +kernel⟩,
  ⟨(up 0), by decide +kernel⟩,
  ⟨(hl 0 [] (fun s => { s with attic := { s.attic with verify := some (1, 2) } })), (1, 2), by decide +kernel⟩,
  ⟨(up 0), by decide +kernel⟩⟩

/-- States that meet the hypotheses of ClocksAndResets. -/
theorem witness_ClocksAndResets :
  (∃ (s : State), s.booted = true ∧ s.pairMode = false ∧ s.clk.failAt = none) ∧
  (∃ (s : State), s.clocked = true ∧ due s.now s.clk.failAt 10 = true) ∧
  (∃ (s : State), s.bit CLK_STAT_SLOW_XTAL_OK = true ∧ s.bit CLK_STAT_SLOW_SRC = true) ∧
  (∃ (s : State) (f : Nat), s.booted = true ∧ s.bit CLK_CTRL_RC_CAL_EN = true ∧ old s.now s.clk.calAt 1000000 = true ∧
    0 < f) ∧
  (∃ (ns : Nat), 1000 ≤ ns) ∧
  (∃ (s : State), s.booted = true) ∧
  (∃ (s : State), s.beating = true ∧ s.hbMissed = true ∧ s.hbeatAt + 2 * s.hbT ≤ s.now) ∧
  (∃ (s : State) (core io ana pin : Bool) (us : Nat), s.clk.phase = .reset ∧ s.clk.held = false ∧ (core && io && ana
    && pin) = true ∧ 1000 ≤ us) ∧
  (∃ (s : State) (core io ana pin : Bool) (us : Nat), s.clk.phase = .reset ∧ s.clk.held = false ∧ ((core && io && ana
    && pin) = false ∨ us < 1000)) ∧
  (∃ (s : State), s.clk.phase = .osc) ∧
  (∃ (s : State), s.clk.phase = .waking ∧ s.bit CLK_STAT_XTAL_OK = true) := ⟨
  ⟨(up 0), by decide +kernel⟩,
  ⟨(hl 0 [] (fun s => { s with clk := { s.clk with failAt := some 0 } })), by decide +kernel⟩,
  ⟨(hl 0 [(CLK_STAT_SLOW_XTAL_OK, 1), (CLK_STAT_SLOW_SRC, 1)]), by decide +kernel⟩,
  ⟨(hl 0 [(CLK_CTRL_RC_CAL_EN, 1)]), 32768, by decide +kernel⟩,
  ⟨1000, by decide +kernel⟩,
  ⟨(up 0), by decide +kernel⟩,
  ⟨(hl 0 [(HB_STAT_ARMED, 1), (HB_CFG_HB_T, 5)] (fun s => { s with hbMissed := true })), by decide +kernel⟩,
  ⟨{ State.reset with clk := { State.reset.clk with phase := .reset, held := false } }, true, true, true, true, 1000,
    by decide +kernel⟩,
  ⟨{ State.reset with clk := { State.reset.clk with phase := .reset, held := false } }, true, true, true, true, 999,
    by decide +kernel⟩,
  ⟨(hl 0 [] (fun s => { s with clk := { s.clk with phase := .osc } })), by decide +kernel⟩,
  ⟨(hl 0 [(CLK_STAT_XTAL_OK, 1)] (fun s => { s with clk := { s.clk with phase := .waking } })), by decide +kernel⟩⟩

/-- States that meet the hypotheses of BootInRecovery. -/
theorem witness_BootInRecovery :
  (∃ (s : State), s.clk.phase = .pll ∧ s.bit CLK_STAT_XTAL_OK = true ∧ (s.attic.refresh (List.range 256)).lc = 0) :=
  ⟨(hl 0 [(CLK_STAT_XTAL_OK, 1)] (fun s =>
    { s with attic := { s.attic with a := [], b := [] }, clk := { s.clk with phase := .pll } })), by decide +kernel⟩

/-- States that meet the hypotheses of PowerStates. -/
theorem witness_PowerStates :
  (∃ (s : State), s.booted = true ∧ s.bit PWR_STAT_PENDING = false ∧ s.clampField (.hall 0x088) PWR_CTRL_REQ 0 = 0) ∧
  (∃ (s : State), s.booted = true ∧ s.bit PWR_STAT_PENDING = false ∧ s.clampField (.hall 0x088) PWR_CTRL_REQ 1 = 1) ∧
  (∃ (s : State) (a : BitVec 10), s.booted = true ∧ s.reqRefusal 2 a = 0 ∧ s.clampField (.hall 0x088) PWR_CTRL_REQ 2 =
    2) ∧
  (∃ (s : State) (a : BitVec 10), s.booted = true ∧ s.reqRefusal 3 a = 0 ∧ s.clampField (.hall 0x088) PWR_CTRL_REQ 3 =
    3) ∧
  (∃ (s : State), s.booted = true ∧ s.bit PWR_STAT_PENDING = true ∧ s.clk.step = 5 ∧ s.clk.target = 2) ∧
  (∃ (s : State) (g : List JRec), s.booted = true ∧ s.bit PWR_STAT_PENDING = true ∧ s.clk.step = 1 ∧ s.jnl.cmd = some
    g) ∧
  (∃ (s : State), s.bit WAKE_EN_WAKE_PIN = true ∧ s.clk.phase = .sleep) ∧
  (∃ (s : State) (lv : List (Fin 48 × Fin 8 × Fin 8)) (p : Fin 48) (l1 l2 : Fin 8), s.bit WAKE_EN_CC = true ∧
    s.clk.phase = .sleep ∧ s.clk.target = 2 ∧ s.clk.ccPer ≠ some s.clk.period ∧ (p, l1, l2) ∈ lv ∧ s.pl.whole p.val =
    true ∧ (s.room p).bit CTRL_ENABLE = true ∧ (s.room p).sampled (s.env p) l1.val l2.val = true) ∧
  (∃ (s : State), s.bit WAKE_EN_KEY = true ∧ s.clk.phase = .sleep) ∧
  (∃ (s : State), s.bit WAKE_EN_ALARM = true ∧ s.alarm = true ∧ s.clk.phase = .sleep) ∧
  (∃ (s : State), s.clk.target = 2 ∧ s.clk.phase = .sleep) ∧
  (∃ (s : State), s.bit WAKE_EN_HL = true ∧ s.clk.target = 2 ∧ s.clk.phase = .sleep) ∧
  (∃ (s : State), s.bit WAKE_EN_PORCH = true ∧ s.clk.target = 2 ∧ s.clk.phase = .sleep) ∧
  (∃ (s : State), s.clk.phase = .waking ∧ s.bit CLK_STAT_PLL_LOCK = true) ∧
  (∃ (s : State), s.clk.phase = .standby ∧ s.clk.step = 9) := ⟨
  ⟨(up 0), by decide +kernel⟩,
  ⟨(up 0), by decide +kernel⟩,
  ⟨(up 0), 0, by decide +kernel⟩,
  ⟨(up 0), 0, by decide +kernel⟩,
  ⟨(hl 0 [(PWR_STAT_PENDING, 1)] (fun s => { s with clk := { s.clk with step := 5, target := 2 } })),
    by decide +kernel⟩,
  ⟨(hl 0 [(PWR_STAT_PENDING, 1)] (fun s =>
    { s with jnl := { s.jnl with cmd := some [] }, clk := { s.clk with step := 1, target := 2 } })), [],
    by decide +kernel⟩,
  ⟨(hl 0 [(WAKE_EN_WAKE_PIN, 1)] (fun s => { s with clk := { s.clk with phase := .sleep } })), by decide +kernel⟩,
  ⟨(hl 0 [(WAKE_EN_CC, 1)] (fun s =>
    { s.onRoom 1 (fun r => r.on CTRL_ENABLE) with clk := { s.clk with phase := .sleep, target := 2 } })), [(1, 1, 0)],
    1, 1, 0, by decide +kernel⟩,
  ⟨(hl 0 [(WAKE_EN_KEY, 1)] (fun s => { s with clk := { s.clk with phase := .sleep } })), by decide +kernel⟩,
  ⟨(hl 0 [(WAKE_EN_ALARM, 1)] (fun s => { s with clk := { s.clk with phase := .sleep } })), by decide +kernel⟩,
  ⟨(hl 0 [] (fun s => { s with clk := { s.clk with phase := .sleep, target := 2 } })), by decide +kernel⟩,
  ⟨(hl 0 [(WAKE_EN_HL, 1)] (fun s => { s with clk := { s.clk with phase := .sleep, target := 2 } })),
    by decide +kernel⟩,
  ⟨(hl 0 [(WAKE_EN_PORCH, 1)] (fun s => { s with clk := { s.clk with phase := .sleep, target := 2 } })),
    by decide +kernel⟩,
  ⟨(hl 0 [(CLK_STAT_PLL_LOCK, 1)] (fun s => { s with clk := { s.clk with phase := .waking } })), by decide +kernel⟩,
  ⟨(hl 0 [] (fun s => { s with clk := { s.clk with phase := .standby, step := 9 } })), by decide +kernel⟩⟩

/-- States that meet the hypotheses of SafeStatesAndFaults. -/
theorem witness_SafeStatesAndFaults :
  (∃ (s : State) (p : Fin 48), s.live p = true ∧ s.clampBit (.roomReg p.val 0x004) CTRL_FORCE_SAFE true = true) ∧
  (∃ (s : State) (p : Fin 48), s.live p = true ∧ s.clampBit (.roomReg p.val 0x004) CTRL_FORCE_SAFE false = false) ∧
  (∃ (s : State) (p : Fin 48), s.live p = true) ∧
  (∃ (s : State) (p : Fin 48), s.whole p = true ∧ (s.room p).safe = true ∧ s.conditions p = []) ∧
  (∃ (s : State) (p : Fin 48) (f : Field), s.whole p = true ∧ (s.room p).safe = true ∧ f ∈ s.conditions p) ∧
  (∃ (s : State) (p : Fin 48) (a : Fin 2) (g o : Int), s.present p = true ∧ calRejected ((s.room p).cal.getD a.val (0,
    0)) (g, o) = false) ∧
  (∃ (s : State) (b : Fin 6), s.slotLive b = true ∧ (s.land b).powered = true) ∧
  (∃ (s : State) (b : Fin 6) (n : Nat) (r : Bool), s.booted = true ∧ (s.land b).shed = some (1, n, r) ∧ n + 200 ≤
    s.now) ∧
  (∃ (s : State), s.booted = true) ∧
  (∃ (s : State), s.booted = true ∧ s.pairMode = false) ∧
  (∃ (s : State) (w : Fin 2), s.booted = true ∧ due s.now (s.wing w).withdrawAt 5 = true) ∧
  (∃ (s : State), s.booted = true) ∧
  (∃ (s : State) (p : Fin 48), s.whole p = true ∧ s.pairMode = false) ∧
  (∃ (s : State), s.booted = true) ∧
  (∃ (s : State), s.beating = true ∧ s.hbMissed = false ∧ s.hbeatAt + s.hbT ≤ s.now) ∧
  (∃ (s : State) (b : Fin 6) (mv : Nat), s.slotLive b = true ∧ mv ≤ 20) ∧
  (∃ (s : State) (p : Fin 48), s.live p = true ∧ (s.room p).senseHold = true ∧ (s.land (landOf p)).senseHold = false ∧
    s.pinsGood p = true) := ⟨
  ⟨(rm 0 []), 0, by decide +kernel⟩,
  ⟨(rm 0 []), 0, by decide +kernel⟩,
  ⟨(rm 0 [(SW_STAT_CMD, 1)]), 0, by decide +kernel⟩,
  ⟨(rm 0 [(EF_TIME_TFLT, 1)] (fun r =>
    { { { r with cc := { (r).cc with vbus := 0 } } with core := { (r).core with state := 1 } } with safe := true })),
    0, by decide +kernel⟩,
  ⟨(rm 0 [(EF_TIME_TFLT, 1)] (fun r => { { r with core := { (r).core with state := 0 } } with safe := true })), 0,
    FAULT_CORE_FAIL, by decide +kernel⟩,
  ⟨(up 0), 0, 1, 100, 5, by decide +kernel⟩,
  ⟨(ld 2 [(HS_STAT_STATE, 5)]), 2, by decide +kernel⟩,
  ⟨(ld 0 [] (fun l => { l with shed := some (1, 0, true) })), 0, 0, true, by decide +kernel⟩,
  ⟨(up 0), by decide +kernel⟩,
  ⟨(up 0), by decide +kernel⟩,
  ⟨{ up 0 with wings := (up 0).wings.set 1 { (up 0).wing 1 with withdrawAt := some 0 } }, 1, by decide +kernel⟩,
  ⟨(up 0), by decide +kernel⟩,
  ⟨(up 0), 1, by decide +kernel⟩,
  ⟨(up 0), by decide +kernel⟩,
  ⟨(hl 0 [(HB_STAT_ARMED, 1)]), by decide +kernel⟩,
  ⟨(up 0), 0, 20, by decide +kernel⟩,
  ⟨(rm 0 [] (fun r => { { r with conv := { (r).conv with holdOkAt := some 0 } } with senseHold := true })), 0,
    by decide +kernel⟩⟩

/-- States that meet the hypotheses of RoomCores. -/
theorem witness_RoomCores :
  (∃ (s : State) (p : Fin 48) (g : ProgramRec), s.whole p = true ∧ (s.room p).bit CORE_CTRL_HOLD = false ∧
    s.pl.programFor p.val = some g ∧ crc32c (g.code ++ g.data) = g.pcrc) ∧
  (∃ (s : State) (p : Fin 48), s.watched p = true ∧ old s.now (s.room p).kickAt (1000 * (s.land (landOf p)).fld
    LAND_WDT_WDT_T) = true) ∧
  (∃ (s : State) (p : Fin 48), s.watched p = true) ∧
  (∃ (s : State) (p : Fin 48), s.booted = true ∧ (s.room p).core.extCopy = true) ∧
  (∃ (s : State) (p : Fin 48), s.whole p = true) ∧
  (∃ (s : State) (p : Fin 48), s.whole p = true) ∧
  (∃ (s : State) (p : Fin 48), s.whole p = true) := ⟨
  ⟨(up 0), 0, ⟨0, 0, [1, 2, 3, 4], [], crc32c [1, 2, 3, 4]⟩, by decide +kernel⟩,
  ⟨(rm 1 [] (fun r => { r with core := { (r).core with state := 1 } })), 1, by decide +kernel⟩,
  ⟨(rm 1 [] (fun r => { r with core := { (r).core with state := 1 } })), 1, by decide +kernel⟩,
  ⟨(rm 1 [] (fun r => { r with core := { (r).core with extCopy := true } })), 1, by decide +kernel⟩,
  ⟨(up 0), 0, by decide +kernel⟩,
  ⟨(up 0), 0, by decide +kernel⟩,
  ⟨(rm 0 [(DOORBELL_DB, 255)]), 0, by decide +kernel⟩⟩

/-- States that meet the hypotheses of CcLineEvents. -/
theorem witness_CcLineEvents :
  (∃ (s : State) (p : Fin 48), s.whole p = true ∧ s.keeps (wingOf p) = false) ∧
  (∃ (s : State) (p : Fin 48), s.live p = true ∧ (s.room p).ast = aUnSrc ∧ (s.room p).outOff = false ∧ (s.room
    p).cc.term1 = .rp ∧ (s.room p).fld CC_LEVEL_CC1_LVL ≠ 1) ∧
  (∃ (s : State) (p : Fin 48), s.whole p = true) ∧
  (∃ (s : State) (p : Fin 48), s.live p = true ∧ s.clampBit (.roomReg p.val 0x054) VCONN_CTRL_EN false = false) ∧
  (∃ (s : State) (p : Fin 48), s.live p = true ∧ (s.room p).attached = true ∧ s.clampBit (.roomReg p.val 0x054)
    VCONN_CTRL_EN true = true) ∧
  (∃ (s : State) (p : Fin 48), s.live p = true ∧ (s.room p).bit CC_STAT_VCONN_ON = true) ∧
  (∃ (s : State) (p : Fin 48), s.live p = true) ∧
  (∃ (s : State) (p : Fin 48), s.live p = true) ∧
  (∃ (s : State) (p : Fin 48), s.live p = true ∧ (s.room p).bit CC_STAT_CC1_ISOL = true ∧ due s.now (s.room p).cc.ov1
    10000 = true) ∧
  (∃ (s : State) (p : Fin 48), s.live p = true ∧ (s.room p).bit CC_STAT_CC2_ISOL = true ∧ due s.now (s.room p).cc.ov2
    10000 = true) ∧
  (∃ (s : State) (p : Fin 48), s.live p = true ∧ (s.room p).vbusLost (s.env p) = true) ∧
  (∃ (s : State) (p : Fin 48), s.live p = true ∧ due s.now (s.room p).cc.rpLower 60000 = true) := ⟨
  ⟨(hl 1 []), 0, by decide +kernel⟩,
  ⟨(rm 0 [(CC_STAT_ASTATE, aUnSrc)] (fun r => { r with cc := { (r).cc with term1 := .rp } })), 0, by decide +kernel⟩,
  ⟨(up 0), 0, by decide +kernel⟩,
  ⟨(rm 0 [(VCONN_CTRL_EN, 1)]), 0, by decide +kernel⟩,
  ⟨(rm 0 [(CC_STAT_ASTATE, aSrc), (CC_STAT_VCONN_LOCK, 1)]), 0, by decide +kernel⟩,
  ⟨(rm 0 [(CC_STAT_ASTATE, aSrc), (CC_STAT_VCONN_ON, 1)]), 0, by decide +kernel⟩,
  ⟨(rm 0 [(CTRL_ENABLE, 1)]), 0, by decide +kernel⟩,
  ⟨(rm 0 [(CC_LEVEL_CC1_OV, 1)]), 0, by decide +kernel⟩,
  ⟨(rm 0 [(CC_STAT_CC1_ISOL, 1)] (fun r => { r with cc := { (r).cc with ov1 := some 0 } })), 0, by decide +kernel⟩,
  ⟨(rm 0 [(CC_STAT_CC2_ISOL, 1)] (fun r => { r with cc := { (r).cc with ov2 := some 0 } })), 0, by decide +kernel⟩,
  ⟨(rm 0 [(CC_STAT_ASTATE, aSnk)] (fun r => { r with cc := { (r).cc with vbusLow := some 0 } })), 0,
    by decide +kernel⟩,
  ⟨(rm 0 [] (fun r => { r with cc := { (r).cc with rpLower := some 0 } })), 0, by decide +kernel⟩⟩

/-- States that meet the hypotheses of AttachStates. -/
theorem witness_AttachStates :
  (∃ (s : State) (p : Fin 48), s.live p = true ∧ (s.room p).ast = aDisabled ∧ (s.room p).outOff = false ∧ s.clampBit
    (.roomReg p.val 0x004) CTRL_ENABLE true = true) ∧
  (∃ (s : State) (p : Fin 48), s.live p = true ∧ s.clampBit (.roomReg p.val 0x004) CTRL_ENABLE false = false) ∧
  (∃ (s : State) (p : Fin 48), s.live p = true ∧ (s.room p).cc.removing = true ∧ (s.room p).loop = lOff) ∧
  (∃ (s : State) (p : Fin 48), s.live p = true ∧ (s.room p).outOff = false ∧ (s.room p).ast = aWaitSnk ∧ (s.room
    p).rpOne = true ∧ (s.room p).stable (s.env p) Debounce.tcc = true ∧ (s.pl.port p.val).trySrc = false ∧ (s.room
    p).bit CC_STAT_VBUS_PRESENT = true) ∧
  (∃ (s : State) (p : Fin 48), s.live p = true ∧ (s.room p).outOff = false ∧ (s.room p).ast = aSrc ∧ (s.room
    p).bmcOpen (s.env p) = true) ∧
  (∃ (s : State) (p : Fin 48), s.live p = true ∧ (s.room p).outOff = false ∧ (s.room p).ast = aTrySrc ∧ (s.room
    p).askHolds (s.env p) = true ∧ (s.room p).cc.asking = false ∧ (s.room p).cc.retry = none) ∧
  (∃ (s : State) (p : Fin 48), s.live p = true ∧ (s.room p).outOff = false ∧ (s.room p).ast = aTryWaitSrc ∧ (s.room
    p).rdNone = true ∧ old s.now (s.room p).cc.entry (s.room p).cc.tDrpTry = true) ∧
  (∃ (s : State) (p : Fin 48), s.live p = true ∧ (s.room p).outOff = false ∧ (s.room p).ast = aErrRec ∧ old s.now
    (s.room p).cc.entry (s.room p).cc.tErr = true) ∧
  (∃ (s : State) (p : Fin 48), s.live p = true ∧ (s.room p).outOff = false ∧ (s.room p).ast = aUnSnk ∧ (s.room
    p).kind1 ≠ 3 ∧ (s.room p).kind2 ≠ 3 ∧ (s.pl.port p.val).role = 2 ∧ old s.now (s.room p).cc.entry (s.room
    p).cc.tToggle = true) ∧
  (∃ (s : State) (p : Fin 48) (a : Ask), (s.room p).fld GRANT_ASK_STATE ≠ 1 ∧ s.portAsk p = some a ∧ (∀ b ∈ s.asks,
    b.before a = false) ∧ (s.room p).askHolds (s.env p) = true ∧ 15 ≤ s.availFor p) ∧
  (∃ (s : State) (p q : Fin 48) (a b : Ask), (s.room p).fld GRANT_ASK_STATE ≠ 1 ∧ s.portAsk p = some a ∧ (s.room
    q).fld GRANT_ASK_STATE ≠ 1 ∧ s.portAsk q = some b ∧ b.before a = true ∧ (∀ x ∈ s.asks, x.before b = false) ∧
    (s.room q).askHolds (s.env q) = true ∧ 15 ≤ s.availFor q) ∧
  (∃ (s : State) (p : Fin 48), s.free p = true ∧ (s.room p).bit CC_STAT_BUDGET_WAIT = true ∧ due s.now (s.room
    p).cc.retry 100000 = true ∧ (s.room p).askHolds (s.env p) = true) ∧
  (∃ (s : State) (p : Fin 48), s.live p = true ∧ (s.room p).ast ≠ aDisabled ∧ (s.room p).outOff = false) := ⟨
  ⟨(rm 0 []), 0, by decide +kernel⟩,
  ⟨(rm 0 [(CTRL_ENABLE, 1), (CC_STAT_ASTATE, aSrc)]), 0, by decide +kernel⟩,
  ⟨(rm 0 [(SW_STAT_CMD, 1)] (fun r => { r with cc := { (r).cc with removing := true } })), 0, by decide +kernel⟩,
  ⟨(rm 2 [(CC_STAT_ASTATE, aWaitSnk), (CC_STAT_VBUS_PRESENT, 1), (CC_LEVEL_CC1_LVL, 1), (CC_LEVEL_CC2_LVL, 0)] (fun r
    => { r with cc := { (r).cc with term1 := .rd, term2 := .rd } })), 2, by decide +kernel⟩,
  ⟨(rm 0 [(CC_STAT_ASTATE, aSrc), (CC_LEVEL_CC1_LVL, 2), (CC_LEVEL_CC2_LVL, 0)] (fun r =>
    { r with cc := { (r).cc with term1 := .rp } })), 0, by decide +kernel⟩,
  ⟨(rm 0 [(CC_STAT_ASTATE, aTrySrc), (CC_STAT_VBUS_SAFE0, 1), (CC_LEVEL_CC1_LVL, 1), (CC_LEVEL_CC2_LVL, 2)] (fun r =>
    { r with cc := { (r).cc with term1 := .rp, term2 := .rp } })), 0, by decide +kernel⟩,
  ⟨(rm 1 [(CC_STAT_ASTATE, aTryWaitSrc), (CC_LEVEL_CC1_LVL, 2), (CC_LEVEL_CC2_LVL, 2)] (fun r =>
    { r with cc := { (r).cc with term1 := .rp, term2 := .rp } })), 1, by decide +kernel⟩,
  ⟨(rm 1 [(CC_STAT_ASTATE, aErrRec)]), 1, by decide +kernel⟩,
  ⟨(rm 1 [(CC_STAT_ASTATE, aUnSnk), (CC_LEVEL_CC1_LVL, 0), (CC_LEVEL_CC2_LVL, 0)] (fun r =>
    { r with cc := { (r).cc with term1 := .rd, term2 := .rd } })), 1, by decide +kernel⟩,
  ⟨(rm 0 [(CC_STAT_ASTATE, aWaitSrc), (CC_STAT_VBUS_SAFE0, 1), (PORT_BUD_PMAX_W, 100), (CC_LEVEL_CC1_LVL, 1),
    (CC_LEVEL_CC2_LVL, 2)] (fun r => { r with cc := { (r).cc with term1 := .rp, term2 := .rp, asking := true } })), 0,
    ⟨0, 1, 0⟩, by decide +kernel⟩,
  ⟨(rm 1 [(CC_STAT_ASTATE, aWaitSrc), (CC_STAT_VBUS_SAFE0, 1), (PORT_BUD_PMAX_W, 100), (CC_LEVEL_CC1_LVL, 1),
    (CC_LEVEL_CC2_LVL, 2)] (fun r =>
    { r with cc := { r.cc with term1 := .rp, term2 := .rp, asking := true, askAt := 5 } }) (rm 0 [(CC_STAT_ASTATE,
    aWaitSrc), (CC_STAT_VBUS_SAFE0, 1), (PORT_BUD_PMAX_W, 100), (CC_LEVEL_CC1_LVL, 1), (CC_LEVEL_CC2_LVL, 2)] (fun r
    => { r with cc := { (r).cc with term1 := .rp, term2 := .rp, asking := true } }))), 1, 0, ⟨5, 1, 1⟩, ⟨0, 1, 0⟩,
    by decide +kernel⟩,
  ⟨(rm 0 [(CC_STAT_ASTATE, aWaitSrc), (CC_STAT_VBUS_SAFE0, 1), (CC_STAT_BUDGET_WAIT, 1), (CC_LEVEL_CC1_LVL, 1),
    (CC_LEVEL_CC2_LVL, 2)] (fun r => { r with cc := { (r).cc with term1 := .rp, term2 := .rp, retry := some 0 } })),
    0, by decide +kernel⟩,
  ⟨(rm 0 [(CC_STAT_ASTATE, aSrc)]), 0, by decide +kernel⟩⟩

/-- States that meet the hypotheses of PdReception. -/
theorem witness_PdReception :
  (∃ (s : State) (p : Fin 48) (c : Fin 3) (os syms : List (Fin 32)) (k : Pkt), s.live p = true ∧ (s.room p).attached =
    true ∧ (s.room p).sending = false ∧ recognise os = some (.sop c) ∧ checkPacket c.val syms = .good k ∧ k.isC 1 =
    false ∧ ((k.sop = 0 ∨ (s.room p).bit CC_STAT_VCONN_ON = true)) ∧ (s.room p).bit PD_STAT_HR_ACTIVE = false ∧
    (s.room p).pd.rx = none ∧ (s.room p).pd.chunkRx = none ∧ (((s.room p).dup k = true ∨ ((s.room p).heard (s.env p)
    k.sop).roomFor (s.env p) k = true))) ∧
  (∃ (s : State) (p : Fin 48) (c : Fin 3) (os syms : List (Fin 32)), s.live p = true ∧ (s.room p).attached = true ∧
    (s.room p).sending = false ∧ recognise os = some (.sop c) ∧ checkPacket c.val syms = .crcErr) ∧
  (∃ (s : State) (p : Fin 48) (os syms : List (Fin 32)), s.live p = true ∧ (s.room p).attached = true ∧ (s.room
    p).sending = false ∧ ((recognise os = none ∨ ∃ c : Fin 3, recognise os = some (.sop c) ∧ checkPacket c.val syms =
    .trunc))) ∧
  (∃ (s : State) (p : Fin 48) (os : List (Fin 32)), s.live p = true ∧ (s.room p).attached = true ∧ (((s.room
    p).sending = true ∨ recognise os = some .cable))) ∧
  (∃ (s : State) (p : Fin 48), s.live p = true ∧ (s.room p).attached = true ∧ (s.room p).sending = false) ∧
  (∃ (s : State) (p : Fin 48) (tr : Nat) (k : Pkt), s.live p = true ∧ (s.room p).attached = true ∧ (s.room p).pd.rx =
    some k ∧ (s.room p).pd.gcrc = false ∧ (s.room p).pd.hrDue = false ∧ tr < 3 ∧ old s.now (s.room p).pd.lastPkt 25 =
    true) ∧
  (∃ (s : State) (p : Fin 48) (k : Pkt), s.live p = true ∧ (s.room p).attached = true ∧ (s.room p).pd.gcrc = true ∧
    (s.room p).pd.crDue = false ∧ (s.room p).pd.rx = some k ∧ (s.room p).dup k = true) ∧
  (∃ (s : State) (p : Fin 48) (k : Pkt), s.live p = true ∧ (s.room p).attached = true ∧ (s.room p).pd.gcrc = true ∧
    (s.room p).pd.crDue = false ∧ (s.room p).pd.rx = some k ∧ (s.room p).dup k = false ∧ k.sop = 0 ∧ k.isD 1 = true ∧
    (s.room p).pd.chunkRx = none ∧ (s.room p).bit PD_STAT_BIST = false) ∧
  (∃ (s : State) (p : Fin 48) (sop : Fin 3) (id : Fin 8) (a : Air), s.live p = true ∧ (s.room p).attached = true ∧
    (s.room p).sending = false ∧ (s.room p).pd.air = some a ∧ a.msg.pkt.sop = sop.val ∧ a.id = id.val ∧ (s.room
    p).pd.txId.getD sop.val 0 = id.val ∧ a.msg.kind = .keepAlive) ∧
  (∃ (s : State) (p : Fin 48) (sop : Fin 3) (id : Fin 8) (a : Air), s.live p = true ∧ (s.room p).attached = true ∧
    (s.room p).sending = false ∧ (s.room p).pd.air = some a ∧ ((a.msg.pkt.sop ≠ sop.val ∨ a.id ≠ id.val))) ∧
  (∃ (s : State) (p : Fin 48), s.whole p = true ∧ (s.room p).pd.rxq.length ≤ 4) ∧
  (∃ (s : State) (p : Fin 48), s.whole p = true ∧ (s.room p).pd.inbox.length ≤ 2) ∧
  (∃ (s : State) (p : Fin 48) (tr : Nat) (m : TxMsg), s.free p = true ∧ (s.room p).slotFree (s.env p) = true ∧ tr < 3
    ∧ (s.room p).autoReady (fun x => x.kind = .chunkReq) = some m ∧ m.pkt.softReset = false) ∧
  (∃ (s : State) (p : Fin 48) (c : ChunkRx), s.live p = true ∧ (s.room p).pd.chunkRx = some c ∧ due s.now c.since
    27000 = true) ∧
  (∃ (s : State) (p : Fin 48), s.live p = true ∧ due s.now (s.room p).pd.bistAt 45000 = true) ∧
  (∃ (s : State) (p : Fin 48), s.live p = true ∧ due s.now (s.room p).pd.kaWait 27000 = true) ∧
  (∃ (s : State) (p : Fin 48), s.free p = true ∧ (s.room p).ast = aSrc ∧ (s.room p).bit PD_STAT_EPR_ACTIVE = true ∧
    old s.now (s.room p).pd.lastRx 875000 = true ∧ (s.room p).pd.hrDue = false ∧ (s.room p).fld PD_STAT_HR_COUNT ≠ 2) ∧
  (∃ (s : State) (p : Fin 48), s.live p = true ∧ (s.room p).attached = true ∧ (s.room p).sending = false ∧ (s.room
    p).swapTermDone = false) ∧
  (∃ (s : State) (p : Fin 48), s.whole p = true ∧ s.keeps (wingOf p) = false ∧ (s.room p).attached = true) := ⟨
  ⟨(rm 0 [(CC_STAT_ASTATE, aSrc), (PD_STAT_REV_SOP, 1), (PD_CFG_AUTO_SR, 0)]), 0, 0, ((SetKind.sop 0).codes), ((⟨0,
    0x1042, [0x1234]⟩ : Pkt).syms), ⟨0, 0x1042, [0x1234]⟩, by decide +kernel⟩,
  ⟨(rm 0 [(CC_STAT_ASTATE, aSrc), (PD_ERRCNT_CRC_ERR, 255)]), 0, 0, ((SetKind.sop 0).codes), (((⟨0, 0x1042, [0x1235]⟩
    : Pkt).bytes ++ bytesOf (crc32 (⟨0, 0x1042, [0x1234]⟩ : Pkt).bytes)).flatMap byteSyms ++ [kEop]),
    by decide +kernel⟩,
  ⟨(rm 0 [(CC_STAT_ASTATE, aSrc), (PD_ERRCNT_TRUNC, 3)]), 0, [0x18, 0x18, 0x18, 0x18, 0x18], [], by decide +kernel⟩,
  ⟨(rm 0 [(CC_STAT_ASTATE, aSrc), (PD_STAT_REV_SOP, 1), (PD_CFG_AUTO_SR, 0)]), 0, SetKind.cable.codes,
    by decide +kernel⟩,
  ⟨(rm 0 [(CC_STAT_ASTATE, aSrc), (PD_ERRCNT_TRUNC, 3)]), 0, by decide +kernel⟩,
  ⟨(rm 0 [(CC_STAT_ASTATE, aSrc)] (fun r => { r with pd := { (r).pd with rx := some ⟨0, 0x1042, [5]⟩ } })), 0, 0, ⟨0,
    0x1042, [5]⟩, by decide +kernel⟩,
  ⟨(rm 0 [(CC_STAT_ASTATE, aSrc)] (fun r =>
    { r with pd := { (r).pd with rx := some ⟨0, 0x1042, [5]⟩, gcrc := true, rxId := [some 0, none, none] } })), 0, ⟨0,
    0x1042, [5]⟩, by decide +kernel⟩,
  ⟨(rm 0 [(CC_STAT_ASTATE, aSrc), (PD_STAT_REV_SOP, 1)] (fun r =>
    { r with pd := { (r).pd with rx := some ⟨0, 0x1041, [5]⟩, gcrc := true } })), 0, ⟨0, 0x1041, [5]⟩,
    by decide +kernel⟩,
  ⟨(rm 0 [(CC_STAT_ASTATE, aSnk)] (fun r =>
    { r with pd := { (r).pd with air := some ⟨.mk' .keepAlive 0 3 [], 5, 0, .awaiting, 0⟩, txId := [5, 0, 0] } })), 0,
    0, 5, ⟨.mk' .keepAlive 0 3 [], 5, 0, .awaiting, 0⟩, by decide +kernel⟩,
  ⟨(rm 0 [(CC_STAT_ASTATE, aSrc)] (fun r =>
    { r with pd := { (r).pd with air := some ⟨.mk' .reply 0 3 [], 2, 0, .awaiting, 999999999000⟩ } })), 0, 0, 3, ⟨.mk'
    .reply 0 3 [], 2, 0, .awaiting, 999999999000⟩, by decide +kernel⟩,
  ⟨(rm 0 [(PD_STAT_RXQ_COUNT, 4)] (fun r =>
    { r with pd := { (r).pd with rxq := [⟨0, 1, []⟩, ⟨0, 2, []⟩, ⟨0, 3, []⟩, ⟨0, 4, []⟩] } })), 0, by decide +kernel⟩,
  ⟨(rm 0 [] (fun r => { r with pd := { (r).pd with inbox := [⟨0, 1, []⟩, ⟨0, 2, []⟩] } })), 0, by decide +kernel⟩,
  ⟨(rm 0 [(CC_STAT_ASTATE, aSrc)] (fun r => { r with pd := { (r).pd with auto := [(.mk' .chunkReq 0 1 [])] } })), 0,
    0, (.mk' .chunkReq 0 1 []), by decide +kernel⟩,
  ⟨(rm 0 [(CC_STAT_ASTATE, aSrc)] (fun r =>
    { r with pd := { (r).pd with chunkRx := some ⟨0, 0, 40, [], 1, some 0⟩ } })), 0, ⟨0, 0, 40, [], 1, some 0⟩,
    by decide +kernel⟩,
  ⟨(rm 0 [] (fun r => { r with pd := { (r).pd with bistAt := some 0 } })), 0, by decide +kernel⟩,
  ⟨(rm 0 [] (fun r => { r with pd := { (r).pd with kaWait := some 0 } })), 0, by decide +kernel⟩,
  ⟨(rm 0 [(CC_STAT_ASTATE, aSrc), (PD_STAT_EPR_ACTIVE, 1)]), 0, by decide +kernel⟩,
  ⟨(rm 0 [(CC_STAT_ASTATE, aSrc)]), 0, by decide +kernel⟩,
  ⟨(rm 0 [(CC_STAT_ASTATE, aSrc)] id (hl 1 [(PAIR_STAT_PEER_HELD, 1)])), 0, by decide +kernel⟩⟩

/-- States that meet the hypotheses of PacketsAreReadBack. -/
theorem witness_PacketsAreReadBack :
  (∃ (k : Pkt), k.hdr < 65536 ∧ k.objs.length = k.num ∧ k.sop < 3) ∧
  (∃ (k : Pkt), k.hdr < 65536 ∧ k.objs.length = k.num ∧ k.sop < 3) := ⟨
  ⟨⟨0, 0x1042, [0x1234]⟩, by decide +kernel⟩,
  ⟨⟨2, 0x1042, [0x1234]⟩, by decide +kernel⟩⟩

/-- States that meet the hypotheses of PdTransmission. -/
theorem witness_PdTransmission :
  (∃ (s : State) (p : Fin 48) (tr : Nat) (m : TxMsg), s.free p = true ∧ (s.room p).slotFree (s.env p) = true ∧ tr < 3
    ∧ (s.room p).autoReady (fun _ => true) = some m ∧ m.pkt.softReset = false) ∧
  (∃ (s : State) (p : Fin 48) (tr : Nat) (m : TxMsg), s.free p = true ∧ (s.room p).slotFree (s.env p) = true ∧ tr < 3
    ∧ (s.room p).autoReady (fun _ => true) = some m ∧ m.pkt.softReset = true) ∧
  (∃ (s : State) (p : Fin 48) (tr : Nat) (m : TxMsg), s.free p = true ∧ (s.room p).slotFree (s.env p) = true ∧ tr < 3
    ∧ (s.room p).autoReady (fun _ => true) = none ∧ ((s.room p).followRp.followVdm (s.env p)).coreReady (s.env p) =
    some m ∧ m.kind = .core ∧ m.pkt.softReset = false) ∧
  (∃ (s : State) (p : Fin 48) (a : Air), s.live p = true ∧ (s.room p).pd.air = some a ∧ a.phase = .sending ∧ (s.room
    p).pd.crDue = false) ∧
  (∃ (s : State) (p : Fin 48) (a : Air), s.live p = true ∧ (s.room p).pd.air = some a ∧ a.phase = .sending ∧ (s.room
    p).pd.crDue = true ∧ (s.room p).pd.gcrc = false ∧ (s.room p).pd.bistAt = none ∧ (s.room p).bit CC_STAT_VCONN_ON =
    true ∧ (s.room p).bit PD_STAT_HR_ACTIVE = false) ∧
  (∃ (s : State) (p : Fin 48) (a : Air), s.live p = true ∧ (s.room p).pd.air = some a ∧ a.phase = .awaiting ∧ old
    s.now a.eop 1000 = true ∧ a.tries < (s.room p).nRetry a.msg.pkt.sop) ∧
  (∃ (s : State) (p : Fin 48) (a : Air), s.live p = true ∧ (s.room p).pd.air = some a ∧ a.phase = .awaiting ∧ old
    s.now a.eop 1001 = true ∧ (s.room p).nRetry a.msg.pkt.sop ≤ a.tries ∧ a.msg.kind = .core ∧ a.msg.pkt.softReset =
    false) ∧
  (∃ (s : State) (p : Fin 48) (tr : Nat) (a : Air), s.live p = true ∧ tr < 3 ∧ (s.room p).pd.air = some a ∧ a.phase =
    .retryDue ∧ old s.now a.eop 1025 = true ∧ (s.room p).retryFree (s.env p) = true) ∧
  (∃ (s : State) (p : Fin 48), s.live p = true ∧ due s.now (s.room p).pd.srWait 27000 = true ∧ (s.room p).bit
    PD_CFG_AUTO_SR = true ∧ (s.room p).fld PD_STAT_HR_COUNT ≠ 2) ∧
  (∃ (s : State) (p : Fin 48), s.live p = true ∧ due s.now (s.room p).pd.sinkTx 17000 = true ∧ (s.room p).fld
    TX_STAT_STATE = 2) ∧
  (∃ (s : State) (p : Fin 48), s.live p = true ∧ due s.now (s.room p).pd.sinkTx 1200000 = true ∧ old s.now (s.room
    p).pd.lastSop 1200000 = true ∧ (s.room p).bit PD_STAT_SINKTX = true ∧ (s.room p).fld TX_STAT_STATE ≠ 2 ∧ (s.room
    p).fld TX_STAT_STATE ≠ 4 ∧ (s.room p).pd.hvdm = none) ∧
  (∃ (s : State) (p : Fin 48), s.live p = true ∧ (s.room p).bit PD_STAT_SINKTX = true ∧ (s.room p).fld TX_STAT_STATE ≠
    2 ∧ (s.room p).fld TX_STAT_STATE ≠ 4 ∧ (s.room p).pd.hvdm = none) ∧
  (∃ (s : State) (p : Fin 48), s.live p = true ∧ (s.room p).bit PD_STAT_SINKTX = true ∧ (s.room p).fld TX_STAT_STATE ≠
    4 ∧ (((s.room p).fld TX_STAT_STATE = 2 ∨ (s.room p).pd.hvdm.isSome = true)) ∧ (s.room p).caApplies = true ∧
    (s.room p).ast = aSrc) ∧
  (∃ (s : State) (p : Fin 48), s.live p = true ∧ (s.room p).fld TX_STAT_STATE = 4) ∧
  (∃ (s : State) (p : Fin 48) (m : TxMsg), s.live p = true ∧ (s.room p).fld TX_STAT_STATE = 4 ∧ (s.room p).pd.msg =
    some m ∧ m.initiate = false) ∧
  (∃ (s : State) (p : Fin 48), s.live p = true ∧ (s.room p).fld TX_STAT_STATE = 4) ∧
  (∃ (s : State) (p : Fin 48), s.free p = true ∧ (s.room p).attached = true ∧ (s.room p).fld PD_STAT_HR_COUNT ≠ 2) ∧
  (∃ (s : State) (p : Fin 48), s.free p = true ∧ (s.room p).bit CC_STAT_VCONN_ON = true ∧ (s.room p).bit
    PD_STAT_HR_ACTIVE = false ∧ (s.room p).sending = false) ∧
  (∃ (s : State) (p : Fin 48), s.free p = true ∧ (s.room p).bit CC_STAT_VCONN_ON = true ∧ (s.room p).bit
    PD_STAT_HR_ACTIVE = false ∧ (s.room p).sending = true) ∧
  (∃ (s : State) (p : Fin 48), s.free p = true ∧ (s.room p).bit CC_STAT_VCONN_ON = true ∧ (s.room p).fld
    PD_STAT_CABLE_STATE ≠ 1) ∧
  (∃ (s : State) (p : Fin 48), s.live p = true ∧ (s.room p).fld HV0_HDR % 32 = 0x0F ∧ (s.room p).fld HV0_HDR / 4096 %
    8 ≠ 0 ∧ (s.room p).fld HV0_HDR < 32768 ∧ ((s.room p).regs.get 0xE4).toNat / 65536 = 0x3A9D ∧ ((s.room p).regs.get
    0xE4).toNat.testBit 15 = false ∧ (s.room p).attached = true ∧ (s.room p).outOff = false ∧ (s.room p).caApplies =
    true ∧ (s.room p).pd.hvdm = none) ∧
  (∃ (s : State) (p : Fin 48), s.live p = true ∧ (s.room p).fld HV0_HDR % 32 ≠ 0x0F) ∧
  (∃ (s : State) (p : Fin 48) (m : TxMsg), s.live p = true ∧ (s.room p).pd.msg = some m ∧ due s.now m.wait 27000 =
    true) ∧
  (∃ (s : State) (p : Fin 48) (tr : Nat) (m : TxMsg), s.free p = true ∧ (s.room p).slotFree (s.env p) = true ∧ tr < 3
    ∧ (s.room p).autoReady (fun x => x.kind = .reply) = some m ∧ m.pkt.softReset = false) ∧
  (∃ (s : State) (p : Fin 48), s.free p = true ∧ (s.room p).ast = aSnk ∧ (s.room p).bit PD_STAT_EPR_ACTIVE = true ∧
    (s.room p).bit PD_CFG_EPR_KA_AUTO = true ∧ (s.room p).bit PD_STAT_HR_ACTIVE = false ∧ old s.now (s.room
    p).pd.lastTx 375000 = true ∧ (s.room p).pd.auto.any (·.kind = .keepAlive) = false ∧ (s.room p).pd.air = none) ∧
  (∃ (s : State) (p : Fin 48), s.free p = true ∧ (s.room p).bit PD_CFG_CABLE_AUTO = true ∧ due s.now (s.room
    p).pd.vconnAt 50000 = true ∧ (s.room p).fld PD_STAT_CABLE_STATE = 0 ∧ (s.room p).explicit = false) ∧
  (∃ (s : State) (p : Fin 48), s.live p = true ∧ due s.now (s.room p).pd.cableWait 27000 = true) ∧
  (∃ (s : State) (p : Fin 48), s.live p = true ∧ (s.room p).fld PD_STAT_CABLE_STATE = 1 ∧ old s.now (s.room
    p).pd.cableAt 45000 = true ∧ (s.room p).pd.cableWait = none ∧ (s.room p).pd.auto.any (·.kind = .cable) = false ∧
    (s.room p).pd.air.any (·.msg.kind = .cable) = false ∧ (s.room p).pd.cableTries < (s.room p).fld
    PD_CFG_CABLE_TRIES) ∧
  (∃ (s : State) (p : Fin 48), s.live p = true ∧ (s.room p).fld PD_STAT_CABLE_STATE = 1 ∧ old s.now (s.room
    p).pd.cableAt 45000 = true ∧ (s.room p).pd.cableWait = none ∧ (s.room p).pd.auto.any (·.kind = .cable) = false ∧
    (s.room p).pd.air.any (·.msg.kind = .cable) = false ∧ (s.room p).fld PD_CFG_CABLE_TRIES ≤ (s.room
    p).pd.cableTries) ∧
  (∃ (s : State) (p : Fin 48), s.free p = true ∧ (s.room p).attached = true ∧ (s.room p).pd.hrDue = true ∧ (s.room
    p).sending = false ∧ (s.room p).swapTermDone = false) := ⟨
  ⟨(rm 0 [(CC_STAT_ASTATE, aSrc)] (fun r => { r with pd := { (r).pd with auto := [(.mk' .reply 0 3 [])] } })), 0, 0,
    (.mk' .reply 0 3 []), by decide +kernel⟩,
  ⟨(rm 0 [(CC_STAT_ASTATE, aSrc)] (fun r => { r with pd := { (r).pd with auto := [(.mk' .softReset 0 13 [])] } })), 0,
    0, (.mk' .softReset 0 13 []), by decide +kernel⟩,
  ⟨(rm 0 [(CC_STAT_ASTATE, aSrc), (TX_STAT_STATE, 1)] (fun r =>
    { r with pd := { (r).pd with msg := some (.mk' .core 0 3 []) } })), 0, 0, (.mk' .core 0 3 []), by decide +kernel⟩,
  ⟨(rm 0 [(CC_STAT_ASTATE, aSrc)] (fun r =>
    { r with pd := { (r).pd with air := some ⟨.mk' .reply 0 3 [], 2, 0, .sending, 0⟩ } })), 0, ⟨.mk' .reply 0 3 [], 2,
    0, .sending, 0⟩, by decide +kernel⟩,
  ⟨(rm 0 [(CC_STAT_ASTATE, aSrc), (CC_STAT_VCONN_ON, 1)] (fun r =>
    { r with pd := { (r).pd with crDue := true, air := some ⟨.mk' .reply 0 3 [], 2, 0, .sending, 0⟩ } })), 0, ⟨.mk'
    .reply 0 3 [], 2, 0, .sending, 0⟩, by decide +kernel⟩,
  ⟨(rm 0 [(CC_STAT_ASTATE, aSrc)] (fun r =>
    { r with pd := { (r).pd with air := some ⟨.mk' .reply 0 3 [], 2, 0, .awaiting, 0⟩ } })), 0, ⟨.mk' .reply 0 3 [],
    2, 0, .awaiting, 0⟩, by decide +kernel⟩,
  ⟨(rm 0 [(CC_STAT_ASTATE, aSrc), (PD_STAT_REV_SOP, 2)] (fun r =>
    { r with pd := { (r).pd with air := some ⟨.mk' .core 0 3 [], 2, 2, .awaiting, 0⟩ } })), 0, ⟨.mk' .core 0 3 [], 2,
    2, .awaiting, 0⟩, by decide +kernel⟩,
  ⟨(rm 0 [(CC_STAT_ASTATE, aSrc)] (fun r =>
    { r with pd := { (r).pd with air := some ⟨.mk' .reply 0 3 [], 2, 0, .retryDue, 0⟩ } })), 0, 0, ⟨.mk' .reply 0 3
    [], 2, 0, .retryDue, 0⟩, by decide +kernel⟩,
  ⟨(rm 0 [(CC_STAT_ASTATE, aSrc), (PD_CFG_AUTO_SR, 1)] (fun r => { r with pd := { (r).pd with srWait := some 0 } })),
    0, by decide +kernel⟩,
  ⟨(rm 0 [(TX_STAT_STATE, 2)] (fun r => { r with pd := { (r).pd with sinkTx := some 0 } })), 0, by decide +kernel⟩,
  ⟨(rm 0 [(PD_STAT_SINKTX, 1)] (fun r => { r with pd := { (r).pd with sinkTx := some 0 } })), 0, by decide +kernel⟩,
  ⟨(rm 0 [(PD_STAT_SINKTX, 1)]), 0, by decide +kernel⟩,
  ⟨(rm 0 [(CC_STAT_ASTATE, aSrc), (PD_STAT_SINKTX, 1), (PD_STAT_REV_SOP, 2), (PD_STAT_EXPLICIT, 1), (TX_STAT_STATE,
    2)]), 0, by decide +kernel⟩,
  ⟨(rm 0 [(TX_STAT_STATE, 4)]), 0, by decide +kernel⟩,
  ⟨(rm 0 [(TX_STAT_STATE, 4)] (fun r => { r with pd := { (r).pd with msg := some (.mk' .reply 0 3 []) } })), 0, .mk'
    .reply 0 3 [], by decide +kernel⟩,
  ⟨(rm 0 [(TX_STAT_STATE, 4)]), 0, by decide +kernel⟩,
  ⟨(rm 0 [(CC_STAT_ASTATE, aSnk)]), 0, by decide +kernel⟩,
  ⟨(rm 0 [(CC_STAT_VCONN_ON, 1), (PD_STAT_CABLE_STATE, 2)]), 0, by decide +kernel⟩,
  ⟨(rm 0 [(CC_STAT_VCONN_ON, 1)] (fun r => { r with pd := { (r).pd with gcrc := true } })), 0, by decide +kernel⟩,
  ⟨(rm 0 [(CC_STAT_VCONN_ON, 1)]), 0, by decide +kernel⟩,
  ⟨(rm 0 [(CC_STAT_ASTATE, aSrc), (HV0_HDR, 0x206F), (PD_STAT_REV_SOP, 2), (PD_STAT_EXPLICIT, 1)] (fun r =>
    { r with regs := r.regs.set 0xE4 0x3A9D0001 })), 0, by decide +kernel⟩,
  ⟨(rm 0 []), 0, by decide +kernel⟩,
  ⟨(rm 0 [(TX_STAT_STATE, 6)] (fun r =>
    { r with pd := { (r).pd with msg := some ({ TxMsg.mk' .core 0 3 [] with wait := some 0 } : TxMsg) } })), 0,
    ({ TxMsg.mk' .core 0 3 [] with wait := some 0 } : TxMsg), by decide +kernel⟩,
  ⟨(rm 0 [(CC_STAT_ASTATE, aSrc)] (fun r => { r with pd := { (r).pd with auto := [(.mk' .reply 0 3 [])] } })), 0, 0,
    (.mk' .reply 0 3 []), by decide +kernel⟩,
  ⟨(rm 0 [(CC_STAT_ASTATE, aSnk), (PD_STAT_EPR_ACTIVE, 1), (PD_CFG_EPR_KA_AUTO, 1)]), 0, by decide +kernel⟩,
  ⟨(rm 0 [(PD_CFG_CABLE_AUTO, 1)] (fun r => { r with pd := { (r).pd with vconnAt := some 0 } })), 0,
    by decide +kernel⟩,
  ⟨(rm 0 [] (fun r => { r with pd := { (r).pd with cableWait := some 0 } })), 0, by decide +kernel⟩,
  ⟨(rm 0 [(PD_STAT_CABLE_STATE, 1), (PD_CFG_CABLE_TRIES, 3)] (fun r =>
    { r with pd := { (r).pd with cableTries := 1 } })), 0, by decide +kernel⟩,
  ⟨(rm 0 [(PD_STAT_CABLE_STATE, 1), (PD_CFG_CABLE_TRIES, 2)] (fun r =>
    { r with pd := { (r).pd with cableTries := 2 } })), 0, by decide +kernel⟩,
  ⟨(rm 0 [(CC_STAT_ASTATE, aSrc)] (fun r => { r with pd := { (r).pd with hrDue := true } })), 0, by decide +kernel⟩⟩

/-- States that meet the hypotheses of VoltageTransitions. -/
theorem witness_VoltageTransitions :
  (∃ (s : State) (p : Fin 48) (w v : Nat), s.whole p = true ∧ s.clampField (.roomReg p.val 0x160) GRANT_ASK_ASK_W (w %
    65536) = v ∧ 0 < v ∧ v < 65536) ∧
  (∃ (s : State) (p : Fin 48) (w : Nat), s.whole p = true ∧ s.clampField (.roomReg p.val 0x160) GRANT_ASK_ASK_W (w %
    65536) = 0) ∧
  (∃ (s : State) (p : Fin 48) (a : Ask), (s.room p).fld GRANT_ASK_STATE = 1 ∧ s.portAsk p = some a ∧ (∀ b ∈ s.asks,
    b.before a = false) ∧ (s.room p).fld CON_STAT_SWAP ≠ 4 ∧ max (s.room p).grant (min ((s.room p).fld
    GRANT_ASK_ASK_W) (s.availFor p)) < 65536) ∧
  (∃ (s : State) (p q : Fin 48) (a b : Ask), (s.room p).fld GRANT_ASK_STATE = 1 ∧ s.portAsk p = some a ∧ (s.room
    q).fld GRANT_ASK_STATE = 1 ∧ s.portAsk q = some b ∧ b.before a = true ∧ (∀ x ∈ s.asks, x.before b = false) ∧
    (s.room q).fld CON_STAT_SWAP ≠ 4 ∧ max (s.room q).grant (min ((s.room q).fld GRANT_ASK_ASK_W) (s.availFor q)) <
    65536) ∧
  (∃ (s : State) (p : Fin 48), s.whole p = true ∧ (s.room p).fld GRANT_ASK_STATE = 2 ∧ due s.now (s.room p).con.resvAt
    10000 = true) ∧
  (∃ (s : State) (p : Fin 48), s.free p = true ∧ (s.room p).ast = aSrc ∧ (s.room p).fld CON_STAT_STEP = 1 ∧ (s.room
    p).bit CON_STAT_HR_SEQ = false ∧ (s.room p).fld CON_STAT_SWAP = 0 ∧ (s.room p).con.negMv < 65536 ∧ due s.now
    (s.room p).con.trans (1000 * (s.room p).fld CON_CFG_TSRC) = true) ∧
  (∃ (s : State) (p : Fin 48), s.free p = true ∧ (s.room p).ast = aSrc ∧ (s.room p).fld CON_STAT_STEP = 1 ∧ (s.room
    p).bit CON_STAT_HR_SEQ = false ∧ (s.room p).fld CON_STAT_SWAP = 1 ∧ (s.room p).loop = lRegulate ∧ old s.now
    (s.room p).con.swapAt (1000 * (s.room p).fld CON_CFG_TSRC) = true) ∧
  (∃ (s : State) (p : Fin 48), s.live p = true ∧ (s.room p).loop = lRegulate ∧ (s.room p).bit CON_STAT_RAMPING = true
    ∧ (s.room p).fld VSET_REF = (s.room p).fld VSET_MV) ∧
  (∃ (s : State) (p : Fin 48), s.free p = true ∧ (s.room p).attached = true ∧ (s.room p).bit CON_STAT_SETTLED = false
    ∧ (s.room p).settled (s.env p) = true) ∧
  (∃ (s : State) (p : Fin 48), s.free p = true ∧ (s.room p).ast = aSrc ∧ (s.room p).con.trans.isSome = true ∧ (s.room
    p).fld CON_STAT_STEP = 3 ∧ due s.now (s.room p).con.reached 50000 = true ∧ (s.room p).settled (s.env p) = false ∧
    (s.room p).pd.hrDue = false) ∧
  (∃ (s : State) (p : Fin 48) (mv : Nat), s.live p = true ∧ (s.room p).ast = aSnk ∧ s.clampField (.roomReg p.val
    0x158) VSET_MV mv < 65536) ∧
  (∃ (s : State) (p : Fin 48), s.live p = true ∧ (s.room p).ast = aSrc ∧ (s.room p).vsetOpen = true ∧ max ((s.room
    p).fld CON_LIM_VLIM) (s.env p).port.vmin < 65536) ∧
  (∃ (s : State) (p : Fin 48), s.live p = true ∧ (s.room p).ast = aSrc ∧ (s.room p).vsetOpen = false) ∧
  (∃ (s : State) (p : Fin 48) (v : Nat), s.live p = true ∧
    ({ s.room p with con := { (s.room p).con with vin10 := v } } : Room).vlim (s.env p) < 65536) ∧
  (∃ (s : State) (p : Fin 48), s.whole p = true ∧ s.keeps (wingOf p) = false) ∧
  (∃ (s : State) (p : Fin 48) (a d : Nat), s.free p = true ∧ (s.room p).con.giveup = some (a, d) ∧ a + d ≤ s.now ∧
    (s.room p).ast = aSrc ∧ (s.room p).explicit = true ∧ (s.room p).overGrant = true ∧ (s.room p).fld CON_VI_MV ≤
    (s.room p).fld CON_LIM_VLIM) := ⟨
  ⟨(up 0), 0, 65535, 65535, by decide +kernel⟩,
  ⟨(up 0), 0, 65536, by decide +kernel⟩,
  ⟨(rm 0 [(GRANT_ASK_STATE, 1), (GRANT_ASK_ASK_W, 60), (PORT_BUD_PMAX_W, 100)]), 0, ⟨0, 1, 0⟩, by decide +kernel⟩,
  ⟨(rm 1 [(GRANT_ASK_STATE, 1), (GRANT_ASK_ASK_W, 60), (PORT_BUD_PMAX_W, 100)] id (rm 0 [(GRANT_ASK_STATE, 1),
    (GRANT_ASK_ASK_W, 60), (PORT_BUD_PMAX_W, 100)])), 1, 0, ⟨0, 1, 1⟩, ⟨0, 1, 0⟩, by decide +kernel⟩,
  ⟨(rm 0 [(GRANT_ASK_STATE, 2), (GRANT_RESV_W, 60)] (fun r => { r with con := { (r).con with resvAt := some 0 } })),
    0, by decide +kernel⟩,
  ⟨(rm 0 [(CC_STAT_ASTATE, aSrc), (CON_STAT_STEP, 1)] (fun r =>
    { r with con := { (r).con with negMv := 65535, trans := some 0 } })), 0, by decide +kernel⟩,
  ⟨(rm 0 [(CC_STAT_ASTATE, aSrc), (CON_STAT_SWAP, 1), (CON_STAT_STEP, 1), (LOOP_STAT_STATE, lRegulate)]), 0,
    by decide +kernel⟩,
  ⟨(rm 0 [(LOOP_STAT_STATE, lRegulate), (CON_STAT_RAMPING, 1), (VSET_REF, 9000), (VSET_MV, 9000)]), 0,
    by decide +kernel⟩,
  ⟨(rm 2 [(CC_STAT_ASTATE, aSnk)]), 2, by decide +kernel⟩,
  ⟨(rm 0 [(CC_STAT_ASTATE, aSrc), (CON_STAT_STEP, 3)] (fun r =>
    { r with con := { (r).con with trans := some 0, reached := some 0 } })), 0, by decide +kernel⟩,
  ⟨(rm 2 [(CC_STAT_ASTATE, aSnk)]), 2, 65535, by decide +kernel⟩,
  ⟨(rm 0 [(CC_STAT_ASTATE, aSrc), (CON_STAT_SWAP, 1), (CON_LIM_VLIM, 20000)]), 0, by decide +kernel⟩,
  ⟨(rm 0 [(CC_STAT_ASTATE, aSrc)]), 0, by decide +kernel⟩,
  ⟨(up 0), 0, 48000, by decide +kernel⟩,
  ⟨(up 1), 0, by decide +kernel⟩,
  ⟨(rm 0 [(CC_STAT_ASTATE, aSrc), (PD_STAT_EXPLICIT, 1), (GRANT_GRANT_W, 10), (CON_VI_MV, 9000), (CON_VI_MA, 3000),
    (CON_LIM_VLIM, 9000)] (fun r => { r with con := { (r).con with giveup := some (0, 5) } })), 0, 0, 5,
    by decide +kernel⟩⟩

/-- States that meet the hypotheses of HardResetAndSwaps. -/
theorem witness_HardResetAndSwaps :
  (∃ (s : State) (p : Fin 48), s.free p = true ∧ (s.room p).ast = aSrc ∧ (s.room p).bit CON_STAT_HR_SEQ = true ∧
    (s.room p).fld CON_STAT_STEP = 1 ∧ old s.now (s.room p).con.hrAt 30000 = true) ∧
  (∃ (s : State) (p : Fin 48), s.free p = true ∧ (s.room p).ast = aSrc ∧ (s.room p).bit CON_STAT_HR_SEQ = true ∧
    (s.room p).fld CON_STAT_STEP = 2 ∧ (s.room p).cc.vbus ≤ 800 ∧ (s.room p).con.hrSafe0 = none) ∧
  (∃ (s : State) (p : Fin 48), s.free p = true ∧ (s.room p).ast = aSrc ∧ (s.room p).bit CON_STAT_HR_SEQ = true ∧
    (s.room p).fld CON_STAT_STEP = 3 ∧ due s.now (s.room p).con.hrSafe0 750000 = true) ∧
  (∃ (s : State) (p : Fin 48), s.free p = true ∧ (s.room p).ast = aSrc ∧ (s.room p).bit CON_STAT_HR_SEQ = true ∧
    (s.room p).fld CON_STAT_STEP = 4 ∧ (s.room p).banded (s.env p) = true) ∧
  (∃ (s : State) (p : Fin 48), s.free p = true ∧ (s.room p).ast = aSrc ∧ (s.room p).fld CON_STAT_SWAP = 1 ∧ (s.room
    p).fld CON_STAT_STEP = 2 ∧ (s.room p).cc.vbus ≤ 800) ∧
  (∃ (s : State) (p : Fin 48) (d : Nat), s.free p = true ∧ (s.room p).ast ≠ aDisabled ∧ (s.room p).psRdyLimit = some d
    ∧ due s.now (s.room p).con.swapWait d = true) ∧
  (∃ (s : State) (p : Fin 48), s.free p = true ∧ (s.room p).ast = aSrc ∧ (s.room p).frsReady (s.env p) = true) ∧
  (∃ (s : State) (p : Fin 48), s.free p = true ∧ (s.room p).ast = aSrc ∧ (s.room p).frsReady (s.env p) = true ∧
    (s.room p).bit FRS_CTRL_TRIG_AUTO = true ∧ 2 ≤ (s.room p).con.frsLow) ∧
  (∃ (s : State) (p : Fin 48), s.free p = true ∧ (s.room p).fld CON_STAT_SWAP = 3 ∧ (s.room p).fld CON_STAT_STEP = 1 ∧
    old s.now (s.room p).con.swapAt 60 = true) ∧
  (∃ (s : State) (p : Fin 48), s.free p = true ∧ (s.room p).ast ≠ aDisabled ∧ (s.room p).fld CON_STAT_SWAP = 3 ∧
    (s.room p).fld CON_STAT_STEP ≤ 3 ∧ due s.now (s.room p).con.frsTx 20000 = true ∧ (s.room p).pd.auto.any (·.re = 5)
    = false ∧ (s.room p).pd.air.any (·.msg.re = 5) = false) ∧
  (∃ (s : State) (p : Fin 48), s.free p = true ∧ (s.room p).ast = aSnk ∧ (s.room p).frsReady (s.env p) = true) ∧
  (∃ (s : State) (p : Fin 48), s.free p = true ∧ (s.room p).attached = true ∧ (s.room p).fld CON_STAT_SWAP = 4 ∧ 2 ≤
    (s.room p).fld CON_STAT_STEP ∧ (s.room p).con.frsOk = true ∧ (s.room p).forward = false ∧ (s.room p).cc.vbus <
    4750) ∧
  (∃ (s : State) (p : Fin 48), s.free p = true ∧ (s.room p).fld CON_STAT_SWAP = 5 ∧ due s.now (s.room p).con.vconnSwap
    150000 = true ∧ (s.room p).pd.hrDue = false ∧ (s.room p).fld PD_STAT_HR_COUNT ≠ 2) := ⟨
  ⟨(rm 0 [(CC_STAT_ASTATE, aSrc), (CON_STAT_HR_SEQ, 1), (CON_STAT_STEP, 1), (CC_STAT_VCONN_ON, 1)]), 0,
    by decide +kernel⟩,
  ⟨(rm 0 [(CC_STAT_ASTATE, aSrc), (CON_STAT_HR_SEQ, 1), (CON_STAT_STEP, 2)] (fun r =>
    { r with cc := { (r).cc with vbus := 800 } })), 0, by decide +kernel⟩,
  ⟨(rm 0 [(CC_STAT_ASTATE, aSrc), (CON_STAT_HR_SEQ, 1), (CON_STAT_STEP, 3)] (fun r =>
    { r with con := { (r).con with hrSafe0 := some 0 } })), 0, by decide +kernel⟩,
  ⟨(rm 0 [(CC_STAT_ASTATE, aSrc), (CON_STAT_HR_SEQ, 1), (CON_STAT_STEP, 4)] (fun r =>
    { r with con := { (r).con with inBand := some 0 } })), 0, by decide +kernel⟩,
  ⟨(rm 1 [(CC_STAT_ASTATE, aSrc), (CON_STAT_SWAP, 1), (CON_STAT_STEP, 2)] (fun r =>
    { r with cc := { (r).cc with vbus := 800 } })), 1, by decide +kernel⟩,
  ⟨(rm 1 [(CC_STAT_ASTATE, aSnk), (CON_STAT_SWAP, 4), (CON_STAT_STEP, 5)] (fun r =>
    { r with con := { (r).con with swapWait := some 0 } })), 1, 900000, by decide +kernel⟩,
  ⟨(rm 1 [(CC_STAT_ASTATE, aSrc), (FRS_CTRL_ARM, 1), (PD_STAT_REV_SOP, 2), (PD_STAT_EXPLICIT, 1), (CON_STAT_TYPE, 1),
    (CON_VI_MV, 5000)]), 1, by decide +kernel⟩,
  ⟨(rm 1 [(CC_STAT_ASTATE, aSrc), (FRS_CTRL_TRIG_AUTO, 1), (FRS_CTRL_ARM, 1), (PD_STAT_REV_SOP, 2), (PD_STAT_EXPLICIT,
    1), (CON_STAT_TYPE, 1), (CON_VI_MV, 5000)] (fun r => { r with con := { (r).con with frsLow := 2 } })), 1,
    by decide +kernel⟩,
  ⟨(rm 1 [(CON_STAT_SWAP, 3), (CON_STAT_STEP, 1)]), 1, by decide +kernel⟩,
  ⟨(rm 1 [(CC_STAT_ASTATE, aSrc), (CON_STAT_SWAP, 3), (CON_STAT_STEP, 3)] (fun r =>
    { r with con := { (r).con with frsTx := some 0 } })), 1, by decide +kernel⟩,
  ⟨(rm 1 [(CC_STAT_ASTATE, aSnk), (FRS_CTRL_ARM, 1), (PD_STAT_REV_SOP, 2), (PD_STAT_EXPLICIT, 1), (CON_STAT_TYPE, 1),
    (CON_VI_MV, 5000)]), 1, by decide +kernel⟩,
  ⟨(rm 1 [(CC_STAT_ASTATE, aSnk), (CON_STAT_SWAP, 4), (CON_STAT_STEP, 2)] (fun r =>
    { { r with cc := { (r).cc with vbus := 4749 } } with con := { (r).con with frsOk := true } })), 1,
    by decide +kernel⟩,
  ⟨(rm 1 [(CC_STAT_ASTATE, aSrc), (CON_STAT_SWAP, 5)] (fun r =>
    { r with con := { (r).con with vconnSwap := some 0 } })), 1, by decide +kernel⟩⟩

/-- States that meet the hypotheses of LoopAndThresholds. -/
theorem witness_LoopAndThresholds :
  (∃ (s : State) (p : Fin 48), s.present p = true ∧ ((s.pl.follower p.val = false ∨ s.phaseTurn p = true))) ∧
  (∃ (s : State) (p : Fin 48), s.present p = true ∧ s.pl.follower p.val = false ∧ s.keeps (wingOf p) = true ∧ (s.room
    p).conv.frsTurn = true) ∧
  (∃ (s : State) (p : Fin 48) (m : Nat), s.present p = true ∧ s.pl.follower p.val = false ∧ m ∈ (s.pl.members
    p.val).drop 1) ∧
  (∃ (s : State) (p : Fin 48), s.pl.follower p.val = true ∧ s.phaseTurn p = false) ∧
  (∃ (s : State) (p : Fin 48), s.present p = true ∧ s.pl.follower p.val = false) ∧
  (∃ (s : State) (p : Fin 48), s.present p = true ∧ s.pl.follower p.val = true) ∧
  (∃ (s : State) (p : Fin 48), s.live p = true ∧ (s.room p).loop = lSoftStart ∧ (s.room p).fld VSET_REF = 5000) ∧
  (∃ (s : State) (p : Fin 48), s.live p = true ∧ (s.room p).loop = lSoftStop ∧ (s.room p).fld VSET_REF = 0 ∧ (s.room
    p).bit SW_STAT_CMD = true ∧ (s.room p).cc.vbus ≤ 800 ∧ (s.room p).attempting = false) ∧
  (∃ (s : State) (p : Fin 48), s.present p = true) ∧
  (∃ (s : State) (p : Fin 48) (k : Fin 4) (cycles : Nat), s.present p = true ∧ (s.room p).armed (s.env p) k.val = true
    ∧ (s.room p).unblanked k.val cycles = true ∧ s.keeps (wingOf p) = true ∧ (s.pl.tripWord p.val k.val).testBit
    (p.val % 8) = true) ∧
  (∃ (s : State) (p q : Fin 48) (k : Fin 4) (cycles : Nat), s.present p = true ∧ (s.room p).armed (s.env p) k.val =
    true ∧ (s.room p).unblanked k.val cycles = true ∧ s.keeps (wingOf p) = true ∧ landOf q = landOf p ∧ (s.pl.tripWord
    p.val k.val).testBit (8 + q.val % 8) = true) ∧
  (∃ (s : State) (p : Fin 48) (k : Fin 4) (cycles : Nat), (s.room p).unblanked k.val cycles = false) ∧
  (∃ (s : State) (p : Fin 48), s.live p = true) ∧
  (∃ (s : State) (p : Fin 48), s.live p = true ∧ (s.room p).armed (s.env p) 0 = true ∧ 48 * (s.room p).fld
    PROT_TIME_OV_T ≤ (s.room p).conv.ovCnt) ∧
  (∃ (s : State) (p : Fin 48), s.live p = true ∧ (s.room p).armed (s.env p) 1 = true ∧ 48000 * (s.room p).fld
    PROT_TIME_UV_T ≤ (s.room p).conv.uvCnt) ∧
  (∃ (s : State) (p : Fin 48), s.live p = true ∧ due s.now (s.room p).conv.lossAt (1000 * (s.room p).fld
    PROT_TIME_REGLOSS_T) = true) := ⟨
  ⟨(up 0), 0, by decide +kernel⟩,
  ⟨(rm 0 [] (fun r => { r with conv := { (r).conv with frsTurn := true } })), 0, by decide +kernel⟩,
  ⟨{ up 0 with plan := some { tPlan 0 with gangs := [(0, 2)], ports := [tPort 1 0, tPort 1 0] } }, 0, 1,
    by decide +kernel⟩,
  ⟨{ up 0 with plan := some { tPlan 0 with gangs := [(0, 2)], ports := [tPort 1 0, tPort 1 0] } }, 1,
    by decide +kernel⟩,
  ⟨(up 0), 0, by decide +kernel⟩,
  ⟨{ up 0 with plan := some { tPlan 0 with gangs := [(0, 2)], ports := [tPort 1 0, tPort 1 0] } }, 1,
    by decide +kernel⟩,
  ⟨(rm 0 [(LOOP_STAT_STATE, lSoftStart), (VSET_REF, 5000)]), 0, by decide +kernel⟩,
  ⟨(rm 0 [(LOOP_STAT_STATE, lSoftStop), (SW_STAT_CMD, 1)] (fun r => { r with cc := { (r).cc with vbus := 800 } })), 0,
    by decide +kernel⟩,
  ⟨(up 0), 0, by decide +kernel⟩,
  ⟨(up 0), 1, 3, 3, by decide +kernel⟩,
  ⟨(rm 1 [(SW_STAT_CMD, 1)]), 1, 1, 3, 3, by decide +kernel⟩,
  ⟨(rm 0 [] (fun r => { r with conv := { r.conv with thr := [0, 0, 0, 0x1400] } })), 0, 3, 4, by decide +kernel⟩,
  ⟨(up 0), 0, by decide +kernel⟩,
  ⟨(rm 0 [(LOOP_STAT_STATE, lRegulate), (PROT_TIME_OV_T, 1)] (fun r =>
    { r with conv := { (r).conv with ovCnt := 48 } })), 0, by decide +kernel⟩,
  ⟨(rm 0 [(LOOP_STAT_STATE, lRegulate), (SW_STAT_FULL, 1), (PROT_TIME_UV_T, 1)] (fun r =>
    { r with conv := { (r).conv with uvCnt := 48000, flat := some 0 } })), 0, by decide +kernel⟩,
  ⟨(rm 0 [] (fun r => { r with conv := { (r).conv with lossAt := some 0 } })), 0, by decide +kernel⟩⟩

/-- States that meet the hypotheses of SwitchAndRetries. -/
theorem witness_SwitchAndRetries :
  (∃ (s : State) (p : Fin 48), s.live p = true ∧ (s.room p).driversOff = false ∧ 100 * (s.room p).fld EF_TIME_TFLT ≤
    (s.room p).fld EF_STAT_TIMER) ∧
  (∃ (s : State) (p : Fin 48), s.live p = true ∧ 1000 < (s.room p).vds.natAbs ∧ due s.now (s.room p).conv.foldAt (1000
    * (s.room p).fld EF_TIME_TFB) = true) ∧
  (∃ (s : State) (p : Fin 48), s.live p = true ∧ (s.room p).conv.foldAt.isSome = true ∧ (s.room p).vds.natAbs ≤ 1000) ∧
  (∃ (s : State) (p : Fin 48), s.live p = true ∧ (s.room p).safe = true ∧ (s.room p).bit CTRL_FORCE_SAFE = false ∧
    (s.room p).slotHold = false ∧ (s.room p).bit RETRY_STAT_WAIT = true ∧ s.attemptDue p = true ∧ (s.room p).ast =
    aSrc ∧ (s.room p).mayAttempt (s.cls p) = true ∧ (s.room p).conv.thermal = false ∧ (s.room p).vnode ≤ 5500) ∧
  (∃ (s : State) (p : Fin 48), s.live p = true ∧ due s.now (s.room p).conv.attAt (1000 * (s.room p).fld
    RETRY_CFG_ATT_T) = true) ∧
  (∃ (s : State) (p : Fin 48), s.live p = true ∧ (s.room p).inSafe = false ∧ due s.now (s.room p).conv.outAt 60000000
    = true) ∧
  (∃ (s : State) (p : Fin 48), s.live p = true ∧ (s.room p).fetWatch = true ∧ due s.now (s.room p).conv.fetAt 20000 =
    true ∧ due s.now (s.room p).conv.fetHi 1000 = true) := ⟨
  ⟨(rm 0 [(EF_TIME_TFLT, 1), (EF_STAT_TIMER, 100)]), 0, by decide +kernel⟩,
  ⟨(rm 0 [(SW_STAT_VDS, 101)] (fun r => { r with conv := { (r).conv with foldAt := some 0 } })), 0, by decide +kernel⟩,
  ⟨(rm 0 [(SW_STAT_VDS, 65436)] (fun r => { r with conv := { (r).conv with foldAt := some 0 } })), 0,
    by decide +kernel⟩,
  ⟨(rm 0 [(RETRY_STAT_WAIT, 1), (CC_STAT_ASTATE, aSrc), (GRANT_GRANT_W, 8)] (fun r =>
    { { r with conv := { (r).conv with retryAt := some 0 } } with safe := true }) (ld 0 [(HS_STAT_STATE, hOn)])), 0,
    by decide +kernel⟩,
  ⟨(rm 0 [(RETRY_STAT_ATTEMPT, 1)] (fun r =>
    { { r with conv := { (r).conv with attAt := some 0 } } with safe := true })), 0, by decide +kernel⟩,
  ⟨(rm 0 [(RETRY_STAT_COUNT, 3)] (fun r => { r with conv := { (r).conv with outAt := some 0 } })), 0,
    by decide +kernel⟩,
  ⟨(rm 0 [(PWM_STAT_LEVEL, 2)] (fun r => { r with conv := { (r).conv with fetAt := some 0, fetHi := some 0 } })), 0,
    by decide +kernel⟩⟩

/-- States that meet the hypotheses of SlotStart. -/
theorem witness_SlotStart :
  (∃ (s : State) (b : Fin 6), s.slotPresent b = true) ∧
  (∃ (s : State) (b : Fin 6) (m : SlotMeas), s.slotMay b = true ∧ (s.land b).st = hSeating ∧ (s.land b).tseatMet s.now
    = true ∧ 34000 ≤ vinMv m) ∧
  (∃ (s : State) (b : Fin 6) (m : SlotMeas), s.slotMay b = true ∧ (s.land b).st = hSeating ∧ (s.land b).tseatMet s.now
    = true ∧ 34000 ≤ vinMv m) ∧
  (∃ (s : State) (b : Fin 6) (m : SlotMeas), s.slotLive b = true ∧ (s.land b).st = hInrush ∧ vdsUv m ≤ 1000000) ∧
  (∃ (s : State) (b : Fin 6) (m : SlotMeas) (x : Nat), s.slotLive b = true ∧ (s.land b).st = hGateUp ∧ m.full = true ∧
    95 * vinMv m ≤ 100 * voutMv m ∧ (s.land b).goodAt = some x ∧ x + 100 ≤ s.now) ∧
  (∃ (s : State) (b : Fin 6), s.slotLive b = true ∧ (s.land b).powered = true) ∧
  (∃ (s : State) (b : Fin 6), s.slotPresent b = true ∧ s.clampBit (.land b.val 0x40) HS_CTRL_EN true = true) ∧
  (∃ (s : State) (b : Fin 6), s.slotLive b = true ∧ s.clampBit (.land b.val 0x40) HS_CTRL_EN false = false) ∧
  (∃ (s : State) (b : Fin 6) (m : SlotMeas), s.slotLive b = true ∧ (s.land b).st = hLatched ∧ voutMv m ≤ 2000 ∧
    s.dieHot = false) ∧
  (∃ (s : State) (b : Fin 6), s.slotPresent b = true ∧ (s.pl.slot b.val).imax < 2 ^ HS_LIMIT_ILIM.width) := ⟨
  ⟨(up 0), 0, by decide +kernel⟩,
  ⟨(ld 0 [(HS_STAT_STATE, hSeating), (HS_CTRL_EN, 1), (HS_STAT_SEAT1, 1), (HS_STAT_SEAT2, 1)] (fun l =>
    { l with seated := some 0 })), 0, ⟨1700, 0, 0, true⟩, by decide +kernel⟩,
  ⟨(ld 0 [(HS_STAT_STATE, hSeating), (HS_CTRL_EN, 1), (HS_STAT_SEAT1, 1), (HS_STAT_SEAT2, 1)] (fun l =>
    { l with seated := some 0 })), 0, ⟨1700, 0, 0, true⟩, by decide +kernel⟩,
  ⟨(ld 0 [(HS_STAT_STATE, hInrush)]), 0, ⟨2400, 2380, 0, true⟩, by decide +kernel⟩,
  ⟨(ld 0 [(HS_STAT_STATE, hGateUp)] (fun l => { l with goodAt := some 0 })), 0, ⟨2400, 2400, 0, true⟩, 0,
    by decide +kernel⟩,
  ⟨(ld 0 [(HS_STAT_STATE, hOn)]), 0, by decide +kernel⟩,
  ⟨(up 0), 0, by decide +kernel⟩,
  ⟨(ld 0 [(HS_CTRL_EN, 1), (HS_STAT_STATE, hOn)]), 0, by decide +kernel⟩,
  ⟨(ld 0 [(HS_STAT_STATE, hLatched)]), 0, ⟨2400, 100, 0, true⟩, by decide +kernel⟩,
  ⟨(up 0), 0, by decide +kernel⟩⟩

/-- States that meet the hypotheses of SlotFaults. -/
theorem witness_SlotFaults :
  (∃ (s : State) (b : Fin 6), s.slotLive b = true ∧ (s.land b).powered = true) ∧
  (∃ (s : State) (b : Fin 6), s.slotLive b = true ∧ (s.land b).st = hInrush ∧ 1000000 < vdsUv (s.land b).meas ∧
    (s.land b).entry + 1000 * (s.land b).fld HS_TIME_TINR ≤ s.now) ∧
  (∃ (s : State) (b : Fin 6), s.slotLive b = true ∧ (s.land b).powered = true) ∧
  (∃ (s : State) (b : Fin 6), s.slotLive b = true ∧ (s.land b).powered = true ∧ 400 * (s.land b).fld HS_TIME_TFLT ≤
    (s.land b).fltQ) ∧
  (∃ (s : State) (b : Fin 6) (m : SlotMeas) (x : Nat), s.slotLive b = true ∧ (s.land b).st = hOn ∧ (s.land b).fld
    HS_STAT_LIMIT = 0 ∧ 100 * voutMv m < 90 * vinMv m ∧ (s.land b).pgLow = some x ∧ x + 100 ≤ s.now ∧ (s.land b).shed
    = none) ∧
  (∃ (s : State) (b : Fin 6) (m : SlotMeas) (x : Nat), s.slotMay b = true ∧ (s.land b).fetState = true ∧ due s.now
    (s.land b).offAt (100000 * (s.land b).fld HS_RETRY_TDIS) = true ∧ 2000 < voutMv m ∧ (s.land b).hiAt = some x ∧ x +
    20000 ≤ s.now) ∧
  (∃ (s : State) (b : Fin 6), s.slotLive b = true ∧ (s.land b).st = hRetry ∧ due s.now (s.land b).retryAt (100000 *
    (s.land b).fld HS_RETRY_PER * (s.land b).retryK) = true ∧ (s.land b).seatedBoth = true ∧ s.modelHot (48 + b.val) =
    false) ∧
  (∃ (s : State) (b : Fin 6), s.slotLive b = true ∧ (s.land b).st = hOn ∧ (s.land b).attempt = true ∧ (s.land b).shed
    = none ∧ (s.land b).entry + 100000 ≤ s.now) ∧
  (∃ (s : State) (b : Fin 6), s.slotLive b = true ∧ (s.land b).st = hOn ∧ (s.land b).entry + 60000000 ≤ s.now) := ⟨
  ⟨(ld 0 [(HS_STAT_STATE, hOn), (HS_STAT_SEAT1, 1), (HS_STAT_SEAT2, 1)]), 0, by decide +kernel⟩,
  ⟨(ld 0 [(HS_STAT_STATE, hInrush), (HS_MEAS_VSLOTIN, 2400)]), 0, by decide +kernel⟩,
  ⟨(ld 0 [(HS_STAT_STATE, hOn)]), 0, by decide +kernel⟩,
  ⟨(ld 0 [(HS_STAT_STATE, hOn), (HS_TIME_TFLT, 10)] (fun l => { l with fltQ := 4000 })), 0, by decide +kernel⟩,
  ⟨(ld 0 [(HS_STAT_STATE, hOn)] (fun l => { l with pgLow := some 0 })), 0, ⟨2400, 2159, 0, true⟩, 0,
    by decide +kernel⟩,
  ⟨(ld 0 [(HS_STAT_STATE, hOff), (HS_CTRL_EN, 1)] (fun l => { l with offAt := some 0, hiAt := some 0 })), 0, ⟨2400,
    101, 0, true⟩, 0, by decide +kernel⟩,
  ⟨(ld 0 [(HS_STAT_STATE, hRetry), (HS_CTRL_EN, 1), (HS_STAT_SEAT1, 1), (HS_STAT_SEAT2, 1)] (fun l =>
    { l with retryAt := some 0, retryK := 1 })), 0, by decide +kernel⟩,
  ⟨(ld 0 [(HS_STAT_STATE, hOn)] (fun l => { l with attempt := true })), 0, by decide +kernel⟩,
  ⟨(ld 0 [(HS_STAT_STATE, hOn), (HS_STAT_COUNT, 3)]), 0, by decide +kernel⟩⟩

/-- States that meet the hypotheses of BatteryOperation. -/
theorem witness_BatteryOperation :
  (∃ (s : State) (m : PanMeas), s.panLive = true ∧ 20 * m.sys.toNat + s.fld ID_CFG_FWD_MV < 20 * m.vbat.toNat ∧ s.bit
    PAN_CTRL_EN = true ∧ s.bit CHG_STAT_PRES = true ∧ s.bit CHG_STAT_CUTOFF = false ∧ charging s.pst = false ∧
    s.modelState 55 ≠ 3 ∧ s.pantry.rev = false) ∧
  (∃ (s : State) (m : PanMeas), s.panLive = true ∧ 20 * m.vbat.toNat * 10000 + 46875 * s.fld PAN_THR_REV_EFF < 20 *
    m.sys.toNat * 10000) ∧
  (∃ (s : State) (m : PanMeas), s.panLive = true ∧ 20 * m.vbusIn.toNat < 52000 ∧ s.bit CHG_STAT_PRES = true ∧ s.bit
    CHG_STAT_CUTOFF = false) ∧
  (∃ (s : State), s.panLive = true ∧ s.bit PAN_CTRL_BM_AUTO = true ∧ s.bit CHG_STAT_BATT_ACTIVE = true ∧ due s.now
    s.pantry.batAt 1000 = true ∧ s.pantry.mode = none ∧ s.fld HALL_MODE_MODE = mNormal) ∧
  (∃ (s : State) (m : PanMeas), s.panLive = true ∧ s.bit CHG_STAT_BATT_ACTIVE = true ∧ s.bit CHG_STAT_QID_ON = false ∧
    54000 ≤ 20 * m.vbusIn.toNat ∧ due s.now s.pantry.retAt (1000000 * s.fld ID_CFG_BM_EXIT) = true) ∧
  (∃ (s : State) (m : PanMeas), s.panLive = true ∧ 54000 ≤ 20 * m.vbusIn.toNat) ∧
  (∃ (s : State) (mean : Nat), s.panLive = true ∧ s.bit CHG_STAT_BATT_ACTIVE = true ∧ mean ≤ s.panPlan.cells * s.fld
    BAT_VOLT_LOW_V) ∧
  (∃ (s : State) (mean : Nat), s.panLive = true ∧ s.bit CHG_STAT_BATT_ACTIVE = true ∧ mean ≤ s.cutLevel ∧
    s.pantry.cutLevel = s.cutLevel ∧ due s.now s.pantry.cutAt 5000000 = true ∧ s.bit CHG_STAT_CUTOFF = false) ∧
  (∃ (s : State) (present : Bool), s.panPresent = true ∧ s.bit CHG_STAT_PRES = !present) := ⟨
  ⟨(hl 0 [(PAN_CTRL_EN, 1), (CHG_STAT_PRES, 1)]), ⟨700, 600, 2700, 0, false⟩, by decide +kernel⟩,
  ⟨(hl 0 [(CHG_STAT_QID_ON, 1)]), ⟨600, 700, 2700, 0, false⟩, by decide +kernel⟩,
  ⟨(hl 0 [(CHG_STAT_PRES, 1)]), ⟨600, 600, 2599, 0, false⟩, by decide +kernel⟩,
  ⟨(hl 0 [(PAN_CTRL_BM_AUTO, 1), (CHG_STAT_BATT_ACTIVE, 1)] (fun s =>
    { s with pantry := { s.pantry with batAt := some 0 } })), by decide +kernel⟩,
  ⟨(hl 0 [(CHG_STAT_BATT_ACTIVE, 1)] (fun s => { s with pantry := { s.pantry with retAt := some 0 } })), ⟨600, 600,
    2700, 0, false⟩, by decide +kernel⟩,
  ⟨(hl 0 [(CHG_STAT_CUTOFF, 1)]), ⟨600, 600, 2700, 0, false⟩, by decide +kernel⟩,
  ⟨(hl 0 [(CHG_STAT_BATT_ACTIVE, 1), (BAT_VOLT_LOW_V, 1000)]), 10000, by decide +kernel⟩,
  ⟨(hl 0 [(CHG_STAT_BATT_ACTIVE, 1), (BAT_VOLT_CUT_V, 900)] (fun s =>
    { s with pantry := { s.pantry with cutAt := some 0, cutLevel := 9000 } })), 9000, by decide +kernel⟩,
  ⟨(up 0), true, by decide +kernel⟩⟩

/-- States that meet the hypotheses of Charger. -/
theorem witness_Charger :
  (∃ (s : State), s.panLive = true ∧ s.pst = pWaitPres ∧ s.bit CHG_STAT_PRES = true ∧ s.pantry.presAt + 2000000 ≤
    s.now) ∧
  (∃ (s : State) (mean : Nat), s.panLive = true ∧ s.pst = pQualify ∧ s.pantry.qStep = 3 ∧ s.panPlan.cells * 800 ≤ mean
    ∧ mean ≤ s.panPlan.cells * 1600) ∧
  (∃ (s : State) (m : PanMeas), s.panLive = true ∧ s.pst = pPrecharge ∧ s.panPlan.cells * 1000 ≤ 20 * m.vbat.toNat ∧
    due s.now s.pantry.preOk 10000000 = true) ∧
  (∃ (s : State), s.panLive = true ∧ s.pst = pPrecharge ∧ 1800000000 ≤ s.pantry.preUs ∧ due s.now s.pantry.preOk
    10000000 = false) ∧
  (∃ (s : State) (mean : Nat), s.panLive = true ∧ s.heldOff = true ∧ 1 ≤ s.pantry.ndvRow ∧ mean + s.panPlan.cells *
    s.fld CHG_TERM_NDV ≤ s.pantry.peak ∧ s.fld PAN_CTRL_TERM_SEL ≠ 2) ∧
  (∃ (s : State) (mean t6 : Int), s.panLive = true ∧ s.heldOff = true ∧ 2 ≤ s.pantry.dtRow ∧ s.pantry.temps[5]? = some
    t6 ∧ 10 * (s.fld CHG_TERM_DTDT : Int) ≤ mean - t6 ∧ s.fld PAN_CTRL_TERM_SEL ≠ 1) ∧
  (∃ (s : State), s.panLive = true ∧ s.pst = pFast ∧ 60000000 * s.fld CHG_TERM_TSAFE ≤ s.pantry.fastUs) ∧
  (∃ (s : State) (uv : Nat) (c : Int), s.panPresent = true ∧ s.hallKeeper = false ∧ ntcTemp (s.fld NTC_CFG_BETA)
    (s.fld NTC_CFG_R25) uv = some c) ∧
  (∃ (s : State), s.panLive = true ∧ charging s.pst = true ∧ s.bit CHG_STAT_BATT_ACTIVE = true ∧ s.pantry.ask.isSome =
    true) ∧
  (∃ (s : State), s.panLive = true ∧ s.pst = pPause ∧ s.fld CHG_STAT_PAUSE_CAUSE = 1 ∧ s.pantry.askAt + 10000000 ≤
    s.now) ∧
  (∃ (s : State) (w : Nat), s.panLive = true ∧ s.pantry.ask = some w) ∧
  (∃ (s : State), s.panLive = true) ∧
  (∃ (s : State), s.panLive = true ∧ s.bit CHG_STAT_PRES = true ∧ due s.now s.pantry.povAt 10000 = true ∧ s.pst ≠
    pFault) ∧
  (∃ (s : State), s.panLive = true ∧ s.pantry.pwm ≠ 2) ∧
  (∃ (s : State), s.panLive = true) ∧
  (∃ (s : State), s.panLive = true ∧ s.pst = pTrickle) ∧
  (∃ (s : State) (m : PanMeas), s.panLive = true ∧ s.pst = pFault ∧ s.pantry.ntcBad ≠ 3 ∧ 20 * m.vbat.toNat ≤ 80 *
    s.fld PAN_THR_OV_EFF) ∧
  (∃ (s : State), s.panPresent = true) ∧
  (∃ (s : State), s.clocked = true) := ⟨
  ⟨(hl 0 [(CHG_STAT_STATE, pWaitPres), (CHG_STAT_PRES, 1)]), by decide +kernel⟩,
  ⟨(hl 0 [(CHG_STAT_STATE, pQualify)] (fun s => { s with pantry := { s.pantry with qStep := 3 } })), 16000,
    by decide +kernel⟩,
  ⟨(hl 0 [(CHG_STAT_STATE, pPrecharge)] (fun s => { s with pantry := { s.pantry with preOk := some 0 } })), ⟨500, 600,
    2700, 0, false⟩, by decide +kernel⟩,
  ⟨(hl 0 [(CHG_STAT_STATE, pPrecharge)] (fun s => { s with pantry := { s.pantry with preUs := 1800000000 } })),
    by decide +kernel⟩,
  ⟨(hl 0 [(CHG_STAT_STATE, pFast)] (fun s =>
    { s with pantry := { s.pantry with ndvRow := 1, peak := 20000, fastUs := 10000000000 } })), 15000,
    by decide +kernel⟩,
  ⟨(hl 0 [(CHG_STAT_STATE, pFast)] (fun s =>
    { s with pantry := { s.pantry with dtRow := 2, temps := [0, 0, 0, 0, 0, 200], fastUs := 10000000000 } })), 500,
    200, by decide +kernel⟩,
  ⟨(hl 0 [(CHG_STAT_STATE, pFast)] (fun s => { s with pantry := { s.pantry with fastUs := 100000000000 } })),
    by decide +kernel⟩,
  ⟨(hl 1 [(NTC_CFG_BETA, 3435), (NTC_CFG_R25, 100), (PAIR_STAT_PEER_HELD, 3)]), 600000, 250, by decide +kernel⟩,
  ⟨(hl 0 [(CHG_STAT_STATE, pFast), (CHG_STAT_BATT_ACTIVE, 1)] (fun s =>
    { s with pantry := { s.pantry with ask := some 100 } })), by decide +kernel⟩,
  ⟨(hl 0 [(CHG_STAT_STATE, pPause), (CHG_STAT_PAUSE_CAUSE, 1)]), by decide +kernel⟩,
  ⟨(hl 0 [] (fun s => { s with pantry := { s.pantry with ask := some 100 } })), 100, by decide +kernel⟩,
  ⟨(up 0), by decide +kernel⟩,
  ⟨(hl 0 [(CHG_STAT_PRES, 1)] (fun s => { s with pantry := { s.pantry with povAt := some 0 } })), by decide +kernel⟩,
  ⟨(hl 0 [] (fun s => { s with pantry := { s.pantry with pwm := 1 } })), by decide +kernel⟩,
  ⟨(up 0), by decide +kernel⟩,
  ⟨(hl 0 [(CHG_STAT_STATE, pTrickle)]), by decide +kernel⟩,
  ⟨(hl 0 [(CHG_STAT_STATE, pFault), (PAN_THR_OV_EFF, 255)]), ⟨600, 600, 2700, 0, false⟩, by decide +kernel⟩,
  ⟨(up 0), by decide +kernel⟩,
  ⟨(hl 0 [(LAMP_A_MODE, 1)]), by decide +kernel⟩⟩

/-- States that meet the hypotheses of GlobalMode. -/
theorem witness_GlobalMode :
  (∃ (s : State) (m : Nat), s.booted = true ∧ s.hallKeeper = true ∧ m < 5 ∧ s.bit FIRE_CFG_EN = false ∧ s.clampField
    (.hall 0x040) HALL_MODE_MODE m = m) ∧
  (∃ (s : State) (p : Fin 48), s.live p = true ∧ (s.room p).epoch ≠ s.fld HALL_MODE_EPOCH ∧ (s.room p).safePoint =
    true) ∧
  (∃ (s : State) (p : Fin 48), s.live p = true ∧ s.bit HALL_MODE_PENDING = true ∧ s.mode.since + 50000 ≤ s.now ∧
    (s.room p).epoch ≠ s.fld HALL_MODE_EPOCH) ∧
  (∃ (s : State), s.booted = true ∧ s.bit FIRE_CFG_EN = true) ∧
  (∃ (s : State), s.booted = true ∧ s.bit FIRE_CFG_FIRE_IN = true) := ⟨
  ⟨(hl 0 [(FIRE_CFG_EN, 0)]), 4, by decide +kernel⟩,
  ⟨(hl 0 [(HALL_MODE_EPOCH, 7)]), 0, by decide +kernel⟩,
  ⟨(hl 0 [(HALL_MODE_EPOCH, 7), (HALL_MODE_PENDING, 1)]), 0, by decide +kernel⟩,
  ⟨(hl 0 [(FIRE_CFG_EN, 1)]), by decide +kernel⟩,
  ⟨(hl 0 [(FIRE_CFG_FIRE_IN, 1)]), by decide +kernel⟩⟩

/-- States that meet the hypotheses of ThermalModels. -/
theorem witness_ThermalModels :
  (∃ (s : State) (r : ModelRec), s.booted = true ∧ s.plan.isSome = true ∧ s.modelRec 0 = some r ∧ s.holdsModel 0 =
    true ∧ 0 < s.hearth.models.length) ∧
  (∃ (s : State) (m : Fin 57) (r : ModelRec), s.booted = true ∧ s.holdsModel m.val = true ∧ (s.model m.val).st = 1 ∧
    due s.now (s.model m.val).warnAt (s.graceOf m.val) = true ∧ s.modelRec m.val = some r ∧ 100 * r.twarn ≤ (s.model
    m.val).tj ∧ (s.model m.val).tj < 100 * r.ttrip ∧ m.val < s.hearth.models.length) ∧
  (∃ (s : State) (m : Fin 57) (r : ModelRec), s.booted = true ∧ s.holdsModel m.val = true ∧ (s.model m.val).st = 2 ∧
    old s.now (s.model m.val).ithAt 100000 = true ∧ s.modelRec m.val = some r ∧ m.val < s.hearth.models.length) ∧
  (∃ (s : State) (m : Fin 57), s.booted = true ∧ s.holdsModel m.val = true ∧ m.val ≠ 56 ∧ (s.model m.val).st = 2 ∧
    s.released m.val = true ∧ due s.now (s.model m.val).relAt 1000000 = true ∧ m.val < s.hearth.models.length) ∧
  (∃ (s : State) (r : ModelRec), s.modelRec 56 = some r) ∧
  (∃ (s : State) (r : ModelRec), s.modelRec 56 = some r) ∧
  (∃ (s : State), s.booted = true ∧ (s.model 56).st ≠ 0 ∧ due s.now (s.model 56).coolAt 1000000 = true ∧ 56 <
    s.hearth.models.length) ∧
  (∃ (s : State) (a b : Nat), s.booted = true ∧ 100 ≤ a ∧ a ≤ 1750 ∧ 100 ≤ b ∧ b ≤ 1750 ∧ s.hearth.tamb.length = 2) ∧
  (∃ (s : State) (b : Fin 6), s.slotLive b = true ∧ (s.land b).st = hOn) := ⟨
  ⟨(up 0), ⟨0, 0, [100, 100, 100], [100, 100, 100], 10, 0, 900, 1000⟩, by decide +kernel⟩,
  ⟨(hl 0 [] (fun s =>
    { s with hearth := { s.hearth with models := setAt s.hearth.models 0 { s.model 0 with st := 1, warnAt := some 0, tj := 90000 } } })),
    0, ⟨0, 0, [100, 100, 100], [100, 100, 100], 10, 0, 900, 1000⟩, by decide +kernel⟩,
  ⟨(hl 0 [] (fun s =>
    { s with hearth := { s.hearth with models := setAt s.hearth.models 0 { s.model 0 with st := 2, ithAt := 0 } } })),
    0, ⟨0, 0, [100, 100, 100], [100, 100, 100], 10, 0, 900, 1000⟩, by decide +kernel⟩,
  ⟨(hl 0 [] (fun s =>
    { s with hearth := { s.hearth with models := setAt s.hearth.models 0 { s.model 0 with st := 2, ith := 8190, relAt := some 0 } } })),
    0, by decide +kernel⟩,
  ⟨(up 0), ((up 0).modelRec 56).getD ⟨56, 0, [100, 100, 100], [100, 100, 100], 10, 0, 900, 1000⟩, by decide +kernel⟩,
  ⟨(up 0), ((up 0).modelRec 56).getD ⟨56, 0, [100, 100, 100], [100, 100, 100], 10, 0, 900, 1000⟩, by decide +kernel⟩,
  ⟨(hl 0 [] (fun s =>
    { s with hearth := { s.hearth with models := setAt s.hearth.models 56 { s.model 56 with st := 1, coolAt := some 0 } } })),
    by decide +kernel⟩,
  ⟨(up 0), 100, 1750, by decide +kernel⟩,
  ⟨(ld 0 [(HS_STAT_STATE, hOn)]), 0, by decide +kernel⟩⟩

/-- States that meet the hypotheses of TimeAndCaptures. -/
theorem witness_TimeAndCaptures :
  (∃ (s : State), s.clocked = true ∧ s.clk.loadDue = false ∧ (s.link 0).rx = [] ∧ (s.link 1).rx = []) ∧
  (∃ (s : State), s.clocked = true ∧ s.clk.loadDue = true ∧ (s.link 0).rx = [] ∧ (s.link 1).rx = []) ∧
  (∃ (s : State), s.booted = true ∧ s.scheduled = false ∧ s.pairMode = false) ∧
  (∃ (s : State) (p : Fin 48) (n : Fin 8), s.live p = true ∧ tmrDue (.room p) s.tb (s.room p).regs n.val = true) ∧
  (∃ (s : State) (p : Fin 48) (n : Fin 8), s.whole p = true ∧ s.range (.roomReg p.val (0x300 + 16 * n.val))
    (TmrBlock.f (.room p) TMR_CTRL_EN n.val) = none) ∧
  (∃ (s : State) (p : Fin 48) (n : Fin 8), s.whole p = true ∧ s.range (.roomReg p.val (0x304 + 16 * n.val))
    (TmrBlock.f (.room p) TMR_CMP_VALUE n.val) = none) ∧
  (∃ (s : State) (p : Fin 48) (n : Fin 8), s.whole p = true ∧ (s.room p).fld (TmrBlock.f (.room p) TMR_CTRL_SRC n.val)
    ≠ 0 ∧ s.range (.roomReg p.val (0x308 + 16 * n.val)) (TmrBlock.f (.room p) TMR_CNT_VALUE n.val) = none) ∧
  (∃ (s : State) (p : Fin 48), s.live p = true) ∧
  (∃ (s : State), s.clocked = true ∧ s.bit SNAP_CTRL_DRIVE = false ∧ s.snapBars = false ∧ s.snap.cap = none) ∧
  (∃ (s : State), s.clocked = true ∧ s.snapIoLow = false ∧ s.bit SNAP_CTRL_IN_EN = true ∧ s.snapBars = false ∧
    s.snap.cap = none) ∧
  (∃ (s : State), s.clocked = true ∧ due s.now s.snap.drive 1 = true) ∧
  (∃ (s : State), s.clocked = true ∧ s.snap.cap = some 1) := ⟨
  ⟨(up 0), by decide +kernel⟩,
  ⟨(hl 0 [] (fun s => { s with clk := { s.clk with loadDue := true } })), by decide +kernel⟩,
  ⟨(up 0), by decide +kernel⟩,
  ⟨(rm 0 [((TmrBlock.f (.room 0) TMR_CTRL_EN 7), 1)]), 0, 7, by decide +kernel⟩,
  ⟨(up 0), 0, 7, by decide +kernel⟩,
  ⟨(up 0), 0, 7, by decide +kernel⟩,
  ⟨(rm 0 [((TmrBlock.f (.room 0) TMR_CTRL_SRC 7), 1)]), 0, 7, by decide +kernel⟩,
  ⟨(rm 0 [(ADC_VBUS_AVG, 1000), (ADC_I_AVG, 100)]), 0, by decide +kernel⟩,
  ⟨(up 0), by decide +kernel⟩,
  ⟨(hl 0 [(SNAP_CTRL_IN_EN, 1)]), by decide +kernel⟩,
  ⟨(hl 0 [] (fun s => { s with snap := { s.snap with drive := some 0 } })), by decide +kernel⟩,
  ⟨(hl 0 [] (fun s => { s with snap := { s.snap with cap := some 1 } })), by decide +kernel⟩⟩

/-- States that meet the hypotheses of ArithmeticInstructions. -/
theorem witness_ArithmeticInstructions :
  (∃ (s : State) (c : CoreId), s.seqReady c = true) ∧
  (∃ (s : State) (c : CoreId), s.seqReady c = true) ∧
  (∃ (s : State) (c : CoreId), s.seqReady c = true) ∧
  (∃ (s : State) (c : CoreId), s.seqReady c = true) ∧
  (∃ (s : State) (c : CoreId), s.seqReady c = true) ∧
  (∃ (s : State) (c : CoreId), s.seqReady c = true) ∧
  (∃ (s : State) (c : CoreId), s.seqReady c = true) ∧
  (∃ (s : State) (c : CoreId), s.seqReady c = true) ∧
  (∃ (s : State) (c : CoreId), s.seqReady c = true) ∧
  (∃ (s : State) (c : CoreId), s.seqReady c = true) ∧
  (∃ (s : State) (c : CoreId), s.seqReady c = true) ∧
  (∃ (s : State) (c : CoreId), s.seqReady c = true) ∧
  (∃ (s : State) (c : CoreId), s.seqReady c = true) ∧
  (∃ (s : State) (c : CoreId), s.seqReady c = true) ∧
  (∃ (s : State) (c : CoreId), s.seqReady c = true) ∧
  (∃ (s : State) (c : CoreId) (z : BitVec 14), s.seqReady c = true ∧ z ≠ 0 ∧ (s.core c).inEvt = false) := ⟨
  ⟨(rm 0 [] (fun r =>
    { r with core := { (r).core with state := 1, g := [1, 2, 0xFFFFFFFF, 0x80000000, 5, 6, 7, 8, 9, 10, 11, 12, 13, 14, 15, 16], pc := 0x20010 } })),
    (.room 0), by decide +kernel⟩,
  ⟨(rm 0 [] (fun r =>
    { r with core := { (r).core with state := 1, g := [1, 2, 0xFFFFFFFF, 0x80000000, 5, 6, 7, 8, 9, 10, 11, 12, 13, 14, 15, 16], pc := 0x20010 } })),
    (.room 0), by decide +kernel⟩,
  ⟨(rm 0 [] (fun r =>
    { r with core := { (r).core with state := 1, g := [1, 2, 0xFFFFFFFF, 0x80000000, 5, 6, 7, 8, 9, 10, 11, 12, 13, 14, 15, 16], pc := 0x20010 } })),
    (.room 0), by decide +kernel⟩,
  ⟨(rm 0 [] (fun r =>
    { r with core := { (r).core with state := 1, g := [1, 2, 0xFFFFFFFF, 0x80000000, 5, 6, 7, 8, 9, 10, 11, 12, 13, 14, 15, 16], pc := 0x20010 } })),
    (.room 0), by decide +kernel⟩,
  ⟨(rm 0 [] (fun r =>
    { r with core := { (r).core with state := 1, g := [1, 2, 0xFFFFFFFF, 0x80000000, 5, 6, 7, 8, 9, 10, 11, 12, 13, 14, 15, 16], pc := 0x20010 } })),
    (.room 0), by decide +kernel⟩,
  ⟨(rm 0 [] (fun r =>
    { r with core := { (r).core with state := 1, g := [1, 2, 0xFFFFFFFF, 0x80000000, 5, 6, 7, 8, 9, 10, 11, 12, 13, 14, 15, 16], pc := 0x20010 } })),
    (.room 0), by decide +kernel⟩,
  ⟨(rm 0 [] (fun r =>
    { r with core := { (r).core with state := 1, g := [1, 2, 0xFFFFFFFF, 0x80000000, 5, 6, 7, 8, 9, 10, 11, 12, 13, 14, 15, 16], pc := 0x20010 } })),
    (.room 0), by decide +kernel⟩,
  ⟨(rm 0 [] (fun r =>
    { r with core := { (r).core with state := 1, g := [1, 2, 0xFFFFFFFF, 0x80000000, 5, 6, 7, 8, 9, 10, 11, 12, 13, 14, 15, 16], pc := 0x20010 } })),
    (.room 0), by decide +kernel⟩,
  ⟨(rm 0 [] (fun r =>
    { r with core := { (r).core with state := 1, g := [1, 2, 0xFFFFFFFF, 0x80000000, 5, 6, 7, 8, 9, 10, 11, 12, 13, 14, 15, 16], pc := 0x20010 } })),
    (.room 0), by decide +kernel⟩,
  ⟨(rm 0 [] (fun r =>
    { r with core := { (r).core with state := 1, g := [1, 2, 0xFFFFFFFF, 0x80000000, 5, 6, 7, 8, 9, 10, 11, 12, 13, 14, 15, 16], pc := 0x20010 } })),
    (.room 0), by decide +kernel⟩,
  ⟨(rm 0 [] (fun r =>
    { r with core := { (r).core with state := 1, g := [1, 2, 0xFFFFFFFF, 0x80000000, 5, 6, 7, 8, 9, 10, 11, 12, 13, 14, 15, 16], pc := 0x20010 } })),
    (.room 0), by decide +kernel⟩,
  ⟨(rm 0 [] (fun r =>
    { r with core := { (r).core with state := 1, g := [1, 2, 0xFFFFFFFF, 0x80000000, 5, 6, 7, 8, 9, 10, 11, 12, 13, 14, 15, 16], pc := 0x20010 } })),
    (.room 0), by decide +kernel⟩,
  ⟨(rm 0 [] (fun r =>
    { r with core := { (r).core with state := 1, g := [1, 2, 0xFFFFFFFF, 0x80000000, 5, 6, 7, 8, 9, 10, 11, 12, 13, 14, 15, 16], pc := 0x20010 } })),
    (.room 0), by decide +kernel⟩,
  ⟨(rm 0 [] (fun r =>
    { r with core := { (r).core with state := 1, g := [1, 2, 0xFFFFFFFF, 0x80000000, 5, 6, 7, 8, 9, 10, 11, 12, 13, 14, 15, 16], pc := 0x20010 } })),
    (.room 0), by decide +kernel⟩,
  ⟨(rm 0 [] (fun r =>
    { r with core := { (r).core with state := 1, g := [1, 2, 0xFFFFFFFF, 0x80000000, 5, 6, 7, 8, 9, 10, 11, 12, 13, 14, 15, 16], pc := 0x20010 } })),
    (.room 0), by decide +kernel⟩,
  ⟨(rm 0 [] (fun r =>
    { r with core := { (r).core with state := 1, g := [1, 2, 0xFFFFFFFF, 0x80000000, 5, 6, 7, 8, 9, 10, 11, 12, 13, 14, 15, 16], pc := 0x20010 } })),
    (.room 0), 5, by decide +kernel⟩⟩

/-- States that meet the hypotheses of CompareInstructions. -/
theorem witness_CompareInstructions :
  (∃ (s : State) (c : CoreId), s.seqReady c = true) ∧
  (∃ (s : State) (c : CoreId), s.seqReady c = true) ∧
  (∃ (s : State) (c : CoreId), s.seqReady c = true) ∧
  (∃ (s : State) (c : CoreId), s.seqReady c = true) ∧
  (∃ (s : State) (c : CoreId), s.seqReady c = true) ∧
  (∃ (s : State) (c : CoreId), s.seqReady c = true) ∧
  (∃ (s : State) (c : CoreId), s.seqReady c = true) ∧
  (∃ (s : State) (c : CoreId), s.seqReady c = true) ∧
  (∃ (s : State) (c : CoreId), s.seqReady c = true) ∧
  (∃ (s : State) (c : CoreId), s.seqReady c = true) ∧
  (∃ (s : State) (c : CoreId), s.seqReady c = true) ∧
  (∃ (s : State) (c : CoreId), s.seqReady c = true) := ⟨
  ⟨(rm 0 [] (fun r =>
    { r with core := { (r).core with state := 1, g := [1, 2, 0xFFFFFFFF, 0x80000000, 5, 6, 7, 8, 9, 10, 11, 12, 13, 14, 15, 16], pc := 0x20010 } })),
    (.room 0), by decide +kernel⟩,
  ⟨(rm 0 [] (fun r =>
    { r with core := { (r).core with state := 1, g := [1, 2, 0xFFFFFFFF, 0x80000000, 5, 6, 7, 8, 9, 10, 11, 12, 13, 14, 15, 16], pc := 0x20010 } })),
    (.room 0), by decide +kernel⟩,
  ⟨(rm 0 [] (fun r =>
    { r with core := { (r).core with state := 1, g := [1, 2, 0xFFFFFFFF, 0x80000000, 5, 6, 7, 8, 9, 10, 11, 12, 13, 14, 15, 16], pc := 0x20010 } })),
    (.room 0), by decide +kernel⟩,
  ⟨(rm 0 [] (fun r =>
    { r with core := { (r).core with state := 1, g := [1, 2, 0xFFFFFFFF, 0x80000000, 5, 6, 7, 8, 9, 10, 11, 12, 13, 14, 15, 16], pc := 0x20010 } })),
    (.room 0), by decide +kernel⟩,
  ⟨(rm 0 [] (fun r =>
    { r with core := { (r).core with state := 1, g := [1, 2, 0xFFFFFFFF, 0x80000000, 5, 6, 7, 8, 9, 10, 11, 12, 13, 14, 15, 16], pc := 0x20010 } })),
    (.room 0), by decide +kernel⟩,
  ⟨(rm 0 [] (fun r =>
    { r with core := { (r).core with state := 1, g := [1, 2, 0xFFFFFFFF, 0x80000000, 5, 6, 7, 8, 9, 10, 11, 12, 13, 14, 15, 16], pc := 0x20010 } })),
    (.room 0), by decide +kernel⟩,
  ⟨(rm 0 [] (fun r =>
    { r with core := { (r).core with state := 1, g := [1, 2, 0xFFFFFFFF, 0x80000000, 5, 6, 7, 8, 9, 10, 11, 12, 13, 14, 15, 16], pc := 0x20010 } })),
    (.room 0), by decide +kernel⟩,
  ⟨(rm 0 [] (fun r =>
    { r with core := { (r).core with state := 1, g := [1, 2, 0xFFFFFFFF, 0x80000000, 5, 6, 7, 8, 9, 10, 11, 12, 13, 14, 15, 16], pc := 0x20010 } })),
    (.room 0), by decide +kernel⟩,
  ⟨(rm 0 [] (fun r =>
    { r with core := { (r).core with state := 1, g := [1, 2, 0xFFFFFFFF, 0x80000000, 5, 6, 7, 8, 9, 10, 11, 12, 13, 14, 15, 16], pc := 0x20010 } })),
    (.room 0), by decide +kernel⟩,
  ⟨(rm 0 [] (fun r =>
    { r with core := { (r).core with state := 1, g := [1, 2, 0xFFFFFFFF, 0x80000000, 5, 6, 7, 8, 9, 10, 11, 12, 13, 14, 15, 16], pc := 0x20010 } })),
    (.room 0), by decide +kernel⟩,
  ⟨(rm 0 [] (fun r =>
    { r with core := { (r).core with state := 1, g := [1, 2, 0xFFFFFFFF, 0x80000000, 5, 6, 7, 8, 9, 10, 11, 12, 13, 14, 15, 16], pc := 0x20010 } })),
    (.room 0), by decide +kernel⟩,
  ⟨(rm 0 [] (fun r =>
    { r with core := { (r).core with state := 1, g := [1, 2, 0xFFFFFFFF, 0x80000000, 5, 6, 7, 8, 9, 10, 11, 12, 13, 14, 15, 16], pc := 0x20010 } })),
    (.room 0), by decide +kernel⟩⟩

/-- States that meet the hypotheses of ImmediateInstructions. -/
theorem witness_ImmediateInstructions :
  (∃ (s : State) (c : CoreId), s.seqReady c = true) ∧
  (∃ (s : State) (c : CoreId), s.seqReady c = true) ∧
  (∃ (s : State) (c : CoreId), s.seqReady c = true) ∧
  (∃ (s : State) (c : CoreId), s.seqReady c = true) ∧
  (∃ (s : State) (c : CoreId) (imm : BitVec 18), s.seqReady c = true ∧ imm.toNat < 32) ∧
  (∃ (s : State) (c : CoreId) (imm : BitVec 18), s.seqReady c = true ∧ imm.toNat < 32) ∧
  (∃ (s : State) (c : CoreId) (imm : BitVec 18), s.seqReady c = true ∧ imm.toNat < 32) ∧
  (∃ (s : State) (c : CoreId), s.seqReady c = true) := ⟨
  ⟨(rm 0 [] (fun r =>
    { r with core := { (r).core with state := 1, g := [1, 2, 0xFFFFFFFF, 0x80000000, 5, 6, 7, 8, 9, 10, 11, 12, 13, 14, 15, 16], pc := 0x20010 } })),
    (.room 0), by decide +kernel⟩,
  ⟨(rm 0 [] (fun r =>
    { r with core := { (r).core with state := 1, g := [1, 2, 0xFFFFFFFF, 0x80000000, 5, 6, 7, 8, 9, 10, 11, 12, 13, 14, 15, 16], pc := 0x20010 } })),
    (.room 0), by decide +kernel⟩,
  ⟨(rm 0 [] (fun r =>
    { r with core := { (r).core with state := 1, g := [1, 2, 0xFFFFFFFF, 0x80000000, 5, 6, 7, 8, 9, 10, 11, 12, 13, 14, 15, 16], pc := 0x20010 } })),
    (.room 0), by decide +kernel⟩,
  ⟨(rm 0 [] (fun r =>
    { r with core := { (r).core with state := 1, g := [1, 2, 0xFFFFFFFF, 0x80000000, 5, 6, 7, 8, 9, 10, 11, 12, 13, 14, 15, 16], pc := 0x20010 } })),
    (.room 0), by decide +kernel⟩,
  ⟨(rm 0 [] (fun r =>
    { r with core := { (r).core with state := 1, g := [1, 2, 0xFFFFFFFF, 0x80000000, 5, 6, 7, 8, 9, 10, 11, 12, 13, 14, 15, 16], pc := 0x20010 } })),
    (.room 0), 31, by decide +kernel⟩,
  ⟨(rm 0 [] (fun r =>
    { r with core := { (r).core with state := 1, g := [1, 2, 0xFFFFFFFF, 0x80000000, 5, 6, 7, 8, 9, 10, 11, 12, 13, 14, 15, 16], pc := 0x20010 } })),
    (.room 0), 31, by decide +kernel⟩,
  ⟨(rm 0 [] (fun r =>
    { r with core := { (r).core with state := 1, g := [1, 2, 0xFFFFFFFF, 0x80000000, 5, 6, 7, 8, 9, 10, 11, 12, 13, 14, 15, 16], pc := 0x20010 } })),
    (.room 0), 31, by decide +kernel⟩,
  ⟨(rm 0 [] (fun r =>
    { r with core := { (r).core with state := 1, g := [1, 2, 0xFFFFFFFF, 0x80000000, 5, 6, 7, 8, 9, 10, 11, 12, 13, 14, 15, 16], pc := 0x20010 } })),
    (.room 0), by decide +kernel⟩⟩

/-- States that meet the hypotheses of JumpInstructions. -/
theorem witness_JumpInstructions :
  (∃ (s : State) (c : CoreId) (ra : Fin 16), s.seqReady c = true ∧ s.rg c ra = 0) ∧
  (∃ (s : State) (c : CoreId) (ra : Fin 16), s.seqReady c = true ∧ s.rg c ra ≠ 0) ∧
  (∃ (s : State) (c : CoreId) (ra : Fin 16), s.seqReady c = true ∧ s.rg c ra ≠ 0) ∧
  (∃ (s : State) (c : CoreId) (ra : Fin 16), s.seqReady c = true ∧ s.rg c ra = 0) ∧
  (∃ (s : State) (c : CoreId), s.seqReady c = true) ∧
  (∃ (s : State) (c : CoreId) (ra : Fin 16) (imm : BitVec 18), s.seqReady c = true ∧ (s.rg c ra + sx18 imm).toNat % 4
    = 0) ∧
  (∃ (s : State) (c : CoreId) (ra : Fin 16) (imm : BitVec 18), s.seqReady c = true ∧ (s.rg c ra + sx18 imm).toNat % 4
    ≠ 0 ∧ (s.core c).inEvt = false) := ⟨
  ⟨(rm 0 [] (fun r =>
    { r with core := { (r).core with state := 1, g := [0, 2, 0xFFFFFFFF, 0x80000000, 5, 6, 7, 8, 9, 10, 11, 12, 13, 14, 15, 16], pc := 0x20010 } })),
    (.room 0), 0, by decide +kernel⟩,
  ⟨(rm 0 [] (fun r =>
    { r with core := { (r).core with state := 1, g := [1, 2, 0xFFFFFFFF, 0x80000000, 5, 6, 7, 8, 9, 10, 11, 12, 13, 14, 15, 16], pc := 0x20010 } })),
    (.room 0), 2, by decide +kernel⟩,
  ⟨(rm 0 [] (fun r =>
    { r with core := { (r).core with state := 1, g := [1, 2, 0xFFFFFFFF, 0x80000000, 5, 6, 7, 8, 9, 10, 11, 12, 13, 14, 15, 16], pc := 0x20010 } })),
    (.room 0), 2, by decide +kernel⟩,
  ⟨(rm 0 [] (fun r =>
    { r with core := { (r).core with state := 1, g := [0, 2, 0xFFFFFFFF, 0x80000000, 5, 6, 7, 8, 9, 10, 11, 12, 13, 14, 15, 16], pc := 0x20010 } })),
    (.room 0), 0, by decide +kernel⟩,
  ⟨(rm 0 [] (fun r =>
    { r with core := { (r).core with state := 1, g := [1, 2, 0xFFFFFFFF, 0x80000000, 5, 6, 7, 8, 9, 10, 11, 12, 13, 14, 15, 16], pc := 0x20010 } })),
    (.room 0), by decide +kernel⟩,
  ⟨(rm 0 [] (fun r =>
    { r with core := { (r).core with state := 1, g := [1, 2, 0xFFFFFFFF, 0x80000000, 5, 6, 7, 8, 9, 10, 11, 12, 13, 14, 15, 16], pc := 0x20010 } })),
    (.room 0), 0, 0x3FFFC, by decide +kernel⟩,
  ⟨(rm 0 [] (fun r =>
    { r with core := { (r).core with state := 1, g := [1, 2, 0xFFFFFFFF, 0x80000000, 5, 6, 7, 8, 9, 10, 11, 12, 13, 14, 15, 16], pc := 0x20010 } })),
    (.room 0), 0, 1, by decide +kernel⟩⟩

/-- States that meet the hypotheses of RoomLoadsAndStores. -/
theorem witness_RoomLoadsAndStores :
  (∃ (s : State) (p : Fin 48) (ra : Fin 16) (imm : BitVec 18) (a : Nat), s.seqReady (.room p) = true ∧ (s.rg (.room p)
    ra + sx18 imm).toNat = 0x10000 + a ∧ a < 0x1000) ∧
  (∃ (s : State) (p : Fin 48) (ra : Fin 16) (imm : BitVec 18) (a : Nat), s.seqReady (.room p) = true ∧ (s.rg (.room p)
    ra + sx18 imm).toNat = 0x10000 + a ∧ a < 0x1000) ∧
  (∃ (s : State) (p : Fin 48) (ra : Fin 16) (imm : BitVec 18) (a : Nat), s.seqReady (.room p) = true ∧ (s.rg (.room p)
    ra + sx18 imm).toNat = 0x10000 + a ∧ a < 0x1000 ∧ a % 2 = 0) ∧
  (∃ (s : State) (p : Fin 48) (ra : Fin 16) (imm : BitVec 18) (a : Nat), s.seqReady (.room p) = true ∧ (s.rg (.room p)
    ra + sx18 imm).toNat = 0x10000 + a ∧ a < 0x1000 ∧ a % 2 = 0) ∧
  (∃ (s : State) (p : Fin 48) (ra : Fin 16) (imm : BitVec 18) (a : Nat), s.seqReady (.room p) = true ∧ (s.rg (.room p)
    ra + sx18 imm).toNat = 0x10000 + a ∧ a < 0x1000 ∧ a % 4 = 0) ∧
  (∃ (s : State) (p : Fin 48) (ra : Fin 16) (imm : BitVec 18) (a : Nat), s.seqReady (.room p) = true ∧ (s.rg (.room p)
    ra + sx18 imm).toNat = 0x10000 + a ∧ a < 0x1000) ∧
  (∃ (s : State) (p : Fin 48) (ra : Fin 16) (imm : BitVec 18) (a : Nat), s.seqReady (.room p) = true ∧ (s.rg (.room p)
    ra + sx18 imm).toNat = 0x10000 + a ∧ a < 0x1000 ∧ a % 2 = 0) ∧
  (∃ (s : State) (p : Fin 48) (ra : Fin 16) (imm : BitVec 18) (a : Nat), s.seqReady (.room p) = true ∧ (s.rg (.room p)
    ra + sx18 imm).toNat = 0x10000 + a ∧ a < 0x1000 ∧ a % 4 = 0) ∧
  (∃ (s : State) (p : Fin 48) (ra : Fin 16) (imm : BitVec 18) (a : Nat), s.seqReady (.room p) = true ∧ (s.rg (.room p)
    ra + sx18 imm).toNat = 0x10000 + a ∧ a < 0x1000 ∧ a % 4 ≠ 0 ∧ (s.core (.room p)).inEvt = false) := ⟨
  ⟨(rm 0 [] (fun r =>
    { { r with core := { (r).core with state := 1, g := [1, 69630, 3, 4, 5, 6, 7, 8, 9, 10, 11, 12, 13, 14, 15, 0x10020], pc := 0x20010 } } with data := [(8, 0x81), (9, 0x92), (4095, 0xFF)] })),
    0, 1, 1, 0xFFF, by decide +kernel⟩,
  ⟨(rm 0 [] (fun r =>
    { { r with core := { (r).core with state := 1, g := [1, 65544, 3, 4, 5, 6, 7, 8, 9, 10, 11, 12, 13, 14, 15, 0x10020], pc := 0x20010 } } with data := [(8, 0x81), (9, 0x92), (4095, 0xFF)] })),
    0, 1, 0, 8, by decide +kernel⟩,
  ⟨(rm 0 [] (fun r =>
    { { r with core := { (r).core with state := 1, g := [1, 65544, 3, 4, 5, 6, 7, 8, 9, 10, 11, 12, 13, 14, 15, 0x10020], pc := 0x20010 } } with data := [(8, 0x81), (9, 0x92), (4095, 0xFF)] })),
    0, 1, 0, 8, by decide +kernel⟩,
  ⟨(rm 0 [] (fun r =>
    { { r with core := { (r).core with state := 1, g := [1, 65544, 3, 4, 5, 6, 7, 8, 9, 10, 11, 12, 13, 14, 15, 0x10020], pc := 0x20010 } } with data := [(8, 0x81), (9, 0x92), (4095, 0xFF)] })),
    0, 1, 0, 8, by decide +kernel⟩,
  ⟨(rm 0 [] (fun r =>
    { { r with core := { (r).core with state := 1, g := [1, 65544, 3, 4, 5, 6, 7, 8, 9, 10, 11, 12, 13, 14, 15, 0x10020], pc := 0x20010 } } with data := [(8, 0x81), (9, 0x92), (4095, 0xFF)] })),
    0, 1, 0, 8, by decide +kernel⟩,
  ⟨(rm 0 [] (fun r =>
    { { r with core := { (r).core with state := 1, g := [1, 69630, 3, 4, 5, 6, 7, 8, 9, 10, 11, 12, 13, 14, 15, 0x10020], pc := 0x20010 } } with data := [(8, 0x81), (9, 0x92), (4095, 0xFF)] })),
    0, 1, 1, 0xFFF, by decide +kernel⟩,
  ⟨(rm 0 [] (fun r =>
    { { r with core := { (r).core with state := 1, g := [1, 65544, 3, 4, 5, 6, 7, 8, 9, 10, 11, 12, 13, 14, 15, 0x10020], pc := 0x20010 } } with data := [(8, 0x81), (9, 0x92), (4095, 0xFF)] })),
    0, 1, 0, 8, by decide +kernel⟩,
  ⟨(rm 0 [] (fun r =>
    { { r with core := { (r).core with state := 1, g := [1, 65544, 3, 4, 5, 6, 7, 8, 9, 10, 11, 12, 13, 14, 15, 0x10020], pc := 0x20010 } } with data := [(8, 0x81), (9, 0x92), (4095, 0xFF)] })),
    0, 1, 0x3FFFC, 4, by decide +kernel⟩,
  ⟨(rm 0 [] (fun r =>
    { { r with core := { (r).core with state := 1, g := [1, 65544, 3, 4, 5, 6, 7, 8, 9, 10, 11, 12, 13, 14, 15, 0x10020], pc := 0x20010 } } with data := [(8, 0x81), (9, 0x92), (4095, 0xFF)] })),
    0, 1, 1, 9, by decide +kernel⟩⟩

/-- States that meet the hypotheses of SteppingLoadsAndStores. -/
theorem witness_SteppingLoadsAndStores :
  (∃ (s : State) (p : Fin 48) (ra : Fin 16) (a : Nat), s.seqReady (.room p) = true ∧ (s.rg (.room p) ra).toNat =
    0x10000 + a ∧ a < 0x1000 ∧ a % 4 = 0) ∧
  (∃ (s : State) (p : Fin 48) (ra : Fin 16) (a : Nat), s.seqReady (.room p) = true ∧ (s.rg (.room p) ra).toNat =
    0x10000 + a ∧ a < 0x1000 ∧ a % 4 = 0) ∧
  (∃ (s : State) (p : Fin 48) (ra rb : Fin 16) (a b : Nat), s.seqReady (.room p) = true ∧ (s.rg (.room p) ra).toNat =
    0x10000 + a ∧ a < 0x1000 ∧ a % 4 = 0 ∧ (s.rg (.room p) rb).toNat = 0x10000 + b ∧ b < 0x1000 ∧ b % 4 = 0 ∧ ra ≠ rb) := ⟨
  ⟨(rm 0 [] (fun r =>
    { { r with core := { (r).core with state := 1, g := [1, 65544, 3, 4, 5, 6, 7, 8, 9, 10, 11, 12, 13, 14, 15, 0x10020], pc := 0x20010 } } with data := [(8, 0x81), (9, 0x92), (4095, 0xFF)] })),
    0, 1, 8, by decide +kernel⟩,
  ⟨(rm 0 [] (fun r =>
    { { r with core := { (r).core with state := 1, g := [1, 65544, 3, 4, 5, 6, 7, 8, 9, 10, 11, 12, 13, 14, 15, 0x10020], pc := 0x20010 } } with data := [(8, 0x81), (9, 0x92), (4095, 0xFF)] })),
    0, 1, 8, by decide +kernel⟩,
  ⟨(rm 0 [] (fun r =>
    { { r with core := { (r).core with state := 1, g := [1, 65544, 3, 4, 5, 6, 7, 8, 9, 10, 11, 12, 13, 14, 15, 0x10020], pc := 0x20010 } } with data := [(8, 0x81), (9, 0x92), (4095, 0xFF)] })),
    0, 1, 15, 8, 0x20, by decide +kernel⟩⟩

/-- States that meet the hypotheses of SystemInstructions. -/
theorem witness_SystemInstructions :
  (∃ (s : State) (c : CoreId) (imm : BitVec 18), s.seqReady c = true ∧ 0 < imm.toNat ∧ imm.toNat < 65536) ∧
  (∃ (s : State) (c : CoreId) (ra : Fin 16), s.seqReady c = true ∧ 0 < (s.rg c ra).toNat) ∧
  (∃ (s : State) (c : CoreId) (imm : BitVec 18), s.seqReady c = true ∧ 0 < imm.toNat ∧ imm.toNat ≤ 16) ∧
  (∃ (s : State) (c : CoreId), s.seqReady c = true ∧ (s.core c).inEvt = false) ∧
  (∃ (s : State) (c : CoreId), s.seqReady c = true ∧ (s.core c).inEvt = true) ∧
  (∃ (s : State) (c : CoreId), s.seqReady c = true) ∧
  (∃ (s : State) (c : CoreId), s.seqReady c = true) ∧
  (∃ (s : State) (c : CoreId), s.seqReady c = true) ∧
  (∃ (s : State) (c : CoreId), s.seqReady c = true) ∧
  (∃ (s : State) (c : CoreId), s.seqReady c = true ∧ c = .hall) ∧
  (∃ (s : State) (c : CoreId) (p : Fin 48), s.seqReady c = true ∧ c = .room p ∧ (s.core c).inEvt = false) ∧
  (∃ (s : State) (c : CoreId), s.seqReady c = true ∧ s.debugOn = true) ∧
  (∃ (s : State) (c : CoreId) (p : Fin 48), s.seqReady c = true ∧ c = .room p ∧ TXW0_SEND.of ((s.core c).stage.getD 0
    0) = 0) ∧
  (∃ (s : State) (c : CoreId) (p : Fin 48), s.seqReady c = true ∧ c = .room p) := ⟨
  ⟨(rm 0 [] (fun r =>
    { r with core := { (r).core with state := 1, g := [1, 2, 0xFFFFFFFF, 0x80000000, 5, 6, 7, 8, 9, 10, 11, 12, 13, 14, 15, 16], pc := 0x20010 } })),
    (.room 0), 65535, by decide +kernel⟩,
  ⟨(rm 0 [] (fun r =>
    { r with core := { (r).core with state := 1, g := [1, 2, 0xFFFFFFFF, 0x80000000, 5, 6, 7, 8, 9, 10, 11, 12, 13, 14, 15, 16], pc := 0x20010 } })),
    (.room 0), 2, by decide +kernel⟩,
  ⟨(rm 0 [] (fun r =>
    { r with core := { (r).core with state := 1, g := [1, 2, 0xFFFFFFFF, 0x80000000, 5, 6, 7, 8, 9, 10, 11, 12, 13, 14, 15, 16], pc := 0x20010 } })),
    (.room 0), 16, by decide +kernel⟩,
  ⟨(rm 0 [] (fun r =>
    { r with core := { (r).core with state := 1, g := [1, 2, 0xFFFFFFFF, 0x80000000, 5, 6, 7, 8, 9, 10, 11, 12, 13, 14, 15, 16], pc := 0x20010 } })),
    (.room 0), by decide +kernel⟩,
  ⟨(rm 0 [] (fun r => { r with core := { (r).core with state := 1, inEvt := true, epc := 0x20100, pc := 0x20010 } })),
    (.room 0), by decide +kernel⟩,
  ⟨(rm 0 [] (fun r =>
    { r with core := { (r).core with state := 1, g := [1, 2, 0xFFFFFFFF, 0x80000000, 5, 6, 7, 8, 9, 10, 11, 12, 13, 14, 15, 16], pc := 0x20010 } })),
    (.room 0), by decide +kernel⟩,
  ⟨(rm 0 [] (fun r =>
    { r with core := { (r).core with state := 1, g := [1, 2, 0xFFFFFFFF, 0x80000000, 5, 6, 7, 8, 9, 10, 11, 12, 13, 14, 15, 16], pc := 0x20010 } })),
    (.room 0), by decide +kernel⟩,
  ⟨(rm 0 [] (fun r =>
    { r with core := { (r).core with state := 1, g := [1, 2, 0xFFFFFFFF, 0x80000000, 5, 6, 7, 8, 9, 10, 11, 12, 13, 14, 15, 16], pc := 0x20010 } })),
    (.room 0), by decide +kernel⟩,
  ⟨(rm 0 [] (fun r =>
    { r with core := { (r).core with state := 1, g := [1, 2, 0xFFFFFFFF, 0x80000000, 5, 6, 7, 8, 9, 10, 11, 12, 13, 14, 15, 16], pc := 0x20010 } })),
    (.room 0), by decide +kernel⟩,
  ⟨(hl 0 [] (fun s => { s with hall := { s.hall with state := 1, pc := 0x20000000 } })), .hall, by decide +kernel⟩,
  ⟨(rm 0 [] (fun r =>
    { r with core := { (r).core with state := 1, g := [1, 2, 0xFFFFFFFF, 0x80000000, 5, 6, 7, 8, 9, 10, 11, 12, 13, 14, 15, 16], pc := 0x20010 } })),
    (.room 0), 0, by decide +kernel⟩,
  ⟨(rm 0 [] (fun r =>
    { r with core := { (r).core with state := 1, g := [1, 2, 0xFFFFFFFF, 0x80000000, 5, 6, 7, 8, 9, 10, 11, 12, 13, 14, 15, 16], pc := 0x20010 } })),
    (.room 0), by decide +kernel⟩,
  ⟨(rm 0 [] (fun r =>
    { r with core := { (r).core with state := 1, g := [1, 2, 0xFFFFFFFF, 0x80000000, 5, 6, 7, 8, 9, 10, 11, 12, 13, 14, 15, 16], pc := 0x20010 } })),
    (.room 0), 0, by decide +kernel⟩,
  ⟨(rm 0 [] (fun r =>
    { r with core := { (r).core with state := 1, g := [1, 2, 0xFFFFFFFF, 0x80000000, 5, 6, 7, 8, 9, 10, 11, 12, 13, 14, 15, 16], pc := 0x20010 } })),
    (.room 0), 0, by decide +kernel⟩⟩

/-- States that meet the hypotheses of EventEntry. -/
theorem witness_EventEntry :
  (∃ (s : State) (c : CoreId), s.takesEvents c = true ∧ (s.core c).stepping = false) :=
  ⟨(rm 0 [(CC_EVENT_DETACH, 1), (EV_EN_EN, 0x7FFF)] (fun r =>
    { r with core := { (r).core with state := 1, pc := 0x20010 } })), (.room 0), by decide +kernel⟩

/-- States that meet the hypotheses of DebugLine. -/
theorem witness_DebugLine :
  (∃ (op : BitVec 4), op ∈ dbgOps) ∧
  (∃ (op : BitVec 4), op ∈ dbgOps) ∧
  (∃ (s : State) (h : BitVec 12), s.serving = true ∧ dbgOpOf h = some 1) ∧
  (∃ (s : State) (h : BitVec 12), s.serving = true ∧ dbgOpOf h = some 2) ∧
  (∃ (s : State) (h : BitVec 12), s.serving = true ∧ dbgOpOf h = some 9) ∧
  (∃ (s : State) (h : BitVec 12) (data : Word) (crc : BitVec 8), s.serving = true ∧ dbgOpOf h = some 9 ∧ crc ≠ dbgCrc
    data) ∧
  (∃ (s : State) (h : BitVec 12), s.serving = true ∧ dbgOpOf h = none) ∧
  (∃ (s : State), s.serving = true) ∧
  (∃ (s : State), s.serving = true) ∧
  (∃ (s : State) (h : BitVec 12), s.dbgFree = true ∧ dbgOpOf h = some 5) ∧
  (∃ (s : State) (h : BitVec 12), s.dbgFree = true ∧ dbgOpOf h = some 4) ∧
  (∃ (s : State) (h : BitVec 12) (data : Word), s.dbgFree = true ∧ s.dbg.lastWr ≠ some ((dbgTag h).toNat, (dbgCrc
    data).toNat) ∧ dbgOpOf h = some 3) ∧
  (∃ (s : State) (h : BitVec 12) (data : Word), s.dbgFree = true ∧ s.dbg.lastWr ≠ some ((dbgTag h).toNat, (dbgCrc
    data).toNat) ∧ dbgOpOf h = some 6) ∧
  (∃ (s : State) (h : BitVec 12) (data : Word), s.dbgFree = true ∧ dbgOpOf h = some 6 ∧ s.dbg.lastWr = some ((dbgTag
    h).toNat, (dbgCrc data).toNat)) ∧
  (∃ (s : State) (h : BitVec 12) (data : Word) (crc : BitVec 8), s.dbgFree = true ∧ dbgOpOf h = some 6 ∧ crc ≠ dbgCrc
    data) ∧
  (∃ (s : State) (h : BitVec 12), s.serving = true ∧ dbgOpOf h = some 6 ∧ s.debugOn = false) ∧
  (∃ (s : State) (v : Word) (a : Nat), s.serving = true ∧ s.dbg.acc = some (some v, a)) ∧
  (∃ (s : State) (a : Nat), s.serving = true ∧ s.dbg.acc = some (none, a)) := ⟨
  ⟨3, by decide +kernel⟩,
  ⟨3, by decide +kernel⟩,
  ⟨(up 0), (2#2 ++ (1 : BitVec 4) ++ 1#2 ++ dbgChk 1 1), by decide +kernel⟩,
  ⟨(up 0), (2#2 ++ (2 : BitVec 4) ++ 1#2 ++ dbgChk 2 1), by decide +kernel⟩,
  ⟨(up 0), (2#2 ++ (9 : BitVec 4) ++ 1#2 ++ dbgChk 9 1), by decide +kernel⟩,
  ⟨(up 0), (2#2 ++ (9 : BitVec 4) ++ 1#2 ++ dbgChk 9 1), 7, dbgCrc 7 + 1, by decide +kernel⟩,
  ⟨(up 0), 0, by decide +kernel⟩,
  ⟨(up 0), by decide +kernel⟩,
  ⟨(up 0), by decide +kernel⟩,
  ⟨(up 0), (2#2 ++ (5 : BitVec 4) ++ 1#2 ++ dbgChk 5 1), by decide +kernel⟩,
  ⟨(up 0), (2#2 ++ (4 : BitVec 4) ++ 1#2 ++ dbgChk 4 1), by decide +kernel⟩,
  ⟨(up 0), (2#2 ++ (3 : BitVec 4) ++ 1#2 ++ dbgChk 3 1), 0xDEADBEEF, by decide +kernel⟩,
  ⟨(up 0), (2#2 ++ (6 : BitVec 4) ++ 1#2 ++ dbgChk 6 1), 0xDEADBEEF, by decide +kernel⟩,
  ⟨{ up 0 with dbg := { (up 0).dbg with lastWr := some (1, (dbgCrc 7).toNat) } }, (2#2 ++ (6 : BitVec 4) ++ 1#2 ++
    dbgChk 6 1), 7, by decide +kernel⟩,
  ⟨(up 0), (2#2 ++ (6 : BitVec 4) ++ 1#2 ++ dbgChk 6 1), 7, dbgCrc 7 + 1, by decide +kernel⟩,
  ⟨(hl 0 [(ATTIC_LOCK_LOCK, 256)]), (2#2 ++ (6 : BitVec 4) ++ 1#2 ++ dbgChk 6 1), by decide +kernel⟩,
  ⟨(hl 0 [] (fun s => { s with dbg := { s.dbg with acc := some (some 5, 0x21000000) } })), 5, 0x21000000,
    by decide +kernel⟩,
  ⟨(hl 0 [] (fun s => { s with dbg := { s.dbg with acc := some (none, 0x21000000) } })), 0x21000000,
    by decide +kernel⟩⟩

/-- States that meet the hypotheses of DebugControl. -/
theorem witness_DebugControl :
  (∃ (s : State), s.clocked = true ∧ s.debugOn = true) ∧
  (∃ (s : State) (c : CoreId), s.clocked = true ∧ s.debugOn = true ∧ s.haltBit c = true ∧ (s.core c).halted = true) ∧
  (∃ (s : State) (c : CoreId), s.clocked = true ∧ s.debugOn = true ∧ s.booted = true ∧ s.haltBit c = true ∧ (s.core
    c).halted = false ∧ (s.core c).state = 1 ∧ (s.core c).rep = 0) ∧
  (∃ (s : State) (n : BitVec 6), s.clocked = true ∧ s.debugOn = true ∧ n.toNat ≤ 48 ∧ (s.core (coreNum
    n.toNat)).halted = true) ∧
  (∃ (s : State) (n : BitVec 6), s.clocked = true ∧ s.debugOn = true ∧ (48 < n.toNat ∨ (s.core (coreNum
    n.toNat)).halted = false)) ∧
  (∃ (s : State), s.clocked = true ∧ s.debugOn = true ∧ s.cregOk = true) ∧
  (∃ (s : State), s.clocked = true ∧ s.debugOn = true ∧ s.cregOk = true) ∧
  (∃ (s : State), s.clocked = true ∧ s.debugOn = true ∧ s.cregOk = false) ∧
  (∃ (s : State), s.clocked = true ∧ s.debugOn = true) ∧
  (∃ (s : State), s.clocked = true ∧ s.debugOn = true ∧ s.snapBars = false ∧ s.snap.cap = none) := ⟨
  ⟨(up 0), by decide +kernel⟩,
  ⟨(rm 0 [] (fun r => { r with core := { (r).core with state := 1, halted := true } }) (hl 0 [(DBG_HALT0_ROOM, 1),
    (DBG_CSEL_REG, 19)])), (.room 0), by decide +kernel⟩,
  ⟨(rm 0 [(STATUS_CORE_ALIVE, 1)] (fun r => { r with core := { (r).core with state := 1 } }) (hl 0 [(DBG_HALT0_ROOM,
    1)])), (.room 0), by decide +kernel⟩,
  ⟨(rm 0 [] (fun r => { r with core := { (r).core with state := 1, halted := true } }) (hl 0 [(DBG_HALT0_ROOM, 1),
    (DBG_CSEL_REG, 19)])), 0, by decide +kernel⟩,
  ⟨(up 0), 49, by decide +kernel⟩,
  ⟨(rm 0 [] (fun r => { r with core := { (r).core with state := 1, halted := true } }) (hl 0 [(DBG_HALT0_ROOM, 1),
    (DBG_CSEL_REG, 19)])), by decide +kernel⟩,
  ⟨(rm 0 [] (fun r => { r with core := { (r).core with state := 1, halted := true } }) (hl 0 [(DBG_HALT0_ROOM, 1),
    (DBG_CSEL_REG, 19)])), by decide +kernel⟩,
  ⟨(up 0), by decide +kernel⟩,
  ⟨(hl 0 [(DBG_CTRL_HALT_ON_BOOT, 1)]), by decide +kernel⟩,
  ⟨(up 0), by decide +kernel⟩⟩

/-- States that meet the hypotheses of TwoWirePorts. -/
theorem witness_TwoWirePorts :
  (∃ (s : State) (n : Fin 4) (addr : BitVec 7) (e : TwEntry) (idx cnt : Byte) (data : List Byte), s.twAnswers n
    addr.toNat = true ∧ s.twEntry n addr.toNat = some e ∧ s.tws.length = 4 ∧ (s.twPort n).prog = none ∧ (s.twPort
    n).wait = none ∧ cmdOk idx.toNat cnt.toNat = true ∧ s.bit (twField n TW_CTRL_PEC) = false ∧ data.length = 4 *
    (cnt.toNat % 8 + 1)) ∧
  (∃ (s : State) (n : Fin 4) (addr : BitVec 7) (e : TwEntry) (idx cnt : Byte), s.twAnswers n addr.toNat = true ∧
    s.twEntry n addr.toNat = some e ∧ s.tws.length = 4 ∧ (s.twPort n).prog = none ∧ (s.twPort n).wait = none ∧ cmdOk
    idx.toNat cnt.toNat = false) ∧
  (∃ (s : State) (n : Fin 4) (addr : BitVec 7) (e : TwEntry) (idx cnt : Byte), s.twAnswers n addr.toNat = true ∧
    s.twEntry n addr.toNat = some e ∧ s.tws.length = 4 ∧ (s.twPort n).prog = none ∧ (s.twPort n).wait = none ∧ cmdOk
    idx.toNat cnt.toNat = true) ∧
  (∃ (s : State) (n : Fin 4) (addr : BitVec 7) (e : TwEntry) (idx cnt : Byte) (data : List Byte), s.twAnswers n
    addr.toNat = true ∧ s.twEntry n addr.toNat = some e ∧ s.tws.length = 4 ∧ (s.twPort n).prog = none ∧ (s.twPort
    n).wait = none ∧ cmdOk idx.toNat cnt.toNat = true ∧ data ≠ [] ∧ data.length < 4 * (cnt.toNat % 8 + 1)) ∧
  (∃ (s : State) (n : Fin 4) (addr : BitVec 7) (e : TwEntry) (idx cnt : Byte) (data : List Byte) (pec : Byte),
    s.twAnswers n addr.toNat = true ∧ s.twEntry n addr.toNat = some e ∧ s.tws.length = 4 ∧ (s.twPort n).prog = none ∧
    (s.twPort n).wait = none ∧ cmdOk idx.toNat cnt.toNat = true ∧ s.bit (twField n TW_CTRL_PEC) = true ∧ data.length =
    4 * (cnt.toNat % 8 + 1) ∧ crc8 (addrByte addr.toNat false :: idx :: cnt :: data) ≠ pec) ∧
  (∃ (s : State) (n : Fin 4) (addr : BitVec 7) (e : TwEntry), s.twAnswers n addr.toNat = true ∧ s.twEntry n addr.toNat
    = some e ∧ s.tws.length = 4 ∧ (s.twPort n).prog = none ∧ (s.twPort n).wait = none ∧ (s.twPort n).cnt < 128) ∧
  (∃ (s : State) (n : Fin 4) (addr : BitVec 7) (e : TwEntry), s.twAnswers n addr.toNat = true ∧ s.twEntry n addr.toNat
    = some e ∧ s.tws.length = 4 ∧ (s.twPort n).prog = none ∧ (s.twPort n).wait = none ∧ 128 ≤ (s.twPort n).cnt ∧
    (s.twPort n).cnt < 256 ∧ s.bit (twField n TW_CTRL_PEC) = true) ∧
  (∃ (s : State) (n : Fin 4) (addr : BitVec 7) (p : TwProg), s.twAnswers n addr.toNat = true ∧ s.tws.length = 4 ∧
    (s.twPort n).prog = some p ∧ p.read = false ∧ (s.twPort n).wait = none) ∧
  (∃ (s : State) (n : Fin 4) (addr : BitVec 7) (p : TwProg), s.twAnswers n addr.toNat = true ∧ s.tws.length = 4 ∧
    (s.twPort n).prog = some p ∧ p.read = false ∧ (s.twPort n).wait = none) ∧
  (∃ (s : State) (n : Fin 4) (p : TwProg) (r : TwProg × State), s.serving = true ∧ (s.twPort n).prog = some p ∧ r =
    s.twOne n p ∧ p.read = false ∧ p.done + 1 < p.n) ∧
  (∃ (s : State) (n : Fin 4) (p : TwProg) (r : TwProg × State), s.serving = true ∧ (s.twPort n).prog = some p ∧ r =
    s.twOne n p ∧ p.read = true ∧ p.done + 1 < p.n) ∧
  (∃ (s : State) (n : Fin 4) (p : TwProg) (r : TwProg × State), s.serving = true ∧ (s.twPort n).prog = some p ∧ r =
    s.twOne n p ∧ p.read = false ∧ p.done + 1 = p.n ∧ (r.2.twPort n).wait = none ∧ r.1.code < 16) ∧
  (∃ (s : State) (n : Fin 4) (p : TwProg) (r : TwProg × State), s.serving = true ∧ (s.twPort n).prog = some p ∧ r =
    s.twOne n p ∧ p.read = true ∧ p.done + 1 = p.n ∧ (r.2.twPort n).wait = none ∧ r.1.code < 16 ∧ r.2.tws.length = 4 ∧
    r.2.bit (twField n TW_CTRL_PEC) = false) ∧
  (∃ (s : State) (n : Fin 4), s.serving = true ∧ s.tws.length = 4 ∧ s.bit (twField n TW_CTRL_TIMEOUT_EN) = true) ∧
  (∃ (s : State), s.serving = true ∧ s.tws.length = 4) ∧
  (∃ (s : State) (n : Fin 4) (addr : BitVec 7), (s.twEntry n addr.toNat).isSome = true ∧ s.tws.length = 4 ∧ (s.fld
    WAKE_EN_TW).testBit n.val = true ∧ s.clk.phase = .sleep ∧ s.clk.target = 2) ∧
  (∃ (s : State) (m : Fin 2), s.clocked = true ∧ s.bit (tcField m TC_CTRL_EN) = true) ∧
  (∃ (s : State) (m : Fin 2), s.clocked = true ∧ s.bit (tcField m TC_CTRL_EN) = false) ∧
  (∃ (s : State) (m : Fin 2) (result : Fin 5) (count : Nat), s.clocked = true ∧ s.bit (tcField m TC_STAT_BUSY) = true
    ∧ result ≠ 0 ∧ count ≤ 63) ∧
  (∃ (s : State) (m : Fin 2) (data : List Byte), s.clocked = true ∧ s.bit (tcField m TC_STAT_BUSY) = true ∧ (s.tcPort
    m).complete data = true) := ⟨
  ⟨(hl 0 [(TW_CTRL_EN, 1), (TW_CTRL_PEC, 0)] (fun s => { s with matchers := [⟨0, 0x20, 0, false, 0x100⟩] })), 0, 0x20,
    ⟨0, 0x20, 0, false, 0x100⟩, 0, 0, [BitVec.ofNat 8 0xFF, 0, 0, 0], by decide +kernel⟩,
  ⟨(hl 0 [(TW_CTRL_EN, 1)] (fun s => { s with matchers := [⟨0, 0x20, 0, false, 0x100⟩] })), 0, 0x20, ⟨0, 0x20, 0,
    false, 0x100⟩, 0xFF, 1, by decide +kernel⟩,
  ⟨(hl 0 [(TW_CTRL_EN, 1)] (fun s => { s with matchers := [⟨0, 0x20, 0, false, 0x100⟩] })), 0, 0x20, ⟨0, 0x20, 0,
    false, 0x100⟩, 0xFF, 0x80, by decide +kernel⟩,
  ⟨(hl 0 [(TW_CTRL_EN, 1)] (fun s => { s with matchers := [⟨0, 0x20, 0, false, 0x100⟩] })), 0, 0x20, ⟨0, 0x20, 0,
    false, 0x100⟩, 0, 0, [1, 2, 3], by decide +kernel⟩,
  ⟨(hl 0 [(TW_CTRL_EN, 1), (TW_CTRL_PEC, 1)] (fun s => { s with matchers := [⟨0, 0x20, 0, false, 0x100⟩] })), 0, 0x20,
    ⟨0, 0x20, 0, false, 0x100⟩, 0, 0, [1, 2, 3, 4], crc8 [0x40, 0, 0, 1, 2, 3, 4] + 1, by decide +kernel⟩,
  ⟨(hl 0 [(TW_CTRL_EN, 1)] (fun s =>
    { s with matchers := [⟨0, 0x20, 0, false, 0x100⟩], tws := setAt s.tws 0 { s.twPort 0 with cnt := 3 } })), 0, 0x20,
    ⟨0, 0x20, 0, false, 0x100⟩, by decide +kernel⟩,
  ⟨(hl 0 [(TW_CTRL_EN, 1), (TW_CTRL_PEC, 1), (TW_STAT_WSTAT, 3)] (fun s =>
    { s with matchers := [⟨0, 0x20, 0, false, 0x100⟩], tws := setAt s.tws 0 { s.twPort 0 with cnt := 128 } })), 0,
    0x20, ⟨0, 0x20, 0, false, 0x100⟩, by decide +kernel⟩,
  ⟨(hl 0 [(TW_CTRL_EN, 1)] (fun s =>
    { s with matchers := [⟨0, 0x20, 0, false, 0x100⟩], tws := setAt s.tws 0 { s.twPort 0 with prog := some (⟨false, 0x100, 2, 0, [5, 6], 0, []⟩ : TwProg) } })),
    0, 0x20, (⟨false, 0x100, 2, 0, [5, 6], 0, []⟩ : TwProg), by decide +kernel⟩,
  ⟨(hl 0 [(TW_CTRL_EN, 1)] (fun s =>
    { s with matchers := [⟨0, 0x20, 0, false, 0x100⟩], tws := setAt s.tws 0 { s.twPort 0 with prog := some (⟨false, 0x100, 2, 0, [5, 6], 0, []⟩ : TwProg) } })),
    0, 0x20, (⟨false, 0x100, 2, 0, [5, 6], 0, []⟩ : TwProg), by decide +kernel⟩,
  ⟨(hl 0 [(TW_CTRL_EN, 1)] (fun s =>
    { s with matchers := [⟨0, 0x20, 0, false, 0x100⟩], tws := setAt s.tws 0 { s.twPort 0 with prog := some (⟨false, 0x100, 2, 0, [5, 6], 0, []⟩ : TwProg) } })),
    0, (⟨false, 0x100, 2, 0, [5, 6], 0, []⟩ : TwProg), _, by decide +kernel, by decide +kernel, rfl,
    by decide +kernel, by decide +kernel⟩,
  ⟨(hl 0 [(TW_CTRL_EN, 1)] (fun s =>
    { s with matchers := [⟨0, 0x20, 0, false, 0x100⟩], tws := setAt s.tws 0 { s.twPort 0 with prog := some (⟨true, 0x100, 2, 0, [], 0, []⟩ : TwProg) } })),
    0, (⟨true, 0x100, 2, 0, [], 0, []⟩ : TwProg), _, by decide +kernel, by decide +kernel, rfl, by decide +kernel,
    by decide +kernel⟩,
  ⟨(hl 0 [(TW_CTRL_EN, 1)] (fun s =>
    { s with matchers := [⟨0, 0x20, 0, false, 0x100⟩], tws := setAt s.tws 0 { s.twPort 0 with prog := some (⟨false, 0x100, 2, 1, [5, 6], 0, []⟩ : TwProg) } })),
    0, (⟨false, 0x100, 2, 1, [5, 6], 0, []⟩ : TwProg), _, by decide +kernel, by decide +kernel, rfl,
    by decide +kernel, by decide +kernel, by decide +kernel, by decide +kernel⟩,
  ⟨(hl 0 [(TW_CTRL_EN, 1)] (fun s =>
    { s with matchers := [⟨0, 0x20, 0, false, 0x100⟩], tws := setAt s.tws 0 { s.twPort 0 with prog := some (⟨true, 0x100, 2, 1, [9], 0, []⟩ : TwProg) } })),
    0, (⟨true, 0x100, 2, 1, [9], 0, []⟩ : TwProg), _, by decide +kernel, by decide +kernel, rfl, by decide +kernel,
    by decide +kernel, by decide +kernel, by decide +kernel, by decide +kernel, by decide +kernel⟩,
  ⟨(hl 0 [(TW_CTRL_TIMEOUT_EN, 1), (TW_ERR_BUS, 255)]), 0, by decide +kernel⟩,
  ⟨(up 0), by decide +kernel⟩,
  ⟨(hl 0 [(WAKE_EN_TW, 1)] (fun s =>
    { s with matchers := [⟨0, 0x20, 0, false, 0x100⟩], clk := { s.clk with phase := .sleep, target := 2 } })), 0,
    0x20, by decide +kernel⟩,
  ⟨(hl 0 [(TC_CTRL_EN, 1)]), 0, by decide +kernel⟩,
  ⟨(up 0), 1, by decide +kernel⟩,
  ⟨(hl 0 [(TC_STAT_BUSY, 1)] (fun s => { s with tcs := [⟨[], 0, 4, false⟩, s.tcPort 1] })), 0, 3, 32,
    by decide +kernel⟩,
  ⟨(hl 0 [(TC_STAT_BUSY, 1)] (fun s => { s with tcs := [⟨[], 0, 4, false⟩, s.tcPort 1] })), 0, [1, 2, 3, 4],
    by decide +kernel⟩⟩

/-- States that meet the hypotheses of LinkRegisterCommands. -/
theorem witness_LinkRegisterCommands :
  (∃ (s : State) (n : Fin 2) (line : List Byte) (f : Frame), s.booted = true ∧ s.takes n 1 line f = true ∧
    f.payload.length = 4 ∧ u32 f.payload 0 % 4 = 0) ∧
  (∃ (s : State) (n : Fin 2) (line : List Byte) (f : Frame), s.booted = true ∧ s.takes n 2 line f = true ∧
    f.payload.length = 8 ∧ u32 f.payload 0 % 4 = 0 ∧ s.pairMode = false ∧ s.marks (u32 f.payload 0) = []) ∧
  (∃ (s : State) (n : Fin 2) (line : List Byte) (f : Frame) (w : Fin 2), s.booted = true ∧ s.takes n 2 line f = true ∧
    f.payload.length = 8 ∧ u32 f.payload 0 % 4 = 0 ∧ s.pairMode = true ∧ (locate (u32 f.payload 0)).bind Loc.wingBus =
    some w ∧ s.keeps w = false) ∧
  (∃ (s : State) (n : Fin 2) (line : List Byte) (f : Frame), s.booted = true ∧ s.takes n 2 line f = true ∧
    f.payload.length = 8 ∧ u32 f.payload 0 % 4 ≠ 0) ∧
  (∃ (s : State) (n : Fin 2) (line : List Byte) (f : Frame), s.booted = true ∧ s.takes n 3 line f = true ∧
    f.payload.length = 12 ∧ u32 f.payload 0 % 4 = 0 ∧ s.writeBar (u32 f.payload 0) = 0) ∧
  (∃ (s : State) (n : Fin 2) (f : Frame), s.booted = true ∧ (s.link n).prog = some ⟨3, f, 0, []⟩ ∧ s.links.length = 2
    ∧ (s.busLoad (.hl n) (u32 f.payload 0) 4).rerr = false) ∧
  (∃ (s : State) (n : Fin 2) (f : Frame) (v w : Word), s.booted = true ∧ (s.link n).prog = some ⟨3, f, 1, [v]⟩ ∧
    s.links.length = 2 ∧ s.pairMode = false ∧ s.marks (u32 f.payload 0) = [] ∧ w = (v &&& ~~~ BitVec.ofNat 32 (u32
    f.payload 4)) ||| (BitVec.ofNat 32 (u32 f.payload 8) &&& BitVec.ofNat 32 (u32 f.payload 4))) ∧
  (∃ (s : State) (n : Fin 2) (line : List Byte) (f : Frame), s.booted = true ∧ s.takes n 4 line f = true ∧
    f.payload.length = 8 ∧ u32 f.payload 0 % 4 = 0 ∧ 1 ≤ u16 f.payload 4 ∧ u16 f.payload 4 ≤ 255 ∧ u8 f.payload 6 ≤ 1
    ∧ u8 f.payload 7 = 0) ∧
  (∃ (s : State) (n : Fin 2) (f : Frame) (i : Nat) (ws : List Word) (u : State), s.booted = true ∧ (s.link n).prog =
    some ⟨4, f, i, ws⟩ ∧ s.links.length = 2 ∧ u = s.busLoad (.hl n) (u32 f.payload 0 + (if u8 f.payload 6 = 1 then 0
    else 4) * i) 4 ∧ u.rerr = false) ∧
  (∃ (s : State) (n : Fin 2) (f : Frame) (i : Nat) (ws : List Word) (u : State), s.booted = true ∧ (s.link n).prog =
    some ⟨4, f, i, ws⟩ ∧ s.links.length = 2 ∧ u = s.busLoad (.hl n) (u32 f.payload 0 + (if u8 f.payload 6 = 1 then 0
    else 4) * i) 4 ∧ u.rerr = true) ∧
  (∃ (s : State) (n : Fin 2) (line : List Byte) (f : Frame), s.booted = true ∧ s.takes n 5 line f = true ∧
    f.payload.length = 8 + 4 * u16 f.payload 4 ∧ u32 f.payload 0 % 4 = 0 ∧ 1 ≤ u16 f.payload 4 ∧ u16 f.payload 4 ≤ 254
    ∧ u8 f.payload 6 ≤ 1 ∧ u8 f.payload 7 = 0) ∧
  (∃ (s : State) (n : Fin 2) (f : Frame) (i : Nat) (u : State), s.booted = true ∧ (s.link n).prog = some ⟨5, f, i, []⟩
    ∧ s.links.length = 2 ∧ s.pairMode = false ∧ s.marks (u32 f.payload 0 + (if u8 f.payload 6 = 1 then 0 else 4) * i)
    = [] ∧ u = s.busStore (.hl n) (u32 f.payload 0 + (if u8 f.payload 6 = 1 then 0 else 4) * i) 4 (BitVec.ofNat 32
    (u32 f.payload (8 + 4 * i)))) := ⟨
  ⟨(hl 0 [(HL_CTRL_EN, 1)]), 0, frameLine 1 7 ([0x40, 0, 0, 0]), ⟨0, 7, [0x40, 0, 0, 0]⟩, by decide +kernel⟩,
  ⟨(hl 0 [(HL_CTRL_EN, 1)]), 0, frameLine 2 7 ([0x44, 0, 0, 0, 1, 0, 0, 0]), ⟨0, 7, [0x44, 0, 0, 0, 1, 0, 0, 0]⟩,
    by decide +kernel⟩,
  ⟨(hl 1 [(HL_CTRL_EN, 1)]), 0, frameLine 2 7 ([0x0C, 0, 0, 1, 1, 0, 0, 0]), ⟨0, 7, [0x0C, 0, 0, 1, 1, 0, 0, 0]⟩, 0,
    by decide +kernel⟩,
  ⟨(hl 0 [(HL_CTRL_EN, 1)]), 0, frameLine 2 7 ([0x45, 0, 0, 0, 1, 0, 0, 0]), ⟨0, 7, [0x45, 0, 0, 0, 1, 0, 0, 0]⟩,
    by decide +kernel⟩,
  ⟨(hl 0 [(HL_CTRL_EN, 1)]), 0, frameLine 3 7 [0x44, 0, 0, 0, 1, 0, 0, 0, 1, 0, 0, 0], ⟨0, 7, [0x44, 0, 0, 0, 1, 0, 0,
    0, 1, 0, 0, 0]⟩, by decide +kernel⟩,
  ⟨(hl 0 [(HL_CTRL_EN, 1)] (fun s =>
    { s with links := [{ s.link 0 with prog := some ⟨3, ⟨0, 7, [0x44, 0, 0, 0, 1, 0, 0, 0, 1, 0, 0, 0]⟩, 0, []⟩ }, s.link 1] })),
    0, ⟨0, 7, [0x44, 0, 0, 0, 1, 0, 0, 0, 1, 0, 0, 0]⟩, by decide +kernel⟩,
  ⟨(hl 0 [(HL_CTRL_EN, 1)] (fun s =>
    { s with links := [{ s.link 0 with prog := some ⟨3, ⟨0, 7, [0x44, 0, 0, 0, 1, 0, 0, 0, 1, 0, 0, 0]⟩, 1, [2]⟩ }, s.link 1] })),
    0, ⟨0, 7, [0x44, 0, 0, 0, 1, 0, 0, 0, 1, 0, 0, 0]⟩, 2, 3, by decide +kernel⟩,
  ⟨(hl 0 [(HL_CTRL_EN, 1)]), 0, frameLine 4 7 [0x44, 0, 0, 0, 2, 0, 0, 0], ⟨0, 7, [0x44, 0, 0, 0, 2, 0, 0, 0]⟩,
    by decide +kernel⟩,
  ⟨(hl 0 [(HL_CTRL_EN, 1)] (fun s =>
    { s with links := [{ s.link 0 with prog := some ⟨4, ⟨0, 7, [0x44, 0, 0, 0, 2, 0, 0, 0]⟩, 0, []⟩ }, s.link 1] })),
    0, ⟨0, 7, [0x44, 0, 0, 0, 2, 0, 0, 0]⟩, 0, [], _, by decide +kernel, by decide +kernel, by decide +kernel, rfl,
    by decide +kernel⟩,
  ⟨(hl 0 [(HL_CTRL_EN, 1)] (fun s =>
    { s with links := [{ s.link 0 with prog := some ⟨4, ⟨0, 7, [0x00, 0x50, 0, 0, 2, 0, 0, 0]⟩, 0, []⟩ }, s.link 1] })),
    0, ⟨0, 7, [0x00, 0x50, 0, 0, 2, 0, 0, 0]⟩, 0, [], _, by decide +kernel, by decide +kernel, by decide +kernel, rfl,
    by decide +kernel⟩,
  ⟨(hl 0 [(HL_CTRL_EN, 1)]), 0, frameLine 5 7 [0x44, 0, 0, 0, 1, 0, 1, 0, 5, 0, 0, 0], ⟨0, 7, [0x44, 0, 0, 0, 1, 0, 1,
    0, 5, 0, 0, 0]⟩, by decide +kernel⟩,
  ⟨(hl 0 [(HL_CTRL_EN, 1)] (fun s =>
    { s with links := [{ s.link 0 with prog := some ⟨5, ⟨0, 7, [0x44, 0, 0, 0, 1, 0, 1, 0, 5, 0, 0, 0]⟩, 0, []⟩ }, s.link 1] })),
    0, ⟨0, 7, [0x44, 0, 0, 0, 1, 0, 1, 0, 5, 0, 0, 0]⟩, 0, _, by decide +kernel, by decide +kernel, by decide +kernel,
    by decide +kernel, by decide +kernel, rfl⟩⟩

/-- States that meet the hypotheses of LinkCommands. -/
theorem witness_LinkCommands :
  (∃ (s : State) (n : Fin 2) (line : List Byte) (f : Frame), s.takes n 6 line f = true ∧ f.payload.length = 16 ∧ u16
    f.payload 10 = 0 ∧ u8 f.payload 12 < 64 ∧ (∀ i < 3, u8 f.payload (13 + i) = 0)) ∧
  (∃ (s : State) (n : Fin 2) (line : List Byte) (f : Frame), s.takes n 7 line f = true ∧ f.payload = [] ∧ s.snapBars =
    false ∧ s.snap.cap = none) ∧
  (∃ (s : State) (n : Fin 2) (f : Frame), s.clocked = true ∧ s.snap.cap = some 0 ∧ (s.snap.drive = none ∨ s.snapBars =
    false) ∧ s.links.length = 2 ∧ (s.link n).prog = some ⟨7, f, 0, []⟩) ∧
  (∃ (s : State) (n : Fin 2) (line : List Byte) (f : Frame), s.takes n 8 line f = true ∧ f.payload.length = 8 ∧
    s.booted = true) ∧
  (∃ (s : State) (n : Fin 2) (line : List Byte) (f : Frame), typed line 9 = some f ∧ s.linkOn n = true ∧ (s.link n).rx
    = [] ∧ s.links.length = 2 ∧ f.res = 0 ∧ f.payload.length = 2) ∧
  (∃ (s : State) (n : Fin 2) (line : List Byte) (f : Frame) (e : SettingRec), s.takes n 10 line f = true ∧
    f.payload.length = 8 ∧ u8 f.payload 0 = 0 ∧ u8 f.payload 1 = 0 ∧ s.booted = true ∧ s.pl.settings.find? (fun x =>
    x.id = u16 f.payload 2) = some e) ∧
  (∃ (s : State) (n : Fin 2) (line : List Byte) (f : Frame) (e : SettingRec), s.takes n 10 line f = true ∧
    f.payload.length = 8 ∧ u8 f.payload 0 = 1 ∧ u8 f.payload 1 = 0 ∧ s.booted = true ∧ s.pl.settings.find? (fun x =>
    x.id = u16 f.payload 2) = some e ∧ s.keepsSetting e = true ∧ e.flags.testBit 1 = true) ∧
  (∃ (s : State) (n : Fin 2) (line : List Byte) (f : Frame), s.takes n 11 line f = true ∧ s.booted = true ∧ s.pairMode
    = false ∧ u8 f.payload 0 < 48 ∧ 1 ≤ u8 f.payload 1 ∧ u8 f.payload 1 ≤ 7 ∧ u16 f.payload 2 = 0 ∧ f.payload.length =
    4 + 4 * u8 f.payload 1) ∧
  (∃ (s : State) (n : Fin 2) (line : List Byte) (f : Frame), typed line 12 = some f ∧ s.linkOn n = true ∧ (s.link
    n).rx = [] ∧ s.links.length = 2 ∧ f.res = 0 ∧ f.payload.length ≤ 1024) ∧
  (∃ (s : State) (n : Fin 2) (line : List Byte) (f : Frame) (x : Reply), typed line 2 = some f ∧ s.linkOn n = true ∧
    (s.link n).rx = [] ∧ s.links.length = 2 ∧ (s.link n).last = some x ∧ x.answers 2 f = true) ∧
  (∃ (s : State) (n : Fin 2) (line : List Byte) (f : Frame), s.takes n 8 line f = true ∧ f.payload.length = 8 ∧
    s.booted = true) ∧
  (∃ (s : State) (n : Fin 2) (c : FwCmd), s.links.length = 2 ∧ (s.link n).cmd = some c ∧ s.clocked = true ∧ old s.now
    c.since 10000 = true) := ⟨
  ⟨(hl 0 [(HL_CTRL_EN, 1)]), 0, frameLine 6 7 ([0xFE, 0xFF, 0xFF, 0xFF, 1, 2, 3, 4, 5, 6, 0, 0, 63, 0, 0, 0]), ⟨0, 7,
    [0xFE, 0xFF, 0xFF, 0xFF, 1, 2, 3, 4, 5, 6, 0, 0, 63, 0, 0, 0]⟩, by decide +kernel⟩,
  ⟨(hl 0 [(HL_CTRL_EN, 1)]), 0, frameLine 7 7 [], ⟨0, 7, []⟩, by decide +kernel⟩,
  ⟨(hl 0 [(HL_CTRL_EN, 1)] (fun s =>
    { s with links := [{ s.link 0 with prog := some ⟨7, ⟨0, 7, []⟩, 0, []⟩ }, s.link 1], snap := { s.snap with cap := some 0 } })),
    0, ⟨0, 7, []⟩, by decide +kernel⟩,
  ⟨(hl 0 [(HL_CTRL_EN, 1)]), 0, frameLine 8 7 (List.replicate 8 0), ⟨0, 7, List.replicate 8 0⟩, by decide +kernel⟩,
  ⟨(hl 0 [(HL_CTRL_EN, 1)]), 0, frameLine 9 7 ([0, 0]), ⟨0, 7, [0, 0]⟩, by decide +kernel⟩,
  ⟨(hl 0 [(HL_CTRL_EN, 1)]), 0, frameLine 10 7 ([0, 0, 1, 0, 0, 0, 0, 0]), ⟨0, 7, [0, 0, 1, 0, 0, 0, 0, 0]⟩, ⟨1, 2, 0,
    8, 0x20044, 0, 0, 255⟩, by decide +kernel⟩,
  ⟨(hl 0 [(HL_CTRL_EN, 1)]), 0, frameLine 10 7 ([1, 0, 1, 0, 5, 0, 0, 0]), ⟨0, 7, [1, 0, 1, 0, 5, 0, 0, 0]⟩, ⟨1, 2, 0,
    8, 0x20044, 0, 0, 255⟩, by decide +kernel⟩,
  ⟨(hl 0 [(HL_CTRL_EN, 1)]), 0, frameLine 11 7 ([47, 1, 0, 0, 1, 2, 3, 4]), ⟨0, 7, [47, 1, 0, 0, 1, 2, 3, 4]⟩,
    by decide +kernel⟩,
  ⟨(hl 0 [(HL_CTRL_EN, 1)]), 0, frameLine 12 7 ([1, 2, 3]), ⟨0, 7, [1, 2, 3]⟩, by decide +kernel⟩,
  ⟨(hl 0 [(HL_CTRL_EN, 1)] (fun s =>
    { s with links := [{ s.link 0 with last := some ⟨7, frameCrc 2 ⟨0, 7, [1]⟩, [9]⟩ }, s.link 1] })), 0, frameLine 2
    7 [1], ⟨0, 7, [1]⟩, ⟨7, frameCrc 2 ⟨0, 7, [1]⟩, [9]⟩, by decide +kernel⟩,
  ⟨(hl 0 [(HL_CTRL_EN, 1)]), 0, frameLine 8 7 (List.replicate 8 0), ⟨0, 7, List.replicate 8 0⟩, by decide +kernel⟩,
  ⟨(hl 0 [] (fun s => { s with links := [{ s.link 0 with cmd := some ⟨8, ⟨0, 7, []⟩, 0⟩ }, s.link 1] })), 0, ⟨8, ⟨0,
    7, []⟩, 0⟩, by decide +kernel⟩⟩

/-- States that meet the hypotheses of FramesAndEvents. -/
theorem witness_FramesAndEvents :
  (∃ (s : State) (n : Fin 2) (line : List Byte) (ty : Nat) (f : Frame), readFrame line = some (ty, f) ∧ (ty = 0 ∨ 12 <
    ty) ∧ s.linkOn n = true ∧ (s.link n).rx = [] ∧ s.links.length = 2) ∧
  (∃ (s : State) (line : List Byte) (ty : Nat) (f : Frame), readFrame line = some (ty, f) ∧ (ty = 0 ∨ 7 < ty) ∧
    s.porchOn = true) ∧
  (∃ (s : State) (n : Fin 2) (ty : Nat) (line : List Byte) (f : Frame), typed line ty = some f ∧ ty ∈ [1, 2, 6, 7, 9,
    12] ∧ s.hears n = true ∧ s.links.length = 2 ∧ (s.linkOn n = false ∨ (s.link n).rx ≠ []) ∧ (RxCmd.size ⟨ty, f,
    false, false, s.now⟩) ≤ (s.link n).rxFree) ∧
  (∃ (s : State) (n : Fin 2) (line : List Byte) (lost : Bool), s.listens = true ∧ s.bit (hlField n HL_CTRL_EN) = true
    ∧ closed line = true ∧ (unstuff (between line)).isSome = true ∧ lost = true) ∧
  (∃ (s : State) (n : Fin 2) (line : List Byte) (charErr lost : Bool), s.listens = true ∧ s.bit (hlField n HL_CTRL_EN)
    = true ∧ closed line = true ∧ (unstuff (between line)).isSome = true ∧ lost = false ∧ charErr = true) ∧
  (∃ (s : State) (n : Fin 2) (line : List Byte) (charErr lost : Bool), s.listens = true ∧ s.bit (hlField n HL_CTRL_EN)
    = true ∧ closed line = true ∧ (unstuff (between line)).isSome = true ∧ lost = false ∧ charErr = false ∧ readFrame
    line = none) ∧
  (∃ (s : State) (n : Fin 2) (line : List Byte) (idle : Nat), s.listens = true ∧ s.bit (hlField n HL_CTRL_EN) = true ∧
    silent line idle = true) ∧
  (∃ (s : State) (n : Fin 2) (line : List Byte), s.listens = true ∧ s.bit (hlField n HL_CTRL_EN) = true ∧ closed line
    = true ∧ unstuff (between line) = none) ∧
  (∃ (s : State) (line : List Byte), s.porchOn = true ∧ closed line = true ∧ (unstuff (between line)).isSome = true ∧
    readFrame line = none) ∧
  (∃ (s : State) (line : List Byte) (idle : Nat), s.porchOn = true ∧ silent line idle = true) ∧
  (∃ (s : State), s.clocked = true ∧ s.fld HL_POST_HDR_LINKS = 1 ∧ s.links.length = 2 ∧ s.fld HL_POST_HDR_KIND ≠ 1 ∧
    s.fld HL_POST_HDR_KIND ≠ 14 ∧ covers s.regs 0 (s.fld HL_POST_HDR_KIND) (s.fld HL_POST_HDR_SRC) = true ∧ (s.link
    0).out.length < 256 ∧ (s.link 0).table = []) ∧
  (∃ (s : State) (n : Fin 2) (e : Evt), s.mayEvent n = true ∧ s.links.length = 2 ∧ (s.link n).unsent = some e) ∧
  (∃ (s : State) (n : Fin 2), s.links.length = 2 ∧ s.serving = true ∧ s.bit (hlField n HL_CTRL_EN) = true ∧ s.bit
    (hlField n HL_CTRL_EVT_EN) = true ∧ s.resendDue n = true ∧ ((s.link n).left ≠ 0 ∨ s.blocked n = true)) ∧
  (∃ (s : State) (n : Fin 2) (e : Evt) (l : List Evt), s.links.length = 2 ∧ s.serving = true ∧ s.bit (hlField n
    HL_CTRL_EN) = true ∧ s.bit (hlField n HL_CTRL_EVT_EN) = true ∧ s.resendDue n = true ∧ (s.link n).out = e :: l ∧
    (s.link n).left = 0 ∧ s.blocked n = false ∧ (s.link n).wait = none) ∧
  (∃ (s : State) (n : Fin 2) (b : List Byte), s.links.length = 2 ∧ (s.link n).wait = some b ∧ s.serving = true ∧
    (s.link n).left = 0 ∧ (s.link n).run < 4) := ⟨
  ⟨(hl 0 [(HL_CTRL_EN, 1)]), 0, frameLine 13 7 [], 13, ⟨0, 7, []⟩, by decide +kernel⟩,
  ⟨(hl 0 [(PORCH_CTRL_EN, 1)]), frameLine 8 7 [], 8, ⟨0, 7, []⟩, by decide +kernel⟩,
  ⟨(hl 0 [(HL_CTRL_EN, 1)] (fun s => { s with links := [{ s.link 0 with wait := some [1] }, s.link 1] })), 0, 1,
    frameLine 1 7 [4, 0, 0, 0], ⟨0, 7, [4, 0, 0, 0]⟩, by decide +kernel⟩,
  ⟨(hl 0 [(HL_CTRL_EN, 1)]), 0, [0x7E, 1, 0x7E], true, by decide +kernel⟩,
  ⟨(hl 0 [(HL_CTRL_EN, 1)]), 0, [0x7E, 1, 0x7E], true, false, by decide +kernel⟩,
  ⟨(hl 0 [(HL_CTRL_EN, 1)]), 0, [0x7E, 1, 0x7E], false, false, by decide +kernel⟩,
  ⟨(hl 0 [(HL_CTRL_EN, 1)]), 0, [0x7E, 1], 100000, by decide +kernel⟩,
  ⟨(hl 0 [(HL_CTRL_EN, 1)]), 0, [0x7E, 1, 0x7D, 0x7E], by decide +kernel⟩,
  ⟨(hl 0 [(PORCH_CTRL_EN, 1)]), [0x7E, 1, 0x7E], by decide +kernel⟩,
  ⟨(hl 0 [(PORCH_CTRL_EN, 1)]), [0x7E, 1], 100000, by decide +kernel⟩,
  ⟨(hl 0 [(HL_POST_HDR_LINKS, 1), (HL_POST_HDR_KIND, 16), (HL_POST_HDR_LEN, 32), (HL_SUB_KIND_KINDS, 0x7FFFFFFF)]),
    by decide +kernel⟩,
  ⟨(hl 0 [(HL_CTRL_EN, 1), (HL_CTRL_EVT_EN, 1)] (fun s =>
    { s with links := [{ s.link 0 with out := [⟨5, 2, 3, 1, 100, [1, 2], none⟩] }, s.link 1] })), 0, ⟨5, 2, 3, 1, 100,
    [1, 2], none⟩, by decide +kernel⟩,
  ⟨(hl 0 [(HL_CTRL_EN, 1), (HL_CTRL_EVT_EN, 1)] (fun s =>
    { s with links := [{ s.link 0 with out := [⟨5, 2, 3, 1, 100, [1, 2], some 0⟩], left := 5 }, s.link 1] })), 0,
    by decide +kernel⟩,
  ⟨(hl 0 [(HL_CTRL_EN, 1), (HL_CTRL_EVT_EN, 1)] (fun s =>
    { s with links := [{ s.link 0 with out := [⟨5, 2, 3, 1, 100, [1, 2], some 0⟩] }, s.link 1] })), 0, ⟨5, 2, 3, 1,
    100, [1, 2], some 0⟩, [], by decide +kernel⟩,
  ⟨(hl 0 [(HL_CTRL_EN, 1), (HL_CTRL_EVT_EN, 1)] (fun s =>
    { s with links := [{ s.link 0 with wait := some [1, 2] }, s.link 1] })), 0, [1, 2], by decide +kernel⟩⟩

/-- States that meet the hypotheses of FramesAreReadBack. -/
theorem witness_FramesAreReadBack :
  (∃ (type : Nat) (f : Frame) (noise : List Byte), type < 256 ∧ f.payload.length < 65536 ∧ 0x7E#8 ∉ noise) ∧
  (∃ (type seq : Nat) (payload : List Byte), type < 256 ∧ seq < 65536 ∧ payload.length < 65536) := ⟨
  ⟨0x7E, ⟨0x7D, 0x7E7D, [0x7E, 0x7D, 1]⟩, [1, 2], by decide +kernel⟩,
  ⟨0x7E, 0x7D7E, [0x7E, 0x7D, 1], by decide +kernel⟩⟩

/-- States that meet the hypotheses of PorchSessions. -/
theorem witness_PorchSessions :
  (∃ (s : State) (line : List Byte) (f : Frame), s.porchTakes 1 line f = true ∧ f.payload = []) ∧
  (∃ (s : State) (line : List Byte) (f : Frame), s.porchTakes 6 line f = true ∧ f.payload = []) ∧
  (∃ (s : State) (line : List Byte) (f : Frame) (x : Session) (b : List Byte), s.porchTakes 3 line f = true ∧
    s.clk.phase = .run ∧ b = f.payload.drop 8 ∧ 8 ≤ f.payload.length ∧ s.porch.sess = some x ∧ x.id = u32 f.payload 0
    ∧ u32 f.payload 4 = x.next ∧ x.next < chunks x.hdr ∧ b.length = storedLen x.hdr x.next ∧ hdrEnc x.hdr = false ∧
    s.bit CEL_STAT_READY = true ∧ (s.chunkIn x b).failingSector x x.next b none = none ∧ (s.chunkIn x b).jTakes
    ((s.chunkIn x b).sessionGroup { x with next := x.next + 1, lastAt := s.now }) = true) ∧
  (∃ (s : State) (line : List Byte) (f : Frame) (x : Session), s.porchTakes 3 line f = true ∧ 8 ≤ f.payload.length ∧
    s.porch.sess = some x ∧ x.id = u32 f.payload 0 ∧ u32 f.payload 4 ≠ x.next) ∧
  (∃ (s : State) (line : List Byte) (f : Frame) (x : Session), s.porchTakes 4 line f = true ∧ f.payload.length = 4 ∧
    s.porch.sess = some x ∧ x.id = u32 f.payload 0 ∧ x.next ≠ chunks x.hdr) ∧
  (∃ (s : State) (line : List Byte) (f : Frame) (x : Session), s.porchTakes 5 line f = true ∧ f.payload.length = 4 ∧
    s.porch.sess = some x ∧ x.id = u32 f.payload 0) ∧
  (∃ (s : State) (line : List Byte) (f : Frame), s.porchTakes 5 line f = true ∧ f.payload.length = 4 ∧ s.porch.sess =
    none) := ⟨
  ⟨(hl 0 [(PORCH_CTRL_EN, 1)]), frameLine 1 7 ([]), ⟨0, 7, []⟩, by decide +kernel⟩,
  ⟨(hl 0 [(PORCH_CTRL_EN, 1)]), frameLine 6 7 ([]), ⟨0, 7, []⟩, by decide +kernel⟩,
  ⟨(hl 0 [(PORCH_CTRL_EN, 1), (JNL_CTRL_EN, 1), (CEL_STAT_READY, 1), (JNL_STAT_EMPTY, 1)] (fun s =>
    { s with porch := { s.porch with sess := some ⟨1, 1, 1, ([0x49, 0x4D, 0x47, 0x45, 1, 0, 1, 0, 0x60, 0x48, 0, 0, 0, 0, 0, 0, 0, 0, 0, 0, 32, 0, 0, 0] : List Byte), 0, 0⟩ } })),
    frameLine 3 7 (([1, 0, 0, 0, 0, 0, 0, 0] ++ List.replicate 32 0xA5)), ⟨0, 7, ([1, 0, 0, 0, 0, 0, 0, 0] ++
    List.replicate 32 0xA5)⟩, ⟨1, 1, 1, ([0x49, 0x4D, 0x47, 0x45, 1, 0, 1, 0, 0x60, 0x48, 0, 0, 0, 0, 0, 0, 0, 0, 0,
    0, 32, 0, 0, 0] : List Byte), 0, 0⟩, List.replicate 32 0xA5, by decide +kernel⟩,
  ⟨(hl 0 [(PORCH_CTRL_EN, 1)] (fun s =>
    { s with porch := { s.porch with sess := some ⟨1, 1, 1, ([0x49, 0x4D, 0x47, 0x45, 1, 0, 1, 0, 0x60, 0x48, 0, 0, 0, 0, 0, 0, 0, 0, 0, 0, 32, 0, 0, 0] : List Byte), 0, 0⟩ } })),
    frameLine 3 7 ([1, 0, 0, 0, 1, 0, 0, 0]), ⟨0, 7, [1, 0, 0, 0, 1, 0, 0, 0]⟩, ⟨1, 1, 1, ([0x49, 0x4D, 0x47, 0x45, 1,
    0, 1, 0, 0x60, 0x48, 0, 0, 0, 0, 0, 0, 0, 0, 0, 0, 32, 0, 0, 0] : List Byte), 0, 0⟩, by decide +kernel⟩,
  ⟨(hl 0 [(PORCH_CTRL_EN, 1)] (fun s =>
    { s with porch := { s.porch with sess := some ⟨1, 1, 1, ([0x49, 0x4D, 0x47, 0x45, 1, 0, 1, 0, 0x60, 0x48, 0, 0, 0, 0, 0, 0, 0, 0, 0, 0, 32, 0, 0, 0] : List Byte), 0, 0⟩ } })),
    frameLine 4 7 ([1, 0, 0, 0]), ⟨0, 7, [1, 0, 0, 0]⟩, ⟨1, 1, 1, ([0x49, 0x4D, 0x47, 0x45, 1, 0, 1, 0, 0x60, 0x48, 0,
    0, 0, 0, 0, 0, 0, 0, 0, 0, 32, 0, 0, 0] : List Byte), 0, 0⟩, by decide +kernel⟩,
  ⟨(hl 0 [(PORCH_CTRL_EN, 1)] (fun s =>
    { s with porch := { s.porch with sess := some ⟨1, 1, 1, ([0x49, 0x4D, 0x47, 0x45, 1, 0, 1, 0, 0x60, 0x48, 0, 0, 0, 0, 0, 0, 0, 0, 0, 0, 32, 0, 0, 0] : List Byte), 0, 0⟩ } })),
    frameLine 5 7 [1, 0, 0, 0], ⟨0, 7, [1, 0, 0, 0]⟩, ⟨1, 1, 1, ([0x49, 0x4D, 0x47, 0x45, 1, 0, 1, 0, 0x60, 0x48, 0,
    0, 0, 0, 0, 0, 0, 0, 0, 0, 32, 0, 0, 0] : List Byte), 0, 0⟩, by decide +kernel⟩,
  ⟨(hl 0 [(PORCH_CTRL_EN, 1)]), frameLine 5 7 [1, 0, 0, 0], ⟨0, 7, [1, 0, 0, 0]⟩, by decide +kernel⟩⟩

/-- States that meet the hypotheses of Activation. -/
theorem witness_Activation :
  (∃ (s : State) (line : List Byte) (f : Frame), s.porchTakes 7 line f = true ∧ s.clk.phase = .run ∧ f.payload.length
    = 8) ∧
  (∃ (s : State) (line : List Byte) (f : Frame) (a : Nat), s.porchTakes 7 line f = true ∧ s.clk.phase = .run ∧
    f.payload.length = 8 ∧ a = u32 f.payload 0 + 2 ^ 32 * u32 f.payload 4 ∧ s.tb + 1000000 ≤ a ∧ a ≤ s.tb +
    2592000000000 ∧ s.stagedKinds ≠ 0 ∧ s.pairMode = false ∧ s.porch.sess = none ∧ s.fld UPD_STAT_TRIAL = 0) ∧
  (∃ (s : State) (plan slot : Bool), s.booted = true ∧ s.sessionOld (if plan then 2 else 1) slot.toNat = true) ∧
  (∃ (s : State) (means : List Nat), s.booted = true ∧ s.atPassed = true ∧ s.hallKeeper = true ∧ s.porch.evalAt = none
    ∧ s.defers means = true ∧ s.bit UPD_STAT_DEFERRING = false) ∧
  (∃ (s : State) (means : List Nat), s.booted = true ∧ s.atPassed = true ∧ s.hallKeeper = true ∧ s.porch.evalAt = none
    ∧ s.defers means = false) ∧
  (∃ (s : State), s.booted = true ∧ s.scheduled = true ∧ due s.now s.porch.deferAt (60000000 * s.fld
    UPD_CFG_DEFER_MAX) = true) ∧
  (∃ (s : State), s.peerResets = true) ∧
  (∃ (s : State), s.booted = true ∧ s.porch.settled = false ∧ s.porch.reverted = none ∧ s.returnCase = 0 ∧ s.fld
    UPD_STAT_TRIAL ≠ 0 ∧ s.confOver = true) ∧
  (∃ (s : State), s.booted = true ∧ s.porch.reverted = none ∧ s.returnCase ≠ 0 ∧ s.returnCase ≠ 1) ∧
  (∃ (s : State) (x : Nat × Nat), s.booted = true ∧ s.porch.reverted = some x) ∧
  (∃ (s : State) (id schema : Nat) (rest : List (Nat × Nat)), s.booted = true ∧ s.porch.resets = (id, schema) :: rest) := ⟨
  ⟨(hl 0 [(PORCH_CTRL_EN, 1)]), frameLine 7 7 (List.replicate 8 0), ⟨0, 7, List.replicate 8 0⟩, by decide +kernel⟩,
  ⟨(hl 0 [(PORCH_CTRL_EN, 1)] (fun s =>
    { s with porch := { s.porch with staged := [some ⟨1, List.replicate 48 0, 1, 0⟩, none] } })), frameLine 7 7
    ([0x40, 0x42, 0x0F, 0, 0, 0, 0, 0]), ⟨0, 7, [0x40, 0x42, 0x0F, 0, 0, 0, 0, 0]⟩, 1000000, by decide +kernel⟩,
  ⟨((hl 0 [(JNL_CTRL_EN, 1), (CEL_STAT_READY, 1), (TB_HI_TB, 200)]).jWrite (digestGroup 5 257 (List.replicate 16 0)
    (List.replicate 48 0))), false, true, by decide +kernel⟩,
  ⟨(hl 0 [(UPD_STAT_SCHEDULED, 1), (FIRE_CFG_FIRE_IN, 1), (HALL_MODE_MODE, mFire)]), [], by decide +kernel⟩,
  ⟨(hl 0 [(UPD_STAT_SCHEDULED, 1)]), [], by decide +kernel⟩,
  ⟨(hl 0 [(UPD_STAT_SCHEDULED, 1), (UPD_CFG_DEFER_MAX, 1)] (fun s =>
    { s with porch := { s.porch with deferAt := some 0 } })), by decide +kernel⟩,
  ⟨(hl 1 [(UPD_STAT_SCHEDULED, 1)] (fun s => { s with pair := { s.pair with seen := 1 } })), by decide +kernel⟩,
  ⟨(hl 0 [(UPD_STAT_TRIAL, 1)] (fun s => { s with porch := { s.porch with settled := false } })), by decide +kernel⟩,
  ⟨(hl 1 [(UPD_STAT_TRIAL, 1)] (fun s => { s with porch := { s.porch with diffAt := some 0 } })), by decide +kernel⟩,
  ⟨(hl 0 [] (fun s => { s with porch := { s.porch with reverted := some (2, 1) } })), (2, 1), by decide +kernel⟩,
  ⟨(hl 0 [] (fun s => { s with porch := { s.porch with resets := [(1, 2), (3, 4)] } })), 1, 2, [(3, 4)],
    by decide +kernel⟩⟩

/-- States that meet the hypotheses of AtticCommands. -/
theorem witness_AtticCommands :
  (∃ (s : State), s.clocked = true ∧ s.fuseFree 1 = true) ∧
  (∃ (s : State), s.clocked = true ∧ s.attic.cmd = none) ∧
  (∃ (s : State), s.clocked = true ∧ s.fuseFree 3 = true) ∧
  (∃ (s : State), s.clocked = true ∧ s.fuseFree 4 = true) ∧
  (∃ (s : State), s.clocked = true ∧ s.fuseFree 5 = true) ∧
  (∃ (s : State), s.clocked = true ∧ s.attic.cmd = none) ∧
  (∃ (s : State), s.clocked = true ∧ s.attic.cmd = none) ∧
  (∃ (s : State), s.clocked = true) ∧
  (∃ (s : State) (c : FuseCmd), s.clocked = true ∧ s.attic.cmd = some c) ∧
  (∃ (s : State) (v : Word), s.clocked = true ∧ v.getLsbD 8 = false) ∧
  (∃ (s : State) (v : Word), s.clocked = true ∧ v.getLsbD 8 = true ∧ s.debugOn = true) := ⟨
  ⟨(hl 0 [(ATTIC_ADDR_WORD, 20)]), by decide +kernel⟩,
  ⟨(up 0), by decide +kernel⟩,
  ⟨(hl 0 [(ATTIC_ADDR_CTR, 2), (ATTIC_ADDR_VALUE, 1)]), by decide +kernel⟩,
  ⟨(hl 0 [(ATTIC_ADDR_SEL, 0)]), by decide +kernel⟩,
  ⟨(up 0), by decide +kernel⟩,
  ⟨(up 0), by decide +kernel⟩,
  ⟨(up 0), by decide +kernel⟩,
  ⟨(up 0), by decide +kernel⟩,
  ⟨(hl 0 [] (fun s => { s with attic := { s.attic with cmd := some ⟨1, 20, 0xF0, 0, 0, 0, []⟩ } })), ⟨1, 20, 0xF0, 0,
    0, 0, []⟩, by decide +kernel⟩,
  ⟨(up 0), 0xFF, by decide +kernel⟩,
  ⟨(up 0), 0x100, by decide +kernel⟩⟩

/-- States that meet the hypotheses of JournalCommands. -/
theorem witness_JournalCommands :
  (∃ (s : State), s.booted = true ∧ s.jRefusal s.jWin = 0 ∧ s.jWin.flags.testBit 0 = false) ∧
  (∃ (s : State), s.booted = true ∧ s.jRefusal s.jWin = 0 ∧ s.jWin.flags.testBit 0 = true) ∧
  (∃ (s : State), s.booted = true ∧ s.jnl.cmd = none ∧ s.bit JNL_CTRL_EN = true ∧ s.bit CEL_STAT_READY = true ∧ s.bit
    PWR_STAT_PENDING = false ∧ fwType s.jWin.type = false) ∧
  (∃ (s : State), s.booted = true) ∧
  (∃ (s : State), s.booted = true ∧ s.jnl.cmd = none ∧ s.bit JNL_CTRL_EN = true ∧ s.bit CEL_STAT_READY = true) ∧
  (∃ (s : State) (g : List JRec), s.booted = true ∧ s.jnl.cmd = some g) ∧
  (∃ (s : State), s.booted = true ∧ s.bit JNL_CTRL_EN = true ∧ s.bit PWR_STAT_PENDING = false ∧ s.jnl.due = true ∧
    s.bit JNL_STAT_COMPACTING = false ∧ s.bit JNL_STAT_EMPTY = false) ∧
  (∃ (s : State), s.booted = true ∧ s.bit JNL_CTRL_EN = true ∧ s.bit PWR_STAT_PENDING = false ∧ s.bit CEL_STAT_ERASING
    = true) ∧
  (∃ (s : State) (c : Ckpt), s.booted = true ∧ s.bit JNL_CTRL_EN = true ∧ s.bit PWR_STAT_PENDING = false ∧ s.jnl.ckpt
    = some c ∧ s.jnl.cmd = none) ∧
  (∃ (s : State) (g : List JRec) (n : Nat), s.booted = true ∧ s.jnl.cmd = some g ∧ n < 2 * g.length) := ⟨
  ⟨(hl 0 [(JNL_CTRL_EN, 1), (CEL_STAT_READY, 1), (JNL_STAT_EMPTY, 1)] (fun s =>
    { s with regs := s.regs.set 0x73014 0x00010040 })), by decide +kernel⟩,
  ⟨(hl 0 [(JNL_CTRL_EN, 1), (CEL_STAT_READY, 1), (JNL_STAT_EMPTY, 1)] (fun s =>
    { s with regs := s.regs.set 0x73014 0x00010140 })), by decide +kernel⟩,
  ⟨(hl 0 [(JNL_CTRL_EN, 1), (CEL_STAT_READY, 1), (JNL_STAT_EMPTY, 1)] (fun s =>
    { s with regs := s.regs.set 0x73014 0x00010001 })), by decide +kernel⟩,
  ⟨(up 0), by decide +kernel⟩,
  ⟨(hl 0 [(JNL_CTRL_EN, 1), (CEL_STAT_READY, 1), (JNL_STAT_EMPTY, 1)]), by decide +kernel⟩,
  ⟨(hl 0 [(JNL_CTRL_EN, 1), (CEL_STAT_READY, 1), (JNL_STAT_EMPTY, 1)] (fun s =>
    { s with jnl := { s.jnl with cmd := some [⟨0x40, 0, 1, []⟩] } })), [⟨0x40, 0, 1, []⟩], by decide +kernel⟩,
  ⟨(hl 0 [(JNL_CTRL_EN, 1)] (fun s => { s with jnl := { s.jnl with due := true } })), by decide +kernel⟩,
  ⟨(hl 0 [(JNL_CTRL_EN, 1), (CEL_STAT_ERASING, 1)]), by decide +kernel⟩,
  ⟨(hl 0 [(JNL_CTRL_EN, 1), (CEL_STAT_READY, 1), (JNL_STAT_USED, 196608)] (fun s =>
    { s with jnl := { s.jnl with ckpt := some ⟨0, 0, 0⟩ } })), ⟨0, 0, 0⟩, by decide +kernel⟩,
  ⟨(hl 0 [(JNL_CTRL_EN, 1), (CEL_STAT_READY, 1), (JNL_STAT_EMPTY, 1)] (fun s =>
    { s with jnl := { s.jnl with cmd := some [⟨0x40, 0, 1, []⟩] } })), [⟨0x40, 0, 1, []⟩], 1, by decide +kernel⟩⟩

/-- States that meet the hypotheses of KeyLines. -/
theorem witness_KeyLines :
  (∃ (s : State), s.paired = true ∧ s.hbMissed = false ∧ s.pair.barred = false) ∧
  (∃ (s : State) (ns : Nat), s.paired = true ∧ 1000 ≤ ns ∧ ns ≤ 3000) ∧
  (∃ (s : State), s.paired = true ∧ s.peerAlive = true ∧ due s.now s.pair.hbAt 150 = true) ∧
  (∃ (s : State) (w : Fin 2), s.chipB = false ∧ s.clk.bootAt + 1000 ≤ s.now ∧ s.mayClaim w = true ∧
    s.pair.seen.testBit w.val = false) ∧
  (∃ (s : State) (w : Fin 2), s.chipB = true ∧ s.mayClaim w = true ∧ s.pair.seen.testBit w.val = false ∧
    s.pair.clear.getD w.val 0 + 5000 ≤ s.now ∧ s.pair.firstAt.getD s.clk.bootAt + 5000 ≤ s.now) ∧
  (∃ (s : State) (w : Fin 2), s.mayClaim w = true ∧ s.pair.seen.testBit w.val = true ∧ s.peerResets = false) ∧
  (∃ (s : State), s.paired = true ∧ due s.now s.pair.guard 10 = true ∧ (s.pair.guardW &&& s.fld PAIR_STAT_PEER_HELD) =
    0) ∧
  (∃ (s : State) (w : Fin 2), s.paired = true ∧ due s.now (s.pair.conAt.getD w.val none) 2 = true ∧
    s.pair.yieldAt.getD w.val none = none) ∧
  (∃ (s : State) (w : Fin 2), s.paired = true ∧ s.chipB = false ∧ s.peerHolds w = true ∧ due s.now
    (s.pair.yieldAt.getD w.val none) 120 = true) ∧
  (∃ (s : State), s.paired = true) ∧
  (∃ (s : State), s.paired = true) ∧
  (∃ (s : State), s.paired = true ∧ due s.now s.pair.stuckAt 1000 = true) ∧
  (∃ (s : State) (p : Fin 48), s.paired = true ∧ s.live p = true) := ⟨
  ⟨(hl 1 []), by decide +kernel⟩,
  ⟨(hl 1 []), 1000, by decide +kernel⟩,
  ⟨(hl 1 [(PAIR_STAT_PEER_ALIVE, 1)] (fun s => { s with pair := { s.pair with hbAt := some 0 } })), by decide +kernel⟩,
  ⟨{ (hl 1 []) with hbMissed := false }, 0, by decide +kernel⟩,
  ⟨{ (hl 1 [] (fun s => { s with pair := { s.pair with firstAt := some 0, clear := [0, 0] } })) with chipB := true },
    1, by decide +kernel⟩,
  ⟨(hl 1 [] (fun s => { s with pair := { s.pair with seen := 2 } })), 1, by decide +kernel⟩,
  ⟨(hl 1 [(PAIR_STAT_PEER_HELD, 1)] (fun s => { s with pair := { s.pair with guard := some 0, guardW := 2 } })),
    by decide +kernel⟩,
  ⟨(hl 1 [] (fun s => { s with pair := { s.pair with conAt := [some 0, none] } })), 0, by decide +kernel⟩,
  ⟨(hl 1 [(PAIR_STAT_PEER_HELD, 1)] (fun s =>
    { s with pair := { s.pair with yieldAt := [some 0, none], claims := 3 } })), 0, by decide +kernel⟩,
  ⟨(hl 1 []), by decide +kernel⟩,
  ⟨(hl 1 [] (fun s => { s with pair := { s.pair with claims := 3 } })), by decide +kernel⟩,
  ⟨(hl 1 [] (fun s => { s with pair := { s.pair with stuckAt := some 0 } })), by decide +kernel⟩,
  ⟨(hl 1 [(PAIR_STAT_HELD, 1)] (fun s => { s with pair := { s.pair with claims := 1 } })), 0, by decide +kernel⟩⟩

/-- States that meet the hypotheses of StairLinkAndSending. -/
theorem witness_StairLinkAndSending :
  (∃ (s : State), s.paired = true) ∧
  (∃ (s : State) (k : Fin 2), s.paired = true ∧ s.pair.lock.getD k.val none = none) ∧
  (∃ (s : State) (k : Fin 2), s.paired = true ∧ (s.pair.lock.getD k.val none).isSome = true) ∧
  (∃ (s : State), s.paired = true ∧ s.bit PAIR_STAT_LINK_UP = false ∧ s.pair.lock.any (fun t => due s.now t 1000) =
    true ∧ s.pair.dgTx = true ∧ s.pair.dgRx = true) ∧
  (∃ (s : State), s.paired = true ∧ s.bit PAIR_STAT_LINK_UP = true ∧ due s.now s.pair.copyAt 200 = true) ∧
  (∃ (s : State), s.paired = true ∧ s.bit STAIR_STAT_TX_ON = true ∧ s.pair.claims ≠ 0) ∧
  (∃ (s : State), s.paired = true ∧ s.bit STAIR_STAT_TX_ON = true ∧ s.hallKeeper = true) ∧
  (∃ (s : State), s.paired = true ∧ s.bit STAIR_STAT_TX_ON = true ∧ s.hallKeeper = true) ∧
  (∃ (s : State), s.paired = true ∧ s.bit STAIR_STAT_TX_ON = true) ∧
  (∃ (s : State), s.paired = true ∧ s.bit STAIR_STAT_TX_ON = true) ∧
  (∃ (s : State), s.paired = true ∧ s.bit STAIR_STAT_TX_ON = true ∧ s.bit PAIR_STAT_LINK_UP = true ∧ s.staleHere ≠ 0 ∧
    due s.now s.pair.resyncAt 1000 = true) ∧
  (∃ (s : State), s.paired = true ∧ due s.now s.pair.statusAt 200 = true) ∧
  (∃ (s : State) (k : Fin 2), s.paired = true ∧ (s.pair.lock.getD k.val none).isSome = true) := ⟨
  ⟨(hl 1 []), by decide +kernel⟩,
  ⟨(hl 1 [] (fun s => { s with pair := { s.pair with lock := [none, none] } })), 0, by decide +kernel⟩,
  ⟨(hl 1 [(STAIR_STAT_RX1_LOCK, 1)] (fun s => { s with pair := { s.pair with lock := [none, some 0] } })), 1,
    by decide +kernel⟩,
  ⟨(hl 1 [] (fun s => { s with pair := { s.pair with lock := [some 0, none], dgTx := true, dgRx := true } })),
    by decide +kernel⟩,
  ⟨(hl 1 [(PAIR_STAT_LINK_UP, 1)] (fun s => { s with pair := { s.pair with copyAt := some 0 } })), by decide +kernel⟩,
  ⟨(hl 1 [(STAIR_STAT_TX_ON, 1)] (fun s => { s with pair := { s.pair with claims := 1 } })), by decide +kernel⟩,
  ⟨(hl 1 [(STAIR_STAT_TX_ON, 1), (PAIR_STAT_HELD, 1)] (fun s =>
    { s with pair := { s.pair with claims := 1, seq := 65535 } })), by decide +kernel⟩,
  ⟨(hl 1 [(STAIR_STAT_TX_ON, 1), (PAIR_STAT_HELD, 1)] (fun s =>
    { s with pair := { s.pair with claims := 1, seq := 65535 } })), by decide +kernel⟩,
  ⟨(hl 1 [(STAIR_STAT_TX_ON, 1)]), by decide +kernel⟩,
  ⟨(hl 1 [(STAIR_STAT_TX_ON, 1)]), by decide +kernel⟩,
  ⟨(hl 1 [(STAIR_STAT_TX_ON, 1), (PAIR_STAT_LINK_UP, 1)] (fun s =>
    { s with pair := { s.pair with stale := 1, resyncAt := some 0 } })), by decide +kernel⟩,
  ⟨(hl 1 [] (fun s => { s with pair := { s.pair with statusAt := some 0, peerReady := true } })), by decide +kernel⟩,
  ⟨(hl 1 [] (fun s => { s with pair := { s.pair with lock := [some 0, none] } })), 0, by decide +kernel⟩⟩

/-- States that meet the hypotheses of BurstsAreReadBack. -/
theorem witness_BurstsAreReadBack :
  (∃ (type : Nat) (c : StairRec), type < 256 ∧ c.target < 256 ∧ c.payload.length = 52) :=
  ⟨2, ⟨0x40, 5, 7, List.replicate 52 0x1C⟩, by decide +kernel⟩

/-- States that meet the hypotheses of StairRecords. -/
theorem witness_StairRecords :
  (∃ (s : State) (k : Fin 2) (line : List (BitVec 10)) (c : StairRec), s.takesNext k c = true ∧ s.fld
    PAIR_STAT_PEER_HELD ≠ 0 ∧ carries line 1 c) ∧
  (∃ (s : State) (k : Fin 2) (line : List (BitVec 10)) (c : StairRec) (b : Fin 6), s.takesNext k c = true ∧ c.target =
    0x40 + b.val ∧ s.peerKeeps (48 + b.val) = true ∧ carries line 2 c) ∧
  (∃ (s : State) (k : Fin 2) (line : List (BitVec 10)) (c : StairRec) (p : Fin 48), s.takesNext k c = true ∧ c.target
    = p.val ∧ s.peerKeeps p.val = true ∧ carries line 3 c) ∧
  (∃ (s : State) (k : Fin 2) (line : List (BitVec 10)) (c : StairRec) (b : Fin 6), s.takesNext k c = true ∧ c.target =
    48 + b.val ∧ s.peerKeeps (48 + b.val) = true ∧ carries line 4 c) ∧
  (∃ (s : State) (k : Fin 2) (line : List (BitVec 10)) (c : StairRec) (p : Fin 48), s.takesNext k c = true ∧ c.target
    = p.val ∧ s.peerKeeps p.val = true ∧ num c.payload 0 1 = 2 ∧ carries line 5 c) ∧
  (∃ (s : State) (k : Fin 2) (line : List (BitVec 10)) (c : StairRec), s.takesNext k c = true ∧ c.target < 48 ∧
    s.peerKeeps c.target = true ∧ (s.modelRec c.target).isSome = true ∧ c.target < s.hearth.models.length ∧ carries
    line 6 c) ∧
  (∃ (s : State) (k : Fin 2) (line : List (BitVec 10)) (c : StairRec) (p : Fin 48), s.takesNext k c = true ∧ c.target
    = p.val ∧ p.val % 4 = 0 ∧ s.peerKeeps p.val = true ∧ carries line 7 c) ∧
  (∃ (s : State) (k : Fin 2) (line : List (BitVec 10)) (c : StairRec), s.takesNext k c = true ∧ s.peerKeeps 54 = true
    ∧ carries line 8 c) ∧
  (∃ (s : State) (k : Fin 2) (line : List (BitVec 10)) (c : StairRec), s.takesNext k c = true ∧ s.peerKeeps 54 = true
    ∧ carries line 9 c) ∧
  (∃ (s : State) (k : Fin 2) (line : List (BitVec 10)) (c : StairRec) (a : Nat) (b : Fin 6), s.takesNext k c = true ∧
    s.fld PAIR_STAT_PEER_HELD ≠ 0 ∧ num c.payload 0 1 = 1 ∧ num c.payload 4 4 = a ∧ locate a = some (.land b.val 0x48)
    ∧ a % 4 = 0 ∧ s.peerWrites a = true ∧ carries line 10 c) ∧
  (∃ (s : State) (k : Fin 2) (line : List (BitVec 10)) (c : StairRec) (a : Nat), s.takesNext k c = true ∧ s.fld
    PAIR_STAT_PEER_HELD ≠ 0 ∧ num c.payload 0 1 = 1 ∧ num c.payload 4 4 = a ∧ s.peerWrites a = false ∧ carries line 10
    c) ∧
  (∃ (s : State) (k : Fin 2) (line : List (BitVec 10)) (c : StairRec) (p : Fin 48), s.takesNext k c = true ∧ c.target
    = p.val ∧ s.peerKeeps p.val = false ∧ carries line 3 c) ∧
  (∃ (s : State) (k : Fin 2) (line : List (BitVec 10)) (c : StairRec), s.takesNext k c = true ∧ carries line 16 c) ∧
  (∃ (s : State) (k : Fin 2) (line : List (BitVec 10)) (c : StairRec), s.takesNext k c = true ∧ carries line 17 c) ∧
  (∃ (s : State) (k : Fin 2) (line : List (BitVec 10)) (c : StairRec), s.takesNext k c = true ∧ carries line 18 c) := ⟨
  ⟨(hl 1 [(PAIR_STAT_LINK_UP, 1), (PAIR_STAT_PEER_HELD, 3)] (fun s =>
    { s with pair := { s.pair with lock := [some 0, none], eSet := true } })), 0, burstLine 1 (⟨0x3F, 0, 0,
    List.replicate 52 0⟩), ⟨0x3F, 0, 0, List.replicate 52 0⟩, by decide +kernel⟩,
  ⟨(hl 1 [(PAIR_STAT_LINK_UP, 1), (PAIR_STAT_PEER_HELD, 3)] (fun s =>
    { s with pair := { s.pair with lock := [some 0, none], eSet := true } })), 0, burstLine 2 (⟨0x40, 0, 0,
    (List.range 52).map (BitVec.ofNat 8 ·)⟩), ⟨0x40, 0, 0, (List.range 52).map (BitVec.ofNat 8 ·)⟩, 0,
    by decide +kernel⟩,
  ⟨(hl 1 [(PAIR_STAT_LINK_UP, 1), (PAIR_STAT_PEER_HELD, 3)] (fun s =>
    { s with pair := { s.pair with lock := [some 0, none], eSet := true } })), 0, burstLine 3 (⟨0, 0, 0, (List.range
    52).map (BitVec.ofNat 8 ·)⟩), ⟨0, 0, 0, (List.range 52).map (BitVec.ofNat 8 ·)⟩, 0, by decide +kernel⟩,
  ⟨(hl 1 [(PAIR_STAT_LINK_UP, 1), (PAIR_STAT_PEER_HELD, 3)] (fun s =>
    { s with pair := { s.pair with lock := [some 0, none], eSet := true } })), 0, burstLine 4 (⟨49, 0, 0, (List.range
    52).map (BitVec.ofNat 8 ·)⟩), ⟨49, 0, 0, (List.range 52).map (BitVec.ofNat 8 ·)⟩, 1, by decide +kernel⟩,
  ⟨(hl 1 [(PAIR_STAT_LINK_UP, 1), (PAIR_STAT_PEER_HELD, 3)] (fun s =>
    { s with pair := { s.pair with lock := [some 0, none], eSet := true } })), 0, burstLine 5 (⟨2, 0, 0, (2#8 ::
    (List.range 51).map (BitVec.ofNat 8 ·))⟩), ⟨2, 0, 0, (2#8 :: (List.range 51).map (BitVec.ofNat 8 ·))⟩, 2,
    by decide +kernel⟩,
  ⟨(hl 1 [(PAIR_STAT_LINK_UP, 1), (PAIR_STAT_PEER_HELD, 3)] (fun s =>
    { s with pair := { s.pair with lock := [some 0, none], eSet := true } })), 0, burstLine 6 (⟨0, 0, 0, (List.range
    52).map (BitVec.ofNat 8 ·)⟩), ⟨0, 0, 0, (List.range 52).map (BitVec.ofNat 8 ·)⟩, by decide +kernel⟩,
  ⟨(hl 1 [(PAIR_STAT_LINK_UP, 1), (PAIR_STAT_PEER_HELD, 3)] (fun s =>
    { s with pair := { s.pair with lock := [some 0, none], eSet := true } })), 0, burstLine 7 (⟨4, 0, 0, (List.range
    52).map (BitVec.ofNat 8 ·)⟩), ⟨4, 0, 0, (List.range 52).map (BitVec.ofNat 8 ·)⟩, 4, by decide +kernel⟩,
  ⟨(hl 1 [(PAIR_STAT_LINK_UP, 1), (PAIR_STAT_PEER_HELD, 3)] (fun s =>
    { s with pair := { s.pair with lock := [some 0, none], eSet := true } })), 0, burstLine 8 (⟨54, 0, 0, (List.range
    52).map (BitVec.ofNat 8 ·)⟩), ⟨54, 0, 0, (List.range 52).map (BitVec.ofNat 8 ·)⟩, by decide +kernel⟩,
  ⟨(hl 1 [(PAIR_STAT_LINK_UP, 1), (PAIR_STAT_PEER_HELD, 3)] (fun s =>
    { s with pair := { s.pair with lock := [some 0, none], eSet := true } })), 0, burstLine 9 (⟨54, 0, 0, (List.range
    52).map (BitVec.ofNat 8 ·)⟩), ⟨54, 0, 0, (List.range 52).map (BitVec.ofNat 8 ·)⟩, by decide +kernel⟩,
  ⟨(hl 1 [(PAIR_STAT_LINK_UP, 1), (PAIR_STAT_PEER_HELD, 3)] (fun s =>
    { s with pair := { s.pair with lock := [some 0, none], eSet := true } })), 0, burstLine 10 (⟨0, 0, 0, [1, 0, 0, 0,
    0x48, 0, 2, 0, 0, 10, 0, 0] ++ List.replicate 40 0⟩), ⟨0, 0, 0, [1, 0, 0, 0, 0x48, 0, 2, 0, 0, 10, 0, 0] ++
    List.replicate 40 0⟩, 0x20048, 0, by decide +kernel⟩,
  ⟨(hl 1 [(PAIR_STAT_LINK_UP, 1), (PAIR_STAT_PEER_HELD, 2)] (fun s =>
    { s with pair := { s.pair with lock := [some 0, none], eSet := true } })), 0, burstLine 10 (⟨0, 0, 0, [1, 0, 0, 0,
    0x48, 0, 2, 0, 10, 0, 0, 0] ++ List.replicate 40 0⟩), ⟨0, 0, 0, [1, 0, 0, 0, 0x48, 0, 2, 0, 10, 0, 0, 0] ++
    List.replicate 40 0⟩, 0x20048, by decide +kernel⟩,
  ⟨(hl 1 [(PAIR_STAT_LINK_UP, 1), (PAIR_STAT_PEER_HELD, 2)] (fun s =>
    { s with pair := { s.pair with lock := [some 0, none], eSet := true } })), 0, burstLine 3 (⟨5, 0, 0, (List.range
    52).map (BitVec.ofNat 8 ·)⟩), ⟨5, 0, 0, (List.range 52).map (BitVec.ofNat 8 ·)⟩, 5, by decide +kernel⟩,
  ⟨(hl 1 [(PAIR_STAT_LINK_UP, 1), (PAIR_STAT_PEER_HELD, 3)] (fun s =>
    { s with pair := { s.pair with lock := [some 0, none], eSet := true } })), 0, burstLine 16 (⟨0, 0, 0, (List.range
    52).map (BitVec.ofNat 8 ·)⟩), ⟨0, 0, 0, (List.range 52).map (BitVec.ofNat 8 ·)⟩, by decide +kernel⟩,
  ⟨(hl 1 [(PAIR_STAT_LINK_UP, 1), (PAIR_STAT_PEER_HELD, 3)] (fun s =>
    { s with pair := { s.pair with lock := [some 0, none], eSet := true } })), 0, burstLine 17 (⟨0, 0, 0, (List.range
    52).map (BitVec.ofNat 8 ·)⟩), ⟨0, 0, 0, (List.range 52).map (BitVec.ofNat 8 ·)⟩, by decide +kernel⟩,
  ⟨(hl 1 [(PAIR_STAT_LINK_UP, 1), (PAIR_STAT_PEER_HELD, 3)] (fun s =>
    { s with pair := { s.pair with lock := [some 0, none], eSet := true } })), 0, burstLine 18 (⟨0, 0, 0, (List.range
    52).map (BitVec.ofNat 8 ·)⟩), ⟨0, 0, 0, (List.range 52).map (BitVec.ofNat 8 ·)⟩, by decide +kernel⟩⟩

end Sys2Proof.Tests
end

namespace Sys2Proof.Machine

/-! ## An instruction of a core that is about to execute (R388, R392, R395, R396, R616) -/

@[simp] theorem State.core_onCoreOf (s : State) (c : CoreId) (f : Core → Core) : (s.onCoreOf c f).core c = f (s.core c) := by
  cases c with
  | room p => exact congrArg Room.core (s.room_onRoom p _)
  | hall => rfl

/-- An update of a core depends on its value at that core alone. -/
theorem State.onCoreOf_congr (s : State) (c : CoreId) {f g : Core → Core} (h : f (s.core c) = g (s.core c)) :
    s.onCoreOf c f = s.onCoreOf c g := by
  cases c with
  | room p => exact congrArg (fun k => s.setRoom p { s.room p with core := k }) h
  | hall => exact congrArg (fun k => { s with hall := k }) h

@[simp] theorem State.core_moved (s : State) (c : CoreId) :
    (s.moved c).core c = { s.core c with pc := (s.core c).pc + 4, pass := false } :=
  s.core_onCoreOf c _

/-- Posted events and the queue are what `butLinks` leaves out. -/
@[simp] theorem State.butLinks_posted_withQueue (s t : State) (q : List Instr) :
    ((s.posted t).withQueue q).butLinks = t.butLinks := rfl

/-- A core is about to execute: it runs, with no repetition, a fetch address, no breakpoint and no step of debug. -/
theorem State.seqReady_iff (s : State) (c : CoreId) : s.seqReady c = true ↔
    s.runs c = true ∧ (s.core c).rep = 0 ∧ fetchOk c (s.core c).pc.toNat = true ∧ s.bkptAt c = none ∧
      (s.core c).stepping = false := by
  simp [State.seqReady, and_assoc]

/-- Outside a repetition every instruction is admitted (R395). -/
theorem repOk_of_rep_eq_zero (c : CoreId) (k : Core) (cls : RepClass) (h : k.rep = 0) : repOk c k cls = true := by
  cases cls <;> simp [repOk, h]

/-- Outside a repetition only the PC moves on (R392, R396). -/
theorem State.onCoreOf_advance (s : State) (c : CoreId) (h : (s.core c).rep = 0) :
    s.onCoreOf c Core.advance = s.moved c :=
  s.onCoreOf_congr c (by simp [Core.advance, h])

theorem State.stepEnd_of_not_stepping (s : State) (c : CoreId) (h : (s.core c).stepping = false) : s.stepEnd c = s := by
  simp [State.stepEnd, h]

/-- An instruction that does not trap, on a core that is about to execute, has its effect on the moved state and no other. -/
theorem State.instr_of_seqReady {s t : State} {c : CoreId} (hr : s.seqReady c = true) (cls : RepClass)
    {f : Word → State → SeqOut} (hf : f (s.core c).pc (s.moved c) = .ok t) (ht : (t.core c).stepping = false) :
    s.instr c false cls f = t := by
  obtain ⟨-, hrep, hfetch, hbkpt, -⟩ := (s.seqReady_iff c).1 hr
  simp [State.instr, hfetch, hbkpt, repOk_of_rep_eq_zero c _ cls hrep, s.onCoreOf_advance c hrep, hf,
    t.stepEnd_of_not_stepping c ht]

/-- The command of such an instruction answers its effect, but for links and queue. -/
theorem seqAct_of_seqReady {s t : State} {c : CoreId} (hr : s.seqReady c = true) (cls : RepClass)
    {f : Word → State → SeqOut} (hf : f (s.core c).pc (s.moved c) = .ok t) (ht : (t.core c).stepping = false) :
    ∃ u, seqAct s c false cls f = .next u ∧ u.butLinks = t.butLinks :=
  act_does ((s.seqReady_iff c).1 hr).1 (by rw [s.butLinks_posted_withQueue, State.instr_of_seqReady hr cls hf ht])

/-! ## DISCARD (R404) -/

/-- The effect of DISCARD on port `p`: its core's stage copies and STAGE_DIRTY. -/
def State.discarded (s : State) (p : Fin 48) : State :=
  s.onRoom p fun r => r.onCore fun k => { k with stage := r.published, dirty := false }

/-- DISCARD is an instruction with that effect, which no repetition admits. -/
theorem exec_discard_zero (s : State) (p : Fin 48) :
    exec (.discard p 0 0) s = seqAct s (.room p) false .none fun _ u => .ok (u.discarded p) := rfl

@[simp] theorem State.core_discarded (s : State) (p : Fin 48) : (s.discarded p).core (.room p) =
    { s.core (.room p) with stage := (s.room p).published, dirty := false } :=
  s.core_onCoreOf (.room p) _

/-- The published copies are registers, which an update of the core leaves as they are. -/
@[simp] theorem Room.published_onCore (r : Room) (f : Core → Core) : (r.onCore f).published = r.published := rfl

theorem State.published_moved (s : State) (p : Fin 48) :
    ((s.moved (.room p)).room p).published = (s.room p).published := by
  simp [State.moved, State.onCoreOf]

/-- In the state whose PC has moved on, DISCARD copies what was published before it. -/
theorem State.discarded_moved (s : State) (p : Fin 48) : (s.moved (.room p)).discarded p =
    (s.moved (.room p)).onRoom p fun r =>
      { r with core := { r.core with stage := (s.room p).published, dirty := false } } := by
  simp [State.discarded, State.onRoom, Room.onCore, s.published_moved]

/-- The published copies, word by word: TXW0 without SEND, the seven words after it, NEG_CTRL without VALID, and the word
after that. -/
theorem Room.published_eq (r : Room) : r.published = [r.regs.get 0x100 &&& ~~~TXW0_SEND.mask] ++
    ((List.range 7).map fun i => r.regs.get (0x104 + 4 * i)) ++
    [r.regs.get 0x140 &&& ~~~NEG_CTRL_VALID.mask, r.regs.get 0x144] := rfl

/-- Settles O12: DISCARD takes effect in the state whose PC has moved on, where the published copies are those of the state
before it. -/
theorem discardCopiesPublished : Obligations.DiscardCopiesPublished := by
  unfold Obligations.DiscardCopiesPublished
  intro s p hr
  obtain ⟨-, -, -, -, hstep⟩ := (s.seqReady_iff (.room p)).1 hr
  have hstep' : (((s.moved (.room p)).discarded p).core (.room p)).stepping = false := by simpa using hstep
  obtain ⟨t, hexec, ht⟩ := seqAct_of_seqReady (f := fun _ u => .ok (u.discarded p)) hr .none rfl hstep'
  exact ⟨t, (exec_discard_zero s p).trans hexec, ht.trans (congrArg State.butLinks (s.discarded_moved p)),
    (s.room p).published_eq⟩

end Sys2Proof.Machine

namespace Sys2Proof.Machine

/-! ## Effects on what the host links do not hold -/

/-- A one-bit field that has been set reads 1. -/
theorem State.bit_on (s : State) {f : Field} (hfits : f.fits = true) (hwidth : f.width ≠ 0) : (s.on f).bit f = true := by
  have hfld : (s.on f).fld f = 1 := Regs.fld_put_bool s.regs f true hfits hwidth
  simpa [State.bit, State.fld] using congrArg (· != 0) hfld

theorem State.fld_of_butLinks {s t : State} (h : t.butLinks = s.butLinks) (f : Field) : t.fld f = s.fld f :=
  (congrArg (State.fld · f) h :)

theorem State.bit_of_butLinks {s t : State} (h : t.butLinks = s.butLinks) (f : Field) : t.bit f = s.bit f :=
  (congrArg (State.bit · f) h :)

theorem State.snap_of_butLinks {s t : State} (h : t.butLinks = s.butLinks) : t.snap = s.snap :=
  (congrArg State.snap h :)

/-- A command whose condition holds answers its effect, but for links and queue. -/
theorem act_butLinks {s : State} {c : Bool} (f : State → State) (hc : c = true) :
    ∃ t, act s c f = .next t ∧ t.butLinks = (f s).butLinks :=
  act_does hc (s.butLinks_posted_withQueue (f s) s.pending)

/-! ## Replies of the host links (R438, R439, R441) -/

@[simp] theorem State.butLinks_onLink (s : State) (n : Fin 2) (g : Link → Link) : (s.onLink n g).butLinks = s.butLinks := rfl

@[simp] theorem State.butLinks_kickLink (s : State) (n : Fin 2) : (s.kickLink n).butLinks = s.butLinks := by
  unfold State.kickLink
  split
  · rfl
  · exact s.butLinks_onLink n _

@[simp] theorem State.butLinks_reply (s : State) (n : Fin 2) (b : List Byte) : (s.reply n b).butLinks = s.butLinks :=
  State.butLinks_kickLink _ n

@[simp] theorem State.butLinks_finish (s : State) (n : Fin 2) (type : Nat) (f : Frame) (payload : List Byte) :
    (s.finish n type f payload).butLinks = s.butLinks :=
  State.butLinks_reply _ n _

@[simp] theorem State.butLinks_snapReply (n : Fin 2) (code : Nat) (f : Frame) (s : State) :
    (s.snapReply n code f).butLinks = s.butLinks :=
  s.butLinks_finish n 7 f _

@[simp] theorem State.butLinks_snapReplies (code : Nat) (s : State) : (s.snapReplies code).butLinks = s.butLinks := by
  refine List.foldlRecOn (motive := fun t : State => t.butLinks = s.butLinks) _ _ rfl fun t ht n _ => ?_
  split
  · split
    · rw [State.butLinks_snapReply, State.butLinks_onLink, ht]
    · exact ht
  · exact ht

/-- A link that takes a frame: the frame is on its line, the link hears and is free, and the command is new and of the right
form. -/
theorem State.takes_iff (s : State) (n : Fin 2) (type : Nat) (line : List Byte) (f : Frame) :
    s.takes n type line f = true ↔ typed line type = some f ∧ s.linkOn n = true ∧ (s.link n).rx.isEmpty = true ∧
      s.fresh n type f = true ∧ f.res = 0 ∧ s.links.length = 2 := by
  simp [State.takes, and_assoc]

theorem State.hears_of_linkOn {s : State} {n : Fin 2} (h : s.linkOn n = true) : s.hears n = true := by
  simp only [State.linkOn, Bool.and_eq_true, and_assoc] at h
  exact h.1

/-- A new command of the right form is executed. -/
theorem State.judged_of_fresh {s : State} {n : Fin 2} {type : Nat} {f : Frame} (hfresh : s.fresh n type f = true)
    (hres : f.res = 0) (known : List Byte) (opn : Nat) (go : State → State) :
    s.judged n type f true known opn go = go s := by
  unfold State.judged
  cases hlast : (s.link n).last with
  | none => simp [hres]
  | some x =>
    have hnew : x.answers type f = false := by simpa [State.fresh, hlast] using hfresh
    simp [hres, hnew]

/-- A host command that its link takes has its effect at once, but for links and queue. -/
theorem hostAct_of_takes {s : State} {n : Fin 2} {type : Nat} {line : List Byte} {f : Frame}
    (htakes : s.takes n type line f = true) (held recOk : Bool) (go : Frame → State → State) :
    ∃ t, hostAct s n type line held recOk go = .next t ∧ t.butLinks = (go f s).butLinks := by
  obtain ⟨hline, hon, hrx, -⟩ := (s.takes_iff n type line f).1 htakes
  simp only [hostAct, hline]
  obtain ⟨t, hexec, ht⟩ := act_butLinks (fun s => s.arrive n ⟨type, f, held, recOk, s.now⟩ (go f)) (State.hears_of_linkOn hon)
  exact ⟨t, hexec, by simpa [State.arrive, hon, hrx] using ht⟩

/-! ## Triggers that are refused (R429, R430) -/

/-- Triggers are barred while FREEZE is 1 and for 10 µs after a capture. -/
theorem State.snapBars_iff (s : State) : s.snapBars = true ↔
    s.bit SNAP_CTRL_FREEZE = true ∨ ∃ x, s.snap.capAt = some x ∧ s.now < x + 10 := by
  unfold State.snapBars
  cases s.snap.capAt <;> simp

/-- A barred trigger does nothing but set MISSED. -/
theorem State.snapTrigger_of_bars {s : State} (hbars : s.snapBars = true) (src : Nat) :
    s.snapTrigger src = s.on SNAP_CTRL_MISSED := by
  simp [State.snapTrigger, hbars]

/-- While DRIVE is 0 a write of TRIG triggers directly. -/
theorem State.snapTrig_of_not_drive {s : State} (hdrive : s.bit SNAP_CTRL_DRIVE = false) : s.snapTrig = s.snapTrigger 0 := by
  simp [State.snapTrig, hdrive]

/-- `t` is `s` with MISSED set, but for links and queue. -/
def State.Misses (s t : State) : Prop := t.butLinks = (s.on SNAP_CTRL_MISSED).butLinks

/-- A state with MISSED set has the snapshot trigger and the epoch that it had. -/
theorem State.Misses.effect {s t : State} (h : s.Misses t) : t.bit SNAP_CTRL_MISSED = true ∧ t.snap = s.snap ∧
    t.fld SNAP_EPOCH_EPOCH = s.fld SNAP_EPOCH_EPOCH :=
  ⟨(State.bit_of_butLinks h _).trans (s.bit_on (by decide) (by decide)), State.snap_of_butLinks (s := s.on SNAP_CTRL_MISSED) h,
    (State.fld_of_butLinks h _).trans (s.fld_on_apart _ _ (by decide))⟩

theorem exec_snapTrig_misses {s : State} (hclk : s.clocked = true) (hbars : s.snapBars = true)
    (hdrive : s.bit SNAP_CTRL_DRIVE = false) : ∃ t, exec .snapTrig s = .next t ∧ s.Misses t := by
  obtain ⟨t, hexec, ht⟩ := act_butLinks State.snapTrig hclk
  rw [State.snapTrig_of_not_drive hdrive, State.snapTrigger_of_bars hbars] at ht
  exact ⟨t, (exec_snapTrig s).trans hexec, ht⟩

/-- The state in which another drives SNAP_IO low. -/
def State.snapLow (s : State) : State := { s with snap := { s.snap with low := true } }

theorem exec_snapIoEdge_misses {s : State} (hclk : s.clocked = true) (hbars : s.snapBars = true)
    (hhigh : s.snapIoLow = false) (hin : s.bit SNAP_CTRL_IN_EN = true) :
    ∃ t, exec (.snapIoEdge true) s = .next t ∧ s.snapLow.Misses t := by
  have hin' : s.snapLow.bit SNAP_CTRL_IN_EN = true := hin
  have htrig := State.snapTrigger_of_bars (s := s.snapLow) hbars 1
  rw [exec_snapIoEdge]
  obtain ⟨t, hexec, ht⟩ := act_butLinks _ hclk
  refine ⟨t, hexec, ht.trans ?_⟩
  change (if (true && !s.snapIoLow) && s.snapLow.bit SNAP_CTRL_IN_EN then s.snapLow.snapTrigger 1 else s.snapLow).butLinks = _
  simp [hhigh, hin', htrig]

theorem exec_snap_misses {s : State} (hclk : s.clocked = true) (hbars : s.snapBars = true) (hdbg : s.debugOn = true) :
    ∃ t, exec .snap s = .next t ∧ s.Misses t := by
  have hmay : s.dbgMay = true := by simp [State.dbgMay, hclk, hdbg]
  obtain ⟨t, hexec, ht⟩ := act_butLinks (State.snapTrigger · 2) hmay
  rw [State.snapTrigger_of_bars hbars] at ht
  exact ⟨t, (exec_snap s).trans hexec, ht⟩

/-- SNAPSHOT with a barred trigger is answered SNAP_MISSED at once (R441). -/
theorem State.hlSnapshot_of_bars {s : State} {n : Fin 2} {f : Frame} (hbars : s.snapBars = true) (hcap : s.snap.cap = none)
    (hdrive : s.bit SNAP_CTRL_DRIVE = false) (hfresh : s.fresh n 7 f = true) (hres : f.res = 0) (hform : f.payload = []) :
    s.hlSnapshot n f = (s.on SNAP_CTRL_MISSED).snapReply n 9 f := by
  simp [State.hlSnapshot, hform, State.judged_of_fresh hfresh hres, State.snapTrig_of_not_drive hdrive,
    State.snapTrigger_of_bars hbars, hcap]

theorem exec_snapshot_misses {s : State} {n : Fin 2} {line : List Byte} {f : Frame} (hbars : s.snapBars = true)
    (hcap : s.snap.cap = none) (hdrive : s.bit SNAP_CTRL_DRIVE = false) (htakes : s.takes n 7 line f = true)
    (hform : f.payload = []) : ∃ t, exec (.snapshot n line) s = .next t ∧ s.Misses t := by
  obtain ⟨-, -, -, hfresh, hres, -⟩ := (s.takes_iff n 7 line f).1 htakes
  obtain ⟨t, hexec, ht⟩ := hostAct_of_takes htakes false false (State.hlSnapshot n)
  rw [State.hlSnapshot_of_bars hbars hcap hdrive hfresh hres hform, State.butLinks_snapReply] at ht
  exact ⟨t, (exec_snapshot n line s).trans hexec, ht⟩

/-! ## The capture edge (R427, R429, R430) -/

/-- The state in which the capture that was under way is given up. -/
def State.uncaptured (s : State) : State := { s with snap := { s.snap with cap := none } }

/-- A driven trigger that is barred at the capture edge gives the capture up. -/
theorem exec_capture_misses {s : State} (hclk : s.clocked = true) (hbars : s.snapBars = true) (hcap : s.snap.cap = some 0)
    (hdriven : s.snap.drive.isSome = true) : ∃ t, exec .capture s = .next t ∧ s.uncaptured.Misses t := by
  have hc : (s.clocked && s.snap.cap.isSome) = true := by simp [hclk, hcap]
  rw [exec_capture]
  obtain ⟨t, hexec, ht⟩ := act_butLinks _ hc
  refine ⟨t, hexec, ht.trans ?_⟩
  simp only [hdriven, hcap, hbars, decide_true, Bool.and_self, if_true]
  exact State.butLinks_snapReplies 9 _

/-- A trigger that nothing bars is captured. -/
theorem exec_capture_of_not_bars {s : State} {src : Nat} (hclk : s.clocked = true) (hbars : s.snapBars = false)
    (hcap : s.snap.cap = some src) : ∃ t, exec .capture s = .next t ∧ t.butLinks = (s.capture src).butLinks := by
  have hc : (s.clocked && s.snap.cap.isSome) = true := by simp [hclk, hcap]
  rw [exec_capture]
  obtain ⟨t, hexec, ht⟩ := act_butLinks _ hc
  refine ⟨t, hexec, ht.trans ?_⟩
  simp [hbars, hcap]

/-- SRC holds the trigger of the last capture. -/
theorem State.fld_src_capture (s : State) {src : Nat} (h : src < 4) : (s.capture src).fld SNAP_CTRL_SRC = src :=
  (Regs.fld_put_same _ SNAP_CTRL_SRC src (by decide)).trans (Nat.mod_eq_of_lt h)

@[simp] theorem State.capAt_capture (s : State) (src : Nat) : (s.capture src).snap.capAt = some s.now := rfl

/-- Settles O14: each trigger that FREEZE or the 10 µs bar is refused by its own command, which leaves MISSED and no
capture. -/
theorem capturesAreBarred : Obligations.CapturesAreBarred := by
  unfold Obligations.CapturesAreBarred
  intro s hclk
  refine ⟨fun hcap hb => ?_, fun hcap hdriven hb => ?_, fun x hx hcap hbars => ?_⟩
  · have hbars := s.snapBars_iff.2 hb
    refine ⟨fun hdrive => ?_, fun hhigh hin => ?_, fun hdbg => ?_, fun n line f htakes hform hdrive => ?_⟩
    · obtain ⟨t, hexec, hmiss⟩ := exec_snapTrig_misses hclk hbars hdrive
      obtain ⟨hmissed, hsnap, -⟩ := hmiss.effect
      exact ⟨t, hexec, hmissed, hsnap⟩
    · obtain ⟨t, hexec, hmiss⟩ := exec_snapIoEdge_misses hclk hbars hhigh hin
      obtain ⟨hmissed, hsnap, hepoch⟩ := hmiss.effect
      exact ⟨t, hexec, hmissed, (congrArg Snap.cap hsnap).trans hcap, hepoch⟩
    · obtain ⟨t, hexec, hmiss⟩ := exec_snap_misses hclk hbars hdbg
      obtain ⟨hmissed, hsnap, -⟩ := hmiss.effect
      exact ⟨t, hexec, hmissed, hsnap⟩
    · obtain ⟨t, hexec, hmiss⟩ := exec_snapshot_misses hbars hcap hdrive htakes hform
      obtain ⟨hmissed, hsnap, hepoch⟩ := hmiss.effect
      exact ⟨t, hexec, hmissed, (congrArg Snap.cap hsnap).trans hcap, hepoch⟩
  · obtain ⟨t, hexec, hmiss⟩ := exec_capture_misses hclk (s.snapBars_iff.2 hb) hcap hdriven
    obtain ⟨hmissed, hsnap, hepoch⟩ := hmiss.effect
    exact ⟨t, hexec, hmissed, congrArg Snap.cap hsnap, hepoch⟩
  · obtain ⟨t, hexec, ht⟩ := exec_capture_of_not_bars hclk hbars hcap
    exact ⟨t, hexec, (State.fld_of_butLinks ht _).trans (s.fld_src_capture (by omega)),
      (congrArg Snap.capAt (State.snap_of_butLinks ht)).trans (s.capAt_capture x)⟩

end Sys2Proof.Machine

namespace Sys2Proof

/-- A filter that keeps every entry of a key leaves what that key reads. -/
theorem Store.get_filter {w : Nat} (m : Store w) (keep : Nat × BitVec w → Bool) (k : Nat) (hk : ∀ v, keep (k, v) = true) :
    Store.get (m.filter keep) k = m.get k := by
  induction m with
  | nil => rfl
  | cons x m ih =>
    obtain ⟨a, v⟩ := x
    by_cases ha : a = k
    · subst ha
      simp [hk, Store.get]
    · by_cases hx : keep (a, v) = true
      · simp [hx, Store.get, ha, ih]
      · simp [hx, Store.get, ha, ih]

end Sys2Proof

namespace Sys2Proof.Machine

/-! ## The cores that a resume leaves halted (R616, R619, R620) -/

theorem State.core_onCoreOf_ne (s : State) {c d : CoreId} (f : Core → Core) (h : c ≠ d) :
    (s.onCoreOf c f).core d = s.core d := by
  cases c with
  | room p =>
    cases d with
    | room q => exact congrArg Room.core (s.room_onRoom_ne p q _ fun hpq => h (congrArg _ hpq))
    | hall => rfl
  | hall =>
    cases d with
    | room q => rfl
    | hall => exact absurd rfl h

/-- An update of a Room that leaves its core leaves every core. -/
theorem State.core_onRoom (s : State) (p : Fin 48) {g : Room → Room} (hg : ∀ r, (g r).core = r.core) (c : CoreId) :
    (s.onRoom p g).core c = s.core c := by
  cases c with
  | room q =>
    by_cases hpq : p = q
    · subst hpq
      exact (congrArg Room.core (s.room_onRoom p g)).trans (hg _)
    · exact congrArg Room.core (s.room_onRoom_ne p q g hpq)
  | hall => rfl

/-- A core after it has resumed. -/
def Core.resumed (k : Core) : Core := { k with halted := false, stepping := false, pass := true }

/-- CORE_ALIVE and the deadlines, which a resume sets too, are no part of a core. -/
theorem State.core_resumeCore (s : State) {c : CoreId} (h : (s.core c).halted = true) (d : CoreId) :
    (s.resumeCore c).core d = (s.onCoreOf c Core.resumed).core d := by
  simp only [State.resumeCore, h, if_true]
  cases c with
  | room p =>
    exact (s.onCoreOf (.room p) Core.resumed).core_onRoom p
      (g := fun r => { r.on STATUS_CORE_ALIVE with kickAt := s.now }) (fun _ => rfl) d
  | hall =>
    dsimp only
    split <;> rfl

theorem State.resumeCore_of_not_halted (s : State) {c : CoreId} (h : (s.core c).halted = false) : s.resumeCore c = s := by
  simp [State.resumeCore, h]

/-- A resume ends the halt of its own core and of no other. -/
theorem State.halted_resumeCore (s : State) (c d : CoreId) :
    ((s.resumeCore c).core d).halted = ((s.core d).halted && decide (d ≠ c)) := by
  by_cases hcd : d = c
  · subst hcd
    cases hh : (s.core d).halted with
    | false => simp [s.resumeCore_of_not_halted hh, hh]
    | true => simp [s.core_resumeCore hh, Core.resumed]
  · cases hh : (s.core c).halted with
    | false => simp [s.resumeCore_of_not_halted hh, hcd]
    | true => simp [s.core_resumeCore hh, s.core_onCoreOf_ne _ (Ne.symm hcd), hcd]

@[simp] theorem State.resumeCore_regs (s : State) (c : CoreId) : (s.resumeCore c).regs = s.regs := by
  unfold State.resumeCore
  split
  · cases c with
    | room p => rfl
    | hall =>
      dsimp only
      split <;> rfl
  · rfl

theorem State.halted_foldl_resumeCore (cs : List CoreId) (s : State) (d : CoreId) :
    ((cs.foldl State.resumeCore s).core d).halted = ((s.core d).halted && decide (d ∉ cs)) := by
  induction cs generalizing s with
  | nil => simp
  | cons c cs ih => simp [ih, s.halted_resumeCore, Bool.and_assoc]

theorem State.foldl_resumeCore_regs (cs : List CoreId) (s : State) : (cs.foldl State.resumeCore s).regs = s.regs :=
  List.foldlRecOn (motive := fun t : State => t.regs = s.regs) _ _ rfl fun t ht c _ => (t.resumeCore_regs c).trans ht

theorem mem_allCores (c : CoreId) : c ∈ allCores := by
  cases c with
  | room p => simp [allCores]
  | hall => simp [allCores]

/-! ## What the DEBUG lock ends (R527, R614, R615) -/

/-- What the DEBUG lock resets in a Room: the cause of its core's halt, and its breakpoints. -/
def Room.debugReset (r : Room) : Room :=
  (List.range 4).foldl (fun r k => r.off (BKPT_EN.shift (4 * k))) { r with core := { r.core with cause := 0, bkpt := 0 } }

theorem Room.core_debugReset (r : Room) : r.debugReset.core = { r.core with cause := 0, bkpt := 0 } :=
  List.foldlRecOn (motive := fun t : Room => t.core = { r.core with cause := 0, bkpt := 0 }) _ _ rfl fun _ ht _ _ => ht

/-- What the DEBUG lock resets: the Rooms' part, the cause of the Hall core's halt, and every debug register. -/
def State.debugReset (s : State) : State :=
  let u := s.mapRooms fun _ r => r.debugReset
  { u with regs := u.regs.filter fun x => !(0x74000 ≤ x.1 && x.1 < 0x75000), hall := { u.hall with cause := 0, bkpt := 0 } }

/-- The DEBUG lock resumes every core and then resets. -/
theorem State.closeDebug_eq (s : State) : s.closeDebug = (allCores.foldl State.resumeCore s).debugReset := rfl

theorem State.room_debugReset (s : State) (p : Fin 48) : s.debugReset.room p = (s.room p).debugReset := by
  have hrooms : s.debugReset.rooms = (s.mapRooms fun _ r => r.debugReset).rooms := rfl
  exact (congrArg (fun v : Vector Room 48 => v[p]) hrooms).trans (s.room_mapRooms _ p)

theorem State.core_debugReset (s : State) (c : CoreId) :
    s.debugReset.core c = { s.core c with cause := 0, bkpt := 0 } := by
  cases c with
  | room p => rw [State.core, s.room_debugReset, Room.core_debugReset, State.core]
  | hall => rfl

theorem State.regs_debugReset (s : State) :
    s.debugReset.regs = s.regs.filter fun x => !(0x74000 ≤ x.1 && x.1 < 0x75000) :=
  congrArg (List.filter _) (s.mapRooms_regs _)

/-- The locks are no debug register. -/
theorem State.fld_lock_debugReset (s : State) : s.debugReset.fld ATTIC_LOCK_LOCK = s.fld ATTIC_LOCK_LOCK := by
  rw [State.fld, Regs.fld, s.regs_debugReset, Store.get_filter _ _ _ fun _ => by simp [ATTIC_LOCK_LOCK], State.fld, Regs.fld]

/-- No core is halted once every core has had its resume. -/
theorem State.halted_closeDebug (s : State) (c : CoreId) : (s.closeDebug.core c).halted = false := by
  rw [s.closeDebug_eq, State.core_debugReset]
  simp [State.halted_foldl_resumeCore, mem_allCores]

theorem State.fld_lock_closeDebug (s : State) : s.closeDebug.fld ATTIC_LOCK_LOCK = s.fld ATTIC_LOCK_LOCK := by
  rw [s.closeDebug_eq, State.fld_lock_debugReset, State.fld, State.foldl_resumeCore_regs, State.fld]

/-- A write that newly sets the DEBUG lock sets its lock bits and then closes debug access. -/
theorem State.setLocks_of_debug (s : State) {v : Nat} (hv : v.testBit 8 = true) (hdbg : s.debugOn = true) :
    s.setLocks v = (s.put ATTIC_LOCK_LOCK (s.fld ATTIC_LOCK_LOCK ||| v % 512)).closeDebug := by
  have hwas : (s.fld ATTIC_LOCK_LOCK).testBit 8 = false := by simpa [State.debugOn] using hdbg
  simp [State.setLocks, hv, hwas]

theorem State.debugOn_setLocks (s : State) {v : Nat} (hv : v.testBit 8 = true) (hdbg : s.debugOn = true) :
    (s.setLocks v).debugOn = false := by
  have hlock : (s.put ATTIC_LOCK_LOCK (s.fld ATTIC_LOCK_LOCK ||| v % 512)).fld ATTIC_LOCK_LOCK =
      (s.fld ATTIC_LOCK_LOCK ||| v % 512) % 2 ^ 9 := Regs.fld_put_same _ _ _ (by decide)
  rw [s.setLocks_of_debug hv hdbg, State.debugOn, State.fld_lock_closeDebug, hlock, show (512 : Nat) = 2 ^ 9 from rfl]
  simp only [Nat.testBit_mod_two_pow, Nat.testBit_or, hv]
  simp

/-- Where debug access is not enabled no breakpoint acts. -/
theorem State.bkptAt_of_not_debugOn {s : State} (h : s.debugOn = false) (c : CoreId) : s.bkptAt c = none := by
  simp [State.bkptAt, h]

theorem State.debugOn_of_butLinks {s t : State} (h : t.butLinks = s.butLinks) : t.debugOn = s.debugOn :=
  (congrArg State.debugOn h :)

theorem State.core_of_butLinks {s t : State} (h : t.butLinks = s.butLinks) (c : CoreId) : t.core c = s.core c := by
  cases c with
  | room p => exact (congrArg (fun u : State => (u.room p).core) h :)
  | hall => exact (congrArg State.hall h :)

/-- The lock field lies at bit 0, so that DEBUG is bit 8 of the field as of the word. -/
theorem testBit_lock_of (v : Word) : (ATTIC_LOCK_LOCK.of v).testBit 8 = v.getLsbD 8 := by
  simp only [Field.of, ATTIC_LOCK_LOCK, BitVec.testBit_toNat, BitVec.getLsbD_extractLsb']
  simp

/-- Settles O13: the write closes debug access, which resumes every core; without debug access no breakpoint acts. -/
theorem debugLockEndsDebug : Obligations.DebugLockEndsDebug := by
  unfold Obligations.DebugLockEndsDebug
  intro s v hclk hv hdbg
  have hv' : (ATTIC_LOCK_LOCK.of v).testBit 8 = true := (testBit_lock_of v).trans hv
  obtain ⟨t, hexec, ht⟩ :=
    act_butLinks (fun s => { s.setLocks (ATTIC_LOCK_LOCK.of v) with rerr := false }) hclk
  have hoff : t.debugOn = false := (State.debugOn_of_butLinks ht).trans (s.debugOn_setLocks hv' hdbg)
  refine ⟨t, (exec_atticLock v s).trans hexec, hoff, fun c => ⟨?_, State.bkptAt_of_not_debugOn hoff c⟩⟩
  have hcore : t.core c = (s.setLocks (ATTIC_LOCK_LOCK.of v)).core c := State.core_of_butLinks ht c
  rw [hcore, s.setLocks_of_debug hv' hdbg, State.halted_closeDebug]

end Sys2Proof.Machine

namespace Sys2Proof.Machine

set_option Elab.async false

/-! ## What every step does: one command, a next state, the invariant, the fuses -/

theorem step_of_pending {s : State} {c : Instr} {rest : List Instr} (h : s.pending = c :: rest) :
    step s = exec c (s.withQueue rest) := by
  simp [step, h]

theorem step_of_idle {s : State} (h : s.pending = []) : step s = .next s := by
  simp [step, h]

/-- Settles O1. -/
theorem stepRunsTheFront : Obligations.StepRunsTheFront := by
  unfold Obligations.StepRunsTheFront
  exact ⟨fun _ _ _ h => step_of_pending h, fun _ h => step_of_idle h⟩

/-- Every command leads from its state to the one it answers: each by the lemma about its meaning. -/
theorem exec_leads (s : State) (c : Instr) : LeadsOut s (exec c s) :=
  match c with
  | .registerWrite a addr size v => execRegisterWrite_from a addr size v s
  | .faultRead p => execFaultRead_from p s
  | .pdErrcntRead p => execPdErrcntRead_from p s
  | .thrCntRead p => execThrCntRead_from p s
  | .hsFaultRead b => execHsFaultRead_from b s
  | .landFaultRead b => execLandFaultRead_from b s
  | .wingFaultRead w cal => execWingFaultRead_from w cal s
  | .pantryFaultRead => execPantryFaultRead_from s
  | .resetCauseRead => execResetCauseRead_from s
  | .wakeCauseRead => execWakeCauseRead_from s
  | .pwrStatRead => execPwrStatRead_from s
  | .hallModeRead => execHallModeRead_from s
  | .hlErrRead n => execHlErrRead_from n s
  | .twErrRead n => execTwErrRead_from n s
  | .stairErrRead => execStairErrRead_from s
  | .atticResultRead => execAtticResultRead_from s
  | .jnlResultRead => execJnlResultRead_from s
  | .tbCtrlRead => execTbCtrlRead_from s
  | .hbStatRead => execHbStatRead_from s
  | .subwordRead a addr size => execSubwordRead_from a addr size s
  | .enableSet p => execEnableSet_from p s
  | .enableClear p => execEnableClear_from p s
  | .portRemovalEnd p => execPortRemovalEnd_from p s
  | .forceSafe p core on => execForceSafe_from p core on s
  | .restartCore p => execRestartCore_from p s
  | .recover p => execRecover_from p s
  | .grantAsk p w => execGrantAsk_from p w s
  | .grantAnswer p => execGrantAnswer_from p s
  | .resvLapse p => execResvLapse_from p s
  | .budgetLimitWrite r addr v => execBudgetLimitWrite_from r addr v s
  | .coreWdt p => execCoreWdt_from p s
  | .coreKick p key => execCoreKick_from p key s
  | .adcCalibration p adc gain offset => execAdcCalibration_from p adc gain offset s
  | .landingFault b cause => execLandingFault_from b cause s
  | .landingShedStep b => execLandingShedStep_from b s
  | .landingSelfCheck b => execLandingSelfCheck_from b s
  | .wingWatchdog w part => execWingWatchdog_from w part s
  | .wingSafeDelay w => execWingSafeDelay_from w s
  | .wingRestart w => execWingRestart_from w s
  | .parity site => execParity_from site s
  | .hallModeWrite r mode => execHallModeWrite_from r mode s
  | .modeApply p => execModeApply_from p s
  | .forcedMode b => execForcedMode_from b s
  | .fireN => execFireN_from s
  | .fireNRelease => execFireNRelease_from s
  | .clockFailure xtal => execClockFailure_from xtal s
  | .clkFail => execClkFail_from s
  | .slowXtalSelect => execSlowXtalSelect_from s
  | .slowSwitch => execSlowSwitch_from s
  | .rcCalibration fRc => execRcCalibration_from fRc s
  | .aonPor => execAonPor_from s
  | .borCore => execBorCore_from s
  | .borIo => execBorIo_from s
  | .borA => execBorA_from s
  | .pin lowNs taken => execPin_from lowNs taken s
  | .testEn level => execTestEn_from level s
  | .resetKey key => execResetKey_from key s
  | .chipResetEnd pairId core io ana resetN us => execChipResetEnd_from pairId core io ana resetN us s
  | .xtalOk => execXtalOk_from s
  | .pllLock b => execPllLock_from b s
  | .reqRun => execReqRun_from s
  | .reqDoze => execReqDoze_from s
  | .reqSleep act => execReqSleep_from act s
  | .reqStandby act => execReqStandby_from act s
  | .entrySequenceStep => execEntrySequenceStep_from s
  | .wakeN => execWakeN_from s
  | .ccSamplingWindow lv => execCcSamplingWindow_from lv s
  | .keyWake => execKeyWake_from s
  | .alarm => execAlarm_from s
  | .fireWake => execFireWake_from s
  | .hlWake n => execHlWake_from n s
  | .porchWake => execPorchWake_from s
  | .sleepWake => execSleepWake_from s
  | .standbyExit => execStandbyExit_from s
  | .planRdDataRead => execPlanRdDataRead_from s
  | .fwRdDataRead => execFwRdDataRead_from s
  | .celRdDataRead => execCelRdDataRead_from s
  | .ccLevelChange p l1 l2 => execCcLevelChange_from p l1 l2 s
  | .tccdebounce p => execTccdebounce_from p s
  | .tpddebounce p => execTpddebounce_from p s
  | .ttryccdebounce p => execTtryccdebounce_from p s
  | .tdrptry p => execTdrptry_from p s
  | .terrorrecovery p => execTerrorrecovery_from p s
  | .drpToggle p => execDrpToggle_from p s
  | .attachGrant p => execAttachGrant_from p s
  | .budgetWait p => execBudgetWait_from p s
  | .rpLimitLower p => execRpLimitLower_from p s
  | .vbusLost p => execVbusLost_from p s
  | .vconnEnWrite p en => execVconnEnWrite_from p en s
  | .vconnOc p overcurrent => execVconnOc_from p overcurrent s
  | .ccOv p cc2 above => execCcOv_from p cc2 above s
  | .ccIsolationRelease p cc2 => execCcIsolationRelease_from p cc2 s
  | .errorRecovery p => execErrorRecovery_from p s
  | .messageReceived p os syms => execMessageReceived_from p os syms s
  | .packetTruncated p => execPacketTruncated_from p s
  | .goodcrc p tr => execGoodcrc_from p tr s
  | .messageDelivered p => execMessageDelivered_from p s
  | .goodcrcReceived p sop id => execGoodcrcReceived_from p sop id s
  | .transmitStart p tr => execTransmitStart_from p tr s
  | .transmitEnd p => execTransmitEnd_from p s
  | .treceive p => execTreceive_from p s
  | .retransmit p tr => execRetransmit_from p tr s
  | .tsenderresponse p => execTsenderresponse_from p s
  | .tsinktx p => execTsinktx_from p s
  | .tamsidle p => execTamsidle_from p s
  | .amsEnd p => execAmsEnd_from p s
  | .commit p rd ra => execCommit_from p rd ra s
  | .discard p rd ra => execDiscard_from p rd ra s
  | .txRelease p => execTxRelease_from p s
  | .txWithdraw p => execTxWithdraw_from p s
  | .rxPop p => execRxPop_from p s
  | .vdmPop p => execVdmPop_from p s
  | .hardReset p => execHardReset_from p s
  | .cableReset p => execCableReset_from p s
  | .cableDisc p => execCableDisc_from p s
  | .hvdmSend p => execHvdmSend_from p s
  | .chunkRequest p tr => execChunkRequest_from p tr s
  | .tchunksenderrequest p => execTchunksenderrequest_from p s
  | .tchunksenderresponse p => execTchunksenderresponse_from p s
  | .automaticReply p tr => execAutomaticReply_from p tr s
  | .bistCarrierEnd p => execBistCarrierEnd_from p s
  | .eprKeepalive p => execEprKeepalive_from p s
  | .kaMiss p => execKaMiss_from p s
  | .eprSourceTimeout p => execEprSourceTimeout_from p s
  | .cableDiscoveryStart p => execCableDiscoveryStart_from p s
  | .cableResponseTimeout p => execCableResponseTimeout_from p s
  | .cableDiscoveryAttempt p => execCableDiscoveryAttempt_from p s
  | .hardResetTransmit p => execHardResetTransmit_from p s
  | .hardResetReceived p => execHardResetReceived_from p s
  | .cableResetReceived p => execCableResetReceived_from p s
  | .tsrc p => execTsrc_from p s
  | .referenceReached p => execReferenceReached_from p s
  | .settled p => execSettled_from p s
  | .settleFail p => execSettleFail_from p s
  | .vsetWrite p mv => execVsetWrite_from p mv s
  | .vlimRecompute p vin10 => execVlimRecompute_from p vin10 s
  | .giveup p => execGiveup_from p s
  | .hardResetVconnOff p => execHardResetVconnOff_from p s
  | .hardResetVbusSafe0 p => execHardResetVbusSafe0_from p s
  | .tsrcrecover p => execTsrcrecover_from p s
  | .hardResetEnd p => execHardResetEnd_from p s
  | .prSwapVbusSafe0 p => execPrSwapVbusSafe0_from p s
  | .psRdyTimeout p => execPsRdyTimeout_from p s
  | .trig p => execTrig_from p s
  | .frsInputTrigger p => execFrsInputTrigger_from p s
  | .frsSignalEnd p => execFrsSignalEnd_from p s
  | .frsTimeout p => execFrsTimeout_from p s
  | .frsDetect p => execFrsDetect_from p s
  | .frsVbusDrop p => execFrsVbusDrop_from p s
  | .vconnSwapTimeout p => execVconnSwapTimeout_from p s
  | .periodStart p => execPeriodStart_from p s
  | .loopUpdate p vbus cur vnode vin vs is => execLoopUpdate_from p vbus cur vnode vin vs is s
  | .softStartDone p => execSoftStartDone_from p s
  | .softStopDone p => execSoftStopDone_from p s
  | .coefApply p => execCoefApply_from p s
  | .thresholdTrip p k neg cycles => execThresholdTrip_from p k neg cycles s
  | .thresholdLatch p k neg => execThresholdLatch_from p k neg s
  | .ovT p => execOvT_from p s
  | .uvT p => execUvT_from p s
  | .regLoss p => execRegLoss_from p s
  | .efuse p => execEfuse_from p s
  | .foldbackTimeout p => execFoldbackTimeout_from p s
  | .coldClose p => execColdClose_from p s
  | .retryAttempt p => execRetryAttempt_from p s
  | .attemptWindowEnd p => execAttemptWindowEnd_from p s
  | .retryCountReset p => execRetryCountReset_from p s
  | .fetShort p => execFetShort_from p s
  | .seatChange b seat1 seat2 => execSeatChange_from b seat1 seat2 s
  | .tseat b m => execTseat_from b m s
  | .seatLift b seat1 seat2 => execSeatLift_from b seat1 seat2 s
  | .gateUp b m => execGateUp_from b m s
  | .slotOn b m => execSlotOn_from b m s
  | .inrushTo b => execInrushTo_from b s
  | .short b neg => execShort_from b neg s
  | .breaker b => execBreaker_from b s
  | .pgLoss b m => execPgLoss_from b m s
  | .slotFetShort b m => execSlotFetShort_from b m s
  | .slotAttempt b m => execSlotAttempt_from b m s
  | .slotAttemptOk b => execSlotAttemptOk_from b s
  | .slotCountReset b => execSlotCountReset_from b s
  | .hsEnSet b => execHsEnSet_from b s
  | .hsEnClear b => execHsEnClear_from b s
  | .hsRecover b m => execHsRecover_from b m s
  | .hsLimitWrite b v => execHsLimitWrite_from b v s
  | .hearthUpdate die => execHearthUpdate_from die s
  | .grace m => execGrace_from m s
  | .ithRecompute m => execIthRecompute_from m s
  | .clampRelease m => execClampRelease_from m s
  | .dieCapRelease => execDieCapRelease_from s
  | .tambConversion mv0 mv1 => execTambConversion_from mv0 mv1 s
  | .powerBalanceCheck b slot ports => execPowerBalanceCheck_from b slot ports s
  | .qidOn m => execQidOn_from m s
  | .idRevTrip m => execIdRevTrip_from m s
  | .batteryOperationBegin m => execBatteryOperationBegin_from m s
  | .batteryMode => execBatteryMode_from s
  | .batteryOperationEnd m => execBatteryOperationEnd_from m s
  | .batLow mean => execBatLow_from mean s
  | .cutoff mean => execCutoff_from mean s
  | .batPresChange present => execBatPresChange_from present s
  | .presStable => execPresStable_from s
  | .qualification mean => execQualification_from mean s
  | .prechargeDone m => execPrechargeDone_from m s
  | .preTimeout => execPreTimeout_from s
  | .ndvWindow mean => execNdvWindow_from mean s
  | .dtdtEvaluation mean => execDtdtEvaluation_from mean s
  | .safetyTmr => execSafetyTmr_from s
  | .pause m => execPause_from m s
  | .budgetPauseRetry => execBudgetPauseRetry_from s
  | .chargerGrant => execChargerGrant_from s
  | .pOvTrip => execPOvTrip_from s
  | .chgOv => execChgOv_from s
  | .pPkTrip neg => execPPkTrip_from neg s
  | .start => execStart_from s
  | .restart m => execRestart_from m s
  | .panEnWrite en => execPanEnWrite_from en s
  | .lampSlot => execLampSlot_from s
  | .add c rd ra rb z => execAdd_from c rd ra rb z s
  | .sub c rd ra rb z => execSub_from c rd ra rb z s
  | .and c rd ra rb z => execAnd_from c rd ra rb z s
  | .or c rd ra rb z => execOr_from c rd ra rb z s
  | .xor c rd ra rb z => execXor_from c rd ra rb z s
  | .sll c rd ra rb z => execSll_from c rd ra rb z s
  | .srl c rd ra rb z => execSrl_from c rd ra rb z s
  | .sra c rd ra rb z => execSra_from c rd ra rb z s
  | .mul c rd ra rb z => execMul_from c rd ra rb z s
  | .mulh c rd ra rb z => execMulh_from c rd ra rb z s
  | .mulhu c rd ra rb z => execMulhu_from c rd ra rb z s
  | .divu c rd ra rb z => execDivu_from c rd ra rb z s
  | .remu c rd ra rb z => execRemu_from c rd ra rb z s
  | .minu c rd ra rb z => execMinu_from c rd ra rb z s
  | .maxu c rd ra rb z => execMaxu_from c rd ra rb z s
  | .addi c rd ra imm => execAddi_from c rd ra imm s
  | .andi c rd ra imm => execAndi_from c rd ra imm s
  | .ori c rd ra imm => execOri_from c rd ra imm s
  | .xori c rd ra imm => execXori_from c rd ra imm s
  | .slli c rd ra imm => execSlli_from c rd ra imm s
  | .srli c rd ra imm => execSrli_from c rd ra imm s
  | .srai c rd ra imm => execSrai_from c rd ra imm s
  | .lui c rd imm => execLui_from c rd imm s
  | .ceq c rd ra rb z => execCeq_from c rd ra rb z s
  | .cne c rd ra rb z => execCne_from c rd ra rb z s
  | .clt c rd ra rb z => execClt_from c rd ra rb z s
  | .cltu c rd ra rb z => execCltu_from c rd ra rb z s
  | .cge c rd ra rb z => execCge_from c rd ra rb z s
  | .cgeu c rd ra rb z => execCgeu_from c rd ra rb z s
  | .ceqi c rd ra imm => execCeqi_from c rd ra imm s
  | .cnei c rd ra imm => execCnei_from c rd ra imm s
  | .clti c rd ra imm => execClti_from c rd ra imm s
  | .cltui c rd ra imm => execCltui_from c rd ra imm s
  | .cgei c rd ra imm => execCgei_from c rd ra imm s
  | .cgeui c rd ra imm => execCgeui_from c rd ra imm s
  | .bz c ra off => execBz_from c ra off s
  | .bnz c ra off => execBnz_from c ra off s
  | .jal c rd imm => execJal_from c rd imm s
  | .jalr c rd ra imm => execJalr_from c rd ra imm s
  | .lb c rd ra imm => execLb_from c rd ra imm s
  | .lbu c rd ra imm => execLbu_from c rd ra imm s
  | .lh c rd ra imm => execLh_from c rd ra imm s
  | .lhu c rd ra imm => execLhu_from c rd ra imm s
  | .lw c rd ra imm => execLw_from c rd ra imm s
  | .sb c rs ra imm => execSb_from c rs ra imm s
  | .sh c rs ra imm => execSh_from c rs ra imm s
  | .sw c rs ra imm => execSw_from c rs ra imm s
  | .lwp c rd ra imm => execLwp_from c rd ra imm s
  | .swp c rs ra imm => execSwp_from c rs ra imm s
  | .cpw c rd ra rb z => execCpw_from c rd ra rb z s
  | .rpt c rd ra imm => execRpt_from c rd ra imm s
  | .rptr c rd ra imm => execRptr_from c rd ra imm s
  | .rptu c rd ra imm => execRptu_from c rd ra imm s
  | .wait c rd ra imm => execWait_from c rd ra imm s
  | .evret c rd ra imm => execEvret_from c rd ra imm s
  | .sync c rd ra imm => execSync_from c rd ra imm s
  | .mfs c rd ra imm => execMfs_from c rd ra imm s
  | .mts c rd ra imm => execMts_from c rd ra imm s
  | .hbeat c rd ra imm => execHbeat_from c rd ra imm s
  | .brk c rd ra imm => execBrk_from c rd ra imm s
  | .eventEntry c => execEventEntry_from c s
  | .extCopyDone p => execExtCopyDone_from p s
  | .hold p on => execHold_from p on s
  | .doorbell p v => execDoorbell_from p v s
  | .dbAck p v => execDbAck_from p v s
  | .timerFire k n => execTimerFire_from k n s
  | .tmrCtrlWrite k n v => execTmrCtrlWrite_from k n v s
  | .tmrCmpWrite k n v => execTmrCmpWrite_from k n v s
  | .tmrCntWrite k n v => execTmrCntWrite_from k n v s
  | .load => execLoad_from s
  | .energyUpdate => execEnergyUpdate_from s
  | .snapTrig => execSnapTrig_from s
  | .snapIoEdge low => execSnapIoEdge_from low s
  | .snapIoRelease => execSnapIoRelease_from s
  | .capture => execCapture_from s
  | .hlRead n line => execHlRead_from n line s
  | .hlWrite n line => execHlWrite_from n line s
  | .rmw n line k => execRmw_from n line k s
  | .bulkRead n line k => execBulkRead_from n line k s
  | .bulkWrite n line k => execBulkWrite_from n line k s
  | .subscribe n line => execSubscribe_from n line s
  | .snapshot n line => execSnapshot_from n line s
  | .hlActivate n line held recOk => execHlActivate_from n line held recOk s
  | .ack n line => execAck_from n line s
  | .setting n line held => execSetting_from n line held s
  | .vdmSend n line held => execVdmSend_from n line held s
  | .ping n line => execPing_from n line s
  | .unknownType n line => execUnknownType_from n line s
  | .frameDiscard n line charErr lost => execFrameDiscard_from n line charErr lost s
  | .frameAbort n line idle => execFrameAbort_from n line idle s
  | .timeout n => execTimeout_from n s
  | .go => execGo_from s
  | .eventSend n => execEventSend_from n s
  | .eventResend n => execEventResend_from n s
  | .twWriteTransaction n tx k => execTwWriteTransaction_from n tx k s
  | .twReadTransaction n tx k => execTwReadTransaction_from n tx k s
  | .twTimeout n write => execTwTimeout_from n write s
  | .twBusError n write => execTwBusError_from n write s
  | .twAddressMatchWake n addr => execTwAddressMatchWake_from n addr s
  | .tcGo m => execTcGo_from m s
  | .tcDone m result count data => execTcDone_from m result count data s
  | .heartbeatSend => execHeartbeatSend_from s
  | .heartbeatPulse widthNs => execHeartbeatPulse_from widthNs s
  | .peerLost => execPeerLost_from s
  | .keyInChange level => execKeyInChange_from level s
  | .claimStartA => execClaimStartA_from s
  | .claimStartB => execClaimStartB_from s
  | .takeover => execTakeover_from s
  | .claimGuardEnd => execClaimGuardEnd_from s
  | .contention w => execContention_from w s
  | .peerNoYield w => execPeerNoYield_from w s
  | .release w => execRelease_from w s
  | .hbOutFault => execHbOutFault_from s
  | .keyInStuck => execKeyInStuck_from s
  | .driveConflict site => execDriveConflict_from site s
  | .pairResync => execPairResync_from s
  | .laneLock k => execLaneLock_from k s
  | .laneLockLoss k copy => execLaneLockLoss_from k copy s
  | .linkUp => execLinkUp_from s
  | .linkDown => execLinkDown_from s
  | .stairFrame k line => execStairFrame_from k line s
  | .stairLoop k line => execStairLoop_from k line s
  | .stairRoom k line => execStairRoom_from k line s
  | .stairSlot k line => execStairSlot_from k line s
  | .stairTimer k line => execStairTimer_from k line s
  | .stairHearth k line => execStairHearth_from k line s
  | .stairEnergy k line => execStairEnergy_from k line s
  | .stairHall k line => execStairHall_from k line s
  | .stairPantry k line => execStairPantry_from k line s
  | .stairWrite k line => execStairWrite_from k line s
  | .stairStatus k line => execStairStatus_from k line s
  | .stairResync k line => execStairResync_from k line s
  | .stairDigest k line => execStairDigest_from k line s
  | .frameSend => execFrameSend_from s
  | .recordSend type target bank => execRecordSend_from type target bank s
  | .recordResend type target bank => execRecordResend_from type target bank s
  | .statusSend => execStatusSend_from s
  | .digestSend => execDigestSend_from s
  | .resyncSend => execResyncSend_from s
  | .statusLoss => execStatusLoss_from s
  | .program r vpp vdd => execProgram_from r vpp vdd s
  | .margin r => execMargin_from r s
  | .advance r vpp vdd => execAdvance_from r vpp vdd s
  | .progSecret r vpp vdd => execProgSecret_from r vpp vdd s
  | .lifecycle r vpp vdd => execLifecycle_from r vpp vdd s
  | .atticCommandDone abort bad => execAtticCommandDone_from abort bad s
  | .atticLock v => execAtticLock_from v s
  | .verify => execVerify_from s
  | .verifyDone => execVerifyDone_from s
  | .ident line => execIdent_from line s
  | .openSession line jok => execOpenSession_from line jok s
  | .chunk line wr bad jok => execChunk_from line wr bad jok s
  | .finish line jok recOk => execFinish_from line jok recOk s
  | .porchAbort line => execPorchAbort_from line s
  | .porchStatus line => execPorchStatus_from line s
  | .porchActivate line recOk => execPorchActivate_from line recOk s
  | .sessionLost plan slot => execSessionLost_from plan slot s
  | .activationEvaluation means => execActivationEvaluation_from means s
  | .expired recOk => execExpired_from recOk s
  | .activationPeerReset => execActivationPeerReset_from s
  | .confirmed recOk vpp vdd => execConfirmed_from recOk vpp vdd s
  | .reverted recOk => execReverted_from recOk s
  | .settingReset => execSettingReset_from s
  | .append r => execAppend_from r s
  | .bootrec r ok => execBootrec_from r ok s
  | .groupCommit => execGroupCommit_from s
  | .compaction stage => execCompaction_from stage s
  | .cellarTimeout n => execCellarTimeout_from n s
  | .hbMiss => execHbMiss_from s
  | .wdt => execWdt_from s
  | .openPinTest pin moved => execOpenPinTest_from pin moved s
  | .holdEnd site => execHoldEnd_from site s
  | .idcode header => execIdcode_from header s
  | .rdStat header => execRdStat_from header s
  | .wrAddr header data crc => execWrAddr_from header data crc s
  | .rdData header => execRdData_from header s
  | .rdBuf header => execRdBuf_from header s
  | .wrData header data crc => execWrData_from header data crc s
  | .dbgAbort header data crc => execDbgAbort_from header data crc s
  | .chkErr header => execChkErr_from header s
  | .lineReset => execLineReset_from s
  | .dbgTimeout => execDbgTimeout_from s
  | .dbgAccessDone => execDbgAccessDone_from s
  | .halt c on => execHalt_from c on s
  | .coreHalt c => execCoreHalt_from c s
  | .step n => execStep_from n s
  | .creg w => execCreg_from w s
  | .dbgReset => execDbgReset_from s
  | .snap => execSnap_from s
  | .tick => execTick_from s
  | .slowClockEdge act => execSlowClockEdge_from act s
  | .vbusLevelChange p mv => execVbusLevelChange_from p mv s
  | .vslotinRise b m => execVslotinRise_from b m s
  | .slotLimitEdge b limit m => execSlotLimitEdge_from b limit m s
  | .ntcConversion uv => execNtcConversion_from uv s
  | .vbusInReturn m => execVbusInReturn_from m s
  | .chargerPeriodStart m => execChargerPeriodStart_from m s
  | .hlCtsChange n level => execHlCtsChange_from n level s

/-- Taking a command from the queue is no effect on what the invariant and the fuses are about. -/
theorem State.inv_withQueue {s : State} (h : s.Inv) (q : List Instr) : (s.withQueue q).Inv :=
  ⟨h.links, h.tws, h.tcs, h.staged, h.models, h.plan, h.rooms, h.hallCode, h.hallData, h.cellar⟩

/-- What a step can do: idle, or what its command leads to from the state with the rest of the queue. -/
theorem step_cases {s t : State} (h : step s = .next t) :
    (s.pending = [] ∧ t = s) ∨ ∃ c rest, s.pending = c :: rest ∧ (s.withQueue rest).Leads t := by
  cases hq : s.pending with
  | nil =>
    rw [step_of_idle hq] at h
    cases h
    exact .inl ⟨rfl, rfl⟩
  | cons c rest =>
    rw [step_of_pending hq] at h
    exact .inr ⟨c, rest, rfl, exec_leads _ c t h⟩

/-- Settles O3: every command leads to a state with the invariant, and the queue is no part of it. -/
theorem stepKeepsInvariant : Obligations.StepKeepsInvariant := by
  unfold Obligations.StepKeepsInvariant
  intro s t hinv hstep
  obtain ⟨-, rfl⟩ | ⟨c, rest, -, hleads⟩ := step_cases hstep
  · exact hinv
  · exact hleads.inv (State.inv_withQueue hinv rest)

/-- Fuses that only grow keep every logical bit that reads 1 (R512). -/
theorem Attic.grows.logical {x y : Attic} (h : x.grows y) {w b : Nat}
    (hb : (x.a.get w).getLsbD b = true ∨ (x.b.get w).getLsbD b = true) : (y.logical w).getLsbD b = true := by
  obtain ⟨ha, hb'⟩ := h w
  rw [Attic.logical, BitVec.getLsbD_or, Bool.or_eq_true]
  refine hb.imp (fun h1 => ?_) fun h1 => ?_
  · rw [← ha, BitVec.getLsbD_and, Bool.and_eq_true] at h1
    exact h1.2
  · rw [← hb', BitVec.getLsbD_and, Bool.and_eq_true] at h1
    exact h1.2

/-- Settles O5: every command leads to fuses that have grown, and so do the logical bits. -/
theorem fusesNeverReturn : Obligations.FusesNeverReturn := by
  unfold Obligations.FusesNeverReturn
  intro s t hstep
  have hgrows : s.attic.grows t.attic := by
    obtain ⟨-, rfl⟩ | ⟨c, rest, -, hleads⟩ := step_cases hstep
    · exact Attic.grows_refl _
    · exact hleads.fuse
  exact ⟨hgrows, fun w b => hgrows.logical⟩

/-! ### Every command answers a next state -/

theorem hostAct_next (s : State) (n : Fin 2) (type : Nat) (line : List Byte) (held recOk : Bool)
    (go : Frame → State → State) : ∃ t, hostAct s n type line held recOk go = .next t := by
  unfold hostAct
  split
  · exact ⟨s, rfl⟩
  · exact ⟨_, rfl⟩

theorem progAct_next (s : State) (n : Fin 2) (type : Nat) (line : Option (List Byte)) (k : Nat)
    (go : Frame → State → State) : ∃ t, progAct s n type line k go = .next t := by
  cases line with
  | some l => exact hostAct_next ..
  | none => exact ⟨_, rfl⟩

theorem porchAct_next (s : State) (type : Nat) (line : List Byte) (go : Frame → State → State) :
    ∃ t, porchAct s type line go = .next t := by
  unfold porchAct
  split
  · exact ⟨s, rfl⟩
  · exact ⟨_, rfl⟩

theorem actAsk_next (s : State) (a : Option Ask) : ∃ t, actAsk s a = .next t := by
  cases a with
  | none => exact ⟨s, rfl⟩
  | some a => exact ⟨_, rfl⟩

theorem twAct_next (s : State) (n : Fin 4) (read : Bool) (tx : Option (BitVec 7 × List Byte)) (k : Nat) :
    ∃ t, twAct s n read tx k = .next t := by
  cases tx with
  | none => exact ⟨_, rfl⟩
  | some x => exact ⟨_, rfl⟩

/-- Every command answers a next state: its meaning is one `act`, or a choice between `act`s and the state as it is. -/
theorem exec_next (s : State) (c : Instr) : ∃ t, exec c s = .next t := by
  cases c with
  | registerWrite a _ _ _ | subwordRead a _ _ => cases a <;> exact ⟨_, rfl⟩
  | forceSafe _ core _ => cases core <;> exact ⟨_, rfl⟩
  | parity site | driveConflict site | holdEnd site | openPinTest site _ => cases site <;> exact ⟨_, rfl⟩
  | grantAnswer | attachGrant | chargerGrant => exact actAsk_next ..
  | hlRead | hlWrite | subscribe | snapshot | hlActivate | ack | setting | vdmSend | ping => exact hostAct_next ..
  | rmw | bulkRead | bulkWrite => exact progAct_next ..
  | ident | openSession | chunk | finish | porchAbort | porchStatus | porchActivate => exact porchAct_next ..
  | twWriteTransaction | twReadTransaction => exact twAct_next ..
  | budgetLimitWrite r addr v =>
    rw [exec_budgetLimitWrite, execBudgetLimitWrite]
    split
    · exact ⟨s, rfl⟩
    · split
      · exact ⟨s, rfl⟩
      · exact ⟨_, rfl⟩
  | landingShedStep b =>
    rw [exec_landingShedStep, execLandingShedStep]
    split
    · exact ⟨s, rfl⟩
    · exact ⟨_, rfl⟩
  | unknownType n line =>
    rw [exec_unknownType, execUnknownType]
    split
    · exact ⟨s, rfl⟩
    · split <;> exact ⟨_, rfl⟩
  | timeout n =>
    rw [exec_timeout, execTimeout]
    split
    · exact ⟨s, rfl⟩
    · exact ⟨_, rfl⟩
  | atticCommandDone abort bad =>
    rw [exec_atticCommandDone, execAtticCommandDone]
    split
    · exact ⟨s, rfl⟩
    · exact ⟨_, rfl⟩
  | verifyDone =>
    rw [exec_verifyDone, execVerifyDone]
    split
    · exact ⟨s, rfl⟩
    · exact ⟨_, rfl⟩
  | reverted recOk =>
    rw [exec_reverted, execReverted]
    dsimp only
    split <;> exact ⟨_, rfl⟩
  | groupCommit =>
    rw [exec_groupCommit, execGroupCommit]
    split
    · exact ⟨s, rfl⟩
    · exact ⟨_, rfl⟩
  | cellarTimeout n =>
    rw [exec_cellarTimeout, execCellarTimeout]
    split
    · exact ⟨s, rfl⟩
    · exact ⟨_, rfl⟩
  | dbgAccessDone =>
    rw [exec_dbgAccessDone, execDbgAccessDone]
    split
    · exact ⟨s, rfl⟩
    · exact ⟨_, rfl⟩
    · exact ⟨_, rfl⟩
  | _ => exact ⟨_, rfl⟩

/-- Settles O2: idling keeps the empty queue; a command answers a next state and leaves the rest of the queue as it is. -/
theorem everyStepCompletes : Obligations.EveryStepCompletes := by
  unfold Obligations.EveryStepCompletes
  intro s
  cases hq : s.pending with
  | nil => exact ⟨s, step_of_idle hq, hq⟩
  | cons c rest =>
    obtain ⟨t, ht⟩ := exec_next (s.withQueue rest) c
    exact ⟨t, (step_of_pending hq).trans ht, (exec_leads _ c t ht).queue⟩

/-! ## The state after reset -/

/-- Settles O4: no Plan is applied, and the memories of the state after reset are empty. -/
theorem resetMeetsInvariant : Obligations.ResetMeetsInvariant := by
  unfold Obligations.ResetMeetsInvariant
  have hrooms : ∀ p, (State.reset.room p).memOk := fun p => by
    rw [show State.reset.room p = Room.reset p.val from State.reset_room p]
    exact ⟨rfl, rfl⟩
  exact ⟨State.reset_links, State.reset_tws, State.reset_tcs, State.reset_staged, State.reset_models,
    fun x hx => absurd hx (by simp [State.reset_plan]), hrooms, rfl, rfl, rfl⟩

/-! ### Reset values of the register tables -/

theorem hallFields_reset : (hallFields.all fun f => (resetRegs hallFields).fld f == f.reset) = true := by decide +kernel
theorem wingFields_reset : (wingFields.all fun f => (resetRegs wingFields).fld f == f.reset) = true := by decide +kernel
theorem landFields_reset : (landFields.all fun f => (resetRegs landFields).fld f == f.reset) = true := by decide +kernel
theorem roomFields_reset : (roomFields.all fun f => (resetRegs roomFields).fld f == f.reset) = true := by decide +kernel

theorem fld_of_all {m : Regs} {fs : List Field} (h : (fs.all fun f => m.fld f == f.reset) = true) {f : Field} (hf : f ∈ fs) :
    m.fld f = f.reset :=
  beq_iff_eq.1 (List.all_eq_true.1 h f hf)

/-- The fields of a Room's ID, which name its port, slot, Wing and lead. -/
def idFields : List Field := [ID_PORT_NUM, ID_SLOT, ID_WING, ID_LEAD]

theorem roomFields_apart_idFields : (roomFields.all fun f => idFields.contains f || idFields.all (·.apart f)) = true := by
  decide +kernel

theorem State.reset_regs : State.reset.regs = resetRegs hallFields := by
  unfold State.reset
  with_reducible rfl

theorem Landing.reset_regs : Landing.reset.regs = resetRegs landFields := by
  unfold Landing.reset
  with_reducible rfl

theorem State.land_reset (b : Fin 6) : State.reset.land b = Landing.reset := by
  simp [State.land, State.reset]

theorem State.wing_reset (w : Fin 2) : State.reset.wing w = Wing.reset := by
  simp [State.wing, State.reset]

/-- A field apart from those of the ID holds its reset value in every Room. -/
theorem Room.fld_reset (p : Nat) {f : Field} (hf : f ∈ roomFields) (hid : f ∉ idFields) : (Room.reset p).fld f = f.reset := by
  have happart : idFields.all (·.apart f) = true := by
    simpa [hid] using List.all_eq_true.1 roomFields_apart_idFields f hf
  obtain ⟨hport, hslot, hwing, hlead⟩ : ID_PORT_NUM.apart f = true ∧ ID_SLOT.apart f = true ∧ ID_WING.apart f = true ∧
      ID_LEAD.apart f = true := by
    simpa [idFields] using happart
  have hreset : (resetRegs roomFields).fld f = f.reset := fld_of_all roomFields_reset hf
  rw [← hreset, Room.fld, Room.reset, Regs.fld_put_apart _ _ _ _ hlead, Regs.fld_put_apart _ _ _ _ hwing,
    Regs.fld_put_apart _ _ _ _ hslot, Regs.fld_put_apart _ _ _ _ hport]

/-- The ID of a Room names its port, slot, Wing and lead. -/
theorem Room.fld_id_reset (p : Fin 48) : (Room.reset p.val).fld ID_PORT_NUM = p.val ∧
    (Room.reset p.val).fld ID_SLOT = p.val / 8 ∧ (Room.reset p.val).fld ID_WING = p.val / 24 ∧
    (Room.reset p.val).fld ID_LEAD = p.val := by
  revert p
  decide +kernel

/-- Settles O6: the tables of the Hall, the Wings, the Landings and the Rooms one by one. -/
theorem resetValues : Obligations.ResetValues := by
  unfold Obligations.ResetValues
  have hroom : ∀ p : Fin 48, State.reset.room p = Room.reset p.val := State.reset_room
  refine ⟨fun f hf => ?_, fun w f hf => ?_, fun b f hf => ?_, fun p f hf hid => ?_, fun p => ?_, rfl, rfl, rfl, fun n => ?_,
    rfl, rfl⟩
  · rw [State.fld, State.reset_regs]
    exact fld_of_all hallFields_reset hf
  · rw [State.wing_reset]
    exact fld_of_all wingFields_reset hf
  · rw [State.land_reset, Landing.fld, Landing.reset_regs]
    exact fld_of_all landFields_reset hf
  · rw [hroom]
    exact Room.fld_reset p.val hf hid
  · rw [hroom]
    exact Room.fld_id_reset p
  · match n with
    | 0 => rfl
    | 1 => rfl

end Sys2Proof.Machine

namespace Sys2Proof.Machine

set_option Elab.async false

/-! ## Little-endian fields of a byte string (R435) -/

theorem leBytes_two (v : Nat) : leBytes 2 v = [BitVec.ofNat 8 v, BitVec.ofNat 8 (v / 256)] := by
  simp [leBytes, List.range_succ]

theorem leBytes_four (v : Nat) : leBytes 4 v =
    [BitVec.ofNat 8 v, BitVec.ofNat 8 (v / 256), BitVec.ofNat 8 (v / 65536), BitVec.ofNat 8 (v / 16777216)] := by
  simp [leBytes, List.range_succ]

@[simp] theorem length_leBytes (n v : Nat) : (leBytes n v).length = n := by
  simp [leBytes]

/-- The two bytes of a number below 2^16 make that number. -/
theorem toNat_two_bytes {v : Nat} (h : v < 65536) :
    (BitVec.ofNat 8 v).toNat + 256 * (BitVec.ofNat 8 (v / 256)).toNat = v := by
  simp only [BitVec.toNat_ofNat]
  omega

/-- The four bytes of a number below 2^32 make that number. -/
theorem toNat_four_bytes {v : Nat} (h : v < 2 ^ 32) :
    (BitVec.ofNat 8 v).toNat + 256 * (BitVec.ofNat 8 (v / 256)).toNat +
      65536 * ((BitVec.ofNat 8 (v / 65536)).toNat + 256 * (BitVec.ofNat 8 (v / 16777216)).toNat) = v := by
  simp only [BitVec.toNat_ofNat]
  omega

/-! ## Frames of the host links (R434 to R436) -/

/-- A receiver drops what stands before the flags that open a frame, and all but one of them (R434, R437). -/
theorem opened_noise_flags (noise : List Byte) (flags : Nat) (b : List Byte) (h : 0x7E#8 ∉ noise) :
    opened (noise ++ List.replicate flags 0x7E#8 ++ wire b) = opened (wire b) := by
  have hnoise : ∀ x ∈ noise, (x != 0x7E#8) = true := fun x hx => by
    simpa using fun e : x = 0x7E#8 => h (e ▸ hx)
  have hflags : ∀ l : List Byte, (List.replicate flags 0x7E#8 ++ 0x7E#8 :: l).dropWhile (· = 0x7E#8) =
      l.dropWhile (· = 0x7E#8) := fun l => by
    rw [List.dropWhile_append_of_pos fun x hx => by simpa using (List.mem_replicate.1 hx).2]
    simp
  have hstart : ∀ l : List Byte, (List.replicate flags 0x7E#8 ++ 0x7E#8 :: l).dropWhile (· != 0x7E#8) =
      List.replicate flags 0x7E#8 ++ 0x7E#8 :: l := fun l => by
    cases flags <;> simp [List.replicate_succ]
  simp only [opened, wire, List.cons_append, List.append_assoc]
  rw [List.dropWhile_append_of_pos hnoise, hstart, hflags]
  simp

/-- What a receiver makes of a line depends only on what follows its opening flags. -/
theorem readFrame_congr {l m : List Byte} (h : opened l = opened m) : readFrame l = readFrame m := by
  unfold readFrame closed between
  rw [h]

/-- The fields of a frame's bytes stand where the receiver reads them (R435). -/
theorem frameBody_eq (type : Nat) (res : Byte) (seq : Nat) (payload : List Byte) : frameBody type res seq payload =
    BitVec.ofNat 8 type :: res :: BitVec.ofNat 8 seq :: BitVec.ofNat 8 (seq / 256) :: BitVec.ofNat 8 payload.length ::
      BitVec.ofNat 8 (payload.length / 256) :: payload := by
  simp [frameBody, leBytes_two]

/-- A frame with its CRC on the line is read back (R434 to R436). -/
theorem readFrame_wire_frameBody (type : Nat) (f : Frame) (htype : type < 256) (hlen : f.payload.length < 65536) :
    readFrame (wire (frameBody type f.res f.seq.toNat f.payload ++
      leBytes 4 (crc32c (frameBody type f.res f.seq.toNat f.payload)))) = some (type, f) := by
  generalize hcrc : crc32c (frameBody type f.res f.seq.toNat f.payload) = crc
  have hcrclt : crc < 2 ^ 32 := hcrc ▸ crc32c_lt _
  have hbody : (frameBody type f.res f.seq.toNat f.payload).length = f.payload.length + 6 := by simp [frameBody_eq]
  have hlast : (frameBody type f.res f.seq.toNat f.payload ++ leBytes 4 crc).length - 4 =
      (frameBody type f.res f.seq.toNat f.payload).length := by simp
  have hseq : BitVec.ofNat 16 f.seq.toNat = f.seq := by simp
  have hlen4 : u16 (frameBody type f.res f.seq.toNat f.payload ++ leBytes 4 crc) 4 = f.payload.length := by
    simpa [u16, u8, frameBody_eq] using toNat_two_bytes hlen
  have hseq2 : u16 (frameBody type f.res f.seq.toNat f.payload ++ leBytes 4 crc) 2 = f.seq.toNat := by
    simpa [u16, u8, frameBody_eq] using toNat_two_bytes f.seq.isLt
  have htype0 : u8 (frameBody type f.res f.seq.toNat f.payload ++ leBytes 4 crc) 0 = type := by
    simpa [u8, frameBody_eq] using Nat.mod_eq_of_lt htype
  have hres : (frameBody type f.res f.seq.toNat f.payload ++ leBytes 4 crc).getD 1 0 = f.res := by
    simp [frameBody_eq]
  have hpayload : bslice (frameBody type f.res f.seq.toNat f.payload ++ leBytes 4 crc) 6 f.payload.length = f.payload := by
    simp [bslice, frameBody_eq]
  have hne : frameBody type f.res f.seq.toNat f.payload ++ leBytes 4 crc ≠ [] := by simp [frameBody_eq]
  rw [readFrame_wire hne, hlast, u32_append _ _ hcrclt, List.take_left, hcrc, hlen4, hseq2, htype0, hres, hpayload, hseq]
  simp [hbody]

/-- Settles O52: a receiver drops what stands before the frame, undoes the stuffing and finds each field at its place; the
block's own frames are such frames with the reserved byte 0. -/
theorem framesAreReadBack : Obligations.FramesAreReadBack := by
  unfold Obligations.FramesAreReadBack
  refine ⟨fun type f noise flags htype hlen hnoise => ?_, fun type seq payload htype hseq hlen => ?_⟩
  · exact (readFrame_congr (opened_noise_flags noise flags _ hnoise)).trans (readFrame_wire_frameBody type f htype hlen)
  · have h := readFrame_wire_frameBody type ⟨0, BitVec.ofNat 16 seq, payload⟩ htype hlen
    rwa [show (BitVec.ofNat 16 seq).toNat = seq from Nat.mod_eq_of_lt hseq] at h

/-! ## Bursts of the Stair lanes (R492, R493, R496) -/

/-- Every data character, and each of the control characters of a burst, is decoded as itself, with the disparity after it,
where the receiver stands at the sender's disparity. -/
theorem laneChar_encode_data (b : Byte) (rd : Bool) :
    laneChar (LaneChar.encode ⟨false, b⟩ rd).1 rd = some (⟨false, b⟩, (LaneChar.encode ⟨false, b⟩ rd).2) := by
  revert b rd
  decide +kernel

theorem laneChar_encode_start (rd : Bool) :
    laneChar (k27_7.encode rd).1 rd = some (k27_7, (k27_7.encode rd).2) := by
  revert rd
  decide +kernel

theorem laneChar_encode_end (rd : Bool) :
    laneChar (k29_7.encode rd).1 rd = some (k29_7, (k29_7.encode rd).2) := by
  revert rd
  decide +kernel

/-- The start of a burst sent at disparity + is no character at disparity −. -/
theorem laneChar_start_other : laneChar (k27_7.encode true).1 false = none := by
  decide +kernel

/-- A character that the code carries. -/
def LaneChar.sound (c : LaneChar) : Prop := ∀ rd, laneChar (c.encode rd).1 rd = some (c, (c.encode rd).2)

theorem laneChars_laneSymbols {cs : List LaneChar} (h : ∀ c ∈ cs, c.sound) (rd : Bool) :
    laneChars (laneSymbols cs rd).1 rd = some cs := by
  induction cs generalizing rd with
  | nil => rfl
  | cons c cs ih =>
    have htail := ih (fun x hx => h x (List.mem_cons_of_mem c hx)) (c.encode rd).2
    simp [laneSymbols, laneChars, h c (List.mem_cons_self ..) rd, htail]

theorem sound_of_mem_burst {b : List Byte} {c : LaneChar} (h : c ∈ burst b) : c.sound := by
  simp only [burst, List.cons_append, List.mem_cons, List.mem_append, List.mem_map, List.not_mem_nil, or_false] at h
  rcases h with rfl | ⟨x, -, rfl⟩ | rfl
  · exact laneChar_encode_start
  · exact laneChar_encode_data x
  · exact laneChar_encode_end

/-- A lane takes the characters of a burst, whatever the disparity that it was sent with (R492, R493). -/
theorem taken_burst (b : List Byte) (rd : Bool) : taken (laneSymbols (burst b) rd).1 = some (burst b) := by
  have hown : ∀ rd, laneChars (laneSymbols (burst b) rd).1 rd = some (burst b) := laneChars_laneSymbols fun _ => sound_of_mem_burst
  cases rd with
  | false => simp [taken, hown]
  | true =>
    have hother : laneChars (laneSymbols (burst b) true).1 false = none := by
      simp [burst, laneSymbols, laneChars, laneChar_start_other]
    simp [taken, hother, hown]

/-- The fields of a record stand where the receiver reads them (R496). -/
theorem recordBody_eq (type : Nat) (c : StairRec) : recordBody type c =
    BitVec.ofNat 8 type :: BitVec.ofNat 8 c.target :: BitVec.ofNat 8 c.seq.toNat :: BitVec.ofNat 8 (c.seq.toNat / 256) ::
      BitVec.ofNat 8 c.tbLo.toNat :: BitVec.ofNat 8 (c.tbLo.toNat / 256) :: BitVec.ofNat 8 (c.tbLo.toNat / 65536) ::
      BitVec.ofNat 8 (c.tbLo.toNat / 16777216) :: c.payload := by
  simp [recordBody, wordBytes, leBytes_two, leBytes_four]

/-- The burst of a record is a valid copy of it (R493, R496). -/
theorem readBurst_burst (type : Nat) (c : StairRec) (htype : type < 256) (htarget : c.target < 256)
    (hlen : c.payload.length = 52) : readBurst (burst (recordBytes type c)) = some (type, c) := by
  have hbody : (recordBody type c).length = 60 := by simp [recordBody_eq, hlen]
  have hbytes : (recordBytes type c).length = 64 := by simp [recordBytes, hbody]
  have hdata : ((burst (recordBytes type c)).drop 1).take 64 = (recordBytes type c).map (⟨false, ·⟩) := by
    simp [burst, hbytes]
  have hmap : ((recordBytes type c).map (LaneChar.mk false)).map (·.byte) = recordBytes type c := by
    simp [Function.comp_def]
  have hcrc : crc32c ((recordBytes type c).take 60) = u32 (recordBytes type c) 60 := by
    have h := u32_append (recordBody type c) (crc32c (recordBody type c)) (crc32c_lt _)
    rw [hbody] at h
    rw [recordBytes, h, List.take_left' hbody]
  have htype0 : u8 (recordBytes type c) 0 = type := by
    simpa [u8, recordBytes, recordBody_eq] using Nat.mod_eq_of_lt htype
  have htarget1 : u8 (recordBytes type c) 1 = c.target := by
    simpa [u8, recordBytes, recordBody_eq] using Nat.mod_eq_of_lt htarget
  have hseq : u16 (recordBytes type c) 2 = c.seq.toNat := by
    simpa [u16, u8, recordBytes, recordBody_eq] using toNat_two_bytes c.seq.isLt
  have htb : u32 (recordBytes type c) 4 = c.tbLo.toNat := by
    simpa [u32, u16, u8, recordBytes, recordBody_eq] using toNat_four_bytes c.tbLo.isLt
  have hpayload : bslice (recordBytes type c) 8 52 = c.payload := by
    simp [bslice, recordBytes, recordBody_eq, ← hlen]
  have hlength : (burst (recordBytes type c)).length = 66 := by simp [burst, hbytes]
  have hhead : (burst (recordBytes type c)).head? = some k27_7 := rfl
  have hlast : (burst (recordBytes type c)).getLast? = some k29_7 := by
    rw [burst, List.getLast?_append]
    rfl
  have hctl : ((recordBytes type c).map (LaneChar.mk false)).all (fun x => !x.ctl) = true := by simp
  simp only [readBurst, hdata, hmap, hlength, hhead, hlast, hctl, hcrc, htype0, htarget1, hseq, htb, hpayload]
  simp

/-- Settles O59: a lane takes the characters of the burst as they were sent, and they are a valid copy of the record. -/
theorem burstsAreReadBack : Obligations.BurstsAreReadBack := by
  unfold Obligations.BurstsAreReadBack
  intro type c rd htype htarget hlen
  rw [carries, taken_burst, Option.bind_some, readBurst_burst type c htype htarget hlen]

/-! ## Packets of the PD engine (R170 to R173) -/

/-- The symbols of a byte are data symbols, read back as its nibbles. -/
theorem idxOf_sym4b5b (n : Fin 16) : sym4b5b.idxOf? (sym4b5b.getD n.val 0) = some n.val := by
  revert n
  decide

theorem sym4b5b_ne_eop (n : Fin 16) : sym4b5b.getD n.val 0 ≠ kEop := by
  revert n
  decide

theorem byteSyms_ne_eop {b : Byte} {x : Sym} (h : x ∈ byteSyms b) : x ≠ kEop := by
  simp only [byteSyms, List.mem_cons, List.not_mem_nil, or_false] at h
  rcases h with rfl | rfl
  · exact sym4b5b_ne_eop ⟨b.toNat % 16, by omega⟩
  · exact sym4b5b_ne_eop ⟨b.toNat / 16, by omega⟩

/-- The symbols of bytes are read back as those bytes. -/
theorem bytesOfSyms_flatMap_byteSyms (bs : List Byte) : bytesOfSyms (bs.flatMap byteSyms) = some bs := by
  induction bs with
  | nil => rfl
  | cons b bs ih =>
    have hlo := idxOf_sym4b5b ⟨b.toNat % 16, by omega⟩
    have hhi := idxOf_sym4b5b ⟨b.toNat / 16, by omega⟩
    have hb : BitVec.ofNat 8 (b.toNat % 16 + 16 * (b.toNat / 16)) = b := by
      rw [Nat.mod_add_div]
      simp
    simp only [List.flatMap_cons, byteSyms, List.cons_append, List.nil_append, bytesOfSyms]
    simp only [hlo, hhi, ih, hb]

/-- The four bytes of a word make that word. -/
theorem append_bytes (w : Word) :
    w.extractLsb' 24 8 ++ w.extractLsb' 16 8 ++ w.extractLsb' 8 8 ++ w.extractLsb' 0 8 = w := by
  refine BitVec.eq_of_getLsbD_eq fun i hi => ?_
  simp only [BitVec.getLsbD_append, BitVec.getLsbD_extractLsb']
  grind

theorem wordsOf_flatMap_bytesOf (ws : List Word) : wordsOf (ws.flatMap bytesOf) = ws := by
  induction ws with
  | nil => rfl
  | cons w ws ih =>
    rw [List.flatMap_cons, bytesOf]
    simp only [List.cons_append, List.nil_append, wordsOf, ih, append_bytes]

theorem length_flatMap_bytesOf (ws : List Word) : (ws.flatMap bytesOf).length = 4 * ws.length := by
  induction ws with
  | nil => rfl
  | cons w ws ih =>
    simp only [List.flatMap_cons, bytesOf, List.length_append, List.length_cons, List.length_nil, ih]
    omega

/-- A receiver finds the symbols up to EOP (R172). -/
theorem takeWhile_syms (k : Pkt) :
    k.syms.takeWhile (· != kEop) = (k.bytes ++ bytesOf (crc32 k.bytes)).flatMap byteSyms := by
  have hne : ∀ x ∈ (k.bytes ++ bytesOf (crc32 k.bytes)).flatMap byteSyms, (x != kEop) = true := by
    intro x hx
    obtain ⟨b, -, hb⟩ := List.mem_flatMap.1 hx
    simpa using byteSyms_ne_eop hb
  rw [Pkt.syms, List.takeWhile_append_of_pos hne]
  simp

/-- A packet from the line passes every check and reads as it was sent (R172, R173). -/
theorem checkPacket_syms (k : Pkt) (hhdr : k.hdr < 65536) (hobjs : k.objs.length = k.num) :
    checkPacket k.sop k.syms = .good k := by
  have hnum : k.hdr / 4096 % 8 = k.num := rfl
  have hnumlt : k.num < 8 := Nat.mod_lt _ (by decide)
  have hbytes : k.bytes.length = 2 + 4 * k.num := by
    simp only [Pkt.bytes, List.length_append, length_flatMap_bytesOf, hobjs, List.length_cons, List.length_nil]
  have hcrc : (bytesOf (crc32 k.bytes)).length = 4 := rfl
  have heop : k.syms.contains kEop = true := by simp [Pkt.syms]
  have hlen : (k.bytes ++ bytesOf (crc32 k.bytes)).length = 2 + 4 * k.num + 4 := by
    rw [List.length_append, hcrc, hbytes]
  have htake : (k.bytes ++ bytesOf (crc32 k.bytes)).take (2 + 4 * k.num) = k.bytes := List.take_left' hbytes
  have hdrop : (k.bytes ++ bytesOf (crc32 k.bytes)).drop (2 + 4 * k.num) = bytesOf (crc32 k.bytes) :=
    List.drop_left' hbytes
  have hfits : ¬ (2 + 4 * k.num + 4 < 6 ∨ 34 < 2 + 4 * k.num + 4) := by omega
  have h0 : (k.bytes.getD 0 0).toNat = k.hdr % 256 := by simp [Pkt.bytes]
  have h1 : (k.bytes.getD 1 0).toNat = k.hdr / 256 % 256 := by simp [Pkt.bytes]
  have hhdr' : k.hdr % 256 + 256 * (k.hdr / 256 % 256) = k.hdr := by omega
  have hwords : wordsOf (k.bytes.drop 2) = k.objs := wordsOf_flatMap_bytesOf k.objs
  simp only [checkPacket, heop, takeWhile_syms, bytesOfSyms_flatMap_byteSyms, hlen, Nat.add_sub_cancel, htake, hdrop, h0,
    h1, hhdr', hwords, hbytes, hnum]
  simpa using hfits

/-- The K-codes of every ordered set are recognised as that set (R171). -/
theorem recognise_codes (k : SetKind) : recognise k.codes = some k := by
  cases k with
  | sop t => revert t; decide
  | hard => decide
  | cable => decide

/-- Settles O25: the packet passes the receiver's checks, and each ordered set is one of those that it knows. -/
theorem packetsAreReadBack : Obligations.PacketsAreReadBack := by
  unfold Obligations.PacketsAreReadBack
  exact ⟨fun k hhdr hobjs _ => ⟨checkPacket_syms k hhdr hobjs, recognise_codes _⟩, recognise_codes⟩

end Sys2Proof.Machine

namespace Sys2Proof.Machine

set_option Elab.async false

/-! ## One rule per part of a Room and update -/

section
variable (r : Room)

@[simp] theorem Room.put_cc (f : Field) (v : Nat) : (r.put f v).cc = r.cc := rfl
@[simp] theorem Room.put_pd (f : Field) (v : Nat) : (r.put f v).pd = r.pd := rfl
@[simp] theorem Room.put_con (f : Field) (v : Nat) : (r.put f v).con = r.con := rfl
@[simp] theorem Room.put_conv (f : Field) (v : Nat) : (r.put f v).conv = r.conv := rfl
@[simp] theorem Room.put_core (f : Field) (v : Nat) : (r.put f v).core = r.core := rfl
@[simp] theorem Room.put_data (f : Field) (v : Nat) : (r.put f v).data = r.data := rfl
@[simp] theorem Room.put_code (f : Field) (v : Nat) : (r.put f v).code = r.code := rfl
@[simp] theorem Room.put_safe (f : Field) (v : Nat) : (r.put f v).safe = r.safe := rfl
@[simp] theorem Room.put_slotHold (f : Field) (v : Nat) : (r.put f v).slotHold = r.slotHold := rfl
@[simp] theorem Room.put_senseHold (f : Field) (v : Nat) : (r.put f v).senseHold = r.senseHold := rfl
@[simp] theorem Room.put_kickAt (f : Field) (v : Nat) : (r.put f v).kickAt = r.kickAt := rfl
@[simp] theorem Room.put_restarts (f : Field) (v : Nat) : (r.put f v).restarts = r.restarts := rfl
@[simp] theorem Room.put_cal (f : Field) (v : Nat) : (r.put f v).cal = r.cal := rfl
@[simp] theorem Room.put_calRej (f : Field) (v : Nat) : (r.put f v).calRej = r.calRej := rfl
@[simp] theorem Room.put_eoutRem (f : Field) (v : Nat) : (r.put f v).eoutRem = r.eoutRem := rfl
@[simp] theorem Room.put_einRem (f : Field) (v : Nat) : (r.put f v).einRem = r.einRem := rfl
@[simp] theorem Room.put_epoch (f : Field) (v : Nat) : (r.put f v).epoch = r.epoch := rfl
@[simp] theorem Room.put_outs (f : Field) (v : Nat) : (r.put f v).outs = r.outs := rfl
@[simp] theorem Room.on_cc (f : Field) : (r.on f).cc = r.cc := rfl
@[simp] theorem Room.on_pd (f : Field) : (r.on f).pd = r.pd := rfl
@[simp] theorem Room.on_con (f : Field) : (r.on f).con = r.con := rfl
@[simp] theorem Room.on_conv (f : Field) : (r.on f).conv = r.conv := rfl
@[simp] theorem Room.on_core (f : Field) : (r.on f).core = r.core := rfl
@[simp] theorem Room.on_data (f : Field) : (r.on f).data = r.data := rfl
@[simp] theorem Room.on_code (f : Field) : (r.on f).code = r.code := rfl
@[simp] theorem Room.on_safe (f : Field) : (r.on f).safe = r.safe := rfl
@[simp] theorem Room.on_slotHold (f : Field) : (r.on f).slotHold = r.slotHold := rfl
@[simp] theorem Room.on_senseHold (f : Field) : (r.on f).senseHold = r.senseHold := rfl
@[simp] theorem Room.on_kickAt (f : Field) : (r.on f).kickAt = r.kickAt := rfl
@[simp] theorem Room.on_restarts (f : Field) : (r.on f).restarts = r.restarts := rfl
@[simp] theorem Room.on_cal (f : Field) : (r.on f).cal = r.cal := rfl
@[simp] theorem Room.on_calRej (f : Field) : (r.on f).calRej = r.calRej := rfl
@[simp] theorem Room.on_eoutRem (f : Field) : (r.on f).eoutRem = r.eoutRem := rfl
@[simp] theorem Room.on_einRem (f : Field) : (r.on f).einRem = r.einRem := rfl
@[simp] theorem Room.on_epoch (f : Field) : (r.on f).epoch = r.epoch := rfl
@[simp] theorem Room.on_outs (f : Field) : (r.on f).outs = r.outs := rfl
@[simp] theorem Room.off_cc (f : Field) : (r.off f).cc = r.cc := rfl
@[simp] theorem Room.off_pd (f : Field) : (r.off f).pd = r.pd := rfl
@[simp] theorem Room.off_con (f : Field) : (r.off f).con = r.con := rfl
@[simp] theorem Room.off_conv (f : Field) : (r.off f).conv = r.conv := rfl
@[simp] theorem Room.off_core (f : Field) : (r.off f).core = r.core := rfl
@[simp] theorem Room.off_data (f : Field) : (r.off f).data = r.data := rfl
@[simp] theorem Room.off_code (f : Field) : (r.off f).code = r.code := rfl
@[simp] theorem Room.off_safe (f : Field) : (r.off f).safe = r.safe := rfl
@[simp] theorem Room.off_slotHold (f : Field) : (r.off f).slotHold = r.slotHold := rfl
@[simp] theorem Room.off_senseHold (f : Field) : (r.off f).senseHold = r.senseHold := rfl
@[simp] theorem Room.off_kickAt (f : Field) : (r.off f).kickAt = r.kickAt := rfl
@[simp] theorem Room.off_restarts (f : Field) : (r.off f).restarts = r.restarts := rfl
@[simp] theorem Room.off_cal (f : Field) : (r.off f).cal = r.cal := rfl
@[simp] theorem Room.off_calRej (f : Field) : (r.off f).calRej = r.calRej := rfl
@[simp] theorem Room.off_eoutRem (f : Field) : (r.off f).eoutRem = r.eoutRem := rfl
@[simp] theorem Room.off_einRem (f : Field) : (r.off f).einRem = r.einRem := rfl
@[simp] theorem Room.off_epoch (f : Field) : (r.off f).epoch = r.epoch := rfl
@[simp] theorem Room.off_outs (f : Field) : (r.off f).outs = r.outs := rfl
@[simp] theorem Room.putB_cc (f : Field) (b : Bool) : (r.putB f b).cc = r.cc := rfl
@[simp] theorem Room.putB_pd (f : Field) (b : Bool) : (r.putB f b).pd = r.pd := rfl
@[simp] theorem Room.putB_con (f : Field) (b : Bool) : (r.putB f b).con = r.con := rfl
@[simp] theorem Room.putB_conv (f : Field) (b : Bool) : (r.putB f b).conv = r.conv := rfl
@[simp] theorem Room.putB_core (f : Field) (b : Bool) : (r.putB f b).core = r.core := rfl
@[simp] theorem Room.putB_data (f : Field) (b : Bool) : (r.putB f b).data = r.data := rfl
@[simp] theorem Room.putB_code (f : Field) (b : Bool) : (r.putB f b).code = r.code := rfl
@[simp] theorem Room.putB_safe (f : Field) (b : Bool) : (r.putB f b).safe = r.safe := rfl
@[simp] theorem Room.putB_slotHold (f : Field) (b : Bool) : (r.putB f b).slotHold = r.slotHold := rfl
@[simp] theorem Room.putB_senseHold (f : Field) (b : Bool) : (r.putB f b).senseHold = r.senseHold := rfl
@[simp] theorem Room.putB_kickAt (f : Field) (b : Bool) : (r.putB f b).kickAt = r.kickAt := rfl
@[simp] theorem Room.putB_restarts (f : Field) (b : Bool) : (r.putB f b).restarts = r.restarts := rfl
@[simp] theorem Room.putB_cal (f : Field) (b : Bool) : (r.putB f b).cal = r.cal := rfl
@[simp] theorem Room.putB_calRej (f : Field) (b : Bool) : (r.putB f b).calRej = r.calRej := rfl
@[simp] theorem Room.putB_eoutRem (f : Field) (b : Bool) : (r.putB f b).eoutRem = r.eoutRem := rfl
@[simp] theorem Room.putB_einRem (f : Field) (b : Bool) : (r.putB f b).einRem = r.einRem := rfl
@[simp] theorem Room.putB_epoch (f : Field) (b : Bool) : (r.putB f b).epoch = r.epoch := rfl
@[simp] theorem Room.putB_outs (f : Field) (b : Bool) : (r.putB f b).outs = r.outs := rfl
@[simp] theorem Room.onCc_cc (g : CcState → CcState) : (r.onCc g).cc = g r.cc := rfl
@[simp] theorem Room.onCc_pd (g : CcState → CcState) : (r.onCc g).pd = r.pd := rfl
@[simp] theorem Room.onCc_con (g : CcState → CcState) : (r.onCc g).con = r.con := rfl
@[simp] theorem Room.onCc_conv (g : CcState → CcState) : (r.onCc g).conv = r.conv := rfl
@[simp] theorem Room.onCc_core (g : CcState → CcState) : (r.onCc g).core = r.core := rfl
@[simp] theorem Room.onCc_data (g : CcState → CcState) : (r.onCc g).data = r.data := rfl
@[simp] theorem Room.onCc_code (g : CcState → CcState) : (r.onCc g).code = r.code := rfl
@[simp] theorem Room.onCc_safe (g : CcState → CcState) : (r.onCc g).safe = r.safe := rfl
@[simp] theorem Room.onCc_slotHold (g : CcState → CcState) : (r.onCc g).slotHold = r.slotHold := rfl
@[simp] theorem Room.onCc_senseHold (g : CcState → CcState) : (r.onCc g).senseHold = r.senseHold := rfl
@[simp] theorem Room.onCc_kickAt (g : CcState → CcState) : (r.onCc g).kickAt = r.kickAt := rfl
@[simp] theorem Room.onCc_restarts (g : CcState → CcState) : (r.onCc g).restarts = r.restarts := rfl
@[simp] theorem Room.onCc_cal (g : CcState → CcState) : (r.onCc g).cal = r.cal := rfl
@[simp] theorem Room.onCc_calRej (g : CcState → CcState) : (r.onCc g).calRej = r.calRej := rfl
@[simp] theorem Room.onCc_eoutRem (g : CcState → CcState) : (r.onCc g).eoutRem = r.eoutRem := rfl
@[simp] theorem Room.onCc_einRem (g : CcState → CcState) : (r.onCc g).einRem = r.einRem := rfl
@[simp] theorem Room.onCc_epoch (g : CcState → CcState) : (r.onCc g).epoch = r.epoch := rfl
@[simp] theorem Room.onCc_outs (g : CcState → CcState) : (r.onCc g).outs = r.outs := rfl
@[simp] theorem Room.onPd_cc (g : PdState → PdState) : (r.onPd g).cc = r.cc := rfl
@[simp] theorem Room.onPd_pd (g : PdState → PdState) : (r.onPd g).pd = g r.pd := rfl
@[simp] theorem Room.onPd_con (g : PdState → PdState) : (r.onPd g).con = r.con := rfl
@[simp] theorem Room.onPd_conv (g : PdState → PdState) : (r.onPd g).conv = r.conv := rfl
@[simp] theorem Room.onPd_core (g : PdState → PdState) : (r.onPd g).core = r.core := rfl
@[simp] theorem Room.onPd_data (g : PdState → PdState) : (r.onPd g).data = r.data := rfl
@[simp] theorem Room.onPd_code (g : PdState → PdState) : (r.onPd g).code = r.code := rfl
@[simp] theorem Room.onPd_safe (g : PdState → PdState) : (r.onPd g).safe = r.safe := rfl
@[simp] theorem Room.onPd_slotHold (g : PdState → PdState) : (r.onPd g).slotHold = r.slotHold := rfl
@[simp] theorem Room.onPd_senseHold (g : PdState → PdState) : (r.onPd g).senseHold = r.senseHold := rfl
@[simp] theorem Room.onPd_kickAt (g : PdState → PdState) : (r.onPd g).kickAt = r.kickAt := rfl
@[simp] theorem Room.onPd_restarts (g : PdState → PdState) : (r.onPd g).restarts = r.restarts := rfl
@[simp] theorem Room.onPd_cal (g : PdState → PdState) : (r.onPd g).cal = r.cal := rfl
@[simp] theorem Room.onPd_calRej (g : PdState → PdState) : (r.onPd g).calRej = r.calRej := rfl
@[simp] theorem Room.onPd_eoutRem (g : PdState → PdState) : (r.onPd g).eoutRem = r.eoutRem := rfl
@[simp] theorem Room.onPd_einRem (g : PdState → PdState) : (r.onPd g).einRem = r.einRem := rfl
@[simp] theorem Room.onPd_epoch (g : PdState → PdState) : (r.onPd g).epoch = r.epoch := rfl
@[simp] theorem Room.onPd_outs (g : PdState → PdState) : (r.onPd g).outs = r.outs := rfl
@[simp] theorem Room.onCon_cc (g : ConState → ConState) : (r.onCon g).cc = r.cc := rfl
@[simp] theorem Room.onCon_pd (g : ConState → ConState) : (r.onCon g).pd = r.pd := rfl
@[simp] theorem Room.onCon_con (g : ConState → ConState) : (r.onCon g).con = g r.con := rfl
@[simp] theorem Room.onCon_conv (g : ConState → ConState) : (r.onCon g).conv = r.conv := rfl
@[simp] theorem Room.onCon_core (g : ConState → ConState) : (r.onCon g).core = r.core := rfl
@[simp] theorem Room.onCon_data (g : ConState → ConState) : (r.onCon g).data = r.data := rfl
@[simp] theorem Room.onCon_code (g : ConState → ConState) : (r.onCon g).code = r.code := rfl
@[simp] theorem Room.onCon_safe (g : ConState → ConState) : (r.onCon g).safe = r.safe := rfl
@[simp] theorem Room.onCon_slotHold (g : ConState → ConState) : (r.onCon g).slotHold = r.slotHold := rfl
@[simp] theorem Room.onCon_senseHold (g : ConState → ConState) : (r.onCon g).senseHold = r.senseHold := rfl
@[simp] theorem Room.onCon_kickAt (g : ConState → ConState) : (r.onCon g).kickAt = r.kickAt := rfl
@[simp] theorem Room.onCon_restarts (g : ConState → ConState) : (r.onCon g).restarts = r.restarts := rfl
@[simp] theorem Room.onCon_cal (g : ConState → ConState) : (r.onCon g).cal = r.cal := rfl
@[simp] theorem Room.onCon_calRej (g : ConState → ConState) : (r.onCon g).calRej = r.calRej := rfl
@[simp] theorem Room.onCon_eoutRem (g : ConState → ConState) : (r.onCon g).eoutRem = r.eoutRem := rfl
@[simp] theorem Room.onCon_einRem (g : ConState → ConState) : (r.onCon g).einRem = r.einRem := rfl
@[simp] theorem Room.onCon_epoch (g : ConState → ConState) : (r.onCon g).epoch = r.epoch := rfl
@[simp] theorem Room.onCon_outs (g : ConState → ConState) : (r.onCon g).outs = r.outs := rfl
@[simp] theorem Room.onConv_cc (g : ConvState → ConvState) : (r.onConv g).cc = r.cc := rfl
@[simp] theorem Room.onConv_pd (g : ConvState → ConvState) : (r.onConv g).pd = r.pd := rfl
@[simp] theorem Room.onConv_con (g : ConvState → ConvState) : (r.onConv g).con = r.con := rfl
@[simp] theorem Room.onConv_conv (g : ConvState → ConvState) : (r.onConv g).conv = g r.conv := rfl
@[simp] theorem Room.onConv_core (g : ConvState → ConvState) : (r.onConv g).core = r.core := rfl
@[simp] theorem Room.onConv_data (g : ConvState → ConvState) : (r.onConv g).data = r.data := rfl
@[simp] theorem Room.onConv_code (g : ConvState → ConvState) : (r.onConv g).code = r.code := rfl
@[simp] theorem Room.onConv_safe (g : ConvState → ConvState) : (r.onConv g).safe = r.safe := rfl
@[simp] theorem Room.onConv_slotHold (g : ConvState → ConvState) : (r.onConv g).slotHold = r.slotHold := rfl
@[simp] theorem Room.onConv_senseHold (g : ConvState → ConvState) : (r.onConv g).senseHold = r.senseHold := rfl
@[simp] theorem Room.onConv_kickAt (g : ConvState → ConvState) : (r.onConv g).kickAt = r.kickAt := rfl
@[simp] theorem Room.onConv_restarts (g : ConvState → ConvState) : (r.onConv g).restarts = r.restarts := rfl
@[simp] theorem Room.onConv_cal (g : ConvState → ConvState) : (r.onConv g).cal = r.cal := rfl
@[simp] theorem Room.onConv_calRej (g : ConvState → ConvState) : (r.onConv g).calRej = r.calRej := rfl
@[simp] theorem Room.onConv_eoutRem (g : ConvState → ConvState) : (r.onConv g).eoutRem = r.eoutRem := rfl
@[simp] theorem Room.onConv_einRem (g : ConvState → ConvState) : (r.onConv g).einRem = r.einRem := rfl
@[simp] theorem Room.onConv_epoch (g : ConvState → ConvState) : (r.onConv g).epoch = r.epoch := rfl
@[simp] theorem Room.onConv_outs (g : ConvState → ConvState) : (r.onConv g).outs = r.outs := rfl
@[simp] theorem Room.onCore_cc (g : Core → Core) : (r.onCore g).cc = r.cc := rfl
@[simp] theorem Room.onCore_pd (g : Core → Core) : (r.onCore g).pd = r.pd := rfl
@[simp] theorem Room.onCore_con (g : Core → Core) : (r.onCore g).con = r.con := rfl
@[simp] theorem Room.onCore_conv (g : Core → Core) : (r.onCore g).conv = r.conv := rfl
@[simp] theorem Room.onCore_core (g : Core → Core) : (r.onCore g).core = g r.core := rfl
@[simp] theorem Room.onCore_data (g : Core → Core) : (r.onCore g).data = r.data := rfl
@[simp] theorem Room.onCore_code (g : Core → Core) : (r.onCore g).code = r.code := rfl
@[simp] theorem Room.onCore_safe (g : Core → Core) : (r.onCore g).safe = r.safe := rfl
@[simp] theorem Room.onCore_slotHold (g : Core → Core) : (r.onCore g).slotHold = r.slotHold := rfl
@[simp] theorem Room.onCore_senseHold (g : Core → Core) : (r.onCore g).senseHold = r.senseHold := rfl
@[simp] theorem Room.onCore_kickAt (g : Core → Core) : (r.onCore g).kickAt = r.kickAt := rfl
@[simp] theorem Room.onCore_restarts (g : Core → Core) : (r.onCore g).restarts = r.restarts := rfl
@[simp] theorem Room.onCore_cal (g : Core → Core) : (r.onCore g).cal = r.cal := rfl
@[simp] theorem Room.onCore_calRej (g : Core → Core) : (r.onCore g).calRej = r.calRej := rfl
@[simp] theorem Room.onCore_eoutRem (g : Core → Core) : (r.onCore g).eoutRem = r.eoutRem := rfl
@[simp] theorem Room.onCore_einRem (g : Core → Core) : (r.onCore g).einRem = r.einRem := rfl
@[simp] theorem Room.onCore_epoch (g : Core → Core) : (r.onCore g).epoch = r.epoch := rfl
@[simp] theorem Room.onCore_outs (g : Core → Core) : (r.onCore g).outs = r.outs := rfl

end

/-! ## Fields after writes -/

theorem toNat_bne_zero (b : Bool) : (b.toNat != 0) = b := by cases b <;> rfl

theorem Room.bit_eq (r : Room) (f : Field) : r.bit f = (r.fld f != 0) := rfl
theorem State.bit_eq (s : State) (f : Field) : s.bit f = (s.fld f != 0) := rfl
theorem Landing.bit_eq (l : Landing) (f : Field) : l.bit f = (l.fld f != 0) := rfl

theorem Room.fld_putB (r : Room) {f : Field} (b : Bool) (h : f.fits = true) (hw : f.width ≠ 0) :
    (r.putB f b).fld f = b.toNat := Regs.fld_put_bool _ _ _ h hw
theorem Room.fld_on (r : Room) {f : Field} (h : f.fits = true) (hw : f.width ≠ 0) : (r.on f).fld f = 1 :=
  Regs.fld_put_bool _ _ true h hw
theorem Room.fld_off (r : Room) {f : Field} (h : f.fits = true) : (r.off f).fld f = 0 :=
  (r.fld_put f 0 h).trans (Nat.zero_mod _)

theorem State.fld_putB (s : State) {f : Field} (b : Bool) (h : f.fits = true) (hw : f.width ≠ 0) :
    (s.putB f b).fld f = b.toNat := Regs.fld_put_bool _ _ _ h hw
theorem State.fld_on (s : State) {f : Field} (h : f.fits = true) (hw : f.width ≠ 0) : (s.on f).fld f = 1 :=
  Regs.fld_put_bool _ _ true h hw
theorem State.fld_off (s : State) {f : Field} (h : f.fits = true) : (s.off f).fld f = 0 :=
  (s.fld_put f 0 h).trans (Nat.zero_mod _)

theorem Landing.fld_putB (l : Landing) {f : Field} (b : Bool) (h : f.fits = true) (hw : f.width ≠ 0) :
    (l.putB f b).fld f = b.toNat := Regs.fld_put_bool _ _ _ h hw
theorem Landing.fld_on (l : Landing) {f : Field} (h : f.fits = true) (hw : f.width ≠ 0) : (l.on f).fld f = 1 :=
  Regs.fld_put_bool _ _ true h hw
theorem Landing.fld_off (l : Landing) {f : Field} (h : f.fits = true) : (l.off f).fld f = 0 :=
  (l.fld_put f 0 h).trans (Nat.zero_mod _)
theorem Landing.fld_on_apart (l : Landing) (f g : Field) (h : f.apart g = true) : (l.on f).fld g = l.fld g :=
  Regs.fld_put_apart _ _ _ _ h
theorem Landing.fld_off_apart (l : Landing) (f g : Field) (h : f.apart g = true) : (l.off f).fld g = l.fld g :=
  Regs.fld_put_apart _ _ _ _ h
theorem Landing.fld_putB_apart (l : Landing) (f g : Field) (b : Bool) (h : f.apart g = true) :
    (l.putB f b).fld g = l.fld g :=
  Regs.fld_put_apart _ _ _ _ h

theorem Wing.fld_on (w : Wing) {f : Field} (h : f.fits = true) (hw : f.width ≠ 0) : (w.on f).fld f = 1 :=
  Regs.fld_put_bool _ _ true h hw

/-- A read field lies below its width's power of two. -/
theorem Regs.fld_lt (m : Regs) (f : Field) : m.fld f < 2 ^ f.width := BitVec.isLt _

end Sys2Proof.Machine

namespace Sys2Proof.Machine

set_option Elab.async false

/-! ## Instructions of a core: results, jumps and traps (R392, R393, R400) -/

@[simp] theorem Core.stepping_setRg (i : Fin 16) (v : Word) (k : Core) : (Core.setRg i v k).stepping = k.stepping := by
  unfold Core.setRg
  split <;> rfl

@[simp] theorem Core.rg_moved (s : State) (c : CoreId) (i : Fin 16) : ((s.moved c).core c).rg i = s.rg c i := by
  simp [State.rg, Core.rg]

@[simp] theorem State.rg_moved (s : State) (c : CoreId) (i : Fin 16) : (s.moved c).rg c i = s.rg c i :=
  Core.rg_moved s c i

@[simp] theorem State.core_setRg (s : State) (c : CoreId) (i : Fin 16) (v : Word) :
    (s.setRg c i v).core c = Core.setRg i v (s.core c) :=
  s.core_onCoreOf c _

@[simp] theorem State.core_setPc (s : State) (c : CoreId) (v : Word) : (s.setPc c v).core c = { s.core c with pc := v } :=
  s.core_onCoreOf c _

theorem State.not_stepping_moved {s : State} {c : CoreId} (hr : s.seqReady c = true) :
    ((s.moved c).core c).stepping = false := by
  obtain ⟨-, -, -, -, hstep⟩ := (s.seqReady_iff c).1 hr
  simpa using hstep

/-- An arithmetic or compare instruction whose unused fields are 0 writes its result into rd. -/
theorem aluAct_writes {s : State} {c : CoreId} (hr : s.seqReady c = true) (cls : RepClass) (rd : Fin 16) (v : Core → Word)
    {x : Word} (hx : v ((s.moved c).core c) = x) :
    ∃ t, aluAct s c cls false rd v = .next t ∧ t.butLinks = ((s.moved c).setRg c rd x).butLinks := by
  refine seqAct_of_seqReady hr cls (by rw [hx]) ?_
  simpa using State.not_stepping_moved hr

theorem rAct_writes {s : State} {c : CoreId} (hr : s.seqReady c = true) (cls : RepClass) (rd ra rb : Fin 16)
    (f : Word → Word → Word) {x : Word} (hx : f (s.rg c ra) (s.rg c rb) = x) :
    ∃ t, rAct s c cls rd ra rb 0 f = .next t ∧ t.butLinks = ((s.moved c).setRg c rd x).butLinks :=
  aluAct_writes hr cls rd _ (by simpa only [Core.rg_moved] using hx)

theorem iAct_writes {s : State} {c : CoreId} (hr : s.seqReady c = true) (rd ra : Fin 16) (imm : Word)
    (f : Word → Word → Word) {x : Word} (hx : f (s.rg c ra) imm = x) :
    ∃ t, iAct s c rd ra imm f = .next t ∧ t.butLinks = ((s.moved c).setRg c rd x).butLinks :=
  aluAct_writes hr .one rd _ (by simpa only [Core.rg_moved] using hx)

theorem shiftAct_writes {s : State} {c : CoreId} (hr : s.seqReady c = true) (rd ra : Fin 16) (imm : BitVec 18)
    (himm : imm.toNat < 32) (f : Word → Nat → Word) :
    ∃ t, shiftAct s c rd ra imm f = .next t ∧
      t.butLinks = ((s.moved c).setRg c rd (f (s.rg c ra) imm.toNat)).butLinks := by
  rw [shiftAct, decide_eq_false (by omega)]
  exact aluAct_writes hr .one rd _ (by simp only [Core.rg_moved])

/-- A core outside a handler that traps enters the handler of line 0 with the code of the trap (R400). -/
theorem State.core_trap (s : State) {c : CoreId} (hevt : (s.core c).inEvt = false) (code : Nat) :
    (s.trap c code).core c = { Core.enter c 0 (s.core c) with trap := code, evTrap := code } := by
  simp [State.trap, hevt]

/-- An instruction that traps on a core that is about to execute leaves the core's registers as they were. -/
theorem seqAct_traps {s : State} {c : CoreId} (hr : s.seqReady c = true) (hevt : (s.core c).inEvt = false) (ill : Bool)
    (cls : RepClass) {f : Word → State → SeqOut} {code : Nat}
    (h : (ill = true ∧ code = trIllegal) ∨ (ill = false ∧ ∃ u, f (s.core c).pc (s.moved c) = .error (code, u))) :
    ∃ t, seqAct s c ill cls f = .next t ∧
      t.core c = { Core.enter c 0 (s.core c) with trap := code, evTrap := code } := by
  obtain ⟨hruns, hrep, hfetch, hbkpt, hstep⟩ := (s.seqReady_iff c).1 hr
  obtain ⟨u, hu, hinstr⟩ : ∃ u : State, u.core c = s.core c ∧ s.instr c ill cls f = (u.trap c code).stepEnd c := by
    rcases h with ⟨rfl, rfl⟩ | ⟨rfl, u, hf⟩
    · exact ⟨s, rfl, by simp [State.instr, hfetch, hbkpt]⟩
    · refine ⟨u.onCoreOf c fun _ => s.core c, u.core_onCoreOf c _, ?_⟩
      simp [State.instr, hfetch, hbkpt, repOk_of_rep_eq_zero c _ cls hrep, s.onCoreOf_advance c hrep, hf]
  have hcore := u.core_trap (hu ▸ hevt) code
  have hend : ((u.trap c code).core c).stepping = false := by
    rw [hcore, hu]
    exact hstep
  obtain ⟨t, hexec, ht⟩ := act_butLinks (fun s => s.instr c ill cls f) hruns
  refine ⟨t, hexec, (State.core_of_butLinks ht c).trans ?_⟩
  rw [hinstr, State.stepEnd_of_not_stepping _ _ hend, hcore, hu]

/-! ### The words that the table of R393 gives -/

/-- The high word of a signed product. -/
theorem extract_signed_product (a b : Word) : (a.signExtend 64 * b.signExtend 64).extractLsb' 32 32 =
    BitVec.ofInt 32 (a.toInt * b.toInt / 2 ^ 32) := by
  have ha := BitVec.toInt_lt (x := a)
  have ha' := BitVec.le_toInt (x := a)
  have hb := BitVec.toInt_lt (x := b)
  have hb' := BitVec.le_toInt (x := b)
  have hmul : a.signExtend 64 * b.signExtend 64 = BitVec.ofInt 64 (a.toInt * b.toInt) := by
    rw [BitVec.signExtend, BitVec.signExtend, ← BitVec.ofInt_mul]
  apply BitVec.eq_of_toNat_eq
  rw [hmul, BitVec.extractLsb'_toNat, BitVec.toNat_ofInt, BitVec.toNat_ofInt, Nat.shiftRight_eq_div_pow]
  omega

/-- The high word of an unsigned product. -/
theorem extract_unsigned_product (a b : Word) : (a.zeroExtend 64 * b.zeroExtend 64).extractLsb' 32 32 =
    BitVec.ofNat 32 (a.toNat * b.toNat / 2 ^ 32) := by
  have hlt : a.toNat * b.toNat < 2 ^ 64 :=
    calc a.toNat * b.toNat < 2 ^ 32 * 2 ^ 32 := Nat.mul_lt_mul'' a.isLt b.isLt
      _ = 2 ^ 64 := by decide
  have ha : a.toNat % 2 ^ 64 = a.toNat := Nat.mod_eq_of_lt (a.isLt.trans (by decide))
  have hb : b.toNat % 2 ^ 64 = b.toNat := Nat.mod_eq_of_lt (b.isLt.trans (by decide))
  apply BitVec.eq_of_toNat_eq
  rw [BitVec.extractLsb'_toNat, BitVec.toNat_mul, BitVec.toNat_setWidth, BitVec.toNat_setWidth, ha, hb, Nat.mod_eq_of_lt hlt, BitVec.toNat_ofNat, Nat.shiftRight_eq_div_pow]

theorem ite_ult_min (a b : Word) : (if a.ult b then a else b) = BitVec.ofNat 32 (min a.toNat b.toNat) := by
  apply BitVec.eq_of_toNat_eq
  have ha := a.isLt
  have hb := b.isLt
  simp only [BitVec.ult, BitVec.toNat_ofNat]
  split <;> simp_all <;> omega

theorem ite_ult_max (a b : Word) : (if a.ult b then b else a) = BitVec.ofNat 32 (max a.toNat b.toNat) := by
  apply BitVec.eq_of_toNat_eq
  have ha := a.isLt
  have hb := b.isLt
  simp only [BitVec.ult, BitVec.toNat_ofNat]
  split <;> simp_all <;> omega

theorem flag_eq (b : Bool) (q : Prop) [Decidable q] (h : b = true ↔ q) : flag b = if q then 1 else 0 := by
  simp [flag, h]

theorem setWidth_shift_ten (hi : BitVec 22) : hi.zeroExtend 32 <<< 10 = BitVec.ofNat 32 (1024 * hi.toNat) := by
  apply BitVec.eq_of_toNat_eq
  have := hi.isLt
  simp [BitVec.toNat_shiftLeft, Nat.shiftLeft_eq]
  omega

/-- Settles O38: each result is the table's; a field that is not used and not 0 traps. -/
theorem arithmeticInstructions : Obligations.ArithmeticInstructions := by
  unfold Obligations.ArithmeticInstructions
  intro s c rd ra rb hr
  simp only [exec_add, execAdd, exec_sub, execSub, exec_and, execAnd, exec_or, execOr, exec_xor, execXor, exec_sll, execSll, exec_srl, execSrl, exec_sra, execSra, exec_mul, execMul, exec_mulh, execMulh, exec_mulhu, execMulhu, exec_divu, execDivu, exec_remu, execRemu, exec_minu, execMinu, exec_maxu, execMaxu]
  refine ⟨rAct_writes hr .one rd ra rb _ rfl, rAct_writes hr .one rd ra rb _ rfl, rAct_writes hr .one rd ra rb _ rfl,
    rAct_writes hr .one rd ra rb _ rfl, rAct_writes hr .one rd ra rb _ rfl, rAct_writes hr .one rd ra rb _ rfl,
    rAct_writes hr .one rd ra rb _ rfl, rAct_writes hr .one rd ra rb _ rfl, rAct_writes hr .arith rd ra rb _ rfl,
    rAct_writes hr .arith rd ra rb _ (extract_signed_product _ _),
    rAct_writes hr .arith rd ra rb _ (extract_unsigned_product _ _), rAct_writes hr .arith rd ra rb _ rfl,
    rAct_writes hr .arith rd ra rb _ rfl, rAct_writes hr .one rd ra rb _ (ite_ult_min _ _),
    rAct_writes hr .one rd ra rb _ (ite_ult_max _ _), fun z hz hevt => ?_⟩
  exact seqAct_traps hr hevt _ .one (.inl ⟨by simpa using hz, rfl⟩)

/-- Settles O39. -/
theorem compareInstructions : Obligations.CompareInstructions := by
  unfold Obligations.CompareInstructions
  intro s c rd ra rb imm hr
  have hslt : ∀ a b : Word, a.slt b = true ↔ a.toInt < b.toInt := fun a b => by simp [BitVec.slt]
  have hult : ∀ a b : Word, a.ult b = true ↔ a.toNat < b.toNat := fun a b => by simp [BitVec.ult]
  have hsge : ∀ a b : Word, (!a.slt b) = true ↔ b.toInt ≤ a.toInt := fun a b => by simp [BitVec.slt]
  have huge : ∀ a b : Word, (!a.ult b) = true ↔ b.toNat ≤ a.toNat := fun a b => by simp [BitVec.ult]
  simp only [exec_ceq, execCeq, exec_cne, execCne, exec_clt, execClt, exec_cltu, execCltu, exec_cge, execCge, exec_cgeu, execCgeu, exec_ceqi, execCeqi, exec_cnei, execCnei, exec_clti, execClti, exec_cltui, execCltui, exec_cgei, execCgei, exec_cgeui, execCgeui]
  exact ⟨rAct_writes hr .one rd ra rb _ (flag_eq _ _ beq_iff_eq), rAct_writes hr .one rd ra rb _ (flag_eq _ _ bne_iff_ne),
    rAct_writes hr .one rd ra rb _ (flag_eq _ _ (hslt _ _)), rAct_writes hr .one rd ra rb _ (flag_eq _ _ (hult _ _)),
    rAct_writes hr .one rd ra rb _ (flag_eq _ _ (hsge _ _)), rAct_writes hr .one rd ra rb _ (flag_eq _ _ (huge _ _)),
    iAct_writes hr rd ra _ _ (flag_eq _ _ beq_iff_eq), iAct_writes hr rd ra _ _ (flag_eq _ _ bne_iff_ne),
    iAct_writes hr rd ra _ _ (flag_eq _ _ (hslt _ _)), iAct_writes hr rd ra _ _ (flag_eq _ _ (hult _ _)),
    iAct_writes hr rd ra _ _ (flag_eq _ _ (hsge _ _)), iAct_writes hr rd ra _ _ (flag_eq _ _ (huge _ _))⟩

/-- Settles O40. -/
theorem immediateInstructions : Obligations.ImmediateInstructions := by
  unfold Obligations.ImmediateInstructions
  intro s c rd ra imm hr
  simp only [exec_addi, execAddi, exec_andi, execAndi, exec_ori, execOri, exec_xori, execXori, exec_slli, execSlli, exec_srli, execSrli, exec_srai, execSrai, exec_lui, execLui]
  exact ⟨iAct_writes hr rd ra _ _ rfl, iAct_writes hr rd ra _ _ rfl, iAct_writes hr rd ra _ _ rfl,
    iAct_writes hr rd ra _ _ rfl, fun himm => shiftAct_writes hr rd ra imm himm _,
    fun himm => shiftAct_writes hr rd ra imm himm _, fun himm => shiftAct_writes hr rd ra imm himm _,
    fun hi => aluAct_writes hr .one rd _ (setWidth_shift_ten hi)⟩

/-! ### Branches and jumps -/

theorem branchAct_taken {s : State} {c : CoreId} (hr : s.seqReady c = true) (ra : Fin 16) (off : BitVec 22)
    {taken : Word → Bool} (h : taken (s.rg c ra) = true) : ∃ t, branchAct s c ra off taken = .next t ∧
      t.butLinks = ((s.moved c).setPc c ((s.core c).pc + off22 off)).butLinks := by
  refine seqAct_of_seqReady hr .none (by simp [h]) ?_
  simpa using State.not_stepping_moved hr

theorem branchAct_passed {s : State} {c : CoreId} (hr : s.seqReady c = true) (ra : Fin 16) (off : BitVec 22)
    {taken : Word → Bool} (h : taken (s.rg c ra) = false) : ∃ t, branchAct s c ra off taken = .next t ∧
      t.butLinks = (s.moved c).butLinks :=
  seqAct_of_seqReady hr .none (by simp [h]) (State.not_stepping_moved hr)

theorem exec_jal_links {s : State} {c : CoreId} (hr : s.seqReady c = true) (rd : Fin 16) (off : BitVec 22) :
    ∃ t, exec (.jal c rd off) s = .next t ∧
      t.butLinks = (((s.moved c).setRg c rd ((s.core c).pc + 4)).setPc c ((s.core c).pc + off22 off)).butLinks := by
  refine seqAct_of_seqReady hr .none rfl ?_
  simpa using State.not_stepping_moved hr

theorem exec_jalr_links {s : State} {c : CoreId} (hr : s.seqReady c = true) (rd ra : Fin 16) (imm : BitVec 18)
    (h : (s.rg c ra + sx18 imm).toNat % 4 = 0) : ∃ t, exec (.jalr c rd ra imm) s = .next t ∧
      t.butLinks = (((s.moved c).setRg c rd ((s.core c).pc + 4)).setPc c (s.rg c ra + sx18 imm)).butLinks := by
  rw [exec_jalr, execJalr]
  refine seqAct_of_seqReady hr .none (t := ((s.moved c).setRg c rd ((s.core c).pc + 4)).setPc c (s.rg c ra + sx18 imm)) ?_ ?_
  · simp only [State.rg_moved, h]
    rfl
  · simpa using State.not_stepping_moved hr

theorem exec_jalr_traps {s : State} {c : CoreId} (hr : s.seqReady c = true) (rd ra : Fin 16) (imm : BitVec 18)
    (h : (s.rg c ra + sx18 imm).toNat % 4 ≠ 0) (hevt : (s.core c).inEvt = false) :
    ∃ t, exec (.jalr c rd ra imm) s = .next t ∧
      t.core c = { Core.enter c 0 (s.core c) with trap := trMisalign, evTrap := trMisalign } := by
  rw [exec_jalr, execJalr]
  refine seqAct_traps hr hevt false .none (.inr ⟨rfl, s.moved c, ?_⟩)
  simp only [State.rg_moved, bne_iff_ne.2 h, if_true]

/-- Settles O41. -/
theorem jumpInstructions : Obligations.JumpInstructions := by
  unfold Obligations.JumpInstructions
  intro s c rd ra off imm hr
  simp only [exec_bz, execBz, exec_bnz, execBnz]
  exact ⟨fun h => branchAct_taken hr ra off (beq_iff_eq.2 h), fun h => branchAct_passed hr ra off (beq_eq_false_iff_ne.2 h),
    fun h => branchAct_taken hr ra off (bne_iff_ne.2 h), fun h => branchAct_passed hr ra off (by simp [h]),
    exec_jal_links hr rd off, exec_jalr_links hr rd ra imm, exec_jalr_traps hr rd ra imm⟩

end Sys2Proof.Machine

namespace Sys2Proof.Machine

set_option Elab.async false

/-! ## Loads and stores of a Room core in its data RAM (R393, R400) -/

@[simp] theorem State.room_onCoreOf (s : State) (p : Fin 48) (f : Core → Core) :
    (s.onCoreOf (.room p) f).room p = (s.room p).onCore f :=
  s.room_onRoom p _

@[simp] theorem State.room_moved (s : State) (p : Fin 48) :
    (s.moved (.room p)).room p = (s.room p).onCore fun k => { k with pc := k.pc + 4, pass := false } :=
  s.room_onCoreOf p _

theorem State.coreLoad_data (s : State) (p : Fin 48) {a size : Nat} (ha : a < 0x1000) (hsize : (0x10000 + a) % size = 0) :
    s.coreLoad (.room p) (0x10000 + a) size = .ok (memWord (s.room p).data a size, s) := by
  simp only [State.coreLoad, hsize, bne_self_eq_false, Bool.false_eq_true, if_false]
  rw [if_neg (by omega), if_pos (by simp; omega), Nat.add_sub_cancel_left]

theorem State.coreSave_data (s : State) (p : Fin 48) {a size : Nat} (v : Word) (ha : a < 0x1000)
    (hsize : (0x10000 + a) % size = 0) : s.coreSave (.room p) (0x10000 + a) size v =
      .ok (s.onRoom p fun r => { r with data := putBytes r.data a (lowBytes size v) }) := by
  simp only [State.coreSave, hsize, bne_self_eq_false, Bool.false_and, Bool.false_eq_true, if_false]
  rw [if_neg (by omega), if_pos (by simp; omega), Nat.add_sub_cancel_left]

theorem loadAct_data {s : State} {p : Fin 48} (hr : s.seqReady (.room p) = true) (rd ra : Fin 16) (imm : BitVec 18) {a : Nat}
    (ha : a < 0x1000) (hadr : (s.rg (.room p) ra + sx18 imm).toNat = 0x10000 + a) {size : Nat}
    (hsize : (0x10000 + a) % size = 0) (x : Word → Word) : ∃ t, loadAct s (.room p) rd ra imm size x = .next t ∧
      t.butLinks = ((s.moved (.room p)).setRg (.room p) rd (x (memWord (s.room p).data a size))).butLinks := by
  refine seqAct_of_seqReady hr .mem ?_ (t := (s.moved (.room p)).setRg (.room p) rd (x (memWord (s.room p).data a size))) ?_
  · rw [State.rg_moved, hadr, State.coreLoad_data _ _ ha hsize, State.room_moved]
    rfl
  · simpa only [State.core_setRg, Core.stepping_setRg] using State.not_stepping_moved hr

theorem storeAct_data {s : State} {p : Fin 48} (hr : s.seqReady (.room p) = true) (rs ra : Fin 16) (imm : BitVec 18) {a : Nat}
    (ha : a < 0x1000) (hadr : (s.rg (.room p) ra + sx18 imm).toNat = 0x10000 + a) {size : Nat}
    (hsize : (0x10000 + a) % size = 0) : ∃ t, storeAct s (.room p) rs ra imm size = .next t ∧ t.butLinks =
      ((s.moved (.room p)).onRoom p fun r => { r with data := putBytes r.data a (lowBytes size (s.rg (.room p) rs)) }).butLinks := by
  refine seqAct_of_seqReady hr .mem ?_ ?_
  · rw [State.rg_moved, State.rg_moved, hadr, State.coreSave_data _ _ _ ha hsize]
  · simpa only [State.core, State.room_onRoom] using State.not_stepping_moved hr

theorem memWord_one (m : Mem) (a : Nat) : memWord m a 1 = (m.get a).zeroExtend 32 := by
  apply BitVec.eq_of_toNat_eq
  simp [memWord]

theorem sxBytes_memWord_one (m : Mem) (a : Nat) : sxBytes 1 (memWord m a 1) = (m.get a).signExtend 32 := by
  simp [sxBytes, memWord_one]

theorem loadAct_misaligned {s : State} {c : CoreId} (hr : s.seqReady c = true) (hevt : (s.core c).inEvt = false)
    (rd ra : Fin 16) (imm : BitVec 18) {size : Nat} (hsize : (s.rg c ra + sx18 imm).toNat % size ≠ 0) (x : Word → Word) :
    ∃ t, loadAct s c rd ra imm size x = .next t ∧
      t.core c = { Core.enter c 0 (s.core c) with trap := trMisalign, evTrap := trMisalign } := by
  refine seqAct_traps hr hevt false .mem (.inr ⟨rfl, s.moved c, ?_⟩)
  simp only [State.rg_moved, State.coreLoad, bne_iff_ne.2 hsize, if_true]

/-- Settles O42: the data RAM lies at 0x10000, a multiple of every access size. -/
theorem roomLoadsAndStores : Obligations.RoomLoadsAndStores := by
  unfold Obligations.RoomLoadsAndStores
  intro s p rd ra imm a hr hadr ha
  have hone : (0x10000 + a) % 1 = 0 := Nat.mod_one _
  have htwo : a % 2 = 0 → (0x10000 + a) % 2 = 0 := by omega
  have hfour : a % 4 = 0 → (0x10000 + a) % 4 = 0 := by omega
  simp only [exec_lb, execLb, exec_lbu, execLbu, exec_lh, execLh, exec_lhu, execLhu, exec_lw, execLw, exec_sb, execSb,
    exec_sh, execSh, exec_sw, execSw, ← sxBytes_memWord_one, ← memWord_one]
  exact ⟨loadAct_data hr rd ra imm ha hadr hone _, loadAct_data hr rd ra imm ha hadr hone _,
    fun h => loadAct_data hr rd ra imm ha hadr (htwo h) _, fun h => loadAct_data hr rd ra imm ha hadr (htwo h) _,
    fun h => loadAct_data hr rd ra imm ha hadr (hfour h) _, storeAct_data hr rd ra imm ha hadr hone,
    fun h => storeAct_data hr rd ra imm ha hadr (htwo h), fun h => storeAct_data hr rd ra imm ha hadr (hfour h),
    fun h hevt => loadAct_misaligned hr hevt rd ra imm (by omega) _⟩

/-! ## The stepping loads and stores (R393) -/

@[simp] theorem State.data_setRg (s : State) (p : Fin 48) (i : Fin 16) (v : Word) :
    ((s.setRg (.room p) i v).room p).data = (s.room p).data := by
  simp [State.setRg]

theorem Core.rg_setRg_ne (k : Core) {i j : Fin 16} (v : Word) (h : i ≠ j) : (Core.setRg i v k).rg j = k.rg j := by
  unfold Core.setRg
  split
  · rfl
  · simp only [Core.rg, setAt, List.getD_eq_getElem?_getD, List.getElem?_set_ne (Fin.val_ne_of_ne h)]

theorem State.rg_setRg_ne (s : State) (c : CoreId) {i j : Fin 16} (v : Word) (h : i ≠ j) :
    (s.setRg c i v).rg c j = s.rg c j := by
  rw [State.rg, State.core_setRg, Core.rg_setRg_ne _ v h]
  rfl

theorem State.core_storeData (s : State) (p : Fin 48) (m : Mem → Mem) :
    (s.onRoom p fun r => { r with data := m r.data }).core (.room p) = s.core (.room p) := by
  simp [State.core]

theorem State.rg_storeData (s : State) (p : Fin 48) (m : Mem → Mem) (i : Fin 16) :
    (s.onRoom p fun r => { r with data := m r.data }).rg (.room p) i = s.rg (.room p) i :=
  congrArg (·.rg i) (s.core_storeData p m)

theorem exec_lwp_data {s : State} {p : Fin 48} (hr : s.seqReady (.room p) = true) (rd ra : Fin 16) {a : Nat}
    (hadr : (s.rg (.room p) ra).toNat = 0x10000 + a) (ha : a < 0x1000) (hal : a % 4 = 0) :
    ∃ t, exec (.lwp (.room p) rd ra 0) s = .next t ∧ t.butLinks =
      (((s.moved (.room p)).setRg (.room p) ra (s.rg (.room p) ra + 4)).setRg (.room p) rd
        (memWord (s.room p).data a 4)).butLinks := by
  rw [exec_lwp, execLwp]
  refine seqAct_of_seqReady hr _ (t := ((s.moved (.room p)).setRg (.room p) ra (s.rg (.room p) ra + 4)).setRg (.room p) rd
    (memWord (s.room p).data a 4)) ?_ ?_
  · simp only [State.rg_moved, hadr, State.coreLoad_data _ _ ha (show (0x10000 + a) % 4 = 0 by omega), State.room_moved]
    rfl
  · simpa only [State.core_setRg, Core.stepping_setRg] using State.not_stepping_moved hr

theorem exec_swp_data {s : State} {p : Fin 48} (hr : s.seqReady (.room p) = true) (rs ra : Fin 16) {a : Nat}
    (hadr : (s.rg (.room p) ra).toNat = 0x10000 + a) (ha : a < 0x1000) (hal : a % 4 = 0) :
    ∃ t, exec (.swp (.room p) rs ra 0) s = .next t ∧ t.butLinks =
      (((s.moved (.room p)).onRoom p fun r =>
        { r with data := putBytes r.data a (lowBytes 4 (s.rg (.room p) rs)) }).setRg (.room p) ra
        (s.rg (.room p) ra + 4)).butLinks := by
  rw [exec_swp, execSwp]
  refine seqAct_of_seqReady hr _ (t := (((s.moved (.room p)).onRoom p fun r =>
        { r with data := putBytes r.data a (lowBytes 4 (s.rg (.room p) rs)) }).setRg (.room p) ra
        (s.rg (.room p) ra + 4))) ?_ ?_
  · simp only [State.rg_moved, hadr, State.coreSave_data _ _ _ ha (show (0x10000 + a) % 4 = 0 by omega)]
  · simpa only [State.core_setRg, Core.stepping_setRg, State.core_storeData _ _ fun m => putBytes m a (lowBytes 4 (s.rg (.room p) rs))]
      using State.not_stepping_moved hr

theorem exec_cpw_data {s : State} {p : Fin 48} (hr : s.seqReady (.room p) = true) {ra rb : Fin 16} {a b : Nat}
    (hadr : (s.rg (.room p) ra).toNat = 0x10000 + a) (ha : a < 0x1000) (hal : a % 4 = 0)
    (hbdr : (s.rg (.room p) rb).toNat = 0x10000 + b) (hb : b < 0x1000) (hbl : b % 4 = 0) (hne : ra ≠ rb) :
    ∃ t, exec (.cpw (.room p) 0 ra rb 0) s = .next t ∧ t.butLinks =
      ((((s.moved (.room p)).onRoom p fun r =>
        { r with data := putBytes r.data b (lowBytes 4 (memWord r.data a 4)) }).setRg (.room p) ra
        (s.rg (.room p) ra + 4)).setRg (.room p) rb (s.rg (.room p) rb + 4)).butLinks := by
  rw [exec_cpw, execCpw]
  refine seqAct_of_seqReady hr _ (t := ((((s.moved (.room p)).onRoom p fun r =>
        { r with data := putBytes r.data b (lowBytes 4 (memWord r.data a 4)) }).setRg (.room p) ra
        (s.rg (.room p) ra + 4)).setRg (.room p) rb (s.rg (.room p) rb + 4))) ?_ ?_
  · simp only [State.rg_moved, hadr, hbdr, State.coreLoad_data _ _ ha (show (0x10000 + a) % 4 = 0 by omega),
      State.coreSave_data _ _ _ hb (show (0x10000 + b) % 4 = 0 by omega), State.rg_setRg_ne _ _ _ hne]
    rw [State.rg_storeData _ _ fun m => putBytes m b _, State.rg_storeData _ _ fun m => putBytes m b _, State.rg_moved,
      State.rg_moved]
    simp only [State.onRoom]
  · simpa only [State.core_setRg, Core.stepping_setRg, State.core_storeData _ _ fun m => putBytes m b (lowBytes 4 (memWord m a 4))]
      using State.not_stepping_moved hr

/-- Settles O43. -/
theorem steppingLoadsAndStores : Obligations.SteppingLoadsAndStores := by
  unfold Obligations.SteppingLoadsAndStores
  intro s p rd ra rb a b hr hadr ha hal
  exact ⟨exec_lwp_data hr rd ra hadr ha hal, exec_swp_data hr rd ra hadr ha hal,
    fun hbdr hb hbl hne => exec_cpw_data hr hadr ha hal hbdr hb hbl hne⟩

end Sys2Proof.Machine

namespace Sys2Proof.Machine

set_option Elab.async false

/-! ## Repetitions, events, special registers, staging, heartbeat and BRK -/

/-- An instruction that updates its core alone, and leaves it unstepped. -/
theorem seqAct_onCore {s : State} {c : CoreId} (hr : s.seqReady c = true) (cls : RepClass) {f : Word → State → SeqOut}
    {g h : Core → Core} (hf : f (s.core c).pc (s.moved c) = .ok ((s.moved c).onCoreOf c g))
    (hgh : g ((s.moved c).core c) = h ((s.moved c).core c)) (hstep : ∀ k : Core, (h k).stepping = k.stepping) :
    ∃ t, seqAct s c false cls f = .next t ∧ t.butLinks = ((s.moved c).onCoreOf c h).butLinks := by
  rw [State.onCoreOf_congr _ c hgh] at hf
  refine seqAct_of_seqReady hr cls hf ?_
  rw [State.core_onCoreOf, hstep]
  exact State.not_stepping_moved hr

theorem Core.repeat'_pos {n : Nat} (h : 0 < n) (k : Core) : Core.repeat' n k = { k with lc := n, rep := 1 } :=
  if_neg (by omega)

@[simp] theorem State.inEvt_moved (s : State) (c : CoreId) : ((s.moved c).core c).inEvt = (s.core c).inEvt := by simp

theorem exec_rpt_repeats {s : State} {c : CoreId} (hr : s.seqReady c = true) {imm : BitVec 18} (hpos : 0 < imm.toNat)
    (hlt : imm.toNat < 65536) : ∃ t, exec (.rpt c 0 0 imm) s = .next t ∧
      t.butLinks = ((s.moved c).onCoreOf c fun k => { k with lc := imm.toNat, rep := 1 }).butLinks := by
  rw [exec_rpt, execRpt, decide_eq_false (by omega)]
  exact seqAct_onCore hr .none rfl (Core.repeat'_pos hpos _) fun _ => rfl

theorem exec_rptr_repeats {s : State} {c : CoreId} (hr : s.seqReady c = true) {ra : Fin 16} (hpos : 0 < (s.rg c ra).toNat) :
    ∃ t, exec (.rptr c 0 ra 0) s = .next t ∧
      t.butLinks = ((s.moved c).onCoreOf c fun k => { k with lc := min (s.rg c ra).toNat 65535, rep := 1 }).butLinks := by
  rw [exec_rptr, execRptr]
  refine seqAct_onCore hr .none (g := Core.repeat' (min (s.rg c ra).toNat 65535)) ?_ (Core.repeat'_pos (by omega) _) fun _ => rfl
  simp only [State.rg_moved]

theorem exec_rptu_repeats {s : State} {c : CoreId} (hr : s.seqReady c = true) {imm : BitVec 18} (hpos : 0 < imm.toNat)
    (hle : imm.toNat ≤ 16) : ∃ t, exec (.rptu c 0 0 imm) s = .next t ∧
      t.butLinks = ((s.moved c).onCoreOf c fun k => { k with rptU := imm.toNat, rep := 2 }).butLinks := by
  rw [exec_rptu, execRptu, decide_eq_false (by omega)]
  exact seqAct_onCore hr .none (if_neg (by omega)) (if_neg (by omega)) fun _ => rfl

theorem exec_wait_waits {s : State} {c : CoreId} (hr : s.seqReady c = true) (hevt : (s.core c).inEvt = false) :
    ∃ t, exec (.wait c 0 0 0) s = .next t ∧
      t.butLinks = ((s.moved c).onCoreOf c fun k => { k with state := 2 }).butLinks := by
  rw [exec_wait, execWait]
  exact seqAct_onCore hr .none rfl (if_neg (by simp [hevt])) fun _ => rfl

theorem exec_evret_returns {s : State} {c : CoreId} (hr : s.seqReady c = true) (hevt : (s.core c).inEvt = true) :
    ∃ t, exec (.evret c 0 0 0) s = .next t ∧
      (t.core c).pc = (s.core c).epc ∧ (t.core c).inEvt = false ∧ (t.core c).g = (s.core c).g := by
  rw [exec_evret, execEvret]
  obtain ⟨t, hexec, ht⟩ := seqAct_onCore hr .none (f := fun _ s =>
    if !(s.core c).inEvt then .error (trIllegal, s)
    else .ok (s.onCoreOf c fun k => { k with pc := k.epc, inEvt := false, rep := if k.evRpt && k.lc != 0 then 1 else 0 }))
    (h := fun k => { k with pc := k.epc, inEvt := false, rep := if k.evRpt && k.lc != 0 then 1 else 0 })
    (if_neg (by simp [hevt])) rfl fun _ => rfl
  refine ⟨t, hexec, ?_⟩
  rw [State.core_of_butLinks ht]
  simp

theorem exec_sync_moves {s : State} {c : CoreId} (hr : s.seqReady c = true) :
    ∃ t, exec (.sync c 0 0 0) s = .next t ∧ t.butLinks = (s.moved c).butLinks :=
  seqAct_of_seqReady hr .none rfl (State.not_stepping_moved hr)

/-- No core traps on the special registers below 4. -/
theorem specialTrap_low (c : CoreId) {code : Nat} (h : code < 4) : specialTrap c code = 0 := by
  have hwithin : within 4 code 7 = false := by simp [within]; omega
  have hlt : ¬ 12 ≤ code := by omega
  have hlow : ¬ 8 ≤ code := by omega
  cases c <;> simp [specialTrap, hwithin, hlt, hlow]

theorem exec_mfs_reads {s : State} {c : CoreId} (hr : s.seqReady c = true) (rd : Fin 16) {imm : BitVec 18} (himm : imm.toNat < 4)
    {v : Word} (hv : (s.moved c).special c (s.core c).pc imm.toNat = (v, s.moved c)) :
    ∃ t, exec (.mfs c rd 0 imm) s = .next t ∧ t.butLinks = ((s.moved c).setRg c rd v).butLinks := by
  rw [exec_mfs, execMfs, decide_eq_false (by omega)]
  refine seqAct_of_seqReady hr .none (t := (s.moved c).setRg c rd v) ?_ ?_
  · simp [specialTrap_low c himm, hv]
  · simpa only [State.core_setRg, Core.stepping_setRg] using State.not_stepping_moved hr

theorem exec_mts_lc {s : State} {c : CoreId} (hr : s.seqReady c = true) (ra : Fin 16) :
    ∃ t, exec (.mts c 0 ra 1) s = .next t ∧
      t.butLinks = ((s.moved c).onCoreOf c fun k => { k with lc := (s.rg c ra).toNat % 65536 }).butLinks := by
  rw [exec_mts, execMts]
  refine seqAct_onCore hr .none (g := fun k => k.setSpecial 1 (k.rg ra)) ?_ ?_ fun _ => rfl
  · simp [specialTrap_low c (code := 1) (by decide)]
  · simp only [Core.rg_moved, Core.setSpecial]

theorem exec_hbeat_hall {s : State} (hr : s.seqReady .hall = true) :
    ∃ t, exec (.hbeat .hall 0 0 0) s = .next t ∧ t.hbeatAt = s.now ∧ t.hbMissed = false := by
  rw [exec_hbeat, execHbeat]
  obtain ⟨t, hexec, ht⟩ := seqAct_of_seqReady hr .none (f := fun _ s => .ok { s with hbeatAt := s.now, hbMissed := false })
    rfl (State.not_stepping_moved hr)
  exact ⟨t, hexec, (congrArg State.hbeatAt ht :), (congrArg State.hbMissed ht :)⟩

@[simp] theorem State.hbeatAt_onCoreOf (s : State) (c : CoreId) (f : Core → Core) : (s.onCoreOf c f).hbeatAt = s.hbeatAt := by
  cases c <;> rfl

@[simp] theorem State.hbeatAt_trap (s : State) (c : CoreId) (code : Nat) : (s.trap c code).hbeatAt = s.hbeatAt :=
  s.hbeatAt_onCoreOf c _

/-- An instruction that traps on the moved state has no other effect than the trap. -/
theorem seqAct_traps_only {s : State} {c : CoreId} (hr : s.seqReady c = true) (cls : RepClass) {f : Word → State → SeqOut}
    {code : Nat} (hf : f (s.core c).pc (s.moved c) = .error (code, s.moved c))
    (hstep : ((((s.moved c).onCoreOf c fun _ => s.core c).trap c code).core c).stepping = false) :
    ∃ t, seqAct s c false cls f = .next t ∧
      t.butLinks = (((s.moved c).onCoreOf c fun _ => s.core c).trap c code).butLinks := by
  obtain ⟨hruns, hrep, hfetch, hbkpt, -⟩ := (s.seqReady_iff c).1 hr
  obtain ⟨t, hexec, ht⟩ := act_butLinks (fun s => s.instr c false cls f) hruns
  refine ⟨t, hexec, ht.trans ?_⟩
  simp only [State.instr, hfetch, hbkpt, repOk_of_rep_eq_zero c _ cls hrep, s.onCoreOf_advance c hrep, hf, Bool.not_true,
    Bool.false_eq_true, if_false, State.stepEnd_of_not_stepping _ _ hstep]

theorem exec_hbeat_room {s : State} {p : Fin 48} (hr : s.seqReady (.room p) = true)
    (hevt : (s.core (.room p)).inEvt = false) : ∃ t, exec (.hbeat (.room p) 0 0 0) s = .next t ∧ t.hbeatAt = s.hbeatAt ∧
      t.core (.room p) = { Core.enter (.room p) 0 (s.core (.room p)) with trap := trPriv, evTrap := trPriv } := by
  obtain ⟨-, -, -, -, hstep⟩ := (s.seqReady_iff (.room p)).1 hr
  have hcore := ((s.moved (.room p)).onCoreOf (.room p) fun _ => s.core (.room p)).core_trap (c := .room p)
    (by rw [State.core_onCoreOf]; exact hevt) trPriv
  rw [State.core_onCoreOf] at hcore
  rw [exec_hbeat, execHbeat]
  obtain ⟨t, hexec, ht⟩ := seqAct_traps_only hr .none (f := fun _ s => .error (trPriv, s)) rfl (by rw [hcore]; exact hstep)
  refine ⟨t, hexec, ?_, (State.core_of_butLinks ht _).trans hcore⟩
  calc t.hbeatAt = (((s.moved (.room p)).onCoreOf (.room p) fun _ => s.core (.room p)).trap (.room p) trPriv).hbeatAt :=
        (congrArg State.hbeatAt ht :)
    _ = (s.moved (.room p)).hbeatAt := by simp
    _ = s.hbeatAt := s.hbeatAt_onCoreOf _ _

theorem State.core_haltCore (s : State) (c : CoreId) (cause bk : Nat) : ∃ k : Core, (s.haltCore c cause bk).core c =
    { k with halted := true, stepping := false, pass := false, cause := cause, bkpt := bk } := by
  refine ⟨(s.setHaltBit c true).core c, ?_⟩
  cases c with
  | room p => simp [State.haltCore, State.core, Room.onCore, Room.off]
  | hall => rfl

@[simp] theorem State.debugOn_onCoreOf (s : State) (c : CoreId) (f : Core → Core) : (s.onCoreOf c f).debugOn = s.debugOn := by
  cases c <;> rfl

theorem exec_brk_halts {s : State} {c : CoreId} (hr : s.seqReady c = true) (hdebug : s.debugOn = true) :
    ∃ t, exec (.brk c 0 0 0) s = .next t ∧ (t.core c).halted = true ∧ (t.core c).cause = 3 := by
  obtain ⟨k, hk⟩ := (s.moved c).core_haltCore c 3 0
  have hmoved : (s.moved c).debugOn = true := (s.debugOn_onCoreOf c _).trans hdebug
  rw [exec_brk, execBrk]
  obtain ⟨t, hexec, ht⟩ := seqAct_of_seqReady hr .none
    (f := fun _ s => if s.debugOn then .ok (s.haltCore c 3 0) else .error (trBrk, s)) (if_pos hmoved) (by rw [hk])
  refine ⟨t, hexec, ?_⟩
  rw [State.core_of_butLinks ht, hk]
  exact ⟨rfl, rfl⟩

/-! ### COMMIT and DISCARD (R404) -/

/-- The words copied to the registers of TXW are those of the stage. -/
theorem Room.regs_foldl_stage (st : List Word) (n : Nat) (m : Regs) {i : Nat} (h : i < n) :
    ((List.range n).foldl (fun m i => m.set (0x100 + 4 * i) (st.getD i 0)) m).get (0x100 + 4 * i) = st.getD i 0 := by
  induction n with
  | zero => omega
  | succ n ih =>
    rw [List.range_succ, List.foldl_append, List.foldl_cons, List.foldl_nil, Store.get_set]
    split
    · rw [show i = n by omega]
    · exact ih (by omega)

/-- The registers after a COMMIT: the words of the stage in the places of TXW0 to TXW7 and of the two NEG words. -/
def Room.regsOfStage (r : Room) : Regs :=
  (((List.range 8).foldl (fun m i => m.set (0x100 + 4 * i) (r.core.stage.getD i 0)) r.regs).set 0x140
    (r.core.stage.getD 8 0)).set 0x144 (r.core.stage.getD 9 0)

theorem Room.regsOfStage_word (r : Room) {i : Nat} (hi : i < 8) :
    r.regsOfStage.get (0x100 + 4 * i) = r.core.stage.getD i 0 := by
  rw [Room.regsOfStage, Store.get_set_ne _ _ (by omega), Store.get_set_ne _ _ (by omega), Room.regs_foldl_stage _ _ _ hi]

/-- COMMIT of words whose SEND is 0 only publishes them. -/
theorem Room.commit_of_not_send (e : Env) (av : Nat) (shadow : Bool) (r : Room)
    (h : TXW0_SEND.of (r.core.stage.getD 0 0) = 0) : r.commit e av shadow =
      (0, { r with regs := r.regsOfStage }.onCore fun c =>
        { c with dirty := false
                 stage := setAt (setAt c.stage 0 (r.core.stage.getD 0 0 &&& ~~~TXW0_SEND.mask)) 8
                   (r.core.stage.getD 8 0 &&& ~~~NEG_CTRL_VALID.mask) }) := by
  have hsend : r.regsOfStage.fld TXW0_SEND = 0 := by
    rw [Regs.fld, show TXW0_SEND.off = 0x100 + 4 * 0 from rfl, r.regsOfStage_word (by decide)]
    exact h
  unfold Room.commit
  refine if_neg ?_
  show ¬(r.regsOfStage.fld TXW0_SEND != 0) = true
  rw [hsend]
  decide

theorem Core.rg_setRg_zero (k : Core) (i : Fin 16) : (Core.setRg i 0 k).rg i = 0 := by
  unfold Core.setRg Core.rg
  by_cases h : i = 0
  · simp [h]
  · simp only [h, if_false, setAt, List.getD_eq_getElem?_getD, List.getElem?_set]
    split
    · split <;> rfl
    · contradiction

@[simp] theorem Core.dirty_setRg (i : Fin 16) (v : Word) (k : Core) : (Core.setRg i v k).dirty = k.dirty := by
  unfold Core.setRg
  split <;> rfl

@[simp] theorem State.regs_setRg (s : State) (p : Fin 48) (i : Fin 16) (v : Word) :
    ((s.setRg (.room p) i v).room p).regs = (s.room p).regs :=
  (congrArg Room.regs (s.room_onCoreOf p (Core.setRg i v)) :)

theorem exec_commit_publishes {s : State} {p : Fin 48} (hr : s.seqReady (.room p) = true) (rd : Fin 16)
    (hsend : TXW0_SEND.of ((s.core (.room p)).stage.getD 0 0) = 0) : ∃ t, exec (.commit p rd 0) s = .next t ∧
      (t.core (.room p)).rg rd = 0 ∧ (t.core (.room p)).dirty = false ∧
      ∀ i < 8, (t.room p).regs.get (0x100 + 4 * i) = (s.core (.room p)).stage.getD i 0 := by
  have hcommit := Room.commit_of_not_send ((s.moved (.room p)).env p) ((s.moved (.room p)).availFor p)
    (!(s.moved (.room p)).keeps (wingOf p)) ((s.moved (.room p)).room p) (by rw [State.room_moved]; exact hsend)
  rw [exec_commit, execCommit]
  obtain ⟨t, hexec, ht⟩ := seqAct_of_seqReady hr .none (f := fun _ s =>
    let r := (s.room p).commit (s.env p) (s.availFor p) (!s.keeps (wingOf p))
    .ok ((s.setRoom p r.2).setRg (.room p) rd (BitVec.ofNat 32 r.1))) rfl
    (by rw [hcommit, State.core_setRg, Core.stepping_setRg, State.core, State.room_setRoom]
        exact State.not_stepping_moved hr)
  have hroom : t.room p = _ := (congrArg (fun u : State => u.room p) ht :)
  refine ⟨t, hexec, ?_⟩
  rw [State.core_of_butLinks ht, State.core_setRg, hcommit, State.core, State.room_setRoom]
  refine ⟨Core.rg_setRg_zero _ _, Core.dirty_setRg _ _ _, fun i hi => ?_⟩
  rw [hroom]
  show (State.room (State.setRg _ _ _ _) p).regs.get _ = _
  rw [State.regs_setRg, hcommit, State.room_setRoom]
  refine (Room.regsOfStage_word _ hi).trans ?_
  rw [State.room_moved]
  rfl

theorem exec_discard_drops {s : State} {p : Fin 48} (hr : s.seqReady (.room p) = true) : ∃ t, exec (.discard p 0 0) s = .next t ∧
    (t.core (.room p)).stage = (s.room p).published ∧ (t.core (.room p)).dirty = false := by
  rw [exec_discard, execDiscard]
  obtain ⟨t, hexec, ht⟩ := seqAct_of_seqReady hr .none (f := fun _ s =>
    .ok (s.onRoom p fun r => r.onCore fun k => { k with stage := r.published, dirty := false })) rfl
    (by simp only [State.core, State.room_onRoom]; exact State.not_stepping_moved hr)
  refine ⟨t, hexec, ?_⟩
  rw [State.core_of_butLinks ht, State.core, State.room_onRoom, State.room_moved]
  exact ⟨rfl, rfl⟩

/-- Settles O44. -/
theorem systemInstructions : Obligations.SystemInstructions := by
  unfold Obligations.SystemInstructions
  intro s c rd ra imm hr
  refine ⟨exec_rpt_repeats hr, exec_rptr_repeats hr, exec_rptu_repeats hr, exec_wait_waits hr, exec_evret_returns hr,
    exec_sync_moves hr, exec_mfs_reads hr rd (by decide) rfl, exec_mfs_reads hr rd (by decide) ?_, exec_mts_lc hr ra, ?_, ?_,
    exec_brk_halts hr, ?_, ?_⟩
  · simp [State.special]
  · rintro rfl
    exact exec_hbeat_hall hr
  · rintro p rfl hevt
    exact exec_hbeat_room hr hevt
  · rintro p rfl hsend
    exact exec_commit_publishes hr rd hsend
  · rintro p rfl
    exact exec_discard_drops hr

/-- Settles O45. -/
theorem eventEntry : Obligations.EventEntry := by
  unfold Obligations.EventEntry
  intro s c htakes hstep
  rw [exec_eventEntry, execEventEntry]
  obtain ⟨t, hexec, ht⟩ := act_butLinks (s := s) (fun s =>
    if s.takesEvents c then (s.onCoreOf c (Core.enter c (lowBit (s.pendingLines c)))).stepEnd c
    else (s.trap c (s.fetchTrap c)).stepEnd c) (c := s.takesEvents c || (s.runs c && s.fetchTrap c != 0)) (by simp [htakes])
  refine ⟨t, hexec, ht.trans ?_⟩
  rw [if_pos htakes, State.stepEnd_of_not_stepping _ _ (by simpa [Core.enter] using hstep)]
  rfl

end Sys2Proof.Machine

namespace Sys2Proof.Machine

set_option Elab.async false

/-! ## Which parts of a Room each operation can change; every other part stays -/

/-- The part is not among those listed. -/
abbrev RoomPart.Clear (w : List RoomPart) (k : RoomPart) : Prop := k ∉ w

theorem RoomPart.Clear.of {v w : List RoomPart} {k : RoomPart} (h : RoomPart.Clear w k) (hvw : v ⊆ w) :
    RoomPart.Clear v k :=
  fun hv => h (hvw hv)

/-- A Room has the same content of part `k` as another. -/
structure Room.Spares (k : RoomPart) (q r : Room) : Prop where
  same : RoomPart.same q r k

section
variable {q r : Room} {k : RoomPart}

theorem Room.Spares.refl (k : RoomPart) (r : Room) : Room.Spares k r r := ⟨by cases k <;> rfl⟩
theorem Room.Spares.trans {t : Room} (h : Room.Spares k q r) (h2 : Room.Spares k r t) : Room.Spares k q t :=
  ⟨by cases k <;> exact h2.same.trans h.same⟩

theorem Room.Spares.regs (h : Room.Spares k q r) {m : Regs} : Room.Spares k q { r with regs := m } :=
  ⟨by cases k <;> exact h.same⟩
theorem Room.Spares.put (h : Room.Spares k q r) {f : Field} {v : Nat} : Room.Spares k q (r.put f v) := h.regs
theorem Room.Spares.on (h : Room.Spares k q r) {f : Field} : Room.Spares k q (r.on f) := h.put
theorem Room.Spares.off (h : Room.Spares k q r) {f : Field} : Room.Spares k q (r.off f) := h.put
theorem Room.Spares.putB (h : Room.Spares k q r) {f : Field} {b : Bool} : Room.Spares k q (r.putB f b) := h.put
theorem Room.Spares.ite {c : Prop} [Decidable c] {a b : Room} (ha : Room.Spares k q a) (hb : Room.Spares k q b) :
    Room.Spares k q (if c then a else b) := by
  split <;> assumption
theorem Room.Spares.foldl {α : Type} {l : List α} {f : Room → α → Room} (hf : ∀ a b, Room.Spares k q a → Room.Spares k q (f a b))
    (h : Room.Spares k q r) : Room.Spares k q (l.foldl f r) := by
  induction l generalizing r with
  | nil => exact h
  | cons b l ih => exact ih (hf r b h)
theorem Room.Spares.onCc (hk : RoomPart.Clear [.cc] k) (h : Room.Spares k q r) {g : CcState → CcState} :
    Room.Spares k q (r.onCc g) :=
  ⟨by cases k <;> first | exact h.same | exact absurd List.mem_cons_self hk⟩
theorem Room.Spares.onPd (hk : RoomPart.Clear [.pd] k) (h : Room.Spares k q r) {g : PdState → PdState} :
    Room.Spares k q (r.onPd g) :=
  ⟨by cases k <;> first | exact h.same | exact absurd List.mem_cons_self hk⟩
theorem Room.Spares.onCon (hk : RoomPart.Clear [.con] k) (h : Room.Spares k q r) {g : ConState → ConState} :
    Room.Spares k q (r.onCon g) :=
  ⟨by cases k <;> first | exact h.same | exact absurd List.mem_cons_self hk⟩
theorem Room.Spares.onConv (hk : RoomPart.Clear [.conv] k) (h : Room.Spares k q r) {g : ConvState → ConvState} :
    Room.Spares k q (r.onConv g) :=
  ⟨by cases k <;> first | exact h.same | exact absurd List.mem_cons_self hk⟩
theorem Room.Spares.onCore (hk : RoomPart.Clear [.core] k) (h : Room.Spares k q r) {g : Core → Core} :
    Room.Spares k q (r.onCore g) :=
  ⟨by cases k <;> first | exact h.same | exact absurd List.mem_cons_self hk⟩
theorem Room.Spares.safe (hk : RoomPart.Clear [.safe] k) (h : Room.Spares k q r) {x} :
    Room.Spares k q { r with safe := x } :=
  ⟨by cases k <;> first | exact h.same | exact absurd List.mem_cons_self hk⟩
theorem Room.Spares.slotHold (hk : RoomPart.Clear [.slotHold] k) (h : Room.Spares k q r) {x} :
    Room.Spares k q { r with slotHold := x } :=
  ⟨by cases k <;> first | exact h.same | exact absurd List.mem_cons_self hk⟩
theorem Room.Spares.senseHold (hk : RoomPart.Clear [.senseHold] k) (h : Room.Spares k q r) {x} :
    Room.Spares k q { r with senseHold := x } :=
  ⟨by cases k <;> first | exact h.same | exact absurd List.mem_cons_self hk⟩
theorem Room.Spares.kickAt (hk : RoomPart.Clear [.kickAt] k) (h : Room.Spares k q r) {x} :
    Room.Spares k q { r with kickAt := x } :=
  ⟨by cases k <;> first | exact h.same | exact absurd List.mem_cons_self hk⟩
theorem Room.Spares.restarts (hk : RoomPart.Clear [.restarts] k) (h : Room.Spares k q r) {x} :
    Room.Spares k q { r with restarts := x } :=
  ⟨by cases k <;> first | exact h.same | exact absurd List.mem_cons_self hk⟩
theorem Room.Spares.data (hk : RoomPart.Clear [.data] k) (h : Room.Spares k q r) {x} :
    Room.Spares k q { r with data := x } :=
  ⟨by cases k <;> first | exact h.same | exact absurd List.mem_cons_self hk⟩
theorem Room.Spares.epoch (hk : RoomPart.Clear [.epoch] k) (h : Room.Spares k q r) {x} :
    Room.Spares k q { r with epoch := x } :=
  ⟨by cases k <;> first | exact h.same | exact absurd List.mem_cons_self hk⟩
theorem Room.Spares.calRej (hk : RoomPart.Clear [.calRej] k) (h : Room.Spares k q r) {x} :
    Room.Spares k q { r with calRej := x } :=
  ⟨by cases k <;> first | exact h.same | exact absurd List.mem_cons_self hk⟩
theorem Room.Spares.memories (hk : RoomPart.Clear [.data] k) (hk2 : RoomPart.Clear [.code] k) (h : Room.Spares k q r) {x y : Mem} :
    Room.Spares k q { r with data := x, code := y } :=
  ⟨by cases k <;> first | exact h.same | exact absurd List.mem_cons_self hk | exact absurd List.mem_cons_self hk2⟩
theorem Room.Spares.remainders (hk : RoomPart.Clear [.eoutRem] k) (hk2 : RoomPart.Clear [.einRem] k) (h : Room.Spares k q r) {x y : Nat} :
    Room.Spares k q { r with eoutRem := x, einRem := y } :=
  ⟨by cases k <;> first | exact h.same | exact absurd List.mem_cons_self hk | exact absurd List.mem_cons_self hk2⟩
theorem Room.Spares.holds (hk : RoomPart.Clear [.safe] k) (hk2 : RoomPart.Clear [.slotHold] k) (h : Room.Spares k q r) {m : Regs} {x y : Bool} :
    Room.Spares k q { r with regs := m, safe := x, slotHold := y } :=
  ⟨by cases k <;> first | exact h.same | exact absurd List.mem_cons_self hk | exact absurd List.mem_cons_self hk2⟩
theorem Room.Spares.calibration (hk : RoomPart.Clear [.cal] k) (hk2 : RoomPart.Clear [.calRej] k) (h : Room.Spares k q r) {x y} :
    Room.Spares k q { r with cal := x, calRej := y } :=
  ⟨by cases k <;> first | exact h.same | exact absurd List.mem_cons_self hk | exact absurd List.mem_cons_self hk2⟩
theorem Room.Spares.eq_cc (h : Room.Spares .cc q r) : r.cc = q.cc := h.same
theorem Room.Spares.eq_pd (h : Room.Spares .pd q r) : r.pd = q.pd := h.same
theorem Room.Spares.eq_con (h : Room.Spares .con q r) : r.con = q.con := h.same
theorem Room.Spares.eq_conv (h : Room.Spares .conv q r) : r.conv = q.conv := h.same
theorem Room.Spares.eq_core (h : Room.Spares .core q r) : r.core = q.core := h.same
theorem Room.Spares.eq_data (h : Room.Spares .data q r) : r.data = q.data := h.same
theorem Room.Spares.eq_code (h : Room.Spares .code q r) : r.code = q.code := h.same
theorem Room.Spares.eq_safe (h : Room.Spares .safe q r) : r.safe = q.safe := h.same
theorem Room.Spares.eq_slotHold (h : Room.Spares .slotHold q r) : r.slotHold = q.slotHold := h.same
theorem Room.Spares.eq_senseHold (h : Room.Spares .senseHold q r) : r.senseHold = q.senseHold := h.same
theorem Room.Spares.eq_kickAt (h : Room.Spares .kickAt q r) : r.kickAt = q.kickAt := h.same
theorem Room.Spares.eq_restarts (h : Room.Spares .restarts q r) : r.restarts = q.restarts := h.same
theorem Room.Spares.eq_cal (h : Room.Spares .cal q r) : r.cal = q.cal := h.same
theorem Room.Spares.eq_calRej (h : Room.Spares .calRej q r) : r.calRej = q.calRej := h.same
theorem Room.Spares.eq_eoutRem (h : Room.Spares .eoutRem q r) : r.eoutRem = q.eoutRem := h.same
theorem Room.Spares.eq_einRem (h : Room.Spares .einRem q r) : r.einRem = q.einRem := h.same
theorem Room.Spares.eq_epoch (h : Room.Spares .epoch q r) : r.epoch = q.epoch := h.same
theorem Room.Spares.eq_outs (h : Room.Spares .outs q r) : r.outs = q.outs := h.same
end

def Room.takeNegP : List RoomPart := [.con]
theorem Room.takeNeg_spares {r r0 : Room} {j : RoomPart} (hP : RoomPart.Clear Room.takeNegP j)
    (hr : Room.Spares j r0 r) : Room.Spares j r0 (Room.takeNeg r) := by
  unfold Room.takeNeg
  repeat' first
    | with_reducible exact hr | with_reducible refine Room.Spares.onCon (hP.of (by decide)) ?_

def Room.endResvP : List RoomPart := [.con]
theorem Room.endResv_spares {r r0 : Room} {j : RoomPart} (hP : RoomPart.Clear Room.endResvP j)
    (hr : Room.Spares j r0 r) : Room.Spares j r0 (Room.endResv r) := by
  unfold Room.endResv
  repeat' first
    | with_reducible exact hr | with_reducible refine Room.Spares.off ?_
    | with_reducible refine Room.Spares.onCon (hP.of (by decide)) ?_

theorem Room.gate_spares {e : Env} {av : Nat} {k : Pkt} {r r0 : Room} {j : RoomPart} (hP : RoomPart.Clear [.con] j)
    (hr : Room.Spares j r0 r) : Room.Spares j r0 (Room.gate e av k r).2.2 := by
  unfold Room.gate
  dsimp only
  repeat' first
    | with_reducible exact hr | with_reducible exact Room.endResv_spares (hP.of (by decide)) hr.put.on
    | with_reducible refine Room.endResv_spares (hP.of (by decide)) ?_ | with_reducible refine Room.takeNeg_spares (hP.of (by decide)) ?_
    | with_reducible refine Room.Spares.onCon hP ?_ | with_reducible refine Room.Spares.ite ?_ ?_ | split

theorem Room.clampCaps_spares {e : Env} {k : Pkt} {ext : List Byte} {r r0 : Room} {j : RoomPart} (hr : Room.Spares j r0 r) :
    Room.Spares j r0 (Room.clampCaps e k ext r).2.2 := by
  unfold Room.clampCaps
  dsimp only
  split
  · exact .ite hr hr.on
  · split
    · exact .ite hr hr.on
    · exact hr

theorem Room.eprCheck_spares {e : Env} {k : Pkt} {r r0 : Room} {j : RoomPart} (hr : Room.Spares j r0 r) :
    Room.Spares j r0 (Room.eprCheck e k r).2 := by
  unfold Room.eprCheck
  dsimp only
  repeat' first
    | with_reducible exact hr | with_reducible exact hr.on.put | split

def Room.askP : List RoomPart := [.con]
theorem Room.ask_spares {e : Env} {w : Nat} {lapse : Bool} {r r0 : Room} {j : RoomPart} (hP : RoomPart.Clear Room.askP j)
    (hr : Room.Spares j r0 r) : Room.Spares j r0 (Room.ask e w lapse r) := by
  unfold Room.ask
  dsimp only
  repeat' first
    | with_reducible exact hr | with_reducible refine Room.Spares.off ?_ | with_reducible refine Room.Spares.put ?_
    | with_reducible refine Room.Spares.onCon (hP.of (by decide)) ?_

def Room.hwAskP : List RoomPart := [.con]
theorem Room.hwAsk_spares {e : Env} {w : Nat} {r r0 : Room} {j : RoomPart} (hP : RoomPart.Clear Room.hwAskP j)
    (hr : Room.Spares j r0 r) : Room.Spares j r0 (Room.hwAsk e w r) := by
  unfold Room.hwAsk
  repeat' first
    | with_reducible exact hr | with_reducible refine Room.ask_spares (hP.of (by decide)) ?_

def Room.toStepP : List RoomPart := [.con]
theorem Room.toStep_spares {e : Env} {n : Nat} {r r0 : Room} {j : RoomPart} (hP : RoomPart.Clear Room.toStepP j)
    (hr : Room.Spares j r0 r) : Room.Spares j r0 (Room.toStep e n r) := by
  unfold Room.toStep
  repeat' first
    | with_reducible exact hr | with_reducible refine Room.Spares.put ?_
    | with_reducible refine Room.Spares.onCon (hP.of (by decide)) ?_

def Room.prSwapStartP : List RoomPart := [.cc, .con, .conv]
theorem Room.prSwapStart_spares {e : Env} {r r0 : Room} {j : RoomPart} (hP : RoomPart.Clear Room.prSwapStartP j)
    (hr : Room.Spares j r0 r) : Room.Spares j r0 (Room.prSwapStart e r) := by
  unfold Room.prSwapStart
  dsimp only
  repeat' first
    | with_reducible exact hr | with_reducible refine Room.hwAsk_spares (hP.of (by decide)) ?_
    | with_reducible refine Room.toStep_spares (hP.of (by decide)) ?_ | with_reducible refine Room.Spares.off ?_
    | with_reducible refine Room.Spares.put ?_ | with_reducible refine Room.Spares.onCc (hP.of (by decide)) ?_
    | with_reducible refine Room.Spares.onCon (hP.of (by decide)) ?_
    | with_reducible refine Room.Spares.onConv (hP.of (by decide)) ?_ | with_reducible refine Room.Spares.ite ?_ ?_

theorem Room.refreshIlim_spares {e : Env} {r r0 : Room} {j : RoomPart} (hr : Room.Spares j r0 r) :
    Room.Spares j r0 (Room.refreshIlim e r) := by
  unfold Room.refreshIlim
  dsimp only
  repeat' first
    | with_reducible exact hr | with_reducible refine Room.Spares.put ?_

theorem Room.setGrant_spares {w : Nat} {r r0 : Room} {j : RoomPart} (hr : Room.Spares j r0 r) :
    Room.Spares j r0 (Room.setGrant r w) := by
  unfold Room.setGrant
  repeat' first
    | with_reducible exact hr | with_reducible refine Room.Spares.on ?_ | with_reducible refine Room.Spares.put ?_
    | with_reducible refine Room.Spares.ite ?_ ?_

def Room.transStartP : List RoomPart := [.con, .conv]
theorem Room.transStart_spares {e : Env} {r r0 : Room} {j : RoomPart} (hP : RoomPart.Clear Room.transStartP j)
    (hr : Room.Spares j r0 r) : Room.Spares j r0 (Room.transStart e r) := by
  unfold Room.transStart
  dsimp only
  repeat' first
    | with_reducible exact hr | with_reducible refine Room.endResv_spares (hP.of (by decide)) ?_
    | with_reducible refine Room.refreshIlim_spares ?_ | with_reducible refine Room.setGrant_spares ?_
    | with_reducible refine Room.toStep_spares (hP.of (by decide)) ?_ | with_reducible refine Room.Spares.off ?_
    | with_reducible refine Room.Spares.onCon (hP.of (by decide)) ?_
    | with_reducible refine Room.Spares.onConv (hP.of (by decide)) ?_ | with_reducible refine Room.Spares.ite ?_ ?_

def Room.vconnSwapStartP : List RoomPart := [.con]
theorem Room.vconnSwapStart_spares {e : Env} {r r0 : Room} {j : RoomPart} (hP : RoomPart.Clear Room.vconnSwapStartP j)
    (hr : Room.Spares j r0 r) : Room.Spares j r0 (Room.vconnSwapStart e r) := by
  unfold Room.vconnSwapStart
  dsimp only
  repeat' first
    | with_reducible exact hr | with_reducible refine Room.toStep_spares (hP.of (by decide)) ?_
    | with_reducible refine Room.Spares.put ?_ | with_reducible refine Room.Spares.onCon (hP.of (by decide)) ?_

def Room.acceptedP : List RoomPart := [.cc, .con, .conv]
theorem Room.accepted_spares {e : Env} {re : Nat} {r r0 : Room} {j : RoomPart} (hP : RoomPart.Clear Room.acceptedP j)
    (hr : Room.Spares j r0 r) : Room.Spares j r0 (Room.accepted e re r) := by
  unfold Room.accepted
  repeat' first
    | with_reducible exact hr | with_reducible refine Room.prSwapStart_spares (hP.of (by decide)) ?_
    | with_reducible refine Room.transStart_spares (hP.of (by decide)) ?_
    | with_reducible refine Room.vconnSwapStart_spares (hP.of (by decide)) ?_ | split

def Room.startGiveupP : List RoomPart := [.con]
theorem Room.startGiveup_spares {e : Env} {r r0 : Room} {j : RoomPart} (hP : RoomPart.Clear Room.startGiveupP j)
    (hr : Room.Spares j r0 r) : Room.Spares j r0 (Room.startGiveup e r) := by
  unfold Room.startGiveup
  repeat' first
    | with_reducible exact hr | with_reducible refine Room.Spares.on ?_
    | with_reducible refine Room.Spares.onCon (hP.of (by decide)) ?_ | with_reducible refine Room.Spares.ite ?_ ?_

def Room.vlimDropP : List RoomPart := [.con]
theorem Room.vlimDrop_spares {e : Env} {r r0 : Room} {j : RoomPart} (hP : RoomPart.Clear Room.vlimDropP j)
    (hr : Room.Spares j r0 r) : Room.Spares j r0 (Room.vlimDrop e r) := by
  unfold Room.vlimDrop
  repeat' first
    | with_reducible exact hr | with_reducible refine Room.startGiveup_spares (hP.of (by decide)) ?_
    | with_reducible refine Room.Spares.on ?_

def Room.refreshVlimP : List RoomPart := [.con]
theorem Room.refreshVlim_spares {e : Env} {r r0 : Room} {j : RoomPart} (hP : RoomPart.Clear Room.refreshVlimP j)
    (hr : Room.Spares j r0 r) : Room.Spares j r0 (Room.refreshVlim e r) := by
  unfold Room.refreshVlim
  dsimp only
  repeat' first
    | with_reducible exact hr | with_reducible refine Room.vlimDrop_spares (hP.of (by decide)) ?_
    | with_reducible refine Room.Spares.put ?_ | with_reducible refine Room.Spares.ite ?_ ?_

def Room.eprModeP : List RoomPart := [.con]
theorem Room.eprMode_spares {e : Env} {k : Pkt} {r r0 : Room} {j : RoomPart} (hP : RoomPart.Clear Room.eprModeP j)
    (hr : Room.Spares j r0 r) : Room.Spares j r0 (Room.eprMode e k r) := by
  unfold Room.eprMode
  repeat' first
    | with_reducible exact hr | with_reducible refine Room.refreshVlim_spares (hP.of (by decide)) ?_
    | with_reducible refine Room.Spares.on ?_ | with_reducible refine Room.Spares.off ?_
    | with_reducible refine Room.Spares.ite ?_ ?_ | split

theorem Room.followRp_spares {r r0 : Room} {j : RoomPart} (hr : Room.Spares j r0 r) :
    Room.Spares j r0 (Room.followRp r) := by
  unfold Room.followRp
  dsimp only
  repeat' first
    | with_reducible exact hr | with_reducible refine Room.Spares.put ?_ | with_reducible refine Room.Spares.ite ?_ ?_
    | split

theorem Room.implicitVi_spares {e : Env} {r r0 : Room} {j : RoomPart} (hr : Room.Spares j r0 r) :
    Room.Spares j r0 (Room.implicitVi e r) := by
  unfold Room.implicitVi
  repeat' first
    | with_reducible exact hr | with_reducible refine Room.refreshIlim_spares ?_
    | with_reducible refine Room.Spares.off ?_ | with_reducible refine Room.Spares.put ?_
    | with_reducible refine Room.Spares.ite ?_ ?_

def Room.sinkTxNgP : List RoomPart := [.pd]
theorem Room.sinkTxNg_spares {e : Env} {r r0 : Room} {j : RoomPart} (hP : RoomPart.Clear Room.sinkTxNgP j)
    (hr : Room.Spares j r0 r) : Room.Spares j r0 (Room.sinkTxNg e r) := by
  unfold Room.sinkTxNg
  repeat' first
    | with_reducible exact hr | with_reducible refine Room.Spares.put ?_ | with_reducible refine Room.Spares.on ?_
    | with_reducible refine Room.Spares.onPd (hP.of (by decide)) ?_

def Room.sinkTxOkP : List RoomPart := [.pd]
theorem Room.sinkTxOk_spares {e : Env} {r r0 : Room} {j : RoomPart} (hP : RoomPart.Clear Room.sinkTxOkP j)
    (hr : Room.Spares j r0 r) : Room.Spares j r0 (Room.sinkTxOk e r) := by
  unfold Room.sinkTxOk
  dsimp only
  repeat' first
    | with_reducible exact hr | with_reducible refine Room.sinkTxNg_spares (hP.of (by decide)) ?_
    | with_reducible refine Room.Spares.put ?_ | with_reducible refine Room.Spares.off ?_
    | with_reducible refine Room.Spares.onPd (hP.of (by decide)) ?_ | with_reducible refine Room.Spares.ite ?_ ?_

def Room.endExplicitP : List RoomPart := [.cc, .pd]
theorem Room.endExplicit_spares {e : Env} {r r0 : Room} {j : RoomPart} (hP : RoomPart.Clear Room.endExplicitP j)
    (hr : Room.Spares j r0 r) : Room.Spares j r0 (Room.endExplicit e r) := by
  unfold Room.endExplicit
  dsimp only
  repeat' first
    | with_reducible exact hr | with_reducible refine Room.followRp_spares ?_
    | with_reducible refine Room.implicitVi_spares ?_
    | with_reducible refine Room.sinkTxOk_spares (hP.of (by decide)) ?_ | with_reducible refine Room.Spares.off ?_
    | with_reducible refine Room.Spares.put ?_ | with_reducible refine Room.Spares.onCc (hP.of (by decide)) ?_
    | with_reducible refine Room.Spares.ite ?_ ?_

def Room.lostResumeP : List RoomPart := [.cc]
theorem Room.lostResume_spares {e : Env} {r r0 : Room} {j : RoomPart} (hP : RoomPart.Clear Room.lostResumeP j)
    (hr : Room.Spares j r0 r) : Room.Spares j r0 (Room.lostResume e r) := by
  unfold Room.lostResume
  repeat' first
    | with_reducible exact hr | with_reducible refine Room.Spares.onCc (hP.of (by decide)) ?_

def Room.refreshRampP : List RoomPart := [.conv]
theorem Room.refreshRamp_spares {e : Env} {target : Nat} {r r0 : Room} {j : RoomPart} (hP : RoomPart.Clear Room.refreshRampP j)
    (hr : Room.Spares j r0 r) : Room.Spares j r0 (Room.refreshRamp e r target) := by
  unfold Room.refreshRamp
  dsimp only
  repeat' first
    | with_reducible exact hr | with_reducible refine Room.Spares.putB ?_
    | with_reducible refine Room.Spares.onConv (hP.of (by decide)) ?_

theorem Room.setVset_spares {e : Env} {mv : Nat} {r r0 : Room} {j : RoomPart} (hr : Room.Spares j r0 r) :
    Room.Spares j r0 (Room.setVset e mv r) := by
  unfold Room.setVset
  repeat' first
    | with_reducible exact hr | with_reducible refine Room.refreshIlim_spares ?_
    | with_reducible refine Room.Spares.put ?_

def Room.setRateP : List RoomPart := [.conv]
theorem Room.setRate_spares {num : Nat} {den : Nat} {r r0 : Room} {j : RoomPart} (hP : RoomPart.Clear Room.setRateP j)
    (hr : Room.Spares j r0 r) : Room.Spares j r0 (Room.setRate num den r) := by
  unfold Room.setRate
  repeat' first
    | with_reducible exact hr | with_reducible refine Room.Spares.onConv (hP.of (by decide)) ?_

def Room.slewRateP : List RoomPart := [.conv]
theorem Room.slewRate_spares {r r0 : Room} {j : RoomPart} (hP : RoomPart.Clear Room.slewRateP j)
    (hr : Room.Spares j r0 r) : Room.Spares j r0 (Room.slewRate r) := by
  unfold Room.slewRate
  repeat' first
    | with_reducible exact hr | with_reducible refine Room.setRate_spares (hP.of (by decide)) ?_

def Room.rampToP : List RoomPart := [.con, .conv]
theorem Room.rampTo_spares {e : Env} {mv : Nat} {r r0 : Room} {j : RoomPart} (hP : RoomPart.Clear Room.rampToP j)
    (hr : Room.Spares j r0 r) : Room.Spares j r0 (Room.rampTo e mv r) := by
  unfold Room.rampTo
  dsimp only
  repeat' first
    | with_reducible exact hr | with_reducible refine Room.refreshRamp_spares (hP.of (by decide)) ?_
    | with_reducible refine Room.setVset_spares ?_ | with_reducible refine Room.slewRate_spares (hP.of (by decide)) ?_
    | with_reducible refine Room.toStep_spares (hP.of (by decide)) ?_ | with_reducible refine Room.Spares.off ?_
    | with_reducible refine Room.Spares.onCon (hP.of (by decide)) ?_ | with_reducible refine Room.Spares.ite ?_ ?_

def Room.vsetRestP : List RoomPart := [.con, .conv]
theorem Room.vsetRest_spares {e : Env} {r r0 : Room} {j : RoomPart} (hP : RoomPart.Clear Room.vsetRestP j)
    (hr : Room.Spares j r0 r) : Room.Spares j r0 (Room.vsetRest e r) := by
  unfold Room.vsetRest
  repeat' first
    | with_reducible exact hr | with_reducible refine Room.rampTo_spares (hP.of (by decide)) ?_
    | with_reducible refine Room.setVset_spares ?_ | with_reducible refine Room.Spares.ite ?_ ?_

def Room.swapEndP : List RoomPart := [.cc, .con, .conv]
theorem Room.swapEnd_spares {e : Env} {r r0 : Room} {j : RoomPart} (hP : RoomPart.Clear Room.swapEndP j)
    (hr : Room.Spares j r0 r) : Room.Spares j r0 (Room.swapEnd e r) := by
  unfold Room.swapEnd
  dsimp only
  repeat' first
    | with_reducible exact hr | with_reducible refine Room.lostResume_spares (hP.of (by decide)) ?_
    | with_reducible refine Room.vsetRest_spares (hP.of (by decide)) ?_ | with_reducible refine Room.Spares.on ?_
    | with_reducible refine Room.Spares.off ?_ | with_reducible refine Room.Spares.onCon (hP.of (by decide)) ?_

def Room.swapDoneP : List RoomPart := [.cc, .pd, .con, .conv]
theorem Room.swapDone_spares {e : Env} {r r0 : Room} {j : RoomPart} (hP : RoomPart.Clear Room.swapDoneP j)
    (hr : Room.Spares j r0 r) : Room.Spares j r0 (Room.swapDone e r) := by
  unfold Room.swapDone
  repeat' first
    | with_reducible exact hr | with_reducible refine Room.endExplicit_spares (hP.of (by decide)) ?_
    | with_reducible refine Room.swapEnd_spares (hP.of (by decide)) ?_
    | with_reducible refine Room.vsetRest_spares (hP.of (by decide)) ?_

def Room.conClearP : List RoomPart := [.cc, .con]
theorem Room.conClear_spares {e : Env} {r r0 : Room} {j : RoomPart} (hP : RoomPart.Clear Room.conClearP j)
    (hr : Room.Spares j r0 r) : Room.Spares j r0 (Room.conClear e r) := by
  unfold Room.conClear
  dsimp only
  repeat' first
    | with_reducible exact hr | with_reducible refine Room.endResv_spares (hP.of (by decide)) ?_
    | with_reducible refine Room.implicitVi_spares ?_ | with_reducible refine Room.Spares.off ?_
    | with_reducible refine Room.Spares.onCc (hP.of (by decide)) ?_
    | with_reducible refine Room.Spares.onCon (hP.of (by decide)) ?_

def Room.audioOffP : List RoomPart := [.cc]
theorem Room.audioOff_spares {r r0 : Room} {j : RoomPart} (hP : RoomPart.Clear Room.audioOffP j)
    (hr : Room.Spares j r0 r) : Room.Spares j r0 (Room.audioOff r) := by
  unfold Room.audioOff
  repeat' first
    | with_reducible exact hr | with_reducible refine Room.Spares.onCc (hP.of (by decide)) ?_

theorem Room.refreshPartner_spares {r r0 : Room} {j : RoomPart} (hr : Room.Spares j r0 r) :
    Room.Spares j r0 (Room.refreshPartner r) := by
  unfold Room.refreshPartner
  dsimp only
  repeat' first
    | with_reducible exact hr | with_reducible refine Room.followRp_spares ?_
    | with_reducible refine Room.Spares.on ?_ | with_reducible refine Room.Spares.put ?_
    | with_reducible refine Room.Spares.ite ?_ ?_

def Room.termsP : List RoomPart := [.cc]
theorem Room.terms_spares {e : Env} {r r0 : Room} {j : RoomPart} (hP : RoomPart.Clear Room.termsP j)
    (hr : Room.Spares j r0 r) : Room.Spares j r0 (Room.terms e r) := by
  unfold Room.terms
  dsimp only
  repeat' first
    | with_reducible exact hr | with_reducible refine Room.audioOff_spares (hP.of (by decide)) ?_
    | with_reducible refine Room.refreshPartner_spares ?_ | with_reducible refine Room.Spares.put ?_
    | with_reducible refine Room.Spares.onCc (hP.of (by decide)) ?_ | with_reducible refine Room.Spares.ite ?_ ?_

def Room.vconnP : List RoomPart := [.cc, .pd]
theorem Room.vconn_spares {e : Env} {r r0 : Room} {j : RoomPart} (hP : RoomPart.Clear Room.vconnP j)
    (hr : Room.Spares j r0 r) : Room.Spares j r0 (Room.vconn e r) := by
  unfold Room.vconn
  dsimp only
  repeat' first
    | with_reducible exact hr | with_reducible refine Room.terms_spares (hP.of (by decide)) ?_
    | with_reducible refine Room.Spares.putB ?_ | with_reducible refine Room.Spares.onCc (hP.of (by decide)) ?_
    | with_reducible refine Room.Spares.onPd (hP.of (by decide)) ?_ | with_reducible refine Room.Spares.ite ?_ ?_

def Room.enterStateP : List RoomPart := [.cc, .pd]
theorem Room.enterState_spares {e : Env} {st : Nat} {r r0 : Room} {j : RoomPart} (hP : RoomPart.Clear Room.enterStateP j)
    (hr : Room.Spares j r0 r) : Room.Spares j r0 (Room.enterState e r st) := by
  unfold Room.enterState
  dsimp only
  repeat' first
    | with_reducible exact hr | with_reducible refine Room.vconn_spares (hP.of (by decide)) ?_
    | with_reducible refine Room.Spares.put ?_ | with_reducible refine Room.Spares.off ?_
    | with_reducible refine Room.Spares.onCc (hP.of (by decide)) ?_ | with_reducible refine Room.Spares.ite ?_ ?_

def Room.enterAP : List RoomPart := [.cc, .pd]
theorem Room.enterA_spares {e : Env} {st : Nat} {r r0 : Room} {j : RoomPart} (hP : RoomPart.Clear Room.enterAP j)
    (hr : Room.Spares j r0 r) : Room.Spares j r0 (Room.enterA e r st) := by
  unfold Room.enterA
  dsimp only
  repeat' first
    | with_reducible exact hr | with_reducible refine Room.enterState_spares (hP.of (by decide)) ?_ | split

theorem Room.clearRx_spares {r r0 : Room} {j : RoomPart} (hr : Room.Spares j r0 r) :
    Room.Spares j r0 (Room.clearRx r) := by
  unfold Room.clearRx
  dsimp only
  repeat' first
    | with_reducible exact hr | with_reducible refine Room.Spares.off ?_
    | with_reducible refine Room.Spares.foldl (fun _ _ hr => ?_) ?_ | with_reducible refine Room.Spares.regs ?_

def Room.pdResetP : List RoomPart := [.pd]
theorem Room.pdReset_spares {r r0 : Room} {j : RoomPart} (hP : RoomPart.Clear Room.pdResetP j)
    (hr : Room.Spares j r0 r) : Room.Spares j r0 (Room.pdReset r) := by
  unfold Room.pdReset
  repeat' first
    | with_reducible exact hr | with_reducible refine Room.clearRx_spares ?_
    | with_reducible refine Room.Spares.off ?_ | with_reducible refine Room.Spares.onPd (hP.of (by decide)) ?_

def Room.refreshCableP : List RoomPart := [.con]
theorem Room.refreshCable_spares {e : Env} {r r0 : Room} {j : RoomPart} (hP : RoomPart.Clear Room.refreshCableP j)
    (hr : Room.Spares j r0 r) : Room.Spares j r0 (Room.refreshCable e r) := by
  unfold Room.refreshCable
  dsimp only
  repeat' first
    | with_reducible exact hr | with_reducible refine Room.refreshIlim_spares ?_
    | with_reducible refine Room.refreshVlim_spares (hP.of (by decide)) ?_ | with_reducible refine Room.Spares.on ?_
    | with_reducible refine Room.Spares.putB ?_ | with_reducible refine Room.Spares.put ?_
    | with_reducible refine Room.Spares.off ?_ | with_reducible refine Room.Spares.ite ?_ ?_

def Room.txEndP : List RoomPart := [.pd]
theorem Room.txEnd_spares {code : Nat} {r r0 : Room} {j : RoomPart} (hP : RoomPart.Clear Room.txEndP j)
    (hr : Room.Spares j r0 r) : Room.Spares j r0 (Room.txEnd r code) := by
  unfold Room.txEnd
  repeat' first
    | with_reducible exact hr | with_reducible refine Room.Spares.on ?_ | with_reducible refine Room.Spares.put ?_
    | with_reducible refine Room.Spares.onPd (hP.of (by decide)) ?_

def Room.txAbortP : List RoomPart := [.pd]
theorem Room.txAbort_spares {code : Nat} {r r0 : Room} {j : RoomPart} (hP : RoomPart.Clear Room.txAbortP j)
    (hr : Room.Spares j r0 r) : Room.Spares j r0 (Room.txAbort r code) := by
  unfold Room.txAbort
  dsimp only
  repeat' first
    | with_reducible exact hr | with_reducible refine Room.txEnd_spares (hP.of (by decide)) ?_
    | with_reducible refine Room.Spares.on ?_ | with_reducible refine Room.Spares.put ?_
    | with_reducible refine Room.Spares.onPd (hP.of (by decide)) ?_ | with_reducible refine Room.Spares.ite ?_ ?_

def Room.pdClearP : List RoomPart := [.pd, .con]
theorem Room.pdClear_spares {e : Env} {r r0 : Room} {j : RoomPart} (hP : RoomPart.Clear Room.pdClearP j)
    (hr : Room.Spares j r0 r) : Room.Spares j r0 (Room.pdClear e r) := by
  unfold Room.pdClear
  dsimp only
  repeat' first
    | with_reducible exact hr | with_reducible refine Room.pdReset_spares (hP.of (by decide)) ?_
    | with_reducible refine Room.refreshCable_spares (hP.of (by decide)) ?_
    | with_reducible refine Room.txAbort_spares (hP.of (by decide)) ?_ | with_reducible refine Room.Spares.off ?_
    | with_reducible refine Room.Spares.onPd (hP.of (by decide)) ?_

theorem Room.setLoop_spares {st : Nat} {r r0 : Room} {j : RoomPart} (hr : Room.Spares j r0 r) :
    Room.Spares j r0 (Room.setLoop r st) := by
  unfold Room.setLoop
  dsimp only
  repeat' first
    | with_reducible exact hr | with_reducible refine Room.Spares.on ?_ | with_reducible refine Room.Spares.off ?_
    | with_reducible refine Room.Spares.putB ?_ | with_reducible refine Room.Spares.put ?_
    | with_reducible refine Room.Spares.ite ?_ ?_

def Room.setRefP : List RoomPart := [.conv]
theorem Room.setRef_spares {uv : Nat} {r r0 : Room} {j : RoomPart} (hP : RoomPart.Clear Room.setRefP j)
    (hr : Room.Spares j r0 r) : Room.Spares j r0 (Room.setRef r uv) := by
  unfold Room.setRef
  repeat' first
    | with_reducible exact hr | with_reducible refine Room.Spares.put ?_
    | with_reducible refine Room.Spares.onConv (hP.of (by decide)) ?_

def Room.dischargeP : List RoomPart := [.conv]
theorem Room.discharge_spares {e : Env} {num : Nat} {den : Nat} {openAtOff : Bool} {r r0 : Room} {j : RoomPart} (hP : RoomPart.Clear Room.dischargeP j)
    (hr : Room.Spares j r0 r) : Room.Spares j r0 (Room.discharge e r num den openAtOff) := by
  unfold Room.discharge
  dsimp only
  repeat' first
    | with_reducible exact hr | with_reducible refine Room.refreshRamp_spares (hP.of (by decide)) ?_
    | with_reducible refine Room.setLoop_spares ?_ | with_reducible refine Room.setRate_spares (hP.of (by decide)) ?_
    | with_reducible refine Room.setRef_spares (hP.of (by decide)) ?_
    | with_reducible refine Room.slewRate_spares (hP.of (by decide)) ?_
    | with_reducible refine Room.Spares.onConv (hP.of (by decide)) ?_ | with_reducible refine Room.Spares.ite ?_ ?_

def Room.loopOffP : List RoomPart := [.conv]
theorem Room.loopOff_spares {r r0 : Room} {j : RoomPart} (hP : RoomPart.Clear Room.loopOffP j)
    (hr : Room.Spares j r0 r) : Room.Spares j r0 (Room.loopOff r) := by
  unfold Room.loopOff
  repeat' first
    | with_reducible exact hr | with_reducible refine Room.setLoop_spares ?_
    | with_reducible refine Room.Spares.onConv (hP.of (by decide)) ?_

def Room.openSwitchP : List RoomPart := [.conv]
theorem Room.openSwitch_spares {r r0 : Room} {j : RoomPart} (hP : RoomPart.Clear Room.openSwitchP j)
    (hr : Room.Spares j r0 r) : Room.Spares j r0 (Room.openSwitch r) := by
  unfold Room.openSwitch
  repeat' first
    | with_reducible exact hr | with_reducible refine Room.Spares.off ?_
    | with_reducible refine Room.Spares.onConv (hP.of (by decide)) ?_

def Room.startRemovalP : List RoomPart := [.cc, .conv]
theorem Room.startRemoval_spares {e : Env} {r r0 : Room} {j : RoomPart} (hP : RoomPart.Clear Room.startRemovalP j)
    (hr : Room.Spares j r0 r) : Room.Spares j r0 (Room.startRemoval e r) := by
  unfold Room.startRemoval
  repeat' first
    | with_reducible exact hr | with_reducible refine Room.discharge_spares (hP.of (by decide)) ?_
    | with_reducible refine Room.loopOff_spares (hP.of (by decide)) ?_
    | with_reducible refine Room.openSwitch_spares (hP.of (by decide)) ?_
    | with_reducible refine Room.setGrant_spares ?_ | with_reducible refine Room.Spares.onCc (hP.of (by decide)) ?_
    | with_reducible refine Room.Spares.ite ?_ ?_

def Room.shedP : List RoomPart := [.cc, .pd, .con, .conv]
theorem Room.shed_spares {e : Env} {r r0 : Room} {j : RoomPart} (hP : RoomPart.Clear Room.shedP j)
    (hr : Room.Spares j r0 r) : Room.Spares j r0 (Room.shed e r) := by
  unfold Room.shed
  dsimp only
  repeat' first
    | with_reducible exact hr | with_reducible refine Room.conClear_spares (hP.of (by decide)) ?_
    | with_reducible refine Room.enterA_spares (hP.of (by decide)) ?_
    | with_reducible refine Room.pdClear_spares (hP.of (by decide)) ?_
    | with_reducible refine Room.startRemoval_spares (hP.of (by decide)) ?_ | with_reducible refine Room.Spares.on ?_
    | with_reducible refine Room.Spares.onCc (hP.of (by decide)) ?_

def Room.grantFellP : List RoomPart := [.cc, .pd, .con, .conv]
theorem Room.grantFell_spares {e : Env} {r r0 : Room} {j : RoomPart} (hP : RoomPart.Clear Room.grantFellP j)
    (hr : Room.Spares j r0 r) : Room.Spares j r0 (Room.grantFell e r) := by
  unfold Room.grantFell
  repeat' first
    | with_reducible exact hr | with_reducible refine Room.implicitVi_spares ?_
    | with_reducible refine Room.shed_spares (hP.of (by decide)) ?_
    | with_reducible refine Room.startGiveup_spares (hP.of (by decide)) ?_ | with_reducible refine Room.Spares.on ?_
    | with_reducible refine Room.Spares.put ?_ | with_reducible refine Room.Spares.onCc (hP.of (by decide)) ?_
    | with_reducible refine Room.Spares.ite ?_ ?_

def Room.afterTransP : List RoomPart := [.cc, .pd, .con, .conv]
theorem Room.afterTrans_spares {e : Env} {r r0 : Room} {j : RoomPart} (hP : RoomPart.Clear Room.afterTransP j)
    (hr : Room.Spares j r0 r) : Room.Spares j r0 (Room.afterTrans e r) := by
  unfold Room.afterTrans
  dsimp only
  repeat' first
    | with_reducible exact hr | with_reducible refine Room.grantFell_spares (hP.of (by decide)) ?_
    | with_reducible refine Room.refreshIlim_spares ?_
    | with_reducible refine Room.refreshVlim_spares (hP.of (by decide)) ?_
    | with_reducible refine Room.vlimDrop_spares (hP.of (by decide)) ?_ | with_reducible refine Room.Spares.off ?_
    | with_reducible refine Room.Spares.ite ?_ ?_

def Room.transEndP : List RoomPart := [.cc, .pd, .con, .conv]
theorem Room.transEnd_spares {e : Env} {r r0 : Room} {j : RoomPart} (hP : RoomPart.Clear Room.transEndP j)
    (hr : Room.Spares j r0 r) : Room.Spares j r0 (Room.transEnd e r) := by
  unfold Room.transEnd
  dsimp only
  repeat' first
    | with_reducible exact hr | with_reducible refine Room.afterTrans_spares (hP.of (by decide)) ?_
    | with_reducible refine Room.refreshIlim_spares ?_ | with_reducible refine Room.setGrant_spares ?_
    | with_reducible refine Room.Spares.put ?_ | with_reducible refine Room.Spares.on ?_
    | with_reducible refine Room.Spares.off ?_ | with_reducible refine Room.Spares.onCc (hP.of (by decide)) ?_
    | with_reducible refine Room.Spares.onCon (hP.of (by decide)) ?_ | with_reducible refine Room.Spares.ite ?_ ?_

def Room.psRdySentP : List RoomPart := [.cc, .pd, .con, .conv]
theorem Room.psRdySent_spares {e : Env} {r r0 : Room} {j : RoomPart} (hP : RoomPart.Clear Room.psRdySentP j)
    (hr : Room.Spares j r0 r) : Room.Spares j r0 (Room.psRdySent e r) := by
  unfold Room.psRdySent
  repeat' first
    | with_reducible exact hr | with_reducible refine Room.swapDone_spares (hP.of (by decide)) ?_
    | with_reducible refine Room.swapEnd_spares (hP.of (by decide)) ?_
    | with_reducible refine Room.toStep_spares (hP.of (by decide)) ?_
    | with_reducible refine Room.transEnd_spares (hP.of (by decide)) ?_
    | with_reducible refine Room.Spares.onCon (hP.of (by decide)) ?_ | with_reducible refine Room.Spares.ite ?_ ?_
    | split

def Room.coreSentP : List RoomPart := [.cc, .pd, .con, .conv]
theorem Room.coreSent_spares {e : Env} {m : TxMsg} {r r0 : Room} {j : RoomPart} (hP : RoomPart.Clear Room.coreSentP j)
    (hr : Room.Spares j r0 r) : Room.Spares j r0 (Room.coreSent e m r) := by
  unfold Room.coreSent
  dsimp only
  repeat' first
    | with_reducible exact hr | with_reducible refine Room.accepted_spares (hP.of (by decide)) ?_
    | with_reducible refine Room.eprMode_spares (hP.of (by decide)) ?_
    | with_reducible refine Room.psRdySent_spares (hP.of (by decide)) ?_
    | with_reducible refine Room.Spares.onPd (hP.of (by decide)) ?_ | with_reducible refine Room.Spares.ite ?_ ?_

theorem Room.keepVconn_spares {r r0 : Room} {j : RoomPart} (hr : Room.Spares j r0 r) :
    Room.Spares j r0 (Room.keepVconn r) := by
  unfold Room.keepVconn
  repeat' first
    | with_reducible exact hr | with_reducible refine Room.Spares.on ?_ | with_reducible refine Room.Spares.ite ?_ ?_

def Room.toSinkP : List RoomPart := [.cc, .pd, .conv]
theorem Room.toSink_spares {e : Env} {r r0 : Room} {j : RoomPart} (hP : RoomPart.Clear Room.toSinkP j)
    (hr : Room.Spares j r0 r) : Room.Spares j r0 (Room.toSink e r) := by
  unfold Room.toSink
  dsimp only
  repeat' first
    | with_reducible exact hr | with_reducible refine Room.enterA_spares (hP.of (by decide)) ?_
    | with_reducible refine Room.implicitVi_spares ?_ | with_reducible refine Room.keepVconn_spares ?_
    | with_reducible refine Room.loopOff_spares (hP.of (by decide)) ?_
    | with_reducible refine Room.Spares.onCc (hP.of (by decide)) ?_
    | with_reducible refine Room.Spares.onConv (hP.of (by decide)) ?_

def Room.replySentP : List RoomPart := [.cc, .pd, .con, .conv]
theorem Room.replySent_spares {e : Env} {m : TxMsg} {r r0 : Room} {j : RoomPart} (hP : RoomPart.Clear Room.replySentP j)
    (hr : Room.Spares j r0 r) : Room.Spares j r0 (Room.replySent e m r) := by
  unfold Room.replySent
  repeat' first
    | with_reducible exact hr | with_reducible refine Room.toSink_spares (hP.of (by decide)) ?_
    | with_reducible refine Room.toStep_spares (hP.of (by decide)) ?_ | with_reducible refine Room.Spares.put ?_
    | with_reducible refine Room.Spares.onCon (hP.of (by decide)) ?_ | split

def Room.ackedP : List RoomPart := [.cc, .pd, .con, .conv]
theorem Room.acked_spares {e : Env} {a : Air} {r r0 : Room} {j : RoomPart} (hP : RoomPart.Clear Room.ackedP j)
    (hr : Room.Spares j r0 r) : Room.Spares j r0 (Room.acked e a r) := by
  unfold Room.acked
  dsimp only
  repeat' first
    | with_reducible exact hr | with_reducible refine Room.coreSent_spares (hP.of (by decide)) ?_
    | with_reducible refine Room.replySent_spares (hP.of (by decide)) ?_
    | with_reducible refine Room.txEnd_spares (hP.of (by decide)) ?_ | with_reducible refine Room.Spares.put ?_
    | with_reducible refine Room.Spares.on ?_ | with_reducible refine Room.Spares.onPd (hP.of (by decide)) ?_
    | with_reducible refine Room.Spares.ite ?_ ?_ | split

theorem Room.putE48_spares {off : Nat} {v : Nat} {r r0 : Room} {j : RoomPart} (hr : Room.Spares j r0 r) :
    Room.Spares j r0 (Room.putE48 r off v) := by
  unfold Room.putE48
  repeat' first
    | with_reducible exact hr | with_reducible refine Room.Spares.regs ?_

def Room.addEnergyP : List RoomPart := [.eoutRem, .einRem]
theorem Room.addEnergy_spares {q : Int} {r r0 : Room} {j : RoomPart} (hP : RoomPart.Clear Room.addEnergyP j)
    (hr : Room.Spares j r0 r) : Room.Spares j r0 (Room.addEnergy q r) := by
  unfold Room.addEnergy
  dsimp only
  repeat' first
    | with_reducible exact hr | with_reducible refine Room.putE48_spares ?_
    | with_reducible refine Room.Spares.ite ?_ ?_
    | with_reducible refine Room.Spares.remainders (hP.of (by decide)) (hP.of (by decide)) ?_

theorem Room.showLevel_spares {e : Env} {r r0 : Room} {j : RoomPart} (hr : Room.Spares j r0 r) :
    Room.Spares j r0 (Room.showLevel e r) := by
  unfold Room.showLevel
  repeat' first
    | with_reducible exact hr | with_reducible refine Room.Spares.off ?_ | with_reducible refine Room.Spares.put ?_
    | split

theorem Room.showThr_spares {e : Env} {r r0 : Room} {j : RoomPart} (hr : Room.Spares j r0 r) :
    Room.Spares j r0 (Room.showThr e r) := by
  unfold Room.showThr
  dsimp only
  repeat' first
    | with_reducible exact hr | with_reducible refine Room.Spares.putB ?_ | with_reducible refine Room.Spares.put ?_

def Room.addHoldP : List RoomPart := [.conv]
theorem Room.addHold_spares {e : Env} {h : Hold} {r r0 : Room} {j : RoomPart} (hP : RoomPart.Clear Room.addHoldP j)
    (hr : Room.Spares j r0 r) : Room.Spares j r0 (Room.addHold e h r) := by
  unfold Room.addHold
  dsimp only
  repeat' first
    | with_reducible exact hr | with_reducible refine Room.showLevel_spares ?_
    | with_reducible refine Room.showThr_spares ?_ | with_reducible refine Room.Spares.onConv (hP.of (by decide)) ?_

def Room.retryClearP : List RoomPart := [.conv]
theorem Room.retryClear_spares {r r0 : Room} {j : RoomPart} (hP : RoomPart.Clear Room.retryClearP j)
    (hr : Room.Spares j r0 r) : Room.Spares j r0 (Room.retryClear r) := by
  unfold Room.retryClear
  repeat' first
    | with_reducible exact hr | with_reducible refine Room.Spares.off ?_
    | with_reducible refine Room.Spares.onConv (hP.of (by decide)) ?_

def Room.leaveSafeP : List RoomPart := [.cc, .pd, .con, .conv, .safe]
theorem Room.leaveSafe_spares {e : Env} {r r0 : Room} {j : RoomPart} (hP : RoomPart.Clear Room.leaveSafeP j)
    (hr : Room.Spares j r0 r) : Room.Spares j r0 (Room.leaveSafe e r) := by
  unfold Room.leaveSafe
  dsimp only
  repeat' first
    | with_reducible exact hr | with_reducible refine Room.conClear_spares (hP.of (by decide)) ?_
    | with_reducible refine Room.enterA_spares (hP.of (by decide)) ?_
    | with_reducible refine Room.pdClear_spares (hP.of (by decide)) ?_
    | with_reducible refine Room.retryClear_spares (hP.of (by decide)) ?_
    | with_reducible refine Room.setGrant_spares ?_ | with_reducible refine Room.Spares.on ?_
    | with_reducible refine Room.Spares.off ?_ | with_reducible refine Room.Spares.onConv (hP.of (by decide)) ?_
    | with_reducible refine Room.Spares.ite ?_ ?_ | with_reducible refine Room.Spares.safe (hP.of (by decide)) ?_

def Room.safeDetachP : List RoomPart := [.cc, .pd, .con, .conv, .safe]
theorem Room.safeDetach_spares {e : Env} {r r0 : Room} {j : RoomPart} (hP : RoomPart.Clear Room.safeDetachP j)
    (hr : Room.Spares j r0 r) : Room.Spares j r0 (Room.safeDetach e r) := by
  unfold Room.safeDetach
  dsimp only
  repeat' first
    | with_reducible exact hr | with_reducible refine Room.leaveSafe_spares (hP.of (by decide)) ?_
    | with_reducible refine Room.Spares.on ?_ | with_reducible refine Room.Spares.ite ?_ ?_

def Room.closeSwitchP : List RoomPart := [.conv]
theorem Room.closeSwitch_spares {e : Env} {r r0 : Room} {j : RoomPart} (hP : RoomPart.Clear Room.closeSwitchP j)
    (hr : Room.Spares j r0 r) : Room.Spares j r0 (Room.closeSwitch e r) := by
  unfold Room.closeSwitch
  dsimp only
  repeat' first
    | with_reducible exact hr | with_reducible refine Room.Spares.on ?_ | with_reducible refine Room.Spares.put ?_
    | with_reducible refine Room.Spares.off ?_ | with_reducible refine Room.Spares.onConv (hP.of (by decide)) ?_
    | with_reducible refine Room.Spares.ite ?_ ?_

def Room.attachSnkP : List RoomPart := [.cc, .pd, .con, .conv]
theorem Room.attachSnk_spares {e : Env} {r r0 : Room} {j : RoomPart} (hP : RoomPart.Clear Room.attachSnkP j)
    (hr : Room.Spares j r0 r) : Room.Spares j r0 (Room.attachSnk e r) := by
  unfold Room.attachSnk
  dsimp only
  repeat' first
    | with_reducible exact hr | with_reducible refine Room.closeSwitch_spares (hP.of (by decide)) ?_
    | with_reducible refine Room.enterA_spares (hP.of (by decide)) ?_
    | with_reducible refine Room.implicitVi_spares ?_
    | with_reducible refine Room.refreshVlim_spares (hP.of (by decide)) ?_ | with_reducible refine Room.Spares.on ?_
    | with_reducible refine Room.Spares.putB ?_ | with_reducible refine Room.Spares.off ?_
    | with_reducible refine Room.Spares.onCc (hP.of (by decide)) ?_
    | with_reducible refine Room.Spares.onConv (hP.of (by decide)) ?_
    | with_reducible refine Room.Spares.onPd (hP.of (by decide)) ?_

def Room.detachP : List RoomPart := [.cc, .pd, .con, .conv]
theorem Room.detach_spares {e : Env} {r r0 : Room} {j : RoomPart} (hP : RoomPart.Clear Room.detachP j)
    (hr : Room.Spares j r0 r) : Room.Spares j r0 (Room.detach e r) := by
  unfold Room.detach
  dsimp only
  repeat' first
    | with_reducible exact hr | with_reducible refine Room.conClear_spares (hP.of (by decide)) ?_
    | with_reducible refine Room.enterA_spares (hP.of (by decide)) ?_
    | with_reducible refine Room.pdClear_spares (hP.of (by decide)) ?_
    | with_reducible refine Room.startRemoval_spares (hP.of (by decide)) ?_ | with_reducible refine Room.Spares.on ?_
    | with_reducible refine Room.Spares.off ?_

def Room.takeExitP : List RoomPart := [.cc, .pd, .con, .conv]
theorem Room.takeExit_spares {e : Env} {x : Exit} {r r0 : Room} {j : RoomPart} (hP : RoomPart.Clear Room.takeExitP j)
    (hr : Room.Spares j r0 r) : Room.Spares j r0 (Room.takeExit e x r) := by
  unfold Room.takeExit
  dsimp only
  repeat' first
    | with_reducible exact hr | with_reducible refine Room.attachSnk_spares (hP.of (by decide)) ?_
    | with_reducible refine Room.detach_spares (hP.of (by decide)) ?_
    | with_reducible refine Room.enterA_spares (hP.of (by decide)) ?_ | with_reducible refine Room.Spares.on ?_
    | with_reducible refine Room.Spares.onCc (hP.of (by decide)) ?_ | with_reducible refine Room.Spares.ite ?_ ?_
    | split

def Room.advanceP : List RoomPart := [.cc, .pd, .con, .conv, .safe]
theorem Room.advance_spares {e : Env} {tags : List Tag} {r r0 : Room} {j : RoomPart} (hP : RoomPart.Clear Room.advanceP j)
    (hr : Room.Spares j r0 r) : Room.Spares j r0 (Room.advance e tags r) := by
  unfold Room.advance
  repeat' first
    | with_reducible exact hr | with_reducible refine Room.safeDetach_spares (hP.of (by decide)) ?_
    | with_reducible refine Room.takeExit_spares (hP.of (by decide)) ?_ | with_reducible refine Room.Spares.ite ?_ ?_
    | split

def Room.errorRecoveryP : List RoomPart := [.cc, .pd, .con, .conv]
theorem Room.errorRecovery_spares {e : Env} {r r0 : Room} {j : RoomPart} (hP : RoomPart.Clear Room.errorRecoveryP j)
    (hr : Room.Spares j r0 r) : Room.Spares j r0 (Room.errorRecovery e r) := by
  unfold Room.errorRecovery
  dsimp only
  repeat' first
    | with_reducible exact hr | with_reducible refine Room.conClear_spares (hP.of (by decide)) ?_
    | with_reducible refine Room.enterA_spares (hP.of (by decide)) ?_
    | with_reducible refine Room.pdClear_spares (hP.of (by decide)) ?_
    | with_reducible refine Room.startRemoval_spares (hP.of (by decide)) ?_ | with_reducible refine Room.Spares.on ?_
    | with_reducible refine Room.Spares.ite ?_ ?_

def Room.hardResetCauseP : List RoomPart := [.cc, .pd, .con, .conv]
theorem Room.hardResetCause_spares {e : Env} {r r0 : Room} {j : RoomPart} (hP : RoomPart.Clear Room.hardResetCauseP j)
    (hr : Room.Spares j r0 r) : Room.Spares j r0 (Room.hardResetCause e r) := by
  unfold Room.hardResetCause
  repeat' first
    | with_reducible exact hr | with_reducible refine Room.errorRecovery_spares (hP.of (by decide)) ?_
    | with_reducible refine Room.Spares.on ?_ | with_reducible refine Room.Spares.onPd (hP.of (by decide)) ?_
    | with_reducible refine Room.Spares.ite ?_ ?_

def Room.answeredP : List RoomPart := [.cc, .pd, .con, .conv]
theorem Room.answered_spares {e : Env} {av : Nat} {k : Pkt} {r r0 : Room} {j : RoomPart} (hP : RoomPart.Clear Room.answeredP j)
    (hr : Room.Spares j r0 r) : Room.Spares j r0 (Room.answered e av k r) := by
  unfold Room.answered
  dsimp only
  repeat' first
    | with_reducible exact hr | with_reducible refine Room.accepted_spares (hP.of (by decide)) ?_
    | with_reducible refine Room.hardResetCause_spares (hP.of (by decide)) ?_
    | with_reducible refine Room.toStep_spares (hP.of (by decide)) ?_
    | with_reducible refine Room.Spares.onCon (hP.of (by decide)) ?_
    | with_reducible refine Room.Spares.onPd (hP.of (by decide)) ?_ | with_reducible refine Room.Spares.ite ?_ ?_
    | split

theorem Room.shadowRp_spares {r r0 : Room} {j : RoomPart} (hr : Room.Spares j r0 r) :
    Room.Spares j r0 (Room.shadowRp r) := by
  unfold Room.shadowRp
  dsimp only
  repeat' first
    | with_reducible exact hr | with_reducible refine Room.Spares.put ?_

def Room.applyCcP : List RoomPart := [.cc]
theorem Room.applyCc_spares {w : Word} {r r0 : Room} {j : RoomPart} (hP : RoomPart.Clear Room.applyCcP j)
    (hr : Room.Spares j r0 r) : Room.Spares j r0 (Room.applyCc w r) := by
  unfold Room.applyCc
  dsimp only
  repeat' first
    | with_reducible exact hr | with_reducible refine Room.shadowRp_spares ?_
    | with_reducible refine Room.Spares.put ?_ | with_reducible refine Room.Spares.off ?_
    | with_reducible refine Room.Spares.onCc (hP.of (by decide)) ?_ | with_reducible refine Room.Spares.ite ?_ ?_

def Room.applyModeP : List RoomPart := [.cc, .pd, .con, .conv, .epoch]
theorem Room.applyMode_spares {e : Env} {m : Nat} {epoch : Nat} {r r0 : Room} {j : RoomPart} (hP : RoomPart.Clear Room.applyModeP j)
    (hr : Room.Spares j r0 r) : Room.Spares j r0 (Room.applyMode e m epoch r) := by
  unfold Room.applyMode
  dsimp only
  repeat' first
    | with_reducible exact hr | with_reducible refine Room.refreshIlim_spares ?_
    | with_reducible refine Room.shed_spares (hP.of (by decide)) ?_ | with_reducible refine Room.Spares.on ?_
    | with_reducible refine Room.Spares.put ?_ | with_reducible refine Room.Spares.onCon (hP.of (by decide)) ?_
    | with_reducible refine Room.Spares.ite ?_ ?_ | with_reducible refine Room.Spares.epoch (hP.of (by decide)) ?_

def Room.mirrorRetryP : List RoomPart := [.conv]
theorem Room.mirrorRetry_spares {now : Nat} {r r0 : Room} {j : RoomPart} (hP : RoomPart.Clear Room.mirrorRetryP j)
    (hr : Room.Spares j r0 r) : Room.Spares j r0 (Room.mirrorRetry now r) := by
  unfold Room.mirrorRetry
  repeat' first
    | with_reducible exact hr | with_reducible refine Room.Spares.onConv (hP.of (by decide)) ?_

def Room.mirrorSeqP : List RoomPart := [.cc, .con]
theorem Room.mirrorSeq_spares {now : Nat} {t : Nat} {was : Nat} {vconn : Bool} {r r0 : Room} {j : RoomPart} (hP : RoomPart.Clear Room.mirrorSeqP j)
    (hr : Room.Spares j r0 r) : Room.Spares j r0 (Room.mirrorSeq now t was vconn r) := by
  unfold Room.mirrorSeq
  dsimp only
  repeat' first
    | with_reducible exact hr | with_reducible refine Room.Spares.onCc (hP.of (by decide)) ?_
    | with_reducible refine Room.Spares.onCon (hP.of (by decide)) ?_

def Room.applyRoomP : List RoomPart := [.cc, .pd, .con, .conv, .safe, .slotHold]
theorem Room.applyRoom_spares {e : Env} {slotOn : Bool} {b : List Byte} {r r0 : Room} {j : RoomPart} (hP : RoomPart.Clear Room.applyRoomP j)
    (hr : Room.Spares j r0 r) : Room.Spares j r0 (Room.applyRoom e slotOn b r) := by
  unfold Room.applyRoom
  dsimp only
  repeat' first
    | with_reducible exact hr | with_reducible refine Room.applyCc_spares (hP.of (by decide)) ?_
    | with_reducible refine Room.mirrorRetry_spares (hP.of (by decide)) ?_
    | with_reducible refine Room.mirrorSeq_spares (hP.of (by decide)) ?_
    | with_reducible refine Room.refreshCable_spares (hP.of (by decide)) ?_
    | with_reducible refine Room.Spares.Regs ?_ | with_reducible refine Room.Spares.onCc (hP.of (by decide)) ?_
    | with_reducible refine Room.Spares.onCon (hP.of (by decide)) ?_
    | with_reducible refine Room.Spares.onPd (hP.of (by decide)) ?_ | with_reducible refine Room.Spares.ite ?_ ?_
    | with_reducible refine Room.Spares.holds (hP.of (by decide)) (hP.of (by decide)) ?_

def Room.armRetryP : List RoomPart := [.conv]
theorem Room.armRetry_spares {e : Env} {r r0 : Room} {j : RoomPart} (hP : RoomPart.Clear Room.armRetryP j)
    (hr : Room.Spares j r0 r) : Room.Spares j r0 (Room.armRetry e r) := by
  unfold Room.armRetry
  repeat' first
    | with_reducible exact hr | with_reducible refine Room.Spares.off ?_ | with_reducible refine Room.Spares.on ?_
    | with_reducible refine Room.Spares.onConv (hP.of (by decide)) ?_ | with_reducible refine Room.Spares.ite ?_ ?_

def Room.preBiasP : List RoomPart := [.conv]
theorem Room.preBias_spares {r r0 : Room} {j : RoomPart} (hP : RoomPart.Clear Room.preBiasP j)
    (hr : Room.Spares j r0 r) : Room.Spares j r0 (Room.preBias r) := by
  unfold Room.preBias
  dsimp only
  repeat' first
    | with_reducible exact hr | with_reducible refine Room.Spares.onConv (hP.of (by decide)) ?_

def Room.loopStartP : List RoomPart := [.conv]
theorem Room.loopStart_spares {e : Env} {r r0 : Room} {j : RoomPart} (hP : RoomPart.Clear Room.loopStartP j)
    (hr : Room.Spares j r0 r) : Room.Spares j r0 (Room.loopStart e r) := by
  unfold Room.loopStart
  dsimp only
  repeat' first
    | with_reducible exact hr | with_reducible refine Room.preBias_spares (hP.of (by decide)) ?_
    | with_reducible refine Room.refreshRamp_spares (hP.of (by decide)) ?_
    | with_reducible refine Room.setLoop_spares ?_ | with_reducible refine Room.setRate_spares (hP.of (by decide)) ?_
    | with_reducible refine Room.setRef_spares (hP.of (by decide)) ?_
    | with_reducible refine Room.Spares.onConv (hP.of (by decide)) ?_

def Room.attachSrcP : List RoomPart := [.cc, .pd, .con, .conv]
theorem Room.attachSrc_spares {e : Env} {rp : Nat} {r r0 : Room} {j : RoomPart} (hP : RoomPart.Clear Room.attachSrcP j)
    (hr : Room.Spares j r0 r) : Room.Spares j r0 (Room.attachSrc e rp r) := by
  unfold Room.attachSrc
  dsimp only
  repeat' first
    | with_reducible exact hr | with_reducible refine Room.closeSwitch_spares (hP.of (by decide)) ?_
    | with_reducible refine Room.enterA_spares (hP.of (by decide)) ?_
    | with_reducible refine Room.implicitVi_spares ?_
    | with_reducible refine Room.loopStart_spares (hP.of (by decide)) ?_
    | with_reducible refine Room.refreshVlim_spares (hP.of (by decide)) ?_ | with_reducible refine Room.Spares.on ?_
    | with_reducible refine Room.Spares.putB ?_ | with_reducible refine Room.Spares.put ?_
    | with_reducible refine Room.Spares.onCc (hP.of (by decide)) ?_
    | with_reducible refine Room.Spares.onPd (hP.of (by decide)) ?_

def Room.attachAnswerP : List RoomPart := [.cc, .pd, .con, .conv]
theorem Room.attachAnswer_spares {e : Env} {w : Nat} {r r0 : Room} {j : RoomPart} (hP : RoomPart.Clear Room.attachAnswerP j)
    (hr : Room.Spares j r0 r) : Room.Spares j r0 (Room.attachAnswer e w r) := by
  unfold Room.attachAnswer
  dsimp only
  repeat' first
    | with_reducible exact hr | with_reducible refine Room.attachSrc_spares (hP.of (by decide)) ?_
    | with_reducible refine Room.setGrant_spares ?_ | with_reducible refine Room.Spares.on ?_
    | with_reducible refine Room.Spares.onCc (hP.of (by decide)) ?_ | with_reducible refine Room.Spares.ite ?_ ?_

def Room.dropHoldsP : List RoomPart := [.conv]
theorem Room.dropHolds_spares {e : Env} {f : Hold → Bool} {r r0 : Room} {j : RoomPart} (hP : RoomPart.Clear Room.dropHoldsP j)
    (hr : Room.Spares j r0 r) : Room.Spares j r0 (Room.dropHolds e f r) := by
  unfold Room.dropHolds
  repeat' first
    | with_reducible exact hr | with_reducible refine Room.showThr_spares ?_
    | with_reducible refine Room.Spares.onConv (hP.of (by decide)) ?_

def Room.powerOnP : List RoomPart := [.conv]
theorem Room.powerOn_spares {e : Env} {r r0 : Room} {j : RoomPart} (hP : RoomPart.Clear Room.powerOnP j)
    (hr : Room.Spares j r0 r) : Room.Spares j r0 (Room.powerOn e r) := by
  unfold Room.powerOn
  repeat' first
    | with_reducible exact hr | with_reducible refine Room.closeSwitch_spares (hP.of (by decide)) ?_
    | with_reducible refine Room.loopStart_spares (hP.of (by decide)) ?_
    | with_reducible refine Room.setVset_spares ?_ | with_reducible refine Room.Spares.onConv (hP.of (by decide)) ?_
    | with_reducible refine Room.Spares.ite ?_ ?_

def Room.attemptP : List RoomPart := [.cc, .pd, .con, .conv]
theorem Room.attempt_spares {e : Env} {r r0 : Room} {j : RoomPart} (hP : RoomPart.Clear Room.attemptP j)
    (hr : Room.Spares j r0 r) : Room.Spares j r0 (Room.attempt e r) := by
  unfold Room.attempt
  dsimp only
  repeat' first
    | with_reducible exact hr | with_reducible refine Room.conClear_spares (hP.of (by decide)) ?_
    | with_reducible refine Room.discharge_spares (hP.of (by decide)) ?_
    | with_reducible refine Room.dropHolds_spares (hP.of (by decide)) ?_
    | with_reducible refine Room.loopOff_spares (hP.of (by decide)) ?_
    | with_reducible refine Room.openSwitch_spares (hP.of (by decide)) ?_
    | with_reducible refine Room.pdClear_spares (hP.of (by decide)) ?_
    | with_reducible refine Room.powerOn_spares (hP.of (by decide)) ?_ | with_reducible refine Room.Spares.off ?_
    | with_reducible refine Room.Spares.on ?_ | with_reducible refine Room.Spares.onConv (hP.of (by decide)) ?_
    | with_reducible refine Room.Spares.ite ?_ ?_

def Room.attemptFailP : List RoomPart := [.conv]
theorem Room.attemptFail_spares {e : Env} {r r0 : Room} {j : RoomPart} (hP : RoomPart.Clear Room.attemptFailP j)
    (hr : Room.Spares j r0 r) : Room.Spares j r0 (Room.attemptFail e r) := by
  unfold Room.attemptFail
  dsimp only
  repeat' first
    | with_reducible exact hr | with_reducible refine Room.Spares.put ?_ | with_reducible refine Room.Spares.off ?_
    | with_reducible refine Room.Spares.on ?_ | with_reducible refine Room.Spares.onConv (hP.of (by decide)) ?_
    | with_reducible refine Room.Spares.ite ?_ ?_

def Room.sayP : List RoomPart := [.pd]
theorem Room.say_spares {m : TxMsg} {r r0 : Room} {j : RoomPart} (hP : RoomPart.Clear Room.sayP j)
    (hr : Room.Spares j r0 r) : Room.Spares j r0 (Room.say m r) := by
  unfold Room.say
  repeat' first
    | with_reducible exact hr | with_reducible refine Room.Spares.onPd (hP.of (by decide)) ?_

def Room.autoSoftResetP : List RoomPart := [.pd]
theorem Room.autoSoftReset_spares {m : TxMsg} {r r0 : Room} {j : RoomPart} (hP : RoomPart.Clear Room.autoSoftResetP j)
    (hr : Room.Spares j r0 r) : Room.Spares j r0 (Room.autoSoftReset m r) := by
  unfold Room.autoSoftReset
  repeat' first
    | with_reducible exact hr | with_reducible refine Room.say_spares (hP.of (by decide)) ?_
    | with_reducible refine Room.Spares.ite ?_ ?_

def Room.noChunksP : List RoomPart := [.pd]
theorem Room.noChunks_spares {r r0 : Room} {j : RoomPart} (hP : RoomPart.Clear Room.noChunksP j)
    (hr : Room.Spares j r0 r) : Room.Spares j r0 (Room.noChunks r) := by
  unfold Room.noChunks
  repeat' first
    | with_reducible exact hr | with_reducible refine Room.Spares.onPd (hP.of (by decide)) ?_

def Room.txLostP : List RoomPart := [.pd, .con]
theorem Room.txLost_spares {code : Nat} {r r0 : Room} {j : RoomPart} (hP : RoomPart.Clear Room.txLostP j)
    (hr : Room.Spares j r0 r) : Room.Spares j r0 (Room.txLost code r) := by
  unfold Room.txLost
  dsimp only
  repeat' first
    | with_reducible exact hr | with_reducible refine Room.endResv_spares (hP.of (by decide)) ?_
    | with_reducible refine Room.txEnd_spares (hP.of (by decide)) ?_
    | with_reducible refine Room.Spares.onPd (hP.of (by decide)) ?_ | with_reducible refine Room.Spares.ite ?_ ?_

def Room.softClearP : List RoomPart := [.pd, .con]
theorem Room.softClear_spares {id : Option Nat} {r r0 : Room} {j : RoomPart} (hP : RoomPart.Clear Room.softClearP j)
    (hr : Room.Spares j r0 r) : Room.Spares j r0 (Room.softClear id r) := by
  unfold Room.softClear
  dsimp only
  repeat' first
    | with_reducible exact hr | with_reducible refine Room.noChunks_spares (hP.of (by decide)) ?_
    | with_reducible refine Room.txLost_spares (hP.of (by decide)) ?_
    | with_reducible refine Room.Spares.onPd (hP.of (by decide)) ?_ | with_reducible refine Room.Spares.ite ?_ ?_

def Room.beginP : List RoomPart := [.pd, .con]
theorem Room.begin_spares {m : TxMsg} {r r0 : Room} {j : RoomPart} (hP : RoomPart.Clear Room.beginP j)
    (hr : Room.Spares j r0 r) : Room.Spares j r0 (Room.begin m r) := by
  unfold Room.begin
  dsimp only
  repeat' first
    | with_reducible exact hr | with_reducible refine Room.softClear_spares (hP.of (by decide)) ?_
    | with_reducible refine Room.Spares.put ?_ | with_reducible refine Room.Spares.onPd (hP.of (by decide)) ?_
    | with_reducible refine Room.Spares.ite ?_ ?_

def Room.beginAutoP : List RoomPart := [.pd, .con]
theorem Room.beginAuto_spares {m : TxMsg} {r r0 : Room} {j : RoomPart} (hP : RoomPart.Clear Room.beginAutoP j)
    (hr : Room.Spares j r0 r) : Room.Spares j r0 (Room.beginAuto m r) := by
  unfold Room.beginAuto
  repeat' first
    | with_reducible exact hr | with_reducible refine Room.begin_spares (hP.of (by decide)) ?_
    | with_reducible refine Room.Spares.onPd (hP.of (by decide)) ?_

def Room.bistRxP : List RoomPart := [.pd]
theorem Room.bistRx_spares {e : Env} {k : Pkt} {r r0 : Room} {j : RoomPart} (hP : RoomPart.Clear Room.bistRxP j)
    (hr : Room.Spares j r0 r) : Room.Spares j r0 (Room.bistRx e k r) := by
  unfold Room.bistRx
  repeat' first
    | with_reducible exact hr | with_reducible refine Room.Spares.on ?_
    | with_reducible refine Room.Spares.onPd (hP.of (by decide)) ?_ | with_reducible refine Room.Spares.ite ?_ ?_
    | split

def Room.cableAnswerP : List RoomPart := [.pd, .con]
theorem Room.cableAnswer_spares {e : Env} {k : Pkt} {r r0 : Room} {j : RoomPart} (hP : RoomPart.Clear Room.cableAnswerP j)
    (hr : Room.Spares j r0 r) : Room.Spares j r0 (Room.cableAnswer e k r) := by
  unfold Room.cableAnswer
  dsimp only
  repeat' first
    | with_reducible exact hr | with_reducible refine Room.refreshCable_spares (hP.of (by decide)) ?_
    | with_reducible refine Room.Spares.on ?_ | with_reducible refine Room.Spares.put ?_
    | with_reducible refine Room.Spares.onPd (hP.of (by decide)) ?_ | with_reducible refine Room.Spares.ite ?_ ?_
    | split

def Room.cableResetP : List RoomPart := [.pd, .con]
theorem Room.cableReset_spares {e : Env} {r r0 : Room} {j : RoomPart} (hP : RoomPart.Clear Room.cableResetP j)
    (hr : Room.Spares j r0 r) : Room.Spares j r0 (Room.cableReset e r) := by
  unfold Room.cableReset
  dsimp only
  repeat' first
    | with_reducible exact hr | with_reducible refine Room.refreshCable_spares (hP.of (by decide)) ?_
    | with_reducible refine Room.Spares.off ?_ | with_reducible refine Room.Spares.onPd (hP.of (by decide)) ?_

def Room.cableDueP : List RoomPart := [.pd, .con]
theorem Room.cableDue_spares {e : Env} {r r0 : Room} {j : RoomPart} (hP : RoomPart.Clear Room.cableDueP j)
    (hr : Room.Spares j r0 r) : Room.Spares j r0 (Room.cableDue e r) := by
  unfold Room.cableDue
  repeat' first
    | with_reducible exact hr | with_reducible refine Room.cableReset_spares (hP.of (by decide)) ?_
    | with_reducible refine Room.Spares.onPd (hP.of (by decide)) ?_ | with_reducible refine Room.Spares.ite ?_ ?_

def Room.ccOverP : List RoomPart := [.cc]
theorem Room.ccOver_spares {now : Nat} {cc2 : Bool} {above : Bool} {r r0 : Room} {j : RoomPart} (hP : RoomPart.Clear Room.ccOverP j)
    (hr : Room.Spares j r0 r) : Room.Spares j r0 (Room.ccOver now cc2 above r) := by
  unfold Room.ccOver
  dsimp only
  repeat' first
    | with_reducible exact hr | with_reducible refine Room.Spares.putB ?_
    | with_reducible refine Room.Spares.onCc (hP.of (by decide)) ?_ | with_reducible refine Room.Spares.ite ?_ ?_

def Room.chunkRequestP : List RoomPart := [.pd]
theorem Room.chunkRequest_spares {k : Pkt} {r r0 : Room} {j : RoomPart} (hP : RoomPart.Clear Room.chunkRequestP j)
    (hr : Room.Spares j r0 r) : Room.Spares j r0 (Room.chunkRequest k r) := by
  unfold Room.chunkRequest
  repeat' first
    | with_reducible exact hr | with_reducible refine Room.txEnd_spares (hP.of (by decide)) ?_
    | with_reducible refine Room.Spares.on ?_ | with_reducible refine Room.Spares.onPd (hP.of (by decide)) ?_
    | with_reducible refine Room.Spares.ite ?_ ?_ | split

theorem Room.clampFilt_spares {o : Nat} {r r0 : Room} {j : RoomPart} (hr : Room.Spares j r0 r) :
    Room.Spares j r0 (Room.clampFilt o r) := by
  unfold Room.clampFilt
  dsimp only
  repeat' first
    | with_reducible exact hr | with_reducible refine Room.Spares.put ?_

def Room.computeForwardP : List RoomPart := [.conv]
theorem Room.computeForward_spares {e : Env} {isum : Int} {r r0 : Room} {j : RoomPart} (hP : RoomPart.Clear Room.computeForwardP j)
    (hr : Room.Spares j r0 r) : Room.Spares j r0 (Room.computeForward e isum r) := by
  unfold Room.computeForward
  dsimp only
  repeat' first
    | with_reducible exact hr | with_reducible refine Room.Spares.put ?_ | with_reducible refine Room.Spares.putB ?_
    | with_reducible refine Room.Spares.on ?_ | with_reducible refine Room.Spares.onConv (hP.of (by decide)) ?_
    | with_reducible refine Room.Spares.ite ?_ ?_

def Room.moveDrawP : List RoomPart := [.conv]
theorem Room.moveDraw_spares {e : Env} {r r0 : Room} {j : RoomPart} (hP : RoomPart.Clear Room.moveDrawP j)
    (hr : Room.Spares j r0 r) : Room.Spares j r0 (Room.moveDraw e r) := by
  unfold Room.moveDraw
  dsimp only
  repeat' first
    | with_reducible exact hr | with_reducible refine Room.Spares.onConv (hP.of (by decide)) ?_

def Room.computeReverseP : List RoomPart := [.conv]
theorem Room.computeReverse_spares {e : Env} {r r0 : Room} {j : RoomPart} (hP : RoomPart.Clear Room.computeReverseP j)
    (hr : Room.Spares j r0 r) : Room.Spares j r0 (Room.computeReverse e r) := by
  unfold Room.computeReverse
  dsimp only
  repeat' first
    | with_reducible exact hr | with_reducible refine Room.moveDraw_spares (hP.of (by decide)) ?_
    | with_reducible refine Room.Spares.put ?_ | with_reducible refine Room.Spares.onConv (hP.of (by decide)) ?_
    | with_reducible refine Room.Spares.ite ?_ ?_

def Room.sinkDoneP : List RoomPart := [.cc, .pd, .con, .conv]
theorem Room.sinkDone_spares {e : Env} {r r0 : Room} {j : RoomPart} (hP : RoomPart.Clear Room.sinkDoneP j)
    (hr : Room.Spares j r0 r) : Room.Spares j r0 (Room.sinkDone e r) := by
  unfold Room.sinkDone
  repeat' first
    | with_reducible exact hr | with_reducible refine Room.refreshIlim_spares ?_
    | with_reducible refine Room.setGrant_spares ?_
    | with_reducible refine Room.swapDone_spares (hP.of (by decide)) ?_

def Room.swapForwardP : List RoomPart := [.conv]
theorem Room.swapForward_spares {e : Env} {r r0 : Room} {j : RoomPart} (hP : RoomPart.Clear Room.swapForwardP j)
    (hr : Room.Spares j r0 r) : Room.Spares j r0 (Room.swapForward e r) := by
  unfold Room.swapForward
  repeat' first
    | with_reducible exact hr | with_reducible refine Room.loopStart_spares (hP.of (by decide)) ?_
    | with_reducible refine Room.Spares.onConv (hP.of (by decide)) ?_ | with_reducible refine Room.Spares.ite ?_ ?_

def Room.toSourceP : List RoomPart := [.cc, .pd]
theorem Room.toSource_spares {e : Env} {r r0 : Room} {j : RoomPart} (hP : RoomPart.Clear Room.toSourceP j)
    (hr : Room.Spares j r0 r) : Room.Spares j r0 (Room.toSource e r) := by
  unfold Room.toSource
  dsimp only
  repeat' first
    | with_reducible exact hr | with_reducible refine Room.enterA_spares (hP.of (by decide)) ?_
    | with_reducible refine Room.implicitVi_spares ?_ | with_reducible refine Room.keepVconn_spares ?_
    | with_reducible refine Room.Spares.put ?_ | with_reducible refine Room.Spares.onCc (hP.of (by decide)) ?_

def Room.psRdyReceivedP : List RoomPart := [.cc, .pd, .con, .conv]
theorem Room.psRdyReceived_spares {e : Env} {r r0 : Room} {j : RoomPart} (hP : RoomPart.Clear Room.psRdyReceivedP j)
    (hr : Room.Spares j r0 r) : Room.Spares j r0 (Room.psRdyReceived e r) := by
  unfold Room.psRdyReceived
  dsimp only
  repeat' first
    | with_reducible exact hr | with_reducible refine Room.endResv_spares (hP.of (by decide)) ?_
    | with_reducible refine Room.errorRecovery_spares (hP.of (by decide)) ?_
    | with_reducible refine Room.setGrant_spares ?_
    | with_reducible refine Room.sinkDone_spares (hP.of (by decide)) ?_
    | with_reducible refine Room.swapEnd_spares (hP.of (by decide)) ?_
    | with_reducible refine Room.swapForward_spares (hP.of (by decide)) ?_
    | with_reducible refine Room.toSource_spares (hP.of (by decide)) ?_
    | with_reducible refine Room.toStep_spares (hP.of (by decide)) ?_
    | with_reducible refine Room.transEnd_spares (hP.of (by decide)) ?_
    | with_reducible refine Room.vconn_spares (hP.of (by decide)) ?_ | with_reducible refine Room.Spares.off ?_
    | with_reducible refine Room.Spares.onCc (hP.of (by decide)) ?_
    | with_reducible refine Room.Spares.onCon (hP.of (by decide)) ?_ | with_reducible refine Room.Spares.ite ?_ ?_
    | split

def Room.coreEffectsP : List RoomPart := [.cc, .pd, .con, .conv]
theorem Room.coreEffects_spares {e : Env} {av : Nat} {k : Pkt} {r r0 : Room} {j : RoomPart} (hP : RoomPart.Clear Room.coreEffectsP j)
    (hr : Room.Spares j r0 r) : Room.Spares j r0 (Room.coreEffects e av k r) := by
  unfold Room.coreEffects
  repeat' first
    | with_reducible exact hr | with_reducible refine Room.answered_spares (hP.of (by decide)) ?_
    | with_reducible refine Room.eprMode_spares (hP.of (by decide)) ?_
    | with_reducible refine Room.psRdyReceived_spares (hP.of (by decide)) ?_
    | with_reducible refine Room.Spares.ite ?_ ?_

theorem Room.count_spares {f : Field} {r r0 : Room} {j : RoomPart} (hr : Room.Spares j r0 r) :
    Room.Spares j r0 (Room.count f r) := by
  unfold Room.count
  repeat' first
    | with_reducible exact hr | with_reducible refine Room.Spares.put ?_

def Room.cutToP : List RoomPart := [.cc, .pd, .con, .conv]
theorem Room.cutTo_spares {e : Env} {d : Nat} {r r0 : Room} {j : RoomPart} (hP : RoomPart.Clear Room.cutToP j)
    (hr : Room.Spares j r0 r) : Room.Spares j r0 (Room.cutTo e r d) := by
  unfold Room.cutTo
  dsimp only
  repeat' first
    | with_reducible exact hr | with_reducible refine Room.grantFell_spares (hP.of (by decide)) ?_
    | with_reducible refine Room.refreshIlim_spares ?_ | with_reducible refine Room.setGrant_spares ?_
    | with_reducible refine Room.Spares.put ?_ | with_reducible refine Room.Spares.onCon (hP.of (by decide)) ?_
    | with_reducible refine Room.Spares.ite ?_ ?_

def Room.dropPartialP : List RoomPart := [.pd]
theorem Room.dropPartial_spares {r r0 : Room} {j : RoomPart} (hP : RoomPart.Clear Room.dropPartialP j)
    (hr : Room.Spares j r0 r) : Room.Spares j r0 (Room.dropPartial r) := by
  unfold Room.dropPartial
  repeat' first
    | with_reducible exact hr | with_reducible refine Room.Spares.on ?_
    | with_reducible refine Room.Spares.onPd (hP.of (by decide)) ?_

theorem Room.showRx_spares {r r0 : Room} {j : RoomPart} (hr : Room.Spares j r0 r) :
    Room.Spares j r0 (Room.showRx r) := by
  unfold Room.showRx
  dsimp only
  repeat' first
    | with_reducible exact hr | with_reducible refine Room.clearRx_spares ?_ | with_reducible refine Room.Spares.on ?_
    | with_reducible refine Room.Spares.putB ?_ | with_reducible refine Room.Spares.put ?_
    | with_reducible refine Room.Spares.ite ?_ ?_ | split | with_reducible refine Room.Spares.regs ?_

def Room.enqueueP : List RoomPart := [.pd, .data]
theorem Room.enqueue_spares {k : Pkt} {data : List Byte} {r r0 : Room} {j : RoomPart} (hP : RoomPart.Clear Room.enqueueP j)
    (hr : Room.Spares j r0 r) : Room.Spares j r0 (Room.enqueue k data r) := by
  unfold Room.enqueue
  dsimp only
  repeat' first
    | with_reducible exact hr | with_reducible refine Room.showRx_spares ?_ | with_reducible refine Room.Spares.on ?_
    | with_reducible refine Room.Spares.onPd (hP.of (by decide)) ?_ | with_reducible refine Room.Spares.ite ?_ ?_
    | with_reducible refine Room.Spares.data (hP.of (by decide)) ?_

def Room.softResetP : List RoomPart := [.pd, .con, .data]
theorem Room.softReset_spares {e : Env} {k : Pkt} {r r0 : Room} {j : RoomPart} (hP : RoomPart.Clear Room.softResetP j)
    (hr : Room.Spares j r0 r) : Room.Spares j r0 (Room.softReset e k r) := by
  unfold Room.softReset
  dsimp only
  repeat' first
    | with_reducible exact hr | with_reducible refine Room.enqueue_spares (hP.of (by decide)) ?_
    | with_reducible refine Room.say_spares (hP.of (by decide)) ?_
    | with_reducible refine Room.sinkTxOk_spares (hP.of (by decide)) ?_
    | with_reducible refine Room.softClear_spares (hP.of (by decide)) ?_
    | with_reducible refine Room.txLost_spares (hP.of (by decide)) ?_ | with_reducible refine Room.Spares.on ?_
    | with_reducible refine Room.Spares.ite ?_ ?_

def Room.toCoreP : List RoomPart := [.cc, .pd, .con, .conv, .data]
theorem Room.toCore_spares {e : Env} {av : Nat} {k : Pkt} {data : List Byte} {r r0 : Room} {j : RoomPart} (hP : RoomPart.Clear Room.toCoreP j)
    (hr : Room.Spares j r0 r) : Room.Spares j r0 (Room.toCore e av k data r) := by
  unfold Room.toCore
  dsimp only
  repeat' first
    | with_reducible exact hr | with_reducible refine Room.coreEffects_spares (hP.of (by decide)) ?_
    | with_reducible refine Room.enqueue_spares (hP.of (by decide)) ?_
    | with_reducible refine Room.Spares.onPd (hP.of (by decide)) ?_ | with_reducible refine Room.Spares.ite ?_ ?_

def Room.handleP : List RoomPart := [.cc, .pd, .con, .conv, .data]
theorem Room.handle_spares {e : Env} {av : Nat} {k : Pkt} {r r0 : Room} {j : RoomPart} (hP : RoomPart.Clear Room.handleP j)
    (hr : Room.Spares j r0 r) : Room.Spares j r0 (Room.handle e av k r) := by
  unfold Room.handle
  repeat' first
    | with_reducible exact hr | with_reducible refine Room.bistRx_spares (hP.of (by decide)) ?_
    | with_reducible refine Room.hardResetCause_spares (hP.of (by decide)) ?_
    | with_reducible refine Room.say_spares (hP.of (by decide)) ?_ | with_reducible refine Room.showRx_spares ?_
    | with_reducible refine Room.softReset_spares (hP.of (by decide)) ?_
    | with_reducible refine Room.toCore_spares (hP.of (by decide)) ?_ | with_reducible refine Room.Spares.on ?_
    | with_reducible refine Room.Spares.onPd (hP.of (by decide)) ?_ | with_reducible refine Room.Spares.ite ?_ ?_
    | split

theorem Room.holdTx_spares {r r0 : Room} {j : RoomPart} (hr : Room.Spares j r0 r) :
    Room.Spares j r0 (Room.holdTx r) := by
  unfold Room.holdTx
  dsimp only
  repeat' first
    | with_reducible exact hr | with_reducible refine Room.Spares.on ?_ | with_reducible refine Room.Spares.put ?_
    | with_reducible refine Room.Spares.ite ?_ ?_

def Room.nextChunkP : List RoomPart := [.cc, .pd, .con, .conv, .data]
theorem Room.nextChunk_spares {e : Env} {av : Nat} {c : ChunkRx} {k : Pkt} {r r0 : Room} {j : RoomPart} (hP : RoomPart.Clear Room.nextChunkP j)
    (hr : Room.Spares j r0 r) : Room.Spares j r0 (Room.nextChunk e av c k r) := by
  unfold Room.nextChunk
  dsimp only
  repeat' first
    | with_reducible exact hr | with_reducible refine Room.say_spares (hP.of (by decide)) ?_
    | with_reducible refine Room.toCore_spares (hP.of (by decide)) ?_
    | with_reducible refine Room.Spares.onPd (hP.of (by decide)) ?_ | with_reducible refine Room.Spares.ite ?_ ?_

theorem Room.setRev_spares {k : Pkt} {r r0 : Room} {j : RoomPart} (hr : Room.Spares j r0 r) :
    Room.Spares j r0 (Room.setRev k r) := by
  unfold Room.setRev
  dsimp only
  repeat' first
    | with_reducible exact hr | with_reducible refine Room.Spares.put ?_ | with_reducible refine Room.Spares.on ?_
    | with_reducible refine Room.Spares.ite ?_ ?_

def Room.deliverP : List RoomPart := [.cc, .pd, .con, .conv, .data]
theorem Room.deliver_spares {e : Env} {av : Nat} {k : Pkt} {r r0 : Room} {j : RoomPart} (hP : RoomPart.Clear Room.deliverP j)
    (hr : Room.Spares j r0 r) : Room.Spares j r0 (Room.deliver e av k r) := by
  unfold Room.deliver
  dsimp only
  repeat' first
    | with_reducible exact hr | with_reducible refine Room.cableAnswer_spares (hP.of (by decide)) ?_
    | with_reducible refine Room.cableDue_spares (hP.of (by decide)) ?_
    | with_reducible refine Room.chunkRequest_spares (hP.of (by decide)) ?_
    | with_reducible refine Room.count_spares ?_
    | with_reducible refine Room.dropPartial_spares (hP.of (by decide)) ?_
    | with_reducible refine Room.handle_spares (hP.of (by decide)) ?_ | with_reducible refine Room.holdTx_spares ?_
    | with_reducible refine Room.nextChunk_spares (hP.of (by decide)) ?_ | with_reducible refine Room.setRev_spares ?_
    | with_reducible refine Room.Spares.onPd (hP.of (by decide)) ?_ | with_reducible refine Room.Spares.ite ?_ ?_
    | split

def Room.disableP : List RoomPart := [.cc, .pd, .con, .conv]
theorem Room.disable_spares {e : Env} {r r0 : Room} {j : RoomPart} (hP : RoomPart.Clear Room.disableP j)
    (hr : Room.Spares j r0 r) : Room.Spares j r0 (Room.disable e r) := by
  unfold Room.disable
  dsimp only
  repeat' first
    | with_reducible exact hr | with_reducible refine Room.conClear_spares (hP.of (by decide)) ?_
    | with_reducible refine Room.enterA_spares (hP.of (by decide)) ?_
    | with_reducible refine Room.loopOff_spares (hP.of (by decide)) ?_
    | with_reducible refine Room.openSwitch_spares (hP.of (by decide)) ?_
    | with_reducible refine Room.pdClear_spares (hP.of (by decide)) ?_ | with_reducible refine Room.setGrant_spares ?_
    | with_reducible refine Room.startRemoval_spares (hP.of (by decide)) ?_ | with_reducible refine Room.Spares.off ?_
    | with_reducible refine Room.Spares.ite ?_ ?_

def Room.discardP : List RoomPart := [.pd]
theorem Room.discard_spares {e : Env} {f : Field} {r r0 : Room} {j : RoomPart} (hP : RoomPart.Clear Room.discardP j)
    (hr : Room.Spares j r0 r) : Room.Spares j r0 (Room.discard e f r) := by
  unfold Room.discard
  repeat' first
    | with_reducible exact hr | with_reducible refine Room.count_spares ?_
    | with_reducible refine Room.Spares.onPd (hP.of (by decide)) ?_

def Room.discoverP : List RoomPart := [.pd, .con]
theorem Room.discover_spares {e : Env} {tries : Nat} {r r0 : Room} {j : RoomPart} (hP : RoomPart.Clear Room.discoverP j)
    (hr : Room.Spares j r0 r) : Room.Spares j r0 (Room.discover e tries r) := by
  unfold Room.discover
  repeat' first
    | with_reducible exact hr | with_reducible refine Room.refreshCable_spares (hP.of (by decide)) ?_
    | with_reducible refine Room.say_spares (hP.of (by decide)) ?_ | with_reducible refine Room.Spares.put ?_
    | with_reducible refine Room.Spares.onPd (hP.of (by decide)) ?_

def Room.enableP : List RoomPart := [.cc, .pd]
theorem Room.enable_spares {e : Env} {r r0 : Room} {j : RoomPart} (hP : RoomPart.Clear Room.enableP j)
    (hr : Room.Spares j r0 r) : Room.Spares j r0 (Room.enable e r) := by
  unfold Room.enable
  dsimp only
  repeat' first
    | with_reducible exact hr | with_reducible refine Room.enterA_spares (hP.of (by decide)) ?_
    | with_reducible refine Room.Spares.on ?_ | with_reducible refine Room.Spares.ite ?_ ?_

def Room.sinkSwitchP : List RoomPart := [.conv]
theorem Room.sinkSwitch_spares {e : Env} {r r0 : Room} {j : RoomPart} (hP : RoomPart.Clear Room.sinkSwitchP j)
    (hr : Room.Spares j r0 r) : Room.Spares j r0 (Room.sinkSwitch e r) := by
  unfold Room.sinkSwitch
  repeat' first
    | with_reducible exact hr | with_reducible refine Room.closeSwitch_spares (hP.of (by decide)) ?_
    | with_reducible refine Room.loopOff_spares (hP.of (by decide)) ?_
    | with_reducible refine Room.openSwitch_spares (hP.of (by decide)) ?_
    | with_reducible refine Room.Spares.onConv (hP.of (by decide)) ?_ | with_reducible refine Room.Spares.ite ?_ ?_

def Room.endHrP : List RoomPart := [.cc, .con, .conv]
theorem Room.endHr_spares {e : Env} {r r0 : Room} {j : RoomPart} (hP : RoomPart.Clear Room.endHrP j)
    (hr : Room.Spares j r0 r) : Room.Spares j r0 (Room.endHr e r) := by
  unfold Room.endHr
  repeat' first
    | with_reducible exact hr | with_reducible refine Room.lostResume_spares (hP.of (by decide)) ?_
    | with_reducible refine Room.sinkSwitch_spares (hP.of (by decide)) ?_
    | with_reducible refine Room.vsetRest_spares (hP.of (by decide)) ?_ | with_reducible refine Room.Spares.off ?_

theorem Room.fault_spares {f : Field} {r r0 : Room} {j : RoomPart} (hr : Room.Spares j r0 r) :
    Room.Spares j r0 (Room.fault r f) := by
  unfold Room.fault
  repeat' first
    | with_reducible exact hr | with_reducible refine Room.Spares.on ?_

theorem Room.midRail_spares {r r0 : Room} {j : RoomPart} (hr : Room.Spares j r0 r) :
    Room.Spares j r0 (Room.midRail r) := by
  unfold Room.midRail
  repeat' first
    | with_reducible exact hr | with_reducible refine Room.Spares.off ?_ | with_reducible refine Room.Spares.put ?_

def Room.outputsOffP : List RoomPart := [.cc, .pd, .conv]
theorem Room.outputsOff_spares {e : Env} {r r0 : Room} {j : RoomPart} (hP : RoomPart.Clear Room.outputsOffP j)
    (hr : Room.Spares j r0 r) : Room.Spares j r0 (Room.outputsOff e r) := by
  unfold Room.outputsOff
  repeat' first
    | with_reducible exact hr | with_reducible refine Room.loopOff_spares (hP.of (by decide)) ?_
    | with_reducible refine Room.midRail_spares ?_
    | with_reducible refine Room.openSwitch_spares (hP.of (by decide)) ?_
    | with_reducible refine Room.refreshIlim_spares ?_
    | with_reducible refine Room.vconn_spares (hP.of (by decide)) ?_

def Room.enterSafeP : List RoomPart := [.cc, .pd, .conv, .safe]
theorem Room.enterSafe_spares {e : Env} {f : Field} {retry : Bool} {r r0 : Room} {j : RoomPart} (hP : RoomPart.Clear Room.enterSafeP j)
    (hr : Room.Spares j r0 r) : Room.Spares j r0 (Room.enterSafe e r f retry) := by
  unfold Room.enterSafe
  dsimp only
  repeat' first
    | with_reducible exact hr | with_reducible refine Room.armRetry_spares (hP.of (by decide)) ?_
    | with_reducible refine Room.attemptFail_spares (hP.of (by decide)) ?_
    | with_reducible refine Room.fault_spares ?_ | with_reducible refine Room.outputsOff_spares (hP.of (by decide)) ?_
    | with_reducible refine Room.Spares.on ?_ | with_reducible refine Room.Spares.off ?_
    | with_reducible refine Room.Spares.onCc (hP.of (by decide)) ?_
    | with_reducible refine Room.Spares.onConv (hP.of (by decide)) ?_ | with_reducible refine Room.Spares.ite ?_ ?_
    | with_reducible refine Room.Spares.safe (hP.of (by decide)) ?_

def Room.enterSlotHoldP : List RoomPart := [.cc, .pd, .con, .conv, .slotHold]
theorem Room.enterSlotHold_spares {e : Env} {r r0 : Room} {j : RoomPart} (hP : RoomPart.Clear Room.enterSlotHoldP j)
    (hr : Room.Spares j r0 r) : Room.Spares j r0 (Room.enterSlotHold e r) := by
  unfold Room.enterSlotHold
  dsimp only
  repeat' first
    | with_reducible exact hr | with_reducible refine Room.conClear_spares (hP.of (by decide)) ?_
    | with_reducible refine Room.enterA_spares (hP.of (by decide)) ?_
    | with_reducible refine Room.outputsOff_spares (hP.of (by decide)) ?_
    | with_reducible refine Room.pdClear_spares (hP.of (by decide)) ?_ | with_reducible refine Room.setGrant_spares ?_
    | with_reducible refine Room.Spares.on ?_ | with_reducible refine Room.Spares.ite ?_ ?_
    | with_reducible refine Room.Spares.slotHold (hP.of (by decide)) ?_

def Room.failedP : List RoomPart := [.cc, .pd, .con, .conv]
theorem Room.failed_spares {e : Env} {m : TxMsg} {r r0 : Room} {j : RoomPart} (hP : RoomPart.Clear Room.failedP j)
    (hr : Room.Spares j r0 r) : Room.Spares j r0 (Room.failed e m r) := by
  unfold Room.failed
  dsimp only
  repeat' first
    | with_reducible exact hr | with_reducible refine Room.autoSoftReset_spares (hP.of (by decide)) ?_
    | with_reducible refine Room.dropPartial_spares (hP.of (by decide)) ?_
    | with_reducible refine Room.hardResetCause_spares (hP.of (by decide)) ?_
    | with_reducible refine Room.txLost_spares (hP.of (by decide)) ?_ | with_reducible refine Room.Spares.on ?_
    | with_reducible refine Room.Spares.put ?_ | with_reducible refine Room.Spares.onPd (hP.of (by decide)) ?_
    | with_reducible refine Room.Spares.ite ?_ ?_ | split

def Room.fallBackP : List RoomPart := [.cc, .pd, .con, .conv]
theorem Room.fallBack_spares {e : Env} {r r0 : Room} {j : RoomPart} (hP : RoomPart.Clear Room.fallBackP j)
    (hr : Room.Spares j r0 r) : Room.Spares j r0 (Room.fallBack e r) := by
  unfold Room.fallBack
  dsimp only
  repeat' first
    | with_reducible exact hr | with_reducible refine Room.hardResetCause_spares (hP.of (by decide)) ?_
    | with_reducible refine Room.refreshIlim_spares ?_
    | with_reducible refine Room.Spares.onCon (hP.of (by decide)) ?_ | with_reducible refine Room.Spares.ite ?_ ?_

def Room.fallThrP : List RoomPart := [.conv]
theorem Room.fallThr_spares {r r0 : Room} {j : RoomPart} (hP : RoomPart.Clear Room.fallThrP j)
    (hr : Room.Spares j r0 r) : Room.Spares j r0 (Room.fallThr r) := by
  unfold Room.fallThr
  dsimp only
  repeat' first
    | with_reducible exact hr | with_reducible refine Room.Spares.put ?_
    | with_reducible refine Room.Spares.onConv (hP.of (by decide)) ?_ | with_reducible refine Room.Spares.ite ?_ ?_
    | with_reducible refine Room.Spares.foldl (fun _ _ hr => ?_) ?_

def Room.foldPeriodP : List RoomPart := [.conv]
theorem Room.foldPeriod_spares {e : Env} {r r0 : Room} {j : RoomPart} (hP : RoomPart.Clear Room.foldPeriodP j)
    (hr : Room.Spares j r0 r) : Room.Spares j r0 (Room.foldPeriod e r) := by
  unfold Room.foldPeriod
  dsimp only
  repeat' first
    | with_reducible exact hr | with_reducible refine Room.Spares.onConv (hP.of (by decide)) ?_
    | with_reducible refine Room.Spares.ite ?_ ?_

def Room.followVdmP : List RoomPart := [.pd]
theorem Room.followVdm_spares {e : Env} {r r0 : Room} {j : RoomPart} (hP : RoomPart.Clear Room.followVdmP j)
    (hr : Room.Spares j r0 r) : Room.Spares j r0 (Room.followVdm e r) := by
  unfold Room.followVdm
  repeat' first
    | with_reducible exact hr | with_reducible refine Room.sinkTxNg_spares (hP.of (by decide)) ?_
    | with_reducible refine Room.Spares.ite ?_ ?_

def Room.forceSafeP : List RoomPart := [.cc, .pd, .conv]
theorem Room.forceSafe_spares {e : Env} {r r0 : Room} {j : RoomPart} (hP : RoomPart.Clear Room.forceSafeP j)
    (hr : Room.Spares j r0 r) : Room.Spares j r0 (Room.forceSafe e r) := by
  unfold Room.forceSafe
  dsimp only
  repeat' first
    | with_reducible exact hr | with_reducible refine Room.outputsOff_spares (hP.of (by decide)) ?_
    | with_reducible refine Room.Spares.on ?_ | with_reducible refine Room.Spares.off ?_
    | with_reducible refine Room.Spares.onCc (hP.of (by decide)) ?_
    | with_reducible refine Room.Spares.onConv (hP.of (by decide)) ?_ | with_reducible refine Room.Spares.ite ?_ ?_

def Room.frsAnswerP : List RoomPart := [.cc, .pd, .con]
theorem Room.frsAnswer_spares {e : Env} {r r0 : Room} {j : RoomPart} (hP : RoomPart.Clear Room.frsAnswerP j)
    (hr : Room.Spares j r0 r) : Room.Spares j r0 (Room.frsAnswer e r) := by
  unfold Room.frsAnswer
  dsimp only
  repeat' first
    | with_reducible exact hr | with_reducible refine Room.endResv_spares (hP.of (by decide)) ?_
    | with_reducible refine Room.lostResume_spares (hP.of (by decide)) ?_
    | with_reducible refine Room.refreshIlim_spares ?_ | with_reducible refine Room.setGrant_spares ?_
    | with_reducible refine Room.toStep_spares (hP.of (by decide)) ?_
    | with_reducible refine Room.Spares.onCon (hP.of (by decide)) ?_
    | with_reducible refine Room.Spares.onPd (hP.of (by decide)) ?_ | with_reducible refine Room.Spares.ite ?_ ?_

def Room.frsStartP : List RoomPart := [.conv]
theorem Room.frsStart_spares {e : Env} {r r0 : Room} {j : RoomPart} (hP : RoomPart.Clear Room.frsStartP j)
    (hr : Room.Spares j r0 r) : Room.Spares j r0 (Room.frsStart e r) := by
  unfold Room.frsStart
  dsimp only
  repeat' first
    | with_reducible exact hr | with_reducible refine Room.preBias_spares (hP.of (by decide)) ?_
    | with_reducible refine Room.refreshRamp_spares (hP.of (by decide)) ?_
    | with_reducible refine Room.setLoop_spares ?_ | with_reducible refine Room.setRef_spares (hP.of (by decide)) ?_
    | with_reducible refine Room.slewRate_spares (hP.of (by decide)) ?_ | with_reducible refine Room.Spares.put ?_
    | with_reducible refine Room.Spares.onConv (hP.of (by decide)) ?_

def Room.frsTriggerP : List RoomPart := [.cc, .con, .conv]
theorem Room.frsTrigger_spares {e : Env} {r r0 : Room} {j : RoomPart} (hP : RoomPart.Clear Room.frsTriggerP j)
    (hr : Room.Spares j r0 r) : Room.Spares j r0 (Room.frsTrigger e r) := by
  unfold Room.frsTrigger
  dsimp only
  repeat' first
    | with_reducible exact hr | with_reducible refine Room.loopOff_spares (hP.of (by decide)) ?_
    | with_reducible refine Room.midRail_spares ?_ | with_reducible refine Room.toStep_spares (hP.of (by decide)) ?_
    | with_reducible refine Room.Spares.put ?_ | with_reducible refine Room.Spares.off ?_
    | with_reducible refine Room.Spares.on ?_ | with_reducible refine Room.Spares.onCc (hP.of (by decide)) ?_
    | with_reducible refine Room.Spares.onCon (hP.of (by decide)) ?_

def Room.goodCrcP : List RoomPart := [.cc, .pd, .con, .conv]
theorem Room.goodCrc_spares {e : Env} {sop : Nat} {id : Nat} {r r0 : Room} {j : RoomPart} (hP : RoomPart.Clear Room.goodCrcP j)
    (hr : Room.Spares j r0 r) : Room.Spares j r0 (Room.goodCrc e sop id r) := by
  unfold Room.goodCrc
  repeat' first
    | with_reducible exact hr | with_reducible refine Room.acked_spares (hP.of (by decide)) ?_
    | with_reducible refine Room.Spares.ite ?_ ?_ | split

def Room.startHrP : List RoomPart := [.cc, .pd, .con, .conv]
theorem Room.startHr_spares {e : Env} {r r0 : Room} {j : RoomPart} (hP : RoomPart.Clear Room.startHrP j)
    (hr : Room.Spares j r0 r) : Room.Spares j r0 (Room.startHr e r) := by
  unfold Room.startHr
  dsimp only
  repeat' first
    | with_reducible exact hr | with_reducible refine Room.endExplicit_spares (hP.of (by decide)) ?_
    | with_reducible refine Room.endResv_spares (hP.of (by decide)) ?_
    | with_reducible refine Room.errorRecovery_spares (hP.of (by decide)) ?_
    | with_reducible refine Room.loopOff_spares (hP.of (by decide)) ?_
    | with_reducible refine Room.openSwitch_spares (hP.of (by decide)) ?_
    | with_reducible refine Room.pdReset_spares (hP.of (by decide)) ?_
    | with_reducible refine Room.refreshIlim_spares ?_
    | with_reducible refine Room.refreshVlim_spares (hP.of (by decide)) ?_
    | with_reducible refine Room.setGrant_spares ?_ | with_reducible refine Room.toStep_spares (hP.of (by decide)) ?_
    | with_reducible refine Room.txAbort_spares (hP.of (by decide)) ?_ | with_reducible refine Room.Spares.on ?_
    | with_reducible refine Room.Spares.off ?_ | with_reducible refine Room.Spares.onCc (hP.of (by decide)) ?_
    | with_reducible refine Room.Spares.onCon (hP.of (by decide)) ?_
    | with_reducible refine Room.Spares.onPd (hP.of (by decide)) ?_ | with_reducible refine Room.Spares.ite ?_ ?_

def Room.hardSignalP : List RoomPart := [.cc, .pd, .con, .conv]
theorem Room.hardSignal_spares {e : Env} {r r0 : Room} {j : RoomPart} (hP : RoomPart.Clear Room.hardSignalP j)
    (hr : Room.Spares j r0 r) : Room.Spares j r0 (Room.hardSignal e r) := by
  unfold Room.hardSignal
  repeat' first
    | with_reducible exact hr | with_reducible refine Room.pdReset_spares (hP.of (by decide)) ?_
    | with_reducible refine Room.startHr_spares (hP.of (by decide)) ?_ | with_reducible refine Room.Spares.on ?_
    | with_reducible refine Room.Spares.ite ?_ ?_

def Room.heardP : List RoomPart := [.pd]
theorem Room.heard_spares {e : Env} {sop : Nat} {r r0 : Room} {j : RoomPart} (hP : RoomPart.Clear Room.heardP j)
    (hr : Room.Spares j r0 r) : Room.Spares j r0 (Room.heard e sop r) := by
  unfold Room.heard
  repeat' first
    | with_reducible exact hr | with_reducible refine Room.Spares.onPd (hP.of (by decide)) ?_

theorem Room.hrCounted_spares {r r0 : Room} {j : RoomPart} (hr : Room.Spares j r0 r) :
    Room.Spares j r0 (Room.hrCounted r) := by
  unfold Room.hrCounted
  repeat' first
    | with_reducible exact hr | with_reducible refine Room.Spares.put ?_

def Room.judgeP : List RoomPart := [.con, .conv]
theorem Room.judge_spares {e : Env} {r r0 : Room} {j : RoomPart} (hP : RoomPart.Clear Room.judgeP j)
    (hr : Room.Spares j r0 r) : Room.Spares j r0 (Room.judge e r) := by
  unfold Room.judge
  dsimp only
  repeat' first
    | with_reducible exact hr | with_reducible refine Room.Spares.off ?_
    | with_reducible refine Room.Spares.onCon (hP.of (by decide)) ?_
    | with_reducible refine Room.Spares.onConv (hP.of (by decide)) ?_ | with_reducible refine Room.Spares.ite ?_ ?_

def Room.latchP : List RoomPart := [.conv]
theorem Room.latch_spares {k : Nat} {neg : Bool} {r r0 : Room} {j : RoomPart} (hP : RoomPart.Clear Room.latchP j)
    (hr : Room.Spares j r0 r) : Room.Spares j r0 (Room.latch k neg r) := by
  unfold Room.latch
  dsimp only
  repeat' first
    | with_reducible exact hr | with_reducible refine Room.Spares.put ?_ | with_reducible refine Room.Spares.on ?_
    | with_reducible refine Room.Spares.onConv (hP.of (by decide)) ?_ | with_reducible refine Room.Spares.ite ?_ ?_
    | split

def Room.restartP : List RoomPart := [.cc, .pd]
theorem Room.restart_spares {e : Env} {r r0 : Room} {j : RoomPart} (hP : RoomPart.Clear Room.restartP j)
    (hr : Room.Spares j r0 r) : Room.Spares j r0 (Room.restart e r) := by
  unfold Room.restart
  dsimp only
  repeat' first
    | with_reducible exact hr | with_reducible refine Room.enterA_spares (hP.of (by decide)) ?_
    | with_reducible refine Room.enterState_spares (hP.of (by decide)) ?_
    | with_reducible refine Room.refreshPartner_spares ?_ | with_reducible refine Room.Spares.put ?_
    | with_reducible refine Room.Spares.onCc (hP.of (by decide)) ?_ | with_reducible refine Room.Spares.ite ?_ ?_
    | split

def Room.leaveSlotHoldP : List RoomPart := [.cc, .pd, .slotHold]
theorem Room.leaveSlotHold_spares {e : Env} {r r0 : Room} {j : RoomPart} (hP : RoomPart.Clear Room.leaveSlotHoldP j)
    (hr : Room.Spares j r0 r) : Room.Spares j r0 (Room.leaveSlotHold e r) := by
  unfold Room.leaveSlotHold
  dsimp only
  repeat' first
    | with_reducible exact hr | with_reducible refine Room.restart_spares (hP.of (by decide)) ?_
    | with_reducible refine Room.terms_spares (hP.of (by decide)) ?_ | with_reducible refine Room.Spares.ite ?_ ?_
    | with_reducible refine Room.Spares.slotHold (hP.of (by decide)) ?_

theorem Room.levels_spares {e : Env} {r r0 : Room} {j : RoomPart} (hr : Room.Spares j r0 r) :
    Room.Spares j r0 (Room.levels e r) := by
  unfold Room.levels
  dsimp only
  repeat' first
    | with_reducible exact hr | with_reducible refine Room.Spares.put ?_

def Room.loadProgramP : List RoomPart := [.data, .code]
theorem Room.loadProgram_spares {g : ProgramRec} {r r0 : Room} {j : RoomPart} (hP : RoomPart.Clear Room.loadProgramP j)
    (hr : Room.Spares j r0 r) : Room.Spares j r0 (Room.loadProgram g r) := by
  unfold Room.loadProgram
  repeat' first
    | with_reducible exact hr | with_reducible refine Room.Spares.memories (hP.of (by decide)) (hP.of (by decide)) ?_

def Room.meansP : List RoomPart := [.conv]
theorem Room.means_spares {e : Env} {vs : List (BitVec 12)} {is : List (BitVec 12)} {r r0 : Room} {j : RoomPart} (hP : RoomPart.Clear Room.meansP j)
    (hr : Room.Spares j r0 r) : Room.Spares j r0 (Room.means e vs is r) := by
  unfold Room.means
  dsimp only
  repeat' first
    | with_reducible exact hr | with_reducible refine Room.Spares.put ?_
    | with_reducible refine Room.Spares.onConv (hP.of (by decide)) ?_ | split

def Room.moveTrimP : List RoomPart := [.conv]
theorem Room.moveTrim_spares {sum : Int} {n : Nat} {r r0 : Room} {j : RoomPart} (hP : RoomPart.Clear Room.moveTrimP j)
    (hr : Room.Spares j r0 r) : Room.Spares j r0 (Room.moveTrim sum n r) := by
  unfold Room.moveTrim
  dsimp only
  repeat' first
    | with_reducible exact hr | with_reducible refine Room.Spares.onConv (hP.of (by decide)) ?_
    | with_reducible refine Room.Spares.ite ?_ ?_

def Room.newLevelsP : List RoomPart := [.cc]
theorem Room.newLevels_spares {e : Env} {l1 : Nat} {l2 : Nat} {r r0 : Room} {j : RoomPart} (hP : RoomPart.Clear Room.newLevelsP j)
    (hr : Room.Spares j r0 r) : Room.Spares j r0 (Room.newLevels e l1 l2 r) := by
  unfold Room.newLevels
  dsimp only
  repeat' first
    | with_reducible exact hr | with_reducible refine Room.audioOff_spares (hP.of (by decide)) ?_
    | with_reducible refine Room.implicitVi_spares ?_ | with_reducible refine Room.refreshPartner_spares ?_
    | with_reducible refine Room.Spares.put ?_ | with_reducible refine Room.Spares.onCc (hP.of (by decide)) ?_
    | with_reducible refine Room.Spares.ite ?_ ?_

def Room.newPeriodP : List RoomPart := [.conv]
theorem Room.newPeriod_spares {e : Env} {r r0 : Room} {j : RoomPart} (hP : RoomPart.Clear Room.newPeriodP j)
    (hr : Room.Spares j r0 r) : Room.Spares j r0 (Room.newPeriod e r) := by
  unfold Room.newPeriod
  dsimp only
  repeat' first
    | with_reducible exact hr | with_reducible refine Room.Spares.off ?_ | with_reducible refine Room.Spares.put ?_
    | with_reducible refine Room.Spares.putB ?_ | with_reducible refine Room.Spares.onConv (hP.of (by decide)) ?_
    | with_reducible refine Room.Spares.ite ?_ ?_ | split

def Room.newVbusP : List RoomPart := [.cc]
theorem Room.newVbus_spares {e : Env} {mv : Nat} {r r0 : Room} {j : RoomPart} (hP : RoomPart.Clear Room.newVbusP j)
    (hr : Room.Spares j r0 r) : Room.Spares j r0 (Room.newVbus e mv r) := by
  unfold Room.newVbus
  dsimp only
  repeat' first
    | with_reducible exact hr | with_reducible refine Room.Spares.putB ?_
    | with_reducible refine Room.Spares.onCc (hP.of (by decide)) ?_

def Room.observeP : List RoomPart := [.pd]
theorem Room.observe_spares {k : Pkt} {r r0 : Room} {j : RoomPart} (hP : RoomPart.Clear Room.observeP j)
    (hr : Room.Spares j r0 r) : Room.Spares j r0 (Room.observe k r) := by
  unfold Room.observe
  repeat' first
    | with_reducible exact hr | with_reducible refine Room.Spares.onPd (hP.of (by decide)) ?_

def Room.observeAckP : List RoomPart := [.pd, .con]
theorem Room.observeAck_spares {e : Env} {sop : Nat} {id : Nat} {r r0 : Room} {j : RoomPart} (hP : RoomPart.Clear Room.observeAckP j)
    (hr : Room.Spares j r0 r) : Room.Spares j r0 (Room.observeAck e sop id r) := by
  unfold Room.observeAck
  dsimp only
  repeat' first
    | with_reducible exact hr | with_reducible refine Room.cableAnswer_spares (hP.of (by decide)) ?_
    | with_reducible refine Room.eprMode_spares (hP.of (by decide)) ?_ | with_reducible refine Room.Spares.put ?_
    | with_reducible refine Room.Spares.off ?_ | with_reducible refine Room.Spares.onPd (hP.of (by decide)) ?_
    | with_reducible refine Room.Spares.ite ?_ ?_ | split

def Room.receiveP : List RoomPart := [.pd]
theorem Room.receive_spares {e : Env} {k : Pkt} {r r0 : Room} {j : RoomPart} (hP : RoomPart.Clear Room.receiveP j)
    (hr : Room.Spares j r0 r) : Room.Spares j r0 (Room.receive e k r) := by
  unfold Room.receive
  dsimp only
  repeat' first
    | with_reducible exact hr | with_reducible refine Room.count_spares ?_ | with_reducible refine Room.Spares.on ?_
    | with_reducible refine Room.Spares.onPd (hP.of (by decide)) ?_ | with_reducible refine Room.Spares.ite ?_ ?_

def Room.packetP : List RoomPart := [.cc, .pd, .con, .conv]
theorem Room.packet_spares {e : Env} {c : Checked} {r r0 : Room} {j : RoomPart} (hP : RoomPart.Clear Room.packetP j)
    (hr : Room.Spares j r0 r) : Room.Spares j r0 (Room.packet e c r) := by
  unfold Room.packet
  repeat' first
    | with_reducible exact hr | with_reducible refine Room.discard_spares (hP.of (by decide)) ?_
    | with_reducible refine Room.goodCrc_spares (hP.of (by decide)) ?_
    | with_reducible refine Room.heard_spares (hP.of (by decide)) ?_
    | with_reducible refine Room.observe_spares (hP.of (by decide)) ?_
    | with_reducible refine Room.observeAck_spares (hP.of (by decide)) ?_
    | with_reducible refine Room.receive_spares (hP.of (by decide)) ?_ | with_reducible refine Room.Spares.ite ?_ ?_
    | split

def Room.pdSilentP : List RoomPart := [.pd]
theorem Room.pdSilent_spares {r r0 : Room} {j : RoomPart} (hP : RoomPart.Clear Room.pdSilentP j)
    (hr : Room.Spares j r0 r) : Room.Spares j r0 (Room.pdSilent r) := by
  unfold Room.pdSilent
  repeat' first
    | with_reducible exact hr | with_reducible refine Room.txAbort_spares (hP.of (by decide)) ?_
    | with_reducible refine Room.Spares.onPd (hP.of (by decide)) ?_

def Room.pinTestP : List RoomPart := [.conv]
theorem Room.pinTest_spares {now : Nat} {k : Nat} {bad : Bool} {r r0 : Room} {j : RoomPart} (hP : RoomPart.Clear Room.pinTestP j)
    (hr : Room.Spares j r0 r) : Room.Spares j r0 (Room.pinTest now k bad r) := by
  unfold Room.pinTest
  dsimp only
  repeat' first
    | with_reducible exact hr | with_reducible refine Room.Spares.onConv (hP.of (by decide)) ?_

def Room.pushHighP : List RoomPart := [.conv]
theorem Room.pushHigh_spares {y : Int} {r r0 : Room} {j : RoomPart} (hP : RoomPart.Clear Room.pushHighP j)
    (hr : Room.Spares j r0 r) : Room.Spares j r0 (Room.pushHigh y r) := by
  unfold Room.pushHigh
  dsimp only
  repeat' first
    | with_reducible exact hr | with_reducible refine Room.Spares.onConv (hP.of (by decide)) ?_

def Room.queueTxP : List RoomPart := [.pd]
theorem Room.queueTx_spares {e : Env} {m : TxMsg} {r r0 : Room} {j : RoomPart} (hP : RoomPart.Clear Room.queueTxP j)
    (hr : Room.Spares j r0 r) : Room.Spares j r0 (Room.queueTx e m r) := by
  unfold Room.queueTx
  dsimp only
  repeat' first
    | with_reducible exact hr | with_reducible refine Room.sinkTxNg_spares (hP.of (by decide)) ?_
    | with_reducible refine Room.Spares.put ?_ | with_reducible refine Room.Spares.ite ?_ ?_

def Room.refReachedP : List RoomPart := [.con, .conv]
theorem Room.refReached_spares {e : Env} {r r0 : Room} {j : RoomPart} (hP : RoomPart.Clear Room.refReachedP j)
    (hr : Room.Spares j r0 r) : Room.Spares j r0 (Room.refReached e r) := by
  unfold Room.refReached
  dsimp only
  repeat' first
    | with_reducible exact hr | with_reducible refine Room.refreshRamp_spares (hP.of (by decide)) ?_
    | with_reducible refine Room.toStep_spares (hP.of (by decide)) ?_
    | with_reducible refine Room.Spares.onCon (hP.of (by decide)) ?_ | with_reducible refine Room.Spares.ite ?_ ?_

def Room.releaseSafeP : List RoomPart := [.cc, .pd, .con, .conv, .safe]
theorem Room.releaseSafe_spares {e : Env} {r r0 : Room} {j : RoomPart} (hP : RoomPart.Clear Room.releaseSafeP j)
    (hr : Room.Spares j r0 r) : Room.Spares j r0 (Room.releaseSafe e r) := by
  unfold Room.releaseSafe
  dsimp only
  repeat' first
    | with_reducible exact hr | with_reducible refine Room.leaveSafe_spares (hP.of (by decide)) ?_
    | with_reducible refine Room.Spares.off ?_ | with_reducible refine Room.Spares.ite ?_ ?_

def Room.rememberP : List RoomPart := [.conv]
theorem Room.remember_spares {e : Env} {r r0 : Room} {j : RoomPart} (hP : RoomPart.Clear Room.rememberP j)
    (hr : Room.Spares j r0 r) : Room.Spares j r0 (Room.remember e r) := by
  unfold Room.remember
  repeat' first
    | with_reducible exact hr | with_reducible refine Room.Spares.onConv (hP.of (by decide)) ?_

def Room.requestSafeP : List RoomPart := [.cc, .pd, .conv, .safe]
theorem Room.requestSafe_spares {e : Env} {r r0 : Room} {j : RoomPart} (hP : RoomPart.Clear Room.requestSafeP j)
    (hr : Room.Spares j r0 r) : Room.Spares j r0 (Room.requestSafe e r) := by
  unfold Room.requestSafe
  dsimp only
  repeat' first
    | with_reducible exact hr | with_reducible refine Room.outputsOff_spares (hP.of (by decide)) ?_
    | with_reducible refine Room.Spares.on ?_ | with_reducible refine Room.Spares.off ?_
    | with_reducible refine Room.Spares.onCc (hP.of (by decide)) ?_
    | with_reducible refine Room.Spares.onConv (hP.of (by decide)) ?_ | with_reducible refine Room.Spares.ite ?_ ?_
    | with_reducible refine Room.Spares.safe (hP.of (by decide)) ?_

def Room.resumeAskP : List RoomPart := [.con]
theorem Room.resumeAsk_spares {e : Env} {r r0 : Room} {j : RoomPart} (hP : RoomPart.Clear Room.resumeAskP j)
    (hr : Room.Spares j r0 r) : Room.Spares j r0 (Room.resumeAsk e r) := by
  unfold Room.resumeAsk
  dsimp only
  repeat' first
    | with_reducible exact hr | with_reducible refine Room.Spares.onCon (hP.of (by decide)) ?_

def Room.resumeCcP : List RoomPart := [.cc, .pd]
theorem Room.resumeCc_spares {e : Env} {r r0 : Room} {j : RoomPart} (hP : RoomPart.Clear Room.resumeCcP j)
    (hr : Room.Spares j r0 r) : Room.Spares j r0 (Room.resumeCc e r) := by
  unfold Room.resumeCc
  dsimp only
  repeat' first
    | with_reducible exact hr | with_reducible refine Room.Spares.putB ?_ | with_reducible refine Room.Spares.put ?_
    | with_reducible refine Room.Spares.onCc (hP.of (by decide)) ?_
    | with_reducible refine Room.Spares.onPd (hP.of (by decide)) ?_

def Room.resumeRateP : List RoomPart := [.conv]
theorem Room.resumeRate_spares {r r0 : Room} {j : RoomPart} (hP : RoomPart.Clear Room.resumeRateP j)
    (hr : Room.Spares j r0 r) : Room.Spares j r0 (Room.resumeRate r) := by
  unfold Room.resumeRate
  repeat' first
    | with_reducible exact hr | with_reducible refine Room.setRate_spares (hP.of (by decide)) ?_
    | with_reducible refine Room.slewRate_spares (hP.of (by decide)) ?_ | with_reducible refine Room.Spares.ite ?_ ?_

def Room.sampleP : List RoomPart := [.cc, .con, .conv]
theorem Room.sample_spares {e : Env} {vb : Nat} {ci : Nat} {vn : Nat} {vi : Nat} {r r0 : Room} {j : RoomPart} (hP : RoomPart.Clear Room.sampleP j)
    (hr : Room.Spares j r0 r) : Room.Spares j r0 (Room.sample e vb ci vn vi r) := by
  unfold Room.sample
  dsimp only
  repeat' first
    | with_reducible exact hr | with_reducible refine Room.fallThr_spares (hP.of (by decide)) ?_
    | with_reducible refine Room.Spares.put ?_ | with_reducible refine Room.Spares.putB ?_
    | with_reducible refine Room.Spares.onCc (hP.of (by decide)) ?_
    | with_reducible refine Room.Spares.onCon (hP.of (by decide)) ?_
    | with_reducible refine Room.Spares.onConv (hP.of (by decide)) ?_ | with_reducible refine Room.Spares.ite ?_ ?_

def Room.sampleFollowerP : List RoomPart := [.conv]
theorem Room.sampleFollower_spares {e : Env} {ci : Nat} {vn : Nat} {r r0 : Room} {j : RoomPart} (hP : RoomPart.Clear Room.sampleFollowerP j)
    (hr : Room.Spares j r0 r) : Room.Spares j r0 (Room.sampleFollower e ci vn r) := by
  unfold Room.sampleFollower
  dsimp only
  repeat' first
    | with_reducible exact hr | with_reducible refine Room.fallThr_spares (hP.of (by decide)) ?_
    | with_reducible refine Room.Spares.put ?_

def Room.seenLevelsP : List RoomPart := [.cc]
theorem Room.seenLevels_spares {e : Env} {l1 : Nat} {l2 : Nat} {r r0 : Room} {j : RoomPart} (hP : RoomPart.Clear Room.seenLevelsP j)
    (hr : Room.Spares j r0 r) : Room.Spares j r0 (Room.seenLevels e l1 l2 r) := by
  unfold Room.seenLevels
  dsimp only
  repeat' first
    | with_reducible exact hr | with_reducible refine Room.shadowRp_spares ?_
    | with_reducible refine Room.Spares.put ?_ | with_reducible refine Room.Spares.onCc (hP.of (by decide)) ?_
    | with_reducible refine Room.Spares.ite ?_ ?_

def Room.senseHoldOffP : List RoomPart := [.conv, .senseHold]
theorem Room.senseHoldOff_spares {e : Env} {r r0 : Room} {j : RoomPart} (hP : RoomPart.Clear Room.senseHoldOffP j)
    (hr : Room.Spares j r0 r) : Room.Spares j r0 (Room.senseHoldOff e r) := by
  unfold Room.senseHoldOff
  repeat' first
    | with_reducible exact hr | with_reducible refine Room.refreshIlim_spares ?_
    | with_reducible refine Room.Spares.onConv (hP.of (by decide)) ?_
    | with_reducible refine Room.Spares.senseHold (hP.of (by decide)) ?_

def Room.senseHoldOnP : List RoomPart := [.conv, .senseHold]
theorem Room.senseHoldOn_spares {e : Env} {r r0 : Room} {j : RoomPart} (hP : RoomPart.Clear Room.senseHoldOnP j)
    (hr : Room.Spares j r0 r) : Room.Spares j r0 (Room.senseHoldOn e r) := by
  unfold Room.senseHoldOn
  repeat' first
    | with_reducible exact hr | with_reducible refine Room.refreshIlim_spares ?_
    | with_reducible refine Room.Spares.onConv (hP.of (by decide)) ?_
    | with_reducible refine Room.Spares.senseHold (hP.of (by decide)) ?_

def Room.staleTakeoverP : List RoomPart := [.cc, .pd, .con, .conv]
theorem Room.staleTakeover_spares {e : Env} {r r0 : Room} {j : RoomPart} (hP : RoomPart.Clear Room.staleTakeoverP j)
    (hr : Room.Spares j r0 r) : Room.Spares j r0 (Room.staleTakeover e r) := by
  unfold Room.staleTakeover
  repeat' first
    | with_reducible exact hr | with_reducible refine Room.errorRecovery_spares (hP.of (by decide)) ?_
    | with_reducible refine Room.refreshIlim_spares ?_ | with_reducible refine Room.say_spares (hP.of (by decide)) ?_
    | with_reducible refine Room.Spares.onCon (hP.of (by decide)) ?_ | with_reducible refine Room.Spares.ite ?_ ?_

def Room.startAutoP : List RoomPart := [.pd, .con]
theorem Room.startAuto_spares {e : Env} {kind : TxKind} {r r0 : Room} {j : RoomPart} (hP : RoomPart.Clear Room.startAutoP j)
    (hr : Room.Spares j r0 r) : Room.Spares j r0 (Room.startAuto e kind r) := by
  unfold Room.startAuto
  repeat' first
    | with_reducible exact hr | with_reducible refine Room.beginAuto_spares (hP.of (by decide)) ?_
    | with_reducible refine Room.Spares.ite ?_ ?_ | split

def Room.startCoreP : List RoomPart := [.core, .kickAt]
theorem Room.startCore_spares {now : Nat} {entry : Nat} {r r0 : Room} {j : RoomPart} (hP : RoomPart.Clear Room.startCoreP j)
    (hr : Room.Spares j r0 r) : Room.Spares j r0 (Room.startCore now entry r) := by
  unfold Room.startCore
  dsimp only
  repeat' first
    | with_reducible exact hr | with_reducible refine Room.Spares.on ?_ | with_reducible refine Room.Spares.put ?_
    | with_reducible refine Room.Spares.onCore (hP.of (by decide)) ?_
    | with_reducible refine Room.Spares.kickAt (hP.of (by decide)) ?_

def Room.transfersP : List RoomPart := [.conv]
theorem Room.transfers_spares {turned : Bool} {r r0 : Room} {j : RoomPart} (hP : RoomPart.Clear Room.transfersP j)
    (hr : Room.Spares j r0 r) : Room.Spares j r0 (Room.transfers turned r) := by
  unfold Room.transfers
  dsimp only
  repeat' first
    | with_reducible exact hr | with_reducible refine Room.Spares.on ?_
    | with_reducible refine Room.Spares.onConv (hP.of (by decide)) ?_ | with_reducible refine Room.Spares.ite ?_ ?_

def Room.turnP : List RoomPart := [.conv]
theorem Room.turn_spares {e : Env} {r r0 : Room} {j : RoomPart} (hP : RoomPart.Clear Room.turnP j)
    (hr : Room.Spares j r0 r) : Room.Spares j r0 (Room.turn e r) := by
  unfold Room.turn
  dsimp only
  repeat' first
    | with_reducible exact hr | with_reducible refine Room.frsStart_spares (hP.of (by decide)) ?_
    | with_reducible refine Room.refreshRamp_spares (hP.of (by decide)) ?_
    | with_reducible refine Room.setLoop_spares ?_ | with_reducible refine Room.setRef_spares (hP.of (by decide)) ?_
    | with_reducible refine Room.slewRate_spares (hP.of (by decide)) ?_ | with_reducible refine Room.Spares.on ?_
    | with_reducible refine Room.Spares.onConv (hP.of (by decide)) ?_ | with_reducible refine Room.Spares.ite ?_ ?_
    | split

def Room.startPeriodP : List RoomPart := [.conv]
theorem Room.startPeriod_spares {e : Env} {r r0 : Room} {j : RoomPart} (hP : RoomPart.Clear Room.startPeriodP j)
    (hr : Room.Spares j r0 r) : Room.Spares j r0 (Room.startPeriod e r) := by
  unfold Room.startPeriod
  dsimp only
  repeat' first
    | with_reducible exact hr | with_reducible refine Room.foldPeriod_spares (hP.of (by decide)) ?_
    | with_reducible refine Room.levels_spares ?_ | with_reducible refine Room.newPeriod_spares (hP.of (by decide)) ?_
    | with_reducible refine Room.remember_spares (hP.of (by decide)) ?_ | with_reducible refine Room.showThr_spares ?_
    | with_reducible refine Room.transfers_spares (hP.of (by decide)) ?_
    | with_reducible refine Room.turn_spares (hP.of (by decide)) ?_ | with_reducible refine Room.Spares.ite ?_ ?_

def Room.startTxP : List RoomPart := [.pd, .con]
theorem Room.startTx_spares {e : Env} {r r0 : Room} {j : RoomPart} (hP : RoomPart.Clear Room.startTxP j)
    (hr : Room.Spares j r0 r) : Room.Spares j r0 (Room.startTx e r) := by
  unfold Room.startTx
  dsimp only
  repeat' first
    | with_reducible exact hr | with_reducible refine Room.begin_spares (hP.of (by decide)) ?_
    | with_reducible refine Room.beginAuto_spares (hP.of (by decide)) ?_
    | with_reducible refine Room.followRp_spares ?_
    | with_reducible refine Room.followVdm_spares (hP.of (by decide)) ?_ | with_reducible refine Room.Spares.ite ?_ ?_
    | split

def Room.takeP : List RoomPart := [.pd, .con, .core]
theorem Room.take_spares {e : Env} {av : Nat} {r r0 : Room} {j : RoomPart} (hP : RoomPart.Clear Room.takeP j)
    (hr : Room.Spares j r0 r) : Room.Spares j r0 (Room.take e av r) := by
  unfold Room.take
  dsimp only
  repeat' first
    | with_reducible exact hr | with_reducible refine Room.clampCaps_spares ?_
    | with_reducible refine Room.eprCheck_spares ?_ | with_reducible refine Room.gate_spares (hP.of (by decide)) ?_
    | with_reducible refine Room.queueTx_spares (hP.of (by decide)) ?_ | with_reducible refine Room.Spares.put ?_
    | with_reducible refine Room.Spares.onCore (hP.of (by decide)) ?_
    | with_reducible refine Room.Spares.onPd (hP.of (by decide)) ?_ | with_reducible refine Room.Spares.ite ?_ ?_

def Room.thermTripP : List RoomPart := [.cc, .pd, .conv, .safe]
theorem Room.thermTrip_spares {e : Env} {r r0 : Room} {j : RoomPart} (hP : RoomPart.Clear Room.thermTripP j)
    (hr : Room.Spares j r0 r) : Room.Spares j r0 (Room.thermTrip e r) := by
  unfold Room.thermTrip
  dsimp only
  repeat' first
    | with_reducible exact hr | with_reducible refine Room.enterSafe_spares (hP.of (by decide)) ?_
    | with_reducible refine Room.Spares.put ?_ | with_reducible refine Room.Spares.on ?_
    | with_reducible refine Room.Spares.onConv (hP.of (by decide)) ?_ | with_reducible refine Room.Spares.ite ?_ ?_

def Room.toShadowP : List RoomPart := [.cc, .pd]
theorem Room.toShadow_spares {e : Env} {r r0 : Room} {j : RoomPart} (hP : RoomPart.Clear Room.toShadowP j)
    (hr : Room.Spares j r0 r) : Room.Spares j r0 (Room.toShadow e r) := by
  unfold Room.toShadow
  repeat' first
    | with_reducible exact hr | with_reducible refine Room.pdSilent_spares (hP.of (by decide)) ?_
    | with_reducible refine Room.setLoop_spares ?_ | with_reducible refine Room.terms_spares (hP.of (by decide)) ?_
    | with_reducible refine Room.Spares.off ?_ | with_reducible refine Room.Spares.onCc (hP.of (by decide)) ?_

theorem Room.unlatch_spares {k : Nat} {r r0 : Room} {j : RoomPart} (hr : Room.Spares j r0 r) :
    Room.Spares j r0 (Room.unlatch k r) := by
  unfold Room.unlatch
  repeat' first
    | with_reducible exact hr | with_reducible refine Room.Spares.off ?_

def Room.writeVconnEnP : List RoomPart := [.cc, .pd]
theorem Room.writeVconnEn_spares {e : Env} {en : Bool} {r r0 : Room} {j : RoomPart} (hP : RoomPart.Clear Room.writeVconnEnP j)
    (hr : Room.Spares j r0 r) : Room.Spares j r0 (Room.writeVconnEn e en r) := by
  unfold Room.writeVconnEn
  repeat' first
    | with_reducible exact hr | with_reducible refine Room.vconn_spares (hP.of (by decide)) ?_
    | with_reducible refine Room.Spares.putB ?_ | with_reducible refine Room.Spares.off ?_
    | with_reducible refine Room.Spares.on ?_ | with_reducible refine Room.Spares.ite ?_ ?_

def Room.writeVsetP : List RoomPart := [.con, .conv]
theorem Room.writeVset_spares {e : Env} {mv : Nat} {r r0 : Room} {j : RoomPart} (hP : RoomPart.Clear Room.writeVsetP j)
    (hr : Room.Spares j r0 r) : Room.Spares j r0 (Room.writeVset e mv r) := by
  unfold Room.writeVset
  dsimp only
  repeat' first
    | with_reducible exact hr | with_reducible refine Room.rampTo_spares (hP.of (by decide)) ?_
    | with_reducible refine Room.refReached_spares (hP.of (by decide)) ?_
    | with_reducible refine Room.setVset_spares ?_ | with_reducible refine Room.Spares.ite ?_ ?_

end Sys2Proof.Machine

namespace Sys2Proof.Machine

set_option Elab.async false

/-! ## The attach state entered (R137) and its lines -/

theorem State.live_iff (s : State) (p : Fin 48) : s.live p = true ↔ s.whole p = true ∧ s.keeps (wingOf p) = true := by
  simp [State.live]

@[simp] theorem State.env_now (s : State) (p : Fin 48) : (s.env p).now = s.now := rfl
@[simp] theorem State.env_keeper (s : State) (p : Fin 48) : (s.env p).keeper = s.keeps (wingOf p) := rfl

@[simp] theorem State.keeps_onRoom (s : State) (p : Fin 48) (g : Room → Room) (w : Fin 2) : (s.onRoom p g).keeps w = s.keeps w := rfl
@[simp] theorem State.whole_onRoom (s : State) (p q : Fin 48) (g : Room → Room) : (s.onRoom p g).whole q = s.whole q := rfl

theorem Room.ast_enterState (e : Env) (r : Room) {st : Nat} (h : st < 16) : (r.enterState e st).ast = st := by
  unfold Room.enterState Room.ast
  simp (disch := decide) only [Bool.not_or, Bool.and_eq_true, Bool.not_eq_eq_eq_not, Bool.not_true,
    decide_eq_false_iff_not, vconn_fld, fld_ite, fld_onCc, fld_off_apart, fld_put, ite_self, fld_put_apart]
  exact Nat.mod_eq_of_lt h

/-- VCONN is off where nothing is attached. -/
theorem Room.vconnOn_vconn (e : Env) {r : Room} (h : r.attached = false) : (r.vconn e).bit CC_STAT_VCONN_ON = false := by
  have hwant : r.vconnAllowed e = false := by simp [Room.vconnAllowed, h]
  unfold Room.vconn
  rw [hwant, Bool.false_and]
  by_cases hon : r.bit CC_STAT_VCONN_ON = false
  · simp (disch := decide) only [hon, ↓reduceIte, bit_eq, terms_fld, bne_eq_false_iff_eq]
    simpa [Room.bit_eq] using hon
  · simp (disch := decide) only [hon, Bool.false_eq_true, ↓reduceIte, bit_eq, terms_fld, fld_onCc, fld_onPd, fld_putB,
      Bool.toNat_false, bne_self_eq_false]

theorem Room.vconnOn_enterState (e : Env) (r : Room) {st : Nat} (h : st < 16) (hsrc : st ≠ aSrc) (hsnk : st ≠ aSnk) :
    (r.enterState e st).bit CC_STAT_VCONN_ON = false := by
  have hmod : st % 2 ^ CC_STAT_ASTATE.width = st := Nat.mod_eq_of_lt h
  unfold Room.enterState
  refine Room.vconnOn_vconn e ?_
  unfold Room.attached Room.ast
  simp (disch := decide) only [hsrc, ↓reduceIte, decide_false, hsnk, Bool.or_self, Bool.not_false, Bool.and_true,
    Bool.or_eq_true, decide_eq_true_eq, fld_ite, fld_put_apart, fld_onCc, fld_off_apart, fld_put, hmod, ite_self]

/-- The terminations that a Room shows are those that its state wants. -/
def Room.settledTerms (e : Env) (r : Room) : Prop :=
  r.cc.term1 = (if e.keeper then r.wantTerm e 1 else .none) ∧ r.cc.term2 = (if e.keeper then r.wantTerm e 2 else .none)

theorem Room.wantTerm_congr (e : Env) {q r : Room} (line : Nat) (hrp : rpSide q.ast = rpSide r.ast)
    (hrd : rdSide q.ast = rdSide r.ast) (hsafe : q.safe = r.safe) (hslot : q.slotHold = r.slotHold)
    (hf : ∀ f ∈ [CC_STAT_ORIENT, CC_STAT_ORIENT_VALID, CC_STAT_CC1_ISOL, CC_STAT_CC2_ISOL, CTRL_FORCE_SAFE, CC_STAT_VCONN_ON,
      CON_STAT_SWAP, CON_STAT_STEP], q.fld f = r.fld f) : q.wantTerm e line = r.wantTerm e line := by
  unfold Room.wantTerm Room.inSafe
  simp only [Room.bit_eq, hrp, hrd, hsafe, hslot, hf _ (.head _), hf CC_STAT_ORIENT_VALID (by simp),
    hf CC_STAT_CC1_ISOL (by simp), hf CC_STAT_CC2_ISOL (by simp), hf CTRL_FORCE_SAFE (by simp),
    hf CC_STAT_VCONN_ON (by simp), hf CON_STAT_SWAP (by simp), hf CON_STAT_STEP (by simp)]
  rfl

theorem Room.settledTerms.congr {e : Env} {q r : Room} (h : r.settledTerms e) (h1 : q.cc.term1 = r.cc.term1)
    (h2 : q.cc.term2 = r.cc.term2) (hrp : rpSide q.ast = rpSide r.ast) (hrd : rdSide q.ast = rdSide r.ast)
    (hsafe : q.safe = r.safe) (hslot : q.slotHold = r.slotHold)
    (hf : ∀ f ∈ [CC_STAT_ORIENT, CC_STAT_ORIENT_VALID, CC_STAT_CC1_ISOL, CC_STAT_CC2_ISOL, CTRL_FORCE_SAFE, CC_STAT_VCONN_ON,
      CON_STAT_SWAP, CON_STAT_STEP], q.fld f = r.fld f) : q.settledTerms e := by
  unfold Room.settledTerms at h ⊢
  rw [Room.wantTerm_congr e 1 hrp hrd hsafe hslot hf, Room.wantTerm_congr e 2 hrp hrd hsafe hslot hf, h1, h2]
  exact h

theorem Room.wantTerm_terms (e : Env) (r : Room) (line : Nat) : (r.terms e).wantTerm e line = r.wantTerm e line := by
  have hast : (r.terms e).ast = r.ast := Room.terms_fld e r _ (by decide)
  refine Room.wantTerm_congr e line (by rw [hast]) (by rw [hast]) (Room.terms_spares (by decide) (.refl .safe r)).eq_safe
    (Room.terms_spares (by decide) (.refl .slotHold r)).eq_slotHold fun f hf => Room.terms_fld e r f ?_
  revert f
  decide

@[simp] theorem Room.refreshPartner_cc (r : Room) : r.refreshPartner.cc = r.cc := (Room.refreshPartner_spares (.refl .cc r)).eq_cc

theorem Room.audioOff_term1 (r : Room) : r.audioOff.cc.term1 = r.cc.term1 := by
  unfold Room.audioOff
  rw [Room.onCc_cc]
  split <;> rfl

theorem Room.audioOff_term2 (r : Room) : r.audioOff.cc.term2 = r.cc.term2 := by
  unfold Room.audioOff
  rw [Room.onCc_cc]
  split <;> rfl

theorem Room.settledTerms_terms (e : Env) (r : Room) : (r.terms e).settledTerms e := by
  rw [Room.settledTerms, Room.wantTerm_terms, Room.wantTerm_terms]
  unfold Room.terms
  by_cases hk : e.keeper = true
  · by_cases h1 : r.wantTerm e 1 = r.cc.term1 <;> by_cases h2 : r.wantTerm e 2 = r.cc.term2 <;>
      simp [hk, h1, h2, Room.audioOff_term1, Room.audioOff_term2]
  · simp [hk]

theorem Room.terms_of_settled (e : Env) {r : Room} (hk : e.keeper = true) (h : r.settledTerms e) : r.terms e = r := by
  obtain ⟨h1, h2⟩ := h
  simp only [hk, if_true] at h1 h2
  unfold Room.terms
  simp [hk, h1, h2]

theorem Room.settledTerms_vconn (e : Env) (r : Room) : (r.vconn e).settledTerms e := Room.settledTerms_terms e _

theorem Room.vconn_of_settled (e : Env) {r : Room} (hk : e.keeper = true) (hatt : r.attached = false)
    (hon : r.bit CC_STAT_VCONN_ON = false) (h : r.settledTerms e) : r.vconn e = r := by
  have hwant : r.vconnAllowed e = false := by simp [Room.vconnAllowed, hatt]
  unfold Room.vconn
  simp [hwant, hon, Room.terms_of_settled e hk h]

@[simp] theorem Room.outOff_enterState (e : Env) (r : Room) (st : Nat) : (r.enterState e st).outOff = r.outOff := by
  simp (disch := decide) only [Room.outOff, Room.inSafe, Room.bit_eq, Room.enterState_fld,
    (Room.enterState_spares (by decide) (.refl .safe r)).eq_safe, (Room.enterState_spares (by decide) (.refl .slotHold r)).eq_slotHold]

theorem Room.settledTerms_enterState (e : Env) (r : Room) (st : Nat) : (r.enterState e st).settledTerms e :=
  Room.settledTerms_vconn e _

/-- Between two states of the same side without attachment the lines stay as they are. -/
theorem Room.enterState_lines (e : Env) {r : Room} {st x : Nat} (hk : e.keeper = true) (hst : st < 16) (hx : x < 16)
    (hs : st ≠ aSrc ∧ st ≠ aSnk) (hxs : x ≠ aSrc ∧ x ≠ aSnk) (hrp : rpSide x = rpSide st) (hrd : rdSide x = rdSide st) :
    ((r.enterState e st).enterState e x).kind1 = (r.enterState e st).kind1 ∧
      ((r.enterState e st).enterState e x).kind2 = (r.enterState e st).kind2 := by
  have hast := r.ast_enterState e hst
  have hon := r.vconnOn_enterState e hst hs.1 hs.2
  have hsettled := r.settledTerms_enterState e st
  have hout := r.outOff_enterState e st
  generalize r.enterState e st = q at *
  have hatt : q.attached = false := by simp [Room.attached, hast, hs]
  have hx16 : x % 2 ^ CC_STAT_ASTATE.width = x := Nat.mod_eq_of_lt hx
  unfold Room.enterState
  simp only [hatt, Bool.false_and, Bool.false_eq_true, if_false, decide_eq_false hxs.1, if_neg hxs.1]
  rw [Room.vconn_of_settled e hk]
  · unfold Room.kind1 Room.kind2
    simp (disch := decide) only [apply_ite Room.cc, put_cc, off_cc, onCc_cc, ite_self, fld_ite, fld_put_apart,
      fld_off_apart, fld_onCc, and_self]
  · unfold Room.attached Room.ast
    simp (disch := decide) only [fld_ite, fld_put_apart, fld_off_apart, fld_onCc, fld_put, hx16, ite_self, hxs,
      decide_false, Bool.or_self]
  · simp (disch := decide) only [bit_eq, fld_ite, fld_put_apart, fld_off_apart, fld_onCc, ite_self,
      bne_eq_false_iff_eq]
    simpa [Room.bit_eq] using hon
  · refine hsettled.congr ?_ ?_ ?_ ?_ ?_ ?_ ?_
    · simp only [apply_ite Room.cc, put_cc, off_cc, onCc_cc, ite_self]
    · simp only [apply_ite Room.cc, put_cc, off_cc, onCc_cc, ite_self]
    · unfold Room.ast at hast ⊢
      simp (disch := decide) only [hrp, fld_ite, fld_put_apart, fld_off_apart, fld_onCc, fld_put, hx16, ite_self,
        hast]
    · unfold Room.ast at hast ⊢
      simp (disch := decide) only [fld_ite, fld_put_apart, fld_off_apart, fld_onCc, fld_put, hx16, ite_self, hrd,
        hast]
    · simp only [apply_ite Room.safe, put_safe, off_safe, onCc_safe, ite_self]
    · simp only [apply_ite Room.slotHold, put_slotHold, off_slotHold, onCc_slotHold, ite_self]
    · simp only [List.forall_mem_cons]
      simp (disch := decide) only [fld_ite, fld_put_apart, fld_off_apart, fld_onCc, ite_self, List.not_mem_nil,
        IsEmpty.forall_iff, implies_true, and_self]

/-- A Room without attachment is in the state entered, or in the one that a line's attach level calls for. -/
theorem Room.enterA_waits (e : Env) {r : Room} {st : Nat} (hst : st < 16) (hs : st ≠ aSrc ∧ st ≠ aSnk) (hout : r.outOff = false) :
    (r.enterA e st).waits st := by
  have hast := r.ast_enterState e hst
  have hout1 := r.outOff_enterState e st
  have hkeep : e.keeper = false → (r.enterState e st).kind1 = 0 ∧ (r.enterState e st).kind2 = 0 := by
    intro hk
    obtain ⟨h1, h2⟩ := r.settledTerms_enterState e st
    simp [Room.kind1, Room.kind2, h1, h2, hk, lineKind]
  have hsnk : st = aUnSnk → ((r.enterState e st).kind1 = 3 ∨ (r.enterState e st).kind2 = 3) →
      (r.enterA e st).waits st := by
    rintro rfl hkind
    have hk : e.keeper = true := by
      by_contra hk
      simp only [Bool.not_eq_true] at hk
      simp [hkeep hk] at hkind
    obtain ⟨h1, h2⟩ := r.enterState_lines e (x := aWaitSnk) hk hst (by decide) hs (by decide) rfl rfl
    have hexit : (r.enterState e aUnSnk).levelExit = some aWaitSnk := by simp [Room.levelExit, hout1, hout, hast, hkind]
    have h3 := (r.enterState e aUnSnk).ast_enterState e (st := aWaitSnk) (by decide)
    rw [Room.enterA, hexit]
    simp [Room.waits, h1, h2, h3, hkind]
  have hsrc : st = aUnSrc → ((r.enterState e st).kind1 = 2 ∨ (r.enterState e st).kind2 = 2) →
      (r.enterA e st).waits st := by
    rintro rfl hkind
    have hk : e.keeper = true := by
      by_contra hk
      simp only [Bool.not_eq_true] at hk
      simp [hkeep hk] at hkind
    obtain ⟨h1, h2⟩ := r.enterState_lines e (x := aWaitSrc) hk hst (by decide) hs (by decide) rfl rfl
    have hexit : (r.enterState e aUnSrc).levelExit = some aWaitSrc := by simp [Room.levelExit, hout1, hout, hast, hkind]
    have h3 := (r.enterState e aUnSrc).ast_enterState e (st := aWaitSrc) (by decide)
    rw [Room.enterA, hexit]
    simp [Room.waits, h1, h2, h3, hkind]
  by_cases hA : st = aUnSnk ∧ ((r.enterState e st).kind1 = 3 ∨ (r.enterState e st).kind2 = 3)
  · exact hsnk hA.1 hA.2
  · by_cases hB : st = aUnSrc ∧ ((r.enterState e st).kind1 = 2 ∨ (r.enterState e st).kind2 = 2)
    · exact hsrc hB.1 hB.2
    · have hexit : (r.enterState e st).levelExit = none := by
        simp only [Room.levelExit, hast, Bool.and_eq_true, Bool.or_eq_true, decide_eq_true_eq, hA, hB, if_false, ite_self]
      rw [Room.enterA, hexit]
      show (r.enterState e st).waits st
      simp [Room.waits, hA, hB, hast]

theorem Room.waits_congr {q r : Room} {st : Nat} (h : r.waits st) (hast : q.ast = r.ast) (h1 : q.kind1 = r.kind1)
    (h2 : q.kind2 = r.kind2) : q.waits st := by
  unfold Room.waits at h ⊢
  rw [hast, h1, h2]
  exact h

/-- What does not touch the lines leaves the level that they show. -/
theorem Room.kind1_congr {q r : Room} (hterm : q.cc.term1 = r.cc.term1) (hra : q.cc.ra = r.cc.ra)
    (hf : q.fld CC_LEVEL_CC1_LVL = r.fld CC_LEVEL_CC1_LVL) : q.kind1 = r.kind1 := by
  rw [Room.kind1, Room.kind1, hterm, hra, hf]

theorem Room.kind2_congr {q r : Room} (hterm : q.cc.term2 = r.cc.term2) (hra : q.cc.ra = r.cc.ra)
    (hf : q.fld CC_LEVEL_CC2_LVL = r.fld CC_LEVEL_CC2_LVL) : q.kind2 = r.kind2 := by
  rw [Room.kind2, Room.kind2, hterm, hra, hf]

theorem Room.implicitVi_cc (e : Env) (r : Room) : (r.implicitVi e).cc = r.cc :=
  (Room.implicitVi_spares (.refl .cc r)).eq_cc

theorem Room.conClear_waits (e : Env) {r : Room} {st : Nat} (h : r.waits st) : (r.conClear e).waits st := by
  refine Room.waits_congr h (Room.conClear_fld e r _ (by decide)) (Room.kind1_congr ?_ ?_ (Room.conClear_fld e r _ (by decide)))
    (Room.kind2_congr ?_ ?_ (Room.conClear_fld e r _ (by decide)))
  all_goals
    unfold Room.conClear
    simp only [implicitVi_cc, onCc_cc, onCon_cc, (Room.endResv_spares (by decide) (.refl .cc _)).eq_cc, off_cc]

theorem Room.outOff_eq (r : Room) : r.outOff = (r.held.1 || r.fld CTRL_FORCE_SAFE != 0 || r.held.2) := rfl

theorem Room.detach_waits (e : Env) {r : Room} (hout : r.outOff = false) :
    (r.detach e).waits (if r.ast = aSrc then unSrcOf e else aUnSnk) := by
  unfold Room.detach
  dsimp only
  have hst : (if r.ast = aSrc then unSrcOf e else aUnSnk) = aUnSrc ∨ (if r.ast = aSrc then unSrcOf e else aUnSnk) = aUnSnk := by
    unfold unSrcOf
    split <;> simp only [or_true, true_or, ite_eq_or_eq]
  have h := Room.conClear_waits e (Room.enterA_waits e (r := (((r.on CC_EVENT_DETACH).on EVENT_DETACH).pdClear e).startRemoval e)
    (st := if r.ast = aSrc then unSrcOf e else aUnSnk) (by rcases hst with h | h <;> rw [h] <;> decide)
    (by rcases hst with h | h <;> rw [h] <;> decide) ?_)
  · exact Room.waits_congr h (Room.fld_off_apart _ _ _ (by decide)) (Room.kind1_congr rfl rfl (Room.fld_off_apart _ _ _ (by decide)))
      (Room.kind2_congr rfl rfl (Room.fld_off_apart _ _ _ (by decide)))
  · rw [Room.outOff_eq] at hout ⊢
    simp (disch := decide) only [startRemoval_held, pdClear_held, on_held, startRemoval_fld, pdClear_fld,
      fld_on_apart, hout]

/-! ## Events of the CC lines and of VBUS -/

theorem exec_ccLevelChange_shadow {s : State} {p : Fin 48} (l1 l2 : Fin 8) (hw : s.whole p = true)
    (hk : s.keeps (wingOf p) = false) : ∃ t, exec (.ccLevelChange p l1 l2) s = .next t ∧
      (t.room p).fld CC_LEVEL_CC1_LVL = l1.val ∧ (t.room p).fld CC_LEVEL_CC2_LVL = l2.val := by
  have h1 : l1.val % 2 ^ CC_LEVEL_CC1_LVL.width = l1.val := Nat.mod_eq_of_lt l1.isLt
  have h2 : l2.val % 2 ^ CC_LEVEL_CC2_LVL.width = l2.val := Nat.mod_eq_of_lt l2.isLt
  rw [exec_ccLevelChange, execCcLevelChange]
  refine act_does hw ?_
  simp (disch := decide) only [hk, Bool.false_eq_true, ↓reduceIte, Room.seenLevels, Room.fld_ite, Room.fld_onCc,
    Room.fld_put_apart, ite_self, State.withQueue_room, State.posted_room, State.room_onRoomE, Room.shadowRp_fld,
    Room.fld_put, h1, ite_eq_right_iff, h2]
  exact ⟨Eq.symm, Eq.symm⟩

theorem exec_vbusLevelChange_shows {s : State} {p : Fin 48} (mv : Nat) (hw : s.whole p = true) :
    ∃ t, exec (.vbusLevelChange p mv) s = .next t ∧ (t.room p).bit CC_STAT_VBUS_SAFE0 = decide (mv ≤ 800) ∧
      (t.room p).bit CC_STAT_VBUS_PRESENT = decide (4000 ≤ mv) := by
  rw [exec_vbusLevelChange, execVbusLevelChange]
  refine act_does hw ?_
  by_cases hk : s.keeps (wingOf p) = true
  · simp (disch := decide) only [hk, ↓reduceIte, Room.newVbus, Option.orElse_eq_orElse, Option.orElse_eq_or,
      Option.or_some, State.withQueue_room, State.posted_room, State.room_onRoomE, State.env_now, Room.bit_eq,
      Room.sinkSwitch_fld, Room.advance_fld, Room.fld_onCc, Room.fld_putB_apart, Room.fld_putB, Bool.toNat_bne_zero,
      and_self]
  · simp (disch := decide) only [hk, Bool.false_eq_true, ↓reduceIte, Room.newVbus, Option.orElse_eq_orElse,
      Option.orElse_eq_or, Option.or_some, State.withQueue_room, State.posted_room, State.room_onRoomE, State.env_now,
      Room.bit_eq, Room.fld_onCc, Room.fld_putB_apart, Room.fld_putB, Bool.toNat_bne_zero, and_self]

theorem exec_vconnEnWrite_off {s : State} {p : Fin 48} (hl : s.live p = true)
    (hclamp : s.clampBit (.roomReg p.val 0x054) VCONN_CTRL_EN false = false) :
    ∃ t, exec (.vconnEnWrite p false) s = .next t ∧ (t.room p).bit VCONN_CTRL_EN = false := by
  rw [exec_vconnEnWrite, execVconnEnWrite]
  refine act_does ((s.live_iff p).1 hl).1 ?_
  simp (disch := decide) only [Room.writeVconnEn, Bool.not_eq_eq_eq_not, Bool.not_true, hclamp, Bool.false_and,
    Bool.false_eq_true, ↓reduceIte, State.withQueue_room, State.posted_room, State.room_onRoomE, State.env_keeper,
    ((s.live_iff p).1 hl).2, Bool.true_eq_false, Room.bit_eq, Room.vconn_fld, Room.fld_off, bne_self_eq_false]

theorem exec_vconnEnWrite_on {s : State} {p : Fin 48} (hl : s.live p = true) (hatt : (s.room p).attached = true)
    (hclamp : s.clampBit (.roomReg p.val 0x054) VCONN_CTRL_EN true = true) :
    ∃ t, exec (.vconnEnWrite p true) s = .next t ∧
      (t.room p).bit VCONN_CTRL_EN = true ∧ (t.room p).bit CC_STAT_VCONN_LOCK = false := by
  rw [exec_vconnEnWrite, execVconnEnWrite]
  refine act_does ((s.live_iff p).1 hl).1 ?_
  simp (disch := decide) only [Room.writeVconnEn, Bool.not_eq_eq_eq_not, Bool.not_true, hclamp, Bool.true_and,
    ↓reduceIte, State.withQueue_room, State.posted_room, State.room_onRoomE, State.env_keeper, ((s.live_iff p).1 hl).2,
    Bool.true_eq_false, hatt, Room.bit_eq, Room.vconn_fld, Room.fld_off_apart, Room.fld_on, Nat.reduceBNe, Room.fld_off,
    bne_self_eq_false, and_self]

theorem exec_vconnOc_locks {s : State} {p : Fin 48} (hl : s.live p = true) (hon : (s.room p).bit CC_STAT_VCONN_ON = true) :
    ∃ t, exec (.vconnOc p true) s = .next t ∧ (t.room p).bit FAULT_VCONN_OC = true ∧
      (t.room p).bit CC_STAT_VCONN_LOCK = true ∧ (t.room p).bit CC_STAT_VCONN_ON = false := by
  rw [exec_vconnOc, execVconnOc]
  refine act_does (by simp [hl, hon]) ?_
  simp only [hon, Bool.and_self, if_true]
  simp only [Room.bit_eq, bne_iff_ne] at hon
  simp (disch := decide) only [Room.bit_eq, Bool.true_and, bne_iff_ne, ne_eq, Room.fault, ite_not,
    State.withQueue_room, State.posted_room, State.room_onRoomE, hon, ↓reduceIte, Room.terms_fld, Room.fld_on_apart,
    Room.fld_on, Nat.reduceBNe, Room.fld_onPd, Room.fld_off, bne_self_eq_false, and_self]

/-! ### The safe state of a port that its own Plan entry describes (R37, R270) -/

theorem State.lead_of_whole {s : State} {p : Fin 48} (h : s.whole p = true) : s.lead p = p := by
  have hlead : s.pl.leadOf p.val = p.val := by
    have hw : s.pl.whole p.val = true := by simp_all [State.whole]
    simpa [Plan.whole, Plan.follower, Plan.leadOf] using (Bool.and_eq_true_iff.1 hw).2
  rw [State.lead, hlead]
  exact Fin.ofNat_val_eq_self p

/-- What a refresh of the pin level keeps, the refresh of a gang keeps. -/
theorem State.gangLevel_room {P : Room → Prop} (hP : ∀ e r, P r → P (r.showLevel e)) (s : State) (p q : Fin 48)
    (h : P (s.room q)) : P ((s.gangLevel p).room q) := by
  unfold State.gangLevel
  generalize (s.pl.members p.val).drop 1 = l
  induction l generalizing s with
  | nil => exact h
  | cons m l ih =>
    refine ih _ ?_
    by_cases hm : Fin.ofNat 48 m = q
    · subst hm
      rw [State.room_onRoomE]
      exact hP _ _ h
    · rw [State.room_onRoomE_ne _ _ _ _ hm]
      exact h

theorem State.fld_gangLevel (s : State) (p q : Fin 48) {g : Field} (hg : Field.clear Room.showLevelW g = true) :
    ((s.gangLevel p).room q).fld g = (s.room q).fld g :=
  State.gangLevel_room (P := fun r => r.fld g = (s.room q).fld g) (fun e r h => (Room.showLevel_fld e r g hg).trans h) s p q rfl

theorem State.gangLevel_spares (s : State) (p q : Fin 48) (k : RoomPart) :
    Room.Spares k (s.room q) ((s.gangLevel p).room q) :=
  State.gangLevel_room (fun _ _ h => Room.showLevel_spares h) s p q (.refl k _)

theorem State.fld_enterSafe {s : State} {p : Fin 48} (hw : s.whole p = true) (f : Field) (retry : Bool) {g : Field}
    (hg : Field.clear Room.showLevelW g = true) :
    ((s.enterSafe p f retry).room p).fld g = ((s.room p).enterSafe (s.env p) f retry).fld g := by
  rw [State.enterSafe, State.fld_gangLevel _ _ _ hg, State.lead_of_whole hw, State.room_onRoomE]

theorem State.enterSafe_spares {s : State} {p : Fin 48} (hw : s.whole p = true) (f : Field) (retry : Bool) (k : RoomPart) :
    Room.Spares k ((s.room p).enterSafe (s.env p) f retry) ((s.enterSafe p f retry).room p) := by
  have h := State.gangLevel_spares (s.onRoomE p fun e r => r.enterSafe e f retry) p p k
  rw [State.room_onRoomE] at h
  rw [State.enterSafe, State.lead_of_whole hw]
  exact h

theorem Room.safe_enterSafe (e : Env) (r : Room) (f : Field) (retry : Bool) : (r.enterSafe e f retry).safe = true := by
  unfold Room.enterSafe
  dsimp only
  rw [(Room.outputsOff_spares (by decide) (.refl .safe _)).eq_safe]
  split_ifs <;> simp only [(Room.attemptFail_spares (by decide) (.refl .safe _)).eq_safe,
    (Room.armRetry_spares (by decide) (.refl .safe _)).eq_safe, Room.onConv_safe, Room.off_safe]

/-- The fields that entering the safe state writes beside the cause. -/
def Room.enterSafeRest : List Field :=
  [EVENT_FAULT, EVENT_SAFE_ENTER, RETRY_STAT_WAIT, RETRY_STAT_ATTEMPT] ++ Room.attemptFailW ++ Room.armRetryW ++ Room.outputsOffW

theorem Room.cause_enterSafe (e : Env) (r : Room) {f : Field} (retry : Bool) (hfits : f.fits = true) (hwidth : f.width ≠ 0)
    (hclear : Field.clear Room.enterSafeRest f = true) : (r.enterSafe e f retry).fld f = 1 := by
  simp only [Room.enterSafeRest, Field.clear_append, Field.clear_cons, Field.clear_nil, Bool.and_true, Bool.and_eq_true] at hclear
  obtain ⟨⟨⟨⟨hev, henter, hwait, hatt⟩, hfail⟩, harm⟩, hout⟩ := hclear
  unfold Room.enterSafe
  dsimp only
  rw [Room.outputsOff_fld _ _ _ hout]
  split_ifs <;> simp (disch := assumption) only [Room.attemptFail_fld, Room.armRetry_fld, Room.fault,
    Room.fld_onConv, Room.fld_off_apart, Room.fld_on_apart, Room.fld_onCc, Room.fld_on, Room.fld_mk, Room.fld_regs]

/-! ### Overvoltage and isolation of a line, loss of VBUS, lowering of Rp -/

theorem exec_ccOv_isolates {s : State} {p : Fin 48} (cc2 : Bool) (hl : s.live p = true) :
    ∃ t, exec (.ccOv p cc2 true) s = .next t ∧ (t.room p).bit FAULT_CC_OV = true ∧ (t.room p).safe = true ∧
      (t.room p).bit (if cc2 then CC_STAT_CC2_ISOL else CC_STAT_CC1_ISOL) = true ∧
      (t.room p).bit (if cc2 then CC_LEVEL_CC2_OV else CC_LEVEL_CC1_OV) = true := by
  obtain ⟨hw, hk⟩ := (s.live_iff p).1 hl
  rw [exec_ccOv, execCcOv]
  refine act_does hw ?_
  have hw2 : ∀ g : Room → Room, ((s.onRoom p fun r => r.ccOver s.now cc2 true).onRoom p g).whole p = true := fun g => hw
  simp only [State.keeps_onRoom, hk, Bool.and_self, if_true, State.withQueue_room, State.posted_room, Room.bit_eq,
    (State.enterSafe_spares (hw2 _) FAULT_CC_OV false .safe).eq_safe, Room.safe_enterSafe]
  rw [State.fld_enterSafe (hw2 _) _ _ (by decide), Room.cause_enterSafe _ _ _ (by decide) (by decide) (by decide)]
  cases cc2 <;>
  · simp only [Bool.false_eq_true, if_false, if_true]
    rw [State.fld_enterSafe (hw2 _) _ _ (by decide), State.fld_enterSafe (hw2 _) _ _ (by decide)]
    simp (disch := decide) only [Nat.reduceBNe, Room.ccOver, Bool.false_eq_true, ↓reduceIte, State.room_onRoom,
      Room.enterSafe_fld, Room.fld_on_apart, Room.fld_on, Room.fld_onCc, Room.fld_putB, Bool.toNat_true, and_self]

theorem exec_ccOv_ends {s : State} {p : Fin 48} (cc2 : Bool) (hl : s.live p = true) :
    ∃ t, exec (.ccOv p cc2 false) s = .next t ∧ (t.room p).safe = (s.room p).safe ∧
      (t.room p).bit (if cc2 then CC_LEVEL_CC2_OV else CC_LEVEL_CC1_OV) = false ∧
      (if cc2 then (t.room p).cc.ov2 else (t.room p).cc.ov1) = some s.now := by
  rw [exec_ccOv, execCcOv]
  refine act_does ((s.live_iff p).1 hl).1 ?_
  cases cc2 <;>
  · simp (disch := decide) only [Room.ccOver, Bool.false_eq_true, ↓reduceIte, State.keeps_onRoom, Bool.false_and,
      State.withQueue_room, State.posted_room, State.room_onRoom, Room.onCc_safe, Room.putB_safe, Room.bit_eq,
      Room.fld_onCc, Room.fld_putB, Bool.toNat_false, bne_self_eq_false, Room.onCc_cc, Room.putB_cc, and_self]

theorem exec_ccIsolationRelease_first {s : State} {p : Fin 48} (hl : s.live p = true) (hisol : (s.room p).bit CC_STAT_CC1_ISOL = true)
    (hdue : due s.now (s.room p).cc.ov1 10000 = true) :
    ∃ t, exec (.ccIsolationRelease p false) s = .next t ∧ (t.room p).bit CC_STAT_CC1_ISOL = false := by
  rw [exec_ccIsolationRelease, execCcIsolationRelease]
  refine act_does (by simp [hl, hisol, hdue]) ?_
  simp (disch := decide) only [Bool.false_eq_true, ↓reduceIte, State.withQueue_room, State.posted_room,
    State.room_onRoomE, Room.bit_eq, Room.terms_fld, Room.fld_onCc, Room.fld_off, bne_self_eq_false]

theorem exec_ccIsolationRelease_second {s : State} {p : Fin 48} (hl : s.live p = true) (hisol : (s.room p).bit CC_STAT_CC2_ISOL = true)
    (hdue : due s.now (s.room p).cc.ov2 10000 = true) :
    ∃ t, exec (.ccIsolationRelease p true) s = .next t ∧ (t.room p).bit CC_STAT_CC2_ISOL = false := by
  rw [exec_ccIsolationRelease, execCcIsolationRelease]
  refine act_does (by simp [hl, hisol, hdue]) ?_
  simp (disch := decide) only [↓reduceIte, State.withQueue_room, State.posted_room, State.room_onRoomE, Room.bit_eq,
    Room.terms_fld, Room.fld_onCc, Room.fld_off, bne_self_eq_false]

/-- Leaving the safe state changes no event. -/
theorem Room.detached_safeDetach (e : Env) (r : Room) : (r.safeDetach e).bit EVENT_DETACH = true := by
  unfold Room.safeDetach
  dsimp only
  split <;> simp (disch := decide) only [bit_eq, leaveSafe_fld, fld_on, Nat.reduceBNe]

theorem exec_vbusLost_detaches {s : State} {p : Fin 48} (hl : s.live p = true) (hlost : (s.room p).vbusLost (s.env p) = true) :
    ∃ t, exec (.vbusLost p) s = .next t ∧ (t.room p).bit EVENT_DETACH = true ∧
      ((s.room p).outOff = false → (t.room p).waits aUnSnk) := by
  have hsnk : (s.room p).ast = aSnk := by
    have h := hlost
    simp only [Room.vbusLost, Bool.and_eq_true, decide_eq_true_eq] at h
    exact h.1.1
  rw [exec_vbusLost, execVbusLost]
  refine act_does (by simp [hl, hlost]) ?_
  simp only [State.withQueue_room, State.posted_room, State.room_onRoomE]
  constructor
  · split
    · exact Room.detached_safeDetach _ _
    · simp (disch := decide) only [Room.detach, Room.bit_eq, Room.fld_off_apart, Room.conClear_fld, Room.enterA_fld,
        Room.startRemoval_fld, Room.pdClear_fld, Room.fld_on, Nat.reduceBNe]
  · intro hout
    have hsafe : (s.room p).inSafe = false := by simp_all [Room.outOff]
    have hd := Room.detach_waits (s.env p) hout
    rw [hsnk, if_neg (by decide)] at hd
    rw [hsafe]
    exact hd

theorem exec_rpLimitLower_ends {s : State} {p : Fin 48} (hl : s.live p = true) (hdue : due s.now (s.room p).cc.rpLower 60000 = true) :
    ∃ t, exec (.rpLimitLower p) s = .next t ∧ (t.room p).cc.rpLower = none := by
  rw [exec_rpLimitLower, execRpLimitLower]
  refine act_does (by simp [hl, hdue]) ?_
  simp only [State.withQueue_room, State.posted_room, State.room_onRoomE, Room.implicitVi_cc, Room.onCc_cc]

/-- Only the unattached states are left again for a level at their entry. -/
theorem Room.enterA_of_ne (e : Env) (r : Room) {st : Nat} (hst : st < 16) (hsnk : st ≠ aUnSnk) (hsrc : st ≠ aUnSrc) :
    r.enterA e st = r.enterState e st := by
  have hast := r.ast_enterState e hst
  have hexit : (r.enterState e st).levelExit = none := by simp [Room.levelExit, hast, hsnk, hsrc]
  rw [Room.enterA, hexit]

/-- Rd on a line takes UNATTACHED_SRC to ATTACHWAIT_SRC. -/
theorem Room.advance_unSrc_level (e : Env) {r : Room} (hast : r.ast = aUnSrc) (hkind : r.kind1 = 2 ∨ r.kind2 = 2)
    (hout : r.outOff = false) : (r.advance e allTags).ast = aWaitSrc := by
  obtain ⟨hsafe, hslot⟩ : r.inSafe = false ∧ r.slotHold = false := by simpa [Room.outOff] using hout
  have hexit : r.exit? e = some ([.level], .to aWaitSrc) := by
    have hkind' : (decide (r.kind1 = 2) || decide (r.kind2 = 2)) = true := by simpa using hkind
    simp only [Room.exit?, Room.exits, hast, List.find?_cons, hkind', Option.map_some]
  have htag : allTags.any [Tag.level].contains = true := rfl
  simp only [Room.advance, hexit, htag, Bool.not_true, Bool.false_eq_true, if_false, hsafe, hslot]
  show (r.enterA e aWaitSrc).ast = aWaitSrc
  rw [Room.enterA_of_ne e r (by decide) (by decide) (by decide), Room.ast_enterState e r (by decide)]

theorem exec_ccLevelChange_attaching {s : State} {p : Fin 48} (l2 : Fin 8) (hl : s.live p = true) (hast : (s.room p).ast = aUnSrc)
    (hout : (s.room p).outOff = false) (hterm : (s.room p).cc.term1 = .rp) (hlvl : (s.room p).fld CC_LEVEL_CC1_LVL ≠ 1) :
    ∃ t, exec (.ccLevelChange p 1 l2) s = .next t ∧ (t.room p).ast = aWaitSrc := by
  obtain ⟨hw, hk⟩ := (s.live_iff p).1 hl
  rw [exec_ccLevelChange, execCcLevelChange]
  refine act_does hw ?_
  simp only [hk, if_true, State.withQueue_room, State.posted_room, State.room_onRoomE]
  have hfits : codeFits (s.room p).cc.term1 1 = true := by rw [hterm]; rfl
  have hsnk : (s.room p).fld CC_STAT_ASTATE = aUnSrc := hast
  rw [Room.outOff_eq] at hout
  by_cases h2 : codeFits (s.room p).cc.term2 l2 = true ∧ ¬ l2.val = (s.room p).fld CC_LEVEL_CC2_LVL
  · refine Room.advance_unSrc_level _ ?_ (.inl ?_) ?_
    · simp (disch := decide) only [Room.ast, Room.newLevels, h2, Bool.true_and, bne_iff_ne, ne_eq, not_false_eq_true,
        ↓reduceIte, Fin.isValue, Fin.coe_ofNat_eq_mod, Nat.one_mod, hfits, hlvl.symm, Room.refreshPartner_fld,
        Room.audioOff_fld, Room.fld_onCc, Room.fld_put_apart, hsnk, OfNat.ofNat_eq_ofNat, Nat.succ_ne_self,
        decide_false, Bool.false_and, Bool.false_eq_true]
    · simp (disch := decide) only [Room.kind1, lineKind, Room.newLevels, Room.ast, h2, Bool.true_and, bne_iff_ne,
        ne_eq, not_false_eq_true, ↓reduceIte, hterm, Fin.isValue, Fin.coe_ofNat_eq_mod, Nat.one_mod, show codeFits .rp 1
        = true from rfl, hlvl.symm, Room.refreshPartner_fld, Room.audioOff_fld, Room.fld_onCc, Room.fld_put_apart, hsnk,
        OfNat.ofNat_eq_ofNat, Nat.succ_ne_self, decide_false, Bool.false_and, Bool.false_eq_true,
        Room.refreshPartner_cc, Room.audioOff_term1, Room.onCc_cc, Room.put_cc, Room.fld_put, Nat.one_mod_two_pow,
        one_ne_zero]
    · rw [Room.outOff_eq]
      simp (disch := decide) only [Room.newLevels, Room.ast, h2, Bool.true_and, bne_iff_ne, ne_eq, not_false_eq_true,
        ↓reduceIte, Fin.isValue, Fin.coe_ofNat_eq_mod, Nat.one_mod, hfits, hlvl.symm, Room.refreshPartner_fld,
        Room.audioOff_fld, Room.fld_onCc, Room.fld_put_apart, hsnk, OfNat.ofNat_eq_ofNat, Nat.succ_ne_self,
        decide_false, Bool.false_and, Bool.false_eq_true, Room.refreshPartner_held, Room.audioOff_held, Room.onCc_held,
        Room.put_held, hout]
  · refine Room.advance_unSrc_level _ ?_ (.inl ?_) ?_
    · simp (disch := decide) only [Room.ast, Room.newLevels, Bool.and_eq_true, bne_iff_ne, ne_eq, h2, ↓reduceIte,
        Fin.isValue, Fin.coe_ofNat_eq_mod, Nat.one_mod, hfits, Bool.true_and, hlvl.symm, not_false_eq_true,
        Room.refreshPartner_fld, Room.audioOff_fld, Room.fld_onCc, Room.fld_put_apart, hsnk, OfNat.ofNat_eq_ofNat,
        Nat.succ_ne_self, decide_false, Bool.false_and, Bool.false_eq_true]
    · simp (disch := decide) only [Room.kind1, lineKind, Room.newLevels, Room.ast, Bool.and_eq_true, bne_iff_ne,
        ne_eq, h2, ↓reduceIte, hterm, Fin.isValue, Fin.coe_ofNat_eq_mod, Nat.one_mod, show codeFits .rp 1 = true from
        rfl, Bool.true_and, hlvl.symm, not_false_eq_true, Room.refreshPartner_fld, Room.audioOff_fld, Room.fld_onCc,
        Room.fld_put_apart, hsnk, OfNat.ofNat_eq_ofNat, Nat.succ_ne_self, decide_false, Bool.false_and,
        Bool.false_eq_true, Room.refreshPartner_cc, Room.audioOff_term1, Room.onCc_cc, Room.put_cc, Room.fld_put,
        Nat.one_mod_two_pow, one_ne_zero]
    · rw [Room.outOff_eq]
      simp (disch := decide) only [Room.newLevels, Room.ast, Bool.and_eq_true, bne_iff_ne, ne_eq, h2, ↓reduceIte,
        Fin.isValue, Fin.coe_ofNat_eq_mod, Nat.one_mod, hfits, Bool.true_and, hlvl.symm, not_false_eq_true,
        Room.refreshPartner_fld, Room.audioOff_fld, Room.fld_onCc, Room.fld_put_apart, hsnk, OfNat.ofNat_eq_ofNat,
        Nat.succ_ne_self, decide_false, Bool.false_and, Bool.false_eq_true, Room.refreshPartner_held,
        Room.audioOff_held, Room.onCc_held, Room.put_held, hout]

/-- Settles O22. -/
theorem ccLineEvents : Obligations.CcLineEvents :=
  ⟨fun _ _ l1 l2 hw hk => exec_ccLevelChange_shadow l1 l2 hw hk,
    fun _ _ l2 hl hast hout hterm hlvl => exec_ccLevelChange_attaching l2 hl hast hout hterm hlvl,
    fun _ _ mv hw => exec_vbusLevelChange_shows mv hw, fun _ _ hl hc => exec_vconnEnWrite_off hl hc,
    fun _ _ hl hatt hc => exec_vconnEnWrite_on hl hatt hc, fun _ _ hl hon => exec_vconnOc_locks hl hon,
    fun _ _ cc2 hl => exec_ccOv_isolates cc2 hl, fun _ _ cc2 hl => exec_ccOv_ends cc2 hl,
    fun _ _ hl hi hd => exec_ccIsolationRelease_first hl hi hd, fun _ _ hl hi hd => exec_ccIsolationRelease_second hl hi hd,
    fun _ _ hl h => exec_vbusLost_detaches hl h, fun _ _ hl hd => exec_rpLimitLower_ends hl hd⟩

end Sys2Proof.Machine

namespace Sys2Proof.Machine

set_option Elab.async false

/-! ## The exits of the attach states (R137, R141) -/

theorem Room.advance_exit {e : Env} {r : Room} {tags ts : List Tag} {x : Exit} (hexit : r.exit? e = some (ts, x))
    (htag : tags.any ts.contains = true) (hout : r.outOff = false) : r.advance e tags = r.takeExit e x := by
  obtain ⟨hsafe, hslot⟩ : r.inSafe = false ∧ r.slotHold = false := by simpa [Room.outOff] using hout
  simp only [Room.advance, hexit, htag, Bool.not_true, Bool.false_eq_true, if_false, hsafe, hslot]

theorem startState_cases (e : Env) : startState e = aUnSrc ∨ startState e = aUnSnk := by
  unfold startState
  split <;> simp

theorem unSrcOf_cases (e : Env) : unSrcOf e = aUnSrc ∨ unSrcOf e = aUnSnk := startState_cases e

/-- Entry to a state without attachment. -/
theorem Room.enterA_unattached_waits (e : Env) {r : Room} {st : Nat} (hst : st = aUnSrc ∨ st = aUnSnk) (hout : r.outOff = false) :
    (r.enterA e st).waits st :=
  Room.enterA_waits e (by rcases hst with rfl | rfl <;> decide) (by rcases hst with rfl | rfl <;> decide) hout

theorem Room.takeExit_unattached_waits (e : Env) {r : Room} {st : Nat} (hst : st = aUnSrc ∨ st = aUnSnk) (hout : r.outOff = false) :
    (r.takeExit e (.to st)).waits st := by
  have hdbg : ¬((decide (st = aDbgSnk) || decide (st = aDbgSrc)) = true) := by rcases hst with rfl | rfl <;> decide
  simp only [Room.takeExit, hdbg, if_false]
  exact Room.enterA_unattached_waits e hst hout

/-- A Plan entry that describes its own port. -/
theorem State.entry_of_whole {s : State} {p : Fin 48} (h : s.whole p = true) : (s.env p).port = s.pl.port p.val := by
  have hw : s.pl.whole p.val = true := by simp_all [State.whole]
  have hlead : s.pl.leadOf p.val = p.val := by
    simpa [Plan.whole, Plan.follower, Plan.leadOf] using (Bool.and_eq_true_iff.1 hw).2
  show s.pl.entry p.val = _
  rw [Plan.entry, hlead]

theorem exec_enableSet_enables {s : State} {p : Fin 48} (hl : s.live p = true) (hast : (s.room p).ast = aDisabled)
    (hout : (s.room p).outOff = false) (hclamp : s.clampBit (.roomReg p.val 0x004) CTRL_ENABLE true = true) :
    ∃ t, exec (.enableSet p) s = .next t ∧ (t.room p).bit CTRL_ENABLE = true ∧ (t.room p).waits (startState (s.env p)) := by
  obtain ⟨hw, hk⟩ := (s.live_iff p).1 hl
  rw [exec_enableSet, execEnableSet]
  refine act_does hw ?_
  have hast2 : (((s.room p).on CTRL_ENABLE).on STATUS_KEEPER).ast = aDisabled := by
    unfold Room.ast at hast ⊢
    simp (disch := decide) only [Room.fld_on_apart, hast]
  have hout2 : (((s.room p).on CTRL_ENABLE).on STATUS_KEEPER).outOff = false := by
    rw [Room.outOff_eq] at hout ⊢
    simp (disch := decide) only [Room.on_held, Room.fld_on_apart, hout]
  simp only [hclamp, hk, Bool.not_true, Bool.false_eq_true, if_false, if_true, State.withQueue_room, State.posted_room,
    State.room_onRoomE, Room.enable, hast2, hout2, Bool.not_false, decide_true, Bool.and_self]
  exact ⟨by simp (disch := decide) only [Room.bit_eq, Room.enterA_fld, Room.fld_on_apart, Room.fld_on, Nat.reduceBNe], Room.enterA_unattached_waits _ (startState_cases _) hout2⟩

theorem exec_enableClear_disables {s : State} {p : Fin 48} (hl : s.live p = true)
    (hclamp : s.clampBit (.roomReg p.val 0x004) CTRL_ENABLE false = false) :
    ∃ t, exec (.enableClear p) s = .next t ∧ (t.room p).bit CTRL_ENABLE = false ∧ (t.room p).ast = aDisabled := by
  obtain ⟨hw, hk⟩ := (s.live_iff p).1 hl
  rw [exec_enableClear, execEnableClear]
  refine act_does hw ?_
  simp only [hclamp, hk, Bool.false_eq_true, if_false, if_true, State.withQueue_room, State.posted_room,
    State.room_onRoomE, Room.disable]
  constructor
  · simp (disch := decide) only [Room.bit_eq, Room.conClear_fld, Room.enterA_fld, Room.fld_ite, Room.setGrant_fld,
      Room.pdClear_fld, Room.fld_off, Room.startRemoval_fld, Room.loopOff_fld, Room.openSwitch_fld, ite_self,
      bne_self_eq_false]
  · rw [Room.enterA_of_ne _ _ (by decide) (by decide) (by decide)]
    exact (Room.conClear_fld _ _ _ (by decide)).trans (Room.ast_enterState _ _ (by decide))

theorem Room.grant_setGrant (r : Room) {w : Nat} (h : w < 2 ^ GRANT_GRANT_W.width) : (r.setGrant w).grant = w := by
  unfold Room.setGrant
  split
  · rename_i hw
    exact hw.symm
  · unfold Room.grant
    simp (disch := decide) only [fld_on_apart, fld_put]
    exact Nat.mod_eq_of_lt h

theorem Room.fld_cmd_openSwitch (r : Room) : r.openSwitch.fld SW_STAT_CMD = 0 := by
  unfold Room.openSwitch
  simp (disch := decide) only [fld_onConv, fld_off_apart, fld_off]

theorem exec_portRemovalEnd_ends {s : State} {p : Fin 48} (hl : s.live p = true) (hrem : (s.room p).cc.removing = true)
    (hoff : (s.room p).loop = lOff) : ∃ t, exec (.portRemovalEnd p) s = .next t ∧ (t.room p).grant = 0 ∧
      (t.room p).bit SW_STAT_CMD = false ∧ (t.room p).cc.removing = false := by
  rw [exec_portRemovalEnd, execPortRemovalEnd]
  refine act_does (by simp [hl, hrem, hoff]) ?_
  have hgrant : ((s.room p).openSwitch.setGrant 0).fld GRANT_GRANT_W = 0 := Room.grant_setGrant _ (by decide)
  simp (disch := decide) only [Room.grant, State.withQueue_room, State.posted_room, State.room_onRoomE,
    Room.refreshIlim_fld, Room.fld_onCc, hgrant, Room.bit_eq, Room.setGrant_fld, Room.fld_cmd_openSwitch,
    bne_self_eq_false, (Room.refreshIlim_spares (.refl .cc _)).eq_cc, Room.onCc_cc, and_self]


theorem exec_tccdebounce_sink {s : State} {p : Fin 48} (hl : s.live p = true) (hout : (s.room p).outOff = false)
    (hast : (s.room p).ast = aWaitSnk) (hrp : (s.room p).rpOne = true) (htcc : (s.room p).stable (s.env p) Debounce.tcc = true)
    (htry : (s.pl.port p.val).trySrc = false) (hvbus : (s.room p).bit CC_STAT_VBUS_PRESENT = true) :
    ∃ t, exec (.tccdebounce p) s = .next t ∧ (t.room p).ast = aSnk ∧ (t.room p).bit EVENT_ATTACH = true := by
  have hport := State.entry_of_whole ((s.live_iff p).1 hl).1
  have hone : (s.room p).rpBoth = false := by
    simp only [Room.rpOne, Room.rpBoth, Bool.or_eq_true, Bool.and_eq_true, decide_eq_true_eq] at hrp ⊢
    simp only [Bool.and_eq_false_iff, decide_eq_false_iff_not]
    omega
  have hexit : (s.room p).exit? (s.env p) = some ([.tcc], .snk) := by
    simp [Room.exit?, Room.exits, hast, hone, hrp, htcc, hport, htry, hvbus]
  rw [exec_tccdebounce, execTccdebounce]
  refine act_does hl ?_
  rw [State.withQueue_room, State.posted_room, State.room_onRoomE, Room.advance_exit hexit rfl hout, Room.takeExit, Room.attachSnk]
  rw [Room.enterA_of_ne _ _ (by decide) (by decide) (by decide)]
  have hsnk : ∀ r : Room, (r.enterState (s.env p) aSnk).fld CC_STAT_ASTATE = aSnk := fun r => r.ast_enterState _ (by decide)
  simp (disch := decide) only [Room.ast, Room.fld_off_apart, Room.fld_on_apart, Room.enterState_fld, Room.fld_onCc,
    Room.fld_putB_apart, Room.fld_onConv, Room.closeSwitch_fld, Room.refreshVlim_fld, Room.implicitVi_fld,
    Room.fld_onPd, hsnk, Room.bit_eq, Room.fld_on, Nat.reduceBNe, and_self]

theorem exec_tpddebounce_detaches {s : State} {p : Fin 48} (hl : s.live p = true) (hout : (s.room p).outOff = false)
    (hast : (s.room p).ast = aSrc) (hopen : (s.room p).bmcOpen (s.env p) = true) :
    ∃ t, exec (.tpddebounce p) s = .next t ∧ (t.room p).bit EVENT_DETACH = true ∧ (t.room p).waits (unSrcOf (s.env p)) := by
  have hexit : (s.room p).exit? (s.env p) = some ([.tpd], .det) := by simp [Room.exit?, Room.exits, hast, hopen]
  have hd := Room.detach_waits (s.env p) hout
  rw [hast, if_pos rfl] at hd
  rw [exec_tpddebounce, execTpddebounce]
  refine act_does hl ?_
  rw [State.withQueue_room, State.posted_room, State.room_onRoomE, Room.advance_exit hexit rfl hout, Room.takeExit]
  refine ⟨?_, hd⟩
  simp (disch := decide) only [Room.detach, Room.bit_eq, Room.fld_off_apart, Room.conClear_fld, Room.enterA_fld,
    Room.startRemoval_fld, Room.pdClear_fld, Room.fld_on, Nat.reduceBNe]

theorem exec_ttryccdebounce_asks {s : State} {p : Fin 48} (hl : s.live p = true) (hout : (s.room p).outOff = false)
    (hast : (s.room p).ast = aTrySrc) (hask : (s.room p).askHolds (s.env p) = true) (hno : (s.room p).cc.asking = false)
    (hretry : (s.room p).cc.retry = none) :
    ∃ t, exec (.ttryccdebounce p) s = .next t ∧ (t.room p).cc.asking = true ∧ (t.room p).cc.askAt = s.now := by
  have hexit : (s.room p).exit? (s.env p) = some ([.ttry], .ask) := by
    simp [Room.exit?, Room.exits, hast, hask, hno, hretry]
  rw [exec_ttryccdebounce, execTtryccdebounce]
  refine act_does hl ?_
  rw [State.withQueue_room, State.posted_room, State.room_onRoomE, Room.advance_exit hexit rfl hout]
  exact ⟨rfl, rfl⟩

/-- A command whose timer takes the port into a state without attachment. -/
theorem advance_waits {s : State} {p : Fin 48} {tags ts : List Tag} {st : Nat} (hl : s.live p = true)
    (hout : (s.room p).outOff = false) (hexit : (s.room p).exit? (s.env p) = some (ts, .to st))
    (htag : tags.any ts.contains = true) (hst : st = aUnSrc ∨ st = aUnSnk) :
    ∃ t, act s (s.live p) (fun s => s.onRoomE p fun e r => r.advance e tags) = .next t ∧ (t.room p).waits st := by
  refine act_does hl ?_
  rw [State.withQueue_room, State.posted_room, State.room_onRoomE, Room.advance_exit hexit htag hout]
  exact Room.takeExit_unattached_waits _ hst hout

theorem exec_tdrptry_ends {s : State} {p : Fin 48} (hl : s.live p = true) (hout : (s.room p).outOff = false)
    (hast : (s.room p).ast = aTryWaitSrc) (hrd : (s.room p).rdNone = true)
    (hold : old s.now (s.room p).cc.entry (s.room p).cc.tDrpTry = true) :
    ∃ t, exec (.tdrptry p) s = .next t ∧ (t.room p).waits aUnSnk := by
  have hone : (s.room p).rdOne = false := by
    simp only [Room.rdNone, Bool.and_eq_true, bne_iff_ne] at hrd
    simp [Room.rdOne, hrd]
  have hexit : (s.room p).exit? (s.env p) = some ([.tdrp], .to aUnSnk) := by
    simp [Room.exit?, Room.exits, hast, hrd, hold, Room.askHolds, hone]
  exact advance_waits hl hout hexit rfl (.inr rfl)

theorem exec_terrorrecovery_ends {s : State} {p : Fin 48} (hl : s.live p = true) (hout : (s.room p).outOff = false)
    (hast : (s.room p).ast = aErrRec) (hold : old s.now (s.room p).cc.entry (s.room p).cc.tErr = true) :
    ∃ t, exec (.terrorrecovery p) s = .next t ∧ (t.room p).waits (startState (s.env p)) := by
  have hexit : (s.room p).exit? (s.env p) = some ([.terr], .to (startState (s.env p))) := by
    simp [Room.exit?, Room.exits, hast, hold]
  exact advance_waits hl hout hexit rfl (startState_cases _)

theorem exec_drpToggle_toggles {s : State} {p : Fin 48} (hl : s.live p = true) (hout : (s.room p).outOff = false)
    (hast : (s.room p).ast = aUnSnk) (h1 : (s.room p).kind1 ≠ 3) (h2 : (s.room p).kind2 ≠ 3) (hrole : (s.pl.port p.val).role = 2)
    (hold : old s.now (s.room p).cc.entry (s.room p).cc.tToggle = true) :
    ∃ t, exec (.drpToggle p) s = .next t ∧ (t.room p).waits aUnSrc := by
  have hport := State.entry_of_whole ((s.live_iff p).1 hl).1
  have hexit : (s.room p).exit? (s.env p) = some ([.toggle], .to aUnSrc) := by
    simp [Room.exit?, Room.exits, hast, h1, h2, hport, hrole, hold]
  exact advance_waits hl hout hexit rfl (.inl rfl)

theorem exec_budgetWait_asks {s : State} {p : Fin 48} (hfree : s.free p = true) (hwait : (s.room p).bit CC_STAT_BUDGET_WAIT = true)
    (hdue : due s.now (s.room p).cc.retry 100000 = true) (hask : (s.room p).askHolds (s.env p) = true) :
    ∃ t, exec (.budgetWait p) s = .next t ∧ (t.room p).cc.asking = true := by
  rw [exec_budgetWait, execBudgetWait]
  refine act_does (by simp [hfree, hwait, hdue, hask]) ?_
  rw [State.withQueue_room, State.posted_room, State.room_onRoomE]
  rfl

theorem exec_errorRecovery_enters {s : State} {p : Fin 48} (hl : s.live p = true) (hast : (s.room p).ast ≠ aDisabled)
    (hout : (s.room p).outOff = false) : ∃ t, exec (.errorRecovery p) s = .next t ∧ (t.room p).ast = aErrRec := by
  rw [exec_errorRecovery, execErrorRecovery]
  refine act_does hl ?_
  rw [State.withQueue_room, State.posted_room, State.room_onRoomE, Room.errorRecovery, if_neg (by simp [hast, hout])]
  dsimp only
  rw [Room.enterA_of_ne _ _ (by decide) (by decide) (by decide)]
  exact (Room.conClear_fld _ _ _ (by decide)).trans (Room.ast_enterState _ _ (by decide))

/-! ### The order in which asks are answered (R29, R141) -/

theorem Ask.before_irrefl (a : Ask) : a.before a = false := by
  simp [Ask.before]

theorem Ask.before_of_not {a b : Ask} (h : b.before a = false) (hne : a ≠ b) : a.before b = true := by
  obtain ⟨a1, a2, a3⟩ := a
  obtain ⟨b1, b2, b3⟩ := b
  simp only [Ask.mk.injEq, ne_eq] at hne
  simp only [Ask.before, Bool.or_eq_false_iff, decide_eq_false_iff_not, Bool.and_eq_false_iff, Bool.or_eq_true,
    decide_eq_true_eq, Bool.and_eq_true] at h ⊢
  omega

theorem Ask.insert_perm (a : Ask) (l : List Ask) : (a.insert l).Perm (a :: l) := by
  induction l with
  | nil => exact .refl _
  | cons b l ih =>
    unfold Ask.insert
    split
    · exact .refl _
    · exact (ih.cons b).trans (.swap a b l)

theorem Ask.sort_perm (l : List Ask) : (Ask.sort l).Perm l := by
  induction l with
  | nil => exact .refl _
  | cons a l ih => exact (Ask.insert_perm a _).trans (ih.cons a)

/-- The ask that none precedes is served first. -/
theorem Ask.sort_head {b : Ask} {l : List Ask} (hb : b ∈ l) (hmin : ∀ x ∈ l, x.before b = false) :
    ∃ l', Ask.sort l = b :: l' := by
  induction l with
  | nil => exact absurd hb List.not_mem_nil
  | cons a l ih =>
    show ∃ l', a.insert (Ask.sort l) = b :: l'
    by_cases hl : b ∈ l
    · obtain ⟨l', hl'⟩ := ih hl fun x hx => hmin x (List.mem_cons_of_mem a hx)
      refine ⟨a.insert l', ?_⟩
      rw [hl', Ask.insert, if_neg (by simp [hmin a List.mem_cons_self])]
    · obtain rfl : b = a := (List.mem_cons.1 hb).resolve_right hl
      cases hs : Ask.sort l with
      | nil => exact ⟨[], rfl⟩
      | cons c l' =>
        have hc : c ∈ l := (Ask.sort_perm l).mem_iff.1 (hs ▸ List.mem_cons_self)
        have hbc : b.before c = true := Ask.before_of_not (hmin c (List.mem_cons_of_mem b hc)) fun h => hl (h ▸ hc)
        exact ⟨c :: l', by rw [Ask.insert, if_pos hbc]⟩

theorem State.num_portAsk {s : State} {p : Fin 48} {a : Ask} (h : s.portAsk p = some a) : a.num = p.val := by
  unfold State.portAsk at h
  dsimp only at h
  split at h
  · cases h
  · split at h
    · cases h; rfl
    · split at h
      · cases h; rfl
      · cases h

theorem State.num_chargerAsk {s : State} {a : Ask} (h : s.chargerAsk = some a) : a.num = 48 := by
  unfold State.chargerAsk at h
  split at h
  · cases h; rfl
  · cases h

theorem State.asks_nodup (s : State) : s.asks.Nodup := by
  unfold State.asks
  refine List.Nodup.append ?_ ?_ ?_
  · refine List.Nodup.filterMap (fun p q a hp hq => ?_) (List.nodup_finRange 48)
    exact Fin.ext ((State.num_portAsk hp).symm.trans (State.num_portAsk hq))
  · cases s.chargerAsk with
    | none => exact List.nodup_nil
    | some a => exact List.nodup_singleton a
  · intro a hport hchg
    obtain ⟨p, -, hp⟩ := List.mem_filterMap.1 hport
    have h1 := State.num_portAsk hp
    have h2 := State.num_chargerAsk (Option.mem_toList.1 hchg)
    omega

/-- Two asks of one port are one ask. -/
theorem State.ask_unique {s : State} {q : Fin 48} {b x : Ask} (hb : s.portAsk q = some b) (hx : x ∈ s.asks)
    (hnum : x.num = q.val) : x = b := by
  rcases List.mem_append.1 hx with hport | hchg
  · obtain ⟨p, -, hp⟩ := List.mem_filterMap.1 hport
    obtain rfl : p = q := Fin.ext ((State.num_portAsk hp).symm.trans hnum)
    exact Option.some.inj (hp.symm.trans hb)
  · have h2 := State.num_chargerAsk (Option.mem_toList.1 hchg)
    omega

theorem State.portAsk_mem_asks {s : State} {q : Fin 48} {b : Ask} (hb : s.portAsk q = some b) : b ∈ s.asks :=
  List.mem_append_left _ (List.mem_filterMap.2 ⟨q, List.mem_finRange q, hb⟩)

/-- An answer changes no Room but that of the port it answers. -/
theorem State.room_serve_ne (s : State) {a : Ask} {q : Fin 48} (h : a.num ≠ q.val) : (s.serve a).room q = s.room q := by
  unfold State.serve
  split
  · rename_i hlt
    have hne : (⟨a.num, hlt⟩ : Fin 48) ≠ q := fun he => h (congrArg Fin.val he)
    dsimp only
    split
    · rw [State.answerAsk, State.room_onRoomE_ne _ _ _ _ hne, State.answer, State.room_onRoom_ne _ _ _ _ hne]
    · rw [State.answerAttach, State.room_onRoomE_ne _ _ _ _ hne]
  · unfold State.answerChg State.refreshChg
    dsimp only
    split
    · split
      · rfl
      · split <;> rfl
    · rfl

theorem State.serveTo_first {s : State} {a : Ask} (h : ∀ x ∈ s.asks, x.before a = false) : s.serveTo a = s.serve a := by
  have hnil : s.asks.filter (·.before a) = [] := List.filter_eq_nil_iff.2 fun x hx => by simp [h x hx]
  rw [State.serveTo, hnil]
  rfl

theorem State.room_foldl_serve_ne (s : State) {q : Fin 48} {l : List Ask} (h : ∀ x ∈ l, x.num ≠ q.val) :
    (l.foldl State.serve s).room q = s.room q := by
  induction l generalizing s with
  | nil => rfl
  | cons x l ih =>
    rw [List.foldl_cons, ih _ fun y hy => h y (List.mem_cons_of_mem x hy), State.room_serve_ne s (h x List.mem_cons_self)]

/-- The ask that comes before all others is answered first, and no later answer touches its Room. -/
theorem State.room_serveTo_front {s : State} {p q : Fin 48} {a b : Ask} (ha : s.portAsk p = some a) (hb : s.portAsk q = some b)
    (hba : b.before a = true) (hmin : ∀ x ∈ s.asks, x.before b = false) : (s.serveTo a).room q = (s.serve b).room q := by
  have hab : a ≠ b := fun h => by simp [h, Ask.before_irrefl] at hba
  have hmem : b ∈ s.asks.filter (·.before a) := List.mem_filter.2 ⟨State.portAsk_mem_asks hb, hba⟩
  obtain ⟨l, hl⟩ := Ask.sort_head hmem fun x hx => hmin x (List.mem_filter.1 hx).1
  have hperm := Ask.sort_perm (s.asks.filter (·.before a))
  have hnodup : (b :: l).Nodup := hl ▸ hperm.nodup_iff.2 (s.asks_nodup.filter _)
  have hrest : ∀ x ∈ l, x.num ≠ q.val := by
    intro x hx hnum
    have hxa : x ∈ s.asks := (List.mem_filter.1 (hperm.mem_iff.1 (hl ▸ List.mem_cons_of_mem b hx))).1
    exact (List.nodup_cons.1 hnodup).1 (State.ask_unique hb hxa hnum ▸ hx)
  have hanum : a.num ≠ q.val := fun h => hab (State.ask_unique hb (State.portAsk_mem_asks ha) h)
  rw [State.serveTo, hl, State.room_serve_ne _ hanum, List.foldl_cons, State.room_foldl_serve_ne _ hrest]

/-! ### The attach grant (R141) -/

theorem Room.attachSrc_attaches (e : Env) (rp : Nat) (r : Room) :
    (r.attachSrc e rp).ast = aSrc ∧ (r.attachSrc e rp).grant = r.grant := by
  unfold Room.attachSrc
  dsimp only
  rw [Room.enterA_of_ne _ _ (by decide) (by decide) (by decide)]
  have hsrc : ∀ r : Room, (r.enterState e aSrc).fld CC_STAT_ASTATE = aSrc := fun r => r.ast_enterState _ (by decide)
  simp (disch := decide) only [ast, fld_on_apart, enterState_fld, fld_put_apart, fld_onCc, fld_putB_apart,
    loopStart_fld, closeSwitch_fld, refreshVlim_fld, implicitVi_fld, fld_onPd, hsrc, grant, and_self]

theorem Room.attachAnswer_attaches (e : Env) {w : Nat} {r : Room} (hask : r.askHolds e = true) (hw : 15 ≤ w)
    (hlt : w < 2 ^ GRANT_GRANT_W.width) : (r.attachAnswer e w).ast = aSrc ∧ (r.attachAnswer e w).grant = w := by
  have hask' : (r.onCc fun c => { c with asking := false }).askHolds e = true := hask
  unfold Room.attachAnswer
  simp only [hask', Bool.not_true, Bool.false_eq_true, if_false, if_pos hw]
  obtain ⟨h1, h2⟩ := Room.attachSrc_attaches e (if 3000 ≤ e.port.imax then 2 else 1)
    ((r.onCc fun c => { c with asking := false }).setGrant w)
  exact ⟨h1, h2.trans (Room.grant_setGrant _ hlt)⟩

theorem State.serve_attach {s : State} {q : Fin 48} {b : Ask} (hno : (s.room q).fld GRANT_ASK_STATE ≠ 1)
    (hb : s.portAsk q = some b) (hask : (s.room q).askHolds (s.env q) = true) (hav : 15 ≤ s.availFor q) :
    ((s.serve b).room q).ast = aSrc ∧ ((s.serve b).room q).grant = max (s.room q).grant 15 := by
  have hnum := State.num_portAsk hb
  have hq : (⟨b.num, hnum ▸ q.isLt⟩ : Fin 48) = q := Fin.ext hnum
  have hgrant : (s.room q).grant < 2 ^ GRANT_GRANT_W.width := Regs.fld_lt _ _
  have hlt : max (s.room q).grant 15 < 2 ^ GRANT_GRANT_W.width := max_lt hgrant (by decide)
  have hserve : s.serve b = s.answerAttach q := by
    simp only [State.serve, hnum, q.isLt, dif_pos, Fin.eta, hno, if_false]
  rw [hserve, State.answerAttach, State.room_onRoomE, min_eq_left hav]
  exact Room.attachAnswer_attaches _ hask (le_max_right _ _) hlt

theorem exec_attachGrant_serves {s : State} {p : Fin 48} {a : Ask} (hno : (s.room p).fld GRANT_ASK_STATE ≠ 1)
    (ha : s.portAsk p = some a) : ∃ t, exec (.attachGrant p) s = .next t ∧ ∀ q, t.room q = (s.serveTo a).room q := by
  rw [exec_attachGrant, execAttachGrant, if_neg hno, ha]
  show ∃ t, act s true (fun s => s.serveTo a) = .next t ∧ _
  refine act_does rfl ?_
  intro q
  rw [State.withQueue_room, State.posted_room]

/-- Settles O23. -/
theorem attachStates : Obligations.AttachStates := by
  refine ⟨fun _ _ hl ha ho hc => exec_enableSet_enables hl ha ho hc, fun _ _ hl hc => exec_enableClear_disables hl hc,
    fun _ _ hl hr ho => exec_portRemovalEnd_ends hl hr ho,
    fun _ _ hl ho ha hrp hs ht hv => exec_tccdebounce_sink hl ho ha hrp hs ht hv,
    fun _ _ hl ho ha hopen => exec_tpddebounce_detaches hl ho ha hopen,
    fun _ _ hl ho ha hask hno hr => exec_ttryccdebounce_asks hl ho ha hask hno hr,
    fun _ _ hl ho ha hrd hold => exec_tdrptry_ends hl ho ha hrd hold,
    fun _ _ hl ho ha hold => exec_terrorrecovery_ends hl ho ha hold,
    fun _ _ hl ho ha h1 h2 hr hold => exec_drpToggle_toggles hl ho ha h1 h2 hr hold, ?_, ?_,
    fun _ _ hf hw hd hask => exec_budgetWait_asks hf hw hd hask, fun _ _ hl ha ho => exec_errorRecovery_enters hl ha ho⟩
  · intro s p a hno ha hmin hask hav
    obtain ⟨t, hexec, ht⟩ := exec_attachGrant_serves hno ha
    rw [State.serveTo_first hmin] at ht
    exact ⟨t, hexec, by rw [ht]; exact State.serve_attach hno ha hask hav⟩
  · intro s p q a b hnop ha hnoq hb hba hmin hask hav
    obtain ⟨t, hexec, ht⟩ := exec_attachGrant_serves hnop ha
    exact ⟨t, hexec, by rw [ht, State.room_serveTo_front ha hb hba hmin]; exact State.serve_attach hnoq hb hask hav⟩

end Sys2Proof.Machine

namespace Sys2Proof.Machine

set_option Elab.async false

/-! ## Asks and answers of grants (R225, R226, R256) -/

theorem State.free_iff (s : State) (p : Fin 48) : s.free p = true ↔ s.live p = true ∧ (s.room p).outOff = false := by
  simp [State.free, Room.outOff, Room.inSafe, and_assoc]

theorem exec_grantAsk_asks {s : State} {p : Fin 48} {w v : Nat} (hw : s.whole p = true)
    (hclamp : s.clampField (.roomReg p.val 0x160) GRANT_ASK_ASK_W (w % 65536) = v) (hpos : 0 < v) (hlt : v < 65536) :
    ∃ t, exec (.grantAsk p w) s = .next t ∧ (t.room p).fld GRANT_ASK_ASK_W = v ∧ (t.room p).fld GRANT_ASK_STATE = 1 ∧
      (t.room p).fld GRANT_RESV_W = 0 ∧ (t.room p).con.held = (s.room p).resv ∧ (t.room p).con.resvAt = some s.now := by
  have hmod : v % 2 ^ GRANT_ASK_ASK_W.width = v := Nat.mod_eq_of_lt hlt
  have hone : 1 % 2 ^ GRANT_ASK_STATE.width = 1 := rfl
  rw [exec_grantAsk, execGrantAsk]
  refine act_does hw ?_
  simp (disch := decide) only [hclamp, hpos.ne', ↓reduceIte, Room.ask, State.withQueue_room, State.posted_room,
    State.room_onRoomE, State.env_now, Room.fld_onCon, Room.fld_off_apart, Room.fld_put_apart, Room.fld_put, hmod, hone,
    Room.fld_off, Room.onCon_con, Room.off_con, Room.put_con, and_self]

theorem exec_grantAsk_returns {s : State} {p : Fin 48} {w : Nat} (hw : s.whole p = true)
    (hclamp : s.clampField (.roomReg p.val 0x160) GRANT_ASK_ASK_W (w % 65536) = 0) :
    ∃ t, exec (.grantAsk p w) s = .next t ∧ (t.room p).fld GRANT_ASK_ASK_W = 0 ∧ (t.room p).fld GRANT_ASK_STATE = 0 ∧
      (t.room p).fld GRANT_RESV_W = 0 := by
  rw [exec_grantAsk, execGrantAsk]
  refine act_does hw ?_
  simp (disch := decide) only [hclamp, ↓reduceIte, Room.endResv, State.withQueue_room, State.posted_room,
    State.room_onRoomE, Room.fld_onCon, Room.fld_off_apart, Room.fld_put, Nat.zero_mod, Room.fld_off, and_self]

theorem State.serve_answers {s : State} {q : Fin 48} {b : Ask} (hst : (s.room q).fld GRANT_ASK_STATE = 1)
    (hb : s.portAsk q = some b) (hswap : (s.room q).fld CON_STAT_SWAP ≠ 4)
    (hlt : max (s.room q).grant (min ((s.room q).fld GRANT_ASK_ASK_W) (s.availFor q)) < 65536) :
    ((s.serve b).room q).fld GRANT_ASK_STATE = 2 ∧
      ((s.serve b).room q).fld GRANT_RESV_W = max (s.room q).grant (min ((s.room q).fld GRANT_ASK_ASK_W) (s.availFor q)) := by
  have hnum := State.num_portAsk hb
  have hserve : s.serve b = s.answerAsk q := by simp only [State.serve, hnum, q.isLt, dif_pos, Fin.eta, hst, if_true]
  have htwo : 2 % 2 ^ GRANT_ASK_STATE.width = 2 := rfl
  have hmod := Nat.mod_eq_of_lt (show max (s.room q).grant (min ((s.room q).fld GRANT_ASK_ASK_W) (s.availFor q)) <
    2 ^ GRANT_RESV_W.width from hlt)
  rw [hserve, State.answerAsk, State.answer]
  simp (disch := decide) only [Bool.and_eq_true, decide_eq_true_eq, room_onRoomE, room_onRoom, Room.fld_onCon,
    Room.fld_put_apart, hswap, false_and, ↓reduceIte, Room.fld_put, htwo, hmod, and_self]

theorem exec_grantAnswer_serves {s : State} {p : Fin 48} {a : Ask} (hst : (s.room p).fld GRANT_ASK_STATE = 1)
    (ha : s.portAsk p = some a) : ∃ t, exec (.grantAnswer p) s = .next t ∧ ∀ q, t.room q = (s.serveTo a).room q := by
  rw [exec_grantAnswer, execGrantAnswer, if_pos hst, ha]
  show ∃ t, act s true (fun s => s.serveTo a) = .next t ∧ _
  refine act_does rfl ?_
  intro q
  rw [State.withQueue_room, State.posted_room]

theorem exec_resvLapse_ends {s : State} {p : Fin 48} (hw : s.whole p = true) (hst : (s.room p).fld GRANT_ASK_STATE = 2)
    (hdue : due s.now (s.room p).con.resvAt 10000 = true) :
    ∃ t, exec (.resvLapse p) s = .next t ∧ (t.room p).fld GRANT_ASK_STATE = 3 ∧ (t.room p).fld GRANT_RESV_W = 0 ∧
      (t.room p).bit CON_EVENT_RESV_LAPSE = true := by
  have hthree : 3 % 2 ^ GRANT_ASK_STATE.width = 3 := rfl
  rw [exec_resvLapse, execResvLapse]
  refine act_does (by simp [hw, hst, hdue]) ?_
  simp (disch := decide) only [State.withQueue_room, State.posted_room, State.room_onRoom, Room.fld_onCon,
    Room.fld_on_apart, Room.fld_off_apart, Room.fld_put, hthree, Room.fld_off, Room.bit_eq, Room.fld_on, Nat.reduceBNe,
    and_self]

/-! ## Voltage transitions (R232 to R248) -/

theorem Room.fld_mv_refReached (e : Env) (r : Room) (v : Nat) (h : r.fld VSET_MV = v) : (r.refReached e).fld VSET_MV = v :=
  (Room.refReached_fld e r _ (by decide)).trans h

theorem Room.fld_mv_setVset (e : Env) (r : Room) {mv : Nat} (h : mv < 65536) : (r.setVset e mv).fld VSET_MV = mv := by
  have hmod : mv % 2 ^ VSET_MV.width = mv := Nat.mod_eq_of_lt h
  unfold Room.setVset
  simp (disch := decide) only [refreshIlim_fld, fld_put, hmod]

theorem Room.fld_mv_rampTo (e : Env) (r : Room) {mv : Nat} (h : mv < 65536) : (r.rampTo e mv).fld VSET_MV = mv := by
  unfold Room.rampTo
  simp (disch := decide) only [off_cc, onCon_con, off_con, fld_onCon, fld_off_apart, refreshRamp_fld, slewRate_fld,
    setVset_fld, Bool.and_eq_true, decide_eq_true_eq, fld_ite, toStep_fld, Room.fld_mv_setVset e r h, ite_self]

theorem exec_tsrc_sets {s : State} {p : Fin 48} (hf : s.free p = true) (hast : (s.room p).ast = aSrc)
    (hstep : (s.room p).fld CON_STAT_STEP = 1) (hhr : (s.room p).bit CON_STAT_HR_SEQ = false)
    (hswap : (s.room p).fld CON_STAT_SWAP = 0) (hlt : (s.room p).con.negMv < 65536)
    (hdue : due s.now (s.room p).con.trans (1000 * (s.room p).fld CON_CFG_TSRC) = true) :
    ∃ t, exec (.tsrc p) s = .next t ∧ (t.room p).fld VSET_MV = (s.room p).con.negMv := by
  rw [exec_tsrc, execTsrc]
  refine act_does (by simp [hf, hast, hstep, hhr, hdue]) ?_
  rw [State.withQueue_room, State.posted_room, State.room_onRoomE]
  dsimp only
  have hswap2 : ((s.room p).toStep (s.env p) 2).fld CON_STAT_SWAP = 0 := (Room.toStep_fld _ _ _ _ (by decide)).trans hswap
  rw [hswap2, if_neg (by decide)]
  have hramp := Room.fld_mv_rampTo (s.env p) ((s.room p).toStep (s.env p) 2) (mv := (s.room p).con.negMv) hlt
  split
  · exact Room.fld_mv_refReached _ _ _ hramp
  · exact hramp

theorem exec_tsrc_discharges {s : State} {p : Fin 48} (hf : s.free p = true) (hast : (s.room p).ast = aSrc)
    (hstep : (s.room p).fld CON_STAT_STEP = 1) (hhr : (s.room p).bit CON_STAT_HR_SEQ = false)
    (hswap : (s.room p).fld CON_STAT_SWAP = 1) (hloop : (s.room p).loop = lRegulate)
    (hold : old s.now (s.room p).con.swapAt (1000 * (s.room p).fld CON_CFG_TSRC) = true) :
    ∃ t, exec (.tsrc p) s = .next t ∧ (t.room p).loop = lSoftStop ∧ (t.room p).fld CON_STAT_STEP = 2 := by
  rw [exec_tsrc, execTsrc]
  refine act_does (by simp [hf, hast, hstep, hhr, hswap, hold]) ?_
  have hone : lSoftStop % 2 ^ LOOP_STAT_STATE.width = lSoftStop := rfl
  have htwo : 2 % 2 ^ CON_STAT_STEP.width = 2 := rfl
  unfold Room.loop at hloop ⊢
  simp (disch := decide) only [Room.toStep, Room.fld_onCon, Room.fld_put_apart, Room.discharge, Room.loop,
    Bool.or_eq_true, decide_eq_true_eq, Room.setLoop, decide_true, OfNat.one_ne_ofNat, decide_false, Bool.or_false,
    Bool.not_true, Room.bit_eq, Room.fld_ite, Room.setRef_fld, ite_self, Bool.false_and, Bool.false_eq_true, ↓reduceIte,
    Room.fld_putB_apart, mul_one, lt_self_iff_false, Room.setRate, max_self, Room.fld_onConv, Room.onCon_con,
    Room.put_con, Room.rampTo_fld, State.withQueue_room, State.posted_room, State.room_onRoomE, hswap, hloop,
    OfNat.ofNat_eq_ofNat, Nat.reduceEqDiff, or_self, OfNat.ofNat_ne_zero, State.env_now, Room.refreshRamp_fld,
    Room.fld_put, hone, htwo, and_self]

theorem exec_referenceReached_ends {s : State} {p : Fin 48} (hl : s.live p = true) (hloop : (s.room p).loop = lRegulate)
    (hramp : (s.room p).bit CON_STAT_RAMPING = true) (href : (s.room p).fld VSET_REF = (s.room p).fld VSET_MV) :
    ∃ t, exec (.referenceReached p) s = .next t ∧ (t.room p).bit CON_STAT_RAMPING = false := by
  rw [exec_referenceReached, execReferenceReached]
  refine act_does (by simp [hl, hloop, hramp, href]) ?_
  simp (disch := decide) only [State.withQueue_room, State.posted_room, State.room_onRoomE, Room.refReached,
    Room.refreshRamp, href, bne_self_eq_false, Bool.false_eq_true, ↓reduceIte, State.env_now, Option.orElse_eq_orElse,
    Option.orElse_eq_or, Option.or_some, Room.onConv_con, Room.putB_con, Room.fld_onConv, Room.fld_putB_apart,
    Bool.and_eq_true, decide_eq_true_eq, Room.bit_eq, Room.fld_ite, Room.fld_onCon, Room.toStep_fld, Room.fld_putB,
    Bool.toNat_false, ite_self]

theorem exec_settled_settles {s : State} {p : Fin 48} (hf : s.free p = true) (hatt : (s.room p).attached = true)
    (hno : (s.room p).bit CON_STAT_SETTLED = false) (hset : (s.room p).settled (s.env p) = true) :
    ∃ t, exec (.settled p) s = .next t ∧ (t.room p).bit CON_STAT_SETTLED = true ∧
      ((s.room p).ast = aSrc → (s.room p).con.trans.isSome = true →
        (t.room p).fld CON_STAT_STEP = 4 ∧ (t.room p).bit CON_EVENT_SETTLED = true) := by
  have hfour : 4 % 2 ^ CON_STAT_STEP.width = 4 := rfl
  rw [exec_settled, execSettled]
  refine act_does (by simp [hf, hatt, hno, hset]) ?_
  unfold Room.ast
  constructor
  · simp (disch := decide) only [Room.fld_on_apart, Room.on_con, Bool.and_eq_true, decide_eq_true_eq, Room.toStep,
      State.env_now, State.withQueue_room, State.posted_room, State.room_onRoom, Room.bit_eq, Room.fld_ite,
      Room.fld_onCon, Room.fld_put_apart, Room.fld_on, ite_self, Nat.reduceBNe]
  · intro hast htrans
    simp (disch := decide) only [Room.fld_on_apart, Room.on_con, Bool.and_eq_true, decide_eq_true_eq, Room.toStep,
      State.env_now, State.withQueue_room, State.posted_room, State.room_onRoom, hast, htrans, and_self, ↓reduceIte,
      Room.fld_onCon, Room.fld_put, hfour, Room.bit_eq, Room.fld_on, Nat.reduceBNe]

theorem exec_settleFail_fails {s : State} {p : Fin 48} (hf : s.free p = true) (hast : (s.room p).ast = aSrc)
    (htrans : (s.room p).con.trans.isSome = true) (hstep : (s.room p).fld CON_STAT_STEP = 3)
    (hdue : due s.now (s.room p).con.reached 50000 = true) (hset : (s.room p).settled (s.env p) = false)
    (hhr : (s.room p).pd.hrDue = false) :
    ∃ t, exec (.settleFail p) s = .next t ∧ (t.room p).bit CON_EVENT_SETTLE_FAIL = true := by
  rw [exec_settleFail, execSettleFail]
  refine act_does (by simp [hf, hast, htrans, hstep, hdue, hset, hhr]) ?_
  simp (disch := decide) only [State.withQueue_room, State.posted_room, State.room_onRoomE, Room.bit_eq,
    Room.hardResetCause_fld, Room.fld_on, Nat.reduceBNe]

theorem exec_vsetWrite_sink {s : State} {p : Fin 48} {mv : Nat} (hl : s.live p = true) (hast : (s.room p).ast = aSnk)
    (hlt : s.clampField (.roomReg p.val 0x158) VSET_MV mv < 65536) : ∃ t, exec (.vsetWrite p mv) s = .next t ∧
      (t.room p).fld VSET_MV = s.clampField (.roomReg p.val 0x158) VSET_MV mv := by
  rw [exec_vsetWrite, execVsetWrite]
  refine act_does hl ?_
  simp (disch := decide) only [Room.writeVset, Room.rampTo_fld, State.withQueue_room, State.posted_room,
    State.room_onRoomE, hast, OfNat.ofNat_eq_ofNat, Nat.reduceEqDiff, ↓reduceIte, Room.fld_mv_setVset _ _ hlt]

theorem exec_vsetWrite_source {s : State} {p : Fin 48} (mv : Nat) (hl : s.live p = true) (hast : (s.room p).ast = aSrc)
    (hopen : (s.room p).vsetOpen = true) (hlt : max ((s.room p).fld CON_LIM_VLIM) (s.env p).port.vmin < 65536) :
    ∃ t, exec (.vsetWrite p mv) s = .next t ∧ (t.room p).fld VSET_MV =
      min (max (s.clampField (.roomReg p.val 0x158) VSET_MV mv) (s.env p).port.vmin)
        (max ((s.room p).fld CON_LIM_VLIM) (s.env p).port.vmin) := by
  rw [exec_vsetWrite, execVsetWrite]
  refine act_does hl ?_
  rw [State.withQueue_room, State.posted_room, State.room_onRoomE, Room.writeVset, if_pos hast, if_pos hopen]
  dsimp only
  have hlt2 := lt_of_le_of_lt (min_le_right (max (s.clampField (.roomReg p.val 0x158) VSET_MV mv) (s.env p).port.vmin)
    (max ((s.room p).fld CON_LIM_VLIM) (s.env p).port.vmin)) hlt
  split
  · split
    · exact Room.fld_mv_refReached _ _ _ (Room.fld_mv_rampTo _ _ hlt2)
    · exact Room.fld_mv_rampTo _ _ hlt2
  · exact Room.fld_mv_setVset _ _ hlt2

theorem exec_vsetWrite_closed {s : State} {p : Fin 48} (mv : Nat) (hl : s.live p = true) (hast : (s.room p).ast = aSrc)
    (hopen : (s.room p).vsetOpen = false) : ∃ t, exec (.vsetWrite p mv) s = .next t ∧ t.room p = s.room p := by
  rw [exec_vsetWrite, execVsetWrite]
  refine act_does hl ?_
  simp (disch := decide) only [Room.writeVset, Room.rampTo_fld, State.withQueue_room, State.posted_room,
    State.room_onRoomE, hast, ↓reduceIte, hopen, Bool.false_eq_true]

theorem exec_vlimRecompute_keeper {s : State} {p : Fin 48} {v : Nat} (hl : s.live p = true)
    (hlt : ({ s.room p with con := { (s.room p).con with vin10 := v } } : Room).vlim (s.env p) < 65536) :
    ∃ t, exec (.vlimRecompute p v) s = .next t ∧ (t.room p).con.vin10 = v ∧
      (t.room p).fld CON_LIM_VLIM = ({ s.room p with con := { (s.room p).con with vin10 := v } } : Room).vlim (s.env p) := by
  obtain ⟨hw, hk⟩ := (s.live_iff p).1 hl
  rw [exec_vlimRecompute, execVlimRecompute]
  refine act_does hw ?_
  have hlt2 : ((s.room p).onCon fun c => { c with vin10 := v }).vlim (s.env p) % 2 ^ CON_LIM_VLIM.width =
      ((s.room p).onCon fun c => { c with vin10 := v }).vlim (s.env p) := Nat.mod_eq_of_lt hlt
  rw [State.withQueue_room, State.posted_room, State.room_onRoomE]
  constructor
  · simp (disch := decide) only [Room.refreshVlim, State.env_keeper, hk, Bool.not_true, Bool.false_eq_true,
      ↓reduceIte, Room.put_con, Room.onCon_con, Bool.and_eq_true, Bool.not_eq_eq_eq_not, Option.isNone_iff_eq_none,
      Room.vlimDrop, Room.startGiveup, Room.on_con, State.env_now, Room.fld_on_apart, Room.fld_put_apart,
      Room.fld_onCon, apply_ite Room.con, apply_ite ConState.vin10, ite_self]
  · unfold Room.refreshVlim
    simp (disch := decide) only [State.env_keeper, hk, Bool.not_true, Bool.false_eq_true, ↓reduceIte, Room.put_con,
      Room.onCon_con, Bool.and_eq_true, Bool.not_eq_eq_eq_not, Option.isNone_iff_eq_none, Room.fld_ite,
      Room.vlimDrop_fld, Room.fld_put, hlt2, ite_self]
    rfl

theorem exec_vlimRecompute_shadow {s : State} {p : Fin 48} (v : Nat) (hw : s.whole p = true) (hk : s.keeps (wingOf p) = false) :
    ∃ t, exec (.vlimRecompute p v) s = .next t ∧ (t.room p).fld CON_LIM_VLIM = (s.room p).fld CON_LIM_VLIM := by
  rw [exec_vlimRecompute, execVlimRecompute]
  refine act_does hw ?_
  simp (disch := decide) only [Room.refreshVlim, Bool.not_eq_eq_eq_not, Bool.not_true, Room.put_con, Room.onCon_con,
    Bool.and_eq_true, Option.isNone_iff_eq_none, State.withQueue_room, State.posted_room, State.room_onRoomE,
    State.env_keeper, hk, ↓reduceIte, Room.fld_onCon]

theorem exec_giveup_enforces {s : State} {p : Fin 48} {a d : Nat} (hf : s.free p = true)
    (hgive : (s.room p).con.giveup = some (a, d)) (hold : a + d ≤ s.now) (hast : (s.room p).ast = aSrc)
    (hexp : (s.room p).explicit = true) (hover : (s.room p).overGrant = true)
    (hvlim : (s.room p).fld CON_VI_MV ≤ (s.room p).fld CON_LIM_VLIM) :
    ∃ t, exec (.giveup p) s = .next t ∧ (t.room p).bit CON_STAT_GIVEUP = false ∧ (t.room p).bit CON_STAT_ENFORCED = true := by
  rw [exec_giveup, execGiveup]
  refine act_does (by simp [hf, hgive, old, hold]) ?_
  rw [State.withQueue_room, State.posted_room, State.room_onRoomE]
  generalize s.env p = e
  dsimp only
  have hsrc : (((s.room p).off CON_STAT_GIVEUP).onCon fun c => { c with giveup := none }).ast = aSrc := by
    unfold Room.ast at hast ⊢
    simp (disch := decide) only [Room.fld_onCon, Room.fld_off_apart, hast]
  have hexp2 : (((s.room p).off CON_STAT_GIVEUP).onCon fun c => { c with giveup := none }).explicit = true := by
    unfold Room.explicit at hexp ⊢
    rw [Room.bit_eq] at hexp ⊢
    simp (disch := decide) only [Room.fld_onCon, Room.fld_off_apart, bne_iff_ne, ne_eq]
    simpa using hexp
  have hover2 : (((s.room p).off CON_STAT_GIVEUP).onCon fun c => { c with giveup := none }).overGrant = true := by
    simp only [Room.overGrant, Room.grant] at hover ⊢
    simp (disch := decide) only [Room.fld_onCon, Room.fld_off_apart, decide_eq_true_eq]
    exact of_decide_eq_true hover
  rw [hsrc, hexp2, hover2]
  simp only [decide_true, Bool.and_self, if_true]
  rw [if_neg]
  · simp (disch := decide) only [Room.bit_eq, Room.refreshIlim_fld, Room.fld_on_apart, Room.fld_onCon, Room.fld_off,
      bne_self_eq_false, Room.fld_on, Nat.reduceBNe, and_self]
  · intro hlow
    simp only [Room.vlimLow, Bool.and_eq_true, decide_eq_true_eq] at hlow
    have hlt := hlow.2
    revert hlt
    rw [Room.refreshIlim_fld _ _ _ (by decide), Room.refreshIlim_fld _ _ _ (by decide)]
    simp (disch := decide) only [Room.fld_on_apart, Room.fld_onCon, Room.fld_off_apart]
    exact Nat.not_lt.2 hvlim

/-- Settles O27. -/
theorem voltageTransitions : Obligations.VoltageTransitions := by
  refine ⟨fun _ _ _ _ hw hc hpos hlt => exec_grantAsk_asks hw hc hpos hlt, fun _ _ _ hw hc => exec_grantAsk_returns hw hc,
    ?_, ?_, fun _ _ hw hst hd => exec_resvLapse_ends hw hst hd,
    fun _ _ hf ha hst hhr hsw hlt hd => exec_tsrc_sets hf ha hst hhr hsw hlt hd,
    fun _ _ hf ha hst hhr hsw hl ho => exec_tsrc_discharges hf ha hst hhr hsw hl ho,
    fun _ _ hl hlo hr href => exec_referenceReached_ends hl hlo hr href,
    fun _ _ hf ha hn hs => exec_settled_settles hf ha hn hs,
    fun _ _ hf ha ht hst hd hs hh => exec_settleFail_fails hf ha ht hst hd hs hh,
    fun _ _ _ hl ha hlt => exec_vsetWrite_sink hl ha hlt, fun _ _ mv hl ha ho hlt => exec_vsetWrite_source mv hl ha ho hlt,
    fun _ _ mv hl ha ho => exec_vsetWrite_closed mv hl ha ho, fun _ _ _ hl hlt => exec_vlimRecompute_keeper hl hlt,
    fun _ _ v hw hk => exec_vlimRecompute_shadow v hw hk,
    fun _ _ _ _ hf hg ho ha he hov hv => exec_giveup_enforces hf hg ho ha he hov hv⟩
  · intro s p a hst ha hmin hswap hlt
    obtain ⟨t, hexec, ht⟩ := exec_grantAnswer_serves hst ha
    rw [State.serveTo_first hmin] at ht
    exact ⟨t, hexec, by rw [ht]; exact State.serve_answers hst ha hswap hlt⟩
  · intro s p q a b hstp ha hstq hb hba hmin hswap hlt
    obtain ⟨t, hexec, ht⟩ := exec_grantAnswer_serves hstp ha
    exact ⟨t, hexec, by rw [ht, State.room_serveTo_front ha hb hba hmin]; exact State.serve_answers hstq hb hswap hlt⟩

end Sys2Proof.Machine

namespace Sys2Proof.Machine

set_option Elab.async false

/-! ## The Hard Reset power sequence and the steps of the swaps (R249 to R258) -/

/-- VCONN is off where it may not be on. -/
theorem Room.vconnOn_vconn_of_barred (e : Env) {r : Room} (h : r.vconnAllowed e = false) :
    (r.vconn e).bit CC_STAT_VCONN_ON = false := by
  unfold Room.vconn
  rw [h, Bool.false_and]
  by_cases hon : r.bit CC_STAT_VCONN_ON = false
  · simp (disch := decide) only [hon, ↓reduceIte, bit_eq, terms_fld, bne_eq_false_iff_eq]
    simpa [Room.bit_eq] using hon
  · simp (disch := decide) only [hon, Bool.false_eq_true, ↓reduceIte, bit_eq, terms_fld, fld_onCc, fld_onPd, fld_putB,
      Bool.toNat_false, bne_self_eq_false]

theorem Room.step_toStep (e : Env) (r : Room) {n : Nat} (h : n < 2 ^ CON_STAT_STEP.width) : (r.toStep e n).fld CON_STAT_STEP = n := by
  unfold Room.toStep
  simp (disch := decide) only [fld_onCon, fld_put, Nat.mod_eq_of_lt h]

theorem exec_hardResetVconnOff_steps {s : State} {p : Fin 48} (hf : s.free p = true) (hast : (s.room p).ast = aSrc)
    (hhr : (s.room p).bit CON_STAT_HR_SEQ = true) (hstep : (s.room p).fld CON_STAT_STEP = 1)
    (hold : old s.now (s.room p).con.hrAt 30000 = true) :
    ∃ t, exec (.hardResetVconnOff p) s = .next t ∧ (t.room p).fld CON_STAT_STEP = 2 ∧
      (t.room p).bit CC_STAT_VCONN_ON = false := by
  rw [exec_hardResetVconnOff, execHardResetVconnOff]
  refine act_does (by simp [hf, hast, hhr, hstep, hold]) ?_
  rw [State.withQueue_room, State.posted_room, State.room_onRoomE]
  have hstep2 := Room.step_toStep (s.env p) (s.room p) (n := 2) (by decide)
  have hbar : ((s.room p).toStep (s.env p) 2).vconnAllowed (s.env p) = false := by
    have hhr2 : ((s.room p).toStep (s.env p) 2).bit CON_STAT_HR_SEQ = true := by
      rw [Room.bit_eq, Room.toStep_fld _ _ _ _ (by decide), ← Room.bit_eq, hhr]
    simp [Room.vconnAllowed, Room.hrNoVconn, hhr2, hstep2]
  constructor
  · simp (disch := decide) only [Room.discharge_fld, Room.vconn_fld, hstep2]
  · have hoff := Room.vconnOn_vconn_of_barred (s.env p) hbar
    rw [Room.bit_eq] at hoff ⊢
    rw [Room.discharge_fld _ _ _ _ _ _ (by decide), hoff]

theorem exec_hardResetVbusSafe0_steps {s : State} {p : Fin 48} (hf : s.free p = true) (hast : (s.room p).ast = aSrc)
    (hhr : (s.room p).bit CON_STAT_HR_SEQ = true) (hstep : (s.room p).fld CON_STAT_STEP = 2)
    (hvbus : (s.room p).cc.vbus ≤ 800) (hnone : (s.room p).con.hrSafe0 = none) :
    ∃ t, exec (.hardResetVbusSafe0 p) s = .next t ∧ (t.room p).fld CON_STAT_STEP = 3 := by
  rw [exec_hardResetVbusSafe0, execHardResetVbusSafe0]
  refine act_does (by simp [hf, hast, hhr, hstep, hvbus, hnone]) ?_
  rw [State.withQueue_room, State.posted_room, State.room_onRoomE]
  have hsrc : ∀ g : ConState → ConState, ((s.room p).onCon g).ast = aSrc := fun _ => hast
  rw [if_pos (hsrc _)]
  exact Room.step_toStep _ _ (by decide)

theorem exec_tsrcrecover_starts {s : State} {p : Fin 48} (hf : s.free p = true) (hast : (s.room p).ast = aSrc)
    (hhr : (s.room p).bit CON_STAT_HR_SEQ = true) (hstep : (s.room p).fld CON_STAT_STEP = 3)
    (hdue : due s.now (s.room p).con.hrSafe0 750000 = true) :
    ∃ t, exec (.tsrcrecover p) s = .next t ∧ (t.room p).fld CON_STAT_STEP = 4 ∧ (t.room p).fld VSET_MV = 5000 ∧
      (t.room p).loop = lSoftStart := by
  have hloop : lSoftStart % 2 ^ LOOP_STAT_STATE.width = lSoftStart := rfl
  have hmv : 5000 % 2 ^ VSET_MV.width = 5000 := rfl
  rw [exec_tsrcrecover, execTsrcrecover]
  refine act_does (by simp [hf, hast, hhr, hstep, hdue]) ?_
  simp (disch := decide) only [Room.loopStart, Room.setLoop, OfNat.ofNat_ne_one, decide_false, decide_true,
    Bool.or_true, OfNat.ofNat_eq_ofNat, Nat.reduceEqDiff, Bool.or_false, Bool.not_true, Room.setVset, Room.bit_eq,
    Room.setRef_fld, Room.closeSwitch_fld, Room.refreshIlim_fld, Room.fld_put_apart, Room.vconn_fld, Room.fld_onCc,
    Room.toStep_fld, Bool.false_and, Bool.false_eq_true, ↓reduceIte, Room.fld_putB_apart, State.withQueue_room,
    State.posted_room, State.room_onRoomE, Room.refreshRamp_fld, Room.fld_onConv, Room.setRate_fld, Room.preBias_fld,
    Room.step_toStep, Room.fld_put, hmv, Room.loop, hloop, and_self]

theorem Room.step_rampTo (e : Env) (mv : Nat) {r : Room} (h : r.fld CON_STAT_STEP < 3) :
    (r.rampTo e mv).fld CON_STAT_STEP = r.fld CON_STAT_STEP := by
  have hnot : ¬ 3 ≤ r.fld CON_STAT_STEP := Nat.not_le.2 h
  unfold Room.rampTo
  simp (disch := decide) only [off_cc, onCon_con, off_con, fld_onCon, fld_off_apart, refreshRamp_fld, slewRate_fld,
    setVset_fld, hnot, decide_false, Bool.and_false, Bool.false_eq_true, ↓reduceIte]

theorem Room.step_vsetRest (e : Env) {r : Room} (h : r.fld CON_STAT_STEP < 3) :
    (r.vsetRest e).fld CON_STAT_STEP = r.fld CON_STAT_STEP := by
  unfold Room.vsetRest
  simp (disch := decide) only [bit_eq, Bool.and_eq_true, decide_eq_true_eq, Bool.not_eq_eq_eq_not, Bool.not_true,
    bne_eq_false_iff_eq, bne_iff_ne, ne_eq, fld_ite, Room.step_rampTo e _ h, setVset_fld, ite_self]

theorem exec_hardResetEnd_ends {s : State} {p : Fin 48} (hf : s.free p = true) (hast : (s.room p).ast = aSrc)
    (hhr : (s.room p).bit CON_STAT_HR_SEQ = true) (hstep : (s.room p).fld CON_STAT_STEP = 4)
    (hband : (s.room p).banded (s.env p) = true) :
    ∃ t, exec (.hardResetEnd p) s = .next t ∧ (t.room p).bit CON_STAT_HR_SEQ = false ∧
      (t.room p).fld CON_STAT_STEP = 0 ∧ (t.room p).bit PD_STAT_HR_ACTIVE = false := by
  rw [exec_hardResetEnd, execHardResetEnd]
  refine act_does (by simp [hf, hast, hhr, hstep, hband]) ?_
  have hrest := Room.step_vsetRest (s.env p)
    (r := ((((s.room p).off PD_STAT_HR_ACTIVE).off CON_STAT_HR_SEQ).off CON_STAT_STEP).lostResume (s.env p)) (by simp (disch := decide) only [Room.lostResume_fld, Room.fld_off, Nat.ofNat_pos])
  simp (disch := decide) only [Room.endHr, State.withQueue_room, State.posted_room, State.room_onRoomE, Room.bit_eq,
    Room.refreshIlim_fld, Room.sinkSwitch_fld, Room.vsetRest_fld, Room.lostResume_fld, Room.fld_off_apart, Room.fld_off,
    bne_self_eq_false, hrest, and_self]

theorem exec_prSwapVbusSafe0_swaps {s : State} {p : Fin 48} (hf : s.free p = true) (hast : (s.room p).ast = aSrc)
    (hswap : (s.room p).fld CON_STAT_SWAP = 1) (hstep : (s.room p).fld CON_STAT_STEP = 2) (hvbus : (s.room p).cc.vbus ≤ 800) :
    ∃ t, exec (.prSwapVbusSafe0 p) s = .next t ∧ (t.room p).ast = aSnk ∧ (t.room p).fld CON_STAT_STEP = 3 ∧
      (t.room p).loop = lOff := by
  have hoff : lOff % 2 ^ LOOP_STAT_STATE.width = lOff := rfl
  rw [exec_prSwapVbusSafe0, execPrSwapVbusSafe0]
  refine act_does (by simp [hf, hast, hswap, hstep, hvbus]) ?_
  rw [State.withQueue_room, State.posted_room, State.room_onRoomE]
  refine ⟨?_, Room.step_toStep _ _ (by decide), ?_⟩
  · rw [Room.toSink, Room.enterA_of_ne _ _ (by decide) (by decide) (by decide)]
    exact (Room.toStep_fld _ _ _ _ (by decide)).trans ((Room.implicitVi_fld _ _ _ (by decide)).trans
      (Room.ast_enterState _ _ (by decide)))
  · simp (disch := decide) only [Room.loop, Room.toSink, Room.loopOff, Room.setLoop, zero_ne_one, decide_false,
      OfNat.zero_ne_ofNat, Bool.or_self, Bool.not_false, Room.bit_eq, Room.keepVconn_fld, Bool.true_and, bne_iff_ne,
      ne_eq, ite_not, State.env_now, Room.toStep_fld, Room.implicitVi_fld, Room.fld_onConv, Room.fld_onCc,
      Room.enterA_fld, Room.fld_putB_apart, Room.fld_put, hoff]

/-! ### Error recovery (R142) -/

theorem Room.ast_errorRecovery (e : Env) {r : Room} (hast : r.ast ≠ aDisabled) (hout : r.outOff = false) :
    (r.errorRecovery e).ast = aErrRec := by
  rw [Room.errorRecovery, if_neg (by simp [hast, hout])]
  dsimp only
  rw [Room.enterA_of_ne _ _ (by decide) (by decide) (by decide)]
  exact (Room.conClear_fld _ _ _ (by decide)).trans (Room.ast_enterState _ _ (by decide))

theorem Room.swapFail_errorRecovery (e : Env) {r : Room} (hast : r.ast ≠ aDisabled) (hout : r.outOff = false)
    (hswap : r.fld CON_STAT_SWAP ≠ 0) : (r.errorRecovery e).bit CON_EVENT_SWAP_FAIL = true := by
  have hbne : (r.fld CON_STAT_SWAP != 0) = true := by simpa using hswap
  rw [Room.errorRecovery, if_neg (by simp [hast, hout])]
  simp (disch := decide) only [fld_ite, fld_on_apart, ite_self, hbne, ↓reduceIte, bit_eq, conClear_fld, enterA_fld,
    startRemoval_fld, pdClear_fld, fld_on, Nat.reduceBNe]

theorem Room.swap_of_psRdyLimit {r : Room} {d : Nat} (h : r.psRdyLimit = some d) : r.fld CON_STAT_SWAP ≠ 0 := by
  intro h0
  simp [Room.psRdyLimit, h0] at h

theorem exec_psRdyTimeout_recovers {s : State} {p : Fin 48} {d : Nat} (hf : s.free p = true) (hast : (s.room p).ast ≠ aDisabled)
    (hlim : (s.room p).psRdyLimit = some d) (hdue : due s.now (s.room p).con.swapWait d = true) :
    ∃ t, exec (.psRdyTimeout p) s = .next t ∧ (t.room p).ast = aErrRec ∧ (t.room p).bit CON_EVENT_SWAP_FAIL = true := by
  have hout := ((s.free_iff p).1 hf).2
  rw [exec_psRdyTimeout, execPsRdyTimeout]
  refine act_does (by simp [hf, hlim, hdue]) ?_
  rw [State.withQueue_room, State.posted_room, State.room_onRoomE]
  exact ⟨Room.ast_errorRecovery _ hast hout, Room.swapFail_errorRecovery _ hast hout (Room.swap_of_psRdyLimit hlim)⟩

/-! ### FR_Swap (R253 to R255) -/

theorem Room.frsTrigger_signals (e : Env) (r : Room) :
    ((r.frsTrigger e).terms e).fld CON_STAT_SWAP = 3 ∧ ((r.frsTrigger e).terms e).fld CON_STAT_STEP = 1 ∧
      ((r.frsTrigger e).terms e).bit CON_EVENT_FRS_TX = true := by
  have hthree : 3 % 2 ^ CON_STAT_SWAP.width = 3 := rfl
  have hone : 1 % 2 ^ CON_STAT_STEP.width = 1 := rfl
  unfold Room.frsTrigger Room.toStep
  simp (disch := decide) only [terms_fld, fld_onCc, fld_onCon, fld_off_apart, fld_on_apart, fld_put_apart, fld_put,
    hthree, hone, bit_eq, fld_on, Nat.reduceBNe, and_self]

theorem exec_trig_signals {s : State} {p : Fin 48} (hf : s.free p = true) (hast : (s.room p).ast = aSrc)
    (hready : (s.room p).frsReady (s.env p) = true) :
    ∃ t, exec (.trig p) s = .next t ∧ (t.room p).fld CON_STAT_SWAP = 3 ∧ (t.room p).fld CON_STAT_STEP = 1 ∧
      (t.room p).bit CON_EVENT_FRS_TX = true := by
  rw [exec_trig, execTrig]
  refine act_does (by simp [hf, hast, hready]) ?_
  rw [State.withQueue_room, State.posted_room, State.room_onRoomE]
  exact Room.frsTrigger_signals _ _

theorem exec_frsInputTrigger_signals {s : State} {p : Fin 48} (hf : s.free p = true) (hast : (s.room p).ast = aSrc)
    (hready : (s.room p).frsReady (s.env p) = true) (hauto : (s.room p).bit FRS_CTRL_TRIG_AUTO = true)
    (hlow : 2 ≤ (s.room p).con.frsLow) :
    ∃ t, exec (.frsInputTrigger p) s = .next t ∧ (t.room p).fld CON_STAT_SWAP = 3 ∧ (t.room p).fld CON_STAT_STEP = 1 ∧
      (t.room p).bit CON_EVENT_FRS_TX = true := by
  rw [exec_frsInputTrigger, execFrsInputTrigger]
  refine act_does (by simp [hf, hast, hready, hauto, hlow]) ?_
  rw [State.withQueue_room, State.posted_room, State.room_onRoomE]
  exact Room.frsTrigger_signals _ _

theorem exec_frsSignalEnd_steps {s : State} {p : Fin 48} (hf : s.free p = true) (hswap : (s.room p).fld CON_STAT_SWAP = 3)
    (hstep : (s.room p).fld CON_STAT_STEP = 1) (hold : old s.now (s.room p).con.swapAt 60 = true) :
    ∃ t, exec (.frsSignalEnd p) s = .next t ∧ (t.room p).fld CON_STAT_STEP = 3 := by
  rw [exec_frsSignalEnd, execFrsSignalEnd]
  refine act_does (by simp [hf, hswap, hstep, hold]) ?_
  simp (disch := decide) only [State.withQueue_room, State.posted_room, State.room_onRoomE, Room.terms_fld,
    Room.step_toStep]

theorem exec_frsTimeout_recovers {s : State} {p : Fin 48} (hf : s.free p = true) (hast : (s.room p).ast ≠ aDisabled)
    (hswap : (s.room p).fld CON_STAT_SWAP = 3) (hstep : (s.room p).fld CON_STAT_STEP ≤ 3)
    (hdue : due s.now (s.room p).con.frsTx 20000 = true) (hauto : (s.room p).pd.auto.any (·.re = 5) = false)
    (hair : (s.room p).pd.air.any (·.msg.re = 5) = false) :
    ∃ t, exec (.frsTimeout p) s = .next t ∧ (t.room p).ast = aErrRec := by
  rw [exec_frsTimeout, execFrsTimeout]
  refine act_does (by rw [hauto, hair]; simp [hf, hswap, hstep, hdue]) ?_
  rw [State.withQueue_room, State.posted_room, State.room_onRoomE]
  exact Room.ast_errorRecovery _ hast ((s.free_iff p).1 hf).2

theorem Room.state_ask (e : Env) (w : Nat) (lapse : Bool) (r : Room) : (r.ask e w lapse).fld GRANT_ASK_STATE = 1 := by
  have hone : 1 % 2 ^ GRANT_ASK_STATE.width = 1 := rfl
  unfold Room.ask
  simp (disch := decide) only [fld_onCon, fld_off_apart, fld_put, hone]

theorem exec_frsDetect_asks {s : State} {p : Fin 48} (hf : s.free p = true) (hast : (s.room p).ast = aSnk)
    (hready : (s.room p).frsReady (s.env p) = true) :
    ∃ t, exec (.frsDetect p) s = .next t ∧ (t.room p).fld CON_STAT_SWAP = 4 ∧ (t.room p).fld GRANT_ASK_STATE = 1 ∧
      (t.room p).bit CON_EVENT_FRS_RX = true := by
  have hfour : 4 % 2 ^ CON_STAT_SWAP.width = 4 := rfl
  rw [exec_frsDetect, execFrsDetect]
  refine act_does (by simp [hf, hast, hready]) ?_
  rw [State.withQueue_room, State.posted_room, State.room_onRoomE]
  refine ⟨?_, ?_, ?_⟩
  · simp (disch := decide) only [State.env_now, Room.fld_onCc, Room.fld_onConv, Room.fld_onCon, Room.fld_on_apart,
      Room.toStep_fld, Room.fld_put_apart, Room.refreshIlim_fld, Room.hwAsk_fld, Room.fld_put, hfour]
  · exact (Room.refreshIlim_fld _ _ _ (by decide)).trans (Room.state_ask _ _ _ _)
  · simp (disch := decide) only [State.env_now, Room.fld_onCc, Room.fld_onConv, Room.fld_onCon, Room.fld_on_apart,
      Room.toStep_fld, Room.fld_put_apart, Room.bit_eq, Room.refreshIlim_fld, Room.hwAsk_fld, Room.fld_on,
      Nat.reduceBNe]

theorem exec_frsVbusDrop_turns {s : State} {p : Fin 48} (hf : s.free p = true) (hatt : (s.room p).attached = true)
    (hswap : (s.room p).fld CON_STAT_SWAP = 4) (hstep : 2 ≤ (s.room p).fld CON_STAT_STEP) (hok : (s.room p).con.frsOk = true)
    (hfwd : (s.room p).forward = false) (hvbus : (s.room p).cc.vbus < 4750) :
    ∃ t, exec (.frsVbusDrop p) s = .next t ∧ (t.room p).conv.frsTurn = true ∧ (t.room p).fld VSET_MV = 5000 ∧
      (t.room p).fld CON_STAT_STEP = (if (s.room p).fld CON_STAT_STEP = 2 then 3 else (s.room p).fld CON_STAT_STEP) := by
  have hmv : 5000 % 2 ^ VSET_MV.width = 5000 := rfl
  rw [exec_frsVbusDrop, execFrsVbusDrop]
  refine act_does (by simp [hf, hatt, hswap, hstep, hok, hfwd, hvbus]) ?_
  rw [State.withQueue_room, State.posted_room, State.room_onRoomE]
  generalize s.env p = e
  dsimp only
  refine ⟨by rw [(Room.setVset_spares (.refl .conv _)).eq_conv]; rfl, by simp (disch := decide) only [Room.setVset, Room.refreshIlim_fld, Room.fld_put, hmv], ?_⟩
  rw [Room.setVset_fld _ _ _ _ (by decide), Room.fld_onConv]
  split
  · exact Room.step_toStep _ _ (by decide)
  · rfl

theorem exec_vconnSwapTimeout_resets {s : State} {p : Fin 48} (hf : s.free p = true) (hswap : (s.room p).fld CON_STAT_SWAP = 5)
    (hdue : due s.now (s.room p).con.vconnSwap 150000 = true) (hhr : (s.room p).pd.hrDue = false)
    (hcount : (s.room p).fld PD_STAT_HR_COUNT ≠ 2) :
    ∃ t, exec (.vconnSwapTimeout p) s = .next t ∧ (t.room p).pd.hrDue = true := by
  rw [exec_vconnSwapTimeout, execVconnSwapTimeout]
  refine act_does (by simp [hf, hswap, hdue, hhr]) ?_
  rw [State.withQueue_room, State.posted_room, State.room_onRoomE, Room.hardResetCause, if_neg hcount]
  rfl

/-- Settles O28: each step of the sequences by the clause's command, the recoveries through the one lemma that says where
error recovery leaves the port. -/
theorem hardResetAndSwaps : Obligations.HardResetAndSwaps :=
  ⟨fun _ _ hf ha hh hs ho => exec_hardResetVconnOff_steps hf ha hh hs ho,
    fun _ _ hf ha hh hs hv hn => exec_hardResetVbusSafe0_steps hf ha hh hs hv hn,
    fun _ _ hf ha hh hs hd => exec_tsrcrecover_starts hf ha hh hs hd,
    fun _ _ hf ha hh hs hb => exec_hardResetEnd_ends hf ha hh hs hb,
    fun _ _ hf ha hw hs hv => exec_prSwapVbusSafe0_swaps hf ha hw hs hv,
    fun _ _ _ hf ha hl hd => exec_psRdyTimeout_recovers hf ha hl hd, fun _ _ hf ha hr => exec_trig_signals hf ha hr,
    fun _ _ hf ha hr hauto hl => exec_frsInputTrigger_signals hf ha hr hauto hl,
    fun _ _ hf hw hs ho => exec_frsSignalEnd_steps hf hw hs ho,
    fun _ _ hf ha hw hs hd hauto hair => exec_frsTimeout_recovers hf ha hw hs hd hauto hair,
    fun _ _ hf ha hr => exec_frsDetect_asks hf ha hr,
    fun _ _ hf ha hw hs hok hfwd hv => exec_frsVbusDrop_turns hf ha hw hs hok hfwd hv,
    fun _ _ hf hw hd hh hc => exec_vconnSwapTimeout_resets hf hw hd hh hc⟩

end Sys2Proof.Machine

namespace Sys2Proof.Machine

set_option Elab.async false

/-! ## The fields that the remaining operations on a Room can write -/

theorem revField_apart {sop : Nat} {g : Field} (h : PD_STAT_REV_SOP.apart g = true) (h2 : PD_STAT_REV_SOPP.apart g = true)
    (h3 : PD_STAT_REV_SOPPP.apart g = true) : (revField sop).apart g = true := by
  unfold revField
  split_ifs <;> assumption

theorem flagOf_apart {k : Nat} {neg : Bool} {g : Field} (hov : THR_FLAG_OV.apart g = true) (huv : THR_FLAG_UV.apart g = true)
    (hpkn : THR_FLAG_PK_NEG.apart g = true) (hpkp : THR_FLAG_PK_POS.apart g = true) (hscn : THR_FLAG_SC_NEG.apart g = true)
    (hscp : THR_FLAG_SC_POS.apart g = true) : (flagOf k neg).apart g = true := by
  unfold flagOf
  split
  · exact hov
  · exact huv
  · split_ifs <;> assumption
  · split_ifs <;> assumption

theorem cntOf_apart {k : Nat} {g : Field} (hov : THR_CNT_OV.apart g = true) (huv : THR_CNT_UV.apart g = true)
    (hpk : THR_CNT_PK.apart g = true) (hsc : THR_CNT_SC.apart g = true) : (cntOf k).apart g = true := by
  unfold cntOf
  split <;> assumption

theorem Room.fld_foldl {α : Type} {step : Room → α → Room} {l : List α} {g : Field} (hstep : ∀ r a, (step r a).fld g = r.fld g)
    (r : Room) : (l.foldl step r).fld g = r.fld g := by
  induction l generalizing r with
  | nil => rfl
  | cons a l ih => exact (ih _).trans (hstep r a)

def Room.coreSentW : List Field :=
  [] ++ Room.acceptedW ++ Room.eprModeW ++ Room.psRdySentW
theorem Room.coreSent_fld (e : Env) (m : TxMsg) (r : Room) (g : Field)
    (h : Field.clear Room.coreSentW g = true) : (Room.coreSent e m r).fld g = r.fld g := by
  simp only [Room.coreSentW, Field.clear_append, Field.clear_nil, Bool.and_eq_true] at h
  unfold Room.coreSent
  dsimp only
  repeat' first
    | with_reducible rfl
    | with_reducible apply Room.fld_ite_eq
    | with_reducible refine (Room.fld_onPd _ _ _).trans ?_
    | with_reducible refine (Room.accepted_fld _ _ _ g (by simp only [h])).trans ?_
    | with_reducible refine (Room.eprMode_fld _ _ _ g (by simp only [h])).trans ?_
    | with_reducible refine (Room.psRdySent_fld _ _ g (by simp only [h])).trans ?_

def Room.ackedW : List Field :=
  [PD_EVENT_HVDM_DONE, PD_STAT_HVDM_STATE, TX_STAT_STATE] ++ Room.coreSentW ++ Room.replySentW ++ Room.txEndW
theorem Room.acked_fld (e : Env) (a : Air) (r : Room) (g : Field)
    (h : Field.clear Room.ackedW g = true) : (Room.acked e a r).fld g = r.fld g := by
  simp only [Room.ackedW, Field.clear_append, Field.clear_cons, Field.clear_nil, Bool.and_true, Bool.and_eq_true] at h
  unfold Room.acked
  dsimp only
  repeat' first
    | with_reducible rfl
    | with_reducible apply Room.fld_ite_eq
    | with_reducible refine (Room.fld_put_apart _ _ _ _ (by simp only [h])).trans ?_
    | with_reducible refine (Room.fld_putB_apart _ _ _ _ (by simp only [h])).trans ?_
    | with_reducible refine (Room.fld_on_apart _ _ _ (by simp only [h])).trans ?_
    | with_reducible refine (Room.fld_onPd _ _ _).trans ?_
    | with_reducible refine (Room.coreSent_fld _ _ _ g (by simp only [h])).trans ?_
    | with_reducible refine (Room.replySent_fld _ _ _ g (by simp only [h])).trans ?_
    | with_reducible refine (Room.txEnd_fld _ _ g (by simp only [h])).trans ?_
    | split

def Room.addEnergyW : List Field :=
  [Field.whole 0x3C0, Field.whole 0x3C4, Field.whole 0x3C8, Field.whole 0x3CC]
theorem Room.addEnergy_fld (q : Int) (r : Room) (g : Field)
    (h : Field.clear Room.addEnergyW g = true) : (Room.addEnergy q r).fld g = r.fld g := by
  simp only [Room.addEnergyW, Field.clear_cons, Field.clear_nil, Bool.and_true, Bool.and_eq_true] at h
  unfold Room.addEnergy Room.putE48
  dsimp only
  repeat' first
    | with_reducible rfl
    | with_reducible apply Room.fld_ite_eq
    | with_reducible refine (Regs.fld_set_apart _ _ _ _ (by simp only [h])).trans ?_
    | with_reducible refine (Regs.fld_put_apart _ _ _ _ (by simp only [h])).trans ?_
    | with_reducible refine (Room.fld_mk _ _ _ _ _ _ _ _ _ _ _ _ _ _ _ _ _ _ _ _).trans ?_
    | with_reducible refine (Room.fld_regs _ _).trans ?_

def Room.addHoldW : List Field :=
  [] ++ Room.showLevelW ++ Room.showThrW
theorem Room.addHold_fld (e : Env) (hd : Hold) (r : Room) (g : Field)
    (h : Field.clear Room.addHoldW g = true) : (Room.addHold e hd r).fld g = r.fld g := by
  simp only [Room.addHoldW, Field.clear_append, Field.clear_nil, Bool.and_eq_true] at h
  unfold Room.addHold
  dsimp only
  repeat' first
    | with_reducible rfl
    | with_reducible apply Room.fld_ite_eq
    | with_reducible refine (Room.fld_onConv _ _ _).trans ?_
    | with_reducible refine (Room.showLevel_fld _ _ g (by simp only [h])).trans ?_
    | with_reducible refine (Room.showThr_fld _ _ g (by simp only [h])).trans ?_

def Room.mirrorSeqW : List Field :=
  []
theorem Room.mirrorSeq_fld (now : Nat) (t : Nat) (was : Nat) (vconn : Bool) (r : Room) (g : Field)
    (h : Field.clear Room.mirrorSeqW g = true) : (Room.mirrorSeq now t was vconn r).fld g = r.fld g := by
  simp only [Room.mirrorSeqW, Field.clear_nil] at h
  unfold Room.mirrorSeq
  dsimp only
  repeat' first
    | with_reducible rfl
    | with_reducible apply Room.fld_ite_eq
    | with_reducible refine (Room.fld_onCc _ _ _).trans ?_
    | with_reducible refine (Room.fld_onCon _ _ _).trans ?_

def Room.applyRoomW : List Field :=
  [Field.whole 0x8, Field.whole 0x84, Field.whole 0x148, Field.whole 0x14C, Field.whole 0x158, Field.whole 0x164,
    Field.whole 0x150, Field.whole 0x294, Field.whole 0x2C4, EF_STAT_TIMER] ++ Room.applyCcW ++ Room.mirrorRetryW ++
    Room.mirrorSeqW ++ Room.refreshCableW
theorem Room.applyRoom_fld (e : Env) (slotOn : Bool) (b : List Byte) (r : Room) (g : Field)
    (h : Field.clear Room.applyRoomW g = true) : (Room.applyRoom e slotOn b r).fld g = r.fld g := by
  simp only [Room.applyRoomW, Field.clear_append, Field.clear_cons, Field.clear_nil, Bool.and_true, Bool.and_eq_true] at h
  unfold Room.applyRoom mirrorReg
  dsimp only
  repeat' first
    | with_reducible rfl
    | with_reducible apply Room.fld_ite_eq
    | with_reducible refine (Room.fld_onCc _ _ _).trans ?_
    | with_reducible refine (Room.fld_onPd _ _ _).trans ?_
    | with_reducible refine (Room.fld_onCon _ _ _).trans ?_
    | with_reducible refine (Room.applyCc_fld _ _ g (by simp only [h])).trans ?_
    | with_reducible refine (Room.mirrorRetry_fld _ _ g (by simp only [h])).trans ?_
    | with_reducible refine (Room.mirrorSeq_fld _ _ _ _ _ g (by simp only [h])).trans ?_
    | with_reducible refine (Room.refreshCable_fld _ _ g (by simp only [h])).trans ?_
    | with_reducible refine (Regs.fld_set_apart _ _ _ _ (by simp only [h])).trans ?_
    | with_reducible refine (Regs.fld_put_apart _ _ _ _ (by simp only [h])).trans ?_
    | with_reducible refine (Room.fld_mk _ _ _ _ _ _ _ _ _ _ _ _ _ _ _ _ _ _ _ _).trans ?_
    | with_reducible refine (Room.fld_regs _ _).trans ?_

def Room.dropHoldsW : List Field :=
  [] ++ Room.showThrW
theorem Room.dropHolds_fld (e : Env) (f : Hold → Bool) (r : Room) (g : Field)
    (h : Field.clear Room.dropHoldsW g = true) : (Room.dropHolds e f r).fld g = r.fld g := by
  simp only [Room.dropHoldsW, Field.clear_append, Field.clear_nil, Bool.and_eq_true] at h
  unfold Room.dropHolds
  repeat' first
    | with_reducible rfl
    | with_reducible apply Room.fld_ite_eq
    | with_reducible refine (Room.fld_onConv _ _ _).trans ?_
    | with_reducible refine (Room.showThr_fld _ _ g (by simp only [h])).trans ?_

def Room.attemptW : List Field :=
  [CONV_EVENT_ATTEMPT, RETRY_STAT_ATTEMPT, RETRY_STAT_NEXT, RETRY_STAT_WAIT] ++ Room.conClearW ++ Room.dischargeW ++
    Room.dropHoldsW ++ Room.loopOffW ++ Room.openSwitchW ++ Room.pdClearW ++ Room.powerOnW
theorem Room.attempt_fld (e : Env) (r : Room) (g : Field)
    (h : Field.clear Room.attemptW g = true) : (Room.attempt e r).fld g = r.fld g := by
  simp only [Room.attemptW, Field.clear_append, Field.clear_cons, Field.clear_nil, Bool.and_true, Bool.and_eq_true] at h
  unfold Room.attempt
  dsimp only
  repeat' first
    | with_reducible rfl
    | with_reducible apply Room.fld_ite_eq
    | with_reducible refine (Room.fld_on_apart _ _ _ (by simp only [h])).trans ?_
    | with_reducible refine (Room.fld_off_apart _ _ _ (by simp only [h])).trans ?_
    | with_reducible refine (Room.fld_onConv _ _ _).trans ?_
    | with_reducible refine (Room.conClear_fld _ _ g (by simp only [h])).trans ?_
    | with_reducible refine (Room.discharge_fld _ _ _ _ _ g (by simp only [h])).trans ?_
    | with_reducible refine (Room.dropHolds_fld _ _ _ g (by simp only [h])).trans ?_
    | with_reducible refine (Room.loopOff_fld _ g (by simp only [h])).trans ?_
    | with_reducible refine (Room.openSwitch_fld _ g (by simp only [h])).trans ?_
    | with_reducible refine (Room.pdClear_fld _ _ g (by simp only [h])).trans ?_
    | with_reducible refine (Room.powerOn_fld _ _ g (by simp only [h])).trans ?_

def Room.autoSoftResetW : List Field :=
  [] ++ Room.sayW
theorem Room.autoSoftReset_fld (m : TxMsg) (r : Room) (g : Field)
    (h : Field.clear Room.autoSoftResetW g = true) : (Room.autoSoftReset m r).fld g = r.fld g := by
  simp only [Room.autoSoftResetW, Field.clear_append, Field.clear_nil, Bool.and_eq_true] at h
  unfold Room.autoSoftReset
  repeat' first
    | with_reducible rfl
    | with_reducible apply Room.fld_ite_eq
    | with_reducible refine (Room.say_fld _ _ g (by simp only [h])).trans ?_

def Room.beginW : List Field :=
  [TX_STAT_MSGID, TX_STAT_STATE, TX_STAT_TRIES] ++ Room.softClearW
theorem Room.begin_fld (m : TxMsg) (r : Room) (g : Field)
    (h : Field.clear Room.beginW g = true) : (Room.begin m r).fld g = r.fld g := by
  simp only [Room.beginW, Field.clear_append, Field.clear_cons, Field.clear_nil, Bool.and_true, Bool.and_eq_true] at h
  unfold Room.begin
  dsimp only
  repeat' first
    | with_reducible rfl
    | with_reducible apply Room.fld_ite_eq
    | with_reducible refine (Room.fld_put_apart _ _ _ _ (by simp only [h])).trans ?_
    | with_reducible refine (Room.fld_putB_apart _ _ _ _ (by simp only [h])).trans ?_
    | with_reducible refine (Room.fld_onPd _ _ _).trans ?_
    | with_reducible refine (Room.softClear_fld _ _ g (by simp only [h])).trans ?_

def Room.beginAutoW : List Field :=
  [] ++ Room.beginW
theorem Room.beginAuto_fld (m : TxMsg) (r : Room) (g : Field)
    (h : Field.clear Room.beginAutoW g = true) : (Room.beginAuto m r).fld g = r.fld g := by
  simp only [Room.beginAutoW, Field.clear_append, Field.clear_nil, Bool.and_eq_true] at h
  unfold Room.beginAuto
  repeat' first
    | with_reducible rfl
    | with_reducible apply Room.fld_ite_eq
    | with_reducible refine (Room.fld_onPd _ _ _).trans ?_
    | with_reducible refine (Room.begin_fld _ _ g (by simp only [h])).trans ?_

def Room.coreEffectsW : List Field :=
  [] ++ Room.answeredW ++ Room.eprModeW ++ Room.psRdyReceivedW
theorem Room.coreEffects_fld (e : Env) (av : Nat) (k : Pkt) (r : Room) (g : Field)
    (h : Field.clear Room.coreEffectsW g = true) : (Room.coreEffects e av k r).fld g = r.fld g := by
  simp only [Room.coreEffectsW, Field.clear_append, Field.clear_nil, Bool.and_eq_true] at h
  unfold Room.coreEffects
  repeat' first
    | with_reducible rfl
    | with_reducible apply Room.fld_ite_eq
    | with_reducible refine (Room.answered_fld _ _ _ _ g (by simp only [h])).trans ?_
    | with_reducible refine (Room.eprMode_fld _ _ _ g (by simp only [h])).trans ?_
    | with_reducible refine (Room.psRdyReceived_fld _ _ g (by simp only [h])).trans ?_

def Room.setRevW : List Field :=
  [PD_STAT_REV_SOP, PD_STAT_REV_SOPP, PD_STAT_REV_SOPPP, PD_EVENT_REV_SET]
theorem Room.setRev_fld (k : Pkt) (r : Room) (g : Field)
    (h : Field.clear Room.setRevW g = true) : (Room.setRev k r).fld g = r.fld g := by
  simp only [Room.setRevW, Field.clear_cons, Field.clear_nil, Bool.and_true, Bool.and_eq_true] at h
  unfold Room.setRev
  dsimp only
  repeat' first
    | with_reducible rfl
    | with_reducible apply Room.fld_ite_eq
    | with_reducible refine (Room.fld_put_apart _ _ _ _ (by simp only [h])).trans ?_
    | with_reducible refine (Room.fld_putB_apart _ _ _ _ (by simp only [h])).trans ?_
    | with_reducible refine (Room.fld_on_apart _ _ _ (by simp only [h])).trans ?_
    | with_reducible refine (Room.fld_put_apart _ _ _ _ (revField_apart (by simp only [h]) (by simp only [h]) (by simp only [h]))).trans ?_

def Room.failedW : List Field :=
  [PD_EVENT_HVDM_DONE, PD_STAT_HVDM_STATE] ++ Room.autoSoftResetW ++ Room.dropPartialW ++ Room.hardResetCauseW ++
    Room.txLostW
theorem Room.failed_fld (e : Env) (m : TxMsg) (r : Room) (g : Field)
    (h : Field.clear Room.failedW g = true) : (Room.failed e m r).fld g = r.fld g := by
  simp only [Room.failedW, Field.clear_append, Field.clear_cons, Field.clear_nil, Bool.and_true, Bool.and_eq_true] at h
  unfold Room.failed
  dsimp only
  repeat' first
    | with_reducible rfl
    | with_reducible apply Room.fld_ite_eq
    | with_reducible refine (Room.fld_put_apart _ _ _ _ (by simp only [h])).trans ?_
    | with_reducible refine (Room.fld_putB_apart _ _ _ _ (by simp only [h])).trans ?_
    | with_reducible refine (Room.fld_on_apart _ _ _ (by simp only [h])).trans ?_
    | with_reducible refine (Room.fld_onPd _ _ _).trans ?_
    | with_reducible refine (Room.autoSoftReset_fld _ _ g (by simp only [h])).trans ?_
    | with_reducible refine (Room.dropPartial_fld _ g (by simp only [h])).trans ?_
    | with_reducible refine (Room.hardResetCause_fld _ _ g (by simp only [h])).trans ?_
    | with_reducible refine (Room.txLost_fld _ _ g (by simp only [h])).trans ?_
    | split

def Room.fallThrW : List Field :=
  [THR_STAT_RAW]
theorem Room.fallThr_fld (r : Room) (g : Field)
    (h : Field.clear Room.fallThrW g = true) : (Room.fallThr r).fld g = r.fld g := by
  simp only [Room.fallThrW, Field.clear_cons, Field.clear_nil, Bool.and_true] at h
  unfold Room.fallThr
  dsimp only
  refine Room.fld_foldl (fun r k => ?_) r
  repeat' first
    | with_reducible rfl
    | with_reducible apply Room.fld_ite_eq
    | with_reducible refine (Room.fld_put_apart _ _ _ _ (by simp only [h])).trans ?_
    | with_reducible refine (Room.fld_putB_apart _ _ _ _ (by simp only [h])).trans ?_
    | with_reducible refine (Room.fld_onConv _ _ _).trans ?_

def Room.goodCrcW : List Field :=
  [] ++ Room.ackedW
theorem Room.goodCrc_fld (e : Env) (sop : Nat) (id : Nat) (r : Room) (g : Field)
    (h : Field.clear Room.goodCrcW g = true) : (Room.goodCrc e sop id r).fld g = r.fld g := by
  simp only [Room.goodCrcW, Field.clear_append, Field.clear_nil, Bool.and_eq_true] at h
  unfold Room.goodCrc
  repeat' first
    | with_reducible rfl
    | with_reducible apply Room.fld_ite_eq
    | with_reducible refine (Room.acked_fld _ _ _ g (by simp only [h])).trans ?_
    | split

def Room.latchW : List Field :=
  [THR_FLAG_OV, THR_FLAG_UV, THR_FLAG_PK_NEG, THR_FLAG_PK_POS, THR_FLAG_SC_NEG, THR_FLAG_SC_POS, THR_CNT_OV,
    THR_CNT_UV, THR_CNT_PK, THR_CNT_SC, CONV_EVENT_OV_TRIP, CONV_EVENT_PK_TRIP, CONV_EVENT_UV_TRIP]
theorem Room.latch_fld (k : Nat) (neg : Bool) (r : Room) (g : Field)
    (h : Field.clear Room.latchW g = true) : (Room.latch k neg r).fld g = r.fld g := by
  simp only [Room.latchW, Field.clear_cons, Field.clear_nil, Bool.and_true, Bool.and_eq_true] at h
  unfold Room.latch
  dsimp only
  repeat' first
    | with_reducible rfl
    | with_reducible apply Room.fld_ite_eq
    | with_reducible refine (Room.fld_put_apart _ _ _ _ (by simp only [h])).trans ?_
    | with_reducible refine (Room.fld_putB_apart _ _ _ _ (by simp only [h])).trans ?_
    | with_reducible refine (Room.fld_on_apart _ _ _ (by simp only [h])).trans ?_
    | with_reducible refine (Room.fld_onConv _ _ _).trans ?_
    | with_reducible refine (Room.fld_on_apart _ _ _ (flagOf_apart (by simp only [h]) (by simp only [h]) (by simp only [h]) (by simp only [h]) (by simp only [h]) (by simp only [h]))).trans ?_
    | with_reducible refine (Room.fld_off_apart _ _ _ (flagOf_apart (by simp only [h]) (by simp only [h]) (by simp only [h]) (by simp only [h]) (by simp only [h]) (by simp only [h]))).trans ?_
    | with_reducible refine (Room.fld_put_apart _ _ _ _ (cntOf_apart (by simp only [h]) (by simp only [h]) (by simp only [h]) (by simp only [h]))).trans ?_
    | split

def Room.loadProgramW : List Field :=
  []
theorem Room.loadProgram_fld (pr : ProgramRec) (r : Room) (g : Field)
    (h : Field.clear Room.loadProgramW g = true) : (Room.loadProgram pr r).fld g = r.fld g := by
  simp only [Room.loadProgramW, Field.clear_nil] at h
  unfold Room.loadProgram
  repeat' first
    | with_reducible rfl
    | with_reducible apply Room.fld_ite_eq
    | with_reducible refine (Room.fld_mk _ _ _ _ _ _ _ _ _ _ _ _ _ _ _ _ _ _ _ _).trans ?_
    | with_reducible refine (Room.fld_regs _ _).trans ?_

def Room.observeAckW : List Field :=
  [PD_STAT_REV_SOP, PD_STAT_REV_SOPP, PD_STAT_REV_SOPPP, PD_STAT_HR_COUNT] ++ Room.cableAnswerW ++ Room.eprModeW
theorem Room.observeAck_fld (e : Env) (sop : Nat) (id : Nat) (r : Room) (g : Field)
    (h : Field.clear Room.observeAckW g = true) : (Room.observeAck e sop id r).fld g = r.fld g := by
  simp only [Room.observeAckW, Field.clear_append, Field.clear_cons, Field.clear_nil, Bool.and_true, Bool.and_eq_true] at h
  unfold Room.observeAck
  dsimp only
  repeat' first
    | with_reducible rfl
    | with_reducible apply Room.fld_ite_eq
    | with_reducible refine (Room.fld_put_apart _ _ _ _ (by simp only [h])).trans ?_
    | with_reducible refine (Room.fld_putB_apart _ _ _ _ (by simp only [h])).trans ?_
    | with_reducible refine (Room.fld_off_apart _ _ _ (by simp only [h])).trans ?_
    | with_reducible refine (Room.fld_onPd _ _ _).trans ?_
    | with_reducible refine (Room.cableAnswer_fld _ _ _ g (by simp only [h])).trans ?_
    | with_reducible refine (Room.eprMode_fld _ _ _ g (by simp only [h])).trans ?_
    | with_reducible refine (Room.fld_put_apart _ _ _ _ (revField_apart (by simp only [h]) (by simp only [h]) (by simp only [h]))).trans ?_
    | split

def Room.packetW : List Field :=
  [] ++ Room.discardW PD_ERRCNT_CRC_ERR ++ Room.discardW PD_ERRCNT_TRUNC ++ Room.goodCrcW ++ Room.heardW ++ Room.observeW ++ Room.observeAckW ++ Room.receiveW
theorem Room.packet_fld (e : Env) (c : Checked) (r : Room) (g : Field)
    (h : Field.clear Room.packetW g = true) : (Room.packet e c r).fld g = r.fld g := by
  simp only [Room.packetW, Field.clear_append, Field.clear_nil, Bool.and_eq_true] at h
  unfold Room.packet
  repeat' first
    | with_reducible rfl
    | with_reducible apply Room.fld_ite_eq
    | with_reducible refine (Room.discard_fld _ _ _ g (by simp only [h])).trans ?_
    | with_reducible refine (Room.goodCrc_fld _ _ _ _ g (by simp only [h])).trans ?_
    | with_reducible refine (Room.heard_fld _ _ _ g (by simp only [h])).trans ?_
    | with_reducible refine (Room.observe_fld _ _ g (by simp only [h])).trans ?_
    | with_reducible refine (Room.observeAck_fld _ _ _ _ g (by simp only [h])).trans ?_
    | with_reducible refine (Room.receive_fld _ _ _ g (by simp only [h])).trans ?_
    | split

def Room.sampleW : List Field :=
  [ADC_I_LOOP, ADC_VBUS_LOOP, ADC_VNODE_VIN, ADC_VNODE_VNODE, LOOP_STAT_FF_CLAMP, SW_STAT_VDS] ++ Room.fallThrW
theorem Room.sample_fld (e : Env) (vb : Nat) (ci : Nat) (vn : Nat) (vi : Nat) (r : Room) (g : Field)
    (h : Field.clear Room.sampleW g = true) : (Room.sample e vb ci vn vi r).fld g = r.fld g := by
  simp only [Room.sampleW, Field.clear_append, Field.clear_cons, Field.clear_nil, Bool.and_true, Bool.and_eq_true] at h
  unfold Room.sample
  dsimp only
  repeat' first
    | with_reducible rfl
    | with_reducible apply Room.fld_ite_eq
    | with_reducible refine (Room.fld_put_apart _ _ _ _ (by simp only [h])).trans ?_
    | with_reducible refine (Room.fld_putB_apart _ _ _ _ (by simp only [h])).trans ?_
    | with_reducible refine (Room.fld_onCc _ _ _).trans ?_
    | with_reducible refine (Room.fld_onCon _ _ _).trans ?_
    | with_reducible refine (Room.fld_onConv _ _ _).trans ?_
    | with_reducible refine (Room.fallThr_fld _ g (by simp only [h])).trans ?_

def Room.sampleFollowerW : List Field :=
  [ADC_I_LOOP, ADC_VNODE_VIN, ADC_VNODE_VNODE] ++ Room.fallThrW
theorem Room.sampleFollower_fld (e : Env) (ci : Nat) (vn : Nat) (r : Room) (g : Field)
    (h : Field.clear Room.sampleFollowerW g = true) : (Room.sampleFollower e ci vn r).fld g = r.fld g := by
  simp only [Room.sampleFollowerW, Field.clear_append, Field.clear_cons, Field.clear_nil, Bool.and_true, Bool.and_eq_true] at h
  unfold Room.sampleFollower
  dsimp only
  repeat' first
    | with_reducible rfl
    | with_reducible apply Room.fld_ite_eq
    | with_reducible refine (Room.fld_put_apart _ _ _ _ (by simp only [h])).trans ?_
    | with_reducible refine (Room.fld_putB_apart _ _ _ _ (by simp only [h])).trans ?_
    | with_reducible refine (Room.fallThr_fld _ g (by simp only [h])).trans ?_

def Room.staleTakeoverW : List Field :=
  [] ++ Room.errorRecoveryW ++ Room.refreshIlimW ++ Room.sayW
theorem Room.staleTakeover_fld (e : Env) (r : Room) (g : Field)
    (h : Field.clear Room.staleTakeoverW g = true) : (Room.staleTakeover e r).fld g = r.fld g := by
  simp only [Room.staleTakeoverW, Field.clear_append, Field.clear_nil, Bool.and_eq_true] at h
  unfold Room.staleTakeover
  repeat' first
    | with_reducible rfl
    | with_reducible apply Room.fld_ite_eq
    | with_reducible refine (Room.fld_onCon _ _ _).trans ?_
    | with_reducible refine (Room.errorRecovery_fld _ _ g (by simp only [h])).trans ?_
    | with_reducible refine (Room.refreshIlim_fld _ _ g (by simp only [h])).trans ?_
    | with_reducible refine (Room.say_fld _ _ g (by simp only [h])).trans ?_

def Room.startAutoW : List Field :=
  [] ++ Room.beginAutoW
theorem Room.startAuto_fld (e : Env) (kind : TxKind) (r : Room) (g : Field)
    (h : Field.clear Room.startAutoW g = true) : (Room.startAuto e kind r).fld g = r.fld g := by
  simp only [Room.startAutoW, Field.clear_append, Field.clear_nil, Bool.and_eq_true] at h
  unfold Room.startAuto
  repeat' first
    | with_reducible rfl
    | with_reducible apply Room.fld_ite_eq
    | with_reducible refine (Room.beginAuto_fld _ _ g (by simp only [h])).trans ?_
    | split

def Room.transfersW : List Field :=
  [CONV_EVENT_COEF_APPLIED]
theorem Room.transfers_fld (turned : Bool) (r : Room) (g : Field)
    (h : Field.clear Room.transfersW g = true) : (Room.transfers turned r).fld g = r.fld g := by
  simp only [Room.transfersW, Field.clear_cons, Field.clear_nil, Bool.and_true] at h
  unfold Room.transfers
  dsimp only
  repeat' first
    | with_reducible rfl
    | with_reducible apply Room.fld_ite_eq
    | with_reducible refine (Room.fld_on_apart _ _ _ (by simp only [h])).trans ?_
    | with_reducible refine (Room.fld_onConv _ _ _).trans ?_

def Room.startPeriodW : List Field :=
  [] ++ Room.foldPeriodW ++ Room.levelsW ++ Room.newPeriodW ++ Room.rememberW ++ Room.showThrW ++ Room.transfersW ++
    Room.turnW
theorem Room.startPeriod_fld (e : Env) (r : Room) (g : Field)
    (h : Field.clear Room.startPeriodW g = true) : (Room.startPeriod e r).fld g = r.fld g := by
  simp only [Room.startPeriodW, Field.clear_append, Field.clear_nil, Bool.and_eq_true] at h
  unfold Room.startPeriod
  dsimp only
  repeat' first
    | with_reducible rfl
    | with_reducible apply Room.fld_ite_eq
    | with_reducible refine (Room.foldPeriod_fld _ _ g (by simp only [h])).trans ?_
    | with_reducible refine (Room.levels_fld _ _ g (by simp only [h])).trans ?_
    | with_reducible refine (Room.newPeriod_fld _ _ g (by simp only [h])).trans ?_
    | with_reducible refine (Room.remember_fld _ _ g (by simp only [h])).trans ?_
    | with_reducible refine (Room.showThr_fld _ _ g (by simp only [h])).trans ?_
    | with_reducible refine (Room.transfers_fld _ _ g (by simp only [h])).trans ?_
    | with_reducible refine (Room.turn_fld _ _ g (by simp only [h])).trans ?_

def Room.startTxW : List Field :=
  [] ++ Room.beginW ++ Room.beginAutoW ++ Room.followRpW ++ Room.followVdmW
theorem Room.startTx_fld (e : Env) (r : Room) (g : Field)
    (h : Field.clear Room.startTxW g = true) : (Room.startTx e r).fld g = r.fld g := by
  simp only [Room.startTxW, Field.clear_append, Field.clear_nil, Bool.and_eq_true] at h
  unfold Room.startTx
  dsimp only
  repeat' first
    | with_reducible rfl
    | with_reducible apply Room.fld_ite_eq
    | with_reducible refine (Room.begin_fld _ _ g (by simp only [h])).trans ?_
    | with_reducible refine (Room.beginAuto_fld _ _ g (by simp only [h])).trans ?_
    | with_reducible refine (Room.followRp_fld _ g (by simp only [h])).trans ?_
    | with_reducible refine (Room.followVdm_fld _ _ g (by simp only [h])).trans ?_
    | split

def Room.gateW : List Field :=
  [CON_EVENT_GATE, CON_STAT_GATE] ++ Room.endResvW ++ Room.takeNegW
theorem Room.gate_fld (e : Env) (av : Nat) (k : Pkt) (r : Room) (g : Field)
    (h : Field.clear Room.gateW g = true) : (Room.gate e av k r).2.2.fld g = r.fld g := by
  simp only [Room.gateW, Field.clear_append, Field.clear_cons, Field.clear_nil, Bool.and_true, Bool.and_eq_true] at h
  unfold Room.gate
  dsimp only
  repeat' first
    | with_reducible rfl
    | with_reducible apply Room.fld_ite_eq
    | with_reducible refine (Room.fld_put_apart _ _ _ _ (by simp only [h])).trans ?_
    | with_reducible refine (Room.fld_putB_apart _ _ _ _ (by simp only [h])).trans ?_
    | with_reducible refine (Room.fld_on_apart _ _ _ (by simp only [h])).trans ?_
    | with_reducible refine (Room.fld_onCon _ _ _).trans ?_
    | with_reducible refine (Room.endResv_fld _ g (by simp only [h])).trans ?_
    | with_reducible refine (Room.takeNeg_fld _ g (by simp only [h])).trans ?_
    | split

def Room.clampCapsW : List Field :=
  [CON_EVENT_CAPS_CLAMPED]
theorem Room.clampCaps_fld (e : Env) (k : Pkt) (ext : List Byte) (r : Room) (g : Field)
    (h : Field.clear Room.clampCapsW g = true) : (Room.clampCaps e k ext r).2.2.fld g = r.fld g := by
  simp only [Room.clampCapsW, Field.clear_cons, Field.clear_nil, Bool.and_true] at h
  unfold Room.clampCaps
  dsimp only
  repeat' first
    | with_reducible rfl
    | with_reducible apply Room.fld_ite_eq
    | with_reducible refine (Room.fld_on_apart _ _ _ (by simp only [h])).trans ?_
    | split

def Room.eprCheckW : List Field :=
  [CON_EVENT_GATE, CON_STAT_GATE]
theorem Room.eprCheck_fld (e : Env) (k : Pkt) (r : Room) (g : Field)
    (h : Field.clear Room.eprCheckW g = true) : (Room.eprCheck e k r).2.fld g = r.fld g := by
  simp only [Room.eprCheckW, Field.clear_cons, Field.clear_nil, Bool.and_true, Bool.and_eq_true] at h
  unfold Room.eprCheck
  dsimp only
  repeat' first
    | with_reducible rfl
    | with_reducible apply Room.fld_ite_eq
    | with_reducible refine (Room.fld_put_apart _ _ _ _ (by simp only [h])).trans ?_
    | with_reducible refine (Room.fld_putB_apart _ _ _ _ (by simp only [h])).trans ?_
    | with_reducible refine (Room.fld_on_apart _ _ _ (by simp only [h])).trans ?_
    | split

def Room.takeW : List Field :=
  [TX_STAT_TRIES] ++ Room.clampCapsW ++ Room.eprCheckW ++ Room.gateW ++ Room.queueTxW
theorem Room.take_fld (e : Env) (av : Nat) (r : Room) (g : Field)
    (h : Field.clear Room.takeW g = true) : (Room.take e av r).fld g = r.fld g := by
  simp only [Room.takeW, Field.clear_append, Field.clear_cons, Field.clear_nil, Bool.and_true, Bool.and_eq_true] at h
  unfold Room.take
  dsimp only
  repeat' first
    | with_reducible rfl
    | with_reducible apply Room.fld_ite_eq
    | with_reducible refine (Room.fld_put_apart _ _ _ _ (by simp only [h])).trans ?_
    | with_reducible refine (Room.fld_putB_apart _ _ _ _ (by simp only [h])).trans ?_
    | with_reducible refine (Room.fld_onPd _ _ _).trans ?_
    | with_reducible refine (Room.fld_onCore _ _ _).trans ?_
    | with_reducible refine (Room.clampCaps_fld _ _ _ _ g (by simp only [h])).trans ?_
    | with_reducible refine (Room.eprCheck_fld _ _ _ g (by simp only [h])).trans ?_
    | with_reducible refine (Room.gate_fld _ _ _ _ g (by simp only [h])).trans ?_
    | with_reducible refine (Room.queueTx_fld _ _ _ g (by simp only [h])).trans ?_

def Room.unlatchW : List Field :=
  [THR_FLAG_OV, THR_FLAG_UV, THR_FLAG_PK_NEG, THR_FLAG_PK_POS, THR_FLAG_SC_NEG, THR_FLAG_SC_POS]
theorem Room.unlatch_fld (k : Nat) (r : Room) (g : Field)
    (h : Field.clear Room.unlatchW g = true) : (Room.unlatch k r).fld g = r.fld g := by
  simp only [Room.unlatchW, Field.clear_cons, Field.clear_nil, Bool.and_true, Bool.and_eq_true] at h
  unfold Room.unlatch
  repeat' first
    | with_reducible rfl
    | with_reducible apply Room.fld_ite_eq
    | with_reducible refine (Room.fld_off_apart _ _ _ (by simp only [h])).trans ?_
    | with_reducible refine (Room.fld_on_apart _ _ _ (flagOf_apart (by simp only [h]) (by simp only [h]) (by simp only [h]) (by simp only [h]) (by simp only [h]) (by simp only [h]))).trans ?_
    | with_reducible refine (Room.fld_off_apart _ _ _ (flagOf_apart (by simp only [h]) (by simp only [h]) (by simp only [h]) (by simp only [h]) (by simp only [h]) (by simp only [h]))).trans ?_

end Sys2Proof.Machine

namespace Sys2Proof.Machine

set_option Elab.async false

/-! ## The loop engine (R265 to R286) -/

/-- A fold establishes what one of its steps establishes and every step keeps. -/
theorem List.foldl_establishes {α β : Type} {P : β → Prop} {f : β → α → β} {l : List α} {a : α} (ha : a ∈ l)
    (hstep : ∀ b, P (f b a)) (hkeep : ∀ b x, P b → P (f b x)) (b : β) : P (l.foldl f b) := by
  induction l generalizing b with
  | nil => cases ha
  | cons x l ih =>
    rw [List.foldl_cons]
    by_cases hal : a ∈ l
    · exact ih hal _
    · obtain rfl : a = x := (List.mem_cons.1 ha).resolve_right hal
      exact List.foldlRecOn l f (hstep b) fun c hc y _ => hkeep c y hc

theorem State.room_onRoom_cases {P : Room → Prop} {s : State} {p q : Fin 48} {g : Room → Room} (h : P (s.room q))
    (hg : P (g (s.room q))) : P ((s.onRoom p g).room q) := by
  by_cases hpq : p = q
  · subst hpq
    rwa [State.room_onRoom]
  · rwa [State.room_onRoom_ne _ _ _ _ hpq]

theorem State.room_onRoomE_cases {P : Room → Prop} {s : State} {p q : Fin 48} {g : Env → Room → Room} (h : P (s.room q))
    (hg : ∀ e, P (g e (s.room q))) : P ((s.onRoomE p g).room q) :=
  State.room_onRoom_cases h (hg _)

theorem Room.get_of_fld {q r : Room} {a : Nat} (h : q.fld (Field.whole a) = r.fld (Field.whole a)) :
    q.regs.get a = r.regs.get a := by
  have heq := BitVec.eq_of_toNat_eq h
  simpa [Field.whole, BitVec.extractLsb'_eq_self] using heq

theorem State.room_tookPeriod (s : State) (p q : Fin 48) : (s.tookPeriod p).room q = s.room q := by
  unfold State.tookPeriod State.logTakeover
  split
  · split
    · rfl
    · split
      · rfl
      · rfl
  · rfl

theorem State.room_autoClear {P : Room → Prop} (hun : ∀ r k, P r → P (Room.unlatch k r))
    (hdrop : ∀ e f r, P r → P (Room.dropHolds e f r)) {p q : Fin 48} (l : List Nat) {s : State} (h : P (s.room q)) :
    P ((l.foldl (fun s k => (s.untrip p.val k).onRoom p (Room.unlatch k)) s).room q) := by
  refine List.foldlRecOn (motive := fun t : State => P (t.room q)) l _ h fun t ht k _ => ?_
  have huntrip : P ((t.untrip p.val k).room q) := by
    unfold State.untrip
    exact List.foldlRecOn (motive := fun t : State => P (t.room q)) _ _ ht fun t ht m _ =>
      State.room_onRoomE_cases ht fun e => hdrop e _ _ ht
  exact State.room_onRoom_cases huntrip (hun _ k huntrip)

/-- The Threshold words and the due coefficients of the loop engine. -/
def ConvState.settings (c : ConvState) : List Word × Bool := (c.thr, c.coefDue)

theorem Room.settings_newPeriod (e : Env) (r : Room) : (r.newPeriod e).conv.settings = r.conv.settings := by
  unfold Room.newPeriod
  dsimp only
  split <;> split_ifs <;> rfl

theorem Room.settings_foldPeriod (e : Env) (r : Room) : (r.foldPeriod e).conv.settings = r.conv.settings := by
  unfold Room.foldPeriod
  split_ifs <;> rfl

theorem Room.settings_turn (e : Env) {r : Room} (hfrs : r.conv.frsTurn = false) (hdir : r.conv.dirDue = none) : r.turn e = r := by
  simp [Room.turn, hfrs, hdir]

theorem Room.thr_transfers (turned : Bool) (r : Room) :
    (r.transfers turned).conv.thr = [r.regs.get 0x210, r.regs.get 0x214, r.regs.get 0x218, r.regs.get 0x21C] := by
  unfold Room.transfers
  dsimp only
  split_ifs
  · have hget : ∀ a, Field.clear [CONV_EVENT_COEF_APPLIED] (Field.whole a) = true →
        (r.on CONV_EVENT_COEF_APPLIED).regs.get a = r.regs.get a := fun a ha =>
      Room.get_of_fld (Room.fld_on_apart r _ _ (by simpa using ha))
    show [(r.on CONV_EVENT_COEF_APPLIED).regs.get 0x210, (r.on CONV_EVENT_COEF_APPLIED).regs.get 0x214,
      (r.on CONV_EVENT_COEF_APPLIED).regs.get 0x218, (r.on CONV_EVENT_COEF_APPLIED).regs.get 0x21C] = _
    rw [hget _ (by decide), hget _ (by decide), hget _ (by decide), hget _ (by decide)]
  · rfl

theorem Room.coefDue_transfers (r : Room) : (r.transfers false).conv.coefDue = false := by
  unfold Room.transfers
  dsimp only
  split_ifs with h
  · rfl
  · simpa using h

theorem Room.startPeriod_settings (e : Env) (r : Room) :
    (r.startPeriod e).conv.thr = [r.regs.get 0x210, r.regs.get 0x214, r.regs.get 0x218, r.regs.get 0x21C] ∧
      (r.conv.frsTurn = false → r.conv.dirDue = none → (r.startPeriod e).conv.coefDue = false) := by
  have hshown : ∀ t : Room, (((t.remember e).levels e).showThr e).conv.settings = t.conv.settings := fun _ => rfl
  have hturned : ∀ t : Room, ((((t.remember e).levels e).newPeriod e).foldPeriod e |>.showThr e).conv.settings = t.conv.settings :=
    fun t => (Room.settings_foldPeriod e _).trans (Room.settings_newPeriod e _)
  have hget : ∀ a, Field.clear Room.turnW (Field.whole a) = true → (r.turn e).regs.get a = r.regs.get a := fun a ha =>
    Room.get_of_fld (Room.turn_fld e r _ ha)
  unfold Room.startPeriod
  split_ifs
  · have h := hshown (r.transfers false)
    exact ⟨(congrArg Prod.fst h).trans (Room.thr_transfers _ _), fun _ _ => (congrArg Prod.snd h).trans (Room.coefDue_transfers r)⟩
  · have h := hturned ((r.turn e).transfers ((r.turn e).loop != r.loop))
    refine ⟨(congrArg Prod.fst h).trans ((Room.thr_transfers _ _).trans ?_), fun hfrs hdir => (congrArg Prod.snd h).trans ?_⟩
    · simp (disch := decide) only [hget]
    · rw [Room.settings_turn e hfrs hdir, bne_self_eq_false]
      exact Room.coefDue_transfers r

theorem Room.startPeriod_turns (e : Env) {r : Room} (hk : e.keeper = true) (hfrs : r.conv.frsTurn = true) :
    (r.startPeriod e).loop = lRegulate ∧ (r.startPeriod e).fld VSET_REF = 5000 ∧
      (r.startPeriod e).bit CONV_EVENT_DIR_CHANGE = true := by
  have hreg : lRegulate % 2 ^ LOOP_STAT_STATE.width = lRegulate := rfl
  have hmv : 5000 % 2 ^ VSET_REF.width = 5000 := rfl
  unfold Room.startPeriod Room.turn Room.frsStart Room.setRef Room.setLoop Room.loop
  simp (disch := decide) only [hk, Bool.not_true, Bool.false_eq_true, ↓reduceIte, hfrs, OfNat.ofNat_ne_one,
    decide_false, OfNat.ofNat_eq_ofNat, Nat.succ_ne_self, Bool.or_self, decide_true, Bool.or_true, Nat.reduceDiv,
    bit_eq, fld_onConv, fld_put_apart, Bool.false_and, Nat.reduceEqDiff, Bool.or_false, fld_on_apart, refreshRamp_fld,
    slewRate_fld, preBias_fld, fld_putB_apart, fld_put, hreg, showThr_fld, foldPeriod_fld, newPeriod_fld, levels_fld,
    remember_fld, transfers_fld, hmv, fld_on, Nat.reduceBNe, and_self]


theorem State.kept_autoClear {Q : State → Prop} (hQ : ∀ s p g, Q s → Q (s.onRoom p g)) {p : Fin 48} (l : List Nat) {s : State}
    (h : Q s) : Q (l.foldl (fun s k => (s.untrip p.val k).onRoom p (Room.unlatch k)) s) := by
  refine List.foldlRecOn (motive := Q) l _ h fun t ht k _ => hQ _ _ _ ?_
  unfold State.untrip
  exact List.foldlRecOn (motive := Q) _ _ ht fun t ht m _ => hQ _ _ _ ht

theorem State.pl_tookPeriod (s : State) (p : Fin 48) : (s.tookPeriod p).pl = s.pl := by
  unfold State.tookPeriod State.logTakeover
  split
  · split
    · rfl
    · split
      · rfl
      · rfl
  · rfl

/-- What clearing a latch and its holds leaves of a Room. -/
def Room.Unlatched (r0 r : Room) : Prop :=
  (∀ g : Field, Field.clear (Room.unlatchW ++ Room.dropHoldsW) g = true → r.fld g = r0.fld g) ∧
    r.conv.frsTurn = r0.conv.frsTurn ∧ r.conv.dirDue = r0.conv.dirDue

theorem Room.Unlatched.unlatch {r0 r : Room} (h : Room.Unlatched r0 r) (k : Nat) : Room.Unlatched r0 (Room.unlatch k r) := by
  obtain ⟨hfld, hfrs, hdir⟩ := h
  refine ⟨fun g hg => ?_, hfrs, hdir⟩
  exact (Room.unlatch_fld k r g (by simp_all)).trans (hfld g hg)

theorem Room.Unlatched.dropHolds {r0 r : Room} (h : Room.Unlatched r0 r) (e : Env) (f : Hold → Bool) :
    Room.Unlatched r0 (Room.dropHolds e f r) := by
  obtain ⟨hfld, hfrs, hdir⟩ := h
  refine ⟨fun g hg => ?_, hfrs, hdir⟩
  exact (Room.dropHolds_fld e f r g (by simp_all)).trans (hfld g hg)

/-- What is true of a Room after the start of its period: what the start establishes and the marks of the followers leave. -/
theorem exec_periodStart_does {P : Room → Prop} {s : State} {p : Fin 48} (hp : s.present p = true)
    (hturn : s.pl.follower p.val = false ∨ s.phaseTurn p = true)
    (hdue : ∀ r : Room, P r → P (r.onConv fun c => { c with phaseDue := true }))
    (hstart : ∀ (e : Env) (r : Room), e.keeper = s.keeps (wingOf p) → Room.Unlatched (s.room p) r → P (r.startPeriod e)) :
    ∃ t, exec (.periodStart p) s = .next t ∧ P (t.room p) := by
  rw [exec_periodStart, execPeriodStart]
  refine act_does (by simpa [hp] using hturn) ?_
  rw [State.withQueue_room, State.posted_room]
  dsimp only
  have hun := State.room_autoClear (P := Room.Unlatched (s.room p)) (q := p) (p := p) (fun r k h => h.unlatch k)
    (fun e f r h => h.dropHolds e f) ((List.range 4).filter (s.room p).autoClr) (s := s) ⟨fun _ _ => rfl, rfl, rfl⟩
  have hkeep := State.kept_autoClear (p := p) (Q := fun t => t.keeps (wingOf p) = s.keeps (wingOf p))
    (fun t q g h => (State.keeps_onRoom t q g _).trans h) ((List.range 4).filter (s.room p).autoClr) (s := s) rfl
  generalize List.foldl _ s _ = t at hun hkeep ⊢
  have hroom : P (((t.onRoomE p Room.startPeriod).tookPeriod p).room p) := by
    rw [State.room_tookPeriod, State.room_onRoomE]
    exact hstart _ _ hkeep hun
  split
  · exact hroom
  · exact List.foldlRecOn (motive := fun u : State => P (u.room p)) _ _ hroom fun u hu m _ =>
      State.room_onRoom_cases hu (hdue _ hu)

theorem exec_periodStart_transfers {s : State} {p : Fin 48} (hp : s.present p = true)
    (hturn : s.pl.follower p.val = false ∨ s.phaseTurn p = true) :
    ∃ t, exec (.periodStart p) s = .next t ∧ (t.room p).conv.thr =
      [(s.room p).regs.get 0x210, (s.room p).regs.get 0x214, (s.room p).regs.get 0x218, (s.room p).regs.get 0x21C] ∧
      ((s.room p).conv.frsTurn = false → (s.room p).conv.dirDue = none → (t.room p).conv.coefDue = false) := by
  refine exec_periodStart_does (P := fun r => r.conv.thr = _ ∧ (_ → _ → r.conv.coefDue = false)) hp hturn (fun _ h => h) ?_
  rintro e r - ⟨hfld, hfrs, hdir⟩
  obtain ⟨hthr, hcoef⟩ := Room.startPeriod_settings e r
  refine ⟨hthr.trans ?_, fun hf hd => hcoef (hfrs.trans hf) (hdir.trans hd)⟩
  rw [Room.get_of_fld (hfld _ (by decide)), Room.get_of_fld (hfld _ (by decide)), Room.get_of_fld (hfld _ (by decide)),
    Room.get_of_fld (hfld _ (by decide))]

theorem exec_periodStart_turns {s : State} {p : Fin 48} (hp : s.present p = true) (hfol : s.pl.follower p.val = false)
    (hk : s.keeps (wingOf p) = true) (hfrs : (s.room p).conv.frsTurn = true) :
    ∃ t, exec (.periodStart p) s = .next t ∧ (t.room p).loop = lRegulate ∧ (t.room p).fld VSET_REF = 5000 ∧
      (t.room p).bit CONV_EVENT_DIR_CHANGE = true :=
  exec_periodStart_does (P := fun r => r.loop = lRegulate ∧ r.fld VSET_REF = 5000 ∧ r.bit CONV_EVENT_DIR_CHANGE = true) hp
    (.inl hfol) (fun _ h => h) fun e r he h => Room.startPeriod_turns e (he.trans hk) (h.2.1.trans hfrs)

theorem exec_periodStart_follower {s : State} {p : Fin 48} {m : Nat} (hp : s.present p = true) (hfol : s.pl.follower p.val = false)
    (hm : m ∈ (s.pl.members p.val).drop 1) :
    ∃ t, exec (.periodStart p) s = .next t ∧ (t.room (Fin.ofNat 48 m)).conv.phaseDue = true := by
  rw [exec_periodStart, execPeriodStart]
  refine act_does (by simp [hp, hfol]) ?_
  rw [State.withQueue_room, State.posted_room]
  dsimp only
  have hpl := State.kept_autoClear (p := p) (Q := fun t => t.pl = s.pl) (fun t q g h => h)
    ((List.range 4).filter (s.room p).autoClr) (s := s) rfl
  generalize List.foldl _ s _ = t at hpl ⊢
  have hplt : ((t.onRoomE p Room.startPeriod).tookPeriod p).pl = s.pl := (State.pl_tookPeriod _ _).trans hpl
  rw [hplt, hfol, if_neg Bool.false_ne_true]
  refine List.foldl_establishes (P := fun u : State => (u.room (Fin.ofNat 48 m)).conv.phaseDue = true) hm (fun u => ?_)
    (fun u n h => ?_) _
  · rw [State.room_onRoom]
    rfl
  · exact State.room_onRoom_cases (P := fun r => r.conv.phaseDue = true) h rfl

theorem exec_periodStart_waits {s : State} {p : Fin 48} (hfol : s.pl.follower p.val = true) (hturn : s.phaseTurn p = false) :
    ∃ t, exec (.periodStart p) s = .next t ∧ t.room p = s.room p :=
  ⟨s, (exec_periodStart p s).trans (act_false _ _ _ (by simp [hfol, hturn])), rfl⟩

/-- The fields that the loop engine writes after it has taken its samples. -/
def Room.loopTailW : List Field :=
  Room.meansW ++ Room.moveTrimW ++ Room.pushHighW ++ Room.computeForwardW ++ Room.computeReverseW ++ Room.judgeW ++ Room.showThrW

theorem exec_loopUpdate_samples {s : State} {p : Fin 48} (vb ci vn vi : BitVec 12) (vs is : List (BitVec 12))
    (hp : s.present p = true) : ∃ t, exec (.loopUpdate p vb ci vn vi vs is) s = .next t ∧
      ∀ g, Field.clear Room.loopTailW g = true → (t.room p).fld g =
        if s.pl.follower p.val = true then ((s.room p).sampleFollower (s.env p) ci.toNat vn.toNat).fld g
        else ((s.room p).sample (s.env p) vb.toNat ci.toNat vn.toNat vi.toNat).fld g := by
  rw [exec_loopUpdate, execLoopUpdate]
  refine act_does hp fun g hg => ?_
  simp only [Room.loopTailW, Field.clear_append, Bool.and_eq_true] at hg
  obtain ⟨⟨⟨⟨⟨⟨hmeans, htrim⟩, hpush⟩, hfwd⟩, hrev⟩, hjudge⟩, hthr⟩ := hg
  dsimp only
  rw [State.withQueue_room, State.posted_room]
  set v := if s.pl.follower p.val = true then ((s.room p).sampleFollower (s.env p) ci.toNat vn.toNat).fld g
    else ((s.room p).sample (s.env p) vb.toNat ci.toNat vn.toNat vi.toNat).fld g with hv
  have hsampled : ((s.onRoomE p fun e r => if s.pl.follower p.val = true then (r.sampleFollower e ci.toNat vn.toNat).means e [] is
      else (r.sample e vb.toNat ci.toNat vn.toNat vi.toNat).means e vs is).room p).fld g = v := by
    rw [State.room_onRoomE, hv]
    split_ifs <;> exact Room.means_fld _ _ _ _ _ hmeans
  generalize State.onRoomE s p _ = t at hsampled ⊢
  have htrimmed : ∀ m n, ((t.onRoom p fun r => r.moveTrim m n).room p).fld g = v := fun m n => by
    rw [State.room_onRoom, Room.moveTrim_fld _ _ _ _ htrim, hsampled]
  split_ifs
  · exact hsampled
  · rw [State.room_onRoom, Room.pushHigh_fld _ _ _ hpush, htrimmed]
  · rw [State.room_onRoomE, Room.showThr_fld _ _ _ hthr, Room.judge_fld _ _ _ hjudge, ← htrimmed (t.gangCodes p.val).1 (t.gangCodes p.val).2]
    split_ifs <;> simp (disch := assumption) only [Room.pushHigh_fld, Room.computeForward_fld, Room.computeReverse_fld]

theorem Room.fld_sample (e : Env) (vb ci vn vi : Nat) (r : Room) {g : Field}
    (h : Field.clear ([LOOP_STAT_FF_CLAMP, SW_STAT_VDS] ++ Room.fallThrW) g = true) : (r.sample e vb ci vn vi).fld g =
      ((((r.put ADC_VBUS_LOOP vb).put ADC_I_LOOP ci).put ADC_VNODE_VNODE vn).put ADC_VNODE_VIN (vinClamp vi)).fld g := by
  simp only [Field.clear_append, Field.clear_cons, Field.clear_nil, Bool.and_true, Bool.and_eq_true] at h
  obtain ⟨⟨hff, hvds⟩, hfall⟩ := h
  unfold Room.sample
  refine (Room.fallThr_fld _ _ hfall).trans ?_
  generalize (((r.put ADC_VBUS_LOOP vb).put ADC_I_LOOP ci).put ADC_VNODE_VNODE vn).put ADC_VNODE_VIN (vinClamp vi) = q
  repeat' first
    | with_reducible rfl
    | with_reducible apply Room.fld_ite_eq
    | with_reducible refine (Room.fld_onConv _ _ _).trans ?_
    | with_reducible refine (Room.fld_onCon _ _ _).trans ?_
    | with_reducible refine (Room.fld_onCc _ _ _).trans ?_
    | with_reducible refine (Room.fld_put_apart _ _ _ _ hvds).trans ?_
    | with_reducible refine (Room.fld_putB_apart _ _ _ _ hff).trans ?_

theorem exec_loopUpdate_leader {s : State} {p : Fin 48} (vb ci vn vi : BitVec 12) (vs is : List (BitVec 12))
    (hp : s.present p = true) (hfol : s.pl.follower p.val = false) :
    ∃ t, exec (.loopUpdate p vb ci vn vi vs is) s = .next t ∧ (t.room p).fld ADC_VBUS_LOOP = vb.toNat ∧
      (t.room p).fld ADC_I_LOOP = ci.toNat ∧ (t.room p).fld ADC_VNODE_VNODE = vn.toNat ∧
      (t.room p).fld ADC_VNODE_VIN = min (max vi.toNat 1000) 3000 := by
  have hvb : vb.toNat % 2 ^ ADC_VBUS_LOOP.width = vb.toNat := Nat.mod_eq_of_lt vb.isLt
  have hci : ci.toNat % 2 ^ ADC_I_LOOP.width = ci.toNat := Nat.mod_eq_of_lt ci.isLt
  have hvn : vn.toNat % 2 ^ ADC_VNODE_VNODE.width = vn.toNat := Nat.mod_eq_of_lt vn.isLt
  have hvi : vinClamp vi.toNat % 2 ^ ADC_VNODE_VIN.width = vinClamp vi.toNat :=
    Nat.mod_eq_of_lt (lt_of_le_of_lt (Nat.min_le_right _ _) (by decide))
  obtain ⟨t, hexec, ht⟩ := exec_loopUpdate_samples vb ci vn vi vs is hp
  refine ⟨t, hexec, ?_⟩
  have hno : ¬ s.pl.follower p.val = true := by simp [hfol]
  rw [ht _ (by decide), ht _ (by decide), ht _ (by decide), ht _ (by decide), if_neg hno, if_neg hno, if_neg hno, if_neg hno,
    Room.fld_sample _ _ _ _ _ _ (by decide), Room.fld_sample _ _ _ _ _ _ (by decide), Room.fld_sample _ _ _ _ _ _ (by decide),
    Room.fld_sample _ _ _ _ _ _ (by decide)]
  show _ ∧ _ ∧ _ ∧ _ = vinClamp vi.toNat
  simp (disch := decide) only [Room.fld_put_apart, Room.fld_put, hvb, hci, hvn, hvi, and_self]

theorem exec_loopUpdate_follows {s : State} {p : Fin 48} (vb ci vn vi : BitVec 12) (vs is : List (BitVec 12))
    (hp : s.present p = true) (hfol : s.pl.follower p.val = true) :
    ∃ t, exec (.loopUpdate p vb ci vn vi vs is) s = .next t ∧
      (t.room p).fld ADC_VBUS_LOOP = (s.room p).fld ADC_VBUS_LOOP ∧ (t.room p).fld ADC_I_LOOP = ci.toNat ∧
      (t.room p).fld ADC_VNODE_VNODE = vn.toNat ∧
      (t.room p).fld ADC_VNODE_VIN = (s.room (s.lead p)).fld ADC_VNODE_VIN := by
  have hci : ci.toNat % 2 ^ ADC_I_LOOP.width = ci.toNat := Nat.mod_eq_of_lt ci.isLt
  have hvn : vn.toNat % 2 ^ ADC_VNODE_VNODE.width = vn.toNat := Nat.mod_eq_of_lt vn.isLt
  have hvi : (s.room (s.lead p)).fld ADC_VNODE_VIN % 2 ^ ADC_VNODE_VIN.width = (s.room (s.lead p)).fld ADC_VNODE_VIN :=
    Nat.mod_eq_of_lt (Regs.fld_lt _ _)
  have hruler : (s.env p).ruler (s.room p) = s.room (s.lead p) := by simp [Env.ruler, State.env, hfol]
  obtain ⟨t, hexec, ht⟩ := exec_loopUpdate_samples vb ci vn vi vs is hp
  refine ⟨t, hexec, ?_⟩
  rw [ht _ (by decide), ht _ (by decide), ht _ (by decide), ht _ (by decide), if_pos hfol, if_pos hfol, if_pos hfol, if_pos hfol]
  unfold Room.sampleFollower
  simp (disch := decide) only [hruler, Room.fallThr_fld, Room.fld_put_apart, Room.fld_put, hci, hvn, hvi, and_self]

/-! ### Ends of soft start and soft stop, coefficients (R271 to R275) -/

theorem exec_softStartDone_regulates {s : State} {p : Fin 48} (hl : s.live p = true) (hloop : (s.room p).loop = lSoftStart)
    (href : (s.room p).fld VSET_REF = 5000) :
    ∃ t, exec (.softStartDone p) s = .next t ∧ (t.room p).loop = lRegulate ∧
      (t.room p).conv.rate = 1000 * (s.room p).fld CON_CFG_SLEW ∧ (t.room p).conv.rateDen = 1 := by
  have hreg : lRegulate % 2 ^ LOOP_STAT_STATE.width = lRegulate := rfl
  rw [exec_softStartDone, execSoftStartDone]
  refine act_does (by simp [hl, hloop, href]) ?_
  rw [State.withQueue_room, State.posted_room, State.room_onRoomE]
  refine ⟨by simp (disch := decide) only [Room.loop, Room.setLoop, OfNat.ofNat_ne_one, decide_false, OfNat.ofNat_eq_ofNat,
    Nat.succ_ne_self, Bool.or_self, decide_true, Bool.or_true, Bool.not_true, Room.bit_eq, Bool.false_and,
    Bool.false_eq_true, ↓reduceIte, Nat.reduceEqDiff, Bool.or_false, Room.refreshRamp_fld, Room.slewRate_fld,
    Room.fld_putB_apart, Room.fld_put, hreg], ?_, rfl⟩
  show 1000 * ((s.room p).setLoop lRegulate).fld CON_CFG_SLEW = _
  rw [Room.setLoop_fld _ _ _ (by decide)]

theorem exec_softStopDone_stops {s : State} {p : Fin 48} (hl : s.live p = true) (hloop : (s.room p).loop = lSoftStop)
    (href : (s.room p).fld VSET_REF = 0) (hcmd : (s.room p).bit SW_STAT_CMD = true) (hvbus : (s.room p).cc.vbus ≤ 800)
    (hatt : (s.room p).attempting = false) :
    ∃ t, exec (.softStopDone p) s = .next t ∧ (t.room p).loop = lOff ∧
      ((s.room p).conv.openAtOff = true → (t.room p).bit SW_STAT_CMD = false) := by
  have hoff : lOff % 2 ^ LOOP_STAT_STATE.width = lOff := rfl
  rw [exec_softStopDone, execSoftStopDone]
  refine act_does (by simp [hl, hloop, href, hcmd, hvbus]) ?_
  have hnone : (s.room p).fld RETRY_STAT_ATTEMPT = 0 := by simpa [Room.attempting, Room.bit_eq] using hatt
  unfold Room.attempting
  refine ⟨by simp (disch := decide) only [Room.loop, Room.loopOff, Room.setLoop, zero_ne_one, decide_false, OfNat.zero_ne_ofNat,
    Bool.or_self, Bool.not_false, Room.bit_eq, Bool.true_and, bne_iff_ne, ne_eq, ite_not, Room.fld_ite, Room.fld_onConv,
    Room.openSwitch_fld, Room.refreshRamp_fld, Room.fld_putB_apart, Room.fld_put_apart, Room.fld_on_apart,
    Room.fld_off_apart, ite_self, Bool.and_eq_true, Option.isNone_iff_eq_none, State.withQueue_room, State.posted_room,
    State.room_onRoomE, hnone, not_true_eq_false, false_and, ↓reduceIte, Room.fld_put, hoff], fun hopen => ?_⟩
  simp (disch := decide) only [Room.openSwitch, Room.bit_eq, Room.fld_ite, Room.fld_onConv, Room.fld_off_apart,
    Room.refreshRamp_fld, Room.loopOff_fld, ite_self, Bool.and_eq_true, bne_iff_ne, ne_eq, Option.isNone_iff_eq_none,
    State.withQueue_room, State.posted_room, State.room_onRoomE, hnone, not_true_eq_false, hopen, ↓reduceIte,
    Room.onConv_conv, Room.off_conv, false_and, Room.fld_off, bne_self_eq_false]

theorem exec_coefApply_marks {s : State} {p : Fin 48} (hp : s.present p = true) :
    ∃ t, exec (.coefApply p) s = .next t ∧ (t.room p).conv.coefDue = true := by
  rw [exec_coefApply, execCoefApply]
  refine act_does hp ?_
  rw [State.withQueue_room, State.posted_room, State.room_onRoom]
  rfl

/-! ### Thresholds (R287 to R296) -/

theorem mem_portsOf_self {p q : Fin 48} (h : landOf q = landOf p) : q ∈ portsOf (Fin.ofNat 6 (p.val / 8)) := by
  have hland : landOf p = Fin.ofNat 6 (p.val / 8) := Fin.ext (Nat.mod_eq_of_lt (by omega)).symm
  simp [portsOf, h, hland]

theorem Room.holds_addHold (e : Env) (h : Hold) (r : Room) : (r.addHold e h).conv.holds =
    if r.conv.holds.contains h then r.conv.holds else r.conv.holds ++ [h] := by
  unfold Room.addHold
  rw [(Room.showThr_spares (.refl .conv _)).eq_conv, (Room.showLevel_spares (.refl .conv _)).eq_conv]
  rfl

theorem Room.mem_holds_addHold (e : Env) (h : Hold) (r : Room) : h ∈ (r.addHold e h).conv.holds := by
  rw [Room.holds_addHold]
  split_ifs with hc
  · simpa using hc
  · simp

theorem Room.holds_sub_addHold (e : Env) (h : Hold) (r : Room) {x : Hold} (hx : x ∈ r.conv.holds) :
    x ∈ (r.addHold e h).conv.holds := by
  rw [Room.holds_addHold]
  split_ifs
  · exact hx
  · exact List.mem_append_left _ hx

/-- A trip leaves in a Room what a hold and the opening of the switch leave. -/
theorem State.trip_keeps {P : Room → Prop} (hadd : ∀ e h r, P r → P (Room.addHold e h r)) (hopen : ∀ r, P r → P (Room.openSwitch r))
    {s : State} (p k : Nat) (mid : Bool) {q : Fin 48} (h : P (s.room q)) : P ((s.trip p k mid).room q) := by
  unfold State.trip
  refine List.foldlRecOn (motive := fun t : State => P (t.room q)) _ _ h fun t ht m _ => ?_
  dsimp only
  split_ifs
  · exact State.room_onRoom_cases (State.room_onRoomE_cases ht fun e => hadd e _ _ ht)
      (hopen _ (State.room_onRoomE_cases ht fun e => hadd e _ _ ht))
  · exact State.room_onRoom_cases ht (hopen _ ht)
  · exact State.room_onRoomE_cases ht fun e => hadd e _ _ ht
  · exact ht

theorem State.trip_holds {s : State} {p : Fin 48} {k : Nat} (mid : Bool) (hw : (s.pl.tripWord p.val k).testBit (p.val % 8) = true) :
    ⟨p.val, k, mid⟩ ∈ ((s.trip p.val k mid).room p).conv.holds := by
  unfold State.trip
  refine List.foldl_establishes (P := fun t : State => (⟨p.val, k, mid⟩ : Hold) ∈ (t.room p).conv.holds) (mem_portsOf_self rfl)
    (fun t => ?_) (fun t q ht => ?_) _
  · dsimp only
    rw [if_pos hw]
    have hadded : (⟨p.val, k, mid⟩ : Hold) ∈ ((t.onRoomE p fun e r => r.addHold e ⟨p.val, k, mid⟩).room p).conv.holds := by
      rw [State.room_onRoomE]
      exact Room.mem_holds_addHold _ _ _
    split_ifs
    · rw [State.room_onRoom]
      exact hadded
    · exact hadded
  · have hadd : ∀ e h, (⟨p.val, k, mid⟩ : Hold) ∈ ((t.room p).addHold e h).conv.holds := fun e h => Room.holds_sub_addHold e h _ ht
    have hstep := State.room_onRoomE_cases (P := fun r => (⟨p.val, k, mid⟩ : Hold) ∈ r.conv.holds) (p := q)
      (g := fun e r => r.addHold e ⟨p.val, k, mid⟩) ht (fun e => hadd e _)
    dsimp only
    split_ifs
    · exact State.room_onRoom_cases (P := fun r => (⟨p.val, k, mid⟩ : Hold) ∈ r.conv.holds) hstep hstep
    · exact State.room_onRoom_cases (P := fun r => (⟨p.val, k, mid⟩ : Hold) ∈ r.conv.holds) ht ht
    · exact hstep
    · exact ht

theorem State.trip_opens {s : State} {p q : Fin 48} {k : Nat} (mid : Bool) (hland : landOf q = landOf p)
    (hw : (s.pl.tripWord p.val k).testBit (8 + q.val % 8) = true) : ((s.trip p.val k mid).room q).bit SW_STAT_CMD = false := by
  unfold State.trip
  have hopen : ∀ r : Room, r.openSwitch.bit SW_STAT_CMD = false := fun r => by
    rw [Room.bit_eq, Room.fld_cmd_openSwitch, bne_self_eq_false]
  refine List.foldl_establishes (P := fun t : State => (t.room q).bit SW_STAT_CMD = false) (mem_portsOf_self hland)
    (fun t => ?_) (fun t m ht => ?_) _
  · dsimp only
    rw [if_pos hw, State.room_onRoom]
    exact hopen _
  · have hadd : ∀ e h, ((t.room q).addHold e h).bit SW_STAT_CMD = false := fun e h => by
      rw [Room.bit_eq, Room.addHold_fld _ _ _ _ (by decide), ← Room.bit_eq, ht]
    have hstep := State.room_onRoomE_cases (P := fun r => r.bit SW_STAT_CMD = false) (p := m)
      (g := fun e r => r.addHold e ⟨p.val, k, mid⟩) ht (fun e => hadd e _)
    dsimp only
    split_ifs
    · exact State.room_onRoom_cases (P := fun r => r.bit SW_STAT_CMD = false) hstep (hopen _)
    · exact State.room_onRoom_cases (P := fun r => r.bit SW_STAT_CMD = false) ht (hopen _)
    · exact hstep
    · exact ht

theorem State.safe_enterSafe {s : State} {p : Fin 48} (hw : s.whole p = true) (f : Field) (retry : Bool) :
    ((s.enterSafe p f retry).room p).safe = true := by
  rw [(State.enterSafe_spares hw f retry .safe).eq_safe, Room.safe_enterSafe]

theorem State.cause_enterSafe {s : State} {p : Fin 48} (hw : s.whole p = true) {f : Field} (retry : Bool) (hfits : f.fits = true)
    (hwidth : f.width ≠ 0) (hclear : Field.clear (Room.showLevelW ++ Room.enterSafeRest) f = true) :
    ((s.enterSafe p f retry).room p).bit f = true := by
  rw [Field.clear_append, Bool.and_eq_true] at hclear
  rw [Room.bit_eq, State.fld_enterSafe hw _ _ hclear.1, Room.cause_enterSafe _ _ _ hfits hwidth hclear.2]
  rfl

/-- A raw Threshold bit that is set reads 1. -/
theorem Room.raw_set (r : Room) (k : Fin 4) :
    ((r.put THR_STAT_RAW (if (r.fld THR_STAT_RAW).testBit k.val then r.fld THR_STAT_RAW else r.fld THR_STAT_RAW + 2 ^ k.val)).fld
      THR_STAT_RAW).testBit k.val = true := by
  have hlt : r.fld THR_STAT_RAW < 2 ^ 4 := Regs.fld_lt _ _
  rw [Room.fld_put _ _ _ (by decide)]
  show (_ % 2 ^ 4).testBit k.val = true
  rw [Nat.testBit_mod_two_pow]
  simp only [k.isLt, decide_true, Bool.true_and]
  split_ifs with h
  · exact h
  · rw [Nat.add_comm, Nat.testBit_two_pow_add_eq]
    simpa using h

theorem exec_thresholdTrip_does {P : Room → Prop} {s : State} {p q : Fin 48} {k : Fin 4} (neg : Bool) {cycles : Nat}
    (hp : s.present p = true) (harm : (s.room p).armed (s.env p) k.val = true) (hblank : (s.room p).unblanked k.val cycles = true)
    (hk : s.keeps (wingOf p) = true)
    (htrip : ∀ t : State, t.pl = s.pl → ((t.room p).fld THR_STAT_RAW).testBit k.val = true →
      P ((t.trip p.val k.val (holdMid ((s.room (s.lead p)).loop = lReverse) k.val neg)).room q)) :
    ∃ t, exec (.thresholdTrip p k neg cycles) s = .next t ∧ P (t.room q) := by
  rw [exec_thresholdTrip, execThresholdTrip]
  refine act_does (by simp [hp, harm, hblank]) ?_
  rw [State.withQueue_room, State.posted_room]
  set v := fun r : Room => r.put THR_STAT_RAW
    (if (r.fld THR_STAT_RAW).testBit k.val then r.fld THR_STAT_RAW else r.fld THR_STAT_RAW + 2 ^ k.val) with hv
  have hraw : (((s.onRoom p v).room p).fld THR_STAT_RAW).testBit k.val = true := by
    rw [State.room_onRoom, hv]
    exact Room.raw_set _ k
  have hloop : ∀ r : Room, r.loop = (s.room (s.lead p)).loop → (v r).loop = (s.room (s.lead p)).loop := fun r h => by
    rw [← h, hv]
    exact Room.fld_put_apart _ _ _ _ (by decide)
  have hrev := State.room_onRoom_cases (P := fun r => r.loop = (s.room (s.lead p)).loop) (p := p) rfl (hloop _ rfl)
  have hlead : ∀ t : State, t.pl = s.pl → t.lead p = s.lead p := fun t h => by rw [State.lead, h, State.lead]
  have hdo : ∀ t : State, t.pl = s.pl → t.keeps (wingOf p) = true → ((t.room p).fld THR_STAT_RAW).testBit k.val = true →
      (t.room (s.lead p)).loop = (s.room (s.lead p)).loop →
      P ((if t.keeps (wingOf p) then t.trip p.val k.val (holdMid ((t.room (t.lead p)).loop = lReverse) k.val neg) else t).room q) :=
    fun t hpl hkt hr hl => by
      rw [if_pos hkt, hlead t hpl, hl]
      exact htrip t hpl hr
  have hkeeps : ∀ g, (s.onRoom p g).keeps (wingOf p) = true := fun g => by rw [State.keeps_onRoom, hk]
  by_cases h2 : k = 2
  · dsimp only
    rw [if_pos h2]
    refine hdo _ rfl (by rw [State.keeps_onRoom, hkeeps]) ?_ ?_
    · rw [State.room_onRoom]
      exact hraw
    · exact State.room_onRoom_cases (P := fun r => r.loop = (s.room (s.lead p)).loop) hrev hrev
  · dsimp only
    rw [if_neg h2]
    exact hdo _ rfl (hkeeps _) hraw hrev

theorem exec_thresholdTrip_holds {s : State} {p : Fin 48} {k : Fin 4} (neg : Bool) {cycles : Nat}
    (hp : s.present p = true) (harm : (s.room p).armed (s.env p) k.val = true) (hblank : (s.room p).unblanked k.val cycles = true)
    (hk : s.keeps (wingOf p) = true) (hw : (s.pl.tripWord p.val k.val).testBit (p.val % 8) = true) :
    ∃ t, exec (.thresholdTrip p k neg cycles) s = .next t ∧ ((t.room p).fld THR_STAT_RAW).testBit k.val = true ∧
      ⟨p.val, k.val, holdMid ((s.room (s.lead p)).loop = lReverse) k.val neg⟩ ∈ (t.room p).conv.holds :=
  exec_thresholdTrip_does (P := fun r => (r.fld THR_STAT_RAW).testBit k.val = true ∧
    ⟨p.val, k.val, holdMid ((s.room (s.lead p)).loop = lReverse) k.val neg⟩ ∈ r.conv.holds) neg hp harm hblank hk
    fun t hpl hraw => ⟨State.trip_keeps (P := fun r => (r.fld THR_STAT_RAW).testBit k.val = true)
      (fun e h r hr => by rwa [Room.addHold_fld _ _ _ _ (by decide)])
      (fun r hr => by rwa [Room.openSwitch_fld _ _ (by decide)]) _ _ _ hraw, State.trip_holds _ (by rw [hpl, hw])⟩

theorem exec_thresholdTrip_opens {s : State} {p q : Fin 48} {k : Fin 4} (neg : Bool) {cycles : Nat}
    (hp : s.present p = true) (harm : (s.room p).armed (s.env p) k.val = true) (hblank : (s.room p).unblanked k.val cycles = true)
    (hk : s.keeps (wingOf p) = true) (hland : landOf q = landOf p)
    (hw : (s.pl.tripWord p.val k.val).testBit (8 + q.val % 8) = true) :
    ∃ t, exec (.thresholdTrip p k neg cycles) s = .next t ∧ (t.room q).bit SW_STAT_CMD = false :=
  exec_thresholdTrip_does (P := fun r => r.bit SW_STAT_CMD = false) neg hp harm hblank hk
    fun _ hpl _ => State.trip_opens _ hland (by rw [hpl, hw])

theorem exec_thresholdTrip_blanked {s : State} {p : Fin 48} {k : Fin 4} (neg : Bool) {cycles : Nat}
    (hblank : (s.room p).unblanked k.val cycles = false) :
    ∃ t, exec (.thresholdTrip p k neg cycles) s = .next t ∧ t.rooms = s.rooms :=
  ⟨s, (exec_thresholdTrip p k neg cycles s).trans (act_false _ _ _ (by simp [hblank])), rfl⟩

theorem exec_thresholdLatch_faults {s : State} {p : Fin 48} (neg : Bool) (hl : s.live p = true) :
    ∃ t, exec (.thresholdLatch p 3 neg) s = .next t ∧ (t.room p).bit (flagOf 3 neg) = true ∧
      (t.room p).bit FAULT_SC = true ∧ (t.room p).safe = true := by
  obtain ⟨hw, hk⟩ := (s.live_iff p).1 hl
  have hwhole := hw
  simp only [State.whole, Plan.whole, Bool.and_eq_true] at hwhole
  obtain ⟨hboot, hport, hfol⟩ := hwhole
  have harm : (s.room p).armed (s.env p) 3 = true := by
    show (s.env p).port.present = true
    rw [State.entry_of_whole hw, hport]
  have hw2 : ∀ g, (s.onRoom p g).whole p = true := fun g => hw
  rw [exec_thresholdLatch, execThresholdLatch]
  refine act_does (by simp only [State.present, hboot, hport, Bool.and_self, Bool.true_and]; exact harm) ?_
  rw [State.withQueue_room, State.posted_room]
  dsimp only
  rw [if_pos (by simp [State.keeps_onRoom, hk])]
  refine ⟨?_, State.cause_enterSafe (hw2 _) _ (by decide) (by decide) (by decide), State.safe_enterSafe (hw2 _) _ _⟩
  cases neg
  · rw [Room.bit_eq, State.fld_enterSafe (hw2 _) _ _ (by decide), Room.enterSafe_fld _ _ _ _ _ (by decide), State.room_onRoom]
    simp (disch := decide) only [Room.latch, Fin.isValue, Fin.coe_ofNat_eq_mod, Nat.mod_succ, flagOf,
      Bool.false_eq_true, ↓reduceIte, OfNat.ofNat_eq_ofNat, Nat.succ_ne_self, Room.fld_onConv, Room.fld_put_apart,
      Room.fld_on, Nat.reduceBNe]
  · rw [Room.bit_eq, State.fld_enterSafe (hw2 _) _ _ (by decide), Room.enterSafe_fld _ _ _ _ _ (by decide), State.room_onRoom]
    simp (disch := decide) only [Room.latch, Fin.isValue, Fin.coe_ofNat_eq_mod, Nat.mod_succ, flagOf, ↓reduceIte,
      OfNat.ofNat_eq_ofNat, Nat.succ_ne_self, Room.fld_onConv, Room.fld_put_apart, Room.fld_on, Nat.reduceBNe]

theorem exec_ovT_faults {s : State} {p : Fin 48} (hl : s.live p = true) (harm : (s.room p).armed (s.env p) 0 = true)
    (hcnt : 48 * (s.room p).fld PROT_TIME_OV_T ≤ (s.room p).conv.ovCnt) :
    ∃ t, exec (.ovT p) s = .next t ∧ (t.room p).bit FAULT_OV = true ∧ (t.room p).safe = true := by
  have hw := ((s.live_iff p).1 hl).1
  rw [exec_ovT, execOvT]
  refine act_does (by simp [hl, harm, hcnt]) ?_
  rw [State.withQueue_room, State.posted_room]
  exact ⟨State.cause_enterSafe hw _ (by decide) (by decide) (by decide), State.safe_enterSafe hw _ _⟩

theorem exec_uvT_faults {s : State} {p : Fin 48} (hl : s.live p = true) (harm : (s.room p).armed (s.env p) 1 = true)
    (hcnt : 48000 * (s.room p).fld PROT_TIME_UV_T ≤ (s.room p).conv.uvCnt) :
    ∃ t, exec (.uvT p) s = .next t ∧ (t.room p).bit FAULT_UV = true ∧ (t.room p).safe = true := by
  have hw := ((s.live_iff p).1 hl).1
  rw [exec_uvT, execUvT]
  refine act_does (by simp [hl, harm, hcnt]) ?_
  rw [State.withQueue_room, State.posted_room]
  exact ⟨State.cause_enterSafe hw _ (by decide) (by decide) (by decide), State.safe_enterSafe hw _ _⟩

theorem exec_regLoss_faults {s : State} {p : Fin 48} (hl : s.live p = true)
    (hdue : due s.now (s.room p).conv.lossAt (1000 * (s.room p).fld PROT_TIME_REGLOSS_T) = true) :
    ∃ t, exec (.regLoss p) s = .next t ∧ (t.room p).bit FAULT_REG_LOSS = true ∧ (t.room p).safe = true := by
  have hw := ((s.live_iff p).1 hl).1
  rw [exec_regLoss, execRegLoss]
  refine act_does (by simp [hl, hdue]) ?_
  rw [State.withQueue_room, State.posted_room, State.room_onRoom, Room.bit_eq, Room.fld_onConv, ← Room.bit_eq, Room.onConv_safe]
  exact ⟨State.cause_enterSafe hw _ (by decide) (by decide) (by decide), State.safe_enterSafe hw _ _⟩

/-- Settles O29: the periods through what clearing the latches leaves of the Room, the samples through the fields that the
loop engine writes after them, the trips through the fold over the ports of the Landing, and the protections through the entry
of the safe state. -/
theorem loopAndThresholds : Obligations.LoopAndThresholds :=
  ⟨fun _ _ hp ht => exec_periodStart_transfers hp ht, fun _ _ hp hf hk hr => exec_periodStart_turns hp hf hk hr,
    fun _ _ _ hp hf hm => exec_periodStart_follower hp hf hm, fun _ _ hf ht => exec_periodStart_waits hf ht,
    fun _ _ vb ci vn vi vs is hp hf => exec_loopUpdate_leader vb ci vn vi vs is hp hf,
    fun _ _ vb ci vn vi vs is hp hf => exec_loopUpdate_follows vb ci vn vi vs is hp hf,
    fun _ _ hl hs hr => exec_softStartDone_regulates hl hs hr,
    fun _ _ hl hs hr hc hv ha => exec_softStopDone_stops hl hs hr hc hv ha, fun _ _ hp => exec_coefApply_marks hp,
    fun _ _ _ neg _ hp ha hb hk hw => exec_thresholdTrip_holds neg hp ha hb hk hw,
    fun _ _ _ _ neg _ hp ha hb hk hq hw => exec_thresholdTrip_opens neg hp ha hb hk hq hw,
    fun _ _ _ neg _ hb => exec_thresholdTrip_blanked neg hb, fun _ _ neg hl => exec_thresholdLatch_faults neg hl,
    fun _ _ hl ha hc => exec_ovT_faults hl ha hc, fun _ _ hl ha hc => exec_uvT_faults hl ha hc,
    fun _ _ hl hd => exec_regLoss_faults hl hd⟩

end Sys2Proof.Machine

namespace Sys2Proof.Machine

set_option Elab.async false

/-! ## The port switch, the eFuse and the retries (R297 to R308) -/

theorem Room.fld_cmd_outputsOff (e : Env) (r : Room) : (r.outputsOff e).fld SW_STAT_CMD = 0 := by
  unfold Room.outputsOff
  simp (disch := decide) only [refreshIlim_fld, vconn_fld, fld_cmd_openSwitch]

theorem exec_efuse_opens {s : State} {p : Fin 48} (hl : s.live p = true) (hon : (s.room p).driversOff = false)
    (htimer : 100 * (s.room p).fld EF_TIME_TFLT ≤ (s.room p).fld EF_STAT_TIMER) :
    ∃ t, exec (.efuse p) s = .next t ∧ (t.room p).bit FAULT_EFUSE = true ∧ (t.room p).safe = true ∧
      (t.room p).bit SW_STAT_CMD = false := by
  have hw := ((s.live_iff p).1 hl).1
  rw [exec_efuse, execEfuse]
  refine act_does (by simp [hl, hon, htimer]) ?_
  rw [State.withQueue_room, State.posted_room]
  refine ⟨State.cause_enterSafe hw _ (by decide) (by decide) (by decide), State.safe_enterSafe hw _ _, ?_⟩
  rw [Room.bit_eq, State.fld_enterSafe hw _ _ (by decide), Room.enterSafe, Room.fld_cmd_outputsOff]
  rfl

theorem exec_foldbackTimeout_faults {s : State} {p : Fin 48} (hl : s.live p = true) (hvds : 1000 < (s.room p).vds.natAbs)
    (hdue : due s.now (s.room p).conv.foldAt (1000 * (s.room p).fld EF_TIME_TFB) = true) :
    ∃ t, exec (.foldbackTimeout p) s = .next t ∧ (t.room p).bit FAULT_EFUSE = true ∧ (t.room p).safe = true := by
  have hw := ((s.live_iff p).1 hl).1
  rw [exec_foldbackTimeout, execFoldbackTimeout]
  refine act_does (by simp [hl, hdue, hvds]) ?_
  rw [State.withQueue_room, State.posted_room]
  exact ⟨State.cause_enterSafe hw _ (by decide) (by decide) (by decide), State.safe_enterSafe hw _ _⟩

theorem exec_coldClose_closes {s : State} {p : Fin 48} (hl : s.live p = true) (hfold : (s.room p).conv.foldAt.isSome = true)
    (hvds : (s.room p).vds.natAbs ≤ 1000) :
    ∃ t, exec (.coldClose p) s = .next t ∧ (t.room p).bit SW_STAT_FULL = true ∧ (t.room p).fld SW_STAT_CLOSE = 1 ∧
      (t.room p).conv.foldAt = none := by
  have hone : 1 % 2 ^ SW_STAT_CLOSE.width = 1 := rfl
  rw [exec_coldClose, execColdClose]
  refine act_does (by simp [hl, hfold, hvds]) ?_
  simp (disch := decide) only [State.withQueue_room, State.posted_room, State.room_onRoom, Room.bit_eq,
    Room.fld_onConv, Room.fld_on, Nat.reduceBNe, Room.fld_on_apart, Room.fld_put, hone, Room.onConv_conv, Room.on_conv,
    Room.put_conv, and_self]

theorem Room.cmd_closeSwitch (e : Env) (r : Room) : (r.closeSwitch e).bit SW_STAT_CMD = true := by
  unfold Room.closeSwitch
  split_ifs with h
  · exact h
  · simp (disch := decide) only [bit_eq, fld_ite, fld_onConv, fld_on_apart, fld_put_apart, fld_on, fld_off_apart,
      ite_self, Nat.reduceBNe]

theorem Room.powerOn_closes (e : Env) {r : Room} (hast : r.ast = aSrc) : (r.powerOn e).bit SW_STAT_CMD = true := by
  unfold Room.powerOn
  rw [if_neg (by rw [hast]; decide), Room.bit_eq, Room.loopStart_fld _ _ _ (by decide), ← Room.bit_eq, Room.cmd_closeSwitch]

theorem Room.attempt_starts (e : Env) {r : Room} (hast : r.ast = aSrc) (hnode : r.vnode ≤ 5500) :
    (r.attempt e).bit RETRY_STAT_ATTEMPT = true ∧ (r.attempt e).bit RETRY_STAT_WAIT = false ∧
      (r.attempt e).conv.attAt = some e.now ∧ (r.attempt e).bit SW_STAT_CMD = true := by
  have hready : ∀ q : Room, q.ast = r.ast → q.vnode = r.vnode → q.bit RETRY_STAT_ATTEMPT = true → q.bit RETRY_STAT_WAIT = false →
      ∀ t : Room, t = (if q.ast != aSnk && 5500 < q.vnode then q.openSwitch.loopOff.discharge e (1000 * q.fld CON_CFG_SLEW) 1 false
        else (q.powerOn e).onConv fun c => { c with attAt := some e.now }) →
      t.bit RETRY_STAT_ATTEMPT = true ∧ t.bit RETRY_STAT_WAIT = false ∧ t.conv.attAt = some e.now ∧ t.bit SW_STAT_CMD = true := by
    intro q hqast hqnode hqatt hqwait t ht
    rw [if_neg (by simp [hqnode, hnode])] at ht
    subst ht
    refine ⟨?_, ?_, rfl, Room.powerOn_closes e (hqast.trans hast)⟩
    · rw [Room.bit_eq, Room.fld_onConv, Room.powerOn_fld _ _ _ (by decide), ← Room.bit_eq, hqatt]
    · rw [Room.bit_eq, Room.fld_onConv, Room.powerOn_fld _ _ _ (by decide), ← Room.bit_eq, hqwait]
  refine hready _ ?_ ?_ ?_ ?_ _ rfl
  · unfold Room.ast
    simp (disch := decide) only [fld_onConv, fld_off_apart, fld_on_apart, dropHolds_fld, conClear_fld, pdClear_fld]
  · unfold Room.vnode
    simp (disch := decide) only [fld_onConv, fld_off_apart, fld_on_apart, dropHolds_fld, conClear_fld, pdClear_fld]
  · simp (disch := decide) only [bit_eq, fld_onConv, fld_off_apart, fld_on, Nat.reduceBNe]
  · simp (disch := decide) only [bit_eq, fld_onConv, fld_off_apart, fld_off, bne_self_eq_false]

theorem exec_retryAttempt_attempts {s : State} {p : Fin 48} (hl : s.live p = true) (hsafe : (s.room p).safe = true)
    (hforce : (s.room p).bit CTRL_FORCE_SAFE = false) (hslot : (s.room p).slotHold = false)
    (hwait : (s.room p).bit RETRY_STAT_WAIT = true) (hdue : s.attemptDue p = true) (hast : (s.room p).ast = aSrc)
    (hmay : (s.room p).mayAttempt (s.cls p) = true) (hcool : (s.room p).conv.thermal = false) (hnode : (s.room p).vnode ≤ 5500) :
    ∃ t, exec (.retryAttempt p) s = .next t ∧ (t.room p).bit RETRY_STAT_ATTEMPT = true ∧
      (t.room p).bit RETRY_STAT_WAIT = false ∧ (t.room p).conv.attAt = some s.now ∧ (t.room p).bit SW_STAT_CMD = true := by
  rw [exec_retryAttempt, execRetryAttempt]
  refine act_does (by simp [hl, hsafe, hforce, hslot, hwait, hdue]) ?_
  rw [State.withQueue_room, State.posted_room]
  dsimp only
  rw [if_neg (by simp [hmay]), if_neg (by simp [hcool]), State.room_onRoomE]
  exact Room.attempt_starts (s.env p) (r := (s.room p).onConv _) hast hnode

theorem exec_attemptWindowEnd_exits {s : State} {p : Fin 48} (hl : s.live p = true)
    (hdue : due s.now (s.room p).conv.attAt (1000 * (s.room p).fld RETRY_CFG_ATT_T) = true) :
    ∃ t, exec (.attemptWindowEnd p) s = .next t ∧ (t.room p).safe = false ∧ (t.room p).bit EVENT_SAFE_EXIT = true ∧
      (t.room p).bit CONV_EVENT_ATTEMPT_OK = true ∧ (t.room p).bit RETRY_STAT_ATTEMPT = false := by
  rw [exec_attemptWindowEnd, execAttemptWindowEnd]
  refine act_does (by simp [hl, hdue]) ?_
  rw [State.withQueue_room, State.posted_room, State.room_onRoomE]
  refine ⟨?_, ?_⟩
  · rw [(Room.afterTrans_spares (by decide) (Room.implicitVi_spares (Room.vconn_spares (by decide) (.refl .safe _)))).eq_safe]
    rfl
  · simp (disch := decide) only [State.env_now, Room.bit_eq, Room.afterTrans_fld, Room.implicitVi_fld, Room.vconn_fld,
      Room.fld_onConv, Room.fld_on, Nat.reduceBNe, Room.fld_on_apart, Room.fld_off_apart, Room.fld_off,
      bne_self_eq_false, and_self]

theorem exec_retryCountReset_clears {s : State} {p : Fin 48} (hl : s.live p = true) (hsafe : (s.room p).inSafe = false)
    (hdue : due s.now (s.room p).conv.outAt 60000000 = true) :
    ∃ t, exec (.retryCountReset p) s = .next t ∧ (t.room p).fld RETRY_STAT_COUNT = 0 ∧ (t.room p).conv.outAt = none := by
  rw [exec_retryCountReset, execRetryCountReset]
  refine act_does (by simp [hl, hsafe, hdue]) ?_
  simp (disch := decide) only [State.withQueue_room, State.posted_room, State.room_onRoom, Room.fld_onConv,
    Room.fld_off, Room.onConv_conv, Room.off_conv, and_self]

theorem exec_fetShort_faults {s : State} {p : Fin 48} (hl : s.live p = true) (hwatch : (s.room p).fetWatch = true)
    (hdue : due s.now (s.room p).conv.fetAt 20000 = true) (hhi : due s.now (s.room p).conv.fetHi 1000 = true) :
    ∃ t, exec (.fetShort p) s = .next t ∧ (t.room p).bit FAULT_FET_SHORT = true ∧ (t.room p).safe = true := by
  have hw := ((s.live_iff p).1 hl).1
  rw [exec_fetShort, execFetShort]
  refine act_does (by simp [hl, hwatch, hdue, hhi]) ?_
  rw [State.withQueue_room, State.posted_room]
  exact ⟨State.cause_enterSafe hw _ (by decide) (by decide) (by decide), State.safe_enterSafe hw _ _⟩

/-- Settles O30: the protections through the entry of the safe state, the attempt through the closing of the switch. -/
theorem switchAndRetries : Obligations.SwitchAndRetries :=
  ⟨fun _ _ hl hd ht => exec_efuse_opens hl hd ht, fun _ _ hl hv hd => exec_foldbackTimeout_faults hl hv hd,
    fun _ _ hl hf hv => exec_coldClose_closes hl hf hv,
    fun _ _ hl hs hf hh hw hd ha hm ht hv => exec_retryAttempt_attempts hl hs hf hh hw hd ha hm ht hv,
    fun _ _ hl hd => exec_attemptWindowEnd_exits hl hd, fun _ _ hl hs hd => exec_retryCountReset_clears hl hs hd,
    fun _ _ hl hw hd hh => exec_fetShort_faults hl hw hd hh⟩

end Sys2Proof.Machine

namespace Sys2Proof.Machine

set_option Elab.async false

/-! ## What the operations on a slot do to its Landing (R309 to R333) -/

/-- The fields that the entry of a slot state writes. -/
def Landing.enterW : List Field :=
  [HS_STAT_STATE, HS_STAT_GATE_CMD, HS_STAT_GATE_FULL, HS_STAT_LIMIT, HS_STAT_PG, HS_EVENT_PG_OFF, HS_EVENT_PG_ON,
    HS_STAT_COUNT, HS_EVENT_UNSEATED, HS_EVENT_SEATED]

/-- The register writes of the entry of a slot state. -/
def Landing.enterRegs (l : Landing) (st : Nat) : Landing :=
  let pow := st = hInrush || st = hGateUp || st = hOn
  let q := (l.put HS_STAT_STATE st).putB HS_STAT_GATE_CMD pow
  let q := if pow then q else (q.off HS_STAT_GATE_FULL).off HS_STAT_LIMIT
  let q := q.putB HS_STAT_PG (st = hOn)
  let q := if l.bit HS_STAT_PG && st != hOn then q.on HS_EVENT_PG_OFF else if !l.bit HS_STAT_PG && st = hOn then q.on HS_EVENT_PG_ON else q
  let q := if st = hUnseated && l.st != hUnseated then (q.off HS_STAT_COUNT).on HS_EVENT_UNSEATED else q
  if st = hSeating && l.st = hUnseated then q.on HS_EVENT_SEATED else q

theorem Landing.fld_enter (now : Nat) (l : Landing) (st : Nat) (fast : Bool) (g : Field) :
    (l.enter now st fast).fld g = (l.enterRegs st).fld g := rfl

theorem Landing.fld_ite (c : Prop) [Decidable c] (a b : Landing) (g : Field) :
    (if c then a else b).fld g = if c then a.fld g else b.fld g :=
  apply_ite (fun l => Landing.fld l g) c a b

theorem Landing.enter_fld (now : Nat) (l : Landing) (st : Nat) (fast : Bool) (g : Field)
    (h : Field.clear Landing.enterW g = true) : (l.enter now st fast).fld g = l.fld g := by
  simp only [Landing.enterW, Field.clear_cons, Field.clear_nil, Bool.and_true, Bool.and_eq_true] at h
  obtain ⟨hst, hcmd, hfull, hlim, hpg, hoff, hon, hcount, hun, hseat⟩ := h
  rw [Landing.fld_enter]
  unfold Landing.enterRegs
  simp only [Landing.fld_ite, Landing.fld_on_apart _ _ _ hseat, Landing.fld_on_apart _ _ _ hun, Landing.fld_off_apart _ _ _ hcount,
    Landing.fld_on_apart _ _ _ hon, Landing.fld_on_apart _ _ _ hoff, Landing.fld_putB_apart _ _ _ _ hpg,
    Landing.fld_off_apart _ _ _ hlim, Landing.fld_off_apart _ _ _ hfull, Landing.fld_putB_apart _ _ _ _ hcmd,
    Landing.fld_put_apart _ _ _ _ hst, ite_self]

theorem Landing.st_enter (now : Nat) (l : Landing) {st : Nat} (fast : Bool) (h : st < 16) : (l.enter now st fast).st = st := by
  unfold Landing.st
  rw [Landing.fld_enter]
  unfold Landing.enterRegs
  have hmod : st % 2 ^ HS_STAT_STATE.width = st := Nat.mod_eq_of_lt h
  simp (disch := decide) only [Landing.fld_ite, Landing.fld_on_apart, Landing.fld_off_apart, Landing.fld_putB_apart,
    Landing.fld_put, hmod, ite_self]

theorem Landing.pg_enter (now : Nat) (l : Landing) (st : Nat) (fast : Bool) :
    (l.enter now st fast).fld HS_STAT_PG = (decide (st = hOn)).toNat := by
  rw [Landing.fld_enter]
  unfold Landing.enterRegs
  simp (disch := decide) only [Landing.fld_ite, Landing.fld_on_apart, Landing.fld_off_apart, Landing.fld_putB, ite_self]

theorem State.lands_gangLevel (s : State) (p : Fin 48) : (s.gangLevel p).lands = s.lands :=
  List.foldlRecOn (motive := fun t : State => t.lands = s.lands) _ _ rfl fun _ h _ _ => h

theorem State.lands_holdSlot (s : State) (b : Fin 6) : (s.holdSlot b).lands = s.lands := by
  refine List.foldlRecOn (motive := fun t : State => t.lands = s.lands) _ _ rfl fun t h p _ => ?_
  split_ifs
  · exact (State.lands_gangLevel _ _).trans h
  · exact h

theorem State.lands_releaseSlot (s : State) (b : Fin 6) : (s.releaseSlot b).lands = s.lands := by
  refine List.foldlRecOn (motive := fun t : State => t.lands = s.lands) _ _ rfl fun t h p _ => ?_
  split_ifs
  · exact h
  · exact h

theorem State.lands_shedClass (s : State) (b : Fin 6) (c : Nat) : (s.shedClass b c).lands = s.lands := by
  refine List.foldlRecOn (motive := fun t : State => t.lands = s.lands) _ _ rfl fun t h p _ => ?_
  unfold State.escalate
  split_ifs
  · exact (State.lands_gangLevel _ _).trans h
  · exact h

theorem State.land_congr {s t : State} (h : t.lands = s.lands) (b : Fin 6) : t.land b = s.land b := by
  rw [State.land, h, State.land]

/-- A slot state leaves of the Landing what its entry leaves, whether the chip keeps the slot or shadows it. -/
theorem State.land_slotTo {P : Landing → Prop} (s : State) (b : Fin 6) (st : Nat) (fast : Bool)
    (h : P ((s.land b).enter s.now st fast)) (hshadow : s.keeps (wingOfLand b) = false → P ((s.land b).enter s.now st fast).release) :
    P ((s.slotTo b st fast).land b) := by
  have hentered : P ((s.onLand b fun l =>
      if s.keeps (wingOfLand b) then l.enter s.now st fast else (l.enter s.now st fast).release).land b) := by
    rw [State.land_onLand]
    split_ifs with hk
    · exact h
    · exact hshadow (by simpa using hk)
  unfold State.slotTo
  dsimp only
  by_cases hc : (decide ((s.land b).st = hOn) && st != hOn) = true
  · rw [if_pos hc, State.land_congr (State.lands_holdSlot _ b)]
    exact hentered
  · rw [if_neg hc]
    exact hentered

theorem State.land_slotTo_kept {s : State} {b : Fin 6} (hk : s.keeps (wingOfLand b) = true) (st : Nat) (fast : Bool) :
    (s.slotTo b st fast).land b = (s.land b).enter s.now st fast :=
  State.land_slotTo (P := fun l => l = (s.land b).enter s.now st fast) s b st fast rfl fun h => by simp [hk] at h

theorem State.st_slotTo (s : State) (b : Fin 6) {st : Nat} (fast : Bool) (h : st < 16) : ((s.slotTo b st fast).land b).st = st :=
  State.land_slotTo (P := fun l => l.st = st) s b st fast (Landing.st_enter _ _ _ h)
    fun _ => Landing.st_enter s.now (s.land b) fast h

theorem State.fld_slotTo (s : State) (b : Fin 6) (st : Nat) (fast : Bool) {g : Field} (hg : Field.clear Landing.enterW g = true) :
    ((s.slotTo b st fast).land b).fld g = (s.land b).fld g :=
  State.land_slotTo (P := fun l => l.fld g = (s.land b).fld g) s b st fast (Landing.enter_fld _ _ _ _ _ hg)
    fun _ => Landing.enter_fld s.now (s.land b) st fast g hg

/-- The slot states in which the gate is off and nothing is latched or retried. -/
def Landing.rests (l : Landing) : Prop := l.st = hOff ∨ l.st = hUnseated ∨ l.st = hSeating

theorem State.fld_slotExit (s : State) (b : Fin 6) {g : Field} (hg : Field.clear Landing.enterW g = true) :
    ((s.slotExit b).land b).fld g = (s.land b).fld g := by
  unfold State.slotExit
  dsimp only
  split_ifs
  · rfl
  · exact State.fld_slotTo _ _ _ _ hg
  · exact State.fld_slotTo _ _ _ _ hg
  · rw [State.land_onLand]
    exact State.fld_slotTo _ _ _ _ hg
  · exact State.fld_slotTo _ _ _ _ hg
  · rfl

theorem State.fld_slotSettle (s : State) (b : Fin 6) {g : Field} (hg : Field.clear Landing.enterW g = true) :
    ((s.slotSettle b).land b).fld g = (s.land b).fld g := by
  unfold State.slotSettle
  split_ifs
  · exact (State.fld_slotExit _ b hg).trans (State.fld_slotExit s b hg)
  · rfl

theorem State.rests_slotExit {s : State} {b : Fin 6} (h : (s.land b).rests) : ((s.slotExit b).land b).rests := by
  have hto : ∀ st, st = hOff ∨ st = hUnseated ∨ st = hSeating → ((s.slotTo b st false).land b).rests := fun st hst => by
    unfold Landing.rests
    rw [State.st_slotTo s b false (by rcases hst with rfl | rfl | rfl <;> decide)]
    exact hst
  unfold State.slotExit
  dsimp only
  split_ifs
  · exact h
  · exact hto _ (.inl rfl)
  · exact hto _ (.inr (.inl rfl))
  · rw [State.land_onLand]
    exact hto _ (.inr (.inr rfl))
  · exact hto _ (.inr (.inl rfl))
  · exact h

/-! ### What a measurement leaves -/

/-- The register writes of a measurement. -/
def Landing.measureRegs (l : Landing) (m : SlotMeas) : Landing :=
  let q := ((l.put HS_MEAS_VOUT m.vout.toNat).put HS_MEAS_VSLOTIN m.vslotin.toNat).put HS_IMEAS_CUR m.cur.toNat
  if q.powered then q.putB HS_STAT_GATE_FULL m.full else q

theorem Landing.fld_measure (now : Nat) (m : SlotMeas) (l : Landing) (g : Field) :
    (l.measure now m).fld g = (l.measureRegs m).fld g := rfl

theorem Landing.measure_fld (now : Nat) (m : SlotMeas) (l : Landing) (g : Field)
    (h : Field.clear [HS_MEAS_VOUT, HS_MEAS_VSLOTIN, HS_IMEAS_CUR, HS_STAT_GATE_FULL] g = true) :
    (l.measure now m).fld g = l.fld g := by
  simp only [Field.clear_cons, Field.clear_nil, Bool.and_true, Bool.and_eq_true] at h
  obtain ⟨hvout, hvin, hcur, hfull⟩ := h
  rw [Landing.fld_measure]
  unfold Landing.measureRegs
  simp only [Landing.fld_ite, Landing.fld_putB_apart _ _ _ _ hfull, Landing.fld_put_apart _ _ _ _ hcur,
    Landing.fld_put_apart _ _ _ _ hvin, Landing.fld_put_apart _ _ _ _ hvout, ite_self]

theorem Landing.measureRegs_eq (l : Landing) (m : SlotMeas) : l.measureRegs m = { l with regs := (l.measureRegs m).regs } := by
  unfold Landing.measureRegs
  dsimp only
  split_ifs <;> rfl

section
variable (now : Nat) (m : SlotMeas) (l : Landing)

@[simp] theorem Landing.measure_entry : (l.measure now m).entry = l.entry := by
  show (l.measureRegs m).entry = _
  rw [Landing.measureRegs_eq]

@[simp] theorem Landing.measure_seated : (l.measure now m).seated = l.seated := by
  show (l.measureRegs m).seated = _
  rw [Landing.measureRegs_eq]

@[simp] theorem Landing.measure_seatMet : (l.measure now m).seatMet = l.seatMet := by
  show (l.measureRegs m).seatMet = _
  rw [Landing.measureRegs_eq]

@[simp] theorem Landing.measure_fltQ : (l.measure now m).fltQ = l.fltQ := by
  show (l.measureRegs m).fltQ = _
  rw [Landing.measureRegs_eq]

@[simp] theorem Landing.measure_offAt : (l.measure now m).offAt = l.offAt := by
  show (l.measureRegs m).offAt = _
  rw [Landing.measureRegs_eq]

@[simp] theorem Landing.measure_retryAt : (l.measure now m).retryAt = l.retryAt := by
  show (l.measureRegs m).retryAt = _
  rw [Landing.measureRegs_eq]

@[simp] theorem Landing.measure_retryK : (l.measure now m).retryK = l.retryK := by
  show (l.measureRegs m).retryK = _
  rw [Landing.measureRegs_eq]

@[simp] theorem Landing.measure_attempt : (l.measure now m).attempt = l.attempt := by
  show (l.measureRegs m).attempt = _
  rw [Landing.measureRegs_eq]

@[simp] theorem Landing.measure_shed : (l.measure now m).shed = l.shed := by
  show (l.measureRegs m).shed = _
  rw [Landing.measureRegs_eq]

@[simp] theorem Landing.measure_down : (l.measure now m).down = l.down := by
  show (l.measureRegs m).down = _
  rw [Landing.measureRegs_eq]

@[simp] theorem Landing.measure_fltN : (l.measure now m).fltN = l.fltN := by
  show (l.measureRegs m).fltN = _
  rw [Landing.measureRegs_eq]

@[simp] theorem Landing.measure_st : (l.measure now m).st = l.st := Landing.measure_fld _ _ _ _ (by decide)
@[simp] theorem Landing.measure_powered : (l.measure now m).powered = l.powered := by simp [Landing.powered]
@[simp] theorem Landing.measure_fetState : (l.measure now m).fetState = l.fetState := by simp [Landing.fetState]
@[simp] theorem Landing.measure_vslotin : (l.measure now m).vslotin = vinMv m := rfl
@[simp] theorem Landing.measure_vout : (l.measure now m).vout = voutMv m := rfl

@[simp] theorem Landing.measure_seatedBoth : (l.measure now m).seatedBoth = l.seatedBoth := by
  simp (disch := decide) only [Landing.seatedBoth, Landing.bit_eq, Landing.measure_fld]

end

theorem Landing.measure_goodAt (now : Nat) {m : SlotMeas} {l : Landing} {x : Nat} (hst : l.st = hGateUp) (hfull : m.full = true)
    (hrange : 95 * vinMv m ≤ 100 * voutMv m) (hx : l.goodAt = some x) : (l.measure now m).goodAt = some x := by
  have hst2 : (l.measureRegs m).st = hGateUp := (Landing.measure_st now m l).trans hst
  have hx2 : (l.measureRegs m).goodAt = some x := by rw [Landing.measureRegs_eq, ← hx]
  show (if (decide ((l.measureRegs m).st = hGateUp) && m.full && decide (95 * vinMv m ≤ 100 * voutMv m)) = true then
    (match (l.measureRegs m).goodAt with | some x => some x | none => some now) else none) = some x
  rw [if_pos (by simp [hst2, hfull, hrange]), hx2]

theorem Landing.measure_pgLow (now : Nat) {m : SlotMeas} {l : Landing} {x : Nat} (hst : l.st = hOn) (hlim : l.fld HS_STAT_LIMIT = 0)
    (hlow : 100 * voutMv m < 90 * vinMv m) (hx : l.pgLow = some x) : (l.measure now m).pgLow = some x := by
  have hst2 : (l.measureRegs m).st = hOn := (Landing.measure_st now m l).trans hst
  have hlim2 : (l.measureRegs m).fld HS_STAT_LIMIT = 0 := (Landing.measure_fld now m l _ (by decide)).trans hlim
  have hx2 : (l.measureRegs m).pgLow = some x := by rw [Landing.measureRegs_eq, ← hx]
  show (if (decide ((l.measureRegs m).st = hOn) && decide ((l.measureRegs m).fld HS_STAT_LIMIT = 0) &&
    decide (100 * voutMv m < 90 * vinMv m)) = true then (match (l.measureRegs m).pgLow with | some x => some x | none => some now) else none) = some x
  rw [if_pos (by simp [hst2, hlim2, hlow]), hx2]

theorem Landing.measure_hiAt (now : Nat) {m : SlotMeas} {l : Landing} {x : Nat} (hst : l.fetState = true)
    (hhigh : 2000 < voutMv m) (hx : l.hiAt = some x) : (l.measure now m).hiAt = some x := by
  have hst2 : (l.measureRegs m).fetState = true := (Landing.measure_fetState now m l).trans hst
  have hx2 : (l.measureRegs m).hiAt = some x := by rw [Landing.measureRegs_eq, ← hx]
  show (if ((l.measureRegs m).fetState && decide (2000 < voutMv m)) = true then (match (l.measureRegs m).hiAt with | some x => some x | none => some now) else none) = some x
  rw [if_pos (by simp [hst2, hhigh]), hx2]

theorem State.keeps_onLand (s : State) (b : Fin 6) (g : Landing → Landing) (w : Fin 2) : (s.onLand b g).keeps w = s.keeps w := rfl

theorem State.slotLive_onLand (s : State) (b c : Fin 6) (g : Landing → Landing) : (s.onLand b g).slotLive c = s.slotLive c := rfl

theorem State.slotMay_onLand {s : State} {b : Fin 6} {g : Landing → Landing} (hen : (g (s.land b)).bit HS_CTRL_EN = (s.land b).bit HS_CTRL_EN)
    (hdown : (g (s.land b)).down = (s.land b).down) : (s.onLand b g).slotMay b = s.slotMay b := by
  have hwing : (s.onLand b g).wing (wingOfLand b) = s.wing (wingOfLand b) := rfl
  rw [State.slotMay, State.slotLive_onLand, State.land_onLand, hen, hdown, hwing, State.slotMay]

theorem State.slotMay_slotMeasure (s : State) (b : Fin 6) (m : SlotMeas) : (s.slotMeasure b m).slotMay b = s.slotMay b :=
  State.slotMay_onLand (by rw [Landing.bit_eq, Landing.measure_fld _ _ _ _ (by decide), ← Landing.bit_eq]) (Landing.measure_down _ _ _)

theorem State.land_slotMeasure (s : State) (b : Fin 6) (m : SlotMeas) : (s.slotMeasure b m).land b = (s.land b).measure s.now m :=
  State.land_onLand _ _ _

theorem State.slotLive_keeps {s : State} {b : Fin 6} (h : s.slotLive b = true) : s.keeps (wingOfLand b) = true := by
  simp only [State.slotLive, Bool.and_eq_true] at h
  exact h.2

theorem State.slotPresent_of_live {s : State} {b : Fin 6} (h : s.slotLive b = true) : s.slotPresent b = true := by
  simp only [State.slotLive, Bool.and_eq_true] at h
  simp [State.slotPresent, h]

theorem State.slotLive_of_may {s : State} {b : Fin 6} (h : s.slotMay b = true) : s.slotLive b = true := by
  simp only [State.slotMay, Bool.and_eq_true] at h
  exact h.1.1.1

/-- A measured slot that the chip keeps answers with the effect on the measured state. -/
theorem slotAct_does {P : State → Prop} {s : State} {b : Fin 6} {m : SlotMeas} {f : State → State} (hl : s.slotLive b = true)
    (h : P ((s.posted (f (s.slotMeasure b m))).withQueue s.pending)) : ∃ t, slotAct s b m f = .next t ∧ P t := by
  refine act_does (State.slotPresent_of_live hl) ?_
  have hl2 : (s.slotMeasure b m).slotLive b = true := hl
  dsimp only
  rw [if_pos hl2]
  exact h


/-! ## A slot from seating to ON, and its controls (R309 to R326) -/

theorem exec_seatChange_shows {s : State} {b : Fin 6} (x y : Bool) (hp : s.slotPresent b = true) :
    ∃ t, exec (.seatChange b x y) s = .next t ∧ (t.land b).bit HS_STAT_SEAT1 = x ∧ (t.land b).bit HS_STAT_SEAT2 = y := by
  rw [exec_seatChange, execSeatChange]
  refine act_does hp ?_
  rw [State.withQueue_land, State.posted_land, Landing.bit_eq, Landing.bit_eq, State.fld_slotSettle _ _ (by decide),
    State.fld_slotSettle _ _ (by decide), State.land_onLand]
  simp (disch := decide) only [Landing.fld_putB_apart, Landing.fld_putB, Bool.toNat_bne_zero, and_self]

theorem Landing.tseatMet_measure {now : Nat} {m : SlotMeas} {l : Landing} (h : l.tseatMet now = true) :
    (l.measure now m).tseatMet now = true := by
  unfold Landing.tseatMet at h ⊢
  rw [Landing.measure_seatedBoth, Landing.measure_seatMet, Landing.measure_seated, Landing.measure_fld _ _ _ _ (by decide)]
  exact h

theorem State.toInrush_starts {s : State} {b : Fin 6} {m : SlotMeas} (hmay : s.slotMay b = true) (hst : (s.land b).st = hSeating)
    (hmet : (s.land b).tseatMet s.now = true) (hvin : 34000 ≤ vinMv m) :
    (((s.slotMeasure b m).toInrush b).land b).st = hInrush ∧ (((s.slotMeasure b m).toInrush b).land b).entry = s.now := by
  have hm : ((s.slotMeasure b m).land b) = (s.land b).measure s.now m := State.land_slotMeasure s b m
  have hmay2 : (s.slotMeasure b m).slotMay b = true := (State.slotMay_slotMeasure s b m).trans hmay
  have hnow : (s.slotMeasure b m).now = s.now := rfl
  have hcond : ((s.slotMeasure b m).slotMay b && decide (((s.slotMeasure b m).land b).st = hSeating) &&
      ((s.slotMeasure b m).land b).tseatMet (s.slotMeasure b m).now &&
      decide (34000 ≤ ((s.slotMeasure b m).land b).vslotin)) = true := by
    rw [hmay2, hm, hnow, Landing.tseatMet_measure hmet, Landing.measure_st, hst, Landing.measure_vslotin]
    simpa using hvin
  unfold State.toInrush
  dsimp only
  rw [if_pos hcond, State.land_slotTo_kept (State.slotLive_keeps (State.slotLive_of_may hmay2))]
  exact ⟨Landing.st_enter _ _ _ (by decide), rfl⟩

theorem exec_tseat_starts {s : State} {b : Fin 6} {m : SlotMeas} (hmay : s.slotMay b = true) (hst : (s.land b).st = hSeating)
    (hmet : (s.land b).tseatMet s.now = true) (hvin : 34000 ≤ vinMv m) :
    ∃ t, exec (.tseat b m) s = .next t ∧ (t.land b).st = hInrush ∧ (t.land b).entry = s.now := by
  rw [exec_tseat, execTseat]
  refine slotAct_does (State.slotLive_of_may hmay) ?_
  rw [State.withQueue_land, State.posted_land]
  exact State.toInrush_starts hmay hst hmet hvin

theorem exec_vslotinRise_starts {s : State} {b : Fin 6} {m : SlotMeas} (hmay : s.slotMay b = true)
    (hst : (s.land b).st = hSeating) (hmet : (s.land b).tseatMet s.now = true) (hvin : 34000 ≤ vinMv m) :
    ∃ t, exec (.vslotinRise b m) s = .next t ∧ (t.land b).st = hInrush ∧ (t.land b).entry = s.now := by
  rw [exec_vslotinRise, execVslotinRise]
  refine slotAct_does (State.slotLive_of_may hmay) ?_
  rw [State.withQueue_land, State.posted_land]
  exact State.toInrush_starts hmay hst hmet hvin

theorem exec_gateUp_enters {s : State} {b : Fin 6} {m : SlotMeas} (hl : s.slotLive b = true) (hst : (s.land b).st = hInrush)
    (hvds : vdsUv m ≤ 1000000) : ∃ t, exec (.gateUp b m) s = .next t ∧ (t.land b).st = hGateUp := by
  rw [exec_gateUp, execGateUp]
  refine slotAct_does hl ?_
  have hm : ((s.slotMeasure b m).land b).st = hInrush := by rw [State.land_slotMeasure, Landing.measure_st, hst]
  rw [if_pos (by simp [hm, hvds]), State.withQueue_land, State.posted_land, State.land_slotMeasure, Landing.measure_st]
  exact State.st_slotTo _ _ _ (by decide)

theorem Room.slotHold_leaveSlotHold (e : Env) (r : Room) : (r.leaveSlotHold e).slotHold = false := by
  unfold Room.leaveSlotHold
  by_cases h : r.slotHold = true
  · rw [if_pos h]
    dsimp only
    split_ifs
    · rw [(Room.restart_spares (by decide) (.refl .slotHold _)).eq_slotHold]
    · rw [(Room.terms_spares (by decide) (.refl .slotHold _)).eq_slotHold]
  · rw [if_neg h]
    simpa using h

theorem State.slotHold_releaseSlot {s : State} {b : Fin 6} {p : Fin 48} (hland : landOf p = b) (hw : s.pl.whole p.val = true) :
    ((s.releaseSlot b).room p).slotHold = false := by
  have hmem : p ∈ portsOf b := by simp [portsOf, hland]
  have hpl : ∀ (t : State) (q : Fin 48), (if t.pl.whole q.val then t.onRoomE q Room.leaveSlotHold else t).pl = t.pl := fun t q => by
    split_ifs <;> rfl
  have hend : (s.releaseSlot b).pl = s.pl :=
    List.foldlRecOn (motive := fun t : State => t.pl = s.pl) _ _ rfl fun t ht q _ => (hpl t q).trans ht
  refine List.foldl_establishes (P := fun t : State => t.pl.whole p.val = true → (t.room p).slotHold = false) hmem
    (fun t ht => ?_) (fun t q ht hwt => ?_) s (by rw [← hend] at hw; exact hw)
  · rw [hpl] at ht
    rw [if_pos ht, State.room_onRoomE]
    exact Room.slotHold_leaveSlotHold _ _
  · rw [hpl] at hwt
    split_ifs
    · exact State.room_onRoomE_cases (P := fun r => r.slotHold = false) (ht hwt) fun e => Room.slotHold_leaveSlotHold e _
    · exact ht hwt

theorem exec_slotOn_enters {s : State} {b : Fin 6} {m : SlotMeas} {x : Nat} (hl : s.slotLive b = true)
    (hst : (s.land b).st = hGateUp) (hfull : m.full = true) (hrange : 95 * vinMv m ≤ 100 * voutMv m)
    (hgood : (s.land b).goodAt = some x) (hx : x + 100 ≤ s.now) :
    ∃ t, exec (.slotOn b m) s = .next t ∧ (t.land b).st = hOn ∧ (t.land b).bit HS_STAT_PG = true ∧
      ∀ p : Fin 48, landOf p = b → s.pl.whole p.val = true → (t.room p).slotHold = false := by
  rw [exec_slotOn, execSlotOn]
  refine slotAct_does hl ?_
  have hm := State.land_slotMeasure s b m
  have hnow : (s.slotMeasure b m).now = s.now := rfl
  have hcond : (decide (((s.slotMeasure b m).land b).st = hGateUp) &&
      due (s.slotMeasure b m).now ((s.slotMeasure b m).land b).goodAt 100) = true := by
    rw [hm, hnow, Landing.measure_st, hst, Landing.measure_goodAt _ hst hfull hrange hgood]
    simpa [due, old] using hx
  rw [if_pos hcond, State.withQueue_land, State.posted_land, State.land_congr (State.lands_releaseSlot _ b)]
  refine ⟨State.st_slotTo _ _ _ (by decide), ?_, fun p hp hw => ?_⟩
  · rw [State.land_slotTo_kept (s := s.slotMeasure b m) (State.slotLive_keeps hl), Landing.bit_eq, Landing.pg_enter]
    rfl
  · rw [State.withQueue_room, State.posted_room]
    refine State.slotHold_releaseSlot hp ?_
    have hgate : ((s.slotMeasure b m).land b).st ≠ hOn := by
      rw [hm, Landing.measure_st, hst]
      decide
    unfold State.slotTo
    dsimp only
    rw [if_neg (by simp [hgate])]
    exact hw

theorem exec_slotLimitEdge_shows {s : State} {b : Fin 6} {m : SlotMeas} (k : Fin 3) (hl : s.slotLive b = true)
    (hpow : (s.land b).powered = true) :
    ∃ t, exec (.slotLimitEdge b k m) s = .next t ∧ (t.land b).fld HS_STAT_LIMIT = k.val := by
  have hmod : k.val % 2 ^ HS_STAT_LIMIT.width = k.val := Nat.mod_eq_of_lt (lt_trans k.isLt (by decide))
  rw [exec_slotLimitEdge, execSlotLimitEdge]
  refine slotAct_does hl ?_
  rw [State.withQueue_land, State.posted_land, State.land_onLand, State.land_slotMeasure, if_neg (by simp [hpow])]
  exact (Landing.fld_put _ _ _ (by decide)).trans hmod

theorem exec_hsEnSet_enables {s : State} {b : Fin 6} (hp : s.slotPresent b = true)
    (hclamp : s.clampBit (.land b.val 0x40) HS_CTRL_EN true = true) :
    ∃ t, exec (.hsEnSet b) s = .next t ∧ (t.land b).bit HS_CTRL_EN = true := by
  rw [exec_hsEnSet, execHsEnSet]
  refine act_does (by simp [hp, hclamp]) ?_
  rw [State.withQueue_land, State.posted_land, Landing.bit_eq, State.fld_slotSettle _ _ (by decide), State.land_onLand]
  simp (disch := decide) only [Landing.fld_on, Nat.reduceBNe]

/-- Where a slot may not be powered, its exits lead to OFF. -/
theorem State.slotExit_barred {s : State} {b : Fin 6} (h : s.slotMay b = false) : ((s.slotExit b).land b).st = hOff := by
  unfold State.slotExit
  dsimp only
  rw [if_pos (by simp [h])]
  split_ifs with hoff
  · exact hoff
  · exact State.st_slotTo _ _ _ (by decide)

theorem State.slotMay_of_disabled {s : State} {b : Fin 6} (h : (s.land b).bit HS_CTRL_EN = false) : s.slotMay b = false := by
  simp [State.slotMay, h]

theorem exec_hsEnClear_disables {s : State} {b : Fin 6} (hl : s.slotLive b = true)
    (hclamp : s.clampBit (.land b.val 0x40) HS_CTRL_EN false = false) :
    ∃ t, exec (.hsEnClear b) s = .next t ∧ (t.land b).bit HS_CTRL_EN = false ∧ (t.land b).st = hOff := by
  rw [exec_hsEnClear, execHsEnClear]
  refine act_does (by simp [State.slotPresent_of_live hl, hclamp]) ?_
  rw [State.withQueue_land, State.posted_land]
  have hoff : ((s.onLand b fun l => l.off HS_CTRL_EN).land b).fld HS_CTRL_EN = 0 := by
    rw [State.land_onLand, Landing.fld_off _ (by decide)]
  refine ⟨by rw [Landing.bit_eq, State.fld_slotSettle _ _ (by decide), hoff]; rfl, ?_⟩
  have hl2 : (s.onLand b fun l => l.off HS_CTRL_EN).slotLive b = true := hl
  rw [State.slotSettle, if_pos hl2]
  refine State.slotExit_barred (State.slotMay_of_disabled ?_)
  rw [Landing.bit_eq, State.fld_slotExit _ _ (by decide), hoff]
  rfl

theorem exec_hsRecover_unlatches {s : State} {b : Fin 6} {m : SlotMeas} (hl : s.slotLive b = true)
    (hst : (s.land b).st = hLatched) (hvout : voutMv m ≤ 2000) (hdie : s.dieHot = false) :
    ∃ t, exec (.hsRecover b m) s = .next t ∧ (t.land b).st ≠ hLatched ∧ (t.land b).powered = false := by
  rw [exec_hsRecover, execHsRecover]
  refine slotAct_does hl ?_
  rw [State.withQueue_land, State.posted_land]
  have hm := State.land_slotMeasure s b m
  have hdie2 : (s.slotMeasure b m).dieHot = false := hdie
  have hunseated : (((s.slotMeasure b m).slotTo b hUnseated false).land b).rests :=
    .inr (.inl (State.st_slotTo _ _ _ (by decide)))
  have hrests : ((((s.slotMeasure b m).slotTo b hUnseated false).slotSettle b).land b).rests := by
    unfold State.slotSettle
    split_ifs
    · exact State.rests_slotExit (State.rests_slotExit hunseated)
    · exact hunseated
  have hnot : ¬ 2000 < voutMv m := Nat.not_lt.2 hvout
  rw [State.hsRecover, if_neg (by simp [hm, hst]), if_neg (by simpa [hm] using hnot), if_neg (by simp [hdie2])]
  rcases hrests with h | h | h <;> simp [Landing.powered, h]

theorem exec_hsLimitWrite_limits {s : State} {b : Fin 6} (v : Word) (hp : s.slotPresent b = true)
    (himax : (s.pl.slot b.val).imax < 2 ^ HS_LIMIT_ILIM.width) :
    ∃ t, exec (.hsLimitWrite b v) s = .next t ∧ (t.land b).fld HS_LIMIT_ILIM =
      min (s.clampField (.land b.val 0x44) HS_LIMIT_ILIM (HS_LIMIT_ILIM.of v)) (s.pl.slot b.val).imax := by
  rw [exec_hsLimitWrite, execHsLimitWrite]
  refine act_does hp ?_
  rw [State.withQueue_land, State.posted_land, State.land_onLand]
  have hmod := Nat.mod_eq_of_lt (lt_of_le_of_lt
    (Nat.min_le_right (s.clampField (.land b.val 0x44) HS_LIMIT_ILIM (HS_LIMIT_ILIM.of v)) (s.pl.slot b.val).imax) himax)
  simp (disch := decide) only [Landing.levels, Landing.fld_put_apart, Landing.fld_put, hmod, Nat.cast_mul,
    Nat.cast_min, Nat.cast_ofNat, Landing.fld_putB_apart]

/-- Settles O31: each clause by its command, through the entry of a slot state and what a measurement leaves. -/
theorem slotStart : Obligations.SlotStart :=
  ⟨fun _ _ x y hp => exec_seatChange_shows x y hp, fun _ _ _ hm hs ht hv => exec_tseat_starts hm hs ht hv,
    fun _ _ _ hm hs ht hv => exec_vslotinRise_starts hm hs ht hv, fun _ _ _ hl hs hv => exec_gateUp_enters hl hs hv,
    fun _ _ _ _ hl hs hf hr hg hx => exec_slotOn_enters hl hs hf hr hg hx,
    fun _ _ _ k hl hp => exec_slotLimitEdge_shows k hl hp, fun _ _ hp hc => exec_hsEnSet_enables hp hc,
    fun _ _ hl hc => exec_hsEnClear_disables hl hc, fun _ _ _ hl hs hv hd => exec_hsRecover_unlatches hl hs hv hd,
    fun _ _ v hp hi => exec_hsLimitWrite_limits v hp hi⟩

end Sys2Proof.Machine

namespace Sys2Proof.Machine

set_option Elab.async false

/-! ## The faults of a slot and its retries (R311 to R333) -/

theorem Landing.slotFault_fld (l : Landing) (f g : Field) (h : Field.clear [f, HS_EVENT_FAULT] g = true) :
    (l.slotFault f).fld g = l.fld g := by
  simp only [Field.clear_cons, Field.clear_nil, Bool.and_true, Bool.and_eq_true] at h
  rw [Landing.slotFault, Landing.fld_on_apart _ _ _ h.2, Landing.fld_on_apart _ _ _ h.1]

theorem Landing.cause_slotFault (l : Landing) {f : Field} (hfits : f.fits = true) (hwidth : f.width ≠ 0)
    (happart : HS_EVENT_FAULT.apart f = true) : (l.slotFault f).fld f = 1 := by
  rw [Landing.slotFault, Landing.fld_on_apart _ _ _ happart, Landing.fld_on _ hfits hwidth]

theorem Landing.powered_enter (now : Nat) (l : Landing) {st : Nat} (fast : Bool) (h : st < 16)
    (hst : st ≠ hInrush ∧ st ≠ hGateUp ∧ st ≠ hOn) : (l.enter now st fast).powered = false := by
  obtain ⟨hin, hup, hon⟩ := hst
  simp [Landing.powered, Landing.st_enter now l fast h, hin, hup, hon]

theorem Landing.powered_congr {q l : Landing} (h : q.fld HS_STAT_STATE = l.fld HS_STAT_STATE) : q.powered = l.powered := by
  unfold Landing.powered Landing.st
  rw [h]

/-- A slot that goes into its retry is off with Sn_FLT_N driven, and keeps the fields that the entry does not write. -/
theorem State.slotRetry_off {s : State} {b : Fin 6} (hk : s.keeps (wingOfLand b) = true) (fast : Bool) {g : Field}
    (hg : Field.clear ([HS_STAT_COUNT, HS_EVENT_ATTEMPT_FAIL, HS_EVENT_EXHAUSTED] ++ Landing.enterW) g = true) :
    ((s.slotRetry b fast).land b).powered = false ∧ ((s.slotRetry b fast).land b).fltN = true ∧
      ((s.slotRetry b fast).land b).fld g = (s.land b).fld g := by
  rw [Field.clear_append, Bool.and_eq_true] at hg
  obtain ⟨hg, henter⟩ := hg
  simp only [Field.clear_cons, Field.clear_nil, Bool.and_true, Bool.and_eq_true] at hg
  obtain ⟨hcount, hfail, hexh⟩ := hg
  unfold State.slotRetry
  dsimp only
  generalize (if (s.land b).attempt then min ((s.land b).fld HS_STAT_COUNT + 1) 15 else (s.land b).fld HS_STAT_COUNT) = n
  have hbefore : ((s.onLand b fun l => if (l.put HS_STAT_COUNT n).attempt then
      { (l.put HS_STAT_COUNT n).on HS_EVENT_ATTEMPT_FAIL with attempt := false } else l.put HS_STAT_COUNT n).land b).fld g =
      (s.land b).fld g := by
    rw [State.land_onLand, Landing.fld_ite]
    have hput := Landing.fld_put_apart (s.land b) _ _ n hcount
    have hon := (Landing.fld_on_apart ((s.land b).put HS_STAT_COUNT n) _ _ hfail).trans hput
    split_ifs
    · exact hon
    · exact hput
  have hk2 : ∀ f, (s.onLand b f).keeps (wingOfLand b) = true := fun f => hk
  split_ifs
  · rw [State.land_onLand, State.land_slotTo_kept (hk2 _)]
    refine ⟨?_, rfl, ?_⟩
    · rw [Landing.powered_congr (Landing.fld_on_apart _ _ _ (by decide))]
      exact Landing.powered_enter _ _ _ (by decide) (by decide)
    · rw [Landing.fld_on_apart _ _ _ hexh, Landing.enter_fld _ _ _ _ _ henter]
      exact hbefore
  · rw [State.land_slotTo_kept (hk2 _)]
    refine ⟨Landing.powered_enter _ _ _ (by decide) (by decide), rfl, ?_⟩
    rw [Landing.enter_fld _ _ _ _ _ henter]
    exact hbefore

theorem exec_seatLift_unseats {s : State} {b : Fin 6} (y : Bool) (hl : s.slotLive b = true) (hpow : (s.land b).powered = true) :
    ∃ t, exec (.seatLift b false y) s = .next t ∧ (t.land b).st = hUnseated ∧ (t.land b).bit HS_FAULT_SEAT_LIFT = true := by
  rw [exec_seatLift, execSeatLift]
  refine act_does (by simp [hl, hpow]) ?_
  rw [State.withQueue_land, State.posted_land]
  refine ⟨State.st_slotTo _ _ _ (by decide), ?_⟩
  rw [Landing.bit_eq, State.fld_slotTo _ _ _ _ (by decide), State.land_onLand,
    Landing.cause_slotFault _ (by decide) (by decide) (by decide)]
  rfl

theorem exec_inrushTo_faults {s : State} {b : Fin 6} (hl : s.slotLive b = true) (hst : (s.land b).st = hInrush)
    (hvds : 1000000 < vdsUv (s.land b).meas) (hold : (s.land b).entry + 1000 * (s.land b).fld HS_TIME_TINR ≤ s.now) :
    ∃ t, exec (.inrushTo b) s = .next t ∧ (t.land b).bit HS_FAULT_INRUSH_TO = true ∧ (t.land b).powered = false ∧
      (t.land b).fltN = true := by
  rw [exec_inrushTo, execInrushTo]
  refine act_does (by simpa [hl, hst, hvds, old] using hold) ?_
  obtain ⟨hpow, hflt, hfld⟩ := State.slotRetry_off (s := s.onLand b fun l => l.slotFault HS_FAULT_INRUSH_TO) (b := b)
    (State.slotLive_keeps hl) true (g := HS_FAULT_INRUSH_TO) (by decide)
  rw [State.withQueue_land, State.posted_land, Landing.bit_eq, hfld, State.land_onLand,
    Landing.cause_slotFault _ (by decide) (by decide) (by decide)]
  exact ⟨rfl, hpow, hflt⟩

theorem Landing.short_latchShort (neg : Bool) (l : Landing) : (l.latchShort neg).fld HS_FAULT_SHORT = 1 := by
  have hcause := Landing.cause_slotFault l (f := HS_FAULT_SHORT) (by decide) (by decide) (by decide)
  unfold Landing.latchShort
  dsimp only
  split_ifs
  · exact (Landing.fld_on_apart _ _ _ (by decide)).trans hcause
  · exact hcause

theorem exec_short_faults {s : State} {b : Fin 6} (neg : Bool) (hl : s.slotLive b = true) (hpow : (s.land b).powered = true) :
    ∃ t, exec (.short b neg) s = .next t ∧ (t.land b).bit HS_FAULT_SHORT = true ∧ (t.land b).powered = false := by
  rw [exec_short, execShort]
  refine act_does hl ?_
  obtain ⟨hoff, -, hfld⟩ := State.slotRetry_off (s := s.onLand b (Landing.latchShort neg)) (b := b)
    (State.slotLive_keeps hl) true (g := HS_FAULT_SHORT) (by decide)
  dsimp only
  rw [if_pos hpow, State.withQueue_land, State.posted_land, Landing.bit_eq, hfld, State.land_onLand]
  exact ⟨congrArg (· != 0) (Landing.short_latchShort neg _), hoff⟩

theorem exec_breaker_faults {s : State} {b : Fin 6} (hl : s.slotLive b = true) (hpow : (s.land b).powered = true)
    (hflt : 400 * (s.land b).fld HS_TIME_TFLT ≤ (s.land b).fltQ) :
    ∃ t, exec (.breaker b) s = .next t ∧ (t.land b).bit HS_FAULT_BREAKER = true ∧ (t.land b).powered = false := by
  rw [exec_breaker, execBreaker]
  refine act_does (by simp [hl, hpow, hflt]) ?_
  obtain ⟨hoff, -, hfld⟩ := State.slotRetry_off (s := s.onLand b fun l => l.slotFault HS_FAULT_BREAKER) (b := b)
    (State.slotLive_keeps hl) true (g := HS_FAULT_BREAKER) (by decide)
  dsimp only
  rw [if_pos hpow, State.withQueue_land, State.posted_land, Landing.bit_eq, hfld, State.land_onLand,
    Landing.cause_slotFault _ (by decide) (by decide) (by decide)]
  exact ⟨rfl, hoff⟩

theorem State.now_shedClass (s : State) (b : Fin 6) (c : Nat) : (s.shedClass b c).now = s.now := by
  refine List.foldlRecOn (motive := fun t : State => t.now = s.now) _ _ rfl fun t h p _ => ?_
  unfold State.escalate
  split_ifs
  · exact List.foldlRecOn (motive := fun u : State => u.now = s.now) _ _ h fun _ h _ _ => h
  · exact h

theorem Landing.fld_of_regs {q l : Landing} (h : q.regs = l.regs) (g : Field) : q.fld g = l.fld g := congrArg (Regs.fld · g) h

/-- A Landing that has lost power-good (R324). -/
def Landing.lostPg (l : Landing) : Landing :=
  let q := l.slotFault HS_FAULT_PG_LOSS
  let q := if q.bit HS_STAT_PG then q.on HS_EVENT_PG_OFF else q
  { (q.off HS_STAT_PG) with pgLow := none }

theorem State.pgLoss_eq (s : State) (b : Fin 6) : s.pgLoss b = (s.onLand b Landing.lostPg).startShed b true := rfl

theorem Landing.lostPg_shows (l : Landing) : l.lostPg.fld HS_STAT_PG = 0 ∧ l.lostPg.fld HS_FAULT_PG_LOSS = 1 := by
  have hcause := Landing.cause_slotFault l (f := HS_FAULT_PG_LOSS) (by decide) (by decide) (by decide)
  generalize hq : l.slotFault HS_FAULT_PG_LOSS = q at hcause
  have hregs : l.lostPg.regs = ((if q.bit HS_STAT_PG then q.on HS_EVENT_PG_OFF else q).off HS_STAT_PG).regs := by
    subst hq
    rfl
  rw [Landing.fld_of_regs hregs, Landing.fld_of_regs hregs]
  simp (disch := decide) only [bit_eq, bne_iff_ne, ne_eq, ite_not, fld_off, fld_off_apart, fld_ite, hcause,
    fld_on_apart, ite_self, and_self]

theorem Landing.shed_lostPg (l : Landing) : l.lostPg.shed = l.shed := by
  unfold Landing.lostPg
  dsimp only
  split_ifs <;> rfl

theorem State.pgLoss_sheds {s : State} {b : Fin 6} (hshed : (s.land b).shed = none) :
    ((s.pgLoss b).land b).bit HS_STAT_PG = false ∧ ((s.pgLoss b).land b).bit HS_FAULT_PG_LOSS = true ∧
      ((s.pgLoss b).land b).shed = some (1, s.now, true) := by
  obtain ⟨hpg, hloss⟩ := Landing.lostPg_shows (s.land b)
  have hnone : ((s.onLand b Landing.lostPg).land b).shed = none := by rw [State.land_onLand, Landing.shed_lostPg, hshed]
  rw [State.pgLoss_eq, State.startShed, if_neg (by rw [hnone]; exact Bool.false_ne_true)]
  dsimp only
  rw [State.land_onLand, State.land_congr (State.lands_shedClass _ b 2), State.land_onLand, State.now_shedClass, State.onLand_now]
  refine ⟨?_, ?_, rfl⟩
  · exact congrArg (· != 0) ((Landing.fld_of_regs (l := (s.land b).lostPg) rfl _).trans hpg)
  · exact congrArg (· != 0) ((Landing.fld_of_regs (l := (s.land b).lostPg) rfl _).trans hloss)

theorem exec_pgLoss_faults {s : State} {b : Fin 6} {m : SlotMeas} {x : Nat} (hl : s.slotLive b = true) (hst : (s.land b).st = hOn)
    (hlim : (s.land b).fld HS_STAT_LIMIT = 0) (hlow : 100 * voutMv m < 90 * vinMv m) (hpg : (s.land b).pgLow = some x)
    (hx : x + 100 ≤ s.now) (hshed : (s.land b).shed = none) :
    ∃ t, exec (.pgLoss b m) s = .next t ∧ (t.land b).bit HS_STAT_PG = false ∧
      (t.land b).bit HS_FAULT_PG_LOSS = true ∧ (t.land b).shed = some (1, s.now, true) := by
  rw [exec_pgLoss, execPgLoss]
  refine slotAct_does hl ?_
  have hm := State.land_slotMeasure s b m
  have hnow : (s.slotMeasure b m).now = s.now := rfl
  have hshed2 : ((s.slotMeasure b m).land b).shed = none := by rw [hm, Landing.measure_shed, hshed]
  have hcond : (decide (((s.slotMeasure b m).land b).st = hOn) && due (s.slotMeasure b m).now ((s.slotMeasure b m).land b).pgLow 100 &&
      ((s.slotMeasure b m).land b).shed.isNone) = true := by
    rw [hshed2, hm, hnow, Landing.measure_st, hst, Landing.measure_pgLow _ hst hlim hlow hpg]
    simpa [due, old] using hx
  dsimp only
  rw [if_pos hcond, State.withQueue_land, State.posted_land]
  exact State.pgLoss_sheds hshed2

theorem exec_slotFetShort_latches {s : State} {b : Fin 6} {m : SlotMeas} {x : Nat} (hmay : s.slotMay b = true)
    (hfet : (s.land b).fetState = true) (hoff : due s.now (s.land b).offAt (100000 * (s.land b).fld HS_RETRY_TDIS) = true)
    (hvout : 2000 < voutMv m) (hhi : (s.land b).hiAt = some x) (hx : x + 20000 ≤ s.now) :
    ∃ t, exec (.slotFetShort b m) s = .next t ∧ (t.land b).st = hLatched ∧
      (t.land b).bit HS_FAULT_FET_SHORT = true ∧ (t.land b).fltN = true := by
  have hl := State.slotLive_of_may hmay
  rw [exec_slotFetShort, execSlotFetShort]
  refine slotAct_does hl ?_
  have hm := State.land_slotMeasure s b m
  have hnow : (s.slotMeasure b m).now = s.now := rfl
  have hmay2 : (s.slotMeasure b m).slotMay b = true := (State.slotMay_slotMeasure s b m).trans hmay
  have hcond : (((s.slotMeasure b m).land b).fetState && due (s.slotMeasure b m).now ((s.slotMeasure b m).land b).offAt
      (100000 * ((s.slotMeasure b m).land b).fld HS_RETRY_TDIS) &&
      due (s.slotMeasure b m).now ((s.slotMeasure b m).land b).hiAt 20000) = true := by
    rw [hm, hnow, Landing.measure_fetState, Landing.measure_offAt, Landing.measure_fld _ _ _ _ (by decide), hfet, hoff,
      Landing.measure_hiAt _ hfet hvout hhi]
    simpa [due, old] using hx
  have hmay3 : ((s.slotMeasure b m).onLand b fun l => l.slotFault HS_FAULT_FET_SHORT).slotMay b = true :=
    (State.slotMay_onLand (by rw [Landing.bit_eq, Landing.slotFault_fld _ _ _ (by decide), ← Landing.bit_eq]) rfl).trans hmay2
  dsimp only
  rw [if_pos hcond, State.withQueue_land, State.posted_land, State.slotFetShort]
  rw [if_pos hmay3]
  refine ⟨State.st_slotTo _ _ _ (by decide), ?_, ?_⟩
  · rw [Landing.bit_eq, State.fld_slotTo _ _ _ _ (by decide), State.land_onLand,
      Landing.cause_slotFault _ (by decide) (by decide) (by decide)]
    rfl
  · rw [State.land_slotTo_kept (s := (s.slotMeasure b m).onLand b _) (State.slotLive_keeps hl)]
    rfl

theorem Landing.enterRegs_eq (l : Landing) (st : Nat) : l.enterRegs st = { l with regs := (l.enterRegs st).regs } := by
  unfold Landing.enterRegs
  dsimp only
  split_ifs <;> rfl

theorem State.attempt_slotTo (s : State) (b : Fin 6) {st : Nat} (fast : Bool) (h : st ≠ hUnseated ∧ st ≠ hOff ∧ st ≠ hLatched) :
    ((s.slotTo b st fast).land b).attempt = (s.land b).attempt := by
  obtain ⟨hun, hoff, hlat⟩ := h
  have henter : ((s.land b).enter s.now st fast).attempt = (s.land b).attempt := by
    show (if (decide (st = hUnseated) || decide (st = hOff) || decide (st = hLatched)) = true then false
      else ((s.land b).enterRegs st).attempt) = _
    rw [if_neg (by simp [hun, hoff, hlat]), Landing.enterRegs_eq]
  exact State.land_slotTo (P := fun l => l.attempt = (s.land b).attempt) s b st fast henter fun _ => henter

theorem State.toInrush_attempts {s : State} {b : Fin 6} (hst : (s.land b).st = hSeating) (hatt : (s.land b).attempt = true)
    (hev : (s.land b).fld HS_EVENT_ATTEMPT = 1) : ((s.toInrush b).land b).attempt = true ∧
      ((s.toInrush b).land b).bit HS_EVENT_ATTEMPT = true ∧ ((s.toInrush b).land b).st ≠ hRetry := by
  unfold State.toInrush
  dsimp only
  split_ifs
  · refine ⟨(State.attempt_slotTo _ _ _ (by decide)).trans hatt, ?_, ?_⟩
    · rw [Landing.bit_eq, State.fld_slotTo _ _ _ _ (by decide), hev]
      rfl
    · rw [State.st_slotTo _ _ _ (by decide)]
      decide
  · refine ⟨hatt, by rw [Landing.bit_eq, hev]; rfl, by rw [hst]; decide⟩

theorem exec_slotAttempt_attempts {s : State} {b : Fin 6} {m : SlotMeas} (hl : s.slotLive b = true) (hst : (s.land b).st = hRetry)
    (hdue : due s.now (s.land b).retryAt (100000 * (s.land b).fld HS_RETRY_PER * (s.land b).retryK) = true)
    (hseat : (s.land b).seatedBoth = true) (hcool : s.modelHot (48 + b.val) = false) :
    ∃ t, exec (.slotAttempt b m) s = .next t ∧ (t.land b).attempt = true ∧ (t.land b).bit HS_EVENT_ATTEMPT = true ∧
      (t.land b).st ≠ hRetry := by
  rw [exec_slotAttempt, execSlotAttempt]
  refine slotAct_does hl ?_
  have hm := State.land_slotMeasure s b m
  have hnow : (s.slotMeasure b m).now = s.now := rfl
  have hcool2 : (s.slotMeasure b m).modelHot (48 + b.val) = false := hcool
  have hcond : (decide (((s.slotMeasure b m).land b).st = hRetry) && due (s.slotMeasure b m).now ((s.slotMeasure b m).land b).retryAt
      (100000 * ((s.slotMeasure b m).land b).fld HS_RETRY_PER * ((s.slotMeasure b m).land b).retryK)) = true := by
    rw [hm, hnow, Landing.measure_st, hst, Landing.measure_retryAt, Landing.measure_retryK, Landing.measure_fld _ _ _ _ (by decide), hdue]
    rfl
  have hseat2 : ((s.slotMeasure b m).land b).seatedBoth = true := by rw [hm, Landing.measure_seatedBoth, hseat]
  dsimp only
  rw [if_pos hcond, if_neg (by simp [hseat2]), if_neg (by simp [hcool2]), State.withQueue_land, State.posted_land]
  generalize (if (s.slotMeasure b m).modelState (48 + b.val) = 3 then (s.slotMeasure b m).clampModel (48 + b.val)
    else s.slotMeasure b m) = u
  refine State.toInrush_attempts (State.st_slotTo _ _ _ (by decide)) ?_ ?_
  · rw [State.attempt_slotTo _ _ _ (by decide), State.land_onLand]
  · rw [State.fld_slotTo _ _ _ _ (by decide), State.land_onLand]
    exact Landing.fld_on _ (by decide) (by decide)

theorem exec_slotAttemptOk_ends {s : State} {b : Fin 6} (hl : s.slotLive b = true) (hst : (s.land b).st = hOn)
    (hatt : (s.land b).attempt = true) (hshed : (s.land b).shed = none) (hold : (s.land b).entry + 100000 ≤ s.now) :
    ∃ t, exec (.slotAttemptOk b) s = .next t ∧ (t.land b).attempt = false ∧
      (t.land b).bit HS_EVENT_ATTEMPT_OK = true ∧ (t.land b).retryAt = none := by
  rw [exec_slotAttemptOk, execSlotAttemptOk]
  refine act_does (by simpa [hl, hst, hatt, hshed, old] using hold) ?_
  rw [State.withQueue_land, State.posted_land, State.land_onLand, Landing.bit_eq]
  have hev : ((s.land b).on HS_EVENT_ATTEMPT_OK).fld HS_EVENT_ATTEMPT_OK = 1 := Landing.fld_on _ (by decide) (by decide)
  exact ⟨rfl, congrArg (· != 0) hev, rfl⟩

theorem exec_slotCountReset_clears {s : State} {b : Fin 6} (hl : s.slotLive b = true) (hst : (s.land b).st = hOn)
    (hold : (s.land b).entry + 60000000 ≤ s.now) :
    ∃ t, exec (.slotCountReset b) s = .next t ∧ (t.land b).fld HS_STAT_COUNT = 0 := by
  rw [exec_slotCountReset, execSlotCountReset]
  refine act_does (by simpa [hl, hst, old] using hold) ?_
  rw [State.withQueue_land, State.posted_land, State.land_onLand]
  exact Landing.fld_off _ (by decide)

/-- Settles O32: the faults through the entry of the retry, the measured ones through what a measurement leaves. -/
theorem slotFaults : Obligations.SlotFaults :=
  ⟨fun _ _ y hl hp => exec_seatLift_unseats y hl hp, fun _ _ hl hs hv ho => exec_inrushTo_faults hl hs hv ho,
    fun _ _ neg hl hp => exec_short_faults neg hl hp, fun _ _ hl hp hf => exec_breaker_faults hl hp hf,
    fun _ _ _ _ hl hs hi ho hp hx hd => exec_pgLoss_faults hl hs hi ho hp hx hd,
    fun _ _ _ _ hm hf ho hv hh hx => exec_slotFetShort_latches hm hf ho hv hh hx,
    fun _ _ _ hl hs hd hb hc => exec_slotAttempt_attempts hl hs hd hb hc,
    fun _ _ hl hs ha hd ho => exec_slotAttemptOk_ends hl hs ha hd ho,
    fun _ _ hl hs ho => exec_slotCountReset_clears hl hs ho⟩

end Sys2Proof.Machine

namespace Sys2Proof.Machine

set_option Elab.async false

/-! ## The frame of PERIOD_START, where a gang spans two Landings -/

/-- A gang of nine members, from the first Landing into the second. -/
def spanPlan : Plan := { Plan.none with ports := [{ PortPlan.absent with present := true }], gangs := [(0, 9)] }

/-- A Room whose store lists a zero word, which no write leaves. -/
def strayRoom : Room := { Room.reset 8 with regs := [(0x1C8, 0)] }

/-- Port 0 leads the gang; the Room of port 8, its last member, is the stray one. -/
def spanState : State :=
  ({ State.reset with clk := { Clk.reset with phase := .run }, plan := some spanPlan } : State).setRoom 8 strayRoom

theorem spanState_room : spanState.room 8 = strayRoom := State.room_setRoom _ _ _

/-- The period of the lead becomes due in the Room of port 8 too, whose registers stay. -/
theorem spanState_period : ∃ t, exec (.periodStart 0) spanState = .next t ∧ (t.room 8).regs = strayRoom.regs ∧
    (t.room 8).conv.phaseDue = true := by
  refine ⟨_, rfl, ?_, ?_⟩ <;> decide +kernel

theorem strayRoom_set (w : Word) : Store.set strayRoom.regs 0x1C8 w ≠ strayRoom.regs := by
  unfold Store.set strayRoom
  split
  · simp [Store.erase]
  · next hw => simpa [Store.erase, Store.insert] using hw

/-- A Room that differs from the stray one by the due period alone does not follow it. -/
theorem strayRoom_follows {q : Room} (hregs : q.regs = strayRoom.regs) : ¬ strayRoom.follows q := by
  rintro ⟨w, d, rfl⟩
  exact strayRoom_set w hregs

/-- Refutes O7: PERIOD_START of a lead makes the period due in every member's Room. A gang that spans two Landings has a member
outside the frame's Landing, and where the store of that Room is not canonical its change is none that the frame allows. -/
theorem not_portFrames : ¬ Obligations.PortFrames := by
  intro h
  obtain ⟨t, hexec, hregs, hdue⟩ := spanState_period
  have hroom := (h (.periodStart 0) _ rfl spanState t hexec).room 8 (by decide)
  rw [spanState_room] at hroom
  rcases hroom with heq | ⟨-, hfollows⟩
  · rw [heq] at hdue
    exact absurd hdue (by decide)
  · exact strayRoom_follows hregs hfollows

end Sys2Proof.Machine

namespace Sys2Proof.Machine

set_option Elab.async false

/-! ## What an operation on the state can change, and what stays

A list of cells says what an operation can change: parts of the state, fields of the registers of the Hall, the Rooms, the
Landings and the Wings. A look is one thing that can be compared between two states; it stays where no cell hits it. -/

/-- A thing that an operation can change: a part of the state; a field of the Hall's registers, or any of them; any Room, or one;
a field, any register, or a part of a Room; any Landing, and a field or any register of one; any Wing, and of one. -/
inductive Cell
  | part (k : Part) | reg (f : Field) | regs | rooms | roomAt (p : Fin 48) | roomFld (f : Field) | roomRegs | roomPart (k : RoomPart)
  | lands | landFld (f : Field) | landRegs | wings | wingFld (f : Field) | wingRegs

/-- A thing that two states can have in common. -/
inductive Look
  | part (k : Part) | reg (f : Field) | room (p : Fin 48) | roomFld (p : Fin 48) (f : Field) | roomPart (p : Fin 48) (k : RoomPart)
  | land (b : Fin 6) | landFld (b : Fin 6) (f : Field) | wing (w : Fin 2) | wingFld (w : Fin 2) (f : Field)

/-- A change of the cell does not show in the look. -/
def Cell.misses : Cell → Look → Bool
  | .part k, .part j => decide (k ≠ j)
  | .reg f, .reg g => f.apart g
  | .regs, .reg _ => false
  | .rooms, .room _ => false
  | .roomAt p, .room q => decide (q ≠ p)
  | .roomFld f, .roomFld _ g => f.apart g
  | .roomRegs, .roomFld _ _ => false
  | .roomPart k, .roomPart _ j => decide (k ≠ j)
  | .lands, .land _ => false
  | .landFld f, .landFld _ g => f.apart g
  | .landRegs, .landFld _ _ => false
  | .wings, .wing _ => false
  | .wingFld f, .wingFld _ g => f.apart g
  | .wingRegs, .wingFld _ _ => false
  | _, _ => true

/-- No cell of the list shows in the look. -/
def Cell.clear (w : List Cell) (o : Look) : Bool := w.all (·.misses o)

@[simp] theorem Cell.clear_nil (o : Look) : Cell.clear [] o = true := rfl
@[simp] theorem Cell.clear_cons (c : Cell) (w : List Cell) (o : Look) : Cell.clear (c :: w) o = (c.misses o && Cell.clear w o) := rfl
@[simp] theorem Cell.clear_append (v w : List Cell) (o : Look) : Cell.clear (v ++ w) o = (Cell.clear v o && Cell.clear w o) := by
  simp [Cell.clear, List.all_append]

theorem Cell.clear_nil_iff (o : Look) : Cell.clear [] o = true ↔ True := ⟨fun _ => trivial, fun _ => rfl⟩
theorem Cell.clear_cons_iff {c : Cell} {w : List Cell} {o : Look} :
    Cell.clear (c :: w) o = true ↔ c.misses o = true ∧ Cell.clear w o = true := by
  rw [Cell.clear_cons, Bool.and_eq_true]
theorem Cell.clear_append_iff {v w : List Cell} {o : Look} :
    Cell.clear (v ++ w) o = true ↔ Cell.clear v o = true ∧ Cell.clear w o = true := by
  rw [Cell.clear_append, Bool.and_eq_true]

/-- The cells of fields and parts of a Room. -/
def Room.cells (w : List Field) (p : List RoomPart) : List Cell := w.map .roomFld ++ p.map .roomPart

theorem Cell.roomAt_of_rooms {o : Look} (h : Cell.rooms.misses o = true) (p : Fin 48) : (Cell.roomAt p).misses o = true := by
  cases o <;> first | rfl | cases h

/-- Two states have the looked-at thing in common. -/
def State.looks (s t : State) : Look → Prop
  | .part k => Part.same s t k
  | .reg g => t.fld g = s.fld g
  | .room p => t.room p = s.room p
  | .roomFld p g => (t.room p).fld g = (s.room p).fld g
  | .roomPart p k => RoomPart.same (s.room p) (t.room p) k
  | .land b => t.land b = s.land b
  | .landFld b g => (t.land b).fld g = (s.land b).fld g
  | .wing w => t.wing w = s.wing w
  | .wingFld w g => (t.wing w).fld g = (s.wing w).fld g

/-- The looked-at thing is the same in both states. -/
structure State.Spares (o : Look) (s t : State) : Prop where
  same : s.looks t o

/-- The look at a Room is the same in both. -/
def Room.Seen (o : Look) (r q : Room) : Prop :=
  match o with
  | .roomFld _ g => q.fld g = r.fld g
  | .roomPart _ k => RoomPart.same r q k
  | _ => True

/-- The look at the registers of a Landing or of a Wing is the same in both. -/
def Look.landRegs (o : Look) (m n : Regs) : Prop :=
  match o with
  | .landFld _ g => n.fld g = m.fld g
  | _ => True
def Look.wingRegs (o : Look) (m n : Regs) : Prop :=
  match o with
  | .wingFld _ g => n.fld g = m.fld g
  | _ => True
def Landing.Seen (o : Look) (l q : Landing) : Prop := o.landRegs l.regs q.regs
def Wing.Seen (o : Look) (x y : Wing) : Prop := o.wingRegs x.regs y.regs

/-! ### The Rooms -/

theorem Room.Seen.refl (o : Look) (r : Room) : Room.Seen o r r := by
  cases o with
  | roomPart q k => cases k <;> rfl
  | roomFld q g => rfl
  | _ => trivial

theorem Room.Seen.trans {o : Look} {r q u : Room} (h : Room.Seen o r q) (h2 : Room.Seen o q u) : Room.Seen o r u := by
  cases o with
  | roomPart _ k => cases k <;> exact Eq.trans h2 h
  | roomFld _ g => exact Eq.trans h2 h
  | _ => trivial

theorem RoomPart.clear_of_cells {p : List RoomPart} {q : Fin 48} {k : RoomPart}
    (hP : Cell.clear (p.map .roomPart) (.roomPart q k) = true) : RoomPart.Clear p k := by
  intro hk
  have hmiss := List.all_eq_true.1 hP (.roomPart k) (List.mem_map.2 ⟨k, hk, rfl⟩)
  simp [Cell.misses] at hmiss

/-- What an operation on a Room leaves, from the fields that it writes and the parts that it changes. -/
theorem Room.Seen.of_laws {o : Look} {r q u : Room} {w : List Field} {p : List RoomPart}
    (hP : Cell.clear (Room.cells w p) o = true) (hfld : ∀ g, Field.clear w g = true → u.fld g = q.fld g)
    (hpart : ∀ k, RoomPart.Clear p k → Room.Spares k q u) (h : Room.Seen o r q) : Room.Seen o r u := by
  refine h.trans ?_
  rw [Room.cells, Cell.clear_append, Bool.and_eq_true] at hP
  cases o with
  | roomFld _ g =>
    refine hfld g ?_
    have hw := hP.1
    simpa [Cell.clear, Field.clear, List.all_map, Cell.misses] using hw
  | roomPart _ k => exact (hpart k (RoomPart.clear_of_cells hP.2)).same
  | _ => trivial

/-- What an operation leaves that can write every register of a Room. -/
theorem Room.Seen.anyRegs {o : Look} {r q u : Room} {p : List RoomPart} (hR : Cell.roomRegs.misses o = true)
    (hP : Cell.clear (p.map .roomPart) o = true) (hpart : ∀ k, RoomPart.Clear p k → Room.Spares k q u) (h : Room.Seen o r q) :
    Room.Seen o r u := by
  refine h.trans ?_
  cases o with
  | roomFld _ g => cases hR
  | roomPart _ k => exact (hpart k (RoomPart.clear_of_cells hP)).same
  | _ => trivial

section
variable {o : Look} {r q : Room}

theorem Room.Seen.put {f : Field} {v : Nat} (hP : (Cell.roomFld f).misses o = true) (h : Room.Seen o r q) :
    Room.Seen o r (q.put f v) := by
  cases o with
  | roomPart _ k => cases k <;> exact h
  | roomFld _ g => exact (Room.fld_put_apart _ _ _ _ hP).trans h
  | _ => trivial
theorem Room.Seen.on {f : Field} (hP : (Cell.roomFld f).misses o = true) (h : Room.Seen o r q) : Room.Seen o r (q.on f) := h.put hP
theorem Room.Seen.off {f : Field} (hP : (Cell.roomFld f).misses o = true) (h : Room.Seen o r q) : Room.Seen o r (q.off f) := h.put hP
theorem Room.Seen.putB {f : Field} {b : Bool} (hP : (Cell.roomFld f).misses o = true) (h : Room.Seen o r q) :
    Room.Seen o r (q.putB f b) := h.put hP
theorem Room.Seen.ite {c : Prop} [Decidable c] {a b : Room} (ha : Room.Seen o r a) (hb : Room.Seen o r b) :
    Room.Seen o r (if c then a else b) := by
  split <;> assumption
theorem Room.Seen.foldl {α : Type} {l : List α} {f : Room → α → Room} (hf : ∀ a b, Room.Seen o r a → Room.Seen o r (f a b))
    (h : Room.Seen o r q) : Room.Seen o r (l.foldl f q) :=
  List.foldlRecOn l f h fun b hb a _ => hf b a hb
theorem Room.Seen.foldlMem {α : Type} {l : List α} {f : Room → α → Room}
    (hf : ∀ b, ∀ a ∈ l, Room.Seen o r b → Room.Seen o r (f b a)) (h : Room.Seen o r q) : Room.Seen o r (l.foldl f q) :=
  List.foldlRecOn l f h fun b hb a ha => hf b a ha hb
theorem Room.Seen.onCc {g : CcState → CcState} (hP : (Cell.roomPart .cc).misses o = true) (h : Room.Seen o r q) :
    Room.Seen o r (q.onCc g) := by
  cases o with
  | roomPart _ k => cases k <;> first | exact h | cases hP
  | roomFld _ g => exact h
  | _ => trivial
theorem Room.Seen.onPd {g : PdState → PdState} (hP : (Cell.roomPart .pd).misses o = true) (h : Room.Seen o r q) :
    Room.Seen o r (q.onPd g) := by
  cases o with
  | roomPart _ k => cases k <;> first | exact h | cases hP
  | roomFld _ g => exact h
  | _ => trivial
theorem Room.Seen.onCon {g : ConState → ConState} (hP : (Cell.roomPart .con).misses o = true) (h : Room.Seen o r q) :
    Room.Seen o r (q.onCon g) := by
  cases o with
  | roomPart _ k => cases k <;> first | exact h | cases hP
  | roomFld _ g => exact h
  | _ => trivial
theorem Room.Seen.onConv {g : ConvState → ConvState} (hP : (Cell.roomPart .conv).misses o = true) (h : Room.Seen o r q) :
    Room.Seen o r (q.onConv g) := by
  cases o with
  | roomPart _ k => cases k <;> first | exact h | cases hP
  | roomFld _ g => exact h
  | _ => trivial
theorem Room.Seen.onCore {g : Core → Core} (hP : (Cell.roomPart .core).misses o = true) (h : Room.Seen o r q) :
    Room.Seen o r (q.onCore g) := by
  cases o with
  | roomPart _ k => cases k <;> first | exact h | cases hP
  | roomFld _ g => exact h
  | _ => trivial
theorem Room.Seen.core {x} (hP : (Cell.roomPart .core).misses o = true) (h : Room.Seen o r q) :
    Room.Seen o r { q with core := x } := by
  cases o with
  | roomPart _ k => cases k <;> first | exact h | cases hP
  | roomFld _ g => exact h
  | _ => trivial
theorem Room.Seen.safe {x} (hP : (Cell.roomPart .safe).misses o = true) (h : Room.Seen o r q) :
    Room.Seen o r { q with safe := x } := by
  cases o with
  | roomPart _ k => cases k <;> first | exact h | cases hP
  | roomFld _ g => exact h
  | _ => trivial
theorem Room.Seen.slotHold {x} (hP : (Cell.roomPart .slotHold).misses o = true) (h : Room.Seen o r q) :
    Room.Seen o r { q with slotHold := x } := by
  cases o with
  | roomPart _ k => cases k <;> first | exact h | cases hP
  | roomFld _ g => exact h
  | _ => trivial
theorem Room.Seen.senseHold {x} (hP : (Cell.roomPart .senseHold).misses o = true) (h : Room.Seen o r q) :
    Room.Seen o r { q with senseHold := x } := by
  cases o with
  | roomPart _ k => cases k <;> first | exact h | cases hP
  | roomFld _ g => exact h
  | _ => trivial
theorem Room.Seen.kickAt {x} (hP : (Cell.roomPart .kickAt).misses o = true) (h : Room.Seen o r q) :
    Room.Seen o r { q with kickAt := x } := by
  cases o with
  | roomPart _ k => cases k <;> first | exact h | cases hP
  | roomFld _ g => exact h
  | _ => trivial
theorem Room.Seen.restarts {x} (hP : (Cell.roomPart .restarts).misses o = true) (h : Room.Seen o r q) :
    Room.Seen o r { q with restarts := x } := by
  cases o with
  | roomPart _ k => cases k <;> first | exact h | cases hP
  | roomFld _ g => exact h
  | _ => trivial
theorem Room.Seen.data {x} (hP : (Cell.roomPart .data).misses o = true) (h : Room.Seen o r q) :
    Room.Seen o r { q with data := x } := by
  cases o with
  | roomPart _ k => cases k <;> first | exact h | cases hP
  | roomFld _ g => exact h
  | _ => trivial
theorem Room.Seen.code {x} (hP : (Cell.roomPart .code).misses o = true) (h : Room.Seen o r q) :
    Room.Seen o r { q with code := x } := by
  cases o with
  | roomPart _ k => cases k <;> first | exact h | cases hP
  | roomFld _ g => exact h
  | _ => trivial
theorem Room.Seen.epoch {x} (hP : (Cell.roomPart .epoch).misses o = true) (h : Room.Seen o r q) :
    Room.Seen o r { q with epoch := x } := by
  cases o with
  | roomPart _ k => cases k <;> first | exact h | cases hP
  | roomFld _ g => exact h
  | _ => trivial
theorem Room.Seen.cal {x} (hP : (Cell.roomPart .cal).misses o = true) (h : Room.Seen o r q) :
    Room.Seen o r { q with cal := x } := by
  cases o with
  | roomPart _ k => cases k <;> first | exact h | cases hP
  | roomFld _ g => exact h
  | _ => trivial
theorem Room.Seen.calRej {x} (hP : (Cell.roomPart .calRej).misses o = true) (h : Room.Seen o r q) :
    Room.Seen o r { q with calRej := x } := by
  cases o with
  | roomPart _ k => cases k <;> first | exact h | cases hP
  | roomFld _ g => exact h
  | _ => trivial
theorem Room.Seen.eoutRem {x} (hP : (Cell.roomPart .eoutRem).misses o = true) (h : Room.Seen o r q) :
    Room.Seen o r { q with eoutRem := x } := by
  cases o with
  | roomPart _ k => cases k <;> first | exact h | cases hP
  | roomFld _ g => exact h
  | _ => trivial
theorem Room.Seen.einRem {x} (hP : (Cell.roomPart .einRem).misses o = true) (h : Room.Seen o r q) :
    Room.Seen o r { q with einRem := x } := by
  cases o with
  | roomPart _ k => cases k <;> first | exact h | cases hP
  | roomFld _ g => exact h
  | _ => trivial
theorem Room.Seen.outs {x} (hP : (Cell.roomPart .outs).misses o = true) (h : Room.Seen o r q) :
    Room.Seen o r { q with outs := x } := by
  cases o with
  | roomPart _ k => cases k <;> first | exact h | cases hP
  | roomFld _ g => exact h
  | _ => trivial
end

/-! ### The Landings and the Wings -/

section
variable {o : Look}

theorem Landing.Seen.refl (o : Look) (l : Landing) : Landing.Seen o l l := by
  cases o <;> first | rfl | trivial
theorem Landing.Seen.trans {l q u : Landing} (h : Landing.Seen o l q) (h2 : Landing.Seen o q u) : Landing.Seen o l u := by
  cases o <;> first | exact Eq.trans h2 h | trivial
theorem Landing.Seen.mk {l : Landing} {m : Regs} {x1 x2 x3 x4 x5 x6 x7 x8 x9 x10 x11 x12 x13 x14 x15 x16 x17 x18 x19 x20 x21 x22}
    (h : o.landRegs l.regs m) :
    Landing.Seen o l ⟨m, x1, x2, x3, x4, x5, x6, x7, x8, x9, x10, x11, x12, x13, x14, x15, x16, x17, x18, x19, x20, x21, x22⟩ := h
theorem Landing.Seen.anyRegs {l q : Landing} (hP : Cell.landRegs.misses o = true) : Landing.Seen o l q := by
  cases o with
  | landFld _ g => cases hP
  | _ => trivial
theorem Landing.landRegs_of_seen {l q : Landing} (h : Landing.Seen o l q) : o.landRegs l.regs q.regs := h
theorem Landing.Seen.put {l q : Landing} {f : Field} {v : Nat} (hP : (Cell.landFld f).misses o = true) (h : Landing.Seen o l q) :
    Landing.Seen o l (q.put f v) := by
  cases o with
  | landFld _ g => exact (Landing.fld_put_apart q f g v hP).trans h
  | _ => trivial
theorem Landing.Seen.on {l q : Landing} {f : Field} (hP : (Cell.landFld f).misses o = true) (h : Landing.Seen o l q) :
    Landing.Seen o l (q.on f) := h.put hP
theorem Landing.Seen.off {l q : Landing} {f : Field} (hP : (Cell.landFld f).misses o = true) (h : Landing.Seen o l q) :
    Landing.Seen o l (q.off f) := h.put hP
theorem Landing.Seen.putB {l q : Landing} {f : Field} {b : Bool} (hP : (Cell.landFld f).misses o = true) (h : Landing.Seen o l q) :
    Landing.Seen o l (q.putB f b) := h.put hP
theorem Landing.Seen.ite {l a b : Landing} {c : Prop} [Decidable c] (ha : Landing.Seen o l a) (hb : Landing.Seen o l b) :
    Landing.Seen o l (if c then a else b) := by
  split <;> assumption
/-- What an operation on a Landing leaves, from the fields that it writes. -/
theorem Landing.Seen.of_fld {l q u : Landing} {w : List Field} (hP : Cell.clear (w.map .landFld) o = true)
    (hfld : ∀ g, Field.clear w g = true → u.fld g = q.fld g) (h : Landing.Seen o l q) : Landing.Seen o l u := by
  refine h.trans ?_
  cases o with
  | landFld _ g => exact hfld g (by simpa [Cell.clear, Field.clear, List.all_map, Cell.misses] using hP)
  | _ => trivial

theorem Wing.Seen.refl (o : Look) (x : Wing) : Wing.Seen o x x := by
  cases o <;> first | rfl | trivial
theorem Wing.Seen.trans {x y z : Wing} (h : Wing.Seen o x y) (h2 : Wing.Seen o y z) : Wing.Seen o x z := by
  cases o <;> first | exact Eq.trans h2 h | trivial
theorem Wing.Seen.mk {x : Wing} {m : Regs} {a b c} (h : o.wingRegs x.regs m) : Wing.Seen o x ⟨m, a, b, c⟩ := h
theorem Wing.Seen.anyRegs {x y : Wing} (hP : Cell.wingRegs.misses o = true) : Wing.Seen o x y := by
  cases o with
  | wingFld _ g => cases hP
  | _ => trivial
theorem Wing.wingRegs_of_seen {x y : Wing} (h : Wing.Seen o x y) : o.wingRegs x.regs y.regs := h
theorem Wing.Seen.put {x y : Wing} {f : Field} {v : Nat} (hP : (Cell.wingFld f).misses o = true) (h : Wing.Seen o x y) :
    Wing.Seen o x (y.put f v) := by
  cases o with
  | wingFld _ g => exact (Regs.fld_put_apart _ _ _ _ hP).trans h
  | _ => trivial
theorem Wing.Seen.on {x y : Wing} {f : Field} (hP : (Cell.wingFld f).misses o = true) (h : Wing.Seen o x y) :
    Wing.Seen o x (y.on f) := h.put hP
theorem Wing.Seen.ite {x a b : Wing} {c : Prop} [Decidable c] (ha : Wing.Seen o x a) (hb : Wing.Seen o x b) :
    Wing.Seen o x (if c then a else b) := by
  split <;> assumption

end

/-! ### The state -/

section
variable {o : Look} {s0 s : State}

theorem State.Spares.refl (o : Look) (s : State) : State.Spares o s s :=
  ⟨by
    cases o with
    | part k => cases k <;> rfl
    | roomPart p k => cases k <;> rfl
    | _ => rfl⟩

theorem State.Spares.trans {t : State} (h : State.Spares o s0 s) (h2 : State.Spares o s t) : State.Spares o s0 t :=
  ⟨by
    obtain ⟨h⟩ := h
    obtain ⟨h2⟩ := h2
    cases o with
    | part k => cases k <;> exact Eq.trans h2 h
    | roomPart p k => cases k <;> exact Eq.trans h2 h
    | _ => exact Eq.trans h2 h⟩

theorem State.Spares.ite {c : Prop} [Decidable c] {a b : State} (ha : State.Spares o s0 a) (hb : State.Spares o s0 b) :
    State.Spares o s0 (if c then a else b) := by
  split <;> assumption

theorem State.Spares.foldl {α : Type} {l : List α} {f : State → α → State} (hf : ∀ a b, State.Spares o s0 a → State.Spares o s0 (f a b))
    (h : State.Spares o s0 s) : State.Spares o s0 (l.foldl f s) :=
  List.foldlRecOn l f h fun b hb a _ => hf b a hb

theorem State.Spares.regs {m : Regs} (hm : ∀ g, o = .reg g → m.fld g = s.fld g) (h : State.Spares o s0 s) :
    State.Spares o s0 { s with regs := m } :=
  h.trans ⟨by
    cases o with
    | reg g => exact hm g rfl
    | part k => cases k <;> rfl
    | roomPart p k => cases k <;> rfl
    | _ => rfl⟩

theorem State.Spares.anyRegs {m : Regs} (hP : Cell.regs.misses o = true) (h : State.Spares o s0 s) :
    State.Spares o s0 { s with regs := m } :=
  h.regs fun g hg => by subst hg; cases hP

theorem State.Spares.setTwo {a b : Nat} {u v : Word} (ha : (Cell.reg (.whole a)).misses o = true)
    (hb : (Cell.reg (.whole b)).misses o = true) (h : State.Spares o s0 s) :
    State.Spares o s0 { s with regs := Store.set (Store.set s.regs a u) b v } :=
  h.regs fun g hg => by
    subst hg
    rw [Regs.fld_set_apart _ _ _ _ hb, Regs.fld_set_apart _ _ _ _ ha]
    rfl

theorem State.Spares.setAll {l : List Nat} {a : Nat → Nat} {w : Nat → Word}
    (hP : Cell.clear (l.map fun i => .reg (.whole (a i))) o = true) (h : State.Spares o s0 s) :
    State.Spares o s0 { s with regs := l.foldl (fun m i => Store.set m (a i) (w i)) s.regs } :=
  h.regs fun g hg => by
    subst hg
    have hcell : ∀ i ∈ l, (Field.whole (a i)).apart g = true := fun i hi => List.all_eq_true.1 hP _ (List.mem_map.2 ⟨i, hi, rfl⟩)
    exact List.foldlRecOn (motive := fun m : Regs => Regs.fld m g = Regs.fld s.regs g) l _ rfl fun m hm i hi =>
      (Regs.fld_set_apart m _ _ g (hcell i hi)).trans hm

theorem State.Spares.put {f : Field} {v : Nat} (hP : (Cell.reg f).misses o = true) (h : State.Spares o s0 s) :
    State.Spares o s0 (s.put f v) :=
  h.regs fun g hg => State.fld_put_apart s f g v (by subst hg; exact hP)
theorem State.Spares.on {f : Field} (hP : (Cell.reg f).misses o = true) (h : State.Spares o s0 s) : State.Spares o s0 (s.on f) := h.put hP
theorem State.Spares.off {f : Field} (hP : (Cell.reg f).misses o = true) (h : State.Spares o s0 s) : State.Spares o s0 (s.off f) := h.put hP
theorem State.Spares.putB {f : Field} {b : Bool} (hP : (Cell.reg f).misses o = true) (h : State.Spares o s0 s) :
    State.Spares o s0 (s.putB f b) := h.put hP

theorem State.Spares.onRoom {p : Fin 48} {g : Room → Room} (hp : (Cell.roomAt p).misses o = true) (hg : ∀ r, Room.Seen o r (g r))
    (h : State.Spares o s0 s) : State.Spares o s0 (s.onRoom p g) :=
  h.trans ⟨by
    have hroom : ∀ q : Fin 48, q ≠ p → (s.onRoom p g).room q = s.room q := fun q hq => State.room_onRoom_ne _ _ _ _ (Ne.symm hq)
    cases o with
    | room q => exact hroom q (of_decide_eq_true hp)
    | roomFld q f =>
      by_cases hq : q = p
      · subst hq
        exact (congrArg (Room.fld · f) (State.room_onRoom s q g)).trans (hg _)
      · exact congrArg (Room.fld · f) (hroom q hq)
    | roomPart q k =>
      show RoomPart.same (s.room q) ((s.onRoom p g).room q) k
      by_cases hq : q = p
      · subst hq
        rw [State.room_onRoom]
        exact hg _
      · rw [hroom q hq]
        cases k <;> rfl
    | part k => cases k <;> rfl
    | _ => rfl⟩

theorem State.Spares.onRoomE {p : Fin 48} {g : Env → Room → Room} (hp : (Cell.roomAt p).misses o = true) (hg : ∀ e r, Room.Seen o r (g e r))
    (h : State.Spares o s0 s) : State.Spares o s0 (s.onRoomE p g) :=
  h.onRoom hp (hg _)

theorem State.Spares.rooms {x : Vector Room 48} (hp : Cell.rooms.misses o = true) (hx : ∀ p, Room.Seen o (s.room p) x[p])
    (h : State.Spares o s0 s) : State.Spares o s0 { s with rooms := x } :=
  h.trans ⟨by
    cases o with
    | roomFld q f => exact hx q
    | roomPart q k => exact hx q
    | room q => cases hp
    | part k => cases k <;> rfl
    | _ => rfl⟩

theorem State.Spares.mapRooms {g : Fin 48 → Room → Room} (hp : Cell.rooms.misses o = true) (hg : ∀ p r, Room.Seen o r (g p r))
    (h : State.Spares o s0 s) : State.Spares o s0 (s.mapRooms g) :=
  h.rooms hp fun p => by
    have hroom := State.room_mapRooms s g p
    rw [State.mapRooms, State.room] at hroom
    rw [hroom]
    exact hg p _

theorem State.Spares.lands {x : Vector Landing 6} (hb : Cell.lands.misses o = true) (hx : ∀ b, Landing.Seen o (s.land b) x[b])
    (h : State.Spares o s0 s) : State.Spares o s0 { s with lands := x } :=
  h.trans ⟨by
    cases o with
    | landFld c f => exact hx c
    | land c => cases hb
    | part k => cases k <;> rfl
    | roomPart p k => cases k <;> rfl
    | _ => rfl⟩

theorem State.Spares.mapLands {g : Fin 6 → Landing → Landing} (hb : Cell.lands.misses o = true) (hg : ∀ b l, Landing.Seen o l (g b l))
    (h : State.Spares o s0 s) : State.Spares o s0 (s.mapLands g) :=
  h.lands hb fun b => by
    have hland := State.land_mapLands s g b
    rw [State.mapLands, State.land] at hland
    rw [hland]
    exact hg b _

theorem State.Spares.onLand {b : Fin 6} {g : Landing → Landing} (hb : Cell.lands.misses o = true) (hg : ∀ l, Landing.Seen o l (g l))
    (h : State.Spares o s0 s) : State.Spares o s0 (s.onLand b g) :=
  h.trans ⟨by
    cases o with
    | land c => cases hb
    | landFld c f =>
      by_cases hc : c = b
      · subst hc
        exact (congrArg (Landing.fld · f) (State.land_onLand s c g)).trans (hg _)
      · exact congrArg (Landing.fld · f) (State.land_onLand_ne _ _ _ _ (Ne.symm hc))
    | part k => cases k <;> rfl
    | roomPart p k => cases k <;> rfl
    | _ => rfl⟩

theorem State.Spares.onWing {w : Fin 2} {g : Wing → Wing} (hw : Cell.wings.misses o = true) (hg : ∀ x, Wing.Seen o x (g x))
    (h : State.Spares o s0 s) : State.Spares o s0 (s.onWing w g) :=
  h.trans ⟨by
    cases o with
    | wing x => cases hw
    | wingFld x f =>
      by_cases hx : x = w
      · subst hx
        exact (congrArg (Wing.fld · f) (State.wing_onWing s x g)).trans (hg _)
      · exact congrArg (Wing.fld · f) (State.wing_onWing_ne _ _ _ _ (Ne.symm hx))
    | part k => cases k <;> rfl
    | roomPart p k => cases k <;> rfl
    | _ => rfl⟩

/-- A change of one part of the state. -/
theorem State.Spares.of_part {t : State} {k : Part} (hP : (Cell.part k).misses o = true) (hpart : ∀ j, j ≠ k → Part.same s t j)
    (hregs : t.regs = s.regs) (hrooms : t.rooms = s.rooms) (hlands : t.lands = s.lands) (hwings : t.wings = s.wings)
    (h : State.Spares o s0 s) : State.Spares o s0 t :=
  h.trans ⟨by
    have hroom : ∀ p, t.room p = s.room p := fun p => by rw [State.room, hrooms, State.room]
    cases o with
    | part j => exact hpart j fun hj => by simp [Cell.misses, hj] at hP
    | reg g => exact congrArg (Regs.fld · g) hregs
    | room p => exact hroom p
    | roomFld p g => exact congrArg (Room.fld · g) (hroom p)
    | roomPart p j =>
      show RoomPart.same (s.room p) (t.room p) j
      rw [hroom]
      cases j <;> rfl
    | land b => exact State.land_congr hlands b
    | landFld b g => exact congrArg (Landing.fld · g) (State.land_congr hlands b)
    | wing w => exact congrArg (fun v : Vector Wing 2 => v[w]) hwings
    | wingFld w g => exact congrArg (fun v : Vector Wing 2 => Wing.fld v[w] g) hwings⟩

theorem State.Spares.now {x} (hP : (Cell.part .now).misses o = true) (h : State.Spares o s0 s) :
    State.Spares o s0 { s with now := x } :=
  State.Spares.of_part (s := s) hP (fun j hj => by cases j <;> first | rfl | exact absurd rfl hj) rfl rfl rfl rfl h
theorem State.Spares.freeCtr {x} (hP : (Cell.part .freeCtr).misses o = true) (h : State.Spares o s0 s) :
    State.Spares o s0 { s with freeCtr := x } :=
  State.Spares.of_part (s := s) hP (fun j hj => by cases j <;> first | rfl | exact absurd rfl hj) rfl rfl rfl rfl h
theorem State.Spares.clk {x} (hP : (Cell.part .clk).misses o = true) (h : State.Spares o s0 s) :
    State.Spares o s0 { s with clk := x } :=
  State.Spares.of_part (s := s) hP (fun j hj => by cases j <;> first | rfl | exact absurd rfl hj) rfl rfl rfl rfl h
theorem State.Spares.chipB {x} (hP : (Cell.part .chipB).misses o = true) (h : State.Spares o s0 s) :
    State.Spares o s0 { s with chipB := x } :=
  State.Spares.of_part (s := s) hP (fun j hj => by cases j <;> first | rfl | exact absurd rfl hj) rfl rfl rfl rfl h
theorem State.Spares.plan {x} (hP : (Cell.part .plan).misses o = true) (h : State.Spares o s0 s) :
    State.Spares o s0 { s with plan := x } :=
  State.Spares.of_part (s := s) hP (fun j hj => by cases j <;> first | rfl | exact absurd rfl hj) rfl rfl rfl rfl h
theorem State.Spares.planStore {x} (hP : (Cell.part .planStore).misses o = true) (h : State.Spares o s0 s) :
    State.Spares o s0 { s with planStore := x } :=
  State.Spares.of_part (s := s) hP (fun j hj => by cases j <;> first | rfl | exact absurd rfl hj) rfl rfl rfl rfl h
theorem State.Spares.planDigest {x} (hP : (Cell.part .planDigest).misses o = true) (h : State.Spares o s0 s) :
    State.Spares o s0 { s with planDigest := x } :=
  State.Spares.of_part (s := s) hP (fun j hj => by cases j <;> first | rfl | exact absurd rfl hj) rfl rfl rfl rfl h
theorem State.Spares.mode {x} (hP : (Cell.part .mode).misses o = true) (h : State.Spares o s0 s) :
    State.Spares o s0 { s with mode := x } :=
  State.Spares.of_part (s := s) hP (fun j hj => by cases j <;> first | rfl | exact absurd rfl hj) rfl rfl rfl rfl h
theorem State.Spares.lastExt {x} (hP : (Cell.part .lastExt).misses o = true) (h : State.Spares o s0 s) :
    State.Spares o s0 { s with lastExt := x } :=
  State.Spares.of_part (s := s) hP (fun j hj => by cases j <;> first | rfl | exact absurd rfl hj) rfl rfl rfl rfl h
theorem State.Spares.hall {x} (hP : (Cell.part .hall).misses o = true) (h : State.Spares o s0 s) :
    State.Spares o s0 { s with hall := x } :=
  State.Spares.of_part (s := s) hP (fun j hj => by cases j <;> first | rfl | exact absurd rfl hj) rfl rfl rfl rfl h
theorem State.Spares.hallCode {x} (hP : (Cell.part .hallCode).misses o = true) (h : State.Spares o s0 s) :
    State.Spares o s0 { s with hallCode := x } :=
  State.Spares.of_part (s := s) hP (fun j hj => by cases j <;> first | rfl | exact absurd rfl hj) rfl rfl rfl rfl h
theorem State.Spares.hallData {x} (hP : (Cell.part .hallData).misses o = true) (h : State.Spares o s0 s) :
    State.Spares o s0 { s with hallData := x } :=
  State.Spares.of_part (s := s) hP (fun j hj => by cases j <;> first | rfl | exact absurd rfl hj) rfl rfl rfl rfl h
theorem State.Spares.hbeatAt {x} (hP : (Cell.part .hbeatAt).misses o = true) (h : State.Spares o s0 s) :
    State.Spares o s0 { s with hbeatAt := x } :=
  State.Spares.of_part (s := s) hP (fun j hj => by cases j <;> first | rfl | exact absurd rfl hj) rfl rfl rfl rfl h
theorem State.Spares.hbMissed {x} (hP : (Cell.part .hbMissed).misses o = true) (h : State.Spares o s0 s) :
    State.Spares o s0 { s with hbMissed := x } :=
  State.Spares.of_part (s := s) hP (fun j hj => by cases j <;> first | rfl | exact absurd rfl hj) rfl rfl rfl rfl h
theorem State.Spares.rdata {x} (hP : (Cell.part .rdata).misses o = true) (h : State.Spares o s0 s) :
    State.Spares o s0 { s with rdata := x } :=
  State.Spares.of_part (s := s) hP (fun j hj => by cases j <;> first | rfl | exact absurd rfl hj) rfl rfl rfl rfl h
theorem State.Spares.rerr {x} (hP : (Cell.part .rerr).misses o = true) (h : State.Spares o s0 s) :
    State.Spares o s0 { s with rerr := x } :=
  State.Spares.of_part (s := s) hP (fun j hj => by cases j <;> first | rfl | exact absurd rfl hj) rfl rfl rfl rfl h
theorem State.Spares.hallErr {x} (hP : (Cell.part .hallErr).misses o = true) (h : State.Spares o s0 s) :
    State.Spares o s0 { s with hallErr := x } :=
  State.Spares.of_part (s := s) hP (fun j hj => by cases j <;> first | rfl | exact absurd rfl hj) rfl rfl rfl rfl h
theorem State.Spares.hearth {x} (hP : (Cell.part .hearth).misses o = true) (h : State.Spares o s0 s) :
    State.Spares o s0 { s with hearth := x } :=
  State.Spares.of_part (s := s) hP (fun j hj => by cases j <;> first | rfl | exact absurd rfl hj) rfl rfl rfl rfl h
theorem State.Spares.pair {x} (hP : (Cell.part .pair).misses o = true) (h : State.Spares o s0 s) :
    State.Spares o s0 { s with pair := x } :=
  State.Spares.of_part (s := s) hP (fun j hj => by cases j <;> first | rfl | exact absurd rfl hj) rfl rfl rfl rfl h
theorem State.Spares.pantry {x} (hP : (Cell.part .pantry).misses o = true) (h : State.Spares o s0 s) :
    State.Spares o s0 { s with pantry := x } :=
  State.Spares.of_part (s := s) hP (fun j hj => by cases j <;> first | rfl | exact absurd rfl hj) rfl rfl rfl rfl h
theorem State.Spares.lamps {x} (hP : (Cell.part .lamps).misses o = true) (h : State.Spares o s0 s) :
    State.Spares o s0 { s with lamps := x } :=
  State.Spares.of_part (s := s) hP (fun j hj => by cases j <;> first | rfl | exact absurd rfl hj) rfl rfl rfl rfl h
theorem State.Spares.chgGrant {x} (hP : (Cell.part .chgGrant).misses o = true) (h : State.Spares o s0 s) :
    State.Spares o s0 { s with chgGrant := x } :=
  State.Spares.of_part (s := s) hP (fun j hj => by cases j <;> first | rfl | exact absurd rfl hj) rfl rfl rfl rfl h
theorem State.Spares.attic {x} (hP : (Cell.part .attic).misses o = true) (h : State.Spares o s0 s) :
    State.Spares o s0 { s with attic := x } :=
  State.Spares.of_part (s := s) hP (fun j hj => by cases j <;> first | rfl | exact absurd rfl hj) rfl rfl rfl rfl h
theorem State.Spares.cellar {x} (hP : (Cell.part .cellar).misses o = true) (h : State.Spares o s0 s) :
    State.Spares o s0 { s with cellar := x } :=
  State.Spares.of_part (s := s) hP (fun j hj => by cases j <;> first | rfl | exact absurd rfl hj) rfl rfl rfl rfl h
theorem State.Spares.jnl {x} (hP : (Cell.part .jnl).misses o = true) (h : State.Spares o s0 s) :
    State.Spares o s0 { s with jnl := x } :=
  State.Spares.of_part (s := s) hP (fun j hj => by cases j <;> first | rfl | exact absurd rfl hj) rfl rfl rfl rfl h
theorem State.Spares.fwStore {x} (hP : (Cell.part .fwStore).misses o = true) (h : State.Spares o s0 s) :
    State.Spares o s0 { s with fwStore := x } :=
  State.Spares.of_part (s := s) hP (fun j hj => by cases j <;> first | rfl | exact absurd rfl hj) rfl rfl rfl rfl h
theorem State.Spares.fwDigest {x} (hP : (Cell.part .fwDigest).misses o = true) (h : State.Spares o s0 s) :
    State.Spares o s0 { s with fwDigest := x } :=
  State.Spares.of_part (s := s) hP (fun j hj => by cases j <;> first | rfl | exact absurd rfl hj) rfl rfl rfl rfl h
theorem State.Spares.porch {x} (hP : (Cell.part .porch).misses o = true) (h : State.Spares o s0 s) :
    State.Spares o s0 { s with porch := x } :=
  State.Spares.of_part (s := s) hP (fun j hj => by cases j <;> first | rfl | exact absurd rfl hj) rfl rfl rfl rfl h
theorem State.Spares.fwSet {x} (hP : (Cell.part .fwSet).misses o = true) (h : State.Spares o s0 s) :
    State.Spares o s0 { s with fwSet := x } :=
  State.Spares.of_part (s := s) hP (fun j hj => by cases j <;> first | rfl | exact absurd rfl hj) rfl rfl rfl rfl h
theorem State.Spares.tws {x} (hP : (Cell.part .tws).misses o = true) (h : State.Spares o s0 s) :
    State.Spares o s0 { s with tws := x } :=
  State.Spares.of_part (s := s) hP (fun j hj => by cases j <;> first | rfl | exact absurd rfl hj) rfl rfl rfl rfl h
theorem State.Spares.tcs {x} (hP : (Cell.part .tcs).misses o = true) (h : State.Spares o s0 s) :
    State.Spares o s0 { s with tcs := x } :=
  State.Spares.of_part (s := s) hP (fun j hj => by cases j <;> first | rfl | exact absurd rfl hj) rfl rfl rfl rfl h
theorem State.Spares.matchers {x} (hP : (Cell.part .matchers).misses o = true) (h : State.Spares o s0 s) :
    State.Spares o s0 { s with matchers := x } :=
  State.Spares.of_part (s := s) hP (fun j hj => by cases j <;> first | rfl | exact absurd rfl hj) rfl rfl rfl rfl h
theorem State.Spares.dbg {x} (hP : (Cell.part .dbg).misses o = true) (h : State.Spares o s0 s) :
    State.Spares o s0 { s with dbg := x } :=
  State.Spares.of_part (s := s) hP (fun j hj => by cases j <;> first | rfl | exact absurd rfl hj) rfl rfl rfl rfl h
theorem State.Spares.snap {x} (hP : (Cell.part .snap).misses o = true) (h : State.Spares o s0 s) :
    State.Spares o s0 { s with snap := x } :=
  State.Spares.of_part (s := s) hP (fun j hj => by cases j <;> first | rfl | exact absurd rfl hj) rfl rfl rfl rfl h

theorem State.Spares.links {x} (h : State.Spares o s0 s) : State.Spares o s0 { s with links := x } :=
  h.trans ⟨by
    cases o with
    | part k => cases k <;> rfl
    | roomPart p k => cases k <;> rfl
    | _ => rfl⟩
theorem State.Spares.posted {t : State} (h : State.Spares o s0 s) : State.Spares o s0 (t.posted s) := h.links
theorem State.Spares.withQueue {cs : List Instr} (h : State.Spares o s0 s) : State.Spares o s0 (s.withQueue cs) :=
  h.trans ⟨by
    cases o with
    | part k => cases k <;> rfl
    | roomPart p k => cases k <;> rfl
    | _ => rfl⟩
theorem State.Spares.cellarJnl {x y} (hc : (Cell.part .cellar).misses o = true) (hj : (Cell.part .jnl).misses o = true)
    (h : State.Spares o s0 s) : State.Spares o s0 { s with cellar := x, jnl := y } :=
  State.Spares.jnl (s := { s with cellar := x }) hj (h.cellar hc)
theorem State.Spares.hbeat {x y} (ha : (Cell.part .hbeatAt).misses o = true) (hm : (Cell.part .hbMissed).misses o = true)
    (h : State.Spares o s0 s) : State.Spares o s0 { s with hbeatAt := x, hbMissed := y } :=
  State.Spares.hbMissed (s := { s with hbeatAt := x }) hm (h.hbeatAt ha)
theorem State.Spares.errs {x y} (hr : (Cell.part .rerr).misses o = true) (hh : (Cell.part .hallErr).misses o = true)
    (h : State.Spares o s0 s) : State.Spares o s0 { s with rerr := x, hallErr := y } :=
  State.Spares.hallErr (s := { s with rerr := x }) hh (h.rerr hr)
theorem State.Spares.granted {x y z} (hr : (Cell.part .rerr).misses o = true) (hh : (Cell.part .hallErr).misses o = true)
    (he : (Cell.part .lastExt).misses o = true) (h : State.Spares o s0 s) :
    State.Spares o s0 { s with rerr := x, hallErr := y, lastExt := z } :=
  State.Spares.lastExt (s := { s with rerr := x, hallErr := y }) he (h.errs hr hh)
theorem State.Spares.regsHall {m x} (hP : Cell.regs.misses o = true) (hh : (Cell.part .hall).misses o = true)
    (h : State.Spares o s0 s) : State.Spares o s0 { s with regs := m, hall := x } :=
  State.Spares.hall (s := { s with regs := m }) hh (h.anyRegs hP)
theorem State.Spares.onLandAny {b : Fin 6} {g : Landing → Landing} (hb : Cell.lands.misses o = true)
    (hR : Cell.landRegs.misses o = true) (h : State.Spares o s0 s) : State.Spares o s0 (s.onLand b g) :=
  h.onLand hb fun _ => .anyRegs hR
theorem State.Spares.onWingAny {w : Fin 2} {g : Wing → Wing} (hw : Cell.wings.misses o = true)
    (hR : Cell.wingRegs.misses o = true) (h : State.Spares o s0 s) : State.Spares o s0 (s.onWing w g) :=
  h.onWing hw fun _ => .anyRegs hR
theorem State.Spares.onLink {n : Fin 2} {f : Link → Link} (h : State.Spares o s0 s) : State.Spares o s0 (s.onLink n f) := h.links
theorem State.Spares.onClk {f : Clk → Clk} (hP : (Cell.part .clk).misses o = true) (h : State.Spares o s0 s) :
    State.Spares o s0 (s.onClk f) := h.clk hP
theorem State.Spares.onPan {f : Pantry → Pantry} (hP : (Cell.part .pantry).misses o = true) (h : State.Spares o s0 s) :
    State.Spares o s0 (s.onPan f) := h.pantry hP
theorem State.Spares.onPair {f : Pair → Pair} (hP : (Cell.part .pair).misses o = true) (h : State.Spares o s0 s) :
    State.Spares o s0 (s.onPair f) := h.pair hP
theorem State.Spares.onDbg {f : Dbg → Dbg} (hP : (Cell.part .dbg).misses o = true) (h : State.Spares o s0 s) :
    State.Spares o s0 (s.onDbg f) := h.dbg hP
theorem State.Spares.onPorch {f : Porch → Porch} (hP : (Cell.part .porch).misses o = true) (h : State.Spares o s0 s) :
    State.Spares o s0 (s.onPorch f) := h.porch hP
theorem State.Spares.onTw {n : Fin 4} {f : TwPort → TwPort} (hP : (Cell.part .tws).misses o = true) (h : State.Spares o s0 s) :
    State.Spares o s0 (s.onTw n f) := h.tws hP

end

end Sys2Proof.Machine

namespace Sys2Proof.Machine

set_option Elab.async false

/-! ## What the operations on a Room leave in sight -/

section
variable {o : Look} {r u : Room}

def Room.addEnergyC : List Cell := Room.cells Room.addEnergyW Room.addEnergyP
theorem Room.addEnergy_seen {q : Int} (hP : Cell.clear Room.addEnergyC o = true) (h : Room.Seen o r u) : Room.Seen o r
    (Room.addEnergy q u) :=
  h.of_laws hP (Room.addEnergy_fld q u) fun _ hk => Room.addEnergy_spares hk (.refl _ _)
def Room.applyModeC : List Cell := Room.cells Room.applyModeW Room.applyModeP
theorem Room.applyMode_seen {e : Env} {m : Nat} {epoch : Nat} (hP : Cell.clear Room.applyModeC o = true)
    (h : Room.Seen o r u) : Room.Seen o r (Room.applyMode e m epoch u) :=
  h.of_laws hP (Room.applyMode_fld e m epoch u) fun _ hk => Room.applyMode_spares hk (.refl _ _)
def Room.applyRoomC : List Cell := Room.cells Room.applyRoomW Room.applyRoomP
theorem Room.applyRoom_seen {e : Env} {slotOn : Bool} {b : List Byte} (hP : Cell.clear Room.applyRoomC o = true)
    (h : Room.Seen o r u) : Room.Seen o r (Room.applyRoom e slotOn b u) :=
  h.of_laws hP (Room.applyRoom_fld e slotOn b u) fun _ hk => Room.applyRoom_spares hk (.refl _ _)
def Room.attachAnswerC : List Cell := Room.cells Room.attachAnswerW Room.attachAnswerP
theorem Room.attachAnswer_seen {e : Env} {w : Nat} (hP : Cell.clear Room.attachAnswerC o = true) (h : Room.Seen o r u) :
    Room.Seen o r (Room.attachAnswer e w u) :=
  h.of_laws hP (Room.attachAnswer_fld e w u) fun _ hk => Room.attachAnswer_spares hk (.refl _ _)
def Room.attemptC : List Cell := Room.cells Room.attemptW Room.attemptP
theorem Room.attempt_seen {e : Env} (hP : Cell.clear Room.attemptC o = true) (h : Room.Seen o r u) : Room.Seen o r
    (Room.attempt e u) :=
  h.of_laws hP (Room.attempt_fld e u) fun _ hk => Room.attempt_spares hk (.refl _ _)
def Room.cutToC : List Cell := Room.cells Room.cutToW Room.cutToP
theorem Room.cutTo_seen {e : Env} {d : Nat} (hP : Cell.clear Room.cutToC o = true) (h : Room.Seen o r u) : Room.Seen o r
    (Room.cutTo e u d) :=
  h.of_laws hP (Room.cutTo_fld e u d) fun _ hk => Room.cutTo_spares hk (.refl _ _)
def Room.enableC : List Cell := Room.cells Room.enableW Room.enableP
theorem Room.enable_seen {e : Env} (hP : Cell.clear Room.enableC o = true) (h : Room.Seen o r u) : Room.Seen o r
    (Room.enable e u) :=
  h.of_laws hP (Room.enable_fld e u) fun _ hk => Room.enable_spares hk (.refl _ _)
def Room.enterSafeC (f : Field) : List Cell := Room.cells (Room.enterSafeW f) Room.enterSafeP
theorem Room.enterSafe_seen {e : Env} {f : Field} {retry : Bool} (hP : Cell.clear (Room.enterSafeC f) o = true)
    (h : Room.Seen o r u) : Room.Seen o r (Room.enterSafe e u f retry) :=
  h.of_laws hP (Room.enterSafe_fld e u f retry) fun _ hk => Room.enterSafe_spares hk (.refl _ _)
def Room.enterSlotHoldC : List Cell := Room.cells Room.enterSlotHoldW Room.enterSlotHoldP
theorem Room.enterSlotHold_seen {e : Env} (hP : Cell.clear Room.enterSlotHoldC o = true) (h : Room.Seen o r u) : Room.Seen
    o r (Room.enterSlotHold e u) :=
  h.of_laws hP (Room.enterSlotHold_fld e u) fun _ hk => Room.enterSlotHold_spares hk (.refl _ _)
def Room.fallBackC : List Cell := Room.cells Room.fallBackW Room.fallBackP
theorem Room.fallBack_seen {e : Env} (hP : Cell.clear Room.fallBackC o = true) (h : Room.Seen o r u) : Room.Seen o r
    (Room.fallBack e u) :=
  h.of_laws hP (Room.fallBack_fld e u) fun _ hk => Room.fallBack_spares hk (.refl _ _)
def Room.faultC (f : Field) : List Cell := Room.cells (Room.faultW f) []
theorem Room.fault_seen {f : Field} (hP : Cell.clear (Room.faultC f) o = true) (h : Room.Seen o r u) : Room.Seen o r
    (Room.fault u f) :=
  h.of_laws hP (Room.fault_fld u f) fun _ _ => Room.fault_spares (.refl _ _)
def Room.frsAnswerC : List Cell := Room.cells Room.frsAnswerW Room.frsAnswerP
theorem Room.frsAnswer_seen {e : Env} (hP : Cell.clear Room.frsAnswerC o = true) (h : Room.Seen o r u) : Room.Seen o r
    (Room.frsAnswer e u) :=
  h.of_laws hP (Room.frsAnswer_fld e u) fun _ hk => Room.frsAnswer_spares hk (.refl _ _)
def Room.loadProgramC : List Cell := Room.cells Room.loadProgramW Room.loadProgramP
theorem Room.loadProgram_seen {pr : ProgramRec} (hP : Cell.clear Room.loadProgramC o = true) (h : Room.Seen o r u) :
    Room.Seen o r (Room.loadProgram pr u) :=
  h.of_laws hP (Room.loadProgram_fld pr u) fun _ hk => Room.loadProgram_spares hk (.refl _ _)
def Room.loopOffC : List Cell := Room.cells Room.loopOffW Room.loopOffP
theorem Room.loopOff_seen (hP : Cell.clear Room.loopOffC o = true) (h : Room.Seen o r u) : Room.Seen o r (Room.loopOff u) :=
  h.of_laws hP (Room.loopOff_fld u) fun _ hk => Room.loopOff_spares hk (.refl _ _)
def Room.pinTestC : List Cell := Room.cells Room.pinTestW Room.pinTestP
theorem Room.pinTest_seen {now : Nat} {k : Nat} {bad : Bool} (hP : Cell.clear Room.pinTestC o = true)
    (h : Room.Seen o r u) : Room.Seen o r (Room.pinTest now k bad u) :=
  h.of_laws hP (Room.pinTest_fld now k bad u) fun _ hk => Room.pinTest_spares hk (.refl _ _)
def Room.preBiasC : List Cell := Room.cells Room.preBiasW Room.preBiasP
theorem Room.preBias_seen (hP : Cell.clear Room.preBiasC o = true) (h : Room.Seen o r u) : Room.Seen o r (Room.preBias u) :=
  h.of_laws hP (Room.preBias_fld u) fun _ hk => Room.preBias_spares hk (.refl _ _)
def Room.refreshIlimC : List Cell := Room.cells Room.refreshIlimW []
theorem Room.refreshIlim_seen {e : Env} (hP : Cell.clear Room.refreshIlimC o = true) (h : Room.Seen o r u) : Room.Seen o r
    (Room.refreshIlim e u) :=
  h.of_laws hP (Room.refreshIlim_fld e u) fun _ _ => Room.refreshIlim_spares (.refl _ _)
def Room.refreshVlimC : List Cell := Room.cells Room.refreshVlimW Room.refreshVlimP
theorem Room.refreshVlim_seen {e : Env} (hP : Cell.clear Room.refreshVlimC o = true) (h : Room.Seen o r u) : Room.Seen o r
    (Room.refreshVlim e u) :=
  h.of_laws hP (Room.refreshVlim_fld e u) fun _ hk => Room.refreshVlim_spares hk (.refl _ _)
def Room.restartC : List Cell := Room.cells Room.restartW Room.restartP
theorem Room.restart_seen {e : Env} (hP : Cell.clear Room.restartC o = true) (h : Room.Seen o r u) : Room.Seen o r
    (Room.restart e u) :=
  h.of_laws hP (Room.restart_fld e u) fun _ hk => Room.restart_spares hk (.refl _ _)
def Room.resumeAskC : List Cell := Room.cells Room.resumeAskW Room.resumeAskP
theorem Room.resumeAsk_seen {e : Env} (hP : Cell.clear Room.resumeAskC o = true) (h : Room.Seen o r u) : Room.Seen o r
    (Room.resumeAsk e u) :=
  h.of_laws hP (Room.resumeAsk_fld e u) fun _ hk => Room.resumeAsk_spares hk (.refl _ _)
def Room.resumeCcC : List Cell := Room.cells Room.resumeCcW Room.resumeCcP
theorem Room.resumeCc_seen {e : Env} (hP : Cell.clear Room.resumeCcC o = true) (h : Room.Seen o r u) : Room.Seen o r
    (Room.resumeCc e u) :=
  h.of_laws hP (Room.resumeCc_fld e u) fun _ hk => Room.resumeCc_spares hk (.refl _ _)
def Room.resumeRateC : List Cell := Room.cells Room.resumeRateW Room.resumeRateP
theorem Room.resumeRate_seen (hP : Cell.clear Room.resumeRateC o = true) (h : Room.Seen o r u) : Room.Seen o r
    (Room.resumeRate u) :=
  h.of_laws hP (Room.resumeRate_fld u) fun _ hk => Room.resumeRate_spares hk (.refl _ _)
def Room.senseHoldOffC : List Cell := Room.cells Room.senseHoldOffW Room.senseHoldOffP
theorem Room.senseHoldOff_seen {e : Env} (hP : Cell.clear Room.senseHoldOffC o = true) (h : Room.Seen o r u) : Room.Seen o
    r (Room.senseHoldOff e u) :=
  h.of_laws hP (Room.senseHoldOff_fld e u) fun _ hk => Room.senseHoldOff_spares hk (.refl _ _)
def Room.senseHoldOnC : List Cell := Room.cells Room.senseHoldOnW Room.senseHoldOnP
theorem Room.senseHoldOn_seen {e : Env} (hP : Cell.clear Room.senseHoldOnC o = true) (h : Room.Seen o r u) : Room.Seen o r
    (Room.senseHoldOn e u) :=
  h.of_laws hP (Room.senseHoldOn_fld e u) fun _ hk => Room.senseHoldOn_spares hk (.refl _ _)
def Room.setLoopC : List Cell := Room.cells Room.setLoopW []
theorem Room.setLoop_seen {st : Nat} (hP : Cell.clear Room.setLoopC o = true) (h : Room.Seen o r u) : Room.Seen o r
    (Room.setLoop u st) :=
  h.of_laws hP (Room.setLoop_fld u st) fun _ _ => Room.setLoop_spares (.refl _ _)
def Room.setRefC : List Cell := Room.cells Room.setRefW Room.setRefP
theorem Room.setRef_seen {uv : Nat} (hP : Cell.clear Room.setRefC o = true) (h : Room.Seen o r u) : Room.Seen o r
    (Room.setRef u uv) :=
  h.of_laws hP (Room.setRef_fld u uv) fun _ hk => Room.setRef_spares hk (.refl _ _)
def Room.showLevelC : List Cell := Room.cells Room.showLevelW []
theorem Room.showLevel_seen {e : Env} (hP : Cell.clear Room.showLevelC o = true) (h : Room.Seen o r u) : Room.Seen o r
    (Room.showLevel e u) :=
  h.of_laws hP (Room.showLevel_fld e u) fun _ _ => Room.showLevel_spares (.refl _ _)
def Room.staleTakeoverC : List Cell := Room.cells Room.staleTakeoverW Room.staleTakeoverP
theorem Room.staleTakeover_seen {e : Env} (hP : Cell.clear Room.staleTakeoverC o = true) (h : Room.Seen o r u) : Room.Seen
    o r (Room.staleTakeover e u) :=
  h.of_laws hP (Room.staleTakeover_fld e u) fun _ hk => Room.staleTakeover_spares hk (.refl _ _)
def Room.startCoreC : List Cell := Room.cells Room.startCoreW Room.startCoreP
theorem Room.startCore_seen {now : Nat} {entry : Nat} (hP : Cell.clear Room.startCoreC o = true) (h : Room.Seen o r u) :
    Room.Seen o r (Room.startCore now entry u) :=
  h.of_laws hP (Room.startCore_fld now entry u) fun _ hk => Room.startCore_spares hk (.refl _ _)
def Room.thermTripC : List Cell := Room.cells Room.thermTripW Room.thermTripP
theorem Room.thermTrip_seen {e : Env} (hP : Cell.clear Room.thermTripC o = true) (h : Room.Seen o r u) : Room.Seen o r
    (Room.thermTrip e u) :=
  h.of_laws hP (Room.thermTrip_fld e u) fun _ hk => Room.thermTrip_spares hk (.refl _ _)
def Room.toShadowC : List Cell := Room.cells Room.toShadowW Room.toShadowP
theorem Room.toShadow_seen {e : Env} (hP : Cell.clear Room.toShadowC o = true) (h : Room.Seen o r u) : Room.Seen o r
    (Room.toShadow e u) :=
  h.of_laws hP (Room.toShadow_fld e u) fun _ hk => Room.toShadow_spares hk (.refl _ _)

theorem Room.putE48_seen {a v : Nat} (ha : (Cell.roomFld (.whole a)).misses o = true)
    (hb : (Cell.roomFld (.whole (a + 4))).misses o = true) (h : Room.Seen o r u) : Room.Seen o r (Room.putE48 u a v) := by
  cases o with
  | roomPart _ k => cases k <;> exact h
  | roomFld _ g =>
    exact ((Regs.fld_set_apart _ _ _ _ hb).trans (Regs.fld_set_apart _ _ _ _ ha)).trans h
  | _ => trivial
def Room.tickC : List Cell := .roomRegs :: [RoomPart.conv].map .roomPart
def Room.pwmTickC : List Cell := [.roomFld PWM_STAT_LEVEL]
theorem Room.rampTick_spares {k : RoomPart} (hk : RoomPart.Clear [.conv] k) : Room.Spares k u (Room.rampTick u) := by
  have href (uv : Nat) : Room.Spares k u (Room.setRef u uv) := Room.setRef_spares hk (.refl k u)
  unfold Room.rampTick
  split
  · exact .refl _ _
  · refine .ite (.refl _ _) ?_
    dsimp only
    exact .ite (.onConv hk (href _)) (.onConv hk (.on (.onConv hk (href _))))
theorem Room.tick_seen {e : Env} (hP : Cell.clear Room.tickC o = true) (h : Room.Seen o r u) : Room.Seen o r
    (Room.tick e u) := by
  obtain ⟨hR, hP⟩ := Cell.clear_cons_iff.1 hP
  refine h.anyRegs hR hP fun k hk => ?_
  unfold Room.tick
  exact .onConv hk (Room.Spares.put (Room.rampTick_spares hk))
theorem Room.pwmTick_seen {e : Env} (hP : Cell.clear Room.pwmTickC o = true) (h : Room.Seen o r u) :
    Room.Seen o r (Room.pwmTick e u) := by
  obtain ⟨hP, -⟩ := Cell.clear_cons_iff.1 hP
  unfold Room.pwmTick
  exact .ite (h.off hP) h
end

/-! ## What the operations on a Landing leave in sight -/

section
variable {o : Look} {l q : Landing}

def Landing.enterC : List Cell := Landing.enterW.map .landFld
theorem Landing.enter_seen {now st : Nat} {fast : Bool} (hP : Cell.clear Landing.enterC o = true) (h : Landing.Seen o l q) :
    Landing.Seen o l (Landing.enter now q st fast) :=
  h.of_fld hP (Landing.enter_fld now q st fast)
theorem Landing.release_seen (h : Landing.Seen o l q) : Landing.Seen o l (Landing.release q) := h
theorem Landing.resume_seen (h : Landing.Seen o l q) : Landing.Seen o l (Landing.resume q) := h
def Landing.slotFaultC (f : Field) : List Cell := [.landFld f, .landFld HS_EVENT_FAULT]
theorem Landing.slotFault_seen {f : Field} (hP : Cell.clear (Landing.slotFaultC f) o = true) (h : Landing.Seen o l q) :
    Landing.Seen o l (Landing.slotFault q f) := by
  obtain ⟨hf, hP⟩ := Cell.clear_cons_iff.1 hP
  exact (h.on hf).on (Cell.clear_cons_iff.1 hP).1
def Landing.latchShortC : List Cell := .landFld HS_FAULT_SHORT_NEG :: Landing.slotFaultC HS_FAULT_SHORT
theorem Landing.latchShort_seen {neg : Bool} (hP : Cell.clear Landing.latchShortC o = true) (h : Landing.Seen o l q) :
    Landing.Seen o l (Landing.latchShort neg q) := by
  obtain ⟨hneg, hP⟩ := Cell.clear_cons_iff.1 hP
  unfold Landing.latchShort
  exact .ite ((Landing.slotFault_seen hP h).on hneg) (Landing.slotFault_seen hP h)
def Landing.applySlotC : List Cell := [.landRegs]
theorem Landing.applySlot_seen {now : Nat} {b : List Byte} (hP : Cell.clear Landing.applySlotC o = true) :
    Landing.Seen o l (Landing.applySlot now b q) :=
  .anyRegs (Cell.clear_cons_iff.1 hP).1
def Landing.tickC : List Cell := [.landFld HS_IMEAS_TIMER]
theorem Landing.tick_seen (hP : Cell.clear Landing.tickC o = true) (h : Landing.Seen o l q) : Landing.Seen o l
    (Landing.tick q) :=
  h.put (Cell.clear_cons_iff.1 hP).1
end

end Sys2Proof.Machine

namespace Sys2Proof.Machine

set_option Elab.async false

/-! ## What the operations on the state leave in sight -/

section
variable {o : Look} {s0 s : State}

theorem State.allSlots_spared  {f : State → Fin 6 → State} (hf : ∀ t b, State.Spares o s0 t → State.Spares o s0 (f t b))
    (h : State.Spares o s0 s) :
    State.Spares o s0 (State.allSlots s f) := by
  unfold State.allSlots
  repeat' first
    | with_reducible exact h | with_reducible refine hf _ _ ?_ | with_reducible refine State.Spares.ite ?_ ?_
    | with_reducible refine State.Spares.foldl (fun _ _ h => ?_) ?_

def State.gangLevelC : List Cell := [.rooms] ++ Room.showLevelC
theorem State.gangLevel_spared {p : Fin 48} (hP : Cell.clear State.gangLevelC o = true) (h : State.Spares o s0 s) :
    State.Spares o s0 (State.gangLevel s p) := by
  simp only [State.gangLevelC, Cell.clear_append_iff, Cell.clear_cons_iff, Cell.clear_nil_iff] at hP
  unfold State.gangLevel
  repeat' first
    | with_reducible exact h
    | with_reducible refine State.Spares.onRoomE (Cell.roomAt_of_rooms (by simp only [hP]) _) (fun e r => ?_) ?_
    | with_reducible refine Room.showLevel_seen (by simp only [hP]) ?_
    | with_reducible refine State.Spares.foldl (fun _ _ h => ?_) ?_ | with_reducible exact Room.Seen.refl _ _

def State.holdSlotC : List Cell := [.rooms] ++ Room.enterSlotHoldC ++ State.gangLevelC
theorem State.holdSlot_spared {b : Fin 6} (hP : Cell.clear State.holdSlotC o = true) (h : State.Spares o s0 s) :
    State.Spares o s0 (State.holdSlot s b) := by
  simp only [State.holdSlotC, Cell.clear_append_iff, Cell.clear_cons_iff, Cell.clear_nil_iff] at hP
  unfold State.holdSlot
  repeat' first
    | with_reducible exact h | with_reducible refine State.gangLevel_spared (by simp only [hP]) ?_
    | with_reducible refine State.Spares.onRoomE (Cell.roomAt_of_rooms (by simp only [hP]) _) (fun e r => ?_) ?_
    | with_reducible refine Room.enterSlotHold_seen (by simp only [hP]) ?_
    | with_reducible refine State.Spares.ite ?_ ?_ | with_reducible refine State.Spares.foldl (fun _ _ h => ?_) ?_
    | with_reducible exact Room.Seen.refl _ _

def State.slotToC : List Cell := [.lands] ++ Landing.enterC ++ State.holdSlotC
theorem State.slotTo_spared {b : Fin 6} {st : Nat} {fast : Bool} (hP : Cell.clear State.slotToC o = true)
    (h : State.Spares o s0 s) :
    State.Spares o s0 (State.slotTo s b st fast) := by
  simp only [State.slotToC, Cell.clear_append_iff, Cell.clear_cons_iff, Cell.clear_nil_iff] at hP
  unfold State.slotTo
  dsimp only
  repeat' first
    | with_reducible exact h | with_reducible refine State.holdSlot_spared (by simp only [hP]) ?_
    | with_reducible refine State.Spares.onLand (by simp only [hP]) (fun l => ?_) ?_
    | with_reducible refine Landing.enter_seen (by simp only [hP]) ?_ | with_reducible refine Landing.release_seen ?_
    | with_reducible refine State.Spares.ite ?_ ?_ | with_reducible exact Landing.Seen.refl _ _
    | with_reducible refine Landing.Seen.ite ?_ ?_

def State.slotExitC : List Cell := [.lands] ++ State.slotToC
theorem State.slotExit_spared {b : Fin 6} (hP : Cell.clear State.slotExitC o = true) (h : State.Spares o s0 s) :
    State.Spares o s0 (State.slotExit s b) := by
  simp only [State.slotExitC, Cell.clear_append_iff, Cell.clear_cons_iff, Cell.clear_nil_iff] at hP
  unfold State.slotExit
  dsimp only
  repeat' first
    | with_reducible exact h | with_reducible refine State.slotTo_spared (by simp only [hP]) ?_
    | with_reducible refine State.Spares.onLand (by simp only [hP]) (fun l => ?_) ?_
    | with_reducible refine State.Spares.ite ?_ ?_ | with_reducible exact Landing.Seen.refl _ _
    | with_reducible refine Landing.Seen.ite ?_ ?_ | split | with_reducible refine Landing.Seen.mk ?_
    | with_reducible refine Landing.landRegs_of_seen ?_

def State.abortEntryC : List Cell :=
  [.part .clk, .reg PWR_CTRL_REQ, .reg PWR_STAT_STATE, .reg PWR_STAT_ABORTED, .reg PWR_STAT_PENDING] ++
    State.slotExitC ++ State.slotToC
theorem State.abortEntry_spared (hP : Cell.clear State.abortEntryC o = true) (h : State.Spares o s0 s) :
    State.Spares o s0 (State.abortEntry s) := by
  simp only [State.abortEntryC, Cell.clear_append_iff, Cell.clear_cons_iff, Cell.clear_nil_iff] at hP
  unfold State.abortEntry
  dsimp only
  repeat' first
    | with_reducible exact h | with_reducible refine State.slotExit_spared (by simp only [hP]) ?_
    | with_reducible refine State.slotTo_spared (by simp only [hP]) ?_
    | with_reducible refine State.allSlots_spared (fun _ _ h => ?_) ?_
    | with_reducible refine State.Spares.onClk (by simp only [hP]) ?_
    | with_reducible refine State.Spares.put (by simp only [hP]) ?_
    | with_reducible refine State.Spares.on (by simp only [hP]) ?_
    | with_reducible refine State.Spares.off (by simp only [hP]) ?_ | with_reducible refine State.Spares.ite ?_ ?_

def State.accessErrC : List Cell := [.part .rerr, .part .hallErr]
theorem State.accessErr_spared {r : Req} (hP : Cell.clear State.accessErrC o = true) (h : State.Spares o s0 s) :
    State.Spares o s0 (State.accessErr s r) := by
  simp only [State.accessErrC, Cell.clear_cons_iff, Cell.clear_nil_iff] at hP
  exact h.errs (by simp only [hP]) (by simp only [hP])

/-- What a write of a whole register bank can change. -/
def State.bankC : List Cell := [.regs, .rooms, .roomRegs, .lands, .landRegs, .wings, .wingRegs]
theorem State.setBank_spared {l : Loc} {m : Regs} (hP : Cell.clear State.bankC o = true) (h : State.Spares o s0 s) :
    State.Spares o s0 (State.setBank s l m) := by
  simp only [State.bankC, Cell.clear_cons_iff, Cell.clear_nil_iff] at hP
  unfold State.setBank
  cases l with
  | hall a =>
    exact h.anyRegs (by simp only [hP])
  | wing w a => exact h.onWingAny (by simp only [hP]) (by simp only [hP])
  | land b a => exact h.onLandAny (by simp only [hP]) (by simp only [hP])
  | roomReg p a =>
    exact h.onRoom (Cell.roomAt_of_rooms (by simp only [hP]) _) fun _ =>
      .anyRegs (p := []) (by simp only [hP]) rfl (fun _ _ => Room.Spares.regs (.refl _ _)) (.refl _ _)
  | _ => exact h
theorem State.setTmrRegs_spared {k : TmrBlock} {m : Regs} (hP : Cell.clear State.bankC o = true) (h : State.Spares o s0 s) :
    State.Spares o s0 (State.setTmrRegs s k m) := by
  simp only [State.bankC, Cell.clear_cons_iff, Cell.clear_nil_iff] at hP
  unfold State.setTmrRegs
  cases k with
  | room p =>
    exact h.onRoom (Cell.roomAt_of_rooms (by simp only [hP]) _) fun _ =>
      .anyRegs (p := []) (by simp only [hP]) rfl (fun _ _ => Room.Spares.regs (.refl _ _)) (.refl _ _)
  | land b => exact h.onLandAny (by simp only [hP]) (by simp only [hP])

def State.readRegC : List Cell := [.part .mode, .regs] ++ State.bankC
theorem State.readReg_spared {l : Loc} (hP : Cell.clear State.readRegC o = true) (h : State.Spares o s0 s) :
    State.Spares o s0 (State.readReg s l).2 := by
  simp only [State.readRegC, Cell.clear_append_iff, Cell.clear_cons_iff, Cell.clear_nil_iff] at hP
  have hrc : State.Spares o s0 (s.rcRead l) := State.setBank_spared (by simp only [hP]) h
  unfold State.readReg
  dsimp only
  split
  · exact .ite (hrc.mode (by simp only [hP])) (.ite (State.Spares.anyRegs (by simp only [hP]) hrc)
      (.ite (State.Spares.anyRegs (by simp only [hP]) hrc) (.ite (State.Spares.anyRegs (by simp only [hP]) hrc) hrc)))
  · exact hrc

def State.busGrantC : List Cell := [.part .rerr, .part .hallErr, .part .lastExt, .wings]
theorem State.busGrant_spared {r : Req} {l : Option Loc} (hP : Cell.clear State.busGrantC o = true)
    (h : State.Spares o s0 s) :
    State.Spares o s0 (State.busGrant s r l) := by
  simp only [State.busGrantC, Cell.clear_cons_iff, Cell.clear_nil_iff] at hP
  have herr {x y : Bool} : State.Spares o s0 { s with rerr := x, hallErr := y } :=
    h.errs (by simp only [hP]) (by simp only [hP])
  unfold State.busGrant
  dsimp only
  split
  · split
    · exact herr.onWing (by simp only [hP]) fun _ => .mk (Wing.wingRegs_of_seen (.refl _ _))
    · exact h.granted (by simp only [hP]) (by simp only [hP]) (by simp only [hP])
  · exact herr

def State.busLoadC : List Cell := .part .rdata :: State.busGrantC ++ State.readRegC
theorem State.busLoad_spared {r : Req} {addr size : Nat} (hP : Cell.clear State.busLoadC o = true) (h : State.Spares o s0 s) :
    State.Spares o s0 (State.busLoad s r addr size) := by
  simp only [State.busLoadC, Cell.clear_append_iff, Cell.clear_cons_iff] at hP
  have hacc : Cell.clear State.accessErrC o = true := by
    simp only [State.busGrantC, Cell.clear_cons_iff] at hP
    simp only [State.accessErrC, Cell.clear_cons_iff, hP, and_self]
  have hgrant := State.busGrant_spared (r := r) (l := locate addr) (by simp only [hP]) h
  have hdata {t : State} {x : Word} (ht : State.Spares o s0 t) : State.Spares o s0 { t with rdata := x } := ht.rdata
    (by simp only [hP])
  have herr {x : Word} : State.Spares o s0 { (s.busGrant r (locate addr)).accessErr r with rdata := x } :=
    hdata (State.accessErr_spared hacc hgrant)
  unfold State.busLoad
  dsimp only
  split
  · exact herr
  iterate 5
    · exact hdata hgrant
  · exact .ite herr (.ite (hdata (State.readReg_spared (by simp only [hP]) hgrant)) (hdata hgrant))

def State.free?C : List Cell := [.part .freeCtr]
theorem State.free?_spared (hP : Cell.clear State.free?C o = true) (h : State.Spares o s0 s) :
    State.Spares o s0 (State.free? s).2 := by
  simp only [State.free?C, Cell.clear_cons_iff, Cell.clear_nil_iff] at hP
  unfold State.free?
  repeat' first
    | with_reducible exact h | with_reducible refine State.Spares.freeCtr (by simp only [hP]) ?_

def State.freeBytesC : List Cell := [.part .freeCtr]
theorem State.freeBytes_spared  {k : Nat} (hP : Cell.clear State.freeBytesC o = true) (h : State.Spares o s0 s) :
    State.Spares o s0 (State.freeBytes s k).2 := by
  induction k generalizing s with
  | zero => exact h
  | succ k ih => exact ih (State.free?_spared hP h)

def State.progCutC : List Cell := [.part .cellar] ++ State.freeBytesC
theorem State.progCut_spared {a : Nat} {b : List Byte} (hP : Cell.clear State.progCutC o = true) (h : State.Spares o s0 s) :
    State.Spares o s0 (State.progCut s a b) := by
  simp only [State.progCutC, Cell.clear_append_iff, Cell.clear_cons_iff, Cell.clear_nil_iff] at hP
  unfold State.progCut
  dsimp only
  repeat' first
    | with_reducible exact h | with_reducible refine State.freeBytes_spared (by simp only [hP]) ?_
    | with_reducible refine State.Spares.cellar (by simp only [hP]) ?_

def State.writeBrecC : List Cell := [.part .cellar, .reg CEL_STAT_BREC_COPY] ++ State.progCutC
theorem State.writeBrec_spared {fw : Nat} {plan : Nat} {trial : Nat} {left : Nat} {ok : Bool}
    (hP : Cell.clear State.writeBrecC o = true) (h : State.Spares o s0 s) :
    State.Spares o s0 (State.writeBrec s fw plan trial left ok) := by
  simp only [State.writeBrecC, Cell.clear_append_iff, Cell.clear_cons_iff, Cell.clear_nil_iff] at hP
  unfold State.writeBrec
  dsimp only
  repeat' first
    | with_reducible exact h | with_reducible refine State.progCut_spared (by simp only [hP]) ?_
    | with_reducible refine State.Spares.put (by simp only [hP]) ?_ | with_reducible refine State.Spares.ite ?_ ?_
    | split | with_reducible refine State.Spares.cellar (by simp only [hP]) ?_

def State.recordStagedC : List Cell := State.writeBrecC
theorem State.recordStaged_spared {ok : Bool} (hP : Cell.clear State.recordStagedC o = true) (h : State.Spares o s0 s) :
    State.Spares o s0 (State.recordStaged s ok) := by
  simp only [State.recordStagedC] at hP
  unfold State.recordStaged
  dsimp only
  repeat' first
    | with_reducible exact h | with_reducible refine State.writeBrec_spared (by simp only [hP]) ?_

def State.recordUseC : List Cell := State.writeBrecC
theorem State.recordUse_spared {ok : Bool} (hP : Cell.clear State.recordUseC o = true) (h : State.Spares o s0 s) :
    State.Spares o s0 (State.recordUse s ok) := by
  simp only [State.recordUseC] at hP
  unfold State.recordUse
  repeat' first
    | with_reducible exact h | with_reducible refine State.writeBrec_spared (by simp only [hP]) ?_

def State.unscheduleC : List Cell :=
  [.part .porch, .reg UPD_AT_HI_AT, .reg UPD_AT_LO_AT, .reg UPD_STAT_DEFERRING, .reg UPD_STAT_SCHEDULED]
theorem State.unschedule_spared (hP : Cell.clear State.unscheduleC o = true) (h : State.Spares o s0 s) :
    State.Spares o s0 (State.unschedule s) := by
  simp only [State.unscheduleC, Cell.clear_cons_iff, Cell.clear_nil_iff] at hP
  unfold State.unschedule
  repeat' first
    | with_reducible exact h | with_reducible refine State.Spares.onPorch (by simp only [hP]) ?_
    | with_reducible refine State.Spares.off (by simp only [hP]) ?_

def State.fwPostC : List Cell := [.reg HL_POST_STAT_RESULT0, .reg HL_POST_STAT_RESULT1]
theorem State.fwPost_spared {mask : Nat} {p : Posting} (hP : Cell.clear State.fwPostC o = true) (h : State.Spares o s0 s) :
    State.Spares o s0 (State.fwPost s mask p) := by
  simp only [State.fwPostC, Cell.clear_cons_iff, Cell.clear_nil_iff] at hP
  unfold State.fwPost
  refine State.Spares.foldl (fun t n h => ?_) h
  split
  · refine State.Spares.put ?_ h.onLink
    split <;> simp only [hP]
  · exact h

def State.versionBytesC : List Cell := State.freeBytesC
theorem State.versionBytes_spared {v : Option Nat} (hP : Cell.clear State.versionBytesC o = true) (h : State.Spares o s0 s) :
    State.Spares o s0 (State.versionBytes s v).2 := by
  simp only [State.versionBytesC] at hP
  unfold State.versionBytes
  repeat' first
    | with_reducible exact h | with_reducible refine State.freeBytes_spared (by simp only [hP]) ?_ | split

def State.updateC : List Cell := [.reg UPD_STAT_LAST] ++ State.fwPostC ++ State.versionBytesC
theorem State.update_spared {code : Nat} {kinds : Nat} {result : Nat} {fw : Option Nat} {plan : Option Nat}
    (hP : Cell.clear State.updateC o = true) (h : State.Spares o s0 s) :
    State.Spares o s0 (State.update s code kinds result fw plan) := by
  simp only [State.updateC, Cell.clear_append_iff, Cell.clear_cons_iff, Cell.clear_nil_iff] at hP
  unfold State.update
  dsimp only
  repeat' first
    | with_reducible exact h | with_reducible refine State.fwPost_spared (by simp only [hP]) ?_
    | with_reducible refine State.versionBytes_spared (by simp only [hP]) ?_
    | with_reducible refine State.Spares.put (by simp only [hP]) ?_

def State.updateStagedC : List Cell := State.updateC
theorem State.updateStaged_spared {code : Nat} {result : Nat} (hP : Cell.clear State.updateStagedC o = true)
    (h : State.Spares o s0 s) :
    State.Spares o s0 (State.updateStaged s code result) := by
  simp only [State.updateStagedC] at hP
  unfold State.updateStaged
  repeat' first
    | with_reducible exact h | with_reducible refine State.update_spared (by simp only [hP]) ?_

def State.activateC : List Cell :=
  [.reg UPD_AT_HI_AT, .reg UPD_AT_LO_AT, .reg UPD_STAT_SCHEDULED] ++ State.recordStagedC ++ State.recordUseC ++
    State.unscheduleC ++ State.updateStagedC
theorem State.activate_spared {at' : Nat} {ok : Bool} (hP : Cell.clear State.activateC o = true) (h : State.Spares o s0 s) :
    State.Spares o s0 (State.activate s at' ok).2 := by
  simp only [State.activateC, Cell.clear_append_iff, Cell.clear_cons_iff, Cell.clear_nil_iff] at hP
  unfold State.activate
  dsimp only
  repeat' first
    | with_reducible exact h | with_reducible refine State.recordStaged_spared (by simp only [hP]) ?_
    | with_reducible refine State.recordUse_spared (by simp only [hP]) ?_
    | with_reducible refine State.unschedule_spared (by simp only [hP]) ?_
    | with_reducible refine State.updateStaged_spared (by simp only [hP]) ?_
    | with_reducible refine State.Spares.put (by simp only [hP]) ?_
    | with_reducible refine State.Spares.on (by simp only [hP]) ?_ | with_reducible refine State.Spares.ite ?_ ?_
    | split

def State.atticShowC : List Cell :=
  [.reg ATTIC_STAT_DBG_DISABLE, .reg ATTIC_STAT_SECRET_VALID, .reg ATTIC_STAT_KEY_VALID, .reg ATTIC_CTR_REVOKE,
    .reg ATTIC_CTR_PLAN, .reg ATTIC_CTR_FW]
theorem State.atticShow_spared (hP : Cell.clear State.atticShowC o = true) (h : State.Spares o s0 s) :
    State.Spares o s0 (State.atticShow s) := by
  simp only [State.atticShowC, Cell.clear_cons_iff, Cell.clear_nil_iff] at hP
  unfold State.atticShow
  dsimp only
  repeat' first
    | with_reducible exact h | with_reducible refine State.Spares.putB (by simp only [hP]) ?_
    | with_reducible refine State.Spares.put (by simp only [hP]) ?_

def State.fuseResultC : List Cell :=
  [.reg ATTIC_RESULT_PULSES, .reg ATTIC_RESULT_DONE, .reg ATTIC_RESULT_OP, .reg ATTIC_RESULT_RESULT]
theorem State.fuseResult_spared {code : Nat} {op : Nat} {pulses : Nat} (hP : Cell.clear State.fuseResultC o = true)
    (h : State.Spares o s0 s) :
    State.Spares o s0 (State.fuseResult s code op pulses) := by
  simp only [State.fuseResultC, Cell.clear_cons_iff, Cell.clear_nil_iff] at hP
  unfold State.fuseResult
  repeat' first
    | with_reducible exact h | with_reducible refine State.Spares.put (by simp only [hP]) ?_
    | with_reducible refine State.Spares.on (by simp only [hP]) ?_

def State.fuseEndC : List Cell :=
  [.part .attic, .reg ATTIC_MARGIN_WEAK, .reg ATTIC_STAT_BUSY] ++
    (List.range 8).map (fun i => .reg (.whole (0x40020 + 4 * i))) ++ State.atticShowC ++ State.fuseResultC
theorem State.fuseEnd_spared {c : FuseCmd} {abort : Option Nat} {bad : List (Nat × Bool × Word)}
    (hP : Cell.clear State.fuseEndC o = true) (h : State.Spares o s0 s) :
    State.Spares o s0 (State.fuseEnd s c abort bad) := by
  simp only [State.fuseEndC, Cell.clear_append_iff, Cell.clear_cons_iff, Cell.clear_nil_iff] at hP
  unfold State.fuseEnd
  dsimp only
  refine State.atticShow_spared (by simp only [hP]) (.ite (State.Spares.setAll (by simp only [hP]) ?_) ?_)
  all_goals
    refine State.Spares.put (by simp only [hP]) (State.fuseResult_spared (by simp only [hP]) ?_)
    exact State.Spares.off (by simp only [hP]) (h.attic (by simp only [hP]))

def State.updateUseC : List Cell := State.updateC
theorem State.updateUse_spared {code : Nat} {kinds : Nat} {result : Nat} (hP : Cell.clear State.updateUseC o = true)
    (h : State.Spares o s0 s) :
    State.Spares o s0 (State.updateUse s code kinds result) := by
  simp only [State.updateUseC] at hP
  unfold State.updateUse
  dsimp only
  repeat' first
    | with_reducible exact h | with_reducible refine State.update_spared (by simp only [hP]) ?_

def State.advanceKindC : List Cell := State.fuseEndC ++ State.fuseResultC ++ State.updateUseC
theorem State.advanceKind_spared {kind : Nat} {vpp : Bool} {vdd : Bool} (hP : Cell.clear State.advanceKindC o = true)
    (h : State.Spares o s0 s) :
    State.Spares o s0 (State.advanceKind s kind vpp vdd) := by
  simp only [State.advanceKindC, Cell.clear_append_iff] at hP
  unfold State.advanceKind
  dsimp only
  repeat' first
    | with_reducible exact h | with_reducible refine State.fuseEnd_spared (by simp only [hP]) ?_
    | with_reducible refine State.fuseResult_spared (by simp only [hP]) ?_
    | with_reducible refine State.updateUse_spared (by simp only [hP]) ?_
    | with_reducible refine State.Spares.ite ?_ ?_

def State.onCoreOfC : List Cell := [.part .hall, .rooms, .roomPart .core]
theorem State.onCoreOf_spared {c : CoreId} {f : Core → Core} (hP : Cell.clear State.onCoreOfC o = true)
    (h : State.Spares o s0 s) :
    State.Spares o s0 (State.onCoreOf s c f) := by
  simp only [State.onCoreOfC, Cell.clear_cons_iff, Cell.clear_nil_iff] at hP
  unfold State.onCoreOf
  repeat' first
    | with_reducible exact h
    | with_reducible refine State.Spares.onRoom (Cell.roomAt_of_rooms (by simp only [hP]) _) (fun r => ?_) ?_
    | with_reducible refine Room.Seen.onCore (by simp only [hP]) ?_ | with_reducible exact Room.Seen.refl _ _ | split
    | with_reducible refine State.Spares.hall (by simp only [hP]) ?_

def State.resumeCoreC : List Cell :=
  [.part .hbeatAt, .part .hbMissed, .rooms, .roomFld STATUS_CORE_ALIVE, .roomPart .kickAt] ++ State.onCoreOfC
theorem State.resumeCore_spared {c : CoreId} (hP : Cell.clear State.resumeCoreC o = true) (h : State.Spares o s0 s) :
    State.Spares o s0 (State.resumeCore s c) := by
  simp only [State.resumeCoreC, Cell.clear_append_iff, Cell.clear_cons_iff, Cell.clear_nil_iff] at hP
  have hcore : State.Spares o s0 (s.onCoreOf c fun k => { k with halted := false, stepping := false, pass := true }) :=
    State.onCoreOf_spared (by simp only [hP]) h
  unfold State.resumeCore
  dsimp only
  split
  · cases c with
    | room p =>
      exact State.Spares.onRoom (Cell.roomAt_of_rooms (by simp only [hP]) _)
        (fun r => .kickAt (by simp only [hP]) (.on (by simp only [hP]) (.refl _ _))) hcore
    | hall => exact .ite (hcore.hbeat (by simp only [hP]) (by simp only [hP])) hcore
  · exact h

def State.closeDebugC : List Cell :=
  [.part .hall, .rooms, .roomPart .core, .regs] ++ (List.range 4).map (fun k => .roomFld (BKPT_EN.shift (4 * k))) ++
    State.resumeCoreC
theorem State.closeDebug_spared (hP : Cell.clear State.closeDebugC o = true) (h : State.Spares o s0 s) :
    State.Spares o s0 (State.closeDebug s) := by
  simp only [State.closeDebugC, Cell.clear_append_iff, Cell.clear_cons_iff, Cell.clear_nil_iff] at hP
  have hlist : Cell.clear ((List.range 4).map fun k => .roomFld (BKPT_EN.shift (4 * k))) o = true := (by simp only [hP])
  have hoff : ∀ k ∈ List.range 4, Cell.misses (.roomFld (BKPT_EN.shift (4 * k))) o = true := fun k hk =>
    List.all_eq_true.1 hlist _ (List.mem_map.2 ⟨k, hk, rfl⟩)
  unfold State.closeDebug
  dsimp only
  refine State.Spares.regsHall (by simp only [hP]) (by simp only [hP])
    (State.Spares.mapRooms (by simp only [hP]) (fun _ r => ?_) ?_)
  · have hcore : Room.Seen o r { r with core := { r.core with cause := 0, bkpt := 0 } } := .core (by simp only [hP])
        (.refl _ _)
    exact Room.Seen.foldlMem (fun _ k hk hq => hq.off (hoff k hk)) hcore
  · exact State.Spares.foldl (fun _ _ h => State.resumeCore_spared (by simp only [hP]) h) h

def State.setLocksC : List Cell := [.reg ATTIC_LOCK_LOCK] ++ State.closeDebugC
theorem State.setLocks_spared {v : Nat} (hP : Cell.clear State.setLocksC o = true) (h : State.Spares o s0 s) :
    State.Spares o s0 (State.setLocks s v) := by
  simp only [State.setLocksC, Cell.clear_append_iff, Cell.clear_cons_iff, Cell.clear_nil_iff] at hP
  unfold State.setLocks
  dsimp only
  repeat' first
    | with_reducible exact h | with_reducible refine State.closeDebug_spared (by simp only [hP]) ?_
    | with_reducible refine State.Spares.put (by simp only [hP]) ?_ | with_reducible refine State.Spares.ite ?_ ?_

def State.advanceKindsC : List Cell := [.part .porch] ++ State.advanceKindC ++ State.setLocksC
theorem State.advanceKinds_spared {kinds : Nat} {vpp : Bool} {vdd : Bool} (hP : Cell.clear State.advanceKindsC o = true)
    (h : State.Spares o s0 s) :
    State.Spares o s0 (State.advanceKinds s kinds vpp vdd) := by
  simp only [State.advanceKindsC, Cell.clear_append_iff, Cell.clear_cons_iff, Cell.clear_nil_iff] at hP
  unfold State.advanceKinds
  dsimp only
  repeat' first
    | with_reducible exact h | with_reducible refine State.advanceKind_spared (by simp only [hP]) ?_
    | with_reducible refine State.setLocks_spared (by simp only [hP]) ?_
    | with_reducible refine State.Spares.onPorch (by simp only [hP]) ?_ | with_reducible refine State.Spares.ite ?_ ?_

def State.answerC : List Cell := [.rooms, .roomFld GRANT_ASK_STATE, .roomFld GRANT_RESV_W, .roomPart .con]
theorem State.answer_spared {p : Fin 48} {ask : Nat} (hP : Cell.clear State.answerC o = true) (h : State.Spares o s0 s) :
    State.Spares o s0 (State.answer s p ask) := by
  simp only [State.answerC, Cell.clear_cons_iff, Cell.clear_nil_iff] at hP
  unfold State.answer
  dsimp only
  repeat' first
    | with_reducible exact h
    | with_reducible refine State.Spares.onRoom (Cell.roomAt_of_rooms (by simp only [hP]) _) (fun r => ?_) ?_
    | with_reducible refine Room.Seen.put (by simp only [hP]) ?_
    | with_reducible refine Room.Seen.onCon (by simp only [hP]) ?_ | with_reducible exact Room.Seen.refl _ _

def State.answerAskC : List Cell := [.rooms] ++ Room.frsAnswerC ++ State.answerC
theorem State.answerAsk_spared {p : Fin 48} (hP : Cell.clear State.answerAskC o = true) (h : State.Spares o s0 s) :
    State.Spares o s0 (State.answerAsk s p) := by
  simp only [State.answerAskC, Cell.clear_append_iff, Cell.clear_cons_iff, Cell.clear_nil_iff] at hP
  unfold State.answerAsk
  repeat' first
    | with_reducible exact h | with_reducible refine State.answer_spared (by simp only [hP]) ?_
    | with_reducible refine State.Spares.onRoomE (Cell.roomAt_of_rooms (by simp only [hP]) _) (fun e r => ?_) ?_
    | with_reducible refine Room.frsAnswer_seen (by simp only [hP]) ?_ | with_reducible refine State.Spares.ite ?_ ?_
    | with_reducible exact Room.Seen.refl _ _ | with_reducible refine Room.Seen.ite ?_ ?_

def State.answerAttachC : List Cell := [.rooms] ++ Room.attachAnswerC
theorem State.answerAttach_spared {p : Fin 48} (hP : Cell.clear State.answerAttachC o = true) (h : State.Spares o s0 s) :
    State.Spares o s0 (State.answerAttach s p) := by
  simp only [State.answerAttachC, Cell.clear_append_iff, Cell.clear_cons_iff, Cell.clear_nil_iff] at hP
  unfold State.answerAttach
  dsimp only
  repeat' first
    | with_reducible exact h
    | with_reducible refine State.Spares.onRoomE (Cell.roomAt_of_rooms (by simp only [hP]) _) (fun e r => ?_) ?_
    | with_reducible refine Room.attachAnswer_seen (by simp only [hP]) ?_ | with_reducible exact Room.Seen.refl _ _

def State.answerChargerC : List Cell := [.part .chgGrant]
theorem State.answerCharger_spared {ask : Nat} (hP : Cell.clear State.answerChargerC o = true) (h : State.Spares o s0 s) :
    State.Spares o s0 (State.answerCharger s ask) := by
  simp only [State.answerChargerC, Cell.clear_cons_iff, Cell.clear_nil_iff] at hP
  unfold State.answerCharger
  dsimp only
  repeat' first
    | with_reducible exact h | with_reducible refine State.Spares.chgGrant (by simp only [hP]) ?_

def State.refreshChgC : List Cell := [.part .pantry, .reg CHG_STAT_CHG_I]
theorem State.refreshChg_spared (hP : Cell.clear State.refreshChgC o = true) (h : State.Spares o s0 s) :
    State.Spares o s0 (State.refreshChg s) := by
  simp only [State.refreshChgC, Cell.clear_cons_iff, Cell.clear_nil_iff] at hP
  unfold State.refreshChg
  dsimp only
  repeat' first
    | with_reducible exact h | with_reducible refine State.Spares.onPan (by simp only [hP]) ?_
    | with_reducible refine State.Spares.put (by simp only [hP]) ?_ | with_reducible refine State.Spares.ite ?_ ?_

def State.answerChgC : List Cell := [.part .pantry] ++ State.answerChargerC ++ State.refreshChgC
theorem State.answerChg_spared (hP : Cell.clear State.answerChgC o = true) (h : State.Spares o s0 s) :
    State.Spares o s0 (State.answerChg s) := by
  simp only [State.answerChgC, Cell.clear_append_iff, Cell.clear_cons_iff, Cell.clear_nil_iff] at hP
  unfold State.answerChg
  repeat' first
    | with_reducible exact h | with_reducible refine State.answerCharger_spared (by simp only [hP]) ?_
    | with_reducible refine State.refreshChg_spared (by simp only [hP]) ?_
    | with_reducible refine State.Spares.onPan (by simp only [hP]) ?_ | split

def State.applyEnergyC : List Cell :=
  [.rooms, .roomFld (.whole 0x3C0), .roomFld (.whole 0x3C4), .roomFld (.whole 0x3C8), .roomFld (.whole 0x3CC)]
theorem State.applyEnergy_spared {p : Nat} {b : List Byte} (hP : Cell.clear State.applyEnergyC o = true)
    (h : State.Spares o s0 s) :
    State.Spares o s0 (State.applyEnergy s p b) := by
  simp only [State.applyEnergyC, Cell.clear_cons_iff, Cell.clear_nil_iff] at hP
  unfold State.applyEnergy
  refine State.Spares.foldl (fun t i h => h.onRoom (Cell.roomAt_of_rooms (by simp only [hP]) _) fun r => ?_) h
  exact Room.putE48_seen (by simp only [hP]) (by simp only [hP])
    (Room.putE48_seen (by simp only [hP]) (by simp only [hP]) (.refl _ _))

def State.applyHallC : List Cell :=
  [.part .mode, .part .pantry, .reg HALL_MODE_SRC, .wings, .regs, .wings, .wingRegs]
theorem State.applyHall_spared {b : List Byte} (hP : Cell.clear State.applyHallC o = true) (h : State.Spares o s0 s) :
    State.Spares o s0 (State.applyHall s b) := by
  simp only [State.applyHallC, Cell.clear_cons_iff, Cell.clear_nil_iff] at hP
  unfold State.applyHall
  dsimp only
  refine State.Spares.pantry (by simp only [hP])
    (State.Spares.foldl (fun t k h => h.onWing (by simp only [hP]) fun _ => .anyRegs (by simp only [hP])) (.anyRegs (by
      simp only [hP]) ?_))
  repeat' first
    | with_reducible exact h | with_reducible refine State.Spares.put (by simp only [hP]) ?_ | with_reducible refine State.Spares.ite ?_ ?_
    | with_reducible refine State.Spares.mode (by simp only [hP]) ?_ | with_reducible refine State.Spares.anyRegs (by simp only [hP]) ?_

def State.setModelC : List Cell := [.part .hearth]
theorem State.setModel_spared {m : Nat} {x : Model} (hP : Cell.clear State.setModelC o = true) (h : State.Spares o s0 s) :
    State.Spares o s0 (State.setModel s m x) := by
  simp only [State.setModelC, Cell.clear_cons_iff, Cell.clear_nil_iff] at hP
  unfold State.setModel
  repeat' first
    | with_reducible exact h | with_reducible refine State.Spares.hearth (by simp only [hP]) ?_

def State.showModelC : List Cell :=
  [.reg HEARTH_DIE_PWR, .reg HEARTH_DIE_TJ, .reg HEARTH_STAT_DIE_STATE, .rooms, .roomFld HRT_TEMP_PWR,
    .roomFld HRT_TEMP_TJ, .roomFld HRT_STAT_REF_FB, .roomFld HRT_STAT_GRACE_SPENT, .roomFld HRT_STAT_STATE,
    .roomFld HRT_STAT_ITH, .roomFld HRT_STAT_GRACE_LEFT]
theorem State.showModel_spared {m : Nat} (hP : Cell.clear State.showModelC o = true) (h : State.Spares o s0 s) :
    State.Spares o s0 (State.showModel s m) := by
  simp only [State.showModelC, Cell.clear_cons_iff, Cell.clear_nil_iff] at hP
  unfold State.showModel
  dsimp only
  repeat' first
    | with_reducible exact h
    | with_reducible refine State.Spares.onRoom (Cell.roomAt_of_rooms (by simp only [hP]) _) (fun r => ?_) ?_
    | with_reducible refine Room.Seen.put (by simp only [hP]) ?_
    | with_reducible refine Room.Seen.putB (by simp only [hP]) ?_
    | with_reducible refine State.Spares.put (by simp only [hP]) ?_ | with_reducible refine State.Spares.ite ?_ ?_
    | with_reducible exact Room.Seen.refl _ _

def State.applyHearthEntryC : List Cell := State.setModelC ++ State.showModelC
theorem State.applyHearthEntry_spared {m : Nat} {b : List Byte} (hP : Cell.clear State.applyHearthEntryC o = true)
    (h : State.Spares o s0 s) :
    State.Spares o s0 (State.applyHearthEntry s m b) := by
  simp only [State.applyHearthEntryC, Cell.clear_append_iff] at hP
  unfold State.applyHearthEntry
  dsimp only
  repeat' first
    | with_reducible exact h | with_reducible refine State.setModel_spared (by simp only [hP]) ?_
    | with_reducible refine State.showModel_spared (by simp only [hP]) ?_
    | with_reducible refine State.Spares.ite ?_ ?_ | with_reducible refine State.Spares.foldl (fun _ _ h => ?_) ?_
    | split

def State.applyHearthC : List Cell := State.applyHearthEntryC
theorem State.applyHearth_spared {m : Nat} {b : List Byte} (hP : Cell.clear State.applyHearthC o = true)
    (h : State.Spares o s0 s) :
    State.Spares o s0 (State.applyHearth s m b) := by
  simp only [State.applyHearthC] at hP
  unfold State.applyHearth
  repeat' first
    | with_reducible exact h | with_reducible refine State.applyHearthEntry_spared (by simp only [hP]) ?_
    | with_reducible refine State.Spares.foldl (fun _ _ h => ?_) ?_

def State.applyLoopC : List Cell := [.part .pair, .lands]
theorem State.applyLoop_spared {b : Fin 6} {x : List Byte} (hP : Cell.clear State.applyLoopC o = true)
    (h : State.Spares o s0 s) :
    State.Spares o s0 (State.applyLoop s b x) := by
  simp only [State.applyLoopC, Cell.clear_cons_iff, Cell.clear_nil_iff] at hP
  unfold State.applyLoop
  dsimp only
  repeat' first
    | with_reducible exact h | with_reducible refine State.Spares.onLand (by simp only [hP]) (fun l => ?_) ?_
    | with_reducible refine State.Spares.onPair (by simp only [hP]) ?_ | with_reducible refine State.Spares.ite ?_ ?_
    | with_reducible exact Landing.Seen.refl _ _ | with_reducible refine Landing.Seen.ite ?_ ?_ | split
    | with_reducible refine Landing.Seen.mk ?_ | with_reducible refine Landing.landRegs_of_seen ?_

def State.applyPantryC : List Cell := [.part .chgGrant, .part .pantry, .reg (.whole 0x50020), .reg (.whole 0x50030)]
theorem State.applyPantry_spared {b : List Byte} (hP : Cell.clear State.applyPantryC o = true) (h : State.Spares o s0 s) :
    State.Spares o s0 (State.applyPantry s b) := by
  simp only [State.applyPantryC, Cell.clear_cons_iff, Cell.clear_nil_iff] at hP
  exact State.Spares.pantry (by simp only [hP])
    (State.Spares.chgGrant (by simp only [hP]) (h.setTwo (by simp only [hP]) (by simp only [hP])))

def State.applyRoomRecC : List Cell := [.rooms] ++ Room.applyRoomC ++ State.setModelC
theorem State.applyRoomRec_spared {p : Fin 48} {b : List Byte} (hP : Cell.clear State.applyRoomRecC o = true)
    (h : State.Spares o s0 s) :
    State.Spares o s0 (State.applyRoomRec s p b) := by
  simp only [State.applyRoomRecC, Cell.clear_append_iff, Cell.clear_cons_iff, Cell.clear_nil_iff] at hP
  unfold State.applyRoomRec
  dsimp only
  repeat' first
    | with_reducible exact h | with_reducible refine State.setModel_spared (by simp only [hP]) ?_
    | with_reducible refine State.Spares.onRoomE (Cell.roomAt_of_rooms (by simp only [hP]) _) (fun e r => ?_) ?_
    | with_reducible refine Room.applyRoom_seen (by simp only [hP]) ?_ | with_reducible exact Room.Seen.refl _ _

def State.arriveC (n : Fin 2) : List Cell := [.reg (hlField n HL_ERR_OVERRUN)]
theorem State.arrive_spared {n : Fin 2} {c : RxCmd} {go : State → State}
    (hgo : ∀ t, State.Spares o s0 t → State.Spares o s0 (go t)) (hP : Cell.clear (State.arriveC n) o = true)
      (h : State.Spares o s0 s) :
    State.Spares o s0 (State.arrive s n c go) := by
  simp only [State.arriveC, Cell.clear_cons_iff, Cell.clear_nil_iff] at hP
  unfold State.arrive
  dsimp only
  repeat' first
    | with_reducible exact h | with_reducible refine hgo _ ?_ | with_reducible refine State.Spares.onLink ?_
    | with_reducible refine State.Spares.put (by simp only [hP]) ?_ | with_reducible refine State.Spares.ite ?_ ?_

def State.askRootC : List Cell := [.part .pantry]
theorem State.askRoot_spared {st : Nat} (hP : Cell.clear State.askRootC o = true) (h : State.Spares o s0 s) :
    State.Spares o s0 (State.askRoot s st) := by
  simp only [State.askRootC, Cell.clear_cons_iff, Cell.clear_nil_iff] at hP
  unfold State.askRoot
  dsimp only
  repeat' first
    | with_reducible exact h | with_reducible refine State.Spares.onPan (by simp only [hP]) ?_

def State.badCopyC : List Cell := [.reg STAIR_ERR_COPY]
theorem State.badCopy_spared (hP : Cell.clear State.badCopyC o = true) (h : State.Spares o s0 s) :
    State.Spares o s0 (State.badCopy s) := by
  simp only [State.badCopyC, Cell.clear_cons_iff, Cell.clear_nil_iff] at hP
  unfold State.badCopy
  repeat' first
    | with_reducible exact h | with_reducible refine State.Spares.put (by simp only [hP]) ?_

def State.freeChargerC : List Cell := [.part .chgGrant]
theorem State.freeCharger_spared {n : Node} {missing : Nat} (hP : Cell.clear State.freeChargerC o = true)
    (h : State.Spares o s0 s) :
    State.Spares o s0 (State.freeCharger s n missing).1 := by
  simp only [State.freeChargerC, Cell.clear_cons_iff, Cell.clear_nil_iff] at hP
  unfold State.freeCharger
  dsimp only
  repeat' first
    | with_reducible exact h | with_reducible refine State.Spares.ite ?_ ?_ | split
    | with_reducible refine State.Spares.chgGrant (by simp only [hP]) ?_

def State.freeStepC : List Cell := [.rooms] ++ Room.cutToC
theorem State.freeStep_spared {n : Node} {c : Nat} {toFloor : Bool} {missing : Nat}
    (hP : Cell.clear State.freeStepC o = true) (h : State.Spares o s0 s) :
    State.Spares o s0 (State.freeStep s n c toFloor missing).1 := by
  simp only [State.freeStepC, Cell.clear_append_iff, Cell.clear_cons_iff, Cell.clear_nil_iff] at hP
  have hstep : ∀ (x : State × Nat) (p : Fin 48) (d t : Nat), State.Spares o s0 x.1 →
      State.Spares o s0 (if x.1.keeps (wingOf p) then x.1.onRoomE p fun e r => r.cutTo e (d - t) else x.1) := fun x p d t h =>
    .ite (h.onRoomE (Cell.roomAt_of_rooms (by simp only [hP]) _) fun _ _ => Room.cutTo_seen (by simp only [hP]) (.refl _ _)) h
  unfold State.freeStep
  refine List.foldlRecOn (motive := fun x : State × Nat => State.Spares o s0 x.1) _ _ h fun x h p _ => ?_
  dsimp only
  split
  · exact h
  · split
    · split
      · exact h
      · exact hstep x p _ _ h
    · split
      · exact h
      · exact hstep x p _ _ h

def State.free48C : List Cell := State.freeChargerC ++ State.freeStepC
theorem State.free48_spared {n : Node} {missing : Nat} (hP : Cell.clear State.free48C o = true) (h : State.Spares o s0 s) :
    State.Spares o s0 (State.free48 s n missing) := by
  simp only [State.free48C, Cell.clear_append_iff] at hP
  unfold State.free48
  dsimp only
  repeat' first
    | with_reducible exact h | with_reducible refine State.freeCharger_spared (by simp only [hP]) ?_
    | with_reducible refine State.freeStep_spared (by simp only [hP]) ?_

def State.freeCapC : List Cell := State.freeChargerC ++ State.freeStepC
theorem State.freeCap_spared {n : Node} {c : Nat} (hP : Cell.clear State.freeCapC o = true) (h : State.Spares o s0 s) :
    State.Spares o s0 (State.freeCap s n c) := by
  simp only [State.freeCapC, Cell.clear_append_iff] at hP
  unfold State.freeCap
  dsimp only
  repeat' first
    | with_reducible exact h | with_reducible refine State.freeCharger_spared (by simp only [hP]) ?_
    | with_reducible refine State.freeStep_spared (by simp only [hP]) ?_
    | with_reducible refine State.Spares.ite ?_ ?_ | split

def State.enforceNodeC : List Cell := State.free48C ++ State.freeCapC
theorem State.enforceNode_spared {n : Node} (hP : Cell.clear State.enforceNodeC o = true) (h : State.Spares o s0 s) :
    State.Spares o s0 (State.enforceNode s n) := by
  simp only [State.enforceNodeC, Cell.clear_append_iff] at hP
  unfold State.enforceNode
  dsimp only
  repeat' first
    | with_reducible exact h | with_reducible refine State.free48_spared (by simp only [hP]) ?_
    | with_reducible refine State.freeCap_spared (by simp only [hP]) ?_

def State.enforceC : List Cell := State.enforceNodeC
theorem State.enforce_spared (hP : Cell.clear State.enforceC o = true) (h : State.Spares o s0 s) :
    State.Spares o s0 (State.enforce s) := by
  simp only [State.enforceC] at hP
  unfold State.enforce
  repeat' first
    | with_reducible exact h | with_reducible refine State.enforceNode_spared (by simp only [hP]) ?_
    | with_reducible refine State.Spares.foldl (fun _ _ h => ?_) ?_

def State.beginBatteryC : List Cell :=
  [.part .pantry, .reg PANTRY_EVENT_BATT_ON, .reg CHG_STAT_BATT_ACTIVE] ++ State.enforceC
theorem State.beginBattery_spared (hP : Cell.clear State.beginBatteryC o = true) (h : State.Spares o s0 s) :
    State.Spares o s0 (State.beginBattery s) := by
  simp only [State.beginBatteryC, Cell.clear_append_iff, Cell.clear_cons_iff, Cell.clear_nil_iff] at hP
  unfold State.beginBattery
  repeat' first
    | with_reducible exact h | with_reducible refine State.enforce_spared (by simp only [hP]) ?_
    | with_reducible refine State.Spares.onPan (by simp only [hP]) ?_
    | with_reducible refine State.Spares.on (by simp only [hP]) ?_ | with_reducible refine State.Spares.ite ?_ ?_

def State.enterSafeC (f : Field) : List Cell := [.rooms] ++ Room.enterSafeC f ++ State.gangLevelC
theorem State.enterSafe_spared {p : Fin 48} {f : Field} {retry : Bool} (hP : Cell.clear (State.enterSafeC f) o = true)
    (h : State.Spares o s0 s) :
    State.Spares o s0 (State.enterSafe s p f retry) := by
  simp only [State.enterSafeC, Cell.clear_append_iff, Cell.clear_cons_iff, Cell.clear_nil_iff] at hP
  unfold State.enterSafe
  repeat' first
    | with_reducible exact h | with_reducible refine State.gangLevel_spared (by simp only [hP]) ?_
    | with_reducible refine State.Spares.onRoomE (Cell.roomAt_of_rooms (by simp only [hP]) _) (fun e r => ?_) ?_
    | with_reducible refine Room.enterSafe_seen (by simp only [hP]) ?_ | with_reducible exact Room.Seen.refl _ _

def State.bootCoreC : List Cell :=
  [.rooms, .roomFld STATUS_CORE_ALIVE, .roomPart .core] ++ Room.loadProgramC ++ Room.startCoreC ++
    State.enterSafeC FAULT_CORE_FAIL
theorem State.bootCore_spared {p : Fin 48} (hP : Cell.clear State.bootCoreC o = true) (h : State.Spares o s0 s) :
    State.Spares o s0 (State.bootCore s p) := by
  simp only [State.bootCoreC, Cell.clear_append_iff, Cell.clear_cons_iff, Cell.clear_nil_iff] at hP
  unfold State.bootCore
  dsimp only
  repeat' first
    | with_reducible exact h | with_reducible refine State.enterSafe_spared (by simp only [hP]) ?_
    | with_reducible refine State.Spares.onRoom (Cell.roomAt_of_rooms (by simp only [hP]) _) (fun r => ?_) ?_
    | with_reducible refine State.Spares.onRoomE (Cell.roomAt_of_rooms (by simp only [hP]) _) (fun e r => ?_) ?_
    | with_reducible refine Room.Seen.off (by simp only [hP]) ?_
    | with_reducible refine Room.loadProgram_seen (by simp only [hP]) ?_
    | with_reducible refine Room.Seen.onCore (by simp only [hP]) ?_
    | with_reducible refine Room.startCore_seen (by simp only [hP]) ?_ | with_reducible refine State.Spares.ite ?_ ?_
    | with_reducible exact Room.Seen.refl _ _ | with_reducible refine Room.Seen.ite ?_ ?_ | split

def State.jResultC : List Cell := [.reg JNL_RESULT_DONE, .reg JNL_RESULT_RESULT]
theorem State.jResult_spared {code : Nat} (hP : Cell.clear State.jResultC o = true) (h : State.Spares o s0 s) :
    State.Spares o s0 (State.jResult s code) := by
  simp only [State.jResultC, Cell.clear_cons_iff, Cell.clear_nil_iff] at hP
  unfold State.jResult
  repeat' first
    | with_reducible exact h | with_reducible refine State.Spares.on (by simp only [hP]) ?_
    | with_reducible refine State.Spares.put (by simp only [hP]) ?_

def State.bootrecC : List Cell := State.jResultC ++ State.writeBrecC
theorem State.bootrec_spared {ok : Bool} (hP : Cell.clear State.bootrecC o = true) (h : State.Spares o s0 s) :
    State.Spares o s0 (State.bootrec s ok) := by
  simp only [State.bootrecC, Cell.clear_append_iff] at hP
  unfold State.bootrec
  dsimp only
  repeat' first
    | with_reducible exact h | with_reducible refine State.jResult_spared (by simp only [hP]) ?_
    | with_reducible refine State.writeBrec_spared (by simp only [hP]) ?_
    | with_reducible refine State.Spares.ite ?_ ?_

def State.refreshAcksC : List Cell := [.part .mode, .reg MODE_ACK1_ACK, .reg MODE_ACK0_ACK, .reg HALL_MODE_PENDING]
theorem State.refreshAcks_spared (hP : Cell.clear State.refreshAcksC o = true) (h : State.Spares o s0 s) :
    State.Spares o s0 (State.refreshAcks s) := by
  simp only [State.refreshAcksC, Cell.clear_cons_iff, Cell.clear_nil_iff] at hP
  unfold State.refreshAcks
  dsimp only
  repeat' first
    | with_reducible exact h | with_reducible refine State.Spares.put (by simp only [hP]) ?_
    | with_reducible refine State.Spares.off (by simp only [hP]) ?_ | with_reducible refine State.Spares.ite ?_ ?_
    | with_reducible refine State.Spares.foldl (fun _ _ h => ?_) ?_ | split
    | with_reducible refine State.Spares.mode (by simp only [hP]) ?_

def State.writeModeC : List Cell :=
  [.part .mode, .reg HALL_MODE_EPOCH, .reg HALL_MODE_MODE, .reg HALL_MODE_SRC, .reg HALL_MODE_PENDING] ++
    State.refreshAcksC
theorem State.writeMode_spared {m : Nat} {src : Nat} (hP : Cell.clear State.writeModeC o = true) (h : State.Spares o s0 s) :
    State.Spares o s0 (State.writeMode s m src) := by
  simp only [State.writeModeC, Cell.clear_append_iff, Cell.clear_cons_iff, Cell.clear_nil_iff] at hP
  unfold State.writeMode
  dsimp only
  repeat' first
    | with_reducible exact h | with_reducible refine State.refreshAcks_spared (by simp only [hP]) ?_
    | with_reducible refine State.Spares.put (by simp only [hP]) ?_
    | with_reducible refine State.Spares.on (by simp only [hP]) ?_
    | with_reducible refine State.Spares.mode (by simp only [hP]) ?_

def State.busModeC : List Cell := [.reg HALL_MODE_REFUSED] ++ State.accessErrC ++ State.writeModeC
theorem State.busMode_spared {r : Req} {v : Nat} (hP : Cell.clear State.busModeC o = true) (h : State.Spares o s0 s) :
    State.Spares o s0 (State.busMode s r v) := by
  simp only [State.busModeC, Cell.clear_append_iff, Cell.clear_cons_iff, Cell.clear_nil_iff] at hP
  unfold State.busMode
  dsimp only
  repeat' first
    | with_reducible exact h | with_reducible refine State.accessErr_spared (by simp only [hP]) ?_
    | with_reducible refine State.writeMode_spared (by simp only [hP]) ?_
    | with_reducible refine State.Spares.on (by simp only [hP]) ?_ | with_reducible refine State.Spares.ite ?_ ?_

def State.refreshConC : List Cell := [.part .pair]
theorem State.refreshCon_spared (hP : Cell.clear State.refreshConC o = true) (h : State.Spares o s0 s) :
    State.Spares o s0 (State.refreshCon s) := by
  simp only [State.refreshConC, Cell.clear_cons_iff, Cell.clear_nil_iff] at hP
  unfold State.refreshCon
  dsimp only
  repeat' first
    | with_reducible exact h | with_reducible refine State.Spares.onPair (by simp only [hP]) ?_

def State.releaseLandsC : List Cell := [.lands]
theorem State.releaseLands_spared {w : Fin 2} (hP : Cell.clear State.releaseLandsC o = true) (h : State.Spares o s0 s) :
    State.Spares o s0 (State.releaseLands s w) := by
  simp only [State.releaseLandsC, Cell.clear_cons_iff, Cell.clear_nil_iff] at hP
  unfold State.releaseLands
  repeat' first
    | with_reducible exact h | with_reducible refine State.Spares.onLand (by simp only [hP]) (fun l => ?_) ?_
    | with_reducible refine Landing.release_seen ?_ | with_reducible refine State.Spares.foldl (fun _ _ h => ?_) ?_
    | with_reducible exact Landing.Seen.refl _ _

def State.loseWingC : List Cell :=
  [.rooms] ++ Room.toShadowC ++ State.enterSafeC FAULT_KEY_LOSS ++ State.releaseLandsC
theorem State.loseWing_spared {w : Fin 2} (hP : Cell.clear State.loseWingC o = true) (h : State.Spares o s0 s) :
    State.Spares o s0 (State.loseWing s w) := by
  simp only [State.loseWingC, Cell.clear_append_iff, Cell.clear_cons_iff, Cell.clear_nil_iff] at hP
  unfold State.loseWing
  repeat' first
    | with_reducible exact h | with_reducible refine State.enterSafe_spared (by simp only [hP]) ?_
    | with_reducible refine State.releaseLands_spared (by simp only [hP]) ?_
    | with_reducible refine State.Spares.onRoomE (Cell.roomAt_of_rooms (by simp only [hP]) _) (fun e r => ?_) ?_
    | with_reducible refine Room.toShadow_seen (by simp only [hP]) ?_ | with_reducible refine State.Spares.ite ?_ ?_
    | with_reducible refine State.Spares.foldl (fun _ _ h => ?_) ?_ | with_reducible exact Room.Seen.refl _ _

def State.refreshKeeperC : List Cell := [.part .pantry, .reg PAIR_STAT_HALL_KEEPER]
theorem State.refreshKeeper_spared (hP : Cell.clear State.refreshKeeperC o = true) (h : State.Spares o s0 s) :
    State.Spares o s0 (State.refreshKeeper s) := by
  simp only [State.refreshKeeperC, Cell.clear_cons_iff, Cell.clear_nil_iff] at hP
  unfold State.refreshKeeper
  dsimp only
  repeat' first
    | with_reducible exact h | with_reducible refine State.Spares.putB (by simp only [hP]) ?_
    | with_reducible refine State.Spares.ite ?_ ?_ | split
    | with_reducible refine State.Spares.pantry (by simp only [hP]) ?_

def State.setClaimsC : List Cell :=
  [.part .pair, .reg PAIR_STAT_HELD, .reg KEY_STAT_KEY_OUT, .reg KEY_STAT_OWN_CODE]
theorem State.setClaims_spared {c : Nat} (hP : Cell.clear State.setClaimsC o = true) (h : State.Spares o s0 s) :
    State.Spares o s0 (State.setClaims s c) := by
  simp only [State.setClaimsC, Cell.clear_cons_iff, Cell.clear_nil_iff] at hP
  unfold State.setClaims
  dsimp only
  repeat' first
    | with_reducible exact h | with_reducible refine State.Spares.put (by simp only [hP]) ?_
    | with_reducible refine State.Spares.putB (by simp only [hP]) ?_
    | with_reducible refine State.Spares.pair (by simp only [hP]) ?_

def State.withdrawC : List Cell :=
  [.part .pair, .reg PAIR_EVENT_WITHDRAWN] ++ State.loseWingC ++ State.refreshKeeperC ++ State.setClaimsC
theorem State.withdraw_spared {w : Fin 2} (hP : Cell.clear State.withdrawC o = true) (h : State.Spares o s0 s) :
    State.Spares o s0 (State.withdraw s w) := by
  simp only [State.withdrawC, Cell.clear_append_iff, Cell.clear_cons_iff, Cell.clear_nil_iff] at hP
  unfold State.withdraw
  dsimp only
  repeat' first
    | with_reducible exact h | with_reducible refine State.loseWing_spared (by simp only [hP]) ?_
    | with_reducible refine State.refreshKeeper_spared (by simp only [hP]) ?_
    | with_reducible refine State.setClaims_spared (by simp only [hP]) ?_
    | with_reducible refine State.Spares.on (by simp only [hP]) ?_ | with_reducible refine State.Spares.ite ?_ ?_
    | split | with_reducible refine State.Spares.pair (by simp only [hP]) ?_

def State.checkReleaseC : List Cell := State.refreshConC ++ State.withdrawC
theorem State.checkRelease_spared (hP : Cell.clear State.checkReleaseC o = true) (h : State.Spares o s0 s) :
    State.Spares o s0 (State.checkRelease s) := by
  simp only [State.checkReleaseC, Cell.clear_append_iff] at hP
  unfold State.checkRelease
  repeat' first
    | with_reducible exact h | with_reducible refine State.refreshCon_spared (by simp only [hP]) ?_
    | with_reducible refine State.withdraw_spared (by simp only [hP]) ?_
    | with_reducible refine State.Spares.ite ?_ ?_ | with_reducible refine State.Spares.foldl (fun _ _ h => ?_) ?_

def State.claimC : List Cell := [.part .pair] ++ State.refreshConC ++ State.refreshKeeperC ++ State.setClaimsC
theorem State.claim_spared {ws : Nat} (hP : Cell.clear State.claimC o = true) (h : State.Spares o s0 s) :
    State.Spares o s0 (State.claim s ws) := by
  simp only [State.claimC, Cell.clear_append_iff, Cell.clear_cons_iff, Cell.clear_nil_iff] at hP
  unfold State.claim
  repeat' first
    | with_reducible exact h | with_reducible refine State.refreshCon_spared (by simp only [hP]) ?_
    | with_reducible refine State.refreshKeeper_spared (by simp only [hP]) ?_
    | with_reducible refine State.setClaims_spared (by simp only [hP]) ?_
    | with_reducible refine State.Spares.onPair (by simp only [hP]) ?_

def State.slotSettleC : List Cell := State.slotExitC
theorem State.slotSettle_spared {b : Fin 6} (hP : Cell.clear State.slotSettleC o = true) (h : State.Spares o s0 s) :
    State.Spares o s0 (State.slotSettle s b) := by
  simp only [State.slotSettleC] at hP
  unfold State.slotSettle
  repeat' first
    | with_reducible exact h | with_reducible refine State.slotExit_spared (by simp only [hP]) ?_
    | with_reducible refine State.Spares.ite ?_ ?_

def State.startPortC : List Cell :=
  [.rooms] ++ Room.enableC ++ Room.loopOffC ++ Room.refreshIlimC ++ Room.refreshVlimC
theorem State.startPort_spared {p : Fin 48} (hP : Cell.clear State.startPortC o = true) (h : State.Spares o s0 s) :
    State.Spares o s0 (State.startPort s p) := by
  simp only [State.startPortC, Cell.clear_append_iff, Cell.clear_cons_iff, Cell.clear_nil_iff] at hP
  unfold State.startPort
  dsimp only
  repeat' first
    | with_reducible exact h
    | with_reducible refine State.Spares.onRoomE (Cell.roomAt_of_rooms (by simp only [hP]) _) (fun e r => ?_) ?_
    | with_reducible refine Room.enable_seen (by simp only [hP]) ?_
    | with_reducible refine Room.loopOff_seen (by simp only [hP]) ?_
    | with_reducible refine Room.refreshIlim_seen (by simp only [hP]) ?_
    | with_reducible refine Room.refreshVlim_seen (by simp only [hP]) ?_
    | with_reducible refine State.Spares.ite ?_ ?_ | with_reducible exact Room.Seen.refl _ _
    | with_reducible refine Room.Seen.ite ?_ ?_

def State.startWingC : List Cell := State.slotSettleC ++ State.startPortC
theorem State.startWing_spared {w : Fin 2} (hP : Cell.clear State.startWingC o = true) (h : State.Spares o s0 s) :
    State.Spares o s0 (State.startWing s w) := by
  simp only [State.startWingC, Cell.clear_append_iff] at hP
  unfold State.startWing
  dsimp only
  repeat' first
    | with_reducible exact h | with_reducible refine State.slotSettle_spared (by simp only [hP]) ?_
    | with_reducible refine State.startPort_spared (by simp only [hP]) ?_
    | with_reducible refine State.Spares.foldl (fun _ _ h => ?_) ?_

def State.claimStartC : List Cell := State.claimC ++ State.startWingC
theorem State.claimStart_spared {cond : Fin 2 → Bool} (hP : Cell.clear State.claimStartC o = true) (h : State.Spares o s0 s) :
    State.Spares o s0 (State.claimStart s cond) := by
  simp only [State.claimStartC, Cell.clear_append_iff] at hP
  unfold State.claimStart
  dsimp only
  repeat' first
    | with_reducible exact h | with_reducible refine State.claim_spared (by simp only [hP]) ?_
    | with_reducible refine State.startWing_spared (by simp only [hP]) ?_
    | with_reducible refine State.Spares.ite ?_ ?_ | with_reducible refine State.Spares.foldl (fun _ _ h => ?_) ?_

def State.clampActsC : List Cell := [.rooms] ++ Room.refreshIlimC ++ State.enforceC
theorem State.clampActs_spared {m : Nat} (hP : Cell.clear State.clampActsC o = true) (h : State.Spares o s0 s) :
    State.Spares o s0 (State.clampActs s m) := by
  simp only [State.clampActsC, Cell.clear_append_iff, Cell.clear_cons_iff, Cell.clear_nil_iff] at hP
  unfold State.clampActs
  repeat' first
    | with_reducible exact h | with_reducible refine State.enforce_spared (by simp only [hP]) ?_
    | with_reducible refine State.Spares.onRoomE (Cell.roomAt_of_rooms (by simp only [hP]) _) (fun e r => ?_) ?_
    | with_reducible refine Room.refreshIlim_seen (by simp only [hP]) ?_
    | with_reducible refine State.Spares.ite ?_ ?_ | with_reducible exact Room.Seen.refl _ _

def State.modelToC : List Cell := State.setModelC ++ State.showModelC
theorem State.modelTo_spared {m : Nat} {st : Nat} (hP : Cell.clear State.modelToC o = true) (h : State.Spares o s0 s) :
    State.Spares o s0 (State.modelTo s m st) := by
  simp only [State.modelToC, Cell.clear_append_iff] at hP
  unfold State.modelTo
  dsimp only
  repeat' first
    | with_reducible exact h | with_reducible refine State.setModel_spared (by simp only [hP]) ?_
    | with_reducible refine State.showModel_spared (by simp only [hP]) ?_

def State.clampModelC : List Cell := State.clampActsC ++ State.modelToC ++ State.setModelC
theorem State.clampModel_spared {m : Nat} (hP : Cell.clear State.clampModelC o = true) (h : State.Spares o s0 s) :
    State.Spares o s0 (State.clampModel s m) := by
  simp only [State.clampModelC, Cell.clear_append_iff] at hP
  unfold State.clampModel
  dsimp only
  repeat' first
    | with_reducible exact h | with_reducible refine State.clampActs_spared (by simp only [hP]) ?_
    | with_reducible refine State.modelTo_spared (by simp only [hP]) ?_
    | with_reducible refine State.setModel_spared (by simp only [hP]) ?_ | split

def State.jDueC : List Cell := [.part .jnl]
theorem State.jDue_spared (hP : Cell.clear State.jDueC o = true) (h : State.Spares o s0 s) :
    State.Spares o s0 (State.jDue s) := by
  simp only [State.jDueC, Cell.clear_cons_iff, Cell.clear_nil_iff] at hP
  unfold State.jDue
  repeat' first
    | with_reducible exact h | with_reducible refine State.Spares.ite ?_ ?_ | split
    | with_reducible refine State.Spares.jnl (by simp only [hP]) ?_

def State.jWriteC : List Cell := [.part .cellar, .reg JNL_STAT_USED, .reg JNL_SEQ_SEQ]
theorem State.jWrite_spared {rs : List JRec} (hP : Cell.clear State.jWriteC o = true) (h : State.Spares o s0 s) :
    State.Spares o s0 (State.jWrite s rs) := by
  simp only [State.jWriteC, Cell.clear_cons_iff, Cell.clear_nil_iff] at hP
  unfold State.jWrite
  dsimp only
  repeat' first
    | with_reducible exact h | with_reducible refine State.Spares.put (by simp only [hP]) ?_
    | with_reducible refine State.Spares.cellar (by simp only [hP]) ?_

def State.jFirstC : List Cell :=
  [.part .cellar, .reg JNL_SEQ_SEQ, .reg JNL_STAT_USED, .reg JNL_STAT_AREA, .reg JNL_STAT_EMPTY,
    .reg JNL_WEAR1_ERASES, .reg JNL_WEAR0_ERASES, .reg JNL_EPOCH_EPOCH] ++ State.free?C ++ State.jWriteC
theorem State.jFirst_spared (hP : Cell.clear State.jFirstC o = true) (h : State.Spares o s0 s) :
    State.Spares o s0 (State.jFirst s) := by
  simp only [State.jFirstC, Cell.clear_append_iff, Cell.clear_cons_iff, Cell.clear_nil_iff] at hP
  unfold State.jFirst
  dsimp only
  refine .ite (State.jWrite_spared (by simp only [hP]) ?_) h
  iterate 3 refine State.Spares.off (by simp only [hP]) ?_
  refine State.Spares.put (by simp only [hP]) ?_
  iterate 3 refine State.Spares.off (by simp only [hP]) ?_
  exact State.Spares.cellar (by simp only [hP]) (State.free?_spared (by simp only [hP]) h)

def State.setImageC : List Cell := [.part .jnl, .reg JNL_STAT_IMAGE]
theorem State.setImage_spared {rs : List JRec} (hP : Cell.clear State.setImageC o = true) (h : State.Spares o s0 s) :
    State.Spares o s0 (State.setImage s rs) := by
  simp only [State.setImageC, Cell.clear_cons_iff, Cell.clear_nil_iff] at hP
  unfold State.setImage
  repeat' first
    | with_reducible exact h | with_reducible refine State.Spares.put (by simp only [hP]) ?_
    | with_reducible refine State.Spares.jnl (by simp only [hP]) ?_

def State.jPageC : List Cell := State.jDueC ++ State.jWriteC ++ State.setImageC
theorem State.jPage_spared (hP : Cell.clear State.jPageC o = true) (h : State.Spares o s0 s) :
    State.Spares o s0 (State.jPage s) := by
  simp only [State.jPageC, Cell.clear_append_iff] at hP
  unfold State.jPage
  dsimp only
  repeat' first
    | with_reducible exact h | with_reducible refine State.jDue_spared (by simp only [hP]) ?_
    | with_reducible refine State.jWrite_spared (by simp only [hP]) ?_
    | with_reducible refine State.setImage_spared (by simp only [hP]) ?_
    | with_reducible refine State.Spares.ite ?_ ?_

def State.jCommitC : List Cell := State.jDueC ++ State.jFirstC ++ State.jPageC ++ State.jWriteC ++ State.setImageC
theorem State.jCommit_spared {g : List JRec} (hP : Cell.clear State.jCommitC o = true) (h : State.Spares o s0 s) :
    State.Spares o s0 (State.jCommit s g) := by
  simp only [State.jCommitC, Cell.clear_append_iff] at hP
  unfold State.jCommit
  dsimp only
  repeat' first
    | with_reducible exact h | with_reducible refine State.jDue_spared (by simp only [hP]) ?_
    | with_reducible refine State.jFirst_spared (by simp only [hP]) ?_
    | with_reducible refine State.jPage_spared (by simp only [hP]) ?_
    | with_reducible refine State.jWrite_spared (by simp only [hP]) ?_
    | with_reducible refine State.setImage_spared (by simp only [hP]) ?_
    | with_reducible refine State.Spares.ite ?_ ?_

def State.jTearC : List Cell :=
  [.part .cellar, .reg JNL_STAT_USED, .reg JNL_SEQ_SEQ] ++ State.freeBytesC ++ State.jFirstC ++ State.progCutC
theorem State.jTear_spared {g : List JRec} {n : Nat} (hP : Cell.clear State.jTearC o = true) (h : State.Spares o s0 s) :
    State.Spares o s0 (State.jTear s g n) := by
  simp only [State.jTearC, Cell.clear_append_iff, Cell.clear_cons_iff, Cell.clear_nil_iff] at hP
  unfold State.jTear
  dsimp only
  repeat' first
    | with_reducible exact h | with_reducible refine State.freeBytes_spared (by simp only [hP]) ?_
    | with_reducible refine State.jFirst_spared (by simp only [hP]) ?_
    | with_reducible refine State.progCut_spared (by simp only [hP]) ?_
    | with_reducible refine State.Spares.put (by simp only [hP]) ?_ | with_reducible refine State.Spares.ite ?_ ?_
    | with_reducible refine State.Spares.foldl (fun _ _ h => ?_) ?_ | split
    | with_reducible refine State.Spares.cellar (by simp only [hP]) ?_

def State.commitC : List Cell := State.free?C ++ State.jCommitC ++ State.jTearC
theorem State.commit_spared {g : List JRec} {ok : Bool} (hP : Cell.clear State.commitC o = true) (h : State.Spares o s0 s) :
    State.Spares o s0 (State.commit s g ok).2 := by
  simp only [State.commitC, Cell.clear_append_iff] at hP
  unfold State.commit
  dsimp only
  repeat' first
    | with_reducible exact h | with_reducible refine State.free?_spared (by simp only [hP]) ?_
    | with_reducible refine State.jCommit_spared (by simp only [hP]) ?_
    | with_reducible refine State.jTear_spared (by simp only [hP]) ?_ | with_reducible refine State.Spares.ite ?_ ?_
    | split

def State.commitSettingC : List Cell := State.commitC
theorem State.commitSetting_spared {e : SettingRec} (hP : Cell.clear State.commitSettingC o = true)
    (h : State.Spares o s0 s) :
    State.Spares o s0 (State.commitSetting s e) := by
  simp only [State.commitSettingC] at hP
  unfold State.commitSetting
  repeat' first
    | with_reducible exact h | with_reducible refine State.commit_spared (by simp only [hP]) ?_
    | with_reducible refine State.Spares.ite ?_ ?_

def State.confTickC : List Cell := [.part .porch]
theorem State.confTick_spared (hP : Cell.clear State.confTickC o = true) (h : State.Spares o s0 s) :
    State.Spares o s0 (State.confTick s) := by
  simp only [State.confTickC, Cell.clear_cons_iff, Cell.clear_nil_iff] at hP
  unfold State.confTick
  dsimp only
  repeat' first
    | with_reducible exact h | with_reducible refine State.Spares.onPorch (by simp only [hP]) ?_

def State.escalateC : List Cell := State.enterSafeC FAULT_ESCALATED
theorem State.escalate_spared {p : Fin 48} (hP : Cell.clear State.escalateC o = true) (h : State.Spares o s0 s) :
    State.Spares o s0 (State.escalate s p) := by
  simp only [State.escalateC] at hP
  unfold State.escalate
  repeat' first
    | with_reducible exact h | with_reducible refine State.enterSafe_spared (by simp only [hP]) ?_
    | with_reducible refine State.Spares.ite ?_ ?_

def State.escalateAllC : List Cell := State.escalateC
theorem State.escalateAll_spared {ps : List (Fin 48)} (hP : Cell.clear State.escalateAllC o = true)
    (h : State.Spares o s0 s) :
    State.Spares o s0 (State.escalateAll s ps) := by
  simp only [State.escalateAllC] at hP
  unfold State.escalateAll
  repeat' first
    | with_reducible exact h | with_reducible refine State.escalate_spared (by simp only [hP]) ?_
    | with_reducible refine State.Spares.foldl (fun _ _ h => ?_) ?_

def State.openWingSlotsC : List Cell := State.slotToC
theorem State.openWingSlots_spared {w : Fin 2} (hP : Cell.clear State.openWingSlotsC o = true) (h : State.Spares o s0 s) :
    State.Spares o s0 (State.openWingSlots s w) := by
  simp only [State.openWingSlotsC] at hP
  unfold State.openWingSlots
  repeat' first
    | with_reducible exact h | with_reducible refine State.slotTo_spared (by simp only [hP]) ?_
    | with_reducible refine State.Spares.foldl (fun _ _ h => ?_) ?_

def State.wingSafeC : List Cell := [.wings] ++ State.escalateAllC ++ State.openWingSlotsC
theorem State.wingSafe_spared {w : Fin 2} (hP : Cell.clear State.wingSafeC o = true) (h : State.Spares o s0 s) :
    State.Spares o s0 (State.wingSafe s w) := by
  simp only [State.wingSafeC, Cell.clear_append_iff, Cell.clear_cons_iff, Cell.clear_nil_iff] at hP
  unfold State.wingSafe
  repeat' first
    | with_reducible exact h | with_reducible refine State.escalateAll_spared (by simp only [hP]) ?_
    | with_reducible refine State.openWingSlots_spared (by simp only [hP]) ?_
    | with_reducible refine State.Spares.onWing (by simp only [hP]) (fun x => ?_) ?_
    | with_reducible exact Wing.Seen.refl _ _ | with_reducible refine Wing.Seen.mk ?_
    | with_reducible refine Wing.wingRegs_of_seen ?_

def State.wingFaultC : List Cell := [.part .pair, .wings] ++ State.wingSafeC ++ State.withdrawC
theorem State.wingFault_spared {w : Fin 2} (hP : Cell.clear State.wingFaultC o = true) (h : State.Spares o s0 s) :
    State.Spares o s0 (State.wingFault s w) := by
  simp only [State.wingFaultC, Cell.clear_append_iff, Cell.clear_cons_iff, Cell.clear_nil_iff] at hP
  unfold State.wingFault
  dsimp only
  repeat' first
    | with_reducible exact h | with_reducible refine State.wingSafe_spared (by simp only [hP]) ?_
    | with_reducible refine State.withdraw_spared (by simp only [hP]) ?_
    | with_reducible refine State.Spares.onWing (by simp only [hP]) (fun x => ?_) ?_
    | with_reducible refine State.Spares.ite ?_ ?_ | with_reducible exact Wing.Seen.refl _ _
    | with_reducible refine Wing.Seen.ite ?_ ?_ | split
    | with_reducible refine State.Spares.pair (by simp only [hP]) ?_ | with_reducible refine Wing.Seen.mk ?_
    | with_reducible refine Wing.wingRegs_of_seen ?_

def State.handUpC : List Cell :=
  [.lands, .landFld LAND_FAULT_HANDUP, .wings, .wingFld WING_FAULT_LANDING] ++ State.wingFaultC
theorem State.handUp_spared {b : Fin 6} (hP : Cell.clear State.handUpC o = true) (h : State.Spares o s0 s) :
    State.Spares o s0 (State.handUp s b) := by
  simp only [State.handUpC, Cell.clear_append_iff, Cell.clear_cons_iff, Cell.clear_nil_iff] at hP
  unfold State.handUp
  dsimp only
  repeat' first
    | with_reducible exact h | with_reducible refine State.wingFault_spared (by simp only [hP]) ?_
    | with_reducible refine State.Spares.onLand (by simp only [hP]) (fun l => ?_) ?_
    | with_reducible refine State.Spares.onWing (by simp only [hP]) (fun x => ?_) ?_
    | with_reducible refine Landing.Seen.on (by simp only [hP]) ?_
    | with_reducible refine Wing.Seen.put (by simp only [hP]) ?_ | with_reducible exact Landing.Seen.refl _ _
    | with_reducible exact Wing.Seen.refl _ _

def State.restartCoreC : List Cell := [.rooms, .roomFld EVENT_CORE_RESTART] ++ State.bootCoreC
theorem State.restartCore_spared {p : Fin 48} (hP : Cell.clear State.restartCoreC o = true) (h : State.Spares o s0 s) :
    State.Spares o s0 (State.restartCore s p) := by
  simp only [State.restartCoreC, Cell.clear_append_iff, Cell.clear_cons_iff, Cell.clear_nil_iff] at hP
  unfold State.restartCore
  repeat' first
    | with_reducible exact h | with_reducible refine State.bootCore_spared (by simp only [hP]) ?_
    | with_reducible refine State.Spares.onRoom (Cell.roomAt_of_rooms (by simp only [hP]) _) (fun r => ?_) ?_
    | with_reducible refine Room.Seen.on (by simp only [hP]) ?_ | with_reducible refine State.Spares.ite ?_ ?_
    | with_reducible exact Room.Seen.refl _ _

def State.coreMissC : List Cell :=
  [.rooms, .roomFld STATUS_CORE_ALIVE, .roomPart .restarts, .lands, .landFld LAND_WDT_STAT_MISS] ++
    Room.faultC FAULT_CORE_WDT ++ State.enterSafeC FAULT_CORE_FAIL ++ State.handUpC ++ State.restartCoreC
theorem State.coreMiss_spared {p : Fin 48} (hP : Cell.clear State.coreMissC o = true) (h : State.Spares o s0 s) :
    State.Spares o s0 (State.coreMiss s p) := by
  simp only [State.coreMissC, Cell.clear_append_iff, Cell.clear_cons_iff, Cell.clear_nil_iff] at hP
  unfold State.coreMiss
  dsimp only
  repeat' first
    | with_reducible exact h | with_reducible refine State.enterSafe_spared (by simp only [hP]) ?_
    | with_reducible refine State.handUp_spared (by simp only [hP]) ?_
    | with_reducible refine State.restartCore_spared (by simp only [hP]) ?_
    | with_reducible refine State.Spares.onLand (by simp only [hP]) (fun l => ?_) ?_
    | with_reducible refine State.Spares.onRoom (Cell.roomAt_of_rooms (by simp only [hP]) _) (fun r => ?_) ?_
    | with_reducible refine Landing.Seen.put (by simp only [hP]) ?_
    | with_reducible refine Room.Seen.off (by simp only [hP]) ?_
    | with_reducible refine Room.fault_seen (by simp only [hP]) ?_ | with_reducible refine State.Spares.ite ?_ ?_
    | with_reducible exact Room.Seen.refl _ _ | with_reducible refine Room.Seen.ite ?_ ?_
    | with_reducible exact Landing.Seen.refl _ _ | with_reducible refine Landing.Seen.ite ?_ ?_ | split
    | with_reducible refine Room.Seen.restarts (by simp only [hP]) ?_

def State.countErrC (f : Field) : List Cell := [.reg f]
theorem State.countErr_spared {f : Field} (hP : Cell.clear (State.countErrC f) o = true) (h : State.Spares o s0 s) :
    State.Spares o s0 (State.countErr s f) := by
  simp only [State.countErrC, Cell.clear_cons_iff, Cell.clear_nil_iff] at hP
  unfold State.countErr
  repeat' first
    | with_reducible exact h | with_reducible refine State.Spares.put (by simp only [hP]) ?_

def State.cutTimerC : List Cell := [.part .pantry]
theorem State.cutTimer_spared {mean : Nat} (hP : Cell.clear State.cutTimerC o = true) (h : State.Spares o s0 s) :
    State.Spares o s0 (State.cutTimer s mean) := by
  simp only [State.cutTimerC, Cell.clear_cons_iff, Cell.clear_nil_iff] at hP
  unfold State.cutTimer
  dsimp only
  repeat' first
    | with_reducible exact h | with_reducible refine State.Spares.onPan (by simp only [hP]) ?_

def State.cycleC : List Cell := State.free?C
theorem State.cycle_spared (hP : Cell.clear State.cycleC o = true) (h : State.Spares o s0 s) :
    State.Spares o s0 (State.cycle s).2 := by
  simp only [State.cycleC] at hP
  unfold State.cycle
  dsimp only
  repeat' first
    | with_reducible exact h | with_reducible refine State.free?_spared (by simp only [hP]) ?_

def State.dbgNextC : List Cell := [.reg DBG_ADDR_ADDR]
theorem State.dbgNext_spared (hP : Cell.clear State.dbgNextC o = true) (h : State.Spares o s0 s) :
    State.Spares o s0 (State.dbgNext s) := by
  simp only [State.dbgNextC, Cell.clear_cons_iff, Cell.clear_nil_iff] at hP
  unfold State.dbgNext
  repeat' first
    | with_reducible exact h | with_reducible refine State.Spares.put (by simp only [hP]) ?_

def State.respondC : List Cell := [.part .dbg]
theorem State.respond_spared {hd : BitVec 12} {resp : Nat} {data : Option Word} (hP : Cell.clear State.respondC o = true)
    (h : State.Spares o s0 s) :
    State.Spares o s0 (State.respond s hd resp data) := by
  simp only [State.respondC, Cell.clear_cons_iff, Cell.clear_nil_iff] at hP
  unfold State.respond
  repeat' first
    | with_reducible exact h | with_reducible refine State.Spares.onDbg (by simp only [hP]) ?_

def State.dbgOpC : List Cell := State.respondC
theorem State.dbgOp_spared {hd : BitVec 12} {data : Option Word} {f : State → State}
    (hf : ∀ t, State.Spares o s0 t → State.Spares o s0 (f t)) (hP : Cell.clear State.dbgOpC o = true)
      (h : State.Spares o s0 s) :
    State.Spares o s0 (State.dbgOp s hd data f) := by
  simp only [State.dbgOpC] at hP
  unfold State.dbgOp
  repeat' first
    | with_reducible exact h | with_reducible refine hf _ ?_
    | with_reducible refine State.respond_spared (by simp only [hP]) ?_ | with_reducible refine State.Spares.ite ?_ ?_

def State.dbgPerformC : List Cell := [.part .dbg]
theorem State.dbgPerform_spared {hd : BitVec 12} {data : Word} {crc : BitVec 8} {f : State → State}
    (hf : ∀ t, State.Spares o s0 t → State.Spares o s0 (f t)) (hP : Cell.clear State.dbgPerformC o = true)
      (h : State.Spares o s0 s) :
    State.Spares o s0 (State.dbgPerform s hd data crc f) := by
  simp only [State.dbgPerformC, Cell.clear_cons_iff, Cell.clear_nil_iff] at hP
  unfold State.dbgPerform
  repeat' first
    | with_reducible exact h | with_reducible refine hf _ ?_
    | with_reducible refine State.Spares.onDbg (by simp only [hP]) ?_ | with_reducible refine State.Spares.ite ?_ ?_

def State.dbgWrC : List Cell := State.dbgOpC ++ State.dbgPerformC
theorem State.dbgWr_spared {hd : BitVec 12} {data : Word} {crc : BitVec 8} {f : State → State}
    (hf : ∀ t, State.Spares o s0 t → State.Spares o s0 (f t)) (hP : Cell.clear State.dbgWrC o = true)
      (h : State.Spares o s0 s) :
    State.Spares o s0 (State.dbgWr s hd data crc f) := by
  simp only [State.dbgWrC, Cell.clear_append_iff] at hP
  unfold State.dbgWr
  repeat' first
    | with_reducible exact h | with_reducible refine hf _ ?_
    | with_reducible refine State.dbgOp_spared (fun _ h => ?_) (by simp only [hP]) ?_
    | with_reducible refine State.dbgPerform_spared (fun _ h => ?_) (by simp only [hP]) ?_
    | with_reducible refine State.Spares.ite ?_ ?_

def State.dropKeyC : List Cell :=
  [.part .pair, .reg KEY_STAT_OWN_CODE] ++ State.loseWingC ++ State.refreshKeeperC ++ State.setClaimsC
theorem State.dropKey_spared (hP : Cell.clear State.dropKeyC o = true) (h : State.Spares o s0 s) :
    State.Spares o s0 (State.dropKey s) := by
  simp only [State.dropKeyC, Cell.clear_append_iff, Cell.clear_cons_iff, Cell.clear_nil_iff] at hP
  unfold State.dropKey
  dsimp only
  repeat' first
    | with_reducible exact h | with_reducible refine State.loseWing_spared (by simp only [hP]) ?_
    | with_reducible refine State.refreshKeeper_spared (by simp only [hP]) ?_
    | with_reducible refine State.setClaims_spared (by simp only [hP]) ?_
    | with_reducible refine State.Spares.put (by simp only [hP]) ?_ | with_reducible refine State.Spares.ite ?_ ?_
    | split | with_reducible refine State.Spares.pair (by simp only [hP]) ?_

def State.portTripC : List Cell := [.rooms] ++ Room.thermTripC ++ State.gangLevelC
theorem State.portTrip_spared {p : Fin 48} (hP : Cell.clear State.portTripC o = true) (h : State.Spares o s0 s) :
    State.Spares o s0 (State.portTrip s p) := by
  simp only [State.portTripC, Cell.clear_append_iff, Cell.clear_cons_iff, Cell.clear_nil_iff] at hP
  unfold State.portTrip
  repeat' first
    | with_reducible exact h | with_reducible refine State.gangLevel_spared (by simp only [hP]) ?_
    | with_reducible refine State.Spares.onRoomE (Cell.roomAt_of_rooms (by simp only [hP]) _) (fun e r => ?_) ?_
    | with_reducible refine Room.thermTrip_seen (by simp only [hP]) ?_ | with_reducible exact Room.Seen.refl _ _

def State.dieTripC : List Cell :=
  [.reg HEARTH_EVENT_DIE_TRIP, .lands] ++ Landing.slotFaultC HS_FAULT_THERM_TRIP ++ State.dropKeyC ++
    State.portTripC ++ State.slotToC
theorem State.dieTrip_spared (hP : Cell.clear State.dieTripC o = true) (h : State.Spares o s0 s) :
    State.Spares o s0 (State.dieTrip s) := by
  simp only [State.dieTripC, Cell.clear_append_iff, Cell.clear_cons_iff, Cell.clear_nil_iff] at hP
  unfold State.dieTrip
  dsimp only
  repeat' first
    | with_reducible exact h | with_reducible refine State.dropKey_spared (by simp only [hP]) ?_
    | with_reducible refine State.portTrip_spared (by simp only [hP]) ?_
    | with_reducible refine State.slotTo_spared (by simp only [hP]) ?_
    | with_reducible refine State.Spares.onLand (by simp only [hP]) (fun l => ?_) ?_
    | with_reducible refine State.Spares.on (by simp only [hP]) ?_
    | with_reducible refine Landing.slotFault_seen (by simp only [hP]) ?_
    | with_reducible refine State.Spares.ite ?_ ?_ | with_reducible refine State.Spares.foldl (fun _ _ h => ?_) ?_
    | with_reducible exact Landing.Seen.refl _ _

def State.panFaultC (f : Field) : List Cell := [.reg PANTRY_EVENT_FAULT, .reg f]
theorem State.panFault_spared {f : Field} (hP : Cell.clear (State.panFaultC f) o = true) (h : State.Spares o s0 s) :
    State.Spares o s0 (State.panFault s f) := by
  simp only [State.panFaultC, Cell.clear_cons_iff, Cell.clear_nil_iff] at hP
  unfold State.panFault
  repeat' first
    | with_reducible exact h | with_reducible refine State.Spares.on (by simp only [hP]) ?_

def State.shedClassC : List Cell := State.escalateAllC
theorem State.shedClass_spared {b : Fin 6} {c : Nat} (hP : Cell.clear State.shedClassC o = true) (h : State.Spares o s0 s) :
    State.Spares o s0 (State.shedClass s b c) := by
  simp only [State.shedClassC] at hP
  unfold State.shedClass
  repeat' first
    | with_reducible exact h | with_reducible refine State.escalateAll_spared (by simp only [hP]) ?_

def State.startShedC : List Cell := [.lands] ++ State.shedClassC
theorem State.startShed_spared {b : Fin 6} {retry : Bool} (hP : Cell.clear State.startShedC o = true)
    (h : State.Spares o s0 s) :
    State.Spares o s0 (State.startShed s b retry) := by
  simp only [State.startShedC, Cell.clear_append_iff, Cell.clear_cons_iff, Cell.clear_nil_iff] at hP
  unfold State.startShed
  dsimp only
  repeat' first
    | with_reducible exact h | with_reducible refine State.shedClass_spared (by simp only [hP]) ?_
    | with_reducible refine State.Spares.onLand (by simp only [hP]) (fun l => ?_) ?_
    | with_reducible refine State.Spares.ite ?_ ?_ | with_reducible exact Landing.Seen.refl _ _
    | with_reducible refine Landing.Seen.ite ?_ ?_ | split | with_reducible refine Landing.Seen.mk ?_
    | with_reducible refine Landing.landRegs_of_seen ?_

def State.slotTripC : List Cell := [.lands] ++ Landing.slotFaultC HS_FAULT_THERM_TRIP ++ State.startShedC
theorem State.slotTrip_spared {b : Fin 6} (hP : Cell.clear State.slotTripC o = true) (h : State.Spares o s0 s) :
    State.Spares o s0 (State.slotTrip s b) := by
  simp only [State.slotTripC, Cell.clear_append_iff, Cell.clear_cons_iff, Cell.clear_nil_iff] at hP
  unfold State.slotTrip
  dsimp only
  repeat' first
    | with_reducible exact h | with_reducible refine State.startShed_spared (by simp only [hP]) ?_
    | with_reducible refine State.Spares.onLand (by simp only [hP]) (fun l => ?_) ?_
    | with_reducible refine Landing.slotFault_seen (by simp only [hP]) ?_
    | with_reducible refine State.Spares.ite ?_ ?_ | with_reducible exact Landing.Seen.refl _ _

def State.tripActsC : List Cell :=
  [.reg HEARTH_EVENT_QCHG_TRIP, .reg HEARTH_EVENT_QID_TRIP] ++ State.dieTripC ++ State.enforceC ++
    State.panFaultC PANTRY_FAULT_QCHG_TRIP ++ State.panFaultC PANTRY_FAULT_QID_TRIP ++ State.portTripC ++
    State.slotTripC
theorem State.tripActs_spared {m : Nat} (hP : Cell.clear State.tripActsC o = true) (h : State.Spares o s0 s) :
    State.Spares o s0 (State.tripActs s m) := by
  simp only [State.tripActsC, Cell.clear_append_iff, Cell.clear_cons_iff, Cell.clear_nil_iff] at hP
  unfold State.tripActs
  repeat' first
    | with_reducible exact h | with_reducible refine State.dieTrip_spared (by simp only [hP]) ?_
    | with_reducible refine State.enforce_spared (by simp only [hP]) ?_
    | with_reducible refine State.panFault_spared (by simp only [hP]) ?_
    | with_reducible refine State.portTrip_spared (by simp only [hP]) ?_
    | with_reducible refine State.slotTrip_spared (by simp only [hP]) ?_
    | with_reducible refine State.Spares.on (by simp only [hP]) ?_ | with_reducible refine State.Spares.ite ?_ ?_

def State.warnActsC : List Cell :=
  [.reg HEARTH_EVENT_SLOT_WARN, .reg HEARTH_EVENT_QCHG_WARN, .reg HEARTH_EVENT_QID_WARN, .reg HEARTH_EVENT_DIE_WARN,
    .rooms, .roomFld EVENT_THERM_WARN] ++ State.enforceC
theorem State.warnActs_spared {m : Nat} (hP : Cell.clear State.warnActsC o = true) (h : State.Spares o s0 s) :
    State.Spares o s0 (State.warnActs s m) := by
  simp only [State.warnActsC, Cell.clear_append_iff, Cell.clear_cons_iff, Cell.clear_nil_iff] at hP
  unfold State.warnActs
  repeat' first
    | with_reducible exact h | with_reducible refine State.enforce_spared (by simp only [hP]) ?_
    | with_reducible refine State.Spares.onRoom (Cell.roomAt_of_rooms (by simp only [hP]) _) (fun r => ?_) ?_
    | with_reducible refine Room.Seen.on (by simp only [hP]) ?_
    | with_reducible refine State.Spares.put (by simp only [hP]) ?_
    | with_reducible refine State.Spares.on (by simp only [hP]) ?_ | with_reducible refine State.Spares.ite ?_ ?_
    | with_reducible exact Room.Seen.refl _ _

def State.dieStepC : List Cell :=
  State.enforceC ++ State.modelToC ++ State.setModelC ++ State.tripActsC ++ State.warnActsC
theorem State.dieStep_spared {r : ModelRec} (hP : Cell.clear State.dieStepC o = true) (h : State.Spares o s0 s) :
    State.Spares o s0 (State.dieStep s r) := by
  simp only [State.dieStepC, Cell.clear_append_iff] at hP
  unfold State.dieStep
  dsimp only
  repeat' first
    | with_reducible exact h | with_reducible refine State.enforce_spared (by simp only [hP]) ?_
    | with_reducible refine State.modelTo_spared (by simp only [hP]) ?_
    | with_reducible refine State.setModel_spared (by simp only [hP]) ?_
    | with_reducible refine State.tripActs_spared (by simp only [hP]) ?_
    | with_reducible refine State.warnActs_spared (by simp only [hP]) ?_
    | with_reducible refine State.Spares.ite ?_ ?_

def State.giveBackC : List Cell := [.part .chgGrant, .part .pantry]
theorem State.giveBack_spared (hP : Cell.clear State.giveBackC o = true) (h : State.Spares o s0 s) :
    State.Spares o s0 (State.giveBack s) := by
  simp only [State.giveBackC, Cell.clear_cons_iff, Cell.clear_nil_iff] at hP
  unfold State.giveBack
  repeat' first
    | with_reducible exact h | with_reducible refine State.Spares.onPan (by simp only [hP]) ?_
    | with_reducible refine State.Spares.chgGrant (by simp only [hP]) ?_

def State.panToC : List Cell :=
  [.part .pantry, .reg PANTRY_EVENT_STATE, .reg CHG_STAT_STATE, .reg CHG_STAT_PAUSE_CAUSE, .reg CHG_PROG_PEAK] ++
    State.askRootC ++ State.giveBackC ++ State.refreshChgC
theorem State.panTo_spared {st : Nat} {fresh : Bool} (hP : Cell.clear State.panToC o = true) (h : State.Spares o s0 s) :
    State.Spares o s0 (State.panTo s st fresh) := by
  simp only [State.panToC, Cell.clear_append_iff, Cell.clear_cons_iff, Cell.clear_nil_iff] at hP
  unfold State.panTo
  dsimp only
  repeat' first
    | with_reducible exact h | with_reducible refine State.askRoot_spared (by simp only [hP]) ?_
    | with_reducible refine State.giveBack_spared (by simp only [hP]) ?_
    | with_reducible refine State.refreshChg_spared (by simp only [hP]) ?_
    | with_reducible refine State.Spares.onPan (by simp only [hP]) ?_
    | with_reducible refine State.Spares.on (by simp only [hP]) ?_
    | with_reducible refine State.Spares.put (by simp only [hP]) ?_
    | with_reducible refine State.Spares.off (by simp only [hP]) ?_ | with_reducible refine State.Spares.ite ?_ ?_

def State.endBatteryC : List Cell :=
  [.part .pantry, .reg PANTRY_EVENT_BATT_OFF, .reg CHG_STAT_BAT_LOW, .reg CHG_STAT_BATT_ACTIVE] ++ State.panToC ++
    State.writeModeC
theorem State.endBattery_spared (hP : Cell.clear State.endBatteryC o = true) (h : State.Spares o s0 s) :
    State.Spares o s0 (State.endBattery s) := by
  simp only [State.endBatteryC, Cell.clear_append_iff, Cell.clear_cons_iff, Cell.clear_nil_iff] at hP
  unfold State.endBattery
  dsimp only
  repeat' first
    | with_reducible exact h | with_reducible refine State.panTo_spared (by simp only [hP]) ?_
    | with_reducible refine State.writeMode_spared (by simp only [hP]) ?_
    | with_reducible refine State.Spares.onPan (by simp only [hP]) ?_
    | with_reducible refine State.Spares.on (by simp only [hP]) ?_
    | with_reducible refine State.Spares.off (by simp only [hP]) ?_ | with_reducible refine State.Spares.ite ?_ ?_
    | split

def State.jDeleteC : List Cell := State.commitC
theorem State.jDelete_spared {type : Nat} {key : Nat} (hP : Cell.clear State.jDeleteC o = true) (h : State.Spares o s0 s) :
    State.Spares o s0 (State.jDelete s type key) := by
  simp only [State.jDeleteC] at hP
  unfold State.jDelete
  repeat' first
    | with_reducible exact h | with_reducible refine State.commit_spared (by simp only [hP]) ?_
    | with_reducible refine State.Spares.ite ?_ ?_

def State.showSessionC : List Cell :=
  [.reg PORCH_NEXT_CHUNKS, .reg PORCH_NEXT_NEXT, .reg PORCH_SID_SID, .reg PORCH_STAT_SLOT, .reg PORCH_STAT_KIND,
    .reg PORCH_STAT_SESSION]
theorem State.showSession_spared (hP : Cell.clear State.showSessionC o = true) (h : State.Spares o s0 s) :
    State.Spares o s0 (State.showSession s) := by
  simp only [State.showSessionC, Cell.clear_cons_iff, Cell.clear_nil_iff] at hP
  unfold State.showSession
  repeat' first
    | with_reducible exact h | with_reducible refine State.Spares.off (by simp only [hP]) ?_
    | with_reducible refine State.Spares.put (by simp only [hP]) ?_
    | with_reducible refine State.Spares.on (by simp only [hP]) ?_ | split

def State.setSessionC : List Cell := [.part .porch] ++ State.showSessionC
theorem State.setSession_spared {x : Option Session} (hP : Cell.clear State.setSessionC o = true) (h : State.Spares o s0 s) :
    State.Spares o s0 (State.setSession s x) := by
  simp only [State.setSessionC, Cell.clear_append_iff, Cell.clear_cons_iff, Cell.clear_nil_iff] at hP
  unfold State.setSession
  repeat' first
    | with_reducible exact h | with_reducible refine State.showSession_spared (by simp only [hP]) ?_
    | with_reducible refine State.Spares.onPorch (by simp only [hP]) ?_

def State.endSessionC : List Cell := State.jDeleteC ++ State.setSessionC
theorem State.endSession_spared (hP : Cell.clear State.endSessionC o = true) (h : State.Spares o s0 s) :
    State.Spares o s0 (State.endSession s) := by
  simp only [State.endSessionC, Cell.clear_append_iff] at hP
  unfold State.endSession
  repeat' first
    | with_reducible exact h | with_reducible refine State.jDelete_spared (by simp only [hP]) ?_
    | with_reducible refine State.setSession_spared (by simp only [hP]) ?_ | split

def State.eraseForC : List Cell := [.part .cellar]
theorem State.eraseFor_spared {x : Session} {c : Nat} (hP : Cell.clear State.eraseForC o = true) (h : State.Spares o s0 s) :
    State.Spares o s0 (State.eraseFor s x c) := by
  simp only [State.eraseForC, Cell.clear_cons_iff, Cell.clear_nil_iff] at hP
  unfold State.eraseFor
  dsimp only
  repeat' first
    | with_reducible exact h | with_reducible refine State.Spares.ite ?_ ?_ | split
    | with_reducible refine State.Spares.cellar (by simp only [hP]) ?_

def State.extReadC : List Cell := State.busLoadC
theorem State.extRead_spared {r : Req} {addr : Nat} (hP : Cell.clear State.extReadC o = true) (h : State.Spares o s0 s) :
    State.Spares o s0 (State.extRead s r addr).2.2 := by
  simp only [State.extReadC] at hP
  unfold State.extRead
  dsimp only
  repeat' first
    | with_reducible exact h | with_reducible refine State.Spares.ite ?_ ?_
    | with_reducible refine State.busLoad_spared (by simp only [hP]) ?_ | split

theorem State.kickLink_spared {n : Fin 2} (h : State.Spares o s0 s) :
    State.Spares o s0 (State.kickLink s n) := by
  unfold State.kickLink
  repeat' first
    | with_reducible exact h | with_reducible refine State.Spares.onLink ?_
    | with_reducible refine State.Spares.ite ?_ ?_

theorem State.reply_spared {n : Fin 2} {b : List Byte} (h : State.Spares o s0 s) :
    State.Spares o s0 (State.reply s n b) := by
  unfold State.reply
  repeat' first
    | with_reducible exact h | with_reducible refine State.kickLink_spared ?_
    | with_reducible refine State.Spares.onLink ?_

theorem State.store_spared {n : Fin 2} {type : Nat} {f : Frame} {b : List Byte} (h : State.Spares o s0 s) :
    State.Spares o s0 (State.store s n type f b) := by
  unfold State.store
  repeat' first
    | with_reducible exact h | with_reducible refine State.Spares.onLink ?_

theorem State.finish_spared {n : Fin 2} {type : Nat} {f : Frame} {payload : List Byte} (h : State.Spares o s0 s) :
    State.Spares o s0 (State.finish s n type f payload) := by
  unfold State.finish
  dsimp only
  repeat' first
    | with_reducible exact h | with_reducible refine State.reply_spared ?_
    | with_reducible refine State.store_spared ?_

def State.fireEvalC : List Cell := State.writeModeC
theorem State.fireEval_spared (hP : Cell.clear State.fireEvalC o = true) (h : State.Spares o s0 s) :
    State.Spares o s0 (State.fireEval s) := by
  simp only [State.fireEvalC] at hP
  unfold State.fireEval
  repeat' first
    | with_reducible exact h | with_reducible refine State.writeMode_spared (by simp only [hP]) ?_
    | with_reducible refine State.Spares.ite ?_ ?_

def State.refusalC : List Cell := State.freeBytesC
theorem State.refusal_spared {status : Nat} {known : List Byte} {n : Nat} (hP : Cell.clear State.refusalC o = true)
    (h : State.Spares o s0 s) :
    State.Spares o s0 (State.refusal s status known n).2 := by
  simp only [State.refusalC] at hP
  unfold State.refusal
  dsimp only
  repeat' first
    | with_reducible exact h | with_reducible refine State.freeBytes_spared (by simp only [hP]) ?_

def State.linkRefuseC : List Cell := State.refusalC
theorem State.linkRefuse_spared {n : Fin 2} {type : Nat} {f : Frame} {status : Nat} {known : List Byte} {open' : Nat}
    (hP : Cell.clear State.linkRefuseC o = true) (h : State.Spares o s0 s) :
    State.Spares o s0 (State.linkRefuse s n type f status known open') := by
  simp only [State.linkRefuseC] at hP
  unfold State.linkRefuse
  dsimp only
  repeat' first
    | with_reducible exact h | with_reducible refine State.refusal_spared (by simp only [hP]) ?_
    | with_reducible refine State.reply_spared ?_

def State.judgedC : List Cell := State.linkRefuseC
theorem State.judged_spared {n : Fin 2} {type : Nat} {f : Frame} {form : Bool} {known : List Byte} {open' : Nat}
    {go : State → State} (hgo : ∀ t, State.Spares o s0 t → State.Spares o s0 (go t))
      (hP : Cell.clear State.judgedC o = true) (h : State.Spares o s0 s) :
    State.Spares o s0 (State.judged s n type f form known open' go) := by
  simp only [State.judgedC] at hP
  unfold State.judged
  dsimp only
  repeat' first
    | with_reducible exact h | with_reducible refine hgo _ ?_
    | with_reducible refine State.linkRefuse_spared (by simp only [hP]) ?_
    | with_reducible refine State.reply_spared ?_ | with_reducible refine State.Spares.ite ?_ ?_ | split

def State.linkCmdC : List Cell := State.judgedC
theorem State.linkCmd_spared {n : Fin 2} {type : Nat} {f : Frame} {form : Bool} {known : List Byte} {open' : Nat}
    {run : State → List Byte × State} (hrun : ∀ t, State.Spares o s0 t → State.Spares o s0 (run t).2)
      (hP : Cell.clear State.linkCmdC o = true) (h : State.Spares o s0 s) :
    State.Spares o s0 (State.linkCmd s n type f form known open' run) := by
  simp only [State.linkCmdC] at hP
  unfold State.linkCmd
  dsimp only
  repeat' first
    | with_reducible exact h | with_reducible refine hrun _ ?_
    | with_reducible refine State.judged_spared (fun _ h => ?_) (by simp only [hP]) ?_
    | with_reducible refine State.finish_spared ?_

def State.firmCmdC : List Cell := State.linkCmdC ++ State.linkRefuseC
theorem State.firmCmd_spared {n : Fin 2} {type : Nat} {f : Frame} {form : Bool} {held : Bool} {since : Nat}
    {known : List Byte} {open' : Nat} {run : State → List Byte × State}
      (hrun : ∀ t, State.Spares o s0 t → State.Spares o s0 (run t).2) (hP : Cell.clear State.firmCmdC o = true)
        (h : State.Spares o s0 s) :
    State.Spares o s0 (State.firmCmd s n type f form held since known open' run) := by
  simp only [State.firmCmdC, Cell.clear_append_iff] at hP
  unfold State.firmCmd
  dsimp only
  repeat' first
    | with_reducible exact h | with_reducible refine hrun _ ?_
    | with_reducible refine State.linkCmd_spared (fun _ h => ?_) (by simp only [hP]) ?_
    | with_reducible refine State.linkRefuse_spared (by simp only [hP]) ?_
    | with_reducible refine State.Spares.onLink ?_ | with_reducible refine State.Spares.ite ?_ ?_

def State.fuseStartC (op : Nat) : List Cell :=
  [.part .attic, .reg ATTIC_STAT_VPP_OK, .reg ATTIC_STAT_BUSY] ++
    (if op = 4 then (List.range 8).map (fun i => .reg (.whole (0x40020 + 4 * i))) else []) ++ State.fuseResultC
theorem State.fuseStart_spared {op : Nat} {vpp : Bool} {vdd : Bool} (hP : Cell.clear (State.fuseStartC op) o = true)
    (h : State.Spares o s0 s) :
    State.Spares o s0 (State.fuseStart s op vpp vdd) := by
  simp only [State.fuseStartC, Cell.clear_append_iff, Cell.clear_cons_iff, Cell.clear_nil_iff] at hP
  have hput := h.putB (f := ATTIC_STAT_VPP_OK) (b := vpp) (by simp only [hP])
  unfold State.fuseStart
  dsimp only
  split
  · exact State.Spares.attic (by simp only [hP]) (hput.on (by simp only [hP]))
  · have hres := State.fuseResult_spared (code := (s.putB ATTIC_STAT_VPP_OK vpp).fuseRefusal
      ((s.putB ATTIC_STAT_VPP_OK vpp).fuseCmd op) vpp vdd) (op := op) (pulses := 0) (by simp only [hP]) hput
    split
    · next hop =>
      rw [if_pos hop] at hP
      exact hres.setAll (by simp only [hP])
    · exact hres

def State.fuseWriteC (op : Nat) : List Cell := [.part .rerr] ++ State.accessErrC ++ State.fuseStartC op
theorem State.fuseWrite_spared {r : Req} {op : Nat} {vpp : Bool} {vdd : Bool}
    (hP : Cell.clear (State.fuseWriteC op) o = true) (h : State.Spares o s0 s) :
    State.Spares o s0 (State.fuseWrite s r op vpp vdd) := by
  simp only [State.fuseWriteC, Cell.clear_append_iff, Cell.clear_cons_iff, Cell.clear_nil_iff] at hP
  unfold State.fuseWrite
  repeat' first
    | with_reducible exact h | with_reducible refine State.accessErr_spared (by simp only [hP]) ?_
    | with_reducible refine State.fuseStart_spared (by simp only [hP]) ?_
    | with_reducible refine State.Spares.ite ?_ ?_ | split
    | with_reducible refine State.Spares.rerr (by simp only [hP]) ?_

def State.gotRecordC : List Cell := [.part .pair]
theorem State.gotRecord_spared {t : Nat} {bit : Nat} (hP : Cell.clear State.gotRecordC o = true) (h : State.Spares o s0 s) :
    State.Spares o s0 (State.gotRecord s t bit) := by
  simp only [State.gotRecordC, Cell.clear_cons_iff, Cell.clear_nil_iff] at hP
  unfold State.gotRecord
  dsimp only
  repeat' first
    | with_reducible exact h | with_reducible refine State.Spares.onPair (by simp only [hP]) ?_
    | with_reducible refine State.Spares.ite ?_ ?_

def State.setHaltBitC : List Cell := [.reg DBG_HALT0_ROOM, .reg DBG_HALT1_ROOM, .reg DBG_HALT1_HALL]
theorem State.setHaltBit_spared {c : CoreId} {b : Bool} (hP : Cell.clear State.setHaltBitC o = true)
    (h : State.Spares o s0 s) :
    State.Spares o s0 (State.setHaltBit s c b) := by
  simp only [State.setHaltBitC, Cell.clear_cons_iff, Cell.clear_nil_iff] at hP
  unfold State.setHaltBit
  repeat' first
    | with_reducible exact h | with_reducible refine State.Spares.put (by simp only [hP]) ?_
    | with_reducible refine State.Spares.putB (by simp only [hP]) ?_ | with_reducible refine State.Spares.ite ?_ ?_
    | split

def State.haltCoreC : List Cell := [.rooms, .roomFld STATUS_CORE_ALIVE] ++ State.onCoreOfC ++ State.setHaltBitC
theorem State.haltCore_spared {c : CoreId} {cause : Nat} {bk : Nat} (hP : Cell.clear State.haltCoreC o = true)
    (h : State.Spares o s0 s) :
    State.Spares o s0 (State.haltCore s c cause bk) := by
  simp only [State.haltCoreC, Cell.clear_append_iff, Cell.clear_cons_iff, Cell.clear_nil_iff] at hP
  unfold State.haltCore
  dsimp only
  repeat' first
    | with_reducible exact h | with_reducible refine State.onCoreOf_spared (by simp only [hP]) ?_
    | with_reducible refine State.setHaltBit_spared (by simp only [hP]) ?_
    | with_reducible refine State.Spares.onRoom (Cell.roomAt_of_rooms (by simp only [hP]) _) (fun r => ?_) ?_
    | with_reducible refine Room.Seen.off (by simp only [hP]) ?_ | with_reducible exact Room.Seen.refl _ _ | split

def State.heardSessionC : List Cell := [.part .porch]
theorem State.heardSession_spared (hP : Cell.clear State.heardSessionC o = true) (h : State.Spares o s0 s) :
    State.Spares o s0 (State.heardSession s) := by
  simp only [State.heardSessionC, Cell.clear_cons_iff, Cell.clear_nil_iff] at hP
  unfold State.heardSession
  repeat' first
    | with_reducible exact h | with_reducible refine State.Spares.onPorch (by simp only [hP]) ?_

def State.hlAckC : List Cell := State.linkRefuseC
theorem State.hlAck_spared {n : Fin 2} {f : Frame} (hP : Cell.clear State.hlAckC o = true) (h : State.Spares o s0 s) :
    State.Spares o s0 (State.hlAck n f s) := by
  simp only [State.hlAckC] at hP
  unfold State.hlAck
  repeat' first
    | with_reducible exact h | with_reducible refine State.linkRefuse_spared (by simp only [hP]) ?_
    | with_reducible refine State.Spares.onLink ?_ | with_reducible refine State.Spares.ite ?_ ?_

def State.hlActivateC : List Cell := State.activateC ++ State.firmCmdC
theorem State.hlActivate_spared {n : Fin 2} {held : Bool} {recOk : Bool} {since : Nat} {f : Frame}
    (hP : Cell.clear State.hlActivateC o = true) (h : State.Spares o s0 s) :
    State.Spares o s0 (State.hlActivate n held recOk since f s) := by
  simp only [State.hlActivateC, Cell.clear_append_iff] at hP
  unfold State.hlActivate
  dsimp only
  repeat' first
    | with_reducible exact h | with_reducible refine State.activate_spared (by simp only [hP]) ?_
    | with_reducible refine State.firmCmd_spared (fun _ h => ?_) (by simp only [hP]) ?_

def State.hlPingC : List Cell := State.linkRefuseC
theorem State.hlPing_spared {n : Fin 2} {f : Frame} (hP : Cell.clear State.hlPingC o = true) (h : State.Spares o s0 s) :
    State.Spares o s0 (State.hlPing n f s) := by
  simp only [State.hlPingC] at hP
  unfold State.hlPing
  repeat' first
    | with_reducible exact h | with_reducible refine State.linkRefuse_spared (by simp only [hP]) ?_
    | with_reducible refine State.reply_spared ?_ | with_reducible refine State.Spares.ite ?_ ?_

def State.hlReadC : List Cell := State.extReadC ++ State.linkCmdC ++ State.refusalC
theorem State.hlRead_spared {n : Fin 2} {f : Frame} (hP : Cell.clear State.hlReadC o = true) (h : State.Spares o s0 s) :
    State.Spares o s0 (State.hlRead n f s) := by
  simp only [State.hlReadC, Cell.clear_append_iff] at hP
  unfold State.hlRead
  dsimp only
  repeat' first
    | with_reducible exact h | with_reducible refine State.extRead_spared (by simp only [hP]) ?_
    | with_reducible refine State.linkCmd_spared (fun _ h => ?_) (by simp only [hP]) ?_
    | with_reducible refine State.refusal_spared (by simp only [hP]) ?_ | with_reducible refine State.Spares.ite ?_ ?_
    | split

def State.noteWriteC : List Cell := [.part .pair]
theorem State.noteWrite_spared {r : Req} {l : Loc} {addr : Nat} {v : Word} (hP : Cell.clear State.noteWriteC o = true)
    (h : State.Spares o s0 s) :
    State.Spares o s0 (State.noteWrite s r l addr v) := by
  simp only [State.noteWriteC, Cell.clear_cons_iff, Cell.clear_nil_iff] at hP
  unfold State.noteWrite
  repeat' first
    | with_reducible exact h | with_reducible refine State.Spares.onPair (by simp only [hP]) ?_
    | with_reducible refine State.Spares.ite ?_ ?_

theorem State.snapReply_spared {n : Fin 2} {code : Nat} {f : Frame} (h : State.Spares o s0 s) :
    State.Spares o s0 (State.snapReply n code f s) := by
  unfold State.snapReply
  repeat' first
    | with_reducible exact h | with_reducible refine State.finish_spared ?_

def State.snapTriggerC : List Cell := [.part .snap, .reg SNAP_CTRL_MISSED]
theorem State.snapTrigger_spared {src : Nat} (hP : Cell.clear State.snapTriggerC o = true) (h : State.Spares o s0 s) :
    State.Spares o s0 (State.snapTrigger s src) := by
  simp only [State.snapTriggerC, Cell.clear_cons_iff, Cell.clear_nil_iff] at hP
  unfold State.snapTrigger
  repeat' first
    | with_reducible exact h | with_reducible refine State.Spares.on (by simp only [hP]) ?_
    | with_reducible refine State.Spares.ite ?_ ?_ | split
    | with_reducible refine State.Spares.snap (by simp only [hP]) ?_

def State.snapTrigC : List Cell := [.part .snap, .reg SNAP_CTRL_MISSED] ++ State.snapTriggerC
theorem State.snapTrig_spared (hP : Cell.clear State.snapTrigC o = true) (h : State.Spares o s0 s) :
    State.Spares o s0 (State.snapTrig s) := by
  simp only [State.snapTrigC, Cell.clear_append_iff, Cell.clear_cons_iff, Cell.clear_nil_iff] at hP
  unfold State.snapTrig
  repeat' first
    | with_reducible exact h | with_reducible refine State.snapTrigger_spared (by simp only [hP]) ?_
    | with_reducible refine State.Spares.on (by simp only [hP]) ?_ | with_reducible refine State.Spares.ite ?_ ?_
    | split | with_reducible refine State.Spares.snap (by simp only [hP]) ?_

def State.hlSnapshotC : List Cell := State.judgedC ++ State.snapTrigC
theorem State.hlSnapshot_spared {n : Fin 2} {f : Frame} (hP : Cell.clear State.hlSnapshotC o = true)
    (h : State.Spares o s0 s) :
    State.Spares o s0 (State.hlSnapshot n f s) := by
  simp only [State.hlSnapshotC, Cell.clear_append_iff] at hP
  unfold State.hlSnapshot
  dsimp only
  repeat' first
    | with_reducible exact h | with_reducible refine State.judged_spared (fun _ h => ?_) (by simp only [hP]) ?_
    | with_reducible refine State.snapTrig_spared (by simp only [hP]) ?_
    | with_reducible refine State.snapReply_spared ?_ | with_reducible refine State.Spares.onLink ?_
    | with_reducible refine State.Spares.ite ?_ ?_

def State.hlSubscribeC (n : Fin 2) : List Cell :=
  [.reg (hlField n HL_SUB_KIND_KINDS), .reg (hlField n HL_SUB_PORT0_PORTS), .reg (hlField n HL_SUB_PORT1_PORTS),
    .reg (hlField n HL_SUB_PORT1_SLOTS)] ++ State.linkCmdC
theorem State.hlSubscribe_spared {n : Fin 2} {f : Frame} (hP : Cell.clear (State.hlSubscribeC n) o = true)
    (h : State.Spares o s0 s) :
    State.Spares o s0 (State.hlSubscribe n f s) := by
  simp only [State.hlSubscribeC, Cell.clear_append_iff, Cell.clear_cons_iff, Cell.clear_nil_iff] at hP
  unfold State.hlSubscribe
  dsimp only
  repeat' first
    | with_reducible exact h | with_reducible refine State.linkCmd_spared (fun _ h => ?_) (by simp only [hP]) ?_
    | with_reducible refine State.Spares.put (by simp only [hP]) ?_

theorem State.hlUnknown_spared {n : Fin 2} {type : Nat} {f : Frame} (h : State.Spares o s0 s) :
    State.Spares o s0 (State.hlUnknown n type f s) := by
  unfold State.hlUnknown
  repeat' first
    | with_reducible exact h | with_reducible refine State.reply_spared ?_

def State.holdPortsC : List Cell := [.rooms, .lands, .landFld LAND_SENSE_HOLD] ++ Room.senseHoldOnC
theorem State.holdPorts_spared {b : Fin 6} (hP : Cell.clear State.holdPortsC o = true) (h : State.Spares o s0 s) :
    State.Spares o s0 (State.holdPorts s b) := by
  simp only [State.holdPortsC, Cell.clear_append_iff, Cell.clear_cons_iff, Cell.clear_nil_iff] at hP
  unfold State.holdPorts
  dsimp only
  repeat' first
    | with_reducible exact h | with_reducible refine State.Spares.onLand (by simp only [hP]) (fun l => ?_) ?_
    | with_reducible refine State.Spares.onRoomE (Cell.roomAt_of_rooms (by simp only [hP]) _) (fun e r => ?_) ?_
    | with_reducible refine Landing.Seen.on (by simp only [hP]) ?_
    | with_reducible refine Room.senseHoldOn_seen (by simp only [hP]) ?_
    | with_reducible refine State.Spares.ite ?_ ?_ | with_reducible refine State.Spares.foldl (fun _ _ h => ?_) ?_
    | with_reducible exact Room.Seen.refl _ _ | with_reducible refine Room.Seen.ite ?_ ?_
    | with_reducible refine Room.Seen.foldl (fun _ _ hr => ?_) ?_ | with_reducible exact Landing.Seen.refl _ _

def State.jAppendC : List Cell := [.part .jnl, .reg JNL_RESULT_BUSY] ++ State.jResultC
theorem State.jAppend_spared {r : JRec} (hP : Cell.clear State.jAppendC o = true) (h : State.Spares o s0 s) :
    State.Spares o s0 (State.jAppend s r) := by
  simp only [State.jAppendC, Cell.clear_append_iff, Cell.clear_cons_iff, Cell.clear_nil_iff] at hP
  unfold State.jAppend
  dsimp only
  repeat' first
    | with_reducible exact h | with_reducible refine State.jResult_spared (by simp only [hP]) ?_
    | with_reducible refine State.Spares.on (by simp only [hP]) ?_ | with_reducible refine State.Spares.ite ?_ ?_
    | split | with_reducible refine State.Spares.jnl (by simp only [hP]) ?_

def State.jCheckpointC : List Cell := [.part .cellar, .part .jnl, .reg CEL_STAT_ERASING]
theorem State.jCheckpoint_spared (hP : Cell.clear State.jCheckpointC o = true) (h : State.Spares o s0 s) :
    State.Spares o s0 (State.jCheckpoint s) := by
  simp only [State.jCheckpointC, Cell.clear_cons_iff, Cell.clear_nil_iff] at hP
  exact State.Spares.cellarJnl (by simp only [hP]) (by simp only [hP]) (h.off (by simp only [hP]))

def State.jEraseC : List Cell := [.part .jnl, .reg CEL_STAT_ERASING, .reg JNL_STAT_COMPACTING]
theorem State.jErase_spared (hP : Cell.clear State.jEraseC o = true) (h : State.Spares o s0 s) :
    State.Spares o s0 (State.jErase s) := by
  simp only [State.jEraseC, Cell.clear_cons_iff, Cell.clear_nil_iff] at hP
  unfold State.jErase
  repeat' first
    | with_reducible exact h | with_reducible refine State.Spares.on (by simp only [hP]) ?_
    | with_reducible refine State.Spares.jnl (by simp only [hP]) ?_

def State.jSwitchC : List Cell :=
  [.part .cellar, .part .jnl, .reg JNL_STAT_COMPACTING, .reg JNL_STAT_USED, .reg JNL_STAT_AREA, .reg JNL_SEQ_SEQ,
    .reg JNL_WEAR1_ERASES, .reg JNL_WEAR0_ERASES, .reg JNL_EPOCH_EPOCH]
theorem State.jSwitch_spared {c : Ckpt} (hP : Cell.clear State.jSwitchC o = true) (h : State.Spares o s0 s) :
    State.Spares o s0 (State.jSwitch s c) := by
  simp only [State.jSwitchC, Cell.clear_cons_iff, Cell.clear_nil_iff] at hP
  unfold State.jSwitch
  dsimp only
  iterate 6 refine State.Spares.put (by simp only [hP]) ?_
  exact State.Spares.cellarJnl (by simp only [hP]) (by simp only [hP]) (h.off (by simp only [hP]))

def State.jCompactC : List Cell := State.jCheckpointC ++ State.jEraseC ++ State.jSwitchC
theorem State.jCompact_spared {stage : Fin 3} (hP : Cell.clear State.jCompactC o = true) (h : State.Spares o s0 s) :
    State.Spares o s0 (State.jCompact s stage) := by
  simp only [State.jCompactC, Cell.clear_append_iff] at hP
  unfold State.jCompact
  repeat' first
    | with_reducible exact h | with_reducible refine State.jCheckpoint_spared (by simp only [hP]) ?_
    | with_reducible refine State.jErase_spared (by simp only [hP]) ?_
    | with_reducible refine State.jSwitch_spared (by simp only [hP]) ?_ | with_reducible refine State.Spares.ite ?_ ?_
    | split

def State.jnlTickC : List Cell := State.jPageC
theorem State.jnlTick_spared (hP : Cell.clear State.jnlTickC o = true) (h : State.Spares o s0 s) :
    State.Spares o s0 (State.jnlTick s) := by
  simp only [State.jnlTickC] at hP
  unfold State.jnlTick
  repeat' first
    | with_reducible exact h | with_reducible refine State.jPage_spared (by simp only [hP]) ?_
    | with_reducible refine State.Spares.ite ?_ ?_

def State.jnlWriteC : List Cell := [.part .rerr] ++ State.accessErrC
theorem State.jnlWrite_spared {r : Req} {f : State → State} (hf : ∀ t, State.Spares o s0 t → State.Spares o s0 (f t))
    (hP : Cell.clear State.jnlWriteC o = true) (h : State.Spares o s0 s) :
    State.Spares o s0 (State.jnlWrite s r f) := by
  simp only [State.jnlWriteC, Cell.clear_append_iff, Cell.clear_cons_iff, Cell.clear_nil_iff] at hP
  unfold State.jnlWrite
  repeat' first
    | with_reducible exact h | with_reducible refine hf _ ?_
    | with_reducible refine State.accessErr_spared (by simp only [hP]) ?_
    | with_reducible refine State.Spares.ite ?_ ?_ | split
    | with_reducible refine State.Spares.rerr (by simp only [hP]) ?_

def State.kickC : List Cell := [.rooms, .roomFld STATUS_CORE_ALIVE, .roomPart .kickAt] ++ State.coreMissC
theorem State.kick_spared {p : Fin 48} {key : Nat} (hP : Cell.clear State.kickC o = true) (h : State.Spares o s0 s) :
    State.Spares o s0 (State.kick s p key) := by
  simp only [State.kickC, Cell.clear_append_iff, Cell.clear_cons_iff, Cell.clear_nil_iff] at hP
  unfold State.kick
  repeat' first
    | with_reducible exact h | with_reducible refine State.coreMiss_spared (by simp only [hP]) ?_
    | with_reducible refine State.Spares.onRoom (Cell.roomAt_of_rooms (by simp only [hP]) _) (fun r => ?_) ?_
    | with_reducible refine Room.Seen.on (by simp only [hP]) ?_ | with_reducible refine State.Spares.ite ?_ ?_
    | with_reducible exact Room.Seen.refl _ _ | with_reducible refine Room.Seen.ite ?_ ?_ | split
    | with_reducible refine Room.Seen.kickAt (by simp only [hP]) ?_

def State.landInternalC (f : Field) : List Cell := [.lands, .landFld f] ++ State.handUpC ++ State.startShedC
theorem State.landInternal_spared {b : Fin 6} {f : Field} (hP : Cell.clear (State.landInternalC f) o = true)
    (h : State.Spares o s0 s) :
    State.Spares o s0 (State.landInternal s b f) := by
  simp only [State.landInternalC, Cell.clear_append_iff, Cell.clear_cons_iff, Cell.clear_nil_iff] at hP
  have hon := h.onLand (b := b) (by simp only [hP]) fun l => Landing.Seen.on (f := f) (by simp only [hP]) (.refl _ _)
  unfold State.landInternal
  dsimp only
  refine .ite (State.handUp_spared (by simp only [hP]) hon) (.ite hon ?_)
  exact State.Spares.onLand (by simp only [hP]) (fun l => .mk (Landing.landRegs_of_seen (.refl _ _)))
    (State.startShed_spared (by simp only [hP]) hon)

def State.pgLossC : List Cell :=
  [.lands, .landFld HS_EVENT_PG_OFF, .landFld HS_STAT_PG] ++ Landing.slotFaultC HS_FAULT_PG_LOSS ++ State.startShedC
theorem State.pgLoss_spared {b : Fin 6} (hP : Cell.clear State.pgLossC o = true) (h : State.Spares o s0 s) :
    State.Spares o s0 (State.pgLoss s b) := by
  simp only [State.pgLossC, Cell.clear_append_iff, Cell.clear_cons_iff, Cell.clear_nil_iff] at hP
  unfold State.pgLoss
  dsimp only
  repeat' first
    | with_reducible exact h | with_reducible refine State.startShed_spared (by simp only [hP]) ?_
    | with_reducible refine State.Spares.onLand (by simp only [hP]) (fun l => ?_) ?_
    | with_reducible refine Landing.Seen.on (by simp only [hP]) ?_
    | with_reducible refine Landing.Seen.off (by simp only [hP]) ?_
    | with_reducible refine Landing.slotFault_seen (by simp only [hP]) ?_
    | with_reducible refine State.Spares.ite ?_ ?_ | with_reducible exact Landing.Seen.refl _ _
    | with_reducible refine Landing.Seen.ite ?_ ?_ | split | with_reducible refine Landing.Seen.mk ?_
    | with_reducible refine Landing.landRegs_of_seen ?_

def State.slotFetShortC : List Cell := [.lands] ++ Landing.slotFaultC HS_FAULT_FET_SHORT ++ State.slotToC
theorem State.slotFetShort_spared {b : Fin 6} (hP : Cell.clear State.slotFetShortC o = true) (h : State.Spares o s0 s) :
    State.Spares o s0 (State.slotFetShort s b) := by
  simp only [State.slotFetShortC, Cell.clear_append_iff, Cell.clear_cons_iff, Cell.clear_nil_iff] at hP
  unfold State.slotFetShort
  dsimp only
  repeat' first
    | with_reducible exact h | with_reducible refine State.slotTo_spared (by simp only [hP]) ?_
    | with_reducible refine State.Spares.onLand (by simp only [hP]) (fun l => ?_) ?_
    | with_reducible refine Landing.slotFault_seen (by simp only [hP]) ?_
    | with_reducible refine State.Spares.ite ?_ ?_ | with_reducible exact Landing.Seen.refl _ _

def State.slotRetryC : List Cell :=
  [.lands, .landFld HS_STAT_COUNT, .landFld HS_EVENT_ATTEMPT_FAIL, .landFld HS_EVENT_EXHAUSTED] ++ State.slotToC
theorem State.slotRetry_spared {b : Fin 6} {fast : Bool} (hP : Cell.clear State.slotRetryC o = true)
    (h : State.Spares o s0 s) :
    State.Spares o s0 (State.slotRetry s b fast) := by
  simp only [State.slotRetryC, Cell.clear_append_iff, Cell.clear_cons_iff, Cell.clear_nil_iff] at hP
  unfold State.slotRetry
  dsimp only
  repeat' first
    | with_reducible exact h | with_reducible refine State.slotTo_spared (by simp only [hP]) ?_
    | with_reducible refine State.Spares.onLand (by simp only [hP]) (fun l => ?_) ?_
    | with_reducible refine Landing.Seen.put (by simp only [hP]) ?_
    | with_reducible refine Landing.Seen.on (by simp only [hP]) ?_ | with_reducible refine State.Spares.ite ?_ ?_
    | with_reducible exact Landing.Seen.refl _ _ | with_reducible refine Landing.Seen.ite ?_ ?_ | split
    | with_reducible refine Landing.Seen.mk ?_ | with_reducible refine Landing.landRegs_of_seen ?_

def State.landFaultC : List Cell :=
  [.lands] ++ Landing.latchShortC ++ Landing.slotFaultC HS_FAULT_BREAKER ++ Landing.slotFaultC HS_FAULT_INRUSH_TO ++
    Landing.slotFaultC HS_FAULT_SEAT_LIFT ++ Landing.slotFaultC HS_FAULT_SENSE_OPEN ++ State.holdPortsC ++
    State.landInternalC LAND_FAULT_WDT ++ State.landInternalC LAND_FAULT_PARITY ++ State.pgLossC ++
    State.slotFetShortC ++ State.slotRetryC ++ State.slotToC ++ State.slotTripC
theorem State.landFault_spared {b : Fin 6} {c : SlotCause} (hP : Cell.clear State.landFaultC o = true)
    (h : State.Spares o s0 s) :
    State.Spares o s0 (State.landFault s b c) := by
  simp only [State.landFaultC, Cell.clear_append_iff, Cell.clear_cons_iff, Cell.clear_nil_iff] at hP
  unfold State.landFault
  dsimp only
  repeat' first
    | with_reducible exact h | with_reducible refine State.holdPorts_spared (by simp only [hP]) ?_
    | with_reducible refine State.landInternal_spared (by simp only [hP]) ?_
    | with_reducible refine State.pgLoss_spared (by simp only [hP]) ?_
    | with_reducible refine State.slotFetShort_spared (by simp only [hP]) ?_
    | with_reducible refine State.slotRetry_spared (by simp only [hP]) ?_
    | with_reducible refine State.slotTo_spared (by simp only [hP]) ?_
    | with_reducible refine State.slotTrip_spared (by simp only [hP]) ?_
    | with_reducible refine State.Spares.onLand (by simp only [hP]) (fun l => ?_) ?_
    | with_reducible refine Landing.latchShort_seen (by simp only [hP]) ?_
    | with_reducible refine Landing.slotFault_seen (by simp only [hP]) ?_
    | with_reducible refine State.Spares.ite ?_ ?_ | with_reducible exact Landing.Seen.refl _ _
    | with_reducible refine Landing.Seen.ite ?_ ?_ | split | with_reducible refine Landing.Seen.mk ?_
    | with_reducible refine Landing.landRegs_of_seen ?_

def State.laneLostC (k : Fin 2) : List Cell :=
  [.part .pair, .reg STAIR_ERR_BUBBLE, .reg STAIR_STAT_RX0_LOCK, .reg STAIR_STAT_RX1_LOCK] ++ State.badCopyC
theorem State.laneLost_spared {k : Fin 2} {copy : Bool} (hP : Cell.clear (State.laneLostC k) o = true)
    (h : State.Spares o s0 s) :
    State.Spares o s0 (State.laneLost s k copy) := by
  simp only [State.laneLostC, Cell.clear_append_iff, Cell.clear_cons_iff, Cell.clear_nil_iff] at hP
  have hlock : Cell.misses (.reg (lockField k)) o = true := by
    unfold lockField
    split <;> simp only [hP]
  unfold State.laneLost
  dsimp only
  refine State.Spares.pair (by simp only [hP]) (.ite (State.badCopy_spared (by simp only [hP]) ?_) ?_) <;> exact
    (h.off hlock).put (by simp only [hP])

def State.latchPanC (f : Field) : List Cell := State.panFaultC f ++ State.panToC
theorem State.latchPan_spared {f : Field} (hP : Cell.clear (State.latchPanC f) o = true) (h : State.Spares o s0 s) :
    State.Spares o s0 (State.latchPan s f) := by
  simp only [State.latchPanC, Cell.clear_append_iff] at hP
  unfold State.latchPan
  dsimp only
  repeat' first
    | with_reducible exact h | with_reducible refine State.panFault_spared (by simp only [hP]) ?_
    | with_reducible refine State.panTo_spared (by simp only [hP]) ?_ | with_reducible refine State.Spares.ite ?_ ?_

def State.loadTbC : List Cell := [.part .clk, .reg TB_CTRL_LOAD_REFUSED]
theorem State.loadTb_spared (hP : Cell.clear State.loadTbC o = true) (h : State.Spares o s0 s) :
    State.Spares o s0 (State.loadTb s) := by
  simp only [State.loadTbC, Cell.clear_cons_iff, Cell.clear_nil_iff] at hP
  unfold State.loadTb
  repeat' first
    | with_reducible exact h | with_reducible refine State.Spares.onClk (by simp only [hP]) ?_
    | with_reducible refine State.Spares.on (by simp only [hP]) ?_ | with_reducible refine State.Spares.ite ?_ ?_

def State.logTakeoverC : List Cell :=
  [.part .pair, .reg TAKEOVER_LOG_PATH, .reg TAKEOVER_LOG_WINGS, .reg TAKEOVER_TB_TB, .reg TAKEOVER_LOG_DURATION]
theorem State.logTakeover_spared (hP : Cell.clear State.logTakeoverC o = true) (h : State.Spares o s0 s) :
    State.Spares o s0 (State.logTakeover s) := by
  simp only [State.logTakeoverC, Cell.clear_cons_iff, Cell.clear_nil_iff] at hP
  unfold State.logTakeover
  dsimp only
  repeat' first
    | with_reducible exact h | with_reducible refine State.Spares.put (by simp only [hP]) ?_
    | with_reducible refine State.Spares.ite ?_ ?_ | split
    | with_reducible refine State.Spares.pair (by simp only [hP]) ?_

def State.setTbC : List Cell := [.reg (.whole 0x100), .reg (.whole 0x104)]
theorem State.setTb_spared {v : Nat} (hP : Cell.clear State.setTbC o = true) (h : State.Spares o s0 s) :
    State.Spares o s0 (State.setTb s v) := by
  simp only [State.setTbC, Cell.clear_cons_iff, Cell.clear_nil_iff] at hP
  exact h.setTwo (by simp only [hP]) (by simp only [hP])

def State.makeUpC : List Cell := [.part .clk] ++ State.setTbC
theorem State.makeUp_spared (hP : Cell.clear State.makeUpC o = true) (h : State.Spares o s0 s) :
    State.Spares o s0 (State.makeUp s) := by
  simp only [State.makeUpC, Cell.clear_append_iff, Cell.clear_cons_iff, Cell.clear_nil_iff] at hP
  unfold State.makeUp
  repeat' first
    | with_reducible exact h | with_reducible refine State.setTb_spared (by simp only [hP]) ?_
    | with_reducible refine State.Spares.onClk (by simp only [hP]) ?_

def State.markStaleC : List Cell := [.part .pair]
theorem State.markStale_spared {ts : Nat} (hP : Cell.clear State.markStaleC o = true) (h : State.Spares o s0 s) :
    State.Spares o s0 (State.markStale s ts) := by
  simp only [State.markStaleC, Cell.clear_cons_iff, Cell.clear_nil_iff] at hP
  unfold State.markStale
  repeat' first
    | with_reducible exact h | with_reducible refine State.Spares.onPair (by simp only [hP]) ?_

def State.mirrorHoldC : List Cell := [.rooms, .roomPart .slotHold]
theorem State.mirrorHold_spared {b : Fin 6} (hP : Cell.clear State.mirrorHoldC o = true) (h : State.Spares o s0 s) :
    State.Spares o s0 (State.mirrorHold s b) := by
  simp only [State.mirrorHoldC, Cell.clear_cons_iff, Cell.clear_nil_iff] at hP
  unfold State.mirrorHold
  dsimp only
  repeat' first
    | with_reducible exact h
    | with_reducible refine State.Spares.onRoom (Cell.roomAt_of_rooms (by simp only [hP]) _) (fun r => ?_) ?_
    | with_reducible refine State.Spares.ite ?_ ?_ | with_reducible refine State.Spares.foldl (fun _ _ h => ?_) ?_
    | with_reducible exact Room.Seen.refl _ _ | with_reducible refine Room.Seen.ite ?_ ?_
    | with_reducible refine Room.Seen.foldl (fun _ _ hr => ?_) ?_ | split
    | with_reducible refine Room.Seen.slotHold (by simp only [hP]) ?_

def State.modelStepC : List Cell :=
  State.clampActsC ++ State.clampModelC ++ State.modelToC ++ State.setModelC ++ State.tripActsC ++ State.warnActsC
theorem State.modelStep_spared {m : Nat} {r : ModelRec} (hP : Cell.clear State.modelStepC o = true)
    (h : State.Spares o s0 s) :
    State.Spares o s0 (State.modelStep s m r) := by
  simp only [State.modelStepC, Cell.clear_append_iff] at hP
  unfold State.modelStep
  dsimp only
  repeat' first
    | with_reducible exact h | with_reducible refine State.clampActs_spared (by simp only [hP]) ?_
    | with_reducible refine State.clampModel_spared (by simp only [hP]) ?_
    | with_reducible refine State.modelTo_spared (by simp only [hP]) ?_
    | with_reducible refine State.setModel_spared (by simp only [hP]) ?_
    | with_reducible refine State.tripActs_spared (by simp only [hP]) ?_
    | with_reducible refine State.warnActs_spared (by simp only [hP]) ?_
    | with_reducible refine State.Spares.ite ?_ ?_ | split

theorem State.nextReply_spared {status : Nat} {next : Nat} (h : State.Spares o s0 s) :
    State.Spares o s0 (State.nextReply s status next).2 := by
  unfold State.nextReply
  repeat' first
    | with_reducible exact h

def State.ntcConvertC : List Cell :=
  [.part .pantry, .reg BAT_TEMP_T, .reg CHG_STAT_NTC_OK] ++ State.free?C ++ State.latchPanC PANTRY_FAULT_NTC_FAULT
theorem State.ntcConvert_spared {uv : Nat} (hP : Cell.clear State.ntcConvertC o = true) (h : State.Spares o s0 s) :
    State.Spares o s0 (State.ntcConvert s uv) := by
  simp only [State.ntcConvertC, Cell.clear_append_iff, Cell.clear_cons_iff, Cell.clear_nil_iff] at hP
  unfold State.ntcConvert
  dsimp only
  repeat' first
    | with_reducible exact h | with_reducible refine State.free?_spared (by simp only [hP]) ?_
    | with_reducible refine State.latchPan_spared (by simp only [hP]) ?_
    | with_reducible refine State.Spares.onPan (by simp only [hP]) ?_
    | with_reducible refine State.Spares.put (by simp only [hP]) ?_
    | with_reducible refine State.Spares.putB (by simp only [hP]) ?_ | with_reducible refine State.Spares.ite ?_ ?_
    | split

def State.updateKindC : List Cell := State.updateC
theorem State.updateKind_spared {code : Nat} {kind : Nat} {result : Nat} {version : Nat}
    (hP : Cell.clear State.updateKindC o = true) (h : State.Spares o s0 s) :
    State.Spares o s0 (State.updateKind s code kind result version) := by
  simp only [State.updateKindC] at hP
  unfold State.updateKind
  repeat' first
    | with_reducible exact h | with_reducible refine State.update_spared (by simp only [hP]) ?_

def State.openAgainC : List Cell := State.endSessionC ++ State.eraseForC ++ State.setSessionC ++ State.updateKindC
theorem State.openAgain_spared {x : Session} (hP : Cell.clear State.openAgainC o = true) (h : State.Spares o s0 s) :
    State.Spares o s0 (State.openAgain s x).2 := by
  simp only [State.openAgainC, Cell.clear_append_iff] at hP
  unfold State.openAgain
  dsimp only
  repeat' first
    | with_reducible exact h | with_reducible refine State.endSession_spared (by simp only [hP]) ?_
    | with_reducible refine State.eraseFor_spared (by simp only [hP]) ?_
    | with_reducible refine State.setSession_spared (by simp only [hP]) ?_
    | with_reducible refine State.updateKind_spared (by simp only [hP]) ?_
    | with_reducible refine State.Spares.ite ?_ ?_ | split

def State.showStagedC : List Cell := [.reg UPD_STAT_STAGED]
theorem State.showStaged_spared (hP : Cell.clear State.showStagedC o = true) (h : State.Spares o s0 s) :
    State.Spares o s0 (State.showStaged s) := by
  simp only [State.showStagedC, Cell.clear_cons_iff, Cell.clear_nil_iff] at hP
  unfold State.showStaged
  repeat' first
    | with_reducible exact h | with_reducible refine State.Spares.put (by simp only [hP]) ?_

def State.unstageC : List Cell := [.part .porch] ++ State.jDeleteC ++ State.showStagedC
theorem State.unstage_spared {kind : Nat} {slot : Nat} (hP : Cell.clear State.unstageC o = true) (h : State.Spares o s0 s) :
    State.Spares o s0 (State.unstage s kind slot) := by
  simp only [State.unstageC, Cell.clear_append_iff, Cell.clear_cons_iff, Cell.clear_nil_iff] at hP
  unfold State.unstage
  repeat' first
    | with_reducible exact h | with_reducible refine State.jDelete_spared (by simp only [hP]) ?_
    | with_reducible refine State.showStaged_spared (by simp only [hP]) ?_
    | with_reducible refine State.Spares.onPorch (by simp only [hP]) ?_ | with_reducible refine State.Spares.ite ?_ ?_
    | split

def State.openNewC : List Cell :=
  State.commitC ++ State.endSessionC ++ State.refusalC ++ State.setSessionC ++ State.unstageC ++ State.updateKindC
theorem State.openNew_spared {x : Session} {jok : Bool} (hP : Cell.clear State.openNewC o = true) (h : State.Spares o s0 s) :
    State.Spares o s0 (State.openNew s x jok).2 := by
  simp only [State.openNewC, Cell.clear_append_iff] at hP
  unfold State.openNew
  dsimp only
  repeat' first
    | with_reducible exact h | with_reducible refine State.commit_spared (by simp only [hP]) ?_
    | with_reducible refine State.endSession_spared (by simp only [hP]) ?_
    | with_reducible refine State.refusal_spared (by simp only [hP]) ?_
    | with_reducible refine State.setSession_spared (by simp only [hP]) ?_
    | with_reducible refine State.unstage_spared (by simp only [hP]) ?_
    | with_reducible refine State.updateKind_spared (by simp only [hP]) ?_
    | with_reducible refine State.Spares.ite ?_ ?_ | split

def State.panMeasureC : List Cell :=
  [.part .pantry, .reg PAN_IMEAS_IB, .reg PAN_MEAS_SYS, .reg PAN_MEAS_VBAT, .reg PAN_IMEAS_VBUS_IN,
    .reg CHG_STAT_QID_FULL] ++ State.refreshChgC
theorem State.panMeasure_spared {m : PanMeas} (hP : Cell.clear State.panMeasureC o = true) (h : State.Spares o s0 s) :
    State.Spares o s0 (State.panMeasure s m) := by
  simp only [State.panMeasureC, Cell.clear_append_iff, Cell.clear_cons_iff, Cell.clear_nil_iff] at hP
  unfold State.panMeasure
  dsimp only
  repeat' first
    | with_reducible exact h | with_reducible refine State.refreshChg_spared (by simp only [hP]) ?_
    | with_reducible refine State.Spares.onPan (by simp only [hP]) ?_
    | with_reducible refine State.Spares.put (by simp only [hP]) ?_
    | with_reducible refine State.Spares.putB (by simp only [hP]) ?_

def State.panRestartC : List Cell := [.part .pantry] ++ State.panToC ++ State.refreshChgC
theorem State.panRestart_spared (hP : Cell.clear State.panRestartC o = true) (h : State.Spares o s0 s) :
    State.Spares o s0 (State.panRestart s) := by
  simp only [State.panRestartC, Cell.clear_append_iff, Cell.clear_cons_iff, Cell.clear_nil_iff] at hP
  unfold State.panRestart
  dsimp only
  repeat' first
    | with_reducible exact h | with_reducible refine State.panTo_spared (by simp only [hP]) ?_
    | with_reducible refine State.refreshChg_spared (by simp only [hP]) ?_
    | with_reducible refine State.Spares.onPan (by simp only [hP]) ?_ | with_reducible refine State.Spares.ite ?_ ?_

def State.panTickC : List Cell := [.part .pantry]
theorem State.panTick_spared (hP : Cell.clear State.panTickC o = true) (h : State.Spares o s0 s) :
    State.Spares o s0 (State.panTick s) := by
  simp only [State.panTickC, Cell.clear_cons_iff, Cell.clear_nil_iff] at hP
  unfold State.panTick
  repeat' first
    | with_reducible exact h | with_reducible refine State.Spares.onPan (by simp only [hP]) ?_
    | with_reducible refine State.Spares.ite ?_ ?_

def State.pauseForC : List Cell :=
  [.part .pantry, .reg CHG_STAT_PAUSE_CAUSE, .reg PANTRY_EVENT_BUDGET_PAUSE] ++ State.giveBackC ++ State.panToC
theorem State.pauseFor_spared {cause : Nat} (hP : Cell.clear State.pauseForC o = true) (h : State.Spares o s0 s) :
    State.Spares o s0 (State.pauseFor s cause) := by
  simp only [State.pauseForC, Cell.clear_append_iff, Cell.clear_cons_iff, Cell.clear_nil_iff] at hP
  unfold State.pauseFor
  dsimp only
  repeat' first
    | with_reducible exact h | with_reducible refine State.giveBack_spared (by simp only [hP]) ?_
    | with_reducible refine State.panTo_spared (by simp only [hP]) ?_
    | with_reducible refine State.Spares.onPan (by simp only [hP]) ?_
    | with_reducible refine State.Spares.put (by simp only [hP]) ?_
    | with_reducible refine State.Spares.on (by simp only [hP]) ?_ | with_reducible refine State.Spares.ite ?_ ?_

def State.porchSendC : List Cell := [.part .porch]
theorem State.porchSend_spared {b : List Byte} (hP : Cell.clear State.porchSendC o = true) (h : State.Spares o s0 s) :
    State.Spares o s0 (State.porchSend s b) := by
  simp only [State.porchSendC, Cell.clear_cons_iff, Cell.clear_nil_iff] at hP
  unfold State.porchSend
  repeat' first
    | with_reducible exact h | with_reducible refine State.Spares.onPorch (by simp only [hP]) ?_

def State.porchTickC : List Cell := [.part .porch]
theorem State.porchTick_spared (hP : Cell.clear State.porchTickC o = true) (h : State.Spares o s0 s) :
    State.Spares o s0 (State.porchTick s) := by
  simp only [State.porchTickC, Cell.clear_cons_iff, Cell.clear_nil_iff] at hP
  unfold State.porchTick
  repeat' first
    | with_reducible exact h | with_reducible refine State.Spares.onPorch (by simp only [hP]) ?_

def State.portPinC : List Cell :=
  [.rooms, .roomPart .conv, .lands, .landFld LAND_SENSE_PORT_PIN, .landFld LAND_SENSE_HOLD] ++
    Room.faultC FAULT_SENSE_OPEN ++ Room.pinTestC ++ Room.senseHoldOnC ++ State.enterSafeC FAULT_REG_LOSS
theorem State.portPin_spared {p : Fin 48} {k : Nat} {bad : Bool} (hP : Cell.clear State.portPinC o = true)
    (h : State.Spares o s0 s) :
    State.Spares o s0 (State.portPin s p k bad) := by
  simp only [State.portPinC, Cell.clear_append_iff, Cell.clear_cons_iff, Cell.clear_nil_iff] at hP
  unfold State.portPin
  dsimp only
  repeat' first
    | with_reducible exact h | with_reducible refine State.enterSafe_spared (by simp only [hP]) ?_
    | with_reducible refine State.Spares.onLand (by simp only [hP]) (fun l => ?_) ?_
    | with_reducible refine State.Spares.onRoom (Cell.roomAt_of_rooms (by simp only [hP]) _) (fun r => ?_) ?_
    | with_reducible refine State.Spares.onRoomE (Cell.roomAt_of_rooms (by simp only [hP]) _) (fun e r => ?_) ?_
    | with_reducible refine Landing.Seen.put (by simp only [hP]) ?_
    | with_reducible refine Landing.Seen.on (by simp only [hP]) ?_
    | with_reducible refine Room.fault_seen (by simp only [hP]) ?_
    | with_reducible refine Room.Seen.onConv (by simp only [hP]) ?_
    | with_reducible refine Room.pinTest_seen (by simp only [hP]) ?_
    | with_reducible refine Room.senseHoldOn_seen (by simp only [hP]) ?_
    | with_reducible refine State.Spares.ite ?_ ?_ | with_reducible exact Room.Seen.refl _ _
    | with_reducible refine Room.Seen.ite ?_ ?_ | with_reducible exact Landing.Seen.refl _ _

def State.postGoC : List Cell := State.fwPostC
theorem State.postGo_spared (hP : Cell.clear State.postGoC o = true) (h : State.Spares o s0 s) :
    State.Spares o s0 (State.postGo s) := by
  simp only [State.postGoC] at hP
  unfold State.postGo
  dsimp only
  repeat' first
    | with_reducible exact h | with_reducible refine State.fwPost_spared (by simp only [hP]) ?_

def State.refreshPeerC : List Cell :=
  [.part .pair, .reg PAIR_STAT_PEER_HELD, .reg PAIR_STAT_YIELDED] ++ State.refreshConC ++ State.refreshKeeperC
theorem State.refreshPeer_spared {path : Nat} (hP : Cell.clear State.refreshPeerC o = true) (h : State.Spares o s0 s) :
    State.Spares o s0 (State.refreshPeer s path) := by
  simp only [State.refreshPeerC, Cell.clear_append_iff, Cell.clear_cons_iff, Cell.clear_nil_iff] at hP
  unfold State.refreshPeer
  dsimp only
  repeat' first
    | with_reducible exact h | with_reducible refine State.refreshCon_spared (by simp only [hP]) ?_
    | with_reducible refine State.refreshKeeper_spared (by simp only [hP]) ?_
    | with_reducible refine State.Spares.onPair (by simp only [hP]) ?_
    | with_reducible refine State.Spares.put (by simp only [hP]) ?_
    | with_reducible refine State.Spares.putB (by simp only [hP]) ?_

def State.pulseC : List Cell :=
  [.part .pair, .reg PAIR_EVENT_PEER_FOUND, .reg PAIR_STAT_PEER_ALIVE, .reg KEY_STAT_PEER_CODE] ++
    State.checkReleaseC ++ State.refreshPeerC
theorem State.pulse_spared {ns : Nat} (hP : Cell.clear State.pulseC o = true) (h : State.Spares o s0 s) :
    State.Spares o s0 (State.pulse s ns) := by
  simp only [State.pulseC, Cell.clear_append_iff, Cell.clear_cons_iff, Cell.clear_nil_iff] at hP
  unfold State.pulse
  dsimp only
  repeat' first
    | with_reducible exact h | with_reducible refine State.checkRelease_spared (by simp only [hP]) ?_
    | with_reducible refine State.refreshPeer_spared (by simp only [hP]) ?_
    | with_reducible refine State.Spares.onPair (by simp only [hP]) ?_
    | with_reducible refine State.Spares.on (by simp only [hP]) ?_
    | with_reducible refine State.Spares.put (by simp only [hP]) ?_ | with_reducible refine State.Spares.ite ?_ ?_
    | split

def State.qidOffC : List Cell := [.reg CHG_STAT_QID_FULL, .reg CHG_STAT_QID_ON] ++ State.refreshChgC
theorem State.qidOff_spared (hP : Cell.clear State.qidOffC o = true) (h : State.Spares o s0 s) :
    State.Spares o s0 (State.qidOff s) := by
  simp only [State.qidOffC, Cell.clear_append_iff, Cell.clear_cons_iff, Cell.clear_nil_iff] at hP
  unfold State.qidOff
  repeat' first
    | with_reducible exact h | with_reducible refine State.refreshChg_spared (by simp only [hP]) ?_
    | with_reducible refine State.Spares.off (by simp only [hP]) ?_

def State.refreshHoldC : List Cell := [.lands, .landFld LAND_SENSE_HOLD]
theorem State.refreshHold_spared {b : Fin 6} (hP : Cell.clear State.refreshHoldC o = true) (h : State.Spares o s0 s) :
    State.Spares o s0 (State.refreshHold s b) := by
  simp only [State.refreshHoldC, Cell.clear_cons_iff, Cell.clear_nil_iff] at hP
  unfold State.refreshHold
  repeat' first
    | with_reducible exact h | with_reducible refine State.Spares.onLand (by simp only [hP]) (fun l => ?_) ?_
    | with_reducible refine Landing.Seen.putB (by simp only [hP]) ?_ | with_reducible exact Landing.Seen.refl _ _

def State.refreshStaleC : List Cell :=
  [.reg PAIR_EVENT_STALE_CHANGE, .reg PAIR_STAT_READY, .rooms, .roomFld EVENT_MIRROR_STALE,
    .roomFld STATUS_MIRROR_STALE, .reg (.whole 0x60014), .reg (.whole 0x60018)]
theorem State.refreshStale_spared (hP : Cell.clear State.refreshStaleC o = true) (h : State.Spares o s0 s) :
    State.Spares o s0 (State.refreshStale s) := by
  simp only [State.refreshStaleC, Cell.clear_cons_iff, Cell.clear_nil_iff] at hP
  unfold State.refreshStale
  dsimp only
  refine State.Spares.mapRooms (by simp only [hP]) (fun p r => ?_)
    (State.Spares.putB (by simp only [hP]) (State.Spares.setTwo (by simp only [hP]) (by simp only [hP]) ?_))
  · exact .ite (.refl _ _) (.on (by simp only [hP]) (.putB (by simp only [hP]) (.refl _ _)))
  · exact .ite h (h.on (by simp only [hP]))

def State.reqStateC : List Cell :=
  [.part .clk, .reg PWR_STAT_REFUSE, .reg PWR_STAT_STATE, .reg PWR_CTRL_REQ, .reg PWR_STAT_PENDING]
theorem State.reqState_spared {x : Nat} {act : BitVec 10} (hP : Cell.clear State.reqStateC o = true)
    (h : State.Spares o s0 s) :
    State.Spares o s0 (State.reqState s x act) := by
  simp only [State.reqStateC, Cell.clear_cons_iff, Cell.clear_nil_iff] at hP
  unfold State.reqState
  dsimp only
  repeat' first
    | with_reducible exact h | with_reducible refine State.Spares.onClk (by simp only [hP]) ?_
    | with_reducible refine State.Spares.put (by simp only [hP]) ?_
    | with_reducible refine State.Spares.on (by simp only [hP]) ?_ | with_reducible refine State.Spares.ite ?_ ?_

def State.resolveGapC : List Cell := [.part .pair] ++ State.markStaleC
theorem State.resolveGap_spared {first1 : Nat} {touch1 : Nat} {first2 : Nat} {touch2 : Nat}
    (hP : Cell.clear State.resolveGapC o = true) (h : State.Spares o s0 s) :
    State.Spares o s0 (State.resolveGap s first1 touch1 first2 touch2) := by
  simp only [State.resolveGapC, Cell.clear_append_iff, Cell.clear_cons_iff, Cell.clear_nil_iff] at hP
  unfold State.resolveGap
  dsimp only
  repeat' first
    | with_reducible exact h | with_reducible refine State.markStale_spared (by simp only [hP]) ?_
    | with_reducible refine State.Spares.onPair (by simp only [hP]) ?_ | with_reducible refine State.Spares.ite ?_ ?_
    | split

def State.restartWingC : List Cell :=
  [.part .pair, .rooms, .roomPart .calRej, .lands, .wings] ++ State.slotSettleC ++ State.slotToC
theorem State.restartWing_spared {w : Fin 2} (hP : Cell.clear State.restartWingC o = true) (h : State.Spares o s0 s) :
    State.Spares o s0 (State.restartWing s w) := by
  simp only [State.restartWingC, Cell.clear_append_iff, Cell.clear_cons_iff, Cell.clear_nil_iff] at hP
  unfold State.restartWing
  dsimp only
  repeat' first
    | with_reducible exact h | with_reducible refine State.slotSettle_spared (by simp only [hP]) ?_
    | with_reducible refine State.slotTo_spared (by simp only [hP]) ?_
    | with_reducible refine State.Spares.onLand (by simp only [hP]) (fun l => ?_) ?_
    | with_reducible refine State.Spares.onRoom (Cell.roomAt_of_rooms (by simp only [hP]) _) (fun r => ?_) ?_
    | with_reducible refine State.Spares.onWing (by simp only [hP]) (fun x => ?_) ?_
    | with_reducible refine State.Spares.ite ?_ ?_ | with_reducible refine State.Spares.foldl (fun _ _ h => ?_) ?_
    | with_reducible exact Room.Seen.refl _ _ | with_reducible refine Room.Seen.ite ?_ ?_
    | with_reducible refine Room.Seen.foldl (fun _ _ hr => ?_) ?_ | with_reducible exact Landing.Seen.refl _ _
    | with_reducible refine Landing.Seen.ite ?_ ?_ | with_reducible exact Wing.Seen.refl _ _
    | with_reducible refine Wing.Seen.ite ?_ ?_ | split | with_reducible refine Wing.Seen.mk ?_
    | with_reducible refine Wing.wingRegs_of_seen ?_ | with_reducible refine State.Spares.pair (by simp only [hP]) ?_
    | with_reducible refine Room.Seen.calRej (by simp only [hP]) ?_ | with_reducible refine Landing.Seen.mk ?_
    | with_reducible refine Landing.landRegs_of_seen ?_

def State.resumeC : List Cell := [.part .pantry, .reg CHG_PROG_PEAK] ++ State.panToC
theorem State.resume_spared (hP : Cell.clear State.resumeC o = true) (h : State.Spares o s0 s) :
    State.Spares o s0 (State.resume s) := by
  simp only [State.resumeC, Cell.clear_append_iff, Cell.clear_cons_iff, Cell.clear_nil_iff] at hP
  unfold State.resume
  dsimp only
  repeat' first
    | with_reducible exact h | with_reducible refine State.panTo_spared (by simp only [hP]) ?_
    | with_reducible refine State.Spares.onPan (by simp only [hP]) ?_
    | with_reducible refine State.Spares.off (by simp only [hP]) ?_ | with_reducible refine State.Spares.ite ?_ ?_

def State.resumeLoopC : List Cell :=
  [.rooms, .roomFld SW_STAT_FULL, .roomFld STATUS_SWITCH_ON, .roomFld SW_STAT_CMD, .roomFld LOOP_STAT_ILIMITING,
    .roomPart .cc, .roomPart .conv] ++ Room.loopOffC ++ Room.preBiasC ++ Room.resumeRateC ++ Room.setLoopC ++
    Room.setRefC
theorem State.resumeLoop_spared {p : Fin 48} (hP : Cell.clear State.resumeLoopC o = true) (h : State.Spares o s0 s) :
    State.Spares o s0 (State.resumeLoop s p) := by
  simp only [State.resumeLoopC, Cell.clear_append_iff, Cell.clear_cons_iff, Cell.clear_nil_iff] at hP
  unfold State.resumeLoop
  dsimp only
  repeat' first
    | with_reducible exact h
    | with_reducible refine State.Spares.onRoomE (Cell.roomAt_of_rooms (by simp only [hP]) _) (fun e r => ?_) ?_
    | with_reducible refine Room.Seen.putB (by simp only [hP]) ?_
    | with_reducible refine Room.loopOff_seen (by simp only [hP]) ?_
    | with_reducible refine Room.Seen.onCc (by simp only [hP]) ?_
    | with_reducible refine Room.Seen.onConv (by simp only [hP]) ?_
    | with_reducible refine Room.preBias_seen (by simp only [hP]) ?_
    | with_reducible refine Room.resumeRate_seen (by simp only [hP]) ?_
    | with_reducible refine Room.setLoop_seen (by simp only [hP]) ?_
    | with_reducible refine Room.setRef_seen (by simp only [hP]) ?_ | with_reducible refine State.Spares.ite ?_ ?_
    | with_reducible exact Room.Seen.refl _ _ | with_reducible refine Room.Seen.ite ?_ ?_

def State.resumePortC : List Cell :=
  [.rooms, .roomFld STATUS_KEEPER, .roomPart .conv, .roomPart .pd] ++ Room.loopOffC ++ Room.refreshIlimC ++
    Room.resumeAskC ++ Room.resumeCcC ++ Room.staleTakeoverC ++ State.resumeLoopC
theorem State.resumePort_spared {stale : Nat} {p : Fin 48} (hP : Cell.clear State.resumePortC o = true)
    (h : State.Spares o s0 s) :
    State.Spares o s0 (State.resumePort s stale p) := by
  simp only [State.resumePortC, Cell.clear_append_iff, Cell.clear_cons_iff, Cell.clear_nil_iff] at hP
  unfold State.resumePort
  dsimp only
  repeat' first
    | with_reducible exact h | with_reducible refine State.resumeLoop_spared (by simp only [hP]) ?_
    | with_reducible refine State.Spares.onRoom (Cell.roomAt_of_rooms (by simp only [hP]) _) (fun r => ?_) ?_
    | with_reducible refine State.Spares.onRoomE (Cell.roomAt_of_rooms (by simp only [hP]) _) (fun e r => ?_) ?_
    | with_reducible refine Room.Seen.on (by simp only [hP]) ?_
    | with_reducible refine Room.loopOff_seen (by simp only [hP]) ?_
    | with_reducible refine Room.Seen.onConv (by simp only [hP]) ?_
    | with_reducible refine Room.Seen.onPd (by simp only [hP]) ?_
    | with_reducible refine Room.refreshIlim_seen (by simp only [hP]) ?_
    | with_reducible refine Room.resumeAsk_seen (by simp only [hP]) ?_
    | with_reducible refine Room.resumeCc_seen (by simp only [hP]) ?_
    | with_reducible refine Room.staleTakeover_seen (by simp only [hP]) ?_
    | with_reducible refine State.Spares.ite ?_ ?_ | with_reducible exact Room.Seen.refl _ _
    | with_reducible refine Room.Seen.ite ?_ ?_

def State.tmrTickC : List Cell := [.rooms, .roomPart .outs, .lands, .roomRegs, .landRegs]
theorem State.tmrTick_spared {k : TmrBlock} (hP : Cell.clear State.tmrTickC o = true) (h : State.Spares o s0 s) :
    State.Spares o s0 (State.tmrTick s k) := by
  simp only [State.tmrTickC, Cell.clear_cons_iff, Cell.clear_nil_iff] at hP
  unfold State.tmrTick State.setTmrRegs
  refine .ite h ?_
  dsimp only
  cases k with
  | room p =>
    refine State.Spares.onRoom (Cell.roomAt_of_rooms (by simp only [hP]) _)
      (fun _ => .outs (by simp only [hP]) (.refl _ _)) ?_
    exact h.onRoom (Cell.roomAt_of_rooms (by simp only [hP]) _) fun _ => .anyRegs (p := []) (by simp only [hP]) rfl
      (fun _ _ => Room.Spares.regs (.refl _ _)) (.refl _ _)
  | land b =>
    refine State.Spares.onLand (by simp only [hP]) (fun _ => .mk (Landing.landRegs_of_seen (.refl _ _))) ?_
    exact h.onLandAny (by simp only [hP]) (by simp only [hP])

def State.tmrTicksC : List Cell := State.tmrTickC
theorem State.tmrTicks_spared (hP : Cell.clear State.tmrTicksC o = true) (h : State.Spares o s0 s) :
    State.Spares o s0 (State.tmrTicks s) := by
  simp only [State.tmrTicksC] at hP
  unfold State.tmrTicks
  dsimp only
  repeat' first
    | with_reducible exact h | with_reducible refine State.tmrTick_spared (by simp only [hP]) ?_
    | with_reducible refine State.Spares.foldl (fun _ _ h => ?_) ?_

def State.runTickC : List Cell :=
  [.rooms, .lands] ++ Landing.tickC ++ Room.pwmTickC ++ Room.tickC ++ State.confTickC ++ State.panTickC ++
    State.tmrTicksC
theorem State.runTick_spared (hP : Cell.clear State.runTickC o = true) (h : State.Spares o s0 s) :
    State.Spares o s0 (State.runTick s) := by
  simp only [State.runTickC, Cell.clear_append_iff, Cell.clear_cons_iff, Cell.clear_nil_iff] at hP
  unfold State.runTick
  dsimp only
  repeat' first
    | with_reducible exact h | with_reducible refine State.confTick_spared (by simp only [hP]) ?_
    | with_reducible refine State.panTick_spared (by simp only [hP]) ?_
    | with_reducible refine State.tmrTicks_spared (by simp only [hP]) ?_
    | with_reducible refine State.Spares.mapLands (by simp only [hP]) (fun b l => ?_) ?_
    | with_reducible refine State.Spares.mapRooms (by simp only [hP]) (fun p r => ?_) ?_
    | with_reducible refine Landing.tick_seen (by simp only [hP]) ?_
    | with_reducible refine Room.pwmTick_seen (by simp only [hP]) ?_
    | with_reducible refine Room.tick_seen (by simp only [hP]) ?_ | with_reducible refine State.Spares.ite ?_ ?_
    | with_reducible exact Room.Seen.refl _ _ | with_reducible refine Room.Seen.ite ?_ ?_
    | with_reducible exact Landing.Seen.refl _ _ | with_reducible refine Landing.Seen.ite ?_ ?_

def State.sendBurstC : List Cell := [.part .pair]
theorem State.sendBurst_spared {type : Nat} {c : StairRec} (hP : Cell.clear State.sendBurstC o = true)
    (h : State.Spares o s0 s) :
    State.Spares o s0 (State.sendBurst s type c) := by
  simp only [State.sendBurstC, Cell.clear_cons_iff, Cell.clear_nil_iff] at hP
  unfold State.sendBurst
  dsimp only
  repeat' first
    | with_reducible exact h | with_reducible refine State.Spares.pair (by simp only [hP]) ?_

def State.stairSendC : List Cell := [.part .pair] ++ State.sendBurstC
theorem State.stairSend_spared {type : Nat} {target : Nat} {payload : List Byte} {touched : Nat}
    (hP : Cell.clear State.stairSendC o = true) (h : State.Spares o s0 s) :
    State.Spares o s0 (State.stairSend s type target payload touched) := by
  simp only [State.stairSendC, Cell.clear_append_iff, Cell.clear_cons_iff, Cell.clear_nil_iff] at hP
  unfold State.stairSend
  dsimp only
  repeat' first
    | with_reducible exact h | with_reducible refine State.sendBurst_spared (by simp only [hP]) ?_
    | with_reducible refine State.Spares.onPair (by simp only [hP]) ?_

def State.sendRecordC : List Cell := [.part .pair] ++ State.stairSendC
theorem State.sendRecord_spared {type : Nat} {target : Nat} {bank : Nat} (hP : Cell.clear State.sendRecordC o = true)
    (h : State.Spares o s0 s) :
    State.Spares o s0 (State.sendRecord s type target bank) := by
  simp only [State.sendRecordC, Cell.clear_append_iff, Cell.clear_cons_iff, Cell.clear_nil_iff] at hP
  unfold State.sendRecord
  repeat' first
    | with_reducible exact h | with_reducible refine State.stairSend_spared (by simp only [hP]) ?_
    | with_reducible refine State.Spares.onPair (by simp only [hP]) ?_ | with_reducible refine State.Spares.ite ?_ ?_
    | split

def State.sendWritesC : List Cell := [.part .pair] ++ State.stairSendC
theorem State.sendWrites_spared (hP : Cell.clear State.sendWritesC o = true) (h : State.Spares o s0 s) :
    State.Spares o s0 (State.sendWrites s) := by
  simp only [State.sendWritesC, Cell.clear_append_iff, Cell.clear_cons_iff, Cell.clear_nil_iff] at hP
  unfold State.sendWrites
  dsimp only
  repeat' first
    | with_reducible exact h | with_reducible refine State.stairSend_spared (by simp only [hP]) ?_
    | with_reducible refine State.Spares.onPair (by simp only [hP]) ?_

def State.serveC : List Cell := State.answerAskC ++ State.answerAttachC ++ State.answerChgC
theorem State.serve_spared {a : Ask} (hP : Cell.clear State.serveC o = true) (h : State.Spares o s0 s) :
    State.Spares o s0 (State.serve s a) := by
  simp only [State.serveC, Cell.clear_append_iff] at hP
  unfold State.serve
  dsimp only
  repeat' first
    | with_reducible exact h | with_reducible refine State.answerAsk_spared (by simp only [hP]) ?_
    | with_reducible refine State.answerAttach_spared (by simp only [hP]) ?_
    | with_reducible refine State.answerChg_spared (by simp only [hP]) ?_
    | with_reducible refine State.Spares.ite ?_ ?_ | split

def State.serveToC : List Cell := State.serveC
theorem State.serveTo_spared {a : Ask} (hP : Cell.clear State.serveToC o = true) (h : State.Spares o s0 s) :
    State.Spares o s0 (State.serveTo s a) := by
  simp only [State.serveToC] at hP
  unfold State.serveTo
  repeat' first
    | with_reducible exact h | with_reducible refine State.serve_spared (by simp only [hP]) ?_
    | with_reducible refine State.Spares.foldl (fun _ _ h => ?_) ?_

def State.setPcC : List Cell := State.onCoreOfC
theorem State.setPc_spared {c : CoreId} {v : Word} (hP : Cell.clear State.setPcC o = true) (h : State.Spares o s0 s) :
    State.Spares o s0 (State.setPc s c v) := by
  simp only [State.setPcC] at hP
  unfold State.setPc
  repeat' first
    | with_reducible exact h | with_reducible refine State.onCoreOf_spared (by simp only [hP]) ?_

def State.setRgC : List Cell := State.onCoreOfC
theorem State.setRg_spared {c : CoreId} {i : Fin 16} {v : Word} (hP : Cell.clear State.setRgC o = true)
    (h : State.Spares o s0 s) :
    State.Spares o s0 (State.setRg s c i v) := by
  simp only [State.setRgC] at hP
  unfold State.setRg
  repeat' first
    | with_reducible exact h | with_reducible refine State.onCoreOf_spared (by simp only [hP]) ?_

def State.slotPinC : List Cell := [.lands, .landFld LAND_SENSE_SLOT_PIN] ++ State.landFaultC
theorem State.slotPin_spared {b : Fin 6} {k : Nat} {bad : Bool} (hP : Cell.clear State.slotPinC o = true)
    (h : State.Spares o s0 s) :
    State.Spares o s0 (State.slotPin s b k bad) := by
  simp only [State.slotPinC, Cell.clear_append_iff, Cell.clear_cons_iff, Cell.clear_nil_iff] at hP
  unfold State.slotPin
  dsimp only
  repeat' first
    | with_reducible exact h | with_reducible refine State.landFault_spared (by simp only [hP]) ?_
    | with_reducible refine State.Spares.onLand (by simp only [hP]) (fun l => ?_) ?_
    | with_reducible refine Landing.Seen.put (by simp only [hP]) ?_ | with_reducible refine State.Spares.ite ?_ ?_
    | with_reducible exact Landing.Seen.refl _ _ | with_reducible refine Landing.Seen.ite ?_ ?_ | split
    | with_reducible refine Landing.Seen.mk ?_ | with_reducible refine Landing.landRegs_of_seen ?_

def State.slotWakeC : List Cell := [.lands] ++ State.slotToC
theorem State.slotWake_spared {b : Fin 6} (hP : Cell.clear State.slotWakeC o = true) (h : State.Spares o s0 s) :
    State.Spares o s0 (State.slotWake s b) := by
  simp only [State.slotWakeC, Cell.clear_append_iff, Cell.clear_cons_iff, Cell.clear_nil_iff] at hP
  unfold State.slotWake
  repeat' first
    | with_reducible exact h | with_reducible refine State.slotTo_spared (by simp only [hP]) ?_
    | with_reducible refine State.Spares.onLand (by simp only [hP]) (fun l => ?_) ?_
    | with_reducible refine State.Spares.ite ?_ ?_ | with_reducible exact Landing.Seen.refl _ _
    | with_reducible refine Landing.Seen.ite ?_ ?_ | split | with_reducible refine Landing.Seen.mk ?_
    | with_reducible refine Landing.landRegs_of_seen ?_

theorem State.snapReplies_spared {code : Nat} (h : State.Spares o s0 s) :
    State.Spares o s0 (State.snapReplies code s) := by
  unfold State.snapReplies
  repeat' first
    | with_reducible exact h | with_reducible refine State.snapReply_spared ?_
    | with_reducible refine State.Spares.onLink ?_ | with_reducible refine State.Spares.ite ?_ ?_
    | with_reducible refine State.Spares.foldl (fun _ _ h => ?_) ?_ | split

def State.stairGapC : List Cell := [.part .pair, .reg STAIR_ERR_GAP, .reg PAIR_EVENT_GAP]
theorem State.stairGap_spared {a : Nat} {b : Nat} (hP : Cell.clear State.stairGapC o = true) (h : State.Spares o s0 s) :
    State.Spares o s0 (State.stairGap s a b) := by
  simp only [State.stairGapC, Cell.clear_cons_iff, Cell.clear_nil_iff] at hP
  unfold State.stairGap
  repeat' first
    | with_reducible exact h | with_reducible refine State.Spares.onPair (by simp only [hP]) ?_
    | with_reducible refine State.Spares.put (by simp only [hP]) ?_
    | with_reducible refine State.Spares.on (by simp only [hP]) ?_

def State.stepCoreC : List Cell := [.part .dbg] ++ State.onCoreOfC
theorem State.stepCore_spared {n : Nat} (hP : Cell.clear State.stepCoreC o = true) (h : State.Spares o s0 s) :
    State.Spares o s0 (State.stepCore s n) := by
  simp only [State.stepCoreC, Cell.clear_append_iff, Cell.clear_cons_iff, Cell.clear_nil_iff] at hP
  unfold State.stepCore
  repeat' first
    | with_reducible exact h | with_reducible refine State.onCoreOf_spared (by simp only [hP]) ?_
    | with_reducible refine State.Spares.ite ?_ ?_ | split
    | with_reducible refine State.Spares.dbg (by simp only [hP]) ?_

def State.stepEndC : List Cell := State.haltCoreC
theorem State.stepEnd_spared {c : CoreId} (hP : Cell.clear State.stepEndC o = true) (h : State.Spares o s0 s) :
    State.Spares o s0 (State.stepEnd s c) := by
  simp only [State.stepEndC] at hP
  unfold State.stepEnd
  repeat' first
    | with_reducible exact h | with_reducible refine State.haltCore_spared (by simp only [hP]) ?_
    | with_reducible refine State.Spares.ite ?_ ?_

def State.takeWingsC : List Cell :=
  [.part .pantry, .part .pair, .reg PAIR_EVENT_TAKEOVER, .lands] ++ State.logTakeoverC ++ State.resumePortC
theorem State.takeWings_spared {ws : Nat} (hP : Cell.clear State.takeWingsC o = true) (h : State.Spares o s0 s) :
    State.Spares o s0 (State.takeWings s ws) := by
  simp only [State.takeWingsC, Cell.clear_append_iff, Cell.clear_cons_iff, Cell.clear_nil_iff] at hP
  unfold State.takeWings
  dsimp only
  repeat' first
    | with_reducible exact h | with_reducible refine State.logTakeover_spared (by simp only [hP]) ?_
    | with_reducible refine State.resumePort_spared (by simp only [hP]) ?_
    | with_reducible refine State.Spares.onLand (by simp only [hP]) (fun l => ?_) ?_
    | with_reducible refine State.Spares.onPair (by simp only [hP]) ?_
    | with_reducible refine State.Spares.on (by simp only [hP]) ?_ | with_reducible refine Landing.resume_seen ?_
    | with_reducible refine State.Spares.ite ?_ ?_ | with_reducible refine State.Spares.foldl (fun _ _ h => ?_) ?_
    | with_reducible exact Landing.Seen.refl _ _ | with_reducible refine Landing.Seen.ite ?_ ?_ | split
    | with_reducible refine State.Spares.pantry (by simp only [hP]) ?_

def State.tambConvertC : List Cell :=
  [.part .hearth, .reg HEARTH_EVENT_TAMB0_FAULT, .reg HEARTH_EVENT_TAMB1_FAULT, .reg HEARTH_TAMB_T0,
    .reg HEARTH_TAMB_T1, .reg HEARTH_STAT_TAMB0_OK, .reg HEARTH_STAT_TAMB1_OK]
theorem State.tambConvert_spared {n : Nat} {mv : Nat} (hP : Cell.clear State.tambConvertC o = true)
    (h : State.Spares o s0 s) :
    State.Spares o s0 (State.tambConvert s n mv) := by
  simp only [State.tambConvertC, Cell.clear_cons_iff, Cell.clear_nil_iff] at hP
  unfold State.tambConvert
  dsimp only
  refine State.Spares.putB ?_ (State.Spares.put ?_ ?_)
  · split <;> simp only [hP]
  · split <;> simp only [hP]
  · refine .ite (State.Spares.on ?_ (h.hearth (by simp only [hP]))) (h.hearth (by simp only [hP]))
    split <;> simp only [hP]

def State.tbTickC : List Cell := [.part .clk, .reg TB_CTRL_LOADED] ++ State.setTbC
theorem State.tbTick_spared (hP : Cell.clear State.tbTickC o = true) (h : State.Spares o s0 s) :
    State.Spares o s0 (State.tbTick s) := by
  simp only [State.tbTickC, Cell.clear_append_iff, Cell.clear_cons_iff, Cell.clear_nil_iff] at hP
  unfold State.tbTick
  repeat' first
    | with_reducible exact h | with_reducible refine State.setTb_spared (by simp only [hP]) ?_
    | with_reducible refine State.Spares.onClk (by simp only [hP]) ?_
    | with_reducible refine State.Spares.on (by simp only [hP]) ?_ | with_reducible refine State.Spares.ite ?_ ?_

def State.tcDataC (m : Fin 2) : List Cell :=
  (List.range 8).map (fun i => .reg (.whole (0x71110 + 0x40 * m.val + 4 * i)))
theorem State.tcData_spared {m : Fin 2} {data : List Byte} (hP : Cell.clear (State.tcDataC m) o = true)
    (h : State.Spares o s0 s) :
    State.Spares o s0 (State.tcData s m data) := by
  simp only [State.tcDataC] at hP
  exact h.setAll (by simp only [hP])

def State.tcGoC (m : Fin 2) : List Cell := [.part .tcs, .reg (TC_STAT_BUSY.shift (0x40 * m.val))]
theorem State.tcGo_spared {m : Fin 2} (hP : Cell.clear (State.tcGoC m) o = true) (h : State.Spares o s0 s) :
    State.Spares o s0 (State.tcGo s m) := by
  simp only [State.tcGoC, Cell.clear_cons_iff, Cell.clear_nil_iff] at hP
  unfold State.tcGo
  dsimp only
  exact .ite h (State.Spares.on (by simp only [hP]) (h.tcs (by simp only [hP])))

def State.terminateC : List Cell := [.reg PANTRY_EVENT_TERMINATED, .reg CHG_STAT_TERM_CAUSE] ++ State.panToC
theorem State.terminate_spared {cause : Nat} (hP : Cell.clear State.terminateC o = true) (h : State.Spares o s0 s) :
    State.Spares o s0 (State.terminate s cause) := by
  simp only [State.terminateC, Cell.clear_append_iff, Cell.clear_cons_iff, Cell.clear_nil_iff] at hP
  unfold State.terminate
  dsimp only
  repeat' first
    | with_reducible exact h | with_reducible refine State.panTo_spared (by simp only [hP]) ?_
    | with_reducible refine State.Spares.on (by simp only [hP]) ?_
    | with_reducible refine State.Spares.put (by simp only [hP]) ?_ | with_reducible refine State.Spares.ite ?_ ?_

def State.trapC : List Cell := State.onCoreOfC
theorem State.trap_spared {c : CoreId} {code : Nat} (hP : Cell.clear State.trapC o = true) (h : State.Spares o s0 s) :
    State.Spares o s0 (State.trap s c code) := by
  simp only [State.trapC] at hP
  unfold State.trap
  repeat' first
    | with_reducible exact h | with_reducible refine State.onCoreOf_spared (by simp only [hP]) ?_

def State.twSendC (n : Fin 4) : List Cell := [.part .tws, .reg (twField n TW_STAT_RSTAT)]
theorem State.twSend_spared {n : Fin 4} {pre : List Byte} {data : List Byte} {code : Nat}
    (hP : Cell.clear (State.twSendC n) o = true) (h : State.Spares o s0 s) :
    State.Spares o s0 (State.twSend s n pre data code) := by
  simp only [State.twSendC, Cell.clear_cons_iff, Cell.clear_nil_iff] at hP
  unfold State.twSend
  dsimp only
  repeat' first
    | with_reducible exact h | with_reducible refine State.Spares.onTw (by simp only [hP]) ?_
    | with_reducible refine State.Spares.put (by simp only [hP]) ?_

def State.twStartC : List Cell := [.part .tws]
theorem State.twStart_spared {n : Fin 4} {p : TwProg} (hP : Cell.clear State.twStartC o = true) (h : State.Spares o s0 s) :
    State.Spares o s0 (State.twStart s n p) := by
  simp only [State.twStartC, Cell.clear_cons_iff, Cell.clear_nil_iff] at hP
  unfold State.twStart
  repeat' first
    | with_reducible exact h | with_reducible refine State.Spares.onTw (by simp only [hP]) ?_

def State.twReadC (n : Fin 4) : List Cell := State.twSendC n ++ State.twStartC
theorem State.twRead_spared {n : Fin 4} {e : TwEntry} {addr : Nat} {bytes : List Byte}
    (hP : Cell.clear (State.twReadC n) o = true) (h : State.Spares o s0 s) :
    State.Spares o s0 (State.twRead s n e addr bytes) := by
  simp only [State.twReadC, Cell.clear_append_iff] at hP
  unfold State.twRead
  dsimp only
  repeat' first
    | with_reducible exact h | with_reducible refine State.twSend_spared (by simp only [hP]) ?_
    | with_reducible refine State.twStart_spared (by simp only [hP]) ?_ | with_reducible refine State.Spares.ite ?_ ?_

def State.twSeenC (n : Fin 4) : List Cell := [.part .tws, .reg (twField n TW_STAT_LAST_ADDR)]
theorem State.twSeen_spared {n : Fin 4} {addr : Nat} (hP : Cell.clear (State.twSeenC n) o = true) (h : State.Spares o s0 s) :
    State.Spares o s0 (State.twSeen s n addr) := by
  simp only [State.twSeenC, Cell.clear_cons_iff, Cell.clear_nil_iff] at hP
  unfold State.twSeen
  repeat' first
    | with_reducible exact h | with_reducible refine State.Spares.onTw (by simp only [hP]) ?_
    | with_reducible refine State.Spares.put (by simp only [hP]) ?_

def State.twWroteC (n : Fin 4) : List Cell :=
  [.reg (twField n TW_STAT_WSTAT)] ++ State.countErrC (twField n TW_ERR_PEC) ++
    State.countErrC (twField n TW_ERR_SHORT) ++ State.countErrC (twField n TW_ERR_DENIED)
theorem State.twWrote_spared {n : Fin 4} {code : Nat} (hP : Cell.clear (State.twWroteC n) o = true)
    (h : State.Spares o s0 s) :
    State.Spares o s0 (State.twWrote s n code) := by
  simp only [State.twWroteC, Cell.clear_append_iff, Cell.clear_cons_iff, Cell.clear_nil_iff] at hP
  unfold State.twWrote
  dsimp only
  repeat' first
    | with_reducible exact h | with_reducible refine State.countErr_spared (by simp only [hP]) ?_
    | with_reducible refine State.Spares.put (by simp only [hP]) ?_ | with_reducible refine State.Spares.ite ?_ ?_

def State.twWriteC (n : Fin 4) : List Cell := [.part .tws] ++ State.twStartC ++ State.twWroteC n
theorem State.twWrite_spared {n : Fin 4} {e : TwEntry} {addr : Nat} {b : List Byte}
    (hP : Cell.clear (State.twWriteC n) o = true) (h : State.Spares o s0 s) :
    State.Spares o s0 (State.twWrite s n e addr b) := by
  simp only [State.twWriteC, Cell.clear_append_iff, Cell.clear_cons_iff, Cell.clear_nil_iff] at hP
  unfold State.twWrite
  dsimp only
  repeat' first
    | with_reducible exact h | with_reducible refine State.twStart_spared (by simp only [hP]) ?_
    | with_reducible refine State.twWrote_spared (by simp only [hP]) ?_
    | with_reducible refine State.Spares.onTw (by simp only [hP]) ?_ | with_reducible refine State.Spares.ite ?_ ?_

def State.twBeginC (n : Fin 4) : List Cell := State.twReadC n ++ State.twSeenC n ++ State.twWriteC n
theorem State.twBegin_spared {n : Fin 4} {read : Bool} {addr : Nat} {bytes : List Byte}
    (hP : Cell.clear (State.twBeginC n) o = true) (h : State.Spares o s0 s) :
    State.Spares o s0 (State.twBegin s n read addr bytes) := by
  simp only [State.twBeginC, Cell.clear_append_iff] at hP
  unfold State.twBegin
  repeat' first
    | with_reducible exact h | with_reducible refine State.twRead_spared (by simp only [hP]) ?_
    | with_reducible refine State.twSeen_spared (by simp only [hP]) ?_
    | with_reducible refine State.twWrite_spared (by simp only [hP]) ?_ | with_reducible refine State.Spares.ite ?_ ?_
    | split

def State.twLostC (n : Fin 4) : List Cell :=
  [.part .tws] ++ State.countErrC (twField n TW_ERR_BUS) ++ State.twWroteC n
theorem State.twLost_spared {n : Fin 4} {write : Bool} (hP : Cell.clear (State.twLostC n) o = true)
    (h : State.Spares o s0 s) :
    State.Spares o s0 (State.twLost s n write) := by
  simp only [State.twLostC, Cell.clear_append_iff, Cell.clear_cons_iff, Cell.clear_nil_iff] at hP
  unfold State.twLost
  dsimp only
  repeat' first
    | with_reducible exact h | with_reducible refine State.countErr_spared (by simp only [hP]) ?_
    | with_reducible refine State.twWrote_spared (by simp only [hP]) ?_
    | with_reducible refine State.Spares.onTw (by simp only [hP]) ?_ | with_reducible refine State.Spares.ite ?_ ?_

def State.unstageKindsC : List Cell := State.unstageC
theorem State.unstageKinds_spared {kinds : Nat} (hP : Cell.clear State.unstageKindsC o = true) (h : State.Spares o s0 s) :
    State.Spares o s0 (State.unstageKinds s kinds) := by
  simp only [State.unstageKindsC] at hP
  unfold State.unstageKinds
  repeat' first
    | with_reducible exact h | with_reducible refine State.unstage_spared (by simp only [hP]) ?_
    | with_reducible refine State.Spares.ite ?_ ?_ | with_reducible refine State.Spares.foldl (fun _ _ h => ?_) ?_
    | split

def State.updateModelC : List Cell := State.dieStepC ++ State.modelStepC ++ State.setModelC ++ State.showModelC
theorem State.updateModel_spared {m : Nat} (hP : Cell.clear State.updateModelC o = true) (h : State.Spares o s0 s) :
    State.Spares o s0 (State.updateModel s m) := by
  simp only [State.updateModelC, Cell.clear_append_iff] at hP
  unfold State.updateModel
  dsimp only
  repeat' first
    | with_reducible exact h | with_reducible refine State.dieStep_spared (by simp only [hP]) ?_
    | with_reducible refine State.modelStep_spared (by simp only [hP]) ?_
    | with_reducible refine State.setModel_spared (by simp only [hP]) ?_
    | with_reducible refine State.showModel_spared (by simp only [hP]) ?_
    | with_reducible refine State.Spares.ite ?_ ?_ | with_reducible refine State.Spares.foldl (fun _ _ h => ?_) ?_
    | split

def State.verifyEndC : List Cell := [.part .attic, .reg ENG_CTRL_TAG_OK, .reg ENG_CTRL_DONE]
theorem State.verifyEnd_spared {src : Nat} {c : Nat} (hP : Cell.clear State.verifyEndC o = true) (h : State.Spares o s0 s) :
    State.Spares o s0 (State.verifyEnd s src c) := by
  simp only [State.verifyEndC, Cell.clear_cons_iff, Cell.clear_nil_iff] at hP
  unfold State.verifyEnd
  dsimp only
  repeat' first
    | with_reducible exact h | with_reducible refine State.Spares.putB (by simp only [hP]) ?_
    | with_reducible refine State.Spares.on (by simp only [hP]) ?_ | with_reducible refine State.Spares.ite ?_ ?_
    | split | with_reducible refine State.Spares.attic (by simp only [hP]) ?_

def State.verifyStartC : List Cell := [.part .attic, .reg ENG_CTRL_TAG_OK, .reg ENG_CTRL_DONE]
theorem State.verifyStart_spared (hP : Cell.clear State.verifyStartC o = true) (h : State.Spares o s0 s) :
    State.Spares o s0 (State.verifyStart s) := by
  simp only [State.verifyStartC, Cell.clear_cons_iff, Cell.clear_nil_iff] at hP
  unfold State.verifyStart
  dsimp only
  repeat' first
    | with_reducible exact h | with_reducible refine State.Spares.off (by simp only [hP]) ?_
    | with_reducible refine State.Spares.attic (by simp only [hP]) ?_

def State.wakeByC : List Cell := [.part .clk] ++ State.abortEntryC
theorem State.wakeBy_spared  {mark : State → State} (hmark : ∀ t, State.Spares o s0 t → State.Spares o s0 (mark t))
    (hP : Cell.clear State.wakeByC o = true) (h : State.Spares o s0 s) :
    State.Spares o s0 (State.wakeBy s mark) := by
  simp only [State.wakeByC, Cell.clear_append_iff, Cell.clear_cons_iff, Cell.clear_nil_iff] at hP
  unfold State.wakeBy
  repeat' first
    | with_reducible exact h | with_reducible refine hmark _ ?_
    | with_reducible refine State.abortEntry_spared (by simp only [hP]) ?_
    | with_reducible refine State.Spares.onClk (by simp only [hP]) ?_ | with_reducible refine State.Spares.ite ?_ ?_
    | split

def State.wakePortsC : List Cell := [.rooms] ++ Room.restartC
theorem State.wakePorts_spared (hP : Cell.clear State.wakePortsC o = true) (h : State.Spares o s0 s) :
    State.Spares o s0 (State.wakePorts s) := by
  simp only [State.wakePortsC, Cell.clear_append_iff, Cell.clear_cons_iff, Cell.clear_nil_iff] at hP
  unfold State.wakePorts
  repeat' first
    | with_reducible exact h
    | with_reducible refine State.Spares.onRoomE (Cell.roomAt_of_rooms (by simp only [hP]) _) (fun e r => ?_) ?_
    | with_reducible refine Room.restart_seen (by simp only [hP]) ?_ | with_reducible refine State.Spares.ite ?_ ?_
    | with_reducible refine State.Spares.foldl (fun _ _ h => ?_) ?_ | with_reducible exact Room.Seen.refl _ _

def State.writeChunkC : List Cell :=
  [.part .cellar] ++ State.commitC ++ State.eraseForC ++ State.progCutC ++ State.setSessionC
theorem State.writeChunk_spared {x : Session} {b : List Byte} {wr : Bool} {bad : Option Nat} {jok : Bool}
    (hP : Cell.clear State.writeChunkC o = true) (h : State.Spares o s0 s) :
    State.Spares o s0 (State.writeChunk s x b wr bad jok).2 := by
  simp only [State.writeChunkC, Cell.clear_append_iff, Cell.clear_cons_iff, Cell.clear_nil_iff] at hP
  unfold State.writeChunk
  dsimp only
  repeat' first
    | with_reducible exact h | with_reducible refine State.commit_spared (by simp only [hP]) ?_
    | with_reducible refine State.eraseFor_spared (by simp only [hP]) ?_
    | with_reducible refine State.progCut_spared (by simp only [hP]) ?_
    | with_reducible refine State.setSession_spared (by simp only [hP]) ?_
    | with_reducible refine State.nextReply_spared ?_ | with_reducible refine State.Spares.ite ?_ ?_
    | with_reducible refine State.Spares.foldl (fun _ _ h => ?_) ?_ | split
    | with_reducible refine State.Spares.cellar (by simp only [hP]) ?_

def State.writeHaltC : List Cell := State.resumeCoreC ++ State.setHaltBitC
theorem State.writeHalt_spared {c : CoreId} {b : Bool} (hP : Cell.clear State.writeHaltC o = true) (h : State.Spares o s0 s) :
    State.Spares o s0 (State.writeHalt s c b) := by
  simp only [State.writeHaltC, Cell.clear_append_iff] at hP
  unfold State.writeHalt
  repeat' first
    | with_reducible exact h | with_reducible refine State.resumeCore_spared (by simp only [hP]) ?_
    | with_reducible refine State.setHaltBit_spared (by simp only [hP]) ?_
    | with_reducible refine State.Spares.ite ?_ ?_

def State.writeNodeC : List Cell := State.bankC ++ State.enforceC
theorem State.writeNode_spared {l : Loc} {n : Node} {v : Word} (hP : Cell.clear State.writeNodeC o = true)
    (h : State.Spares o s0 s) :
    State.Spares o s0 (State.writeNode s l n v) := by
  simp only [State.writeNodeC, Cell.clear_append_iff] at hP
  exact State.enforce_spared (by simp only [hP]) (State.setBank_spared (by simp only [hP]) h)

def State.writeRegC : List Cell := State.bankC
theorem State.writeReg_spared {l : Loc} {v : Word} (hP : Cell.clear State.writeRegC o = true) (h : State.Spares o s0 s) :
    State.Spares o s0 (State.writeReg s l v) := by
  simp only [State.writeRegC] at hP
  exact State.setBank_spared (by simp only [hP]) h

def State.writeTmrC : List Cell := State.bankC ++ State.writeRegC
theorem State.writeTmr_spared {k : TmrBlock} {n : Nat} {reg : Nat} {v : Word} (hP : Cell.clear State.writeTmrC o = true)
    (h : State.Spares o s0 s) :
    State.Spares o s0 (State.writeTmr s k n reg v) := by
  simp only [State.writeTmrC, Cell.clear_append_iff] at hP
  have hwrite := State.writeReg_spared (l := tmrLoc k (k.base + 16 * n + 4 * reg)) (v := v) (by simp only [hP]) h
  unfold State.writeTmr
  dsimp only
  exact .ite h (.ite (State.setTmrRegs_spared (by simp only [hP]) hwrite) hwrite)

end

end Sys2Proof.Machine

namespace Sys2Proof.Machine

set_option Elab.async false

/-! ## What the commands leave in sight -/

/-- The looked-at thing is the same before and after a command. -/
def Out.Spares (o : Look) (s : State) (x : Out) : Prop := ∀ t, x = .next t → State.Spares o s t

section
variable {o : Look} {s : State}

theorem Out.Spares.stay : Out.Spares o s (.next s) := by
  rintro t ⟨rfl⟩
  exact .refl _ _
theorem Out.Spares.act {c : Bool} {f : State → State} (h : State.Spares o s (f s)) : Out.Spares o s (act s c f) := by
  rintro t ⟨rfl⟩
  split
  · exact h.posted.withQueue
  · exact .refl _ _
theorem panAct_out {m : PanMeas} {f : State → State} (hP : Cell.clear State.panMeasureC o = true)
    (hf : ∀ t, State.Spares o s t → State.Spares o s (f t)) : Out.Spares o s (panAct s m f) := by
  have hm := State.panMeasure_spared (m := m) hP (.refl o s)
  exact .act (.ite (hf _ hm) hm)
theorem hostAct_out {n : Fin 2} {type : Nat} {line : List Byte} {held recOk : Bool} {go : Frame → State → State}
    (hP : Cell.clear (State.arriveC n) o = true) (hgo : ∀ f t, State.Spares o s t → State.Spares o s (go f t)) :
    Out.Spares o s (hostAct s n type line held recOk go) := by
  unfold hostAct
  split
  · exact .stay
  · exact .act (State.arrive_spared (hgo _) hP (.refl _ _))
theorem porchAct_out {type : Nat} {line : List Byte} {go : Frame → State → State}
    (hgo : ∀ f t, State.Spares o s t → State.Spares o s (go f t)) : Out.Spares o s (porchAct s type line go) := by
  unfold porchAct
  split
  · exact .stay
  · exact .act (hgo _ _ (.refl _ _))
def State.porchCmdC : List Cell := .part .porch :: State.refusalC ++ State.porchSendC
theorem State.porchCmd_spared {t : State} {type : Nat} {f : Frame} {retired recovery form : Bool} {blank : List Byte}
    {n : Nat}
    {run : State → List Byte × State} (hrun : ∀ u, State.Spares o s u → State.Spares o s (run u).2)
    (hP : Cell.clear State.porchCmdC o = true) (h : State.Spares o s t) :
    State.Spares o s (State.porchCmd t type f retired recovery form blank n run) := by
  simp only [State.porchCmdC, Cell.clear_append_iff, Cell.clear_cons_iff] at hP
  have hsend {u : State} {b : List Byte} (hu : State.Spares o s u) : State.Spares o s (u.porchSend b) :=
    State.porchSend_spared (by simp only [hP]) hu
  have hgo : State.Spares o s (State.porchCmd.go t type f retired recovery form run fun code =>
      let r := t.refusal code blank n; r.2.porchSend (replyBytes type f r.1)) := by
    have hrefuse (code : Nat) : State.Spares o s ((t.refusal code blank n).2.porchSend
        (replyBytes type f (t.refusal code blank n).1)) := hsend (State.refusal_spared (by simp only [hP]) h)
    unfold State.porchCmd.go
    exact .ite (hrefuse _) (.ite (hrefuse _) (.ite (hrefuse _) (State.Spares.onPorch (by simp only [hP]) (hsend (hrun _ h)))))
  unfold State.porchCmd
  dsimp only
  split
  · exact .ite (hsend h) hgo
  · exact hgo
theorem pairAct_out {c : Bool} {f : State → State} (hP : Cell.clear State.refreshStaleC o = true)
    (hf : ∀ t, State.Spares o s t → State.Spares o s (f t)) : Out.Spares o s (pairAct s c f) :=
  .act (State.refreshStale_spared hP (hf _ (.refl _ _)))
theorem sendAct_out {c : Bool} {f : State → State} (hP : Cell.clear State.refreshStaleC o = true)
    (hpair : (Cell.part .pair).misses o = true) (hf : ∀ t, State.Spares o s t → State.Spares o s (f t)) :
    Out.Spares o s (sendAct s c f) :=
  pairAct_out hP fun _ h => hf _ (h.onPair hpair)

def execHallModeWriteC : List Cell := [.part .rerr] ++ State.busModeC
theorem execHallModeWrite_out {r : Req} {mode : Nat} (hP : Cell.clear execHallModeWriteC o = true) : Out.Spares o s
    (execHallModeWrite r mode s) := by
  simp only [execHallModeWriteC, Cell.clear_append_iff, Cell.clear_cons_iff, Cell.clear_nil_iff] at hP
  unfold execHallModeWrite
  repeat' first
    | with_reducible exact h | with_reducible exact Out.Spares.stay | with_reducible exact State.Spares.refl _ _ | with_reducible refine Out.Spares.act ?_ | with_reducible refine State.busMode_spared (by simp only [hP]) ?_
    | with_reducible refine State.Spares.rerr (by simp only [hP]) ?_

def execFireNC : List Cell := [.reg FIRE_CFG_FIRE, .reg FIRE_CFG_FIRE_IN] ++ State.fireEvalC
theorem execFireN_out (hP : Cell.clear execFireNC o = true) : Out.Spares o s (execFireN s) := by
  simp only [execFireNC, Cell.clear_append_iff, Cell.clear_cons_iff, Cell.clear_nil_iff] at hP
  unfold execFireN
  dsimp only
  repeat' first
    | with_reducible exact h | with_reducible exact Out.Spares.stay | with_reducible exact State.Spares.refl _ _ | with_reducible refine Out.Spares.act ?_ | with_reducible refine State.fireEval_spared (by simp only [hP]) ?_
    | with_reducible refine State.Spares.on (by simp only [hP]) ?_ | with_reducible refine State.Spares.ite ?_ ?_

def execFireNReleaseC : List Cell := [.reg FIRE_CFG_FIRE, .reg FIRE_CFG_FIRE_IN]
theorem execFireNRelease_out (hP : Cell.clear execFireNReleaseC o = true) : Out.Spares o s (execFireNRelease s) := by
  simp only [execFireNReleaseC, Cell.clear_cons_iff, Cell.clear_nil_iff] at hP
  unfold execFireNRelease
  repeat' first
    | with_reducible exact h | with_reducible exact Out.Spares.stay | with_reducible exact State.Spares.refl _ _ | with_reducible refine Out.Spares.act ?_ | with_reducible refine State.Spares.on (by simp only [hP]) ?_
    | with_reducible refine State.Spares.off (by simp only [hP]) ?_

def execSlowXtalSelectC : List Cell := [.reg CLK_STAT_SLOW_XTAL_OK, .reg CLK_STAT_SLOW_SRC]
theorem execSlowXtalSelect_out (hP : Cell.clear execSlowXtalSelectC o = true) : Out.Spares o s (execSlowXtalSelect s) := by
  simp only [execSlowXtalSelectC, Cell.clear_cons_iff, Cell.clear_nil_iff] at hP
  unfold execSlowXtalSelect
  dsimp only
  repeat' first
    | with_reducible exact h | with_reducible exact Out.Spares.stay | with_reducible exact State.Spares.refl _ _ | with_reducible refine Out.Spares.act ?_ | with_reducible refine State.Spares.on (by simp only [hP]) ?_
    | with_reducible refine State.Spares.ite ?_ ?_

def execSlowSwitchC : List Cell :=
  [.part .clk, .reg CLK_STAT_SLOW_SRC, .reg CLK_STAT_SLOW_XTAL_OK, .reg WAKE_CAUSE_SLOW_SWITCH]
theorem execSlowSwitch_out (hP : Cell.clear execSlowSwitchC o = true) : Out.Spares o s (execSlowSwitch s) := by
  simp only [execSlowSwitchC, Cell.clear_cons_iff, Cell.clear_nil_iff] at hP
  unfold execSlowSwitch
  dsimp only
  repeat' first
    | with_reducible exact h | with_reducible exact Out.Spares.stay | with_reducible exact State.Spares.refl _ _ | with_reducible refine Out.Spares.act ?_ | with_reducible refine State.Spares.onClk (by simp only [hP]) ?_
    | with_reducible refine State.Spares.off (by simp only [hP]) ?_
    | with_reducible refine State.Spares.on (by simp only [hP]) ?_ | with_reducible refine State.Spares.ite ?_ ?_

def execRcCalibrationC : List Cell := [.part .clk, .reg CLK_STAT_RC_CAL_VALID, .reg RC_INC_INC]
theorem execRcCalibration_out {fRc : Nat} (hP : Cell.clear execRcCalibrationC o = true) : Out.Spares o s
    (execRcCalibration fRc s) := by
  simp only [execRcCalibrationC, Cell.clear_cons_iff, Cell.clear_nil_iff] at hP
  unfold execRcCalibration
  repeat' first
    | with_reducible exact h | with_reducible exact Out.Spares.stay | with_reducible exact State.Spares.refl _ _ | with_reducible refine Out.Spares.act ?_ | with_reducible refine State.Spares.onClk (by simp only [hP]) ?_
    | with_reducible refine State.Spares.on (by simp only [hP]) ?_
    | with_reducible refine State.Spares.put (by simp only [hP]) ?_

def execChipResetEndC : List Cell :=
  [.part .chipB, .part .clk, .reg PAIR_STAT_CHIP_B] ++ State.makeUpC ++ State.setTbC
theorem execChipResetEnd_out {pairId : Bool} {core : Bool} {io : Bool} {ana : Bool} {resetN : Bool} {us : Nat}
    (hP : Cell.clear execChipResetEndC o = true) : Out.Spares o s (execChipResetEnd pairId core io ana resetN us s) := by
  simp only [execChipResetEndC, Cell.clear_append_iff, Cell.clear_cons_iff, Cell.clear_nil_iff] at hP
  unfold execChipResetEnd
  refine .act (State.Spares.links ?_)
  dsimp only
  refine State.Spares.chipB (by simp only [hP])
    (State.Spares.putB (by simp only [hP]) (State.Spares.onClk (by simp only [hP]) ?_))
  exact State.makeUp_spared (by simp only [hP]) (State.setTb_spared (by simp only [hP]) (.refl _ _))

def execXtalOkC : List Cell := [.part .clk, .reg CLK_STAT_XTAL_OK]
theorem execXtalOk_out (hP : Cell.clear execXtalOkC o = true) : Out.Spares o s (execXtalOk s) := by
  simp only [execXtalOkC, Cell.clear_cons_iff, Cell.clear_nil_iff] at hP
  unfold execXtalOk
  repeat' first
    | with_reducible exact h | with_reducible exact Out.Spares.stay | with_reducible exact State.Spares.refl _ _ | with_reducible refine Out.Spares.act ?_ | with_reducible refine State.Spares.onClk (by simp only [hP]) ?_
    | with_reducible refine State.Spares.on (by simp only [hP]) ?_

def execSlowClockEdgeC : List Cell := [.part .clk, .reg CLK_STAT_SLOW_SRC]
theorem execSlowClockEdge_out {act : BitVec 10} (hP : Cell.clear execSlowClockEdgeC o = true) : Out.Spares o s
    (execSlowClockEdge act s) := by
  simp only [execSlowClockEdgeC, Cell.clear_cons_iff, Cell.clear_nil_iff] at hP
  unfold execSlowClockEdge
  dsimp only
  repeat' first
    | with_reducible exact h | with_reducible exact Out.Spares.stay | with_reducible exact State.Spares.refl _ _ | with_reducible refine Out.Spares.act ?_ | with_reducible refine State.Spares.onClk (by simp only [hP]) ?_
    | with_reducible refine State.Spares.putB (by simp only [hP]) ?_

def execReqRunC : List Cell := State.reqStateC
theorem execReqRun_out (hP : Cell.clear execReqRunC o = true) : Out.Spares o s (execReqRun s) := by
  simp only [execReqRunC] at hP
  unfold execReqRun
  repeat' first
    | with_reducible exact h | with_reducible exact Out.Spares.stay | with_reducible exact State.Spares.refl _ _ | with_reducible refine Out.Spares.act ?_ | with_reducible refine State.reqState_spared (by simp only [hP]) ?_

def execReqDozeC : List Cell := State.reqStateC
theorem execReqDoze_out (hP : Cell.clear execReqDozeC o = true) : Out.Spares o s (execReqDoze s) := by
  simp only [execReqDozeC] at hP
  unfold execReqDoze
  repeat' first
    | with_reducible exact h | with_reducible exact Out.Spares.stay | with_reducible exact State.Spares.refl _ _ | with_reducible refine Out.Spares.act ?_ | with_reducible refine State.reqState_spared (by simp only [hP]) ?_

def execReqSleepC : List Cell := State.reqStateC
theorem execReqSleep_out {act : BitVec 10} (hP : Cell.clear execReqSleepC o = true) : Out.Spares o s (execReqSleep act s)
    := by
  simp only [execReqSleepC] at hP
  unfold execReqSleep
  repeat' first
    | with_reducible exact h | with_reducible exact Out.Spares.stay | with_reducible exact State.Spares.refl _ _ | with_reducible refine Out.Spares.act ?_ | with_reducible refine State.reqState_spared (by simp only [hP]) ?_

def execReqStandbyC : List Cell := State.reqStateC
theorem execReqStandby_out {act : BitVec 10} (hP : Cell.clear execReqStandbyC o = true) : Out.Spares o s
    (execReqStandby act s) := by
  simp only [execReqStandbyC] at hP
  unfold execReqStandby
  repeat' first
    | with_reducible exact h | with_reducible exact Out.Spares.stay | with_reducible exact State.Spares.refl _ _ | with_reducible refine Out.Spares.act ?_ | with_reducible refine State.reqState_spared (by simp only [hP]) ?_

theorem execCableResetReceived_out {_p : Fin 48}  : Out.Spares o s (execCableResetReceived _p s) := by
  unfold execCableResetReceived
  repeat' first
    | with_reducible exact h | with_reducible exact Out.Spares.stay | with_reducible exact State.Spares.refl _ _ | with_reducible refine Out.Spares.act ?_ 

theorem execEventSend_out {n : Fin 2}  : Out.Spares o s (execEventSend n s) := by
  unfold execEventSend
  repeat' first
    | with_reducible exact h | with_reducible exact Out.Spares.stay | with_reducible exact State.Spares.refl _ _ | with_reducible refine Out.Spares.act ?_ | with_reducible refine State.Spares.onLink ?_

theorem execEventResend_out {n : Fin 2}  : Out.Spares o s (execEventResend n s) := by
  unfold execEventResend
  repeat' first
    | with_reducible exact h | with_reducible exact Out.Spares.stay | with_reducible exact State.Spares.refl _ _ | with_reducible refine Out.Spares.act ?_ | with_reducible refine State.kickLink_spared ?_
    | with_reducible refine State.Spares.onLink ?_

def execTambConversionC : List Cell := State.tambConvertC
theorem execTambConversion_out {mv0 : Nat} {mv1 : Nat} (hP : Cell.clear execTambConversionC o = true) : Out.Spares o s
    (execTambConversion mv0 mv1 s) := by
  simp only [execTambConversionC] at hP
  unfold execTambConversion
  repeat' first
    | with_reducible exact h | with_reducible exact Out.Spares.stay | with_reducible exact State.Spares.refl _ _ | with_reducible refine Out.Spares.act ?_ | with_reducible refine State.tambConvert_spared (by simp only [hP]) ?_

def execIdRevTripC : List Cell := [.part .pantry] ++ State.panMeasureC ++ State.qidOffC
theorem execIdRevTrip_out {m : PanMeas} (hP : Cell.clear execIdRevTripC o = true) : Out.Spares o s (execIdRevTrip m s) := by
  simp only [execIdRevTripC, Cell.clear_append_iff, Cell.clear_cons_iff, Cell.clear_nil_iff] at hP
  unfold execIdRevTrip
  repeat' first
    | with_reducible exact h | with_reducible exact Out.Spares.stay | with_reducible exact State.Spares.refl _ _ | with_reducible refine panAct_out (by simp only [hP]) (fun _ h => ?_) | with_reducible refine State.qidOff_spared (by simp only [hP]) ?_
    | with_reducible refine State.Spares.onPan (by simp only [hP]) ?_ | with_reducible refine State.Spares.ite ?_ ?_

def execVbusInReturnC : List Cell := [.reg CHG_STAT_CUTOFF] ++ State.panMeasureC
theorem execVbusInReturn_out {m : PanMeas} (hP : Cell.clear execVbusInReturnC o = true) : Out.Spares o s
    (execVbusInReturn m s) := by
  simp only [execVbusInReturnC, Cell.clear_append_iff, Cell.clear_cons_iff, Cell.clear_nil_iff] at hP
  unfold execVbusInReturn
  repeat' first
    | with_reducible exact h | with_reducible exact Out.Spares.stay | with_reducible exact State.Spares.refl _ _ | with_reducible refine panAct_out (by simp only [hP]) (fun _ h => ?_) | with_reducible refine State.Spares.off (by simp only [hP]) ?_
    | with_reducible refine State.Spares.ite ?_ ?_

def execBatteryModeC : List Cell := [.part .pantry] ++ State.writeModeC
theorem execBatteryMode_out (hP : Cell.clear execBatteryModeC o = true) : Out.Spares o s (execBatteryMode s) := by
  simp only [execBatteryModeC, Cell.clear_append_iff, Cell.clear_cons_iff, Cell.clear_nil_iff] at hP
  unfold execBatteryMode
  dsimp only
  repeat' first
    | with_reducible exact h | with_reducible exact Out.Spares.stay | with_reducible exact State.Spares.refl _ _ | with_reducible refine Out.Spares.act ?_ | with_reducible refine State.writeMode_spared (by simp only [hP]) ?_
    | with_reducible refine State.Spares.onPan (by simp only [hP]) ?_

def execBatteryOperationEndC : List Cell := State.panMeasureC ++ State.endBatteryC
theorem execBatteryOperationEnd_out {m : PanMeas} (hP : Cell.clear execBatteryOperationEndC o = true) : Out.Spares o s
    (execBatteryOperationEnd m s) := by
  simp only [execBatteryOperationEndC, Cell.clear_append_iff] at hP
  unfold execBatteryOperationEnd
  repeat' first
    | with_reducible exact h | with_reducible exact Out.Spares.stay | with_reducible exact State.Spares.refl _ _ | with_reducible refine panAct_out (by simp only [hP]) (fun _ h => ?_) | with_reducible refine State.endBattery_spared (by simp only [hP]) ?_
    | with_reducible refine State.Spares.ite ?_ ?_

def execCutoffC : List Cell :=
  [.reg CHG_STAT_CUTOFF] ++ State.cutTimerC ++ State.panFaultC PANTRY_FAULT_CUTOFF ++ State.qidOffC
theorem execCutoff_out {mean : Nat} (hP : Cell.clear execCutoffC o = true) : Out.Spares o s (execCutoff mean s) := by
  simp only [execCutoffC, Cell.clear_append_iff, Cell.clear_cons_iff, Cell.clear_nil_iff] at hP
  unfold execCutoff
  dsimp only
  repeat' first
    | with_reducible exact h | with_reducible exact Out.Spares.stay | with_reducible exact State.Spares.refl _ _ | with_reducible refine Out.Spares.act ?_ | with_reducible refine State.cutTimer_spared (by simp only [hP]) ?_
    | with_reducible refine State.panFault_spared (by simp only [hP]) ?_
    | with_reducible refine State.qidOff_spared (by simp only [hP]) ?_
    | with_reducible refine State.Spares.on (by simp only [hP]) ?_ | with_reducible refine State.Spares.ite ?_ ?_

def execBatPresChangeC : List Cell :=
  [.part .pantry, .reg PANTRY_EVENT_PRES_CHANGE, .reg CHG_STAT_PRES] ++ State.panFaultC PANTRY_FAULT_BAT_REMOVED ++
    State.panToC ++ State.qidOffC ++ State.refreshChgC
theorem execBatPresChange_out {present : Bool} (hP : Cell.clear execBatPresChangeC o = true) : Out.Spares o s
    (execBatPresChange present s) := by
  simp only [execBatPresChangeC, Cell.clear_append_iff, Cell.clear_cons_iff, Cell.clear_nil_iff] at hP
  unfold execBatPresChange
  dsimp only
  repeat' first
    | with_reducible exact h | with_reducible exact Out.Spares.stay | with_reducible exact State.Spares.refl _ _ | with_reducible refine Out.Spares.act ?_ | with_reducible refine State.panFault_spared (by simp only [hP]) ?_
    | with_reducible refine State.panTo_spared (by simp only [hP]) ?_
    | with_reducible refine State.qidOff_spared (by simp only [hP]) ?_
    | with_reducible refine State.refreshChg_spared (by simp only [hP]) ?_
    | with_reducible refine State.Spares.onPan (by simp only [hP]) ?_
    | with_reducible refine State.Spares.on (by simp only [hP]) ?_
    | with_reducible refine State.Spares.putB (by simp only [hP]) ?_ | with_reducible refine State.Spares.ite ?_ ?_

def execQualificationC : List Cell :=
  [.part .pantry] ++ State.latchPanC PANTRY_FAULT_NTC_FAULT ++ State.latchPanC PANTRY_FAULT_QUAL_V ++
    State.latchPanC PANTRY_FAULT_QUAL_R ++ State.panToC ++ State.refreshChgC
theorem execQualification_out {mean : Nat} (hP : Cell.clear execQualificationC o = true) : Out.Spares o s
    (execQualification mean s) := by
  simp only [execQualificationC, Cell.clear_append_iff, Cell.clear_cons_iff, Cell.clear_nil_iff] at hP
  unfold execQualification
  dsimp only
  repeat' first
    | with_reducible exact h | with_reducible exact Out.Spares.stay | with_reducible exact State.Spares.refl _ _ | with_reducible refine Out.Spares.act ?_ | with_reducible refine State.latchPan_spared (by simp only [hP]) ?_
    | with_reducible refine State.panTo_spared (by simp only [hP]) ?_
    | with_reducible refine State.refreshChg_spared (by simp only [hP]) ?_
    | with_reducible refine State.Spares.onPan (by simp only [hP]) ?_ | with_reducible refine State.Spares.ite ?_ ?_
    | split

def execPreTimeoutC : List Cell := State.latchPanC PANTRY_FAULT_PRE_TIMEOUT
theorem execPreTimeout_out (hP : Cell.clear execPreTimeoutC o = true) : Out.Spares o s (execPreTimeout s) := by
  simp only [execPreTimeoutC] at hP
  unfold execPreTimeout
  repeat' first
    | with_reducible exact h | with_reducible exact Out.Spares.stay | with_reducible exact State.Spares.refl _ _ | with_reducible refine Out.Spares.act ?_ | with_reducible refine State.latchPan_spared (by simp only [hP]) ?_

def execSafetyTmrC : List Cell := State.latchPanC PANTRY_FAULT_SAFETY_TMR
theorem execSafetyTmr_out (hP : Cell.clear execSafetyTmrC o = true) : Out.Spares o s (execSafetyTmr s) := by
  simp only [execSafetyTmrC] at hP
  unfold execSafetyTmr
  repeat' first
    | with_reducible exact h | with_reducible exact Out.Spares.stay | with_reducible exact State.Spares.refl _ _ | with_reducible refine Out.Spares.act ?_ | with_reducible refine State.latchPan_spared (by simp only [hP]) ?_

def execChgOvC : List Cell := State.latchPanC PANTRY_FAULT_CHG_OV
theorem execChgOv_out (hP : Cell.clear execChgOvC o = true) : Out.Spares o s (execChgOv s) := by
  simp only [execChgOvC] at hP
  unfold execChgOv
  repeat' first
    | with_reducible exact h | with_reducible exact Out.Spares.stay | with_reducible exact State.Spares.refl _ _ | with_reducible refine Out.Spares.act ?_ | with_reducible refine State.latchPan_spared (by simp only [hP]) ?_

def execPresStableC : List Cell := State.panToC
theorem execPresStable_out (hP : Cell.clear execPresStableC o = true) : Out.Spares o s (execPresStable s) := by
  simp only [execPresStableC] at hP
  unfold execPresStable
  repeat' first
    | with_reducible exact h | with_reducible exact Out.Spares.stay | with_reducible exact State.Spares.refl _ _ | with_reducible refine Out.Spares.act ?_ | with_reducible refine State.panTo_spared (by simp only [hP]) ?_

def execNdvWindowC : List Cell := [.part .pantry, .reg CHG_PROG_PEAK] ++ State.terminateC
theorem execNdvWindow_out {mean : Nat} (hP : Cell.clear execNdvWindowC o = true) : Out.Spares o s (execNdvWindow mean s) := by
  simp only [execNdvWindowC, Cell.clear_append_iff, Cell.clear_cons_iff, Cell.clear_nil_iff] at hP
  unfold execNdvWindow
  dsimp only
  repeat' first
    | with_reducible exact h | with_reducible exact Out.Spares.stay | with_reducible exact State.Spares.refl _ _ | with_reducible refine Out.Spares.act ?_ | with_reducible refine State.terminate_spared (by simp only [hP]) ?_
    | with_reducible refine State.Spares.onPan (by simp only [hP]) ?_
    | with_reducible refine State.Spares.put (by simp only [hP]) ?_ | with_reducible refine State.Spares.ite ?_ ?_

def execStartC : List Cell := State.panToC
theorem execStart_out (hP : Cell.clear execStartC o = true) : Out.Spares o s (execStart s) := by
  simp only [execStartC] at hP
  unfold execStart
  repeat' first
    | with_reducible exact h | with_reducible exact Out.Spares.stay | with_reducible exact State.Spares.refl _ _ | with_reducible refine Out.Spares.act ?_ | with_reducible refine State.panTo_spared (by simp only [hP]) ?_

def execPrechargeDoneC : List Cell := State.panMeasureC ++ State.panToC
theorem execPrechargeDone_out {m : PanMeas} (hP : Cell.clear execPrechargeDoneC o = true) : Out.Spares o s
    (execPrechargeDone m s) := by
  simp only [execPrechargeDoneC, Cell.clear_append_iff] at hP
  unfold execPrechargeDone
  repeat' first
    | with_reducible exact h | with_reducible exact Out.Spares.stay | with_reducible exact State.Spares.refl _ _ | with_reducible refine panAct_out (by simp only [hP]) (fun _ h => ?_) | with_reducible refine State.panTo_spared (by simp only [hP]) ?_
    | with_reducible refine State.Spares.ite ?_ ?_

def execPauseC : List Cell :=
  [.reg CHG_STAT_PAUSE_CAUSE, .reg PANTRY_EVENT_BUDGET_PAUSE] ++ State.panMeasureC ++ State.giveBackC ++
    State.pauseForC ++ State.resumeC
theorem execPause_out {m : PanMeas} (hP : Cell.clear execPauseC o = true) : Out.Spares o s (execPause m s) := by
  simp only [execPauseC, Cell.clear_append_iff, Cell.clear_cons_iff, Cell.clear_nil_iff] at hP
  unfold execPause
  dsimp only
  repeat' first
    | with_reducible exact h | with_reducible exact Out.Spares.stay | with_reducible exact State.Spares.refl _ _ | with_reducible refine panAct_out (by simp only [hP]) (fun _ h => ?_) | with_reducible refine State.giveBack_spared (by simp only [hP]) ?_
    | with_reducible refine State.pauseFor_spared (by simp only [hP]) ?_
    | with_reducible refine State.resume_spared (by simp only [hP]) ?_
    | with_reducible refine State.Spares.put (by simp only [hP]) ?_
    | with_reducible refine State.Spares.on (by simp only [hP]) ?_ | with_reducible refine State.Spares.ite ?_ ?_

def execRestartC : List Cell := State.panMeasureC ++ State.panRestartC
theorem execRestart_out {m : PanMeas} (hP : Cell.clear execRestartC o = true) : Out.Spares o s (execRestart m s) := by
  simp only [execRestartC, Cell.clear_append_iff] at hP
  unfold execRestart
  repeat' first
    | with_reducible exact h | with_reducible exact Out.Spares.stay | with_reducible exact State.Spares.refl _ _ | with_reducible refine panAct_out (by simp only [hP]) (fun _ h => ?_) | with_reducible refine State.panRestart_spared (by simp only [hP]) ?_

def execDtdtEvaluationC : List Cell := [.part .pantry, .reg BAT_TEMP_DTDT] ++ State.terminateC
theorem execDtdtEvaluation_out {mean : Int} (hP : Cell.clear execDtdtEvaluationC o = true) : Out.Spares o s
    (execDtdtEvaluation mean s) := by
  simp only [execDtdtEvaluationC, Cell.clear_append_iff, Cell.clear_cons_iff, Cell.clear_nil_iff] at hP
  unfold execDtdtEvaluation
  dsimp only
  repeat' first
    | with_reducible exact h | with_reducible exact Out.Spares.stay | with_reducible exact State.Spares.refl _ _ | with_reducible refine Out.Spares.act ?_ | with_reducible refine State.terminate_spared (by simp only [hP]) ?_
    | with_reducible refine State.Spares.onPan (by simp only [hP]) ?_
    | with_reducible refine State.Spares.put (by simp only [hP]) ?_ | with_reducible refine State.Spares.ite ?_ ?_
    | split

def execBudgetPauseRetryC : List Cell := State.askRootC
theorem execBudgetPauseRetry_out (hP : Cell.clear execBudgetPauseRetryC o = true) : Out.Spares o s
    (execBudgetPauseRetry s) := by
  simp only [execBudgetPauseRetryC] at hP
  unfold execBudgetPauseRetry
  repeat' first
    | with_reducible exact h | with_reducible exact Out.Spares.stay | with_reducible exact State.Spares.refl _ _ | with_reducible refine Out.Spares.act ?_ | with_reducible refine State.askRoot_spared (by simp only [hP]) ?_

def execPPkTripC : List Cell := [.part .pantry]
theorem execPPkTrip_out {neg : Bool} (hP : Cell.clear execPPkTripC o = true) : Out.Spares o s (execPPkTrip neg s) := by
  simp only [execPPkTripC, Cell.clear_cons_iff, Cell.clear_nil_iff] at hP
  unfold execPPkTrip
  repeat' first
    | with_reducible exact h | with_reducible exact Out.Spares.stay | with_reducible exact State.Spares.refl _ _ | with_reducible refine Out.Spares.act ?_ | with_reducible refine State.Spares.onPan (by simp only [hP]) ?_

def execPOvTripC : List Cell := [.part .pantry] ++ State.refreshChgC
theorem execPOvTrip_out (hP : Cell.clear execPOvTripC o = true) : Out.Spares o s (execPOvTrip s) := by
  simp only [execPOvTripC, Cell.clear_append_iff, Cell.clear_cons_iff, Cell.clear_nil_iff] at hP
  unfold execPOvTrip
  repeat' first
    | with_reducible exact h | with_reducible exact Out.Spares.stay | with_reducible exact State.Spares.refl _ _ | with_reducible refine Out.Spares.act ?_ | with_reducible refine State.refreshChg_spared (by simp only [hP]) ?_
    | with_reducible refine State.Spares.onPan (by simp only [hP]) ?_

def execPanEnWriteC : List Cell := [.reg PAN_CTRL_EN] ++ State.panToC ++ State.qidOffC
theorem execPanEnWrite_out {en : Bool} (hP : Cell.clear execPanEnWriteC o = true) : Out.Spares o s (execPanEnWrite en s) := by
  simp only [execPanEnWriteC, Cell.clear_append_iff, Cell.clear_cons_iff, Cell.clear_nil_iff] at hP
  unfold execPanEnWrite
  dsimp only
  repeat' first
    | with_reducible exact h | with_reducible exact Out.Spares.stay | with_reducible exact State.Spares.refl _ _ | with_reducible refine Out.Spares.act ?_ | with_reducible refine State.panTo_spared (by simp only [hP]) ?_
    | with_reducible refine State.qidOff_spared (by simp only [hP]) ?_
    | with_reducible refine State.Spares.putB (by simp only [hP]) ?_ | with_reducible refine State.Spares.ite ?_ ?_

def execLampSlotC : List Cell := [.part .lamps]
theorem execLampSlot_out (hP : Cell.clear execLampSlotC o = true) : Out.Spares o s (execLampSlot s) := by
  simp only [execLampSlotC, Cell.clear_cons_iff, Cell.clear_nil_iff] at hP
  unfold execLampSlot
  dsimp only
  repeat' first
    | with_reducible exact h | with_reducible exact Out.Spares.stay | with_reducible exact State.Spares.refl _ _ | with_reducible refine Out.Spares.act ?_ | with_reducible refine State.Spares.lamps (by simp only [hP]) ?_

def execLoadC : List Cell := State.loadTbC
theorem execLoad_out (hP : Cell.clear execLoadC o = true) : Out.Spares o s (execLoad s) := by
  simp only [execLoadC] at hP
  unfold execLoad
  repeat' first
    | with_reducible exact h | with_reducible exact Out.Spares.stay | with_reducible exact State.Spares.refl _ _ | with_reducible refine Out.Spares.act ?_ | with_reducible refine State.loadTb_spared (by simp only [hP]) ?_

def execSnapTrigC : List Cell := State.snapTrigC
theorem execSnapTrig_out (hP : Cell.clear execSnapTrigC o = true) : Out.Spares o s (execSnapTrig s) := by
  simp only [execSnapTrigC] at hP
  unfold execSnapTrig
  repeat' first
    | with_reducible exact h | with_reducible exact Out.Spares.stay | with_reducible exact State.Spares.refl _ _ | with_reducible refine Out.Spares.act ?_ | with_reducible refine State.snapTrig_spared (by simp only [hP]) ?_

def execSnapIoEdgeC : List Cell := [.part .snap] ++ State.snapTriggerC
theorem execSnapIoEdge_out {low : Bool} (hP : Cell.clear execSnapIoEdgeC o = true) : Out.Spares o s (execSnapIoEdge low s)
    := by
  simp only [execSnapIoEdgeC, Cell.clear_append_iff, Cell.clear_cons_iff, Cell.clear_nil_iff] at hP
  unfold execSnapIoEdge
  dsimp only
  repeat' first
    | with_reducible exact h | with_reducible exact Out.Spares.stay | with_reducible exact State.Spares.refl _ _ | with_reducible refine Out.Spares.act ?_ | with_reducible refine State.snapTrigger_spared (by simp only [hP]) ?_
    | with_reducible refine State.Spares.ite ?_ ?_ | split
    | with_reducible refine State.Spares.snap (by simp only [hP]) ?_

def execSnapC : List Cell := State.snapTriggerC
theorem execSnap_out (hP : Cell.clear execSnapC o = true) : Out.Spares o s (execSnap s) := by
  simp only [execSnapC] at hP
  unfold execSnap
  repeat' first
    | with_reducible exact h | with_reducible exact Out.Spares.stay | with_reducible exact State.Spares.refl _ _ | with_reducible refine Out.Spares.act ?_ | with_reducible refine State.snapTrigger_spared (by simp only [hP]) ?_

def execSnapIoReleaseC : List Cell := [.part .snap]
theorem execSnapIoRelease_out (hP : Cell.clear execSnapIoReleaseC o = true) : Out.Spares o s (execSnapIoRelease s) := by
  simp only [execSnapIoReleaseC, Cell.clear_cons_iff, Cell.clear_nil_iff] at hP
  unfold execSnapIoRelease
  repeat' first
    | with_reducible exact h | with_reducible exact Out.Spares.stay | with_reducible exact State.Spares.refl _ _ | with_reducible refine Out.Spares.act ?_ | with_reducible refine State.Spares.snap (by simp only [hP]) ?_

def execSubscribeC (n : Fin 2) : List Cell := State.arriveC n ++ State.hlSubscribeC n
theorem execSubscribe_out {n : Fin 2} {line : List Byte} (hP : Cell.clear (execSubscribeC n) o = true) : Out.Spares o s
    (execSubscribe n line s) := by
  simp only [execSubscribeC, Cell.clear_append_iff] at hP
  unfold execSubscribe
  repeat' first
    | with_reducible exact h | with_reducible exact Out.Spares.stay | with_reducible exact State.Spares.refl _ _ | with_reducible refine hostAct_out (by simp only [hP]) (fun _ _ h => ?_) | with_reducible refine State.hlSubscribe_spared (by simp only [hP]) ?_

def execHlActivateC (n : Fin 2) : List Cell := State.arriveC n ++ State.hlActivateC
theorem execHlActivate_out {n : Fin 2} {line : List Byte} {held : Bool} {recOk : Bool}
    (hP : Cell.clear (execHlActivateC n) o = true) : Out.Spares o s (execHlActivate n line held recOk s) := by
  simp only [execHlActivateC, Cell.clear_append_iff] at hP
  unfold execHlActivate
  repeat' first
    | with_reducible exact h | with_reducible exact Out.Spares.stay | with_reducible exact State.Spares.refl _ _ | with_reducible refine hostAct_out (by simp only [hP]) (fun _ _ h => ?_) | with_reducible refine State.hlActivate_spared (by simp only [hP]) ?_

def execAckC (n : Fin 2) : List Cell := State.arriveC n ++ State.hlAckC
theorem execAck_out {n : Fin 2} {line : List Byte} (hP : Cell.clear (execAckC n) o = true) : Out.Spares o s
    (execAck n line s) := by
  simp only [execAckC, Cell.clear_append_iff] at hP
  unfold execAck
  repeat' first
    | with_reducible exact h | with_reducible exact Out.Spares.stay | with_reducible exact State.Spares.refl _ _ | with_reducible refine hostAct_out (by simp only [hP]) (fun _ _ h => ?_) | with_reducible refine State.hlAck_spared (by simp only [hP]) ?_

def execPingC (n : Fin 2) : List Cell := State.arriveC n ++ State.hlPingC
theorem execPing_out {n : Fin 2} {line : List Byte} (hP : Cell.clear (execPingC n) o = true) : Out.Spares o s
    (execPing n line s) := by
  simp only [execPingC, Cell.clear_append_iff] at hP
  unfold execPing
  repeat' first
    | with_reducible exact h | with_reducible exact Out.Spares.stay | with_reducible exact State.Spares.refl _ _ | with_reducible refine hostAct_out (by simp only [hP]) (fun _ _ h => ?_) | with_reducible refine State.hlPing_spared (by simp only [hP]) ?_

def execTimeoutC : List Cell := State.refusalC
theorem execTimeout_out {n : Fin 2} (hP : Cell.clear execTimeoutC o = true) : Out.Spares o s (execTimeout n s) := by
  simp only [execTimeoutC] at hP
  unfold execTimeout
  dsimp only
  repeat' first
    | with_reducible exact h | with_reducible exact Out.Spares.stay | with_reducible exact State.Spares.refl _ _ | with_reducible refine Out.Spares.act ?_ | with_reducible refine State.refusal_spared (by simp only [hP]) ?_
    | with_reducible refine State.finish_spared ?_ | with_reducible refine State.Spares.onLink ?_ | split

def execUnknownTypeC : List Cell := State.arriveC 0 ++ State.arriveC 1 ++ State.porchSendC
theorem execUnknownType_out {n : Fin 3} {line : List Byte} (hP : Cell.clear execUnknownTypeC o = true) : Out.Spares o s
    (execUnknownType n line s) := by
  simp only [execUnknownTypeC, Cell.clear_append_iff] at hP
  unfold execUnknownType
  split
  · exact .stay
  · split
    · next hn =>
      have hlink : ∀ k : Fin 2, Cell.clear (State.arriveC k) o = true := by
        rw [Fin.forall_fin_two]
        exact hP.1
      have harrive := hlink ⟨n.val, hn⟩
      exact .act (State.arrive_spared (fun _ h => State.hlUnknown_spared h) harrive (.refl _ _))
    · exact .act (State.porchSend_spared (by simp only [hP]) (.refl _ _))

def execFrameDiscardC (n : Fin 3) : List Cell :=
  State.countErrC (errField n HL_ERR_OVERRUN PORCH_ERR_OVERRUN) ++
    State.countErrC (errField n HL_ERR_CHAR PORCH_ERR_CHAR) ++ State.countErrC (errField n HL_ERR_CRC PORCH_ERR_CRC)
theorem execFrameDiscard_out {n : Fin 3} {line : List Byte} {charErr : Bool} {lost : Bool}
    (hP : Cell.clear (execFrameDiscardC n) o = true) : Out.Spares o s (execFrameDiscard n line charErr lost s) := by
  simp only [execFrameDiscardC, Cell.clear_append_iff] at hP
  unfold execFrameDiscard
  repeat' first
    | with_reducible exact h | with_reducible exact Out.Spares.stay | with_reducible exact State.Spares.refl _ _ | with_reducible refine Out.Spares.act ?_ | with_reducible refine State.countErr_spared (by simp only [hP]) ?_
    | with_reducible refine State.Spares.ite ?_ ?_ | split

def execFrameAbortC (n : Fin 3) : List Cell :=
  State.countErrC (errField n HL_ERR_ABORT PORCH_ERR_ABORT) ++ State.countErrC (errField n HL_ERR_CHAR PORCH_ERR_CHAR)
theorem execFrameAbort_out {n : Fin 3} {line : List Byte} {idle : Nat} (hP : Cell.clear (execFrameAbortC n) o = true) :
    Out.Spares o s (execFrameAbort n line idle s) := by
  simp only [execFrameAbortC, Cell.clear_append_iff] at hP
  unfold execFrameAbort
  dsimp only
  repeat' first
    | with_reducible exact h | with_reducible exact Out.Spares.stay | with_reducible exact State.Spares.refl _ _ | with_reducible refine Out.Spares.act ?_ | with_reducible refine State.countErr_spared (by simp only [hP]) ?_
    | with_reducible refine State.Spares.ite ?_ ?_

def execGoC : List Cell := State.postGoC
theorem execGo_out (hP : Cell.clear execGoC o = true) : Out.Spares o s (execGo s) := by
  simp only [execGoC] at hP
  unfold execGo
  repeat' first
    | with_reducible exact h | with_reducible exact Out.Spares.stay | with_reducible exact State.Spares.refl _ _ | with_reducible refine Out.Spares.act ?_ | with_reducible refine State.postGo_spared (by simp only [hP]) ?_

def execTwTimeoutC (n : Fin 4) : List Cell := State.twLostC n
theorem execTwTimeout_out {n : Fin 4} {write : Bool} (hP : Cell.clear (execTwTimeoutC n) o = true) : Out.Spares o s
    (execTwTimeout n write s) := by
  simp only [execTwTimeoutC] at hP
  unfold execTwTimeout
  repeat' first
    | with_reducible exact h | with_reducible exact Out.Spares.stay | with_reducible exact State.Spares.refl _ _ | with_reducible refine Out.Spares.act ?_ | with_reducible refine State.twLost_spared (by simp only [hP]) ?_

def execTwBusErrorC (n : Fin 4) : List Cell := State.twLostC n
theorem execTwBusError_out {n : Fin 4} {write : Bool} (hP : Cell.clear (execTwBusErrorC n) o = true) : Out.Spares o s
    (execTwBusError n write s) := by
  simp only [execTwBusErrorC] at hP
  unfold execTwBusError
  repeat' first
    | with_reducible exact h | with_reducible exact Out.Spares.stay | with_reducible exact State.Spares.refl _ _ | with_reducible refine Out.Spares.act ?_ | with_reducible refine State.twLost_spared (by simp only [hP]) ?_

def execTcGoC (m : Fin 2) : List Cell := State.tcGoC m
theorem execTcGo_out {m : Fin 2} (hP : Cell.clear (execTcGoC m) o = true) : Out.Spares o s (execTcGo m s) := by
  simp only [execTcGoC] at hP
  unfold execTcGo
  repeat' first
    | with_reducible exact h | with_reducible exact Out.Spares.stay | with_reducible exact State.Spares.refl _ _ | with_reducible refine Out.Spares.act ?_ | with_reducible refine State.tcGo_spared (by simp only [hP]) ?_

def execTcDoneC (m : Fin 2) : List Cell :=
  [.reg (tcField m TC_STAT_BUSY), .reg (tcField m TC_STAT_DONE), .reg (tcField m TC_STAT_RESULT),
    .reg (tcField m TC_STAT_COUNT)] ++ State.tcDataC m
theorem execTcDone_out {m : Fin 2} {result : Fin 5} {count : Nat} {data : List Byte}
    (hP : Cell.clear (execTcDoneC m) o = true) : Out.Spares o s (execTcDone m result count data s) := by
  simp only [execTcDoneC, Cell.clear_append_iff, Cell.clear_cons_iff, Cell.clear_nil_iff] at hP
  unfold execTcDone
  dsimp only
  repeat' first
    | with_reducible exact h | with_reducible exact Out.Spares.stay | with_reducible exact State.Spares.refl _ _ | with_reducible refine Out.Spares.act ?_ | with_reducible refine State.tcData_spared (by simp only [hP]) ?_
    | with_reducible refine State.Spares.put (by simp only [hP]) ?_
    | with_reducible refine State.Spares.on (by simp only [hP]) ?_
    | with_reducible refine State.Spares.off (by simp only [hP]) ?_

def execProgramC : List Cell := State.fuseWriteC 1
theorem execProgram_out {r : Req} {vpp : Bool} {vdd : Bool} (hP : Cell.clear execProgramC o = true) : Out.Spares o s
    (execProgram r vpp vdd s) := by
  simp only [execProgramC] at hP
  unfold execProgram
  repeat' first
    | with_reducible exact h | with_reducible exact Out.Spares.stay | with_reducible exact State.Spares.refl _ _ | with_reducible refine Out.Spares.act ?_ | with_reducible refine State.fuseWrite_spared (by simp only [hP]) ?_

def execMarginC : List Cell := State.fuseWriteC 2
theorem execMargin_out {r : Req} (hP : Cell.clear execMarginC o = true) : Out.Spares o s (execMargin r s) := by
  simp only [execMarginC] at hP
  unfold execMargin
  repeat' first
    | with_reducible exact h | with_reducible exact Out.Spares.stay | with_reducible exact State.Spares.refl _ _ | with_reducible refine Out.Spares.act ?_ | with_reducible refine State.fuseWrite_spared (by simp only [hP]) ?_

def execAdvanceC : List Cell := State.fuseWriteC 3
theorem execAdvance_out {r : Req} {vpp : Bool} {vdd : Bool} (hP : Cell.clear execAdvanceC o = true) : Out.Spares o s
    (execAdvance r vpp vdd s) := by
  simp only [execAdvanceC] at hP
  unfold execAdvance
  repeat' first
    | with_reducible exact h | with_reducible exact Out.Spares.stay | with_reducible exact State.Spares.refl _ _ | with_reducible refine Out.Spares.act ?_ | with_reducible refine State.fuseWrite_spared (by simp only [hP]) ?_

def execLifecycleC : List Cell := State.fuseWriteC 5
theorem execLifecycle_out {r : Req} {vpp : Bool} {vdd : Bool} (hP : Cell.clear execLifecycleC o = true) : Out.Spares o s
    (execLifecycle r vpp vdd s) := by
  simp only [execLifecycleC] at hP
  unfold execLifecycle
  repeat' first
    | with_reducible exact h | with_reducible exact Out.Spares.stay | with_reducible exact State.Spares.refl _ _ | with_reducible refine Out.Spares.act ?_ | with_reducible refine State.fuseWrite_spared (by simp only [hP]) ?_

def execProgSecretC : List Cell := State.fuseWriteC 4
theorem execProgSecret_out {r : Req} {vpp : Bool} {vdd : Bool} (hP : Cell.clear execProgSecretC o = true) : Out.Spares o s
    (execProgSecret r vpp vdd s) := by
  simp only [execProgSecretC] at hP
  unfold execProgSecret
  repeat' first
    | with_reducible exact h | with_reducible exact Out.Spares.stay | with_reducible exact State.Spares.refl _ _ | with_reducible refine Out.Spares.act ?_ | with_reducible refine State.fuseWrite_spared (by simp only [hP]) ?_

def execAtticCommandDoneC : List Cell := State.fuseEndC
theorem execAtticCommandDone_out {abort : Option Nat} {bad : List (Nat × Bool × Word)}
    (hP : Cell.clear execAtticCommandDoneC o = true) : Out.Spares o s (execAtticCommandDone abort bad s) := by
  simp only [execAtticCommandDoneC] at hP
  unfold execAtticCommandDone
  repeat' first
    | with_reducible exact h | with_reducible exact Out.Spares.stay | with_reducible exact State.Spares.refl _ _ | with_reducible refine Out.Spares.act ?_ | with_reducible refine State.fuseEnd_spared (by simp only [hP]) ?_
    | with_reducible refine State.Spares.ite ?_ ?_ | split

def execVerifyC : List Cell := State.verifyStartC
theorem execVerify_out (hP : Cell.clear execVerifyC o = true) : Out.Spares o s (execVerify s) := by
  simp only [execVerifyC] at hP
  unfold execVerify
  repeat' first
    | with_reducible exact h | with_reducible exact Out.Spares.stay | with_reducible exact State.Spares.refl _ _ | with_reducible refine Out.Spares.act ?_ | with_reducible refine State.verifyStart_spared (by simp only [hP]) ?_

def execVerifyDoneC : List Cell := State.verifyEndC
theorem execVerifyDone_out (hP : Cell.clear execVerifyDoneC o = true) : Out.Spares o s (execVerifyDone s) := by
  simp only [execVerifyDoneC] at hP
  unfold execVerifyDone
  repeat' first
    | with_reducible exact h | with_reducible exact Out.Spares.stay | with_reducible exact State.Spares.refl _ _ | with_reducible refine Out.Spares.act ?_ | with_reducible refine State.verifyEnd_spared (by simp only [hP]) ?_ | split

def execIdentC : List Cell := State.porchCmdC
theorem execIdent_out {line : List Byte} (hP : Cell.clear execIdentC o = true) : Out.Spares o s (execIdent line s) := by
  simp only [execIdentC] at hP
  unfold execIdent
  repeat' first
    | with_reducible exact h | with_reducible exact Out.Spares.stay | with_reducible exact State.Spares.refl _ _ | with_reducible refine porchAct_out (fun _ _ h => ?_) | with_reducible refine State.porchCmd_spared (fun _ h => ?_) (by simp only [hP]) ?_

def execPorchStatusC : List Cell := State.porchCmdC
theorem execPorchStatus_out {line : List Byte} (hP : Cell.clear execPorchStatusC o = true) : Out.Spares o s
    (execPorchStatus line s) := by
  simp only [execPorchStatusC] at hP
  unfold execPorchStatus
  repeat' first
    | with_reducible exact h | with_reducible exact Out.Spares.stay | with_reducible exact State.Spares.refl _ _ | with_reducible refine porchAct_out (fun _ _ h => ?_) | with_reducible refine State.porchCmd_spared (fun _ h => ?_) (by simp only [hP]) ?_

def execOpenSessionC : List Cell := State.porchCmdC ++ State.openAgainC ++ State.openNewC ++ State.refusalC
theorem execOpenSession_out {line : List Byte} {jok : Bool} (hP : Cell.clear execOpenSessionC o = true) : Out.Spares o s
    (execOpenSession line jok s) := by
  simp only [execOpenSessionC, Cell.clear_append_iff] at hP
  unfold execOpenSession
  dsimp only
  repeat' first
    | with_reducible exact h | with_reducible exact Out.Spares.stay | with_reducible exact State.Spares.refl _ _ | with_reducible refine porchAct_out (fun _ _ h => ?_) | with_reducible refine State.openAgain_spared (by simp only [hP]) ?_
    | with_reducible refine State.openNew_spared (by simp only [hP]) ?_
    | with_reducible refine State.refusal_spared (by simp only [hP]) ?_ | with_reducible refine State.Spares.ite ?_ ?_
    | with_reducible refine State.porchCmd_spared (fun _ h => ?_) (by simp only [hP]) ?_ | dsimp only | split

def execSessionLostC : List Cell := State.endSessionC ++ State.jDeleteC ++ State.updateKindC
theorem execSessionLost_out {plan : Bool} {slot : Bool} (hP : Cell.clear execSessionLostC o = true) : Out.Spares o s
    (execSessionLost plan slot s) := by
  simp only [execSessionLostC, Cell.clear_append_iff] at hP
  unfold execSessionLost
  dsimp only
  repeat' first
    | with_reducible exact h | with_reducible exact Out.Spares.stay | with_reducible exact State.Spares.refl _ _ | with_reducible refine Out.Spares.act ?_ | with_reducible refine State.endSession_spared (by simp only [hP]) ?_
    | with_reducible refine State.jDelete_spared (by simp only [hP]) ?_
    | with_reducible refine State.updateKind_spared (by simp only [hP]) ?_
    | with_reducible refine State.Spares.ite ?_ ?_

def execChunkC : List Cell :=
  [.part .porch, .reg PORCH_VSRC_CHUNK, .reg PORCH_VSRC_SRC] ++ State.porchCmdC ++ State.heardSessionC ++
    State.refusalC ++ State.verifyEndC ++ State.verifyStartC ++ State.writeChunkC
theorem execChunk_out {line : List Byte} {wr : Bool} {bad : Option Nat} {jok : Bool} (hP : Cell.clear execChunkC o = true)
    : Out.Spares o s (execChunk line wr bad jok s) := by
  simp only [execChunkC, Cell.clear_append_iff, Cell.clear_cons_iff, Cell.clear_nil_iff] at hP
  unfold execChunk
  dsimp only
  repeat' first
    | with_reducible exact h | with_reducible exact Out.Spares.stay | with_reducible exact State.Spares.refl _ _ | with_reducible refine porchAct_out (fun _ _ h => ?_) | with_reducible refine State.heardSession_spared (by simp only [hP]) ?_
    | with_reducible refine State.refusal_spared (by simp only [hP]) ?_
    | with_reducible refine State.verifyEnd_spared (by simp only [hP]) ?_
    | with_reducible refine State.verifyStart_spared (by simp only [hP]) ?_
    | with_reducible refine State.writeChunk_spared (by simp only [hP]) ?_
    | with_reducible refine State.nextReply_spared ?_
    | with_reducible refine State.Spares.onPorch (by simp only [hP]) ?_
    | with_reducible refine State.Spares.put (by simp only [hP]) ?_
    | with_reducible refine State.Spares.off (by simp only [hP]) ?_ | with_reducible refine State.Spares.ite ?_ ?_
    | with_reducible refine State.porchCmd_spared (fun _ h => ?_) (by simp only [hP]) ?_ | dsimp only | split

def execPorchAbortC : List Cell := State.porchCmdC ++ State.endSessionC ++ State.unstageC
theorem execPorchAbort_out {line : List Byte} (hP : Cell.clear execPorchAbortC o = true) : Out.Spares o s
    (execPorchAbort line s) := by
  simp only [execPorchAbortC, Cell.clear_append_iff] at hP
  unfold execPorchAbort
  repeat' first
    | with_reducible exact h | with_reducible exact Out.Spares.stay | with_reducible exact State.Spares.refl _ _ | with_reducible refine porchAct_out (fun _ _ h => ?_) | with_reducible refine State.endSession_spared (by simp only [hP]) ?_
    | with_reducible refine State.unstage_spared (by simp only [hP]) ?_
    | with_reducible refine State.porchCmd_spared (fun _ h => ?_) (by simp only [hP]) ?_ | dsimp only | split

def execPorchActivateC : List Cell := State.porchCmdC ++ State.activateC
theorem execPorchActivate_out {line : List Byte} {recOk : Bool} (hP : Cell.clear execPorchActivateC o = true) : Out.Spares
    o s (execPorchActivate line recOk s) := by
  simp only [execPorchActivateC, Cell.clear_append_iff] at hP
  unfold execPorchActivate
  dsimp only
  repeat' first
    | with_reducible exact h | with_reducible exact Out.Spares.stay | with_reducible exact State.Spares.refl _ _ | with_reducible refine porchAct_out (fun _ _ h => ?_) | with_reducible refine State.activate_spared (by simp only [hP]) ?_
    | with_reducible refine State.porchCmd_spared (fun _ h => ?_) (by simp only [hP]) ?_

def execExpiredC : List Cell := State.recordUseC ++ State.unscheduleC ++ State.updateStagedC
theorem execExpired_out {recOk : Bool} (hP : Cell.clear execExpiredC o = true) : Out.Spares o s (execExpired recOk s) := by
  simp only [execExpiredC, Cell.clear_append_iff] at hP
  unfold execExpired
  repeat' first
    | with_reducible exact h | with_reducible exact Out.Spares.stay | with_reducible exact State.Spares.refl _ _ | with_reducible refine Out.Spares.act ?_ | with_reducible refine State.recordUse_spared (by simp only [hP]) ?_
    | with_reducible refine State.unschedule_spared (by simp only [hP]) ?_
    | with_reducible refine State.updateStaged_spared (by simp only [hP]) ?_
    | with_reducible refine State.Spares.ite ?_ ?_

def execSettingResetC : List Cell := [.part .porch] ++ State.commitC ++ State.fwPostC
theorem execSettingReset_out (hP : Cell.clear execSettingResetC o = true) : Out.Spares o s (execSettingReset s) := by
  simp only [execSettingResetC, Cell.clear_append_iff, Cell.clear_cons_iff, Cell.clear_nil_iff] at hP
  unfold execSettingReset
  dsimp only
  repeat' first
    | with_reducible exact h | with_reducible exact Out.Spares.stay | with_reducible exact State.Spares.refl _ _ | with_reducible refine Out.Spares.act ?_ | with_reducible refine State.commit_spared (by simp only [hP]) ?_
    | with_reducible refine State.fwPost_spared (by simp only [hP]) ?_
    | with_reducible refine State.Spares.onPorch (by simp only [hP]) ?_ | split

def execAppendC : List Cell := State.jAppendC ++ State.jnlWriteC
theorem execAppend_out {r : Req} (hP : Cell.clear execAppendC o = true) : Out.Spares o s (execAppend r s) := by
  simp only [execAppendC, Cell.clear_append_iff] at hP
  unfold execAppend
  repeat' first
    | with_reducible exact h | with_reducible exact Out.Spares.stay | with_reducible exact State.Spares.refl _ _ | with_reducible refine Out.Spares.act ?_ | with_reducible refine State.jAppend_spared (by simp only [hP]) ?_
    | with_reducible refine State.jnlWrite_spared (fun _ h => ?_) (by simp only [hP]) ?_

def execBootrecC : List Cell := State.bootrecC ++ State.jnlWriteC
theorem execBootrec_out {r : Req} {ok : Bool} (hP : Cell.clear execBootrecC o = true) : Out.Spares o s
    (execBootrec r ok s) := by
  simp only [execBootrecC, Cell.clear_append_iff] at hP
  unfold execBootrec
  repeat' first
    | with_reducible exact h | with_reducible exact Out.Spares.stay | with_reducible exact State.Spares.refl _ _ | with_reducible refine Out.Spares.act ?_ | with_reducible refine State.bootrec_spared (by simp only [hP]) ?_
    | with_reducible refine State.jnlWrite_spared (fun _ h => ?_) (by simp only [hP]) ?_

def execGroupCommitC : List Cell := [.part .jnl, .reg JNL_RESULT_BUSY] ++ State.jCommitC ++ State.jResultC
theorem execGroupCommit_out (hP : Cell.clear execGroupCommitC o = true) : Out.Spares o s (execGroupCommit s) := by
  simp only [execGroupCommitC, Cell.clear_append_iff, Cell.clear_cons_iff, Cell.clear_nil_iff] at hP
  unfold execGroupCommit
  dsimp only
  repeat' first
    | with_reducible exact h | with_reducible exact Out.Spares.stay | with_reducible exact State.Spares.refl _ _ | with_reducible refine Out.Spares.act ?_ | with_reducible refine State.jCommit_spared (by simp only [hP]) ?_
    | with_reducible refine State.jResult_spared (by simp only [hP]) ?_
    | with_reducible refine State.Spares.off (by simp only [hP]) ?_ | split
    | with_reducible refine State.Spares.jnl (by simp only [hP]) ?_

def execCellarTimeoutC : List Cell := [.part .jnl, .reg JNL_RESULT_BUSY] ++ State.jResultC ++ State.jTearC
theorem execCellarTimeout_out {n : Nat} (hP : Cell.clear execCellarTimeoutC o = true) : Out.Spares o s
    (execCellarTimeout n s) := by
  simp only [execCellarTimeoutC, Cell.clear_append_iff, Cell.clear_cons_iff, Cell.clear_nil_iff] at hP
  unfold execCellarTimeout
  dsimp only
  repeat' first
    | with_reducible exact h | with_reducible exact Out.Spares.stay | with_reducible exact State.Spares.refl _ _ | with_reducible refine Out.Spares.act ?_ | with_reducible refine State.jResult_spared (by simp only [hP]) ?_
    | with_reducible refine State.jTear_spared (by simp only [hP]) ?_
    | with_reducible refine State.Spares.off (by simp only [hP]) ?_ | split
    | with_reducible refine State.Spares.jnl (by simp only [hP]) ?_

def execCompactionC : List Cell := State.jCompactC
theorem execCompaction_out {stage : Fin 3} (hP : Cell.clear execCompactionC o = true) : Out.Spares o s
    (execCompaction stage s) := by
  simp only [execCompactionC] at hP
  unfold execCompaction
  repeat' first
    | with_reducible exact h | with_reducible exact Out.Spares.stay | with_reducible exact State.Spares.refl _ _ | with_reducible refine Out.Spares.act ?_ | with_reducible refine State.jCompact_spared (by simp only [hP]) ?_

def execIdcodeC : List Cell := State.respondC
theorem execIdcode_out {header : BitVec 12} (hP : Cell.clear execIdcodeC o = true) : Out.Spares o s (execIdcode header s)
    := by
  simp only [execIdcodeC] at hP
  unfold execIdcode
  repeat' first
    | with_reducible exact h | with_reducible exact Out.Spares.stay | with_reducible exact State.Spares.refl _ _ | with_reducible refine Out.Spares.act ?_ | with_reducible refine State.respond_spared (by simp only [hP]) ?_

def execRdStatC : List Cell := State.respondC
theorem execRdStat_out {header : BitVec 12} (hP : Cell.clear execRdStatC o = true) : Out.Spares o s (execRdStat header s)
    := by
  simp only [execRdStatC] at hP
  unfold execRdStat
  repeat' first
    | with_reducible exact h | with_reducible exact Out.Spares.stay | with_reducible exact State.Spares.refl _ _ | with_reducible refine Out.Spares.act ?_ | with_reducible refine State.respond_spared (by simp only [hP]) ?_

def execRdBufC : List Cell := State.dbgOpC
theorem execRdBuf_out {header : BitVec 12} (hP : Cell.clear execRdBufC o = true) : Out.Spares o s (execRdBuf header s) := by
  simp only [execRdBufC] at hP
  exact .act (State.dbgOp_spared (fun _ h => h) (by simp only [hP]) (.refl _ _))

def execDbgAbortC : List Cell := [.part .dbg] ++ State.dbgPerformC ++ State.respondC
theorem execDbgAbort_out {header : BitVec 12} {data : Word} {crc : BitVec 8} (hP : Cell.clear execDbgAbortC o = true) :
    Out.Spares o s (execDbgAbort header data crc s) := by
  simp only [execDbgAbortC, Cell.clear_append_iff, Cell.clear_cons_iff, Cell.clear_nil_iff] at hP
  unfold execDbgAbort
  repeat' first
    | with_reducible exact h | with_reducible exact Out.Spares.stay | with_reducible exact State.Spares.refl _ _ | with_reducible refine Out.Spares.act ?_ | with_reducible refine State.dbgPerform_spared (fun _ h => ?_) (by simp only [hP]) ?_
    | with_reducible refine State.respond_spared (by simp only [hP]) ?_
    | with_reducible refine State.Spares.onDbg (by simp only [hP]) ?_

def execChkErrC : List Cell := [.part .dbg]
theorem execChkErr_out {header : BitVec 12} (hP : Cell.clear execChkErrC o = true) : Out.Spares o s (execChkErr header s)
    := by
  simp only [execChkErrC, Cell.clear_cons_iff, Cell.clear_nil_iff] at hP
  unfold execChkErr
  repeat' first
    | with_reducible exact h | with_reducible exact Out.Spares.stay | with_reducible exact State.Spares.refl _ _ | with_reducible refine Out.Spares.act ?_ | with_reducible refine State.Spares.onDbg (by simp only [hP]) ?_

def execLineResetC : List Cell := [.part .dbg]
theorem execLineReset_out (hP : Cell.clear execLineResetC o = true) : Out.Spares o s (execLineReset s) := by
  simp only [execLineResetC, Cell.clear_cons_iff, Cell.clear_nil_iff] at hP
  unfold execLineReset
  repeat' first
    | with_reducible exact h | with_reducible exact Out.Spares.stay | with_reducible exact State.Spares.refl _ _ | with_reducible refine Out.Spares.act ?_ | with_reducible refine State.Spares.onDbg (by simp only [hP]) ?_

def execDbgTimeoutC : List Cell := [.part .dbg]
theorem execDbgTimeout_out (hP : Cell.clear execDbgTimeoutC o = true) : Out.Spares o s (execDbgTimeout s) := by
  simp only [execDbgTimeoutC, Cell.clear_cons_iff, Cell.clear_nil_iff] at hP
  unfold execDbgTimeout
  repeat' first
    | with_reducible exact h | with_reducible exact Out.Spares.stay | with_reducible exact State.Spares.refl _ _ | with_reducible refine Out.Spares.act ?_ | with_reducible refine State.Spares.onDbg (by simp only [hP]) ?_

def execWrAddrC : List Cell := [.reg DBG_ADDR_ADDR] ++ State.dbgWrC
theorem execWrAddr_out {header : BitVec 12} {data : Word} {crc : BitVec 8} (hP : Cell.clear execWrAddrC o = true) :
    Out.Spares o s (execWrAddr header data crc s) := by
  simp only [execWrAddrC, Cell.clear_append_iff, Cell.clear_cons_iff, Cell.clear_nil_iff] at hP
  unfold execWrAddr
  repeat' first
    | with_reducible exact h | with_reducible exact Out.Spares.stay | with_reducible exact State.Spares.refl _ _ | with_reducible refine Out.Spares.act ?_ | with_reducible refine State.dbgWr_spared (fun _ h => ?_) (by simp only [hP]) ?_
    | with_reducible refine State.Spares.put (by simp only [hP]) ?_

def execRdDataC : List Cell := [.part .dbg] ++ State.dbgNextC ++ State.dbgOpC
theorem execRdData_out {header : BitVec 12} (hP : Cell.clear execRdDataC o = true) : Out.Spares o s (execRdData header s)
    := by
  simp only [execRdDataC, Cell.clear_append_iff, Cell.clear_cons_iff, Cell.clear_nil_iff] at hP
  unfold execRdData
  repeat' first
    | with_reducible exact h | with_reducible exact Out.Spares.stay | with_reducible exact State.Spares.refl _ _ | with_reducible refine Out.Spares.act ?_ | with_reducible refine State.dbgNext_spared (by simp only [hP]) ?_
    | with_reducible refine State.dbgOp_spared (fun _ h => ?_) (by simp only [hP]) ?_
    | with_reducible refine State.Spares.onDbg (by simp only [hP]) ?_

def execWrDataC : List Cell := [.part .dbg] ++ State.dbgNextC ++ State.dbgWrC
theorem execWrData_out {header : BitVec 12} {data : Word} {crc : BitVec 8} (hP : Cell.clear execWrDataC o = true) :
    Out.Spares o s (execWrData header data crc s) := by
  simp only [execWrDataC, Cell.clear_append_iff, Cell.clear_cons_iff, Cell.clear_nil_iff] at hP
  unfold execWrData
  repeat' first
    | with_reducible exact h | with_reducible exact Out.Spares.stay | with_reducible exact State.Spares.refl _ _ | with_reducible refine Out.Spares.act ?_ | with_reducible refine State.dbgNext_spared (by simp only [hP]) ?_
    | with_reducible refine State.dbgWr_spared (fun _ h => ?_) (by simp only [hP]) ?_
    | with_reducible refine State.Spares.onDbg (by simp only [hP]) ?_

def execNtcConversionC : List Cell := State.ntcConvertC ++ State.terminateC
theorem execNtcConversion_out {uv : Nat} (hP : Cell.clear execNtcConversionC o = true) : Out.Spares o s
    (execNtcConversion uv s) := by
  simp only [execNtcConversionC, Cell.clear_append_iff] at hP
  unfold execNtcConversion
  dsimp only
  repeat' first
    | with_reducible exact h | with_reducible exact Out.Spares.stay | with_reducible exact State.Spares.refl _ _ | with_reducible refine Out.Spares.act ?_ | with_reducible refine State.ntcConvert_spared (by simp only [hP]) ?_
    | with_reducible refine State.terminate_spared (by simp only [hP]) ?_
    | with_reducible refine State.Spares.ite ?_ ?_

def execChargerPeriodStartC : List Cell := [.part .pantry] ++ State.panMeasureC ++ State.free?C ++ State.refreshChgC
theorem execChargerPeriodStart_out {m : PanMeas} (hP : Cell.clear execChargerPeriodStartC o = true) : Out.Spares o s
    (execChargerPeriodStart m s) := by
  simp only [execChargerPeriodStartC, Cell.clear_append_iff, Cell.clear_cons_iff, Cell.clear_nil_iff] at hP
  unfold execChargerPeriodStart
  dsimp only
  repeat' first
    | with_reducible exact h | with_reducible exact Out.Spares.stay | with_reducible exact State.Spares.refl _ _ | with_reducible refine panAct_out (by simp only [hP]) (fun _ h => ?_) | with_reducible refine State.free?_spared (by simp only [hP]) ?_
    | with_reducible refine State.refreshChg_spared (by simp only [hP]) ?_
    | with_reducible refine State.Spares.onPan (by simp only [hP]) ?_

def execHlCtsChangeC (n : Fin 2) : List Cell := [.reg (hlField n HL_STAT_CTS)]
theorem execHlCtsChange_out {n : Fin 2} {level : Bool} (hP : Cell.clear (execHlCtsChangeC n) o = true) : Out.Spares o s
    (execHlCtsChange n level s) := by
  simp only [execHlCtsChangeC, Cell.clear_cons_iff, Cell.clear_nil_iff] at hP
  unfold execHlCtsChange
  dsimp only
  repeat' first
    | with_reducible exact h | with_reducible exact Out.Spares.stay | with_reducible exact State.Spares.refl _ _ | with_reducible refine Out.Spares.act ?_ | with_reducible refine State.kickLink_spared ?_
    | with_reducible refine State.Spares.putB (by simp only [hP]) ?_ | with_reducible refine State.Spares.ite ?_ ?_

end

end Sys2Proof.Machine

namespace Sys2Proof.Machine

set_option Elab.async false

/-! ## From what a command leaves in sight to its frame -/

/-- The cell lies in the frame. -/
def Footprint.covers (f : Footprint) : Cell → Bool
  | .part k => decide (k ∈ f.parts)
  | .reg g => f.regs.all (decide <| g.off ∈ ·)
  | .regs => f.regs.isNone
  | .rooms => (List.finRange 48).all f.room
  | .roomAt p => f.room p
  | .roomFld g => f.roomRegs.all (decide <| g.off ∈ ·)
  | .roomRegs => f.roomRegs.isNone
  | .roomPart k => decide (k ∈ f.roomParts)
  | .lands => (List.finRange 6).all f.land
  | .landFld g => f.landRegs.all (decide <| g.off ∈ ·)
  | .landRegs => f.landRegs.isNone
  | .wings => (List.finRange 2).all f.wing
  | .wingFld g => f.wingRegs.all (decide <| g.off ∈ ·)
  | .wingRegs => f.wingRegs.isNone

/-- The look is at something outside the frame. -/
def Footprint.bars (f : Footprint) : Look → Prop
  | .part k => k ∉ f.parts
  | .reg g => ∃ l a, f.regs = some l ∧ a ∉ l ∧ g = .whole a
  | .room p => f.room p = false
  | .roomFld _ g => ∃ l a, f.roomRegs = some l ∧ a ∉ l ∧ g = .whole a
  | .roomPart _ k => k ∉ f.roomParts
  | .land b => f.land b = false
  | .landFld _ g => ∃ l a, f.landRegs = some l ∧ a ∉ l ∧ g = .whole a
  | .wing w => f.wing w = false
  | .wingFld _ g => ∃ l a, f.wingRegs = some l ∧ a ∉ l ∧ g = .whole a

theorem Field.apart_of_off_ne {f g : Field} (h : f.off ≠ g.off) : f.apart g = true := by
  simp [Field.apart, h]

/-- A field of the listed registers is apart from a register that is not listed. -/
theorem Footprint.apart_of_regs {regs : Option (List Nat)} {f g : Field} (hc : regs.all (decide <| f.off ∈ ·) = true)
    (ho : ∃ l a, regs = some l ∧ a ∉ l ∧ g = .whole a) : f.apart g = true := by
  obtain ⟨l, a, rfl, ha, rfl⟩ := ho
  refine Field.apart_of_off_ne fun h => ha ?_
  rw [Option.all_some, decide_eq_true_eq, h] at hc
  exact hc

theorem Footprint.regs_of_isNone {regs : Option (List Nat)} {g : Field} (hc : regs.isNone = true)
    (ho : ∃ l a, regs = some l ∧ a ∉ l ∧ g = .whole a) : False := by
  obtain ⟨l, a, rfl, -⟩ := ho
  cases hc

theorem Footprint.of_all {n : Nat} {q : Fin n → Bool} {x : Fin n} (hc : (List.finRange n).all q = true) (ho : q x = false) : False := by
  rw [List.all_eq_true.1 hc x (List.mem_finRange x)] at ho
  cases ho

/-- What lies in the frame does not show in what lies outside. -/
theorem Footprint.misses_of_covers {f : Footprint} {c : Cell} {o : Look} (hc : f.covers c = true) (ho : f.bars o) :
    c.misses o = true := by
  cases o with
  | part k =>
    cases c with
    | part j => exact decide_eq_true fun h => ho (h ▸ of_decide_eq_true hc)
    | _ => rfl
  | reg g =>
    cases c with
    | reg j => exact Footprint.apart_of_regs hc ho
    | regs => exact (Footprint.regs_of_isNone hc ho).elim
    | _ => rfl
  | room p =>
    cases c with
    | rooms => exact (Footprint.of_all hc ho).elim
    | roomAt q =>
      refine decide_eq_true fun h => ?_
      subst h
      exact Bool.false_ne_true (ho.symm.trans hc)
    | _ => rfl
  | roomFld p g =>
    cases c with
    | roomFld j => exact Footprint.apart_of_regs hc ho
    | roomRegs => exact (Footprint.regs_of_isNone hc ho).elim
    | _ => rfl
  | roomPart p k =>
    cases c with
    | roomPart j => exact decide_eq_true fun h => ho (h ▸ of_decide_eq_true hc)
    | _ => rfl
  | land b =>
    cases c with
    | lands => exact (Footprint.of_all hc ho).elim
    | _ => rfl
  | landFld b g =>
    cases c with
    | landFld j => exact Footprint.apart_of_regs hc ho
    | landRegs => exact (Footprint.regs_of_isNone hc ho).elim
    | _ => rfl
  | wing w =>
    cases c with
    | wings => exact (Footprint.of_all hc ho).elim
    | _ => rfl
  | wingFld w g =>
    cases c with
    | wingFld j => exact Footprint.apart_of_regs hc ho
    | wingRegs => exact (Footprint.regs_of_isNone hc ho).elim
    | _ => rfl

theorem Footprint.clear_of_covers {f : Footprint} {w : List Cell} {o : Look} (hw : w.all f.covers = true) (ho : f.bars o) :
    Cell.clear w o = true :=
  List.all_eq_true.2 fun c hc => Footprint.misses_of_covers (List.all_eq_true.1 hw c hc) ho

theorem Regs.get_of_whole {m n : Regs} {a : Nat} (h : n.fld (.whole a) = m.fld (.whole a)) : n.get a = m.get a := by
  have hbits := BitVec.eq_of_toNat_eq h
  simpa [Field.whole] using hbits

/-- A bank whose unlisted registers keep their fields keeps their words. -/
theorem Regs.kept_of_fld {l : Option (List Nat)} {m n : Regs}
    (h : ∀ x a, l = some x → a ∉ x → n.fld (.whole a) = m.fld (.whole a)) : Regs.kept l m n := fun x hx a ha =>
  Regs.get_of_whole (h x a hx ha)

/-- A command whose every change lies in the frame stays within it. -/
theorem State.within_of_spares {f : Footprint} {s t : State} {w : List Cell} (hw : w.all f.covers = true)
    (h : ∀ o, Cell.clear w o = true → State.Spares o s t) : s.within f t where
  parts k hk := (h (.part k) (Footprint.clear_of_covers hw hk)).same
  regs := Regs.kept_of_fld fun x a hx ha => (h (.reg (.whole a)) (Footprint.clear_of_covers hw ⟨x, a, hx, ha, rfl⟩)).same
  room p hp := .inl (h (.room p) (Footprint.clear_of_covers hw hp)).same
  roomParts p k hk _ := (h (.roomPart p k) (Footprint.clear_of_covers hw hk)).same
  roomRegs p _ := Regs.kept_of_fld fun x a hx ha =>
    (h (.roomFld p (.whole a)) (Footprint.clear_of_covers hw ⟨x, a, hx, ha, rfl⟩)).same
  land b hb := (h (.land b) (Footprint.clear_of_covers hw hb)).same
  landRegs b := Regs.kept_of_fld fun x a hx ha =>
    (h (.landFld b (.whole a)) (Footprint.clear_of_covers hw ⟨x, a, hx, ha, rfl⟩)).same
  wing v hv := (h (.wing v) (Footprint.clear_of_covers hw hv)).same
  wingRegs v := Regs.kept_of_fld fun x a hx ha =>
    (h (.wingFld v (.whole a)) (Footprint.clear_of_covers hw ⟨x, a, hx, ha, rfl⟩)).same

/-- A command of the table `frames` stays within its frame; `d` is the command with the operands that the frame needs. -/
theorem State.within_of_out {frames : Instr → Option Footprint} {d c : Instr} {f : Footprint} {w : List Cell} {s t : State}
    (hc : frames d = some f) (hw : ((frames d).all fun g => w.all g.covers) = true)
    (hout : ∀ o, Cell.clear w o = true → Out.Spares o s (exec c s)) (h : exec c s = .next t) : s.within f t := by
  rw [hc] at hw
  exact State.within_of_spares hw fun o ho => hout o ho t h

end Sys2Proof.Machine

namespace Sys2Proof.Machine

set_option Elab.async false

/-! ## The reads that clear a register -/

/-- The fields of a register that a 32-bit read clears. -/
def Loc.rcFields (l : Loc) : List Field := (fieldsOf l).filter (·.acc = .rc)

theorem Regs.fld_put_zero {m : Regs} {f g : Field} (h : m.fld g = 0) : (m.put f 0).fld g = 0 := by
  by_cases ho : f.off = g.off
  · have hbits : (m.get g.off).extractLsb' g.lsb g.width = 0#g.width := BitVec.eq_of_toNat_eq (by simpa [Regs.fld] using h)
    have hkeep : ((m.get g.off) &&& ~~~f.mask).extractLsb' g.lsb g.width = 0#g.width := by
      rw [BitVec.extractLsb'_and, hbits, BitVec.zero_and]
    simp only [Regs.put, Regs.fld, ho, Store.get_set_same, BitVec.zero_shiftLeft, BitVec.zero_and,
      BitVec.or_zero, hkeep, BitVec.toNat_ofNat, Nat.zero_mod]
  · exact (Regs.fld_put_apart m f g 0 (Field.apart_of_off_ne ho)).trans h

/-- Every field that a read clears is 0 after it. -/
theorem Regs.fld_rcClear {m : Regs} {l : Loc} {f : Field} (hf : f ∈ l.rcFields) (hfit : f.fits = true) :
    (rcClear (fieldsOf l) m).fld f = 0 := by
  obtain ⟨hmem, hrc⟩ := List.mem_filter.1 hf
  refine List.foldl_establishes (P := fun n : Regs => n.fld f = 0) hmem ?_ ?_ m
  · intro n
    rw [if_pos (of_decide_eq_true hrc), Regs.fld_put_same n f 0 (of_decide_eq_true hfit), Nat.zero_mod]
  · intro n g hn
    split
    · exact Regs.fld_put_zero hn
    · exact hn

theorem Regs.fld_rcClear_apart {m : Regs} {l : Loc} {g : Field} (h : ∀ f ∈ l.rcFields, f.apart g = true) :
    (rcClear (fieldsOf l) m).fld g = m.fld g :=
  List.foldlRecOn (motive := fun n : Regs => n.fld g = m.fld g) _ _ rfl fun n hn f hf => by
    split
    · next hrc => exact (Regs.fld_put_apart n f g 0 (h f (List.mem_filter.2 ⟨hf, decide_eq_true hrc⟩))).trans hn
    · exact hn

/-- What a read of a register clears. -/
def Loc.clearC (l : Loc) : List Cell :=
  match l with
  | .hall _ => l.rcFields.map .reg
  | .wing _ _ => .wings :: l.rcFields.map .wingFld
  | .land _ _ => .lands :: l.rcFields.map .landFld
  | .roomReg p _ => .roomAt (Fin.ofNat 48 p) :: l.rcFields.map .roomFld
  | _ => []

section
variable {o : Look} {s0 s : State}

theorem Cell.apart_of_clear {w : List Field} {c : Field → Cell} {g : Field} (hP : Cell.clear (w.map c) o = true)
    (hc : ∀ f, (c f).misses o = f.apart g) : ∀ f ∈ w, f.apart g = true := fun f hf =>
  (hc f).symm.trans (List.all_eq_true.1 hP _ (List.mem_map.2 ⟨f, hf, rfl⟩))

theorem State.rcRead_spared {l : Loc} (hP : Cell.clear l.clearC o = true) (h : State.Spares o s0 s) :
    State.Spares o s0 (s.rcRead l) := by
  cases l with
  | hall a =>
    exact h.regs fun g hg => by
      subst hg
      exact Regs.fld_rcClear_apart (Cell.apart_of_clear hP fun _ => rfl)
  | wing w a =>
    obtain ⟨hw, hf⟩ := Cell.clear_cons_iff.1 hP
    refine h.onWing (g := fun x => { x with regs := rcClear (fieldsOf (.wing w a)) x.regs }) hw fun x => .mk ?_
    cases o with
    | wingFld v g => exact Regs.fld_rcClear_apart (Cell.apart_of_clear hf fun _ => rfl)
    | _ => trivial
  | land b a =>
    obtain ⟨hb, hf⟩ := Cell.clear_cons_iff.1 hP
    refine h.onLand (g := fun x => { x with regs := rcClear (fieldsOf (.land b a)) x.regs }) hb fun x => .mk ?_
    cases o with
    | landFld v g => exact Regs.fld_rcClear_apart (Cell.apart_of_clear hf fun _ => rfl)
    | _ => trivial
  | roomReg p a =>
    obtain ⟨hp, hf⟩ := Cell.clear_cons_iff.1 hP
    refine h.onRoom (g := fun x => { x with regs := rcClear (fieldsOf (.roomReg p a)) x.regs }) hp fun x => ?_
    cases o with
    | roomFld v g => exact Regs.fld_rcClear_apart (Cell.apart_of_clear hf fun _ => rfl)
    | roomPart v k => cases k <;> rfl
    | _ => trivial
  | _ => exact h

/-- What a read of a register changes: the fields it clears, and the address of a data window. -/
def Loc.readC (l : Loc) : List Cell :=
  .part .rdata :: .part .rerr :: l.clearC ++
    if l = .hall 0x040 then [.part .mode] else if l = .hall 0x294 then [.reg PLAN_RD_ADDR_ADDR] else
      if l = .hall 0x40054 then [.reg FW_RD_ADDR_ADDR] else if l = .hall 0x73040 then [.reg CEL_RD_ADDR_ADDR] else []

/-- A read changes what it clears and, of the four registers that say so, one thing more. -/
theorem State.readReg_steps (s : State) (l : Loc) :
    (s.readReg l).2 = if l = .hall 0x040 then { s.rcRead l with mode := { (s.rcRead l).mode with changed := false } } else
      if l = .hall 0x294 then (s.rcRead l).put PLAN_RD_ADDR_ADDR ((s.rcRead l).fld PLAN_RD_ADDR_ADDR + 1) else
      if l = .hall 0x40054 then (s.rcRead l).put FW_RD_ADDR_ADDR ((s.rcRead l).fld FW_RD_ADDR_ADDR + 1) else
      if l = .hall 0x73040 then (s.rcRead l).put CEL_RD_ADDR_ADDR ((s.rcRead l).fld CEL_RD_ADDR_ADDR + 1) else s.rcRead l := by
  unfold State.readReg
  cases l <;> simp only [Loc.hall.injEq, reduceCtorEq, ↓reduceIte]

theorem State.readReg_reads {l : Loc} (hP : Cell.clear l.readC o = true) : State.Spares o s { (s.readReg l).2 with rdata := (s.readReg l).1, rerr := false } := by
  simp only [Loc.readC, List.cons_append, Cell.clear_cons_iff, Cell.clear_append_iff] at hP
  obtain ⟨hdata, herr, hclear, hmore⟩ := hP
  have hrc : State.Spares o s (s.rcRead l) := State.rcRead_spared hclear (.refl _ _)
  suffices hread : State.Spares o s (s.readReg l).2 from
    (hread.rdata (x := (s.readReg l).1) hdata).rerr herr
  rw [State.readReg_steps]
  by_cases h1 : l = .hall 0x040
  · rw [if_pos h1] at hmore ⊢
    exact hrc.mode (Cell.clear_cons_iff.1 hmore).1
  by_cases h2 : l = .hall 0x294
  · rw [if_neg h1, if_pos h2] at hmore ⊢
    exact hrc.put (Cell.clear_cons_iff.1 hmore).1
  by_cases h3 : l = .hall 0x40054
  · rw [if_neg h1, if_neg h2, if_pos h3] at hmore ⊢
    exact hrc.put (Cell.clear_cons_iff.1 hmore).1
  by_cases h4 : l = .hall 0x73040
  · rw [if_neg h1, if_neg h2, if_neg h3, if_pos h4] at hmore ⊢
    exact hrc.put (Cell.clear_cons_iff.1 hmore).1
  · rw [if_neg h1, if_neg h2, if_neg h3, if_neg h4]
    exact hrc
theorem readAct_out {l : Loc} (hP : Cell.clear l.readC o = true) : Out.Spares o s (readAct s l) := .act (State.readReg_reads hP)

end

/-! ## O15: the reads answer and clear -/

/-- The place names a register of the chip, and it is none of the data windows. -/
def Loc.clears (l : Loc) : Bool :=
  match l with
  | .hall a => a ≠ 0x294 ∧ a ≠ 0x40054 ∧ a ≠ 0x73040
  | _ => true

theorem State.bank_setBank {s : State} {l : Loc} {m : Regs} {f : Field} (hf : f ∈ fieldsOf l) : ((s.setBank l m).bank l).1 = m := by
  cases l with
  | hall a => rfl
  | wing w a => exact congrArg Wing.regs (State.wing_onWing s _ _)
  | land b a => exact congrArg Landing.regs (State.land_onLand s _ _)
  | roomReg p a => exact congrArg Room.regs (State.room_onRoom s _ _)
  | _ => cases hf

/-- A read of a register with fields that a read clears (R9). -/
theorem readAct_reads {s : State} {l : Loc} (hc : s.clocked = true) (hl : l.clears = true)
    (hfit : (fieldsOf l).all (·.fits) = true) : ∃ t, readAct s l = .next t ∧ s.readsInto t l := by
  refine act_does hc ⟨rfl, rfl, fun f hf hrc => ?_⟩
  have hzero := Regs.fld_rcClear (m := (s.bank l).1) (List.mem_filter.2 ⟨hf, decide_eq_true hrc⟩) (List.all_eq_true.1 hfit f hf)
  refine Eq.trans (congrArg (Regs.fld · f) (Eq.trans (b := ((s.rcRead l).bank l).1) ?_ (State.bank_setBank hf))) hzero
  cases l with
  | hall a =>
    obtain ⟨h2, h3, h4⟩ := of_decide_eq_true hl
    show (s.readReg (.hall a)).2.regs = _
    rw [State.readReg_steps]
    simp only [Loc.hall.injEq, h2, h3, h4, ↓reduceIte]
    split <;> rfl
  | _ => rfl

end Sys2Proof.Machine

namespace Sys2Proof.Machine

set_option Elab.async false

/-- The read of HALL_MODE also clears CHANGED. -/
theorem hallModeRead_clears (s : State) (hc : s.clocked = true) :
    ∃ t, exec .hallModeRead s = .next t ∧ s.readsInto t (.hall 0x040) ∧ t.mode.changed = false := by
  obtain ⟨t, ht, hread⟩ := readAct_reads (l := .hall 0x040) hc (by decide +kernel) (by decide +kernel)
  refine ⟨t, ht, hread, ?_⟩
  have hnext : readAct s (.hall 0x040) = .next t := ht
  rw [readAct, act, if_pos hc] at hnext
  injection hnext with hnext
  subst hnext
  rfl

/-- The fields of the error registers of the links and of the two-wire ports fit their registers. -/
theorem hlErr_fits : ∀ n : Fin 2, (fieldsOf (.hall (0x7000C + 0x100 * n.val))).all (·.fits) = true := by decide +kernel
theorem twErr_fits : ∀ n : Fin 4, (fieldsOf (.hall (0x71010 + 0x40 * n.val))).all (·.fits) = true := by decide +kernel
theorem hlErr_clears : ∀ n : Fin 2, Loc.clears (.hall (0x7000C + 0x100 * n.val)) = true := by decide +kernel
theorem twErr_clears : ∀ n : Fin 4, Loc.clears (.hall (0x71010 + 0x40 * n.val)) = true := by decide +kernel

theorem hlErrRead_reads {s : State} (hc : s.clocked = true) (n : Fin 2) :
    ∃ t, exec (.hlErrRead ⟨n.val, by omega⟩) s = .next t ∧ s.readsInto t (.hall (0x7000C + 0x100 * n.val)) := by
  obtain ⟨t, ht, hread⟩ := readAct_reads hc (hlErr_clears n) (hlErr_fits n)
  refine ⟨t, ?_, hread⟩
  rw [exec_hlErrRead, execHlErrRead, if_pos n.isLt]
  exact ht

/-- A register of the Room, of the Landing or of the Wing, of whatever number. -/
theorem Loc.fits_roomReg {p : Nat} : ∀ a ∈ [0x00C, 0x094, 0x22C], (fieldsOf (.roomReg p a)).all (·.fits) = true := by
  change ∀ a ∈ [0x00C, 0x094, 0x22C], (roomFields.filter (·.off = a)).all (·.fits) = true
  decide +kernel
theorem Loc.fits_land {b : Nat} : ∀ a ∈ [0x060, 0x148], (fieldsOf (.land b a)).all (·.fits) = true := by
  change ∀ a ∈ [0x060, 0x148], (landFields.filter (·.off = a)).all (·.fits) = true
  decide +kernel
theorem Loc.fits_wing {w : Nat} : ∀ a ∈ [0x100, 0x108], (fieldsOf (.wing w a)).all (·.fits) = true := by
  change ∀ a ∈ [0x100, 0x108], (wingFields.filter (·.off = a)).all (·.fits) = true
  decide +kernel
theorem Loc.fits_hall : ∀ a ∈ [0x50034, 0x09C, 0x094, 0x08C, 0x72008, 0x60010, 0x40014, 0x73010, 0x10C, 0x054],
    (fieldsOf (.hall a)).all (·.fits) = true ∧ Loc.clears (.hall a) = true := by
  decide +kernel

/-- Settles O15: a read of a register with fields that a read clears answers its word and clears them (R9). -/
theorem clearingReads : Obligations.ClearingReads := fun s hc => by
  have hroom (p : Fin 48) (a : Nat) (ha : a ∈ [0x00C, 0x094, 0x22C]) := readAct_reads (l := .roomReg p.val a) hc rfl
    (Loc.fits_roomReg a ha)
  have hland (b : Fin 6) (a : Nat) (ha : a ∈ [0x060, 0x148]) := readAct_reads (l := .land b.val a) hc rfl (Loc.fits_land a ha)
  have hwing (w : Fin 2) (a : Nat) (ha : a ∈ [0x100, 0x108]) := readAct_reads (l := .wing w.val a) hc rfl (Loc.fits_wing a ha)
  have hhall (a : Nat) (ha : a ∈ [0x50034, 0x09C, 0x094, 0x08C, 0x72008, 0x60010, 0x40014, 0x73010, 0x10C, 0x054]) :=
    readAct_reads (l := .hall a) hc (Loc.fits_hall a ha).2 (Loc.fits_hall a ha).1
  exact ⟨fun p => hroom p 0x00C (by decide), fun p => hroom p 0x094 (by decide), fun p => hroom p 0x22C (by decide),
    fun b => hland b 0x060 (by decide), fun b => hland b 0x148 (by decide), fun w => hwing w 0x100 (by decide),
    fun w => hwing w 0x108 (by decide), hhall 0x50034 (by decide), hhall 0x09C (by decide), hhall 0x094 (by decide),
    hhall 0x08C (by decide), hallModeRead_clears s hc, hlErrRead_reads hc, hhall 0x72008 (by decide),
    fun n => readAct_reads hc (twErr_clears n) (twErr_fits n), hhall 0x60010 (by decide), hhall 0x40014 (by decide),
    hhall 0x73010 (by decide), hhall 0x10C (by decide), hhall 0x054 (by decide)⟩

/-! ## O10: the frames of the Hall's commands -/

theorem execSubscribe_covered : ∀ n : Fin 2, ((hallFrames (.subscribe n [])).all fun g => (execSubscribeC n).all g.covers)
    = true := by decide +kernel
theorem execHlActivate_covered : ∀ n : Fin 2,
    ((hallFrames (.hlActivate n [] true true)).all fun g => (execHlActivateC n).all g.covers) = true := by decide +kernel
theorem execAck_covered : ∀ n : Fin 2, ((hallFrames (.ack n [])).all fun g => (execAckC n).all g.covers) = true := by
    decide +kernel
theorem execPing_covered : ∀ n : Fin 2, ((hallFrames (.ping n [])).all fun g => (execPingC n).all g.covers) = true := by
    decide +kernel
theorem execFrameDiscard_covered : ∀ n : Fin 3,
    ((hallFrames (.frameDiscard n [] true true)).all fun g => (execFrameDiscardC n).all g.covers) = true := by decide +kernel
theorem execFrameAbort_covered : ∀ n : Fin 3,
    ((hallFrames (.frameAbort n [] 0)).all fun g => (execFrameAbortC n).all g.covers) = true := by decide +kernel
theorem execTwTimeout_covered : ∀ n : Fin 4,
    ((hallFrames (.twTimeout n true)).all fun g => (execTwTimeoutC n).all g.covers) = true := by decide +kernel
theorem execTwBusError_covered : ∀ n : Fin 4,
    ((hallFrames (.twBusError n true)).all fun g => (execTwBusErrorC n).all g.covers) = true := by decide +kernel
theorem execTcGo_covered : ∀ m : Fin 2, ((hallFrames (.tcGo m)).all fun g => (execTcGoC m).all g.covers) = true := by
    decide +kernel
theorem execTcDone_covered : ∀ m : Fin 2, ((hallFrames (.tcDone m 0 0 [])).all fun g => (execTcDoneC m).all g.covers) =
    true := by decide +kernel
theorem execHlCtsChange_covered : ∀ n : Fin 2,
    ((hallFrames (.hlCtsChange n true)).all fun g => (execHlCtsChangeC n).all g.covers) = true := by decide +kernel
theorem hlErrRead_covered : ∀ n : Fin 3, ((hallFrames (.hlErrRead n)).all fun g =>
    (Loc.readC (.hall (if n.val < 2 then 0x7000C + 0x100 * n.val else 0x72008))).all g.covers) = true := by decide +kernel
theorem twErrRead_covered : ∀ n : Fin 4, ((hallFrames (.twErrRead n)).all fun g =>
    (Loc.readC (.hall (0x71010 + 0x40 * n.val))).all g.covers) = true := by decide +kernel

/-- Settles O10: what each command of the Hall changes lies in its frame. -/
theorem hallFrames_hold : Obligations.HallFrames := by
  intro c f hc s t h
  cases c with
  | pantryFaultRead => exact State.within_of_out (frames := hallFrames) (d := .pantryFaultRead) (w := Loc.readC (.hall 0x50034)) hc (by decide +kernel) (fun _ hP => readAct_out hP) h
  | resetCauseRead => exact State.within_of_out (frames := hallFrames) (d := .resetCauseRead) (w := Loc.readC (.hall 0x09C)) hc (by decide +kernel) (fun _ hP => readAct_out hP) h
  | wakeCauseRead => exact State.within_of_out (frames := hallFrames) (d := .wakeCauseRead) (w := Loc.readC (.hall 0x094)) hc (by decide +kernel) (fun _ hP => readAct_out hP) h
  | pwrStatRead => exact State.within_of_out (frames := hallFrames) (d := .pwrStatRead) (w := Loc.readC (.hall 0x08C)) hc (by decide +kernel) (fun _ hP => readAct_out hP) h
  | hallModeRead => exact State.within_of_out (frames := hallFrames) (d := .hallModeRead) (w := Loc.readC (.hall 0x040)) hc (by decide +kernel) (fun _ hP => readAct_out hP) h
  | stairErrRead => exact State.within_of_out (frames := hallFrames) (d := .stairErrRead) (w := Loc.readC (.hall 0x60010)) hc (by decide +kernel) (fun _ hP => readAct_out hP) h
  | atticResultRead => exact State.within_of_out (frames := hallFrames) (d := .atticResultRead) (w := Loc.readC (.hall 0x40014)) hc (by decide +kernel) (fun _ hP => readAct_out hP) h
  | jnlResultRead => exact State.within_of_out (frames := hallFrames) (d := .jnlResultRead) (w := Loc.readC (.hall 0x73010)) hc (by decide +kernel) (fun _ hP => readAct_out hP) h
  | tbCtrlRead => exact State.within_of_out (frames := hallFrames) (d := .tbCtrlRead) (w := Loc.readC (.hall 0x10C)) hc (by decide +kernel) (fun _ hP => readAct_out hP) h
  | hbStatRead => exact State.within_of_out (frames := hallFrames) (d := .hbStatRead) (w := Loc.readC (.hall 0x054)) hc (by decide +kernel) (fun _ hP => readAct_out hP) h
  | hallModeWrite => exact State.within_of_out (frames := hallFrames) (d := (.hallModeWrite .hall 0)) hc (by decide +kernel) (fun _ hP => execHallModeWrite_out hP) h
  | fireN => exact State.within_of_out (frames := hallFrames) (d := .fireN) hc (by decide +kernel) (fun _ hP => execFireN_out hP) h
  | fireNRelease => exact State.within_of_out (frames := hallFrames) (d := .fireNRelease) hc (by decide +kernel) (fun _ hP => execFireNRelease_out hP) h
  | slowXtalSelect => exact State.within_of_out (frames := hallFrames) (d := .slowXtalSelect) hc (by decide +kernel) (fun _ hP => execSlowXtalSelect_out hP) h
  | slowSwitch => exact State.within_of_out (frames := hallFrames) (d := .slowSwitch) hc (by decide +kernel) (fun _ hP => execSlowSwitch_out hP) h
  | rcCalibration => exact State.within_of_out (frames := hallFrames) (d := (.rcCalibration 0)) hc (by decide +kernel) (fun _ hP => execRcCalibration_out hP) h
  | chipResetEnd => exact State.within_of_out (frames := hallFrames) (d := (.chipResetEnd true true true true true 0)) hc (by decide +kernel) (fun _ hP => execChipResetEnd_out hP) h
  | xtalOk => exact State.within_of_out (frames := hallFrames) (d := .xtalOk) hc (by decide +kernel) (fun _ hP => execXtalOk_out hP) h
  | slowClockEdge => exact State.within_of_out (frames := hallFrames) (d := (.slowClockEdge 0)) hc (by decide +kernel) (fun _ hP => execSlowClockEdge_out hP) h
  | reqRun => exact State.within_of_out (frames := hallFrames) (d := .reqRun) hc (by decide +kernel) (fun _ hP => execReqRun_out hP) h
  | reqDoze => exact State.within_of_out (frames := hallFrames) (d := .reqDoze) hc (by decide +kernel) (fun _ hP => execReqDoze_out hP) h
  | reqSleep => exact State.within_of_out (frames := hallFrames) (d := (.reqSleep 0)) hc (by decide +kernel) (fun _ hP => execReqSleep_out hP) h
  | reqStandby => exact State.within_of_out (frames := hallFrames) (d := (.reqStandby 0)) hc (by decide +kernel) (fun _ hP => execReqStandby_out hP) h
  | planRdDataRead => exact State.within_of_out (frames := hallFrames) (d := .planRdDataRead) (w := Loc.readC (.hall 0x294)) hc (by decide +kernel) (fun _ hP => readAct_out hP) h
  | fwRdDataRead => exact State.within_of_out (frames := hallFrames) (d := .fwRdDataRead) (w := Loc.readC (.hall 0x40054)) hc (by decide +kernel) (fun _ hP => readAct_out hP) h
  | celRdDataRead => exact State.within_of_out (frames := hallFrames) (d := .celRdDataRead) (w := Loc.readC (.hall 0x73040)) hc (by decide +kernel) (fun _ hP => readAct_out hP) h
  | cableResetReceived p => exact State.within_of_out (frames := hallFrames) (d := .cableResetReceived 0) (w := []) hc (by decide +kernel) (fun _ _ => execCableResetReceived_out (_p := p)) h
  | eventSend => exact State.within_of_out (frames := hallFrames) (d := (.eventSend 0)) (w := []) hc (by decide +kernel) (fun _ _ => execEventSend_out) h
  | eventResend => exact State.within_of_out (frames := hallFrames) (d := (.eventResend 0)) (w := []) hc (by decide +kernel) (fun _ _ => execEventResend_out) h
  | tambConversion => exact State.within_of_out (frames := hallFrames) (d := (.tambConversion 0 0)) hc (by decide +kernel) (fun _ hP => execTambConversion_out hP) h
  | idRevTrip => exact State.within_of_out (frames := hallFrames) (d := (.idRevTrip ⟨0, 0, 0, 0, true⟩)) hc (by decide +kernel) (fun _ hP => execIdRevTrip_out hP) h
  | vbusInReturn => exact State.within_of_out (frames := hallFrames) (d := (.vbusInReturn ⟨0, 0, 0, 0, true⟩)) hc (by decide +kernel) (fun _ hP => execVbusInReturn_out hP) h
  | batteryMode => exact State.within_of_out (frames := hallFrames) (d := .batteryMode) hc (by decide +kernel) (fun _ hP => execBatteryMode_out hP) h
  | batteryOperationEnd => exact State.within_of_out (frames := hallFrames) (d := (.batteryOperationEnd ⟨0, 0, 0, 0, true⟩)) hc (by decide +kernel) (fun _ hP => execBatteryOperationEnd_out hP) h
  | cutoff => exact State.within_of_out (frames := hallFrames) (d := (.cutoff 0)) hc (by decide +kernel) (fun _ hP => execCutoff_out hP) h
  | batPresChange => exact State.within_of_out (frames := hallFrames) (d := (.batPresChange true)) hc (by decide +kernel) (fun _ hP => execBatPresChange_out hP) h
  | qualification => exact State.within_of_out (frames := hallFrames) (d := (.qualification 0)) hc (by decide +kernel) (fun _ hP => execQualification_out hP) h
  | preTimeout => exact State.within_of_out (frames := hallFrames) (d := .preTimeout) hc (by decide +kernel) (fun _ hP => execPreTimeout_out hP) h
  | safetyTmr => exact State.within_of_out (frames := hallFrames) (d := .safetyTmr) hc (by decide +kernel) (fun _ hP => execSafetyTmr_out hP) h
  | chgOv => exact State.within_of_out (frames := hallFrames) (d := .chgOv) hc (by decide +kernel) (fun _ hP => execChgOv_out hP) h
  | presStable => exact State.within_of_out (frames := hallFrames) (d := .presStable) hc (by decide +kernel) (fun _ hP => execPresStable_out hP) h
  | ndvWindow => exact State.within_of_out (frames := hallFrames) (d := (.ndvWindow 0)) hc (by decide +kernel) (fun _ hP => execNdvWindow_out hP) h
  | start => exact State.within_of_out (frames := hallFrames) (d := .start) hc (by decide +kernel) (fun _ hP => execStart_out hP) h
  | prechargeDone => exact State.within_of_out (frames := hallFrames) (d := (.prechargeDone ⟨0, 0, 0, 0, true⟩)) hc (by decide +kernel) (fun _ hP => execPrechargeDone_out hP) h
  | pause => exact State.within_of_out (frames := hallFrames) (d := (.pause ⟨0, 0, 0, 0, true⟩)) hc (by decide +kernel) (fun _ hP => execPause_out hP) h
  | restart => exact State.within_of_out (frames := hallFrames) (d := (.restart ⟨0, 0, 0, 0, true⟩)) hc (by decide +kernel) (fun _ hP => execRestart_out hP) h
  | dtdtEvaluation => exact State.within_of_out (frames := hallFrames) (d := (.dtdtEvaluation 0)) hc (by decide +kernel) (fun _ hP => execDtdtEvaluation_out hP) h
  | budgetPauseRetry => exact State.within_of_out (frames := hallFrames) (d := .budgetPauseRetry) hc (by decide +kernel) (fun _ hP => execBudgetPauseRetry_out hP) h
  | pPkTrip => exact State.within_of_out (frames := hallFrames) (d := (.pPkTrip true)) hc (by decide +kernel) (fun _ hP => execPPkTrip_out hP) h
  | pOvTrip => exact State.within_of_out (frames := hallFrames) (d := .pOvTrip) hc (by decide +kernel) (fun _ hP => execPOvTrip_out hP) h
  | panEnWrite => exact State.within_of_out (frames := hallFrames) (d := (.panEnWrite true)) hc (by decide +kernel) (fun _ hP => execPanEnWrite_out hP) h
  | lampSlot => exact State.within_of_out (frames := hallFrames) (d := .lampSlot) hc (by decide +kernel) (fun _ hP => execLampSlot_out hP) h
  | load => exact State.within_of_out (frames := hallFrames) (d := .load) hc (by decide +kernel) (fun _ hP => execLoad_out hP) h
  | snapTrig => exact State.within_of_out (frames := hallFrames) (d := .snapTrig) hc (by decide +kernel) (fun _ hP => execSnapTrig_out hP) h
  | snapIoEdge => exact State.within_of_out (frames := hallFrames) (d := (.snapIoEdge true)) hc (by decide +kernel) (fun _ hP => execSnapIoEdge_out hP) h
  | snap => exact State.within_of_out (frames := hallFrames) (d := .snap) hc (by decide +kernel) (fun _ hP => execSnap_out hP) h
  | snapIoRelease => exact State.within_of_out (frames := hallFrames) (d := .snapIoRelease) hc (by decide +kernel) (fun _ hP => execSnapIoRelease_out hP) h
  | subscribe n _ => exact State.within_of_out (frames := hallFrames) (d := (.subscribe n [])) hc (execSubscribe_covered _) (fun _ hP => execSubscribe_out hP) h
  | hlActivate n _ _ _ => exact State.within_of_out (frames := hallFrames) (d := (.hlActivate n [] true true)) hc (execHlActivate_covered _) (fun _ hP => execHlActivate_out hP) h
  | ack n _ => exact State.within_of_out (frames := hallFrames) (d := (.ack n [])) hc (execAck_covered _) (fun _ hP => execAck_out hP) h
  | ping n _ => exact State.within_of_out (frames := hallFrames) (d := (.ping n [])) hc (execPing_covered _) (fun _ hP => execPing_out hP) h
  | timeout => exact State.within_of_out (frames := hallFrames) (d := (.timeout 0)) hc (by decide +kernel) (fun _ hP => execTimeout_out hP) h
  | unknownType => exact State.within_of_out (frames := hallFrames) (d := (.unknownType 0 [])) hc (by decide +kernel) (fun _ hP => execUnknownType_out hP) h
  | frameDiscard n _ _ _ => exact State.within_of_out (frames := hallFrames) (d := (.frameDiscard n [] true true)) hc (execFrameDiscard_covered _) (fun _ hP => execFrameDiscard_out hP) h
  | frameAbort n _ _ => exact State.within_of_out (frames := hallFrames) (d := (.frameAbort n [] 0)) hc (execFrameAbort_covered _) (fun _ hP => execFrameAbort_out hP) h
  | go => exact State.within_of_out (frames := hallFrames) (d := .go) hc (by decide +kernel) (fun _ hP => execGo_out hP) h
  | twTimeout n _ => exact State.within_of_out (frames := hallFrames) (d := (.twTimeout n true)) hc (execTwTimeout_covered _) (fun _ hP => execTwTimeout_out hP) h
  | twBusError n _ => exact State.within_of_out (frames := hallFrames) (d := (.twBusError n true)) hc (execTwBusError_covered _) (fun _ hP => execTwBusError_out hP) h
  | tcGo m => exact State.within_of_out (frames := hallFrames) (d := (.tcGo m)) hc (execTcGo_covered _) (fun _ hP => execTcGo_out hP) h
  | tcDone m _ _ _ => exact State.within_of_out (frames := hallFrames) (d := (.tcDone m 0 0 [])) hc (execTcDone_covered _) (fun _ hP => execTcDone_out hP) h
  | program => exact State.within_of_out (frames := hallFrames) (d := (.program .hall true true)) hc (by decide +kernel) (fun _ hP => execProgram_out hP) h
  | margin => exact State.within_of_out (frames := hallFrames) (d := (.margin .hall)) hc (by decide +kernel) (fun _ hP => execMargin_out hP) h
  | advance => exact State.within_of_out (frames := hallFrames) (d := (.advance .hall true true)) hc (by decide +kernel) (fun _ hP => execAdvance_out hP) h
  | lifecycle => exact State.within_of_out (frames := hallFrames) (d := (.lifecycle .hall true true)) hc (by decide +kernel) (fun _ hP => execLifecycle_out hP) h
  | progSecret => exact State.within_of_out (frames := hallFrames) (d := (.progSecret .hall true true)) hc (by decide +kernel) (fun _ hP => execProgSecret_out hP) h
  | atticCommandDone => exact State.within_of_out (frames := hallFrames) (d := (.atticCommandDone none [])) hc (by decide +kernel) (fun _ hP => execAtticCommandDone_out hP) h
  | verify => exact State.within_of_out (frames := hallFrames) (d := .verify) hc (by decide +kernel) (fun _ hP => execVerify_out hP) h
  | verifyDone => exact State.within_of_out (frames := hallFrames) (d := .verifyDone) hc (by decide +kernel) (fun _ hP => execVerifyDone_out hP) h
  | ident => exact State.within_of_out (frames := hallFrames) (d := (.ident [])) hc (by decide +kernel) (fun _ hP => execIdent_out hP) h
  | porchStatus => exact State.within_of_out (frames := hallFrames) (d := (.porchStatus [])) hc (by decide +kernel) (fun _ hP => execPorchStatus_out hP) h
  | openSession => exact State.within_of_out (frames := hallFrames) (d := (.openSession [] true)) hc (by decide +kernel) (fun _ hP => execOpenSession_out hP) h
  | sessionLost => exact State.within_of_out (frames := hallFrames) (d := (.sessionLost true true)) hc (by decide +kernel) (fun _ hP => execSessionLost_out hP) h
  | chunk => exact State.within_of_out (frames := hallFrames) (d := (.chunk [] true none true)) hc (by decide +kernel) (fun _ hP => execChunk_out hP) h
  | porchAbort => exact State.within_of_out (frames := hallFrames) (d := (.porchAbort [])) hc (by decide +kernel) (fun _ hP => execPorchAbort_out hP) h
  | porchActivate => exact State.within_of_out (frames := hallFrames) (d := (.porchActivate [] true)) hc (by decide +kernel) (fun _ hP => execPorchActivate_out hP) h
  | expired => exact State.within_of_out (frames := hallFrames) (d := (.expired true)) hc (by decide +kernel) (fun _ hP => execExpired_out hP) h
  | settingReset => exact State.within_of_out (frames := hallFrames) (d := .settingReset) hc (by decide +kernel) (fun _ hP => execSettingReset_out hP) h
  | append => exact State.within_of_out (frames := hallFrames) (d := (.append .hall)) hc (by decide +kernel) (fun _ hP => execAppend_out hP) h
  | bootrec => exact State.within_of_out (frames := hallFrames) (d := (.bootrec .hall true)) hc (by decide +kernel) (fun _ hP => execBootrec_out hP) h
  | groupCommit => exact State.within_of_out (frames := hallFrames) (d := .groupCommit) hc (by decide +kernel) (fun _ hP => execGroupCommit_out hP) h
  | cellarTimeout => exact State.within_of_out (frames := hallFrames) (d := (.cellarTimeout 0)) hc (by decide +kernel) (fun _ hP => execCellarTimeout_out hP) h
  | compaction => exact State.within_of_out (frames := hallFrames) (d := (.compaction 0)) hc (by decide +kernel) (fun _ hP => execCompaction_out hP) h
  | idcode => exact State.within_of_out (frames := hallFrames) (d := (.idcode 0)) hc (by decide +kernel) (fun _ hP => execIdcode_out hP) h
  | rdStat => exact State.within_of_out (frames := hallFrames) (d := (.rdStat 0)) hc (by decide +kernel) (fun _ hP => execRdStat_out hP) h
  | rdBuf => exact State.within_of_out (frames := hallFrames) (d := (.rdBuf 0)) hc (by decide +kernel) (fun _ hP => execRdBuf_out hP) h
  | dbgAbort => exact State.within_of_out (frames := hallFrames) (d := (.dbgAbort 0 0 0)) hc (by decide +kernel) (fun _ hP => execDbgAbort_out hP) h
  | chkErr => exact State.within_of_out (frames := hallFrames) (d := (.chkErr 0)) hc (by decide +kernel) (fun _ hP => execChkErr_out hP) h
  | lineReset => exact State.within_of_out (frames := hallFrames) (d := .lineReset) hc (by decide +kernel) (fun _ hP => execLineReset_out hP) h
  | dbgTimeout => exact State.within_of_out (frames := hallFrames) (d := .dbgTimeout) hc (by decide +kernel) (fun _ hP => execDbgTimeout_out hP) h
  | wrAddr => exact State.within_of_out (frames := hallFrames) (d := (.wrAddr 0 0 0)) hc (by decide +kernel) (fun _ hP => execWrAddr_out hP) h
  | rdData => exact State.within_of_out (frames := hallFrames) (d := (.rdData 0)) hc (by decide +kernel) (fun _ hP => execRdData_out hP) h
  | wrData => exact State.within_of_out (frames := hallFrames) (d := (.wrData 0 0 0)) hc (by decide +kernel) (fun _ hP => execWrData_out hP) h
  | ntcConversion => exact State.within_of_out (frames := hallFrames) (d := (.ntcConversion 0)) hc (by decide +kernel) (fun _ hP => execNtcConversion_out hP) h
  | chargerPeriodStart => exact State.within_of_out (frames := hallFrames) (d := (.chargerPeriodStart ⟨0, 0, 0, 0, true⟩)) hc (by decide +kernel) (fun _ hP => execChargerPeriodStart_out hP) h
  | hlCtsChange n _ => exact State.within_of_out (frames := hallFrames) (d := (.hlCtsChange n true)) hc (execHlCtsChange_covered _) (fun _ hP => execHlCtsChange_out hP) h
  | hlErrRead n => exact State.within_of_out (frames := hallFrames) hc (hlErrRead_covered n) (fun _ hP => readAct_out hP) h
  | twErrRead n => exact State.within_of_out (frames := hallFrames) hc (twErrRead_covered n) (fun _ hP => readAct_out hP) h
  | _ => exact (Option.some_ne_none f hc.symm).elim

end Sys2Proof.Machine

namespace Sys2Proof.Machine

set_option Elab.async false

/-! ### The attempt of a slot, where another Landing holds more than its node has -/

/-- The thermal model of the first slot. -/
def hotRec : ModelRec := ⟨48, 0, [], [], 0, 0, 100, 0⟩

/-- Port 8 of the second Landing is of the comfort class, the slot of the first has a thermal model, and the root's limit is
the register's, which is 0 after reset. -/
def overPlan : Plan :=
  { Plan.none with ports := List.replicate 8 PortPlan.absent ++ [{ PortPlan.absent with present := true, cls := 2 }]
                   budget := [⟨true, 0, 0⟩], slots := [⟨true, 0, 0⟩], hearth := [hotRec] }

/-- A seated slot whose retry is due. -/
def waitLand : Landing :=
  { ((Landing.reset.put HS_STAT_STATE hRetry).on HS_STAT_SEAT1).on HS_STAT_SEAT2 with retryAt := some 0 }

/-- The model of the slot has tripped and is cool again, and port 8 has a grant of 1 W. -/
def overState : State :=
  ((({ State.reset with
        clk := { Clk.reset with phase := .run }, plan := some overPlan
        hearth := { Hearth.reset with models := List.replicate 48 .reset ++ [{ Model.reset with st := 3 }] } } : State).setRoom 8
    ((Room.reset 8).put GRANT_GRANT_W 10)).onLand 0 fun _ => waitLand)

/-! A grant that is gone stays gone while the enforcement goes on: it only takes. -/

theorem Room.grant_cutTo {e : Env} {r : Room} {d : Nat} (h : r.grant = 0) : (r.cutTo e d).grant = 0 := by
  unfold Room.cutTo
  dsimp only
  rw [h, Nat.zero_min, if_neg (Nat.lt_irrefl 0)]
  split
  · exact (Room.fld_put_apart _ _ _ _ (by decide)).trans h
  · exact (Room.fld_onCon _ _ _).trans h

/-- The grant of port `p` is gone. -/
def State.Bare (p : Fin 48) (s : State) : Prop := (s.room p).grant = 0

theorem State.Bare.freeCharger {p : Fin 48} {s : State} {n : Node} {k : Nat} (h : s.Bare p) : (s.freeCharger n k).1.Bare p := by
  unfold State.freeCharger
  split <;> exact h
theorem State.Bare.freeStep {p : Fin 48} {s : State} {n : Node} {c k : Nat} {toFloor : Bool} (h : s.Bare p) :
    (s.freeStep n c toFloor k).1.Bare p := by
  refine List.foldlRecOn (motive := fun x : State × Nat => x.1.Bare p) _ _ h fun x hx q _ => ?_
  dsimp only
  have hcut {d : Nat} : (x.1.onRoomE q fun e r => r.cutTo e d).Bare p := by
    unfold State.Bare
    by_cases hq : q = p
    · subst hq
      rw [State.room_onRoomE]
      exact Room.grant_cutTo hx
    · rw [State.room_onRoomE_ne _ _ _ _ hq]
      exact hx
  generalize (if toFloor = true then _ else 0) = low
  split_ifs
  · exact hx
  · exact hx
  · exact hcut
  · exact hx
theorem State.Bare.freeCap {p : Fin 48} {s : State} {n : Node} {c : Nat} (h : s.Bare p) : (s.freeCap n c).Bare p := by
  unfold State.freeCap
  refine State.Bare.freeStep (State.Bare.freeStep ?_)
  split
  · exact h.freeCharger
  · exact h
theorem State.Bare.free48 {p : Fin 48} {s : State} {n : Node} {k : Nat} (h : s.Bare p) : (s.free48 n k).Bare p :=
  h.freeCharger.freeStep.freeStep.freeStep.freeStep
theorem State.Bare.enforceNode {p : Fin 48} {s : State} {n : Node} (h : s.Bare p) : (s.enforceNode n).Bare p :=
  h.freeCap.freeCap.free48
/-- What the root takes is gone after the whole enforcement. -/
theorem State.Bare.enforce {p : Fin 48} {s : State} (h : (s.enforceNode .root).Bare p) : s.enforce.Bare p := by
  unfold State.enforce allNodes
  rw [List.foldl_cons]
  exact List.foldlRecOn (motive := State.Bare p) _ State.enforceNode h fun _ ht _ _ => ht.enforceNode

theorem State.room_slotTo_of_off {s : State} {b : Fin 6} {st : Nat} {fast : Bool} (p : Fin 48) (h : (s.land b).st ≠ hOn) :
    (s.slotTo b st fast).room p = s.room p := by
  unfold State.slotTo
  dsimp only
  rw [decide_eq_false h, Bool.false_and, if_neg Bool.false_ne_true]
  rfl
theorem State.room_toInrush (s : State) (b : Fin 6) (p : Fin 48) : (s.toInrush b).room p = s.room p := by
  unfold State.toInrush
  dsimp only
  split
  · next h =>
    simp only [Bool.and_eq_true, decide_eq_true_eq] at h
    exact State.room_slotTo_of_off p (by rw [h.1.1.2]; decide)
  · rfl

theorem clampModel_landClear : ∀ b : Fin 6, Cell.clear State.clampModelC (.land b) = true := by decide +kernel

/-- An attempt of a slot whose model has tripped and is cool changes the Rooms as the clamp of the model does. -/
theorem exec_slotAttempt_clamps {s u : State} {b : Fin 6} {m : SlotMeas} (p : Fin 48) (hl : s.slotLive b = true)
    (hu : s.slotMeasure b m = u) (hst : (u.land b).st = hRetry)
    (hdue : due u.now (u.land b).retryAt (100000 * (u.land b).fld HS_RETRY_PER * (u.land b).retryK) = true)
    (hseat : (u.land b).seatedBoth = true) (hcool : u.modelHot (48 + b.val) = false) (htrip : u.modelState (48 + b.val) = 3) :
    ∃ t, exec (.slotAttempt b m) s = .next t ∧ t.room p = (u.clampModel (48 + b.val)).room p := by
  rw [exec_slotAttempt, execSlotAttempt]
  refine slotAct_does hl ?_
  have hland : (u.clampModel (48 + b.val)).land b = u.land b :=
    (State.clampModel_spared (o := .land b) (clampModel_landClear b) (.refl _ u)).same
  subst hu
  dsimp only
  rw [State.withQueue_room, State.posted_room, decide_eq_true hst, hdue, Bool.true_and, if_pos rfl, hseat, Bool.not_true,
    if_neg Bool.false_ne_true, if_neg (by rw [hcool]; decide), if_pos htrip, State.room_toInrush, State.room_slotTo_of_off]
  · rfl
  · rw [State.land_onLand]
    have hkeep : (((s.slotMeasure b m).clampModel (48 + b.val)).land b).st = hRetry := hland ▸ hst
    exact fun h => absurd (((Landing.fld_on_apart _ _ _ (by decide)).symm.trans h).symm.trans hkeep) (by decide)

/-- The state after the measurement of the slot, and the one in which the enforcement begins. -/
def overMet : State := overState.slotMeasure 0 ⟨0, 0, 0, false⟩
def overHot : State :=
  (overMet.setModel 48 { overMet.model 48 with ith := overMet.ithOf 48 hotRec, ithAt := overMet.now }).modelTo 48 2

theorem overMet_clampModel : overMet.clampModel 48 = overHot.enforce := by
  have hrec : overMet.modelRec 48 = some hotRec := by decide +kernel
  unfold State.clampModel
  rw [hrec]
  rfl

theorem overHot_bare : (overHot.enforceNode .root).Bare 8 := by
  unfold State.Bare
  decide +kernel

/-- The attempt clamps the model of the slot, and the enforcement takes the grant of port 8. -/
theorem overState_attempt : ∃ t, exec (.slotAttempt 0 ⟨0, 0, 0, false⟩) overState = .next t ∧ (t.room 8).grant = 0 := by
  obtain ⟨t, hexec, hroom⟩ := exec_slotAttempt_clamps (s := overState) (u := overMet) (b := 0) (m := ⟨0, 0, 0, false⟩) 8
    (by decide +kernel) rfl (by decide +kernel) (by decide +kernel) (by decide +kernel) (by decide +kernel) (by decide +kernel)
  refine ⟨t, hexec, ?_⟩
  rw [hroom, show overMet.clampModel (48 + (0 : Fin 6).val) = overHot.enforce from overMet_clampModel]
  exact overHot_bare.enforce

theorem overState_grant : (overState.room 8).grant = 10 := by decide +kernel

/-- A Room that follows keeps every register but PWM_STAT. -/
theorem Room.get_of_follows {r q : Room} (h : r.follows q) {a : Nat} (ha : 0x1C8 ≠ a) : q.regs.get a = r.regs.get a := by
  obtain ⟨w, d, rfl⟩ := h
  exact Store.get_set_ne _ _ ha

/-- Refutes O8: an attempt of a slot clamps its thermal model, and the enforcement that follows goes through every node: with
less power than is granted, it cuts the grant of a port of another Landing, which is outside the frame. -/
theorem not_slotFrames : ¬ Obligations.SlotFrames := by
  intro h
  obtain ⟨t, hexec, hgrant⟩ := overState_attempt
  have hroom := (h (.slotAttempt 0 ⟨0, 0, 0, false⟩) _ rfl overState t hexec).room 8 (by decide)
  have hkept : (t.room 8).regs.get 0x164 = (overState.room 8).regs.get 0x164 := by
    rcases hroom with heq | ⟨-, hfollows⟩
    · rw [heq]
    · exact Room.get_of_follows hfollows (by decide)
  have hsame : (t.room 8).grant = (overState.room 8).grant :=
    congrArg (fun w : Word => (w.extractLsb' GRANT_GRANT_W.lsb GRANT_GRANT_W.width).toNat) hkept
  rw [hgrant, overState_grant] at hsame
  exact absurd hsame (by decide)

end Sys2Proof.Machine

namespace Sys2Proof.Machine

set_option Elab.async false

/-! ## What an instruction leaves in sight -/

/-- The stage of a Room with the commit's registers written. -/
def Room.staged (r : Room) : Room :=
  { r with regs := (((List.range 8).foldl (fun m i => m.set (0x100 + 4 * i) (r.core.stage.getD i 0)) r.regs).set 0x140
    (r.core.stage.getD 8 0)).set 0x144 (r.core.stage.getD 9 0) }

def Room.stagedW : List Field := (List.range 8).map (fun i => .whole (0x100 + 4 * i)) ++ [.whole 0x140, .whole 0x144]
theorem Room.staged_fld (r : Room) (g : Field) (h : Field.clear Room.stagedW g = true) : r.staged.fld g = r.fld g := by
  simp only [Room.stagedW, Field.clear_append, Field.clear_cons, Field.clear_nil, Bool.and_true, Bool.and_eq_true] at h
  obtain ⟨hobj, h140, h144⟩ := h
  refine (Regs.fld_set_apart _ _ _ g h144).trans ((Regs.fld_set_apart _ _ _ g h140).trans ?_)
  refine List.foldlRecOn (motive := fun m : Regs => Regs.fld m g = Regs.fld r.regs g) _ _ rfl fun m hm i hi => ?_
  exact (Regs.fld_set_apart m _ _ g (List.all_eq_true.1 hobj _ (List.mem_map.2 ⟨i, hi, rfl⟩))).trans hm

def Room.commitW : List Field := [TX_STAT_REJ_CODE, PD_EVENT_TX_REJ] ++ Room.stagedW ++ Room.takeW
theorem Room.commit_fld (e : Env) (av : Nat) (shadow : Bool) (r : Room) (g : Field) (h : Field.clear Room.commitW g = true) :
    (Room.commit e av shadow r).2.fld g = r.fld g := by
  simp only [Room.commitW, Field.clear_append, Field.clear_cons, Field.clear_nil, Bool.and_true, Bool.and_eq_true] at h
  obtain ⟨⟨⟨hrej, hev⟩, hstage⟩, htake⟩ := h
  have hcore {f : Core → Core} : (r.staged.onCore f).fld g = r.fld g := (Room.fld_onCore _ _ _).trans
    (Room.staged_fld r g hstage)
  unfold Room.commit
  dsimp only
  split
  · split
    · exact (Room.take_fld _ _ _ g htake).trans hcore
    · exact (Room.fld_on_apart _ _ _ hev).trans ((Room.fld_put_apart _ _ _ _ hrej).trans hcore)
  · exact hcore

def Room.commitP : List RoomPart := [.core] ++ Room.takeP
theorem Room.commit_spares {e : Env} {av : Nat} {shadow : Bool} {r r0 : Room} {j : RoomPart}
    (hP : RoomPart.Clear Room.commitP j)
    (hr : Room.Spares j r0 r) : Room.Spares j r0 (Room.commit e av shadow r).2 := by
  have hcore {f : Core → Core} : Room.Spares j r0 (r.staged.onCore f) := .onCore (hP.of (by decide)) (.regs hr)
  unfold Room.commit
  dsimp only
  split
  · split
    · exact Room.take_spares (hP.of (by decide)) hcore
    · exact .on (.put hcore)
  · dsimp only
    exact hcore

section
variable {o : Look} {s0 s : State} {c : CoreId}

def Room.commitC : List Cell := Room.cells Room.commitW Room.commitP
theorem Room.commit_seen {r u : Room} {e : Env} {av : Nat} {shadow : Bool} (hP : Cell.clear Room.commitC o = true)
    (h : Room.Seen o r u) :
    Room.Seen o r (Room.commit e av shadow u).2 :=
  h.of_laws hP (Room.commit_fld e av shadow u) fun _ hk => Room.commit_spares hk (.refl _ _)

/-- Where a core is. -/
def coreCells : CoreId → List Cell
  | .room p => [.roomAt p, .roomPart .core]
  | .hall => [.part .hall]
/-- What a halt of a core shows. -/
def haltCells : CoreId → List Cell
  | .room p => [.roomAt p, .roomPart .core, .roomFld STATUS_CORE_ALIVE, .reg DBG_HALT0_ROOM, .reg DBG_HALT1_ROOM]
  | .hall => [.part .hall, .reg DBG_HALT1_HALL]

theorem coreCells_of_halt (hP : Cell.clear (haltCells c) o = true) : Cell.clear (coreCells c) o = true := by
  cases c with
  | room p =>
    simp only [haltCells, Cell.clear_cons_iff] at hP
    simp only [coreCells, Cell.clear_cons_iff, hP, and_self]
  | hall =>
    simp only [haltCells, Cell.clear_cons_iff] at hP
    simp only [coreCells, Cell.clear_cons_iff, hP, and_self]

theorem State.onCoreOf_at {f : Core → Core} (hP : Cell.clear (coreCells c) o = true) (h : State.Spares o s0 s) :
    State.Spares o s0 (s.onCoreOf c f) := by
  cases c with
  | room p =>
    obtain ⟨hroom, hcore⟩ := Cell.clear_cons_iff.1 hP
    exact h.onRoom hroom fun r => .onCore (Cell.clear_cons_iff.1 hcore).1 (.refl _ r)
  | hall => exact h.hall (Cell.clear_cons_iff.1 hP).1

theorem State.setHaltBit_at {b : Bool} (hP : Cell.clear (haltCells c) o = true) (h : State.Spares o s0 s) :
    State.Spares o s0 (s.setHaltBit c b) := by
  cases c with
  | room p =>
    simp only [haltCells, Cell.clear_cons_iff] at hP
    exact .ite (h.put (by simp only [hP])) (h.put (by simp only [hP]))
  | hall =>
    simp only [haltCells, Cell.clear_cons_iff] at hP
    exact h.putB (by simp only [hP])

theorem State.haltCore_at {cause bk : Nat} (hP : Cell.clear (haltCells c) o = true) (h : State.Spares o s0 s) :
    State.Spares o s0 (s.haltCore c cause bk) := by
  have hcore {f : Core → Core} := State.onCoreOf_at (f := f) (coreCells_of_halt hP) (State.setHaltBit_at (b := true) hP h)
  unfold State.haltCore
  dsimp only
  cases c with
  | room p =>
    simp only [haltCells, Cell.clear_cons_iff] at hP
    exact hcore.onRoom (by simp only [hP]) fun r => .off (by simp only [hP]) (.refl _ r)
  | hall => exact hcore

theorem State.stepEnd_at (hP : Cell.clear (haltCells c) o = true) (h : State.Spares o s0 s) : State.Spares o s0
    (s.stepEnd c) :=
  .ite (State.haltCore_at hP h) h
theorem State.trap_at {code : Nat} (hP : Cell.clear (haltCells c) o = true) (h : State.Spares o s0 s) :
    State.Spares o s0 (s.trap c code) := State.onCoreOf_at (coreCells_of_halt hP) h

/-- The looked-at thing is the same in the state that the body of an instruction answers, done or trapped. -/
def SeqOut.Spares (o : Look) (s : State) : SeqOut → Prop
  | .ok t => State.Spares o s t
  | .error x => State.Spares o s x.2

theorem SeqOut.Spares.ite {b : Prop} [Decidable b] {x y : SeqOut} (hx : SeqOut.Spares o s x) (hy : SeqOut.Spares o s y) :
    SeqOut.Spares o s (if b then x else y) := by
  split
  · exact hx
  · exact hy

theorem State.instr_at {ill : Bool} {cls : RepClass} {f : Word → State → SeqOut} (hP : Cell.clear (haltCells c) o = true)
    (hf : ∀ pc t, State.Spares o s t → SeqOut.Spares o s (f pc t)) : State.Spares o s (s.instr c ill cls f) := by
  have hP' := coreCells_of_halt hP
  unfold State.instr
  dsimp only
  generalize hr : (if (!fetchOk c (s.core c).pc.toNat) = true then (.error (trUnmapped, s) : SeqOut) else _) = r
  have hbody : SeqOut.Spares o s r := by
    subst hr
    refine .ite (State.Spares.refl _ _) (.ite (State.Spares.refl _ _) (.ite (State.Spares.refl _ _) ?_))
    have hbody := hf (s.core c).pc _ (State.onCoreOf_at (f := Core.advance) hP' (.refl o s))
    split
    · next ht => exact (congrArg (SeqOut.Spares o s) ht).mp hbody
    · next ht => exact State.onCoreOf_at hP' ((congrArg (SeqOut.Spares o s) ht).mp hbody)
  cases s.bkptAt c with
  | none =>
    cases r with
    | ok t => exact State.stepEnd_at hP hbody
    | error x =>
      obtain ⟨code, t⟩ := x
      exact State.stepEnd_at hP (State.trap_at hP hbody)
  | some n =>
    cases r with
    | ok t => exact State.haltCore_at hP (.refl _ _)
    | error x =>
      obtain ⟨code, t⟩ := x
      exact State.haltCore_at hP (State.trap_at hP hbody)

theorem seqAct_out {ill : Bool} {cls : RepClass} {f : Word → State → SeqOut} (hP : Cell.clear (haltCells c) o = true)
    (hf : ∀ pc t, State.Spares o s t → SeqOut.Spares o s (f pc t)) : Out.Spares o s (seqAct s c ill cls f) :=
  .act (State.instr_at hP hf)
theorem aluAct_out {cls : RepClass} {ill : Bool} {rd : Fin 16} {v : Core → Word} (hP : Cell.clear (haltCells c) o = true) :
    Out.Spares o s (aluAct s c cls ill rd v) :=
  seqAct_out hP fun _ _ h => State.onCoreOf_at (coreCells_of_halt hP) h

theorem rAct_out {cls : RepClass} {rd ra rb : Fin 16} {z : BitVec 14} {f : Word → Word → Word}
    (hP : Cell.clear (haltCells c) o = true) : Out.Spares o s (rAct s c cls rd ra rb z f) := aluAct_out hP
theorem iAct_out {rd ra : Fin 16} {imm : Word} {f : Word → Word → Word} (hP : Cell.clear (haltCells c) o = true) :
    Out.Spares o s (iAct s c rd ra imm f) := aluAct_out hP
theorem shiftAct_out {rd ra : Fin 16} {imm : BitVec 18} {f : Word → Nat → Word} (hP : Cell.clear (haltCells c) o = true) :
    Out.Spares o s (shiftAct s c rd ra imm f) := aluAct_out hP
theorem branchAct_out {ra : Fin 16} {off : BitVec 22} {taken : Word → Bool} (hP : Cell.clear (haltCells c) o = true) :
    Out.Spares o s (branchAct s c ra off taken) :=
  seqAct_out hP fun _ _ h => State.Spares.ite (State.onCoreOf_at (coreCells_of_halt hP) h) h

theorem execJal_out {rd : Fin 16} {imm : BitVec 22} (hP : Cell.clear (haltCells c) o = true) :
    Out.Spares o s (execJal c rd imm s) :=
  seqAct_out hP fun _ _ h => State.onCoreOf_at (coreCells_of_halt hP) (State.onCoreOf_at (coreCells_of_halt hP) h)
theorem execJalr_out {rd ra : Fin 16} {imm : BitVec 18} (hP : Cell.clear (haltCells c) o = true) :
    Out.Spares o s (execJalr c rd ra imm s) :=
  seqAct_out hP fun _ _ h =>
    .ite h (State.onCoreOf_at (coreCells_of_halt hP) (State.onCoreOf_at (coreCells_of_halt hP) h))

/-- An instruction that only changes its core. -/
theorem seqAct_core {ill : Bool} {cls : RepClass} {f : Core → Core} (hP : Cell.clear (haltCells c) o = true) :
    Out.Spares o s (seqAct s c ill cls fun _ s => .ok (s.onCoreOf c f)) :=
  seqAct_out hP fun _ _ h => State.onCoreOf_at (coreCells_of_halt hP) h

theorem execRptr_out {rd ra : Fin 16} {imm : BitVec 18} (hP : Cell.clear (haltCells c) o = true) :
    Out.Spares o s (execRptr c rd ra imm s) :=
  seqAct_out hP fun _ _ h => State.onCoreOf_at (coreCells_of_halt hP) h
theorem execRptu_out {rd ra : Fin 16} {imm : BitVec 18} (hP : Cell.clear (haltCells c) o = true) :
    Out.Spares o s (execRptu c rd ra imm s) :=
  seqAct_out hP fun _ _ h => .ite h (State.onCoreOf_at (coreCells_of_halt hP) h)
theorem execEvret_out {rd ra : Fin 16} {imm : BitVec 18} (hP : Cell.clear (haltCells c) o = true) :
    Out.Spares o s (execEvret c rd ra imm s) :=
  seqAct_out hP fun _ _ h => .ite h (State.onCoreOf_at (coreCells_of_halt hP) h)
theorem execSync_out {rd ra : Fin 16} {imm : BitVec 18} (hP : Cell.clear (haltCells c) o = true) :
    Out.Spares o s (execSync c rd ra imm s) :=
  seqAct_out hP fun _ _ h => h
theorem execMts_out {rd ra : Fin 16} {imm : BitVec 18} (hP : Cell.clear (haltCells c) o = true) :
    Out.Spares o s (execMts c rd ra imm s) :=
  seqAct_out hP fun _ _ h => .ite h (.ite h (State.onCoreOf_at (coreCells_of_halt hP) h))
theorem execBrk_out {rd ra : Fin 16} {imm : BitVec 18} (hP : Cell.clear (haltCells c) o = true) :
    Out.Spares o s (execBrk c rd ra imm s) :=
  seqAct_out hP fun _ _ h => .ite (State.haltCore_at hP h) h
theorem execEventEntry_out (hP : Cell.clear (haltCells c) o = true) : Out.Spares o s (execEventEntry c s) := by
  unfold execEventEntry
  exact .act (.ite (State.stepEnd_at hP (State.onCoreOf_at (coreCells_of_halt hP) (.refl _ _)))
    (State.stepEnd_at hP (State.trap_at hP (.refl _ _))))
theorem execCoreHalt_out (hP : Cell.clear (haltCells c) o = true) : Out.Spares o s (execCoreHalt c s) := by
  unfold execCoreHalt
  exact .act (State.haltCore_at hP (.refl _ _))

theorem State.special_spared {pc : Word} {code : Nat} (hP : Cell.clear State.free?C o = true) (h : State.Spares o s0 s) :
    State.Spares o s0 (s.special c pc code).2 := by
  unfold State.special
  dsimp only
  split
  iterate 7
    · exact h
  · exact State.free?_spared hP h
theorem execMfs_out {rd ra : Fin 16} {imm : BitVec 18} (hP : Cell.clear (State.free?C ++ haltCells c) o = true) :
    Out.Spares o s (execMfs c rd ra imm s) := by
  obtain ⟨hfree, hcore⟩ := Cell.clear_append_iff.1 hP
  exact seqAct_out hcore fun _ _ h => .ite h (State.onCoreOf_at (coreCells_of_halt hcore) (State.special_spared hfree h))

def hbeatCells (c : CoreId) : List Cell := [.part .hbeatAt, .part .hbMissed] ++ haltCells c
theorem execHbeat_out {rd ra : Fin 16} {imm : BitVec 18} (hP : Cell.clear (hbeatCells c) o = true) :
    Out.Spares o s (execHbeat c rd ra imm s) := by
  obtain ⟨hbeat, hcore⟩ := Cell.clear_append_iff.1 hP
  simp only [Cell.clear_cons_iff] at hbeat
  refine seqAct_out hcore fun _ t h => ?_
  cases c with
  | room p => exact h
  | hall => exact h.hbeat (by simp only [hbeat]) (by simp only [hbeat])

def resumeCells (c : CoreId) : List Cell := .roomPart .kickAt :: hbeatCells c
theorem State.resumeCore_at (hP : Cell.clear (resumeCells c) o = true) (h : State.Spares o s0 s) :
    State.Spares o s0 (s.resumeCore c) := by
  obtain ⟨hkick, hP⟩ := Cell.clear_cons_iff.1 hP
  obtain ⟨hbeat, hcore⟩ := Cell.clear_append_iff.1 hP
  simp only [Cell.clear_cons_iff] at hbeat
  have hrun {f : Core → Core} : State.Spares o s0 (s.onCoreOf c f) := State.onCoreOf_at (coreCells_of_halt hcore) h
  unfold State.resumeCore
  dsimp only
  cases c with
  | room p =>
    simp only [haltCells, Cell.clear_cons_iff] at hcore
    exact .ite (hrun.onRoom (by simp only [hcore]) fun r => .kickAt hkick (.on (by simp only [hcore]) (.refl _ r))) h
  | hall => exact .ite (.ite (hrun.hbeat (by simp only [hbeat]) (by simp only [hbeat])) hrun) h
theorem State.writeHalt_at {b : Bool} (hP : Cell.clear (resumeCells c) o = true) (h : State.Spares o s0 s) :
    State.Spares o s0 (s.writeHalt c b) := by
  have hcore := (Cell.clear_append_iff.1 (Cell.clear_cons_iff.1 hP).2).2
  exact .ite (State.setHaltBit_at hcore h) (.ite (State.resumeCore_at hP (State.setHaltBit_at hcore h)) h)
theorem execHalt_out {on : Bool} (hP : Cell.clear (resumeCells c) o = true) : Out.Spares o s (execHalt c on s) :=
  .act (State.writeHalt_at hP (.refl _ _))
theorem execStep_out {n : BitVec 6} (hP : Cell.clear State.stepCoreC o = true) : Out.Spares o s (execStep n s) :=
  .act (State.stepCore_spared hP (.refl _ _))

def commitCells (p : Fin 48) : List Cell := Room.commitC ++ haltCells (.room p)
theorem execCommit_out {p : Fin 48} {rd ra : Fin 16} (hP : Cell.clear (commitCells p) o = true) :
    Out.Spares o s (execCommit p rd ra s) := by
  obtain ⟨hcommit, hcore⟩ := Cell.clear_append_iff.1 hP
  have hroom := (Cell.clear_cons_iff.1 hcore).1
  refine seqAct_out hcore fun _ t h => State.onCoreOf_at (coreCells_of_halt hcore) ?_
  exact h.onRoom (g := fun r => (r.commit (t.env p) (t.availFor p) (!t.keeps (wingOf p))).2) hroom fun r =>
    Room.commit_seen hcommit (.refl _ r)
theorem execDiscard_out {p : Fin 48} {rd ra : Fin 16} (hP : Cell.clear (haltCells (.room p)) o = true) :
    Out.Spares o s (execDiscard p rd ra s) := by
  obtain ⟨hroom, hcore⟩ := Cell.clear_cons_iff.1 hP
  exact seqAct_out hP fun _ _ h => h.onRoom hroom fun r => .onCore (Cell.clear_cons_iff.1 hcore).1 (.refl _ r)

end

/-! ## O9: the frames of the instructions and of the control of a core -/

/-- What a core's halt shows lies in the frame of that core. -/
theorem coreFrame_covers {c : CoreId} {parts : List Part} {roomParts : List RoomPart} (hp : .hall ∈ parts)
    (hr : .core ∈ roomParts) :
    (haltCells c).all (coreFrame c parts roomParts).covers = true := by
  cases c with
  | room p => simp [haltCells, coreFrame, Footprint.covers, hr, STATUS_CORE_ALIVE, DBG_HALT0_ROOM, DBG_HALT1_ROOM]
  | hall => simp [haltCells, coreFrame, Footprint.covers, hp, DBG_HALT1_HALL]

/-- An instruction that changes its core alone stays within the frame of its core. -/
theorem State.within_core {c : CoreId} {f : Footprint} {s t : State} {x : Out}
    (hc : some (coreFrame c [.hall] [.core]) = some f)
    (h : x = .next t) (hout : ∀ o, Cell.clear (haltCells c) o = true → Out.Spares o s x) : s.within f t := by
  obtain rfl := Option.some.inj hc
  exact State.within_of_spares (coreFrame_covers (by decide) (by decide)) fun o ho => hout o ho t h

theorem hbeatCells_covered {c : CoreId} : (hbeatCells c).all (coreFrame c [.hall, .hbeatAt, .hbMissed] [.core]).covers =
    true := by
  rw [hbeatCells, List.all_append, coreFrame_covers (by decide) (by decide)]
  rfl
theorem resumeCells_covered {c : CoreId} :
    (resumeCells c).all (coreFrame c [.hall, .hbeatAt, .hbMissed] [.core, .kickAt]).covers = true := by
  rw [resumeCells, hbeatCells, List.all_cons, List.all_append, coreFrame_covers (by decide) (by decide)]
  rfl
theorem mfsCells_covered {c : CoreId} : (State.free?C ++ haltCells c).all (coreFrame c [.freeCtr, .hall] [.core]).covers =
    true := by
  rw [List.all_append, coreFrame_covers (by decide) (by decide)]
  rfl
theorem commitCells_covered : ∀ p : Fin 48, ((coreFrames (.commit p 0 0)).all fun g => (commitCells p).all g.covers) =
    true := by
  decide +kernel
theorem discardCells_covered : ∀ p : Fin 48,
    ((coreFrames (.discard p 0 0)).all fun g => (haltCells (.room p)).all g.covers) = true := by
  decide +kernel

/-- Settles O9: what each instruction that stores nothing and each control of a core changes lies in its frame. -/
theorem coreFrames_hold : Obligations.CoreFrames := by
  intro c f hc s t h
  cases c with
  | add | sub | and | or | xor | sll | srl | sra | mul | mulh | mulhu | divu | remu | minu | maxu | ceq | cne | clt | cltu | cge | cgeu =>
    simp only [exec_add, exec_sub, exec_and, exec_or, exec_xor, exec_sll, exec_srl, exec_sra, exec_mul, exec_mulh,
      exec_mulhu, exec_divu, exec_remu, exec_minu, exec_maxu, exec_ceq, exec_cne, exec_clt, exec_cltu, exec_cge,
        exec_cgeu, execAdd, execSub, execAnd, execOr, execXor, execSll, execSrl, execSra, execMul, execMulh, execMulhu,
          execDivu, execRemu, execMinu, execMaxu, execCeq, execCne, execClt, execCltu, execCge, execCgeu] at h
    exact State.within_core hc h fun _ hP => rAct_out hP
  | addi | andi | ori | xori | ceqi | cnei | clti | cltui | cgei | cgeui =>
    simp only [exec_addi, exec_andi, exec_ori, exec_xori, exec_ceqi, exec_cnei, exec_clti, exec_cltui, exec_cgei,
      exec_cgeui, execAddi, execAndi, execOri, execXori, execCeqi, execCnei, execClti, execCltui, execCgei, execCgeui] at h
    exact State.within_core hc h fun _ hP => iAct_out hP
  | slli | srli | srai =>
    simp only [exec_slli, exec_srli, exec_srai, execSlli, execSrli, execSrai] at h
    exact State.within_core hc h fun _ hP => shiftAct_out hP
  | lui =>
    simp only [exec_lui, execLui] at h
    exact State.within_core hc h fun _ hP => aluAct_out hP
  | bz | bnz =>
    simp only [exec_bz, exec_bnz, execBz, execBnz] at h
    exact State.within_core hc h fun _ hP => branchAct_out hP
  | jal =>
    rw [exec_jal] at h
    exact State.within_core hc h fun _ hP => execJal_out hP
  | jalr =>
    rw [exec_jalr] at h
    exact State.within_core hc h fun _ hP => execJalr_out hP
  | rpt | wait =>
    simp only [exec_rpt, exec_wait, execRpt, execWait] at h
    exact State.within_core hc h fun _ hP => seqAct_core hP
  | rptr =>
    rw [exec_rptr] at h
    exact State.within_core hc h fun _ hP => execRptr_out hP
  | rptu =>
    rw [exec_rptu] at h
    exact State.within_core hc h fun _ hP => execRptu_out hP
  | evret =>
    rw [exec_evret] at h
    exact State.within_core hc h fun _ hP => execEvret_out hP
  | sync =>
    rw [exec_sync] at h
    exact State.within_core hc h fun _ hP => execSync_out hP
  | mts =>
    rw [exec_mts] at h
    exact State.within_core hc h fun _ hP => execMts_out hP
  | brk =>
    rw [exec_brk] at h
    exact State.within_core hc h fun _ hP => execBrk_out hP
  | eventEntry =>
    rw [exec_eventEntry] at h
    exact State.within_core hc h fun _ hP => execEventEntry_out hP
  | coreHalt =>
    rw [exec_coreHalt] at h
    exact State.within_core hc h fun _ hP => execCoreHalt_out hP
  | mfs =>
    rw [exec_mfs] at h
    obtain rfl := Option.some.inj hc
    exact State.within_of_spares mfsCells_covered fun o ho => execMfs_out ho t h
  | hbeat =>
    rw [exec_hbeat] at h
    obtain rfl := Option.some.inj hc
    exact State.within_of_spares hbeatCells_covered fun o ho => execHbeat_out ho t h
  | halt =>
    rw [exec_halt] at h
    obtain rfl := Option.some.inj hc
    exact State.within_of_spares resumeCells_covered fun o ho => execHalt_out ho t h
  | step => exact State.within_of_out (frames := coreFrames) (d := .step 0) hc (by decide +kernel) (fun _ hP => execStep_out hP) h
  | commit p => exact State.within_of_out (frames := coreFrames) (d := .commit p 0 0) hc (commitCells_covered p) (fun _ hP => execCommit_out hP) h
  | discard p =>
    exact State.within_of_out (frames := coreFrames) (d := .discard p 0 0) hc (discardCells_covered p)
      (fun _ hP => execDiscard_out hP) h
  | _ => exact (Option.some_ne_none f hc.symm).elim

end Sys2Proof.Machine

namespace Sys2Proof.Machine

set_option Elab.async false

/-! ## What the commands that reach several ports leave in sight -/

section
variable {o : Look} {s0 s : State} {c : CoreId}

theorem actAsk_out {a : Option Ask} (hP : Cell.clear State.serveToC o = true) : Out.Spares o s (actAsk s a) := by
  cases a with
  | none => exact .stay
  | some a => exact .act (f := fun s => s.serveTo a) (State.serveTo_spared hP (.refl _ _))

/-! ### Loads of a core -/

/-- What a halt of some core shows. -/
def anyHaltC : List Cell :=
  [.part .hall, .reg DBG_HALT1_HALL, .rooms, .roomPart .core, .roomFld STATUS_CORE_ALIVE, .reg DBG_HALT0_ROOM, .reg
    DBG_HALT1_ROOM]
theorem haltCells_of_any (hP : Cell.clear anyHaltC o = true) : Cell.clear (haltCells c) o = true := by
  simp only [anyHaltC, Cell.clear_cons_iff] at hP
  cases c with
  | room p =>
    simp only [haltCells, Cell.clear_cons_iff, Cell.roomAt_of_rooms hP.2.2.1 p, hP, and_self]
  | hall => simp only [haltCells, Cell.clear_cons_iff, hP, and_self]

/-- The looked-at thing is the same in the state that a load answers, done or trapped. -/
def LoadOut.Spares (o : Look) (s : State) : Except (Nat × State) (Word × State) → Prop
  | .ok x => State.Spares o s x.2
  | .error x => State.Spares o s x.2

theorem LoadOut.Spares.ite {b : Prop} [Decidable b] {x y : Except (Nat × State) (Word × State)} (hx : LoadOut.Spares o s x)
    (hy : LoadOut.Spares o s y) : LoadOut.Spares o s (if b then x else y) := by
  split
  · exact hx
  · exact hy

theorem State.coreLoad_spared {a size : Nat} (hP : Cell.clear State.busLoadC o = true) (h : State.Spares o s0 s) :
    LoadOut.Spares o s0 (s.coreLoad c a size) := by
  have hload := State.busLoad_spared (r := .hall) (addr := a) (size := size) hP h
  unfold State.coreLoad
  refine .ite h ?_
  cases c with
  | room p => exact .ite h (.ite h (.ite h h))
  | hall => exact .ite hload hload

def loadC : List Cell := State.busLoadC ++ anyHaltC
theorem loadBody_spares {a size : Nat} {f : Word → State → State} (hP : Cell.clear State.busLoadC o = true)
    (hf : ∀ w t, State.Spares o s0 t → State.Spares o s0 (f w t)) (h : State.Spares o s0 s) :
    SeqOut.Spares o s0 (match s.coreLoad c a size with
      | .error e => .error e
      | .ok (w, t) => .ok (f w t)) := by
  have hload := State.coreLoad_spared (c := c) (a := a) (size := size) hP h
  cases hr : s.coreLoad c a size with
  | error e => exact (congrArg (LoadOut.Spares o s0) hr).mp hload
  | ok x =>
    obtain ⟨w, t⟩ := x
    exact hf w t ((congrArg (LoadOut.Spares o s0) hr).mp hload)
theorem loadAct_out {rd ra : Fin 16} {imm : BitVec 18} {size : Nat} {x : Word → Word} (hP : Cell.clear loadC o = true) :
    Out.Spares o s (loadAct s c rd ra imm size x) := by
  obtain ⟨hload, hcore⟩ := Cell.clear_append_iff.1 hP
  have hhalt := haltCells_of_any (c := c) hcore
  unfold loadAct
  exact seqAct_out hhalt fun _ t h =>
    loadBody_spares (f := fun w t => t.setRg c rd (x w)) hload (fun _ _ h => State.onCoreOf_at (coreCells_of_halt hhalt) h) h
theorem execLwp_out {rd ra : Fin 16} {imm : BitVec 18} (hP : Cell.clear loadC o = true) :
    Out.Spares o s (execLwp c rd ra imm s) := by
  obtain ⟨hload, hcore⟩ := Cell.clear_append_iff.1 hP
  have hhalt := haltCells_of_any (c := c) hcore
  unfold execLwp
  exact seqAct_out hhalt fun _ t h =>
    loadBody_spares (f := fun w u => (u.setRg c ra (t.rg c ra + 4)).setRg c rd w) hload
      (fun _ _ h => State.onCoreOf_at (coreCells_of_halt hhalt) (State.onCoreOf_at (coreCells_of_halt hhalt) h)) h

/-! ### What the Stair receives -/

/-- Where the timers of the blocks are. -/
def anyTmrC : List Cell := [.rooms, .roomRegs, .lands, .landRegs]
theorem State.setTmrRegs_any {k : TmrBlock} {m : Regs} (hP : Cell.clear anyTmrC o = true) (h : State.Spares o s0 s) :
    State.Spares o s0 (s.setTmrRegs k m) := by
  simp only [anyTmrC, Cell.clear_cons_iff] at hP
  unfold State.setTmrRegs
  cases k with
  | room p =>
    exact h.onRoom (Cell.roomAt_of_rooms (by simp only [hP]) _) fun _ =>
      .anyRegs (p := []) (by simp only [hP]) rfl (fun _ _ => Room.Spares.regs (.refl _ _)) (.refl _ _)
  | land b => exact h.onLandAny (by simp only [hP]) (by simp only [hP])

def State.stairTakeC : List Cell := [.part .pair, .reg STAIR_STAT_RX_SEQ] ++ State.stairGapC
theorem State.stairTake_spared {q : Nat} {t : State} (hP : Cell.clear State.stairTakeC o = true) (h : State.Spares o s0 s)
    (ht : s.stairTake q = some t) : State.Spares o s0 t := by
  simp only [State.stairTakeC, Cell.clear_append_iff, Cell.clear_cons_iff] at hP
  unfold State.stairTake at ht
  dsimp only at ht
  split_ifs at ht
  · obtain rfl := Option.some.inj ht
    exact State.Spares.onPair (by simp only [hP]) (h.put (by simp only [hP]))
  · obtain rfl := Option.some.inj ht
    exact h.put (by simp only [hP])
  · obtain rfl := Option.some.inj ht
    exact (State.stairGap_spared (by simp only [hP]) h).put (by simp only [hP])
theorem State.takeCopy_spared {x : StairRec} {free : Bool} {f : State → State} (hP : Cell.clear State.stairTakeC o = true)
    (hf : ∀ t, State.Spares o s0 t → State.Spares o s0 (f t)) (h : State.Spares o s0 s) :
    State.Spares o s0 (s.takeCopy x free f) := by
  have hpair := hP
  simp only [State.stairTakeC, Cell.clear_append_iff, Cell.clear_cons_iff] at hpair
  have hcopy : State.Spares o s0 (s.onPair fun y => { y with copyAt := some s.now }) := h.onPair (by simp only [hpair])
  unfold State.takeCopy
  dsimp only
  split
  · split
    · exact hcopy
    · next ht => exact hf _ (State.stairTake_spared hP hcopy ht)
  · exact .ite (hf _ hcopy) hcopy

def stairActC : List Cell := State.stairTakeC ++ State.badCopyC ++ State.laneLostC 0 ++ State.refreshStaleC
theorem stairAct_out {k : Fin 2} {line : List (BitVec 10)} {type : Nat} {free : Bool} {f : StairRec → State → State}
    (hP : Cell.clear stairActC o = true) (hf : ∀ x t, State.Spares o s t → State.Spares o s (f x t)) :
    Out.Spares o s (stairAct s k line type free f) := by
  simp only [stairActC, Cell.clear_append_iff] at hP
  have hlane : Cell.clear (State.laneLostC k) o = true := by simp only
    [State.laneLostC, State.laneLostC, Cell.clear_append_iff] at hP ⊢; simp only [hP, and_self]
  refine pairAct_out (by simp only [hP]) fun t h => ?_
  split
  · exact State.laneLost_spared hlane h
  · split
    · exact State.badCopy_spared (by simp only [hP]) h
    · exact .ite (State.takeCopy_spared (by simp only [hP]) (hf _) h) h

def mirrorActC : List Cell := .reg PAIR_EVENT_KEY_STAIR_MISMATCH :: stairActC
theorem mirrorAct_out {k : Fin 2} {line : List (BitVec 10)} {type : Nat} {keeps : StairRec → State → Bool}
    {f : StairRec → State → State} (hP : Cell.clear mirrorActC o = true)
    (hf : ∀ x t, State.Spares o s t → State.Spares o s (f x t)) : Out.Spares o s (mirrorAct s k line type keeps f) := by
  obtain ⟨hev, hP⟩ := Cell.clear_cons_iff.1 hP
  exact stairAct_out hP fun x t h => .ite h (.ite (hf x t h) (h.on hev))

end

section
variable {o : Look} {s : State}

def execGrantAnswerC : List Cell := State.serveToC
theorem execGrantAnswer_out {p : Fin 48} (hP : Cell.clear execGrantAnswerC o = true) : Out.Spares o s
    (execGrantAnswer p s) := by
  simp only [execGrantAnswerC] at hP
  unfold execGrantAnswer
  repeat' first
    | with_reducible exact h | with_reducible exact Out.Spares.stay | with_reducible exact State.Spares.refl _ _ | with_reducible refine actAsk_out (by simp only [hP])

def execAttachGrantC : List Cell := State.serveToC
theorem execAttachGrant_out {p : Fin 48} (hP : Cell.clear execAttachGrantC o = true) : Out.Spares o s
    (execAttachGrant p s) := by
  simp only [execAttachGrantC] at hP
  unfold execAttachGrant
  repeat' first
    | with_reducible exact h | with_reducible exact Out.Spares.stay | with_reducible exact State.Spares.refl _ _ | with_reducible refine actAsk_out (by simp only [hP])

def execChargerGrantC : List Cell := State.serveToC
theorem execChargerGrant_out (hP : Cell.clear execChargerGrantC o = true) : Out.Spares o s (execChargerGrant s) := by
  simp only [execChargerGrantC] at hP
  unfold execChargerGrant
  repeat' first
    | with_reducible exact h | with_reducible exact Out.Spares.stay | with_reducible exact State.Spares.refl _ _ | with_reducible refine actAsk_out (by simp only [hP])  

def execSubwordReadC : List Cell := [.part .rdata, .part .rerr] ++ State.busLoadC
theorem execSubwordRead_out {a : Agent} {addr : Nat} {size : Nat} (hP : Cell.clear execSubwordReadC o = true) : Out.Spares
    o s (execSubwordRead a addr size s) := by
  simp only [execSubwordReadC, Cell.clear_append_iff, Cell.clear_cons_iff, Cell.clear_nil_iff] at hP
  unfold execSubwordRead
  split
  · next p =>
    have hread : State.Spares o s { s with rdata := subword addr size (s.coreView p (addr / 4 * 4)) } :=
      State.Spares.rdata (by simp only [hP]) (.refl _ _)
    exact .act (hread.rerr (by simp only [hP]))
  · exact .act (State.busLoad_spared (by simp only [hP]) (.refl _ _))

def execBudgetLimitWriteC : List Cell := [.part .rerr] ++ State.writeNodeC
theorem execBudgetLimitWrite_out {r : Req} {addr : Nat} {v : Word} (hP : Cell.clear execBudgetLimitWriteC o = true) :
    Out.Spares o s (execBudgetLimitWrite r addr v s) := by
  simp only [execBudgetLimitWriteC, Cell.clear_append_iff, Cell.clear_cons_iff, Cell.clear_nil_iff] at hP
  unfold execBudgetLimitWrite
  repeat' first
    | with_reducible exact h | with_reducible exact Out.Spares.stay | with_reducible exact State.Spares.refl _ _ | with_reducible refine Out.Spares.act ?_ | with_reducible refine State.writeNode_spared (by simp only [hP]) ?_ | split
    | with_reducible refine State.Spares.rerr (by simp only [hP]) ?_

def execCoreWdtC : List Cell := State.coreMissC
theorem execCoreWdt_out {p : Fin 48} (hP : Cell.clear execCoreWdtC o = true) : Out.Spares o s (execCoreWdt p s) := by
  simp only [execCoreWdtC] at hP
  unfold execCoreWdt
  repeat' first
    | with_reducible exact h | with_reducible exact Out.Spares.stay | with_reducible exact State.Spares.refl _ _ | with_reducible refine Out.Spares.act ?_ | with_reducible refine State.coreMiss_spared (by simp only [hP]) ?_

def execCoreKickC : List Cell := State.kickC
theorem execCoreKick_out {p : Fin 48} {key : Nat} (hP : Cell.clear execCoreKickC o = true) : Out.Spares o s
    (execCoreKick p key s) := by
  simp only [execCoreKickC] at hP
  unfold execCoreKick
  repeat' first
    | with_reducible exact h | with_reducible exact Out.Spares.stay | with_reducible exact State.Spares.refl _ _ | with_reducible refine Out.Spares.act ?_ | with_reducible refine State.kick_spared (by simp only [hP]) ?_

def execAdcCalibrationC : List Cell :=
  [.rooms, .roomPart .calRej, .roomPart .cal, .lands, .landFld LAND_SENSE_HOLD, .wings, .wingFld WING_CAL_ROOM] ++
    Room.faultC FAULT_SENSE_OPEN ++ Room.senseHoldOnC
theorem execAdcCalibration_out {p : Fin 48} {adc : Fin 2} {gain : Int} {offset : Int}
    (hP : Cell.clear execAdcCalibrationC o = true) : Out.Spares o s (execAdcCalibration p adc gain offset s) := by
  simp only [execAdcCalibrationC, Cell.clear_append_iff, Cell.clear_cons_iff, Cell.clear_nil_iff] at hP
  have hfault {t : State} (h : State.Spares o s t) : State.Spares o s ((t.onRoomE (t.lead p) fun e r =>
      (r.fault FAULT_SENSE_OPEN).senseHoldOn e).onLand (landOf p) fun l => l.on LAND_SENSE_HOLD) :=
    State.Spares.onLand (by simp only [hP]) (fun _ => .on (by simp only [hP]) (.refl _ _))
      (State.Spares.onRoomE (Cell.roomAt_of_rooms (by simp only [hP]) _) (fun _ _ => Room.senseHoldOn_seen (by simp only
        [hP]) (Room.fault_seen (by simp only [hP]) (.refl _ _))) h)
  unfold execAdcCalibration
  refine .act (.ite ?_ ?_)
  · extract_lets n t u
    have hwing {v : Wing → Nat} : State.Spares o s (s.onWing (wingOf p) fun w => w.put WING_CAL_ROOM (v w)) :=
      State.Spares.onWing (by simp only [hP]) (fun _ => .put (by simp only [hP]) (.refl _ _)) (.refl _ _)
    have ht : State.Spares o s t := hwing
    have hu : State.Spares o s u := State.Spares.onRoom (Cell.roomAt_of_rooms (by simp only [hP]) _)
      (fun r => .calRej (by simp only [hP]) (.refl _ r)) ht
    exact .ite (hfault hu) hu
  · have hcal (r : Room) : Room.Seen o r { r with cal := setAt r.cal adc.val (gain, offset) } := .cal (by simp only [hP])
        (.refl _ r)
    exact State.Spares.onRoom (Cell.roomAt_of_rooms (by simp only [hP]) _) (fun r => (hcal r).calRej (by simp only [hP]))
      (.refl _ _)

def execLandingFaultC : List Cell := State.landFaultC
theorem execLandingFault_out {b : Fin 6} {cause : SlotCause} (hP : Cell.clear execLandingFaultC o = true) : Out.Spares o s
    (execLandingFault b cause s) := by
  simp only [execLandingFaultC] at hP
  unfold execLandingFault
  repeat' first
    | with_reducible exact h | with_reducible exact Out.Spares.stay | with_reducible exact State.Spares.refl _ _ | with_reducible refine Out.Spares.act ?_ | with_reducible refine State.landFault_spared (by simp only [hP]) ?_

def execOpenPinTestC : List Cell := State.portPinC ++ State.slotPinC
theorem execOpenPinTest_out {pin : SensePin} {moved : Nat} (hP : Cell.clear execOpenPinTestC o = true) : Out.Spares o s
    (execOpenPinTest pin moved s) := by
  simp only [execOpenPinTestC, Cell.clear_append_iff] at hP
  unfold execOpenPinTest
  repeat' first
    | with_reducible exact h | with_reducible exact Out.Spares.stay | with_reducible exact State.Spares.refl _ _ | with_reducible refine Out.Spares.act ?_ | with_reducible refine State.portPin_spared (by simp only [hP]) ?_
    | with_reducible refine State.slotPin_spared (by simp only [hP]) ?_ | split

def execLandingSelfCheckC : List Cell := State.landInternalC LAND_FAULT_WDT
theorem execLandingSelfCheck_out {b : Fin 6} (hP : Cell.clear execLandingSelfCheckC o = true) : Out.Spares o s
    (execLandingSelfCheck b s) := by
  simp only [execLandingSelfCheckC] at hP
  unfold execLandingSelfCheck
  repeat' first
    | with_reducible exact h | with_reducible exact Out.Spares.stay | with_reducible exact State.Spares.refl _ _ | with_reducible refine Out.Spares.act ?_ | with_reducible refine State.landInternal_spared (by simp only [hP]) ?_

def execParityC : List Cell :=
  [.rooms] ++ Room.faultC FAULT_PARITY ++ State.enterSafeC FAULT_PARITY ++ State.handUpC ++
    State.landInternalC LAND_FAULT_PARITY
theorem execParity_out {site : Site} (hP : Cell.clear execParityC o = true) : Out.Spares o s (execParity site s) := by
  simp only [execParityC, Cell.clear_append_iff, Cell.clear_cons_iff, Cell.clear_nil_iff] at hP
  unfold execParity
  repeat' first
    | with_reducible exact h | with_reducible exact Out.Spares.stay | with_reducible exact State.Spares.refl _ _ | with_reducible refine Out.Spares.act ?_ | with_reducible refine State.enterSafe_spared (by simp only [hP]) ?_
    | with_reducible refine State.handUp_spared (by simp only [hP]) ?_
    | with_reducible refine State.landInternal_spared (by simp only [hP]) ?_
    | with_reducible refine State.Spares.onRoom (Cell.roomAt_of_rooms (by simp only [hP]) _) (fun r => ?_) ?_
    | with_reducible refine Room.fault_seen (by simp only [hP]) ?_ | with_reducible refine State.Spares.ite ?_ ?_
    | with_reducible exact Room.Seen.refl _ _ | with_reducible refine Room.Seen.ite ?_ ?_ | split

def execWingWatchdogC : List Cell :=
  [.wings, .wingFld WING_FAULT_BUS, .wingFld WING_FAULT_CAL, .wingFld WING_FAULT_LANDING] ++ State.wingFaultC
theorem execWingWatchdog_out {w : Fin 2} {part : WingPart} (hP : Cell.clear execWingWatchdogC o = true) : Out.Spares o s
    (execWingWatchdog w part s) := by
  simp only [execWingWatchdogC, Cell.clear_append_iff, Cell.clear_cons_iff, Cell.clear_nil_iff] at hP
  unfold execWingWatchdog
  repeat' first
    | with_reducible exact h | with_reducible exact Out.Spares.stay | with_reducible exact State.Spares.refl _ _ | with_reducible refine Out.Spares.act ?_ | with_reducible refine State.wingFault_spared (by simp only [hP]) ?_
    | with_reducible refine State.Spares.onWing (by simp only [hP]) (fun x => ?_) ?_
    | with_reducible refine Wing.Seen.on (by simp only [hP]) ?_
    | with_reducible refine Wing.Seen.put (by simp only [hP]) ?_ | with_reducible exact Wing.Seen.refl _ _ | split

def execWingSafeDelayC : List Cell := State.wingSafeC
theorem execWingSafeDelay_out {w : Fin 2} (hP : Cell.clear execWingSafeDelayC o = true) : Out.Spares o s
    (execWingSafeDelay w s) := by
  simp only [execWingSafeDelayC] at hP
  unfold execWingSafeDelay
  repeat' first
    | with_reducible exact h | with_reducible exact Out.Spares.stay | with_reducible exact State.Spares.refl _ _ | with_reducible refine Out.Spares.act ?_ | with_reducible refine State.wingSafe_spared (by simp only [hP]) ?_

def execWingRestartC : List Cell := State.restartWingC
theorem execWingRestart_out {w : Fin 2} (hP : Cell.clear execWingRestartC o = true) : Out.Spares o s (execWingRestart w s)
    := by
  simp only [execWingRestartC] at hP
  unfold execWingRestart
  repeat' first
    | with_reducible exact h | with_reducible exact Out.Spares.stay | with_reducible exact State.Spares.refl _ _ | with_reducible refine Out.Spares.act ?_ | with_reducible refine State.restartWing_spared (by simp only [hP]) ?_

def execClockFailureC : List Cell :=
  [.part .clk, .reg CLK_STAT_XTAL_OK, .reg CLK_STAT_PLL_LOCK] ++ State.dropKeyC ++ State.escalateAllC ++ State.slotToC
theorem execClockFailure_out {xtal : Bool} (hP : Cell.clear execClockFailureC o = true) : Out.Spares o s
    (execClockFailure xtal s) := by
  simp only [execClockFailureC, Cell.clear_append_iff, Cell.clear_cons_iff, Cell.clear_nil_iff] at hP
  have hfail : State.Spares o s ((s.onClk fun c => { c with failAt := some s.now }).off
      (if xtal then CLK_STAT_XTAL_OK else CLK_STAT_PLL_LOCK)) := by
    refine State.Spares.off ?_ (State.Spares.onClk (by simp only [hP]) (.refl _ _))
    split <;> simp only [hP]
  unfold execClockFailure
  refine .act (.ite hfail (.ite (State.dropKey_spared (by simp only [hP]) hfail) ?_))
  exact State.Spares.foldl (fun _ _ h => .ite (State.slotTo_spared (by simp only [hP]) h) h)
    (State.escalateAll_spared (by simp only [hP]) hfail)

def execWakeNC : List Cell := [.reg WAKE_CAUSE_WAKE_PIN] ++ State.wakeByC
theorem execWakeN_out (hP : Cell.clear execWakeNC o = true) : Out.Spares o s (execWakeN s) := by
  simp only [execWakeNC, Cell.clear_append_iff, Cell.clear_cons_iff, Cell.clear_nil_iff] at hP
  unfold execWakeN
  repeat' first
    | with_reducible exact h | with_reducible exact Out.Spares.stay | with_reducible exact State.Spares.refl _ _ | with_reducible refine Out.Spares.act ?_ | with_reducible refine State.wakeBy_spared (fun _ h => ?_) (by simp only [hP]) ?_
    | with_reducible refine State.Spares.on (by simp only [hP]) ?_

def execCcSamplingWindowC : List Cell :=
  [.part .clk, .reg WAKE_CAUSE_CC_PORT, .reg WAKE_CAUSE_CC, .rooms, .roomPart .cc] ++ State.wakeByC
theorem execCcSamplingWindow_out {lv : List (Fin 48 × Fin 8 × Fin 8)} (hP : Cell.clear execCcSamplingWindowC o = true) :
    Out.Spares o s (execCcSamplingWindow lv s) := by
  simp only [execCcSamplingWindowC, Cell.clear_append_iff, Cell.clear_cons_iff, Cell.clear_nil_iff] at hP
  unfold execCcSamplingWindow
  dsimp only
  repeat' first
    | with_reducible exact h | with_reducible exact Out.Spares.stay | with_reducible exact State.Spares.refl _ _ | with_reducible refine Out.Spares.act ?_ | with_reducible refine State.wakeBy_spared (fun _ h => ?_) (by simp only [hP]) ?_
    | with_reducible refine State.Spares.onClk (by simp only [hP]) ?_
    | with_reducible refine State.Spares.onRoom (Cell.roomAt_of_rooms (by simp only [hP]) _) (fun r => ?_) ?_
    | with_reducible refine State.Spares.put (by simp only [hP]) ?_
    | with_reducible refine State.Spares.on (by simp only [hP]) ?_
    | with_reducible refine Room.Seen.onCc (by simp only [hP]) ?_ | with_reducible refine State.Spares.ite ?_ ?_
    | with_reducible refine State.Spares.foldl (fun _ _ h => ?_) ?_ | with_reducible exact Room.Seen.refl _ _

def execKeyWakeC : List Cell := [.reg WAKE_CAUSE_KEY] ++ State.wakeByC
theorem execKeyWake_out (hP : Cell.clear execKeyWakeC o = true) : Out.Spares o s (execKeyWake s) := by
  simp only [execKeyWakeC, Cell.clear_append_iff, Cell.clear_cons_iff, Cell.clear_nil_iff] at hP
  unfold execKeyWake
  repeat' first
    | with_reducible exact h | with_reducible exact Out.Spares.stay | with_reducible exact State.Spares.refl _ _ | with_reducible refine Out.Spares.act ?_ | with_reducible refine State.wakeBy_spared (fun _ h => ?_) (by simp only [hP]) ?_
    | with_reducible refine State.Spares.on (by simp only [hP]) ?_

def execAlarmC : List Cell := [.reg WAKE_CAUSE_ALARM] ++ State.wakeByC
theorem execAlarm_out (hP : Cell.clear execAlarmC o = true) : Out.Spares o s (execAlarm s) := by
  simp only [execAlarmC, Cell.clear_append_iff, Cell.clear_cons_iff, Cell.clear_nil_iff] at hP
  unfold execAlarm
  repeat' first
    | with_reducible exact h | with_reducible exact Out.Spares.stay | with_reducible exact State.Spares.refl _ _ | with_reducible refine Out.Spares.act ?_ | with_reducible refine State.wakeBy_spared (fun _ h => ?_) (by simp only [hP]) ?_
    | with_reducible refine State.Spares.on (by simp only [hP]) ?_

def execFireWakeC : List Cell := [.reg WAKE_CAUSE_FIRE] ++ State.wakeByC
theorem execFireWake_out (hP : Cell.clear execFireWakeC o = true) : Out.Spares o s (execFireWake s) := by
  simp only [execFireWakeC, Cell.clear_append_iff, Cell.clear_cons_iff, Cell.clear_nil_iff] at hP
  unfold execFireWake
  repeat' first
    | with_reducible exact h | with_reducible exact Out.Spares.stay | with_reducible exact State.Spares.refl _ _ | with_reducible refine Out.Spares.act ?_ | with_reducible refine State.wakeBy_spared (fun _ h => ?_) (by simp only [hP]) ?_
    | with_reducible refine State.Spares.on (by simp only [hP]) ?_

def execHlWakeC : List Cell := [.reg WAKE_CAUSE_HL] ++ State.wakeByC
theorem execHlWake_out {_n : Fin 2} (hP : Cell.clear execHlWakeC o = true) : Out.Spares o s (execHlWake _n s) := by
  simp only [execHlWakeC, Cell.clear_append_iff, Cell.clear_cons_iff, Cell.clear_nil_iff] at hP
  unfold execHlWake
  repeat' first
    | with_reducible exact h | with_reducible exact Out.Spares.stay | with_reducible exact State.Spares.refl _ _ | with_reducible refine Out.Spares.act ?_ | with_reducible refine State.wakeBy_spared (fun _ h => ?_) (by simp only [hP]) ?_
    | with_reducible refine State.Spares.on (by simp only [hP]) ?_

def execPorchWakeC : List Cell := [.reg WAKE_CAUSE_PORCH] ++ State.wakeByC
theorem execPorchWake_out (hP : Cell.clear execPorchWakeC o = true) : Out.Spares o s (execPorchWake s) := by
  simp only [execPorchWakeC, Cell.clear_append_iff, Cell.clear_cons_iff, Cell.clear_nil_iff] at hP
  unfold execPorchWake
  repeat' first
    | with_reducible exact h | with_reducible exact Out.Spares.stay | with_reducible exact State.Spares.refl _ _ | with_reducible refine Out.Spares.act ?_ | with_reducible refine State.wakeBy_spared (fun _ h => ?_) (by simp only [hP]) ?_
    | with_reducible refine State.Spares.on (by simp only [hP]) ?_

def execSleepWakeC : List Cell :=
  [.part .clk, .reg PWR_CTRL_REQ, .reg PWR_STAT_STATE, .reg PWR_STAT_PENDING] ++ State.makeUpC ++ State.setTbC ++
    State.slotWakeC ++ State.wakePortsC
theorem execSleepWake_out (hP : Cell.clear execSleepWakeC o = true) : Out.Spares o s (execSleepWake s) := by
  simp only [execSleepWakeC, Cell.clear_append_iff, Cell.clear_cons_iff, Cell.clear_nil_iff] at hP
  unfold execSleepWake
  dsimp only
  repeat' first
    | with_reducible exact h | with_reducible exact Out.Spares.stay | with_reducible exact State.Spares.refl _ _ | with_reducible refine Out.Spares.act ?_ | with_reducible refine State.makeUp_spared (by simp only [hP]) ?_
    | with_reducible refine State.setTb_spared (by simp only [hP]) ?_
    | with_reducible refine State.slotWake_spared (by simp only [hP]) ?_
    | with_reducible refine State.wakePorts_spared (by simp only [hP]) ?_
    | with_reducible refine State.allSlots_spared (fun _ _ h => ?_) ?_
    | with_reducible refine State.Spares.onClk (by simp only [hP]) ?_
    | with_reducible refine State.Spares.put (by simp only [hP]) ?_
    | with_reducible refine State.Spares.off (by simp only [hP]) ?_ | with_reducible refine State.Spares.links ?_

def execRetryAttemptC : List Cell := [.rooms, .roomPart .conv] ++ Room.attemptC ++ State.clampModelC
theorem execRetryAttempt_out {p : Fin 48} (hP : Cell.clear execRetryAttemptC o = true) : Out.Spares o s
    (execRetryAttempt p s) := by
  simp only [execRetryAttemptC, Cell.clear_append_iff, Cell.clear_cons_iff, Cell.clear_nil_iff] at hP
  unfold execRetryAttempt
  dsimp only
  repeat' first
    | with_reducible exact h | with_reducible exact Out.Spares.stay | with_reducible exact State.Spares.refl _ _ | with_reducible refine Out.Spares.act ?_ | with_reducible refine State.clampModel_spared (by simp only [hP]) ?_
    | with_reducible refine State.Spares.onRoom (Cell.roomAt_of_rooms (by simp only [hP]) _) (fun r => ?_) ?_
    | with_reducible refine State.Spares.onRoomE (Cell.roomAt_of_rooms (by simp only [hP]) _) (fun e r => ?_) ?_
    | with_reducible refine Room.attempt_seen (by simp only [hP]) ?_
    | with_reducible refine Room.Seen.onConv (by simp only [hP]) ?_ | with_reducible refine State.Spares.ite ?_ ?_
    | with_reducible exact Room.Seen.refl _ _

def execHearthUpdateC : List Cell := [.part .hearth] ++ State.updateModelC
theorem execHearthUpdate_out {die : Nat} (hP : Cell.clear execHearthUpdateC o = true) : Out.Spares o s
    (execHearthUpdate die s) := by
  simp only [execHearthUpdateC, Cell.clear_append_iff, Cell.clear_cons_iff, Cell.clear_nil_iff] at hP
  unfold execHearthUpdate
  repeat' first
    | with_reducible exact h | with_reducible exact Out.Spares.stay | with_reducible exact State.Spares.refl _ _ | with_reducible refine Out.Spares.act ?_ | with_reducible refine State.updateModel_spared (by simp only [hP]) ?_
    | with_reducible refine State.Spares.foldl (fun _ _ h => ?_) ?_
    | with_reducible refine State.Spares.hearth (by simp only [hP]) ?_

def execGraceC : List Cell := State.clampActsC ++ State.modelToC ++ State.showModelC ++ State.tripActsC
theorem execGrace_out {m : Fin 57} (hP : Cell.clear execGraceC o = true) : Out.Spares o s (execGrace m s) := by
  simp only [execGraceC, Cell.clear_append_iff] at hP
  unfold execGrace
  dsimp only
  repeat' first
    | with_reducible exact h | with_reducible exact Out.Spares.stay | with_reducible exact State.Spares.refl _ _ | with_reducible refine Out.Spares.act ?_ | with_reducible refine State.clampActs_spared (by simp only [hP]) ?_
    | with_reducible refine State.modelTo_spared (by simp only [hP]) ?_
    | with_reducible refine State.showModel_spared (by simp only [hP]) ?_
    | with_reducible refine State.tripActs_spared (by simp only [hP]) ?_
    | with_reducible refine State.Spares.ite ?_ ?_ | split

def execIthRecomputeC : List Cell := State.clampActsC ++ State.setModelC ++ State.showModelC
theorem execIthRecompute_out {m : Fin 57} (hP : Cell.clear execIthRecomputeC o = true) : Out.Spares o s
    (execIthRecompute m s) := by
  simp only [execIthRecomputeC, Cell.clear_append_iff] at hP
  unfold execIthRecompute
  dsimp only
  repeat' first
    | with_reducible exact h | with_reducible exact Out.Spares.stay | with_reducible exact State.Spares.refl _ _ | with_reducible refine Out.Spares.act ?_ | with_reducible refine State.clampActs_spared (by simp only [hP]) ?_
    | with_reducible refine State.setModel_spared (by simp only [hP]) ?_
    | with_reducible refine State.showModel_spared (by simp only [hP]) ?_
    | with_reducible refine State.Spares.ite ?_ ?_ | split

def execClampReleaseC : List Cell := State.clampActsC ++ State.modelToC
theorem execClampRelease_out {m : Fin 57} (hP : Cell.clear execClampReleaseC o = true) : Out.Spares o s
    (execClampRelease m s) := by
  simp only [execClampReleaseC, Cell.clear_append_iff] at hP
  unfold execClampRelease
  dsimp only
  repeat' first
    | with_reducible exact h | with_reducible exact Out.Spares.stay | with_reducible exact State.Spares.refl _ _ | with_reducible refine Out.Spares.act ?_ | with_reducible refine State.clampActs_spared (by simp only [hP]) ?_
    | with_reducible refine State.modelTo_spared (by simp only [hP]) ?_

def execDieCapReleaseC : List Cell := State.enforceC ++ State.modelToC
theorem execDieCapRelease_out (hP : Cell.clear execDieCapReleaseC o = true) : Out.Spares o s (execDieCapRelease s) := by
  simp only [execDieCapReleaseC, Cell.clear_append_iff] at hP
  unfold execDieCapRelease
  dsimp only
  repeat' first
    | with_reducible exact h | with_reducible exact Out.Spares.stay | with_reducible exact State.Spares.refl _ _ | with_reducible refine Out.Spares.act ?_ | with_reducible refine State.enforce_spared (by simp only [hP]) ?_
    | with_reducible refine State.modelTo_spared (by simp only [hP]) ?_

def execPowerBalanceCheckC : List Cell :=
  [.lands, .landFld BUD_BAL_P_EXP, .landFld BUD_BAL_P_SLOT, .landFld LAND_FAULT_BALANCE,
    .landFld (BUD_STAT_BAL_MISMATCH.shift 0xC0)] ++ State.handUpC ++ State.holdPortsC
theorem execPowerBalanceCheck_out {b : Fin 6} {slot : Int} {ports : List Int}
    (hP : Cell.clear execPowerBalanceCheckC o = true) : Out.Spares o s (execPowerBalanceCheck b slot ports s) := by
  simp only [execPowerBalanceCheckC, Cell.clear_append_iff, Cell.clear_cons_iff, Cell.clear_nil_iff] at hP
  unfold execPowerBalanceCheck
  refine .act ?_
  extract_lets l x bad pins n t u
  have ht : State.Spares o s t := State.Spares.onLand (by simp only [hP])
    (fun l => .mk (Landing.landRegs_of_seen (.putB (by simp only [hP]) (.put (by simp only [hP]) (.put (by simp only [hP])
      (.refl _ _)))))) (.refl _ _)
  have hu : State.Spares o s u := State.holdPorts_spared (by simp only [hP])
    (State.Spares.onLand (by simp only [hP]) (fun l => .mk (Landing.landRegs_of_seen (.on (by simp only [hP]) (.refl _
      _)))) ht)
  exact .ite (.ite (State.handUp_spared (by simp only [hP]) hu) hu) ht

def execQidOnC : List Cell :=
  [.part .pantry, .reg CHG_STAT_QID_ON] ++ State.panMeasureC ++ State.beginBatteryC ++ State.refreshChgC
theorem execQidOn_out {m : PanMeas} (hP : Cell.clear execQidOnC o = true) : Out.Spares o s (execQidOn m s) := by
  simp only [execQidOnC, Cell.clear_append_iff, Cell.clear_cons_iff, Cell.clear_nil_iff] at hP
  unfold execQidOn
  dsimp only
  repeat' first
    | with_reducible exact h | with_reducible exact Out.Spares.stay | with_reducible exact State.Spares.refl _ _ | with_reducible refine panAct_out (by simp only [hP]) (fun _ h => ?_) | with_reducible refine State.beginBattery_spared (by simp only [hP]) ?_
    | with_reducible refine State.refreshChg_spared (by simp only [hP]) ?_
    | with_reducible refine State.Spares.onPan (by simp only [hP]) ?_
    | with_reducible refine State.Spares.on (by simp only [hP]) ?_ | with_reducible refine State.Spares.ite ?_ ?_

def execBatteryOperationBeginC : List Cell := State.panMeasureC ++ State.beginBatteryC
theorem execBatteryOperationBegin_out {m : PanMeas} (hP : Cell.clear execBatteryOperationBeginC o = true) : Out.Spares o s
    (execBatteryOperationBegin m s) := by
  simp only [execBatteryOperationBeginC, Cell.clear_append_iff] at hP
  unfold execBatteryOperationBegin
  repeat' first
    | with_reducible exact h | with_reducible exact Out.Spares.stay | with_reducible exact State.Spares.refl _ _ | with_reducible refine panAct_out (by simp only [hP]) (fun _ h => ?_) | with_reducible refine State.beginBattery_spared (by simp only [hP]) ?_
    | with_reducible refine State.Spares.ite ?_ ?_

def execBatLowC : List Cell :=
  [.reg PANTRY_EVENT_BAT_LOW, .reg CHG_STAT_BAT_LOW] ++ State.cutTimerC ++ State.enforceC
theorem execBatLow_out {mean : Nat} (hP : Cell.clear execBatLowC o = true) : Out.Spares o s (execBatLow mean s) := by
  simp only [execBatLowC, Cell.clear_append_iff, Cell.clear_cons_iff, Cell.clear_nil_iff] at hP
  unfold execBatLow
  dsimp only
  repeat' first
    | with_reducible exact h | with_reducible exact Out.Spares.stay | with_reducible exact State.Spares.refl _ _ | with_reducible refine Out.Spares.act ?_ | with_reducible refine State.cutTimer_spared (by simp only [hP]) ?_
    | with_reducible refine State.enforce_spared (by simp only [hP]) ?_
    | with_reducible refine State.Spares.on (by simp only [hP]) ?_
    | with_reducible refine State.Spares.off (by simp only [hP]) ?_ | with_reducible refine State.Spares.ite ?_ ?_

def execLbC : List Cell := loadC
theorem execLb_out {c : CoreId} {rd : Fin 16} {ra : Fin 16} {imm : BitVec 18} (hP : Cell.clear execLbC o = true) :
    Out.Spares o s (execLb c rd ra imm s) := by
  simp only [execLbC] at hP
  unfold execLb
  repeat' first
    | with_reducible exact h | with_reducible exact Out.Spares.stay | with_reducible exact State.Spares.refl _ _ | with_reducible refine loadAct_out (by simp only [hP])  

def execLbuC : List Cell := loadC
theorem execLbu_out {c : CoreId} {rd : Fin 16} {ra : Fin 16} {imm : BitVec 18} (hP : Cell.clear execLbuC o = true) :
    Out.Spares o s (execLbu c rd ra imm s) := by
  simp only [execLbuC] at hP
  unfold execLbu
  repeat' first
    | with_reducible exact h | with_reducible exact Out.Spares.stay | with_reducible exact State.Spares.refl _ _ | with_reducible refine loadAct_out (by simp only [hP])  

def execLhC : List Cell := loadC
theorem execLh_out {c : CoreId} {rd : Fin 16} {ra : Fin 16} {imm : BitVec 18} (hP : Cell.clear execLhC o = true) :
    Out.Spares o s (execLh c rd ra imm s) := by
  simp only [execLhC] at hP
  unfold execLh
  repeat' first
    | with_reducible exact h | with_reducible exact Out.Spares.stay | with_reducible exact State.Spares.refl _ _ | with_reducible refine loadAct_out (by simp only [hP])  

def execLhuC : List Cell := loadC
theorem execLhu_out {c : CoreId} {rd : Fin 16} {ra : Fin 16} {imm : BitVec 18} (hP : Cell.clear execLhuC o = true) :
    Out.Spares o s (execLhu c rd ra imm s) := by
  simp only [execLhuC] at hP
  unfold execLhu
  repeat' first
    | with_reducible exact h | with_reducible exact Out.Spares.stay | with_reducible exact State.Spares.refl _ _ | with_reducible refine loadAct_out (by simp only [hP])  

def execLwC : List Cell := loadC
theorem execLw_out {c : CoreId} {rd : Fin 16} {ra : Fin 16} {imm : BitVec 18} (hP : Cell.clear execLwC o = true) :
    Out.Spares o s (execLw c rd ra imm s) := by
  simp only [execLwC] at hP
  unfold execLw
  repeat' first
    | with_reducible exact h | with_reducible exact Out.Spares.stay | with_reducible exact State.Spares.refl _ _ | with_reducible refine loadAct_out (by simp only [hP])  

def execTmrCtrlWriteC : List Cell := State.writeTmrC
theorem execTmrCtrlWrite_out {k : TmrBlock} {n : Fin 8} {v : Word} (hP : Cell.clear execTmrCtrlWriteC o = true) :
    Out.Spares o s (execTmrCtrlWrite k n v s) := by
  simp only [execTmrCtrlWriteC] at hP
  unfold execTmrCtrlWrite
  repeat' first
    | with_reducible exact h | with_reducible exact Out.Spares.stay | with_reducible exact State.Spares.refl _ _ | with_reducible refine Out.Spares.act ?_ | with_reducible refine State.writeTmr_spared (by simp only [hP]) ?_

def execTmrCmpWriteC : List Cell := State.writeTmrC
theorem execTmrCmpWrite_out {k : TmrBlock} {n : Fin 8} {v : Word} (hP : Cell.clear execTmrCmpWriteC o = true) : Out.Spares
    o s (execTmrCmpWrite k n v s) := by
  simp only [execTmrCmpWriteC] at hP
  unfold execTmrCmpWrite
  repeat' first
    | with_reducible exact h | with_reducible exact Out.Spares.stay | with_reducible exact State.Spares.refl _ _ | with_reducible refine Out.Spares.act ?_ | with_reducible refine State.writeTmr_spared (by simp only [hP]) ?_

def execTmrCntWriteC : List Cell := State.writeTmrC
theorem execTmrCntWrite_out {k : TmrBlock} {n : Fin 8} {v : Word} (hP : Cell.clear execTmrCntWriteC o = true) : Out.Spares
    o s (execTmrCntWrite k n v s) := by
  simp only [execTmrCntWriteC] at hP
  unfold execTmrCntWrite
  repeat' first
    | with_reducible exact h | with_reducible exact Out.Spares.stay | with_reducible exact State.Spares.refl _ _ | with_reducible refine Out.Spares.act ?_ | with_reducible refine State.writeTmr_spared (by simp only [hP]) ?_

def execEnergyUpdateC : List Cell := [.rooms] ++ Room.addEnergyC
theorem execEnergyUpdate_out (hP : Cell.clear execEnergyUpdateC o = true) : Out.Spares o s (execEnergyUpdate s) := by
  simp only [execEnergyUpdateC, Cell.clear_append_iff, Cell.clear_cons_iff, Cell.clear_nil_iff] at hP
  unfold execEnergyUpdate
  repeat' first
    | with_reducible exact h | with_reducible exact Out.Spares.stay | with_reducible exact State.Spares.refl _ _ | with_reducible refine Out.Spares.act ?_ | with_reducible refine State.Spares.mapRooms (by simp only [hP]) (fun p r => ?_) ?_
    | with_reducible refine Room.addEnergy_seen (by simp only [hP]) ?_ | with_reducible refine State.Spares.ite ?_ ?_
    | with_reducible refine State.Spares.foldl (fun _ _ h => ?_) ?_ | with_reducible exact Room.Seen.refl _ _
    | with_reducible refine Room.Seen.ite ?_ ?_

def execHlReadC (n : Fin 2) : List Cell := State.arriveC n ++ State.hlReadC
theorem execHlRead_out {n : Fin 2} {line : List Byte} (hP : Cell.clear (execHlReadC n) o = true) : Out.Spares o s
    (execHlRead n line s) := by
  simp only [execHlReadC, Cell.clear_append_iff] at hP
  unfold execHlRead
  repeat' first
    | with_reducible exact h | with_reducible exact Out.Spares.stay | with_reducible exact State.Spares.refl _ _ | with_reducible refine hostAct_out (by simp only [hP]) (fun _ _ h => ?_) | with_reducible refine State.hlRead_spared (by simp only [hP]) ?_

def execSnapshotC (n : Fin 2) : List Cell := State.arriveC n ++ State.hlSnapshotC
theorem execSnapshot_out {n : Fin 2} {line : List Byte} (hP : Cell.clear (execSnapshotC n) o = true) : Out.Spares o s
    (execSnapshot n line s) := by
  simp only [execSnapshotC, Cell.clear_append_iff] at hP
  unfold execSnapshot
  repeat' first
    | with_reducible exact h | with_reducible exact Out.Spares.stay | with_reducible exact State.Spares.refl _ _ | with_reducible refine hostAct_out (by simp only [hP]) (fun _ _ h => ?_) | with_reducible refine State.hlSnapshot_spared (by simp only [hP]) ?_

def execTwAddressMatchWakeC : List Cell := [.part .tws, .reg WAKE_CAUSE_TW] ++ State.wakeByC
theorem execTwAddressMatchWake_out {n : Fin 4} {addr : BitVec 7} (hP : Cell.clear execTwAddressMatchWakeC o = true) :
    Out.Spares o s (execTwAddressMatchWake n addr s) := by
  simp only [execTwAddressMatchWakeC, Cell.clear_append_iff, Cell.clear_cons_iff, Cell.clear_nil_iff] at hP
  unfold execTwAddressMatchWake
  dsimp only
  repeat' first
    | with_reducible exact h | with_reducible exact Out.Spares.stay | with_reducible exact State.Spares.refl _ _ | with_reducible refine Out.Spares.act ?_ | with_reducible refine State.wakeBy_spared (fun _ h => ?_) (by simp only [hP]) ?_
    | with_reducible refine State.Spares.onTw (by simp only [hP]) ?_
    | with_reducible refine State.Spares.put (by simp only [hP]) ?_ | with_reducible refine State.Spares.ite ?_ ?_

def execHeartbeatSendC : List Cell := State.refreshStaleC ++ State.refreshKeeperC ++ State.setClaimsC
theorem execHeartbeatSend_out (hP : Cell.clear execHeartbeatSendC o = true) : Out.Spares o s (execHeartbeatSend s) := by
  simp only [execHeartbeatSendC, Cell.clear_append_iff] at hP
  unfold execHeartbeatSend
  repeat' first
    | with_reducible exact h | with_reducible exact Out.Spares.stay | with_reducible exact State.Spares.refl _ _ | with_reducible refine pairAct_out (by simp only [hP]) (fun _ h => ?_) | with_reducible refine State.refreshKeeper_spared (by simp only [hP]) ?_
    | with_reducible refine State.setClaims_spared (by simp only [hP]) ?_

def execKeyInChangeC : List Cell := [.reg KEY_STAT_KEY_IN] ++ State.refreshPeerC ++ State.refreshStaleC
theorem execKeyInChange_out {level : Bool} (hP : Cell.clear execKeyInChangeC o = true) : Out.Spares o s
    (execKeyInChange level s) := by
  simp only [execKeyInChangeC, Cell.clear_append_iff, Cell.clear_cons_iff, Cell.clear_nil_iff] at hP
  unfold execKeyInChange
  dsimp only
  repeat' first
    | with_reducible exact h | with_reducible exact Out.Spares.stay | with_reducible exact State.Spares.refl _ _ | with_reducible refine Out.Spares.act ?_ | with_reducible refine State.refreshPeer_spared (by simp only [hP]) ?_
    | with_reducible refine State.refreshStale_spared (by simp only [hP]) ?_
    | with_reducible refine State.Spares.putB (by simp only [hP]) ?_ | with_reducible refine State.Spares.ite ?_ ?_

def execTakeoverC : List Cell := [.part .pair] ++ State.refreshStaleC ++ State.claimC
theorem execTakeover_out (hP : Cell.clear execTakeoverC o = true) : Out.Spares o s (execTakeover s) := by
  simp only [execTakeoverC, Cell.clear_append_iff, Cell.clear_cons_iff, Cell.clear_nil_iff] at hP
  unfold execTakeover
  dsimp only
  repeat' first
    | with_reducible exact h | with_reducible exact Out.Spares.stay | with_reducible exact State.Spares.refl _ _ | with_reducible refine pairAct_out (by simp only [hP]) (fun _ h => ?_) | with_reducible refine State.claim_spared (by simp only [hP]) ?_
    | with_reducible refine State.Spares.onPair (by simp only [hP]) ?_

def execHeartbeatPulseC : List Cell := State.refreshStaleC ++ State.pulseC
theorem execHeartbeatPulse_out {widthNs : Nat} (hP : Cell.clear execHeartbeatPulseC o = true) : Out.Spares o s
    (execHeartbeatPulse widthNs s) := by
  simp only [execHeartbeatPulseC, Cell.clear_append_iff] at hP
  unfold execHeartbeatPulse
  repeat' first
    | with_reducible exact h | with_reducible exact Out.Spares.stay | with_reducible exact State.Spares.refl _ _ | with_reducible refine pairAct_out (by simp only [hP]) (fun _ h => ?_) | with_reducible refine State.pulse_spared (by simp only [hP]) ?_

def execContentionC : List Cell :=
  [.part .pair, .reg PAIR_EVENT_CONTENTION, .reg PAIR_STAT_YIELDED] ++ State.refreshStaleC ++ State.refreshConC ++
    State.withdrawC
theorem execContention_out {w : Fin 2} (hP : Cell.clear execContentionC o = true) : Out.Spares o s (execContention w s) := by
  simp only [execContentionC, Cell.clear_append_iff, Cell.clear_cons_iff, Cell.clear_nil_iff] at hP
  unfold execContention
  dsimp only
  repeat' first
    | with_reducible exact h | with_reducible exact Out.Spares.stay | with_reducible exact State.Spares.refl _ _ | with_reducible refine pairAct_out (by simp only [hP]) (fun _ h => ?_) | with_reducible refine State.refreshCon_spared (by simp only [hP]) ?_
    | with_reducible refine State.withdraw_spared (by simp only [hP]) ?_
    | with_reducible refine State.Spares.onPair (by simp only [hP]) ?_
    | with_reducible refine State.Spares.on (by simp only [hP]) ?_ | with_reducible refine State.Spares.ite ?_ ?_
    | split

def execPeerNoYieldC : List Cell :=
  [.reg PAIR_EVENT_PEER_NO_YIELD] ++ State.refreshStaleC ++ State.refreshConC ++ State.withdrawC
theorem execPeerNoYield_out {w : Fin 2} (hP : Cell.clear execPeerNoYieldC o = true) : Out.Spares o s (execPeerNoYield w s)
    := by
  simp only [execPeerNoYieldC, Cell.clear_append_iff, Cell.clear_cons_iff, Cell.clear_nil_iff] at hP
  unfold execPeerNoYield
  repeat' first
    | with_reducible exact h | with_reducible exact Out.Spares.stay | with_reducible exact State.Spares.refl _ _ | with_reducible refine pairAct_out (by simp only [hP]) (fun _ h => ?_) | with_reducible refine State.refreshCon_spared (by simp only [hP]) ?_
    | with_reducible refine State.withdraw_spared (by simp only [hP]) ?_
    | with_reducible refine State.Spares.on (by simp only [hP]) ?_

def execHbOutFaultC : List Cell :=
  [.part .pair, .reg PAIR_EVENT_HB_OUT_FAULT] ++ State.refreshStaleC ++ State.dropKeyC ++ State.refreshConC
theorem execHbOutFault_out (hP : Cell.clear execHbOutFaultC o = true) : Out.Spares o s (execHbOutFault s) := by
  simp only [execHbOutFaultC, Cell.clear_append_iff, Cell.clear_cons_iff, Cell.clear_nil_iff] at hP
  unfold execHbOutFault
  repeat' first
    | with_reducible exact h | with_reducible exact Out.Spares.stay | with_reducible exact State.Spares.refl _ _ | with_reducible refine pairAct_out (by simp only [hP]) (fun _ h => ?_) | with_reducible refine State.dropKey_spared (by simp only [hP]) ?_
    | with_reducible refine State.refreshCon_spared (by simp only [hP]) ?_
    | with_reducible refine State.Spares.onPair (by simp only [hP]) ?_
    | with_reducible refine State.Spares.on (by simp only [hP]) ?_

def execPeerLostC : List Cell :=
  [.reg PAIR_EVENT_PEER_LOST, .reg PAIR_STAT_PEER_ALIVE] ++ State.refreshStaleC ++ State.refreshPeerC
theorem execPeerLost_out (hP : Cell.clear execPeerLostC o = true) : Out.Spares o s (execPeerLost s) := by
  simp only [execPeerLostC, Cell.clear_append_iff, Cell.clear_cons_iff, Cell.clear_nil_iff] at hP
  unfold execPeerLost
  repeat' first
    | with_reducible exact h | with_reducible exact Out.Spares.stay | with_reducible exact State.Spares.refl _ _ | with_reducible refine pairAct_out (by simp only [hP]) (fun _ h => ?_) | with_reducible refine State.refreshPeer_spared (by simp only [hP]) ?_
    | with_reducible refine State.Spares.on (by simp only [hP]) ?_
    | with_reducible refine State.Spares.off (by simp only [hP]) ?_

def execPairResyncC : List Cell := State.refreshStaleC ++ State.markStaleC
theorem execPairResync_out (hP : Cell.clear execPairResyncC o = true) : Out.Spares o s (execPairResync s) := by
  simp only [execPairResyncC, Cell.clear_append_iff] at hP
  unfold execPairResync
  repeat' first
    | with_reducible exact h | with_reducible exact Out.Spares.stay | with_reducible exact State.Spares.refl _ _ | with_reducible refine pairAct_out (by simp only [hP]) (fun _ h => ?_) | with_reducible refine State.markStale_spared (by simp only [hP]) ?_

def execLinkUpC : List Cell :=
  [.part .pair, .reg PAIR_EVENT_LINK_UP, .reg PAIR_STAT_LINK_UP] ++ State.refreshStaleC ++ State.markStaleC
theorem execLinkUp_out (hP : Cell.clear execLinkUpC o = true) : Out.Spares o s (execLinkUp s) := by
  simp only [execLinkUpC, Cell.clear_append_iff, Cell.clear_cons_iff, Cell.clear_nil_iff] at hP
  unfold execLinkUp
  dsimp only
  repeat' first
    | with_reducible exact h | with_reducible exact Out.Spares.stay | with_reducible exact State.Spares.refl _ _ | with_reducible refine pairAct_out (by simp only [hP]) (fun _ h => ?_) | with_reducible refine State.markStale_spared (by simp only [hP]) ?_
    | with_reducible refine State.Spares.onPair (by simp only [hP]) ?_
    | with_reducible refine State.Spares.on (by simp only [hP]) ?_

def execLinkDownC : List Cell :=
  [.part .pair, .reg PAIR_EVENT_LINK_DOWN, .reg PAIR_STAT_LINK_UP] ++ State.refreshStaleC ++ State.markStaleC
theorem execLinkDown_out (hP : Cell.clear execLinkDownC o = true) : Out.Spares o s (execLinkDown s) := by
  simp only [execLinkDownC, Cell.clear_append_iff, Cell.clear_cons_iff, Cell.clear_nil_iff] at hP
  unfold execLinkDown
  dsimp only
  repeat' first
    | with_reducible exact h | with_reducible exact Out.Spares.stay | with_reducible exact State.Spares.refl _ _ | with_reducible refine pairAct_out (by simp only [hP]) (fun _ h => ?_) | with_reducible refine State.markStale_spared (by simp only [hP]) ?_
    | with_reducible refine State.Spares.onPair (by simp only [hP]) ?_
    | with_reducible refine State.Spares.on (by simp only [hP]) ?_
    | with_reducible refine State.Spares.off (by simp only [hP]) ?_

def execFrameSendC : List Cell := [.part .pair] ++ State.refreshStaleC ++ [.part .pair] ++ State.stairSendC
theorem execFrameSend_out (hP : Cell.clear execFrameSendC o = true) : Out.Spares o s (execFrameSend s) := by
  simp only [execFrameSendC, Cell.clear_append_iff, Cell.clear_cons_iff, Cell.clear_nil_iff] at hP
  unfold execFrameSend
  dsimp only
  repeat' first
    | with_reducible exact h | with_reducible exact Out.Spares.stay | with_reducible exact State.Spares.refl _ _ | with_reducible refine sendAct_out (by simp only [hP]) (by simp only [hP]) (fun _ h => ?_) | with_reducible refine State.stairSend_spared (by simp only [hP]) ?_
    | with_reducible refine State.Spares.onPair (by simp only [hP]) ?_ | with_reducible refine State.Spares.ite ?_ ?_
    | with_reducible refine State.Spares.foldl (fun _ _ h => ?_) ?_

def execRecordSendC : List Cell := State.refreshStaleC ++ [.part .pair] ++ State.sendRecordC ++ State.sendWritesC
theorem execRecordSend_out {type : Nat} {target : Nat} {bank : Nat} (hP : Cell.clear execRecordSendC o = true) :
    Out.Spares o s (execRecordSend type target bank s) := by
  simp only [execRecordSendC, Cell.clear_append_iff, Cell.clear_cons_iff, Cell.clear_nil_iff] at hP
  unfold execRecordSend
  repeat' first
    | with_reducible exact h | with_reducible exact Out.Spares.stay | with_reducible exact State.Spares.refl _ _ | with_reducible refine sendAct_out (by simp only [hP]) (by simp only [hP]) (fun _ h => ?_) | with_reducible refine State.sendRecord_spared (by simp only [hP]) ?_
    | with_reducible refine State.sendWrites_spared (by simp only [hP]) ?_
    | with_reducible refine State.Spares.ite ?_ ?_

def execRecordResendC : List Cell := State.refreshStaleC ++ [.part .pair] ++ State.sendRecordC
theorem execRecordResend_out {type : Nat} {target : Nat} {bank : Nat} (hP : Cell.clear execRecordResendC o = true) :
    Out.Spares o s (execRecordResend type target bank s) := by
  simp only [execRecordResendC, Cell.clear_append_iff, Cell.clear_cons_iff, Cell.clear_nil_iff] at hP
  unfold execRecordResend
  repeat' first
    | with_reducible exact h | with_reducible exact Out.Spares.stay | with_reducible exact State.Spares.refl _ _ | with_reducible refine sendAct_out (by simp only [hP]) (by simp only [hP]) (fun _ h => ?_) | with_reducible refine State.sendRecord_spared (by simp only [hP]) ?_

def execStatusSendC : List Cell := State.refreshStaleC ++ [.part .pair] ++ State.stairSendC
theorem execStatusSend_out (hP : Cell.clear execStatusSendC o = true) : Out.Spares o s (execStatusSend s) := by
  simp only [execStatusSendC, Cell.clear_append_iff, Cell.clear_cons_iff, Cell.clear_nil_iff] at hP
  unfold execStatusSend
  repeat' first
    | with_reducible exact h | with_reducible exact Out.Spares.stay | with_reducible exact State.Spares.refl _ _ | with_reducible refine sendAct_out (by simp only [hP]) (by simp only [hP]) (fun _ h => ?_) | with_reducible refine State.stairSend_spared (by simp only [hP]) ?_

def execDigestSendC : List Cell := [.part .pair] ++ State.refreshStaleC ++ [.part .pair] ++ State.stairSendC
theorem execDigestSend_out (hP : Cell.clear execDigestSendC o = true) : Out.Spares o s (execDigestSend s) := by
  simp only [execDigestSendC, Cell.clear_append_iff, Cell.clear_cons_iff, Cell.clear_nil_iff] at hP
  unfold execDigestSend
  repeat' first
    | with_reducible exact h | with_reducible exact Out.Spares.stay | with_reducible exact State.Spares.refl _ _ | with_reducible refine sendAct_out (by simp only [hP]) (by simp only [hP]) (fun _ h => ?_) | with_reducible refine State.stairSend_spared (by simp only [hP]) ?_
    | with_reducible refine State.Spares.onPair (by simp only [hP]) ?_

def execStatusLossC : List Cell := [.part .pair] ++ State.refreshStaleC
theorem execStatusLoss_out (hP : Cell.clear execStatusLossC o = true) : Out.Spares o s (execStatusLoss s) := by
  simp only [execStatusLossC, Cell.clear_append_iff, Cell.clear_cons_iff, Cell.clear_nil_iff] at hP
  unfold execStatusLoss
  repeat' first
    | with_reducible exact h | with_reducible exact Out.Spares.stay | with_reducible exact State.Spares.refl _ _ | with_reducible refine pairAct_out (by simp only [hP]) (fun _ h => ?_) | with_reducible refine State.Spares.onPair (by simp only [hP]) ?_

def execClaimStartAC : List Cell := State.refreshStaleC ++ State.claimStartC
theorem execClaimStartA_out (hP : Cell.clear execClaimStartAC o = true) : Out.Spares o s (execClaimStartA s) := by
  simp only [execClaimStartAC, Cell.clear_append_iff] at hP
  unfold execClaimStartA
  repeat' first
    | with_reducible exact h | with_reducible exact Out.Spares.stay | with_reducible exact State.Spares.refl _ _ | with_reducible refine pairAct_out (by simp only [hP]) (fun _ h => ?_) | with_reducible refine State.claimStart_spared (by simp only [hP]) ?_

def execClaimStartBC : List Cell := State.refreshStaleC ++ State.claimStartC
theorem execClaimStartB_out (hP : Cell.clear execClaimStartBC o = true) : Out.Spares o s (execClaimStartB s) := by
  simp only [execClaimStartBC, Cell.clear_append_iff] at hP
  unfold execClaimStartB
  repeat' first
    | with_reducible exact h | with_reducible exact Out.Spares.stay | with_reducible exact State.Spares.refl _ _ | with_reducible refine pairAct_out (by simp only [hP]) (fun _ h => ?_) | with_reducible refine State.claimStart_spared (by simp only [hP]) ?_

def execClaimGuardEndC : List Cell :=
  [.part .pair] ++ State.refreshStaleC ++ State.refreshKeeperC ++ State.takeWingsC
theorem execClaimGuardEnd_out (hP : Cell.clear execClaimGuardEndC o = true) : Out.Spares o s (execClaimGuardEnd s) := by
  simp only [execClaimGuardEndC, Cell.clear_append_iff, Cell.clear_cons_iff, Cell.clear_nil_iff] at hP
  unfold execClaimGuardEnd
  dsimp only
  repeat' first
    | with_reducible exact h | with_reducible exact Out.Spares.stay | with_reducible exact State.Spares.refl _ _ | with_reducible refine pairAct_out (by simp only [hP]) (fun _ h => ?_) | with_reducible refine State.refreshKeeper_spared (by simp only [hP]) ?_
    | with_reducible refine State.takeWings_spared (by simp only [hP]) ?_
    | with_reducible refine State.Spares.onPair (by simp only [hP]) ?_

def execReleaseC : List Cell :=
  [.reg PAIR_CTRL_RELEASE_W0, .reg PAIR_CTRL_RELEASE_W1] ++ State.refreshStaleC ++ State.checkReleaseC
theorem execRelease_out {w : Fin 2} (hP : Cell.clear execReleaseC o = true) : Out.Spares o s (execRelease w s) := by
  simp only [execReleaseC, Cell.clear_append_iff, Cell.clear_cons_iff, Cell.clear_nil_iff] at hP
  unfold execRelease
  refine pairAct_out (by simp only [hP]) fun _ h => State.checkRelease_spared (by simp only [hP]) (h.on ?_)
  split <;> simp only [hP]

def execKeyInStuckC : List Cell := [.reg PAIR_EVENT_KEY_IN_STUCK] ++ State.refreshStaleC
theorem execKeyInStuck_out (hP : Cell.clear execKeyInStuckC o = true) : Out.Spares o s (execKeyInStuck s) := by
  simp only [execKeyInStuckC, Cell.clear_append_iff, Cell.clear_cons_iff, Cell.clear_nil_iff] at hP
  unfold execKeyInStuck
  repeat' first
    | with_reducible exact h | with_reducible exact Out.Spares.stay | with_reducible exact State.Spares.refl _ _ | with_reducible refine pairAct_out (by simp only [hP]) (fun _ h => ?_) | with_reducible refine State.Spares.on (by simp only [hP]) ?_

def execDriveConflictC : List Cell :=
  [.reg PAIR_EVENT_DRIVE_CONFLICT] ++ State.refreshStaleC ++ State.enterSafeC FAULT_ESCALATED ++ State.slotRetryC
theorem execDriveConflict_out {site : Site} (hP : Cell.clear execDriveConflictC o = true) : Out.Spares o s
    (execDriveConflict site s) := by
  simp only [execDriveConflictC, Cell.clear_append_iff, Cell.clear_cons_iff, Cell.clear_nil_iff] at hP
  unfold execDriveConflict
  dsimp only
  repeat' first
    | with_reducible exact h | with_reducible exact Out.Spares.stay | with_reducible exact State.Spares.refl _ _ | with_reducible refine pairAct_out (by simp only [hP]) (fun _ h => ?_) | with_reducible refine State.enterSafe_spared (by simp only [hP]) ?_
    | with_reducible refine State.slotRetry_spared (by simp only [hP]) ?_
    | with_reducible refine State.Spares.on (by simp only [hP]) ?_ | with_reducible refine State.Spares.ite ?_ ?_
    | split

def execLaneLockC (k : Fin 2) : List Cell := [.part .pair, .reg (lockField k)] ++ State.refreshStaleC
theorem execLaneLock_out {k : Fin 2} (hP : Cell.clear (execLaneLockC k) o = true) : Out.Spares o s (execLaneLock k s) := by
  simp only [execLaneLockC, Cell.clear_append_iff, Cell.clear_cons_iff, Cell.clear_nil_iff] at hP
  unfold execLaneLock
  dsimp only
  repeat' first
    | with_reducible exact h | with_reducible exact Out.Spares.stay | with_reducible exact State.Spares.refl _ _ | with_reducible refine pairAct_out (by simp only [hP]) (fun _ h => ?_) | with_reducible refine State.Spares.onPair (by simp only [hP]) ?_
    | with_reducible refine State.Spares.on (by simp only [hP]) ?_

def execLaneLockLossC (k : Fin 2) : List Cell := State.refreshStaleC ++ State.laneLostC k
theorem execLaneLockLoss_out {k : Fin 2} {copy : Bool} (hP : Cell.clear (execLaneLockLossC k) o = true) : Out.Spares o s
    (execLaneLockLoss k copy s) := by
  simp only [execLaneLockLossC, Cell.clear_append_iff] at hP
  unfold execLaneLockLoss
  repeat' first
    | with_reducible exact h | with_reducible exact Out.Spares.stay | with_reducible exact State.Spares.refl _ _ | with_reducible refine pairAct_out (by simp only [hP]) (fun _ h => ?_) | with_reducible refine State.laneLost_spared (by simp only [hP]) ?_

def execStairResyncC : List Cell := [.part .pair] ++ stairActC
theorem execStairResync_out {k : Fin 2} {line : List (BitVec 10)} (hP : Cell.clear execStairResyncC o = true) : Out.Spares
    o s (execStairResync k line s) := by
  simp only [execStairResyncC, Cell.clear_append_iff, Cell.clear_cons_iff, Cell.clear_nil_iff] at hP
  unfold execStairResync
  dsimp only
  repeat' first
    | with_reducible exact h | with_reducible exact Out.Spares.stay | with_reducible exact State.Spares.refl _ _ | with_reducible refine stairAct_out (by simp only [hP]) (fun _ _ h => ?_) | with_reducible refine State.Spares.onPair (by simp only [hP]) ?_
    | with_reducible refine State.Spares.ite ?_ ?_

def execStairFrameC : List Cell :=
  [.reg PAIR_EVENT_KEY_STAIR_MISMATCH] ++ mirrorActC ++ State.resolveGapC ++ State.setTbC
theorem execStairFrame_out {k : Fin 2} {line : List (BitVec 10)} (hP : Cell.clear execStairFrameC o = true) : Out.Spares o
    s (execStairFrame k line s) := by
  simp only [execStairFrameC, Cell.clear_append_iff, Cell.clear_cons_iff, Cell.clear_nil_iff] at hP
  unfold execStairFrame
  dsimp only
  repeat' first
    | with_reducible exact h | with_reducible exact Out.Spares.stay | with_reducible exact State.Spares.refl _ _ | with_reducible refine mirrorAct_out (by simp only [hP]) (fun _ _ h => ?_) | with_reducible refine State.resolveGap_spared (by simp only [hP]) ?_
    | with_reducible refine State.setTb_spared (by simp only [hP]) ?_
    | with_reducible refine State.Spares.on (by simp only [hP]) ?_ | with_reducible refine State.Spares.ite ?_ ?_

def execStairLoopC : List Cell := mirrorActC ++ State.applyLoopC
theorem execStairLoop_out {k : Fin 2} {line : List (BitVec 10)} (hP : Cell.clear execStairLoopC o = true) : Out.Spares o s
    (execStairLoop k line s) := by
  simp only [execStairLoopC, Cell.clear_append_iff] at hP
  unfold execStairLoop
  repeat' first
    | with_reducible exact h | with_reducible exact Out.Spares.stay | with_reducible exact State.Spares.refl _ _ | with_reducible refine mirrorAct_out (by simp only [hP]) (fun _ _ h => ?_) | with_reducible refine State.applyLoop_spared (by simp only [hP]) ?_

def execStairRoomC : List Cell := mirrorActC ++ State.applyRoomRecC ++ State.gotRecordC
theorem execStairRoom_out {k : Fin 2} {line : List (BitVec 10)} (hP : Cell.clear execStairRoomC o = true) : Out.Spares o s
    (execStairRoom k line s) := by
  simp only [execStairRoomC, Cell.clear_append_iff] at hP
  unfold execStairRoom
  repeat' first
    | with_reducible exact h | with_reducible exact Out.Spares.stay | with_reducible exact State.Spares.refl _ _ | with_reducible refine mirrorAct_out (by simp only [hP]) (fun _ _ h => ?_) | with_reducible refine State.applyRoomRec_spared (by simp only [hP]) ?_
    | with_reducible refine State.gotRecord_spared (by simp only [hP]) ?_

def execStairSlotC : List Cell :=
  [.lands] ++ mirrorActC ++ Landing.applySlotC ++ State.gotRecordC ++ State.mirrorHoldC
theorem execStairSlot_out {k : Fin 2} {line : List (BitVec 10)} (hP : Cell.clear execStairSlotC o = true) : Out.Spares o s
    (execStairSlot k line s) := by
  simp only [execStairSlotC, Cell.clear_append_iff, Cell.clear_cons_iff, Cell.clear_nil_iff] at hP
  unfold execStairSlot
  dsimp only
  repeat' first
    | with_reducible exact h | with_reducible exact Out.Spares.stay | with_reducible exact State.Spares.refl _ _ | with_reducible refine mirrorAct_out (by simp only [hP]) (fun _ _ h => ?_) | with_reducible refine State.gotRecord_spared (by simp only [hP]) ?_
    | with_reducible refine State.mirrorHold_spared (by simp only [hP]) ?_
    | with_reducible refine State.Spares.onLand (by simp only [hP]) (fun l => ?_) ?_
    | with_reducible exact Landing.applySlot_seen (by simp only [hP])

def execStairTimerC : List Cell := mirrorActC ++ anyTmrC ++ State.gotRecordC
theorem execStairTimer_out {k : Fin 2} {line : List (BitVec 10)} (hP : Cell.clear execStairTimerC o = true) : Out.Spares o
    s (execStairTimer k line s) := by
  simp only [execStairTimerC, Cell.clear_append_iff] at hP
  unfold execStairTimer
  dsimp only
  repeat' first
    | with_reducible exact h | with_reducible exact Out.Spares.stay | with_reducible exact State.Spares.refl _ _ | with_reducible refine mirrorAct_out (by simp only [hP]) (fun _ _ h => ?_) | with_reducible refine State.gotRecord_spared (by simp only [hP]) ?_
    | with_reducible refine State.setTmrRegs_any (by simp only [hP]) ?_

def execStairHearthC : List Cell := mirrorActC ++ State.applyHearthC ++ State.gotRecordC
theorem execStairHearth_out {k : Fin 2} {line : List (BitVec 10)} (hP : Cell.clear execStairHearthC o = true) : Out.Spares
    o s (execStairHearth k line s) := by
  simp only [execStairHearthC, Cell.clear_append_iff] at hP
  unfold execStairHearth
  dsimp only
  repeat' first
    | with_reducible exact h | with_reducible exact Out.Spares.stay | with_reducible exact State.Spares.refl _ _ | with_reducible refine mirrorAct_out (by simp only [hP]) (fun _ _ h => ?_) | with_reducible refine State.applyHearth_spared (by simp only [hP]) ?_
    | with_reducible refine State.gotRecord_spared (by simp only [hP]) ?_
    | with_reducible refine State.Spares.ite ?_ ?_ | with_reducible refine State.Spares.foldl (fun _ _ h => ?_) ?_

def execStairEnergyC : List Cell := mirrorActC ++ State.applyEnergyC ++ State.gotRecordC
theorem execStairEnergy_out {k : Fin 2} {line : List (BitVec 10)} (hP : Cell.clear execStairEnergyC o = true) : Out.Spares
    o s (execStairEnergy k line s) := by
  simp only [execStairEnergyC, Cell.clear_append_iff] at hP
  unfold execStairEnergy
  repeat' first
    | with_reducible exact h | with_reducible exact Out.Spares.stay | with_reducible exact State.Spares.refl _ _ | with_reducible refine mirrorAct_out (by simp only [hP]) (fun _ _ h => ?_) | with_reducible refine State.applyEnergy_spared (by simp only [hP]) ?_
    | with_reducible refine State.gotRecord_spared (by simp only [hP]) ?_
    | with_reducible refine State.Spares.foldl (fun _ _ h => ?_) ?_

def execStairHallC : List Cell := mirrorActC ++ State.applyHallC ++ State.gotRecordC
theorem execStairHall_out {k : Fin 2} {line : List (BitVec 10)} (hP : Cell.clear execStairHallC o = true) : Out.Spares o s
    (execStairHall k line s) := by
  simp only [execStairHallC, Cell.clear_append_iff] at hP
  unfold execStairHall
  repeat' first
    | with_reducible exact h | with_reducible exact Out.Spares.stay | with_reducible exact State.Spares.refl _ _ | with_reducible refine mirrorAct_out (by simp only [hP]) (fun _ _ h => ?_) | with_reducible refine State.applyHall_spared (by simp only [hP]) ?_
    | with_reducible refine State.gotRecord_spared (by simp only [hP]) ?_

def execStairPantryC : List Cell := mirrorActC ++ State.applyPantryC ++ State.gotRecordC
theorem execStairPantry_out {k : Fin 2} {line : List (BitVec 10)} (hP : Cell.clear execStairPantryC o = true) : Out.Spares
    o s (execStairPantry k line s) := by
  simp only [execStairPantryC, Cell.clear_append_iff] at hP
  unfold execStairPantry
  repeat' first
    | with_reducible exact h | with_reducible exact Out.Spares.stay | with_reducible exact State.Spares.refl _ _ | with_reducible refine mirrorAct_out (by simp only [hP]) (fun _ _ h => ?_) | with_reducible refine State.applyPantry_spared (by simp only [hP]) ?_
    | with_reducible refine State.gotRecord_spared (by simp only [hP]) ?_

def execStairStatusC : List Cell := [.part .pair] ++ stairActC ++ State.checkReleaseC
theorem execStairStatus_out {k : Fin 2} {line : List (BitVec 10)} (hP : Cell.clear execStairStatusC o = true) : Out.Spares
    o s (execStairStatus k line s) := by
  simp only [execStairStatusC, Cell.clear_append_iff, Cell.clear_cons_iff, Cell.clear_nil_iff] at hP
  unfold execStairStatus
  repeat' first
    | with_reducible exact h | with_reducible exact Out.Spares.stay | with_reducible exact State.Spares.refl _ _ | with_reducible refine stairAct_out (by simp only [hP]) (fun _ _ h => ?_) | with_reducible refine State.checkRelease_spared (by simp only [hP]) ?_
    | with_reducible refine State.Spares.onPair (by simp only [hP]) ?_

def execStairDigestC : List Cell :=
  [.part .pair, .reg PEER_FW_VERSION, .reg PAIR_STAT_DIGEST_MISMATCH, .reg PAIR_STAT_DIGEST_MATCH,
    .reg PAIR_EVENT_DIGEST_MISMATCH] ++ stairActC ++ State.markStaleC
theorem execStairDigest_out {k : Fin 2} {line : List (BitVec 10)} (hP : Cell.clear execStairDigestC o = true) : Out.Spares
    o s (execStairDigest k line s) := by
  simp only [execStairDigestC, Cell.clear_append_iff, Cell.clear_cons_iff, Cell.clear_nil_iff] at hP
  unfold execStairDigest
  dsimp only
  repeat' first
    | with_reducible exact h | with_reducible exact Out.Spares.stay | with_reducible exact State.Spares.refl _ _ | with_reducible refine stairAct_out (by simp only [hP]) (fun _ _ h => ?_) | with_reducible refine State.markStale_spared (by simp only [hP]) ?_
    | with_reducible refine State.Spares.onPair (by simp only [hP]) ?_
    | with_reducible refine State.Spares.put (by simp only [hP]) ?_
    | with_reducible refine State.Spares.off (by simp only [hP]) ?_
    | with_reducible refine State.Spares.on (by simp only [hP]) ?_ | with_reducible refine State.Spares.ite ?_ ?_

def execResyncSendC : List Cell :=
  [.part .pair, .reg STAIR_ERR_RESYNC] ++ State.refreshStaleC ++ [.part .pair] ++ State.stairSendC
theorem execResyncSend_out (hP : Cell.clear execResyncSendC o = true) : Out.Spares o s (execResyncSend s) := by
  simp only [execResyncSendC, Cell.clear_append_iff, Cell.clear_cons_iff, Cell.clear_nil_iff] at hP
  unfold execResyncSend
  dsimp only
  repeat' first
    | with_reducible exact h | with_reducible exact Out.Spares.stay | with_reducible exact State.Spares.refl _ _ | with_reducible refine sendAct_out (by simp only [hP]) (by simp only [hP]) (fun _ h => ?_) | with_reducible refine State.stairSend_spared (by simp only [hP]) ?_
    | with_reducible refine State.Spares.onPair (by simp only [hP]) ?_
    | with_reducible refine State.Spares.put (by simp only [hP]) ?_

def execAtticLockC : List Cell := [.part .rerr] ++ State.setLocksC
theorem execAtticLock_out {v : Word} (hP : Cell.clear execAtticLockC o = true) : Out.Spares o s (execAtticLock v s) := by
  simp only [execAtticLockC, Cell.clear_append_iff, Cell.clear_cons_iff, Cell.clear_nil_iff] at hP
  unfold execAtticLock
  repeat' first
    | with_reducible exact h | with_reducible exact Out.Spares.stay | with_reducible exact State.Spares.refl _ _ | with_reducible refine Out.Spares.act ?_ | with_reducible refine State.setLocks_spared (by simp only [hP]) ?_
    | with_reducible refine State.Spares.rerr (by simp only [hP]) ?_

def execConfirmedC : List Cell :=
  [.reg UPD_STAT_TRIAL] ++ State.advanceKindsC ++ State.recordUseC ++ State.unstageKindsC ++ State.updateUseC
theorem execConfirmed_out {recOk : Bool} {vpp : Bool} {vdd : Bool} (hP : Cell.clear execConfirmedC o = true) : Out.Spares
    o s (execConfirmed recOk vpp vdd s) := by
  simp only [execConfirmedC, Cell.clear_append_iff, Cell.clear_cons_iff, Cell.clear_nil_iff] at hP
  unfold execConfirmed
  dsimp only
  repeat' first
    | with_reducible exact h | with_reducible exact Out.Spares.stay | with_reducible exact State.Spares.refl _ _ | with_reducible refine Out.Spares.act ?_ | with_reducible refine State.advanceKinds_spared (by simp only [hP]) ?_
    | with_reducible refine State.recordUse_spared (by simp only [hP]) ?_
    | with_reducible refine State.unstageKinds_spared (by simp only [hP]) ?_
    | with_reducible refine State.updateUse_spared (by simp only [hP]) ?_
    | with_reducible refine State.Spares.off (by simp only [hP]) ?_ | with_reducible refine State.Spares.ite ?_ ?_

def execHbMissC : List Cell := [.part .hbMissed, .reg HB_STAT_MISS] ++ State.dropKeyC
theorem execHbMiss_out (hP : Cell.clear execHbMissC o = true) : Out.Spares o s (execHbMiss s) := by
  simp only [execHbMissC, Cell.clear_append_iff, Cell.clear_cons_iff, Cell.clear_nil_iff] at hP
  unfold execHbMiss
  dsimp only
  repeat' first
    | with_reducible exact h | with_reducible exact Out.Spares.stay | with_reducible exact State.Spares.refl _ _ | with_reducible refine Out.Spares.act ?_ | with_reducible refine State.dropKey_spared (by simp only [hP]) ?_
    | with_reducible refine State.Spares.on (by simp only [hP]) ?_ | with_reducible refine State.Spares.ite ?_ ?_
    | split | with_reducible refine State.Spares.hbMissed (by simp only [hP]) ?_

def execHoldEndC : List Cell := [.rooms, .lands] ++ Room.senseHoldOffC ++ State.refreshHoldC
theorem execHoldEnd_out {site : Site} (hP : Cell.clear execHoldEndC o = true) : Out.Spares o s (execHoldEnd site s) := by
  simp only [execHoldEndC, Cell.clear_append_iff, Cell.clear_cons_iff, Cell.clear_nil_iff] at hP
  unfold execHoldEnd
  dsimp only
  repeat' first
    | with_reducible exact h | with_reducible exact Out.Spares.stay | with_reducible exact State.Spares.refl _ _ | with_reducible refine Out.Spares.act ?_ | with_reducible refine State.refreshHold_spared (by simp only [hP]) ?_
    | with_reducible refine State.Spares.onLand (by simp only [hP]) (fun l => ?_) ?_
    | with_reducible refine State.Spares.onRoomE (Cell.roomAt_of_rooms (by simp only [hP]) _) (fun e r => ?_) ?_
    | with_reducible refine Room.senseHoldOff_seen (by simp only [hP]) ?_
    | with_reducible refine State.Spares.ite ?_ ?_ | with_reducible refine State.Spares.foldl (fun _ _ h => ?_) ?_
    | with_reducible exact Room.Seen.refl _ _ | with_reducible refine Room.Seen.ite ?_ ?_
    | with_reducible refine Room.Seen.foldl (fun _ _ hr => ?_) ?_ | with_reducible exact Landing.Seen.refl _ _
    | with_reducible refine Landing.Seen.ite ?_ ?_ | split | with_reducible refine Landing.Seen.mk ?_
    | with_reducible refine Landing.landRegs_of_seen ?_

end

end Sys2Proof.Machine

namespace Sys2Proof.Machine

set_option Elab.async false

/-! ## The commands that run a program of a link or of a two-wire port -/

theorem List.getD_map_zipIdx {α : Type} (l : List α) (d : α) (n : Nat) (f : α → α) :
    (l.zipIdx.map fun x => if x.2 = n then f x.1 else x.1).getD n d = f (l.getD n d) ∨
      (l.zipIdx.map fun x => if x.2 = n then f x.1 else x.1).getD n d = d := by
  rw [List.getD_eq_getElem?_getD, List.getElem?_map, List.getElem?_zipIdx, List.getD_eq_getElem?_getD]
  cases l[n]? with
  | none => exact .inr rfl
  | some x =>
    refine .inl ?_
    simp

/-- A change of a link is seen at it, unless the state has no such link. -/
theorem State.link_onLink (s : State) (n : Fin 2) (f : Link → Link) :
    (s.onLink n f).link n = f (s.link n) ∨ (s.onLink n f).link n = .reset := List.getD_map_zipIdx ..
theorem State.twPort_onTw (s : State) (n : Fin 4) (f : TwPort → TwPort) :
    (s.onTw n f).twPort n = f (s.twPort n) ∨ (s.onTw n f).twPort n = .reset := List.getD_map_zipIdx ..

/-- What the link runs, if anything, is a BULK_READ. -/
def State.BulkReads (n : Fin 2) (s : State) : Prop := ∀ p, (s.link n).prog = some p → p.type = 4

theorem State.bulkReads_onLink {s : State} {n : Fin 2} {p : Prog} (hp : p.type = 4) :
    (s.onLink n fun x => { x with prog := some p }).BulkReads n := fun q hq => by
  rcases State.link_onLink s n fun x => { x with prog := some p } with hl | hl <;> rw [hl] at hq
  · exact Option.some.inj hq ▸ hp
  · exact absurd hq.symm (Option.some_ne_none q)

section
variable {o : Look} {s0 s : State}

theorem State.bulkReadOne_spared {n : Fin 2} {p : Prog} (hP : Cell.clear State.extReadC o = true) (h : State.Spares o s0 s) :
    State.Spares o s0 (State.bulkReadOne n p s).2.2 := by
  have hread {a : Nat} := State.extRead_spared (r := .hl n) (addr := a) hP h
  unfold State.bulkReadOne
  dsimp only
  split
  · exact hread
  · exact hread
theorem State.type_bulkReadOne (n : Fin 2) (p : Prog) (s : State) : (State.bulkReadOne n p s).2.1.type = p.type := by
  unfold State.bulkReadOne
  dsimp only
  split <;> rfl
theorem State.bulkReadEnd_spared {n : Fin 2} {code : Nat} {p : Prog} (hp : p.type = 4) (h : State.Spares o s0 s) :
    State.Spares o s0 (State.progEnd n code p s) := by
  have hend : State.Spares o s0 (s.onLink n fun k => { k with prog := none }) := h.onLink
  unfold State.progEnd
  dsimp only
  rw [if_neg (by rw [hp]; decide), if_pos hp]
  exact State.finish_spared hend
theorem State.bulkReadRun_spared {n : Fin 2} (hP : Cell.clear State.extReadC o = true) (k : Nat) (hs : s.BulkReads n)
    (h : State.Spares o s0 s) : State.Spares o s0 (State.progRun n k s) := by
  induction k generalizing s with
  | zero => exact h
  | succ k ih =>
    unfold State.progRun
    split
    · exact h
    · next p hp =>
      have htype := hs p hp
      have hone : State.progOne n p s = State.bulkReadOne n p s := by
        unfold State.progOne
        rw [if_neg (by rw [htype]; decide), if_pos htype]
      have hnext := State.bulkReadOne_spared (n := n) (p := p) hP h
      have hkept := (State.type_bulkReadOne n p s).trans htype
      dsimp only
      rw [hone]
      split
      · exact ih (State.bulkReads_onLink hkept) hnext.onLink
      · exact State.bulkReadEnd_spared hkept hnext

def execBulkReadC (n : Fin 2) : List Cell := State.arriveC n ++ State.judgedC ++ State.extReadC
theorem execBulkRead_out {n : Fin 2} {line : Option (List Byte)} {k : Nat} (hP : Cell.clear (execBulkReadC n) o = true) :
    Out.Spares o s (execBulkRead n line k s) := by
  simp only [execBulkReadC, Cell.clear_append_iff] at hP
  unfold execBulkRead progAct
  cases line with
  | some l =>
    refine hostAct_out (by simp only [hP]) fun f t h => ?_
    unfold State.hlBulkRead
    refine State.judged_spared (fun u hu => ?_) (by simp only [hP]) h
    exact .ite (State.finish_spared hu) (State.bulkReadRun_spared (by simp only [hP]) k (State.bulkReads_onLink rfl)
      hu.onLink)
  | none =>
    intro t ht
    cases hc : (s.serving && s.progs n 4) with
    | false =>
      dsimp only at ht
      rw [hc] at ht
      exact Out.Spares.stay t ht
    | true =>
      refine Out.Spares.act (f := fun s => s.progRun n k)
        (State.bulkReadRun_spared (by simp only [hP]) k (fun p hp => ?_) (.refl _ _)) t ht
      have hprogs := (Bool.and_eq_true_iff.1 hc).2
      unfold State.progs at hprogs
      rw [hp] at hprogs
      exact of_decide_eq_true hprogs

/-- What the two-wire port runs, if anything, is a read, and no transaction waits for its end. -/
def TwPort.Reads (x : TwPort) : Prop := (∀ p, x.prog = some p → p.read = true) ∧ x.wait = none

theorem TwPort.Reads.onTw {n : Fin 4} {f : TwPort → TwPort} (h : (f (s.twPort n)).Reads) : ((s.onTw n f).twPort n).Reads := by
  rcases State.twPort_onTw s n f with hl | hl <;> rw [hl]
  · exact h
  · exact ⟨fun p hp => absurd hp.symm (Option.some_ne_none p), rfl⟩
theorem TwPort.Reads.congr {x y : TwPort} (h : x.Reads) (hprog : y.prog = x.prog) (hwait : y.wait = x.wait) : y.Reads :=
  ⟨fun p hp => h.1 p (hprog ▸ hp), hwait.trans h.2⟩

theorem TwPort.Reads.twSend {s : State} {n : Fin 4} {pre data : List Byte} {code : Nat} (h : (s.twPort n).Reads) :
    ((s.twSend n pre data code).twPort n).Reads := by
  unfold State.twSend
  exact TwPort.Reads.onTw (s := s.put _ _) (h.congr rfl rfl)
theorem TwPort.Reads.twStart {s : State} {n : Fin 4} {p : TwProg} (h : (s.twPort n).Reads) (hp : p.read = true) :
    ((s.twStart n p).twPort n).Reads := by
  unfold State.twStart
  exact TwPort.Reads.onTw ⟨fun q hq => Option.some.inj hq ▸ hp, h.2⟩
theorem TwPort.Reads.twSeen {s : State} {n : Fin 4} {addr : Nat} (h : (s.twPort n).Reads) :
    ((s.twSeen n addr).twPort n).Reads := by
  unfold State.twSeen
  exact TwPort.Reads.onTw (s := s.put _ _) (h.congr rfl rfl)

/-- A read of the bus leaves the two-wire ports. -/
theorem State.twPort_extRead (s : State) (r : Req) (a : Nat) (n : Fin 4) : (s.extRead r a).2.2.twPort n = s.twPort n := by
  have htws : (s.extRead r a).2.2.tws = s.tws := (State.extRead_spared (o := .part .tws) (by decide +kernel) (.refl _ s)).same
  unfold State.twPort
  rw [htws]

/-- One read of the program of a port: the program after it, which still reads, and the state. -/
theorem State.twOne_reads {n : Fin 4} {p : TwProg} (hp : p.read = true) (s : State) :
    (s.twOne n p).1.read = true ∧ (s.twOne n p).2 = (s.extRead (.tw n) (p.addr + 4 * p.done)).2.2 := by
  unfold State.twOne
  rw [if_pos hp]
  exact ⟨hp, rfl⟩

def twReadRunC (n : Fin 4) : List Cell := State.extReadC ++ State.twSendC n
theorem State.twReadRun_spared {n : Fin 4} (hP : Cell.clear (twReadRunC n) o = true) (k : Nat) (hs : (s.twPort n).Reads)
    (h : State.Spares o s0 s) : State.Spares o s0 (State.twRun n k s) := by
  obtain ⟨hread, hsend⟩ := Cell.clear_append_iff.1 hP
  have htws := (Cell.clear_cons_iff.1 hsend).1
  induction k generalizing s with
  | zero => exact h
  | succ k ih =>
    unfold State.twRun
    split
    · exact h
    · next p hp =>
      obtain ⟨hstill, hnext⟩ := State.twOne_reads (n := n) (hs.1 p hp) s
      have hport := State.twPort_extRead s (.tw n) (p.addr + 4 * p.done) n
      have hspared := State.extRead_spared (r := .tw n) (addr := p.addr + 4 * p.done) hread h
      dsimp only
      rw [hnext]
      split
      · exact ih (TwPort.Reads.onTw ⟨fun q hq => Option.some.inj hq ▸ hstill, hport ▸ hs.2⟩) (hspared.onTw htws)
      · have hend : ((s.extRead (.tw n) (p.addr + 4 * p.done)).2.2.twEnd n (s.twOne n p).1) =
            ((s.extRead (.tw n) (p.addr + 4 * p.done)).2.2.onTw n fun t => { t with prog := none, wait := none }).twSend n
              (s.twOne n p).1.pre ((s.twOne n p).1.words.flatMap wordBytes) (s.twOne n p).1.code := by
          unfold State.twEnd
          dsimp only
          rw [hport, hs.2, if_pos hstill]
        rw [hend]
        refine ih ?_ (State.twSend_spared hsend (hspared.onTw htws))
        have hidle : ((s.extRead (.tw n) (p.addr + 4 * p.done)).2.2.onTw n fun t => { t with prog := none, wait := none
          }).twPort n
            |>.Reads := TwPort.Reads.onTw ⟨fun q hq => absurd hq.symm (Option.some_ne_none q), rfl⟩
        exact hidle.twSend

def execTwReadTransactionC (n : Fin 4) : List Cell := [.part .tws] ++ State.twBeginC n ++ twReadRunC n
theorem execTwReadTransaction_out {n : Fin 4} {addr : BitVec 7} {bytes : List Byte} {k : Nat}
    (hP : Cell.clear (execTwReadTransactionC n) o = true) : Out.Spares o s
      (execTwReadTransaction n (some (addr, bytes)) k s) := by
  simp only [execTwReadTransactionC, Cell.clear_append_iff, Cell.clear_cons_iff] at hP
  unfold execTwReadTransaction twAct
  intro t ht
  cases hc : (s.twAnswers n addr.toNat && !s.twBusy n true && (s.twPort n).wait.isNone) with
  | false =>
    dsimp only at ht
    rw [hc] at ht
    exact Out.Spares.stay t ht
  | true =>
    simp only [Bool.and_eq_true, Bool.not_eq_true', Option.isNone_iff_eq_none] at hc
    obtain ⟨⟨-, hidle⟩, hwait⟩ := hc
    refine Out.Spares.act (f := fun s => if s.twBusy n false then s.onTw n fun t => { t with wait := some (true,
      addr.toNat, bytes) }
      else (s.twBegin n true addr.toNat bytes).twRun n k) ?_ t ht
    split
    · exact State.Spares.onTw (by simp only [hP]) (.refl _ _)
    · next hfree =>
      have hprog : (s.twPort n).prog = none := by
        cases hp : (s.twPort n).prog with
        | none => rfl
        | some p =>
          simp only [State.twBusy, hp, decide_eq_false_iff_not, decide_eq_true_eq] at hidle hfree
          cases hr : p.read
          · exact absurd hr hfree
          · exact absurd hr hidle
      have hreads : (s.twPort n).Reads := ⟨fun p hp => absurd (hprog.symm.trans hp).symm (Option.some_ne_none p), hwait⟩
      refine State.twReadRun_spared (by simp only [hP]) k ?_ (State.twBegin_spared (by simp only [hP]) (.refl _ _))
      unfold State.twBegin
      split
      · exact hreads
      · rw [if_pos rfl]
        unfold State.twRead
        dsimp only
        split
        · exact hreads.twSeen.twSend
        · exact hreads.twSeen.twStart rfl

end

end Sys2Proof.Machine

namespace Sys2Proof.Machine

set_option Elab.async false

section
variable {o : Look} {s0 s : State}

/-! ## The commands whose reach their operand bounds, a capture and a tick -/

def execModeApplyC (p : Fin 48) : List Cell := .roomAt p :: Room.applyModeC ++ State.refreshAcksC
theorem execModeApply_out {p : Fin 48} (hP : Cell.clear (execModeApplyC p) o = true) : Out.Spares o s (execModeApply p s)
    := by
  simp only [execModeApplyC, Cell.clear_append_iff, Cell.clear_cons_iff] at hP
  unfold execModeApply
  exact .act (State.refreshAcks_spared (by simp only [hP]) (State.Spares.onRoomE (by simp only [hP])
    (fun _ _ => Room.applyMode_seen (by simp only [hP]) (.refl _ _)) (.refl _ _)))

def execForcedModeC (b : Fin 6) : List Cell :=
  (portsOf b).map .roomAt ++ (Room.applyModeC ++ Room.faultC FAULT_FORCED_MODE ++ Room.fallBackC ++ State.refreshAcksC)
theorem execForcedMode_out {b : Fin 6} (hP : Cell.clear (execForcedModeC b) o = true) : Out.Spares o s
    (execForcedMode b s) := by
  obtain ⟨hports, hP⟩ := Cell.clear_append_iff.1 hP
  simp only [Cell.clear_append_iff] at hP
  unfold execForcedMode
  refine .act (State.refreshAcks_spared (by simp only [hP]) ?_)
  refine List.foldlRecOn (motive := State.Spares o s) _ _ (.refl _ _) fun t ht p hp => ?_
  have hport : (Cell.roomAt p).misses o = true := List.all_eq_true.1 hports _ (List.mem_map.2 ⟨p, hp, rfl⟩)
  have happly (e : Env) (r : Room) : Room.Seen o r
      (((r.applyMode e (t.fld HALL_MODE_MODE) (t.fld HALL_MODE_EPOCH)).fault FAULT_FORCED_MODE).fallBack e) :=
    Room.fallBack_seen (by simp only [hP])
      (Room.fault_seen (by simp only [hP]) (Room.applyMode_seen (by simp only [hP]) (.refl _ _)))
  exact .ite (State.Spares.onRoomE hport happly ht) ht

/-- Where the timers of a block are. -/
def TmrBlockC : TmrBlock → List Cell
  | .room p => [.roomAt p, .roomRegs]
  | .land _ => [.lands, .landRegs]
theorem State.setTmrRegs_at {k : TmrBlock} {m : Regs} (hP : Cell.clear (TmrBlockC k) o = true) (h : State.Spares o s0 s) :
    State.Spares o s0 (s.setTmrRegs k m) := by
  cases k with
  | room p =>
    obtain ⟨hroom, hregs⟩ := Cell.clear_cons_iff.1 hP
    exact h.onRoom hroom fun _ =>
      .anyRegs (p := []) (Cell.clear_cons_iff.1 hregs).1 rfl (fun _ _ => Room.Spares.regs (.refl _ _)) (.refl _ _)
  | land b =>
    obtain ⟨hland, hregs⟩ := Cell.clear_cons_iff.1 hP
    unfold State.setTmrRegs
    exact h.onLandAny hland (Cell.clear_cons_iff.1 hregs).1
theorem execTimerFire_out {k : TmrBlock} {n : Fin 8} (hP : Cell.clear (TmrBlockC k) o = true) :
    Out.Spares o s (execTimerFire k n s) := by
  unfold execTimerFire
  exact .act (State.setTmrRegs_at hP (.refl _ _))

/-! ### A capture -/

def State.captureC : List Cell := [.part .snap, .regs, .rooms, .roomRegs, .lands, .landRegs, .wings, .wingRegs]
theorem State.capture_spared {src : Nat} (hP : Cell.clear State.captureC o = true) (h : State.Spares o s0 s) :
    State.Spares o s0 (s.capture src) := by
  simp only [State.captureC, Cell.clear_cons_iff] at hP
  obtain ⟨hsnap, hregs, hrooms, hroomRegs, hlands, hlandRegs, hwings, hwingRegs, -⟩ := hP
  refine h.trans ⟨?_⟩
  have hroom (p : Fin 48) : (s.capture src).room p = if s.pl.whole p.val then
      { s.room p with regs := Store.set (copyViews (s.roomView p) roomShadows (s.room p).regs) 0x3D8 (BitVec.ofNat 32
        (s.fld SNAP_EPOCH_EPOCH + 1)) }
      else s.room p := by
    simp [State.capture, State.room]
  cases o with
  | part k =>
    cases k with
    | snap => exact absurd hsnap (by decide)
    | _ => rfl
  | reg f => cases hregs
  | room p => cases hrooms
  | roomFld p f => cases hroomRegs
  | roomPart p k =>
    show RoomPart.same (s.room p) ((s.capture src).room p) k
    rw [hroom p]
    split
    · cases k <;> rfl
    · cases k <;> rfl
  | land b => cases hlands
  | landFld b f => cases hlandRegs
  | wing w => cases hwings
  | wingFld w f => cases hwingRegs

def execCaptureC : List Cell := .reg SNAP_CTRL_MISSED :: State.captureC
theorem execCapture_out (hP : Cell.clear execCaptureC o = true) : Out.Spares o s (execCapture s) := by
  obtain ⟨hmissed, hcap⟩ := Cell.clear_cons_iff.1 hP
  have hsnap := (Cell.clear_cons_iff.1 hcap).1
  have hmiss : State.Spares o s (s.on SNAP_CTRL_MISSED) := .on hmissed (.refl _ _)
  unfold execCapture
  refine .act (.ite ?_ (State.snapReplies_spared (State.capture_spared hcap (.refl _ _))))
  exact State.snapReplies_spared (hmiss.snap (x := { s.snap with cap := none }) hsnap)

/-! ### A tick -/

/-- Nothing waits in the receive buffer of a host link. -/
def State.Quiet (n : Fin 2) (s : State) : Prop := (s.link n).rx = []

theorem State.Quiet.congr {n : Fin 2} {s t : State} (h : s.Quiet n) (hl : t.links = s.links) : t.Quiet n := by
  unfold State.Quiet State.link
  rw [hl]
  exact h
theorem State.Quiet.onLink {m n : Fin 2} {f : Link → Link} (h : s.Quiet m) (hf : ∀ x : Link, (f x).rx = x.rx) :
    (s.onLink n f).Quiet m := by
  unfold State.Quiet State.link State.onLink at *
  rw [List.getD_eq_getElem?_getD] at h ⊢
  rw [List.getElem?_map, List.getElem?_zipIdx]
  cases hx : s.links[m.val]? with
  | none => rfl
  | some x =>
    rw [hx] at h
    show (if _ then _ else _ : Link).rx = []
    split
    · exact (hf x).trans h
    · exact h

theorem State.links_tbTick (s : State) : s.tbTick.links = s.links := by
  unfold State.tbTick
  split <;> rfl
theorem State.links_tmrTick (s : State) (k : TmrBlock) : (s.tmrTick k).links = s.links := by
  unfold State.tmrTick
  split
  · rfl
  · cases k <;> rfl
theorem State.links_tmrTicks (s : State) : s.tmrTicks.links = s.links := by
  have hstep {α : Type} (f : α → TmrBlock) (l : List α) (t : State) : (l.foldl (fun s x => s.tmrTick (f x)) t).links =
    t.links :=
    List.foldlRecOn (motive := fun u : State => u.links = t.links) l _ rfl fun u hu x _ =>
      (State.links_tmrTick u (f x)).trans hu
  exact (hstep TmrBlock.land _ _).trans (hstep TmrBlock.room _ _)
theorem State.links_runTick (s : State) : s.runTick.links = s.links := by
  have hpan (t : State) : t.panTick.links = t.links := by
    unfold State.panTick
    split_ifs <;> rfl
  simp only [State.runTick, State.confTick, State.onPorch_links, hpan, State.mapLands_links, State.mapRooms_links,
    State.links_tmrTicks]
theorem State.links_jnlTick (s : State) : s.jnlTick.links = s.links := by
  have hdue (t : State) : t.jDue.links = t.links := by
    unfold State.jDue
    split <;> rfl
  unfold State.jnlTick State.jPage
  split_ifs
  · rfl
  · dsimp only
    split
    · rfl
    · exact (hdue _).trans rfl
  · rfl

theorem Link.rx_sent (now : Nat) (x : Link) : (Link.sent now x).rx = x.rx := by
  unfold Link.sent
  split
  · rfl
  · dsimp only
    split <;> rfl
theorem Link.rx_txTick (now : Nat) (x : Link) : (Link.txTick now x).rx = x.rx := by
  unfold Link.txTick
  split_ifs
  · rfl
  · rfl
  · exact Link.rx_sent now _
theorem Link.rx_sendEvent (div : Nat) (x : Link) : (Link.sendEvent div x).rx = x.rx := by
  unfold Link.sendEvent
  split <;> rfl
theorem Link.rx_start (div : Nat) (events : Bool) (x : Link) : (Link.start div events x).rx = x.rx := by
  unfold Link.start
  dsimp only
  split
  · rfl
  · split
    · split
      · exact Link.rx_sendEvent div x
      · rfl
    · split
      · exact Link.rx_sendEvent div x
      · rfl

/-- What a link sends in a tick. -/
def State.linkSends (n : Fin 2) (s : State) : State := if s.blocked n then s else (s.onLink n (Link.txTick s.now)).kickLink n

theorem State.Quiet.linkSends {m n : Fin 2} (h : s.Quiet m) : (s.linkSends n).Quiet m := by
  unfold State.linkSends State.kickLink
  have hsent := h.onLink (n := n) (Link.rx_txTick s.now)
  split
  · exact h
  · split
    · exact hsent
    · exact hsent.onLink (Link.rx_start _ _)

/-- With nothing in its receive buffer a link only sends. -/
theorem State.linkTick_of_quiet {n : Fin 2} (h : s.Quiet n) : s.linkTick n = s.linkSends n := by
  have hrx : ((s.linkSends n).link n).rx = [] := h.linkSends
  unfold State.linkTick
  dsimp only
  change (match ((s.linkSends n).link n).rx with | [] => s.linkSends n | c :: rest => _) = _
  rw [hrx]
theorem State.linkSends_spared {n : Fin 2} (h : State.Spares o s0 s) : State.Spares o s0 (s.linkSends n) :=
  .ite h (State.kickLink_spared h.onLink)

/-- The tick up to what the links send. -/
def State.ranTick (s : State) : State :=
  let s := { s with now := s.now + 1 }
  let s := if s.clocked then s.tbTick else s
  if s.booted then s.runTick.jnlTick else s

theorem State.links_ranTick (s : State) : s.ranTick.links = s.links := by
  have htick (t : State) : (if t.clocked then t.tbTick else t).links = t.links := by
    rw [State.ite_links, State.links_tbTick, ite_self]
  have hrun (t : State) : (if t.booted then t.runTick.jnlTick else t).links = t.links := by
    rw [State.ite_links, State.links_jnlTick, State.links_runTick, ite_self]
  exact (hrun _).trans (htick _)

def tickC : List Cell := .part .now :: State.tbTickC ++ State.runTickC ++ State.jnlTickC ++ State.porchTickC
theorem execTick_out (h0 : s.Quiet 0) (h1 : s.Quiet 1) (hP : Cell.clear tickC o = true) : Out.Spares o s (execTick s) := by
  simp only [tickC, List.cons_append, Cell.clear_cons_iff, Cell.clear_append_iff] at hP
  have hnow : State.Spares o s { s with now := s.now + 1 } := State.Spares.now (by simp only [hP]) (.refl _ _)
  have htb := State.Spares.ite (c := ({ s with now := s.now + 1 } : State).clocked = true)
    (State.tbTick_spared (by simp only [hP]) hnow) hnow
  have hruns : State.Spares o s s.ranTick :=
    .ite (State.jnlTick_spared (by simp only [hP]) (State.runTick_spared (by simp only [hP]) htb)) htb
  have hq0 : s.ranTick.Quiet 0 := h0.congr (State.links_ranTick s)
  have hq1 : s.ranTick.Quiet 1 := h1.congr (State.links_ranTick s)
  have hlinks : ((s.ranTick.linkTick 0).linkTick 1) = (s.ranTick.linkSends 0).linkSends 1 := by
    rw [State.linkTick_of_quiet hq0, State.linkTick_of_quiet hq1.linkSends]
  have hend : State.Spares o s ((s.ranTick.linkTick 0).linkTick 1).porchTick := by
    rw [hlinks]
    exact State.porchTick_spared (by simp only [hP]) (State.linkSends_spared (State.linkSends_spared hruns))
  exact .act (f := fun s => ((s.ranTick.linkTick 0).linkTick 1).porchTick) hend

end

/-! ## O11: the frames of the commands that reach several ports -/

/-- A frame may name its Landings, its Wings: what lies within the frame without the names, and leaves the others, lies
  within it. -/
theorem State.within_of_anywhere {f : Footprint} {s t : State} (hw : s.within { f with land := anywhere, wing := anywhere } t)
    (hland : ∀ b, f.land b = false → t.land b = s.land b) (hwing : ∀ w, f.wing w = false → t.wing w = s.wing w) : s.within
      f t :=
  { parts := hw.parts, regs := hw.regs, room := hw.room, roomParts := hw.roomParts, roomRegs := hw.roomRegs, land := hland
    landRegs := hw.landRegs, wing := hwing, wingRegs := hw.wingRegs }

end Sys2Proof.Machine

namespace Sys2Proof.Machine

set_option Elab.async false

theorem execHlRead_covered : ∀ n : Fin 2, ((wideFrames (.hlRead n [])).all fun g => (execHlReadC n).all g.covers) = true
    := by decide +kernel
theorem execSnapshot_covered : ∀ n : Fin 2, ((wideFrames (.snapshot n [])).all fun g => (execSnapshotC n).all g.covers) =
    true := by decide +kernel
theorem execLaneLock_covered : ∀ k : Fin 2, ((wideFrames (.laneLock k)).all fun g => (execLaneLockC k).all g.covers) =
    true := by decide +kernel
theorem execLaneLockLoss_covered : ∀ k : Fin 2,
    ((wideFrames (.laneLockLoss k true)).all fun g => (execLaneLockLossC k).all g.covers) = true := by decide +kernel
theorem execModeApply_covered : ∀ p : Fin 48, ((wideFrames (.modeApply p)).all fun g => (execModeApplyC p).all g.covers) =
    true := by
  decide +kernel
theorem execForcedMode_covered : ∀ b : Fin 6, ((wideFrames (.forcedMode b)).all fun g => (execForcedModeC b).all g.covers)
    = true := by
  decide +kernel
theorem execBulkRead_covered : ∀ n : Fin 2,
    ((wideFrames (.bulkRead n none 0)).all fun g => (execBulkReadC n).all g.covers) = true := by
  decide +kernel
theorem execTwReadTransaction_covered : ∀ n : Fin 4, ((wideFrames (.twReadTransaction n (some (0, [])) 0)).all fun g =>
    (execTwReadTransactionC n).all g.covers) = true := by
  decide +kernel

/-- A read of a Wing's register, with the Wings not told apart. -/
theorem execWingFaultRead_covered : ∀ (w : Fin 2) (cal : Bool),
    (Loc.readC (.wing w.val (if cal then 0x108 else 0x100))).all
      (⟨[.rdata, .rerr], some [], nowhere, [], some [], anywhere, some [],
      anywhere, some [0x100, 0x108], false⟩ : Footprint).covers = true := by
  decide +kernel

theorem execWingFaultRead_landClear : ∀ (w : Fin 2) (cal : Bool) (b : Fin 6),
    Cell.clear (Loc.readC (.wing w.val (if cal then 0x108 else 0x100))) (.land b) = true := by
  decide +kernel

/-- A read of a Wing's register leaves the other Wing. -/
theorem execWingFaultRead_others {w v : Fin 2} {cal : Bool} {s t : State} (h : execWingFaultRead w cal s = .next t)
    (hv : w ≠ v) :
    t.wing v = s.wing v := by
  unfold execWingFaultRead readAct at h
  rcases act_cases _ _ _ _ h with ⟨-, rfl⟩ | ⟨-, rfl⟩
  · rw [State.withQueue_wing, State.posted_wing]
    refine (congrArg (State.wing · v) (State.readReg_steps s _)).trans ?_
    simp only [reduceCtorEq, ↓reduceIte]
    exact State.wing_onWing_ne _ _ _ _ (by rwa [Fin.ofNat_val_eq_self])
  · rfl

theorem State.within_wingFaultRead {w : Fin 2} {cal : Bool} {f : Footprint} {s t : State}
    (hc : wideFrames (.wingFaultRead w cal) = some f) (h : execWingFaultRead w cal s = .next t) : s.within f t := by
  obtain rfl := Option.some.inj hc
  have hw := State.within_of_spares (execWingFaultRead_covered w cal) fun o ho => readAct_out ho t h
  refine State.within_of_anywhere ⟨hw.parts, hw.regs, hw.room, hw.roomParts, hw.roomRegs, hw.land, hw.landRegs, hw.wing,
    hw.wingRegs⟩
    (fun b _ => ?_) fun v hv => execWingFaultRead_others h fun he => ?_
  · exact (readAct_out (o := .land b) (execWingFaultRead_landClear w cal b) t h).same
  · subst he
    exact absurd hv (by simp)

/-- The frame of a firing of a timer, with the Landings not told apart. -/
theorem execTimerFire_covered (k : TmrBlock) : (TmrBlockC k).all
    (⟨[], some [], fun q => k == .room q, [], none, anywhere, none,
    anywhere, some [], false⟩ : Footprint).covers = true := by
  cases k with
  | room p => simp [TmrBlockC, Footprint.covers]
  | land b => rfl

/-- A firing leaves every Landing but that of its block. -/
theorem execTimerFire_others {k : TmrBlock} {n : Fin 8} {b : Fin 6} {s t : State} (h : execTimerFire k n s = .next t)
    (hb : k ≠ .land b) : t.land b = s.land b := by
  rcases act_cases _ _ _ _ h with ⟨-, rfl⟩ | ⟨-, rfl⟩
  · rw [State.withQueue_land, State.posted_land]
    cases k with
    | room p => rfl
    | land a => exact State.land_onLand_ne _ _ _ _ fun he => hb (he ▸ rfl)
  · rfl

theorem State.within_timerFire {k : TmrBlock} {n : Fin 8} {f : Footprint} {s t : State}
    (hc : wideFrames (.timerFire k n) = some f) (h : execTimerFire k n s = .next t) : s.within f t := by
  obtain rfl := Option.some.inj hc
  have hw := State.within_of_spares (execTimerFire_covered k) fun o ho => execTimerFire_out ho t h
  refine State.within_of_anywhere ⟨hw.parts, hw.regs, hw.room, hw.roomParts, hw.roomRegs, hw.land, hw.landRegs, hw.wing,
    hw.wingRegs⟩
    (fun b hb => execTimerFire_others h fun he => ?_) fun w _ => ?_
  · subst he
    exact absurd hb (by simp)
  · have hclear : Cell.clear (TmrBlockC k) (.wing w) = true := by cases k <;> rfl
    exact (execTimerFire_out hclear t h).same

/-- A load of a core. -/
theorem State.within_load {f : Footprint} {s t : State} {x : Out}
    (hc : wideFrames (.lw .hall 0 0 0) = some f) (h : x = .next t)
      (hout : ∀ o, Cell.clear loadC o = true → Out.Spares o s x) :
    s.within f t := by
  obtain rfl := Option.some.inj hc
  exact State.within_of_spares (by decide +kernel) fun o ho => hout o ho t h

/-- Settles O11: what each command that reaches several ports changes lies in its frame, and what a tick changes in the
  tick's. -/
theorem wideFrames_hold : Obligations.WideFrames := by
  refine ⟨fun c f hc s t h => ?_, fun s t h0 h1 h => ?_⟩
  · cases c with
    | grantAnswer => exact State.within_of_out (frames := wideFrames) (d := (.grantAnswer 0)) hc (by decide +kernel) (fun _ hP => execGrantAnswer_out hP) h
    | attachGrant => exact State.within_of_out (frames := wideFrames) (d := (.attachGrant 0)) hc (by decide +kernel) (fun _ hP => execAttachGrant_out hP) h
    | chargerGrant => exact State.within_of_out (frames := wideFrames) (d := .chargerGrant) hc (by decide +kernel) (fun _ hP => execChargerGrant_out hP) h
    | subwordRead => exact State.within_of_out (frames := wideFrames) (d := (.subwordRead (.bus .hall) 0 0)) hc (by decide +kernel) (fun _ hP => execSubwordRead_out hP) h
    | budgetLimitWrite => exact State.within_of_out (frames := wideFrames) (d := (.budgetLimitWrite .hall 0 0)) hc (by decide +kernel) (fun _ hP => execBudgetLimitWrite_out hP) h
    | coreWdt => exact State.within_of_out (frames := wideFrames) (d := (.coreWdt 0)) hc (by decide +kernel) (fun _ hP => execCoreWdt_out hP) h
    | coreKick => exact State.within_of_out (frames := wideFrames) (d := (.coreKick 0 0)) hc (by decide +kernel) (fun _ hP => execCoreKick_out hP) h
    | adcCalibration => exact State.within_of_out (frames := wideFrames) (d := (.adcCalibration 0 0 0 0)) hc (by decide +kernel) (fun _ hP => execAdcCalibration_out hP) h
    | landingFault => exact State.within_of_out (frames := wideFrames) (d := (.landingFault 0 .breaker)) hc (by decide +kernel) (fun _ hP => execLandingFault_out hP) h
    | openPinTest => exact State.within_of_out (frames := wideFrames) (d := (.openPinTest (.land 0 0) 0)) hc (by decide +kernel) (fun _ hP => execOpenPinTest_out hP) h
    | landingSelfCheck => exact State.within_of_out (frames := wideFrames) (d := (.landingSelfCheck 0)) hc (by decide +kernel) (fun _ hP => execLandingSelfCheck_out hP) h
    | parity => exact State.within_of_out (frames := wideFrames) (d := (.parity (.land 0))) hc (by decide +kernel) (fun _ hP => execParity_out hP) h
    | wingWatchdog => exact State.within_of_out (frames := wideFrames) (d := (.wingWatchdog 0 .bus)) hc (by decide +kernel) (fun _ hP => execWingWatchdog_out hP) h
    | wingSafeDelay => exact State.within_of_out (frames := wideFrames) (d := (.wingSafeDelay 0)) hc (by decide +kernel) (fun _ hP => execWingSafeDelay_out hP) h
    | wingRestart => exact State.within_of_out (frames := wideFrames) (d := (.wingRestart 0)) hc (by decide +kernel) (fun _ hP => execWingRestart_out hP) h
    | clockFailure => exact State.within_of_out (frames := wideFrames) (d := (.clockFailure true)) hc (by decide +kernel) (fun _ hP => execClockFailure_out hP) h
    | wakeN => exact State.within_of_out (frames := wideFrames) (d := .wakeN) hc (by decide +kernel) (fun _ hP => execWakeN_out hP) h
    | ccSamplingWindow => exact State.within_of_out (frames := wideFrames) (d := (.ccSamplingWindow [])) hc (by decide +kernel) (fun _ hP => execCcSamplingWindow_out hP) h
    | keyWake => exact State.within_of_out (frames := wideFrames) (d := .keyWake) hc (by decide +kernel) (fun _ hP => execKeyWake_out hP) h
    | alarm => exact State.within_of_out (frames := wideFrames) (d := .alarm) hc (by decide +kernel) (fun _ hP => execAlarm_out hP) h
    | fireWake => exact State.within_of_out (frames := wideFrames) (d := .fireWake) hc (by decide +kernel) (fun _ hP => execFireWake_out hP) h
    | hlWake n => exact State.within_of_out (frames := wideFrames) (d := (.hlWake 0)) hc (by decide +kernel) (fun _ hP => execHlWake_out (_n := n) hP) h
    | porchWake => exact State.within_of_out (frames := wideFrames) (d := .porchWake) hc (by decide +kernel) (fun _ hP => execPorchWake_out hP) h
    | sleepWake => exact State.within_of_out (frames := wideFrames) (d := .sleepWake) hc (by decide +kernel) (fun _ hP => execSleepWake_out hP) h
    | retryAttempt => exact State.within_of_out (frames := wideFrames) (d := (.retryAttempt 0)) hc (by decide +kernel) (fun _ hP => execRetryAttempt_out hP) h
    | hearthUpdate => exact State.within_of_out (frames := wideFrames) (d := (.hearthUpdate 0)) hc (by decide +kernel) (fun _ hP => execHearthUpdate_out hP) h
    | grace => exact State.within_of_out (frames := wideFrames) (d := (.grace 0)) hc (by decide +kernel) (fun _ hP => execGrace_out hP) h
    | ithRecompute => exact State.within_of_out (frames := wideFrames) (d := (.ithRecompute 0)) hc (by decide +kernel) (fun _ hP => execIthRecompute_out hP) h
    | clampRelease => exact State.within_of_out (frames := wideFrames) (d := (.clampRelease 0)) hc (by decide +kernel) (fun _ hP => execClampRelease_out hP) h
    | dieCapRelease => exact State.within_of_out (frames := wideFrames) (d := .dieCapRelease) hc (by decide +kernel) (fun _ hP => execDieCapRelease_out hP) h
    | powerBalanceCheck => exact State.within_of_out (frames := wideFrames) (d := (.powerBalanceCheck 0 0 [])) hc (by decide +kernel) (fun _ hP => execPowerBalanceCheck_out hP) h
    | qidOn => exact State.within_of_out (frames := wideFrames) (d := (.qidOn ⟨0, 0, 0, 0, true⟩)) hc (by decide +kernel) (fun _ hP => execQidOn_out hP) h
    | batteryOperationBegin => exact State.within_of_out (frames := wideFrames) (d := (.batteryOperationBegin ⟨0, 0, 0, 0, true⟩)) hc (by decide +kernel) (fun _ hP => execBatteryOperationBegin_out hP) h
    | batLow => exact State.within_of_out (frames := wideFrames) (d := (.batLow 0)) hc (by decide +kernel) (fun _ hP => execBatLow_out hP) h
    | tmrCtrlWrite => exact State.within_of_out (frames := wideFrames) (d := (.tmrCtrlWrite (.land 0) 0 0)) hc (by decide +kernel) (fun _ hP => execTmrCtrlWrite_out hP) h
    | tmrCmpWrite => exact State.within_of_out (frames := wideFrames) (d := (.tmrCmpWrite (.land 0) 0 0)) hc (by decide +kernel) (fun _ hP => execTmrCmpWrite_out hP) h
    | tmrCntWrite => exact State.within_of_out (frames := wideFrames) (d := (.tmrCntWrite (.land 0) 0 0)) hc (by decide +kernel) (fun _ hP => execTmrCntWrite_out hP) h
    | energyUpdate => exact State.within_of_out (frames := wideFrames) (d := .energyUpdate) hc (by decide +kernel) (fun _ hP => execEnergyUpdate_out hP) h
    | capture => exact State.within_of_out (frames := wideFrames) (d := .capture) hc (by decide +kernel) (fun _ hP => execCapture_out hP) h
    | hlRead n _ => exact State.within_of_out (frames := wideFrames) (d := (.hlRead n [])) hc (execHlRead_covered _) (fun _ hP => execHlRead_out hP) h
    | snapshot n _ => exact State.within_of_out (frames := wideFrames) (d := (.snapshot n [])) hc (execSnapshot_covered _) (fun _ hP => execSnapshot_out hP) h
    | twAddressMatchWake => exact State.within_of_out (frames := wideFrames) (d := (.twAddressMatchWake 0 0)) hc (by decide +kernel) (fun _ hP => execTwAddressMatchWake_out hP) h
    | heartbeatSend => exact State.within_of_out (frames := wideFrames) (d := .heartbeatSend) hc (by decide +kernel) (fun _ hP => execHeartbeatSend_out hP) h
    | keyInChange => exact State.within_of_out (frames := wideFrames) (d := (.keyInChange true)) hc (by decide +kernel) (fun _ hP => execKeyInChange_out hP) h
    | takeover => exact State.within_of_out (frames := wideFrames) (d := .takeover) hc (by decide +kernel) (fun _ hP => execTakeover_out hP) h
    | heartbeatPulse => exact State.within_of_out (frames := wideFrames) (d := (.heartbeatPulse 0)) hc (by decide +kernel) (fun _ hP => execHeartbeatPulse_out hP) h
    | contention => exact State.within_of_out (frames := wideFrames) (d := (.contention 0)) hc (by decide +kernel) (fun _ hP => execContention_out hP) h
    | peerNoYield => exact State.within_of_out (frames := wideFrames) (d := (.peerNoYield 0)) hc (by decide +kernel) (fun _ hP => execPeerNoYield_out hP) h
    | hbOutFault => exact State.within_of_out (frames := wideFrames) (d := .hbOutFault) hc (by decide +kernel) (fun _ hP => execHbOutFault_out hP) h
    | peerLost => exact State.within_of_out (frames := wideFrames) (d := .peerLost) hc (by decide +kernel) (fun _ hP => execPeerLost_out hP) h
    | pairResync => exact State.within_of_out (frames := wideFrames) (d := .pairResync) hc (by decide +kernel) (fun _ hP => execPairResync_out hP) h
    | linkUp => exact State.within_of_out (frames := wideFrames) (d := .linkUp) hc (by decide +kernel) (fun _ hP => execLinkUp_out hP) h
    | linkDown => exact State.within_of_out (frames := wideFrames) (d := .linkDown) hc (by decide +kernel) (fun _ hP => execLinkDown_out hP) h
    | frameSend => exact State.within_of_out (frames := wideFrames) (d := .frameSend) hc (by decide +kernel) (fun _ hP => execFrameSend_out hP) h
    | recordSend => exact State.within_of_out (frames := wideFrames) (d := (.recordSend 0 0 0)) hc (by decide +kernel) (fun _ hP => execRecordSend_out hP) h
    | recordResend => exact State.within_of_out (frames := wideFrames) (d := (.recordResend 0 0 0)) hc (by decide +kernel) (fun _ hP => execRecordResend_out hP) h
    | statusSend => exact State.within_of_out (frames := wideFrames) (d := .statusSend) hc (by decide +kernel) (fun _ hP => execStatusSend_out hP) h
    | digestSend => exact State.within_of_out (frames := wideFrames) (d := .digestSend) hc (by decide +kernel) (fun _ hP => execDigestSend_out hP) h
    | statusLoss => exact State.within_of_out (frames := wideFrames) (d := .statusLoss) hc (by decide +kernel) (fun _ hP => execStatusLoss_out hP) h
    | claimStartA => exact State.within_of_out (frames := wideFrames) (d := .claimStartA) hc (by decide +kernel) (fun _ hP => execClaimStartA_out hP) h
    | claimStartB => exact State.within_of_out (frames := wideFrames) (d := .claimStartB) hc (by decide +kernel) (fun _ hP => execClaimStartB_out hP) h
    | claimGuardEnd => exact State.within_of_out (frames := wideFrames) (d := .claimGuardEnd) hc (by decide +kernel) (fun _ hP => execClaimGuardEnd_out hP) h
    | release => exact State.within_of_out (frames := wideFrames) (d := (.release 0)) hc (by decide +kernel) (fun _ hP => execRelease_out hP) h
    | keyInStuck => exact State.within_of_out (frames := wideFrames) (d := .keyInStuck) hc (by decide +kernel) (fun _ hP => execKeyInStuck_out hP) h
    | driveConflict => exact State.within_of_out (frames := wideFrames) (d := (.driveConflict (.land 0))) hc (by decide +kernel) (fun _ hP => execDriveConflict_out hP) h
    | laneLock k => exact State.within_of_out (frames := wideFrames) (d := (.laneLock k)) hc (execLaneLock_covered _) (fun _ hP => execLaneLock_out hP) h
    | laneLockLoss k _ => exact State.within_of_out (frames := wideFrames) (d := (.laneLockLoss k true)) hc (execLaneLockLoss_covered _) (fun _ hP => execLaneLockLoss_out hP) h
    | stairResync => exact State.within_of_out (frames := wideFrames) (d := (.stairResync 0 [])) hc (by decide +kernel) (fun _ hP => execStairResync_out hP) h
    | stairFrame => exact State.within_of_out (frames := wideFrames) (d := (.stairFrame 0 [])) hc (by decide +kernel) (fun _ hP => execStairFrame_out hP) h
    | stairLoop => exact State.within_of_out (frames := wideFrames) (d := (.stairLoop 0 [])) hc (by decide +kernel) (fun _ hP => execStairLoop_out hP) h
    | stairRoom => exact State.within_of_out (frames := wideFrames) (d := (.stairRoom 0 [])) hc (by decide +kernel) (fun _ hP => execStairRoom_out hP) h
    | stairSlot => exact State.within_of_out (frames := wideFrames) (d := (.stairSlot 0 [])) hc (by decide +kernel) (fun _ hP => execStairSlot_out hP) h
    | stairTimer => exact State.within_of_out (frames := wideFrames) (d := (.stairTimer 0 [])) hc (by decide +kernel) (fun _ hP => execStairTimer_out hP) h
    | stairHearth => exact State.within_of_out (frames := wideFrames) (d := (.stairHearth 0 [])) hc (by decide +kernel) (fun _ hP => execStairHearth_out hP) h
    | stairEnergy => exact State.within_of_out (frames := wideFrames) (d := (.stairEnergy 0 [])) hc (by decide +kernel) (fun _ hP => execStairEnergy_out hP) h
    | stairHall => exact State.within_of_out (frames := wideFrames) (d := (.stairHall 0 [])) hc (by decide +kernel) (fun _ hP => execStairHall_out hP) h
    | stairPantry => exact State.within_of_out (frames := wideFrames) (d := (.stairPantry 0 [])) hc (by decide +kernel) (fun _ hP => execStairPantry_out hP) h
    | stairStatus => exact State.within_of_out (frames := wideFrames) (d := (.stairStatus 0 [])) hc (by decide +kernel) (fun _ hP => execStairStatus_out hP) h
    | stairDigest => exact State.within_of_out (frames := wideFrames) (d := (.stairDigest 0 [])) hc (by decide +kernel) (fun _ hP => execStairDigest_out hP) h
    | resyncSend => exact State.within_of_out (frames := wideFrames) (d := .resyncSend) hc (by decide +kernel) (fun _ hP => execResyncSend_out hP) h
    | atticLock => exact State.within_of_out (frames := wideFrames) (d := (.atticLock 0)) hc (by decide +kernel) (fun _ hP => execAtticLock_out hP) h
    | confirmed => exact State.within_of_out (frames := wideFrames) (d := (.confirmed true true true)) hc (by decide +kernel) (fun _ hP => execConfirmed_out hP) h
    | hbMiss => exact State.within_of_out (frames := wideFrames) (d := .hbMiss) hc (by decide +kernel) (fun _ hP => execHbMiss_out hP) h
    | holdEnd => exact State.within_of_out (frames := wideFrames) (d := (.holdEnd (.land 0))) hc (by decide +kernel) (fun _ hP => execHoldEnd_out hP) h
    | modeApply p => exact State.within_of_out (frames := wideFrames) hc (execModeApply_covered p) (fun _ hP => execModeApply_out hP) h
    | forcedMode b => exact State.within_of_out (frames := wideFrames) hc (execForcedMode_covered b) (fun _ hP => execForcedMode_out hP) h
    | bulkRead n =>
      exact State.within_of_out (frames := wideFrames) (d := .bulkRead n none 0) hc (execBulkRead_covered n)
        (fun _ hP => execBulkRead_out hP) h
    | twReadTransaction n tx k =>
      cases tx with
      | none => exact (Option.some_ne_none f hc.symm).elim
      | some x =>
        exact State.within_of_out (frames := wideFrames) (d := .twReadTransaction n (some (0, [])) 0) hc
          (execTwReadTransaction_covered n) (fun _ hP => execTwReadTransaction_out hP) h
    | wingFaultRead => exact State.within_wingFaultRead hc h
    | timerFire => exact State.within_timerFire hc h
    | lb | lbu | lh | lhu | lw =>
      simp only [exec_lb, exec_lbu, exec_lh, exec_lhu, exec_lw, execLb, execLbu, execLh, execLhu, execLw] at h
      exact State.within_load hc h fun _ hP => loadAct_out hP
    | lwp =>
      rw [exec_lwp] at h
      exact State.within_load hc h fun _ hP => execLwp_out hP
    | _ => exact (Option.some_ne_none f hc.symm).elim
  · exact State.within_of_spares (w := tickC) (by decide +kernel) fun o ho => execTick_out h0 h1 ho t h

end Sys2Proof.Machine

namespace Sys2Proof.Machine

set_option Elab.async false

/-! ## The global mode (R600 to R605) -/

/-- What a command leaves, read at a field of the Hall. -/
theorem State.Spares.fld {s t : State} {g : Field} (h : State.Spares (.reg g) s t) : t.fld g = s.fld g := h.same
theorem State.Spares.bit {s t : State} {g : Field} (h : State.Spares (.reg g) s t) : t.bit g = s.bit g :=
  congrArg (· != 0) h.same

theorem State.bit_of_fld {s : State} {g : Field} {b : Bool} (h : s.fld g = b.toNat) : s.bit g = b := by
  rw [State.bit_eq, h]
  cases b <;> rfl

/-- The acknowledges show neither the mode nor its epoch. -/
theorem State.fld_refreshAcks (s : State) {g : Field} (hg : Cell.clear State.refreshAcksC (.reg g) = true) :
    s.refreshAcks.fld g = s.fld g := (State.refreshAcks_spared hg (.refl _ _)).fld

theorem State.mode_writeMode (s : State) (m src : Nat) (hm : m < 8) :
    (s.writeMode m src).fld HALL_MODE_MODE = m ∧
      (s.writeMode m src).fld HALL_MODE_EPOCH = (s.fld HALL_MODE_EPOCH + 1) % 65536 := by
  have hmod : m % 2 ^ HALL_MODE_MODE.width = m := Nat.mod_eq_of_lt hm
  have hlast (u : State) {g : Field} (hsrc : HALL_MODE_SRC.apart g = true) (hpend : HALL_MODE_PENDING.apart g = true) :
      ((u.on HALL_MODE_PENDING).put HALL_MODE_SRC src).fld g = u.fld g :=
    (State.fld_put_apart _ _ _ _ hsrc).trans (State.fld_on_apart _ _ _ hpend)
  unfold State.writeMode
  dsimp only
  rw [State.fld_refreshAcks _ (by decide), State.fld_refreshAcks _ (by decide)]
  constructor
  · refine (hlast _ (by decide) (by decide)).trans ?_
    rw [State.fld_put_apart _ _ _ _ (by decide), State.fld_put _ _ _ (by decide), hmod]
  · refine (hlast _ (by decide) (by decide)).trans ?_
    rw [State.fld_put _ _ _ (by decide)]
    exact Nat.mod_mod_of_dvd _ (dvd_refl 65536)

theorem exec_hallModeWrite_writes {s : State} {m : Nat} (hb : s.booted = true) (hk : s.hallKeeper = true) (hm : m < 5)
    (hen : s.bit FIRE_CFG_EN = false) (hclamp : s.clampField (.hall 0x040) HALL_MODE_MODE m = m) :
    ∃ t, exec (.hallModeWrite .hall m) s = .next t ∧ t.fld HALL_MODE_MODE = m ∧
      t.fld HALL_MODE_EPOCH = (s.fld HALL_MODE_EPOCH + 1) % 65536 := by
  rw [exec_hallModeWrite, execHallModeWrite]
  refine act_does hb ?_
  have hbus : ({ s with rerr := false } : State).busMode .hall m = ({ s with rerr := false } : State).writeMode m 0 := by
    unfold State.busMode
    rw [show ({ s with rerr := false } : State).clampField (.hall 0x040) HALL_MODE_MODE m = m from hclamp,
      show ({ s with rerr := false } : State).hallKeeper = true from hk,
      show ({ s with rerr := false } : State).bit FIRE_CFG_EN = false from hen]
    simp [Nat.not_le.2 hm]
  rw [hbus, State.withQueue_fld, State.withQueue_fld, State.posted_fld, State.posted_fld]
  exact State.mode_writeMode _ m 0 (Nat.lt_trans hm (by decide))

/-- The mode that a Room has applied, whatever the mode sheds. -/
theorem Room.applyMode_shows (e : Env) {m : Nat} (epoch : Nat) (r : Room) (hm : m < 8) :
    (r.applyMode e m epoch).fld STATUS_MODE = m ∧ (r.applyMode e m epoch).fld EVENT_MODE_APPLIED = 1 := by
  have hmod : m % 2 ^ STATUS_MODE.width = m := Nat.mod_eq_of_lt hm
  have hput (q : Room) : (q.put STATUS_MODE m).fld STATUS_MODE = m := (Room.fld_put _ _ _ (by decide)).trans hmod
  have hon (q : Room) : (q.on EVENT_MODE_APPLIED).fld EVENT_MODE_APPLIED = 1 := Room.fld_on _ (by decide) (by decide)
  have hmode : (((r.put STATUS_MODE m).put STATUS_EPOCH (epoch % 256)).on EVENT_MODE_APPLIED).fld STATUS_MODE = m := by
    rw [Room.fld_on_apart _ _ _ (by decide), Room.fld_put_apart _ _ _ _ (by decide), hput]
  unfold Room.applyMode
  dsimp only
  split
  · exact ⟨(Room.shed_fld _ _ _ (by decide)).trans hmode, (Room.shed_fld _ _ _ (by decide)).trans (hon _)⟩
  · exact ⟨(Room.refreshIlim_fld _ _ _ (by decide)).trans hmode, (Room.refreshIlim_fld _ _ _ (by decide)).trans (hon _)⟩

theorem exec_modeApply_applies {s : State} {p : Fin 48} (hl : s.live p = true) (he : (s.room p).epoch ≠ s.fld HALL_MODE_EPOCH)
    (hsafe : (s.room p).safePoint = true) :
    ∃ t, exec (.modeApply p) s = .next t ∧ (t.room p).fld STATUS_MODE = s.fld HALL_MODE_MODE ∧
      (t.room p).bit EVENT_MODE_APPLIED = true := by
  rw [exec_modeApply, execModeApply]
  refine act_does (by simp [hl, he, hsafe]) ?_
  have hroom (t : State) : t.refreshAcks.room p = t.room p := (State.refreshAcks_spared (o := .room p) rfl (.refl _ t)).same
  obtain ⟨hmode, hev⟩ := Room.applyMode_shows (s.env p) (s.fld HALL_MODE_EPOCH) (s.room p) (m := s.fld HALL_MODE_MODE) (Regs.fld_lt _ _)
  rw [State.withQueue_room, State.posted_room, hroom, State.room_onRoomE, Room.bit_eq, hmode, hev]
  exact ⟨rfl, rfl⟩

theorem mem_portsOf_landOf : ∀ p : Fin 48, p ∈ portsOf (landOf p) := by decide +kernel

/-- The step of the forced mode for one port. -/
def State.forceMode (s : State) (p : Fin 48) : State :=
  if s.live p && (s.room p).epoch != s.fld HALL_MODE_EPOCH then
    s.onRoomE p fun e r =>
      ((r.applyMode e (s.fld HALL_MODE_MODE) (s.fld HALL_MODE_EPOCH)).fault FAULT_FORCED_MODE).fallBack e
  else s

theorem Room.fault_shows (r : Room) {f : Field} (hfits : f.fits = true) (hwidth : f.width ≠ 0) (hev : EVENT_FAULT.apart f = true) :
    (r.fault f).fld f = 1 := (Room.fld_on_apart _ _ _ hev).trans (Room.fld_on _ hfits hwidth)

theorem Room.fallBack_forced (e : Env) (r : Room) (m epoch : Nat) :
    (((r.applyMode e m epoch).fault FAULT_FORCED_MODE).fallBack e).bit FAULT_FORCED_MODE = true := by
  rw [Room.bit_eq, Room.fallBack_fld _ _ _ (by decide), Room.fault_shows _ (by decide) (by decide) (by decide)]
  rfl

/-- A port that has not applied the mode has it forced by its own step; the steps of other ports leave it. -/
theorem State.forceMode_forces {s : State} {p : Fin 48} (hl : s.live p = true) (he : (s.room p).epoch ≠ s.fld HALL_MODE_EPOCH) :
    ((s.forceMode p).room p).bit FAULT_FORCED_MODE = true := by
  unfold State.forceMode
  rw [hl, bne_iff_ne.2 he, Bool.true_and, if_pos rfl, State.room_onRoomE]
  exact Room.fallBack_forced ..
theorem State.forceMode_other {s : State} {p q : Fin 48} (hq : q ≠ p) : (s.forceMode q).room p = s.room p := by
  unfold State.forceMode
  split
  · exact State.room_onRoomE_ne _ _ _ _ hq
  · rfl
theorem State.forceMode_keeps {s : State} {p q : Fin 48} (h : (s.room p).bit FAULT_FORCED_MODE = true) :
    ((s.forceMode q).room p).bit FAULT_FORCED_MODE = true := by
  unfold State.forceMode
  split
  · exact State.room_onRoomE_cases (P := fun r => r.bit FAULT_FORCED_MODE = true) h fun e => Room.fallBack_forced ..
  · exact h
theorem State.forceMode_hall (s : State) (q : Fin 48) :
    (∀ p, (s.forceMode q).live p = s.live p) ∧ (s.forceMode q).fld HALL_MODE_EPOCH = s.fld HALL_MODE_EPOCH := by
  unfold State.forceMode
  split <;> exact ⟨fun _ => rfl, rfl⟩

theorem State.forceMode_all {s : State} {p : Fin 48} (hl : s.live p = true) (he : (s.room p).epoch ≠ s.fld HALL_MODE_EPOCH)
    {ps : List (Fin 48)} (hp : p ∈ ps) : ((ps.foldl State.forceMode s).room p).bit FAULT_FORCED_MODE = true := by
  induction ps generalizing s with
  | nil => cases hp
  | cons q ps ih =>
    rw [List.foldl_cons]
    by_cases hq : q = p
    · subst hq
      exact List.foldlRecOn (motive := fun t : State => (t.room q).bit FAULT_FORCED_MODE = true) ps State.forceMode
        (State.forceMode_forces hl he) fun t ht m _ => State.forceMode_keeps ht
    · obtain ⟨hlive, hepoch⟩ := State.forceMode_hall s q
      refine ih ((hlive p).trans hl) ?_ ((List.mem_cons.1 hp).resolve_left (Ne.symm hq))
      rwa [State.forceMode_other hq, hepoch]

theorem exec_forcedMode_forces {s : State} {p : Fin 48} (hl : s.live p = true) (hpend : s.bit HALL_MODE_PENDING = true)
    (hold : s.mode.since + 50000 ≤ s.now) (he : (s.room p).epoch ≠ s.fld HALL_MODE_EPOCH) :
    ∃ t, exec (.forcedMode (landOf p)) s = .next t ∧ (t.room p).bit FAULT_FORCED_MODE = true := by
  have hb : s.booted = true := (Bool.and_eq_true_iff.1 (Bool.and_eq_true_iff.1 hl).1).1
  rw [exec_forcedMode, execForcedMode]
  refine act_does (by simp [hb, hpend, old, hold]) ?_
  have hroom (t : State) : t.refreshAcks.room p = t.room p := (State.refreshAcks_spared (o := .room p) rfl (.refl _ t)).same
  rw [State.withQueue_room, State.posted_room, hroom]
  exact State.forceMode_all hl he (mem_portsOf_landOf p)

theorem exec_fireN_fires {s : State} (hb : s.booted = true) (hen : s.bit FIRE_CFG_EN = true) :
    ∃ t, exec .fireN s = .next t ∧ t.bit FIRE_CFG_FIRE_IN = true ∧ t.fld HALL_MODE_MODE = mFire := by
  rw [exec_fireN, execFireN]
  refine act_does hb ?_
  rw [State.withQueue_bit, State.withQueue_fld, State.posted_bit, State.posted_fld]
  have hpins (u : State) (hin : u.bit FIRE_CFG_FIRE_IN = true) (hon : u.bit FIRE_CFG_EN = true) :
      u.fireEval.bit FIRE_CFG_FIRE_IN = true ∧ u.fireEval.fld HALL_MODE_MODE = mFire := by
    unfold State.fireEval
    rw [hin, hon, Bool.true_and, Bool.true_and]
    by_cases hm : u.fld HALL_MODE_MODE = mFire
    · rw [if_neg (by simp [hm])]
      exact ⟨hin, hm⟩
    · rw [if_pos (bne_iff_ne.2 hm)]
      refine ⟨?_, (State.mode_writeMode u mFire 2 (by decide)).1⟩
      rw [State.bit_eq, (State.writeMode_spared (o := .reg FIRE_CFG_FIRE_IN) (by decide) (.refl _ u)).fld, ← State.bit_eq, hin]
  split
  · next hin => exact hpins s hin hen
  · refine hpins _ ?_ ?_
    · rw [State.bit_eq, State.fld_on_apart _ _ _ (by decide), State.fld_on _ (by decide) (by decide)]
      rfl
    · rw [State.bit_eq, State.fld_on_apart _ _ _ (by decide), State.fld_on_apart _ _ _ (by decide), ← State.bit_eq, hen]

theorem exec_fireNRelease_ends {s : State} (hb : s.booted = true) (hin : s.bit FIRE_CFG_FIRE_IN = true) :
    ∃ t, exec .fireNRelease s = .next t ∧ t.bit FIRE_CFG_FIRE_IN = false := by
  rw [exec_fireNRelease, execFireNRelease]
  refine act_does (by simp [hb, hin]) ?_
  rw [State.withQueue_bit, State.posted_bit, State.bit_eq, State.fld_on_apart _ _ _ (by decide), State.fld_off _ (by decide)]
  rfl

/-- Settles O35: the global mode, its acknowledges and FIRE_N (R600 to R605). -/
theorem globalMode : Obligations.GlobalMode :=
  ⟨fun _ _ => exec_hallModeWrite_writes, fun _ _ => exec_modeApply_applies, fun _ _ => exec_forcedMode_forces,
    fun _ => exec_fireN_fires, fun _ => exec_fireNRelease_ends⟩

end Sys2Proof.Machine

namespace Sys2Proof.Machine

set_option Elab.async false

/-! ## The Pantry's measurement and the rules of its state -/

/-- A command that changes neither clock, Plan, pair nor claims leaves the Pantry as live as it was. -/
theorem State.panLive_congr {s t : State} (hclk : t.clk = s.clk) (hplan : t.plan = s.plan)
    (hheld : t.fld PAIR_STAT_HELD = s.fld PAIR_STAT_HELD) (hpeer : t.fld PAIR_STAT_PEER_HELD = s.fld PAIR_STAT_PEER_HELD) :
    t.panLive = s.panLive := by
  simp only [State.panLive, State.panPresent, State.booted, State.hallKeeper, State.pairMode, State.holds, State.peerHolds,
    State.pl, hclk, hplan, hheld, hpeer]

theorem State.panPresent_of_live {s : State} (h : s.panLive = true) : s.panPresent = true := (Bool.and_eq_true_iff.1 h).1
theorem State.hallKeeper_of_live {s : State} (h : s.panLive = true) : s.hallKeeper = true := (Bool.and_eq_true_iff.1 h).2

theorem State.fld_refreshChg (s : State) {g : Field} (hg : Cell.clear State.refreshChgC (.reg g) = true) :
    s.refreshChg.fld g = s.fld g := (State.refreshChg_spared hg (.refl _ _)).fld
/-- What the charger's refresh leaves of the Pantry: all but the PWM and its ramp. -/
theorem State.pantry_refreshChg {α : Type} (π : Pantry → α) (hπ : ∀ p, π { p with pwm := 2, ramp := 0 } = π p) (s : State) :
    π s.refreshChg.pantry = π s.pantry := by
  unfold State.refreshChg
  dsimp only
  split
  · rfl
  · split
    · exact hπ _
    · rfl

theorem State.fld_panMeasure (s : State) (m : PanMeas) {g : Field} (hg : Cell.clear State.panMeasureC (.reg g) = true) :
    (s.panMeasure m).fld g = s.fld g := (State.panMeasure_spared hg (.refl _ _)).fld
theorem State.bit_panMeasure (s : State) (m : PanMeas) {g : Field} (hg : Cell.clear State.panMeasureC (.reg g) = true) :
    (s.panMeasure m).bit g = s.bit g := (State.panMeasure_spared hg (.refl _ _)).bit
theorem State.clk_panMeasure (s : State) (m : PanMeas) : (s.panMeasure m).clk = s.clk :=
  (State.panMeasure_spared (o := .part .clk) (by decide) (.refl _ _)).same
theorem State.plan_panMeasure (s : State) (m : PanMeas) : (s.panMeasure m).plan = s.plan :=
  (State.panMeasure_spared (o := .part .plan) (by decide) (.refl _ _)).same
theorem State.now_panMeasure (s : State) (m : PanMeas) : (s.panMeasure m).now = s.now :=
  (State.panMeasure_spared (o := .part .now) (by decide) (.refl _ _)).same
theorem State.hearth_panMeasure (s : State) (m : PanMeas) : (s.panMeasure m).hearth = s.hearth :=
  (State.panMeasure_spared (o := .part .hearth) (by decide) (.refl _ _)).same
theorem State.panLive_panMeasure (s : State) (m : PanMeas) : (s.panMeasure m).panLive = s.panLive :=
  State.panLive_congr (State.clk_panMeasure s m) (State.plan_panMeasure s m) (State.fld_panMeasure s m (by decide))
    (State.fld_panMeasure s m (by decide))

/-- The three registers of the measurement, and the state that they are written in. -/
def State.panShown (s : State) (m : PanMeas) : State :=
  let s := ((s.put PAN_MEAS_VBAT m.vbat.toNat).put PAN_MEAS_SYS m.sys.toNat).put PAN_IMEAS_IB m.ib.toNat
  let s := s.put PAN_IMEAS_VBUS_IN m.vbusIn.toNat
  s.putB CHG_STAT_QID_FULL (m.full && s.bit CHG_STAT_QID_ON)

theorem State.panShown_reads (s : State) (m : PanMeas) :
    (s.panShown m).vbat = 20 * m.vbat.toNat ∧ (s.panShown m).vsys = 20 * m.sys.toNat ∧
      (s.panShown m).vbusIn = 20 * m.vbusIn.toNat := by
  have hmod (x : BitVec 12) : x.toNat % 2 ^ 12 = x.toNat := Nat.mod_eq_of_lt x.isLt
  unfold State.panShown State.vbat State.vsys State.vbusIn
  dsimp only
  refine ⟨?_, ?_, ?_⟩
  · rw [State.fld_putB_apart _ _ _ _ (by decide), State.fld_put_apart _ _ _ _ (by decide), State.fld_put_apart _ _ _ _ (by decide),
      State.fld_put_apart _ _ _ _ (by decide), State.fld_put _ _ _ (by decide), show PAN_MEAS_VBAT.width = 12 from rfl, hmod]
  · rw [State.fld_putB_apart _ _ _ _ (by decide), State.fld_put_apart _ _ _ _ (by decide), State.fld_put_apart _ _ _ _ (by decide),
      State.fld_put _ _ _ (by decide), show PAN_MEAS_SYS.width = 12 from rfl, hmod]
  · rw [State.fld_putB_apart _ _ _ _ (by decide), State.fld_put _ _ _ (by decide), show PAN_IMEAS_VBUS_IN.width = 12 from rfl, hmod]

theorem State.panMeasure_shown {s : State} {m : PanMeas} {g : Field} (hg : Cell.clear State.refreshChgC (.reg g) = true) :
    (s.panMeasure m).fld g = (s.panShown m).fld g := State.fld_refreshChg _ hg
theorem State.vbat_panMeasure (s : State) (m : PanMeas) : (s.panMeasure m).vbat = 20 * m.vbat.toNat :=
  (congrArg (20 * ·) (State.panMeasure_shown (by decide))).trans (State.panShown_reads s m).1
theorem State.vsys_panMeasure (s : State) (m : PanMeas) : (s.panMeasure m).vsys = 20 * m.sys.toNat :=
  (congrArg (20 * ·) (State.panMeasure_shown (by decide))).trans (State.panShown_reads s m).2.1
theorem State.vbusIn_panMeasure (s : State) (m : PanMeas) : (s.panMeasure m).vbusIn = 20 * m.vbusIn.toNat :=
  (congrArg (20 * ·) (State.panMeasure_shown (by decide))).trans (State.panShown_reads s m).2.2

/-- A stamp kept where its condition holds. -/
theorem keepStamp_of_due {now d : Nat} {t : Option Nat} {c : Bool} (hd : due now t d = true) (hc : c = true) :
    keepStamp now t c = t := by
  cases t with
  | none => cases hd
  | some x => simp [keepStamp, hc]

/-- What a measurement leaves of the Pantry. -/
theorem State.pantry_panMeasure {α : Type} (π : Pantry → α) (hπ : ∀ p, π { p with pwm := 2, ramp := 0 } = π p) (s : State) (m : PanMeas) :
    π (s.panMeasure m).pantry = π { s.pantry with
      rev := s.pantry.rev && (s.panShown m).vbat * 10000 + 46875 * (s.panShown m).fld PAN_THR_REV_EFF < (s.panShown m).vsys * 10000
      retAt := keepStamp s.now s.pantry.retAt (54000 ≤ (s.panShown m).vbusIn && !(s.panShown m).bit CHG_STAT_QID_ON)
      preOk := keepStamp s.now s.pantry.preOk ((s.panShown m).pst = pPrecharge && (s.panShown m).panPlan.cells * 1000 ≤ (s.panShown m).vbat) } :=
  State.pantry_refreshChg π hπ _

/-- A command on the measured Pantry, while it is live. -/
theorem panAct_does {s : State} {m : PanMeas} {f : State → State} {P : State → Prop} (hl : s.panLive = true)
    (hP : P ((s.posted (f (s.panMeasure m))).withQueue s.pending)) : ∃ t, panAct s m f = .next t ∧ P t := by
  refine act_does (State.panPresent_of_live hl) ?_
  dsimp only
  rw [State.panLive_panMeasure, hl, if_pos rfl]
  exact hP

end Sys2Proof.Machine

namespace Sys2Proof.Machine

set_option Elab.async false

/-! ## The ideal diode and battery operation (R363 to R368, R377, R378) -/

theorem State.bit_on_same (s : State) {f : Field} (hfits : f.fits = true) (hwidth : f.width ≠ 0) : (s.on f).bit f = true :=
  s.bit_on hfits hwidth
theorem State.bit_off_same (s : State) {f : Field} (hfits : f.fits = true) : (s.off f).bit f = false := by
  rw [State.bit_eq, State.fld_off _ hfits]
  rfl
theorem State.bit_onPan (s : State) (f : Pantry → Pantry) (g : Field) : (s.onPan f).bit g = s.bit g := rfl
theorem State.bit_apart {s t : State} {g : Field} (h : t.fld g = s.fld g) : t.bit g = s.bit g := congrArg (· != 0) h

/-- Battery operation is active once it has begun, whether it was before or begins. -/
theorem State.bit_beginBattery (s : State) : s.beginBattery.bit CHG_STAT_BATT_ACTIVE = true := by
  unfold State.beginBattery
  split
  · next h => exact h
  · refine (State.enforce_spared (o := .reg CHG_STAT_BATT_ACTIVE) (by decide) (.refl _ _)).bit.trans ?_
    refine (State.bit_apart (State.fld_on_apart _ _ _ (by decide))).trans ?_
    exact State.bit_on _ (by decide) (by decide)

theorem exec_qidOn_turns {s : State} {m : PanMeas} (hl : s.panLive = true)
    (hv : 20 * m.sys.toNat + s.fld ID_CFG_FWD_MV < 20 * m.vbat.toNat) (hen : s.bit PAN_CTRL_EN = true)
    (hpres : s.bit CHG_STAT_PRES = true) (hcut : s.bit CHG_STAT_CUTOFF = false) (hchg : charging s.pst = false)
    (hmodel : s.modelState 55 ≠ 3) (hrev : s.pantry.rev = false) :
    ∃ t, exec (.qidOn m) s = .next t ∧ t.bit CHG_STAT_QID_ON = true ∧ t.bit CHG_STAT_BATT_ACTIVE = true := by
  rw [exec_qidOn, execQidOn]
  refine panAct_does hl ?_
  have hrev' : (s.panMeasure m).pantry.rev = false :=
    (State.pantry_panMeasure (·.rev) (fun _ => rfl) s m).trans (by rw [hrev]; rfl)
  have hchg' : charging (s.panMeasure m).pst = false := by
    rw [State.pst, State.fld_panMeasure _ _ (by decide)]
    exact hchg
  have hmodel' : (s.panMeasure m).modelState 55 ≠ 3 := by
    rw [State.modelState, State.hearth_panMeasure]
    exact hmodel
  dsimp only
  rw [State.vsys_panMeasure, State.vbat_panMeasure, State.fld_panMeasure _ _ (by decide), State.bit_panMeasure _ _ (by decide),
    State.bit_panMeasure _ _ (by decide), State.bit_panMeasure _ _ (by decide), hen, hpres, hcut, hchg', hrev',
    decide_eq_true hv, decide_eq_false hmodel', Bool.false_and, Bool.false_and, if_pos (by decide), State.withQueue_bit, State.posted_bit,
    State.withQueue_bit, State.posted_bit]
  refine ⟨?_, State.bit_beginBattery _⟩
  refine (State.beginBattery_spared (o := .reg CHG_STAT_QID_ON) (by decide) (.refl _ _)).bit.trans ?_
  refine (State.refreshChg_spared (o := .reg CHG_STAT_QID_ON) (by decide) (.refl _ _)).bit.trans ?_
  exact State.bit_on _ (by decide) (by decide)

theorem State.bit_qidOff (s : State) : s.qidOff.bit CHG_STAT_QID_ON = false := by
  unfold State.qidOff
  refine (State.refreshChg_spared (o := .reg CHG_STAT_QID_ON) (by decide) (.refl _ _)).bit.trans ?_
  refine (State.bit_apart (State.fld_off_apart _ _ _ (by decide))).trans ?_
  exact State.bit_off_same _ (by decide)

theorem exec_idRevTrip_turns {s : State} {m : PanMeas} (hl : s.panLive = true)
    (hv : 20 * m.vbat.toNat * 10000 + 46875 * s.fld PAN_THR_REV_EFF < 20 * m.sys.toNat * 10000) :
    ∃ t, exec (.idRevTrip m) s = .next t ∧ t.bit CHG_STAT_QID_ON = false ∧ t.pantry.rev = true := by
  rw [exec_idRevTrip, execIdRevTrip]
  refine panAct_does hl ?_
  rw [State.vbat_panMeasure, State.vsys_panMeasure, State.fld_panMeasure _ _ (by decide), if_pos hv, State.withQueue_bit,
    State.posted_bit, State.withQueue_pantry, State.posted_pantry]
  exact ⟨State.bit_qidOff _, State.pantry_refreshChg (·.rev) (fun _ => rfl) _⟩

theorem exec_batteryOperationBegin_begins {s : State} {m : PanMeas} (hl : s.panLive = true) (hv : 20 * m.vbusIn.toNat < 52000)
    (hpres : s.bit CHG_STAT_PRES = true) (hcut : s.bit CHG_STAT_CUTOFF = false) :
    ∃ t, exec (.batteryOperationBegin m) s = .next t ∧ t.bit CHG_STAT_BATT_ACTIVE = true := by
  rw [exec_batteryOperationBegin, execBatteryOperationBegin]
  refine panAct_does hl ?_
  rw [State.vbusIn_panMeasure, State.bit_panMeasure (g := CHG_STAT_PRES) _ _ (by decide),
    State.bit_panMeasure (g := CHG_STAT_CUTOFF) _ _ (by decide), hpres, hcut, decide_eq_true hv, Bool.true_and, Bool.not_false,
    Bool.true_and, Bool.or_true, if_pos rfl, State.withQueue_bit, State.posted_bit]
  exact State.bit_beginBattery _

theorem exec_batteryMode_sets {s : State} (hl : s.panLive = true) (hauto : s.bit PAN_CTRL_BM_AUTO = true)
    (hact : s.bit CHG_STAT_BATT_ACTIVE = true) (hdue : due s.now s.pantry.batAt 1000 = true) (hmode : s.pantry.mode = none)
    (hm : s.fld HALL_MODE_MODE = mNormal) :
    ∃ t, exec .batteryMode s = .next t ∧ t.fld HALL_MODE_MODE = mBattery := by
  rw [exec_batteryMode, execBatteryMode]
  refine act_does (by simp [hl, hauto, hact, hdue, hmode, hm]) ?_
  rw [State.withQueue_fld, State.posted_fld]
  exact (State.mode_writeMode s mBattery 1 (by decide)).1

/-- The end of battery operation, once the mode is what it was before. -/
def State.leaveBattery (u : State) (long : Bool) : State :=
  let s := ((u.off CHG_STAT_BATT_ACTIVE).off CHG_STAT_BAT_LOW).on PANTRY_EVENT_BATT_OFF
  let s := s.onPan fun p => { p with batAt := none, mode := none, cutAt := none }
  if !long then s
  else if s.pst = pTrickle then s.panTo pFast true
  else if s.pst = pPause && s.pantry.held = pTrickle then s.onPan fun p => { p with toFast := true }
  else s
theorem State.endBattery_eq (s : State) : ∃ (u : State) (long : Bool), s.endBattery = u.leaveBattery long := ⟨_, _, rfl⟩

theorem State.leaveBattery_shows (u : State) (long : Bool) :
    (u.leaveBattery long).bit CHG_STAT_BATT_ACTIVE = false ∧ (u.leaveBattery long).bit PANTRY_EVENT_BATT_OFF = true := by
  have hoff : (((u.off CHG_STAT_BATT_ACTIVE).off CHG_STAT_BAT_LOW).on PANTRY_EVENT_BATT_OFF).bit CHG_STAT_BATT_ACTIVE = false ∧
      (((u.off CHG_STAT_BATT_ACTIVE).off CHG_STAT_BAT_LOW).on PANTRY_EVENT_BATT_OFF).bit PANTRY_EVENT_BATT_OFF = true := by
    refine ⟨(State.bit_apart (State.fld_on_apart _ _ _ (by decide))).trans ?_, State.bit_on _ (by decide) (by decide)⟩
    refine (State.bit_apart (State.fld_off_apart _ _ _ (by decide))).trans ?_
    exact State.bit_off_same _ (by decide)
  unfold State.leaveBattery
  dsimp only
  split
  · rw [State.bit_onPan, State.bit_onPan]
    exact hoff
  · split
    · rw [(State.panTo_spared (o := .reg CHG_STAT_BATT_ACTIVE) (by decide) (.refl _ _)).bit,
        (State.panTo_spared (o := .reg PANTRY_EVENT_BATT_OFF) (by decide) (.refl _ _)).bit, State.bit_onPan, State.bit_onPan]
      exact hoff
    · split
      · rw [State.bit_onPan, State.bit_onPan, State.bit_onPan, State.bit_onPan]
        exact hoff
      · rw [State.bit_onPan, State.bit_onPan]
        exact hoff

theorem exec_batteryOperationEnd_ends {s : State} {m : PanMeas} (hl : s.panLive = true)
    (hact : s.bit CHG_STAT_BATT_ACTIVE = true) (hqid : s.bit CHG_STAT_QID_ON = false) (hv : 54000 ≤ 20 * m.vbusIn.toNat)
    (hdue : due s.now s.pantry.retAt (1000000 * s.fld ID_CFG_BM_EXIT) = true) :
    ∃ t, exec (.batteryOperationEnd m) s = .next t ∧ t.bit CHG_STAT_BATT_ACTIVE = false ∧ t.bit PANTRY_EVENT_BATT_OFF = true := by
  rw [exec_batteryOperationEnd, execBatteryOperationEnd]
  refine panAct_does hl ?_
  have hret : (s.panMeasure m).pantry.retAt = s.pantry.retAt := by
    refine (State.pantry_panMeasure (·.retAt) (fun _ => rfl) s m).trans (keepStamp_of_due hdue ?_)
    have hq : (s.panShown m).bit CHG_STAT_QID_ON = false := by
      rw [← hqid, ← State.bit_panMeasure s m (g := CHG_STAT_QID_ON) (by decide)]
      exact (State.bit_apart (State.panMeasure_shown (by decide))).symm
    rw [(State.panShown_reads s m).2.2, hq, decide_eq_true hv]
    rfl
  rw [State.bit_panMeasure _ _ (by decide), State.now_panMeasure, hret, State.fld_panMeasure _ _ (by decide), hact, hdue,
    Bool.true_and, if_pos rfl, State.withQueue_bit, State.withQueue_bit, State.posted_bit, State.posted_bit]
  obtain ⟨u, long, hend⟩ := State.endBattery_eq (s.panMeasure m)
  rw [hend]
  exact State.leaveBattery_shows u long

theorem exec_vbusInReturn_clears {s : State} {m : PanMeas} (hl : s.panLive = true) (hv : 54000 ≤ 20 * m.vbusIn.toNat) :
    ∃ t, exec (.vbusInReturn m) s = .next t ∧ t.bit CHG_STAT_CUTOFF = false := by
  rw [exec_vbusInReturn, execVbusInReturn]
  refine panAct_does hl ?_
  rw [State.vbusIn_panMeasure, if_pos hv, State.withQueue_bit, State.posted_bit]
  exact State.bit_off_same _ (by decide)

theorem exec_batLow_shows {s : State} {mean : Nat} (hl : s.panLive = true) (hact : s.bit CHG_STAT_BATT_ACTIVE = true)
    (hlow : mean ≤ s.panPlan.cells * s.fld BAT_VOLT_LOW_V) :
    ∃ t, exec (.batLow mean) s = .next t ∧ t.bit CHG_STAT_BAT_LOW = true := by
  rw [exec_batLow, execBatLow]
  refine act_does (by simp [hl, hact]) ?_
  have hlow' : mean ≤ (s.cutTimer mean).panPlan.cells * (s.cutTimer mean).fld BAT_VOLT_LOW_V := hlow
  dsimp only
  rw [if_pos hlow', State.withQueue_bit, State.posted_bit]
  refine (State.enforce_spared (o := .reg CHG_STAT_BAT_LOW) (by decide) (.refl _ _)).bit.trans ?_
  split
  · next h => exact h
  · refine (State.bit_apart (State.fld_on_apart _ _ _ (by decide))).trans ?_
    exact State.bit_on _ (by decide) (by decide)

theorem exec_cutoff_cuts {s : State} {mean : Nat} (hl : s.panLive = true) (hact : s.bit CHG_STAT_BATT_ACTIVE = true)
    (hlow : mean ≤ s.cutLevel) (hlevel : s.pantry.cutLevel = s.cutLevel) (hdue : due s.now s.pantry.cutAt 5000000 = true)
    (hcut : s.bit CHG_STAT_CUTOFF = false) :
    ∃ t, exec (.cutoff mean) s = .next t ∧ t.bit CHG_STAT_CUTOFF = true ∧ t.bit CHG_STAT_QID_ON = false := by
  rw [exec_cutoff, execCutoff]
  refine act_does (by simp [hl, hact]) ?_
  have hat : (s.cutTimer mean).pantry.cutAt = s.pantry.cutAt := by
    cases h : s.pantry.cutAt with
    | none =>
      rw [h] at hdue
      cases hdue
    | some x => simp [State.cutTimer, State.onPan, hlow, hlevel, h]
  have hcut' : (s.cutTimer mean).bit CHG_STAT_CUTOFF = false := hcut
  have hdue' : due (s.cutTimer mean).now (s.cutTimer mean).pantry.cutAt 5000000 = true := by
    rw [hat]
    exact hdue
  dsimp only
  rw [hdue', hcut', Bool.not_false, Bool.and_true, if_pos rfl, State.withQueue_bit, State.withQueue_bit, State.posted_bit, State.posted_bit]
  refine ⟨?_, State.bit_qidOff _⟩
  refine (State.qidOff_spared (o := .reg CHG_STAT_CUTOFF) (by decide) (.refl _ _)).bit.trans ?_
  refine (State.panFault_spared (o := .reg CHG_STAT_CUTOFF) (by decide) (.refl _ _)).bit.trans ?_
  exact State.bit_on _ (by decide) (by decide)

/-- The removal of the battery, read at a field that neither the diode nor the fault shows. -/
theorem State.bit_removed {u : State} {f : Pantry → Pantry} {g : Field} (hqid : Cell.clear State.qidOffC (.reg g) = true)
    (hfault : Cell.clear (State.panFaultC PANTRY_FAULT_BAT_REMOVED) (.reg g) = true) :
    (((u.onPan f).qidOff).panFault PANTRY_FAULT_BAT_REMOVED).bit g = u.bit g :=
  (State.panFault_spared hfault (State.qidOff_spared hqid (.refl _ _))).bit.trans (State.bit_onPan _ _ _)

theorem exec_batPresChange_shows {s : State} {present : Bool} (hp : s.panPresent = true) (hpres : s.bit CHG_STAT_PRES = !present) :
    ∃ t, exec (.batPresChange present) s = .next t ∧ t.bit CHG_STAT_PRES = present ∧ t.bit PANTRY_EVENT_PRES_CHANGE = true := by
  rw [exec_batPresChange, execBatPresChange]
  refine act_does (by simp [hp, hpres]) ?_
  rw [State.withQueue_bit, State.withQueue_bit, State.posted_bit, State.posted_bit]
  have hshown (u : State) : ((u.putB CHG_STAT_PRES present).on PANTRY_EVENT_PRES_CHANGE).bit CHG_STAT_PRES = present ∧
      ((u.putB CHG_STAT_PRES present).on PANTRY_EVENT_PRES_CHANGE).bit PANTRY_EVENT_PRES_CHANGE = true :=
    ⟨State.bit_of_fld ((State.fld_on_apart _ _ _ (by decide)).trans (State.fld_putB _ _ (by decide) (by decide))),
      State.bit_on _ (by decide) (by decide)⟩
  dsimp only
  split
  · rw [State.bit_onPan, State.bit_onPan]
    exact hshown s
  · split
    · rw [(State.panTo_spared (o := .reg CHG_STAT_PRES) (by decide) (.refl _ _)).bit,
        (State.panTo_spared (o := .reg PANTRY_EVENT_PRES_CHANGE) (by decide) (.refl _ _)).bit, State.bit_removed (by decide) (by decide),
        State.bit_removed (by decide) (by decide)]
      exact hshown s
    · rw [(State.refreshChg_spared (o := .reg CHG_STAT_PRES) (by decide) (.refl _ _)).bit,
        (State.refreshChg_spared (o := .reg PANTRY_EVENT_PRES_CHANGE) (by decide) (.refl _ _)).bit, State.bit_removed (by decide) (by decide),
        State.bit_removed (by decide) (by decide)]
      exact hshown s

/-- Settles O33: each of the nine commands, whatever its measurement shows beside its own condition. -/
theorem batteryOperation : Obligations.BatteryOperation :=
  ⟨fun _ _ => exec_qidOn_turns, fun _ _ => exec_idRevTrip_turns, fun _ _ => exec_batteryOperationBegin_begins,
    fun _ => exec_batteryMode_sets, fun _ _ => exec_batteryOperationEnd_ends, fun _ _ => exec_vbusInReturn_clears,
    fun _ _ => exec_batLow_shows, fun _ _ => exec_cutoff_cuts, fun _ _ => exec_batPresChange_shows⟩

end Sys2Proof.Machine

namespace Sys2Proof.Machine

set_option Elab.async false

/-! ## Reading the Hall's fields through the operations of the state -/

theorem State.fld_ite (c : Prop) [Decidable c] (a b : State) (g : Field) :
    (if c then a else b).fld g = if c then a.fld g else b.fld g := apply_ite (fun s => State.fld s g) c a b
theorem State.bit_ite (c : Prop) [Decidable c] (a b : State) (g : Field) :
    (if c then a else b).bit g = if c then a.bit g else b.bit g := apply_ite (fun s => State.bit s g) c a b
theorem State.fld_onPan (s : State) (f : Pantry → Pantry) (g : Field) : (s.onPan f).fld g = s.fld g := rfl

theorem State.bit_put_apart (s : State) (f g : Field) (v : Nat) (h : f.apart g = true) : (s.put f v).bit g = s.bit g :=
  State.bit_apart (State.fld_put_apart _ _ _ _ h)
theorem State.bit_on_apart (s : State) (f g : Field) (h : f.apart g = true) : (s.on f).bit g = s.bit g :=
  State.bit_apart (State.fld_on_apart _ _ _ h)
theorem State.bit_off_apart (s : State) (f g : Field) (h : f.apart g = true) : (s.off f).bit g = s.bit g :=
  State.bit_apart (State.fld_off_apart _ _ _ h)
theorem State.bit_putB_apart (s : State) (f g : Field) (b : Bool) (h : f.apart g = true) : (s.putB f b).bit g = s.bit g :=
  State.bit_apart (State.fld_putB_apart _ _ _ _ h)
theorem State.bit_putB (s : State) {f : Field} (b : Bool) (hfits : f.fits = true) (hwidth : f.width ≠ 0) : (s.putB f b).bit f = b :=
  State.bit_of_fld (State.fld_putB _ _ hfits hwidth)

/-! ## The charger (R369 to R376) -/

theorem State.fld_giveBack (s : State) (g : Field) : s.giveBack.fld g = s.fld g := rfl
theorem State.fld_askRoot (s : State) (st : Nat) (g : Field) : (s.askRoot st).fld g = s.fld g := rfl

theorem State.pst_panTo (s : State) {st : Nat} (fresh : Bool) (hst : st < 8) : (s.panTo st fresh).pst = st := by
  have hmod : st % 2 ^ CHG_STAT_STATE.width = st := Nat.mod_eq_of_lt hst
  unfold State.panTo State.pst
  extract_lets shown cause marked qualified cleared granted
  have hshown : shown.fld CHG_STAT_STATE = st :=
    (State.fld_on_apart _ _ _ (by decide)).trans ((State.fld_put _ _ _ (by decide)).trans hmod)
  have hcause : cause.fld CHG_STAT_STATE = st := by
    simp (disch := decide) only [cause, State.fld_ite, State.fld_off_apart, hshown, ite_self]
  have hmarked : marked.fld CHG_STAT_STATE = st := hcause
  have hqualified : qualified.fld CHG_STAT_STATE = st := by
    simp only [qualified, State.fld_ite, State.fld_onPan, hmarked, ite_self]
  have hcleared : cleared.fld CHG_STAT_STATE = st := by
    simp (disch := decide) only [cleared, State.fld_ite, State.fld_onPan, State.fld_off_apart, hqualified, ite_self]
  have hgranted : granted.fld CHG_STAT_STATE = st := by
    simp only [granted, State.fld_ite, State.fld_askRoot, State.fld_giveBack, hcleared, ite_self]
  exact (State.fld_refreshChg _ (by decide)).trans hgranted

theorem State.latchPan_shows (s : State) {f : Field} (hfits : f.fits = true) (hwidth : f.width ≠ 0)
    (hev : PANTRY_EVENT_FAULT.apart f = true) (hto : Cell.clear State.panToC (.reg f) = true) : (s.latchPan f).bit f = true := by
  have hfault : (s.panFault f).bit f = true :=
    (State.bit_on_apart _ _ _ hev).trans (State.bit_on _ hfits hwidth)
  unfold State.latchPan
  dsimp only
  split
  · exact (State.panTo_spared hto (.refl _ _)).bit.trans hfault
  · exact hfault

theorem State.terminate_shows (s : State) {cause : Nat} (h : cause < 8) :
    (s.terminate cause).pst = pTrickle ∧ (s.terminate cause).fld CHG_STAT_TERM_CAUSE = cause := by
  have hmod : cause % 2 ^ CHG_STAT_TERM_CAUSE.width = cause := Nat.mod_eq_of_lt h
  refine ⟨(State.fld_put_apart _ _ _ _ (by decide)).trans (State.pst_panTo _ _ (by decide)), ?_⟩
  exact (State.fld_put _ _ _ (by decide)).trans hmod

theorem State.hallKeeper_congr {s t : State} (hplan : t.plan = s.plan)
    (hheld : t.fld PAIR_STAT_HELD = s.fld PAIR_STAT_HELD) (hpeer : t.fld PAIR_STAT_PEER_HELD = s.fld PAIR_STAT_PEER_HELD) :
    t.hallKeeper = s.hallKeeper := by
  simp only [State.hallKeeper, State.pairMode, State.holds, State.peerHolds, State.pl, hplan, hheld, hpeer]

theorem exec_presStable_qualifies {s : State} (hl : s.panLive = true) (hst : s.pst = pWaitPres) (hpres : s.bit CHG_STAT_PRES = true)
    (hold : s.pantry.presAt + 2000000 ≤ s.now) : ∃ t, exec .presStable s = .next t ∧ t.pst = pQualify := by
  rw [exec_presStable, execPresStable]
  refine act_does (by simp [hl, hst, hpres, old, hold]) ?_
  exact State.pst_panTo s true (by decide)

theorem exec_qualification_measures {s : State} {mean : Nat} (hl : s.panLive = true) (hst : s.pst = pQualify)
    (hstep : s.pantry.qStep = 3) (hlow : s.panPlan.cells * 800 ≤ mean) (hhigh : mean ≤ s.panPlan.cells * 1600) :
    ∃ t, exec (.qualification mean) s = .next t ∧ t.pantry.qStep = 4 ∧ t.pantry.qBase = mean := by
  rw [exec_qualification, execQualification]
  refine act_does (by simp [hl, hst]) ?_
  rw [State.withQueue_pantry, State.posted_pantry]
  dsimp only
  simp only [hstep, hlow, hhigh, decide_true, Bool.and_self, if_true]
  exact ⟨State.pantry_refreshChg (·.qStep) (fun _ => rfl) _, State.pantry_refreshChg (·.qBase) (fun _ => rfl) _⟩

theorem exec_prechargeDone_fast {s : State} {m : PanMeas} (hl : s.panLive = true) (hst : s.pst = pPrecharge)
    (hv : s.panPlan.cells * 1000 ≤ 20 * m.vbat.toNat) (hdue : due s.now s.pantry.preOk 10000000 = true) :
    ∃ t, exec (.prechargeDone m) s = .next t ∧ t.pst = pFast := by
  rw [exec_prechargeDone, execPrechargeDone]
  refine panAct_does hl ?_
  have hst' : (s.panMeasure m).pst = pPrecharge := (State.fld_panMeasure _ _ (by decide)).trans hst
  have hshown : (s.panShown m).pst = pPrecharge := (State.panMeasure_shown (by decide)).symm.trans hst'
  have hok : (s.panMeasure m).pantry.preOk = s.pantry.preOk := by
    refine (State.pantry_panMeasure (·.preOk) (fun _ => rfl) s m).trans (keepStamp_of_due hdue ?_)
    rw [hshown, (State.panShown_reads s m).1, decide_eq_true (show (s.panShown m).panPlan.cells * 1000 ≤ _ from hv)]
    rfl
  rw [hst', hok, State.now_panMeasure, hdue, if_pos (by decide)]
  exact State.pst_panTo _ true (by decide)

theorem exec_preTimeout_faults {s : State} (hl : s.panLive = true) (hst : s.pst = pPrecharge) (hus : 1800000000 ≤ s.pantry.preUs)
    (hdue : due s.now s.pantry.preOk 10000000 = false) :
    ∃ t, exec .preTimeout s = .next t ∧ t.bit PANTRY_FAULT_PRE_TIMEOUT = true := by
  rw [exec_preTimeout, execPreTimeout]
  refine act_does (by simp [hl, hst, hus, hdue]) ?_
  rw [State.withQueue_bit, State.posted_bit]
  exact State.latchPan_shows s (by decide) (by decide) (by decide) (by decide)

theorem exec_ndvWindow_ends {s : State} {mean : Nat} (hl : s.panLive = true) (hoff : s.heldOff = true) (hrow : 1 ≤ s.pantry.ndvRow)
    (hpeak : mean + s.panPlan.cells * s.fld CHG_TERM_NDV ≤ s.pantry.peak) (hsel : s.fld PAN_CTRL_TERM_SEL ≠ 2) :
    ∃ t, exec (.ndvWindow mean) s = .next t ∧ t.pst = pTrickle ∧ t.fld CHG_STAT_TERM_CAUSE = 1 := by
  rw [exec_ndvWindow, execNdvWindow]
  refine act_does (by simp [hl, hoff]) ?_
  dsimp only
  rw [State.fld_put_apart _ _ _ _ (by decide), State.fld_onPan, if_pos (le_max_of_le_left hpeak), bne_iff_ne.2 hsel,
    decide_eq_true (Nat.succ_le_succ hrow), if_pos (by decide)]
  exact State.terminate_shows _ (by decide)

theorem exec_dtdtEvaluation_ends {s : State} {mean t6 : Int} (hl : s.panLive = true) (hoff : s.heldOff = true)
    (hrow : 2 ≤ s.pantry.dtRow) (htemp : s.pantry.temps[5]? = some t6) (hrise : 10 * (s.fld CHG_TERM_DTDT : Int) ≤ mean - t6)
    (hsel : s.fld PAN_CTRL_TERM_SEL ≠ 1) :
    ∃ t, exec (.dtdtEvaluation mean) s = .next t ∧ t.pst = pTrickle ∧ t.fld CHG_STAT_TERM_CAUSE = 2 := by
  rw [exec_dtdtEvaluation, execDtdtEvaluation]
  refine act_does hl ?_
  simp only [htemp]
  rw [State.fld_put_apart _ _ _ _ (by decide), State.fld_onPan, hoff, decide_eq_true hrise, Bool.and_self, if_pos rfl,
    bne_iff_ne.2 hsel, decide_eq_true (Nat.succ_le_succ hrow), if_pos (by decide)]
  exact State.terminate_shows _ (by decide)

theorem exec_safetyTmr_faults {s : State} (hl : s.panLive = true) (hst : s.pst = pFast)
    (hus : 60000000 * s.fld CHG_TERM_TSAFE ≤ s.pantry.fastUs) :
    ∃ t, exec .safetyTmr s = .next t ∧ t.bit PANTRY_FAULT_SAFETY_TMR = true := by
  rw [exec_safetyTmr, execSafetyTmr]
  refine act_does (by simp [hl, hst, hus]) ?_
  rw [State.withQueue_bit, State.posted_bit]
  exact State.latchPan_shows s (by decide) (by decide) (by decide) (by decide)

/-- What a conversion of the thermistor shows while the Hall keeps nothing: the temperature alone. -/
theorem State.ntcConvert_shows {s : State} {uv : Nat} {c : Int} (hk : s.hallKeeper = false)
    (hc : ntcTemp (s.fld NTC_CFG_BETA) (s.fld NTC_CFG_R25) uv = some c) :
    (s.ntcConvert uv).fld BAT_TEMP_T = enc16 c % 65536 ∧ (s.ntcConvert uv).panLive = false := by
  have hkeep (f : Pantry → Pantry) (v : Nat) (b : Bool) :
      (((s.onPan f).put BAT_TEMP_T v).putB CHG_STAT_NTC_OK b).hallKeeper = false := by
    rw [← hk]
    refine State.hallKeeper_congr rfl ?_ ?_
    · rw [State.fld_putB_apart _ _ _ _ (by decide), State.fld_put_apart _ _ _ _ (by decide), State.fld_onPan]
    · rw [State.fld_putB_apart _ _ _ _ (by decide), State.fld_put_apart _ _ _ _ (by decide), State.fld_onPan]
  unfold State.ntcConvert
  dsimp only
  simp only [hc]
  rw [if_neg (by rw [hkeep, Bool.and_false]; exact Bool.false_ne_true)]
  refine ⟨?_, ?_⟩
  · rw [State.fld_putB_apart _ _ _ _ (by decide), State.fld_put _ _ _ (by decide)]
    rfl
  · rw [State.panLive, hkeep, Bool.and_false]

theorem exec_ntcConversion_shows {s : State} {uv : Nat} {c : Int} (hp : s.panPresent = true) (hk : s.hallKeeper = false)
    (hc : ntcTemp (s.fld NTC_CFG_BETA) (s.fld NTC_CFG_R25) uv = some c) :
    ∃ t, exec (.ntcConversion uv) s = .next t ∧ t.fld BAT_TEMP_T = enc16 c % 65536 := by
  rw [exec_ntcConversion, execNtcConversion]
  refine act_does hp ?_
  obtain ⟨ht, hlive⟩ := State.ntcConvert_shows hk hc
  dsimp only
  rw [hlive, Bool.false_and, Bool.false_and, Bool.false_and, if_neg Bool.false_ne_true]
  exact ht

theorem State.pauseFor_shows (s : State) {c : Nat} (hc : c < 8) (hne : c ≠ 1) :
    (s.pauseFor c).pst = pPause ∧ (s.pauseFor c).fld CHG_STAT_PAUSE_CAUSE = c := by
  have hmod : c % 2 ^ CHG_STAT_PAUSE_CAUSE.width = c := Nat.mod_eq_of_lt hc
  unfold State.pauseFor
  dsimp only
  rw [if_neg hne]
  refine ⟨?_, ?_⟩
  · rw [State.pst, State.fld_giveBack, State.fld_put_apart _ _ _ _ (by decide), State.fld_onPan]
    exact State.pst_panTo _ _ (by decide)
  · rw [State.fld_giveBack, State.fld_put _ _ _ (by decide), hmod]

theorem exec_pause_pauses {s : State} {m : PanMeas} (hl : s.panLive = true) (hchg : charging s.pst = true)
    (hact : s.bit CHG_STAT_BATT_ACTIVE = true) (hask : s.pantry.ask.isSome = true) :
    ∃ t, exec (.pause m) s = .next t ∧ t.pst = pPause ∧ t.fld CHG_STAT_PAUSE_CAUSE = 2 := by
  rw [exec_pause, execPause]
  refine panAct_does hl ?_
  have hst : (s.panMeasure m).pst = s.pst := State.fld_panMeasure _ _ (by decide)
  have hask' : (s.panMeasure m).pantry.ask.isNone = false := by
    rw [State.pantry_panMeasure (·.ask) (fun _ => rfl) s m]
    exact Option.isNone_eq_false_iff.2 hask
  have hcause : (s.panMeasure m).pauseCause s.pst 0 = 2 := by
    unfold State.pauseCause
    dsimp only
    rw [hask', State.bit_panMeasure _ _ (by decide), hact, Bool.and_false, Bool.false_and, if_neg Bool.false_ne_true, Bool.true_or,
      if_pos rfl]
  dsimp only
  rw [hst, hchg, if_pos rfl, hcause, if_neg (by decide)]
  exact State.pauseFor_shows _ (by decide) (by decide)

theorem exec_budgetPauseRetry_asks {s : State} (hl : s.panLive = true) (hst : s.pst = pPause)
    (hcause : s.fld CHG_STAT_PAUSE_CAUSE = 1) (hold : s.pantry.askAt + 10000000 ≤ s.now) :
    ∃ t, exec .budgetPauseRetry s = .next t ∧ t.pantry.ask.isSome = true ∧ t.pantry.askAt = s.now := by
  rw [exec_budgetPauseRetry, execBudgetPauseRetry]
  exact act_does (by simp [hl, hst, hcause, old, hold]) ⟨rfl, rfl⟩

/-- An answer to a port leaves the Pantry as it is. -/
theorem State.pantry_serve_port (s : State) {a : Ask} (h : a.num < 48) : (s.serve a).pantry = s.pantry := by
  unfold State.serve
  rw [dif_pos h]
  dsimp only
  split <;> rfl

theorem State.pantry_foldl_serve (s : State) {l : List Ask} (h : ∀ x ∈ l, x.num < 48) :
    (l.foldl State.serve s).pantry = s.pantry :=
  List.foldlRecOn (motive := fun t : State => t.pantry = s.pantry) l State.serve rfl fun t ht a ha =>
    (State.pantry_serve_port t (h a ha)).trans ht

theorem State.answerChg_answers {s : State} {w : Nat} (h : s.pantry.ask = some w) :
    s.answerChg.pantry.ask = none ∧ s.answerChg.chgGrant ≤ w := by
  unfold State.answerChg
  rw [h]
  refine ⟨State.pantry_refreshChg (·.ask) (fun _ => rfl) _, ?_⟩
  refine le_of_eq_of_le (State.refreshChg_spared (o := .part .chgGrant) (by decide) (.refl _ _)).same ?_
  exact Nat.min_le_left _ _

theorem exec_chargerGrant_answers {s : State} {w : Nat} (hl : s.panLive = true) (hask : s.pantry.ask = some w) :
    ∃ t, exec .chargerGrant s = .next t ∧ t.pantry.ask = none ∧ t.chgGrant ≤ w := by
  rw [exec_chargerGrant, execChargerGrant]
  have hchg : s.chargerAsk = some ⟨s.pantry.askAt, 2, 48⟩ := by
    rw [State.chargerAsk, hl, hask]
    rfl
  rw [hchg, actAsk]
  refine act_does rfl ?_
  rw [State.withQueue_pantry, State.posted_pantry, State.withQueue_chgGrant, State.posted_chgGrant, State.serveTo]
  have hother : ∀ x ∈ Ask.sort (s.asks.filter (·.before ⟨s.pantry.askAt, 2, 48⟩)), x.num < 48 := by
    intro x hx
    obtain ⟨hmem, hbefore⟩ := List.mem_filter.1 ((Ask.sort_perm _).mem_iff.1 hx)
    rcases List.mem_append.1 hmem with hport | hown
    · obtain ⟨p, -, hp⟩ := List.mem_filterMap.1 hport
      exact State.num_portAsk hp ▸ p.isLt
    · rw [hchg, Option.toList_some, List.mem_singleton] at hown
      rw [hown, Ask.before_irrefl] at hbefore
      exact absurd hbefore Bool.false_ne_true
  rw [State.serve, dif_neg (Nat.lt_irrefl 48)]
  exact State.answerChg_answers ((congrArg (·.ask) (State.pantry_foldl_serve s hother)).trans hask)

/-- Overvoltage stops the current. -/
theorem State.refreshChg_overvoltage {s : State} (hk : s.hallKeeper = true) (hov : s.pantry.povAt.isSome = true) :
    s.refreshChg.fld CHG_STAT_CHG_I = 0 := by
  have hcur : s.chgCurrent = 0 := by rw [State.chgCurrent, hov, Bool.or_true, if_pos rfl]
  unfold State.refreshChg
  rw [hcur, hk]
  exact State.fld_put _ _ _ (by decide)

theorem exec_pOvTrip_stops {s : State} (hl : s.panLive = true) :
    ∃ t, exec .pOvTrip s = .next t ∧ t.pantry.povAt.isSome = true ∧ t.fld CHG_STAT_CHG_I = 0 := by
  rw [exec_pOvTrip, execPOvTrip]
  refine act_does hl ?_
  have hsome : ∀ o : Option Nat, (match o with | some t => some t | none => some s.now).isSome = true := by
    rintro (_ | _) <;> rfl
  rw [State.withQueue_pantry, State.posted_pantry, State.withQueue_fld, State.posted_fld]
  refine ⟨?_, State.refreshChg_overvoltage (State.hallKeeper_of_live hl) (hsome _)⟩
  exact (congrArg Option.isSome (State.pantry_refreshChg (·.povAt) (fun _ => rfl) _)).trans (hsome _)

theorem exec_chgOv_faults {s : State} (hl : s.panLive = true) (hpres : s.bit CHG_STAT_PRES = true)
    (hdue : due s.now s.pantry.povAt 10000 = true) (hst : s.pst ≠ pFault) :
    ∃ t, exec .chgOv s = .next t ∧ t.bit PANTRY_FAULT_CHG_OV = true := by
  rw [exec_chgOv, execChgOv]
  refine act_does (by simp [hl, hpres, hdue, hst]) ?_
  rw [State.withQueue_bit, State.posted_bit]
  exact State.latchPan_shows s (by decide) (by decide) (by decide) (by decide)

theorem exec_pPkTrip_ends {s : State} {neg : Bool} (hl : s.panLive = true) (hpwm : s.pantry.pwm ≠ 2) :
    ∃ t, exec (.pPkTrip neg) s = .next t ∧ t.pantry.pwm = if neg then 2 else 0 := by
  rw [exec_pPkTrip, execPPkTrip]
  exact act_does (by simp [hl, hpwm]) rfl

theorem exec_chargerPeriodStart_starts {s : State} {m : PanMeas} (hl : s.panLive = true) :
    ∃ t, exec (.chargerPeriodStart m) s = .next t ∧ t.pantry.pk = none := by
  rw [exec_chargerPeriodStart, execChargerPeriodStart]
  refine panAct_does hl ?_
  rw [State.withQueue_pantry, State.posted_pantry]
  exact State.pantry_refreshChg (·.pk) (fun _ => rfl) _

theorem exec_start_fast {s : State} (hl : s.panLive = true) (hst : s.pst = pTrickle) :
    ∃ t, exec .start s = .next t ∧ t.pst = pFast := by
  rw [exec_start, execStart]
  refine act_does (by simp [hl, hst]) ?_
  exact State.pst_panTo s true (by decide)

/-- Waiting for presence clears the overvoltage mark. -/
theorem State.povAt_panTo_waitPres (s : State) : (s.panTo pWaitPres true).pantry.povAt = none := by
  unfold State.panTo
  exact State.pantry_refreshChg (·.povAt) (fun _ => rfl) _

theorem exec_restart_waits {s : State} {m : PanMeas} (hl : s.panLive = true) (hst : s.pst = pFault) (hntc : s.pantry.ntcBad ≠ 3)
    (hv : 20 * m.vbat.toNat ≤ 80 * s.fld PAN_THR_OV_EFF) :
    ∃ t, exec (.restart m) s = .next t ∧ t.pst = pWaitPres ∧ t.pantry.povAt = none := by
  rw [exec_restart, execRestart]
  refine panAct_does hl ?_
  have hcond (f : Pantry → Pantry) (hf : ∀ p, (f p).ntcBad = p.ntcBad) : (((s.panMeasure m).onPan f).pst = pFault &&
      !((s.panMeasure m).onPan f).ntcFault && ((s.panMeasure m).onPan f).vbat ≤ 80 * ((s.panMeasure m).onPan f).fld PAN_THR_OV_EFF) = true := by
    have hst' : ((s.panMeasure m).onPan f).pst = pFault := (State.fld_panMeasure _ _ (by decide)).trans hst
    have hbad : ((s.panMeasure m).onPan f).ntcFault = false :=
      decide_eq_false (((hf _).trans (State.pantry_panMeasure (·.ntcBad) (fun _ => rfl) s m)).trans_ne hntc)
    have hvbat : ((s.panMeasure m).onPan f).vbat = 20 * m.vbat.toNat := State.vbat_panMeasure s m
    have hov : ((s.panMeasure m).onPan f).fld PAN_THR_OV_EFF = s.fld PAN_THR_OV_EFF := State.fld_panMeasure _ _ (by decide)
    rw [hst', hbad, hvbat, hov, decide_eq_true hv]
    rfl
  unfold State.panRestart
  dsimp only
  rw [if_pos (hcond (fun p => { p with povAt := none }) fun _ => rfl)]
  exact ⟨State.pst_panTo _ true (by decide), State.povAt_panTo_waitPres _⟩

theorem exec_panEnWrite_writes {s : State} {en : Bool} (hp : s.panPresent = true) :
    ∃ t, exec (.panEnWrite en) s = .next t ∧ t.bit PAN_CTRL_EN = s.clampBit (.hall 0x50000) PAN_CTRL_EN en := by
  rw [exec_panEnWrite, execPanEnWrite]
  refine act_does hp ?_
  have hput : (s.putB PAN_CTRL_EN (s.clampBit (.hall 0x50000) PAN_CTRL_EN en)).bit PAN_CTRL_EN =
      s.clampBit (.hall 0x50000) PAN_CTRL_EN en := State.bit_putB _ _ (by decide) (by decide)
  have hto (u : State) (st : Nat) : (u.panTo st true).bit PAN_CTRL_EN = u.bit PAN_CTRL_EN :=
    (State.panTo_spared (o := .reg PAN_CTRL_EN) (by decide) (.refl _ _)).bit
  have hqid (u : State) : u.qidOff.bit PAN_CTRL_EN = u.bit PAN_CTRL_EN :=
    (State.qidOff_spared (o := .reg PAN_CTRL_EN) (by decide) (.refl _ _)).bit
  rw [State.withQueue_bit, State.posted_bit]
  simp only [State.bit_ite, hto, hqid, hput, ite_self]

theorem exec_lampSlot_steps {s : State} (hc : s.clocked = true) :
    ∃ t, exec .lampSlot s = .next t ∧ t.lamps.slot = (s.lamps.slot + 1) % 16 ∧
      t.lamps.a = (s.lampPattern (s.fld LAMP_A_MODE) (s.fld LAMP_A_SRC) (s.fld LAMP_A_PATTERN)).testBit s.lamps.slot := by
  rw [exec_lampSlot, execLampSlot]
  exact act_does hc ⟨rfl, rfl⟩

/-- Settles O34: each of the nineteen commands of the charger and its lamps. -/
theorem charger : Obligations.Charger :=
  ⟨fun _ => exec_presStable_qualifies, fun _ _ => exec_qualification_measures, fun _ _ => exec_prechargeDone_fast,
    fun _ => exec_preTimeout_faults, fun _ _ => exec_ndvWindow_ends, fun _ _ _ => exec_dtdtEvaluation_ends,
    fun _ => exec_safetyTmr_faults, fun _ _ _ => exec_ntcConversion_shows, fun _ _ => exec_pause_pauses,
    fun _ => exec_budgetPauseRetry_asks, fun _ _ => exec_chargerGrant_answers, fun _ => exec_pOvTrip_stops,
    fun _ => exec_chgOv_faults, fun _ _ => exec_pPkTrip_ends, fun _ _ => exec_chargerPeriodStart_starts, fun _ => exec_start_fast,
    fun _ _ => exec_restart_waits, fun _ _ => exec_panEnWrite_writes, fun _ => exec_lampSlot_steps⟩

end Sys2Proof.Machine

namespace Sys2Proof.Machine

set_option Elab.async false

/-! ## HOLD of a core under RANGES -/

/-- A Plan of one port whose RANGES keep CORE_CTRL.HOLD of every Room at 0 (R121, R122). -/
def noHoldPlan : Plan :=
  { Plan.none with ports := [{ PortPlan.absent with present := true }], ranges := [⟨0, 0, 0x380, 0, 1, 0, 0⟩] }

def noHoldState : State := { State.reset with clk := { Clk.reset with phase := .run }, plan := some noHoldPlan }

theorem noHoldState_stays : ∃ t, exec (.hold 0 true) noHoldState = .next t ∧ (t.room 0).core.state = 0 := by
  refine ⟨_, rfl, ?_⟩
  decide +kernel

/-- Refutes O21: a write of HOLD is narrowed by RANGES (R122), and a Plan whose RANGES keep HOLD at 0 lets no write hold the core. -/
theorem not_roomCores : ¬ Obligations.RoomCores := by
  rintro ⟨-, -, -, -, hhold, -, -⟩
  obtain ⟨t, hexec, hstate, -⟩ := hhold noHoldState 0 (by decide +kernel)
  obtain ⟨u, hnext, hzero⟩ := noHoldState_stays
  obtain rfl : u = t := by simpa using hnext.symm.trans hexec
  exact absurd (hzero.symm.trans hstate) (by decide)

/-! ## The boot of a chip whose fuses hold no life cycle -/

theorem State.fld_atticShow (s : State) {g : Field} (hg : Cell.clear State.atticShowC (.reg g) = true) : s.atticShow.fld g = s.fld g :=
  (State.atticShow_spared hg (.refl _ _)).fld
theorem State.lock_readAttic (s : State) : s.readAttic.fld CLK_STAT_PLL_LOCK = s.fld CLK_STAT_PLL_LOCK := by
  unfold State.readAttic
  dsimp only
  rw [State.fld_putB_apart _ _ _ _ (by decide), State.fld_put_apart _ _ _ _ (by decide), State.fld_atticShow _ (by decide)]
  rfl
theorem State.attic_readAttic (s : State) : s.readAttic.attic = s.attic.refresh (List.range 256) := rfl

theorem State.lock_discover (s : State) (d : Option Sfdp) : (s.discover d).fld CLK_STAT_PLL_LOCK = s.fld CLK_STAT_PLL_LOCK := by
  unfold State.discover
  cases d with
  | none => rfl
  | some x => simp (disch := decide) only [State.fld_on_apart, State.fld_put_apart]
theorem State.attic_discover (s : State) (d : Option Sfdp) : (s.discover d).attic = s.attic := by
  cases d <;> rfl

theorem State.lock_bootRecord (s : State) : s.bootRecord.2.fld CLK_STAT_PLL_LOCK = s.fld CLK_STAT_PLL_LOCK := by
  unfold State.bootRecord
  split
  · exact State.fld_on_apart _ _ _ (by decide)
  · simp (disch := decide) only [State.fld_put_apart]

/-- Without a life cycle no lock is set, and what is locked stays so. -/
theorem State.setLocks_zero (s : State) : s.setLocks 0 = s.put ATTIC_LOCK_LOCK (s.fld ATTIC_LOCK_LOCK) := by
  unfold State.setLocks
  dsimp only
  rw [Nat.zero_testBit, Bool.false_and, if_neg Bool.false_ne_true, Nat.zero_mod, Nat.or_zero]

/-- A boot without a life cycle leaves nothing to the firmware: it shows the boot record and goes into recovery. -/
theorem State.boot_blank {s : State} {b : BootFlash} (hlc : (s.attic.refresh (List.range 256)).lc = 0) :
    s.boot b = ((s.readAttic.setLocks 0).discover b.sfdp).bootRecord.2.toRecovery := by
  have hread : s.readAttic.attic.lc = 0 := hlc
  unfold State.boot
  dsimp only
  rw [hread, bootLocks, if_pos rfl, State.attic_discover, State.setLocks_zero,
    show ((s.readAttic.put ATTIC_LOCK_LOCK _).attic.lc) = 0 from hread]
  rfl

theorem State.toRecovery_shows (s : State) : s.toRecovery.clk.phase = .recovery ∧ s.toRecovery.bit BOOT_STAT_RECOVERY = true ∧
    s.toRecovery.bit PORCH_STAT_RECOVERY = true ∧ s.toRecovery.fld CLK_STAT_PLL_LOCK = s.fld CLK_STAT_PLL_LOCK := by
  refine ⟨rfl, ?_, State.bit_on (s.on BOOT_STAT_RECOVERY) (by decide) (by decide), ?_⟩
  · exact (State.bit_on_apart (s.on BOOT_STAT_RECOVERY) PORCH_STAT_RECOVERY _ (by decide)).trans (State.bit_on s (by decide) (by decide))
  · exact (State.fld_on_apart (s.on BOOT_STAT_RECOVERY) PORCH_STAT_RECOVERY _ (by decide)).trans (State.fld_on_apart s _ _ (by decide))

/-- Settles O18: the boot of a chip without a life cycle goes no further than the boot record. -/
theorem bootInRecovery : Obligations.BootInRecovery := by
  intro s b hphase hxtal hlc
  rw [exec_pllLock, execPllLock]
  refine act_does (by simp [hphase, hxtal]) ?_
  have hrun : (s.on CLK_STAT_PLL_LOCK).clk.phase ≠ .waking := by
    rw [show (s.on CLK_STAT_PLL_LOCK).clk.phase = .pll from hphase]
    decide
  have hboot := State.boot_blank (s := (s.on CLK_STAT_PLL_LOCK).makeUp) (b := b) hlc
  dsimp only
  rw [if_neg hrun, hboot, State.withQueue_bit, State.withQueue_bit, State.withQueue_bit, State.withQueue_clk, State.posted_bit,
    State.posted_bit, State.posted_bit, State.posted_clk]
  obtain ⟨hphase', hrec, hporch, hlock⟩ := State.toRecovery_shows
    ((((s.on CLK_STAT_PLL_LOCK).makeUp.readAttic.setLocks 0).discover b.sfdp).bootRecord.2)
  refine ⟨hphase', ?_, hrec, hporch⟩
  rw [State.bit_eq, hlock, State.lock_bootRecord, State.lock_discover,
    State.setLocks_zero, State.fld_put_apart _ _ _ _ (by decide), State.lock_readAttic,
    (State.makeUp_spared (o := .reg CLK_STAT_PLL_LOCK) (by decide) (.refl _ _)).fld, State.fld_on _ (by decide) (by decide)]
  rfl

end Sys2Proof.Machine

namespace Sys2Proof.Machine

set_option Elab.async false

/-! ## Power states: requests, the entry sequence and the wakes (R84 to R93) -/

theorem State.fld_onClk (s : State) (f : Clk → Clk) (g : Field) : (s.onClk f).fld g = s.fld g := rfl
theorem State.bit_onClk (s : State) (f : Clk → Clk) (g : Field) : (s.onClk f).bit g = s.bit g := rfl

/-- A request for RUN or DOZE that no entry is before acts at once. -/
theorem State.reqState_awake {s : State} {v : Nat} (a : BitVec 10) (hv : v ≤ 1) (hpend : s.bit PWR_STAT_PENDING = false)
    (hclamp : s.clampField (.hall 0x088) PWR_CTRL_REQ v = v) :
    (s.reqState v a).fld PWR_STAT_STATE = v ∧ (s.reqState v a).clk.prior = v := by
  have hmod : v % 2 ^ PWR_STAT_STATE.width = v := Nat.mod_eq_of_lt (Nat.lt_of_le_of_lt hv (by decide))
  unfold State.reqState
  dsimp only
  rw [if_neg (show ¬ 4 ≤ v by omega), hclamp, if_pos hv, hpend, if_neg Bool.false_ne_true]
  exact ⟨(State.fld_put (s.put PWR_CTRL_REQ v) _ _ (by decide)).trans hmod, rfl⟩

/-- A request for SLEEP or STANDBY that nothing refuses begins the entry sequence. -/
theorem State.reqState_low {s : State} {v : Nat} {a : BitVec 10} (hlow : 2 ≤ v) (hhigh : v < 4) (hcode : s.reqRefusal v a = 0)
    (hclamp : s.clampField (.hall 0x088) PWR_CTRL_REQ v = v) :
    (s.reqState v a).bit PWR_STAT_PENDING = true ∧ (s.reqState v a).fld PWR_STAT_STATE = v ∧
      (s.reqState v a).clk.target = v ∧ (s.reqState v a).clk.step = 1 := by
  have hmod : v % 2 ^ PWR_STAT_STATE.width = v := Nat.mod_eq_of_lt (Nat.lt_trans hhigh (by decide))
  unfold State.reqState
  dsimp only
  rw [if_neg (show ¬ 4 ≤ v by omega), hclamp, if_neg (show ¬ v ≤ 1 by omega), if_neg (show ¬ 4 ≤ v by omega), hcode, if_neg (by decide)]
  refine ⟨State.bit_on ((s.put PWR_CTRL_REQ v).put PWR_STAT_STATE v) (by decide) (by decide), ?_, rfl, rfl⟩
  rw [State.fld_onClk, State.fld_on_apart _ _ _ (by decide), State.fld_put _ _ _ (by decide), hmod]

theorem exec_reqRun_runs {s : State} (hb : s.booted = true) (hpend : s.bit PWR_STAT_PENDING = false)
    (hclamp : s.clampField (.hall 0x088) PWR_CTRL_REQ 0 = 0) :
    ∃ t, exec .reqRun s = .next t ∧ t.fld PWR_STAT_STATE = 0 ∧ t.clk.prior = 0 := by
  rw [exec_reqRun, execReqRun]
  refine act_does hb ?_
  rw [State.withQueue_fld, State.posted_fld, State.withQueue_clk, State.posted_clk]
  exact State.reqState_awake 0 (by decide) hpend hclamp

theorem exec_reqDoze_dozes {s : State} (hb : s.booted = true) (hpend : s.bit PWR_STAT_PENDING = false)
    (hclamp : s.clampField (.hall 0x088) PWR_CTRL_REQ 1 = 1) :
    ∃ t, exec .reqDoze s = .next t ∧ t.fld PWR_STAT_STATE = 1 ∧ t.clk.prior = 1 := by
  rw [exec_reqDoze, execReqDoze]
  refine act_does hb ?_
  rw [State.withQueue_fld, State.posted_fld, State.withQueue_clk, State.posted_clk]
  exact State.reqState_awake 0 (by decide) hpend hclamp

theorem exec_reqSleep_begins {s : State} {a : BitVec 10} (hb : s.booted = true) (hcode : s.reqRefusal 2 a = 0)
    (hclamp : s.clampField (.hall 0x088) PWR_CTRL_REQ 2 = 2) :
    ∃ t, exec (.reqSleep a) s = .next t ∧ t.bit PWR_STAT_PENDING = true ∧ t.fld PWR_STAT_STATE = 2 ∧
      t.clk.target = 2 ∧ t.clk.step = 1 := by
  rw [exec_reqSleep, execReqSleep]
  refine act_does hb ?_
  rw [State.withQueue_bit, State.posted_bit, State.withQueue_fld, State.posted_fld, State.withQueue_clk, State.posted_clk]
  exact State.reqState_low (by decide) (by decide) hcode hclamp

theorem exec_reqStandby_begins {s : State} {a : BitVec 10} (hb : s.booted = true) (hcode : s.reqRefusal 3 a = 0)
    (hclamp : s.clampField (.hall 0x088) PWR_CTRL_REQ 3 = 3) :
    ∃ t, exec (.reqStandby a) s = .next t ∧ t.bit PWR_STAT_PENDING = true ∧ t.fld PWR_STAT_STATE = 3 ∧
      t.clk.target = 3 ∧ t.clk.step = 1 := by
  rw [exec_reqStandby, execReqStandby]
  refine act_does hb ?_
  rw [State.withQueue_bit, State.posted_bit, State.withQueue_fld, State.posted_fld, State.withQueue_clk, State.posted_clk]
  exact State.reqState_low (by decide) (by decide) hcode hclamp

theorem exec_entrySequenceStep_sleeps {s : State} (hb : s.booted = true) (hpend : s.bit PWR_STAT_PENDING = true)
    (hstep : s.clk.step = 5) (htarget : s.clk.target = 2) :
    ∃ t, exec .entrySequenceStep s = .next t ∧ t.clk.step = 6 ∧ t.clk.phase = .sleep ∧ t.clk.retTb = s.tb ∧
      t.bit CLK_STAT_XTAL_OK = false ∧ t.bit CLK_STAT_PLL_LOCK = false := by
  rw [exec_entrySequenceStep, execEntrySequenceStep]
  refine act_does (by simp [hb, hpend, hstep]) ?_
  have hoff (u : State) (f : Clk → Clk) : (((u.off CLK_STAT_XTAL_OK).off CLK_STAT_PLL_LOCK).onClk f).bit CLK_STAT_XTAL_OK = false ∧
      (((u.off CLK_STAT_XTAL_OK).off CLK_STAT_PLL_LOCK).onClk f).bit CLK_STAT_PLL_LOCK = false :=
    ⟨(State.bit_off_apart (u.off CLK_STAT_XTAL_OK) _ _ (by decide)).trans (State.bit_off_same _ (by decide)),
      State.bit_off_same (u.off CLK_STAT_XTAL_OK) (by decide)⟩
  rw [State.withQueue_bit, State.withQueue_bit, State.posted_bit, State.posted_bit, State.withQueue_clk, State.posted_clk]
  unfold State.entryStep
  simp only [hstep]
  refine ⟨congrArg (· + 1) hstep, ?_, rfl, hoff _ _⟩
  exact if_neg fun h => absurd (htarget.symm.trans h) (by decide)

theorem exec_entrySequenceStep_waits {s : State} {g : List JRec} (hb : s.booted = true) (hpend : s.bit PWR_STAT_PENDING = true)
    (hstep : s.clk.step = 1) (hjnl : s.jnl.cmd = some g) :
    ∃ t, exec .entrySequenceStep s = .next t ∧ t.clk.step = 1 := by
  rw [exec_entrySequenceStep, execEntrySequenceStep]
  refine act_does (by simp [hb, hpend, hstep]) ?_
  rw [State.withQueue_clk, State.posted_clk]
  unfold State.entryStep
  simp only [hstep, hjnl, Option.isSome_some, if_true]

/-- A wake source in SLEEP marks its cause and starts the wake. -/
theorem State.wakeBy_wakes {s : State} (mark : State → State) (hphase : s.clk.phase = .sleep) :
    (s.wakeBy mark).clk.phase = .waking ∧ (∀ g, (s.wakeBy mark).fld g = (mark s).fld g) ∧
      ∀ p, (s.wakeBy mark).room p = (mark s).room p := by
  unfold State.wakeBy
  rw [hphase]
  exact ⟨rfl, fun _ => rfl, fun _ => rfl⟩

/-- A command that wakes the chip for one cause. -/
theorem act_wakes {s : State} {c : Bool} {f : Field} (hc : c = true) (hphase : s.clk.phase = .sleep) (hfits : f.fits = true)
    (hwidth : f.width ≠ 0) :
    ∃ t, act s c (fun s => s.wakeBy fun s => s.on f) = .next t ∧ t.clk.phase = .waking ∧ t.bit f = true := by
  refine act_does hc ?_
  obtain ⟨hwaking, hfld, -⟩ := State.wakeBy_wakes (s := s) (fun s => s.on f) hphase
  rw [State.withQueue_bit, State.posted_bit, State.withQueue_clk, State.posted_clk, State.bit_eq, hfld]
  exact ⟨hwaking, State.bit_on s hfits hwidth⟩

theorem exec_wakeN_wakes {s : State} (hen : s.bit WAKE_EN_WAKE_PIN = true) (hphase : s.clk.phase = .sleep) :
    ∃ t, exec .wakeN s = .next t ∧ t.clk.phase = .waking ∧ t.bit WAKE_CAUSE_WAKE_PIN = true := by
  rw [exec_wakeN, execWakeN]
  exact act_wakes hen hphase (by decide) (by decide)
theorem exec_keyWake_wakes {s : State} (hen : s.bit WAKE_EN_KEY = true) (hphase : s.clk.phase = .sleep) :
    ∃ t, exec .keyWake s = .next t ∧ t.clk.phase = .waking ∧ t.bit WAKE_CAUSE_KEY = true := by
  rw [exec_keyWake, execKeyWake]
  exact act_wakes hen hphase (by decide) (by decide)
theorem exec_alarm_wakes {s : State} (hen : s.bit WAKE_EN_ALARM = true) (halarm : s.alarm = true) (hphase : s.clk.phase = .sleep) :
    ∃ t, exec .alarm s = .next t ∧ t.clk.phase = .waking ∧ t.bit WAKE_CAUSE_ALARM = true := by
  rw [exec_alarm, execAlarm]
  exact act_wakes (by rw [hen, halarm, Bool.and_self]) hphase (by decide) (by decide)
theorem exec_fireWake_wakes {s : State} (htarget : s.clk.target = 2) (hphase : s.clk.phase = .sleep) :
    ∃ t, exec .fireWake s = .next t ∧ t.clk.phase = .waking ∧ t.bit WAKE_CAUSE_FIRE = true := by
  rw [exec_fireWake, execFireWake]
  exact act_wakes (decide_eq_true htarget) hphase (by decide) (by decide)
theorem exec_hlWake_wakes {s : State} {n : Fin 2} (hen : s.bit WAKE_EN_HL = true) (htarget : s.clk.target = 2)
    (hphase : s.clk.phase = .sleep) :
    ∃ t, exec (.hlWake n) s = .next t ∧ t.clk.phase = .waking ∧ t.bit WAKE_CAUSE_HL = true := by
  rw [exec_hlWake, execHlWake]
  exact act_wakes (by rw [hen, Bool.true_and]; exact decide_eq_true htarget) hphase (by decide) (by decide)
theorem exec_porchWake_wakes {s : State} (hen : s.bit WAKE_EN_PORCH = true) (htarget : s.clk.target = 2)
    (hphase : s.clk.phase = .sleep) :
    ∃ t, exec .porchWake s = .next t ∧ t.clk.phase = .waking ∧ t.bit WAKE_CAUSE_PORCH = true := by
  rw [exec_porchWake, execPorchWake]
  exact act_wakes (by rw [hen, Bool.true_and]; exact decide_eq_true htarget) hphase (by decide) (by decide)

/-! ### The sampling window of the CC lines -/

/-- The ports that a sampling window sees with a level above the first. -/
abbrev State.seenLines (s : State) (lv : List (Fin 48 × Fin 8 × Fin 8)) : List (Fin 48 × Fin 8 × Fin 8) :=
  lv.filter fun x => s.pl.whole x.1.val && (s.room x.1).bit CTRL_ENABLE &&
    (s.room x.1).sampled (s.env x.1) x.2.1.val x.2.2.val

theorem foldl_min_le_start (l : List (Fin 48 × Fin 8 × Fin 8)) (m : Nat) : l.foldl (fun m x => min m x.1.val) m ≤ m := by
  induction l generalizing m with
  | nil => exact le_rfl
  | cons y l ih => exact le_trans (ih _) (Nat.min_le_left _ _)
theorem foldl_min_le {l : List (Fin 48 × Fin 8 × Fin 8)} {x : Fin 48 × Fin 8 × Fin 8} (m : Nat) (hx : x ∈ l) :
    l.foldl (fun m x => min m x.1.val) m ≤ x.1.val := by
  induction l generalizing m with
  | nil => cases hx
  | cons y l ih =>
    rcases List.mem_cons.1 hx with rfl | hl
    · exact le_trans (foldl_min_le_start l _) (Nat.min_le_right m x.1.val)
    · exact ih _ hl

/-- A Room takes the levels that its sample sees. -/
def State.markWake (s : State) (x : Fin 48 × Fin 8 × Fin 8) : State :=
  s.onRoom x.1 fun r => r.onCc fun c => { c with wake := some (s.now, x.2.1.val, x.2.2.val) }

theorem State.markWake_marks {l : List (Fin 48 × Fin 8 × Fin 8)} {x : Fin 48 × Fin 8 × Fin 8} (s : State) (hx : x ∈ l) :
    ((l.foldl State.markWake s).room x.1).cc.wake.isSome = true := by
  have hself (u : State) : ((u.markWake x).room x.1).cc.wake.isSome = true := by
    rw [State.markWake, State.room_onRoom]
    rfl
  have hkeep (u : State) (y : Fin 48 × Fin 8 × Fin 8) (h : (u.room x.1).cc.wake.isSome = true) :
      ((u.markWake y).room x.1).cc.wake.isSome = true :=
    State.room_onRoom_cases (P := fun r => r.cc.wake.isSome = true) h rfl
  exact List.foldl_establishes hx hself hkeep s

theorem State.clk_markWake (s : State) (l : List (Fin 48 × Fin 8 × Fin 8)) : (l.foldl State.markWake s).clk = s.clk :=
  List.foldlRecOn (motive := fun t : State => t.clk = s.clk) l State.markWake rfl fun _ ht _ _ => ht

/-- The wake for the levels that a window has seen, with the lowest port. -/
theorem State.wakeBy_markWake {s : State} {l : List (Fin 48 × Fin 8 × Fin 8)} {x : Fin 48 × Fin 8 × Fin 8} {low : Nat}
    (hphase : s.clk.phase = .sleep) (hx : x ∈ l) (hlow : low ≤ x.1.val) :
    ((l.foldl State.markWake s).wakeBy fun s => (s.on WAKE_CAUSE_CC).put WAKE_CAUSE_CC_PORT low).clk.phase = .waking ∧
      ((l.foldl State.markWake s).wakeBy fun s => (s.on WAKE_CAUSE_CC).put WAKE_CAUSE_CC_PORT low).bit WAKE_CAUSE_CC = true ∧
      ((l.foldl State.markWake s).wakeBy fun s => (s.on WAKE_CAUSE_CC).put WAKE_CAUSE_CC_PORT low).fld WAKE_CAUSE_CC_PORT ≤ x.1.val ∧
      (((l.foldl State.markWake s).wakeBy fun s => (s.on WAKE_CAUSE_CC).put WAKE_CAUSE_CC_PORT low).room x.1).cc.wake.isSome = true := by
  obtain ⟨hwaking, hfld, hroom⟩ := State.wakeBy_wakes (s := l.foldl State.markWake s)
    (fun s => (s.on WAKE_CAUSE_CC).put WAKE_CAUSE_CC_PORT low) (by rw [State.clk_markWake, hphase])
  rw [State.bit_eq, hfld, hfld, hroom, hwaking, State.fld_put_apart _ _ _ _ (by decide), State.fld_on _ (by decide) (by decide),
    State.fld_put _ _ _ (by decide)]
  exact ⟨rfl, rfl, le_trans (Nat.mod_le _ _) hlow, State.markWake_marks s hx⟩

theorem exec_ccSamplingWindow_wakes {s : State} {lv : List (Fin 48 × Fin 8 × Fin 8)} {p : Fin 48} {l1 l2 : Fin 8}
    (hen : s.bit WAKE_EN_CC = true) (hphase : s.clk.phase = .sleep) (htarget : s.clk.target = 2)
    (hper : s.clk.ccPer ≠ some s.clk.period) (hmem : (p, l1, l2) ∈ lv) (hwhole : s.pl.whole p.val = true)
    (hport : (s.room p).bit CTRL_ENABLE = true) (hsample : (s.room p).sampled (s.env p) l1.val l2.val = true) :
    ∃ t, exec (.ccSamplingWindow lv) s = .next t ∧ t.clk.phase = .waking ∧ t.bit WAKE_CAUSE_CC = true ∧
      t.fld WAKE_CAUSE_CC_PORT ≤ p.val ∧ (t.room p).cc.wake.isSome = true := by
  have hseen : (p, l1, l2) ∈ s.seenLines lv := List.mem_filter.2 ⟨hmem, by simp [hwhole, hport, hsample]⟩
  have hnone : (s.seenLines lv).isEmpty = false := List.isEmpty_eq_false_iff.2 (List.ne_nil_of_mem hseen)
  have hlow := foldl_min_le 47 hseen
  rw [exec_ccSamplingWindow, execCcSamplingWindow]
  refine act_does (by simp [State.lowState, htarget, hphase, hper]) ?_
  have hslept : (s.onClk fun c => { c with ccPer := some c.period }).clk.phase = .sleep := hphase
  have hon : (s.onClk fun c => { c with ccPer := some c.period }).bit WAKE_EN_CC = true := hen
  dsimp only
  rw [if_pos hphase, hnone, Bool.or_false, hon, if_neg (by decide), if_pos hslept, State.withQueue_bit, State.posted_bit,
    State.withQueue_fld, State.posted_fld, State.withQueue_clk, State.posted_clk, State.withQueue_room, State.posted_room]
  exact State.wakeBy_markWake hslept hseen hlow

theorem exec_sleepWake_runs {s : State} (hphase : s.clk.phase = .waking) (hlock : s.bit CLK_STAT_PLL_LOCK = true) :
    ∃ t, exec .sleepWake s = .next t ∧ t.clk.phase = .run ∧ t.bit PWR_STAT_PENDING = false ∧ t.clk.target = 0 := by
  rw [exec_sleepWake, execSleepWake]
  refine act_does (by simp [hphase, hlock]) ?_
  extract_lets run shown again linked
  have hclk : (State.wakePorts (linked.allSlots State.slotWake)).clk = linked.clk :=
    (State.wakePorts_spared (o := .part .clk) (by decide)
      (State.allSlots_spared (fun t b h => State.slotWake_spared (by decide) h) (.refl _ _))).same
  have hpend : (State.wakePorts (linked.allSlots State.slotWake)).bit PWR_STAT_PENDING = linked.bit PWR_STAT_PENDING :=
    (State.wakePorts_spared (o := .reg PWR_STAT_PENDING) (by decide)
      (State.allSlots_spared (fun t b h => State.slotWake_spared (by decide) h) (.refl _ _))).bit
  rw [State.withQueue_clk, State.posted_clk, State.withQueue_bit, State.posted_bit, hclk, hpend]
  refine ⟨rfl, ?_, rfl⟩
  exact (State.bit_put_apart _ _ _ _ (by decide)).trans ((State.bit_put_apart _ _ _ _ (by decide)).trans (State.bit_off_same _ (by decide)))

theorem exec_standbyExit_resets {s : State} (hphase : s.clk.phase = .standby) (hstep : s.clk.step = 9) :
    ∃ t, exec .standbyExit s = .next t ∧ t.bit RESET_CAUSE_STANDBY_EXIT = true ∧ t.clk.phase = .reset := by
  rw [exec_standbyExit, execStandbyExit]
  refine act_does (by simp [hphase, hstep]) ?_
  rw [State.withQueue_bit, State.posted_bit, State.withQueue_clk, State.posted_clk]
  exact ⟨State.bit_on s.mainReset (by decide) (by decide), rfl⟩

/-- Settles O19: requests, the entry sequence, the eight wake sources and the two ends of a low state. -/
theorem powerStates : Obligations.PowerStates :=
  ⟨fun _ => exec_reqRun_runs, fun _ => exec_reqDoze_dozes, fun _ _ => exec_reqSleep_begins, fun _ _ => exec_reqStandby_begins,
    fun _ => exec_entrySequenceStep_sleeps, fun _ _ => exec_entrySequenceStep_waits, fun _ => exec_wakeN_wakes,
    fun _ _ _ _ _ => exec_ccSamplingWindow_wakes, fun _ => exec_keyWake_wakes, fun _ => exec_alarm_wakes,
    fun _ => exec_fireWake_wakes, fun _ _ => exec_hlWake_wakes, fun _ => exec_porchWake_wakes, fun _ => exec_sleepWake_runs,
    fun _ => exec_standbyExit_resets⟩

end Sys2Proof.Machine

namespace Sys2Proof.Machine

set_option Elab.async false

/-! ## Clock failures, the slow clock and the resets (R68 to R77, R411 to R414) -/

/-- Entering the safe state leaves every Room that is safe so. -/
theorem State.safe_enterSafe_of {s : State} {p q : Fin 48} (f : Field) (retry : Bool) (h : (s.room p).safe = true) :
    ((s.enterSafe q f retry).room p).safe = true := by
  rw [State.enterSafe, (State.gangLevel_spares _ _ _ .safe).eq_safe]
  exact State.room_onRoomE_cases (P := fun r => r.safe = true) h fun e => Room.safe_enterSafe ..

theorem State.escalate_hall (s : State) (q : Fin 48) : (s.escalate q).clk = s.clk ∧ (s.escalate q).plan = s.plan :=
  ⟨(State.escalate_spared (o := .part .clk) (by decide) (.refl _ _)).same,
    (State.escalate_spared (o := .part .plan) (by decide) (.refl _ _)).same⟩

theorem State.safe_escalateAll {s : State} {p : Fin 48} {ps : List (Fin 48)} (hb : s.booted = true) (hw : s.pl.whole p.val = true)
    (hp : p ∈ ps) : ((s.escalateAll ps).room p).safe = true := by
  refine List.foldl_establishes
    (P := fun t : State => t.clk = s.clk ∧ t.plan = s.plan → (t.room p).safe = true) hp (fun t hhall => ?_) (fun t q ht hhall => ?_) s
    ((List.foldlRecOn (motive := fun t : State => t.clk = s.clk ∧ t.plan = s.plan) ps State.escalate ⟨rfl, rfl⟩ fun t ht q _ =>
      ⟨(State.escalate_hall t q).1.trans ht.1, (State.escalate_hall t q).2.trans ht.2⟩) :)
  · have hclk : t.clk = s.clk := (State.escalate_hall t p).1.symm.trans hhall.1
    have hpl : t.pl = s.pl := congrArg (Option.getD · Plan.none) ((State.escalate_hall t p).2.symm.trans hhall.2)
    unfold State.escalate
    rw [hpl, if_pos hw]
    refine State.safe_enterSafe ?_ _ _
    rw [State.whole, hpl, hw, State.booted, hclk]
    exact (Bool.and_true _).trans hb
  · have hsafe := ht ⟨(State.escalate_hall t q).1.symm.trans hhall.1, (State.escalate_hall t q).2.symm.trans hhall.2⟩
    unfold State.escalate
    split
    · exact State.safe_enterSafe_of _ _ hsafe
    · exact hsafe

/-- Every present slot off. -/
def State.offSlot (s : State) (b : Fin 6) : State := if (s.pl.slot b.val).present then s.slotTo b hOff false else s

theorem State.offSlot_spared {o : Look} {s : State} (ho : Cell.clear State.slotToC o = true) (b : Fin 6) : State.Spares o s (s.offSlot b) := by
  unfold State.offSlot
  split
  · exact State.slotTo_spared ho (.refl _ _)
  · exact .refl _ _
theorem State.plan_offSlot (s : State) (b : Fin 6) : (s.offSlot b).plan = s.plan :=
  (State.offSlot_spared (o := .part .plan) (by decide) b).same
theorem State.land_slotTo_ne (s : State) {b c : Fin 6} (st : Nat) (fast : Bool) (h : b ≠ c) : (s.slotTo b st fast).land c = s.land c := by
  unfold State.slotTo
  dsimp only
  split
  · exact ((State.holdSlot_spared (o := .land c) rfl (.refl _ _)).same).trans (State.land_onLand_ne _ _ _ _ h)
  · exact State.land_onLand_ne _ _ _ _ h
theorem State.off_offSlot {s : State} {b c : Fin 6} (h : (s.land c).st = hOff) : ((s.offSlot b).land c).st = hOff := by
  unfold State.offSlot
  split
  · by_cases hbc : b = c
    · subst hbc
      exact State.st_slotTo s b false (by decide)
    · rwa [State.land_slotTo_ne _ _ _ hbc]
  · exact h

theorem State.off_foldl_offSlot {s : State} {b : Fin 6} (hb : (s.pl.slot b.val).present = true) :
    (((List.finRange 6).foldl State.offSlot s).land b).st = hOff := by
  refine List.foldl_establishes (P := fun t : State => t.plan = s.plan → (t.land b).st = hOff) (List.mem_finRange b)
    (fun t hplan => ?_) (fun t c ht hplan => ?_) s
    (List.foldlRecOn (motive := fun t : State => t.plan = s.plan) _ State.offSlot rfl fun t ht c _ =>
      (State.plan_offSlot t c).trans ht)
  · have hpl : t.pl = s.pl := congrArg (Option.getD · Plan.none) ((State.plan_offSlot t b).symm.trans hplan)
    unfold State.offSlot
    rw [hpl, if_pos hb]
    exact State.st_slotTo t b false (by decide)
  · exact State.off_offSlot (ht ((State.plan_offSlot t c).symm.trans hplan))

/-- The safe states of a clock failure: every port and every slot. -/
def State.clockSafe (s : State) : State := (List.finRange 6).foldl State.offSlot (s.escalateAll (List.finRange 48))

/-- What both safe states of a clock failure leave: that of the ports and that of the slots. -/
theorem State.clockSafe_spared {o : Look} {s : State} (hports : Cell.clear State.escalateAllC o = true)
    (hslots : Cell.clear State.slotToC o = true) : State.Spares o s s.clockSafe :=
  List.foldlRecOn (motive := fun t : State => State.Spares o s t) _ State.offSlot (State.escalateAll_spared hports (.refl _ _))
    fun _ ht b _ => ht.trans (State.offSlot_spared hslots b)

theorem State.safe_clockSafe {s : State} {p : Fin 48} (hb : s.booted = true) (hp : s.pl.whole p.val = true) :
    (s.clockSafe.room p).safe = true :=
  List.foldlRecOn (motive := fun t : State => (t.room p).safe = true) _ State.offSlot
    (State.safe_escalateAll hb hp (List.mem_finRange p)) fun _ ht b _ => (State.offSlot_spared (o := .roomPart p .safe) rfl b).same.trans ht

theorem State.off_clockSafe {s : State} {b : Fin 6} (hb : (s.pl.slot b.val).present = true) : (s.clockSafe.land b).st = hOff := by
  refine State.off_foldl_offSlot ?_
  rw [State.pl, (State.escalateAll_spared (o := .part .plan) (by decide +kernel) (.refl _ _)).same]
  exact hb

theorem exec_clockFailure_safes {s : State} (hb : s.booted = true) (hpair : s.pairMode = false) (hfail : s.clk.failAt = none) :
    ∃ t, exec (.clockFailure true) s = .next t ∧ t.clk.failAt = some s.now ∧ t.bit CLK_STAT_XTAL_OK = false ∧
      (∀ p : Fin 48, s.pl.whole p.val = true → (t.room p).safe = true) ∧
      (∀ b : Fin 6, (s.pl.slot b.val).present = true → (t.land b).st = hOff) := by
  rw [exec_clockFailure, execClockFailure]
  refine act_does (by rw [hfail, State.clocked, show decide (s.clk.phase = .run) = true from hb]; rfl) ?_
  extract_lets failed
  have hb' : failed.booted = true := hb
  have hpair' : failed.pairMode = false := hpair
  have hsafe : (List.finRange 6).foldl (fun s b => if (s.pl.slot b.val).present then s.slotTo b hOff false else s)
      (failed.escalateAll (List.finRange 48)) = failed.clockSafe := rfl
  rw [hb', hpair', Bool.not_true, if_neg Bool.false_ne_true, if_neg Bool.false_ne_true, hsafe, State.withQueue_bit,
    State.posted_bit, State.withQueue_clk, State.posted_clk]
  simp only [State.withQueue_room, State.posted_room, State.withQueue_land, State.posted_land]
  refine ⟨?_, ?_, fun p hp => State.safe_clockSafe hb' hp, fun b hb => State.off_clockSafe hb⟩
  · rw [(State.clockSafe_spared (o := .part .clk) (by decide +kernel) (by decide +kernel)).same]
    rfl
  · exact (State.clockSafe_spared (o := .reg CLK_STAT_XTAL_OK) (s := failed) (by decide +kernel) (by decide +kernel)).bit.trans
      (State.bit_off_same _ (by decide))

theorem State.chipReset_shows (s : State) {f : Field} (hfits : f.fits = true) (hwidth : f.width ≠ 0) (hne : f ≠ RESET_CAUSE_DEBUG) :
    (s.chipReset f).bit f = true ∧ (s.chipReset f).clk.phase = .reset := by
  unfold State.chipReset
  dsimp only
  rw [if_neg hne]
  split
  · exact ⟨State.bit_on s.mainReset hfits hwidth, rfl⟩
  · exact ⟨State.bit_on s.mainReset hfits hwidth, rfl⟩

/-- A command that resets the chip for one cause. -/
theorem act_resets {s : State} {c : Bool} {f : Field} (hc : c = true) (hfits : f.fits = true) (hwidth : f.width ≠ 0)
    (hne : f ≠ RESET_CAUSE_DEBUG) :
    ∃ t, act s c (fun s => s.chipReset f) = .next t ∧ t.bit f = true ∧ t.clk.phase = .reset := by
  refine act_does hc ?_
  rw [State.withQueue_bit, State.posted_bit, State.withQueue_clk, State.posted_clk]
  exact State.chipReset_shows s hfits hwidth hne

theorem exec_clkFail_resets {s : State} (hc : s.clocked = true) (hdue : due s.now s.clk.failAt 10 = true) :
    ∃ t, exec .clkFail s = .next t ∧ t.bit RESET_CAUSE_CLK_FAIL = true ∧ t.clk.phase = .reset := by
  rw [exec_clkFail, execClkFail]
  exact act_resets (by rw [hc, hdue]; rfl) (by decide) (by decide) (by decide)

theorem exec_slowXtalSelect_selects (s : State) : ∃ t, exec .slowXtalSelect s = .next t ∧ t.bit CLK_STAT_SLOW_XTAL_OK = true ∧
    t.bit CLK_STAT_SLOW_SRC = (s.bit CLK_STAT_SLOW_SRC || !s.bit CLK_CTRL_SLOW_SEL) := by
  rw [exec_slowXtalSelect, execSlowXtalSelect]
  refine act_does rfl ?_
  dsimp only
  rw [State.withQueue_bit, State.posted_bit, State.withQueue_bit, State.posted_bit, State.bit_on_apart s _ CLK_CTRL_SLOW_SEL (by decide)]
  cases s.bit CLK_CTRL_SLOW_SEL with
  | true =>
    rw [if_pos rfl, Bool.not_true, Bool.or_false]
    exact ⟨State.bit_on s (by decide) (by decide), State.bit_on_apart s _ _ (by decide)⟩
  | false =>
    rw [if_neg Bool.false_ne_true, Bool.not_false, Bool.or_true]
    exact ⟨(State.bit_on_apart _ _ _ (by decide)).trans (State.bit_on s (by decide) (by decide)), State.bit_on _ (by decide) (by decide)⟩

theorem exec_slowSwitch_switches {s : State} (hok : s.bit CLK_STAT_SLOW_XTAL_OK = true) (hsrc : s.bit CLK_STAT_SLOW_SRC = true) :
    ∃ t, exec .slowSwitch s = .next t ∧ t.bit CLK_STAT_SLOW_XTAL_OK = false ∧ t.bit CLK_STAT_SLOW_SRC = false ∧
      t.bit WAKE_CAUSE_SLOW_SWITCH = true ∧ t.clk.slow = (s.clk.slow + 4) % 2 ^ 32 := by
  rw [exec_slowSwitch, execSlowSwitch]
  refine act_does hok ?_
  dsimp only
  rw [hsrc, if_pos rfl, State.withQueue_bit, State.withQueue_bit, State.withQueue_bit, State.posted_bit, State.posted_bit,
    State.posted_bit, State.bit_onClk, State.bit_onClk, State.bit_onClk, State.bit_on_apart _ _ _ (by decide),
    State.bit_on_apart _ _ _ (by decide), State.bit_off_apart _ _ _ (by decide), State.bit_off_same _ (by decide),
    State.bit_off_same _ (by decide)]
  exact ⟨rfl, rfl, State.bit_on _ (by decide) (by decide), rfl⟩

theorem exec_rcCalibration_sets {s : State} {f : Nat} (hb : s.booted = true) (hen : s.bit CLK_CTRL_RC_CAL_EN = true)
    (hold : old s.now s.clk.calAt 1000000 = true) (hf : 0 < f) :
    ∃ t, exec (.rcCalibration f) s = .next t ∧ t.bit CLK_STAT_RC_CAL_VALID = true ∧
      t.fld RC_INC_INC = min ((2 * 65536000000 + f) / (2 * f)) (2 ^ 32 - 1) := by
  rw [exec_rcCalibration, execRcCalibration]
  refine act_does (by rw [hb, hen, hold, bne_iff_ne.2 (Nat.pos_iff_ne_zero.1 hf)]; rfl) ?_
  have hround : (roundDiv (65536000000 : Nat) f).toNat = (2 * 65536000000 + f) / (2 * f) := by
    rw [roundDiv, Int.fdiv_eq_ediv_of_nonneg _ (by omega)]
    rfl
  have hmod : min ((2 * 65536000000 + f) / (2 * f)) (2 ^ 32 - 1) % 2 ^ RC_INC_INC.width =
      min ((2 * 65536000000 + f) / (2 * f)) (2 ^ 32 - 1) :=
    Nat.mod_eq_of_lt (Nat.lt_of_le_of_lt (Nat.min_le_right _ _) (by decide))
  rw [hround, State.withQueue_bit, State.posted_bit, State.withQueue_fld, State.posted_fld, State.bit_onClk, State.fld_onClk,
    State.fld_on_apart _ _ _ (by decide), State.fld_put _ _ _ (by decide), hmod]
  exact ⟨State.bit_on _ (by decide) (by decide), rfl⟩

theorem exec_slowClockEdge_counts (s : State) (a : BitVec 10) :
    ∃ t, exec (.slowClockEdge a) s = .next t ∧ t.clk.slow = (s.clk.slow + 1) % 2 ^ 32 ∧ (s.clocked = true → t.clk.retTb = s.tb) := by
  rw [exec_slowClockEdge, execSlowClockEdge]
  exact act_does rfl ⟨rfl, fun hc => if_pos hc⟩

theorem exec_aonPor_resets (s : State) :
    ∃ t, exec .aonPor s = .next t ∧ t.regs.get 0x9C = 1 ∧ t.clk.phase = .reset ∧ t.clk.slow = 0 := by
  rw [exec_aonPor, execAonPor]
  refine act_does rfl ⟨?_, rfl, rfl⟩
  rw [State.withQueue_regs, State.posted_regs]
  unfold State.aonReset pinFields
  simp only [List.foldl_cons, List.foldl_nil]
  rw [Regs.get_put_ne _ _ _ _ (by decide), Regs.get_put_ne _ _ _ _ (by decide), Regs.get_put_ne _ _ _ _ (by decide),
    Regs.get_put_ne _ _ _ _ (by decide), Regs.get_put_ne _ _ _ _ (by decide)]
  decide +kernel

theorem exec_borCore_resets (s : State) :
    ∃ t, exec .borCore s = .next t ∧ t.bit RESET_CAUSE_BOR_CORE = true ∧ t.clk.phase = .reset := by
  rw [exec_borCore, execBorCore]
  exact act_resets rfl (by decide) (by decide) (by decide)
theorem exec_borIo_resets (s : State) :
    ∃ t, exec .borIo s = .next t ∧ t.bit RESET_CAUSE_BOR_IO = true ∧ t.clk.phase = .reset := by
  rw [exec_borIo, execBorIo]
  exact act_resets rfl (by decide) (by decide) (by decide)
theorem exec_borA_resets (s : State) :
    ∃ t, exec .borA s = .next t ∧ t.bit RESET_CAUSE_BOR_A = true ∧ t.clk.phase = .reset := by
  rw [exec_borA, execBorA]
  exact act_resets rfl (by decide) (by decide) (by decide)
theorem exec_pin_resets (s : State) {ns : Nat} {taken : Bool} (hns : 1000 ≤ ns) :
    ∃ t, exec (.pin ns taken) s = .next t ∧ t.bit RESET_CAUSE_PIN = true ∧ t.clk.phase = .reset := by
  rw [exec_pin, execPin]
  exact act_resets (by rw [decide_eq_true hns]; rfl) (by decide) (by decide) (by decide)
theorem exec_testEn_holds (s : State) : ∃ t, exec (.testEn true) s = .next t ∧ t.clk.held = true ∧ t.clk.phase = .reset := by
  rw [exec_testEn, execTestEn]
  refine act_does rfl ⟨rfl, ?_⟩
  exact (State.chipReset_shows s (f := RESET_CAUSE_PIN) (by decide) (by decide) (by decide)).2
theorem exec_testEn_frees (s : State) : ∃ t, exec (.testEn false) s = .next t ∧ t.clk.held = false := by
  rw [exec_testEn, execTestEn]
  exact act_does rfl rfl
theorem exec_resetKey_resets {s : State} (hb : s.booted = true) :
    ∃ t, exec (.resetKey 0xC3) s = .next t ∧ t.bit RESET_CAUSE_SOFT = true ∧ t.clk.phase = .reset := by
  rw [exec_resetKey, execResetKey]
  exact act_resets (f := RESET_CAUSE_SOFT) hb (by decide) (by decide) (by decide)
theorem exec_wdt_resets {s : State} (hbeat : s.beating = true) (hmiss : s.hbMissed = true) (hold : s.hbeatAt + 2 * s.hbT ≤ s.now) :
    ∃ t, exec .wdt s = .next t ∧ t.bit RESET_CAUSE_WDT = true ∧ t.clk.phase = .reset := by
  rw [exec_wdt, execWdt]
  exact act_resets (by rw [hbeat, hmiss, old, decide_eq_true hold]; rfl) (by decide) (by decide) (by decide)

theorem exec_chipResetEnd_ends {s : State} {id core io ana pin : Bool} {us : Nat} (hphase : s.clk.phase = .reset)
    (hheld : s.clk.held = false) (hup : (core && io && ana && pin) = true) (hus : 1000 ≤ us) :
    ∃ t, exec (.chipResetEnd id core io ana pin us) s = .next t ∧ t.clk.phase = .osc ∧ t.chipB = id ∧ t.bit PAIR_STAT_CHIP_B = id := by
  rw [exec_chipResetEnd, execChipResetEnd]
  simp only [Bool.and_eq_true] at hup
  obtain ⟨⟨⟨rfl, rfl⟩, rfl⟩, rfl⟩ := hup
  refine act_does (by simp [hphase, hheld, hus]) ⟨rfl, rfl, ?_⟩
  rw [State.withQueue_bit, State.posted_bit]
  exact State.bit_putB _ _ (by decide) (by decide)

theorem exec_chipResetEnd_waits {s : State} {id core io ana pin : Bool} {us : Nat} (hphase : s.clk.phase = .reset)
    (hdown : (core && io && ana && pin) = false ∨ us < 1000) :
    ∃ t, exec (.chipResetEnd id core io ana pin us) s = .next t ∧ t.clk.phase = .reset := by
  rw [exec_chipResetEnd, execChipResetEnd, act_false]
  · exact ⟨s, rfl, hphase⟩
  · rcases hdown with hdown | hus
    · have hsplit (a b c d e f g : Bool) : (a && b && c && d && e && f && g) = (a && b && (c && d && e && f) && g) := by
        simp only [Bool.and_assoc]
      rw [hsplit, hdown, Bool.and_false, Bool.false_and]
    · simp [hus]

theorem exec_xtalOk_goes {s : State} (hphase : s.clk.phase = .osc) :
    ∃ t, exec .xtalOk s = .next t ∧ t.clk.phase = .pll ∧ t.bit CLK_STAT_XTAL_OK = true := by
  rw [exec_xtalOk, execXtalOk]
  refine act_does (by rw [hphase]; rfl) ⟨if_pos hphase, ?_⟩
  rw [State.withQueue_bit, State.posted_bit]
  exact State.bit_on s (by decide) (by decide)

theorem exec_pllLock_wakes {s : State} {b : BootFlash} (hphase : s.clk.phase = .waking) (hxtal : s.bit CLK_STAT_XTAL_OK = true) :
    ∃ t, exec (.pllLock b) s = .next t ∧ t.clk.phase = .waking ∧ t.bit CLK_STAT_PLL_LOCK = true := by
  rw [exec_pllLock, execPllLock]
  refine act_does (by rw [hphase, hxtal]; rfl) ?_
  dsimp only
  rw [if_pos (show (s.on CLK_STAT_PLL_LOCK).clk.phase = .waking from hphase), State.withQueue_bit, State.posted_bit]
  exact ⟨hphase, State.bit_on s (by decide) (by decide)⟩

/-- Settles O17: each of the eighteen commands. -/
theorem clocksAndResets : Obligations.ClocksAndResets :=
  ⟨fun _ => exec_clockFailure_safes, fun _ => exec_clkFail_resets, exec_slowXtalSelect_selects, fun _ => exec_slowSwitch_switches,
    fun _ _ => exec_rcCalibration_sets, exec_slowClockEdge_counts, exec_aonPor_resets, exec_borCore_resets, exec_borIo_resets,
    exec_borA_resets, fun s _ _ => exec_pin_resets s, exec_testEn_holds, exec_testEn_frees, fun _ => exec_resetKey_resets,
    fun _ => exec_wdt_resets,
    fun _ _ _ _ _ _ _ hphase hheld => ⟨exec_chipResetEnd_ends hphase hheld, exec_chipResetEnd_waits hphase⟩,
    fun _ => exec_xtalOk_goes, fun _ _ => exec_pllLock_wakes⟩

end Sys2Proof.Machine

namespace Sys2Proof.Machine

set_option Elab.async false

/-! ## Safe states on command and for faults (R387, R606 to R612) -/

/-! ### The outputs of a Room in the safe state -/

theorem Room.inSafe_congr {r q : Room} (hsafe : q.safe = r.safe) (hforce : q.fld CTRL_FORCE_SAFE = r.fld CTRL_FORCE_SAFE) :
    q.inSafe = r.inSafe := by
  rw [Room.inSafe, Room.inSafe, hsafe, Room.bit_eq, Room.bit_eq, hforce]

theorem Room.loop_loopOff (r : Room) : r.loopOff.fld LOOP_STAT_STATE = 0 := by
  unfold Room.loopOff Room.setLoop
  dsimp only
  rw [Room.fld_onConv, Room.fld_putB_apart _ _ _ _ (by decide), Room.fld_putB_apart _ _ _ _ (by decide), Room.fld_put _ _ _ (by decide)]
  rfl

/-- A Room in the safe state turns its outputs safe. -/
theorem Room.outputsSafe_outputsOff (e : Env) {r : Room} (h : r.inSafe = true) : (r.outputsOff e).outputsSafe = true := by
  have hin : (r.loopOff.midRail.openSwitch).inSafe = true := by
    refine (Room.inSafe_congr ?_ ?_).trans h
    · exact (Room.openSwitch_spares (by decide) (Room.midRail_spares (Room.loopOff_spares (by decide) (.refl .safe r)))).eq_safe
    · simp (disch := decide) only [openSwitch_fld, midRail_fld, loopOff_fld]
  have hbar : (r.loopOff.midRail.openSwitch).vconnAllowed e = false := by
    rw [Room.vconnAllowed, Room.outOff, hin, Bool.true_or, Bool.not_true, Bool.and_false]
  have hvconn : (r.outputsOff e).bit CC_STAT_VCONN_ON = false := by
    unfold Room.outputsOff
    rw [Room.bit_eq, Room.refreshIlim_fld _ _ _ (by decide), ← Room.bit_eq, Room.vconnOn_vconn_of_barred e hbar]
  have hloop : (r.outputsOff e).loop = lOff := by
    unfold Room.outputsOff Room.loop
    simp (disch := decide) only [refreshIlim_fld, vconn_fld, openSwitch_fld, midRail_fld, loop_loopOff]
  rw [Room.outputsSafe, hvconn, hloop, Room.bit_eq, Room.fld_cmd_outputsOff]
  rfl

/-- What outputs are safe is read from three fields. -/
theorem Room.outputsSafe_congr {r q : Room} (hloop : q.fld LOOP_STAT_STATE = r.fld LOOP_STAT_STATE)
    (hcmd : q.fld SW_STAT_CMD = r.fld SW_STAT_CMD) (hvconn : q.fld CC_STAT_VCONN_ON = r.fld CC_STAT_VCONN_ON) :
    q.outputsSafe = r.outputsSafe := by
  rw [Room.outputsSafe, Room.outputsSafe, Room.loop, Room.loop, Room.bit_eq, Room.bit_eq, Room.bit_eq, Room.bit_eq, hloop, hcmd, hvconn]
theorem State.outputsSafe_gangLevel (s : State) (p q : Fin 48) : ((s.gangLevel p).room q).outputsSafe = (s.room q).outputsSafe :=
  Room.outputsSafe_congr (State.fld_gangLevel _ _ _ (by decide)) (State.fld_gangLevel _ _ _ (by decide))
    (State.fld_gangLevel _ _ _ (by decide))

theorem Room.forceSafe_forces (e : Env) (r : Room) :
    (r.forceSafe e).fld CTRL_FORCE_SAFE = 1 ∧ (r.forceSafe e).outputsSafe = true := by
  unfold Room.forceSafe
  extract_lets entered forced attempt
  have hforced : forced.fld CTRL_FORCE_SAFE = 1 := Room.fld_on _ (by decide) (by decide)
  have hattempt : (attempt.onConv fun c => { c with attAt := none, outAt := none }).fld CTRL_FORCE_SAFE = 1 := by
    rw [Room.fld_onConv]
    simp only [attempt]
    split
    · rw [Room.fld_on_apart _ _ _ (by decide), Room.fld_off_apart _ _ _ (by decide), hforced]
    · exact hforced
  refine ⟨(Room.outputsOff_fld _ _ _ (by decide)).trans hattempt, Room.outputsSafe_outputsOff e ?_⟩
  rw [Room.inSafe, Room.bit_eq, hattempt]
  exact Bool.or_true _

theorem exec_forceSafe_forces {s : State} {p : Fin 48} (hl : s.live p = true)
    (hclamp : s.clampBit (.roomReg p.val 0x004) CTRL_FORCE_SAFE true = true) :
    ∃ t, exec (.forceSafe p false true) s = .next t ∧ (t.room p).bit CTRL_FORCE_SAFE = true ∧ (t.room p).outputsSafe = true := by
  obtain ⟨hw, hk⟩ := (s.live_iff p).1 hl
  rw [exec_forceSafe, execForceSafe, if_neg Bool.false_ne_true]
  refine act_does hw ?_
  rw [hclamp, State.writeForce, hk, Bool.not_true, if_neg Bool.false_ne_true, if_pos rfl, State.withQueue_room, State.posted_room,
    State.outputsSafe_gangLevel, Room.bit_eq, State.fld_gangLevel _ _ _ (by decide), State.room_onRoomE]
  obtain ⟨hforce, hout⟩ := Room.forceSafe_forces (s.env p) (s.room p)
  exact ⟨congrArg (· != 0) hforce, hout⟩

theorem Room.releaseSafe_releases (e : Env) (r : Room) : (r.releaseSafe e).bit CTRL_FORCE_SAFE = false := by
  have hoff : (r.off CTRL_FORCE_SAFE).bit CTRL_FORCE_SAFE = false := by
    rw [Room.bit_eq, Room.fld_off _ (by decide)]
    rfl
  unfold Room.releaseSafe
  split
  · dsimp only
    split
    · exact hoff
    · rw [Room.bit_eq, Room.leaveSafe_fld _ _ _ (by decide), ← Room.bit_eq, hoff]
  · next h => exact Bool.eq_false_iff.2 h

theorem exec_forceSafe_releases {s : State} {p : Fin 48} (hl : s.live p = true)
    (hclamp : s.clampBit (.roomReg p.val 0x004) CTRL_FORCE_SAFE false = false) :
    ∃ t, exec (.forceSafe p false false) s = .next t ∧ (t.room p).bit CTRL_FORCE_SAFE = false := by
  obtain ⟨hw, hk⟩ := (s.live_iff p).1 hl
  rw [exec_forceSafe, execForceSafe, if_neg Bool.false_ne_true]
  refine act_does hw ?_
  rw [hclamp, State.writeForce, hk, Bool.not_true, if_neg Bool.false_ne_true, if_neg Bool.false_ne_true, State.withQueue_room,
    State.posted_room, Room.bit_eq, State.fld_gangLevel _ _ _ (by decide), State.room_onRoomE]
  exact Room.releaseSafe_releases _ _

theorem Room.requestSafe_requests (e : Env) (r : Room) :
    (r.requestSafe e).safe = true ∧ (r.requestSafe e).outputsSafe = true := by
  unfold Room.requestSafe
  exact ⟨(Room.outputsOff_spares (by decide) (.refl .safe _)).eq_safe, Room.outputsSafe_outputsOff e rfl⟩

theorem exec_forceSafe_core {s : State} {p : Fin 48} (hl : s.live p = true) :
    ∃ t, exec (.forceSafe p true true) s = .next t ∧ (t.room p).safe = true ∧ (t.room p).outputsSafe = true ∧
      (t.room p).bit CTRL_FORCE_SAFE = (s.room p).bit CTRL_FORCE_SAFE ∧ (t.room p).regs.get 0xC = (s.room p).regs.get 0xC := by
  rw [exec_forceSafe, execForceSafe, if_pos rfl]
  refine act_does (by rw [hl]; rfl) ?_
  obtain ⟨hsafe, hout⟩ := Room.requestSafe_requests (s.env p) (s.room p)
  have hkept {g : Field} (hreq : Field.clear Room.requestSafeW g = true) (hlevel : Field.clear Room.showLevelW g = true) :
      (((s.onRoomE p Room.requestSafe).gangLevel p).room p).fld g = (s.room p).fld g := by
    rw [State.fld_gangLevel _ _ _ hlevel, State.room_onRoomE, Room.requestSafe_fld _ _ _ hreq]
  rw [State.withQueue_room, State.posted_room]
  refine ⟨?_, ?_, congrArg (· != 0) (hkept (by decide) (by decide)), Regs.get_of_whole (hkept (by decide) (by decide))⟩
  · rw [(State.gangLevel_spares _ _ _ .safe).eq_safe, State.room_onRoomE, hsafe]
  · rw [State.outputsSafe_gangLevel, State.room_onRoomE, hout]

/-! ### RECOVER -/

/-- A Room out of its own safe state, its retries cleared (R302). -/
def Room.safeLeft (e : Env) (r : Room) : Room :=
  let q := ({ r with safe := false } : Room).retryClear
  if q.inSafe then q else (q.on EVENT_SAFE_EXIT).onConv fun c => { c with outAt := some e.now }
/-- The attach state that a Room out of its safe state starts in. -/
def Room.reentered (e : Env) (r : Room) : Room :=
  if r.slotHold then r.enterA e aDisabled
  else if r.bit CTRL_ENABLE then r.enterA e (startState e) else r.enterA e aDisabled
theorem Room.leaveSafe_eq (e : Env) (r : Room) :
    r.leaveSafe e = ((((r.safeLeft e).pdClear e).setGrant 0).reentered e |>.conClear e).off CON_STAT_RAMPING := rfl

theorem Room.reentered_fld (e : Env) (r : Room) {g : Field} (hg : Field.clear Room.enterAW g = true) :
    (r.reentered e).fld g = r.fld g := by
  unfold Room.reentered
  split_ifs <;> exact Room.enterA_fld _ _ _ _ hg
theorem Room.reentered_safe (e : Env) (r : Room) : (r.reentered e).safe = r.safe := by
  unfold Room.reentered
  split_ifs <;> exact (Room.enterA_spares (by decide) (.refl .safe r)).eq_safe

theorem Room.count_retryClear (r : Room) : r.retryClear.fld RETRY_STAT_COUNT = 0 := by
  unfold Room.retryClear
  simp (disch := decide) only [fld_onConv, fld_off_apart, fld_off]

theorem Room.safeLeft_leaves (e : Env) (r : Room) :
    (r.safeLeft e).safe = false ∧ (r.safeLeft e).fld RETRY_STAT_COUNT = 0 ∧
      (r.bit CTRL_FORCE_SAFE = false → (r.safeLeft e).fld EVENT_SAFE_EXIT = 1) := by
  have hsafe : (({ r with safe := false } : Room).retryClear).safe = false := (Room.retryClear_spares (by decide) (.refl .safe _)).eq_safe
  unfold Room.safeLeft
  dsimp only
  split
  · next h =>
    refine ⟨hsafe, Room.count_retryClear _, fun hforce => ?_⟩
    have hin : (({ r with safe := false } : Room).retryClear).inSafe = false := by
      rw [Room.inSafe, hsafe, Room.bit_eq, Room.retryClear_fld _ _ (by decide)]
      exact hforce
    exact absurd (hin.symm.trans h) Bool.false_ne_true
  · refine ⟨hsafe, ?_, fun _ => ?_⟩
    · rw [Room.fld_onConv, Room.fld_on_apart _ _ _ (by decide), Room.count_retryClear]
    · rw [Room.fld_onConv, Room.fld_on _ (by decide) (by decide)]

theorem Room.fld_leaveSafe (e : Env) (r : Room) {g : Field} (hramp : CON_STAT_RAMPING.apart g = true)
    (hcon : Field.clear Room.conClearW g = true) (henter : Field.clear Room.enterAW g = true) :
    (r.leaveSafe e).fld g = (((r.safeLeft e).pdClear e).setGrant 0).fld g := by
  rw [Room.leaveSafe_eq, Room.fld_off_apart _ _ _ hramp, Room.conClear_fld _ _ _ hcon, Room.reentered_fld _ _ henter]

theorem Room.explicit_conClear (e : Env) (r : Room) : (r.conClear e).fld PD_STAT_EXPLICIT = 0 := by
  unfold Room.conClear
  simp (disch := decide) only [implicitVi_fld, fld_onCc, fld_onCon, endResv_fld, fld_off_apart, fld_off]

theorem Room.leaveSafe_leaves (e : Env) (r : Room) :
    (r.leaveSafe e).safe = false ∧ (r.leaveSafe e).grant = 0 ∧ (r.leaveSafe e).fld RETRY_STAT_COUNT = 0 ∧
      (r.leaveSafe e).bit PD_STAT_EXPLICIT = false ∧
      (r.bit CTRL_FORCE_SAFE = false → (r.leaveSafe e).bit EVENT_SAFE_EXIT = true) := by
  obtain ⟨hsafe, hcount, hexit⟩ := Room.safeLeft_leaves e r
  refine ⟨?_, ?_, ?_, ?_, fun hforce => ?_⟩
  · rw [Room.leaveSafe_eq, Room.off_safe, (Room.conClear_spares (by decide) (.refl .safe _)).eq_safe, Room.reentered_safe,
      (Room.setGrant_spares (Room.pdClear_spares (by decide) (.refl .safe _))).eq_safe, hsafe]
  · exact (Room.fld_leaveSafe _ _ (by decide) (by decide) (by decide)).trans (Room.grant_setGrant _ (by decide))
  · rw [Room.fld_leaveSafe _ _ (by decide) (by decide) (by decide), Room.setGrant_fld _ _ _ (by decide),
      Room.pdClear_fld _ _ _ (by decide), hcount]
  · rw [Room.leaveSafe_eq, Room.bit_eq, Room.fld_off_apart _ _ _ (by decide), Room.explicit_conClear]
    rfl
  · rw [Room.bit_eq, Room.fld_leaveSafe _ _ (by decide) (by decide) (by decide), Room.setGrant_fld _ _ _ (by decide),
      Room.pdClear_fld _ _ _ (by decide), hexit hforce]
    rfl

/-- The faults set in a Room one after another. -/
theorem Room.fld_foldl_fault {l : List Field} {r : Room} {g : Field} (hev : EVENT_FAULT.apart g = true) (h : ∀ f ∈ l, f.apart g = true) :
    (l.foldl (fun r f => r.fault f) r).fld g = r.fld g :=
  List.foldlRecOn (motive := fun q : Room => q.fld g = r.fld g) l _ rfl fun q hq f hf =>
    ((Room.fld_on_apart _ _ _ hev).trans (Room.fld_on_apart _ _ _ (h f hf))).trans hq

theorem exec_recover_leaves {s : State} {p : Fin 48} (hw : s.whole p = true) (hsafe : (s.room p).safe = true)
    (hnone : s.conditions p = []) :
    ∃ t, exec (.recover p) s = .next t ∧ (t.room p).safe = false ∧ (t.room p).grant = 0 ∧
      (t.room p).fld RETRY_STAT_COUNT = 0 ∧ (t.room p).bit PD_STAT_EXPLICIT = false ∧
      ((s.room p).bit CTRL_FORCE_SAFE = false → (t.room p).bit EVENT_SAFE_EXIT = true) := by
  rw [exec_recover, execRecover]
  refine act_does hw ?_
  rw [State.withQueue_room, State.posted_room, State.recover, hsafe, hnone, Bool.not_true, if_neg Bool.false_ne_true]
  dsimp only
  rw [List.isEmpty_nil, if_pos rfl, State.room_onRoomE]
  exact Room.leaveSafe_leaves _ _

/-- The causes that a recovery looks for. -/
def recoverFaults : List Field :=
  [FAULT_OV, FAULT_SC, FAULT_EFUSE, FAULT_FET_SHORT, FAULT_THERM_TRIP, FAULT_CC_OV, FAULT_CORE_FAIL, FAULT_ESCALATED, FAULT_KEY_LOSS]

theorem State.mem_recoverFaults {s : State} {p : Fin 48} {f : Field} (h : f ∈ s.conditions p) : f ∈ recoverFaults := by
  obtain ⟨x, hx, hsome⟩ := List.mem_filterMap.1 h
  have hf : x.2 = f := by
    split at hsome
    · exact Option.some.inj hsome
    · cases hsome
  have hsnd := List.mem_map_of_mem (f := Prod.snd) hx
  rw [hf] at hsnd
  exact hsnd

theorem recoverFaults_apart : ∀ f ∈ recoverFaults, RETRY_STAT_COUNT.apart f = true ∧ f.apart RETRY_STAT_COUNT = true ∧
    EVENT_FAULT.apart f = true ∧ f.fits = true ∧ f.width ≠ 0 ∧ ∀ g ∈ recoverFaults, f = g ∨ f.apart g = true := by decide

theorem Room.foldl_fault_shows {l : List Field} (r : Room) {f : Field} (hl : ∀ g ∈ l, g ∈ recoverFaults) (hf : f ∈ l) :
    (l.foldl (fun r f => r.fault f) r).fld f = 1 := by
  obtain ⟨-, -, hev, hfits, hwidth, hother⟩ := recoverFaults_apart f (hl f hf)
  have hself (q : Room) : (q.fault f).fld f = 1 := Room.fault_shows q hfits hwidth hev
  induction l generalizing r with
  | nil => cases hf
  | cons x l ih =>
    rw [List.foldl_cons]
    by_cases hfl : f ∈ l
    · exact ih _ (fun g hg => hl g (List.mem_cons_of_mem x hg)) hfl
    · obtain rfl : f = x := (List.mem_cons.1 hf).resolve_right hfl
      refine (Room.fld_foldl_fault hev fun g hg => ?_).trans (hself r)
      have hg' := hl g (List.mem_cons_of_mem f hg)
      obtain ⟨-, -, -, -, -, hback⟩ := recoverFaults_apart g hg'
      exact (hback f (hl f hf)).resolve_left fun h => hfl (h ▸ hg)

theorem exec_recover_stays {s : State} {p : Fin 48} {f : Field} (hw : s.whole p = true) (hsafe : (s.room p).safe = true)
    (hf : f ∈ s.conditions p) :
    ∃ t, exec (.recover p) s = .next t ∧ (t.room p).safe = true ∧ (t.room p).bit f = true ∧ (t.room p).fld RETRY_STAT_COUNT = 0 := by
  rw [exec_recover, execRecover]
  refine act_does hw ?_
  have hall : ∀ g ∈ s.conditions p, g ∈ recoverFaults := fun g => State.mem_recoverFaults
  rw [State.withQueue_room, State.posted_room, State.recover, hsafe, Bool.not_true, if_neg Bool.false_ne_true]
  dsimp only
  rw [List.isEmpty_eq_false_iff.2 (List.ne_nil_of_mem hf), if_neg Bool.false_ne_true, State.room_onRoom, Room.bit_eq,
    Room.foldl_fault_shows _ hall hf,
    Room.fld_foldl_fault (g := RETRY_STAT_COUNT) (by decide) fun g hg => (recoverFaults_apart g (hall g hg)).2.1,
    Room.fld_off _ (by decide)]
  refine ⟨?_, rfl, rfl⟩
  exact List.foldlRecOn (motive := fun q : Room => q.safe = true) _ _ hsafe fun _ hq _ _ => hq

/-! ### Landings, Wings and the sense wires -/

theorem exec_adcCalibration_calibrates {s : State} {p : Fin 48} {a : Fin 2} {g o : Int} (hp : s.present p = true)
    (hok : calRejected ((s.room p).cal.getD a.val (0, 0)) (g, o) = false) :
    ∃ t, exec (.adcCalibration p a g o) s = .next t ∧ (t.room p).cal = setAt (s.room p).cal a.val (g, o) := by
  rw [exec_adcCalibration, execAdcCalibration]
  refine act_does hp ?_
  dsimp only
  rw [hok, if_neg Bool.false_ne_true, State.withQueue_room, State.posted_room, State.room_onRoom]

theorem exec_landingFault_opens {s : State} {b : Fin 6} (hl : s.slotLive b = true) (hpow : (s.land b).powered = true) :
    ∃ t, exec (.landingFault b .breaker) s = .next t ∧ (t.land b).bit HS_FAULT_BREAKER = true ∧ (t.land b).powered = false := by
  rw [exec_landingFault, execLandingFault]
  refine act_does hl ?_
  obtain ⟨hoff, -, hfld⟩ := State.slotRetry_off (s := s.onLand b fun l => l.slotFault HS_FAULT_BREAKER) (b := b)
    (State.slotLive_keeps hl) true (g := HS_FAULT_BREAKER) (by decide)
  unfold State.landFault
  dsimp only
  rw [if_pos hpow, State.withQueue_land, State.posted_land, Landing.bit_eq, hfld, State.land_onLand,
    Landing.cause_slotFault _ (by decide) (by decide) (by decide)]
  exact ⟨rfl, hoff⟩

theorem State.whole_of_booted {s : State} {p : Fin 48} (hb : s.booted = true) (hw : s.pl.whole p.val = true) : s.whole p = true := by
  rw [State.whole, hb, hw]
  rfl

theorem exec_landingShedStep_sheds {s : State} {b : Fin 6} {n : Nat} {r : Bool} (hb : s.booted = true)
    (hshed : (s.land b).shed = some (1, n, r)) (hold : n + 200 ≤ s.now) :
    ∃ t, exec (.landingShedStep b) s = .next t ∧ (t.land b).shed = some (2, s.now, r) ∧
      ∀ p : Fin 48, landOf p = b → s.pl.whole p.val = true → (s.pl.port p.val).cls = 1 → (s.room p).slotHold = false →
        (t.room p).safe = true := by
  rw [exec_landingShedStep, execLandingShedStep, hshed]
  refine act_does (by rw [hb, old, decide_eq_true hold]; rfl) ?_
  dsimp only
  rw [if_pos rfl, State.withQueue_land, State.posted_land, State.land_onLand]
  refine ⟨by rw [State.now_shedClass], fun p hland hw hcls hhold => ?_⟩
  rw [State.withQueue_room, State.posted_room]
  have hmem : p ∈ (portsOf b).filter fun p => (s.pl.port p.val).cls = 1 && !(s.room p).slotHold :=
    List.mem_filter.2 ⟨hland ▸ mem_portsOf_landOf p, by rw [hcls, hhold]; rfl⟩
  exact State.safe_escalateAll hb hw hmem

/-- An internal fault of a Landing shows, whatever it sheds (R607). -/
theorem State.landInternal_shows {s : State} {b : Fin 6} {f : Field} (hfits : f.fits = true) (hwidth : f.width ≠ 0)
    (hup : Cell.clear State.handUpC (.landFld b f) = true) (hshed : Cell.clear State.startShedC (.landFld b f) = true) :
    ((s.landInternal b f).land b).bit f = true := by
  have hon : ((s.onLand b fun l => l.on f).land b).fld f = 1 := by rw [State.land_onLand, Landing.fld_on _ hfits hwidth]
  suffices h : ((s.landInternal b f).land b).fld f = 1 from congrArg (· != 0) h
  unfold State.landInternal
  dsimp only
  split_ifs
  · exact (State.handUp_spared hup (.refl _ _)).same.trans hon
  · exact hon
  · rw [State.land_onLand]
    exact (State.startShed_spared hshed (.refl _ _)).same.trans hon

theorem landInternal_clear : ∀ f ∈ [LAND_FAULT_WDT, LAND_FAULT_PARITY], ∀ b : Fin 6,
    Cell.clear State.handUpC (.landFld b f) = true ∧ Cell.clear State.startShedC (.landFld b f) = true := by decide +kernel

theorem exec_landingSelfCheck_faults {s : State} {b : Fin 6} (hb : s.booted = true) :
    ∃ t, exec (.landingSelfCheck b) s = .next t ∧ (t.land b).bit LAND_FAULT_WDT = true := by
  rw [exec_landingSelfCheck, execLandingSelfCheck]
  refine act_does hb ?_
  rw [State.withQueue_land, State.posted_land]
  obtain ⟨hup, hshed⟩ := landInternal_clear LAND_FAULT_WDT (by decide) b
  exact State.landInternal_shows (by decide) (by decide) hup hshed

theorem mem_wingPorts (p : Fin 48) : p ∈ wingPorts (wingOf p) := List.mem_filter.2 ⟨List.mem_finRange p, decide_eq_true rfl⟩

theorem State.safe_openWingSlots (s : State) (w : Fin 2) (p : Fin 48) : ((s.openWingSlots w).room p).safe = (s.room p).safe :=
  (State.openWingSlots_spared (o := .roomPart p .safe) rfl (.refl _ _)).same

/-- A Wing in its safe state has every one of its ports in the safe state. -/
theorem State.wingSafe_safes {s : State} {w : Fin 2} (hb : s.booted = true) :
    ((s.wingSafe w).wing w).safe = true ∧ ((s.wingSafe w).wing w).withdrawAt = none ∧
      ∀ p : Fin 48, wingOf p = w → s.pl.whole p.val = true → ((s.wingSafe w).room p).safe = true := by
  unfold State.wingSafe
  refine ⟨by rw [State.wing_onWing], by rw [State.wing_onWing], fun p hwing hw => ?_⟩
  rw [State.onWing_room, State.safe_openWingSlots]
  exact State.safe_escalateAll hb hw (hwing ▸ mem_wingPorts p)

theorem exec_wingWatchdog_safes {s : State} {w : Fin 2} (hb : s.booted = true) (hpair : s.pairMode = false) :
    ∃ t, exec (.wingWatchdog w .bus) s = .next t ∧ (t.wing w).fld WING_FAULT_BUS = 1 ∧ (t.wing w).safe = true ∧
      ∀ p : Fin 48, wingOf p = w → s.pl.whole p.val = true → (t.room p).safe = true := by
  rw [exec_wingWatchdog, execWingWatchdog]
  refine act_does hb ?_
  have hpair' (f : Wing → Wing) : (s.onWing w f).pairMode = false := hpair
  dsimp only
  rw [State.wingFault, hpair', if_neg Bool.false_ne_true, State.withQueue_wing, State.posted_wing]
  obtain ⟨hsafe, -, hports⟩ := State.wingSafe_safes (s := s.onWing w fun x => x.on WING_FAULT_BUS) (w := w) hb
  refine ⟨?_, hsafe, hports⟩
  have hwing : (((s.onWing w fun x => x.on WING_FAULT_BUS).escalateAll (wingPorts w)).openWingSlots w).wing w =
      (s.onWing w fun x => x.on WING_FAULT_BUS).wing w :=
    (State.openWingSlots_spared (o := .wing w) rfl (State.escalateAll_spared rfl (.refl _ _))).same
  rw [State.wingSafe, State.wing_onWing, hwing, State.wing_onWing]
  exact Wing.fld_on _ (by decide) (by decide)

theorem exec_wingSafeDelay_safes {s : State} {w : Fin 2} (hb : s.booted = true) (hdue : due s.now (s.wing w).withdrawAt 5 = true) :
    ∃ t, exec (.wingSafeDelay w) s = .next t ∧ (t.wing w).safe = true ∧ (t.wing w).withdrawAt = none := by
  rw [exec_wingSafeDelay, execWingSafeDelay]
  refine act_does (by rw [hb, hdue]; rfl) ?_
  rw [State.withQueue_wing, State.posted_wing]
  obtain ⟨hsafe, hat, -⟩ := State.wingSafe_safes (s := s) (w := w) hb
  exact ⟨hsafe, hat⟩

/-- What a restart of a Wing does to its slots and its Rooms leaves the Wing itself. -/
theorem State.restartWing_wing (s : State) (w : Fin 2) :
    (s.restartWing w).wing w = { s.wing w with safe := false, withdrawAt := none } := by
  unfold State.restartWing
  dsimp only
  refine List.foldlRecOn (motive := fun t : State => t.wing w = { s.wing w with safe := false, withdrawAt := none }) _ _
    (List.foldlRecOn (motive := fun t : State => t.wing w = { s.wing w with safe := false, withdrawAt := none }) _ _ ?_
      fun _ ht _ _ => ht) fun t ht b _ => ?_
  · exact State.wing_onWing s w fun x => { x with safe := false, withdrawAt := none }
  · split_ifs
    · exact ht
    · refine Eq.trans ?_ ht
      exact (State.slotSettle_spared (o := .wing w) rfl (State.slotTo_spared rfl (.refl _ _))).same

theorem exec_wingRestart_restarts {s : State} {w : Fin 2} (hb : s.booted = true) :
    ∃ t, exec (.wingRestart w) s = .next t ∧ (t.wing w).safe = false ∧ (t.wing w).withdrawAt = none := by
  rw [exec_wingRestart, execWingRestart]
  refine act_does hb ?_
  rw [State.withQueue_wing, State.posted_wing, State.restartWing_wing]
  exact ⟨rfl, rfl⟩

theorem exec_parity_room {s : State} {p : Fin 48} (hw : s.whole p = true) (hpair : s.pairMode = false) :
    ∃ t, exec (.parity (.room p)) s = .next t ∧ (t.room p).bit FAULT_PARITY = true ∧ (t.room p).safe = true := by
  rw [exec_parity, execParity]
  refine act_does ?_ ?_
  · obtain ⟨hb, hpl⟩ := Bool.and_eq_true_iff.1 hw
    rw [State.present, hb, (Bool.and_eq_true_iff.1 hpl).1]
    rfl
  · rw [hpair, if_neg Bool.false_ne_true, State.withQueue_room, State.posted_room]
    exact ⟨State.cause_enterSafe hw _ (by decide) (by decide) (by decide), State.safe_enterSafe hw _ _⟩

theorem exec_parity_land {s : State} {b : Fin 6} (hb : s.booted = true) :
    ∃ t, exec (.parity (.land b)) s = .next t ∧ (t.land b).bit LAND_FAULT_PARITY = true := by
  rw [exec_parity, execParity]
  refine act_does hb ?_
  rw [State.withQueue_land, State.posted_land]
  obtain ⟨hup, hshed⟩ := landInternal_clear LAND_FAULT_PARITY (by decide) b
  exact State.landInternal_shows (by decide) (by decide) hup hshed

theorem exec_hbMiss_marks {s : State} (hbeat : s.beating = true) (hmiss : s.hbMissed = false) (hold : s.hbeatAt + s.hbT ≤ s.now) :
    ∃ t, exec .hbMiss s = .next t ∧ t.hbMissed = true ∧ t.bit HB_STAT_MISS = true := by
  rw [exec_hbMiss, execHbMiss]
  refine act_does (by rw [hbeat, hmiss, old, decide_eq_true hold]; rfl) ?_
  extract_lets missed
  have hbit : missed.bit HB_STAT_MISS = true := State.bit_on s (by decide) (by decide)
  rw [State.withQueue_hbMissed, State.posted_hbMissed, State.withQueue_bit, State.posted_bit]
  split
  · exact ⟨(State.dropKey_spared (o := .part .hbMissed) (by decide +kernel) (.refl _ _)).same,
      (State.dropKey_spared (o := .reg HB_STAT_MISS) (by decide +kernel) (.refl _ _)).bit.trans hbit⟩
  · exact ⟨rfl, hbit⟩

theorem exec_openPinTest_passes {s : State} {b : Fin 6} {k : Fin 2} {mv : Nat} (hl : s.slotLive b = true) (hmv : mv ≤ 20) :
    ∃ t, exec (.openPinTest (.land b k) mv) s = .next t ∧ (t.land b).pinFail = setAt (s.land b).pinFail k.val 0 := by
  rw [exec_openPinTest, execOpenPinTest]
  refine act_does hl ?_
  have hgood : pinFails true mv = false := decide_eq_false (Nat.not_lt.2 hmv)
  rw [hgood, State.slotPin]
  dsimp only
  rw [Bool.false_and, if_neg Bool.false_ne_true, State.withQueue_land, State.posted_land, State.land_onLand]
  rfl

theorem exec_holdEnd_ends {s : State} {p : Fin 48} (hl : s.live p = true) (hhold : (s.room p).senseHold = true)
    (hland : (s.land (landOf p)).senseHold = false) (hgood : s.pinsGood p = true) :
    ∃ t, exec (.holdEnd (.room p)) s = .next t ∧ (t.room p).senseHold = false := by
  rw [exec_holdEnd, execHoldEnd]
  refine act_does (by rw [hl, hhold, hland, hgood]; rfl) ?_
  rw [State.withQueue_room, State.posted_room, State.refreshHold, State.onLand_room, State.room_onRoomE]
  exact (Room.refreshIlim_spares (.refl .senseHold _)).eq_senseHold

/-- Settles O20: commands, faults, watchdogs and sense wires, each of the seventeen clauses. -/
theorem safeStatesAndFaults : Obligations.SafeStatesAndFaults :=
  ⟨fun _ _ => exec_forceSafe_forces, fun _ _ => exec_forceSafe_releases, fun _ _ => exec_forceSafe_core, fun _ _ => exec_recover_leaves,
    fun _ _ _ => exec_recover_stays, fun _ _ _ _ _ => exec_adcCalibration_calibrates, fun _ _ => exec_landingFault_opens,
    fun _ _ _ _ => exec_landingShedStep_sheds, fun _ _ => exec_landingSelfCheck_faults, fun _ _ => exec_wingWatchdog_safes,
    fun _ _ => exec_wingSafeDelay_safes, fun _ _ => exec_wingRestart_restarts, fun _ _ => exec_parity_room, fun _ _ => exec_parity_land,
    fun _ => exec_hbMiss_marks, fun _ _ _ _ => exec_openPinTest_passes, fun _ _ => exec_holdEnd_ends⟩

end Sys2Proof.Machine

namespace Sys2Proof.Machine

set_option Elab.async false

/-! ## Writes of a register, field by field (R9) -/

/-- Fields written one after another: a field that keeps its place among them takes the value that its writes agree on. -/
theorem Regs.fld_foldl_put {fs : List Field} {v : Regs → Field → Nat} {g : Field} {x : Nat} (m : Regs) (hg : g ∈ fs)
    (hfits : g.fits = true) (hapart : ∀ f ∈ fs, f = g ∨ f.apart g = true) (hv : ∀ m, v m g = x) :
    (fs.foldl (fun m f => m.put f (v m f)) m).fld g = x % 2 ^ g.width := by
  have hput (m : Regs) : (m.put g (v m g)).fld g = x % 2 ^ g.width := by
    rw [hv, Regs.fld_put_same _ _ _ (by simpa [Field.fits] using hfits)]
  induction fs generalizing m with
  | nil => cases hg
  | cons f fs ih =>
    rw [List.foldl_cons]
    by_cases hgs : g ∈ fs
    · exact ih _ hgs fun h hh => hapart h (List.mem_cons_of_mem f hh)
    · obtain rfl : g = f := (List.mem_cons.1 hg).resolve_right hgs
      refine Eq.trans ?_ (hput m)
      exact List.foldlRecOn (motive := fun n : Regs => n.fld g = (m.put g (v m g)).fld g) fs _ rfl fun n hn f hf =>
        (Regs.fld_put_apart _ _ _ _ ((hapart f (List.mem_cons_of_mem g hf)).resolve_left fun h => hgs (h ▸ hf))).trans hn

/-- A write of a register sets an RW field to its clamped value. -/
theorem State.fld_writeFields {s : State} {l : Loc} {locked : Bool} {v : Word} {m : Regs} {g : Field} (hg : g ∈ fieldsOf l)
    (hfits : g.fits = true) (hapart : ∀ f ∈ fieldsOf l, f = g ∨ f.apart g = true) (hacc : g.acc = .rw)
    (hkeeps : keepsOn3.contains g = false) :
    (s.writeFields l locked (fieldsOf l) v m).fld g = s.clampField l g (g.of v) % 2 ^ g.width := by
  refine Regs.fld_foldl_put (v := fun m f => s.fieldAfter l f locked (m.fld f) v) m hg hfits hapart fun m => ?_
  rw [State.fieldAfter, hacc]
  dsimp only
  rw [hkeeps, Bool.and_false, if_neg Bool.false_ne_true]

/-- Without RANGES a value within the register table's range stays as it is. -/
theorem State.clampField_of_none {s : State} {l : Loc} {f : Field} {v : Nat} (h : s.range l f = none) (hlo : f.lo ≤ v) (hhi : v ≤ f.hi) :
    s.clampField l f v = v := by
  rw [State.clampField, h]
  show clampTo f.lo f.hi v = v
  rw [clampTo, Nat.min_eq_left hhi, Nat.max_eq_right hlo]

theorem Field.of_lt (f : Field) (v : Word) : f.of v < 2 ^ f.width := BitVec.isLt _

/-- A write of a Room's register, read at one of its RW fields that RANGES leave. -/
theorem State.fld_writeReg_room {s : State} {p : Fin 48} {a : Nat} {v : Word} {g : Field} (hg : g ∈ fieldsOf (.roomReg p.val a))
    (hfits : g.fits = true) (hapart : ∀ f ∈ fieldsOf (.roomReg p.val a), f = g ∨ f.apart g = true) (hacc : g.acc = .rw)
    (hkeeps : keepsOn3.contains g = false) (hrange : s.range (.roomReg p.val a) g = none) (hlo : g.lo = 0)
    (hhi : g.hi = 2 ^ g.width - 1) :
    ((s.writeReg (.roomReg p.val a) v).room p).fld g = g.of v := by
  have hlt := Field.of_lt g v
  unfold State.writeReg State.setBank
  dsimp only
  rw [Fin.ofNat_val_eq_self, State.room_onRoom]
  refine (State.fld_writeFields hg hfits hapart hacc hkeeps).trans ?_
  rw [State.clampField_of_none hrange (by rw [hlo]; exact Nat.zero_le _) (by rw [hhi]; omega), Nat.mod_eq_of_lt hlt]

/-! ## Time base, timers, energy and captures (R410 to R430) -/

/-- What a tick does after its time base, with nothing in the receive buffers. -/
theorem State.tick_spared {o : Look} {s : State} (hc : s.clocked = true) (h0 : s.Quiet 0) (h1 : s.Quiet 1)
    (hrun : Cell.clear State.runTickC o = true) (hjnl : Cell.clear State.jnlTickC o = true) (hporch : Cell.clear State.porchTickC o = true) :
    State.Spares o ({ s with now := s.now + 1 } : State).tbTick ((s.ranTick.linkTick 0).linkTick 1).porchTick := by
  have hq0 : s.ranTick.Quiet 0 := h0.congr (State.links_ranTick s)
  have hq1 : s.ranTick.Quiet 1 := h1.congr (State.links_ranTick s)
  rw [State.linkTick_of_quiet hq0, State.linkTick_of_quiet hq1.linkSends]
  refine State.porchTick_spared hporch (State.linkSends_spared (State.linkSends_spared ?_))
  have hc' : ({ s with now := s.now + 1 } : State).clocked = true := hc
  unfold State.ranTick
  dsimp only
  rw [if_pos hc']
  exact .ite (State.jnlTick_spared hjnl (State.runTick_spared hrun (.refl _ _))) (.refl _ _)

theorem State.tb_setTb (s : State) (v : Nat) : (s.setTb v).tb = v % 2 ^ 64 := by
  have hlo : (s.setTb v).fld TB_LO_TB = v % 2 ^ 32 := by
    have hget : (s.setTb v).regs.get 0x100 = BitVec.ofNat 32 v := by
      unfold State.setTb
      rw [Store.get_set_ne _ _ (by decide), Store.get_set_same]
    show (((s.setTb v).regs.get 0x100).extractLsb' 0 32).toNat = _
    rw [hget, BitVec.extractLsb'_eq_self, BitVec.toNat_ofNat]
  have hhi : ((s.setTb v).regs.get 0x104).toNat = v / 2 ^ 32 % 2 ^ 32 := by
    unfold State.setTb
    rw [Store.get_set_same, BitVec.toNat_ofNat]
  rw [State.tb, hlo, hhi]
  omega

theorem State.tb_congr {s t : State} (hlo : t.fld TB_LO_TB = s.fld TB_LO_TB) (hhi : t.fld (.whole 0x104) = s.fld (.whole 0x104)) :
    t.tb = s.tb := by
  rw [State.tb, State.tb, hlo, Regs.get_of_whole hhi]

theorem State.now_tbTick (s : State) : s.tbTick.now = s.now := by
  unfold State.tbTick
  split <;> rfl

/-- A load that is due sets the time base in the next tick (R411). -/
theorem State.tbTick_loads {s : State} (hload : s.clk.loadDue = true) :
    s.tbTick.clk.loadDue = false ∧ s.tbTick.tb = s.fld TB_SET_LO_SET + 2 ^ 32 * s.fld TB_SET_HI_SET := by
  have hlo : s.fld TB_SET_LO_SET < 2 ^ 32 := Regs.fld_lt _ _
  have hhi : s.fld TB_SET_HI_SET < 2 ^ 32 := Regs.fld_lt _ _
  unfold State.tbTick
  rw [if_pos hload]
  generalize hv : s.fld TB_SET_LO_SET + 2 ^ 32 * s.fld TB_SET_HI_SET = v
  have hon : (((s.setTb v).on TB_CTRL_LOADED).onClk fun c => { c with loadDue := false }).tb = (s.setTb v).tb :=
    State.tb_congr (by rw [State.fld_onClk, State.fld_on_apart _ _ _ (by decide)])
      (by rw [State.fld_onClk, State.fld_on_apart _ _ _ (by decide)])
  refine ⟨rfl, hon.trans ?_⟩
  rw [State.tb_setTb]
  omega

/-- A tick keeps the time base that it has advanced, the clock state and the time. -/
theorem exec_tick_after {s : State} (hc : s.clocked = true) (h0 : (s.link 0).rx = []) (h1 : (s.link 1).rx = []) :
    ∃ t, exec .tick s = .next t ∧ t.now = s.now + 1 ∧ t.clk = ({ s with now := s.now + 1 } : State).tbTick.clk ∧
      t.tb = ({ s with now := s.now + 1 } : State).tbTick.tb := by
  have htick : exec .tick s = act s s.serving fun s => ((s.ranTick.linkTick 0).linkTick 1).porchTick := rfl
  rw [htick]
  refine act_does (by rw [State.serving, hc]; rfl) ?_
  rw [State.withQueue_now, State.posted_now, State.withQueue_clk, State.posted_clk]
  refine ⟨?_, ?_, State.tb_congr (s := ({ s with now := s.now + 1 } : State).tbTick) ?_ ?_⟩
  · refine (State.tick_spared (o := .part .now) hc h0 h1 (by decide +kernel) (by decide +kernel) (by decide)).same.trans ?_
    rw [State.now_tbTick]
  · exact (State.tick_spared (o := .part .clk) hc h0 h1 (by decide +kernel) (by decide +kernel) (by decide)).same
  · rw [State.withQueue_fld, State.posted_fld]
    exact (State.tick_spared (o := .reg TB_LO_TB) hc h0 h1 (by decide +kernel) (by decide +kernel) (by decide)).fld
  · rw [State.withQueue_fld, State.posted_fld]
    exact (State.tick_spared (o := .reg (.whole 0x104)) hc h0 h1 (by decide +kernel) (by decide +kernel) (by decide)).fld

theorem exec_tick_advances {s : State} (hc : s.clocked = true) (hload : s.clk.loadDue = false) (h0 : (s.link 0).rx = [])
    (h1 : (s.link 1).rx = []) : ∃ t, exec .tick s = .next t ∧ t.now = s.now + 1 ∧ t.tb = (s.tb + 1) % 2 ^ 64 := by
  obtain ⟨t, hexec, hnow, -, htb⟩ := exec_tick_after hc h0 h1
  refine ⟨t, hexec, hnow, htb.trans ?_⟩
  have hload' : ({ s with now := s.now + 1 } : State).clk.loadDue = false := hload
  rw [State.tbTick, hload', if_neg Bool.false_ne_true, State.tb_setTb, Nat.mod_mod]
  rfl

theorem exec_tick_loads {s : State} (hc : s.clocked = true) (hload : s.clk.loadDue = true) (h0 : (s.link 0).rx = [])
    (h1 : (s.link 1).rx = []) : ∃ t, exec .tick s = .next t ∧ t.now = s.now + 1 ∧ t.clk.loadDue = false ∧
      t.tb = s.fld TB_SET_LO_SET + 2 ^ 32 * s.fld TB_SET_HI_SET := by
  obtain ⟨t, hexec, hnow, hclk, htb⟩ := exec_tick_after hc h0 h1
  obtain ⟨hdue, hset⟩ := State.tbTick_loads (s := { s with now := s.now + 1 }) hload
  exact ⟨t, hexec, hnow, hclk ▸ hdue, htb.trans hset⟩

theorem exec_load_loads {s : State} (hb : s.booted = true) (hsched : s.scheduled = false) (hpair : s.pairMode = false) :
    ∃ t, exec .load s = .next t ∧ t.clk.loadDue = true := by
  rw [exec_load, execLoad]
  refine act_does hb ?_
  rw [State.loadTb, hsched, hpair, Bool.false_and, Bool.or_false, if_neg Bool.false_ne_true]
  rfl

/-! ### Timers -/

/-- FIRED of a block. -/
def tmrFired (k : TmrBlock) : Field := { TMR_FLAG_FIRED with off := k.flag }

/-- Each timer register lies at its own place among sixteen bytes, and so does not reach FIRED. -/
theorem apart_tmrFired (k : TmrBlock) (n : Nat) {f : Field} (h : f.off % 16 ≠ 0 ∨ 8 ≤ f.lsb) : (k.f f n).apart (tmrFired k) = true := by
  have hflag : (tmrFired k).off % 16 = 0 := by cases k <;> simp [tmrFired, TmrBlock.flag]
  have hoff : (k.f f n).off % 16 = f.off % 16 := by
    have hbase : k.base % 16 = 0 := by cases k <;> simp [TmrBlock.base]
    show (f.off + (k.base + 16 * n)) % 16 = f.off % 16
    omega
  have hlsb : (k.f f n).lsb = f.lsb := rfl
  have hfired : (tmrFired k).lsb + (tmrFired k).width = 8 := rfl
  simp only [Field.apart, Bool.or_eq_true, decide_eq_true_eq, bne_iff_ne, ne_eq]
  omega

theorem tmrOut_fired (k : TmrBlock) (m : Regs) (n : Nat) : (tmrOut k m n).fld (tmrFired k) = m.fld (tmrFired k) :=
  Regs.fld_put_apart _ _ _ _ (apart_tmrFired k n (.inr (by decide)))

theorem tmrFlag_fired (k : TmrBlock) (m : Regs) {i n : Nat} (skipped : Bool) (hi : i < 8) :
    ((tmrFlag k m n skipped).fld (tmrFired k)).testBit i = ((m.fld (tmrFired k)).testBit i || decide (n = i)) := by
  have hput (q : Regs) : (q.put (tmrFired k) (q.fld (tmrFired k) ||| 2 ^ n)).fld (tmrFired k) = (q.fld (tmrFired k) ||| 2 ^ n) % 2 ^ 8 :=
    Regs.fld_put_same _ _ _ (by show 0 + 8 ≤ 32; decide)
  have hov (q : Regs) (x : Nat) : (q.put { TMR_FLAG_OVERRUN with off := k.flag } x).fld (tmrFired k) = q.fld (tmrFired k) :=
    Regs.fld_put_apart _ _ _ _ (by simp [Field.apart, tmrFired, TMR_FLAG_OVERRUN, TMR_FLAG_FIRED])
  have hbit (x : Nat) : ((x ||| 2 ^ n) % 2 ^ 8).testBit i = (x.testBit i || decide (n = i)) := by
    rw [Nat.testBit_mod_two_pow, decide_eq_true hi, Bool.true_and, Nat.testBit_or, Nat.testBit_two_pow]
  unfold tmrFlag
  dsimp only
  split
  · refine (congrArg (Nat.testBit · i) (hput _)).trans ((hbit _).trans ?_)
    rw [hov]
  · exact (congrArg (Nat.testBit · i) (hput _)).trans (hbit _)

/-- A firing sets the bit of its timer and keeps those of the others. -/
theorem tmrFire_fired (k : TmrBlock) (tb : Nat) (m : Regs) {i n : Nat} (hi : i < 8) :
    ((tmrFire k tb m n).fld (tmrFired k)).testBit i = ((m.fld (tmrFired k)).testBit i || decide (n = i)) := by
  rw [← tmrFlag_fired k m (decide (m.fld (k.f TMR_CTRL_MODE n) = 1) && m.fld (k.f TMR_PER_VALUE n) != 0 &&
    ((tmrCount k tb m n + 2 ^ 32 - m.fld (k.f TMR_CMP_VALUE n)) % 2 ^ 32 / max (m.fld (k.f TMR_PER_VALUE n)) 1 + 1) != 1) hi]
  have hout := fun q x => Regs.fld_put_apart q (k.f TMR_CTRL_OUT n) (tmrFired k) x (apart_tmrFired k n (.inr (by decide)))
  have hdone := fun q x => Regs.fld_put_apart q (k.f TMR_CTRL_DONE n) (tmrFired k) x (apart_tmrFired k n (.inr (by decide)))
  have hcmp := fun q x => Regs.fld_put_apart q (k.f TMR_CMP_VALUE n) (tmrFired k) x (apart_tmrFired k n (.inl (by decide)))
  unfold tmrFire
  dsimp only
  split_ifs <;> simp only [tmrOut_fired, hout, hdone, hcmp]

theorem tmrReset_fired (k : TmrBlock) (m : Regs) (d : Nat) : (tmrReset k m d).fld (tmrFired k) = m.fld (tmrFired k) := by
  unfold tmrReset
  dsimp only
  split_ifs
  · rw [tmrOut_fired, Regs.fld_put_apart _ _ _ _ (apart_tmrFired k d (.inl (by decide))),
      Regs.fld_put_apart _ _ _ _ (apart_tmrFired k d (.inr (by decide))), Regs.fld_put_apart _ _ _ _ (apart_tmrFired k d (.inl (by decide)))]
  · rw [tmrOut_fired, Regs.fld_put_apart _ _ _ _ (apart_tmrFired k d (.inr (by decide))),
      Regs.fld_put_apart _ _ _ _ (apart_tmrFired k d (.inl (by decide)))]
  · rfl
theorem tmrClock_fired (k : TmrBlock) (routes : List TimerRoute) (outs : Nat) (m : Regs) (d : Nat) :
    (tmrClock k routes outs m d).fld (tmrFired k) = m.fld (tmrFired k) := by
  unfold tmrClock
  split
  · exact Regs.fld_put_apart _ _ _ _ (apart_tmrFired k d (.inl (by decide)))
  · rfl

/-- Every firing of a tick shows, whatever its routes do. -/
theorem tmrFireRoutes_fired (k : TmrBlock) (routes : List TimerRoute) (outs tb : Nat) {ns : List Nat} {m : Regs} {n : Nat} (hn : n < 8)
    (hmem : n ∈ ns) : ((tmrFireRoutes k routes outs tb ns m).fld (tmrFired k)).testBit n = true := by
  unfold tmrFireRoutes
  dsimp only
  refine List.foldlRecOn (motive := fun m : Regs => (m.fld (tmrFired k)).testBit n = true) _ _
    (List.foldlRecOn (motive := fun m : Regs => (m.fld (tmrFired k)).testBit n = true) _ _ ?_ fun m hm r _ => ?_) fun m hm r _ => ?_
  · refine List.foldl_establishes (P := fun m : Regs => (m.fld (tmrFired k)).testBit n = true) hmem (fun m => ?_) (fun m x hm => ?_) m
    · rw [tmrFire_fired k tb m hn, decide_eq_true rfl, Bool.or_true]
    · rw [tmrFire_fired k tb m hn, hm, Bool.true_or]
  · rw [tmrReset_fired, hm]
  · rw [tmrClock_fired, hm]

theorem exec_timerFire_fires {s : State} {p : Fin 48} {n : Fin 8} (hl : s.live p = true)
    (hdue : tmrDue (.room p) s.tb (s.room p).regs n.val = true) :
    ∃ t, exec (.timerFire (.room p) n) s = .next t ∧ ((t.room p).fld TMR_FLAG_FIRED).testBit n.val = true := by
  rw [exec_timerFire, execTimerFire]
  refine act_does (by rw [State.tmrRuns, hl, State.tmrRegs, hdue]; rfl) ?_
  have hmem : n.val ∈ tmrDues (.room p) s.tb (s.room p).regs := List.mem_filter.2 ⟨List.mem_range.2 n.isLt, hdue⟩
  dsimp only
  rw [State.withQueue_room, State.posted_room, State.setTmrRegs, State.room_onRoom]
  exact tmrFireRoutes_fired (.room p) _ _ _ n.isLt hmem

theorem fieldsOf_tmrCtrl : ∀ n : Fin 8, TMR_CTRL_EN.shift (0x300 + 16 * n.val) ∈ fieldsOf (.roomReg 0 (0x300 + 16 * n.val)) ∧
    (∀ f ∈ fieldsOf (.roomReg 0 (0x300 + 16 * n.val)), f = TMR_CTRL_EN.shift (0x300 + 16 * n.val) ∨
      f.apart (TMR_CTRL_EN.shift (0x300 + 16 * n.val)) = true) ∧ keepsOn3.contains (TMR_CTRL_EN.shift (0x300 + 16 * n.val)) = false := by
  decide +kernel
theorem fieldsOf_tmrCmp : ∀ n : Fin 8, TMR_CMP_VALUE.shift (0x300 + 16 * n.val) ∈ fieldsOf (.roomReg 0 (0x304 + 16 * n.val)) ∧
    (∀ f ∈ fieldsOf (.roomReg 0 (0x304 + 16 * n.val)), f = TMR_CMP_VALUE.shift (0x300 + 16 * n.val) ∨
      f.apart (TMR_CMP_VALUE.shift (0x300 + 16 * n.val)) = true) ∧ keepsOn3.contains (TMR_CMP_VALUE.shift (0x300 + 16 * n.val)) = false := by
  decide +kernel
theorem fieldsOf_tmrCnt : ∀ n : Fin 8, TMR_CNT_VALUE.shift (0x300 + 16 * n.val) ∈ fieldsOf (.roomReg 0 (0x308 + 16 * n.val)) ∧
    (∀ f ∈ fieldsOf (.roomReg 0 (0x308 + 16 * n.val)), f = TMR_CNT_VALUE.shift (0x300 + 16 * n.val) ∨
      f.apart (TMR_CNT_VALUE.shift (0x300 + 16 * n.val)) = true) ∧ keepsOn3.contains (TMR_CNT_VALUE.shift (0x300 + 16 * n.val)) = false := by
  decide +kernel

theorem of_whole_word {f : Field} (hlsb : f.lsb = 0) (hwidth : f.width = 32) (v : Word) : f.of v = v.toNat := by
  rw [Field.of, hlsb, hwidth, BitVec.extractLsb'_eq_self]

theorem Field.apart_shift (f g : Field) (d : Nat) : (f.shift d).apart (g.shift d) = f.apart g := by
  have hoff : (f.off + d != g.off + d) = (f.off != g.off) := by
    rw [Bool.eq_iff_iff, bne_iff_ne, bne_iff_ne, Ne, Nat.add_right_cancel_iff]
  unfold Field.apart Field.shift
  rw [hoff]

/-- The control write's own follow-up leaves EN. -/
theorem tmrCtrlAfter_en (k : TmrBlock) (n was : Nat) (m : Regs) :
    (tmrCtrlAfter k n was m).fld (k.f TMR_CTRL_EN n) = m.fld (k.f TMR_CTRL_EN n) := by
  have hapart {f : Field} (h : f.apart TMR_CTRL_EN = true) (q : Regs) (x : Nat) :
      (q.put (k.f f n) x).fld (k.f TMR_CTRL_EN n) = q.fld (k.f TMR_CTRL_EN n) := by
    refine Regs.fld_put_apart _ _ _ _ ?_
    rw [TmrBlock.f, TmrBlock.f, Field.apart_shift, h]
  unfold tmrCtrlAfter tmrOut
  dsimp only
  rw [hapart (by decide)]
  split
  · exact hapart (by decide) _ _
  · rfl

theorem exec_tmrCtrlWrite_writes {s : State} {p : Fin 48} {n : Fin 8} {v : Word} (hw : s.whole p = true)
    (hrange : s.range (.roomReg p.val (0x300 + 16 * n.val)) (TmrBlock.f (.room p) TMR_CTRL_EN n.val) = none) :
    ∃ t, exec (.tmrCtrlWrite (.room p) n v) s = .next t ∧
      (t.room p).fld (TmrBlock.f (.room p) TMR_CTRL_EN n.val) = TMR_CTRL_EN.of v := by
  rw [exec_tmrCtrlWrite, execTmrCtrlWrite]
  refine act_does hw ?_
  obtain ⟨hmem, hapart, hkeeps⟩ := fieldsOf_tmrCtrl n
  have hwrite := State.fld_writeReg_room (s := s) (v := v) (g := TMR_CTRL_EN.shift (0x300 + 16 * n.val)) hmem (by rfl) hapart rfl hkeeps
    hrange rfl rfl
  rw [State.withQueue_room, State.posted_room, State.writeTmr]
  dsimp only
  rw [if_neg (by simp), if_pos rfl, State.setTmrRegs, State.room_onRoom]
  refine (tmrCtrlAfter_en (.room p) n.val _ _).trans ?_
  exact hwrite

theorem exec_tmrCmpWrite_writes {s : State} {p : Fin 48} {n : Fin 8} {v : Word} (hw : s.whole p = true)
    (hrange : s.range (.roomReg p.val (0x304 + 16 * n.val)) (TmrBlock.f (.room p) TMR_CMP_VALUE n.val) = none) :
    ∃ t, exec (.tmrCmpWrite (.room p) n v) s = .next t ∧ (t.room p).fld (TmrBlock.f (.room p) TMR_CMP_VALUE n.val) = v.toNat := by
  rw [exec_tmrCmpWrite, execTmrCmpWrite]
  refine act_does hw ?_
  obtain ⟨hmem, hapart, hkeeps⟩ := fieldsOf_tmrCmp n
  have hwrite := State.fld_writeReg_room (s := s) (v := v) (g := TMR_CMP_VALUE.shift (0x300 + 16 * n.val)) hmem (by rfl) hapart rfl hkeeps
    hrange rfl rfl
  have hplace : tmrLoc (.room p) (TmrBlock.base (.room p) + 16 * n.val + 4 * 1) = .roomReg p.val (0x304 + 16 * n.val) := by
    rw [tmrLoc, TmrBlock.base]
    congr 1
    omega
  rw [State.withQueue_room, State.posted_room, State.writeTmr]
  dsimp only
  rw [if_neg (by simp), if_neg (by decide), hplace]
  exact hwrite.trans (of_whole_word rfl rfl v)

theorem exec_tmrCntWrite_writes {s : State} {p : Fin 48} {n : Fin 8} {v : Word} (hw : s.whole p = true)
    (hsrc : (s.room p).fld (TmrBlock.f (.room p) TMR_CTRL_SRC n.val) ≠ 0)
    (hrange : s.range (.roomReg p.val (0x308 + 16 * n.val)) (TmrBlock.f (.room p) TMR_CNT_VALUE n.val) = none) :
    ∃ t, exec (.tmrCntWrite (.room p) n v) s = .next t ∧ (t.room p).fld (TmrBlock.f (.room p) TMR_CNT_VALUE n.val) = v.toNat := by
  rw [exec_tmrCntWrite, execTmrCntWrite]
  refine act_does hw ?_
  obtain ⟨hmem, hapart, hkeeps⟩ := fieldsOf_tmrCnt n
  have hwrite := State.fld_writeReg_room (s := s) (v := v) (g := TMR_CNT_VALUE.shift (0x300 + 16 * n.val)) hmem (by rfl) hapart rfl hkeeps
    hrange rfl rfl
  have hplace : tmrLoc (.room p) (TmrBlock.base (.room p) + 16 * n.val + 4 * 2) = .roomReg p.val (0x308 + 16 * n.val) := by
    rw [tmrLoc, TmrBlock.base]
    congr 1
    omega
  have hcond : ¬ ((decide (2 = 2) && decide ((s.tmrRegs (.room p)).fld (TmrBlock.f (.room p) TMR_CTRL_SRC n.val) = 0)) = true) := by
    rw [decide_eq_true rfl, Bool.true_and, decide_eq_true_eq]
    exact hsrc
  rw [State.withQueue_room, State.posted_room, State.writeTmr]
  dsimp only
  rw [if_neg hcond, if_neg (by decide), hplace]
  exact hwrite.trans (of_whole_word rfl rfl v)

theorem exec_energyUpdate_adds {s : State} {p : Fin 48} (hl : s.live p = true) :
    ∃ t, exec .energyUpdate s = .next t ∧ t.room p = (s.room p).addEnergy
      ((s.room p).fld ADC_VBUS_AVG * (s.pl.members p.val).foldl (fun a m => a + s.exactCurrent m) 0) := by
  rw [exec_energyUpdate, execEnergyUpdate]
  refine act_does ?_ ?_
  · exact (Bool.and_eq_true_iff.1 ((s.live_iff p).1 hl).1).1
  · rw [State.withQueue_room, State.posted_room, State.room_mapRooms, if_pos hl]

/-! ### Captures -/

theorem exec_snapTrig_triggers {s : State} (hc : s.clocked = true) (hdrive : s.bit SNAP_CTRL_DRIVE = false) (hbars : s.snapBars = false)
    (hcap : s.snap.cap = none) : ∃ t, exec .snapTrig s = .next t ∧ t.snap.cap = some 0 := by
  rw [exec_snapTrig, execSnapTrig]
  refine act_does hc ?_
  rw [State.snapTrig, hdrive, Bool.false_and, if_neg Bool.false_ne_true, State.snapTrigger, hbars, hcap, Option.isSome_none,
    Bool.or_self, if_neg Bool.false_ne_true]
  rfl

theorem exec_snapIoEdge_triggers {s : State} (hc : s.clocked = true) (hlow : s.snapIoLow = false) (hen : s.bit SNAP_CTRL_IN_EN = true)
    (hbars : s.snapBars = false) (hcap : s.snap.cap = none) :
    ∃ t, exec (.snapIoEdge true) s = .next t ∧ t.snap.cap = some 1 ∧ t.snap.low = true := by
  rw [exec_snapIoEdge, execSnapIoEdge]
  refine act_does hc ?_
  have hen' (x : Snap) : ({ s with snap := x } : State).bit SNAP_CTRL_IN_EN = true := hen
  have hbars' : ({ s with snap := { s.snap with low := true } } : State).snapBars = false := hbars
  dsimp only
  rw [hlow, hen', if_pos (by decide), State.snapTrigger, hbars', hcap, Option.isSome_none, Bool.or_self, if_neg Bool.false_ne_true]
  exact ⟨rfl, rfl⟩

theorem exec_snapIoRelease_releases {s : State} (hc : s.clocked = true) (hdue : due s.now s.snap.drive 1 = true) :
    ∃ t, exec .snapIoRelease s = .next t ∧ t.snap.drive = none := by
  rw [exec_snapIoRelease, execSnapIoRelease]
  exact act_does (by rw [hc, hdue]; rfl) rfl

theorem State.capture_shows (s : State) {src : Nat} (hsrc : src < 4) :
    (s.capture src).fld SNAP_CTRL_SRC = src ∧ (s.capture src).fld SNAP_EPOCH_EPOCH = (s.fld SNAP_EPOCH_EPOCH + 1) % 2 ^ 32 ∧
      ∀ p : Fin 48, s.pl.whole p.val = true → ((s.capture src).room p).regs.get 0x3E0 = s.roomView p ADC_VBUS_AVG.off ∧
        ((s.capture src).room p).regs.get 0x3E8 = s.roomView p CON_VI_MV.off := by
  have hmod : src % 2 ^ SNAP_CTRL_SRC.width = src := Nat.mod_eq_of_lt hsrc
  refine ⟨?_, ?_, fun p hp => ?_⟩
  · exact (Regs.fld_put_same _ _ _ (by decide)).trans hmod
  · refine (Regs.fld_put_apart _ _ _ _ (by decide)).trans ?_
    rw [Regs.fld_set_ne _ _ _ _ (by decide), Regs.fld_set_ne _ _ _ _ (by decide)]
    show ((Store.get (Store.set _ 0x144 _) 0x144).extractLsb' 0 32).toNat = _
    rw [Store.get_set_same, BitVec.extractLsb'_eq_self, BitVec.toNat_ofNat]
  · have hroom : ((s.capture src).room p).regs = Store.set (copyViews (s.roomView p) roomShadows (s.room p).regs) 0x3D8
        (BitVec.ofNat 32 (s.fld SNAP_EPOCH_EPOCH + 1)) := by
      simp [State.capture, State.room, hp]
    rw [hroom]
    constructor <;> simp [copyViews, roomShadows, Store.get_set]

theorem exec_capture_captures {s : State} (hc : s.clocked = true) (hcap : s.snap.cap = some 1) :
    ∃ t, exec .capture s = .next t ∧ t.snap.cap = none ∧ t.snap.capAt = some s.now ∧ t.fld SNAP_CTRL_SRC = 1 ∧
      t.fld SNAP_EPOCH_EPOCH = (s.fld SNAP_EPOCH_EPOCH + 1) % 2 ^ 32 ∧
      ∀ p : Fin 48, s.pl.whole p.val = true →
        (t.room p).regs.get 0x3E0 = s.roomView p ADC_VBUS_AVG.off ∧ (t.room p).regs.get 0x3E8 = s.roomView p CON_VI_MV.off := by
  rw [exec_capture, execCapture]
  refine act_does (by rw [hc, hcap]; rfl) ?_
  have hcond : ¬ ((s.snap.drive.isSome && decide (s.snap.cap = some 0) && s.snapBars) = true) := by simp [hcap]
  obtain ⟨hsrc, hepoch, hrooms⟩ := State.capture_shows s (src := 1) (by decide)
  rw [if_neg hcond, hcap, Option.getD_some, State.withQueue_snap, State.posted_snap, State.withQueue_fld, State.posted_fld,
    State.withQueue_fld, State.posted_fld]
  simp only [State.withQueue_room, State.posted_room]
  have hkept {o : Look} := State.snapReplies_spared (o := o) (code := 0) (.refl o (s.capture 1))
  have hsnap : (State.snapReplies 0 (s.capture 1)).snap = (s.capture 1).snap := (hkept (o := .part .snap)).same
  have hroom (p : Fin 48) : (State.snapReplies 0 (s.capture 1)).room p = (s.capture 1).room p := (hkept (o := .room p)).same
  rw [hsnap, hkept.fld, hkept.fld, hsrc, hepoch]
  refine ⟨rfl, rfl, rfl, rfl, fun p hp => ?_⟩
  rw [hroom]
  exact hrooms p hp

/-- Settles O37: the time base, the timers, the energy of a period and the captures. -/
theorem timeAndCaptures : Obligations.TimeAndCaptures :=
  ⟨fun _ => exec_tick_advances, fun _ => exec_tick_loads, fun _ => exec_load_loads, fun _ _ _ => exec_timerFire_fires,
    fun _ _ _ _ => exec_tmrCtrlWrite_writes, fun _ _ _ _ => exec_tmrCmpWrite_writes, fun _ _ _ _ => exec_tmrCntWrite_writes,
    fun _ _ => exec_energyUpdate_adds, fun _ => exec_snapTrig_triggers, fun _ => exec_snapIoEdge_triggers,
    fun _ => exec_snapIoRelease_releases, fun _ => exec_capture_captures⟩

end Sys2Proof.Machine

namespace Sys2Proof.Machine

set_option Elab.async false

/-! ## The thermal models (R336 to R349, R661 to R665) -/

theorem State.model_of_hearth {s t : State} (h : t.hearth = s.hearth) (k : Nat) : t.model k = s.model k := by
  rw [State.model, State.model, h]
theorem State.model_setModel (s : State) {m : Nat} (x : Model) (h : m < s.hearth.models.length) : (s.setModel m x).model m = x := by
  simp [State.model, State.setModel, h]
theorem State.model_setModel_ne (s : State) {m k : Nat} (x : Model) (h : m ≠ k) : (s.setModel m x).model k = s.model k := by
  simp [State.model, State.setModel, h]

theorem State.hearth_showModel (s : State) (m : Nat) : (s.showModel m).hearth = s.hearth :=
  (State.showModel_spared (o := .part .hearth) (by decide) (.refl _ _)).same
theorem State.hearth_clampActs (s : State) (m : Nat) : (s.clampActs m).hearth = s.hearth :=
  (State.clampActs_spared (o := .part .hearth) (by decide +kernel) (.refl _ _)).same
theorem State.hearth_tripActs (s : State) (m : Nat) : (s.tripActs m).hearth = s.hearth :=
  (State.tripActs_spared (o := .part .hearth) (by decide +kernel) (.refl _ _)).same
theorem State.hearth_warnActs (s : State) (m : Nat) : (s.warnActs m).hearth = s.hearth :=
  (State.warnActs_spared (o := .part .hearth) (by decide +kernel) (.refl _ _)).same
theorem State.hearth_enforce (s : State) : s.enforce.hearth = s.hearth :=
  (State.enforce_spared (o := .part .hearth) (by decide +kernel) (.refl _ _)).same

/-! ### The update of the models -/

/-- The temperatures of the stages and the die's own dissipation are the same in both states. -/
def State.SameStages (s t : State) : Prop := (∀ k, (t.model k).dt = (s.model k).dt) ∧ t.hearth.die = s.hearth.die

theorem State.SameStages.refl (s : State) : s.SameStages s := ⟨fun _ => rfl, rfl⟩
theorem State.SameStages.of_hearth {s t u : State} (h : s.SameStages t) (hu : u.hearth = t.hearth) : s.SameStages u :=
  ⟨fun k => (congrArg Model.dt (State.model_of_hearth hu k)).trans (h.1 k), (congrArg Hearth.die hu).trans h.2⟩
theorem State.SameStages.setModel {s t : State} {m : Nat} {x : Model} (h : s.SameStages t) (hx : x.dt = (t.model m).dt) :
    s.SameStages (t.setModel m x) := by
  refine ⟨fun k => Eq.trans ?_ (h.1 k), h.2⟩
  by_cases hk : m = k
  · subst hk
    by_cases hlen : m < t.hearth.models.length
    · rw [State.model_setModel _ _ hlen, hx]
    · simp [State.model, State.setModel, hlen]
  · rw [State.model_setModel_ne _ _ hk]

theorem State.SameStages.modelTo {s t : State} (h : s.SameStages t) (m st : Nat) : s.SameStages (t.modelTo m st) := by
  unfold State.modelTo
  dsimp only
  refine State.SameStages.of_hearth (State.SameStages.setModel h ?_) (State.hearth_showModel _ _)
  split
  · split
    · split <;> rfl
    · rfl
  · split
    · split <;> rfl
    · rfl

theorem State.SameStages.clampModel {s t : State} (h : s.SameStages t) (m : Nat) : s.SameStages (t.clampModel m) := by
  unfold State.clampModel
  dsimp only
  split
  · next r _ =>
    have hset := h.setModel (m := m) (x := { t.model m with ith := t.ithOf m r, ithAt := t.now }) rfl
    exact (hset.modelTo m 2).of_hearth (State.hearth_clampActs _ m)
  · exact h

theorem State.SameStages.modelStep {s t : State} (h : s.SameStages t) (m : Nat) (r : ModelRec) : s.SameStages (t.modelStep m r) := by
  have htrip := (h.modelTo m 3).of_hearth (State.hearth_tripActs _ m)
  unfold State.modelStep
  dsimp only
  split
  · split_ifs
    · exact htrip
    · exact (h.modelTo m 1).of_hearth (State.hearth_warnActs _ m)
    · exact h
  · split_ifs
    · exact htrip
    · exact (h.modelTo m 2).of_hearth (State.hearth_clampActs _ m)
    · exact h.modelTo m 0
    · exact h
  · split_ifs
    · exact htrip
    · exact h.setModel rfl
    · exact h.setModel rfl
  · split_ifs
    · exact h.clampModel m
    · exact h
    · exact h.modelTo m 0
    · exact h

theorem State.SameStages.dieStep {s t : State} (h : s.SameStages t) (r : ModelRec) : s.SameStages (t.dieStep r) := by
  unfold State.dieStep
  extract_lets x warn cool cooled
  have hcool : s.SameStages cooled := h.setModel rfl
  split_ifs
  · exact (hcool.modelTo 56 3).of_hearth (State.hearth_tripActs _ 56)
  · exact (hcool.modelTo 56 1).of_hearth (State.hearth_warnActs _ 56)
  · exact (hcool.modelTo 56 2).of_hearth (State.hearth_enforce _)
  · exact hcool

/-- What the update of a model makes of its stages. -/
def State.nextStages (s : State) (m : Nat) (r : ModelRec) : List Int :=
  (List.range 3).map fun i => Machine.stage (r.theta.getD i 0) (r.tau.getD i 0) (s.modelHeat m r (s.model m)) ((s.model m).dt.getD i 0)

/-- The update of a model leaves the stages of every other. -/
theorem State.updateModel_stages (s : State) (m : Nat) :
    (∀ k, k ≠ m → ((s.updateModel m).model k).dt = (s.model k).dt) ∧ (s.updateModel m).hearth.die = s.hearth.die ∧
      ∀ r, s.modelRec m = some r → s.holdsModel m = true → m < s.hearth.models.length →
        ((s.updateModel m).model m).dt = s.nextStages m r := by
  unfold State.updateModel
  split
  · next hnone => exact ⟨fun _ _ => rfl, rfl, fun r hr => absurd (hnone.symm.trans hr) (by simp)⟩
  · next q hq =>
    split
    · next hholds => exact ⟨fun _ _ => rfl, rfl, fun r _ hh => by simp [hh] at hholds⟩
    · extract_lets x p dt tj shown
      have hsame : shown.SameStages (if m = 56 then shown.dieStep q else shown.modelStep m q) := by
        split
        · exact (State.SameStages.refl shown).dieStep q
        · exact (State.SameStages.refl shown).modelStep m q
      have hshown (k : Nat) : shown.model k = (s.setModel m { x with dt := dt, tj := tj, pwr := p }).model k :=
        State.model_of_hearth (State.hearth_showModel _ m) k
      have hdie : shown.hearth.die = s.hearth.die := by
        simp only [shown, State.hearth_showModel]
        rfl
      refine ⟨fun k hk => (hsame.1 k).trans ?_, hsame.2.trans hdie, fun r hr _ hlen => (hsame.1 m).trans ?_⟩
      · rw [hshown, State.model_setModel_ne _ _ (Ne.symm hk)]
      · rw [hshown, State.model_setModel _ _ hlen]
        obtain rfl : q = r := Option.some.inj (hq.symm.trans hr)
        rfl

theorem exec_hearthUpdate_updates {s : State} {die : Nat} {r : ModelRec} (hb : s.booted = true) (hplan : s.plan.isSome = true)
    (hr : s.modelRec 0 = some r) (hholds : s.holdsModel 0 = true) (hlen : 0 < s.hearth.models.length) :
    ∃ t, exec (.hearthUpdate die) s = .next t ∧ t.hearth.die = die ∧
      (t.model 0).dt = (List.range 3).map fun i =>
        stage (r.theta.getD i 0) (r.tau.getD i 0) (s.modelHeat 0 r (s.model 0)) ((s.model 0).dt.getD i 0) := by
  rw [exec_hearthUpdate, execHearthUpdate]
  refine act_does (by rw [hb, hplan]; rfl) ?_
  generalize hheated : ({ s with hearth := { s.hearth with die := die } } : State) = h
  obtain ⟨-, hdie, hstages⟩ := State.updateModel_stages h 0
  have hfirst : ((h.updateModel 0).model 0).dt = s.nextStages 0 r := by
    subst hheated
    exact hstages r hr hholds hlen
  have hrest : (((List.range 56).map Nat.succ).foldl State.updateModel (h.updateModel 0)).hearth.die = h.hearth.die ∧
      ((((List.range 56).map Nat.succ).foldl State.updateModel (h.updateModel 0)).model 0).dt = s.nextStages 0 r := by
    refine List.foldlRecOn (motive := fun t : State => t.hearth.die = h.hearth.die ∧ (t.model 0).dt = s.nextStages 0 r) _ _ ⟨hdie, hfirst⟩
      fun t ht m hm => ?_
    obtain ⟨k, -, rfl⟩ := List.mem_map.1 hm
    obtain ⟨hother, hdie', -⟩ := State.updateModel_stages t (k + 1)
    exact ⟨hdie'.trans ht.1, (hother 0 (Nat.succ_ne_zero k).symm).trans ht.2⟩
  have hfold : (List.range 57).foldl State.updateModel h = ((List.range 56).map Nat.succ).foldl State.updateModel (h.updateModel 0) := by
    rw [List.range_succ_eq_map, List.foldl_cons]
  rw [State.withQueue_hearth, State.posted_hearth, State.model_of_hearth (State.withQueue_hearth _ _ : _),
    State.model_of_hearth (State.posted_hearth _ _ : _), hfold]
  refine ⟨hrest.1.trans (by rw [← hheated]), ?_⟩
  rw [hrest.2]
  rfl

/-! ### The states of a model -/

theorem State.st_modelTo (s : State) {m : Nat} (st : Nat) (h : m < s.hearth.models.length) : ((s.modelTo m st).model m).st = st := by
  unfold State.modelTo
  dsimp only
  rw [State.model_of_hearth (State.hearth_showModel _ m), State.model_setModel _ _ h]
  split
  · split
    · split <;> rfl
    · rfl
  · split
    · split <;> rfl
    · rfl

theorem exec_grace_clamps {s : State} {m : Fin 57} {r : ModelRec} (hb : s.booted = true) (hholds : s.holdsModel m.val = true)
    (hst : (s.model m.val).st = 1) (hdue : due s.now (s.model m.val).warnAt (s.graceOf m.val) = true)
    (hr : s.modelRec m.val = some r) (hwarn : 100 * r.twarn ≤ (s.model m.val).tj) (htrip : (s.model m.val).tj < 100 * r.ttrip)
    (hlen : m.val < s.hearth.models.length) : ∃ t, exec (.grace m) s = .next t ∧ (t.model m.val).st = 2 := by
  rw [exec_grace, execGrace]
  refine act_does (by simp [hb, hholds, hst, hdue]) ?_
  simp only [hr]
  rw [if_neg (by omega), if_pos hwarn, State.model_of_hearth (State.withQueue_hearth _ _ : _), State.model_of_hearth (State.posted_hearth _ _ : _),
    State.model_of_hearth (State.hearth_clampActs _ _)]
  exact State.st_modelTo s 2 hlen

theorem exec_ithRecompute_recomputes {s : State} {m : Fin 57} {r : ModelRec} (hb : s.booted = true) (hholds : s.holdsModel m.val = true)
    (hst : (s.model m.val).st = 2) (hold : old s.now (s.model m.val).ithAt 100000 = true) (hr : s.modelRec m.val = some r)
    (hlen : m.val < s.hearth.models.length) :
    ∃ t, exec (.ithRecompute m) s = .next t ∧ (t.model m.val).ith = s.ithOf m.val r ∧ (t.model m.val).ithAt = s.now := by
  rw [exec_ithRecompute, execIthRecompute]
  refine act_does (by simp [hb, hholds, hst, hold]) ?_
  simp only [hr]
  rw [if_pos hst, State.model_of_hearth (State.withQueue_hearth _ _ : _), State.model_of_hearth (State.posted_hearth _ _ : _),
    State.model_of_hearth (State.hearth_clampActs _ _), State.model_of_hearth (State.hearth_showModel _ _), State.model_setModel _ _ hlen]
  exact ⟨rfl, rfl⟩

theorem exec_clampRelease_releases {s : State} {m : Fin 57} (hb : s.booted = true) (hholds : s.holdsModel m.val = true)
    (hdie : m.val ≠ 56) (hst : (s.model m.val).st = 2) (hrel : s.released m.val = true)
    (hdue : due s.now (s.model m.val).relAt 1000000 = true) (hlen : m.val < s.hearth.models.length) :
    ∃ t, exec (.clampRelease m) s = .next t ∧ (t.model m.val).st = 0 := by
  rw [exec_clampRelease, execClampRelease]
  refine act_does (by simp [hb, hholds, hdie, hst, hrel, hdue]) ?_
  rw [State.model_of_hearth (State.withQueue_hearth _ _ : _), State.model_of_hearth (State.posted_hearth _ _ : _),
    State.model_of_hearth (State.hearth_clampActs _ _)]
  exact State.st_modelTo s 0 hlen

theorem State.modelRec_graded {s : State} {r : ModelRec} (h : s.modelRec 56 = some r) :
    r.ttrip ≤ (if s.hearth.gradeHigh then 1350 else 1250) ∧ r.twarn < (if s.hearth.gradeHigh then 1350 else 1250) := by
  obtain ⟨q, -, hq⟩ := Option.map_eq_some_iff.1 h
  rw [if_pos rfl] at hq
  subst hq
  generalize s.hearth.gradeHigh = high
  unfold ModelRec.graded
  dsimp only
  refine ⟨min_le_right _ _, ?_⟩
  split_ifs <;> omega

/-- DIE_STATE is the state of the die's model. -/
theorem State.die_showModel (s : State) :
    (s.showModel 56).fld HEARTH_STAT_DIE_STATE = (s.model 56).st % 2 ^ HEARTH_STAT_DIE_STATE.width := by
  unfold State.showModel
  dsimp only
  rw [if_neg (by decide), if_pos rfl, State.fld_put_apart _ _ _ _ (by decide), State.fld_put_apart _ _ _ _ (by decide),
    State.fld_put _ _ _ (by decide)]

theorem exec_dieCapRelease_releases {s : State} (hb : s.booted = true) (hst : (s.model 56).st ≠ 0)
    (hdue : due s.now (s.model 56).coolAt 1000000 = true) (hlen : 56 < s.hearth.models.length) :
    ∃ t, exec .dieCapRelease s = .next t ∧ (t.model 56).st = 0 ∧ t.fld HEARTH_STAT_DIE_STATE = 0 := by
  rw [exec_dieCapRelease, execDieCapRelease]
  refine act_does (by simp [hb, hst, hdue]) ?_
  have hfree := State.st_modelTo s 0 hlen
  rw [State.model_of_hearth (State.withQueue_hearth _ _ : _), State.model_of_hearth (State.posted_hearth _ _ : _),
    State.model_of_hearth (State.hearth_enforce _), State.withQueue_fld, State.posted_fld,
    (State.enforce_spared (o := .reg HEARTH_STAT_DIE_STATE) (by decide +kernel) (.refl _ _)).fld]
  refine ⟨hfree, ?_⟩
  obtain ⟨u, hu⟩ : ∃ u : State, s.modelTo 56 0 = u.showModel 56 := ⟨_, rfl⟩
  rw [hu, State.model_of_hearth (State.hearth_showModel u 56)] at hfree
  rw [hu, State.die_showModel, hfree]
  rfl

/-! ### The board references and the balance check -/

theorem enc16_lt (v : Int) : enc16 v < 2 ^ 16 := by
  unfold enc16
  omega

/-- The register of a board reference. -/
def tambField (n : Nat) : Field := if n = 0 then HEARTH_TAMB_T0 else HEARTH_TAMB_T1

theorem tambField_apart (n : Nat) : (tambField n).fits = true ∧ (tambField n).width = 16 ∧
    (if n = 0 then HEARTH_STAT_TAMB0_OK else HEARTH_STAT_TAMB1_OK).apart (tambField n) = true := by
  unfold tambField
  split <;> decide

/-- A reference that reads in range shows its temperature (R344). -/
theorem State.tambConvert_shows {s : State} {n mv : Nat} (hlow : 100 ≤ mv) (hhigh : mv ≤ 1750) :
    (s.tambConvert n mv).hearth.tamb = s.hearth.tamb.set n ((mv : Int) - 500) ∧
      (s.tambConvert n mv).fld (tambField n) = enc16 ((mv : Int) - 500) := by
  obtain ⟨hfits, hwidth, hok⟩ := tambField_apart n
  unfold State.tambConvert
  extract_lets ok temp h wasBad good bad h' s1 s2 s3
  have hin : ok = true := by simp only [ok, hlow, hhigh, decide_true, Bool.and_self]
  refine ⟨?_, ?_⟩
  · have hmark : s2.hearth = s1.hearth := by
      simp only [s2]
      split <;> rfl
    show s2.hearth.tamb = _
    rw [hmark]
    exact if_pos hin
  · refine (State.fld_putB_apart _ _ _ _ hok).trans ((State.fld_put _ _ _ hfits).trans ?_)
    rw [hwidth, Nat.mod_eq_of_lt (enc16_lt _)]

theorem State.first_tambConvert (s : State) (mv : Nat) : (s.tambConvert 1 mv).fld HEARTH_TAMB_T0 = s.fld HEARTH_TAMB_T0 := by
  unfold State.tambConvert
  extract_lets ok temp h wasBad good bad h' s1 s2 s3
  have hmark : s2.fld HEARTH_TAMB_T0 = s.fld HEARTH_TAMB_T0 := by
    simp only [s2]
    split
    · exact State.fld_on_apart _ _ _ (by decide)
    · rfl
  exact (State.fld_putB_apart _ _ _ _ (by decide)).trans ((State.fld_put_apart _ _ _ _ (by decide)).trans hmark)

theorem exec_tambConversion_shows {s : State} {a b : Nat} (hb : s.booted = true) (ha0 : 100 ≤ a) (ha1 : a ≤ 1750) (hb0 : 100 ≤ b)
    (hb1 : b ≤ 1750) (hlen : s.hearth.tamb.length = 2) :
    ∃ t, exec (.tambConversion a b) s = .next t ∧ t.hearth.tamb = [(a : Int) - 500, (b : Int) - 500] ∧
      t.fld HEARTH_TAMB_T0 = enc16 ((a : Int) - 500) ∧ t.fld HEARTH_TAMB_T1 = enc16 ((b : Int) - 500) := by
  rw [exec_tambConversion, execTambConversion]
  refine act_does hb ?_
  obtain ⟨htamb0, hfld0⟩ := State.tambConvert_shows (s := s) (n := 0) ha0 ha1
  obtain ⟨htamb1, hfld1⟩ := State.tambConvert_shows (s := s.tambConvert 0 a) (n := 1) hb0 hb1
  have hkept : ((s.tambConvert 0 a).tambConvert 1 b).fld HEARTH_TAMB_T0 = (s.tambConvert 0 a).fld HEARTH_TAMB_T0 :=
    State.first_tambConvert _ b
  obtain ⟨x, y, hxy⟩ := List.length_eq_two.1 hlen
  rw [State.withQueue_hearth, State.posted_hearth, State.withQueue_fld, State.posted_fld, State.withQueue_fld, State.posted_fld, hkept,
    htamb1, htamb0, hxy]
  exact ⟨rfl, hfld0, hfld1⟩

theorem balance_clear : ∀ b : Fin 6, Cell.clear State.holdPortsC (.landFld b (BUD_STAT_BAL_MISMATCH.shift 0xC0)) = true ∧
    Cell.clear State.handUpC (.landFld b (BUD_STAT_BAL_MISMATCH.shift 0xC0)) = true := by decide +kernel

theorem exec_powerBalanceCheck_shows {s : State} {b : Fin 6} {slot : Int} {ports : List Int} (hl : s.slotLive b = true)
    (hon : (s.land b).st = hOn) :
    ∃ t, exec (.powerBalanceCheck b slot ports) s = .next t ∧
      (t.land b).fld (BUD_STAT_BAL_MISMATCH.shift 0xC0) =
        (unbalanced slot (expPower ((s.land b).fld BUD_CFG_EFF) ((s.land b).fld BUD_CFG_PAUX) ports)).toNat := by
  rw [exec_powerBalanceCheck, execPowerBalanceCheck]
  refine act_does (by simp [hl, hon]) ?_
  extract_lets l x bad pins n shown held
  have hshown : (shown.land b).fld (BUD_STAT_BAL_MISMATCH.shift 0xC0) = bad.toNat := by
    simp only [shown, State.land_onLand]
    exact Landing.fld_putB _ _ (by decide) (by decide)
  obtain ⟨hholds, hup⟩ := balance_clear b
  have hheld : (held.land b).fld (BUD_STAT_BAL_MISMATCH.shift 0xC0) = bad.toNat := by
    refine (State.holdPorts_spared hholds (.refl _ _)).same.trans ?_
    rw [State.land_onLand]
    exact (Landing.fld_on_apart _ _ _ (by decide)).trans hshown
  rw [State.withQueue_land, State.posted_land]
  split_ifs
  · exact (State.handUp_spared hup (.refl _ _)).same.trans hheld
  · exact hheld
  · exact hshown

/-- Settles O36: the models, the references and the balance check. -/
theorem thermalModels : Obligations.ThermalModels :=
  ⟨fun _ _ _ => exec_hearthUpdate_updates, fun _ _ _ => exec_grace_clamps, fun _ _ _ => exec_ithRecompute_recomputes,
    fun _ _ => exec_clampRelease_releases, fun _ _ => State.modelRec_graded, fun _ => exec_dieCapRelease_releases,
    fun _ _ _ => exec_tambConversion_shows, fun _ _ _ _ => exec_powerBalanceCheck_shows⟩

end Sys2Proof.Machine

namespace Sys2Proof.Machine

set_option Elab.async false

/-! ## Accesses of a requester to a register of the Hall -/

theorem State.absentLoc_hall (s : State) (a : Nat) : s.absentLoc (.hall a) = false := rfl

/-- A register that no holder keeps is written by the rules of its own. -/
theorem State.regWrite_hall (s : State) (r : Req) {a : Nat} (addr : Nat) (v : Word) (h : holderReg (.hall a) = false) :
    s.regWrite r (.hall a) addr v = s.storeHall r a v := by
  have hbus : (Loc.hall a).wingBus.isSome = false := rfl
  unfold State.regWrite State.noteWrite
  rw [State.absentLoc_hall, h, hbus, if_neg Bool.false_ne_true, Bool.and_false, Bool.false_and, if_neg Bool.false_ne_true,
    Bool.and_false, if_neg Bool.false_ne_true, Bool.and_false, Bool.false_and, Bool.false_and, if_neg Bool.false_ne_true]
  rfl

theorem State.busStore_hall (s : State) (r : Req) {a : Nat} (v : Word) (hloc : locate a = some (.hall a)) (ha : a % 4 = 0) :
    s.busStore r a 4 v = (s.busGrant r (some (.hall a))).regWrite r (.hall a) a v := by
  unfold State.busStore
  rw [hloc, ha]
  rfl

theorem State.busLoad_hall (s : State) (r : Req) {a : Nat} (hloc : locate a = some (.hall a)) (ha : a % 4 = 0) :
    s.busLoad r a 4 =
      if Loc.hall a = .hall 0x74018 && (s.busGrant r (some (.hall a))).debugOn && !(s.busGrant r (some (.hall a))).cregOk then
        { (s.busGrant r (some (.hall a))).accessErr r with rdata := 0 }
      else { ((s.busGrant r (some (.hall a))).readReg (.hall a)).2 with
        rdata := ((s.busGrant r (some (.hall a))).readReg (.hall a)).1 } := by
  have hword : a / 4 * 4 = a := Nat.div_mul_cancel (Nat.dvd_of_mod_eq_zero ha)
  unfold State.busLoad
  rw [hloc]
  simp only [hword, if_true]

/-- A grant of the bus for a Hall register clears the error and keeps the requester that it serves, and no more. -/
theorem State.busGrant_hall (s : State) (r : Req) (a : Nat) : ∃ (e : Bool) (i : Nat),
    s.busGrant r (some (.hall a)) = { s with rerr := false, hallErr := e, lastExt := i } := by
  unfold State.busGrant
  cases r <;> exact ⟨_, _, rfl⟩

/-! ## Halting, resuming, stepping and reading a core by debug (R613 to R619) -/

theorem setBit_testBit (v : Nat) {n : Nat} (b : Bool) : (setBit v n b).testBit n = b := by
  unfold setBit
  cases b with
  | true =>
    rw [if_pos rfl, Nat.testBit_or, Nat.testBit_two_pow_self, Bool.or_true]
  | false =>
    rw [if_neg Bool.false_ne_true]
    split
    · next h =>
      rw [Nat.testBit_eq_decide_div_mod_eq, decide_eq_true_eq] at h
      have hdiv : (v - 2 ^ n) / 2 ^ n = v / 2 ^ n - 1 := by simpa using Nat.sub_mul_div v (2 ^ n) 1
      rw [Nat.testBit_eq_decide_div_mod_eq, hdiv, decide_eq_false_iff_not]
      omega
    · next h => exact Bool.eq_false_iff.2 h
theorem setBit_lt {v n w : Nat} (b : Bool) (hv : v < 2 ^ w) (hn : n < w) : setBit v n b < 2 ^ w := by
  unfold setBit
  split
  · exact Nat.or_lt_two_pow hv (Nat.pow_lt_pow_right (by decide) hn)
  · split
    · exact Nat.lt_of_le_of_lt (Nat.sub_le _ _) hv
    · exact hv

theorem State.haltBit_setHaltBit (s : State) (c : CoreId) (b : Bool) : (s.setHaltBit c b).haltBit c = b := by
  unfold State.setHaltBit State.haltBit
  cases c with
  | room p =>
    dsimp only
    by_cases hp : p.val < 32
    · have hlt : setBit (s.fld DBG_HALT0_ROOM) p.val b < 2 ^ DBG_HALT0_ROOM.width := setBit_lt b (Regs.fld_lt _ _) hp
      rw [if_pos hp, if_pos hp, State.fld_put _ _ _ (by decide), Nat.mod_eq_of_lt hlt, setBit_testBit]
    · have hlt : setBit (s.fld DBG_HALT1_ROOM) (p.val - 32) b < 2 ^ DBG_HALT1_ROOM.width :=
        setBit_lt b (Regs.fld_lt _ _) (by have := p.isLt; show p.val - 32 < 16; omega)
      rw [if_neg hp, if_neg hp, State.fld_put _ _ _ (by decide), Nat.mod_eq_of_lt hlt, setBit_testBit]
  | hall => exact State.bit_putB _ _ (by decide) (by decide)

theorem State.core_setHaltBit (s : State) (c k : CoreId) (b : Bool) : (s.setHaltBit c b).core k = s.core k := by
  cases c with
  | room p =>
    unfold State.setHaltBit
    dsimp only
    split <;> cases k <;> rfl
  | hall => cases k <;> rfl

theorem State.haltBit_congr {s t : State} (h : t.regs = s.regs) (c : CoreId) : t.haltBit c = s.haltBit c := by
  unfold State.haltBit State.bit State.fld
  rw [h]

theorem State.core_posted_withQueue (s t : State) (q : List Instr) (c : CoreId) : ((s.posted t).withQueue q).core c = t.core c := by
  cases c <;> rfl
theorem State.haltBit_posted_withQueue (s t : State) (q : List Instr) (c : CoreId) :
    ((s.posted t).withQueue q).haltBit c = t.haltBit c := State.haltBit_congr (s := t) rfl c

theorem exec_halt_halts {s : State} (hmay : s.dbgMay = true) (c : CoreId) :
    ∃ t, exec (.halt c true) s = .next t ∧ t.haltBit c = true ∧ t.core c = s.core c := by
  rw [exec_halt, execHalt]
  refine act_does hmay ?_
  rw [State.haltBit_posted_withQueue, State.core_posted_withQueue, State.writeHalt, if_pos rfl]
  exact ⟨State.haltBit_setHaltBit s c true, State.core_setHaltBit s c c true⟩

theorem State.resumeCore_resumes {s : State} {c : CoreId} (h : (s.core c).halted = true) :
    (s.resumeCore c).haltBit c = s.haltBit c ∧
      (s.resumeCore c).core c = { s.core c with halted := false, stepping := false, pass := true } := by
  have hcore := s.core_onCoreOf c fun k => { k with halted := false, stepping := false, pass := true }
  unfold State.resumeCore
  rw [if_pos h]
  cases c with
  | room p =>
    refine ⟨State.haltBit_congr rfl _, Eq.trans ?_ hcore⟩
    simp only [State.core, State.room_onRoom]
    rfl
  | hall =>
    dsimp only
    split
    · exact ⟨State.haltBit_congr rfl _, hcore⟩
    · exact ⟨State.haltBit_congr rfl _, hcore⟩

theorem exec_halt_resumes {s : State} (hmay : s.dbgMay = true) {c : CoreId} (hbit : s.haltBit c = true)
    (hhalted : (s.core c).halted = true) :
    ∃ t, exec (.halt c false) s = .next t ∧ t.haltBit c = false ∧
      t.core c = { s.core c with halted := false, stepping := false, pass := true } := by
  rw [exec_halt, execHalt]
  refine act_does hmay ?_
  rw [State.haltBit_posted_withQueue, State.core_posted_withQueue, State.writeHalt, if_neg Bool.false_ne_true, if_pos hbit]
  obtain ⟨hoff, hcore⟩ := State.resumeCore_resumes (s := s.setHaltBit c false) (c := c) (by rwa [State.core_setHaltBit])
  rw [hoff, hcore, State.core_setHaltBit]
  exact ⟨State.haltBit_setHaltBit s c false, rfl⟩

theorem exec_coreHalt_halts {s : State} (hd : s.debugOn = true) {c : CoreId} (hb : s.booted = true) (hbit : s.haltBit c = true)
    (hrun : (s.core c).halted = false) (hstate : (s.core c).state = 1) (hrep : (s.core c).rep = 0) :
    ∃ t, exec (.coreHalt c) s = .next t ∧
      t.core c = { s.core c with halted := true, stepping := false, pass := false, cause := 1, bkpt := 0 } ∧
      ∀ p, c = .room p → (t.room p).bit STATUS_CORE_ALIVE = false := by
  rw [exec_coreHalt, execCoreHalt]
  refine act_does (by simp [hb, hd, hbit, hrun, hstate, hrep]) ?_
  have hcore := (s.setHaltBit c true).core_onCoreOf c fun k =>
    { k with halted := true, stepping := false, pass := false, cause := 1, bkpt := 0 }
  rw [State.core_setHaltBit] at hcore
  rw [State.core_posted_withQueue]
  unfold State.haltCore
  cases c with
  | room p =>
    refine ⟨Eq.trans ?_ hcore, fun q hq => ?_⟩
    · simp only [State.core, State.room_onRoom]
      rfl
    · obtain rfl : p = q := CoreId.room.inj hq
      rw [State.withQueue_room, State.posted_room, State.room_onRoom, Room.bit_eq, Room.fld_off _ (by decide)]
      rfl
  | hall => exact ⟨hcore, fun q hq => CoreId.noConfusion hq⟩

theorem exec_step_steps {s : State} (hmay : s.dbgMay = true) {n : BitVec 6} (hn : n.toNat ≤ 48)
    (hhalted : (s.core (coreNum n.toNat)).halted = true) :
    ∃ t, exec (.step n) s = .next t ∧
      t.core (coreNum n.toNat) = { s.core (coreNum n.toNat) with stepping := true } ∧ t.dbg = s.dbg := by
  rw [exec_step, execStep]
  refine act_does hmay ?_
  have hdbg (c : CoreId) (f : Core → Core) : (s.onCoreOf c f).dbg = s.dbg := by cases c <;> rfl
  rw [State.core_posted_withQueue, State.withQueue_dbg, State.posted_dbg, State.stepCore, hhalted, decide_eq_true hn, if_pos (by decide), hdbg]
  exact ⟨s.core_onCoreOf _ _, rfl⟩

theorem exec_step_refused {s : State} (hmay : s.dbgMay = true) {n : BitVec 6}
    (hbad : 48 < n.toNat ∨ (s.core (coreNum n.toNat)).halted = false) :
    ∃ t, exec (.step n) s = .next t ∧ t.butLinks = ({ s with dbg := { s.dbg with err := true } } : State).butLinks := by
  rw [exec_step, execStep]
  refine act_does hmay ?_
  have hcond : (decide (n.toNat ≤ 48) && (s.core (coreNum n.toNat)).halted) = false := by
    rcases hbad with hbig | hrun
    · rw [decide_eq_false (Nat.not_le.2 hbig), Bool.false_and]
    · rw [hrun, Bool.and_false]
  rw [State.butLinks_posted_withQueue, State.stepCore, hcond, if_neg Bool.false_ne_true]

/-- The debug port's write of CREG. -/
theorem State.storeHall_creg {s : State} (hd : s.debugOn = true) (v : Word) :
    s.storeHall .dbg 0x74018 v = if s.cregOk then
      s.onCoreOf (coreNum (s.fld DBG_CSEL_CORE)) fun k => k.writeCreg (s.fld DBG_CSEL_REG) v else s.accessErr .dbg := by
  unfold State.storeHall State.writeDbg
  rw [hd]
  rfl

theorem State.cregOk_congr {s t : State} (hregs : t.regs = s.regs) (hcore : ∀ c, t.core c = s.core c) : t.cregOk = s.cregOk := by
  rw [State.cregOk, State.cregOk, State.fld, State.fld, State.fld, State.fld, hregs, hcore]

/-- The debug port at CREG: its access meets the state with the bus granted to it. -/
theorem State.grant_creg (s : State) : ∃ g : State, s.busGrant .dbg (some (.hall 0x74018)) = g ∧ g.regs = s.regs ∧
    (∀ c, g.core c = s.core c) ∧ g.rerr = false ∧ g.cregOk = s.cregOk := by
  obtain ⟨e, i, hgrant⟩ := s.busGrant_hall .dbg 0x74018
  have hcore : ∀ c, ({ s with rerr := false, hallErr := e, lastExt := i } : State).core c = s.core c := by rintro (p | _) <;> rfl
  exact ⟨_, hgrant, rfl, hcore, rfl, State.cregOk_congr rfl hcore⟩

theorem State.debugOn_congr {s t : State} (h : t.regs = s.regs) : t.debugOn = s.debugOn := by
  rw [State.debugOn, State.debugOn, State.fld, State.fld, h]

theorem State.core_dbgErr (s : State) (c : CoreId) : s.dbgErr.core c = s.core c := by
  unfold State.dbgErr
  split <;> cases c <;> rfl

theorem exec_creg_writes {s : State} (hmay : s.dbgMay = true) (hd : s.debugOn = true) {v : Word} (hok : s.cregOk = true) :
    ∃ t, exec (.creg (some v)) s = .next t ∧ t.core (coreNum (s.fld DBG_CSEL_CORE)) =
      Core.writeCreg (s.fld DBG_CSEL_REG) v (s.core (coreNum (s.fld DBG_CSEL_CORE))) := by
  rw [exec_creg, execCreg]
  refine act_does hmay ?_
  obtain ⟨g, hgrant, hregs, hcore, -, hcreg⟩ := s.grant_creg
  dsimp only
  rw [State.core_posted_withQueue, State.core_dbgErr, State.busStore_hall s .dbg v (by decide) (by decide),
    State.regWrite_hall _ _ _ _ (by decide), hgrant, State.storeHall_creg ((State.debugOn_congr hregs).trans hd), if_pos (hcreg.trans hok)]
  have hsel : g.fld DBG_CSEL_CORE = s.fld DBG_CSEL_CORE := congrArg (Regs.fld · _) hregs
  have hreg : g.fld DBG_CSEL_REG = s.fld DBG_CSEL_REG := congrArg (Regs.fld · _) hregs
  rw [hsel, hreg, State.core_onCoreOf, hcore]

/-- CREG reads the register of the selected core. -/
theorem State.readReg_creg {s : State} (hd : s.debugOn = true) (hok : s.cregOk = true) :
    (s.readReg (.hall 0x74018)).1 = (s.core (coreNum (s.fld DBG_CSEL_CORE))).creg (s.fld DBG_CSEL_REG) := by
  have hfields : fieldsOf (.hall 0x74018) = [DBG_CREG_VALUE] := by decide +kernel
  have hview : s.view (.hall 0x74018) = s.dbgView 0x74018 := rfl
  have hcond : ((s.core (coreNum (s.fld DBG_CSEL_CORE))).halted && s.fld DBG_CSEL_REG ≤ 19) = true := hok
  unfold State.readReg
  dsimp only
  rw [hfields, hview, State.dbgView, hd, Bool.not_true, if_neg Bool.false_ne_true]
  dsimp only
  rw [if_neg (by decide), if_pos rfl, if_pos hcond]
  rfl

theorem exec_creg_reads {s : State} (hmay : s.dbgMay = true) (hd : s.debugOn = true) (hok : s.cregOk = true) :
    ∃ t, exec (.creg none) s = .next t ∧ t.rdata = (s.core (coreNum (s.fld DBG_CSEL_CORE))).creg (s.fld DBG_CSEL_REG) := by
  rw [exec_creg, execCreg]
  refine act_does hmay ?_
  obtain ⟨g, hgrant, hregs, hcore, hrerr, hcreg⟩ := s.grant_creg
  have hsel : g.fld DBG_CSEL_CORE = s.fld DBG_CSEL_CORE := congrArg (Regs.fld · _) hregs
  have hreg : g.fld DBG_CSEL_REG = s.fld DBG_CSEL_REG := congrArg (Regs.fld · _) hregs
  have hdata (x : State) (w : Word) : (({ x with rdata := w } : State).dbgErr).rdata = w := by
    unfold State.dbgErr
    split <;> rfl
  dsimp only
  rw [State.withQueue_rdata, State.posted_rdata, State.busLoad_hall s .dbg (by decide) (by decide), hgrant, hcreg, hok,
    Bool.not_true, Bool.and_false, if_neg Bool.false_ne_true, hdata,
    State.readReg_creg ((State.debugOn_congr hregs).trans hd) (hcreg.trans hok), hsel, hreg, hcore]

theorem State.err_dbgErr {s : State} (h : s.rerr = true) : s.dbgErr.dbg.err = true := by
  rw [State.dbgErr, if_pos h]
  rfl

theorem exec_creg_refused {s : State} (hmay : s.dbgMay = true) (hd : s.debugOn = true) {w : Option Word} (hbad : s.cregOk = false) :
    ∃ t, exec (.creg w) s = .next t ∧ t.dbg.err = true := by
  rw [exec_creg, execCreg]
  refine act_does hmay ?_
  obtain ⟨g, hgrant, hregs, -, -, hcreg⟩ := s.grant_creg
  have hd' : g.debugOn = true := (State.debugOn_congr hregs).trans hd
  rw [State.withQueue_dbg, State.posted_dbg]
  cases w with
  | none =>
    dsimp only
    rw [State.busLoad_hall s .dbg (by decide) (by decide), hgrant, hcreg, hbad, hd', if_pos (by decide)]
    exact State.err_dbgErr rfl
  | some v =>
    dsimp only
    rw [State.busStore_hall s .dbg v (by decide) (by decide), State.regWrite_hall _ _ _ _ (by decide), hgrant,
      State.storeHall_creg hd', hcreg, hbad, if_neg Bool.false_ne_true]
    exact State.err_dbgErr rfl

theorem exec_dbgReset_resets {s : State} (hmay : s.dbgMay = true) :
    ∃ t, exec .dbgReset s = .next t ∧ t.bit RESET_CAUSE_DEBUG = true ∧
      t.fld DBG_CTRL_HALT_ON_BOOT = s.fld DBG_CTRL_HALT_ON_BOOT ∧ t.butLinks = (s.chipReset RESET_CAUSE_DEBUG).butLinks := by
  rw [exec_dbgReset, execDbgReset]
  refine act_does hmay ?_
  have hmod : s.fld DBG_CTRL_HALT_ON_BOOT % 2 ^ DBG_CTRL_HALT_ON_BOOT.width = s.fld DBG_CTRL_HALT_ON_BOOT :=
    Nat.mod_eq_of_lt (Regs.fld_lt _ _)
  have hregs : (s.chipReset RESET_CAUSE_DEBUG).regs =
      ((s.mainReset.on RESET_CAUSE_DEBUG).put DBG_CTRL_HALT_ON_BOOT (s.fld DBG_CTRL_HALT_ON_BOOT)).regs := rfl
  have hfld (g : Field) : (s.chipReset RESET_CAUSE_DEBUG).fld g =
      ((s.mainReset.on RESET_CAUSE_DEBUG).put DBG_CTRL_HALT_ON_BOOT (s.fld DBG_CTRL_HALT_ON_BOOT)).fld g := congrArg (Regs.fld · g) hregs
  rw [State.withQueue_bit, State.posted_bit, State.withQueue_fld, State.posted_fld, State.butLinks_posted_withQueue, State.bit_eq, hfld, hfld,
    State.fld_put_apart _ _ _ _ (by decide), State.fld_on _ (by decide) (by decide), State.fld_put _ _ _ (by decide), hmod]
  exact ⟨rfl, rfl, rfl⟩

theorem exec_snap_triggers {s : State} (hmay : s.dbgMay = true) (hbars : s.snapBars = false) (hcap : s.snap.cap = none) :
    ∃ t, exec .snap s = .next t ∧ t.snap = { s.snap with cap := some 2 } := by
  rw [exec_snap, execSnap]
  refine act_does hmay ?_
  rw [State.snapTrigger, hbars, hcap, Option.isSome_none, Bool.or_self, if_neg Bool.false_ne_true]
  rfl

/-- Settles O47: halting, resuming, stepping, CREG, the reset and the snapshot. -/
theorem debugControl : Obligations.DebugControl := by
  intro s hc hd
  have hmay : s.dbgMay = true := by
    rw [State.dbgMay, hc, hd]
    rfl
  exact ⟨fun c => exec_halt_halts hmay c, fun _ => exec_halt_resumes hmay, fun _ => exec_coreHalt_halts hd,
    fun _ => exec_step_steps hmay, fun _ => exec_step_refused hmay, fun _ => exec_creg_writes hmay hd, exec_creg_reads hmay hd,
    fun _ => exec_creg_refused hmay hd, exec_dbgReset_resets hmay, exec_snap_triggers hmay⟩

end Sys2Proof.Machine

namespace Sys2Proof.Machine

set_option Elab.async false

/-! ## Accesses to the Hall's memory and to no place (R9, R20) -/

theorem locate_hallData {a : Nat} (h : a < 0x20000) : locate (0x21000000 + a) = some (.hallData a) := by
  unfold locate
  simp only [Nat.add_sub_cancel_left, show ¬ 0x21000000 + a < 0x1000 by omega, show ¬ 0x21000000 + a < 0x12000 by omega,
    show ¬ 0x21000000 + a < 0x26000 by omega, show ¬ 0x21000000 + a < 0x31000 by omega, show ¬ 0x21000000 + a < 0x41000 by omega,
    show ¬ 0x21000000 + a < 0x51000 by omega, show ¬ 0x21000000 + a < 0x61000 by omega, show ¬ 0x21000000 + a < 0x75000 by omega,
    show ¬ 0x21000000 + a < 0x1C00000 by omega, show ¬ 0x21000000 + a < 0x20000000 by omega,
    show ¬ 0x21000000 + a < 0x20040000 by omega, show 0x21000000 ≤ 0x21000000 + a by omega,
    show 0x21000000 + a < 0x21020000 by omega, Bool.and_false, decide_true, decide_false, Bool.and_true, if_true, Bool.false_eq_true, if_false]

theorem exec_registerWrite_hallData {s : State} (hc : s.clocked = true) {a : Nat} (h : a < 0x20000) (hword : a % 4 = 0) (v : Word) :
    ∃ t, exec (.registerWrite (.bus .hall) (0x21000000 + a) 4 v) s = .next t ∧ t.rerr = false ∧
      t.hallData = putBytes s.hallData a (wordBytes v) := by
  rw [exec_registerWrite, execRegisterWrite]
  refine act_does hc ?_
  have halign : ((0x21000000 + a) % 4 != 0) = false := by
    rw [bne_eq_false_iff_eq]
    omega
  rw [State.withQueue_rerr, State.posted_rerr, State.withQueue_hallData, State.posted_hallData, State.busStore, locate_hallData h]
  dsimp only
  rw [halign, Bool.false_and, if_neg Bool.false_ne_true]
  exact ⟨rfl, rfl⟩

theorem State.regs_busGrant (s : State) (r : Req) (l : Option Loc) : (s.busGrant r l).regs = s.regs := by
  unfold State.busGrant
  dsimp only
  split
  · split <;> rfl
  · rfl

theorem State.rooms_busGrant (s : State) (r : Req) (l : Option Loc) : (s.busGrant r l).rooms = s.rooms := by
  unfold State.busGrant
  dsimp only
  split
  · split <;> rfl
  · rfl

theorem exec_registerWrite_noPlace {s : State} (hc : s.clocked = true) (r : Req) {a : Nat} (size : Nat) (v : Word)
    (h : locate a = none) :
    ∃ t, exec (.registerWrite (.bus r) a size v) s = .next t ∧ t.rerr = true ∧ t.regs = s.regs ∧ t.rooms = s.rooms := by
  rw [exec_registerWrite, execRegisterWrite]
  refine act_does hc ?_
  have hstore : s.busStore r a size v = (s.busGrant r none).accessErr r := by
    unfold State.busStore
    rw [h]
    exact ite_self _
  rw [State.withQueue_rerr, State.posted_rerr, State.withQueue_regs, State.posted_regs, State.withQueue_rooms, State.posted_rooms, hstore]
  exact ⟨rfl, s.regs_busGrant r none, s.rooms_busGrant r none⟩

/-- A write of a register of the Hall sets its RW fields to their clamped values. -/
theorem State.fld_writeReg_hall {s : State} {a : Nat} {v : Word} {g : Field} (hg : g ∈ fieldsOf (.hall a)) (hfits : g.fits = true)
    (hapart : ∀ f ∈ fieldsOf (.hall a), f = g ∨ f.apart g = true) (hacc : g.acc = .rw) (hkeeps : keepsOn3.contains g = false) :
    (s.writeReg (.hall a) v).fld g = s.clampField (.hall a) g (g.of v) % 2 ^ g.width := by
  unfold State.writeReg State.setBank
  exact State.fld_writeFields hg hfits hapart hacc hkeeps

theorem exec_registerWrite_wakeAlarm {s : State} (hc : s.clocked = true) (hr : s.range (.hall 0x98) WAKE_ALARM_COMPARE = none) (v : Word) :
    ∃ t, exec (.registerWrite (.bus .hall) 0x98 4 v) s = .next t ∧ t.rerr = false ∧ t.fld WAKE_ALARM_COMPARE = v.toNat := by
  rw [exec_registerWrite, execRegisterWrite]
  refine act_does hc ?_
  obtain ⟨e, i, hgrant⟩ := s.busGrant_hall .hall 0x98
  have hfields : fieldsOf (.hall 0x98) = [WAKE_ALARM_COMPARE] := by decide +kernel
  have hstore (g : State) : g.storeHall .hall 0x98 v = g.writeReg (.hall 0x98) v := by
    unfold State.storeHall
    rfl
  have hkeeps : keepsOn3.contains WAKE_ALARM_COMPARE = false := by decide +kernel
  have hof : WAKE_ALARM_COMPARE.of v = v.toNat := of_whole_word rfl rfl v
  rw [State.withQueue_rerr, State.posted_rerr, State.withQueue_fld, State.posted_fld, State.busStore_hall s .hall v (by decide) (by decide),
    State.regWrite_hall _ _ _ _ (by decide +kernel), hgrant, hstore]
  refine ⟨rfl, ?_⟩
  rw [State.fld_writeReg_hall (g := WAKE_ALARM_COMPARE) (by rw [hfields]; exact List.mem_singleton.2 rfl) (by decide)
    (by rw [hfields]; decide) rfl hkeeps]
  have hlt : v.toNat < 2 ^ WAKE_ALARM_COMPARE.width := v.isLt
  have hhi : WAKE_ALARM_COMPARE.of v ≤ WAKE_ALARM_COMPARE.hi := hof.trans_le (Nat.le_of_lt_succ v.isLt)
  exact (congrArg (· % 2 ^ WAKE_ALARM_COMPARE.width) ((State.clampField_of_none hr (Nat.zero_le _) hhi).trans hof)).trans
    (Nat.mod_eq_of_lt hlt)

/-! ## Writes of a Room core (R57, R402) -/

theorem noCoreWrite_of_stageIdx {a i : Nat} (h : stageIdx a = some i) : noCoreWrite a = false := by
  have hplace : (0x100 ≤ a ∧ a < 0x120) ∨ a = 0x140 ∨ a = 0x144 := by
    unfold stageIdx at h
    simp only [Bool.and_eq_true, decide_eq_true_eq] at h
    split at h
    · left; assumption
    · split at h
      · right; left; assumption
      · split at h
        · right; right; assumption
        · cases h
  unfold noCoreWrite
  simp only [Bool.or_eq_false_iff, Bool.and_eq_false_iff, decide_eq_false_iff_not]
  omega

theorem addr_of_stageIdx {a i : Nat} (h : stageIdx a = some i) : a < 0x400 := by
  unfold stageIdx at h
  simp only [Bool.and_eq_true, decide_eq_true_eq] at h
  split at h
  · omega
  · split at h
    · omega
    · split at h
      · omega
      · cases h

/-- A field put into a word leaves the bits beside it. -/
theorem Field.extract_into {f : Field} {v : Nat} {w : Word} {lsb width : Nat}
    (h : f.lsb + f.width ≤ lsb ∨ lsb + width ≤ f.lsb) : (f.into v w).extractLsb' lsb width = w.extractLsb' lsb width := by
  apply BitVec.eq_of_getLsbD_eq
  intro i hi
  simp only [BitVec.getLsbD_extractLsb', hi, decide_true, Bool.true_and, Field.into]
  by_cases h32 : lsb + i < 32
  · have hmask : f.mask[lsb + i] = false := by
      rw [Field.mask_getElem f _ h32, decide_eq_false_iff_not]
      omega
    simp [hmask, h32]
  · simp [BitVec.getLsbD_of_ge _ _ (not_lt.mp h32)]

/-- Bits 21:20 of the first staged word belong to no field, so that a store leaves them. -/
theorem State.extract_stageWord (s : State) (p : Fin 48) (was v : Word) :
    (s.stageWord p 0x100 was v).extractLsb' 20 2 = was.extractLsb' 20 2 := by
  have hbeside : ∀ f ∈ fieldsOf (.roomReg p.val 0x100), f.lsb + f.width ≤ 20 ∨ 20 + 2 ≤ f.lsb := by
    show ∀ f ∈ roomFields.filter (·.off = 0x100), f.lsb + f.width ≤ 20 ∨ 20 + 2 ≤ f.lsb
    decide +kernel
  exact List.foldlRecOn (motive := fun w : Word => w.extractLsb' 20 2 = was.extractLsb' 20 2) _ _ rfl fun w hw f hf =>
    (Field.extract_into (hbeside f hf)).trans hw

theorem State.coreStore_stage (s : State) (p : Fin 48) {a i : Nat} (v : Word) (h : stageIdx a = some i) :
    s.coreStore p a v = s.onRoom p fun x => x.onCore fun c =>
      { c with stage := setAt c.stage i (s.stageWord p a (c.stage.getD i 0) v), dirty := true } := by
  unfold State.coreStore
  rw [noCoreWrite_of_stageIdx h, h]
  rfl

/-- The first staged word keeps its bits 21:20. -/
theorem State.extract_stage (s : State) (p : Fin 48) (l : List Word) (v : Word) :
    ((setAt l 0 (s.stageWord p 0x100 (l.getD 0 0) v)).getD 0 0).extractLsb' 20 2 = (l.getD 0 0).extractLsb' 20 2 := by
  cases l with
  | nil => rfl
  | cons w l => exact s.extract_stageWord p w v

theorem exec_registerWrite_stage {s : State} {p : Fin 48} (hp : s.whole p = true) {a i : Nat} (v : Word) (h : stageIdx a = some i) :
    ∃ t, exec (.registerWrite (.core p) a 4 v) s = .next t ∧
      (t.room p).core.stage = setAt (s.room p).core.stage i (s.stageWord p a ((s.room p).core.stage.getD i 0) v) ∧
      (a = 0x100 → ((t.room p).core.stage.getD 0 0).extractLsb' 20 2 = ((s.room p).core.stage.getD 0 0).extractLsb' 20 2) ∧
      (t.room p).core.dirty = true ∧ (t.room p).regs = (s.room p).regs := by
  rw [exec_registerWrite, execRegisterWrite]
  refine act_does (by simp [hp, addr_of_stageIdx h]) ?_
  rw [State.withQueue_room, State.posted_room, State.coreWrite, if_pos rfl, State.coreStore_stage s p v h, State.room_onRoom]
  refine ⟨rfl, fun ha => ?_, rfl, rfl⟩
  subst ha
  cases h
  exact s.extract_stage p _ v

theorem exec_registerWrite_narrow {s : State} {p : Fin 48} (hp : s.whole p = true) {a size : Nat} (v : Word) (ha : a < 0x400)
    (h : size ≠ 4) : ∃ t, exec (.registerWrite (.core p) a size v) s = .next t ∧ (t.room p).bit EVENT_ACCESS_ERR = true := by
  rw [exec_registerWrite, execRegisterWrite]
  refine act_does (by simp [hp, ha]) ?_
  rw [State.withQueue_room, State.posted_room, State.coreWrite, if_neg h, State.room_onRoom]
  rw [Room.bit_eq, Room.fld_on _ (by decide) (by decide)]
  rfl

/-! ## Reads of the Hall's registers -/

/-- The registers below 0x180 show what they hold, but for the heartbeat's age and the slow counter. -/
theorem State.hallView_low (s : State) {a : Nat} (h : a < 0x180) : s.hallView a =
    if a = 0x054 then HB_STAT_AGE.into (if s.booted then min (s.now - s.hbeatAt) 65535 else 0) (s.regs.get a)
    else if a = 0x108 then BitVec.ofNat 32 s.clk.slow
    else s.regs.get a := by
  unfold State.hallView
  simp only [show ¬ a = 0x180 by omega, show ¬ a = 0x184 by omega, show ¬ a = 0x188 by omega, show ¬ 0x240 ≤ a by omega,
    show ¬ a = 0x294 by omega, show ¬ a = 0x30010 by omega, show ¬ a = 0x30014 by omega, show ¬ a = 0x40040 by omega,
    show ¬ a = 0x40054 by omega, show ¬ 0x40400 ≤ a by omega, show ¬ 0x50000 ≤ a by omega, show ¬ a = 0x60008 by omega,
    show ¬ 0x60000 ≤ a by omega, show ¬ 0x70000 ≤ a by omega, show ¬ a = 0x72004 by omega, show ¬ 0x71000 ≤ a by omega,
    show ¬ a = 0x73040 by omega, show ¬ 0x74000 ≤ a by omega, decide_false, Bool.false_and, Bool.false_eq_true, if_false]

theorem locate_low {a : Nat} (h : a < 0x1000) : locate a = some (.hall a) := by
  unfold locate
  exact if_pos h

theorem exec_subwordRead_low {s : State} (hc : s.clocked = true) {a size : Nat} (ha : a < 0x180) (hsize : size = 1 ∨ size = 2) :
    ∃ t, exec (.subwordRead (.bus .hall) a size) s = .next t ∧ t.rerr = false ∧ t.regs = s.regs ∧
      t.rdata = subword a size (woMask (fieldsOf (.hall (a / 4 * 4))) (s.hallView (a / 4 * 4))) := by
  rw [exec_subwordRead, execSubwordRead]
  refine act_does hc ?_
  obtain ⟨e, i, hgrant⟩ := s.busGrant_hall .hall a
  have hnot : Loc.hall (a / 4 * 4) ≠ .hall 0x74018 := by
    rw [Ne, Loc.hall.injEq]
    omega
  have hview : ({ s with rerr := false, hallErr := e, lastExt := i } : State).view (.hall (a / 4 * 4)) = s.hallView (a / 4 * 4) := by
    show ({ s with rerr := false, hallErr := e, lastExt := i } : State).hallView (a / 4 * 4) = s.hallView (a / 4 * 4)
    rw [State.hallView_low _ (by omega), State.hallView_low _ (by omega)]
    rfl
  have hload : s.busLoad .hall a size = { ({ s with rerr := false, hallErr := e, lastExt := i } : State) with
      rdata := subword a size (woMask (fieldsOf (.hall (a / 4 * 4))) (s.hallView (a / 4 * 4))) } := by
    unfold State.busLoad
    rw [locate_low (by omega), hgrant]
    dsimp only
    rw [decide_eq_false hnot, Bool.false_and, Bool.false_and, if_neg Bool.false_ne_true, if_neg (by omega), hview]
  rw [State.withQueue_rerr, State.posted_rerr, State.withQueue_regs, State.posted_regs, State.withQueue_rdata, State.posted_rdata, hload]
  exact ⟨rfl, rfl, rfl⟩

/-! ## The data windows and the engines (R20) -/

/-- A register whose only field is a read-only word: a read answers what it shows and clears nothing. -/
theorem State.rcRead_of_ro (s : State) {a : Nat} {f : Field} (hfields : fieldsOf (.hall a) = [f]) (hro : f.acc = .ro) :
    s.rcRead (.hall a) = s ∧ ∀ w, woMask (fieldsOf (.hall a)) w = w := by
  unfold State.rcRead rcClear woMask
  rw [hfields]
  simp only [List.foldl_cons, List.foldl_nil, hro, reduceCtorEq, if_false]
  exact ⟨rfl, fun _ => trivial⟩

theorem readAct_window {s : State} (hc : s.clocked = true) {a : Nat} {f g : Field} (hfields : fieldsOf (.hall a) = [f]) (hro : f.acc = .ro)
    (hg : g.fits = true)
    (hread : (s.readReg (.hall a)).2 = (s.rcRead (.hall a)).put g ((s.rcRead (.hall a)).fld g + 1)) :
    ∃ t, readAct s (.hall a) = .next t ∧ t.rdata = s.hallView a ∧ t.fld g = (s.fld g + 1) % 2 ^ g.width := by
  refine act_does hc ?_
  obtain ⟨hrc, hmask⟩ := s.rcRead_of_ro hfields hro
  rw [State.withQueue_rdata, State.posted_rdata, State.withQueue_fld, State.posted_fld]
  refine ⟨hmask _, ?_⟩
  rw [hrc] at hread
  show (s.readReg (.hall a)).2.fld g = _
  rw [hread, State.fld_put _ _ _ hg]

theorem exec_planRdDataRead_steps {s : State} (hc : s.clocked = true) :
    ∃ t, exec .planRdDataRead s = .next t ∧ t.rdata = storeWord s.planStore s.planDigest 0x80000 (s.regs.get 0x290).toNat ∧
      t.fld PLAN_RD_ADDR_ADDR = (s.fld PLAN_RD_ADDR_ADDR + 1) % 2 ^ PLAN_RD_ADDR_ADDR.width :=
  readAct_window hc (f := PLAN_RD_DATA_DATA) (by decide +kernel) rfl (by decide) rfl

theorem exec_fwRdDataRead_steps {s : State} (hc : s.clocked = true) :
    ∃ t, exec .fwRdDataRead s = .next t ∧ t.rdata = storeWord s.fwStore s.fwDigest 0x200000 (s.regs.get 0x40050).toNat ∧
      t.fld FW_RD_ADDR_ADDR = (s.fld FW_RD_ADDR_ADDR + 1) % 2 ^ FW_RD_ADDR_ADDR.width :=
  readAct_window hc (f := FW_RD_DATA_DATA) (by decide +kernel) rfl (by decide) rfl

theorem exec_celRdDataRead_steps {s : State} (hc : s.clocked = true) :
    ∃ t, exec .celRdDataRead s = .next t ∧ t.rdata = s.hallView 0x73040 ∧
      t.fld CEL_RD_ADDR_ADDR = (s.fld CEL_RD_ADDR_ADDR + 1) % 2 ^ CEL_RD_ADDR_ADDR.width :=
  readAct_window hc (f := CEL_RD_DATA_DATA) (by decide +kernel) rfl (by decide) rfl

theorem exec_verify_starts {s : State} (hc : s.clocked = true) :
    ∃ t, exec .verify s = .next t ∧ t.bit ENG_CTRL_DONE = false ∧
      t.attic.verify = some (s.fld PORCH_VSRC_SRC, s.fld PORCH_VSRC_CHUNK) := by
  rw [exec_verify, execVerify]
  refine act_does hc ?_
  have hoff : (((s.off ENG_CTRL_DONE).off ENG_CTRL_TAG_OK).bit ENG_CTRL_DONE) = false := by
    rw [State.bit_off_apart _ _ _ (by decide), State.bit_off_same _ (by decide)]
  have hfld (g : Field) (h1 : ENG_CTRL_DONE.apart g = true) (h2 : ENG_CTRL_TAG_OK.apart g = true) :
      ((s.off ENG_CTRL_DONE).off ENG_CTRL_TAG_OK).fld g = s.fld g := by
    rw [State.fld_off_apart _ _ _ h2, State.fld_off_apart _ _ _ h1]
  rw [State.withQueue_bit, State.posted_bit, State.withQueue_attic, State.posted_attic]
  refine ⟨hoff, ?_⟩
  rw [← hfld PORCH_VSRC_SRC (by decide) (by decide), ← hfld PORCH_VSRC_CHUNK (by decide) (by decide)]
  rfl

theorem exec_verifyDone_ends {s : State} (hc : s.clocked = true) {x : Nat × Nat} (hx : s.attic.verify = some x) :
    ∃ t, exec .verifyDone s = .next t ∧ t.bit ENG_CTRL_DONE = true ∧ t.attic.verify = none := by
  unfold exec execVerifyDone
  rw [hx]
  refine act_does hc ?_
  rw [State.withQueue_bit, State.posted_bit, State.withQueue_attic, State.posted_attic]
  unfold State.verifyEnd
  dsimp only
  rw [State.bit_putB_apart _ _ _ _ (by decide), State.bit_on _ (by decide) (by decide)]
  exact ⟨rfl, rfl⟩

/-- A node's write sets its limits, no higher than its ceiling; the enforcement that follows writes other registers. -/
theorem State.limit_writeNode (s : State) (v : Word) (hceil : (s.pl.node 0).ceiling < 65536) :
    (s.writeNode (.hall 0x240) .root v).regs.fld (BUD_LIMIT_LIMIT_W.shift 0x240) =
      min (s.pl.node 0).ceiling (s.clampField (.hall 0x240) (BUD_LIMIT_LIMIT_W.shift 0x240) ((BUD_LIMIT_LIMIT_W.shift 0x240).of v)) := by
  have hfields : fieldsOf (.hall 0x240) = [BUD_LIMIT_LIMIT_W.shift 0x240, BUD_LIMIT_AVAIL_W.shift 0x240] := by decide +kernel
  have hwrite : s.writeNode (.hall 0x240) .root v = (s.put (BUD_LIMIT_LIMIT_W.shift 0x240) (min (s.pl.node 0).ceiling
      (s.clampField (.hall 0x240) (BUD_LIMIT_LIMIT_W.shift 0x240) ((BUD_LIMIT_LIMIT_W.shift 0x240).of v)))).enforce := by
    unfold State.writeNode
    rw [hfields]
    rfl
  rw [hwrite]
  refine (State.enforce_spared (o := .reg (BUD_LIMIT_LIMIT_W.shift 0x240)) (by decide +kernel) (.refl _ _)).fld.trans ?_
  rw [State.fld_put _ _ _ (by decide)]
  exact Nat.mod_eq_of_lt (lt_of_le_of_lt (min_le_left _ _) hceil)

/-- What a register holds after the write of a command that ends it without an error. -/
theorem State.regs_committed (s u : State) : ((s.posted { u with rerr := false }).withQueue s.pending).regs = u.regs := by
  rw [State.withQueue_regs, State.posted_regs]

theorem exec_budgetLimitWrite_limits {s : State} (hb : s.booted = true) (v : Word) (hceil : (s.pl.node 0).ceiling < 65536) :
    ∃ t, exec (.budgetLimitWrite .hall 0x240 v) s = .next t ∧ t.nodeFld .root BUD_LIMIT_LIMIT_W =
      min (s.pl.node 0).ceiling
        (s.clampField (.hall 0x240) (BUD_LIMIT_LIMIT_W.shift 0x240) ((BUD_LIMIT_LIMIT_W.shift 0x240).of v)) := by
  have hnode : nodeAt (.hall 0x240) = some (.root, 0) := rfl
  rw [exec_budgetLimitWrite]
  unfold execBudgetLimitWrite
  rw [locate_low (by decide)]
  dsimp only
  rw [hnode]
  refine act_does (by simp [hb]) ?_
  rw [State.nodeFld, State.regs_committed]
  exact s.limit_writeNode v hceil

/-- Settles O16: writes, sub-word reads, the data windows and the engines' starts. -/
theorem registerAccesses : Obligations.RegisterAccesses :=
  ⟨fun _ _ v hc ha hword => exec_registerWrite_hallData hc ha hword v,
    fun _ v hc hr => exec_registerWrite_wakeAlarm hc hr v,
    fun _ r _ size v hc h => exec_registerWrite_noPlace hc r size v h,
    fun _ _ _ _ v hp h => exec_registerWrite_stage hp v h,
    fun _ _ _ _ v hp ha h => exec_registerWrite_narrow hp v ha h,
    fun _ _ _ hc ha hsize _ => exec_subwordRead_low hc ha hsize,
    fun _ => exec_planRdDataRead_steps, fun _ => exec_fwRdDataRead_steps, fun _ => exec_celRdDataRead_steps,
    fun _ => exec_verify_starts, fun _ _ hc => exec_verifyDone_ends hc,
    fun _ v hb hceil => exec_budgetLimitWrite_limits hb v hceil⟩

end Sys2Proof.Machine

namespace Sys2Proof.Machine

set_option Elab.async false

/-! ## What a store leaves of the debug port

A store of the debug port reaches its own line only through STEP (an error bit) and through a reset of the chip. -/

/-- The two states have the debug port in common. -/
structure State.KeepsDbg (s t : State) : Prop where
  dbg : t.dbg = s.dbg

/-- The command leaves the debug port. -/
def Out.KeepsDbg (s : State) (x : Out) : Prop := ∀ t, x = .next t → s.KeepsDbg t

section
variable {s0 s : State}

theorem State.KeepsDbg.refl : State.KeepsDbg s s := ⟨rfl⟩
theorem State.KeepsDbg.of_spares {t : State} (h : State.KeepsDbg s0 s) (hs : State.Spares (.part .dbg) s t) : State.KeepsDbg s0 t :=
  ⟨Eq.trans hs.same h.dbg⟩
theorem Out.KeepsDbg.of_spares {x : Out} (h : Out.Spares (.part .dbg) s x) : Out.KeepsDbg s x := fun t ht => .of_spares .refl (h t ht)
theorem State.KeepsDbg.ite {c : Prop} [Decidable c] {a b : State} (ha : State.KeepsDbg s0 a) (hb : State.KeepsDbg s0 b) :
    State.KeepsDbg s0 (if c then a else b) := by
  split
  · exact ha
  · exact hb
theorem State.KeepsDbg.foldl {α : Type} {l : List α} {f : State → α → State}
    (hf : ∀ t a, State.KeepsDbg s0 t → State.KeepsDbg s0 (f t a)) (h : State.KeepsDbg s0 s) : State.KeepsDbg s0 (l.foldl f s) :=
  List.foldlRecOn (motive := State.KeepsDbg s0) l f h fun t ht a _ => hf t a ht
theorem Out.KeepsDbg.act {c : Bool} {f : State → State} (h : State.KeepsDbg s (f s)) : Out.KeepsDbg s (act s c f) := by
  rintro t ⟨rfl⟩
  split
  · exact ⟨h.dbg⟩
  · exact .refl

theorem State.KeepsDbg.onRoom (h : State.KeepsDbg s0 s) (p : Fin 48) (f : Room → Room) : State.KeepsDbg s0 (s.onRoom p f) := ⟨h.dbg⟩
theorem State.KeepsDbg.onRoomE (h : State.KeepsDbg s0 s) (p : Fin 48) (f : Env → Room → Room) : State.KeepsDbg s0 (s.onRoomE p f) := ⟨h.dbg⟩
theorem State.KeepsDbg.onLand (h : State.KeepsDbg s0 s) (b : Fin 6) (f : Landing → Landing) : State.KeepsDbg s0 (s.onLand b f) := ⟨h.dbg⟩
theorem State.KeepsDbg.onWing (h : State.KeepsDbg s0 s) (w : Fin 2) (f : Wing → Wing) : State.KeepsDbg s0 (s.onWing w f) := ⟨h.dbg⟩
theorem State.KeepsDbg.put (h : State.KeepsDbg s0 s) (f : Field) (v : Nat) : State.KeepsDbg s0 (s.put f v) := ⟨h.dbg⟩
theorem State.KeepsDbg.accessErr (h : State.KeepsDbg s0 s) (r : Req) : State.KeepsDbg s0 (s.accessErr r) := ⟨h.dbg⟩
theorem State.KeepsDbg.writeReg (h : State.KeepsDbg s0 s) (l : Loc) (v : Word) : State.KeepsDbg s0 (s.writeReg l v) :=
  State.KeepsDbg.of_spares h (State.writeReg_spared (by decide) (.refl _ _))
theorem State.KeepsDbg.writeNode (h : State.KeepsDbg s0 s) (l : Loc) (n : Node) (v : Word) : State.KeepsDbg s0 (s.writeNode l n v) :=
  State.KeepsDbg.of_spares h (State.writeNode_spared (by decide) (.refl _ _))
theorem State.KeepsDbg.writeTmr (h : State.KeepsDbg s0 s) (k : TmrBlock) (n reg : Nat) (v : Word) :
    State.KeepsDbg s0 (s.writeTmr k n reg v) := State.KeepsDbg.of_spares h (State.writeTmr_spared (by decide) (.refl _ _))

/-- A command that a write runs and that leaves the port. -/
theorem State.KeepsDbg.via (h : State.KeepsDbg s0 s) {f : State → Out} (hf : Out.KeepsDbg s (f s)) :
    State.KeepsDbg s0 (s.via f) := by
  unfold State.via
  split
  next t ht => exact ⟨(hf t ht).dbg.trans h.dbg⟩
  next => exact h

theorem State.KeepsDbg.writeForce (h : State.KeepsDbg s0 s) (p : Fin 48) (on : Bool) : State.KeepsDbg s0 (s.writeForce p on) := by
  unfold State.writeForce
  exact (h.onRoom _ _).ite (.ite (State.KeepsDbg.of_spares (h.onRoomE _ _) (State.gangLevel_spared (by decide) (.refl _ _))) (State.KeepsDbg.of_spares (h.onRoomE _ _) (State.gangLevel_spared (by decide) (.refl _ _))))

theorem State.KeepsDbg.recover (h : State.KeepsDbg s0 s) (p : Fin 48) : State.KeepsDbg s0 (s.recover p) := by
  unfold State.recover
  exact h.ite (.ite (h.onRoomE _ _) (h.onRoom _ _))

theorem execEnableSet_keepsDbg (p : Fin 48) : Out.KeepsDbg s (execEnableSet p s) :=
  .act (.ite .refl (.ite (.onRoomE .refl _ _) (.onRoom .refl _ _)))
theorem execEnableClear_keepsDbg (p : Fin 48) : Out.KeepsDbg s (execEnableClear p s) :=
  .act (.ite .refl (.ite (.onRoomE .refl _ _) (.onRoom .refl _ _)))

theorem State.KeepsDbg.writeCtrl (h : State.KeepsDbg s0 s) (p : Fin 48) (v : Word) : State.KeepsDbg s0 (s.writeCtrl p v) := by
  unfold State.writeCtrl
  extract_lets l en fs s1 s2 s3
  have h1 : State.KeepsDbg s0 s1 := h.ite (h.via (by
    split
    · exact execEnableSet_keepsDbg p
    · exact execEnableClear_keepsDbg p))
  have h2 : State.KeepsDbg s0 s2 := h1.ite (h1.writeForce p fs)
  have h3 : State.KeepsDbg s0 s3 := .ite (State.KeepsDbg.of_spares h2 (State.restartCore_spared (by decide) (.refl _ _))) h2
  exact (h3.recover p).ite h3

theorem State.KeepsDbg.untrip (h : State.KeepsDbg s0 s) (p k : Nat) : State.KeepsDbg s0 (s.untrip p k) := by
  unfold State.untrip
  exact State.KeepsDbg.foldl (fun _ _ h => h.onRoomE _ _) h

theorem State.KeepsDbg.writeThrFlag (h : State.KeepsDbg s0 s) (p : Fin 48) (v : Word) : State.KeepsDbg s0 (s.writeThrFlag p v) := by
  unfold State.writeThrFlag
  exact State.KeepsDbg.foldl (fun _ _ h => h.ite ((h.writeReg _ _).untrip _ _)) h

theorem execCoefApply_keepsDbg (p : Fin 48) : Out.KeepsDbg s (execCoefApply p s) := .act (.onRoom .refl _ _)

theorem State.KeepsDbg.writeConv (h : State.KeepsDbg s0 s) (p : Fin 48) (o : Nat) (v : Word) : State.KeepsDbg s0 (s.writeConv p o v) := by
  have hw := h.writeReg (.roomReg p.val o) v
  unfold State.writeConv
  exact .ite (.ite (hw.via (execCoefApply_keepsDbg p)) hw)
    (.ite (h.writeThrFlag p v) (.ite (hw.onRoomE _ _) (.ite (hw.onRoom _ _) hw)))

theorem State.KeepsDbg.writeHold (h : State.KeepsDbg s0 s) (p : Fin 48) (on : Bool) : State.KeepsDbg s0 (s.writeHold p on) := by
  unfold State.writeHold
  exact .ite (h.onRoom _ _) (.ite (State.KeepsDbg.of_spares (h.onRoom _ _) (State.restartCore_spared (by decide) (.refl _ _))) h)

theorem State.KeepsDbg.writePortBud (h : State.KeepsDbg s0 s) (p : Fin 48) (v : Word) : State.KeepsDbg s0 (s.writePortBud p v) :=
  (h.writeReg _ _).onRoomE _ _

/-- A command that changes one Room leaves the debug port. -/
theorem act_onRoomE_keepsDbg {c : Bool} (p : Fin 48) (f : Env → Room → Room) :
    Out.KeepsDbg s (act s c fun s => s.onRoomE p f) := .act (.onRoomE .refl _ _)
theorem act_onRoom_keepsDbg {c : Bool} (p : Fin 48) (f : Room → Room) :
    Out.KeepsDbg s (act s c fun s => s.onRoom p f) := .act (.onRoom .refl _ _)

theorem execRxPop_keepsDbg (p : Fin 48) : Out.KeepsDbg s (execRxPop p s) := act_onRoom_keepsDbg p _
theorem execVdmPop_keepsDbg (p : Fin 48) : Out.KeepsDbg s (execVdmPop p s) := act_onRoom_keepsDbg p _
theorem execTxRelease_keepsDbg (p : Fin 48) : Out.KeepsDbg s (execTxRelease p s) := act_onRoomE_keepsDbg p _
theorem execTxWithdraw_keepsDbg (p : Fin 48) : Out.KeepsDbg s (execTxWithdraw p s) := act_onRoom_keepsDbg p _
theorem execAmsEnd_keepsDbg (p : Fin 48) : Out.KeepsDbg s (execAmsEnd p s) := act_onRoomE_keepsDbg p _
theorem execHvdmSend_keepsDbg (p : Fin 48) : Out.KeepsDbg s (execHvdmSend p s) := act_onRoomE_keepsDbg p _
theorem execCableDisc_keepsDbg (p : Fin 48) : Out.KeepsDbg s (execCableDisc p s) := act_onRoomE_keepsDbg p _
theorem execCableReset_keepsDbg (p : Fin 48) : Out.KeepsDbg s (execCableReset p s) := act_onRoomE_keepsDbg p _
theorem execHardReset_keepsDbg (p : Fin 48) : Out.KeepsDbg s (execHardReset p s) := act_onRoomE_keepsDbg p _
theorem execErrorRecovery_keepsDbg (p : Fin 48) : Out.KeepsDbg s (execErrorRecovery p s) := act_onRoomE_keepsDbg p _
theorem execTrig_keepsDbg (p : Fin 48) : Out.KeepsDbg s (execTrig p s) := act_onRoomE_keepsDbg p _
theorem execVconnEnWrite_keepsDbg (p : Fin 48) (en : Bool) : Out.KeepsDbg s (execVconnEnWrite p en s) := .act (.onRoomE .refl p _)
theorem execVsetWrite_keepsDbg (p : Fin 48) (mv : Nat) : Out.KeepsDbg s (execVsetWrite p mv s) := .act (.onRoomE .refl p _)
theorem execGrantAsk_keepsDbg (p : Fin 48) (w : Nat) : Out.KeepsDbg s (execGrantAsk p w s) := .act (.onRoomE .refl p _)

theorem State.KeepsDbg.writePdCmd (h : State.KeepsDbg s0 s) (p : Fin 48) (core : Bool) (v : Word) :
    State.KeepsDbg s0 (s.writePdCmd p core v) := by
  have hrun {s : State} (h : State.KeepsDbg s0 s) (f : Field) (ok : Bool) (g : State → Out) (hg : Out.KeepsDbg s (g s)) :
      State.KeepsDbg s0 (if f.of v = 1 && ok then s.via g else s) := .ite (h.via hg) h
  unfold State.writePdCmd
  extract_lets run s1 s2 s3 s4 s5 s6 s7 s8
  have h1 : State.KeepsDbg s0 s1 := hrun h PD_CMD_RX_POP core (execRxPop p) (execRxPop_keepsDbg p)
  have h2 : State.KeepsDbg s0 s2 := hrun h1 PD_CMD_VDM_POP true (execVdmPop p) (execVdmPop_keepsDbg p)
  have h3 : State.KeepsDbg s0 s3 := hrun h2 PD_CMD_TX_RELEASE core (execTxRelease p) (execTxRelease_keepsDbg p)
  have h4 : State.KeepsDbg s0 s4 := hrun h3 PD_CMD_TX_WITHDRAW core (execTxWithdraw p) (execTxWithdraw_keepsDbg p)
  have h5 : State.KeepsDbg s0 s5 := hrun h4 PD_CMD_AMS_END core (execAmsEnd p) (execAmsEnd_keepsDbg p)
  have h6 : State.KeepsDbg s0 s6 := hrun h5 PD_CMD_HVDM_SEND (!core) (execHvdmSend p) (execHvdmSend_keepsDbg p)
  have h7 : State.KeepsDbg s0 s7 := hrun h6 PD_CMD_CABLE_DISC true (execCableDisc p) (execCableDisc_keepsDbg p)
  have h8 : State.KeepsDbg s0 s8 := hrun h7 PD_CMD_CABLE_RESET core (execCableReset p) (execCableReset_keepsDbg p)
  exact hrun h8 PD_CMD_HARD_RESET true (execHardReset p) (execHardReset_keepsDbg p)

theorem State.KeepsDbg.writeShared (h : State.KeepsDbg s0 s) (p : Fin 48) (core : Bool) (o : Nat) (v : Word) :
    State.KeepsDbg s0 (s.writeShared p core o v) := by
  have hw := h.writeReg (.roomReg p.val o) v
  unfold State.writeShared
  exact .ite (.ite (h.via (execErrorRecovery_keepsDbg p)) h) (.ite ((h.onRoom _ _).via (execVconnEnWrite_keepsDbg p _))
    (.ite (h.writePdCmd p core v) (.ite (.ite (h.via (execVsetWrite_keepsDbg p _)) hw) (.ite (hw.onRoomE _ _)
    (.ite (h.via (execGrantAsk_keepsDbg p _)) (.ite (.ite (hw.via (execTrig_keepsDbg p)) hw) (.ite (h.writeTmr _ _ _ _) hw)))))))

theorem State.KeepsDbg.storeRoom (h : State.KeepsDbg s0 s) (r : Req) (p : Fin 48) (o : Nat) (v : Word) :
    State.KeepsDbg s0 (s.storeRoom r p o v) := by
  have hroom : State.KeepsDbg s0 (s.writeRoom p o v) := by
    unfold State.writeRoom
    exact .ite (h.writeCtrl p v) (.ite (h.writeConv p o v) (.ite (h.writePortBud p v) (.ite (h.writeHold p _) (h.writeShared p _ o v))))
  unfold State.storeRoom
  exact .ite h (.ite (.ite h (h.writeConv p o v)) (.ite ((h.onRoom _ _).accessErr r) (.ite (.ite (h.writeReg _ v) h) hroom)))

theorem execHsEnSet_keepsDbg (b : Fin 6) : Out.KeepsDbg s (execHsEnSet b s) :=
  .act (State.KeepsDbg.of_spares (.onLand .refl _ _) (State.slotSettle_spared (by decide) (.refl _ _)))
theorem execHsEnClear_keepsDbg (b : Fin 6) : Out.KeepsDbg s (execHsEnClear b s) :=
  .act (State.KeepsDbg.of_spares (.onLand .refl _ _) (State.slotSettle_spared (by decide) (.refl _ _)))
theorem execHsLimitWrite_keepsDbg (b : Fin 6) (v : Word) : Out.KeepsDbg s (execHsLimitWrite b v s) :=
  .act (.onLand .refl _ _)

theorem State.KeepsDbg.hsRecover (h : State.KeepsDbg s0 s) (b : Fin 6) : State.KeepsDbg s0 (s.hsRecover b) := by
  unfold State.hsRecover
  exact .ite h (.ite (h.onLand _ _) (.ite (h.onLand _ _) (State.KeepsDbg.of_spares (State.KeepsDbg.of_spares h (State.slotTo_spared (by decide) (.refl _ _))) (State.slotSettle_spared (by decide) (.refl _ _)))))

/-- A write of a node's limits, or of any other register. -/
theorem State.KeepsDbg.node (h : State.KeepsDbg s0 s) (l : Loc) (v : Word) :
    State.KeepsDbg s0 (match nodeAt l with | some n => s.writeNode l n.1 v | none => s.writeReg l v) := by
  split
  · exact h.writeNode _ _ _
  · exact h.writeReg _ _

theorem State.KeepsDbg.storeLand (h : State.KeepsDbg s0 s) (b : Fin 6) (o : Nat) (v : Word) : State.KeepsDbg s0 (s.storeLand b o v) := by
  unfold State.storeLand
  have hen {s : State} (h : State.KeepsDbg s0 s) (en : Prop) [Decidable en] : State.KeepsDbg s0 (s.via fun s => if en then execHsEnSet b s else execHsEnClear b s) := h.via (by
    split
    · exact execHsEnSet_keepsDbg b
    · exact execHsEnClear_keepsDbg b)
  dsimp only
  have hctrl (en was : Prop) [Decidable en] [Decidable was] := h.ite (c := was) (hen h en)
  exact .ite (.ite ((hctrl _ _).hsRecover b) (hctrl _ _))
    (.ite (h.via (execHsLimitWrite_keepsDbg b v)) (.ite (h.writeTmr _ _ _ _) (h.node _ v)))

theorem State.KeepsDbg.storeWing (h : State.KeepsDbg s0 s) (w : Fin 2) (o : Nat) (v : Word) : State.KeepsDbg s0 (s.storeWing w o v) := by
  unfold State.storeWing
  exact .ite (.ite (State.KeepsDbg.of_spares h (State.restartWing_spared (by decide +kernel) (.refl _ _))) h) (h.node _ v)

theorem State.KeepsDbg.panLevels (h : State.KeepsDbg s0 s) : State.KeepsDbg s0 s.panLevels := ((h.put _ _).put _ _).put _ _

theorem State.KeepsDbg.storePan (h : State.KeepsDbg s0 s) (a : Nat) (v : Word) : State.KeepsDbg s0 (s.storePan a v) := by
  have hw := h.writeReg (.hall a) v
  unfold State.storePan
  extract_lets l was s1 en s2 s3 s4 t1
  have h2 : State.KeepsDbg s0 s2 := hw.ite ((hw.put _ _).via (.of_spares (execPanEnWrite_out (by decide +kernel))))
  have h3 : State.KeepsDbg s0 s3 := .ite (h2.via (.of_spares (execStart_out (by decide +kernel)))) h2
  have h4 : State.KeepsDbg s0 s4 := .ite (State.KeepsDbg.of_spares h3 (State.panRestart_spared (by decide +kernel) (.refl _ _))) h3
  have hlevels : State.KeepsDbg s0 t1 := .panLevels (.ite (hw.put _ _) hw)
  exact h.ite (.ite (State.KeepsDbg.of_spares h4 (State.enforce_spared (by decide +kernel) (.refl _ _)))
    (State.KeepsDbg.of_spares (.ite (State.KeepsDbg.of_spares hlevels (State.refreshChg_spared (by decide +kernel) (.refl _ _))) hlevels) (State.enforce_spared (by decide +kernel) (.refl _ _))))

theorem State.KeepsDbg.writePair (h : State.KeepsDbg s0 s) (v : Word) : State.KeepsDbg s0 (s.writePair v) := by
  have hw := h.writeReg (.hall 0x60000) v
  unfold State.writePair
  exact .ite (State.KeepsDbg.of_spares (State.KeepsDbg.of_spares (.ite (State.KeepsDbg.of_spares hw (State.markStale_spared (by decide) (.refl _ _))) hw) (State.checkRelease_spared (by decide) (.refl _ _))) (State.refreshStale_spared (by decide) (.refl _ _))) h

end

/-- No access of the debug port is in progress. -/
def State.NoAccess (s : State) : Prop := s.dbg.acc = none

section
variable {s s0 : State}

theorem State.KeepsDbg.noAccess (h : State.KeepsDbg s0 s) (h0 : s0.NoAccess) : s.NoAccess := (congrArg Dbg.acc h.dbg).trans h0

theorem State.NoAccess.ite {c : Prop} [Decidable c] {a b : State} (ha : a.NoAccess) (hb : b.NoAccess) :
    State.NoAccess (if c then a else b) := by
  split
  · exact ha
  · exact hb

theorem State.NoAccess.put (h : s.NoAccess) (f : Field) (v : Nat) : (s.put f v).NoAccess := h
theorem State.NoAccess.of_tws (h : s.NoAccess) (x : List TwPort) : State.NoAccess { s with tws := x } := h

/-- A reset of the chip ends the access. -/
theorem State.noAccess_chipReset (cause : Field) : (s.chipReset cause).NoAccess := by
  have hmain : s.mainReset.NoAccess := by
    unfold State.mainReset
    rfl
  unfold State.chipReset
  extract_lets hob s1 s2
  have h1 : s1.NoAccess := hmain.put cause 1
  have h2 : s2.NoAccess := .ite (h1.put _ _) h1
  exact .ite h2 (h2.of_tws _)

theorem State.NoAccess.writePwr (h : s.NoAccess) (v : Word) : (s.writePwr v).NoAccess := by
  unfold State.writePwr
  exact .ite (.ite (State.noAccess_chipReset _) h) ((State.KeepsDbg.of_spares .refl (State.reqState_spared (by decide) (.refl _ _))).noAccess h)

theorem State.NoAccess.onCoreOf (h : s.NoAccess) (c : CoreId) (f : Core → Core) : (s.onCoreOf c f).NoAccess := by
  cases c <;> exact h

theorem State.NoAccess.stepCore (h : s.NoAccess) (n : Nat) : (s.stepCore n).NoAccess := by
  unfold State.stepCore
  exact .ite (h.onCoreOf _ _) h

theorem State.KeepsDbg.writeHalts {α : Type} (h : State.KeepsDbg s0 s) (l : List α) (c : α → CoreId) (b : α → Bool) :
    State.KeepsDbg s0 (l.foldl (fun s i => s.writeHalt (c i) (b i)) s) :=
  State.KeepsDbg.foldl (fun _ _ h => State.KeepsDbg.of_spares h (State.writeHalt_spared (by decide) (.refl _ _))) h

theorem State.NoAccess.writeDbg (h : s.NoAccess) (o : Nat) (v : Word) : (s.writeDbg o v).NoAccess := by
  have hw (l : Loc) : (s.writeReg l v).NoAccess := (State.KeepsDbg.refl.writeReg l v).noAccess h
  have hctrl : (s.writeReg (.hall 0x74004) v).NoAccess := hw _
  unfold State.writeDbg
  extract_lets s1 s2
  have h2 : s2.NoAccess := .ite ((State.KeepsDbg.of_spares .refl (State.snapTrigger_spared (by decide) (.refl _ _))).noAccess hctrl) hctrl
  exact .ite ((State.KeepsDbg.refl.writeHalts _ _ _).noAccess h)
    (.ite ((State.KeepsDbg.of_spares (State.KeepsDbg.refl.writeHalts _ _ _) (State.writeHalt_spared (by decide) (.refl _ _))).noAccess h) (.ite (h.stepCore _)
    (.ite (.ite (h.onCoreOf _ _) h) (.ite (.ite (State.noAccess_chipReset _) h2) (hw _)))))

theorem clear_fuseStartC_dbg (op : Nat) : Cell.clear (State.fuseStartC op) (.part .dbg) = true := by
  unfold State.fuseStartC
  split <;> rfl

theorem State.NoAccess.storeHall (h : s.NoAccess) (r : Req) (a : Nat) (v : Word) : (s.storeHall r a v).NoAccess := by
  have hk {t : State} (ht : State.Spares (.part .dbg) s t) : t.NoAccess := (State.KeepsDbg.refl.of_spares ht).noAccess h
  have hw : State.KeepsDbg s (s.writeReg (.hall a) v) := State.KeepsDbg.refl.writeReg _ _
  have hwn : (s.writeReg (.hall a) v).NoAccess := hw.noAccess h
  have hthen {t : State} (ht : State.Spares (.part .dbg) (s.writeReg (.hall a) v) t) : t.NoAccess := (hw.of_spares ht).noAccess h
  unfold State.storeHall
  extract_lets l s1
  have hsnap : (s1.snapTrig).NoAccess := hthen (State.snapTrig_spared (by decide) (.refl _ _))
  have hpost : (s1.postGo).NoAccess := hthen (State.postGo_spared (by decide) (.refl _ _))
  have htc (m : Fin 2) : (s1.tcGo m).NoAccess := hthen (State.tcGo_spared rfl (.refl _ _))
  have hattic : State.NoAccess (if a = 0x40004 then s.setLocks (ATTIC_LOCK_LOCK.of v)
      else if a = 0x40008 then
        (if s.fuseMay r then
          (if Sys2Proof.Machine.within 1 (ATTIC_CMD_OP.of v) 5 then s.fuseStart (ATTIC_CMD_OP.of v) (s.bit ATTIC_STAT_VPP_OK) true else s)
         else s.accessErr r)
      else if 0x40020 ≤ a && a < 0x40040 then { s with regs := s.regs.set a v }
      else if a = 0x40058 then (if ENG_CTRL_VERIFY.of v = 1 then s.verifyStart else s)
      else s.writeReg l v) :=
    .ite (hk (State.setLocks_spared (by decide) (.refl _ _)))
      (.ite (.ite (.ite (hk (State.fuseStart_spared (clear_fuseStartC_dbg _) (.refl _ _))) h) h)
        (.ite h (.ite (.ite (hk (State.verifyStart_spared (by decide) (.refl _ _))) h) hwn)))
  have hjnl : State.NoAccess (if JNL_CMD_OP.of v = 1 then s.jAppend s.jWin else if JNL_CMD_OP.of v = 2 then s.bootrec true else s) :=
    .ite (hk (State.jAppend_spared (by decide) (.refl _ _))) (.ite (hk (State.bootrec_spared (by decide) (.refl _ _))) h)
  exact .ite (.ite h (.ite (h.writeDbg _ v) h))
    (.ite (hk (State.busMode_spared (by decide) (.refl _ _)))
    (.ite (hthen (State.fireEval_spared (by decide) (.refl _ _)))
    (.ite (h.writePwr v)
    (.ite (.ite (hk (State.loadTb_spared (by decide) (.refl _ _))) h)
    (.ite (.ite hsnap hwn)
    (.ite hattic
    (.ite ((State.KeepsDbg.refl.storePan a v).noAccess h)
    (.ite ((State.KeepsDbg.refl.writePair v).noAccess h)
    (.ite (.ite hwn h)
    (.ite (.ite h (.ite hpost hwn))
    (.ite (.ite h (.ite (htc _) hwn))
    (.ite (.ite h h)
    (.ite (.ite h (.ite hjnl hwn))
    ((State.KeepsDbg.refl.node _ v).noAccess h))))))))))))))

theorem State.NoAccess.regWrite (h : s.NoAccess) (r : Req) (l : Loc) (addr : Nat) (v : Word) : (s.regWrite r l addr v).NoAccess := by
  have hstore : (s.storeReg r l v).NoAccess := by
    unfold State.storeReg
    split
    · exact (State.KeepsDbg.refl.storeRoom r _ _ v).noAccess h
    · exact (State.KeepsDbg.refl.storeLand _ _ v).noAccess h
    · exact (State.KeepsDbg.refl.storeWing _ _ v).noAccess h
    · exact h.storeHall r _ v
    · exact h
  unfold State.regWrite
  exact .ite h (.ite h (.ite h
    ((State.KeepsDbg.refl.of_spares (State.noteWrite_spared (by decide) (.refl _ _))).noAccess hstore)))

/-- A store starts no access of the debug port. -/
theorem State.NoAccess.busStore (h : s.NoAccess) (r : Req) (addr size : Nat) (v : Word) : (s.busStore r addr size v).NoAccess := by
  have hgrant : (s.busGrant r (locate addr)).NoAccess :=
    (State.KeepsDbg.refl.of_spares (State.busGrant_spared (by decide) (.refl _ _))).noAccess h
  unfold State.busStore
  extract_lets g
  have hg : g.NoAccess := hgrant
  refine .ite hg ?_
  split
  · exact hg
  · exact hg
  · exact .ite hg hg
  · exact hg
  · exact hg
  · exact .ite hg hg
  · refine .ite (hg.regWrite _ _ _ _) ?_
    split
    · exact .ite hg hg
    · exact hg

end

/-! ## The operations on the line (R605 to R612) -/

/-- A header that is sent well is decoded as its operation and tag. -/
theorem dbgOpOf_header : ∀ (op : BitVec 4) (tag : BitVec 2), op ∈ dbgOps →
    dbgOpOf (2#2 ++ op ++ tag ++ dbgChk op tag) = some op ∧ dbgTag (2#2 ++ op ++ tag ++ dbgChk op tag) = tag := by decide +kernel

section
variable {s : State} {h : BitVec 12}

theorem State.dbgTakes_of (hs : s.serving = true) {op : BitVec 4} (hop : dbgOpOf h = some op) : s.dbgTakes op h = true := by
  rw [State.dbgTakes, hs, hop, Bool.true_and, decide_eq_true rfl]

/-- A free port serves, and bars no operation. -/
theorem State.serving_of_dbgFree (hf : s.dbgFree = true) : s.serving = true ∧ s.dbgBars = respOk ∧ s.dbg.acc = none := by
  simp only [State.dbgFree, Bool.and_eq_true, Bool.not_eq_true', Option.isNone_iff_eq_none] at hf
  obtain ⟨⟨⟨⟨hs, hd⟩, herr⟩, hchk⟩, hacc⟩ := hf
  refine ⟨hs, ?_, hacc⟩
  rw [State.dbgBars, hd, herr, hchk, hacc]
  rfl

/-- What an operation with a data word and its CRC does on a free port. -/
theorem State.dbgWr_free (hf : s.dbgFree = true) (data : Word) (f : State → State) :
    s.dbgWr h data (dbgCrc data) f =
      if s.dbg.lastWr = some ((dbgTag h).toNat, (dbgCrc data).toNat) then s.respond h respOk none
      else (f (s.respond h respOk none)).onDbg fun d => { d with lastWr := some ((dbgTag h).toNat, (dbgCrc data).toNat) } := by
  obtain ⟨-, hbars, -⟩ := State.serving_of_dbgFree hf
  have hcrc : (dbgCrc data != dbgCrc data) = false := bne_self_eq_false _
  unfold State.dbgWr State.dbgOp State.dbgPerform
  rw [if_pos hbars]
  dsimp only
  rw [hcrc, if_neg Bool.false_ne_true]
  simp only [decide_true, Bool.true_and, decide_eq_true_eq]
  rfl

theorem exec_idcode_answers (hs : s.serving = true) (hop : dbgOpOf h = some 1) :
    ∃ t, exec (.idcode h) s = .next t ∧ t.butLinks = ({ s with dbg := { s.dbg with
      out := dbgSends (dbgTag h) 6 (some s.idcode) } } : State).butLinks := by
  rw [exec_idcode, execIdcode]
  exact act_butLinks (fun s => s.respond h respOk (some s.idcode)) (State.dbgTakes_of hs hop)

theorem exec_rdStat_answers (hs : s.serving = true) (hop : dbgOpOf h = some 2) :
    ∃ t, exec (.rdStat h) s = .next t ∧ t.butLinks = ({ s with dbg := { s.dbg with
      out := dbgSends (dbgTag h) 6 (some s.dbgStat) } } : State).butLinks := by
  rw [exec_rdStat, execRdStat]
  exact act_butLinks (fun s => s.respond h respOk (some s.dbgStat)) (State.dbgTakes_of hs hop)

theorem exec_dbgAbort_ends (hs : s.serving = true) (hop : dbgOpOf h = some 9) (data : Word) :
    ∃ t, exec (.dbgAbort h data (dbgCrc data)) s = .next t ∧ t.butLinks = ({ s with dbg := { s.dbg with
      out := dbgSends (dbgTag h) 6 none, err := false, chkErr := false, acc := none,
      lastWr := some ((dbgTag h).toNat, (dbgCrc data).toNat) } } : State).butLinks := by
  rw [exec_dbgAbort, execDbgAbort]
  refine act_does (State.dbgTakes_of hs hop) ?_
  have hcrc : (dbgCrc data != dbgCrc data) = false := bne_self_eq_false _
  rw [State.butLinks_posted_withQueue, State.dbgPerform, hcrc, if_neg Bool.false_ne_true]
  rfl

theorem State.dbgPerform_badCrc (s : State) {data : Word} {crc : BitVec 8} (hcrc : crc ≠ dbgCrc data) (f : State → State) :
    s.dbgPerform h data crc f = s.onDbg fun d => { d with chkErr := true } := by
  unfold State.dbgPerform
  exact if_pos (bne_iff_ne.2 hcrc)

theorem exec_dbgAbort_badCrc (hs : s.serving = true) (hop : dbgOpOf h = some 9) {data : Word} {crc : BitVec 8} (hcrc : crc ≠ dbgCrc data) :
    ∃ t, exec (.dbgAbort h data crc) s = .next t ∧ t.butLinks = ({ s with dbg := { s.dbg with
      out := dbgSends (dbgTag h) 6 none, chkErr := true } } : State).butLinks := by
  rw [exec_dbgAbort, execDbgAbort]
  refine act_does (State.dbgTakes_of hs hop) ?_
  rw [State.butLinks_posted_withQueue, State.dbgPerform_badCrc _ hcrc]
  rfl

theorem exec_chkErr_marks (hs : s.serving = true) (hop : dbgOpOf h = none) :
    ∃ t, exec (.chkErr h) s = .next t ∧ t.butLinks = ({ s with dbg := { s.dbg with chkErr := true, out := [] } } : State).butLinks := by
  rw [exec_chkErr, execChkErr]
  exact act_butLinks (fun s => s.onDbg fun d => { d with chkErr := true, out := [] }) (by rw [hs, hop]; rfl)

theorem exec_rdBuf_answers (hf : s.dbgFree = true) (hop : dbgOpOf h = some 5) :
    ∃ t, exec (.rdBuf h) s = .next t ∧ t.butLinks = ({ s with dbg := { s.dbg with
      out := dbgSends (dbgTag h) 6 (some (s.regs.get 0x74044)) } } : State).butLinks := by
  obtain ⟨hs, hbars, -⟩ := State.serving_of_dbgFree hf
  rw [exec_rdBuf, execRdBuf]
  refine act_does (State.dbgTakes_of hs hop) ?_
  rw [State.butLinks_posted_withQueue, State.dbgOp, if_pos hbars]
  rfl

theorem State.fld_dbgNext (s : State) : s.dbgNext.fld DBG_ADDR_ADDR = (s.fld DBG_ADDR_ADDR + 4) % 2 ^ 32 := by
  rw [State.dbgNext, State.fld_put _ _ _ (by decide)]
  exact Nat.mod_mod _ _

theorem exec_rdData_starts (hf : s.dbgFree = true) (hop : dbgOpOf h = some 4) :
    ∃ t, exec (.rdData h) s = .next t ∧ t.fld DBG_ADDR_ADDR = (s.fld DBG_ADDR_ADDR + 4) % 2 ^ 32 ∧
      t.dbg = { s.dbg with acc := some (none, s.fld DBG_ADDR_ADDR),
                           out := dbgSends (dbgTag h) 6 (some (s.regs.get 0x74044)) } := by
  obtain ⟨hs, hbars, -⟩ := State.serving_of_dbgFree hf
  rw [exec_rdData, execRdData]
  refine act_does (State.dbgTakes_of hs hop) ?_
  rw [State.withQueue_fld, State.posted_fld, State.withQueue_dbg, State.posted_dbg, State.dbgOp, if_pos hbars, State.fld_dbgNext]
  exact ⟨rfl, rfl⟩

theorem exec_wrAddr_sets (hf : s.dbgFree = true) {data : Word} (hnew : s.dbg.lastWr ≠ some ((dbgTag h).toNat, (dbgCrc data).toNat))
    (hop : dbgOpOf h = some 3) :
    ∃ t, exec (.wrAddr h data (dbgCrc data)) s = .next t ∧ t.fld DBG_ADDR_ADDR = data.toNat / 4 * 4 ∧
      t.dbg = { s.dbg with out := dbgSends (dbgTag h) 6 none, lastWr := some ((dbgTag h).toNat, (dbgCrc data).toNat) } := by
  obtain ⟨hs, -, -⟩ := State.serving_of_dbgFree hf
  rw [exec_wrAddr, execWrAddr]
  refine act_does (State.dbgTakes_of hs hop) ?_
  have hlt : data.toNat / 4 * 4 < 2 ^ DBG_ADDR_ADDR.width := lt_of_le_of_lt (Nat.div_mul_le_self _ _) data.isLt
  rw [State.withQueue_fld, State.posted_fld, State.withQueue_dbg, State.posted_dbg, State.dbgWr_free hf, if_neg hnew]
  exact ⟨(State.fld_put _ _ _ (by decide)).trans (Nat.mod_eq_of_lt hlt), rfl⟩

theorem exec_wrData_starts (hf : s.dbgFree = true) {data : Word} (hnew : s.dbg.lastWr ≠ some ((dbgTag h).toNat, (dbgCrc data).toNat))
    (hop : dbgOpOf h = some 6) :
    ∃ t, exec (.wrData h data (dbgCrc data)) s = .next t ∧ t.fld DBG_ADDR_ADDR = (s.fld DBG_ADDR_ADDR + 4) % 2 ^ 32 ∧
      t.dbg = { s.dbg with out := dbgSends (dbgTag h) 6 none, acc := some (some data, s.fld DBG_ADDR_ADDR),
                           lastWr := some ((dbgTag h).toNat, (dbgCrc data).toNat) } := by
  obtain ⟨hs, -, -⟩ := State.serving_of_dbgFree hf
  rw [exec_wrData, execWrData]
  refine act_does (State.dbgTakes_of hs hop) ?_
  rw [State.withQueue_fld, State.posted_fld, State.withQueue_dbg, State.posted_dbg, State.dbgWr_free hf, if_neg hnew]
  exact ⟨State.fld_dbgNext _, rfl⟩

theorem exec_wrData_repeats (hf : s.dbgFree = true) {data : Word} (hop : dbgOpOf h = some 6)
    (hold : s.dbg.lastWr = some ((dbgTag h).toNat, (dbgCrc data).toNat)) :
    ∃ t, exec (.wrData h data (dbgCrc data)) s = .next t ∧
      t.butLinks = ({ s with dbg := { s.dbg with out := dbgSends (dbgTag h) 6 none } } : State).butLinks := by
  obtain ⟨hs, -, -⟩ := State.serving_of_dbgFree hf
  rw [exec_wrData, execWrData]
  refine act_does (State.dbgTakes_of hs hop) ?_
  rw [State.butLinks_posted_withQueue, State.dbgWr_free hf, if_pos hold]
  rfl

theorem exec_wrData_badCrc (hf : s.dbgFree = true) {data : Word} {crc : BitVec 8} (hop : dbgOpOf h = some 6) (hcrc : crc ≠ dbgCrc data) :
    ∃ t, exec (.wrData h data crc) s = .next t ∧ t.butLinks = ({ s with dbg := { s.dbg with
      out := dbgSends (dbgTag h) 6 none, chkErr := true } } : State).butLinks := by
  obtain ⟨hs, hbars, -⟩ := State.serving_of_dbgFree hf
  rw [exec_wrData, execWrData]
  refine act_does (State.dbgTakes_of hs hop) ?_
  rw [State.butLinks_posted_withQueue, State.dbgWr, State.dbgOp, if_pos hbars, decide_eq_false hcrc, Bool.false_and,
    if_neg Bool.false_ne_true, State.dbgPerform_badCrc _ hcrc]
  rfl

theorem exec_wrData_denied (hs : s.serving = true) {data : Word} {crc : BitVec 8} (hop : dbgOpOf h = some 6) (hd : s.debugOn = false) :
    ∃ t, exec (.wrData h data crc) s = .next t ∧
      t.butLinks = ({ s with dbg := { s.dbg with out := dbgSends (dbgTag h) 12 none } } : State).butLinks := by
  rw [exec_wrData, execWrData]
  refine act_does (State.dbgTakes_of hs hop) ?_
  have hbars : s.dbgBars = 12 := by
    unfold State.dbgBars
    rw [hd]
    rfl
  rw [State.butLinks_posted_withQueue, State.dbgWr, State.dbgOp, hbars, if_neg (by decide)]
  rfl

/-- The mark of an access error leaves the access. -/
theorem State.NoAccess.dbgErr (h : s.NoAccess) : s.dbgErr.NoAccess := by
  unfold State.dbgErr
  exact .ite h h

theorem State.fld_dbgErr (s : State) (f : Field) : s.dbgErr.fld f = s.fld f := by
  unfold State.dbgErr
  split <;> rfl

theorem exec_dbgAccessDone_writes (hs : s.serving = true) {v : Word} {a : Nat} (hacc : s.dbg.acc = some (some v, a)) :
    ∃ t, exec .dbgAccessDone s = .next t ∧ t.dbg.acc = none ∧ ∀ u,
      u = ({ s with dbg := { s.dbg with acc := none } } : State).busStore .dbg a 4 v →
      t.butLinks = (if u.rerr then { u with dbg := { u.dbg with err := true } } else u : State).butLinks := by
  rw [exec_dbgAccessDone]
  unfold execDbgAccessDone
  rw [hacc]
  refine act_does hs ?_
  have hfree : ({ s with dbg := { s.dbg with acc := none } } : State).NoAccess := rfl
  rw [State.withQueue_dbg, State.posted_dbg, State.butLinks_posted_withQueue]
  refine ⟨(hfree.busStore .dbg a 4 v).dbgErr, fun u hu => ?_⟩
  subst hu
  rfl

theorem exec_dbgAccessDone_reads (hs : s.serving = true) {a : Nat} (hacc : s.dbg.acc = some (none, a)) :
    ∃ t, exec .dbgAccessDone s = .next t ∧ t.dbg.acc = none ∧ ∀ u,
      u = ({ s with dbg := { s.dbg with acc := none } } : State).busLoad .dbg a 4 →
      t.fld DBG_RBUF_DATA = (if u.rerr then 0 else u.rdata.toNat) ∧ t.dbg.err = (s.dbg.err || u.rerr) := by
  rw [exec_dbgAccessDone]
  unfold execDbgAccessDone
  rw [hacc]
  refine act_does hs ?_
  have hload : State.KeepsDbg { s with dbg := { s.dbg with acc := none } }
      (({ s with dbg := { s.dbg with acc := none } } : State).busLoad .dbg a 4) :=
    State.KeepsDbg.refl.of_spares (State.busLoad_spared (by decide) (.refl _ _))
  rw [State.withQueue_dbg, State.posted_dbg, State.withQueue_fld, State.posted_fld]
  dsimp only [State.onDbg]
  generalize ({ s with dbg := { s.dbg with acc := none } } : State).busLoad .dbg a 4 = u at hload ⊢
  have hnone : u.NoAccess := hload.noAccess rfl
  have herr : u.dbg.err = s.dbg.err := by rw [hload.dbg]
  refine ⟨(hnone.put _ _).dbgErr, ?_⟩
  intro w hw
  rw [hw]
  have hlt : (if u.rerr then 0 else u.rdata.toNat) < 2 ^ DBG_RBUF_DATA.width := by
    split
    · decide
    · exact u.rdata.isLt
  have hfld : (u.put DBG_RBUF_DATA (if u.rerr then 0 else u.rdata.toNat)).dbgErr.fld DBG_RBUF_DATA =
      if u.rerr then 0 else u.rdata.toNat := by
    rw [State.fld_dbgErr, State.fld_put _ _ _ (by decide), Nat.mod_eq_of_lt hlt]
  refine ⟨hfld, ?_⟩
  unfold State.dbgErr
  cases hr : u.rerr with
  | false =>
    rw [if_neg (by rw [State.put, hr]; decide), Bool.or_false]
    exact herr
  | true =>
    rw [if_pos (by rw [State.put, hr]), Bool.or_true]
    rfl

end

/-- Settles O46: the operations on the line of the debug port. -/
theorem debugLine : Obligations.DebugLine :=
  ⟨dbgOpOf_header,
    fun _ _ hs => ⟨exec_idcode_answers hs, exec_rdStat_answers hs, fun hop data => exec_dbgAbort_ends hs hop data,
      fun hop _ _ hcrc => exec_dbgAbort_badCrc hs hop hcrc, exec_chkErr_marks hs,
      act_butLinks (fun s => s.onDbg Dbg.lineEnd) hs, act_butLinks (fun s => s.onDbg Dbg.lineEnd) hs⟩,
    fun _ _ hf => ⟨exec_rdBuf_answers hf, exec_rdData_starts hf,
      fun _ hnew => ⟨exec_wrAddr_sets hf hnew, exec_wrData_starts hf hnew⟩,
      fun _ hop hold => exec_wrData_repeats hf hop hold, fun _ _ hop hcrc => exec_wrData_badCrc hf hop hcrc⟩,
    fun _ _ _ _ hs hop hd => exec_wrData_denied hs hop hd,
    fun _ _ _ hs hacc => exec_dbgAccessDone_writes hs hacc, fun _ _ hs hacc => exec_dbgAccessDone_reads hs hacc⟩

end Sys2Proof.Machine

namespace Sys2Proof.Machine

set_option Elab.async false

/-! ## The pulses of a command (R512, R515) -/

/-- A pulse sets its bit of its copy. -/
theorem Attic.copy_pulse (x : Attic) (f : Fuse) (b : Bool) (w : Nat) :
    (x.pulse f).copy b w = x.copy b w ||| if f.copyB = b ∧ f.word = w then BitVec.ofNat 32 (2 ^ f.bit) else 0 := by
  have hset (m : Store 32) : (m.set f.word (m.get f.word ||| BitVec.ofNat 32 (2 ^ f.bit))).get w =
      m.get w ||| if f.word = w then BitVec.ofNat 32 (2 ^ f.bit) else 0 := by
    by_cases hw : f.word = w
    · rw [hw, Store.get_set_same, if_pos rfl]
    · rw [Store.get_set_ne _ _ hw, if_neg hw]
      exact BitVec.or_zero.symm
  unfold Attic.pulse Attic.copy
  dsimp only
  cases hb : f.copyB <;> cases b
  · exact (hset x.a).trans (by simp only [true_and, Bool.false_eq_true, if_false])
  · exact (by simp)
  · exact (by simp)
  · exact (hset x.b).trans (by simp only [true_and, if_true])

theorem getLsbD_two_pow {i : Nat} (k : Nat) (hi : i < 32) : (BitVec.ofNat 32 (2 ^ k)).getLsbD i = decide (k = i) := by
  rw [BitVec.getLsbD_ofNat, Nat.testBit_two_pow]
  simp [hi]

/-- After a list of pulses a bit reads 1 where it did or where a pulse has set it. -/
theorem Attic.getLsbD_pulses (l : List Fuse) (x : Attic) (b : Bool) (w : Nat) {i : Nat} (hi : i < 32) :
    ((l.foldl Attic.pulse x).copy b w).getLsbD i =
      ((x.copy b w).getLsbD i || l.any fun f => f.copyB = b && f.word = w && f.bit = i) := by
  induction l generalizing x with
  | nil => simp
  | cons f l ih =>
    have hone : (if f.copyB = b ∧ f.word = w then BitVec.ofNat 32 (2 ^ f.bit) else 0).getLsbD i =
        (decide (f.copyB = b) && decide (f.word = w) && decide (f.bit = i)) := by
      by_cases h : f.copyB = b ∧ f.word = w
      · rw [if_pos h, getLsbD_two_pow _ hi, decide_eq_true h.1, decide_eq_true h.2]
        rfl
      · have hzero : (0 : Word).getLsbD i = false := BitVec.getLsbD_zero
        rw [if_neg h, hzero]
        have hno : (decide (f.copyB = b) && decide (f.word = w)) = false := by simpa using h
        rw [hno, Bool.false_and]
    rw [List.foldl_cons, ih, Attic.copy_pulse, BitVec.getLsbD_or, hone, List.any_cons, Bool.or_assoc]

/-- The pulses of PROGRAM: both copies of every bit of its data, but for those that pass already. -/
theorem Attic.mem_pulses_program {x : Attic} {c : FuseCmd} (hop : c.op = 1) (f : Fuse) :
    f ∈ x.pulses c ↔ f.word = c.word ∧ f.bit < 32 ∧ c.pdata.getLsbD f.bit = true ∧ x.passes f = false := by
  obtain ⟨fw, fb, fc⟩ := f
  have hnamed : x.named c = (bitsOf c.pdata).map fun i => (c.word, i) := by
    unfold Attic.named
    rw [hop]
    rfl
  rw [Attic.pulses, hnamed, List.mem_filter]
  simp only [List.mem_flatMap, List.mem_map, bitsOf, List.mem_filter, List.mem_range, List.mem_cons, List.not_mem_nil, or_false,
    Bool.not_eq_true']
  constructor
  · rintro ⟨⟨_, ⟨i, ⟨hi, hbit⟩, rfl⟩, hf⟩, hpass⟩
    rcases hf with hf | hf <;> cases hf <;> exact ⟨rfl, hi, hbit, hpass⟩
  · rintro ⟨rfl, hi, hbit, hpass⟩
    refine ⟨⟨(c.word, fb), ⟨fb, ⟨hi, hbit⟩, rfl⟩, ?_⟩, hpass⟩
    cases fc
    · exact .inl rfl
    · exact .inr rfl

/-- PROGRAM sets the bits of its data in both copies of its word, and no bit of another word. -/
theorem Attic.copy_program {x : Attic} {c : FuseCmd} (hop : c.op = 1) (b : Bool) (w : Nat) :
    ((x.pulses c).foldl Attic.pulse x).copy b w = if w = c.word then x.copy b w ||| c.pdata else x.copy b w := by
  apply BitVec.eq_of_getLsbD_eq
  intro i hi
  rw [Attic.getLsbD_pulses _ _ _ _ hi]
  by_cases hw : w = c.word
  · subst hw
    rw [if_pos rfl, BitVec.getLsbD_or]
    cases hx : (x.copy b c.word).getLsbD i with
    | true => rfl
    | false =>
      rw [Bool.false_or, Bool.false_or, Bool.eq_iff_iff, List.any_eq_true]
      have hpass : x.passes ⟨c.word, i, b⟩ = false := by
        unfold Attic.passes
        dsimp only
        rw [hx, Bool.false_and]
      constructor
      · rintro ⟨f, hf, hat⟩
        simp only [Bool.and_eq_true, decide_eq_true_eq] at hat
        exact hat.2 ▸ ((Attic.mem_pulses_program hop f).1 hf).2.2.1
      · intro hbit
        exact ⟨⟨c.word, i, b⟩, (Attic.mem_pulses_program hop _).2 ⟨rfl, hi, hbit, hpass⟩, by simp⟩
  · rw [if_neg hw]
    have hnone : ((x.pulses c).any fun f => f.copyB = b && f.word = w && f.bit = i) = false := by
      rw [List.any_eq_false]
      intro f hf hat
      simp only [Bool.and_eq_true, decide_eq_true_eq] at hat
      exact hw (hat.1.2.symm.trans ((Attic.mem_pulses_program hop f).1 hf).1)
    rw [hnone, Bool.or_false]

/-- MARGIN pulses nothing. -/
theorem Attic.pulses_margin {x : Attic} {c : FuseCmd} (hop : c.op = 2) : x.pulses c = [] := by
  have hnamed : x.named c = [] := by
    unfold Attic.named
    rw [hop]
    rfl
  rw [Attic.pulses, hnamed]
  rfl

/-! ## The start and the refusal of a command (R513 to R519) -/

section
variable {s : State}

/-- The supply bit is no operand of a command, and no reason to refuse one. -/
theorem State.fuseRefusal_vpp (s : State) (b : Bool) (c : FuseCmd) (vpp vdd : Bool) :
    (s.putB ATTIC_STAT_VPP_OK b).fuseRefusal c vpp vdd = s.fuseRefusal c vpp vdd := by
  have hfld (g : Field) (h : ATTIC_STAT_VPP_OK.apart g = true) : (s.putB ATTIC_STAT_VPP_OK b).fld g = s.fld g :=
    State.fld_putB_apart _ _ _ _ h
  unfold State.fuseRefusal State.fuseLocked State.lcForbids State.regionBad State.rangeBad State.locked
  rw [hfld ATTIC_LOCK_LOCK (by decide), hfld ATTIC_STAT_LIFECYCLE (by decide), hfld ATTIC_STAT_KEY_VALID (by decide),
    hfld ATTIC_STAT_SECRET_VALID (by decide)]
  rfl

theorem State.fuseCmd_vpp (s : State) (b : Bool) (op : Nat) : (s.putB ATTIC_STAT_VPP_OK b).fuseCmd op = s.fuseCmd op := by
  have hfld (g : Field) (h : ATTIC_STAT_VPP_OK.apart g = true) : (s.putB ATTIC_STAT_VPP_OK b).fld g = s.fld g :=
    State.fld_putB_apart _ _ _ _ h
  have hget (a : Nat) (h : ATTIC_STAT_VPP_OK.off ≠ a) : (s.putB ATTIC_STAT_VPP_OK b).regs.get a = s.regs.get a :=
    Regs.get_put_ne _ _ _ _ h
  have hsecret : ((List.range 8).map fun i => (s.putB ATTIC_STAT_VPP_OK b).regs.get (0x40020 + 4 * i)) =
      (List.range 8).map fun i => s.regs.get (0x40020 + 4 * i) := by
    refine List.map_congr_left fun i _ => hget _ ?_
    show 0x40000 ≠ _
    omega
  unfold State.fuseCmd
  rw [hfld ATTIC_ADDR_WORD (by decide), hfld ATTIC_ADDR_CTR (by decide), hfld ATTIC_ADDR_VALUE (by decide),
    hfld ATTIC_ADDR_SEL (by decide), hget 0x40010 (by decide), hsecret]

/-- A command that nothing refuses runs. -/
theorem State.fuseStart_runs {op : Nat} {vpp vdd : Bool} (hok : s.fuseRefusal (s.fuseCmd op) vpp vdd = 0) :
    s.fuseStart op vpp vdd = { ((s.putB ATTIC_STAT_VPP_OK vpp).on ATTIC_STAT_BUSY) with
      attic := { s.attic with cmd := some (s.fuseCmd op) } } := by
  unfold State.fuseStart
  extract_lets s1 c code
  have hcode : code = 0 := by
    rw [← hok, ← s.fuseRefusal_vpp vpp, ← s.fuseCmd_vpp vpp]
  have hcmd : c = s.fuseCmd op := s.fuseCmd_vpp vpp op
  rw [if_pos hcode, hcmd]
  rfl

/-- The Hall may give every command. -/
theorem State.fuseWrite_runs {op : Nat} {vpp vdd : Bool} (hok : s.fuseRefusal (s.fuseCmd op) vpp vdd = 0) :
    (s.fuseWrite .hall op vpp vdd).bit ATTIC_STAT_BUSY = true ∧ (s.fuseWrite .hall op vpp vdd).rerr = false ∧
      (s.fuseWrite .hall op vpp vdd).attic = { s.attic with cmd := some (s.fuseCmd op) } := by
  have hmay : s.fuseMay .hall = true := rfl
  rw [State.fuseWrite, hmay, if_pos rfl, State.fuseStart_runs hok]
  exact ⟨State.bit_on_same _ (by decide) (by decide), rfl, rfl⟩

theorem act_fuseWrite_runs (hc : s.clocked = true) {op : Nat} {vpp vdd : Bool} (hok : s.fuseRefusal (s.fuseCmd op) vpp vdd = 0) :
    ∃ t, act s s.clocked (fun s => s.fuseWrite .hall op vpp vdd) = .next t ∧ t.bit ATTIC_STAT_BUSY = true ∧ t.rerr = false ∧
      t.attic = { s.attic with cmd := some (s.fuseCmd op) } := by
  refine act_does hc ?_
  rw [State.withQueue_bit, State.posted_bit, State.withQueue_rerr, State.posted_rerr, State.withQueue_attic, State.posted_attic]
  exact State.fuseWrite_runs hok

theorem State.fuseRefusal_free {op : Nat} (h : s.fuseFree op = true) : s.fuseRefusal (s.fuseCmd op) true true = 0 := by
  simp only [State.fuseFree, Bool.and_eq_true, Bool.not_eq_true', Option.isNone_iff_eq_none] at h
  obtain ⟨⟨⟨⟨hnone, hlock⟩, hlc⟩, hregion⟩, hrange⟩ := h
  unfold State.fuseRefusal
  rw [hnone, hlock, hlc, hregion, hrange]
  simp

theorem State.fuseRefusal_margin (h : s.attic.cmd = none) (vpp vdd : Bool) : s.fuseRefusal (s.fuseCmd 2) vpp vdd = 0 := by
  have hop : (s.fuseCmd 2).op = 2 := rfl
  unfold State.fuseRefusal
  rw [h, hop]
  rfl

theorem exec_program_starts (hc : s.clocked = true) (h : s.fuseFree 1 = true) :
    ∃ t, exec (.program .hall true true) s = .next t ∧ t.bit ATTIC_STAT_BUSY = true ∧ t.rerr = false ∧
      t.attic = { s.attic with cmd := some (s.fuseCmd 1) } :=
  act_fuseWrite_runs hc (State.fuseRefusal_free h)

/-- What a start leaves, without its error flag. -/
theorem started_of {x : Out} {op : Nat} (h : ∃ t, x = .next t ∧ t.bit ATTIC_STAT_BUSY = true ∧ t.rerr = false ∧
      t.attic = { s.attic with cmd := some (s.fuseCmd op) }) :
    ∃ t, x = .next t ∧ t.bit ATTIC_STAT_BUSY = true ∧ t.attic = { s.attic with cmd := some (s.fuseCmd op) } := by
  obtain ⟨t, hx, hbusy, -, hattic⟩ := h
  exact ⟨t, hx, hbusy, hattic⟩

theorem exec_margin_starts (hc : s.clocked = true) (h : s.attic.cmd = none) :
    ∃ t, exec (.margin .hall) s = .next t ∧ t.bit ATTIC_STAT_BUSY = true ∧
      t.attic = { s.attic with cmd := some (s.fuseCmd 2) } := by
  rw [exec_margin, execMargin]
  refine act_does hc ?_
  obtain ⟨hbusy, -, hattic⟩ := State.fuseWrite_runs (State.fuseRefusal_margin h (s.bit ATTIC_STAT_VPP_OK) true)
  rw [State.withQueue_bit, State.posted_bit, State.withQueue_attic, State.posted_attic]
  exact ⟨hbusy, hattic⟩

theorem exec_advance_starts (hc : s.clocked = true) (h : s.fuseFree 3 = true) :
    ∃ t, exec (.advance .hall true true) s = .next t ∧ t.bit ATTIC_STAT_BUSY = true ∧
      t.attic = { s.attic with cmd := some (s.fuseCmd 3) } :=
  started_of (act_fuseWrite_runs hc (State.fuseRefusal_free h))

theorem exec_progSecret_starts (hc : s.clocked = true) (h : s.fuseFree 4 = true) :
    ∃ t, exec (.progSecret .hall true true) s = .next t ∧ t.bit ATTIC_STAT_BUSY = true ∧
      t.attic = { s.attic with cmd := some (s.fuseCmd 4) } :=
  started_of (act_fuseWrite_runs hc (State.fuseRefusal_free h))

theorem exec_lifecycle_starts (hc : s.clocked = true) (h : s.fuseFree 5 = true) :
    ∃ t, exec (.lifecycle .hall true true) s = .next t ∧ t.bit ATTIC_STAT_BUSY = true ∧
      t.attic = { s.attic with cmd := some (s.fuseCmd 5) } :=
  started_of (act_fuseWrite_runs hc (State.fuseRefusal_free h))

/-! ## Refusals -/

theorem State.fuseResult_shows (s : State) {code op : Nat} (hcode : code < 16) (hop : op < 8) :
    (s.fuseResult code op 0).fld ATTIC_RESULT_RESULT = code ∧ (s.fuseResult code op 0).fld ATTIC_RESULT_OP = op ∧
      (s.fuseResult code op 0).bit ATTIC_RESULT_DONE = true ∧ (s.fuseResult code op 0).fld ATTIC_RESULT_PULSES = 0 := by
  unfold State.fuseResult
  rw [State.fld_put_apart _ _ _ _ (by decide), State.fld_on_apart _ _ _ (by decide), State.fld_put_apart _ _ _ _ (by decide),
    State.fld_put _ _ _ (by decide), State.fld_put_apart _ _ _ _ (by decide), State.fld_on_apart _ _ _ (by decide),
    State.fld_put _ _ _ (by decide), State.bit_put_apart _ _ _ _ (by decide), State.bit_on_same _ (by decide) (by decide),
    State.fld_put _ _ _ (by decide)]
  exact ⟨Nat.mod_eq_of_lt hcode, Nat.mod_eq_of_lt hop, rfl, rfl⟩

/-- The words of SEC_IN, cleared. -/
theorem Regs.get_clearSecret (m : Regs) {i : Nat} (hi : i < 8) :
    ((List.range 8).foldl (fun m i => m.set (0x40020 + 4 * i) 0) m : Regs).get (0x40020 + 4 * i) = 0 := by
  have h : ∀ (l : List Nat) (m : Regs), i ∈ l ∨ m.get (0x40020 + 4 * i) = 0 →
      (l.foldl (fun m i => m.set (0x40020 + 4 * i) 0) m : Regs).get (0x40020 + 4 * i) = 0 := by
    intro l
    induction l with
    | nil => rintro m (hl | hm)
             · cases hl
             · exact hm
    | cons j l ih =>
      intro m hm
      refine ih _ ?_
      by_cases hj : i = j
      · subst hj
        exact .inr (Store.get_set_same _ _ _)
      · refine (hm.imp (fun hl => (List.mem_cons.1 hl).resolve_left hj) fun hm => ?_)
        exact (Store.get_set_ne _ _ (by omega)).trans hm
  exact h _ m (.inl (List.mem_range.2 hi))

/-- Without supply a command that would program is refused. -/
theorem State.fuseStart_noVpp {op : Nat} (hop : op ≠ 2) (h : s.attic.cmd = none) (vdd : Bool) :
    s.fuseStart op false vdd =
      if op = 4 then { (s.putB ATTIC_STAT_VPP_OK false).fuseResult 1 op 0 with
        regs := (List.range 8).foldl (fun m i => m.set (0x40020 + 4 * i) 0) ((s.putB ATTIC_STAT_VPP_OK false).fuseResult 1 op 0).regs }
      else (s.putB ATTIC_STAT_VPP_OK false).fuseResult 1 op 0 := by
  have hrefuse : (s.putB ATTIC_STAT_VPP_OK false).fuseRefusal ((s.putB ATTIC_STAT_VPP_OK false).fuseCmd op) false vdd = 1 := by
    have hcmd : ((s.putB ATTIC_STAT_VPP_OK false).fuseCmd op).op = op := rfl
    have hnone : (s.putB ATTIC_STAT_VPP_OK false).attic.cmd = none := h
    unfold State.fuseRefusal
    rw [hnone, hcmd, if_neg hop]
    rfl
  unfold State.fuseStart
  dsimp only
  rw [hrefuse, if_neg (by decide)]

theorem State.fld_noErr (s : State) (f : Field) : ({ s with rerr := false } : State).fld f = s.fld f := rfl
theorem State.bit_noErr (s : State) (f : Field) : ({ s with rerr := false } : State).bit f = s.bit f := rfl

theorem exec_program_noVpp (hc : s.clocked = true) (h : s.attic.cmd = none) (vdd : Bool) :
    ∃ t, exec (.program .hall false vdd) s = .next t ∧ t.attic = s.attic ∧ t.fld ATTIC_RESULT_RESULT = 1 ∧
      t.fld ATTIC_RESULT_OP = 1 ∧ t.bit ATTIC_RESULT_DONE = true ∧ t.fld ATTIC_RESULT_PULSES = 0 := by
  rw [exec_program, execProgram]
  refine act_does hc ?_
  have hmay : s.fuseMay .hall = true := rfl
  have hstart : s.fuseStart 1 false vdd = (s.putB ATTIC_STAT_VPP_OK false).fuseResult 1 1 0 :=
    (State.fuseStart_noVpp (by decide) h vdd).trans (if_neg (by decide))
  rw [State.withQueue_attic, State.posted_attic, State.withQueue_fld, State.posted_fld, State.withQueue_fld, State.posted_fld,
    State.withQueue_bit, State.posted_bit, State.withQueue_fld, State.posted_fld, State.fuseWrite, hmay, if_pos rfl, hstart, State.fld_noErr, State.fld_noErr,
    State.bit_noErr, State.fld_noErr]
  exact ⟨rfl, (s.putB ATTIC_STAT_VPP_OK false).fuseResult_shows (by decide) (by decide)⟩

theorem exec_progSecret_noVpp (hc : s.clocked = true) (h : s.attic.cmd = none) (vdd : Bool) :
    ∃ t, exec (.progSecret .hall false vdd) s = .next t ∧ t.attic = s.attic ∧ t.fld ATTIC_RESULT_RESULT = 1 ∧
      ∀ i < 8, t.regs.get (0x40020 + 4 * i) = 0 := by
  rw [exec_progSecret, execProgSecret]
  refine act_does hc ?_
  have hmay : s.fuseMay .hall = true := rfl
  obtain ⟨hresult, -⟩ := (s.putB ATTIC_STAT_VPP_OK false).fuseResult_shows (code := 1) (op := 4) (by decide) (by decide)
  have hkeep (m : Regs) : ((List.range 8).foldl (fun m i => m.set (0x40020 + 4 * i) 0) m : Regs).fld ATTIC_RESULT_RESULT =
      m.fld ATTIC_RESULT_RESULT :=
    List.foldlRecOn (motive := fun n : Regs => n.fld ATTIC_RESULT_RESULT = m.fld ATTIC_RESULT_RESULT) _ _ rfl fun n hn i _ =>
      (Regs.fld_set_ne n _ _ _ (show 0x40020 + 4 * i ≠ 0x40014 by omega)).trans hn
  rw [State.withQueue_attic, State.posted_attic, State.withQueue_fld, State.posted_fld, State.withQueue_regs, State.posted_regs,
    State.fuseWrite, hmay, if_pos rfl, State.fuseStart_noVpp (by decide) h, if_pos rfl]
  exact ⟨rfl, (hkeep _).trans hresult, fun i hi => Regs.get_clearSecret _ hi⟩

theorem exec_program_denied (hc : s.clocked = true) (n : Fin 2) (vpp vdd : Bool) :
    ∃ t, exec (.program (.hl n) vpp vdd) s = .next t ∧ t.butLinks = ({ s with rerr := true } : State).butLinks := by
  rw [exec_program, execProgram]
  refine act_does hc ?_
  have hmay : s.fuseMay (.hl n) = false := rfl
  have herr : s.accessErr (.hl n) = { s with rerr := true } := by
    unfold State.accessErr
    rw [decide_eq_false (by simp), Bool.or_false]
  rw [State.butLinks_posted_withQueue, State.fuseWrite, hmay, if_neg Bool.false_ne_true, herr]

/-! ## The end of a command (R516, R520) -/

/-- The fuses after an unaborted command are those that its pulses have left. -/
theorem State.fuseEnd_fuses (s : State) (c : FuseCmd) :
    (s.fuseEnd c none []).attic.cmd = none ∧
    (s.fuseEnd c none []).attic.a = ((s.attic.pulses c).foldl Attic.pulse s.attic).a ∧
    (s.fuseEnd c none []).attic.b = ((s.attic.pulses c).foldl Attic.pulse s.attic).b := by
  unfold State.fuseEnd
  extract_lets all done x ws x1 progd weak code x2 s1 s2 s3
  have hx2 : x2.a = x.a ∧ x2.b = x.b := by
    simp only [x2]
    split <;> exact ⟨rfl, rfl⟩
  have hs3 : s3.attic = { x2 with cmd := none } := by
    simp only [s3]
    split <;> rfl
  have hshow : s3.atticShow.attic = { x2 with cmd := none } := hs3
  rw [hshow]
  exact ⟨rfl, hx2⟩

/-- The registers after a command show that it has ended. -/
theorem State.fuseEnd_shows (s : State) (c : FuseCmd) (abort : Option Nat) (bad : List (Nat × Bool × Word)) :
    (s.fuseEnd c abort bad).bit ATTIC_STAT_BUSY = false ∧ (s.fuseEnd c abort bad).bit ATTIC_RESULT_DONE = true := by
  unfold State.fuseEnd
  extract_lets all done x ws x1 progd weak code x2 s1 s2 s3
  have hclear (t : State) (g : Field) (h : ∀ i, 0x40020 + 4 * i ≠ g.off) :
      ({ t with regs := (List.range 8).foldl (fun m i => m.set (0x40020 + 4 * i) 0) t.regs } : State).fld g = t.fld g :=
    List.foldlRecOn (motive := fun n : Regs => n.fld g = t.regs.fld g) _ _ rfl fun n hn i _ =>
      (Regs.fld_set_ne n _ _ _ (h i)).trans hn
  have hs3 (g : Field) (h : ∀ i, 0x40020 + 4 * i ≠ g.off) : s3.fld g = s2.fld g := by
    simp only [s3]
    split
    · exact hclear s2 g h
    · rfl
  have hbusy : s2.fld ATTIC_STAT_BUSY = 0 := by
    simp only [s2, State.fuseResult]
    simp (disch := decide) only [State.fld_put_apart, State.fld_on_apart, State.fld_off]
  have hdone : s2.fld ATTIC_RESULT_DONE = 1 := by
    simp only [s2, State.fuseResult]
    simp (disch := decide) only [State.fld_put_apart, State.fld_on]
  have hshow (g : Field) (h : Cell.clear State.atticShowC (.reg g) = true) : s3.atticShow.fld g = s3.fld g :=
    (State.atticShow_spared h (.refl _ _)).fld
  rw [State.bit_eq, State.bit_eq, hshow _ (by decide), hshow _ (by decide), hs3 _ (fun i => show 0x40020 + 4 * i ≠ 0x40000 by omega),
    hs3 _ (fun i => show 0x40020 + 4 * i ≠ 0x40014 by omega), hbusy, hdone]
  exact ⟨rfl, rfl⟩

theorem exec_atticCommandDone_ends (hc : s.clocked = true) {c : FuseCmd} (h : s.attic.cmd = some c) :
    ∃ t, exec (.atticCommandDone none []) s = .next t ∧ t.attic.cmd = none ∧ t.bit ATTIC_STAT_BUSY = false ∧
      t.bit ATTIC_RESULT_DONE = true ∧
      (c.op = 1 → t.attic.logical c.word = s.attic.logical c.word ||| c.pdata ∧
        ∀ w, w ≠ c.word → t.attic.a.get w = s.attic.a.get w ∧ t.attic.b.get w = s.attic.b.get w) ∧
      (c.op = 2 → t.attic.a = s.attic.a ∧ t.attic.b = s.attic.b) := by
  rw [exec_atticCommandDone]
  unfold execAtticCommandDone
  rw [h]
  refine act_does hc ?_
  obtain ⟨hnone, ha, hb⟩ := s.fuseEnd_fuses c
  obtain ⟨hbusy, hdone⟩ := s.fuseEnd_shows c none []
  rw [State.withQueue_attic, State.posted_attic, State.withQueue_bit, State.posted_bit, State.withQueue_bit, State.posted_bit, ite_self]
  refine ⟨hnone, hbusy, hdone, fun hop => ?_, fun hop => ?_⟩
  · have hcopy (b : Bool) (w : Nat) := Attic.copy_program (x := s.attic) hop b w
    have hA (w : Nat) : (s.fuseEnd c none []).attic.a.get w = if w = c.word then s.attic.a.get w ||| c.pdata else s.attic.a.get w :=
      (congrArg (fun m : Store 32 => m.get w) ha).trans (hcopy false w)
    have hB (w : Nat) : (s.fuseEnd c none []).attic.b.get w = if w = c.word then s.attic.b.get w ||| c.pdata else s.attic.b.get w :=
      (congrArg (fun m : Store 32 => m.get w) hb).trans (hcopy true w)
    refine ⟨?_, fun w hw => ⟨(hA w).trans (if_neg hw), (hB w).trans (if_neg hw)⟩⟩
    rw [Attic.logical, Attic.logical, hA, hB, if_pos rfl, if_pos rfl]
    ext i
    simp
    grind
  · rw [ha, hb, Attic.pulses_margin hop]
    exact ⟨rfl, rfl⟩

/-! ## The locks (R527) -/

theorem lock_of (v : Word) : ATTIC_LOCK_LOCK.of v = v.toNat % 512 := by
  simp only [Field.of, ATTIC_LOCK_LOCK, BitVec.extractLsb'_toNat, Nat.shiftRight_zero]

theorem exec_atticLock_locks (hc : s.clocked = true) {v : Word} (hv : v.getLsbD 8 = false) :
    ∃ t, exec (.atticLock v) s = .next t ∧
      t.fld ATTIC_LOCK_LOCK = (s.fld ATTIC_LOCK_LOCK ||| v.toNat % 512) ∧ t.rerr = false := by
  rw [exec_atticLock, execAtticLock]
  refine act_does hc ?_
  have hset : s.setLocks (ATTIC_LOCK_LOCK.of v) = s.put ATTIC_LOCK_LOCK (s.fld ATTIC_LOCK_LOCK ||| v.toNat % 512) := by
    unfold State.setLocks
    dsimp only
    rw [testBit_lock_of, hv, Bool.false_and, if_neg Bool.false_ne_true, lock_of, Nat.mod_mod]
  have hlt : (s.fld ATTIC_LOCK_LOCK ||| v.toNat % 512) < 2 ^ 9 :=
    Nat.or_lt_two_pow (Regs.fld_lt _ _) (Nat.mod_lt _ (by decide))
  rw [State.withQueue_fld, State.posted_fld, State.withQueue_rerr, State.posted_rerr, hset]
  exact ⟨(State.fld_put _ _ _ (by decide)).trans (Nat.mod_eq_of_lt hlt), rfl⟩

end

/-- Settles O55: the commands of the Attic, their refusals and ends, and the locks. -/
theorem atticCommands : Obligations.AtticCommands :=
  ⟨fun _ => exec_program_starts, fun _ => exec_margin_starts, fun _ => exec_advance_starts, fun _ => exec_progSecret_starts,
    fun _ => exec_lifecycle_starts, fun _ vdd hc h => exec_program_noVpp hc h vdd, fun _ vdd hc h => exec_progSecret_noVpp hc h vdd,
    fun _ n vpp vdd hc => exec_program_denied hc n vpp vdd, fun _ _ hc h => exec_atticCommandDone_ends hc h,
    fun _ _ hc hv => exec_atticLock_locks hc hv,
    fun s v c hc hv hd => by
      obtain ⟨t, hexec, hoff, hcores⟩ := debugLockEndsDebug s v hc hv hd
      exact ⟨t, hexec, hoff, (hcores c).1⟩⟩

end Sys2Proof.Machine
